-- ==== Sys2Proof/Word.lean ====
section
/-! DEFINITION. The word types of the K4 and the shapes of the register map: what a field, a register descriptor and
a unit number are. Registers are 32-bit words (R483); bit 0 is the least significant bit (R7). -/

namespace Sys2Proof

/-- One 32-bit register word (R483). -/
abbrev Word := BitVec 32
/-- One byte. -/
abbrev Byte := BitVec 8
/-- A 64-bit word of memory (R229), or a 64-bit value. -/
abbrev DWord := BitVec 64

/-- Heads H0 to H23, head = actuator × 6 + position (R5). -/
abbrev Head := Fin 24
/-- Read channels CH0 to CH27; CH24 to CH27 are the spares (R5). -/
abbrev Chan := Fin 28
/-- Actuators ACT0 to ACT3; each is one domain. -/
abbrev Act := Fin 4
/-- Control loops 0 to 28 (R170). -/
abbrev LoopN := Fin 29
/-- Berth rings 0 to 127 and the admin ring 128. -/
abbrev Ring := Fin 129
/-- Lighter channels LG0 to LG63. -/
abbrev Lgt := Fin 64
/-- Quay ports QP0 to QP3. -/
abbrev QPort := Fin 4
/-- Decoder engines: quick Q0 to Q31, then deep D0 to D3 (R459 order). -/
abbrev Engine := Fin 36

namespace Machine

/-- A register field: the BAR0 offset of its register and its bits [hi:lo]. -/
structure Fld where
  addr : Nat
  hi : Nat
  lo : Nat
deriving DecidableEq, Repr

/-- The access types of the register tables (chapter 00). -/
inductive Acc where
  | g | rw | ro | rwh | w1c | w1s | rc | wo
deriving DecidableEq, Repr

/-- The clock-domain classes of R495. -/
inductive Dom where
  | local | fast | slow
deriving DecidableEq, Repr

/-- Which kind of unit an instance of a register belongs to, for the presence rule R4. -/
inductive UnitKind where
  | always | chan | head | act | loop | prof | dram | port
deriving DecidableEq, Repr

/-- A field of a register table: its bits, access type, reset value, its range when others are refused, and
whether only FACTORY may write it. -/
structure FieldDesc where
  hi : Nat
  lo : Nat
  acc : Acc
  reset : Nat
  range : Option (Nat × Nat)
  factory : Bool
deriving DecidableEq, Repr

/-- A register of the tables: base offset, stride and count of instances, a second stride and count for a register
that is an array within an instance, glue group (R488), clock-domain class (R495), presence kind and fields. -/
structure RegDesc where
  base : Nat
  stride : Nat
  count : Nat
  sub : Nat
  subCount : Nat
  group : Option Nat
  dom : Dom
  kind : UnitKind
  fields : List FieldDesc
deriving DecidableEq, Repr

end Machine
end Sys2Proof
end

