-- ==== Sys2Proof/Syntax.lean ====
section
/-! DEFINITION. The commands of the K4 block: operand types, and `Instr`, one constructor per row of the table of
operations and events. Operands are what the outside world brings with an event: what a host or a Helm core writes,
what the media, the power stage, the DRAM or a peer drive delivers, and what the clocked hardware measured. -/

namespace Sys2Proof


/-- Who writes a register. -/
inductive Initiator where
  | host | helm
deriving DecidableEq, Repr


/-- Why a heater change falls due (R120): PREHEAT bells ahead of a run of writes, the first bell after the run, or a change
of the head's mode. -/
inductive HeaterWhy where
  | preheat | runEnd | modeChange
deriving DecidableEq, Repr


/-- What a servo channel takes from one servo region (R153, R158, R162): the servo bit decisions in the order in which they pass the head, the first
of them at servo bit `first` from the predicted start of the address mark, and the signed amplitudes of the two bursts. -/
structure WedgeMeas where
  first : Int
  bits : List Bool
  burstN : Int
  burstQ : Int
deriving DecidableEq, Repr

/-- What a fault makes of one loop's slot (R188, R189): the output that lane 0 or lane 1 computes instead, and the lanes whose residues fail. -/
structure LaneFind where
  loop : LoopN
  out0 : Option (BitVec 32)
  out1 : Option (BitVec 32)
  alarm0 : Bool
  alarm1 : Bool
deriving DecidableEq, Repr

/-- Bits that flip in one lane's copy of a coefficient word (R188). -/
structure CoefUpset where
  lane : Fin 2
  loop : LoopN
  set : Fin 17
  word : Fin 96
  mask : BitVec 44
deriving DecidableEq, Repr

/-- The inputs of one loop computation that faults bring: what they make of each slot and of the retry in slot 31, whether each lane passes the
known-answer test, and coefficient words upset since the last computation (R188, R189). -/
structure LaneInputs where
  finds : List LaneFind
  retry : LaneFind
  kat0 : Bool
  kat1 : Bool
  upsets : List CoefUpset
deriving DecidableEq, Repr

/-- What the back-EMF observer gives at a PWM update (R204, R210): whether it is valid, the observed speed in rpm and its direction, the observed
back-EMF in mV, its angle in 1/65,536 electrical turn; and `t`, the time in ns from the last bell edge to the centre of the carrier period in
which the new duties apply. -/
structure ObsMeas where
  valid : Bool
  rpm : Nat
  reverse : Bool
  emf : Nat
  angle : BitVec 16
  t : Nat
deriving DecidableEq, Repr

/-- What SENSE finds (R208). -/
inductive SenseRes where
  | rest
  | forward (rpm : Nat)
  | reverse (rpm : Nat)
  | undetermined
deriving DecidableEq, Repr

/-- How RAMP ends (R207, R209). -/
inductive RampRes where
  | locked | lockedReverse | noLock
deriving DecidableEq, Repr



/-- What the response of a Lighter burst brings (R278, R280): a response of the crossbar, the data of a host read's completions,
or completions with UR or CA status or poisoned. -/
inductive FarAns where
  | buffer
  | data (bytes : List Byte)
  | failed
deriving DecidableEq, Repr


/-- A request to BAR2 (R310): a read of `n` bytes or a write, poisoned or not. -/
inductive Bar2Op where
  | read (addr : BitVec 32) (n : Nat)
  | write (addr : BitVec 32) (data : List (BitVec 8)) (poison : Bool)
deriving DecidableEq, Repr


/-- How a received Quay frame checks (R409). -/
inductive FrameCheck where
  | good | badHeader | badPayload
deriving DecidableEq, Repr

/-- The header fields of a data-class frame (R407). -/
structure QHdr where
  cls : BitVec 2
  ttl : BitVec 5
  dst : BitVec 10
  src : BitVec 10
  seq : BitVec 16
  xid : BitVec 32
  ofs : BitVec 32
deriving DecidableEq, Repr

/-- The fields of a HELLO payload (R410). -/
structure QHello where
  serial : BitVec 64
  addr : BitVec 10
  valid : Bool
  digest : BitVec 64
deriving DecidableEq, Repr

/-- The fields of an LSA payload (R412). -/
structure QLsa where
  origin : BitVec 64
  addr : BitVec 10
  assigned : Bool
  valid : Bool
  seq : BitVec 32
  n0 : BitVec 64
  n1 : BitVec 64
  n2 : BitVec 64
  n3 : BitVec 64
deriving DecidableEq, Repr


/-- A fault source number (R459). -/
abbrev Source := BitVec 9


/-- Where a register access is directed: BAR0, the MSI-X table of BAR4, or configuration space. -/
inductive RegSpace where
  | bar0 | msix | config
deriving DecidableEq, Repr

/-- What a raised source brings with it (R461, R466): the access of its first-error capture, the DETAIL of its watch-log item, the class of the
stage that a CTL_OSC source reports, and FCLK ticks since the bell edge. -/
structure RaiseArgs where
  addr : Option (BitVec 40)
  port : BitVec 4
  channel : BitVec 8
  access : BitVec 3
  detail : BitVec 64
  stage : Fin 5
  fine : BitVec 17
deriving DecidableEq, Repr


/-- The commands of the K4: one constructor per row of the operation and event table. -/
inductive Instr where
  /-- POWER_ON: Applying the supplies releases internal reset once every rail monitor reports good, which leads to a cold start. (R434) -/
  | powerOn
  /-- BROWN_OUT: A rail that stays below 88 % of nominal for 1 µs holds internal reset, and the start that follows recovery is cold. (R510) -/
  | brownOut
  /-- SUPPLY_FAULT: A rail outside 94 % to 106 % of nominal for 50 ns raises the device-scoped supply write-unsafe condition and the SUPPLY source. (R510) -/
  | supplyFault (rail : Fin 15) (high : Bool)
  /-- SUPPLY_FAULT_CLEAR: Once the supplies have been good for 1 ms, the supply write-unsafe condition clears. (R124) -/
  | supplyFaultClear
  /-- PERST_N_ASSERT: PERST_N asserted with the supplies held prepares a warm reset and takes the link down. (R434) -/
  | perstNAssert (prepOk : Bool)
  /-- RESET_N_ASSERT: A low of at least 1 µs on RESET_N prepares a warm reset and starts it. (R434) -/
  | resetNAssert (prepOk : Bool)
  /-- SYS_RESET_CMD: Writing 0x0000_A5C3 to SYS_RESET_CMD starts a warm start. (R434) -/
  | sysResetCmd (w : Initiator) (v : Word) (prepOk : Bool)
  /-- HELM_WATCHDOG_EXPIRY: Expiry of the Helm watchdog period raises HELM_WDOG and then causes a warm start. (R434) -/
  | helmWatchdogExpiry (prepOk : Bool)
  /-- WDOG_KICK: Any write to SYS_WDOG_KICK restarts the watchdog period. (R456) -/
  | wdogKick (w : Initiator)
  /-- RESET_RELEASE: Release of internal reset runs BRING-UP start steps 1 to 8: fuses, ROM boot, image check, PLLs, SRAM, firmware load and the counter. (R437) -/
  | resetRelease (gpio0 : Bool) (flashOk : Bool) (readable : BitVec 2) (cores : BitVec 3)
  /-- DDR_TRAINING_DONE: DDR5 training or restore of the training record completes, and the record is stored after SRAM initialisation. (R267) -/
  | ddrTrainingDone (fail : BitVec 2) (blocks : List (BitVec 8))
  /-- REGISTER_SPACE_OPEN: At the end of BRING-UP the register space opens in SERVICE or FACTORY with media not ready, and the spindle START is issued. (R437) -/
  | registerSpaceOpen (status : List (BitVec 8)) (words : List (BitVec 24 × BitVec 24))
  /-- SYSTEM_AREA_READ_DONE: After the system-area read, write pointers are rebuilt, media binding is checked, and the media becomes ready with destage started. (R47) -/
  | systemAreaReadDone (domains : BitVec 4) (bad : BitVec 8) (scan : List (Nat × List (Option (List (BitVec 8)))))
  /-- ALIVE_SET: Firmware setting SYS_START.ALIVE writes F = 0 and may raise SVC. (R447) -/
  | aliveSet (w : Initiator)
  /-- BUS_GOOD_RESTART: After BUS_UV in BRING-UP, once the bus has been good for 10 ms, the start restarts from step 2. (R429) -/
  | busGoodRestart (flashOk : Bool) (readable : BitVec 2) (cores : BitVec 3)
  /-- BELL_EDGE: The bell timer produces a bell edge and the bell count increments. (R13) -/
  | bellEdge (swept : Nat)
  /-- SPEED_ERROR_CLEAR: Eight consecutive bells within ±0.05 % clear the speed condition. (R124) -/
  | speedErrorClear
  /-- COLLECT_LATE: A sweep not finished by 600 ns leaves records in their slots and raises COLLECT_LATE. (R14) -/
  | collectLate
  /-- TELEMETRY_SNAPSHOT: The Watch takes the telemetry snapshot at 5,400 ns of the bell. (R14) -/
  | telemetrySnapshot
  /-- TELEM_SKIP: A snapshot not finished by its deadline is skipped and counted. (R14) -/
  | telemSkip
  /-- WEDGE_RESULT: The demodulator processes a head's servo region and delivers PE, track, wedge, timing and flags. (R164) -/
  | wedgeResult (h : Head) (m : WedgeMeas)
  /-- SERVO_LOST: A fourth consecutive missed wedge takes the head to LOST, with trim hold and coarse handover. (R167) -/
  | servoLost (h : Head)
  /-- SERVO_REACQUIRED: REACQ valid wedges in LOST return the head to LOCK. (R167) -/
  | servoReacquired (h : Head)
  /-- WRITE_INHIBIT_CLEAR: WRITE_RECOVER consecutive valid wedges end the servo write inhibition. (R167) -/
  | writeInhibitClear (h : Head)
  /-- OFF_TRACK_CLEAR: Two consecutive wedges within OTW_THRESH clear the off-track condition. (R124) -/
  | offTrackClear (h : Head)
  /-- WEDGE_HANDLING: At 1,000 ns the sequencer leaves WWAIT and plans the next data region of each head. (R133) -/
  | wedgeHandling (a : Act)
  /-- SEQ_LATE: A sequencer that has not executed WWAIT by 1,600 ns is stopped, its tentative work is discarded and its lanes run dry. (R134) -/
  | seqLate (a : Act)
  /-- NANO_WORD: A NANO micro word executes a nano word's X and Y ALU slots and its lane operation. (R143) -/
  | nanoWord (a : Act)
  /-- BRANCH: A BRANCH word tests its condition and takes its displacement. (R141) -/
  | branchWord (a : Act)
  /-- JUMP: A JUMP word goes to its target. (R141) -/
  | jumpWord (a : Act)
  /-- CALL: A CALL word pushes PC + 1 and goes to its target. (R141) -/
  | callWord (a : Act)
  /-- NOP: The NOP control word does nothing. (R140) -/
  | nopWord (a : Act)
  /-- RET: The RET control word returns to the popped address. (R141) -/
  | retWord (a : Act)
  /-- WWAIT: WWAIT commits the window's lane changes and events, publishes planned ends and waits. (R133) -/
  | wwait (a : Act)
  /-- LOOP: LOOP decrements LC and branches back while LC is not zero. (R140) -/
  | loopWord (a : Act)
  /-- JUMPV: JUMPV jumps to the address held in a V register. (R140) -/
  | jumpv (a : Act)
  /-- SIGNAL: SIGNAL posts a code to SEQ_n_SIGNAL and interrupts the Helm cores. (R140) -/
  | signal (a : Act)
  /-- SEQ_STOP: The STOP control word stops the engine and clears EN. (R140) -/
  | seqStop (a : Act)
  /-- HOOK_BUDGET_EXHAUSTED: Exhaustion of HOOK_BUDGET while in the open region returns to the caller and sets HOOK_OVER. (R142) -/
  | hookBudgetExhausted (a : Act)
  /-- SEQ_FLUSH: A flush of an actuator cancels unstarted events and returns sectors NOT_STARTED. (R136) -/
  | seqFlush (mask : BitVec 4)
  /-- SEQ_STEP: STEP in FACTORY with EN clear executes one micro word. (R152) -/
  | seqStep (w : Initiator) (a : Act)
  /-- GATE_EVENT_FIRE: A posted gate event falls due and opens or closes a gate, or is suppressed by its conditions. (R138) -/
  | gateEventFire (h : Head) (adc : List (BitVec 8 × BitVec 8))
  /-- RETENTION_COMMIT_START: At bit PRE_LEN − 32 the channel takes a slot, snapshots timing and starts committing. (R62) -/
  | retentionCommitStart (n : Chan) (adc : List (BitVec 8 × BitVec 8))
  /-- SYNC_SEARCH_START: At bit PRE_LEN − 16, or FPRE_LEN − 16 for a later fragment, the correlator starts. (R62) -/
  | syncSearchStart (n : Chan) (adc : List (BitVec 8 × BitVec 8))
  /-- SYNC_WINDOW_END: The sync search window ends and the mark is accepted or missed, with best position recorded. (R59) -/
  | syncWindowEnd (n : Chan) (adc : List (BitVec 8 × BitVec 8)) (bits : BitVec 72) (rescue : BitVec 40)
  /-- SECTOR_END: 8 bits after the last codeword bit, DQM becomes final, the sector-end record is sent and the slot is decided. (R62) -/
  | sectorEnd (n : Chan) (adc : List (BitVec 8 × BitVec 8))
  /-- THERMAL_ASPERITY_START: Samples beyond TA_THRESH for TA_QUAL samples start a thermal asperity span. (R68) -/
  | thermalAsperityStart (n : Chan) (adc : List (BitVec 8 × BitVec 8))
  /-- THERMAL_ASPERITY_END: 32 consecutive samples within TA_THRESH end the thermal asperity span. (R68) -/
  | thermalAsperityEnd (n : Chan) (adc : List (BitVec 8 × BitVec 8))
  /-- LOSS_OF_LOCK: Mean phase error over 256 bits above LOCK_THRESH sets LOL for the sector. (R57) -/
  | lossOfLock (n : Chan) (errs : List Int)
  /-- SELECTIVE_MODE_ENTER: A channel enters selective mode at its next burst boundary after a plane fence or FORCE_SEL. (R74) -/
  | selectiveModeEnter (n : Chan)
  /-- CHANNEL_LATE: A channel missing a latency bound sets LATE, and the sector is abandoned. (R81) -/
  | channelLate (n : Chan)
  /-- SLOT_HOLD_REQUEST: The pool asks to hold a retention slot, which is granted if SEQ matches and the limit allows. (R73) -/
  | slotHoldRequest (n : Chan) (slot : Fin 8) (seq : Word)
  /-- SLOT_HOLD_GRANT: A waiting hold request is granted when a held slot of the channel is released. (R73) -/
  | slotHoldGrant (n : Chan)
  /-- COEF_DATA_WRITE: A write to RCH_n_COEF_DATA is queued, stalled or dropped with COEF_DROP. (R80) -/
  | coefDataWrite (w : Initiator) (n : Chan) (v : Word)
  /-- COEF_QUEUE_APPLY: Queued coefficient writes apply at the next instant the gate is closed, mirrored into the spare bank. (R80) -/
  | coefQueueApply (n : Chan)
  /-- SPARE_SUBST: RCH_SPARE_CMD SUBST moves a head's configuration and pairs to the actuator's spare. (R77) -/
  | spareSubst (w : Initiator) (a : Act) (pos : BitVec 3)
  /-- SPARE_RELEASE: RCH_SPARE_CMD RELEASE returns the head to its working channel at the next gate open. (R77) -/
  | spareRelease (w : Initiator) (a : Act) (pos : BitVec 3)
  /-- SPARE_SHADOW: RCH_SPARE_CMD SHADOW attaches an idle spare to a head for monitoring. (R77) -/
  | spareShadow (w : Initiator) (a : Act) (pos : BitVec 3)
  /-- SPARE_DETACH: RCH_SPARE_CMD detach detaches the spare. (R77) -/
  | spareDetach (w : Initiator) (a : Act) (pos : BitVec 3)
  /-- QUICK_DECODE_START: A sector starts quick decoding on the longest-idle engine, or goes directly to re-alignment. (R87) -/
  | quickDecodeStart
  /-- QUICK_ITERATION_END: A quick iteration ends, and the decode converges, continues or fails at its limit. (R85) -/
  | quickIterationEnd (e : Fin 32) (word : BitVec 37120) (flips : List (BitVec 18))
  /-- REALIGN_TRIAL_END: A re-alignment trial ends, and the sector qualifies for a quick decode or tries the next shift. (R94) -/
  | realignTrialEnd (e : Fin 4)
  /-- DEEP_SLOT_LOAD_END: A deep engine finishes loading a slot with its first detector pass, or is refused if the slot expired. (R95) -/
  | deepSlotLoadEnd (e : Fin 4)
  /-- DEEP_OUTER_ITERATION_END: A deep outer iteration ends, and the decode converges, continues or fails at DEEP_MAX. (R95) -/
  | deepOuterIterationEnd (e : Fin 4) (word : BitVec 37120)
  /-- DEC_TRACE_POP: Reading DEC_TRACE_DATA3 removes the oldest traced record. (R105) -/
  | decTracePop
  /-- STREAM_SECTOR_READY: A write stream finishes reading, checking, encoding and scrambling a sector into its buffer. (R106) -/
  | streamSectorReady (h : Head) (tok : Word)
  /-- SECTOR_REWRITE: A sector whose gate dropped is rewritten at its slot on a later revolution. (R126) -/
  | sectorRewrite (h : Head) (tok : Word)
  /-- PA_FRAME_END: A preamplifier port frame ends and the next frame is chosen by priority. (R118) -/
  | paFrameEnd (a : Act)
  /-- PA_KEEPALIVE: With no frame due for 4 µs, the port sends a keep-alive write to register 0x00. (R116) -/
  | paKeepalive (a : Act)
  /-- PA_READ_RESPONSE: A preamplifier read response arrives and is accepted or repeated on a CRC failure. (R115) -/
  | paReadResponse (a : Act) (data : BitVec 16) (crcOk : Bool)
  /-- PA_MAILBOX_CMD: GO in WRP_n_PA_CMD queues a mailbox frame, or refuses writes to MODE, WC or HTR outside FACTORY. (R119) -/
  | paMailboxCmd (w : Initiator) (h : Head) (addr : Byte) (data : BitVec 16) (rd : Bool) (bcast : Bool)
  /-- HEATER_UPDATE: A heater change falling due, PREHEAT bells ahead or after a write run, is sent as one frame. (R120) -/
  | heaterUpdate (h : Head) (why : HeaterWhy)
  /-- PA_FAULT_N_FALL: PA_a_FAULT_N falling drops every gate of the actuator and queues STATUS reads. (R124) -/
  | paFaultNFall (a : Act)
  /-- PA_FAULT_N_RISE: Release of the line, with STATUS read and causes cleared, ends the preamplifier fault condition. (R124) -/
  | paFaultNRise (a : Act)
  /-- HEAD_CONFIRM_TEST: A confirming MEASURE test decides whether a reader or writer is lost. (R123) -/
  | headConfirmTest (h : Head) (status : BitVec 8)
  /-- LOOP_COMPUTATION: From 1,000 ns the control engine runs the 32 slots of profiles, loops and decisions on two lanes. (R183) -/
  | loopComputation (x : LaneInputs)
  /-- CTL_LATE: A loop computation overrunning 3,560 ns holds outputs and blocks new write gates. (R14) -/
  | ctlLate
  /-- TRIM_AUTO_CLOSE: After a seek, SETTLE_N valid wedges within SETTLE_WIN close the trim loop and end its inhibition. (R176) -/
  | trimAutoClose (h : Head)
  /-- SEEK_TIMEOUT: SETTLED not set within SETTLE_MAX bells causes a reissue, or a retract and reload on the second timeout. (R176) -/
  | seekTimeout (a : Act)
  /-- LOAD_FAIL: No head in LOCK within LOAD_LOCK bells retracts the actuator and sets LOAD_FAIL. (R175) -/
  | loadFail (a : Act)
  /-- TRIM_SAT_SET: Sixteen bells of trim displacement near the stroke set TRIM_SAT and inhibit writes on the head. (R177) -/
  | trimSatSet (h : Head)
  /-- TRIM_SAT_CLEAR: Sixteen bells back within 14 × S clear TRIM_SAT. (R177) -/
  | trimSatClear (h : Head)
  /-- OSC_STAGE_1: Count C reaching OSC_BELLS inhibits writes in the loop's scope. (R187) -/
  | oscStage1 (n : LoopN)
  /-- OSC_STAGE_2: Count C reaching 2 × OSC_BELLS switches the loop to SAFE_SET. (R187) -/
  | oscStage2 (n : LoopN)
  /-- OSC_STAGE_3: Count C reaching 3 × OSC_BELLS trips the loop, with retract or spindle handover. (R187) -/
  | oscStage3 (n : LoopN)
  /-- OSC_COUNT_RESET: OSC_BELLS quiet bells return C to 0 and clear the stage-1 inhibition. (R187) -/
  | oscCountReset (n : LoopN)
  /-- CTL_CLOSE: CLOSE in CTL_n_CMD closes an open loop with states reset, or is refused. (R191) -/
  | ctlClose (w : Initiator) (n : LoopN)
  /-- CTL_OPEN: OPEN in CTL_n_CMD opens the loop where allowed. (R181) -/
  | ctlOpen (w : Initiator) (n : LoopN)
  /-- CTL_RESET_OSC: RESET_OSC returns a TRIPPED loop to OPEN with detector state cleared. (R191) -/
  | ctlResetOsc (w : Initiator) (n : LoopN)
  /-- CTL_COEF_COMMIT: Writing CTL_COEF_HI commits a coefficient word to both lanes, or is refused unless the loop is open. (R181) -/
  | ctlCoefCommit (w : Initiator) (v : Word)
  /-- PROF_GO: GO on PROF_g_CMD plans a jerk-limited profile to the target. (R185) -/
  | profGo (w : Initiator) (g : Fin 5)
  /-- PROF_STOP: STOP replans the profile to rest at the nearest allowed position. (R186) -/
  | profStop (w : Initiator) (g : Fin 5)
  /-- MOTOR_PWM_UPDATE: At each PWM update new spindle, VCM and chopper duties are computed from inputs in hand. (R202) -/
  | motorPwmUpdate (half : Bool) (o : ObsMeas)
  /-- PWM_LATE: A late PWM update repeats the previous duties and raises PWM_LATE. (R14) -/
  | pwmLate
  /-- ENC_OFS_LEARNED: After 256 bells ENC_OFS is learned and the encoder takes over if the spread is small. (R205) -/
  | encOfsLearned
  /-- OBS_DRIFT: Observer and encoder differing beyond 1/12 turn for 64 bells set OBS_DRIFT. (R205) -/
  | obsDrift
  /-- MICROACTUATOR_FRAME: At 3,600 ns the K4 sends the 24 trim values on the microactuator link. (R197) -/
  | microactuatorFrame
  /-- DAC_LATE: A microactuator frame missing its deadline leaves the stage on its previous values. (R14) -/
  | dacLate
  /-- RETURN_WORD: The power stage's return word is received, checked and its flags applied. (R198) -/
  | returnWord (v : BitVec 112)
  /-- MA_FAULT: MA_OC or MA_OPEN on 4 consecutive frames fences the head's microactuator. (R219) -/
  | maFault (h : Head)
  /-- MOTOR_ADC_CONVERSION: The motor ADC converts one input in its slot sequence. (R200) -/
  | motorAdcConversion (sample : Bool) (code : BitVec 12)
  /-- BUS_TRIP: Bus above BUS_TRIP for 20 µs turns all gates off, stops HELM_BEAT and raises a FATAL source. (R214) -/
  | busTrip
  /-- SP_START: START takes the spindle from OFF to SENSE, or sets START_PENDING. (R207) -/
  | spStart
  /-- SP_STOP: STOP takes a running spindle to STOPPING or an early state to SHORT, clearing START_PENDING. (R207) -/
  | spStop
  /-- SENSE_DONE: SENSE decides rest, forward speed, reverse or undetermined. (R208) -/
  | senseDone (r : SenseRes)
  /-- SPINDLE_REST: No current zero crossing for one period at STILL declares rest in SHORT. (R207) -/
  | spindleRest
  /-- ALIGN_DONE: ALIGN_MS elapsed moves the spindle to RAMP. (R207) -/
  | alignDone
  /-- RAMP_END: At RAMP_EXIT the spindle enters RUN_OBS, brakes on reverse lock, or counts a start failure. (R207) -/
  | rampEnd (r : RampRes)
  /-- CATCH_ATTEMPT_END: A catch attempt locks or fails, with the third failure going to SHORT. (R210) -/
  | catchAttemptEnd (locked : Bool) (rpm : BitVec 16)
  /-- PHASE_OPEN: An open spindle phase turns gates off and goes to FAULT. (R221) -/
  | phaseOpen
  /-- PHASE_SHORT: DESAT or overcurrent turns gates off and goes to FAULT. (R221) -/
  | phaseShort
  /-- MOT_LOAD: LOAD in MOT_a_CMD moves the actuator to LOADING, or is refused. (R217) -/
  | motLoad (w : Initiator) (a : Act)
  /-- MOT_RETRACT: RETRACT drives the actuator outward to park. (R218) -/
  | motRetract (a : Act)
  /-- MOT_TEST: TEST runs the VCM wiring and polarity test while PARKED. (R216) -/
  | motTest (w : Initiator) (a : Act)
  /-- VCM_TEST_END: After 2 ms the VCM test judges open, short, good polarity or moved. (R216) -/
  | vcmTestEnd (a : Act)
  /-- VCM_TEST_REPEAT: 200 ms after a polarity swap the test repeats once. (R216) -/
  | vcmTestRepeat (a : Act)
  /-- LOAD_OFF_RAMP: Travel reaching RAMP_TRAVEL reports the actuator off the ramp and LOADED. (R217) -/
  | loadOffRamp (a : Act)
  /-- LOAD_TRAVEL_TIMEOUT: Travel reaching 4 × RAMP_TRAVEL without the report is handled as RET_TIMEOUT. (R217) -/
  | loadTravelTimeout (a : Act)
  /-- ACTUATOR_PARKED: Low back-EMF for 2 ms declares the actuator PARKED. (R218) -/
  | actuatorParked (a : Act)
  /-- RETRACT_TIMEOUT: Not PARKED within RET_MAX stops HELM_BEAT and raises MOT_RETRACT. (R218) -/
  | retractTimeout (a : Act)
  /-- PWM_GEN_SELF_CHECK_FAIL: A PWM generator failing its self-check is fenced and the other takes the pads. (R220) -/
  | pwmGenSelfCheckFail (g : Fin 2)
  /-- PWM_GEN_DISAGREE: Disagreeing generators reload, and disagreeing again turns gates off and raises MOT_PWM_FATAL. (R220) -/
  | pwmGenDisagree
  /-- RIDE_THROUGH_ENTER: The BUS_UV comparator trips, dropping gates and entering RIDE-THROUGH with generator mode and retract. (R222) -/
  | rideThroughEnter
  /-- RIDE_THROUGH_FLASH_DONE: The ride-through write of the logbook tail, summary and outcome table to flash completes. (R477) -/
  | rideThroughFlashDone
  /-- RIDE_THROUGH_END: When parking and the flash write are both done, the spindle shorts, HELM_BEAT stops and the K4 is HALTED. (R222) -/
  | rideThroughEnd
  /-- XBAR_READ_BURST: A port's read burst is granted and returned with check-code correction or UE masks. (R226) -/
  | xbarReadBurst (port : Fin 16) (chan : Byte) (page : Fin 16384) (beat : Fin 128) (beats : Nat) (upsets : List (Nat × Nat))
  /-- XBAR_WRITE_BURST: A port's write burst is stored, and one write response is returned. (R226) -/
  | xbarWriteBurst (port : Fin 16) (page : Fin 16384) (beat : Fin 128) (data : List (Option Byte))
  /-- SCRUB_READ: Every INTERVAL × 64 cycles the scrubber reads a word and writes back corrected bytes. (R235) -/
  | scrubRead (upsets : List (Nat × Nat))
  /-- MEM_RETIRE_FRAME: MEM_RETIRE_CMD with KIND 0 retires a frame according to its page state. (R237) -/
  | memRetireFrame (frame : Fin 16384)
  /-- MEM_RETIRE_BANK: MEM_RETIRE_CMD with KIND 1 retires all 512 frames of a bank. (R238) -/
  | memRetireBank (bank : Fin 32)
  /-- MIGRATION: A region page migrates to a donor frame word by word once a donor is free. (R237) -/
  | migration
  /-- MEM_ALLOC: MEM_PAGE_CMD ALLOC takes pages from the free list into a tag's page map, or is refused SHORT. (R239) -/
  | memAlloc (w : Initiator) (tag : BitVec 14) (count : BitVec 11)
  /-- MEM_RELEASE: MEM_PAGE_CMD RELEASE returns a tag's pages and map blocks, retiring retire-pending pages. (R239) -/
  | memRelease (tag : BitVec 14)
  /-- PLANE_FENCE: Parity failure or too many confined errors fence a crossbar plane, and bursts are repeated on the survivor. (R243) -/
  | planeFence (p : Fin 2) (parity : Bool)
  /-- ELOG_POP: Reading MEM_ELOG_DATA3 removes the oldest error-log entry. (R234) -/
  | elogPop
  /-- CACHE_REQUEST: A DRAM-address request is served as a hit or allocates a miss, merge or victim. (R250) -/
  | cacheRequest (port : Fin 16) (chan : Byte) (addr : BitVec 36) (len : Nat) (write : Option (List (Option Byte))) (stream : Bool)
  /-- CACHE_FILL_RETURN: A line fill returns, merged writes are applied and merged reads answered. (R252) -/
  | cacheFillReturn
  /-- VICTIM_WRITEBACK_DONE: A victim write-back response frees its victim entry and releases waiting writes. (R254) -/
  | victimWritebackDone (c : Fin 2)
  /-- CACHE_WAIT_RESUME: A request waiting for a miss register, victim entry or eligible way proceeds when one frees. (R252) -/
  | cacheWaitResume
  /-- BCC_CLEAN: Maintenance CLEAN writes back dirty lines of a range. (R256) -/
  | bccClean (w : Initiator) (all : Bool)
  /-- BCC_INVALIDATE: Maintenance INVALIDATE discards lines of a range. (R256) -/
  | bccInvalidate (w : Initiator) (all : Bool)
  /-- BCC_CLEAN_INV: Maintenance CLEAN_INV writes back and invalidates lines of a range. (R256) -/
  | bccCleanInv (w : Initiator) (all : Bool)
  /-- BCC_LOCK_FILL: Maintenance LOCK_FILL fetches and locks lines of a range. (R256) -/
  | bccLockFill (w : Initiator) (all : Bool)
  /-- BCC_UNLOCK: Maintenance UNLOCK clears locks on lines of a range. (R256) -/
  | bccUnlock (w : Initiator) (all : Bool)
  /-- BCC_ZERO: Maintenance ZERO sets lines of a range to zero and dirty. (R256) -/
  | bccZero (w : Initiator) (all : Bool)
  /-- CACHE_DRAIN_DONE: Once every way is cleaned and invalidated, DRAINED is set and requests bypass. (R258) -/
  | cacheDrainDone
  /-- DDR_READ_COMPLETE: A DRAM burst is decoded, corrected, reported poisoned, or retried from the mirror copy. (R263) -/
  | ddrReadComplete (c : Fin 2) (upsets : List (Nat × Nat))
  /-- DDR_WRITE_CRC_ALERT: A write CRC alert retries the write, and a fourth failure fences the channel. (R262) -/
  | ddrWriteCrcAlert (c : Fin 2)
  /-- DDR_REFRESH: The refresh interval expires and an all-bank refresh is issued. (R262) -/
  | ddrRefresh (c : Fin 2)
  /-- PATROL_READ: The patrol scrubber reads and rewrites a burst, marking devices at MARK_THRESH. (R265) -/
  | patrolRead (c : Fin 2) (upsets : List (Nat × Nat))
  /-- DDR_FENCE_CMD: DDR_FENCE_CMD fences a DRAM channel, moving traffic to the mirror. (R269) -/
  | ddrFenceCmd (mask : BitVec 2)
  /-- LGT_ARM: Setting S_ATTR.ARM arms the shadow record, promoting it at once on an idle enabled channel. (R273) -/
  | lgtArm (w : Initiator) (n : Lgt)
  /-- LGT_STOP: STOP clears ARM, stops issue at the burst boundary and ends the record STOPPED. (R281) -/
  | lgtStop (n : Lgt)
  /-- LGT_BURST_ISSUE: At an XP11 issue slot the highest-priority ready channel issues a burst. (R277) -/
  | lgtBurstIssue (lines : BitVec 16)
  /-- LGT_BURST_RESPONSE: A burst's response returns, marking VALID or failing the record. (R278) -/
  | lgtBurstResponse (n : Lgt) (k : Fin 16) (ans : FarAns)
  /-- LGT_FLUSH_READ_DONE: The flush read's completion ends a host-bound record. (R279) -/
  | lgtFlushReadDone (n : Lgt) (ok : Bool)
  /-- HOST_COMPLETION_TIMEOUT: A host read not completed within the completion timeout ends its record BAD and is logged in AER. (R308) -/
  | hostCompletionTimeout (n : Lgt) (k : Option (Fin 16))
  /-- PCK_JOB_GO: JOB_GO queues a firmware Pack job, or sets QUEUE_FULL. (R287) -/
  | pckJobGo (w : Initiator)
  /-- PACK_JOB_START: An idle instance takes the head of the job queue and binds its key slot. (R287) -/
  | packJobStart (stall : Bool)
  /-- PACK_ENCODER_RESUME: A stalled encoder resumes with the same symbol when the output FIFO has room. (R292) -/
  | packEncoderResume (p : Fin 2) (stall : Bool)
  /-- PACK_INPUT_RESUME: Compression resumes when the next input page's entry is VALID. (R290) -/
  | packInputResume (p : Fin 2) (stall : Bool)
  /-- PACK_JOB_END: A job ends with one result after verification or a detected error. (R300) -/
  | packJobEnd (p : Fin 2)
  /-- PCK_KEY_DATA_WRITE: A write to PCK_KEY_DATA stores the next key word. (R303) -/
  | pckKeyDataWrite (v : Word)
  /-- PCK_KEY_LOAD: PCK_KEY_CMD LOAD loads an EMPTY slot, or is refused. (R294) -/
  | pckKeyLoad (w : Initiator) (slot : Fin 64)
  /-- PCK_KEY_ERASE: PCK_KEY_CMD ERASE moves a LOADED slot to ERASING. (R294) -/
  | pckKeyErase (slot : Fin 64)
  /-- KEY_ZEROIZE: Within 64 cycles after the last bound job ends, the slot is zeroed and EMPTY. (R294) -/
  | keyZeroize (slot : Fin 64)
  /-- PCK_RES_POP: Reading PCK_RES3 removes the oldest firmware result. (R300) -/
  | pckResPop
  /-- PERST_N_DEASSERT: PERST_N deasserted starts link training and bring-up of the endpoint. (R312) -/
  | perstNDeassert
  /-- BAR2_ACCESS: A host BAR2 request passes through XP11 to the buffer, with errors mapped to CA, poison or discard. (R310) -/
  | bar2Access (op : Bar2Op)
  /-- D3HOT_ENTRY: D0 to D3hot stops fetching, drains, answers UR and enters a power state. (R314) -/
  | d3hotEntry
  /-- D0_ENTRY: D3hot to D0 resumes fetching with rings kept. (R314) -/
  | d0Entry
  /-- LANE_FAILED: A failed lane retrains the link to a narrower width and raises PCIE_LANE. (R317) The finding is a failed equalisation (`none`) or
  the receiver errors of one second; `speed` is the highest at which equalisation passes. -/
  | laneFailed (lane : Fin 16) (errs : Option Nat) (speed : Fin 4)
  /-- FLR: An FLR resets the function: work stops at granule ends, rings are deleted and records end. (R318) -/
  | flr
  /-- HOT_RESET: A Hot Reset has the effects of an FLR. (R318) -/
  | hotReset
  /-- LINK_DOWN: A link-down event not caused by the K4's own reset has the effects of an FLR. (R318) -/
  | linkDown
  /-- FLR_COMPLETE: The function becomes ready and configuration requests complete. (R319) -/
  | flrComplete
  /-- DOE_REQUEST: A DOE data object carries an SPDM request answered by the Helm complex. (R321) -/
  | doeRequest (data : List (BitVec 32))
  /-- BQ_DOORBELL: A doorbell write sets TAIL, or is refused and logged. (R328) -/
  | bqDoorbell (w : Initiator) (r : Ring) (v : BitVec 16)
  /-- ENTRY_FETCH: At a fetch slot an eligible ring's entries are read by class and weight. (R385) -/
  | entryFetch
  /-- ENTRY_FETCH_COMPLETE: Fetched entries arrive and take tags, or a failed read completes FETCH_FAILED. (R331) -/
  | entryFetchComplete (r : Ring) (entries : List (Option (List Byte)))
  /-- COMMAND_START: A fetched entry is dispatched once it holds its locks and pages. (R386) -/
  | commandStart (tag : BitVec 14) (list : Option (List (BitVec 64)))
  /-- COMMAND_COMPLETE: A completion is recorded, the result slot written and the head advanced. (R333) -/
  | commandComplete (tag : BitVec 14)
  /-- PUBLICATION_WRITE: The publication word is written after the covered results, with the MSI-X message. (R334) -/
  | publicationWrite (r : Ring)
  /-- COAL_EXPIRY: The COAL interval ends and a held-back message is sent. (R347) -/
  | coalExpiry (r : Ring)
  /-- FREEZE_SETTLED: The freeze settles to FROZEN with the freeze bitmap recorded. (R336) -/
  | freezeSettled (r : Ring)
  /-- DISABLE_SETTLED: All kept entries complete and the ring becomes DISABLED. (R338) -/
  | disableSettled (r : Ring)
  /-- ADMIN_RING_ENABLE: Writing 1 to BQ_CTRL.ADMIN_EN enables the admin ring. (R325) -/
  | adminRingEnable (w : Initiator)
  /-- ADMIN_RING_DISABLE: Writing 0 to BQ_CTRL.ADMIN_EN disables the admin ring. (R325) -/
  | adminRingDisable
  /-- QUIESCE_DONE: Every fetched entry has run and the queues are quiesced for activation. (R344) -/
  | quiesceDone
  /-- READ: READ delivers recovered sectors of a range to the host. (R359) -/
  | readCmd (tag : BitVec 14)
  /-- WRITE: WRITE writes sectors of a conventional zone, or completes under write-back. (R359) -/
  | writeCmd (tag : BitVec 14)
  /-- ZONE_APPEND: ZONE APPEND places sectors at the write pointer of a sequential zone. (R360) -/
  | zoneAppend (tag : BitVec 14)
  /-- PACKED_APPEND: PACKED APPEND compresses, encrypts and places a parcel in a zone. (R363) -/
  | packedAppend (tag : BitVec 14)
  /-- PARCEL_READ: PARCEL READ reads and unpacks or verifies a parcel. (R364) -/
  | parcelRead (tag : BitVec 14)
  /-- ZONE_OPEN: ZONE MANAGEMENT OPEN explicitly opens a zone. (R29) -/
  | zoneOpen (tag : BitVec 14)
  /-- ZONE_CLOSE: ZONE MANAGEMENT CLOSE closes an open zone after its writes. (R29) -/
  | zoneClose (tag : BitVec 14)
  /-- ZONE_FINISH: ZONE MANAGEMENT FINISH sets the zone FULL with both pointers at the end. (R29) -/
  | zoneFinish (tag : BitVec 14)
  /-- ZONE_RESET: ZONE MANAGEMENT RESET empties a zone by advancing its generation. (R31) -/
  | zoneReset (tag : BitVec 14)
  /-- ZONE_REPORT: ZONE REPORT writes zone descriptors to the host. (R362) -/
  | zoneReport (tag : BitVec 14)
  /-- FLUSH: FLUSH completes when every covered write counts as written. (R366) -/
  | flushCmd (tag : BitVec 14)
  /-- VERIFY: VERIFY runs sectors through the ladder without transfer. (R359) -/
  | verify (tag : BitVec 14)
  /-- PEER_COPY: PEER COPY moves sectors to or from a peer as one all-or-nothing transfer. (R368) -/
  | peerCopy (tag : BitVec 14)
  /-- ABORT: ABORT stops or cancels a target entry, or reports it done. (R340) -/
  | abortCmd (tag : BitVec 14)
  /-- IDENTIFY: IDENTIFY writes the device or unit structure to the host. (R371) -/
  | identify (tag : BitVec 14)
  /-- GET_FEATURE: GET FEATURE returns a feature value. (R372) -/
  | getFeature (tag : BitVec 14)
  /-- SET_FEATURE: SET FEATURE sets a feature value. (R372) -/
  | setFeature (tag : BitVec 14)
  /-- SET_LATENCY_TOLERANCE: SET LATENCY TOLERANCE sets the exit latency tolerance and may move the power state. (R400) -/
  | setLatencyTolerance (tag : BitVec 14)
  /-- RING_CREATE: RING CREATE loads a ring's registers and makes it DISABLED. (R370) -/
  | ringCreate (tag : BitVec 14)
  /-- RING_DELETE: RING DELETE deletes a disabled ring. (R325) -/
  | ringDelete (tag : BitVec 14)
  /-- RING_ENABLE: RING ENABLE enables a disabled ring from HEAD. (R325) -/
  | ringEnable (tag : BitVec 14)
  /-- RING_DISABLE: RING DISABLE stops fetching and keeps entries up to the last started. (R338) -/
  | ringDisable (tag : BitVec 14)
  /-- RING_RESTART: RING RESTART resumes a FROZEN ring past FREEZE_AT and marked entries. (R337) -/
  | ringRestart (tag : BitVec 14)
  /-- GET_LOG: GET LOG writes a log page snapshot to the host. (R379) -/
  | getLog (tag : BitVec 14)
  /-- LOGBOOK_CLEAR: LOGBOOK CLEAR empties the logbook under a purpose-1 token. (R376) -/
  | logbookClear (tag : BitVec 14) (data : Option (List (BitVec 8)))
  /-- FIRMWARE_DOWNLOAD: FIRMWARE DOWNLOAD writes image chunks to the inactive slot and commits it. (R377) -/
  | firmwareDownload (tag : BitVec 14) (data : Option (List (BitVec 8)))
  /-- FIRMWARE_ACTIVATE: FIRMWARE ACTIVATE sets the next-start slot or quiesces and activates a slot. (R454) -/
  | firmwareActivate (tag : BitVec 14)
  /-- ACTIVATION_DONE: Activation steps finish, and the result is written and fetching resumes. (R454) -/
  | activationDone
  /-- KEY_LOAD: KEY LOAD loads a key slot, plain or wrapped. (R374) -/
  | keyLoad (tag : BitVec 14) (data : Option (List (BitVec 8)))
  /-- KEY_ERASE: KEY ERASE erases a key slot. (R374) -/
  | keyErase (tag : BitVec 14)
  /-- SET_TIME: SET TIME sets calendar time for logbook records. (R373) -/
  | setTime (tag : BitVec 14)
  /-- ADOPT_MEDIA: ADOPT MEDIA writes new binding records on every domain under a purpose-2 token. (R50) -/
  | adoptMedia (tag : BitVec 14) (data : Option (List (BitVec 8)))
  /-- FABRIC_STATUS: FABRIC STATUS writes the fabric state to the host. (R378) -/
  | fabricStatus (tag : BitVec 14)
  /-- TIER_MAP_INSTALL: GO in SCH_TIER_CMD checks a tier map entry and installs it, or refuses it with FORMAT_LIMIT. (R26) -/
  | tierMapInstall (w : Initiator)
  /-- DISPATCH_STEP: Every 4 bells the domain dispatcher chooses a candidate by cost and posts descriptors. (R392) -/
  | dispatchStep (a : Act)
  /-- URGENT_PREEMPT: An URGENT arrival flushes the sequencer and pre-empts non-URGENT work. (R395) -/
  | urgentPreempt (a : Act)
  /-- LOCK_GRANT: A waiting lock request is granted when conflicting locks release. (R388) -/
  | lockGrant
  /-- PAGE_ALLOC_GRANT: A waiting command's ALLOC succeeds once pages free. (R390) -/
  | pageAllocGrant
  /-- IDLE_TIMER_EXPIRY: An idle timer expiring enters an allowed deeper power state. (R398) -/
  | idleTimerExpiry (k : Fin 6)
  /-- IDLE_END: A fetch or fabric work ends idleness and returns to P0. (R399) -/
  | idleEnd
  /-- POWER_STATE_REACHED: A power-state change completes, and LTR is sent. (R396) -/
  | powerStateReached
  /-- PORT_TRAINING_START: Signal detection on an enabled DOWN port starts lane training. (R404) -/
  | portTrainingStart (p : QPort)
  /-- PORT_UP: HELLO exchanged takes the port UP and originates an LSA. (R405) -/
  | portUp (p : QPort) (width : Fin 3) (laneMap : BitVec 16) (fix : Bool) (hello : QHello) (c0 : BitVec 8) (c1 : BitVec 8) (c2 : BitVec 8)
  /-- TRAIN_FAIL: Training incomplete after 10 ms returns the port DOWN, fencing it at the third failure. (R405) -/
  | trainFail (p : QPort)
  /-- LINK_LOST: No valid frame for LOSS_TIME takes the port DOWN and withdraws routes. (R405) -/
  | linkLost (p : QPort)
  /-- QFB_RETRAIN: RETRAIN in QFB_p_CTRL returns an UP port to TRAINING. (R405) -/
  | qfbRetrain (w : Initiator) (p : QPort)
  /-- DATA: A DATA frame is staged at the responder or relayed toward its destination. (R423) -/
  | dataFrame (p : QPort) (chk : FrameCheck) (h : QHdr) (payload : List (BitVec 8))
  /-- COMMIT: A COMMIT frame applies a complete staged transfer and records its outcome. (R423) -/
  | commitFrame (p : QPort) (chk : FrameCheck) (h : QHdr) (total : BitVec 32) (crc : BitVec 32) (base : BitVec 36)
  /-- RESULT: A RESULT frame ends the initiator's in-doubt transfer and sends DONE. (R423) -/
  | resultFrame (p : QPort) (chk : FrameCheck) (h : QHdr) (status : BitVec 8) (retry : Bool) (noXfer : Bool) (lba : BitVec 40)
  /-- DONE: A DONE frame releases the responder's outcome entry. (R423) -/
  | doneFrame (p : QPort) (chk : FrameCheck) (h : QHdr)
  /-- CANCEL: A CANCEL frame makes the responder discard the transfer. (R426) -/
  | cancelFrame (p : QPort) (chk : FrameCheck) (h : QHdr)
  /-- READ_REQ: A READ_REQ frame reads a peer window and returns data. (R421) -/
  | readReq (p : QPort) (chk : FrameCheck) (h : QHdr) (a : BitVec 36) (len : BitVec 32)
  /-- MEDIA_REQ: A MEDIA_REQ frame runs a read, write or append on the responder's media. (R422) -/
  | mediaReq (p : QPort) (chk : FrameCheck) (h : QHdr) (op : BitVec 8) (rlimit : BitVec 2) (sectors : BitVec 16) (lba : BitVec 40)
  /-- HELLO: A HELLO frame records the neighbour and detects new peers. (R410) -/
  | hello (p : QPort) (chk : FrameCheck) (hello : QHello)
  /-- HEARTBEAT: A HEARTBEAT frame restarts the receiver's silence timer. (R411) -/
  | heartbeat (p : QPort) (chk : FrameCheck)
  /-- LSA: An LSA frame is stored and forwarded when newer. (R412) -/
  | lsa (p : QPort) (chk : FrameCheck) (l : QLsa)
  /-- CREDIT: A CREDIT frame returns receive slots to the sender. (R417) -/
  | credit (p : QPort) (chk : FrameCheck) (f0 : BitVec 8) (f1 : BitVec 8) (f2 : BitVec 8)
  /-- MGMT: A MGMT frame carries an SPDM message between Helm complexes. (R408) -/
  | mgmt (p : QPort) (chk : FrameCheck) (data : List (BitVec 8))
  /-- HELLO_SEND: Every 1 ms an UP port sends HELLO. (R410) -/
  | helloSend (p : QPort)
  /-- HEARTBEAT_SEND: An UP port silent for HB_PERIOD sends HEARTBEAT. (R411) -/
  | heartbeatSend (p : QPort)
  /-- LSA_ORIGINATE: Every 100 ms, or at a port change, the K4 originates an LSA. (R412) -/
  | lsaOriginate
  /-- LSA_EXPIRE: An LSA not refreshed for 1 s is removed. (R412) -/
  | lsaExpire
  /-- ADDRESS_ASSIGN: After 1 ms of an unchanged database, addresses are assigned by lowest identity. (R413) -/
  | addressAssign
  /-- CREDIT_SEND: After 8 freed slots or 1 µs, a CREDIT frame is sent. (R417) -/
  | creditSend (p : QPort)
  /-- RELAY_TIMEOUT: A relayed frame waiting RELAY_MAX for credit is discarded. (R409) -/
  | relayTimeout (p : QPort)
  /-- COMMIT_REPEAT: Every 1 ms an in-doubt initiator repeats COMMIT to a reachable responder. (R423) -/
  | commitRepeat
  /-- RETRY_RESEND: After a RETRY result the initiator resends every 100 µs for up to 20 ms. (R422) -/
  | retryResend
  /-- OUTCOME_DROP: An outcome entry unreleased for RECORD_HOLD of reachable time is dropped. (R423) -/
  | outcomeDrop
  /-- STAGING_DISCARD: Staging is discarded when the initiator is lost or silent for STAGE_HOLD. (R423) -/
  | stagingDiscard
  /-- XFER_IDLE_ABANDON: No frame of an open transfer for XFER_IDLE abandons it. (R425) -/
  | xferIdleAbandon
  /-- TRANSFER_RESTART: After ROUTE_QUIET the initiator restarts an abandoned transfer under a new XFER_ID. (R425) -/
  | transferRestart
  /-- HELM_CORE_FAULT: A pair fault or mismatch fences a core and the spare replays from the checkpoint. (R452) -/
  | helmCoreFault (core : Fin 3)
  /-- HELM_SPARE_SELFTEST: Every 1 ms the spare core runs its self-test. (R452) -/
  | helmSpareSelftest (pass : Bool)
  /-- HELM_CHECKPOINT: The pair checkpoints every 2,048 instructions, every 5 µs, or on a full input log. (R452) -/
  | helmCheckpoint
  /-- OP_SECONDS_PERSIST: Every 60 s operating seconds are written to the persistent record. (R440) -/
  | opSecondsPersist
  /-- FAULT_RAISE: A raised fault source gets its class reaction: count, capture, log, fence or Anchor. (R457) -/
  | faultRaise (src : Source) (x : RaiseArgs)
  /-- FAULT_N_TIMER_EXPIRY: The FAULT_N pulse timer expires. (R462) -/
  | faultNTimerExpiry
  /-- WCH_FN_HOLD: A software write of HOLD in WCH_FN_CTRL sets or clears the hold on FAULT_N. (R462) -/
  | wchFnHold (w : Initiator) (v : Bool)
  /-- WCH_FN_FORCE: A software write of FORCE in WCH_FN_CTRL forces or releases FAULT_N. (R462) -/
  | wchFnForce (w : Initiator) (v : Bool)
  /-- WATCH_LOG_SWAP: With the read bank empty and items pending, the banks swap and the new read bank is sorted. (R465) -/
  | watchLogSwap
  /-- WCH_WLOG_POP: The consumer's read of WCH_WLOG_HI removes a watch log word. (R467) -/
  | wchWlogPop (w : Initiator)
  /-- WATCH_SELF_CHECK_FAIL: A Watch instance failing its self-check is fenced and the other drives. (R469) -/
  | watchSelfCheckFail (i : Fin 2)
  /-- WATCH_DISAGREE: Disagreeing Watch instances without a self-check failure hand over to the Anchor. (R469) -/
  | watchDisagree
  /-- WATCH_KAT: Every 1,024 bells each Watch instance runs its known-answer test. (R468) -/
  | watchKat
  /-- ANCHOR_TAKEOVER: The Anchor sequencer drops gates, stops links, retracts and coasts the spindle. (R470) -/
  | anchorTakeover
  /-- ANCHOR_HALT: At rest or after 60 s the windings are released, keys zeroed and the K4 HALTED. (R470) -/
  | anchorHalt
  /-- WCH_INJ_GO: GO in WCH_INJ_CMD arms an injection site, or is refused. (R471) -/
  | wchInjGo (w : Initiator) (site : BitVec 4) (mask : BitVec 9)
  /-- WCH_INJ_AUTH: AUTH verifies a purpose-3 token and opens field injection. (R472) -/
  | wchInjAuth (w : Initiator)
  /-- WCH_INJ_TOKEN_WRITE: A write to WCH_INJ_TOKEN stores the next token word. (R482) -/
  | wchInjTokenWrite (w : Initiator) (v : Word)
  /-- INJECTION_EXPIRY: An armed site not accessed within 1 s is disarmed with INJ_EXPIRED. (R471) -/
  | injectionExpiry
  /-- LOGBOOK_PERSIST: Every 60 s new records go to the flash summary and the system areas. (R477) -/
  | logbookPersist (fail : BitVec 4)
  /-- LOG_FW_GO: LOG_FW_GO writes a firmware logbook record. (R475) -/
  | logFwGo (w : Initiator)
  /-- SYS_GLUE: A write to SYS_GLUE checks and glues the named non-bell-timed groups as one glue-up. (R489) -/
  | sysGlue (w : Initiator) (mask : Word)
  /-- REGISTER_WRITE: A write to a register without its own row is checked, applied or refused, including holding-copy and alias writes. (R483) -/
  | registerWrite (w : Initiator) (sp : RegSpace) (a : BitVec 27) (be : BitVec 4) (poison : Bool) (v : Word)
  /-- SLOW_WRITE_APPLY: A posted write to a slow-domain register is applied at the head of its queue. (R495) -/
  | slowWriteApply (w : Initiator)
  /-- RC_READ: A read of a read-clear counter returns it and clears or subtracts the value read. (R497) -/
  | rcRead (w : Initiator) (a : BitVec 27) (lag : Word)
  /-- SYS_REF_POP: Reading SYS_REF_DATA1 removes the oldest refusal-log entry. (R492) -/
  | sysRefPop (w : Initiator)
  /-- SYS_TMR_EXPIRY: A general timer expires, interrupting or toggling its pin, and reloads if periodic. (R502) -/
  | sysTmrExpiry (k : Fin 8)
  /-- TIMER_CAPTURE_EDGE: An edge on a timer capture pin latches the µs count. (R502) -/
  | timerCaptureEdge (pin : Fin 16)
  /-- DDR_WRITE_COMPLETE: A DRAM write (maintenance or drain write-back, mirrored write-back, bypass write or patrol rewrite) is answered by its channel or channels, completing the write and releasing whatever waited on it. (R266) -/
  | ddrWriteComplete (c : Fin 2)
  /-- LINK_UP: Link training completes and the PCIe data link becomes active again, setting BQ_LINK_STAT.UP, after a link-down event or a Surprise Down. (R312) -/
  | linkUp (speed : Fin 4) (width : BitVec 5) (reversed : Bool)
  /-- INJECTION_WINDOW_EXPIRY: The operating-seconds count reaches the token's NOT_AFTER, which closes the authorised field-injection window and clears WCH_INJ_STAT.OPEN. (R472) -/
  | injectionWindowExpiry
  /-- TEMPERATURE_CONVERSION: The on-die temperature sensors complete a conversion, which updates PAD_TEMP TEMP, MAX and VALID and the above-85 °C refresh rate. (R524) -/
  | temperatureConversion (temp : BitVec 12)
deriving DecidableEq, Repr

end Sys2Proof
end

