-- ==== Sys2Proof/Decode.lean ====
section
/-! DEFINITION. The K4 is modelled as a block: its commands are events and register accesses, and no row of the opcode table has an
encoding. There is no word to decode. -/

namespace Sys2Proof

/-- The command that a word spells by the table's bits: the table gives bits to no row, so none. -/
def decodeTableWord (_nbits _w : Nat) : Option Instr := none

end Sys2Proof
end

