-- ==== Sys2Proof/Machine/Bits.lean ====
section
/-! DEFINITION. Bit-field, sign-extension and byte-order helpers (R7, R8) and the field reader and writer of a
32-bit register. -/

namespace Sys2Proof.Machine

/-- Bits [hi:lo] of a natural number. -/
def bitsOf (x hi lo : Nat) : Nat := x / 2 ^ lo % 2 ^ (hi + 1 - lo)

/-- Bit `b` of a natural number. -/
def bitOf (x b : Nat) : Bool := x / 2 ^ b % 2 == 1

/-- A Boolean as 0 or 1. -/
def b2n (b : Bool) : Nat := if b then 1 else 0

/-- The number whose bit i is the i-th of a list. -/
def bitMask (l : List Bool) : Nat := l.foldr (fun b x => b2n b + 2 * x) 0

/-- Field [hi:lo] of a register word (R7). -/
def getF (w : Word) (hi lo : Nat) : Nat := bitsOf w.toNat hi lo

/-- Register word `w` with field [hi:lo] set to the low bits of `x` (R7). -/
def setF (w : Word) (hi lo x : Nat) : Word :=
  BitVec.ofNat 32 (w.toNat % 2 ^ lo + 2 ^ lo * (x % 2 ^ (hi + 1 - lo)) + 2 ^ (hi + 1) * (w.toNat / 2 ^ (hi + 1)))

/-- The number `x` read as a signed two's-complement value of `n` bits. -/
def sext (n x : Nat) : Int :=
  let y := x % 2 ^ n
  if 2 * y < 2 ^ n then (y : Int) else (y : Int) - 2 ^ n

/-- The low `n` bits of an integer, two's complement. -/
def toBits (n : Nat) (z : Int) : Nat := (z % (2 ^ n : Nat)).toNat

/-- An integer saturated to signed `n` bits. -/
def satS (n : Nat) (z : Int) : Int :=
  let m : Int := ((2 ^ (n - 1) : Nat) : Int)
  if m - 1 < z then m - 1 else if z < -m then -m else z

/-- A natural number saturated to `n` bits. -/
def satU (n x : Nat) : Nat := min x (2 ^ n - 1)

/-- A floor-rounded arithmetic shift right of an integer. -/
def asr (z : Int) (k : Nat) : Int := z / ((2 ^ k : Nat) : Int)

/-- Little-endian value of a list of bytes (R8). -/
def leValue : List Byte → Nat
  | [] => 0
  | b :: bs => b.toNat + 256 * leValue bs

/-- The `n` little-endian bytes of a value (R8). -/
def leBytes : Nat → Nat → List Byte
  | 0, _ => []
  | n + 1, x => BitVec.ofNat 8 x :: leBytes n (x / 256)

/-- Updates the element at index `i` of a list; out of range leaves the list as it is. -/
def listSet {α : Type} : List α → Nat → α → List α
  | [], _, _ => []
  | _ :: l, 0, v => v :: l
  | a :: l, i + 1, v => a :: listSet l i v

/-- Applies `f` at index `i` of a list. -/
def listModify {α : Type} : List α → Nat → (α → α) → List α
  | [], _, _ => []
  | a :: l, 0, f => f a :: l
  | a :: l, i + 1, f => a :: listModify l i f

/-- Removes the first element satisfying `p`, answering it with the rest. -/
def popFirst {α : Type} (p : α → Bool) : List α → Option (α × List α)
  | [] => none
  | a :: l =>
    if p a then some (a, l)
    else match popFirst p l with
      | none => none
      | some (b, l') => some (b, a :: l')

/-- The numbers 0 to `n - 1`. -/
def upTo (n : Nat) : List Nat := List.range n

end Sys2Proof.Machine
end

