-- ==== Sys2Proof/Machine/Sparse.lean ====
section
/-! DEFINITION. Sparse arrays in one canonical form: keys strictly rising, and no entry equal to what an unlisted
key reads as. Registers, SRAM, DRAM, flash and every large table of the K4 are held this way. -/

namespace Sys2Proof.Machine

/-- A sparse array: (key, value) pairs. -/
abbrev Sparse (α : Type) := List (Nat × α)

/-- The value at key `k`; an unlisted key reads `d`. -/
def sparseGet {α : Type} (d : α) : Sparse α → Nat → α
  | [], _ => d
  | (j, v) :: m, k => if j = k then v else sparseGet d m k

/-- Removes every entry of key `k`. -/
def sparseErase {α : Type} : Sparse α → Nat → Sparse α
  | [], _ => []
  | (j, v) :: m, k => if j = k then sparseErase m k else (j, v) :: sparseErase m k

/-- Inserts `(k, v)` before the first greater key. -/
def sparseInsert {α : Type} : Sparse α → Nat → α → Sparse α
  | [], k, v => [(k, v)]
  | (j, w) :: m, k, v => if k < j then (k, v) :: (j, w) :: m else (j, w) :: sparseInsert m k v

/-- Sets key `k` to `v`, keeping the canonical form: the default value is not listed. -/
def sparseSet {α : Type} [DecidableEq α] (d : α) (m : Sparse α) (k : Nat) (v : α) : Sparse α :=
  if v = d then sparseErase m k else sparseInsert (sparseErase m k) k v

/-- The keys of a list rise strictly. -/
def sparseRising {α : Type} : Sparse α → Bool
  | [] => true
  | [_] => true
  | (j, _) :: (k, w) :: m => decide (j < k) && sparseRising ((k, w) :: m)

/-- The canonical form: keys strictly rising and no entry equal to the value an unlisted key reads. -/
def sparseWf {α : Type} [DecidableEq α] (d : Nat → α) (m : Sparse α) : Bool :=
  sparseRising m && m.all (fun e => decide (e.2 ≠ d e.1))

end Sys2Proof.Machine
end

