-- ==== Sys2Proof/Machine/State.lean ====
section
/-! DEFINITION. The state of the K4 as plain data, and the state right after reset. Software-visible registers live in
ONE sparse register file keyed by BAR0 offset (`regs`); what the manual describes behind the registers (queues,
FIFOs, tables, hidden state machines) lives in one structure per unit. -/

namespace Sys2Proof.Machine

/-- Ways a step can stop with a fault. -/
inductive Fault where
  /-- Raised by XBAR_READ_BURST and XBAR_WRITE_BURST when the burst presented crosses a 4 KiB page, has no beat or more
  than sixteen: the crossbar has no such burst (R228), so no unit can issue it. Safe: nothing is claimed of it. -/
  | impossibleBurst
deriving DecidableEq, Repr

/-- Ways a step can be refused. -/
inductive Refusal where
  /-- The instruction has no meaning in the model yet. Safe. -/
  | notModelled (mnemonic : String)
  /-- Raised by a command whose operands violate `Instr.wf`: lengths and ranges that the interface delivering the
  command cannot present. Safe: nothing is claimed of it. -/
  | illFormed
deriving DecidableEq, Repr


/-! ### Configuration, fuses, flash (chapter 19) -/

/-- The fields of the configuration section of an Eryel image (R444). -/
structure DriveCfg where
  actuators : Nat
  headMask : List Nat
  readers : Nat
  dramChannels : Nat
  quayPorts : Nat
  rpm : Nat
  wedges : Nat
  zoneMib : Nat
  convZones : Nat
  openLimit : Nat
  activeLimit : Nat
  retDepth : Nat
  injectPolicy : Nat
  writeCache : Nat
  static : Nat
  staticAddr : Nat
  faultNWidth : Nat
  ssvid : Nat
  ssid : Nat
  idleTimers : Nat
  preLen : Nat
  fpreLen : Nat
  gapLen : Nat
  polePairs : Nat
  servoNs : Nat
  phaseSwap : Nat
  mirSize : Nat
  dataRate : Nat
  ranks : Nat
  density : Nat
  custHash : Nat
  authorityKey : Nat
  ownerKey : Nat
  regInit : List (Nat × Word)
deriving DecidableEq, Repr

/-- The launch profile (R2, R29, R526, R525): the configuration before any image has been read; keys and identity
fields, for which the manual gives no default, are zero (log entry 6). -/
def launchCfg : DriveCfg where
  actuators := 15
  headMask := [63, 63, 63, 63]
  readers := 2
  dramChannels := 3
  quayPorts := 15
  rpm := 7200
  wedges := 512
  zoneMib := 256
  convZones := 16
  openLimit := 32
  activeLimit := 128
  retDepth := 4
  injectPolicy := 0
  writeCache := 0
  static := 0
  staticAddr := 0
  faultNWidth := 10000
  ssvid := 0x1F3C
  ssid := 0x2448
  idleTimers := 0
  preLen := 25
  fpreLen := 15
  gapLen := 12
  polePairs := 4
  servoNs := 1920
  phaseSwap := 0
  mirSize := 4
  dataRate := 6400
  ranks := 1
  density := 1
  custHash := 0
  authorityKey := 0
  ownerKey := 0
  regInit := []

/-- The fuse shadow (R437 step 1, R446, R450, R306). -/
structure Fuses where
  locked : Bool
  ownerHash : Nat
  ownerSealKey : Nat
  devSecret : Nat
  /-- The Nimdal patch key (R147). -/
  patchKey : Nat
  svc : Nat
  serial : Nat
deriving DecidableEq, Repr

/-- One copy of the persistent record (R440), with its sequence number and whether its CRC-32C holds. -/
structure PersistRec where
  pwrCycles : Nat
  warmStarts : Nat
  opSeconds : Nat
  failed : Nat
  nextSlot : Nat
  activeSlot : Nat
  /-- State of each slot: 0 empty, 1 valid, 2 invalid, 3 download in progress (R383). -/
  slotState : List Nat
  tokenIds : List Nat
  retiredFrames : List Nat
  retiredBanks : Nat
  quayAddr : Option Nat
  seq : Nat
  good : Bool
deriving DecidableEq, Repr

/-- A persistent record never written: all zero, slot A next. -/
def PersistRec.blank : PersistRec where
  pwrCycles := 0
  warmStarts := 0
  opSeconds := 0
  failed := 0
  nextSlot := 0
  activeSlot := 0
  slotState := [0, 0]
  tokenIds := [0, 0, 0, 0]
  retiredFrames := []
  retiredBanks := 0
  quayAddr := none
  seq := 0
  good := true

/-- The reset kinds of R434. -/
inductive StartKind where
  | cold | warm | escalated
deriving DecidableEq, Repr

/-- Reset controller, start sequence, boot flash, Helm complex, general timers, pins (chapters 19, 21, 22). -/
structure SysU where
  /-- Rail monitors all good (R509). -/
  suppliesGood : Bool
  /-- Internal reset held. -/
  inReset : Bool
  /-- Kind and SYS_START cause code of the start that the release of reset will run (R434, R436). -/
  startKind : StartKind
  startCause : Nat
  fromHalted : Bool
  /-- The warm-reset mark in the always-on domain: preparation failed (R435). -/
  prepFailed : Bool
  /-- Register space is open (R437). -/
  regOpen : Bool
  /-- GPIO0 was low at the release of reset (R431). -/
  gpio0Low : Bool
  /-- BRING-UP holds for the motor bus (R429). -/
  busHold : Bool
  /-- Configuration in force (R3, R525). -/
  cfg : DriveCfg
  /-- REVISION of the active image header (R525). -/
  revision : Nat
  /-- FLAGS.ROLLBACK_COMMIT and SEC_VERSION of the active image (R446). -/
  rollbackCommit : Bool
  secVersion : Nat
  /-- Sealed secrets of the active image (R445). -/
  custPatchKey : Option Nat
  keyWrapKey : Option Nat
  wrapRequired : Bool
  fuses : Fuses
  /-- Boot flash bytes (R439); an unlisted byte reads erased, 0xFF. -/
  flash : List Host.Cell
  /-- The two alternating copies of the persistent record (R440). -/
  rec0 : PersistRec
  rec1 : PersistRec
  /-- The record that lives in the always-on domain while the flash is absent (R441). -/
  aonRec : Option PersistRec
  /-- Operating seconds of the always-on counter (R440). -/
  opSeconds : Nat
  /-- Calendar time: the value set by SET TIME in ms and the operating second at which it was set (R473). -/
  calendar : Option (Nat × Nat)
  /-- Measurement registers 1 to 8 (R451). -/
  meas : List Nat
  /-- Device time since the start in units of 0.04 ns (1/16 FCLK tick), advanced by the bell period. -/
  time : Nat
  /-- Device time at which the watchdog period was last restarted (R456). -/
  wdogFrom : Nat
  /-- Entries of the input log since the last checkpoint, and checkpoints written since the start (R452). -/
  inputLog : Nat
  ckpts : Nat
  /-- General timers: bell time at which each was last loaded, when running (R502). -/
  timers : List (Option Nat)
  /-- Level driven on each GPIO pin by its toggling function (R502). -/
  pinOut : List Bool
  /-- Posted slow-domain write queues of the host and of the Helm cores (R496). -/
  hostQ : List (Nat × Word)
  helmQ : List (Nat × Word)
  /-- The refusal log, oldest first (R492). -/
  refLog : List (Nat × Nat × Nat × Nat × Bool × Nat)
  /-- Latched HI halves of LO/HI pairs: (register, value). -/
  latches : List (Nat × Word)
  /-- Receive of a signed command result not yet run: firmware activation in progress (slot). -/
  activating : Option Nat
  /-- The free-running conversions of the temperature sensors held above-limit (R524). -/
  tempHot : Bool
deriving DecidableEq, Repr

/-! ### The Watch and the logbook (chapter 20) -/

/-- One unit that a fence isolates (R460). -/
inductive FUnit where
  | chan (n : Chan) | engine (n : Engine) | paPort (a : Act) | seq (a : Act) | srv (h : Head) | lane (l : Fin 2)
  | chopper | pwmGen (g : Fin 2) | vcm (a : Act) | microact (h : Head) | plane (p : Fin 2) | dram (c : Fin 2)
  | lgt (n : Lgt) | pack (p : Fin 2) | pcieLanes | quay (p : QPort) | helm (c : Fin 3) | watch (i : Fin 2)
deriving DecidableEq, Repr

/-- A word of the watch log (R464) and the check bits inverted in it by an injection (R463, R471). -/
structure WlogWord where
  source : Nat
  cls : Nat
  kind : Nat
  detail : Nat
  bell : Nat
  flips : Nat
deriving DecidableEq, Repr

/-- A logbook record (R474) with its snapshot block. -/
structure LogRec where
  seq : Nat
  typ : Nat
  source : Nat
  cls : Nat
  cal : Bool
  injected : Bool
  opSec : Nat
  power : Nat
  warm : Nat
  bell : Nat
  calMs : Nat
  detail : Nat
  snapSeq : Nat
  suppressed : Nat
  snap : List (Nat × Word)
deriving DecidableEq, Repr

/-- An armed injection (R471). -/
structure Inj where
  site : Nat
  mask : Nat
  arg : Nat
  at_ : Nat
deriving DecidableEq, Repr

/-- Watch and logbook. -/
structure WatchU where
  /-- Per-source counts, read through WCH_SRC_CNT. -/
  srcCnt : Sparse Nat
  /-- Raises by class since the start, as the health page reports them (R382). -/
  raised : List Nat
  /-- Units fenced since the start (R460). -/
  fences : List FUnit
  /-- Sources raised at FATAL that the Anchor sequencer has not yet taken (R470). -/
  anchorReq : Option Nat
  /-- When the Anchor sequencer took over, and from step 6 on when that step began (R470). -/
  anchorAt : Nat
  /-- Injected origin of the raise in hand is recorded in items; the armed site (R471). -/
  armed : Option Inj
  /-- Token words written since AUTH was last cleared (R482). -/
  token : List Word
  /-- The authorised window: NOT_AFTER in operating seconds (R472). -/
  window : Option Nat
  /-- Watch log banks (R463): write bank in arrival order, its gap marker, read bank in sorted order. -/
  wBank : List WlogWord
  gap : Option WlogWord
  rBank : List WlogWord
  /-- Slot of the oldest word of the read bank. -/
  rPos : Nat
  /-- Known-answer tests run by each Watch instance (R468). -/
  kats : List Nat
  /-- Telemetry snapshots taken (R14). -/
  telem : Nat
  /-- Bell of the newest telemetry snapshot. -/
  telemBell : Nat
  /-- Logbook ring in SRAM, oldest first, at most 16,384 (R474). -/
  ring : List LogRec
  /-- Records held before numbering at step 7 (R477). -/
  held : List LogRec
  /-- Next SEQ, and the ordinal of the next snapshot block. -/
  nextSeq : Nat
  snapSeq : Nat
  /-- SEQ below which records are persisted (R477). -/
  persisted : Nat
  /-- One above the last SEQ issued, kept by the always-on domain while the supplies stay up (R477). -/
  aonSeq : Nat
  /-- The logbook summary and the ride-through area of the boot flash. -/
  summary : List LogRec
  rideArea : List LogRec
  /-- Per-source suppression window: start time, records in it, suppressed count (R476). -/
  burst : Sparse (Nat × Nat × Nat)
deriving DecidableEq, Repr


/-! ### Buffer memory (chapter 10) -/

/-- What the remap table and the page allocator keep for a logical page (R236, R239). -/
structure PageInfo where
  owner : Option Nat
  retired : Bool
  /-- Retire-pending; an uncorrectable byte was read. -/
  rp : Bool
  ue : Bool
deriving DecidableEq, Repr

/-- A page that nothing owns. -/
def PageInfo.blank : PageInfo where
  owner := none
  retired := false
  rp := false
  ue := false

/-- An entry of a page map (R239). -/
structure MapEnt where
  page : Nat
  valid : Bool
  rp : Bool
  deferred : Bool
deriving DecidableEq, Repr

/-- The page map of one command tag: its map blocks in chain order, and its entries. -/
structure PageMap where
  tag : Nat
  blocks : List Nat
  ents : List MapEnt
deriving DecidableEq, Repr

/-- An entry of the memory error log (R234). -/
structure ElogEnt where
  frame : Nat
  word : Nat
  bytes : Nat
  synd : Nat
  typ : Nat
  port : Nat
  page : Nat
  plane1 : Bool
  bell : Nat
deriving DecidableEq, Repr

/-- The SRAM and its tables. `bytes` holds the data byte of every cell by frame × 4,096 + offset; an unlisted cell
reads 0 (log entry 10). `flips` holds, for a cell whose 13 stored bits differ from the byte and its check bits, the bits
that differ: [7:0] data, [12:8] check bits. -/
structure MemU where
  bytes : List Host.Cell
  flips : Sparse Nat
  /-- The frame of each logical page whose frame is not its own number (R236). -/
  frameOf : Sparse Nat
  pages : Sparse PageInfo
  /-- The free list, oldest first. -/
  free : List Nat
  maps : List PageMap
  elog : List ElogEnt
  /-- Words queued for the scrubber ahead of its walk: (frame, word) (R232). -/
  corrQ : List (Nat × Nat)
  /-- Retired frames, banks whose retirement is in progress, and region pages waiting to migrate (R237, R238). -/
  retFrames : List Nat
  banks : List Nat
  migQ : List Nat
  /-- Beats with check errors confined to one plane in this count of 1,024 bells: (plane, bank) (R243). -/
  planeErr : List (Nat × Nat)
deriving DecidableEq, Repr

/-! ### Buffer cache and DRAM (chapter 11) -/

/-- The tag entry of a way (R249) and its use by a miss register or an eviction (R251). -/
structure CWay where
  tag : Nat
  valid : Bool
  dirty : Bool
  ref : Bool
  lock : Bool
  poison : Bool × Bool
  reserved : Bool
deriving DecidableEq, Repr

/-- An invalid way. -/
def CWay.blank : CWay where
  tag := 0
  valid := false
  dirty := false
  ref := false
  lock := false
  poison := (false, false)
  reserved := false

/-- A request to a DRAM address, within one line: `write` holds the bytes from `ofs` with their enables. -/
structure CReq where
  id : Nat
  port : Nat
  chan : Nat
  line : Nat
  ofs : Nat
  len : Nat
  write : Option (List (Option (BitVec 8)))
  stream : Bool
deriving DecidableEq, Repr

/-- What a half of a line came back as: data, and 0 good, 1 uncorrectable, 2 poisoned. -/
abbrev HalfRes := List (BitVec 8) × Nat

/-- A miss register (R252). `bypass` marks a read that goes round the cache (R258). -/
structure CMiss where
  line : Nat
  way : Nat
  reqs : List CReq
  half0 : Option HalfRes
  half1 : Option HalfRes
  stream : Bool
  lock : Bool
  bypass : Bool
deriving DecidableEq, Repr

/-- A victim buffer entry (R254). -/
structure CVictim where
  line : Nat
  data : List (BitVec 8)
  poison : Bool × Bool
deriving DecidableEq, Repr

/-- A DRAM read outstanding: channel, byte offset of its burst, the line and half it is for, whether it is the second copy
of a mirrored line (R266). -/
structure DRead where
  ch : Nat
  ofs : Nat
  line : Nat
  half : Nat
  second : Bool
  bypass : Bool
deriving DecidableEq, Repr

/-- Why a DRAM write was issued. -/
inductive DWhy where
  | victim (line : Nat) | maint | drain | bypass (id : Nat)
deriving DecidableEq, Repr

/-- A DRAM write outstanding: where each copy goes (channel, offset) that has not answered, the bytes with their enables,
poison of its bursts, retries after CRC alerts (R262). -/
structure DWrite where
  line : Nat
  pend : List (Nat × Nat)
  data : List (Option (BitVec 8))
  poison : Bool × Bool
  tries : Nat
  why : DWhy
deriving DecidableEq, Repr

/-- A maintenance operation in progress (R256): lines still waiting for a fill, and write-backs outstanding. -/
structure CMaint where
  op : Nat
  deferred : List Nat
  fills : List Nat
  writes : Nat
deriving DecidableEq, Repr

/-- How a stored burst differs from a correct codeword (R263, R264): poisoned, and symbols in error. -/
structure DBurst where
  poison : Bool
  errs : List (Nat × Nat)
deriving DecidableEq, Repr

/-- A burst without error. -/
def DBurst.blank : DBurst where
  poison := false
  errs := []

/-- One DRAM channel. `bytes` by byte offset; an unlisted byte reads 0 (log entry 10). -/
structure DdrCh where
  bytes : List Host.Cell
  bursts : Sparse DBurst
  /-- Corrections charged to each device in this pass, by rank × 16 + device. -/
  devCnt : Sparse Nat
  patrol : Nat
  trained : Bool
  /-- Results of a full training held until the SRAM is initialised (R267). -/
  results : List (BitVec 8)
deriving DecidableEq, Repr

/-- A channel that has never been trained. -/
def DdrCh.init : DdrCh where
  bytes := []
  bursts := []
  devCnt := []
  patrol := 0
  trained := false
  results := []

/-- What an access to the buffer answers: data, the UE mask by byte, and the error response. -/
structure BufResp where
  data : List (BitVec 8)
  ue : List Bool
  err : Bool
deriving DecidableEq, Repr

/-- A request not yet answered to its port, with its answer once it is known (R253). -/
structure COrder where
  id : Nat
  port : Nat
  ans : Option BufResp
deriving DecidableEq, Repr

/-- The buffer cache and the DRAM controller. -/
structure DramU where
  ways : Sparse CWay
  miss : List CMiss
  victims : List CVictim
  waitQ : List CReq
  /-- Requests in the order of their ports (R253). -/
  order : List COrder
  nextId : Nat
  maint : Option CMaint
  draining : Bool
  reads : List DRead
  writes : List DWrite
  ch : List DdrCh
  refreshes : List Nat
deriving DecidableEq, Repr

/-! ### Media layout (chapter 02) -/

/-- A tier map entry (R23). -/
structure TierEntry where
  zone : Nat
  domain : Nat
  headMask : Nat
  spt : Nat
  baseTrack : Nat
  tierCount : Nat
  skew : Nat
  refPos : Nat
  rateClass : Nat
  offset : List Int
  trimCentre : List Int
  gen : Nat
  spareSlots : Nat
  capacity : Nat
  formatTemp : Int
deriving DecidableEq, Repr

/-- The states of a zone (R29). A conventional zone uses `conv`, `readOnly` and `offline` only. -/
inductive ZState where
  | empty | implicitOpen | explicitOpen | closed | full | readOnly | offline | conv
deriving DecidableEq, Repr

/-- An append placed in a zone and not yet passed by MEDIA_WP (R28). -/
structure Placed where
  /-- The command record that placed it. -/
  cmd : Nat
  /-- First sector in the zone and length in sectors. -/
  start : Nat
  len : Nat
  /-- Sectors that count as written (R18). -/
  done : List Nat
  /-- Its first write gate has opened. -/
  started : Bool
  /-- It has completed to the host under write-back (R358). -/
  completed : Bool
  /-- The zone's state before this placement. -/
  prev : ZState
deriving DecidableEq, Repr

/-- One zone. -/
structure Zone where
  entry : Option TierEntry
  state : ZState
  /-- WP and MEDIA_WP in granules (R28). -/
  wp : Nat
  mediaWp : Nat
  gen : Nat
  capacity : Nat
  placed : List Placed
  /-- Order number of the last append (R29, oldest closes first). -/
  lastAppend : Nat
  /-- Slots written since the last filler pass (R31). -/
  writtenHigh : Nat
  /-- Host-visible attribute: a head of the domain has lost its writer while the zone was FULL. -/
  writerLost : Bool
  /-- Sectors written when the zone was FINISHed: those from there on read as unwritten (R29). -/
  finished : Option Nat
deriving DecidableEq, Repr

/-- A zone that has never had an entry pass (R26). -/
def Zone.blank : Zone where
  entry := none
  state := .offline
  wp := 0
  mediaWp := 0
  gen := 0
  capacity := 0
  placed := []
  lastAppend := 0
  writtenHigh := 0
  writerLost := false
  finished := none

/-- A grown-list entry (R44, R45): zone, slot and the spare slot that replaces it, if any. -/
structure Grown where
  zone : Nat
  slot : Nat
  spare : Option Nat
deriving DecidableEq, Repr

/-- One copy of a domain's system area (R46): whether it last checked good, its write stamp, the checkpoint and tier map entry of each zone,
the defect lists, the stamp high-water mark and the logbook. -/
structure SysArea where
  good : Bool
  stamp : Nat
  zones : Sparse Zone
  primary : List (Nat × Nat)
  grown : List Grown
  mark : Nat
  log : List LogRec
deriving DecidableEq, Repr

/-- A copy on media that no K4 has written. -/
def SysArea.blank : SysArea where
  good := false
  stamp := 0
  zones := []
  primary := []
  grown := []
  mark := 0
  log := []

/-- Media state held by the K4: zones, defect lists, stamps, binding. -/
structure MediaU where
  zones : Sparse Zone
  /-- Primary defect slots (zone, slot) and grown list of each domain (R43 to R45). -/
  primary : List (List (Nat × Nat))
  grown : List (List Grown)
  /-- Last write stamp issued and the high-water mark kept in the system area (R34). -/
  stamp : Nat
  stampMark : Nat
  /-- Per domain: the binding record is foreign (R49); highest valid BIND_COUNT. -/
  foreign : List Bool
  bindCount : List Nat
  /-- The two copies of each domain's binding record (R48). -/
  bindRecs : List (List (BitVec 8) × List (BitVec 8))
  /-- The two copies of each domain's other system-area items (R46). -/
  areas : List (SysArea × SysArea)
  /-- Domains whose system-area read and pointer rebuild have finished in this start (R47). -/
  ready : List Bool
  /-- Order number given to the next append. -/
  appendNo : Nat
deriving DecidableEq, Repr


/-- A sector descriptor as the scheduler gives it to a lane (R135). The token is command tag + 16,384 × sector index. -/
structure SDesc where
  token : Nat
  lba : Nat
  sector : Nat
  write : Bool
  trimK : Nat
deriving DecidableEq, Repr

/-- Where one sector of a command stands. -/
inductive SecSt where
  /-- Not planned, or returned to the scheduler. -/
  | todo
  /-- In a lane's list or as a lane's current sector. -/
  | listed
  /-- Its first gate has opened. -/
  | underway
  /-- Read and climbing the recovery ladder (R93). -/
  | decoding
  /-- Recovered and swept (R102); delivered as zeros when unwritten. -/
  | good | unwritten
  /-- Unrecovered (R98). -/
  | lost
  /-- Counts as written (R18). -/
  | written
  /-- A write that can no longer be made (R527), or was unplaced (R44). -/
  | failed
deriving DecidableEq, Repr

/-- One sector of a command's media work. -/
structure SecWork where
  idx : Nat
  lba : Nat
  zone : Nat
  /-- Slot of the zone's tier in which the sector lies (R27). -/
  slot : Nat
  head : Nat
  st : SecSt
  write : Bool
  /-- Re-reads charged (R93). -/
  rereads : Nat
  /-- The sector waits for a re-read, charged or not (R97). -/
  again : Bool
  /-- Consecutive head-scoped drops at the slot (R126). -/
  drops : Nat
  /-- Marginal step code recorded at recovery (R99). -/
  step : Nat
  /-- The stream has read, checked and encoded it (R106). -/
  encoded : Bool
  /-- The write stamp it carries (R34), and the buffer address of its data when it is not on a page of the command. -/
  stamp : Nat
  addr : Option Nat
  /-- Its gate dropped: the next write gate is a rewrite (R126). -/
  rewrite : Bool
deriving DecidableEq, Repr


/-! ### Read channels (chapter 03) -/

/-- The states of a read channel's handling of one sector (R62). -/
inductive ChFsm where
  | idle | acquire | searchP | data | searchR | nosync | fragWait | fragAcq | searchF
deriving DecidableEq, Repr

/-- What the channel notes of a read beside its descriptor, so that a replay sees what the live pass saw (R53, R75): the words of the
rate class entry, the baseline estimates at the commit start, the position of each fragment's mark and its first codeword bit, and the
thermal-asperity spans in codeword bits with their kind (0 erased, 1 read by reader A alone, 2 by reader B alone, R68). -/
structure RxNote where
  rate0 : Nat
  rate1 : Nat
  baseA : Int
  baseB : Int
  fragPos : List Nat
  fragCw : List Nat
  spans : List (Nat × Nat × Nat)
deriving DecidableEq, Repr

/-- Nothing noted. -/
def RxNote.empty : RxNote where
  rate0 := 0
  rate1 := 0
  baseA := 0
  baseB := 0
  fragPos := []
  fragCw := []
  spans := []

/-- The running state of a channel's front end and loops (R53 to R58, R68): retained samples since the fragment's gate opened, the
baseline estimates in units of 2^-`Config.baselineBits` LSB, the timing phase, runs of samples beyond and within TA_THRESH, the sums of
the preamble's absolute samples, asperities started and ended by the samples just taken, both readers affected at once, a commit in
progress, and the staged sample bytes with the offset of the fragment in hand. -/
structure Rx where
  n : Nat
  baseA : Int
  baseB : Int
  phase : Nat
  overA : Nat
  overB : Nat
  inA : Nat
  inB : Nat
  ampA : Nat
  ampB : Nat
  ampN : Nat
  started : Nat
  both : Bool
  commit : Bool
  stage : List (BitVec 8)
  fragAt : Nat
  /-- Bytes staged when the sector in hand was admitted (R74). -/
  admitAt : Nat
deriving DecidableEq, Repr

/-- A front end that has taken no sample. -/
def Rx.init : Rx where
  n := 0
  baseA := 0
  baseB := 0
  phase := 0
  overA := 0
  overB := 0
  inA := 0
  inB := 0
  ampA := 0
  ampB := 0
  ampN := 0
  started := 0
  both := false
  commit := false
  stage := []
  fragAt := 0
  admitAt := 0

/-- A retention slot descriptor (R71) and whether the decoder pool holds the slot (R73). `state` is 0 EMPTY,
1 FILLING, 2 COMPLETE, 3 NOT_RETAINED. -/
structure RSlot where
  seq : Nat
  state : Nat
  head : Nat
  flags : Nat
  bell : Nat
  lba : Nat
  dqm : Nat
  fragCount : Nat
  primaryDist : Nat
  syncPos : Nat
  rescueDist : Nat
  sets : Nat
  trSnap : Nat
  samples : Nat
  bestPos : Nat
  fragOff : List Nat
  fragDist : List Nat
  taSpans : List (Nat × Nat)
  bestDist : Nat
  held : Bool
  note : RxNote
deriving DecidableEq, Repr

/-- An empty slot descriptor. -/
def RSlot.empty : RSlot where
  seq := 0
  state := 0
  head := 0
  flags := 0
  bell := 0
  lba := 0
  dqm := 0
  fragCount := 0
  primaryDist := 0
  syncPos := 0
  rescueDist := 0
  sets := 0
  trSnap := 0
  samples := 0
  bestPos := 0
  fragOff := []
  fragDist := []
  taSpans := []
  bestDist := 0
  held := false
  note := RxNote.empty

/-- One read channel. -/
structure ChanU where
  fsm : ChFsm
  /-- The sector in hand, its fragment (from 0) and its count of fragments. -/
  sector : Option SDesc
  frag : Nat
  frags : Nat
  /-- The fragment in hand is the final one. -/
  lastFrag : Bool
  /-- Gate open. -/
  gate : Bool
  /-- Slot being filled, and the descriptor of the sector in hand as it is built. -/
  slotIx : Option Nat
  cur : RSlot
  /-- The ring of slots. -/
  slots : List RSlot
  /-- Sequence number of the next slot taken. -/
  seqNo : Nat
  /-- Hold requests waiting: (slot index, SEQ) (R73). -/
  holdWaits : List (Nat × Nat)
  /-- Coefficient memory, keyed by bank × 2,048 + word; its write queue (R80). -/
  coef : Sparse Nat
  coefQ : List (Nat × Nat)
  /-- Configuration taken at the last first-fragment gate open: (offset, word) (R80); rate class words; marks. -/
  cfgIn : List (Nat × Word)
  rate0 : Nat
  rate1 : Nat
  marks : List Nat
  /-- Gains and frequency carried to the head's next sector (R55, R57). -/
  gainA : Nat
  gainB : Nat
  freq : Nat
  /-- Selective mode entered by this channel; port reservation in MB/s while a commit runs (R74). -/
  selective : Bool
  asked : Bool
  reserve : Option Nat
  /-- The reservation of a sector that has ended while samples of it are still being written to its slot (R74). -/
  draining : Option Nat
  /-- Thermal asperities active on readers A and B: start bit (R68). -/
  taA : Option Nat
  taB : Option Nat
  /-- Part 1 re-detected from staging (R60); fragments whose LLRs are zero (R61). -/
  rescued : Bool
  zeroFrags : List Nat
  /-- Consecutive sectors below 1 LSB RMS on each reader (R79). -/
  quietA : Nat
  quietB : Nat
  /-- Consecutive sectors ended at maximum gain with an amplitude below 8 LSB (R79). -/
  openA : Nat
  openB : Nat
  /-- Release of the head to its working channel waits for the next gate open (spares, R77). -/
  releasing : Bool
  /-- The LLR store buffer taken by the sector in hand (R86). -/
  buf : Option Nat
  /-- Front end and loops (R53 to R58, R68). -/
  rx : Rx
deriving DecidableEq, Repr

/-- A channel at reset. -/
def ChanU.init : ChanU where
  fsm := .idle
  sector := none
  frag := 0
  frags := 0
  lastFrag := false
  gate := false
  slotIx := none
  cur := RSlot.empty
  slots := []
  seqNo := 0
  holdWaits := []
  coef := []
  coefQ := []
  cfgIn := []
  rate0 := 0
  rate1 := 0
  marks := []
  gainA := 0
  gainB := 0
  freq := 0
  selective := false
  asked := false
  reserve := none
  draining := none
  taA := none
  taB := none
  rescued := false
  zeroFrags := []
  quietA := 0
  quietB := 0
  openA := 0
  openB := 0
  releasing := false
  buf := none
  rx := Rx.init


/-! ### Decoder pool and completion collector (chapter 04) -/

/-- A collector record (R101). -/
structure CRec where
  token : Nat
  lba : Nat
  source : Nat
  outcome : Nat
  iter : Nat
  step : Nat
  reread : Nat
  head : Nat
  dqm : Nat
  sw : Nat
  aligned : Bool
deriving DecidableEq, Repr

/-- A sector on its way through the recovery ladder (R93). -/
structure DSect where
  token : Nat
  lba : Nat
  head : Nat
  chan : Nat
  /-- Retention slot and the SEQ it had (R73, R96); none when NOT_RETAINED. -/
  slot : Option (Nat × Nat)
  dqm : Nat
  sw0 : Nat
  syncPos : Nat
  bestPos : Nat
  rereads : Nat
  /-- Priority class of the owning command: 0 URGENT to 3 LOW. -/
  cls : Nat
  age : Nat
  buf : Option Nat
  /-- Shifts still to try; the shift in hand (R94). -/
  shifts : List Int
  shift : Int
  /-- 1 when the quick decode follows a qualifying trial. -/
  fromTrial : Bool
deriving DecidableEq, Repr

/-- One buffer of the LLR store (R86): its sector's token, the LLRs by codeword bit, and a parity bit for each 64-bit word. -/
structure LlrBuf where
  token : Nat
  llrs : List Int
  parity : List Bool
deriving DecidableEq, Repr

/-- A local sample buffer of a deep engine (R85): the descriptor of the slot and its samples. -/
structure LocalBuf where
  desc : RSlot
  samples : List (BitVec 8)
deriving DecidableEq, Repr

/-- An empty local sample buffer. -/
def LocalBuf.empty : LocalBuf := { desc := RSlot.empty, samples := [] }

/-- What an engine is doing. -/
inductive EPhase where
  | quick | trialLoad | trial | deepLoad | deep
deriving DecidableEq, Repr

/-- One decoder engine. -/
structure EngU where
  job : Option (DSect × EPhase)
  /-- Iterations run, and the limit taken at the start. -/
  iter : Nat
  limit : Nat
  /-- A deep decode suspended by an interleaved trial (R94). -/
  suspended : Option (DSect × Nat)
  /-- Order number at which it last became idle (R87). -/
  idleSince : Nat
  /-- The sector's command was dropped: report DROPPED (R103). -/
  dropping : Bool
  /-- The local sample buffers of the job in hand and of the suspended decode (R85, R94), and the LLRs of the last replay. -/
  local1 : LocalBuf
  local2 : LocalBuf
  llrs : List Int
deriving DecidableEq, Repr

/-- A decoder engine that has no job. -/
def EngU.init : EngU where
  job := none
  iter := 0
  limit := 0
  suspended := none
  idleSince := 0
  dropping := false
  local1 := LocalBuf.empty
  local2 := LocalBuf.empty
  llrs := []

/-- A marginal-sector log entry (R99). -/
structure MargRec where
  lba : Nat
  head : Nat
  step : Nat
  rereads : Nat
  dqm : Nat
  bell : Nat
deriving DecidableEq, Repr

/-- The decoder pool. -/
structure DecU where
  engines : List EngU
  /-- LLR store buffers (R86). -/
  bufs : List (Option LlrBuf)
  waiting : List DSect
  trialQ : List DSect
  deepQ : List DSect
  /-- Sectors that have come to the re-read rung: charged when true (R93, R92). -/
  rereadQ : List (DSect × Bool)
  /-- Collector input slots of the present bell, by source (R100), and records not yet swept. -/
  slots : Sparse (List CRec)
  unswept : List CRec
  /-- Records of deep engines whose slot was full, held for the next bell (R100). -/
  heldRecs : List CRec
  /-- QUICK_MAX in force for the bell; grants (R90). -/
  quickMax : Nat
  deepGrant : Nat
  marginal : List MargRec
  trace : List CRec
  clock : Nat
deriving DecidableEq, Repr


/-! ### Write path and preamplifier ports (chapter 05) -/

/-- The preamplifier frames the K4 sends (R114, R118). -/
structure PaFrame where
  read : Bool
  pos : Nat
  addr : Nat
  data : Nat
  /-- Sent for a mailbox of this head position. -/
  mailbox : Option Nat
deriving DecidableEq, Repr

/-- An encoded sector held by a stream: its token and the 37,120 scrambled channel bits, bit 0 first (R106). -/
structure EncSec where
  token : Nat
  bits : Nat
deriving DecidableEq, Repr

/-- One write stream and the preamplifier state of its head. -/
structure HeadU where
  /-- Encoded sectors held, oldest first, at most three (R106). -/
  buf : List EncSec
  /-- Trim index of the re-read whose gate is open (R97, R137). -/
  trimK : Nat
  /-- The sector whose write gate is open: token, fragment, final mark. -/
  gate : Option (Nat × Bool)
  /-- Head-scoped write-unsafe conditions (R124). -/
  offTrack : Bool
  offRun : Nat
  samMiss : Bool
  oscTrip : Bool
  /-- Inhibitions: servo (R167), trim saturation (R177), oscillation stage 1 (R187), contacts (R122). -/
  inhServo : Bool
  inhSat : Bool
  inhOsc : Bool
  inhSeek : Bool
  inhContact : Bool
  /-- WRP_n_HTR_CFG has been written and not yet glued: firmware has calibrated the head (R122). -/
  htrNew : Bool
  /-- The sector whose write gate the last fall of PA_a_FAULT_N dropped, until STATUS of the head has been read (R126). -/
  paDrop : Option Nat
  /-- MODE of the head in the preamplifier: 0 IDLE, 1 READ, 2 WRITE_ARMED (R117). -/
  mode : Nat
  /-- The WC value is to be sent at the next change to WRITE_ARMED (R121). -/
  wcDue : Bool
  /-- In a run of writes; bells left until a heater change falls due (R120). -/
  run : Bool
  htr : Nat
  /-- A change of MODE has not yet been followed by its heater frame (R120). -/
  htrDue : Bool
  /-- PC1 and PC2 as taken at the last first-fragment gate open (R110, R128). -/
  pc1 : Nat
  pc2 : Nat
  /-- Times of CONTACT reports in the last 60 s (R122). -/
  contacts : List Nat
  /-- Confirming tests run for the finding in hand, and how many confirmed (R123). -/
  tests : Nat
  confirms : Nat
  finding : Nat
deriving DecidableEq, Repr

/-- One preamplifier port. -/
structure PaPort where
  statusQ : List Nat
  modeQ : List (Nat × Nat)
  htrQ : List (Nat × Nat)
  mailQ : List PaFrame
  inFlight : Option PaFrame
  /-- The read in flight is a repeat (R115). -/
  repeated : Bool
  /-- Response failures in this bell (R115). -/
  crcFails : Nat
  /-- STATUS last read per position. -/
  status : List Nat
  /-- Preamplifier-fault condition, and the line's level (true: driven low). -/
  fault : Bool
  lineLow : Bool
  oscTrip : Bool
  silentUs : Nat
deriving DecidableEq, Repr

/-- The write path. -/
structure WrpU where
  heads : List HeadU
  ports : List PaPort
  /-- Device-scoped write-unsafe conditions (R124). -/
  speedErr : Bool
  speedRun : Nat
  supplyErr : Bool
  supplyBad : Nat
  laneSwitch : Bool
  /-- Oscillation of the spindle loop (R187). -/
  oscDev : Bool
  /-- No new write gate until a bell computes in time (R14). -/
  ctlBlock : Bool
  /-- Anchor or mode has inhibited every gate (R470, R432). -/
  gatesOff : Bool
deriving DecidableEq, Repr

/-- A head at reset. -/
def HeadU.init : HeadU where
  buf := []
  trimK := 0
  gate := none
  offTrack := false
  offRun := 0
  samMiss := false
  oscTrip := false
  inhServo := false
  inhSat := false
  inhOsc := false
  inhSeek := false
  inhContact := false
  htrNew := false
  paDrop := none
  mode := 0
  wcDue := true
  run := false
  htr := 0
  htrDue := false
  pc1 := 0
  pc2 := 0
  contacts := []
  tests := 0
  confirms := 0
  finding := 0

/-- A port at reset. -/
def PaPort.init : PaPort where
  statusQ := []
  modeQ := []
  htrQ := []
  mailQ := []
  inFlight := none
  repeated := false
  crcFails := 0
  status := [0, 0, 0, 0, 0, 0]
  fault := false
  lineLow := false
  oscTrip := false
  silentUs := 0


/-! ### Twiari sequencers (chapter 06) -/

/-- The mode of a lane's current sector (R130). -/
inductive LMode where
  | none | read | write | dry
deriving DecidableEq, Repr

/-- The actions of a gate event (R137). -/
inductive GAct where
  | openRead | openWrite | close
deriving DecidableEq, Repr

/-- A posted gate event (R137). -/
structure GateEv where
  act : GAct
  desc : SDesc
  first : Bool
  final : Bool
  /-- Channel bits from the head's data-region start, and the region it belongs to. -/
  time : Nat
  region : Nat
  /-- The codeword bit at which the fragment starts (an OPEN) or after which it ends (a CLOSE). -/
  cw : Nat
deriving DecidableEq, Repr

/-- One lane (R130). -/
structure Lane where
  ofs : Nat
  len : Nat
  snum : Nat
  cur : Option SDesc
  mode : LMode
  cw : Nat
  frags : Nat
  /-- A gate of the current sector has opened or is posted to open. -/
  posted : Bool
  list : List SDesc
  /-- Descriptors appended since the last bell edge (R133 step 1). -/
  incoming : List SDesc
  events : List GateEv
  /-- Events posted in the window and not yet committed. -/
  newEvents : List GateEv
  /-- The wedge that the region being planned follows. -/
  region : Nat
  spt : Nat
  rateClass : Nat
  sectDone : Bool
deriving DecidableEq, Repr

/-- A lane at reset. -/
def Lane.init : Lane where
  ofs := 0
  len := 0
  snum := 0
  cur := Option.none
  mode := .none
  cw := 0
  frags := 0
  posted := false
  list := []
  incoming := []
  events := []
  newEvents := []
  region := 0
  spt := 0
  rateClass := 0
  sectDone := false

/-- One sequencer engine (R129). PC lies in SEQ_n_PC. -/
structure SeqU where
  stack : List Nat
  v : List (BitVec 32)
  lc : Nat
  hp : Nat
  z : Bool
  c : Bool
  n : Bool
  lanes : List Lane
  /-- Lanes as the window in hand has changed them; none outside a window (R133). -/
  tent : Option (List Lane)
  /-- The engine has started since EN was set. -/
  started : Bool
  late : Bool
  /-- Hook code cycles used in this window; frame of the hook call: return address and depth before it (R142). -/
  hookUsed : Nat
  hookFrame : Option (Nat × Nat)
  cycles : Nat
  /-- A gate of the actuator dropped since the last window. -/
  dropped : Bool
  flushPend : Bool
  /-- Device times of recent restarts (R151). -/
  restarts : List Nat
deriving DecidableEq, Repr

/-- An engine at reset. -/
def SeqU.init : SeqU where
  stack := []
  v := List.replicate 8 0
  lc := 0
  hp := 0
  z := false
  c := false
  n := false
  lanes := List.replicate 6 Lane.init
  tent := Option.none
  started := false
  late := false
  hookUsed := 0
  hookFrame := Option.none
  cycles := 0
  dropped := false
  flushPend := false
  restarts := []

/-- The Twiari stores: two copies each of the micro and nano stores, and the bit errors present in a word, keyed by
copy × 32,768 + store × 16,384 + address (R131). -/
structure StoreU where
  micro : List (Sparse Nat)
  nano : List (Sparse Nat)
  errs : Sparse Nat
deriving DecidableEq, Repr



/-! ### Servo demodulation (chapter 07) -/

/-- The result of one head's wedge in the present bell (R164). Times in units of 0.04 ns from the bell edge; `flags` holds SAM_MISS in bit 0 to
READER_SWITCH in bit 7. -/
structure WRes where
  head : Nat
  sam : Int
  accepted : Bool
  valid : Bool
  reacq : Bool
  drStart : Int
  pe : Int
  track : Nat
  wedge : Nat
  flags : Nat
deriving DecidableEq, Repr

/-- The servo demodulator of one head. STATE, MISS_RUN and INHIBIT lie in SRV_n_STATUS. -/
structure SrvH where
  /-- SKEW in units of 1/1,024 of 0.04 ns (R157, log entry 24). -/
  skew : Int
  /-- The last wedge number, measured or predicted (R160). -/
  wedge : Nat
  /-- The last candidate (R159): bell, mark time, wedge number. -/
  cand : Option (Nat × Int × Nat)
  /-- Consecutive valid wedges since the last miss (R167). -/
  recov : Nat
  /-- Results are delivered with REACQ; the run of them (R167). -/
  reacq : Bool
  reacqRun : Nat
  /-- PE and track of the last valid wedge (R164). -/
  pe : Int
  track : Nat
  /-- READER_SWITCH has been set for the reader now in use (R155). -/
  switched : Bool
  /-- The head's channel was fenced while its servo region was in progress: this wedge counts as missed (R155). -/
  cut : Bool
deriving DecidableEq, Repr

/-- A demodulator at reset. -/
def SrvH.init : SrvH where
  skew := 0
  wedge := 0
  cand := none
  recov := 0
  reacq := false
  reacqRun := 0
  pe := 0
  track := 0
  switched := false
  cut := false

/-- The demodulators and the bell timer (R165, R166). -/
structure SrvU where
  heads : List SrvH
  results : List WRes
  /-- Wedge period in units of 1/1,024 of 0.04 ns; 0 until the first bell. -/
  period : Nat
  /-- By how much the last edge was placed beyond one period of the edge before it (R166), in units of 0.04 ns. -/
  lead : Int
deriving DecidableEq, Repr


/-! ### Control engine (chapter 08) -/

/-- The states of one loop that no register holds (R179, R187, R176, R177). -/
structure CtlLoop where
  xh : List Int
  x1 : List Int
  x2 : List Int
  y1 : List Int
  y2 : List Int
  integ : Int
  deriv : Int
  xprev : Int
  /-- Oscillation detector: its biquad, E, count C, quiet bells, stage entered. -/
  det : List Int
  energy : Int
  count : Nat
  quiet : Nat
  stage : Nat
  /-- Error of the previous bell. -/
  prevErr : Int
  /-- Displacement D_h and trim deviation x_h (R171). -/
  disp : Int
  dev : Int
  /-- Bells of saturation and of no saturation (R177); valid wedges within SETTLE_WIN (R176). -/
  satRun : Nat
  freeRun : Nat
  settleRun : Nat
  /-- The trim loop has closed since the last seek began. -/
  settled : Bool
deriving DecidableEq, Repr

/-- A loop at reset. -/
def CtlLoop.init : CtlLoop where
  xh := [0, 0, 0, 0]
  x1 := [0, 0, 0, 0, 0, 0, 0, 0]
  x2 := [0, 0, 0, 0, 0, 0, 0, 0]
  y1 := [0, 0, 0, 0, 0, 0, 0, 0]
  y2 := [0, 0, 0, 0, 0, 0, 0, 0]
  integ := 0
  deriv := 0
  xprev := 0
  det := [0, 0, 0, 0]
  energy := 0
  count := 0
  quiet := 0
  stage := 0
  prevErr := 0
  disp := 0
  dev := 0
  satRun := 0
  freeRun := 0
  settleRun := 0
  settled := false

/-- The coarse side of one actuator. Positions in 1/4,096 track. -/
structure CtlAct where
  /-- Zone that the actuator is in, and tier of it. -/
  zone : Option Nat
  tier : Nat
  /-- Reference position of the coarse reference head: the profile's, or the track followed (R163, R186). -/
  refSig : Int
  ho : Int
  bal : Int
  /-- Bells since the profile of the seek in hand ended, while SETTLED is not set; timeouts on this seek (R176). -/
  sinceEnd : Option Nat
  timeouts : Nat
  /-- Bells since loading with no head in LOCK (R175), and heads that count as loaded from the next bell. -/
  loadBells : Option Nat
  loadPend : Bool
deriving DecidableEq, Repr

/-- An actuator's control at reset. -/
def CtlAct.init : CtlAct where
  zone := none
  tier := 0
  refSig := 0
  ho := 0
  bal := 0
  sinceEnd := none
  timeouts := 0
  loadBells := none
  loadPend := false

/-- A rest replanned in flight (R186), in 2^-16 of a signal unit: position, speed and acceleration where it starts, the acceleration `a1` that the
first jerk phase reaches, and the lengths in bells of that phase, the constant one and the last jerk phase. -/
structure StopRun where
  x : Int
  v : Int
  a : Int
  a1 : Int
  t1 : Nat
  t2 : Nat
  t3 : Nat
deriving DecidableEq, Repr

/-- A planned profile (R185): start and destination, phase lengths, bells evaluated; `run` for a replanned rest (R186); `loose` when the limits
give no plan and its course is open (log entry 25). -/
structure Profile where
  start : Int
  dest : Int
  tj : Nat
  ta : Nat
  tv : Nat
  t : Nat
  run : Option StopRun
  loose : Bool
deriving DecidableEq, Repr

/-- The control engine. -/
structure CtlU where
  loops : List CtlLoop
  acts : List CtlAct
  profs : List (Option Profile)
  /-- Acceleration reference of each profile generator in this bell (R179). -/
  aref : List Int
  /-- The speed reference of profile generator 4, in 2^-16 of nominal speed (R172). -/
  spRef : Int
  /-- Each lane's copy of the coefficient words by loop × 4,096 + set × 128 + word: value + 2^32 × shift (R180, R188). -/
  coef : List (Sparse Nat)
  /-- Bits flipped in a stored word, by lane × 131,072 + the word's key (R188). -/
  flips : Sparse Nat
  /-- Loops whose CTL_n_CFG has been written since group 15 was last glued: the sets it names are checked (R182). -/
  named : List Nat
  /-- Bells of recent residue alarms of each lane (R189). -/
  alarms : List (List Nat)
  /-- Slot 31 of the next bell runs the known-answer test on both lanes (R189). -/
  katDue : Bool
  /-- Next known-answer vector. -/
  katNext : Nat
  /-- Bells that have run entirely on one lane since a fence (R190). -/
  soleBells : Nat
  /-- Bell of the last loop computation. -/
  lastBell : Nat
deriving DecidableEq, Repr


/-! ### Spindle and actuator drive (chapter 09) -/

/-- What the spindle gates do in a carrier period: all off, all low switches on (R212), or for each phase the start and length in ticks of its
high-side pulse, the phase's gates being off where there is none (R201). -/
inductive SpDrive where
  | off
  | short
  | pulses (l : List (Option (Nat × Nat)))
deriving DecidableEq, Repr

/-- What the gates of a VCM do: the direction and length in ticks of the pulse in a carrier period, and whether it recirculates in slow decay
(R215). -/
structure VcmDrive where
  neg : Bool
  width : Nat
  slow : Bool
deriving DecidableEq, Repr

/-- The duties of an update (R202): spindle; the two phases sampled in its periods (R201); each VCM, with its gates off where none; BRK_G. -/
structure MotDrive where
  sp : SpDrive
  pair : Nat × Nat
  vcm : List (Option VcmDrive)
  chop : Bool
deriving DecidableEq, Repr

/-- Every gate off. -/
def MotDrive.none : MotDrive := { sp := .off, pair := (0, 1), vcm := [Option.none, Option.none, Option.none, Option.none], chop := false }

/-- The motor drive. Spindle STATE lies in MOT_SP_STAT, actuator STATE in MOT_a_STATUS. -/
structure MotU where
  /-- Start failures and phase swaps counted in the START in hand (R207, R209). -/
  startFails : Nat
  swaps : Nat
  /-- Braking or a winding short waits until every actuator is PARKED (R211). -/
  brakeWait : Bool
  /-- MOT_CTRL.EN has been set since the start (R196). -/
  beatSeen : Bool
  /-- Every gate is off (R214, R220). -/
  allOff : Bool
  /-- The brake chopper (R213): BRK_G, whether it was high in this bell and the bell before, ticks of continuous high and
  the bus when they began, held off after a fault. -/
  chopOn : Bool
  chopBell : Bool
  chopPrev : Bool
  chopTicks : Nat
  chopStart : Nat
  chopOff : Bool
  /-- What the last update drives (R202). -/
  drive : MotDrive
  /-- The motor ADC (R200): slots of a pair still to convert, place in the six-slot cycle and in its rotating slot, place in the rotation of
  phase voltages, the pair's samples so far in mA; a PWM switchover falls in the period of the pair to come (R201). -/
  pairLeft : Nat
  adcCyc : Nat
  adcRot : Nat
  adcVolt : Nat
  pairGot : List (Nat × Int)
  swOver : Bool
  /-- The currents of phases U, V and W in the last complete carrier period, in mA (R203). -/
  current : List Int
  /-- Integral terms of the d and q loops and of the VCM loops, in 1/65,536 mV (R203, R215). -/
  accD : Int
  accQ : Int
  accV : List Int
  /-- Updates since a catch locked, while the current is ramped in (R207). -/
  rampIn : Option Nat
  /-- Device time at which the spindle state was entered. -/
  spFrom : Nat
  /-- Travel integrated in a load, in mV × 10 ns (R217). -/
  travel : List Int
  /-- Observer: last speed, updates with back-EMF off, bells of agreement and of drift with the encoder, usable as a
  fallback (R205, R210). -/
  lastRpm : Nat
  emfRun : Nat
  agree : Nat
  drift : Nat
  obsOk : Bool
  /-- Learning ENC_OFS (R205): bells so far, the first difference of the angles, and relative to it their sum, least and greatest. -/
  learn : Nat
  learnBase : Int
  learnSum : Int
  learnLo : Int
  learnHi : Int
  /-- Microactuator frames: number, values of the last frame, heads that stepped by more than 1,024 codes in it and in the
  frame before it. -/
  frameNo : Nat
  maSent : List Int
  stepNow : List Bool
  stepLast : List Bool
  /-- Consecutive frames with MA_OC and MA_OPEN (R219); consecutive bad return words; LANE_CRC reports (R198). -/
  ocRun : List Nat
  openRun : List Nat
  badWords : Nat
  laneCrc : Nat
  /-- The polarity has been swapped in this VCM test, which waits for its repeat; VCM_OC has come in a return word since it began (R216). -/
  swapped : List Bool
  testOc : List Bool
  waiting : List Bool
  /-- The actuator is loaded again once PARKED (R176). -/
  reload : List Bool
  /-- The spindle generators have reloaded after a disagreement (R220). -/
  reloaded : Bool
  /-- Ride-through: time of entry, flash write done (R222). -/
  rideStart : Option Nat
  rideFlash : Bool
deriving DecidableEq, Repr



/-! ### Lighter channels (chapter 12) -/

/-- A burst issued whose response has not been taken: its offset and length, the bytes that its buffer or far read
brought, what failed in them (0 nothing, else the CAUSE of R280), and whether it has been answered. -/
structure LBurst where
  ofs : Nat
  len : Nat
  data : List (BitVec 8)
  fail : Nat
  answered : Bool
deriving DecidableEq, Repr

/-- A transfer record (R274) that has been promoted, with its progress. -/
structure LRec where
  buf : Nat
  far : Nat
  /-- Quay address and traffic class of a peer far end. -/
  qaddr : Nat
  qcls : Nat
  count : Nat
  /-- 0 buffer to far, 1 far to buffer; 0 host, 1 buffer, 2 peer. -/
  dir : Nat
  kind : Nat
  mapped : Bool
  tag : Nat
  paced : Bool
  line : Nat
  prio : Nat
  ns : Bool
  stream : Bool
  /-- The command it serves, when the scheduler programmed it. -/
  cmd : Option Nat
  /-- Offset of the next burst; bursts without their response; ranges answered. -/
  issued : Nat
  bursts : List LBurst
  done : List (Nat × Nat)
  /-- End of the host bytes written; flush read outstanding, and completed (R279). -/
  wrote : Nat
  flush : Bool
  flushed : Bool
  /-- Marked bad: CAUSE and END_OFFSET. -/
  bad : Option (Nat × Nat)
  stopped : Bool
  /-- Its Quay transfer, and whether that has been applied in whole (R278, R420). -/
  xfer : Option Nat
  applied : Bool
  /-- Its channel was fenced: the scheduler reissues the rest on another channel (R283). -/
  reissue : Bool
deriving DecidableEq, Repr

/-- A Lighter channel: its records not yet reported, oldest first; the command its armed shadow serves; issue slots it has
waited while ready (R277). -/
structure LgtCh where
  recs : List LRec
  shadowCmd : Option Nat
  waited : Nat
deriving DecidableEq, Repr

/-- A channel at reset. -/
def LgtCh.init : LgtCh where
  recs := []
  shadowCmd := none
  waited := 0

/-- The Lighter: channels, the channel served last in each PRIO, the channel of the last burst, bytes moved below one
KiB. -/
structure LgtU where
  chans : List LgtCh
  last : List Nat
  prev : Option Nat
  bytes : Nat
deriving DecidableEq, Repr


/-! ### Pack engine (chapter 13) -/

/-- A Pack job (R286). -/
structure PJob where
  op : Nat
  level : Nat
  enc : Bool
  slot : Nat
  prio : Nat
  fw : Bool
  inTag : Nat
  inOfs : Nat
  inLen : Nat
  outTag : Nat
  outOfs : Nat
  token : Nat
  restarted : Bool
deriving DecidableEq, Repr

/-- A job that an instance runs: the slot it has bound with its key, input bytes taken, whether it is to stop at its next input page
boundary (R302). -/
structure PRun where
  job : PJob
  key : Option (Nat × List (BitVec 8))
  /-- Refused at its start: the CODE it ends with. -/
  code : Option Nat
  taken : Nat
  drop : Bool
deriving DecidableEq, Repr

/-- A job result (R300). -/
structure PRes where
  token : Nat
  code : Nat
  inst : Nat
  restarted : Bool
  outLen : Nat
  errPos : Nat
  granules : Nat
deriving DecidableEq, Repr

/-- A key slot (R294): 0 EMPTY, 1 LOADED, 2 ERASING; its 64 bytes. -/
structure KeySlot where
  state : Nat
  key : List (BitVec 8)
deriving DecidableEq, Repr

/-- The Pack engine. -/
structure PackU where
  queue : List PJob
  runs : List (Option PRun)
  keys : List KeySlot
  /-- Key words written since the index was last reset (R303). -/
  keyData : List Word
  results : List PRes
  /-- KiB counters' remainders in bytes: input and output of each instance. -/
  rem : List Nat
deriving DecidableEq, Repr


/-! ### PCI Express link (chapter 14) and Berth rings (chapter 15) -/

/-- An MSI-X table entry (R311). -/
structure Msix where
  addr : Nat
  data : Nat
  masked : Bool
  pending : Bool
deriving DecidableEq, Repr

/-- An MSI-X entry at reset: masked. -/
def Msix.init : Msix where
  addr := 0
  data := 0
  masked := true
  pending := false

/-- The endpoint: written configuration space dwords by offset, MSI-X table, PERST_N low, function resetting, D3hot. -/
structure LinkU where
  cfgSpace : Sparse Word
  msix : List Msix
  perst : Bool
  resetting : Bool
  /-- A function reset waits for the end of a firmware activation (R320). -/
  owed : Bool
  d3hot : Bool
  /-- D3hot has been requested and the drain of R314 goes on. -/
  d3wait : Bool
deriving DecidableEq, Repr

/-- A ring. STATE, indices and settings lie in its registers. -/
structure RingU where
  /-- Entries completed beyond the head: index and result. -/
  done : List (Nat × List (BitVec 8))
  pubSeq : Nat
  /-- A publication word is due; bell of the last one (R334). -/
  pubDue : Bool
  pubBell : Option Nat
  /-- A message held back by coalescing, and the bell of the last message (R347). -/
  held : Bool
  msgBell : Option Nat
  /-- Entries fetched of its quota in the present round (R385). -/
  spent : Nat
  /-- End of the entries that a disable keeps (R338). -/
  keepTo : Option Nat
  /-- Result of the entry at FREEZE_AT (R380). -/
  failRes : List (BitVec 8)
deriving DecidableEq, Repr

/-- A ring at reset. -/
def RingU.init : RingU where
  done := []
  pubSeq := 0
  pubDue := false
  pubBell := none
  held := false
  msgBell := none
  spent := 0
  keepTo := none
  failRes := []

/-- A fetch read outstanding. -/
structure FetchRd where
  ring : Nat
  first : Nat
  count : Nat
deriving DecidableEq, Repr

/-- The queue engine. -/
structure BqU where
  rings : List RingU
  /-- Abort marks: (ring, index) (R340). -/
  marks : List (Nat × Nat)
  /-- Last URGENT ring served, and last ring of the weighted round (R385). -/
  rrUrgent : Nat
  rrRing : Nat
  reads : List FetchRd
  /-- Fetching is stopped for firmware activation or D3hot (R344, R314). -/
  stopped : Bool
deriving DecidableEq, Repr


/-! ### Commands in hand (chapters 15 to 17) -/

/-- Where a command comes from. -/
inductive CSrc where
  /-- Entry `idx` of a ring. -/
  | ring (r idx : Nat)
  /-- A media request of a fabric peer: its quay address and XFER_ID (R422). -/
  | peer (src xid : Nat)
  /-- Write-back data of a completed command being destaged (R394). -/
  | destage
deriving DecidableEq, Repr

/-- How far a command has come (R332, R333). -/
inductive CPhase where
  | fetched
  /-- Its lock entries are laid down and it waits for locks or pages (R390). -/
  | waiting
  | started
  /-- Its work has ended and its status is decided. -/
  | ended
deriving DecidableEq, Repr

/-- A Lighter record to program: bytes from `ofs` of the page map of the command, at a far address. -/
structure LSpec where
  /-- Tag of the page map that holds the data. -/
  map : Nat
  ofs : Nat
  far : Nat
  count : Nat
  dir : Nat
deriving DecidableEq, Repr

/-- One fetched command. -/
structure Cmd where
  tag : Nat
  src : CSrc
  /-- The 64 bytes of the entry (R349). -/
  entry : List (BitVec 8)
  /-- Order of fetch, and device time of it. -/
  order : Nat
  time : Nat
  phase : CPhase
  /-- Priority class of the ring: 0 URGENT to 3 LOW. -/
  cls : Nat
  /-- Status decided so far (0 SUCCESS) and the lowest LBA that caused it; count of sectors concerned (R356). -/
  status : Nat
  failLba : Nat
  failCount : Nat
  /-- SPECIFIC of the result (R356), and WB (R355). -/
  spec : Nat
  wb : Bool
  /-- Recovery limit of the entry (R98), LIMITED, marginal sectors recovered (R356). -/
  limit : Nat
  limited : Bool
  marginal : Nat
  /-- The command was stopped by ABORT, FLR or a disable: decodes report DROPPED (R103). -/
  dropped : Bool
  /-- Tags of the ABORT commands that wait for its result (R340). -/
  abortedBy : List Nat
  /-- Step reached in the command's own work. -/
  stage : Nat
  /-- Host page list (R352). -/
  list : List Nat
  /-- Lighter records to program, those programmed and not yet ended, CAUSE of one that ended BAD. -/
  recs : List LSpec
  opened : Nat
  badCause : Nat
  /-- Write stamp (R34); first sector placed in the zone, for an append (R19, R360); sectors of its media work. -/
  stamp : Nat
  first : Option Nat
  zone : Nat
  count : Nat
  /-- Result of its Pack job (R300). -/
  pack : Option PRes
  /-- Zones still to be done and zones changed, for ZONE MANAGEMENT with ALL (R361). -/
  todoZones : List Nat
  changed : Nat
  /-- Header fields of a parcel: ORIG_LEN and KEY_SLOT (R356). -/
  origLen : Nat
  keySlot : Nat
  /-- Internal tag of the page map that takes a Pack job's output (R286). -/
  outTag : Option Nat
  /-- Its fabric transfer, and the status that a peer returned (R356, R368). -/
  xid : Option Nat
  peerStatus : Nat
  secs : List SecWork
deriving DecidableEq, Repr

/-- A command with nothing decided. -/
def Cmd.init (tag : Nat) (src : CSrc) (entry : List (BitVec 8)) : Cmd where
  tag := tag
  src := src
  entry := entry
  order := 0
  time := 0
  phase := .fetched
  cls := 3
  status := 0
  failLba := 0
  failCount := 0
  spec := 0
  wb := false
  limit := 0
  limited := false
  marginal := 0
  dropped := false
  abortedBy := []
  stage := 0
  list := []
  recs := []
  opened := 0
  badCause := 0
  stamp := 0
  first := none
  zone := 0
  count := 0
  pack := none
  todoZones := []
  changed := 0
  origLen := 0
  keySlot := 0
  outTag := none
  xid := none
  peerStatus := 0
  secs := []


/-! ### Scheduler (chapter 17) -/

/-- The lock modes of R388. -/
inductive LockMode where
  | shared | exclusive | append | zone
deriving DecidableEq, Repr

/-- A lock table entry (R387): sectors `lo` to `hi` - 1 of a zone, and the order of fetch of its owner. -/
structure LockEnt where
  zone : Nat
  lo : Nat
  hi : Nat
  mode : LockMode
  tag : Nat
  order : Nat
  granted : Bool
deriving DecidableEq, Repr

/-- Write-back data held for a sector: its buffer address in the mirrored range and the command record that destages it
(R358). -/
structure WbEnt where
  lba : Nat
  addr : Nat
  tag : Nat
  /-- Order of fetch of the command that brought it. -/
  order : Nat
  /-- It can no longer be written (R366). -/
  lost : Bool
deriving DecidableEq, Repr

/-- A domain's dispatcher: the zone and tier that its heads are sent to, the bell of its last step, whether an URGENT candidate
has arrived, the command chosen last, and the URGENT candidates of its last step. -/
structure DomU where
  at_ : Option (Nat × Nat)
  stepBell : Nat
  urgent : Bool
  chosen : Option Nat
  seen : List Nat
deriving DecidableEq, Repr

/-- A dispatcher at reset. -/
def DomU.init : DomU where
  at_ := none
  stepBell := 0
  urgent := false
  chosen := none
  seen := []

/-- The command scheduler. -/
structure SchU where
  locks : List LockEnt
  order : Nat
  wb : List WbEnt
  doms : List DomU
  /-- Device time at which the idle period began (R398). -/
  idleSince : Option Nat
  /-- Admin commands that wait for a power state (R400). -/
  pwrWait : List Nat
  /-- Write-back caching is enabled; it is forced off until the next start; write-back data has become unwritable (R358, R382). -/
  wbOn : Bool
  wbForced : Bool
  wbUnwritable : Bool
  /-- Sectors logged as marginal and sectors unrecovered since the start (R381, R382). -/
  margCount : Nat
  unrec : Nat
  /-- A firmware activation: tag of its command, slot, time of its start (R344, R454). -/
  activate : Option (Nat × Nat × Nat)
deriving DecidableEq, Repr


/-! ### Quay fabric (chapter 18) -/

/-- A Quay frame in fields (R407). -/
structure QFrame where
  typ : Nat
  cls : Nat
  ttl : Nat
  dst : Nat
  src : Nat
  seq : Nat
  xid : Nat
  ofs : Nat
  payload : List (BitVec 8)
deriving DecidableEq, Repr

/-- A data-class frame waiting at a port for credit: relayed or local (R416), and when it was queued. -/
structure QEnt where
  frame : QFrame
  relayed : Bool
  /-- The port whose receive slot a relayed frame holds (R417). -/
  inPort : Nat
  since : Nat
deriving DecidableEq, Repr

/-- A Quay port. Its STATE lies in QFB_p_STATUS. -/
structure QPortU where
  sendQ : List QEnt
  /-- Credits held for each class, and slots freed and not yet returned (R417). -/
  credits : List Nat
  freed : List Nat
  /-- When the first of them was freed (R417). -/
  freedAt : Nat
  /-- Weights left in this round of the weighted round robin, and whether each class sent a relayed frame last (R416). -/
  wrr : List Nat
  lastRelay : List Bool
  /-- The neighbour's SERIAL and identity digest, once HELLO has been exchanged. -/
  nbr : Option (Nat × Nat)
  /-- Times of training failures, and whether the port has once been UP (R405). -/
  fails : List Nat
  everUp : Bool
  /-- When it last sent and last received a frame. -/
  lastTx : Nat
  lastRx : Nat
  /-- Frames discarded for a CRC failure (R378, R409). -/
  crcErrs : Nat
deriving DecidableEq, Repr

/-- A port at reset. -/
def QPortU.init : QPortU where
  sendQ := []
  credits := [0, 0, 0]
  freed := [0, 0, 0]
  freedAt := 0
  wrr := [0, 0, 0]
  lastRelay := [false, false, false]
  nbr := none
  fails := []
  everUp := false
  lastTx := 0
  lastRx := 0
  crcErrs := 0

/-- A link-state advertisement held in the database (R412). -/
structure Lsa where
  origin : Nat
  addr : Nat
  assigned : Bool
  valid : Bool
  seq : Nat
  nbrs : List Nat
  time : Nat
deriving DecidableEq, Repr

/-- A route: hops, next-hop ports on a shortest path, the port in use (R414). -/
structure Route where
  hops : Nat
  ports : Nat
  port : Nat
deriving DecidableEq, Repr

/-- What an outbound transfer serves (R420). -/
inductive XWork where
  /-- A Lighter record of this channel, DIR 0 or 1. -/
  | lgtWrite (n : Nat) | lgtRead (n : Nat)
  /-- A PEER COPY push or pull of this command tag. -/
  | push (tag : Nat) | pull (tag : Nat)
deriving DecidableEq, Repr

/-- Where an outbound transfer stands. -/
inductive XPhase where
  /-- Request or data being sent or received. -/
  | running
  /-- COMMIT sent and no RESULT yet (R423). -/
  | inDoubt
  /-- A RESULT RETRY refused it: it is sent again until the time limit (R422). -/
  | retryWait
  /-- Abandoned: it restarts after ROUTE_QUIET (R425). -/
  | quiet
deriving DecidableEq, Repr

/-- An outbound transfer, at its initiator. -/
structure XOut where
  xid : Nat
  work : XWork
  dst : Nat
  cls : Nat
  phase : XPhase
  /-- Data sent, or staged from the responder; whole data ready for COMMIT. -/
  data : List (BitVec 8)
  total : Nat
  /-- Times of the last frame and of the first RETRY; restarts so far; status of the last refusal. -/
  last : Nat
  retryFrom : Option Nat
  retries : Nat
  refused : Nat
  /-- The request frame that opens it, when it has one. -/
  req : Option QFrame
deriving DecidableEq, Repr

/-- What an inbound transfer asks (R420 to R422). -/
inductive XAsk where
  | window
  | read (addr len : Nat)
  | media (op limit sectors lba : Nat)
  /-- A write that was refused before its COMMIT: the status it was refused with. -/
  | refused (status : Nat)
deriving DecidableEq, Repr

/-- An inbound transfer, at its responder. -/
structure XIn where
  xid : Nat
  src : Nat
  cls : Nat
  ask : XAsk
  data : List (BitVec 8)
  /-- First offset of a window write; the internal tag of the command that runs a media request. -/
  base : Option Nat
  tag : Option Nat
  last : Nat
  /-- COMMIT has been sent by the responder of a read, or checked good by the responder of a write. -/
  committed : Bool
deriving DecidableEq, Repr

/-- An entry of the outcome table (R423). -/
structure Outcome where
  xid : Nat
  src : Nat
  cls : Nat
  status : Nat
  lba : Nat
  /-- When its initiator last became reachable; none while it is unreachable. -/
  since : Option Nat
deriving DecidableEq, Repr

/-- The Quay engine. -/
structure QfbU where
  ports : List QPortU
  /-- The database, the time of its last change, own LSA sequence. -/
  lsas : List Lsa
  dbTime : Nat
  lsaSeq : Nat
  lsaTime : Nat
  routes : Sparse Route
  /-- Destinations whose next hop has changed, with the time (R418); lost peers (R415). -/
  changed : List (Nat × Nat)
  lost : List Nat
  /-- Serial and identity digest seen at each quay address, and digest at each serial (R410). -/
  seenAddr : Sparse (Nat × Nat)
  seenSerial : Sparse Nat
  outs : List XOut
  ins : List XIn
  outcomes : List Outcome
  /-- The copy of the outcome table in the ride-through area of the boot flash (R423, R477). -/
  saved : List Outcome
  nextXid : Nat
  /-- Next SEQ to send by destination × 4 + class, and the next expected by source × 4 + class (R418). -/
  sendSeq : Sparse Nat
  recvSeq : Sparse Nat
deriving DecidableEq, Repr

/-! ### Outputs and the whole state -/

/-- What the K4 sends out of its balls or to its own supervisor, in the order produced. -/
inductive OutEvent where
  /-- An interrupt to the Helm cores: the offset of the status register (or 0x1000_0000 + source) and the bit. -/
  | helmIrq (addr bit : Nat)
  /-- An MSI-X message on a vector (R311). -/
  | msix (vector : Nat)
  /-- An AER error message: true for Uncorrectable Internal Error (R316). -/
  | aer (uncorrectable : Bool)
  /-- An LTR message: exit latency reported (R400). -/
  | ltr (us : Nat)
  /-- A write to host memory, with its Relaxed Ordering and No Snoop attributes (R307, R261). -/
  | hostWrite (addr : Nat) (data : List Byte) (ro ns : Bool)
  /-- A read of host memory, `len` bytes; 0 is the zero-length flush read of R279. -/
  | hostRead (addr len : Nat) (ns : Bool)
  /-- The value returned by a register read. -/
  | regRead (value : Word)
  /-- A 32-bit frame on the preamplifier port of an actuator (R115). -/
  | paFrame (a : Act) (frame : Nat)
  /-- A microactuator frame: the 112 bits of each lane, none where it is held low (R197). -/
  | maFrame (lanes : List (Option (BitVec 112)))
  /-- A burst returned by the crossbar: data, per-byte uncorrectable mask, error response (R226). -/
  | xbarResp (data : List Byte) (ue : Nat) (err : Bool)
  /-- The answer to a request to a DRAM address, in the order of its port (R253). -/
  | cacheResp (port : Nat) (data : List Byte) (ue : List Bool) (err : Bool)
  /-- An all-bank refresh on a DRAM channel (R262). -/
  | ddrRefresh (ch : Nat)
  /-- The duties that apply from the start of the next carrier period (R202). -/
  | pwm (d : MotDrive)
  /-- HELM_BEAT changes level (R196). -/
  | helmBeat
  /-- A write gate opens or closes on a head: its write-data pair is active or idle (R112). -/
  | writeGate (head : Nat) (isOpen : Bool)
  /-- The bits of the fragment that a stream clocks out from this gate, its transitions in 1/64 bit after precompensation, where its first bit
  lies in units of 0.04 ns from the bell edge, and its bit rate in units of 5 Gbit/s ÷ 2^31 (R36 to R38, R109 to R111). -/
  | writeStream (head : Nat) (bits : List Bool) (transitions : List Nat) (start : Int) (rate : Nat)
  /-- A DOE data object or MGMT message handed to the Helm complex (R321, R408). -/
  | helmMessage (data : List Byte)
  /-- A command result delivered to the host by a transfer of `n` bytes from buffer pages (R351). -/
  | hostData (ring : Nat) (entry : Nat) (bytes : Nat)
  /-- A Completion Timeout logged in AER (R308). -/
  | aerTimeout
  /-- A received poisoned write, discarded and logged in AER (R316). -/
  | aerPoison
  /-- The completion of a BAR2 request (R310): 0 successful, 1 Completer Abort, 2 Unsupported Request, 3 poisoned. -/
  | bar2 (status : Nat) (data : List Byte)
  /-- A configuration request is answered with Configuration Request Retry Status from now on, or no longer (R312, R319). -/
  | retryStatus (on : Bool)
  /-- A frame leaves a Quay port (R406): start control block excluded, fill included. -/
  | quayFrame (port : Nat) (bytes : List Byte)
  /-- A Quay port starts or stops sending valid blocks (R405). -/
  | quayTx (port : Nat) (on : Bool)
deriving DecidableEq, Repr

/-- The whole machine: register file, units, the queue of waiting commands, the outputs and the model's own counter of
free values taken (log entry 2). -/
structure State where
  /-- Every register and holding copy, keyed by BAR0 offset; an unlisted offset reads its reset value (R525). -/
  regs : Sparse Word
  /-- The bell count, 48 bits (R13). -/
  bell : Nat
  sys : SysU
  watch : WatchU
  mem : MemU
  dram : DramU
  media : MediaU
  chans : List ChanU
  dec : DecU
  wrp : WrpU
  srv : SrvU
  ctl : CtlU
  mot : MotU
  seqs : List SeqU
  stores : StoreU
  lgt : LgtU
  pack : PackU
  link : LinkU
  bq : BqU
  cmds : List Cmd
  sch : SchU
  qfb : QfbU
  out : List OutEvent
  /-- The model's own field: how many free values have been taken. -/
  freeCtr : Nat
  /-- The commands waiting, first in, first out. -/
  pending : List Instr
deriving DecidableEq, Repr


/-- The machine right after reset: no supplies yet, BRING-UP, every register at its printed value (R525). -/
def State.reset : State where
  regs := []
  bell := 0
  sys :=
    { suppliesGood := false, inReset := true, startKind := .cold, startCause := 0, fromHalted := false,
      prepFailed := false, regOpen := false, gpio0Low := false, busHold := false, cfg := launchCfg, revision := 0,
      rollbackCommit := false, secVersion := 0, custPatchKey := none, keyWrapKey := none, wrapRequired := false,
      fuses := { locked := false, ownerHash := 0, ownerSealKey := 0, devSecret := 0, patchKey := 0, svc := 0, serial := 0 },
      flash := [], rec0 := PersistRec.blank, rec1 := PersistRec.blank, aonRec := none, opSeconds := 0, calendar := none,
      meas := List.replicate 8 0, time := 0, wdogFrom := 0, inputLog := 0, ckpts := 0,
      timers := List.replicate 8 none, pinOut := List.replicate 16 false, hostQ := [], helmQ := [], refLog := [],
      latches := [], activating := none, tempHot := false }
  watch :=
    { srcCnt := [], raised := List.replicate 5 0, fences := [], anchorReq := none, anchorAt := 0, armed := none, token := [], window := none, wBank := [],
      gap := none, rBank := [], rPos := 0, kats := [0, 0], telem := 0, telemBell := 0, ring := [], held := [], nextSeq := 0,
      snapSeq := 0, persisted := 0, aonSeq := 0, summary := [], rideArea := [],
      burst := [] }
  mem :=
    { bytes := [], flips := [], frameOf := [], pages := [], free := [], maps := [], elog := [], corrQ := [], retFrames := [],
      banks := [], migQ := [], planeErr := [] }
  dram :=
    { ways := [], miss := [], victims := [], waitQ := [], order := [], nextId := 0, maint := none, draining := false,
      reads := [], writes := [], ch := [DdrCh.init, DdrCh.init], refreshes := [0, 0] }
  media :=
    { zones := [], primary := [[], [], [], []], grown := [[], [], [], []], stamp := 0, stampMark := 0,
      foreign := [false, false, false, false], bindCount := [0, 0, 0, 0], bindRecs := List.replicate 4 ([], []), areas := List.replicate 4 (SysArea.blank, SysArea.blank), ready := [false, false, false, false],
      appendNo := 0 }
  chans := List.replicate 28 ChanU.init
  dec :=
    { engines := List.replicate 36 EngU.init,
      bufs := List.replicate 64 none, waiting := [], trialQ := [], deepQ := [], rereadQ := [], slots := [],
      unswept := [], heldRecs := [], quickMax := 8, deepGrant := 0, marginal := [], trace := [], clock := 0 }
  wrp :=
    { heads := List.replicate 24 HeadU.init, ports := List.replicate 4 PaPort.init, speedErr := false, speedRun := 0,
      supplyErr := false, supplyBad := 0, laneSwitch := false, ctlBlock := false, gatesOff := true, oscDev := false }
  srv := { heads := List.replicate 24 SrvH.init, results := [], period := 0, lead := 0 }
  ctl :=
    { loops := List.replicate 29 CtlLoop.init, acts := List.replicate 4 CtlAct.init, profs := [none, none, none, none, none],
      aref := [0, 0, 0, 0, 0], spRef := 0, coef := [[], []], flips := [], named := [], alarms := [[], []], katDue := false, katNext := 0, soleBells := 0, lastBell := 0 }
  mot :=
    { startFails := 0, swaps := 0, brakeWait := false, beatSeen := false, allOff := false, chopOn := false, chopBell := false,
      chopPrev := false, chopTicks := 0, chopStart := 0, chopOff := false, drive := MotDrive.none, pairLeft := 0,
      adcCyc := 0, adcRot := 0, adcVolt := 0, pairGot := [], swOver := false, current := [0, 0, 0], accD := 0, accQ := 0, accV := [0, 0, 0, 0],
      rampIn := none, spFrom := 0, travel := [0, 0, 0, 0], lastRpm := 0,
      emfRun := 0, agree := 0, drift := 0, obsOk := true, learn := 0, learnBase := 0, learnSum := 0, learnLo := 0, learnHi := 0, frameNo := 0, maSent := List.replicate 24 0,
      stepNow := List.replicate 24 false, stepLast := List.replicate 24 false, ocRun := List.replicate 24 0, openRun := List.replicate 24 0, badWords := 0, laneCrc := 0,
      swapped := [false, false, false, false], testOc := [false, false, false, false], waiting := [false, false, false, false],
      reload := [false, false, false, false], reloaded := false, rideStart := none,
      rideFlash := false }
  seqs := List.replicate 4 SeqU.init
  stores := { micro := [[], []], nano := [[], []], errs := [] }
  lgt := { chans := List.replicate 64 LgtCh.init, last := [63, 63, 63, 63], prev := none, bytes := 0 }
  pack :=
    { queue := [], runs := [none, none], keys := List.replicate 64 { state := 0, key := [] }, keyData := [], results := [],
      rem := [0, 0, 0, 0] }
  link :=
    { cfgSpace := [], msix := List.replicate 129 Msix.init, perst := false, resetting := false, owed := false, d3hot := false, d3wait := false }
  bq :=
    { rings := List.replicate 129 RingU.init, marks := [], rrUrgent := 127, rrRing := 127, reads := [], stopped := false }
  cmds := []
  sch :=
    { locks := [], order := 0, wb := [], doms := List.replicate 4 DomU.init, idleSince := none, pwrWait := [], wbOn := false,
      wbForced := false, wbUnwritable := false, margCount := 0, unrec := 0, activate := none }
  qfb :=
    { ports := List.replicate 4 QPortU.init, lsas := [], dbTime := 0, lsaSeq := 0, lsaTime := 0, routes := [], changed := [],
      lost := [], seenAddr := [], seenSerial := [], outs := [], ins := [], outcomes := [], saved := [], nextXid := 0, sendSeq := [],
      recvSeq := [] }
  out := []
  freeCtr := 0
  pending := []

end Sys2Proof.Machine
end

