-- ==== Sys2Proof/Machine/Format.lean ====
section
/-! DEFINITION. The media format arithmetic of chapter 02: CRC-32C, the tag, the zone and slot maps (R526, R27), the
division of a sector into fragments (R38) and the checks of a tier map entry (R26). -/

namespace Sys2Proof.Machine

/-! ### CRC-32C -/

/-- One bit of the reflected CRC-32C (polynomial 0x82F63B78). -/
def crc32cBit (c : BitVec 32) : BitVec 32 := if c.getLsbD 0 then (c >>> 1) ^^^ 0x82F63B78#32 else c >>> 1

/-- One byte of CRC-32C. -/
def crc32cByte (c : BitVec 32) (b : Byte) : BitVec 32 :=
  crc32cBit (crc32cBit (crc32cBit (crc32cBit (crc32cBit (crc32cBit (crc32cBit (crc32cBit (c ^^^ b.zeroExtend 32))))))))

/-- CRC-32C over a byte string. -/
def crc32c (bs : List Byte) : BitVec 32 := (bs.foldl crc32cByte 0xFFFFFFFF#32) ^^^ 0xFFFFFFFF#32

/-! ### The tag (R33) -/

/-- The 64-bit tag of a sector (R33). -/
def tagOf (lba kind : Nat) (first last : Bool) (gen : Nat) : Nat :=
  lba % 2 ^ 40 + 2 ^ 40 * (kind % 16) + 2 ^ 44 * b2n first + 2 ^ 45 * b2n last + 2 ^ 48 * (gen % 65536)

/-- Write stamp `a` is newer than `b` (R34). -/
def stampNewer (a b : Nat) : Bool :=
  let d := (a + 2 ^ 32 - b % 2 ^ 32) % 2 ^ 32
  decide (1 ≤ d) && decide (d ≤ 2 ^ 31 - 1)

/-! ### Zones and slots -/

/-- Sectors of 4,096 bytes in a zone (R526). -/
def zoneSectors (c : DriveCfg) : Nat := c.zoneMib * 256

/-- The present actuators in ascending order. -/
def presentActs (c : DriveCfg) : List Nat := (List.range 4).filter (bitOf c.actuators)

/-- The domain of zone `z` (R526). -/
def zoneDomain (c : DriveCfg) (z : Nat) : Nat :=
  (presentActs c).getD (z % (presentActs c).length) 0

/-- The local number of zone `z` in its domain (R526). -/
def zoneLocal (c : DriveCfg) (z : Nat) : Nat := z / (presentActs c).length

/-- Zone `z` is conventional: among its domain's first CONV_ZONES (R526). -/
def zoneConv (c : DriveCfg) (z : Nat) : Bool := decide (zoneLocal c z < c.convZones)

/-- The zone of a logical sector. -/
def lbaZone (c : DriveCfg) (lba : Nat) : Nat := lba / zoneSectors c

/-- The head positions of a tier, ascending (R27). -/
def tierPositions (e : TierEntry) : List Nat := (List.range 6).filter (bitOf e.headMask)

/-- Where slot `k` of a zone lies: head position, tier within the zone, sector on the track (R27). -/
def slotPlace (e : TierEntry) (k : Nat) : Nat × Nat × Nat :=
  let hs := tierPositions e
  let j := k / hs.length
  (hs.getD (k % hs.length) 0, j / e.spt, (j % e.spt + j / e.spt * e.skew) % e.spt)

/-- The slot of logical sector `s` of a zone whose slipped slots are `slips`, ascending: `s` plus the slipped slots at
or before it (R27, R43, R44). -/
def slotAfterSlips : List Nat → Nat → Nat
  | [], s => s
  | b :: bs, s => if b ≤ s then slotAfterSlips bs (s + 1) else s

/-! ### Fragments (R38, R40) -/

/-- Rounds down to a multiple of 16. -/
def floor16 (x : Nat) : Nat := x / 16 * 16

/-- The codeword bits that R38 places in the first fragment of a sector that starts with `b` bits before the servo
region: 37,120 when it fits whole, 0 when no sector starts. Lengths in bits. -/
def firstFragment (pre gap b : Nat) : Nat :=
  if pre + 37224 + gap ≤ b then 37120
  else if b < pre + 104 + 1312 then 0
  else min (floor16 (b - (pre + 104))) 36096

/-- The codeword bits that R38 places in a further fragment with `r` bits still to place: 0 when the region is pad. -/
def nextFragment (fpre gap r b : Nat) : Nat :=
  if fpre + 64 + r + gap ≤ b then r
  else
    let c := min (floor16 (b - (fpre + 64))) (floor16 (r - 1024))
    if b < fpre + 64 ∨ r < 1024 ∨ c < 1024 then 0 else c

/-- Nominal wedge period in units of 1/1,024 of 0.04 ns. -/
def nomPeriod (c : DriveCfg) : Nat := 60000000000 * 25 * 1024 / (c.rpm * c.wedges)

/-- Fragments that the rest of a sector needs when every data region has `b` bits; counts up to `fuel`. -/
def fragmentsNeeded (fpre gap b : Nat) : Nat → Nat → Nat
  | 0, _ => 1
  | fuel + 1, r =>
    let c := nextFragment fpre gap r b
    if c = r then 1 else if c = 0 then fuel + 2 else 1 + fragmentsNeeded fpre gap b fuel (r - c)

end Sys2Proof.Machine
end

