-- ==== Sys2Proof/Config.lean ====
section
/-! DEFINITION. What the manual leaves open: constants with no body, so that no proof can see a value, and the
cryptographic and coding functions that the manual names by standard and whose values it does not restate. -/

namespace Sys2Proof

/-- The n-th free value: any number (log entry 2). -/
opaque Config.free : Nat → Nat

/-- The trim output of a head with MA_GAIN zero, by head and centre: no output gives the displacement (R176, log entry 25). -/
opaque Config.zeroGainTrim : Nat → Int → Int
/-- Bells that a dispatcher counts for a seek of an actuator over a number of tracks when a profile limit is not above zero (R185, log
entry 25). -/
opaque Config.openSeekBells : Nat → Nat → Nat

/-! ### The current loops of the motor drive, whose arithmetic chapter 09 leaves open (log entry 25) -/

/-- Phase currents in mA at an electrical angle in 1/65,536 turn as d and q currents in 1/65,536 A (R203). -/
opaque Config.toDq : Nat → List Int → Int × Int
/-- The centred on-times of phases U, V and W in ticks with zero-sequence injection: angle, d and q voltages in 1/65,536 mV, bus in mV, carrier
period in ticks (R203). -/
opaque Config.modulate : Nat → Int → Int → Nat → Nat → List Nat
/-- The d and q voltages of the open-loop vector of RAMP, and its angle: RAMP_RATE, POLE_PAIRS, time since RAMP began (R204, R207). -/
opaque Config.rampVector : Nat → Nat → Nat → Nat × Int × Int
/-- The on-time in ticks that holds ALIGN_I in mA on a pair: the currents, the bus in mV, the carrier period (R207). -/
opaque Config.alignWidth : Nat → List Int → Nat → Nat → Nat
/-- The q current in 1/65,536 A that regulates the bus at RT_BUS: bus and RT_BUS in mV (R222). -/
opaque Config.generatorCurrent : Nat → Nat → Nat
/-- The VCM current in 1/65,536 A that a load or retract drives: the back-EMF wanted and measured, in mV (R217, R218). -/
opaque Config.emfCurrent : Int → Int → Int
/-- The on-time in ticks of a VCM bridge: voltage in 1/65,536 mV, bus in mV, carrier period (R215). -/
opaque Config.vcmWidth : Nat → Nat → Nat → Nat

/-! ### The analogue front end and loops of the read channels, which chapter 03 gives by purpose (log entry 141) -/

/-- The data bit of a servo dibit 00 or 11, which the dibit code does not use (R154, log entry 152). -/
opaque Config.badDibit : Bool → Bool
/-- The polyphase resampler at a RATE_FW below 5.0 Gbit/s: the retained samples of a stretch of ADC codes (R53). -/
opaque Config.resample : Nat → List Int → List Int
/-- Fraction bits of the baseline estimate (R56). -/
opaque Config.baselineBits : Nat
/-- The gain of a reader after one sample: shift, AGC_TARGET, gain, sample (R55). -/
opaque Config.gainStep : Nat → Nat → Nat → Int → Nat
/-- The phase that the zero-phase start takes from the preamble: frequency and sample at the start of the timing phase (R57). -/
opaque Config.zeroPhase : Nat → Int → Nat
/-- The timing loop after one sample: shifts KP and KI, frequency and phase, sample; the new frequency and phase (R57). -/
opaque Config.timingStep : Nat → Nat → Nat → Nat → Int → Nat × Nat
/-- The interpolator: the equalised sample at a bit position of a fragment, from TR_SNAP, the loop settings, the fragment's number and
the equalised stream from its commit start (R57, R75). -/
opaque Config.interpolate : Nat → List Nat → Nat → List Int → Int → Int
/-- The soft detector's output for a codeword bit before scaling, by target, noise-prediction words, and the equalised samples by
codeword bit (R66). -/
opaque Config.softOut : List Int → List (List Int) → List Int → Nat → Int
/-- Rounds a scaled detector output, in eighths, to an LLR (R66). -/
opaque Config.roundEighths : Int → Int
/-- The RMS noise of a reader over a sector in quarter LSB, from its retained samples (R79). -/
opaque Config.noiseRms : List Int → Nat
/-- The taps of the active set after least-mean-squares adaptation with step 2^-MU: MU, word of the set, its value, LLRs, samples (R65). -/
opaque Config.adaptTap : Nat → Nat → Nat → List Int → List (BitVec 8) → Nat

/-- SHA-384 of a byte string (R443, R451), as a number (log entry 7). -/
opaque Config.sha384 : List Byte → Nat
/-- ECDSA P-384 with SHA-384: public key, message, signature (R442, R444, log entry 7). -/
opaque Config.ecdsaOk : Nat → List Byte → List Byte → Bool
/-- HMAC-SHA-256 under a 256-bit key (R147, log entry 7). -/
opaque Config.hmac256 : Nat → List Byte → Nat
/-- HMAC-SHA-384 (R450, log entry 7). -/
opaque Config.hmac384 : Nat → List Byte → Nat
/-- AES-256-GCM decryption: key, IV, ciphertext, tag; none when the tag does not verify (R445, R374, log entry 7). -/
opaque Config.aesGcmOpen : Nat → List Byte → List Byte → List Byte → Option (List Byte)
/-- AES key unwrap of RFC 3394: key, wrapped bytes; none when the integrity check fails (R374, log entry 7). -/
opaque Config.aesUnwrap : Nat → List Byte → Option (List Byte)
/-- AES-256-XTS of one data unit, with ciphertext stealing: 64-byte key, tweak, plaintext (R295, log entry 7). -/
opaque Config.xtsEncrypt : List Byte → Nat → List Byte → List Byte
/-- Its inverse (R295, log entry 7). -/
opaque Config.xtsDecrypt : List Byte → Nat → List Byte → List Byte
/-- The raw DEFLATE stream that the encoder makes of a parcel's data at a LEVEL: the manual bounds the search and leaves its hash chains
open (R290, log entry 31). -/
opaque Config.deflate : Nat → List Byte → List Byte
/-- ECDSA P-384 public key of the private scalar `d`, as a number (R450, log entry 7). -/
opaque Config.publicKey : Nat → Nat
/-- An ECDSA P-384 signature by the private scalar `d` of a message, as 96 bytes (R48, R450, log entry 7). -/
opaque Config.ecdsaSign : Nat → List Byte → List Byte
/-- The SHA-384 hash of the Nimdal image key held by the boot ROM (R442). -/
opaque Config.nimdalKeyHash : Nat
/-- The SHA-384 hash of the Nimdal patch key held by the boot ROM (R147). -/
opaque Config.patchKeyHash : Nat
/-- The base microcode of the boot ROM, of which the manual prints a routine: the micro word at an address (R146). -/
opaque Config.baseMicro : Nat → Nat
/-- The base nano word at an address (R146). -/
opaque Config.baseNano : Nat → Nat
/-- The level that the board gives a general-purpose pin, by device time, a count and the pin (R502, log entry 135). -/
opaque Config.pinLevel : Nat → Nat → Nat → Bool
/-- The version of the boot ROM and of its base microcode, as measured (R152, R451). -/
opaque Config.bootVersion : Nat

end Sys2Proof
end

