-- ==== Sys2Proof/Machine/RegNames.lean ====
section
/-! DEFINITION. The names of the registers and of their fields (R500 to R502 and the register tables of every
chapter): `SRV_STATUS h` is the BAR0 offset of a register, `SRV_STATUS.STATE h` the field. -/

namespace Sys2Proof.Machine.Reg

def SYS_ID : Nat := 0x0
def SYS_ID.ID : Fld := ⟨SYS_ID, 31, 0⟩
def SYS_REV : Nat := 0x4
def SYS_REV.REV : Fld := ⟨SYS_REV, 7, 0⟩
def SYS_GLUE : Nat := 0x10
def SYS_GLUE.GROUPS : Fld := ⟨SYS_GLUE, 31, 0⟩
def SYS_GLUE_HOLD : Nat := 0x14
def SYS_GLUE_HOLD.HOLD : Fld := ⟨SYS_GLUE_HOLD, 16, 11⟩
def SYS_GLUE_STAT : Nat := 0x18
def SYS_GLUE_STAT.BUSY : Fld := ⟨SYS_GLUE_STAT, 0, 0⟩
def SYS_GLUE_STAT.DONE : Fld := ⟨SYS_GLUE_STAT, 1, 1⟩
def SYS_GLUE_STAT.REFUSED : Fld := ⟨SYS_GLUE_STAT, 2, 2⟩
def SYS_GLUE_STAT.CAUSE : Fld := ⟨SYS_GLUE_STAT, 6, 3⟩
def SYS_GLUE_STAT.GROUP : Fld := ⟨SYS_GLUE_STAT, 11, 7⟩
def SYS_GLUE_STAT.BELL : Fld := ⟨SYS_GLUE_STAT, 12, 12⟩
def SYS_GLUE_PEND : Nat := 0x1C
def SYS_GLUE_PEND.PEND : Fld := ⟨SYS_GLUE_PEND, 31, 0⟩
def SYS_STATUS : Nat := 0x20
def SYS_STATUS.REFUSED : Fld := ⟨SYS_STATUS, 0, 0⟩
def SYS_STATUS.PARTIAL : Fld := ⟨SYS_STATUS, 1, 1⟩
def SYS_STATUS.REF_OVF : Fld := ⟨SYS_STATUS, 2, 2⟩
def SYS_INT_EN : Nat := 0x24
def SYS_INT_EN.EN : Fld := ⟨SYS_INT_EN, 4, 0⟩
def SYS_REF_DATA0 : Nat := 0x28
def SYS_REF_DATA0.OFFSET : Fld := ⟨SYS_REF_DATA0, 20, 0⟩
def SYS_REF_DATA1 : Nat := 0x2C
def SYS_REF_DATA1.CAUSE : Fld := ⟨SYS_REF_DATA1, 3, 0⟩
def SYS_REF_DATA1.GROUP : Fld := ⟨SYS_REF_DATA1, 8, 4⟩
def SYS_REF_DATA1.INITIATOR : Fld := ⟨SYS_REF_DATA1, 10, 9⟩
def SYS_REF_DATA1.HOLDING : Fld := ⟨SYS_REF_DATA1, 11, 11⟩
def SYS_REF_DATA1.BELL : Fld := ⟨SYS_REF_DATA1, 31, 16⟩
def SYS_REF_CNT : Nat := 0x30
def SYS_REF_CNT.REFUSALS : Fld := ⟨SYS_REF_CNT, 15, 0⟩
def SYS_REF_CNT.NOT_LOGGED : Fld := ⟨SYS_REF_CNT, 31, 16⟩
def SYS_XING_STAT : Nat := 0x34
def SYS_XING_STAT.HOST_PEND : Fld := ⟨SYS_XING_STAT, 6, 0⟩
def SYS_XING_STAT.HELM_PEND : Fld := ⟨SYS_XING_STAT, 13, 7⟩
def SYS_OWN_SEL : Nat := 0x40
def SYS_OWN_SEL.CLASS : Fld := ⟨SYS_OWN_SEL, 1, 0⟩
def SYS_OWN_SEL.INSTANCE : Fld := ⟨SYS_OWN_SEL, 7, 2⟩
def SYS_OWN_DATA : Nat := 0x44
def SYS_OWN_DATA.OWNER : Fld := ⟨SYS_OWN_DATA, 7, 0⟩
def SYS_OWN_DATA.OWNED : Fld := ⟨SYS_OWN_DATA, 8, 8⟩
def SYS_TMR_CFG (i : Nat) : Nat := 0x60 + i * 0x4
def SYS_TMR_CFG.USE (i : Nat) : Fld := ⟨SYS_TMR_CFG i, 1, 0⟩
def SYS_TMR_CFG.PERIODIC (i : Nat) : Fld := ⟨SYS_TMR_CFG i, 2, 2⟩
def SYS_TMR_CFG.PERIOD (i : Nat) : Fld := ⟨SYS_TMR_CFG i, 26, 3⟩
def SYS_TMR_STAT : Nat := 0x80
def SYS_TMR_STAT.EXPIRED : Fld := ⟨SYS_TMR_STAT, 7, 0⟩
def SYS_TMR_CAP (i : Nat) : Nat := 0xA0 + i * 0x4
def SYS_TMR_CAP.CAP (i : Nat) : Fld := ⟨SYS_TMR_CAP i, 31, 0⟩
def SYS_MODE : Nat := 0x100
def SYS_MODE.MODE : Fld := ⟨SYS_MODE, 2, 0⟩
def SYS_MODE.MEDIA_NOT_READY : Fld := ⟨SYS_MODE, 3, 3⟩
def SYS_MODE.QUIESCED : Fld := ⟨SYS_MODE, 4, 4⟩
def SYS_MODE.RESCUE : Fld := ⟨SYS_MODE, 5, 5⟩
def SYS_MODE.FOREIGN : Fld := ⟨SYS_MODE, 6, 6⟩
def SYS_MODE.FLASH_ABSENT : Fld := ⟨SYS_MODE, 7, 7⟩
def SYS_MODE.FENCED : Fld := ⟨SYS_MODE, 8, 8⟩
def SYS_START : Nat := 0x104
def SYS_START.KIND : Fld := ⟨SYS_START, 1, 0⟩
def SYS_START.CAUSE : Fld := ⟨SYS_START, 4, 2⟩
def SYS_START.FROM_HALTED : Fld := ⟨SYS_START, 5, 5⟩
def SYS_START.SLOT : Fld := ⟨SYS_START, 6, 6⟩
def SYS_START.FALLBACK : Fld := ⟨SYS_START, 7, 7⟩
def SYS_START.FAILED : Fld := ⟨SYS_START, 10, 8⟩
def SYS_START.ALIVE : Fld := ⟨SYS_START, 11, 11⟩
def SYS_START.STEP : Fld := ⟨SYS_START, 15, 12⟩
def SYS_RESET_CMD : Nat := 0x108
def SYS_RESET_CMD.CMD : Fld := ⟨SYS_RESET_CMD, 31, 0⟩
def SYS_WDOG_CFG : Nat := 0x10C
def SYS_WDOG_CFG.PERIOD : Fld := ⟨SYS_WDOG_CFG, 13, 0⟩
def SYS_WDOG_CFG.EN : Fld := ⟨SYS_WDOG_CFG, 16, 16⟩
def SYS_HELM_STAT : Nat := 0x110
def SYS_HELM_STAT.CORE_OK : Fld := ⟨SYS_HELM_STAT, 2, 0⟩
def SYS_HELM_STAT.SPARE : Fld := ⟨SYS_HELM_STAT, 4, 3⟩
def SYS_HELM_STAT.HANDOVER : Fld := ⟨SYS_HELM_STAT, 5, 5⟩
def SYS_HELM_STAT.SPARE_FAIL : Fld := ⟨SYS_HELM_STAT, 6, 6⟩
def SYS_WDOG_KICK : Nat := 0x114
def SYS_WDOG_KICK.KICK : Fld := ⟨SYS_WDOG_KICK, 31, 0⟩
def SYS_HELM_INT_EN : Nat := 0x118
def SYS_HELM_INT_EN.EN : Fld := ⟨SYS_HELM_INT_EN, 6, 5⟩
def SYS_PWR_CYCLES : Nat := 0x120
def SYS_PWR_CYCLES.CNT : Fld := ⟨SYS_PWR_CYCLES, 31, 0⟩
def SYS_WARM_STARTS : Nat := 0x124
def SYS_WARM_STARTS.CNT : Fld := ⟨SYS_WARM_STARTS, 31, 0⟩
def SYS_OP_SEC_LO : Nat := 0x128
def SYS_OP_SEC_LO.SEC : Fld := ⟨SYS_OP_SEC_LO, 31, 0⟩
def SYS_OP_SEC_HI : Nat := 0x12C
def SYS_OP_SEC_HI.SEC : Fld := ⟨SYS_OP_SEC_HI, 31, 0⟩
def SYS_HELM_CNT : Nat := 0x130
def SYS_HELM_CNT.HANDOVERS : Fld := ⟨SYS_HELM_CNT, 7, 0⟩
def SYS_HELM_CNT.REPLAYS : Fld := ⟨SYS_HELM_CNT, 15, 8⟩
def SYS_MEAS_SEL : Nat := 0x140
def SYS_MEAS_SEL.INDEX : Fld := ⟨SYS_MEAS_SEL, 3, 0⟩
def SYS_MEAS_SEL.WORD : Fld := ⟨SYS_MEAS_SEL, 7, 4⟩
def SYS_MEAS_DATA : Nat := 0x144
def SYS_MEAS_DATA.DATA : Fld := ⟨SYS_MEAS_DATA, 31, 0⟩
def SYS_FUSE_STAT : Nat := 0x150
def SYS_FUSE_STAT.LOCKED : Fld := ⟨SYS_FUSE_STAT, 0, 0⟩
def SYS_FUSE_STAT.OWNER_SET : Fld := ⟨SYS_FUSE_STAT, 1, 1⟩
def SYS_FUSE_STAT.SVC : Fld := ⟨SYS_FUSE_STAT, 15, 8⟩
def SYS_SERIAL_LO : Nat := 0x158
def SYS_SERIAL_LO.SERIAL : Fld := ⟨SYS_SERIAL_LO, 31, 0⟩
def SYS_SERIAL_HI : Nat := 0x15C
def SYS_SERIAL_HI.SERIAL : Fld := ⟨SYS_SERIAL_HI, 31, 0⟩
def BQ_BASE_LO (i : Nat) : Nat := 0x10000 + i * 0x100
def BQ_BASE_LO.BASE (i : Nat) : Fld := ⟨BQ_BASE_LO i, 31, 6⟩
def BQ_BASE_HI (i : Nat) : Nat := 0x10004 + i * 0x100
def BQ_BASE_HI.BASE (i : Nat) : Fld := ⟨BQ_BASE_HI i, 31, 0⟩
def BQ_RES_LO (i : Nat) : Nat := 0x10008 + i * 0x100
def BQ_RES_LO.RES (i : Nat) : Fld := ⟨BQ_RES_LO i, 31, 6⟩
def BQ_RES_HI (i : Nat) : Nat := 0x1000C + i * 0x100
def BQ_RES_HI.RES (i : Nat) : Fld := ⟨BQ_RES_HI i, 31, 0⟩
def BQ_CFG (i : Nat) : Nat := 0x10010 + i * 0x100
def BQ_CFG.DEPTH_M1 (i : Nat) : Fld := ⟨BQ_CFG i, 15, 0⟩
def BQ_CFG.CLASS (i : Nat) : Fld := ⟨BQ_CFG i, 17, 16⟩
def BQ_CFG.WEIGHT (i : Nat) : Fld := ⟨BQ_CFG i, 25, 18⟩
def BQ_CFG.NS (i : Nat) : Fld := ⟨BQ_CFG i, 26, 26⟩
def BQ_CFG.INT_EN (i : Nat) : Fld := ⟨BQ_CFG i, 27, 27⟩
def BQ_CFG.COAL (i : Nat) : Fld := ⟨BQ_CFG i, 31, 28⟩
def BQ_DOORBELL (i : Nat) : Nat := 0x10014 + i * 0x100
def BQ_DOORBELL.TAIL (i : Nat) : Fld := ⟨BQ_DOORBELL i, 15, 0⟩
def BQ_STATE (i : Nat) : Nat := 0x10018 + i * 0x100
def BQ_STATE.STATE (i : Nat) : Fld := ⟨BQ_STATE i, 2, 0⟩
def BQ_STATE.WINDOW_FULL (i : Nat) : Fld := ⟨BQ_STATE i, 3, 3⟩
def BQ_STATE.DB_REFUSED (i : Nat) : Fld := ⟨BQ_STATE i, 4, 4⟩
def BQ_STATE.FETCH_ERR (i : Nat) : Fld := ⟨BQ_STATE i, 5, 5⟩
def BQ_STATE.FROZE (i : Nat) : Fld := ⟨BQ_STATE i, 6, 6⟩
def BQ_STATE.FREEZE_AT (i : Nat) : Fld := ⟨BQ_STATE i, 31, 16⟩
def BQ_INDEX (i : Nat) : Nat := 0x1001C + i * 0x100
def BQ_INDEX.FETCH (i : Nat) : Fld := ⟨BQ_INDEX i, 15, 0⟩
def BQ_INDEX.HEAD (i : Nat) : Fld := ⟨BQ_INDEX i, 31, 16⟩
def BQ_CTRL : Nat := 0x1F000
def BQ_CTRL.ADMIN_EN : Fld := ⟨BQ_CTRL, 0, 0⟩
def BQ_STATUS : Nat := 0x1F004
def BQ_STATUS.QUIESCED : Fld := ⟨BQ_STATUS, 0, 0⟩
def BQ_STATUS.RESCUE : Fld := ⟨BQ_STATUS, 1, 1⟩
def BQ_STATUS.MEDIA_NOT_READY : Fld := ⟨BQ_STATUS, 2, 2⟩
def BQ_STATUS.TAGS_FULL : Fld := ⟨BQ_STATUS, 3, 3⟩
def BQ_STATUS.MARKS_FULL : Fld := ⟨BQ_STATUS, 4, 4⟩
def BQ_INT_EN : Nat := 0x1F008
def BQ_INT_EN.EN : Fld := ⟨BQ_INT_EN, 4, 0⟩
def BQ_INFLIGHT : Nat := 0x1F00C
def BQ_INFLIGHT.IO : Fld := ⟨BQ_INFLIGHT, 13, 0⟩
def BQ_INFLIGHT.ADMIN : Fld := ⟨BQ_INFLIGHT, 20, 14⟩
def BQ_ENABLED (i : Nat) : Nat := 0x1F010 + i * 0x4
def BQ_ENABLED.MASK (i : Nat) : Fld := ⟨BQ_ENABLED i, 31, 0⟩
def BQ_FROZEN (i : Nat) : Nat := 0x1F020 + i * 0x4
def BQ_FROZEN.MASK (i : Nat) : Fld := ⟨BQ_FROZEN i, 31, 0⟩
def BQ_FRZ_SEL : Nat := 0x1F030
def BQ_FRZ_SEL.RING : Fld := ⟨BQ_FRZ_SEL, 6, 0⟩
def BQ_FRZ_SEL.WORD : Fld := ⟨BQ_FRZ_SEL, 13, 7⟩
def BQ_FRZ_DATA : Nat := 0x1F034
def BQ_FRZ_DATA.DATA : Fld := ⟨BQ_FRZ_DATA, 31, 0⟩
def BQ_FETCH_CNT : Nat := 0x1F038
def BQ_FETCH_CNT.CNT : Fld := ⟨BQ_FETCH_CNT, 31, 0⟩
def BQ_PUB_CNT : Nat := 0x1F03C
def BQ_PUB_CNT.CNT : Fld := ⟨BQ_PUB_CNT, 31, 0⟩
def BQ_DB_CNT : Nat := 0x1F040
def BQ_DB_CNT.REFUSED : Fld := ⟨BQ_DB_CNT, 15, 0⟩
def BQ_DB_CNT.FETCH_ERR : Fld := ⟨BQ_DB_CNT, 31, 16⟩
def BQ_ABORT_CNT : Nat := 0x1F044
def BQ_ABORT_CNT.ABORTED : Fld := ⟨BQ_ABORT_CNT, 15, 0⟩
def BQ_ABORT_CNT.ALREADY : Fld := ⟨BQ_ABORT_CNT, 31, 16⟩
def BQ_MARKS : Nat := 0x1F048
def BQ_MARKS.USED : Fld := ⟨BQ_MARKS, 8, 0⟩
def BQ_LINK_CFG : Nat := 0x1FC00
def BQ_LINK_CFG.MAX_GEN : Fld := ⟨BQ_LINK_CFG, 1, 0⟩
def BQ_LINK_CFG.DEGRADE_EN : Fld := ⟨BQ_LINK_CFG, 2, 2⟩
def BQ_LINK_CFG.LANE_ERR_LIMIT : Fld := ⟨BQ_LINK_CFG, 10, 3⟩
def BQ_LINK_STAT : Nat := 0x1FC04
def BQ_LINK_STAT.SPEED : Fld := ⟨BQ_LINK_STAT, 2, 0⟩
def BQ_LINK_STAT.WIDTH : Fld := ⟨BQ_LINK_STAT, 7, 3⟩
def BQ_LINK_STAT.REVERSED : Fld := ⟨BQ_LINK_STAT, 8, 8⟩
def BQ_LINK_STAT.UP : Fld := ⟨BQ_LINK_STAT, 9, 9⟩
def BQ_LINK_STAT.FAILED : Fld := ⟨BQ_LINK_STAT, 25, 10⟩
def BQ_LINK_EVT : Nat := 0x1FC08
def BQ_LINK_EVT.DEGRADED : Fld := ⟨BQ_LINK_EVT, 0, 0⟩
def BQ_LINK_EVT.LINK_DOWN : Fld := ⟨BQ_LINK_EVT, 1, 1⟩
def BQ_LINK_EVT.FLR : Fld := ⟨BQ_LINK_EVT, 2, 2⟩
def BQ_LINK_EVT.HOT_RESET : Fld := ⟨BQ_LINK_EVT, 3, 3⟩
def BQ_LINK_EVT.BAR0_PARTIAL : Fld := ⟨BQ_LINK_EVT, 4, 4⟩
def BQ_LINK_EVT.POISON_RX : Fld := ⟨BQ_LINK_EVT, 5, 5⟩
def BQ_LINK_EVT.DOE_ERR : Fld := ⟨BQ_LINK_EVT, 6, 6⟩
def BQ_LINK_CNT : Nat := 0x1FC0C
def BQ_LINK_CNT.RECOVERIES : Fld := ⟨BQ_LINK_CNT, 15, 0⟩
def BQ_LINK_CNT.RESETS : Fld := ⟨BQ_LINK_CNT, 23, 16⟩
def BQ_LINK_CNT.PARTIALS : Fld := ⟨BQ_LINK_CNT, 31, 24⟩
def SCH_CTRL : Nat := 0x20000
def SCH_CTRL.EN : Fld := ⟨SCH_CTRL, 0, 0⟩
def SCH_ARB_CFG : Nat := 0x20004
def SCH_ARB_CFG.HIGH_MULT : Fld := ⟨SCH_ARB_CFG, 3, 0⟩
def SCH_ARB_CFG.MEDIUM_MULT : Fld := ⟨SCH_ARB_CFG, 7, 4⟩
def SCH_ARB_CFG.LOW_MULT : Fld := ⟨SCH_ARB_CFG, 11, 8⟩
def SCH_RPO_CFG : Nat := 0x20008
def SCH_RPO_CFG.AGE_MAX : Fld := ⟨SCH_RPO_CFG, 9, 0⟩
def SCH_RPO_CFG.BIAS_M : Fld := ⟨SCH_RPO_CFG, 17, 10⟩
def SCH_RPO_CFG.BIAS_L : Fld := ⟨SCH_RPO_CFG, 25, 18⟩
def SCH_INT_EN : Nat := 0x2000C
def SCH_INT_EN.EN : Fld := ⟨SCH_INT_EN, 5, 0⟩
def SCH_IDLE_LO : Nat := 0x20014
def SCH_IDLE_LO.IDLE : Fld := ⟨SCH_IDLE_LO, 31, 0⟩
def SCH_IDLE_HI : Nat := 0x20018
def SCH_IDLE_HI.IDLE : Fld := ⟨SCH_IDLE_HI, 27, 0⟩
def SCH_LAT_TOL : Nat := 0x2001C
def SCH_LAT_TOL.TOL : Fld := ⟨SCH_LAT_TOL, 31, 0⟩
def SCH_PWR_CFG : Nat := 0x20020
def SCH_PWR_CFG.P3_PCT : Fld := ⟨SCH_PWR_CFG, 6, 0⟩
def SCH_PWR_CFG.WB_HIGH : Fld := ⟨SCH_PWR_CFG, 13, 7⟩
def SCH_PWR_CFG.PAGE_RSV : Fld := ⟨SCH_PWR_CFG, 27, 14⟩
def SCH_PWR_STAT : Nat := 0x20024
def SCH_PWR_STAT.STATE : Fld := ⟨SCH_PWR_STAT, 2, 0⟩
def SCH_PWR_STAT.TARGET : Fld := ⟨SCH_PWR_STAT, 5, 3⟩
def SCH_PWR_STAT.ALLOWED : Fld := ⟨SCH_PWR_STAT, 8, 6⟩
def SCH_PWR_STAT.MOVING : Fld := ⟨SCH_PWR_STAT, 9, 9⟩
def SCH_PWR_STAT.IDLE : Fld := ⟨SCH_PWR_STAT, 10, 10⟩
def SCH_STATUS : Nat := 0x20028
def SCH_STATUS.LOCK_FULL : Fld := ⟨SCH_STATUS, 0, 0⟩
def SCH_STATUS.PAGE_WAIT : Fld := ⟨SCH_STATUS, 1, 1⟩
def SCH_STATUS.AGE_FORCED : Fld := ⟨SCH_STATUS, 2, 2⟩
def SCH_STATUS.PREEMPT : Fld := ⟨SCH_STATUS, 3, 3⟩
def SCH_STATUS.PWR_CHANGE : Fld := ⟨SCH_STATUS, 4, 4⟩
def SCH_STATUS.PWR_ABANDON : Fld := ⟨SCH_STATUS, 5, 5⟩
def SCH_LOCK_USE : Nat := 0x20030
def SCH_LOCK_USE.USED : Fld := ⟨SCH_LOCK_USE, 11, 0⟩
def SCH_LOCK_USE.WAITING : Fld := ⟨SCH_LOCK_USE, 27, 16⟩
def SCH_PREEMPT_CNT : Nat := 0x20034
def SCH_PREEMPT_CNT.PREEMPT : Fld := ⟨SCH_PREEMPT_CNT, 15, 0⟩
def SCH_PREEMPT_CNT.AGED : Fld := ⟨SCH_PREEMPT_CNT, 31, 16⟩
def SCH_PWR_CNT : Nat := 0x20038
def SCH_PWR_CNT.P1 : Fld := ⟨SCH_PWR_CNT, 7, 0⟩
def SCH_PWR_CNT.P2 : Fld := ⟨SCH_PWR_CNT, 15, 8⟩
def SCH_PWR_CNT.P3TO5 : Fld := ⟨SCH_PWR_CNT, 23, 16⟩
def SCH_PWR_CNT.ABANDON : Fld := ⟨SCH_PWR_CNT, 31, 24⟩
def SCH_TIER_ADDR_LO : Nat := 0x20040
def SCH_TIER_ADDR_LO.ADDR : Fld := ⟨SCH_TIER_ADDR_LO, 31, 6⟩
def SCH_TIER_ADDR_HI : Nat := 0x20044
def SCH_TIER_ADDR_HI.ADDR : Fld := ⟨SCH_TIER_ADDR_HI, 3, 0⟩
def SCH_TIER_CMD : Nat := 0x20048
def SCH_TIER_CMD.GO : Fld := ⟨SCH_TIER_CMD, 0, 0⟩
def SCH_TIER_RESP : Nat := 0x2004C
def SCH_TIER_RESP.DONE : Fld := ⟨SCH_TIER_RESP, 0, 0⟩
def SCH_TIER_RESP.REFUSED : Fld := ⟨SCH_TIER_RESP, 1, 1⟩
def SCH_TIER_RESP.CHECK : Fld := ⟨SCH_TIER_RESP, 4, 2⟩
def SCH_TIER_RESP.ZONE : Fld := ⟨SCH_TIER_RESP, 31, 8⟩
def SCH_TIER (i : Nat) : Nat := 0x20100 + i * 0x10
def SCH_TIER.TRACK (i : Nat) : Fld := ⟨SCH_TIER i, 23, 0⟩
def SCH_TIER.POSTED (i : Nat) : Fld := ⟨SCH_TIER i, 31, 24⟩
def SCH_CAND (i : Nat) : Nat := 0x20104 + i * 0x10
def SCH_CAND.CAND (i : Nat) : Fld := ⟨SCH_CAND i, 13, 0⟩
def SCH_CAND.URGENT (i : Nat) : Fld := ⟨SCH_CAND i, 29, 16⟩
def SCH_COST (i : Nat) : Nat := 0x20108 + i * 0x10
def SCH_COST.COST (i : Nat) : Fld := ⟨SCH_COST i, 15, 0⟩
def SCH_COST.CLASS (i : Nat) : Fld := ⟨SCH_COST i, 18, 16⟩
def SCH_COST.AGED (i : Nat) : Fld := ⟨SCH_COST i, 19, 19⟩
def LGT_CTRL (i : Nat) : Nat := 0x30000 + i * 0x200
def LGT_CTRL.EN (i : Nat) : Fld := ⟨LGT_CTRL i, 0, 0⟩
def LGT_CTRL.STOP (i : Nat) : Fld := ⟨LGT_CTRL i, 1, 1⟩
def LGT_CTRL.INT_EN (i : Nat) : Fld := ⟨LGT_CTRL i, 2, 2⟩
def LGT_CTRL.BUSY (i : Nat) : Fld := ⟨LGT_CTRL i, 8, 8⟩
def LGT_CTRL.WAIT_PACE (i : Nat) : Fld := ⟨LGT_CTRL i, 9, 9⟩
def LGT_CTRL.WAIT_VALID (i : Nat) : Fld := ⟨LGT_CTRL i, 10, 10⟩
def LGT_CTRL.FENCED (i : Nat) : Fld := ⟨LGT_CTRL i, 11, 11⟩
def LGT_STATUS (i : Nat) : Nat := 0x30004 + i * 0x200
def LGT_STATUS.DONE (i : Nat) : Fld := ⟨LGT_STATUS i, 0, 0⟩
def LGT_STATUS.BAD (i : Nat) : Fld := ⟨LGT_STATUS i, 1, 1⟩
def LGT_STATUS.STOPPED (i : Nat) : Fld := ⟨LGT_STATUS i, 2, 2⟩
def LGT_STATUS.SH_REFUSED (i : Nat) : Fld := ⟨LGT_STATUS i, 3, 3⟩
def LGT_STATUS.DATAPATH_ERR (i : Nat) : Fld := ⟨LGT_STATUS i, 4, 4⟩
def LGT_STATUS.CAUSE (i : Nat) : Fld := ⟨LGT_STATUS i, 7, 5⟩
def LGT_STATUS.END_OFFSET (i : Nat) : Fld := ⟨LGT_STATUS i, 31, 8⟩
def LGT_A_BUF (i : Nat) : Nat := 0x30010 + i * 0x200
def LGT_A_BUF.BUF (i : Nat) : Fld := ⟨LGT_A_BUF i, 31, 0⟩
def LGT_A_FAR_LO (i : Nat) : Nat := 0x30014 + i * 0x200
def LGT_A_FAR_LO.FAR (i : Nat) : Fld := ⟨LGT_A_FAR_LO i, 31, 0⟩
def LGT_A_FAR_HI (i : Nat) : Nat := 0x30018 + i * 0x200
def LGT_A_FAR_HI.FAR (i : Nat) : Fld := ⟨LGT_A_FAR_HI i, 31, 0⟩
def LGT_A_COUNT (i : Nat) : Nat := 0x3001C + i * 0x200
def LGT_A_COUNT.COUNT (i : Nat) : Fld := ⟨LGT_A_COUNT i, 23, 0⟩
def LGT_A_ATTR (i : Nat) : Nat := 0x30020 + i * 0x200
def LGT_A_ATTR.VALID (i : Nat) : Fld := ⟨LGT_A_ATTR i, 0, 0⟩
def LGT_A_ATTR.DIR (i : Nat) : Fld := ⟨LGT_A_ATTR i, 1, 1⟩
def LGT_A_ATTR.FAR_KIND (i : Nat) : Fld := ⟨LGT_A_ATTR i, 3, 2⟩
def LGT_A_ATTR.MAPPED (i : Nat) : Fld := ⟨LGT_A_ATTR i, 4, 4⟩
def LGT_A_ATTR.PACED (i : Nat) : Fld := ⟨LGT_A_ATTR i, 5, 5⟩
def LGT_A_ATTR.LINE (i : Nat) : Fld := ⟨LGT_A_ATTR i, 9, 6⟩
def LGT_A_ATTR.PRIO (i : Nat) : Fld := ⟨LGT_A_ATTR i, 11, 10⟩
def LGT_A_ATTR.NS (i : Nat) : Fld := ⟨LGT_A_ATTR i, 12, 12⟩
def LGT_A_ATTR.STREAM (i : Nat) : Fld := ⟨LGT_A_ATTR i, 13, 13⟩
def LGT_A_ATTR.BUF_HI (i : Nat) : Fld := ⟨LGT_A_ATTR i, 17, 14⟩
def LGT_A_ATTR.TAG (i : Nat) : Fld := ⟨LGT_A_ATTR i, 31, 18⟩
def LGT_S_BUF (i : Nat) : Nat := 0x30030 + i * 0x200
def LGT_S_BUF.BUF (i : Nat) : Fld := ⟨LGT_S_BUF i, 31, 0⟩
def LGT_S_FAR_LO (i : Nat) : Nat := 0x30034 + i * 0x200
def LGT_S_FAR_LO.FAR (i : Nat) : Fld := ⟨LGT_S_FAR_LO i, 31, 0⟩
def LGT_S_FAR_HI (i : Nat) : Nat := 0x30038 + i * 0x200
def LGT_S_FAR_HI.FAR (i : Nat) : Fld := ⟨LGT_S_FAR_HI i, 31, 0⟩
def LGT_S_COUNT (i : Nat) : Nat := 0x3003C + i * 0x200
def LGT_S_COUNT.COUNT (i : Nat) : Fld := ⟨LGT_S_COUNT i, 23, 0⟩
def LGT_S_ATTR (i : Nat) : Nat := 0x30040 + i * 0x200
def LGT_S_ATTR.ARM (i : Nat) : Fld := ⟨LGT_S_ATTR i, 0, 0⟩
def LGT_S_ATTR.DIR (i : Nat) : Fld := ⟨LGT_S_ATTR i, 1, 1⟩
def LGT_S_ATTR.FAR_KIND (i : Nat) : Fld := ⟨LGT_S_ATTR i, 3, 2⟩
def LGT_S_ATTR.MAPPED (i : Nat) : Fld := ⟨LGT_S_ATTR i, 4, 4⟩
def LGT_S_ATTR.PACED (i : Nat) : Fld := ⟨LGT_S_ATTR i, 5, 5⟩
def LGT_S_ATTR.LINE (i : Nat) : Fld := ⟨LGT_S_ATTR i, 9, 6⟩
def LGT_S_ATTR.PRIO (i : Nat) : Fld := ⟨LGT_S_ATTR i, 11, 10⟩
def LGT_S_ATTR.NS (i : Nat) : Fld := ⟨LGT_S_ATTR i, 12, 12⟩
def LGT_S_ATTR.STREAM (i : Nat) : Fld := ⟨LGT_S_ATTR i, 13, 13⟩
def LGT_S_ATTR.BUF_HI (i : Nat) : Fld := ⟨LGT_S_ATTR i, 17, 14⟩
def LGT_S_ATTR.TAG (i : Nat) : Fld := ⟨LGT_S_ATTR i, 31, 18⟩
def LGT_CFG : Nat := 0x3F000
def LGT_CFG.BURST : Fld := ⟨LGT_CFG, 4, 0⟩
def LGT_CFG.AGE_LIMIT : Fld := ⟨LGT_CFG, 12, 5⟩
def LGT_CFG.OUTSTANDING : Fld := ⟨LGT_CFG, 15, 13⟩
def LGT_PACE_OWN (i : Nat) : Nat := 0x3F004 + i * 0x4
def LGT_PACE_OWN.OWNER0 (i : Nat) : Fld := ⟨LGT_PACE_OWN i, 5, 0⟩
def LGT_PACE_OWN.OWNED0 (i : Nat) : Fld := ⟨LGT_PACE_OWN i, 7, 7⟩
def LGT_PACE_OWN.OWNER1 (i : Nat) : Fld := ⟨LGT_PACE_OWN i, 13, 8⟩
def LGT_PACE_OWN.OWNED1 (i : Nat) : Fld := ⟨LGT_PACE_OWN i, 15, 15⟩
def LGT_PACE_OWN.OWNER2 (i : Nat) : Fld := ⟨LGT_PACE_OWN i, 21, 16⟩
def LGT_PACE_OWN.OWNED2 (i : Nat) : Fld := ⟨LGT_PACE_OWN i, 23, 23⟩
def LGT_PACE_OWN.OWNER3 (i : Nat) : Fld := ⟨LGT_PACE_OWN i, 29, 24⟩
def LGT_PACE_OWN.OWNED3 (i : Nat) : Fld := ⟨LGT_PACE_OWN i, 31, 31⟩
def LGT_PEND (i : Nat) : Nat := 0x3F014 + i * 0x4
def LGT_PEND.MASK (i : Nat) : Fld := ⟨LGT_PEND i, 31, 0⟩
def LGT_BUSY (i : Nat) : Nat := 0x3F01C + i * 0x4
def LGT_BUSY.MASK (i : Nat) : Fld := ⟨LGT_BUSY i, 31, 0⟩
def LGT_FENCED (i : Nat) : Nat := 0x3F024 + i * 0x4
def LGT_FENCED.MASK (i : Nat) : Fld := ⟨LGT_FENCED i, 31, 0⟩
def LGT_PREQ : Nat := 0x3F02C
def LGT_PREQ.LINES : Fld := ⟨LGT_PREQ, 15, 0⟩
def LGT_REC_CNT : Nat := 0x3F030
def LGT_REC_CNT.DONE : Fld := ⟨LGT_REC_CNT, 15, 0⟩
def LGT_REC_CNT.BAD : Fld := ⟨LGT_REC_CNT, 31, 16⟩
def LGT_BYTE_CNT : Nat := 0x3F034
def LGT_BYTE_CNT.KIB : Fld := ⟨LGT_BYTE_CNT, 31, 0⟩
def LGT_PREEMPT_CNT : Nat := 0x3F038
def LGT_PREEMPT_CNT.PREEMPT : Fld := ⟨LGT_PREEMPT_CNT, 15, 0⟩
def LGT_PREEMPT_CNT.AGED : Fld := ⟨LGT_PREEMPT_CNT, 31, 16⟩
def LGT_GSTATUS : Nat := 0x3F03C
def LGT_GSTATUS.PACE_CONFLICT : Fld := ⟨LGT_GSTATUS, 0, 0⟩
def LGT_GSTATUS.FENCE : Fld := ⟨LGT_GSTATUS, 1, 1⟩
def MEM_CTRL : Nat := 0x40000
def MEM_CTRL.SCRUB_EN : Fld := ⟨MEM_CTRL, 0, 0⟩
def MEM_CTRL.CORR_WB : Fld := ⟨MEM_CTRL, 1, 1⟩
def MEM_CTRL.ACCESS_CHECK : Fld := ⟨MEM_CTRL, 2, 2⟩
def MEM_STATUS : Nat := 0x40004
def MEM_STATUS.CE : Fld := ⟨MEM_STATUS, 0, 0⟩
def MEM_STATUS.UE : Fld := ⟨MEM_STATUS, 1, 1⟩
def MEM_STATUS.SCRUB_CE : Fld := ⟨MEM_STATUS, 2, 2⟩
def MEM_STATUS.SCRUB_UE : Fld := ⟨MEM_STATUS, 3, 3⟩
def MEM_STATUS.ACCESS_ERR : Fld := ⟨MEM_STATUS, 4, 4⟩
def MEM_STATUS.PLANE_FENCE : Fld := ⟨MEM_STATUS, 5, 5⟩
def MEM_STATUS.REMAP_CORR : Fld := ⟨MEM_STATUS, 6, 6⟩
def MEM_STATUS.ELOG_OVF : Fld := ⟨MEM_STATUS, 7, 7⟩
def MEM_STATUS.RETIRE_DONE : Fld := ⟨MEM_STATUS, 8, 8⟩
def MEM_STATUS.RETIRE_WAIT : Fld := ⟨MEM_STATUS, 9, 9⟩
def MEM_STATUS.CAPACITY : Fld := ⟨MEM_STATUS, 10, 10⟩
def MEM_INT_EN : Nat := 0x40008
def MEM_INT_EN.EN : Fld := ⟨MEM_INT_EN, 10, 0⟩
def MEM_SCRUB_CFG : Nat := 0x4000C
def MEM_SCRUB_CFG.INTERVAL : Fld := ⟨MEM_SCRUB_CFG, 7, 0⟩
def MEM_SCRUB_STAT : Nat := 0x40010
def MEM_SCRUB_STAT.FRAME : Fld := ⟨MEM_SCRUB_STAT, 13, 0⟩
def MEM_SCRUB_STAT.WORD : Fld := ⟨MEM_SCRUB_STAT, 20, 14⟩
def MEM_SCRUB_STAT.PASSES : Fld := ⟨MEM_SCRUB_STAT, 31, 21⟩
def MEM_CACHE_RGN : Nat := 0x40014
def MEM_CACHE_RGN.BASE : Fld := ⟨MEM_CACHE_RGN, 13, 0⟩
def MEM_CACHE_RGN.SIZE : Fld := ⟨MEM_CACHE_RGN, 21, 16⟩
def MEM_TABLE_RGN : Nat := 0x40018
def MEM_TABLE_RGN.BASE : Fld := ⟨MEM_TABLE_RGN, 13, 0⟩
def MEM_TABLE_RGN.PAGES : Fld := ⟨MEM_TABLE_RGN, 28, 16⟩
def MEM_MAP_CFG : Nat := 0x4001C
def MEM_MAP_CFG.MAP_BLOCKS : Fld := ⟨MEM_MAP_CFG, 15, 0⟩
def MEM_POOL_CFG : Nat := 0x40020
def MEM_POOL_CFG.POOL_MIN : Fld := ⟨MEM_POOL_CFG, 13, 0⟩
def MEM_CARVE_STAT : Nat := 0x40024
def MEM_CARVE_STAT.POOL : Fld := ⟨MEM_CARVE_STAT, 13, 0⟩
def MEM_CARVE_STAT.RETIRED : Fld := ⟨MEM_CARVE_STAT, 29, 16⟩
def MEM_RETIRE_CMD : Nat := 0x40028
def MEM_RETIRE_CMD.FRAME : Fld := ⟨MEM_RETIRE_CMD, 13, 0⟩
def MEM_RETIRE_CMD.BANK : Fld := ⟨MEM_RETIRE_CMD, 18, 14⟩
def MEM_RETIRE_CMD.KIND : Fld := ⟨MEM_RETIRE_CMD, 19, 19⟩
def MEM_RETIRE_CMD.GO : Fld := ⟨MEM_RETIRE_CMD, 31, 31⟩
def MEM_RETIRE_STAT : Nat := 0x4002C
def MEM_RETIRE_STAT.BUSY : Fld := ⟨MEM_RETIRE_STAT, 0, 0⟩
def MEM_RETIRE_STAT.WAITING : Fld := ⟨MEM_RETIRE_STAT, 1, 1⟩
def MEM_RETIRE_STAT.PENDING : Fld := ⟨MEM_RETIRE_STAT, 15, 2⟩
def MEM_BANK_RETIRED : Nat := 0x40030
def MEM_BANK_RETIRED.MASK : Fld := ⟨MEM_BANK_RETIRED, 31, 0⟩
def MEM_PAGE_CMD : Nat := 0x40034
def MEM_PAGE_CMD.TAG : Fld := ⟨MEM_PAGE_CMD, 13, 0⟩
def MEM_PAGE_CMD.COUNT : Fld := ⟨MEM_PAGE_CMD, 24, 14⟩
def MEM_PAGE_CMD.OP : Fld := ⟨MEM_PAGE_CMD, 26, 25⟩
def MEM_PAGE_CMD.GO : Fld := ⟨MEM_PAGE_CMD, 31, 31⟩
def MEM_PAGE_RESP : Nat := 0x40038
def MEM_PAGE_RESP.BLOCK : Fld := ⟨MEM_PAGE_RESP, 15, 0⟩
def MEM_PAGE_RESP.DONE : Fld := ⟨MEM_PAGE_RESP, 16, 16⟩
def MEM_PAGE_RESP.REFUSED : Fld := ⟨MEM_PAGE_RESP, 17, 17⟩
def MEM_PAGE_RESP.SHORT : Fld := ⟨MEM_PAGE_RESP, 18, 18⟩
def MEM_PSTATE_ADDR : Nat := 0x4003C
def MEM_PSTATE_ADDR.PAGE : Fld := ⟨MEM_PSTATE_ADDR, 13, 0⟩
def MEM_PSTATE_DATA : Nat := 0x40040
def MEM_PSTATE_DATA.STATE : Fld := ⟨MEM_PSTATE_DATA, 1, 0⟩
def MEM_PSTATE_DATA.RP : Fld := ⟨MEM_PSTATE_DATA, 2, 2⟩
def MEM_PSTATE_DATA.UE : Fld := ⟨MEM_PSTATE_DATA, 3, 3⟩
def MEM_PSTATE_DATA.TAG : Fld := ⟨MEM_PSTATE_DATA, 17, 4⟩
def MEM_PSTATE_DATA.FRAME : Fld := ⟨MEM_PSTATE_DATA, 31, 18⟩
def MEM_ELOG_DATA (i : Nat) : Nat := 0x40044 + i * 0x4
def MEM_ELOG_DATA.DATA (i : Nat) : Fld := ⟨MEM_ELOG_DATA i, 31, 0⟩
def MEM_ELOG_CNT : Nat := 0x40054
def MEM_ELOG_CNT.LOST : Fld := ⟨MEM_ELOG_CNT, 15, 0⟩
def MEM_ERR_CNT : Nat := 0x40058
def MEM_ERR_CNT.CE : Fld := ⟨MEM_ERR_CNT, 15, 0⟩
def MEM_ERR_CNT.UE : Fld := ⟨MEM_ERR_CNT, 31, 16⟩
def MEM_SCRUB_CNT : Nat := 0x4005C
def MEM_SCRUB_CNT.CE : Fld := ⟨MEM_SCRUB_CNT, 15, 0⟩
def MEM_SCRUB_CNT.UE : Fld := ⟨MEM_SCRUB_CNT, 31, 16⟩
def MEM_PLANE_STAT : Nat := 0x40060
def MEM_PLANE_STAT.P0_OK : Fld := ⟨MEM_PLANE_STAT, 0, 0⟩
def MEM_PLANE_STAT.P1_OK : Fld := ⟨MEM_PLANE_STAT, 1, 1⟩
def MEM_PLANE_STAT.P0_ERR : Fld := ⟨MEM_PLANE_STAT, 15, 8⟩
def MEM_PLANE_STAT.P1_ERR : Fld := ⟨MEM_PLANE_STAT, 23, 16⟩
def MEM_PLANE_CFG : Nat := 0x40064
def MEM_PLANE_CFG.PLANE_LIMIT : Fld := ⟨MEM_PLANE_CFG, 7, 0⟩
def MEM_FREE : Nat := 0x40068
def MEM_FREE.PAGES : Fld := ⟨MEM_FREE, 13, 0⟩
def MEM_TRAIL_CFG : Nat := 0x4006C
def MEM_TRAIL_CFG.BASE : Fld := ⟨MEM_TRAIL_CFG, 13, 0⟩
def BCC_CTRL : Nat := 0x50000
def BCC_CTRL.EN : Fld := ⟨BCC_CTRL, 0, 0⟩
def BCC_CTRL.LOCK_MAX : Fld := ⟨BCC_CTRL, 4, 1⟩
def BCC_STATUS : Nat := 0x50004
def BCC_STATUS.DONE : Fld := ⟨BCC_STATUS, 0, 0⟩
def BCC_STATUS.REFUSED : Fld := ⟨BCC_STATUS, 1, 1⟩
def BCC_STATUS.TAG_CORR : Fld := ⟨BCC_STATUS, 2, 2⟩
def BCC_STATUS.POISON_SEEN : Fld := ⟨BCC_STATUS, 3, 3⟩
def BCC_STATUS.DRAINED : Fld := ⟨BCC_STATUS, 4, 4⟩
def BCC_STATUS.BUSY : Fld := ⟨BCC_STATUS, 5, 5⟩
def BCC_MAINT_ADDR_LO : Nat := 0x50008
def BCC_MAINT_ADDR_LO.ADDR : Fld := ⟨BCC_MAINT_ADDR_LO, 31, 7⟩
def BCC_MAINT_ADDR_HI : Nat := 0x5000C
def BCC_MAINT_ADDR_HI.ADDR : Fld := ⟨BCC_MAINT_ADDR_HI, 3, 0⟩
def BCC_MAINT_CMD : Nat := 0x50010
def BCC_MAINT_CMD.OP : Fld := ⟨BCC_MAINT_CMD, 2, 0⟩
def BCC_MAINT_CMD.ALL : Fld := ⟨BCC_MAINT_CMD, 3, 3⟩
def BCC_MAINT_CMD.GO : Fld := ⟨BCC_MAINT_CMD, 31, 31⟩
def BCC_MAINT_LEN : Nat := 0x50014
def BCC_MAINT_LEN.LEN : Fld := ⟨BCC_MAINT_LEN, 27, 0⟩
def BCC_MAINT_RESP : Nat := 0x50018
def BCC_MAINT_RESP.LOCKED_HIT : Fld := ⟨BCC_MAINT_RESP, 15, 0⟩
def BCC_MAINT_RESP.DIRTY_LOST : Fld := ⟨BCC_MAINT_RESP, 31, 16⟩
def BCC_MAINT_RESP2 : Nat := 0x5001C
def BCC_MAINT_RESP2.LOCK_SKIP : Fld := ⟨BCC_MAINT_RESP2, 15, 0⟩
def BCC_MAINT_RESP2.WRITTEN : Fld := ⟨BCC_MAINT_RESP2, 31, 16⟩
def BCC_INT_EN : Nat := 0x50020
def BCC_INT_EN.EN : Fld := ⟨BCC_INT_EN, 3, 0⟩
def BCC_STREAM_MASK : Nat := 0x50024
def BCC_STREAM_MASK.MASK : Fld := ⟨BCC_STREAM_MASK, 15, 0⟩
def BCC_BAR2_BASE : Nat := 0x50028
def BCC_BAR2_BASE.GIB : Fld := ⟨BCC_BAR2_BASE, 5, 0⟩
def BCC_HIT_CNT : Nat := 0x5002C
def BCC_HIT_CNT.CNT : Fld := ⟨BCC_HIT_CNT, 31, 0⟩
def BCC_MISS_CNT : Nat := 0x50030
def BCC_MISS_CNT.CNT : Fld := ⟨BCC_MISS_CNT, 31, 0⟩
def BCC_MERGE_CNT : Nat := 0x50034
def BCC_MERGE_CNT.MERGES : Fld := ⟨BCC_MERGE_CNT, 15, 0⟩
def BCC_MERGE_CNT.VICTIM_HITS : Fld := ⟨BCC_MERGE_CNT, 31, 16⟩
def BCC_OCC : Nat := 0x50038
def BCC_OCC.MISS : Fld := ⟨BCC_OCC, 8, 0⟩
def BCC_OCC.VICTIM : Fld := ⟨BCC_OCC, 14, 9⟩
def BCC_OCC.LOCKED : Fld := ⟨BCC_OCC, 31, 16⟩
def DDR_CFG (i : Nat) : Nat := 0x58000 + i * 0x400
def DDR_CFG.RANKS (i : Nat) : Fld := ⟨DDR_CFG i, 1, 0⟩
def DDR_CFG.DENSITY (i : Nat) : Fld := ⟨DDR_CFG i, 3, 2⟩
def DDR_CFG.DATA_RATE (i : Nat) : Fld := ⟨DDR_CFG i, 16, 4⟩
def DDR_STATUS (i : Nat) : Nat := 0x58004 + i * 0x400
def DDR_STATUS.CE (i : Nat) : Fld := ⟨DDR_STATUS i, 0, 0⟩
def DDR_STATUS.UE (i : Nat) : Fld := ⟨DDR_STATUS i, 1, 1⟩
def DDR_STATUS.DEV_MARKED (i : Nat) : Fld := ⟨DDR_STATUS i, 2, 2⟩
def DDR_STATUS.WCRC (i : Nat) : Fld := ⟨DDR_STATUS i, 3, 3⟩
def DDR_STATUS.TRAIN_FAIL (i : Nat) : Fld := ⟨DDR_STATUS i, 4, 4⟩
def DDR_STATUS.FENCED (i : Nat) : Fld := ⟨DDR_STATUS i, 5, 5⟩
def DDR_STATUS.SELF_REFRESH (i : Nat) : Fld := ⟨DDR_STATUS i, 6, 6⟩
def DDR_STATUS.MARK_DEV (i : Nat) : Fld := ⟨DDR_STATUS i, 11, 8⟩
def DDR_STATUS.MARK_DEV1 (i : Nat) : Fld := ⟨DDR_STATUS i, 15, 12⟩
def DDR_INT_EN (i : Nat) : Nat := 0x58008 + i * 0x400
def DDR_INT_EN.EN (i : Nat) : Fld := ⟨DDR_INT_EN i, 4, 0⟩
def DDR_ERR_CNT (i : Nat) : Nat := 0x5800C + i * 0x400
def DDR_ERR_CNT.CE (i : Nat) : Fld := ⟨DDR_ERR_CNT i, 15, 0⟩
def DDR_ERR_CNT.UE (i : Nat) : Fld := ⟨DDR_ERR_CNT i, 31, 16⟩
def DDR_DEV_CNT_ADDR (i : Nat) : Nat := 0x58010 + i * 0x400
def DDR_DEV_CNT_ADDR.RANK (i : Nat) : Fld := ⟨DDR_DEV_CNT_ADDR i, 0, 0⟩
def DDR_DEV_CNT_ADDR.DEVICE (i : Nat) : Fld := ⟨DDR_DEV_CNT_ADDR i, 4, 1⟩
def DDR_DEV_CNT (i : Nat) : Nat := 0x58014 + i * 0x400
def DDR_DEV_CNT.CNT (i : Nat) : Fld := ⟨DDR_DEV_CNT i, 15, 0⟩
def DDR_MAP_CFG : Nat := 0x5F000
def DDR_MAP_CFG.CHANNELS : Fld := ⟨DDR_MAP_CFG, 1, 0⟩
def DDR_MAP_CFG.MIR_SIZE : Fld := ⟨DDR_MAP_CFG, 6, 2⟩
def DDR_PATROL_CFG : Nat := 0x5F004
def DDR_PATROL_CFG.PATROL_HOURS : Fld := ⟨DDR_PATROL_CFG, 7, 0⟩
def DDR_PATROL_CFG.MARK_THRESH : Fld := ⟨DDR_PATROL_CFG, 15, 8⟩
def DDR_TRAIN_PTR : Nat := 0x5F008
def DDR_TRAIN_PTR.PAGE : Fld := ⟨DDR_TRAIN_PTR, 13, 0⟩
def DDR_FENCE_CMD : Nat := 0x5F00C
def DDR_FENCE_CMD.FENCE : Fld := ⟨DDR_FENCE_CMD, 1, 0⟩
def DDR_GSTATUS : Nat := 0x5F010
def DDR_GSTATUS.LOST : Fld := ⟨DDR_GSTATUS, 0, 0⟩
def DDR_GSTATUS.RESTORED : Fld := ⟨DDR_GSTATUS, 1, 1⟩
def DDR_GSTATUS.RETRAINED : Fld := ⟨DDR_GSTATUS, 2, 2⟩
def PCK_CTRL (i : Nat) : Nat := 0x60000 + i * 0x40
def PCK_CTRL.EN (i : Nat) : Fld := ⟨PCK_CTRL i, 0, 0⟩
def PCK_ISTATUS (i : Nat) : Nat := 0x60004 + i * 0x40
def PCK_ISTATUS.BUSY (i : Nat) : Fld := ⟨PCK_ISTATUS i, 0, 0⟩
def PCK_ISTATUS.FENCED (i : Nat) : Fld := ⟨PCK_ISTATUS i, 1, 1⟩
def PCK_ISTATUS.DATAPATH_ERR (i : Nat) : Fld := ⟨PCK_ISTATUS i, 2, 2⟩
def PCK_ISTATUS.SELF_CHECK (i : Nat) : Fld := ⟨PCK_ISTATUS i, 3, 3⟩
def PCK_ISTATUS.STALL (i : Nat) : Fld := ⟨PCK_ISTATUS i, 4, 4⟩
def PCK_IN_CNT (i : Nat) : Nat := 0x60008 + i * 0x40
def PCK_IN_CNT.KIB (i : Nat) : Fld := ⟨PCK_IN_CNT i, 31, 0⟩
def PCK_OUT_CNT (i : Nat) : Nat := 0x6000C + i * 0x40
def PCK_OUT_CNT.KIB (i : Nat) : Fld := ⟨PCK_OUT_CNT i, 31, 0⟩
def PCK_JOB_CNT (i : Nat) : Nat := 0x60010 + i * 0x40
def PCK_JOB_CNT.DONE (i : Nat) : Fld := ⟨PCK_JOB_CNT i, 15, 0⟩
def PCK_JOB_CNT.OTHER (i : Nat) : Fld := ⟨PCK_JOB_CNT i, 31, 16⟩
def PCK_CFG : Nat := 0x6F000
def PCK_CFG.VERIFY_EN : Fld := ⟨PCK_CFG, 0, 0⟩
def PCK_CFG.LEVEL : Fld := ⟨PCK_CFG, 2, 1⟩
def PCK_STATUS : Nat := 0x6F004
def PCK_STATUS.RES_READY : Fld := ⟨PCK_STATUS, 0, 0⟩
def PCK_STATUS.QUEUE_FULL : Fld := ⟨PCK_STATUS, 1, 1⟩
def PCK_STATUS.KEY_DONE : Fld := ⟨PCK_STATUS, 2, 2⟩
def PCK_STATUS.KEY_REFUSED : Fld := ⟨PCK_STATUS, 3, 3⟩
def PCK_STATUS.FENCE : Fld := ⟨PCK_STATUS, 4, 4⟩
def PCK_INT_EN : Nat := 0x6F008
def PCK_INT_EN.EN : Fld := ⟨PCK_INT_EN, 4, 0⟩
def PCK_JOB (i : Nat) : Nat := 0x6F010 + i * 0x4
def PCK_JOB.DESC (i : Nat) : Fld := ⟨PCK_JOB i, 31, 0⟩
def PCK_JOB_GO : Nat := 0x6F030
def PCK_JOB_GO.GO : Fld := ⟨PCK_JOB_GO, 0, 0⟩
def PCK_QUEUE : Nat := 0x6F034
def PCK_QUEUE.JOBS : Fld := ⟨PCK_QUEUE, 6, 0⟩
def PCK_RES (i : Nat) : Nat := 0x6F040 + i * 0x4
def PCK_RES.DATA (i : Nat) : Fld := ⟨PCK_RES i, 31, 0⟩
def PCK_KEY_CMD : Nat := 0x6F050
def PCK_KEY_CMD.SLOT : Fld := ⟨PCK_KEY_CMD, 5, 0⟩
def PCK_KEY_CMD.OP : Fld := ⟨PCK_KEY_CMD, 7, 6⟩
def PCK_KEY_CMD.GO : Fld := ⟨PCK_KEY_CMD, 31, 31⟩
def PCK_KEY_DATA : Nat := 0x6F054
def PCK_KEY_DATA.DATA : Fld := ⟨PCK_KEY_DATA, 31, 0⟩
def PCK_KEY_STAT (i : Nat) : Nat := 0x6F058 + i * 0x4
def PCK_KEY_STAT.LOADED (i : Nat) : Fld := ⟨PCK_KEY_STAT i, 31, 0⟩
def PCK_KEY_BUSY (i : Nat) : Nat := 0x6F060 + i * 0x4
def PCK_KEY_BUSY.ERASING (i : Nat) : Fld := ⟨PCK_KEY_BUSY i, 31, 0⟩
def PCK_ERR_CNT : Nat := 0x6F068
def PCK_ERR_CNT.NOT_SHRUNK : Fld := ⟨PCK_ERR_CNT, 7, 0⟩
def PCK_ERR_CNT.CODES : Fld := ⟨PCK_ERR_CNT, 15, 8⟩
def PCK_ERR_CNT.CHECK : Fld := ⟨PCK_ERR_CNT, 23, 16⟩
def PCK_ERR_CNT.RESTARTS : Fld := ⟨PCK_ERR_CNT, 31, 24⟩
def RCH_CTRL (i : Nat) : Nat := 0x80000 + i * 0x800
def RCH_CTRL.EN (i : Nat) : Fld := ⟨RCH_CTRL i, 0, 0⟩
def RCH_CTRL.READERS (i : Nat) : Fld := ⟨RCH_CTRL i, 2, 1⟩
def RCH_CTRL.SHADOW (i : Nat) : Fld := ⟨RCH_CTRL i, 3, 3⟩
def RCH_AFE_CFG (i : Nat) : Nat := 0x80004 + i * 0x800
def RCH_AFE_CFG.CTLE_A (i : Nat) : Fld := ⟨RCH_AFE_CFG i, 3, 0⟩
def RCH_AFE_CFG.CTLE_B (i : Nat) : Fld := ⟨RCH_AFE_CFG i, 7, 4⟩
def RCH_AFE_CFG.HPF_A (i : Nat) : Fld := ⟨RCH_AFE_CFG i, 10, 8⟩
def RCH_AFE_CFG.HPF_B (i : Nat) : Fld := ⟨RCH_AFE_CFG i, 13, 11⟩
def RCH_AFE_CFG.TERM (i : Nat) : Fld := ⟨RCH_AFE_CFG i, 14, 14⟩
def RCH_AGC_CFG (i : Nat) : Nat := 0x80008 + i * 0x800
def RCH_AGC_CFG.START_GAIN (i : Nat) : Fld := ⟨RCH_AGC_CFG i, 8, 0⟩
def RCH_AGC_CFG.AGC_TARGET (i : Nat) : Fld := ⟨RCH_AGC_CFG i, 15, 9⟩
def RCH_AGC_CFG.K_FAST (i : Nat) : Fld := ⟨RCH_AGC_CFG i, 19, 16⟩
def RCH_AGC_CFG.K_SLOW (i : Nat) : Fld := ⟨RCH_AGC_CFG i, 23, 20⟩
def RCH_AGC_CFG.CARRY (i : Nat) : Fld := ⟨RCH_AGC_CFG i, 24, 24⟩
def RCH_BLC_CFG (i : Nat) : Nat := 0x8000C + i * 0x800
def RCH_BLC_CFG.BLC_SHIFT (i : Nat) : Fld := ⟨RCH_BLC_CFG i, 3, 0⟩
def RCH_BLC_CFG.BLC_EN (i : Nat) : Fld := ⟨RCH_BLC_CFG i, 4, 4⟩
def RCH_TA_CFG (i : Nat) : Nat := 0x80010 + i * 0x800
def RCH_TA_CFG.TA_THRESH (i : Nat) : Fld := ⟨RCH_TA_CFG i, 7, 0⟩
def RCH_TA_CFG.TA_QUAL (i : Nat) : Fld := ⟨RCH_TA_CFG i, 11, 8⟩
def RCH_TA_CFG.TA_TAIL (i : Nat) : Fld := ⟨RCH_TA_CFG i, 19, 12⟩
def RCH_TA_CFG.TA_MAX (i : Nat) : Fld := ⟨RCH_TA_CFG i, 27, 20⟩
def RCH_TA_CFG.TA_EN (i : Nat) : Fld := ⟨RCH_TA_CFG i, 28, 28⟩
def RCH_TA_CFG.TA_SWITCH (i : Nat) : Fld := ⟨RCH_TA_CFG i, 29, 29⟩
def RCH_TR_CFG (i : Nat) : Nat := 0x80014 + i * 0x800
def RCH_TR_CFG.KP (i : Nat) : Fld := ⟨RCH_TR_CFG i, 4, 0⟩
def RCH_TR_CFG.KI (i : Nat) : Fld := ⟨RCH_TR_CFG i, 9, 5⟩
def RCH_TR_CFG.LOCK_THRESH (i : Nat) : Fld := ⟨RCH_TR_CFG i, 15, 10⟩
def RCH_TR_CFG.ZPS (i : Nat) : Fld := ⟨RCH_TR_CFG i, 16, 16⟩
def RCH_TR_CFG.KP_DATA (i : Nat) : Fld := ⟨RCH_TR_CFG i, 20, 17⟩
def RCH_DET_CFG (i : Nat) : Nat := 0x80018 + i * 0x800
def RCH_DET_CFG.LLR_SCALE (i : Nat) : Fld := ⟨RCH_DET_CFG i, 4, 0⟩
def RCH_DET_CFG.LLR_STRONG (i : Nat) : Fld := ⟨RCH_DET_CFG i, 9, 5⟩
def RCH_DET_CFG.SEL_THRESH (i : Nat) : Fld := ⟨RCH_DET_CFG i, 25, 10⟩
def RCH_DET_CFG.NP_EN (i : Nat) : Fld := ⟨RCH_DET_CFG i, 26, 26⟩
def RCH_SYNC_CFG (i : Nat) : Nat := 0x8001C + i * 0x800
def RCH_SYNC_CFG.SYNC_TOL (i : Nat) : Fld := ⟨RCH_SYNC_CFG i, 3, 0⟩
def RCH_SYNC_CFG.RESCUE_EN (i : Nat) : Fld := ⟨RCH_SYNC_CFG i, 4, 4⟩
def RCH_SYNC_CFG.FRAG_TOL (i : Nat) : Fld := ⟨RCH_SYNC_CFG i, 8, 5⟩
def RCH_ADAPT_CFG (i : Nat) : Nat := 0x80020 + i * 0x800
def RCH_ADAPT_CFG.ADAPT_EN (i : Nat) : Fld := ⟨RCH_ADAPT_CFG i, 0, 0⟩
def RCH_ADAPT_CFG.MU (i : Nat) : Fld := ⟨RCH_ADAPT_CFG i, 4, 1⟩
def RCH_ADAPT_CFG.ADAPT_MIN (i : Nat) : Fld := ⟨RCH_ADAPT_CFG i, 20, 5⟩
def RCH_ADAPT_CFG.MAIN_TAP (i : Nat) : Fld := ⟨RCH_ADAPT_CFG i, 24, 21⟩
def RCH_COEF_ADDR (i : Nat) : Nat := 0x80024 + i * 0x800
def RCH_COEF_ADDR.WORD (i : Nat) : Fld := ⟨RCH_COEF_ADDR i, 10, 0⟩
def RCH_COEF_ADDR.BANK (i : Nat) : Fld := ⟨RCH_COEF_ADDR i, 18, 16⟩
def RCH_COEF_ADDR.AUTO (i : Nat) : Fld := ⟨RCH_COEF_ADDR i, 19, 19⟩
def RCH_COEF_DATA (i : Nat) : Nat := 0x80028 + i * 0x800
def RCH_COEF_DATA.DATA (i : Nat) : Fld := ⟨RCH_COEF_DATA i, 31, 0⟩
def RCH_AGC_STAT (i : Nat) : Nat := 0x8002C + i * 0x800
def RCH_AGC_STAT.GAIN_A (i : Nat) : Fld := ⟨RCH_AGC_STAT i, 8, 0⟩
def RCH_AGC_STAT.GAIN_B (i : Nat) : Fld := ⟨RCH_AGC_STAT i, 17, 9⟩
def RCH_TR_STAT (i : Nat) : Nat := 0x80030 + i * 0x800
def RCH_TR_STAT.FREQ (i : Nat) : Fld := ⟨RCH_TR_STAT i, 15, 0⟩
def RCH_TR_STAT.PHASE (i : Nat) : Fld := ⟨RCH_TR_STAT i, 21, 16⟩
def RCH_TR_STAT.LOCK (i : Nat) : Fld := ⟨RCH_TR_STAT i, 22, 22⟩
def RCH_SYNC_STAT (i : Nat) : Nat := 0x80034 + i * 0x800
def RCH_SYNC_STAT.SYNC_POS (i : Nat) : Fld := ⟨RCH_SYNC_STAT i, 15, 0⟩
def RCH_SYNC_STAT.PRIMARY_DIST (i : Nat) : Fld := ⟨RCH_SYNC_STAT i, 23, 16⟩
def RCH_SYNC_STAT.RESCUE_DIST (i : Nat) : Fld := ⟨RCH_SYNC_STAT i, 31, 24⟩
def RCH_QUAL (i : Nat) : Nat := 0x80038 + i * 0x800
def RCH_QUAL.DQM (i : Nat) : Fld := ⟨RCH_QUAL i, 15, 0⟩
def RCH_HEALTH_A (i : Nat) : Nat := 0x8003C + i * 0x800
def RCH_HEALTH_A.AMP (i : Nat) : Fld := ⟨RCH_HEALTH_A i, 7, 0⟩
def RCH_HEALTH_A.NOISE (i : Nat) : Fld := ⟨RCH_HEALTH_A i, 15, 8⟩
def RCH_HEALTH_A.RUN (i : Nat) : Fld := ⟨RCH_HEALTH_A i, 23, 16⟩
def RCH_HEALTH_A.OPEN_SUSPECT (i : Nat) : Fld := ⟨RCH_HEALTH_A i, 24, 24⟩
def RCH_HEALTH_A.SHORT_SUSPECT (i : Nat) : Fld := ⟨RCH_HEALTH_A i, 25, 25⟩
def RCH_HEALTH_B (i : Nat) : Nat := 0x80040 + i * 0x800
def RCH_HEALTH_B.AMP (i : Nat) : Fld := ⟨RCH_HEALTH_B i, 7, 0⟩
def RCH_HEALTH_B.NOISE (i : Nat) : Fld := ⟨RCH_HEALTH_B i, 15, 8⟩
def RCH_HEALTH_B.RUN (i : Nat) : Fld := ⟨RCH_HEALTH_B i, 23, 16⟩
def RCH_HEALTH_B.OPEN_SUSPECT (i : Nat) : Fld := ⟨RCH_HEALTH_B i, 24, 24⟩
def RCH_HEALTH_B.SHORT_SUSPECT (i : Nat) : Fld := ⟨RCH_HEALTH_B i, 25, 25⟩
def RCH_STATUS (i : Nat) : Nat := 0x80044 + i * 0x800
def RCH_STATUS.PRIMARY_MISS (i : Nat) : Fld := ⟨RCH_STATUS i, 0, 0⟩
def RCH_STATUS.NO_SYNC (i : Nat) : Fld := ⟨RCH_STATUS i, 1, 1⟩
def RCH_STATUS.FRAG_MISS (i : Nat) : Fld := ⟨RCH_STATUS i, 2, 2⟩
def RCH_STATUS.TA (i : Nat) : Fld := ⟨RCH_STATUS i, 3, 3⟩
def RCH_STATUS.LOL (i : Nat) : Fld := ⟨RCH_STATUS i, 4, 4⟩
def RCH_STATUS.NOT_RETAINED (i : Nat) : Fld := ⟨RCH_STATUS i, 5, 5⟩
def RCH_STATUS.COEF_DROP (i : Nat) : Fld := ⟨RCH_STATUS i, 6, 6⟩
def RCH_STATUS.READER_SUSPECT (i : Nat) : Fld := ⟨RCH_STATUS i, 7, 7⟩
def RCH_STATUS.DATAPATH_ERR (i : Nat) : Fld := ⟨RCH_STATUS i, 8, 8⟩
def RCH_STATUS.LATE (i : Nat) : Fld := ⟨RCH_STATUS i, 9, 9⟩
def RCH_INT_EN (i : Nat) : Nat := 0x80048 + i * 0x800
def RCH_INT_EN.EN (i : Nat) : Fld := ⟨RCH_INT_EN i, 9, 0⟩
def RCH_SECT_CNT (i : Nat) : Nat := 0x8004C + i * 0x800
def RCH_SECT_CNT.SECTORS (i : Nat) : Fld := ⟨RCH_SECT_CNT i, 31, 0⟩
def RCH_SYNC_CNT (i : Nat) : Nat := 0x80050 + i * 0x800
def RCH_SYNC_CNT.RESCUES (i : Nat) : Fld := ⟨RCH_SYNC_CNT i, 15, 0⟩
def RCH_SYNC_CNT.NO_SYNC (i : Nat) : Fld := ⟨RCH_SYNC_CNT i, 31, 16⟩
def RCH_EVT_CNT (i : Nat) : Nat := 0x80054 + i * 0x800
def RCH_EVT_CNT.TA (i : Nat) : Fld := ⟨RCH_EVT_CNT i, 7, 0⟩
def RCH_EVT_CNT.LOL (i : Nat) : Fld := ⟨RCH_EVT_CNT i, 15, 8⟩
def RCH_EVT_CNT.FRAG_MISS (i : Nat) : Fld := ⟨RCH_EVT_CNT i, 23, 16⟩
def RCH_EVT_CNT.NOT_RETAINED (i : Nat) : Fld := ⟨RCH_EVT_CNT i, 31, 24⟩
def RCH_RET_PTR (i : Nat) : Nat := 0x80058 + i * 0x800
def RCH_RET_PTR.NEXT (i : Nat) : Fld := ⟨RCH_RET_PTR i, 3, 0⟩
def RCH_RET_PTR.SEQ (i : Nat) : Fld := ⟨RCH_RET_PTR i, 31, 4⟩
def RCH_MAP (i : Nat) : Nat := 0x8005C + i * 0x800
def RCH_MAP.POS (i : Nat) : Fld := ⟨RCH_MAP i, 2, 0⟩
def RCH_MAP.ROLE (i : Nat) : Fld := ⟨RCH_MAP i, 4, 3⟩
def RCH_MAP.FENCED (i : Nat) : Fld := ⟨RCH_MAP i, 5, 5⟩
def RCH_PRIMARY_LO : Nat := 0x8F000
def RCH_PRIMARY_LO.MARK : Fld := ⟨RCH_PRIMARY_LO, 31, 0⟩
def RCH_PRIMARY_HI : Nat := 0x8F004
def RCH_PRIMARY_HI.MARK : Fld := ⟨RCH_PRIMARY_HI, 7, 0⟩
def RCH_RESCUE_LO : Nat := 0x8F008
def RCH_RESCUE_LO.MARK : Fld := ⟨RCH_RESCUE_LO, 31, 0⟩
def RCH_RESCUE_HI : Nat := 0x8F00C
def RCH_RESCUE_HI.MARK : Fld := ⟨RCH_RESCUE_HI, 7, 0⟩
def RCH_FRAG_LO : Nat := 0x8F010
def RCH_FRAG_LO.MARK : Fld := ⟨RCH_FRAG_LO, 31, 0⟩
def RCH_FRAG_HI : Nat := 0x8F014
def RCH_FRAG_HI.MARK : Fld := ⟨RCH_FRAG_HI, 7, 0⟩
def RCH_RET_CFG : Nat := 0x8F018
def RCH_RET_CFG.DEPTH : Fld := ⟨RCH_RET_CFG, 3, 0⟩
def RCH_RET_CFG.FORCE_SEL : Fld := ⟨RCH_RET_CFG, 4, 4⟩
def RCH_RET_CFG.RET_EN : Fld := ⟨RCH_RET_CFG, 5, 5⟩
def RCH_RET_BASE : Nat := 0x8F01C
def RCH_RET_BASE.BASE_PAGE : Fld := ⟨RCH_RET_BASE, 13, 0⟩
def RCH_RET_STAT : Nat := 0x8F020
def RCH_RET_STAT.MODE : Fld := ⟨RCH_RET_STAT, 0, 0⟩
def RCH_RET_STAT.PLANE_CAUSE : Fld := ⟨RCH_RET_STAT, 1, 1⟩
def RCH_RET_STAT.PAGES : Fld := ⟨RCH_RET_STAT, 28, 16⟩
def RCH_SPARE_MAP : Nat := 0x8F024
def RCH_SPARE_MAP.POS0 : Fld := ⟨RCH_SPARE_MAP, 2, 0⟩
def RCH_SPARE_MAP.SUB0 : Fld := ⟨RCH_SPARE_MAP, 3, 3⟩
def RCH_SPARE_MAP.POS1 : Fld := ⟨RCH_SPARE_MAP, 6, 4⟩
def RCH_SPARE_MAP.SUB1 : Fld := ⟨RCH_SPARE_MAP, 7, 7⟩
def RCH_SPARE_MAP.POS2 : Fld := ⟨RCH_SPARE_MAP, 10, 8⟩
def RCH_SPARE_MAP.SUB2 : Fld := ⟨RCH_SPARE_MAP, 11, 11⟩
def RCH_SPARE_MAP.POS3 : Fld := ⟨RCH_SPARE_MAP, 14, 12⟩
def RCH_SPARE_MAP.SUB3 : Fld := ⟨RCH_SPARE_MAP, 15, 15⟩
def RCH_SPARE_CMD : Nat := 0x8F028
def RCH_SPARE_CMD.POS : Fld := ⟨RCH_SPARE_CMD, 2, 0⟩
def RCH_SPARE_CMD.ACT : Fld := ⟨RCH_SPARE_CMD, 4, 3⟩
def RCH_SPARE_CMD.OP : Fld := ⟨RCH_SPARE_CMD, 6, 5⟩
def RCH_SPARE_CMD.GO : Fld := ⟨RCH_SPARE_CMD, 8, 8⟩
def RCH_RATE_ADDR : Nat := 0x8F02C
def RCH_RATE_ADDR.SEL : Fld := ⟨RCH_RATE_ADDR, 6, 0⟩
def RCH_RATE_DATA : Nat := 0x8F030
def RCH_RATE_DATA.DATA : Fld := ⟨RCH_RATE_DATA, 31, 0⟩
def RCH_SEL_CNT : Nat := 0x8F034
def RCH_SEL_CNT.COMMITTED : Fld := ⟨RCH_SEL_CNT, 15, 0⟩
def RCH_SEL_CNT.NOT_RETAINED : Fld := ⟨RCH_SEL_CNT, 31, 16⟩
def RCH_GSTATUS : Nat := 0x8F038
def RCH_GSTATUS.SPARE_DONE : Fld := ⟨RCH_GSTATUS, 0, 0⟩
def RCH_GSTATUS.SPARE_REFUSED : Fld := ⟨RCH_GSTATUS, 1, 1⟩
def RCH_GSTATUS.MODE_CHANGE : Fld := ⟨RCH_GSTATUS, 2, 2⟩
def RCH_PRESENT : Nat := 0x8F03C
def RCH_PRESENT.MASK : Fld := ⟨RCH_PRESENT, 27, 0⟩
def DEC_CTRL (i : Nat) : Nat := 0x90000 + i * 0x40
def DEC_CTRL.EN (i : Nat) : Fld := ⟨DEC_CTRL i, 0, 0⟩
def DEC_ESTATUS (i : Nat) : Nat := 0x90004 + i * 0x40
def DEC_ESTATUS.BUSY (i : Nat) : Fld := ⟨DEC_ESTATUS i, 0, 0⟩
def DEC_ESTATUS.FENCED (i : Nat) : Fld := ⟨DEC_ESTATUS i, 1, 1⟩
def DEC_ESTATUS.DATAPATH_ERR (i : Nat) : Fld := ⟨DEC_ESTATUS i, 2, 2⟩
def DEC_ESTATUS.OVERTIME (i : Nat) : Fld := ⟨DEC_ESTATUS i, 3, 3⟩
def DEC_ESTATUS.CUR_ITER (i : Nat) : Fld := ⟨DEC_ESTATUS i, 13, 8⟩
def DEC_ITER_CNT (i : Nat) : Nat := 0x90008 + i * 0x40
def DEC_ITER_CNT.ITERS (i : Nat) : Fld := ⟨DEC_ITER_CNT i, 31, 0⟩
def DEC_SECT_CNT (i : Nat) : Nat := 0x9000C + i * 0x40
def DEC_SECT_CNT.CONVERGED (i : Nat) : Fld := ⟨DEC_SECT_CNT i, 15, 0⟩
def DEC_SECT_CNT.FAILED (i : Nat) : Fld := ⟨DEC_SECT_CNT i, 31, 16⟩
def DEC_CFG : Nat := 0x9F000
def DEC_CFG.QUICK_MAX : Fld := ⟨DEC_CFG, 3, 0⟩
def DEC_CFG.DEEP_MAX : Fld := ⟨DEC_CFG, 9, 4⟩
def DEC_CFG.INNER : Fld := ⟨DEC_CFG, 11, 10⟩
def DEC_CFG.NORM : Fld := ⟨DEC_CFG, 14, 12⟩
def DEC_CFG.EARLY_STOP : Fld := ⟨DEC_CFG, 15, 15⟩
def DEC_CFG.SW_ALIGN : Fld := ⟨DEC_CFG, 28, 16⟩
def DEC_CFG.ALIGN_EN : Fld := ⟨DEC_CFG, 29, 29⟩
def DEC_RETRY_CFG : Nat := 0x9F004
def DEC_RETRY_CFG.REREAD_MAX : Fld := ⟨DEC_RETRY_CFG, 2, 0⟩
def DEC_RETRY_CFG.RR_STEP : Fld := ⟨DEC_RETRY_CFG, 10, 3⟩
def DEC_RETRY_CFG.DEEP_EN : Fld := ⟨DEC_RETRY_CFG, 11, 11⟩
def DEC_RETRY_CFG.MARG_EN : Fld := ⟨DEC_RETRY_CFG, 12, 12⟩
def DEC_RETRY_CFG.MARG_STEP : Fld := ⟨DEC_RETRY_CFG, 14, 13⟩
def DEC_STATUS : Nat := 0x9F008
def DEC_STATUS.BUDGET_SHORT : Fld := ⟨DEC_STATUS, 0, 0⟩
def DEC_STATUS.BACKLOG_REREAD : Fld := ⟨DEC_STATUS, 1, 1⟩
def DEC_STATUS.UNRECOVERED : Fld := ⟨DEC_STATUS, 2, 2⟩
def DEC_STATUS.CRC_FAIL : Fld := ⟨DEC_STATUS, 3, 3⟩
def DEC_STATUS.MISPLACED : Fld := ⟨DEC_STATUS, 4, 4⟩
def DEC_STATUS.LLR_PARITY : Fld := ⟨DEC_STATUS, 5, 5⟩
def DEC_STATUS.LLR_FULL : Fld := ⟨DEC_STATUS, 6, 6⟩
def DEC_STATUS.CAPACITY : Fld := ⟨DEC_STATUS, 7, 7⟩
def DEC_STATUS.COLLECT_LATE : Fld := ⟨DEC_STATUS, 8, 8⟩
def DEC_INT_EN : Nat := 0x9F00C
def DEC_INT_EN.EN : Fld := ⟨DEC_INT_EN, 8, 0⟩
def DEC_BUDGET_STAT : Nat := 0x9F010
def DEC_BUDGET_STAT.GRANT : Fld := ⟨DEC_BUDGET_STAT, 11, 0⟩
def DEC_BUDGET_STAT.RESERVE : Fld := ⟨DEC_BUDGET_STAT, 23, 12⟩
def DEC_BUDGET_STAT.ENDS : Fld := ⟨DEC_BUDGET_STAT, 31, 24⟩
def DEC_DEEP_STAT : Nat := 0x9F014
def DEC_DEEP_STAT.DEPTH : Fld := ⟨DEC_DEEP_STAT, 8, 0⟩
def DEC_DEEP_STAT.TRIALS : Fld := ⟨DEC_DEEP_STAT, 12, 9⟩
def DEC_DEEP_STAT.BUSY : Fld := ⟨DEC_DEEP_STAT, 19, 16⟩
def DEC_IN_SERVICE : Nat := 0x9F018
def DEC_IN_SERVICE.MASK : Fld := ⟨DEC_IN_SERVICE, 31, 0⟩
def DEC_IN_SERVICE_DEEP : Nat := 0x9F01C
def DEC_IN_SERVICE_DEEP.MASK : Fld := ⟨DEC_IN_SERVICE_DEEP, 3, 0⟩
def DEC_CONV_CNT : Nat := 0x9F020
def DEC_CONV_CNT.CNT : Fld := ⟨DEC_CONV_CNT, 31, 0⟩
def DEC_ALIGN_CNT : Nat := 0x9F024
def DEC_ALIGN_CNT.OK : Fld := ⟨DEC_ALIGN_CNT, 15, 0⟩
def DEC_ALIGN_CNT.TRIALS : Fld := ⟨DEC_ALIGN_CNT, 31, 16⟩
def DEC_DEEP_CNT : Nat := 0x9F028
def DEC_DEEP_CNT.CONVERGED : Fld := ⟨DEC_DEEP_CNT, 15, 0⟩
def DEC_DEEP_CNT.FAILED : Fld := ⟨DEC_DEEP_CNT, 31, 16⟩
def DEC_REREAD_CNT : Nat := 0x9F02C
def DEC_REREAD_CNT.CHARGED : Fld := ⟨DEC_REREAD_CNT, 15, 0⟩
def DEC_REREAD_CNT.BACKLOG : Fld := ⟨DEC_REREAD_CNT, 31, 16⟩
def DEC_ERR_CNT : Nat := 0x9F030
def DEC_ERR_CNT.UNRECOVERED : Fld := ⟨DEC_ERR_CNT, 7, 0⟩
def DEC_ERR_CNT.CRC_FAIL : Fld := ⟨DEC_ERR_CNT, 15, 8⟩
def DEC_ERR_CNT.MISPLACED : Fld := ⟨DEC_ERR_CNT, 23, 16⟩
def DEC_ERR_CNT.BUDGET_SHORT : Fld := ⟨DEC_ERR_CNT, 31, 24⟩
def DEC_TRACE_CTRL : Nat := 0x9F034
def DEC_TRACE_CTRL.EN : Fld := ⟨DEC_TRACE_CTRL, 0, 0⟩
def DEC_TRACE_CTRL.SOURCE : Fld := ⟨DEC_TRACE_CTRL, 6, 1⟩
def DEC_TRACE_CTRL.ALL : Fld := ⟨DEC_TRACE_CTRL, 7, 7⟩
def DEC_TRACE_DATA (i : Nat) : Nat := 0x9F038 + i * 0x4
def DEC_TRACE_DATA.DATA (i : Nat) : Fld := ⟨DEC_TRACE_DATA i, 31, 0⟩
def WRP_CTRL (i : Nat) : Nat := 0xA0000 + i * 0x200
def WRP_CTRL.EN (i : Nat) : Fld := ⟨WRP_CTRL i, 0, 0⟩
def WRP_CTRL.OTW_THRESH (i : Nat) : Fld := ⟨WRP_CTRL i, 8, 1⟩
def WRP_CTRL.SCR_EN (i : Nat) : Fld := ⟨WRP_CTRL i, 9, 9⟩
def WRP_CTRL.INT_EN (i : Nat) : Fld := ⟨WRP_CTRL i, 29, 16⟩
def WRP_WC_CFG (i : Nat) : Nat := 0xA0004 + i * 0x200
def WRP_WC_CFG.IW (i : Nat) : Fld := ⟨WRP_WC_CFG i, 6, 0⟩
def WRP_WC_CFG.OSA (i : Nat) : Fld := ⟨WRP_WC_CFG i, 11, 7⟩
def WRP_WC_CFG.OSD (i : Nat) : Fld := ⟨WRP_WC_CFG i, 15, 12⟩
def WRP_HTR_CFG (i : Nat) : Nat := 0xA0008 + i * 0x200
def WRP_HTR_CFG.HTR_RD (i : Nat) : Fld := ⟨WRP_HTR_CFG i, 7, 0⟩
def WRP_HTR_CFG.HTR_WR (i : Nat) : Fld := ⟨WRP_HTR_CFG i, 15, 8⟩
def WRP_HTR_CFG.HTR_IDLE (i : Nat) : Fld := ⟨WRP_HTR_CFG i, 23, 16⟩
def WRP_HTR_CFG.PREHEAT (i : Nat) : Fld := ⟨WRP_HTR_CFG i, 27, 24⟩
def WRP_PRECOMP (i : Nat) : Nat := 0xA000C + i * 0x200
def WRP_PRECOMP.PC1 (i : Nat) : Fld := ⟨WRP_PRECOMP i, 3, 0⟩
def WRP_PRECOMP.PC2 (i : Nat) : Fld := ⟨WRP_PRECOMP i, 7, 4⟩
def WRP_STATUS (i : Nat) : Nat := 0xA0010 + i * 0x200
def WRP_STATUS.WUS (i : Nat) : Fld := ⟨WRP_STATUS i, 0, 0⟩
def WRP_STATUS.OFFTRACK (i : Nat) : Fld := ⟨WRP_STATUS i, 1, 1⟩
def WRP_STATUS.SAM_MISS (i : Nat) : Fld := ⟨WRP_STATUS i, 2, 2⟩
def WRP_STATUS.SPEED (i : Nat) : Fld := ⟨WRP_STATUS i, 3, 3⟩
def WRP_STATUS.OSC (i : Nat) : Fld := ⟨WRP_STATUS i, 4, 4⟩
def WRP_STATUS.PA_FAULT (i : Nat) : Fld := ⟨WRP_STATUS i, 5, 5⟩
def WRP_STATUS.SUPPLY (i : Nat) : Fld := ⟨WRP_STATUS i, 6, 6⟩
def WRP_STATUS.LANE (i : Nat) : Fld := ⟨WRP_STATUS i, 7, 7⟩
def WRP_STATUS.CRC_ERR (i : Nat) : Fld := ⟨WRP_STATUS i, 8, 8⟩
def WRP_STATUS.CONTACT (i : Nat) : Fld := ⟨WRP_STATUS i, 9, 9⟩
def WRP_STATUS.PA_CRC (i : Nat) : Fld := ⟨WRP_STATUS i, 10, 10⟩
def WRP_STATUS.WRITER_LOST (i : Nat) : Fld := ⟨WRP_STATUS i, 11, 11⟩
def WRP_STATUS.READER_A_LOST (i : Nat) : Fld := ⟨WRP_STATUS i, 12, 12⟩
def WRP_STATUS.READER_B_LOST (i : Nat) : Fld := ⟨WRP_STATUS i, 13, 13⟩
def WRP_STATUS.INHIBIT (i : Nat) : Fld := ⟨WRP_STATUS i, 14, 14⟩
def WRP_STATUS.GATE (i : Nat) : Fld := ⟨WRP_STATUS i, 15, 15⟩
def WRP_EVT_CNT (i : Nat) : Nat := 0xA0014 + i * 0x200
def WRP_EVT_CNT.DROPS (i : Nat) : Fld := ⟨WRP_EVT_CNT i, 7, 0⟩
def WRP_EVT_CNT.REWRITES (i : Nat) : Fld := ⟨WRP_EVT_CNT i, 15, 8⟩
def WRP_EVT_CNT.CONTACTS (i : Nat) : Fld := ⟨WRP_EVT_CNT i, 23, 16⟩
def WRP_EVT_CNT.PA_CRCS (i : Nat) : Fld := ⟨WRP_EVT_CNT i, 31, 24⟩
def WRP_PA_CMD (i : Nat) : Nat := 0xA0018 + i * 0x200
def WRP_PA_CMD.ADDR (i : Nat) : Fld := ⟨WRP_PA_CMD i, 7, 0⟩
def WRP_PA_CMD.DATA (i : Nat) : Fld := ⟨WRP_PA_CMD i, 23, 8⟩
def WRP_PA_CMD.RD (i : Nat) : Fld := ⟨WRP_PA_CMD i, 24, 24⟩
def WRP_PA_CMD.BCAST (i : Nat) : Fld := ⟨WRP_PA_CMD i, 25, 25⟩
def WRP_PA_CMD.GO (i : Nat) : Fld := ⟨WRP_PA_CMD i, 31, 31⟩
def WRP_PA_RESP (i : Nat) : Nat := 0xA001C + i * 0x200
def WRP_PA_RESP.DATA (i : Nat) : Fld := ⟨WRP_PA_RESP i, 15, 0⟩
def WRP_PA_RESP.DONE (i : Nat) : Fld := ⟨WRP_PA_RESP i, 16, 16⟩
def WRP_PA_RESP.CRC_ERR (i : Nat) : Fld := ⟨WRP_PA_RESP i, 17, 17⟩
def WRP_PA_RESP.REFUSED (i : Nat) : Fld := ⟨WRP_PA_RESP i, 18, 18⟩
def SEQ_CTRL (i : Nat) : Nat := 0xB0000 + i * 0x100
def SEQ_CTRL.EN (i : Nat) : Fld := ⟨SEQ_CTRL i, 0, 0⟩
def SEQ_CTRL.HOOK_EN (i : Nat) : Fld := ⟨SEQ_CTRL i, 1, 1⟩
def SEQ_CTRL.STEP (i : Nat) : Fld := ⟨SEQ_CTRL i, 2, 2⟩
def SEQ_STATUS (i : Nat) : Nat := 0xB0004 + i * 0x100
def SEQ_STATUS.LATE (i : Nat) : Fld := ⟨SEQ_STATUS i, 0, 0⟩
def SEQ_STATUS.HOOK_OVER (i : Nat) : Fld := ⟨SEQ_STATUS i, 1, 1⟩
def SEQ_STATUS.CONFINE (i : Nat) : Fld := ⟨SEQ_STATUS i, 2, 2⟩
def SEQ_STATUS.STACK (i : Nat) : Fld := ⟨SEQ_STATUS i, 3, 3⟩
def SEQ_STATUS.ORDER (i : Nat) : Fld := ⟨SEQ_STATUS i, 4, 4⟩
def SEQ_STATUS.STORE_CORR (i : Nat) : Fld := ⟨SEQ_STATUS i, 5, 5⟩
def SEQ_STATUS.DATAPATH_ERR (i : Nat) : Fld := ⟨SEQ_STATUS i, 6, 6⟩
def SEQ_STATUS.RESTARTED (i : Nat) : Fld := ⟨SEQ_STATUS i, 7, 7⟩
def SEQ_STATUS.WAITING (i : Nat) : Fld := ⟨SEQ_STATUS i, 8, 8⟩
def SEQ_STATUS.RUNNING (i : Nat) : Fld := ⟨SEQ_STATUS i, 9, 9⟩
def SEQ_INT_EN (i : Nat) : Nat := 0xB0008 + i * 0x100
def SEQ_INT_EN.EN (i : Nat) : Fld := ⟨SEQ_INT_EN i, 7, 0⟩
def SEQ_PC (i : Nat) : Nat := 0xB000C + i * 0x100
def SEQ_PC.PC (i : Nat) : Fld := ⟨SEQ_PC i, 13, 0⟩
def SEQ_ENTRY (i : Nat) : Nat := 0xB0010 + i * 0x100
def SEQ_ENTRY.ENTRY (i : Nat) : Fld := ⟨SEQ_ENTRY i, 13, 0⟩
def SEQ_HOOK_BUDGET (i : Nat) : Nat := 0xB0014 + i * 0x100
def SEQ_HOOK_BUDGET.BUDGET (i : Nat) : Fld := ⟨SEQ_HOOK_BUDGET i, 8, 0⟩
def SEQ_SIGNAL (i : Nat) : Nat := 0xB0018 + i * 0x100
def SEQ_SIGNAL.CODE (i : Nat) : Fld := ⟨SEQ_SIGNAL i, 7, 0⟩
def SEQ_SIGNAL.COUNT (i : Nat) : Fld := ⟨SEQ_SIGNAL i, 15, 8⟩
def SEQ_WINDOW (i : Nat) : Nat := 0xB001C + i * 0x100
def SEQ_WINDOW.LAST (i : Nat) : Fld := ⟨SEQ_WINDOW i, 8, 0⟩
def SEQ_WINDOW.MAX (i : Nat) : Fld := ⟨SEQ_WINDOW i, 24, 16⟩
def SEQ_V (i j : Nat) : Nat := 0xB0020 + i * 0x100 + j * 4
def SEQ_V.V (i j : Nat) : Fld := ⟨SEQ_V i j, 31, 0⟩
def SEQ_LC_SP (i : Nat) : Nat := 0xB0040 + i * 0x100
def SEQ_LC_SP.LC (i : Nat) : Fld := ⟨SEQ_LC_SP i, 15, 0⟩
def SEQ_LC_SP.SP (i : Nat) : Fld := ⟨SEQ_LC_SP i, 18, 16⟩
def SEQ_EVT_CNT (i : Nat) : Nat := 0xB0044 + i * 0x100
def SEQ_EVT_CNT.SUPPRESSED (i : Nat) : Fld := ⟨SEQ_EVT_CNT i, 7, 0⟩
def SEQ_EVT_CNT.ABANDONED (i : Nat) : Fld := ⟨SEQ_EVT_CNT i, 15, 8⟩
def SEQ_EVT_CNT.LATE (i : Nat) : Fld := ⟨SEQ_EVT_CNT i, 23, 16⟩
def SEQ_EVT_CNT.RESTARTS (i : Nat) : Fld := ⟨SEQ_EVT_CNT i, 31, 24⟩
def SEQ_FORMAT (i : Nat) : Nat := 0xB0048 + i * 0x100
def SEQ_FORMAT.PRE_LEN (i : Nat) : Fld := ⟨SEQ_FORMAT i, 5, 0⟩
def SEQ_FORMAT.FPRE_LEN (i : Nat) : Fld := ⟨SEQ_FORMAT i, 11, 6⟩
def SEQ_FORMAT.GAP_LEN (i : Nat) : Fld := ⟨SEQ_FORMAT i, 18, 12⟩
def SEQ_FORMAT.SERVO_NS (i : Nat) : Fld := ⟨SEQ_FORMAT i, 30, 19⟩
def SEQ_ENDS (i : Nat) : Nat := 0xB004C + i * 0x100
def SEQ_ENDS.ENDS (i : Nat) : Fld := ⟨SEQ_ENDS i, 15, 0⟩
def SEQ_LOCK : Nat := 0xBF000
def SEQ_LOCK.LOCKED : Fld := ⟨SEQ_LOCK, 0, 0⟩
def SEQ_LOAD_STAT : Nat := 0xBF004
def SEQ_LOAD_STAT.NIMDAL : Fld := ⟨SEQ_LOAD_STAT, 7, 0⟩
def SEQ_LOAD_STAT.CUSTOMER : Fld := ⟨SEQ_LOAD_STAT, 15, 8⟩
def SEQ_LOAD_STAT.CUST_REFUSED : Fld := ⟨SEQ_LOAD_STAT, 16, 16⟩
def SEQ_LOAD_STAT.CUST_ABSENT : Fld := ⟨SEQ_LOAD_STAT, 17, 17⟩
def SEQ_STORE_ADDR : Nat := 0xBF008
def SEQ_STORE_ADDR.ADDR : Fld := ⟨SEQ_STORE_ADDR, 13, 0⟩
def SEQ_STORE_ADDR.STORE : Fld := ⟨SEQ_STORE_ADDR, 16, 16⟩
def SEQ_STORE_ADDR.COPY : Fld := ⟨SEQ_STORE_ADDR, 17, 17⟩
def SEQ_STORE_DATA (i : Nat) : Nat := 0xBF00C + i * 0x4
def SEQ_STORE_DATA.DATA (i : Nat) : Fld := ⟨SEQ_STORE_DATA i, 31, 0⟩
def SEQ_STORE_ERR : Nat := 0xBF01C
def SEQ_STORE_ERR.CORRECTED : Fld := ⟨SEQ_STORE_ERR, 15, 0⟩
def SEQ_STORE_ERR.REPAIRS : Fld := ⟨SEQ_STORE_ERR, 31, 16⟩
def SEQ_PATCH_LEVEL : Nat := 0xBF020
def SEQ_PATCH_LEVEL.NIMDAL : Fld := ⟨SEQ_PATCH_LEVEL, 15, 0⟩
def SEQ_PATCH_LEVEL.CUSTOMER : Fld := ⟨SEQ_PATCH_LEVEL, 31, 16⟩
def SEQ_CUST_ID : Nat := 0xBF024
def SEQ_CUST_ID.ID : Fld := ⟨SEQ_CUST_ID, 31, 0⟩
def SEQ_GSTATUS : Nat := 0xBF028
def SEQ_GSTATUS.CUST_REFUSED : Fld := ⟨SEQ_GSTATUS, 0, 0⟩
def SEQ_GSTATUS.STORE_REPAIR : Fld := ⟨SEQ_GSTATUS, 1, 1⟩
def SEQ_GINT_EN : Nat := 0xBF02C
def SEQ_GINT_EN.EN : Fld := ⟨SEQ_GINT_EN, 1, 0⟩
def SEQ_FLUSH : Nat := 0xBF030
def SEQ_FLUSH.FLUSH : Fld := ⟨SEQ_FLUSH, 3, 0⟩
def SEQ_BASE_VER : Nat := 0xBF034
def SEQ_BASE_VER.VER : Fld := ⟨SEQ_BASE_VER, 31, 0⟩
def SEQ_HOOK_MAP : Nat := 0xBF038
def SEQ_HOOK_MAP.MAP : Fld := ⟨SEQ_HOOK_MAP, 7, 0⟩
def SEQ_PRESENT : Nat := 0xBF03C
def SEQ_PRESENT.MASK : Fld := ⟨SEQ_PRESENT, 3, 0⟩
def SRV_CFG (i : Nat) : Nat := 0xC0000 + i * 0x40
def SRV_CFG.EN (i : Nat) : Fld := ⟨SRV_CFG i, 0, 0⟩
def SRV_CFG.READER (i : Nat) : Fld := ⟨SRV_CFG i, 1, 1⟩
def SRV_CFG.RRO_EN (i : Nat) : Fld := ⟨SRV_CFG i, 2, 2⟩
def SRV_CFG.TREF_OK (i : Nat) : Fld := ⟨SRV_CFG i, 3, 3⟩
def SRV_CFG.PES_GAIN (i : Nat) : Fld := ⟨SRV_CFG i, 19, 4⟩
def SRV_STATUS (i : Nat) : Nat := 0xC0004 + i * 0x40
def SRV_STATUS.SAM_MISS (i : Nat) : Fld := ⟨SRV_STATUS i, 0, 0⟩
def SRV_STATUS.WEDGE_BAD (i : Nat) : Fld := ⟨SRV_STATUS i, 1, 1⟩
def SRV_STATUS.ID_BAD (i : Nat) : Fld := ⟨SRV_STATUS i, 2, 2⟩
def SRV_STATUS.BURST_LOW (i : Nat) : Fld := ⟨SRV_STATUS i, 3, 3⟩
def SRV_STATUS.RRO_BAD (i : Nat) : Fld := ⟨SRV_STATUS i, 4, 4⟩
def SRV_STATUS.LATE (i : Nat) : Fld := ⟨SRV_STATUS i, 5, 5⟩
def SRV_STATUS.SKEW_RANGE (i : Nat) : Fld := ⟨SRV_STATUS i, 6, 6⟩
def SRV_STATUS.READER_SWITCH (i : Nat) : Fld := ⟨SRV_STATUS i, 7, 7⟩
def SRV_STATUS.DATAPATH_ERR (i : Nat) : Fld := ⟨SRV_STATUS i, 8, 8⟩
def SRV_STATUS.STATE (i : Nat) : Fld := ⟨SRV_STATUS i, 11, 9⟩
def SRV_STATUS.MISS_RUN (i : Nat) : Fld := ⟨SRV_STATUS i, 14, 12⟩
def SRV_STATUS.INHIBIT (i : Nat) : Fld := ⟨SRV_STATUS i, 15, 15⟩
def SRV_PE (i : Nat) : Nat := 0xC0008 + i * 0x40
def SRV_PE.PE (i : Nat) : Fld := ⟨SRV_PE i, 31, 0⟩
def SRV_ID (i : Nat) : Nat := 0xC000C + i * 0x40
def SRV_ID.TRACK (i : Nat) : Fld := ⟨SRV_ID i, 23, 0⟩
def SRV_ID.DIST (i : Nat) : Fld := ⟨SRV_ID i, 28, 24⟩
def SRV_SKEW (i : Nat) : Nat := 0xC0010 + i * 0x40
def SRV_SKEW.SKEW (i : Nat) : Fld := ⟨SRV_SKEW i, 15, 0⟩
def SRV_CNT (i : Nat) : Nat := 0xC0014 + i * 0x40
def SRV_CNT.MISSED (i : Nat) : Fld := ⟨SRV_CNT i, 7, 0⟩
def SRV_CNT.ID_BAD (i : Nat) : Fld := ⟨SRV_CNT i, 15, 8⟩
def SRV_CNT.RRO_BAD (i : Nat) : Fld := ⟨SRV_CNT i, 23, 16⟩
def SRV_CNT.LOSSES (i : Nat) : Fld := ⟨SRV_CNT i, 31, 24⟩
def SRV_CTRL : Nat := 0xCF000
def SRV_CTRL.EN : Fld := ⟨SRV_CTRL, 0, 0⟩
def SRV_SAM_PAT : Nat := 0xCF004
def SRV_SAM_PAT.PATTERN : Fld := ⟨SRV_SAM_PAT, 15, 0⟩
def SRV_WIN_CFG : Nat := 0xCF008
def SRV_WIN_CFG.SAM_WIN : Fld := ⟨SRV_WIN_CFG, 5, 0⟩
def SRV_WIN_CFG.SAM_TOL : Fld := ⟨SRV_WIN_CFG, 7, 6⟩
def SRV_WIN_CFG.ID_WIN : Fld := ⟨SRV_WIN_CFG, 20, 8⟩
def SRV_LOSS_CFG : Nat := 0xCF00C
def SRV_LOSS_CFG.WRITE_RECOVER : Fld := ⟨SRV_LOSS_CFG, 3, 0⟩
def SRV_LOSS_CFG.REACQ : Fld := ⟨SRV_LOSS_CFG, 7, 4⟩
def SRV_AMP_CFG : Nat := 0xCF010
def SRV_AMP_CFG.AMP_MIN : Fld := ⟨SRV_AMP_CFG, 15, 0⟩
def SRV_BT_CFG : Nat := 0xCF014
def SRV_BT_CFG.BT_KP : Fld := ⟨SRV_BT_CFG, 3, 0⟩
def SRV_BT_CFG.BT_KI : Fld := ⟨SRV_BT_CFG, 7, 4⟩
def SRV_BT_CFG.SKEW_SHIFT : Fld := ⟨SRV_BT_CFG, 11, 8⟩
def SRV_TREF : Nat := 0xCF018
def SRV_TREF.HEAD : Fld := ⟨SRV_TREF, 4, 0⟩
def SRV_TREF.VALID : Fld := ⟨SRV_TREF, 5, 5⟩
def SRV_BELL_LO : Nat := 0xCF01C
def SRV_BELL_LO.BELL : Fld := ⟨SRV_BELL_LO, 31, 0⟩
def SRV_BELL_HI : Nat := 0xCF020
def SRV_BELL_HI.BELL : Fld := ⟨SRV_BELL_HI, 31, 0⟩
def SRV_PERIOD : Nat := 0xCF024
def SRV_PERIOD.PERIOD : Fld := ⟨SRV_PERIOD, 23, 0⟩
def SRV_WEDGE : Nat := 0xCF028
def SRV_WEDGE.WEDGE : Fld := ⟨SRV_WEDGE, 9, 0⟩
def SRV_WEDGE.LOCKED : Fld := ⟨SRV_WEDGE, 10, 10⟩
def SRV_GSTATUS : Nat := 0xCF02C
def SRV_GSTATUS.TREF_HANDOVER : Fld := ⟨SRV_GSTATUS, 0, 0⟩
def SRV_GSTATUS.TREF_NONE : Fld := ⟨SRV_GSTATUS, 1, 1⟩
def SRV_GSTATUS.BELL_COAST : Fld := ⟨SRV_GSTATUS, 2, 2⟩
def SRV_INT_EN : Nat := 0xCF030
def SRV_INT_EN.EN : Fld := ⟨SRV_INT_EN, 2, 0⟩
def SRV_LOADED : Nat := 0xCF034
def SRV_LOADED.MASK : Fld := ⟨SRV_LOADED, 23, 0⟩
def SRV_LOST : Nat := 0xCF038
def SRV_LOST.MASK : Fld := ⟨SRV_LOST, 23, 0⟩
def SRV_PRESENT : Nat := 0xCF03C
def SRV_PRESENT.MASK : Fld := ⟨SRV_PRESENT, 23, 0⟩
def CTL_CFG (i : Nat) : Nat := 0xD0000 + i * 0x40
def CTL_CFG.ACTIVE_SET (i : Nat) : Fld := ⟨CTL_CFG i, 3, 0⟩
def CTL_CFG.SAFE_SET (i : Nat) : Fld := ⟨CTL_CFG i, 7, 4⟩
def CTL_CFG.NBQ (i : Nat) : Fld := ⟨CTL_CFG i, 11, 8⟩
def CTL_CFG.OBS_EN (i : Nat) : Fld := ⟨CTL_CFG i, 12, 12⟩
def CTL_CFG.FF_EN (i : Nat) : Fld := ⟨CTL_CFG i, 13, 13⟩
def CTL_CFG.AUTO_CLOSE (i : Nat) : Fld := ⟨CTL_CFG i, 14, 14⟩
def CTL_CFG.BAL_EN (i : Nat) : Fld := ⟨CTL_CFG i, 15, 15⟩
def CTL_CFG.STROKE (i : Nat) : Fld := ⟨CTL_CFG i, 25, 16⟩
def CTL_CMD (i : Nat) : Nat := 0xD0004 + i * 0x40
def CTL_CMD.CLOSE (i : Nat) : Fld := ⟨CTL_CMD i, 0, 0⟩
def CTL_CMD.OPEN (i : Nat) : Fld := ⟨CTL_CMD i, 1, 1⟩
def CTL_CMD.RESET_OSC (i : Nat) : Fld := ⟨CTL_CMD i, 2, 2⟩
def CTL_STATUS (i : Nat) : Nat := 0xD0008 + i * 0x40
def CTL_STATUS.REFUSED (i : Nat) : Fld := ⟨CTL_STATUS i, 0, 0⟩
def CTL_STATUS.OSC1 (i : Nat) : Fld := ⟨CTL_STATUS i, 1, 1⟩
def CTL_STATUS.OSC2 (i : Nat) : Fld := ⟨CTL_STATUS i, 2, 2⟩
def CTL_STATUS.OSC3 (i : Nat) : Fld := ⟨CTL_STATUS i, 3, 3⟩
def CTL_STATUS.TRIM_SAT (i : Nat) : Fld := ⟨CTL_STATUS i, 4, 4⟩
def CTL_STATUS.HANDOVER (i : Nat) : Fld := ⟨CTL_STATUS i, 5, 5⟩
def CTL_STATUS.SEEK_TIMEOUT (i : Nat) : Fld := ⟨CTL_STATUS i, 6, 6⟩
def CTL_STATUS.HELD (i : Nat) : Fld := ⟨CTL_STATUS i, 7, 7⟩
def CTL_STATUS.LOAD_FAIL (i : Nat) : Fld := ⟨CTL_STATUS i, 8, 8⟩
def CTL_STATUS.STATE (i : Nat) : Fld := ⟨CTL_STATUS i, 10, 9⟩
def CTL_STATUS.REF (i : Nat) : Fld := ⟨CTL_STATUS i, 13, 11⟩
def CTL_STATUS.SETTLED (i : Nat) : Fld := ⟨CTL_STATUS i, 14, 14⟩
def CTL_STATUS.INHIBIT (i : Nat) : Fld := ⟨CTL_STATUS i, 15, 15⟩
def CTL_OSC_CFG (i : Nat) : Nat := 0xD000C + i * 0x40
def CTL_OSC_CFG.OSC_SHIFT (i : Nat) : Fld := ⟨CTL_OSC_CFG i, 3, 0⟩
def CTL_OSC_CFG.OSC_BELLS (i : Nat) : Fld := ⟨CTL_OSC_CFG i, 11, 4⟩
def CTL_OSC_THRESH (i : Nat) : Nat := 0xD0010 + i * 0x40
def CTL_OSC_THRESH.THRESH (i : Nat) : Fld := ⟨CTL_OSC_THRESH i, 31, 0⟩
def CTL_OUT (i : Nat) : Nat := 0xD0014 + i * 0x40
def CTL_OUT.OUT (i : Nat) : Fld := ⟨CTL_OUT i, 31, 0⟩
def CTL_ERR (i : Nat) : Nat := 0xD0018 + i * 0x40
def CTL_ERR.ERR (i : Nat) : Fld := ⟨CTL_ERR i, 31, 0⟩
def CTL_ENERGY (i : Nat) : Nat := 0xD001C + i * 0x40
def CTL_ENERGY.E (i : Nat) : Fld := ⟨CTL_ENERGY i, 31, 0⟩
def CTL_CENTRE (i : Nat) : Nat := 0xD0020 + i * 0x40
def CTL_CENTRE.CENTRE (i : Nat) : Fld := ⟨CTL_CENTRE i, 15, 0⟩
def CTL_XDISP (i : Nat) : Nat := 0xD0024 + i * 0x40
def CTL_XDISP.X (i : Nat) : Fld := ⟨CTL_XDISP i, 31, 0⟩
def CTL_CNT (i : Nat) : Nat := 0xD0028 + i * 0x40
def CTL_CNT.SATURATIONS (i : Nat) : Fld := ⟨CTL_CNT i, 7, 0⟩
def CTL_CNT.HELD (i : Nat) : Fld := ⟨CTL_CNT i, 15, 8⟩
def CTL_CNT.HANDOVERS (i : Nat) : Fld := ⟨CTL_CNT i, 23, 16⟩
def CTL_CNT.OSC1 (i : Nat) : Fld := ⟨CTL_CNT i, 31, 24⟩
def CTL_CTRL : Nat := 0xDF000
def CTL_CTRL.EN : Fld := ⟨CTL_CTRL, 0, 0⟩
def CTL_GSTATUS : Nat := 0xDF004
def CTL_GSTATUS.LATE : Fld := ⟨CTL_GSTATUS, 0, 0⟩
def CTL_GSTATUS.LANE_FENCE : Fld := ⟨CTL_GSTATUS, 1, 1⟩
def CTL_GSTATUS.MISMATCH : Fld := ⟨CTL_GSTATUS, 2, 2⟩
def CTL_GSTATUS.RES_ALARM : Fld := ⟨CTL_GSTATUS, 3, 3⟩
def CTL_GSTATUS.COEF_ECC : Fld := ⟨CTL_GSTATUS, 4, 4⟩
def CTL_GSTATUS.KAT_FAIL : Fld := ⟨CTL_GSTATUS, 5, 5⟩
def CTL_GSTATUS.COEF_REFUSED : Fld := ⟨CTL_GSTATUS, 6, 6⟩
def CTL_INT_EN : Nat := 0xDF008
def CTL_INT_EN.EN : Fld := ⟨CTL_INT_EN, 6, 0⟩
def CTL_LANE_STAT : Nat := 0xDF00C
def CTL_LANE_STAT.LANE0_OK : Fld := ⟨CTL_LANE_STAT, 0, 0⟩
def CTL_LANE_STAT.LANE1_OK : Fld := ⟨CTL_LANE_STAT, 1, 1⟩
def CTL_LANE_STAT.SWITCHOVER : Fld := ⟨CTL_LANE_STAT, 2, 2⟩
def CTL_LANE_STAT.SINGLE : Fld := ⟨CTL_LANE_STAT, 3, 3⟩
def CTL_LANE_CNT : Nat := 0xDF010
def CTL_LANE_CNT.RETRIES : Fld := ⟨CTL_LANE_CNT, 7, 0⟩
def CTL_LANE_CNT.ALARMS : Fld := ⟨CTL_LANE_CNT, 15, 8⟩
def CTL_LANE_CNT.KAT_FAILS : Fld := ⟨CTL_LANE_CNT, 23, 16⟩
def CTL_LANE_CNT.LATE : Fld := ⟨CTL_LANE_CNT, 31, 24⟩
def CTL_COEF_ADDR : Nat := 0xDF014
def CTL_COEF_ADDR.WORD : Fld := ⟨CTL_COEF_ADDR, 6, 0⟩
def CTL_COEF_ADDR.SET : Fld := ⟨CTL_COEF_ADDR, 11, 7⟩
def CTL_COEF_ADDR.LOOP : Fld := ⟨CTL_COEF_ADDR, 16, 12⟩
def CTL_COEF_ADDR.AUTO : Fld := ⟨CTL_COEF_ADDR, 17, 17⟩
def CTL_COEF_LO : Nat := 0xDF018
def CTL_COEF_LO.VALUE : Fld := ⟨CTL_COEF_LO, 31, 0⟩
def CTL_COEF_HI : Nat := 0xDF01C
def CTL_COEF_HI.SHIFT : Fld := ⟨CTL_COEF_HI, 4, 0⟩
def CTL_SETTLE_CFG : Nat := 0xDF020
def CTL_SETTLE_CFG.SETTLE_WIN : Fld := ⟨CTL_SETTLE_CFG, 15, 0⟩
def CTL_SETTLE_CFG.SETTLE_N : Fld := ⟨CTL_SETTLE_CFG, 19, 16⟩
def CTL_SETTLE_CFG.SETTLE_MAX : Fld := ⟨CTL_SETTLE_CFG, 29, 20⟩
def CTL_HO_CFG : Nat := 0xDF024
def CTL_HO_CFG.HO_SHIFT : Fld := ⟨CTL_HO_CFG, 3, 0⟩
def CTL_HO_CFG.BAL_SHIFT : Fld := ⟨CTL_HO_CFG, 7, 4⟩
def CTL_HO_CFG.LOAD_LOCK : Fld := ⟨CTL_HO_CFG, 17, 8⟩
def CTL_SLOT_STAT : Nat := 0xDF028
def CTL_SLOT_STAT.CYCLES : Fld := ⟨CTL_SLOT_STAT, 10, 0⟩
def CTL_SLOT_STAT.LARGEST : Fld := ⟨CTL_SLOT_STAT, 26, 16⟩
def PROF_TARGET (i : Nat) : Nat := 0xDF040 + i * 0x10
def PROF_TARGET.TARGET (i : Nat) : Fld := ⟨PROF_TARGET i, 23, 0⟩
def PROF_CMD (i : Nat) : Nat := 0xDF044 + i * 0x10
def PROF_CMD.GO (i : Nat) : Fld := ⟨PROF_CMD i, 0, 0⟩
def PROF_CMD.STOP (i : Nat) : Fld := ⟨PROF_CMD i, 1, 1⟩
def PROF_STAT (i : Nat) : Nat := 0xDF048 + i * 0x10
def PROF_STAT.BUSY (i : Nat) : Fld := ⟨PROF_STAT i, 0, 0⟩
def PROF_STAT.REFUSED (i : Nat) : Fld := ⟨PROF_STAT i, 1, 1⟩
def PROF_STAT.REMAINING (i : Nat) : Fld := ⟨PROF_STAT i, 31, 16⟩
def PROF_POS (i : Nat) : Nat := 0xDF04C + i * 0x10
def PROF_POS.POS (i : Nat) : Fld := ⟨PROF_POS i, 23, 0⟩
def MOT_VCM_CFG (i : Nat) : Nat := 0xE0000 + i * 0x40
def MOT_VCM_CFG.IMAX (i : Nat) : Fld := ⟨MOT_VCM_CFG i, 11, 0⟩
def MOT_VCM_CFG.INV (i : Nat) : Fld := ⟨MOT_VCM_CFG i, 12, 12⟩
def MOT_VCM_CFG.REGEN (i : Nat) : Fld := ⟨MOT_VCM_CFG i, 13, 13⟩
def MOT_VCM_CFG.VCM_RES (i : Nat) : Fld := ⟨MOT_VCM_CFG i, 23, 14⟩
def MOT_VCM_CFG.VCM_KS (i : Nat) : Fld := ⟨MOT_VCM_CFG i, 27, 24⟩
def MOT_VCM_MOVE (i : Nat) : Nat := 0xE0004 + i * 0x40
def MOT_VCM_MOVE.RET_VEL (i : Nat) : Fld := ⟨MOT_VCM_MOVE i, 7, 0⟩
def MOT_VCM_MOVE.LOAD_VEL (i : Nat) : Fld := ⟨MOT_VCM_MOVE i, 15, 8⟩
def MOT_VCM_MOVE.RET_MAX (i : Nat) : Fld := ⟨MOT_VCM_MOVE i, 23, 16⟩
def MOT_VCM_MOVE.RAMP_TRAVEL (i : Nat) : Fld := ⟨MOT_VCM_MOVE i, 31, 24⟩
def MOT_VCM_TEST (i : Nat) : Nat := 0xE0008 + i * 0x40
def MOT_VCM_TEST.TEST_I (i : Nat) : Fld := ⟨MOT_VCM_TEST i, 9, 0⟩
def MOT_VCM_TEST.TEST_V (i : Nat) : Fld := ⟨MOT_VCM_TEST i, 17, 10⟩
def MOT_CMD (i : Nat) : Nat := 0xE000C + i * 0x40
def MOT_CMD.LOAD (i : Nat) : Fld := ⟨MOT_CMD i, 0, 0⟩
def MOT_CMD.RETRACT (i : Nat) : Fld := ⟨MOT_CMD i, 1, 1⟩
def MOT_CMD.TEST (i : Nat) : Fld := ⟨MOT_CMD i, 2, 2⟩
def MOT_ASTATUS (i : Nat) : Nat := 0xE0010 + i * 0x40
def MOT_ASTATUS.STATE (i : Nat) : Fld := ⟨MOT_ASTATUS i, 2, 0⟩
def MOT_ASTATUS.POL_OK (i : Nat) : Fld := ⟨MOT_ASTATUS i, 3, 3⟩
def MOT_ASTATUS.POL_SWAP (i : Nat) : Fld := ⟨MOT_ASTATUS i, 4, 4⟩
def MOT_ASTATUS.TEST_FAIL (i : Nat) : Fld := ⟨MOT_ASTATUS i, 5, 5⟩
def MOT_ASTATUS.RET_TIMEOUT (i : Nat) : Fld := ⟨MOT_ASTATUS i, 6, 6⟩
def MOT_ASTATUS.VCM_OC (i : Nat) : Fld := ⟨MOT_ASTATUS i, 7, 7⟩
def MOT_MEAS (i : Nat) : Nat := 0xE0014 + i * 0x40
def MOT_MEAS.CURRENT (i : Nat) : Fld := ⟨MOT_MEAS i, 15, 0⟩
def MOT_MEAS.EMF (i : Nat) : Fld := ⟨MOT_MEAS i, 31, 16⟩
def MOT_CTRL : Nat := 0xEF000
def MOT_CTRL.EN : Fld := ⟨MOT_CTRL, 0, 0⟩
def MOT_SP_CMD : Nat := 0xEF004
def MOT_SP_CMD.START : Fld := ⟨MOT_SP_CMD, 0, 0⟩
def MOT_SP_CMD.STOP : Fld := ⟨MOT_SP_CMD, 1, 1⟩
def MOT_SP_STAT : Nat := 0xEF008
def MOT_SP_STAT.STATE : Fld := ⟨MOT_SP_STAT, 3, 0⟩
def MOT_SP_STAT.SOURCE : Fld := ⟨MOT_SP_STAT, 5, 4⟩
def MOT_SP_STAT.FORWARD : Fld := ⟨MOT_SP_STAT, 6, 6⟩
def MOT_SP_STAT.ATTEMPTS : Fld := ⟨MOT_SP_STAT, 8, 7⟩
def MOT_SP_STAT.START_PENDING : Fld := ⟨MOT_SP_STAT, 9, 9⟩
def MOT_SP_STAT.PHASE_SWAP : Fld := ⟨MOT_SP_STAT, 10, 10⟩
def MOT_SPEED : Nat := 0xEF00C
def MOT_SPEED.RPM : Fld := ⟨MOT_SPEED, 15, 0⟩
def MOT_SPEED.REVERSE : Fld := ⟨MOT_SPEED, 16, 16⟩
def MOT_SP_CFG : Nat := 0xEF010
def MOT_SP_CFG.POLE_PAIRS : Fld := ⟨MOT_SP_CFG, 3, 0⟩
def MOT_SP_CFG.PHASE_SWAP : Fld := ⟨MOT_SP_CFG, 4, 4⟩
def MOT_SP_CFG.CATCH_MIN : Fld := ⟨MOT_SP_CFG, 11, 5⟩
def MOT_SP_CFG.STILL : Fld := ⟨MOT_SP_CFG, 18, 12⟩
def MOT_SP_CFG.UNLOAD_PCT : Fld := ⟨MOT_SP_CFG, 25, 19⟩
def MOT_SP_CFG.FLY_MIN : Fld := ⟨MOT_SP_CFG, 31, 26⟩
def MOT_START_CFG : Nat := 0xEF014
def MOT_START_CFG.ALIGN_MS : Fld := ⟨MOT_START_CFG, 7, 0⟩
def MOT_START_CFG.ALIGN_I : Fld := ⟨MOT_START_CFG, 15, 8⟩
def MOT_START_CFG.RAMP_RATE : Fld := ⟨MOT_START_CFG, 23, 16⟩
def MOT_START_CFG.RAMP_EXIT : Fld := ⟨MOT_START_CFG, 31, 24⟩
def MOT_SENSE_CFG : Nat := 0xEF018
def MOT_SENSE_CFG.SENSE_MIN : Fld := ⟨MOT_SENSE_CFG, 7, 0⟩
def MOT_SENSE_CFG.SENSE_MAX : Fld := ⟨MOT_SENSE_CFG, 15, 8⟩
def MOT_SENSE_CFG.SPIN_IQ : Fld := ⟨MOT_SENSE_CFG, 23, 16⟩
def MOT_SENSE_CFG.CATCH_RAMP : Fld := ⟨MOT_SENSE_CFG, 31, 24⟩
def MOT_FOC_CFG : Nat := 0xEF01C
def MOT_FOC_CFG.KP : Fld := ⟨MOT_FOC_CFG, 11, 0⟩
def MOT_FOC_CFG.KI : Fld := ⟨MOT_FOC_CFG, 23, 12⟩
def MOT_FOC_CFG.KE : Fld := ⟨MOT_FOC_CFG, 31, 24⟩
def MOT_PWM_CFG : Nat := 0xEF020
def MOT_PWM_CFG.PWM_PER : Fld := ⟨MOT_PWM_CFG, 11, 0⟩
def MOT_PWM_CFG.DEADTIME : Fld := ⟨MOT_PWM_CFG, 19, 12⟩
def MOT_PWM_CFG.SH_SETTLE : Fld := ⟨MOT_PWM_CFG, 31, 20⟩
def MOT_BUS_CFG : Nat := 0xEF024
def MOT_BUS_CFG.CHOP_ON : Fld := ⟨MOT_BUS_CFG, 7, 0⟩
def MOT_BUS_CFG.CHOP_OFF : Fld := ⟨MOT_BUS_CFG, 15, 8⟩
def MOT_BUS_CFG.BUS_TRIP : Fld := ⟨MOT_BUS_CFG, 23, 16⟩
def MOT_BUS_CFG.BUS_UV : Fld := ⟨MOT_BUS_CFG, 31, 24⟩
def MOT_RT_CFG : Nat := 0xEF028
def MOT_RT_CFG.RT_BUS : Fld := ⟨MOT_RT_CFG, 7, 0⟩
def MOT_RT_CFG.CHOP_RISE : Fld := ⟨MOT_RT_CFG, 15, 8⟩
def MOT_RT_CFG.STOP_IQ : Fld := ⟨MOT_RT_CFG, 23, 16⟩
def MOT_RT_CFG.IMAX_SP : Fld := ⟨MOT_RT_CFG, 31, 24⟩
def MOT_ENC_OFS : Nat := 0xEF02C
def MOT_ENC_OFS.OFS : Fld := ⟨MOT_ENC_OFS, 15, 0⟩
def MOT_ENC_OFS.VALID : Fld := ⟨MOT_ENC_OFS, 16, 16⟩
def MOT_BUS : Nat := 0xEF030
def MOT_BUS.MV : Fld := ⟨MOT_BUS, 15, 0⟩
def MOT_STATUS : Nat := 0xEF034
def MOT_STATUS.PWM_LATE : Fld := ⟨MOT_STATUS, 0, 0⟩
def MOT_STATUS.DAC_LATE : Fld := ⟨MOT_STATUS, 1, 1⟩
def MOT_STATUS.CHOP_FAULT : Fld := ⟨MOT_STATUS, 2, 2⟩
def MOT_STATUS.BUS_TRIP : Fld := ⟨MOT_STATUS, 3, 3⟩
def MOT_STATUS.ROTOR_LOST : Fld := ⟨MOT_STATUS, 4, 4⟩
def MOT_STATUS.CATCH_FAIL : Fld := ⟨MOT_STATUS, 5, 5⟩
def MOT_STATUS.PHASE_OPEN : Fld := ⟨MOT_STATUS, 6, 6⟩
def MOT_STATUS.PHASE_SHORT : Fld := ⟨MOT_STATUS, 7, 7⟩
def MOT_STATUS.PHASE_SWAPPED : Fld := ⟨MOT_STATUS, 8, 8⟩
def MOT_STATUS.REVERSE_SEEN : Fld := ⟨MOT_STATUS, 9, 9⟩
def MOT_STATUS.START_FAIL : Fld := ⟨MOT_STATUS, 10, 10⟩
def MOT_STATUS.OBS_DRIFT : Fld := ⟨MOT_STATUS, 11, 11⟩
def MOT_STATUS.LINK_ERR : Fld := ⟨MOT_STATUS, 12, 12⟩
def MOT_STATUS.MA_FAULT : Fld := ⟨MOT_STATUS, 13, 13⟩
def MOT_STATUS.RIDE_THROUGH : Fld := ⟨MOT_STATUS, 14, 14⟩
def MOT_STATUS.RT_LATE : Fld := ⟨MOT_STATUS, 15, 15⟩
def MOT_STATUS.SP_TRIP : Fld := ⟨MOT_STATUS, 16, 16⟩
def MOT_INT_EN : Nat := 0xEF038
def MOT_INT_EN.EN : Fld := ⟨MOT_INT_EN, 16, 0⟩
def MOT_PWM_STAT : Nat := 0xEF03C
def MOT_PWM_STAT.ACTIVE_B : Fld := ⟨MOT_PWM_STAT, 0, 0⟩
def MOT_PWM_STAT.A_FENCED : Fld := ⟨MOT_PWM_STAT, 1, 1⟩
def MOT_PWM_STAT.B_FENCED : Fld := ⟨MOT_PWM_STAT, 2, 2⟩
def MOT_PWM_STAT.SWITCHED : Fld := ⟨MOT_PWM_STAT, 3, 3⟩
def MOT_MA_FAULT : Nat := 0xEF040
def MOT_MA_FAULT.MASK : Fld := ⟨MOT_MA_FAULT, 23, 0⟩
def MOT_RET_WORD (i : Nat) : Nat := 0xEF044 + i * 0x4
def MOT_RET_WORD.WORD (i : Nat) : Fld := ⟨MOT_RET_WORD i, 31, 0⟩
def MOT_BEAT : Nat := 0xEF054
def MOT_BEAT.RUNNING : Fld := ⟨MOT_BEAT, 0, 0⟩
def MOT_BEAT.CAUSE : Fld := ⟨MOT_BEAT, 2, 1⟩
def MOT_CNT : Nat := 0xEF058
def MOT_CNT.CATCHES : Fld := ⟨MOT_CNT, 7, 0⟩
def MOT_CNT.LOSSES : Fld := ⟨MOT_CNT, 15, 8⟩
def MOT_CNT.SWITCHOVERS : Fld := ⟨MOT_CNT, 23, 16⟩
def MOT_CNT.RETURN_FAILS : Fld := ⟨MOT_CNT, 31, 24⟩
def MOT_RT_STAT : Nat := 0xEF05C
def MOT_RT_STAT.DURATION : Fld := ⟨MOT_RT_STAT, 15, 0⟩
def MOT_AUX_CFG : Nat := 0xEF060
def MOT_AUX_CFG.AUX : Fld := ⟨MOT_AUX_CFG, 15, 0⟩
def MOT_ADC (i : Nat) : Nat := 0xEF080 + i * 0x4
def MOT_ADC.CODE (i : Nat) : Fld := ⟨MOT_ADC i, 11, 0⟩
def MOT_ADC.AGE (i : Nat) : Fld := ⟨MOT_ADC i, 31, 16⟩
def QFB_PCTRL (i : Nat) : Nat := 0xF0000 + i * 0x100
def QFB_PCTRL.EN (i : Nat) : Fld := ⟨QFB_PCTRL i, 0, 0⟩
def QFB_PCTRL.MIN_WIDTH (i : Nat) : Fld := ⟨QFB_PCTRL i, 2, 1⟩
def QFB_PCTRL.RETRAIN (i : Nat) : Fld := ⟨QFB_PCTRL i, 3, 3⟩
def QFB_PSTATUS (i : Nat) : Nat := 0xF0004 + i * 0x100
def QFB_PSTATUS.STATE (i : Nat) : Fld := ⟨QFB_PSTATUS i, 2, 0⟩
def QFB_PSTATUS.WIDTH (i : Nat) : Fld := ⟨QFB_PSTATUS i, 5, 3⟩
def QFB_PSTATUS.LINK_LOST (i : Nat) : Fld := ⟨QFB_PSTATUS i, 6, 6⟩
def QFB_PSTATUS.TRAIN_FAIL (i : Nat) : Fld := ⟨QFB_PSTATUS i, 7, 7⟩
def QFB_PSTATUS.LANE_FIX (i : Nat) : Fld := ⟨QFB_PSTATUS i, 8, 8⟩
def QFB_PSTATUS.CRC_ERR (i : Nat) : Fld := ⟨QFB_PSTATUS i, 9, 9⟩
def QFB_PSTATUS.PEER_NEW (i : Nat) : Fld := ⟨QFB_PSTATUS i, 10, 10⟩
def QFB_PSTATUS.DATAPATH_ERR (i : Nat) : Fld := ⟨QFB_PSTATUS i, 11, 11⟩
def QFB_PSTATUS.LANE_MAP (i : Nat) : Fld := ⟨QFB_PSTATUS i, 31, 16⟩
def QFB_CREDIT_CFG (i : Nat) : Nat := 0xF0008 + i * 0x100
def QFB_CREDIT_CFG.C0 (i : Nat) : Fld := ⟨QFB_CREDIT_CFG i, 7, 0⟩
def QFB_CREDIT_CFG.C1 (i : Nat) : Fld := ⟨QFB_CREDIT_CFG i, 15, 8⟩
def QFB_CREDIT_CFG.C2 (i : Nat) : Fld := ⟨QFB_CREDIT_CFG i, 23, 16⟩
def QFB_PEER (i : Nat) : Nat := 0xF000C + i * 0x100
def QFB_PEER.ADDR (i : Nat) : Fld := ⟨QFB_PEER i, 9, 0⟩
def QFB_PEER.VALID (i : Nat) : Fld := ⟨QFB_PEER i, 15, 15⟩
def QFB_PEER_SN_LO (i : Nat) : Nat := 0xF0010 + i * 0x100
def QFB_PEER_SN_LO.SN (i : Nat) : Fld := ⟨QFB_PEER_SN_LO i, 31, 0⟩
def QFB_PEER_SN_HI (i : Nat) : Nat := 0xF0014 + i * 0x100
def QFB_PEER_SN_HI.SN (i : Nat) : Fld := ⟨QFB_PEER_SN_HI i, 31, 0⟩
def QFB_PINT_EN (i : Nat) : Nat := 0xF0018 + i * 0x100
def QFB_PINT_EN.EN (i : Nat) : Fld := ⟨QFB_PINT_EN i, 11, 6⟩
def QFB_PCNT (i : Nat) : Nat := 0xF001C + i * 0x100
def QFB_PCNT.DISCARDED (i : Nat) : Fld := ⟨QFB_PCNT i, 15, 0⟩
def QFB_PCNT.TRAININGS (i : Nat) : Fld := ⟨QFB_PCNT i, 23, 16⟩
def QFB_PCNT.LOST (i : Nat) : Fld := ⟨QFB_PCNT i, 31, 24⟩
def QFB_CFG : Nat := 0xFF000
def QFB_CFG.STATIC_ADDR : Fld := ⟨QFB_CFG, 9, 0⟩
def QFB_CFG.STATIC : Fld := ⟨QFB_CFG, 10, 10⟩
def QFB_CFG.EN : Fld := ⟨QFB_CFG, 11, 11⟩
def QFB_TIMER_CFG : Nat := 0xFF004
def QFB_TIMER_CFG.HB_PERIOD : Fld := ⟨QFB_TIMER_CFG, 5, 0⟩
def QFB_TIMER_CFG.LOSS_TIME : Fld := ⟨QFB_TIMER_CFG, 15, 6⟩
def QFB_TIMER_CFG.ROUTE_QUIET : Fld := ⟨QFB_TIMER_CFG, 22, 16⟩
def QFB_TIMER_CFG.RELAY_MAX : Fld := ⟨QFB_TIMER_CFG, 29, 23⟩
def QFB_XFER_CFG : Nat := 0xFF008
def QFB_XFER_CFG.XFER_RETRY : Fld := ⟨QFB_XFER_CFG, 2, 0⟩
def QFB_XFER_CFG.XFER_IDLE : Fld := ⟨QFB_XFER_CFG, 9, 3⟩
def QFB_XFER_CFG.STAGE_HOLD : Fld := ⟨QFB_XFER_CFG, 16, 10⟩
def QFB_XFER_CFG.RECORD_HOLD : Fld := ⟨QFB_XFER_CFG, 24, 17⟩
def QFB_ARB_CFG : Nat := 0xFF00C
def QFB_ARB_CFG.W0 : Fld := ⟨QFB_ARB_CFG, 3, 0⟩
def QFB_ARB_CFG.W1 : Fld := ⟨QFB_ARB_CFG, 7, 4⟩
def QFB_ARB_CFG.W2 : Fld := ⟨QFB_ARB_CFG, 11, 8⟩
def QFB_ADDR : Nat := 0xFF010
def QFB_ADDR.ADDR : Fld := ⟨QFB_ADDR, 9, 0⟩
def QFB_ADDR.ASSIGNED : Fld := ⟨QFB_ADDR, 14, 14⟩
def QFB_ADDR.VALID : Fld := ⟨QFB_ADDR, 15, 15⟩
def QFB_STATUS : Nat := 0xFF014
def QFB_STATUS.ADDR_CONFLICT : Fld := ⟨QFB_STATUS, 0, 0⟩
def QFB_STATUS.ROUTE_CHANGE : Fld := ⟨QFB_STATUS, 1, 1⟩
def QFB_STATUS.PEER_LOST : Fld := ⟨QFB_STATUS, 2, 2⟩
def QFB_STATUS.XFER_RESTART : Fld := ⟨QFB_STATUS, 3, 3⟩
def QFB_STATUS.OUTCOME_FULL : Fld := ⟨QFB_STATUS, 4, 4⟩
def QFB_STATUS.ENGINE_ERR : Fld := ⟨QFB_STATUS, 5, 5⟩
def QFB_INT_EN : Nat := 0xFF018
def QFB_INT_EN.EN : Fld := ⟨QFB_INT_EN, 5, 0⟩
def QFB_REACH : Nat := 0xFF01C
def QFB_REACH.PEERS : Fld := ⟨QFB_REACH, 10, 0⟩
def QFB_ROUTE_ADDR : Nat := 0xFF020
def QFB_ROUTE_ADDR.ADDR : Fld := ⟨QFB_ROUTE_ADDR, 9, 0⟩
def QFB_ROUTE_DATA : Nat := 0xFF024
def QFB_ROUTE_DATA.HOPS : Fld := ⟨QFB_ROUTE_DATA, 7, 0⟩
def QFB_ROUTE_DATA.PORTS : Fld := ⟨QFB_ROUTE_DATA, 11, 8⟩
def QFB_ROUTE_DATA.LOST : Fld := ⟨QFB_ROUTE_DATA, 12, 12⟩
def QFB_ROUTE_DATA.PORT : Fld := ⟨QFB_ROUTE_DATA, 14, 13⟩
def QFB_XFER_STAT : Nat := 0xFF028
def QFB_XFER_STAT.OUTBOUND : Fld := ⟨QFB_XFER_STAT, 7, 0⟩
def QFB_XFER_STAT.INBOUND : Fld := ⟨QFB_XFER_STAT, 15, 8⟩
def QFB_XFER_STAT.OUTCOMES : Fld := ⟨QFB_XFER_STAT, 24, 16⟩
def QFB_CNT : Nat := 0xFF02C
def QFB_CNT.RESTARTS : Fld := ⟨QFB_CNT, 15, 0⟩
def QFB_CNT.LSAS : Fld := ⟨QFB_CNT, 31, 16⟩
def QFB_ALLOW (i : Nat) : Nat := 0xFF040 + i * 0x4
def QFB_ALLOW.MASK (i : Nat) : Fld := ⟨QFB_ALLOW i, 31, 0⟩
def QFB_WIN_BASE (i : Nat) : Nat := 0xFF100 + i * 0x8
def QFB_WIN_BASE.BASE (i : Nat) : Fld := ⟨QFB_WIN_BASE i, 23, 0⟩
def QFB_WIN_CFG (i : Nat) : Nat := 0xFF104 + i * 0x8
def QFB_WIN_CFG.TAG (i : Nat) : Fld := ⟨QFB_WIN_CFG i, 13, 0⟩
def QFB_WIN_CFG.PAGES (i : Nat) : Fld := ⟨QFB_WIN_CFG i, 23, 14⟩
def QFB_WIN_CFG.READ (i : Nat) : Fld := ⟨QFB_WIN_CFG i, 24, 24⟩
def QFB_WIN_CFG.WRITE (i : Nat) : Fld := ⟨QFB_WIN_CFG i, 25, 25⟩
def WCH_CTRL : Nat := 0x100000
def WCH_CTRL.CONSUMER : Fld := ⟨WCH_CTRL, 0, 0⟩
def WCH_CTRL.WIDTH : Fld := ⟨WCH_CTRL, 17, 1⟩
def WCH_FN_CTRL : Nat := 0x100004
def WCH_FN_CTRL.HOLD : Fld := ⟨WCH_FN_CTRL, 0, 0⟩
def WCH_FN_CTRL.FORCE : Fld := ⟨WCH_FN_CTRL, 1, 1⟩
def WCH_FN_CTRL.LEVEL : Fld := ⟨WCH_FN_CTRL, 2, 2⟩
def WCH_FN_CTRL.TIMING : Fld := ⟨WCH_FN_CTRL, 3, 3⟩
def WCH_STATUS : Nat := 0x100008
def WCH_STATUS.NEW : Fld := ⟨WCH_STATUS, 4, 0⟩
def WCH_STATUS.WLOG_GAP : Fld := ⟨WCH_STATUS, 5, 5⟩
def WCH_STATUS.WLOG_UE : Fld := ⟨WCH_STATUS, 6, 6⟩
def WCH_STATUS.WATCH_FENCE : Fld := ⟨WCH_STATUS, 7, 7⟩
def WCH_STATUS.INJ_DONE : Fld := ⟨WCH_STATUS, 8, 8⟩
def WCH_STATUS.INJ_REFUSED : Fld := ⟨WCH_STATUS, 9, 9⟩
def WCH_STATUS.INJ_EXPIRED : Fld := ⟨WCH_STATUS, 10, 10⟩
def WCH_STATUS.AUTH_OK : Fld := ⟨WCH_STATUS, 11, 11⟩
def WCH_STATUS.AUTH_FAIL : Fld := ⟨WCH_STATUS, 12, 12⟩
def WCH_INT_EN : Nat := 0x10000C
def WCH_INT_EN.EN : Fld := ⟨WCH_INT_EN, 12, 0⟩
def WCH_SRC_SEL : Nat := 0x100010
def WCH_SRC_SEL.SRC : Fld := ⟨WCH_SRC_SEL, 8, 0⟩
def WCH_SRC_CFG : Nat := 0x100014
def WCH_SRC_CFG.CLASS : Fld := ⟨WCH_SRC_CFG, 2, 0⟩
def WCH_SRC_CFG.INT : Fld := ⟨WCH_SRC_CFG, 3, 3⟩
def WCH_SRC_CFG.FAULT : Fld := ⟨WCH_SRC_CFG, 4, 4⟩
def WCH_SRC_CFG.LOG : Fld := ⟨WCH_SRC_CFG, 5, 5⟩
def WCH_SRC_CFG.MASK : Fld := ⟨WCH_SRC_CFG, 6, 6⟩
def WCH_SRC_STAT : Nat := 0x100018
def WCH_SRC_STAT.CLASS : Fld := ⟨WCH_SRC_STAT, 2, 0⟩
def WCH_SRC_STAT.IMPLEMENTED : Fld := ⟨WCH_SRC_STAT, 3, 3⟩
def WCH_SRC_STAT.PRESENT : Fld := ⟨WCH_SRC_STAT, 4, 4⟩
def WCH_SRC_CNT : Nat := 0x10001C
def WCH_SRC_CNT.CNT : Fld := ⟨WCH_SRC_CNT, 15, 0⟩
def WCH_RAISED (i : Nat) : Nat := 0x100040 + i * 0x4
def WCH_RAISED.RAISED (i : Nat) : Fld := ⟨WCH_RAISED i, 31, 0⟩
def WCH_CLASS_CNT (i : Nat) : Nat := 0x100080 + i * 0x4
def WCH_CLASS_CNT.CNT (i : Nat) : Fld := ⟨WCH_CLASS_CNT i, 31, 0⟩
def WCH_INST : Nat := 0x1000A0
def WCH_INST.A_OK : Fld := ⟨WCH_INST, 0, 0⟩
def WCH_INST.B_OK : Fld := ⟨WCH_INST, 1, 1⟩
def WCH_INST.ACTIVE : Fld := ⟨WCH_INST, 2, 2⟩
def WCH_INST.ANCHOR : Fld := ⟨WCH_INST, 3, 3⟩
def WCH_ANCHOR : Nat := 0x1000A4
def WCH_ANCHOR.CAUSE : Fld := ⟨WCH_ANCHOR, 8, 0⟩
def WCH_ANCHOR.STEP : Fld := ⟨WCH_ANCHOR, 11, 9⟩
def WCH_ANCHOR.VALID : Fld := ⟨WCH_ANCHOR, 12, 12⟩
def WCH_WLOG_LO : Nat := 0x1000B0
def WCH_WLOG_LO.DATA : Fld := ⟨WCH_WLOG_LO, 31, 0⟩
def WCH_WLOG_HI : Nat := 0x1000B4
def WCH_WLOG_HI.DATA : Fld := ⟨WCH_WLOG_HI, 31, 0⟩
def WCH_WLOG_STAT : Nat := 0x1000B8
def WCH_WLOG_STAT.READ : Fld := ⟨WCH_WLOG_STAT, 6, 0⟩
def WCH_WLOG_STAT.WRITE : Fld := ⟨WCH_WLOG_STAT, 13, 7⟩
def WCH_WLOG_STAT.SORTING : Fld := ⟨WCH_WLOG_STAT, 14, 14⟩
def WCH_WLOG_CNT : Nat := 0x1000BC
def WCH_WLOG_CNT.CORRECTED : Fld := ⟨WCH_WLOG_CNT, 15, 0⟩
def WCH_WLOG_CNT.DAMAGED : Fld := ⟨WCH_WLOG_CNT, 23, 16⟩
def WCH_WLOG_CNT.GAPS : Fld := ⟨WCH_WLOG_CNT, 31, 24⟩
def WCH_FEC_INFO (i : Nat) : Nat := 0x100100 + i * 0x20
def WCH_FEC_INFO.SOURCE (i : Nat) : Fld := ⟨WCH_FEC_INFO i, 8, 0⟩
def WCH_FEC_INFO.PORT (i : Nat) : Fld := ⟨WCH_FEC_INFO i, 12, 9⟩
def WCH_FEC_INFO.CHANNEL (i : Nat) : Fld := ⟨WCH_FEC_INFO i, 20, 13⟩
def WCH_FEC_INFO.ACCESS (i : Nat) : Fld := ⟨WCH_FEC_INFO i, 23, 21⟩
def WCH_FEC_INFO.ADDR_VALID (i : Nat) : Fld := ⟨WCH_FEC_INFO i, 24, 24⟩
def WCH_FEC_ADDR_LO (i : Nat) : Nat := 0x100104 + i * 0x20
def WCH_FEC_ADDR_LO.ADDR (i : Nat) : Fld := ⟨WCH_FEC_ADDR_LO i, 31, 0⟩
def WCH_FEC_ADDR_HI (i : Nat) : Nat := 0x100108 + i * 0x20
def WCH_FEC_ADDR_HI.ADDR (i : Nat) : Fld := ⟨WCH_FEC_ADDR_HI i, 7, 0⟩
def WCH_FEC_BELL_LO (i : Nat) : Nat := 0x10010C + i * 0x20
def WCH_FEC_BELL_LO.BELL (i : Nat) : Fld := ⟨WCH_FEC_BELL_LO i, 31, 0⟩
def WCH_FEC_BELL_HI (i : Nat) : Nat := 0x100110 + i * 0x20
def WCH_FEC_BELL_HI.BELL (i : Nat) : Fld := ⟨WCH_FEC_BELL_HI i, 15, 0⟩
def WCH_FEC_FINE (i : Nat) : Nat := 0x100114 + i * 0x20
def WCH_FEC_FINE.FINE (i : Nat) : Fld := ⟨WCH_FEC_FINE i, 16, 0⟩
def WCH_FEC_CTRL (i : Nat) : Nat := 0x100118 + i * 0x20
def WCH_FEC_CTRL.VALID (i : Nat) : Fld := ⟨WCH_FEC_CTRL i, 0, 0⟩
def WCH_FEC_CTRL.OVERFLOW (i : Nat) : Fld := ⟨WCH_FEC_CTRL i, 15, 8⟩
def WCH_INJ_CMD : Nat := 0x100200
def WCH_INJ_CMD.SITE : Fld := ⟨WCH_INJ_CMD, 3, 0⟩
def WCH_INJ_CMD.MASK : Fld := ⟨WCH_INJ_CMD, 12, 4⟩
def WCH_INJ_CMD.AUTH : Fld := ⟨WCH_INJ_CMD, 30, 30⟩
def WCH_INJ_CMD.GO : Fld := ⟨WCH_INJ_CMD, 31, 31⟩
def WCH_INJ_ARG_LO : Nat := 0x100204
def WCH_INJ_ARG_LO.ARG : Fld := ⟨WCH_INJ_ARG_LO, 31, 0⟩
def WCH_INJ_ARG_HI : Nat := 0x100208
def WCH_INJ_ARG_HI.ARG : Fld := ⟨WCH_INJ_ARG_HI, 7, 0⟩
def WCH_INJ_TOKEN : Nat := 0x10020C
def WCH_INJ_TOKEN.DATA : Fld := ⟨WCH_INJ_TOKEN, 31, 0⟩
def WCH_INJ_STAT : Nat := 0x100210
def WCH_INJ_STAT.ARMED : Fld := ⟨WCH_INJ_STAT, 0, 0⟩
def WCH_INJ_STAT.OPEN : Fld := ⟨WCH_INJ_STAT, 1, 1⟩
def WCH_INJ_STAT.POLICY : Fld := ⟨WCH_INJ_STAT, 3, 2⟩
def LOG_CTRL : Nat := 0x108000
def LOG_CTRL.LOG_BASE : Fld := ⟨LOG_CTRL, 13, 0⟩
def LOG_CTRL.LOG_BURST : Fld := ⟨LOG_CTRL, 21, 14⟩
def LOG_STAT : Nat := 0x108004
def LOG_STAT.HELD : Fld := ⟨LOG_STAT, 14, 0⟩
def LOG_STAT.PERSIST_BUSY : Fld := ⟨LOG_STAT, 15, 15⟩
def LOG_STAT.FAILURES : Fld := ⟨LOG_STAT, 23, 16⟩
def LOG_SEQ_LO : Nat := 0x108008
def LOG_SEQ_LO.SEQ : Fld := ⟨LOG_SEQ_LO, 31, 0⟩
def LOG_SEQ_HI : Nat := 0x10800C
def LOG_SEQ_HI.SEQ : Fld := ⟨LOG_SEQ_HI, 31, 0⟩
def LOG_READ_IDX : Nat := 0x108010
def LOG_READ_IDX.INDEX : Fld := ⟨LOG_READ_IDX, 13, 0⟩
def LOG_READ_IDX.WORD : Fld := ⟨LOG_READ_IDX, 19, 14⟩
def LOG_READ_DATA : Nat := 0x108014
def LOG_READ_DATA.DATA : Fld := ⟨LOG_READ_DATA, 31, 0⟩
def LOG_SNAP_SEL : Nat := 0x108018
def LOG_SNAP_SEL.TYPE : Fld := ⟨LOG_SNAP_SEL, 4, 0⟩
def LOG_SNAP_SEL.ENTRY : Fld := ⟨LOG_SNAP_SEL, 8, 5⟩
def LOG_SNAP_DATA : Nat := 0x10801C
def LOG_SNAP_DATA.VALID : Fld := ⟨LOG_SNAP_DATA, 0, 0⟩
def LOG_SNAP_DATA.OFFSET : Fld := ⟨LOG_SNAP_DATA, 20, 2⟩
def LOG_FW_TYPE : Nat := 0x108020
def LOG_FW_TYPE.TYPE : Fld := ⟨LOG_FW_TYPE, 15, 0⟩
def LOG_FW_TYPE.SOURCE : Fld := ⟨LOG_FW_TYPE, 31, 16⟩
def LOG_FW_DETAIL_LO : Nat := 0x108024
def LOG_FW_DETAIL_LO.DETAIL : Fld := ⟨LOG_FW_DETAIL_LO, 31, 0⟩
def LOG_FW_DETAIL_HI : Nat := 0x108028
def LOG_FW_DETAIL_HI.DETAIL : Fld := ⟨LOG_FW_DETAIL_HI, 31, 0⟩
def LOG_FW_GO : Nat := 0x10802C
def LOG_FW_GO.GO : Fld := ⟨LOG_FW_GO, 0, 0⟩
def LOG_CNT : Nat := 0x108030
def LOG_CNT.WRITTEN : Fld := ⟨LOG_CNT, 15, 0⟩
def LOG_CNT.SUPPRESSED : Fld := ⟨LOG_CNT, 31, 16⟩
def PAD_GPIO_CFG (i : Nat) : Nat := 0x110000 + i * 0x4
def PAD_GPIO_CFG.FUNC (i : Nat) : Fld := ⟨PAD_GPIO_CFG i, 3, 0⟩
def PAD_GPIO_CFG.TIMER (i : Nat) : Fld := ⟨PAD_GPIO_CFG i, 6, 4⟩
def PAD_GPIO_CFG.OPEN_DRAIN (i : Nat) : Fld := ⟨PAD_GPIO_CFG i, 7, 7⟩
def PAD_GPIO_IN : Nat := 0x110040
def PAD_GPIO_IN.LEVEL : Fld := ⟨PAD_GPIO_IN, 15, 0⟩
def PAD_GPIO_OUT : Nat := 0x110044
def PAD_GPIO_OUT.OUT : Fld := ⟨PAD_GPIO_OUT, 15, 0⟩
def PAD_TEMP : Nat := 0x110080
def PAD_TEMP.TEMP : Fld := ⟨PAD_TEMP, 11, 0⟩
def PAD_TEMP.VALID : Fld := ⟨PAD_TEMP, 12, 12⟩
def PAD_TEMP.MAX : Fld := ⟨PAD_TEMP, 27, 16⟩
def PAD_SUPPLY : Nat := 0x110084
def PAD_SUPPLY.LOW : Fld := ⟨PAD_SUPPLY, 14, 0⟩
def PAD_SUPPLY.HIGH : Fld := ⟨PAD_SUPPLY, 30, 16⟩

end Sys2Proof.Machine.Reg
end

