-- ==== Sys2Proof/Machine/RegTable.lean ====
section
/-! DEFINITION. The register map of BAR0 (R500, R501): one descriptor per register of the manual's tables,
written from the register tables of chapters 03 to 22, with each field's bits, access type, reset value and
range. `regDesc?` finds the register at an offset, `resetVal` is what an offset holds at reset (R525). -/

namespace Sys2Proof.Machine

/-- Registers of block SYS, part 0 (R502). -/
def sysRegs0 : List RegDesc := [
  -- SYS_ID
  ⟨0x0, 0x0, 1, 0x4, 1, none, .local, .always,
   [⟨31, 0, .ro, 0x4B342448, none, false⟩]⟩,
  -- SYS_REV
  ⟨0x4, 0x0, 1, 0x4, 1, none, .local, .always,
   [⟨7, 0, .ro, 0xB0, none, false⟩]⟩,
  -- SYS_GLUE
  ⟨0x10, 0x0, 1, 0x4, 1, none, .local, .always,
   [⟨31, 0, .w1s, 0x0, none, false⟩]⟩,
  -- SYS_GLUE_HOLD
  ⟨0x14, 0x0, 1, 0x4, 1, none, .local, .always,
   [⟨16, 11, .rw, 0x0, none, false⟩]⟩,
  -- SYS_GLUE_STAT
  ⟨0x18, 0x0, 1, 0x4, 1, none, .local, .always,
   [⟨0, 0, .ro, 0x0, none, false⟩,
    ⟨1, 1, .w1c, 0x0, none, false⟩,
    ⟨2, 2, .w1c, 0x0, none, false⟩,
    ⟨6, 3, .ro, 0x0, none, false⟩,
    ⟨11, 7, .ro, 0x0, none, false⟩,
    ⟨12, 12, .ro, 0x0, none, false⟩]⟩,
  -- SYS_GLUE_PEND
  ⟨0x1C, 0x0, 1, 0x4, 1, none, .local, .always,
   [⟨31, 0, .ro, 0x0, none, false⟩]⟩,
  -- SYS_STATUS
  ⟨0x20, 0x0, 1, 0x4, 1, none, .local, .always,
   [⟨0, 0, .w1c, 0x0, none, false⟩,
    ⟨1, 1, .w1c, 0x0, none, false⟩,
    ⟨2, 2, .w1c, 0x0, none, false⟩]⟩,
  -- SYS_INT_EN
  ⟨0x24, 0x0, 1, 0x4, 1, none, .local, .always,
   [⟨4, 0, .rw, 0x0, none, false⟩]⟩,
  -- SYS_REF_DATA0
  ⟨0x28, 0x0, 1, 0x4, 1, none, .local, .always,
   [⟨20, 0, .ro, 0x0, none, false⟩]⟩,
  -- SYS_REF_DATA1
  ⟨0x2C, 0x0, 1, 0x4, 1, none, .local, .always,
   [⟨3, 0, .ro, 0x0, none, false⟩,
    ⟨8, 4, .ro, 0x0, none, false⟩,
    ⟨10, 9, .ro, 0x0, none, false⟩,
    ⟨11, 11, .ro, 0x0, none, false⟩,
    ⟨31, 16, .ro, 0x0, none, false⟩]⟩,
  -- SYS_REF_CNT
  ⟨0x30, 0x0, 1, 0x4, 1, none, .local, .always,
   [⟨15, 0, .rc, 0x0, none, false⟩,
    ⟨31, 16, .rc, 0x0, none, false⟩]⟩,
  -- SYS_XING_STAT
  ⟨0x34, 0x0, 1, 0x4, 1, none, .local, .always,
   [⟨6, 0, .ro, 0x0, none, false⟩,
    ⟨13, 7, .ro, 0x0, none, false⟩]⟩]

/-- Registers of block SYS, part 1 (R456, R502). -/
def sysRegs1 : List RegDesc := [
  -- SYS_OWN_SEL
  ⟨0x40, 0x0, 1, 0x4, 1, none, .local, .always,
   [⟨1, 0, .rw, 0x0, none, false⟩,
    ⟨7, 2, .rw, 0x0, none, false⟩]⟩,
  -- SYS_OWN_DATA
  ⟨0x44, 0x0, 1, 0x4, 1, none, .local, .always,
   [⟨7, 0, .ro, 0x0, none, false⟩,
    ⟨8, 8, .ro, 0x0, none, false⟩]⟩,
  -- SYS_TMR_CFG
  ⟨0x60, 0x4, 8, 0x4, 1, some 0, .local, .always,
   [⟨1, 0, .g, 0x0, some (0, 2), false⟩,
    ⟨2, 2, .g, 0x0, none, false⟩,
    ⟨26, 3, .g, 0x0, none, false⟩]⟩,
  -- SYS_TMR_STAT
  ⟨0x80, 0x0, 1, 0x4, 1, none, .local, .always,
   [⟨7, 0, .w1c, 0x0, none, false⟩]⟩,
  -- SYS_TMR_CAP
  ⟨0xA0, 0x4, 8, 0x4, 1, none, .local, .always,
   [⟨31, 0, .ro, 0x0, none, false⟩]⟩,
  -- SYS_MODE
  ⟨0x100, 0x0, 1, 0x4, 1, none, .local, .always,
   [⟨2, 0, .ro, 0x0, none, false⟩,
    ⟨3, 3, .ro, 0x1, none, false⟩,
    ⟨4, 4, .ro, 0x0, none, false⟩,
    ⟨5, 5, .ro, 0x0, none, false⟩,
    ⟨6, 6, .ro, 0x0, none, false⟩,
    ⟨7, 7, .ro, 0x0, none, false⟩,
    ⟨8, 8, .ro, 0x0, none, false⟩]⟩,
  -- SYS_START
  ⟨0x104, 0x0, 1, 0x4, 1, none, .local, .always,
   [⟨1, 0, .ro, 0x0, none, false⟩,
    ⟨4, 2, .ro, 0x0, none, false⟩,
    ⟨5, 5, .ro, 0x0, none, false⟩,
    ⟨6, 6, .ro, 0x0, none, false⟩,
    ⟨7, 7, .ro, 0x0, none, false⟩,
    ⟨10, 8, .ro, 0x0, none, false⟩,
    ⟨11, 11, .w1s, 0x0, none, false⟩,
    ⟨15, 12, .ro, 0x0, none, false⟩]⟩,
  -- SYS_RESET_CMD
  ⟨0x108, 0x0, 1, 0x4, 1, none, .local, .always,
   [⟨31, 0, .wo, 0x0, none, false⟩]⟩,
  -- SYS_WDOG_CFG
  ⟨0x10C, 0x0, 1, 0x4, 1, none, .local, .always,
   [⟨13, 0, .rw, 0x3E8, some (10, 10000), false⟩,
    ⟨16, 16, .rw, 0x0, none, false⟩]⟩,
  -- SYS_HELM_STAT
  ⟨0x110, 0x0, 1, 0x4, 1, none, .local, .always,
   [⟨2, 0, .ro, 0x7, none, false⟩,
    ⟨4, 3, .ro, 0x2, none, false⟩,
    ⟨5, 5, .w1c, 0x0, none, false⟩,
    ⟨6, 6, .w1c, 0x0, none, false⟩]⟩,
  -- SYS_WDOG_KICK
  ⟨0x114, 0x0, 1, 0x4, 1, none, .local, .always,
   [⟨31, 0, .wo, 0x0, none, false⟩]⟩,
  -- SYS_HELM_INT_EN
  ⟨0x118, 0x0, 1, 0x4, 1, none, .local, .always,
   [⟨6, 5, .rw, 0x0, none, false⟩]⟩]

/-- Registers of block SYS, part 2 (R456). -/
def sysRegs2 : List RegDesc := [
  -- SYS_PWR_CYCLES
  ⟨0x120, 0x0, 1, 0x4, 1, none, .slow, .always,
   [⟨31, 0, .ro, 0x0, none, false⟩]⟩,
  -- SYS_WARM_STARTS
  ⟨0x124, 0x0, 1, 0x4, 1, none, .slow, .always,
   [⟨31, 0, .ro, 0x0, none, false⟩]⟩,
  -- SYS_OP_SEC_LO
  ⟨0x128, 0x0, 1, 0x4, 1, none, .slow, .always,
   [⟨31, 0, .ro, 0x0, none, false⟩]⟩,
  -- SYS_OP_SEC_HI
  ⟨0x12C, 0x0, 1, 0x4, 1, none, .slow, .always,
   [⟨31, 0, .ro, 0x0, none, false⟩]⟩,
  -- SYS_HELM_CNT
  ⟨0x130, 0x0, 1, 0x4, 1, none, .local, .always,
   [⟨7, 0, .rc, 0x0, none, false⟩,
    ⟨15, 8, .rc, 0x0, none, false⟩]⟩,
  -- SYS_MEAS_SEL
  ⟨0x140, 0x0, 1, 0x4, 1, none, .local, .always,
   [⟨3, 0, .rw, 0x0, some (1, 8), false⟩,
    ⟨7, 4, .rw, 0x0, some (0, 11), false⟩]⟩,
  -- SYS_MEAS_DATA
  ⟨0x144, 0x0, 1, 0x4, 1, none, .local, .always,
   [⟨31, 0, .ro, 0x0, none, false⟩]⟩,
  -- SYS_FUSE_STAT
  ⟨0x150, 0x0, 1, 0x4, 1, none, .local, .always,
   [⟨0, 0, .ro, 0x0, none, false⟩,
    ⟨1, 1, .ro, 0x0, none, false⟩,
    ⟨15, 8, .ro, 0x0, none, false⟩]⟩,
  -- SYS_SERIAL_LO
  ⟨0x158, 0x0, 1, 0x4, 1, none, .local, .always,
   [⟨31, 0, .ro, 0x0, none, false⟩]⟩,
  -- SYS_SERIAL_HI
  ⟨0x15C, 0x0, 1, 0x4, 1, none, .local, .always,
   [⟨31, 0, .ro, 0x0, none, false⟩]⟩]

/-- Registers of block BQ, part 0 (R347, R348). -/
def bqRegs0 : List RegDesc := [
  -- BQ_BASE_LO
  ⟨0x10000, 0x100, 129, 0x4, 1, none, .fast, .always,
   [⟨31, 6, .rw, 0x0, none, false⟩]⟩,
  -- BQ_BASE_HI
  ⟨0x10004, 0x100, 129, 0x4, 1, none, .fast, .always,
   [⟨31, 0, .rw, 0x0, none, false⟩]⟩,
  -- BQ_RES_LO
  ⟨0x10008, 0x100, 129, 0x4, 1, none, .fast, .always,
   [⟨31, 6, .rw, 0x0, none, false⟩]⟩,
  -- BQ_RES_HI
  ⟨0x1000C, 0x100, 129, 0x4, 1, none, .fast, .always,
   [⟨31, 0, .rw, 0x0, none, false⟩]⟩,
  -- BQ_CFG
  ⟨0x10010, 0x100, 129, 0x4, 1, none, .fast, .always,
   [⟨15, 0, .rw, 0x0, none, false⟩,
    ⟨17, 16, .rw, 0x0, none, false⟩,
    ⟨25, 18, .rw, 0x0, none, false⟩,
    ⟨26, 26, .rw, 0x0, none, false⟩,
    ⟨27, 27, .rw, 0x0, none, false⟩,
    ⟨31, 28, .rw, 0x0, none, false⟩]⟩,
  -- BQ_DOORBELL
  ⟨0x10014, 0x100, 129, 0x4, 1, none, .fast, .always,
   [⟨15, 0, .rw, 0x0, none, false⟩]⟩,
  -- BQ_STATE
  ⟨0x10018, 0x100, 129, 0x4, 1, none, .fast, .always,
   [⟨2, 0, .ro, 0x0, none, false⟩,
    ⟨3, 3, .ro, 0x0, none, false⟩,
    ⟨4, 4, .w1c, 0x0, none, false⟩,
    ⟨5, 5, .w1c, 0x0, none, false⟩,
    ⟨6, 6, .w1c, 0x0, none, false⟩,
    ⟨31, 16, .ro, 0x0, none, false⟩]⟩,
  -- BQ_INDEX
  ⟨0x1001C, 0x100, 129, 0x4, 1, none, .fast, .always,
   [⟨15, 0, .ro, 0x0, none, false⟩,
    ⟨31, 16, .ro, 0x0, none, false⟩]⟩,
  -- BQ_CTRL
  ⟨0x1F000, 0x0, 1, 0x4, 1, none, .fast, .always,
   [⟨0, 0, .rw, 0x0, none, false⟩]⟩,
  -- BQ_STATUS
  ⟨0x1F004, 0x0, 1, 0x4, 1, none, .fast, .always,
   [⟨0, 0, .ro, 0x0, none, false⟩,
    ⟨1, 1, .ro, 0x0, none, false⟩,
    ⟨2, 2, .ro, 0x1, none, false⟩,
    ⟨3, 3, .ro, 0x0, none, false⟩,
    ⟨4, 4, .w1c, 0x0, none, false⟩]⟩,
  -- BQ_INT_EN
  ⟨0x1F008, 0x0, 1, 0x4, 1, none, .fast, .always,
   [⟨4, 0, .rw, 0x0, none, false⟩]⟩,
  -- BQ_INFLIGHT
  ⟨0x1F00C, 0x0, 1, 0x4, 1, none, .fast, .always,
   [⟨13, 0, .ro, 0x0, none, false⟩,
    ⟨20, 14, .ro, 0x0, none, false⟩]⟩]

/-- Registers of block BQ, part 1 (R322, R348). -/
def bqRegs1 : List RegDesc := [
  -- BQ_ENABLED
  ⟨0x1F010, 0x4, 4, 0x4, 1, none, .fast, .always,
   [⟨31, 0, .ro, 0x0, none, false⟩]⟩,
  -- BQ_FROZEN
  ⟨0x1F020, 0x4, 4, 0x4, 1, none, .fast, .always,
   [⟨31, 0, .ro, 0x0, none, false⟩]⟩,
  -- BQ_FRZ_SEL
  ⟨0x1F030, 0x0, 1, 0x4, 1, none, .fast, .always,
   [⟨6, 0, .rw, 0x0, none, false⟩,
    ⟨13, 7, .rw, 0x0, none, false⟩]⟩,
  -- BQ_FRZ_DATA
  ⟨0x1F034, 0x0, 1, 0x4, 1, none, .fast, .always,
   [⟨31, 0, .ro, 0x0, none, false⟩]⟩,
  -- BQ_FETCH_CNT
  ⟨0x1F038, 0x0, 1, 0x4, 1, none, .fast, .always,
   [⟨31, 0, .rc, 0x0, none, false⟩]⟩,
  -- BQ_PUB_CNT
  ⟨0x1F03C, 0x0, 1, 0x4, 1, none, .fast, .always,
   [⟨31, 0, .rc, 0x0, none, false⟩]⟩,
  -- BQ_DB_CNT
  ⟨0x1F040, 0x0, 1, 0x4, 1, none, .fast, .always,
   [⟨15, 0, .rc, 0x0, none, false⟩,
    ⟨31, 16, .rc, 0x0, none, false⟩]⟩,
  -- BQ_ABORT_CNT
  ⟨0x1F044, 0x0, 1, 0x4, 1, none, .fast, .always,
   [⟨15, 0, .rc, 0x0, none, false⟩,
    ⟨31, 16, .rc, 0x0, none, false⟩]⟩,
  -- BQ_MARKS
  ⟨0x1F048, 0x0, 1, 0x4, 1, none, .fast, .always,
   [⟨8, 0, .ro, 0x0, none, false⟩]⟩,
  -- BQ_LINK_CFG
  ⟨0x1FC00, 0x0, 1, 0x4, 1, some 22, .fast, .always,
   [⟨1, 0, .g, 0x3, none, false⟩,
    ⟨2, 2, .g, 0x1, none, false⟩,
    ⟨10, 3, .g, 0x40, some (1, 255), false⟩]⟩,
  -- BQ_LINK_STAT
  ⟨0x1FC04, 0x0, 1, 0x4, 1, none, .fast, .always,
   [⟨2, 0, .ro, 0x0, none, false⟩,
    ⟨7, 3, .ro, 0x0, none, false⟩,
    ⟨8, 8, .ro, 0x0, none, false⟩,
    ⟨9, 9, .ro, 0x0, none, false⟩,
    ⟨25, 10, .ro, 0x0, none, false⟩]⟩,
  -- BQ_LINK_EVT
  ⟨0x1FC08, 0x0, 1, 0x4, 1, none, .fast, .always,
   [⟨0, 0, .w1c, 0x0, none, false⟩,
    ⟨1, 1, .w1c, 0x0, none, false⟩,
    ⟨2, 2, .w1c, 0x0, none, false⟩,
    ⟨3, 3, .w1c, 0x0, none, false⟩,
    ⟨4, 4, .w1c, 0x0, none, false⟩,
    ⟨5, 5, .w1c, 0x0, none, false⟩,
    ⟨6, 6, .w1c, 0x0, none, false⟩]⟩]

/-- Registers of block BQ, part 2 (R322). -/
def bqRegs2 : List RegDesc := [
  -- BQ_LINK_CNT
  ⟨0x1FC0C, 0x0, 1, 0x4, 1, none, .fast, .always,
   [⟨15, 0, .rc, 0x0, none, false⟩,
    ⟨23, 16, .rc, 0x0, none, false⟩,
    ⟨31, 24, .rc, 0x0, none, false⟩]⟩]

/-- Registers of block SCH, part 0 (R402). -/
def schRegs0 : List RegDesc := [
  -- SCH_CTRL
  ⟨0x20000, 0x0, 1, 0x4, 1, some 23, .fast, .always,
   [⟨0, 0, .g, 0x1, none, false⟩]⟩,
  -- SCH_ARB_CFG
  ⟨0x20004, 0x0, 1, 0x4, 1, some 23, .fast, .always,
   [⟨3, 0, .g, 0x4, some (1, 15), false⟩,
    ⟨7, 4, .g, 0x2, some (1, 15), false⟩,
    ⟨11, 8, .g, 0x1, some (1, 15), false⟩]⟩,
  -- SCH_RPO_CFG
  ⟨0x20008, 0x0, 1, 0x4, 1, some 23, .fast, .always,
   [⟨9, 0, .g, 0x28, some (5, 1000), false⟩,
    ⟨17, 10, .g, 0x40, none, false⟩,
    ⟨25, 18, .g, 0xFF, none, false⟩]⟩,
  -- SCH_INT_EN
  ⟨0x2000C, 0x0, 1, 0x4, 1, none, .fast, .always,
   [⟨5, 0, .rw, 0x0, none, false⟩]⟩,
  -- SCH_IDLE_LO
  ⟨0x20014, 0x0, 1, 0x4, 1, none, .fast, .always,
   [⟨31, 0, .rw, 0x0, none, false⟩]⟩,
  -- SCH_IDLE_HI
  ⟨0x20018, 0x0, 1, 0x4, 1, none, .fast, .always,
   [⟨27, 0, .rw, 0x0, none, false⟩]⟩,
  -- SCH_LAT_TOL
  ⟨0x2001C, 0x0, 1, 0x4, 1, none, .fast, .always,
   [⟨31, 0, .rw, 0xFFFFFFFF, none, false⟩]⟩,
  -- SCH_PWR_CFG
  ⟨0x20020, 0x0, 1, 0x4, 1, some 23, .fast, .always,
   [⟨6, 0, .g, 0x32, some (30, 90), false⟩,
    ⟨13, 7, .g, 0x32, some (10, 90), false⟩,
    ⟨27, 14, .g, 0x200, some (0, 4096), false⟩]⟩,
  -- SCH_PWR_STAT
  ⟨0x20024, 0x0, 1, 0x4, 1, none, .fast, .always,
   [⟨2, 0, .ro, 0x0, none, false⟩,
    ⟨5, 3, .ro, 0x0, none, false⟩,
    ⟨8, 6, .ro, 0x5, none, false⟩,
    ⟨9, 9, .ro, 0x0, none, false⟩,
    ⟨10, 10, .ro, 0x0, none, false⟩]⟩,
  -- SCH_STATUS
  ⟨0x20028, 0x0, 1, 0x4, 1, none, .fast, .always,
   [⟨0, 0, .w1c, 0x0, none, false⟩,
    ⟨1, 1, .w1c, 0x0, none, false⟩,
    ⟨2, 2, .w1c, 0x0, none, false⟩,
    ⟨3, 3, .w1c, 0x0, none, false⟩,
    ⟨4, 4, .w1c, 0x0, none, false⟩,
    ⟨5, 5, .w1c, 0x0, none, false⟩]⟩,
  -- SCH_LOCK_USE
  ⟨0x20030, 0x0, 1, 0x4, 1, none, .fast, .always,
   [⟨11, 0, .ro, 0x0, none, false⟩,
    ⟨27, 16, .ro, 0x0, none, false⟩]⟩,
  -- SCH_PREEMPT_CNT
  ⟨0x20034, 0x0, 1, 0x4, 1, none, .fast, .always,
   [⟨15, 0, .rc, 0x0, none, false⟩,
    ⟨31, 16, .rc, 0x0, none, false⟩]⟩]

/-- Registers of block SCH, part 1 (R402). -/
def schRegs1 : List RegDesc := [
  -- SCH_PWR_CNT
  ⟨0x20038, 0x0, 1, 0x4, 1, none, .fast, .always,
   [⟨7, 0, .rc, 0x0, none, false⟩,
    ⟨15, 8, .rc, 0x0, none, false⟩,
    ⟨23, 16, .rc, 0x0, none, false⟩,
    ⟨31, 24, .rc, 0x0, none, false⟩]⟩,
  -- SCH_TIER_ADDR_LO
  ⟨0x20040, 0x0, 1, 0x4, 1, none, .fast, .always,
   [⟨31, 6, .rw, 0x0, none, false⟩]⟩,
  -- SCH_TIER_ADDR_HI
  ⟨0x20044, 0x0, 1, 0x4, 1, none, .fast, .always,
   [⟨3, 0, .rw, 0x0, none, false⟩]⟩,
  -- SCH_TIER_CMD
  ⟨0x20048, 0x0, 1, 0x4, 1, none, .fast, .always,
   [⟨0, 0, .w1s, 0x0, none, false⟩]⟩,
  -- SCH_TIER_RESP
  ⟨0x2004C, 0x0, 1, 0x4, 1, none, .fast, .always,
   [⟨0, 0, .ro, 0x0, none, false⟩,
    ⟨1, 1, .ro, 0x0, none, false⟩,
    ⟨4, 2, .ro, 0x0, none, false⟩,
    ⟨31, 8, .ro, 0x0, none, false⟩]⟩,
  -- SCH_TIER
  ⟨0x20100, 0x10, 4, 0x4, 1, none, .fast, .act,
   [⟨23, 0, .ro, 0x0, none, false⟩,
    ⟨31, 24, .ro, 0x0, none, false⟩]⟩,
  -- SCH_CAND
  ⟨0x20104, 0x10, 4, 0x4, 1, none, .fast, .act,
   [⟨13, 0, .ro, 0x0, none, false⟩,
    ⟨29, 16, .ro, 0x0, none, false⟩]⟩,
  -- SCH_COST
  ⟨0x20108, 0x10, 4, 0x4, 1, none, .fast, .act,
   [⟨15, 0, .ro, 0x0, none, false⟩,
    ⟨18, 16, .ro, 0x0, none, false⟩,
    ⟨19, 19, .ro, 0x0, none, false⟩]⟩]

/-- Registers of block LGT, part 0 (R284). -/
def lgtRegs0 : List RegDesc := [
  -- LGT_CTRL
  ⟨0x30000, 0x200, 64, 0x4, 1, none, .fast, .always,
   [⟨0, 0, .rw, 0x0, none, false⟩,
    ⟨1, 1, .w1s, 0x0, none, false⟩,
    ⟨2, 2, .rw, 0x0, none, false⟩,
    ⟨8, 8, .ro, 0x0, none, false⟩,
    ⟨9, 9, .ro, 0x0, none, false⟩,
    ⟨10, 10, .ro, 0x0, none, false⟩,
    ⟨11, 11, .ro, 0x0, none, false⟩]⟩,
  -- LGT_STATUS
  ⟨0x30004, 0x200, 64, 0x4, 1, none, .fast, .always,
   [⟨0, 0, .w1c, 0x0, none, false⟩,
    ⟨1, 1, .w1c, 0x0, none, false⟩,
    ⟨2, 2, .w1c, 0x0, none, false⟩,
    ⟨3, 3, .w1c, 0x0, none, false⟩,
    ⟨4, 4, .w1c, 0x0, none, false⟩,
    ⟨7, 5, .ro, 0x0, none, false⟩,
    ⟨31, 8, .ro, 0x0, none, false⟩]⟩,
  -- LGT_A_BUF
  ⟨0x30010, 0x200, 64, 0x4, 1, none, .fast, .always,
   [⟨31, 0, .ro, 0x0, none, false⟩]⟩,
  -- LGT_A_FAR_LO
  ⟨0x30014, 0x200, 64, 0x4, 1, none, .fast, .always,
   [⟨31, 0, .ro, 0x0, none, false⟩]⟩,
  -- LGT_A_FAR_HI
  ⟨0x30018, 0x200, 64, 0x4, 1, none, .fast, .always,
   [⟨31, 0, .ro, 0x0, none, false⟩]⟩,
  -- LGT_A_COUNT
  ⟨0x3001C, 0x200, 64, 0x4, 1, none, .fast, .always,
   [⟨23, 0, .ro, 0x0, none, false⟩]⟩,
  -- LGT_A_ATTR
  ⟨0x30020, 0x200, 64, 0x4, 1, none, .fast, .always,
   [⟨0, 0, .ro, 0x0, none, false⟩,
    ⟨1, 1, .ro, 0x0, none, false⟩,
    ⟨3, 2, .ro, 0x0, none, false⟩,
    ⟨4, 4, .ro, 0x0, none, false⟩,
    ⟨5, 5, .ro, 0x0, none, false⟩,
    ⟨9, 6, .ro, 0x0, none, false⟩,
    ⟨11, 10, .ro, 0x0, none, false⟩,
    ⟨12, 12, .ro, 0x0, none, false⟩,
    ⟨13, 13, .ro, 0x0, none, false⟩,
    ⟨17, 14, .ro, 0x0, none, false⟩,
    ⟨31, 18, .ro, 0x0, none, false⟩]⟩,
  -- LGT_S_BUF
  ⟨0x30030, 0x200, 64, 0x4, 1, none, .fast, .always,
   [⟨31, 0, .rw, 0x0, none, false⟩]⟩,
  -- LGT_S_FAR_LO
  ⟨0x30034, 0x200, 64, 0x4, 1, none, .fast, .always,
   [⟨31, 0, .rw, 0x0, none, false⟩]⟩,
  -- LGT_S_FAR_HI
  ⟨0x30038, 0x200, 64, 0x4, 1, none, .fast, .always,
   [⟨31, 0, .rw, 0x0, none, false⟩]⟩,
  -- LGT_S_COUNT
  ⟨0x3003C, 0x200, 64, 0x4, 1, none, .fast, .always,
   [⟨23, 0, .rw, 0x0, none, false⟩]⟩,
  -- LGT_S_ATTR
  ⟨0x30040, 0x200, 64, 0x4, 1, none, .fast, .always,
   [⟨0, 0, .w1s, 0x0, none, false⟩,
    ⟨1, 1, .rw, 0x0, none, false⟩,
    ⟨3, 2, .rw, 0x0, none, false⟩,
    ⟨4, 4, .rw, 0x0, none, false⟩,
    ⟨5, 5, .rw, 0x0, none, false⟩,
    ⟨9, 6, .rw, 0x0, none, false⟩,
    ⟨11, 10, .rw, 0x0, none, false⟩,
    ⟨12, 12, .rw, 0x0, none, false⟩,
    ⟨13, 13, .rw, 0x0, none, false⟩,
    ⟨17, 14, .rw, 0x0, none, false⟩,
    ⟨31, 18, .rw, 0x0, none, false⟩]⟩]

/-- Registers of block LGT, part 1 (R284). -/
def lgtRegs1 : List RegDesc := [
  -- LGT_CFG
  ⟨0x3F000, 0x0, 1, 0x4, 1, some 20, .fast, .always,
   [⟨4, 0, .g, 0x10, some (1, 16), false⟩,
    ⟨12, 5, .g, 0xFF, some (16, 255), false⟩,
    ⟨15, 13, .g, 0x7, none, false⟩]⟩,
  -- LGT_PACE_OWN
  ⟨0x3F004, 0x4, 4, 0x4, 1, some 20, .fast, .always,
   [⟨5, 0, .g, 0x0, none, false⟩,
    ⟨7, 7, .g, 0x0, none, false⟩,
    ⟨13, 8, .g, 0x0, none, false⟩,
    ⟨15, 15, .g, 0x0, none, false⟩,
    ⟨21, 16, .g, 0x0, none, false⟩,
    ⟨23, 23, .g, 0x0, none, false⟩,
    ⟨29, 24, .g, 0x0, none, false⟩,
    ⟨31, 31, .g, 0x0, none, false⟩]⟩,
  -- LGT_PEND
  ⟨0x3F014, 0x4, 2, 0x4, 1, none, .fast, .always,
   [⟨31, 0, .ro, 0x0, none, false⟩]⟩,
  -- LGT_BUSY
  ⟨0x3F01C, 0x4, 2, 0x4, 1, none, .fast, .always,
   [⟨31, 0, .ro, 0x0, none, false⟩]⟩,
  -- LGT_FENCED
  ⟨0x3F024, 0x4, 2, 0x4, 1, none, .fast, .always,
   [⟨31, 0, .ro, 0x0, none, false⟩]⟩,
  -- LGT_PREQ
  ⟨0x3F02C, 0x0, 1, 0x4, 1, none, .fast, .always,
   [⟨15, 0, .ro, 0x0, none, false⟩]⟩,
  -- LGT_REC_CNT
  ⟨0x3F030, 0x0, 1, 0x4, 1, none, .fast, .always,
   [⟨15, 0, .rc, 0x0, none, false⟩,
    ⟨31, 16, .rc, 0x0, none, false⟩]⟩,
  -- LGT_BYTE_CNT
  ⟨0x3F034, 0x0, 1, 0x4, 1, none, .fast, .always,
   [⟨31, 0, .rc, 0x0, none, false⟩]⟩,
  -- LGT_PREEMPT_CNT
  ⟨0x3F038, 0x0, 1, 0x4, 1, none, .fast, .always,
   [⟨15, 0, .rc, 0x0, none, false⟩,
    ⟨31, 16, .rc, 0x0, none, false⟩]⟩,
  -- LGT_GSTATUS
  ⟨0x3F03C, 0x0, 1, 0x4, 1, none, .fast, .always,
   [⟨0, 0, .w1c, 0x0, none, false⟩,
    ⟨1, 1, .w1c, 0x0, none, false⟩]⟩]

/-- Registers of block MEM, part 0 (R245). -/
def memRegs0 : List RegDesc := [
  -- MEM_CTRL
  ⟨0x40000, 0x0, 1, 0x4, 1, some 17, .fast, .always,
   [⟨0, 0, .g, 0x0, none, false⟩,
    ⟨1, 1, .g, 0x1, none, false⟩,
    ⟨2, 2, .g, 0x1, none, true⟩]⟩,
  -- MEM_STATUS
  ⟨0x40004, 0x0, 1, 0x4, 1, none, .fast, .always,
   [⟨0, 0, .w1c, 0x0, none, false⟩,
    ⟨1, 1, .w1c, 0x0, none, false⟩,
    ⟨2, 2, .w1c, 0x0, none, false⟩,
    ⟨3, 3, .w1c, 0x0, none, false⟩,
    ⟨4, 4, .w1c, 0x0, none, false⟩,
    ⟨5, 5, .w1c, 0x0, none, false⟩,
    ⟨6, 6, .w1c, 0x0, none, false⟩,
    ⟨7, 7, .w1c, 0x0, none, false⟩,
    ⟨8, 8, .w1c, 0x0, none, false⟩,
    ⟨9, 9, .ro, 0x0, none, false⟩,
    ⟨10, 10, .w1c, 0x0, none, false⟩]⟩,
  -- MEM_INT_EN
  ⟨0x40008, 0x0, 1, 0x4, 1, none, .fast, .always,
   [⟨10, 0, .rw, 0x0, none, false⟩]⟩,
  -- MEM_SCRUB_CFG
  ⟨0x4000C, 0x0, 1, 0x4, 1, some 17, .fast, .always,
   [⟨7, 0, .g, 0x10, some (1, 255), false⟩]⟩,
  -- MEM_SCRUB_STAT
  ⟨0x40010, 0x0, 1, 0x4, 1, none, .fast, .always,
   [⟨13, 0, .ro, 0x0, none, false⟩,
    ⟨20, 14, .ro, 0x0, none, false⟩,
    ⟨31, 21, .ro, 0x0, none, false⟩]⟩,
  -- MEM_CACHE_RGN
  ⟨0x40014, 0x0, 1, 0x4, 1, some 17, .fast, .always,
   [⟨13, 0, .g, 0x934, none, false⟩,
    ⟨21, 16, .g, 0x20, some (0, 48), false⟩]⟩,
  -- MEM_TABLE_RGN
  ⟨0x40018, 0x0, 1, 0x4, 1, some 17, .fast, .always,
   [⟨13, 0, .g, 0x2934, none, false⟩,
    ⟨28, 16, .g, 0x440, some (256, 4096), false⟩]⟩,
  -- MEM_MAP_CFG
  ⟨0x4001C, 0x0, 1, 0x4, 1, some 17, .fast, .always,
   [⟨15, 0, .g, 0x5000, none, false⟩]⟩,
  -- MEM_POOL_CFG
  ⟨0x40020, 0x0, 1, 0x4, 1, some 17, .fast, .always,
   [⟨13, 0, .g, 0x400, none, false⟩]⟩,
  -- MEM_CARVE_STAT
  ⟨0x40024, 0x0, 1, 0x4, 1, none, .fast, .always,
   [⟨13, 0, .ro, 0x128C, none, false⟩,
    ⟨29, 16, .ro, 0x0, none, false⟩]⟩,
  -- MEM_RETIRE_CMD
  ⟨0x40028, 0x0, 1, 0x4, 1, none, .fast, .always,
   [⟨13, 0, .rw, 0x0, none, false⟩,
    ⟨18, 14, .rw, 0x0, none, false⟩,
    ⟨19, 19, .rw, 0x0, none, false⟩,
    ⟨31, 31, .w1s, 0x0, none, false⟩]⟩,
  -- MEM_RETIRE_STAT
  ⟨0x4002C, 0x0, 1, 0x4, 1, none, .fast, .always,
   [⟨0, 0, .ro, 0x0, none, false⟩,
    ⟨1, 1, .ro, 0x0, none, false⟩,
    ⟨15, 2, .ro, 0x0, none, false⟩]⟩]

/-- Registers of block MEM, part 1 (R245). -/
def memRegs1 : List RegDesc := [
  -- MEM_BANK_RETIRED
  ⟨0x40030, 0x0, 1, 0x4, 1, none, .fast, .always,
   [⟨31, 0, .ro, 0x0, none, false⟩]⟩,
  -- MEM_PAGE_CMD
  ⟨0x40034, 0x0, 1, 0x4, 1, none, .fast, .always,
   [⟨13, 0, .rw, 0x0, none, false⟩,
    ⟨24, 14, .rw, 0x0, none, false⟩,
    ⟨26, 25, .rw, 0x0, some (0, 1), false⟩,
    ⟨31, 31, .w1s, 0x0, none, false⟩]⟩,
  -- MEM_PAGE_RESP
  ⟨0x40038, 0x0, 1, 0x4, 1, none, .fast, .always,
   [⟨15, 0, .ro, 0x0, none, false⟩,
    ⟨16, 16, .ro, 0x0, none, false⟩,
    ⟨17, 17, .ro, 0x0, none, false⟩,
    ⟨18, 18, .ro, 0x0, none, false⟩]⟩,
  -- MEM_PSTATE_ADDR
  ⟨0x4003C, 0x0, 1, 0x4, 1, none, .fast, .always,
   [⟨13, 0, .rw, 0x0, none, false⟩]⟩,
  -- MEM_PSTATE_DATA
  ⟨0x40040, 0x0, 1, 0x4, 1, none, .fast, .always,
   [⟨1, 0, .ro, 0x0, none, false⟩,
    ⟨2, 2, .ro, 0x0, none, false⟩,
    ⟨3, 3, .ro, 0x0, none, false⟩,
    ⟨17, 4, .ro, 0x0, none, false⟩,
    ⟨31, 18, .ro, 0x0, none, false⟩]⟩,
  -- MEM_ELOG_DATA
  ⟨0x40044, 0x4, 4, 0x4, 1, none, .fast, .always,
   [⟨31, 0, .ro, 0x0, none, false⟩]⟩,
  -- MEM_ELOG_CNT
  ⟨0x40054, 0x0, 1, 0x4, 1, none, .fast, .always,
   [⟨15, 0, .rc, 0x0, none, false⟩]⟩,
  -- MEM_ERR_CNT
  ⟨0x40058, 0x0, 1, 0x4, 1, none, .fast, .always,
   [⟨15, 0, .rc, 0x0, none, false⟩,
    ⟨31, 16, .rc, 0x0, none, false⟩]⟩,
  -- MEM_SCRUB_CNT
  ⟨0x4005C, 0x0, 1, 0x4, 1, none, .fast, .always,
   [⟨15, 0, .rc, 0x0, none, false⟩,
    ⟨31, 16, .rc, 0x0, none, false⟩]⟩,
  -- MEM_PLANE_STAT
  ⟨0x40060, 0x0, 1, 0x4, 1, none, .fast, .always,
   [⟨0, 0, .ro, 0x1, none, false⟩,
    ⟨1, 1, .ro, 0x1, none, false⟩,
    ⟨15, 8, .ro, 0x0, none, false⟩,
    ⟨23, 16, .ro, 0x0, none, false⟩]⟩,
  -- MEM_PLANE_CFG
  ⟨0x40064, 0x0, 1, 0x4, 1, some 17, .fast, .always,
   [⟨7, 0, .g, 0x4, some (1, 255), false⟩]⟩,
  -- MEM_FREE
  ⟨0x40068, 0x0, 1, 0x4, 1, none, .fast, .always,
   [⟨13, 0, .ro, 0x0, none, false⟩]⟩]

/-- Registers of block MEM, part 2 (R245). -/
def memRegs2 : List RegDesc := [
  -- MEM_TRAIL_CFG
  ⟨0x4006C, 0x0, 1, 0x4, 1, some 17, .fast, .always,
   [⟨13, 0, .g, 0x2CF4, none, false⟩]⟩]

/-- Registers of block BCC, part 0 (R271). -/
def bccRegs0 : List RegDesc := [
  -- BCC_CTRL
  ⟨0x50000, 0x0, 1, 0x4, 1, some 18, .fast, .always,
   [⟨0, 0, .g, 0x0, none, false⟩,
    ⟨4, 1, .g, 0x8, some (1, 12), false⟩]⟩,
  -- BCC_STATUS
  ⟨0x50004, 0x0, 1, 0x4, 1, none, .fast, .always,
   [⟨0, 0, .w1c, 0x0, none, false⟩,
    ⟨1, 1, .w1c, 0x0, none, false⟩,
    ⟨2, 2, .w1c, 0x0, none, false⟩,
    ⟨3, 3, .w1c, 0x0, none, false⟩,
    ⟨4, 4, .ro, 0x1, none, false⟩,
    ⟨5, 5, .ro, 0x0, none, false⟩]⟩,
  -- BCC_MAINT_ADDR_LO
  ⟨0x50008, 0x0, 1, 0x4, 1, none, .fast, .always,
   [⟨31, 7, .rw, 0x0, none, false⟩]⟩,
  -- BCC_MAINT_ADDR_HI
  ⟨0x5000C, 0x0, 1, 0x4, 1, none, .fast, .always,
   [⟨3, 0, .rw, 0x0, none, false⟩]⟩,
  -- BCC_MAINT_CMD
  ⟨0x50010, 0x0, 1, 0x4, 1, none, .fast, .always,
   [⟨2, 0, .rw, 0x0, some (0, 5), false⟩,
    ⟨3, 3, .rw, 0x0, none, false⟩,
    ⟨31, 31, .w1s, 0x0, none, false⟩]⟩,
  -- BCC_MAINT_LEN
  ⟨0x50014, 0x0, 1, 0x4, 1, none, .fast, .always,
   [⟨27, 0, .rw, 0x0, some (1, 268435455), false⟩]⟩,
  -- BCC_MAINT_RESP
  ⟨0x50018, 0x0, 1, 0x4, 1, none, .fast, .always,
   [⟨15, 0, .ro, 0x0, none, false⟩,
    ⟨31, 16, .ro, 0x0, none, false⟩]⟩,
  -- BCC_MAINT_RESP2
  ⟨0x5001C, 0x0, 1, 0x4, 1, none, .fast, .always,
   [⟨15, 0, .ro, 0x0, none, false⟩,
    ⟨31, 16, .ro, 0x0, none, false⟩]⟩,
  -- BCC_INT_EN
  ⟨0x50020, 0x0, 1, 0x4, 1, none, .fast, .always,
   [⟨3, 0, .rw, 0x0, none, false⟩]⟩,
  -- BCC_STREAM_MASK
  ⟨0x50024, 0x0, 1, 0x4, 1, some 18, .fast, .always,
   [⟨15, 0, .g, 0x0, none, false⟩]⟩,
  -- BCC_BAR2_BASE
  ⟨0x50028, 0x0, 1, 0x4, 1, some 18, .fast, .always,
   [⟨5, 0, .g, 0x0, none, false⟩]⟩,
  -- BCC_HIT_CNT
  ⟨0x5002C, 0x0, 1, 0x4, 1, none, .fast, .always,
   [⟨31, 0, .rc, 0x0, none, false⟩]⟩]

/-- Registers of block BCC, part 1 (R271). -/
def bccRegs1 : List RegDesc := [
  -- BCC_MISS_CNT
  ⟨0x50030, 0x0, 1, 0x4, 1, none, .fast, .always,
   [⟨31, 0, .rc, 0x0, none, false⟩]⟩,
  -- BCC_MERGE_CNT
  ⟨0x50034, 0x0, 1, 0x4, 1, none, .fast, .always,
   [⟨15, 0, .rc, 0x0, none, false⟩,
    ⟨31, 16, .rc, 0x0, none, false⟩]⟩,
  -- BCC_OCC
  ⟨0x50038, 0x0, 1, 0x4, 1, none, .fast, .always,
   [⟨8, 0, .ro, 0x0, none, false⟩,
    ⟨14, 9, .ro, 0x0, none, false⟩,
    ⟨31, 16, .ro, 0x0, none, false⟩]⟩,
  -- DDR_CFG
  ⟨0x58000, 0x400, 2, 0x4, 1, some 19, .fast, .dram,
   [⟨1, 0, .g, 0x1, some (1, 2), false⟩,
    ⟨3, 2, .g, 0x1, some (0, 2), false⟩,
    ⟨16, 4, .g, 0x1900, some (3200, 6400), false⟩]⟩,
  -- DDR_STATUS
  ⟨0x58004, 0x400, 2, 0x4, 1, none, .fast, .dram,
   [⟨0, 0, .w1c, 0x0, none, false⟩,
    ⟨1, 1, .w1c, 0x0, none, false⟩,
    ⟨2, 2, .w1c, 0x0, none, false⟩,
    ⟨3, 3, .w1c, 0x0, none, false⟩,
    ⟨4, 4, .w1c, 0x0, none, false⟩,
    ⟨5, 5, .ro, 0x0, none, false⟩,
    ⟨6, 6, .ro, 0x0, none, false⟩,
    ⟨11, 8, .ro, 0xF, none, false⟩,
    ⟨15, 12, .ro, 0xF, none, false⟩]⟩,
  -- DDR_INT_EN
  ⟨0x58008, 0x400, 2, 0x4, 1, none, .fast, .dram,
   [⟨4, 0, .rw, 0x0, none, false⟩]⟩,
  -- DDR_ERR_CNT
  ⟨0x5800C, 0x400, 2, 0x4, 1, none, .fast, .dram,
   [⟨15, 0, .rc, 0x0, none, false⟩,
    ⟨31, 16, .rc, 0x0, none, false⟩]⟩,
  -- DDR_DEV_CNT_ADDR
  ⟨0x58010, 0x400, 2, 0x4, 1, none, .fast, .dram,
   [⟨0, 0, .rw, 0x0, none, false⟩,
    ⟨4, 1, .rw, 0x0, none, false⟩]⟩,
  -- DDR_DEV_CNT
  ⟨0x58014, 0x400, 2, 0x4, 1, none, .fast, .dram,
   [⟨15, 0, .rc, 0x0, none, false⟩]⟩,
  -- DDR_MAP_CFG
  ⟨0x5F000, 0x0, 1, 0x4, 1, some 19, .fast, .always,
   [⟨1, 0, .g, 0x3, some (1, 3), false⟩,
    ⟨6, 2, .g, 0x4, some (0, 16), false⟩]⟩,
  -- DDR_PATROL_CFG
  ⟨0x5F004, 0x0, 1, 0x4, 1, some 19, .fast, .always,
   [⟨7, 0, .g, 0x18, none, false⟩,
    ⟨15, 8, .g, 0x10, some (1, 255), false⟩]⟩,
  -- DDR_TRAIN_PTR
  ⟨0x5F008, 0x0, 1, 0x4, 1, some 19, .fast, .always,
   [⟨13, 0, .g, 0x2D34, none, false⟩]⟩]

/-- Registers of block BCC, part 2 (R271). -/
def bccRegs2 : List RegDesc := [
  -- DDR_FENCE_CMD
  ⟨0x5F00C, 0x0, 1, 0x4, 1, none, .fast, .always,
   [⟨1, 0, .w1s, 0x0, none, false⟩]⟩,
  -- DDR_GSTATUS
  ⟨0x5F010, 0x0, 1, 0x4, 1, none, .fast, .always,
   [⟨0, 0, .w1c, 0x0, none, false⟩,
    ⟨1, 1, .w1c, 0x0, none, false⟩,
    ⟨2, 2, .w1c, 0x0, none, false⟩]⟩]

/-- Registers of block PCK, part 0 (R303). -/
def pckRegs0 : List RegDesc := [
  -- PCK_CTRL
  ⟨0x60000, 0x40, 2, 0x4, 1, some 21, .fast, .always,
   [⟨0, 0, .g, 0x1, none, false⟩]⟩,
  -- PCK_ISTATUS
  ⟨0x60004, 0x40, 2, 0x4, 1, none, .fast, .always,
   [⟨0, 0, .ro, 0x0, none, false⟩,
    ⟨1, 1, .ro, 0x0, none, false⟩,
    ⟨2, 2, .w1c, 0x0, none, false⟩,
    ⟨3, 3, .w1c, 0x0, none, false⟩,
    ⟨4, 4, .ro, 0x0, none, false⟩]⟩,
  -- PCK_IN_CNT
  ⟨0x60008, 0x40, 2, 0x4, 1, none, .fast, .always,
   [⟨31, 0, .rc, 0x0, none, false⟩]⟩,
  -- PCK_OUT_CNT
  ⟨0x6000C, 0x40, 2, 0x4, 1, none, .fast, .always,
   [⟨31, 0, .rc, 0x0, none, false⟩]⟩,
  -- PCK_JOB_CNT
  ⟨0x60010, 0x40, 2, 0x4, 1, none, .fast, .always,
   [⟨15, 0, .rc, 0x0, none, false⟩,
    ⟨31, 16, .rc, 0x0, none, false⟩]⟩,
  -- PCK_CFG
  ⟨0x6F000, 0x0, 1, 0x4, 1, some 21, .fast, .always,
   [⟨0, 0, .g, 0x1, none, true⟩,
    ⟨2, 1, .g, 0x1, none, false⟩]⟩,
  -- PCK_STATUS
  ⟨0x6F004, 0x0, 1, 0x4, 1, none, .fast, .always,
   [⟨0, 0, .ro, 0x0, none, false⟩,
    ⟨1, 1, .w1c, 0x0, none, false⟩,
    ⟨2, 2, .w1c, 0x0, none, false⟩,
    ⟨3, 3, .w1c, 0x0, none, false⟩,
    ⟨4, 4, .w1c, 0x0, none, false⟩]⟩,
  -- PCK_INT_EN
  ⟨0x6F008, 0x0, 1, 0x4, 1, none, .fast, .always,
   [⟨4, 0, .rw, 0x0, none, false⟩]⟩,
  -- PCK_JOB
  ⟨0x6F010, 0x4, 8, 0x4, 1, none, .fast, .always,
   [⟨31, 0, .wo, 0x0, none, false⟩]⟩,
  -- PCK_JOB_GO
  ⟨0x6F030, 0x0, 1, 0x4, 1, none, .fast, .always,
   [⟨0, 0, .w1s, 0x0, none, false⟩]⟩,
  -- PCK_QUEUE
  ⟨0x6F034, 0x0, 1, 0x4, 1, none, .fast, .always,
   [⟨6, 0, .ro, 0x0, none, false⟩]⟩,
  -- PCK_RES
  ⟨0x6F040, 0x4, 4, 0x4, 1, none, .fast, .always,
   [⟨31, 0, .ro, 0x0, none, false⟩]⟩]

/-- Registers of block PCK, part 1 (R303). -/
def pckRegs1 : List RegDesc := [
  -- PCK_KEY_CMD
  ⟨0x6F050, 0x0, 1, 0x4, 1, none, .fast, .always,
   [⟨5, 0, .rw, 0x0, none, false⟩,
    ⟨7, 6, .rw, 0x0, some (0, 1), false⟩,
    ⟨31, 31, .w1s, 0x0, none, false⟩]⟩,
  -- PCK_KEY_DATA
  ⟨0x6F054, 0x0, 1, 0x4, 1, none, .fast, .always,
   [⟨31, 0, .wo, 0x0, none, false⟩]⟩,
  -- PCK_KEY_STAT
  ⟨0x6F058, 0x4, 2, 0x4, 1, none, .fast, .always,
   [⟨31, 0, .ro, 0x0, none, false⟩]⟩,
  -- PCK_KEY_BUSY
  ⟨0x6F060, 0x4, 2, 0x4, 1, none, .fast, .always,
   [⟨31, 0, .ro, 0x0, none, false⟩]⟩,
  -- PCK_ERR_CNT
  ⟨0x6F068, 0x0, 1, 0x4, 1, none, .fast, .always,
   [⟨7, 0, .rc, 0x0, none, false⟩,
    ⟨15, 8, .rc, 0x0, none, false⟩,
    ⟨23, 16, .rc, 0x0, none, false⟩,
    ⟨31, 24, .rc, 0x0, none, false⟩]⟩]

/-- Registers of block RCH, part 0 (R82). -/
def rchRegs0 : List RegDesc := [
  -- RCH_CTRL
  ⟨0x80000, 0x800, 28, 0x4, 1, some 8, .fast, .chan,
   [⟨0, 0, .g, 0x0, none, false⟩,
    ⟨2, 1, .g, 0x3, some (1, 3), false⟩,
    ⟨3, 3, .g, 0x0, none, false⟩]⟩,
  -- RCH_AFE_CFG
  ⟨0x80004, 0x800, 28, 0x4, 1, some 8, .fast, .chan,
   [⟨3, 0, .g, 0x6, some (0, 12), false⟩,
    ⟨7, 4, .g, 0x6, some (0, 12), false⟩,
    ⟨10, 8, .g, 0x1, some (0, 4), false⟩,
    ⟨13, 11, .g, 0x1, some (0, 4), false⟩,
    ⟨14, 14, .g, 0x0, none, false⟩]⟩,
  -- RCH_AGC_CFG
  ⟨0x80008, 0x800, 28, 0x4, 1, some 8, .fast, .chan,
   [⟨8, 0, .g, 0x60, some (0, 288), false⟩,
    ⟨15, 9, .g, 0x40, some (16, 112), false⟩,
    ⟨19, 16, .g, 0x4, some (2, 8), false⟩,
    ⟨23, 20, .g, 0xA, some (6, 14), false⟩,
    ⟨24, 24, .g, 0x1, none, false⟩]⟩,
  -- RCH_BLC_CFG
  ⟨0x8000C, 0x800, 28, 0x4, 1, some 8, .fast, .chan,
   [⟨3, 0, .g, 0x8, some (6, 12), false⟩,
    ⟨4, 4, .g, 0x1, none, false⟩]⟩,
  -- RCH_TA_CFG
  ⟨0x80010, 0x800, 28, 0x4, 1, some 8, .fast, .chan,
   [⟨7, 0, .g, 0x18, some (8, 127), false⟩,
    ⟨11, 8, .g, 0x8, some (2, 15), false⟩,
    ⟨19, 12, .g, 0x8, none, false⟩,
    ⟨27, 20, .g, 0x20, some (1, 255), false⟩,
    ⟨28, 28, .g, 0x1, none, false⟩,
    ⟨29, 29, .g, 0x1, none, false⟩]⟩,
  -- RCH_TR_CFG
  ⟨0x80014, 0x800, 28, 0x4, 1, some 8, .fast, .chan,
   [⟨4, 0, .g, 0x4, some (1, 12), false⟩,
    ⟨9, 5, .g, 0xA, some (4, 20), false⟩,
    ⟨15, 10, .g, 0x14, some (1, 63), false⟩,
    ⟨16, 16, .g, 0x1, none, false⟩,
    ⟨20, 17, .g, 0x2, some (0, 6), false⟩]⟩,
  -- RCH_DET_CFG
  ⟨0x80018, 0x800, 28, 0x4, 1, some 8, .fast, .chan,
   [⟨4, 0, .g, 0x8, some (1, 31), false⟩,
    ⟨9, 5, .g, 0x8, some (1, 31), false⟩,
    ⟨25, 10, .g, 0xF000, none, false⟩,
    ⟨26, 26, .g, 0x1, none, false⟩]⟩,
  -- RCH_SYNC_CFG
  ⟨0x8001C, 0x800, 28, 0x4, 1, some 8, .fast, .chan,
   [⟨3, 0, .g, 0x4, some (0, 8), false⟩,
    ⟨4, 4, .g, 0x1, none, false⟩,
    ⟨8, 5, .g, 0x4, some (0, 8), false⟩]⟩,
  -- RCH_ADAPT_CFG
  ⟨0x80020, 0x800, 28, 0x4, 1, some 8, .fast, .chan,
   [⟨0, 0, .g, 0x0, none, false⟩,
    ⟨4, 1, .g, 0xC, some (8, 15), false⟩,
    ⟨20, 5, .g, 0xF800, none, false⟩,
    ⟨24, 21, .g, 0x6, none, false⟩]⟩,
  -- RCH_COEF_ADDR
  ⟨0x80024, 0x800, 28, 0x4, 1, none, .fast, .chan,
   [⟨10, 0, .rwh, 0x0, none, false⟩,
    ⟨18, 16, .rw, 0x0, none, false⟩,
    ⟨19, 19, .rw, 0x1, none, false⟩]⟩,
  -- RCH_COEF_DATA
  ⟨0x80028, 0x800, 28, 0x4, 1, none, .fast, .chan,
   [⟨31, 0, .rw, 0x0, none, false⟩]⟩,
  -- RCH_AGC_STAT
  ⟨0x8002C, 0x800, 28, 0x4, 1, none, .fast, .chan,
   [⟨8, 0, .ro, 0x0, none, false⟩,
    ⟨17, 9, .ro, 0x0, none, false⟩]⟩]

/-- Registers of block RCH, part 1 (R82). -/
def rchRegs1 : List RegDesc := [
  -- RCH_TR_STAT
  ⟨0x80030, 0x800, 28, 0x4, 1, none, .fast, .chan,
   [⟨15, 0, .ro, 0x0, none, false⟩,
    ⟨21, 16, .ro, 0x0, none, false⟩,
    ⟨22, 22, .ro, 0x0, none, false⟩]⟩,
  -- RCH_SYNC_STAT
  ⟨0x80034, 0x800, 28, 0x4, 1, none, .fast, .chan,
   [⟨15, 0, .ro, 0x0, none, false⟩,
    ⟨23, 16, .ro, 0x0, none, false⟩,
    ⟨31, 24, .ro, 0x0, none, false⟩]⟩,
  -- RCH_QUAL
  ⟨0x80038, 0x800, 28, 0x4, 1, none, .fast, .chan,
   [⟨15, 0, .ro, 0x0, none, false⟩]⟩,
  -- RCH_HEALTH_A
  ⟨0x8003C, 0x800, 28, 0x4, 1, none, .fast, .chan,
   [⟨7, 0, .ro, 0x0, none, false⟩,
    ⟨15, 8, .ro, 0x0, none, false⟩,
    ⟨23, 16, .ro, 0x0, none, false⟩,
    ⟨24, 24, .ro, 0x0, none, false⟩,
    ⟨25, 25, .ro, 0x0, none, false⟩]⟩,
  -- RCH_HEALTH_B
  ⟨0x80040, 0x800, 28, 0x4, 1, none, .fast, .chan,
   [⟨7, 0, .ro, 0x0, none, false⟩,
    ⟨15, 8, .ro, 0x0, none, false⟩,
    ⟨23, 16, .ro, 0x0, none, false⟩,
    ⟨24, 24, .ro, 0x0, none, false⟩,
    ⟨25, 25, .ro, 0x0, none, false⟩]⟩,
  -- RCH_STATUS
  ⟨0x80044, 0x800, 28, 0x4, 1, none, .fast, .chan,
   [⟨0, 0, .w1c, 0x0, none, false⟩,
    ⟨1, 1, .w1c, 0x0, none, false⟩,
    ⟨2, 2, .w1c, 0x0, none, false⟩,
    ⟨3, 3, .w1c, 0x0, none, false⟩,
    ⟨4, 4, .w1c, 0x0, none, false⟩,
    ⟨5, 5, .w1c, 0x0, none, false⟩,
    ⟨6, 6, .w1c, 0x0, none, false⟩,
    ⟨7, 7, .w1c, 0x0, none, false⟩,
    ⟨8, 8, .w1c, 0x0, none, false⟩,
    ⟨9, 9, .w1c, 0x0, none, false⟩]⟩,
  -- RCH_INT_EN
  ⟨0x80048, 0x800, 28, 0x4, 1, none, .fast, .chan,
   [⟨9, 0, .rw, 0x0, none, false⟩]⟩,
  -- RCH_SECT_CNT
  ⟨0x8004C, 0x800, 28, 0x4, 1, none, .fast, .chan,
   [⟨31, 0, .rc, 0x0, none, false⟩]⟩,
  -- RCH_SYNC_CNT
  ⟨0x80050, 0x800, 28, 0x4, 1, none, .fast, .chan,
   [⟨15, 0, .rc, 0x0, none, false⟩,
    ⟨31, 16, .rc, 0x0, none, false⟩]⟩,
  -- RCH_EVT_CNT
  ⟨0x80054, 0x800, 28, 0x4, 1, none, .fast, .chan,
   [⟨7, 0, .rc, 0x0, none, false⟩,
    ⟨15, 8, .rc, 0x0, none, false⟩,
    ⟨23, 16, .rc, 0x0, none, false⟩,
    ⟨31, 24, .rc, 0x0, none, false⟩]⟩,
  -- RCH_RET_PTR
  ⟨0x80058, 0x800, 28, 0x4, 1, none, .fast, .chan,
   [⟨3, 0, .ro, 0x0, none, false⟩,
    ⟨31, 4, .ro, 0x0, none, false⟩]⟩,
  -- RCH_MAP
  ⟨0x8005C, 0x800, 28, 0x4, 1, none, .fast, .chan,
   [⟨2, 0, .ro, 0x0, none, false⟩,
    ⟨4, 3, .ro, 0x0, none, false⟩,
    ⟨5, 5, .ro, 0x0, none, false⟩]⟩]

/-- Registers of block RCH, part 2 (R82). -/
def rchRegs2 : List RegDesc := [
  -- RCH_PRIMARY_LO
  ⟨0x8F000, 0x0, 1, 0x4, 1, some 9, .fast, .always,
   [⟨31, 0, .g, 0x1E6CD94B, none, false⟩]⟩,
  -- RCH_PRIMARY_HI
  ⟨0x8F004, 0x0, 1, 0x4, 1, some 9, .fast, .always,
   [⟨7, 0, .g, 0xA7, none, false⟩]⟩,
  -- RCH_RESCUE_LO
  ⟨0x8F008, 0x0, 1, 0x4, 1, some 9, .fast, .always,
   [⟨31, 0, .g, 0xB2580F97, none, false⟩]⟩,
  -- RCH_RESCUE_HI
  ⟨0x8F00C, 0x0, 1, 0x4, 1, some 9, .fast, .always,
   [⟨7, 0, .g, 0x3D, none, false⟩]⟩,
  -- RCH_FRAG_LO
  ⟨0x8F010, 0x0, 1, 0x4, 1, some 9, .fast, .always,
   [⟨31, 0, .g, 0xE03AC52D, none, false⟩]⟩,
  -- RCH_FRAG_HI
  ⟨0x8F014, 0x0, 1, 0x4, 1, some 9, .fast, .always,
   [⟨7, 0, .g, 0x69, none, false⟩]⟩,
  -- RCH_RET_CFG
  ⟨0x8F018, 0x0, 1, 0x4, 1, some 10, .fast, .always,
   [⟨3, 0, .g, 0x4, some (2, 8), false⟩,
    ⟨4, 4, .g, 0x0, none, false⟩,
    ⟨5, 5, .g, 0x1, none, false⟩]⟩,
  -- RCH_RET_BASE
  ⟨0x8F01C, 0x0, 1, 0x4, 1, some 10, .fast, .always,
   [⟨13, 0, .g, 0x0, none, false⟩]⟩,
  -- RCH_RET_STAT
  ⟨0x8F020, 0x0, 1, 0x4, 1, none, .fast, .always,
   [⟨0, 0, .ro, 0x0, none, false⟩,
    ⟨1, 1, .ro, 0x0, none, false⟩,
    ⟨28, 16, .ro, 0x0, none, false⟩]⟩,
  -- RCH_SPARE_MAP
  ⟨0x8F024, 0x0, 1, 0x4, 1, none, .fast, .always,
   [⟨2, 0, .ro, 0x0, none, false⟩,
    ⟨3, 3, .ro, 0x0, none, false⟩,
    ⟨6, 4, .ro, 0x0, none, false⟩,
    ⟨7, 7, .ro, 0x0, none, false⟩,
    ⟨10, 8, .ro, 0x0, none, false⟩,
    ⟨11, 11, .ro, 0x0, none, false⟩,
    ⟨14, 12, .ro, 0x0, none, false⟩,
    ⟨15, 15, .ro, 0x0, none, false⟩]⟩,
  -- RCH_SPARE_CMD
  ⟨0x8F028, 0x0, 1, 0x4, 1, none, .fast, .always,
   [⟨2, 0, .rw, 0x0, none, false⟩,
    ⟨4, 3, .rw, 0x0, none, false⟩,
    ⟨6, 5, .rw, 0x0, none, false⟩,
    ⟨8, 8, .w1s, 0x0, none, false⟩]⟩,
  -- RCH_RATE_ADDR
  ⟨0x8F02C, 0x0, 1, 0x4, 1, none, .fast, .always,
   [⟨6, 0, .rw, 0x0, none, false⟩]⟩]

/-- Registers of block RCH, part 3 (R82). -/
def rchRegs3 : List RegDesc := [
  -- RCH_RATE_DATA
  ⟨0x8F030, 0x0, 1, 0x4, 1, some 8, .fast, .always,
   [⟨31, 0, .g, 0x0, none, false⟩]⟩,
  -- RCH_SEL_CNT
  ⟨0x8F034, 0x0, 1, 0x4, 1, none, .fast, .always,
   [⟨15, 0, .rc, 0x0, none, false⟩,
    ⟨31, 16, .rc, 0x0, none, false⟩]⟩,
  -- RCH_GSTATUS
  ⟨0x8F038, 0x0, 1, 0x4, 1, none, .fast, .always,
   [⟨0, 0, .w1c, 0x0, none, false⟩,
    ⟨1, 1, .w1c, 0x0, none, false⟩,
    ⟨2, 2, .w1c, 0x0, none, false⟩]⟩,
  -- RCH_PRESENT
  ⟨0x8F03C, 0x0, 1, 0x4, 1, none, .fast, .always,
   [⟨27, 0, .ro, 0x0, none, false⟩]⟩]

/-- Registers of block DEC, part 0 (R105). -/
def decRegs0 : List RegDesc := [
  -- DEC_CTRL
  ⟨0x90000, 0x40, 36, 0x4, 1, some 11, .fast, .always,
   [⟨0, 0, .g, 0x1, none, false⟩]⟩,
  -- DEC_ESTATUS
  ⟨0x90004, 0x40, 36, 0x4, 1, none, .fast, .always,
   [⟨0, 0, .ro, 0x0, none, false⟩,
    ⟨1, 1, .ro, 0x0, none, false⟩,
    ⟨2, 2, .w1c, 0x0, none, false⟩,
    ⟨3, 3, .w1c, 0x0, none, false⟩,
    ⟨13, 8, .ro, 0x0, none, false⟩]⟩,
  -- DEC_ITER_CNT
  ⟨0x90008, 0x40, 36, 0x4, 1, none, .fast, .always,
   [⟨31, 0, .rc, 0x0, none, false⟩]⟩,
  -- DEC_SECT_CNT
  ⟨0x9000C, 0x40, 36, 0x4, 1, none, .fast, .always,
   [⟨15, 0, .rc, 0x0, none, false⟩,
    ⟨31, 16, .rc, 0x0, none, false⟩]⟩,
  -- DEC_CFG
  ⟨0x9F000, 0x0, 1, 0x4, 1, some 11, .fast, .always,
   [⟨3, 0, .g, 0x8, some (1, 8), false⟩,
    ⟨9, 4, .g, 0x28, some (1, 40), false⟩,
    ⟨11, 10, .g, 0x2, some (1, 3), false⟩,
    ⟨14, 12, .g, 0x1, some (0, 3), false⟩,
    ⟨15, 15, .g, 0x1, none, false⟩,
    ⟨28, 16, .g, 0x640, some (1, 4224), false⟩,
    ⟨29, 29, .g, 0x1, none, false⟩]⟩,
  -- DEC_RETRY_CFG
  ⟨0x9F004, 0x0, 1, 0x4, 1, some 11, .fast, .always,
   [⟨2, 0, .g, 0x3, none, false⟩,
    ⟨10, 3, .g, 0x8, none, false⟩,
    ⟨11, 11, .g, 0x1, none, false⟩,
    ⟨12, 12, .g, 0x1, none, false⟩,
    ⟨14, 13, .g, 0x2, some (1, 3), false⟩]⟩,
  -- DEC_STATUS
  ⟨0x9F008, 0x0, 1, 0x4, 1, none, .fast, .always,
   [⟨0, 0, .w1c, 0x0, none, false⟩,
    ⟨1, 1, .w1c, 0x0, none, false⟩,
    ⟨2, 2, .w1c, 0x0, none, false⟩,
    ⟨3, 3, .w1c, 0x0, none, false⟩,
    ⟨4, 4, .w1c, 0x0, none, false⟩,
    ⟨5, 5, .w1c, 0x0, none, false⟩,
    ⟨6, 6, .w1c, 0x0, none, false⟩,
    ⟨7, 7, .w1c, 0x0, none, false⟩,
    ⟨8, 8, .w1c, 0x0, none, false⟩]⟩,
  -- DEC_INT_EN
  ⟨0x9F00C, 0x0, 1, 0x4, 1, none, .fast, .always,
   [⟨8, 0, .rw, 0x0, none, false⟩]⟩,
  -- DEC_BUDGET_STAT
  ⟨0x9F010, 0x0, 1, 0x4, 1, none, .fast, .always,
   [⟨11, 0, .ro, 0x0, none, false⟩,
    ⟨23, 12, .ro, 0x0, none, false⟩,
    ⟨31, 24, .ro, 0x0, none, false⟩]⟩,
  -- DEC_DEEP_STAT
  ⟨0x9F014, 0x0, 1, 0x4, 1, none, .fast, .always,
   [⟨8, 0, .ro, 0x0, none, false⟩,
    ⟨12, 9, .ro, 0x0, none, false⟩,
    ⟨19, 16, .ro, 0x0, none, false⟩]⟩,
  -- DEC_IN_SERVICE
  ⟨0x9F018, 0x0, 1, 0x4, 1, none, .fast, .always,
   [⟨31, 0, .ro, 0x0, none, false⟩]⟩,
  -- DEC_IN_SERVICE_DEEP
  ⟨0x9F01C, 0x0, 1, 0x4, 1, none, .fast, .always,
   [⟨3, 0, .ro, 0x0, none, false⟩]⟩]

/-- Registers of block DEC, part 1 (R105). -/
def decRegs1 : List RegDesc := [
  -- DEC_CONV_CNT
  ⟨0x9F020, 0x0, 1, 0x4, 1, none, .fast, .always,
   [⟨31, 0, .rc, 0x0, none, false⟩]⟩,
  -- DEC_ALIGN_CNT
  ⟨0x9F024, 0x0, 1, 0x4, 1, none, .fast, .always,
   [⟨15, 0, .rc, 0x0, none, false⟩,
    ⟨31, 16, .rc, 0x0, none, false⟩]⟩,
  -- DEC_DEEP_CNT
  ⟨0x9F028, 0x0, 1, 0x4, 1, none, .fast, .always,
   [⟨15, 0, .rc, 0x0, none, false⟩,
    ⟨31, 16, .rc, 0x0, none, false⟩]⟩,
  -- DEC_REREAD_CNT
  ⟨0x9F02C, 0x0, 1, 0x4, 1, none, .fast, .always,
   [⟨15, 0, .rc, 0x0, none, false⟩,
    ⟨31, 16, .rc, 0x0, none, false⟩]⟩,
  -- DEC_ERR_CNT
  ⟨0x9F030, 0x0, 1, 0x4, 1, none, .fast, .always,
   [⟨7, 0, .rc, 0x0, none, false⟩,
    ⟨15, 8, .rc, 0x0, none, false⟩,
    ⟨23, 16, .rc, 0x0, none, false⟩,
    ⟨31, 24, .rc, 0x0, none, false⟩]⟩,
  -- DEC_TRACE_CTRL
  ⟨0x9F034, 0x0, 1, 0x4, 1, none, .fast, .always,
   [⟨0, 0, .rw, 0x0, none, false⟩,
    ⟨6, 1, .rw, 0x0, none, false⟩,
    ⟨7, 7, .rw, 0x0, none, false⟩]⟩,
  -- DEC_TRACE_DATA
  ⟨0x9F038, 0x4, 4, 0x4, 1, none, .fast, .always,
   [⟨31, 0, .ro, 0x0, none, false⟩]⟩]

/-- Registers of block WRP, part 0 (R128). -/
def wrpRegs0 : List RegDesc := [
  -- WRP_CTRL
  ⟨0xA0000, 0x200, 24, 0x4, 1, some 12, .fast, .head,
   [⟨0, 0, .g, 0x0, none, false⟩,
    ⟨8, 1, .g, 0x20, some (1, 128), false⟩,
    ⟨9, 9, .g, 0x1, none, true⟩,
    ⟨29, 16, .rw, 0x0, none, false⟩]⟩,
  -- WRP_WC_CFG
  ⟨0xA0004, 0x200, 24, 0x4, 1, some 12, .fast, .head,
   [⟨6, 0, .g, 0x2D, some (10, 100), false⟩,
    ⟨11, 7, .g, 0xC, none, false⟩,
    ⟨15, 12, .g, 0x5, none, false⟩]⟩,
  -- WRP_HTR_CFG
  ⟨0xA0008, 0x200, 24, 0x4, 1, some 12, .fast, .head,
   [⟨7, 0, .g, 0x50, none, false⟩,
    ⟨15, 8, .g, 0x40, none, false⟩,
    ⟨23, 16, .g, 0x28, none, false⟩,
    ⟨27, 24, .g, 0x4, some (1, 15), false⟩]⟩,
  -- WRP_PRECOMP
  ⟨0xA000C, 0x200, 24, 0x4, 1, some 12, .fast, .head,
   [⟨3, 0, .g, 0x4, none, false⟩,
    ⟨7, 4, .g, 0x2, none, false⟩]⟩,
  -- WRP_STATUS
  ⟨0xA0010, 0x200, 24, 0x4, 1, none, .fast, .head,
   [⟨0, 0, .w1c, 0x0, none, false⟩,
    ⟨1, 1, .w1c, 0x0, none, false⟩,
    ⟨2, 2, .w1c, 0x0, none, false⟩,
    ⟨3, 3, .w1c, 0x0, none, false⟩,
    ⟨4, 4, .w1c, 0x0, none, false⟩,
    ⟨5, 5, .w1c, 0x0, none, false⟩,
    ⟨6, 6, .w1c, 0x0, none, false⟩,
    ⟨7, 7, .w1c, 0x0, none, false⟩,
    ⟨8, 8, .w1c, 0x0, none, false⟩,
    ⟨9, 9, .w1c, 0x0, none, false⟩,
    ⟨10, 10, .w1c, 0x0, none, false⟩,
    ⟨11, 11, .ro, 0x0, none, false⟩,
    ⟨12, 12, .ro, 0x0, none, false⟩,
    ⟨13, 13, .ro, 0x0, none, false⟩,
    ⟨14, 14, .ro, 0x0, none, false⟩,
    ⟨15, 15, .ro, 0x0, none, false⟩]⟩,
  -- WRP_EVT_CNT
  ⟨0xA0014, 0x200, 24, 0x4, 1, none, .fast, .head,
   [⟨7, 0, .rc, 0x0, none, false⟩,
    ⟨15, 8, .rc, 0x0, none, false⟩,
    ⟨23, 16, .rc, 0x0, none, false⟩,
    ⟨31, 24, .rc, 0x0, none, false⟩]⟩,
  -- WRP_PA_CMD
  ⟨0xA0018, 0x200, 24, 0x4, 1, none, .fast, .head,
   [⟨7, 0, .rw, 0x0, none, false⟩,
    ⟨23, 8, .rw, 0x0, none, false⟩,
    ⟨24, 24, .rw, 0x0, none, false⟩,
    ⟨25, 25, .rw, 0x0, none, false⟩,
    ⟨31, 31, .w1s, 0x0, none, false⟩]⟩,
  -- WRP_PA_RESP
  ⟨0xA001C, 0x200, 24, 0x4, 1, none, .fast, .head,
   [⟨15, 0, .ro, 0x0, none, false⟩,
    ⟨16, 16, .w1c, 0x0, none, false⟩,
    ⟨17, 17, .w1c, 0x0, none, false⟩,
    ⟨18, 18, .w1c, 0x0, none, false⟩]⟩]

/-- Registers of block SEQ, part 0 (R152). -/
def seqRegs0 : List RegDesc := [
  -- SEQ_CTRL
  ⟨0xB0000, 0x100, 4, 0x4, 1, some 13, .fast, .act,
   [⟨0, 0, .g, 0x0, none, false⟩,
    ⟨1, 1, .g, 0x1, none, false⟩,
    ⟨2, 2, .w1s, 0x0, none, false⟩]⟩,
  -- SEQ_STATUS
  ⟨0xB0004, 0x100, 4, 0x4, 1, none, .fast, .act,
   [⟨0, 0, .w1c, 0x0, none, false⟩,
    ⟨1, 1, .w1c, 0x0, none, false⟩,
    ⟨2, 2, .w1c, 0x0, none, false⟩,
    ⟨3, 3, .w1c, 0x0, none, false⟩,
    ⟨4, 4, .w1c, 0x0, none, false⟩,
    ⟨5, 5, .w1c, 0x0, none, false⟩,
    ⟨6, 6, .w1c, 0x0, none, false⟩,
    ⟨7, 7, .w1c, 0x0, none, false⟩,
    ⟨8, 8, .ro, 0x0, none, false⟩,
    ⟨9, 9, .ro, 0x0, none, false⟩]⟩,
  -- SEQ_INT_EN
  ⟨0xB0008, 0x100, 4, 0x4, 1, none, .fast, .act,
   [⟨7, 0, .rw, 0x0, none, false⟩]⟩,
  -- SEQ_PC
  ⟨0xB000C, 0x100, 4, 0x4, 1, none, .fast, .act,
   [⟨13, 0, .ro, 0x0, none, false⟩]⟩,
  -- SEQ_ENTRY
  ⟨0xB0010, 0x100, 4, 0x4, 1, some 13, .fast, .act,
   [⟨13, 0, .g, 0x10, some (0, 12287), false⟩]⟩,
  -- SEQ_HOOK_BUDGET
  ⟨0xB0014, 0x100, 4, 0x4, 1, some 13, .fast, .act,
   [⟨8, 0, .g, 0xA0, some (0, 468), false⟩]⟩,
  -- SEQ_SIGNAL
  ⟨0xB0018, 0x100, 4, 0x4, 1, none, .fast, .act,
   [⟨7, 0, .rc, 0x0, none, false⟩,
    ⟨15, 8, .rc, 0x0, none, false⟩]⟩,
  -- SEQ_WINDOW
  ⟨0xB001C, 0x100, 4, 0x4, 1, none, .fast, .act,
   [⟨8, 0, .ro, 0x0, none, false⟩,
    ⟨24, 16, .rwh, 0x0, none, false⟩]⟩,
  -- SEQ_V
  ⟨0xB0020, 0x100, 4, 0x4, 8, none, .fast, .act,
   [⟨31, 0, .ro, 0x0, none, false⟩]⟩,
  -- SEQ_LC_SP
  ⟨0xB0040, 0x100, 4, 0x4, 1, none, .fast, .act,
   [⟨15, 0, .ro, 0x0, none, false⟩,
    ⟨18, 16, .ro, 0x0, none, false⟩]⟩,
  -- SEQ_EVT_CNT
  ⟨0xB0044, 0x100, 4, 0x4, 1, none, .fast, .act,
   [⟨7, 0, .rc, 0x0, none, false⟩,
    ⟨15, 8, .rc, 0x0, none, false⟩,
    ⟨23, 16, .rc, 0x0, none, false⟩,
    ⟨31, 24, .rc, 0x0, none, false⟩]⟩,
  -- SEQ_FORMAT
  ⟨0xB0048, 0x100, 4, 0x4, 1, some 13, .fast, .act,
   [⟨5, 0, .g, 0x19, some (15, 50), false⟩,
    ⟨11, 6, .g, 0xF, some (10, 50), false⟩,
    ⟨18, 12, .g, 0xC, some (4, 64), false⟩,
    ⟨30, 19, .g, 0x780, some (500, 4000), false⟩]⟩]

/-- Registers of block SEQ, part 1 (R152). -/
def seqRegs1 : List RegDesc := [
  -- SEQ_ENDS
  ⟨0xB004C, 0x100, 4, 0x4, 1, none, .fast, .act,
   [⟨15, 0, .ro, 0x0, none, false⟩]⟩,
  -- SEQ_LOCK
  ⟨0xBF000, 0x0, 1, 0x4, 1, none, .fast, .always,
   [⟨0, 0, .ro, 0x0, none, false⟩]⟩,
  -- SEQ_LOAD_STAT
  ⟨0xBF004, 0x0, 1, 0x4, 1, none, .fast, .always,
   [⟨7, 0, .ro, 0x0, none, false⟩,
    ⟨15, 8, .ro, 0x0, none, false⟩,
    ⟨16, 16, .ro, 0x0, none, false⟩,
    ⟨17, 17, .ro, 0x0, none, false⟩]⟩,
  -- SEQ_STORE_ADDR
  ⟨0xBF008, 0x0, 1, 0x4, 1, none, .fast, .always,
   [⟨13, 0, .rw, 0x0, none, false⟩,
    ⟨16, 16, .rw, 0x0, none, false⟩,
    ⟨17, 17, .rw, 0x0, none, false⟩]⟩,
  -- SEQ_STORE_DATA
  ⟨0xBF00C, 0x4, 4, 0x4, 1, none, .fast, .always,
   [⟨31, 0, .ro, 0x0, none, false⟩]⟩,
  -- SEQ_STORE_ERR
  ⟨0xBF01C, 0x0, 1, 0x4, 1, none, .fast, .always,
   [⟨15, 0, .rc, 0x0, none, false⟩,
    ⟨31, 16, .rc, 0x0, none, false⟩]⟩,
  -- SEQ_PATCH_LEVEL
  ⟨0xBF020, 0x0, 1, 0x4, 1, none, .fast, .always,
   [⟨15, 0, .ro, 0x0, none, false⟩,
    ⟨31, 16, .ro, 0x0, none, false⟩]⟩,
  -- SEQ_CUST_ID
  ⟨0xBF024, 0x0, 1, 0x4, 1, none, .fast, .always,
   [⟨31, 0, .ro, 0x0, none, false⟩]⟩,
  -- SEQ_GSTATUS
  ⟨0xBF028, 0x0, 1, 0x4, 1, none, .fast, .always,
   [⟨0, 0, .w1c, 0x0, none, false⟩,
    ⟨1, 1, .w1c, 0x0, none, false⟩]⟩,
  -- SEQ_GINT_EN
  ⟨0xBF02C, 0x0, 1, 0x4, 1, none, .fast, .always,
   [⟨1, 0, .rw, 0x0, none, false⟩]⟩,
  -- SEQ_FLUSH
  ⟨0xBF030, 0x0, 1, 0x4, 1, none, .fast, .always,
   [⟨3, 0, .w1s, 0x0, none, false⟩]⟩,
  -- SEQ_BASE_VER
  ⟨0xBF034, 0x0, 1, 0x4, 1, none, .fast, .always,
   [⟨31, 0, .ro, 0x0, none, false⟩]⟩]

/-- Registers of block SEQ, part 2 (R152). -/
def seqRegs2 : List RegDesc := [
  -- SEQ_HOOK_MAP
  ⟨0xBF038, 0x0, 1, 0x4, 1, none, .fast, .always,
   [⟨7, 0, .ro, 0x0, none, false⟩]⟩,
  -- SEQ_PRESENT
  ⟨0xBF03C, 0x0, 1, 0x4, 1, none, .fast, .always,
   [⟨3, 0, .ro, 0x0, none, false⟩]⟩]

/-- Registers of block SRV, part 0 (R169). -/
def srvRegs0 : List RegDesc := [
  -- SRV_CFG
  ⟨0xC0000, 0x40, 24, 0x4, 1, some 14, .fast, .head,
   [⟨0, 0, .g, 0x0, none, false⟩,
    ⟨1, 1, .g, 0x0, none, false⟩,
    ⟨2, 2, .g, 0x1, none, false⟩,
    ⟨3, 3, .g, 0x1, none, false⟩,
    ⟨19, 4, .g, 0x4000, some (8192, 24575), false⟩]⟩,
  -- SRV_STATUS
  ⟨0xC0004, 0x40, 24, 0x4, 1, none, .fast, .head,
   [⟨0, 0, .w1c, 0x0, none, false⟩,
    ⟨1, 1, .w1c, 0x0, none, false⟩,
    ⟨2, 2, .w1c, 0x0, none, false⟩,
    ⟨3, 3, .w1c, 0x0, none, false⟩,
    ⟨4, 4, .w1c, 0x0, none, false⟩,
    ⟨5, 5, .w1c, 0x0, none, false⟩,
    ⟨6, 6, .w1c, 0x0, none, false⟩,
    ⟨7, 7, .w1c, 0x0, none, false⟩,
    ⟨8, 8, .w1c, 0x0, none, false⟩,
    ⟨11, 9, .ro, 0x0, none, false⟩,
    ⟨14, 12, .ro, 0x0, none, false⟩,
    ⟨15, 15, .ro, 0x0, none, false⟩]⟩,
  -- SRV_PE
  ⟨0xC0008, 0x40, 24, 0x4, 1, none, .fast, .head,
   [⟨31, 0, .ro, 0x0, none, false⟩]⟩,
  -- SRV_ID
  ⟨0xC000C, 0x40, 24, 0x4, 1, none, .fast, .head,
   [⟨23, 0, .ro, 0x0, none, false⟩,
    ⟨28, 24, .ro, 0x0, none, false⟩]⟩,
  -- SRV_SKEW
  ⟨0xC0010, 0x40, 24, 0x4, 1, none, .fast, .head,
   [⟨15, 0, .rwh, 0x0, none, false⟩]⟩,
  -- SRV_CNT
  ⟨0xC0014, 0x40, 24, 0x4, 1, none, .fast, .head,
   [⟨7, 0, .rc, 0x0, none, false⟩,
    ⟨15, 8, .rc, 0x0, none, false⟩,
    ⟨23, 16, .rc, 0x0, none, false⟩,
    ⟨31, 24, .rc, 0x0, none, false⟩]⟩,
  -- SRV_CTRL
  ⟨0xCF000, 0x0, 1, 0x4, 1, some 14, .fast, .always,
   [⟨0, 0, .g, 0x1, none, false⟩]⟩,
  -- SRV_SAM_PAT
  ⟨0xCF004, 0x0, 1, 0x4, 1, some 14, .fast, .always,
   [⟨15, 0, .g, 0xE9B, none, false⟩]⟩,
  -- SRV_WIN_CFG
  ⟨0xCF008, 0x0, 1, 0x4, 1, some 14, .fast, .always,
   [⟨5, 0, .g, 0x8, some (2, 63), false⟩,
    ⟨7, 6, .g, 0x1, none, false⟩,
    ⟨20, 8, .g, 0x10, some (1, 8191), false⟩]⟩,
  -- SRV_LOSS_CFG
  ⟨0xCF00C, 0x0, 1, 0x4, 1, some 14, .fast, .always,
   [⟨3, 0, .g, 0x4, some (1, 15), false⟩,
    ⟨7, 4, .g, 0x8, some (2, 15), false⟩]⟩,
  -- SRV_AMP_CFG
  ⟨0xCF010, 0x0, 1, 0x4, 1, some 14, .fast, .always,
   [⟨15, 0, .g, 0x100, some (1, 65535), false⟩]⟩,
  -- SRV_BT_CFG
  ⟨0xCF014, 0x0, 1, 0x4, 1, some 14, .fast, .always,
   [⟨3, 0, .g, 0x3, some (1, 8), false⟩,
    ⟨7, 4, .g, 0x7, some (4, 12), false⟩,
    ⟨11, 8, .g, 0x6, some (2, 10), false⟩]⟩]

/-- Registers of block SRV, part 1 (R169). -/
def srvRegs1 : List RegDesc := [
  -- SRV_TREF
  ⟨0xCF018, 0x0, 1, 0x4, 1, none, .fast, .always,
   [⟨4, 0, .ro, 0x0, none, false⟩,
    ⟨5, 5, .ro, 0x0, none, false⟩]⟩,
  -- SRV_BELL_LO
  ⟨0xCF01C, 0x0, 1, 0x4, 1, none, .fast, .always,
   [⟨31, 0, .ro, 0x0, none, false⟩]⟩,
  -- SRV_BELL_HI
  ⟨0xCF020, 0x0, 1, 0x4, 1, none, .fast, .always,
   [⟨31, 0, .ro, 0x0, none, false⟩]⟩,
  -- SRV_PERIOD
  ⟨0xCF024, 0x0, 1, 0x4, 1, none, .fast, .always,
   [⟨23, 0, .ro, 0x0, none, false⟩]⟩,
  -- SRV_WEDGE
  ⟨0xCF028, 0x0, 1, 0x4, 1, none, .fast, .always,
   [⟨9, 0, .ro, 0x0, none, false⟩,
    ⟨10, 10, .ro, 0x0, none, false⟩]⟩,
  -- SRV_GSTATUS
  ⟨0xCF02C, 0x0, 1, 0x4, 1, none, .fast, .always,
   [⟨0, 0, .w1c, 0x0, none, false⟩,
    ⟨1, 1, .w1c, 0x0, none, false⟩,
    ⟨2, 2, .w1c, 0x0, none, false⟩]⟩,
  -- SRV_INT_EN
  ⟨0xCF030, 0x0, 1, 0x4, 1, none, .fast, .always,
   [⟨2, 0, .rw, 0x0, none, false⟩]⟩,
  -- SRV_LOADED
  ⟨0xCF034, 0x0, 1, 0x4, 1, none, .fast, .always,
   [⟨23, 0, .ro, 0x0, none, false⟩]⟩,
  -- SRV_LOST
  ⟨0xCF038, 0x0, 1, 0x4, 1, none, .fast, .always,
   [⟨23, 0, .ro, 0x0, none, false⟩]⟩,
  -- SRV_PRESENT
  ⟨0xCF03C, 0x0, 1, 0x4, 1, none, .fast, .always,
   [⟨23, 0, .ro, 0x0, none, false⟩]⟩]

/-- Registers of block CTL, part 0 (R192). -/
def ctlRegs0 : List RegDesc := [
  -- CTL_CFG
  ⟨0xD0000, 0x40, 29, 0x4, 1, some 15, .fast, .loop,
   [⟨3, 0, .g, 0x0, none, false⟩,
    ⟨7, 4, .g, 0xF, none, false⟩,
    ⟨11, 8, .g, 0x0, some (0, 8), false⟩,
    ⟨12, 12, .g, 0x0, none, false⟩,
    ⟨13, 13, .g, 0x0, none, false⟩,
    ⟨14, 14, .g, 0x1, none, false⟩,
    ⟨15, 15, .g, 0x1, none, false⟩,
    ⟨25, 16, .g, 0x300, some (64, 1023), false⟩]⟩,
  -- CTL_CMD
  ⟨0xD0004, 0x40, 29, 0x4, 1, none, .fast, .loop,
   [⟨0, 0, .w1s, 0x0, none, false⟩,
    ⟨1, 1, .w1s, 0x0, none, false⟩,
    ⟨2, 2, .w1s, 0x0, none, false⟩]⟩,
  -- CTL_STATUS
  ⟨0xD0008, 0x40, 29, 0x4, 1, none, .fast, .loop,
   [⟨0, 0, .w1c, 0x0, none, false⟩,
    ⟨1, 1, .w1c, 0x0, none, false⟩,
    ⟨2, 2, .w1c, 0x0, none, false⟩,
    ⟨3, 3, .w1c, 0x0, none, false⟩,
    ⟨4, 4, .w1c, 0x0, none, false⟩,
    ⟨5, 5, .w1c, 0x0, none, false⟩,
    ⟨6, 6, .w1c, 0x0, none, false⟩,
    ⟨7, 7, .w1c, 0x0, none, false⟩,
    ⟨8, 8, .w1c, 0x0, none, false⟩,
    ⟨10, 9, .ro, 0x0, none, false⟩,
    ⟨13, 11, .ro, 0x7, none, false⟩,
    ⟨14, 14, .ro, 0x0, none, false⟩,
    ⟨15, 15, .ro, 0x0, none, false⟩]⟩,
  -- CTL_OSC_CFG
  ⟨0xD000C, 0x40, 29, 0x4, 1, some 15, .fast, .loop,
   [⟨3, 0, .g, 0x6, some (2, 12), false⟩,
    ⟨11, 4, .g, 0x20, some (1, 255), false⟩]⟩,
  -- CTL_OSC_THRESH
  ⟨0xD0010, 0x40, 29, 0x4, 1, some 15, .fast, .loop,
   [⟨31, 0, .g, 0x0, none, false⟩]⟩,
  -- CTL_OUT
  ⟨0xD0014, 0x40, 29, 0x4, 1, none, .fast, .loop,
   [⟨31, 0, .ro, 0x0, none, false⟩]⟩,
  -- CTL_ERR
  ⟨0xD0018, 0x40, 29, 0x4, 1, none, .fast, .loop,
   [⟨31, 0, .ro, 0x0, none, false⟩]⟩,
  -- CTL_ENERGY
  ⟨0xD001C, 0x40, 29, 0x4, 1, none, .fast, .loop,
   [⟨31, 0, .ro, 0x0, none, false⟩]⟩,
  -- CTL_CENTRE
  ⟨0xD0020, 0x40, 29, 0x4, 1, none, .fast, .loop,
   [⟨15, 0, .rwh, 0x0, none, false⟩]⟩,
  -- CTL_XDISP
  ⟨0xD0024, 0x40, 29, 0x4, 1, none, .fast, .loop,
   [⟨31, 0, .ro, 0x0, none, false⟩]⟩,
  -- CTL_CNT
  ⟨0xD0028, 0x40, 29, 0x4, 1, none, .fast, .loop,
   [⟨7, 0, .rc, 0x0, none, false⟩,
    ⟨15, 8, .rc, 0x0, none, false⟩,
    ⟨23, 16, .rc, 0x0, none, false⟩,
    ⟨31, 24, .rc, 0x0, none, false⟩]⟩,
  -- CTL_CTRL
  ⟨0xDF000, 0x0, 1, 0x4, 1, some 15, .fast, .always,
   [⟨0, 0, .g, 0x1, none, false⟩]⟩]

/-- Registers of block CTL, part 1 (R192). -/
def ctlRegs1 : List RegDesc := [
  -- CTL_GSTATUS
  ⟨0xDF004, 0x0, 1, 0x4, 1, none, .fast, .always,
   [⟨0, 0, .w1c, 0x0, none, false⟩,
    ⟨1, 1, .w1c, 0x0, none, false⟩,
    ⟨2, 2, .w1c, 0x0, none, false⟩,
    ⟨3, 3, .w1c, 0x0, none, false⟩,
    ⟨4, 4, .w1c, 0x0, none, false⟩,
    ⟨5, 5, .w1c, 0x0, none, false⟩,
    ⟨6, 6, .w1c, 0x0, none, false⟩]⟩,
  -- CTL_INT_EN
  ⟨0xDF008, 0x0, 1, 0x4, 1, none, .fast, .always,
   [⟨6, 0, .rw, 0x0, none, false⟩]⟩,
  -- CTL_LANE_STAT
  ⟨0xDF00C, 0x0, 1, 0x4, 1, none, .fast, .always,
   [⟨0, 0, .ro, 0x1, none, false⟩,
    ⟨1, 1, .ro, 0x1, none, false⟩,
    ⟨2, 2, .ro, 0x0, none, false⟩,
    ⟨3, 3, .ro, 0x0, none, false⟩]⟩,
  -- CTL_LANE_CNT
  ⟨0xDF010, 0x0, 1, 0x4, 1, none, .fast, .always,
   [⟨7, 0, .rc, 0x0, none, false⟩,
    ⟨15, 8, .rc, 0x0, none, false⟩,
    ⟨23, 16, .rc, 0x0, none, false⟩,
    ⟨31, 24, .rc, 0x0, none, false⟩]⟩,
  -- CTL_COEF_ADDR
  ⟨0xDF014, 0x0, 1, 0x4, 1, none, .fast, .always,
   [⟨6, 0, .rwh, 0x0, some (0, 95), false⟩,
    ⟨11, 7, .rw, 0x0, some (0, 16), false⟩,
    ⟨16, 12, .rw, 0x0, some (0, 28), false⟩,
    ⟨17, 17, .rw, 0x1, none, false⟩]⟩,
  -- CTL_COEF_LO
  ⟨0xDF018, 0x0, 1, 0x4, 1, none, .fast, .always,
   [⟨31, 0, .rw, 0x0, none, false⟩]⟩,
  -- CTL_COEF_HI
  ⟨0xDF01C, 0x0, 1, 0x4, 1, none, .fast, .always,
   [⟨4, 0, .rw, 0x0, none, false⟩]⟩,
  -- CTL_SETTLE_CFG
  ⟨0xDF020, 0x0, 1, 0x4, 1, some 15, .fast, .always,
   [⟨15, 0, .g, 0x100, none, false⟩,
    ⟨19, 16, .g, 0x8, some (1, 15), false⟩,
    ⟨29, 20, .g, 0x200, none, false⟩]⟩,
  -- CTL_HO_CFG
  ⟨0xDF024, 0x0, 1, 0x4, 1, some 15, .fast, .always,
   [⟨3, 0, .g, 0x4, none, false⟩,
    ⟨7, 4, .g, 0x8, none, false⟩,
    ⟨17, 8, .g, 0x100, some (1, 1023), false⟩]⟩,
  -- CTL_SLOT_STAT
  ⟨0xDF028, 0x0, 1, 0x4, 1, none, .fast, .always,
   [⟨10, 0, .ro, 0x0, none, false⟩,
    ⟨26, 16, .rwh, 0x0, none, false⟩]⟩,
  -- PROF_TARGET
  ⟨0xDF040, 0x10, 5, 0x4, 1, none, .fast, .prof,
   [⟨23, 0, .rw, 0x0, none, false⟩]⟩,
  -- PROF_CMD
  ⟨0xDF044, 0x10, 5, 0x4, 1, none, .fast, .prof,
   [⟨0, 0, .w1s, 0x0, none, false⟩,
    ⟨1, 1, .w1s, 0x0, none, false⟩]⟩]

/-- Registers of block CTL, part 2 (R192). -/
def ctlRegs2 : List RegDesc := [
  -- PROF_STAT
  ⟨0xDF048, 0x10, 5, 0x4, 1, none, .fast, .prof,
   [⟨0, 0, .ro, 0x0, none, false⟩,
    ⟨1, 1, .ro, 0x0, none, false⟩,
    ⟨31, 16, .ro, 0x0, none, false⟩]⟩,
  -- PROF_POS
  ⟨0xDF04C, 0x10, 5, 0x4, 1, none, .fast, .prof,
   [⟨23, 0, .ro, 0x0, none, false⟩]⟩]

/-- Registers of block MOT, part 0 (R225). -/
def motRegs0 : List RegDesc := [
  -- MOT_VCM_CFG
  ⟨0xE0000, 0x40, 4, 0x4, 1, some 16, .slow, .act,
   [⟨11, 0, .g, 0x5DC, some (100, 4000), false⟩,
    ⟨12, 12, .rwh, 0x0, none, false⟩,
    ⟨13, 13, .g, 0x1, none, false⟩,
    ⟨23, 14, .g, 0x320, some (1, 1023), false⟩,
    ⟨27, 24, .g, 0x4, some (0, 12), false⟩]⟩,
  -- MOT_VCM_MOVE
  ⟨0xE0004, 0x40, 4, 0x4, 1, some 16, .slow, .act,
   [⟨7, 0, .g, 0x28, some (1, 255), false⟩,
    ⟨15, 8, .g, 0x1E, some (1, 255), false⟩,
    ⟨23, 16, .g, 0x32, some (10, 200), false⟩,
    ⟨31, 24, .g, 0x78, some (1, 255), false⟩]⟩,
  -- MOT_VCM_TEST
  ⟨0xE0008, 0x40, 4, 0x4, 1, some 16, .slow, .act,
   [⟨9, 0, .g, 0x96, some (1, 1023), false⟩,
    ⟨17, 10, .g, 0x14, none, false⟩]⟩,
  -- MOT_CMD
  ⟨0xE000C, 0x40, 4, 0x4, 1, none, .slow, .act,
   [⟨0, 0, .w1s, 0x0, none, false⟩,
    ⟨1, 1, .w1s, 0x0, none, false⟩,
    ⟨2, 2, .w1s, 0x0, none, false⟩]⟩,
  -- MOT_ASTATUS
  ⟨0xE0010, 0x40, 4, 0x4, 1, none, .slow, .act,
   [⟨2, 0, .ro, 0x0, none, false⟩,
    ⟨3, 3, .ro, 0x0, none, false⟩,
    ⟨4, 4, .w1c, 0x0, none, false⟩,
    ⟨5, 5, .w1c, 0x0, none, false⟩,
    ⟨6, 6, .w1c, 0x0, none, false⟩,
    ⟨7, 7, .w1c, 0x0, none, false⟩]⟩,
  -- MOT_MEAS
  ⟨0xE0014, 0x40, 4, 0x4, 1, none, .slow, .act,
   [⟨15, 0, .ro, 0x0, none, false⟩,
    ⟨31, 16, .ro, 0x0, none, false⟩]⟩,
  -- MOT_CTRL
  ⟨0xEF000, 0x0, 1, 0x4, 1, some 16, .slow, .always,
   [⟨0, 0, .g, 0x0, none, false⟩]⟩,
  -- MOT_SP_CMD
  ⟨0xEF004, 0x0, 1, 0x4, 1, none, .slow, .always,
   [⟨0, 0, .w1s, 0x0, none, false⟩,
    ⟨1, 1, .w1s, 0x0, none, false⟩]⟩,
  -- MOT_SP_STAT
  ⟨0xEF008, 0x0, 1, 0x4, 1, none, .slow, .always,
   [⟨3, 0, .ro, 0x0, none, false⟩,
    ⟨5, 4, .ro, 0x0, none, false⟩,
    ⟨6, 6, .ro, 0x0, none, false⟩,
    ⟨8, 7, .ro, 0x0, none, false⟩,
    ⟨9, 9, .ro, 0x0, none, false⟩,
    ⟨10, 10, .ro, 0x0, none, false⟩]⟩,
  -- MOT_SPEED
  ⟨0xEF00C, 0x0, 1, 0x4, 1, none, .slow, .always,
   [⟨15, 0, .ro, 0x0, none, false⟩,
    ⟨16, 16, .ro, 0x0, none, false⟩]⟩,
  -- MOT_SP_CFG
  ⟨0xEF010, 0x0, 1, 0x4, 1, some 16, .slow, .always,
   [⟨3, 0, .g, 0x4, some (1, 12), false⟩,
    ⟨4, 4, .rwh, 0x0, none, false⟩,
    ⟨11, 5, .g, 0xA, none, false⟩,
    ⟨18, 12, .g, 0x6, none, false⟩,
    ⟨25, 19, .g, 0x5A, none, false⟩,
    ⟨31, 26, .g, 0x3C, none, false⟩]⟩,
  -- MOT_START_CFG
  ⟨0xEF014, 0x0, 1, 0x4, 1, some 16, .slow, .always,
   [⟨7, 0, .g, 0x32, some (1, 255), false⟩,
    ⟨15, 8, .g, 0x64, some (1, 255), false⟩,
    ⟨23, 16, .g, 0x18, some (1, 255), false⟩,
    ⟨31, 24, .g, 0x24, some (1, 255), false⟩]⟩]

/-- Registers of block MOT, part 1 (R225). -/
def motRegs1 : List RegDesc := [
  -- MOT_SENSE_CFG
  ⟨0xEF018, 0x0, 1, 0x4, 1, some 16, .slow, .always,
   [⟨7, 0, .g, 0x14, none, false⟩,
    ⟨15, 8, .g, 0x96, none, false⟩,
    ⟨23, 16, .g, 0x64, none, false⟩,
    ⟨31, 24, .g, 0x20, none, false⟩]⟩,
  -- MOT_FOC_CFG
  ⟨0xEF01C, 0x0, 1, 0x4, 1, some 16, .slow, .always,
   [⟨11, 0, .g, 0x258, none, false⟩,
    ⟨23, 12, .g, 0x28, none, false⟩,
    ⟨31, 24, .g, 0x32, none, false⟩]⟩,
  -- MOT_PWM_CFG
  ⟨0xEF020, 0x0, 1, 0x4, 1, some 16, .slow, .always,
   [⟨11, 0, .g, 0x320, some (400, 4000), false⟩,
    ⟨19, 12, .g, 0xA, some (2, 50), false⟩,
    ⟨31, 20, .g, 0x64, some (20, 300), false⟩]⟩,
  -- MOT_BUS_CFG
  ⟨0xEF024, 0x0, 1, 0x4, 1, some 16, .slow, .always,
   [⟨7, 0, .g, 0x84, none, false⟩,
    ⟨15, 8, .g, 0x80, none, false⟩,
    ⟨23, 16, .g, 0x96, none, false⟩,
    ⟨31, 24, .g, 0x6C, none, false⟩]⟩,
  -- MOT_RT_CFG
  ⟨0xEF028, 0x0, 1, 0x4, 1, some 16, .slow, .always,
   [⟨7, 0, .g, 0x6E, none, false⟩,
    ⟨15, 8, .g, 0x1E, none, false⟩,
    ⟨23, 16, .g, 0x64, none, false⟩,
    ⟨31, 24, .g, 0x50, none, false⟩]⟩,
  -- MOT_ENC_OFS
  ⟨0xEF02C, 0x0, 1, 0x4, 1, none, .slow, .always,
   [⟨15, 0, .rwh, 0x0, none, false⟩,
    ⟨16, 16, .rwh, 0x0, none, false⟩]⟩,
  -- MOT_BUS
  ⟨0xEF030, 0x0, 1, 0x4, 1, none, .slow, .always,
   [⟨15, 0, .ro, 0x0, none, false⟩]⟩,
  -- MOT_STATUS
  ⟨0xEF034, 0x0, 1, 0x4, 1, none, .slow, .always,
   [⟨0, 0, .w1c, 0x0, none, false⟩,
    ⟨1, 1, .w1c, 0x0, none, false⟩,
    ⟨2, 2, .w1c, 0x0, none, false⟩,
    ⟨3, 3, .w1c, 0x0, none, false⟩,
    ⟨4, 4, .w1c, 0x0, none, false⟩,
    ⟨5, 5, .w1c, 0x0, none, false⟩,
    ⟨6, 6, .w1c, 0x0, none, false⟩,
    ⟨7, 7, .w1c, 0x0, none, false⟩,
    ⟨8, 8, .w1c, 0x0, none, false⟩,
    ⟨9, 9, .w1c, 0x0, none, false⟩,
    ⟨10, 10, .w1c, 0x0, none, false⟩,
    ⟨11, 11, .w1c, 0x0, none, false⟩,
    ⟨12, 12, .w1c, 0x0, none, false⟩,
    ⟨13, 13, .w1c, 0x0, none, false⟩,
    ⟨14, 14, .w1c, 0x0, none, false⟩,
    ⟨15, 15, .w1c, 0x0, none, false⟩,
    ⟨16, 16, .w1c, 0x0, none, false⟩]⟩,
  -- MOT_INT_EN
  ⟨0xEF038, 0x0, 1, 0x4, 1, none, .slow, .always,
   [⟨16, 0, .rw, 0x0, none, false⟩]⟩,
  -- MOT_PWM_STAT
  ⟨0xEF03C, 0x0, 1, 0x4, 1, none, .slow, .always,
   [⟨0, 0, .ro, 0x0, none, false⟩,
    ⟨1, 1, .ro, 0x0, none, false⟩,
    ⟨2, 2, .ro, 0x0, none, false⟩,
    ⟨3, 3, .w1c, 0x0, none, false⟩]⟩,
  -- MOT_MA_FAULT
  ⟨0xEF040, 0x0, 1, 0x4, 1, none, .slow, .always,
   [⟨23, 0, .ro, 0x0, none, false⟩]⟩,
  -- MOT_RET_WORD
  ⟨0xEF044, 0x4, 4, 0x4, 1, none, .slow, .always,
   [⟨31, 0, .ro, 0x0, none, false⟩]⟩]

/-- Registers of block MOT, part 2 (R225, R502). -/
def motRegs2 : List RegDesc := [
  -- MOT_BEAT
  ⟨0xEF054, 0x0, 1, 0x4, 1, none, .slow, .always,
   [⟨0, 0, .ro, 0x0, none, false⟩,
    ⟨2, 1, .ro, 0x0, none, false⟩]⟩,
  -- MOT_CNT
  ⟨0xEF058, 0x0, 1, 0x4, 1, none, .slow, .always,
   [⟨7, 0, .rc, 0x0, none, false⟩,
    ⟨15, 8, .rc, 0x0, none, false⟩,
    ⟨23, 16, .rc, 0x0, none, false⟩,
    ⟨31, 24, .rc, 0x0, none, false⟩]⟩,
  -- MOT_RT_STAT
  ⟨0xEF05C, 0x0, 1, 0x4, 1, none, .slow, .always,
   [⟨15, 0, .ro, 0x0, none, false⟩]⟩,
  -- MOT_AUX_CFG
  ⟨0xEF060, 0x0, 1, 0x4, 1, some 16, .slow, .always,
   [⟨15, 0, .g, 0x0, none, false⟩]⟩,
  -- MOT_ADC
  ⟨0xEF080, 0x4, 16, 0x4, 1, none, .slow, .always,
   [⟨11, 0, .ro, 0x0, none, false⟩,
    ⟨31, 16, .ro, 0x0, none, false⟩]⟩]

/-- Registers of block QFB, part 0 (R427). -/
def qfbRegs0 : List RegDesc := [
  -- QFB_PCTRL
  ⟨0xF0000, 0x100, 4, 0x4, 1, some 24, .fast, .port,
   [⟨0, 0, .g, 0x1, none, false⟩,
    ⟨2, 1, .g, 0x0, some (0, 2), false⟩,
    ⟨3, 3, .w1s, 0x0, none, false⟩]⟩,
  -- QFB_PSTATUS
  ⟨0xF0004, 0x100, 4, 0x4, 1, none, .fast, .port,
   [⟨2, 0, .ro, 0x1, none, false⟩,
    ⟨5, 3, .ro, 0x0, none, false⟩,
    ⟨6, 6, .w1c, 0x0, none, false⟩,
    ⟨7, 7, .w1c, 0x0, none, false⟩,
    ⟨8, 8, .w1c, 0x0, none, false⟩,
    ⟨9, 9, .w1c, 0x0, none, false⟩,
    ⟨10, 10, .w1c, 0x0, none, false⟩,
    ⟨11, 11, .w1c, 0x0, none, false⟩,
    ⟨31, 16, .ro, 0x0, none, false⟩]⟩,
  -- QFB_CREDIT_CFG
  ⟨0xF0008, 0x100, 4, 0x4, 1, some 24, .fast, .port,
   [⟨7, 0, .g, 0x30, none, false⟩,
    ⟨15, 8, .g, 0x30, none, false⟩,
    ⟨23, 16, .g, 0x30, none, false⟩]⟩,
  -- QFB_PEER
  ⟨0xF000C, 0x100, 4, 0x4, 1, none, .fast, .port,
   [⟨9, 0, .ro, 0x0, none, false⟩,
    ⟨15, 15, .ro, 0x0, none, false⟩]⟩,
  -- QFB_PEER_SN_LO
  ⟨0xF0010, 0x100, 4, 0x4, 1, none, .fast, .port,
   [⟨31, 0, .ro, 0x0, none, false⟩]⟩,
  -- QFB_PEER_SN_HI
  ⟨0xF0014, 0x100, 4, 0x4, 1, none, .fast, .port,
   [⟨31, 0, .ro, 0x0, none, false⟩]⟩,
  -- QFB_PINT_EN
  ⟨0xF0018, 0x100, 4, 0x4, 1, none, .fast, .port,
   [⟨11, 6, .rw, 0x0, none, false⟩]⟩,
  -- QFB_PCNT
  ⟨0xF001C, 0x100, 4, 0x4, 1, none, .fast, .port,
   [⟨15, 0, .rc, 0x0, none, false⟩,
    ⟨23, 16, .rc, 0x0, none, false⟩,
    ⟨31, 24, .rc, 0x0, none, false⟩]⟩,
  -- QFB_CFG
  ⟨0xFF000, 0x0, 1, 0x4, 1, some 24, .fast, .always,
   [⟨9, 0, .g, 0x0, none, false⟩,
    ⟨10, 10, .g, 0x0, none, false⟩,
    ⟨11, 11, .g, 0x1, none, false⟩]⟩,
  -- QFB_TIMER_CFG
  ⟨0xFF004, 0x0, 1, 0x4, 1, some 24, .fast, .always,
   [⟨5, 0, .g, 0xA, some (5, 50), false⟩,
    ⟨15, 6, .g, 0x64, some (50, 1000), false⟩,
    ⟨22, 16, .g, 0x14, some (10, 100), false⟩,
    ⟨29, 23, .g, 0x32, some (10, 100), false⟩]⟩,
  -- QFB_XFER_CFG
  ⟨0xFF008, 0x0, 1, 0x4, 1, some 24, .fast, .always,
   [⟨2, 0, .g, 0x3, none, false⟩,
    ⟨9, 3, .g, 0x1, some (1, 100), false⟩,
    ⟨16, 10, .g, 0xA, some (1, 100), false⟩,
    ⟨24, 17, .g, 0x3C, some (1, 255), false⟩]⟩,
  -- QFB_ARB_CFG
  ⟨0xFF00C, 0x0, 1, 0x4, 1, some 24, .fast, .always,
   [⟨3, 0, .g, 0x4, some (1, 15), false⟩,
    ⟨7, 4, .g, 0x2, some (1, 15), false⟩,
    ⟨11, 8, .g, 0x1, some (1, 15), false⟩]⟩]

/-- Registers of block QFB, part 1 (R427). -/
def qfbRegs1 : List RegDesc := [
  -- QFB_ADDR
  ⟨0xFF010, 0x0, 1, 0x4, 1, none, .fast, .always,
   [⟨9, 0, .ro, 0x0, none, false⟩,
    ⟨14, 14, .ro, 0x0, none, false⟩,
    ⟨15, 15, .ro, 0x0, none, false⟩]⟩,
  -- QFB_STATUS
  ⟨0xFF014, 0x0, 1, 0x4, 1, none, .fast, .always,
   [⟨0, 0, .w1c, 0x0, none, false⟩,
    ⟨1, 1, .w1c, 0x0, none, false⟩,
    ⟨2, 2, .w1c, 0x0, none, false⟩,
    ⟨3, 3, .w1c, 0x0, none, false⟩,
    ⟨4, 4, .w1c, 0x0, none, false⟩,
    ⟨5, 5, .w1c, 0x0, none, false⟩]⟩,
  -- QFB_INT_EN
  ⟨0xFF018, 0x0, 1, 0x4, 1, none, .fast, .always,
   [⟨5, 0, .rw, 0x0, none, false⟩]⟩,
  -- QFB_REACH
  ⟨0xFF01C, 0x0, 1, 0x4, 1, none, .fast, .always,
   [⟨10, 0, .ro, 0x0, none, false⟩]⟩,
  -- QFB_ROUTE_ADDR
  ⟨0xFF020, 0x0, 1, 0x4, 1, none, .fast, .always,
   [⟨9, 0, .rw, 0x0, none, false⟩]⟩,
  -- QFB_ROUTE_DATA
  ⟨0xFF024, 0x0, 1, 0x4, 1, none, .fast, .always,
   [⟨7, 0, .ro, 0x0, none, false⟩,
    ⟨11, 8, .ro, 0x0, none, false⟩,
    ⟨12, 12, .ro, 0x0, none, false⟩,
    ⟨14, 13, .ro, 0x0, none, false⟩]⟩,
  -- QFB_XFER_STAT
  ⟨0xFF028, 0x0, 1, 0x4, 1, none, .fast, .always,
   [⟨7, 0, .ro, 0x0, none, false⟩,
    ⟨15, 8, .ro, 0x0, none, false⟩,
    ⟨24, 16, .ro, 0x0, none, false⟩]⟩,
  -- QFB_CNT
  ⟨0xFF02C, 0x0, 1, 0x4, 1, none, .fast, .always,
   [⟨15, 0, .rc, 0x0, none, false⟩,
    ⟨31, 16, .rc, 0x0, none, false⟩]⟩,
  -- QFB_ALLOW
  ⟨0xFF040, 0x4, 32, 0x4, 1, some 24, .fast, .always,
   [⟨31, 0, .g, 0x0, none, false⟩]⟩,
  -- QFB_WIN_BASE
  ⟨0xFF100, 0x8, 16, 0x4, 1, some 24, .fast, .always,
   [⟨23, 0, .g, 0x0, none, false⟩]⟩,
  -- QFB_WIN_CFG
  ⟨0xFF104, 0x8, 16, 0x4, 1, some 24, .fast, .always,
   [⟨13, 0, .g, 0x0, none, false⟩,
    ⟨23, 14, .g, 0x0, none, false⟩,
    ⟨24, 24, .g, 0x0, none, false⟩,
    ⟨25, 25, .g, 0x0, none, false⟩]⟩]

/-- Registers of block WCH, part 0 (R482). -/
def wchRegs0 : List RegDesc := [
  -- WCH_CTRL
  ⟨0x100000, 0x0, 1, 0x4, 1, some 25, .local, .always,
   [⟨0, 0, .g, 0x0, none, false⟩,
    ⟨17, 1, .g, 0x2710, some (1, 100000), false⟩]⟩,
  -- WCH_FN_CTRL
  ⟨0x100004, 0x0, 1, 0x4, 1, none, .local, .always,
   [⟨0, 0, .rwh, 0x0, none, false⟩,
    ⟨1, 1, .rw, 0x0, none, false⟩,
    ⟨2, 2, .ro, 0x0, none, false⟩,
    ⟨3, 3, .ro, 0x0, none, false⟩]⟩,
  -- WCH_STATUS
  ⟨0x100008, 0x0, 1, 0x4, 1, none, .local, .always,
   [⟨4, 0, .w1c, 0x0, none, false⟩,
    ⟨5, 5, .w1c, 0x0, none, false⟩,
    ⟨6, 6, .w1c, 0x0, none, false⟩,
    ⟨7, 7, .w1c, 0x0, none, false⟩,
    ⟨8, 8, .w1c, 0x0, none, false⟩,
    ⟨9, 9, .w1c, 0x0, none, false⟩,
    ⟨10, 10, .w1c, 0x0, none, false⟩,
    ⟨11, 11, .w1c, 0x0, none, false⟩,
    ⟨12, 12, .w1c, 0x0, none, false⟩]⟩,
  -- WCH_INT_EN
  ⟨0x10000C, 0x0, 1, 0x4, 1, none, .local, .always,
   [⟨12, 0, .rw, 0x0, none, false⟩]⟩,
  -- WCH_SRC_SEL
  ⟨0x100010, 0x0, 1, 0x4, 1, none, .local, .always,
   [⟨8, 0, .rw, 0x0, none, false⟩]⟩,
  -- WCH_SRC_CFG
  ⟨0x100014, 0x0, 1, 0x4, 1, some 25, .local, .always,
   [⟨2, 0, .g, 0x0, none, false⟩,
    ⟨3, 3, .g, 0x0, none, false⟩,
    ⟨4, 4, .g, 0x0, none, false⟩,
    ⟨5, 5, .g, 0x1, none, false⟩,
    ⟨6, 6, .g, 0x0, none, false⟩]⟩,
  -- WCH_SRC_STAT
  ⟨0x100018, 0x0, 1, 0x4, 1, none, .local, .always,
   [⟨2, 0, .ro, 0x0, none, false⟩,
    ⟨3, 3, .ro, 0x0, none, false⟩,
    ⟨4, 4, .ro, 0x0, none, false⟩]⟩,
  -- WCH_SRC_CNT
  ⟨0x10001C, 0x0, 1, 0x4, 1, none, .local, .always,
   [⟨15, 0, .rc, 0x0, none, false⟩]⟩,
  -- WCH_RAISED
  ⟨0x100040, 0x4, 16, 0x4, 1, none, .local, .always,
   [⟨31, 0, .w1c, 0x0, none, false⟩]⟩,
  -- WCH_CLASS_CNT
  ⟨0x100080, 0x4, 5, 0x4, 1, none, .local, .always,
   [⟨31, 0, .rc, 0x0, none, false⟩]⟩,
  -- WCH_INST
  ⟨0x1000A0, 0x0, 1, 0x4, 1, none, .local, .always,
   [⟨0, 0, .ro, 0x1, none, false⟩,
    ⟨1, 1, .ro, 0x1, none, false⟩,
    ⟨2, 2, .ro, 0x0, none, false⟩,
    ⟨3, 3, .ro, 0x0, none, false⟩]⟩,
  -- WCH_ANCHOR
  ⟨0x1000A4, 0x0, 1, 0x4, 1, none, .local, .always,
   [⟨8, 0, .ro, 0x0, none, false⟩,
    ⟨11, 9, .ro, 0x0, none, false⟩,
    ⟨12, 12, .ro, 0x0, none, false⟩]⟩]

/-- Registers of block WCH, part 1 (R482). -/
def wchRegs1 : List RegDesc := [
  -- WCH_WLOG_LO
  ⟨0x1000B0, 0x0, 1, 0x4, 1, none, .local, .always,
   [⟨31, 0, .ro, 0x0, none, false⟩]⟩,
  -- WCH_WLOG_HI
  ⟨0x1000B4, 0x0, 1, 0x4, 1, none, .local, .always,
   [⟨31, 0, .ro, 0x0, none, false⟩]⟩,
  -- WCH_WLOG_STAT
  ⟨0x1000B8, 0x0, 1, 0x4, 1, none, .local, .always,
   [⟨6, 0, .ro, 0x0, none, false⟩,
    ⟨13, 7, .ro, 0x0, none, false⟩,
    ⟨14, 14, .ro, 0x0, none, false⟩]⟩,
  -- WCH_WLOG_CNT
  ⟨0x1000BC, 0x0, 1, 0x4, 1, none, .local, .always,
   [⟨15, 0, .rc, 0x0, none, false⟩,
    ⟨23, 16, .rc, 0x0, none, false⟩,
    ⟨31, 24, .rc, 0x0, none, false⟩]⟩,
  -- WCH_FEC_INFO
  ⟨0x100100, 0x20, 5, 0x4, 1, none, .local, .always,
   [⟨8, 0, .ro, 0x0, none, false⟩,
    ⟨12, 9, .ro, 0x0, none, false⟩,
    ⟨20, 13, .ro, 0x0, none, false⟩,
    ⟨23, 21, .ro, 0x0, none, false⟩,
    ⟨24, 24, .ro, 0x0, none, false⟩]⟩,
  -- WCH_FEC_ADDR_LO
  ⟨0x100104, 0x20, 5, 0x4, 1, none, .local, .always,
   [⟨31, 0, .ro, 0x0, none, false⟩]⟩,
  -- WCH_FEC_ADDR_HI
  ⟨0x100108, 0x20, 5, 0x4, 1, none, .local, .always,
   [⟨7, 0, .ro, 0x0, none, false⟩]⟩,
  -- WCH_FEC_BELL_LO
  ⟨0x10010C, 0x20, 5, 0x4, 1, none, .local, .always,
   [⟨31, 0, .ro, 0x0, none, false⟩]⟩,
  -- WCH_FEC_BELL_HI
  ⟨0x100110, 0x20, 5, 0x4, 1, none, .local, .always,
   [⟨15, 0, .ro, 0x0, none, false⟩]⟩,
  -- WCH_FEC_FINE
  ⟨0x100114, 0x20, 5, 0x4, 1, none, .local, .always,
   [⟨16, 0, .ro, 0x0, none, false⟩]⟩,
  -- WCH_FEC_CTRL
  ⟨0x100118, 0x20, 5, 0x4, 1, none, .local, .always,
   [⟨0, 0, .w1c, 0x0, none, false⟩,
    ⟨15, 8, .ro, 0x0, none, false⟩]⟩,
  -- WCH_INJ_CMD
  ⟨0x100200, 0x0, 1, 0x4, 1, none, .local, .always,
   [⟨3, 0, .rw, 0x0, none, false⟩,
    ⟨12, 4, .rw, 0x0, none, false⟩,
    ⟨30, 30, .w1s, 0x0, none, false⟩,
    ⟨31, 31, .w1s, 0x0, none, false⟩]⟩]

/-- Registers of block WCH, part 2 (R482). -/
def wchRegs2 : List RegDesc := [
  -- WCH_INJ_ARG_LO
  ⟨0x100204, 0x0, 1, 0x4, 1, none, .local, .always,
   [⟨31, 0, .rw, 0x0, none, false⟩]⟩,
  -- WCH_INJ_ARG_HI
  ⟨0x100208, 0x0, 1, 0x4, 1, none, .local, .always,
   [⟨7, 0, .rw, 0x0, none, false⟩]⟩,
  -- WCH_INJ_TOKEN
  ⟨0x10020C, 0x0, 1, 0x4, 1, none, .local, .always,
   [⟨31, 0, .wo, 0x0, none, false⟩]⟩,
  -- WCH_INJ_STAT
  ⟨0x100210, 0x0, 1, 0x4, 1, none, .local, .always,
   [⟨0, 0, .ro, 0x0, none, false⟩,
    ⟨1, 1, .ro, 0x0, none, false⟩,
    ⟨3, 2, .ro, 0x0, none, false⟩]⟩,
  -- LOG_CTRL
  ⟨0x108000, 0x0, 1, 0x4, 1, some 25, .local, .always,
   [⟨13, 0, .g, 0x2BB4, none, false⟩,
    ⟨21, 14, .g, 0x10, some (1, 255), false⟩]⟩,
  -- LOG_STAT
  ⟨0x108004, 0x0, 1, 0x4, 1, none, .local, .always,
   [⟨14, 0, .ro, 0x0, none, false⟩,
    ⟨15, 15, .ro, 0x0, none, false⟩,
    ⟨23, 16, .ro, 0x0, none, false⟩]⟩,
  -- LOG_SEQ_LO
  ⟨0x108008, 0x0, 1, 0x4, 1, none, .local, .always,
   [⟨31, 0, .ro, 0x0, none, false⟩]⟩,
  -- LOG_SEQ_HI
  ⟨0x10800C, 0x0, 1, 0x4, 1, none, .local, .always,
   [⟨31, 0, .ro, 0x0, none, false⟩]⟩,
  -- LOG_READ_IDX
  ⟨0x108010, 0x0, 1, 0x4, 1, none, .local, .always,
   [⟨13, 0, .rw, 0x0, none, false⟩,
    ⟨19, 14, .rw, 0x0, none, false⟩]⟩,
  -- LOG_READ_DATA
  ⟨0x108014, 0x0, 1, 0x4, 1, none, .local, .always,
   [⟨31, 0, .ro, 0x0, none, false⟩]⟩,
  -- LOG_SNAP_SEL
  ⟨0x108018, 0x0, 1, 0x4, 1, none, .local, .always,
   [⟨4, 0, .rw, 0x0, some (1, 17), false⟩,
    ⟨8, 5, .rw, 0x0, none, false⟩]⟩,
  -- LOG_SNAP_DATA
  ⟨0x10801C, 0x0, 1, 0x4, 1, some 25, .local, .always,
   [⟨0, 0, .g, 0x0, none, false⟩,
    ⟨20, 2, .g, 0x0, none, false⟩]⟩]

/-- Registers of block WCH, part 3 (R482). -/
def wchRegs3 : List RegDesc := [
  -- LOG_FW_TYPE
  ⟨0x108020, 0x0, 1, 0x4, 1, none, .local, .always,
   [⟨15, 0, .rw, 0x0, some (32768, 65535), false⟩,
    ⟨31, 16, .rw, 0x0, none, false⟩]⟩,
  -- LOG_FW_DETAIL_LO
  ⟨0x108024, 0x0, 1, 0x4, 1, none, .local, .always,
   [⟨31, 0, .rw, 0x0, none, false⟩]⟩,
  -- LOG_FW_DETAIL_HI
  ⟨0x108028, 0x0, 1, 0x4, 1, none, .local, .always,
   [⟨31, 0, .rw, 0x0, none, false⟩]⟩,
  -- LOG_FW_GO
  ⟨0x10802C, 0x0, 1, 0x4, 1, none, .local, .always,
   [⟨0, 0, .w1s, 0x0, none, false⟩]⟩,
  -- LOG_CNT
  ⟨0x108030, 0x0, 1, 0x4, 1, none, .local, .always,
   [⟨15, 0, .rc, 0x0, none, false⟩,
    ⟨31, 16, .rc, 0x0, none, false⟩]⟩]

/-- Registers of block PAD, part 0 (R502, R524). -/
def padRegs0 : List RegDesc := [
  -- PAD_GPIO_CFG
  ⟨0x110000, 0x4, 16, 0x4, 1, some 1, .local, .always,
   [⟨3, 0, .g, 0x0, some (0, 6), false⟩,
    ⟨6, 4, .g, 0x0, none, false⟩,
    ⟨7, 7, .g, 0x0, none, false⟩]⟩,
  -- PAD_GPIO_IN
  ⟨0x110040, 0x0, 1, 0x4, 1, none, .local, .always,
   [⟨15, 0, .ro, 0x0, none, false⟩]⟩,
  -- PAD_GPIO_OUT
  ⟨0x110044, 0x0, 1, 0x4, 1, none, .local, .always,
   [⟨15, 0, .rw, 0x0, none, false⟩]⟩,
  -- PAD_TEMP
  ⟨0x110080, 0x0, 1, 0x4, 1, none, .local, .always,
   [⟨11, 0, .ro, 0x0, none, false⟩,
    ⟨12, 12, .ro, 0x0, none, false⟩,
    ⟨27, 16, .rwh, 0x0, none, false⟩]⟩,
  -- PAD_SUPPLY
  ⟨0x110084, 0x0, 1, 0x4, 1, none, .local, .always,
   [⟨14, 0, .w1c, 0x0, none, false⟩,
    ⟨30, 16, .w1c, 0x0, none, false⟩]⟩]

/-- The descriptors of the block whose base is `b` × 64 KiB (R501). -/
def blockRegs (b : Nat) : List RegDesc :=
  match b with
  | 0 => sysRegs0 ++ sysRegs1 ++ sysRegs2
  | 1 => bqRegs0 ++ bqRegs1 ++ bqRegs2
  | 2 => schRegs0 ++ schRegs1
  | 3 => lgtRegs0 ++ lgtRegs1
  | 4 => memRegs0 ++ memRegs1 ++ memRegs2
  | 5 => bccRegs0 ++ bccRegs1 ++ bccRegs2
  | 6 => pckRegs0 ++ pckRegs1
  | 8 => rchRegs0 ++ rchRegs1 ++ rchRegs2 ++ rchRegs3
  | 9 => decRegs0 ++ decRegs1
  | 10 => wrpRegs0
  | 11 => seqRegs0 ++ seqRegs1 ++ seqRegs2
  | 12 => srvRegs0 ++ srvRegs1
  | 13 => ctlRegs0 ++ ctlRegs1 ++ ctlRegs2
  | 14 => motRegs0 ++ motRegs1 ++ motRegs2
  | 15 => qfbRegs0 ++ qfbRegs1
  | 16 => wchRegs0 ++ wchRegs1 ++ wchRegs2 ++ wchRegs3
  | 17 => padRegs0
  | _ => []

end Sys2Proof.Machine
end

