-- ==== Sys2Proof/Machine/RegMap.lean ====
section
/-! DEFINITION. Lookup in the register map: which register lies at an offset, what an offset holds at reset (R525),
the fault sources with their default classes (R459), and the windows onto indexed memories (R487). -/

namespace Sys2Proof.Machine

/-- The instance of descriptor `d` that lies at offset `a`, if one does. -/
def regInstance (d : RegDesc) (a : Nat) : Option Nat :=
  if a < d.base then none
  else
    let off := a - d.base
    let i := if d.stride = 0 then 0 else off / d.stride
    let r := if d.stride = 0 then off else off % d.stride
    if d.count ≤ i then none
    else if r % d.sub = 0 ∧ r / d.sub < d.subCount then some i else none

/-- The first descriptor of a list that has an instance at offset `a`. -/
def findReg : List RegDesc → Nat → Option (RegDesc × Nat)
  | [], _ => none
  | d :: ds, a =>
    match regInstance d a with
    | some i => some (d, i)
    | none => findReg ds a

/-- The register at BAR0 offset `a` below 0x0020_0000, with its instance number. -/
def regDesc? (a : Nat) : Option (RegDesc × Nat) := findReg (blockRegs (a / 65536)) a

/-- The bits of a list of fields at reset, keeping only those satisfying `p`. -/
def fieldsReset (p : FieldDesc → Bool) : List FieldDesc → Nat
  | [] => 0
  | f :: fs => (if p f then f.reset * 2 ^ f.lo else 0) + fieldsReset p fs

/-- The mask of the fields satisfying `p`. -/
def fieldsMask (p : FieldDesc → Bool) : List FieldDesc → Nat
  | [] => 0
  | f :: fs => (if p f then (2 ^ (f.hi + 1 - f.lo) - 1) * 2 ^ f.lo else 0) + fieldsMask p fs

/-- Whether a field is glued. -/
def FieldDesc.isG (f : FieldDesc) : Bool := f.acc == .g

/-- The implemented fault sources (R459): first, last, default class. CTL_OSC_n has the class of its stage, listed
here as its lowest (R187); DDR_CHANNEL_n is listed as UNIT (R269 makes it DEVICE with one channel). -/
def faultSources : List (Nat × Nat × Nat) :=
  [(0x000, 0x01B, 2), (0x020, 0x03B, 0), (0x040, 0x063, 2), (0x068, 0x08B, 2), (0x090, 0x090, 0), (0x091, 0x091, 1),
   (0x092, 0x092, 3), (0x093, 0x093, 0), (0x0A0, 0x0B7, 1), (0x0B8, 0x0BB, 2), (0x0C0, 0x0C3, 0), (0x0C4, 0x0C7, 0),
   (0x0C8, 0x0C8, 0), (0x0C9, 0x0CC, 2), (0x0D0, 0x0E7, 2), (0x0F0, 0x0F0, 3), (0x0F1, 0x0F1, 2), (0x0F2, 0x0F2, 0),
   (0x0F3, 0x0F3, 0), (0x0F4, 0x0F4, 0), (0x0F5, 0x0F5, 4)] ++
  [(0x100, 0x11C, 0), (0x120, 0x137, 0), (0x140, 0x140, 3), (0x141, 0x141, 2), (0x142, 0x142, 4), (0x143, 0x143, 3),
   (0x144, 0x144, 3), (0x145, 0x145, 2), (0x146, 0x146, 4), (0x147, 0x147, 3), (0x148, 0x148, 0), (0x14C, 0x14F, 2),
   (0x150, 0x167, 2), (0x170, 0x170, 0), (0x171, 0x171, 1), (0x172, 0x172, 2), (0x173, 0x173, 4), (0x174, 0x174, 3),
   (0x178, 0x178, 0), (0x179, 0x17A, 0), (0x17B, 0x17B, 1), (0x17C, 0x17D, 2), (0x17E, 0x17F, 2), (0x180, 0x180, 1)] ++
  [(0x190, 0x1CF, 2), (0x1D0, 0x1D1, 2), (0x1D2, 0x1D2, 3), (0x1D8, 0x1D8, 2), (0x1E0, 0x1E3, 0), (0x1E4, 0x1E7, 2),
   (0x1E8, 0x1E8, 3), (0x1F0, 0x1F0, 2), (0x1F1, 0x1F1, 4), (0x1F2, 0x1F2, 3), (0x1F8, 0x1F9, 2), (0x1FA, 0x1FA, 4),
   (0x1FB, 0x1FB, 0), (0x1FC, 0x1FC, 3), (0x1FD, 0x1FD, 0)]

/-- The default class of a source in a list of ranges. -/
def classIn : List (Nat × Nat × Nat) → Nat → Option Nat
  | [], _ => none
  | (a, b, c) :: l, n => if a ≤ n ∧ n ≤ b then some c else classIn l n

/-- The default class of fault source `n`; none when it is not implemented (R459). -/
def defaultClass? (n : Nat) : Option Nat := classIn faultSources n

/-- Where the register file keeps the entries of the indexed windows of R487 (live values; the pending value of an
entry lies `winPend` above). WCH_SRC_CFG by source. -/
def srcCfgAt (n : Nat) : Nat := 0x10000000 + 4 * n
/-- RCH_RATE_DATA by RCH_RATE_ADDR. -/
def rateAt (n : Nat) : Nat := 0x11000000 + 4 * n
/-- LOG_SNAP_DATA by type and entry. -/
def snapAt (typ entry : Nat) : Nat := 0x12000000 + 4 * (16 * typ + entry)
/-- Distance from a window entry's live value to its own holding copy (R487). -/
def winPend : Nat := 0x100000
/-- Marks that an entry's holding copy is pending (R487): a word of 1 at this distance. -/
def winMark : Nat := 0x200000
/-- Distance from a register to its holding copy (R486). -/
def holdOff : Nat := 0x200000

/-- WCH_SRC_CFG of a source at reset (R482): its default class; INT and FAULT for UNIT and above; LOG set. -/
def srcCfgReset (n : Nat) : Nat :=
  match defaultClass? n with
  | none => 0
  | some c => c + (if 2 ≤ c then 8 + 16 else 0) + 32

/-- What offset `a` of the register file holds at reset (R525): the printed reset values; the G fields of them in a
holding copy (R486); the windows of R487. Of the rings only the admin ring is DISABLED (R347). -/
def resetVal (a : Nat) : Word :=
  if a = Reg.BQ_STATE 128 then 1
  else if a < holdOff then
    match regDesc? a with
    | some (d, _) => BitVec.ofNat 32 (fieldsReset (fun _ => true) d.fields)
    | none => 0
  else if a < 2 * holdOff then
    match regDesc? (a - holdOff) with
    | some (d, _) => BitVec.ofNat 32 (fieldsReset FieldDesc.isG d.fields)
    | none => 0
  else if 0x10000000 ≤ a ∧ a < 0x10000000 + 2 * winPend then
    BitVec.ofNat 32 (srcCfgReset ((a - 0x10000000) % winPend / 4))
  else 0

end Sys2Proof.Machine
end

