-- ==== Sys2Proof/Machine/Ops.lean ====
section
/-! DEFINITION. The named operations over registers, memories, outputs and free values that every meaning uses. -/

namespace Sys2Proof.Machine
open Reg

/-! ### The register file -/

/-- The word at offset `a` of the register file (R483). -/
def State.reg (s : State) (a : Nat) : Word := sparseGet (resetVal a) s.regs a

/-- Stores a word at offset `a` of the register file. -/
def State.setReg (s : State) (a : Nat) (w : Word) : State := { s with regs := sparseSet (resetVal a) s.regs a w }

/-- Reads a field (R7). -/
def State.rd (s : State) (f : Fld) : Nat := getF (s.reg f.addr) f.hi f.lo

/-- Writes a field, leaving the register's other bits. -/
def State.wr (s : State) (f : Fld) (x : Nat) : State := s.setReg f.addr (setF (s.reg f.addr) f.hi f.lo x)

/-- A field read as a condition: not zero. -/
def State.on (s : State) (f : Fld) : Bool := s.rd f != 0

/-- Sets a one-bit field. -/
def State.setB (s : State) (f : Fld) : State := s.wr f 1
/-- Clears a field. -/
def State.clr (s : State) (f : Fld) : State := s.wr f 0

/-- Adds to a counter field, which saturates at its greatest value. -/
def State.addC (s : State) (f : Fld) (n : Nat) : State := s.wr f (satU (f.hi + 1 - f.lo) (s.rd f + n))
/-- Increments a saturating counter field. -/
def State.inc (s : State) (f : Fld) : State := s.addC f 1
/-- Writes the greater of the field's value and `x`. -/
def State.maxF (s : State) (f : Fld) (x : Nat) : State := s.wr f (max (s.rd f) x)

/-- The holding copy of a field (R486). -/
def Fld.hold (f : Fld) : Fld := { f with addr := f.addr + holdOff }

/-- Reads a field as a two's-complement number. -/
def State.rdS (s : State) (f : Fld) : Int := sext (f.hi + 1 - f.lo) (s.rd f)
/-- Writes a field with the low bits of an integer. -/
def State.wrS (s : State) (f : Fld) (z : Int) : State := s.wr f (toBits (f.hi + 1 - f.lo) z)

/-- Writes a list of (field, value) pairs in order. -/
def State.wrs : State → List (Fld × Nat) → State
  | s, [] => s
  | s, (f, x) :: l => (s.wr f x).wrs l

/-- Applies a function of state under a condition. -/
def State.when (s : State) (c : Bool) (f : State → State) : State := if c then f s else s

/-- Applies `f` for each element of a list, in order. -/
def State.forEach {α : Type} (s : State) (l : List α) (f : α → State → State) : State :=
  l.foldl (fun t x => f x t) s

/-- A completed step. -/
abbrev Res := Host.Outcome State Fault Refusal

/-! ### Outputs and free values -/

/-- Produces an output. -/
def State.emit (s : State) (e : OutEvent) : State := { s with out := s.out ++ [e] }

/-- An interrupt to the Helm cores when the enable field bit is set (the *_INT_EN registers). -/
def State.irqIf (s : State) (en : Bool) (addr bit : Nat) : State := s.when en (fun t => t.emit (.helmIrq addr bit))

/-- Sets a status bit and interrupts when bit `en` of the enable register is set. -/
def State.raiseBit (s : State) (f : Fld) (enReg : Nat) : State :=
  (s.setB f).irqIf (bitOf (s.reg enReg).toNat f.lo) f.addr f.lo

/-- The next free value: a number that nothing constrains (log entry 2). -/
def State.freeNow (s : State) : Nat := Config.free s.freeCtr
/-- Advances the model's counter of free values. -/
def State.freeNext (s : State) : State := { s with freeCtr := s.freeCtr + 1 }

/-! ### Operating modes (R428) -/

/-- The six operating modes. -/
inductive Mode where
  | bringUp | service | degraded | rideThrough | factory | halted
deriving DecidableEq, Repr

/-- The code of a mode in SYS_MODE (R456). -/
def Mode.code : Mode → Nat
  | .bringUp => 0 | .service => 1 | .degraded => 2 | .rideThrough => 3 | .factory => 4 | .halted => 5

/-- The mode a code names. -/
def Mode.ofCode : Nat → Mode
  | 0 => .bringUp | 1 => .service | 2 => .degraded | 3 => .rideThrough | 4 => .factory | _ => .halted

/-- The mode in force. -/
def State.mode (s : State) : Mode := Mode.ofCode (s.rd SYS_MODE.MODE)

/-- FACTORY is in force. -/
def State.inFactory (s : State) : Bool := s.mode == .factory

/-- The modes in which units do work: SERVICE, DEGRADED, FACTORY. -/
def State.running (s : State) : Bool := s.mode == .service || s.mode == .degraded || s.mode == .factory

/-- The control engine and the servo demodulators are off: in RIDE-THROUGH and in HALTED (R428, R433). -/
def State.drivesOff (s : State) : Bool := s.mode == .rideThrough || s.mode == .halted

/-! ### Presence (R3, R4) -/

/-- Actuator `a` is present. -/
def State.actPresent (s : State) (a : Nat) : Bool := decide (a < 4) && bitOf s.sys.cfg.actuators a
/-- Head `h` is present: its actuator is and its position bit is set. -/
def State.headPresent (s : State) (h : Nat) : Bool :=
  decide (h < 24) && s.actPresent (h / 6) && bitOf (s.sys.cfg.headMask.getD (h / 6) 0) (h % 6)
/-- Read channel `n` is present: one per head, one spare per actuator. -/
def State.chanPresent (s : State) (n : Nat) : Bool := if n < 24 then s.headPresent n else s.actPresent (n - 24)
/-- Control loop `n` is present: coarse loops 0 to 3, trim loops 4 to 27, the spindle loop 28 (R170). -/
def State.loopPresent (s : State) (n : Nat) : Bool :=
  if n < 4 then s.actPresent n else if n < 28 then s.headPresent (n - 4) else n == 28
/-- DRAM channel `n` is present. -/
def State.dramPresent (s : State) (n : Nat) : Bool := decide (n < 2) && bitOf s.sys.cfg.dramChannels n
/-- Quay port `p` is present. -/
def State.portPresent (s : State) (p : Nat) : Bool := decide (p < 4) && bitOf s.sys.cfg.quayPorts p

/-- Whether instance `i` of a register of kind `k` is present (R4). -/
def State.present (s : State) (k : UnitKind) (i : Nat) : Bool :=
  match k with
  | .always => true
  | .chan => s.chanPresent i
  | .head => s.headPresent i
  | .act => s.actPresent i
  | .loop => s.loopPresent i
  | .prof => if i < 4 then s.actPresent i else i == 4
  | .dram => s.dramPresent i
  | .port => s.portPresent i

/-- The heads of actuator `a` that are present. -/
def State.headsOf (s : State) (a : Nat) : List Nat := ((List.range 6).map (fun p => a * 6 + p)).filter s.headPresent
/-- All present heads. -/
def State.allHeads (s : State) : List Nat := (List.range 24).filter s.headPresent
/-- All present actuators. -/
def State.allActs (s : State) : List Nat := (List.range 4).filter s.actPresent

/-! ### Fenced units -/

/-- A unit has been fenced since the start (R460). -/
def State.isFenced (s : State) (u : FUnit) : Bool := decide (u ∈ s.watch.fences)

/-! ### Time (log entry 5) -/

/-- Units of device time in one second: 0.04 ns each. -/
def unitsPerSecond : Nat := 25000000000

/-! ### The persistent record (R440) -/

/-- The newer good copy of the persistent record; with the flash absent, the record of the always-on domain (R441). -/
def SysU.persist (u : SysU) : PersistRec :=
  match u.aonRec with
  | some r => r
  | none => if u.rec0.good && (!u.rec1.good || decide (u.rec1.seq ≤ u.rec0.seq)) then u.rec0 else u.rec1

/-- Updates the persistent record: the older copy is written, with the next sequence number (R440). -/
def SysU.updPersist (u : SysU) (f : PersistRec → PersistRec) : SysU :=
  let p := u.persist
  let q := { f p with seq := p.seq + 1, good := true }
  if u.aonRec.isSome then { u with aonRec := some q }
  else if u.rec0.good && (!u.rec1.good || decide (u.rec1.seq ≤ u.rec0.seq)) then { u with rec1 := q } else { u with rec0 := q }

/-- The persistent record in force. -/
def State.persist (s : State) : PersistRec := s.sys.persist
/-- Updates the persistent record. -/
def State.updPersist (s : State) (f : PersistRec → PersistRec) : State := { s with sys := s.sys.updPersist f }

end Sys2Proof.Machine
end

