-- ==== Sys2Proof/Machine/Units.lean ====
section
/-! DEFINITION. Reading and updating one instance of each unit, the commands and sectors in hand, and the zones. -/

namespace Sys2Proof.Machine
open Reg

/-- Read channel `n`. -/
def State.chan (s : State) (n : Nat) : ChanU := s.chans.getD n ChanU.init
/-- Updates read channel `n`. -/
def State.updChan (s : State) (n : Nat) (f : ChanU → ChanU) : State := { s with chans := listModify s.chans n f }
/-- The write stream of head `h`. -/
def State.head (s : State) (h : Nat) : HeadU := s.wrp.heads.getD h HeadU.init
/-- Updates the write stream of head `h`. -/
def State.updHead (s : State) (h : Nat) (f : HeadU → HeadU) : State :=
  { s with wrp := { s.wrp with heads := listModify s.wrp.heads h f } }
/-- The preamplifier port of actuator `a`. -/
def State.port (s : State) (a : Nat) : PaPort := s.wrp.ports.getD a PaPort.init
/-- Updates the preamplifier port of actuator `a`. -/
def State.updPort (s : State) (a : Nat) (f : PaPort → PaPort) : State :=
  { s with wrp := { s.wrp with ports := listModify s.wrp.ports a f } }
/-- Sequencer engine `a`. -/
def State.seq (s : State) (a : Nat) : SeqU := s.seqs.getD a SeqU.init
/-- Updates sequencer engine `a`. -/
def State.updSeq (s : State) (a : Nat) (f : SeqU → SeqU) : State := { s with seqs := listModify s.seqs a f }
/-- The lane of head `h` as last committed. -/
def State.lane (s : State) (h : Nat) : Lane := (s.seq (h / 6)).lanes.getD (h % 6) Lane.init
/-- Updates the lane of head `h`, in the copy that a window in hand works on too (R133): what reaches a lane from outside the window stays
when the window commits. -/
def State.updLane (s : State) (h : Nat) (f : Lane → Lane) : State :=
  s.updSeq (h / 6) (fun e =>
    { e with lanes := listModify e.lanes (h % 6) f, tent := e.tent.map (fun ls => listModify ls (h % 6) f) })
/-- Decoder engine `n`. -/
def State.eng (s : State) (n : Nat) : EngU := s.dec.engines.getD n EngU.init
/-- Updates the decoder pool. -/
def State.updDec (s : State) (f : DecU → DecU) : State := { s with dec := f s.dec }
/-- Updates decoder engine `n`. -/
def State.updEng (s : State) (n : Nat) (f : EngU → EngU) : State :=
  s.updDec (fun d => { d with engines := listModify d.engines n f })
/-- Updates the write path. -/
def State.updWrp (s : State) (f : WrpU → WrpU) : State := { s with wrp := f s.wrp }
/-- Updates the Watch. -/
def State.updWatch (s : State) (f : WatchU → WatchU) : State := { s with watch := f s.watch }
/-- Updates the system unit. -/
def State.updSys (s : State) (f : SysU → SysU) : State := { s with sys := f s.sys }
/-- Updates the media state. -/
def State.updMedia (s : State) (f : MediaU → MediaU) : State := { s with media := f s.media }

/-- Updates the control engine. -/
def State.updCtl (s : State) (f : CtlU → CtlU) : State := { s with ctl := f s.ctl }

/-- Key of a coefficient word. -/
def coefKey (n set word : Nat) : Nat := n * 4096 + set * 128 + word

/-- A coefficient word as the lane in service reads it, corrected (R188). -/
def State.coefRaw (s : State) (n set word : Nat) : Nat :=
  sparseGet 0 (s.ctl.coef.getD (if s.on CTL_LANE_STAT.LANE0_OK then 0 else 1) []) (coefKey n set word)

/-- Wedge period of the bell in hand, in 1/1,024 of 0.04 ns. -/
def State.wedgePeriod (s : State) : Nat := if s.srv.period = 0 then nomPeriod s.sys.cfg else s.srv.period

/-! ### Zones -/

/-- Zone `z`. -/
def State.zone (s : State) (z : Nat) : Zone := sparseGet Zone.blank s.media.zones z
/-- Any domain is foreign (R49). -/
def State.foreignAny (s : State) : Bool := s.media.foreign.any id

/-- What a zone's checkpoint keeps (R46): a zone that a placement has made FULL is kept in the open state it had until MEDIA_WP reaches
CAPACITY. The sectors written at a FINISH and since the last filler pass are kept with it (log entry 146). -/
def Zone.checkpoint (z : Zone) : Zone :=
  let before : ZState := match z.placed.getLast? with
    | some p => if p.prev = .empty then .implicitOpen else p.prev
    | none => z.state
  { z with placed := [], wp := z.mediaWp, lastAppend := 0, state := if z.state = .full ∧ z.mediaWp < 16 * z.capacity then before else z.state }

/-- The good copy of a system area with the newer write stamp (R46); a blank one when neither is good. -/
def newestArea (p : SysArea × SysArea) : SysArea :=
  if p.1.good ∧ (!p.2.good ∨ stampNewer p.1.stamp p.2.stamp) then p.1
  else if p.2.good then p.2 else if p.1.good then p.1 else SysArea.blank

/-- The copies of the system area of domain `d`. -/
def State.areaOf (s : State) (d : Nat) : SysArea × SysArea := s.media.areas.getD d (SysArea.blank, SysArea.blank)

/-- Writes the items of the system area of domain `d` to both copies, with its logbook changed by `f` (R46): never while the media is foreign
or not ready (R50), and only beside a copy that has checked good, but at a format in FACTORY. The new copies take the stamp after the newest
(DEDUCED, log entry 146). -/
def State.writeArea (s : State) (d : Nat) (f : List LogRec → List LogRec) : State :=
  let p := s.areaOf d
  if s.foreignAny ∨ !s.media.ready.getD d false ∨ s.on SYS_MODE.MEDIA_NOT_READY then s
  else if !p.1.good ∧ !p.2.good ∧ s.mode ≠ .factory then s
  else
    let old := newestArea p
    let live := s.media.zones.filter (fun e => zoneDomain s.sys.cfg e.1 == d && e.2.entry.isSome)
    let r : SysArea := { good := true, stamp := (old.stamp + 1) % 2 ^ 32, mark := s.media.stampMark, log := f old.log,
                         primary := s.media.primary.getD d [], grown := s.media.grown.getD d [],
                         zones := live.foldl (fun l e => sparseSet Zone.blank l e.1 e.2.checkpoint) old.zones }
    s.updMedia (fun m => { m with areas := listSet m.areas d (r, r) })

/-- Writes the items of the system area of domain `d` (R46). -/
def State.saveArea (s : State) (d : Nat) : State := s.writeArea d id

/-- Updates zone `z`; its checkpoint is written at every change of state, of GENERATION and of its tier map entry (R46). -/
def State.updZone (s : State) (z : Nat) (f : Zone → Zone) : State :=
  let x := s.zone z
  let y := f x
  let t := s.updMedia (fun m => { m with zones := sparseSet Zone.blank m.zones z y })
  if x.checkpoint.state = y.checkpoint.state ∧ x.gen = y.gen ∧ x.entry = y.entry ∧ x.finished = y.finished then t
  else t.saveArea (zoneDomain s.sys.cfg z)

/-- The installed zones of domain `d`: numbers, ascending. -/
def State.zonesOf (s : State) (d : Nat) : List Nat :=
  (s.media.zones.map (fun e => e.1)).filter (fun z => zoneDomain s.sys.cfg z == d)

/-! ### Commands and sectors -/

/-- The command with tag `t`. -/
def State.cmd? (s : State) (t : Nat) : Option Cmd := s.cmds.find? (fun c => c.tag == t)
/-- Updates the command with tag `t`. -/
def State.updCmd (s : State) (t : Nat) (f : Cmd → Cmd) : State :=
  { s with cmds := s.cmds.map (fun c => if c.tag = t then f c else c) }
/-- The tag and the sector index of a token (R101). -/
def tokTag (tok : Nat) : Nat := tok % 16384
/-- The sector index of a token (R101). -/
def tokIdx (tok : Nat) : Nat := tok / 16384
/-- The sector a token names. -/
def State.sec? (s : State) (tok : Nat) : Option SecWork :=
  match s.cmd? (tokTag tok) with
  | none => none
  | some c => c.secs.find? (fun w => w.idx == tokIdx tok)
/-- Updates the sector a token names. -/
def State.updSec (s : State) (tok : Nat) (f : SecWork → SecWork) : State :=
  s.updCmd (tokTag tok) (fun c => { c with secs := c.secs.map (fun w => if w.idx = tokIdx tok then f w else w) })

/-! ### Presence of fault sources (R4, R459) -/

/-- Fault source `n` belongs to a present unit: a source of an absent unit is masked (R4). -/
def State.srcPresent (s : State) (n : Nat) : Bool :=
  if n ≤ 0x01B then s.chanPresent n
  else if n ≤ 0x03B then s.chanPresent (n - 0x020)
  else if n < 0x0A0 then true
  else if n ≤ 0x0B7 then s.headPresent (n - 0x0A0)
  else if n ≤ 0x0BB then s.actPresent (n - 0x0B8)
  else if n ≤ 0x0C3 then s.actPresent (n - 0x0C0)
  else if n ≤ 0x0C7 then s.actPresent (n - 0x0C4)
  else if n = 0x0C8 then true
  else if n ≤ 0x0CC then s.actPresent (n - 0x0C9)
  else if n ≤ 0x0E7 then s.headPresent (n - 0x0D0)
  else if n < 0x100 then true
  else if n ≤ 0x11C then s.loopPresent (n - 0x100)
  else if n ≤ 0x137 then s.headPresent (n - 0x120)
  else if n < 0x14C then true
  else if n ≤ 0x14F then s.actPresent (n - 0x14C)
  else if n ≤ 0x167 then s.headPresent (n - 0x150)
  else if n < 0x179 then true
  else if n ≤ 0x17A then s.dramPresent (n - 0x179)
  else if n = 0x17B then true
  else if n ≤ 0x17D then s.dramPresent (n - 0x17C)
  else if n ≤ 0x17F then s.dramPresent (n - 0x17E)
  else if n < 0x1E0 then true
  else if n ≤ 0x1E3 then s.portPresent (n - 0x1E0)
  else if n ≤ 0x1E7 then s.portPresent (n - 0x1E4)
  else true

/-! ### Channels serving heads (R5, R77) -/

/-- The spare of actuator `a` is substituting, and for which position. -/
def State.spareSub (s : State) (a : Nat) : Option Nat :=
  let w := (s.reg RCH_SPARE_MAP).toNat
  if bitOf w (4 * a + 3) then some (bitsOf w (4 * a + 2) (4 * a)) else none

/-- The channel that serves head `h`: the substituting spare, the working channel, or none when it is fenced (R77, R78). -/
def State.chanOfHead (s : State) (h : Nat) : Option Nat :=
  if s.spareSub (h / 6) = some (h % 6) then
    (if s.on (RCH_MAP.FENCED (24 + h / 6)) then none else some (24 + h / 6))
  else if s.on (RCH_MAP.FENCED h) then none else some h

/-- The channel is a spare attached for monitoring only (R77). RCH_n_CTRL.SHADOW has no effect beside the SHADOW command (log entry
143). -/
def State.isShadow (s : State) (n : Nat) : Bool := decide (24 ≤ n) && s.rd (RCH_MAP.ROLE n) == 2 && s.rd (RCH_MAP.POS n) != 7

/-- The spare that shadows head `h`, if one does. -/
def State.shadowOf (s : State) (h : Nat) : Option Nat :=
  if s.isShadow (24 + h / 6) && s.rd (RCH_MAP.POS (24 + h / 6)) == h % 6 then some (24 + h / 6) else none

/-- The head a channel serves: the working head, or for a spare the position it substitutes. -/
def State.headOfChan (s : State) (n : Nat) : Option Nat :=
  if n < 24 then (if s.spareSub (n / 6) = some (n % 6) then none else some n)
  else (s.spareSub (n - 24)).map (fun p => (n - 24) * 6 + p)

end Sys2Proof.Machine
end

