-- ==== Sys2Proof/Machine/HostOps.lean ====
section
/-! DEFINITION. The endpoint's configuration space as its rules use it, the request limits and the completion timeout that the
host sets (R307, R308), MSI-X messages (R311), and host memory requests (chapter 14). -/

namespace Sys2Proof.Machine
open Reg

/-- Updates the endpoint. -/
def State.updLink (s : State) (f : LinkU → LinkU) : State := { s with link := f s.link }

/-- Reset value of a configuration dword: the identity of R1, the BARs of R305, the capability headers at the offsets of R306, and an MSI-X table of
129 entries in BAR4 with its pending bits at 0x2000 (R311). Device Control has Relaxed Ordering and No Snoop enabled and a Max Read Request Size
of 512 bytes, and PMCSR reads No_Soft_Reset; these and the coding of the headers are those of the PCI Express specification (R304, R314, log
entry 29). -/
def cfgReset (ofs : Nat) : Word :=
  match ofs with
  | 0x000 => 0x24481F3C#32 | 0x004 => 0x00100000#32 | 0x008 => 0x018000B0#32
  | 0x010 => 0x4#32 | 0x018 => 0xC#32 | 0x020 => 0x4#32 | 0x034 => 0x40#32
  | 0x040 => 0x00035001#32 | 0x044 => 0x8#32
  | 0x050 => 0x00807011#32 | 0x054 => 0x4#32 | 0x058 => 0x2004#32
  | 0x070 => 0x00020010#32 | 0x078 => 0x2810#32
  | 0x100 => 0x14820001#32 | 0x148 => 0x15810003#32 | 0x158 => 0x18410019#32 | 0x184 => 0x19010025#32
  | 0x190 => 0x1C010026#32 | 0x1C0 => 0x20810027#32 | 0x208 => 0x21010018#32 | 0x210 => 0x2201001E#32 | 0x220 => 0x0001002E#32
  | _ => 0

/-- Configuration dword at an offset: the subsystem IDs are the image's (R305), the device serial number that of the fuses (R306). -/
def State.cfgDw (s : State) (ofs : Nat) : Nat :=
  match ofs with
  | 0x02C => s.sys.cfg.ssvid + 65536 * s.sys.cfg.ssid
  | 0x14C => s.sys.fuses.serial % 2 ^ 32
  | 0x150 => s.sys.fuses.serial / 2 ^ 32
  | _ => (sparseGet (cfgReset ofs) s.link.cfgSpace ofs).toNat

/-- Bus Master is enabled. -/
def State.busMaster (s : State) : Bool := bitOf (s.cfgDw 0x004) 2
/-- The Max Payload Size in force: the host's value, at most 512 bytes (R307). -/
def State.mps (s : State) : Nat := min 512 (128 * 2 ^ bitsOf (s.cfgDw 0x078) 7 5)
/-- The Max Read Request Size, 128 to 4,096 bytes (R304, R307). -/
def State.mrrs (s : State) : Nat := min 4096 (128 * 2 ^ bitsOf (s.cfgDw 0x078) 14 12)
/-- Enable Relaxed Ordering is set. -/
def State.roEnabled (s : State) : Bool := bitOf (s.cfgDw 0x078) 4
/-- Enable No Snoop is set. -/
def State.nsEnabled (s : State) : Bool := bitOf (s.cfgDw 0x078) 11
/-- Completion Timeout Disable is set (R308). -/
def State.ctoDisabled (s : State) : Bool := bitOf (s.cfgDw 0x098) 4
/-- The completion timeout in microseconds; a value that is not advertised acts as the default (R308). -/
def State.ctoUs (s : State) : Nat :=
  match bitsOf (s.cfgDw 0x098) 3 0 with
  | 1 => 100 | 2 => 10000 | 5 => 55000 | 6 => 210000 | _ => 40000

/-- Host memory can be reached: the data link is up, the function is not being reset and is in D0. -/
def State.hostUp (s : State) : Bool := s.on BQ_LINK_STAT.UP && !s.link.resetting && !s.link.d3hot

/-- The initiator can reach the register space: the Helm cores always, the host once it is open and the link can carry requests
(R309, R312, R314), but not in RIDE-THROUGH (R428). -/
def State.canReach (s : State) (w : Initiator) : Bool :=
  match w with
  | .helm => true
  | .host => s.sys.regOpen && s.hostUp && s.mode != .rideThrough

/-- The initiator can give commands through registers: nothing can in HALTED (R428). -/
def State.mayWrite (s : State) (w : Initiator) : Bool := s.canReach w && s.mode != .halted

/-- A write to host memory, split at the Max Payload Size and at host 4 KiB boundaries (R307); `fuel` bounds the requests. -/
def State.hostPut (s : State) (ro ns : Bool) : Nat → Nat → List Byte → State
  | 0, _, _ => s
  | fuel + 1, addr, bs =>
    if bs.isEmpty then s
    else
      let n := min (min bs.length s.mps) (4096 - addr % 4096)
      (s.emit (.hostWrite addr (bs.take n) (ro && s.roEnabled) (ns && s.nsEnabled))).hostPut ro ns fuel (addr + n) (bs.drop n)

/-- A write of the K4's own that carries no Relaxed Ordering: results, publication words, structures (R307). -/
def State.hostStore (s : State) (ns : Bool) (addr : Nat) (bs : List Byte) : State := s.hostPut false ns (bs.length + 1) addr bs

/-- Sends the MSI-X message of a vector, or leaves it pending while the vector or the function is masked (R311). -/
def State.msixSend (s : State) (v : Nat) : State :=
  let ctl := s.cfgDw 0x050
  if !bitOf ctl 31 || !s.on BQ_LINK_STAT.UP then s
  else if bitOf ctl 30 || (s.link.msix.getD v Msix.init).masked then
    s.updLink (fun l => { l with msix := listModify l.msix v (fun m => { m with pending := true }) })
  else s.emit (.msix v)

/-- Messages left pending whose masks have gone are sent. -/
def State.msixFlush (s : State) : State :=
  let due := (List.range 129).filter (fun v => (s.link.msix.getD v Msix.init).pending && !(s.link.msix.getD v Msix.init).masked)
  if bitOf (s.cfgDw 0x050) 31 && !bitOf (s.cfgDw 0x050) 30 then
    s.forEach due (fun v t => (t.updLink (fun l => { l with msix := listModify l.msix v (fun m => { m with pending := false }) })).emit (.msix v))
  else s

end Sys2Proof.Machine
end

