-- ==== Sys2Proof/Machine/Views.lean ====
section
/-! DEFINITION. What a register read returns: the register file, seen through the presence rule R4, the windows onto
indexed memories (R487) and the heads of FIFOs. -/

namespace Sys2Proof.Machine
open Reg

/-- The 64-bit word of the watch log that the consumer sees: the oldest of the read bank, or the idle word (R464). -/
def WlogWord.value (w : WlogWord) : Nat :=
  w.source % 512 + 2 ^ 9 * (w.cls % 8) + 2 ^ 12 * (w.kind % 16) + 2 ^ 16 * (w.detail % 65536) + 2 ^ 32 * (w.bell % 2 ^ 32)

/-- The idle word 0x0000_0000_FFFF_0000 (R464). -/
def wlogIdle : Nat := 0x00000000FFFF0000

/-- A word of the watch log as read: with an uncorrectable error it reads with KIND 3 (R463). -/
def WlogWord.readValue (w : WlogWord) : Nat := if 2 ≤ w.flips then { w with kind := 3 }.value else w.value

/-- Bit errors of the watch log word that a read meets: its own, or those of an injection armed at its slot (R463, R471). -/
def State.wlogFlips (s : State) (w : WlogWord) : Nat :=
  match s.watch.armed with
  | some j => if j.site = 7 ∧ j.arg = s.watch.rPos then ((List.range 9).filter (bitOf j.mask)).length else w.flips
  | none => w.flips

/-- The word of the watch log that a read gives (R463, R464). -/
def State.wlogRead (s : State) : Nat :=
  match s.watch.rBank with
  | [] => wlogIdle
  | w :: _ => { w with flips := s.wlogFlips w }.readValue

/-- The initiator is the consumer of the watch log (R467). -/
def State.consumes (s : State) (w : Initiator) : Bool := s.rd WCH_CTRL.CONSUMER == (match w with | .helm => 0 | .host => 1)

/-- What a read of the register at live offset `a` by an initiator meets: to a party that is not the consumer of the watch log its read
bank is empty (R467). -/
def State.seenBy (s : State) (w : Initiator) (a : Nat) : State :=
  if !s.consumes w && (a == WCH_WLOG_LO || a == WCH_WLOG_HI) then s.updWatch (fun u => { u with rBank := [] }) else s

/-- A bit mask of the numbers below `n` that satisfy `p`. -/
def maskOf (n : Nat) (p : Nat → Bool) : Nat := ((List.range n).filter p).foldl (fun m i => m + 2 ^ i) 0

/-- The level of pin `n`: what its function drives, and what the board gives an input, a released open-drain output, or SMBALERT_N, whose
cause the manual does not give (R502). -/
def State.pinLevel (s : State) (n : Nat) : Bool :=
  let board := Config.pinLevel s.sys.time s.freeCtr n
  let driven (x : Bool) : Bool := if x && s.on (PAD_GPIO_CFG.OPEN_DRAIN n) then board else x
  match s.rd (PAD_GPIO_CFG.FUNC n) with
  | 1 => driven (bitOf (s.rd PAD_GPIO_OUT.OUT) n)
  | 2 | 4 => driven (s.sys.pinOut.getD n false)
  | 6 => driven (!s.on WCH_FN_CTRL.LEVEL)
  | _ => board

/-- The 64 bytes of a logbook record before CHECK (R474). -/
def LogRec.body (r : LogRec) : List Byte :=
  let snapHere := !r.snap.isEmpty
  leBytes 8 r.seq ++ leBytes 2 r.typ ++ leBytes 2 r.source ++ leBytes 1 r.cls ++
  leBytes 1 (b2n r.cal + 2 * b2n r.injected + 4 * b2n snapHere + 8 * b2n (r.suppressed != 0)) ++
  leBytes 1 r.snap.length ++ leBytes 1 0 ++ leBytes 8 r.opSec ++ leBytes 4 r.power ++ leBytes 4 r.warm ++
  leBytes 6 r.bell ++ leBytes 6 r.calMs ++ leBytes 8 r.detail ++ leBytes 4 r.snapSeq ++ leBytes 2 r.suppressed ++
  leBytes 2 0

/-- The record with its CHECK, 64 bytes (R474). -/
def LogRec.bytes (r : LogRec) : List Byte := r.body ++ leBytes 4 (crc32c r.body).toNat

/-- The 128-byte snapshot block (R474). -/
def LogRec.snapBytes (r : LogRec) : List Byte :=
  let b := r.snap.flatMap (fun p => leBytes 4 p.1 ++ leBytes 4 p.2.toNat)
  b ++ List.replicate (128 - b.length) 0

/-- The exported form (R474): the record and its block, which reads 0 with SNAP clear when 2,048 blocks have been
written after it. -/
def LogRec.exported (r : LogRec) (snapSeqNow : Nat) : List Byte :=
  if !r.snap.isEmpty && decide (snapSeqNow - r.snapSeq ≤ 2048) then r.bytes ++ r.snapBytes
  else { r with snap := [] }.bytes ++ List.replicate 128 0

/-- The 128 bits of a collector record (R101). -/
def CRec.value (r : CRec) : Nat :=
  r.token % 2 ^ 32 + 2 ^ 32 * (r.lba % 2 ^ 40) + 2 ^ 72 * (r.source % 64) + 2 ^ 78 * (r.outcome % 16) +
  2 ^ 82 * (r.iter % 64) + 2 ^ 88 * (r.step % 4) + 2 ^ 90 * (r.reread % 8) + 2 ^ 93 * (r.head % 32) +
  2 ^ 98 * (r.dqm % 65536) + 2 ^ 114 * (r.sw % 8192) + 2 ^ 127 * b2n r.aligned

/-- A word of the Twiari stores with its bit errors left out: the corrected word (R131). -/
def State.storeWord (s : State) (nano : Bool) (copy addr : Nat) : Nat :=
  let st := if nano then s.stores.nano else s.stores.micro
  sparseGet 0 (st.getD copy []) addr

/-- SEQ_STORE_DATA: the addressed word, 0 outside the open region unless in FACTORY (R150). -/
def State.storeView (s : State) : Nat :=
  let a := s.rd SEQ_STORE_ADDR.ADDR
  let nano := s.on SEQ_STORE_ADDR.STORE
  let isOpen := if nano then decide (768 ≤ a) && decide (a < 1024) else decide (12288 ≤ a)
  if isOpen || s.inFactory then s.storeWord nano (s.rd SEQ_STORE_ADDR.COPY) a else 0

/-- The owner of a resource as SYS_OWN_DATA gives it: owner code and OWNED (R498). -/
def State.ownerOf (s : State) (cls inst : Nat) : Nat :=
  let pinWith (f : Nat) : Option Nat := (List.range 16).find? (fun n => s.rd (PAD_GPIO_CFG.FUNC n) == f)
  let enc (o : Option Nat) : Nat := match o with | some x => x + 256 | none => 0
  match cls with
  | 0 => if inst = 0 then enc (pinWith 2) else if inst = 1 then enc (pinWith 3) else if inst = 2 then enc (pinWith 6) else 0
  | 1 =>
    if inst < 8 then
      (if s.rd (SYS_TMR_CFG.USE inst) = 1 then 0x20 + 256
       else if s.rd (SYS_TMR_CFG.USE inst) = 2 then
         enc ((List.range 16).find? (fun n =>
           (s.rd (PAD_GPIO_CFG.FUNC n) == 4 || s.rd (PAD_GPIO_CFG.FUNC n) == 5) && s.rd (PAD_GPIO_CFG.TIMER n) == inst))
       else 0)
    else 0
  | 2 =>
    if bitOf (s.rd MOT_AUX_CFG.AUX) inst && decide (inst < 16) then 0x48 + 256
    else if inst < 8 then 0x40 + 256
    else if inst < 16 then (if s.actPresent (inst % 4) then 0x41 + inst % 4 + 256 else 0)
    else 0
  | _ =>
    if inst < 16 then
      let b := bitsOf (s.reg (LGT_PACE_OWN (inst / 4))).toNat (8 * (inst % 4) + 7) (8 * (inst % 4))
      (if 128 ≤ b then b % 64 + 256 else 0)
    else 0

/-- What a read of the register at BAR0 offset `a` returns (R4, R483, R487). -/
def State.view (s : State) (a : Nat) : Word :=
  match regDesc? a with
  | none => 0
  | some (d, i) =>
    if !s.present d.kind i then 0
    else if a = WCH_SRC_CFG then s.reg (srcCfgAt (s.rd WCH_SRC_SEL.SRC))
    else if a = WCH_SRC_STAT then
      (match defaultClass? (s.rd WCH_SRC_SEL.SRC) with
       | none => 0
       | some c => BitVec.ofNat 32 (c + 8 + 16 * b2n (s.srcPresent (s.rd WCH_SRC_SEL.SRC))))
    else if a = WCH_SRC_CNT then BitVec.ofNat 32 (sparseGet 0 s.watch.srcCnt (s.rd WCH_SRC_SEL.SRC))
    else if a = RCH_RATE_DATA then s.reg (rateAt (s.rd RCH_RATE_ADDR.SEL))
    else if a = LOG_SNAP_DATA then s.reg (snapAt (s.rd LOG_SNAP_SEL.TYPE) (s.rd LOG_SNAP_SEL.ENTRY))
    else if a = SYS_OWN_DATA then BitVec.ofNat 32 (s.ownerOf (s.rd SYS_OWN_SEL.CLASS) (s.rd SYS_OWN_SEL.INSTANCE))
    else if a = SYS_MEAS_DATA then
      BitVec.ofNat 32 (s.sys.meas.getD (s.rd SYS_MEAS_SEL.INDEX - 1) 0 / 2 ^ (32 * s.rd SYS_MEAS_SEL.WORD))
    else if a = SYS_OP_SEC_LO then BitVec.ofNat 32 s.sys.opSeconds
    else if a = SYS_OP_SEC_HI then BitVec.ofNat 32 (s.sys.opSeconds / 2 ^ 32)
    else if a = SRV_BELL_LO then BitVec.ofNat 32 s.bell
    else if a = SRV_BELL_HI then BitVec.ofNat 32 (s.bell / 2 ^ 32)
    else if a = SYS_REF_DATA0 then
      (match s.sys.refLog with | [] => 0 | (o, _, _, _, _, _) :: _ => BitVec.ofNat 32 o)
    else if a = SYS_REF_DATA1 then
      (match s.sys.refLog with
       | [] => 0
       | (_, c, g, i, h, b) :: _ => BitVec.ofNat 32 (c + 16 * g + 512 * i + 2048 * b2n h + 65536 * (b % 65536)))
    else if decide (LGT_PEND 0 ≤ a) && decide (a ≤ LGT_PEND 1) then
      BitVec.ofNat 32 (maskOf 32 (fun j =>
        let n := 32 * ((a - LGT_PEND 0) / 4) + j
        s.on (LGT_CTRL.INT_EN n) && decide (0 < getF (s.reg (LGT_STATUS n)) 4 0)))
    else if a = PAD_GPIO_IN then BitVec.ofNat 32 (maskOf 16 s.pinLevel)
    else if a = LOG_SEQ_LO then BitVec.ofNat 32 s.watch.nextSeq
    else if a = LOG_SEQ_HI then BitVec.ofNat 32 (s.watch.nextSeq / 2 ^ 32)
    else if a = LOG_READ_DATA then
      (match s.watch.ring[s.rd LOG_READ_IDX.INDEX]? with
       | none => 0
       | some r => BitVec.ofNat 32 (leValue (((r.exported s.watch.snapSeq).drop (4 * s.rd LOG_READ_IDX.WORD)).take 4)))
    else if a = WCH_WLOG_LO then
      BitVec.ofNat 32 s.wlogRead
    else if a = WCH_WLOG_HI then
      BitVec.ofNat 32 (s.wlogRead / 2 ^ 32)
    else if a = WCH_WLOG_STAT then
      BitVec.ofNat 32 (s.watch.rBank.length + 128 * (s.watch.wBank.length + b2n s.watch.gap.isSome))
    else if a = WCH_INJ_STAT then
      BitVec.ofNat 32 (b2n s.watch.armed.isSome + 2 * b2n s.watch.window.isSome + 4 * s.sys.cfg.injectPolicy)
    else if decide (DEC_TRACE_DATA 0 ≤ a) && decide (a ≤ DEC_TRACE_DATA 3) then
      (match s.dec.trace with
       | [] => if a = DEC_TRACE_DATA 2 then BitVec.ofNat 32 (15 * 2 ^ 14) else 0
       | r :: _ => BitVec.ofNat 32 (r.value / 2 ^ (32 * ((a - DEC_TRACE_DATA 0) / 4))))
    else if decide (SEQ_STORE_DATA 0 ≤ a) && decide (a ≤ SEQ_STORE_DATA 3) then
      BitVec.ofNat 32 (s.storeView / 2 ^ (32 * ((a - SEQ_STORE_DATA 0) / 4)))
    else s.reg a

end Sys2Proof.Machine
end

