-- ==== Sys2Proof/Machine/Faults.lean ====
section
/-! DEFINITION. Raising a fault source (R457 to R466), the logbook (R474 to R477), mode changes (R429) and the refusal
log (R492): the shared operations every unit reports through. -/

namespace Sys2Proof.Machine
open Reg

/-! ### The logbook -/

/-- The snapshot of the registers that LOG_SNAP_DATA lists for a hardware type (R475). -/
def State.snapshot (s : State) (typ : Nat) : List (Nat × Word) :=
  (List.range 16).filterMap (fun k =>
    let w := (s.reg (snapAt typ k)).toNat
    if bitOf w 0 then some (bitsOf w 20 2 * 4, s.view (bitsOf w 20 2 * 4)) else none)

/-- Milliseconds of calendar time, when set (R473): the set value plus the operating milliseconds since the command. -/
def State.calMs (s : State) : Option Nat :=
  s.sys.calendar.map (fun p => p.1 + (s.sys.time - p.2) * 1000 / unitsPerSecond)

/-- The largest number of records in the ring (R474). -/
def logRingMax : Nat := 16384

/-- Appends to a bounded list, dropping the oldest. -/
def appendBounded {α : Type} (n : Nat) (l : List α) (x : α) : List α := (l ++ [x]).drop (l.length + 1 - n)

/-- Writes a logbook record with the device's time bases (R473, R474). Before step 7 of a start records are held and
numbered there (R477). -/
def State.logRec (s : State) (typ source cls detail : Nat) (injected : Bool) (suppressed : Nat) : State :=
  let snap := if typ < 0x8000 then s.snapshot typ else []
  let numbered := decide (7 ≤ s.rd SYS_START.STEP)
  let r : LogRec :=
    { seq := if numbered then s.watch.nextSeq else 0, typ := typ, source := source, cls := cls,
      cal := s.calMs.isSome, injected := injected, opSec := s.sys.opSeconds, power := s.rd SYS_PWR_CYCLES.CNT,
      warm := s.rd SYS_WARM_STARTS.CNT, bell := s.bell, calMs := s.calMs.getD 0, detail := detail % 2 ^ 64,
      snapSeq := s.watch.snapSeq, suppressed := satU 16 suppressed, snap := snap }
  let snapNext := if snap.isEmpty then s.watch.snapSeq else s.watch.snapSeq + 1
  if numbered then
    let ring := appendBounded logRingMax s.watch.ring r
    (((s.updWatch (fun w => { w with ring := ring, nextSeq := w.nextSeq + 1, aonSeq := w.nextSeq + 1,
                                      snapSeq := snapNext })).wr LOG_STAT.HELD ring.length).inc LOG_CNT.WRITTEN)
  else s.updWatch (fun w => { w with held := w.held ++ [r], snapSeq := snapNext })

/-- Writes a record of a hardware type whose DETAIL the manual gives. -/
def State.logEvent (s : State) (typ source detail : Nat) : State := s.logRec typ source 0xFF detail false 0

/-- Writes a record of a hardware type whose DETAIL the manual leaves open: a free value (log entry 2). -/
def State.logFree (s : State) (typ source : Nat) : State := (s.logEvent typ source s.freeNow).freeNext

/-- A logbook record of a fault source under the suppression rule of R476. -/
def State.logSource (s : State) (src cls detail : Nat) (injected : Bool) : State :=
  let (t0, cnt, sup) := sparseGet (0, 0, 0) s.watch.burst src
  let fresh := decide (cnt = 0) || decide (t0 + unitsPerSecond ≤ s.sys.time)
  if fresh then
    (s.logRec 0x0001 src cls detail injected sup).updWatch
      (fun w => { w with burst := sparseSet (0, 0, 0) w.burst src (s.sys.time, 1, 0) })
  else if cnt < s.rd LOG_CTRL.LOG_BURST || cls == 4 then
    (s.logRec 0x0001 src cls detail injected sup).updWatch
      (fun w => { w with burst := sparseSet (0, 0, 0) w.burst src (t0, cnt + 1, 0) })
  else
    (s.updWatch (fun w => { w with burst := sparseSet (0, 0, 0) w.burst src (t0, cnt, sup + 1) })).inc LOG_CNT.SUPPRESSED

/-! ### Modes (R429) -/

/-- Enters a mode and records the change (R475 type 0x0002, whose DETAIL is open). -/
def State.setMode (s : State) (m : Mode) : State :=
  if s.mode = m then s
  else
    let t := s.wr SYS_MODE.MODE m.code
    -- On entry to HALTED the consumer of the watch log becomes the host (R467) and FAULT_N is driven low (R462).
    let t := t.when (m == .halted) (fun t => (t.setB WCH_CTRL.CONSUMER).setB WCH_FN_CTRL.LEVEL)
    t.logFree 0x0002 0x1FF

/-! ### FAULT_N (R462) -/

/-- Drives or releases FAULT_N: low while the timer runs, HOLD or FORCE is set, and from an Anchor
takeover on (R470); released in BRING-UP; low in HALTED. -/
def State.faultNLevel (s : State) : State :=
  let low := if s.mode = .bringUp then false
             else if s.mode = .halted then true
             else s.on WCH_INST.ANCHOR || s.on WCH_FN_CTRL.HOLD || s.on WCH_FN_CTRL.FORCE || s.on WCH_FN_CTRL.TIMING
  s.wr WCH_FN_CTRL.LEVEL (b2n low)

/-- A qualifying raise: HOLD set and the pulse timer started at WIDTH. -/
def State.faultNPulse (s : State) : State := ((s.setB WCH_FN_CTRL.HOLD).setB WCH_FN_CTRL.TIMING).faultNLevel

/-! ### The watch log (R463 to R466) -/

/-- An item enters the write bank, or the gap marker counts the drop. -/
def State.wlogItem (s : State) (src cls detail : Nat) : State :=
  if src = 0x1FB then s
  else if s.watch.wBank.length < 63 then
    s.updWatch (fun w => { w with wBank := w.wBank ++
      [{ source := src, cls := cls, kind := 1, detail := detail % 65536, bell := s.bell % 2 ^ 32, flips := 0 }] })
  else
    match s.watch.gap with
    | none =>
      let g : WlogWord := { source := 1, cls := 0, kind := 2, detail := 2 ^ cls, bell := s.bell % 2 ^ 32, flips := 0 }
      ((s.updWatch (fun w => { w with gap := some g })).raiseBit WCH_STATUS.WLOG_GAP WCH_INT_EN).inc WCH_WLOG_CNT.GAPS
    | some g =>
      let g' : WlogWord := { g with source := min 511 (g.source + 1), detail := g.detail ||| 2 ^ cls }
      s.updWatch (fun w => { w with gap := some g' })

/-! ### Raising a source (R457) -/

/-- What a raise brings with it: the access of R461, the watch-log DETAIL, the stage class of a source that takes one,
and whether an injection caused it. -/
structure RaiseCtx where
  addr : Option Nat
  port : Nat
  channel : Nat
  access : Nat
  detail : Nat
  stage : Nat
  injected : Bool
  /-- FCLK ticks since the bell edge, when the command that raises gives them. -/
  fine : Option Nat
deriving DecidableEq, Repr

/-- A raise that has no access. -/
def ctx0 : RaiseCtx :=
  { addr := none, port := 0, channel := 0, access := 0, detail := 0, stage := 0, injected := false, fine := none }

/-- The default class of a source in this configuration (R459): DDR_CHANNEL_n is DEVICE with one channel present; a
source of CTL_OSC_n takes the class of its stage. -/
def State.baseClass (s : State) (src stage : Nat) : Nat :=
  if (0x17E ≤ src ∧ src ≤ 0x17F) then (if s.sys.cfg.dramChannels % 4 = 3 then 2 else 3)
  else if (0x100 ≤ src ∧ src ≤ 0x11C) then stage
  else (defaultClass? src).getD 0

/-- The class a raise is handled at: the default, or the higher class that WCH_SRC_CFG gives (R458). -/
def State.classOf (s : State) (src stage : Nat) : Nat := max (s.baseClass src stage) (bitsOf (s.reg (srcCfgAt src)).toNat 2 0)

/-- The first-error capture of class `c` takes a raise when it is empty; otherwise its overflow counts (R461). FINE of a raise inside another
command is a free value: the model keeps no time within a bell (log entry 5). -/
def State.capture (s : State) (c src : Nat) (x : RaiseCtx) : State :=
  if s.on (WCH_FEC_CTRL.VALID c) then s.inc (WCH_FEC_CTRL.OVERFLOW c)
  else
    let a := x.addr.getD 0
    let fine := x.fine.getD s.freeNow
    (s.when x.fine.isNone State.freeNext).wrs [(WCH_FEC_INFO.SOURCE c, src), (WCH_FEC_INFO.PORT c, x.port), (WCH_FEC_INFO.CHANNEL c, x.channel),
      (WCH_FEC_INFO.ACCESS c, x.access), (WCH_FEC_INFO.ADDR_VALID c, b2n x.addr.isSome),
      (WCH_FEC_ADDR_LO.ADDR c, a), (WCH_FEC_ADDR_HI.ADDR c, a / 2 ^ 32), (WCH_FEC_BELL_LO.BELL c, s.bell),
      (WCH_FEC_BELL_HI.BELL c, s.bell / 2 ^ 32), (WCH_FEC_FINE.FINE c, satU 17 fine), (WCH_FEC_CTRL.VALID c, 1)]

/-- Counts a raise: its source's counter, its class counter, and its RAISED bit. -/
def State.countRaise (s : State) (src cls : Nat) : State :=
  let t := s.updWatch (fun w => { w with srcCnt := sparseSet 0 w.srcCnt src (satU 16 (sparseGet 0 w.srcCnt src + 1)),
                                         raised := listModify w.raised cls (fun n => satU 32 (n + 1)) })
  let t := t.inc (WCH_CLASS_CNT.CNT cls)
  t.wr ⟨WCH_RAISED (src / 32), src % 32, src % 32⟩ 1

/-- The mode rule of a UNIT fault (R429): SERVICE becomes DEGRADED; FACTORY keeps its mode and shows FENCED when a unit
is fenced; other modes keep theirs. In rescue the fault is logged only (R430). -/
def State.unitFaultMode (s : State) (fences : Bool) : State :=
  if s.on SYS_MODE.RESCUE then s
  else if s.mode = .service then s.setMode .degraded
  else if s.mode = .factory && fences then s.setB SYS_MODE.FENCED
  else s

/-- The source fences a unit: its default class is UNIT, or it is DDR_CHANNEL_n (R458). -/
def State.fencing (_s : State) (src : Nat) : Bool := defaultClass? src == some 2

/-! ### Injections (R471) -/

/-- The armed injection, when it is for this site and `hit` accepts its argument. -/
def State.armedAt (s : State) (site : Nat) (hit : Nat → Bool) : Option Inj :=
  match s.watch.armed with
  | some j => if j.site = site && hit j.arg then some j else none
  | none => none

/-- An armed injection has been applied: the site is disarmed and INJ_DONE set. -/
def State.injDone (s : State) : State :=
  (s.updWatch (fun w => { w with armed := none })).raiseBit WCH_STATUS.INJ_DONE WCH_INT_EN

/-- The site whose checker reports through a source, with the argument that names its instance when the manual gives one (R471). -/
def injSite (src detail : Nat) : Option (Nat × Option Nat) :=
  if src = 0x0F4 then some (5, none)
  else if src = 0x1F0 then some (9, some detail)
  else if 0x190 ≤ src ∧ src ≤ 0x1CF then some (10, some (src - 0x190))
  else if 0x1D0 ≤ src ∧ src ≤ 0x1D1 then some (11, some (src - 0x1D0))
  else if src = 0x145 then some (13, some detail)
  else if 0x1F8 ≤ src ∧ src ≤ 0x1F9 then some (14, some (src - 0x1F8))
  else if src = 0x0F3 then some (15, some detail)
  else none

/-- The raise of a source comes from the armed injection. -/
def State.fromInjection (s : State) (src detail : Nat) : Bool :=
  match injSite src detail with
  | some (site, a) => (s.armedAt site (fun b => a.isNone || a == some b)).isSome
  | none => false

/-- The reaction of the Watch to a raise, all but the fence of the unit (R457). -/
def State.raiseSrc (s : State) (src : Nat) (x : RaiseCtx) : State :=
  if (defaultClass? src).isNone || !s.srcPresent src then s
  else
    let inj := s.fromInjection src x.detail
    let s := if inj then s.injDone else s
    let x := if inj then { x with injected := true } else x
    let cfg := (s.reg (srcCfgAt src)).toNat
    let cls := s.classOf src x.stage
    let t := s.countRaise src cls
    if bitOf cfg 6 && s.baseClass src x.stage == 0 then t
    else
      let t := t.capture cls src x
      let t := t.raiseBit ⟨WCH_STATUS, cls, cls⟩ WCH_INT_EN
      let t := t.wlogItem src cls (x.detail % 2 ^ 15 + 2 ^ 15 * b2n x.injected)
      let t := t.when (bitOf cfg 5) (fun t => t.logSource src cls x.detail x.injected)
      let t := t.irqIf (bitOf cfg 3) (srcCfgAt src) 3
      let t := t.when (bitOf cfg 4) State.faultNPulse
      let t := t.when (cls == 2) (fun t => t.emit (.aer false))
      let t := t.when (cls == 3) (fun t => t.msixSend 0)
      let t := t.when (cls == 2 || t.fencing src) (fun t => t.unitFaultMode (t.fencing src))
      t.when (cls == 4) (fun t => t.updWatch (fun w =>
        { w with anchorReq := match w.anchorReq with | some a => some (min a src) | none => some src }))

/-- A raise with no access and no detail. -/
def State.raise0 (s : State) (src : Nat) : State := s.raiseSrc src ctx0

/-- The unit at whose checker an injection is armed, for the sites that name one (R471). -/
def Inj.unit (j : Inj) : Option FUnit :=
  match j.site with
  | 8 => some (.plane (Fin.ofNat 2 j.arg))
  | 9 => some (.helm (Fin.ofNat 3 j.arg))
  | 10 => some (.lgt (Fin.ofNat 64 j.arg))
  | 11 => some (.pack (Fin.ofNat 2 j.arg))
  | 12 => some (.quay (Fin.ofNat 4 j.arg))
  | 13 => some (.pwmGen (Fin.ofNat 2 j.arg))
  | 14 => some (.watch (Fin.ofNat 2 j.arg))
  | 15 => some (.lane (Fin.ofNat 2 j.arg))
  | _ => none

/-- Marks a unit as fenced (R460); a fence of a unit with an injection armed disarms it (R481). -/
def State.markFenced (s : State) (u : FUnit) : State :=
  if s.isFenced u then s
  else s.updWatch (fun w => { w with
    fences := w.fences ++ [u],
    armed := match w.armed with | some j => if j.unit = some u then none else some j | none => none })

/-! ### The refusal log (R10, R492) -/

/-- Enters a refusal: offset, cause, group, initiator, holding offset. -/
def State.refuse (s : State) (ofs cause group init : Nat) (holding : Bool) : State :=
  let t := (s.inc SYS_REF_CNT.REFUSALS).raiseBit SYS_STATUS.REFUSED SYS_INT_EN
  if t.sys.refLog.length < 16 then
    t.updSys (fun u => { u with refLog := u.refLog ++ [(ofs, cause, group, init, holding, s.bell % 65536)] })
  else (t.inc SYS_REF_CNT.NOT_LOGGED).raiseBit SYS_STATUS.REF_OVF SYS_INT_EN

/-- The initiator codes of SYS_REF_DATA1 (R502). -/
def initCode : Initiator → Nat
  | .host => 0
  | .helm => 1

/-- Enters the refusal of a write by an initiator to the live offset of a register (R10, R492). Causes: 1 RANGE, 2 MODE,
3 STATE, 4 CONFLICT, 5 FORMAT_LIMIT, 6 INVALID_SET. -/
def State.refuseW (s : State) (w : Initiator) (ofs cause : Nat) : State :=
  let g := match regDesc? ofs with | some (d, _) => d.group.getD 0 | none => 0
  s.refuse ofs cause g (initCode w) false

end Sys2Proof.Machine
end

