-- ==== Sys2Proof/Machine/Common.lean ====
section
/-! DEFINITION. Operations that several units share: write-unsafe conditions and gate drops (R124), sectors returned to
the scheduler (R136), failed slots (R44, R45, R527), zone events (R29), retract requests (R218). -/

namespace Sys2Proof.Machine
open Reg

/-! ### Status of a command -/

/-- Status codes used below the command layer (R357). -/
def stBufferData : Nat := 0x32
def stWriteFault : Nat := 0x31
def stUnrecovered : Nat := 0x30
def stZoneOffline : Nat := 0x25

/-- Records a failure of a command: the first status stands, with the lowest LBA. -/
def State.cmdFail (s : State) (tag status lba : Nat) : State :=
  s.updCmd tag (fun c =>
    if c.status = 0 then { c with status := status, failLba := lba, failCount := 1 }
    else { c with failLba := min c.failLba lba, failCount := c.failCount + 1 })

/-! ### Write-unsafe conditions (R124) -/

/-- A write-unsafe condition holds on head `h`: its own, its actuator's or the device's. -/
def State.wus (s : State) (h : Nat) : Bool :=
  let u := s.head h
  let p := s.port (h / 6)
  u.offTrack || u.samMiss || u.oscTrip || p.fault || p.oscTrip || s.isFenced (.paPort (Fin.ofNat 4 (h / 6))) ||
  s.wrp.speedErr || s.wrp.supplyErr || s.wrp.laneSwitch || s.wrp.oscDev || s.wrp.gatesOff

/-- The head is inhibited from writing (WRP_n_STATUS.INHIBIT). -/
def State.inhibited (s : State) (h : Nat) : Bool :=
  let u := s.head h
  u.inhServo || u.inhSat || u.inhOsc || u.inhSeek || u.inhContact || s.on (WRP_STATUS.WRITER_LOST h)

/-- INHIBIT as WRP_n_STATUS shows it. -/
def State.showInhibit (s : State) (h : Nat) : State := s.wr (WRP_STATUS.INHIBIT h) (b2n (s.inhibited h))

/-- Changes an inhibition of head `h` and shows the result. -/
def State.setInh (s : State) (h : Nat) (f : HeadU → HeadU) : State := (s.updHead h f).showInhibit h

/-! ### Sectors and lanes -/

/-- Cancels the events of a token on one lane; a current sector with that token becomes dry. While a write gate of the token is
open (`gateOpen`), the CLOSE that ends it stays. -/
def Lane.cancel (l : Lane) (tok : Nat) (gateOpen : Bool) : Lane :=
  let hit := match l.cur with | some d => d.token == tok | none => false
  let first : List GateEv := (l.events.take 1).filter (fun e => gateOpen && e.act == .close && !e.final && e.desc.token == tok)
  { l with events := first ++ l.events.filter (fun e => e.desc.token != tok),
           newEvents := l.newEvents.filter (fun e => e.desc.token != tok),
           cur := if hit then none else l.cur, mode := if hit then .dry else l.mode,
           posted := if hit then false else l.posted }

/-- Cancels the later events of a token on head `h`, in the committed lane and in the window in hand (R138). -/
def State.cancelToken (s : State) (h tok : Nat) : State :=
  let o := match (s.head h).gate with | some (k, _) => k == tok | none => false
  s.updSeq (h / 6) (fun e =>
    { e with lanes := listModify e.lanes (h % 6) (fun l => l.cancel tok o),
             tent := e.tent.map (fun ls => listModify ls (h % 6) (fun l => l.cancel tok o)) })

/-- Returns a sector to the scheduler (R136): it is planned again on a later revolution; an abandoned write is rewritten (R126). -/
def State.returnSector (s : State) (h : Nat) (d : SDesc) (abandoned : Bool) : State :=
  let t := s.cancelToken h d.token
  let t := t.updSec d.token (fun w => match w.st with
    | .listed => { w with st := .todo }
    | .underway => { w with st := .todo, rewrite := w.rewrite || (abandoned && d.write) }
    | _ => w)
  t.when abandoned (fun t => t.inc (SEQ_EVT_CNT.ABANDONED (h / 6)))

/-! ### Zones (R29) -/

/-- The code of a zone's state in ZONE REPORT (R362). -/
def ZState.code : ZState → Nat
  | .empty => 0 | .implicitOpen => 1 | .explicitOpen => 2 | .closed => 3 | .full => 4 | .readOnly => 5
  | .offline => 6 | .conv => 7

/-- DETAIL of a record of TYPE 0x0005 (R475). -/
def zoneEventDetail (zone domain head st : Nat) : Nat :=
  zone % 2 ^ 32 + 2 ^ 32 * (domain % 4) + 2 ^ 34 * (head % 32) + 2 ^ 39 * (st % 8)

/-- Changes the state of every zone of domain `d` by `f`, as one event of head `h` (R475). -/
def State.domainZones (s : State) (d h : Nat) (f : ZState → ZState) (st : ZState) : State :=
  let t := s.forEach (s.zonesOf d) (fun z t => t.updZone z (fun x => { x with state := f x.state }))
  t.logEvent 0x0005 0x1FF (zoneEventDetail 0xFFFFFFFF d h st.code)

/-- A head of domain `d` loses its writer: zones that are not FULL or OFFLINE go READ ONLY (R29). -/
def State.writerLostZones (s : State) (h : Nat) : State :=
  let t := s.domainZones (h / 6) h (fun x => match x with
    | .full => .full | .offline => .offline | _ => .readOnly) .readOnly
  t.forEach (t.zonesOf (h / 6)) (fun z t => t.updZone z (fun x => { x with writerLost := true }))

/-- A head of domain `d` loses both readers, or counts so: every zone goes OFFLINE (R29, R78). -/
def State.offlineZones (s : State) (h : Nat) : State := s.domainZones (h / 6) h (fun _ => .offline) .offline

/-- One zone enters READ ONLY (R44, R527). -/
def State.zoneReadOnly (s : State) (z h : Nat) : State :=
  if (s.zone z).state = .readOnly ∨ (s.zone z).state = .offline then s
  else (s.updZone z (fun x => { x with state := .readOnly })).logEvent 0x0005 0x1FF
    (zoneEventDetail z (zoneDomain s.sys.cfg z) h ZState.readOnly.code)

/-- A head of the domain has lost its writer. -/
def State.domainWriterLost (s : State) (d : Nat) : Bool := (s.headsOf d).any (fun h => s.on (WRP_STATUS.WRITER_LOST h))

/-! ### Written sectors and MEDIA_WP (R18, R28) -/

/-- The leading appends of a zone all of whose sectors count as written. -/
def passDone : List Placed → Nat × List Placed
  | [] => (0, [])
  | p :: ps => if p.done.length < p.len then (0, p :: ps) else
      match passDone ps with
      | (n, rest) => (if n = 0 then p.start + p.len else n, rest)

/-- MEDIA_WP passes the appends that, with every append placed before them, count as written (R28). -/
def Zone.advance (z : Zone) : Zone :=
  let (n, rest) := passDone z.placed
  if n = 0 then z else { z with mediaWp := max z.mediaWp (16 * n), placed := rest }

/-- The slots of zone `z` on the lists of its domain. -/
def State.badSlots (s : State) (z : Nat) : List Nat :=
  let d := zoneDomain s.sys.cfg z
  ((s.media.primary.getD d []).filter (fun e => e.1 == z)).map (fun e => e.2) ++
  ((s.media.grown.getD d []).filter (fun e => e.zone == z)).map (fun e => e.slot)

/-- The head that serves slot `k` of zone `z` (R27). -/
def State.slotHead (s : State) (z k : Nat) : Nat :=
  match (s.zone z).entry with
  | none => 0
  | some e => e.domain * 6 + (slotPlace e k).1

/-- Inserts into an ascending list. -/
def insertAsc (x : Nat) : List Nat → List Nat
  | [] => [x]
  | y :: l => if x ≤ y then x :: y :: l else y :: insertAsc x l

/-- A list of numbers in ascending order. -/
def sortAsc : List Nat → List Nat
  | [] => []
  | x :: l => insertAsc x (sortAsc l)

/-- The slot of sector `rel` of zone `z` with the defect lists as they stand (R27, R43, R44). -/
def State.mapSlot (s : State) (z rel : Nat) : Nat := slotAfterSlips (sortAsc (s.badSlots z)) rel

/-- The slot that holds sector `rel` of a zone (R27, R43 to R45): a conventional zone slips its primary defects only and follows its
reallocations; `fuel` bounds the chain. -/
def State.spareChase (s : State) (z : Nat) : Nat → Nat → Nat
  | 0, k => k
  | fuel + 1, k =>
    match ((s.media.grown.getD (zoneDomain s.sys.cfg z) []).find? (fun g => g.zone == z && g.slot == k)).bind (fun g => g.spare) with
    | some k' => s.spareChase z fuel k'
    | none => k

/-- The slots of zone `z` on its domain's primary list (R43). -/
def State.primarySlots (s : State) (z : Nat) : List Nat :=
  sortAsc (((s.media.primary.getD (zoneDomain s.sys.cfg z) []).filter (fun e => e.1 == z)).map (fun e => e.2))

/-- The slot of sector `rel` of zone `z`. A conventional zone slips its primary defects only and follows its reallocations (R27, R43, R45). -/
def State.slotOfSector (s : State) (z rel : Nat) : Nat :=
  if zoneConv s.sys.cfg z then s.spareChase z 64 (slotAfterSlips (s.primarySlots z) rel) else s.mapSlot z rel

/-- A sector counts as written: its command's sector, and its append in a sequential zone (R18). One whose slot has been slipped or reallocated
since its gate opened is planned again at its new slot (R44). -/
def State.sectorWritten (s : State) (tok : Nat) : State :=
  match s.sec? tok with
  | none => s
  | some w =>
    let rel := w.lba - w.zone * zoneSectors s.sys.cfg
    let k := s.slotOfSector w.zone rel
    if w.slot ≠ k then
      s.updSec tok (fun w => { w with slot := k, head := s.slotHead w.zone k, st := .todo, drops := 0, encoded := false, rewrite := false })
    else
      let t := s.updSec tok (fun w => { w with st := .written, drops := 0, rewrite := false })
      if zoneConv s.sys.cfg w.zone then t
      else t.updZone w.zone (fun z =>
        let z := { z with writtenHigh := max z.writtenHigh (w.slot + 1),
                          placed := z.placed.map (fun (p : Placed) =>
          if p.start ≤ rel ∧ rel < p.start + p.len ∧ rel ∉ p.done then { p with done := p.done ++ [rel] } else p) }
        z.advance)

/-- The end of the last placed append, or MEDIA_WP when none is placed. -/
def Zone.wpEnd (z : Zone) : Nat :=
  match z.placed.getLast? with
  | none => z.mediaWp
  | some p => 16 * (p.start + p.len)

/-- The write gate of head `h` closes before its planned end, without a write-unsafe condition. -/
def State.closeGate (s : State) (h : Nat) : State :=
  if (s.head h).gate.isNone then s
  else ((s.updHead h (fun u => { u with gate := none })).clr (WRP_STATUS.GATE h)).emit (.writeGate h false)

/-- Takes a sector out of a lane's list and queues, and its encoded bits out of the stream of head `h`. -/
def State.unlist (s : State) (h tok : Nat) : State :=
  let t := s.cancelToken h tok
  let t := t.updLane h (fun l => { l with list := l.list.filter (fun d => d.token != tok),
                                          incoming := l.incoming.filter (fun d => d.token != tok) })
  t.updHead h (fun u => { u with buf := u.buf.filter (fun e => e.token != tok) })

/-- What is powered off from state Pk on is off: the state has been reached, and no move to a shallower one has begun (R396, R399). -/
def State.gated (s : State) (k : Nat) : Bool := decide (k ≤ s.rd SCH_PWR_STAT.STATE) && decide (k ≤ s.rd SCH_PWR_STAT.TARGET)

/-- Unplaces the appends of zone `z` that satisfy `cut` (R44, R527): their commands fail with WRITE_FAULT naming the first sector, their sectors
write nothing further, and WP returns to the end of the last append kept. A zone that was FULL returns to the open state it had before the
placement that reached CAPACITY; one that this placement took from EMPTY is IMPLICIT OPEN (DESIGN CHOICE, log entry 147). -/
def State.unplace (s : State) (z : Nat) (cut : Placed → Bool) : State :=
  let x := s.zone z
  let gone := x.placed.filter cut
  if gone.isEmpty then s
  else
    let t := s.updZone z (fun x =>
      let y := { x with placed := x.placed.filter (fun p => !cut p) }
      let st := if x.state = .full ∧ y.wpEnd < 16 * x.capacity then
                  (match gone.getLast? with | some g => (if g.prev = .empty then .implicitOpen else g.prev) | none => x.state)
                else x.state
      { y with wp := y.wpEnd, state := st })
    t.forEach gone (fun g t =>
      let t := t.cmdFail g.cmd stWriteFault (z * zoneSectors s.sys.cfg + g.start)
      let mine := (((t.cmd? g.cmd).map (fun c => c.secs)).getD []).filter (fun w => w.zone == z && w.write)
      t.forEach mine (fun w t =>
        let k := g.cmd + 16384 * w.idx
        let t := match (t.head w.head).gate with | some (j, _) => if j = k then t.closeGate w.head else t | none => t
        (t.unlist w.head k).updSec k (fun w => { w with st := .failed })))

/-- A head can write (R45): not saturated, writer healthy, preamplifier port in service. -/
def State.canWrite (s : State) (h : Nat) : Bool :=
  !(s.head h).inhSat && !s.on (WRP_STATUS.WRITER_LOST h) && !s.isFenced (.paPort (Fin.ofNat 4 (h / 6)))

/-- Takes a write stamp. When the issued stamps come within 2^19 of the high-water mark that the system areas keep, the mark is moved to 2^20
values ahead and written there first (R34, R46). -/
def State.takeStamp (s : State) : State × Nat :=
  let n := (s.media.stamp + 1) % 2 ^ 32
  let t := if (s.media.stampMark + 2 ^ 32 - n) % 2 ^ 32 < 2 ^ 19 ∨ 2 ^ 31 ≤ (s.media.stampMark + 2 ^ 32 - n) % 2 ^ 32 then
      (s.updMedia (fun m => { m with stampMark := (n + 2 ^ 20) % 2 ^ 32 })).forEach s.allActs (fun d t => t.saveArea d)
    else s
  (t.updMedia (fun m => { m with stamp := n }), n)

/-- Enters a slot on the grown list of its domain and writes the list to the system area (R46). -/
def State.growDefect (s : State) (z slot : Nat) (spare : Option Nat) : State :=
  let d := zoneDomain s.sys.cfg z
  (s.updMedia (fun m => { m with grown := listModify m.grown d (fun l => l ++ [{ zone := z, slot := slot, spare := spare }]) })).saveArea d

/-- Entries that the grown list of the domain of zone `z` can still take: it holds 65,536. -/
def State.grownRoom (s : State) (z : Nat) : Nat := 65536 - (s.media.grown.getD (zoneDomain s.sys.cfg z) []).length

/-- The slots of a zone (R27). -/
def TierEntry.slots (e : TierEntry) : Nat := e.tierCount * e.spt * (tierPositions e).length

/-- The first slot from `k` on, of `fuel`, that is not on a list of the domain and whose head can write, if there is one; with it the slots passed
over (R44). -/
def State.nextSlot (s : State) (z : Nat) : Nat → Nat → List Nat → Option Nat × List Nat
  | 0, _, skipped => (none, skipped)
  | fuel + 1, k, skipped =>
    if k ∈ s.badSlots z then s.nextSlot z fuel (k + 1) skipped
    else if s.canWrite (s.slotHead z k) then (some k, skipped)
    else s.nextSlot z fuel (k + 1) (skipped ++ [k])

/-- Slot `k`, at which sector `tok` fails, can be neither slipped nor reallocated (R527). With the list full a logbook record names it: its DETAIL
is that of a zone event with the slot above bit 41 (DESIGN CHOICE, log entry 145). -/
def State.slotNoRoom (s : State) (tok : Nat) (w : SecWork) (k : Nat) : State :=
  let t := if s.grownRoom w.zone = 0 then
      s.logEvent 0x0005 0x1FF (zoneEventDetail w.zone (zoneDomain s.sys.cfg w.zone) w.head ZState.readOnly.code + 2 ^ 42 * (k % 2 ^ 22))
    else s.growDefect w.zone k none
  let t := t.zoneReadOnly w.zone w.head
  if zoneConv s.sys.cfg w.zone then
    (t.updSec tok (fun w => { w with st := .failed })).cmdFail (tokTag tok) stWriteFault w.lba
  else
    let rel := w.lba - w.zone * zoneSectors s.sys.cfg
    t.unplace w.zone (fun p => decide (rel < p.start + p.len))

/-- Every write of zone `z` at or beyond sector `lba` that is in hand, except those under way, is planned again at the slot
that the defect lists now give it (R27, R44, log entry 21). -/
def State.replace (s : State) (z lba : Nat) : State :=
  let zs := zoneSectors s.sys.cfg
  let moved (w : SecWork) : Bool :=
    w.write && w.zone == z && decide (lba ≤ w.lba) && w.st != .failed && w.st != .underway
  let toks := s.cmds.flatMap (fun c => (c.secs.filter moved).map (fun w => (c.tag + 16384 * w.idx, w.head)))
  let t := s.forEach toks (fun e t => t.unlist e.2 e.1)
  let again (w : SecWork) : SecWork :=
    let k := t.mapSlot z (w.lba - z * zs)
    if moved w then { w with slot := k, head := t.slotHead z k, st := .todo, encoded := false } else w
  let t : State := { t with cmds := t.cmds.map (fun c => { c with secs := c.secs.map again }) }
  t.updZone z (fun x => { x with placed := x.placed.map (fun (p : Placed) =>
    { p with done := p.done.filter (fun r => decide (z * zs + r < lba)) }) })

/-- A slot of a sequential zone fails while written (R44): it and the slots passed over to the next one whose head can write are entered on the
grown list, each at the cost of 1 of CAPACITY, and the writes from the sector on are planned again. With the list full before that, or no such
slot in the zone, the append is unplaced (R527). -/
def State.slipSlot (s : State) (tok : Nat) (w : SecWork) : State :=
  let total := ((s.zone w.zone).entry.map TierEntry.slots).getD 0
  let (next, passed) := s.nextSlot w.zone (total - (w.slot + 1)) (w.slot + 1) [w.slot]
  let taken := passed.take (s.grownRoom w.zone)
  let t := s.forEach taken (fun b t => t.growDefect w.zone b none)
  let t := t.updZone w.zone (fun x => { x with capacity := x.capacity - taken.length })
  let t := t.replace w.zone w.lba
  let cap := (t.zone w.zone).capacity
  let t := t.when (decide (cap * 2 < zoneSectors s.sys.cfg)) (fun t => t.zoneReadOnly w.zone w.head)
  let t := t.unplace w.zone (fun p => decide (cap < p.start + p.len))
  match passed.drop taken.length with
  | k :: _ => t.slotNoRoom tok w k
  | [] =>
    if next.isSome then t
    else (t.zoneReadOnly w.zone w.head).unplace w.zone (fun p => decide (w.lba - w.zone * zoneSectors s.sys.cfg < p.start + p.len))

/-- A slot of a conventional zone fails while written: its sector goes to the next free spare slot whose head can write (R45), under a stamp of
its own (R34), else R527. The spare slots follow the slots of the CAPACITY sectors. -/
def State.reallocSlot (s : State) (tok : Nat) (w : SecWork) : State :=
  match (s.zone w.zone).entry with
  | none => s
  | some e =>
    let used := (s.media.grown.getD e.domain []).filterMap (fun g => if g.zone = w.zone then g.spare else none)
    let spares := (List.range e.spareSlots).map (fun i => slotAfterSlips (s.primarySlots w.zone) (e.capacity + i))
    match spares.find? (fun k => !used.contains k && !(s.badSlots w.zone).contains k && s.canWrite (s.slotHead w.zone k)) with
    | none => s.slotNoRoom tok w w.slot
    | some k =>
      if s.grownRoom w.zone = 0 then s.slotNoRoom tok w w.slot
      else
        let (t, n) := s.takeStamp
        (t.growDefect w.zone w.slot (some k)).updSec tok (fun w => { w with slot := k, head := t.slotHead w.zone k, stamp := n })

/-- A slot fails while written (R44, R45): slipped in a sequential zone, reallocated to a spare in a conventional one. -/
def State.slotFailed (s : State) (tok : Nat) : State :=
  match s.sec? tok with
  | none => s
  | some w =>
    let t := (s.unlist w.head tok).updSec tok (fun w => { w with st := .todo, drops := 0, encoded := false })
    if zoneConv s.sys.cfg w.zone then t.reallocSlot tok w else t.slipSlot tok w

/-! ### Gate drops (R124, R126) -/

/-- Sets a WRP_n_STATUS bit of head `h`, with its interrupt (INT_EN is WRP_n_CTRL [29:16], R128). -/
def State.wrpBit (s : State) (h : Nat) (f : Nat → Fld) : State :=
  (s.setB (f h)).irqIf (bitOf (s.reg (WRP_CTRL h)).toNat (16 + (f h).lo)) (WRP_STATUS h) (f h).lo

/-- A drop at a sector's slot by a head-scoped condition or a writer fault counts; the third of three consecutive ones fails the slot (R126). -/
def State.countDrop (s : State) (tok : Nat) : State :=
  let t := s.updSec tok (fun w => { w with drops := w.drops + 1 })
  match t.sec? tok with
  | none => t
  | some w => if 3 ≤ w.drops then t.slotFailed tok else t

/-- Drops the open write gate of head `h`: pair idle, sector not written, later events cancelled, sector ABANDONED and
rewritten on a later revolution; three consecutive head-scoped drops fail the slot. -/
def State.dropGate (s : State) (headScoped : Bool) (h : Nat) : State :=
  match (s.head h).gate with
  | none => s
  | some (tok, _) =>
    let t := s.updHead h (fun u => { u with gate := none })
    let t := (t.clr (WRP_STATUS.GATE h)).wrpBit h WRP_STATUS.WUS
    let t := (t.inc (WRP_EVT_CNT.DROPS h)).emit (.writeGate h false)
    let t := t.updSec tok (fun w => { w with rewrite := true })
    let t := t.updSeq (h / 6) (fun e => { e with dropped := true })
    let t := t.returnSector h { token := tok, lba := 0, sector := 0, write := true, trimK := 0 } true
    if headScoped then t.countDrop tok else t

/-- Drops every open write gate of a list of heads. -/
def State.dropGates (s : State) (headScoped : Bool) (hs : List Nat) : State :=
  s.forEach hs (fun h t => t.dropGate headScoped h)

/-- Sets a WRP_n_STATUS bit on a list of heads, with its interrupt. -/
def State.wrpBits (s : State) (hs : List Nat) (f : Nat → Fld) : State :=
  s.forEach hs (fun h t => t.wrpBit h f)

/-! ### Retract (R218, R175) -/

/-- Updates the demodulator of head `h`. -/
def State.updSrv (s : State) (h : Nat) (f : SrvH → SrvH) : State :=
  { s with srv := { s.srv with heads := listModify s.srv.heads h f } }
/-- The demodulator of head `h`. -/
def State.srvHead (s : State) (h : Nat) : SrvH := s.srv.heads.getD h SrvH.init
/-- The length of `k` servo bits in units of 0.04 ns: SERVO_REGION_NS ÷ 960 for each, scaled by the nominal wedge period
divided by the measured one (R153). -/
def State.servoBits (s : State) (k : Int) : Int :=
  k * ((s.sys.cfg.servoNs * 25 * nomPeriod s.sys.cfg : Nat) : Int) / ((960 * s.wedgePeriod : Nat) : Int)

/-- SKEW of a head in units of 0.04 ns. -/
def State.skewOf (s : State) (h : Nat) : Int := asr (s.srvHead h).skew 10

/-- The bit rate of head `h` in units of 5 Gbit/s ÷ 2^31: that of the lane's rate class, scaled by the speed measured at the last bell
(R54, R111). -/
def State.writeRate (s : State) (h : Nat) : Nat :=
  (s.reg (rateAt (2 * (s.lane h).rateClass))).toNat * nomPeriod s.sys.cfg / max 1 s.wedgePeriod

/-- Regions between an event's and the one that follows the wedge to come on head `h`; those behind it are below 0. -/
def State.regionsAhead (s : State) (h : Nat) (e : GateEv) : Int :=
  let w := s.sys.cfg.wedges
  let k := (e.region + w - ((s.srvHead h).wedge + 1) % w) % w
  if 2 * k ≤ w then (k : Int) else (k : Int) - w

/-- The planned instant of a posted event of head `h`, in units of 0.04 ns from the bell edge of the wedge to come (R132, R156): its region starts
180 servo bits and the head's skew after the edge. -/
def State.eventInstant (s : State) (h : Nat) (e : GateEv) : Int :=
  s.regionsAhead h e * ((s.wedgePeriod / 1024 : Nat) : Int) + s.servoBits 180 + s.skewOf h +
    ((5 * 2 ^ 31 * e.time / max 1 (s.writeRate h) : Nat) : Int)

/-- The bell in which the event lies, counted from the one that the edge to come starts. -/
def State.eventBell (s : State) (h : Nat) (e : GateEv) : Int :=
  let b := s.eventInstant h e / ((max 1 (s.wedgePeriod / 1024) : Nat) : Int)
  if 0 ≤ s.regionsAhead h e then max 0 b else b

/-- The planned ends of read sectors on head `h`. -/
def State.readEnds (s : State) (h : Nat) : List GateEv :=
  (s.lane h).events.filter (fun e => e.act == .close && e.final && !e.desc.write)

/-- Publishes the read sector ends of actuator `a` planned for the bell numbered `k` from the edge to come (R132). -/
def State.showEnds (s : State) (a : Nat) (k : Int) : State :=
  s.wr (SEQ_ENDS.ENDS a) (((s.headsOf a).flatMap (fun h => (s.readEnds h).filter (fun e => s.eventBell h e == k))).length)

/-- Updates the control of loop `n`. -/
def State.updLoop (s : State) (n : Nat) (f : CtlLoop → CtlLoop) : State :=
  { s with ctl := { s.ctl with loops := listModify s.ctl.loops n f } }
/-- The control of loop `n`. -/
def State.loop (s : State) (n : Nat) : CtlLoop := s.ctl.loops.getD n CtlLoop.init
/-- Updates the coarse side of actuator `a`. -/
def State.updAct (s : State) (a : Nat) (f : CtlAct → CtlAct) : State :=
  { s with ctl := { s.ctl with acts := listModify s.ctl.acts a f } }
/-- The coarse side of actuator `a`. -/
def State.act (s : State) (a : Nat) : CtlAct := s.ctl.acts.getD a CtlAct.init

/-- Shows the loaded and the lost heads (R169). -/
def State.showLoaded (s : State) : State :=
  let mask (p : Nat → Bool) : Nat := (s.allHeads.filter (fun h => p (s.rd (SRV_STATUS.STATE h)))).foldl (fun a h => a + 2 ^ h) 0
  s.wrs [(SRV_LOADED.MASK, mask (fun x => x == 2 || x == 3 || x == 4)), (SRV_LOST.MASK, mask (fun x => x == 5))]

/-- Head `h` counts as unloaded: OFF (R167). -/
def State.unloadHead (s : State) (h : Nat) : State :=
  let t := s.updSrv h (fun u => { u with cand := none, recov := 0, reacq := false, reacqRun := 0 })
  let t := t.wrs [(SRV_STATUS.STATE h, 0), (SRV_STATUS.MISS_RUN h, 0)]
  t.setInh h (fun u => { u with samMiss := false, offTrack := false, offRun := 0 })

/-- A CLOSED or HOLD loop opens with output 0 (R191). -/
def State.openLoop (s : State) (n : Nat) : State :=
  let st := s.rd (CTL_STATUS.STATE n)
  if st = 1 ∨ st = 2 then s.wrs [(CTL_STATUS.STATE n, 0), (CTL_OUT.OUT n, 0)] else s

/-! ### Where an actuator stands (R24, R392) -/

/-- The tier of a zone in which a sector lies, its track and its physical sector number (R24, R27). -/
def State.placeOf (s : State) (w : SecWork) : Nat × Nat × Nat :=
  match (s.zone w.zone).entry with
  | none => (0, 0, 0)
  | some e => let p := slotPlace e w.slot; (p.2.1, e.baseTrack + p.2.1, p.2.2)

/-- The present reference track: the destination of the profile running or last run (R392). -/
def State.presentTrack (s : State) (a : Nat) : Nat :=
  match s.ctl.profs.getD a none with
  | some p => (p.dest / 4096).toNat
  | none => s.rd (SCH_TIER.TRACK a)

/-- Actuator `a` is on a tier of a zone. -/
def State.onTier (s : State) (a zone tier track : Nat) : Bool :=
  (s.act a).zone == some zone && (s.act a).tier == tier && s.presentTrack a == track

/-! ### Retract requests -/

/-- Requests a retract of actuator `a` (R218): from any state but PARKED (0) and FENCED (5); its loops open, its profile
ends, its heads count as unloaded and write service on it ends (R175, R191). -/
def State.retract (s : State) (a : Nat) : State :=
  let st := s.rd (MOT_ASTATUS.STATE a)
  if st = 0 ∨ st = 5 ∨ st = 4 then s
  else
    let hs := s.headsOf a
    let t := s.wr (MOT_ASTATUS.STATE a) 4
    let t := t.dropGates false hs
    let t := t.openLoop a
    let t := t.forEach hs (fun h t => (t.openLoop (4 + h)).unloadHead h)
    let t := t.updAct a (fun c => { c with loadBells := none, loadPend := false, sinceEnd := none })
    let t : State := { t with ctl := { t.ctl with profs := listSet t.ctl.profs a none, aref := listSet t.ctl.aref a 0 } }
    (t.wrs [(PROF_STAT.BUSY a, 0), (PROF_STAT.REMAINING a, 0), (CTL_STATUS.REF a, 7), (CTL_STATUS.SETTLED a, 0)]).showLoaded

/-- Requests a retract of every present actuator that is not PARKED (R211). -/
def State.retractAll (s : State) : State := s.forEach s.allActs (fun a t => t.retract a)

/-- Domain `a` can do no more media work (R460): its zones go OFFLINE, and what its commands still have to do there ends with
ZONE_OFFLINE. -/
def State.domainDead (s : State) (a : Nat) : State :=
  let t := s.domainZones a 31 (fun _ => .offline) .offline
  let hit (w : SecWork) : Bool := w.head / 6 == a && (w.st == .todo || w.st == .listed || w.st == .underway)
  t.forEach (t.cmds.flatMap (fun (c : Cmd) => (c.secs.filter hit).map (fun w => (c.tag + 16384 * w.idx, w)))) (fun e t =>
    ((t.unlist e.2.head e.1).updSec e.1 (fun w => { w with st := .failed })).cmdFail (tokTag e.1) stZoneOffline
      (e.2.zone * zoneSectors t.sys.cfg))

end Sys2Proof.Machine
end

