-- ==== Sys2Proof/Machine/ControlOps.lean ====
section
/-! DEFINITION. Shared operations of the control engine (chapter 08): coefficient words and their arithmetic (R178 to R180),
positions (R171, R186), profile planning (R185), the coarse reference (R173) and the start of a seek (R176). -/

namespace Sys2Proof.Machine
open Reg

/-! ### Coefficients and arithmetic (R178, R180) -/

/-- A coefficient: its signed value and its shift. -/
def State.coefW (s : State) (n set word : Nat) : Int × Nat :=
  let x := s.coefRaw n set word
  (sext 32 x, x / 2 ^ 32 % 32)

/-- The words that exist, and whether the shift is ignored (R180): 83 to 94 are reserved; the fixed block has words 0 to 5. -/
def coefExists (n set word : Nat) : Bool :=
  if set = 16 then decide (word ≤ 4) || (word == 5 && decide (4 ≤ n) && decide (n < 28))
  else decide (word ≤ 79) || (decide (word ≤ 82) && (decide (n < 4) || n == 28)) || word == 95

/-- mac(coef, s) (R178). -/
def mac (c : Int × Nat) (x : Int) : Int :=
  if c.2 = 0 then c.1 * x else (c.1 * x + ((2 ^ (c.2 - 1) : Nat) : Int)) / ((2 ^ c.2 : Nat) : Int)

/-- Saturates to 32 bits, counting a saturation. -/
def sat32 (z : Int) (n : Nat) : Int × Nat := let y := satS 32 z; (y, if y = z then n else n + 1)

/-- Limits to ±lim. -/
def clampTo (lim z : Int) : Int := if lim < z then lim else if z < -lim then -lim else z

/-- The set of loop `n` is VALID (R180). -/
def State.setValid (s : State) (n set : Nat) : Bool := bitOf (s.coefRaw n set 95) 0

/-! ### Positions (R170, R171, R186) -/

/-- The zone of actuator `a` in whose tier track `k` lies, and the tier (R24, R171). -/
def State.zoneOfTrack (s : State) (a k : Nat) : Option (Nat × Nat) :=
  (s.zonesOf a).findSome? (fun z => match (s.zone z).entry with
    | some e => if e.baseTrack ≤ k ∧ k < e.baseTrack + e.tierCount then some (z, k - e.baseTrack) else none
    | none => none)

/-- The tier map entry of the zone that actuator `a` is in. -/
def State.actEntry (s : State) (a : Nat) : Option TierEntry := (s.act a).zone.bind (fun z => (s.zone z).entry)

/-- The reference position of head `h`, in 1/4,096 track (R24, R163). -/
def State.headRef (s : State) (h : Nat) : Int :=
  (s.act (h / 6)).refSig + 4096 * (((s.actEntry (h / 6)).map (fun e => e.offset.getD (h % 6) 0)).getD 0)

/-- The predicted track of head `h` (R161, R186). -/
def State.predTrack (s : State) (h : Nat) : Int := (s.headRef h + 2048) / 4096

/-- CENTRE of head `h`, 1/256 track. -/
def State.centre (s : State) (h : Nat) : Int := s.rdS (CTL_CENTRE.CENTRE (4 + h))

/-- The trim output u_c whose displacement is the head's centre (R176); with MA_GAIN zero the manual states no value: a
free one (log entry 25). -/
def State.trimCentreOut (s : State) (h : Nat) : Int :=
  let g := s.coefW (4 + h) 16 5
  if g.1 = 0 then satS 16 (Config.zeroGainTrim h (s.centre h))
  else
    let k : Int := (g.1.natAbs : Int)
    let a := s.centre h * 16 * ((2 ^ g.2 : Nat) : Int) * (if g.1 < 0 then -1 else 1)
    satS 16 ((2 * a + k) / (2 * k))

/-- Servo STATE of head `h`. -/
def State.srvState (s : State) (h : Nat) : Nat := s.rd (SRV_STATUS.STATE h)

/-- Head `h` counts as loaded. -/
def State.headLoaded (s : State) (h : Nat) : Bool := s.headPresent h && s.srvState h != 0

/-- The loop state codes of CTL_n_STATUS: 0 OPEN, 1 CLOSED, 2 HOLD, 3 TRIPPED. -/
def State.loopState (s : State) (n : Nat) : Nat := s.rd (CTL_STATUS.STATE n)

/-- Sets the output of loop `n`. -/
def State.setOut (s : State) (n : Nat) (u : Int) : State := s.wrS (CTL_OUT.OUT n) u

/-! ### The coarse reference (R173) -/

/-- Distance of two head positions. -/
def posDist (p q : Nat) : Nat := if p ≤ q then q - p else p - q

/-- The position nearest to `r` of a list in ascending order, the lower one where two are equally near. -/
def nearestPos (r : Nat) : List Nat → Option Nat
  | [] => none
  | p :: l => match nearestPos r l with
    | none => some p
    | some q => if posDist p r ≤ posDist q r then some p else some q

/-- The handover rule (R173): the nearest head in LOCK, failing that the nearest in MISS or INHIBIT. -/
def State.handoverPos (s : State) (a : Nat) : Option Nat :=
  let r := ((s.actEntry a).map (fun e => e.refPos)).getD 0
  let ps (p : Nat → Bool) : List Nat := ((s.headsOf a).filter (fun h => p (s.srvState h))).map (fun h => h % 6)
  match nearestPos r (ps (fun x => x == 2)) with
  | some p => some p
  | none => nearestPos r (ps (fun x => x == 3 || x == 4))

/-- The coarse reference at a seek start: the head at REF_POS when it is in LOCK, else by the handover rule. -/
def State.chooseRef (s : State) (a : Nat) : Nat :=
  let r := ((s.actEntry a).map (fun e => e.refPos)).getD 0
  if s.srvState (a * 6 + r) = 2 then r else (s.handoverPos a).getD 7

/-! ### Closing (R191) -/

/-- A loop closes: filter and observer states zero, integ set to the present output. -/
def State.closeLoop (s : State) (n : Nat) : State :=
  let u := s.rdS (CTL_OUT.OUT n)
  (s.updLoop n (fun l =>
    { CtlLoop.init with integ := u, det := l.det, energy := l.energy, count := l.count, quiet := l.quiet, stage := l.stage,
                        prevErr := l.prevErr, disp := l.disp, dev := l.dev, satRun := l.satRun, freeRun := l.freeRun,
                        settleRun := l.settleRun, settled := true })).wr (CTL_STATUS.STATE n) 1

/-- Both sets of loop `n` are VALID (R182). -/
def State.setsOk (s : State) (n : Nat) : Bool := s.setValid n (s.rd (CTL_CFG.ACTIVE_SET n)) && s.setValid n (s.rd (CTL_CFG.SAFE_SET n))

/-! ### Profiles (R185, R186) -/

/-- The greatest number below 2^k that fails `p`, for a `p` that once true stays true; from `n`. -/
def lastFalse (p : Nat → Bool) : Nat → Nat → Nat
  | 0, n => n
  | k + 1, n => if p (n + 2 ^ k) then lastFalse p k n else lastFalse p k (n + 2 ^ k)

/-- The least number at or above 1 that satisfies a monotone `p`. -/
def leastTrue (p : Nat → Bool) : Nat := lastFalse p 40 0 + 1

/-- Division rounded up. -/
def ceilDiv (a b : Nat) : Nat := (a + b - 1) / b

/-- The phase lengths tj, ta, tv of a profile over distance `d` (R185); without `vmax` for the spindle. Limits above zero. -/
def planProfile (d : Nat) (vmax : Option Nat) (amax jmax : Nat) : Nat × Nat × Nat :=
  let tj := ceilDiv amax jmax
  let full (ta : Nat) : Nat := amax * (tj + ta) * (2 * tj + ta)
  if d ≤ 2 * amax * tj * tj then
    let t1 := leastTrue (fun n => decide (d ≤ 2 * jmax * n * n * n))
    let t2 := leastTrue (fun n => decide (d ≤ 2 * amax * n * n))
    let t3 := match vmax with | some v => ceilDiv d (2 * v) | none => 0
    (max (max t1 t2) t3, 0, 0)
  else
    let need := leastTrue (fun n => decide (d ≤ full n))
    match vmax with
    | none => (tj, need, 0)
    | some v =>
      let ta := (v - amax * tj) / amax
      if d ≤ full ta then (tj, need, 0) else (tj, ta, ceilDiv (d - full ta) (amax * (tj + ta)))

/-- Length of a profile in bells. -/
def Profile.total (p : Profile) : Nat :=
  match p.run with
  | some r => r.t1 + r.t2 + r.t3
  | none => if p.loose then p.tv else 4 * p.tj + 2 * p.ta + p.tv

/-- Position, speed and acceleration of a rest at bell `t`, in 2^-16 of a signal unit (R186). -/
def StopRun.at_ (r : StopRun) (t : Nat) : Int × Int × Int :=
  let ramp (x v a b : Int) (n τ : Nat) : Int × Int × Int :=
    let z : Int := (τ : Int)
    let m : Int := (max 1 n : Nat)
    (x + v * z + (3 * m * a * z * z + (b - a) * z * z * z) / (6 * m), v + (2 * m * a * z + (b - a) * z * z) / (2 * m), a + (b - a) * z / m)
  let p1 := ramp r.x r.v r.a r.a1 r.t1 (min t r.t1)
  let p2 := if t ≤ r.t1 then p1 else ramp p1.1 p1.2.1 r.a1 r.a1 r.t2 (min (t - r.t1) r.t2)
  if t ≤ r.t1 + r.t2 then p2 else ramp p2.1 p2.2.1 r.a1 0 r.t3 (min (t - r.t1 - r.t2) r.t3)

/-- The rests, in whole bells, that the limits allow from a position, speed and acceleration in 2^-16 of a signal unit: for each pair of jerk
phases the shortest constant phase (R185, R186). -/
def stopRuns (x v a : Int) (amax jmax : Nat) : List StopRun :=
  let tj := ceilDiv amax jmax
  let am : Int := (65536 * amax : Nat)
  let jm : Int := (65536 * jmax : Nat)
  (List.range tj).flatMap (fun k => (List.range (2 * tj + 1)).filterMap (fun (t1 : Nat) =>
    let t3 : Nat := k + 1
    let w := -(2 * v + a * (t1 : Int))
    let up (p q : Int) : Nat := if 0 < p ∧ 0 < q then ceilDiv p.toNat q.toNat else 0
    let need : Nat := max (max (up (w.natAbs : Int) am) (up (w.natAbs : Int) (jm * (t3 : Int))))
                    (max (up w (jm * (t1 : Int) + a)) (up (-w) (jm * (t1 : Int) - a)))
    let t2 : Nat := (need - (t1 + t3) + 1) / 2
    let m : Int := ((t1 + 2 * t2 + t3 : Nat) : Int)
    let a1 := w / m
    if (w.natAbs : Int) ≤ am * m ∧ (w.natAbs : Int) ≤ jm * (t3 : Int) * m ∧ ((w - a * m).natAbs : Int) ≤ jm * (t1 : Int) * m then
      some { x := x, v := v, a := a, a1 := a1, t1 := t1, t2 := t2, t3 := t3 }
    else none))

/-- Where a rest ends, in 2^-16 of a signal unit. -/
def StopRun.rest (r : StopRun) : Int := (r.at_ (r.t1 + r.t2 + r.t3)).1

/-- The rest of a list that ends nearest to where it starts (R186). -/
def nearestRest : List StopRun → Option StopRun
  | [] => none
  | r :: l => match nearestRest l with
    | none => some r
    | some q => if (q.rest - q.x).natAbs < (r.rest - r.x).natAbs then some q else some r

/-- Integrates the phases (jerk sign, bells) for `t` bells at unit jerk: six times the position, twice the speed, the
acceleration. -/
def integrate : List (Int × Nat) → Nat → Int × Int × Int → Int × Int × Int
  | [], _, x => x
  | (j, n) :: l, t, (x6, v2, a) =>
    let k := min n t
    let z : Int := (k : Int)
    integrate l (t - k) (x6 + 3 * v2 * z + 3 * a * z * z + j * z * z * z, v2 + 2 * a * z + j * z * z, a + j * z)

/-- The phases of a profile (R185). -/
def Profile.phases (p : Profile) : List (Int × Nat) :=
  [(1, p.tj), (0, p.ta), (-1, p.tj), (0, p.tv), (-1, p.tj), (0, p.ta), (1, p.tj)]

/-- Position, speed and acceleration of a profile at bell `t`, in 2^-16 of a signal unit (R186). -/
def Profile.fine (p : Profile) (t : Nat) : Int × Int × Int :=
  if p.total ≤ t then (65536 * p.dest, 0, 0)
  else match p.run with
    | some r => r.at_ t
    | none =>
      let d := 65536 * (p.dest - p.start)
      let k : Int := ((2 * p.tj + p.ta + p.tv) * (p.tj + p.ta) * p.tj : Nat)
      let (x6, v2, a) := integrate p.phases t (0, 0, 0)
      if k = 0 then (65536 * p.dest, 0, 0) else (65536 * p.start + d * x6 / (6 * k), d * v2 / (2 * k), d * a / k)

/-- Reference and acceleration of a planned profile at bell `t` (R186). -/
def Profile.eval (p : Profile) (t : Nat) : Int × Int := let f := p.fine t; (f.1 / 65536, f.2.2 / 65536)

/-- AMAX and JMAX of a generator's loop, in its active set (R185); none when one of them is not above zero. -/
def State.profLimits (s : State) (g : Nat) : Option (Nat × Nat) :=
  let n := if g = 4 then 28 else g
  let lim (w : Nat) : Int := (s.coefW n (s.rd (CTL_CFG.ACTIVE_SET n)) w).1
  if 0 < lim 81 ∧ 0 < lim 82 then some ((lim 81).toNat, (lim 82).toNat) else none

/-- Sets the profile of generator `g`. -/
def State.setProf (s : State) (g : Nat) (p : Option Profile) : State :=
  { s with ctl := { s.ctl with profs := listSet s.ctl.profs g p } }

/-- The measured speed in 2^−16 of nominal speed (R172). -/
def State.speedSig (s : State) : Nat := if s.srv.period = 0 then 0 else nomPeriod s.sys.cfg * 65536 / s.srv.period

/-- Plans a profile on generator `g` from `start` to `dest` under the limits of the active set (R185). With a limit that is
not above zero the manual states no plan: the phase lengths are free values (log entry 25). -/
def State.plan (s : State) (g : Nat) (start dest : Int) : State :=
  let n := if g = 4 then 28 else g
  let set := s.rd (CTL_CFG.ACTIVE_SET n)
  let lim (w : Nat) : Int := (s.coefW n set w).1
  let d := (dest - start).natAbs
  let ok := decide (0 < lim 81) && decide (0 < lim 82) && (g == 4 || decide (0 < lim 80))
  let (s, tj, ta, tv) :=
    if ok then
      let (a, b, c) := planProfile d (if g = 4 then none else some (lim 80).toNat) (lim 81).toNat (lim 82).toNat
      (s, a, b, c)
    else (s.freeNext, s.freeNow + 1, 0, 0)
  let p : Profile := { start := start, dest := dest, tj := tj, ta := ta, tv := tv, t := 0, run := none, loose := false }
  (s.setProf g (some p)).wrs [(PROF_STAT.BUSY g, 1), (PROF_STAT.REFUSED g, 0), (PROF_STAT.REMAINING g, satU 16 p.total)]

/-! ### Seeks (R173, R176) -/

/-- A seek starts on actuator `a`: centres are loaded, trim loops open at u_c, writes are inhibited, the coarse reference is
chosen and the profile planned (R171, R173, R176, R191). -/
def State.seekStart (s : State) (a : Nat) (dest : Int) (timeouts : Nat) : State :=
  let e := s.actEntry a
  let t := s.forEach (s.headsOf a) (fun h t =>
    let t := t.wrS (CTL_CENTRE.CENTRE (4 + h)) ((e.map (fun e => e.trimCentre.getD (h % 6) 0)).getD (t.centre h))
    let st := t.loopState (4 + h)
    let t := t.when (st == 1 || st == 2) (fun t => t.wr (CTL_STATUS.STATE (4 + h)) 0)
    let t := t.when (st != 3) (fun t => t.setOut (4 + h) (t.trimCentreOut h))
    let t := t.updLoop (4 + h) (fun l => { l with settleRun := 0, settled := false })
    t.setInh h (fun u => { u with inhSeek := true }))
  let t := t.updAct a (fun c => { c with sinceEnd := none, timeouts := timeouts })
  let t := t.updLoop a (fun l => { l with settleRun := 0, settled := false })
  (t.wrs [(CTL_STATUS.SETTLED a, 0), (CTL_STATUS.REF a, t.chooseRef a)]).plan a (t.act a).refSig dest

end Sys2Proof.Machine
end

