-- ==== Sys2Proof/Machine/Sram.lean ====
section
/-! DEFINITION. The SRAM behind the crossbar (chapter 10): the byte check code, the carve-up of the logical pages, the
remap table, reads and writes of a port, the page allocator and the trailers. Every unit reaches the buffer memory
through these operations. -/

namespace Sys2Proof.Machine
open Reg

/-! ### The check code (R229) -/

/-- The check bits c4 to c0 of a byte. -/
def checkBits (d : Byte) : Nat :=
  let b := d.getLsbD
  let c0 := b 0 ^^ b 1 ^^ b 3 ^^ b 4 ^^ b 6
  let c1 := b 0 ^^ b 2 ^^ b 3 ^^ b 5 ^^ b 6
  let c2 := b 1 ^^ b 2 ^^ b 3 ^^ b 7
  let c3 := b 4 ^^ b 5 ^^ b 6 ^^ b 7
  let c4 := b 0 ^^ b 1 ^^ b 2 ^^ b 3 ^^ b 4 ^^ b 5 ^^ b 6 ^^ b 7 ^^ c0 ^^ c1 ^^ c2 ^^ c3
  b2n c0 + 2 * b2n c1 + 4 * b2n c2 + 8 * b2n c3 + 16 * b2n c4

/-- The result of a check. -/
inductive Ecc where
  | good | corrected | bad
deriving DecidableEq, Repr

/-- The data bit that lies at a code position, if the position is a data bit. -/
def codeDataBit : Nat → Option Nat
  | 3 => some 0 | 5 => some 1 | 6 => some 2 | 7 => some 3 | 9 => some 4 | 10 => some 5 | 11 => some 6 | 12 => some 7
  | _ => none

/-- Parity of the low `n` bits. -/
def parityOf (x : Nat) : Nat → Bool
  | 0 => false
  | n + 1 => bitOf x n ^^ parityOf x n

/-- Checks the 13 bits read for a byte (R229): the byte returned, the result and {p, s}. -/
def eccRead (d : Byte) (c : Nat) : Byte × Ecc × Nat :=
  let s := (checkBits d ^^^ c) % 16
  let p := parityOf d.toNat 8 ^^ parityOf c 5
  let synd := s + 16 * b2n p
  if s = 0 then (if p then (d, .corrected, synd) else (d, .good, synd))
  else if p && decide (s ≤ 12) then
    match codeDataBit s with
    | some k => (d ^^^ BitVec.ofNat 8 (2 ^ k), .corrected, synd)
    | none => (d, .corrected, synd)
  else (d, .bad, synd)

/-- The inverted check bits that poison a byte (R231), as stored in `MemU.flips`. -/
def poisonFlips : Nat := 0b00011 * 256

/-! ### The carve-up (R241) -/

/-- Pages of a retention slot (R70). -/
def slotPages (c : DriveCfg) : Nat := if c.readers = 2 then 21 else 11

/-- The present channels in number order. -/
def State.presentChans (s : State) : List Nat := (List.range 28).filter s.chanPresent

/-- The size of the retention store for a given DEPTH (R70). -/
def State.retSize (s : State) (depth : Nat) : Nat :=
  let p := s.presentChans.length
  p * depth * slotPages s.sys.cfg + (p * depth + 31) / 32

/-- A region: first page and pages. -/
abbrev Rgn := Nat × Nat

/-- The retention store, the cache region and the table region as live registers define them (R241). -/
def State.retRgn (s : State) : Rgn := (s.rd RCH_RET_BASE.BASE_PAGE, s.retSize (s.rd RCH_RET_CFG.DEPTH))
/-- The cache region. -/
def State.cacheRgn (s : State) : Rgn := (s.rd MEM_CACHE_RGN.BASE, 256 * s.rd MEM_CACHE_RGN.SIZE)
/-- The table region. -/
def State.tableRgn (s : State) : Rgn := (s.rd MEM_TABLE_RGN.BASE, s.rd MEM_TABLE_RGN.PAGES)
/-- Pages of the map blocks. -/
def mapPages (blocks : Nat) : Nat := (blocks + 31) / 32
/-- A page lies in a region. -/
def Rgn.has (r : Rgn) (p : Nat) : Bool := decide (r.1 ≤ p) && decide (p < r.1 + r.2)

/-- The page lies in one of the three regions. -/
def State.inRegion (s : State) (p : Nat) : Bool := s.retRgn.has p || s.cacheRgn.has p || s.tableRgn.has p

/-- What the allocator keeps for page `p`. -/
def State.pageInfo (s : State) (p : Nat) : PageInfo := sparseGet PageInfo.blank s.mem.pages p
/-- Updates the memory unit. -/
def State.updMem (s : State) (f : MemU → MemU) : State := { s with mem := f s.mem }
/-- Updates what the allocator keeps for page `p`. -/
def State.updPage (s : State) (p : Nat) (f : PageInfo → PageInfo) : State :=
  s.updMem (fun m => { m with pages := sparseSet PageInfo.blank m.pages p (f (sparseGet PageInfo.blank m.pages p)) })

/-- The states of a page (R236): 0 FREE, 1 OWNED, 2 REGION, 3 RETIRED. -/
def State.pageState (s : State) (p : Nat) : Nat :=
  if (s.pageInfo p).retired then 3
  else if s.inRegion p then 2
  else if (s.pageInfo p).owner.isSome then 1
  else 0

/-- The frame of a logical page (R236). -/
def State.frameOf (s : State) (p : Nat) : Nat := sparseGet p s.mem.frameOf p

/-- Shows the pool and the free list in MEM_CARVE_STAT and MEM_FREE. -/
def State.showPool (s : State) : State :=
  let retired := (s.mem.pages.filter (fun e => e.2.retired)).length
  let outside := (s.mem.pages.filter (fun e => e.2.retired && !s.inRegion e.1)).length
  let pool := 16384 - s.retRgn.2 - s.cacheRgn.2 - s.tableRgn.2 - outside
  s.wrs [(MEM_CARVE_STAT.POOL, pool), (MEM_CARVE_STAT.RETIRED, retired), (MEM_FREE.PAGES, s.mem.free.length)]

/-! ### Access rules (R242) -/

/-- Port `port` may read or write logical page `p`. -/
def State.mayAccess (s : State) (port p : Nat) (write : Bool) : Bool :=
  let ps : List Nat :=
    if s.retRgn.has p then (if write then [0, 1, 2, 3, 4, 5, 6, 7] else [9, 10, 15])
    else if s.cacheRgn.has p then (if write then [12] else [12, 15])
    else if s.tableRgn.has p then
      let b := s.tableRgn.1
      if p < b + mapPages (s.rd MEM_MAP_CFG.MAP_BLOCKS) then [11, 13, 14, 15]
      else if Rgn.has (s.rd MEM_TRAIL_CFG.BASE, 64) p then (if write then [11, 13, 14, 15] else [8, 11, 13, 14, 15])
      else if Rgn.has (s.rd DDR_TRAIN_PTR.PAGE, 3) p then [12, 15]
      else [15]
    else List.range 16
  !s.on MEM_CTRL.ACCESS_CHECK || ps.contains port

/-! ### Cells -/

/-- The 13 bits stored for the cell at frame address `k`: data byte and check bits. -/
def MemU.cell (m : MemU) (k : Nat) : Byte × Nat :=
  let b := sparseGet (0 : Byte) m.bytes k
  let f := sparseGet 0 m.flips k
  (b ^^^ BitVec.ofNat 8 (f % 256), checkBits b ^^^ f / 256 % 32)

/-- Stores a byte with its check bits in the cell at frame address `k` (R230). -/
def MemU.store (m : MemU) (k : Nat) (b : Byte) : MemU :=
  { m with bytes := sparseSet (0 : Byte) m.bytes k b, flips := sparseErase m.flips k }

/-- Stores bytes in cells from `k` up. -/
def MemU.storeList : MemU → Nat → List Byte → MemU
  | m, _, [] => m
  | m, k, b :: bs => MemU.storeList (m.store k b) (k + 1) bs

/-- Inverts stored bits of a cell (an array upset, R231 poison, R471 injection). -/
def MemU.flip (m : MemU) (k mask : Nat) : MemU :=
  { m with flips := sparseSet 0 m.flips k (sparseGet 0 m.flips k ^^^ mask % 8192) }

/-- Inverts stored bits of several cells. -/
def MemU.flipAll (m : MemU) (l : List (Nat × Nat)) : MemU := l.foldl (fun m e => m.flip e.1 e.2) m

/-! ### The error log (R234) -/

/-- The 128 bits of an entry. -/
def ElogEnt.value (e : ElogEnt) : Nat :=
  e.frame % 2 ^ 14 + 2 ^ 14 * (e.word % 128) + 2 ^ 21 * (e.bytes % 2 ^ 32) + 2 ^ 53 * (e.synd % 32) +
  2 ^ 58 * (e.typ % 8) + 2 ^ 61 * (e.port % 16) + 2 ^ 65 * (e.page % 2 ^ 14) + 2 ^ 79 * b2n e.plane1 +
  2 ^ 96 * (e.bell % 2 ^ 32)

/-- What an empty log reads: 0 with TYPE 7. -/
def elogIdle : Nat := 7 * 2 ^ 58

/-- Enters an error; a full log counts it and sets ELOG_OVF. -/
def State.elogAdd (s : State) (e : ElogEnt) : State :=
  if s.mem.elog.length < 32 then s.updMem (fun m => { m with elog := m.elog ++ [e] })
  else (s.inc MEM_ELOG_CNT.LOST).raiseBit MEM_STATUS.ELOG_OVF MEM_INT_EN

/-! ### Page maps (R239) -/

/-- Stores a unit's own table bytes at a page and offset, through the remap table and with fresh check bits. -/
def State.putTable (s : State) (page ofs : Nat) (bs : List Byte) : State :=
  s.updMem (fun m => m.storeList (sparseGet page m.frameOf page * 4096 + ofs) bs)

/-- The page map of a tag. -/
def State.pageMap? (s : State) (tag : Nat) : Option PageMap := s.mem.maps.find? (fun m => m.tag == tag)

/-- The 128 bytes of map block number `j` of a page map. -/
def PageMap.block (m : PageMap) (j : Nat) : List Byte :=
  let es := (m.ents.drop (30 * j)).take 30
  let next := m.blocks.getD (j + 1) 0xFFFF
  leBytes 4 (m.tag % 2 ^ 14 + 2 ^ 14 * es.length) ++ leBytes 2 next ++ leBytes 2 0 ++
  es.flatMap (fun e => leBytes 4 (e.page % 2 ^ 14 + 2 ^ 14 * b2n e.valid + 2 ^ 15 * b2n e.rp + 2 ^ 16 * b2n e.deferred)) ++
  List.replicate (4 * (30 - es.length)) 0

/-- Writes the map blocks of a tag to the table region. -/
def State.putMap (s : State) (tag : Nat) : State :=
  match s.pageMap? tag with
  | none => s
  | some m => s.forEach ((List.range m.blocks.length).zip m.blocks) (fun e t =>
      t.putTable (t.tableRgn.1 + e.2 / 32) (128 * (e.2 % 32)) (m.block e.1))

/-! ### Reads (R229, R232) -/

/-- The cells of one 32-byte word with an error: byte index, result, syndrome. -/
def MemU.wordErrs (m : MemU) (k : Nat) : List (Nat × Ecc × Nat) :=
  ((m.flips.filter (fun e => decide (k ≤ e.1) && decide (e.1 < k + 32))).map (fun e =>
    let c := m.cell e.1
    let r := eccRead c.1 c.2
    (e.1 - k, r.2.1, r.2.2))).filter (fun e => e.2.1 != .good)

/-- A mask of byte indices. -/
def byteMask (l : List Nat) : Nat := l.foldl (fun a i => a ||| 2 ^ i) 0

/-- Counts a beat with check errors confined to one plane's bytes in the bell count's block of 1,024 (R243). -/
def State.planeCount (s : State) (frame : Nat) (is : List Nat) : State :=
  let p0 := is.all (fun i => decide (i < 16))
  let p1 := is.all (fun i => decide (16 ≤ i))
  if is.isEmpty || !(p0 || p1) then s
  else
    let pl := if p0 then 0 else 1
    let t := s.updMem (fun m => { m with planeErr := m.planeErr ++ [(pl, frame % 32)] })
    t.inc (if p0 then MEM_PLANE_STAT.P0_ERR else MEM_PLANE_STAT.P1_ERR)

/-- What a read of one word by a port reports: errors counted, logged and raised (R232); the word's corrected bytes are
queued for the scrubber with CORR_WB set. `page` is the logical page. -/
def State.reportWord (s : State) (port chan page frame w : Nat) (injected : Bool) : State :=
  let es := s.mem.wordErrs (frame * 4096 + 32 * w)
  let ce := es.filter (fun e => e.2.1 == .corrected)
  let ue := es.filter (fun e => e.2.1 == .bad)
  let x : RaiseCtx := { ctx0 with addr := some (page * 4096 + 32 * w), port := port, channel := chan, access := 1,
                                  injected := injected }
  let ent (l : List (Nat × Ecc × Nat)) (typ : Nat) : ElogEnt :=
    let is := l.map (fun e => e.1)
    { frame := frame, word := w, bytes := byteMask is, synd := (match l with | e :: _ => e.2.2 | [] => 0), typ := typ,
      port := port, page := page, plane1 := is.all (fun i => decide (16 ≤ i)), bell := s.bell % 2 ^ 32 }
  let s := s.planeCount frame (es.map (fun e => e.1))
  let s :=
    if ce.isEmpty then s
    else
      let t := ((s.inc MEM_ERR_CNT.CE).elogAdd (ent ce 0)).raiseBit MEM_STATUS.CE MEM_INT_EN
      let t := t.when (t.on MEM_CTRL.CORR_WB && decide (t.mem.corrQ.length < 8))
        (fun t => t.updMem (fun m => { m with corrQ := m.corrQ ++ [(frame, w)] }))
      t.raiseSrc 0x170 x
  if ue.isEmpty then s
  else
    let t := ((s.inc MEM_ERR_CNT.UE).elogAdd (ent ue 1)).raiseBit MEM_STATUS.UE MEM_INT_EN
    let t := t.updPage page (fun q => { q with ue := true })
    let t := t.updMem (fun m => { m with maps := m.maps.map (fun pm =>
      { pm with ents := pm.ents.map (fun e => if e.page = page then { e with deferred := true } else e) }) })
    -- The map block of the page's owner shows DEFERRED (R239).
    let t := match (t.pageInfo page).owner with
      | some tag => t.putMap tag
      | none => t
    t.raiseSrc 0x171 x

/-- The data of `n` cells from frame address `k`, corrected, with the uncorrectable ones marked. -/
def MemU.readCells (m : MemU) : Nat → Nat → List Byte × List Bool
  | _, 0 => ([], [])
  | k, n + 1 =>
    let c := m.cell k
    let r := eccRead c.1 c.2
    let (bs, us) := m.readCells (k + 1) n
    (r.1 :: bs, (r.2.1 == .bad) :: us)

/-- Some byte of the response carries a UE mark. -/
def BufResp.anyUe (r : BufResp) : Bool := r.ue.any id

/-- Refuses an access (R242): error response, ACCESS_ERR and a log entry of TYPE 4. -/
def State.accessError (s : State) (port page w : Nat) : State :=
  (s.elogAdd { frame := if (s.pageInfo page).retired then 0 else s.frameOf page, word := w, bytes := 0, synd := 0, typ := 4,
               port := port, page := page, plane1 := false, bell := s.bell % 2 ^ 32 }).raiseBit MEM_STATUS.ACCESS_ERR MEM_INT_EN

/-- Applies an injection armed at the SRAM byte code or at the remap table for an access to a page (R471); answers
whether one was applied. -/
def State.sramInject (s : State) (page ofs n : Nat) : State × Bool :=
  match s.armedAt 0 (fun a => decide (page * 4096 + ofs ≤ a) && decide (a < page * 4096 + ofs + n)) with
  | some j =>
    ((s.injDone).updMem (fun m => m.flip (s.frameOf page * 4096 + j.arg % 4096) (j.mask % 32 * 256)), true)
  | none =>
    match s.armedAt 2 (fun a => a == page) with
    | some _ => ((s.injDone).raiseBit MEM_STATUS.REMAP_CORR MEM_INT_EN, false)
    | none => (s, false)

/-- A port reads `n` bytes of logical page `page` from offset `ofs`; the bytes lie in the page (R228, R232, R242). -/
def State.readPage (s : State) (port chan page ofs n : Nat) : State × BufResp :=
  if (s.pageInfo page).retired || !s.mayAccess port page false then
    (s.accessError port page (ofs / 32), { data := List.replicate n 0xFF, ue := List.replicate n false, err := true })
  else
    let (t, inj) := s.sramInject page ofs n
    let f := t.frameOf page
    let (bs, us) := t.mem.readCells (f * 4096 + ofs) n
    let words := (List.range ((ofs + n + 31) / 32 - ofs / 32)).map (fun i => ofs / 32 + i)
    (t.forEach words (fun w t => t.reportWord port chan page f w inj), { data := bs, ue := us, err := false })

/-- A port writes bytes to logical page `page` from offset `ofs` (R230, R237, R242); answers the error response. -/
def State.writePage (s : State) (port page ofs : Nat) (bs : List Byte) : State × Bool :=
  if (s.pageInfo page).retired || !s.mayAccess port page true then (s.accessError port page (ofs / 32), true)
  else
    let k := s.frameOf page * 4096 + ofs
    let t := s.updMem (fun m => m.storeList k bs)
    ((t.sramInject page ofs bs.length).1, false)

/-- Reads bytes of buffer addresses that may cross pages; `fuel` bounds the pages. -/
def State.readBuf (s : State) (port chan : Nat) : Nat → Nat → Nat → State × BufResp
  | 0, _, _ => (s, { data := [], ue := [], err := false })
  | fuel + 1, addr, n =>
    if n = 0 then (s, { data := [], ue := [], err := false })
    else
      let c := min n (4096 - addr % 4096)
      let (t, r) := s.readPage port chan (addr / 4096) (addr % 4096) c
      let (t, q) := t.readBuf port chan fuel (addr + c) (n - c)
      (t, { data := r.data ++ q.data, ue := r.ue ++ q.ue, err := r.err || q.err })

/-- Writes bytes to buffer addresses that may cross pages; `fuel` bounds the pages. -/
def State.writeBuf (s : State) (port : Nat) : Nat → Nat → List Byte → State × Bool
  | 0, _, _ => (s, false)
  | fuel + 1, addr, bs =>
    if bs.isEmpty then (s, false)
    else
      let c := min bs.length (4096 - addr % 4096)
      let (t, e) := s.writePage port (addr / 4096) (addr % 4096) (bs.take c)
      let (t, e') := t.writeBuf port fuel (addr + c) (bs.drop c)
      (t, e || e')

/-! ### Trailers (R240) -/

/-- Writes the trailer of SRAM page `page`: the tag and the CRC-32C over the data and the tag. -/
def State.writeTrailer (s : State) (page tag crc : Nat) : State :=
  s.putTable (s.rd MEM_TRAIL_CFG.BASE + page / 256) (16 * (page % 256)) (leBytes 8 tag ++ leBytes 4 crc ++ leBytes 4 0)

/-- The CRC-32C of a sector: over its 4,096 data bytes and its tag (R33). -/
def sectorCrc (data : List Byte) (tag : Nat) : Nat := (crc32c (data ++ leBytes 8 tag)).toNat

/-! ### Entries of page maps (R239) -/

/-- The page of sector `i` of a tag. -/
def State.sectorPage (s : State) (tag i : Nat) : Option Nat :=
  match s.pageMap? tag with
  | none => none
  | some m => m.ents[i]?.map (fun e => e.page)

/-- Updates entry `i` of a tag's page map. -/
def State.updMapEnt (s : State) (tag i : Nat) (f : MapEnt → MapEnt) : State :=
  (s.updMem (fun m => { m with maps := m.maps.map (fun pm =>
    if pm.tag = tag then { pm with ents := listModify pm.ents i f } else pm) })).putMap tag

/-- Marks sector `i` of a tag valid in its page map (R89). -/
def State.markValid (s : State) (tag i : Nat) : State := s.updMapEnt tag i (fun e => { e with valid := true })

/-- The lowest-numbered map blocks that no page map uses, `n` of them (log entry 11). -/
def State.freeBlocks (s : State) (n : Nat) : List Nat :=
  let used := s.mem.maps.flatMap (fun m => m.blocks)
  ((List.range (s.rd MEM_MAP_CFG.MAP_BLOCKS)).filter (fun b => !used.contains b)).take n

/-- ALLOC of `n` pages for a tag (R239): none when pages or map blocks are too few. -/
def State.allocPages (s : State) (tag n : Nat) : Option State :=
  let old : PageMap := (s.pageMap? tag).getD { tag := tag, blocks := [], ents := [] }
  let need := (old.ents.length + n + 29) / 30 - old.blocks.length
  let bs := s.freeBlocks need
  if s.mem.free.length < n ∨ bs.length < need then none
  else
    let ps := s.mem.free.take n
    let pm : PageMap := { old with blocks := old.blocks ++ bs,
                                   ents := old.ents ++ ps.map (fun p => { page := p, valid := false, rp := false, deferred := false }) }
    let t := s.updMem (fun m => { m with free := m.free.drop n, maps := m.maps.filter (fun x => x.tag != tag) ++ [pm] })
    let t := t.forEach ps (fun p t => t.updPage p (fun q => { q with owner := some tag, ue := false }))
    some ((t.putMap tag).showPool)

/-! ### Retirement (R237, R238, R242) -/

/-- Records a retired frame: RETIRE_DONE, the persistent record, banks that have no frame left (R238, R440). -/
def State.frameRetired (s : State) (frame : Nat) : State :=
  let t := s.updMem (fun m => { m with retFrames := m.retFrames ++ [frame] })
  let t := t.updPersist (fun p => { p with retiredFrames := if p.retiredFrames.length < 1024 ∧ frame ∉ p.retiredFrames
                                                            then p.retiredFrames ++ [frame] else p.retiredFrames })
  let b := frame % 32
  let done := t.mem.banks.contains b && decide (512 ≤ (t.mem.retFrames.filter (fun f => f % 32 == b)).length)
  let t := t.when done (fun t =>
    let t := t.updMem (fun m => { m with banks := m.banks.filter (fun x => x != b) })
    let t := t.wr ⟨MEM_BANK_RETIRED, b, b⟩ 1
    t.updPersist (fun p => { p with retiredBanks := p.retiredBanks ||| 2 ^ b }))
  let t := t.raiseBit MEM_STATUS.RETIRE_DONE MEM_INT_EN
  let before := s.showPool.rd MEM_CARVE_STAT.POOL
  let t := t.showPool
  if t.rd MEM_CARVE_STAT.POOL < t.rd MEM_POOL_CFG.POOL_MIN ∧ t.rd MEM_POOL_CFG.POOL_MIN ≤ before then
    (t.raiseBit MEM_STATUS.CAPACITY MEM_INT_EN).raise0 0x174
  else t

/-- A pool page becomes RETIRED with its frame. -/
def State.retirePage (s : State) (page : Nat) : State :=
  let f := s.frameOf page
  let t := s.updMem (fun m => { m with free := m.free.filter (fun p => p != page) })
  let t := t.updPage page (fun _ => { PageInfo.blank with retired := true })
  t.frameRetired f

/-- Shows migrations in MEM_RETIRE_STAT and RETIRE_WAIT. -/
def State.showRetire (s : State) : State :=
  let n := s.mem.migQ.length
  let donor := s.mem.free.any (fun p => !s.mem.banks.contains (s.frameOf p % 32))
  let waits := n != 0 && !donor
  s.wrs [(MEM_RETIRE_STAT.BUSY, b2n (n != 0 || !s.mem.banks.isEmpty)), (MEM_RETIRE_STAT.WAITING, b2n waits),
    (MEM_RETIRE_STAT.PENDING, n), (MEM_STATUS.RETIRE_WAIT, b2n waits)]

/-- The page that uses a frame. -/
def State.pageOfFrame (s : State) (frame : Nat) : Option Nat :=
  match s.mem.frameOf.find? (fun e => e.2 == frame) with
  | some e => some e.1
  | none => if (s.mem.frameOf.any (fun e => e.1 == frame)) then none else some frame

/-- Retires one frame according to the state of the page that uses it (R237). -/
def State.retireFrame (s : State) (frame : Nat) : State :=
  if s.mem.retFrames.contains frame then s
  else match s.pageOfFrame frame with
    | none => s
    | some p =>
      match s.pageState p with
      | 0 => s.retirePage p
      | 1 =>
        let t := s.updPage p (fun q => { q with rp := true })
        (match (t.pageInfo p).owner with
         | none => t
         | some tag =>
           (t.updMem (fun m => { m with maps := m.maps.map (fun pm =>
             if pm.tag = tag then { pm with ents := pm.ents.map (fun e => if e.page = p then { e with rp := true } else e) }
             else pm) })).putMap tag)
      | 2 => if s.mem.migQ.contains p then s else
               (s.updPage p (fun q => { q with rp := true })).updMem (fun m => { m with migQ := m.migQ ++ [p] })
      | _ => s

/-- RELEASE of a tag (R239): its pages join the tail of the free list, retire-pending ones become RETIRED, and its map
blocks are freed. -/
def State.releasePages (s : State) (tag : Nat) : State :=
  match s.pageMap? tag with
  | none => s
  | some m =>
    let t := s.updMem (fun x => { x with maps := x.maps.filter (fun y => y.tag != tag) })
    let t := t.forEach m.ents (fun e t =>
      let q := t.pageInfo e.page
      let t := t.updPage e.page (fun _ => PageInfo.blank)
      if q.rp then t.retirePage e.page
      else t.updMem (fun x => { x with free := x.free ++ [e.page] }))
    (t.showPool).showRetire

/-! ### Views -/

/-- MEM_PSTATE_DATA of a page (R245). -/
def State.pstate (s : State) (p : Nat) : Nat :=
  let q := s.pageInfo p
  s.pageState p + 4 * b2n q.rp + 8 * b2n q.ue + 16 * (q.owner.getD 0) + 2 ^ 18 * s.frameOf p

/-! ### Retention slot descriptors (R71) -/

/-- The 128 bytes of a slot descriptor. -/
def RSlot.bytes (d : RSlot) : List Byte :=
  let pad (n : Nat) (l : List Nat) : List Nat := (l ++ List.replicate n 0).take n
  let body := leBytes 4 d.seq ++ leBytes 1 d.state ++ leBytes 1 d.head ++ leBytes 2 d.flags ++ leBytes 8 d.bell ++
    leBytes 8 (d.lba % 2 ^ 40) ++ leBytes 2 d.dqm ++ leBytes 1 d.fragCount ++ leBytes 1 d.primaryDist ++
    leBytes 2 d.syncPos ++ leBytes 1 d.rescueDist ++ leBytes 1 d.sets ++ leBytes 4 d.trSnap ++ leBytes 2 d.samples ++
    leBytes 2 d.bestPos ++ (pad 16 d.fragOff).flatMap (leBytes 2) ++ (pad 16 d.fragDist).flatMap (leBytes 1) ++
    (pad 4 (d.taSpans.map (fun x => x.1 % 65536 + 65536 * (x.2 % 65536)))).flatMap (leBytes 4) ++
    leBytes 1 d.bestDist ++ List.replicate 19 0
  body ++ leBytes 4 (crc32c body).toNat

/-- The first page of slot `i` of channel `n`: the rings lie in channel-number order of present channels (R70). -/
def State.slotPage (s : State) (n i : Nat) : Nat :=
  let ord := (s.presentChans.filter (fun c => decide (c < n))).length
  s.retRgn.1 + (ord * s.rd RCH_RET_CFG.DEPTH + i) * slotPages s.sys.cfg

/-- Writes the descriptor of slot `i` of channel `n` to the retention store (R70, R71). -/
def State.putSlot (s : State) (n i : Nat) : State :=
  let depth := s.rd RCH_RET_CFG.DEPTH
  let ord := (s.presentChans.filter (fun c => decide (c < n))).length
  let k := ord * depth + i
  let first := s.retRgn.1 + s.presentChans.length * depth * slotPages s.sys.cfg
  s.putTable (first + k / 32) (128 * (k % 32)) ((s.chans.getD n ChanU.init).slots.getD i RSlot.empty).bytes

end Sys2Proof.Machine
end

