-- ==== Sys2Proof/Machine/DecodeOps.lean ====
section
/-! DEFINITION. Operations of the decoder pool that the read channels share: collector records (R100), LLR buffers
(R86), and the rungs of the recovery ladder (R93). -/

namespace Sys2Proof.Machine
open Reg

/-- Writes a record into a source's collector input slot for the bell, which holds 8; a record that finds it full is held until the next
bell (R100: a deep engine's; an UNRECOVERED record takes the slot of the sector's channel, log entry 18). -/
def State.postRec (s : State) (r : CRec) : State :=
  if 8 ≤ (sparseGet [] s.dec.slots r.source).length then
    s.updDec (fun x => { x with heldRecs := x.heldRecs ++ [r] })
  else s.updDec (fun x => { x with slots := sparseSet [] x.slots r.source (sparseGet [] x.slots r.source ++ [r]) })

/-- The first free LLR buffer (R86). -/
def State.freeBuf (s : State) : Option Nat := s.dec.bufs.findIdx? (fun b => b.isNone)

/-- Frees an LLR buffer. -/
def State.releaseBuf (s : State) (b : Option Nat) : State :=
  match b with
  | none => s
  | some i => s.updDec (fun x => { x with bufs := listSet x.bufs i none })

/-- Sets a DEC_STATUS bit. -/
def State.decBit (s : State) (f : Fld) : State := s.raiseBit f DEC_INT_EN

/-- Engine `n` is in service: EN set and not fenced. -/
def State.engInService (s : State) (n : Nat) : Bool := s.on (DEC_CTRL.EN n) && !s.on (DEC_ESTATUS.FENCED n)

/-- Shows the engines in service (R105); when they fall below twelve quick engines or to no deep engine, DEC_CAPACITY is
raised (R104). -/
def State.showService (s : State) : State :=
  let q := (List.range 32).filter s.engInService
  let d := [0, 1, 2, 3].filter (fun i => s.engInService (32 + i))
  let shown := s.rd DEC_IN_SERVICE.MASK
  let was := decide (shown ≠ 0) && decide (((List.range 32).filter (fun i => bitOf shown i)).length < 12 ∨ s.rd DEC_IN_SERVICE_DEEP.MASK = 0)
  let t := s.wrs [(DEC_IN_SERVICE.MASK, q.foldl (fun a i => a + 2 ^ i) 0), (DEC_IN_SERVICE_DEEP.MASK, d.foldl (fun a i => a + 2 ^ i) 0)]
  if !was && (decide (q.length < 12) || d.isEmpty) then (t.decBit DEC_STATUS.CAPACITY).raise0 0x092 else t

/-- Deep engines in service. -/
def State.deepInService (s : State) : List Nat := ([32, 33, 34, 35]).filter s.engInService
/-- Quick engines in service. -/
def State.quickInService (s : State) : List Nat := (List.range 32).filter s.engInService

/-- The descriptor of a retention slot. -/
def State.slotOf (s : State) (n i : Nat) : RSlot := (s.chan n).slots.getD i RSlot.empty

/-- The slot a sector names still holds it: COMPLETE with the same SEQ (R93, R96). -/
def State.slotHolds (s : State) (d : DSect) : Bool :=
  match d.slot with
  | none => false
  | some (i, q) => (s.slotOf d.chan i).state == 2 && (s.slotOf d.chan i).seq == q

/-- Sends a sector to the re-read rung; a backlog re-read is not charged (R92, R97). -/
def State.toReread (s : State) (d : DSect) (charged : Bool) : State :=
  s.updDec (fun x => { x with rereadQ := x.rereadQ ++ [({ d with buf := none }, charged)] })

/-- A backlog re-read (R92, R96). -/
def State.backlogReread (s : State) (d : DSect) : State :=
  ((s.toReread d false).decBit DEC_STATUS.BACKLOG_REREAD).inc DEC_REREAD_CNT.BACKLOG

/-- Inserts a sector into the deep queue in the order of class, then age (R95). -/
def insertDeep (d : DSect) : List DSect → List DSect
  | [] => [d]
  | e :: l => if d.cls < e.cls ∨ (d.cls = e.cls ∧ d.age < e.age) then d :: e :: l else e :: insertDeep d l

/-- The recovery limit of a sector's command (R98). -/
def State.limitOf (s : State) (tok : Nat) : Nat := ((s.cmd? (tokTag tok)).map (fun c => c.limit)).getD 0

/-- The ladder stops by the command's recovery limit: the sector is unrecovered, LIMITED (R98). -/
def State.limitStop (s : State) (d : DSect) : State :=
  (s.updCmd (tokTag d.token) (fun c => { c with limited := true })).toReread d true

/-- Rung 3 (R93): the re-read rung. Every recovery limit but 0 stops the ladder before it (R98, R351). -/
def State.rung3 (s : State) (d : DSect) : State :=
  if s.limitOf d.token ≠ 0 then s.limitStop d else s.toReread d true

/-- Holds a slot for the pool (R73): granted only when its SEQ matches and fewer than DEPTH − 1 slots of the channel
are held; otherwise the request waits. -/
def State.holdSlot (s : State) (n i q : Nat) : State :=
  let d := s.slotOf n i
  let held := ((s.chan n).slots.filter (fun x => x.held)).length
  if d.seq ≠ q ∨ d.state ≠ 2 ∨ d.held then s
  else if held + 1 < s.rd RCH_RET_CFG.DEPTH then
    s.updChan n (fun c => { c with slots := listModify c.slots i (fun x => { x with held := true }) })
  else s.updChan n (fun c => { c with holdWaits := c.holdWaits ++ [(i, q)] })

/-- The slot a sector names is held for its read (R73). -/
def State.slotHeld (s : State) (d : DSect) : Bool :=
  match d.slot with
  | none => false
  | some (i, _) => (s.slotOf d.chan i).held

/-- A hold ends, or the request that waits for it leaves (R73). -/
def State.releaseHold (s : State) (n i : Nat) : State :=
  s.updChan n (fun c => { c with slots := listModify c.slots i (fun x => { x with held := false }),
                                 holdWaits := c.holdWaits.filter (fun e => e.1 != i) })

/-- A sector's hold or request for one ends. -/
def State.unhold (s : State) (d : DSect) : State :=
  match d.slot with
  | none => s
  | some (i, _) => s.releaseHold d.chan i

/-- Shows the deep queue, the pending trials and the busy deep engines in DEC_DEEP_STAT. -/
def State.showDeep (s : State) : State :=
  let busy := ([0, 1, 2, 3].filter (fun i => (s.eng (32 + i)).job.isSome)).foldl (fun a i => a + 2 ^ i) 0
  s.wrs [(DEC_DEEP_STAT.DEPTH, s.dec.deepQ.length), (DEC_DEEP_STAT.TRIALS, satU 4 s.dec.trialQ.length), (DEC_DEEP_STAT.BUSY, busy)]

/-- Gives an engine a job and shows it busy. -/
def State.startJob (s : State) (e : Nat) (d : DSect) (ph : EPhase) (limit : Nat) : State :=
  (s.updEng e (fun g => { g with job := some (d, ph), iter := 0, limit := limit, dropping := false })).wrs
    [(DEC_ESTATUS.BUSY e, 1), (DEC_ESTATUS.CUR_ITER e, 0)]

/-- Starts a re-alignment trial on a deep engine, when the slot still holds the sector (R94, R73); else the sector goes to
the re-read rung (R93). -/
def State.startTrial (s : State) (e : Nat) (d : DSect) : State :=
  match d.slot, d.shifts with
  | some (i, q), sh :: rest =>
    if s.slotHolds d then (s.holdSlot d.chan i q).startJob e { d with shift := sh, shifts := rest } .trialLoad 0
    else s.rung3 d
  | _, _ => s.rung3 d

/-- Starts a deep decode on a deep engine; a slot that no longer holds the sector refuses the hold (R96). -/
def State.startDeep (s : State) (e : Nat) (d : DSect) : State :=
  match d.slot with
  | some (i, q) =>
    if s.slotHolds d then (s.holdSlot d.chan i q).startJob e d .deepLoad (s.rd DEC_CFG.DEEP_MAX) else s.backlogReread d
  | none => s.rung3 d

/-- Gives idle deep engine `e` the next pending trial, else the next queued deep decode (R94, R95). -/
def State.feedDeep (s : State) (e : Nat) : Nat → State
  | 0 => s
  | fuel + 1 =>
    if (s.eng e).job.isSome || !s.engInService e then s
    else match s.dec.trialQ, s.dec.deepQ with
      | d :: l, _ => ((s.updDec (fun x => { x with trialQ := l })).startTrial e d).feedDeep e fuel
      | [], d :: l => ((s.updDec (fun x => { x with deepQ := l })).startDeep e d).feedDeep e fuel
      | [], [] => s

/-- Gives every idle deep engine in service its next work. -/
def State.dispatchDeep (s : State) : State :=
  (s.forEach [32, 33, 34, 35] (fun e t => t.feedDeep e (t.dec.trialQ.length + t.dec.deepQ.length + 1))).showDeep

/-- Rung 2 (R93, R95): the deep queue, when DEEP_EN is set, a deep engine is in service and the slot still holds the
sector; a full queue goes to rung 3; a recovery limit of 2 or 3 stops here (R98, R351). -/
def State.rung2 (s : State) (d : DSect) (shift : Int) : State :=
  let s := s.releaseBuf d.buf
  let d := { d with buf := none, shift := shift, fromTrial := false }
  if 2 ≤ s.limitOf d.token then s.limitStop d
  else if d.slot.isNone || !s.on DEC_RETRY_CFG.DEEP_EN || s.deepInService.isEmpty then s.rung3 d
  else if !s.slotHolds d then s.rung3 d
  else if 256 ≤ s.dec.deepQ.length then s.rung3 d
  else
    (s.updDec (fun x => { x with deepQ := insertDeep d x.deepQ })).dispatchDeep

/-- The order of re-alignment shifts (R94). -/
def alignShifts (best sync : Nat) : List Int :=
  let f : Int := (best : Int) - (sync : Int)
  let base : List Int := [1, -1, 2, -2, 3, -3, 4, -4]
  if f ≠ 0 ∧ -4 ≤ f ∧ f ≤ 4 then f :: base.filter (fun x => x ≠ f) else base

/-- Rung 1 (R94): a pending trial; URGENT sectors go to the front (R103). A recovery limit of 3 stops here (R351). -/
def State.rung1 (s : State) (d : DSect) : State :=
  let s := s.releaseBuf d.buf
  let d := { d with buf := none, shifts := alignShifts d.bestPos d.syncPos }
  if s.limitOf d.token = 3 then s.limitStop d
  else if s.deepInService.isEmpty then s.rung3 d
  else if !s.slotHolds d then s.rung3 d
  else
    (s.updDec (fun x => { x with trialQ := if d.cls = 0 then d :: x.trialQ else x.trialQ ++ [d] })).dispatchDeep

end Sys2Proof.Machine
end

