-- ==== Sys2Proof/Machine/Dram.lean ====
section
/-! DEFINITION. The DRAM map, the burst code and the channels (R246, R262 to R269), and the coherent access to DRAM
addresses that the units of the K4 share. -/

namespace Sys2Proof.Machine
open Reg

/-! ### The map (R246) -/

/-- Bytes of one channel: ranks × 8 data devices of 8, 16 or 32 Gb (R262). -/
def State.dramCap (s : State) : Nat := s.sys.cfg.ranks * (8 * 2 ^ s.sys.cfg.density) * 2 ^ 30

/-- The mirrored size M in bytes. -/
def State.mirSize (s : State) : Nat := s.rd DDR_MAP_CFG.MIR_SIZE * 2 ^ 30

/-- The size of the DRAM address space. -/
def State.dramSize (s : State) : Nat :=
  if s.rd DDR_MAP_CFG.CHANNELS = 3 then s.mirSize + 2 * (s.dramCap - s.mirSize - 2 ^ 20) else s.dramCap - 2 ^ 20

/-- Where a line lies: (channel, byte offset) of each copy; the first is the one read first (R246, R266). -/
def State.linePlace (s : State) (line : Nat) : List (Nat × Nat) :=
  let m := s.mirSize / 128
  let chs := s.rd DDR_MAP_CFG.CHANNELS
  if chs = 3 then
    if line < m then (if line % 2 = 0 then [(0, 128 * line), (1, 128 * line)] else [(1, 128 * line), (0, 128 * line)])
    else [((line - m) % 2, s.mirSize + 128 * ((line - m) / 2))]
  else [((if chs = 2 then 1 else 0), 128 * line)]

/-- A line lies in the map. -/
def State.lineMapped (s : State) (line : Nat) : Bool := decide (128 * (line + 1) ≤ s.dramSize)

/-- Updates the cache and DRAM unit. -/
def State.updDram (s : State) (f : DramU → DramU) : State := { s with dram := f s.dram }
/-- DRAM channel `c`. -/
def State.ddr (s : State) (c : Nat) : DdrCh := s.dram.ch.getD c DdrCh.init
/-- Updates DRAM channel `c`. -/
def State.updDdr (s : State) (c : Nat) (f : DdrCh → DdrCh) : State :=
  s.updDram (fun d => { d with ch := listModify d.ch c f })
/-- A channel is fenced. -/
def State.ddrFenced (s : State) (c : Nat) : Bool := s.on (DDR_STATUS.FENCED c)

/-! ### The burst code (R263, R264, R265) -/

/-- The device of a symbol (R263). -/
def symbolDevice (i : Nat) : Nat := if i < 64 then i % 8 else 8 + (i - 64) % 2

/-- The rank a byte offset lies in. -/
def State.rankOf (s : State) (ofs : Nat) : Nat := if s.dramCap / s.sys.cfg.ranks ≤ ofs then 1 else 0

/-- The marked device of a channel's rank; 15 for none. -/
def State.markOf (s : State) (c rank : Nat) : Nat := s.rd (if rank = 0 then DDR_STATUS.MARK_DEV c else DDR_STATUS.MARK_DEV1 c)

/-- What the code makes of a burst: 0 good, 1 uncorrectable, 2 poisoned, 3 corrected (R263, R264). -/
def burstResult (b : DBurst) (mark : Nat) : Nat :=
  let es := b.errs.filter (fun e => e.2 % 256 != 0)
  if es.isEmpty then (if b.poison then 2 else 0)
  else if b.poison then 1
  else if mark < 10 then (if (es.filter (fun e => symbolDevice e.1 != mark)).length ≤ 4 then 3 else 1)
  else if es.length ≤ 8 then 3 else 1

/-- The one device that holds every error of a burst, if one does. -/
def oneDevice (b : DBurst) : Option Nat :=
  match b.errs.filter (fun e => e.2 % 256 != 0) with
  | [] => none
  | e :: es => if es.all (fun x => symbolDevice x.1 == symbolDevice e.1) then some (symbolDevice e.1) else none

/-- The bytes of a channel from an offset. -/
def DdrCh.read (d : DdrCh) (ofs n : Nat) : List Byte := (List.range n).map (fun i => sparseGet (0 : Byte) d.bytes (ofs + i))

/-- The burst at a byte offset. -/
def DdrCh.burst (d : DdrCh) (ofs : Nat) : DBurst := sparseGet DBurst.blank d.bursts (ofs / 64)

/-- One symbol error joins those of a burst: a second one in the same symbol adds to the first; what cancels is gone. -/
def addSymbol (es : List (Nat × Nat)) (i v : Nat) : List (Nat × Nat) :=
  let x := ((es.find? (fun e => e.1 == i)).map (fun e => e.2)).getD 0 ^^^ v % 256
  let rest := es.filter (fun e => e.1 != i)
  if 80 ≤ i then es else if x = 0 then rest else rest ++ [(i, x)]

/-- Adds symbol errors to a burst. -/
def DdrCh.upset (d : DdrCh) (ofs : Nat) (l : List (Nat × Nat)) : DdrCh :=
  if l.isEmpty then d
  else { d with bursts := sparseSet DBurst.blank d.bursts (ofs / 64) { d.burst ofs with errs := l.foldl (fun es e => addSymbol es e.1 e.2) (d.burst ofs).errs } }

/-- Stores the enabled bytes of a burst as one correct codeword, or with the poison signature (R264). A partial write of a
burst that was poisoned or uncorrectable leaves it poisoned (log entry 14). -/
def DdrCh.writeBurst (d : DdrCh) (mark ofs : Nat) (bs : List (Option Byte)) (poison : Bool) : DdrCh :=
  let full := bs.all (fun b => b.isSome)
  let r := burstResult (d.burst ofs) mark
  let p := poison || (!full && (r == 1 || r == 2))
  let m := ((List.range bs.length).zip bs).foldl (fun m e => match e.2 with
    | none => m
    | some b => sparseSet (0 : Byte) m (ofs + e.1) b) d.bytes
  { d with bytes := m, bursts := sparseSet DBurst.blank d.bursts (ofs / 64) { poison := p, errs := [] } }

/-- Charges a corrected burst to the device that holds every error in it (R263). -/
def State.chargeDev (s : State) (c ofs : Nat) : State :=
  match oneDevice ((s.ddr c).burst ofs) with
  | none => s
  | some v => s.updDdr c (fun d =>
      let k := s.rankOf ofs * 16 + v
      { d with devCnt := sparseSet 0 d.devCnt k (satU 16 (sparseGet 0 d.devCnt k + 1)) })

/-- A DDR_n_STATUS bit with its interrupt. -/
def State.ddrBit (s : State) (c : Nat) (f : Nat → Fld) : State := s.raiseBit (f c) (DDR_INT_EN c)

/-- Reports a corrected burst read on a channel. -/
def State.ddrCorrected (s : State) (c ofs : Nat) (injected : Bool) : State :=
  let t := ((s.ddrBit c DDR_STATUS.CE).inc (DDR_ERR_CNT.CE c)).chargeDev c ofs
  t.raiseSrc (0x179 + c) { ctx0 with addr := some ofs, port := 12, access := 5, detail := c, injected := injected }

/-! ### Channel fence (R269) -/

/-- Fences a DRAM channel: FENCED, its unit marked, DDR_CHANNEL raised; write-back caching is off until the next start (R358). -/
def State.markDdrFence (s : State) (c : Nat) : State :=
  if s.ddrFenced c then s
  else
    let s : State := if s.sch.wbOn then { s with sch := { s.sch with wbOn := false, wbForced := true } } else s
    ((s.setB (DDR_STATUS.FENCED c)).markFenced (.dram (Fin.ofNat 2 c))).raiseSrc (0x17E + c) { ctx0 with detail := c }

/-! ### Coherent access by the units of the K4 (R253, R259, log entry 13) -/

/-- The sets of the cache (R249). -/
def State.cacheSets (s : State) : Nat := s.rd MEM_CACHE_RGN.SIZE * 512
/-- Way `k` of the cache, by set × 16 + way. -/
def State.way (s : State) (k : Nat) : CWay := sparseGet CWay.blank s.dram.ways k
/-- Updates way `k`. -/
def State.updWay (s : State) (k : Nat) (f : CWay → CWay) : State :=
  s.updDram (fun d => { d with ways := sparseSet CWay.blank d.ways k (f (sparseGet CWay.blank d.ways k)) })

/-- The way that holds a line (R250). -/
def State.findWay (s : State) (line : Nat) : Option Nat :=
  let n := s.cacheSets
  if n = 0 then none
  else ((List.range 16).map (fun w => line % n * 16 + w)).find? (fun k =>
    (s.way k).valid && !(s.way k).reserved && (s.way k).tag == line / n)

/-- The page and offset of the data of way `k` in the cache region (R249). -/
def State.wayAt (s : State) (k : Nat) : Nat × Nat := (s.cacheRgn.1 + k / 32, 128 * (k % 32))

/-- The frame address of the data of way `k`. -/
def State.wayCell (s : State) (k : Nat) : Nat := s.frameOf (s.wayAt k).1 * 4096 + (s.wayAt k).2

/-- Puts enabled bytes into a list of bytes from an offset. -/
def mergeBytes (old : List Byte) (ofs : Nat) (bs : List (Option Byte)) : List Byte :=
  ((List.range old.length).zip old).map (fun e =>
    if ofs ≤ e.1 ∧ e.1 < ofs + bs.length then ((bs.getD (e.1 - ofs) none).getD e.2) else e.2)

/-- The bytes of way `k` as XP12 reads them from the cache region, and whether each half holds an uncorrectable byte (R264). -/
def State.wayData (s : State) (k : Nat) : List Byte × (Bool × Bool) :=
  let r := s.mem.readCells (s.wayCell k) 128
  (r.1, ((r.2.take 64).any id, (r.2.drop 64).any id))

/-- What the read of the data of way `k` through XP12 reports: the errors of its four words (R232). -/
def State.wayReport (s : State) (k : Nat) : State :=
  let at_ := s.wayAt k
  s.forEach [0, 1, 2, 3] (fun i t => t.reportWord 12 0 at_.1 (t.frameOf at_.1) (at_.2 / 32 + i) false)

/-- The 128 bytes a master sees at a line, and the poison of its halves: from its way, the victim buffer, or the first
good copy in DRAM; a clean way with an uncorrectable byte gives way to DRAM (R264). -/
def State.lineView (s : State) (line : Nat) : List Byte × (Bool × Bool) :=
  let good (k : Nat) : Bool := (s.way k).dirty || !((s.wayData k).2.1 || (s.wayData k).2.2)
  match (s.findWay line).filter good with
  | some k => ((s.wayData k).1, ((s.way k).poison.1 || (s.wayData k).2.1, (s.way k).poison.2 || (s.wayData k).2.2))
  | none =>
    match s.dram.victims.find? (fun v => v.line == line) with
    | some v => (v.data, v.poison)
    | none =>
      let half (h : Nat) : List Byte × Bool :=
        let cs := (s.linePlace line).filter (fun p => !s.ddrFenced p.1)
        match cs.find? (fun p => let r := burstResult ((s.ddr p.1).burst (p.2 + 64 * h)) (s.markOf p.1 (s.rankOf p.2))
                                 r == 0 || r == 3) with
        | some p => ((s.ddr p.1).read (p.2 + 64 * h) 64, false)
        | none => (match cs with
          | p :: _ => ((s.ddr p.1).read (p.2 + 64 * h) 64, true)
          | [] => (List.replicate 64 0xFF, true))
      -- Write-backs that no channel has answered yet hold newer bytes.
      let data := (s.dram.writes.filter (fun w => w.line == line)).foldl (fun b w => mergeBytes b 0 w.data) ((half 0).1 ++ (half 1).1)
      (data, ((half 0).2, (half 1).2))

/-- A write enables every byte of half `h` of a line. -/
def coversHalf (ofs : Nat) (bs : List (Option Byte)) (h : Nat) : Bool :=
  (List.range 64).all (fun i => decide (ofs ≤ 64 * h + i) && ((bs.getD (64 * h + i - ofs) none).isSome))

/-- Writes the enabled bytes of a line where it lies: its way (DIRTY), the victim entry, or DRAM. -/
def State.lineStore (s : State) (line ofs : Nat) (bs : List (Option Byte)) : State :=
  match s.findWay line with
  | some k =>
    let base := s.wayCell k
    let t := s.updMem (fun m => ((List.range bs.length).zip bs).foldl (fun m e => match e.2 with
      | none => m
      | some b => m.store (base + ofs + e.1) b) m)
    t.updWay k (fun w =>
      { w with dirty := true, poison := (w.poison.1 && !coversHalf ofs bs 0, w.poison.2 && !coversHalf ofs bs 1) })
  | none =>
    let s := s.updDram (fun d => { d with victims := d.victims.map (fun v =>
      if v.line = line then { v with data := mergeBytes v.data ofs bs } else v) })
    let s := s.updDram (fun d => { d with writes := d.writes.map (fun w =>
      if w.line = line then { w with data := ((List.range w.data.length).zip w.data).map (fun e =>
        if ofs ≤ e.1 ∧ e.1 < ofs + bs.length ∧ e.2.isSome ∧ (bs.getD (e.1 - ofs) none).isSome then bs.getD (e.1 - ofs) none else e.2) }
      else w) })
    let whole : List (Option Byte) := List.replicate ofs none ++ bs ++ List.replicate (128 - ofs - bs.length) none
    s.forEach ((s.linePlace line).filter (fun p => !s.ddrFenced p.1)) (fun p t =>
      t.updDdr p.1 (fun d =>
        let mk := t.markOf p.1 (t.rankOf p.2)
        let d := if (whole.take 64).any (fun b => b.isSome) then d.writeBurst mk p.2 (whole.take 64) false else d
        if (whole.drop 64).any (fun b => b.isSome) then d.writeBurst mk (p.2 + 64) (whole.drop 64) false else d))

/-- The first buffer address of DRAM (R246). -/
def dramBase : Nat := 0x04000000

/-- The bytes of an access of `n` bytes at `addr` that lie in one page of the SRAM or one line of the DRAM map. -/
def pieceLen (addr n : Nat) : Nat := min n (if addr < dramBase then 4096 - addr % 4096 else 128 - (addr - dramBase) % 128)

/-- Reads a piece that lies in one page or one line. -/
def State.readPiece (s : State) (port chan addr c : Nat) : State × BufResp :=
  if addr < dramBase then s.readPage port chan (addr / 4096) (addr % 4096) c
  else
    let line := (addr - dramBase) / 128
    let o := (addr - dramBase) % 128
    if !s.lineMapped line then (s.accessError port 0 0, { data := List.replicate c 0xFF, ue := List.replicate c false, err := true })
    else
      let v := s.lineView line
      (s.when (s.findWay line).isSome (fun t => t.wayReport ((s.findWay line).getD 0)), { data := (v.1.drop o).take c, ue := (List.range c).map (fun i => if o + i < 64 then v.2.1 else v.2.2), err := false })

/-- A unit reads `n` bytes from a buffer address, SRAM or DRAM; `fuel` bounds the pages or lines. -/
def State.readAny (s : State) (port chan : Nat) : Nat → Nat → Nat → State × BufResp
  | 0, _, _ => (s, { data := [], ue := [], err := false })
  | fuel + 1, addr, n =>
    if n = 0 then (s, { data := [], ue := [], err := false })
    else
      let c := pieceLen addr n
      let p := s.readPiece port chan addr c
      let q := p.1.readAny port chan fuel (addr + c) (n - c)
      (q.1, { data := p.2.data ++ q.2.data, ue := p.2.ue ++ q.2.ue, err := p.2.err || q.2.err })

/-- Writes a piece that lies in one page or one line. -/
def State.writePiece (s : State) (port addr : Nat) (bs : List Byte) : State × Bool :=
  if addr < dramBase then s.writePage port (addr / 4096) (addr % 4096) bs
  else if s.lineMapped ((addr - dramBase) / 128) then
    (s.lineStore ((addr - dramBase) / 128) ((addr - dramBase) % 128) (bs.map some), false)
  else (s.accessError port 0 0, true)

/-- A unit writes bytes to a buffer address, SRAM or DRAM; `fuel` bounds the pages or lines. -/
def State.writeAny (s : State) (port : Nat) : Nat → Nat → List Byte → State × Bool
  | 0, _, _ => (s, false)
  | fuel + 1, addr, bs =>
    if bs.isEmpty then (s, false)
    else
      let c := pieceLen addr bs.length
      let p := s.writePiece port addr (bs.take c)
      let q := p.1.writeAny port fuel (addr + c) (bs.drop c)
      (q.1, p.2 || q.2)

/-- The buffer address of the trailer of the page at a buffer address (R240). -/
def State.trailerAddr (s : State) (addr : Nat) : Nat :=
  if addr < dramBase then 4096 * s.rd MEM_TRAIL_CFG.BASE + 16 * (addr / 4096)
  else dramBase + s.mirSize - s.mirSize / 256 + 16 * ((addr - dramBase) / 4096)

/-- The unit that fills a page bound for the media writes its trailer (R240). -/
def State.putTrailer (s : State) (port addr tag crc : Nat) : State :=
  (s.writeAny port 8 (s.trailerAddr addr) (leBytes 8 tag ++ leBytes 4 crc ++ leBytes 4 0)).1

end Sys2Proof.Machine
end

