-- ==== Sys2Proof/Machine/QuayBase.lean ====
section
/-! DEFINITION. Frames of the Quay fabric and the ports' send side (chapter 18): header and fill (R406, R407), credits and the
choice of the next frame (R416, R417), sequence numbers (R418), and opening a transfer (R420). -/

namespace Sys2Proof.Machine
open Reg

/-- Updates the Quay engine. -/
def State.updQfb (s : State) (f : QfbU → QfbU) : State := { s with qfb := f s.qfb }
/-- Quay port `p`. -/
def State.qport (s : State) (p : Nat) : QPortU := s.qfb.ports.getD p QPortU.init
/-- Updates Quay port `p`. -/
def State.updQport (s : State) (p : Nat) (f : QPortU → QPortU) : State :=
  s.updQfb (fun q => { q with ports := listModify q.ports p f })
/-- A QFB_STATUS bit with its interrupt. -/
def State.qfbBit (s : State) (f : Fld) : State := s.raiseBit f QFB_INT_EN
/-- A QFB_p_STATUS bit with its interrupt: the enable bits have the positions of the status bits. -/
def State.qportBit (s : State) (p : Nat) (f : Nat → Fld) : State := s.raiseBit (f p) (QFB_PINT_EN p)

/-- The device serial number (R306). -/
def State.serial (s : State) : Nat := s.sys.fuses.serial

/-! ### Frames -/

/-- The first 20 bytes of a header (R407). -/
def QFrame.head (f : QFrame) : List Byte :=
  leBytes 1 f.typ ++ leBytes 1 (f.cls % 4 + 4 * (f.ttl % 32)) ++ leBytes 2 (f.dst % 1024) ++ leBytes 2 (f.src % 1024) ++
  leBytes 2 f.seq ++ leBytes 4 f.xid ++ leBytes 4 f.ofs ++ leBytes 2 f.payload.length ++ leBytes 2 0

/-- The bytes of a frame after its start control block (R406). -/
def QFrame.bytes (f : QFrame) : List Byte :=
  let b := f.head ++ leBytes 4 (crc32c f.head).toNat ++ f.payload ++
    (if f.payload.isEmpty then [] else leBytes 4 (crc32c f.payload).toNat)
  b ++ List.replicate ((8 - b.length % 8) % 8) 0

/-- A receive slot of a class is free again (R417). -/
def State.freeSlot (s : State) (p cls : Nat) : State :=
  s.updQport p (fun u => { u with freedAt := if u.freed.all (fun n => n == 0) then s.sys.time else u.freedAt,
                                  freed := listModify u.freed cls (fun n => n + 1) })

/-- A frame leaves port `p`. -/
def State.qEmit (s : State) (p : Nat) (f : QFrame) : State :=
  (s.updQport p (fun u => { u with lastTx := s.sys.time })).emit (.quayFrame p f.bytes)

/-- Sends a control frame to the neighbour of port `p`, when the port is UP or TRAINING (R407, R408). -/
def State.qCtl (s : State) (p typ : Nat) (payload : List Byte) : State :=
  let valid := s.on QFB_ADDR.VALID
  let st := s.rd (QFB_PSTATUS.STATE p)
  if st = 3 ∨ st = 2 then
    s.qEmit p { typ := typ, cls := 3, ttl := 16,
                dst := if valid && s.on (QFB_PEER.VALID p) then s.rd (QFB_PEER.ADDR p) else 0x3FF,
                src := if valid then s.rd QFB_ADDR.ADDR else 0x3FF, seq := 0, xid := 0, ofs := 0, payload := payload }
  else s

/-! ### The send side -/

/-- The route to a quay address (R414). -/
def State.route? (s : State) (q : Nat) : Option Route :=
  (s.qfb.routes.find? (fun e => e.1 == q)).map (fun e => e.2)

/-- Frames to this destination wait for ROUTE_QUIET after its next hop changed (R418). -/
def State.inQuiet (s : State) (dst : Nat) : Bool :=
  s.qfb.changed.any (fun e => e.1 == dst && decide (s.sys.time < e.2 + s.rd QFB_TIMER_CFG.ROUTE_QUIET * 25000))

/-- An entry of a send queue that may go now. -/
def State.canSend (s : State) (u : QPortU) (c : Nat) (e : QEnt) : Bool :=
  e.frame.cls == c && decide (0 < u.credits.getD c 0) && (e.relayed || !s.inQuiet e.frame.dst)

/-- The weight of a class (R416). -/
def State.qWeight (s : State) (c : Nat) : Nat :=
  if c = 0 then s.rd QFB_ARB_CFG.W0 else if c = 1 then s.rd QFB_ARB_CFG.W1 else s.rd QFB_ARB_CFG.W2

/-- The class to serve next on a port, with the weights left: weighted round robin over the classes that can send. -/
def State.qPick (s : State) (u : QPortU) : Option (Nat × List Nat) :=
  let ready := [0, 1, 2].filter (fun c => u.sendQ.any (s.canSend u c))
  match ready.find? (fun c => decide (0 < u.wrr.getD c 0)) with
  | some c => some (c, listModify u.wrr c (fun w => w - 1))
  | none =>
    match ready with
    | [] => none
    | c :: _ => some (c, listModify ([0, 1, 2].map s.qWeight) c (fun w => w - 1))

/-- Sends what the credits of port `p` allow; `fuel` bounds the frames. -/
def State.qPump (s : State) (p : Nat) : Nat → State
  | 0 => s
  | fuel + 1 =>
    let u := s.qport p
    if s.rd (QFB_PSTATUS.STATE p) ≠ 3 then s
    else match s.qPick u with
      | none => s
      | some (c, w) =>
        let want := !(u.lastRelay.getD c false)
        -- Relayed and local frames alternate within a class.
        let i := match u.sendQ.findIdx? (fun e => s.canSend u c e && e.relayed == want) with
          | some i => some i
          | none => u.sendQ.findIdx? (s.canSend u c)
        (match i with
         | none => s
         | some i =>
           match u.sendQ[i]? with
           | none => s
           | some e =>
             let t := s.updQport p (fun u => { u with
               sendQ := u.sendQ.eraseIdx i, credits := listModify u.credits c (fun n => n - 1), wrr := w,
               lastRelay := listSet u.lastRelay c e.relayed })
             let t := if e.relayed then t.freeSlot e.inPort c else t
             (t.qEmit p e.frame).qPump p fuel)

/-- Pumps every port. -/
def State.qPumpAll (s : State) : State := s.forEach [0, 1, 2, 3] (fun p t => t.qPump p (t.qport p).sendQ.length)

/-- Queues a frame at the next-hop port of its destination and sends what may go; `inp` is the port a relayed frame came in on. -/
def State.qQueue (s : State) (f : QFrame) (inp : Option Nat) : State :=
  match s.route? f.dst with
  | none => s
  | some r =>
    let t := s.updQport r.port (fun u => { u with sendQ := u.sendQ ++ [{ frame := f, relayed := inp.isSome, inPort := inp.getD 0, since := s.sys.time }] })
    t.qPump r.port ((t.qport r.port).sendQ.length)

/-- Sends a data-class frame of this K4's own: it takes the next SEQ of its destination and class (R407, R418). -/
def State.qSend (s : State) (dst cls typ xid ofs : Nat) (payload : List Byte) : State :=
  let k := dst * 4 + cls
  let n := sparseGet 0 s.qfb.sendSeq k
  let t := s.updQfb (fun q => { q with sendSeq := sparseSet 0 q.sendSeq k ((n + 1) % 65536) })
  t.qQueue { typ := typ, cls := cls, ttl := 16, dst := dst, src := s.rd QFB_ADDR.ADDR, seq := n, xid := xid, ofs := ofs,
             payload := payload } none

/-- Sends transfer data in DATA frames of at most 512 bytes; `fuel` bounds the frames. -/
def State.qSendData (s : State) (dst cls xid : Nat) : Nat → Nat → List Byte → State
  | 0, _, _ => s
  | fuel + 1, ofs, bs =>
    if bs.isEmpty then s
    else (s.qSend dst cls 0x01 xid ofs (bs.take 512)).qSendData dst cls xid fuel (ofs + 512) (bs.drop 512)

/-! ### Transfers -/

/-- Shows the open transfers and outcome entries. -/
def State.showXfer (s : State) : State :=
  s.wrs [(QFB_XFER_STAT.OUTBOUND, s.qfb.outs.length), (QFB_XFER_STAT.INBOUND, s.qfb.ins.length),
    (QFB_XFER_STAT.OUTCOMES, s.qfb.outcomes.length)]

/-- Outbound transfer `xid`. -/
def State.xout? (s : State) (xid : Nat) : Option XOut := s.qfb.outs.find? (fun x => x.xid == xid)
/-- Updates outbound transfer `xid`. -/
def State.updXout (s : State) (xid : Nat) (f : XOut → XOut) : State :=
  s.updQfb (fun q => { q with outs := q.outs.map (fun x => if x.xid = xid then f x else x) })
/-- Closes outbound transfer `xid`. -/
def State.dropXout (s : State) (xid : Nat) : State :=
  (s.updQfb (fun q => { q with outs := q.outs.filter (fun x => x.xid != xid) })).showXfer

/-- Opens an outbound transfer, of at most 128 (R420), with its request frame when its work has one. XFER_IDs count up
(DESIGN CHOICE, log entry 28). -/
def State.openXfer (s : State) (work : XWork) (dst cls : Nat) (typ : Nat) (payload : List Byte) : Option (State × Nat) :=
  if 128 ≤ s.qfb.outs.length then none
  else
    let xid := s.qfb.nextXid
    let req : Option QFrame := if typ = 0 then none else
      some { typ := typ, cls := cls, ttl := 16, dst := dst, src := 0, seq := 0, xid := xid, ofs := 0, payload := payload }
    let x : XOut :=
      { xid := xid, work := work, dst := dst, cls := cls, phase := .running, data := [], total := 0, last := s.sys.time,
        retryFrom := none, retries := 0, refused := 0, req := req }
    let t := s.updQfb (fun q => { q with nextXid := (q.nextXid + 1) % 2 ^ 32, outs := q.outs ++ [x] })
    let t := t.showXfer
    some (if typ = 0 then t else t.qSend dst cls typ xid 0 payload, xid)

/-- Sends the COMMIT of a transfer: its total and the CRC-32C of its data (R408, R423). -/
def State.qCommit (s : State) (dst cls xid : Nat) (data : List Byte) : State :=
  s.qSend dst cls 0x02 xid 0 (leBytes 4 data.length ++ leBytes 4 (crc32c data).toNat)

/-- Sends a RESULT (R408). -/
def State.qResult (s : State) (dst cls xid status : Nat) (retry noXfer : Bool) (lba : Nat) : State :=
  s.qSend dst cls 0x03 xid 0 (leBytes 1 status ++ leBytes 2 (b2n retry + 2 * b2n noXfer) ++ leBytes 5 lba)

end Sys2Proof.Machine
end

