-- ==== Sys2Proof/Machine/Lighter.lean ====
section
/-! DEFINITION. Meanings of the Lighter commands (chapter 12). -/

namespace Sys2Proof.Machine
open Reg

/-- Updates the Lighter. -/
def State.updLgt (s : State) (f : LgtU → LgtU) : State := { s with lgt := f s.lgt }
/-- Channel `n`. -/
def State.lgtCh (s : State) (n : Nat) : LgtCh := s.lgt.chans.getD n LgtCh.init
/-- Updates channel `n`. -/
def State.updCh (s : State) (n : Nat) (f : LgtCh → LgtCh) : State :=
  s.updLgt (fun l => { l with chans := listModify l.chans n f })
/-- Updates the records of channel `n`. -/
def State.updRecs (s : State) (n : Nat) (f : List LRec → List LRec) : State := s.updCh n (fun c => { c with recs := f c.recs })

/-! ### Records -/

/-- A host-bound record. -/
def LRec.hostBound (r : LRec) : Bool := r.kind == 0 && r.dir == 0

/-- Bytes acknowledged in order: up to the first burst whose response is outstanding (R278). -/
def LRec.acked (r : LRec) : Nat := r.bursts.foldl (fun a b => min a b.ofs) r.issued

/-- The record has nothing outstanding and its end is decided: what remains is to report it (R278, R279). -/
def LRec.finished (r : LRec) : Bool :=
  r.bursts.isEmpty &&
  (r.bad.isSome || r.stopped || (r.issued == r.count && (!(r.kind == 2 && r.dir == 0) || r.applied))) &&
  (!(r.hostBound && decide (0 < r.wrote)) || r.flushed)

/-- The flush read of R279 is due. -/
def LRec.flushDue (r : LRec) : Bool :=
  r.hostBound && decide (0 < r.wrote) && !r.flush && !r.flushed && r.bursts.isEmpty &&
  (r.bad.isSome || r.stopped || r.issued == r.count)

/-- The record in the active set of channel `n`: the newest, unless it is marked bad (R272, R280). -/
def State.activeRec (s : State) (n : Nat) : Option LRec :=
  match (s.lgtCh n).recs.getLast? with
  | some r => if r.bad.isSome || r.finished then none else some r
  | none => none

/-- Updates the newest record. -/
def modLast (f : LRec → LRec) : List LRec → List LRec
  | [] => []
  | [r] => [f r]
  | r :: l => r :: modLast f l

/-- The owner of a pacing line (R276). -/
def State.paceOwner (s : State) (line : Nat) : Option Nat :=
  let w := (s.reg (LGT_PACE_OWN (line / 4))).toNat
  let b := bitsOf w (8 * (line % 4) + 7) (8 * (line % 4))
  if bitOf b 7 then some (b % 64) else none

/-- Shows the active set, BUSY and the channel masks (R284). -/
def State.showLgt (s : State) (n : Nat) : State :=
  match s.activeRec n with
  | none =>
    (s.wrs [(LGT_CTRL.BUSY n, 0), (LGT_CTRL.WAIT_PACE n, 0), (LGT_CTRL.WAIT_VALID n, 0), (LGT_A_ATTR.VALID n, 0)]).wr
      ⟨LGT_BUSY (n / 32), n % 32, n % 32⟩ 0
  | some r =>
    let hi := if r.kind = 0 then r.far / 2 ^ 32 else r.far / 2 ^ 32 % 16 + 2 ^ 16 * r.qaddr + 2 ^ 26 * r.qcls
    (s.wrs [(LGT_CTRL.BUSY n, 1), (LGT_A_BUF.BUF n, r.buf), (LGT_A_FAR_LO.FAR n, r.far), (LGT_A_FAR_HI.FAR n, hi),
      (LGT_A_COUNT.COUNT n, r.count - r.acked), (LGT_A_ATTR.VALID n, 1), (LGT_A_ATTR.DIR n, r.dir),
      (LGT_A_ATTR.FAR_KIND n, r.kind), (LGT_A_ATTR.MAPPED n, b2n r.mapped), (LGT_A_ATTR.PACED n, b2n r.paced),
      (LGT_A_ATTR.LINE n, r.line), (LGT_A_ATTR.PRIO n, r.prio), (LGT_A_ATTR.NS n, b2n r.ns), (LGT_A_ATTR.STREAM n, b2n r.stream),
      (LGT_A_ATTR.BUF_HI n, r.buf / 2 ^ 32), (LGT_A_ATTR.TAG n, r.tag)]).wr ⟨LGT_BUSY (n / 32), n % 32, n % 32⟩ 1

/-- The record that the shadow set of channel `n` describes (R274). -/
def State.shadowRec (s : State) (n : Nat) : LRec :=
  let hi := s.rd (LGT_S_FAR_HI.FAR n)
  let kind := s.rd (LGT_S_ATTR.FAR_KIND n)
  let mapped := s.on (LGT_S_ATTR.MAPPED n)
  { buf := s.rd (LGT_S_BUF.BUF n) + (if mapped then 0 else 2 ^ 32 * s.rd (LGT_S_ATTR.BUF_HI n)),
    far := s.rd (LGT_S_FAR_LO.FAR n) + 2 ^ 32 * (if kind = 0 then hi else hi % 16),
    qaddr := bitsOf hi 25 16, qcls := bitsOf hi 27 26, count := s.rd (LGT_S_COUNT.COUNT n), dir := s.rd (LGT_S_ATTR.DIR n),
    kind := kind, mapped := mapped, tag := s.rd (LGT_S_ATTR.TAG n), paced := s.on (LGT_S_ATTR.PACED n),
    line := s.rd (LGT_S_ATTR.LINE n), prio := s.rd (LGT_S_ATTR.PRIO n), ns := s.on (LGT_S_ATTR.NS n),
    stream := s.on (LGT_S_ATTR.STREAM n), cmd := (s.lgtCh n).shadowCmd, issued := 0, bursts := [], done := [], wrote := 0,
    flush := false, flushed := false, bad := none, stopped := false, xfer := none, applied := false, reissue := false }

/-- The check of promotion fails (R273): FAR_KIND 3, COUNT 0, a pacing line the channel does not own, traffic class 3. -/
def State.promoteFails (s : State) (n : Nat) (r : LRec) : Bool :=
  r.kind == 3 || r.count == 0 || (r.paced && s.paceOwner r.line != some n) || (r.kind == 2 && r.qcls == 3)

/-- Promotion (R273): the shadow set becomes the active record and ARM clears; a record that fails the check ends bad. -/
def State.promote (s : State) (n : Nat) : State :=
  let r := s.shadowRec n
  let r := if s.promoteFails n r then { r with bad := some (7, 0) } else r
  let t := s.clr (LGT_S_ATTR.ARM n)
  (t.updCh n (fun c => { c with recs := c.recs ++ [r], shadowCmd := none })).showLgt n

/-! ### Record ends (R278, R282) -/

/-- Opens the Quay transfer of a peer record: DIR 0 sends its data as its bursts run, DIR 1 asks for it (R420). A peer that is
unreachable ends the record BAD with cause PEER (R425). -/
def State.openPeer (s : State) (n : Nat) : State :=
  match s.activeRec n with
  | none => s
  | some r =>
    if r.kind ≠ 2 || r.xfer.isSome then s
    else match s.route? r.qaddr with
      | none => s.updRecs n (modLast (fun r => { r with bad := some (4, 0) }))
      | some _ =>
        let o := if r.dir = 0 then s.openXfer (.lgtWrite n) r.qaddr r.qcls 0 []
                 else s.openXfer (.lgtRead n) r.qaddr r.qcls 0x06 (leBytes 8 (r.far % 2 ^ 36) ++ leBytes 4 r.count)
        (match o with
         | none => s
         | some (t, x) =>
           let t := t.updXout x (fun y => { y with total := r.count })
           t.updRecs n (modLast (fun r => { r with xfer := some x })))

/-- Reports a record that has ended (R278, R282). -/
def State.reportRec (s : State) (n : Nat) (r : LRec) : State :=
  let (f, cause, ofs) : (Nat → Fld) × Nat × Nat := match r.bad with
    | some (c, o) => (LGT_STATUS.BAD, c, o)
    | none => if r.stopped then (LGT_STATUS.STOPPED, 0, if r.kind = 2 ∧ r.dir = 0 then 0 else r.acked)
              else (LGT_STATUS.DONE, 0, r.count)
  let t := (s.wrs [(LGT_STATUS.CAUSE n, cause), (LGT_STATUS.END_OFFSET n, ofs)]).setB (f n)
  let t := t.when r.bad.isSome (fun t => t.inc LGT_REC_CNT.BAD)
  let t := t.when (r.bad.isNone && !r.stopped) (fun t => t.inc LGT_REC_CNT.DONE)
  let t := t.irqIf (t.on (LGT_CTRL.INT_EN n)) (LGT_STATUS n) (f n).lo
  let t := match r.xfer with
    | none => t
    | some x => if r.bad.isSome || r.stopped then
          -- The transfer of a record that did not complete is cancelled (R426).
          (match t.xout? x with
           | some y => (if y.phase = .inDoubt then t else t.qSend y.dst y.cls 0x05 x 0 []).dropXout x
           | none => t)
        else t.dropXout x
  match r.cmd with
  | none => t
  | some tag => t.updCmd tag (fun c =>
      if r.reissue && !r.stopped && decide (ofs < r.count) then
        { c with opened := c.opened - 1,
                 recs := c.recs ++ [{ map := r.tag, ofs := r.buf + ofs, far := r.far + ofs, count := r.count - ofs, dir := r.dir }] }
      else
      { c with opened := c.opened - 1,
               badCause := if c.badCause = 0 then (match r.bad with | some (k, _) => k | none => 0) else c.badCause })

/-- Issues the flush reads that are due: a zero-length read of the last DW written (R279). -/
def State.issueFlushes (s : State) (n : Nat) : State :=
  let due := (s.lgtCh n).recs.filter (fun r => r.flushDue)
  let t := s.forEach due (fun r t => t.emit (.hostRead ((r.far + r.wrote - 1) / 4 * 4) 0 false))
  t.updRecs n (List.map (fun r => if r.flushDue then { r with flush := true } else r))

/-- Sends the COMMIT of a peer write whose bursts have all been answered (R423). -/
def State.commitPeer (s : State) (n : Nat) : State :=
  match s.activeRec n with
  | none => s
  | some r =>
    if r.kind = 2 ∧ r.dir = 0 ∧ r.issued = r.count ∧ r.bursts = [] ∧ !r.stopped then
      match r.xfer.bind s.xout? with
      | some x => if x.phase = .running then
          (s.qCommit x.dst x.cls x.xid x.data).updXout x.xid (fun y => { y with phase := .inDoubt, last := s.sys.time })
        else s
      | none => s
    else s

/-- Settles channel `n`: flush reads and commits that are due, promotion of an armed shadow once no record is active (R273), and
the reports, in record order (R278). `fuel` bounds the records. -/
def State.settleLgt (s : State) (n : Nat) : Nat → State
  | 0 => s.showLgt n
  | fuel + 1 =>
    let s := (s.commitPeer n).issueFlushes n
    match (s.lgtCh n).recs with
    | r :: rest =>
      if r.finished then
        let promoteNow := rest.isEmpty && s.on (LGT_S_ATTR.ARM n)
        let t := (s.updRecs n (fun _ => rest)).reportRec n r
        (if promoteNow then (t.promote n).openPeer n else t).settleLgt n fuel
      else if (s.activeRec n).isNone && s.on (LGT_S_ATTR.ARM n) then ((s.promote n).openPeer n).settleLgt n fuel
      else s.showLgt n
    | [] => if s.on (LGT_S_ATTR.ARM n) && s.on (LGT_CTRL.EN n) then ((s.promote n).openPeer n).settleLgt n fuel else s.showLgt n

/-- LGT_ARM: a write of 1 to S_ATTR.ARM arms the shadow record, which an idle enabled channel promotes at once; refused with
SH_REFUSED while ARM is set (R272, R273). -/
def execLgtArm (w : Initiator) (n : Lgt) (s : State) : Res :=
  if !s.mayWrite w then .next s else
  if s.on (LGT_S_ATTR.ARM n.val) then .next ((s.setB (LGT_STATUS.SH_REFUSED n.val)).refuseW w (LGT_S_ATTR n.val) 3)
  else if s.isFenced (.lgt n) then .next s
  else
    let t := s.setB (LGT_S_ATTR.ARM n.val)
    if (t.activeRec n.val).isNone && t.on (LGT_CTRL.EN n.val) then
      .next (((t.promote n.val).openPeer n.val).settleLgt n.val 4)
    else .next t

/-- LGT_STOP: STOP clears ARM, stops issue at the burst boundary and ends the record STOPPED; on an idle channel it sets
STOPPED and raises no interrupt (R281). -/
def execLgtStop (n : Lgt) (s : State) : Res :=
  let t := (s.clr (LGT_S_ATTR.ARM n.val)).clr (LGT_CTRL.STOP n.val)
  let t := t.updCh n.val (fun c => { c with shadowCmd := none })
  match t.activeRec n.val with
  | none => .next (t.setB (LGT_STATUS.STOPPED n.val))
  | some _ => .next ((t.updRecs n.val (modLast (fun r => { r with stopped := true }))).settleLgt n.val 4)

/-! ### Bursts (R275 to R277) -/

/-- The entry of the page map that the next burst of a mapped record touches. -/
def State.recEnt (s : State) (r : LRec) : Option MapEnt :=
  match s.pageMap? r.tag with
  | none => none
  | some m => m.ents[(r.buf + r.issued) / 4096]?

/-- The buffer address of the next burst of a record; none when a mapped offset lies outside its page map. -/
def State.recAddr (s : State) (r : LRec) : Option Nat :=
  if r.mapped then (s.recEnt r).map (fun e => 4096 * e.page + (r.buf + r.issued) % 4096) else some (r.buf + r.issued)

/-- The length of the next burst (R275): BURST beats, a 4 KiB buffer page, a host 4 KiB boundary and the host's request limits,
the end of the record. -/
def State.burstLen (s : State) (r : LRec) : Nat :=
  let a := r.buf + r.issued
  let f := r.far + r.issued
  let beats := 32 * s.rd LGT_CFG.BURST - a % 32
  let base := min (min beats (4096 - a % 4096)) (r.count - r.issued)
  if r.kind = 0 then min (min base (4096 - f % 4096)) (if r.dir = 0 then s.mps else s.mrrs)
  else if r.kind = 1 then min base (4096 - f % 4096)
  else base

/-- The line of a paced record is raised at this boundary. -/
def paceOk (lines : Nat) (r : LRec) : Bool := !r.paced || bitOf lines r.line

/-- The page entry of a mapped buffer read is VALID. -/
def State.validOk (s : State) (r : LRec) : Bool :=
  !(r.mapped && r.dir == 0) || ((s.recEnt r).map (fun e => e.valid)).getD false

/-- Channel `n` is ready (R277): its next burst may issue and its OUTSTANDING limit is not reached. -/
def State.lgtReady (s : State) (lines n : Nat) : Bool :=
  match s.activeRec n with
  | none => false
  | some r =>
    s.running && s.on (LGT_CTRL.EN n) && !s.on (LGT_CTRL.FENCED n) && !r.stopped && decide (r.issued < r.count) &&
    decide (r.bursts.length < s.rd LGT_CFG.OUTSTANDING + 1) && paceOk lines r && s.validOk r &&
    (r.kind != 0 || s.hostUp) && (r.kind != 2 || (r.xfer.isSome && (r.dir == 0 || r.applied)))

/-- The channel that the issue slot serves (R277): one that has waited AGE_LIMIT slots, longest first; else the lowest PRIO, in turn
among equals. With it, whether it was promoted by age. -/
def State.lgtPick (s : State) (lines : Nat) : Option (Nat × Bool) :=
  let rs := (List.range 64).filter (s.lgtReady lines)
  let aged := rs.filter (fun n => decide (s.rd LGT_CFG.AGE_LIMIT ≤ (s.lgtCh n).waited))
  match aged.foldl (fun a n => match a with
      | none => some n
      | some m => if (s.lgtCh m).waited < (s.lgtCh n).waited then some n else some m) none with
  | some n => some (n, true)
  | none =>
    let prio (n : Nat) : Nat := ((s.activeRec n).map (fun r => r.prio)).getD 3
    let best := rs.foldl (fun a n => min a (prio n)) 4
    let cs := rs.filter (fun n => prio n == best)
    let last := s.lgt.last.getD best 63
    match cs.find? (fun n => decide (last < n)) with
    | some n => some (n, false)
    | none => match cs with
      | n :: _ => some (n, false)
      | [] => none

/-- What a read response carries: 0 nothing wrong, 1 ERR_RESP, 2 UE (R280). -/
def respFail (r : BufResp) : Nat := if r.err then 1 else if r.anyUe then 2 else 0

/-- Issues the next burst of channel `n`: its buffer read, or the read of its far end (R275). -/
def State.issueBurst (s : State) (n : Nat) (r : LRec) : State :=
  let len := s.burstLen r
  let (t, data, fail) : State × List Byte × Nat :=
    if r.dir = 0 then
      match s.recAddr r with
      | none => (s, [], 1)
      | some a => let (t, q) := s.readAny 11 n 20 a len; (t, q.data, respFail q)
    else if r.kind = 0 then (s.emit (.hostRead (r.far + r.issued) len (r.ns && s.nsEnabled)), [], 0)
    else if r.kind = 1 then let (t, q) := s.readAny 11 n 20 (r.far + r.issued) len; (t, q.data, respFail q)
    else (s, (((r.xfer.bind s.xout?).map (fun x => x.data)).getD []).drop r.issued |>.take len, 0)
  let b : LBurst := { ofs := r.issued, len := len, data := data, fail := fail, answered := false }
  t.updRecs n (modLast (fun r => { r with issued := r.issued + len, bursts := r.bursts ++ [b] }))

/-- A record ended by force: nothing of it is outstanding any more. -/
def LRec.close (r : LRec) : LRec := { r with bursts := [], flushed := true }

/-- Fences channel `n` (R283): the active record ends BAD with cause FENCED at the bytes acknowledged in order; an earlier bad record
keeps its cause, with END_OFFSET 0 when its flush read had not completed; the shadow record is discarded. -/
def State.fenceLgt (s : State) (n : Lgt) : State :=
  let act := (s.activeRec n.val).isSome
  let t := (s.markFenced (.lgt n)).wrs [(LGT_S_ATTR.ARM n.val, 0), (LGT_CTRL.FENCED n.val, 1), (LGT_STATUS.DATAPATH_ERR n.val, 1),
    (LGT_GSTATUS.FENCE, 1)]
  let t := t.wr ⟨LGT_FENCED (n.val / 32), n.val % 32, n.val % 32⟩ 1
  let old (r : LRec) : LRec :=
    (match r.bad with
     | some (c, _) => if r.hostBound && decide (0 < r.wrote) && !r.flushed then { r with bad := some (c, 0) } else r
     | none => r).close
  let t := t.updCh n.val (fun c =>
    { c with shadowCmd := none, recs := (if act then modLast (fun r => { r with bad := some (5, r.acked) }) (c.recs.map old |> fun l =>
        (l.dropLast ++ (c.recs.getLast?).toList)) else c.recs.map old) })
  let t := t.updRecs n.val (List.map (fun r => { r.close with reissue := r.kind == 0 }))
  t.settleLgt n.val 6

/-- LGT_BURST_ISSUE: at an XP11 issue slot the highest-priority ready channel issues a burst (R275 to R277). `lines` are the
request lines as the peripherals drive them at this slot. -/
def execLgtBurstIssue (lines : BitVec 16) (s : State) : Res :=
  let s := s.wr LGT_PREQ.LINES lines.toNat
  let s := s.forEach (List.range 64) (fun n t => match t.activeRec n with
    | none => t
    | some r => if r.kind = 2 ∧ r.xfer.isNone then (t.openPeer n).settleLgt n 4 else t)
  let s := s.forEach (List.range 64) (fun n t => match t.activeRec n with
    | none => t
    | some r =>
      let more := !r.stopped && decide (r.issued < r.count)
      t.wrs [(LGT_CTRL.WAIT_PACE n, b2n (more && !paceOk lines.toNat r)), (LGT_CTRL.WAIT_VALID n, b2n (more && !t.validOk r))])
  match s.lgtPick lines.toNat with
  | none => .next s
  | some (n, aged) =>
    match s.activeRec n with
    | none => .next s
    | some r =>
      let pre := match s.lgt.prev with
        | none => false
        | some m => m != n && s.lgtReady lines.toNat m && decide (r.prio < ((s.activeRec m).map (fun q => q.prio)).getD 0)
      let t := s.when pre (fun t => t.inc LGT_PREEMPT_CNT.PREEMPT)
      let t := t.when aged (fun t => t.inc LGT_PREEMPT_CNT.AGED)
      let others := (List.range 64).filter (fun m => m != n && s.lgtReady lines.toNat m)
      let t := t.forEach others (fun m t => t.updCh m (fun c => { c with waited := c.waited + 1 }))
      let t := t.updCh n (fun c => { c with waited := 0 })
      let t := t.updLgt (fun l => { l with last := listSet l.last r.prio n, prev := some n })
      -- An injection armed at the channel's register parity meets its next burst (R471).
      if (t.armedAt 10 (fun a => a == n)).isSome then
        .next ((t.raiseSrc (0x190 + n) { ctx0 with port := 11, channel := n }).fenceLgt (Fin.ofNat 64 n))
      else .next ((t.issueBurst n r).showLgt n)

/-! ### Responses (R278 to R280) -/

/-- A byte range is covered by the answered ranges of a record; `fuel` bounds the pieces. -/
def covered (done : List (Nat × Nat)) : Nat → Nat → Nat → Bool
  | 0, _, _ => false
  | fuel + 1, lo, hi =>
    if hi ≤ lo then true
    else match done.find? (fun d => decide (d.1 ≤ lo) && decide (lo < d.1 + d.2)) with
      | some d => covered done fuel (d.1 + d.2) hi
      | none => false

/-- Sets VALID of the page entries that a burst of a mapped buffer-write record completes (R275). -/
def State.validPages (s : State) (r : LRec) (b : LBurst) : State :=
  if !(r.mapped && r.dir == 1) then s
  else
    let i := (r.buf + b.ofs) / 4096
    let lo := max (4096 * i) r.buf - r.buf
    let hi := min (4096 * (i + 1)) (r.buf + r.count) - r.buf
    s.when (covered r.done (r.done.length + 1) lo hi) (fun t => t.markValid r.tag i)

/-- Adds moved bytes to BYTE_CNT, in KiB. -/
def State.countMoved (s : State) (n : Nat) : State :=
  let b := s.lgt.bytes + n
  (s.addC LGT_BYTE_CNT.KIB (b / 1024)).updLgt (fun l => { l with bytes := b % 1024 })

/-- Marks a record bad at an offset (R280); the first mark stands. -/
def LRec.fail (r : LRec) (cause ofs : Nat) : LRec := if r.bad.isSome then r else { r with bad := some (cause, ofs) }

/-- Takes one answered burst of record `i` of channel `n`: moves its data, or marks the record bad (R280). A record already bad
discards it. `host` is the data a host read brought. -/
def State.takeBurst (s : State) (n i : Nat) (r : LRec) (b : LBurst) : State :=
  let upd (t : State) (f : LRec → LRec) : State := t.updRecs n (fun l => listModify l i f)
  let drop (r : LRec) : LRec := { r with bursts := r.bursts.filter (fun x => x.ofs != b.ofs) }
  if r.bad.isSome then upd s drop
  else if b.fail ≠ 0 then upd s (fun r => (drop r).fail b.fail b.ofs)
  else if r.dir = 0 then
    if r.kind = 0 then
      let t := s.hostPut true r.ns (b.len + 1) (r.far + b.ofs) b.data
      (upd t (fun r => { drop r with wrote := b.ofs + b.len })).countMoved b.len
    else if r.kind = 1 then
      let (t, e) := s.writeAny 11 20 (r.far + b.ofs) b.data
      if e then upd t (fun r => (drop r).fail 1 b.ofs) else (upd t drop).countMoved b.len
    else
      match r.xfer.bind s.xout? with
      | none => upd s (fun r => (drop r).fail 4 0)
      | some x =>
        let t := if x.phase = .running then s.qSendData x.dst x.cls x.xid (b.len / 512 + 1) b.ofs b.data else s
        let t := t.updXout x.xid (fun y => { y with data := y.data ++ b.data, last := s.sys.time })
        (upd t drop).countMoved b.len
  else
    match s.recAddr { r with issued := b.ofs } with
    | none => upd s (fun r => (drop r).fail 1 b.ofs)
    | some a =>
      let (t, e) := s.writeAny 11 20 a b.data
      if e then upd t (fun r => (drop r).fail 1 b.ofs)
      else
        let t := (upd t (fun r => { drop r with done := r.done ++ [(b.ofs, b.len)] })).countMoved b.len
        let r' : LRec := { r with done := r.done ++ [(b.ofs, b.len)] }
        t.validPages r' b

/-- Takes the answered bursts of record `i`: those of a far-bound record in order, the others as they come; `fuel` bounds them. -/
def State.takeBursts (s : State) (n i : Nat) : Nat → State
  | 0 => s
  | fuel + 1 =>
    match (s.lgtCh n).recs[i]? with
    | none => s
    | some r =>
      let next := if r.dir = 0 then (match r.bursts with | b :: _ => if b.answered then some b else none | [] => none)
                  else r.bursts.find? (fun b => b.answered)
      match next with
      | none => s
      | some b => (s.takeBurst n i r b).takeBursts n i fuel

/-- The outstanding bursts of a channel: (record, offset), oldest first. -/
def State.openBursts (s : State) (n : Nat) : List (Nat × Nat) :=
  let rs := (s.lgtCh n).recs
  ((List.range rs.length).zip rs).flatMap (fun e => (e.2.bursts.filter (fun b => !b.answered)).map (fun b => (e.1, b.ofs)))

/-- Answers an outstanding burst with what its far end brought. -/
def State.answerBurst (s : State) (n k : Nat) (ans : FarAns) : State :=
  match (s.openBursts n)[k]? with
  | none => s
  | some (i, ofs) =>
    let setB (r : LRec) (b : LBurst) : LBurst :=
      if b.ofs ≠ ofs then b
      else if r.dir = 1 ∧ r.kind = 0 then
        match ans with
        | .data l => if l.length = b.len then { b with data := l, answered := true } else { b with fail := 3, answered := true }
        | .failed => { b with fail := 3, answered := true }
        | .buffer => { b with fail := 3, answered := true }
      else { b with answered := true }
    let t := s.updRecs n (fun l => listModify l i (fun r => { r with bursts := r.bursts.map (setB r) }))
    (t.takeBursts n i 9).settleLgt n 4

/-- A burst outstanding at this place is a host read. -/
def State.isHostRead (s : State) (n k : Nat) : Bool :=
  match (s.openBursts n)[k]? with
  | none => false
  | some (i, _) => match (s.lgtCh n).recs[i]? with
    | some r => r.dir == 1 && r.kind == 0
    | none => false

/-- LGT_BURST_RESPONSE: the response of the `k`-th outstanding burst of a channel returns: a buffer response, or the completions of a
host read, whole or failed (R278, R280). A buffer response that answers a host read, or the reverse, is no event. -/
def execLgtBurstResponse (n : Lgt) (k : Fin 16) (ans : FarAns) (s : State) : Res :=
  if s.isHostRead n.val k.val = (ans != .buffer) then .next (s.answerBurst n.val k.val ans) else .next s

/-- The flush read outstanding of a channel's oldest record completes. -/
def State.flushDone (s : State) (n : Nat) (ok : Bool) : State :=
  match (s.lgtCh n).recs.findIdx? (fun r => r.flush && !r.flushed) with
  | none => s
  | some i =>
    (s.updRecs n (fun l => listModify l i (fun r =>
      if ok then { r with flushed := true } else { r with flushed := true, bad := some (6, 0) }))).settleLgt n 4

/-- LGT_FLUSH_READ_DONE: the flush read's completion ends a host-bound record; a failed one ends it BAD with cause FLUSH and
END_OFFSET 0 (R279). -/
def execLgtFlushReadDone (n : Lgt) (ok : Bool) (s : State) : Res := .next (s.flushDone n.val ok)

/-- HOST_COMPLETION_TIMEOUT: a host read of a record, or its flush read, is not completed in time (R308): the record ends BAD with
cause HOST or FLUSH and AER logs a Completion Timeout. With Completion Timeout Disable set nothing times out. -/
def execHostCompletionTimeout (n : Lgt) (k : Option (Fin 16)) (s : State) : Res :=
  if s.ctoDisabled then .next s
  else match k with
    | some k => if s.isHostRead n.val k.val then .next ((s.emit .aerTimeout).answerBurst n.val k.val .failed) else .next s
    | none =>
      if (s.lgtCh n.val).recs.any (fun r => r.flush && !r.flushed) then .next ((s.emit .aerTimeout).flushDone n.val false)
      else .next s

/-! ### Fences and resets -/

/-- Every record with a host far end ends BAD with cause HOST at the bytes acknowledged in order (R318). -/
def State.lgtHostLost (s : State) : State :=
  s.forEach (List.range 64) (fun n t =>
    let hit := (t.lgtCh n).recs.any (fun r => r.kind == 0)
    t.when hit (fun t =>
      let f (r : LRec) : LRec := if r.kind = 0 then
        (match r.bad with | some _ => r.close | none => { r with bad := some (3, r.acked) }.close) else r
      (t.updRecs n (List.map f)).settleLgt n 6))

/-- Ends every record without a report: internal reset. -/
def State.lgtReset (s : State) : State := s.updLgt (fun l => { l with chans := List.replicate 64 LgtCh.init, prev := none })

/-! ### Records of the scheduler -/

/-- The lowest-numbered channel in service that is idle, for the scheduler's use (DESIGN CHOICE, log entry 30). -/
def State.freeLgt (s : State) : Option Nat :=
  (List.range 64).find? (fun n => s.on (LGT_CTRL.EN n) && !s.on (LGT_CTRL.FENCED n) && (s.lgtCh n).recs.isEmpty &&
    !s.on (LGT_S_ATTR.ARM n))

/-- Programs one record of a command on channel `n`, mapped on the page map it names, and arms it. -/
def State.programRec (s : State) (n tag prio : Nat) (ns stream : Bool) (l : LSpec) : State :=
  let t := s.wrs [(LGT_S_BUF.BUF n, l.ofs), (LGT_S_FAR_LO.FAR n, l.far), (LGT_S_FAR_HI.FAR n, l.far / 2 ^ 32),
    (LGT_S_COUNT.COUNT n, l.count), (LGT_S_ATTR.ARM n, 1), (LGT_S_ATTR.DIR n, l.dir), (LGT_S_ATTR.FAR_KIND n, 0),
    (LGT_S_ATTR.MAPPED n, 1), (LGT_S_ATTR.PACED n, 0), (LGT_S_ATTR.LINE n, 0), (LGT_S_ATTR.PRIO n, prio),
    (LGT_S_ATTR.NS n, b2n ns), (LGT_S_ATTR.STREAM n, b2n stream), (LGT_S_ATTR.BUF_HI n, 0), (LGT_S_ATTR.TAG n, l.map)]
  let t := t.updCh n (fun c => { c with shadowCmd := some tag })
  (t.promote n).settleLgt n 4

/-- Programs the records that a command still has to run, as far as channels are free. -/
def State.programRecs (s : State) (tag : Nat) (ns stream : Bool) : Nat → State
  | 0 => s
  | fuel + 1 =>
    match s.cmd? tag with
    | none => s
    | some c =>
      match c.recs, s.freeLgt with
      | l :: rest, some n =>
        let t := s.updCmd tag (fun c => { c with recs := rest, opened := c.opened + 1 })
        (t.programRec n tag c.cls ns stream l).programRecs tag ns stream fuel
      | _, _ => s

/-- Stops every record of a command, armed or running (R341). -/
def State.stopRecs (s : State) (tag : Nat) : State :=
  let t := s.updCmd tag (fun c => { c with recs := [] })
  t.forEach (List.range 64) (fun n t =>
    let hit := (t.lgtCh n).recs.any (fun r => r.cmd == some tag)
    t.when hit (fun t => (t.updRecs n (List.map (fun r => if r.cmd = some tag ∧ r.bad = none then { r with stopped := true } else r))).settleLgt n 6))

end Sys2Proof.Machine
end

