-- ==== Sys2Proof/Machine/Inflate.lean ====
section
/-! DEFINITION. The decompressor (R298): RFC 1951 streams within a 32 KiB window, with the first error in stream order. -/

namespace Sys2Proof.Machine

/-- The errors of R298, by their codes. -/
inductive InfErr where
  | illegalCode | distance | overrun | storedLen | truncated | check
deriving DecidableEq, Repr

/-- The CODE of an error (R298). -/
def InfErr.code : InfErr → Nat
  | .illegalCode => 2 | .distance => 3 | .overrun => 4 | .storedLen => 5 | .truncated => 6 | .check => 7

/-- Where the decompressor stands: bits left, their position in the stream, output with the newest byte first, its length. -/
structure Inf where
  bits : List Bool
  pos : Nat
  out : List (BitVec 8)
  len : Nat
deriving DecidableEq, Repr

/-- A result: a value and the new state, or an error with the bit position of the failing symbol (none: the end of the input) and the
bytes produced before it. -/
abbrev InfR (α : Type) := Except (InfErr × Option Nat × Nat) (α × Inf)

/-- The end of the input has been reached before the final block ends. -/
def infTrunc {α : Type} (n : Nat) : InfR α := .error (.truncated, none, n)

/-- An error in the symbol that starts at bit `p`. -/
def infFail {α : Type} (e : InfErr) (p n : Nat) : InfR α := .error (e, some p, n)

/-- Takes `n` bits, least significant first. -/
def Inf.take (s : Inf) : Nat → InfR Nat
  | 0 => .ok (0, s)
  | n + 1 =>
    match s.bits with
    | [] => infTrunc s.len
    | b :: bs =>
      match Inf.take { s with bits := bs, pos := s.pos + 1 } n with
      | .ok (v, t) => .ok ((if b then 1 else 0) + 2 * v, t)
      | .error e => .error e

/-- A canonical code: how many codes have each length from 1 to 15, and the symbols in code order. -/
structure Huff where
  counts : List Nat
  syms : List Nat
deriving DecidableEq, Repr

/-- The code that a list of code lengths gives. -/
def Huff.make (lens : List Nat) : Huff :=
  let ix := (List.range lens.length).zip lens
  { counts := (List.range 15).map (fun l => (lens.filter (fun x => x == l + 1)).length),
    syms := (List.range 15).flatMap (fun l => (ix.filter (fun e => e.2 == l + 1)).map (fun e => e.1)) }

/-- A code set is over-subscribed. -/
def overSubscribed (lens : List Nat) : Bool :=
  decide (2 ^ 15 < lens.foldl (fun a l => if l = 0 then a else a + 2 ^ (15 - l)) 0)

/-- Decodes one symbol from the counts of the lengths still to come. -/
def Inf.symGo (s : Inf) (syms : List Nat) (start : Nat) : List Nat → Nat → Nat → Nat → InfR Nat
  | [], _, _, _ => infFail .illegalCode start s.len
  | c :: cs, first, index, code =>
    match s.bits with
    | [] => infTrunc s.len
    | b :: bs =>
      let t : Inf := { s with bits := bs, pos := s.pos + 1 }
      let code := code + (if b then 1 else 0)
      if code < first + c then .ok (syms.getD (index + (code - first)) 0, t)
      else Inf.symGo t syms start cs (2 * (first + c)) (index + c) (2 * code)

/-- Decodes one symbol. -/
def Inf.sym (s : Inf) (h : Huff) : InfR Nat := s.symGo h.syms s.pos h.counts 0 0 0

/-- Appends one byte; the output may not pass ORIG_LEN. -/
def Inf.put (s : Inf) (limit p : Nat) (b : BitVec 8) : InfR Unit :=
  if limit ≤ s.len then infFail .overrun p s.len else .ok ((), { s with out := b :: s.out, len := s.len + 1 })

/-- Copies `n` bytes from a distance back. -/
def Inf.copy (s : Inf) (d : Nat) : Nat → Inf
  | 0 => s
  | n + 1 => Inf.copy { s with out := s.out.getD (d - 1) 0 :: s.out, len := s.len + 1 } d n

/-- Base lengths and extra bits of the length symbols 257 to 285. -/
def lenBase : List (Nat × Nat) :=
  [(3, 0), (4, 0), (5, 0), (6, 0), (7, 0), (8, 0), (9, 0), (10, 0), (11, 1), (13, 1), (15, 1), (17, 1), (19, 2), (23, 2), (27, 2),
   (31, 2), (35, 3), (43, 3), (51, 3), (59, 3), (67, 4), (83, 4), (99, 4), (115, 4), (131, 5), (163, 5), (195, 5), (227, 5),
   (258, 0)]

/-- Base distances and extra bits of the distance symbols 0 to 29. -/
def distBase : List (Nat × Nat) :=
  [(1, 0), (2, 0), (3, 0), (4, 0), (5, 1), (7, 1), (9, 2), (13, 2), (17, 3), (25, 3), (33, 4), (49, 4), (65, 5), (97, 5), (129, 6),
   (193, 6), (257, 7), (385, 7), (513, 8), (769, 8), (1025, 9), (1537, 9), (2049, 10), (3073, 10), (4097, 11), (6145, 11),
   (8193, 12), (12289, 12), (16385, 13), (24577, 13)]

/-- The symbols of a compressed block, up to its end-of-block symbol; `fuel` bounds them. -/
def Inf.block (lit dist : Huff) (limit : Nat) : Nat → Inf → InfR Unit
  | 0, s => infTrunc s.len
  | fuel + 1, s =>
    match s.sym lit with
    | .error e => .error e
    | .ok (y, t) =>
      if y < 256 then
        match t.put limit s.pos (BitVec.ofNat 8 y) with
        | .error e => .error e
        | .ok (_, t) => Inf.block lit dist limit fuel t
      else if y = 256 then .ok ((), t)
      else
        match lenBase[y - 257]? with
        | none => infFail .illegalCode s.pos s.len
        | some (base, ex) =>
          match t.take ex with
          | .error e => .error e
          | .ok (v, t) =>
            let n := base + v
            if limit < t.len + n then infFail .overrun s.pos s.len
            else
              let dp := t.pos
              match t.sym dist with
              | .error e => .error e
              | .ok (dy, t) =>
                match distBase[dy]? with
                | none => infFail .illegalCode dp s.len
                | some (db, dx) =>
                  match t.take dx with
                  | .error e => .error e
                  | .ok (dv, t) =>
                    if t.len < db + dv then infFail .distance dp t.len
                    else Inf.block lit dist limit fuel (t.copy (db + dv) n)

/-- The code lengths of the fixed codes. -/
def fixedLit : List Nat := List.replicate 144 8 ++ List.replicate 112 9 ++ List.replicate 24 7 ++ List.replicate 8 8
/-- The fixed distance code lengths. -/
def fixedDist : List Nat := List.replicate 32 5

/-- The order of the code-length code lengths. -/
def clOrder : List Nat := [16, 17, 18, 0, 8, 7, 9, 6, 10, 5, 11, 4, 12, 3, 13, 2, 14, 1, 15]

/-- Takes `n` values of three bits. -/
def Inf.take3 (s : Inf) : Nat → InfR (List Nat)
  | 0 => .ok ([], s)
  | n + 1 =>
    match s.take 3 with
    | .error e => .error e
    | .ok (v, t) =>
      match Inf.take3 t n with
      | .ok (l, t) => .ok (v :: l, t)
      | .error e => .error e

/-- Reads `total` code lengths; `acc` holds those read, newest first; `fuel` bounds the symbols. -/
def Inf.lengths (h : Huff) (total : Nat) : Nat → Inf → List Nat → InfR (List Nat)
  | 0, s, _ => infTrunc s.len
  | fuel + 1, s, acc =>
    if total ≤ acc.length then .ok (acc.reverse, s)
    else
      match s.sym h with
      | .error e => .error e
      | .ok (y, t) =>
        if y < 16 then Inf.lengths h total fuel t (y :: acc)
        else
          let rep : InfR (List Nat) :=
            if y = 16 then
              match acc with
              | [] => infFail .illegalCode s.pos s.len
              | p :: _ => (match t.take 2 with
                | .ok (v, t) => .ok (List.replicate (3 + v) p, t)
                | .error e => .error e)
            else if y = 17 then (match t.take 3 with
              | .ok (v, t) => .ok (List.replicate (3 + v) 0, t)
              | .error e => .error e)
            else (match t.take 7 with
              | .ok (v, t) => .ok (List.replicate (11 + v) 0, t)
              | .error e => .error e)
          match rep with
          | .error e => .error e
          | .ok (l, t) =>
            if total < acc.length + l.length then infFail .illegalCode s.pos s.len
            else Inf.lengths h total fuel t (l ++ acc)

/-- A dynamic block whose header starts at bit `start`. -/
def Inf.dynamic (s : Inf) (limit start fuel : Nat) : InfR Unit :=
  match s.take 5 with
  | .error e => .error e
  | .ok (hlit, s) =>
    match s.take 5 with
    | .error e => .error e
    | .ok (hdist, s) =>
      match s.take 4 with
      | .error e => .error e
      | .ok (hclen, s) =>
        match s.take3 (hclen + 4) with
        | .error e => .error e
        | .ok (cl, s) =>
          let pairs := clOrder.zip cl
          let lens := (List.range 19).map (fun i => ((pairs.find? (fun e => e.1 == i)).map (fun e => e.2)).getD 0)
          if overSubscribed lens then infFail .illegalCode start s.len
          else
            match s.lengths (Huff.make lens) (hlit + 257 + hdist + 1) 400 [] with
            | .error e => .error e
            | .ok (l, s) =>
              let ll := l.take (hlit + 257)
              let dl := l.drop (hlit + 257)
              if ll.getD 256 0 = 0 || overSubscribed ll || overSubscribed dl then infFail .illegalCode start s.len
              else s.block (Huff.make ll) (Huff.make dl) limit fuel

/-- Copies `n` stored bytes. -/
def Inf.stored (limit : Nat) : Nat → Inf → InfR Unit
  | 0, s => .ok ((), s)
  | n + 1, s =>
    match s.take 8 with
    | .error e => .error e
    | .ok (v, t) =>
      match t.put limit s.pos (BitVec.ofNat 8 v) with
      | .error e => .error e
      | .ok (_, t) => Inf.stored limit n t

/-- A stored block, from the byte boundary. -/
def Inf.storedBlock (s : Inf) (limit : Nat) : InfR Unit :=
  let pad := (8 - s.pos % 8) % 8
  let s : Inf := { s with bits := s.bits.drop pad, pos := s.pos + pad }
  match s.take 16 with
  | .error e => .error e
  | .ok (n, t) =>
    match t.take 16 with
    | .error e => .error e
    | .ok (m, t) => if n + m ≠ 65535 then infFail .illegalCode s.pos s.len else Inf.stored limit n t

/-- The blocks of a stream up to the final one; `fuel` bounds blocks and symbols. -/
def Inf.blocks (limit : Nat) : Nat → Inf → InfR Unit
  | 0, s => infTrunc s.len
  | fuel + 1, s =>
    match s.take 1 with
    | .error e => .error e
    | .ok (final, t) =>
      match t.take 2 with
      | .error e => .error e
      | .ok (typ, t) =>
        let r : InfR Unit :=
          if typ = 0 then t.storedBlock limit
          else if typ = 1 then t.block (Huff.make fixedLit) (Huff.make fixedDist) limit fuel
          else if typ = 2 then t.dynamic limit s.pos fuel
          else infFail .illegalCode s.pos s.len
        match r with
        | .error e => .error e
        | .ok (_, t) => if final = 1 then .ok ((), t) else Inf.blocks limit fuel t

/-- The bits of a byte string, least significant first. -/
def bitsOfBytes (l : List (BitVec 8)) : List Bool := l.flatMap (fun b => (List.range 8).map b.getLsbD)

/-- The bytes after the byte that holds bit `pos` - 1. -/
def afterBit (l : List (BitVec 8)) (pos : Nat) : List (BitVec 8) := l.drop ((pos + 7) / 8)

/-- Decompresses a body (R298): code, bit position of the failing symbol (none: at the end of the input), bytes produced,
and the output when the stream ended. -/
def inflate (body : List (BitVec 8)) (origLen : Nat) : Nat × Option Nat × Nat × List (BitVec 8) :=
  let s : Inf := { bits := bitsOfBytes body, pos := 0, out := [], len := 0 }
  match Inf.blocks origLen (8 * body.length + 1) s with
  | .error (e, p, n) => (e.code, p, n, [])
  | .ok (_, t) =>
    let rest := afterBit body t.pos
    if 15 < rest.length || rest.any (fun b => b != 0) then (InfErr.storedLen.code, none, t.len, t.out.reverse)
    else if t.len < origLen then (InfErr.check.code, none, t.len, t.out.reverse)
    else (0, none, t.len, t.out.reverse)

end Sys2Proof.Machine
end

