-- ==== Sys2Proof/Machine/Pack.lean ====
section
/-! DEFINITION. Meanings of the Pack engine commands (chapter 13). -/

namespace Sys2Proof.Machine
open Reg

/-- Updates the Pack engine. -/
def State.updPack (s : State) (f : PackU → PackU) : State := { s with pack := f s.pack }
/-- The job that instance `p` runs. -/
def State.prun (s : State) (p : Nat) : Option PRun := s.pack.runs.getD p none
/-- Sets the job that instance `p` runs, and shows BUSY. -/
def State.setPrun (s : State) (p : Nat) (r : Option PRun) : State :=
  (s.updPack (fun k => { k with runs := listSet k.runs p r })).wr (PCK_ISTATUS.BUSY p) (b2n r.isSome)
/-- An empty key slot. -/
def KeySlot.empty : KeySlot := { state := 0, key := [] }
/-- Key slot `i`. -/
def State.keySlot (s : State) (i : Nat) : KeySlot := s.pack.keys.getD i KeySlot.empty

/-- Shows the slots' states, the queue and the results. -/
def State.showPack (s : State) : State :=
  let mask (st lo : Nat) : Nat := ((List.range 32).filter (fun i => (s.keySlot (lo + i)).state == st)).foldl (fun a i => a + 2 ^ i) 0
  s.wrs [(PCK_KEY_STAT.LOADED 0, mask 1 0), (PCK_KEY_STAT.LOADED 1, mask 1 32), (PCK_KEY_BUSY.ERASING 0, mask 2 0),
    (PCK_KEY_BUSY.ERASING 1, mask 2 32), (PCK_QUEUE.JOBS, s.pack.queue.length), (PCK_STATUS.RES_READY, b2n (!s.pack.results.isEmpty))]

/-- Updates key slot `i`. -/
def State.setKey (s : State) (i : Nat) (k : KeySlot) : State := (s.updPack (fun u => { u with keys := listSet u.keys i k })).showPack

/-- Every slot zeroed and EMPTY: at every start and on entry to HALTED (R294). -/
def State.zeroKeys (s : State) : State := (s.updPack (fun u => { u with keys := List.replicate 64 KeySlot.empty })).showPack

/-! ### The job queue (R286, R287) -/

/-- The job that a 256-bit descriptor describes. -/
def PJob.ofDesc (d : Nat) (fw : Bool) : PJob where
  op := bitsOf d 1 0
  level := bitsOf d 3 2
  enc := bitOf d 4
  slot := bitsOf d 10 5
  prio := bitsOf d 12 11
  fw := fw
  inTag := bitsOf d 45 32
  inOfs := bitsOf d 95 64
  inLen := bitsOf d 116 96
  outTag := bitsOf d 141 128
  outOfs := bitsOf d 191 160
  token := bitsOf d 223 192
  restarted := false

/-- Inserts a job by PRIO, in arrival order within a PRIO. -/
def insertJob (j : PJob) : List PJob → List PJob
  | [] => [j]
  | k :: l => if j.prio < k.prio then j :: k :: l else k :: insertJob j l

/-- The most jobs the queue holds. -/
def jobQueueMax : Nat := 64

/-- A job is queued; none when the queue is full. -/
def State.queueJob (s : State) (j : PJob) : Option State :=
  if jobQueueMax ≤ s.pack.queue.length then none
  else some ((s.updPack (fun u => { u with queue := insertJob j u.queue })).showPack)

/-- PCK_JOB_GO: the descriptor in PCK_JOB is queued with FW set; a full queue sets QUEUE_FULL, and OP 3 is refused (R286, R287, R303). -/
def execPckJobGo (w : Initiator) (s : State) : Res :=
  if !s.mayWrite w then .next s else
  let d := (List.range 8).foldl (fun a i => a + 2 ^ (32 * i) * s.rd (PCK_JOB.DESC i)) 0
  let j := PJob.ofDesc d true
  let s := s.clr PCK_JOB_GO.GO
  if j.op = 3 then .next (s.refuseW w PCK_JOB_GO 1)
  else match s.queueJob j with
    | some t => .next t
    | none => .next (s.raiseBit PCK_STATUS.QUEUE_FULL PCK_INT_EN)

/-- Instance `p` is in service: enabled and not fenced. -/
def State.packInService (s : State) (p : Nat) : Bool := s.on (PCK_CTRL.EN p) && !s.on (PCK_ISTATUS.FENCED p)

/-! ### Input and output -/

/-- Bytes of the page map of a tag. -/
def State.mapBytes (s : State) (tag : Nat) : Nat := ((s.pageMap? tag).map (fun m => 4096 * m.ents.length)).getD 0

/-- The page maps of two tags share a page. -/
def State.mapsShare (s : State) (a b : Nat) : Bool :=
  match s.pageMap? a, s.pageMap? b with
  | some m, some n => m.ents.any (fun e => n.ents.any (fun f => f.page == e.page))
  | _, _ => false

/-- Reads `n` bytes of a page map from an offset: data, a UE mark or an error response among them; `fuel` bounds the pages. -/
def State.readMap (s : State) (p tag : Nat) : Nat → Nat → Nat → State × List Byte × Bool
  | 0, _, _ => (s, [], false)
  | fuel + 1, ofs, n =>
    if n = 0 then (s, [], false)
    else
      let c := min n (4096 - ofs % 4096)
      match s.sectorPage tag (ofs / 4096) with
      | none => (s, [], true)
      | some pg =>
        let (t, r) := s.readPage 13 p pg (ofs % 4096) c
        let (t, d, bad) := t.readMap p tag fuel (ofs + c) (n - c)
        (t, r.data ++ d, r.err || r.anyUe || bad)

/-- Writes bytes to a page map from an offset; `fuel` bounds the pages. -/
def State.writeMap (s : State) (tag : Nat) : Nat → Nat → List Byte → State
  | 0, _, _ => s
  | fuel + 1, ofs, bs =>
    if bs.isEmpty then s
    else
      let c := min bs.length (4096 - ofs % 4096)
      match s.sectorPage tag (ofs / 4096) with
      | none => s
      | some pg => ((s.writePage 13 pg (ofs % 4096) (bs.take c)).1).writeMap tag fuel (ofs + c) (bs.drop c)

/-- Sets VALID on the page-map entries that a span touches. -/
def State.validSpan (s : State) (tag ofs n : Nat) : State :=
  s.forEach ((List.range ((ofs + n + 4095) / 4096 - ofs / 4096)).map (fun i => ofs / 4096 + i)) (fun i t => t.markValid tag i)

/-- Input pages of a job. -/
def PJob.inPages (j : PJob) : Nat := if j.inLen = 0 then 0 else (j.inOfs + j.inLen - 1) / 4096 - j.inOfs / 4096 + 1

/-- The next input page of a job has VALID set. -/
def State.inValid (s : State) (j : PJob) (taken : Nat) : Bool :=
  match s.pageMap? j.inTag with
  | none => false
  | some m => ((m.ents[j.inOfs / 4096 + taken]?).map (fun e => e.valid)).getD false

/-- Takes input pages while the next one is VALID (R290); `fuel` bounds them. -/
def State.takePages (s : State) (j : PJob) : Nat → Nat → Nat
  | 0, n => n
  | fuel + 1, n => if n < j.inPages && s.inValid j n then s.takePages j fuel (n + 1) else n

/-- The budget of R291. -/
def packBudget (n : Nat) : Nat := ((n + 255) / 256 - 1) * 256

/-- The check of a job that needs no data: CODE 12 for lengths, offsets and shared pages (R286, R290); CODE 9 for a key slot that is
not LOADED (R294); CODE 1 when the original granule count is 1 (R291). -/
def State.jobCheck (s : State) (j : PJob) : Option Nat :=
  if j.op ≠ 2 && s.mapsShare j.inTag j.outTag then some 12
  else if s.mapBytes j.inTag < j.inOfs + j.inLen then some 12
  else if j.op = 0 then
    if j.inLen = 0 ∨ 1048576 < j.inLen ∨ s.mapBytes j.outTag < j.outOfs + packBudget j.inLen then some 12
    else if j.enc ∧ (s.keySlot j.slot).state ≠ 1 then some 9
    else if packBudget j.inLen = 0 then some 1
    else none
  else if j.inLen = 0 then some 12
  else none

/-- A parcel header's fields (R288): MAGIC, VERSION, KEY_SLOT, ORIG_LEN, STORED_LEN, ORIG_CRC. -/
structure Parcel where
  magic : Nat
  version : Nat
  slot : Nat
  origLen : Nat
  storedLen : Nat
  crc : Nat
deriving DecidableEq, Repr

/-- The header that 16 bytes hold. -/
def Parcel.ofBytes (b : List Byte) : Parcel where
  magic := leValue (b.take 2)
  version := leValue ((b.drop 2).take 1)
  slot := leValue ((b.drop 3).take 1)
  origLen := leValue ((b.drop 4).take 4)
  storedLen := leValue ((b.drop 8).take 4)
  crc := leValue ((b.drop 12).take 4)

/-- The 16 bytes of a header. -/
def Parcel.bytes (h : Parcel) : List Byte :=
  leBytes 2 h.magic ++ leBytes 1 h.version ++ leBytes 1 h.slot ++ leBytes 4 h.origLen ++ leBytes 4 h.storedLen ++ leBytes 4 h.crc

/-- A header that R297 refuses with BAD_HEADER. -/
def Parcel.isBad (h : Parcel) : Bool :=
  h.magic != 0x4C50 || h.version != 1 || (decide (63 < h.slot) && h.slot != 0xFF) || h.origLen == 0 || decide (1048576 < h.origLen) ||
  decide (h.storedLen < (if h.slot = 0xFF then 17 else 32))

/-- Binds the key slot of a job once its first page is in: the named slot of a PACK job, the header's slot otherwise (R294). -/
def State.bindKey (s : State) (p : Nat) (r : PRun) : State × PRun :=
  if r.key.isSome || r.code.isSome then (s, r)
  else if r.job.op = 0 then
    (s, if r.job.enc then { r with key := some (r.job.slot, (s.keySlot r.job.slot).key) } else r)
  else if r.taken = 0 then (s, r)
  else
    let (t, b, _) := s.readMap p r.job.inTag 2 r.job.inOfs 16
    let h := Parcel.ofBytes b
    if h.isBad || h.slot = 0xFF then (t, r)
    else if (s.keySlot h.slot).state ≠ 1 then (t, r)
    else (t, { r with key := some (h.slot, (s.keySlot h.slot).key) })

/-- Lets a running job take its input, and binds its key. -/
def State.advanceJob (s : State) (p : Nat) (r : PRun) (stall : Bool) : State :=
  let n := s.takePages r.job r.job.inPages r.taken
  let (t, r) := s.bindKey p { r with taken := n }
  (t.setPrun p (some r)).wr (PCK_ISTATUS.STALL p) (b2n (stall && r.job.op == 0 && r.code.isNone))

/-- PACK_JOB_START: an idle instance in service takes the head of the queue, PK0 when both are idle, and binds its key slot (R287, R294).
`stall`: the encoder soon finds no room in its output FIFO (R292). From P1 on the engine is off (R396). -/
def execPackJobStart (stall : Bool) (s : State) : Res :=
  if !s.running || s.gated 1 then .next s
  else match [0, 1].find? (fun p => s.packInService p && (s.prun p).isNone), s.pack.queue with
    | some p, j :: q =>
      let t := (s.updPack (fun u => { u with queue := q })).showPack
      .next (t.advanceJob p { job := j, key := none, code := t.jobCheck j, taken := 0, drop := false } stall)
    | _, _ => .next s

/-- PACK_ENCODER_RESUME: the output FIFO has room again and the encoder goes on with the same symbol (R292). -/
def execPackEncoderResume (p : Fin 2) (stall : Bool) (s : State) : Res :=
  match s.prun p.val with
  | none => .next s
  | some r => if s.on (PCK_ISTATUS.STALL p.val) then .next (s.advanceJob p.val r stall) else .next s

/-- PACK_INPUT_RESUME: compression goes on when the next input page's entry is VALID (R290). -/
def execPackInputResume (p : Fin 2) (stall : Bool) (s : State) : Res :=
  match s.prun p.val with
  | none => .next s
  | some r => if s.on (PCK_ISTATUS.STALL p.val) then .next s else .next (s.advanceJob p.val r stall)

/-! ### The cipher (R295, R296) -/

/-- The tweak of unit `j`. -/
def tweakOf (j origLen crc : Nat) : Nat := j + 2 ^ 32 * origLen + 2 ^ 64 * crc

/-- Applies `f` to the data units of a body: 4,096 bytes each, a final remainder of 1 to 15 bytes joining the unit before it; `fuel`
bounds them. -/
def mapUnits (f : Nat → List Byte → List Byte) : Nat → Nat → List Byte → List Byte
  | 0, _, _ => []
  | fuel + 1, j, b =>
    if b.length ≤ 4111 then (if b.isEmpty then [] else f j b)
    else f j (b.take 4096) ++ mapUnits f fuel (j + 1) (b.drop 4096)

/-- Encrypts a body. -/
def encryptBody (key : List Byte) (origLen crc : Nat) (b : List Byte) : List Byte :=
  mapUnits (fun j u => Config.xtsEncrypt key (tweakOf j origLen crc) u) (b.length / 4096 + 1) 0 b
/-- Decrypts a body. -/
def decryptBody (key : List Byte) (origLen crc : Nat) (b : List Byte) : List Byte :=
  mapUnits (fun j u => Config.xtsDecrypt key (tweakOf j origLen crc) u) (b.length / 4096 + 1) 0 b

/-! ### Ends of jobs -/

/-- What a job comes to: CODE, OUT_LEN, ERR_POS, GRANULES, and the bytes for its output pages. -/
structure JobEnd where
  code : Nat
  outLen : Nat
  errPos : Nat
  granules : Nat
  out : List Byte
deriving DecidableEq, Repr

/-- An end that writes nothing. -/
def JobEnd.bare (code : Nat) : JobEnd := { code := code, outLen := 0, errPos := 0, granules := 0, out := [] }

/-- Packs data (R288 to R291): none when the output fails its check (R293). -/
def packData (j : PJob) (key : Option (Nat × List Byte)) (verify : Bool) (d : List Byte) : Option JobEnd :=
  let stream := Config.deflate j.level d
  let crc := (crc32c d).toNat
  let body := if j.enc ∧ stream.length < 16 then stream ++ List.replicate (16 - stream.length) 0 else stream
  let stored := 16 + body.length
  if packBudget d.length < stored then some (JobEnd.bare 1)
  else
    let k := (key.map (fun e => e.2)).getD []
    let sealed := if j.enc then encryptBody k d.length crc body else body
    let opened := if j.enc then decryptBody k d.length crc sealed else sealed
    let h : Parcel := { magic := 0x4C50, version := 1, slot := if j.enc then j.slot else 0xFF, origLen := d.length,
                        storedLen := stored, crc := crc }
    let chk := inflate opened d.length
    if verify ∧ (chk.1 ≠ 0 ∨ (crc32c chk.2.2.2).toNat ≠ crc) then none
    else
      let parcel := h.bytes ++ sealed
      some { code := 0, outLen := stored, errPos := 0, granules := (stored + 255) / 256,
             out := parcel ++ List.replicate ((4096 - (j.outOfs + parcel.length) % 4096) % 4096) 0 }

/-- Unpacks a parcel (R297, R298). `room` is the room for its output. -/
def unpackData (j : PJob) (key : Option (Nat × List Byte)) (room : Nat) (b : List Byte) : JobEnd :=
  let h := Parcel.ofBytes b
  if h.isBad then JobEnd.bare 8
  else if (h.storedLen + 255) / 256 ≠ j.inLen / 256 then { JobEnd.bare 5 with errPos := h.storedLen }
  else if h.slot ≠ 0xFF ∧ (key.map (fun e => e.1)) ≠ some h.slot then JobEnd.bare 9
  else if j.op = 1 ∧ room < h.origLen then JobEnd.bare 12
  else
    let body := (b.drop 16).take (h.storedLen - 16)
    let plain := if h.slot = 0xFF then body else decryptBody ((key.map (fun e => e.2)).getD []) h.origLen h.crc body
    let (code, pos, n, out) := inflate plain h.origLen
    if code ≠ 0 then
      { code := code, outLen := n, errPos := (match pos with | some p => 16 + p / 8 | none => h.storedLen), granules := 0, out := [] }
    else if (crc32c out).toNat ≠ h.crc then { code := 7, outLen := n, errPos := h.storedLen, granules := 0, out := [] }
    else { code := 0, outLen := h.origLen, errPos := 0, granules := 0, out := if j.op = 1 then out else [] }

/-- Counts bytes in a KiB counter, keeping the remainder. -/
def State.countKib (s : State) (f : Fld) (i n : Nat) : State :=
  let b := s.pack.rem.getD i 0 + n
  (s.addC f (b / 1024)).updPack (fun u => { u with rem := listSet u.rem i (b % 1024) })

/-- Delivers the one result of a job to the scheduler or to PCK_RES, and counts its end (R300). -/
def State.deliverJob (s : State) (p : Nat) (j : PJob) (e : JobEnd) : State :=
  let r : PRes := { token := j.token, code := e.code, inst := p, restarted := j.restarted, outLen := e.outLen, errPos := e.errPos,
                    granules := e.granules }
  let t := if e.code = 0 then s.inc (PCK_JOB_CNT.DONE p) else s.inc (PCK_JOB_CNT.OTHER p)
  let t := t.when (e.code == 1) (fun t => t.inc PCK_ERR_CNT.NOT_SHRUNK)
  let t := t.when (decide (2 ≤ e.code) && decide (e.code ≤ 6)) (fun t => t.inc PCK_ERR_CNT.CODES)
  let t := t.when (e.code == 7) (fun t => t.inc PCK_ERR_CNT.CHECK)
  if j.fw then
    ((t.updPack (fun u => { u with results := u.results ++ [r] })).showPack).irqIf (bitOf (t.reg PCK_INT_EN).toNat 0) PCK_STATUS 0
  else t.updCmd (j.token % 16384) (fun c => { c with pack := some r })

/-- Both instances are fenced (R301). -/
def State.packNone (s : State) : Bool := s.on (PCK_ISTATUS.FENCED 0) && s.on (PCK_ISTATUS.FENCED 1)

/-- Fences instance `p` (R301, R302): its job returns to the head of the queue with RESTARTED set; when both are fenced PCK_NONE is
raised. -/
def State.fencePack (s : State) (p : Fin 2) : State :=
  if s.isFenced (.pack p) then s
  else
    let t := (s.markFenced (.pack p)).wrs [(PCK_ISTATUS.FENCED p.val, 1), (PCK_ISTATUS.STALL p.val, 0)]
    let t := t.raiseBit PCK_STATUS.FENCE PCK_INT_EN
    let t := match t.prun p.val with
      | none => t
      | some r =>
        let t := t.setPrun p.val none
        if r.drop then t.deliverJob p.val r.job (JobEnd.bare 11)
        else
          (t.inc PCK_ERR_CNT.RESTARTS).updPack (fun u => { u with queue := { r.job with restarted := true } :: u.queue })
    let t := t.showPack
    t.when t.packNone (fun t => t.raise0 0x1D2)

/-- The output of an instance fails its self-check: SELF_CHECK, a fence and PCK_UNIT (R293, R301). -/
def State.selfCheckFail (s : State) (p : Fin 2) : State :=
  ((s.setB (PCK_ISTATUS.SELF_CHECK p.val)).raiseSrc (0x1D0 + p.val) { ctx0 with port := 13, channel := p.val }).fencePack p

/-- A parity failure in the memories or datapaths of an instance, here one injected: DATAPATH_ERR, a fence and PCK_UNIT (R301, R471). -/
def State.packParityFail (s : State) (p : Fin 2) : State :=
  ((s.injDone.setB (PCK_ISTATUS.DATAPATH_ERR p.val)).raiseSrc (0x1D0 + p.val) { ctx0 with port := 13, channel := p.val, injected := true }).fencePack p

/-- Ends the job of an instance with a result. -/
def State.endJob (s : State) (p : Nat) (r : PRun) (e : JobEnd) : State :=
  let t := ((s.setPrun p none).wr (PCK_ISTATUS.STALL p) 0).deliverJob p r.job e
  t.showPack

/-- PACK_JOB_END: a job that has its input, or is refused, dropped or needs none, ends with one result (R300). A PACK job writes its
parcel once the verifying decoder has agreed (R293); an UNPACK job writes its output and sets VALID on all of it at once (R299). -/
def execPackJobEnd (p : Fin 2) (s : State) : Res :=
  match s.prun p.val with
  | none => .next s
  | some r =>
    let j := r.job
    if r.drop then .next (s.endJob p.val r (JobEnd.bare 11))
    else match r.code with
      | some c => .next (s.endJob p.val r (JobEnd.bare c))
      | none =>
        if s.on (PCK_ISTATUS.STALL p.val) || decide (r.taken < j.inPages) then .next s
        else
          let (t, b, ue) := s.readMap p.val j.inTag (j.inPages + 1) j.inOfs j.inLen
          let t := t.countKib (PCK_IN_CNT.KIB p.val) p.val j.inLen
          if ue then .next (t.endJob p.val r (JobEnd.bare 10))
          else
            let e? := if j.op = 0 then packData j r.key (t.on PCK_CFG.VERIFY_EN) b
                      else some (unpackData j r.key (t.mapBytes j.outTag - j.outOfs) b)
            (match e? with
             | none => .next (t.selfCheckFail p)
             | some e =>
               -- An injection armed at the instance's memory meets the job (R471).
               if (t.armedAt 11 (fun a => a == p.val)).isSome then .next (t.packParityFail p) else
               let room := e.out.take (t.mapBytes j.outTag - j.outOfs)
               let t := t.writeMap j.outTag (room.length / 4096 + 2) j.outOfs room
               let t := if e.code = 0 ∧ !room.isEmpty then t.validSpan j.outTag j.outOfs room.length else t
               let t := t.countKib (PCK_OUT_CNT.KIB p.val) (2 + p.val) room.length
               .next (t.endJob p.val r e))

/-- The queued jobs of a command end DROPPED and a running one stops at its next input page boundary (R302). -/
def State.dropJobs (s : State) (hit : PJob → Bool) : State :=
  let gone := s.pack.queue.filter hit
  let t := (s.updPack (fun u => { u with queue := u.queue.filter (fun j => !hit j),
                                         runs := u.runs.map (Option.map (fun (r : PRun) => if hit r.job then { r with drop := true } else r)) }))
  (t.forEach gone (fun j t => t.deliverJob 0 j (JobEnd.bare 11))).showPack

/-! ### Keys (R294, R303) -/

/-- PCK_KEY_DATA_WRITE: the next key word; a 17th write is ignored (R303). -/
def execPckKeyDataWrite (v : Word) (s : State) : Res :=
  if 16 ≤ s.pack.keyData.length then .next s
  else .next (s.updPack (fun u => { u with keyData := u.keyData ++ [v] }))

/-- Loads a slot with 64 bytes and records it (R294, R475): none when it is not EMPTY or its halves are equal. -/
def State.loadKey (s : State) (slot : Nat) (key : List Byte) : Option State :=
  if (s.keySlot slot).state ≠ 0 ∨ key.take 32 = key.drop 32 ∨ key.length ≠ 64 then none
  else some ((s.setKey slot { state := 1, key := key }).logEvent 0x000B 0x1FF slot)

/-- PCK_KEY_LOAD: PCK_KEY_CMD with OP LOAD and GO. A slot that is not EMPTY, equal halves and a load without all 16 words set
KEY_REFUSED (R294, R303). -/
def execPckKeyLoad (w : Initiator) (slot : Fin 64) (s : State) : Res :=
  if !s.mayWrite w then .next s else
  let key := s.pack.keyData.flatMap (fun v => leBytes 4 v.toNat)
  let t := (s.wrs [(PCK_KEY_CMD.SLOT, slot.val), (PCK_KEY_CMD.OP, 0), (PCK_KEY_CMD.GO, 0)]).updPack (fun u => { u with keyData := [] })
  match t.loadKey slot.val key with
  | some t => .next (t.raiseBit PCK_STATUS.KEY_DONE PCK_INT_EN)
  | none => .next ((t.raiseBit PCK_STATUS.KEY_REFUSED PCK_INT_EN).refuseW w PCK_KEY_CMD 3)

/-- A job has bound slot `i`. -/
def State.keyBound (s : State) (i : Nat) : Bool :=
  s.pack.runs.any (fun r => match r with | some r => (r.key.map (fun e => e.1)) == some i | none => false)

/-- Erases a slot: LOADED becomes ERASING (R294). -/
def State.eraseKey (s : State) (i : Nat) : State :=
  if (s.keySlot i).state = 1 then s.setKey i { s.keySlot i with state := 2 } else s

/-- PCK_KEY_ERASE: PCK_KEY_CMD with OP ERASE and GO moves a LOADED slot to ERASING; on an EMPTY slot it is done at once (R294). -/
def execPckKeyErase (slot : Fin 64) (s : State) : Res :=
  let t := (s.wrs [(PCK_KEY_CMD.SLOT, slot.val), (PCK_KEY_CMD.OP, 1), (PCK_KEY_CMD.GO, 0)]).updPack (fun u => { u with keyData := [] })
  if (t.keySlot slot.val).state = 0 then .next (t.raiseBit PCK_STATUS.KEY_DONE PCK_INT_EN) else .next (t.eraseKey slot.val)

/-- KEY_ZEROIZE: within 64 cycles after the last bound job has ended the key material of an ERASING slot is zeroed and the slot becomes
EMPTY (R294). -/
def execKeyZeroize (slot : Fin 64) (s : State) : Res :=
  if (s.keySlot slot.val).state = 2 && !s.keyBound slot.val then
    .next (((s.setKey slot.val KeySlot.empty).logEvent 0x000B 0x1FF slot.val).raiseBit PCK_STATUS.KEY_DONE PCK_INT_EN)
  else .next s

/-! ### Results (R300, R303) -/

/-- The 128 bits of a result. -/
def PRes.value (r : PRes) : Nat :=
  r.token % 2 ^ 32 + 2 ^ 32 * (r.code % 16) + 2 ^ 36 * (r.inst % 2) + 2 ^ 37 * b2n r.restarted + 2 ^ 40 * (r.outLen % 2 ^ 24) +
  2 ^ 64 * (r.errPos % 2 ^ 32) + 2 ^ 96 * (r.granules % 8192)

/-- What PCK_RES shows: the oldest firmware result, or 0 with CODE 15. -/
def State.packResView (s : State) : Nat := match s.pack.results with | r :: _ => r.value | [] => 15 * 2 ^ 32

/-- PCK_RES_POP: reading PCK_RES3 answers its word and removes the oldest firmware result (R303). -/
def execPckResPop (s : State) : Res :=
  .next (((s.emit (.regRead (BitVec.ofNat 32 (s.packResView / 2 ^ 96)))).updPack (fun u => { u with results := u.results.drop 1 })).showPack)

end Sys2Proof.Machine
end

