-- ==== Sys2Proof/Machine/Preamp.lean ====
section
/-! DEFINITION. The preamplifier control ports (R114 to R119) and the health of heads (R123): frames, their queues and the
loss of a reader or writer. -/

namespace Sys2Proof.Machine
open Reg

/-! ### Frames (R114) -/

/-- CRC-4 with polynomial x^4 + x + 1 and seed 0 over the low `n` bits of a number, most significant first (R114). -/
def crc4 (x : Nat) : Nat → Nat → Nat
  | 0, c => c
  | n + 1, c =>
    let top := bitOf c 3 != bitOf x n
    crc4 x n ((2 * c) % 16 ^^^ (if top then 3 else 0))

/-- The 32 bits of a frame. -/
def PaFrame.bits (f : PaFrame) : Nat :=
  let body := (if f.read then 2 ^ 27 else 0) + 2 ^ 24 * (f.pos % 8) + 2 ^ 16 * (f.addr % 256) + (if f.read then 0 else f.data % 65536)
  16 * body + crc4 body 28 0

/-- Sends a frame on the port of actuator `a`. -/
def State.paSend (s : State) (a : Nat) (f : PaFrame) : State :=
  (s.updPort a (fun p => { p with inFlight := some f, repeated := false, silentUs := 0 })).emit (.paFrame (Fin.ofNat 4 a) f.bits)

/-- A frame of the K4's own. -/
def paWrite (pos addr data : Nat) : PaFrame := { read := false, pos := pos, addr := addr, data := data, mailbox := none }

/-- The WC word of a head (R117): write current, overshoot amplitude and duration. -/
def State.wcWord (s : State) (h : Nat) : Nat :=
  s.rd (WRP_WC_CFG.IW h) + 2 ^ 7 * s.rd (WRP_WC_CFG.OSA h) + 2 ^ 12 * s.rd (WRP_WC_CFG.OSD h)

/-- A gate is open on head `h`: its write gate, or that of the channel that reads it. -/
def State.headGate (s : State) (h : Nat) : Bool :=
  (s.head h).gate.isSome || (match s.chanOfHead h with | some n => (s.chan n).gate | none => false)

/-- MODE changes of position `pos` wait: the next one to WRITE_ARMED needs the head's WC value first, which is never changed while a gate is
open on the head (R121). -/
def State.modeHeld (s : State) (a pos : Nat) : Bool :=
  let h := a * 6 + pos
  s.headGate h && (s.head h).wcDue && (s.head h).mode != 2 && (s.port a).modeQ.any (fun e => e.1 == pos && e.2 == 2)

/-- With no frame in flight, the port takes its next frame in the order of R118; each change to WRITE_ARMED is preceded by the head's WC value,
and neither WC nor HTR changes while a gate is open on the head (R121). In HALTED nothing is sent (R116). -/
def State.paKick (s : State) (a : Nat) : State :=
  let p := s.port a
  if p.inFlight.isSome || s.mode == .halted || s.sys.inReset || !s.actPresent a then s
  else match p.statusQ with
    | pos :: l =>
      (s.updPort a (fun p => { p with statusQ := l })).paSend a { read := true, pos := pos, addr := 1, data := 0, mailbox := none }
    | [] =>
      match popFirst (fun e => !s.modeHeld a e.1) p.modeQ with
      | some ((pos, m), l) =>
        let h := a * 6 + pos
        if m = 2 ∧ (s.head h).mode ≠ 2 ∧ (s.head h).wcDue then
          (s.updHead h (fun u => { u with wcDue := false })).paSend a (paWrite pos 4 (s.wcWord h))
        else ((s.updPort a (fun p => { p with modeQ := l })).updHead h (fun u => { u with wcDue := true })).paSend a (paWrite pos 3 m)
      | none =>
        match popFirst (fun e => !s.headGate (a * 6 + e.1)) p.htrQ with
        | some ((pos, v), l) =>
          ((s.updPort a (fun p => { p with htrQ := l })).updHead (a * 6 + pos) (fun u => { u with htr := v })).paSend a (paWrite pos 5 v)
        | none =>
          match p.mailQ with
          | f :: l =>
            let t := (s.updPort a (fun p => { p with mailQ := l })).paSend a f
            (match f.mailbox with
             | some pos => t.clr (WRP_PA_CMD.GO (a * 6 + pos))
             | none => t)
          | [] => s

/-- ARM: requests a MODE frame for head `h` (R118). -/
def State.arm (s : State) (h mode : Nat) : State :=
  (s.updPort (h / 6) (fun p => { p with modeQ := p.modeQ ++ [(h % 6, mode)] })).paKick (h / 6)

/-- Queues a heater frame (R120). -/
def State.heaterFrame (s : State) (h v : Nat) : State :=
  (s.updPort (h / 6) (fun p => { p with htrQ := p.htrQ ++ [(h % 6, v)] })).paKick (h / 6)

/-- The heater value of a head's mode (R120). -/
def State.heaterFor (s : State) (h : Nat) : Nat :=
  match (s.head h).mode with
  | 1 => s.rd (WRP_HTR_CFG.HTR_RD h)
  | 2 => s.rd (WRP_HTR_CFG.HTR_WR h)
  | _ => s.rd (WRP_HTR_CFG.HTR_IDLE h)

/-- Queues a write of STATUS_CLR of the K4's own for a head (R125), with the mailbox frames and behind those that wait (log entry 143). -/
def State.statusClr (s : State) (h mask : Nat) : State :=
  (s.updPort (h / 6) (fun p => { p with mailQ := p.mailQ ++ [paWrite (h % 6) 2 mask] })).paKick (h / 6)

/-- A STATUS read is queued or in flight on the port. -/
def PaPort.statusWaits (p : PaPort) : Bool :=
  !p.statusQ.isEmpty || (match p.inFlight with | some f => f.read && f.addr == 1 | none => false)

/-- The preamplifier-fault condition of an actuator ends once the line is released, every STATUS read is done and each
cause has been cleared (R124). -/
def State.paCheck (s : State) (a : Nat) : State :=
  let p := s.port a
  if p.fault && !p.lineLow && !p.statusWaits && p.status.all (fun x => x % 2048 == 0) then s.updPort a (fun p => { p with fault := false })
  else s

/-! ### Head health (R123) -/

/-- The channel that serves head `h` runs in the single-reader mode of a reader, now and after every later glue-up of group 8 (R79). -/
def State.runOnReader (s : State) (h mode : Nat) : State :=
  match s.chanOfHead h with
  | some n => s.wrs [(RCH_CTRL.READERS n, mode), ((RCH_CTRL.READERS n).hold, mode)]
  | none => s

/-- A reader of head `h` is lost: its channel runs in the other reader's mode; with no reader left the zones of the domain
go OFFLINE (R123, R29). -/
def State.loseReader (s : State) (h : Nat) (b : Bool) : State :=
  let f := if b then WRP_STATUS.READER_B_LOST else WRP_STATUS.READER_A_LOST
  if s.on (f h) then s
  else
    let t := (s.wrpBit h f).logFree 0x000C 0x1FF
    if t.sys.cfg.readers = 1 ∨ (t.on (WRP_STATUS.READER_A_LOST h) ∧ t.on (WRP_STATUS.READER_B_LOST h)) then t.offlineZones h
    else t.runOnReader h (if b then 1 else 2)

/-- The writer of head `h` is lost: its zones go READ ONLY and the head is inhibited (R123, R29). -/
def State.loseWriter (s : State) (h : Nat) : State :=
  if s.on (WRP_STATUS.WRITER_LOST h) then s
  else (((s.wrpBit h WRP_STATUS.WRITER_LOST).logFree 0x000C 0x1FF).writerLostZones h).showInhibit h

/-- The channel that serves head `h` suspects a reader (R79). -/
def State.suspects (s : State) (h : Nat) (b : Bool) : Bool :=
  match s.chanOfHead h with
  | none => false
  | some n =>
    if b then s.on (RCH_HEALTH_B.OPEN_SUSPECT n) || s.on (RCH_HEALTH_B.SHORT_SUSPECT n)
    else s.on (RCH_HEALTH_A.OPEN_SUSPECT n) || s.on (RCH_HEALTH_A.SHORT_SUSPECT n)

/-- The preamplifier reports a reader of head `h` open or short. -/
def State.readerReported (s : State) (h : Nat) (b : Bool) : Bool :=
  let st := (s.port (h / 6)).status.getD (h % 6) 0
  if b then bitOf st 5 || bitOf st 6 else bitOf st 3 || bitOf st 4

/-- A reader that both the preamplifier and the channel report is lost at once (R123). -/
def State.judgeReaders (s : State) (h : Nat) : State :=
  let t := if s.readerReported h false && s.suspects h false then s.loseReader h false else s
  if t.readerReported h true && t.suspects h true then t.loseReader h true else t

/-- Clears the health flags of a reader's channel (R123). -/
def State.clearSuspects (s : State) (h : Nat) (b : Bool) : State :=
  match s.chanOfHead h with
  | none => s
  | some n =>
    if b then
      (s.updChan n (fun c => { c with openB := 0, quietB := 0 })).wrs
        [(RCH_HEALTH_B.OPEN_SUSPECT n, 0), (RCH_HEALTH_B.SHORT_SUSPECT n, 0)]
    else
      (s.updChan n (fun c => { c with openA := 0, quietA := 0 })).wrs
        [(RCH_HEALTH_A.OPEN_SUSPECT n, 0), (RCH_HEALTH_A.SHORT_SUSPECT n, 0)]

end Sys2Proof.Machine
end

