-- ==== Sys2Proof/Machine/Sequencer.lean ====
section
/-! DEFINITION. The Twiari sector sequencers (chapter 06): the stores and their corrections, the micro and nano words,
the window of each bell, engine faults and hooks. Each micro-word command executes the word at the engine's PC when
that word has the command's form. -/

namespace Sys2Proof.Machine
open Reg

/-! ### Fetching from the stores (R131) -/

/-- The key of a word's bit errors. -/
def errKey (nano : Bool) (copy addr : Nat) : Nat := copy * 32768 + b2n nano * 16384 + addr

/-- Fetches a word for engine `a`: a correctable error is corrected, an uncorrectable one takes the other copy and
repairs this one; both are counted and raise SEQ_STORE (R131). -/
def State.fetchStore (s : State) (a : Nat) (nano : Bool) (addr : Nat) : State × Nat :=
  -- An injection armed at the word inverts check bits: one is corrected, more are not (R471, log entry 47).
  let hit := s.armedAt 4 (fun k => k == errKey nano 0 addr)
  let e := match hit with
    | some j => if ((List.range 9).filter (bitOf j.mask)).length = 1 then 1 else 2
    | none => sparseGet 0 s.stores.errs (errKey nano 0 addr)
  if e = 0 then (s, s.storeWord nano 0 addr)
  else
    let s := s.when hit.isSome State.injDone
    let t := s.raiseBit (SEQ_STATUS.STORE_CORR a) (SEQ_INT_EN a)
    let inj := { ctx0 with detail := a, injected := hit.isSome }
    if e = 1 then (((t.inc SEQ_STORE_ERR.CORRECTED).raiseSrc 0x0C8 inj), s.storeWord nano 0 addr)
    else
      let t := { t with stores := { t.stores with errs := sparseSet 0 t.stores.errs (errKey nano 0 addr) 0 } }
      let t := (t.inc SEQ_STORE_ERR.REPAIRS).raiseBit SEQ_GSTATUS.STORE_REPAIR SEQ_GINT_EN
      (t.raiseSrc 0x0C8 inj, s.storeWord nano 1 addr)

/-! ### Micro words (R140) -/

/-- The forms of a micro word. -/
inductive MWord where
  | nano (naddr hsel guard : Nat)
  | branch (disp : Int) (cond : Nat)
  | jump (target : Nat)
  | call (target : Nat)
  | ctl (op arg : Nat)
  | bad
deriving DecidableEq, Repr

/-- Decodes a micro word by its top bits (R140). -/
def decodeMicro (w : Nat) : MWord :=
  let top := bitsOf w 15 13
  if top ≤ 3 then
    (if bitsOf w 12 10 = 7 then .bad else .nano (bitsOf w 9 0) (bitsOf w 12 10) (bitsOf w 14 13))
  else if top ≤ 5 then .branch (sext 10 (bitsOf w 9 0)) (bitsOf w 13 10)
  else if top = 6 then .jump (2 * bitsOf w 12 0)
  else if bitsOf w 12 11 = 0 then .call (8 * bitsOf w 10 0)
  else if bitsOf w 12 11 = 1 then
    (if bitsOf w 10 8 = 7 then .bad
     else if bitsOf w 10 8 = 4 ∧ bitsOf w 7 3 ≠ 0 then .bad
     else .ctl (bitsOf w 10 8) (bitsOf w 7 0))
  else .bad

/-! ### Format lengths and regions -/

/-- PRE_LEN of engine `a` in bits (R40). -/
def State.preLen (s : State) (a : Nat) : Nat := 8 * s.rd (SEQ_FORMAT.PRE_LEN a)
/-- FPRE_LEN of engine `a` in bits. -/
def State.fpreLen (s : State) (a : Nat) : Nat := 8 * s.rd (SEQ_FORMAT.FPRE_LEN a)
/-- GAP_LEN of engine `a` in bits. -/
def State.gapLen (s : State) (a : Nat) : Nat := 8 * s.rd (SEQ_FORMAT.GAP_LEN a)

/-- The data region of a wedge period in whole channel bits (R36, R130): (period − SERVO_REGION_NS) × bit rate, where
the bit rate is RATE_FW ÷ 2^31 × 5 Gbit/s (R54). -/
def regionBits (rpm wedges servoNs fw : Nat) : Nat :=
  5 * fw * (60000000000 - servoNs * rpm * wedges) / (rpm * wedges * 2 ^ 31)

/-- The region length on engine `a` at rate class `rc`. -/
def State.regionLen (s : State) (a rc : Nat) : Nat :=
  regionBits s.sys.cfg.rpm s.sys.cfg.wedges (s.rd (SEQ_FORMAT.SERVO_NS a)) (s.reg (rateAt (2 * rc))).toNat

/-! ### The lanes of the window in hand -/

/-- The lanes that the engine works on: those of the window in hand, else the committed ones. -/
def SeqU.work (e : SeqU) : List Lane := e.tent.getD e.lanes

/-- Updates the lane at position `p` of the lanes in work. -/
def SeqU.updWork (e : SeqU) (p : Nat) (f : Lane → Lane) : SeqU :=
  match e.tent with
  | some ls => { e with tent := some (listModify ls p f) }
  | none => { e with lanes := listModify e.lanes p f }

/-- Events of a lane, committed and new, in posting order. -/
def Lane.allEvents (l : Lane) : List GateEv := l.events ++ l.newEvents

/-- An event is refused (R139): beyond LEN, a full queue, or not later than the event posted before it in the region
(a CLOSE and the next OPEN may share a bit time). -/
def Lane.refuses (l : Lane) (e : GateEv) : Bool :=
  decide (l.len < e.time) || decide (16 ≤ l.allEvents.length) ||
  (match l.allEvents.getLast? with
   | none => false
   | some q => decide (q.region = e.region) &&
       (decide (e.time < q.time) || (decide (e.time = q.time) && !(q.act == .close && e.act != .close))))

/-- Posts an event on a lane. -/
def Lane.post (l : Lane) (e : GateEv) : Lane := { l with newEvents := l.newEvents ++ [e] }

/-! ### SPLIT (R144) -/

/-- The codeword bits that R38 places in a fragment starting at OFS, and the Z and C flags (R144). -/
def splitBits (pre fpre gap : Nat) (l : Lane) (a b : Nat) : Nat × Bool × Bool :=
  if l.cw = 0 then
    if l.snum = l.spt then (0, true, false)
    else
      let c := firstFragment pre gap a
      (c, c == 0, c == 37120)
  else
    let c := nextFragment fpre gap b a
    (c, c == 0, c == b && c != 0)

/-! ### Lane operations (R143, R145, R130) -/

/-- Where the postamble of a fragment of `c` bits ends, from OFS (R36, R38). -/
def fragmentEnd (pre fpre : Nat) (l : Lane) (c : Nat) : Nat :=
  if l.cw = 0 then l.ofs + pre + 104 + c else l.ofs + fpre + 64 + c

/-- NEXT_REGION (R130): the gauge moves to the next data region; at the region after wedge 0, SNUM, OFS and CW are 0. -/
def laneNextRegion (wedges len : Nat) (l : Lane) : Lane :=
  let r := (l.region + 1) % wedges
  if r = 0 then { l with region := r, ofs := 0, snum := 0, cw := 0, frags := 0, len := len }
  else { l with region := r, ofs := 0, len := len }

/-- The advance of the gauge by PLACE with c ≠ 0 (R145 steps 2 and 3). -/
def lanePlaced (pre fpre gap : Nat) (l : Lane) (c : Nat) : Lane :=
  let fe := fragmentEnd pre fpre l c
  if 37120 ≤ l.cw + c then
    { l with ofs := fe + gap, sectDone := true, snum := l.snum + 1, cur := none, mode := .none, cw := 0, frags := 0,
             posted := false }
  else { l with ofs := l.len, cw := l.cw + c, frags := l.frags + 1, sectDone := false }

/-- A gate of the sector with this token has opened, and it has not finished. -/
def State.gateOpened (s : State) (tok : Nat) : Bool := match s.sec? tok with | some w => w.st == .underway | none => false

/-- Channel `n`, serving head `h`, stops in the middle of a sector (R62): it is IDLE, its LLR buffer is freed and its abandoned record sent. Its
slot becomes NOT_RETAINED, or is left as it is where a spare takes over (`keep`, R77). -/
def State.stopChannel (s : State) (n h : Nat) (keep : Bool) : State :=
  if (s.chan n).fsm = .idle then s
  else
    let c := s.chan n
    let t := s.updChan n (fun u => { u with fsm := .idle, gate := false, sector := none, buf := none, reserve := none, taA := none, taB := none })
    let t := match c.slotIx with
      | none => t
      | some i =>
        let t := t.updChan n (fun u => { u with slotIx := none })
        if keep then t else (t.updChan n (fun u => { u with slots := listModify u.slots i (fun d => { d with state := 3 }) })).putSlot n i
    match c.sector with
    | none => t
    | some d =>
      let t := t.releaseBuf c.buf
      t.postRec { token := d.token, lba := d.lba, source := n, outcome := 1, iter := 0, step := 0,
                  reread := ((s.sec? d.token).map (fun w => w.rereads)).getD 0, head := h, dqm := 0, sw := 0, aligned := false }

/-- One read sector under way on head `h` is abandoned: its channel, and a spare that shadows the head, see a gate closing before its planned
end (R62). -/
def State.abandonChannel (s : State) (h : Nat) : State :=
  let t := match s.chanOfHead h with
    | none => s
    | some n => s.stopChannel n h false
  match t.shadowOf h with
  | none => t
  | some sp => t.updChan sp (fun u => { u with fsm := .idle, gate := false, sector := none, taA := none, taB := none })

/-- A read sector whose channel has stopped has no complete LLRs: its later events are cancelled and it goes directly to the re-read rung
(R93). -/
def State.rereadAbandoned (s : State) (h : Nat) (d : SDesc) : State :=
  let n := (s.chanOfHead h).getD h
  let x : DSect :=
    { token := d.token, lba := d.lba, head := h, chan := n, slot := none, dqm := 0, sw0 := 0, syncPos := 0, bestPos := 0,
      rereads := ((s.sec? d.token).map (fun w => w.rereads)).getD 0,
      cls := ((s.cmd? (tokTag d.token)).map (fun k => k.cls)).getD 3, age := s.dec.clock, buf := none, shifts := [], shift := 0,
      fromTrial := false }
  let t := (s.cancelToken h d.token).inc (SEQ_EVT_CNT.ABANDONED (h / 6))
  (t.updSec d.token (fun w => { w with st := .decoding })).rung3 x

/-- PLACE on head `h` of engine `a` with c = result of slot X (R145): the events in read or write mode, refused under
R139, and the advance of the gauge. -/
def State.place (s : State) (a p c : Nat) : State :=
  let l := (s.seq a).work.getD p Lane.init
  if c = 0 then s.updSeq a (fun e => e.updWork p (fun l => { l with ofs := l.len, sectDone := false }))
  else
    let pre := s.preLen a
    let fpre := s.fpreLen a
    let gap := s.gapLen a
    let fin := decide (37120 ≤ l.cw + c)
    match l.mode, l.cur with
    | .read, some d | .write, some d =>
      let o : GateEv := { act := if d.write then .openWrite else .openRead, desc := d, first := l.cw == 0, final := fin,
                          time := l.ofs, region := l.region, cw := l.cw }
      let k : GateEv := { o with act := .close, time := fragmentEnd pre fpre l c, cw := l.cw + c }
      if l.refuses o || (l.post o).refuses k then
        -- The sector is returned; its layout goes on dry (R139).
        let t := s.raiseBit (SEQ_STATUS.ORDER a) (SEQ_INT_EN a)
        let opened := t.gateOpened d.token
        let t := if opened && !d.write then (t.abandonChannel (a * 6 + p)).rereadAbandoned (a * 6 + p) d
                 else t.returnSector (a * 6 + p) d opened
        t.updSeq a (fun e => e.updWork p (fun l => lanePlaced pre fpre gap l c))
      else s.updSeq a (fun e => e.updWork p (fun l => lanePlaced pre fpre gap { (l.post o).post k with posted := true } c))
    | _, _ => s.updSeq a (fun e => e.updWork p (fun l => lanePlaced pre fpre gap l c))

/-- TAKE: the list's first descriptor becomes the current sector (R143). -/
def laneTake (l : Lane) : Lane :=
  match l.list with
  | [] => l
  | d :: ds => { l with cur := some d, mode := if d.write then .write else .read, list := ds, posted := false }

/-- SKIP: the current sector is dry. -/
def laneSkip (l : Lane) : Lane := { l with cur := none, mode := .dry, posted := false }

/-! ### Engine control -/

/-- Counts cycles; hook code cycles count while PC lies in the open region (R142). -/
def State.cycles (s : State) (a n : Nat) : State :=
  let hook := decide (12288 ≤ s.rd (SEQ_PC.PC a))
  s.updSeq a (fun e => { e with cycles := e.cycles + n, hookUsed := if hook then e.hookUsed + n else e.hookUsed })

/-- The dry layout of one region under R38: places sectors until the region is full (`fuel` bounds the sectors). -/
def dryLayout (pre fpre gap : Nat) : Nat → Lane → Lane
  | 0, l => l
  | n + 1, l =>
    let (c, z, _) := splitBits pre fpre gap l (l.len - l.ofs) (37120 - l.cw)
    if z || c == 0 || decide (l.len ≤ l.ofs) then { l with ofs := l.len }
    else dryLayout pre fpre gap n (lanePlaced pre fpre gap l c)

/-- A sector leaves a lane whose engine has overrun or restarts (R134, R136, R151): ABANDONED when a gate of it has opened, its
channel or gate with it, and a read then re-read (R93); else NOT_STARTED. -/
def State.leaveSector (s : State) (h : Nat) (d : SDesc) (shut : Bool) : State :=
  if s.gateOpened d.token then
    (if d.write then (if shut then s.closeGate h else s).returnSector h d true
     else (s.abandonChannel h).rereadAbandoned h d)
  else s.returnSector h d false

/-- R134 steps 1 and 2 on every lane of engine `a`: the window's tentative work is discarded, sectors under way are abandoned or rewritten, one taken
and not begun is returned, and each lane steps itself dry through the region. -/
def State.stepDry (s : State) (a : Nat) : State :=
  let t := s.updSeq a (fun e => { e with tent := none, lanes := e.lanes.map (fun l => { l with newEvents := [] }) })
  let t := t.forEach (List.range 6) (fun p t =>
    let h := a * 6 + p
    match (t.lane h).cur with
    | none => t
    | some d => t.leaveSector h d false)
  t.updSeq a (fun e => { e with lanes := e.lanes.map (fun l =>
    let rl := t.regionLen a l.rateClass
    laneNextRegion t.sys.cfg.wedges rl (dryLayout (t.preLen a) (t.fpreLen a) (t.gapLen a) 32 { l with sectDone := false })) })

/-- A FLUSH of one lane (R136): sectors with no open gate, listed descriptors and a current sector with CW = 0 are
returned NOT_STARTED; sectors under way run to their ends. -/
def State.flushLane (s : State) (h : Nat) : State :=
  let l := s.lane h
  let unstarted := ((l.events.filter (fun e => e.first && e.act != .close)).map (fun e => e.desc)) ++ l.list ++ l.incoming ++
    (match l.cur with | some d => if l.cw = 0 then [d] else [] | none => [])
  let t := s.forEach unstarted (fun d t => t.returnSector h d false)
  t.updLane h (fun l => { l with list := [], incoming := [] })

/-- A FLUSH of actuator `a` takes effect, and its SEQ_FLUSH bit clears (R136). -/
def State.flushAct (s : State) (a : Nat) : State :=
  let t := s.forEach (List.range 6) (fun p t => t.flushLane (a * 6 + p))
  (t.updSeq a (fun e => { e with flushPend := false })).wr ⟨SEQ_FLUSH, a, a⟩ 0

/-- Fences engine `a` (R151, R460): its actuator is retracted and its domain's commands end with ZONE_OFFLINE. -/
def State.fenceSeq (s : State) (a : Nat) : State :=
  (((s.markFenced (.seq (Fin.ofNat 4 a))).clr (SEQ_CTRL.EN a)).retract a).domainDead a

/-- A restart of the engine (R151), or its fence at the third restart within 1 s: the window in hand is handled as in R134, every sector that the
lanes hold leaves them, and the engine's state is cleared but for the zone parameters of its lanes, which the scheduler loads, and the region that
each stands at (DEDUCED, log entry 149). A FLUSH that came in the window has taken effect with it (R136). -/
def State.restart (s : State) (a : Nat) : State :=
  let recent := ((s.seq a).restarts.filter (fun x => decide (s.sys.time < x + unitsPerSecond))) ++ [s.sys.time]
  let t := if (s.seq a).tent.isSome then s.stepDry a else s
  let t := t.forEach (List.range 6) (fun p t =>
    let l := t.lane (a * 6 + p)
    let gone := l.list ++ l.incoming ++ l.cur.toList ++ l.events.map (fun e => e.desc)
    (t.forEach gone (fun d t => t.leaveSector (a * 6 + p) d true)).closeGate (a * 6 + p))
  let t := t.updSeq a (fun e =>
    { SeqU.init with
      restarts := recent,
      lanes := e.lanes.map (fun l => { Lane.init with region := l.region, spt := l.spt, rateClass := l.rateClass }) })
  let t := t.wrs [(SEQ_LC_SP.LC a, 0), (SEQ_LC_SP.SP a, 0), (SEQ_STATUS.WAITING a, 1), (SEQ_STATUS.RUNNING a, 0),
                  (SEQ_PC.PC a, t.rd (SEQ_ENTRY.ENTRY a))]
  let t := (t.showEnds a 0).when (s.seq a).flushPend (fun t => t.flushAct a)
  if 3 ≤ recent.length then
    (t.raiseSrc (0x0C9 + a) { ctx0 with detail := a }).fenceSeq a
  else (t.raiseBit (SEQ_STATUS.RESTARTED a) (SEQ_INT_EN a)).inc (SEQ_EVT_CNT.RESTARTS a)

/-- Hooks of engine `a` are disabled: HOOK_EN is cleared in its register and its holding copy, so that no glue-up sets it again (R142, R148). -/
def State.hooksOff (s : State) (a : Nat) : State := (s.clr (SEQ_CTRL.HOOK_EN a)).clr (SEQ_CTRL.HOOK_EN a).hold

/-- A violation in the open region (R142): back to the hook's caller, with the status bit set and HOOK_EN cleared. -/
def State.hookBack (s : State) (a : Nat) (bit : Fld) : State :=
  match (s.seq a).hookFrame with
  | none => (s.raiseBit (SEQ_STATUS.STACK a) (SEQ_INT_EN a)).restart a
  | some (ret, depth) =>
    let t := (s.raiseBit bit (SEQ_INT_EN a)).hooksOff a
    let t := t.updSeq a (fun e => { e with stack := e.stack.take depth, hookFrame := none })
    (t.wr (SEQ_PC.PC a) ret).wr (SEQ_LC_SP.SP a) depth

/-- PC lies in the customer-open region. -/
def State.inHook (s : State) (a : Nat) : Bool := decide (12288 ≤ s.rd (SEQ_PC.PC a))

/-- A stack fault (R141): handled as a violation in the open region, else STACK and a restart. -/
def State.stackFault (s : State) (a : Nat) : State :=
  if s.inHook a then s.hookBack a (SEQ_STATUS.STACK a)
  else (s.raiseBit (SEQ_STATUS.STACK a) (SEQ_INT_EN a)).restart a

/-- The next word in sequence (R141): an increment past 16,383 is an engine fault. -/
def State.seqNext (s : State) (a n : Nat) : State :=
  let pc := s.rd (SEQ_PC.PC a)
  let t := s.cycles a n
  if pc + 1 > 16383 then t.stackFault a else t.wr (SEQ_PC.PC a) (pc + 1)

/-- A branch, jump or loop to a target: confined while PC lies in the open region (R142); an address outside the store
is an engine fault (R141). -/
def State.seqGoto (s : State) (a n : Nat) (target : Int) : State :=
  let t := s.cycles a n
  if s.inHook a && (decide (target < 12288) || decide (16383 < target)) then t.hookBack a (SEQ_STATUS.CONFINE a)
  else if target < 0 ∨ 16383 < target then t.stackFault a
  else t.wr (SEQ_PC.PC a) target.toNat

/-! ### Conditions (R140) -/

/-- Whether a BRANCH condition is true. -/
def State.seqCond (s : State) (a cond : Nat) : Bool :=
  let e := s.seq a
  let l := e.work.getD e.hp Lane.init
  let h := a * 6 + e.hp
  match cond with
  | 0 => true
  | 1 => e.z
  | 2 => !e.z
  | 3 => e.c
  | 4 => !e.c
  | 5 => e.n
  | 6 => !e.n
  | 7 => l.list.isEmpty
  | 8 => !l.list.isEmpty
  | 9 => e.late
  | 10 => e.dropped || (s.headsOf a).any s.wus
  | 11 => s.rd (SRV_STATUS.STATE h) == 5
  | 12 => !s.headPresent h
  | 13 => e.lc == 0
  | 14 => l.sectDone
  | _ => l.region == 0

/-! ### Nano words (R143) -/

/-- The value of an operand source. -/
def nanoSrc (e : SeqU) (l : Lane) (imm code : Nat) : Nat :=
  if code < 8 then (e.v.getD code 0).toNat
  else match code with
    | 8 => e.lc
    | 9 => e.hp
    | 10 => l.ofs
    | 11 => l.len
    | 12 => l.cw
    | 13 => l.snum
    | 14 => (match l.list with | d :: _ => d.sector | [] => 0xFFFFFFFF)
    | _ => imm

/-- The result of an ALU operation, and its carry. SPLIT is evaluated with the lane (R144). -/
def nanoAlu (pre fpre gap : Nat) (l : Lane) (op a b : Nat) : Nat × Bool :=
  let w := 2 ^ 32
  let k := b % 32
  match op with
  | 0 => (a, false)
  | 1 => ((a + b) % w, decide (w ≤ a + b))
  | 2 => ((a + w - b) % w, decide (a < b))
  | 3 => (a &&& b, false)
  | 4 => (a ||| b, false)
  | 5 => (a ^^^ b, false)
  | 6 => (a * 2 ^ k % w, if k = 0 then false else bitOf a (32 - k))
  | 7 => (a / 2 ^ k, if k = 0 then false else bitOf a (k - 1))
  | 8 => (min a b, decide (a < b))
  | 9 => (max a b, decide (a < b))
  | 10 => ((a + w - b) % w, decide (a < b))
  | _ => let r := splitBits pre fpre gap l a b
         (r.1, r.2.2)

/-- N of an operation: bit 31, 0 for SHR, MIN, MAX and SPLIT. -/
def nanoN (op r : Nat) : Bool := if op = 7 ∨ op = 8 ∨ op = 9 ∨ op = 11 then false else bitOf r 31

/-- Z of an operation: the result is 0; for SPLIT as R144 gives. -/
def nanoZ (pre fpre gap : Nat) (l : Lane) (op a b r : Nat) : Bool :=
  if op = 11 then (splitBits pre fpre gap l a b).2.1 else r == 0

/-- Writes a slot's result; an HP above 5 answers none. -/
def nanoDst (e : SeqU) (dst r : Nat) : Option SeqU :=
  if dst < 8 then some { e with v := listSet e.v dst (BitVec.ofNat 32 r) }
  else if dst = 8 then some { e with lc := r % 65536 }
  else if dst = 9 then (if 5 < r % 8 then none else some { e with hp := r % 8 })
  else some e

/-- Executes a nano word on the lane that HSEL names: both ALU slots on the old operands, then the lane operation. -/
def State.runNano (s : State) (a naddr hsel : Nat) : State :=
  let (t, w) := s.fetchStore a true naddr
  let e := t.seq a
  let p := if hsel = 6 then e.hp else hsel
  let l := e.work.getD p Lane.init
  let pre := t.preLen a
  let fpre := t.fpreLen a
  let gap := t.gapLen a
  let xop := bitsOf w 3 0
  let xa := nanoSrc e l (bitsOf w 47 16) (bitsOf w 11 8)
  let xb := nanoSrc e l (bitsOf w 47 16) (bitsOf w 15 12)
  let (xr, xc) := nanoAlu pre fpre gap l xop xa xb
  let yop := bitsOf w 51 48
  let ya := nanoSrc e l (bitsOf w 95 64) (bitsOf w 59 56)
  let yb := nanoSrc e l (bitsOf w 95 64) (bitsOf w 63 60)
  let (yr, _) := nanoAlu pre fpre gap l yop ya yb
  let e1 := if xop = 10 then some e else nanoDst e (bitsOf w 7 4) xr
  match e1.bind (fun e1 => nanoDst e1 (bitsOf w 55 52) yr) with
  | none => t.stackFault a
  | some e2 =>
    let e3 := if bitOf w 96 then { e2 with z := nanoZ pre fpre gap l xop xa xb xr, c := xc, n := nanoN xop xr } else e2
    let t := t.updSeq a (fun _ => e3)
    let t := t.wr (SEQ_LC_SP.LC a) e3.lc
    let t := match bitsOf w 100 97 with
      | 1 => t.updSeq a (fun e => e.updWork p laneTake)
      | 2 => t.updSeq a (fun e => e.updWork p laneSkip)
      | 3 => t.place a p xr
      | 4 => t.updSeq a (fun e => e.updWork p (fun l => laneNextRegion t.sys.cfg.wedges (t.regionLen a l.rateClass) l))
      | 5 => t.arm (a * 6 + p) (bitsOf w 102 101)
      | _ => t
    t.seqNext a 1

/-! ### Words -/

/-- The guard of a NANO word passes (R140). -/
def nanoGuard (e : SeqU) (g : Nat) : Bool :=
  match g with
  | 0 => true
  | 1 => e.z
  | 2 => !e.z
  | _ => e.c

/-- A NANO word: executed when its guard passes; otherwise it takes one cycle and has no effect. -/
def State.wNano (s : State) (a naddr hsel g : Nat) : State :=
  if nanoGuard (s.seq a) g then s.runNano a naddr hsel else s.seqNext a 1

/-- A BRANCH word (R141). -/
def State.wBranch (s : State) (a : Nat) (disp : Int) (cond : Nat) : State :=
  if s.seqCond a cond then s.seqGoto a 2 ((s.rd (SEQ_PC.PC a) : Int) + 1 + disp) else s.seqNext a 1

/-- A CALL word (R141, R149): with HOOK_EN clear, a call of the open region does nothing. -/
def State.wCall (s : State) (a target : Nat) : State :=
  let e := s.seq a
  let pc := s.rd (SEQ_PC.PC a)
  let intoHook := !s.inHook a && decide (12288 ≤ target)
  if decide (12288 ≤ target) && !s.on (SEQ_CTRL.HOOK_EN a) then s.seqNext a 2
  else if s.inHook a && decide (target < 12288) then (s.cycles a 2).hookBack a (SEQ_STATUS.CONFINE a)
  else if 4 ≤ e.stack.length ∨ 16383 < pc + 1 then (s.cycles a 2).stackFault a
  else
    let t := (s.cycles a 2).updSeq a (fun e =>
      { e with stack := e.stack ++ [pc + 1], hookFrame := if intoHook then some (pc + 1, e.stack.length) else e.hookFrame })
    (t.wr (SEQ_PC.PC a) target).wr (SEQ_LC_SP.SP a) (e.stack.length + 1)

/-- A RET word (R141): only RET may leave the open region. -/
def State.wRet (s : State) (a : Nat) : State :=
  let e := s.seq a
  match e.stack.getLast? with
  | none => (s.cycles a 2).stackFault a
  | some r =>
    let t := (s.cycles a 2).updSeq a (fun e =>
      { e with stack := e.stack.dropLast, hookFrame := if r < 12288 then none else e.hookFrame })
    (t.wr (SEQ_PC.PC a) r).wr (SEQ_LC_SP.SP a) (e.stack.length - 1)

/-- LOOP: LC ← LC − 1; if LC ≠ 0, branch to PC − ARG (R140, R141). -/
def State.wLoop (s : State) (a arg : Nat) : State :=
  let lc := ((s.seq a).lc + 65535) % 65536
  let t := (s.updSeq a (fun e => { e with lc := lc })).wr (SEQ_LC_SP.LC a) lc
  if lc = 0 then t.seqNext a 1 else t.seqGoto a 2 ((s.rd (SEQ_PC.PC a) : Int) - arg)

/-- JUMPV: to V(ARG[2:0]) bits [13:0]. -/
def State.wJumpv (s : State) (a arg : Nat) : State :=
  s.seqGoto a 2 ((bitsOf ((s.seq a).v.getD (arg % 8) 0).toNat 13 0 : Nat) : Int)

/-- SIGNAL: the code and its count in SEQ_n_SIGNAL, and an interrupt. -/
def State.wSignal (s : State) (a arg : Nat) : State :=
  (((s.wr (SEQ_SIGNAL.CODE a) arg).inc (SEQ_SIGNAL.COUNT a)).emit (.helmIrq (SEQ_SIGNAL a) 0)).seqNext a 1

/-- WWAIT commits the window (R132, R133): lane changes and events take effect, planned read ends are published, the
V registers show, and the engine waits. A FLUSH that came in the window takes effect after the commit. -/
def State.wWait (s : State) (a : Nat) : State :=
  let e := s.seq a
  let pc := s.rd (SEQ_PC.PC a)
  let ls := e.work.map (fun l => { l with events := l.events ++ l.newEvents, newEvents := [] })
  let cyc := e.cycles + 1
  let t := s.updSeq a (fun e => { e with lanes := ls, tent := none, late := false, dropped := false, cycles := 0,
                                         hookUsed := 0 })
  let t := (t.showEnds a 0).wrs [(SEQ_WINDOW.LAST a, satU 9 cyc), (SEQ_STATUS.WAITING a, 1), (SEQ_STATUS.RUNNING a, 0)]
  let t := t.maxF (SEQ_WINDOW.MAX a) (satU 9 cyc)
  let t := t.forEach (List.range 8) (fun j t => t.wr (SEQ_V.V a j) ((e.v.getD j 0).toNat))
  -- An increment past 16,383 is a fault of the engine here as anywhere.
  let t := if pc + 1 > 16383 then t.stackFault a else t.wr (SEQ_PC.PC a) (pc + 1)
  t.when (t.seq a).flushPend (fun t => t.flushAct a)

/-- STOP: the engine stops and EN clears. A FLUSH that came in the window takes effect (R136). -/
def State.wStop (s : State) (a : Nat) : State :=
  let t := s.updSeq a (fun e => { e with tent := none, started := false, cycles := 0, hookUsed := 0 })
  let t := t.wrs [(SEQ_CTRL.EN a, 0), (SEQ_STATUS.RUNNING a, 0), (SEQ_STATUS.WAITING a, 0)]
  t.when (t.seq a).flushPend (fun t => t.flushAct a)

/-- Executes the fetched micro word, whatever its form. A refused encoding never reaches a store (R140). -/
def State.runWord (s : State) (a : Nat) : MWord → State
  | .nano n h g => s.wNano a n h g
  | .branch d c => s.wBranch a d c
  | .jump t => s.seqGoto a 2 (t : Int)
  | .call t => s.wCall a t
  | .ctl op arg =>
    match op with
    | 0 => s.seqNext a 1
    | 1 => s.wRet a
    | 2 => s.wWait a
    | 3 => s.wLoop a arg
    | 4 => s.wJumpv a arg
    | 5 => s.wSignal a arg
    | _ => s.wStop a
  | .bad => s

/-- Engine `a` is executing a window: present, running, not fenced. -/
def State.seqRunning (s : State) (a : Nat) : Bool := s.actPresent a && s.on (SEQ_STATUS.RUNNING a) && (s.seq a).tent.isSome

/-- Executes the word at the PC of engine `a` in its window when its form satisfies `p`; otherwise the command does
not apply and nothing changes (log entry 1). -/
def State.seqWord (s : State) (a : Nat) (p : MWord → Bool) : State :=
  if s.seqRunning a then
    let r := s.fetchStore a false (s.rd (SEQ_PC.PC a))
    let w := decodeMicro r.2
    if p w then r.1.runWord a w else s
  else s

/-- A control word with operation code `n`. -/
def MWord.isCtl (n : Nat) : MWord → Bool
  | .ctl op _ => op == n
  | _ => false

/-! ### Meanings -/

/-- NANO_WORD (R143). -/
def execNanoWord (a : Act) (s : State) : Res :=
  .next (s.seqWord a (fun w => match w with | .nano _ _ _ => true | _ => false))
/-- BRANCH (R141). -/
def execBranchWord (a : Act) (s : State) : Res :=
  .next (s.seqWord a (fun w => match w with | .branch _ _ => true | _ => false))
/-- JUMP (R141). -/
def execJumpWord (a : Act) (s : State) : Res := .next (s.seqWord a (fun w => match w with | .jump _ => true | _ => false))
/-- CALL (R141). -/
def execCallWord (a : Act) (s : State) : Res := .next (s.seqWord a (fun w => match w with | .call _ => true | _ => false))
/-- NOP (R140). -/
def execNopWord (a : Act) (s : State) : Res := .next (s.seqWord a (MWord.isCtl 0))
/-- RET (R141). -/
def execRetWord (a : Act) (s : State) : Res := .next (s.seqWord a (MWord.isCtl 1))
/-- WWAIT (R133). -/
def execWwait (a : Act) (s : State) : Res := .next (s.seqWord a (MWord.isCtl 2))
/-- LOOP (R141). -/
def execLoopWord (a : Act) (s : State) : Res := .next (s.seqWord a (MWord.isCtl 3))
/-- JUMPV (R140). -/
def execJumpv (a : Act) (s : State) : Res := .next (s.seqWord a (MWord.isCtl 4))
/-- SIGNAL (R140). -/
def execSignal (a : Act) (s : State) : Res := .next (s.seqWord a (MWord.isCtl 5))
/-- STOP (R140). -/
def execSeqStop (a : Act) (s : State) : Res := .next (s.seqWord a (MWord.isCtl 6))

/-- HOOK_BUDGET_EXHAUSTED (R142): applies when the hook cycles of the window have reached HOOK_BUDGET while PC lies in
the open region. -/
def execHookBudgetExhausted (a : Act) (s : State) : Res :=
  .next (if s.seqRunning a && s.inHook a && decide (s.rd (SEQ_HOOK_BUDGET.BUDGET a) ≤ (s.seq a).hookUsed) then
    s.hookBack a (SEQ_STATUS.HOOK_OVER a) else s)

/-- WEDGE_HANDLING (R133 steps 2 and 3): an engine with EN set and SEQ_LOCK set leaves WWAIT; one that has not started,
or whose last window overran, starts at SEQ_n_ENTRY with an empty stack. Each lane takes its region length. In P5 the sequencers are off (R396). -/
def execWedgeHandling (a : Act) (s : State) : Res :=
  .next (
    if s.actPresent a && s.on SEQ_LOCK.LOCKED && s.on (SEQ_CTRL.EN a) && !s.isFenced (.seq a) && !s.seqRunning a && s.running && !s.gated 5 then
      let e := s.seq a
      let fresh := !e.started || e.late
      let t := s.updSeq a (fun e =>
        let ls := e.lanes.map (fun l => { l with len := s.regionLen a l.rateClass })
        { e with lanes := ls, tent := some ls, started := true, cycles := 0, hookUsed := 0,
                 stack := if fresh then [] else e.stack, hookFrame := if fresh then none else e.hookFrame })
      let t := t.when fresh (fun t => (t.wr (SEQ_PC.PC a) (t.rd (SEQ_ENTRY.ENTRY a))).wr (SEQ_LC_SP.SP a) 0)
      (t.setB (SEQ_STATUS.RUNNING a)).clr (SEQ_STATUS.WAITING a)
    else s)

/-- SEQ_LATE (R134): an engine still in its window at 1,600 ns is stopped, its tentative work discarded, its lanes step
dry through the region, and the next window starts at SEQ_n_ENTRY with LATE true. -/
def execSeqLate (a : Act) (s : State) : Res :=
  .next (
    if s.seqRunning a then
      let t := s.stepDry a
      let t := t.updSeq a (fun e => { e with late := true, stack := [], hookFrame := none })
      let t := t.wrs [(SEQ_STATUS.RUNNING a, 0), (SEQ_STATUS.WAITING a, 1), (SEQ_PC.PC a, t.rd (SEQ_ENTRY.ENTRY a)), (SEQ_LC_SP.SP a, 0)]
      let t := ((t.showEnds a 0).raiseBit (SEQ_STATUS.LATE a) (SEQ_INT_EN a)).inc (SEQ_EVT_CNT.LATE a)
      let t := t.raiseSrc (0x0C0 + a) { ctx0 with detail := a }
      t.when (t.seq a).flushPend (fun t => t.flushAct a)
    else s)

/-- SEQ_FLUSH (R136): at once while the engine waits, after the commit of a window in hand. -/
def execSeqFlush (mask : BitVec 4) (s : State) : Res :=
  .next (s.forEach ((List.range 4).filter (fun a => mask.getLsbD a && s.actPresent a)) (fun a t =>
    if t.seqRunning a then (t.updSeq a (fun e => { e with flushPend := true })).wr ⟨SEQ_FLUSH, a, a⟩ 1
    else t.flushAct a))

/-- SEQ_STEP (R152): in FACTORY with EN clear executes one micro word; refused otherwise. -/
def execSeqStep (w : Initiator) (a : Act) (s : State) : Res :=
  if !s.mayWrite w then .next s else
  .next (
    if !s.actPresent a then s
    else if s.inFactory && !s.on (SEQ_CTRL.EN a) then
      let r := s.fetchStore a false (s.rd (SEQ_PC.PC a))
      r.1.runWord a (decodeMicro r.2)
    else s.refuseW w (SEQ_CTRL a) (if s.inFactory then 3 else 2))

end Sys2Proof.Machine
end

