-- ==== Sys2Proof/Machine/CmdOps.lean ====
section
/-! DEFINITION. Operations on the commands in hand: the fields of an entry (R349), locks (R387 to R389), pages (R390), zones and
placement (R28, R29, R360), the sectors of a command's media work (R27, R45), write-back data (R358) and dropped work (R341,
R103). -/

namespace Sys2Proof.Machine
open Reg

/-! ### Status codes (R357) -/

def stAlreadyDone : Nat := 0x01
def stAborted : Nat := 0x02
def stNotShrunk : Nat := 0x03
def stInvalidTarget : Nat := 0x04
def stAbortLimit : Nat := 0x05
def stBadRing : Nat := 0x06
def stInvalidOpcode : Nat := 0x10
def stInvalidField : Nat := 0x11
def stLbaRange : Nat := 0x12
def stFetchFailed : Nat := 0x13
def stHostData : Nat := 0x14
def stBufferShort : Nat := 0x15
def stNotAllowed : Nat := 0x16
def stNotConventional : Nat := 0x20
def stZoneBoundary : Nat := 0x21
def stZoneFull : Nat := 0x22
def stTooManyOpen : Nat := 0x23
def stZoneReadOnly : Nat := 0x24
def stZoneState : Nat := 0x26
def stForeign : Nat := 0x27
def stPackUnavailable : Nat := 0x48
def stPeerUnreachable : Nat := 0x50
def stPeerRefused : Nat := 0x51
def stAuthFailed : Nat := 0x60
def stImageInvalid : Nat := 0x61
def stKeySlotBusy : Nat := 0x62
def stActivationFailed : Nat := 0x63
def stNotForeign : Nat := 0x64
def stDeviceFault : Nat := 0x70

/-- The RESULT RETRY of a responder without room carries this status, which an initiator reports when its retries end (R422, log entry 45). -/
def stBusy : Nat := stNotAllowed

/-- A status that freezes an I/O ring (R335, R357). -/
def freezes (st : Nat) : Bool := (decide (0x10 ≤ st) && decide (st ≤ 0x51)) || st == stDeviceFault

/-! ### The fields of an entry (R349, R351) -/

/-- The little-endian field of `n` bytes at byte `ofs` of the entry. -/
def Cmd.u (c : Cmd) (ofs n : Nat) : Nat := leValue ((c.entry.drop ofs).take n)
/-- OPCODE. -/
def Cmd.opcode (c : Cmd) : Nat := c.u 0 1
/-- RLIMIT. -/
def Cmd.rlimit (c : Cmd) : Nat := c.u 1 1 % 4
/-- FUA. -/
def Cmd.fua (c : Cmd) : Bool := bitOf (c.u 1 1) 2
/-- LIST. -/
def Cmd.hasList (c : Cmd) : Bool := bitOf (c.u 1 1) 3
/-- STREAM. -/
def Cmd.stream (c : Cmd) : Bool := bitOf (c.u 1 1) 4
/-- CID. -/
def Cmd.cid (c : Cmd) : Nat := c.u 2 2
/-- DPTR. -/
def Cmd.dptr (c : Cmd) : Nat := c.u 8 8
/-- SLBA. -/
def Cmd.slba (c : Cmd) : Nat := c.u 16 8 % 2 ^ 40
/-- COUNT. -/
def Cmd.cnt (c : Cmd) : Nat := c.u 24 4
/-- The ring of a command that came from one. -/
def Cmd.ring? (c : Cmd) : Option Nat := match c.src with | .ring r _ => some r | _ => none
/-- The command came from the admin ring. -/
def Cmd.onAdmin (c : Cmd) : Bool := c.ring? == some 128
/-- Its ring has NS set (R261, R347); other commands have not. -/
def State.cmdNs (s : State) (c : Cmd) : Bool := match c.ring? with | some r => s.on (BQ_CFG.NS r) | none => false

/-- The media commands (R326). -/
def mediaOpcode (op : Nat) : Bool := (decide (1 ≤ op) && decide (op ≤ 0x0A)) || op == 0x90
/-- The write-class commands that a FLUSH covers (R342). -/
def writeOpcode (op : Nat) : Bool := op == 2 || op == 3 || op == 4 || op == 6
/-- The opcodes of R353, by ring. -/
def opcodeOk (op : Nat) (admin : Bool) : Bool :=
  op == 0x0B || (if admin then decide (0x80 ≤ op) && decide (op ≤ 0x91) else decide (1 ≤ op) && decide (op ≤ 0x0A))
/-- COUNT lies in its range (R353). -/
def countOk (op n : Nat) : Bool :=
  if op = 1 ∨ op = 2 ∨ op = 3 ∨ op = 0x0A then decide (1 ≤ n) && decide (n ≤ 256)
  else if op = 4 then decide (1 ≤ n) && decide (n ≤ 1048576)
  else if op = 7 ∨ op = 9 then decide (1 ≤ n) && decide (n ≤ 65536)
  else true

/-! ### Ends -/

/-- Ends a command with a status; an earlier status stands. -/
def State.cmdEnd (s : State) (tag st : Nat) : State :=
  s.updCmd tag (fun c => { c with status := if c.status = 0 then st else c.status, phase := .ended })

/-- Ends a command with a status that names an LBA or a zone start (R356). -/
def State.cmdEndAt (s : State) (tag st lba : Nat) : State :=
  s.updCmd tag (fun c => if c.status = 0 then { c with status := st, failLba := lba, phase := .ended } else { c with phase := .ended })

/-! ### Tags (R331) -/

/-- Tags in use: those of commands and those of page maps. -/
def State.tagUsed (s : State) (t : Nat) : Bool := s.cmds.any (fun c => c.tag == t) || s.mem.maps.any (fun m => m.tag == t)

/-- The lowest free tag of a range. -/
def State.freeTagIn (s : State) (lo hi : Nat) : Option Nat :=
  ((List.range (hi - lo)).map (fun i => lo + i)).find? (fun t => !s.tagUsed t)

/-- A free tag for an entry of ring `r`. -/
def State.freeTag (s : State) (r : Nat) : Option Nat := if r = 128 then s.freeTagIn 16320 16384 else s.freeTagIn 0 16320

/-- The highest free I/O tag, for work of the K4's own: destage, a Pack job's output, a media request (DESIGN CHOICE, log entry
38). -/
def State.ownTag (s : State) : Option Nat :=
  ((List.range 16320).map (fun i => 16319 - i)).find? (fun t => !s.tagUsed t)

/-! ### Zones -/

/-- The zones of the device: the highest installed zone number and one (R526). -/
def State.zoneCount (s : State) : Nat := (s.media.zones.foldl (fun a e => max a (e.1 + 1)) 0)
/-- Logical sectors of the device. -/
def State.deviceSectors (s : State) : Nat := s.zoneCount * zoneSectors s.sys.cfg

/-- Open zones of a domain. -/
def State.openZones (s : State) (d : Nat) : List Nat :=
  (s.zonesOf d).filter (fun z => (s.zone z).state == .implicitOpen || (s.zone z).state == .explicitOpen)
/-- Active zones of a domain: open and CLOSED. -/
def State.activeZones (s : State) (d : Nat) : List Nat := (s.zonesOf d).filter (fun z =>
  (s.zone z).state == .implicitOpen || (s.zone z).state == .explicitOpen || (s.zone z).state == .closed)

/-- Records a zone's change of state that a host command makes. -/
def State.setZState (s : State) (z : Nat) (st : ZState) : State := s.updZone z (fun x => { x with state := st })

/-- Makes room for an implicitly opened zone: at the open limit the implicitly open zone whose last append is oldest closes (R29). -/
def State.roomToOpen (s : State) (z : Nat) : Option State :=
  let d := zoneDomain s.sys.cfg z
  if (s.openZones d).length < s.sys.cfg.openLimit then some s
  else
    let imp := (s.openZones d).filter (fun y => (s.zone y).state == .implicitOpen && y != z)
    match imp with
    | [] => none
    | y :: ys =>
      let old := ys.foldl (fun a b => if (s.zone b).lastAppend < (s.zone a).lastAppend then b else a) y
      some (s.setZState old .closed)

/-- The refusal of an append by the zone's state: none when it may be placed (R29, R360). -/
def State.appendRefused (s : State) (z : Nat) : Option Nat :=
  match (s.zone z).state with
  | .offline => some stZoneOffline
  | .readOnly => some stZoneReadOnly
  | .conv => some stZoneState
  | _ => none

/-- Places an append of `n` sectors of command `tag` at the write pointer of zone `z` (R28, R29, R360): ZONE_FULL when it does
not fit, TOO_MANY_OPEN at the limits. -/
def State.placeAppend (s : State) (z n tag : Nat) : Except Nat State :=
  match s.appendRefused z with
  | some st => .error st
  | none =>
    let x := s.zone z
    let d := zoneDomain s.sys.cfg z
    if x.state = .full ∨ x.capacity < x.wp / 16 + n then .error stZoneFull
    else
      let opened : Option State := match x.state with
        | .empty => if s.sys.cfg.activeLimit ≤ (s.activeZones d).length then none else s.roomToOpen z
        | .closed => s.roomToOpen z
        | _ => some s
      match opened with
      | none => .error stTooManyOpen
      | some t =>
        let st := match x.state with | .explicitOpen => ZState.explicitOpen | _ => ZState.implicitOpen
        let wp := x.wp + 16 * n
        let t := t.updZone z (fun y => { y with
          placed := y.placed ++ [{ cmd := tag, start := y.wp / 16, len := n, done := [], started := false, completed := false,
                                   prev := if y.state = .empty then .empty else st }],
          wp := wp, lastAppend := s.media.appendNo, state := if wp = 16 * y.capacity then .full else st })
        .ok (t.updMedia (fun m => { m with appendNo := m.appendNo + 1 }))

/-- Unplaces the append of command `tag` and those placed after it: its host data did not arrive, or it was stopped before its first
write gate opened (R318, R359). -/
def State.unplaceFrom (s : State) (z tag : Nat) : State :=
  match (s.zone z).placed.find? (fun p => p.cmd == tag) with
  | none => s
  | some p => s.unplace z (fun q => decide (p.start ≤ q.start))

/-! ### Sectors -/

/-- The media work of sector `lba`, number `i` of a command. -/
def State.secWork (s : State) (i lba : Nat) (write : Bool) (stamp : Nat) (addr : Option Nat) (st : SecSt) : SecWork :=
  let z := lbaZone s.sys.cfg lba
  let k := s.slotOfSector z (lba % zoneSectors s.sys.cfg)
  { idx := i, lba := lba, zone := z, slot := k, head := s.slotHead z k, st := st, write := write, rereads := 0, again := false, drops := 0, step := 0,
    encoded := false, stamp := stamp, addr := addr, rewrite := false }

/-- The write-back data held for a sector: the newest (R358). -/
def State.wbOf (s : State) (lba : Nat) : Option WbEnt := (s.sch.wb.filter (fun e => e.lba == lba)).getLast?

/-- Updates the scheduler. -/
def State.updSch (s : State) (f : SchU → SchU) : State := { s with sch := f s.sch }

/-- The bytes of SRAM page `p` as stored, corrected. -/
def State.pageBytes (s : State) (p : Nat) : List Byte := (s.mem.readCells (s.frameOf p * 4096) 4096).1

/-- The bytes of SRAM page `p` as they entered the buffer: the CRC-32C of a sector is computed over these when they enter and travels with them
(R33), whatever has happened to the stored bits since. -/
def State.enteredBytes (s : State) (p : Nat) : List Byte := (List.range 4096).map (fun i => sparseGet 0 s.mem.bytes (s.frameOf p * 4096 + i))

/-- A unit on crossbar port `port` reads the first `n` bytes of page `p` (R11); the last answer is an error response or a UE mark. -/
def State.portPage (s : State) (port p n : Nat) : State × List Byte × Bool :=
  let r := s.readAny port 0 2 (4096 * p) n
  (r.1, r.2.data, r.2.err || r.2.anyUe)

/-- A unit on port `port` reads the first `n` pages of a page map one after the other. -/
def State.portPages (s : State) (port tag : Nat) : Nat → Nat → State × List Byte × Bool
  | 0, _ => (s, [], false)
  | n + 1, i => match s.sectorPage tag i with
    | none => (s, [], true)
    | some p =>
      let q := s.portPage port p 4096
      let r := q.1.portPages port tag n (i + 1)
      (r.1, q.2.1 ++ r.2.1, q.2.2 || r.2.2)

/-- A unit on port `port` fills page `i` of a command with 4,096 bytes and sets VALID (R11). -/
def State.fillPage (s : State) (port tag i : Nat) (bs : List Byte) : State :=
  match s.sectorPage tag i with
  | none => s
  | some p => ((s.writePage port p 0 bs).1).markValid tag i

/-- Plans the reads of `n` sectors from `lba` onto the pages of a command: write-back data is copied through XP11, unwritten sectors, those of a
FINISHed zone among them, read zero, the rest goes to the media (R28, R29, R358). Sectors are numbered from 0. -/
def State.planReads (s : State) (tag lba n : Nat) : State :=
  let zs := zoneSectors s.sys.cfg
  let one (i : Nat) (t : State) : State :=
    let a := lba + i
    let z := t.zone (lbaZone t.sys.cfg a)
    match t.wbOf a with
    | some e =>
      let r := t.readAny 11 0 64 e.addr 4096
      (r.1.fillPage 11 tag i r.2.data).updCmd tag (fun c => { c with secs := c.secs ++ [r.1.secWork i a false 0 none .good] })
    | none =>
      if !zoneConv t.sys.cfg (lbaZone t.sys.cfg a) && decide (min (z.mediaWp / 16) (z.finished.getD (z.mediaWp / 16)) ≤ a % zs) then
        (t.fillPage 15 tag i (List.replicate 4096 0)).updCmd tag
          (fun c => { c with secs := c.secs ++ [t.secWork i a false 0 none .unwritten] })
      else t.updCmd tag (fun c => { c with secs := c.secs ++ [t.secWork i a false 0 none .todo] })
  (s.updCmd tag (fun c => { c with secs := [] })).forEach (List.range n) one

/-- The unit on port `port` that filled the page at a buffer address with `data` writes its trailer for sector `lba` (R33, R240): number `i` of `n`
of its command. -/
def State.sectorTrailer (s : State) (port addr lba kind i n : Nat) (data : List Byte) : State :=
  let z := lbaZone s.sys.cfg lba
  let gen := if zoneConv s.sys.cfg z then 0 else (s.zone z).gen
  let tag := tagOf lba kind (i == 0) (i + 1 == n) gen
  s.putTrailer port addr tag (sectorCrc data tag)

/-- Plans the writes of the pages of a page map to `n` sectors from `lba`, with their trailers, which the unit on port `port` writes. -/
def State.planWrites (s : State) (port tag map lba n kind stamp : Nat) : State :=
  let one (i : Nat) (t : State) : State :=
    match t.sectorPage map i with
    | none => t
    | some p =>
      let addr := if map = tag then none else some (4096 * p)
      let t := t.sectorTrailer port (4096 * p) (lba + i) kind i n (t.enteredBytes p)
      t.updCmd tag (fun c => { c with secs := c.secs ++ [t.secWork i (lba + i) true stamp addr .todo] })
  (s.updCmd tag (fun c => { c with secs := [] })).forEach (List.range n) one

/-- A sector whose media work has ended. -/
def SecSt.ended : SecSt → Bool
  | .good | .unwritten | .lost | .written | .failed => true
  | _ => false

/-- Every sector of a command's media work has ended (R102). -/
def Cmd.mediaDone (c : Cmd) : Bool := c.secs.all (fun w => w.st.ended)

/-! ### Write-back (R358, R366, R389) -/

/-- Buffer pages of the mirrored range that can hold write-back data: those below its trailers (R240). -/
def State.wbCapacity (s : State) : Nat := (s.mirSize - s.mirSize / 256) / 4096

/-- The lowest free page of the mirrored range (DESIGN CHOICE, log entry 38). -/
def State.wbFree (s : State) : Option Nat :=
  let used := s.sch.wb.map (fun e => e.addr)
  ((List.range (min s.wbCapacity (used.length + 1))).map (fun k => dramBase + 4096 * k)).find? (fun a => !used.contains a)

/-- Copies the sectors of a write command into the mirrored range, with a command record of its own that destages them; none when no
page or no tag is free. The command's EXCLUSIVE lock, and its placement, pass to that record. -/
def State.toWriteBack (s : State) (c : Cmd) (lba n kind : Nat) : Option State :=
  match s.ownTag with
  | none => none
  | some dt =>
    let d : Cmd := { Cmd.init dt .destage c.entry with
      order := c.order, time := c.time, cls := 3, phase := .started, stamp := c.stamp, zone := c.zone, first := c.first, count := n }
    let t : State := { s with cmds := s.cmds ++ [d] }
    let put (i : Nat) (o : Option State) : Option State := o.bind (fun t =>
      match t.wbFree, t.sectorPage c.tag i with
      | some a, some p =>
        let r := t.portPage 11 p 4096
        let t := (r.1.writeAny 11 64 a r.2.1).1
        let t := t.sectorTrailer 11 a (lba + i) kind i n (t.enteredBytes p)
        let t := t.updSch (fun u => { u with wb := u.wb ++ [{ lba := lba + i, addr := a, tag := dt, order := c.order, lost := false }] })
        some (t.updCmd dt (fun c' => { c' with secs := c'.secs ++ [t.secWork i (lba + i) true c.stamp (some a) .todo] }))
      | _, _ => none)
    ((List.range n).foldl (fun o i => put i o) (some t)).map (fun t =>
      let t := t.updSch (fun u => { u with locks := u.locks.map (fun (e : LockEnt) => if e.tag = c.tag then { e with tag := dt } else e) })
      t.updZone c.zone (fun z => { z with placed := z.placed.map (fun (p : Placed) =>
        if p.cmd = c.tag then { p with cmd := dt, completed := true } else p) }))

/-- Write-back data not yet written, unwritable data apart (R398). -/
def State.wbDirty (s : State) : Bool := s.sch.wb.any (fun e => !e.lost)

/-! ### Locks (R387 to R389) -/

/-- What a command needs locked: zone, range and mode. -/
structure LockReq where
  zone : Nat
  lo : Nat
  hi : Nat
  mode : LockMode
deriving DecidableEq, Repr

/-- A lock on a range of `n` sectors from `lba`. -/
def State.rangeReq (s : State) (lba n : Nat) (m : LockMode) : LockReq :=
  let rel := lba % zoneSectors s.sys.cfg
  { zone := lbaZone s.sys.cfg lba, lo := rel, hi := rel + n, mode := m }

/-- A lock on the whole zone of `lba`. -/
def State.zoneReq (s : State) (lba : Nat) (m : LockMode) : LockReq :=
  { zone := lbaZone s.sys.cfg lba, lo := 0, hi := zoneSectors s.sys.cfg, mode := m }

/-- The locks of R388. -/
def State.lockReqs (s : State) (c : Cmd) : List LockReq :=
  match c.opcode with
  | 0x01 | 0x09 => [s.rangeReq c.slba c.cnt .shared]
  | 0x02 => [s.rangeReq c.slba c.cnt .exclusive]
  | 0x03 | 0x04 => [s.zoneReq c.slba .append]
  | 0x05 => [s.rangeReq (c.slba + c.u 28 4 / 16) ((c.u 32 2 + 15) / 16) .shared]
  | 0x06 => if bitOf (c.u 28 1) 2 then
              (match c.todoZones with
               | z :: _ => [{ zone := z, lo := 0, hi := zoneSectors s.sys.cfg, mode := .zone }]
               | [] => [])
            else [s.zoneReq c.slba .zone]
  | 0x0A => if c.u 30 1 % 2 = 0 then [s.rangeReq c.slba c.cnt .shared]
            else if bitsOf (c.u 30 1) 2 1 = 0 then [s.rangeReq c.slba c.cnt .exclusive] else [s.zoneReq c.slba .append]
  | _ => []

/-- Two requests conflict (R388). -/
def lockConflict (z1 lo1 hi1 : Nat) (m1 : LockMode) (r : LockReq) : Bool :=
  z1 == r.zone &&
  (match m1, r.mode with
   | .zone, _ => true
   | _, .zone => true
   | .shared, .shared => false
   | .append, .append => true
   | .append, _ => false
   | _, .append => false
   | _, _ => decide (lo1 < r.hi) && decide (r.lo < hi1))

/-- A request of an earlier-fetched or granted owner stands in the way of `r`, or for a ZONE lock an append is placed and not yet
written (R388, R389). Commands fetched earlier and not yet started count by what they will request. -/
def State.lockBlocked (s : State) (tag order : Nat) (r : LockReq) : Bool :=
  s.sch.locks.any (fun (e : LockEnt) => e.tag != tag && (e.granted || decide (e.order < order)) && lockConflict e.zone e.lo e.hi e.mode r) ||
  s.cmds.any (fun c => c.tag != tag && c.phase == .fetched && decide (c.order < order) &&
    (s.lockReqs c).any (fun q => lockConflict q.zone q.lo q.hi q.mode r)) ||
  (r.mode == .zone && !(s.zone r.zone).placed.isEmpty)

/-- Shows the lock table (R402): entries laid down, and requests waiting. -/
def State.showLocks (s : State) : State :=
  s.wrs [(SCH_LOCK_USE.USED, s.sch.locks.length), (SCH_LOCK_USE.WAITING, (s.sch.locks.filter (fun (e : LockEnt) => !e.granted)).length)]

/-- Lays down the lock entries of a command, when the table has room (R387, R390). -/
def State.layLocks (s : State) (c : Cmd) : Option State :=
  let rs := s.lockReqs c
  if rs.isEmpty then some s
  else if s.sch.locks.any (fun (e : LockEnt) => e.tag == c.tag) then some s
  else if 2048 < s.sch.locks.length + rs.length then none
  else some ((s.updSch (fun u => { u with locks := u.locks ++ rs.map (fun r =>
    { zone := r.zone, lo := r.lo, hi := r.hi, mode := r.mode, tag := c.tag, order := c.order, granted := false }) })).showLocks)

/-- Releases the locks of a command. -/
def State.dropLocks (s : State) (tag : Nat) : State :=
  (s.updSch (fun u => { u with locks := u.locks.filter (fun (e : LockEnt) => e.tag != tag) })).showLocks

/-- Grants the locks of a command. -/
def State.grantLocks (s : State) (tag : Nat) : State :=
  (s.updSch (fun u => { u with locks := u.locks.map (fun (e : LockEnt) => if e.tag = tag then { e with granted := true } else e) })).showLocks

/-! ### Pages (R390) -/

/-- Pages a command needs at its start: under its own tag, and for output. -/
def Cmd.pagesNeeded (c : Cmd) : Nat × Nat :=
  match c.opcode with
  | 0x01 | 0x02 | 0x03 | 0x0A => (c.cnt, 0)
  | 0x04 => ((c.cnt + 4095) / 4096, (packBudget c.cnt + 4095) / 4096)
  | 0x05 => ((c.u 32 2 + 15) / 16, 0)
  | 0x09 => (min c.cnt 256, 0)
  | _ => (0, 0)

/-- An earlier command of the same or a higher class waits for pages, at its start or for a PARCEL READ's output (R390). -/
def State.pagesBlocked (s : State) (c : Cmd) : Bool :=
  s.cmds.any (fun w => w.tag != c.tag && (w.phase == .waiting || (w.phase == .started && w.opcode == 5 && !w.dropped)) && w.stage == 1 &&
    decide (w.order < c.order) && decide (w.cls ≤ c.cls))

/-- ALLOC for a command: `n` pages under its tag and `m` under an internal one; SCH_PAGE_RSV pages serve only URGENT commands and
destage (R390). -/
def State.allocFor (s : State) (c : Cmd) (n m : Nat) : Option State :=
  let rsv := if c.cls = 0 ∨ c.src = .destage then 0 else s.rd SCH_PWR_CFG.PAGE_RSV
  if n + m = 0 then some s
  else if s.pagesBlocked c ∨ s.mem.free.length < n + m + rsv then none
  else
    match (if n = 0 then some s else s.allocPages c.tag n) with
    | none => none
    | some t =>
      if m = 0 then some t
      else match t.ownTag with
        | none => none
        | some o => (t.allocPages o m).map (fun t => t.updCmd c.tag (fun c => { c with outTag := some o }))

/-- RELEASE of a command's pages. -/
def State.dropPages (s : State) (tag : Nat) : State :=
  let out := (s.cmd? tag).bind (fun c => c.outTag)
  let s := s.releasePages tag
  match out with
  | some o => (s.releasePages o).updCmd tag (fun c => { c with outTag := none })
  | none => s

/-! ### Destage records -/

/-- An append of command `tag` is placed and not yet passed by MEDIA_WP (R28). -/
def State.placedFor (s : State) (tag : Nat) : Bool := s.media.zones.any (fun e => e.2.placed.any (fun p => p.cmd == tag))

/-- Settles the destage records: pages of sectors that count as written, in a sequential zone once MEDIA_WP has passed their append, are freed,
those that can no longer be written are kept as unwritable (R366), and a record with nothing left ends and releases its lock (R389). -/
def State.settleWb (s : State) : State :=
  s.forEach (s.cmds.filter (fun c => c.src == .destage)) (fun c t =>
    let done := if t.placedFor c.tag then [] else (c.secs.filter (fun w => w.st == .written)).map (fun w => w.lba)
    let bad := (c.secs.filter (fun w => w.st == .failed && t.sch.wb.any (fun e => e.tag == c.tag && e.lba == w.lba))).map (fun w => w.lba)
    let t := t.updSch (fun u => { u with
      wb := (u.wb.filter (fun e => !(e.tag == c.tag && done.contains e.lba))).map (fun (e : WbEnt) =>
        if e.tag = c.tag ∧ e.lba ∈ bad then { e with lost := true } else e),
      wbUnwritable := u.wbUnwritable || !bad.isEmpty })
    if c.mediaDone && !t.placedFor c.tag then
      let t := (t.dropLocks c.tag).dropPages c.tag
      { t with cmds := t.cmds.filter (fun x => x.tag != c.tag) }
    else t)

/-! ### Host data (R307, R352) -/

/-- A read of host memory, split at the Max Read Request Size and at host 4 KiB boundaries (R307). -/
def State.hostGet (s : State) (ns : Bool) : Nat → Nat → Nat → State
  | 0, _, _ => s
  | fuel + 1, addr, n =>
    if n = 0 then s
    else
      let k := min (min n s.mrrs) (4096 - addr % 4096)
      (s.emit (.hostRead addr k (ns && s.nsEnabled))).hostGet ns fuel (addr + k) (n - k)

/-- Entries of the page list that a transfer of `n` bytes uses, given entry 0. -/
def listLen (e0 n : Nat) : Nat := (e0 % 4096 + n + 4095) / 4096

/-- The host address and the room to the end of its span of byte `ofs` of a command's host data; none when the page list is too
short. -/
def Cmd.hostAt (c : Cmd) (ofs : Nat) : Option (Nat × Nat) :=
  if !c.hasList then some (c.dptr + ofs, 2 ^ 40)
  else
    let e0 := c.list.getD 0 0
    let k := (e0 % 4096 + ofs) / 4096
    match c.list[k]? with
    | none => none
    | some a => if k = 0 then some (a + ofs, 4096 - (a + ofs) % 4096)
                else let o := (e0 % 4096 + ofs) % 4096; some (a + o, 4096 - o)

/-- Lighter records that move `n` bytes of the host data from byte `ofs`, from or to byte `mo` of page map `map`; contiguous spans
join; `fuel` bounds the spans. None when the page list is too short. -/
def Cmd.hostRecs (c : Cmd) (map dir : Nat) : Nat → Nat → Nat → Nat → Option (List LSpec)
  | 0, _, _, _ => some []
  | fuel + 1, mo, ofs, n =>
    if n = 0 then some []
    else match c.hostAt ofs with
      | none => none
      | some (a, room) =>
        let k := min n room
        (c.hostRecs map dir fuel (mo + k) (ofs + k) (n - k)).map (fun l =>
          match l with
          | q :: r => if q.far = a + k then { q with ofs := mo, far := a, count := k + q.count } :: r
                      else { map := map, ofs := mo, far := a, count := k, dir := dir } :: q :: r
          | [] => [{ map := map, ofs := mo, far := a, count := k, dir := dir }])

/-- The status of a transfer whose record ended BAD (R357): cause 1 or 2 the buffer, 3 or 6 the host, others the device. -/
def recStatus (cause : Nat) : Nat :=
  if cause = 1 ∨ cause = 2 then stBufferData else if cause = 3 ∨ cause = 6 then stHostData else stDeviceFault

/-- Writes bytes to the host data of a command from byte `ofs`, as an admin command or a report does (R307, R352); bytes beyond a
short page list are not written. -/
def State.hostDataOut (s : State) (c : Cmd) (ns : Bool) : Nat → Nat → List Byte → State
  | 0, _, _ => s
  | fuel + 1, ofs, bs =>
    if bs.isEmpty then s
    else match c.hostAt ofs with
      | none => s
      | some (a, room) =>
        let k := min bs.length room
        (s.hostStore ns a (bs.take k)).hostDataOut c ns fuel (ofs + k) (bs.drop k)

/-! ### Dropping a command's work (R341, R103, R302) -/

/-- Takes the sectors of a command out of the decoder pool's queues; those on an engine report DROPPED when it stops. -/
def State.dropDecodes (s : State) (tag : Nat) : State :=
  let mine (d : DSect) : Bool := tokTag d.token == tag
  let gone := ((s.dec.waiting ++ s.dec.trialQ ++ s.dec.deepQ).filter mine ++ (s.dec.rereadQ.filter (fun e => mine e.1)).map (fun e => e.1))
  let onEng (d : DSect) : Bool := s.dec.engines.any (fun g =>
    (match g.job with | some (e, _) => e.token == d.token | none => false) ||
    (match g.suspended with | some (e, _) => e.token == d.token | none => false))
  let susp := s.dec.engines.filterMap (fun g => match g.suspended with | some (d, _) => if mine d then some d else none | none => none)
  let t := s.forEach gone (fun d t => t.releaseBuf d.buf)
  -- A suspended deep decode stands at an outer boundary and stops at once.
  let t := t.updDec (fun x => { x with engines := x.engines.map (fun g => match g.suspended with
    | some (d, _) => if mine d then { g with suspended := none } else g
    | none => g) })
  let t := t.forEach susp (fun d t => t.updSec d.token (fun w => if w.st = .decoding then { w with st := .failed } else w))
  let t := t.updDec (fun x => { x with
    waiting := x.waiting.filter (fun d => !mine d), trialQ := x.trialQ.filter (fun d => !mine d), deepQ := x.deepQ.filter (fun d => !mine d),
    rereadQ := x.rereadQ.filter (fun e => !mine e.1),
    engines := x.engines.map (fun g => match g.job with
      | some (d, _) => if mine d then { g with dropping := true } else g
      | none => g) })
  let t := t.forEach (gone.filter (fun d => !onEng d)) (fun d t => t.updSec d.token (fun w =>
    if w.st = .decoding then { w with st := .failed } else w))
  t.showDeep

/-- Stops the work of a command at the end of the sectors under way: its media work, decoding, Pack jobs and Lighter records. A sector whose gate
dropped is still rewritten before the command completes (R18, R20, R126). -/
def State.dropWork (s : State) (tag : Nat) : State :=
  let secs := ((s.cmd? tag).map (fun c => c.secs)).getD []
  let t := s.updCmd tag (fun c => { c with dropped := true })
  let t := t.forEach (secs.filter (fun w => (w.st == .todo || w.st == .listed) && !w.rewrite)) (fun w t =>
    (t.unlist w.head (tag + 16384 * w.idx)).updSec (tag + 16384 * w.idx) (fun w => { w with st := .failed }))
  let t := t.dropDecodes tag
  let t := t.dropJobs (fun j => !j.fw && j.token == tag)
  -- A fabric transfer is cancelled, unless it is in doubt at the peer (R423, R426).
  let t := match ((s.cmd? tag).bind (fun c => c.xid)).bind t.xout? with
    | some (x : XOut) => ((if x.phase = XPhase.inDoubt then t else t.qSend x.dst x.cls 0x05 x.xid 0 []).dropXout x.xid).updCmd tag (fun c => { c with xid := none })
    | none => t
  t.stopRecs tag

/-- A sector waits for the rewrite of its dropped gate (R126). -/
def SecWork.rewriteDue (w : SecWork) : Bool := w.rewrite && (w.st == .todo || w.st == .listed)

/-- Nothing of a dropped command runs any more, and no sector of it waits for its rewrite (R126). -/
def State.workStopped (s : State) (c : Cmd) : Bool :=
  c.opened == 0 && c.secs.all (fun w => w.st != .underway && w.st != .decoding && !w.rewriteDue) &&
  !(s.pack.runs.any (fun r => match r with | some r => !r.job.fw && r.job.token == c.tag | none => false))

end Sys2Proof.Machine
end

