-- ==== Sys2Proof/Machine/Berth.lean ====
section
/-! DEFINITION. The Berth rings (chapter 15): indices and doorbells, fetching, completion and publication, freeze, disable and
restart, and the meanings of their commands. -/

namespace Sys2Proof.Machine
open Reg

/-! ### Rings -/

/-- Updates the queue engine. -/
def State.updBq (s : State) (f : BqU → BqU) : State := { s with bq := f s.bq }
/-- Ring `r`; ring 128 is the admin ring. -/
def State.ring (s : State) (r : Nat) : RingU := s.bq.rings.getD r RingU.init
/-- Updates ring `r`. -/
def State.updRing (s : State) (r : Nat) (f : RingU → RingU) : State := s.updBq (fun b => { b with rings := listModify b.rings r f })
/-- STATE: 0 DELETED, 1 DISABLED, 2 ENABLED, 3 DISABLING, 4 FREEZING, 5 FROZEN (R347). -/
def State.ringState (s : State) (r : Nat) : Nat := s.rd (BQ_STATE.STATE r)
/-- The depth N (R323, R328). -/
def State.ringN (s : State) (r : Nat) : Nat := s.rd (BQ_CFG.DEPTH_M1 r) + 1
/-- HEAD, FETCH and TAIL. -/
def State.ringHead (s : State) (r : Nat) : Nat := s.rd (BQ_INDEX.HEAD r)
def State.ringFetch (s : State) (r : Nat) : Nat := s.rd (BQ_INDEX.FETCH r)
def State.ringTail (s : State) (r : Nat) : Nat := s.rd (BQ_DOORBELL.TAIL r)
/-- BASE and RES. -/
def State.ringBase (s : State) (r : Nat) : Nat := 64 * s.rd (BQ_BASE_LO.BASE r) + 2 ^ 32 * s.rd (BQ_BASE_HI.BASE r)
def State.ringRes (s : State) (r : Nat) : Nat := 64 * s.rd (BQ_RES_LO.RES r) + 2 ^ 32 * s.rd (BQ_RES_HI.RES r)
/-- Entries from index `a` on to index `b`, modulo N. -/
def ringDist (n a b : Nat) : Nat := if n = 0 then 0 else (b + n - a % n) % n

/-- Changes the state of a ring and shows it; every change is due a publication word (R324). -/
def State.setRing (s : State) (r st : Nat) : State :=
  let t := (s.wr (BQ_STATE.STATE r) st).updRing r (fun u => { u with pubDue := true })
  if r < 128 then
    t.wrs [(⟨BQ_ENABLED (r / 32), r % 32, r % 32⟩, b2n (st == 2)), (⟨BQ_FROZEN (r / 32), r % 32, r % 32⟩, b2n (st == 5))]
  else t.wr BQ_CTRL.ADMIN_EN (b2n (st == 2))

/-- Sets a BQ_STATUS bit, with its interrupt on vector 0 when it rises (R348). -/
def State.bqBit (s : State) (f : Fld) (v : Bool) : State :=
  if v && !s.on f then (s.setB f).when (bitOf (s.reg BQ_INT_EN).toNat f.lo) (fun t => t.msixSend 0) else s.wr f (b2n v)

/-- Shows the tags in use (R348). -/
def State.showTags (s : State) : State :=
  let io := (s.cmds.filter (fun c => match c.ring? with | some r => r != 128 | none => false)).length
  let ad := (s.cmds.filter (fun c => c.onAdmin)).length
  (s.wrs [(BQ_INFLIGHT.IO, io), (BQ_INFLIGHT.ADMIN, ad)]).bqBit BQ_STATUS.TAGS_FULL (s.freeTag 0).isNone

/-- The reorder window of a ring (R331). -/
def State.ringWindow (s : State) (r : Nat) : Nat := min (if r = 128 then 64 else 4096) (s.ringN r - 1)

/-- Shows WINDOW_FULL. -/
def State.showWindow (s : State) (r : Nat) : State :=
  s.wr (BQ_STATE.WINDOW_FULL r) (b2n (ringDist (s.ringN r) (s.ringHead r) (s.ringFetch r) == s.ringWindow r && s.ringState r != 0))

/-- Clears the abort marks of a ring (R325, R340). -/
def State.clearMarks (s : State) (r : Nat) : State :=
  let t := s.updBq (fun b => { b with marks := b.marks.filter (fun m => m.1 != r) })
  t.wr BQ_MARKS.USED t.bq.marks.length

/-- The commands of a ring. -/
def State.ringCmds (s : State) (r : Nat) : List Cmd := s.cmds.filter (fun c => c.ring? == some r)
/-- The index of a command in its ring. -/
def Cmd.ringIdx (c : Cmd) : Nat := match c.src with | .ring _ i => i | _ => 0

/-- The write-protect of a doorbell (R328): the cause of its refusal, RANGE or STATE. -/
def State.doorbellRefused (s : State) (r v : Nat) : Option Nat :=
  let n := s.ringN r
  if s.ringState r = 0 then some 3
  else if n ≤ v then some 1
  else if ringDist n (s.ringHead r) v < ringDist n (s.ringHead r) (s.ringFetch r) then some 3
  else none

/-- BQ_DOORBELL: sets TAIL, or is refused, counted and logged (R328). -/
def execBqDoorbell (w : Initiator) (r : Ring) (v : BitVec 16) (s : State) : Res :=
  if !s.mayWrite w then .next s else
  .next (
    match s.doorbellRefused r v.toNat with
    | none => s.wr (BQ_DOORBELL.TAIL r) v.toNat
    | some cause =>
      let t := (s.setB (BQ_STATE.DB_REFUSED r)).inc BQ_DB_CNT.REFUSED
      let t := t.logEvent 0x0007 r.val (v.toNat + 2 ^ 16 * s.ringHead r + 2 ^ 32 * s.ringFetch r + 2 ^ 48 * s.ringTail r)
      t.refuseW w (BQ_DOORBELL r) cause)

/-! ### Fetching (R330, R331, R385) -/

/-- Entries of a ring submitted, not yet fetched, that may be fetched now: not beyond the end that a disable keeps. -/
def State.unfetched (s : State) (r : Nat) : Nat :=
  let n := s.ringN r
  let sub := ringDist n (s.ringFetch r) (s.ringTail r)
  match s.ringState r with
  | 2 => sub
  | 3 => match (s.ring r).keepTo with | some k => min sub (ringDist n (s.ringFetch r) k) | none => 0
  | _ => 0

/-- Fetched entries and those in reads outstanding that have no tag yet. -/
def State.readsOpen (s : State) (admin : Bool) : Nat :=
  (s.bq.reads.filter (fun f => (f.ring == 128) == admin)).foldl (fun a f => a + f.count) 0

/-- Free tags for ring `r`, counting out the reads outstanding; at most 16 are of interest. -/
def State.tagsLeft (s : State) (r : Nat) : Nat :=
  let lo := if r = 128 then 16320 else 0
  let hi := if r = 128 then 16384 else 16320
  let used := ((List.range (hi - lo)).filter (fun i => s.tagUsed (lo + i))).length
  hi - lo - used - s.readsOpen (r == 128)

/-- The index at FETCH is a marked entry: it has completed beyond the head (R337). -/
def State.isDone (s : State) (r i : Nat) : Bool := (s.ring r).done.any (fun e => e.1 == i)

/-- Moves FETCH past marked entries; `fuel` bounds them. -/
def State.skipMarked (s : State) (r : Nat) : Nat → State
  | 0 => s
  | fuel + 1 =>
    if s.unfetched r ≠ 0 && s.isDone r (s.ringFetch r) then
      (s.wr (BQ_INDEX.FETCH r) ((s.ringFetch r + 1) % s.ringN r)).skipMarked r fuel
    else s

/-- Room left in the reorder window. -/
def State.windowRoom (s : State) (r : Nat) : Nat :=
  s.ringWindow r - ringDist (s.ringN r) (s.ringHead r) (s.ringFetch r)

/-- A ring is eligible (R385). -/
def State.eligible (s : State) (r : Nat) : Bool :=
  s.unfetched r != 0 && s.windowRoom r != 0 && (r == 128 || !s.on SYS_MODE.RESCUE)

/-- The length of the run of unmarked entries from FETCH on, up to `fuel`, not past the end of the ring. -/
def State.runLen (s : State) (r i : Nat) : Nat → Nat
  | 0 => 0
  | fuel + 1 => if s.ringN r ≤ i ∨ s.isDone r i then 0 else 1 + s.runLen r (i + 1) fuel

/-- The round quota of a ring (R385). -/
def State.roundQuota (s : State) (r : Nat) : Nat :=
  let m := match s.rd (BQ_CFG.CLASS r) with
    | 1 => s.rd SCH_ARB_CFG.HIGH_MULT | 2 => s.rd SCH_ARB_CFG.MEDIUM_MULT | _ => s.rd SCH_ARB_CFG.LOW_MULT
  s.rd (BQ_CFG.WEIGHT r) * m

/-- What is left of the quota of a ring in the present round: a ring that becomes eligible in a round joins it with its whole quota (R385). -/
def State.quotaLeft (s : State) (r : Nat) : Nat := s.roundQuota r - (s.ring r).spent

/-- The rings of class `c`, ascending. -/
def State.classRings (s : State) (c : Nat) : List Nat := (List.range 128).filter (fun r => s.rd (BQ_CFG.CLASS r) == c && s.eligible r)

/-- The ring that the fetch slot serves and the entries it may have (R385): the admin ring; URGENT rings in turn; then the weighted
round robin, which begins a new round when no eligible ring has quota left. -/
def State.pickRing (s : State) : Option (State × Nat × Nat) :=
  if s.eligible 128 then some (s, 128, 16)
  else
    let urgent := s.classRings 0
    match (urgent.find? (fun r => decide (s.bq.rrUrgent < r))).or urgent.head? with
    | some r => some (s.updBq (fun b => { b with rrUrgent := r }), r, 16)
    | none =>
      let order := s.classRings 1 ++ s.classRings 2 ++ s.classRings 3
      let pick (t : State) : Option Nat :=
        if order.contains t.bq.rrRing && decide (0 < t.quotaLeft t.bq.rrRing) then some t.bq.rrRing
        else order.find? (fun r => decide (0 < t.quotaLeft r))
      match pick s with
      | some r => some (s.updBq (fun b => { b with rrRing := r }), r, s.quotaLeft r)
      | none =>
        let t := s.forEach (List.range 128) (fun r t => t.updRing r (fun u => { u with spent := 0 }))
        (order.find? (fun r => decide (0 < t.quotaLeft r))).map (fun r => (t.updBq (fun b => { b with rrRing := r }), r, t.quotaLeft r))

/-- ENTRY_FETCH: at a fetch slot an eligible ring's entries are read, up to 16 in one read, contiguous in the ring (R330, R385). -/
def execEntryFetch (s : State) : Res :=
  .next (
    if s.bq.stopped || !s.hostUp || !s.busMaster || !s.running then s
    else
      let s := s.forEach (List.range 129) (fun r t => t.when (!(t.ring r).done.isEmpty) (fun t => t.skipMarked r 4096))
      match s.pickRing with
      | none => s
      | some (t, r, quota) =>
        let n := min (min (min 16 quota) (min (t.unfetched r) (t.windowRoom r))) (min (t.tagsLeft r) (t.runLen r (t.ringFetch r) 16))
        if n = 0 then s
        else
          let i := t.ringFetch r
          let t := t.hostGet (t.on (BQ_CFG.NS r)) (64 * n + 1) (t.ringBase r + 64 * i) (64 * n)
          let t := t.updBq (fun b => { b with reads := b.reads ++ [{ ring := r, first := i, count := n }] })
          let t := t.updRing r (fun u => { u with spent := u.spent + n })
          ((t.wr (BQ_INDEX.FETCH r) ((i + n) % t.ringN r)).addC BQ_FETCH_CNT.CNT n).showWindow r)

/-- One fetched entry takes a tag (R331); an entry that could not be read completes with FETCH_FAILED (R346), a marked one with
ABORTED (R340). -/
def State.takeEntry (s : State) (r i : Nat) (e : Option (List Byte)) : State :=
  match s.freeTag r with
  | none => s
  | some tag =>
    let ok := match e with | some b => b.length == 64 | none => false
    let entry := match e with | some b => if b.length = 64 then b else List.replicate 64 0 | none => List.replicate 64 0
    let marked := s.bq.marks.contains (r, i)
    let c0 := Cmd.init tag (.ring r i) entry
    let cls := if r = 128 then 0 else s.rd (BQ_CFG.CLASS r)
    let st := if marked then stAborted else if ok then 0 else stFetchFailed
    let c : Cmd := { c0 with order := s.sch.order, time := s.sys.time, cls := cls, status := st,
                             phase := if st = 0 then .fetched else .ended }
    let t : State := { s with cmds := s.cmds ++ [c] }
    let t := t.updSch (fun u => { u with order := u.order + 1 })
    let t := t.when (!ok) (fun t => (t.setB (BQ_STATE.FETCH_ERR r)).inc BQ_DB_CNT.FETCH_ERR)
    t.when marked (fun t =>
      let t := t.updBq (fun b => { b with marks := b.marks.filter (fun m => m != (r, i)) })
      t.wr BQ_MARKS.USED t.bq.marks.length)

/-- ENTRY_FETCH_COMPLETE: the oldest read outstanding on a ring returns; `entries` holds for each entry its 64 bytes, or none where the
host's completion failed or timed out (R331, R346). -/
def execEntryFetchComplete (r : Ring) (entries : List (Option (List Byte))) (s : State) : Res :=
  .next (
    match popFirst (fun f => f.ring == r.val) s.bq.reads with
    | none => s
    | some (f, rest) =>
      let t := s.updBq (fun b => { b with reads := rest })
      (t.forEach (List.range f.count) (fun k t => t.takeEntry r ((f.first + k) % s.ringN r) (entries.getD k none))).showTags)

/-! ### Ends of commands -/

/-- Removes a command: its locks, pages and tag. -/
def State.forget (s : State) (tag : Nat) : State :=
  let t := (s.dropLocks tag).dropPages tag
  { t with cmds := t.cmds.filter (fun c => c.tag != tag) }

/-- Discards the fetched entries of ring `r` after the entry at distance `d` from the head that are not started, and the reads
outstanding (R335, R338). -/
def State.discardAfter (s : State) (r d : Nat) : State :=
  let n := s.ringN r
  let gone := (s.ringCmds r).filter (fun c => (c.phase == .fetched || c.phase == .waiting) &&
    decide (d < ringDist n (s.ringHead r) c.ringIdx))
  let t := s.forEach gone (fun c t => t.forget c.tag)
  (t.updBq (fun b => { b with reads := b.reads.filter (fun f => f.ring != r) })).showTags

/-- Advances the head past complete entries; a freezing ring stops at FREEZE_AT (R334, R335). `fuel` bounds the entries. -/
def State.advanceHead (s : State) (r : Nat) : Nat → State
  | 0 => s
  | fuel + 1 =>
    let h := s.ringHead r
    let st := s.ringState r
    if st = 0 ∨ st = 1 ∨ st = 5 ∨ (st = 4 ∧ h = s.rd (BQ_STATE.FREEZE_AT r)) then s
    else if s.isDone r h then
      let t := s.updRing r (fun u => { u with done := u.done.filter (fun e => e.1 != h), pubDue := true })
      let h' := (h + 1) % s.ringN r
      let t := t.wr (BQ_INDEX.HEAD r) h'
      -- A head that passes marked entries takes FETCH with it (R337).
      let t := t.when (t.ringFetch r == h) (fun t => t.wr (BQ_INDEX.FETCH r) h')
      t.advanceHead r fuel
    else s

/-- The ring's freeze when entry `i` completes with a freezing status (R335). -/
def State.freezeRing (s : State) (r i : Nat) : State :=
  let n := s.ringN r
  let d := ringDist n (s.ringHead r) i
  match s.ringState r with
  | 2 => ((s.setRing r 4).wr (BQ_STATE.FREEZE_AT r) i).discardAfter r d
  | 4 =>
    if d < ringDist n (s.ringHead r) (s.rd (BQ_STATE.FREEZE_AT r)) then
      ((s.wr (BQ_STATE.FREEZE_AT r) i).updRing r (fun u => { u with pubDue := true })).discardAfter r d
    else s
  | _ => s

/-- SPECIFIC of a result (R356). -/
def Cmd.specific (c : Cmd) : Nat :=
  let op := c.opcode
  let st := c.status
  let p := c.pack
  if op = 0x0A then c.first.getD 0 % 2 ^ 40 + 2 ^ 40 * (c.peerStatus % 256)
  else if st = stLbaRange ∨ (0x21 ≤ st ∧ st ≤ 0x27) then c.failLba % 2 ^ 40
  else if st = stWriteFault ∧ (op = 2 ∨ op = 3 ∨ op = 4 ∨ op = 8) then c.failLba % 2 ^ 40
  else if st = stUnrecovered then c.failLba % 2 ^ 40 + 2 ^ 48 * satU 16 c.failCount + 2 ^ 64 * satU 16 c.marginal
  else if op = 0x05 ∧ 0x40 ≤ st ∧ st ≤ 0x45 then (p.map (fun p => p.errPos)).getD 0
  else if st ≠ 0 then 0
  else match op with
    | 0x01 | 0x09 => 2 ^ 64 * satU 16 c.marginal
    | 0x05 => c.origLen % 2 ^ 32 + 2 ^ 32 * (c.keySlot % 256) + 2 ^ 64 * satU 16 c.marginal
    | 0x03 => c.first.getD 0 % 2 ^ 40
    | 0x04 => c.zone % 2 ^ 32 + 2 ^ 32 * (16 * c.first.getD 0 % 2 ^ 32) + 2 ^ 64 * ((p.map (fun p => p.granules)).getD 0)
    | 0x06 | 0x07 => c.changed % 2 ^ 32
    | _ => c.spec % 2 ^ 96

/-- The 16 bytes of a result (R355). -/
def Cmd.result (c : Cmd) : List Byte :=
  leBytes 1 c.status ++ leBytes 1 (b2n c.limited + 2 * b2n c.wb) ++ leBytes 2 c.cid ++ leBytes 12 c.specific

/-- Ends the ABORT commands that wait for a target's result; their status has been decided (R340). -/
def State.endAborts (s : State) (tags : List Nat) : State :=
  s.forEach tags (fun t s => s.updCmd t (fun c => { c with phase := .ended }))

/-- A FLUSH that covers a command which could not write its data fails with it (R366). -/
def State.flushTold (s : State) (c : Cmd) : State :=
  if c.status = stWriteFault && writeOpcode c.opcode then
    s.forEach (s.cmds.filter (fun f => f.opcode == 8 && f.phase != .ended && decide (c.order < f.order)))
      (fun f t => t.cmdFail f.tag stWriteFault c.failLba)
  else s

/-- Records the completion of an entry of a ring: its result slot is written, its tag freed, the head advances, a freezing status
freezes the ring (R333 to R335). Nothing is written while the function is reset or the link is down (R343). -/
def State.completeRing (s : State) (c : Cmd) (r i : Nat) : State :=
  let res := c.result
  let t := s.flushTold c
  let t := t.hostStore (t.on (BQ_CFG.NS r)) (t.ringRes r + 16 * i) res
  let t := t.when (c.status == stAborted) (fun t => t.inc BQ_ABORT_CNT.ABORTED)
  let t := t.when (c.status == stAlreadyDone) (fun t => t.inc BQ_ABORT_CNT.ALREADY)
  let t := t.when (c.status == stAbortLimit) (fun t => t.bqBit BQ_STATUS.MARKS_FULL true)
  let t := (t.forget c.tag).updRing r (fun u => { u with done := u.done ++ [(i, res)] })
  let t := t.when (r != 128 && freezes c.status) (fun t => t.freezeRing r i)
  let t := t.advanceHead r (t.ring r).done.length
  ((t.endAborts c.abortedBy).showTags).showWindow r

/-- Answers a media request of a peer (R422 to R424): a READ sends its data and COMMIT; a write enters its outcome and sends RESULT;
an error sends RESULT. -/
def State.completePeer (s : State) (c : Cmd) (src xid : Nat) : State :=
  match s.qfb.ins.find? (fun x => x.src == src && x.xid == xid) with
  | none => s.forget c.tag
  | some x =>
    let read := decide (c.opcode = 1 ∧ c.status = 0)
    let (s, data, bad) := if read then s.portPages 14 c.tag c.cnt 0 else (s, [], false)
    let c := if bad then { c with status := stBufferData } else c
    if read && !bad then
      let t := s.qSendData src x.cls xid (c.cnt * 8 + 1) 0 data
      let t := t.qCommit src x.cls xid data
      let t := t.updQfb (fun q => { q with ins := q.ins.map (fun (y : XIn) => if y.src = src ∧ y.xid = xid
        then { y with tag := none, committed := true, last := s.sys.time } else y) })
      t.forget c.tag
    else
      let lba := if c.opcode = 3 then c.first.getD 0 else 0
      let mine (y : XIn) : Bool := y.src == src && y.xid == xid
      let t := s.updQfb (fun q => { q with
        -- What the initiator still sends of a write refused before its COMMIT belongs to it.
        ins := if x.committed || c.opcode == 1 then q.ins.filter (fun (y : XIn) => !mine y)
               else q.ins.map (fun (y : XIn) => if mine y then { y with ask := .refused c.status, tag := none, data := [] } else y),
        outcomes := if x.committed then q.outcomes ++ [{ xid := xid, src := src, cls := x.cls, status := c.status, lba := lba,
                                                         since := some s.sys.time }] else q.outcomes })
      let t := t.qResult src x.cls xid c.status false false lba
      (t.showXfer).forget c.tag

/-- COMMAND_COMPLETE: the completion of a command whose status is decided is recorded (R333). A command that was stopped ends ABORTED
once its work has stopped (R341). -/
def execCommandComplete (tag : BitVec 14) (s : State) : Res :=
  .next (
    match s.cmd? tag.toNat with
    | none => s
    | some c0 =>
      let s := if c0.dropped && c0.phase != .ended then
          let t := s.dropWork tag.toNat
          match t.cmd? tag.toNat with
          | some c => if t.workStopped c then t.updCmd tag.toNat (fun c => { c with status := stAborted, phase := .ended }) else t
          | none => t
        else s
      match s.cmd? tag.toNat with
      | none => s
      | some c =>
        if c.phase != .ended || !s.workStopped c || !s.running then s
        else match c.src with
          | .ring r i => if s.hostUp then s.completeRing c r i else s
          | .peer src xid => s.completePeer c src xid
          | .destage => s)

/-! ### Publication (R324, R334, R347) -/

/-- The bits set in the freeze bitmap of a freezing or FROZEN ring: bit i is the entry at FREEZE_AT + 1 + i (R336). -/
def State.freezeBits (s : State) (r : Nat) : List Nat :=
  if s.ringState r = 4 ∨ s.ringState r = 5 then
    let at_ := s.rd (BQ_STATE.FREEZE_AT r)
    let d (i : Nat) : Nat := ringDist (s.ringN r) (s.ringHead r) i
    ((s.ring r).done.filter (fun e => decide (d at_ < d e.1))).map (fun e => d e.1 - d at_ - 1)
  else []

/-- Entries that have completed after FREEZE_AT (R324, R336). -/
def State.markedCount (s : State) (r : Nat) : Nat := (s.freezeBits r).length

/-- The 16 bytes of the publication word (R324). -/
def State.pubWord (s : State) (r : Nat) : List Byte :=
  let fr := s.ringState r == 4 || s.ringState r == 5
  leBytes 2 (s.ringHead r) ++ leBytes 1 (s.ringState r) ++ leBytes 1 0 ++ leBytes 4 ((s.ring r).pubSeq) ++
  leBytes 2 (if fr then s.rd (BQ_STATE.FREEZE_AT r) else 0) ++ leBytes 2 (s.markedCount r) ++ leBytes 4 0

/-- The MSI-X vector of a ring (R311). -/
def ringVector (r : Nat) : Nat := if r = 128 then 0 else r + 1

/-- Sends the ring's message, unless coalescing holds it back (R334, R347). -/
def State.ringMessage (s : State) (r : Nat) : State :=
  let coal := s.rd (BQ_CFG.COAL r)
  if !s.on (BQ_CFG.INT_EN r) then s
  else match (s.ring r).msgBell with
    | some b => if coal ≠ 0 && decide (s.bell < b + coal) then s.updRing r (fun u => { u with held := true })
                else (s.updRing r (fun u => { u with msgBell := some s.bell, held := false })).msixSend (ringVector r)
    | none => (s.updRing r (fun u => { u with msgBell := some s.bell, held := false })).msixSend (ringVector r)

/-- PUBLICATION_WRITE: the publication word of a ring is written after every result slot it covers, at most one in each bell, and the
ring's message follows (R334). -/
def execPublicationWrite (r : Ring) (s : State) : Res :=
  .next (
    let u := s.ring r
    if !u.pubDue || u.pubBell == some s.bell || !s.hostUp || !s.running || s.ringState r = 0 then s
    else
      let t := s.updRing r (fun u => { u with pubDue := false, pubBell := some s.bell, pubSeq := (u.pubSeq + 1) % 2 ^ 32 })
      let t := t.hostStore (t.on (BQ_CFG.NS r)) (t.ringRes r + 16 * t.ringN r) (t.pubWord r)
      (t.inc BQ_PUB_CNT.CNT).ringMessage r)

/-- COAL_EXPIRY: the interval ends and a message held back is sent (R347). -/
def execCoalExpiry (r : Ring) (s : State) : Res :=
  .next (
    match (s.ring r).held, (s.ring r).msgBell with
    | true, some b =>
      if b + s.rd (BQ_CFG.COAL r) ≤ s.bell then
        (s.updRing r (fun u => { u with held := false, msgBell := some s.bell })).msixSend (ringVector r)
      else s
    | _, _ => s)

/-! ### Freeze and restart (R335 to R337) -/

/-- FREEZE_SETTLED: every entry before FREEZE_AT is complete and published and every started entry after it is complete: FROZEN
(R336). -/
def execFreezeSettled (r : Ring) (s : State) : Res :=
  .next (
    let at_ := s.rd (BQ_STATE.FREEZE_AT r)
    if s.ringState r = 4 ∧ s.ringHead r = at_ ∧ s.ringCmds r = [] ∧ !(s.ring r).pubDue then
      let res := (((s.ring r).done.find? (fun e => e.1 == at_)).map (fun e => e.2)).getD []
      ((s.setRing r 5).setB (BQ_STATE.FROZE r)).updRing r (fun u => { u with failRes := res })
    else s)

/-- RING RESTART (R337): the head passes FREEZE_AT and the marked entries that follow it; FETCH is the first unmarked one. -/
def State.restartRing (s : State) (r : Nat) : State :=
  let t := (s.setRing r 2).updRing r (fun u => { u with failRes := [] })
  let t := t.wr (BQ_STATE.FREEZE_AT r) 0
  let t := t.wr (BQ_INDEX.FETCH r) (t.ringHead r)
  let t := t.advanceHead r (t.ring r).done.length
  (t.wr (BQ_INDEX.FETCH r) (t.ringHead r)).showWindow r

/-! ### Enable, disable, create, delete (R325, R338, R339) -/

/-- RING ENABLE: fetching from HEAD, abort marks cleared. -/
def State.enableRing (s : State) (r : Nat) : State :=
  (((s.clearMarks r).setRing r 2).wr (BQ_INDEX.FETCH r) (s.ringHead r)).showWindow r

/-- RING DISABLE on an ENABLED or FROZEN ring (R338): entries up to the latest started one are kept, the others are discarded. -/
def State.disableRing (s : State) (r : Nat) : State :=
  let n := s.ringN r
  let h := s.ringHead r
  let started := ((s.ringCmds r).filter (fun c => c.phase == .started || c.phase == .ended)).map (fun c => c.ringIdx)
  let ds := (started ++ (s.ring r).done.map (fun e => e.1)).map (ringDist n h)
  let frozen := s.ringState r == 5
  let keep := match ds with | [] => h | d :: l => (h + (l.foldl max d) + 1) % n
  let t := s.setRing r 3
  let t := t.updRing r (fun u => { u with keepTo := some keep, failRes := [] })
  let t := t.wr (BQ_STATE.FREEZE_AT r) 0
  let t := match ds with
    | [] => (t.updBq (fun b => { b with reads := b.reads.filter (fun f => f.ring != r) })).forEach
              (t.ringCmds r) (fun (c : Cmd) t => t.forget c.tag)
    | d :: l => t.discardAfter r (l.foldl max d)
  -- What a freeze had discarded among the kept entries is fetched again (R338).
  let t := if frozen then t.wr (BQ_INDEX.FETCH r) h else t
  ((t.advanceHead r (t.ring r).done.length).showTags).showWindow r

/-- A disabling ring has settled: every kept entry is complete and published. -/
def State.disableDone (s : State) (r : Nat) : Bool :=
  s.ringState r == 3 && (s.ring r).keepTo == some (s.ringHead r) && (s.ringCmds r).isEmpty && !(s.ring r).pubDue

/-- DISABLE_SETTLED: the ring becomes DISABLED; its RING DISABLE completes (R338, R370). -/
def execDisableSettled (r : Ring) (s : State) : Res :=
  .next (
    if s.disableDone r then
      let t := ((s.setRing r 1).clearMarks r).updRing r (fun u => { u with keepTo := none, done := [] })
      t.forEach (t.cmds.filter (fun c => c.onAdmin && c.opcode == 0x87 && c.phase == .started && c.u 28 1 == r.val))
        (fun (c : Cmd) t => t.cmdEnd c.tag 0)
    else s)

/-- RING CREATE loads the registers of a DELETED ring (R325, R370). -/
def State.createRing (s : State) (r cls weight flags depth base res : Nat) : State :=
  let t := s.updRing r (fun _ => RingU.init)
  let t := t.wrs [(BQ_BASE_LO.BASE r, base / 64), (BQ_BASE_HI.BASE r, base / 2 ^ 32), (BQ_RES_LO.RES r, res / 64),
    (BQ_RES_HI.RES r, res / 2 ^ 32), (BQ_CFG.DEPTH_M1 r, depth), (BQ_CFG.CLASS r, cls), (BQ_CFG.WEIGHT r, weight),
    (BQ_CFG.NS r, flags % 2), (BQ_CFG.INT_EN r, bitsOf flags 1 1), (BQ_CFG.COAL r, bitsOf flags 7 4), (BQ_DOORBELL.TAIL r, 0),
    (BQ_INDEX.FETCH r, 0), (BQ_INDEX.HEAD r, 0)]
  (t.setRing r 1).updRing r (fun u => { u with pubDue := false })

/-- A ring becomes DELETED: its registers read 0, its marks go and its vector is masked (R325). -/
def State.deleteRing (s : State) (r : Nat) : State :=
  let t := (s.setRing r 0).clearMarks r
  let t := [BQ_BASE_LO r, BQ_BASE_HI r, BQ_RES_LO r, BQ_RES_HI r, BQ_CFG r, BQ_DOORBELL r, BQ_STATE r, BQ_INDEX r].foldl
    (fun t a => t.setReg a 0) t
  let t := t.updLink (fun l => { l with msix := listModify l.msix (ringVector r) (fun m => { m with masked := true }) })
  t.updRing r (fun _ => RingU.init)

/-- The admin ring's settings can be enabled (R347). -/
def State.adminDepthOk (s : State) : Bool := decide (1 ≤ s.rd (BQ_CFG.DEPTH_M1 128)) && decide (s.rd (BQ_CFG.DEPTH_M1 128) ≤ 4095)

/-- ADMIN_RING_ENABLE: 1 written to BQ_CTRL.ADMIN_EN acts as RING ENABLE (R325); DEPTH_M1 out of range is refused (R347). -/
def execAdminRingEnable (w : Initiator) (s : State) : Res :=
  if !s.mayWrite w then .next s else
  .next (
    if s.ringState 128 ≠ 1 then s
    else if !s.adminDepthOk then s.refuseW w BQ_CTRL 1
    else s.enableRing 128)

/-- ADMIN_RING_DISABLE: 0 written to BQ_CTRL.ADMIN_EN acts as RING DISABLE (R325). -/
def execAdminRingDisable (s : State) : Res :=
  .next (if s.ringState 128 = 2 then s.disableRing 128 else s)

/-! ### Quiesce (R344, R314) -/

/-- Every fetched entry of the I/O rings has run, heads are published, rings are settled; of the admin ring only the command that
quiesces is left. -/
def State.drained (s : State) (own : Option Nat) : Bool :=
  s.cmds.all (fun c => c.ring?.isNone || some c.tag == own) && s.bq.reads.isEmpty &&
  (List.range 129).all (fun r => !(s.ring r).pubDue && s.ringState r != 3 && s.ringState r != 4)

end Sys2Proof.Machine
end

