-- ==== Sys2Proof/Machine/Cache.lean ====
section
/-! DEFINITION. Meanings of the buffer cache and DRAM commands (chapter 11): requests, fills, write-backs, maintenance,
drain, and the DDR5 channels. -/

namespace Sys2Proof.Machine
open Reg

/-! ### Answers in port order (R253) -/

/-- Answers leave in the order of their port: the leading answered requests of each port, scanned oldest first. -/
def takeAnswers : List Nat → List COrder → List COrder × List COrder
  | _, [] => ([], [])
  | blocked, o :: l =>
    if o.ans.isSome && !blocked.contains o.port then
      match takeAnswers blocked l with
      | (out, rest) => (o :: out, rest)
    else match takeAnswers (o.port :: blocked) l with
      | (out, rest) => (out, o :: rest)

/-- Sends the answers that may leave. -/
def State.sendAnswers (s : State) : State :=
  let (out, rest) := takeAnswers [] s.dram.order
  (s.updDram (fun d => { d with order := rest })).forEach out (fun o t =>
    match o.ans with
    | some r => t.emit (.cacheResp o.port r.data r.ue r.err)
    | none => t)

/-- Records the answer of a request. -/
def State.answer (s : State) (id : Nat) (r : BufResp) : State :=
  (s.updDram (fun d => { d with order := d.order.map (fun o => if o.id = id then { o with ans := some r } else o) })).sendAnswers

/-- The answer of a write. -/
def okResp : BufResp := { data := [], ue := [], err := false }

/-- The answer of a read of a line: data from an offset, with the UE mask of poisoned halves (R264). -/
def lineResp (data : List Byte) (poison : Bool × Bool) (ofs len : Nat) : BufResp :=
  { data := (data.drop ofs).take len,
    ue := (List.range len).map (fun i => if ofs + i < 64 then poison.1 else poison.2), err := false }

/-- Shows the cache's occupancy (R271). -/
def State.showOcc (s : State) : State :=
  let locked := (s.dram.ways.filter (fun e => e.2.lock)).length
  s.wrs [(BCC_OCC.MISS, (s.dram.miss.filter (fun m => !m.bypass)).length), (BCC_OCC.VICTIM, s.dram.victims.length),
    (BCC_OCC.LOCKED, locked / 16)]

/-! ### DRAM reads and writes -/

/-- A write is a victim write-back. -/
def DWrite.isVictim (w : DWrite) : Bool := match w.why with | .victim _ => true | _ => false

/-- Issues a DRAM read of one half of a line, from a channel that is not fenced; with none left the whole line answers as
uncorrectable, with DDR_LOST (R266, R269). -/
def State.issueRead (s : State) (line half : Nat) (bypass : Bool) : State :=
  let ps := (s.linePlace line).filter (fun p => !s.ddrFenced p.1)
  match ps with
  | p :: _ =>
    let r : DRead := { ch := p.1, ofs := p.2 + 64 * half, line := line, half := half, second := false, bypass := bypass }
    s.updDram (fun d => { d with reads := d.reads ++ [r] })
  | [] =>
    let lost : HalfRes := (List.replicate 64 0xFF, 1)
    let due (m : CMiss) : Bool := m.line == line && m.bypass == bypass && !(m.half0 == some lost && m.half1 == some lost)
    if s.dram.miss.any due then
      let t := s.updDram (fun d => { d with miss := d.miss.map (fun m =>
        if due m then { m with half0 := some lost, half1 := some lost } else m) })
      (t.setB DDR_GSTATUS.LOST).raiseSrc 0x180 { ctx0 with addr := some (dramBase + 128 * line), port := 12, access := 5 }
    else s

/-- Issues a DRAM write of a line or of part of one; the copies on fenced channels drop out, and a write-back with no copy
left is discarded (R266, R269). Answers whether a write is outstanding. -/
def State.issueWrite (s : State) (line : Nat) (data : List (Option Byte)) (poison : Bool × Bool) (why : DWhy) : State × Bool :=
  let ps := (s.linePlace line).filter (fun p => !s.ddrFenced p.1)
  if ps.isEmpty then (s.setB DDR_GSTATUS.LOST, false)
  else
    let w : DWrite := { line := line, pend := ps, data := data, poison := poison, tries := 0, why := why }
    (s.updDram (fun d => { d with writes := d.writes ++ [w] }), true)

/-- Stores a write's bytes at one of its copies. -/
def State.applyWrite (s : State) (w : DWrite) (c ofs : Nat) : State :=
  s.updDdr c (fun d =>
    let mk := s.markOf c (s.rankOf ofs)
    if w.data.length ≤ 64 then d.writeBurst mk ofs w.data w.poison.1
    else
      let d := if (w.data.take 64).any (fun b => b.isSome) then d.writeBurst mk ofs (w.data.take 64) w.poison.1 else d
      if (w.data.drop 64).any (fun b => b.isSome) then d.writeBurst mk (ofs + 64) (w.data.drop 64) w.poison.2 else d)

/-! ### Ways (R249, R251) -/

/-- The keys of the ways of a line's set. -/
def State.setWays (s : State) (line : Nat) : List Nat :=
  if s.cacheSets = 0 then [] else (List.range 16).map (fun w => line % s.cacheSets * 16 + w)

/-- The victim way of a line's set under R251, with the state in which rule 3 has cleared REF; none when no way is
eligible. -/
def State.pickVictim (s : State) (line : Nat) : Option (State × Nat) :=
  let el := (s.setWays line).filter (fun k => !(s.way k).lock && !(s.way k).reserved)
  match el.find? (fun k => !(s.way k).valid) with
  | some k => some (s, k)
  | none =>
    match el.find? (fun k => !(s.way k).ref) with
    | some k => some (s, k)
    | none =>
      match el with
      | [] => none
      | k :: _ => some (s.forEach el (fun j t => t.updWay j (fun w => { w with ref := false })), k)

/-- The line held by way `k`. -/
def State.wayLine (s : State) (k : Nat) : Nat := (s.way k).tag * s.cacheSets + k / 16

/-- Sets POISON bits of a way, which shows in POISON_SEEN. -/
def State.poisonWay (s : State) (k : Nat) (p : Bool × Bool) : State :=
  if p.1 || p.2 then
    (s.updWay k (fun w => { w with poison := (w.poison.1 || p.1, w.poison.2 || p.2) })).raiseBit BCC_STATUS.POISON_SEEN BCC_INT_EN
  else s

/-- Evicts the line in way `k`: a dirty one goes to the victim buffer with its write-back issued (R254). -/
def State.evictWay (s : State) (k : Nat) : State :=
  let w := s.way k
  if w.valid && w.dirty then
    let line := s.wayLine k
    let (bs, ue) := s.wayData k
    let p := (w.poison.1 || ue.1, w.poison.2 || ue.2)
    let (t, out) := (s.wayReport k).issueWrite line (bs.map some) p (.victim line)
    let t := if out then t.updDram (fun d => { d with victims := d.victims ++ [{ line := line, data := bs, poison := p }] }) else t
    t.updWay k (fun _ => CWay.blank)
  else s.updWay k (fun _ => CWay.blank)

/-- Writes 128 bytes into the data of way `k`. -/
def State.fillWay (s : State) (k : Nat) (bs : List Byte) : State :=
  s.updMem (fun m => m.storeList (s.wayCell k) bs)

/-! ### Requests (R250 to R254, R258) -/

/-- How a request fares: answered or merged, or it must wait. -/
inductive CServe where
  | taken | waits
deriving DecidableEq, Repr

/-- A cache tag access corrects an injected error in a tag copy (R249, R471). -/
def State.tagCheck (s : State) (line : Nat) : State :=
  match s.armedAt 3 (fun a => (s.setWays line).contains a) with
  | some _ => ((s.injDone).raiseBit BCC_STATUS.TAG_CORR BCC_INT_EN).raiseSrc 0x178 { ctx0 with port := 12, injected := true }
  | none => s

/-- Starts a miss of a request on way `k`, already free: the fetch of both halves is issued. -/
def State.startMiss (s : State) (k line : Nat) (reqs : List CReq) (stream lock : Bool) : State :=
  let t := s.updWay k (fun w => { w with reserved := true, lock := w.lock || lock })
  let m : CMiss := { line := line, way := k, reqs := reqs, half0 := none, half1 := none, stream := stream, lock := lock, bypass := false }
  let t := t.updDram (fun d => { d with miss := d.miss ++ [m] })
  ((t.issueRead line 0 false).issueRead line 1 false).showOcc

/-- Serves a request to a DRAM address. -/
def State.serve (s : State) (q : CReq) : State × CServe :=
  let stream := q.stream || bitOf (s.rd BCC_STREAM_MASK.MASK) q.port
  if s.dram.writes.any (fun w => w.line == q.line && !w.isVictim) then (s, .waits)
  else if !s.on BCC_CTRL.EN && s.on BCC_STATUS.DRAINED then
    -- Bypass (R258).
    match q.write with
    | some bs =>
      let whole : List (Option Byte) := List.replicate q.ofs none ++ bs ++ List.replicate (128 - q.ofs - bs.length) none
      let (t, out) := s.issueWrite q.line whole (false, false) (.bypass q.id)
      (if out then t else t.answer q.id okResp, .taken)
    | none =>
      let m : CMiss := { line := q.line, way := 0, reqs := [q], half0 := none, half1 := none, stream := false, lock := false, bypass := true }
      let t := s.updDram (fun d => { d with miss := d.miss ++ [m] })
      ((t.issueRead q.line 0 true).issueRead q.line 1 true, .taken)
  else
    let s := s.tagCheck q.line
    match s.findWay q.line with
    | some k =>
      let s := (s.inc BCC_HIT_CNT.CNT).updWay k (fun w => { w with ref := w.ref || !w.lock })
      (match q.write with
       | some bs => ((s.lineStore q.line q.ofs bs).answer q.id okResp, .taken)
       | none =>
         let (data, ue) := s.wayData k
         let s := s.wayReport k
         if (ue.1 || ue.2) && !(s.way k).dirty then
           -- A clean line with an uncorrectable byte is invalidated and fetched again (R264).
           let t := s.updWay k (fun _ => CWay.blank)
           (t.startMiss k q.line [q] false (s.way k).lock, .taken)
         else
           let t := s.poisonWay k ue
           (t.answer q.id (lineResp data (t.way k).poison q.ofs q.len), .taken))
    | none =>
      match s.dram.miss.find? (fun m => m.line == q.line && !m.bypass) with
      | some m =>
        if 16 ≤ m.reqs.length then (s, .waits)
        else
          ((s.inc BCC_MERGE_CNT.MERGES).updDram (fun d => { d with miss := d.miss.map (fun x =>
            if x.line = q.line ∧ x.bypass = false then { x with reqs := x.reqs ++ [q] } else x) }), .taken)
      | none =>
        match s.dram.victims.find? (fun v => v.line == q.line), q.write with
        | some v, none => ((s.inc BCC_MERGE_CNT.VICTIM_HITS).answer q.id (lineResp v.data v.poison q.ofs q.len), .taken)
        | some _, some _ => (s, .waits)
        | none, _ =>
          if s.dram.draining || !s.on BCC_CTRL.EN || 256 ≤ (s.dram.miss.filter (fun m => !m.bypass)).length then (s, .waits)
          else match s.pickVictim q.line with
            | none => (s, .waits)
            | some (t, k) =>
              if (t.way k).valid && (t.way k).dirty && decide (32 ≤ t.dram.victims.length) then (s, .waits)
              else
                let t := (t.evictWay k).inc BCC_MISS_CNT.CNT
                match q.write with
                | some bs =>
                  if coversHalf q.ofs bs 0 && coversHalf q.ofs bs 1 then
                    let t := t.fillWay k (mergeBytes (List.replicate 128 0) q.ofs bs)
                    let t := t.updWay k (fun _ =>
                      { CWay.blank with tag := q.line / s.cacheSets, valid := true, dirty := true, ref := !stream })
                    ((t.answer q.id okResp).showOcc, .taken)
                  else (t.startMiss k q.line [q] stream false, .taken)
                | none => (t.startMiss k q.line [q] stream false, .taken)

/-- CACHE_REQUEST: a port's request to a DRAM address within one line (R246, R250 to R254, R258). A port with a request
waiting holds its later ones back. -/
def execCacheRequest (port : Fin 16) (chan : Byte) (addr : BitVec 36) (len : Nat) (write : Option (List (Option Byte)))
    (stream : Bool) (s : State) : Res :=
  let n := match write with | some bs => bs.length | none => len
  if addr.toNat < dramBase ∨ n = 0 ∨ 128 < (addr.toNat - dramBase) % 128 + n then .refused .illFormed
  else
    let a := addr.toNat - dramBase
    let id := s.dram.nextId
    let s := s.updDram (fun d =>
      { d with nextId := d.nextId + 1, order := d.order ++ [{ id := id, port := port.val, ans := none }] })
    if !s.lineMapped (a / 128) then
      let t := (s.elogAdd { frame := 0, word := 0, bytes := 0, synd := 0, typ := 4, port := port.val, page := 0, plane1 := false,
                            bell := s.bell % 2 ^ 32 }).raiseBit MEM_STATUS.ACCESS_ERR MEM_INT_EN
      .next (t.answer id { data := (if write.isSome then [] else List.replicate len 0xFF), ue := [], err := true })
    else
      let q : CReq := { id := id, port := port.val, chan := chan.toNat, line := a / 128, ofs := a % 128, len := n, write := write,
                        stream := stream }
      if s.dram.waitQ.any (fun x => x.port == port.val) then .next (s.updDram (fun d => { d with waitQ := d.waitQ ++ [q] }))
      else match s.serve q with
        | (t, .taken) => .next t
        | (t, .waits) => .next (t.updDram (fun d => { d with waitQ := d.waitQ ++ [q] }))

/-- The first waiting request, of those at the head of their port, that is served now. -/
def State.resumeOne (s : State) : List Nat → List CReq → List CReq → Option State
  | _, _, [] => none
  | blocked, before, q :: rest =>
    if blocked.contains q.port then s.resumeOne blocked (before ++ [q]) rest
    else match s.serve q with
      | (t, .taken) => some (t.updDram (fun d => { d with waitQ := before ++ rest }))
      | (_, .waits) => s.resumeOne (q.port :: blocked) (before ++ [q]) rest

/-- CACHE_WAIT_RESUME: a waiting request proceeds when what it waited for has freed (R252). -/
def execCacheWaitResume (s : State) : Res := .next ((s.resumeOne [] [] s.dram.waitQ).getD s)

/-! ### Maintenance (R256, R257) -/

/-- Ends the maintenance operation once nothing of it is outstanding. -/
def State.maintDone (s : State) : State :=
  match s.dram.maint with
  | none => s
  | some m =>
    if m.deferred.isEmpty && m.fills.isEmpty && m.writes == 0 then
      ((s.updDram (fun d => { d with maint := none })).clr BCC_STATUS.BUSY).raiseBit BCC_STATUS.DONE BCC_INT_EN
    else s

/-- Updates the maintenance operation in progress. -/
def State.updMaint (s : State) (f : CMaint → CMaint) : State := s.updDram (fun d => { d with maint := d.maint.map f })

/-- Writes back the line of way `k` for the operation in progress; it stays where it is, clean. -/
def State.cleanWay (s : State) (k : Nat) : State :=
  if (s.way k).valid && (s.way k).dirty then
    let (bs, ue) := s.wayData k
    let s := (s.wayReport k).poisonWay k ue
    let (t, out) := s.issueWrite (s.wayLine k) (bs.map some) (s.way k).poison .maint
    let t := (t.updWay k (fun w => { w with dirty := false })).inc BCC_MAINT_RESP2.WRITTEN
    if out then t.updMaint (fun m => { m with writes := m.writes + 1 }) else t
  else s

/-- Invalidates way `k`; a locked way stays locked and empty. -/
def State.invalWay (s : State) (k : Nat) : State := s.updWay k (fun w => { CWay.blank with lock := w.lock })

/-- One operation on way `k` that holds a line (R256 columns 1 to 3). -/
def State.maintWay (s : State) (op k : Nat) : State :=
  let w := s.way k
  match op with
  | 0 => s.cleanWay k
  | 1 =>
    let t := s.when w.dirty (fun t => t.inc BCC_MAINT_RESP.DIRTY_LOST)
    (t.when w.lock (fun t => t.inc BCC_MAINT_RESP.LOCKED_HIT)).invalWay k
  | 2 =>
    let t := s.cleanWay k
    (t.when w.lock (fun t => t.inc BCC_MAINT_RESP.LOCKED_HIT)).invalWay k
  | 3 =>
    -- No set holds more than LOCK_MAX locked ways (R255, log entry 134).
    if w.lock || decide ((((List.range 16).map (fun i => k / 16 * 16 + i)).filter (fun j => (s.way j).lock)).length < s.rd BCC_CTRL.LOCK_MAX)
    then s.updWay k (fun w => { w with lock := true })
    else s.inc BCC_MAINT_RESP2.LOCK_SKIP
  | 4 => if w.lock then s.updWay k (fun w => { w with lock := false, ref := false }) else s
  | _ => (s.fillWay k (List.replicate 128 0)).updWay k (fun w => { w with dirty := true, poison := (false, false) })

/-- The locked ways of a line's set, and the locked empty ones. -/
def State.lockedWays (s : State) (line : Nat) : List Nat := (s.setWays line).filter (fun k => (s.way k).lock)

/-- The way of a miss of the operation in progress on a line that is not present, by R251: none while every way of the set is reserved, all 256 miss
registers are busy, or a dirty victim finds the 32 victim entries in use (R251, R252, R254). -/
def State.maintVictim (s : State) (line : Nat) : Option (State × Nat) :=
  match s.pickVictim line with
  | none => none
  | some (t, k) => if (t.way k).valid && (t.way k).dirty && decide (32 ≤ t.dram.victims.length) then none else some (t.evictWay k, k)

/-- The operation in progress waits with a line until what holds it up has ended (R251, R254, R257). -/
def State.maintDefer (s : State) (line : Nat) : State := s.updMaint (fun m => { m with deferred := m.deferred ++ [line] })

/-- LOCK_FILL of a line that is not present (R256, R255). -/
def State.lockFill (s : State) (line : Nat) : State :=
  let empties := (s.lockedWays line).filter (fun k => !(s.way k).valid && !(s.way k).reserved)
  let fill (t : State) (k : Nat) : State := (t.startMiss k line [] false true).updMaint (fun m => { m with fills := m.fills ++ [line] })
  if 256 ≤ (s.dram.miss.filter (fun m => !m.bypass)).length then s.maintDefer line
  else match empties with
    | k :: _ => fill s k
    | [] =>
      if (s.lockedWays line).length < s.rd BCC_CTRL.LOCK_MAX then
        match s.maintVictim line with
        | none => s.maintDefer line
        | some (t, k) => fill t k
      else s.inc BCC_MAINT_RESP2.LOCK_SKIP

/-- ZERO of a line that is not present: allocated under R251 as zeros with no fetch. With the cache out of service the zeros go to DRAM (log
entry 15). -/
def State.zeroLine (s : State) (line : Nat) : State :=
  if !s.on BCC_CTRL.EN then s.lineStore line 0 (List.replicate 128 (some 0))
  else match s.maintVictim line with
    | none => s.maintDefer line
    | some (t, k) =>
      (t.fillWay k (List.replicate 128 0)).updWay k (fun _ =>
        { CWay.blank with tag := line / s.cacheSets, valid := true, dirty := true, ref := true })

/-- One line of a maintenance operation; a line with a pending miss register is left for its fill, and one to
be filled or zeroed whose write-back is outstanding for its answer (R254, R257). -/
def State.maintLine (s : State) (op line : Nat) : State :=
  if s.dram.miss.any (fun m => m.line == line && !m.bypass) ||
     ((op == 3 || op == 5) && s.dram.victims.any (fun v => v.line == line)) then s.maintDefer line
  else match s.findWay line with
    | some k => s.maintWay op k
    | none =>
      match op with
      | 3 => if s.on BCC_CTRL.EN then s.lockFill line else s.inc BCC_MAINT_RESP2.LOCK_SKIP
      | 4 =>
        (match (s.lockedWays line).filter (fun k => !(s.way k).valid && !(s.way k).reserved) with
         | k :: _ => s.updWay k (fun _ => CWay.blank)
         | [] => s)
      | 5 => s.zeroLine line
      | _ => s

/-- The lines that the operation in progress waits with are tried again. -/
def State.maintRetry (s : State) : State :=
  match s.dram.maint with
  | none => s
  | some m =>
    let t := s.updMaint (fun x => { x with deferred := [] })
    (t.forEach m.deferred (fun l t => t.maintLine m.op l)).maintDone

/-- A GO in BCC_MAINT_CMD: refused while BUSY, during a drain, with LEN 0, or with ALL for LOCK_FILL and ZERO; otherwise
every line of the range, or every way, is handled (R256, R257, R270). -/
def State.maintGo (s : State) (w : Initiator) (op : Nat) (all : Bool) : State :=
  if !s.mayWrite w then s else
  let s := s.wrs [(BCC_MAINT_CMD.OP, op), (BCC_MAINT_CMD.ALL, b2n all), (BCC_MAINT_CMD.GO, 0)]
  let len := s.rd BCC_MAINT_LEN.LEN
  let bad (c : Nat) : State := (s.raiseBit BCC_STATUS.REFUSED BCC_INT_EN).refuseW w BCC_MAINT_CMD c
  if all && (op == 3 || op == 5) then bad 1
  else if s.on BCC_STATUS.BUSY || s.dram.draining then bad 3
  else if !all && len == 0 then bad 1
  else
    let t := s.wrs [(BCC_STATUS.BUSY, 1), (BCC_MAINT_RESP.LOCKED_HIT, 0), (BCC_MAINT_RESP.DIRTY_LOST, 0),
      (BCC_MAINT_RESP2.LOCK_SKIP, 0), (BCC_MAINT_RESP2.WRITTEN, 0)]
    let t := t.updDram (fun d => { d with maint := some { op := op, deferred := [], fills := [], writes := 0 } })
    let t :=
      if all then
        let pend := (t.dram.miss.filter (fun m => !m.bypass)).map (fun m => m.line)
        let t := t.updMaint (fun m => { m with deferred := pend })
        t.forEach ((t.dram.ways.filter (fun e => (e.2.valid || e.2.lock) && !e.2.reserved)).map (fun e => e.1)) (fun k t =>
          if (t.way k).valid then t.maintWay op k
          else if op = 4 then t.updWay k (fun _ => CWay.blank) else t)
      else
        let a := 128 * s.rd BCC_MAINT_ADDR_LO.ADDR + 2 ^ 32 * s.rd BCC_MAINT_ADDR_HI.ADDR
        let first := (a - dramBase) / 128
        t.forEach (List.range len) (fun i t =>
          if a + 128 * i < dramBase ∨ !t.lineMapped (first + i) then t else t.maintLine op (first + i))
    (t.maintDone).showOcc

/-- BCC_CLEAN. -/
def execBccClean (w : Initiator) (all : Bool) (s : State) : Res := .next (s.maintGo w 0 all)
/-- BCC_INVALIDATE. -/
def execBccInvalidate (w : Initiator) (all : Bool) (s : State) : Res := .next (s.maintGo w 1 all)
/-- BCC_CLEAN_INV. -/
def execBccCleanInv (w : Initiator) (all : Bool) (s : State) : Res := .next (s.maintGo w 2 all)
/-- BCC_LOCK_FILL. -/
def execBccLockFill (w : Initiator) (all : Bool) (s : State) : Res := .next (s.maintGo w 3 all)
/-- BCC_UNLOCK. -/
def execBccUnlock (w : Initiator) (all : Bool) (s : State) : Res := .next (s.maintGo w 4 all)
/-- BCC_ZERO. -/
def execBccZero (w : Initiator) (all : Bool) (s : State) : Res := .next (s.maintGo w 5 all)

/-! ### Drain (R258) -/

/-- Drain steps 2 and 3: once misses and write-backs have completed, every way, locked or not, is cleaned and
invalidated and every lock cleared; the write-backs are issued. -/
def State.drainStep (s : State) : State :=
  if !s.dram.draining || s.dram.miss.any (fun m => !m.bypass) || !s.dram.writes.isEmpty then s
  else
    let t := s.forEach (s.dram.ways.map (fun e => e.1)) (fun k t =>
      if (t.way k).valid && (t.way k).dirty then
        let (bs, ue) := t.wayData k
        let p := ((t.way k).poison.1 || ue.1, (t.way k).poison.2 || ue.2)
        ((t.wayReport k).issueWrite (t.wayLine k) (bs.map some) p .drain).1
      else t)
    (t.updDram (fun d => { d with ways := [] })).showOcc

/-- Starts a drain: BCC_CTRL.EN has been cleared. -/
def State.startDrain (s : State) : State :=
  ((s.updDram (fun d => { d with draining := true })).clr BCC_STATUS.DRAINED).drainStep

/-- CACHE_DRAIN_DONE: with every way cleaned and invalidated and every write-back answered, DRAINED is set; the waiting
requests go on bypassed (CACHE_WAIT_RESUME). -/
def execCacheDrainDone (s : State) : Res :=
  let t := s.drainStep
  if !t.dram.draining || t.dram.miss.any (fun m => !m.bypass) || !t.dram.writes.isEmpty || !t.dram.ways.isEmpty then .next t
  else .next ((t.updDram (fun d => { d with draining := false })).setB BCC_STATUS.DRAINED)

/-! ### Fills (R252, R264) -/

/-- Applies the merged writes of a fill in arrival order: data and the poison of the halves. -/
def mergeWrites : List CReq → List Byte × (Bool × Bool) × Bool → List Byte × (Bool × Bool) × Bool
  | [], x => x
  | q :: l, (data, p, d) =>
    match q.write with
    | none => mergeWrites l (data, p, d)
    | some bs => mergeWrites l
        (mergeBytes data q.ofs bs, (p.1 && !coversHalf q.ofs bs 0, p.2 && !coversHalf q.ofs bs 1), true)

/-- CACHE_FILL_RETURN: the oldest miss whose two halves are in completes (R252, R258): merged writes are applied on the
fill, then merged reads answered; a bypass read is answered without allocating. -/
def execCacheFillReturn (s : State) : Res :=
  match s.dram.miss.find? (fun m => m.half0.isSome && m.half1.isSome) with
  | none => .next s
  | some m =>
    let h0 := m.half0.getD ([], 0)
    let h1 := m.half1.getD ([], 0)
    let data := h0.1 ++ h1.1
    let p := (h0.2 != 0, h1.2 != 0)
    let s := s.updDram (fun d => { d with miss := d.miss.filter (fun x => !(x.line == m.line && x.bypass == m.bypass && x.reqs == m.reqs)) })
    if m.bypass then
      .next (s.forEach m.reqs (fun q t => t.answer q.id (lineResp data p q.ofs q.len)))
    else
      let (data', p', dirty) := mergeWrites m.reqs (data, p, false)
      let t := s.fillWay m.way data'
      let t := t.updWay m.way (fun _ =>
        { tag := m.line / s.cacheSets, valid := true, dirty := dirty, ref := !m.stream, lock := m.lock, poison := (false, false),
          reserved := false })
      let t := t.poisonWay m.way p'
      let t := t.forEach (m.reqs.filter (fun q => q.write.isSome)) (fun q t => t.answer q.id okResp)
      let t := t.forEach (m.reqs.filter (fun q => q.write.isNone)) (fun q t => t.answer q.id (lineResp data' p' q.ofs q.len))
      let t := t.updMaint (fun x => { x with fills := x.fills.filter (fun l => l != m.line) })
      .next ((t.maintRetry.showOcc).drainStep)

/-! ### DRAM answers (R263 to R266) -/

/-- Delivers a half of a line to the miss that waits for it. -/
def State.giveHalf (s : State) (r : DRead) (res : HalfRes) : State :=
  s.updDram (fun d => { d with miss := d.miss.map (fun m =>
    if m.line = r.line ∧ m.bypass = r.bypass then (if r.half = 0 then { m with half0 := some res } else { m with half1 := some res })
    else m) })

/-- A write has been answered by every copy: what waited on it goes on (R254, R256, R258). -/
def State.writeAnswered (s : State) (w : DWrite) : State :=
  match w.why with
  | .victim line => (s.updDram (fun d => { d with victims := (match popFirst (fun v => v.line == line) d.victims with
      | some (_, l) => l | none => d.victims) })).maintRetry.showOcc
  | .maint => (s.updMaint (fun m => { m with writes := m.writes - 1 })).maintDone
  | .bypass id => s.answer id okResp
  | .drain => s

/-- Fences a DRAM channel and moves its traffic (R269): mirrored reads and write-backs go to the survivor, interleaved
reads answer as uncorrectable and interleaved write-backs are discarded. -/
def State.fenceDdr (s : State) (c : Nat) : State :=
  if s.ddrFenced c then s
  else
    let s := s.markDdrFence c
    let rs := s.dram.reads.filter (fun r => r.ch == c)
    let s := s.updDram (fun d => { d with reads := d.reads.filter (fun r => r.ch != c) })
    let s := s.forEach rs (fun r t => t.issueRead r.line r.half r.bypass)
    let ws := s.dram.writes
    let keep := ws.map (fun w => { w with pend := w.pend.filter (fun q => q.1 != c) })
    let s := s.updDram (fun d => { d with writes := keep.filter (fun w => !w.pend.isEmpty) })
    let lost := (ws.filter (fun w => w.pend.all (fun q => q.1 == c)))
    s.forEach lost (fun w t => (t.when (decide ((t.linePlace w.line).length = 1)) (fun t => t.setB DDR_GSTATUS.LOST)).writeAnswered w)

/-- Marks a device whose corrections reach MARK_THRESH in a pass; a second one in a marked rank fences the channel (R265). -/
def State.markDevice (s : State) (c rank : Nat) : State :=
  let th := s.rd DDR_PATROL_CFG.MARK_THRESH
  match (List.range 10).find? (fun v =>
      decide (th ≤ sparseGet 0 (s.ddr c).devCnt (rank * 16 + v)) && s.markOf c rank != v) with
  | none => s
  | some v =>
    if s.markOf c rank = 15 then
      let t := s.wr (if rank = 0 then DDR_STATUS.MARK_DEV c else DDR_STATUS.MARK_DEV1 c) v
      (t.ddrBit c DDR_STATUS.DEV_MARKED).logFree 0x0001 (0x179 + c)
    else (s.raiseSrc (0x17C + c) { ctx0 with detail := c }).fenceDdr c

/-- DDR_READ_COMPLETE: the oldest read on a channel comes back and is decoded. An uncorrectable copy of a mirrored line is
read from the other channel, and a good second copy is written over it; `upsets` are symbol errors found in the burst. -/
def execDdrReadComplete (c : Fin 2) (upsets : List (Nat × Nat)) (s : State) : Res :=
  match popFirst (fun r => r.ch == c.val) s.dram.reads with
  | none => .next s
  | some (r, rest) =>
    let s := s.updDram (fun d => { d with reads := rest })
    let s := s.updDdr c.val (fun d => d.upset r.ofs upsets)
    let bufAddr := dramBase + 128 * r.line + 64 * r.half
    let inj := s.armedAt 1 (fun a => decide (dramBase + a % 2 ^ 36 / 64 * 64 = bufAddr))
    let s := match inj with
      | some j => (s.injDone).updDdr c.val (fun d => d.upset r.ofs ((List.range (j.arg / 2 ^ 36 % 16)).map (fun i => (i, j.mask % 256))))
      | none => s
    let b := (s.ddr c.val).burst r.ofs
    let data := (s.ddr c.val).read r.ofs 64
    let ps := s.linePlace r.line
    let others := ps.filter (fun p => p.1 != c.val && !s.ddrFenced p.1)
    match burstResult b (s.markOf c.val (s.rankOf r.ofs)) with
    | 0 | 3 =>
      let t := if burstResult b (s.markOf c.val (s.rankOf r.ofs)) = 3 then (s.ddrCorrected c.val r.ofs inj.isSome).markDevice c.val (s.rankOf r.ofs) else s
      let t := if r.second then
          -- The good copy is written over the bad one; the event counts as corrected (R266).
          let t := t.forEach others (fun p t => t.updDdr p.1 (fun d => d.writeBurst (s.markOf p.1 (s.rankOf p.2)) (p.2 + 64 * r.half) (data.map some) false))
          (t.inc (DDR_ERR_CNT.CE c.val)).ddrBit c.val DDR_STATUS.CE
        else t
      .next (t.giveHalf r (data, 0))
    | x =>
      if !r.second && !others.isEmpty then
        let o := others.headD (0, 0)
        .next (s.updDram (fun d =>
          { d with reads := d.reads ++ [{ r with ch := o.1, ofs := o.2 + 64 * r.half, second := true }] }))
      else
        let t := if x = 1 then
            ((s.ddrBit c.val DDR_STATUS.UE).inc (DDR_ERR_CNT.UE c.val)).raiseSrc 0x17B
              { ctx0 with addr := some bufAddr, port := 12, access := 5, detail := c.val, injected := inj.isSome }
          else s
        .next (t.giveHalf r (data, x))

/-- The read of a bypassed partial write of a burst reports what it finds there (R258, R263). -/
def State.rmwReport (s : State) (w : DWrite) (c ofs : Nat) : State :=
  let part (h : Nat) : Bool :=
    let b := (w.data.drop (64 * h)).take 64
    b.any (fun x => x.isSome) && b.any (fun x => x.isNone)
  s.forEach ((List.range 2).filter part) (fun h t =>
    let o := ofs + 64 * h
    match burstResult ((t.ddr c).burst o) (t.markOf c (t.rankOf o)) with
    | 3 => (t.ddrCorrected c o false).markDevice c (t.rankOf o)
    | 1 => ((t.ddrBit c DDR_STATUS.UE).inc (DDR_ERR_CNT.UE c)).raiseSrc 0x17B { ctx0 with addr := some o, port := 12, access := 5, detail := c }
    | _ => t)

/-- The oldest write pending on channel `c` that `p` accepts is answered there. -/
def State.writeBack (s : State) (c : Nat) (p : DWrite → Bool) : State :=
  match s.dram.writes.findIdx? (fun w => w.pend.any (fun q => q.1 == c) && p w) with
  | none => s
  | some i =>
    match s.dram.writes[i]? with
    | none => s
    | some w =>
      let ofs := ((w.pend.find? (fun q => q.1 == c)).map (fun q => q.2)).getD 0
      let t := (s.rmwReport w c ofs).applyWrite w c ofs
      let rest := w.pend.filter (fun q => q.1 != c)
      if rest.isEmpty then
        (t.updDram (fun d => { d with writes := d.writes.eraseIdx i })).writeAnswered w
      else t.updDram (fun d => { d with writes := listModify d.writes i (fun x => { x with pend := rest }) })

/-- VICTIM_WRITEBACK_DONE: a victim write-back is answered by a channel; the last answer frees its entry (R254, R266). -/
def execVictimWritebackDone (c : Fin 2) (s : State) : Res := .next ((s.writeBack c.val DWrite.isVictim).drainStep)

/-- DDR_WRITE_COMPLETE: the oldest other write, or a write with a mirror copy, is answered by a channel (R266). -/
def execDdrWriteComplete (c : Fin 2) (s : State) : Res :=
  .next ((s.writeBack c.val (fun w => !w.isVictim || decide (2 ≤ w.pend.length))).drainStep)

/-! ### Channel faults (R262, R265, R269) -/

/-- DDR_WRITE_CRC_ALERT: the oldest write on a channel is retried up to three times; a fourth failure fences the channel. -/
def execDdrWriteCrcAlert (c : Fin 2) (s : State) : Res :=
  match s.dram.writes.findIdx? (fun w => w.pend.any (fun q => q.1 == c.val)) with
  | none => .next s
  | some i =>
    let n := ((s.dram.writes[i]?).map (fun w => w.tries)).getD 0
    let t := s.ddrBit c.val DDR_STATUS.WCRC
    if 3 ≤ n then .next (t.fenceDdr c.val)
    else .next (t.updDram (fun d => { d with writes := listModify d.writes i (fun x => { x with tries := x.tries + 1 }) }))

/-- DDR_REFRESH: an all-bank refresh of a trained channel that is not in self-refresh (R262). -/
def execDdrRefresh (c : Fin 2) (s : State) : Res :=
  if !(s.ddr c.val).trained || s.ddrFenced c.val || s.on (DDR_STATUS.SELF_REFRESH c.val) then .next s
  else .next ((s.updDram (fun d => { d with refreshes := listModify d.refreshes c.val (fun n => n + 1) })).emit (.ddrRefresh c.val))

/-- PATROL_READ: the patrol reads its next burst, corrects and rewrites it (R265); a new pass clears the device counts. -/
def execPatrolRead (c : Fin 2) (upsets : List (Nat × Nat)) (s : State) : Res :=
  if s.rd DDR_PATROL_CFG.PATROL_HOURS = 0 ∨ !s.dramPresent c.val ∨ s.ddrFenced c.val ∨ !(s.ddr c.val).trained then .next s
  else
    let ofs := 64 * (s.ddr c.val).patrol
    let s := s.updDdr c.val (fun d => d.upset ofs upsets)
    let b := (s.ddr c.val).burst ofs
    let rank := s.rankOf ofs
    let s := match burstResult b (s.markOf c.val rank) with
      | 3 =>
        let t := ((s.ddrBit c.val DDR_STATUS.CE).inc (DDR_ERR_CNT.CE c.val)).chargeDev c.val ofs
        let t := t.raiseSrc (0x179 + c.val) { ctx0 with addr := some ofs, port := 12, access := 4, detail := c.val }
        let t := t.updDdr c.val (fun d => { d with bursts := sparseSet DBurst.blank d.bursts (ofs / 64) DBurst.blank })
        t.markDevice c.val rank
      | 1 =>
        ((s.ddrBit c.val DDR_STATUS.UE).inc (DDR_ERR_CNT.UE c.val)).raiseSrc 0x17B
          { ctx0 with addr := some ofs, port := 12, access := 4, detail := c.val }
      | _ => s
    let last := decide (s.dramCap ≤ ofs + 64)
    .next (s.updDdr c.val (fun d => { d with patrol := if last then 0 else d.patrol + 1, devCnt := if last then [] else d.devCnt }))

/-- DDR_FENCE_CMD: a write of the mask fences the named channels (R269). -/
def execDdrFenceCmd (mask : BitVec 2) (s : State) : Res :=
  .next (s.forEach [0, 1] (fun c t => if bitOf mask.toNat c && t.dramPresent c then t.fenceDdr c else t))

end Sys2Proof.Machine
end

