-- ==== Sys2Proof/Machine/Code.lean ====
section
/-! DEFINITION. The code of chapter 04 and 05: the QC-LDPC encoder and its checks (R83, R84, R108), the scrambler (R109), and the bits
that a stream writes with their precompensated transitions (R36, R37, R110). -/

namespace Sys2Proof.Machine

/-! ### Encoding and scrambling (R108, R109) -/

/-- A 128-bit block rotated right by `k`: bit i of the result is bit (i + k) mod 128. -/
def rotBlock (x k : Nat) : Nat := (x / 2 ^ (k % 128) + x * 2 ^ (128 - k % 128)) % 2 ^ 128

/-- The block row and shift of information column `c` in its k-th entry (R108). -/
def infoEntry (c k : Nat) : Nat × Nat :=
  ((c + 11 * k) % 33, ([1, 37, 91].getD k 0 * c + [0, 19, 57].getD k 0) % 128)

/-- Adds the information contributions of column `c` holding block `u` to the 33 row sums. -/
def addColumn (rows : List Nat) (c u : Nat) : List Nat :=
  [0, 1, 2].foldl (fun rs k => listModify rs (infoEntry c k).1 (fun v => v ^^^ rotBlock u (infoEntry c k).2)) rows

/-- The row sums of the information blocks of a payload. -/
def rowSums (payload : Nat) : List Nat :=
  (List.range 257).foldl (fun rs c => addColumn rs c (payload / 2 ^ (128 * c) % 2 ^ 128)) (List.replicate 33 0)

/-- The staircase blocks p1, p2, … from the row sums of rows `r` on, with the block before in `p` (R108). -/
def staircase (p0 : Nat) : List Nat → Nat → Nat → List Nat
  | [], _, _ => []
  | v :: vs, r, p =>
    let q := if r = 0 then v ^^^ rotBlock p0 1 else if r = 16 then v ^^^ p ^^^ p0 else v ^^^ p
    q :: staircase p0 vs (r + 1) q

/-- The 33 parity blocks: p0 is the sum of every row, then the staircase (R108). -/
def parityBlocks (rows : List Nat) : List Nat :=
  let p0 := rows.foldl (fun a v => a ^^^ v) 0
  p0 :: staircase p0 (rows.take 32) 0 p0

/-- The codeword of a payload of 4,112 bytes, bit 0 first (R35, R108). -/
def ldpcEncode (payload : List Byte) : Nat :=
  let u := leValue payload
  (parityBlocks (rowSums u)).foldr (fun b a => b + 2 ^ 128 * a) 0 * 2 ^ 32896 + u

/-- One step of the scrambler generator x^16 + x^14 + x^13 + x^11 + 1 (R109). -/
def scrStep (x : Nat) : Nat :=
  let b := bitOf x 0 != (bitOf x 2 != (bitOf x 3 != bitOf x 5))
  x / 2 + 2 ^ 15 * b2n b

/-- The first `n` bits of the scrambling sequence from generator state `x`, bit 0 first. -/
def scrBits : Nat → Nat → Nat
  | 0, _ => 0
  | n + 1, x => x % 2 + 2 * scrBits n (scrStep x)

/-- The scrambled channel bits of a sector (R109). -/
def channelBits (payload : List Byte) : Nat := ldpcEncode payload ^^^ scrBits 37120 0xACE1

/-! ### Checks (R83, R84) -/

/-- The 33 block rows of the syndrome of a word of 37,120 bits (R108). -/
def syndromeRows (word : Nat) : List Nat :=
  let p (j : Nat) : Nat := word / 2 ^ (32896 + 128 * j) % 2 ^ 128
  let p0 := p 0
  ((List.range 33).zip (rowSums (word % 2 ^ 32896))).map (fun (r, v) =>
    v ^^^ (if r = 0 ∨ r = 32 then rotBlock p0 1 else if r = 16 then p0 else 0) ^^^ (if r < 32 then p (r + 1) else 0) ^^^
      (if 1 ≤ r then p r else 0))

/-- The ones among the low `n` bits. -/
def onesOf (x : Nat) : Nat → Nat
  | 0 => 0
  | n + 1 => onesOf x n + b2n (bitOf x n)

/-- The syndrome weight of a word: its unsatisfied checks, from 0 to 4,224 (R84). -/
def syndromeWeight (word : Nat) : Nat := ((syndromeRows word).map (fun v => onesOf v 128)).foldl (· + ·) 0

/-- The hard decisions on LLRs by codeword bit; an LLR of 0 is taken as bit 0 (R84). -/
def hardBits (llrs : List Int) : Nat := llrs.foldr (fun v a => b2n (decide (v < 0)) + 2 * a) 0

/-- LLRs of codeword bits from those of channel bits: the sign of each LLR whose scrambler bit is 1 is inverted (R109). -/
def unscramble (llrs : List Int) : List Int :=
  let q := scrBits llrs.length 0xACE1
  ((List.range llrs.length).zip llrs).map (fun (k, v) => if bitOf q k then -v else v)

/-! ### The written stream of a fragment (R36 to R38, R110) -/

/-- `n` bits of the 2T pattern 0011 repeated (R36). -/
def pattern2T (n : Nat) : List Bool := (List.range n).map (fun i => decide (2 ≤ i % 4))

/-- The 40 bits of a mark, most significant first (R37). -/
def markBits (m : Nat) : List Bool := (List.range 40).map (fun i => bitOf m (39 - i))

/-- The channel bits of codeword bits `lo` to `hi` - 1. -/
def streamBits (bits lo hi : Nat) : List Bool := (List.range (hi - lo)).map (fun i => bitOf bits (lo + i))

/-- The bits of one fragment, from its preamble to its postamble: a first fragment carries the primary and the rescue mark, a later one
the fragment mark (R36, R38). `marks` are the primary, rescue and fragment patterns. -/
def fragmentBits (len : Nat) (marks : Nat × Nat × Nat) (bits lo hi : Nat) : List Bool :=
  if lo = 0 then
    pattern2T len ++ markBits marks.1 ++ streamBits bits 0 280 ++ markBits marks.2.1 ++ streamBits bits 280 hi ++ pattern2T 24
  else pattern2T len ++ markBits marks.2.2 ++ streamBits bits lo hi ++ pattern2T 24

/-- The transitions of a stream in 1/64 bit from its first bit: one that follows a transition one bit before it comes PC1 earlier, one
that follows a transition two bits before it PC2 earlier (R110). `last` is the bit before, `at_` its number and `prev` the number of the
last transition. -/
def transitions (pc1 pc2 : Nat) : List Bool → Bool → Nat → Option Nat → List Nat
  | [], _, _, _ => []
  | b :: bs, last, at_, prev =>
    if b = last then transitions pc1 pc2 bs b (at_ + 1) prev
    else
      let early := match prev with
        | some q => if q + 1 = at_ then pc1 else if q + 2 = at_ then pc2 else 0
        | none => 0
      (64 * at_ - early) :: transitions pc1 pc2 bs b (at_ + 1) (some at_)

/-- The transitions of a fragment's stream. -/
def streamTransitions (pc1 pc2 : Nat) : List Bool → List Nat
  | [] => []
  | b :: bs => transitions pc1 pc2 bs b 1 none

end Sys2Proof.Machine
end

