-- ==== Sys2Proof/Machine/Servo.lean ====
section
/-! DEFINITION. Servo demodulation (chapter 07): the wedge result of one head (R155 to R164), its servo state (R167), the
timing reference and skews (R157, R165). -/

namespace Sys2Proof.Machine
open Reg

/-! ### Servo bit time (R153) -/

/-- The skew limit in units of 0.04 ns (R157): the smaller of 600 ns and 850 ns less 72 servo bits. -/
def State.skewLimit (s : State) : Int := min 15000 (21250 - s.servoBits 72)

/-- Shows SKEW in FCLK ticks (R169). -/
def State.showSkew (s : State) (h : Nat) : State := s.wrS (SRV_SKEW.SKEW h) (asr (s.srvHead h).skew 14)

/-! ### Decoding (R154, R160, R161) -/

/-- Gray to binary over 24 bits. -/
def grayToBin (g : Nat) : Nat :=
  let a := g ^^^ (g / 2)
  let b := a ^^^ (a / 4)
  let c := b ^^^ (b / 16)
  let d := c ^^^ (c / 256)
  d ^^^ (d / 65536)

/-- Parity of the bits of `x` whose index is i modulo 4, below bit `n`. -/
def parityMod4 (x i : Nat) : Nat → Bool
  | 0 => false
  | n + 1 => (bitOf x n && n % 4 == i) != parityMod4 x i n

/-- The ID parity holds (R154). -/
def idParityOk (wedge id parity : Nat) : Bool :=
  [0, 1, 2, 3].all (fun i => parityMod4 (wedge * 2 ^ 24 + id) i 34 == bitOf parity i)

/-! ### Position (R162) -/

/-- Rounds a quotient to the nearest integer, halves upward (log entry 26). -/
def roundDiv (a b : Int) : Int := (2 * a + b) / (2 * b)

/-- The offset from the centre of track `t`, in 1/4,096 track (R162), for d > 0. -/
def burstOffset (gain : Nat) (t bn bq : Int) : Int :=
  let n := if t % 2 = 0 then bn else -bn
  let d : Int := ((n.natAbs + bq.natAbs : Nat) : Int)
  let f2d : Int := if n.natAbs ≤ bq.natAbs then n else (if 0 < n then 1 else -1) * (d - (bq.natAbs : Int))
  roundDiv (f2d * 4096 * (gain : Int)) (2 * d * 16384)

/-- Of `d`, `d − 1` and `d + 1`, the track whose position lies nearest the predicted position (R161). -/
def nearestTrack (gain : Nat) (pred d bn bq : Int) : Int :=
  let dist (t : Int) : Nat := (4096 * t + burstOffset gain t bn bq - pred).natAbs
  let b := if dist (d - 1) < dist d then d - 1 else d
  if dist (d + 1) < dist b then d + 1 else b

/-! ### The timing reference (R165) -/

/-- The timing reference, when one is in force. -/
def State.tref (s : State) : Option Nat := if s.on SRV_TREF.VALID then some (s.rd SRV_TREF.HEAD) else none

/-- The head that R165 chooses: the lowest eligible in LOCK, else the lowest in MISS or INHIBIT. -/
def State.chooseTref (s : State) : Option Nat :=
  let ok (h : Nat) : Bool := s.on (SRV_CFG.TREF_OK h) && decide ((s.skewOf h).natAbs ≤ s.skewLimit.toNat)
  match s.allHeads.find? (fun h => ok h && s.srvState h == 2) with
  | some h => some h
  | none => s.allHeads.find? (fun h => ok h && (s.srvState h == 3 || s.srvState h == 4))

/-- Takes head `r` as timing reference: its SKEW is subtracted from every head's, so the edge does not move (R165), and it is 0 by definition
(R157). -/
def State.takeTref (s : State) (r : Nat) : State :=
  let k := (s.srvHead r).skew
  let t := s.forEach s.allHeads (fun h t => (t.updSrv h (fun u => { u with skew := u.skew - k })).showSkew h)
  t.wrs [(SRV_TREF.HEAD, r), (SRV_TREF.VALID, 1), (SRV_WEDGE.LOCKED, 1)]

/-- The reference has gone: another takes over, or there is none (R165). -/
def State.trefHandover (s : State) : State :=
  match s.chooseTref with
  | some r => (s.takeTref r).raiseBit SRV_GSTATUS.TREF_HANDOVER SRV_INT_EN
  | none => (s.wrs [(SRV_TREF.VALID, 0), (SRV_WEDGE.LOCKED, 0)]).raiseBit SRV_GSTATUS.TREF_NONE SRV_INT_EN

/-- The reference is out of LOCK, MISS and INHIBIT, or its demodulator is fenced (R165, R460). -/
def State.trefGone (s : State) : Bool :=
  match s.tref with
  | none => false
  | some r => let st := s.srvState r; !(st == 2 || st == 3 || st == 4) || s.isFenced (.srv (Fin.ofNat 24 r))

/-- Chooses a timing reference where there is none and one qualifies. -/
def State.findTref (s : State) : State :=
  if s.tref.isSome then s
  else match s.chooseTref with
    | some r => s.takeTref r
    | none => s

/-! ### Skews (R157) -/

/-- Updates SKEW of head `h` from its mark and the reference's, both accepted in this bell. -/
def State.skewUpdate (s : State) (h : Nat) (sam refSam : Int) : State :=
  let t := s.updSrv h (fun u => { u with skew := u.skew + asr ((sam - refSam) * 1024 - u.skew) (s.rd SRV_BT_CFG.SKEW_SHIFT) })
  let t := t.showSkew h
  t.when (decide (s.skewLimit < ((t.skewOf h).natAbs : Int))) (fun t => t.setB (SRV_STATUS.SKEW_RANGE h))

/-- With the result of head `h` in, the skews that now have both marks are updated. -/
def State.skewUpdates (s : State) (h : Nat) : State :=
  match s.tref with
  | none => s
  | some r =>
    let got := s.srv.results.filter (fun x => x.accepted)
    match got.find? (fun x => x.head == r) with
    | none => s
    | some y =>
      if h = r then s.forEach (got.filter (fun x => x.head != r)) (fun x t => t.skewUpdate x.head x.sam y.sam)
      else match got.find? (fun x => x.head == h) with
        | none => s
        | some x => s.skewUpdate h x.sam y.sam

/-! ### Write-unsafe conditions of a wedge (R124) -/

/-- Off-track: the head's gate drops while |PE| exceeds the threshold (R124, R163). -/
def State.offTrackStart (s : State) (h : Nat) : State :=
  let t := s.updHead h (fun u => { u with offTrack := true, offRun := 0 })
  (t.dropGate true h).wrpBits [h] WRP_STATUS.OFFTRACK

/-- The missed-mark condition starts (R124, R167). -/
def State.samMissStart (s : State) (h : Nat) : State :=
  let t := s.updHead h (fun u => { u with samMiss := true })
  (t.dropGate true h).wrpBits [h] WRP_STATUS.SAM_MISS

/-- The servo write inhibition of head `h` (R167). -/
def State.servoInhibit (s : State) (h : Nat) (on : Bool) : State :=
  (s.setInh h (fun u => { u with inhServo := on })).wr (SRV_STATUS.INHIBIT h) (b2n on)

/-! ### Servo states (R167) -/

/-- A head reaches LOCK: its sequencer lane stands at the region that this bell's window plans, that of the next wedge (R130, R132). -/
def State.lockHead (s : State) (h : Nat) : State :=
  let r := ((s.srvHead h).wedge + 1) % s.sys.cfg.wedges
  let t := s.wrs [(SRV_STATUS.STATE h, 2), (SRV_STATUS.MISS_RUN h, 0)]
  let t := t.updLane h (fun l =>
    if r = 0 then { l with region := r, ofs := 0, snum := 0, cw := 0, frags := 0 } else { l with region := r })
  t.showLoaded.findTref

/-- A missed wedge (R167). -/
def State.missedWedge (s : State) (h : Nat) : State :=
  let run := min 7 (s.rd (SRV_STATUS.MISS_RUN h) + 1)
  let t := s.inc (SRV_CNT.MISSED h)
  let t := t.updSrv h (fun u => { u with recov := 0, reacqRun := 0 })
  let t := t.updHead h (fun u => { u with offRun := 0 })
  match s.srvState h with
  | 2 => (t.wrs [(SRV_STATUS.STATE h, 3), (SRV_STATUS.MISS_RUN h, 1)]).samMissStart h
  | 3 => (t.wrs [(SRV_STATUS.STATE h, 4), (SRV_STATUS.MISS_RUN h, 2)]).servoInhibit h true
  | _ => t.wr (SRV_STATUS.MISS_RUN h) run

/-- A valid wedge of a head in LOCK, MISS, INHIBIT or reacquiring (R167). -/
def State.validWedge (s : State) (h : Nat) (pe : Int) : State :=
  let t := s.updSrv h (fun u => { u with recov := u.recov + 1, reacqRun := if u.reacq then u.reacqRun + 1 else 0 })
  let t := t.updHead h (fun u => { u with samMiss := false })
  let t := if s.srvState h = 3 ∨ s.srvState h = 4 then t.lockHead h else t.wr (SRV_STATUS.MISS_RUN h) 0
  if 16 * s.rd (WRP_CTRL.OTW_THRESH h) < pe.natAbs then t.offTrackStart h
  else t.updHead h (fun u => { u with offRun := u.offRun + 1 })

/-- A candidate of R159: two of them one measured wedge period apart lock a hunting head, or start the REACQ run of a lost one. Their marks lie one
period apart within SAM_WIN; the edges from which they are measured lie `lead` further apart. -/
def State.candidate (s : State) (h : Nat) (sam : Int) (wedge : Nat) : State :=
  let u := s.srvHead h
  let w := s.sys.cfg.wedges
  let second := match u.cand with
    | none => false
    | some (b, x, k) => decide (b + 1 = s.bell) && decide ((k + 1) % w = wedge % w) &&
        decide (((sam - x + s.srv.lead).natAbs : Int) ≤ s.servoBits (s.rd SRV_WIN_CFG.SAM_WIN))
  let t := s.updSrv h (fun u => { u with cand := some (s.bell, sam, wedge), wedge := wedge })
  if !second then t
  else if s.srvState h = 1 then
    ((t.updSrv h (fun u => { u with cand := none, recov := 1 })).servoInhibit h true).lockHead h
  else t.updSrv h (fun u => { u with cand := none, reacq := true, reacqRun := 1 })

/-! ### The wedge result (R164) -/

/-- The reader of the servo samples (R155): the other one when the configured reader is lost; READER_SWITCH is set at the change. -/
def State.servoReader (s : State) (h : Nat) : State :=
  let lost := if s.on (SRV_CFG.READER h) then s.on (WRP_STATUS.READER_B_LOST h) else s.on (WRP_STATUS.READER_A_LOST h)
  let other := lost && decide (s.sys.cfg.readers = 2)
  if other == (s.srvHead h).switched then s
  else
    let t := s.updSrv h (fun u => { u with switched := other })
    if other then t.setB (SRV_STATUS.READER_SWITCH h) else t

/-! ### The fields of a servo region (R153, R154) -/

/-- The servo bit at place `i` of those taken; beyond them the manual gives none (false). -/
def wedgeBit (m : WedgeMeas) (i : Nat) : Bool := m.bits.getD i false

/-- The number that `n` servo bits from place `i` spell, most significant bit first. -/
def wedgeWord (m : WedgeMeas) (i n : Nat) : Nat := (List.range n).foldl (fun x k => 2 * x + b2n (wedgeBit m (i + k))) 0

/-- A data bit from its two servo bits: 10 is a 1 and 01 a 0 (R154). The manual gives 00 and 11 no value: free (log entry 152). -/
def dibit (a b : Bool) : Bool := if a == b then Config.badDibit a else a

/-- The number that `n` dibit-coded data bits from place `i` spell, most significant bit first. -/
def wedgeCoded (m : WedgeMeas) (i n : Nat) : Nat :=
  (List.range n).foldl (fun x k => 2 * x + b2n (dibit (wedgeBit m (i + 2 * k)) (wedgeBit m (i + 2 * k + 1)))) 0

/-- The Hamming distance of two words of 16 servo bits. -/
def hamming16 (x y : Nat) : Nat := onesOf (x ^^^ y) 16

/-- The distance from the address mark pattern at every place where 16 servo bits have been taken (R158). -/
def wedgeDist (m : WedgeMeas) (pattern : Nat) : List Nat :=
  (List.range (m.bits.length - 15)).map (fun i => hamming16 (wedgeWord m i 16) pattern)

/-- What the fields of a servo region spell, from the place of its address mark: wedge number, track ID, ID parity, the distance of the RRO sync,
correction and check. -/
structure WedgeFields where
  wedge : Nat
  id : Nat
  parity : Nat
  rroDist : Nat
  rro : Nat
  rroCheck : Nat
deriving DecidableEq, Repr

/-- The fields behind an address mark at place `i`, at their places in the region: the mark lies at servo bit 160 (R153). -/
def wedgeFields (m : WedgeMeas) (i : Nat) : WedgeFields where
  wedge := wedgeCoded m (i + 16) 10
  id := wedgeCoded m (i + 36) 24
  parity := wedgeCoded m (i + 84) 4
  rroDist := hamming16 (wedgeWord m (i + 636) 16) 0xF0A5
  rro := wedgeCoded m (i + 652) 16
  rroCheck := wedgeCoded m (i + 684) 4

/-- The best position of a search: the least distance, the earliest among equals, of the positions that satisfy `p`. -/
def bestMark (p : Int → Bool) : List Nat → Int → Option (Int × Nat) → Option (Int × Nat)
  | [], _, b => b
  | d :: ds, k, b =>
    bestMark p ds (k + 1) (if !p k then b else match b with
      | none => some (k, d)
      | some (_, d') => if d < d' then some (k, d) else b)

/-- Demodulates one wedge of head `h` (R155 to R164). -/
def State.demodulate (s : State) (h : Nat) (m : WedgeMeas) : State :=
  let s := s.servoReader h
  let st := s.srvState h
  let u := s.srvHead h
  let hasCh := (s.chanOfHead h).isSome && !u.cut
  let win : Int := s.rd SRV_WIN_CFG.SAM_WIN
  let tracking := st == 2 || st == 3 || st == 4
  let locked := s.on SRV_WEDGE.LOCKED
  let inWin (k : Int) : Bool :=
    if tracking then decide (-win ≤ k) && decide (k ≤ win)
    else if locked then decide (-4 * win ≤ k) && decide (k ≤ 4 * win) else true
  let best := bestMark inWin (wedgeDist m (s.rd SRV_SAM_PAT.PATTERN)) m.first none
  let acc := hasCh && (match best with | some (_, d) => decide (d ≤ s.rd SRV_WIN_CFG.SAM_TOL) | none => false)
  let place := (best.map (fun b => b.1)).getD 0
  let f := wedgeFields m (place - m.first).toNat
  let pred := s.servoBits (-620) + s.skewOf h
  let sam := if acc then pred + s.servoBits place else pred
  let w := s.sys.cfg.wedges
  let predW := (u.wedge + 1) % w
  let following := tracking || (st == 5 && u.reacq)
  let wedgeBad := acc && (decide (w ≤ f.wedge) || (following && f.wedge != predW))
  let pt := s.predTrack h
  let dec : Int := grayToBin f.id
  let far := s.loopState (h / 6) == 1 && decide (s.rd SRV_WIN_CFG.ID_WIN < (dec - pt).natAbs)
  let idBad := acc && (!idParityOk f.wedge f.id f.parity || far)
  let d := m.burstN.natAbs + m.burstQ.natAbs
  let burstLow := acc && decide (d < s.rd SRV_AMP_CFG.AMP_MIN)
  let skewRange := decide (s.skewLimit < ((s.skewOf h).natAbs : Int))
  -- Ready 150 ns after the RRO data, 692 servo bits after the mark: later than 1,000 ns is LATE (R164, R167).
  let late := acc && decide (25000 < sam + s.servoBits 692 + 3750)
  let missed := !acc || wedgeBad || burstLow || late || skewRange
  let gain := s.rd (SRV_CFG.PES_GAIN h)
  let t0 := nearestTrack gain (s.headRef h) (if idBad then pt else dec) m.burstN m.burstQ
  let rroBad := acc && (decide (2 < f.rroDist) || crc4 f.rro 16 0 != f.rroCheck)
  let rro : Int := if s.on (SRV_CFG.RRO_EN h) && !rroBad then sext 16 f.rro else 0
  let pe := satS 32 (4096 * t0 + burstOffset gain t0 m.burstN m.burstQ - rro - s.headRef h)
  -- A head in LOST delivers its position only with REACQ set (R168).
  let deliver := !missed && (st != 5 || u.reacq)
  -- Flags and counters.
  let t := s.when (!acc) (fun t => t.setB (SRV_STATUS.SAM_MISS h))
  let t := t.when wedgeBad (fun t => t.setB (SRV_STATUS.WEDGE_BAD h))
  let t := t.when idBad (fun t => (t.setB (SRV_STATUS.ID_BAD h)).inc (SRV_CNT.ID_BAD h))
  let t := t.when burstLow (fun t => t.setB (SRV_STATUS.BURST_LOW h))
  let t := t.when rroBad (fun t => (t.setB (SRV_STATUS.RRO_BAD h)).inc (SRV_CNT.RRO_BAD h))
  let t := t.when late (fun t => t.setB (SRV_STATUS.LATE h))
  let t := t.when skewRange (fun t => t.setB (SRV_STATUS.SKEW_RANGE h))
  let t := t.updSrv h (fun u =>
    { u with wedge := if missed then predW else f.wedge, pe := if deliver then pe else u.pe,
             track := if deliver then t0.toNat else u.track, cut := false })
  let v := t.srvHead h
  let r : WRes := { head := h, sam := sam, accepted := acc, valid := !missed, reacq := st == 5 && u.reacq && !missed,
                    drStart := sam + s.servoBits 800, pe := v.pe, track := v.track, wedge := v.wedge,
                    flags := bitMask [!acc, wedgeBad, idBad, burstLow, rroBad, late, skewRange, v.switched] }
  let t : State := { t with srv := { t.srv with results := t.srv.results ++ [r] } }
  let t := t.wrs [(SRV_ID.TRACK h, v.track), (SRV_ID.DIST h, if missed then 31 else (best.map (fun b => b.2)).getD 31)]
  let t := t.wrS (SRV_PE.PE h) v.pe
  let t := if s.tref = some h then t.wr SRV_WEDGE.WEDGE v.wedge else t
  let t := if missed then t.missedWedge h
    else if following then t.validWedge h pe
    else
      let t := t.wr (SRV_STATUS.MISS_RUN h) 0
      if idBad then t else t.candidate h sam f.wedge
  t.skewUpdates h

/-- WEDGE_RESULT: the one result of a loaded head in a bell; none in RIDE-THROUGH, where the demodulators are off (R433). -/
def execWedgeResult (h : Head) (m : WedgeMeas) (s : State) : Res :=
  .next (
    if !s.headLoaded h || !s.on (SRV_CFG.EN h) || !s.on SRV_CTRL.EN || s.isFenced (.srv h) || s.drivesOff ||
       s.srv.results.any (fun r => r.head == h.val) then s
    else s.demodulate h m)

/-- SERVO_LOST: the fourth consecutive missed wedge (R167, R168): LOST, counted; the trim loop holds; the timing reference
hands over when it was this head. The coarse loop hands over in its next slot (R173). -/
def execServoLost (h : Head) (s : State) : Res :=
  .next (
    if s.srvState h = 4 ∧ 4 ≤ s.rd (SRV_STATUS.MISS_RUN h) then
      let t := (s.wr (SRV_STATUS.STATE h) 5).inc (SRV_CNT.LOSSES h)
      let t := t.updSrv h (fun u => { u with cand := none, reacq := false, reacqRun := 0 })
      let t := t.when (t.loopState (4 + h) == 1) (fun t => t.wr (CTL_STATUS.STATE (4 + h)) 2)
      let t := t.showLoaded
      if t.tref = some h.val then t.trefHandover else t
    else s)

/-- SERVO_REACQUIRED: REACQ valid wedges in a row with REACQ set return the head to LOCK, its inhibition held; its trim loop
resumes from HOLD (R167, R174). -/
def execServoReacquired (h : Head) (s : State) : Res :=
  .next (
    let u := s.srvHead h
    if s.srvState h = 5 ∧ u.reacq ∧ s.rd SRV_LOSS_CFG.REACQ ≤ u.reacqRun then
      let t := s.updSrv h (fun u => { u with reacq := false, reacqRun := 0, recov := 0 })
      let t := (t.servoInhibit h true).lockHead h
      t.when (t.loopState (4 + h) == 2) (fun t => t.wr (CTL_STATUS.STATE (4 + h)) 1)
    else s)

/-- WRITE_INHIBIT_CLEAR: WRITE_RECOVER consecutive valid wedges end the servo write inhibition (R167). -/
def execWriteInhibitClear (h : Head) (s : State) : Res :=
  .next (if s.srvState h = 2 ∧ (s.head h).inhServo ∧ s.rd SRV_LOSS_CFG.WRITE_RECOVER ≤ (s.srvHead h).recov then s.servoInhibit h false else s)

/-- OFF_TRACK_CLEAR: two consecutive wedges within OTW_THRESH (R124). -/
def execOffTrackClear (h : Head) (s : State) : Res :=
  .next (if (s.head h).offTrack ∧ 2 ≤ (s.head h).offRun then s.updHead h (fun u => { u with offTrack := false, offRun := 0 }) else s)

/-- SPEED_ERROR_CLEAR: eight consecutive bells within ±0.05 % (R124). -/
def execSpeedErrorClear (s : State) : Res :=
  .next (if s.wrp.speedErr ∧ 8 ≤ s.wrp.speedRun then s.updWrp (fun w => { w with speedErr := false, speedRun := 0 }) else s)

end Sys2Proof.Machine
end

