-- ==== Sys2Proof/Machine/Control.lean ====
section
/-! DEFINITION. The control engine (chapter 08): the loop computation of a bell (R172 to R183), oscillation detectors (R187),
the two lanes (R188 to R190) and the loop commands (R191). -/

namespace Sys2Proof.Machine
open Reg

/-! ### One loop (R179, R187) -/

/-- The states and output of a loop after its slot. -/
structure LoopOut where
  loop : CtlLoop
  out : Int
  sats : Nat

/-- The biquads of a loop (R179): signal, states from biquad `b` on, saturations. -/
def biquads (cf : Nat → Int × Nat) : Nat → Nat → Int → List Int → List Int → List Int → List Int → Nat →
    Int × List Int × List Int × List Int × List Int × Nat
  | 0, _, x, x1, x2, y1, y2, k => (x, x1, x2, y1, y2, k)
  | n + 1, b, x, x1, x2, y1, y2, k =>
    let c (i : Nat) : Int × Nat := cf (5 * b + i)
    let y := mac (c 0) x + mac (c 1) (x1.getD b 0) + mac (c 2) (x2.getD b 0) - mac (c 3) (y1.getD b 0) - mac (c 4) (y2.getD b 0)
    let (z, k) := sat32 y k
    biquads cf n (b + 1) z (listSet x1 b x) (listSet x2 b (x1.getD b 0)) (listSet y1 b z) (listSet y2 b (y1.getD b 0)) k

/-- The oscillation detector of a loop on its error (R187); the saturation of its output is counted (R178). -/
def State.detect (s : State) (n : Nat) (e0 : Int) : State :=
  let l := s.loop n
  let f (w : Nat) : Int × Nat := s.coefW n 16 w
  let g (i : Nat) : Int := l.det.getD i 0
  let (y, k) := sat32 (mac (f 0) e0 + mac (f 1) (g 0) + mac (f 2) (g 1) - mac (f 3) (g 2) - mac (f 4) (g 3)) 0
  let p := asr (min (y * y) (2 ^ 40)) 8
  let t := s.updLoop n (fun l =>
    { l with det := [e0, g 0, y, g 2], energy := l.energy + asr (p - l.energy) (s.rd (CTL_OSC_CFG.OSC_SHIFT n)) })
  t.addC (CTL_CNT.SATURATIONS n) k

/-- The error of loop `n` in this slot: saturated to 32 bits, counted, shown, and filtered by the detector (R178, R187). In a slot that brings no
error the detector filters the last one again (DEDUCED, log entry 153). -/
def State.slotError (s : State) (n : Nat) (e : Option Int) : State × Int :=
  match e with
  | some z =>
    let (e0, k) := sat32 z 0
    (((s.addC (CTL_CNT.SATURATIONS n) k).wrS (CTL_ERR.ERR n) e0).detect n e0, e0)
  | none => (s.detect n (s.rdS (CTL_ERR.ERR n)), s.rdS (CTL_ERR.ERR n))

/-- The computation of a CLOSED loop with error `e0` and acceleration reference `aref` (R179); `pred` when the error is the
observer's prediction, so that the innovation is zero (R174). -/
def State.compute (s : State) (n : Nat) (e0 aref : Int) (pred : Bool) : LoopOut :=
  let l := s.loop n
  let set := s.rd (CTL_CFG.ACTIVE_SET n)
  let cf (w : Nat) : Int × Nat := s.coefW n set w
  let xh (i : Nat) : Int := l.xh.getD i 0
  let obs := s.on (CTL_CFG.OBS_EN n)
  let cx := mac (cf 70) (xh 0) + mac (cf 71) (xh 1) + mac (cf 72) (xh 2) + mac (cf 73) (xh 3)
  let (innov, k) := if pred || !obs then (0, 0) else sat32 (e0 - cx) 0
  let (x, k) := sat32 (mac (cf 40) e0) k
  let (x, x1, x2, y1, y2, k) := biquads cf (s.rd (CTL_CFG.NBQ n)) 0 x l.x1 l.x2 l.y1 l.y2 k
  let (i1, k) := sat32 (l.integ + mac (cf 42) x) k
  let integ := clampTo (cf 45).1 i1
  let (dx, k) := sat32 (x - l.xprev) k
  let (deriv, k) := sat32 (mac (cf 44) l.deriv + mac (cf 43) dx) k
  let u := mac (cf 41) x + integ + deriv
  let u := if obs then u - mac (cf 74) (xh 0) - mac (cf 75) (xh 1) - mac (cf 76) (xh 2) - mac (cf 77) (xh 3) else u
  let u := if s.on (CTL_CFG.FF_EN n) && !(decide (4 ≤ n) && decide (n < 28)) then u + mac (cf 78) aref else u
  let (u, k) := sat32 u k
  let u := clampTo (cf 79).1 u
  let row (i : Nat) : Int := mac (cf (46 + 4 * i)) (xh 0) + mac (cf (47 + 4 * i)) (xh 1) + mac (cf (48 + 4 * i)) (xh 2) +
    mac (cf (49 + 4 * i)) (xh 3) + mac (cf (62 + i)) u + mac (cf (66 + i)) innov
  let xs := [0, 1, 2, 3].map row
  let k := if obs then k + (xs.filter (fun z => decide (satS 32 z ≠ z))).length else k
  { loop := { l with xh := if obs then xs.map (satS 32) else l.xh, x1 := x1, x2 := x2, y1 := y1, y2 := y2, integ := integ,
                     deriv := deriv, xprev := x, prevErr := e0 },
    out := u, sats := k }

/-! ### The two lanes (R188 to R190) -/

/-- A lane is in service. -/
def State.laneOk (s : State) (l : Nat) : Bool := if l = 0 then s.on CTL_LANE_STAT.LANE0_OK else s.on CTL_LANE_STAT.LANE1_OK

/-- Both lanes are in service. -/
def State.twoLanes (s : State) : Bool := s.laneOk 0 && s.laneOk 1

/-- Sets a CTL_STATUS bit. -/
def State.ctlBit (s : State) (f : Fld) : State := s.raiseBit f CTL_INT_EN

/-- The switchover starts: the device's gates drop and stay closed (R190, R124). -/
def State.laneSwitchStart (s : State) : State :=
  let t := s.updWrp (fun w => { w with laneSwitch := true })
  ((t.dropGates false t.allHeads).wrpBits t.allHeads WRP_STATUS.LANE).setB CTL_LANE_STAT.SWITCHOVER

/-- The switchover ends. -/
def State.laneSwitchEnd (s : State) : State := (s.updWrp (fun w => { w with laneSwitch := false })).clr CTL_LANE_STAT.SWITCHOVER

/-- Fences lane `l` (R189, R190, R460). -/
def State.fenceLane (s : State) (l : Nat) : State :=
  if !s.laneOk l then s
  else
    let t := s.clr (if l = 0 then CTL_LANE_STAT.LANE0_OK else CTL_LANE_STAT.LANE1_OK)
    let t := ((t.setB CTL_LANE_STAT.SINGLE).ctlBit CTL_GSTATUS.LANE_FENCE).markFenced (.lane (Fin.ofNat 2 l))
    let t : State := { t with ctl := { t.ctl with soleBells := 0 } }
    (t.raiseSrc 0x0F1 { ctx0 with detail := l }).laneSwitchStart

/-- Counts a residue alarm of lane `l`; the third within 1,024 bells fences it (R189). -/
def State.resAlarm (s : State) (l : Nat) : State :=
  let recent := ((s.ctl.alarms.getD l []).filter (fun b => decide (s.bell < b + 1024))) ++ [s.bell]
  let t : State := { s with ctl := { s.ctl with alarms := listSet s.ctl.alarms l recent } }
  let t := ((t.inc CTL_LANE_CNT.ALARMS).ctlBit CTL_GSTATUS.RES_ALARM).raiseSrc 0x0F3 { ctx0 with detail := l }
  t.when (decide (3 ≤ recent.length) && s.twoLanes) (fun t => t.fenceLane l)

/-- Commits a loop's slot: states, output, counters; a trim loop then computes D_h and x_h (R171). -/
def State.commitLoop (s : State) (n : Nat) (r : LoopOut) : State :=
  let u := if 4 ≤ n ∧ n < 28 then satS 16 r.out else r.out
  let t := (s.updLoop n (fun _ => r.loop)).setOut n u
  t.addC (CTL_CNT.SATURATIONS n) r.sats

/-- A loop holds its previous output and states (R174, R189). -/
def State.holdLoop (s : State) (n : Nat) : State := (s.setB (CTL_STATUS.HELD n)).inc (CTL_CNT.HELD n)

/-- What lane `l` computes in a slot whose fault-free output is `u` (R188). -/
def laneOut (f : LaneFind) (l : Nat) (u : Int) : Int := ((if l = 0 then f.out0 else f.out1).map (fun v => v.toInt)).getD u

/-- The end of loop `n`'s slot (R189): commits, holds, or saves the computation for the retry in slot 31. Both lanes hold the states committed here:
they have compared equal, or those of the lane that is fenced are of no use. -/
def State.slotEnd (s : State) (x : LaneInputs) (n : Nat) (r : LoopOut) (saved : Option (Nat × LoopOut)) :
    State × Option (Nat × LoopOut) :=
  let again : Option (Nat × LoopOut) := match saved with | none => some (n, r) | some p => some p
  match x.finds.find? (fun f => f.loop.val == n) with
  | none => (s.commitLoop n r, saved)
  | some f =>
    let o0 := laneOut f 0 r.out
    let o1 := laneOut f 1 r.out
    if !s.twoLanes then
      -- An alarm on the sole lane is retried in slot 31 (R190).
      if (if s.laneOk 0 then f.alarm0 else f.alarm1) then (s.holdLoop n, again)
      else (s.commitLoop n { r with out := if s.laneOk 0 then o0 else o1 }, saved)
    else if o0 = o1 then
      let t := s.commitLoop n { r with out := o0 }
      let t := t.when f.alarm0 (fun t => t.resAlarm 0)
      (t.when f.alarm1 (fun t => t.resAlarm 1), saved)
    else if f.alarm0 != f.alarm1 then
      ((s.commitLoop n { r with out := if f.alarm0 then o1 else o0 }).fenceLane (if f.alarm0 then 0 else 1), saved)
    else ((s.holdLoop n).laneSwitchStart, again)

/-- CTL_LANES (R189, R190). -/
def State.lanesFatal (s : State) : State := s.raiseSrc 0x0F5 ctx0

/-- The known-answer test of both lanes, or the next vector (R189): a lane that fails alone is fenced; when both fail, or on
the decisive test neither does, CTL_LANES is raised. -/
def State.knownAnswer (s : State) (x : LaneInputs) (decisive : Bool) : State :=
  let t := s.when (!x.kat0 || !x.kat1) (fun t => (t.inc CTL_LANE_CNT.KAT_FAILS).ctlBit CTL_GSTATUS.KAT_FAIL)
  if s.twoLanes then
    if x.kat0 && !x.kat1 then t.fenceLane 1
    else if x.kat1 && !x.kat0 then t.fenceLane 0
    else if decisive || !x.kat0 then t.lanesFatal else t
  else
    let ok := if s.laneOk 0 then x.kat0 else x.kat1
    if ok && !decisive then t else t.lanesFatal

/-- Slot 31 (R189, R190): the known-answer test that an unresolved retry calls for, else the retry, else the next vector; then the end of a
switchover. -/
def State.slot31 (s : State) (x : LaneInputs) (saved : Option (Nat × LoopOut)) (soleFromStart : Bool) : State :=
  let t :=
    if s.ctl.katDue then (s.updCtl (fun c => { c with katDue := false })).knownAnswer x true
    else match saved with
    | some (n, r) =>
      let o0 := laneOut x.retry 0 r.out
      let o1 := laneOut x.retry 1 r.out
      if !s.twoLanes then
        (if (if s.laneOk 0 then x.retry.alarm0 else x.retry.alarm1) then s.lanesFatal
         else s.commitLoop n { r with out := if s.laneOk 0 then o0 else o1 })
      else if o0 = o1 then
        (((s.commitLoop n { r with out := o0 }).inc CTL_LANE_CNT.RETRIES).ctlBit CTL_GSTATUS.MISMATCH).raiseSrc 0x0F2 { ctx0 with detail := n }
          |>.laneSwitchEnd
      else if x.retry.alarm0 != x.retry.alarm1 then
        (s.commitLoop n { r with out := if x.retry.alarm0 then o1 else o0 }).fenceLane (if x.retry.alarm0 then 0 else 1)
      else s.updCtl (fun c => { c with katDue := true })
    | none => (s.updCtl (fun c => { c with katNext := (c.katNext + 1) % 32 })).knownAnswer x false
  if soleFromStart && t.on CTL_LANE_STAT.SWITCHOVER then t.laneSwitchEnd else t

/-! ### The slots (R183) -/

/-- Slot 0 for generator `g` (R186): the reference of this bell, and the profile's end. -/
def State.profSlot (s : State) (g : Nat) : State :=
  match s.ctl.profs.getD g none with
  | none => s
  | some p =>
    let last := decide (p.total ≤ p.t)
    -- Where the limits give no plan, the course is a free value until the destination (log entry 25).
    let (s, pos, acc) :=
      if p.loose && !last then (s.freeNext, p.start + sext 32 s.freeNow, 0) else (s, (p.eval p.t).1, (p.eval p.t).2)
    let t := s.setProf g (if last then none else some { p with t := p.t + 1 })
    let t := t.updCtl (fun c => { c with aref := listSet c.aref g (satS 32 acc) })
    let t := t.wrs [(PROF_STAT.BUSY g, b2n !last), (PROF_STAT.REMAINING g, satU 16 (p.total - p.t))]
    if g < 4 then
      (t.updAct g (fun c => { c with refSig := pos, sinceEnd := if last then some 0 else none })).wrS (PROF_POS.POS g) (pos / 4096)
    else (t.updCtl (fun c => { c with spRef := pos })).wrS (PROF_POS.POS g) (pos * (s.sys.cfg.rpm : Int) / 65536)

/-- The result of head `h` in this bell, when valid. -/
def State.validResult (s : State) (h : Nat) : Bool :=
  s.srv.results.any (fun r => r.head == h && r.valid && !r.reacq) && s.srvState h != 1 && s.srvState h != 5

/-- Slot 1: the spindle loop. Its reference is the profile generator's (R172). -/
def State.spindleSlot (s : State) (x : LaneInputs) (sv : Option (Nat × LoopOut)) : State × Option (Nat × LoopOut) :=
  let (s, e0) := (s.wrs [(CTL_XDISP.X 28, s.speedSig)]).slotError 28 (some (s.ctl.spRef - (s.speedSig : Int)))
  if s.loopState 28 = 1 then s.slotEnd x 28 (s.compute 28 e0 (s.ctl.aref.getD 4 0) false) sv else (s, sv)

/-- A head that keeps the coarse loop in service (R175, R187, R219): loaded, not LOST, its trim loop not TRIPPED, its
microactuator not fenced. -/
def State.headServes (s : State) (h : Nat) : Bool :=
  s.headLoaded h && s.srvState h != 5 && s.loopState (4 + h) != 3 && !bitOf (s.rd MOT_MA_FAULT.MASK) h

/-- M_a (R172). -/
def State.balance (s : State) (a ref : Nat) : Int :=
  if s.on (CTL_CFG.BAL_EN a) then (s.act a).bal else if ref < 6 then (s.loop (4 + a * 6 + ref)).dev else 0

/-- The coarse reference hands over (R173). -/
def State.coarseHandover (s : State) (a : Nat) : State :=
  match s.handoverPos a with
  | none => s.wr (CTL_STATUS.REF a) 7
  | some p =>
    let t := s.updAct a (fun c => { c with ho := (s.loop a).prevErr - ((s.srvHead (a * 6 + p)).pe - s.balance a p) })
    ((t.wr (CTL_STATUS.REF a) p).setB (CTL_STATUS.HANDOVER a)).inc (CTL_CNT.HANDOVERS a)

/-- The coarse loop closes (R175, R191): at the track that its reference head follows (log entry 27). -/
def State.coarseAutoClose (s : State) (a : Nat) : State :=
  match (s.headsOf a).any (fun h => s.srvState h == 2), s.handoverPos a with
  | true, some _ =>
    if !s.setsOk a then s.setB (CTL_STATUS.REFUSED a)
    else
      let p := s.chooseRef a
      let off := ((s.actEntry a).map (fun e => e.offset.getD p 0)).getD 0
      let t := s.updAct a (fun c => { c with refSig := 4096 * (((s.srvHead (a * 6 + p)).track : Int) - off), loadBells := none })
      (t.closeLoop a).wr (CTL_STATUS.REF a) p
  | _, _ => s

/-- HO_a is reduced by HO_a ÷ 2^HO_SHIFT (R173). -/
def State.decayHo (s : State) (a : Nat) : State :=
  s.updAct a (fun c => { c with ho := c.ho - asr c.ho (s.rd CTL_HO_CFG.HO_SHIFT) })

/-- The error of the coarse loop of actuator `a`: from its reference's result, else with the observer from its prediction (R172, R174); true when it is
the prediction. The prediction's saturation is counted (R178). -/
def State.coarseError (s : State) (a : Nat) : State × Option Int × Bool :=
  let ref := s.rd (CTL_STATUS.REF a)
  let h := a * 6 + ref
  if ref < 6 && s.validResult h then (s, some ((s.srvHead h).pe - s.balance a ref + (s.act a).ho), false)
  else if s.on (CTL_CFG.OBS_EN a) then
    let cf (w : Nat) : Int × Nat := s.coefW a (s.rd (CTL_CFG.ACTIVE_SET a)) w
    let xh (i : Nat) : Int := (s.loop a).xh.getD i 0
    (s, some (mac (cf 70) (xh 0) + mac (cf 71) (xh 1) + mac (cf 72) (xh 2) + mac (cf 73) (xh 3)), true)
  else (s, none, false)

/-- Slots 2 to 5: the coarse loop of actuator `a` (R172 to R175). After loading it closes by itself at the first bell in which a head is in LOCK. -/
def State.coarseSlot (s : State) (x : LaneInputs) (a : Nat) (sv : Option (Nat × LoopOut)) : State × Option (Nat × LoopOut) :=
  if s.rd (MOT_ASTATUS.STATE a) ≠ 3 then ((s.decayHo a).slotError a none |>.1, sv)
  else if !(s.headsOf a).any s.headServes && !(s.act a).loadPend then
    -- No loaded head is outside LOST with a working trim loop (R175).
    let t := (s.openLoop a).forEach (s.headsOf a) (fun h t => t.setOut (4 + h) 0)
    (t.retract a, sv)
  else
    let s := if s.loopState a = 0 && (s.act a).loadBells.isSome then s.coarseAutoClose a else s
    let closed := s.loopState a == 1
    let ref := s.rd (CTL_STATUS.REF a)
    let gone := decide (6 ≤ ref) || s.srvState (a * 6 + ref) == 5 || s.srvState (a * 6 + ref) == 0
    let s := if closed && gone then s.coarseHandover a else s.decayHo a
    let (s, e, pred) := s.coarseError a
    let (s, e0) := (s.wrS (CTL_XDISP.X a) (s.balance a (s.rd (CTL_STATUS.REF a)))).slotError a e
    if !closed then (s, sv)
    else if e.isSome then s.slotEnd x a (s.compute a e0 (s.ctl.aref.getD a 0) pred) sv
    else (s.holdLoop a, sv)

/-- The re-read trim offset in force on head `h` (R97, R172), in 1/256 track. -/
def State.rereadOffset (s : State) (h : Nat) : Int :=
  let k := (s.head h).trimK
  let st : Int := s.rd DEC_RETRY_CFG.RR_STEP
  if k < 2 then 0 else if k % 2 = 0 then st * (k / 2 : Nat) else -(st * ((k - 1) / 2 : Nat))

/-- Slots 6 to 29: the trim loop of head `h`; D_h and x_h follow (R171), their saturations counted (R178). A TRIPPED loop's output is u_c while its
actuator is loaded (R187). -/
def State.trimSlot (s : State) (x : LaneInputs) (h : Nat) (sv : Option (Nat × LoopOut)) : State × Option (Nat × LoopOut) :=
  let n := 4 + h
  let e := if s.validResult h then some ((s.srvHead h).pe - 16 * s.rereadOffset h) else none
  let (s, e0) := s.slotError n e
  let (s, sv) :=
    if s.loopState n = 1 then (if e.isSome then s.slotEnd x n (s.compute n e0 0 false) sv else (s.holdLoop n, sv))
    else if s.loopState n = 3 && s.rd (MOT_ASTATUS.STATE (h / 6)) == 3 then (s.setOut n (s.trimCentreOut h), sv)
    else (s, sv)
  let (d, k) := sat32 (mac (s.coefW n 16 5) (satS 16 (s.rdS (CTL_OUT.OUT n)))) 0
  let (dev, k) := sat32 (d - 16 * s.centre h) k
  let t := (s.updLoop n (fun l => { l with disp := d, dev := dev })).wrS (CTL_XDISP.X n) dev
  (t.addC (CTL_CNT.SATURATIONS n) k, sv)

/-- Slot 30 for loop `n`: the count C (R187), shown energy. -/
def State.oscSlot (s : State) (n : Nat) : State :=
  let e := (s.loop n).energy
  let th : Int := s.rd (CTL_OSC_THRESH.THRESH n)
  let t := s.updLoop n (fun l =>
    if th < e then { l with count := l.count + 1, quiet := 0 }
    else if 2 * e ≤ th then { l with quiet := l.quiet + 1 }
    else { l with quiet := 0 })
  t.wr (CTL_ENERGY.E n) (satU 32 e.toNat)

/-- Slot 30 for head `h`: trim saturation and settling (R176, R177). -/
def State.decideHead (s : State) (h : Nat) : State :=
  let n := 4 + h
  let stroke : Nat := s.rd (CTL_CFG.STROKE n)
  let closed := s.loopState n == 1
  -- The bells after the profile's last one count (R176, R186).
  let settling := match (s.act (h / 6)).sinceEnd with | some b => decide (0 < b) | none => false
  let within := s.validResult h && decide ((s.srvHead h).pe.natAbs ≤ s.rd CTL_SETTLE_CFG.SETTLE_WIN)
  s.updLoop n (fun l =>
    let d := l.disp.natAbs
    { l with satRun := if closed && decide (15 * stroke ≤ d) then l.satRun + 1 else 0,
             freeRun := if d < 14 * stroke then l.freeRun + 1 else 0,
             settleRun := if settling && within then l.settleRun + 1 else 0 })

/-- Slot 30 for actuator `a`: balance point (R172), SETTLED (R176), the load count (R175). -/
def State.decideAct (s : State) (a : Nat) : State :=
  let devs := ((s.headsOf a).filter (fun h => s.loopState (4 + h) == 1)).map (fun h => (s.loop (4 + h)).dev)
  let m : Int := match devs with
    | [] => 0
    | d :: ds => asr (ds.foldl max d + ds.foldl min d) 1
  let t := s.updAct a (fun c => { c with bal := c.bal + asr (m - c.bal) (s.rd CTL_HO_CFG.BAL_SHIFT) })
  let ref := s.rd (CTL_STATUS.REF a)
  let c := s.act a
  let done := decide (ref < 6) && decide (s.rd CTL_SETTLE_CFG.SETTLE_N ≤ (s.loop (4 + a * 6 + ref)).settleRun)
  let t := t.updAct a (fun c => { c with loadBells := c.loadBells.map (fun b => b + 1) })
  match c.sinceEnd with
  | none => t
  | some b =>
    if s.on (CTL_STATUS.SETTLED a) then t
    else if done then t.setB (CTL_STATUS.SETTLED a)
    else t.updAct a (fun c => { c with sinceEnd := some (b + 1) })

/-- Multiply-accumulates of a loop (R184). -/
def State.loopMacs (s : State) (n : Nat) : Nat :=
  10 + (10 + 5 * s.rd (CTL_CFG.NBQ n) + (if s.on (CTL_CFG.OBS_EN n) then 32 else 0) +
    (if s.on (CTL_CFG.FF_EN n) && !(decide (4 ≤ n) && decide (n < 28)) then 1 else 0) +
    (if 4 ≤ n ∧ n < 28 then 1 else 0) + 3) / 4

/-- Cycles of the bell (R184). -/
def State.ctlCycles (s : State) : Nat :=
  (((List.range 29).filter s.loopPresent).map s.loopMacs).foldl (· + ·) (26 + 22 + 24)

/-- Upsets a coefficient word in one lane's copy (R188). -/
def State.upsetCoef (s : State) (u : CoefUpset) : State :=
  let k := u.lane.val * 131072 + coefKey u.loop.val u.set.val u.word.val
  s.updCtl (fun c => { c with flips := sparseSet 0 c.flips k (sparseGet 0 c.flips k ^^^ u.mask.toNat) })

/-- The word with key `k` of a lane's copy is read in this bell: its loop is present, and it lies in the active set or the fixed block. -/
def State.coefRead (s : State) (k : Nat) : Bool :=
  let n := k % 131072 / 4096
  let set := k % 4096 / 128
  s.loopPresent n && (set == 16 || set == s.rd (CTL_CFG.ACTIVE_SET n))

/-- The words read in this bell that one flipped bit makes wrong are corrected and each counted as COEF_ECC; a word with more is not, and what its
lane computes with it is a free value (R188, log entry 154). An injection armed at a coefficient word stands for its upset (R471). -/
def State.coefChecks (s : State) (x : LaneInputs) : State × LaneInputs :=
  let one (e : Nat × Nat) : Bool := onesOf e.2 44 == 1
  let hits := s.ctl.flips.filter (fun e => s.coefRead e.1)
  let inj := (s.armedAt 5 (fun _ => true)).isSome
  let t := s.updCtl (fun c => { c with flips := c.flips.filter (fun e => !(s.coefRead e.1 && one e)) })
  let t := t.forEach (hits.filter one ++ (if inj then [(0, 0)] else [])) (fun e t =>
    (t.ctlBit CTL_GSTATUS.COEF_ECC).raiseSrc 0x0F4 { ctx0 with detail := e.1 })
  (hits.filter (fun e => !one e)).foldl (fun (p : State × LaneInputs) e =>
    let n := e.1 % 131072 / 4096
    let v := BitVec.ofNat 32 p.1.freeNow
    let f := (p.2.finds.find? (fun f => f.loop.val == n)).getD { loop := Fin.ofNat 29 n, out0 := none, out1 := none, alarm0 := false, alarm1 := false }
    let f := if e.1 / 131072 = 0 then { f with out0 := some v } else { f with out1 := some v }
    (p.1.freeNext, { p.2 with finds := f :: p.2.finds.filter (fun g => g.loop.val != n) })) (t, x)

/-- The findings of this bell with an injection armed at the residue of a lane, which meets the first loop computed (R471). -/
def State.injLanes (s : State) (x : LaneInputs) : LaneInputs :=
  match s.armedAt 15 (fun a => decide (a < 2)), (28 :: List.range 28).find? (fun n => s.loopState n == 1) with
  | some j, some n =>
    { x with finds := { loop := Fin.ofNat 29 n, out0 := none, out1 := none, alarm0 := j.arg == 0, alarm1 := j.arg == 1 } ::
                        x.finds.filter (fun f => f.loop.val != n) }
  | _, _ => x

/-- LOOP_COMPUTATION: the 32 slots of one bell (R183); in P5 and in RIDE-THROUGH the control engine is off (R396, R433). -/
def execLoopComputation (x : LaneInputs) (s : State) : Res :=
  .next (
    if !s.on CTL_CTRL.EN || s.sys.inReset || s.drivesOff || s.gated 5 || decide (s.bell ≤ s.ctl.lastBell) then s
    else
      let sole := !s.twoLanes
      let x := s.injLanes x
      -- On a sole lane the alarm is only retried (R190): the injection is spent without a raise.
      let s := s.when (sole && (s.armedAt 15 (fun _ => true)).isSome && (List.range 29).any (fun n => s.loopState n == 1)) State.injDone
      let t : State := { s with ctl := { s.ctl with lastBell := s.bell } }
      let t := t.updWrp (fun w => { w with ctlBlock := false })
      let (t, x) := (t.forEach x.upsets (fun u t => t.upsetCoef u)).coefChecks x
      let t := t.forEach [0, 1, 2, 3, 4] (fun g t => t.profSlot g)
      let p := t.spindleSlot x none
      let p := t.allActs.foldl (fun p a => p.1.coarseSlot x a p.2) p
      let p := t.allHeads.foldl (fun p h => p.1.trimSlot x h p.2) p
      let t := p.1
      let t := t.forEach ((List.range 29).filter t.loopPresent) (fun n t => t.oscSlot n)
      let t := t.forEach t.allHeads (fun h t => t.decideHead h)
      let t := t.forEach t.allActs (fun a t => t.decideAct a)
      let t := t.slot31 x p.2 sole
      (t.wr CTL_SLOT_STAT.CYCLES s.ctlCycles).maxF CTL_SLOT_STAT.LARGEST s.ctlCycles)

/-- CTL_LATE: every loop output of the previous bell is held and no new write gate opens until a bell computes in time
(R14, R15). -/
def execCtlLate (s : State) : Res :=
  .next (
    let t : State := { s with ctl := { s.ctl with lastBell := s.bell } }
    let t := (t.updWrp (fun w => { w with ctlBlock := true })).ctlBit CTL_GSTATUS.LATE
    let t := t.forEach ((List.range 29).filter t.loopPresent) (fun n t => if t.loopState n = 1 then t.holdLoop n else t)
    (t.inc CTL_LANE_CNT.LATE).raiseSrc 0x0F0 ctx0)

/-! ### Settling, loading, saturation (R175 to R177) -/

/-- Step 10 of a start is complete once every actuator in service is LOADED with its coarse loop and the trim loops of its heads CLOSED; a head whose
microactuator is lost has none to close (R437). -/
def State.loadStep (s : State) : State :=
  let up (a : Nat) : Bool := s.rd (MOT_ASTATUS.STATE a) == 5 || (s.rd (MOT_ASTATUS.STATE a) == 3 && s.loopState a == 1 &&
    (s.headsOf a).all (fun h => s.loopState (4 + h) == 1 || bitOf (s.rd MOT_MA_FAULT.MASK) h))
  s.when (s.rd SYS_START.STEP == 9 && s.allActs.all up) (fun t => t.wr SYS_START.STEP 10)

/-- TRIM_AUTO_CLOSE: SETTLE_N valid wedges within SETTLE_WIN close an open trim loop and end its seek inhibition. -/
def execTrimAutoClose (h : Head) (s : State) : Res :=
  .next (
    let n := 4 + h.val
    if s.headLoaded h && s.on (CTL_CFG.AUTO_CLOSE n) && s.loopState n == 0 && (s.act (h.val / 6)).sinceEnd.isSome &&
       decide (s.rd CTL_SETTLE_CFG.SETTLE_N ≤ (s.loop n).settleRun) && !bitOf (s.rd MOT_MA_FAULT.MASK) h.val then
      if s.setsOk n then ((s.closeLoop n).setInh h (fun u => { u with inhSeek := false })).loadStep
      else s.setB (CTL_STATUS.REFUSED n)
    else s)

/-- SEEK_TIMEOUT: SETTLED not set within SETTLE_MAX bells of the profile's end: the seek is issued once more; the second
timeout retracts and reloads the actuator (R176). -/
def execSeekTimeout (a : Act) (s : State) : Res :=
  .next (
    let c := s.act a
    match c.sinceEnd with
    | none => s
    | some b =>
      if b ≤ s.rd CTL_SETTLE_CFG.SETTLE_MAX || s.on (CTL_STATUS.SETTLED a) then s
      else
        let t := s.setB (CTL_STATUS.SEEK_TIMEOUT a)
        if c.timeouts = 0 then t.seekStart a c.refSig 1
        else
          let t := t.updAct a (fun c => { c with timeouts := 0 })
          let t : State := { t with mot := { t.mot with reload := listSet t.mot.reload a true } }
          t.retract a)

/-- LOAD_FAIL: no head in LOCK within LOAD_LOCK bells of loading (R175). -/
def execLoadFail (a : Act) (s : State) : Res :=
  .next (
    match (s.act a).loadBells with
    | none => s
    | some b =>
      if b < s.rd CTL_HO_CFG.LOAD_LOCK || (s.headsOf a).any (fun h => s.srvState h == 2) then s
      else (s.retract a).setB (CTL_STATUS.LOAD_FAIL a))

/-- TRIM_SAT_SET: sixteen bells near the stroke with the loop CLOSED: writes inhibited, TRIM_RANGE raised, with a record
(R177). -/
def execTrimSatSet (h : Head) (s : State) : Res :=
  .next (
    if 16 ≤ (s.loop (4 + h.val)).satRun ∧ !(s.head h).inhSat then
      let t := (s.setInh h (fun u => { u with inhSat := true })).setB (CTL_STATUS.TRIM_SAT (4 + h.val))
      (t.setB (CTL_STATUS.INHIBIT (4 + h.val))).raiseSrc (0x120 + h.val) { ctx0 with detail := h.val }
    else s)

/-- TRIM_SAT_CLEAR: sixteen bells within 14 × S (R177). -/
def execTrimSatClear (h : Head) (s : State) : Res :=
  .next (
    if 16 ≤ (s.loop (4 + h.val)).freeRun ∧ (s.head h).inhSat then
      let t := (s.setInh h (fun u => { u with inhSat := false })).clr (CTL_STATUS.TRIM_SAT (4 + h.val))
      t.wr (CTL_STATUS.INHIBIT (4 + h.val)) (b2n (s.head h).oscTrip)
    else s)

/-! ### Oscillation (R187) -/

/-- Sets or clears the oscillation condition of R124 in the scope of loop `n`. -/
def State.oscCondition (s : State) (n : Nat) (on : Bool) : State :=
  if n < 4 then s.updPort n (fun p => { p with oscTrip := on })
  else if n < 28 then s.updHead (n - 4) (fun u => { u with oscTrip := on })
  else s.updWrp (fun w => { w with oscDev := on })

/-- The heads in the scope of loop `n`. -/
def State.oscScope (s : State) (n : Nat) : List Nat :=
  if n < 4 then s.headsOf n else if n < 28 then [n - 4] else s.allHeads

/-- OSC_STAGE_1: C has reached OSC_BELLS: writes stop in the loop's scope. -/
def execOscStage1 (n : LoopN) (s : State) : Res :=
  .next (
    let l := s.loop n
    if s.loopPresent n && l.stage == 0 && decide (s.rd (CTL_OSC_CFG.OSC_BELLS n) ≤ l.count) then
      let t := (s.updLoop n (fun l => { l with stage := 1 })).oscCondition n true
      let hs := t.oscScope n
      let t := (t.dropGates (decide (4 ≤ n.val) && decide (n.val < 28)) hs).wrpBits hs WRP_STATUS.OSC
      let t := (t.wrs [(CTL_STATUS.OSC1 n, 1), (CTL_STATUS.INHIBIT n, 1)]).inc (CTL_CNT.OSC1 n)
      t.raiseSrc (0x100 + n) { ctx0 with detail := 1, stage := 0 }
    else s)

/-- OSC_STAGE_2: C has reached 2 × OSC_BELLS: ACTIVE_SET, live and holding copy, becomes SAFE_SET. -/
def execOscStage2 (n : LoopN) (s : State) : Res :=
  .next (
    let l := s.loop n
    if s.loopPresent n && l.stage == 1 && decide (2 * s.rd (CTL_OSC_CFG.OSC_BELLS n) ≤ l.count) then
      let k := s.rd (CTL_CFG.SAFE_SET n)
      let t := s.updLoop n (fun l => { l with stage := 2 })
      let t := t.wrs [(CTL_CFG.ACTIVE_SET n, k), ((CTL_CFG.ACTIVE_SET n).hold, k), (CTL_STATUS.OSC2 n, 1)]
      t.raiseSrc (0x100 + n) { ctx0 with detail := 2, stage := 0 }
    else s)

/-- OSC_STAGE_3: C has reached 3 × OSC_BELLS: a loop that is CLOSED or in HOLD is TRIPPED (R191). Coarse: retract. Trim: output u_c. Spindle: every actuator
retracts and the spindle goes to SHORT, SP_TRIP set (R187, R224). -/
def execOscStage3 (n : LoopN) (s : State) : Res :=
  .next (
    let l := s.loop n
    if s.loopPresent n && l.stage == 2 && decide (3 * s.rd (CTL_OSC_CFG.OSC_BELLS n) ≤ l.count) then
      let trips := s.loopState n == 1 || s.loopState n == 2
      let t := (s.updLoop n (fun l => { l with stage := 3 })).setB (CTL_STATUS.OSC3 n)
      let t := t.when trips (fun t => t.wr (CTL_STATUS.STATE n) 3)
      let t := if !trips then t
        else if n.val < 4 then (t.setOut n 0).retract n
        else if n.val < 28 then t.setOut n (t.trimCentreOut (n.val - 4))
        else
          let t := t.setOut n 0
          let wait := t.allActs.any (fun a => t.rd (MOT_ASTATUS.STATE a) != 0 && t.rd (MOT_ASTATUS.STATE a) != 5)
          let t := t.retractAll
          let t : State := { t with mot := { t.mot with brakeWait := wait } }
          let t := (t.setProf 4 none).wrs [(PROF_STAT.BUSY 4, 0), (PROF_STAT.REMAINING 4, 0)]
          (t.raiseBit MOT_STATUS.SP_TRIP MOT_INT_EN).wrs [(MOT_SP_STAT.STATE, 2), (MOT_SP_STAT.SOURCE, 0)]
      t.raiseSrc (0x100 + n) { ctx0 with detail := 3, stage := if n.val = 28 then 3 else 2 }
    else s)

/-- OSC_COUNT_RESET: OSC_BELLS quiet bells: C returns to 0 and the write inhibition of stage 1 clears. -/
def execOscCountReset (n : LoopN) (s : State) : Res :=
  .next (
    let l := s.loop n
    if s.loopPresent n && decide (s.rd (CTL_OSC_CFG.OSC_BELLS n) ≤ l.quiet) && decide (0 < l.count) then
      let t := s.updLoop n (fun l => { l with count := 0, quiet := 0, stage := if l.stage = 3 then 3 else 0 })
      let t := t.oscCondition n false
      t.wr (CTL_STATUS.INHIBIT n) (b2n (decide (4 ≤ n.val) && decide (n.val < 28) && (t.head (n.val - 4)).inhSat))
    else s)

/-! ### Loop commands (R181, R191) -/

/-- A loop command is refused: REFUSED is set and the write enters the refusal log. -/
def State.ctlRefuse (s : State) (w : Initiator) (n : Nat) : State := (s.setB (CTL_STATUS.REFUSED n)).refuseW w (CTL_CMD n) 3

/-- A seek profile runs on the actuator of trim loop `n` (R176). -/
def State.trimSeeks (s : State) (n : Nat) : Bool := decide (4 ≤ n) && decide (n < 28) && s.on (PROF_STAT.BUSY ((n - 4) / 6))

/-- CTL_CLOSE: CLOSE on an OPEN loop; refused with a set not VALID, or a coarse loop with no head in LOCK. A trim loop is OPEN while a seek profile
runs, so its CLOSE is refused then (R176; DEDUCED, log entry 153). -/
def execCtlClose (w : Initiator) (n : LoopN) (s : State) : Res :=
  if !s.mayWrite w then .next s else
  .next (
    if !s.loopPresent n || s.loopState n != 0 then s
    else if !s.setsOk n || s.trimSeeks n || (decide (n.val < 4) && !(s.headsOf n).any (fun h => s.srvState h == 2)) then s.ctlRefuse w n
    else if n.val < 4 then s.coarseAutoClose n
    else if n.val < 28 && bitOf (s.rd MOT_MA_FAULT.MASK) (n.val - 4) then s.ctlRefuse w n
    else
      let t := s.closeLoop n
      if n.val < 28 then t.setInh (n.val - 4) (fun u => { u with inhSeek := false }) else t)

/-- CTL_OPEN: OPEN on a CLOSED or HOLD loop; refused on a coarse loop with heads loaded outside FACTORY. -/
def execCtlOpen (w : Initiator) (n : LoopN) (s : State) : Res :=
  if !s.mayWrite w then .next s else
  .next (
    if !s.loopPresent n || !(s.loopState n == 1 || s.loopState n == 2) then s
    else if decide (n.val < 4) && !s.inFactory && (s.headsOf n).any s.headLoaded then s.ctlRefuse w n
    else
      let t := s.openLoop n
      if 4 ≤ n.val ∧ n.val < 28 then t.setOut n (t.trimCentreOut (n.val - 4)) else t)

/-- CTL_RESET_OSC: a TRIPPED loop returns to OPEN with C, E and the stage flags cleared. -/
def execCtlResetOsc (w : Initiator) (n : LoopN) (s : State) : Res :=
  if !s.mayWrite w then .next s else
  .next (
    if !s.loopPresent n || s.loopState n != 3 then s
    else
      let t := s.updLoop n (fun l => { l with count := 0, quiet := 0, energy := 0, stage := 0, det := [0, 0, 0, 0] })
      let t := t.oscCondition n false
      let t := t.wrs [(CTL_STATUS.STATE n, 0), (CTL_STATUS.OSC1 n, 0), (CTL_STATUS.OSC2 n, 0), (CTL_STATUS.OSC3 n, 0), (CTL_ENERGY.E n, 0)]
      t.wr (CTL_STATUS.INHIBIT n) (b2n (decide (4 ≤ n.val) && decide (n.val < 28) && (t.head (n.val - 4)).inhSat)))

/-- CTL_COEF_COMMIT: a write of CTL_COEF_HI commits the addressed word to both lanes while the loop is OPEN or TRIPPED; else
COEF_REFUSED (R180, R181). -/
def execCtlCoefCommit (w : Initiator) (v : Word) (s : State) : Res :=
  if !s.mayWrite w then .next s else
  .next (
    let n := s.rd CTL_COEF_ADDR.LOOP
    let set := s.rd CTL_COEF_ADDR.SET
    let word := s.rd CTL_COEF_ADDR.WORD
    let s := s.wr CTL_COEF_HI.SHIFT v.toNat
    let t :=
      if !s.loopPresent n then s
      else if s.loopState n = 0 ∨ s.loopState n = 3 then
        if coefExists n set word then
          let x := s.rd CTL_COEF_LO.VALUE + 2 ^ 32 * (v.toNat % 32)
          let k := coefKey n set word
          s.updCtl (fun c => { c with coef := c.coef.map (fun m => sparseSet 0 m k (if word = 95 then x % 2 else x)),
                                      flips := sparseSet 0 (sparseSet 0 c.flips k 0) (131072 + k) 0 })
        else s
      else (s.ctlBit CTL_GSTATUS.COEF_REFUSED).refuseW w CTL_COEF_HI 3
    if s.on CTL_COEF_ADDR.AUTO then t.wr CTL_COEF_ADDR.WORD (if word < 95 then word + 1 else 0) else t)

/-! ### Profile commands (R185, R186) -/

/-- Generator `g` is present: its actuator, or the spindle. -/
def State.profPresent (s : State) (g : Nat) : Bool := g == 4 || s.actPresent g

/-- PROF_GO: plans a profile to PROF_g_TARGET; refused while BUSY. For a coarse loop it starts a seek, into the zone in whose tier the target track
lies (R171, R173); the spindle's profile starts at the present reference, with its loop open at the measured speed (R186, R206). -/
def execProfGo (w : Initiator) (g : Fin 5) (s : State) : Res :=
  if !s.mayWrite w then .next s else
  .next (
    if !s.profPresent g then s
    else if s.on (PROF_STAT.BUSY g) then (s.setB (PROF_STAT.REFUSED g)).refuseW w (PROF_CMD g) 3
    else if g.val < 4 then
      let k := s.rd (PROF_TARGET.TARGET g)
      let z := s.zoneOfTrack g k
      (s.updAct g (fun c => { c with zone := z.map (fun e => e.1), tier := (z.map (fun e => e.2)).getD 0 })).seekStart g (4096 * (k : Int)) 0
    else s.plan 4 (if s.loopState 28 = 1 then s.ctl.spRef else (s.speedSig : Int))
                  ((s.rd (PROF_TARGET.TARGET 4) % 16384 * 65536 / s.sys.cfg.rpm : Nat) : Int))

/-- A STOP of generator `g`: the rest of its profile is replanned to rest at the nearest position that the limits allow, in whole bells as R185 plans
(R186; DESIGN CHOICE, log entry 155). With a limit that is not above zero the manual gives no plan: destination and length are free values (log
entry 25). -/
def State.profStop (s : State) (g : Nat) : State :=
  match s.ctl.profs.getD g none with
  | none => s
  | some p =>
    let (x, v, a) := p.fine (p.t - 1)
    let run : Option StopRun :=
      if v = 0 ∧ a = 0 then some { x := x, v := 0, a := 0, a1 := 0, t1 := 0, t2 := 0, t3 := 0 }
      else (s.profLimits g).bind (fun l => nearestRest (stopRuns x v a l.1 l.2))
    match run with
    | some r =>
      let q : Profile := { p with start := x / 65536, dest := r.rest / 65536, run := some r, loose := false, t := 1 }
      (s.setProf g (some q)).wr (PROF_STAT.REMAINING g) (satU 16 q.total)
    | none =>
      let n := s.freeNext.freeNow
      let q : Profile := { start := x / 65536, dest := sext 48 s.freeNow, tj := 0, ta := 0, tv := n, t := 0, run := none, loose := true }
      ((s.freeNext.freeNext).setProf g (some q)).wr (PROF_STAT.REMAINING g) (satU 16 n)

/-- PROF_STOP (R186). -/
def execProfStop (w : Initiator) (g : Fin 5) (s : State) : Res :=
  if !s.mayWrite w then .next s else
  .next (s.profStop g)

end Sys2Proof.Machine
end

