-- ==== Sys2Proof/Machine/Motor.lean ====
section
/-! DEFINITION. Spindle and actuator drive (chapter 09): spindle states (R207 to R211), the angle source (R205), braking and
the chopper (R212, R213), actuators (R215 to R218), the microactuator link (R197, R198) and the PWM generators (R220). -/

namespace Sys2Proof.Machine
open Reg

/-- Updates the motor drive. -/
def State.updMot (s : State) (f : MotU → MotU) : State := { s with mot := f s.mot }
/-- Sets a MOT_STATUS bit with its interrupt. -/
def State.motBit (s : State) (f : Fld) : State := s.raiseBit f MOT_INT_EN
/-- The spindle STATE code (R225): 0 OFF, 1 SENSE, 2 SHORT, 3 ALIGN, 4 RAMP, 5 CATCH, 6 RUN_OBS, 7 RUN_ENC, 8 STOPPING,
9 FAULT, 10 RIDE. -/
def State.spState (s : State) : Nat := s.rd MOT_SP_STAT.STATE
/-- The spindle is in a running state. -/
def State.spRunning (s : State) : Bool := s.spState == 6 || s.spState == 7
/-- Actuator STATE code: 0 PARKED, 1 TESTING, 2 LOADING, 3 LOADED, 4 RETRACTING, 5 FENCED. -/
def State.actState (s : State) (a : Nat) : Nat := s.rd (MOT_ASTATUS.STATE a)
/-- Every present actuator is PARKED or FENCED. -/
def State.allParked (s : State) : Bool := s.allActs.all (fun a => s.actState a == 0 || s.actState a == 5)
/-- A motor event that the manual says is logged: a record of TYPE 0x0001 with no source (log entry 23). -/
def State.motLog (s : State) : State := s.logFree 0x0001 0x1FF
/-- HELM_BEAT stops, with its cause (R196, R225). -/
def State.stopBeat (s : State) (cause : Nat) : State := s.wrs [(MOT_BEAT.RUNNING, 0), (MOT_BEAT.CAUSE, cause)]

/-! ### Spindle states -/

/-- Changes the spindle state and angle source; loop 28 opens outside the running states (R206). -/
def State.spGo (s : State) (st src : Nat) : State :=
  let t := s.wrs [(MOT_SP_STAT.STATE, st), (MOT_SP_STAT.SOURCE, src)]
  let t := t.updMot (fun m => { m with spFrom := if s.spState = st then m.spFrom else s.sys.time })
  if st = 6 ∨ st = 7 then t
  else
    let t := (t.openLoop 28).setOut 28 0
    (t.setProf 4 none).wrs [(PROF_STAT.BUSY 4, 0), (PROF_STAT.REMAINING 4, 0)]

/-- Every actuator retracts before the spindle slows; the spindle coasts until all are PARKED (R211). -/
def State.unloadFirst (s : State) : State :=
  let wait := !s.allParked
  (s.retractAll).updMot (fun m => { m with brakeWait := wait })

/-- SHORT is entered (R211, R212). -/
def State.enterShort (s : State) : State := (s.spGo 2 0).unloadFirst

/-- CATCH is entered (R210, R211). -/
def State.enterCatch (s : State) : State := ((s.spGo 5 0).wr MOT_SP_STAT.ATTEMPTS 0).unloadFirst

/-- FAULT is entered: gates off (R207, R221). -/
def State.enterFault (s : State) : State := (s.spGo 9 0).unloadFirst

/-- Sets START_PENDING. -/
def State.startPending (s : State) : State := s.setB MOT_SP_STAT.START_PENDING

/-- START (R207). After a trip of loop 28 it needs RESET_OSC first (R224). -/
def State.startSpindle (s : State) : State :=
  let fresh (t : State) : State := t.updMot (fun m => { m with startFails := 0, swaps := 0 })
  -- The Anchor, RIDE-THROUGH and HALTED leave no START (R222, R432, R470).
  if s.on WCH_INST.ANCHOR || s.mode == .rideThrough || s.mode == .halted || s.loopState 28 == 3 then s else
  match s.spState with
  | 0 => fresh (s.spGo 1 0)
  | 2 => fresh s.startPending
  | 8 => fresh s.startPending
  | 9 => if s.on MOT_STATUS.PHASE_OPEN || s.on MOT_STATUS.PHASE_SHORT then s else fresh (s.spGo 1 0)
  | _ => s

/-- SP_START. -/
def execSpStart (s : State) : Res := .next s.startSpindle

/-- STOP (R207, R211): START_PENDING clears; an early state goes to SHORT, a running one to STOPPING; with the chopper out of
service STOPPING goes to SHORT at once (R213). -/
def State.stopSpindle (s : State) : State :=
  let t := s.clr MOT_SP_STAT.START_PENDING
  match s.spState with
  | 1 => t.enterShort
  | 3 => t.enterShort
  | 4 => t.enterShort
  | 5 => t.enterShort
  | 6 => if s.mot.chopOff then t.enterShort else (t.spGo 8 2).unloadFirst
  | 7 => if s.mot.chopOff then t.enterShort else (t.spGo 8 2).unloadFirst
  | _ => t

/-- SP_STOP. -/
def execSpStop (s : State) : Res := .next s.stopSpindle

/-- SENSE_DONE (R208); with the first one after a start step 9 of R437 is complete. -/
def execSenseDone (r : SenseRes) (s : State) : Res :=
  .next (
    if s.spState ≠ 1 then s
    else
      let s := s.when (s.rd SYS_START.STEP == 8) (fun t => t.wr SYS_START.STEP 9)
      match r with
      | .rest => (s.wr MOT_SPEED.RPM 0).spGo 3 1
      | .forward v =>
        let t := s.wrs [(MOT_SPEED.RPM, v), (MOT_SPEED.REVERSE, 0), (MOT_SP_STAT.FORWARD, 1)]
        if s.rd MOT_SP_CFG.CATCH_MIN * s.sys.cfg.rpm ≤ 100 * v then t.enterCatch else t.startPending.enterShort
      | .reverse v =>
        let t := s.wrs [(MOT_SPEED.RPM, v), (MOT_SPEED.REVERSE, 1), (MOT_SP_STAT.FORWARD, 0)]
        (t.motBit MOT_STATUS.REVERSE_SEEN).startPending.enterShort
      | .undetermined => s.startPending.enterShort)

/-- SPINDLE_REST: rest in SHORT (R207). -/
def execSpindleRest (s : State) : Res :=
  .next (
    if s.spState ≠ 2 ∨ s.mot.brakeWait then s
    else
      let t := s.wr MOT_SPEED.RPM 0
      if s.on MOT_SP_STAT.START_PENDING then (t.clr MOT_SP_STAT.START_PENDING).spGo 3 1 else t.spGo 0 0)

/-- ALIGN_DONE: ALIGN_MS elapsed (R207). -/
def execAlignDone (s : State) : Res := .next (if s.spState = 3 then s.spGo 4 1 else s)

/-- RAMP_END (R207, R209): lock, reverse lock (the phase order is learned; a second swap in one START goes to FAULT), or a
start failure (the third goes to FAULT). -/
def execRampEnd (r : RampRes) (s : State) : Res :=
  .next (
    if s.spState ≠ 4 then s
    else match r with
      | .locked => ((s.updMot (fun m => { m with lastRpm := 0, emfRun := 0, agree := 0, learn := 0, rampIn := none })).setB MOT_SP_STAT.FORWARD).spGo 6 2
      | .lockedReverse =>
        if 1 ≤ s.mot.swaps then s.enterFault
        else
          let p := 1 - s.rd MOT_SP_CFG.PHASE_SWAP
          let t := s.wrs [(MOT_SP_CFG.PHASE_SWAP, p), (MOT_SP_CFG.PHASE_SWAP.hold, p), (MOT_SP_STAT.PHASE_SWAP, p)]
          let t := (t.updMot (fun m => { m with swaps := m.swaps + 1 })).motBit MOT_STATUS.PHASE_SWAPPED
          t.motLog.startPending.enterShort
      | .noLock =>
        let t := (s.updMot (fun m => { m with startFails := m.startFails + 1 })).motBit MOT_STATUS.START_FAIL
        if 3 ≤ s.mot.startFails + 1 then t.enterFault else t.startPending.enterShort)

/-- CATCH_ATTEMPT_END (R210). -/
def execCatchAttemptEnd (locked : Bool) (rpm : BitVec 16) (s : State) : Res :=
  .next (
    if s.spState ≠ 5 then s
    else
      let n := s.rd MOT_SP_STAT.ATTEMPTS + 1
      let t := (s.wr MOT_SP_STAT.ATTEMPTS n).inc MOT_CNT.CATCHES
      if locked then
        ((t.updMot (fun m => { m with lastRpm := rpm.toNat, emfRun := 0, agree := 0, learn := 0, rampIn := some 0 })).wrs
          [(MOT_SPEED.RPM, rpm.toNat), (MOT_SPEED.REVERSE, 0), (MOT_SP_STAT.FORWARD, 1)]).spGo 6 2
      else if 3 ≤ n then (t.motBit MOT_STATUS.CATCH_FAIL).enterShort else t)

/-! ### Wiring faults (R221) -/

/-- A phase fault: gates off and FAULT, heads retracted first (R211, R221). -/
def State.phaseFault (s : State) (f : Fld) : State := ((s.motBit f).enterFault).raiseSrc 0x144 { ctx0 with detail := f.lo }

/-- PHASE_OPEN (R221): in ALIGN or a running state. -/
def execPhaseOpen (s : State) : Res :=
  .next (if s.spState = 3 ∨ s.spState = 4 ∨ s.spRunning ∨ s.spState = 8 then s.phaseFault MOT_STATUS.PHASE_OPEN else s)

/-- PHASE_SHORT (R221). -/
def execPhaseShort (s : State) : Res := .next (s.phaseFault MOT_STATUS.PHASE_SHORT)

/-! ### Updates (R202 to R206, R210) -/

/-- The speed measured: from the bell period with the encoder in use, else from the observer. -/
def State.measuredRpm (s : State) (o : ObsMeas) : Nat :=
  if s.spState = 7 then s.speedSig * s.sys.cfg.rpm / 65536 else o.rpm

/-- The observed back-EMF differs from KE times the observed speed by more than 25 % (R210); the speed is mechanical and 2 × pi is taken as 710/113
(log entry 156). -/
def State.emfOff (s : State) (o : ObsMeas) : Bool :=
  let want := s.rd MOT_FOC_CFG.KE * o.rpm * 355
  let have_ := o.emf * 30 * 113
  decide (want < 4 * (if want ≤ have_ then have_ - want else want - have_))

/-- The rotor is lost in RUN_OBS (R210). -/
def State.rotorLost (s : State) (o : ObsMeas) : Bool :=
  let run := if s.emfOff o then s.mot.emfRun + 1 else 0
  let last := s.mot.lastRpm
  decide (4 ≤ run) || (decide (0 < last) && decide (last < 50 * (if last ≤ o.rpm then o.rpm - last else last - o.rpm)))

/-- Below 20 % of nominal speed. -/
def State.slow (s : State) (rpm : Nat) : Bool := decide (5 * rpm < s.sys.cfg.rpm)

/-- The electrical angle of the encoder without ENC_OFS, in 1/65,536 turn rounded down, `ns` nanoseconds after the last bell edge (R204). -/
def State.encAngle (s : State) (ns : Nat) : Nat :=
  let p := s.wedgePeriod
  (s.rd SRV_WEDGE.WEDGE * p + ns * 25 * 1024) * s.rd MOT_SP_CFG.POLE_PAIRS * 65536 / (s.sys.cfg.wedges * p) % 65536

/-- Observer angle minus encoder angle, in 1/65,536 turn from -32,768 to 32,767 (R205). -/
def State.angleDiff (s : State) (o : ObsMeas) : Int :=
  let ofs := if s.on MOT_ENC_OFS.VALID then s.rd MOT_ENC_OFS.OFS else 0
  sext 16 (o.angle.toNat + 65536 - (s.encAngle o.t + ofs) % 65536)

/-- One bell of learning ENC_OFS: the difference joins the sum and the range (R205). -/
def MotU.learnBell (m : MotU) (d : Int) : MotU :=
  if m.learn = 0 then { m with learn := 1, learnBase := d, learnSum := 0, learnLo := 0, learnHi := 0 }
  else if 256 ≤ m.learn then m
  else
    let r := sext 16 (toBits 16 (d - m.learnBase))
    { m with learn := m.learn + 1, learnSum := m.learnSum + r, learnLo := min m.learnLo r, learnHi := max m.learnHi r }

/-- The encoder can no longer be the source: no lock, no timing reference, or every actuator is parked (R205). -/
def State.encoderGone (s : State) : Bool :=
  !(s.on SRV_WEDGE.LOCKED && s.on SRV_TREF.VALID) || s.allParked

/-- The angle sources may change (R205), at the first update of a bell. In ride-through the encoder falls back in the same way, and with no valid
observer the spindle goes to SHORT (R222). -/
def State.angleSource (s : State) (o : ObsMeas) : State :=
  let locked := s.on SRV_WEDGE.LOCKED && s.on SRV_TREF.VALID
  let d := s.angleDiff o
  let near := decide (d.natAbs ≤ 65536 / 32)
  let far := decide (65536 / 12 < d.natAbs)
  let s := s.updMot (fun m =>
    let m := { m with agree := if locked && near then m.agree + 1 else 0, drift := if s.spState = 7 ∧ far then m.drift + 1 else 0 }
    if s.spState = 6 ∧ locked ∧ !s.on MOT_ENC_OFS.VALID then m.learnBell d else { m with learn := 0 })
  let s := if !s.mot.obsOk && decide (64 ≤ s.mot.agree) then s.updMot (fun m => { m with obsOk := true }) else s
  if s.spState = 6 then
    if locked && s.on MOT_ENC_OFS.VALID && decide (64 ≤ s.mot.agree) then s.spGo 7 3 else s
  else if s.spState = 7 then
    if s.encoderGone then
      (if s.mot.obsOk && o.valid then (s.updMot (fun m => { m with lastRpm := 0, emfRun := 0 })).spGo 6 2 else s.enterCatch)
    else s
  else if s.spState = 10 ∧ s.rd MOT_SP_STAT.SOURCE = 3 ∧ s.encoderGone then
    (if s.mot.obsOk && o.valid then (s.updMot (fun m => { m with lastRpm := 0, emfRun := 0 })).spGo 10 2 else s.enterShort)
  else s

/-- The spindle loop closes at 20 % speed, and profile generator 4 starts from the measured speed (R206); below it a q current
of SPIN_IQ is driven with the loop open. -/
def State.spindleLoop (s : State) (rpm : Nat) : State :=
  if !s.spRunning then s
  else if s.slow rpm then
    let t := s.openLoop 28
    if s.spState = 6 then t.setOut 28 (((s.rd MOT_SENSE_CFG.SPIN_IQ * 20 * 65536 / 1000 : Nat) : Int)) else t
  else if s.loopState 28 = 0 then
    if s.setsOk 28 then
      (s.closeLoop 28).plan 4 ((rpm * 65536 / s.sys.cfg.rpm : Nat) : Int)
        ((s.rd (PROF_TARGET.TARGET 4) % 16384 * 65536 / s.sys.cfg.rpm : Nat) : Int)
    else s.setB (CTL_STATUS.REFUSED 28)
  else s

/-- Every gate turns off and HELM_BEAT stops (R214, R220). -/
def State.gatesAllOff (s : State) : State := (s.updMot (fun m => { m with allOff := true, chopOn := false })).stopBeat 2

/-! ### PWM generators (R220) -/

/-- A generator is fenced. -/
def State.genFenced (s : State) (g : Nat) : Bool := if g = 0 then s.on MOT_PWM_STAT.A_FENCED else s.on MOT_PWM_STAT.B_FENCED

/-- Every gate turns off and MOT_PWM_FATAL is raised. -/
def State.pwmFatal (s : State) : State := s.gatesAllOff.raiseSrc 0x146 ctx0

/-- Fences generator `g`; when it was active the other drives the pads. -/
def State.fenceGen (s : State) (g : Nat) : State :=
  let t := (s.setB (if g = 0 then MOT_PWM_STAT.A_FENCED else MOT_PWM_STAT.B_FENCED)).markFenced (.pwmGen (Fin.ofNat 2 g))
  if s.rd MOT_PWM_STAT.ACTIVE_B = g then
    ((t.wrs [(MOT_PWM_STAT.ACTIVE_B, 1 - g), (MOT_PWM_STAT.SWITCHED, 1)]).inc MOT_CNT.SWITCHOVERS).updMot (fun m => { m with swOver := true })
  else t

/-- Generator `g` fails its self-check: it is fenced; on the sole remaining one it is fatal (R220). -/
def State.genSelfCheck (s : State) (g : Fin 2) : State :=
  if s.genFenced g then s
  else if s.genFenced (1 - g.val) then s.pwmFatal
  else (s.raiseSrc 0x145 { ctx0 with detail := g.val }).fenceGen g

/-- PWM_GEN_SELF_CHECK_FAIL (R220). -/
def execPwmGenSelfCheckFail (g : Fin 2) (s : State) : Res := .next (s.genSelfCheck g)

/-! ### Duties (R201 to R203, R215) -/

/-- One step of a PI loop: gains in mV/A and mV/A per update, both divided by 2^`sh`, limit in mV, error in 1/65,536 A; the voltage and the new
integral in 1/65,536 mV (R203, R215, log entry 156). -/
def piStep (kp ki sh lim : Nat) (acc err : Int) : Int × Int :=
  let b : Int := ((65536 * lim : Nat) : Int)
  let clamp (z : Int) : Int := max (-b) (min b z)
  let acc := clamp (acc + asr (ki * err) sh)
  (clamp (asr (kp * err) sh + acc), acc)

/-- Phases by ascending on-time, the lower phase first among equals. -/
def dutyOrder (d : List Nat) : List Nat :=
  let le (i j : Nat) : Bool := decide (d.getD i 0 < d.getD j 0) || (d.getD i 0 == d.getD j 0 && decide (i < j))
  let rank (i : Nat) : Nat := ((List.range 3).filter (fun j => j != i && le j i)).length
  (List.range 3).flatMap (fun r => (List.range 3).filter (fun i => rank i == r))

/-- SH_SETTLE + 100 ns in ticks: the sample point after the start of a carrier period (R201). -/
def State.sampleAt (s : State) : Nat := s.rd MOT_PWM_CFG.SH_SETTLE + 10

/-- Where the pulse of length `d` of a selected phase starts: centred in the period `p`, or at `w` when it would start before (R201). -/
def pulseStart (p w d : Nat) (selected : Bool) : Nat :=
  let c := (p - d) / 2
  if selected ∧ c < w then w else c

/-- The three pulses of a carrier period and the two phases selected: those of the lowest on-times, shifted so that they start no earlier than the
sample point; the middle on-time is limited to the rest of the period, the highest by DEADTIME (R201). -/
def State.modulated (s : State) (d : List Nat) : List (Nat × Nat) × (Nat × Nat) :=
  let p := s.rd MOT_PWM_CFG.PWM_PER
  let w := s.sampleAt
  let o := dutyOrder d
  let (a, b) := (o.getD 0 0, o.getD 1 1)
  ((List.range 3).map (fun i =>
    let sel := i == a || i == b
    let d := if sel then min (d.getD i 0) (p - w) else min (d.getD i 0) (p - s.rd MOT_PWM_CFG.DEADTIME)
    (pulseStart p w d sel, d)), (a, b))

/-- The modulator of phases U, V, W drives the gates, V and W exchanged with PHASE_SWAP set (R209). -/
def State.swapVW {α : Type} (s : State) (l : List α) : List α :=
  if s.on MOT_SP_CFG.PHASE_SWAP then (match l with | [u, v, w] => [u, w, v] | l => l) else l

/-- The q current command in 1/65,536 A (R203, R206, R207, R212, R222): the output of loop 28, ramped in after a catch, −STOP_IQ in STOPPING, or
the current that regulates the bus in generator mode. -/
def State.qCommand (s : State) : Int :=
  if s.spState = 8 then -((s.rd MOT_RT_CFG.STOP_IQ * 20 * 65536 / 1000 : Nat) : Int)
  else if s.spState = 10 then -((Config.generatorCurrent (s.rd MOT_BUS.MV) (100 * s.rd MOT_RT_CFG.RT_BUS) : Nat) : Int)
  else
    let q := s.rdS (CTL_OUT.OUT 28)
    match s.mot.rampIn with
    | some k => if k < s.rd MOT_SENSE_CFG.CATCH_RAMP then q * k / (s.rd MOT_SENSE_CFG.CATCH_RAMP : Int) else q
    | none => q

/-- The commutation angle at the centre of the carrier period (R204). -/
def State.commAngle (s : State) (o : ObsMeas) : Nat :=
  if s.rd MOT_SP_STAT.SOURCE = 3 then (s.encAngle o.t + s.rd MOT_ENC_OFS.OFS) % 65536 else o.angle.toNat

/-- Field-oriented control of the spindle: two PI loops at gains KP and KI, limited by the bus, and the modulator (R203). -/
def State.focDuties (s : State) (o : ObsMeas) : State :=
  let th := s.commAngle o
  let (d, q) := Config.toDq th (s.swapVW s.mot.current)
  let bus := s.rd MOT_BUS.MV
  let (kp, ki) := (s.rd MOT_FOC_CFG.KP, s.rd MOT_FOC_CFG.KI)
  let (vd, ad) := piStep kp ki 0 bus s.mot.accD (-d)
  let (vq, aq) := piStep kp ki 0 bus s.mot.accQ (s.qCommand - q)
  let (ps, pair) := s.modulated (s.swapVW (Config.modulate th vd vq bus (s.rd MOT_PWM_CFG.PWM_PER)))
  s.updMot (fun m => { m with accD := ad, accQ := aq, rampIn := m.rampIn.map (· + 1), drive := { m.drive with sp := .pulses (ps.map some), pair := pair } })

/-- ALIGN_I held on the U–V pair, on the U–W pair for the last quarter of ALIGN_MS; the third phase is off (R207). -/
def State.alignDuties (s : State) : State :=
  let p := s.rd MOT_PWM_CFG.PWM_PER
  let d := min (Config.alignWidth (20 * s.rd MOT_START_CFG.ALIGN_I) s.mot.current (s.rd MOT_BUS.MV) p) (p - s.rd MOT_PWM_CFG.DEADTIME)
  let last := decide (3 * 100000000 * s.rd MOT_START_CFG.ALIGN_MS ≤ 4 * (s.sys.time - s.mot.spFrom))
  let on := some (pulseStart p 0 d false, d)
  let low := some (p / 2, 0)
  s.updMot (fun m => { m with drive := { m.drive with
    sp := .pulses (if last then [on, none, low] else [on, low, none]), pair := if last then (0, 2) else (0, 1) } })

/-- The rotating vector of RAMP (R204, R207). -/
def State.rampDuties (s : State) : State :=
  let (th, vd, vq) := Config.rampVector (s.rd MOT_START_CFG.RAMP_RATE) (s.rd MOT_SP_CFG.POLE_PAIRS) (s.sys.time - s.mot.spFrom)
  let (ps, pair) := s.modulated (s.swapVW (Config.modulate th vd vq (s.rd MOT_BUS.MV) (s.rd MOT_PWM_CFG.PWM_PER)))
  s.updMot (fun m => { m with drive := { m.drive with sp := .pulses (ps.map some), pair := pair } })

/-- Spindle gates off, or all low switches on in SHORT (R195, R211, R212); the loops' integrals start from 0 (log entry 156). -/
def State.idleDuties (s : State) (d : SpDrive) : State :=
  s.updMot (fun m => { m with accD := 0, accQ := 0, drive := { m.drive with sp := d } })

/-- The gates may drive: MOT_CTRL.EN is set and no fatal finding has turned every gate off (R195, R214, R220). -/
def State.gatesLive (s : State) : Bool := !s.mot.allOff && s.on MOT_CTRL.EN

/-- The spindle's new duties by state; while it waits for the actuators to park it coasts (R211). -/
def State.spindleDuties (s : State) (o : ObsMeas) : State :=
  if !s.gatesLive then s.idleDuties .off
  else match s.spState with
    | 2 => s.idleDuties (if s.mot.brakeWait then .off else .short)
    | 3 => s.alignDuties
    | 4 => s.rampDuties
    | 6 => if s.mot.brakeWait then s.idleDuties .off else s.focDuties o
    | 7 => if s.mot.brakeWait then s.idleDuties .off else s.focDuties o
    | 8 => if s.mot.brakeWait then s.idleDuties .off else s.focDuties o
    | 10 => s.focDuties o
    | _ => s.idleDuties .off

/-- −1 with INV set, else 1: INV reverses the output sign, and with it the sense of what is measured (R215). -/
def State.vcmSign (s : State) (a : Nat) : Int := if s.on (MOT_VCM_CFG.INV a) then -1 else 1

/-- The current command of VCM `a` in 1/65,536 A, inward positive (R215 to R218): TEST_I outward in a test, what holds LOAD_VEL or RET_VEL while
loading or retracting, IMAX ÷ 8 outward when the arm stands, else the coarse output. None where its gates are off. -/
def State.vcmCommand (s : State) (a : Nat) : Option Int :=
  let amps (ma : Nat) : Int := ((ma * 65536 / 1000 : Nat) : Int)
  let emf := s.vcmSign a * s.rdS (MOT_MEAS.EMF a)
  let cap (z : Int) : Int := max (-amps (s.rd (MOT_VCM_CFG.IMAX a))) (min (amps (s.rd (MOT_VCM_CFG.IMAX a))) z)
  let rv := s.rd (MOT_VCM_MOVE.RET_VEL a)
  match s.actState a with
  | 1 => if s.mot.waiting.getD a false then none else some (cap (-amps (s.rd (MOT_VCM_TEST.TEST_I a))))
  | 2 => some (cap (Config.emfCurrent (s.rd (MOT_VCM_MOVE.LOAD_VEL a)) emf))
  | 3 => some (cap (s.rdS (CTL_OUT.OUT a)))
  | 4 => some (if 10 * emf.natAbs < rv then -amps (s.rd (MOT_VCM_CFG.IMAX a) / 8) else cap (Config.emfCurrent (-(rv : Int)) emf))
  | _ => none

/-- The bridge of VCM `a`: its current loop with the gains of MOT_FOC_CFG scaled by VCM_KS; slow decay with REGEN clear or after a chopper fault
(R213, R215). -/
def State.vcmDuty (s : State) (a : Nat) : State :=
  let cmd := if s.gatesLive && s.actPresent a then s.vcmCommand a else none
  match cmd with
  | none => s.updMot (fun m => { m with accV := listSet m.accV a 0, drive := { m.drive with vcm := listSet m.drive.vcm a none } })
  | some c =>
    let bus := s.rd MOT_BUS.MV
    let p := s.rd MOT_PWM_CFG.PWM_PER
    let (v, acc) := piStep (s.rd MOT_FOC_CFG.KP) (s.rd MOT_FOC_CFG.KI) (s.rd (MOT_VCM_CFG.VCM_KS a)) bus (s.mot.accV.getD a 0)
      (s.vcmSign a * c - s.rdS (MOT_MEAS.CURRENT a) * 65536 / 1000)
    let d : VcmDrive :=
      { neg := decide (v < 0), width := min (Config.vcmWidth v.natAbs bus p) (p - s.rd MOT_PWM_CFG.DEADTIME),
        slow := !s.on (MOT_VCM_CFG.REGEN a) || s.mot.chopOff }
    s.updMot (fun m => { m with accV := listSet m.accV a acc, drive := { m.drive with vcm := listSet m.drive.vcm a (some d) } })

/-- New duties for the spindle, every VCM and the chopper, from the next carrier period (R202). -/
def State.newDuties (s : State) (o : ObsMeas) : State :=
  let t := (s.spindleDuties o).forEach [0, 1, 2, 3] (fun a t => t.vcmDuty a)
  let t := t.updMot (fun m => { m with drive := { m.drive with chop := m.chopOn && s.gatesLive } })
  t.emit (.pwm t.mot.drive)

/-- MOTOR_PWM_UPDATE: the first or half-bell update (R202 to R206, R210, R211). -/
def execMotorPwmUpdate (half : Bool) (o : ObsMeas) (s : State) : Res :=
  .next (
    if s.sys.inReset || s.mode == .bringUp || s.mode == .halted then s
    else
      let rpm := s.measuredRpm o
      let s := s.when (s.spRunning || s.spState == 8 || s.spState == 10) (fun t =>
        t.wrs [(MOT_SPEED.RPM, rpm), (MOT_SPEED.REVERSE, b2n o.reverse), (MOT_SP_STAT.FORWARD, b2n !o.reverse)])
      let lost := (s.spState == 6 || (s.spState == 10 && s.rd MOT_SP_STAT.SOURCE != 3)) && s.rotorLost o
      let s := s.updMot (fun m => { m with emfRun := if s.emfOff o then m.emfRun + 1 else 0, lastRpm := o.rpm, reloaded := false })
      let s := if lost then
          let t := (s.motBit MOT_STATUS.ROTOR_LOST).inc MOT_CNT.LOSSES
          (if s.spState = 10 then t.enterShort else if s.slow rpm then t.enterShort else t.enterCatch)
        else if s.spState = 8 ∧ s.slow rpm ∧ !s.mot.brakeWait then s.enterShort
        else s
      let s := if half then s else s.angleSource o
      let s := s.spindleLoop rpm
      let s := s.when ((s.spRunning || s.spState == 8) && !s.allParked && decide (100 * rpm < s.rd MOT_SP_CFG.UNLOAD_PCT * s.sys.cfg.rpm))
        State.unloadFirst
      -- A retract still under way when the speed reaches FLY_MIN in RIDE-THROUGH (R222).
      let s := s.when (s.mode == .rideThrough && !s.allParked && decide (100 * rpm ≤ s.rd MOT_SP_CFG.FLY_MIN * s.sys.cfg.rpm))
        (fun t => t.motBit MOT_STATUS.RT_LATE)
      -- An injection armed at the parity of a generator meets its next update (R471).
      let s := match s.armedAt 13 (fun a => decide (a < 2)) with
        | some j => s.genSelfCheck (Fin.ofNat 2 j.arg)
        | none => s
      s.newDuties o)

/-- PWM_LATE: the previous duties are repeated (R14). -/
def execPwmLate (s : State) : Res :=
  .next (((s.emit (.pwm s.mot.drive)).motBit MOT_STATUS.PWM_LATE).raiseSrc 0x147 ctx0)

/-- ENC_OFS_LEARNED: after 256 bells the mean becomes ENC_OFS when the spread is below 1/64 turn, and the encoder takes over in
the same update (R205). The mean is rounded down (log entry 156). -/
def execEncOfsLearned (s : State) : Res :=
  .next (
    if s.spState = 6 ∧ 256 ≤ s.mot.learn ∧ !s.on MOT_ENC_OFS.VALID then
      let m := s.mot
      let t := s.updMot (fun m => { m with learn := 0 })
      if m.learnHi - m.learnLo < 1024 then
        (t.wrs [(MOT_ENC_OFS.OFS, toBits 16 (m.learnBase + m.learnSum / 256)), (MOT_ENC_OFS.VALID, 1)]).spGo 7 3
      else t
    else s)

/-- OBS_DRIFT: 64 bells of drift: set, logged, and no fallback until 64 bells of agreement (R205). -/
def execObsDrift (s : State) : Res :=
  .next (
    if s.spState = 7 ∧ 64 ≤ s.mot.drift then
      ((s.updMot (fun m => { m with drift := 0, agree := 0, obsOk := false })).motBit MOT_STATUS.OBS_DRIFT).motLog
    else s)

/-! ### Brake chopper and bus (R213, R214) -/

/-- The chopper is faulty (R213): held off, MOT_CHOP, regenerative braking ends. -/
def State.chopFault (s : State) : State :=
  if s.mot.chopOff then s
  else
    let t := s.updMot (fun m => { m with chopOn := false, chopOff := true, chopTicks := 0 })
    let t := ((t.motBit MOT_STATUS.CHOP_FAULT).markFenced .chopper).raiseSrc 0x141 ctx0
    if s.spState = 8 then t.enterShort else t

/-- The chopper at a bus sample of `mv` millivolts, `ticks` of 10 ns after the conversion before it. -/
def State.chopSample (s : State) (mv ticks : Nat) : State :=
  let m := s.mot
  if m.chopOff || m.allOff then s
  else
    let on := if 100 * s.rd MOT_BUS_CFG.CHOP_ON < mv then true else if mv < 100 * s.rd MOT_BUS_CFG.CHOP_OFF then false else m.chopOn
    let held := on && m.chopOn
    let t := if held then m.chopTicks + ticks else 0
    let rise := held && decide (10000 ≤ t) && decide (m.chopStart + 10 * s.rd MOT_RT_CFG.CHOP_RISE < mv)
    let s := s.updMot (fun m =>
      { m with chopOn := on, chopBell := m.chopBell || on,
               chopTicks := if 10000 ≤ t then 0 else t, chopStart := if held ∧ t < 10000 then m.chopStart else mv })
    if rise then s.chopFault else s

/-- The quantity that a conversion of MS_k shows (R199, R517), rounded down: phase current in mA, voltage in mV, VCM current in mA, VCM voltage in
mV. -/
def adcValue (k code : Nat) : Int :=
  let mv : Int := ((code * 1500 : Nat) : Int)
  if k < 3 then (mv - 750 * 4096) * 1000 / (4096 * 40)
  else if k < 8 then mv * 16 / 4096
  else if k < 12 then (mv - 750 * 4096) * 1000 / (4096 * 150)
  else (mv - 750 * 4096) * 16 / 4096

/-- The pair slots take phase voltages: the gates are off in SENSE, CATCH or a power loss (R200). -/
def State.adcGatesOff (s : State) : Bool :=
  s.spState == 1 || s.spState == 5 || (s.mode == .rideThrough && s.mot.drive.sp == .off)

/-- The inputs of the rotating slot: with the gates off the phase voltages and the star point only; the auxiliary monitor's join it (R200, R502). -/
def State.rotation (s : State) : List Nat :=
  if s.adcGatesOff then [3, 4, 5, 6]
  else [3, 4, 5, 6, 12, 13, 14, 15] ++ [8, 9, 10, 11].filter (bitOf (s.rd MOT_AUX_CFG.AUX))

/-- The input of the next conversion, and the sequence after it (R200): `sample` when a sample point has passed since the conversion before, so that
the pair's two slots come first. -/
def State.adcNext (s : State) (sample : Bool) : State × Nat :=
  let m := s.mot
  let left := if sample then 2 else m.pairLeft
  if 0 < left then
    let k := if s.adcGatesOff then 3 + (m.adcVolt + (2 - left)) % 3 else if left = 2 then m.drive.pair.1 else m.drive.pair.2
    (s.updMot (fun m =>
      { m with pairLeft := left - 1, pairGot := if left = 2 then [] else m.pairGot,
               adcVolt := if left = 1 ∧ s.adcGatesOff then (m.adcVolt + 1) % 3 else m.adcVolt }), k)
  else
    let l := s.rotation
    let r := m.adcRot % l.length
    let k := if m.adcCyc < 4 then 8 + m.adcCyc else if m.adcCyc = 4 then 7 else l.getD r 3
    (s.updMot (fun m =>
      { m with adcCyc := (m.adcCyc + 1) % 6, adcRot := if m.adcCyc = 5 then (r + 1) % l.length else m.adcRot }), k)

/-- A phase current of the pair: with the second the currents of the period are complete, the third being minus the sum of the other two, unless a
PWM switchover falls in the period, when the previous ones are used (R200, R201). -/
def State.pairSample (s : State) (k : Nat) (ma : Int) : State :=
  match s.mot.pairGot with
  | [(j, x)] =>
    let v (i : Nat) : Int := if i = j then x else if i = k then ma else -(x + ma)
    s.updMot (fun m => { m with pairGot := [], swOver := false, current := if m.swOver then m.current else [v 0, v 1, v 2] })
  | _ => s.updMot (fun m => { m with pairGot := [(k, ma)] })

/-- MOTOR_ADC_CONVERSION: the next input of the sequence, 200 ns after the one before (R199, R200); a bus sample also switches the chopper (R213). In
P5 the cycle is off (R396). -/
def execMotorAdcConversion (sample : Bool) (code : BitVec 12) (s : State) : Res :=
  .next (
    if s.gated 5 then s else
    let (s, k) := s.adcNext sample
    let x := adcValue k code.toNat
    let age := s.rd (MOT_ADC.AGE k) + 20
    let s := s.forEach (List.range 16) (fun i t => t.addC (MOT_ADC.AGE i) 20)
    let s := s.wrs [(MOT_ADC.CODE k, code.toNat), (MOT_ADC.AGE k, 0)]
    let s := s.updMot (fun m => { m with chopTicks := if m.chopOn ∧ k ≠ 7 then m.chopTicks + 20 else m.chopTicks })
    if k < 3 then s.pairSample k x
    else if k = 7 then (s.wr MOT_BUS.MV x.toNat).chopSample x.toNat 20
    else if k < 8 then s
    else if k < 12 then s.wrS (MOT_MEAS.CURRENT (k - 8)) x
    else
      -- Back-EMF is the VCM voltage minus VCM_RES times the current (R215); a load integrates it as travel (R217).
      let a := k - 12
      let emf := x - s.rdS (MOT_MEAS.CURRENT a) * (s.rd (MOT_VCM_CFG.VCM_RES a) : Int) / 100
      let t := s.wrS (MOT_MEAS.EMF a) emf
      t.when (t.actState a == 2) (fun t => t.updMot (fun m => { m with travel := listModify m.travel a (· + t.vcmSign a * emf * age) })))

/-- BUS_TRIP (R214). -/
def execBusTrip (s : State) : Res := .next (((s.gatesAllOff).motBit MOT_STATUS.BUS_TRIP).raiseSrc 0x142 ctx0)

/-! ### The microactuator link (R197, R198, R219) -/

/-- The value sent for head `h`: its trim output, 0 when it is absent or its microactuator is fenced. -/
def State.maValue (s : State) (h : Nat) : Int :=
  if !s.headPresent h || bitOf (s.rd MOT_MA_FAULT.MASK) h then 0 else satS 16 (s.rdS (CTL_OUT.OUT (4 + h)))

/-- CRC-8 with polynomial x^8 + x^2 + x + 1 over bits [n+7:8] of `x`, most significant first, from seed `c` (R197). -/
def crc8 (x : Nat) : Nat → Nat → Nat
  | 0, c => c
  | n + 1, c =>
    let top := bitOf c 7 != bitOf x (n + 8)
    crc8 x n ((2 * c) % 256 ^^^ (if top then 7 else 0))

/-- The 112 bits of lane `a` of frame `no`: actuator number, frame count, the six values of its heads, head position 0 first, and the CRC (R197). -/
def maLane (a no : Nat) (vs : List Int) : BitVec 112 :=
  let body := (List.range 6).foldl (fun x p => x * 65536 + toBits 16 (vs.getD (6 * a + p) 0)) (a % 4 * 64 + no % 64)
  BitVec.ofNat 112 (256 * body + crc8 (256 * body) 104 0xFF)

/-- Sends a frame of 24 values; the lane of an absent actuator is held low. The steps of more than 1,024 codes are kept for R219 (R197, R198). -/
def State.sendMa (s : State) (vs : List Int) : State :=
  let step := (List.range 24).map (fun h => decide (1024 < (vs.getD h 0 - s.mot.maSent.getD h 0).natAbs))
  (s.updMot (fun m => { m with frameNo := (m.frameNo + 1) % 64, maSent := vs, stepLast := m.stepNow, stepNow := step })).emit
    (.maFrame ([0, 1, 2, 3].map (fun a => if s.actPresent a then some (maLane a s.mot.frameNo vs) else none)))

/-- MICROACTUATOR_FRAME: the 24 values, sent once a bell (R197). -/
def execMicroactuatorFrame (s : State) : Res :=
  .next (if s.sys.inReset || s.mode == .halted then s else s.sendMa ((List.range 24).map s.maValue))

/-- DAC_LATE (R14): the power stage keeps the previous values. -/
def execDacLate (s : State) : Res := .next ((s.motBit MOT_STATUS.DAC_LATE).raiseSrc 0x148 ctx0)

/-- The new runs of MA_OC and MA_OPEN (R219). -/
def State.maRuns (s : State) (v : Nat) : State :=
  s.updMot (fun m =>
    { m with ocRun := (List.range 24).map (fun h => if bitOf v (80 + h) then m.ocRun.getD h 0 + 1 else 0),
             openRun := (List.range 24).map (fun h =>
               if !m.stepLast.getD h false then m.openRun.getD h 0
               else if bitOf v (56 + h) then m.openRun.getD h 0 + 1 else 0) })

/-- RETURN_WORD: checked, kept, its flags applied (R198, R213, R219, R221); a bad word is discarded and counted, two in a row
raise MOT_LINK. -/
def execReturnWord (v : BitVec 112) (s : State) : Res :=
  .next (
    let x := v.toNat
    if bitsOf x 111 104 ≠ 0x5A ∨ crc8 x 104 0xFF ≠ x % 256 then
      let n := s.mot.badWords + 1
      let t := (s.updMot (fun m => { m with badWords := n })).inc MOT_CNT.RETURN_FAILS
      if n = 2 then (t.motBit MOT_STATUS.LINK_ERR).raiseSrc 0x140 ctx0 else t
    else
      let lanes := ([0, 1, 2, 3].filter (fun a => bitOf x (50 + a))).length
      let t := s.updMot (fun m => { m with badWords := 0, laneCrc := m.laneCrc + lanes })
      let t := t.forEach [0, 1, 2, 3] (fun k t => t.wr (MOT_RET_WORD.WORD k) (x / 2 ^ (32 * k)))
      let t := t.forEach (t.allActs.filter (fun a => bitOf x (40 + a))) (fun a t =>
        (t.setB (MOT_ASTATUS.VCM_OC a)).updMot (fun m => { m with testOc := listSet m.testOc a true }))
      let t := t.maRuns x
      let t := if (s.mot.chopPrev && !bitOf x 55) || bitOf x 54 then t.chopFault else t
      if bitsOf x 49 44 ≠ 0 then t.phaseFault MOT_STATUS.PHASE_SHORT else t)

/-- A head's microactuator is fenced (R219, R460): its trim loop is held OPEN, it counts as having lost its writer (R29). -/
def State.fenceMa (s : State) (h : Nat) : State :=
  let t := (s.wr ⟨MOT_MA_FAULT, h, h⟩ 1).motBit MOT_STATUS.MA_FAULT
  let t := (t.markFenced (.microact (Fin.ofNat 24 h))).dropGates true [h]
  let t := t.openLoop (4 + h)
  let t := t.setInh h (fun u => { u with inhSeek := true })
  t.writerLostZones h

/-- MA_FAULT: MA_OC or MA_OPEN on four consecutive frames (R219). -/
def execMaFault (h : Head) (s : State) : Res :=
  .next (
    if s.headPresent h && !bitOf (s.rd MOT_MA_FAULT.MASK) h.val &&
       (decide (4 ≤ s.mot.ocRun.getD h 0) || decide (4 ≤ s.mot.openRun.getD h 0)) then
      (s.raiseSrc (0x150 + h.val) { ctx0 with detail := h.val }).fenceMa h
    else s)

/-! ### Actuators (R215 to R218) -/

/-- Loading is allowed by the spindle (R211): a running state within ±0.5 % of PROF_4_TARGET. -/
def State.loadSpeedOk (s : State) : Bool :=
  let tgt := s.rd (PROF_TARGET.TARGET 4) % 16384
  let rpm := s.rd MOT_SPEED.RPM
  s.spRunning && decide (200 * (if tgt ≤ rpm then rpm - tgt else tgt - rpm) ≤ tgt)

/-- LOADING begins with no travel (R217). -/
def State.startLoad (s : State) (a : Nat) : State :=
  (s.updMot (fun m => { m with travel := listSet m.travel a 0 })).wr (MOT_ASTATUS.STATE a) 2

/-- MOT_LOAD: LOAD (R217), refused under R211 or without POL_OK. -/
def execMotLoad (w : Initiator) (a : Act) (s : State) : Res :=
  if !s.mayWrite w then .next s else
  .next (
    if !s.actPresent a || s.actState a != 0 then s
    else if s.loadSpeedOk && s.on (MOT_ASTATUS.POL_OK a) then s.startLoad a
    else s.refuseW w (MOT_CMD a) 3)

/-- MOT_RETRACT: RETRACT (R218). -/
def execMotRetract (a : Act) (s : State) : Res := .next (if s.actPresent a then s.retract a else s)

/-- MOT_TEST: TEST while PARKED, refused otherwise (R216). -/
def execMotTest (w : Initiator) (a : Act) (s : State) : Res :=
  if !s.mayWrite w then .next s else
  .next (
    if !s.actPresent a then s
    else if s.actState a = 0 then
      (s.updMot (fun m => { m with swapped := listSet m.swapped a false, testOc := listSet m.testOc a false, waiting := listSet m.waiting a false })).wr (MOT_ASTATUS.STATE a) 1
    else s.refuseW w (MOT_CMD a) 3)

/-- Actuator `a` is FENCED (R216, R460): MOT_VCM, and its domain's zones go OFFLINE (R29). -/
def State.fenceVcm (s : State) (a : Nat) : State :=
  let t := s.when (s.actState a == 2 || s.actState a == 3) (fun t => t.retract a)
  ((t.wr (MOT_ASTATUS.STATE a) 5).markFenced (.vcm (Fin.ofNat 4 a))).domainDead a

/-- VCM_TEST_END: after 2 ms the last conversions of the current and the voltage, their back-EMF and VCM_OC are judged (R216). -/
def execVcmTestEnd (a : Act) (s : State) : Res :=
  .next (
    if s.actState a ≠ 1 ∨ s.mot.waiting.getD a false then s
    else
      let ti := s.rd (MOT_VCM_TEST.TEST_I a)
      let fence (t : State) : State := (t.raiseSrc (0x14C + a.val) { ctx0 with detail := a.val }).fenceVcm a
      let current := (s.rdS (MOT_MEAS.CURRENT a)).natAbs
      let volts := (adcValue (12 + a) (s.rd (MOT_ADC.CODE (12 + a)))).natAbs
      let emf := s.rdS (MOT_MEAS.EMF a)
      if 2 * current < ti ∨ s.mot.testOc.getD a false ∨ 1000 * volts < ti * s.rd (MOT_VCM_CFG.VCM_RES a) then
        fence (s.setB (MOT_ASTATUS.TEST_FAIL a))
      else if emf.natAbs ≤ s.rd (MOT_VCM_TEST.TEST_V a) then s.wrs [(MOT_ASTATUS.POL_OK a, 1), (MOT_ASTATUS.STATE a, 0)]
      else if s.mot.swapped.getD a false then fence s
      else
        let p := 1 - s.rd (MOT_VCM_CFG.INV a)
        let t := s.wrs [(MOT_VCM_CFG.INV a, p), ((MOT_VCM_CFG.INV a).hold, p), (MOT_ASTATUS.POL_SWAP a, 1)]
        (t.motLog).updMot (fun m => { m with swapped := listSet m.swapped a true, waiting := listSet m.waiting a true }))

/-- VCM_TEST_REPEAT: 200 ms after a polarity swap the test repeats once (R216). -/
def execVcmTestRepeat (a : Act) (s : State) : Res :=
  .next (if s.actState a = 1 ∧ s.mot.waiting.getD a false then s.updMot (fun m =>
    { m with waiting := listSet m.waiting a false, testOc := listSet m.testOc a false }) else s)

/-- LOAD_OFF_RAMP: the travel has reached RAMP_TRAVEL: LOADED; the heads count as loaded from the next bell (R217, R175). -/
def execLoadOffRamp (a : Act) (s : State) : Res :=
  .next (
    if s.actState a = 2 ∧ 1000000 * (s.rd (MOT_VCM_MOVE.RAMP_TRAVEL a) : Int) ≤ s.mot.travel.getD a 0 then (s.wr (MOT_ASTATUS.STATE a) 3).updAct a (fun c => { c with loadPend := true, loadBells := some 0 })
    else s)

/-- RET_TIMEOUT (R218): set, HELM_BEAT stops, MOT_RETRACT. -/
def State.retTimeout (s : State) (a : Nat) : State :=
  ((s.setB (MOT_ASTATUS.RET_TIMEOUT a)).stopBeat 3).raiseSrc 0x143 { ctx0 with detail := a }

/-- LOAD_TRAVEL_TIMEOUT: 4 × RAMP_TRAVEL without the report (R217). -/
def execLoadTravelTimeout (a : Act) (s : State) : Res :=
  .next (
    if s.actState a = 2 ∧ 4000000 * (s.rd (MOT_VCM_MOVE.RAMP_TRAVEL a) : Int) ≤ s.mot.travel.getD a 0 then
      (s.wr (MOT_ASTATUS.STATE a) 4).retTimeout a
    else s)

/-- ACTUATOR_PARKED (R218): braking may begin once every actuator is PARKED (R211); a reload under R176 follows. -/
def execActuatorParked (a : Act) (s : State) : Res :=
  .next (
    if s.actState a ≠ 4 then s
    else
      let t := s.wr (MOT_ASTATUS.STATE a) 0
      let t := t.when t.allParked (fun t => t.updMot (fun m => { m with brakeWait := false }))
      if s.mot.reload.getD a false then
        let t := t.updMot (fun m => { m with reload := listSet m.reload a false })
        if t.loadSpeedOk && t.on (MOT_ASTATUS.POL_OK a) then t.startLoad a else t
      else t)

/-- RETRACT_TIMEOUT: not PARKED within RET_MAX of the request (R218). -/
def execRetractTimeout (a : Act) (s : State) : Res := .next (if s.actState a = 4 then s.retTimeout a else s)

/-! ### Disagreement of the PWM generators (R220) -/

/-- PWM_GEN_DISAGREE: both reload at the next period start; disagreeing again within that period is fatal. -/
def execPwmGenDisagree (s : State) : Res :=
  .next (
    if s.genFenced 0 || s.genFenced 1 then s
    else if s.mot.reloaded then s.pwmFatal
    else s.updMot (fun m => { m with reloaded := true }))

end Sys2Proof.Machine
end

