-- ==== Sys2Proof/Machine/Signal.lean ====
section
/-! DEFINITION. The signal path of a read channel (chapter 03): resampling (R53), gain and baseline (R55, R56), timing (R57, R58),
thermal asperities (R68), equaliser, detector and LLRs (R63 to R66), and the staged samples (R69). What the chapter gives by purpose
alone is a constant of Config (log entry 141). -/

namespace Sys2Proof.Machine

/-- The settings a channel's front end works with, as taken at the first-fragment gate open (R80). -/
structure RxCfg where
  readers : Nat
  rate : Nat
  first : Bool
  preamble : Nat
  target : Nat
  kFast : Nat
  kSlow : Nat
  blcShift : Nat
  blcEn : Bool
  taThresh : Nat
  taQual : Nat
  taTail : Nat
  taMax : Nat
  taEn : Bool
  taSwitch : Bool
  kp : Nat
  ki : Nat
  kpData : Nat
  zps : Bool
deriving DecidableEq, Repr

/-- The phases of a fragment (R58); `track` from the search on. -/
inductive RxPhase where
  | settle | gain | timing | track
deriving DecidableEq, Repr

/-- The channel bit at which the n-th retained sample lies: 1.08 samples to a bit (R53, R71). -/
def bitAt (n : Nat) : Nat := n * 25 / 27

/-- The retained samples that `b` channel bits take (R53, R69). -/
def samplesFor (b : Nat) : Nat := b * 27 / 25

/-- The phase of bit `b` of a fragment (R58). -/
def RxCfg.phase (k : RxCfg) (b : Nat) : RxPhase :=
  if b < (if k.first then 24 else 16) then .settle
  else if k.first && decide (b < 72) then .gain
  else if b < k.preamble - 16 then .timing
  else .track

/-- The retained stream of a reader: at 5.0 Gbit/s the ADC stream itself (R53). -/
def retained (rate : Nat) (adc : List Int) : List Int := if rate = 2 ^ 31 then adc else Config.resample rate adc

/-- The baseline estimate after one sample (R56): fast in the settle phase, frozen in a thermal asperity, zero with BLC_EN clear. -/
def RxCfg.baseStep (k : RxCfg) (ph : RxPhase) (frozen : Bool) (est x : Int) : Int :=
  if !k.blcEn then 0
  else if frozen then est
  else est + (x * 2 ^ Config.baselineBits - est) / 2 ^ (if ph = .settle then k.blcShift - 4 else k.blcShift)

/-- A sample departs from the baseline estimate by more than TA_THRESH (R68). -/
def RxCfg.beyond (k : RxCfg) (est x : Int) : Bool :=
  if !k.blcEn then decide (k.taThresh < x.natAbs)
  else decide (k.taThresh * 2 ^ Config.baselineBits < (x * 2 ^ Config.baselineBits - est).natAbs)

/-- The gain of a reader after one sample (R55): held in the settle and timing phases, between fragments, in a later fragment's preamble
and in a thermal asperity. -/
def RxCfg.gainAfter (k : RxCfg) (ph : RxPhase) (frozen : Bool) (g : Nat) (x : Int) : Nat :=
  if frozen then g
  else match ph with
    | .gain => min 288 (Config.gainStep k.kFast k.target g x)
    | .track => min 288 (Config.gainStep k.kSlow k.target g x)
    | .settle => g
    | .timing => if k.first then min 288 (Config.gainStep k.kSlow k.target g x) else g

/-- The codeword bit at which the front end stands: bits since the commit start less the mark, and less the rescue mark when it has
passed (R60, R71, log entry 142). -/
def ChanU.bitNow (c : ChanU) (preamble : Nat) : Nat :=
  let slotBit := bitAt c.rx.n - (preamble - 32)
  let pos := c.cur.note.fragPos.getD c.frag 32
  let k := slotBit - (pos + 40)
  c.cur.note.fragCw.getD c.frag 0 + (if c.frag = 0 then (if k < 280 then k else max 280 (k - 40)) else k)

/-- Records the end of an asperity span (R68): up to four in the descriptor; one longer than TA_MAX sets TA_LONG. A span that affects
one reader in two-reader mode with TA_SWITCH set is read by the other; any other span is erased. -/
def RxCfg.endSpan (k : RxCfg) (readerB : Bool) (start bit : Nat) (c : ChanU) : ChanU :=
  let kind := if k.readers = 3 ∧ k.taSwitch ∧ !c.rx.both then (if readerB then 1 else 2) else 0
  let d := if c.cur.taSpans.length < 4 then { c.cur with taSpans := c.cur.taSpans ++ [(start, bit)] } else c.cur
  let d := { d with note := { d.note with spans := d.note.spans ++ [(start, bit, kind)] } }
  let d := if 64 * k.taMax < bit - start then { d with flags := d.flags ||| 2 ^ 4 } else d
  let c := { c with cur := d }
  if readerB then { c with taB := none } else { c with taA := none }

/-- The asperity detector of one reader after one sample (R68): TA_QUAL consecutive samples beyond TA_THRESH start a span, 32 within it
end it. -/
def RxCfg.asperity (k : RxCfg) (readerB : Bool) (x : Int) (c : ChanU) : ChanU :=
  if !k.taEn then c
  else
    let est := if readerB then c.rx.baseB else c.rx.baseA
    let far := k.beyond est x
    let run := if far then (if readerB then c.rx.overB else c.rx.overA) + 1 else 0
    let within := if far then 0 else (if readerB then c.rx.inB else c.rx.inA) + 1
    let r := if readerB then { c.rx with overB := run, inB := within } else { c.rx with overA := run, inA := within }
    let c := { c with rx := r }
    let bit := c.bitNow k.preamble
    match (if readerB then c.taB else c.taA) with
    | none =>
      if run = k.taQual then
        let other := if readerB then c.taA.isSome else c.taB.isSome
        let c := { c with rx := { c.rx with started := c.rx.started + 1, both := c.rx.both || other },
                          cur := { c.cur with flags := c.cur.flags ||| 2 ^ 3 } }
        if readerB then { c with taB := some bit } else { c with taA := some bit }
      else c
    | some a =>
      if within = 32 then
        let c := k.endSpan readerB a bit c
        { c with rx := { c.rx with both := c.rx.both && (c.taA.isSome || c.taB.isSome) } }
      else c

/-- A sample as a byte of the store: 8-bit two's complement (R53). -/
def sampleByte (x : Int) : BitVec 8 := BitVec.ofInt 8 x

/-- The front end takes one retained sample of each reader in use. -/
def RxCfg.step (k : RxCfg) (x : Int × Int) (c : ChanU) : ChanU :=
  let useA := bitOf k.readers 0
  let useB := bitOf k.readers 1
  let b := bitAt c.rx.n
  let ph := k.phase b
  let frozen := c.taA.isSome || c.taB.isSome
  let gA := if useA then k.gainAfter ph frozen c.gainA x.1 else c.gainA
  let gB := if useB then k.gainAfter ph frozen c.gainB x.2 else c.gainB
  let z := if k.zps then Config.zeroPhase c.freq x.1 else 0
  let add := if k.preamble ≤ b then k.kpData else 0
  let first := decide (ph = .timing) && decide (c.rx.n = 0 ∨ k.phase (bitAt (c.rx.n - 1)) ≠ .timing)
  let (f, p) :=
    if first then (c.freq, z)
    else if frozen ∨ ph = .settle ∨ ph = .gain then (c.freq, c.rx.phase)
    else Config.timingStep (k.kp + add) (k.ki + add) c.freq c.rx.phase (if useA then x.1 else x.2)
  let pre := k.first && (decide (ph = .gain) || decide (ph = .timing))
  let r := { c.rx with
    n := c.rx.n + 1, phase := p,
    baseA := if useA then k.baseStep ph frozen c.rx.baseA x.1 else c.rx.baseA,
    baseB := if useB then k.baseStep ph frozen c.rx.baseB x.2 else c.rx.baseB,
    ampA := if pre && useA then c.rx.ampA + x.1.natAbs else c.rx.ampA,
    ampB := if pre && useB then c.rx.ampB + x.2.natAbs else c.rx.ampB,
    ampN := if pre then c.rx.ampN + 1 else c.rx.ampN,
    stage := if c.rx.commit then
        c.rx.stage ++ (if useA then [sampleByte x.1] else []) ++ (if useB then [sampleByte x.2] else []) else c.rx.stage }
  let c := { c with rx := r, gainA := gA, gainB := gB, freq := f }
  let c := if useA then k.asperity false x.1 c else c
  if useB then k.asperity true x.2 c else c

/-- The front end takes the ADC codes of a stretch: pairs of readers A and B (R53). -/
def RxCfg.take (k : RxCfg) (adc : List (Int × Int)) (c : ChanU) : ChanU :=
  let as := retained k.rate (adc.map (fun e => e.1))
  let bs := retained k.rate (adc.map (fun e => e.2))
  (as.zip bs).foldl (fun c x => k.step x c) { c with rx := { c.rx with started := 0 } }

/-- Bytes that one sample instant takes in the store: a pair in two-reader mode (R69). -/
def sampleWidth (readers : Nat) : Nat := if readers = 3 then 2 else 1

/-- The planned length of a fragment's commit in channel bits: from the commit start to 8 bits after its last codeword bit (R69). -/
def commitBits (lo hi : Nat) : Nat := 32 + 40 + (hi - lo) + (if lo = 0 then 40 else 0) + 8

/-- The commit of the fragment in hand stops 8 bits after its last codeword bit (R62, R69). -/
def Rx.closeFragment (r : Rx) (readers lo hi : Nat) : Rx :=
  { r with commit := false, stage := r.stage.take (r.fragAt + sampleWidth readers * samplesFor (commitBits lo hi)) }

/-! ### Equaliser and detector (R63 to R66, R75) -/

/-- What a re-detection works with: the words of the coefficient bank in use, the settings, and the rate class words. -/
structure DetCfg where
  word : Nat → Nat
  loop : List Nat
  npEn : Bool
  llrScale : Nat
  taTail : Nat

/-- The samples of reader A and of reader B in a slot (R69). -/
def splitSamples (flags : Nat) (bs : List (BitVec 8)) : List Int × List Int :=
  let xs := bs.map (fun b => b.toInt)
  if bitOf flags 7 then (xs, xs.map (fun _ => 0))
  else if bitOf flags 8 then (xs.map (fun _ => 0), xs)
  else
    let ev := (List.range ((xs.length + 1) / 2)).map (fun i => xs.getD (2 * i) 0)
    let od := (List.range (xs.length / 2)).map (fun i => xs.getD (2 * i + 1) 0)
    (ev, od)

/-- One 16-tap filter at sample `j`: taps are 10-bit two's complement, Q1.8 (R63). -/
def firAt (d : DetCfg) (base : Nat) (xs : List Int) (j : Nat) : Int :=
  ((List.range 16).map (fun t => sext 10 (d.word (base + t)) * (if t ≤ j then xs.getD (j - t) 0 else 0))).foldl (· + ·) 0

/-- The equalised stream of set `m`: the sum of both readers' filters (R63). -/
def equalise (d : DetCfg) (m : Nat) (as bs : List Int) : List Int :=
  (List.range as.length).map (fun j => firAt d (64 * m) as j + firAt d (64 * m + 16) bs j)

/-- The partial-response target of set `m`: 8-bit two's complement, Q2.5 (R63). -/
def targetOf (d : DetCfg) (m : Nat) : List Int := (List.range 4).map (fun t => sext 8 (d.word (64 * m + 32 + t)))

/-- The noise-prediction words of set `m`, by data pattern: three predictor taps, bias, log-variance; with NP_EN clear the predictors
are bypassed (R66). -/
def noiseWords (d : DetCfg) (m : Nat) : List (List Int) :=
  (List.range 32).map (fun c =>
    (List.range 3).map (fun t => if d.npEn then sext 10 (d.word (1024 + 256 * m + 8 * c + t)) else 0) ++
    [sext 8 (d.word (1024 + 256 * m + 8 * c + 3)), ((d.word (1024 + 256 * m + 8 * c + 4) : Nat) : Int)])

/-- The fragment that carries codeword bit `k`. -/
def fragmentOf (cws : List Nat) (k : Nat) : Nat := (cws.filter (fun c => decide (c ≤ k))).length - 1

/-- The bit position of codeword bit `k` in its fragment, from the commit start (R60, R75): the shift applies to the first fragment, and
with the primary mark missed bit 280 follows the rescue mark and bits 0 to 279 lie before it. -/
def codewordPos (r : RSlot) (shift : Int) (k : Nat) : Int :=
  let i := fragmentOf r.note.fragCw k
  if i = 0 then
    if bitOf r.flags 0 then (r.syncPos : Int) + shift + (if k < 280 then (k : Int) - 280 else (k : Int) - 240)
    else (r.syncPos : Int) + shift + 40 + (if k < 280 then (k : Int) else (k : Int) + 40)
  else (r.note.fragPos.getD i 32 : Int) + 40 + ((k : Int) - (r.note.fragCw.getD i 0 : Int))

/-- How the thermal asperities of a read leave codeword bit `k`: none, erased, or read by one reader alone (R68): an erased span
reaches from 16 bits before its start, and every span to TA_TAIL units of 8 bits after its end. -/
def spanKind (tail : Nat) (spans : List (Nat × Nat × Nat)) (k : Nat) : Option Nat :=
  if spans.any (fun (a, b, w) => w == 0 && decide (a ≤ k + 16) && decide (k ≤ b + 8 * tail)) then some 0
  else (spans.find? (fun (a, b, w) => w != 0 && decide (a ≤ k) && decide (k ≤ b + 8 * tail))).map (fun e => e.2.2)

/-- Saturates a scaled LLR to ±31 (R66). -/
def clampLlr (x : Int) : Int := max (-31) (min 31 x)

/-- The 37,120 LLRs of a sector from its slot's samples at a shift, in codeword bit order and before descrambling (R66, R75): missed
fragments and erased asperity spans give 0 (R61, R68), and a switched span uses the other reader's single-reader set (R64). -/
def detectLlrs (d : DetCfg) (r : RSlot) (samples : List (BitVec 8)) (shift : Int) : List Int :=
  let (as, bs) := splitSamples r.flags samples
  let np := noiseWords d (r.sets / 16 % 4)
  let cut (xs : List Int) (i : Nat) : List Int := xs.drop (r.fragOff.getD i 0)
  let soft (m : Nat) (as bs : List Int) : Nat → Int :=
    let eq := fun i => equalise d m (cut as i) (cut bs i)
    let bit := fun k => Config.interpolate r.trSnap d.loop (fragmentOf r.note.fragCw k) (eq (fragmentOf r.note.fragCw k)) (codewordPos r shift k)
    fun k => Config.softOut (targetOf d m) np ((List.range 37120).map bit) k
  let both := soft (r.sets % 16) as bs
  let onlyA := soft (bitsOf r.note.rate1 7 4) as (bs.map (fun _ => 0))
  let onlyB := soft (bitsOf r.note.rate1 11 8) (as.map (fun _ => 0)) bs
  (List.range 37120).map (fun k =>
    let i := fragmentOf r.note.fragCw k
    if 1 ≤ i ∧ r.fragDist.getD i 0 = 255 then 0
    else match spanKind d.taTail r.note.spans k with
      | some 0 => 0
      | some 1 => clampLlr (Config.roundEighths (onlyA k * d.llrScale))
      | some _ => clampLlr (Config.roundEighths (onlyB k * d.llrScale))
      | none => clampLlr (Config.roundEighths (both k * d.llrScale)))

/-- S of R67: the codeword bits whose |LLR| is at least LLR_STRONG. -/
def strongBits (strong : Nat) (llrs : List Int) : Nat := (llrs.filter (fun v => decide (strong ≤ v.natAbs))).length

/-- The parity bits of a buffer: one for each 64-bit word of its six-bit LLRs (R86). -/
def llrParity (llrs : List Int) : List Bool :=
  let w := llrs.foldr (fun v a => toBits 6 v + 64 * a) 0
  (List.range 3480).map (fun j => onesOf (w / 2 ^ (64 * j)) 64 % 2 == 1)

/-- The Hamming distance of 40 bits to a mark. -/
def markDistance (x mark : Nat) : Nat := onesOf (x ^^^ mark) 40

/-- The distances of a mark's pattern at the 33 positions of a search window (R59): `bits` holds the 72 hard decisions of the window,
the earliest in bit 71. -/
def windowDistances (bits mark : Nat) : List Nat := (List.range 33).map (fun p => markDistance (bits / 2 ^ (32 - p) % 2 ^ 40) (mark % 2 ^ 40))

end Sys2Proof.Machine
end

