-- ==== Sys2Proof/Machine/ReadChannel.lean ====
section
/-! DEFINITION. The read channels (chapter 03): the handling of one sector (R62), sync marks, thermal asperities, the
retention store with its selective mode, coefficient memory and spares. -/

namespace Sys2Proof.Machine
open Reg

/-! ### Configuration taken at gate open (R80) -/

/-- The nine configuration registers of a channel, by offset (CTRL to ADAPT_CFG). -/
def chanCfgOffsets : List Nat := [0x000, 0x004, 0x008, 0x00C, 0x010, 0x014, 0x018, 0x01C, 0x020]

/-- A configuration field as channel `n` has taken it. -/
def State.cfgRd (s : State) (n : Nat) (f : Fld) : Nat :=
  match ((s.chan n).cfgIn.find? (fun e => e.1 == f.addr)) with
  | some e => getF e.2 f.hi f.lo
  | none => s.rd f

/-- READERS as the channel has taken it at the sector's first gate open. -/
def ChanU.cfgReaders (c : ChanU) (n : Nat) : Nat :=
  match c.cfgIn.find? (fun e => e.1 == RCH_CTRL n) with
  | some e => getF e.2 2 1
  | none => 3

/-- Sets flag `b` of the descriptor of the sector in hand (R71). -/
def RSlot.flag (d : RSlot) (b : Nat) : RSlot := { d with flags := d.flags ||| 2 ^ b }
/-- Flag `b` is set. -/
def RSlot.has (d : RSlot) (b : Nat) : Bool := bitOf d.flags b

/-- The sector is marked by a flag (R74): PRIMARY_MISS, NO_SYNC, FRAG_MISS, TA or LOL. -/
def RSlot.marked (d : RSlot) : Bool := d.has 0 || d.has 1 || d.has 2 || d.has 3 || d.has 5

/-- Updates the descriptor of the sector in hand. -/
def State.updCur (s : State) (n : Nat) (f : RSlot → RSlot) : State := s.updChan n (fun c => { c with cur := f c.cur })

/-- Sets an RCH_n_STATUS bit with its interrupt. -/
def State.rchBit (s : State) (n : Nat) (f : Nat → Fld) : State := s.raiseBit (f n) (RCH_INT_EN n)

/-! ### The SPARE_MAP nibble and channel roles (R77, R82) -/

/-- Writes the RCH_SPARE_MAP group of actuator `a`. -/
def State.setSpareMap (s : State) (a pos : Nat) (sub : Bool) : State :=
  s.wr ⟨RCH_SPARE_MAP, 4 * a + 3, 4 * a⟩ (pos + 8 * b2n sub)

/-- Writes RCH_n_MAP: position served and role. -/
def State.setRole (s : State) (n pos role : Nat) : State := s.wrs [(RCH_MAP.POS n, pos), (RCH_MAP.ROLE n, role)]

/-- The spare of actuator `a` becomes idle. -/
def State.spareIdle (s : State) (a : Nat) : State := (s.setSpareMap a 7 false).setRole (24 + a) 7 2

/-- A head returns from its spare to its working channel (R77 RELEASE, at a gate open). -/
def State.finishRelease (s : State) (h : Nat) : State :=
  let a := h / 6
  let sp := 24 + a
  if s.spareSub a = some (h % 6) && (s.chan sp).releasing then
    let t := s.updChan h (fun c => { c with gainA := (s.chan sp).gainA, gainB := (s.chan sp).gainB, freq := (s.chan sp).freq })
    let t := t.updChan sp (fun c => { c with releasing := false, asked := false })
    (t.spareIdle a).setRole h (h % 6) 1
  else s

/-- The equaliser and noise-prediction sets of a rate class word 1 in a reader mode (R64, SETS of R71). -/
def setsOf (rate1 readers : Nat) : Nat :=
  (if readers = 1 then bitsOf rate1 7 4 else if readers = 2 then bitsOf rate1 11 8 else bitsOf rate1 3 0) +
  16 * bitsOf rate1 13 12

/-- The marks in force, as the global registers hold them (R37, R80). -/
def State.markWords (s : State) : List Nat :=
  [(s.reg RCH_PRIMARY_LO).toNat, (s.reg RCH_PRIMARY_HI).toNat, (s.reg RCH_RESCUE_LO).toNat,
   (s.reg RCH_RESCUE_HI).toNat, (s.reg RCH_FRAG_LO).toNat, (s.reg RCH_FRAG_HI).toNat]

/-- The 40-bit pattern of mark `j` (0 primary, 1 rescue, 2 fragment) of a list of mark words. -/
def patternOf (ws : List Nat) (j : Nat) : Nat := ws.getD (2 * j) 0 + 2 ^ 32 * (ws.getD (2 * j + 1) 0 % 256)

/-- Opens the gate of channel `n` on head `h` for a fragment that starts at codeword bit `cw` (R62, R80): a first fragment loads the rate class
entry, the starting gain and the staged settings; every fragment takes the marks in force. -/
def State.channelOpen (s : State) (n h : Nat) (d : SDesc) (frags : Nat) (first final : Bool) (rc cw : Nat) : State :=
  if first then
    if (s.chan n).fsm ≠ .idle then s
    else
      let cfg := chanCfgOffsets.map (fun o => (RCH_CTRL n + o, s.reg (RCH_CTRL n + o)))
      let r0 := (s.reg (rateAt (2 * rc))).toNat
      let r1 := (s.reg (rateAt (2 * rc + 1))).toNat
      let rd := s.rd (RCH_CTRL.READERS n)
      let start := s.rd (RCH_AGC_CFG.START_GAIN n)
      let carry := s.on (RCH_AGC_CFG.CARRY n)
      let note : RxNote := { RxNote.empty with rate0 := r0, rate1 := r1, fragPos := [32], fragCw := [0] }
      let cur : RSlot := { RSlot.empty with
        state := if s.on RCH_RET_CFG.RET_EN then 1 else 3, head := h, bell := s.bell, lba := d.lba, primaryDist := 255,
        rescueDist := 255, sets := setsOf r1 rd, fragDist := [0],
        flags := if rd = 1 then 2 ^ 7 else if rd = 2 then 2 ^ 8 else 0, note := note }
      s.updChan n (fun c => { c with
        fsm := .acquire, sector := some d, frag := 0, frags := frags, lastFrag := final, gate := true, slotIx := none, cur := cur,
        cfgIn := cfg, rate0 := r0, rate1 := r1, marks := s.markWords,
        gainA := if carry then c.gainA else start, gainB := if carry then c.gainB else start,
        asked := false, reserve := none, taA := none, taB := none, rescued := false, zeroFrags := [], buf := none,
        rx := { Rx.init with baseA := c.rx.baseA, baseB := c.rx.baseB } })
  else if (s.chan n).fsm = .fragWait then
    s.updChan n (fun c => { c with
      fsm := .fragAcq, frag := c.frag + 1, lastFrag := final, gate := true, marks := s.markWords, rx := { c.rx with n := 0 },
      cur := { c.cur with note := { c.cur.note with fragPos := c.cur.note.fragPos ++ [32], fragCw := c.cur.note.fragCw ++ [cw] } } })
  else s

/-- Closes the gate of channel `n` at the planned end of a fragment, whose last codeword bit is before `cw`: the commit stopped 8 bits after it
(R62). -/
def State.channelClose (s : State) (n : Nat) (final : Bool) (cw : Nat) : State :=
  s.updChan n (fun c =>
    if !final && (c.fsm == .data || c.fsm == .nosync) then
      { c with gate := false, fsm := .fragWait,
               rx := c.rx.closeFragment (c.cfgReaders n) (c.cur.note.fragCw.getD c.frag 0) cw }
    else { c with gate := false })

/-! ### Slots (R72, R73) -/

/-- The crossbar port of a channel (R11): positions 0 to 2 on the even port, 3 to 5 and the spare on the odd one. -/
def chanPort (n : Nat) : Nat := if n < 24 then n / 6 * 2 + (if n % 6 < 3 then 0 else 1) else (n - 24) * 2 + 1

/-- The first slot at or after index `i`, in ring order, that is not held. -/
def ringPick (held : Nat → Bool) (depth : Nat) : Nat → Nat → Nat
  | 0, i => i % depth
  | fuel + 1, i => if held (i % depth) then ringPick held depth fuel (i + 1) else i % depth

/-- Channel `n` takes its next slot in ring order, skipping held slots; it is FILLING (R72, R73). -/
def State.takeSlot (s : State) (n : Nat) : State :=
  let depth := s.rd RCH_RET_CFG.DEPTH
  if depth = 0 then s
  else
    let c := s.chan n
    let slots := (c.slots ++ List.replicate depth RSlot.empty).take depth
    let i := ringPick (fun k => (slots.getD k RSlot.empty).held) depth depth (s.rd (RCH_RET_PTR.NEXT n))
    let cur := { c.cur with seq := c.seqNo % 2 ^ 32, state := 1 }
    let t := s.updChan n (fun c => { c with slots := listSet slots i cur, slotIx := some i, cur := cur, seqNo := (c.seqNo + 1) % 2 ^ 32 })
    let t := t.wrs [(RCH_RET_PTR.NEXT n, (i + 1) % depth), (RCH_RET_PTR.SEQ n, (c.seqNo + 1) % 2 ^ 28)]
    t.putSlot n i

/-- Writes the staged bytes from offset `from_` on to the slot being filled, through the channel's port (R69, R72). -/
def State.storeStaged (s : State) (n from_ : Nat) : State :=
  match (s.chan n).slotIx with
  | none => s
  | some i => (s.writeBuf (chanPort n) 22 (4096 * s.slotPage n i + from_) ((s.chan n).rx.stage.drop from_)).1

/-- Writes the sector's descriptor to its slot in a state (R71). -/
def State.settleSlot (s : State) (n st : Nat) : State :=
  match (s.chan n).slotIx with
  | none => s.updCur n (fun d => { d with state := st })
  | some i =>
    let t := s.updCur n (fun d => { d with state := st })
    let cur := (t.chan n).cur
    let t := t.updChan n (fun c => { c with slots := listModify c.slots i (fun x => { cur with held := x.held }) })
    t.putSlot n i

/-! ### Selective mode (R74) -/

/-- The reservation of a commit (R74): min(12.5 GB/s, 1.25 × commit rate), in units of 2^-31 MB/s. -/
def commitReserve (readers rate0 : Nat) : Nat := min (12500 * 2 ^ 31) ((if readers = 3 then 2 else 1) * 6750 * rate0)

/-- The bandwidth of a port: 50 GB/s with two planes, 25 GB/s with one (R74). -/
def State.portBandwidth (s : State) : Nat := (if s.isFenced (.plane 0) || s.isFenced (.plane 1) then 25000 else 50000) * 2 ^ 31

/-- The sector is recorded NOT_RETAINED and counted (R74). -/
def State.notRetained (s : State) (n : Nat) : State :=
  let t := s.updCur n (fun d => { d with state := 3 })
  ((t.rchBit n RCH_STATUS.NOT_RETAINED).inc (RCH_EVT_CNT.NOT_RETAINED n)).inc RCH_SEL_CNT.NOT_RETAINED

/-- A marked sector asks to commit, once (R74): it is admitted when the reservations of the port fit. -/
def State.askCommit (s : State) (n : Nat) : State :=
  let c := s.chan n
  if !c.selective || c.asked || s.isShadow n then s
  else
    let s := s.updChan n (fun c => { c with asked := true })
    let own := commitReserve (s.cfgRd n (RCH_CTRL.READERS n)) c.rate0
    let others := (List.range 28).foldl (fun a m =>
      if m ≠ n ∧ chanPort m = chanPort n then a + (s.chan m).reserve.getD 0 + (s.chan m).draining.getD 0 else a) 0
    if !s.on RCH_RET_CFG.RET_EN || decide (s.portBandwidth < own + others) then s.notRetained n
    else
      let t := s.updChan n (fun c => { c with reserve := some own, cur := c.cur.flag 6, rx := { c.rx with admitAt := c.rx.stage.length } })
      if c.slotIx.isSome then t else (t.takeSlot n).storeStaged n 0

/-- A flag is set during a sector: the first one makes a sector in selective mode ask, except one that was in flight when
its channel entered the mode, which is decided at its end (R74). -/
def State.flagAsk (s : State) (n : Nat) : State :=
  if (s.chan n).slotIx.isSome && (s.chan n).reserve.isNone then s else s.askCommit n

/-! ### The sector's course (R62) -/

/-- The settings of channel `n`'s front end (R80). -/
def State.rxCfg (s : State) (n : Nat) : RxCfg :=
  let c := s.chan n
  let a := if n < 24 then n / 6 else n - 24
  { readers := s.cfgRd n (RCH_CTRL.READERS n), rate := c.rate0, first := c.frag == 0,
    preamble := if c.frag = 0 then s.preLen a else s.fpreLen a,
    target := s.cfgRd n (RCH_AGC_CFG.AGC_TARGET n), kFast := s.cfgRd n (RCH_AGC_CFG.K_FAST n), kSlow := s.cfgRd n (RCH_AGC_CFG.K_SLOW n),
    blcShift := s.cfgRd n (RCH_BLC_CFG.BLC_SHIFT n), blcEn := s.cfgRd n (RCH_BLC_CFG.BLC_EN n) != 0,
    taThresh := s.cfgRd n (RCH_TA_CFG.TA_THRESH n), taQual := s.cfgRd n (RCH_TA_CFG.TA_QUAL n),
    taTail := s.cfgRd n (RCH_TA_CFG.TA_TAIL n), taMax := s.cfgRd n (RCH_TA_CFG.TA_MAX n),
    taEn := s.cfgRd n (RCH_TA_CFG.TA_EN n) != 0, taSwitch := s.cfgRd n (RCH_TA_CFG.TA_SWITCH n) != 0,
    kp := s.cfgRd n (RCH_TR_CFG.KP n), ki := s.cfgRd n (RCH_TR_CFG.KI n), kpData := s.cfgRd n (RCH_TR_CFG.KP_DATA n),
    zps := s.cfgRd n (RCH_TR_CFG.ZPS n) != 0 }

/-- Channel `n` takes the ADC codes of both readers since its last event (R53 to R58): the loops run, a commit in progress stages and stores
the retained samples, and each asperity that starts sets TA, counts and marks the sector (R68, R69). -/
def State.feed (s : State) (n : Nat) (adc : List (Byte × Byte)) : State :=
  if (s.chan n).fsm = .idle then s
  else
    let at_ := (s.chan n).rx.stage.length
    let t := s.updChan n ((s.rxCfg n).take (adc.map (fun e => (e.1.toInt, e.2.toInt))))
    let t := t.storeStaged n at_
    let k := (t.chan n).rx.started
    let t := t.forEach (List.range k) (fun _ t => (t.rchBit n RCH_STATUS.TA).inc (RCH_EVT_CNT.TA n))
    if k = 0 then t else t.flagAsk n

/-- The timing state in the TR_STAT format (R71): frequency, phase, and lock while LOL is not set. -/
def ChanU.trStat (c : ChanU) : Nat := c.freq % 2 ^ 16 + 2 ^ 16 * (c.rx.phase % 64) + 2 ^ 22 * b2n (!c.cur.has 5)

/-- RETENTION_COMMIT_START: the front end has taken the preamble up to the commit start. A first fragment takes a slot, snapshots the timing
state and starts committing; in selective mode the sector stays in staging. A later fragment records its sample offset (R58, R62, R69). -/
def execRetentionCommitStart (n : Chan) (adc : List (Byte × Byte)) (s : State) : Res :=
  let t := s.feed n adc
  .next (
    match (s.chan n).fsm with
    | .acquire =>
      let t := t.updChan n (fun c => { c with
        cur := { c.cur with trSnap := c.trStat, fragOff := [0], note := { c.cur.note with baseA := c.rx.baseA, baseB := c.rx.baseB } },
        rx := { c.rx with commit := true, stage := [], fragAt := 0 } })
      if s.isShadow n || !s.on RCH_RET_CFG.RET_EN || (s.chan n).selective then t else t.takeSlot n
    | .fragAcq =>
      t.updChan n (fun c => { c with
        cur := { c.cur with fragOff := c.cur.fragOff ++ [c.rx.stage.length / sampleWidth (c.cfgReaders n)] },
        rx := { c.rx with commit := true, fragAt := c.rx.stage.length } })
    | _ => s)

/-- SYNC_SEARCH_START: the correlator starts, or a NOSYNC sector stays NOSYNC. -/
def execSyncSearchStart (n : Chan) (adc : List (Byte × Byte)) (s : State) : Res :=
  .next ((s.feed n adc).updChan n (fun c => match c.fsm with
    | .acquire => { c with fsm := .searchP }
    | .fragAcq => { c with fsm := if c.cur.has 1 then .nosync else .searchF }
    | _ => c))

/-- The first position of a list of distances, counted from `base`, within a tolerance: position and distance (R59). -/
def firstWithin (tol : Nat) : List Nat → Nat → Option (Nat × Nat)
  | [], _ => none
  | d :: ds, k => if d ≤ tol then some (k, d) else firstWithin tol ds (k + 1)

/-- The earliest best position of a list of distances (R59). -/
def bestOf : List Nat → Nat → Nat × Nat → Nat × Nat
  | [], _, b => b
  | d :: ds, k, b => bestOf ds (k + 1) (if d < b.2 then (k, d) else b)

/-- A sector's first LLR takes an LLR buffer; with none free LLR_FULL is set (R86; no register counts it, log entry 144). -/
def State.takeBuf (s : State) (n : Nat) : State :=
  match (s.chan n).sector with
  | none => s
  | some d =>
    if s.isShadow n then s
    else match s.freeBuf with
      | none => s.decBit DEC_STATUS.LLR_FULL
      | some b =>
        (s.updDec (fun x => { x with bufs := listSet x.bufs b (some { token := d.token, llrs := [], parity := [] }) })).updChan n
          (fun c => { c with buf := some b })

/-- A search ended without a mark: NO_SYNC (R62, log entry 20). -/
def State.toNosync (s : State) (n : Nat) : State :=
  let t := s.updChan n (fun c => { c with fsm := .nosync, cur := c.cur.flag 1 })
  ((t.rchBit n RCH_STATUS.NO_SYNC).inc (RCH_SYNC_CNT.NO_SYNC n)).flagAsk n

/-- SYNC_WINDOW_END: `bits` holds the 72 hard decisions of the window, the earliest in bit 71, and `rescue` the 40 that start 320 bits after an
accepted primary mark (R59, R60, R61). A fragment mark leaves BEST_POS and BEST_DIST as they are (log entry 143). -/
def execSyncWindowEnd (n : Chan) (adc : List (Byte × Byte)) (bits : BitVec 72) (rescue : BitVec 40) (s : State) : Res :=
  let s := s.feed n adc
  let c := s.chan n
  .next (
    let tol := s.cfgRd n (RCH_SYNC_CFG.SYNC_TOL n)
    match c.fsm with
    | .searchP =>
      let dist := windowDistances bits.toNat (patternOf c.marks 0)
      let best := bestOf dist 16 (16, 256)
      let s := s.updCur n (fun d => { d with bestPos := best.1, bestDist := best.2 })
      (match firstWithin tol dist 16 with
       | some (p, x) =>
         (s.updChan n (fun c =>
           { c with fsm := .data, cur := { c.cur with
               syncPos := p, primaryDist := x, rescueDist := markDistance rescue.toNat (patternOf c.marks 1),
               note := { c.cur.note with fragPos := listSet c.cur.note.fragPos 0 p } } })).takeBuf n
       | none =>
         let t := s.updCur n (fun d => d.flag 0)
         let t := t.rchBit n RCH_STATUS.PRIMARY_MISS
         let t := t.flagAsk n
         if s.cfgRd n (RCH_SYNC_CFG.RESCUE_EN n) = 1 then t.updChan n (fun c => { c with fsm := .searchR })
         else t.toNosync n)
    | .searchR =>
      let dist := windowDistances bits.toNat (patternOf c.marks 1)
      let best := bestOf dist 336 (336, 256)
      let s := s.updCur n (fun d => { d with bestPos := best.1, bestDist := best.2 })
      (match firstWithin tol dist 336 with
       | some (q, x) =>
         ((s.updChan n (fun c =>
           { c with fsm := .data, rescued := true, cur := { c.cur with
               syncPos := q, rescueDist := x, note := { c.cur.note with fragPos := listSet c.cur.note.fragPos 0 (q - 320) } } })).inc
             (RCH_SYNC_CNT.RESCUES n)).takeBuf n
       | none => s.toNosync n)
    | .searchF =>
      (match firstWithin (s.cfgRd n (RCH_SYNC_CFG.FRAG_TOL n)) (windowDistances bits.toNat (patternOf c.marks 2)) 16 with
       | some (p, x) =>
         s.updChan n (fun c => { c with fsm := .data, cur := { c.cur with
           fragDist := c.cur.fragDist ++ [x], note := { c.cur.note with fragPos := listSet c.cur.note.fragPos c.frag p } } })
       | none =>
         let t := s.updChan n (fun c =>
           { c with fsm := .data, zeroFrags := c.zeroFrags ++ [c.frag],
                    cur := { c.cur.flag 2 with fragDist := c.cur.fragDist ++ [255] } })
         ((t.rchBit n RCH_STATUS.FRAG_MISS).inc (RCH_EVT_CNT.FRAG_MISS n)).flagAsk n)
    | _ => s)

/-- DQM (R67). -/
def dqmOf (strong : Nat) : Nat := min 65535 (strong * 65536 / 37120)

/-- The new health word of a reader and its runs (R79): RUN counts sectors ended at maximum gain, `opn` those with an
amplitude below 8 LSB besides, `quiet` those with noise below 1 LSB RMS. A suspect clears when its run ends (DESIGN CHOICE,
log entry 143). -/
def State.health (s : State) (n : Nat) (b : Bool) (gain amp noise : Nat) : State :=
  let c := s.chan n
  let opn := if gain = 288 ∧ amp < 8 then (if b then c.openB else c.openA) + 1 else 0
  let quiet := if noise < 4 then (if b then c.quietB else c.quietA) + 1 else 0
  let run := if gain = 288 then s.rd (if b then RCH_HEALTH_B.RUN n else RCH_HEALTH_A.RUN n) + 1 else 0
  let t := s.updChan n (fun c => if b then { c with openB := opn, quietB := quiet } else { c with openA := opn, quietA := quiet })
  let t := if b then
      t.wrs [(RCH_HEALTH_B.AMP n, amp), (RCH_HEALTH_B.NOISE n, noise), (RCH_HEALTH_B.RUN n, satU 8 run),
        (RCH_HEALTH_B.OPEN_SUSPECT n, b2n (decide (16 ≤ opn))), (RCH_HEALTH_B.SHORT_SUSPECT n, b2n (decide (16 ≤ quiet)))]
    else
      t.wrs [(RCH_HEALTH_A.AMP n, amp), (RCH_HEALTH_A.NOISE n, noise), (RCH_HEALTH_A.RUN n, satU 8 run),
        (RCH_HEALTH_A.OPEN_SUSPECT n, b2n (decide (16 ≤ opn))), (RCH_HEALTH_A.SHORT_SUSPECT n, b2n (decide (16 ≤ quiet)))]
  t.when (decide (16 ≤ opn) || decide (16 ≤ quiet)) (fun t => t.rchBit n RCH_STATUS.READER_SUSPECT)

/-- The words of the coefficient memory that exist (R82), with the width of each: none for the others. -/
def coefWidth (word : Nat) : Option Nat :=
  if word < 1024 then
    (if word % 64 < 32 then some 10 else if word % 64 < 36 then some 8 else none)
  else if word < 2048 then
    (if word % 8 < 3 then some 10 else if word % 8 < 5 then some 8 else none)
  else none

/-- Writes a coefficient word of a channel's bank, mirrored into the spare's bank of the head position (R76). -/
def State.coefStore (s : State) (n key v : Nat) : State :=
  match coefWidth (key % 2048) with
  | none => s
  | some w =>
    let t := s.updChan n (fun c => { c with coef := sparseSet 0 c.coef key (v % 2 ^ w) })
    if n < 24 then t.updChan (24 + n / 6) (fun c => { c with coef := sparseSet 0 c.coef (n % 6 * 2048 + key % 2048) (v % 2 ^ w) })
    else t

/-- The bank a channel reads with: a spare's bank of the head it serves (R76, R77). -/
def State.activeBank (s : State) (n : Nat) : Nat := if n < 24 then 0 else s.rd (RCH_MAP.POS n) % 8

/-- The adapted taps of the active set are written back when the sector's DQM reaches ADAPT_MIN (R65); MAIN_TAP and targets are not. -/
def State.adaptBack (s : State) (n dqm : Nat) (llrs : List Int) : State :=
  if s.cfgRd n (RCH_ADAPT_CFG.ADAPT_EN n) = 0 ∨ dqm < s.cfgRd n (RCH_ADAPT_CFG.ADAPT_MIN n) then s
  else
    let main := s.cfgRd n (RCH_ADAPT_CFG.MAIN_TAP n)
    let c := s.chan n
    let base := s.activeBank n * 2048 + 64 * (c.cur.sets % 16)
    s.forEach ((List.range 32).filter (fun w => w % 16 != main)) (fun w t =>
      t.coefStore n (base + w) (Config.adaptTap (s.cfgRd n (RCH_ADAPT_CFG.MU n)) w (sparseGet 0 c.coef (base + w)) llrs c.rx.stage))

/-- What a detection on channel `n` works with: the active coefficient bank as it stands and the settings taken (R63, R66, R75). -/
def State.detCfg (s : State) (n : Nat) : DetCfg :=
  let c := s.chan n
  let bank := s.activeBank n * 2048
  { word := fun w => sparseGet 0 c.coef (bank + w),
    loop := [s.cfgRd n (RCH_TR_CFG.KP n), s.cfgRd n (RCH_TR_CFG.KI n), s.cfgRd n (RCH_TR_CFG.KP_DATA n), s.cfgRd n (RCH_TR_CFG.ZPS n)],
    npEn := s.cfgRd n (RCH_DET_CFG.NP_EN n) != 0, llrScale := s.cfgRd n (RCH_DET_CFG.LLR_SCALE n),
    taTail := s.cfgRd n (RCH_TA_CFG.TA_TAIL n) }

/-- The LLRs of codeword bits that a detection on channel `n` gives from a slot's samples at a shift (R66, R75, R109). -/
def State.sectorLlrs (s : State) (n : Nat) (d : RSlot) (samples : List Byte) (shift : Int) : List Int :=
  unscramble (detectLlrs (s.detCfg n) d samples shift)

/-- Writes a sector's LLRs into its buffer, with their parity bits (R86). -/
def State.fillBuf (s : State) (b : Option Nat) (tok : Nat) (llrs : List Int) : State :=
  match b with
  | none => s
  | some i => s.updDec (fun x => { x with bufs := listSet x.bufs i (some { token := tok, llrs := llrs, parity := llrParity llrs }) })

/-- Enters a sector in the recovery ladder as its read ends (R87, R93, R86). -/
def State.enterLadder (s : State) (n : Nat) (d : SDesc) (h sw0 : Nat) (slot : Option (Nat × Nat)) : State :=
  let c := s.chan n
  let tag := tokTag d.token
  let x : DSect :=
    { token := d.token, lba := d.lba, head := h, chan := n, slot := slot, dqm := c.cur.dqm, sw0 := sw0,
      syncPos := c.cur.syncPos, bestPos := c.cur.bestPos, rereads := ((s.sec? d.token).map (fun w => w.rereads)).getD 0,
      cls := ((s.cmd? tag).map (fun k => k.cls)).getD 3, age := s.dec.clock, buf := c.buf, shifts := [], shift := 0,
      fromTrial := false }
  let s := s.updDec (fun y => { y with clock := y.clock + 1 })
  let s := s.updSec d.token (fun w => { w with st := .decoding })
  if c.cur.has 1 then (s.releaseBuf c.buf).rung3 { x with buf := none }
  else if c.buf.isNone then s.rung2 x 0
  else s.updDec (fun y => { y with waiting := y.waiting ++ [x] })

/-- The sector's samples end: the front end takes the last of them, a thermal asperity that is still active ends with the sector (log entry
143), and the commit stops 8 bits after the last codeword bit (R62, R69). -/
def State.endSamples (s : State) (n : Nat) (adc : List (Byte × Byte)) : State :=
  let t := s.feed n adc
  let k := s.rxCfg n
  t.updChan n (fun c =>
    let c := match c.taA with | some a => k.endSpan false a 37119 c | none => c
    let c := match c.taB with | some a => k.endSpan true a 37119 c | none => c
    { c with rx := c.rx.closeFragment k.readers (c.cur.note.fragCw.getD c.frag 0) 37120 })

/-- The reservation of a sector that ends (R74): freed when its samples are written, which the reading of the staged ones at 1.25 times their
rate brings about by the end when the part staged at the admission was at most a fifth of the whole; else it drains. -/
def ChanU.freeReserve (c : ChanU) : ChanU :=
  { c with reserve := none, draining := if c.rx.stage.length < 5 * c.rx.admitAt then c.reserve else c.draining }

/-- SECTOR_END: 8 bits after the last codeword bit DQM is final, the LLRs lie in their buffer, the sector-end record is sent and the slot is
decided (R62, R66, R67, R72, R74, R79, R65). -/
def execSectorEnd (n : Chan) (adc : List (Byte × Byte)) (s : State) : Res :=
  .next (
    match (s.chan n).sector with
    | none => s
    | some d =>
      if !((s.chan n).fsm == .data || (s.chan n).fsm == .nosync) || !(s.chan n).lastFrag then s
      else
        let shadow := s.isShadow n
        let s := s.endSamples n adc
        let c := s.chan n
        let h := c.cur.head
        let llrs := if c.cur.has 1 then [] else s.sectorLlrs n c.cur c.rx.stage 0
        let dqm := if c.cur.has 1 then 0 else dqmOf (strongBits (s.cfgRd n (RCH_DET_CFG.LLR_STRONG n)) llrs)
        let sw0 := syndromeWeight (hardBits llrs)
        let rd := s.cfgRd n (RCH_CTRL.READERS n)
        let s := s.updCur n (fun x => { x with dqm := dqm, samples := c.rx.stage.length / sampleWidth rd, fragCount := c.frag + 1 })
        let s := s.wrs [(RCH_QUAL.DQM n, dqm), (RCH_AGC_STAT.GAIN_A n, c.gainA), (RCH_AGC_STAT.GAIN_B n, c.gainB),
          (RCH_TR_STAT.FREQ n, c.freq), (RCH_TR_STAT.PHASE n, c.rx.phase), (RCH_TR_STAT.LOCK n, b2n (!c.cur.has 5)),
          (RCH_SYNC_STAT.SYNC_POS n, c.cur.syncPos), (RCH_SYNC_STAT.PRIMARY_DIST n, c.cur.primaryDist),
          (RCH_SYNC_STAT.RESCUE_DIST n, c.cur.rescueDist)]
        let s := s.inc (RCH_SECT_CNT.SECTORS n)
        let smp := splitSamples c.cur.flags c.rx.stage
        let amp (x : Nat) : Nat := min 255 (if c.rx.ampN = 0 then 0 else x / c.rx.ampN)
        let s := s.when (bitOf rd 0) (fun t => t.health n false c.gainA (amp c.rx.ampA) (min 255 (Config.noiseRms smp.1)))
        let s := s.when (bitOf rd 1) (fun t => t.health n true c.gainB (amp c.rx.ampB) (min 255 (Config.noiseRms smp.2)))
        let s := s.adaptBack n dqm llrs
        let idle (t : State) : State :=
          t.updChan n (fun c => { c.freeReserve with fsm := .idle, sector := none, slotIx := none, buf := none, asked := false, taA := none, taB := none })
        if shadow then idle s
        else
          let s := s.fillBuf c.buf d.token llrs
          let mark := (s.chan n).cur.marked || decide (dqm < s.cfgRd n (RCH_DET_CFG.SEL_THRESH n))
          let s := s.when (c.selective && mark) (fun t => t.askCommit n)
          let keep := if (s.chan n).selective then (s.chan n).reserve.isSome && (s.chan n).slotIx.isSome
                      else (s.chan n).slotIx.isSome
          let s := s.settleSlot n (if keep then 2 else 3)
          let s := s.when (keep && (s.chan n).selective) (fun t => t.inc RCH_SEL_CNT.COMMITTED)
          let slot := if keep then (s.chan n).slotIx.map (fun i => (i, (s.chan n).cur.seq)) else none
          let rec0 : CRec :=
            { token := d.token, lba := d.lba, source := n, outcome := 0, iter := 0, step := 0,
              reread := ((s.sec? d.token).map (fun w => w.rereads)).getD 0, head := h, dqm := dqm, sw := sw0, aligned := false }
          idle (((s.postRec rec0).enterLadder n d h sw0 slot).judgeReaders h))

/-! ### Flags during a sector (R57, R68) -/

/-- THERMAL_ASPERITY_START: the samples up to the last of TA_QUAL beyond TA_THRESH: the front end finds the asperity (R68). -/
def execThermalAsperityStart (n : Chan) (adc : List (Byte × Byte)) (s : State) : Res := .next (s.feed n adc)

/-- THERMAL_ASPERITY_END: the samples up to the last of 32 within TA_THRESH: the span is recorded, up to four; one longer than TA_MAX sets
TA_LONG (R68). -/
def execThermalAsperityEnd (n : Chan) (adc : List (Byte × Byte)) (s : State) : Res := .next (s.feed n adc)

/-- LOSS_OF_LOCK: phase errors of 256 bits, in 1/64 bit, whose mean absolute value exceeds LOCK_THRESH set LOL for the sector (R57). -/
def execLossOfLock (n : Chan) (errs : List Int) (s : State) : Res :=
  let c := s.chan n
  let sum := errs.foldl (fun a e => a + e.natAbs) 0
  if c.fsm = .idle ∨ c.cur.has 5 ∨ errs.length ≠ 256 ∨ sum ≤ 256 * s.cfgRd n (RCH_TR_CFG.LOCK_THRESH n) then .next s
  else
    let t := s.updCur n (fun d => d.flag 5)
    .next (((t.rchBit n RCH_STATUS.LOL).inc (RCH_EVT_CNT.LOL n)).flagAsk n)

/-- SELECTIVE_MODE_ENTER: with a plane fenced or FORCE_SEL set, a channel enters selective mode at a burst boundary;
RET_STAT.MODE shows it (R74). -/
def execSelectiveModeEnter (n : Chan) (s : State) : Res :=
  if !(s.on RCH_RET_STAT.PLANE_CAUSE || s.on RCH_RET_CFG.FORCE_SEL) || (s.chan n).selective || !s.chanPresent n then .next s
  else
    let t := s.updChan n (fun c => { c with selective := true })
    let t := t.when (!t.on RCH_RET_STAT.MODE) (fun t => t.setB RCH_GSTATUS.MODE_CHANGE)
    .next (t.setB RCH_RET_STAT.MODE)

/-- The sector in hand of channel `n`, serving head `h`, is abandoned and returned to the scheduler: it is read again on a later revolution
(R20, R136). -/
def State.abandonReturn (s : State) (n h : Nat) : State :=
  match (s.chan n).sector with
  | none => s.abandonChannel h
  | some d => (s.abandonChannel h).returnSector h d true

/-- The sector in hand of channel `n` is abandoned: it has no complete LLRs and goes directly to the re-read rung (R93). -/
def State.abandonToLadder (s : State) (n h : Nat) : State :=
  match (s.chan n).sector with
  | none => s.abandonChannel h
  | some d => (s.abandonChannel h).rereadAbandoned h d

/-- CHANNEL_LATE: a channel missed a bound of R81: LATE is set and the sector is abandoned. -/
def execChannelLate (n : Chan) (s : State) : Res :=
  if !s.chanPresent n || (s.chan n).fsm == .idle then .next s
  else
    let h := (s.chan n).cur.head
    let t := (s.rchBit n RCH_STATUS.LATE).raise0 (0x020 + n.val)
    .next (if t.isShadow n then t.updChan n (fun c => { c with fsm := .idle, gate := false, sector := none })
           else t.abandonToLadder n.val h)

/-! ### Holds (R73) -/

/-- SLOT_HOLD_REQUEST: the pool asks to hold a slot naming its SEQ. -/
def execSlotHoldRequest (n : Chan) (slot : Fin 8) (seq : Word) (s : State) : Res :=
  .next (s.holdSlot n slot.val seq.toNat)

/-- SLOT_HOLD_GRANT: the oldest waiting request is granted once fewer than DEPTH − 1 slots of the channel are held; a
request whose SEQ no longer matches is refused and leaves. -/
def execSlotHoldGrant (n : Chan) (s : State) : Res :=
  match (s.chan n).holdWaits with
  | [] => .next s
  | (i, q) :: l =>
    let held := ((s.chan n).slots.filter (fun x => x.held)).length
    if s.rd RCH_RET_CFG.DEPTH ≤ held + 1 then .next s
    else .next ((s.updChan n (fun c => { c with holdWaits := l })).holdSlot n i q)

/-! ### Coefficient memory (R80, R82) -/

/-- COEF_DATA_WRITE: a write is queued; with the queue full a host write is dropped with COEF_DROP and a Helm write
stalls (the state is unchanged until it is presented again). -/
def execCoefDataWrite (w : Initiator) (n : Chan) (v : Word) (s : State) : Res :=
  if !s.mayWrite w then .next s else
  if !s.chanPresent n then .next s
  else
    let word := s.rd (RCH_COEF_ADDR.WORD n)
    let step (t : State) : State := t.when (t.on (RCH_COEF_ADDR.AUTO n)) (fun t => t.wr (RCH_COEF_ADDR.WORD n) (word + 1))
    if 64 ≤ (s.chan n).coefQ.length then
      (match w with
       | .helm => .next s
       | .host => .next (step (s.rchBit n RCH_STATUS.COEF_DROP)))
    else if (coefWidth word).isNone then .next (step s)
    else .next (step (s.updChan n (fun c => { c with coefQ := c.coefQ ++ [(s.rd (RCH_COEF_ADDR.BANK n) * 2048 + word, v.toNat)] })))

/-- COEF_QUEUE_APPLY: with the gate closed the queued writes apply in order, mirrored into the spare's bank (R76, R80). -/
def execCoefQueueApply (n : Chan) (s : State) : Res :=
  if (s.chan n).gate then .next s
  else
    let q := (s.chan n).coefQ
    .next ((s.forEach q (fun e t => t.coefStore n e.1 e.2)).updChan n (fun c => { c with coefQ := [] }))

/-! ### Spares (R77) -/

/-- The spare of an actuator can take a head: present, in service, not substituting. -/
def State.spareFree (s : State) (a : Nat) : Bool :=
  s.chanPresent (24 + a) && !s.on (RCH_MAP.FENCED (24 + a)) && (s.spareSub a).isNone

/-- Channel `n`, serving head `h`, is fenced or hands its head over in the middle of a sector: its slots are left as they are, and the sector
is read again on the next revolution, uncharged (R20, R77). -/
def State.dropInFlight (s : State) (n h : Nat) : State :=
  match (s.chan n).sector with
  | none => s.stopChannel n h true
  | some d => (s.stopChannel n h true).returnSector h d true

/-- The spare of actuator `a` takes head `h` (R77 steps 1 to 4): the working channel stops with its slots left as they are and the sector in
flight read again uncharged (R20); the spare takes its live configuration, the bank of the head, and its last gain and frequency. RCH_MAP of
the working channel then shows no position and role 0 (log entry 143). -/
def State.substitute (s : State) (h : Nat) : State :=
  let a := h / 6
  let sp := 24 + a
  let t := s.dropInFlight h h
  let t := t.forEach chanCfgOffsets (fun o t => t.setReg (RCH_CTRL sp + o) (t.reg (RCH_CTRL h + o)))
  let t := t.updChan sp (fun c => { c with fsm := .idle, gate := false, sector := none, slotIx := none, releasing := false,
                                           gainA := (s.chan h).gainA, gainB := (s.chan h).gainB, freq := (s.chan h).freq })
  let t := ((t.setRole h 7 0).setRole sp (h % 6) 3).setSpareMap a (h % 6) true
  t.setB RCH_GSTATUS.SPARE_DONE

/-- Stores the fields of a spare command; GO is cleared as it is done or refused. -/
def State.spareCmd (s : State) (a pos op : Nat) : State :=
  s.wrs [(RCH_SPARE_CMD.POS, pos), (RCH_SPARE_CMD.ACT, a), (RCH_SPARE_CMD.OP, op), (RCH_SPARE_CMD.GO, 0)]

/-- A spare command is refused: SPARE_REFUSED and an entry of the refusal log; a position of 6 or 7 is out of range. -/
def State.spareRefuse (s : State) (w : Initiator) (pos : Nat) : State :=
  if 6 ≤ pos then s.refuseW w RCH_SPARE_CMD 1 else (s.setB RCH_GSTATUS.SPARE_REFUSED).refuseW w RCH_SPARE_CMD 3

/-- SPARE_SUBST: refused when the spare is busy, fenced or absent, or the head is absent. -/
def execSpareSubst (w : Initiator) (a : Act) (pos : BitVec 3) (s : State) : Res :=
  if !s.mayWrite w then .next s else
  let h := a.val * 6 + pos.toNat
  if 6 ≤ pos.toNat then .next (s.spareRefuse w pos.toNat)
  else
    let s := s.spareCmd a.val pos.toNat 0
    if !s.headPresent h || !s.spareFree a.val then .next (s.spareRefuse w pos.toNat) else .next (s.substitute h)

/-- SPARE_RELEASE: the head returns to its working channel at the next gate open; refused while the working channel is
fenced or the spare does not substitute for the head. -/
def execSpareRelease (w : Initiator) (a : Act) (pos : BitVec 3) (s : State) : Res :=
  if !s.mayWrite w then .next s else
  let h := a.val * 6 + pos.toNat
  if 6 ≤ pos.toNat then .next (s.spareRefuse w pos.toNat)
  else
    let s := s.spareCmd a.val pos.toNat 1
    if s.spareSub a.val ≠ some pos.toNat ∨ s.on (RCH_MAP.FENCED h) then .next (s.spareRefuse w pos.toNat)
    else .next (s.updChan (24 + a.val) (fun c => { c with releasing := true }))

/-- SPARE_SHADOW: attaches an idle spare to a head for monitoring. -/
def execSpareShadow (w : Initiator) (a : Act) (pos : BitVec 3) (s : State) : Res :=
  if !s.mayWrite w then .next s else
  let h := a.val * 6 + pos.toNat
  if 6 ≤ pos.toNat then .next (s.spareRefuse w pos.toNat)
  else
    let s := s.spareCmd a.val pos.toNat 2
    if !s.headPresent h || !s.spareFree a.val then .next (s.spareRefuse w pos.toNat)
    else .next (((s.updChan (24 + a.val) (fun c => { c with fsm := .idle, gate := false, sector := none })).setRole
      (24 + a.val) pos.toNat 2).setSpareMap a.val pos.toNat false)

/-- SPARE_DETACH: detaches a spare that shadows a head; refused when it does not. -/
def execSpareDetach (w : Initiator) (a : Act) (pos : BitVec 3) (s : State) : Res :=
  if !s.mayWrite w then .next s else
  if 6 ≤ pos.toNat then .next (s.spareRefuse w pos.toNat)
  else
    let s := s.spareCmd a.val pos.toNat 3
    if s.isShadow (24 + a.val) && s.rd (RCH_MAP.POS (24 + a.val)) == pos.toNat then
      .next ((s.updChan (24 + a.val) (fun c => { c with fsm := .idle, gate := false, sector := none })).spareIdle a.val)
    else .next (s.spareRefuse w pos.toNat)

end Sys2Proof.Machine
end

