-- ==== Sys2Proof/Machine/TierMap.lean ====
section
/-! DEFINITION. Tier map entries (R23, R26): reading one from buffer memory and its checks against the present heads, the rate
class table (R54), the fit of a track (R130) and the fragment limit (R39). -/

namespace Sys2Proof.Machine
open Reg

/-- The layout of a track in hand: sectors placed, offset in the region, regions used, codeword bits of the sector in hand still to
place (0 between sectors), its fragments, the most fragments of any sector. -/
structure TrackFill where
  sectors : Nat
  ofs : Nat
  regions : Nat
  left : Nat
  frags : Nat
  most : Nat
deriving DecidableEq, Repr

/-- One placement of R38 in regions of `b` bits. -/
def trackStep (pre fpre gap b : Nat) (t : TrackFill) : TrackFill :=
  if t.left = 0 then
    let c := firstFragment pre gap (b - t.ofs)
    if c = 0 then { t with ofs := 0, regions := t.regions + 1 }
    else if c = 37120 then { t with ofs := t.ofs + (pre + 37224 + gap), sectors := t.sectors + 1, most := max t.most 1 }
    else { t with ofs := 0, regions := t.regions + 1, left := 37120 - c, frags := 1 }
  else
    let c := nextFragment fpre gap t.left b
    if c = 0 then { t with regions := t.regions + 1 }
    else if c = t.left then
      { t with ofs := fpre + 64 + c + gap, left := 0, sectors := t.sectors + 1, most := max t.most (t.frags + 1) }
    else { t with regions := t.regions + 1, left := t.left - c, frags := t.frags + 1 }

/-- Places sectors until `n` are placed or the `wedges` regions of a revolution are used; `fuel` bounds the placements. -/
def trackFill (pre fpre gap b wedges n : Nat) : Nat → TrackFill → TrackFill
  | 0, t => t
  | fuel + 1, t =>
    if n ≤ t.sectors ∨ wedges ≤ t.regions then t else trackFill pre fpre gap b wedges n fuel (trackStep pre fpre gap b t)

/-- The layout of the tracks of a tier. -/
def State.tierFill (s : State) (e : TierEntry) : TrackFill :=
  let w := s.sys.cfg.wedges
  trackFill (s.preLen e.domain) (s.fpreLen e.domain) (s.gapLen e.domain) (s.regionLen e.domain e.rateClass) w e.spt (2 * w + 2 * e.spt)
    { sectors := 0, ofs := 0, regions := 0, left := 0, frags := 0, most := 0 }

/-- Checks 3 to 5 of R26: 3 rate class, 4 fit, 5 fragment limit; none when they pass. -/
def State.tierFormat (s : State) (e : TierEntry) : Option Nat :=
  if 64 ≤ e.rateClass ∨ !bitOf (s.reg (rateAt (2 * e.rateClass + 1))).toNat 31 then some 3
  else
    let f := s.tierFill e
    if f.sectors < e.spt ∨ e.spt < 16 ∨ 2048 < e.spt then some 4
    else if 16 < f.most then some 5
    else none

/-- Tiers of a domain's system area (R46): no zone has slots there. That the slot count of check 6 refuses such an entry is DEDUCED (log entry 148). -/
def systemTiers : Nat := 64

/-- The checks of R26 after CHECK, in order: the number of the failed one as SCH_TIER_RESP gives it. -/
def State.tierCheck (s : State) (e : TierEntry) : Option Nat :=
  let heads := (tierPositions e).map (fun p => e.domain * 6 + p)
  let prim := ((s.media.primary.getD e.domain []).filter (fun x => x.1 == e.zone)).length
  if 4 ≤ e.domain ∨ 64 ≤ e.headMask ∨ heads = [] ∨ heads.any (fun h => !s.headPresent h) ∨ e.domain ≠ zoneDomain s.sys.cfg e.zone then some 2
  else match s.tierFormat e with
    | some c => some c
    | none =>
      if e.baseTrack < systemTiers ∨ zoneSectors s.sys.cfg < e.capacity ∨ e.tierCount * e.spt * heads.length < e.capacity + e.spareSlots + prim then some 6 else none

/-- Every installed entry passes checks 3 to 5 (R26, R39, R54, R130); in BRING-UP no entry is installed yet. -/
def State.tiersFit (s : State) : Bool :=
  s.mode == .bringUp || s.media.zones.all (fun z => match z.2.entry with | some e => (s.tierFormat e).isNone | none => true)

end Sys2Proof.Machine
end

