-- ==== Sys2Proof/Machine/Access.lean ====
section
/-! DEFINITION. Register reads and writes (chapter 21): what every register reads, the checks of a write with its holding copy and
bit alias (R483 to R487, R494), and the glue-up with its checks and effects (R488 to R491, R499). -/

namespace Sys2Proof.Machine
open Reg

/-! ### Reads -/

/-- The word of a 128-bit value. -/
def word128 (x k : Nat) : Word := BitVec.ofNat 32 (x / 2 ^ (32 * k))

/-- The register whose HI half a read of a LO half latches (R169, R456, R474, R482). -/
def latchOf (a : Nat) : Option Nat :=
  if a = SYS_OP_SEC_LO ∨ a = SRV_BELL_LO ∨ a = LOG_SEQ_LO then some (a + 4)
  else if WCH_FEC_BELL_LO 0 ≤ a ∧ a ≤ WCH_FEC_BELL_LO 4 ∧ (a - WCH_FEC_BELL_LO 0) % 32 = 0 then some (a + 4)
  else none

/-- What the register at a live offset reads, without side effects: the views of chapter 21 and the windows of the other units. -/
def State.liveRead (s : State) (a : Nat) : Word :=
  match regDesc? a with
  | none => 0
  | some (d, i) =>
    if !s.present d.kind i then 0
    else match s.sys.latches.find? (fun e => e.1 == a) with
    | some e => e.2
    | none =>
      if a = MEM_PSTATE_DATA then BitVec.ofNat 32 (s.pstate (s.rd MEM_PSTATE_ADDR.PAGE))
      else if MEM_ELOG_DATA 0 ≤ a ∧ a ≤ MEM_ELOG_DATA 3 then
        word128 ((s.mem.elog.head?.map ElogEnt.value).getD elogIdle) ((a - MEM_ELOG_DATA 0) / 4)
      else if a = DDR_DEV_CNT 0 ∨ a = DDR_DEV_CNT 1 then
        BitVec.ofNat 32 (satU 16 (sparseGet 0 (s.ddr i).devCnt (s.rd (DDR_DEV_CNT_ADDR.RANK i) * 16 + s.rd (DDR_DEV_CNT_ADDR.DEVICE i))))
      else if PCK_RES 0 ≤ a ∧ a ≤ PCK_RES 3 then word128 s.packResView ((a - PCK_RES 0) / 4)
      else if a = QFB_ROUTE_DATA then
        (match s.qfb.routes.find? (fun e => e.1 == s.rd QFB_ROUTE_ADDR.ADDR) with
         | some e => BitVec.ofNat 32 (e.2.hops + 256 * e.2.ports + 4096 * b2n (s.qfb.lost.contains e.1) + 8192 * e.2.port)
         | none => BitVec.ofNat 32 (255 + 4096 * b2n (s.qfb.lost.contains (s.rd QFB_ROUTE_ADDR.ADDR))))
      else if a = BQ_FRZ_DATA then
        let r := s.rd BQ_FRZ_SEL.RING
        if s.ringState r = 5 then
          BitVec.ofNat 32 (((s.freezeBits r).filter (fun i => i / 32 == s.rd BQ_FRZ_SEL.WORD)).foldl (fun x i => x + 2 ^ (i % 32)) 0)
        else 0
      else if RCH_COEF_DATA 0 ≤ a ∧ a ≤ RCH_COEF_DATA 27 ∧ a = RCH_COEF_DATA i then
        BitVec.ofNat 32 (sparseGet 0 (s.chan i).coef (s.rd (RCH_COEF_ADDR.BANK i) * 2048 + s.rd (RCH_COEF_ADDR.WORD i)))
      else if a = CTL_COEF_LO then
        BitVec.ofNat 32 (s.coefRaw (s.rd CTL_COEF_ADDR.LOOP) (s.rd CTL_COEF_ADDR.SET) (s.rd CTL_COEF_ADDR.WORD))
      else if a = CTL_COEF_HI then
        BitVec.ofNat 32 (s.coefRaw (s.rd CTL_COEF_ADDR.LOOP) (s.rd CTL_COEF_ADDR.SET) (s.rd CTL_COEF_ADDR.WORD) / 2 ^ 32 % 32)
      else if a = RCH_RET_STAT then setF (s.reg a) 28 16 (s.retSize (s.rd RCH_RET_CFG.DEPTH))
      else if a = SYS_XING_STAT then BitVec.ofNat 32 (min 127 s.sys.hostQ.length + 128 * min 127 s.sys.helmQ.length)
      else s.view a

/-- Where the register file keeps the live value that a read of a G window or register gives (R487). -/
def State.liveAt (s : State) (a : Nat) : Nat :=
  if a = WCH_SRC_CFG then srcCfgAt (s.rd WCH_SRC_SEL.SRC)
  else if a = RCH_RATE_DATA then rateAt (s.rd RCH_RATE_ADDR.SEL)
  else if a = LOG_SNAP_DATA then snapAt (s.rd LOG_SNAP_SEL.TYPE) (s.rd LOG_SNAP_SEL.ENTRY)
  else a

/-- The pending G values of a register: its holding copy, or for a window the entry's own, or its live value (R486, R487). -/
def State.holdRead (s : State) (a : Nat) : Word :=
  match regDesc? a with
  | none => 0
  | some (d, i) =>
    let l := s.liveAt a
    if !s.present d.kind i then 0
    else if l = a then s.reg (a + holdOff)
    else if s.reg (l + winMark) = 0 then s.reg l else s.reg (l + winPend)

/-- A read of BAR0 at any offset, without side effects (R486, R494, R500). -/
def State.barRead (s : State) (a : Nat) : Word :=
  if a < 0x200000 then s.liveRead a
  else if a < 0x400000 then s.holdRead (a - 0x200000)
  else if a < 0x4000000 then 0
  else
    let o := (a - 0x4000000) / 32 / 4 * 4
    if bitOf (s.liveRead o).toNat ((a - 0x4000000) / 4 % 32) then 1 else 0

/-! ### Writes -/

/-- Software can write the field: RW, RWH or G. -/
def FieldDesc.isPlain (f : FieldDesc) : Bool := f.acc == .rw || f.acc == .rwh || f.acc == .g

/-- A field's part of a word. -/
def FieldDesc.of (f : FieldDesc) (v : Word) : Nat := getF v f.hi f.lo

/-- Copies the fields `p` of `v` into `w`. -/
def copyFields (p : FieldDesc → Bool) (v : Word) : List FieldDesc → Word → Word
  | [], w => w
  | f :: fs, w => copyFields p v fs (if p f then setF w f.hi f.lo (f.of v) else w)

/-- The cause of the refusal of a field's value: RANGE, or MODE for a value that only FACTORY may write (R10, R492). -/
def State.fieldRefused (s : State) (v : Word) (f : FieldDesc) : Option Nat :=
  let x := f.of v
  match f.range with
  | some (lo, hi) => if x < lo ∨ hi < x then some 1 else none
  | none => if f.factory && x == 0 && !s.inFactory then some 2 else none

/-- The first refusal of a list of fields. -/
def State.fieldsRefused (s : State) (v : Word) : List FieldDesc → Option Nat
  | [] => none
  | f :: fs => match s.fieldRefused v f with | some c => some c | none => s.fieldsRefused v fs

/-- Registers that the host may not write (R402, R456, R482). -/
def hostBarred (a : Nat) : Bool :=
  a == SCH_IDLE_LO || a == SCH_IDLE_HI || a == SCH_LAT_TOL || a == SYS_WDOG_CFG || a == LOG_FW_TYPE || a == LOG_FW_DETAIL_LO ||
  a == LOG_FW_DETAIL_HI || a == LOG_CTRL

/-- The refusal of a write to BASE, RES or CFG of ring `r` (R328, R347). -/
def State.ringRegRefused (s : State) (who r : Nat) (isCfg : Bool) (v : Word) : Option Nat :=
  if r < 128 ∧ who = 0 then some 2
  else if s.ringState r ≠ 1 then some 3
  else if r = 128 ∧ isCfg then
    let n := getF v 15 0 + 1
    if n ≤ s.ringHead r ∨ n ≤ s.ringTail r then some 1 else none
  else none

/-- The refusals that depend on more than one field or on the unit's state, for a write whose resulting value is `v`: the cause. -/
def State.crossRefused (s : State) (who a i : Nat) (v : Word) : Option Nat :=
  let f (hi lo : Nat) : Nat := getF v hi lo
  let range (b : Bool) : Option Nat := if b then some 1 else none
  if who = 0 && hostBarred a then some 2
  else if 0x10000 ≤ a ∧ a < 0x10000 + 129 * 256 then
    (if a % 256 ≤ 0x0C then s.ringRegRefused who i false v else if a % 256 = 0x10 then s.ringRegRefused who i true v else none)
  else if a = SYS_TMR_CFG i then range (f 1 0 ≠ 0 ∧ f 26 3 = 0)
  else if a = WRP_HTR_CFG i then range (f 7 0 < f 15 8)
  else if a = MOT_BUS_CFG then range (f 7 0 ≤ f 15 8)
  else if a = QFB_TIMER_CFG then range (f 15 6 < 5 * f 5 0)
  else if a = QFB_CREDIT_CFG i then range (144 < f 7 0 + f 15 8 + f 23 16)
  else if a = RCH_COEF_ADDR i then range (if i < 24 then f 18 16 ≠ 0 else 5 < f 18 16)
  else if a = SRV_CFG i then range (f 1 1 = 1 ∧ s.sys.cfg.readers = 1)
  else if a = RCH_CTRL i then range (2 ≤ f 2 1 ∧ s.sys.cfg.readers = 1)
  else if a = PROF_TARGET 4 then range (f 13 0 ≠ 0 ∧ (f 13 0 < 5400 ∨ 10000 < f 13 0))
  else if a = BCC_MAINT_CMD then range (f 3 3 = 1 ∧ (f 2 0 = 3 ∨ f 2 0 = 5))
  else if a = WRP_PA_CMD i then range (f 25 25 = 1 ∧ f 24 24 = 1)
  else if a = RCH_RATE_DATA then range (s.rd RCH_RATE_ADDR.SEL % 2 = 0 ∧ (v.toNat < 0x1EB851EC ∨ 0x80000000 < v.toNat))
  else if a = WCH_SRC_CFG then
    let src := s.rd WCH_SRC_SEL.SRC
    range (f 2 0 < (defaultClass? src).getD 0 ∨ 4 < f 2 0 ∨ (f 6 6 = 1 ∧ defaultClass? src ≠ some 0))
  else if LGT_S_BUF i ≤ a ∧ a ≤ LGT_S_ATTR i ∧ 0x30000 ≤ a ∧ a < 0x3F000 then
    (if s.on (LGT_S_ATTR.ARM i) then some 3 else none)
  else if a = SEQ_FORMAT i ∧ !s.inFactory ∧ who ≠ 2 then some 2
  else if a = QFB_CFG ∧ !s.inFactory ∧ who ≠ 2 then
    (if f 10 0 ≠ getF (s.reg (QFB_CFG + holdOff)) 10 0 then some 2 else none)
  else none

/-- Registers whose every write is a command of the table of its own; REGISTER_WRITE does not write them. -/
def ownRow (a i : Nat) : Bool :=
  a == BQ_DOORBELL i || a == BQ_CTRL || a == RCH_COEF_DATA i || a == CTL_COEF_HI || a == WCH_FN_CTRL || a == SYS_GLUE

/-- Marks a group pending (R486). -/
def State.markPending (s : State) (g : Nat) : State := s.wr ⟨SYS_GLUE_PEND, g, g⟩ 1

/-- Stores the G fields of `v` in the holding copy of a register or of the entry of a window (R486, R487). -/
def State.writeHold (s : State) (a : Nat) (d : RegDesc) (fs : List FieldDesc) (v : Word) : State :=
  if !fs.any FieldDesc.isG then s
  else
    let w := copyFields FieldDesc.isG v fs (s.holdRead a)
    let l := s.liveAt a
    let t := if l = a then s.setReg (a + holdOff) w else (s.setReg (l + winPend) w).setReg (l + winMark) 1
    let t := if 0xD0000 ≤ a ∧ a < CTL_CFG 29 ∧ (a - 0xD0000) % 0x40 = 0 then
        t.updCtl (fun c => { c with named := c.named ++ [(a - 0xD0000) / 0x40] }) else t
    t.markPending (d.group.getD 0)

/-- What a write of one to a W1C bit clears with it: an emptied first-error capture (R461). -/
def State.clearedBits (s : State) (a i : Nat) (v : Word) : State :=
  if a = WCH_FEC_CTRL i ∧ WCH_FEC_CTRL 0 ≤ a ∧ getF v 0 0 = 1 then
    [WCH_FEC_INFO i, WCH_FEC_ADDR_LO i, WCH_FEC_ADDR_HI i, WCH_FEC_BELL_LO i, WCH_FEC_BELL_HI i, WCH_FEC_FINE i, WCH_FEC_CTRL i].foldl
      (fun t x => t.setReg x 0) s
  else s

/-- What a write of plain fields sets going: a written SRV_n_SKEW becomes the demodulator's skew (R157); a write of SYS_WDOG_CFG begins
the watchdog period (R456). -/
def State.wroteLive (s : State) (a i : Nat) : State :=
  if a = SYS_WDOG_CFG then s.updSys (fun u => { u with wdogFrom := u.time })
  else if a = SRV_SKEW i ∧ SRV_SKEW 0 ≤ a then s.updSrv i (fun u => { u with skew := s.rdS (SRV_SKEW.SKEW i) * 16 * 1024 }) else s

/-- Applies the fields `fs` of a write to the register at live offset `a`: G fields go to the holding copy, others at once (R486);
`live` is false for a write at the holding offset. -/
def State.applyWrite' (s : State) (a i : Nat) (d : RegDesc) (fs : List FieldDesc) (live : Bool) (v : Word) : State :=
  let t := s.writeHold a d fs v
  -- Firmware calibrates a head's heater through HTR_CFG (R121, R122).
  let t := if a = WRP_HTR_CFG i ∧ WRP_HTR_CFG 0 ≤ a then t.updHead i (fun u => { u with htrNew := true }) else t
  if !live then t
  else
    let plain (f : FieldDesc) : Bool := f.acc == .rw || f.acc == .rwh
    let w := copyFields plain v fs (t.reg a)
    -- W1C: a one clears (R484).
    let ones := fieldsMask (fun f => f.acc == .w1c) fs &&& v.toNat
    let w := BitVec.ofNat 32 (w.toNat - (w.toNat &&& ones))
    let t := if w = t.reg a then t else t.setReg a w
    (t.clearedBits a i v).wroteLive a i

/-- The cause of a refusal of a write of the fields `fs`; none when it is applied. -/
def State.writeRefused (s : State) (who a i : Nat) (fs : List FieldDesc) (live : Bool) (v : Word) : Option Nat :=
  let mine := fs.filter (fun f => if live then f.isPlain else f.isG)
  match s.fieldsRefused v mine with
  | some c => some c
  | none =>
    if mine.isEmpty then none
    else
      let base := copyFields FieldDesc.isG (s.holdRead a) (match regDesc? a with | some (d, _) => d.fields | none => []) (s.reg a)
      s.crossRefused who a i (copyFields (fun _ => true) v mine base)

/-- Enters the refusal of a write with the unit's own status bit (R273 SH_REFUSED). -/
def State.noteRefused (s : State) (who a i cause group : Nat) (holding : Bool) : State :=
  let t := if LGT_S_BUF i ≤ a ∧ a ≤ LGT_S_ATTR i ∧ 0x30000 ≤ a ∧ a < 0x3F000 then s.setB (LGT_STATUS.SH_REFUSED i) else s
  t.refuse a cause group who holding

/-- A write of `v` by initiator `who` (0 host, 1 Helm, 2 REG_INIT) to the fields `only` of the register at live offset `a`, at the live
or the holding offset. -/
def State.writeReg (s : State) (who a : Nat) (only : FieldDesc → Bool) (live : Bool) (v : Word) : State :=
  match regDesc? a with
  | none => s
  | some (d, i) =>
    if !s.present d.kind i || ownRow a i then s
    else
      let fs := d.fields.filter only
      match s.writeRefused who a i fs live v with
      | some c => s.noteRefused who a i c (d.group.getD 0) (!live)
      | none => s.applyWrite' a i d fs live v

/-- The data and token ports, whose aliases ignore writes (R494). -/
def aliasIgnored (a : Nat) : Bool :=
  (match regDesc? a with
   | some (_, i) => a == RCH_COEF_DATA i || a == PCK_JOB i
   | none => true) || a == PCK_KEY_DATA || a == WCH_INJ_TOKEN

/-- A write to a bit alias (R494). -/
def State.writeAlias (s : State) (who a b : Nat) (v : Word) : State :=
  if aliasIgnored a then s
  else
    let only (f : FieldDesc) : Bool := decide (f.lo ≤ b) && decide (b ≤ f.hi) && (f.isPlain || f.acc == .w1c)
    match regDesc? a with
    | none => s
    | some (d, _) =>
      let base := copyFields FieldDesc.isG (s.holdRead a) d.fields (copyFields (fun f => f.acc == .rw || f.acc == .rwh) (s.reg a) d.fields 0)
      s.writeReg who a only true (setF base b b (v.toNat % 2))

/-- A whole-word write at any BAR0 offset (R486, R494, R500). -/
def State.barWrite (s : State) (who a : Nat) (v : Word) : State :=
  if a < 0x200000 then s.writeReg who a (fun _ => true) true v
  else if a < 0x400000 then s.writeReg who (a - 0x200000) (fun _ => true) false v
  else if a < 0x4000000 then s
  else s.writeAlias who ((a - 0x4000000) / 32 / 4 * 4) ((a - 0x4000000) / 4 % 32) v

/-! ### Glue-up (R488 to R491) -/

/-- The bell-timed groups (R488). -/
def bellGroups : List Nat := [11, 12, 13, 14, 15, 16]
/-- The implemented groups. -/
def gluedGroups : List Nat := [0, 1, 8, 9, 10, 11, 12, 13, 14, 15, 16, 17, 18, 19, 20, 21, 22, 23, 24, 25]

/-- Live offsets of registers that may differ between their holding copy and their live value: those that the register file lists. -/
def State.glueCands (s : State) : List Nat :=
  ((s.regs.map (fun e => e.1)).filter (fun k => decide (k < 2 * holdOff))).map (fun k => k % holdOff)

/-- The registers of the groups with their descriptors, present ones only (R4). -/
def State.glueRegs (s : State) (gs : List Nat) : List (Nat × RegDesc) :=
  s.glueCands.filterMap (fun a =>
    match regDesc? a with
    | some (d, i) => (match d.group with
        | some g => if gs.contains g && s.present d.kind i && s.liveAt a == a then some (a, d) else none
        | none => none)
    | none => none)

/-- Entries of the windows of the groups that are pending: their live places (R487). -/
def State.glueWins (s : State) (gs : List Nat) : List Nat :=
  (s.regs.map (fun e => e.1)).filterMap (fun k =>
    let l := k - winMark
    if k % 0x1000000 < winMark ∨ k < 0x10000000 then none
    else if l / 0x1000000 = 0x11 then (if gs.contains 8 then some l else none)
    else if gs.contains 25 then some l else none)

/-- The live values after a glue-up of the groups. -/
def State.glueApply (s : State) (gs : List Nat) : State :=
  let t := s.forEach (s.glueRegs gs) (fun e t => t.setReg e.1 (copyFields FieldDesc.isG (t.reg (e.1 + holdOff)) e.2.fields (t.reg e.1)))
  let t := t.forEach (s.glueWins gs) (fun l t => (t.setReg l (t.reg (l + winPend))).setReg (l + winMark) 0)
  t.when (gs.contains 15) (fun t => t.updCtl (fun c => { c with named := [] }))

/-- A refused glue-up sets every holding copy of its groups back to the live value (R491). -/
def State.glueBack (s : State) (gs : List Nat) : State :=
  let t := s.forEach (s.glueRegs gs) (fun e t => t.setReg (e.1 + holdOff) (copyFields FieldDesc.isG (t.reg e.1) e.2.fields 0))
  let t := t.forEach (s.glueWins gs) (fun l t => (t.setReg (l + winPend) (t.reg l)).setReg (l + winMark) 0)
  t.when (gs.contains 15) (fun t => t.updCtl (fun c => { c with named := [] }))

/-- Two page ranges overlap. -/
def Rgn.meets (a b : Rgn) : Bool := decide (0 < a.2) && decide (0 < b.2) && decide (a.1 < b.1 + b.2) && decide (b.1 < a.1 + a.2)
/-- A range lies inside another. -/
def Rgn.inside (a b : Rgn) : Bool := decide (b.1 ≤ a.1) && decide (a.1 + a.2 ≤ b.1 + b.2)

/-- The areas of the table region with an owner (R474, R498): map blocks, trailer array, DDR training record, logbook rings. -/
def State.tableAreas (t : State) : List Rgn :=
  [(t.rd MEM_TABLE_RGN.BASE, mapPages (t.rd MEM_MAP_CFG.MAP_BLOCKS)), (t.rd MEM_TRAIL_CFG.BASE, 64), (t.rd DDR_TRAIN_PTR.PAGE, 3),
   (t.rd LOG_CTRL.LOG_BASE, 320)]

/-- Every area lies in the table region and no two meet. -/
def areasOk (table : Rgn) : List Rgn → Bool
  | [] => true
  | a :: l => a.inside table && l.all (fun b => !a.meets b) && areasOk table l

/-- The carve-up rules of R241 and the owner rules of the retention store (R70) and the cache region (R258), from `s` to `t`. -/
def State.carveOk (s t : State) : Bool :=
  let rs := [t.retRgn, t.cacheRgn, t.tableRgn]
  let old := [s.retRgn, s.cacheRgn, s.tableRgn]
  let sizes := t.retRgn.2 + t.cacheRgn.2 + t.tableRgn.2
  let outRet := (t.mem.pages.filter (fun e => e.2.retired && !t.inRegion e.1)).length
  let moved := s.retRgn != t.retRgn
  let badPage (e : Nat × PageInfo) : Bool := t.inRegion e.1 && (e.2.retired || ((e.2.owner.isSome || e.2.rp) && !s.inRegion e.1))
  !(t.retRgn.meets t.cacheRgn) && !(t.retRgn.meets t.tableRgn) && !(t.cacheRgn.meets t.tableRgn) &&
  rs.all (fun r => decide (r.1 + r.2 ≤ 16384)) &&
  (rs == old || !t.mem.pages.any badPage) &&
  !(moved && (s.on RCH_RET_CFG.RET_EN || t.on RCH_RET_CFG.RET_EN || s.chans.any (fun c => c.slots.any (fun x => x.held)))) &&
  decide (mapPages (t.rd MEM_MAP_CFG.MAP_BLOCKS) ≤ t.tableRgn.2) &&
  decide (t.rd MEM_POOL_CFG.POOL_MIN + sizes + outRet ≤ 16384) &&
  !(s.cacheRgn != t.cacheRgn && (s.on BCC_CTRL.EN || !s.on BCC_STATUS.DRAINED))

/-- Every single-instance pin function has at most one pin, and every pin timer at most one pin (R498). -/
def State.pinsOk (t : State) : Bool :=
  let pins := List.range 16
  [2, 3, 6].all (fun f => decide ((pins.filter (fun n => t.rd (PAD_GPIO_CFG.FUNC n) == f)).length ≤ 1)) &&
  (List.range 8).all (fun k =>
    let users := (pins.filter (fun n => (t.rd (PAD_GPIO_CFG.FUNC n) == 4 || t.rd (PAD_GPIO_CFG.FUNC n) == 5) && t.rd (PAD_GPIO_CFG.TIMER n) == k)).length
    decide (users + b2n (t.rd (SYS_TMR_CFG.USE k) == 1) ≤ 1))

/-- No auxiliary input belongs to the spindle or to a present actuator (R200, R498). -/
def State.auxOk (t : State) : Bool :=
  (List.range 16).all (fun k => !bitOf (t.rd MOT_AUX_CFG.AUX) k || (decide (8 ≤ k) && !t.actPresent (k % 4)))

/-- A line that leaves its owner has no record with PACED set on it (R276). -/
def State.paceOk (s t : State) : Bool :=
  (List.range 16).all (fun k =>
    let o := s.ownerOf 3 k
    o < 256 || o == t.ownerOf 3 k ||
      (let n := o - 256
       !((s.on (LGT_S_ATTR.ARM n) && s.on (LGT_S_ATTR.PACED n) && s.rd (LGT_S_ATTR.LINE n) == k) ||
         (s.lgtCh n).recs.any (fun r => r.paced && r.line == k))))

/-- The mirrored size fits the channels present (R246). -/
def State.mirOk (t : State) : Bool :=
  if t.rd DDR_MAP_CFG.CHANNELS = 3 then decide (t.mirSize + 2 ^ 20 ≤ t.dramCap) else t.rd DDR_MAP_CFG.MIR_SIZE == 0

/-- The peer windows, as ranges of pages of the 36-bit peer address (R421). -/
def State.winRgn (t : State) (w : Nat) : Rgn := (t.rd (QFB_WIN_BASE.BASE w), t.rd (QFB_WIN_CFG.PAGES w))
/-- No two peer windows overlap. -/
def State.winsOk (t : State) : Bool :=
  (List.range 16).all (fun i => (List.range 16).all (fun j => i == j || !(t.winRgn i).meets (t.winRgn j)))

/-- Loops whose CTL_n_CFG has been written, or would change, name VALID sets in the state that would result (R182, R491). -/
def State.glueSetsOk (s t : State) : Bool :=
  (List.range 29).all (fun n =>
    let kept := !s.ctl.named.contains n
    ((kept && s.rd (CTL_CFG.ACTIVE_SET n) == t.rd (CTL_CFG.ACTIVE_SET n)) || t.setValid n (t.rd (CTL_CFG.ACTIVE_SET n))) &&
    ((kept && s.rd (CTL_CFG.SAFE_SET n) == t.rd (CTL_CFG.SAFE_SET n)) || t.setValid n (t.rd (CTL_CFG.SAFE_SET n))))

/-- The check of one group on the resulting state `t` (R491): the cause it fails with. -/
def State.groupRefused (s t : State) (g : Nat) : Option Nat :=
  let conflict (ok : Bool) : Option Nat := if ok then none else some 4
  match g with
  | 0 | 1 => conflict t.pinsOk
  | 8 | 13 => if t.tiersFit then none else some 5
  | 10 => conflict (s.carveOk t)
  | 15 => if s.glueSetsOk t then none else some 6
  | 16 => conflict t.auxOk
  | 17 => conflict (s.carveOk t && areasOk t.tableRgn t.tableAreas)
  | 18 => if t.on BCC_CTRL.EN && t.rd MEM_CACHE_RGN.SIZE == 0 then some 3 else none
  | 19 => if !t.mirOk then some 1 else conflict (areasOk t.tableRgn t.tableAreas)
  | 20 => conflict (s.paceOk t)
  | 24 => conflict t.winsOk
  | 25 => conflict (areasOk t.tableRgn t.tableAreas)
  | _ => none

/-- The first failing group with its cause. -/
def State.glueRefused (s t : State) : List Nat → Option (Nat × Nat)
  | [] => none
  | g :: l => match s.groupRefused t g with | some c => some (g, c) | none => s.glueRefused t l

/-- Pages that enter a region leave the free list; pages that leave the regions join its tail in ascending order (R241). -/
def State.recarve (s t : State) : State :=
  if [s.retRgn, s.cacheRgn, s.tableRgn] == [t.retRgn, t.cacheRgn, t.tableRgn] then t.showPool
  else
    let out := (List.range 16384).filter (fun p => s.inRegion p && !t.inRegion p && !(t.pageInfo p).retired)
    (t.updMem (fun m => { m with free := (m.free.filter (fun p => !t.inRegion p)) ++ out })).showPool

/-- The retention store after a glue-up of group 10: moved or resized rings start empty; channels leave selective mode when FORCE_SEL
has been cleared with no plane fenced (R70, R74). -/
def State.gluedRetention (s t : State) : State :=
  let t := if s.retRgn != t.retRgn then { t with chans := t.chans.map (fun c => { c with slots := [], slotIx := none }) } else t
  if s.on RCH_RET_CFG.FORCE_SEL && !t.on RCH_RET_CFG.FORCE_SEL && !t.on RCH_RET_STAT.PLANE_CAUSE && t.on RCH_RET_STAT.MODE then
    ({ t with chans := t.chans.map (fun c => { c with selective := false, asked := false }) } : State).clr RCH_RET_STAT.MODE |>.setB RCH_GSTATUS.MODE_CHANGE
  else t

/-- The cache after a glue-up of group 18 (R258): EN cleared drains; EN set starts empty. -/
def State.gluedCache (s t : State) : State :=
  if s.on BCC_CTRL.EN && !t.on BCC_CTRL.EN then t.startDrain
  else if !s.on BCC_CTRL.EN && t.on BCC_CTRL.EN then
    ((t.updDram (fun d => { d with ways := [], draining := false })).clr BCC_STATUS.DRAINED).showOcc
  else t

/-- General timers start when a glue-up gives them a use or changes their settings (R502). -/
def State.gluedTimers (s t : State) : State :=
  t.updSys (fun u => { u with timers := (List.range 8).map (fun k =>
    if t.rd (SYS_TMR_CFG.USE k) = 0 then none
    else if s.reg (SYS_TMR_CFG k) = t.reg (SYS_TMR_CFG k) then u.timers.getD k none
    else some t.sys.time) })

/-- Group 12: a head whose WC_CFG has changed sends it at its next change to WRITE_ARMED (R121, R128); a newly written HTR_CFG is the
recalibration that ends the inhibition of a head for contacts (R122, log entry 143). -/
def State.gluedWrite (s t : State) : State :=
  t.forEach (List.range 24) (fun h t =>
    let t := if s.reg (WRP_WC_CFG h) = t.reg (WRP_WC_CFG h) then t else t.updHead h (fun u => { u with wcDue := true })
    if (t.head h).htrNew then t.setInh h (fun u => { u with htrNew := false, inhContact := false }) else t)

/-- What the units do at the glue-up of a group, from `s` to `t`. -/
def State.gluedGroup (s t : State) (g : Nat) : State :=
  match g with
  | 0 => s.gluedTimers t
  | 10 => s.recarve (s.gluedRetention t)
  | 11 => t.showService
  | 12 => s.gluedWrite t
  | 17 => s.recarve t
  | 18 => s.gluedCache t
  | _ => t

/-- Clears the pending bits of groups. -/
def State.unpend (s : State) (gs : List Nat) : State := s.forEach gs (fun g t => t.wr ⟨SYS_GLUE_PEND, g, g⟩ 0)

/-- Glues the groups as one glue-up for initiator `who` (3 the hardware), or refuses it whole (R489 to R491). -/
def State.glue (s : State) (gs : List Nat) (who : Nat) (bell : Bool) : State :=
  let t := s.glueApply gs
  match s.glueRefused t gs with
  | some (g, c) =>
    let t := (s.glueBack gs).unpend gs
    let t := t.wrs [(SYS_GLUE_STAT.REFUSED, 1), (SYS_GLUE_STAT.CAUSE, c), (SYS_GLUE_STAT.GROUP, g), (SYS_GLUE_STAT.BELL, b2n bell)]
    let t := t.when (g == 20) (fun t => t.setB LGT_GSTATUS.PACE_CONFLICT)
    (t.refuse 0 c g who false).irqIf (bitOf (t.reg SYS_INT_EN).toNat 4) SYS_GLUE_STAT 2
  | none =>
    let t := gs.foldl (fun t g => s.gluedGroup t g) (t.unpend gs)
    (t.wrs [(SYS_GLUE_STAT.DONE, 1), (SYS_GLUE_STAT.BELL, b2n bell)]).irqIf (bitOf (t.reg SYS_INT_EN).toNat 3) SYS_GLUE_STAT 1

/-- The bell-timed glue-up: pending groups that are not held (R490). -/
def State.bellGlue (s : State) : State :=
  let gs := bellGroups.filter (fun g => bitOf (s.reg SYS_GLUE_PEND).toNat g && !bitOf (s.reg SYS_GLUE_HOLD).toNat g)
  if gs.isEmpty then s else s.glue gs 3 true

end Sys2Proof.Machine
end

