-- ==== Sys2Proof/Machine/Registers.lean ====
section
/-! DEFINITION. The commands of chapter 21: register writes and reads by the host and the Helm cores, posted slow-domain writes,
the glue-up of a mask, the refusal log and the general timers. -/

namespace Sys2Proof.Machine
open Reg

/-! ### Who may reach a register -/

/-- The posted writes of an initiator (R496). -/
def State.postQ (s : State) (w : Initiator) : List (Nat × Word) := match w with | .host => s.sys.hostQ | .helm => s.sys.helmQ

/-- Replaces the posted writes of an initiator. -/
def State.setPostQ (s : State) (w : Initiator) (q : List (Nat × Word)) : State :=
  s.updSys (fun u => match w with | .host => { u with hostQ := q } | .helm => { u with helmQ := q })

/-- A BAR0 offset lies in a slow domain (R495). -/
def slowAt (a : Nat) : Bool :=
  let o := if a < 0x400000 then a % 0x200000 else (a - 0x4000000) / 32 / 4 * 4
  match regDesc? o with
  | some (d, _) => d.dom == .slow
  | none => false

/-- Applies posted writes of an initiator in order until one that is in a slow domain is at the head; `fuel` bounds them (R496). -/
def State.drainFast (s : State) (w : Initiator) : Nat → State
  | 0 => s
  | fuel + 1 =>
    match s.postQ w with
    | [] => s
    | (a, v) :: q => if slowAt a then s else ((s.setPostQ w q).barWrite (initCode w) a v).drainFast w fuel

/-! ### Configuration space and the MSI-X table -/

/-- The bits of a configuration dword that the host writes, of those that a rule of the manual uses and those of the specification's
headers (R304, R306, log entry 29). Initiate Function Level Reset and the power state are commands of their own. -/
def cfgWritable (ofs : Nat) : Nat :=
  match ofs with
  | 0x004 => 0x0546
  | 0x00C => 0xFF
  | 0x010 => 0xF8000000
  | 0x014 | 0x01C | 0x024 => 0xFFFFFFFF
  | 0x020 => 0xFFFFC000
  | 0x03C => 0xFF
  | 0x050 => 0xC0000000
  | 0x078 => 0x7FFF
  | 0x080 | 0x098 | 0x0A0 => 0xFFFF
  | 0x104 | 0x108 | 0x10C | 0x110 | 0x114 | 0x118 => 0xFFFFFFFF
  | 0x20C => 0xFFFFFFFF
  | 0x218 => 0xFFFFFFFF
  | _ => 0

/-- The bits that the byte enables select. -/
def beMask (be : Nat) : Nat := ((List.range 4).filter (bitOf be)).foldl (fun m i => m + 255 * 2 ^ (8 * i)) 0

/-- Merges the masked bits of `v` into `old`. -/
def mergeBits (mask : Nat) (v old : Nat) : Nat := (v &&& mask) + (old - (old &&& mask))

/-- A configuration write; messages that a cleared Function Mask releases are sent (R311). -/
def State.cfgWrite (s : State) (ofs be : Nat) (v : Word) : State :=
  let m := cfgWritable ofs &&& beMask be
  let x := BitVec.ofNat 32 (mergeBits m v.toNat (s.cfgDw ofs))
  (s.updLink (fun l => { l with cfgSpace := sparseSet (cfgReset ofs) l.cfgSpace ofs x })).msixFlush

/-- A write to the MSI-X table of BAR4; the pending-bit array is read-only (R311). -/
def State.msixWrite (s : State) (a be : Nat) (v : Word) : State :=
  let k := a / 16
  if 129 ≤ k then s
  else
    let mm (old : Nat) : Nat := mergeBits (beMask be) v.toNat old
    let f (m : Msix) : Msix := match a % 16 / 4 with
      | 0 => { m with addr := m.addr / 2 ^ 32 * 2 ^ 32 + mm (m.addr % 2 ^ 32) }
      | 1 => { m with addr := m.addr % 2 ^ 32 + 2 ^ 32 * mm (m.addr / 2 ^ 32) }
      | 2 => { m with data := mm m.data }
      | _ => { m with masked := bitOf (mm (b2n m.masked)) 0 }
    (s.updLink (fun l => { l with msix := listModify l.msix k f })).msixFlush

/-! ### Writes -/

/-- A whole-word write of an initiator enters its posted queue of 64 when an earlier one waits or it is in a slow domain; otherwise it
is applied at once (R495, R496). With the queue full the write waits outside. -/
def State.postWrite (s : State) (w : Initiator) (a : Nat) (v : Word) : State :=
  let q := s.postQ w
  if q.isEmpty && !slowAt a then s.barWrite (initCode w) a v
  else if 64 ≤ q.length then s
  else s.setPostQ w (q ++ [(a, v)])

/-- A BAR0 offset that reads in this mode: in HALTED only the SYS, WCH and LOG blocks (R428). -/
def State.haltReadable (s : State) (a : Nat) : Bool :=
  s.mode != .halted || decide (a < 0x10000) || (decide (0x100000 ≤ a) && decide (a < 0x110000))

/-- A BAR0 offset that a write reaches in this mode: in HALTED only the read-select registers; SYS_RESET_CMD is a command of its own
(R428). -/
def State.haltWritable (s : State) (a : Nat) : Bool :=
  s.mode != .halted || a == LOG_READ_IDX || a == SYS_MEAS_SEL || a == WCH_SRC_SEL

/-- REGISTER_WRITE: a write that is not of whole words is discarded (R309, R483), a poisoned one too (R316); others reach the
register in the issue order of their initiator (R496). -/
def execRegisterWrite (w : Initiator) (sp : RegSpace) (a : BitVec 27) (be : BitVec 4) (poison : Bool) (v : Word) (s : State) : Res :=
  .next (
    match sp with
    | .config => if s.on BQ_LINK_STAT.UP && s.sys.regOpen && !s.link.resetting && w == .host then s.cfgWrite (a.toNat / 4 * 4) be.toNat v else s
    | .msix => if s.canReach w && w == .host then s.msixWrite (a.toNat / 4 * 4) be.toNat v else s
    | .bar0 =>
      if !s.canReach w || !s.haltWritable (a.toNat / 4 * 4) then s
      else if poison && w == .host then (s.setB BQ_LINK_EVT.POISON_RX).emit .aerPoison
      else if be ≠ 15 then
        (match w with
         | .host => (s.setB BQ_LINK_EVT.BAR0_PARTIAL).inc BQ_LINK_CNT.PARTIALS
         | .helm => (s.raiseBit SYS_STATUS.PARTIAL SYS_INT_EN).refuseW .helm (a.toNat / 4 * 4 % holdOff) 7)
      else s.postWrite w (a.toNat / 4 * 4) v)

/-- SLOW_WRITE_APPLY: the posted slow-domain write at the head of an initiator's queue is applied, and the fast ones behind it
(R495, R496). -/
def execSlowWriteApply (w : Initiator) (s : State) : Res :=
  .next (
    match s.postQ w with
    | [] => s
    | (a, v) :: q => ((s.setPostQ w q).barWrite (initCode w) a v).drainFast w 64)

/-- SYS_GLUE: the non-bell-timed groups of the mask are glued as one (R489). -/
def execSysGlue (w : Initiator) (mask : Word) (s : State) : Res :=
  .next (
    if !s.mayWrite w || !(s.postQ w).isEmpty then s
    else
      let gs := gluedGroups.filter (fun g => bitOf mask.toNat g && !bellGroups.contains g)
      if gs.isEmpty then s else s.glue gs (initCode w) false)

/-! ### Reads -/

/-- The value that a host read of a slow register returns in an RC field: the shadow, which lacks `lag` of the live count (R495,
R497). -/
def shadowWord (fs : List FieldDesc) (v lag : Word) : Word :=
  fs.foldl (fun w f => if f.acc == .rc then setF w f.hi f.lo (f.of v - f.of lag) else w) v

/-- Clears the RC fields of a register by the value read (R484, R497). -/
def State.rcClear (s : State) (a i : Nat) (fs : List FieldDesc) (read : Word) : State :=
  if a = WCH_SRC_CNT then s.updWatch (fun w => { w with srcCnt := sparseSet 0 w.srcCnt (s.rd WCH_SRC_SEL.SRC) 0 })
  else if a = DDR_DEV_CNT i then
    s.updDdr i (fun c => { c with devCnt := sparseSet 0 c.devCnt (s.rd (DDR_DEV_CNT_ADDR.RANK i) * 16 + s.rd (DDR_DEV_CNT_ADDR.DEVICE i)) 0 })
  else if fs.any (fun f => f.acc == .rc) then
    s.setReg a (fs.foldl (fun w f => if f.acc == .rc then setF w f.hi f.lo (f.of w - f.of read) else w) (s.reg a))
  else s

/-- RC_READ: a read returns the register and clears its read-clear fields by the value returned; a LO half latches its HI (R484,
R497). `lag` is what the shadow of a slow register lacks in a host read. A read of COEF_DATA advances WORD (R82). An alias read has no side effect (R494). -/
def execRcRead (w : Initiator) (a : BitVec 27) (lag : Word) (s : State) : Res :=
  .next (
    let o := a.toNat / 4 * 4
    let slow := slowAt o && w == .host
    if !s.canReach w || (!slow && !(s.postQ w).isEmpty) then s
    else if !s.haltReadable o then s.emit (.regRead 0)
    else if 0x200000 ≤ o then
      s.emit (.regRead ((s.seenBy w (if o < 0x4000000 then o else (o - 0x4000000) / 32 / 4 * 4)).barRead o))
    else match regDesc? o with
      | none => s.emit (.regRead 0)
      | some (d, i) =>
        let v := (s.seenBy w o).liveRead o
        let v := if slow then shadowWord d.fields v lag else v
        let t := s.emit (.regRead v)
        -- A value that the Helm pair loads enters its input log (R452).
        let t := t.when (w == .helm) (fun t => t.updSys (fun u => { u with inputLog := min 256 (u.inputLog + 1) }))
        let t := if s.present d.kind i then t.rcClear o i d.fields v else t
        -- A read of COEF_DATA is an access of it (R82).
        let t := t.when (o == RCH_COEF_DATA i && s.present d.kind i && s.on (RCH_COEF_ADDR.AUTO i))
          (fun t => t.wr (RCH_COEF_ADDR.WORD i) (s.rd (RCH_COEF_ADDR.WORD i) + 1))
        match latchOf o with
        | some hi => t.updSys (fun u => { u with latches := (u.latches.filter (fun e => e.1 != hi)) ++ [(hi, s.view hi)] })
        | none => t)

/-- SYS_REF_POP: reading SYS_REF_DATA1 returns it and removes the oldest entry of the refusal log (R492). -/
def execSysRefPop (w : Initiator) (s : State) : Res :=
  .next (
    if !s.canReach w then s
    else (s.emit (.regRead (s.view SYS_REF_DATA1))).updSys (fun u => { u with refLog := u.refLog.drop 1 }))

/-! ### General timers (R502) -/

/-- The microsecond count of the device. -/
def State.usNow (s : State) : Nat := s.sys.time / 25000

/-- A timer runs: USE 1, or USE 2 with a pin of FUNC 4 or 5 that names it (R498). -/
def State.timerRuns (s : State) (k : Nat) : Bool :=
  s.rd (SYS_TMR_CFG.USE k) != 2 ||
  (List.range 16).any (fun n => (s.rd (PAD_GPIO_CFG.FUNC n) == 4 || s.rd (PAD_GPIO_CFG.FUNC n) == 5) && s.rd (PAD_GPIO_CFG.TIMER n) == k)

/-- SYS_TMR_EXPIRY: a timer whose period has passed sets its bit and interrupts the Helm cores (USE 1) or toggles its output pin (USE
2); a periodic one runs on (R502). -/
def execSysTmrExpiry (k : Fin 8) (s : State) : Res :=
  .next (
    match s.sys.timers.getD k.val none with
    | none => s
    | some t0 =>
      let due := t0 + 25000 * s.rd (SYS_TMR_CFG.PERIOD k.val)
      if s.sys.time < due || !s.timerRuns k.val then s
      else
        let next := if s.on (SYS_TMR_CFG.PERIODIC k.val) then some due else none
        let t := s.updSys (fun u => { u with timers := listSet u.timers k.val next })
        let t := t.wr ⟨SYS_TMR_STAT, k.val, k.val⟩ 1
        if s.rd (SYS_TMR_CFG.USE k.val) = 1 then t.irqIf true SYS_TMR_STAT k.val
        else
          t.forEach ((List.range 16).filter (fun n => t.rd (PAD_GPIO_CFG.FUNC n) == 4 && t.rd (PAD_GPIO_CFG.TIMER n) == k.val))
            (fun n t => t.updSys (fun u => { u with pinOut := listModify u.pinOut n not })))

/-- TIMER_CAPTURE_EDGE: an edge on a pin with FUNC 5 latches the microsecond count in its timer's register (R502). -/
def execTimerCaptureEdge (pin : Fin 16) (s : State) : Res :=
  .next (
    let k := s.rd (PAD_GPIO_CFG.TIMER pin.val)
    if s.rd (PAD_GPIO_CFG.FUNC pin.val) = 5 ∧ s.rd (SYS_TMR_CFG.USE k) = 2 then s.wr (SYS_TMR_CAP.CAP k) s.usNow else s)

end Sys2Proof.Machine
end

