-- ==== Sys2Proof/Machine/Image.lean ====
section
/-! DEFINITION. The boot flash and the Eryel image (R439 to R446): parsing, every check of a slot, patches (R147, R148), the Twiari
stores (R146), measurements (R451) and the REG_INIT list. -/

namespace Sys2Proof.Machine
open Reg

/-! ### Boot flash (R439) -/

/-- Bytes of the boot flash; an erased byte reads 0xFF. -/
def State.flashBytes (s : State) (a n : Nat) : List Byte := (List.range n).map (fun i => sparseGet 0xFF#8 s.sys.flash (a + i))

/-- Stores bytes in the boot flash. -/
def State.flashPut (s : State) (a : Nat) (bs : List Byte) : State :=
  s.updSys (fun u => { u with flash := (bs.foldl (fun (x : Nat × List Host.Cell) b => (x.1 + 1, sparseSet 0xFF#8 x.2 x.1 b)) (a, u.flash)).2 })

/-- Bytes of an image slot. -/
def slotSize : Nat := 0x800000
/-- Where slot A (0) or B (1) begins. -/
def slotBase (slot : Nat) : Nat := slotSize * slot

/-- The little-endian field of `n` bytes at byte `ofs`. -/
def fieldAt (bs : List Byte) (ofs n : Nat) : Nat := leValue ((bs.drop ofs).take n)
/-- Bytes `ofs` to `ofs + n`. -/
def bytesAt (bs : List Byte) (ofs n : Nat) : List Byte := (bs.drop ofs).take n

/-! ### Patches (R147, R148) -/

/-- A record of a patch: store, first word, words. -/
structure PatchRec where
  nano : Bool
  start : Nat
  words : List Nat
deriving DecidableEq, Repr

/-- A patch that has passed its checks: identifier, level, records, digest. -/
structure Patch where
  id : Nat
  level : Nat
  recs : List PatchRec
  digest : Nat
deriving DecidableEq, Repr

/-- The word checks of a micro word (R140). -/
def microOk (w : Nat) : Bool := decide (decodeMicro w ≠ .bad)

/-- The word checks of a nano word (R143). -/
def nanoOk (w : Nat) : Bool :=
  let alu (x : Nat) : Bool := decide (x ≤ 11)
  let dst (x : Nat) : Bool := decide (x ≤ 10)
  let xd := bitsOf w 7 4
  let yd := bitsOf w 55 52
  alu (bitsOf w 3 0) && decide (bitsOf w 51 48 ≤ 9) && dst xd && dst yd && (xd != yd || xd == 10) &&
  decide (bitsOf w 100 97 ≤ 5) && decide (bitsOf w 102 101 ≠ 3) && bitsOf w 127 103 == 0

/-- Splits a plaintext of `n` records; none when a field or a length is wrong. -/
def patchRecs : Nat → List Byte → Option (List PatchRec)
  | 0, _ => some []
  | n + 1, bs =>
    let st := fieldAt bs 0 2
    let cnt := fieldAt bs 4 2
    let w := if st = 1 then 16 else 2
    if 2 ≤ st ∨ bs.length < 8 + cnt * w then none
    else
      let r : PatchRec := { nano := st == 1, start := fieldAt bs 2 2, words := (List.range cnt).map (fun i => fieldAt bs (8 + i * w) w) }
      (patchRecs n (bs.drop (8 + cnt * w))).map (fun l => r :: l)

/-- The words of a record lie in its store and pass their checks; a Nimdal record keeps out of the open region, a customer record
inside it (R148). -/
def PatchRec.ok (r : PatchRec) (customer : Bool) : Bool :=
  let e := r.start + r.words.length
  let openLo := if r.nano then 768 else 12288
  let size := if r.nano then 1024 else 16384
  decide (e ≤ size) && (if customer then decide (openLo ≤ r.start) else decide (e ≤ openLo) || r.words.isEmpty) &&
  r.words.all (fun w => if r.nano then nanoOk w else microOk w)

/-- Checks and decrypts the patch at the head of `bs` (R147, R148): none when it is refused. -/
def checkPatch (customer : Bool) (minLevel keyHash key : Nat) (bs : List Byte) : Option Patch :=
  let len := fieldAt bs 16 4
  let ct := bytesAt bs 240 len
  if fieldAt bs 0 4 ≠ 0x54575250 ∨ fieldAt bs 4 2 ≠ 1 ∨ fieldAt bs 6 1 ≠ b2n customer ∨ fieldAt bs 12 2 < minLevel ∨
     fieldAt bs 14 2 = 0 ∨ 1024 < fieldAt bs 14 2 ∨ ct.length ≠ len then none
  else if Config.sha384 (bytesAt bs 144 96) ≠ keyHash ∨
          !Config.ecdsaOk (fieldAt bs 144 96) (bytesAt bs 0 48 ++ ct) (bytesAt bs 48 96) then none
  else match Config.aesGcmOpen key (bytesAt bs 20 12) ct (bytesAt bs 32 16) with
    | none => none
    | some pt => match patchRecs (fieldAt bs 14 2) pt with
      | none => none
      | some rs => if rs.all (fun r => r.ok customer) then
          some { id := fieldAt bs 8 4, level := fieldAt bs 12 2, recs := rs, digest := Config.sha384 (bytesAt bs 0 (240 + len)) } else none

/-- Checks concatenated patches; `fuel` bounds them. None when one is refused. -/
def checkPatches (customer : Bool) (minLevel keyHash key : Nat) : Nat → List Byte → Option (List Patch)
  | 0, bs => if bs.isEmpty then some [] else none
  | fuel + 1, bs =>
    if bs.isEmpty then some []
    else match checkPatch customer minLevel keyHash key bs with
      | none => none
      | some p => (checkPatches customer minLevel keyHash key fuel (bs.drop (240 + fieldAt bs 16 4))).map (fun l => p :: l)

/-- Inserts a patch by ascending PATCH_ID. -/
def insertPatch (p : Patch) : List Patch → List Patch
  | [] => [p]
  | q :: l => if p.id < q.id then p :: q :: l else q :: insertPatch p l

/-- Patches in ascending PATCH_ID (R146). -/
def sortPatches : List Patch → List Patch
  | [] => []
  | p :: l => insertPatch p (sortPatches l)

/-- The highest PATCH_LEVEL of concatenated patches; `fuel` bounds them (R383). -/
def patchLevel : Nat → List Byte → Nat
  | 0, _ => 0
  | fuel + 1, bs => if bs.length < 240 then 0 else max (fieldAt bs 12 2) (patchLevel fuel (bs.drop (240 + fieldAt bs 16 4)))

/-! ### The configuration section (R444) -/

/-- The fields of a configuration section. -/
def cfgOf (b : List Byte) : DriveCfg :=
  let u := fieldAt b
  { actuators := u 8 1, headMask := [u 9 1, u 10 1, u 11 1, u 12 1], readers := u 13 1, dramChannels := u 14 1, quayPorts := u 15 1,
    rpm := u 16 2, wedges := u 18 2, zoneMib := u 20 2, convZones := u 22 2, openLimit := u 24 2, activeLimit := u 26 2,
    retDepth := u 28 1, injectPolicy := u 29 1, writeCache := u 30 1, static := u 31 1, staticAddr := u 32 2 % 1024,
    faultNWidth := u 34 4, ssvid := u 40 2, ssid := u 42 2, idleTimers := u 44 8, preLen := u 52 1, fpreLen := u 53 1, gapLen := u 54 1,
    polePairs := u 55 1, servoNs := u 56 2, phaseSwap := u 58 1, mirSize := u 59 1, dataRate := u 60 2, ranks := u 62 1, density := u 63 1,
    custHash := u 64 48, authorityKey := u 112 96, ownerKey := u 208 96,
    regInit := (List.range (u 304 2)).map (fun i => (u (308 + 8 * i) 4, BitVec.ofNat 32 (u (312 + 8 * i) 4))) }

/-- Every range of R444. -/
def cfgRangesOk (b : List Byte) : Bool :=
  let c := cfgOf b
  let u := fieldAt b
  let within (x lo hi : Nat) : Bool := decide (lo ≤ x) && decide (x ≤ hi)
  let cap := c.ranks * (8 * 2 ^ c.density) * 2 ^ 30
  u 0 4 == 0x47464E43 && u 4 2 == 1 && u 6 2 == 308 + 8 * u 304 2 && within c.actuators 1 15 && c.headMask.all (fun m => decide (m < 64)) &&
  within c.readers 1 2 && within c.dramChannels 1 3 && decide (c.quayPorts < 16) && within c.rpm 5400 10000 &&
  within c.wedges 256 1024 && c.wedges % 64 == 0 && [64, 128, 256, 512, 1024].contains c.zoneMib && within c.openLimit 1 32 &&
  within c.activeLimit c.openLimit 128 && within c.retDepth 2 8 && decide (c.injectPolicy ≤ 1) && decide (c.writeCache ≤ 1) &&
  decide (c.static ≤ 1) && decide (u 32 2 < 1024) && within c.faultNWidth 1 100000 && u 38 2 == 0 && within c.preLen 15 50 &&
  within c.fpreLen 10 50 && within c.gapLen 4 64 && within c.polePairs 1 12 && within c.servoNs 500 4000 && decide (c.phaseSwap ≤ 1) &&
  (if c.dramChannels = 3 then decide (c.mirSize * 2 ^ 30 + 2 ^ 20 ≤ cap) else c.mirSize == 0) && within c.dataRate 3200 6400 &&
  within c.ranks 1 2 && decide (c.density ≤ 2) && decide (u 304 2 ≤ 1024) && u 306 2 == 0

/-- The fields from ACTUATORS to MIR_SIZE, which an activation may not change (R454). -/
def cfgFrozen (a b : DriveCfg) : Bool :=
  decide ({ a with dataRate := 0, ranks := 0, density := 0, custHash := 0, authorityKey := 0, ownerKey := 0, regInit := [] } =
          { b with dataRate := 0, ranks := 0, density := 0, custHash := 0, authorityKey := 0, ownerKey := 0, regInit := [] })

/-! ### The image (R442 to R446) -/

/-- A section of an image: type, offset, length, digest. -/
structure Section where
  typ : Nat
  ofs : Nat
  len : Nat
  digest : Nat
deriving DecidableEq, Repr

/-- An image that has passed the checks of R446. -/
structure Image where
  revision : Nat
  secVersion : Nat
  minCust : Nat
  rollback : Bool
  cfg : DriveCfg
  /-- Sealed secrets: customer patch key, key wrap key, WRAP_REQUIRED (R445). -/
  sealed_ : Option (Nat × Nat × Bool)
  nimdal : List Patch
  /-- The customer patches, not yet checked. -/
  cust : List Byte
  /-- Digests of the header, the firmware section and the configuration section (R451). -/
  headDigest : Nat
  fwDigest : Nat
  cfgDigest : Nat
  level : Nat
deriving DecidableEq, Repr

/-- The section entries of a header. -/
def sectionsOf (h : List Byte) : List Section :=
  (List.range (min 8 (fieldAt h 6 2))).map (fun k =>
    let o := 32 + 64 * k
    { typ := fieldAt h o 2, ofs := fieldAt h (o + 4) 4, len := fieldAt h (o + 8) 4, digest := fieldAt h (o + 16) 48 })

/-- Sections of a type. -/
def sectionsWith (l : List Section) (t : Nat) : List Section := l.filter (fun x => x.typ == t)

/-- The sealed section (R445): none when it fails to decrypt. -/
def openSealed (key : Nat) (b : List Byte) : Option (Nat × Nat × Bool) :=
  match Config.aesGcmOpen key (bytesAt b 0 12) (b.drop 28) (bytesAt b 12 16) with
  | none => none
  | some p => if p.length = 65 ∧ fieldAt p 64 1 ≤ 1 then some (fieldAt p 0 32, fieldAt p 32 32, fieldAt p 64 1 == 1) else none

/-- The checks of R446 on an image of bytes `at_ ofs n`; the REG_INIT list is checked apart. None when the slot is invalid. -/
def checkImage (fuses : Fuses) (at_ : Nat → Nat → List Byte) : Option Image :=
  let h := at_ 0 736
  let len := fieldAt h 16 4
  let secs := sectionsOf h
  let one (t : Nat) : Option Section := (sectionsWith secs t).head?
  let body (x : Section) : List Byte := at_ x.ofs x.len
  if fieldAt h 0 4 ≠ 0x4C595245 ∨ fieldAt h 4 2 ≠ 1 ∨ fieldAt h 6 2 = 0 ∨ 8 < fieldAt h 6 2 ∨ len < 736 ∨ slotSize < len ∨
     1 < fieldAt h 28 4 then none
  else if Config.sha384 (bytesAt h 544 96) ≠ Config.nimdalKeyHash ∨
          !Config.ecdsaOk (fieldAt h 544 96) (bytesAt h 0 640) (bytesAt h 640 96) then none
  else if fieldAt h 20 4 < fuses.svc then none
  else if secs.any (fun x => x.typ = 0 || decide (5 < x.typ) || decide (len < x.ofs + x.len) || Config.sha384 (body x) != x.digest) ∨
          (sectionsWith secs 1).length ≠ 1 ∨ (sectionsWith secs 2).length ≠ 1 ∨ 1 < (sectionsWith secs 3).length ∨
          1 < (sectionsWith secs 4).length ∨ 1 < (sectionsWith secs 5).length then none
  else match one 1, one 2 with
    | some f, some c =>
      let cb := body c
      let n := fieldAt cb 6 2
      let owner := if fuses.ownerHash = 0 then Config.nimdalKeyHash else fuses.ownerHash
      if Config.sha384 (bytesAt cb 208 96) ≠ owner ∨ !Config.ecdsaOk (fieldAt cb 208 96) (bytesAt cb 0 n) (bytesAt cb n 96) ∨
         cb.length < n + 96 ∨ !cfgRangesOk (bytesAt cb 0 n) then none
      else
        let cfg := cfgOf (bytesAt cb 0 n)
        let sealed_ : Option (Option (Nat × Nat × Bool)) := match one 3 with
          | none => some none
          | some x => (openSealed fuses.ownerSealKey (body x)).map some
        let nb := match one 4 with | none => [] | some x => body x
        match sealed_, checkPatches false (fieldAt h 24 2) Config.patchKeyHash fuses.patchKey nb.length nb with
        | some sl, some np =>
          some { revision := fieldAt h 8 8, secVersion := fieldAt h 20 4, minCust := fieldAt h 26 2, rollback := fieldAt h 28 4 == 1,
                 cfg := cfg, sealed_ := sl, nimdal := sortPatches np, cust := (match one 5 with | none => [] | some x => body x),
                 headDigest := Config.sha384 (bytesAt h 0 640), fwDigest := f.digest, cfgDigest := c.digest,
                 level := patchLevel 1024 nb }
        | _, _ => none
    | _, _ => none

/-! ### REG_INIT (R444) -/

/-- Writes one REG_INIT entry: a refused entry answers false. Coefficient ports write their memories. -/
def State.initWrite (s : State) (a : Nat) (v : Word) : State × Bool :=
  match regDesc? a with
  | none => (s, true)
  | some (d, i) =>
    if a = RCH_COEF_DATA i then
      let word := s.rd (RCH_COEF_ADDR.WORD i)
      let t := if s.present d.kind i then s.coefStore i (s.rd (RCH_COEF_ADDR.BANK i) * 2048 + word) v.toNat else s
      (t.when (t.on (RCH_COEF_ADDR.AUTO i)) (fun t => t.wr (RCH_COEF_ADDR.WORD i) (word + 1)), true)
    else if a = CTL_COEF_HI then
      (match execCtlCoefCommit .helm v (s.clr CTL_GSTATUS.COEF_REFUSED) with
       | .next t => (t, !t.on CTL_GSTATUS.COEF_REFUSED)
       | _ => (s, false))
    else if !s.present d.kind i || ownRow a i || 0x200000 ≤ a then (s, true)
    else match s.writeRefused 2 a i d.fields true v with
      | some c => (s.noteRefused 2 a i c (d.group.getD 0) false, false)
      | none => (s.applyWrite' a i d d.fields true v, true)

/-- Writes the whole list in order; false when an entry was refused. -/
def State.initWrites (s : State) : List (Nat × Word) → State × Bool
  | [] => (s, true)
  | (a, v) :: l =>
    let (t, ok) := s.initWrite a v
    let (u, ok') := t.initWrites l
    (u, ok && ok')

/-- Writes a field of the configuration section to its register and to its holding copy, when it has one. -/
def State.cfgField (s : State) (f : Fld) (v : Nat) : State :=
  let t := s.wr f v
  match regDesc? f.addr with
  | some (d, _) => if d.group.isSome then t.wr f.hold v else t
  | none => t

/-- The register fields that correspond to fields of the configuration section (R525): READERS of every channel among them, so that a
single-reader configuration runs on reader A (R6, R52). -/
def DriveCfg.fields (c : DriveCfg) : List (Fld × Nat) :=
  [(RCH_RET_CFG.DEPTH, c.retDepth), (DDR_MAP_CFG.CHANNELS, c.dramChannels), (DDR_MAP_CFG.MIR_SIZE, c.mirSize),
   (WCH_CTRL.WIDTH, c.faultNWidth), (SCH_IDLE_LO.IDLE, c.idleTimers % 2 ^ 32), (SCH_IDLE_HI.IDLE, c.idleTimers / 2 ^ 32),
   (MOT_SP_CFG.POLE_PAIRS, c.polePairs), (QFB_CFG.STATIC_ADDR, c.staticAddr),
   (QFB_CFG.STATIC, c.static)] ++
  (List.range 28).map (fun n => (RCH_CTRL.READERS n, if c.readers = 1 then 1 else 3)) ++
  (presentActs c).flatMap (fun a => [(SEQ_FORMAT.PRE_LEN a, c.preLen), (SEQ_FORMAT.FPRE_LEN a, c.fpreLen), (SEQ_FORMAT.GAP_LEN a, c.gapLen),
    (SEQ_FORMAT.SERVO_NS a, c.servoNs)]) ++
  ((List.range 2).filter (bitOf c.dramChannels)).flatMap (fun n => [(DDR_CFG.RANKS n, c.ranks), (DDR_CFG.DENSITY n, c.density), (DDR_CFG.DATA_RATE n, c.dataRate)])

/-- Loads the register fields that the configuration section gives, before the REG_INIT list (R525). -/
def State.cfgWrites (s : State) (c : DriveCfg) : State := s.forEach c.fields (fun e t => t.cfgField e.1 e.2)

/-- The machine as the start glue of a configuration finds it: registers at reset, retired pages re-applied, no entry installed. -/
def State.startView (s : State) (c : DriveCfg) : State :=
  { State.reset with
    sys := { State.reset.sys with cfg := c },
    mem := { State.reset.mem with pages := (s.mem.pages.filter (fun e => e.2.retired)).map (fun e => (e.1, { PageInfo.blank with retired := true })) } }

/-- The REG_INIT list of a configuration and the start glue would be accepted at a start (R444, R525). -/
def State.regInitOk (s : State) (c : DriveCfg) : Bool :=
  let t := (s.startView c).cfgWrites c
  let (u, ok) := t.initWrites c.regInit
  ok && (u.glueRefused (u.glueApply gluedGroups) gluedGroups).isNone

/-- The image of a slot, when it passes every check (R446). -/
def State.slotImage (s : State) (slot : Nat) : Option Image :=
  match checkImage s.sys.fuses (fun o n => s.flashBytes (slotBase slot + o) n) with
  | none => none
  | some i => if s.regInitOk i.cfg then some i else none

/-! ### The Twiari stores (R146) -/

/-- Writes words to both copies of a store. -/
def State.putWords (s : State) (nano : Bool) (start : Nat) (ws : List Nat) : State :=
  let put (m : Sparse Nat) : Sparse Nat := (ws.foldl (fun (x : Nat × Sparse Nat) w => (x.1 + 1, sparseSet 0 x.2 x.1 w)) (start, m)).2
  { s with stores := { s.stores with micro := if nano then s.stores.micro else s.stores.micro.map put,
                                     nano := if nano then s.stores.nano.map put else s.stores.nano } }

/-- The highest PATCH_LEVEL of a list of patches. -/
def topLevel (l : List Patch) : Nat := l.foldl (fun m p => max m p.level) 0

/-- Applies patches in order. -/
def State.applyPatches (s : State) (l : List Patch) : State :=
  s.forEach l (fun p t => t.forEach p.recs (fun r t => t.putWords r.nano r.start r.words))

/-- Opens the customer region: RET in every micro word, 0 in every nano word of it (R146 step 3). -/
def State.openRegion (s : State) : State :=
  (s.putWords false 12288 (List.replicate 4096 0xE900)).putWords true 768 (List.replicate 256 0)

/-- The words of the base routine that the manual prints: the routine of one head, its caller (R145, B0). -/
def printedMicro : List (Nat × List Nat) :=
  [(0x0010, [0x180C, 0xE601, 0xE080, 0x180D, 0xEB03]),
   (0x0400, [0xB00D, 0x1880, 0x1881, 0x840B, 0x1882, 0x8805, 0x1883, 0x5885, 0x8802, 0x1884, 0xE602, 0x1886, 0xBBF4, 0x1887, 0xE900, 0x1888,
             0x83FC])]

/-- The base micro word at an address: as printed, else what the boot ROM holds (R146). -/
def baseMicroWord (a : Nat) : Nat :=
  match (printedMicro.filterMap (fun e => if e.1 ≤ a then e.2[a - e.1]? else none)).head? with
  | some w => w
  | none => Config.baseMicro a % 65536

/-- The base nano word at an address: the manual prints that of 0x080 (R145). -/
def baseNanoWord (a : Nat) : Nat := if a = 0x080 then 0x0000000000009100CF1200000000AB02 else Config.baseNano a % 2 ^ 128

/-- The words of the stores outside the customer-open region pass the checks of R140 and R143 (R146 step 5). Patch words have been checked with
their patch, and the words of step 3 are left out: a nano word of 0 gives both slots one destination (log entry 150). -/
def State.storesOk (s : State) : Bool :=
  (List.range 12288).all (fun a => microOk (s.storeWord false 0 a)) && (List.range 768).all (fun a => nanoOk (s.storeWord true 0 a))

/-- Fills the stores from the boot ROM and the patches of an image and sets SEQ_LOCK once every word has been checked (R146, R148): a refused customer
patch leaves the open region as it was opened, clears HOOK_EN and is logged. -/
def State.fillStores (s : State) (img : Image) (custKey : Option Nat) : State :=
  let t : State := { s with stores := { micro := [[], []], nano := [[], []], errs := [] } }
  let t := t.putWords false 0 ((List.range 12288).map baseMicroWord)
  let t := t.putWords true 0 ((List.range 768).map baseNanoWord)
  let t := (t.applyPatches img.nimdal).openRegion
  let t := t.wrs [(SEQ_LOAD_STAT.NIMDAL, satU 8 img.nimdal.length), (SEQ_LOAD_STAT.CUSTOMER, 0), (SEQ_LOAD_STAT.CUST_REFUSED, 0),
    (SEQ_LOAD_STAT.CUST_ABSENT, b2n img.cust.isEmpty), (SEQ_BASE_VER.VER, Config.bootVersion),
    (SEQ_PATCH_LEVEL.NIMDAL, topLevel img.nimdal), (SEQ_PATCH_LEVEL.CUSTOMER, 0), (SEQ_CUST_ID.ID, 0)]
  let cust : Option (List Patch) :=
    if img.cust.isEmpty then some []
    else match custKey with
      | none => none
      | some k => if img.cfg.custHash = 0 then none
                  else (checkPatches true img.minCust img.cfg.custHash k img.cust.length img.cust).map sortPatches
  let t := match cust with
    | some l => (t.applyPatches l).wrs [(SEQ_LOAD_STAT.CUSTOMER, satU 8 l.length), (SEQ_PATCH_LEVEL.CUSTOMER, topLevel l),
        (SEQ_CUST_ID.ID, (l.head?.map (fun (p : Patch) => p.id)).getD 0)]
    | none =>
      let t := (t.setB SEQ_LOAD_STAT.CUST_REFUSED).raiseBit SEQ_GSTATUS.CUST_REFUSED SEQ_GINT_EN
      (t.forEach [0, 1, 2, 3] (fun a t => t.hooksOff a)).logFree 0x000D 0x1FF
  let hooks := ((List.range 8).filter (fun h => t.storeWord false 0 (12288 + 8 * h) != 0xE900)).foldl (fun x h => x + 2 ^ h) 0
  (t.wr SEQ_HOOK_MAP.MAP hooks).wr SEQ_LOCK.LOCKED (b2n t.storesOk)

/-- After the glue-up of a start the hooks stay disabled where a customer patch has been refused (R148). -/
def State.hooksKeptOff (s : State) : State :=
  s.when (s.on SEQ_LOAD_STAT.CUST_REFUSED) (fun s => s.forEach [0, 1, 2, 3] (fun a t => t.hooksOff a))

/-! ### Measurements (R451) -/

/-- M ← SHA-384(M ∥ digest). -/
def extendMeas (m digest : Nat) : Nat := Config.sha384 (leBytes 48 m ++ leBytes 48 digest)

/-- Measurement indices 2 to 6 and 8 of an image; 1 and 7 of the boot ROM and the fuses (log entry 42 gives the encoding of the
measured values that the manual leaves open). -/
def State.measure (s : State) (img : Option Image) (kind mode : Nat) : State :=
  let f := s.sys.fuses
  let ext (ds : List Nat) : Nat := ds.foldl extendMeas 0
  let fw (g : Image → List Nat) : Nat := ext ((img.map g).getD [])
  let custs (i : Image) : List Nat :=
    if s.on SEQ_LOAD_STAT.CUST_REFUSED then []
    else ((checkPatches true i.minCust i.cfg.custHash (s.sys.custPatchKey.getD 0) i.cust.length i.cust).map sortPatches |>.getD []).map (fun p => p.digest)
  s.updSys (fun u => { u with meas :=
    [ext [Config.sha384 (leBytes 4 Config.bootVersion)], fw (fun i => [i.headDigest]), fw (fun i => [i.fwDigest]), fw (fun i => [i.cfgDigest]),
     fw (fun i => i.nimdal.map (fun p => p.digest)), fw custs,
     ext [Config.sha384 (leBytes 4 f.svc ++ leBytes 1 (b2n f.locked) ++ leBytes 48 f.ownerHash)],
     ext [Config.sha384 (leBytes 1 u.persist.activeSlot ++ leBytes 1 kind ++ leBytes 1 mode)]] })

end Sys2Proof.Machine
end

