-- ==== Sys2Proof/Machine/Commands.lean ====
section
/-! DEFINITION. The I/O commands (chapter 16): their checks, their start (R386 to R390), and the meaning of each: one step of a
command's work at a time, in the order of its rules. -/

namespace Sys2Proof.Machine
open Reg

/-! ### Checks (R350, R359 to R368) -/

/-- SLBA is the start of a zone of the device. -/
def State.isZoneStart (s : State) (lba : Nat) : Bool :=
  decide (lba < s.deviceSectors) && lba % zoneSectors s.sys.cfg == 0

/-- The checks of R359; `write` adds those of a WRITE. -/
def State.rangeCheck (s : State) (lba n : Nat) (write : Bool) : Option (Nat × Nat) :=
  let zs := zoneSectors s.sys.cfg
  let z := lbaZone s.sys.cfg lba
  let x := s.zone z
  if s.deviceSectors ≤ lba then some (stLbaRange, lba)
  else if zs < lba % zs + n then some (stZoneBoundary, lba)
  else if x.capacity < lba % zs + n then some (stLbaRange, lba)
  else if x.state = .offline then some (stZoneOffline, lba)
  else if !write then none
  else if !zoneConv s.sys.cfg z then some (stNotConventional, 0)
  else if x.state = .readOnly then some (stZoneReadOnly, lba)
  else if s.foreignAny then some (stForeign, lba)
  else none

/-- The checks of R360. -/
def State.appendCheck (s : State) (lba : Nat) : Option (Nat × Nat) :=
  let z := lbaZone s.sys.cfg lba
  let x := s.zone z
  if !s.isZoneStart lba then some (stInvalidField, 0)
  else if zoneConv s.sys.cfg z then some (stZoneState, lba)
  else if x.state = .offline then some (stZoneOffline, lba)
  else if x.state = .readOnly then some (stZoneReadOnly, lba)
  else if s.foreignAny then some (stForeign, lba)
  else none

/-- The checks of ZONE MANAGEMENT that need no lock (R361, R50). -/
def State.zoneMgmtCheck (s : State) (c : Cmd) : Option (Nat × Nat) :=
  let f := c.u 28 1
  if bitOf f 2 then
    (if f % 4 = 0 then some (stInvalidField, 0) else if s.foreignAny then some (stForeign, 0) else none)
  else if !s.isZoneStart c.slba then some (stInvalidField, 0)
  else if zoneConv s.sys.cfg (lbaZone s.sys.cfg c.slba) then some (stZoneState, c.slba)
  else if s.foreignAny then some (stForeign, c.slba)
  else none

/-- The checks of PARCEL READ (R364). -/
def State.parcelCheck (s : State) (c : Cmd) : Option (Nat × Nat) :=
  let ofs := c.u 28 4
  let n := c.u 32 2
  let x := s.zone (lbaZone s.sys.cfg c.slba)
  if ofs % 16 ≠ 0 ∨ n = 0 ∨ 4096 < n then some (stInvalidField, 0)
  else if x.wp < ofs + n then some (stLbaRange, c.slba)
  else if x.state = .offline then some (stZoneOffline, c.slba)
  else none

/-- The checks of PEER COPY (R368): its fields, then those of READ on the source side or of WRITE or ZONE APPEND on the destination
side that lies here. -/
def State.peerCheck (s : State) (c : Cmd) : Option (Nat × Nat) :=
  let q := c.u 28 2
  let d := c.u 30 1
  if bitsOf q 11 10 = 3 ∨ (s.on QFB_ADDR.VALID ∧ q % 1024 = s.rd QFB_ADDR.ADDR) ∨ 2 ≤ bitsOf d 2 1 then some (stInvalidField, 0)
  else if d % 2 = 0 then s.rangeCheck c.slba c.cnt false
  else if bitsOf d 2 1 = 0 then s.rangeCheck c.slba c.cnt true
  else s.appendCheck c.slba

/-- The checks of a command: the status it fails with, and the LBA or zone start at fault. -/
def State.cmdCheck (s : State) (c : Cmd) : Option (Nat × Nat) :=
  if !countOk c.opcode c.cnt then some (stInvalidField, 0)
  else match c.opcode with
    | 0x01 | 0x09 => s.rangeCheck c.slba c.cnt false
    | 0x02 => s.rangeCheck c.slba c.cnt true
    | 0x03 => s.appendCheck c.slba
    | 0x04 => if 64 ≤ c.u 28 1 ∧ c.u 28 1 ≠ 0xFF then some (stInvalidField, 0)
              else if s.packNone then some (stPackUnavailable, 0) else s.appendCheck c.slba
    | 0x05 => if s.packNone then some (stPackUnavailable, 0) else s.parcelCheck c
    | 0x06 => s.zoneMgmtCheck c
    | 0x07 => if s.isZoneStart c.slba then none else some (stInvalidField, 0)
    | 0x0A => s.peerCheck c
    | _ => none

/-! ### The start of a command (R332, R386) -/

/-- Ends a command with HOST_DATA_ERROR when its page list is unreadable or too short (R352), else programs its records. -/
def State.beginRecs (s : State) (c : Cmd) (l : Option (List LSpec)) : State :=
  match l with
  | none => s.cmdEnd c.tag stHostData
  | some l => (s.updCmd c.tag (fun c => { c with recs := l })).programRecs c.tag (s.cmdNs c) c.stream 64

/-- Takes a write stamp for a command (R34). -/
def State.stampCmd (s : State) (tag : Nat) : State :=
  let (t, n) := s.takeStamp
  t.updCmd tag (fun c => { c with stamp := n })

/-- The payload of a MEDIA_REQ (R408). -/
def mediaReq (op rlimit sectors lba : Nat) : List Byte := leBytes 1 op ++ leBytes 1 rlimit ++ leBytes 2 sectors ++ leBytes 4 0 ++ leBytes 5 lba

/-- A pull asks the peer for its sectors; with no transfer free it waits (R422, R424). -/
def State.openPull (s : State) (c : Cmd) : State :=
  let q := c.u 28 2 % 1024
  match s.route? q with
  | none => s.cmdEnd c.tag stPeerUnreachable
  | some _ =>
    match s.openXfer (.pull c.tag) q (bitsOf (c.u 28 2) 11 10) 0x07 (mediaReq 0 c.rlimit c.cnt (c.u 32 8 % 2 ^ 40)) with
    | none => s
    | some (t, x) => (t.updXout x (fun y => { y with total := 4096 * c.cnt })).updCmd c.tag (fun c => { c with xid := some x })

/-- A ring's ZONE APPEND starts: its place is taken as it takes the zone lock, and the lock freed, before the data moves (R19, R358). -/
def State.beginAppend (s : State) (c : Cmd) (z : Nat) : State :=
  match c.hostRecs c.tag 1 (c.cnt + 2) 0 0 (4096 * c.cnt) with
  | none => s.cmdEnd c.tag stHostData
  | some l => match s.placeAppend z c.cnt c.tag with
    | .error st => s.cmdEndAt c.tag st c.slba
    | .ok u =>
      let start := (s.zone z).wp / 16
      ((u.updCmd c.tag (fun c => { c with zone := z, first := some (c.slba + start), count := c.cnt })).dropLocks c.tag).beginRecs c (some l)

/-- What a command does first once it holds its locks and pages. -/
def State.beginCmd (s : State) (c : Cmd) : State :=
  match c.opcode with
  | 0x01 => s.planReads c.tag c.slba c.cnt
  | 0x09 => s.planReads c.tag c.slba (min c.cnt 256)
  | 0x02 =>
    if c.ring?.isSome then (s.stampCmd c.tag).beginRecs c (c.hostRecs c.tag 1 (c.cnt + 2) 0 0 (4096 * c.cnt)) else s.stampCmd c.tag
  | 0x03 => if c.ring?.isSome then (s.stampCmd c.tag).beginAppend c (lbaZone s.sys.cfg c.slba) else s.stampCmd c.tag
  | 0x04 => (s.stampCmd c.tag).beginRecs c (c.hostRecs c.tag 1 260 0 0 c.cnt)
  | 0x05 => s.planReads c.tag (c.slba + c.u 28 4 / 16) ((c.u 32 2 + 15) / 16)
  | 0x06 =>
    s.updCmd c.tag (fun d =>
      { d with todoZones := if bitOf (c.u 28 1) 2 then (List.range s.zoneCount).filter (fun z => !zoneConv s.sys.cfg z)
                            else [lbaZone s.sys.cfg c.slba] })
  | 0x0A => if c.u 30 1 % 2 = 0 then s.planReads c.tag c.slba c.cnt else (s.stampCmd c.tag).openPull c
  | _ => s

/-- A peer's media request finds too few pages: it is answered RESULT with RETRY and dropped (R422). -/
def State.peerBusy (s : State) (c : Cmd) (src xid : Nat) : State :=
  match s.qfb.ins.find? (fun x => x.src == src && x.xid == xid) with
  | none => s.forget c.tag
  | some x =>
    let t := s.updQfb (fun q => { q with ins := q.ins.filter (fun (y : XIn) => !(y.src == src && y.xid == xid)) })
    ((t.qResult src x.cls xid stBusy true false 0).showXfer).forget c.tag

/-- Starts a waiting command once every lock it needs is granted and its pages are allocated in one ALLOC (R386, R390). -/
def State.tryStart (s : State) (tag : Nat) : State :=
  match s.cmd? tag with
  | none => s
  | some c =>
    if c.phase ≠ .waiting then s
    else if (s.lockReqs c).any (s.lockBlocked tag c.order) then s
    else
      let (n, m) := c.pagesNeeded
      match s.allocFor c n m with
      | none => (match c.src with
        | .peer src xid => s.peerBusy c src xid
        | _ => (s.updCmd tag (fun c => { c with stage := 1 })).raiseBit SCH_STATUS.PAGE_WAIT SCH_INT_EN)
      | some t =>
        let t := (t.grantLocks tag).updCmd tag (fun c => { c with phase := .started, stage := 0, limit := c.rlimit })
        match s.cmdCheck c with
        | some (st, lba) => t.cmdEndAt tag st lba
        | none => t.beginCmd ((t.cmd? tag).getD c)

/-- The command needs host data and names a page list. -/
def Cmd.readsList (c : Cmd) : Bool :=
  c.hasList && (c.opcode == 1 || c.opcode == 2 || c.opcode == 3 || c.opcode == 4 || c.opcode == 7 ||
    (c.opcode == 5 && !bitOf (c.u 34 1) 0) || (decide (0x80 ≤ c.opcode) && c.ring? == some 128))

/-- Bytes of host data that the page list must hold. -/
def Cmd.hostBytes (c : Cmd) : Nat :=
  match c.opcode with
  | 0x01 | 0x02 | 0x03 => 4096 * c.cnt
  | 0x04 | 0x05 | 0x89 | 0x8B => c.cnt
  | 0x07 => 16 + 32 * c.cnt
  | 0x80 => 4096
  | 0x8A | 0x90 => 144
  | 0x8D => if c.u 29 1 % 2 = 0 then 64 else 72
  | 0x91 => 4176
  | _ => 0

/-- A command waits for something other than locks and pages: the scheduler's enable, the media, or an earlier admin command (R326,
R369, R402). -/
def State.mustWait (s : State) (c : Cmd) : Bool :=
  !s.on SCH_CTRL.EN || !s.running || (mediaOpcode c.opcode && s.on SYS_MODE.MEDIA_NOT_READY) ||
  (c.onAdmin && s.cmds.any (fun d => d.onAdmin && decide (d.order < c.order)))

/-- COMMAND_START: a fetched entry is dispatched: its opcode, condition and fields are checked, its lock entries are laid down, and it
starts once it holds its locks and pages (R386). `list` is its page list as the host returned it, none when that read failed. -/
def execCommandStart (tag : BitVec 14) (list : Option (List (BitVec 64))) (s : State) : Res :=
  .next (
    match s.cmd? tag.toNat with
    | none => s
    | some c =>
      if c.phase ≠ .fetched || s.mustWait c then s
      else if !opcodeOk c.opcode c.onAdmin then s.cmdEnd c.tag stInvalidOpcode
      else if s.on SYS_MODE.RESCUE && c.opcode != 0x8B then s.cmdEnd c.tag stNotAllowed
      else match s.cmdCheck c with
        | some (st, lba) => s.cmdEndAt c.tag st lba
        | none =>
          match s.layLocks c with
          | none => s.raiseBit SCH_STATUS.LOCK_FULL SCH_INT_EN
          | some t =>
            let l := (list.getD []).map (fun x => x.toNat)
            let t := t.updCmd c.tag (fun c => { c with phase := .waiting, stage := 0, list := l })
            if c.readsList then
              let t := t.hostGet (t.cmdNs c) 2200 c.dptr (8 * listLen (l.getD 0 0) c.hostBytes)
              if list.isNone then t.cmdEnd c.tag stHostData else t.tryStart c.tag
            else t.tryStart c.tag)

/-- The first waiting command in fetch order that satisfies `p`. -/
def State.firstWaiting (s : State) (p : Cmd → Bool) : Option Cmd :=
  (s.cmds.filter (fun c => c.phase == .waiting && p c)).foldl (fun a c => match a with
    | none => some c
    | some b => if c.order < b.order then some c else some b) none

/-- LOCK_GRANT: the earliest waiting command whose requests no longer conflict has them granted in fetch order and starts, if its pages
can be had (R388). -/
def execLockGrant (s : State) : Res :=
  .next (
    match s.firstWaiting (fun c => c.stage != 1 && !(s.lockReqs c).any (s.lockBlocked c.tag c.order)) with
    | none => s
    | some c => if s.mustWait c then s else s.tryStart c.tag)

/-- PAGE_ALLOC_GRANT: the first command that waits for pages gets them in one ALLOC and starts (R390). -/
def execPageAllocGrant (s : State) : Res :=
  .next (
    match s.firstWaiting (fun c => c.stage == 1 && !s.pagesBlocked c) with
    | none => s
    | some c => if s.mustWait c then s else s.tryStart c.tag)

/-! ### Steps of the work -/

/-- Runs `f` on a started command of one opcode that has not been stopped; otherwise nothing happens. -/
def State.onStarted (s : State) (tag op : Nat) (f : Cmd → State) : State :=
  match s.cmd? tag with
  | none => s
  | some c => if c.phase == .started && c.opcode == op && !c.dropped && s.running && c.src != .destage then f c else s

/-- The records of a command have all ended. -/
def Cmd.recsDone (c : Cmd) : Bool := c.recs.isEmpty && c.opened == 0

/-- Programs the records that still wait for a channel; once a record has ended BAD the others are not run. -/
def State.moreRecs (s : State) (c : Cmd) : State :=
  if c.badCause ≠ 0 then s.updCmd c.tag (fun c => { c with recs := [] })
  else s.programRecs c.tag (s.cmdNs c) c.stream 64

/-- Records the unrecovered sectors of a command in its status (R98, R356). -/
def State.failLost (s : State) (c : Cmd) : State :=
  s.forEach (c.secs.filter (fun w => w.st == .lost)) (fun w t => t.cmdFail c.tag stUnrecovered w.lba)

/-- A read of a zone that has gone OFFLINE ends with ZONE_OFFLINE: sectors not yet started are given up (R29). -/
def State.readOffline (s : State) (c : Cmd) : State :=
  s.forEach (c.secs.filter (fun w => (w.st == .todo || w.st == .listed) && !w.write && (s.zone w.zone).state == .offline))
    (fun w t => ((t.unlist w.head (c.tag + 16384 * w.idx)).updSec (c.tag + 16384 * w.idx) (fun w => { w with st := .failed })).cmdFail
      c.tag stZoneOffline (w.zone * zoneSectors t.sys.cfg))

/-- Runs of consecutive sectors that may be delivered: first index and length. -/
def goodRuns : List SecWork → List (Nat × Nat)
  | [] => []
  | w :: l =>
    let r := goodRuns l
    if w.st == .good || w.st == .unwritten then
      match r with
      | (i, n) :: r' => if i = w.idx + 1 then (w.idx, n + 1) :: r' else (w.idx, 1) :: (i, n) :: r'
      | [] => [(w.idx, 1)]
    else r

/-- READ: once every sector is recovered or given up, the recovered ones move to the host, and the command ends when their records
have ended (R17, R359). For a peer the completion sends the data (R422). -/
def execReadCmd (tag : BitVec 14) (s : State) : Res :=
  .next (s.onStarted tag.toNat 0x01 (fun c0 =>
    let s := s.readOffline c0
    let c := (s.cmd? c0.tag).getD c0
    if c.stage = 0 then
      if !c.mediaDone then s
      else
        let t := s.failLost c
        if c.ring?.isNone then t.cmdEnd c.tag 0
        else
          let recs := (goodRuns c.secs).foldl (fun (o : Option (List LSpec)) r => match o, c.hostRecs c.tag 0 (r.2 + 2) (4096 * r.1) (4096 * r.1) (4096 * r.2) with
            | some a, some b => some (a ++ b)
            | _, _ => none) (some [])
          (t.updCmd c.tag (fun c => { c with stage := 1 })).beginRecs c recs
    else if c.recsDone then
      if c.badCause ≠ 0 then (s.updCmd c.tag (fun c => { c with status := recStatus c.badCause })).cmdEnd c.tag 0
      else s.cmdEnd c.tag 0
    else s.moreRecs c))

/-- VERIFY: runs of at most 256 sectors go through the ladder on the same pages; nothing is transferred (R359, R390). -/
def execVerify (tag : BitVec 14) (s : State) : Res :=
  .next (s.onStarted tag.toNat 0x09 (fun c0 =>
    let s := s.readOffline c0
    let c := (s.cmd? c0.tag).getD c0
    if !c.mediaDone then s
    else
      let t := s.failLost c
      let done := c.count + c.secs.length
      let t := t.updCmd c.tag (fun c => { c with count := done })
      if c.cnt ≤ done ∨ (c.status ≠ 0 ∧ c.status ≠ stUnrecovered) then t.cmdEnd c.tag 0
      else t.planReads c.tag (c.slba + done) (min (c.cnt - done) 256)))

/-- The media work of a write has ended: its status has been decided by its sectors. An append ends once MEDIA_WP has passed it, since until then an
earlier append may still make its sectors move to other slots (R19, R44, log entry 21). -/
def State.writeEnd (s : State) (c : Cmd) : State := if c.mediaDone && !s.placedFor c.tag then s.cmdEnd c.tag 0 else s

/-- A write goes on once its data is in pages: to the mirrored range under write-back (R358), else to the media. -/
def State.writeOut (s : State) (c : Cmd) (lba : Nat) : State :=
  let wb := if s.sch.wbOn && !c.fua && c.ring?.isSome then s.toWriteBack c lba c.cnt 0 else none
  match wb with
  | some t => t.updCmd c.tag (fun c => { c with wb := true, status := 0, phase := .ended })
  | none => (s.planWrites (if c.ring?.isSome then 11 else 14) c.tag c.tag lba c.cnt 0 c.stamp).updCmd c.tag (fun c => { c with stage := 2 })

/-- The checked data of the transfer that a peer's command serves: none before its COMMIT (R422, R423). -/
def State.peerData (s : State) (c : Cmd) : Option (List Byte) :=
  match c.src with
  | .peer src xid => (s.qfb.ins.find? (fun x => x.src == src && x.xid == xid && x.committed)).map (fun x => x.data)
  | _ => none

/-- The unit on port `port` fills the pages of a command with `n` sectors of data. -/
def State.fillPages (s : State) (port tag n : Nat) (data : List Byte) : State :=
  s.forEach (List.range n) (fun i t => t.fillPage port tag i ((data.drop (4096 * i)).take 4096))

/-- WRITE: the host data comes in whole, then the sectors are written; with write-back the command ends when its data is in the
mirrored range (R358, R359). A peer's write waits for its COMMIT (R423). -/
def execWriteCmd (tag : BitVec 14) (s : State) : Res :=
  .next (s.onStarted tag.toNat 0x02 (fun c =>
    if c.stage = 2 then s.writeEnd c
    else if c.ring?.isNone then (match s.peerData c with | some d => (s.fillPages 14 c.tag c.cnt d).writeOut c c.slba | none => s)
    else if !c.recsDone then s.moreRecs c
    else if c.badCause ≠ 0 then s.cmdEnd c.tag (recStatus c.badCause)
    else s.writeOut c c.slba))

/-- The place of an append made by a peer: at its COMMIT, under the zone's APPEND lock, which ends with the placement (R389, R422). -/
def State.placeNow (s : State) (c : Cmd) : State :=
  let z := lbaZone s.sys.cfg c.slba
  match s.placeAppend z c.cnt c.tag with
  | .error st => s.cmdEndAt c.tag st c.slba
  | .ok t =>
    let first := c.slba + (s.zone z).wp / 16
    let t := (t.updCmd c.tag (fun c => { c with zone := z, first := some first, count := c.cnt })).dropLocks c.tag
    match t.cmd? c.tag with
    | some c => (t.planWrites 14 c.tag c.tag first c.cnt 0 c.stamp).updCmd c.tag (fun c => { c with stage := 2 })
    | none => t

/-- ZONE APPEND: placed when it took the zone lock; its host data comes in whole and its sectors are written in placement order
(R360). Data that does not arrive unplaces it and the appends placed after it (log entry 39). -/
def execZoneAppend (tag : BitVec 14) (s : State) : Res :=
  .next (s.onStarted tag.toNat 0x03 (fun c =>
    if c.stage = 2 then s.writeEnd c
    else if c.ring?.isNone then (match s.peerData c with | some d => (s.fillPages 14 c.tag c.cnt d).placeNow c | none => s)
    else if c.status ≠ 0 then (if c.recsDone then s.cmdEnd c.tag 0 else s.stopRecs c.tag)
    else if !c.recsDone then s.moreRecs c
    else if c.badCause ≠ 0 then ((s.cmdEnd c.tag (recStatus c.badCause)).unplaceFrom c.zone c.tag)
    else s.writeOut c (c.first.getD 0)))

/-! ### Parcels (R363 to R365) -/

/-- The status of a Pack job's CODE (R365). -/
def packStatus (code : Nat) : Nat :=
  if code = 0 then 0 else if code = 1 then stNotShrunk else if code ≤ 7 then 0x3E + code
  else if code = 8 then 0x46 else if code = 9 then 0x47 else if code = 10 then stBufferData
  else if code = 12 then stInvalidField else 0

/-- A Pack job of a command. -/
def Cmd.packJob (c : Cmd) (op level : Nat) (enc : Bool) (slot inLen : Nat) : PJob :=
  { op := op, level := level, enc := enc, slot := slot, prio := c.cls, fw := false, inTag := c.tag, inOfs := 0, inLen := inLen,
    outTag := c.outTag.getD 16383, outOfs := 0, token := c.tag, restarted := false }

/-- With both Pack instances fenced a command that needs one ends with PACK_UNAVAILABLE (R365). -/
def State.packGone (s : State) (c : Cmd) : State :=
  ((s.dropJobs (fun j => !j.fw && j.token == c.tag)).stopRecs c.tag).cmdEnd c.tag stPackUnavailable

/-- The parcel of a PACK job that is DONE is placed at the write pointer and written (R19, R41). -/
def State.placeParcel (s : State) (c : Cmd) (p : PRes) : State :=
  let z := lbaZone s.sys.cfg c.slba
  let n := (p.outLen + 4095) / 4096
  let out := c.outTag.getD c.tag
  match s.placeAppend z n c.tag with
  | .error st => s.cmdEndAt c.tag st c.slba
  | .ok t =>
    let start := (s.zone z).wp / 16
    -- The rest of the last sector holds zero bytes (R41).
    let fill := n * 4096 - p.outLen
    let t := t.writeMap out 2 p.outLen (List.replicate fill 0)
    let t := t.updCmd c.tag (fun c => { c with zone := z, first := some start, count := n, stage := 2 })
    t.planWrites 13 c.tag out (c.slba + start) n 1 c.stamp

/-- PACKED APPEND: input pages fill while the PACK job runs; the parcel is placed while the zone lock is held and the lock is kept until
MEDIA_WP has passed it (R19, R363, R389). -/
def execPackedAppend (tag : BitVec 14) (s : State) : Res :=
  .next (s.onStarted tag.toNat 0x04 (fun c =>
    if c.stage = 2 then s.writeEnd c
    else if s.packNone then s.packGone c
    else if c.badCause ≠ 0 then
      (if c.opened = 0 then (s.dropJobs (fun j => !j.fw && j.token == c.tag)).cmdEnd c.tag (recStatus c.badCause) else s.moreRecs c)
    else
      let s := if c.recsDone then s else s.moreRecs c
      if c.stage = 0 then
        let enc := c.u 28 1 != 0xFF
        match s.queueJob (c.packJob 0 (s.rd PCK_CFG.LEVEL) enc (if enc then c.u 28 1 else 0) c.cnt) with
        | none => s
        | some t => t.updCmd c.tag (fun c => { c with stage := 1 })
      else match c.pack with
        | none => s
        | some p =>
          if p.code ≠ 0 then (s.stopRecs c.tag).cmdEnd c.tag (packStatus p.code)
          else if !c.recsDone then s
          else s.placeParcel c p))

/-- PARCEL READ: the sectors go through the ladder, the header is read, output pages are taken, an UNPACK or VERIFY job runs, and
ORIG_LEN bytes move to the host after DONE (R299, R364). -/
def execParcelRead (tag : BitVec 14) (s : State) : Res :=
  .next (s.onStarted tag.toNat 0x05 (fun c0 =>
    let s := s.readOffline c0
    let c := (s.cmd? c0.tag).getD c0
    let check := bitOf (c.u 34 1) 0
    let inLen := 256 * c.u 32 2
    match c.stage with
    | 0 =>
      if !c.mediaDone then s
      else
        let t := s.failLost c
        (match t.cmd? c.tag with
         | none => t
         | some d =>
           if d.status ≠ 0 then t.cmdEnd c.tag 0
           else if t.packNone then t.packGone c
           else match t.sectorPage c.tag 0 with
             | none => t
             | some pg =>
               let r := t.portPage 13 pg 16
               let t := r.1
               let h := Parcel.ofBytes r.2.1
               if r.2.2 then t.cmdEnd c.tag stBufferData
               else if h.isBad then t.cmdEnd c.tag 0x46
               else if c.cnt < h.origLen && !check then t.cmdEnd c.tag stBufferShort
               else
                 let t := t.updCmd c.tag (fun c => { c with origLen := h.origLen, keySlot := h.slot, stage := 1 })
                 let n := if check then 0 else (h.origLen + 4095) / 4096
                 match t.allocFor d 0 n with
                 | some t => t.updCmd c.tag (fun c => { c with stage := 2 })
                 | none => t.raiseBit SCH_STATUS.PAGE_WAIT SCH_INT_EN)
    | 1 =>
      (match s.allocFor c 0 ((c.origLen + 4095) / 4096) with
       | some t => t.updCmd c.tag (fun c => { c with stage := 2 })
       | none => s.raiseBit SCH_STATUS.PAGE_WAIT SCH_INT_EN)
    | 2 =>
      if s.packNone then s.packGone c
      else (match s.queueJob (c.packJob (if check then 2 else 1) 0 false 0 inLen) with
        | none => s
        | some t => t.updCmd c.tag (fun c => { c with stage := 3 }))
    | 3 =>
      (match c.pack with
       | none => if s.packNone then s.packGone c else s
       | some p =>
         if p.code ≠ 0 ∨ check then s.cmdEnd c.tag (packStatus p.code)
         else (s.updCmd c.tag (fun c => { c with stage := 4 })).beginRecs c
                (c.hostRecs (c.outTag.getD c.tag) 0 (c.origLen / 4096 + 3) 0 0 c.origLen))
    | _ =>
      if !c.recsDone then s.moreRecs c
      else if c.badCause ≠ 0 then s.cmdEnd c.tag (recStatus c.badCause)
      else s.cmdEnd c.tag 0))

/-! ### Zones (R29 to R31, R361, R362) -/

/-- OPEN of a zone. -/
def State.openZone (s : State) (z : Nat) : Except Nat State :=
  let d := zoneDomain s.sys.cfg z
  let openFull := decide (s.sys.cfg.openLimit ≤ (s.openZones d).length)
  let activeFull := decide (s.sys.cfg.activeLimit ≤ (s.activeZones d).length)
  match (s.zone z).state with
  | .empty => if openFull || activeFull then .error stTooManyOpen else .ok (s.setZState z .explicitOpen)
  | .implicitOpen => .ok (s.setZState z .explicitOpen)
  | .explicitOpen => .ok s
  | .closed => if openFull then .error stTooManyOpen else .ok (s.setZState z .explicitOpen)
  | .offline => .error stZoneOffline
  | _ => .error stZoneState

/-- CLOSE of a zone. -/
def State.closeZone (s : State) (z : Nat) : Except Nat State :=
  match (s.zone z).state with
  | .implicitOpen | .explicitOpen => .ok (s.setZState z (if (s.zone z).wp = 0 then .empty else .closed))
  | .offline => .error stZoneOffline
  | _ => .error stZoneState

/-- FINISH of a zone. -/
def State.finishZone (s : State) (z : Nat) : Except Nat State :=
  match (s.zone z).state with
  | .empty | .implicitOpen | .explicitOpen | .closed =>
    .ok (s.updZone z (fun x => { x with state := .full, wp := 16 * x.capacity, mediaWp := 16 * x.capacity, finished := some (x.mediaWp / 16) }))
  | .offline => .error stZoneOffline
  | _ => .error stZoneState

/-- RESET of a zone may not be made: the status it is refused with. -/
def State.resetRefused (s : State) (z : Nat) : Option Nat :=
  match (s.zone z).state with
  | .offline => some stZoneOffline
  | .readOnly => some stZoneReadOnly
  | .conv => some stZoneState
  | .full => if s.domainWriterLost (zoneDomain s.sys.cfg z) then some stZoneReadOnly else none
  | _ => none

/-- RESET of a zone: GENERATION advances and both pointers return to its start (R31). -/
def State.resetZone (s : State) (z : Nat) : State :=
  s.updZone z (fun x => { x with state := .empty, wp := 0, mediaWp := 0, gen := (x.gen + 1) % 65536, finished := none,
                                 writtenHigh := if (x.gen + 1) % 65536 = 0 then 0 else x.writtenHigh })

/-- The next run of filler sectors of a zone whose generation is about to wrap (R31): `done` sectors from the start have been
overwritten; one page in hand serves a run of one sector. -/
def State.fillerRun (s : State) (c : Cmd) (z : Nat) : State :=
  let k := s.slotOfSector z c.count
  if (s.zone z).writtenHigh ≤ k then s.updCmd c.tag (fun c => { c with stage := 2, secs := [] })
  else
    let t := if (s.cmd? c.tag).bind (fun c => c.outTag) = none then (s.allocFor { c with src := .destage } 0 1).getD s else s
    match (t.cmd? c.tag).bind (fun c => c.outTag) with
    | none => t
    | some o => match t.sectorPage o 0 with
      | none => t
      | some p =>
        let lba := z * zoneSectors t.sys.cfg + c.count
        let zeros : List Byte := List.replicate 4096 0
        let t := (t.writePage 15 p 0 zeros).1
        let t := t.sectorTrailer 11 (4096 * p) lba 3 0 1 zeros
        let (t, n) := t.takeStamp
        t.updCmd c.tag (fun c => { c with secs := [t.secWork 0 lba true n (some (4096 * p)) .todo], stage := 1, count := c.count + 1 })

/-- Takes the ZONE lock of the zone in hand, for a command that takes its zones one at a time; true when it is held. -/
def State.zoneLock (s : State) (c : Cmd) : State × Bool :=
  if s.sch.locks.any (fun (e : LockEnt) => e.tag == c.tag && e.granted) then (s, true)
  else match s.layLocks c with
    | none => (s.raiseBit SCH_STATUS.LOCK_FULL SCH_INT_EN, false)
    | some t => if (t.lockReqs c).any (t.lockBlocked c.tag c.order) then (t, false) else (t.grantLocks c.tag, true)

/-- One zone of a zone management command has been dealt with: its lock goes, and the command ends after the last (R361). -/
def State.zoneNext (s : State) (c : Cmd) (changed : Bool) : State :=
  let all := bitOf (c.u 28 1) 2
  let t := s.updCmd c.tag (fun c => { c with todoZones := c.todoZones.drop 1, changed := c.changed + b2n (changed && all), stage := 0,
                                             count := 0, secs := [] })
  if !all || c.todoZones.length ≤ 1 then t.cmdEnd c.tag 0 else t.dropLocks c.tag

/-- A zone action other than RESET on the zone in hand; with ALL a zone whose state does not allow it is skipped (R361). -/
def State.zoneAction (s : State) (tag action : Nat) (act : State → Nat → Except Nat State) : State :=
  s.onStarted tag 0x06 (fun c =>
    if c.u 28 1 % 4 ≠ action then s
    else match c.todoZones with
      | [] => s.cmdEnd c.tag 0
      | z :: _ =>
        let (t, held) := s.zoneLock c
        if !held then t
        else match act t z with
          | .ok t => t.zoneNext c true
          | .error st => if bitOf (c.u 28 1) 2 then t.zoneNext c false else t.cmdEndAt c.tag st (z * zoneSectors s.sys.cfg))

/-- ZONE_OPEN (R29, R361). -/
def execZoneOpen (tag : BitVec 14) (s : State) : Res := .next (s.zoneAction tag.toNat 0 State.openZone)
/-- ZONE_CLOSE (R29, R361). -/
def execZoneClose (tag : BitVec 14) (s : State) : Res := .next (s.zoneAction tag.toNat 1 State.closeZone)
/-- ZONE_FINISH (R29, R361). -/
def execZoneFinish (tag : BitVec 14) (s : State) : Res := .next (s.zoneAction tag.toNat 2 State.finishZone)

/-- ZONE_RESET: GENERATION advances; when it would be 0, filler sectors are first written over every slot written since the last such
pass (R29, R31). -/
def execZoneReset (tag : BitVec 14) (s : State) : Res :=
  .next (s.onStarted tag.toNat 0x06 (fun c =>
    if c.u 28 1 % 4 ≠ 3 then s
    else match c.todoZones with
      | [] => s.cmdEnd c.tag 0
      | z :: _ =>
        let (t, held) := s.zoneLock c
        if !held then t
        else match t.resetRefused z with
          | some st => if bitOf (c.u 28 1) 2 then t.zoneNext c false else t.cmdEndAt c.tag st (z * zoneSectors s.sys.cfg)
          | none =>
            if (t.zone z).gen ≠ 65535 ∨ c.stage = 2 then (t.resetZone z).zoneNext c true
            else if c.stage = 1 && !c.mediaDone then t
            else if c.status ≠ 0 then t.zoneNext c false
            else t.fillerRun c z))

/-- The type of a zone in ZONE REPORT. -/
def State.zoneDesc (s : State) (z : Nat) : List Byte :=
  let x := s.zone z
  let conv := zoneConv s.sys.cfg z
  leBytes 4 z ++ leBytes 1 (b2n (!conv)) ++ leBytes 1 x.state.code ++ leBytes 1 (zoneDomain s.sys.cfg z) ++ leBytes 1 0 ++
  leBytes 8 (z * zoneSectors s.sys.cfg) ++ leBytes 4 x.capacity ++ leBytes 4 (if conv then 0 else x.wp) ++
  leBytes 4 (if conv then 0 else x.mediaWp) ++ leBytes 2 x.gen ++ leBytes 2 0

/-- ZONE REPORT: a header and up to COUNT descriptors of the zones from SLBA on that match FILTER (R362). -/
def execZoneReport (tag : BitVec 14) (s : State) : Res :=
  .next (s.onStarted tag.toNat 0x07 (fun c =>
    let from_ := lbaZone s.sys.cfg c.slba
    let filter := c.u 28 1
    let zs := ((List.range s.zoneCount).filter (fun z => decide (from_ ≤ z))).filter (fun z =>
      filter == 0xFF || (s.zone z).state.code == filter)
    let out := zs.take c.cnt
    let bytes := leBytes 4 zs.length ++ leBytes 4 out.length ++ leBytes 8 0 ++ out.flatMap s.zoneDesc
    match c.hostAt (bytes.length - 1) with
    | none => s.cmdEnd c.tag stHostData
    | some _ =>
      ((s.hostDataOut c (s.cmdNs c) (bytes.length + 2) 0 bytes).updCmd c.tag (fun c => { c with changed := out.length })).cmdEnd c.tag 0))

/-! ### FLUSH, ABORT, PEER COPY (R340 to R342, R366 to R368) -/

/-- FLUSH: ends when every sector it covers counts as written, or with WRITE_FAULT when one cannot be (R342, R366). -/
def execFlushCmd (tag : BitVec 14) (s : State) : Res :=
  .next (s.onStarted tag.toNat 0x08 (fun c =>
    let waits := s.cmds.any (fun d => writeOpcode d.opcode && decide (d.order < c.order) && d.phase != .ended &&
        (d.ring?.isSome || d.src == .destage)) ||
      s.sch.wb.any (fun e => !e.lost && decide (e.order < c.order))
    if waits then s
    else
      let t := s.forEach (s.sch.wb.filter (fun e => e.lost && decide (e.order < c.order))) (fun e t => t.cmdFail c.tag stWriteFault e.lba)
      t.cmdEnd c.tag 0))

/-- The append of a command has opened its first write gate (R340). -/
def State.appendRuns (s : State) (c : Cmd) : Bool :=
  (s.zone c.zone).placed.any (fun p => p.cmd == c.tag && p.started)

/-- ABORT: the outcomes of R340 in order. A started target is stopped under R341; its ABORT ends after it. An append stopped before its
first write gate is unplaced (log entry 39). -/
def execAbortCmd (tag : BitVec 14) (s : State) : Res :=
  .next (s.onStarted tag.toNat 0x0B (fun c =>
    let r := c.u 28 1
    let i := c.u 30 2
    let n := s.ringN r
    if 128 < r ∨ s.ringState r = 0 ∨ s.ringState r = 1 ∨ n ≤ i ∨ c.src = .ring r i then s.cmdEnd c.tag stInvalidTarget
    else if ringDist n (s.ringHead r) (s.ringTail r) ≤ ringDist n (s.ringHead r) i ∨ s.isDone r i then s.cmdEnd c.tag stAlreadyDone
    else match s.cmds.find? (fun d => d.src == .ring r i) with
      | some d =>
        if s.appendRuns d then s.cmdEnd c.tag stAlreadyDone
        else if d.phase = .fetched ∨ d.phase = .waiting then
          (s.updCmd d.tag (fun d => { d with status := stAborted, phase := .ended })).cmdEnd c.tag 0
        else if r = 128 then
          (s.updCmd c.tag (fun c => { c with status := stAlreadyDone, stage := 1 })).updCmd d.tag
            (fun d => { d with abortedBy := d.abortedBy ++ (if c.stage = 0 then [c.tag] else []) })
        else if c.stage ≠ 0 then s
        else
          let t := s.updCmd d.tag (fun d => { d with status := stAborted, abortedBy := d.abortedBy ++ [c.tag] })
          let t := (t.dropWork d.tag).updCmd c.tag (fun c => { c with stage := 1 })
          t.unplaceFrom d.zone d.tag
      | none =>
        if s.bq.marks.contains (r, i) then s.cmdEnd c.tag 0
        else if 256 ≤ s.bq.marks.length then s.cmdEnd c.tag stAbortLimit
        else
          let t := s.updBq (fun b => { b with marks := b.marks ++ [(r, i)] })
          (t.wr BQ_MARKS.USED t.bq.marks.length).cmdEnd c.tag 0))

/-- A PEER COPY that has its data writes it at its destination here (R424). -/
def State.pullWrite (s : State) (c : Cmd) : State :=
  if bitsOf (c.u 30 1) 2 1 = 0 then
    (s.planWrites 14 c.tag c.tag c.slba c.cnt 0 c.stamp).updCmd c.tag (fun c => { c with stage := 2 })
  else s.placeNow c

/-- PEER COPY: a push reads its sectors and, when all are recovered, sends them as one transfer whose RESULT ends the command; a pull
asks the peer for them and, when its COMMIT has been checked (stage 1), writes them as a WRITE or ZONE APPEND (R368, R420, R424). -/
def execPeerCopy (tag : BitVec 14) (s : State) : Res :=
  .next (s.onStarted tag.toNat 0x0A (fun c0 =>
    let s := s.readOffline c0
    let c := (s.cmd? c0.tag).getD c0
    let q := c.u 28 2 % 1024
    let cls := bitsOf (c.u 28 2) 11 10
    if c.stage = 2 then s.writeEnd c
    else if c.u 30 1 % 2 = 1 then
      if c.stage = 1 then s.pullWrite c
      else if c.xid.isSome then s
      else s.openPull c
    else if c.xid.isSome || !c.mediaDone then s
    else
      let t := s.failLost c
      match t.cmd? c.tag with
      | none => t
      | some d =>
        if d.status ≠ 0 then t.cmdEnd c.tag 0
        else match t.route? q with
          | none => t.cmdEnd c.tag stPeerUnreachable
          | some _ =>
            let op := if bitsOf (c.u 30 1) 2 1 = 0 then 1 else 2
            match t.openXfer (.push c.tag) q cls 0x07 (mediaReq op c.rlimit c.cnt (c.u 32 8 % 2 ^ 40)) with
            | none => t
            | some (t, x) =>
              let (t, data, bad) := t.portPages 14 c.tag c.cnt 0
              if bad then (t.dropXout x).cmdEnd c.tag stBufferData
              else
              let t := t.updXout x (fun y => { y with total := data.length, data := data, phase := .inDoubt })
              let t := t.updCmd c.tag (fun c => { c with xid := some x })
              (t.qSendData q cls x (data.length / 512 + 1) 0 data).qCommit q cls x data))

end Sys2Proof.Machine
end

