-- ==== Sys2Proof/Machine/Power.lean ====
section
/-! DEFINITION. Idleness and power states (R396 to R401). -/

namespace Sys2Proof.Machine
open Reg

/-- Advertised exit latency of P0 to P5 in microseconds (R396). -/
def exitLatency (k : Nat) : Nat := [0, 60, 450000, 4000000, 20000000, 22000000].getD k 0

/-- The IDLE_TIMERS value (R372, R402). -/
def State.idleTimers (s : State) : Nat := s.rd SCH_IDLE_LO.IDLE + 2 ^ 32 * s.rd SCH_IDLE_HI.IDLE

/-- The idle timer of Pk in microseconds; 0 disables the state (R372). -/
def State.idleTimer (s : State) (k : Nat) : Nat :=
  let v := s.idleTimers
  match k with
  | 1 => 1000 * bitsOf v 11 0
  | 2 => 100000 * bitsOf v 23 12
  | 3 => 1000000 * bitsOf v 35 24
  | 4 => 1000000 * bitsOf v 47 36
  | 5 => 1000000 * bitsOf v 59 48
  | _ => 0

/-- Pk is allowed (R397). -/
def State.powerAllowed (s : State) (k : Nat) : Bool :=
  k == 0 || (decide (exitLatency k ≤ s.rd SCH_LAT_TOL.TOL) && s.idleTimer k != 0)

/-- The deepest allowed state of P0 to Pk. -/
def State.deepestUpTo (s : State) : Nat → Nat
  | 0 => 0
  | k + 1 => if s.powerAllowed (k + 1) then k + 1 else s.deepestUpTo k

/-- The deepest allowed state (R397). -/
def State.deepestAllowed (s : State) : Nat := s.deepestUpTo 5

/-- Shows the deepest allowed state (R402). -/
def State.showAllowed (s : State) : State := s.wr SCH_PWR_STAT.ALLOWED s.deepestAllowed

/-- A FLUSH covers nothing (R342): no earlier write is under way and no write-back data is held. -/
def State.flushEmpty (s : State) (c : Cmd) : Bool :=
  !(s.cmds.any (fun d => writeOpcode d.opcode && decide (d.order < c.order))) && !s.wbDirty

/-- An admin command that reaches the media (R398): ADOPT MEDIA writes binding records, LOGBOOK CLEAR the copies in the system areas. -/
def Cmd.adminMedia (c : Cmd) : Bool := c.opcode == 0x90 || c.opcode == 0x8A

/-- A command whose fetch ends idleness (R399): any I/O command but ABORT, ZONE REPORT and a FLUSH that covers nothing; an admin command that
reaches the media. -/
def State.wakes (s : State) (c : Cmd) : Bool :=
  match c.src with
  | .peer _ _ => true
  | .destage => true
  | .ring r _ => if r = 128 then c.adminMedia
                 else c.opcode != 0x0B && c.opcode != 0x07 && !(c.opcode == 0x08 && s.flushEmpty c)

/-- Work that ends idleness is in hand. -/
def State.wakeWork (s : State) : Bool := s.cmds.any s.wakes || !s.qfb.ins.isEmpty

/-- The device is idle (R398). -/
def State.idle (s : State) : Bool :=
  s.cmds.all (fun c => c.onAdmin && !c.adminMedia) && s.bq.reads.all (fun f => f.ring == 128) && !s.wbDirty && s.dec.rereadQ.isEmpty && s.qfb.ins.isEmpty

/-- Keeps SCH_PWR_STAT.IDLE and the start of the idle period. -/
def State.idleTick (s : State) : State :=
  let i := s.idle
  (s.wr SCH_PWR_STAT.IDLE (b2n i)).updSch (fun u => { u with idleSince := if i then (match u.idleSince with | some x => some x | none => some s.sys.time) else none })

/-- Speed of P3 in 2^−16 of nominal (R396). -/
def State.p3Speed (s : State) : Int := ((s.rd SCH_PWR_CFG.P3_PCT * 65536 / 100 : Nat) : Int)

/-- The spindle's profile ends at `v`. -/
def State.spinsTo (s : State) (v : Int) : Bool :=
  match s.ctl.profs.getD 4 none with
  | some p => p.dest == v
  | none => v == s.ctl.spRef

/-- Takes the spindle to the speed of state Pk when it runs: P3_PCT of nominal in P3, full speed above. -/
def State.spinFor (s : State) (k : Nat) : State :=
  let v : Int := if k = 3 then s.p3Speed else 65536
  if s.spRunning && s.loopState 28 == 1 && !s.spinsTo v then s.plan 4 s.ctl.spRef v else s

/-- Puts the DRAM channels in service into self-refresh, or takes them out of it (R396). -/
def State.selfRefresh (s : State) (on : Bool) : State :=
  s.forEach ((List.range 2).filter (fun c => s.dramPresent c && !s.on (DDR_STATUS.FENCED c))) (fun c t => t.wr (DDR_STATUS.SELF_REFRESH c) (b2n on))

/-- Sets a change of state to Pk going: heads unload for P2 and deeper (R211), the spindle stops for P4 and P5, starts or changes speed
otherwise (R398 to R400). -/
def State.powerMove (s : State) (k : Nat) : State :=
  let t := s.wrs [(SCH_PWR_STAT.TARGET, k), (SCH_PWR_STAT.MOVING, 1)]
  let t := t.when (s.rd SCH_PWR_STAT.STATE == 5 && k != 5) (fun t => t.selfRefresh false)
  let t := t.when (decide (2 ≤ k) && !t.allParked) State.retractAll
  if 4 ≤ k then t.stopSpindle
  else if t.spRunning then t.spinFor k
  else t.startSpindle

/-- Heads and spindle are as state Pk has them: for P0 and P1 every actuator that is not FENCED is LOADED at full speed. -/
def State.powerAt (s : State) (k : Nat) : Bool :=
  if 4 ≤ k then s.allParked && s.spState == 0
  else if k = 3 then s.allParked && s.spRunning && s.spinsTo s.p3Speed && !s.on (PROF_STAT.BUSY 4)
  else if k = 2 then s.allParked && s.loadSpeedOk
  else s.loadSpeedOk && s.allActs.all (fun a => s.actState a == 3 || s.actState a == 5)

/-- The work that a move to Pk still asks for, now that an earlier part has ended: the P3 or full-speed profile, LOAD of the parked
actuators. -/
def State.powerOn (s : State) (k : Nat) : State :=
  let t := if k ≤ 3 then s.spinFor k else s
  if k ≤ 1 && t.loadSpeedOk then
    t.forEach (t.allActs.filter (fun a => t.actState a == 0 && t.on (MOT_ASTATUS.POL_OK a))) (fun a t => t.startLoad a)
  else t

/-- The latency of an LTR message in microseconds (R315). -/
def ltrUs (k : Nat) : Nat := if k ≤ 1 then 20 else if k ≤ 4 then 1000 else 3000

/-- Pk has been reached: it is shown and counted, LTR is sent, and SET LATENCY TOLERANCE commands that wait for it end (R315, R400). -/
def State.powerReached (s : State) (k : Nat) : State :=
  let t := s.wrs [(SCH_PWR_STAT.STATE, k), (SCH_PWR_STAT.TARGET, k), (SCH_PWR_STAT.MOVING, 0)]
  let t := t.raiseBit SCH_STATUS.PWR_CHANGE SCH_INT_EN
  let t := match k with
    | 0 => t | 1 => t.inc SCH_PWR_CNT.P1 | 2 => t.inc SCH_PWR_CNT.P2 | _ => t.inc SCH_PWR_CNT.P3TO5
  let t := t.when (k == 5) (fun t => t.selfRefresh true)
  let t := t.emit (.ltr (ltrUs k))
  let t := t.forEach t.sch.pwrWait (fun tag t => t.cmdEnd tag 0)
  t.updSch (fun u => { u with pwrWait := [] })

/-- POWER_STATE_REACHED: a change of state completes once heads and spindle are there; until then its next part is set going. A domain
with every unit at hand is left out when fenced (R401). -/
def execPowerStateReached (s : State) : Res :=
  .next (
    if !s.on SCH_PWR_STAT.MOVING || !s.running then s
    else
      let k := s.rd SCH_PWR_STAT.TARGET
      if s.powerAt k then s.powerReached k else s.powerOn k)

/-- IDLE_TIMER_EXPIRY of Pk, `k` from 1: entered directly when it is allowed and deeper than the present state (R398); a fetch in the
same cycle wins (R401). -/
def execIdleTimerExpiry (k : Fin 6) (s : State) : Res :=
  .next (
    let t := s.idleTick
    match t.sch.idleSince with
    | none => t
    | some t0 =>
      if !t.running || t.link.d3hot || k = 0 || !t.powerAllowed k || t.sys.time < t0 + 25000 * t.idleTimer k ||
         k.val ≤ t.rd SCH_PWR_STAT.TARGET then t
      else t.powerMove k)

/-- IDLE_END: work that ends idleness returns the K4 to P0; an entry under way is abandoned at its next safe point (R399). -/
def execIdleEnd (s : State) : Res :=
  .next (
    let s := s.idleTick
    if !s.wakeWork || s.rd SCH_PWR_STAT.TARGET = 0 || !s.running then s
    else
      let entering := s.on SCH_PWR_STAT.MOVING && decide (s.rd SCH_PWR_STAT.STATE < s.rd SCH_PWR_STAT.TARGET)
      let t := s.when entering (fun t => (t.raiseBit SCH_STATUS.PWR_ABANDON SCH_INT_EN).inc SCH_PWR_CNT.ABANDON)
      t.powerMove 0)

end Sys2Proof.Machine
end

