-- ==== Sys2Proof/Machine/Admin.lean ====
section
/-! DEFINITION. The admin commands (chapter 16): identification, features, rings, log pages, tokens, firmware, keys, media adoption
and fabric status; firmware activation (R344, R454). -/

namespace Sys2Proof.Machine
open Reg

/-! ### Host data -/

/-- Reads of `n` bytes of a command's host data from byte `ofs`; `fuel` bounds the spans (R307, R352). -/
def State.hostDataGet (s : State) (c : Cmd) : Nat → Nat → Nat → State
  | 0, _, _ => s
  | fuel + 1, ofs, n =>
    if n = 0 then s
    else match c.hostAt ofs with
      | none => s
      | some (a, room) =>
        let k := min n room
        (s.hostGet (s.cmdNs c) (k + 1) a k).hostDataGet c fuel (ofs + k) (n - k)

/-- Runs `f` on the `n` bytes of host data that a command reads: with a page list too short, or where the host's completion failed, it
ends with HOST_DATA_ERROR (R352, R357). -/
def State.withHostData (s : State) (c : Cmd) (n : Nat) (data : Option (List Byte)) (f : State → List Byte → State) : State :=
  if n ≠ 0 ∧ c.hostAt (n - 1) = none then s.cmdEnd c.tag stHostData
  else
    let t := s.hostDataGet c (n / 4096 + 2) 0 n
    match data with
    | none => t.cmdEnd c.tag stHostData
    | some b => if b.length = n then f t b else t.cmdEnd c.tag stHostData

/-- Writes a page to a command's host data and ends it. -/
def State.replyPage (s : State) (c : Cmd) (bs : List Byte) : State :=
  if bs.length ≠ 0 ∧ c.hostAt (bs.length - 1) = none then s.cmdEnd c.tag stHostData
  else (s.hostDataOut c (s.cmdNs c) (bs.length / 4096 + 2) 0 bs).cmdEnd c.tag 0

/-- Zero bytes. -/
def zeros (n : Nat) : List Byte := List.replicate n 0

/-- Lays fields (offset, bytes) over `n` zero bytes, in ascending order of offset. -/
def layFields (n : Nat) : Nat → List (Nat × List Byte) → List Byte
  | at_, [] => zeros (n - at_)
  | at_, (o, b) :: l => zeros (o - at_) ++ b ++ layFields n (o + b.length) l

/-! ### IDENTIFY (R371) -/

/-- The mode code of IDENTIFY. -/
def Mode.identify : Mode → Nat
  | .service => 1 | .degraded => 2 | .factory => 3 | _ => 0

/-- The device structure, CNS 0. -/
def State.identifyDevice (s : State) : List Byte :=
  let c := s.sys.cfg
  layFields 4096 0 [(0, leBytes 2 0x1F3C), (2, leBytes 2 0x2448), (4, leBytes 4 (s.rd SYS_ID.ID)), (8, leBytes 1 (s.rd SYS_REV.REV)),
    (9, leBytes 1 s.mode.identify),
    (10, leBytes 2 (b2n (s.on SYS_MODE.MEDIA_NOT_READY) + 2 * b2n (s.on SYS_MODE.RESCUE) + 4 * b2n s.foreignAny + 8 * b2n s.sch.wbOn)),
    (16, leBytes 8 s.serial), (24, leBytes 8 s.deviceSectors), (32, leBytes 4 s.zoneCount), (36, leBytes 4 (zoneSectors c)),
    (40, leBytes 2 c.convZones), (42, leBytes 2 c.openLimit), (44, leBytes 2 c.activeLimit), (46, leBytes 2 256), (48, leBytes 1 128),
    (49, leBytes 1 64), (50, leBytes 2 16384), (52, leBytes 4 65536), (64, (List.range 6).flatMap (fun k => leBytes 4 (exitLatency k))),
    (88, leBytes 8 s.sys.revision), (96, leBytes 1 s.persist.activeSlot), (97, leBytes 1 (maskOf 4 s.actPresent)),
    (98, leBytes 1 c.readers), (99, leBytes 1 (maskOf 4 s.portPresent)), (100, leBytes 4 (maskOf 24 s.headPresent)),
    (104, leBytes 1 (maskOf 2 s.dramPresent))]

/-- A head counts as fenced when its servo demodulator or its microactuator is (DEDUCED, log entry 43). -/
def State.headFenced (s : State) (h : Nat) : Bool := s.watch.fences.any (fun u => match u with
  | .srv k => k.val == h | .microact k => k.val == h | _ => false)

/-- The fenced members of a numbered unit class. -/
def State.fencedMask (s : State) (num : FUnit → Option Nat) : Nat :=
  maskOf 64 (fun i => s.watch.fences.any (fun u => num u == some i))

/-- The unit structure, CNS 1: present and fenced members of each class. -/
def State.identifyUnits (s : State) : List Byte :=
  let ent (p f : Nat) : List Byte := leBytes 8 p ++ leBytes 8 f
  let all (n : Nat) : Nat := 2 ^ n - 1
  let eng (lo hi : Nat) : Nat := s.fencedMask (fun u => match u with
    | .engine n => if lo ≤ n.val ∧ n.val < hi then some (n.val - lo) else none | _ => none)
  let bs := ent (maskOf 28 s.chanPresent) (s.fencedMask (fun u => match u with | .chan n => some n.val | _ => none)) ++
    ent (maskOf 24 s.headPresent) (maskOf 24 s.headFenced) ++ ent (all 32) (eng 0 32) ++ ent (all 4) (eng 32 36) ++
    ent (all 64) (s.fencedMask (fun u => match u with | .lgt n => some n.val | _ => none)) ++
    ent (all 2) (s.fencedMask (fun u => match u with | .pack n => some n.val | _ => none)) ++
    ent (maskOf 2 s.dramPresent) (s.fencedMask (fun u => match u with | .dram n => some n.val | _ => none)) ++
    ent (all 2) (s.fencedMask (fun u => match u with | .plane n => some n.val | _ => none)) ++
    ent (all 3) (s.fencedMask (fun u => match u with | .helm n => some n.val | _ => none)) ++
    ent (all 2) (s.fencedMask (fun u => match u with | .lane n => some n.val | _ => none)) ++
    ent (all 2) (s.fencedMask (fun u => match u with | .pwmGen n => some n.val | _ => none)) ++
    ent (maskOf 4 s.portPresent) (s.fencedMask (fun u => match u with | .quay n => some n.val | _ => none))
  bs ++ zeros (4096 - bs.length)

/-- IDENTIFY: CNS 0 the device, CNS 1 the units (R371). -/
def execIdentify (tag : BitVec 14) (s : State) : Res :=
  .next (s.onStarted tag.toNat 0x80 (fun c =>
    if c.u 28 1 = 0 then s.replyPage c s.identifyDevice
    else if c.u 28 1 = 1 then s.replyPage c s.identifyUnits
    else s.cmdEnd c.tag stInvalidField))

/-! ### Features (R358, R372) -/

/-- The value of a feature; none for an unlisted FID. -/
def State.feature (s : State) (fid : Nat) : Option Nat :=
  match fid with
  | 1 => some (b2n s.sch.wbOn)
  | 2 => some (s.rd PCK_CFG.LEVEL)
  | 3 => some s.idleTimers
  | 4 => some (s.rd DEC_RETRY_CFG.MARG_EN + 2 * s.rd DEC_RETRY_CFG.MARG_STEP)
  | _ => none

/-- GET FEATURE (R372). -/
def execGetFeature (tag : BitVec 14) (s : State) : Res :=
  .next (s.onStarted tag.toNat 0x81 (fun c =>
    match s.feature (c.u 28 1) with
    | none => s.cmdEnd c.tag stInvalidField
    | some v => (s.updCmd c.tag (fun c => { c with spec := v })).cmdEnd c.tag 0))

/-- Write-back caching may be enabled (R358): two DRAM channels present and not fenced, and a mirrored range. -/
def State.wbAllowed (s : State) : Bool :=
  s.sys.cfg.dramChannels % 4 == 3 && !s.on (DDR_STATUS.FENCED 0) && !s.on (DDR_STATUS.FENCED 1) && decide (0 < s.mirSize)

/-- SET FEATURE (R372): WRITE_CACHE off ends when every write-back sector counts as written, and stays on until then (R358, R384);
PACK_LEVEL and MARGINAL are written and glued. -/
def execSetFeature (tag : BitVec 14) (s : State) : Res :=
  .next (s.onStarted tag.toNat 0x82 (fun c =>
    let v := c.u 32 8
    match c.u 28 1 with
    | 1 =>
      if 2 ≤ v then s.cmdEnd c.tag stInvalidField
      else if v = 1 then
        (if s.wbAllowed then (s.updSch (fun u => { u with wbOn := true })).cmdEnd c.tag 0 else s.cmdEnd c.tag stNotAllowed)
      else if s.wbDirty then s
      else (s.updSch (fun u => { u with wbOn := false })).cmdEnd c.tag 0
    | 2 =>
      if 4 ≤ v then s.cmdEnd c.tag stInvalidField
      else ((s.barWrite 1 PCK_CFG (setF (s.holdRead PCK_CFG) 2 1 v)).glue [21] 1 false).cmdEnd c.tag 0
    | 3 =>
      if 2 ^ 60 ≤ v then s.cmdEnd c.tag stInvalidField
      else (s.wrs [(SCH_IDLE_LO.IDLE, v), (SCH_IDLE_HI.IDLE, v / 2 ^ 32)]).showAllowed.cmdEnd c.tag 0
    | 4 =>
      if 8 ≤ v ∨ v / 2 = 0 then s.cmdEnd c.tag stInvalidField
      else (s.barWrite 1 DEC_RETRY_CFG (setF (setF (s.holdRead DEC_RETRY_CFG) 12 12 (v % 2)) 14 13 (v / 2))).cmdEnd c.tag 0
    | _ => s.cmdEnd c.tag stInvalidField))

/-- SET LATENCY TOLERANCE (R373, R400): a state that it no longer allows is left at once for the deepest allowed one that is shallower. -/
def execSetLatencyTolerance (tag : BitVec 14) (s : State) : Res :=
  .next (s.onStarted tag.toNat 0x83 (fun c =>
    if c.stage ≠ 0 then s
    else
      let t := (s.wr SCH_LAT_TOL.TOL (c.u 32 4)).showAllowed
      let k := t.rd SCH_PWR_STAT.TARGET
      let t := t.updCmd c.tag (fun c => { c with spec := t.deepestAllowed, stage := 1 })
      if t.powerAllowed k then t.cmdEnd c.tag 0
      else (t.updSch (fun u => { u with pwrWait := u.pwrWait ++ [c.tag] })).powerMove (t.deepestUpTo k)))

/-- SET TIME (R373). -/
def execSetTime (tag : BitVec 14) (s : State) : Res :=
  .next (s.onStarted tag.toNat 0x8F (fun c =>
    (s.updSys (fun u => { u with calendar := some (c.u 32 8, u.time) })).cmdEnd c.tag 0))

/-! ### Rings (R323, R325, R370) -/

/-- RING CREATE (R370). -/
def execRingCreate (tag : BitVec 14) (s : State) : Res :=
  .next (s.onStarted tag.toNat 0x84 (fun c =>
    let r := c.u 28 1
    let cls := c.u 29 1 % 4
    let depth := c.u 32 2
    let base := c.u 36 8
    let res := c.u 44 8
    if 128 ≤ r ∨ depth = 0 ∨ base % 64 ≠ 0 ∨ res % 64 ≠ 0 ∨ (cls ≠ 0 ∧ c.u 30 1 = 0) then s.cmdEnd c.tag stInvalidField
    else if s.ringState r ≠ 0 then s.cmdEnd c.tag stBadRing
    else (s.createRing r cls (c.u 30 1) (c.u 31 1) depth base res).cmdEnd c.tag 0))

/-- Runs `f` on the ring that a ring command names, when it is in one of the states; else BAD_RING_STATE (R325, R370). -/
def State.onRing (s : State) (tag op : Nat) (states : List Nat) (f : Cmd → Nat → State) : State :=
  s.onStarted tag op (fun c =>
    let r := c.u 28 1
    if 128 ≤ r then s.cmdEnd c.tag stInvalidField
    else if states.contains (s.ringState r) then f c r
    else s.cmdEnd c.tag stBadRing)

/-- RING DELETE (R325). -/
def execRingDelete (tag : BitVec 14) (s : State) : Res :=
  .next (s.onRing tag.toNat 0x85 [1] (fun c r => (s.deleteRing r).cmdEnd c.tag 0))

/-- RING ENABLE (R325). -/
def execRingEnable (tag : BitVec 14) (s : State) : Res :=
  .next (s.onRing tag.toNat 0x86 [1] (fun c r => (s.enableRing r).cmdEnd c.tag 0))

/-- RING DISABLE: DISABLE_SETTLED ends it (R338). -/
def execRingDisable (tag : BitVec 14) (s : State) : Res :=
  .next (
    if ((s.cmd? tag.toNat).map (fun c => c.stage)).getD 0 ≠ 0 then s
    else s.onRing tag.toNat 0x87 [2, 5] (fun c r => (s.updCmd c.tag (fun c => { c with stage := 1 })).disableRing r))

/-- RING RESTART (R337). -/
def execRingRestart (tag : BitVec 14) (s : State) : Res :=
  .next (s.onRing tag.toNat 0x88 [5] (fun c r => (s.restartRing r).cmdEnd c.tag 0))

/-! ### Log pages (R379 to R383) -/

/-- Page 1, the ring error page (R380). -/
def State.ringPage (s : State) (r : Nat) : List Byte :=
  if s.ringState r ≠ 5 then layFields 544 0 [(0, leBytes 1 r), (1, leBytes 1 (s.ringState r))]
  else
    layFields 544 0 [(0, leBytes 1 r), (1, leBytes 1 5), (2, leBytes 2 (s.rd (BQ_STATE.FREEZE_AT r))), (4, leBytes 2 (s.markedCount r)),
      (8, (s.ring r).failRes ++ zeros (16 - (s.ring r).failRes.length)), (32, leBytes 512 ((s.freezeBits r).foldl (fun x i => x + 2 ^ i) 0))]

/-- Page 2, the marginal-sector page (R381). -/
def State.marginalPage (s : State) : List Byte :=
  let l := s.dec.marginal.reverse
  leBytes 4 l.length ++ leBytes 4 s.sch.margCount ++ zeros 8 ++ l.flatMap (fun m =>
    leBytes 5 m.lba ++ leBytes 1 m.head ++ leBytes 1 (m.step % 16 + 16 * (m.rereads % 16)) ++ leBytes 1 0 ++ leBytes 2 m.dqm ++ leBytes 6 m.bell)

/-- Page 3, the health page (R382). -/
def State.healthPage (s : State) : List Byte :=
  let lost (f : Nat → Fld) : Nat := maskOf 24 (fun h => s.on (f h))
  let marked := ((List.range 2).flatMap (fun c => [s.markOf c 0, s.markOf c 1])).filter (fun m => decide (m < 10))
  layFields 128 0 ([(0, leBytes 8 s.sys.opSeconds), (8, leBytes 4 (s.rd SYS_PWR_CYCLES.CNT)), (12, leBytes 4 (s.rd SYS_WARM_STARTS.CNT)),
    (16, (List.range 5).flatMap (fun k => leBytes 4 (s.watch.raised.getD k 0))), (36, leBytes 4 (lost WRP_STATUS.WRITER_LOST)),
    (40, leBytes 4 (lost WRP_STATUS.READER_A_LOST)), (44, leBytes 4 (lost WRP_STATUS.READER_B_LOST)),
    (48, (List.range 4).flatMap (fun d => leBytes 4 (s.media.grown.getD d []).length)), (64, leBytes 2 (s.rd MEM_CARVE_STAT.RETIRED)),
    (66, leBytes 1 marked.length), (67, leBytes 1 (b2n s.sch.wbForced + 2 * b2n s.sch.wbUnwritable)), (68, leBytes 4 s.sch.unrec)])

/-- Page 4, the logbook (R383). -/
def State.logbookPage (s : State) : List Byte :=
  leBytes 4 s.watch.ring.length ++ leBytes 8 ((s.watch.ring.head?.map (fun r => r.seq)).getD 0) ++ zeros 4 ++
  s.watch.ring.flatMap (fun r => r.exported s.watch.snapSeq)

/-- Page 5, the firmware page (R383): revision and patch level of each slot's header and patches. -/
def State.firmwarePage (s : State) : List Byte :=
  let slot (k : Nat) : List Byte :=
    let img := s.slotImage k
    leBytes 8 ((img.map (fun i => i.revision)).getD (fieldAt (s.flashBytes (slotBase k + 8) 8) 0 8)) ++
    leBytes 2 (s.persist.slotState.getD k 0) ++ leBytes 2 ((img.map (fun i => i.level)).getD 0) ++ zeros 4
  layFields 64 0 [(0, slot 0), (16, slot 1), (32, leBytes 1 s.persist.activeSlot), (33, leBytes 1 s.persist.nextSlot), (34, leBytes 1 s.persist.failed)]

/-- A log page by its LID; none for an unlisted one, or a RING beyond 128. -/
def State.logPage (s : State) (lid r : Nat) : Option (List Byte) :=
  match lid with
  | 1 => if r ≤ 128 then some (s.ringPage r) else none
  | 2 => some s.marginalPage
  | 3 => some s.healthPage
  | 4 => some s.logbookPage
  | 5 => some s.firmwarePage
  | _ => none

/-- GET LOG (R379). -/
def execGetLog (tag : BitVec 14) (s : State) : Res :=
  .next (s.onStarted tag.toNat 0x89 (fun c =>
    let ofs := c.u 32 4
    match s.logPage (c.u 28 1) (c.u 29 1) with
    | none => s.cmdEnd c.tag stInvalidField
    | some page =>
      if ofs % 4 ≠ 0 ∨ c.cnt % 4 ≠ 0 ∨ 1048576 < c.cnt then s.cmdEnd c.tag stInvalidField
      else
        let bs := (page.drop ofs).take c.cnt
        s.replyPage c (bs ++ zeros (c.cnt - bs.length))))

/-! ### Tokens (R375, R376) -/

/-- The TOKEN_ID of a token. -/
def tokenId (b : List Byte) : Nat := fieldAt b 8 8

/-- A token passes every check of R375 for a purpose. -/
def State.tokenOk (s : State) (purpose : Nat) (b : List Byte) : Bool :=
  b.length == 144 && fieldAt b 0 4 == 0x4E4B4F54 && fieldAt b 4 2 == 1 && fieldAt b 6 2 == purpose &&
  decide (s.persist.tokenIds.getD purpose 0 < tokenId b) && fieldAt b 16 8 == s.serial &&
  (fieldAt b 24 8 == 0 || decide (s.sys.opSeconds ≤ fieldAt b 24 8)) &&
  Config.ecdsaOk s.sys.cfg.authorityKey (bytesAt b 0 48) (bytesAt b 48 96)

/-- A token is accepted: its identifier is kept and recorded (R375). -/
def State.tokenTaken (s : State) (purpose : Nat) (b : List Byte) : State :=
  (s.updPersist (fun p => { p with tokenIds := listSet p.tokenIds purpose (tokenId b) })).logEvent 0x0008 0x1FF (tokenId b)

/-- A token is refused: a record carries its TOKEN_ID (R375). -/
def State.tokenRefused (s : State) (b : List Byte) : State := s.logEvent 0x0009 0x1FF (tokenId b)

/-- LOGBOOK CLEAR under a token of purpose 1 (R376, R478): the rings, the system-area copies, the summary and the ride-through area are
emptied; the clear is the next record. While media is foreign nothing is written to it (R50). -/
def State.clearLogbook (s : State) (tokId : Nat) : State :=
  let t := s.forEach s.allActs (fun d t => t.writeArea d (fun _ => []))
  (t.updWatch (fun w => { w with ring := [], summary := [], rideArea := [], persisted := w.nextSeq })).logEvent 0x000A 0x1FF tokId

/-- LOGBOOK CLEAR (R376). -/
def execLogbookClear (tag : BitVec 14) (data : Option (List Byte)) (s : State) : Res :=
  .next (s.onStarted tag.toNat 0x8A (fun c =>
    s.withHostData c 144 data (fun t b =>
      if t.tokenOk 1 b then ((t.tokenTaken 1 b).clearLogbook (tokenId b)).cmdEnd c.tag 0
      else (t.tokenRefused b).cmdEnd c.tag stAuthFailed)))

/-- The order of the curve P-384. -/
def p384Order : Nat := 39402006196394479212279040100143613805079739270465446667946905279627659399113263569398956308152294913554433653942643

/-- The private scalar of the device identity key (R450). -/
def State.identityScalar (s : State) : Nat :=
  Config.hmac384 s.sys.fuses.devSecret ([0x4B, 0x34, 0x20, 0x49, 0x44, 0x45, 0x4E, 0x54, 0x49, 0x54, 0x59]) % (p384Order - 1) + 1

/-- The identity public key. -/
def State.identityKey (s : State) : Nat := Config.publicKey s.identityScalar

/-- A media binding record (R48). -/
def State.bindingRecord (s : State) (count tokId : Nat) : List Byte :=
  let b := leBytes 4 0x444E4942 ++ leBytes 2 1 ++ leBytes 2 0 ++ leBytes 96 s.identityKey ++ leBytes 8 count ++ leBytes 8 s.sys.opSeconds ++ leBytes 8 tokId
  let b := b ++ Config.ecdsaSign s.identityScalar b
  let b := b ++ zeros (252 - b.length)
  b ++ leBytes 4 (crc32c b).toNat

/-- Writes new binding records to both copies on every domain: the media is bound, and its system areas are written again (R46, R50). -/
def State.bindMedia (s : State) (tokId : Nat) : State :=
  let n := s.media.bindCount.foldl max 0 + 1
  let r := s.bindingRecord n tokId
  let t := s.updMedia (fun m => { m with
    foreign := m.foreign.map (fun _ => false), bindCount := m.bindCount.map (fun _ => n),
    bindRecs := (List.range 4).map (fun d => if s.actPresent d then (r, r) else ([], [])) })
  (t.clr SYS_MODE.FOREIGN).forEach s.allActs (fun d t => t.saveArea d)

/-- ADOPT MEDIA under a token of purpose 2 (R50, R376): NOT_FOREIGN on bound media. -/
def execAdoptMedia (tag : BitVec 14) (data : Option (List Byte)) (s : State) : Res :=
  .next (s.onStarted tag.toNat 0x90 (fun c =>
    if !s.foreignAny then s.cmdEnd c.tag stNotForeign
    else s.withHostData c 144 data (fun t b =>
      if t.tokenOk 2 b then ((t.tokenTaken 2 b).bindMedia (tokenId b)).cmdEnd c.tag 0
      else (t.tokenRefused b).cmdEnd c.tag stAuthFailed)))

/-! ### Firmware (R344, R377, R454) -/

/-- The slot that is not active. -/
def State.inactiveSlot (s : State) : Nat := 1 - s.persist.activeSlot % 2

/-- A firmware event is recorded (R475 type 0x0004, whose DETAIL is open). -/
def State.logFirmware (s : State) : State := s.logFree 0x0004 0x1FF

/-- Commits the inactive slot: it is checked as a whole; in rescue a valid one is the slot of the next start and F is 0 (R377, R449). -/
def State.commitSlot (s : State) (c : Cmd) (slot : Nat) : State :=
  match s.slotImage slot with
  | some _ =>
    let t := s.updPersist (fun p => { p with slotState := listSet p.slotState slot 1 })
    let t := t.when (t.on SYS_MODE.RESCUE) (fun t => t.updPersist (fun p => { p with nextSlot := slot, failed := 0 }))
    t.logFirmware.cmdEnd c.tag 0
  | none => ((s.updPersist (fun p => { p with slotState := listSet p.slotState slot 2 })).logFirmware).cmdEnd c.tag stImageInvalid

/-- FIRMWARE DOWNLOAD (R377, R441). -/
def execFirmwareDownload (tag : BitVec 14) (data : Option (List Byte)) (s : State) : Res :=
  .next (s.onStarted tag.toNat 0x8B (fun c =>
    let commit := bitOf (c.u 28 1) 0
    let ofs := c.u 32 4
    let slot := s.inactiveSlot
    if ofs % 4096 ≠ 0 ∨ c.cnt % 4096 ≠ 0 ∨ slotSize < ofs + c.cnt ∨ (c.cnt = 0 ∧ !commit) then s.cmdEnd c.tag stInvalidField
    else if s.on SYS_MODE.FLASH_ABSENT then s.cmdEnd c.tag stDeviceFault
    else s.withHostData c c.cnt data (fun t b =>
      let t := if b.isEmpty then t
        else (t.flashPut (slotBase slot + ofs) b).updPersist (fun p => { p with slotState := listSet p.slotState slot 3 })
      if commit then t.commitSlot c slot else t.cmdEnd c.tag 0)))

/-- FIRMWARE ACTIVATE: NEXT_START only names the slot of the next start; otherwise the slot is checked, its fixed configuration is
compared, and the queues quiesce: fetching stops and admin entries fetched after it are discarded (R344, R377, R454). -/
def execFirmwareActivate (tag : BitVec 14) (s : State) : Res :=
  .next (s.onStarted tag.toNat 0x8C (fun c =>
    let slot := c.u 28 1 % 2
    if c.stage ≠ 0 then s
    else if bitOf (c.u 28 1) 7 then
      (s.updPersist (fun p => { p with nextSlot := slot })).cmdEnd c.tag 0
    else if s.persist.slotState.getD slot 0 ≠ 1 then s.cmdEnd c.tag stImageInvalid
    else match s.slotImage slot with
      | none => s.cmdEnd c.tag stImageInvalid
      | some img =>
        if !cfgFrozen img.cfg s.sys.cfg then s.cmdEnd c.tag stActivationFailed
        else
          let t := s.updCmd c.tag (fun c => { c with stage := 1 })
          let t := t.updSch (fun u => { u with activate := some (c.tag, slot, s.sys.time) })
          let t := t.updBq (fun b => { b with stopped := true })
          let t := t.updSys (fun u => { u with activating := some slot })
          let t := t.discardAfter 128 (ringDist (t.ringN 128) (t.ringHead 128) c.ringIdx)
          (t.wr (BQ_INDEX.FETCH 128) ((c.ringIdx + 1) % t.ringN 128)).showWindow 128))

/-- QUIESCE_DONE: the queues are quiesced for a firmware activation: Q is taken (R344 step 3); or they are drained for D3hot with all
write-back data written: memory requests are answered with UR from then on and the deepest allowed power state is entered (R314,
R400). -/
def execQuiesceDone (s : State) : Res :=
  .next (
    match s.sch.activate with
    | some (tag, slot, t0) =>
      if s.bq.stopped && s.drained (some tag) && !s.on BQ_STATUS.QUIESCED && (s.pack.queue.filter (fun j => !j.fw)).isEmpty then
        let t := (s.bqBit BQ_STATUS.QUIESCED true).setB SYS_MODE.QUIESCED
        let t := t.updCmd tag (fun c => { c with spec := (s.sys.time - t0) / 25000 % 2 ^ 32 })
        t.updSch (fun u => { u with activate := some (tag, slot, s.sys.time) })
      else s
    | none =>
      if s.link.d3wait && s.drained none && !s.wbDirty then
        let t := (s.updLink (fun l => { l with d3wait := false, d3hot := true })).bqBit BQ_STATUS.QUIESCED false
        let k := t.deepestAllowed
        if k = t.rd SCH_PWR_STAT.TARGET then t else t.powerMove k
      else s)

/-- Registers of the SEQ block, which an activation resets (R454). -/
def seqBlock (a : Nat) : Bool := decide (0xB0000 ≤ a) && decide (a < 0xC0000)

/-- SEQ block reset (R454 step 1). SEQ_PRESENT shows the engines that are there, before it and after. -/
def State.resetSeqBlock (s : State) : State :=
  { s with
    regs := s.regs.filter (fun e => !seqBlock (e.1 % holdOff) || e.1 == SEQ_PRESENT),
    seqs := List.replicate 4 SeqU.init,
    stores := { micro := [[], []], nano := [[], []], errs := [] } }

/-- Takes the configuration, identity and secrets of an image (R444, R445, R525). -/
def State.takeImage (s : State) (img : Image) : State :=
  s.updSys (fun u => { u with
    cfg := img.cfg, revision := img.revision, secVersion := img.secVersion, rollbackCommit := img.rollback,
    custPatchKey := img.sealed_.map (fun x => x.1), keyWrapKey := img.sealed_.map (fun x => x.2.1),
    wrapRequired := (img.sealed_.map (fun x => x.2.2)).getD false })

/-- Steps 2 to 5 of an activation from an image: measurements, stores, REG_INIT written and glued (R454). -/
def State.installImage (s : State) (img : Image) : State :=
  let t := s.takeImage img
  let t := t.fillStores img t.sys.custPatchKey
  let t := t.forEach (img.cfg.fields.filter (fun e => seqBlock e.1.addr)) (fun e t => t.cfgField e.1 e.2)
  let t := (t.initWrites img.cfg.regInit).1
  (t.glue gluedGroups 2 false).hooksKeptOff

/-- Raises SVC to the security version of the active image (R446). -/
def State.raiseSvc (s : State) : State :=
  s.when s.sys.rollbackCommit (fun t => t.updSys (fun u => { u with fuses := { u.fuses with svc := max u.fuses.svc u.secVersion } }))

/-- ACTIVATION_DONE: the steps of R454 in the quiesced interval; when the slot fails its checks they are repeated from the active slot
and the command ends with ACTIVATION_FAILED. Fetching resumes (R344 step 5). -/
def execActivationDone (s : State) : Res :=
  .next (
    match s.sch.activate with
    | none => s
    | some (tag, slot, tq) =>
      if !s.on BQ_STATUS.QUIESCED then s
      else
        let t := s.resetSeqBlock
        let kind := s.rd SYS_START.KIND
        let fac := b2n s.inFactory
        let (t, ok) := match s.slotImage slot with
          | some img =>
            let t := (t.installImage img).updPersist (fun p => { p with activeSlot := slot, nextSlot := slot })
            ((t.raiseSvc).measure (some img) kind fac, true)
          | none => match s.slotImage (s.persist.activeSlot) with
            | some img => ((t.installImage img).measure (some img) kind fac, false)
            | none => (t, false)
        let us := (s.sys.time - tq) / 25000 % 2 ^ 32
        let t := if ok then (t.updCmd tag (fun c => { c with spec := c.spec % 2 ^ 32 + 2 ^ 32 * us })).cmdEnd tag 0
                 else t.cmdEnd tag stActivationFailed
        let t := (t.bqBit BQ_STATUS.QUIESCED false).clr SYS_MODE.QUIESCED
        let t := t.updSch (fun u => { u with activate := none })
        let t := t.updSys (fun u => { u with activating := none })
        (t.updBq (fun b => { b with stopped := false })).logFirmware)

/-! ### Keys (R294, R374) -/

/-- KEY LOAD: the checks in the order of R374's table; buffer pages that held the key are zeroed. -/
def execKeyLoad (tag : BitVec 14) (data : Option (List Byte)) (s : State) : Res :=
  .next (s.onStarted tag.toNat 0x8D (fun c =>
    let slot := c.u 28 1
    let wrapped := bitOf (c.u 29 1) 0
    if 64 ≤ slot then s.cmdEnd c.tag stInvalidField
    else s.withHostData c (if wrapped then 72 else 64) data (fun t b =>
      if !wrapped && b.take 32 == b.drop 32 then t.cmdEnd c.tag stInvalidField
      else if (t.keySlot slot).state ≠ 0 then t.cmdEnd c.tag stKeySlotBusy
      else
        let key : Option (List Byte) :=
          if wrapped then t.sys.keyWrapKey.bind (fun k => Config.aesUnwrap k b) else if t.sys.wrapRequired then none else some b
        match key with
        | none => t.cmdEnd c.tag stAuthFailed
        | some k => match t.loadKey slot k with
          | some t => t.cmdEnd c.tag 0
          | none => t.cmdEnd c.tag stInvalidField)))

/-- KEY ERASE: completes when the slot is EMPTY (R374). -/
def execKeyErase (tag : BitVec 14) (s : State) : Res :=
  .next (s.onStarted tag.toNat 0x8E (fun c =>
    let slot := c.u 28 1
    if 64 ≤ slot then s.cmdEnd c.tag stInvalidField
    else if (s.keySlot slot).state = 0 then s.cmdEnd c.tag 0
    else s.eraseKey slot))

/-! ### FABRIC STATUS (R378) -/

/-- The entry of a port. -/
def State.fabricPort (s : State) (p : Nat) : List Byte :=
  let st := if !s.portPresent p then 0 else s.rd (QFB_PSTATUS.STATE p)
  leBytes 1 st ++ leBytes 1 (if st = 3 then s.rd (QFB_PSTATUS.WIDTH p) else 0) ++ leBytes 2 (if s.on (QFB_PEER.VALID p) then s.rd (QFB_PEER.ADDR p) else 0) ++
  leBytes 2 (s.rd (QFB_PSTATUS.LANE_MAP p)) ++ leBytes 4 (s.qport p).crcErrs ++ zeros 6

/-- The entry of a quay address. -/
def State.fabricAddr (s : State) (q : Nat) : List Byte :=
  let lost := 4096 * b2n (s.qfb.lost.contains q)
  leBytes 4 (match s.route? q with | some r => r.hops + 256 * r.ports + lost | none => 255 + lost)

/-- FABRIC STATUS (R378). -/
def execFabricStatus (tag : BitVec 14) (s : State) : Res :=
  .next (s.onStarted tag.toNat 0x91 (fun c =>
    let head := leBytes 2 (s.rd QFB_ADDR.ADDR + 16384 * s.rd QFB_ADDR.ASSIGNED + 32768 * s.rd QFB_ADDR.VALID) ++ leBytes 2 s.qfb.routes.length ++ zeros 12
    s.replyPage c (head ++ (List.range 4).flatMap s.fabricPort ++ (List.range 1024).flatMap s.fabricAddr)))

end Sys2Proof.Machine
end

