-- ==== Sys2Proof/Machine/Link.lean ====
section
/-! DEFINITION. The PCIe endpoint (chapter 14): link training, BAR2, D-states, lane failures, function resets, the DOE mailbox. -/

namespace Sys2Proof.Machine
open Reg

/-! ### Training (R312, R317) -/

/-- PERST_N_DEASSERT: link training may begin (R312). -/
def execPerstNDeassert (s : State) : Res := .next (s.updLink (fun l => { l with perst := false }))

/-- Widths of a link, widest first. -/
def linkWidths : List Nat := [16, 8, 4, 2, 1]

/-- Width `w` has only good lanes forward, 0 to w − 1. -/
def widthForward (failed w : Nat) : Bool := (List.range w).all (fun i => !bitOf failed i)
/-- Width `w` has only good lanes reversed, 15 down to 16 − w. -/
def widthReversed (failed w : Nat) : Bool := (List.range w).all (fun i => !bitOf failed (15 - i))

/-- The widest usable width of at most `most` lanes, and whether it takes lane reversal; none when no width is left (R317). -/
def widthOf (failed most : Nat) : Option (Nat × Bool) :=
  (linkWidths.find? (fun w => decide (w ≤ most) && (widthForward failed w || widthReversed failed w))).map (fun w => (w, !widthForward failed w))

/-- LINK_UP: the data link is active at a speed of at most MAX_GEN and a width without failed lanes (R312, R317, R322); until register
space opens configuration requests are answered with Retry Status. -/
def execLinkUp (speed : Fin 4) (width : BitVec 5) (reversed : Bool) (s : State) : Res :=
  .next (
    if s.link.perst || s.sys.inReset || s.on BQ_LINK_STAT.UP then s
    else
      let failed := s.rd BQ_LINK_STAT.FAILED
      match (if failed = 0 then (if linkWidths.contains width.toNat then some (width.toNat, reversed) else none) else widthOf failed width.toNat) with
      | none => s
      | some (w, r) =>
        let t := s.wrs [(BQ_LINK_STAT.SPEED, min speed.val (s.rd BQ_LINK_CFG.MAX_GEN) + 1), (BQ_LINK_STAT.WIDTH, w), (BQ_LINK_STAT.REVERSED, b2n r),
          (BQ_LINK_STAT.UP, 1)]
        t.when (!s.sys.regOpen) (fun t => t.emit (.retryStatus true)))

/-! ### BAR2 (R310, R316) -/

/-- The buffer address of a BAR2 offset: SRAM below 0x0400_0000, else the DRAM window that BCC_BAR2_BASE places, in GiB
(R248). -/
def State.bar2Addr (s : State) (o : Nat) : Nat := if o < dramBase then o else o + s.rd BCC_BAR2_BASE.GIB * 2 ^ 30

/-- BAR2_ACCESS: a host request to the buffer through XP11 (R310). In D3hot, and in HALTED, where only BAR0 is reached (R428), it is
answered with Unsupported Request. -/
def execBar2Access (op : Bar2Op) (s : State) : Res :=
  .next (
    if !s.on BQ_LINK_STAT.UP || !s.sys.regOpen || s.link.resetting then s
    else if s.link.d3hot || !s.running then
      (match op with | .read _ _ => s.emit (.bar2 2 []) | .write _ _ _ => s)
    else match op with
      | .read a n =>
        let p := s.readAny 11 0 80 (s.bar2Addr a.toNat) n
        let t := p.1
        let r := p.2
        if r.err then t.emit (.bar2 1 []) else t.emit (.bar2 (if r.ue.any id then 3 else 0) r.data)
      | .write a data poison =>
        if poison then (s.setB BQ_LINK_EVT.POISON_RX).emit .aerPoison else (s.writeAny 11 80 (s.bar2Addr a.toNat) data).1)

/-! ### D-states (R314, R400) -/

/-- The power state field of PMCSR. -/
def State.setDState (s : State) (d : Nat) : State :=
  let w := BitVec.ofNat 32 (s.cfgDw 0x044)
  s.updLink (fun l => { l with cfgSpace := sparseSet (cfgReset 0x044) l.cfgSpace 0x044 (setF w 1 0 d) })

/-- D3HOT_ENTRY: fetching stops on every ring and the drain begins; QUIESCE_DONE ends it (R314). -/
def execD3hotEntry (s : State) : Res :=
  .next (
    if !s.hostUp || !s.running || s.link.d3wait then s
    else ((s.updBq (fun b => { b with stopped := true })).updLink (fun l => { l with d3wait := true })).setDState 3)

/-- D0_ENTRY: rings, vectors and configuration are kept and fetching resumes (R314); the idle period starts afresh (R400). -/
def execD0Entry (s : State) : Res :=
  .next (
    if !s.link.d3hot && !s.link.d3wait then s
    else
      let t := (s.updLink (fun l => { l with d3hot := false, d3wait := false })).setDState 0
      let t := t.updBq (fun b => { b with stopped := t.sch.activate.isSome })
      t.updSch (fun u => { u with idleSince := if s.idle then some s.sys.time else none }))

/-! ### Function reset (R318, R343) -/

/-- Placements of zone `z` from the first one of a ring's entry on whose first write gate has not opened are discarded, and WP returns (R318); the
write-back data of completed appends stays placed unless it lies behind such a placement (log entry 44). -/
def State.discardUnopened (s : State) (z : Nat) : State :=
  let x := s.zone z
  match x.placed.find? (fun p => !p.started && !p.completed && ((s.cmd? p.cmd).bind Cmd.ring?).isSome) with
  | none => s
  | some p =>
    let t := s.unplace z (fun q => decide (p.start ≤ q.start))
    if x.state = .full ∧ (t.zone z).state ≠ .full then
      t.setZState z (if (t.zone z).wp = 0 then .empty else .closed)
    else t

/-- A command of a ring at a function reset: an append whose first write gate has opened runs to its end with no result; of any other
the work under way finishes and the rest is dropped (R318). -/
def State.loseCommand (s : State) (c : Cmd) : State :=
  let t := if s.appendRuns c then s else s.dropWork c.tag
  match t.cmd? c.tag with
  | none => t
  | some d =>
    if t.workStopped d && d.mediaDone then t.forget c.tag
    else t.updCmd c.tag (fun c => { c with src := .destage, phase := .started, abortedBy := [], recs := [] })

/-- The admin ring's registers return to their reset values, DISABLED (R325, R343). -/
def State.resetAdminRing (s : State) : State :=
  let t := [BQ_BASE_LO 128, BQ_BASE_HI 128, BQ_RES_LO 128, BQ_RES_HI 128, BQ_CFG 128, BQ_DOORBELL 128, BQ_STATE 128, BQ_INDEX 128].foldl
    (fun t a => t.setReg a (resetVal a)) s
  ((t.setRing 128 1).updRing 128 (fun _ => RingU.init)).wr BQ_CTRL.ADMIN_EN 0

/-- What an FLR, a Hot Reset and a link-down event do to the function (R318, R343): nothing outside it is reset. -/
def State.resetFunction (s : State) : State :=
  let t := s.updBq (fun b => { b with reads := [], stopped := false })
  let t := t.lgtHostLost
  let t := t.forEach (t.media.zones.map (fun e => e.1)) (fun z t => t.discardUnopened z)
  let t := t.forEach (t.cmds.filter (fun c => c.ring?.isSome)) (fun c t => t.loseCommand c)
  let t := t.forEach ((List.range 128).filter (fun r => t.ringState r != 0)) (fun r t => t.deleteRing r)
  let t := (t.clearMarks 128).resetAdminRing
  let t := t.updLink (fun l => { l with
    msix := List.replicate 129 Msix.init, cfgSpace := [], d3hot := false, d3wait := false })
  let t := t.updSch (fun u => { u with activate := none, pwrWait := [] })
  let t := t.updSys (fun u => { u with activating := none })
  ((t.clr SYS_MODE.QUIESCED).wr BQ_STATUS.QUIESCED 0).showTags.settleWb

/-- Configuration space returns to its reset values (R320). -/
def State.resetConfig (s : State) : State := s.updLink (fun l => { l with cfgSpace := [] })

/-- The K4 is quiesced for a firmware activation, which a function reset lets finish first (R320). -/
def State.activationHolds (s : State) : Bool := s.sch.activate.isSome && s.on BQ_STATUS.QUIESCED

/-- FLR (R318, R319, R320): in HALTED only configuration space is reset. -/
def execFlr (s : State) : Res :=
  .next (
    if !s.on BQ_LINK_STAT.UP || !s.sys.regOpen then s
    else if !s.running then s.resetConfig
    else
      let t := (s.setB BQ_LINK_EVT.FLR).inc BQ_LINK_CNT.RESETS
      let t := (t.updLink (fun l => { l with resetting := true })).emit (.retryStatus true)
      if t.activationHolds then t.updLink (fun l => { l with owed := true }) else t.resetFunction)

/-- FLR_COMPLETE: the function is ready and configuration requests complete (R319); not before a firmware activation has ended (R320). -/
def execFlrComplete (s : State) : Res :=
  .next (
    if !s.link.resetting || s.sch.activate.isSome then s
    else
      let t := if s.link.owed then s.resetFunction else s
      (t.updLink (fun l => { l with resetting := false, owed := false })).emit (.retryStatus false))

/-- The link is down. -/
def State.dropLink (s : State) : State := s.wrs [(BQ_LINK_STAT.UP, 0), (BQ_LINK_STAT.SPEED, 0), (BQ_LINK_STAT.WIDTH, 0), (BQ_LINK_STAT.REVERSED, 0)]

/-- A Hot Reset or a link-down event, shown in `evt` (R318): the link goes down and the function is reset; in HALTED configuration space
only. During an activation the function waits for it (R320). -/
def State.linkReset (s : State) (evt : Fld) : State :=
  if !s.on BQ_LINK_STAT.UP then s
  else
    let t := (s.setB evt).inc BQ_LINK_CNT.RESETS |>.dropLink
    if !s.sys.regOpen then t
    else if !s.running then t.resetConfig
    else if t.activationHolds then t.updLink (fun l => { l with resetting := true, owed := true })
    else t.resetFunction

/-- HOT_RESET (R318). -/
def execHotReset (s : State) : Res := .next (s.linkReset BQ_LINK_EVT.HOT_RESET)
/-- LINK_DOWN (R318). -/
def execLinkDown (s : State) : Res := .next (s.linkReset BQ_LINK_EVT.LINK_DOWN)

/-- A lane is judged failed: it failed equalisation, or its receiver errors of one second reach LANE_ERR_LIMIT (R317). -/
def State.laneJudged (s : State) (errs : Option Nat) : Bool :=
  match errs with
  | none => true
  | some n => decide (s.rd BQ_LINK_CFG.LANE_ERR_LIMIT ≤ n)

/-- LANE_FAILED: with DEGRADE_EN the lane is judged failed, the link recovers at the widest width left, and PCIE_LANE is raised (R317); with
no width left the link is down. -/
def execLaneFailed (lane : Fin 16) (errs : Option Nat) (speed : Fin 4) (s : State) : Res :=
  .next (
    if !s.on BQ_LINK_CFG.DEGRADE_EN || !s.on BQ_LINK_STAT.UP || !s.laneJudged errs then s
    else
      let t := s.wr ⟨BQ_LINK_STAT, 10 + lane.val, 10 + lane.val⟩ 1
      let t := (t.inc BQ_LINK_CNT.RECOVERIES).setB BQ_LINK_EVT.DEGRADED
      let t := (t.raiseSrc 0x1D8 { ctx0 with detail := lane.val }).markFenced .pcieLanes
      match widthOf (t.rd BQ_LINK_STAT.FAILED) (t.rd BQ_LINK_STAT.WIDTH) with
      | some (w, r) => t.wrs [(BQ_LINK_STAT.WIDTH, w), (BQ_LINK_STAT.REVERSED, b2n r), (BQ_LINK_STAT.SPEED, min (speed.val + 1) (t.rd BQ_LINK_STAT.SPEED))]
      | none => t.linkReset BQ_LINK_EVT.LINK_DOWN)

/-! ### DOE (R321) -/

/-- DOE_REQUEST: a data object of at most 1,024 DW goes to the Helm complex, which answers; in HALTED, or too long, DOE Error is set
(R321). -/
def execDoeRequest (data : List (BitVec 32)) (s : State) : Res :=
  .next (
    if !s.on BQ_LINK_STAT.UP || !s.sys.regOpen || s.link.resetting then s
    else if s.mode = .halted ∨ 1024 < data.length then s.setB BQ_LINK_EVT.DOE_ERR
    else s.emit (.helmMessage (data.flatMap (fun w => leBytes 4 w.toNat))))

end Sys2Proof.Machine
end

