-- ==== Sys2Proof/Machine/QuayRoute.lean ====
section
/-! DEFINITION. The Quay fabric's link-state database, routes and lost peers (R412 to R415, R418), the end and restart of transfers
(R423 to R426), and the state of a port (R405). -/

namespace Sys2Proof.Machine
open Reg

/-- Device-time units in a microsecond. -/
def usUnits : Nat := 25000

/-! ### Ends of transfers -/

/-- Replaces the XFER_ID that the work of a transfer knows it by; none when it has ended. -/
def State.renameXfer (s : State) (w : XWork) (old : Nat) (new : Option Nat) : State :=
  match w with
  | .lgtWrite n | .lgtRead n => s.updRecs n (List.map (fun (r : LRec) => if r.xfer = some old then { r with xfer := new } else r))
  | .push tag | .pull tag => s.updCmd tag (fun c => if c.xid = some old then { c with xid := new } else c)

/-- Ends the work of an outbound transfer as unreachable, or as refused with a status (R425, R368): a Lighter record ends BAD with cause
PEER. -/
def State.failXout (s : State) (x : XOut) (refused : Option Nat) : State :=
  match x.work with
  | .lgtWrite n | .lgtRead n =>
    let t := s.updRecs n (List.map (fun (r : LRec) => if r.xfer = some x.xid then { r.fail 4 0 with xfer := none } else r))
    (t.dropXout x.xid).settleLgt n 4
  | .push tag | .pull tag =>
    let t := (s.updCmd tag (fun c => { c with xid := none })).dropXout x.xid
    match refused with
    | none => t.cmdEnd tag stPeerUnreachable
    | some st =>
      -- A read that the source could not recover reports so (R424).
      let own := match x.work with | .pull _ => st == stUnrecovered | _ => false
      (t.updCmd tag (fun c => { c with peerStatus := st })).cmdEnd tag (if own then stUnrecovered else stPeerRefused)

/-- Abandons an outbound transfer that is not in doubt: it restarts after ROUTE_QUIET, or ends when no retry remains (R425). -/
def State.abandonXout (s : State) (x : XOut) : State :=
  if s.rd QFB_XFER_CFG.XFER_RETRY ≤ x.retries then s.failXout x none
  else s.updXout x.xid (fun y => { y with phase := .quiet, last := s.sys.time, retries := y.retries + 1 })

/-- Sends an outbound transfer again from the beginning under a new XFER_ID, keeping its pages (R422, R425). -/
def State.resendXout (s : State) (x : XOut) : State :=
  let new := s.qfb.nextXid
  let t := s.updQfb (fun q => { q with nextXid := (q.nextXid + 1) % 2 ^ 32 })
  let t := t.renameXfer x.work x.xid (some new)
  let writes := match x.work with | .lgtWrite _ | .push _ => true | _ => false
  let t := t.updXout x.xid (fun y => { y with xid := new, phase := .running, last := s.sys.time, data := if writes then y.data else [] })
  let t := match x.req with | some r => t.qSend x.dst x.cls r.typ new 0 r.payload | none => t
  let t := if writes then t.qSendData x.dst x.cls new (x.data.length / 512 + 1) 0 x.data else t
  match x.work with
  | .push _ => (t.qCommit x.dst x.cls new x.data).updXout new (fun y => { y with phase := .inDoubt })
  | .lgtWrite n => t.settleLgt n 4
  | _ => t

/-- Discards an inbound transfer: its staging goes and its pages are released (R423, R425). -/
def State.dropXin (s : State) (x : XIn) : State :=
  let t := s.updQfb (fun q => { q with ins := q.ins.filter (fun y => !(y.src == x.src && y.xid == x.xid)) })
  let t := match x.ask, x.tag with
    | .media _ _ _ _, some tag =>
      let t := t.dropWork tag
      (match t.cmd? tag with
       | some c => if t.workStopped c && c.mediaDone then t.forget tag else t.updCmd tag (fun c => { c with src := .destage, phase := .started })
       | none => t)
    | _, some tag => t.releasePages tag
    | _, none => t
  t.showXfer

/-- The initiator asks for data. -/
def XAsk.isRead : XAsk → Bool
  | .read _ _ => true
  | .media op _ _ _ => op == 0
  | _ => false

/-- A read whose data this K4 has sent: it waits for DONE (R424). -/
def XIn.served (x : XIn) : Bool := x.committed && x.ask.isRead

/-- An inbound transfer whose data has not been applied here, nor is being applied. -/
def XIn.isOpen (x : XIn) : Bool := !x.committed || x.served

/-! ### The database and routes -/

/-- The LSA of an origin. -/
def State.lsaOf (s : State) (origin : Nat) : Option Lsa := s.qfb.lsas.find? (fun l => l.origin == origin)

/-- The neighbours of a node over links that both ends name (R414). -/
def State.mutual (s : State) (a : Nat) : List Nat :=
  match s.lsaOf a with
  | none => []
  | some l => l.nbrs.filter (fun b => b != 0 && (match s.lsaOf b with | some m => m.nbrs.contains a | none => false))

/-- Adds serials not yet in the distance table at distance `d`. -/
def addSeen (d : Nat) : List Nat → List (Nat × Nat) → List (Nat × Nat)
  | [], seen => seen
  | x :: l, seen => addSeen d l (if seen.any (fun e => e.1 == x) then seen else seen ++ [(x, d)])

/-- Breadth-first distances from the frontier, at most `fuel` hops on. -/
def State.spread (s : State) : Nat → Nat → List (Nat × Nat) → List (Nat × Nat)
  | 0, _, seen => seen
  | fuel + 1, d, seen =>
    let front := (seen.filter (fun e => e.2 == d)).flatMap (fun e => s.mutual e.1)
    s.spread fuel (d + 1) (addSeen (d + 1) front seen)

/-- Hop counts from a node to every node within 16 hops (R414). -/
def State.hopsFrom (s : State) (a : Nat) : List (Nat × Nat) := s.spread 16 0 [(a, 0)]

/-- The valid quay address of a serial, or one above every address. -/
def State.addrOf (s : State) (serial : Nat) : Nat := match s.lsaOf serial with | some l => if l.valid then l.addr else 1024 | none => 1024

/-- The routes of the database: shortest paths by hop count; the port in use is the one whose neighbour has the lowest address, then the
lowest port (R414). -/
def State.computeRoutes (s : State) : Sparse Route :=
  let me := s.serial
  let ports := (List.range 4).filterMap (fun p => match s.lsaOf me with
    | some l => let n := l.nbrs.getD p 0; if (s.mutual me).contains n then some (p, n, s.hopsFrom n) else none
    | none => none)
  (s.hopsFrom me).foldl (fun rs e =>
    match s.lsaOf e.1 with
    | none => rs
    | some l =>
      if e.2 = 0 ∨ !l.valid then rs
      else
        let via := ports.filter (fun q => q.2.2.any (fun x => x.1 == e.1 && x.2 + 1 == e.2))
        match via with
        | [] => rs
        | q :: qs =>
          let best := qs.foldl (fun a b => if s.addrOf b.2.1 < s.addrOf a.2.1 then b else a) q
          sparseSet { hops := 0, ports := 0, port := 0 } rs l.addr
            { hops := e.2, ports := via.foldl (fun m x => m + 2 ^ x.1) 0, port := best.1 }) []

/-- A frame is discarded and counted at a port (R409); a relayed one frees its receive slot. -/
def State.discardEnt (s : State) (p : Nat) (e : QEnt) : State :=
  let t := s.inc (QFB_PCNT.DISCARDED p)
  if e.relayed then t.freeSlot e.inPort e.frame.cls else t

/-- Frames queued at a port that is no longer their next hop move to the next-hop port, or are discarded when none is left (R409,
R419). -/
def State.requeue (s : State) : State :=
  s.forEach [0, 1, 2, 3] (fun p t =>
    let stay (e : QEnt) : Bool := (t.route? e.frame.dst).map (fun r => r.port) == some p
    let out := (t.qport p).sendQ.filter (fun e => !stay e)
    let t := t.updQport p (fun u => { u with sendQ := u.sendQ.filter stay })
    t.forEach out (fun e t => match t.route? e.frame.dst with
      | some r => t.updQport r.port (fun u => { u with sendQ := u.sendQ ++ [e] })
      | none => t.discardEnt p e))

/-- ROUTE_REBUILD: routes after a change of the database, and what follows from those that changed: ROUTE_QUIET, lost and regained peers,
abandoned transfers, the clocks of the outcome table (R414, R415, R418, R423, R425). -/
def State.rebuildRoutes (s : State) : State :=
  let new := s.computeRoutes
  let old := s.qfb.routes
  let port (rs : Sparse Route) (a : Nat) : Option Nat := (rs.find? (fun e => e.1 == a)).map (fun e => e.2.port)
  let gone := (old.filter (fun e => (port new e.1).isNone)).map (fun e => e.1)
  let back := (new.filter (fun e => (port old e.1).isNone)).map (fun e => e.1)
  let moved := (old.filter (fun e => (port new e.1).isSome && port new e.1 != some e.2.port)).map (fun e => e.1)
  if new = old then s
  else
    let now := s.sys.time
    let t := s.updQfb (fun q => { q with
      routes := new,
      changed := q.changed.filter (fun e => !moved.contains e.1) ++ moved.map (fun a => (a, now)),
      lost := q.lost.filter (fun a => !back.contains a && !gone.contains a) ++ gone,
      outcomes := q.outcomes.map (fun o => if gone.contains o.src then { o with since := none }
        else if back.contains o.src then { o with since := some now } else o) })
    let t := (t.qfbBit QFB_STATUS.ROUTE_CHANGE).wr QFB_REACH.PEERS new.length
    let t := t.when (!gone.isEmpty) (fun t => t.qfbBit QFB_STATUS.PEER_LOST)
    let t := t.forEach gone (fun _ t => t.logFree 0x000E 0x1FF)
    let hit (a : Nat) : Bool := gone.contains a || moved.contains a
    let t := t.forEach (t.qfb.outs.filter (fun x => hit x.dst && x.phase != .inDoubt)) (fun x t =>
      if gone.contains x.dst then t.failXout x none else if x.phase = .quiet then t else t.abandonXout x)
    let t := t.forEach (t.qfb.ins.filter (fun x => hit x.src && x.isOpen)) (fun x t => t.dropXin x)
    t.requeue.qPumpAll

/-- The own LSA's neighbours: the serial on each UP port (R412). -/
def State.ownNbrs (s : State) : List Nat :=
  (List.range 4).map (fun p => if s.rd (QFB_PSTATUS.STATE p) = 3 then ((s.qport p).nbr.map (fun n => n.1)).getD 0 else 0)

/-- The payload of an LSA (R412). -/
def Lsa.payload (l : Lsa) : List Byte :=
  leBytes 8 l.origin ++ leBytes 2 (l.addr + 16384 * b2n l.assigned + 32768 * b2n l.valid) ++ leBytes 2 0 ++ leBytes 4 l.seq ++ l.nbrs.flatMap (leBytes 8)

/-- Sends an LSA on every UP port but one. -/
def State.floodLsa (s : State) (l : Lsa) (but : Option Nat) : State :=
  s.forEach ([0, 1, 2, 3].filter (fun p => s.rd (QFB_PSTATUS.STATE p) == 3 && some p != but)) (fun p t => t.qCtl p 0x12 l.payload)

/-- Two LSAs say the same but for their sequence number and time. -/
def Lsa.same (a b : Lsa) : Bool := a.addr == b.addr && a.assigned == b.assigned && a.valid == b.valid && a.nbrs == b.nbrs

/-- Stores an LSA; routes are rebuilt when it says something new. -/
def State.storeLsa (s : State) (l : Lsa) : State :=
  let changed := match s.lsaOf l.origin with | some o => !o.same l | none => true
  let t := s.updQfb (fun q => { q with
    lsas := q.lsas.filter (fun o => o.origin != l.origin) ++ [l], dbTime := if changed then s.sys.time else q.dbTime })
  if changed then t.rebuildRoutes else t

/-- Originates an LSA (R412). -/
def State.originateLsa (s : State) : State :=
  let n := (s.qfb.lsaSeq + 1) % 2 ^ 32
  let l : Lsa := { origin := s.serial, addr := s.rd QFB_ADDR.ADDR, assigned := s.on QFB_ADDR.ASSIGNED, valid := s.on QFB_ADDR.VALID,
                   seq := n, nbrs := s.ownNbrs, time := s.sys.time }
  let t := s.updQfb (fun q => { q with lsaSeq := n, lsaTime := s.sys.time })
  (t.storeLsa l).floodLsa l none

/-- A static address held by a K4 of lower serial is given up (R413). -/
def State.checkStatic (s : State) : State :=
  let mine := s.rd QFB_ADDR.ADDR
  if s.on QFB_ADDR.VALID && !s.on QFB_ADDR.ASSIGNED &&
     s.qfb.lsas.any (fun l => l.valid && !l.assigned && l.addr == mine && decide (l.origin < s.serial)) then
    ((s.qfbBit QFB_STATUS.ADDR_CONFLICT).wrs [(QFB_ADDR.VALID, 0), (QFB_ADDR.ADDR, 0)]).originateLsa
  else s

/-! ### Ports (R405) -/

/-- Port `p` may carry blocks: present, enabled, in a mode with fabric service, not in rescue (R405, R427, R449). -/
def State.portUsable (s : State) (p : Nat) : Bool :=
  s.portPresent p && s.on (QFB_PCTRL.EN p) && s.on QFB_CFG.EN && s.running && !s.on SYS_MODE.RESCUE

/-- A port leaves UP: routes through it are withdrawn (R405). -/
def State.leaveUp (s : State) (p st : Nat) : State :=
  let t := s.wrs [(QFB_PSTATUS.STATE p, st), (QFB_PSTATUS.WIDTH p, 0), (QFB_PSTATUS.LANE_MAP p, 0), (QFB_PEER.VALID p, 0), (QFB_PEER.ADDR p, 0),
    (QFB_PEER_SN_LO.SN p, 0), (QFB_PEER_SN_HI.SN p, 0)]
  let t := t.updQport p (fun u => { u with nbr := none, credits := [0, 0, 0], freed := [0, 0, 0] })
  t.originateLsa

/-- LINK_LOST: an UP port goes DOWN or to TRAINING (R405). -/
def State.loseLink (s : State) (p st : Nat) : State :=
  ((s.qportBit p QFB_PSTATUS.LINK_LOST).inc (QFB_PCNT.LOST p)).leaveUp p st

/-- A port starts training. -/
def State.startTraining (s : State) (p : Nat) : State :=
  ((s.wr (QFB_PSTATUS.STATE p) 2).inc (QFB_PCNT.TRAININGS p)).emit (.quayTx p true)

/-- A port is FENCED (R405, R460). -/
def State.fenceQuay (s : State) (p : QPort) : State :=
  if s.rd (QFB_PSTATUS.STATE p) = 4 then s
  else
    let up := s.rd (QFB_PSTATUS.STATE p) == 3
    let t := (s.markFenced (.quay p)).emit (.quayTx p false)
    if up then t.leaveUp p 4 else t.wr (QFB_PSTATUS.STATE p) 4

/-- Every transmitter stops (R405, R433, R470). -/
def State.stopQuay (s : State) : State :=
  s.forEach ((List.range 4).filter s.portPresent) (fun p t => t.emit (.quayTx p false))

/-- A fault in the engine's transfer tables (R426): every transfer not in doubt restarts. -/
def State.quayEngineFault (s : State) : State :=
  let t := s.qfbBit QFB_STATUS.ENGINE_ERR
  let t := t.forEach (t.qfb.outs.filter (fun x => x.phase == .running || x.phase == .retryWait)) (fun x t => t.abandonXout x)
  t.forEach (t.qfb.ins.filter (fun x => x.isOpen)) (fun x t => t.dropXin x)

end Sys2Proof.Machine
end

