-- ==== Sys2Proof/Machine/Watch.lean ====
section
/-! DEFINITION. The commands of chapter 20 but FAULT_RAISE: FAULT_N (R462), the watch log (R463 to R467), the duplicated Watch and
the Anchor sequencer (R468 to R470), fault injection (R471, R472), and the logbook (R474 to R478). -/

namespace Sys2Proof.Machine
open Reg

/-! ### FAULT_N (R462) -/

/-- FAULT_N_TIMER_EXPIRY: the pulse timer stops; FAULT_N is released when neither HOLD nor FORCE is set. -/
def execFaultNTimerExpiry (s : State) : Res := .next ((s.clr WCH_FN_CTRL.TIMING).faultNLevel)

/-- WCH_FN_HOLD: software sets or clears HOLD. -/
def execWchFnHold (w : Initiator) (v : Bool) (s : State) : Res :=
  if !s.mayWrite w then .next s else .next ((s.wr WCH_FN_CTRL.HOLD (b2n v)).faultNLevel)

/-- WCH_FN_FORCE: software sets or clears FORCE. -/
def execWchFnForce (w : Initiator) (v : Bool) (s : State) : Res :=
  if !s.mayWrite w then .next s else .next ((s.wr WCH_FN_CTRL.FORCE (b2n v)).faultNLevel)

/-! ### The watch log (R463 to R467) -/

/-- The items of a bank in priority order: by class from FATAL down, arrival order within a class (R465). -/
def sortBank (l : List WlogWord) : List WlogWord :=
  [4, 3, 2, 1, 0].flatMap (fun c => l.filter (fun w => w.cls == c))

/-- WATCH_LOG_SWAP: with the read bank empty and an item or a marker in the write bank the banks swap; the marker comes first (R465,
R466). -/
def execWatchLogSwap (s : State) : Res :=
  .next (
    if !s.watch.rBank.isEmpty || (s.watch.wBank.isEmpty && s.watch.gap.isNone) then s
    else s.updWatch (fun w => { w with rBank := w.gap.toList ++ sortBank w.wBank, rPos := 0, wBank := [], gap := none }))

/-- WCH_WLOG_POP: the read of WCH_WLOG_HI by the consumer returns its half of the word and removes it; any other reader gets the idle
word. A single-bit error is corrected, a worse one reads as KIND 3; both are counted (R463, R467). -/
def execWchWlogPop (w : Initiator) (s : State) : Res :=
  .next (
    if !s.canReach w then s
    else if !s.consumes w then s.emit (.regRead (BitVec.ofNat 32 (wlogIdle / 2 ^ 32)))
    else
      let t := s.emit (.regRead (BitVec.ofNat 32 (s.wlogRead / 2 ^ 32)))
      match s.watch.rBank with
      | [] => t
      | x :: rest =>
        let n := s.wlogFlips x
        let inj := (s.armedAt 7 (fun a => a == s.watch.rPos)).isSome
        let t := t.when inj State.injDone
        let t := t.updWatch (fun u => { u with rBank := rest, rPos := u.rPos + 1 })
        if n = 0 then t
        else if n = 1 then (t.inc WCH_WLOG_CNT.CORRECTED).raiseSrc 0x1FB { ctx0 with injected := inj }
        else (t.inc WCH_WLOG_CNT.DAMAGED).raiseBit WCH_STATUS.WLOG_UE WCH_INT_EN)

/-! ### The logbook summary (R477) -/

/-- The newest 64 records go to the summary area of the boot flash. -/
def State.writeSummary (s : State) : State :=
  if s.on SYS_MODE.FLASH_ABSENT then s
  else s.updWatch (fun w => { w with summary := w.ring.drop (w.ring.length - 64) })

/-! ### The duplicated Watch (R468, R469) -/

/-- Instance `i` of the Watch is in service. -/
def State.watchOk (s : State) (i : Nat) : Bool := if i = 0 then s.on WCH_INST.A_OK else s.on WCH_INST.B_OK

/-- Asks for an Anchor takeover with a cause (R469). -/
def State.anchorAsk (s : State) (src : Nat) : State :=
  s.updWatch (fun w => { w with anchorReq := match w.anchorReq with | some a => some (min a src) | none => some src })

/-- Instance `i` fails its self-check: it is fenced and the other drives the outputs; the sole remaining one hands over to the
Anchor (R469). -/
def State.watchFail (s : State) (i : Fin 2) : State :=
  if !s.watchOk i then s
  else if !s.watchOk (1 - i.val) then s.anchorAsk (0x1F8 + i.val)
  else
    let t := (s.clr (if i = 0 then WCH_INST.A_OK else WCH_INST.B_OK)).wr WCH_INST.ACTIVE (1 - i.val)
    let t := t.raiseBit WCH_STATUS.WATCH_FENCE WCH_INT_EN
    (t.raiseSrc (0x1F8 + i.val) { ctx0 with detail := i.val }).markFenced (.watch i)

/-- WATCH_SELF_CHECK_FAIL. -/
def execWatchSelfCheckFail (i : Fin 2) (s : State) : Res := .next (s.watchFail i)

/-- WATCH_DISAGREE: with both instances in service and neither failing its self-check, WCH_DISAGREE hands over to the Anchor (R469). -/
def execWatchDisagree (s : State) : Res :=
  .next (if s.watchOk 0 && s.watchOk 1 then s.raise0 0x1FA else s)

/-- WATCH_KAT: every 1,024 bells each instance in service runs its known-answer test, which is neither logged nor counted as a source
(R468); an injection armed at a self-check meets it (R471). -/
def execWatchKat (s : State) : Res :=
  .next (
    let t := s.updWatch (fun w => { w with kats := [w.kats.getD 0 0 + b2n (s.watchOk 0), w.kats.getD 1 0 + b2n (s.watchOk 1)] })
    match t.armedAt 14 (fun a => decide (a < 2)) with
    | some j => t.watchFail (Fin.ofNat 2 j.arg)
    | none => t)

/-! ### The Anchor sequencer (R470) -/

/-- The cause of a takeover lies in the motor drive: its gates are off and HELM_BEAT has stopped. -/
def motorCause (src : Nat) : Bool := src == 0x142 || src == 0x146

/-- Step 6: once every actuator is PARKED the spindle goes to SHORT. -/
def State.anchorShort (s : State) : State :=
  if s.on WCH_INST.ANCHOR && s.rd WCH_ANCHOR.STEP == 5 && s.allParked then
    ((s.wr WCH_ANCHOR.STEP 6).updWatch (fun w => { w with anchorAt := s.sys.time })).enterShort else s

/-- ANCHOR_TAKEOVER: steps 1 to 4 on the source that asked for it. In RIDE-THROUGH its own steps run to HALTED; a later request during
the steps has no further effect (R470). -/
def execAnchorTakeover (s : State) : Res :=
  .next (
    match s.watch.anchorReq with
    | none => s
    | some src =>
      let s := s.updWatch (fun w => { w with anchorReq := none, anchorAt := s.sys.time })
      if s.on WCH_ANCHOR.VALID || s.mode == .halted then s
      else
        let t := s.wrs [(WCH_ANCHOR.CAUSE, src), (WCH_ANCHOR.STEP, 1), (WCH_ANCHOR.VALID, 1)]
        if s.mode = .rideThrough then t
        else
          let t := t.setB WCH_INST.ANCHOR
          let t := (t.updWrp (fun w => { w with gatesOff := true })).dropGates false t.allHeads
          let t := (t.faultNLevel).logEvent 0x0010 src src
          let t := (t.stopQuay).emit (.aer true)
          let t := t.when (src != 0x1F1) State.writeSummary
          if motorCause src then t.wr WCH_ANCHOR.STEP 3
          else ((t.retractAll).spGo 0 0 |>.wr WCH_ANCHOR.STEP 5).anchorShort)

/-- Entry to HALTED: windings released, HELM_BEAT stopped, key slots zeroed (R432, R470). -/
def State.halt (s : State) : State :=
  let t := (s.spGo 0 0).stopBeat (if s.on MOT_BEAT.RUNNING then 1 else s.rd MOT_BEAT.CAUSE)
  let t := t.updWrp (fun w => { w with gatesOff := true })
  (t.zeroKeys).setMode .halted

/-- The steps of the Anchor before the last have ended (R470): the spindle is at rest or has been in SHORT for 60 s, or 250 ms have passed since the
takeover when the fault lies in the motor drive. -/
def State.anchorOver (s : State) : Bool :=
  if motorCause (s.rd WCH_ANCHOR.CAUSE) then decide (4 * s.watch.anchorAt + unitsPerSecond ≤ 4 * s.sys.time)
  else s.rd WCH_ANCHOR.STEP == 6 && (s.spState == 0 || decide (s.watch.anchorAt + 60 * unitsPerSecond ≤ s.sys.time))

/-- ANCHOR_HALT: at rest or after 60 s, and 250 ms after the takeover when the fault lies in the motor drive (R470 step 7). -/
def execAnchorHalt (s : State) : Res :=
  .next (
    if !s.on WCH_INST.ANCHOR || s.mode == .halted || !s.anchorOver then s
    else (s.wr WCH_ANCHOR.STEP 7).halt)

/-! ### Fault injection (R471, R472) -/

/-- The sources that an injection at a site may raise, where the manual names them; the classes they would be handled at decide R472. -/
def Inj.sources (j : Inj) : List Nat :=
  match j.site with
  | 0 => [0x170, 0x171] | 1 => [0x179, 0x17A, 0x17B] | 3 => [0x178] | 4 => [0x0C8] | 5 => [0x0F4] | 6 => [0x090] | 7 => [0x1FB]
  | 8 => [0x172] | 9 => [0x1F0] | 10 => [0x190 + j.arg % 64] | 11 => [0x1D0 + j.arg % 2] | 13 => [0x145]
  | 14 => [0x1F8 + j.arg % 2] | 15 => [0x0F2, 0x0F3]
  | _ => []

/-- An injection is refused: INJ_REFUSED and the refusal log. -/
def State.injRefuse (s : State) (w : Initiator) (cause : Nat) : State :=
  (s.raiseBit WCH_STATUS.INJ_REFUSED WCH_INT_EN).refuseW w WCH_INJ_CMD cause

/-- Why an injection may not be armed now: MASK 0 (RANGE), a mode or policy that does not allow it (MODE), a fenced unit or a site whose
raise would be FATAL (STATE) (R471, R472). -/
def State.injBarred (s : State) (j : Inj) : Option Nat :=
  if j.mask = 0 then some 1
  else if s.inFactory then none
  else if s.sys.cfg.injectPolicy ≠ 1 ∨ s.mode ≠ .service ∨ s.watch.window.isNone then some 2
  else if (match j.unit with | some u => s.isFenced u | none => false) then some 3
  else if j.sources.any (fun n => s.classOf n 0 == 4) then some 3
  else none

/-- WCH_INJ_GO: GO of WCH_INJ_CMD, written with SITE and MASK, arms the site with the argument of WCH_INJ_ARG, or is refused. -/
def execWchInjGo (w : Initiator) (site : BitVec 4) (mask : BitVec 9) (s : State) : Res :=
  if !s.mayWrite w then .next s else
  .next (
    let s := s.wrs [(WCH_INJ_CMD.SITE, site.toNat), (WCH_INJ_CMD.MASK, mask.toNat), (WCH_INJ_CMD.GO, 0)]
    let j : Inj := { site := site.toNat, mask := mask.toNat,
                     arg := s.rd WCH_INJ_ARG_LO.ARG + 2 ^ 32 * s.rd WCH_INJ_ARG_HI.ARG, at_ := s.sys.time }
    match s.injBarred j with
    | some c => s.injRefuse w c
    | none => (s.updWatch (fun u => { u with armed := some j })).logFree 0x000F 0x1FF)

/-- WCH_INJ_TOKEN_WRITE: the next of the 36 token words; further writes are ignored (R482). -/
def execWchInjTokenWrite (w : Initiator) (v : Word) (s : State) : Res :=
  if !s.mayWrite w then .next s else
  .next (s.updWatch (fun u => { u with token := if u.token.length < 36 then u.token ++ [v] else u.token }))

/-- WCH_INJ_AUTH: verifies the token under policy 1 in SERVICE; on success injection is open until NOT_AFTER or the next start (R472). -/
def execWchInjAuth (w : Initiator) (s : State) : Res :=
  if !s.mayWrite w then .next s else
  .next (
    if s.sys.cfg.injectPolicy ≠ 1 ∨ s.mode ≠ .service then s.injRefuse w 2
    else
      let b := s.watch.token.flatMap (fun v => leBytes 4 v.toNat)
      let t := (s.clr WCH_INJ_CMD.AUTH).updWatch (fun u => { u with token := [] })
      if s.tokenOk 3 b then
        let t := ((t.tokenTaken 3 b).logEvent 0x000F 0x1FF (tokenId b)).updWatch (fun u => { u with window := some (fieldAt b 24 8) })
        t.raiseBit WCH_STATUS.AUTH_OK WCH_INT_EN
      else (t.tokenRefused b).raiseBit WCH_STATUS.AUTH_FAIL WCH_INT_EN)

/-- INJECTION_EXPIRY: a site not accessed within 1 s is disarmed (R471). -/
def execInjectionExpiry (s : State) : Res :=
  .next (
    match s.watch.armed with
    | none => s
    | some j =>
      if s.sys.time < j.at_ + unitsPerSecond then s
      else (s.updWatch (fun u => { u with armed := none })).raiseBit WCH_STATUS.INJ_EXPIRED WCH_INT_EN)

/-- INJECTION_WINDOW_EXPIRY: operating seconds reach NOT_AFTER; 0 never expires (R375, R472). -/
def execInjectionWindowExpiry (s : State) : Res :=
  .next (
    match s.watch.window with
    | none => s
    | some n => if n = 0 ∨ s.sys.opSeconds < n then s else s.updWatch (fun u => { u with window := none }))

/-! ### The logbook (R475, R477) -/

/-- The records of the ring that a domain's copy has not yet. -/
def newFor (area ring : List LogRec) : List LogRec :=
  match area.getLast? with
  | none => ring
  | some r => ring.filter (fun x => decide (r.seq < x.seq))

/-- LOGBOOK_PERSIST: the summary first, then the new records and the zone checkpoints go to the system area of every domain in service; only the
summary while media is foreign. `fail` are the domains whose write fails: they are counted and tried again (R46, R477). -/
def execLogbookPersist (fail : BitVec 4) (s : State) : Res :=
  .next (
    if !s.running then s
    else
      let t := s.writeSummary
      if t.foreignAny || t.on SYS_MODE.RESCUE || t.on SYS_MODE.MEDIA_NOT_READY then t
      else
        let live := t.allActs.filter (fun d => t.media.ready.getD d false && t.rd (MOT_ASTATUS.STATE d) != 5)
        let bad := live.filter fail.getLsbD
        let t := t.forEach (live.filter (fun d => !fail.getLsbD d)) (fun d u => u.writeArea d (fun a => a ++ newFor a t.watch.ring))
        let t := t.updWatch (fun w => { w with persisted := if bad.isEmpty && !live.isEmpty then w.nextSeq else w.persisted })
        t.addC LOG_STAT.FAILURES bad.length)

/-- LOG_FW_GO: a record of a firmware type; a host write is refused, and so is a TYPE below 0x8000 (R475, R482). -/
def execLogFwGo (w : Initiator) (s : State) : Res :=
  if !s.mayWrite w then .next s else
  .next (
    match w with
    | .host => s.refuseW .host LOG_FW_GO 2
    | .helm =>
      if s.rd LOG_FW_TYPE.TYPE < 0x8000 then s.refuseW .helm LOG_FW_GO 1
      else (s.logEvent (s.rd LOG_FW_TYPE.TYPE) (s.rd LOG_FW_TYPE.SOURCE)
        (s.rd LOG_FW_DETAIL_LO.DETAIL + 2 ^ 32 * s.rd LOG_FW_DETAIL_HI.DETAIL)).clr LOG_FW_GO.GO)

/-! ### Telemetry (R14) -/

/-- TELEMETRY_SNAPSHOT: the snapshot of the bell is taken. -/
def execTelemetrySnapshot (s : State) : Res := .next (s.updWatch (fun w => { w with telem := w.telem + 1, telemBell := s.bell }))

/-- TELEM_SKIP: the snapshot is skipped and counted (R14, R15). -/
def execTelemSkip (s : State) : Res := .next (s.raise0 0x1FD)

end Sys2Proof.Machine
end

