-- ==== Sys2Proof/Machine/Reset.lean ====
section
/-! DEFINITION. Internal resets (R434 to R436): what a cold and a warm reset keep, and the commands that cause one. -/

namespace Sys2Proof.Machine
open Reg

/-! ### What a reset keeps -/

/-- Fields kept over every start: the head parts and microactuators found lost, which only a start that finds them healthy clears
(R219, R528). -/
def keptAlways : List Fld :=
  (List.range 24).flatMap (fun h => [WRP_STATUS.WRITER_LOST h, WRP_STATUS.READER_A_LOST h, WRP_STATUS.READER_B_LOST h]) ++ [MOT_MA_FAULT.MASK]

/-- Fields that the motor drive keeps over a warm start (R437). -/
def keptWarm : List Fld := [MOT_ENC_OFS.OFS, MOT_ENC_OFS.VALID, MOT_SP_CFG.PHASE_SWAP] ++ (List.range 4).map MOT_VCM_CFG.INV

/-- Copies fields of `s` into `t`. -/
def State.copyFlds (s t : State) (l : List Fld) : State := t.forEach l (fun f u => if u.rd f = s.rd f then u else u.wr f (s.rd f))

/-- The completed appends of a zone that follow MEDIA_WP without a gap: their write-back data survives with them (R358, R437). -/
def keptPlaced : Nat → List Placed → List Placed
  | _, [] => []
  | at_, p :: l => if p.start = at_ ∧ p.completed then p :: keptPlaced (p.start + p.len) l else []

/-- The appends of a zone whose write-back data a warm start keeps (R358, R437); the rest of the zone is read from the system area. -/
def Zone.atReset (z : Zone) : Zone := { Zone.blank with placed := keptPlaced (z.mediaWp / 16) z.placed }

/-- The media at a reset: what the system area holds stays on the media, nothing of it is in use or ready (R46, R437). -/
def MediaU.atReset (m : MediaU) (warm : Bool) : MediaU :=
  let kept : Sparse Zone := (m.zones.map (fun e => (e.1, e.2.atReset))).filter (fun e => e.2 != Zone.blank)
  { State.reset.media with zones := if warm then kept else [], bindRecs := m.bindRecs, areas := m.areas }

/-- The SRAM over a warm reset: contents, check bits, the remap table and retirements stay; ownership is gone (R233, R437). -/
def MemU.atReset (m : MemU) : MemU :=
  { m with
    pages := (m.pages.map (fun e => (e.1, { e.2 with owner := none, ue := false, rp := m.migQ.contains e.1 }))).filter (fun e => e.2 ≠ PageInfo.blank),
    free := [], maps := [], elog := [], corrQ := [], planeErr := [] }

/-- A DRAM channel over a warm reset: its contents in self-refresh (R268). -/
def DdrCh.atReset (d : DdrCh) : DdrCh := { d with devCnt := [], patrol := 0, trained := false, results := [] }

/-- A destage record over a warm reset: its sectors not yet written are to be written again (R437). -/
def Cmd.atReset (c : Cmd) : Cmd :=
  { c with
    recs := [], opened := 0, xid := none, outTag := none, pack := none, phase := .started, dropped := false,
    secs := (c.secs.filter (fun w => w.st != .written && w.st != .failed)).map (fun w =>
      { w with st := .todo, encoded := false, rewrite := false, drops := 0 }) }

/-- Before a warm reset: outstanding DRAM writes complete (R435), dirty lines reach DRAM, which keeps the recorded write-back data (R437),
and retire-pending pages that a command owned are retired with their release (R237). -/
def State.settleForReset (s : State) : State :=
  let t := s.forEach s.dram.writes (fun w t => t.forEach w.pend (fun q t => t.applyWrite w q.1 q.2))
  let dirty := (s.dram.ways.filter (fun e => e.2.valid && e.2.dirty)).map (fun e => e.1)
  let t := t.forEach dirty (fun k t =>
    let (bs, ue) := t.wayData k
    let p := ((t.way k).poison.1 || ue.1, (t.way k).poison.2 || ue.2)
    let w : DWrite := { line := t.wayLine k, pend := [], data := bs.map some, poison := p, tries := 0, why := .drain }
    t.forEach ((t.linePlace w.line).filter (fun q => !t.ddrFenced q.1)) (fun q t => t.applyWrite w q.1 q.2))
  let rp := (t.mem.pages.filter (fun e => e.2.rp && e.2.owner.isSome && !t.inRegion e.1)).map (fun e => e.1)
  t.forEach rp (fun p t => t.retirePage p)

/-- An internal reset that leads to a start of a kind (R434 to R437): every register and unit returns to its reset value but for what the
start of that kind keeps; open gates drop and the Quay transmitters stop. -/
def State.internalReset (s : State) (kind : StartKind) (cause : Nat) (prepFailed : Bool) : State :=
  let warm := kind == .warm
  let s0 := (s.dropGates false s.allHeads).when s.running State.stopQuay
  let s0 := s0.when warm State.settleForReset
  let r := State.reset
  let wb := if warm then s0.sch.wb.filter (fun e => !e.lost) else []
  let destage := (s0.cmds.filter (fun c => c.src == .destage && wb.any (fun e => e.tag == c.tag))).map Cmd.atReset
  let maLost := (List.range 24).filter (bitOf (s0.rd MOT_MA_FAULT.MASK))
  let t : State := { r with
    sys := { r.sys with
      suppliesGood := true, startKind := kind, startCause := cause, fromHalted := s0.mode == .halted, prepFailed := prepFailed, cfg := s0.sys.cfg,
      fuses := s0.sys.fuses, flash := s0.sys.flash, rec0 := s0.sys.rec0, rec1 := s0.sys.rec1, opSeconds := s0.sys.opSeconds,
      aonRec := if kind = .cold then none else s0.sys.aonRec }
    watch := { r.watch with
      ring := if warm then s0.watch.ring else [], snapSeq := s0.watch.snapSeq, aonSeq := if kind = .cold then 0 else s0.watch.aonSeq,
      summary := s0.watch.summary, rideArea := s0.watch.rideArea,
      held := if kind = .cold then [] else s0.watch.held, fences := maLost.map (fun h => .microact (Fin.ofNat 24 h)) }
    mem := if warm then s0.mem.atReset else r.mem
    dram := { r.dram with ch := if warm then s0.dram.ch.map DdrCh.atReset else r.dram.ch }
    media := s0.media.atReset warm
    link := { r.link with perst := s0.link.perst }
    cmds := destage
    sch := { r.sch with
      wb := wb, order := if warm then s0.sch.order else 0,
      locks := s0.sch.locks.filter (fun (e : LockEnt) => e.granted && destage.any (fun c => c.tag == e.tag)) }
    qfb := { r.qfb with
      outcomes := if warm then s0.qfb.outcomes.map (fun o => { o with since := none }) else s0.qfb.saved, saved := s0.qfb.saved }
    out := s0.out, freeCtr := s0.freeCtr, pending := s0.pending }
  let t := s0.copyFlds t keptAlways
  let t := t.forEach maLost (fun h t => t.updHead h (fun u => { u with inhSeek := true }))
  let t := if kind = .cold then t else s0.copyFlds t keptWarm
  let t := t.when warm (fun t => t.forEach ((List.range 2).filter (fun c => s0.dramPresent c && !s0.ddrFenced c)) (fun c t => t.setB (DDR_STATUS.SELF_REFRESH c)))
  -- The change to BRING-UP is a mode change (R429, R475); its record is numbered at step 7 (R477).
  if kind = .cold ∨ s0.mode = .bringUp then t else t.logFree 0x0002 0x1FF

/-- A warm-reset source (R434): it is escalated when the previous start had not set ALIVE, from HALTED, or when preparation failed
(R436). While internal reset is held it changes nothing. -/
def State.warmReset (s : State) (cause : Nat) (prepOk : Bool) : State :=
  if s.sys.inReset then s
  else
    let esc := !s.on SYS_START.ALIVE || s.mode == .halted || !prepOk
    s.internalReset (if esc then .escalated else .warm) cause (!prepOk)

/-! ### Reset commands -/

/-- POWER_ON: the supplies are applied and good; a cold start follows (R434, R509). -/
def execPowerOn (s : State) : Res :=
  .next (if s.sys.suppliesGood then s else s.internalReset .cold 0 false)

/-- BROWN_OUT: internal reset is held; the start after recovery is cold (R510). -/
def execBrownOut (s : State) : Res :=
  .next ((s.internalReset .cold 0 false).updSys (fun u => { u with suppliesGood := false }))

/-- PERST_N_ASSERT (R313, R434). -/
def execPerstNAssert (prepOk : Bool) (s : State) : Res :=
  .next ((s.warmReset 1 prepOk).updLink (fun l => { l with perst := true }))

/-- RESET_N_ASSERT (R434). -/
def execResetNAssert (prepOk : Bool) (s : State) : Res := .next (s.warmReset 2 prepOk)

/-- SYS_RESET_CMD: 0x0000_A5C3 starts a warm start in every mode in which the register can be written; other values are ignored (R428,
R434, R456). -/
def execSysResetCmd (w : Initiator) (v : Word) (prepOk : Bool) (s : State) : Res :=
  .next (if !s.canReach w || v ≠ 0x0000A5C3#32 then s else s.warmReset 3 prepOk)

/-- HELM_WATCHDOG_EXPIRY: the period has passed since it was last restarted: HELM_WDOG is raised and a warm start follows (R434, R456,
R459). -/
def execHelmWatchdogExpiry (prepOk : Bool) (s : State) : Res :=
  .next (
    if !s.on SYS_WDOG_CFG.EN || s.sys.inReset || s.sys.time < s.sys.wdogFrom + 25000000 * s.rd SYS_WDOG_CFG.PERIOD then s
    else (s.raise0 0x1F2).warmReset 4 prepOk)

/-- WDOG_KICK: any write restarts the period; a host write is refused (R456). -/
def execWdogKick (w : Initiator) (s : State) : Res :=
  if !s.mayWrite w then .next s else
  .next (match w with
    | .host => s.refuseW .host SYS_WDOG_KICK 2
    | .helm => s.updSys (fun u => { u with wdogFrom := u.time }))

end Sys2Proof.Machine
end

