-- ==== Sys2Proof/Machine/Starts.lean ====
section
/-! DEFINITION. Starts (R437 to R449): the steps of BRING-UP, DDR5 training (R267, R268), the opening of register space, the head health
test (R528), the system-area read (R46 to R49) and ALIVE. -/

namespace Sys2Proof.Machine
open Reg

/-! ### Steps 1 to 8 of R437 -/

/-- The code of a start kind in SYS_START (R456). -/
def StartKind.code : StartKind → Nat
  | .cold => 0 | .warm => 1 | .escalated => 2

/-- Step 2: cores that fail the ROM's tests are fenced and the survivors take the roles in ascending order (R452). -/
def State.coreTest (s : State) (failing : BitVec 3) : State :=
  let bad := [0, 1, 2].filter (fun c => failing.getLsbD c)
  let t := s.wrs [(SYS_HELM_STAT.CORE_OK, 7 - failing.toNat), (SYS_HELM_STAT.SPARE, if bad.isEmpty then 2 else 3)]
  let t := t.forEach bad (fun c t => (t.raiseSrc 0x1F0 { ctx0 with detail := c }).markFenced (.helm (Fin.ofNat 3 c)))
  if 2 ≤ bad.length then t.raise0 0x1F1 else t

/-- The slot that a start takes (R448): none in rescue; the slot, whether the other one was tried first, and its image. -/
def State.chooseSlot (s : State) (f : Nat) (readable : BitVec 2) : Option (Nat × Bool × Image) :=
  let nxt := s.persist.nextSlot % 2
  let first := if f = 2 then 1 - nxt else nxt
  let slot (k : Nat) : Option Image := if readable.getLsbD k then s.slotImage k else none
  if 3 ≤ f then none
  else match slot first with
    | some i => some (first, false, i)
    | none => (slot (1 - first)).map (fun i => (1 - first, true, i))

/-- The slots that fail their checks at the choice; an empty slot stays empty. -/
def State.slotStates (s : State) (f : Nat) (readable : BitVec 2) (pick : Option (Nat × Bool × Image)) : List Nat :=
  let old (k : Nat) : Nat := s.persist.slotState.getD k 0
  (List.range 2).map (fun k => match pick with
    | some (p, fb, _) => if k = p then 1 else if fb ∧ old k ≠ 0 then 2 else old k
    | none => if f < 3 ∧ readable.getLsbD k ∧ old k ≠ 0 then 2 else old k)

/-- Step 6, cold: every frame is written; the retirements of the persistent record are re-applied: a retired frame of the pool leaves with its
page, one under a region changes places with the highest-numbered page of the pool (R233, R236, R237, R440). -/
def State.reapplyFrame (s : State) (f : Nat) : State :=
  let bad := s.persist.retiredFrames
  let out (p : Nat) : State → State := fun t => t.updPage p (fun _ => { PageInfo.blank with retired := true })
  let t := s.updMem (fun m => { m with retFrames := m.retFrames ++ [f] })
  if !s.inRegion f then out f t
  else
    match ((List.range 16384).filter (fun p => !s.inRegion p && !(s.pageInfo p).retired && !bad.contains p)).getLast? with
    | none => t
    | some d => out d (t.updMem (fun m => { m with frameOf := sparseSet d (sparseSet f m.frameOf f d) d f }))

/-- Step 6 (R233, R437). -/
def State.initSram (s : State) : State :=
  let p := s.persist
  let t := if s.sys.startKind = .warm then s else (s.updMem (fun _ => State.reset.mem)).forEach p.retiredFrames (fun f t => t.reapplyFrame f)
  t.setReg MEM_BANK_RETIRED (BitVec.ofNat 32 p.retiredBanks)

/-- The free list is filled in ascending page order (R239). -/
def State.fillFree (s : State) : State :=
  ((s.updMem (fun m => { m with free := (List.range 16384).filter (fun p => !s.inRegion p && !(s.pageInfo p).retired) })).showPool).showRetire

/-- The image of the rescue firmware: no configuration, no patches (R449). -/
def rescueImage : Image where
  revision := 0
  secVersion := 0
  minCust := 0
  rollback := false
  cfg := launchCfg
  sealed_ := none
  nimdal := []
  cust := []
  headDigest := 0
  fwDigest := 0
  cfgDigest := 0
  level := 0

/-- The next SEQ: one above the highest held in the summary, the ride-through area, the ring and the always-on domain (R477). -/
def WatchU.resumeSeq (w : WatchU) : Nat :=
  (w.summary ++ w.rideArea ++ w.ring).foldl (fun m r => max m (r.seq + 1)) w.aonSeq

/-- Step 7: SEQ continues and the records held so far are numbered in order (R477). -/
def State.numberHeld (s : State) : State :=
  let t := s.updWatch (fun w => { w with nextSeq := w.resumeSeq, held := [] })
  let t := t.forEach s.watch.held (fun r t =>
    (t.updWatch (fun w => { w with ring := appendBounded logRingMax w.ring { r with seq := w.nextSeq }, nextSeq := w.nextSeq + 1, aonSeq := w.nextSeq + 1 })).inc LOG_CNT.WRITTEN)
  t.wr LOG_STAT.HELD t.watch.ring.length

/-- Registers that show the configuration, the fuses and the channel map of a start: each working channel serves its head, each spare is idle (R4,
R77, R82, R456, R525). -/
def State.showConfig (s : State) : State :=
  let f := s.sys.fuses
  let t := s.wrs [(RCH_PRESENT.MASK, maskOf 28 s.chanPresent), (SEQ_PRESENT.MASK, maskOf 4 s.actPresent), (SRV_PRESENT.MASK, maskOf 24 s.headPresent),
    (SYS_FUSE_STAT.LOCKED, b2n f.locked), (SYS_FUSE_STAT.OWNER_SET, b2n (f.ownerHash != 0)), (SYS_FUSE_STAT.SVC, f.svc),
    (SYS_SERIAL_LO.SERIAL, f.serial), (SYS_SERIAL_HI.SERIAL, f.serial / 2 ^ 32)]
  let t := t.forEach s.allHeads (fun h t => t.setRole h (h % 6) 1)
  t.forEach s.allActs (fun a t => t.spareIdle a)

/-- Steps 2 to 8 of a start (R437): the tests of the cores, the choice of the slot from the F stored before (R447, R448), the image taken
or rescue (R441, R449), SRAM, stores, configuration and REG_INIT loaded and glued, and the counters. -/
def State.runStart (s : State) (flashOk : Bool) (readable : BitVec 2) (cores : BitVec 3) : State :=
  let kind := s.sys.startKind
  let s := s.coreTest cores
  let absent := !flashOk || readable == 0
  let s := s.updSys (fun u => { u with aonRec := if absent then some (u.aonRec.getD (if kind = .cold then PersistRec.blank else u.persist)) else none })
  let f := s.persist.failed
  let pick := if absent then none else s.chooseSlot f readable
  let states := if absent then s.persist.slotState else s.slotStates f readable pick
  let s := s.updPersist (fun p => { p with failed := p.failed + 1, slotState := states, activeSlot := match pick with | some (k, _, _) => k | none => p.activeSlot })
  let s := s.wrs [(SYS_START.KIND, kind.code), (SYS_START.CAUSE, s.sys.startCause), (SYS_START.FROM_HALTED, b2n s.sys.fromHalted),
    (SYS_START.SLOT, s.persist.activeSlot), (SYS_START.FALLBACK, b2n (match pick with | some (_, fb, _) => fb | none => false)),
    (SYS_START.FAILED, min 7 f), (SYS_MODE.FLASH_ABSENT, b2n absent), (SYS_MODE.RESCUE, b2n pick.isNone)]
  let img := match pick with | some (_, _, i) => i | none => rescueImage
  let s := s.takeImage img
  -- At each cold start operating seconds resume from the persistent record (R440).
  let s := if kind = .cold then s.updSys (fun u => { u with opSeconds := u.persist.opSeconds }) else s
  let s := s.initSram
  let kept := s
  let s := s.cfgWrites img.cfg
  let s := if kind = .cold then s.wr MOT_SP_CFG.PHASE_SWAP img.cfg.phaseSwap else s
  let s := s.fillStores img s.sys.custPatchKey
  let s := (s.initWrites img.cfg.regInit).1
  let s := (s.glue gluedGroups 2 false).hooksKeptOff
  let s := if kind = .cold then s else kept.copyFlds s keptWarm
  let s := (s.showConfig).fillFree
  let s := s.updSch (fun u => { u with wbOn := false, wbForced := false })
  let s := if img.cfg.writeCache = 0 then s
    else if s.wbAllowed then s.updSch (fun u => { u with wbOn := true }) else s.updSch (fun u => { u with wbForced := true })
  let s := s.showAllowed
  let factory := s.sys.gpio0Low && !s.sys.fuses.locked
  let s := s.measure (pick.map (fun x => x.2.2)) kind.code (if pick.isNone then 2 else b2n factory)
  let s := (s.wr SYS_START.STEP 7).numberHeld
  let s := s.updPersist (fun p => if kind = .cold then { p with pwrCycles := (p.pwrCycles + 1) % 2 ^ 32 } else { p with warmStarts := (p.warmStarts + 1) % 2 ^ 32 })
  let s := s.wrs [(SYS_PWR_CYCLES.CNT, s.persist.pwrCycles), (SYS_WARM_STARTS.CNT, s.persist.warmStarts), (SYS_START.STEP, 8)]
  -- A start is recorded with its SYS_START value (R475 type 0x0003).
  s.logEvent 0x0003 0x1FF (s.reg SYS_START).toNat

/-- RESET_RELEASE: internal reset ends once the supplies are good and no reset ball is held; `gpio0` is the level of GPIO0 then (R431). With the
motor bus bad the start holds after step 1 (R429). -/
def execResetRelease (gpio0 flashOk : Bool) (readable : BitVec 2) (cores : BitVec 3) (s : State) : Res :=
  .next (
    if !s.sys.inReset || !s.sys.suppliesGood then s
    else
      let t := s.updSys (fun u => { u with inReset := false, gpio0Low := !gpio0 })
      let t := t.wr SYS_START.STEP 1
      if t.sys.busHold then t else t.runStart flashOk readable cores)

/-- BUS_GOOD_RESTART: the bus has been good for 10 ms: the start runs again from step 2 (R429). -/
def execBusGoodRestart (flashOk : Bool) (readable : BitVec 2) (cores : BitVec 3) (s : State) : Res :=
  .next (
    if !s.sys.busHold then s
    else if s.sys.inReset then s.updSys (fun u => { u with busHold := false })
    else
      let t := s.internalReset s.sys.startKind s.sys.startCause s.sys.prepFailed
      let t := (t.wr SYS_START.STEP 1).updSys (fun u => { u with inReset := false, gpio0Low := s.sys.gpio0Low, fromHalted := s.sys.fromHalted })
      t.runStart flashOk readable cores)

/-! ### DDR5 (R267, R268) -/

/-- CRC-32C of DDR_n_CFG of both channels, as a training record carries it. -/
def State.trainConfig (s : State) : Nat := (crc32c (leBytes 4 (s.reg (DDR_CFG 0)).toNat ++ leBytes 4 (s.reg (DDR_CFG 1)).toNat)).toNat

/-- The data rate in force, that of the lowest present channel. -/
def State.trainRate (s : State) : Nat := s.rd (DDR_CFG.DATA_RATE (if s.dramPresent 0 then 0 else 1))

/-- A training record over the 8,192 bytes of its blocks. -/
def State.trainRecord (s : State) (blocks : List Byte) : List Byte :=
  let b := (blocks ++ zeros 8192).take 8192
  let body := leBytes 4 0x4E525444 ++ leBytes 2 1 ++ leBytes 2 s.trainRate ++ leBytes 4 s.trainConfig ++ leBytes 4 0 ++ b
  body ++ leBytes 4 (crc32c body).toNat

/-- The bytes of the three table-region pages from DDR_TRAIN_PTR. -/
def State.storedRecord (s : State) : List Byte :=
  ((List.range 3).flatMap (fun k => s.pageBytes (s.rd DDR_TRAIN_PTR.PAGE + k))).take 8212

/-- The stored record may be restored: CHECK, VERSION, DATA_RATE and CONFIG all match (R268). -/
def State.recordMatches (s : State) : Bool :=
  let r := s.storedRecord
  fieldAt r 8208 4 == (crc32c (r.take 8208)).toNat && fieldAt r 4 2 == 1 && fieldAt r 6 2 == s.trainRate && fieldAt r 8 4 == s.trainConfig

/-- Writes bytes from the start of a table page on. -/
def State.putPages (s : State) (page : Nat) : Nat → List Byte → State
  | 0, _ => s
  | fuel + 1, bs => if bs.isEmpty then s else (s.putTable page 0 (bs.take 4096)).putPages (page + 1) fuel (bs.drop 4096)

/-- DDR_TRAINING_DONE: restore of the record in a warm start whose record matches, full training otherwise, with the record written to the
table region; `fail` are channels whose training fails and which are fenced (R267 to R269), `blocks` what the training measured. -/
def execDdrTrainingDone (fail : BitVec 2) (blocks : List (BitVec 8)) (s : State) : Res :=
  .next (
    let cs := (List.range 2).filter s.dramPresent
    if s.sys.inReset || s.rd SYS_START.STEP ≠ 8 || s.sys.regOpen || cs.all (fun c => (s.ddr c).trained || s.ddrFenced c) then s
    else
      let restored := s.sys.startKind == .warm && s.recordMatches
      let t := if restored then s.setB DDR_GSTATUS.RESTORED else s.setB DDR_GSTATUS.RETRAINED
      let t := t.forEach cs (fun c t =>
        let t := t.clr (DDR_STATUS.SELF_REFRESH c)
        if fail.getLsbD c then (t.ddrBit c DDR_STATUS.TRAIN_FAIL).fenceDdr c
        else t.updDdr c (fun d => { d with trained := true, results := blocks }))
      if restored then t else t.putPages (t.rd DDR_TRAIN_PTR.PAGE) 3 (t.trainRecord blocks))

/-! ### The opening of register space -/

/-- The confirming test of R528 on head `h`, whose MODE is IDLE: MEASURE, then STATUS, which answers `v`; a part that shows neither open nor short is
in service again. With one reader still lost its channel runs on the other (R79). -/
def State.headPartTest (s : State) (h : Nat) (v : BitVec 8) : State :=
  let a := h / 6
  let rdF : PaFrame := { read := true, pos := h % 6, addr := 1, data := 0, mailbox := none }
  let t := (s.emit (.paFrame (Fin.ofNat 4 a) (paWrite (h % 6) 7 1).bits)).emit (.paFrame (Fin.ofNat 4 a) rdF.bits)
  let clrIf (bad : Bool) (f : Fld) (t : State) : State := if bad || !t.on f then t else t.clr f
  let t := clrIf (v.getLsbD 1 || v.getLsbD 2) (WRP_STATUS.WRITER_LOST h) t
  let t := clrIf (v.getLsbD 3 || v.getLsbD 4) (WRP_STATUS.READER_A_LOST h) t
  let t := clrIf (v.getLsbD 5 || v.getLsbD 6) (WRP_STATUS.READER_B_LOST h) t
  if t.sys.cfg.readers = 1 then t
  else if t.on (WRP_STATUS.READER_A_LOST h) then t.runOnReader h 2
  else if t.on (WRP_STATUS.READER_B_LOST h) then t.runOnReader h 1 else t

/-- The return words of the eight frames of the microactuator test flag head `h`: MA_OC or MA_OPEN (R528). -/
def maFlagged (words : List (BitVec 24 × BitVec 24)) (h : Nat) : Bool := words.any (fun w => w.1.getLsbD h || w.2.getLsbD h)

/-- The head health test of R528 on the actuators that are PARKED: every present head's parts, and a step of 4,096 codes and back of its
microactuator over 8 frames, here 4 at 4,096 and 4 at 0 (log entry 143). `status` are the STATUS words read, by head, `words` MA_OC and MA_OPEN of
the return words. A microactuator that shows neither flag is in service again. -/
def State.headTest (s : State) (status : List (BitVec 8)) (words : List (BitVec 24 × BitVec 24)) : State :=
  let hs := s.allHeads.filter (fun h => s.rd (MOT_ASTATUS.STATE (h / 6)) == 0)
  let t := s.forEach hs (fun h t => t.headPartTest h (status.getD h 0))
  let t := t.forEach [4096, 4096, 4096, 4096, 0, 0, 0, 0] (fun v t => t.sendMa ((List.range 24).map (fun h => if hs.contains h then v else 0)))
  let t := t.forEach hs (fun h t =>
    let t := if maFlagged words h || !bitOf (t.rd MOT_MA_FAULT.MASK) h then t
      else ((t.wr ⟨MOT_MA_FAULT, h, h⟩ 0).updHead h (fun u => { u with inhSeek := false })).updWatch (fun u =>
        { u with fences := u.fences.filter (fun x => x ≠ FUnit.microact (Fin.ofNat 24 h)) })
    t.showInhibit h)
  t.forEach t.allActs (fun a t =>
    if t.domainWriterLost a || (t.headsOf a).any (fun h => bitOf (t.rd MOT_MA_FAULT.MASK) h) then t
    else t.forEach (t.zonesOf a) (fun z t => t.updZone z (fun x => { x with writerLost := false })))

/-- REGISTER_SPACE_OPEN: SERVICE, or FACTORY under R431, with media not ready or in rescue; DEGRADED when a unit was fenced in BRING-UP
(R429, R430). A static quay address is taken (R413), heads are tested (R528) and the spindle is started (R207, R437). -/
def execRegisterSpaceOpen (status : List (BitVec 8)) (words : List (BitVec 24 × BitVec 24)) (s : State) : Res :=
  .next (
    let cs := (List.range 2).filter s.dramPresent
    if s.sys.inReset || s.sys.regOpen || s.sys.busHold || s.mode != .bringUp || s.rd SYS_START.STEP ≠ 8 ||
       !cs.all (fun c => (s.ddr c).trained || s.ddrFenced c) then s
    else
      let rescue := s.on SYS_MODE.RESCUE
      let m : Mode := if s.sys.gpio0Low && !s.sys.fuses.locked then .factory
        else if rescue || s.watch.fences.isEmpty then .service else .degraded
      let t := s.updSys (fun u => { u with regOpen := true, wdogFrom := u.time })
      let t := t.updWrp (fun w => { w with gatesOff := false })
      let t := t.setMode m
      let t := if rescue then ((t.clr SYS_MODE.MEDIA_NOT_READY).bqBit BQ_STATUS.MEDIA_NOT_READY false).bqBit BQ_STATUS.RESCUE true else t
      let t := t.when (t.on BQ_LINK_STAT.UP) (fun t => t.emit (.retryStatus false))
      let t := if t.sys.cfg.static = 1 && !rescue then t.wrs [(QFB_ADDR.ADDR, t.sys.cfg.staticAddr), (QFB_ADDR.ASSIGNED, 0), (QFB_ADDR.VALID, 1)] else t
      if rescue then t
      else (t.headTest status words).startSpindle)

/-! ### The system-area read (R46 to R50) -/

/-- Inserts a record by ascending SEQ; a record already there is kept. -/
def insertRec (r : LogRec) : List LogRec → List LogRec
  | [] => [r]
  | q :: l => if r.seq < q.seq then r :: q :: l else if r.seq = q.seq then q :: l else q :: insertRec r l

/-- The merge of logbooks by SEQ (R477): the newest `logRingMax` records. -/
def mergeRecs (a b : List LogRec) : List LogRec :=
  let l := b.foldl (fun l r => insertRec r l) a
  l.drop (l.length - logRingMax)

/-- A copy of a binding record is valid: CHECK, MAGIC, VERSION and SIGNATURE verify (R48, R49). -/
def bindingValid (b : List Byte) : Bool :=
  b.length == 256 && fieldAt b 252 4 == (crc32c (b.take 252)).toNat && fieldAt b 0 4 == 0x444E4942 && fieldAt b 4 2 == 1 &&
  Config.ecdsaOk (fieldAt b 8 96) (b.take 128) (bytesAt b 128 96)

/-- Sector `rel` of a zone as a payload read from its slot shows it to belong to the run of R47: KIND 0 or 1, the zone's GENERATION, the
expected LBA and a good CRC-32C. `last` is its tag's LAST. -/
def runSector (lba gen : Nat) (p : List Byte) : Option Bool :=
  let tag := fieldAt p 4096 8
  if p.length = 4112 ∧ bitsOf tag 43 40 < 2 ∧ bitsOf tag 63 48 = gen ∧ bitsOf tag 39 0 = lba ∧
     fieldAt p 4104 4 = (crc32c (p.take 4104)).toNat then some (bitOf tag 45) else none

/-- The sector after the last one with LAST set in the run that starts at sector `rel` of the zone that starts at `slba`; `keep` when the run
holds none (R47). -/
def scanRun (slba gen cap : Nat) : Nat → Nat → List (Option (List Byte)) → Nat
  | _, keep, [] => keep
  | rel, keep, p :: ps =>
    match (if rel < cap then p else none).bind (runSector (slba + rel) gen) with
    | none => keep
    | some last => scanRun slba gen cap (rel + 1) (if last then rel + 1 else keep) ps

/-- The rebuilt pointer of an open or CLOSED zone (R47): `n` sectors; CAPACITY makes it FULL. Appends kept under write-back are placed again
behind it (log entry 77). -/
def Zone.rebuild (z : Zone) (n : Nat) : Zone :=
  if z.state = .implicitOpen ∨ z.state = .explicitOpen ∨ z.state = .closed then
    let y := { z with mediaWp := 16 * n, placed := z.placed.filter (fun q => decide (n ≤ q.start)), writtenHigh := max z.writtenHigh n }
    { y with wp := y.wpEnd, state := if y.wpEnd = 16 * z.capacity then .full else z.state }
  else { z with placed := [] }

/-- The readable copies of the binding record of domain `d` that are valid: `bad` marks the copies that cannot be read (R49). -/
def State.validBinds (s : State) (d : Nat) (bad : BitVec 8) : List (List Byte) :=
  let r := s.media.bindRecs.getD d ([], [])
  ((if bad.getLsbD (2 * d) then [] else [r.1]) ++ (if bad.getLsbD (2 * d + 1) then [] else [r.2])).filter bindingValid

/-- The binding of a domain (R49): bound when its valid copies carry the own key and do not disagree. -/
def State.domainBound (s : State) (d : Nat) (bad : BitVec 8) : Bool :=
  match s.validBinds d bad with
  | [] => false
  | r :: l => fieldAt r 8 96 == s.identityKey && l.all (fun q => q == r)

/-- Zone `z` as the copy `x` of its checkpoint gives it (R26, R46): an entry that fails its checks is refused and the zone stays OFFLINE; an entry
that firmware has installed already stays in use. -/
def State.loadZone (s : State) (z : Nat) (x : Zone) : State :=
  let live := (s.zone z).entry
  let bad := match live, x.entry with | none, some e => (s.tierCheck e).isSome | _, _ => false
  let t := s.updZone z (fun y => { x with
    entry := if live.isSome then live else if bad then none else x.entry, placed := y.placed, state := if bad then .offline else x.state })
  t.when bad (fun t => t.refuse SCH_TIER_CMD 5 0 1 false)

/-- Reads the system area of domain `d`: the good copy with the newer stamp gives the defect lists, the stamp mark at which stamps resume, and the
zones; the pointers of open and CLOSED zones are rebuilt from `scan` (R34, R46, R47). -/
def State.readArea (s : State) (d : Nat) (bad : BitVec 8) (scan : List (Nat × List (Option (List Byte)))) : State :=
  let p := s.areaOf d
  let p : SysArea × SysArea := ({ p.1 with good := p.1.good && !bad.getLsbD (2 * d) }, { p.2 with good := p.2.good && !bad.getLsbD (2 * d + 1) })
  let a := newestArea p
  let fresh := !s.media.ready.any id
  let t := s.updMedia (fun m => { m with
    areas := listSet m.areas d p, primary := listSet m.primary d a.primary, grown := listSet m.grown d a.grown,
    stamp := if fresh || stampNewer a.mark m.stamp then a.mark else m.stamp,
    stampMark := if fresh || stampNewer a.mark m.stampMark then a.mark else m.stampMark })
  let t := t.forEach a.zones (fun e t => t.loadZone e.1 e.2)
  t.forEach (t.zonesOf d) (fun z t =>
    let x := t.zone z
    t.updZone z (fun x => x.rebuild (scanRun (z * zoneSectors t.sys.cfg) x.gen x.capacity (x.mediaWp / 16) (x.mediaWp / 16) ((scan.lookup z).getD []))))

/-- The binding check has found the media bound: copies that did not check good are written again from the good ones (R46, R49). -/
def State.repairCopies (s : State) (d : Nat) (bad : BitVec 8) : State :=
  if s.foreignAny then s
  else
    let t := match s.validBinds d bad with
      | r :: _ => s.updMedia (fun m => { m with bindRecs := listSet m.bindRecs d (r, r) })
      | [] => s
    t.saveArea d

/-- SYSTEM_AREA_READ_DONE for the domains read: zones get their entries and rebuilt pointers, the binding is checked, the logbooks are
merged and the ride-through area erased; the media is ready once every domain in service is (R26, R46 to R50, R437, R477). `bad` are the
copies that cannot be read, `scan` the payloads that the forward read of R47 returns by zone, from the checkpointed MEDIA_WP on. -/
def execSystemAreaReadDone (domains : BitVec 4) (bad : BitVec 8) (scan : List (Nat × List (Option (List (BitVec 8))))) (s : State) : Res :=
  .next (
    let ds := s.allActs.filter (fun d => domains.getLsbD d && !s.media.ready.getD d false && s.actState d != 5)
    if !s.running || s.on SYS_MODE.RESCUE || ds.isEmpty then s
    else
      let t := s.forEach ds (fun d t => t.readArea d bad scan)
      let bound := ds.filter (fun d => t.domainBound d bad)
      let t := t.updMedia (fun m => { m with
        foreign := (List.range 4).map (fun d => if ds.contains d then !bound.contains d else m.foreign.getD d false),
        bindCount := (List.range 4).map (fun d =>
          if ds.contains d then ((t.validBinds d bad).map (fun r => fieldAt r 104 8)).foldl max 0 else m.bindCount.getD d 0),
        ready := (List.range 4).map (fun d => m.ready.getD d false || ds.contains d) })
      let t := t.wr SYS_MODE.FOREIGN (b2n t.foreignAny)
      let logs := bound.flatMap (fun d => (newestArea (t.areaOf d)).log)
      let t := t.updWatch (fun w => { w with
        ring := mergeRecs (mergeRecs w.ring logs) w.rideArea, rideArea := [], persisted := logs.foldl (fun m r => max m (r.seq + 1)) w.persisted })
      let t := (t.wr LOG_STAT.HELD t.watch.ring.length)
      let t : State := { t with qfb := { t.qfb with saved := [] } }
      if t.allActs.all (fun d => t.media.ready.getD d false || t.actState d == 5) then
        let t := ((t.clr SYS_MODE.MEDIA_NOT_READY).bqBit BQ_STATUS.MEDIA_NOT_READY false).wr SYS_START.STEP 12
        t.forEach (t.allActs.filter (fun d => t.media.ready.getD d false)) (fun d t => t.repairCopies d (if ds.contains d then bad else 0))
      else t)

/-! ### ALIVE (R447) -/

/-- ALIVE_SET: firmware sets SYS_START.ALIVE: F is 0 and the first time SVC rises with ROLLBACK_COMMIT; a host write is refused (R446, R447,
R456). -/
def execAliveSet (w : Initiator) (s : State) : Res :=
  if !s.mayWrite w then .next s else
  .next (
    match w with
    | .host => s.refuseW .host SYS_START 2
    | .helm =>
      if s.on SYS_START.ALIVE then s
      else
        let t := ((s.setB SYS_START.ALIVE).updPersist (fun p => { p with failed := 0 })).raiseSvc
        t.wr SYS_FUSE_STAT.SVC t.sys.fuses.svc)

end Sys2Proof.Machine
end

