-- ==== Sys2Proof/Machine/RideThrough.lean ====
section
/-! DEFINITION. RIDE-THROUGH (R222, R224, R433, R477), the Helm complex (R452) and operating seconds (R440). -/

namespace Sys2Proof.Machine
open Reg

/-! ### RIDE-THROUGH -/

/-- Powers off the units that R433 does not keep: DRAM contents, write-back data not yet written and every SRAM bank but those of the logbook ring,
the outcome table and the persistent record are lost. -/
def State.rideUnitsOff (s : State) : State :=
  let t := s.updMem (fun m => { m with bytes := [], flips := [] })
  let t := t.updDram (fun d => { d with
    ways := [], miss := [], victims := [], waitQ := [], reads := [], writes := [], maint := none,
    ch := d.ch.map (fun c => { c with bytes := [], bursts := [] }) })
  let t := t.updSch (fun u => { u with wb := [] })
  t.stopQuay

/-- The spindle on entry (R222, R224): generator mode from a running state or STOPPING unless every actuator is PARKED below 20 %; the gates go off
in a start under way. -/
def State.rideSpindle (s : State) : State :=
  let st := s.spState
  if (s.spRunning || st == 8) && !(s.allParked && s.slow (s.rd MOT_SPEED.RPM)) then s.spGo 10 (s.rd MOT_SP_STAT.SOURCE)
  else if st = 2 ∨ st = 9 then s
  else s.spGo 0 0

/-- RIDE_THROUGH_ENTER: the BUS_UV comparator trips (R222, R429): in BRING-UP the start holds; while the Anchor acts it is ignored (R470). -/
def execRideThroughEnter (s : State) : Res :=
  .next (
    if s.mode == .bringUp then (if s.sys.regOpen then s else s.updSys (fun u => { u with busHold := true }))
    else if !s.running || s.on WCH_INST.ANCHOR then s
    else
      let t := (s.updWrp (fun w => { w with supplyErr := true, gatesOff := true })).dropGates false s.allHeads
      let t := (t.motBit MOT_STATUS.RIDE_THROUGH).setMode .rideThrough
      let t := t.logFree 0x0011 0x1FF
      let t := (t.rideSpindle).rideUnitsOff
      (t.retractAll).updMot (fun m => { m with rideStart := some t.sys.time, rideFlash := false }))

/-- RIDE_THROUGH_FLASH_DONE: the record list is closed and the flash holds the records not yet persisted, at most the newest 1,024, with the
summary, the operating seconds and the outcome table (R222, R477). -/
def execRideThroughFlashDone (s : State) : Res :=
  .next (
    if s.mode != .rideThrough || s.mot.rideFlash then s
    else
      let t := s.updMot (fun m => { m with rideFlash := true })
      if t.on SYS_MODE.FLASH_ABSENT then t
      else
        let t := t.updWatch (fun w =>
          let l := w.ring.filter (fun r => decide (w.persisted ≤ r.seq))
          { w with rideArea := l.drop (l.length - 1024) })
        let t : State := { t.writeSummary with qfb := { t.qfb with saved := t.qfb.outcomes } }
        t.updPersist (fun p => { p with opSeconds := t.sys.opSeconds }))

/-- RIDE_THROUGH_END: every actuator PARKED and the flash written: the spindle goes to SHORT, HELM_BEAT stops, and the K4 is HALTED with its key slots
zeroed (R222 step 9, R432). The stop cause of MOT_BEAT is left open: a free value. -/
def execRideThroughEnd (s : State) : Res :=
  .next (
    if s.mode != .rideThrough || !s.allParked || !s.mot.rideFlash then s
    else
      let t := (s.spGo 2 0).updMot (fun m => { m with brakeWait := false })
      let t := (t.stopBeat (t.freeNow % 4)).freeNext
      let t := t.wr MOT_RT_STAT.DURATION (satU 16 ((t.sys.time - t.mot.rideStart.getD t.sys.time) / 2500000))
      (t.zeroKeys).setMode .halted)

/-! ### The Helm complex (R452) -/

/-- Core `c` is in service. -/
def State.coreOk (s : State) (c : Nat) : Bool := bitOf (s.rd SYS_HELM_STAT.CORE_OK) c

/-- A pair core fails its self-check, or a mismatch shows it to differ from the spare: it is fenced and the spare takes over from the checkpoint; with
no spare the fault is HELM_PAIR (R452). -/
def State.helmFault (s : State) (c : Nat) : State :=
  let spare := s.rd SYS_HELM_STAT.SPARE
  if !s.coreOk c || c = spare then s
  else if spare = 3 then s.raise0 0x1F1
  else
    let t := s.wrs [(SYS_HELM_STAT.CORE_OK, s.rd SYS_HELM_STAT.CORE_OK - 2 ^ c), (SYS_HELM_STAT.SPARE, 3)]
    let t := t.raiseBit SYS_HELM_STAT.HANDOVER SYS_HELM_INT_EN
    let t := (t.inc SYS_HELM_CNT.HANDOVERS).inc SYS_HELM_CNT.REPLAYS
    (t.raiseSrc 0x1F0 { ctx0 with detail := c }).markFenced (.helm (Fin.ofNat 3 c))

/-- The spare fails its self-test and is fenced (R452). -/
def State.spareFault (s : State) : State :=
  let c := s.rd SYS_HELM_STAT.SPARE
  if c = 3 then s
  else
    let t := s.wrs [(SYS_HELM_STAT.CORE_OK, s.rd SYS_HELM_STAT.CORE_OK - 2 ^ c), (SYS_HELM_STAT.SPARE, 3)]
    let t := t.raiseBit SYS_HELM_STAT.SPARE_FAIL SYS_HELM_INT_EN
    (t.raiseSrc 0x1F0 { ctx0 with detail := c }).markFenced (.helm (Fin.ofNat 3 c))

/-- The Helm pair runs: internal reset is over. -/
def State.helmRuns (s : State) : Bool := !s.sys.inReset && decide (2 ≤ s.rd SYS_START.STEP)

/-- HELM_CORE_FAULT: the findings of R452 on a pair core. -/
def execHelmCoreFault (core : Fin 3) (s : State) : Res := .next (if s.helmRuns then s.helmFault core.val else s)

/-- HELM_SPARE_SELFTEST: every 1 ms; off in RIDE-THROUGH (R433). An injection armed at the spare's own check meets it (R471). -/
def execHelmSpareSelftest (pass : Bool) (s : State) : Res :=
  .next (
    let hit := (s.armedAt 9 (fun a => a == s.rd SYS_HELM_STAT.SPARE)).isSome
    if !s.helmRuns || s.mode == .rideThrough then s
    else if pass && !hit then s
    else s.spareFault)

/-- HELM_CHECKPOINT: the pair writes a checkpoint and the input log starts anew; an injection armed at a pair core's own check meets it (R452, R471). -/
def execHelmCheckpoint (s : State) : Res :=
  .next (
    if !s.helmRuns then s
    else
      let t := s.updSys (fun u => { u with inputLog := 0, ckpts := u.ckpts + 1 })
      match t.armedAt 9 (fun a => decide (a < 3) && t.coreOk a && a != t.rd SYS_HELM_STAT.SPARE) with
      | some j => t.helmFault j.arg
      | none => t)

/-! ### Operating seconds (R440) -/

/-- OP_SECONDS_PERSIST: every 60 s the operating seconds go to the persistent record. -/
def execOpSecondsPersist (s : State) : Res :=
  .next (if s.sys.inReset then s else s.updPersist (fun p => { p with opSeconds := s.sys.opSeconds }))

end Sys2Proof.Machine
end

