-- ==== Sys2Proof/Machine/Bell.lean ====
section
/-! DEFINITION. The bell edge (R13, R14): the bell timer (R165, R166), the decoder budget (R90), the completion sweep (R102), deep
admission (R92), re-reads (R97, R98), and what else falls at the edge. -/

namespace Sys2Proof.Machine
open Reg

/-! ### The bell timer (R13, R165, R166) -/

/-- The bell timer free-runs: the spindle is stopped or below 20 % of nominal speed (R13). In FAULT it free-runs only while
MOT_SPEED shows below 20 % (DEDUCED, log entry 17). -/
def State.freeRuns (s : State) : Bool :=
  s.spState == 0 || s.spState == 1 || s.spState == 3 || s.spState == 4 || s.slow (s.rd MOT_SPEED.RPM)

/-- The mean of a list of integers, rounded down. -/
def meanInt (l : List Int) : Int := l.foldl (· + ·) 0 / (l.length : Int)

/-- The phase error of the bell just ended (R166), in units of 0.04 ns: from the reference's mark, when it misses its wedge from the mean over the heads
with valid wedges; none when no head has one (R165). -/
def State.phaseError (s : State) : Option Int :=
  let q := s.servoBits 620
  match s.srv.results.find? (fun x => x.valid && s.tref == some x.head) with
  | some x => some (x.sam + q)
  | none =>
    match (s.srv.results.filter (fun x => x.valid)).map (fun x => x.sam - s.skewOf x.head) with
    | [] => none
    | l => some (meanInt l + q)

/-- The timer's next period and the interval to the edge now placed, in 1/1,024 of 0.04 ns, and whether it coasts (R13, R165, R166).
With no reference in force it follows the observer's speed. -/
def State.nextPeriod (s : State) : Nat × Nat × Bool :=
  let nom := nomPeriod s.sys.cfg
  if s.freeRuns then (nom, nom, false)
  else if s.tref.isNone then
    let p := 60000000000 * 25 * 1024 / (max 1 (s.rd MOT_SPEED.RPM) * s.sys.cfg.wedges)
    (p, p, false)
  else match s.phaseError with
    | none => (s.wedgePeriod, s.wedgePeriod, true)
    | some e =>
      let p := ((s.wedgePeriod : Int) + asr (e * 1024) (s.rd SRV_BT_CFG.BT_KI)).toNat
      (p, ((p : Int) + asr (e * 1024) (s.rd SRV_BT_CFG.BT_KP)).toNat, false)

/-- Device time advances by `d` units; whole operating seconds crossed are counted (log entry 5). -/
def State.advance (s : State) (d : Nat) : State :=
  s.updSys (fun u => { u with
    time := u.time + d, opSeconds := u.opSeconds + ((u.time + d) / unitsPerSecond - u.time / unitsPerSecond) })

/-- The timer places the edge: period, time, and the register that shows the period (R166, R169). -/
def State.timerEdge (s : State) : State :=
  let (p, i, coast) := s.nextPeriod
  let t := s.when coast (fun t => t.raiseBit SRV_GSTATUS.BELL_COAST SRV_INT_EN)
  let t : State := { t with srv := { t.srv with period := p, results := [], lead := ((i / 1024 : Nat) : Int) - ((p / 1024 : Nat) : Int) } }
  (t.wr SRV_PERIOD.PERIOD (p / 1024)).advance (i / 1024)

/-- The timing reference hands over when it has gone, and is chosen when there is none (R165). -/
def State.trefEdge (s : State) : State := (s.when s.trefGone State.trefHandover).findTref

/-- The spindle speed condition (R124): beyond ±0.1 % it starts; bells within ±0.05 % are counted towards its end. -/
def State.speedEdge (s : State) : State :=
  if s.freeRuns then s
  else
    let nom := nomPeriod s.sys.cfg
    let p := s.srv.period
    let d := if nom ≤ p then p - nom else nom - p
    let s := s.updWrp (fun w => { w with speedRun := if 2000 * d ≤ nom then w.speedRun + 1 else 0 })
    if d * 1000 ≤ nom ∨ s.wrp.speedErr then s
    else
      let t := s.updWrp (fun w => { w with speedErr := true })
      (t.dropGates false t.allHeads).wrpBits t.allHeads WRP_STATUS.SPEED

/-! ### Heartbeat, pins and other counts of the edge -/

/-- HELM_BEAT: it starts at the first bell with MOT_CTRL.EN set after a start and changes level at every edge until it is stopped
(R196). -/
def State.beatEdge (s : State) : State :=
  let start := !s.mot.beatSeen && s.on MOT_CTRL.EN && s.mode != .bringUp && s.mode != .halted
  let t := s.when start (fun t => (t.updMot (fun m => { m with beatSeen := true })).setB MOT_BEAT.RUNNING)
  t.when (t.on MOT_BEAT.RUNNING) (fun t => t.emit .helmBeat)

/-- Pins with FUNC 2 toggle at every edge (R502). -/
def State.bellPins (s : State) : State :=
  s.forEach ((List.range 16).filter (fun n => s.rd (PAD_GPIO_CFG.FUNC n) == 2))
    (fun n t => t.updSys (fun u => { u with pinOut := listModify u.pinOut n not }))

/-- Heads of an actuator that went off the ramp count as loaded from this bell: OFF becomes HUNT (R167, R175). -/
def State.loadEdge (s : State) : State :=
  let acts := s.allActs.filter (fun a => (s.act a).loadPend)
  let t := s.forEach acts (fun a t =>
    let t := t.forEach ((t.headsOf a).filter (fun h => t.on (SRV_CFG.EN h) && t.srvState h == 0))
      (fun h t => t.wr (SRV_STATUS.STATE h) 1)
    t.updAct a (fun c => { c with loadPend := false }))
  if acts.isEmpty then t else t.showLoaded

/-- Counts that run for one bell start again: the chopper's (R213), the preamplifier ports' (R115), the planes' of 1,024 bells (R243), and
port reservations of sectors that have ended (R74). Descriptors appended before the edge become visible (R133). -/
def State.unitEdges (s : State) : State :=
  let t := s.updMot (fun m => { m with chopPrev := m.chopBell, chopBell := m.chopOn })
  let t := t.updWrp (fun w => { w with ports := w.ports.map (fun (p : PaPort) => { p with crcFails := 0 }) })
  let t := t.when (t.bell % 1024 == 0) (fun t =>
    ({ t with mem := { t.mem with planeErr := [] } } : State).wrs [(MEM_PLANE_STAT.P0_ERR, 0), (MEM_PLANE_STAT.P1_ERR, 0)])
  { t with
    chans := t.chans.map (fun (c : ChanU) => { c with draining := none }),
    seqs := t.seqs.map (fun (e : SeqU) =>
      let see (l : Lane) : Lane := { l with list := l.list ++ l.incoming, incoming := [] }
      { e with lanes := e.lanes.map see, tent := e.tent.map (fun ls => ls.map see) }) }

/-! ### The decoder budget (R90) -/

/-- Quick iterations an engine can run in a bell of the period in force: 400 ns each. -/
def State.perEngine (s : State) : Nat := s.wedgePeriod / (10000 * 1024)

/-- The planned sector ends of every channel in the bell. -/
def State.plannedEnds (s : State) : Nat := (s.allActs.map (fun a => s.rd (SEQ_ENDS.ENDS a))).foldl (· + ·) 0

/-- Grants the bell's budget (R90, R105). -/
def State.grantBudget (s : State) : State :=
  let grant := s.quickInService.length * s.perEngine
  let ends := s.plannedEnds
  let reserve := ends * s.rd DEC_CFG.QUICK_MAX
  let short := decide (grant < reserve)
  let t := s.updDec (fun d => { d with
    quickMax := if short then max 2 (grant / ends) else s.rd DEC_CFG.QUICK_MAX,
    deepGrant := s.deepInService.length * s.perEngine })
  let t := t.wrs [(DEC_BUDGET_STAT.GRANT, satU 12 grant), (DEC_BUDGET_STAT.RESERVE, satU 12 reserve), (DEC_BUDGET_STAT.ENDS, satU 8 ends)]
  t.when short (fun t => (t.decBit DEC_STATUS.BUDGET_SHORT).inc DEC_ERR_CNT.BUDGET_SHORT)

/-! ### The completion sweep (R99, R102) -/

/-- A swept record enters the trace FIFO, unless it is full (R105). -/
def State.traceRec (s : State) (r : CRec) : State :=
  if s.on DEC_TRACE_CTRL.EN && (s.on DEC_TRACE_CTRL.ALL || s.rd DEC_TRACE_CTRL.SOURCE == r.source) && decide (s.dec.trace.length < 64) then
    s.updDec (fun x => { x with trace := x.trace ++ [r] })
  else s

/-- A sector is recovered (R89, R99): its page becomes valid; at MARG_STEP or above it counts as marginal, and enters the log with MARG_EN
set. -/
def State.recovered (s : State) (r : CRec) : State :=
  let step := if 1 ≤ r.reread then 3 else r.step
  let t := s.updSec r.token (fun w => { w with st := if r.outcome = 6 then .unwritten else .good, step := step })
  let t := t.markValid (tokTag r.token) (tokIdx r.token)
  if step < s.rd DEC_RETRY_CFG.MARG_STEP then t
  else
    let t := t.updCmd (tokTag r.token) (fun c => { c with marginal := c.marginal + 1 })
    if s.on DEC_RETRY_CFG.MARG_EN then
      let m : MargRec := { lba := r.lba, head := r.head, step := step, rereads := r.reread, dqm := r.dqm, bell := s.bell }
      ({ t with sch := { t.sch with margCount := t.sch.margCount + 1 } } : State).updDec
        (fun x => { x with marginal := appendBounded 1024 x.marginal m })
    else t

/-- One record is swept. A sector is done at its CONVERGED, UNWRITTEN or UNRECOVERED record (R102); one whose command was dropped ends
at its DROPPED record (R103). -/
def State.sweepRec (s : State) (r : CRec) : State :=
  let s := s.traceRec r
  match s.sec? r.token with
  | none => s
  | some w =>
    if w.st ≠ .decoding then s
    else if r.outcome = 2 ∨ r.outcome = 6 then s.recovered r
    else if r.outcome = 9 then s.updSec r.token (fun w => { w with st := .failed })
    else if r.outcome = 10 then s.updSec r.token (fun w => { w with st := .lost })
    else s

/-- The records to sweep: those left by a late sweep first, then the slots of the bell just ended in source order (R102). -/
def DecU.due (d : DecU) : List CRec := d.unswept ++ (List.range 64).flatMap (fun i => sparseGet [] d.slots i)

/-- The sweep of the bell: `n` records by its deadline; the others stay (R14, R102). Records that deep engines held enter their slots
(R100). -/
def State.sweep (s : State) (n : Nat) : State :=
  let l := s.dec.due
  let held := s.dec.heldRecs
  let t := s.updDec (fun x => { x with slots := [], unswept := l.drop n, heldRecs := [] })
  let t := t.forEach (l.take n) (fun r t => t.sweepRec r)
  t.forEach held (fun r t => t.postRec r)

/-! ### Deep admission (R92) -/

/-- Quick iterations that a slot load takes: 4,000 ns, or 8,000 ns with a plane fenced (R75, R103). -/
def State.loadQie (s : State) : Nat := if s.isFenced (.plane 0) || s.isFenced (.plane 1) then 20 else 10

/-- Quick iterations that a deep engine may still take, each decode run to DEEP_MAX and each trial at its full cost (R92). -/
def State.engBusyFor (s : State) (e : Nat) : Nat :=
  let dm := s.rd DEC_CFG.DEEP_MAX
  let inner := s.rd DEC_CFG.INNER
  let outers (done : Nat) : Nat := if done = 0 then inner + (dm - 1) * (2 + inner) else (dm - done) * (2 + inner)
  let now := match (s.eng e).job with
    | none => 0
    | some (_, .deepLoad) => s.loadQie + outers 0
    | some (_, .deep) => outers (s.eng e).iter
    | some (d, .trialLoad) => s.loadQie + 2 * d.shifts.length
    | some (d, .trial) => 2 * (d.shifts.length + 1)
    | some (_, .quick) => 0
  now + (match (s.eng e).suspended with | some (_, it) => outers it | none => 0)

/-- The least of a list, and the list with it raised by `c`. -/
def takeLeast (c : Nat) : List Nat → Nat × List Nat
  | [] => (0, [])
  | [x] => (x, [x + c])
  | x :: l => let (y, r) := takeLeast c l; if x ≤ y then (x, (x + c) :: l) else (y, x :: r)

/-- Puts an instant in its place in an ascending list. -/
def insertTime (x : Int) : List Int → List Int
  | [] => [x]
  | y :: l => if x ≤ y then x :: y :: l else y :: insertTime x l

/-- The planned instants, in units of 0.04 ns from the edge, at which channel `n` ends a read sector, earliest first: each takes a slot, but for that
of a sector which has its slot already (R72, R92). -/
def State.takeTimes (s : State) (n : Nat) : List Int :=
  let l := (s.allHeads.filter (fun h => s.chanOfHead h == some n)).flatMap (fun h => (s.readEnds h).map (s.eventInstant h))
  (l.foldr insertTime []).drop (if (s.chan n).slotIx.isSome then 1 else 0)

/-- The expiry of a queued deep sector: the planned instant of the take that comes to its slot, counted in ring order over the slots that are not
held (R92); none where no such take is planned. -/
def State.expiryOf (s : State) (d : DSect) : Option Int :=
  match d.slot with
  | none => none
  | some (k, _) =>
    let depth := s.rd RCH_RET_CFG.DEPTH
    let ring := (List.range depth).map (fun i => (s.rd (RCH_RET_PTR.NEXT d.chan) + i) % depth)
    let free := ring.filter (fun i => !((s.chan d.chan).slots.getD i RSlot.empty).held)
    match free.findIdx? (fun i => i == k) with
    | none => none
    | some m => (s.takeTimes d.chan)[m]?

/-- Splits the deep queue into sectors kept and sectors that would start after their expiry, given the times at which engines come free in
quick iterations of 400 ns; `cost` is one deep decode. A sector with no planned overwrite has no expiry. -/
def admitDeep (cost : Nat) (expiry : DSect → Option Int) : List DSect → List Nat → List DSect × List DSect
  | [], _ => ([], [])
  | d :: l, free =>
    let (t, free') := takeLeast cost free
    let out := match expiry d with | none => false | some x => decide (x < 25 * 400 * (t : Int))
    if out then let (k, o) := admitDeep cost expiry l free; (k, d :: o)
    else let (k, o) := admitDeep cost expiry l free'; (d :: k, o)

/-- Admits deep work (R92). With no deep engine in service, waiting trials and deep work go to the re-read rung (R104). -/
def State.deepAdmission (s : State) : State :=
  if s.deepInService.isEmpty then
    let l := s.dec.trialQ ++ s.dec.deepQ
    (s.updDec (fun x => { x with trialQ := [], deepQ := [] })).forEach l (fun d t => t.rung3 d)
  else
    let dm := s.rd DEC_CFG.DEEP_MAX
    let inner := s.rd DEC_CFG.INNER
    let free := s.deepInService.map s.engBusyFor
    let free := s.dec.trialQ.foldl (fun f d => (takeLeast (s.loadQie + 2 * (d.shifts.length - 1)) f).2) free
    let (kept, out) := admitDeep (s.loadQie + inner + (dm - 1) * (2 + inner)) s.expiryOf s.dec.deepQ free
    (s.updDec (fun x => { x with deepQ := kept })).forEach out (fun d t => t.backlogReread d)

/-! ### Re-reads and unrecovered sectors (R97, R98) -/

/-- A sector out of rungs (R98): DEC_UNRECOVERED with the LBA and head, a logbook record; its UNRECOVERED record, with ITER and STEP 0 and
the syndrome weight of its last read (log entry 18), is swept in the next bell, and its command then counts it. -/
def State.unrecovered (s : State) (d : DSect) : State :=
  let t := (s.decBit DEC_STATUS.UNRECOVERED).inc DEC_ERR_CNT.UNRECOVERED
  let t := t.raiseSrc 0x091 { ctx0 with addr := some d.lba, channel := d.head }
  let t := t.logFree 0x0006 0x1FF
  let t : State := { t with sch := { t.sch with unrec := t.sch.unrec + 1 } }
  t.postRec { token := d.token, lba := d.lba, source := d.chan, outcome := 10, iter := 0, step := 0, reread := d.rereads,
              head := d.head, dqm := d.dqm, sw := d.sw0, aligned := d.shift != 0 }

/-- One sector that has come to the re-read rung: returned to the scheduler for the next revolution, or unrecovered when no charged
re-read is left or its command's recovery limit stops the ladder before the rung (R93, R97, R98). -/
def State.scheduleReread (s : State) (d : DSect) (charged : Bool) : State :=
  match s.sec? d.token, s.cmd? (tokTag d.token) with
  | some w, some c =>
    if w.st ≠ .decoding then s
    else if c.dropped then s.updSec d.token (fun w => { w with st := .failed })
    else if !charged then s.updSec d.token (fun w => { w with st := .todo, again := true })
    else if s.limitOf d.token = 0 ∧ d.rereads < s.rd DEC_RETRY_CFG.REREAD_MAX then
      (s.updSec d.token (fun w => { w with st := .todo, again := true, rereads := d.rereads + 1 })).inc DEC_REREAD_CNT.CHARGED
    else s.unrecovered d
  | _, _ => s

/-- Every sector at the re-read rung is scheduled. -/
def State.scheduleRereads (s : State) : State :=
  let l := s.dec.rereadQ
  (s.updDec (fun x => { x with rereadQ := [] })).forEach l (fun e t => t.scheduleReread e.1 e.2)

/-! ### The edge -/

/-- An engine whose EN a glue-up has cleared stops; set again, it starts at SEQ_n_ENTRY (R152). -/
def State.engineStops (s : State) : State :=
  s.forEach (s.allActs.filter (fun a => !s.on (SEQ_CTRL.EN a) && (s.seq a).started)) (fun a t =>
    (t.updSeq a (fun e => { e with started := false, tent := none })).wrs [(SEQ_STATUS.WAITING a, 0), (SEQ_STATUS.RUNNING a, 0)])

/-- With the bell's budget granted, SEQ_n_ENDS counts the ends already planned for the bell after (R132). -/
def State.nextEnds (s : State) : State := s.forEach s.allActs (fun a t => t.showEnds a 1)

/-- What falls at the edge before the completion sweep: the timer, the count, the bell-timed glue-up, the reference, the speed condition, the
heartbeat and the units' counts. -/
def State.edge (s : State) : State :=
  let t := s.timerEdge
  let t : State := { t with bell := (t.bell + 1) % 2 ^ 48 }
  let t := t.bellGlue.engineStops.trefEdge.speedEdge.loadEdge.beatEdge.bellPins.unitEdges
  t.anchorShort.idleTick

/-- BELL_EDGE: one edge of the bell timer, outside reset (R13). `swept` is the number of records that the completion sweep takes by its
deadline (R14). -/
def execBellEdge (swept : Nat) (s : State) : Res :=
  .next (
    if s.sys.inReset then s
    else
      let t := s.edge.grantBudget.nextEnds
      (((t.sweep swept).deepAdmission).scheduleRereads).dispatchDeep)

/-- COLLECT_LATE: a sweep not finished by 600 ns has left records in their slots (R14). -/
def execCollectLate (s : State) : Res :=
  .next (if s.dec.unswept.isEmpty then s else (s.decBit DEC_STATUS.COLLECT_LATE).raise0 0x093)

end Sys2Proof.Machine
end

