-- ==== Sys2Proof/Machine/Buffer.lean ====
section
/-! DEFINITION. Meanings of the buffer crossbar and SRAM commands (chapter 10). -/

namespace Sys2Proof.Machine
open Reg

/-- XBAR_READ_BURST: a port reads 1 to 16 beats of one page (R226, R229, R232). `upsets` are array bits found inverted,
by byte of the burst (log entry 12). -/
def execXbarReadBurst (port : Fin 16) (chan : Byte) (page : Fin 16384) (beat : Fin 128) (beats : Nat)
    (upsets : List (Nat × Nat)) (s : State) : Res :=
  if beats = 0 ∨ 16 < beats ∨ 128 < beat.val + beats then .fault .impossibleBurst
  else
    let k := s.frameOf page.val * 4096 + 32 * beat.val
    let t := s.updMem (fun m => m.flipAll ((upsets.filter (fun u => decide (u.1 < 32 * beats))).map (fun u => (k + u.1, u.2))))
    let (t, r) := t.readPage port.val chan.toNat page.val (32 * beat.val) (32 * beats)
    .next (t.emit (.xbarResp r.data (byteMask ((List.range r.ue.length).filter (fun i => r.ue.getD i false))) r.err))

/-- The enabled bytes of a write burst, each with its offset in the burst. -/
def enabledBytes : Nat → List (Option Byte) → List (Nat × Byte)
  | _, [] => []
  | k, none :: l => enabledBytes (k + 1) l
  | k, some b :: l => (k, b) :: enabledBytes (k + 1) l

/-- XBAR_WRITE_BURST: a port writes the enabled bytes of 1 to 16 beats and gets one response (R226, R230). -/
def execXbarWriteBurst (port : Fin 16) (page : Fin 16384) (beat : Fin 128) (data : List (Option Byte)) (s : State) : Res :=
  let beats := data.length / 32
  if data.length % 32 ≠ 0 ∨ beats = 0 ∨ 16 < beats ∨ 128 < beat.val + beats then .fault .impossibleBurst
  else if (s.pageInfo page.val).retired || !s.mayAccess port.val page.val true then
    .next ((s.accessError port.val page.val beat.val).emit (.xbarResp [] 0 true))
  else
    let k := s.frameOf page.val * 4096 + 32 * beat.val
    let t := s.updMem (fun m => (enabledBytes 0 data).foldl (fun m e => m.store (k + e.1) e.2) m)
    let t := (t.sramInject page.val (32 * beat.val) data.length).1
    .next (t.emit (.xbarResp [] 0 false))

/-- The next walk position after (frame, word): frames that are not retired, words in order; true when a pass ends. -/
def State.scrubNext (s : State) : Nat → Nat → Nat → Nat × Nat × Bool
  | 0, f, w => (f, w, false)
  | fuel + 1, f, w =>
    if w < 127 then (f, w + 1, false)
    else if f = 16383 then
      (if s.mem.retFrames.contains 0 then
         (match s.scrubNext fuel 0 127 with | (g, v, _) => (g, v, true))
       else (0, 0, true))
    else if s.mem.retFrames.contains (f + 1) then s.scrubNext fuel (f + 1) 127
    else (f + 1, 0, false)

/-- Scrubs one word: corrected bytes are written back, errors logged and counted (R235). -/
def State.scrubWord (s : State) (frame w : Nat) : State :=
  let k := frame * 4096 + 32 * w
  let es := s.mem.wordErrs k
  let ce := es.filter (fun e => e.2.1 == .corrected)
  let ue := es.filter (fun e => e.2.1 == .bad)
  let ent (l : List (Nat × Ecc × Nat)) (typ : Nat) : ElogEnt :=
    let is := l.map (fun e => e.1)
    { frame := frame, word := w, bytes := byteMask is, synd := (match l with | e :: _ => e.2.2 | [] => 0), typ := typ,
      port := 15, page := (s.pageOfFrame frame).getD 0, plane1 := is.all (fun i => decide (16 ≤ i)), bell := s.bell % 2 ^ 32 }
  let s := if ce.isEmpty then s else
    let t := s.updMem (fun m => ce.foldl (fun m e =>
      let c := m.cell (k + e.1)
      m.store (k + e.1) (eccRead c.1 c.2).1) m)
    ((t.inc MEM_SCRUB_CNT.CE).elogAdd (ent ce 2)).raiseBit MEM_STATUS.SCRUB_CE MEM_INT_EN
  if ue.isEmpty then s
  else ((s.inc MEM_SCRUB_CNT.UE).elogAdd (ent ue 3)).raiseBit MEM_STATUS.SCRUB_UE MEM_INT_EN

/-- SCRUB_READ: with SCRUB_EN set the scrubber reads a queued word, else the next word of its walk (R235). -/
def execScrubRead (upsets : List (Nat × Nat)) (s : State) : Res :=
  if !s.on MEM_CTRL.SCRUB_EN then .next s
  else
    match s.mem.corrQ with
    | (f, w) :: q =>
      let t := s.updMem (fun m => { m with corrQ := q })
      let t := t.updMem (fun m => m.flipAll ((upsets.filter (fun u => decide (u.1 < 32))).map (fun u => (f * 4096 + 32 * w + u.1, u.2))))
      .next (if t.mem.retFrames.contains f then t else t.scrubWord f w)
    | [] =>
      let f := s.rd MEM_SCRUB_STAT.FRAME
      let w := s.rd MEM_SCRUB_STAT.WORD
      let t := s.updMem (fun m => m.flipAll ((upsets.filter (fun u => decide (u.1 < 32))).map (fun u => (f * 4096 + 32 * w + u.1, u.2))))
      let t := if t.mem.retFrames.contains f then t else t.scrubWord f w
      let (f', w', pass) := t.scrubNext 16384 f (if t.mem.retFrames.contains f then 127 else w)
      let t := t.wrs [(MEM_SCRUB_STAT.FRAME, f'), (MEM_SCRUB_STAT.WORD, w')]
      .next (t.when pass (fun t => t.inc MEM_SCRUB_STAT.PASSES))

/-- MEM_RETIRE_FRAME: GO in MEM_RETIRE_CMD with KIND 0 (R237). -/
def execMemRetireFrame (frame : Fin 16384) (s : State) : Res :=
  let t := s.wrs [(MEM_RETIRE_CMD.FRAME, frame.val), (MEM_RETIRE_CMD.KIND, 0), (MEM_RETIRE_CMD.GO, 0)]
  .next ((t.retireFrame frame.val).showRetire)

/-- MEM_RETIRE_BANK: GO in MEM_RETIRE_CMD with KIND 1 retires the 512 frames of the bank (R238). -/
def execMemRetireBank (bank : Fin 32) (s : State) : Res :=
  let t := s.wrs [(MEM_RETIRE_CMD.BANK, bank.val), (MEM_RETIRE_CMD.KIND, 1), (MEM_RETIRE_CMD.GO, 0)]
  if bitOf (t.reg MEM_BANK_RETIRED).toNat bank.val || t.mem.banks.contains bank.val then .next t
  else
    let t := t.updMem (fun m => { m with banks := m.banks ++ [bank.val] })
    .next ((t.forEach (List.range 512) (fun r t => t.retireFrame (32 * r + bank.val))).showRetire)

/-- Copies a page's cells to another frame, poisoning uncorrectable bytes (R237, R231). -/
def MemU.copyFrame (m : MemU) (src dst : Nat) : MemU :=
  (List.range 4096).foldl (fun m i =>
    let c := m.cell (src * 4096 + i)
    let r := eccRead c.1 c.2
    let m := m.store (dst * 4096 + i) r.1
    if r.2.1 = .bad then m.flip (dst * 4096 + i) poisonFlips else m) m

/-- The words of a frame that hold an uncorrectable byte, each with the mask of its bytes. -/
def MemU.badWords (m : MemU) (frame : Nat) : List (Nat × List (Nat × Ecc × Nat)) :=
  (List.range 128).filterMap (fun w =>
    let l := (m.wordErrs (frame * 4096 + 32 * w)).filter (fun e => e.2.1 == .bad)
    if l.isEmpty then none else some (w, l))

/-- MIGRATION: the first waiting region page moves to the highest-numbered FREE page whose frame is in no bank being
retired; the donor page becomes RETIRED with the old frame (R237). With no donor the migration goes on waiting. -/
def execMigration (s : State) : Res :=
  match s.mem.migQ with
  | [] => .next s
  | p :: q =>
    match ((s.mem.free.filter (fun d => !s.mem.banks.contains (s.frameOf d % 32))).foldl
        (fun a d => match a with | none => some d | some e => some (max d e)) none) with
    | none => .next s.showRetire
    | some d =>
      let old := s.frameOf p
      let new := s.frameOf d
      let bad := s.mem.badWords old
      let t := s.forEach bad (fun e t =>
        t.elogAdd { frame := old, word := e.1, bytes := byteMask (e.2.map (fun x => x.1)),
                    synd := (match e.2 with | x :: _ => x.2.2 | [] => 0), typ := 6, port := 15, page := p,
                    plane1 := e.2.all (fun x => decide (16 ≤ x.1)), bell := t.bell % 2 ^ 32 })
      let t := t.updMem (fun m => { m.copyFrame old new with
        frameOf := sparseSet d (sparseSet p m.frameOf p new) d old, migQ := q, free := m.free.filter (fun x => x != d) })
      let t := t.updPage p (fun x => { x with rp := false })
      let t := t.updPage d (fun _ => { PageInfo.blank with retired := true })
      .next ((t.frameRetired old).showRetire)

/-- MEM_ALLOC: a firmware ALLOC of COUNT pages; COUNT 0 is refused, and too few pages or blocks refuse it with SHORT
(R239, R245). -/
def execMemAlloc (w : Initiator) (tag : BitVec 14) (count : BitVec 11) (s : State) : Res :=
  if !s.mayWrite w then .next s else
  let t := s.wrs [(MEM_PAGE_CMD.TAG, tag.toNat), (MEM_PAGE_CMD.COUNT, count.toNat), (MEM_PAGE_CMD.OP, 0), (MEM_PAGE_CMD.GO, 0)]
  let bad (t : State) (short : Nat) : State :=
    t.wrs [(MEM_PAGE_RESP.DONE, 0), (MEM_PAGE_RESP.REFUSED, 1), (MEM_PAGE_RESP.SHORT, short)]
  if count.toNat = 0 ∨ 1024 < count.toNat then .next ((bad t 0).refuseW w MEM_PAGE_CMD 1)
  else
    match t.allocPages tag.toNat count.toNat with
    | none => .next ((bad t 1).refuseW w MEM_PAGE_CMD 3)
    | some u =>
      let b := ((u.pageMap? tag.toNat).map (fun m => m.blocks.getD 0 0)).getD 0
      .next (u.wrs [(MEM_PAGE_RESP.BLOCK, b), (MEM_PAGE_RESP.DONE, 1), (MEM_PAGE_RESP.REFUSED, 0), (MEM_PAGE_RESP.SHORT, 0)])

/-- MEM_RELEASE: returns every page of a tag (R239). -/
def execMemRelease (tag : BitVec 14) (s : State) : Res :=
  let t := s.wrs [(MEM_PAGE_CMD.TAG, tag.toNat), (MEM_PAGE_CMD.OP, 1), (MEM_PAGE_CMD.GO, 0)]
  .next ((t.releasePages tag.toNat).wrs
    [(MEM_PAGE_RESP.DONE, 1), (MEM_PAGE_RESP.REFUSED, 0), (MEM_PAGE_RESP.SHORT, 0)])

/-- The error count of a plane has reached PLANE_LIMIT in frames of at least two banks (R243). -/
def State.planeLimit (s : State) (p : Nat) : Bool :=
  let l := (s.mem.planeErr.filter (fun e => e.1 == p)).map (fun e => e.2)
  decide (s.rd MEM_PLANE_CFG.PLANE_LIMIT ≤ l.length) && l.any (fun b => l.any (fun c => b != c))

/-- Fences a crossbar plane; a fault on the surviving plane raises MEM_XBAR (R243). -/
def State.fencePlane (s : State) (p : Fin 2) (injected : Bool) : State :=
  let other : Fin 2 := if p = 0 then 1 else 0
  let x : RaiseCtx := { ctx0 with detail := p.val, injected := injected }
  if s.isFenced (.plane p) then s
  else if s.isFenced (.plane other) then s.raiseSrc 0x173 x
  else
    let t := s.markFenced (.plane p)
    let t := t.clr (if p = 0 then MEM_PLANE_STAT.P0_OK else MEM_PLANE_STAT.P1_OK)
    let t := t.setB RCH_RET_STAT.PLANE_CAUSE
    (t.raiseBit MEM_STATUS.PLANE_FENCE MEM_INT_EN).raiseSrc 0x172 x

/-- PLANE_FENCE: control parity failed on a plane, or its error count has reached the limit (R243). -/
def execPlaneFence (p : Fin 2) (parity : Bool) (s : State) : Res :=
  let inj := s.armedAt 8 (fun a => a == p.val)
  let parity := parity || inj.isSome
  if !parity && !s.planeLimit p.val then .next s
  else
    let t := s.when inj.isSome State.injDone
    let t := t.when parity (fun t => t.elogAdd
      { frame := 0, word := 0, bytes := 0, synd := 0, typ := 5, port := 15, page := 0, plane1 := p == 1,
        bell := t.bell % 2 ^ 32 })
    .next (t.fencePlane p inj.isSome)

/-- ELOG_POP: reading MEM_ELOG_DATA3 answers its word and removes the oldest entry (R234). -/
def execElogPop (s : State) : Res :=
  let v := match s.mem.elog with | [] => elogIdle | e :: _ => e.value
  .next ((s.emit (.regRead (BitVec.ofNat 32 (v / 2 ^ 96)))).updMem (fun m => { m with elog := m.elog.drop 1 }))

end Sys2Proof.Machine
end

