-- ==== Sys2Proof/Machine/Decoder.lean ====
section
/-! DEFINITION. Meanings of the decoder pool's commands (chapter 04): quick and deep engines, re-alignment trials, the
payload checks and the trace FIFO. -/

namespace Sys2Proof.Machine
open Reg

/-! ### Payload checks (R88) -/

/-- The outcomes of a converged payload, as collector codes: 2 CONVERGED, 6 UNWRITTEN, 7 MISPLACED, 8 CRC_FAIL. -/
def State.payloadOutcome (s : State) (d : DSect) (payload : List Byte) : Nat :=
  let tag := leValue ((payload.drop 4096).take 8)
  let z := s.zone (lbaZone s.sys.cfg d.lba)
  let conv := zoneConv s.sys.cfg (lbaZone s.sys.cfg d.lba)
  let kind := bitsOf tag 43 40
  if leValue ((payload.drop 4104).take 4) ≠ (crc32c (payload.take 4104)).toNat then 8
  else if 2 ≤ kind then (if conv && kind != 2 then 6 else 7)
  else if !conv && bitsOf tag 63 48 != z.gen then 7
  else if bitsOf tag 39 0 ≠ d.lba then 7
  else 2

/-- The crossbar port of an engine (R85). -/
def enginePort (e : Nat) : Nat := if e < 16 ∨ e = 32 ∨ e = 33 then 9 else 10

/-- The engine writes the sector's data to its page; zeros when it is UNWRITTEN (R89, R88). -/
def State.deliver (s : State) (e : Nat) (d : DSect) (outcome : Nat) (payload : List Byte) : State :=
  match s.sectorPage (tokTag d.token) (tokIdx d.token) with
  | none => s
  | some p => (s.writePage (enginePort e) p 0 (if outcome = 6 then List.replicate 4096 0 else payload.take 4096)).1

/-! ### Ends of jobs -/

/-- The collector record of an engine. -/
def engRec (e : Nat) (d : DSect) (outcome iter step sw : Nat) : CRec :=
  { token := d.token, lba := d.lba, source := 28 + e, outcome := outcome, iter := iter, step := step, reread := d.rereads,
    head := d.head, dqm := d.dqm, sw := sw, aligned := d.shift != 0 }

/-- The engine becomes idle (R87). -/
def State.engIdle (s : State) (e : Nat) : State :=
  let t := s.updEng e (fun g => { g with job := none, iter := 0, dropping := false, idleSince := s.dec.clock })
  (t.updDec (fun x => { x with clock := x.clock + 1 })).wrs [(DEC_ESTATUS.BUSY e, 0), (DEC_ESTATUS.CUR_ITER e, 0)]

/-- A deep engine ends its job: a deep decode that a trial suspended resumes (R94), else it takes its next work. -/
def State.deepFree (s : State) (e : Nat) : State :=
  match (s.eng e).suspended with
  | some (d, it) =>
    let t := s.updEng e (fun g => { g with
      job := some (d, .deep), iter := it, limit := s.rd DEC_CFG.DEEP_MAX, suspended := none, dropping := false, local1 := g.local2,
      local2 := LocalBuf.empty })
    (t.wr (DEC_ESTATUS.CUR_ITER e) it).showDeep
  | none => (s.engIdle e).dispatchDeep

/-- Where a sector whose quick decode has failed goes next (R93, R94): deep decoding, at the trial's shift after a trial;
the re-read rung when it was not retained. -/
def State.afterQuick (s : State) (d : DSect) : State :=
  if d.slot.isNone then (s.releaseBuf d.buf).rung3 { d with buf := none }
  else s.rung2 d (if d.fromTrial then d.shift else 0)

/-- A sector goes directly to re-alignment (R87): SW0 ≥ SW_ALIGN with ALIGN_EN set, and its slot retained. -/
def State.goesToAlign (s : State) (d : DSect) : Bool :=
  !d.fromTrial && decide (s.rd DEC_CFG.SW_ALIGN ≤ d.sw0) && s.on DEC_CFG.ALIGN_EN && d.slot.isSome

/-- QUICK_DECODE_START: a sector that goes directly to re-alignment leaves its buffer, whoever waits before it; else the sector that has waited
longest starts on the quick engine idle longest (R87). A quick engine whose collector slot is full takes none (R100). -/
def execQuickDecodeStart (s : State) : Res :=
  .next (
    match s.dec.waiting.find? s.goesToAlign with
    | some d => (s.updDec (fun x => { x with waiting := x.waiting.erase d })).rung1 d
    | none =>
      match s.dec.waiting with
      | [] => s
      | d :: l =>
        let free := (s.quickInService).filter (fun e =>
          (s.eng e).job.isNone && decide ((sparseGet [] s.dec.slots (28 + e)).length < 8))
        match free with
        | [] => s
        | e0 :: es =>
          let e := es.foldl (fun a e => if (s.eng e).idleSince < (s.eng a).idleSince then e else a) e0
          (s.updDec (fun x => { x with waiting := l })).startJob e d .quick s.dec.quickMax)

/-- A payload check outcome that continues the ladder sets its status and counter (R88). -/
def State.checkFail (s : State) (outcome : Nat) : State :=
  if outcome = 8 then (s.decBit DEC_STATUS.CRC_FAIL).inc DEC_ERR_CNT.CRC_FAIL
  else (s.decBit DEC_STATUS.MISPLACED).inc DEC_ERR_CNT.MISPLACED

/-- The 4,112 payload bytes of a codeword's hard decisions (R35). -/
def payloadOf (word : Nat) : List Byte := leBytes 4112 (word % 2 ^ 32896)

/-- Stored bits of an LLR buffer found inverted break the parity of a 64-bit word that holds an odd number of them (R86). -/
def parityBroken (flips : List Nat) : Bool := flips.any (fun f => (flips.filter (fun g => g / 64 == f / 64)).length % 2 == 1)

/-- QUICK_ITERATION_END: `word` holds the hard decisions on the 37,120 codeword bits after the iteration, `flips` the stored bits of the LLR
buffer that were found inverted (R84, R85, R86, R88). -/
def execQuickIterationEnd (e : Fin 32) (word : BitVec 37120) (flips : List (BitVec 18)) (s : State) : Res :=
  let sw := syndromeWeight word.toNat
  let payload := payloadOf word.toNat
  let parityErr := parityBroken (flips.map (fun f => f.toNat))
  .next (
    match (s.eng e).job with
    | some (d, .quick) =>
      let g := s.eng e
      let it := g.iter + 1
      let s := (s.updEng e (fun g => { g with iter := it })).inc (DEC_ITER_CNT.ITERS e)
      let s := s.wr (DEC_ESTATUS.CUR_ITER e) it
      let step := if d.fromTrial then 1 else 0
      if g.dropping then
        -- A running quick decode finishes and reports DROPPED (R103).
        if parityErr || (decide (sw = 0) && s.on DEC_CFG.EARLY_STOP) || decide (g.limit ≤ it) then
          ((s.postRec (engRec e d 9 it step sw)).releaseBuf d.buf).engIdle e
        else s
      else if parityErr then
        let inj := s.armedAt 6 (fun a => d.buf == some a)
        let t := if inj.isSome then s.injDone else s
        let t := (t.decBit DEC_STATUS.LLR_PARITY).raiseSrc 0x090
          { ctx0 with detail := d.buf.getD 0, injected := inj.isSome }
        if d.slot.isNone then ((t.engIdle e).releaseBuf d.buf).rung3 { d with buf := none }
        else (t.engIdle e).rung2 d d.shift
      else if sw = 0 ∧ (s.on DEC_CFG.EARLY_STOP ∨ g.limit ≤ it) then
        let o := s.payloadOutcome d payload
        let t := s.deliver e d o payload
        let t := t.postRec (engRec e d o it step 0)
        if o = 2 ∨ o = 6 then
          let t := (t.inc (DEC_SECT_CNT.CONVERGED e)).when (!d.fromTrial) (fun t => t.inc DEC_CONV_CNT.CNT)
          (t.releaseBuf d.buf).engIdle e
        else (((t.inc (DEC_SECT_CNT.FAILED e)).checkFail o).engIdle e).afterQuick d
      else if g.limit ≤ it then
        let t := (s.postRec (engRec e d 3 it step sw)).inc (DEC_SECT_CNT.FAILED e)
        (t.engIdle e).afterQuick d
      else s
    | _ => s)

/-- Copies the slot of a sector into the first local sample buffer of engine `e` through its port; the hold ends (R73, R85, R95). -/
def State.loadSlot (s : State) (e : Nat) (d : DSect) : State :=
  match d.slot with
  | none => s
  | some (i, _) =>
    let x := s.slotOf d.chan i
    let bytes := x.samples * sampleWidth (if bitOf x.flags 7 then 1 else if bitOf x.flags 8 then 2 else 3)
    let r := s.readBuf (enginePort e) d.chan 22 (4096 * s.slotPage d.chan i) bytes
    (r.1.updEng e (fun g => { g with local1 := { desc := x, samples := r.2.data } })).unhold d

/-- Re-detection from the local sample buffer at a shift (R75): the LLRs are kept in the engine. -/
def State.replay (s : State) (e : Nat) (d : DSect) : State :=
  let b := (s.eng e).local1
  s.updEng e (fun g => { g with llrs := s.sectorLlrs d.chan b.desc b.samples d.shift })

/-- The end of one trial (R94): the first below SW_ALIGN ends the rung and its LLRs take a buffer; no free buffer sends the sector to deep
decoding at that shift; no shift left sends it there at shift 0, MISALIGNED. -/
def State.trialEnd (s : State) (n : Nat) (d : DSect) : State :=
  let s := (s.replay n d).inc DEC_ALIGN_CNT.TRIALS
  let llrs := (s.eng n).llrs
  let sw := syndromeWeight (hardBits llrs)
  if (s.eng n).dropping then (s.postRec (engRec n d 9 0 1 sw)).deepFree n
  else if sw < s.rd DEC_CFG.SW_ALIGN then
    let t := s.inc DEC_ALIGN_CNT.OK
    match t.freeBuf with
    | none => ((t.decBit DEC_STATUS.LLR_FULL).rung2 d d.shift).deepFree n
    | some b =>
      ((t.fillBuf (some b) d.token llrs).updDec (fun x =>
        { x with waiting := x.waiting ++ [{ d with buf := some b, fromTrial := true, sw0 := sw }] })).deepFree n
  else match d.shifts with
    | [] => ((s.postRec (engRec n d 5 0 1 sw)).rung2 d 0).deepFree n
    | sh :: rest => s.updEng n (fun g => { g with job := some ({ d with shift := sh, shifts := rest }, .trial) })

/-- REALIGN_TRIAL_END: the first trial has loaded the slot, for whose hold it waited; each later one runs from the local buffer (R94, R73). A
slot that no longer holds the sector sends it to the re-read rung (R93). -/
def execRealignTrialEnd (e : Fin 4) (s : State) : Res :=
  let n := 32 + e.val
  .next (
    match (s.eng n).job with
    | some (d, .trialLoad) =>
      if (s.eng n).dropping then ((s.unhold d).postRec (engRec n d 9 0 1 d.sw0)).deepFree n
      else if !s.slotHolds d then ((s.unhold d).rung3 d).deepFree n
      else if s.slotHeld d then (s.loadSlot n d).trialEnd n d
      else s
    | some (d, .trial) => s.trialEnd n d
    | _ => s)

/-- DEEP_SLOT_LOAD_END: the slot and its first detector pass are in the engine; the hold, for which the load waited, is released. A slot that
no longer holds the sector is re-read as a backlog re-read (R95, R96). -/
def execDeepSlotLoadEnd (e : Fin 4) (s : State) : Res :=
  let n := 32 + e.val
  .next (
    match (s.eng n).job with
    | some (d, .deepLoad) =>
      if (s.eng n).dropping then ((s.unhold d).postRec (engRec n d 9 0 2 d.sw0)).deepFree n
      else if !s.slotHolds d then ((s.unhold d).backlogReread d).deepFree n
      else if s.slotHeld d then
        ((s.loadSlot n d).replay n d).updEng n (fun g => { g with job := some (d, .deep) })
      else s
    | _ => s)

/-- At an outer-iteration boundary a pending trial interleaves into the running deep decode (R94). -/
def State.interleave (s : State) (n : Nat) : State :=
  match (s.eng n).job, s.dec.trialQ, (s.eng n).suspended with
  | some (d, .deep), x :: l, none =>
    if s.slotHolds x then
      let it := (s.eng n).iter
      let t := s.updEng n (fun g => { g with job := none, suspended := some (d, it), local2 := g.local1 })
      ((t.updDec (fun y => { y with trialQ := l })).startTrial n x).showDeep
    else s
  | _, _, _ => s

/-- DEEP_OUTER_ITERATION_END: `word` holds the hard decisions after the outer iteration (R84, R95). -/
def execDeepOuterIterationEnd (e : Fin 4) (word : BitVec 37120) (s : State) : Res :=
  let n := 32 + e.val
  let sw := syndromeWeight word.toNat
  let payload := payloadOf word.toNat
  .next (
    match (s.eng n).job with
    | some (d, .deep) =>
      let g := s.eng n
      let it := g.iter + 1
      let s := (s.updEng n (fun g => { g with iter := it })).inc (DEC_ITER_CNT.ITERS n)
      let s := s.wr (DEC_ESTATUS.CUR_ITER n) it
      if g.dropping then (s.postRec (engRec n d 9 it 2 sw)).deepFree n
      else if sw = 0 ∧ (s.on DEC_CFG.EARLY_STOP ∨ g.limit ≤ it) then
        let o := s.payloadOutcome d payload
        let t := s.deliver n d o payload
        let t := t.postRec (engRec n d o it 2 0)
        if o = 2 ∨ o = 6 then ((t.inc (DEC_SECT_CNT.CONVERGED n)).inc DEC_DEEP_CNT.CONVERGED).deepFree n
        else ((((t.inc (DEC_SECT_CNT.FAILED n)).inc DEC_DEEP_CNT.FAILED).checkFail o).rung3 d).deepFree n
      else if g.limit ≤ it then
        let t := ((s.postRec (engRec n d 4 it 2 sw)).inc (DEC_SECT_CNT.FAILED n)).inc DEC_DEEP_CNT.FAILED
        (t.rung3 d).deepFree n
      else s.interleave n
    | _ => s)

/-- DEC_TRACE_POP: reading DEC_TRACE_DATA3 answers its word and removes the oldest traced record (R105). -/
def execDecTracePop (s : State) : Res :=
  let v := match s.dec.trace with | [] => 0 | r :: _ => r.value / 2 ^ 96
  .next ((s.emit (.regRead (BitVec.ofNat 32 v))).updDec (fun x => { x with trace := x.trace.drop 1 }))

end Sys2Proof.Machine
end

