-- ==== Sys2Proof/Machine/Quay.lean ====
section
/-! DEFINITION. The Quay fabric (chapter 18): ports, frames received and sent, windows, media requests and the all-or-nothing rule. -/

namespace Sys2Proof.Machine
open Reg

/-! ### Ports (R404, R405, R410) -/

/-- PORT_TRAINING_START: signal on an enabled DOWN port (R404, R405). -/
def execPortTrainingStart (p : QPort) (s : State) : Res :=
  .next (if s.portUsable p && s.rd (QFB_PSTATUS.STATE p) == 1 then s.startTraining p else s)

/-- The first eight bytes of the SHA-384 digest of the own identity key (R410). -/
def State.identityDigest (s : State) : Nat := Config.sha384 (leBytes 96 s.identityKey) % 2 ^ 64

/-- The payload of HELLO on port `p` (R410). -/
def State.helloPayload (s : State) (p : Nat) : List Byte :=
  let w := [0, 1, 2, 4].getD (s.rd (QFB_PSTATUS.WIDTH p)) (s.rd (QFB_PSTATUS.WIDTH p))
  leBytes 8 s.serial ++ leBytes 2 (s.rd QFB_ADDR.ADDR + 32768 * s.rd QFB_ADDR.VALID) ++ leBytes 1 p ++ leBytes 1 w ++
  leBytes 8 s.identityDigest ++ List.replicate 12 0

/-- Records a neighbour's HELLO: a digest that differs from the last one at its serial, or a serial at an address where another was seen,
is a new peer (R410). -/
def State.noteHello (s : State) (p : Nat) (h : QHello) : State :=
  let sn := h.serial.toNat
  let dg := h.digest.toNat
  let a := h.addr.toNat
  let digestNew := match s.qfb.seenSerial.find? (fun e => e.1 == sn) with | some e => e.2 != dg | none => false
  let addrNew := h.valid && (match s.qfb.seenAddr.find? (fun e => e.1 == a) with | some e => e.2.1 != sn | none => false)
  let t := s.wrs [(QFB_PEER.ADDR p, a), (QFB_PEER.VALID p, b2n h.valid), (QFB_PEER_SN_LO.SN p, sn), (QFB_PEER_SN_HI.SN p, sn / 2 ^ 32)]
  let t := t.updQport p (fun u => { u with nbr := some (sn, dg) })
  let t := t.updQfb (fun q => { q with
    seenSerial := sparseSet (2 ^ 64) q.seenSerial sn dg,
    seenAddr := if h.valid then sparseSet (2 ^ 64, 0) q.seenAddr a (sn, dg) else q.seenAddr })
  t.when (digestNew || addrNew) (fun t => (t.qportBit p QFB_PSTATUS.PEER_NEW).logFree 0x000E 0x1FF)

/-- PORT_UP: training is complete at 1, 2 or 4 lanes (`width` 0 to 2) and HELLO has been exchanged; the sender grants itself the neighbour's
class allotment (R404, R405, R417). -/
def execPortUp (p : QPort) (width : Fin 3) (laneMap : BitVec 16) (fix : Bool) (hello : QHello) (c0 c1 c2 : BitVec 8) (s : State) : Res :=
  .next (
    if !s.portUsable p || s.rd (QFB_PSTATUS.STATE p) != 2 || decide (width.val < s.rd (QFB_PCTRL.MIN_WIDTH p)) then s
    else
      let t := s.wrs [(QFB_PSTATUS.WIDTH p, 2 ^ width.val), (QFB_PSTATUS.LANE_MAP p, laneMap.toNat)]
      let t := t.qCtl p 0x10 (t.helloPayload p)
      let t := t.wr (QFB_PSTATUS.STATE p) 3
      let t := t.when fix (fun t => t.qportBit p QFB_PSTATUS.LANE_FIX)
      let t := t.when (decide (width.val < 2)) (fun t => t.raiseSrc (0x1E0 + p.val) { ctx0 with detail := 2 ^ width.val })
      let t := t.updQport p (fun u => { u with
        credits := [c0.toNat, c1.toNat, c2.toNat], freed := [0, 0, 0], everUp := true, lastRx := s.sys.time, lastTx := s.sys.time })
      ((t.noteHello p hello).originateLsa).qPumpAll)

/-- TRAIN_FAIL: 10 ms without completion; the third failure within 1 s after the port has once been UP fences it (R405). -/
def execTrainFail (p : QPort) (s : State) : Res :=
  .next (
    if s.rd (QFB_PSTATUS.STATE p) ≠ 2 then s
    else
      let now := s.sys.time
      let recent := (s.qport p).fails.filter (fun x => decide (now < x + unitsPerSecond)) ++ [now]
      let t := ((s.wr (QFB_PSTATUS.STATE p) 1).qportBit p QFB_PSTATUS.TRAIN_FAIL).updQport p (fun u => { u with fails := recent })
      if (s.qport p).everUp && decide (3 ≤ recent.length) then (t.raiseSrc (0x1E4 + p.val) { ctx0 with detail := p.val }).fenceQuay p else t)

/-- LINK_LOST: no valid frame for LOSS_TIME, or the port has been disabled (R405, R411, R427). -/
def execLinkLost (p : QPort) (s : State) : Res :=
  .next (
    let st := s.rd (QFB_PSTATUS.STATE p)
    let off := !s.on (QFB_PCTRL.EN p) || !s.on QFB_CFG.EN
    if st = 3 then
      if off || decide ((s.qport p).lastRx + s.rd QFB_TIMER_CFG.LOSS_TIME * usUnits ≤ s.sys.time) then s.loseLink p 1 else s
    else if st = 2 ∧ off then s.wr (QFB_PSTATUS.STATE p) 1
    else s)

/-- QFB_RETRAIN: RETRAIN returns an UP port to TRAINING and clears (R405). -/
def execQfbRetrain (w : Initiator) (p : QPort) (s : State) : Res :=
  if !s.mayWrite w then .next s else
  .next (
    if !s.portPresent p then s
    else if s.rd (QFB_PSTATUS.STATE p) = 3 then (s.loseLink p 2).startTraining p else s)

/-! ### Reception (R409, R411, R417, R418) -/

/-- A frame reaches an UP port: a bad one is discarded and counted; one with a good header restarts the silence timer. -/
def State.recv (s : State) (p : QPort) (chk : FrameCheck) (f : State → State) : State :=
  if s.rd (QFB_PSTATUS.STATE p) ≠ 3 then s
  else
    -- An injection armed at the header check of the port meets the frame (R471).
    let inj := (s.armedAt 12 (fun a => a == p.val)).isSome
    let s := s.when inj State.injDone
    let chk := if inj then FrameCheck.badHeader else chk
    let t := if chk = .badHeader then s else s.updQport p (fun u => { u with lastRx := s.sys.time })
    if chk = .good then f t
    else
      ((t.qportBit p QFB_PSTATUS.CRC_ERR).inc (QFB_PCNT.DISCARDED p)).updQport p (fun u => { u with crcErrs := satU 32 (u.crcErrs + 1) })

/-- Discards and counts a data-class frame. -/
def State.discardFrame (s : State) (p cls : Nat) : State := (s.inc (QFB_PCNT.DISCARDED p)).freeSlot p cls

/-- Abandons the inbound transfer of a frame after a gap in the sequence (R418, R425); a RESULT with RETRY tells the initiator of a write
(DEDUCED, log entry 158). -/
def State.gapIn (s : State) (h : QHdr) : State :=
  match s.qfb.ins.find? (fun x => x.src == h.src.toNat && x.xid == h.xid.toNat && x.isOpen) with
  | some x =>
    let t := s.dropXin x
    if x.ask.isRead then t else t.qResult h.src.toNat h.cls.toNat h.xid.toNat 0 true false 0
  | none => s

/-- A data-class frame: relayed toward its destination with TTL less 1, or delivered in order to `f` (R407, R409, R414, R418). Until the
own address is VALID only control frames are accepted (R413). -/
def State.recvData (s : State) (p : QPort) (chk : FrameCheck) (h : QHdr) (typ : Nat) (payload : List Byte) (f : State → State) : State :=
  s.recv p chk (fun s =>
    let c := h.cls.toNat
    if 3 ≤ c ∨ !s.on QFB_ADDR.VALID then s.discardFrame p c
    else if h.dst.toNat ≠ s.rd QFB_ADDR.ADDR then
      if h.ttl.toNat = 0 ∨ (s.route? h.dst.toNat).isNone then s.discardFrame p c
      else
        s.qQueue { typ := typ, cls := c, ttl := h.ttl.toNat - 1, dst := h.dst.toNat, src := h.src.toNat, seq := h.seq.toNat,
                   xid := h.xid.toNat, ofs := h.ofs.toNat, payload := payload } (some p.val)
    else
      let k := h.src.toNat * 4 + c
      let want := sparseGet 0 s.qfb.recvSeq k
      let t := s.updQfb (fun q => { q with recvSeq := sparseSet 0 q.recvSeq k ((h.seq.toNat + 1) % 65536) })
      if h.seq.toNat = want then (f t).freeSlot p c else (t.gapIn h).discardFrame p c)

/-- The inbound transfer of a frame. -/
def State.xin? (s : State) (h : QHdr) : Option XIn := s.qfb.ins.find? (fun x => x.src == h.src.toNat && x.xid == h.xid.toNat)
/-- Updates an inbound transfer. -/
def State.updXin (s : State) (src xid : Nat) (f : XIn → XIn) : State :=
  s.updQfb (fun q => { q with ins := q.ins.map (fun x => if x.src = src ∧ x.xid = xid then f x else x) })
/-- The outbound transfer that a frame belongs to. -/
def State.xoutOf (s : State) (h : QHdr) : Option XOut := s.qfb.outs.find? (fun x => x.xid == h.xid.toNat && x.dst == h.src.toNat)
/-- Answers a frame with a RESULT. -/
def State.qAnswer (s : State) (h : QHdr) (status : Nat) (retry noXfer : Bool) (lba : Nat) : State :=
  s.qResult h.src.toNat h.cls.toNat h.xid.toNat status retry noXfer lba
/-- Sends DONE. -/
def State.qDone (s : State) (dst cls xid : Nat) : State := s.qSend dst cls 0x04 xid 0 []

/-- The source may use windows and media requests (R421, R422). -/
def State.allowed (s : State) (src : Nat) : Bool := bitOf (s.rd (QFB_ALLOW.MASK (src / 32))) (src % 32)

/-- The window that holds a whole range of peer buffer addresses and permits the access (R421). -/
def State.windowFor (s : State) (write : Bool) (a n : Nat) : Option Nat :=
  (List.range 16).find? (fun w =>
    let lo := 4096 * s.rd (QFB_WIN_BASE.BASE w)
    let pages := s.rd (QFB_WIN_CFG.PAGES w)
    s.on (if write then QFB_WIN_CFG.WRITE w else QFB_WIN_CFG.READ w) && decide (0 < pages) && decide (lo ≤ a) && decide (a + n ≤ lo + 4096 * pages) &&
    (match s.pageMap? (s.rd (QFB_WIN_CFG.TAG w)) with | some m => decide ((a + n + 4095 - lo) / 4096 ≤ m.ents.length) | none => false))

/-- Room for one more inbound transfer; a full outcome table shows OUTCOME_FULL (R420, R423). -/
def State.roomIn (s : State) (write : Bool) : State × Bool :=
  if write && decide (256 ≤ s.qfb.outcomes.length) then (s.qfbBit QFB_STATUS.OUTCOME_FULL, false)
  else (s, decide (s.qfb.ins.length < 128))

/-! ### DATA (R423, R424) -/

/-- Staging pages for `n` bytes under the internal tag of an inbound window write; none when the pool has too few (R423). -/
def State.stagePages (s : State) (x : XIn) (n : Nat) : Option State :=
  match x.tag with
  | none => none
  | some tag =>
    let have_ := ((s.pageMap? tag).map (fun m => m.ents.length)).getD 0
    let need := (n + 4095) / 4096
    if need ≤ have_ then some s else s.allocPages tag (need - have_)

/-- A new inbound write to a window, named by its first DATA frame. -/
def State.openWindow (s : State) (h : QHdr) : State × Bool :=
  let (t, ok) := s.roomIn true
  match ok, t.ownTag with
  | true, some tag =>
    let x : XIn := { xid := h.xid.toNat, src := h.src.toNat, cls := h.cls.toNat, ask := .window, data := [], base := none, tag := some tag,
                     last := s.sys.time, committed := false }
    ((t.updQfb (fun q => { q with ins := q.ins ++ [x] })).showXfer, true)
  | _, _ => (t, false)

/-- DATA at the responder: staged in order; without pages the transfer is answered RETRY (R422, R423). -/
def State.dataIn (s : State) (h : QHdr) (payload : List Byte) : State :=
  let (s, ok) := match s.xin? h with | some _ => (s, true) | none => s.openWindow h
  if !ok then s.qAnswer h stBusy true false 0
  else match s.xin? h with
    | none => s
    | some x =>
      match x.ask with
      | .refused _ => s
      | .read _ _ => s
      | .media op _ _ _ =>
        if op = 0 ∨ x.committed ∨ h.ofs.toNat ≠ x.data.length then s
        else s.updXin x.src x.xid (fun x => { x with data := x.data ++ payload, last := s.sys.time })
      | .window =>
        if x.committed ∨ h.ofs.toNat ≠ x.data.length then s
        else match s.stagePages x (x.data.length + payload.length) with
          | none => (s.dropXin x).qAnswer h stBusy true false 0
          | some t => t.updXin x.src x.xid (fun x => { x with data := x.data ++ payload, last := s.sys.time })

/-- DATA: staged by the initiator that asked for it, staged by the responder, or relayed (R423, R424). -/
def execDataFrame (p : QPort) (chk : FrameCheck) (h : QHdr) (payload : List (BitVec 8)) (s : State) : Res :=
  .next (s.recvData p chk h 0x01 payload (fun s =>
    match s.xoutOf h with
    | some x =>
      (match x.work with
       | .lgtRead _ | .pull _ =>
         if x.phase = .running ∧ h.ofs.toNat = x.data.length then
           s.updXout x.xid (fun y => { y with data := y.data ++ payload, last := s.sys.time })
         else s
       | _ => s)
    | none => s.dataIn h payload))

/-! ### COMMIT (R421 to R424) -/

/-- Exchanges entry `i` of page map `a` with entry `j` of page map `b`. -/
def State.swapEnts (s : State) (a i b j : Nat) : State :=
  match (s.pageMap? a).bind (fun m => m.ents[i]?), (s.pageMap? b).bind (fun m => m.ents[j]?) with
  | some x, some y =>
    let t := (s.updMapEnt a i (fun _ => { y with valid := true, deferred := false })).updMapEnt b j (fun _ => x)
    (t.updPage x.page (fun q => { q with owner := some b })).updPage y.page (fun q => { q with owner := some a })
  | _, _ => s

/-- Applies a window write in one step (R421): staging pages take the data and, of the first and last pages, the bytes that lie outside
it; the map entries are switched to them and the old pages are released. None when the pool has too few pages. -/
def State.applyWindow (s : State) (x : XIn) (w base : Nat) : Option State :=
  let o := base - 4096 * s.rd (QFB_WIN_BASE.BASE w)
  let map := s.rd (QFB_WIN_CFG.TAG w)
  let n := x.data.length
  let first := o / 4096
  let pages := (o % 4096 + n + 4095) / 4096
  match x.tag, s.stagePages x (4096 * pages) with
  | some stage, some t =>
    let t := t.forEach (List.range pages) (fun k t =>
      match t.sectorPage map (first + k), t.sectorPage stage k with
      | some old, some new =>
        let r := t.portPage 14 old 4096
        let bytes := r.2.1
        let lo := if k = 0 then o % 4096 else 0
        let part := (x.data.drop (4096 * k - (if k = 0 then 0 else o % 4096))).take (4096 - lo)
        let t := (r.1.writePage 14 new 0 (bytes.take lo ++ part ++ bytes.drop (lo + part.length))).1
        t.swapEnts map (first + k) stage k
      | _, _ => t)
    some (t.releasePages stage)
  | _, _ => none

/-- Enters an outcome and answers with it (R423). -/
def State.recordOutcome (s : State) (x : XIn) (status lba : Nat) : State :=
  let t := s.updQfb (fun q => { q with
    ins := q.ins.filter (fun y => !(y.src == x.src && y.xid == x.xid)),
    outcomes := q.outcomes ++ [{ xid := x.xid, src := x.src, cls := x.cls, status := status, lba := lba,
                                 since := if (s.route? x.src).isSome then some s.sys.time else none }] })
  (t.qResult x.src x.cls x.xid status false false lba).showXfer

/-- COMMIT at the responder: with every byte present and the CRC right it applies, else the staging goes and RETRY is answered; a repeated
one is answered from the outcome entry, an unknown one NO_XFER (R423). `base` is the peer buffer address of a window write's first byte,
which no frame of the manual carries (log entry 46). -/
def State.commitIn (s : State) (h : QHdr) (total crc base : Nat) : State :=
  match s.qfb.outcomes.find? (fun o => o.src == h.src.toNat && o.xid == h.xid.toNat) with
  | some o => s.qAnswer h o.status false false o.lba
  | none =>
    match s.xin? h with
    | none => s.qAnswer h 0 false true 0
    | some x =>
      let good := x.data.length == total && (crc32c x.data).toNat == crc
      match x.ask with
      | .refused st => s.qAnswer h st false false 0
      | .read _ _ => s
      | .media op _ n _ =>
        if op = 0 ∨ x.committed then s
        else if good && total == 4096 * n then s.updXin x.src x.xid (fun x => { x with committed := true })
        else (s.dropXin x).qAnswer h 0 true false 0
      | .window =>
        if !good then (s.dropXin x).qAnswer h 0 true false 0
        else match s.windowFor true base total with
          | none => (s.dropXin x).qAnswer h stNotAllowed false false 0
          | some w =>
            if !s.allowed x.src then (s.dropXin x).qAnswer h stNotAllowed false false 0
            else match s.applyWindow x w base with
              | none => (s.dropXin x).qAnswer h stBusy true false 0
              | some t => t.recordOutcome x 0 0

/-- COMMIT of data that this K4 asked for: checked and applied, then DONE; a failed check restarts the transfer (R424, R425). -/
def State.commitOut (s : State) (x : XOut) (total crc : Nat) : State :=
  if x.phase ≠ .running then s
  else if x.data.length ≠ total ∨ x.total ≠ total ∨ (crc32c x.data).toNat ≠ crc then
    (s.qSend x.dst x.cls 0x05 x.xid 0 []).abandonXout x
  else
    let t := s.qDone x.dst x.cls x.xid
    match x.work with
    | .lgtRead n =>
      (t.updRecs n (List.map (fun (r : LRec) => if r.xfer = some x.xid then { r with applied := true } else r))).updXout x.xid
        (fun y => { y with phase := .inDoubt, last := s.sys.time })
    | .pull tag =>
      let t := t.fillPages 14 tag (total / 4096) x.data
      (t.updCmd tag (fun c => { c with xid := none, stage := 1 })).dropXout x.xid
    | _ => t

/-- COMMIT (R423, R424). -/
def execCommitFrame (p : QPort) (chk : FrameCheck) (h : QHdr) (total crc : BitVec 32) (base : BitVec 36) (s : State) : Res :=
  .next (s.recvData p chk h 0x02 (leBytes 4 total.toNat ++ leBytes 4 crc.toNat) (fun s =>
    match s.xoutOf h with
    | some x => s.commitOut x total.toNat crc.toNat
    | none => s.commitIn h total.toNat crc.toNat base.toNat))

/-! ### RESULT, DONE, CANCEL (R422, R423, R426) -/

/-- RESULT at the initiator (R422 to R425). A RETRY that carries a status asks for the request again (R422); one that carries none answers
a COMMIT (log entry 45). One that answers a frame sent before the transfer was abandoned or refused changes nothing (log entry 158). -/
def State.resultOut (s : State) (x : XOut) (status : Nat) (retry noXfer : Bool) (lba : Nat) : State :=
  if x.phase = .quiet ∨ x.phase = .retryWait then s
  else if noXfer then s.failXout x none
  else if retry then
    if status = 0 then s.abandonXout x
    else s.updXout x.xid (fun y => { y with phase := .retryWait, last := s.sys.time, refused := status,
                                            retryFrom := match y.retryFrom with | some r => some r | none => some s.sys.time })
  else
    let t := s.qDone x.dst x.cls x.xid
    if status ≠ 0 then t.failXout x (some status)
    else match x.work with
      | .lgtWrite n =>
        (t.updRecs n (List.map (fun (r : LRec) => if r.xfer = some x.xid then { r with applied := true } else r))).settleLgt n 4
      | .push tag => ((t.updCmd tag (fun c => { c with xid := none, first := some lba })).dropXout x.xid).cmdEnd tag 0
      | _ => t

/-- RESULT (R423). -/
def execResultFrame (p : QPort) (chk : FrameCheck) (h : QHdr) (status : BitVec 8) (retry noXfer : Bool) (lba : BitVec 40) (s : State) : Res :=
  .next (s.recvData p chk h 0x03 (leBytes 1 status.toNat ++ leBytes 2 (b2n retry + 2 * b2n noXfer) ++ leBytes 5 lba.toNat) (fun s =>
    match s.xoutOf h with
    | some x => s.resultOut x status.toNat retry noXfer lba.toNat
    | none => s))

/-- DONE: the outcome entry is released, and the responder's part of a read ends (R423, R424). -/
def execDoneFrame (p : QPort) (chk : FrameCheck) (h : QHdr) (s : State) : Res :=
  .next (s.recvData p chk h 0x04 [] (fun s =>
    let t := s.updQfb (fun q => { q with outcomes := q.outcomes.filter (fun o => !(o.src == h.src.toNat && o.xid == h.xid.toNat)) })
    let t := match t.xin? h with
      | some x => (match x.ask with
        | .refused _ | .read _ _ => t.dropXin x
        | .media op _ _ _ => if op = 0 then t.dropXin x else t
        | .window => t)
      | none => t
    t.showXfer))

/-- CANCEL: the responder discards the transfer (R426); what has been applied stands. -/
def execCancelFrame (p : QPort) (chk : FrameCheck) (h : QHdr) (s : State) : Res :=
  .next (s.recvData p chk h 0x05 [] (fun s =>
    match s.xin? h with
    | some x => (match x.ask with
      | .media op _ _ _ => if op ≠ 0 ∧ x.committed then s else s.dropXin x
      | _ => s.dropXin x)
    | none => s))

/-! ### Requests (R421, R422) -/

/-- READ_REQ: reads a window as its pages stand and returns the data (R421). -/
def execReadReq (p : QPort) (chk : FrameCheck) (h : QHdr) (a : BitVec 36) (len : BitVec 32) (s : State) : Res :=
  .next (s.recvData p chk h 0x06 (leBytes 8 a.toNat ++ leBytes 4 len.toNat) (fun s =>
    let n := len.toNat
    match s.windowFor false a.toNat n with
    | none => s.qAnswer h stNotAllowed false false 0
    | some w =>
      let (t, ok) := s.roomIn false
      if !t.allowed h.src.toNat ∨ n = 0 ∨ 16777215 < n then t.qAnswer h stNotAllowed false false 0
      else if (t.xin? h).isSome then t
      else if !ok then t.qAnswer h stBusy true false 0
      else
        let o := a.toNat - 4096 * s.rd (QFB_WIN_BASE.BASE w)
        let (t, data, ue) := t.readMap 14 (s.rd (QFB_WIN_CFG.TAG w)) (n / 4096 + 2) o n
        if ue then t.qAnswer h stBufferData false false 0
        else
          let x : XIn := { xid := h.xid.toNat, src := h.src.toNat, cls := h.cls.toNat, ask := .read a.toNat n, data := [], base := none,
                           tag := none, last := s.sys.time, committed := true }
          let t := (t.updQfb (fun q => { q with ins := q.ins ++ [x] })).showXfer
          (t.qSendData x.src x.cls x.xid (n / 512 + 1) 0 data).qCommit x.src x.cls x.xid data))

/-- The entry of a command that runs a media request: FUA set, its RLIMIT (R349, R422). -/
def mediaEntry (op rlimit sectors lba : Nat) : List Byte :=
  leBytes 1 (op + 1) ++ leBytes 1 (rlimit % 4 + 4) ++ List.replicate 14 0 ++ leBytes 8 lba ++ leBytes 4 sectors ++ List.replicate 36 0

/-- MEDIA_REQ: accepted from an allowed source, it becomes a command that takes its locks and pages like any other (R416, R422); without a
transfer entry, or quiesced for an activation, the answer is RETRY. -/
def execMediaReq (p : QPort) (chk : FrameCheck) (h : QHdr) (op : BitVec 8) (rlimit : BitVec 2) (sectors : BitVec 16) (lba : BitVec 40)
    (s : State) : Res :=
  .next (s.recvData p chk h 0x07 (mediaReq op.toNat rlimit.toNat sectors.toNat lba.toNat) (fun s =>
    if (s.xin? h).isSome || s.qfb.outcomes.any (fun o => o.src == h.src.toNat && o.xid == h.xid.toNat) then s
    else if !s.allowed h.src.toNat || s.on SYS_MODE.RESCUE then s.qAnswer h stNotAllowed false false 0
    else
      let (t, ok) := s.roomIn (op.toNat != 0)
      match ok && t.sch.activate.isNone, t.ownTag with
      | true, some tag =>
        let bad := 3 ≤ op.toNat
        let x : XIn := { xid := h.xid.toNat, src := h.src.toNat, cls := h.cls.toNat,
                         ask := if bad then .refused stInvalidField else .media op.toNat rlimit.toNat sectors.toNat lba.toNat,
                         data := [], base := none, tag := if bad then none else some tag, last := s.sys.time, committed := false }
        let t := (t.updQfb (fun q => { q with ins := q.ins ++ [x] })).showXfer
        if bad then t.qAnswer h stInvalidField false false 0
        else
          let c0 := Cmd.init tag (.peer x.src x.xid) (mediaEntry op.toNat rlimit.toNat sectors.toNat lba.toNat)
          let c : Cmd := { c0 with order := t.sch.order, time := t.sys.time, cls := h.cls.toNat + 1 }
          ({ t with cmds := t.cmds ++ [c] } : State).updSch (fun u => { u with order := u.order + 1 })
      | _, _ => t.qAnswer h stBusy true false 0))

/-! ### Control frames (R410 to R412, R417) -/

/-- HELLO: the neighbour is recorded; another serial takes the port back to TRAINING (R405, R410). -/
def execHello (p : QPort) (chk : FrameCheck) (hello : QHello) (s : State) : Res :=
  .next (s.recv p chk (fun s =>
    match (s.qport p).nbr with
    | some (sn, _) => if sn ≠ hello.serial.toNat then (s.loseLink p 2).startTraining p else s.noteHello p hello
    | none => s.noteHello p hello))

/-- HEARTBEAT (R411). -/
def execHeartbeat (p : QPort) (chk : FrameCheck) (s : State) : Res := .next (s.recv p chk id)

/-- LSA: a newer one is stored and forwarded (R412). The database holds 1,024. -/
def execLsa (p : QPort) (chk : FrameCheck) (l : QLsa) (s : State) : Res :=
  .next (s.recv p chk (fun s =>
    let x : Lsa := { origin := l.origin.toNat, addr := l.addr.toNat, assigned := l.assigned, valid := l.valid, seq := l.seq.toNat,
                     nbrs := [l.n0.toNat, l.n1.toNat, l.n2.toNat, l.n3.toNat], time := s.sys.time }
    let take := x.origin != s.serial && (match s.lsaOf x.origin with
      | some o => stampNewer x.seq o.seq
      | none => decide (s.qfb.lsas.length < 1024))
    if take then (((s.inc QFB_CNT.LSAS).storeLsa x).floodLsa x (some p.val)).checkStatic else s))

/-- CREDIT: receive slots of the neighbour are free again (R417). -/
def execCredit (p : QPort) (chk : FrameCheck) (f0 f1 f2 : BitVec 8) (s : State) : Res :=
  .next (s.recv p chk (fun s =>
    let t := s.updQport p (fun u => { u with credits := [u.credits.getD 0 0 + f0.toNat, u.credits.getD 1 0 + f1.toNat, u.credits.getD 2 0 + f2.toNat] })
    t.qPump p (t.qport p).sendQ.length))

/-- MGMT: an SPDM message for the Helm complex (R408). -/
def execMgmt (p : QPort) (chk : FrameCheck) (data : List (BitVec 8)) (s : State) : Res := .next (s.recv p chk (fun s => s.emit (.helmMessage data)))

/-! ### Timers of the ports and the database -/

/-- HELLO_SEND (R410). -/
def execHelloSend (p : QPort) (s : State) : Res :=
  .next (if s.rd (QFB_PSTATUS.STATE p) = 3 ∨ s.rd (QFB_PSTATUS.STATE p) = 2 then s.qCtl p 0x10 (s.helloPayload p) else s)

/-- HEARTBEAT_SEND: an UP port that has sent nothing for HB_PERIOD (R411). -/
def execHeartbeatSend (p : QPort) (s : State) : Res :=
  .next (
    if s.rd (QFB_PSTATUS.STATE p) = 3 ∧ (s.qport p).lastTx + s.rd QFB_TIMER_CFG.HB_PERIOD * usUnits ≤ s.sys.time then s.qCtl p 0x11 [] else s)

/-- LSA_ORIGINATE: every 100 ms (R412). -/
def execLsaOriginate (s : State) : Res :=
  .next (if s.running && decide (s.qfb.lsaTime + 100000 * usUnits ≤ s.sys.time) then s.originateLsa else s)

/-- LSA_EXPIRE: LSAs not refreshed for 1 s are removed (R412). -/
def execLsaExpire (s : State) : Res :=
  .next (
    let keep (l : Lsa) : Bool := l.origin == s.serial || decide (s.sys.time < l.time + unitsPerSecond)
    if s.qfb.lsas.all keep then s
    else (s.updQfb (fun q => { q with lsas := q.lsas.filter keep, dbTime := s.sys.time })).rebuildRoutes)

/-- The lowest address from `a` on that is not in a list; `fuel` bounds the search. -/
def lowestFree (used : List Nat) : Nat → Nat → Nat
  | 0, a => a
  | fuel + 1, a => if used.contains a then lowestFree used fuel (a + 1) else a

/-- The address that each serial of an ascending list takes, in turn (R413). -/
def assignRound (used : List Nat) : List Nat → List (Nat × Nat)
  | [] => []
  | sn :: l => let a := lowestFree used 1024 0; (sn, a) :: assignRound (a :: used) l

/-- ADDRESS_ASSIGN: the database has been unchanged for 1 ms and the own address is not VALID: the address kept in NVM is claimed again when
it is free, else the lowest-identity rule gives one (R413). -/
def execAddressAssign (s : State) : Res :=
  .next (
    if s.on QFB_ADDR.VALID || !s.running || s.on SYS_MODE.RESCUE || decide (s.sys.time < s.qfb.dbTime + 1000 * usUnits) then s
    else
      let used := (s.qfb.lsas.filter (fun l => l.valid && l.origin != s.serial)).map (fun l => l.addr)
      let waiting := sortAsc (s.serial :: (s.qfb.lsas.filter (fun l => !l.valid && l.origin != s.serial)).map (fun l => l.origin))
      let byRule := ((assignRound used waiting).find? (fun e => e.1 == s.serial)).map (fun e => e.2)
      let a := match s.persist.quayAddr with
        | some a => if used.contains a then byRule else some a
        | none => byRule
      match a with
      | some a =>
        if 1022 < a then s
        else
          let t := s.wrs [(QFB_ADDR.ADDR, a), (QFB_ADDR.ASSIGNED, 1), (QFB_ADDR.VALID, 1)]
          (t.updPersist (fun p => { p with quayAddr := some a })).originateLsa
      | none => s)

/-- CREDIT_SEND: freed slots are returned, when there are 8 or the first of them was freed 1 µs ago (R417). -/
def execCreditSend (p : QPort) (s : State) : Res :=
  .next (
    let f := (s.qport p).freed
    if s.rd (QFB_PSTATUS.STATE p) ≠ 3 ∨ f.all (fun n => n == 0) ∨ (f.sum < 8 ∧ s.sys.time < (s.qport p).freedAt + usUnits) then s
    else
      let send := f.map (fun n => min n 255)
      let t := s.updQport p (fun u => { u with freed := f.map (fun n => n - min n 255) })
      t.qCtl p 0x13 (send.flatMap (leBytes 1)))

/-- RELAY_TIMEOUT: relayed frames that have waited RELAY_MAX for credit are discarded and counted (R409). -/
def execRelayTimeout (p : QPort) (s : State) : Res :=
  .next (
    let old (e : QEnt) : Bool := e.relayed && decide (e.since + s.rd QFB_TIMER_CFG.RELAY_MAX * usUnits ≤ s.sys.time)
    let gone := (s.qport p).sendQ.filter old
    (s.updQport p (fun u => { u with sendQ := u.sendQ.filter (fun e => !old e) })).forEach gone (fun e t => t.discardEnt p e))

/-! ### Timers of the transfers -/

/-- COMMIT_REPEAT: every 1 ms while in doubt and the responder is reachable (R423). -/
def execCommitRepeat (s : State) : Res :=
  .next (
    s.forEach (s.qfb.outs.filter (fun x => x.phase == .inDoubt && (s.route? x.dst).isSome && decide (x.last + 1000 * usUnits ≤ s.sys.time))) (fun x t =>
      match x.work with
      | .lgtWrite _ | .push _ => (t.qCommit x.dst x.cls x.xid x.data).updXout x.xid (fun y => { y with last := s.sys.time })
      | _ => t))

/-- RETRY_RESEND: every 100 µs after a RETRY, for up to 20 ms; then the work ends as refused with that RESULT's status (R422). -/
def execRetryResend (s : State) : Res :=
  .next (
    s.forEach (s.qfb.outs.filter (fun x => x.phase == .retryWait && decide (x.last + 100 * usUnits ≤ s.sys.time))) (fun x t =>
      if (x.retryFrom.getD s.sys.time) + 20000 * usUnits ≤ s.sys.time then t.failXout x (some x.refused)
      else t.resendXout x))

/-- OUTCOME_DROP: entries not released for RECORD_HOLD of reachable time (R423). -/
def execOutcomeDrop (s : State) : Res :=
  .next (
    let hold := s.rd QFB_XFER_CFG.RECORD_HOLD * unitsPerSecond
    (s.updQfb (fun q => { q with outcomes := q.outcomes.filter (fun o => match o.since with | some t => decide (s.sys.time < t + hold) | none => true) })).showXfer)

/-- STAGING_DISCARD: the initiator is unreachable, or no frame has come for STAGE_HOLD (R423). -/
def execStagingDiscard (s : State) : Res :=
  .next (
    let hold := s.rd QFB_XFER_CFG.STAGE_HOLD * 1000 * usUnits
    let stale (x : XIn) : Bool := x.isOpen && ((s.route? x.src).isNone || decide (x.last + hold ≤ s.sys.time)) &&
      (match x.ask with | .media op _ _ _ => op != 0 || x.committed | _ => true)
    s.forEach (s.qfb.ins.filter stale) (fun x t => t.dropXin x))

/-- XFER_IDLE_ABANDON: no frame of a transfer between its first DATA and its COMMIT for XFER_IDLE: abandoned at the end that receives its
data (R425). -/
def execXferIdleAbandon (s : State) : Res :=
  .next (
    let idle := s.rd QFB_XFER_CFG.XFER_IDLE * 1000 * usUnits
    let late (n last : Nat) : Bool := decide (0 < n) && decide (last + idle ≤ s.sys.time)
    let t := s.forEach (s.qfb.ins.filter (fun x => x.isOpen && late x.data.length x.last)) (fun x t => t.dropXin x)
    t.forEach (t.qfb.outs.filter (fun x => x.phase == .running && late x.data.length x.last &&
        (match x.work with | .lgtRead _ | .pull _ => true | _ => false)))
      (fun x t => t.abandonXout x))

/-- TRANSFER_RESTART: after ROUTE_QUIET an abandoned transfer starts again under a new XFER_ID, or ends when the peer is unreachable
(R425). -/
def execTransferRestart (s : State) : Res :=
  .next (
    s.forEach (s.qfb.outs.filter (fun x => x.phase == .quiet && decide (x.last + s.rd QFB_TIMER_CFG.ROUTE_QUIET * usUnits ≤ s.sys.time))) (fun x t =>
      if (t.route? x.dst).isNone then t.failXout x none
      else ((t.resendXout x).qfbBit QFB_STATUS.XFER_RESTART).inc QFB_CNT.RESTARTS))

end Sys2Proof.Machine
end

