-- ==== Sys2Proof/Machine/WritePath.lean ====
section
/-! DEFINITION. The write path (chapter 05) and the gate events of the sequencers (R138): encoding and scrambling (R108,
R109), streams, the preamplifier ports and the confirming tests of head health (R123). -/

namespace Sys2Proof.Machine
open Reg

/-! ### Gate events (R138) -/

/-- Removes the first committed event of head `h`. -/
def State.popEvent (s : State) (h : Nat) : State := s.updLane h (fun l => { l with events := l.events.drop 1 })

/-- A gate stays closed: the sector's later events are cancelled and it is returned; the open counts as suppressed (R138, R152). -/
def State.gateClosed (s : State) (h : Nat) (e : GateEv) : State :=
  (s.returnSector h e.desc (!e.first)).inc (SEQ_EVT_CNT.SUPPRESSED (h / 6))

/-- Marks the append of a sector as having opened its first gate. -/
def State.appendStarted (s : State) (w : SecWork) : State :=
  let rel := w.lba - w.zone * zoneSectors s.sys.cfg
  s.updZone w.zone (fun z => { z with placed := z.placed.map (fun (p : Placed) =>
    if p.start ≤ rel ∧ rel < p.start + p.len then { p with started := true } else p) })

/-- The codeword bit before which the fragment that opens with `e` ends: that of its CLOSE. -/
def State.fragmentStop (s : State) (h : Nat) (e : GateEv) : Nat :=
  (((s.lane h).events.find? (fun k => k.act == .close && k.desc.token == e.desc.token)).map (fun k => k.cw)).getD 37120

/-- What the stream of head `h` clocks out from the gate that opens with `e` (R36 to R38, R110, R111), of the encoded sector `bits`: at its
bit time from the head's data-region start. -/
def State.streamOut (s : State) (h : Nat) (e : GateEv) (bits : Nat) : OutEvent :=
  let a := h / 6
  let m := s.markWords
  let out := fragmentBits (if e.first then s.preLen a else s.fpreLen a) (patternOf m 0, patternOf m 1, patternOf m 2) bits e.cw (s.fragmentStop h e)
  let region := ((s.srv.results.find? (fun x => x.head == h)).map (fun x => x.drStart)).getD 0
  .writeStream h out (streamTransitions (s.head h).pc1 (s.head h).pc2 out)
    (region + ((5 * 2 ^ 31 * e.time / max 1 (s.writeRate h) : Nat) : Int)) (s.writeRate h)

/-- OPEN_WRITE falls due on head `h` (R138, R107, R14, R44, R45). The sector's first gate takes PRECOMP (R128); a sector that can no longer be
written opens none (R527). -/
def State.fireOpenWrite (s : State) (h : Nat) (e : GateEv) : State :=
  if e.first && !s.canWrite h then
    -- The head cannot write the slot: the write is handled as a failed slot (R44, R45).
    (s.gateClosed h e).slotFailed e.desc.token
  else
    let enc := (s.head h).buf.find? (fun x => x.token == e.desc.token)
    let bad := s.wus h || s.inhibited h || s.wrp.ctlBlock ||
      (e.first && (enc.isNone || (s.head h).mode != 2 || !s.on (WRP_CTRL.EN h)))
    if bad then s.gateClosed h e
    else
      match s.sec? e.desc.token with
      | none => s.cancelToken h e.desc.token
      | some w =>
        if w.st = .failed then s.cancelToken h e.desc.token
        else
          let t := s.updHead h (fun u =>
            { u with gate := some (e.desc.token, e.final),
                     pc1 := if e.first then s.rd (WRP_PRECOMP.PC1 h) else u.pc1, pc2 := if e.first then s.rd (WRP_PRECOMP.PC2 h) else u.pc2 })
          let t := (t.setB (WRP_STATUS.GATE h)).emit (.writeGate h true)
          let t := t.emit (t.streamOut h e ((enc.map (fun x => x.bits)).getD 0))
          if e.first then
            let t := t.when w.rewrite (fun t => t.inc (WRP_EVT_CNT.REWRITES h))
            (t.updSec e.desc.token (fun w => { w with st := .underway, rewrite := false })).appendStarted w
          else t

/-- OPEN_READ falls due on head `h` (R138, R137). A channel whose EN is clear is out of service, and the head has none. A sector under way whose
later fragment cannot open is abandoned, and goes to the re-read rung (R62, R93). -/
def State.fireOpenRead (s : State) (h : Nat) (e : GateEv) : State :=
  let s := s.finishRelease h
  let open_ := match s.chanOfHead h with
    | some n => s.on (RCH_CTRL.EN n) && s.headPresent h && !s.isFenced (.srv (Fin.ofNat 24 h))
    | none => false
  match s.chanOfHead h, open_ with
  | some n, true =>
    let rc := (s.lane h).rateClass
    -- The planned fragment count of a sector that has not started is computed by R38.
    let frags := if e.final then 1 else
      1 + fragmentsNeeded (s.fpreLen (h / 6)) (s.gapLen (h / 6)) (s.lane h).len 16
        (37120 - firstFragment (s.preLen (h / 6)) (s.gapLen (h / 6)) ((s.lane h).len - e.time))
    let t := s.channelOpen n h e.desc frags e.first e.final rc e.cw
    let t := match t.shadowOf h with
      | some sp => if t.on (RCH_CTRL.EN sp) then t.channelOpen sp h e.desc frags e.first e.final rc e.cw else t
      | none => t
    let t := t.updSec e.desc.token (fun w => { w with st := .underway, again := false })
    t.when e.first (fun t => t.updHead h (fun u => { u with trimK := e.desc.trimK }))
  | _, _ =>
    if e.first then s.gateClosed h e
    else
      (((s.abandonChannel h).rereadAbandoned h e.desc).inc (SEQ_EVT_CNT.SUPPRESSED (h / 6))).updHead h (fun u => { u with trimK := 0 })

/-- CLOSE of a write gate: idle pair; the final one counts the sector as written (R18) and frees its place in the stream.
A sector whose slot a slip has moved meanwhile is planned again (R44, log entry 21). -/
def State.fireCloseWrite (s : State) (h : Nat) (e : GateEv) : State :=
  match (s.head h).gate with
  | none => s
  | some (tok, final) =>
    if tok ≠ e.desc.token then s
    else
      let t := s.updHead h (fun u => { u with gate := none })
      let t := (t.clr (WRP_STATUS.GATE h)).emit (.writeGate h false)
      if final then
        (t.updHead h (fun u => { u with buf := u.buf.filter (fun x => x.token != tok) })).sectorWritten tok
      else t

/-- CLOSE of a read gate, after the last of the fragment's samples (R62, R137). -/
def State.fireCloseRead (s : State) (h : Nat) (adc : List (Byte × Byte)) (e : GateEv) : State :=
  let shut (t : State) (n : Nat) : State := (t.feed n adc).channelClose n e.final e.cw
  let t := match s.chanOfHead h with
    | none => s
    | some n => shut s n
  let t := match t.shadowOf h with
    | some sp => shut t sp
    | none => t
  t.when e.final (fun t => t.updHead h (fun u => { u with trimK := 0 }))

/-- GATE_EVENT_FIRE: the first committed event of the head's lane falls due (R138, R139); `adc` are the samples that the head's channel has
taken since its last event. -/
def execGateEventFire (h : Head) (adc : List (Byte × Byte)) (s : State) : Res :=
  .next (
    match (s.lane h).events with
    | [] => s
    | e :: _ =>
      let t := s.popEvent h
      match e.act with
      | .openWrite => t.fireOpenWrite h e
      | .openRead => t.fireOpenRead h e
      | .close => (if e.desc.write then t.fireCloseWrite h e else t.fireCloseRead h adc e).paKick (h.val / 6))

/-! ### Streams (R106) -/

/-- The buffer address of a sector's data: its own address, or its page of the command. -/
def State.secAddr (s : State) (tok : Nat) (w : SecWork) : Option Nat :=
  match w.addr with
  | some a => some a
  | none => (s.sectorPage (tokTag tok) (tokIdx tok)).map (fun p => 4096 * p)

/-- A failed check of R106 step 2: no sector of the command from that one on is written, WRP_CRC is raised and the command
ends with BUFFER_DATA_ERROR. A later sector already under way stops. -/
def State.streamCrcFail (s : State) (h tok : Nat) (w : SecWork) : State :=
  let gone := (((s.cmd? (tokTag tok)).map (fun c => c.secs)).getD []).filter
    (fun x => x.write && decide (w.idx ≤ x.idx) && x.st != .written)
  let t := s.forEach gone (fun x t =>
    let k := tokTag tok + 16384 * x.idx
    let t := match (t.head x.head).gate with | some (g, _) => if g = k then t.closeGate x.head else t | none => t
    (t.unlist x.head k).updSec k (fun y => { y with st := .failed }))
  let t := t.wrpBit h WRP_STATUS.CRC_ERR
  let t := t.raiseSrc (0x0A0 + h) { ctx0 with detail := h, addr := t.secAddr tok w, port := 8, access := 1 }
  t.cmdFail (tokTag tok) stBufferData w.lba

/-- STREAM_SECTOR_READY: the stream reads, checks, stamps, encodes, scrambles and holds one sector (R106 to R109). -/
def execStreamSectorReady (h : Head) (tok : Word) (s : State) : Res :=
  .next (
    match s.sec? tok.toNat with
    | none => s
    | some w =>
      match s.secAddr tok.toNat w with
      | none => s
      | some addr =>
        if !w.write || w.head ≠ h.val || w.encoded || !s.on (WRP_CTRL.EN h) || decide (3 ≤ (s.head h).buf.length) ||
           !(w.st == .todo || w.st == .listed) then s
        else
          let p := s.readAny 8 0 64 addr 4096
          let q := p.1.readAny 8 0 4 (s.trailerAddr addr) 16
          let t := q.1
          let d := p.2
          let r := q.2
          let tag := r.data.take 8
          let crc := (r.data.drop 8).take 4
          if d.anyUe || d.err || r.anyUe || r.err || leValue crc != sectorCrc d.data (leValue tag) then
            t.streamCrcFail h tok.toNat w
          else
            -- SCR_EN clear, which only FACTORY accepts, leaves the codeword unscrambled (R128).
            let bits := (if t.on (WRP_CTRL.SCR_EN h) then channelBits else ldpcEncode) (d.data ++ tag ++ crc ++ leBytes 4 w.stamp)
            let t := t.updHead h (fun u => { u with buf := u.buf ++ [{ token := tok.toNat, bits := bits }] })
            t.updSec tok.toNat (fun w => { w with encoded := true }))

/-- A descriptor at the end of a full list goes back to the scheduler, to make room in front (R135, R127). -/
def State.roomInFront (s : State) (h : Nat) : State :=
  let l := s.lane h
  if l.list.length < 16 then s
  else match l.list.getLast? with
    | none => s
    | some d => (s.updLane h (fun l => { l with list := l.list.filter (fun x => x.token != d.token) })).returnSector h d false

/-- SECTOR_REWRITE: a sector whose gate dropped goes back in front of the head's list, with the encoded bits the stream keeps, and is written from
its first fragment at the same slot: it never waits behind other commands (R126, R127). The actuator must be on the sector's tier. -/
def execSectorRewrite (h : Head) (tok : Word) (s : State) : Res :=
  .next (
    match s.sec? tok.toNat with
    | none => s
    | some w =>
      let (tier, track, sector) := s.placeOf w
      if w.rewrite && w.st == .todo && w.head == h.val && s.onTier (h.val / 6) w.zone tier track then
        let d : SDesc := { token := tok.toNat, lba := w.lba, sector := sector, write := true, trimK := 0 }
        ((s.roomInFront h).updLane h (fun l => { l with list := d :: l.list })).updSec tok.toNat (fun w => { w with st := .listed })
      else s)

/-! ### Preamplifier ports (R114 to R122) -/

/-- The heads that a write frame addresses: one position, or all heads of the actuator (POS 7). -/
def State.frameHeads (s : State) (a pos : Nat) : List Nat := if pos = 7 then s.headsOf a else [a * 6 + pos]

/-- A write frame has reached the preamplifier: what the K4 keeps of MODE and STATUS follows it (R117, R121, R125). STATUS bits [10:8] are
common to all heads. A change of MODE makes a heater frame due (R120). -/
def State.frameTaken (s : State) (a : Nat) (f : PaFrame) : State :=
  let drop (mask x : Nat) : Nat := x - (x &&& mask)
  let t := s.forEach (s.frameHeads a f.pos) (fun h t =>
    if f.addr = 3 then
      t.updHead h (fun u => if f.data % 4 = 3 ∨ f.data % 4 = u.mode then u else { u with mode := f.data % 4, htrDue := true })
    else if f.addr = 2 then
      t.updPort a (fun p => { p with status := listModify (p.status.map (drop (f.data &&& 0x700))) (h % 6) (drop f.data) })
    else t)
  let t := match f.mailbox with
    | some pos => t.setB (WRP_PA_RESP.DONE (a * 6 + pos))
    | none => t
  t.when (f.addr == 2) (fun t => t.paCheck a)

/-- PA_FRAME_END: a write frame in flight ends and the next frame is chosen by priority (R118). A read frame waits for its
response. -/
def execPaFrameEnd (a : Act) (s : State) : Res :=
  .next (
    match (s.port a).inFlight with
    | none => s.paKick a
    | some f =>
      if f.read then s
      else ((s.updPort a (fun p => { p with inFlight := none })).frameTaken a f).paKick a)

/-- PA_KEEPALIVE: with no frame in flight or due, a write to register 0x00 of all heads (R116, log entry 22); none in
HALTED or reset. -/
def execPaKeepalive (a : Act) (s : State) : Res :=
  .next (
    let p := s.port a
    if !s.actPresent a || s.mode == .halted || s.sys.inReset || p.inFlight.isSome then s
    else if p.statusQ.isEmpty && p.modeQ.isEmpty && p.htrQ.isEmpty && p.mailQ.isEmpty then s.paSend a (paWrite 7 0 0)
    else s.paKick a)

/-- Fences the writes of an actuator (PA_LINK, R115, R460). -/
def State.fencePa (s : State) (a : Nat) : State :=
  ((s.markFenced (.paPort (Fin.ofNat 4 a))).dropGates false (s.headsOf a))

/-- A read that failed twice (R115). -/
def State.paReadFail (s : State) (a : Nat) (f : PaFrame) : State :=
  let h := a * 6 + f.pos
  let t := (s.wrpBit h WRP_STATUS.PA_CRC).inc (WRP_EVT_CNT.PA_CRCS h)
  let t := match f.mailbox with
    | some p => (t.setB (WRP_PA_RESP.CRC_ERR (a * 6 + p))).setB (WRP_PA_RESP.DONE (a * 6 + p))
    | none => t
  let n := (s.port a).crcFails + 1
  let t := t.updPort a (fun p => { p with crcFails := n })
  if n = 2 then (t.raiseSrc (0x0B8 + a) { ctx0 with detail := a }).fencePa a else t

/-- CONTACT while the head is armed for writing (R122): the report is a preamplifier fault of the actuator, both live heater values fall by 8,
to 0 at the least (log entry 143), the event is logged, STATUS is cleared, and the third report within 60 s inhibits the head. -/
def State.contact (s : State) (h : Nat) : State :=
  let t := s.when (!(s.port (h / 6)).fault) (fun t =>
    ((t.updPort (h / 6) (fun p => { p with fault := true })).dropGates false (t.headsOf (h / 6))).wrpBits (t.headsOf (h / 6)) WRP_STATUS.PA_FAULT)
  let t := t.wrs [(WRP_HTR_CFG.HTR_WR h, s.rd (WRP_HTR_CFG.HTR_WR h) - 8), (WRP_HTR_CFG.HTR_RD h, s.rd (WRP_HTR_CFG.HTR_RD h) - 8)]
  let t := (t.wrpBit h WRP_STATUS.CONTACT).inc (WRP_EVT_CNT.CONTACTS h)
  let t := t.logFree 0x000C 0x1FF
  let recent := ((s.head h).contacts.filter (fun x => decide (s.sys.time < x + 60 * unitsPerSecond))) ++ [s.sys.time]
  let t := t.updHead h (fun u => { u with contacts := recent })
  let t := t.when (decide (3 ≤ recent.length)) (fun t => t.setInh h (fun u => { u with inhContact := true, htrNew := false }))
  (t.heaterFrame h (t.heaterFor h)).statusClr h 0x80

/-- A STATUS word of head position `pos` has been read (R117, R122, R123); bits [10:8] hold for every head. A report of CONTACT on a head that is
not armed for writing takes no heater step and is cleared at once (log entry 143). WRITER_OPEN or WRITER_SHORT makes the drop of the head's gate
by the fault a writer fault, which counts at the slot (R126). -/
def State.statusRead (s : State) (a pos v : Nat) : State :=
  let h := a * 6 + pos
  let common := v / 256 % 8 * 256
  let t := s.updPort a (fun p => { p with status := listSet (p.status.map (fun x => x % 256 + common)) pos (v % 2048) })
  let t := t.updHead h (fun u => { u with paDrop := none })
  let t := match (s.head h).paDrop with
    | some tok => if bitOf v 1 || bitOf v 2 then t.countDrop tok else t
    | none => t
  let t := if bitOf v 7 then (if (s.head h).mode = 2 then t.contact h else t.statusClr h 0x80) else t
  (t.judgeReaders h).paCheck a

/-- PA_READ_RESPONSE: the response to the read in flight; a CRC failure repeats the read once (R115), but not in HALTED or reset (R116). -/
def execPaReadResponse (a : Act) (data : BitVec 16) (crcOk : Bool) (s : State) : Res :=
  .next (
    let p := s.port a
    match p.inFlight with
    | none => s
    | some f =>
      if !f.read then s
      else if !crcOk then
        if s.mode == .halted || s.sys.inReset then s.updPort a (fun p => { p with inFlight := none, repeated := false })
        else if p.repeated then ((s.updPort a (fun p => { p with inFlight := none, repeated := false })).paReadFail a f).paKick a
        else (s.updPort a (fun p => { p with repeated := true, silentUs := 0 })).emit (.paFrame a f.bits)
      else
        let t := s.updPort a (fun p => { p with inFlight := none, repeated := false })
        let t := match f.mailbox with
          | some q => t.wrs [(WRP_PA_RESP.DATA (a * 6 + q), data.toNat), (WRP_PA_RESP.DONE (a * 6 + q), 1)]
          | none => t
        let t := if f.addr = 1 then t.statusRead a f.pos data.toNat else t
        t.paKick a)

/-- PA_MAILBOX_CMD: GO of WRP_n_PA_CMD (R118, R119): a read with BCAST is refused; outside FACTORY so is a write to MODE, WC
or HTR, with REFUSED set and no frame sent. -/
def execPaMailboxCmd (w : Initiator) (h : Head) (addr : Byte) (data : BitVec 16) (rd bcast : Bool) (s : State) : Res :=
  if !s.mayWrite w then .next s else
  .next (
    if !s.headPresent h then s
    else if rd && bcast then s.refuseW w (WRP_PA_CMD h) 1
    else
      let t := s.wrs [(WRP_PA_CMD.ADDR h, addr.toNat), (WRP_PA_CMD.DATA h, data.toNat), (WRP_PA_CMD.RD h, b2n rd),
        (WRP_PA_CMD.BCAST h, b2n bcast)]
      if !rd && !s.inFactory && (addr == 3 || addr == 4 || addr == 5) then
        (t.setB (WRP_PA_RESP.REFUSED h)).refuseW w (WRP_PA_CMD h) 2
      else
        let f : PaFrame := { read := rd, pos := if bcast then 7 else h.val % 6, addr := addr.toNat,
                             data := if rd then 0 else data.toNat, mailbox := some (h.val % 6) }
        ((t.setB (WRP_PA_CMD.GO h)).updPort (h.val / 6) (fun p => { p with mailQ := p.mailQ ++ [f] })).paKick (h.val / 6))

/-- Head `h` has write work in its lane or an open write gate. -/
def State.hasWrites (s : State) (h : Nat) : Bool :=
  let l := s.lane h
  (s.head h).gate.isSome || (l.list ++ l.incoming).any (fun d => d.write) || l.events.any (fun e => e.desc.write) ||
  (match l.cur with | some d => d.write | none => false)

/-- Bells until the first write gate of head `h` opens: that of its first event, else that of the first write in its list, by the share of
the track before its sector (log entry 143). -/
def State.nextWriteIn (s : State) (h : Nat) : Option Nat :=
  let l := s.lane h
  let w := s.sys.cfg.wedges
  let from_ (region : Nat) : Nat := (region + w - (s.srvHead h).wedge % w) % w
  match l.events.find? (fun e => e.act == .openWrite) with
  | some e => some (from_ e.region)
  | none => (((l.cur.toList ++ l.list).find? (fun d => d.write)).map (fun d => from_ (d.sector * w / max 1 l.spt)))

/-- HEATER_UPDATE: the heater change of a head falls due and is sent as one frame (R120): HTR_WR at most PREHEAT bells ahead of the first write
gate of a run, HTR_RD once the run has ended, the value of the mode after a change of MODE. A change that is not due sends none. -/
def execHeaterUpdate (h : Head) (why : HeaterWhy) (s : State) : Res :=
  .next (
    let u := s.head h
    if !s.headPresent h then s
    else match why with
      | .preheat =>
        if !u.run && (match s.nextWriteIn h with | some n => decide (n ≤ s.rd (WRP_HTR_CFG.PREHEAT h)) | none => false) then
          (s.updHead h (fun u => { u with run := true })).heaterFrame h (s.rd (WRP_HTR_CFG.HTR_WR h))
        else s
      | .runEnd =>
        if u.run && !s.hasWrites h then (s.updHead h (fun u => { u with run := false })).heaterFrame h (s.rd (WRP_HTR_CFG.HTR_RD h)) else s
      | .modeChange => if u.htrDue then (s.updHead h (fun u => { u with htrDue := false })).heaterFrame h (s.heaterFor h) else s)

/-- PA_FAULT_N_FALL: every gate of the actuator drops, its heads show PA_FAULT, and a STATUS read of each head is queued
(R124, R118); which sector each head was writing is kept until its STATUS has been read (R126). -/
def execPaFaultNFall (a : Act) (s : State) : Res :=
  .next (
    if !s.actPresent a then s
    else
      let hs := s.headsOf a
      let t := s.updPort a (fun p => { p with lineLow := true, fault := true, statusQ := hs.map (fun h => h % 6) })
      let t := t.forEach hs (fun h t => t.updHead h (fun u => { u with paDrop := u.gate.map (fun g => g.1) }))
      ((t.dropGates false hs).wrpBits hs WRP_STATUS.PA_FAULT).paKick a)

/-- PA_FAULT_N_RISE: the line is released; the condition ends when STATUS has been read and each cause is cleared (R124). -/
def execPaFaultNRise (a : Act) (s : State) : Res :=
  .next (if s.actPresent a then (s.updPort a (fun p => { p with lineLow := false })).paCheck a else s)

/-! ### Confirming tests (R123) -/

/-- What head `h` stands to be tested for: bit 0 reader A and bit 1 reader B (reported by the preamplifier), bit 2 writer,
bits 3 and 4 readers that the channel alone suspects. Parts already lost are left out. -/
def State.findings (s : State) (h : Nat) : Nat :=
  let st := (s.port (h / 6)).status.getD (h % 6) 0
  let la := s.on (WRP_STATUS.READER_A_LOST h)
  let lb := s.on (WRP_STATUS.READER_B_LOST h)
  b2n (s.readerReported h false && !la) + 2 * b2n (s.readerReported h true && !lb) +
  4 * b2n ((bitOf st 1 || bitOf st 2) && !s.on (WRP_STATUS.WRITER_LOST h)) +
  8 * b2n (s.suspects h false && !s.readerReported h false && !la) + 16 * b2n (s.suspects h true && !s.readerReported h true && !lb)

/-- The findings that a STATUS word confirms. -/
def confirmMask (v : Nat) : Nat :=
  let ra := b2n (bitOf v 3 || bitOf v 4)
  let rb := b2n (bitOf v 5 || bitOf v 6)
  ra + 2 * rb + 4 * b2n (bitOf v 1 || bitOf v 2) + 8 * ra + 16 * rb

/-- The verdict on reader A or B after two tests: `both` both confirmed, `any` one did. A single-reader configuration has no reader B (R6). -/
def State.readerVerdict (s : State) (h : Nat) (b both any chanOnly : Bool) : State :=
  if b && s.sys.cfg.readers == 1 then s
  else if both then s.loseReader h b
  else if chanOnly then (if any then s else (s.clearSuspects h b).logFree 0x000C 0x1FF)
  else (s.statusClr h (if b then 0x60 else 0x18)).logFree 0x000C 0x1FF

/-- A confirming test can run on head `h`: its port is free of frames that go before (R118), no gate is open on the head (R123), and the port is
not silent (R116). -/
def State.testReady (s : State) (h : Nat) : Bool :=
  let p := s.port (h / 6)
  p.inFlight.isNone && p.statusQ.isEmpty && p.modeQ.isEmpty && !s.headGate h && s.mode != .halted && !s.sys.inReset

/-- HEAD_CONFIRM_TEST: one confirming test, MEASURE with the head's MODE IDLE and then STATUS (R117, R123, R125): after the second, each finding
is decided. A head in another mode is sent to IDLE first. -/
def execHeadConfirmTest (h : Head) (status : BitVec 8) (s : State) : Res :=
  .next (
    let u := s.head h
    let find := if u.tests = 0 then s.findings h else u.finding
    if !s.headPresent h || find == 0 || !s.testReady h then s
    else if u.mode ≠ 0 then s.arm h 0
    else
      let a := h.val / 6
      let pos := h.val % 6
      let rdF : PaFrame := { read := true, pos := pos, addr := 1, data := 0, mailbox := none }
      let t := (s.emit (.paFrame (Fin.ofNat 4 a) (paWrite pos 7 1).bits)).emit (.paFrame (Fin.ofNat 4 a) rdF.bits)
      let m := confirmMask status.toNat
      if u.tests = 0 then
        t.updHead h (fun u => { u with tests := 1, finding := find, confirms := find &&& m })
      else
        let both := u.confirms &&& m
        let any := u.confirms ||| (find &&& m)
        let t := t.updHead h (fun u => { u with tests := 0, finding := 0, confirms := 0 })
        let t := if bitOf find 0 || bitOf find 3 then
            t.readerVerdict h false (bitOf both 0 || bitOf both 3) (bitOf any 0 || bitOf any 3) (bitOf find 3) else t
        let t := if bitOf find 1 || bitOf find 4 then
            t.readerVerdict h true (bitOf both 1 || bitOf both 4) (bitOf any 1 || bitOf any 4) (bitOf find 4) else t
        if bitOf find 2 then (if bitOf both 2 then t.loseWriter h else t.statusClr h 0x06) else t)

end Sys2Proof.Machine
end

