-- ==== Sys2Proof/Machine/FaultRaise.lean ====
section
/-! DEFINITION. FAULT_RAISE: the reaction of the Watch to a raised source (R457), with the fence of the unit that a fencing source names
and its handover (R458, R460, R103). -/

namespace Sys2Proof.Machine
open Reg

/-! ### Read channels (R77, R78, R103) -/

/-- Sectors of channel `n` that have not converged leave every queue and engine of the pool and are read again, uncharged (R20, R103). -/
def State.dropChannelDecodes (s : State) (n : Nat) : State :=
  let mine (d : DSect) : Bool := d.chan == n
  let onEng (g : EngU) : List DSect :=
    ((match g.job with | some (d, _) => [d] | none => []) ++ (match g.suspended with | some (d, _) => [d] | none => [])).filter mine
  let gone := (s.dec.waiting ++ s.dec.trialQ ++ s.dec.deepQ).filter mine ++ s.dec.engines.flatMap onEng
  let hit := (List.range 36).filter (fun e => match (s.eng e).job with | some (d, _) => mine d | none => false)
  let t := s.forEach gone (fun d t => ((t.releaseBuf d.buf).unhold d).toReread d false)
  let t := t.updDec (fun x => { x with
    waiting := x.waiting.filter (fun d => !mine d), trialQ := x.trialQ.filter (fun d => !mine d),
    deepQ := x.deepQ.filter (fun d => !mine d),
    engines := x.engines.map (fun (g : EngU) => match g.suspended with
      | some (d, _) => if mine d then { g with suspended := none } else g
      | none => g) })
  t.forEach hit (fun e t => if e < 32 then t.engIdle e else t.deepFree e) |>.showDeep

/-- The channel of head `h` is fenced: a servo region in progress counts as a missed wedge. The region of a bell is in progress from its edge until the
head's result (R155; DESIGN CHOICE, log entry 151). -/
def State.cutWedge (s : State) (h : Nat) : State :=
  if s.srv.results.any (fun x => x.head == h) then s else s.updSrv h (fun u => { u with cut := true })

/-- Fences channel `n`: a working channel hands its head to a free spare of its actuator (R77); a head left without a channel counts as having
lost both readers (R78). -/
def State.fenceChan (s : State) (n : Chan) : State :=
  if s.on (RCH_MAP.FENCED n) then s
  else
    let a := if n.val < 24 then n.val / 6 else n.val - 24
    let t := match s.headOfChan n with
      | some h => (s.dropInFlight n h).cutWedge h
      | none => s
    let t := ((t.rchBit n RCH_STATUS.DATAPATH_ERR).setB (RCH_MAP.FENCED n)).markFenced (.chan n)
    let t := match s.headOfChan n with
      | none => if s.isShadow n then t.spareIdle a else t
      | some h => if n.val < 24 && t.spareFree a then t.substitute h else t.offlineZones h
    t.dropChannelDecodes n

/-! ### Decoder engines (R103) -/

/-- Fences a decoder engine: a quick engine's sector waits in its buffer for another one, at iteration 0; a deep engine's work goes to the
front of its queue while its slot has not expired, else it is read again. -/
def State.fenceEngine (s : State) (e : Engine) (status : Nat → Fld) : State :=
  if s.on (DEC_ESTATUS.FENCED e) then s
  else
    let g := s.eng e
    let t := ((s.setB (status e)).setB (DEC_ESTATUS.FENCED e)).markFenced (.engine e)
    let t := (t.updEng e (fun g => { g with job := none, iter := 0, suspended := none, dropping := false })).wrs
      [(DEC_ESTATUS.BUSY e, 0), (DEC_ESTATUS.CUR_ITER e, 0)]
    let front (d : DSect) (trial : Bool) (t : State) : State :=
      if !t.slotHolds d then t.backlogReread d
      else if trial then t.updDec (fun x => { x with trialQ := { d with shifts := d.shift :: d.shifts } :: x.trialQ })
      else t.updDec (fun x => { x with deepQ := d :: x.deepQ })
    let drop (d : DSect) (t : State) : State := t.updSec d.token (fun w => { w with st := .failed })
    let t := match g.suspended with | some (d, _) => front d false t | none => t
    let t := match g.job with
      | none => t
      | some (d, ph) =>
        let t := if ph = EPhase.trialLoad ∨ ph = EPhase.deepLoad then t.unhold d else t
        if g.dropping then (drop d t).releaseBuf d.buf
        else match ph with
          | .quick => t.updDec (fun x => { x with waiting := d :: x.waiting })
          | .trialLoad | .trial => front d true t
          | .deepLoad | .deep => front d false t
    (t.showService).dispatchDeep

/-! ### Servo demodulators (R460) -/

/-- Fences the demodulator of head `h`: the head counts as LOST, no gate opens on it, and its domain's zones go OFFLINE. -/
def State.fenceSrv (s : State) (h : Head) : State :=
  if s.isFenced (.srv h) then s
  else
    let t := (s.setB (SRV_STATUS.DATAPATH_ERR h)).dropGate true h
    let t := match t.chanOfHead h with | some n => t.abandonReturn n h | none => t
    let t := t.markFenced (.srv h)
    let t := if t.headLoaded h then
        let t := (t.wr (SRV_STATUS.STATE h) 5).updSrv h (fun u => { u with cand := none, reacq := false, reacqRun := 0 })
        (t.when (t.loopState (4 + h) == 1) (fun t => t.wr (CTL_STATUS.STATE (4 + h)) 2)).showLoaded
      else t
    let t := if t.tref = some h.val then t.trefHandover else t
    t.offlineZones h

/-! ### The fence of a source (R458, R460) -/

/-- Raises a source that fences, and fences the unit it names. A fence that is one operation with its raise elsewhere is called as that
operation. -/
def State.raiseFence (s : State) (n : Nat) (x : RaiseCtx) : State :=
  let r := s.raiseSrc n x
  if n ≤ 0x01B then r.fenceChan (Fin.ofNat 28 n)
  else if 0x040 ≤ n ∧ n ≤ 0x063 then r.fenceEngine (Fin.ofNat 36 (n - 0x040)) DEC_ESTATUS.DATAPATH_ERR
  else if 0x068 ≤ n ∧ n ≤ 0x08B then r.fenceEngine (Fin.ofNat 36 (n - 0x068)) DEC_ESTATUS.OVERTIME
  else if 0x0B8 ≤ n ∧ n ≤ 0x0BB then r.fencePa (n - 0x0B8)
  else if 0x0C4 ≤ n ∧ n ≤ 0x0C7 then ((r.raiseBit (SEQ_STATUS.DATAPATH_ERR (n - 0x0C4)) (SEQ_INT_EN (n - 0x0C4)))).restart (n - 0x0C4)
  else if 0x0C9 ≤ n ∧ n ≤ 0x0CC then r.fenceSeq (n - 0x0C9)
  else if 0x0D0 ≤ n ∧ n ≤ 0x0E7 then r.fenceSrv (Fin.ofNat 24 (n - 0x0D0))
  else if n = 0x0F1 then (if s.twoLanes then s.fenceLane (x.detail % 2) else s.raiseSrc 0x0F5 x)
  else if n = 0x141 then s.chopFault
  else if n = 0x145 then s.genSelfCheck (Fin.ofNat 2 x.detail)
  else if 0x14C ≤ n ∧ n ≤ 0x14F then r.fenceVcm (n - 0x14C)
  else if 0x150 ≤ n ∧ n ≤ 0x167 then r.fenceMa (n - 0x150)
  else if n = 0x172 then s.fencePlane (Fin.ofNat 2 x.detail) x.injected
  else if 0x17C ≤ n ∧ n ≤ 0x17D then r.fenceDdr (n - 0x17C)
  else if 0x17E ≤ n ∧ n ≤ 0x17F then s.fenceDdr (n - 0x17E)
  else if 0x190 ≤ n ∧ n ≤ 0x1CF then r.fenceLgt (Fin.ofNat 64 (n - 0x190))
  else if 0x1D0 ≤ n ∧ n ≤ 0x1D1 then (r.setB (PCK_ISTATUS.DATAPATH_ERR (n - 0x1D0))).fencePack (Fin.ofNat 2 (n - 0x1D0))
  else if n = 0x1D8 then r.markFenced .pcieLanes
  else if 0x1E4 ≤ n ∧ n ≤ 0x1E7 then (r.qportBit (n - 0x1E4) QFB_PSTATUS.DATAPATH_ERR).fenceQuay (Fin.ofNat 4 (n - 0x1E4))
  else if n = 0x1E8 then r.quayEngineFault
  else if n = 0x1F0 then
    (if x.detail = s.rd SYS_HELM_STAT.SPARE then s.spareFault else if x.detail < 3 then s.helmFault x.detail else r)
  else if 0x1F8 ≤ n ∧ n ≤ 0x1F9 then s.watchFail (Fin.ofNat 2 (n - 0x1F8))
  else r

/-- FAULT_RAISE: a source is raised (R457). An unlisted source, or one of an absent unit, is never raised (R459, R4); nor is any while
internal reset is held. -/
def execFaultRaise (src : Source) (x : RaiseArgs) (s : State) : Res :=
  .next (
    if s.sys.inReset || (defaultClass? src.toNat).isNone || !s.srcPresent src.toNat then s
    else s.raiseFence src.toNat
      { addr := x.addr.map (fun a => a.toNat), port := x.port.toNat, channel := x.channel.toNat, access := x.access.toNat,
        detail := x.detail.toNat, stage := x.stage.val, injected := false, fine := some x.fine.toNat })

end Sys2Proof.Machine
end

