-- ==== Sys2Proof/Machine/Pads.lean ====
section
/-! DEFINITION. Supply monitors and the temperature sensors (chapter 22, R124). -/

namespace Sys2Proof.Machine
open Reg

/-- The rail with bit `r` of PAD_SUPPLY (R524) is monitored: a rail of an actuator is absent with it (R508). -/
def State.railPresent (s : State) (r : Nat) : Bool :=
  if 2 ≤ r ∧ r ≤ 5 then s.actPresent (r - 2) else if 7 ≤ r ∧ r ≤ 10 then s.actPresent (r - 7) else true

/-- SUPPLY_FAULT: a rail below 94 % or above 106 % sets its bit, drops every write gate and raises SUPPLY (R124, R510). -/
def execSupplyFault (rail : Fin 15) (high : Bool) (s : State) : Res :=
  .next (
    if s.sys.inReset || !s.railPresent rail then s
    else
      let t := s.setB ⟨PAD_SUPPLY, rail.val + (if high then 16 else 0), rail.val + (if high then 16 else 0)⟩
      let t := t.updWrp (fun w => { w with supplyErr := true, supplyBad := w.supplyBad ||| 2 ^ rail.val })
      let t := (t.dropGates false t.allHeads).wrpBits t.allHeads WRP_STATUS.SUPPLY
      t.raiseSrc 0x1FC { ctx0 with detail := rail.val })

/-- SUPPLY_FAULT_CLEAR: the supplies have been good for 1 ms (R124). -/
def execSupplyFaultClear (s : State) : Res :=
  .next (s.updWrp (fun w => { w with supplyErr := false, supplyBad := 0 }))

/-- TEMPERATURE_CONVERSION: PAD_TEMP takes the hottest sensor in 1/8 °C, and above 85 °C DRAM is refreshed at twice the rate (R262,
R522, R524). MAX starts from the first conversion after it was cleared. -/
def execTemperatureConversion (temp : BitVec 12) (s : State) : Res :=
  .next (
    if s.sys.inReset then s
    else
      let t := temp.toInt
      let m := if s.rd PAD_TEMP.MAX = 0 then t else max t (s.rdS PAD_TEMP.MAX)
      let u := ((s.wr PAD_TEMP.TEMP temp.toNat).setB PAD_TEMP.VALID).wrS PAD_TEMP.MAX m
      u.updSys (fun x => { x with tempHot := decide (680 < t) }))

end Sys2Proof.Machine
end

