-- ==== Sys2Proof/Machine/Scheduler.lean ====
section
/-! DEFINITION. Installing tier map entries (R26) and the dispatcher of each actuator domain (R391 to R395). -/

namespace Sys2Proof.Machine
open Reg

/-! ### Tier map entries (R23, R26) -/

/-- The entry that 64 bytes hold (R23). -/
def parseTier (b : List Byte) : TierEntry :=
  let u (o n : Nat) : Nat := leValue ((b.drop o).take n)
  { zone := u 0 4, domain := u 4 1, headMask := u 5 1, spt := u 6 2, baseTrack := u 8 4, tierCount := u 12 4, skew := u 16 2,
    refPos := u 18 1, rateClass := u 19 1, offset := (List.range 6).map (fun p => sext 16 (u (20 + 2 * p) 2)),
    trimCentre := (List.range 6).map (fun p => sext 16 (u (32 + 2 * p) 2)), gen := u 44 2, spareSlots := u 46 2, capacity := u 48 4,
    formatTemp := sext 16 (u 52 2) }

/-- CHECK of an entry: CRC-32C over bytes 0 to 59 (R23). -/
def tierCrcOk (b : List Byte) : Bool := (crc32c (b.take 60)).toNat == leValue ((b.drop 60).take 4)

/-- OFFSET and TRIM_CENTRE of zone `z` may change (R25): while it is EMPTY under a granted ZONE lock, a conventional zone in FACTORY; a zone
without an entry has none to keep. -/
def State.offsetsFree (s : State) (z : Nat) : Bool :=
  (s.zone z).entry.isNone ||
  (if zoneConv s.sys.cfg z then s.mode == .factory
   else (s.zone z).state == .empty && s.sch.locks.any (fun (e : LockEnt) => e.granted && e.zone == z && e.mode == .zone))

/-- The entry becomes the zone's entry in use; slots slipped since format keep their cost (R26, R44), and OFFSET and TRIM_CENTRE stay as they were
where R25 forbids their change (DESIGN CHOICE, log entry 148). A zone that had none leaves OFFLINE: as its checkpoint in the system area gives
it, else EMPTY or conventional with the entry's generation. -/
def State.useTier (s : State) (e : TierEntry) : State :=
  let conv := zoneConv s.sys.cfg e.zone
  let slipped := ((s.media.grown.getD e.domain []).filter (fun g => g.zone == e.zone)).length
  let capacity := if conv then e.capacity else e.capacity - slipped
  let e' := match (s.zone e.zone).entry with
    | some o => if s.offsetsFree e.zone then e else { e with offset := o.offset, trimCentre := o.trimCentre }
    | none => e
  let saved := sparseGet Zone.blank (newestArea (s.areaOf e.domain)).zones e.zone
  let kept := s.media.ready.getD e.domain false && saved.entry.isSome
  s.updZone e.zone (fun z =>
    if z.entry.isSome then { z with entry := some e', capacity := capacity }
    else if kept then { saved with entry := some e', capacity := capacity, placed := z.placed }
    else { z with entry := some e', capacity := capacity, gen := e.gen, state := if conv then .conv else .empty })

/-- TIER_MAP_INSTALL: GO in SCH_TIER_CMD checks the entry that SCH_TIER_ADDR names and installs or refuses it (R26, R402); a host
write is refused. -/
def execTierMapInstall (w : Initiator) (s : State) : Res :=
  if !s.mayWrite w then .next s else
  .next (
    match w with
    | .host => s.refuseW .host SCH_TIER_CMD 2
    | .helm =>
      let addr := 64 * s.rd SCH_TIER_ADDR_LO.ADDR + 2 ^ 32 * s.rd SCH_TIER_ADDR_HI.ADDR
      let p := s.readAny 15 0 2 addr 64
      let t := p.1
      let e := parseTier p.2.data
      let bad := if p.2.err ∨ p.2.ue.any id ∨ !tierCrcOk p.2.data then some 1 else t.tierCheck e
      match bad with
      | some c => (t.wrs [(SCH_TIER_RESP.DONE, 0), (SCH_TIER_RESP.REFUSED, 1), (SCH_TIER_RESP.CHECK, c),
                          (SCH_TIER_RESP.ZONE, e.zone), (SCH_TIER_CMD.GO, 0)]).refuseW .helm SCH_TIER_CMD 5
      | none => (t.useTier e).wrs [(SCH_TIER_RESP.DONE, 1), (SCH_TIER_RESP.REFUSED, 0), (SCH_TIER_RESP.CHECK, 0),
                                   (SCH_TIER_RESP.ZONE, e.zone), (SCH_TIER_CMD.GO, 0)])

/-! ### Candidates (R392, R394) -/

/-- The priority class of a command's media work: write-back data is LOW, HIGH above WB_HIGH, and takes the class of a FLUSH that covers
it, at least HIGH (R394). -/
def State.mediaClass (s : State) (c : Cmd) : Nat :=
  if c.src = .destage then
    let flushes := s.cmds.filter (fun f => f.opcode == 0x08 && f.src != .destage && f.phase != .ended && decide (c.order < f.order))
    if flushes.any (fun f => f.cls == 0) then 0
    else if !flushes.isEmpty || decide (s.rd SCH_PWR_CFG.WB_HIGH * s.mirSize < 100 * 4096 * s.sch.wb.length) then 1
    else 3
  else c.cls

/-- Appends placed earlier in the zone have nothing left to plan: sectors of appends are written in placement order (R389). -/
def State.appendTurn (s : State) (c : Cmd) (z : Nat) : Bool :=
  match (s.zone z).placed.find? (fun p => p.cmd == c.tag) with
  | none => true
  | some own => (s.zone z).placed.all (fun p => decide (own.start ≤ p.start) ||
      (match s.cmd? p.cmd with
       | none => true
       | some d => !d.secs.isEmpty && d.secs.all (fun w => w.st != .todo)))

/-- The media work of domain `a` that can be planned: its command, and the sector; of a dropped command the rewrites only (R126). -/
def State.domainWork (s : State) (a : Nat) : List (Cmd × SecWork) :=
  (s.cmds.filter (fun c => c.phase == .started)).flatMap (fun c =>
    (c.secs.filter (fun w => w.st == .todo && (!c.dropped || w.rewrite) && w.head / 6 == a && s.media.ready.getD a false && !(w.write && s.foreignAny) && (!w.write || s.appendTurn c w.zone))).map (fun w => (c, w)))

/-- Bells of a seek over `d` tracks under the active limits (R185); with a limit that is not above zero the manual gives no plan: a free
value (log entry 25). -/
def State.seekBells (s : State) (a d : Nat) : Nat :=
  let lim (w : Nat) : Int := (s.coefW a (s.rd (CTL_CFG.ACTIVE_SET a)) w).1
  if 0 < lim 80 ∧ 0 < lim 81 ∧ 0 < lim 82 then
    let (tj, ta, tv) := planProfile (4096 * d) (some (lim 80).toNat) (lim 81).toNat (lim 82).toNat
    4 * tj + 2 * ta + tv
  else Config.openSeekBells a d

/-- A candidate of a domain: what the dispatcher weighs. -/
structure Cand where
  tag : Nat
  order : Nat
  cls : Nat
  aged : Bool
  zone : Nat
  tier : Nat
  track : Nat
  cost : Nat
deriving DecidableEq, Repr

/-- The candidate that a command is, given its work on the domain: its first sector on the present tier, else its first sector; its
cost is that of R392. -/
def State.candOf (s : State) (a : Nat) (c : Cmd) (ws : List SecWork) : Option Cand :=
  let here (w : SecWork) : Bool := let (i, t, _) := s.placeOf w; s.onTier a w.zone i t
  match (match ws.find? here with | some w => some w | none => ws.head?) with
  | none => none
  | some w =>
    let (i, track, sector) := s.placeOf w
    let now := s.presentTrack a
    let same := s.onTier a w.zone i track
    let seek := if same then 0 else s.seekBells a (if track ≤ now then now - track else track - now)
    let settle := if same then 0 else s.rd CTL_SETTLE_CFG.SETTLE_N
    let n := s.sys.cfg.wedges
    let ref := s.rd (CTL_STATUS.REF a)
    let at_ := ((s.srvHead (a * 6 + (if ref < 6 then ref else 0))).wedge + seek + settle) % n
    let goal := sector * n / (max 1 (((s.zone w.zone).entry.map (fun e => e.spt)).getD 1))
    let rot := (goal + n - at_) % n
    let cls := s.mediaClass c
    let bias := if cls = 2 then s.rd SCH_RPO_CFG.BIAS_M else if cls = 3 then s.rd SCH_RPO_CFG.BIAS_L else 0
    some { tag := c.tag, order := c.order, cls := cls, aged := decide (c.time + 25000000 * s.rd SCH_RPO_CFG.AGE_MAX < s.sys.time),
           zone := w.zone, tier := i, track := track, cost := seek + settle + rot + bias }

/-- The candidate set of domain `a` (R391). -/
def State.cands (s : State) (a : Nat) : List Cand :=
  let work := s.domainWork a
  (s.cmds.filter (fun c => work.any (fun x => x.1.tag == c.tag))).filterMap (fun c =>
    s.candOf a c ((work.filter (fun x => x.1.tag == c.tag)).map (fun x => x.2)))

/-- The first of a list under an order. -/
def leastBy (lt : Cand → Cand → Bool) : List Cand → Option Cand
  | [] => none
  | c :: l => match leastBy lt l with
    | none => some c
    | some d => if lt d c then some d else some c

/-- Least cost, ties in fetch order. -/
def Cand.cheaper (x y : Cand) : Bool := decide (x.cost < y.cost) || (x.cost == y.cost && decide (x.order < y.order))

/-- The choice of R392: URGENT by cost; then commands past AGE_MAX, oldest first, marked true; then least cost. -/
def chooseCand (l : List Cand) : Option (Cand × Bool) :=
  match leastBy Cand.cheaper (l.filter (fun c => c.cls == 0)) with
  | some c => some (c, false)
  | none => match leastBy (fun x y => decide (x.order < y.order)) (l.filter (fun c => c.aged)) with
    | some c => some (c, true)
    | none => (leastBy Cand.cheaper l).map (fun c => (c, false))

/-! ### Posting (R135, R393) -/

/-- Updates the dispatcher of domain `a`. -/
def State.updDom (s : State) (a : Nat) (f : DomU → DomU) : State := s.updSch (fun u => { u with doms := listModify u.doms a f })

/-- A lane holds descriptors, a current sector or events. -/
def Lane.busy (l : Lane) : Bool :=
  !l.list.isEmpty || !l.incoming.isEmpty || !l.events.isEmpty || !l.newEvents.isEmpty || l.cur.isSome || l.cw != 0

/-- A re-read of a sector on the present tier is due (R97). -/
def State.rereadsDue (s : State) (a : Nat) : Bool :=
  s.dec.rereadQ.any (fun e => e.1.head / 6 == a) ||
  (s.domainWork a).any (fun x => x.2.again && (let (i, t, _) := s.placeOf x.2; s.onTier a x.2.zone i t))

/-- The descriptors on the tier have run and its re-reads are done (R393); an URGENT candidate elsewhere does not wait for re-reads, which run in
the first revolution after the pre-emption (R97, R103). -/
def State.tierClear (s : State) (a : Nat) (urgent : Bool) : Bool :=
  !((s.headsOf a).any (fun h => (s.lane h).busy)) && (urgent || !s.rereadsDue a)

/-- How far sector `k` of a track lies ahead of a lane. -/
def Lane.ahead (l : Lane) (k : Nat) : Nat :=
  let n := max 1 l.spt
  (k + 2 * n - l.snum % n - (if l.cw = 0 then 0 else 1)) % n

/-- Inserts a descriptor in rotational order. -/
def insertDesc (l : Lane) (d : SDesc) : List SDesc → List SDesc
  | [] => [d]
  | e :: r => if l.ahead d.sector < l.ahead e.sector then d :: e :: r else e :: insertDesc l d r

/-- Posts sectors of head `h` to its lane, as far as its list of 16 allows and no earlier than what it holds (R135). -/
def State.postHead (s : State) (h : Nat) (ws : List (Cmd × SecWork)) : State :=
  let l := s.lane h
  let held := l.list ++ l.incoming
  let after := match held.getLast? with | some d => l.ahead d.sector + 1 | none => 0
  let desc (x : Cmd × SecWork) : SDesc :=
    { token := x.1.tag + 16384 * x.2.idx, lba := x.2.lba, sector := (s.placeOf x.2).2.2, write := x.2.write, trimK := min 7 x.2.rereads }
  let ds := ((ws.map desc).filter (fun d => decide (after ≤ l.ahead d.sector))).foldl (fun acc d => insertDesc l d acc) []
  let ds := ds.take (16 - held.length)
  let t := s.updLane h (fun l => { l with incoming := l.incoming ++ ds })
  t.forEach ds (fun d t => t.updSec d.token (fun w => if w.st = .todo then { w with st := .listed } else w))

/-- Posts the work of the present tier: the chosen command's, then every other candidate's (R393); `only` restricts it to
re-reads. A head takes descriptors once its trim loop has closed since the seek began (R176). -/
def State.postTier (s : State) (a chosen : Nat) (only : Bool) : State :=
  let here (x : Cmd × SecWork) : Bool := (let (i, t, _) := s.placeOf x.2; s.onTier a x.2.zone i t) && (!only || x.2.again)
  -- A write whose head cannot write is a failed slot (R44, R45).
  let t := s.forEach ((s.domainWork a).filter (fun x => here x && x.2.write && !s.canWrite x.2.head)) (fun x t =>
    t.slotFailed (x.1.tag + 16384 * x.2.idx))
  let work := (t.domainWork a).filter here
  t.forEach ((t.headsOf a).filter (fun h => (t.loop (4 + h)).settled)) (fun h t =>
    let mine (b : Bool) := work.filter (fun x => x.2.head == h && (x.1.tag == chosen) == b)
    (t.postHead h (mine true)).postHead h (mine false))

/-- Shows the dispatcher of domain `a` (R402). -/
def State.showDom (s : State) (a : Nat) : State :=
  let cs := s.cands a
  s.wrs [(SCH_TIER.TRACK a, s.presentTrack a),
    (SCH_TIER.POSTED a, ((s.headsOf a).map (fun h => (s.lane h).list.length + (s.lane h).incoming.length)).foldl (· + ·) 0),
    (SCH_CAND.CAND a, cs.length), (SCH_CAND.URGENT a, (cs.filter (fun c => c.cls == 0)).length)]

/-- Sends actuator `a` to the tier of a candidate (R176): its lanes take the zone's format. -/
def State.goTier (s : State) (a : Nat) (c : Cand) : State :=
  match (s.zone c.zone).entry with
  | none => s
  | some e =>
    let t := s.updAct a (fun x => { x with zone := some c.zone, tier := c.tier })
    let t := t.forEach (t.headsOf a) (fun h t => t.updLane h (fun l => { l with spt := e.spt, rateClass := e.rateClass }))
    let t := t.updDom a (fun d => { d with at_ := some (c.zone, c.tier) })
    t.seekStart a (4096 * (c.track : Int)) 0

/-- The chosen command is shown and counted. -/
def State.noteChoice (s : State) (a : Nat) (c : Cand) (aged : Bool) : State :=
  let t := s.updDom a (fun d => { d with chosen := some c.tag })
  let t := t.wrs [(SCH_COST.COST a, satU 16 c.cost), (SCH_COST.CLASS a, c.cls), (SCH_COST.AGED a, b2n aged)]
  t.when aged (fun t => (t.raiseBit SCH_STATUS.AGE_FORCED SCH_INT_EN).inc SCH_PREEMPT_CNT.AGED)

/-- Actuator `a` can seek: LOADED, its coarse loop CLOSED and no profile running. -/
def State.canSeek (s : State) (a : Nat) : Bool :=
  s.rd (MOT_ASTATUS.STATE a) == 3 && s.loopState a == 1 && !s.on (PROF_STAT.BUSY a)

/-- DISPATCH_STEP of domain `a`: every 4 bells, or at once for an URGENT candidate, the dispatcher chooses a command and posts its
descriptors, or sends the actuator to its tier (R391 to R394). -/
def execDispatchStep (a : Act) (s : State) : Res :=
  .next (
    let d := s.sch.doms.getD a DomU.init
    if !s.actPresent a || !s.running || s.rd SCH_PWR_STAT.STATE != 0 || s.on SCH_PWR_STAT.MOVING || s.isFenced (.seq a) then s
    else
      let s := s.settleWb
      let cs := s.cands a
      let urg := (cs.filter (fun c => c.cls == 0)).map (fun c => c.tag)
      let due := decide (d.stepBell + 4 ≤ s.bell) || d.urgent || s.bell == 0 || urg.any (fun k => !d.seen.contains k)
      if !due then s.showDom a
      else
        let t := (s.updDom a (fun d => { d with stepBell := s.bell, urgent := false, seen := urg })).freeNext
        let t := if !t.canSeek a then t
          else match chooseCand cs with
            | none => t
            | some (c, aged) =>
              if t.onTier a c.zone c.tier c.track then (t.noteChoice a c aged).postTier a c.tag false
              else if t.tierClear a (c.cls == 0) then (t.noteChoice a c aged).goTier a c
              else if c.cls = 0 then t
              else t.postTier a c.tag true
        t.showDom a)

/-! ### Pre-emption (R395) -/

/-- Sectors in the lists or under way on domain `a`, and the class of their work. -/
def State.inHand (s : State) (a : Nat) : List Nat :=
  s.cmds.flatMap (fun c => (c.secs.filter (fun w => w.head / 6 == a && (w.st == .listed || w.st == .underway))).map (fun _ => s.mediaClass c))

/-- The class of the command for which actuator `a` seeks, when a seek runs. -/
def State.seekFor (s : State) (a : Nat) : Option Nat :=
  if s.on (PROF_STAT.BUSY a) then
    ((s.sch.doms.getD a DomU.init).chosen.bind s.cmd?).map s.mediaClass
  else none

/-- URGENT_PREEMPT on domain `a`: an URGENT candidate on a domain that serves non-URGENT work flushes the sequencer, stops a seek, and
brings the next step forward; URGENT work is never pre-empted (R395, R401). -/
def execUrgentPreempt (a : Act) (s : State) : Res :=
  .next (
    let serving := s.inHand a ++ (s.seekFor a).toList
    if !s.actPresent a || !s.running || !((s.cands a).any (fun c => c.cls == 0)) || serving.isEmpty || serving.any (fun k => k == 0) then s
    else
      let t := if s.seqRunning a then (s.updSeq a (fun e => { e with flushPend := true })).wr ⟨SEQ_FLUSH, a, a⟩ 1 else s.flushAct a
      let t := t.when (s.seekFor a).isSome (fun t => t.profStop a)
      let t := (t.raiseBit SCH_STATUS.PREEMPT SCH_INT_EN).inc SCH_PREEMPT_CNT.PREEMPT
      t.updDom a (fun d => { d with urgent := true }))

end Sys2Proof.Machine
end

