-- ==== Sys2Proof/Machine/Dispatch.lean ====
section
/-! DEFINITION. The dispatcher: one arm per command, each one call of its meaning. -/

namespace Sys2Proof.Machine

def exec (i : Instr) (s : State) : Host.Outcome State Fault Refusal :=
  match i with
  | .powerOn => Sys2Proof.Machine.execPowerOn s
  | .brownOut => Sys2Proof.Machine.execBrownOut s
  | .supplyFault rail high => Sys2Proof.Machine.execSupplyFault rail high s
  | .supplyFaultClear => Sys2Proof.Machine.execSupplyFaultClear s
  | .perstNAssert prepOk => Sys2Proof.Machine.execPerstNAssert prepOk s
  | .resetNAssert prepOk => Sys2Proof.Machine.execResetNAssert prepOk s
  | .sysResetCmd w v prepOk => Sys2Proof.Machine.execSysResetCmd w v prepOk s
  | .helmWatchdogExpiry prepOk => Sys2Proof.Machine.execHelmWatchdogExpiry prepOk s
  | .wdogKick w => Sys2Proof.Machine.execWdogKick w s
  | .resetRelease gpio0 flashOk readable cores => Sys2Proof.Machine.execResetRelease gpio0 flashOk readable cores s
  | .ddrTrainingDone fail blocks => Sys2Proof.Machine.execDdrTrainingDone fail blocks s
  | .registerSpaceOpen status words => Sys2Proof.Machine.execRegisterSpaceOpen status words s
  | .systemAreaReadDone domains bad scan => Sys2Proof.Machine.execSystemAreaReadDone domains bad scan s
  | .aliveSet w => Sys2Proof.Machine.execAliveSet w s
  | .busGoodRestart flashOk readable cores => Sys2Proof.Machine.execBusGoodRestart flashOk readable cores s
  | .bellEdge swept => Sys2Proof.Machine.execBellEdge swept s
  | .speedErrorClear => Sys2Proof.Machine.execSpeedErrorClear s
  | .collectLate => Sys2Proof.Machine.execCollectLate s
  | .telemetrySnapshot => Sys2Proof.Machine.execTelemetrySnapshot s
  | .telemSkip => Sys2Proof.Machine.execTelemSkip s
  | .wedgeResult h m => Sys2Proof.Machine.execWedgeResult h m s
  | .servoLost h => Sys2Proof.Machine.execServoLost h s
  | .servoReacquired h => Sys2Proof.Machine.execServoReacquired h s
  | .writeInhibitClear h => Sys2Proof.Machine.execWriteInhibitClear h s
  | .offTrackClear h => Sys2Proof.Machine.execOffTrackClear h s
  | .wedgeHandling a => Sys2Proof.Machine.execWedgeHandling a s
  | .seqLate a => Sys2Proof.Machine.execSeqLate a s
  | .nanoWord a => Sys2Proof.Machine.execNanoWord a s
  | .branchWord a => Sys2Proof.Machine.execBranchWord a s
  | .jumpWord a => Sys2Proof.Machine.execJumpWord a s
  | .callWord a => Sys2Proof.Machine.execCallWord a s
  | .nopWord a => Sys2Proof.Machine.execNopWord a s
  | .retWord a => Sys2Proof.Machine.execRetWord a s
  | .wwait a => Sys2Proof.Machine.execWwait a s
  | .loopWord a => Sys2Proof.Machine.execLoopWord a s
  | .jumpv a => Sys2Proof.Machine.execJumpv a s
  | .signal a => Sys2Proof.Machine.execSignal a s
  | .seqStop a => Sys2Proof.Machine.execSeqStop a s
  | .hookBudgetExhausted a => Sys2Proof.Machine.execHookBudgetExhausted a s
  | .seqFlush mask => Sys2Proof.Machine.execSeqFlush mask s
  | .seqStep w a => Sys2Proof.Machine.execSeqStep w a s
  | .gateEventFire h adc => Sys2Proof.Machine.execGateEventFire h adc s
  | .retentionCommitStart n adc => Sys2Proof.Machine.execRetentionCommitStart n adc s
  | .syncSearchStart n adc => Sys2Proof.Machine.execSyncSearchStart n adc s
  | .syncWindowEnd n adc bits rescue => Sys2Proof.Machine.execSyncWindowEnd n adc bits rescue s
  | .sectorEnd n adc => Sys2Proof.Machine.execSectorEnd n adc s
  | .thermalAsperityStart n adc => Sys2Proof.Machine.execThermalAsperityStart n adc s
  | .thermalAsperityEnd n adc => Sys2Proof.Machine.execThermalAsperityEnd n adc s
  | .lossOfLock n meanErr => Sys2Proof.Machine.execLossOfLock n meanErr s
  | .selectiveModeEnter n => Sys2Proof.Machine.execSelectiveModeEnter n s
  | .channelLate n => Sys2Proof.Machine.execChannelLate n s
  | .slotHoldRequest n slot seq => Sys2Proof.Machine.execSlotHoldRequest n slot seq s
  | .slotHoldGrant n => Sys2Proof.Machine.execSlotHoldGrant n s
  | .coefDataWrite w n v => Sys2Proof.Machine.execCoefDataWrite w n v s
  | .coefQueueApply n => Sys2Proof.Machine.execCoefQueueApply n s
  | .spareSubst w a pos => Sys2Proof.Machine.execSpareSubst w a pos s
  | .spareRelease w a pos => Sys2Proof.Machine.execSpareRelease w a pos s
  | .spareShadow w a pos => Sys2Proof.Machine.execSpareShadow w a pos s
  | .spareDetach w a pos => Sys2Proof.Machine.execSpareDetach w a pos s
  | .quickDecodeStart => Sys2Proof.Machine.execQuickDecodeStart s
  | .quickIterationEnd e word flips => Sys2Proof.Machine.execQuickIterationEnd e word flips s
  | .realignTrialEnd e => Sys2Proof.Machine.execRealignTrialEnd e s
  | .deepSlotLoadEnd e => Sys2Proof.Machine.execDeepSlotLoadEnd e s
  | .deepOuterIterationEnd e word => Sys2Proof.Machine.execDeepOuterIterationEnd e word s
  | .decTracePop => Sys2Proof.Machine.execDecTracePop s
  | .streamSectorReady h tok => Sys2Proof.Machine.execStreamSectorReady h tok s
  | .sectorRewrite h tok => Sys2Proof.Machine.execSectorRewrite h tok s
  | .paFrameEnd a => Sys2Proof.Machine.execPaFrameEnd a s
  | .paKeepalive a => Sys2Proof.Machine.execPaKeepalive a s
  | .paReadResponse a data crcOk => Sys2Proof.Machine.execPaReadResponse a data crcOk s
  | .paMailboxCmd w h addr data rd bcast => Sys2Proof.Machine.execPaMailboxCmd w h addr data rd bcast s
  | .heaterUpdate h why => Sys2Proof.Machine.execHeaterUpdate h why s
  | .paFaultNFall a => Sys2Proof.Machine.execPaFaultNFall a s
  | .paFaultNRise a => Sys2Proof.Machine.execPaFaultNRise a s
  | .headConfirmTest h status => Sys2Proof.Machine.execHeadConfirmTest h status s
  | .loopComputation x => Sys2Proof.Machine.execLoopComputation x s
  | .ctlLate => Sys2Proof.Machine.execCtlLate s
  | .trimAutoClose h => Sys2Proof.Machine.execTrimAutoClose h s
  | .seekTimeout a => Sys2Proof.Machine.execSeekTimeout a s
  | .loadFail a => Sys2Proof.Machine.execLoadFail a s
  | .trimSatSet h => Sys2Proof.Machine.execTrimSatSet h s
  | .trimSatClear h => Sys2Proof.Machine.execTrimSatClear h s
  | .oscStage1 n => Sys2Proof.Machine.execOscStage1 n s
  | .oscStage2 n => Sys2Proof.Machine.execOscStage2 n s
  | .oscStage3 n => Sys2Proof.Machine.execOscStage3 n s
  | .oscCountReset n => Sys2Proof.Machine.execOscCountReset n s
  | .ctlClose w n => Sys2Proof.Machine.execCtlClose w n s
  | .ctlOpen w n => Sys2Proof.Machine.execCtlOpen w n s
  | .ctlResetOsc w n => Sys2Proof.Machine.execCtlResetOsc w n s
  | .ctlCoefCommit w v => Sys2Proof.Machine.execCtlCoefCommit w v s
  | .profGo w g => Sys2Proof.Machine.execProfGo w g s
  | .profStop w g => Sys2Proof.Machine.execProfStop w g s
  | .motorPwmUpdate half o => Sys2Proof.Machine.execMotorPwmUpdate half o s
  | .pwmLate => Sys2Proof.Machine.execPwmLate s
  | .encOfsLearned => Sys2Proof.Machine.execEncOfsLearned s
  | .obsDrift => Sys2Proof.Machine.execObsDrift s
  | .microactuatorFrame => Sys2Proof.Machine.execMicroactuatorFrame s
  | .dacLate => Sys2Proof.Machine.execDacLate s
  | .returnWord v => Sys2Proof.Machine.execReturnWord v s
  | .maFault h => Sys2Proof.Machine.execMaFault h s
  | .motorAdcConversion sample code => Sys2Proof.Machine.execMotorAdcConversion sample code s
  | .busTrip => Sys2Proof.Machine.execBusTrip s
  | .spStart => Sys2Proof.Machine.execSpStart s
  | .spStop => Sys2Proof.Machine.execSpStop s
  | .senseDone r => Sys2Proof.Machine.execSenseDone r s
  | .spindleRest => Sys2Proof.Machine.execSpindleRest s
  | .alignDone => Sys2Proof.Machine.execAlignDone s
  | .rampEnd r => Sys2Proof.Machine.execRampEnd r s
  | .catchAttemptEnd locked rpm => Sys2Proof.Machine.execCatchAttemptEnd locked rpm s
  | .phaseOpen => Sys2Proof.Machine.execPhaseOpen s
  | .phaseShort => Sys2Proof.Machine.execPhaseShort s
  | .motLoad w a => Sys2Proof.Machine.execMotLoad w a s
  | .motRetract a => Sys2Proof.Machine.execMotRetract a s
  | .motTest w a => Sys2Proof.Machine.execMotTest w a s
  | .vcmTestEnd a => Sys2Proof.Machine.execVcmTestEnd a s
  | .vcmTestRepeat a => Sys2Proof.Machine.execVcmTestRepeat a s
  | .loadOffRamp a => Sys2Proof.Machine.execLoadOffRamp a s
  | .loadTravelTimeout a => Sys2Proof.Machine.execLoadTravelTimeout a s
  | .actuatorParked a => Sys2Proof.Machine.execActuatorParked a s
  | .retractTimeout a => Sys2Proof.Machine.execRetractTimeout a s
  | .pwmGenSelfCheckFail g => Sys2Proof.Machine.execPwmGenSelfCheckFail g s
  | .pwmGenDisagree => Sys2Proof.Machine.execPwmGenDisagree s
  | .rideThroughEnter => Sys2Proof.Machine.execRideThroughEnter s
  | .rideThroughFlashDone => Sys2Proof.Machine.execRideThroughFlashDone s
  | .rideThroughEnd => Sys2Proof.Machine.execRideThroughEnd s
  | .xbarReadBurst port chan page beat beats upsets => Sys2Proof.Machine.execXbarReadBurst port chan page beat beats upsets s
  | .xbarWriteBurst port page beat data => Sys2Proof.Machine.execXbarWriteBurst port page beat data s
  | .scrubRead upsets => Sys2Proof.Machine.execScrubRead upsets s
  | .memRetireFrame frame => Sys2Proof.Machine.execMemRetireFrame frame s
  | .memRetireBank bank => Sys2Proof.Machine.execMemRetireBank bank s
  | .migration => Sys2Proof.Machine.execMigration s
  | .memAlloc w tag count => Sys2Proof.Machine.execMemAlloc w tag count s
  | .memRelease tag => Sys2Proof.Machine.execMemRelease tag s
  | .planeFence p parity => Sys2Proof.Machine.execPlaneFence p parity s
  | .elogPop => Sys2Proof.Machine.execElogPop s
  | .cacheRequest port chan addr len write stream => Sys2Proof.Machine.execCacheRequest port chan addr len write stream s
  | .cacheFillReturn => Sys2Proof.Machine.execCacheFillReturn s
  | .victimWritebackDone c => Sys2Proof.Machine.execVictimWritebackDone c s
  | .cacheWaitResume => Sys2Proof.Machine.execCacheWaitResume s
  | .bccClean w all => Sys2Proof.Machine.execBccClean w all s
  | .bccInvalidate w all => Sys2Proof.Machine.execBccInvalidate w all s
  | .bccCleanInv w all => Sys2Proof.Machine.execBccCleanInv w all s
  | .bccLockFill w all => Sys2Proof.Machine.execBccLockFill w all s
  | .bccUnlock w all => Sys2Proof.Machine.execBccUnlock w all s
  | .bccZero w all => Sys2Proof.Machine.execBccZero w all s
  | .cacheDrainDone => Sys2Proof.Machine.execCacheDrainDone s
  | .ddrReadComplete c upsets => Sys2Proof.Machine.execDdrReadComplete c upsets s
  | .ddrWriteCrcAlert c => Sys2Proof.Machine.execDdrWriteCrcAlert c s
  | .ddrRefresh c => Sys2Proof.Machine.execDdrRefresh c s
  | .patrolRead c upsets => Sys2Proof.Machine.execPatrolRead c upsets s
  | .ddrFenceCmd mask => Sys2Proof.Machine.execDdrFenceCmd mask s
  | .lgtArm w n => Sys2Proof.Machine.execLgtArm w n s
  | .lgtStop n => Sys2Proof.Machine.execLgtStop n s
  | .lgtBurstIssue lines => Sys2Proof.Machine.execLgtBurstIssue lines s
  | .lgtBurstResponse n k ans => Sys2Proof.Machine.execLgtBurstResponse n k ans s
  | .lgtFlushReadDone n ok => Sys2Proof.Machine.execLgtFlushReadDone n ok s
  | .hostCompletionTimeout n k => Sys2Proof.Machine.execHostCompletionTimeout n k s
  | .pckJobGo w => Sys2Proof.Machine.execPckJobGo w s
  | .packJobStart stall => Sys2Proof.Machine.execPackJobStart stall s
  | .packEncoderResume p stall => Sys2Proof.Machine.execPackEncoderResume p stall s
  | .packInputResume p stall => Sys2Proof.Machine.execPackInputResume p stall s
  | .packJobEnd p => Sys2Proof.Machine.execPackJobEnd p s
  | .pckKeyDataWrite v => Sys2Proof.Machine.execPckKeyDataWrite v s
  | .pckKeyLoad w slot => Sys2Proof.Machine.execPckKeyLoad w slot s
  | .pckKeyErase slot => Sys2Proof.Machine.execPckKeyErase slot s
  | .keyZeroize slot => Sys2Proof.Machine.execKeyZeroize slot s
  | .pckResPop => Sys2Proof.Machine.execPckResPop s
  | .perstNDeassert => Sys2Proof.Machine.execPerstNDeassert s
  | .bar2Access op => Sys2Proof.Machine.execBar2Access op s
  | .d3hotEntry => Sys2Proof.Machine.execD3hotEntry s
  | .d0Entry => Sys2Proof.Machine.execD0Entry s
  | .laneFailed lane errs speed => Sys2Proof.Machine.execLaneFailed lane errs speed s
  | .flr => Sys2Proof.Machine.execFlr s
  | .hotReset => Sys2Proof.Machine.execHotReset s
  | .linkDown => Sys2Proof.Machine.execLinkDown s
  | .flrComplete => Sys2Proof.Machine.execFlrComplete s
  | .doeRequest data => Sys2Proof.Machine.execDoeRequest data s
  | .bqDoorbell w r v => Sys2Proof.Machine.execBqDoorbell w r v s
  | .entryFetch => Sys2Proof.Machine.execEntryFetch s
  | .entryFetchComplete r entries => Sys2Proof.Machine.execEntryFetchComplete r entries s
  | .commandStart tag list => Sys2Proof.Machine.execCommandStart tag list s
  | .commandComplete tag => Sys2Proof.Machine.execCommandComplete tag s
  | .publicationWrite r => Sys2Proof.Machine.execPublicationWrite r s
  | .coalExpiry r => Sys2Proof.Machine.execCoalExpiry r s
  | .freezeSettled r => Sys2Proof.Machine.execFreezeSettled r s
  | .disableSettled r => Sys2Proof.Machine.execDisableSettled r s
  | .adminRingEnable w => Sys2Proof.Machine.execAdminRingEnable w s
  | .adminRingDisable => Sys2Proof.Machine.execAdminRingDisable s
  | .quiesceDone => Sys2Proof.Machine.execQuiesceDone s
  | .readCmd tag => Sys2Proof.Machine.execReadCmd tag s
  | .writeCmd tag => Sys2Proof.Machine.execWriteCmd tag s
  | .zoneAppend tag => Sys2Proof.Machine.execZoneAppend tag s
  | .packedAppend tag => Sys2Proof.Machine.execPackedAppend tag s
  | .parcelRead tag => Sys2Proof.Machine.execParcelRead tag s
  | .zoneOpen tag => Sys2Proof.Machine.execZoneOpen tag s
  | .zoneClose tag => Sys2Proof.Machine.execZoneClose tag s
  | .zoneFinish tag => Sys2Proof.Machine.execZoneFinish tag s
  | .zoneReset tag => Sys2Proof.Machine.execZoneReset tag s
  | .zoneReport tag => Sys2Proof.Machine.execZoneReport tag s
  | .flushCmd tag => Sys2Proof.Machine.execFlushCmd tag s
  | .verify tag => Sys2Proof.Machine.execVerify tag s
  | .peerCopy tag => Sys2Proof.Machine.execPeerCopy tag s
  | .abortCmd tag => Sys2Proof.Machine.execAbortCmd tag s
  | .identify tag => Sys2Proof.Machine.execIdentify tag s
  | .getFeature tag => Sys2Proof.Machine.execGetFeature tag s
  | .setFeature tag => Sys2Proof.Machine.execSetFeature tag s
  | .setLatencyTolerance tag => Sys2Proof.Machine.execSetLatencyTolerance tag s
  | .ringCreate tag => Sys2Proof.Machine.execRingCreate tag s
  | .ringDelete tag => Sys2Proof.Machine.execRingDelete tag s
  | .ringEnable tag => Sys2Proof.Machine.execRingEnable tag s
  | .ringDisable tag => Sys2Proof.Machine.execRingDisable tag s
  | .ringRestart tag => Sys2Proof.Machine.execRingRestart tag s
  | .getLog tag => Sys2Proof.Machine.execGetLog tag s
  | .logbookClear tag data => Sys2Proof.Machine.execLogbookClear tag data s
  | .firmwareDownload tag data => Sys2Proof.Machine.execFirmwareDownload tag data s
  | .firmwareActivate tag => Sys2Proof.Machine.execFirmwareActivate tag s
  | .activationDone => Sys2Proof.Machine.execActivationDone s
  | .keyLoad tag data => Sys2Proof.Machine.execKeyLoad tag data s
  | .keyErase tag => Sys2Proof.Machine.execKeyErase tag s
  | .setTime tag => Sys2Proof.Machine.execSetTime tag s
  | .adoptMedia tag data => Sys2Proof.Machine.execAdoptMedia tag data s
  | .fabricStatus tag => Sys2Proof.Machine.execFabricStatus tag s
  | .tierMapInstall w => Sys2Proof.Machine.execTierMapInstall w s
  | .dispatchStep a => Sys2Proof.Machine.execDispatchStep a s
  | .urgentPreempt a => Sys2Proof.Machine.execUrgentPreempt a s
  | .lockGrant => Sys2Proof.Machine.execLockGrant s
  | .pageAllocGrant => Sys2Proof.Machine.execPageAllocGrant s
  | .idleTimerExpiry k => Sys2Proof.Machine.execIdleTimerExpiry k s
  | .idleEnd => Sys2Proof.Machine.execIdleEnd s
  | .powerStateReached => Sys2Proof.Machine.execPowerStateReached s
  | .portTrainingStart p => Sys2Proof.Machine.execPortTrainingStart p s
  | .portUp p width laneMap fix hello c0 c1 c2 => Sys2Proof.Machine.execPortUp p width laneMap fix hello c0 c1 c2 s
  | .trainFail p => Sys2Proof.Machine.execTrainFail p s
  | .linkLost p => Sys2Proof.Machine.execLinkLost p s
  | .qfbRetrain w p => Sys2Proof.Machine.execQfbRetrain w p s
  | .dataFrame p chk h payload => Sys2Proof.Machine.execDataFrame p chk h payload s
  | .commitFrame p chk h total crc base => Sys2Proof.Machine.execCommitFrame p chk h total crc base s
  | .resultFrame p chk h status retry noXfer lba => Sys2Proof.Machine.execResultFrame p chk h status retry noXfer lba s
  | .doneFrame p chk h => Sys2Proof.Machine.execDoneFrame p chk h s
  | .cancelFrame p chk h => Sys2Proof.Machine.execCancelFrame p chk h s
  | .readReq p chk h a len => Sys2Proof.Machine.execReadReq p chk h a len s
  | .mediaReq p chk h op rlimit sectors lba => Sys2Proof.Machine.execMediaReq p chk h op rlimit sectors lba s
  | .hello p chk hello => Sys2Proof.Machine.execHello p chk hello s
  | .heartbeat p chk => Sys2Proof.Machine.execHeartbeat p chk s
  | .lsa p chk l => Sys2Proof.Machine.execLsa p chk l s
  | .credit p chk f0 f1 f2 => Sys2Proof.Machine.execCredit p chk f0 f1 f2 s
  | .mgmt p chk data => Sys2Proof.Machine.execMgmt p chk data s
  | .helloSend p => Sys2Proof.Machine.execHelloSend p s
  | .heartbeatSend p => Sys2Proof.Machine.execHeartbeatSend p s
  | .lsaOriginate => Sys2Proof.Machine.execLsaOriginate s
  | .lsaExpire => Sys2Proof.Machine.execLsaExpire s
  | .addressAssign => Sys2Proof.Machine.execAddressAssign s
  | .creditSend p => Sys2Proof.Machine.execCreditSend p s
  | .relayTimeout p => Sys2Proof.Machine.execRelayTimeout p s
  | .commitRepeat => Sys2Proof.Machine.execCommitRepeat s
  | .retryResend => Sys2Proof.Machine.execRetryResend s
  | .outcomeDrop => Sys2Proof.Machine.execOutcomeDrop s
  | .stagingDiscard => Sys2Proof.Machine.execStagingDiscard s
  | .xferIdleAbandon => Sys2Proof.Machine.execXferIdleAbandon s
  | .transferRestart => Sys2Proof.Machine.execTransferRestart s
  | .helmCoreFault core => Sys2Proof.Machine.execHelmCoreFault core s
  | .helmSpareSelftest pass => Sys2Proof.Machine.execHelmSpareSelftest pass s
  | .helmCheckpoint => Sys2Proof.Machine.execHelmCheckpoint s
  | .opSecondsPersist => Sys2Proof.Machine.execOpSecondsPersist s
  | .faultRaise src x => Sys2Proof.Machine.execFaultRaise src x s
  | .faultNTimerExpiry => Sys2Proof.Machine.execFaultNTimerExpiry s
  | .wchFnHold w v => Sys2Proof.Machine.execWchFnHold w v s
  | .wchFnForce w v => Sys2Proof.Machine.execWchFnForce w v s
  | .watchLogSwap => Sys2Proof.Machine.execWatchLogSwap s
  | .wchWlogPop w => Sys2Proof.Machine.execWchWlogPop w s
  | .watchSelfCheckFail k => Sys2Proof.Machine.execWatchSelfCheckFail k s
  | .watchDisagree => Sys2Proof.Machine.execWatchDisagree s
  | .watchKat => Sys2Proof.Machine.execWatchKat s
  | .anchorTakeover => Sys2Proof.Machine.execAnchorTakeover s
  | .anchorHalt => Sys2Proof.Machine.execAnchorHalt s
  | .wchInjGo w site mask => Sys2Proof.Machine.execWchInjGo w site mask s
  | .wchInjAuth w => Sys2Proof.Machine.execWchInjAuth w s
  | .wchInjTokenWrite w v => Sys2Proof.Machine.execWchInjTokenWrite w v s
  | .injectionExpiry => Sys2Proof.Machine.execInjectionExpiry s
  | .logbookPersist fail => Sys2Proof.Machine.execLogbookPersist fail s
  | .logFwGo w => Sys2Proof.Machine.execLogFwGo w s
  | .sysGlue w mask => Sys2Proof.Machine.execSysGlue w mask s
  | .registerWrite w sp a be poison v => Sys2Proof.Machine.execRegisterWrite w sp a be poison v s
  | .slowWriteApply w => Sys2Proof.Machine.execSlowWriteApply w s
  | .rcRead w a lag => Sys2Proof.Machine.execRcRead w a lag s
  | .sysRefPop w => Sys2Proof.Machine.execSysRefPop w s
  | .sysTmrExpiry k => Sys2Proof.Machine.execSysTmrExpiry k s
  | .timerCaptureEdge pin => Sys2Proof.Machine.execTimerCaptureEdge pin s
  | .ddrWriteComplete c => Sys2Proof.Machine.execDdrWriteComplete c s
  | .linkUp speed width reversed => Sys2Proof.Machine.execLinkUp speed width reversed s
  | .injectionWindowExpiry => Sys2Proof.Machine.execInjectionWindowExpiry s
  | .temperatureConversion temp => Sys2Proof.Machine.execTemperatureConversion temp s

end Sys2Proof.Machine
end

