-- ==== Sys2Proof/Machine/Footprint.lean ====
section
/-! DEFINITION. What each command may touch: the parts of State and the register arrays that its meaning can reach. The statements about what a
command leaves unchanged (Obligations.PartsFrame, Obligations.RegistersFrame) are in these terms; a command of 292 that touches a part or an
array not named here would refute them. -/

namespace Sys2Proof.Machine
open Reg

/-! ### Register arrays -/

/-- Element `i` of a list, or a default. -/
def nthD {α : Type _} : List α → Nat → α → α
  | [], _, d => d
  | x :: _, 0, _ => x
  | _ :: l, i + 1, d => nthD l i d

/-- The registers and register arrays in the order of RegNames, twenty to a row, then the holding copies that a unit writes: base, and the
distances from one instance to the next. -/
def regFams : List (List (Nat × Nat × Nat)) :=
  [[(0x0, 0, 0), (0x4, 0, 0), (0x10, 0, 0), (0x14, 0, 0), (0x18, 0, 0), (0x1c, 0, 0), (0x20, 0, 0),
    (0x24, 0, 0), (0x28, 0, 0), (0x2c, 0, 0), (0x30, 0, 0), (0x34, 0, 0), (0x40, 0, 0), (0x44, 0, 0),
    (0x60, 0x4, 0), (0x80, 0, 0), (0xa0, 0x4, 0), (0x100, 0, 0), (0x104, 0, 0), (0x108, 0, 0)],
   [(0x10c, 0, 0), (0x110, 0, 0), (0x114, 0, 0), (0x118, 0, 0), (0x120, 0, 0), (0x124, 0, 0), (0x128, 0, 0),
    (0x12c, 0, 0), (0x130, 0, 0), (0x140, 0, 0), (0x144, 0, 0), (0x150, 0, 0), (0x158, 0, 0), (0x15c, 0, 0),
    (0x10000, 0x100, 0), (0x10004, 0x100, 0), (0x10008, 0x100, 0), (0x1000c, 0x100, 0), (0x10010, 0x100, 0), (0x10014, 0x100, 0)],
   [(0x10018, 0x100, 0), (0x1001c, 0x100, 0), (0x1f000, 0, 0), (0x1f004, 0, 0), (0x1f008, 0, 0), (0x1f00c, 0, 0), (0x1f010, 0x4, 0),
    (0x1f020, 0x4, 0), (0x1f030, 0, 0), (0x1f034, 0, 0), (0x1f038, 0, 0), (0x1f03c, 0, 0), (0x1f040, 0, 0), (0x1f044, 0, 0),
    (0x1f048, 0, 0), (0x1fc00, 0, 0), (0x1fc04, 0, 0), (0x1fc08, 0, 0), (0x1fc0c, 0, 0), (0x20000, 0, 0)],
   [(0x20004, 0, 0), (0x20008, 0, 0), (0x2000c, 0, 0), (0x20014, 0, 0), (0x20018, 0, 0), (0x2001c, 0, 0), (0x20020, 0, 0),
    (0x20024, 0, 0), (0x20028, 0, 0), (0x20030, 0, 0), (0x20034, 0, 0), (0x20038, 0, 0), (0x20040, 0, 0), (0x20044, 0, 0),
    (0x20048, 0, 0), (0x2004c, 0, 0), (0x20100, 0x10, 0), (0x20104, 0x10, 0), (0x20108, 0x10, 0), (0x30000, 0x200, 0)],
   [(0x30004, 0x200, 0), (0x30010, 0x200, 0), (0x30014, 0x200, 0), (0x30018, 0x200, 0), (0x3001c, 0x200, 0), (0x30020, 0x200, 0), (0x30030, 0x200, 0),
    (0x30034, 0x200, 0), (0x30038, 0x200, 0), (0x3003c, 0x200, 0), (0x30040, 0x200, 0), (0x3f000, 0, 0), (0x3f004, 0x4, 0), (0x3f014, 0x4, 0),
    (0x3f01c, 0x4, 0), (0x3f024, 0x4, 0), (0x3f02c, 0, 0), (0x3f030, 0, 0), (0x3f034, 0, 0), (0x3f038, 0, 0)],
   [(0x3f03c, 0, 0), (0x40000, 0, 0), (0x40004, 0, 0), (0x40008, 0, 0), (0x4000c, 0, 0), (0x40010, 0, 0), (0x40014, 0, 0),
    (0x40018, 0, 0), (0x4001c, 0, 0), (0x40020, 0, 0), (0x40024, 0, 0), (0x40028, 0, 0), (0x4002c, 0, 0), (0x40030, 0, 0),
    (0x40034, 0, 0), (0x40038, 0, 0), (0x4003c, 0, 0), (0x40040, 0, 0), (0x40044, 0x4, 0), (0x40054, 0, 0)],
   [(0x40058, 0, 0), (0x4005c, 0, 0), (0x40060, 0, 0), (0x40064, 0, 0), (0x40068, 0, 0), (0x4006c, 0, 0), (0x50000, 0, 0),
    (0x50004, 0, 0), (0x50008, 0, 0), (0x5000c, 0, 0), (0x50010, 0, 0), (0x50014, 0, 0), (0x50018, 0, 0), (0x5001c, 0, 0),
    (0x50020, 0, 0), (0x50024, 0, 0), (0x50028, 0, 0), (0x5002c, 0, 0), (0x50030, 0, 0), (0x50034, 0, 0)],
   [(0x50038, 0, 0), (0x58000, 0x400, 0), (0x58004, 0x400, 0), (0x58008, 0x400, 0), (0x5800c, 0x400, 0), (0x58010, 0x400, 0), (0x58014, 0x400, 0),
    (0x5f000, 0, 0), (0x5f004, 0, 0), (0x5f008, 0, 0), (0x5f00c, 0, 0), (0x5f010, 0, 0), (0x60000, 0x40, 0), (0x60004, 0x40, 0),
    (0x60008, 0x40, 0), (0x6000c, 0x40, 0), (0x60010, 0x40, 0), (0x6f000, 0, 0), (0x6f004, 0, 0), (0x6f008, 0, 0)],
   [(0x6f010, 0x4, 0), (0x6f030, 0, 0), (0x6f034, 0, 0), (0x6f040, 0x4, 0), (0x6f050, 0, 0), (0x6f054, 0, 0), (0x6f058, 0x4, 0),
    (0x6f060, 0x4, 0), (0x6f068, 0, 0), (0x80000, 0x800, 0), (0x80004, 0x800, 0), (0x80008, 0x800, 0), (0x8000c, 0x800, 0), (0x80010, 0x800, 0),
    (0x80014, 0x800, 0), (0x80018, 0x800, 0), (0x8001c, 0x800, 0), (0x80020, 0x800, 0), (0x80024, 0x800, 0), (0x80028, 0x800, 0)],
   [(0x8002c, 0x800, 0), (0x80030, 0x800, 0), (0x80034, 0x800, 0), (0x80038, 0x800, 0), (0x8003c, 0x800, 0), (0x80040, 0x800, 0), (0x80044, 0x800, 0),
    (0x80048, 0x800, 0), (0x8004c, 0x800, 0), (0x80050, 0x800, 0), (0x80054, 0x800, 0), (0x80058, 0x800, 0), (0x8005c, 0x800, 0), (0x8f000, 0, 0),
    (0x8f004, 0, 0), (0x8f008, 0, 0), (0x8f00c, 0, 0), (0x8f010, 0, 0), (0x8f014, 0, 0), (0x8f018, 0, 0)],
   [(0x8f01c, 0, 0), (0x8f020, 0, 0), (0x8f024, 0, 0), (0x8f028, 0, 0), (0x8f02c, 0, 0), (0x8f030, 0, 0), (0x8f034, 0, 0),
    (0x8f038, 0, 0), (0x8f03c, 0, 0), (0x90000, 0x40, 0), (0x90004, 0x40, 0), (0x90008, 0x40, 0), (0x9000c, 0x40, 0), (0x9f000, 0, 0),
    (0x9f004, 0, 0), (0x9f008, 0, 0), (0x9f00c, 0, 0), (0x9f010, 0, 0), (0x9f014, 0, 0), (0x9f018, 0, 0)],
   [(0x9f01c, 0, 0), (0x9f020, 0, 0), (0x9f024, 0, 0), (0x9f028, 0, 0), (0x9f02c, 0, 0), (0x9f030, 0, 0), (0x9f034, 0, 0),
    (0x9f038, 0x4, 0), (0xa0000, 0x200, 0), (0xa0004, 0x200, 0), (0xa0008, 0x200, 0), (0xa000c, 0x200, 0), (0xa0010, 0x200, 0), (0xa0014, 0x200, 0),
    (0xa0018, 0x200, 0), (0xa001c, 0x200, 0), (0xb0000, 0x100, 0), (0xb0004, 0x100, 0), (0xb0008, 0x100, 0), (0xb000c, 0x100, 0)],
   [(0xb0010, 0x100, 0), (0xb0014, 0x100, 0), (0xb0018, 0x100, 0), (0xb001c, 0x100, 0), (0xb0020, 0x100, 4), (0xb0040, 0x100, 0), (0xb0044, 0x100, 0),
    (0xb0048, 0x100, 0), (0xb004c, 0x100, 0), (0xbf000, 0, 0), (0xbf004, 0, 0), (0xbf008, 0, 0), (0xbf00c, 0x4, 0), (0xbf01c, 0, 0),
    (0xbf020, 0, 0), (0xbf024, 0, 0), (0xbf028, 0, 0), (0xbf02c, 0, 0), (0xbf030, 0, 0), (0xbf034, 0, 0)],
   [(0xbf038, 0, 0), (0xbf03c, 0, 0), (0xc0000, 0x40, 0), (0xc0004, 0x40, 0), (0xc0008, 0x40, 0), (0xc000c, 0x40, 0), (0xc0010, 0x40, 0),
    (0xc0014, 0x40, 0), (0xcf000, 0, 0), (0xcf004, 0, 0), (0xcf008, 0, 0), (0xcf00c, 0, 0), (0xcf010, 0, 0), (0xcf014, 0, 0),
    (0xcf018, 0, 0), (0xcf01c, 0, 0), (0xcf020, 0, 0), (0xcf024, 0, 0), (0xcf028, 0, 0), (0xcf02c, 0, 0)],
   [(0xcf030, 0, 0), (0xcf034, 0, 0), (0xcf038, 0, 0), (0xcf03c, 0, 0), (0xd0000, 0x40, 0), (0xd0004, 0x40, 0), (0xd0008, 0x40, 0),
    (0xd000c, 0x40, 0), (0xd0010, 0x40, 0), (0xd0014, 0x40, 0), (0xd0018, 0x40, 0), (0xd001c, 0x40, 0), (0xd0020, 0x40, 0), (0xd0024, 0x40, 0),
    (0xd0028, 0x40, 0), (0xdf000, 0, 0), (0xdf004, 0, 0), (0xdf008, 0, 0), (0xdf00c, 0, 0), (0xdf010, 0, 0)],
   [(0xdf014, 0, 0), (0xdf018, 0, 0), (0xdf01c, 0, 0), (0xdf020, 0, 0), (0xdf024, 0, 0), (0xdf028, 0, 0), (0xdf040, 0x10, 0),
    (0xdf044, 0x10, 0), (0xdf048, 0x10, 0), (0xdf04c, 0x10, 0), (0xe0000, 0x40, 0), (0xe0004, 0x40, 0), (0xe0008, 0x40, 0), (0xe000c, 0x40, 0),
    (0xe0010, 0x40, 0), (0xe0014, 0x40, 0), (0xef000, 0, 0), (0xef004, 0, 0), (0xef008, 0, 0), (0xef00c, 0, 0)],
   [(0xef010, 0, 0), (0xef014, 0, 0), (0xef018, 0, 0), (0xef01c, 0, 0), (0xef020, 0, 0), (0xef024, 0, 0), (0xef028, 0, 0),
    (0xef02c, 0, 0), (0xef030, 0, 0), (0xef034, 0, 0), (0xef038, 0, 0), (0xef03c, 0, 0), (0xef040, 0, 0), (0xef044, 0x4, 0),
    (0xef054, 0, 0), (0xef058, 0, 0), (0xef05c, 0, 0), (0xef060, 0, 0), (0xef080, 0x4, 0), (0xf0000, 0x100, 0)],
   [(0xf0004, 0x100, 0), (0xf0008, 0x100, 0), (0xf000c, 0x100, 0), (0xf0010, 0x100, 0), (0xf0014, 0x100, 0), (0xf0018, 0x100, 0), (0xf001c, 0x100, 0),
    (0xff000, 0, 0), (0xff004, 0, 0), (0xff008, 0, 0), (0xff00c, 0, 0), (0xff010, 0, 0), (0xff014, 0, 0), (0xff018, 0, 0),
    (0xff01c, 0, 0), (0xff020, 0, 0), (0xff024, 0, 0), (0xff028, 0, 0), (0xff02c, 0, 0), (0xff040, 0x4, 0)],
   [(0xff100, 0x8, 0), (0xff104, 0x8, 0), (0x100000, 0, 0), (0x100004, 0, 0), (0x100008, 0, 0), (0x10000c, 0, 0), (0x100010, 0, 0),
    (0x100014, 0, 0), (0x100018, 0, 0), (0x10001c, 0, 0), (0x100040, 0x4, 0), (0x100080, 0x4, 0), (0x1000a0, 0, 0), (0x1000a4, 0, 0),
    (0x1000b0, 0, 0), (0x1000b4, 0, 0), (0x1000b8, 0, 0), (0x1000bc, 0, 0), (0x100100, 0x20, 0), (0x100104, 0x20, 0)],
   [(0x100108, 0x20, 0), (0x10010c, 0x20, 0), (0x100110, 0x20, 0), (0x100114, 0x20, 0), (0x100118, 0x20, 0), (0x100200, 0, 0), (0x100204, 0, 0),
    (0x100208, 0, 0), (0x10020c, 0, 0), (0x100210, 0, 0), (0x108000, 0, 0), (0x108004, 0, 0), (0x108008, 0, 0), (0x10800c, 0, 0),
    (0x108010, 0, 0), (0x108014, 0, 0), (0x108018, 0, 0), (0x10801c, 0, 0), (0x108020, 0, 0), (0x108024, 0, 0)],
   [(0x108028, 0, 0), (0x10802c, 0, 0), (0x108030, 0, 0), (0x110000, 0x4, 0), (0x110040, 0, 0), (0x110044, 0, 0), (0x110080, 0, 0),
    (0x110084, 0, 0), (0x2d0000, 0x40, 0), (0x2ef010, 0, 0), (0x2e0000, 0x40, 0), (0x280000, 0x800, 0), (0x2b0000, 0x100, 0)]]

/-- Register array `i`. -/
def famAt (i : Nat) : Nat × Nat × Nat := nthD (nthD regFams (i / 20) []) (i % 20) (0, 0, 0)

/-- Address `a` is an instance of register array `i`. -/
def inFam (i a : Nat) : Prop := ∃ n m, a = (famAt i).1 + n * (famAt i).2.1 + m * (famAt i).2.2

/-- The parts of State, beside the queue. -/
inductive Part where
  | regs | bell | sys | watch | mem | dram | media | chans | dec | wrp | srv | ctl | mot | seqs | stores | lgt | pack | link | bq | cmds | sch | qfb | out | freeCtr
deriving DecidableEq, Repr

/-- A part is the same in two states. -/
def Part.same : Part → State → State → Prop
  | .regs, s, t => t.regs = s.regs
  | .bell, s, t => t.bell = s.bell
  | .sys, s, t => t.sys = s.sys
  | .watch, s, t => t.watch = s.watch
  | .mem, s, t => t.mem = s.mem
  | .dram, s, t => t.dram = s.dram
  | .media, s, t => t.media = s.media
  | .chans, s, t => t.chans = s.chans
  | .dec, s, t => t.dec = s.dec
  | .wrp, s, t => t.wrp = s.wrp
  | .srv, s, t => t.srv = s.srv
  | .ctl, s, t => t.ctl = s.ctl
  | .mot, s, t => t.mot = s.mot
  | .seqs, s, t => t.seqs = s.seqs
  | .stores, s, t => t.stores = s.stores
  | .lgt, s, t => t.lgt = s.lgt
  | .pack, s, t => t.pack = s.pack
  | .link, s, t => t.link = s.link
  | .bq, s, t => t.bq = s.bq
  | .cmds, s, t => t.cmds = s.cmds
  | .sch, s, t => t.sch = s.sch
  | .qfb, s, t => t.qfb = s.qfb
  | .out, s, t => t.out = s.out
  | .freeCtr, s, t => t.freeCtr = s.freeCtr

/-! ### The numbers of the register arrays -/

def Reg.SYS_ID.no : Nat := 0
def Reg.SYS_REV.no : Nat := 1
def Reg.SYS_GLUE.no : Nat := 2
def Reg.SYS_GLUE_HOLD.no : Nat := 3
def Reg.SYS_GLUE_STAT.no : Nat := 4
def Reg.SYS_GLUE_PEND.no : Nat := 5
def Reg.SYS_STATUS.no : Nat := 6
def Reg.SYS_INT_EN.no : Nat := 7
def Reg.SYS_REF_DATA0.no : Nat := 8
def Reg.SYS_REF_DATA1.no : Nat := 9
def Reg.SYS_REF_CNT.no : Nat := 10
def Reg.SYS_XING_STAT.no : Nat := 11
def Reg.SYS_OWN_SEL.no : Nat := 12
def Reg.SYS_OWN_DATA.no : Nat := 13
def Reg.SYS_TMR_CFG.no : Nat := 14
def Reg.SYS_TMR_STAT.no : Nat := 15
def Reg.SYS_TMR_CAP.no : Nat := 16
def Reg.SYS_MODE.no : Nat := 17
def Reg.SYS_START.no : Nat := 18
def Reg.SYS_RESET_CMD.no : Nat := 19
def Reg.SYS_WDOG_CFG.no : Nat := 20
def Reg.SYS_HELM_STAT.no : Nat := 21
def Reg.SYS_WDOG_KICK.no : Nat := 22
def Reg.SYS_HELM_INT_EN.no : Nat := 23
def Reg.SYS_PWR_CYCLES.no : Nat := 24
def Reg.SYS_WARM_STARTS.no : Nat := 25
def Reg.SYS_OP_SEC_LO.no : Nat := 26
def Reg.SYS_OP_SEC_HI.no : Nat := 27
def Reg.SYS_HELM_CNT.no : Nat := 28
def Reg.SYS_MEAS_SEL.no : Nat := 29
def Reg.SYS_MEAS_DATA.no : Nat := 30
def Reg.SYS_FUSE_STAT.no : Nat := 31
def Reg.SYS_SERIAL_LO.no : Nat := 32
def Reg.SYS_SERIAL_HI.no : Nat := 33
def Reg.BQ_BASE_LO.no : Nat := 34
def Reg.BQ_BASE_HI.no : Nat := 35
def Reg.BQ_RES_LO.no : Nat := 36
def Reg.BQ_RES_HI.no : Nat := 37
def Reg.BQ_CFG.no : Nat := 38
def Reg.BQ_DOORBELL.no : Nat := 39
def Reg.BQ_STATE.no : Nat := 40
def Reg.BQ_INDEX.no : Nat := 41
def Reg.BQ_CTRL.no : Nat := 42
def Reg.BQ_STATUS.no : Nat := 43
def Reg.BQ_INT_EN.no : Nat := 44
def Reg.BQ_INFLIGHT.no : Nat := 45
def Reg.BQ_ENABLED.no : Nat := 46
def Reg.BQ_FROZEN.no : Nat := 47
def Reg.BQ_FRZ_SEL.no : Nat := 48
def Reg.BQ_FRZ_DATA.no : Nat := 49
def Reg.BQ_FETCH_CNT.no : Nat := 50
def Reg.BQ_PUB_CNT.no : Nat := 51
def Reg.BQ_DB_CNT.no : Nat := 52
def Reg.BQ_ABORT_CNT.no : Nat := 53
def Reg.BQ_MARKS.no : Nat := 54
def Reg.BQ_LINK_CFG.no : Nat := 55
def Reg.BQ_LINK_STAT.no : Nat := 56
def Reg.BQ_LINK_EVT.no : Nat := 57
def Reg.BQ_LINK_CNT.no : Nat := 58
def Reg.SCH_CTRL.no : Nat := 59
def Reg.SCH_ARB_CFG.no : Nat := 60
def Reg.SCH_RPO_CFG.no : Nat := 61
def Reg.SCH_INT_EN.no : Nat := 62
def Reg.SCH_IDLE_LO.no : Nat := 63
def Reg.SCH_IDLE_HI.no : Nat := 64
def Reg.SCH_LAT_TOL.no : Nat := 65
def Reg.SCH_PWR_CFG.no : Nat := 66
def Reg.SCH_PWR_STAT.no : Nat := 67
def Reg.SCH_STATUS.no : Nat := 68
def Reg.SCH_LOCK_USE.no : Nat := 69
def Reg.SCH_PREEMPT_CNT.no : Nat := 70
def Reg.SCH_PWR_CNT.no : Nat := 71
def Reg.SCH_TIER_ADDR_LO.no : Nat := 72
def Reg.SCH_TIER_ADDR_HI.no : Nat := 73
def Reg.SCH_TIER_CMD.no : Nat := 74
def Reg.SCH_TIER_RESP.no : Nat := 75
def Reg.SCH_TIER.no : Nat := 76
def Reg.SCH_CAND.no : Nat := 77
def Reg.SCH_COST.no : Nat := 78
def Reg.LGT_CTRL.no : Nat := 79
def Reg.LGT_STATUS.no : Nat := 80
def Reg.LGT_A_BUF.no : Nat := 81
def Reg.LGT_A_FAR_LO.no : Nat := 82
def Reg.LGT_A_FAR_HI.no : Nat := 83
def Reg.LGT_A_COUNT.no : Nat := 84
def Reg.LGT_A_ATTR.no : Nat := 85
def Reg.LGT_S_BUF.no : Nat := 86
def Reg.LGT_S_FAR_LO.no : Nat := 87
def Reg.LGT_S_FAR_HI.no : Nat := 88
def Reg.LGT_S_COUNT.no : Nat := 89
def Reg.LGT_S_ATTR.no : Nat := 90
def Reg.LGT_CFG.no : Nat := 91
def Reg.LGT_PACE_OWN.no : Nat := 92
def Reg.LGT_PEND.no : Nat := 93
def Reg.LGT_BUSY.no : Nat := 94
def Reg.LGT_FENCED.no : Nat := 95
def Reg.LGT_PREQ.no : Nat := 96
def Reg.LGT_REC_CNT.no : Nat := 97
def Reg.LGT_BYTE_CNT.no : Nat := 98
def Reg.LGT_PREEMPT_CNT.no : Nat := 99
def Reg.LGT_GSTATUS.no : Nat := 100
def Reg.MEM_CTRL.no : Nat := 101
def Reg.MEM_STATUS.no : Nat := 102
def Reg.MEM_INT_EN.no : Nat := 103
def Reg.MEM_SCRUB_CFG.no : Nat := 104
def Reg.MEM_SCRUB_STAT.no : Nat := 105
def Reg.MEM_CACHE_RGN.no : Nat := 106
def Reg.MEM_TABLE_RGN.no : Nat := 107
def Reg.MEM_MAP_CFG.no : Nat := 108
def Reg.MEM_POOL_CFG.no : Nat := 109
def Reg.MEM_CARVE_STAT.no : Nat := 110
def Reg.MEM_RETIRE_CMD.no : Nat := 111
def Reg.MEM_RETIRE_STAT.no : Nat := 112
def Reg.MEM_BANK_RETIRED.no : Nat := 113
def Reg.MEM_PAGE_CMD.no : Nat := 114
def Reg.MEM_PAGE_RESP.no : Nat := 115
def Reg.MEM_PSTATE_ADDR.no : Nat := 116
def Reg.MEM_PSTATE_DATA.no : Nat := 117
def Reg.MEM_ELOG_DATA.no : Nat := 118
def Reg.MEM_ELOG_CNT.no : Nat := 119
def Reg.MEM_ERR_CNT.no : Nat := 120
def Reg.MEM_SCRUB_CNT.no : Nat := 121
def Reg.MEM_PLANE_STAT.no : Nat := 122
def Reg.MEM_PLANE_CFG.no : Nat := 123
def Reg.MEM_FREE.no : Nat := 124
def Reg.MEM_TRAIL_CFG.no : Nat := 125
def Reg.BCC_CTRL.no : Nat := 126
def Reg.BCC_STATUS.no : Nat := 127
def Reg.BCC_MAINT_ADDR_LO.no : Nat := 128
def Reg.BCC_MAINT_ADDR_HI.no : Nat := 129
def Reg.BCC_MAINT_CMD.no : Nat := 130
def Reg.BCC_MAINT_LEN.no : Nat := 131
def Reg.BCC_MAINT_RESP.no : Nat := 132
def Reg.BCC_MAINT_RESP2.no : Nat := 133
def Reg.BCC_INT_EN.no : Nat := 134
def Reg.BCC_STREAM_MASK.no : Nat := 135
def Reg.BCC_BAR2_BASE.no : Nat := 136
def Reg.BCC_HIT_CNT.no : Nat := 137
def Reg.BCC_MISS_CNT.no : Nat := 138
def Reg.BCC_MERGE_CNT.no : Nat := 139
def Reg.BCC_OCC.no : Nat := 140
def Reg.DDR_CFG.no : Nat := 141
def Reg.DDR_STATUS.no : Nat := 142
def Reg.DDR_INT_EN.no : Nat := 143
def Reg.DDR_ERR_CNT.no : Nat := 144
def Reg.DDR_DEV_CNT_ADDR.no : Nat := 145
def Reg.DDR_DEV_CNT.no : Nat := 146
def Reg.DDR_MAP_CFG.no : Nat := 147
def Reg.DDR_PATROL_CFG.no : Nat := 148
def Reg.DDR_TRAIN_PTR.no : Nat := 149
def Reg.DDR_FENCE_CMD.no : Nat := 150
def Reg.DDR_GSTATUS.no : Nat := 151
def Reg.PCK_CTRL.no : Nat := 152
def Reg.PCK_ISTATUS.no : Nat := 153
def Reg.PCK_IN_CNT.no : Nat := 154
def Reg.PCK_OUT_CNT.no : Nat := 155
def Reg.PCK_JOB_CNT.no : Nat := 156
def Reg.PCK_CFG.no : Nat := 157
def Reg.PCK_STATUS.no : Nat := 158
def Reg.PCK_INT_EN.no : Nat := 159
def Reg.PCK_JOB.no : Nat := 160
def Reg.PCK_JOB_GO.no : Nat := 161
def Reg.PCK_QUEUE.no : Nat := 162
def Reg.PCK_RES.no : Nat := 163
def Reg.PCK_KEY_CMD.no : Nat := 164
def Reg.PCK_KEY_DATA.no : Nat := 165
def Reg.PCK_KEY_STAT.no : Nat := 166
def Reg.PCK_KEY_BUSY.no : Nat := 167
def Reg.PCK_ERR_CNT.no : Nat := 168
def Reg.RCH_CTRL.no : Nat := 169
def Reg.RCH_AFE_CFG.no : Nat := 170
def Reg.RCH_AGC_CFG.no : Nat := 171
def Reg.RCH_BLC_CFG.no : Nat := 172
def Reg.RCH_TA_CFG.no : Nat := 173
def Reg.RCH_TR_CFG.no : Nat := 174
def Reg.RCH_DET_CFG.no : Nat := 175
def Reg.RCH_SYNC_CFG.no : Nat := 176
def Reg.RCH_ADAPT_CFG.no : Nat := 177
def Reg.RCH_COEF_ADDR.no : Nat := 178
def Reg.RCH_COEF_DATA.no : Nat := 179
def Reg.RCH_AGC_STAT.no : Nat := 180
def Reg.RCH_TR_STAT.no : Nat := 181
def Reg.RCH_SYNC_STAT.no : Nat := 182
def Reg.RCH_QUAL.no : Nat := 183
def Reg.RCH_HEALTH_A.no : Nat := 184
def Reg.RCH_HEALTH_B.no : Nat := 185
def Reg.RCH_STATUS.no : Nat := 186
def Reg.RCH_INT_EN.no : Nat := 187
def Reg.RCH_SECT_CNT.no : Nat := 188
def Reg.RCH_SYNC_CNT.no : Nat := 189
def Reg.RCH_EVT_CNT.no : Nat := 190
def Reg.RCH_RET_PTR.no : Nat := 191
def Reg.RCH_MAP.no : Nat := 192
def Reg.RCH_PRIMARY_LO.no : Nat := 193
def Reg.RCH_PRIMARY_HI.no : Nat := 194
def Reg.RCH_RESCUE_LO.no : Nat := 195
def Reg.RCH_RESCUE_HI.no : Nat := 196
def Reg.RCH_FRAG_LO.no : Nat := 197
def Reg.RCH_FRAG_HI.no : Nat := 198
def Reg.RCH_RET_CFG.no : Nat := 199
def Reg.RCH_RET_BASE.no : Nat := 200
def Reg.RCH_RET_STAT.no : Nat := 201
def Reg.RCH_SPARE_MAP.no : Nat := 202
def Reg.RCH_SPARE_CMD.no : Nat := 203
def Reg.RCH_RATE_ADDR.no : Nat := 204
def Reg.RCH_RATE_DATA.no : Nat := 205
def Reg.RCH_SEL_CNT.no : Nat := 206
def Reg.RCH_GSTATUS.no : Nat := 207
def Reg.RCH_PRESENT.no : Nat := 208
def Reg.DEC_CTRL.no : Nat := 209
def Reg.DEC_ESTATUS.no : Nat := 210
def Reg.DEC_ITER_CNT.no : Nat := 211
def Reg.DEC_SECT_CNT.no : Nat := 212
def Reg.DEC_CFG.no : Nat := 213
def Reg.DEC_RETRY_CFG.no : Nat := 214
def Reg.DEC_STATUS.no : Nat := 215
def Reg.DEC_INT_EN.no : Nat := 216
def Reg.DEC_BUDGET_STAT.no : Nat := 217
def Reg.DEC_DEEP_STAT.no : Nat := 218
def Reg.DEC_IN_SERVICE.no : Nat := 219
def Reg.DEC_IN_SERVICE_DEEP.no : Nat := 220
def Reg.DEC_CONV_CNT.no : Nat := 221
def Reg.DEC_ALIGN_CNT.no : Nat := 222
def Reg.DEC_DEEP_CNT.no : Nat := 223
def Reg.DEC_REREAD_CNT.no : Nat := 224
def Reg.DEC_ERR_CNT.no : Nat := 225
def Reg.DEC_TRACE_CTRL.no : Nat := 226
def Reg.DEC_TRACE_DATA.no : Nat := 227
def Reg.WRP_CTRL.no : Nat := 228
def Reg.WRP_WC_CFG.no : Nat := 229
def Reg.WRP_HTR_CFG.no : Nat := 230
def Reg.WRP_PRECOMP.no : Nat := 231
def Reg.WRP_STATUS.no : Nat := 232
def Reg.WRP_EVT_CNT.no : Nat := 233
def Reg.WRP_PA_CMD.no : Nat := 234
def Reg.WRP_PA_RESP.no : Nat := 235
def Reg.SEQ_CTRL.no : Nat := 236
def Reg.SEQ_STATUS.no : Nat := 237
def Reg.SEQ_INT_EN.no : Nat := 238
def Reg.SEQ_PC.no : Nat := 239
def Reg.SEQ_ENTRY.no : Nat := 240
def Reg.SEQ_HOOK_BUDGET.no : Nat := 241
def Reg.SEQ_SIGNAL.no : Nat := 242
def Reg.SEQ_WINDOW.no : Nat := 243
def Reg.SEQ_V.no : Nat := 244
def Reg.SEQ_LC_SP.no : Nat := 245
def Reg.SEQ_EVT_CNT.no : Nat := 246
def Reg.SEQ_FORMAT.no : Nat := 247
def Reg.SEQ_ENDS.no : Nat := 248
def Reg.SEQ_LOCK.no : Nat := 249
def Reg.SEQ_LOAD_STAT.no : Nat := 250
def Reg.SEQ_STORE_ADDR.no : Nat := 251
def Reg.SEQ_STORE_DATA.no : Nat := 252
def Reg.SEQ_STORE_ERR.no : Nat := 253
def Reg.SEQ_PATCH_LEVEL.no : Nat := 254
def Reg.SEQ_CUST_ID.no : Nat := 255
def Reg.SEQ_GSTATUS.no : Nat := 256
def Reg.SEQ_GINT_EN.no : Nat := 257
def Reg.SEQ_FLUSH.no : Nat := 258
def Reg.SEQ_BASE_VER.no : Nat := 259
def Reg.SEQ_HOOK_MAP.no : Nat := 260
def Reg.SEQ_PRESENT.no : Nat := 261
def Reg.SRV_CFG.no : Nat := 262
def Reg.SRV_STATUS.no : Nat := 263
def Reg.SRV_PE.no : Nat := 264
def Reg.SRV_ID.no : Nat := 265
def Reg.SRV_SKEW.no : Nat := 266
def Reg.SRV_CNT.no : Nat := 267
def Reg.SRV_CTRL.no : Nat := 268
def Reg.SRV_SAM_PAT.no : Nat := 269
def Reg.SRV_WIN_CFG.no : Nat := 270
def Reg.SRV_LOSS_CFG.no : Nat := 271
def Reg.SRV_AMP_CFG.no : Nat := 272
def Reg.SRV_BT_CFG.no : Nat := 273
def Reg.SRV_TREF.no : Nat := 274
def Reg.SRV_BELL_LO.no : Nat := 275
def Reg.SRV_BELL_HI.no : Nat := 276
def Reg.SRV_PERIOD.no : Nat := 277
def Reg.SRV_WEDGE.no : Nat := 278
def Reg.SRV_GSTATUS.no : Nat := 279
def Reg.SRV_INT_EN.no : Nat := 280
def Reg.SRV_LOADED.no : Nat := 281
def Reg.SRV_LOST.no : Nat := 282
def Reg.SRV_PRESENT.no : Nat := 283
def Reg.CTL_CFG.no : Nat := 284
def Reg.CTL_CMD.no : Nat := 285
def Reg.CTL_STATUS.no : Nat := 286
def Reg.CTL_OSC_CFG.no : Nat := 287
def Reg.CTL_OSC_THRESH.no : Nat := 288
def Reg.CTL_OUT.no : Nat := 289
def Reg.CTL_ERR.no : Nat := 290
def Reg.CTL_ENERGY.no : Nat := 291
def Reg.CTL_CENTRE.no : Nat := 292
def Reg.CTL_XDISP.no : Nat := 293
def Reg.CTL_CNT.no : Nat := 294
def Reg.CTL_CTRL.no : Nat := 295
def Reg.CTL_GSTATUS.no : Nat := 296
def Reg.CTL_INT_EN.no : Nat := 297
def Reg.CTL_LANE_STAT.no : Nat := 298
def Reg.CTL_LANE_CNT.no : Nat := 299
def Reg.CTL_COEF_ADDR.no : Nat := 300
def Reg.CTL_COEF_LO.no : Nat := 301
def Reg.CTL_COEF_HI.no : Nat := 302
def Reg.CTL_SETTLE_CFG.no : Nat := 303
def Reg.CTL_HO_CFG.no : Nat := 304
def Reg.CTL_SLOT_STAT.no : Nat := 305
def Reg.PROF_TARGET.no : Nat := 306
def Reg.PROF_CMD.no : Nat := 307
def Reg.PROF_STAT.no : Nat := 308
def Reg.PROF_POS.no : Nat := 309
def Reg.MOT_VCM_CFG.no : Nat := 310
def Reg.MOT_VCM_MOVE.no : Nat := 311
def Reg.MOT_VCM_TEST.no : Nat := 312
def Reg.MOT_CMD.no : Nat := 313
def Reg.MOT_ASTATUS.no : Nat := 314
def Reg.MOT_MEAS.no : Nat := 315
def Reg.MOT_CTRL.no : Nat := 316
def Reg.MOT_SP_CMD.no : Nat := 317
def Reg.MOT_SP_STAT.no : Nat := 318
def Reg.MOT_SPEED.no : Nat := 319
def Reg.MOT_SP_CFG.no : Nat := 320
def Reg.MOT_START_CFG.no : Nat := 321
def Reg.MOT_SENSE_CFG.no : Nat := 322
def Reg.MOT_FOC_CFG.no : Nat := 323
def Reg.MOT_PWM_CFG.no : Nat := 324
def Reg.MOT_BUS_CFG.no : Nat := 325
def Reg.MOT_RT_CFG.no : Nat := 326
def Reg.MOT_ENC_OFS.no : Nat := 327
def Reg.MOT_BUS.no : Nat := 328
def Reg.MOT_STATUS.no : Nat := 329
def Reg.MOT_INT_EN.no : Nat := 330
def Reg.MOT_PWM_STAT.no : Nat := 331
def Reg.MOT_MA_FAULT.no : Nat := 332
def Reg.MOT_RET_WORD.no : Nat := 333
def Reg.MOT_BEAT.no : Nat := 334
def Reg.MOT_CNT.no : Nat := 335
def Reg.MOT_RT_STAT.no : Nat := 336
def Reg.MOT_AUX_CFG.no : Nat := 337
def Reg.MOT_ADC.no : Nat := 338
def Reg.QFB_PCTRL.no : Nat := 339
def Reg.QFB_PSTATUS.no : Nat := 340
def Reg.QFB_CREDIT_CFG.no : Nat := 341
def Reg.QFB_PEER.no : Nat := 342
def Reg.QFB_PEER_SN_LO.no : Nat := 343
def Reg.QFB_PEER_SN_HI.no : Nat := 344
def Reg.QFB_PINT_EN.no : Nat := 345
def Reg.QFB_PCNT.no : Nat := 346
def Reg.QFB_CFG.no : Nat := 347
def Reg.QFB_TIMER_CFG.no : Nat := 348
def Reg.QFB_XFER_CFG.no : Nat := 349
def Reg.QFB_ARB_CFG.no : Nat := 350
def Reg.QFB_ADDR.no : Nat := 351
def Reg.QFB_STATUS.no : Nat := 352
def Reg.QFB_INT_EN.no : Nat := 353
def Reg.QFB_REACH.no : Nat := 354
def Reg.QFB_ROUTE_ADDR.no : Nat := 355
def Reg.QFB_ROUTE_DATA.no : Nat := 356
def Reg.QFB_XFER_STAT.no : Nat := 357
def Reg.QFB_CNT.no : Nat := 358
def Reg.QFB_ALLOW.no : Nat := 359
def Reg.QFB_WIN_BASE.no : Nat := 360
def Reg.QFB_WIN_CFG.no : Nat := 361
def Reg.WCH_CTRL.no : Nat := 362
def Reg.WCH_FN_CTRL.no : Nat := 363
def Reg.WCH_STATUS.no : Nat := 364
def Reg.WCH_INT_EN.no : Nat := 365
def Reg.WCH_SRC_SEL.no : Nat := 366
def Reg.WCH_SRC_CFG.no : Nat := 367
def Reg.WCH_SRC_STAT.no : Nat := 368
def Reg.WCH_SRC_CNT.no : Nat := 369
def Reg.WCH_RAISED.no : Nat := 370
def Reg.WCH_CLASS_CNT.no : Nat := 371
def Reg.WCH_INST.no : Nat := 372
def Reg.WCH_ANCHOR.no : Nat := 373
def Reg.WCH_WLOG_LO.no : Nat := 374
def Reg.WCH_WLOG_HI.no : Nat := 375
def Reg.WCH_WLOG_STAT.no : Nat := 376
def Reg.WCH_WLOG_CNT.no : Nat := 377
def Reg.WCH_FEC_INFO.no : Nat := 378
def Reg.WCH_FEC_ADDR_LO.no : Nat := 379
def Reg.WCH_FEC_ADDR_HI.no : Nat := 380
def Reg.WCH_FEC_BELL_LO.no : Nat := 381
def Reg.WCH_FEC_BELL_HI.no : Nat := 382
def Reg.WCH_FEC_FINE.no : Nat := 383
def Reg.WCH_FEC_CTRL.no : Nat := 384
def Reg.WCH_INJ_CMD.no : Nat := 385
def Reg.WCH_INJ_ARG_LO.no : Nat := 386
def Reg.WCH_INJ_ARG_HI.no : Nat := 387
def Reg.WCH_INJ_TOKEN.no : Nat := 388
def Reg.WCH_INJ_STAT.no : Nat := 389
def Reg.LOG_CTRL.no : Nat := 390
def Reg.LOG_STAT.no : Nat := 391
def Reg.LOG_SEQ_LO.no : Nat := 392
def Reg.LOG_SEQ_HI.no : Nat := 393
def Reg.LOG_READ_IDX.no : Nat := 394
def Reg.LOG_READ_DATA.no : Nat := 395
def Reg.LOG_SNAP_SEL.no : Nat := 396
def Reg.LOG_SNAP_DATA.no : Nat := 397
def Reg.LOG_FW_TYPE.no : Nat := 398
def Reg.LOG_FW_DETAIL_LO.no : Nat := 399
def Reg.LOG_FW_DETAIL_HI.no : Nat := 400
def Reg.LOG_FW_GO.no : Nat := 401
def Reg.LOG_CNT.no : Nat := 402
def Reg.PAD_GPIO_CFG.no : Nat := 403
def Reg.PAD_GPIO_IN.no : Nat := 404
def Reg.PAD_GPIO_OUT.no : Nat := 405
def Reg.PAD_TEMP.no : Nat := 406
def Reg.PAD_SUPPLY.no : Nat := 407
/-- The holding copies of CTL_CFG. -/
def Reg.CTL_CFG.held : Nat := 408
/-- The holding copies of MOT_SP_CFG. -/
def Reg.MOT_SP_CFG.held : Nat := 409
/-- The holding copies of MOT_VCM_CFG. -/
def Reg.MOT_VCM_CFG.held : Nat := 410
/-- The holding copies of RCH_CTRL. -/
def Reg.RCH_CTRL.held : Nat := 411
/-- The holding copies of SEQ_CTRL. -/
def Reg.SEQ_CTRL.held : Nat := 412

/-! ### Arrays that move together -/

/-- A raised fault source (R457, R458): counts, first-error capture, logs, FAULT_N, mode. -/
def raisedArrays : List Nat :=
  [SYS_MODE.no, WCH_CTRL.no, WCH_FN_CTRL.no, WCH_STATUS.no, WCH_RAISED.no, WCH_CLASS_CNT.no, WCH_WLOG_CNT.no, WCH_FEC_INFO.no, WCH_FEC_ADDR_LO.no,
   WCH_FEC_ADDR_HI.no, WCH_FEC_BELL_LO.no, WCH_FEC_BELL_HI.no, WCH_FEC_FINE.no, WCH_FEC_CTRL.no, LOG_STAT.no, LOG_CNT.no]
/-- Work of a command that is stopped (R341): its locks, Lighter records, pages, Pack jobs, decodes and fabric transfers. -/
def stoppedArrays : List Nat :=
  [SCH_LOCK_USE.no, LGT_CTRL.no, LGT_STATUS.no, LGT_A_BUF.no, LGT_A_FAR_LO.no, LGT_A_FAR_HI.no, LGT_A_COUNT.no, LGT_A_ATTR.no, LGT_S_ATTR.no,
   LGT_BUSY.no, LGT_REC_CNT.no, MEM_STATUS.no, MEM_CARVE_STAT.no, MEM_RETIRE_STAT.no, MEM_BANK_RETIRED.no, MEM_FREE.no, PCK_JOB_CNT.no,
   PCK_STATUS.no, PCK_QUEUE.no, PCK_KEY_STAT.no, PCK_KEY_BUSY.no, PCK_ERR_CNT.no, DEC_DEEP_STAT.no, QFB_XFER_STAT.no]
/-- A head or an actuator that is lost: its gates, tracking, loops and state. -/
def headLostArrays : List Nat :=
  [WRP_STATUS.no, WRP_EVT_CNT.no, SEQ_EVT_CNT.no, SRV_STATUS.no, SRV_LOADED.no, SRV_LOST.no, CTL_STATUS.no, CTL_OUT.no, PROF_STAT.no, MOT_ASTATUS.no]
/-- A Lighter record that ends or starts, and its fabric transfer (R272 to R281, R420). -/
def lighterEndArrays : List Nat :=
  [LGT_CTRL.no, LGT_STATUS.no, LGT_A_BUF.no, LGT_A_FAR_LO.no, LGT_A_FAR_HI.no, LGT_A_COUNT.no, LGT_A_ATTR.no, LGT_S_ATTR.no, LGT_BUSY.no,
   LGT_REC_CNT.no, QFB_XFER_STAT.no]
/-- A sequencer in its window (R131 to R143). -/
def windowArrays : List Nat :=
  [WRP_PA_CMD.no, SEQ_CTRL.no, SEQ_STATUS.no, SEQ_PC.no, SEQ_SIGNAL.no, SEQ_WINDOW.no, SEQ_V.no, SEQ_LC_SP.no, SEQ_ENDS.no, SEQ_STORE_ERR.no,
   SEQ_GSTATUS.no, SEQ_FLUSH.no, SEQ_CTRL.held]
/-- A cache operation on lines (R256, R257). -/
def cacheOpArrays : List Nat :=
  [MEM_STATUS.no, MEM_ELOG_CNT.no, MEM_ERR_CNT.no, MEM_PLANE_STAT.no, BCC_STATUS.no, BCC_MAINT_RESP.no, BCC_MAINT_RESP2.no, BCC_OCC.no, DDR_GSTATUS.no]
/-- A ring and its indices (R323 to R338). -/
def ringRegsArrays : List Nat :=
  [BQ_BASE_LO.no, BQ_BASE_HI.no, BQ_RES_LO.no, BQ_RES_HI.no, BQ_CFG.no, BQ_DOORBELL.no, BQ_STATE.no, BQ_INDEX.no, BQ_CTRL.no, BQ_ENABLED.no,
   BQ_FROZEN.no]
/-- A unit that is fenced, with its handover (R460). -/
def unitFencedArrays : List Nat :=
  [SYS_HELM_STAT.no, SYS_HELM_CNT.no, LGT_FENCED.no, LGT_GSTATUS.no, MEM_ELOG_CNT.no, MEM_ERR_CNT.no, MEM_PLANE_STAT.no, BCC_STATUS.no,
   BCC_MAINT_RESP.no, BCC_MAINT_RESP2.no, BCC_OCC.no, DDR_STATUS.no, DDR_GSTATUS.no, PCK_ISTATUS.no, RCH_CTRL.no, RCH_AFE_CFG.no, RCH_AGC_CFG.no,
   RCH_BLC_CFG.no, RCH_TA_CFG.no, RCH_TR_CFG.no, RCH_DET_CFG.no, RCH_SYNC_CFG.no, RCH_ADAPT_CFG.no, RCH_STATUS.no, RCH_MAP.no, RCH_RET_STAT.no,
   RCH_SPARE_MAP.no, RCH_GSTATUS.no, DEC_ESTATUS.no, DEC_STATUS.no, DEC_IN_SERVICE.no, DEC_IN_SERVICE_DEEP.no, DEC_REREAD_CNT.no, SEQ_CTRL.no,
   SEQ_STATUS.no, SEQ_PC.no, SEQ_LC_SP.no, SEQ_ENDS.no, SEQ_FLUSH.no, SRV_SKEW.no, SRV_TREF.no, SRV_WEDGE.no, SRV_GSTATUS.no, CTL_GSTATUS.no,
   CTL_LANE_STAT.no, MOT_SP_STAT.no, MOT_STATUS.no, MOT_PWM_STAT.no, MOT_MA_FAULT.no, MOT_BEAT.no, MOT_CNT.no, QFB_PSTATUS.no, QFB_PEER.no,
   QFB_PEER_SN_LO.no, QFB_PEER_SN_HI.no, QFB_PCNT.no, QFB_STATUS.no, QFB_REACH.no, WCH_INST.no]

end Sys2Proof.Machine

namespace Sys2Proof
open Machine Reg

/-- The commands that may write any register: those that bring a reset or a start, those that apply register writes, glue-ups or whole
profiles, and the bell with all its jobs. -/
def Instr.anyRegister : Instr → Bool
  | .powerOn => true
  | .brownOut => true
  | .perstNAssert .. => true
  | .resetNAssert .. => true
  | .sysResetCmd .. => true
  | .helmWatchdogExpiry .. => true
  | .resetRelease .. => true
  | .busGoodRestart .. => true
  | .bellEdge .. => true
  | .setFeature .. => true
  | .activationDone => true
  | .sysGlue .. => true
  | .registerWrite .. => true
  | .slowWriteApply .. => true
  | .rcRead .. => true
  | _ => false

/-- The register arrays that a command may write. -/
def Instr.arrays : Instr → List Nat
  | .powerOn => []
  | .brownOut => []
  | .supplyFault .. => raisedArrays ++ [WRP_STATUS.no, WRP_EVT_CNT.no, SEQ_EVT_CNT.no, PAD_SUPPLY.no]
  | .supplyFaultClear => []
  | .perstNAssert .. => []
  | .resetNAssert .. => []
  | .sysResetCmd .. => []
  | .helmWatchdogExpiry .. => []
  | .wdogKick .. => [SYS_STATUS.no, SYS_REF_CNT.no]
  | .resetRelease .. => []
  | .ddrTrainingDone .. => raisedArrays ++ cacheOpArrays ++ [DDR_STATUS.no]
  | .registerSpaceOpen .. => [SYS_MODE.no, BQ_STATUS.no, RCH_CTRL.no, WRP_STATUS.no, CTL_STATUS.no, CTL_OUT.no, PROF_STAT.no, MOT_SP_STAT.no, MOT_MA_FAULT.no, QFB_ADDR.no,
    WCH_CTRL.no, WCH_FN_CTRL.no, LOG_STAT.no, LOG_CNT.no, RCH_CTRL.held]
  | .systemAreaReadDone .. => [SYS_STATUS.no, SYS_REF_CNT.no, SYS_MODE.no, SYS_START.no, BQ_STATUS.no, LOG_STAT.no]
  | .aliveSet .. => [SYS_STATUS.no, SYS_REF_CNT.no, SYS_START.no, SYS_FUSE_STAT.no]
  | .busGoodRestart .. => []
  | .bellEdge .. => []
  | .speedErrorClear => []
  | .collectLate => raisedArrays ++ [DEC_STATUS.no]
  | .telemetrySnapshot => []
  | .telemSkip => raisedArrays
  | .wedgeResult .. => [WRP_STATUS.no, WRP_EVT_CNT.no, SEQ_EVT_CNT.no, SRV_STATUS.no, SRV_PE.no, SRV_ID.no, SRV_SKEW.no, SRV_CNT.no, SRV_TREF.no, SRV_WEDGE.no,
    SRV_LOADED.no, SRV_LOST.no, LOG_STAT.no, LOG_CNT.no]
  | .servoLost .. => [SRV_STATUS.no, SRV_SKEW.no, SRV_CNT.no, SRV_TREF.no, SRV_WEDGE.no, SRV_GSTATUS.no, SRV_LOADED.no, SRV_LOST.no, CTL_STATUS.no]
  | .servoReacquired .. => [WRP_STATUS.no, SRV_STATUS.no, SRV_SKEW.no, SRV_TREF.no, SRV_WEDGE.no, SRV_LOADED.no, SRV_LOST.no, CTL_STATUS.no]
  | .writeInhibitClear .. => [WRP_STATUS.no, SRV_STATUS.no]
  | .offTrackClear .. => []
  | .wedgeHandling .. => [SEQ_STATUS.no, SEQ_PC.no, SEQ_LC_SP.no]
  | .seqLate .. => raisedArrays ++ [WRP_STATUS.no, SEQ_STATUS.no, SEQ_PC.no, SEQ_LC_SP.no, SEQ_EVT_CNT.no, SEQ_ENDS.no, SEQ_FLUSH.no]
  | .nanoWord .. => raisedArrays ++ headLostArrays ++ windowArrays
  | .branchWord .. => raisedArrays ++ headLostArrays ++ windowArrays
  | .jumpWord .. => raisedArrays ++ headLostArrays ++ windowArrays
  | .callWord .. => raisedArrays ++ headLostArrays ++ windowArrays
  | .nopWord .. => raisedArrays ++ headLostArrays ++ windowArrays
  | .retWord .. => raisedArrays ++ headLostArrays ++ windowArrays
  | .wwait .. => raisedArrays ++ headLostArrays ++ windowArrays
  | .loopWord .. => raisedArrays ++ headLostArrays ++ windowArrays
  | .jumpv .. => raisedArrays ++ headLostArrays ++ windowArrays
  | .signal .. => raisedArrays ++ headLostArrays ++ windowArrays
  | .seqStop .. => raisedArrays ++ headLostArrays ++ windowArrays
  | .hookBudgetExhausted .. => raisedArrays ++ headLostArrays ++ [SEQ_CTRL.no, SEQ_STATUS.no, SEQ_PC.no, SEQ_LC_SP.no, SEQ_ENDS.no, SEQ_FLUSH.no, SEQ_CTRL.held]
  | .seqFlush .. => [SEQ_EVT_CNT.no, SEQ_FLUSH.no]
  | .seqStep .. => raisedArrays ++ headLostArrays ++ windowArrays ++ [SYS_STATUS.no, SYS_REF_CNT.no]
  | .gateEventFire .. => [MEM_STATUS.no, MEM_ELOG_CNT.no, RCH_STATUS.no, RCH_EVT_CNT.no, RCH_RET_PTR.no, RCH_MAP.no, RCH_SPARE_MAP.no, RCH_SEL_CNT.no, WRP_STATUS.no,
    WRP_EVT_CNT.no, WRP_PA_CMD.no, SEQ_EVT_CNT.no, WCH_STATUS.no, LOG_STAT.no, LOG_CNT.no]
  | .retentionCommitStart .. => [MEM_STATUS.no, MEM_ELOG_CNT.no, RCH_STATUS.no, RCH_EVT_CNT.no, RCH_RET_PTR.no, RCH_SEL_CNT.no, WCH_STATUS.no]
  | .syncSearchStart .. => [MEM_STATUS.no, MEM_ELOG_CNT.no, RCH_STATUS.no, RCH_EVT_CNT.no, RCH_RET_PTR.no, RCH_SEL_CNT.no, WCH_STATUS.no]
  | .syncWindowEnd .. => [MEM_STATUS.no, MEM_ELOG_CNT.no, RCH_STATUS.no, RCH_SYNC_CNT.no, RCH_EVT_CNT.no, RCH_RET_PTR.no, RCH_SEL_CNT.no, DEC_STATUS.no, WCH_STATUS.no]
  | .sectorEnd .. => [MEM_STATUS.no, MEM_ELOG_CNT.no, RCH_CTRL.no, RCH_AGC_STAT.no, RCH_TR_STAT.no, RCH_SYNC_STAT.no, RCH_QUAL.no, RCH_HEALTH_A.no, RCH_HEALTH_B.no,
    RCH_STATUS.no, RCH_SECT_CNT.no, RCH_EVT_CNT.no, RCH_RET_PTR.no, RCH_SEL_CNT.no, DEC_ESTATUS.no, DEC_STATUS.no, DEC_DEEP_STAT.no,
    DEC_REREAD_CNT.no, WRP_STATUS.no, WCH_STATUS.no, LOG_STAT.no, LOG_CNT.no, RCH_CTRL.held]
  | .thermalAsperityStart .. => [MEM_STATUS.no, MEM_ELOG_CNT.no, RCH_STATUS.no, RCH_EVT_CNT.no, RCH_RET_PTR.no, RCH_SEL_CNT.no, WCH_STATUS.no]
  | .thermalAsperityEnd .. => [MEM_STATUS.no, MEM_ELOG_CNT.no, RCH_STATUS.no, RCH_EVT_CNT.no, RCH_RET_PTR.no, RCH_SEL_CNT.no, WCH_STATUS.no]
  | .lossOfLock .. => [MEM_STATUS.no, MEM_ELOG_CNT.no, RCH_STATUS.no, RCH_EVT_CNT.no, RCH_RET_PTR.no, RCH_SEL_CNT.no, WCH_STATUS.no]
  | .selectiveModeEnter .. => [RCH_RET_STAT.no, RCH_GSTATUS.no]
  | .channelLate .. => raisedArrays ++ [RCH_STATUS.no, SEQ_EVT_CNT.no]
  | .slotHoldRequest .. => []
  | .slotHoldGrant .. => []
  | .coefDataWrite .. => [RCH_COEF_ADDR.no, RCH_STATUS.no]
  | .coefQueueApply .. => []
  | .spareSubst .. => [SYS_STATUS.no, SYS_REF_CNT.no, RCH_CTRL.no, RCH_AFE_CFG.no, RCH_AGC_CFG.no, RCH_BLC_CFG.no, RCH_TA_CFG.no, RCH_TR_CFG.no, RCH_DET_CFG.no,
    RCH_SYNC_CFG.no, RCH_ADAPT_CFG.no, RCH_MAP.no, RCH_SPARE_MAP.no, RCH_SPARE_CMD.no, RCH_GSTATUS.no, SEQ_EVT_CNT.no]
  | .spareRelease .. => [SYS_STATUS.no, SYS_REF_CNT.no, RCH_SPARE_CMD.no, RCH_GSTATUS.no]
  | .spareShadow .. => [SYS_STATUS.no, SYS_REF_CNT.no, RCH_MAP.no, RCH_SPARE_MAP.no, RCH_SPARE_CMD.no, RCH_GSTATUS.no]
  | .spareDetach .. => [SYS_STATUS.no, SYS_REF_CNT.no, RCH_MAP.no, RCH_SPARE_MAP.no, RCH_SPARE_CMD.no, RCH_GSTATUS.no]
  | .quickDecodeStart => [DEC_ESTATUS.no, DEC_STATUS.no, DEC_DEEP_STAT.no, DEC_REREAD_CNT.no]
  | .quickIterationEnd .. => raisedArrays ++ [MEM_STATUS.no, MEM_ELOG_CNT.no, DEC_ESTATUS.no, DEC_ITER_CNT.no, DEC_SECT_CNT.no, DEC_STATUS.no, DEC_DEEP_STAT.no, DEC_CONV_CNT.no,
    DEC_REREAD_CNT.no, DEC_ERR_CNT.no]
  | .realignTrialEnd .. => raisedArrays ++ [MEM_STATUS.no, MEM_ELOG_CNT.no, MEM_ERR_CNT.no, MEM_PLANE_STAT.no, DEC_ESTATUS.no, DEC_STATUS.no, DEC_DEEP_STAT.no,
    DEC_ALIGN_CNT.no, DEC_REREAD_CNT.no]
  | .deepSlotLoadEnd .. => raisedArrays ++ [MEM_STATUS.no, MEM_ELOG_CNT.no, MEM_ERR_CNT.no, MEM_PLANE_STAT.no, DEC_ESTATUS.no, DEC_STATUS.no, DEC_DEEP_STAT.no,
    DEC_REREAD_CNT.no]
  | .deepOuterIterationEnd .. => [MEM_STATUS.no, MEM_ELOG_CNT.no, DEC_ESTATUS.no, DEC_ITER_CNT.no, DEC_SECT_CNT.no, DEC_STATUS.no, DEC_DEEP_STAT.no, DEC_DEEP_CNT.no,
    DEC_REREAD_CNT.no, DEC_ERR_CNT.no, WCH_STATUS.no]
  | .decTracePop => []
  | .streamSectorReady .. => raisedArrays ++ [MEM_STATUS.no, MEM_ELOG_CNT.no, MEM_ERR_CNT.no, MEM_PLANE_STAT.no, WRP_STATUS.no]
  | .sectorRewrite .. => [SEQ_EVT_CNT.no]
  | .paFrameEnd .. => [WRP_PA_CMD.no, WRP_PA_RESP.no]
  | .paKeepalive .. => [WRP_PA_CMD.no]
  | .paReadResponse .. => raisedArrays ++ [RCH_CTRL.no, WRP_HTR_CFG.no, WRP_STATUS.no, WRP_EVT_CNT.no, WRP_PA_CMD.no, WRP_PA_RESP.no, SEQ_EVT_CNT.no, RCH_CTRL.held]
  | .paMailboxCmd .. => [SYS_STATUS.no, SYS_REF_CNT.no, WRP_PA_CMD.no, WRP_PA_RESP.no]
  | .heaterUpdate .. => [WRP_PA_CMD.no]
  | .paFaultNFall .. => [WRP_STATUS.no, WRP_EVT_CNT.no, WRP_PA_CMD.no, SEQ_EVT_CNT.no, LOG_STAT.no, LOG_CNT.no]
  | .paFaultNRise .. => []
  | .headConfirmTest .. => [RCH_CTRL.no, RCH_HEALTH_A.no, RCH_HEALTH_B.no, WRP_STATUS.no, WRP_PA_CMD.no, LOG_STAT.no, LOG_CNT.no, RCH_CTRL.held]
  | .loopComputation .. => raisedArrays ++ headLostArrays ++ [CTL_ERR.no, CTL_ENERGY.no, CTL_XDISP.no, CTL_CNT.no, CTL_GSTATUS.no, CTL_LANE_STAT.no, CTL_LANE_CNT.no,
    CTL_SLOT_STAT.no, PROF_POS.no]
  | .ctlLate => raisedArrays ++ [CTL_STATUS.no, CTL_CNT.no, CTL_GSTATUS.no, CTL_LANE_CNT.no]
  | .trimAutoClose .. => [SYS_START.no, WRP_STATUS.no, CTL_STATUS.no]
  | .seekTimeout .. => headLostArrays ++ [CTL_CENTRE.no, LOG_STAT.no, LOG_CNT.no]
  | .loadFail .. => headLostArrays ++ [LOG_STAT.no, LOG_CNT.no]
  | .trimSatSet .. => raisedArrays ++ [WRP_STATUS.no, CTL_STATUS.no]
  | .trimSatClear .. => [WRP_STATUS.no, CTL_STATUS.no]
  | .oscStage1 .. => raisedArrays ++ [WRP_STATUS.no, WRP_EVT_CNT.no, SEQ_EVT_CNT.no, CTL_STATUS.no, CTL_CNT.no]
  | .oscStage2 .. => raisedArrays ++ [CTL_CFG.no, CTL_STATUS.no, CTL_CFG.held]
  | .oscStage3 .. => raisedArrays ++ headLostArrays ++ [MOT_SP_STAT.no, MOT_STATUS.no]
  | .oscCountReset .. => [CTL_STATUS.no]
  | .ctlClose .. => [SYS_STATUS.no, SYS_REF_CNT.no, WRP_STATUS.no, CTL_STATUS.no]
  | .ctlOpen .. => [SYS_STATUS.no, SYS_REF_CNT.no, CTL_STATUS.no, CTL_OUT.no]
  | .ctlResetOsc .. => [CTL_STATUS.no, CTL_ENERGY.no]
  | .ctlCoefCommit .. => [SYS_STATUS.no, SYS_REF_CNT.no, CTL_GSTATUS.no, CTL_COEF_ADDR.no, CTL_COEF_HI.no]
  | .profGo .. => [SYS_STATUS.no, SYS_REF_CNT.no, WRP_STATUS.no, CTL_STATUS.no, CTL_OUT.no, CTL_CENTRE.no, PROF_STAT.no]
  | .profStop .. => [PROF_STAT.no]
  | .motorPwmUpdate .. => raisedArrays ++ headLostArrays ++ [MOT_SP_STAT.no, MOT_SPEED.no, MOT_STATUS.no, MOT_PWM_STAT.no, MOT_BEAT.no, MOT_CNT.no]
  | .pwmLate => raisedArrays ++ [MOT_STATUS.no]
  | .encOfsLearned => [CTL_STATUS.no, CTL_OUT.no, PROF_STAT.no, MOT_SP_STAT.no, MOT_ENC_OFS.no]
  | .obsDrift => [MOT_STATUS.no, LOG_STAT.no, LOG_CNT.no]
  | .microactuatorFrame => []
  | .dacLate => raisedArrays ++ [MOT_STATUS.no]
  | .returnWord .. => raisedArrays ++ headLostArrays ++ [MOT_SP_STAT.no, MOT_STATUS.no, MOT_RET_WORD.no, MOT_CNT.no]
  | .maFault .. => raisedArrays ++ [WRP_STATUS.no, WRP_EVT_CNT.no, SEQ_EVT_CNT.no, CTL_STATUS.no, CTL_OUT.no, MOT_STATUS.no, MOT_MA_FAULT.no]
  | .motorAdcConversion .. => raisedArrays ++ headLostArrays ++ [MOT_MEAS.no, MOT_SP_STAT.no, MOT_BUS.no, MOT_STATUS.no, MOT_ADC.no]
  | .busTrip => raisedArrays ++ [MOT_STATUS.no, MOT_BEAT.no]
  | .spStart => [CTL_STATUS.no, CTL_OUT.no, PROF_STAT.no, MOT_SP_STAT.no]
  | .spStop => headLostArrays ++ [MOT_SP_STAT.no, LOG_STAT.no, LOG_CNT.no]
  | .senseDone .. => headLostArrays ++ [SYS_START.no, MOT_SP_STAT.no, MOT_SPEED.no, MOT_STATUS.no, LOG_STAT.no, LOG_CNT.no]
  | .spindleRest => [CTL_STATUS.no, CTL_OUT.no, PROF_STAT.no, MOT_SP_STAT.no, MOT_SPEED.no]
  | .alignDone => [CTL_STATUS.no, CTL_OUT.no, PROF_STAT.no, MOT_SP_STAT.no]
  | .rampEnd .. => headLostArrays ++ [MOT_SP_STAT.no, MOT_SP_CFG.no, MOT_STATUS.no, LOG_STAT.no, LOG_CNT.no, MOT_SP_CFG.held]
  | .catchAttemptEnd .. => headLostArrays ++ [MOT_SP_STAT.no, MOT_SPEED.no, MOT_STATUS.no, MOT_CNT.no, LOG_STAT.no, LOG_CNT.no]
  | .phaseOpen => raisedArrays ++ headLostArrays ++ [MOT_SP_STAT.no, MOT_STATUS.no]
  | .phaseShort => raisedArrays ++ headLostArrays ++ [MOT_SP_STAT.no, MOT_STATUS.no]
  | .motLoad .. => [SYS_STATUS.no, SYS_REF_CNT.no, MOT_ASTATUS.no]
  | .motRetract .. => headLostArrays ++ [LOG_STAT.no, LOG_CNT.no]
  | .motTest .. => [SYS_STATUS.no, SYS_REF_CNT.no, MOT_ASTATUS.no]
  | .vcmTestEnd .. => raisedArrays ++ headLostArrays ++ [MOT_VCM_CFG.no, MOT_VCM_CFG.held]
  | .vcmTestRepeat .. => []
  | .loadOffRamp .. => [MOT_ASTATUS.no]
  | .loadTravelTimeout .. => raisedArrays ++ [MOT_ASTATUS.no, MOT_BEAT.no]
  | .actuatorParked .. => [MOT_ASTATUS.no]
  | .retractTimeout .. => raisedArrays ++ [MOT_ASTATUS.no, MOT_BEAT.no]
  | .pwmGenSelfCheckFail .. => raisedArrays ++ [MOT_PWM_STAT.no, MOT_BEAT.no, MOT_CNT.no]
  | .pwmGenDisagree => raisedArrays ++ [MOT_BEAT.no]
  | .rideThroughEnter => headLostArrays ++ [SYS_MODE.no, MOT_SP_STAT.no, MOT_STATUS.no, WCH_CTRL.no, WCH_FN_CTRL.no, LOG_STAT.no, LOG_CNT.no]
  | .rideThroughFlashDone => []
  | .rideThroughEnd => [SYS_MODE.no, PCK_STATUS.no, PCK_QUEUE.no, PCK_KEY_STAT.no, PCK_KEY_BUSY.no, CTL_STATUS.no, CTL_OUT.no, PROF_STAT.no, MOT_SP_STAT.no, MOT_BEAT.no,
    MOT_RT_STAT.no, WCH_CTRL.no, WCH_FN_CTRL.no, LOG_STAT.no, LOG_CNT.no]
  | .xbarReadBurst .. => raisedArrays ++ [MEM_STATUS.no, MEM_ELOG_CNT.no, MEM_ERR_CNT.no, MEM_PLANE_STAT.no]
  | .xbarWriteBurst .. => [MEM_STATUS.no, MEM_ELOG_CNT.no, WCH_STATUS.no]
  | .scrubRead .. => [MEM_STATUS.no, MEM_SCRUB_STAT.no, MEM_ELOG_CNT.no, MEM_SCRUB_CNT.no]
  | .memRetireFrame .. => raisedArrays ++ [MEM_STATUS.no, MEM_CARVE_STAT.no, MEM_RETIRE_CMD.no, MEM_RETIRE_STAT.no, MEM_BANK_RETIRED.no, MEM_FREE.no]
  | .memRetireBank .. => raisedArrays ++ [MEM_STATUS.no, MEM_CARVE_STAT.no, MEM_RETIRE_CMD.no, MEM_RETIRE_STAT.no, MEM_BANK_RETIRED.no, MEM_FREE.no]
  | .migration => raisedArrays ++ [MEM_STATUS.no, MEM_CARVE_STAT.no, MEM_RETIRE_STAT.no, MEM_BANK_RETIRED.no, MEM_ELOG_CNT.no, MEM_FREE.no]
  | .memAlloc .. => [SYS_STATUS.no, SYS_REF_CNT.no, MEM_CARVE_STAT.no, MEM_PAGE_CMD.no, MEM_PAGE_RESP.no, MEM_FREE.no]
  | .memRelease .. => raisedArrays ++ [MEM_STATUS.no, MEM_CARVE_STAT.no, MEM_RETIRE_STAT.no, MEM_BANK_RETIRED.no, MEM_PAGE_CMD.no, MEM_PAGE_RESP.no, MEM_FREE.no]
  | .planeFence .. => raisedArrays ++ [MEM_STATUS.no, MEM_ELOG_CNT.no, MEM_PLANE_STAT.no, RCH_RET_STAT.no]
  | .elogPop => []
  | .cacheRequest .. => raisedArrays ++ [MEM_STATUS.no, MEM_ELOG_CNT.no, MEM_ERR_CNT.no, MEM_PLANE_STAT.no, BCC_STATUS.no, BCC_HIT_CNT.no, BCC_MISS_CNT.no,
    BCC_MERGE_CNT.no, BCC_OCC.no, DDR_GSTATUS.no]
  | .cacheFillReturn => raisedArrays ++ cacheOpArrays
  | .victimWritebackDone .. => raisedArrays ++ cacheOpArrays ++ [DDR_STATUS.no, DDR_ERR_CNT.no]
  | .cacheWaitResume => raisedArrays ++ [MEM_STATUS.no, MEM_ELOG_CNT.no, MEM_ERR_CNT.no, MEM_PLANE_STAT.no, BCC_STATUS.no, BCC_HIT_CNT.no, BCC_MISS_CNT.no,
    BCC_MERGE_CNT.no, BCC_OCC.no, DDR_GSTATUS.no]
  | .bccClean .. => raisedArrays ++ cacheOpArrays ++ [SYS_STATUS.no, SYS_REF_CNT.no, BCC_MAINT_CMD.no]
  | .bccInvalidate .. => raisedArrays ++ cacheOpArrays ++ [SYS_STATUS.no, SYS_REF_CNT.no, BCC_MAINT_CMD.no]
  | .bccCleanInv .. => raisedArrays ++ cacheOpArrays ++ [SYS_STATUS.no, SYS_REF_CNT.no, BCC_MAINT_CMD.no]
  | .bccLockFill .. => raisedArrays ++ cacheOpArrays ++ [SYS_STATUS.no, SYS_REF_CNT.no, BCC_MAINT_CMD.no]
  | .bccUnlock .. => raisedArrays ++ cacheOpArrays ++ [SYS_STATUS.no, SYS_REF_CNT.no, BCC_MAINT_CMD.no]
  | .bccZero .. => raisedArrays ++ cacheOpArrays ++ [SYS_STATUS.no, SYS_REF_CNT.no, BCC_MAINT_CMD.no]
  | .cacheDrainDone => raisedArrays ++ [MEM_STATUS.no, MEM_ELOG_CNT.no, MEM_ERR_CNT.no, MEM_PLANE_STAT.no, BCC_STATUS.no, BCC_OCC.no, DDR_GSTATUS.no]
  | .ddrReadComplete .. => raisedArrays ++ cacheOpArrays ++ [DDR_STATUS.no, DDR_ERR_CNT.no]
  | .ddrWriteCrcAlert .. => raisedArrays ++ cacheOpArrays ++ [DDR_STATUS.no]
  | .ddrRefresh .. => []
  | .patrolRead .. => raisedArrays ++ cacheOpArrays ++ [DDR_STATUS.no, DDR_ERR_CNT.no]
  | .ddrFenceCmd .. => raisedArrays ++ cacheOpArrays ++ [DDR_STATUS.no]
  | .lgtArm .. => lighterEndArrays ++ [SYS_STATUS.no, SYS_REF_CNT.no]
  | .lgtStop .. => lighterEndArrays
  | .lgtBurstIssue .. => raisedArrays ++ lighterEndArrays ++ [LGT_FENCED.no, LGT_PREQ.no, LGT_PREEMPT_CNT.no, LGT_GSTATUS.no, MEM_STATUS.no, MEM_ELOG_CNT.no, MEM_ERR_CNT.no,
    MEM_PLANE_STAT.no]
  | .lgtBurstResponse .. => lighterEndArrays ++ [LGT_BYTE_CNT.no, MEM_STATUS.no, MEM_ELOG_CNT.no, WCH_STATUS.no]
  | .lgtFlushReadDone .. => lighterEndArrays
  | .hostCompletionTimeout .. => lighterEndArrays ++ [LGT_BYTE_CNT.no, MEM_STATUS.no, MEM_ELOG_CNT.no, WCH_STATUS.no]
  | .pckJobGo .. => [SYS_STATUS.no, SYS_REF_CNT.no, PCK_STATUS.no, PCK_JOB_GO.no, PCK_QUEUE.no, PCK_KEY_STAT.no, PCK_KEY_BUSY.no]
  | .packJobStart .. => raisedArrays ++ [MEM_STATUS.no, MEM_ELOG_CNT.no, MEM_ERR_CNT.no, MEM_PLANE_STAT.no, PCK_ISTATUS.no, PCK_STATUS.no, PCK_QUEUE.no, PCK_KEY_STAT.no,
    PCK_KEY_BUSY.no]
  | .packEncoderResume .. => raisedArrays ++ [MEM_STATUS.no, MEM_ELOG_CNT.no, MEM_ERR_CNT.no, MEM_PLANE_STAT.no, PCK_ISTATUS.no]
  | .packInputResume .. => raisedArrays ++ [MEM_STATUS.no, MEM_ELOG_CNT.no, MEM_ERR_CNT.no, MEM_PLANE_STAT.no, PCK_ISTATUS.no]
  | .packJobEnd .. => raisedArrays ++ [MEM_STATUS.no, MEM_ELOG_CNT.no, MEM_ERR_CNT.no, MEM_PLANE_STAT.no, PCK_ISTATUS.no, PCK_IN_CNT.no, PCK_OUT_CNT.no, PCK_JOB_CNT.no,
    PCK_STATUS.no, PCK_QUEUE.no, PCK_KEY_STAT.no, PCK_KEY_BUSY.no, PCK_ERR_CNT.no]
  | .pckKeyDataWrite .. => []
  | .pckKeyLoad .. => [SYS_STATUS.no, SYS_REF_CNT.no, PCK_STATUS.no, PCK_QUEUE.no, PCK_KEY_CMD.no, PCK_KEY_STAT.no, PCK_KEY_BUSY.no, LOG_STAT.no, LOG_CNT.no]
  | .pckKeyErase .. => [PCK_STATUS.no, PCK_QUEUE.no, PCK_KEY_CMD.no, PCK_KEY_STAT.no, PCK_KEY_BUSY.no]
  | .keyZeroize .. => [PCK_STATUS.no, PCK_QUEUE.no, PCK_KEY_STAT.no, PCK_KEY_BUSY.no, LOG_STAT.no, LOG_CNT.no]
  | .pckResPop => [PCK_STATUS.no, PCK_QUEUE.no, PCK_KEY_STAT.no, PCK_KEY_BUSY.no]
  | .perstNDeassert => []
  | .bar2Access .. => raisedArrays ++ [BQ_LINK_EVT.no, MEM_STATUS.no, MEM_ELOG_CNT.no, MEM_ERR_CNT.no, MEM_PLANE_STAT.no]
  | .d3hotEntry => []
  | .d0Entry => []
  | .laneFailed .. => raisedArrays ++ stoppedArrays ++ ringRegsArrays ++ [BQ_STATUS.no, BQ_INFLIGHT.no, BQ_MARKS.no, BQ_LINK_STAT.no, BQ_LINK_EVT.no, BQ_LINK_CNT.no,
    WRP_STATUS.no]
  | .flr => raisedArrays ++ stoppedArrays ++ ringRegsArrays ++ [BQ_STATUS.no, BQ_INFLIGHT.no, BQ_MARKS.no, BQ_LINK_EVT.no, BQ_LINK_CNT.no, WRP_STATUS.no]
  | .hotReset => raisedArrays ++ stoppedArrays ++ ringRegsArrays ++ [BQ_STATUS.no, BQ_INFLIGHT.no, BQ_MARKS.no, BQ_LINK_STAT.no, BQ_LINK_EVT.no, BQ_LINK_CNT.no,
    WRP_STATUS.no]
  | .linkDown => raisedArrays ++ stoppedArrays ++ ringRegsArrays ++ [BQ_STATUS.no, BQ_INFLIGHT.no, BQ_MARKS.no, BQ_LINK_STAT.no, BQ_LINK_EVT.no, BQ_LINK_CNT.no,
    WRP_STATUS.no]
  | .flrComplete => raisedArrays ++ stoppedArrays ++ ringRegsArrays ++ [BQ_STATUS.no, BQ_INFLIGHT.no, BQ_MARKS.no, WRP_STATUS.no]
  | .doeRequest .. => [BQ_LINK_EVT.no]
  | .bqDoorbell .. => [SYS_STATUS.no, SYS_REF_CNT.no, BQ_DOORBELL.no, BQ_STATE.no, BQ_DB_CNT.no, LOG_STAT.no, LOG_CNT.no]
  | .entryFetch => [BQ_STATE.no, BQ_INDEX.no, BQ_FETCH_CNT.no]
  | .entryFetchComplete .. => [BQ_STATE.no, BQ_STATUS.no, BQ_INFLIGHT.no, BQ_DB_CNT.no, BQ_MARKS.no]
  | .commandStart .. => raisedArrays ++ lighterEndArrays ++ [SCH_STATUS.no, SCH_LOCK_USE.no, LGT_S_BUF.no, LGT_S_FAR_LO.no, LGT_S_FAR_HI.no, LGT_S_COUNT.no, MEM_STATUS.no,
    MEM_CARVE_STAT.no, MEM_RETIRE_STAT.no, MEM_BANK_RETIRED.no, MEM_ELOG_CNT.no, MEM_ERR_CNT.no, MEM_PLANE_STAT.no, MEM_FREE.no]
  | .commandComplete .. => raisedArrays ++ stoppedArrays ++ [BQ_STATE.no, BQ_INDEX.no, BQ_CTRL.no, BQ_STATUS.no, BQ_INFLIGHT.no, BQ_ENABLED.no, BQ_FROZEN.no, BQ_ABORT_CNT.no,
    MEM_ELOG_CNT.no, MEM_ERR_CNT.no, MEM_PLANE_STAT.no]
  | .publicationWrite .. => [BQ_PUB_CNT.no]
  | .coalExpiry .. => []
  | .freezeSettled .. => [BQ_STATE.no, BQ_CTRL.no, BQ_ENABLED.no, BQ_FROZEN.no]
  | .disableSettled .. => [BQ_STATE.no, BQ_CTRL.no, BQ_ENABLED.no, BQ_FROZEN.no, BQ_MARKS.no]
  | .adminRingEnable .. => [SYS_STATUS.no, SYS_REF_CNT.no, BQ_STATE.no, BQ_INDEX.no, BQ_CTRL.no, BQ_ENABLED.no, BQ_FROZEN.no, BQ_MARKS.no]
  | .adminRingDisable => raisedArrays ++ [BQ_STATE.no, BQ_INDEX.no, BQ_CTRL.no, BQ_STATUS.no, BQ_INFLIGHT.no, BQ_ENABLED.no, BQ_FROZEN.no, SCH_LOCK_USE.no, MEM_STATUS.no,
    MEM_CARVE_STAT.no, MEM_RETIRE_STAT.no, MEM_BANK_RETIRED.no, MEM_FREE.no]
  | .quiesceDone => headLostArrays ++ [SYS_MODE.no, BQ_STATUS.no, SCH_PWR_STAT.no, DDR_STATUS.no, MOT_SP_STAT.no, LOG_STAT.no, LOG_CNT.no]
  | .readCmd .. => lighterEndArrays ++ [LGT_S_BUF.no, LGT_S_FAR_LO.no, LGT_S_FAR_HI.no, LGT_S_COUNT.no]
  | .writeCmd .. => raisedArrays ++ lighterEndArrays ++ [LGT_S_BUF.no, LGT_S_FAR_LO.no, LGT_S_FAR_HI.no, LGT_S_COUNT.no, MEM_STATUS.no, MEM_ELOG_CNT.no, MEM_ERR_CNT.no,
    MEM_PLANE_STAT.no]
  | .zoneAppend .. => raisedArrays ++ lighterEndArrays ++ [SCH_LOCK_USE.no, LGT_S_BUF.no, LGT_S_FAR_LO.no, LGT_S_FAR_HI.no, LGT_S_COUNT.no, MEM_STATUS.no,
    MEM_ELOG_CNT.no, MEM_ERR_CNT.no, MEM_PLANE_STAT.no, WRP_STATUS.no]
  | .packedAppend .. => lighterEndArrays ++ [LGT_S_BUF.no, LGT_S_FAR_LO.no, LGT_S_FAR_HI.no, LGT_S_COUNT.no, MEM_STATUS.no, MEM_ELOG_CNT.no, PCK_JOB_CNT.no, PCK_STATUS.no,
    PCK_QUEUE.no, PCK_KEY_STAT.no, PCK_KEY_BUSY.no, PCK_ERR_CNT.no, WCH_STATUS.no]
  | .parcelRead .. => raisedArrays ++ lighterEndArrays ++ [SCH_STATUS.no, LGT_S_BUF.no, LGT_S_FAR_LO.no, LGT_S_FAR_HI.no, LGT_S_COUNT.no, MEM_STATUS.no,
    MEM_CARVE_STAT.no, MEM_ELOG_CNT.no, MEM_ERR_CNT.no, MEM_PLANE_STAT.no, MEM_FREE.no, PCK_JOB_CNT.no, PCK_STATUS.no, PCK_QUEUE.no,
    PCK_KEY_STAT.no, PCK_KEY_BUSY.no, PCK_ERR_CNT.no]
  | .zoneOpen .. => [SCH_STATUS.no, SCH_LOCK_USE.no]
  | .zoneClose .. => [SCH_STATUS.no, SCH_LOCK_USE.no]
  | .zoneFinish .. => [SCH_STATUS.no, SCH_LOCK_USE.no]
  | .zoneReset .. => [SCH_STATUS.no, SCH_LOCK_USE.no, MEM_STATUS.no, MEM_CARVE_STAT.no, MEM_ELOG_CNT.no, MEM_FREE.no, WCH_STATUS.no]
  | .zoneReport .. => []
  | .flushCmd .. => []
  | .verify .. => raisedArrays ++ [MEM_STATUS.no, MEM_ELOG_CNT.no, MEM_ERR_CNT.no, MEM_PLANE_STAT.no]
  | .peerCopy .. => raisedArrays ++ [SCH_LOCK_USE.no, MEM_STATUS.no, MEM_ELOG_CNT.no, MEM_ERR_CNT.no, MEM_PLANE_STAT.no, QFB_XFER_STAT.no]
  | .abortCmd .. => lighterEndArrays ++ [BQ_MARKS.no, PCK_JOB_CNT.no, PCK_STATUS.no, PCK_QUEUE.no, PCK_KEY_STAT.no, PCK_KEY_BUSY.no, PCK_ERR_CNT.no, DEC_DEEP_STAT.no,
    WRP_STATUS.no]
  | .identify .. => []
  | .getFeature .. => []
  | .setFeature .. => []
  | .setLatencyTolerance .. => headLostArrays ++ [SCH_LAT_TOL.no, SCH_PWR_STAT.no, DDR_STATUS.no, MOT_SP_STAT.no, LOG_STAT.no, LOG_CNT.no]
  | .ringCreate .. => ringRegsArrays
  | .ringDelete .. => ringRegsArrays ++ [BQ_MARKS.no]
  | .ringEnable .. => [BQ_STATE.no, BQ_INDEX.no, BQ_CTRL.no, BQ_ENABLED.no, BQ_FROZEN.no, BQ_MARKS.no]
  | .ringDisable .. => raisedArrays ++ [BQ_STATE.no, BQ_INDEX.no, BQ_CTRL.no, BQ_STATUS.no, BQ_INFLIGHT.no, BQ_ENABLED.no, BQ_FROZEN.no, SCH_LOCK_USE.no, MEM_STATUS.no,
    MEM_CARVE_STAT.no, MEM_RETIRE_STAT.no, MEM_BANK_RETIRED.no, MEM_FREE.no]
  | .ringRestart .. => [BQ_STATE.no, BQ_INDEX.no, BQ_CTRL.no, BQ_ENABLED.no, BQ_FROZEN.no]
  | .getLog .. => []
  | .logbookClear .. => [LOG_STAT.no, LOG_CNT.no]
  | .firmwareDownload .. => [LOG_STAT.no, LOG_CNT.no]
  | .firmwareActivate .. => raisedArrays ++ [BQ_STATE.no, BQ_INDEX.no, BQ_STATUS.no, BQ_INFLIGHT.no, SCH_LOCK_USE.no, MEM_STATUS.no, MEM_CARVE_STAT.no, MEM_RETIRE_STAT.no,
    MEM_BANK_RETIRED.no, MEM_FREE.no]
  | .activationDone => []
  | .keyLoad .. => [PCK_STATUS.no, PCK_QUEUE.no, PCK_KEY_STAT.no, PCK_KEY_BUSY.no, LOG_STAT.no, LOG_CNT.no]
  | .keyErase .. => [PCK_STATUS.no, PCK_QUEUE.no, PCK_KEY_STAT.no, PCK_KEY_BUSY.no]
  | .setTime .. => []
  | .adoptMedia .. => [SYS_MODE.no, LOG_STAT.no, LOG_CNT.no]
  | .fabricStatus .. => []
  | .tierMapInstall .. => raisedArrays ++ [SYS_STATUS.no, SYS_REF_CNT.no, SCH_TIER_CMD.no, SCH_TIER_RESP.no, MEM_STATUS.no, MEM_ELOG_CNT.no, MEM_ERR_CNT.no,
    MEM_PLANE_STAT.no]
  | .dispatchStep .. => raisedArrays ++ [SCH_STATUS.no, SCH_LOCK_USE.no, SCH_PREEMPT_CNT.no, SCH_TIER.no, SCH_CAND.no, SCH_COST.no, MEM_STATUS.no, MEM_CARVE_STAT.no,
    MEM_RETIRE_STAT.no, MEM_BANK_RETIRED.no, MEM_FREE.no, WRP_STATUS.no, CTL_STATUS.no, CTL_OUT.no, CTL_CENTRE.no, PROF_STAT.no]
  | .urgentPreempt .. => [SCH_STATUS.no, SCH_PREEMPT_CNT.no, SEQ_EVT_CNT.no, SEQ_FLUSH.no, PROF_STAT.no]
  | .lockGrant => raisedArrays ++ lighterEndArrays ++ [SCH_STATUS.no, SCH_LOCK_USE.no, LGT_S_BUF.no, LGT_S_FAR_LO.no, LGT_S_FAR_HI.no, LGT_S_COUNT.no, MEM_STATUS.no,
    MEM_CARVE_STAT.no, MEM_RETIRE_STAT.no, MEM_BANK_RETIRED.no, MEM_ELOG_CNT.no, MEM_ERR_CNT.no, MEM_PLANE_STAT.no, MEM_FREE.no]
  | .pageAllocGrant => raisedArrays ++ lighterEndArrays ++ [SCH_STATUS.no, SCH_LOCK_USE.no, LGT_S_BUF.no, LGT_S_FAR_LO.no, LGT_S_FAR_HI.no, LGT_S_COUNT.no, MEM_STATUS.no,
    MEM_CARVE_STAT.no, MEM_RETIRE_STAT.no, MEM_BANK_RETIRED.no, MEM_ELOG_CNT.no, MEM_ERR_CNT.no, MEM_PLANE_STAT.no, MEM_FREE.no]
  | .idleTimerExpiry .. => headLostArrays ++ [SCH_PWR_STAT.no, DDR_STATUS.no, MOT_SP_STAT.no, LOG_STAT.no, LOG_CNT.no]
  | .idleEnd => headLostArrays ++ [SCH_PWR_STAT.no, SCH_STATUS.no, SCH_PWR_CNT.no, DDR_STATUS.no, MOT_SP_STAT.no, LOG_STAT.no, LOG_CNT.no]
  | .powerStateReached => [SCH_PWR_STAT.no, SCH_STATUS.no, SCH_PWR_CNT.no, DDR_STATUS.no, PROF_STAT.no, MOT_ASTATUS.no]
  | .portTrainingStart .. => [QFB_PSTATUS.no, QFB_PCNT.no]
  | .portUp .. => raisedArrays ++ stoppedArrays ++ [QFB_PSTATUS.no, QFB_PEER.no, QFB_PEER_SN_LO.no, QFB_PEER_SN_HI.no, QFB_PCNT.no, QFB_STATUS.no, QFB_REACH.no]
  | .trainFail .. => raisedArrays ++ stoppedArrays ++ [QFB_PSTATUS.no, QFB_PEER.no, QFB_PEER_SN_LO.no, QFB_PEER_SN_HI.no, QFB_PCNT.no, QFB_STATUS.no, QFB_REACH.no]
  | .linkLost .. => raisedArrays ++ stoppedArrays ++ [QFB_PSTATUS.no, QFB_PEER.no, QFB_PEER_SN_LO.no, QFB_PEER_SN_HI.no, QFB_PCNT.no, QFB_STATUS.no, QFB_REACH.no]
  | .qfbRetrain .. => raisedArrays ++ stoppedArrays ++ [QFB_PSTATUS.no, QFB_PEER.no, QFB_PEER_SN_LO.no, QFB_PEER_SN_HI.no, QFB_PCNT.no, QFB_STATUS.no, QFB_REACH.no]
  | .dataFrame .. => raisedArrays ++ stoppedArrays ++ [QFB_PSTATUS.no, QFB_PCNT.no, QFB_STATUS.no]
  | .commitFrame .. => raisedArrays ++ stoppedArrays ++ [MEM_ELOG_CNT.no, MEM_ERR_CNT.no, MEM_PLANE_STAT.no, QFB_PSTATUS.no, QFB_PCNT.no]
  | .resultFrame .. => raisedArrays ++ stoppedArrays ++ [QFB_PSTATUS.no, QFB_PCNT.no]
  | .doneFrame .. => raisedArrays ++ stoppedArrays ++ [QFB_PSTATUS.no, QFB_PCNT.no]
  | .cancelFrame .. => raisedArrays ++ stoppedArrays ++ [QFB_PSTATUS.no, QFB_PCNT.no]
  | .readReq .. => raisedArrays ++ stoppedArrays ++ [MEM_ELOG_CNT.no, MEM_ERR_CNT.no, MEM_PLANE_STAT.no, QFB_PSTATUS.no, QFB_PCNT.no, QFB_STATUS.no]
  | .mediaReq .. => raisedArrays ++ stoppedArrays ++ [QFB_PSTATUS.no, QFB_PCNT.no, QFB_STATUS.no]
  | .hello .. => raisedArrays ++ stoppedArrays ++ [QFB_PSTATUS.no, QFB_PEER.no, QFB_PEER_SN_LO.no, QFB_PEER_SN_HI.no, QFB_PCNT.no, QFB_STATUS.no, QFB_REACH.no]
  | .heartbeat .. => [QFB_PSTATUS.no, QFB_PCNT.no, WCH_STATUS.no]
  | .lsa .. => raisedArrays ++ stoppedArrays ++ [QFB_PSTATUS.no, QFB_PCNT.no, QFB_ADDR.no, QFB_STATUS.no, QFB_REACH.no, QFB_CNT.no]
  | .credit .. => [QFB_PSTATUS.no, QFB_PCNT.no, WCH_STATUS.no]
  | .mgmt .. => [QFB_PSTATUS.no, QFB_PCNT.no, WCH_STATUS.no]
  | .helloSend .. => []
  | .heartbeatSend .. => []
  | .lsaOriginate => raisedArrays ++ stoppedArrays ++ [QFB_PCNT.no, QFB_STATUS.no, QFB_REACH.no]
  | .lsaExpire => raisedArrays ++ stoppedArrays ++ [QFB_PCNT.no, QFB_STATUS.no, QFB_REACH.no]
  | .addressAssign => raisedArrays ++ stoppedArrays ++ [QFB_PCNT.no, QFB_ADDR.no, QFB_STATUS.no, QFB_REACH.no]
  | .creditSend .. => []
  | .relayTimeout .. => [QFB_PCNT.no]
  | .commitRepeat => []
  | .retryResend => lighterEndArrays
  | .outcomeDrop => [QFB_XFER_STAT.no]
  | .stagingDiscard => raisedArrays ++ stoppedArrays
  | .xferIdleAbandon => raisedArrays ++ stoppedArrays
  | .transferRestart => lighterEndArrays ++ [QFB_STATUS.no, QFB_CNT.no]
  | .helmCoreFault .. => raisedArrays ++ [SYS_HELM_STAT.no, SYS_HELM_CNT.no]
  | .helmSpareSelftest .. => raisedArrays ++ [SYS_HELM_STAT.no]
  | .helmCheckpoint => raisedArrays ++ [SYS_HELM_STAT.no, SYS_HELM_CNT.no]
  | .opSecondsPersist => []
  | .faultRaise .. => raisedArrays ++ stoppedArrays ++ headLostArrays ++ unitFencedArrays
  | .faultNTimerExpiry => [WCH_FN_CTRL.no]
  | .wchFnHold .. => [WCH_FN_CTRL.no]
  | .wchFnForce .. => [WCH_FN_CTRL.no]
  | .watchLogSwap => []
  | .wchWlogPop .. => raisedArrays
  | .watchSelfCheckFail .. => raisedArrays ++ [WCH_INST.no]
  | .watchDisagree => raisedArrays
  | .watchKat => raisedArrays ++ [WCH_INST.no]
  | .anchorTakeover => headLostArrays ++ [MOT_SP_STAT.no, WCH_FN_CTRL.no, WCH_INST.no, WCH_ANCHOR.no, LOG_STAT.no, LOG_CNT.no]
  | .anchorHalt => [SYS_MODE.no, PCK_STATUS.no, PCK_QUEUE.no, PCK_KEY_STAT.no, PCK_KEY_BUSY.no, CTL_STATUS.no, CTL_OUT.no, PROF_STAT.no, MOT_SP_STAT.no, MOT_BEAT.no,
    WCH_CTRL.no, WCH_FN_CTRL.no, WCH_ANCHOR.no, LOG_STAT.no, LOG_CNT.no]
  | .wchInjGo .. => [SYS_STATUS.no, SYS_REF_CNT.no, WCH_STATUS.no, WCH_INJ_CMD.no, LOG_STAT.no, LOG_CNT.no]
  | .wchInjAuth .. => [SYS_STATUS.no, SYS_REF_CNT.no, WCH_STATUS.no, WCH_INJ_CMD.no, LOG_STAT.no, LOG_CNT.no]
  | .wchInjTokenWrite .. => []
  | .injectionExpiry => [WCH_STATUS.no]
  | .logbookPersist .. => [LOG_STAT.no]
  | .logFwGo .. => [SYS_STATUS.no, SYS_REF_CNT.no, LOG_STAT.no, LOG_FW_GO.no, LOG_CNT.no]
  | .sysGlue .. => []
  | .registerWrite .. => []
  | .slowWriteApply .. => []
  | .rcRead .. => []
  | .sysRefPop .. => []
  | .sysTmrExpiry .. => [SYS_TMR_STAT.no]
  | .timerCaptureEdge .. => [SYS_TMR_CAP.no]
  | .ddrWriteComplete .. => raisedArrays ++ cacheOpArrays ++ [DDR_STATUS.no, DDR_ERR_CNT.no]
  | .linkUp .. => [BQ_LINK_STAT.no]
  | .injectionWindowExpiry => []
  | .temperatureConversion .. => [PAD_TEMP.no]

/-- The parts of State that a command may touch. -/
def Instr.parts : Instr → List Part
  | .powerOn => [.regs, .bell, .sys, .watch, .mem, .dram, .media, .chans, .dec, .wrp, .srv, .ctl, .mot, .seqs, .stores, .lgt, .pack, .link, .bq, .cmds, .sch, .qfb,
    .out, .freeCtr]
  | .brownOut => [.regs, .bell, .sys, .watch, .mem, .dram, .media, .chans, .dec, .wrp, .srv, .ctl, .mot, .seqs, .stores, .lgt, .pack, .link, .bq, .cmds, .sch, .qfb,
    .out, .freeCtr]
  | .supplyFault .. => [.regs, .watch, .media, .wrp, .seqs, .link, .cmds, .out, .freeCtr]
  | .supplyFaultClear => [.wrp]
  | .perstNAssert .. => [.regs, .bell, .sys, .watch, .mem, .dram, .media, .chans, .dec, .wrp, .srv, .ctl, .mot, .seqs, .stores, .lgt, .pack, .link, .bq, .cmds, .sch, .qfb,
    .out, .freeCtr]
  | .resetNAssert .. => [.regs, .bell, .sys, .watch, .mem, .dram, .media, .chans, .dec, .wrp, .srv, .ctl, .mot, .seqs, .stores, .lgt, .pack, .link, .bq, .cmds, .sch, .qfb,
    .out, .freeCtr]
  | .sysResetCmd .. => [.regs, .bell, .sys, .watch, .mem, .dram, .media, .chans, .dec, .wrp, .srv, .ctl, .mot, .seqs, .stores, .lgt, .pack, .link, .bq, .cmds, .sch, .qfb,
    .out, .freeCtr]
  | .helmWatchdogExpiry .. => [.regs, .bell, .sys, .watch, .mem, .dram, .media, .chans, .dec, .wrp, .srv, .ctl, .mot, .seqs, .stores, .lgt, .pack, .link, .bq, .cmds, .sch, .qfb,
    .out, .freeCtr]
  | .wdogKick .. => [.regs, .sys, .out]
  | .resetRelease .. => [.regs, .sys, .watch, .mem, .dram, .chans, .wrp, .srv, .ctl, .stores, .link, .sch, .out, .freeCtr]
  | .ddrTrainingDone .. => [.regs, .watch, .mem, .dram, .link, .sch, .out, .freeCtr]
  | .registerSpaceOpen .. => [.regs, .sys, .watch, .media, .wrp, .ctl, .mot, .link, .out, .freeCtr]
  | .systemAreaReadDone .. => [.regs, .sys, .watch, .media, .link, .qfb, .out]
  | .aliveSet .. => [.regs, .sys, .out]
  | .busGoodRestart .. => [.regs, .bell, .sys, .watch, .mem, .dram, .media, .chans, .dec, .wrp, .srv, .ctl, .mot, .seqs, .stores, .lgt, .pack, .link, .bq, .cmds, .sch, .qfb,
    .out, .freeCtr]
  | .bellEdge .. => [.regs, .bell, .sys, .watch, .mem, .dram, .media, .chans, .dec, .wrp, .srv, .ctl, .mot, .seqs, .link, .cmds, .sch, .out, .freeCtr]
  | .speedErrorClear => [.wrp]
  | .collectLate => [.regs, .watch, .link, .out, .freeCtr]
  | .telemetrySnapshot => [.watch]
  | .telemSkip => [.regs, .watch, .link, .out, .freeCtr]
  | .wedgeResult .. => [.regs, .watch, .media, .wrp, .srv, .seqs, .cmds, .out]
  | .servoLost .. => [.regs, .srv, .out]
  | .servoReacquired .. => [.regs, .wrp, .srv, .seqs]
  | .writeInhibitClear .. => [.regs, .wrp]
  | .offTrackClear .. => [.wrp]
  | .wedgeHandling .. => [.regs, .seqs]
  | .seqLate .. => [.regs, .watch, .mem, .chans, .dec, .wrp, .seqs, .link, .cmds, .out, .freeCtr]
  | .nanoWord .. => [.regs, .watch, .mem, .media, .chans, .dec, .wrp, .srv, .ctl, .seqs, .stores, .link, .cmds, .out, .freeCtr]
  | .branchWord .. => [.regs, .watch, .mem, .media, .chans, .dec, .wrp, .srv, .ctl, .seqs, .stores, .link, .cmds, .out, .freeCtr]
  | .jumpWord .. => [.regs, .watch, .mem, .media, .chans, .dec, .wrp, .srv, .ctl, .seqs, .stores, .link, .cmds, .out, .freeCtr]
  | .callWord .. => [.regs, .watch, .mem, .media, .chans, .dec, .wrp, .srv, .ctl, .seqs, .stores, .link, .cmds, .out, .freeCtr]
  | .nopWord .. => [.regs, .watch, .mem, .media, .chans, .dec, .wrp, .srv, .ctl, .seqs, .stores, .link, .cmds, .out, .freeCtr]
  | .retWord .. => [.regs, .watch, .mem, .media, .chans, .dec, .wrp, .srv, .ctl, .seqs, .stores, .link, .cmds, .out, .freeCtr]
  | .wwait .. => [.regs, .watch, .mem, .media, .chans, .dec, .wrp, .srv, .ctl, .seqs, .stores, .link, .cmds, .out, .freeCtr]
  | .loopWord .. => [.regs, .watch, .mem, .media, .chans, .dec, .wrp, .srv, .ctl, .seqs, .stores, .link, .cmds, .out, .freeCtr]
  | .jumpv .. => [.regs, .watch, .mem, .media, .chans, .dec, .wrp, .srv, .ctl, .seqs, .stores, .link, .cmds, .out, .freeCtr]
  | .signal .. => [.regs, .watch, .mem, .media, .chans, .dec, .wrp, .srv, .ctl, .seqs, .stores, .link, .cmds, .out, .freeCtr]
  | .seqStop .. => [.regs, .watch, .mem, .media, .chans, .dec, .wrp, .srv, .ctl, .seqs, .stores, .link, .cmds, .out, .freeCtr]
  | .hookBudgetExhausted .. => [.regs, .watch, .mem, .media, .chans, .dec, .wrp, .srv, .ctl, .seqs, .link, .cmds, .out, .freeCtr]
  | .seqFlush .. => [.regs, .seqs, .cmds]
  | .seqStep .. => [.regs, .sys, .watch, .mem, .media, .chans, .dec, .wrp, .srv, .ctl, .seqs, .stores, .link, .cmds, .out, .freeCtr]
  | .gateEventFire .. => [.regs, .bell, .sys, .watch, .mem, .media, .chans, .dec, .wrp, .seqs, .cmds, .out]
  | .retentionCommitStart .. => [.regs, .watch, .mem, .chans, .out]
  | .syncSearchStart .. => [.regs, .watch, .mem, .chans, .out]
  | .syncWindowEnd .. => [.regs, .watch, .mem, .chans, .dec, .out]
  | .sectorEnd .. => [.regs, .watch, .mem, .media, .chans, .dec, .cmds, .out, .freeCtr]
  | .thermalAsperityStart .. => [.regs, .watch, .mem, .chans, .out]
  | .thermalAsperityEnd .. => [.regs, .watch, .mem, .chans, .out]
  | .lossOfLock .. => [.regs, .watch, .mem, .chans, .out]
  | .selectiveModeEnter .. => [.regs, .chans]
  | .channelLate .. => [.regs, .watch, .mem, .chans, .dec, .seqs, .link, .cmds, .out, .freeCtr]
  | .slotHoldRequest .. => [.chans]
  | .slotHoldGrant .. => [.chans]
  | .coefDataWrite .. => [.regs, .chans, .out]
  | .coefQueueApply .. => [.chans]
  | .spareSubst .. => [.regs, .sys, .mem, .chans, .dec, .seqs, .cmds, .out]
  | .spareRelease .. => [.regs, .sys, .chans, .out]
  | .spareShadow .. => [.regs, .sys, .chans, .out]
  | .spareDetach .. => [.regs, .sys, .chans, .out]
  | .quickDecodeStart => [.regs, .chans, .dec, .cmds, .out]
  | .quickIterationEnd .. => [.regs, .watch, .mem, .chans, .dec, .link, .cmds, .out, .freeCtr]
  | .realignTrialEnd .. => [.regs, .watch, .mem, .chans, .dec, .link, .cmds, .out, .freeCtr]
  | .deepSlotLoadEnd .. => [.regs, .watch, .mem, .chans, .dec, .link, .cmds, .out, .freeCtr]
  | .deepOuterIterationEnd .. => [.regs, .watch, .mem, .chans, .dec, .cmds, .out]
  | .decTracePop => [.dec, .out]
  | .streamSectorReady .. => [.regs, .watch, .mem, .wrp, .seqs, .link, .cmds, .out, .freeCtr]
  | .sectorRewrite .. => [.regs, .seqs, .cmds]
  | .paFrameEnd .. => [.regs, .wrp, .out]
  | .paKeepalive .. => [.regs, .wrp, .out]
  | .paReadResponse .. => [.regs, .watch, .media, .wrp, .seqs, .link, .cmds, .out, .freeCtr]
  | .paMailboxCmd .. => [.regs, .sys, .wrp, .out]
  | .heaterUpdate .. => [.regs, .wrp, .out]
  | .paFaultNFall .. => [.regs, .watch, .media, .wrp, .seqs, .cmds, .out]
  | .paFaultNRise .. => [.wrp]
  | .headConfirmTest .. => [.regs, .watch, .media, .chans, .wrp, .out, .freeCtr]
  | .loopComputation .. => [.regs, .watch, .media, .wrp, .srv, .ctl, .seqs, .link, .cmds, .out, .freeCtr]
  | .ctlLate => [.regs, .watch, .wrp, .ctl, .link, .out, .freeCtr]
  | .trimAutoClose .. => [.regs, .wrp, .ctl]
  | .seekTimeout .. => [.regs, .watch, .media, .wrp, .srv, .ctl, .mot, .seqs, .cmds, .out, .freeCtr]
  | .loadFail .. => [.regs, .watch, .media, .wrp, .srv, .ctl, .seqs, .cmds, .out]
  | .trimSatSet .. => [.regs, .watch, .wrp, .link, .out, .freeCtr]
  | .trimSatClear .. => [.regs, .wrp]
  | .oscStage1 .. => [.regs, .watch, .media, .wrp, .ctl, .seqs, .link, .cmds, .out, .freeCtr]
  | .oscStage2 .. => [.regs, .watch, .ctl, .link, .out, .freeCtr]
  | .oscStage3 .. => [.regs, .watch, .media, .wrp, .srv, .ctl, .mot, .seqs, .link, .cmds, .out, .freeCtr]
  | .oscCountReset .. => [.regs, .wrp, .ctl]
  | .ctlClose .. => [.regs, .sys, .wrp, .ctl, .out]
  | .ctlOpen .. => [.regs, .sys, .out]
  | .ctlResetOsc .. => [.regs, .wrp, .ctl]
  | .ctlCoefCommit .. => [.regs, .sys, .ctl, .out]
  | .profGo .. => [.regs, .sys, .wrp, .ctl, .out, .freeCtr]
  | .profStop .. => [.regs, .ctl, .freeCtr]
  | .motorPwmUpdate .. => [.regs, .watch, .media, .wrp, .srv, .ctl, .mot, .seqs, .link, .cmds, .out, .freeCtr]
  | .pwmLate => [.regs, .watch, .link, .out, .freeCtr]
  | .encOfsLearned => [.regs, .ctl, .mot]
  | .obsDrift => [.regs, .watch, .mot, .out, .freeCtr]
  | .microactuatorFrame => [.mot, .out]
  | .dacLate => [.regs, .watch, .link, .out, .freeCtr]
  | .returnWord .. => [.regs, .watch, .media, .wrp, .srv, .ctl, .mot, .seqs, .link, .cmds, .out, .freeCtr]
  | .maFault .. => [.regs, .watch, .media, .wrp, .seqs, .link, .cmds, .out, .freeCtr]
  | .motorAdcConversion .. => [.regs, .watch, .media, .wrp, .srv, .ctl, .mot, .seqs, .link, .cmds, .out, .freeCtr]
  | .busTrip => [.regs, .watch, .mot, .link, .out, .freeCtr]
  | .spStart => [.regs, .ctl, .mot]
  | .spStop => [.regs, .watch, .media, .wrp, .srv, .ctl, .mot, .seqs, .cmds, .out]
  | .senseDone .. => [.regs, .watch, .media, .wrp, .srv, .ctl, .mot, .seqs, .cmds, .out]
  | .spindleRest => [.regs, .ctl, .mot]
  | .alignDone => [.regs, .ctl, .mot]
  | .rampEnd .. => [.regs, .watch, .media, .wrp, .srv, .ctl, .mot, .seqs, .cmds, .out, .freeCtr]
  | .catchAttemptEnd .. => [.regs, .watch, .media, .wrp, .srv, .ctl, .mot, .seqs, .cmds, .out]
  | .phaseOpen => [.regs, .watch, .media, .wrp, .srv, .ctl, .mot, .seqs, .link, .cmds, .out, .freeCtr]
  | .phaseShort => [.regs, .watch, .media, .wrp, .srv, .ctl, .mot, .seqs, .link, .cmds, .out, .freeCtr]
  | .motLoad .. => [.regs, .sys, .mot, .out]
  | .motRetract .. => [.regs, .watch, .media, .wrp, .srv, .ctl, .seqs, .cmds, .out]
  | .motTest .. => [.regs, .sys, .mot, .out]
  | .vcmTestEnd .. => [.regs, .watch, .media, .wrp, .srv, .ctl, .mot, .seqs, .link, .cmds, .out, .freeCtr]
  | .vcmTestRepeat .. => [.mot]
  | .loadOffRamp .. => [.regs, .ctl]
  | .loadTravelTimeout .. => [.regs, .watch, .link, .out, .freeCtr]
  | .actuatorParked .. => [.regs, .mot]
  | .retractTimeout .. => [.regs, .watch, .link, .out, .freeCtr]
  | .pwmGenSelfCheckFail .. => [.regs, .watch, .mot, .link, .out, .freeCtr]
  | .pwmGenDisagree => [.regs, .watch, .mot, .link, .out, .freeCtr]
  | .rideThroughEnter => [.regs, .sys, .watch, .mem, .dram, .media, .wrp, .srv, .ctl, .mot, .seqs, .cmds, .sch, .out, .freeCtr]
  | .rideThroughFlashDone => [.sys, .watch, .mot, .qfb]
  | .rideThroughEnd => [.regs, .watch, .ctl, .mot, .pack, .freeCtr]
  | .xbarReadBurst .. => [.regs, .watch, .mem, .link, .out, .freeCtr]
  | .xbarWriteBurst .. => [.regs, .watch, .mem, .out]
  | .scrubRead .. => [.regs, .mem, .out]
  | .memRetireFrame .. => [.regs, .sys, .watch, .mem, .link, .out, .freeCtr]
  | .memRetireBank .. => [.regs, .sys, .watch, .mem, .link, .out, .freeCtr]
  | .migration => [.regs, .sys, .watch, .mem, .link, .out, .freeCtr]
  | .memAlloc .. => [.regs, .sys, .mem, .out]
  | .memRelease .. => [.regs, .sys, .watch, .mem, .link, .out, .freeCtr]
  | .planeFence .. => [.regs, .watch, .mem, .link, .out, .freeCtr]
  | .elogPop => [.mem, .out]
  | .cacheRequest .. => [.regs, .watch, .mem, .dram, .link, .out, .freeCtr]
  | .cacheFillReturn => [.regs, .watch, .mem, .dram, .link, .out, .freeCtr]
  | .victimWritebackDone .. => [.regs, .watch, .mem, .dram, .link, .sch, .out, .freeCtr]
  | .cacheWaitResume => [.regs, .watch, .mem, .dram, .link, .out, .freeCtr]
  | .bccClean .. => [.regs, .sys, .watch, .mem, .dram, .link, .out, .freeCtr]
  | .bccInvalidate .. => [.regs, .sys, .watch, .mem, .dram, .link, .out, .freeCtr]
  | .bccCleanInv .. => [.regs, .sys, .watch, .mem, .dram, .link, .out, .freeCtr]
  | .bccLockFill .. => [.regs, .sys, .watch, .mem, .dram, .link, .out, .freeCtr]
  | .bccUnlock .. => [.regs, .sys, .watch, .mem, .dram, .link, .out, .freeCtr]
  | .bccZero .. => [.regs, .sys, .watch, .mem, .dram, .link, .out, .freeCtr]
  | .cacheDrainDone => [.regs, .watch, .mem, .dram, .link, .out, .freeCtr]
  | .ddrReadComplete .. => [.regs, .watch, .mem, .dram, .link, .sch, .out, .freeCtr]
  | .ddrWriteCrcAlert .. => [.regs, .watch, .mem, .dram, .link, .sch, .out, .freeCtr]
  | .ddrRefresh .. => [.dram, .out]
  | .patrolRead .. => [.regs, .watch, .mem, .dram, .link, .sch, .out, .freeCtr]
  | .ddrFenceCmd .. => [.regs, .watch, .mem, .dram, .link, .sch, .out, .freeCtr]
  | .lgtArm .. => [.regs, .sys, .chans, .lgt, .cmds, .qfb, .out]
  | .lgtStop .. => [.regs, .chans, .lgt, .cmds, .qfb, .out]
  | .lgtBurstIssue .. => [.regs, .watch, .mem, .chans, .lgt, .link, .cmds, .qfb, .out, .freeCtr]
  | .lgtBurstResponse .. => [.regs, .watch, .mem, .dram, .chans, .lgt, .cmds, .qfb, .out]
  | .lgtFlushReadDone .. => [.regs, .chans, .lgt, .cmds, .qfb, .out]
  | .hostCompletionTimeout .. => [.regs, .watch, .mem, .dram, .chans, .lgt, .cmds, .qfb, .out]
  | .pckJobGo .. => [.regs, .sys, .pack, .out]
  | .packJobStart .. => [.regs, .watch, .mem, .pack, .link, .out, .freeCtr]
  | .packEncoderResume .. => [.regs, .watch, .mem, .pack, .link, .out, .freeCtr]
  | .packInputResume .. => [.regs, .watch, .mem, .pack, .link, .out, .freeCtr]
  | .packJobEnd .. => [.regs, .watch, .mem, .pack, .link, .cmds, .out, .freeCtr]
  | .pckKeyDataWrite .. => [.pack]
  | .pckKeyLoad .. => [.regs, .sys, .watch, .pack, .out]
  | .pckKeyErase .. => [.regs, .pack, .out]
  | .keyZeroize .. => [.regs, .watch, .pack, .out]
  | .pckResPop => [.regs, .pack, .out]
  | .perstNDeassert => [.link]
  | .bar2Access .. => [.regs, .watch, .mem, .dram, .link, .out, .freeCtr]
  | .d3hotEntry => [.link, .bq]
  | .d0Entry => [.link, .bq, .sch]
  | .laneFailed .. => [.regs, .sys, .watch, .mem, .media, .chans, .dec, .wrp, .seqs, .lgt, .pack, .link, .bq, .cmds, .sch, .qfb, .out, .freeCtr]
  | .flr => [.regs, .sys, .watch, .mem, .media, .chans, .dec, .wrp, .seqs, .lgt, .pack, .link, .bq, .cmds, .sch, .qfb, .out, .freeCtr]
  | .hotReset => [.regs, .sys, .watch, .mem, .media, .chans, .dec, .wrp, .seqs, .lgt, .pack, .link, .bq, .cmds, .sch, .qfb, .out, .freeCtr]
  | .linkDown => [.regs, .sys, .watch, .mem, .media, .chans, .dec, .wrp, .seqs, .lgt, .pack, .link, .bq, .cmds, .sch, .qfb, .out, .freeCtr]
  | .flrComplete => [.regs, .sys, .watch, .mem, .media, .chans, .dec, .wrp, .seqs, .lgt, .pack, .link, .bq, .cmds, .sch, .qfb, .out, .freeCtr]
  | .doeRequest .. => [.regs, .out]
  | .bqDoorbell .. => [.regs, .sys, .watch, .out]
  | .entryFetch => [.regs, .bq, .out]
  | .entryFetchComplete .. => [.regs, .link, .bq, .cmds, .sch, .out]
  | .commandStart .. => [.regs, .sys, .watch, .mem, .media, .chans, .lgt, .link, .cmds, .sch, .qfb, .out, .freeCtr]
  | .commandComplete .. => [.regs, .sys, .watch, .mem, .chans, .dec, .wrp, .seqs, .lgt, .pack, .link, .bq, .cmds, .sch, .qfb, .out, .freeCtr]
  | .publicationWrite .. => [.regs, .link, .bq, .out]
  | .coalExpiry .. => [.link, .bq, .out]
  | .freezeSettled .. => [.regs, .bq]
  | .disableSettled .. => [.regs, .bq, .cmds]
  | .adminRingEnable .. => [.regs, .sys, .bq, .out]
  | .adminRingDisable => [.regs, .sys, .watch, .mem, .link, .bq, .cmds, .sch, .out, .freeCtr]
  | .quiesceDone => [.regs, .watch, .media, .wrp, .srv, .ctl, .mot, .seqs, .link, .cmds, .sch, .out, .freeCtr]
  | .readCmd .. => [.regs, .chans, .wrp, .seqs, .lgt, .cmds, .qfb, .out]
  | .writeCmd .. => [.regs, .watch, .mem, .dram, .media, .chans, .lgt, .link, .cmds, .sch, .qfb, .out, .freeCtr]
  | .zoneAppend .. => [.regs, .watch, .mem, .dram, .media, .chans, .wrp, .seqs, .lgt, .link, .cmds, .sch, .qfb, .out, .freeCtr]
  | .packedAppend .. => [.regs, .watch, .mem, .dram, .media, .chans, .lgt, .pack, .cmds, .qfb, .out]
  | .parcelRead .. => [.regs, .watch, .mem, .chans, .wrp, .seqs, .lgt, .pack, .link, .cmds, .qfb, .out, .freeCtr]
  | .zoneOpen .. => [.regs, .media, .cmds, .sch, .out]
  | .zoneClose .. => [.regs, .media, .cmds, .sch, .out]
  | .zoneFinish .. => [.regs, .media, .cmds, .sch, .out]
  | .zoneReset .. => [.regs, .watch, .mem, .dram, .media, .cmds, .sch, .out]
  | .zoneReport .. => [.cmds, .out]
  | .flushCmd .. => [.cmds]
  | .verify .. => [.regs, .watch, .mem, .wrp, .seqs, .link, .cmds, .out, .freeCtr]
  | .peerCopy .. => [.regs, .watch, .mem, .dram, .media, .wrp, .seqs, .link, .cmds, .sch, .qfb, .out, .freeCtr]
  | .abortCmd .. => [.regs, .media, .chans, .dec, .wrp, .seqs, .lgt, .pack, .bq, .cmds, .qfb, .out]
  | .identify .. => [.cmds, .out]
  | .getFeature .. => [.cmds]
  | .setFeature .. => [.regs, .sys, .watch, .mem, .dram, .chans, .wrp, .srv, .ctl, .link, .cmds, .sch, .out, .freeCtr]
  | .setLatencyTolerance .. => [.regs, .watch, .media, .wrp, .srv, .ctl, .mot, .seqs, .cmds, .sch, .out, .freeCtr]
  | .ringCreate .. => [.regs, .bq, .cmds]
  | .ringDelete .. => [.regs, .link, .bq, .cmds]
  | .ringEnable .. => [.regs, .bq, .cmds]
  | .ringDisable .. => [.regs, .sys, .watch, .mem, .link, .bq, .cmds, .sch, .out, .freeCtr]
  | .ringRestart .. => [.regs, .bq, .cmds]
  | .getLog .. => [.cmds, .out]
  | .logbookClear .. => [.regs, .sys, .watch, .media, .cmds, .out]
  | .firmwareDownload .. => [.regs, .sys, .watch, .cmds, .out, .freeCtr]
  | .firmwareActivate .. => [.regs, .sys, .watch, .mem, .link, .bq, .cmds, .sch, .out, .freeCtr]
  | .activationDone => [.regs, .sys, .watch, .mem, .dram, .chans, .wrp, .srv, .ctl, .seqs, .stores, .link, .bq, .cmds, .sch, .out, .freeCtr]
  | .keyLoad .. => [.regs, .watch, .pack, .cmds, .out]
  | .keyErase .. => [.regs, .pack, .cmds]
  | .setTime .. => [.sys, .cmds]
  | .adoptMedia .. => [.regs, .sys, .watch, .media, .cmds, .out]
  | .fabricStatus .. => [.cmds, .out]
  | .tierMapInstall .. => [.regs, .sys, .watch, .mem, .media, .link, .out, .freeCtr]
  | .dispatchStep .. => [.regs, .sys, .watch, .mem, .media, .wrp, .ctl, .seqs, .link, .cmds, .sch, .out, .freeCtr]
  | .urgentPreempt .. => [.regs, .ctl, .seqs, .cmds, .sch, .out, .freeCtr]
  | .lockGrant => [.regs, .sys, .watch, .mem, .media, .chans, .lgt, .link, .cmds, .sch, .qfb, .out, .freeCtr]
  | .pageAllocGrant => [.regs, .sys, .watch, .mem, .media, .chans, .lgt, .link, .cmds, .sch, .qfb, .out, .freeCtr]
  | .idleTimerExpiry .. => [.regs, .watch, .media, .wrp, .srv, .ctl, .mot, .seqs, .cmds, .sch, .out, .freeCtr]
  | .idleEnd => [.regs, .watch, .media, .wrp, .srv, .ctl, .mot, .seqs, .cmds, .sch, .out, .freeCtr]
  | .powerStateReached => [.regs, .ctl, .mot, .cmds, .sch, .out, .freeCtr]
  | .portTrainingStart .. => [.regs, .out]
  | .portUp .. => [.regs, .sys, .watch, .mem, .chans, .dec, .wrp, .seqs, .lgt, .pack, .link, .cmds, .sch, .qfb, .out, .freeCtr]
  | .trainFail .. => [.regs, .sys, .watch, .mem, .chans, .dec, .wrp, .seqs, .lgt, .pack, .link, .cmds, .sch, .qfb, .out, .freeCtr]
  | .linkLost .. => [.regs, .sys, .watch, .mem, .chans, .dec, .wrp, .seqs, .lgt, .pack, .link, .cmds, .sch, .qfb, .out, .freeCtr]
  | .qfbRetrain .. => [.regs, .sys, .watch, .mem, .chans, .dec, .wrp, .seqs, .lgt, .pack, .link, .cmds, .sch, .qfb, .out, .freeCtr]
  | .dataFrame .. => [.regs, .sys, .watch, .mem, .chans, .dec, .wrp, .seqs, .lgt, .pack, .link, .cmds, .sch, .qfb, .out, .freeCtr]
  | .commitFrame .. => [.regs, .sys, .watch, .mem, .chans, .dec, .wrp, .seqs, .lgt, .pack, .link, .cmds, .sch, .qfb, .out, .freeCtr]
  | .resultFrame .. => [.regs, .sys, .watch, .mem, .chans, .dec, .wrp, .seqs, .lgt, .pack, .link, .cmds, .sch, .qfb, .out, .freeCtr]
  | .doneFrame .. => [.regs, .sys, .watch, .mem, .chans, .dec, .wrp, .seqs, .lgt, .pack, .link, .cmds, .sch, .qfb, .out, .freeCtr]
  | .cancelFrame .. => [.regs, .sys, .watch, .mem, .chans, .dec, .wrp, .seqs, .lgt, .pack, .link, .cmds, .sch, .qfb, .out, .freeCtr]
  | .readReq .. => [.regs, .sys, .watch, .mem, .chans, .dec, .wrp, .seqs, .lgt, .pack, .link, .cmds, .sch, .qfb, .out, .freeCtr]
  | .mediaReq .. => [.regs, .sys, .watch, .mem, .chans, .dec, .wrp, .seqs, .lgt, .pack, .link, .cmds, .sch, .qfb, .out, .freeCtr]
  | .hello .. => [.regs, .sys, .watch, .mem, .chans, .dec, .wrp, .seqs, .lgt, .pack, .link, .cmds, .sch, .qfb, .out, .freeCtr]
  | .heartbeat .. => [.regs, .watch, .qfb, .out]
  | .lsa .. => [.regs, .sys, .watch, .mem, .chans, .dec, .wrp, .seqs, .lgt, .pack, .link, .cmds, .sch, .qfb, .out, .freeCtr]
  | .credit .. => [.regs, .watch, .qfb, .out]
  | .mgmt .. => [.regs, .watch, .qfb, .out]
  | .helloSend .. => [.qfb, .out]
  | .heartbeatSend .. => [.qfb, .out]
  | .lsaOriginate => [.regs, .sys, .watch, .mem, .chans, .dec, .wrp, .seqs, .lgt, .pack, .link, .cmds, .sch, .qfb, .out, .freeCtr]
  | .lsaExpire => [.regs, .sys, .watch, .mem, .chans, .dec, .wrp, .seqs, .lgt, .pack, .link, .cmds, .sch, .qfb, .out, .freeCtr]
  | .addressAssign => [.regs, .sys, .watch, .mem, .chans, .dec, .wrp, .seqs, .lgt, .pack, .link, .cmds, .sch, .qfb, .out, .freeCtr]
  | .creditSend .. => [.qfb, .out]
  | .relayTimeout .. => [.regs, .qfb]
  | .commitRepeat => [.qfb, .out]
  | .retryResend => [.regs, .chans, .lgt, .cmds, .qfb, .out]
  | .outcomeDrop => [.regs, .qfb]
  | .stagingDiscard => [.regs, .sys, .watch, .mem, .chans, .dec, .wrp, .seqs, .lgt, .pack, .link, .cmds, .sch, .qfb, .out, .freeCtr]
  | .xferIdleAbandon => [.regs, .sys, .watch, .mem, .chans, .dec, .wrp, .seqs, .lgt, .pack, .link, .cmds, .sch, .qfb, .out, .freeCtr]
  | .transferRestart => [.regs, .chans, .lgt, .cmds, .qfb, .out]
  | .helmCoreFault .. => [.regs, .watch, .link, .out, .freeCtr]
  | .helmSpareSelftest .. => [.regs, .watch, .link, .out, .freeCtr]
  | .helmCheckpoint => [.regs, .sys, .watch, .link, .out, .freeCtr]
  | .opSecondsPersist => [.sys]
  | .faultRaise .. => [.regs, .sys, .watch, .mem, .dram, .media, .chans, .dec, .wrp, .srv, .ctl, .mot, .seqs, .lgt, .pack, .link, .cmds, .sch, .qfb, .out, .freeCtr]
  | .faultNTimerExpiry => [.regs]
  | .wchFnHold .. => [.regs]
  | .wchFnForce .. => [.regs]
  | .watchLogSwap => [.watch]
  | .wchWlogPop .. => [.regs, .watch, .link, .out, .freeCtr]
  | .watchSelfCheckFail .. => [.regs, .watch, .link, .out, .freeCtr]
  | .watchDisagree => [.regs, .watch, .link, .out, .freeCtr]
  | .watchKat => [.regs, .watch, .link, .out, .freeCtr]
  | .anchorTakeover => [.regs, .watch, .media, .wrp, .srv, .ctl, .mot, .seqs, .cmds, .out]
  | .anchorHalt => [.regs, .watch, .wrp, .ctl, .mot, .pack, .freeCtr]
  | .wchInjGo .. => [.regs, .sys, .watch, .out, .freeCtr]
  | .wchInjAuth .. => [.regs, .sys, .watch, .out]
  | .wchInjTokenWrite .. => [.watch]
  | .injectionExpiry => [.regs, .watch, .out]
  | .logbookPersist .. => [.regs, .watch, .media]
  | .logFwGo .. => [.regs, .sys, .watch, .out]
  | .sysGlue .. => [.regs, .sys, .watch, .mem, .dram, .chans, .wrp, .ctl, .link, .out, .freeCtr]
  | .registerWrite .. => [.regs, .sys, .wrp, .srv, .ctl, .link, .out]
  | .slowWriteApply .. => [.regs, .sys, .wrp, .srv, .ctl, .out]
  | .rcRead .. => [.regs, .sys, .watch, .dram, .out]
  | .sysRefPop .. => [.sys, .out]
  | .sysTmrExpiry .. => [.regs, .sys, .out]
  | .timerCaptureEdge .. => [.regs]
  | .ddrWriteComplete .. => [.regs, .watch, .mem, .dram, .link, .sch, .out, .freeCtr]
  | .linkUp .. => [.regs, .out]
  | .injectionWindowExpiry => [.watch]
  | .temperatureConversion .. => [.regs, .sys]

end Sys2Proof
end

