-- ==== Sys2Proof/WellFormed.lean ====
section
/-! DEFINITION. Which commands are well formed: the lengths and ranges that the interface delivering a command can present. A command that
breaks one of them has no meaning in the spec; its meaning refuses it or faults, by name. -/

namespace Sys2Proof

/-- A burst of `n` beats from beat `b` of a page lies in the page and has 1 to 16 beats (R228). -/
def burstFits (b n : Nat) : Bool := decide (1 ≤ n) && decide (n ≤ 16) && decide (b + n ≤ 128)

/-- A request to a DRAM address lies above the SRAM, within one line of 128 bytes, and moves at least one byte (R246, R250). -/
def lineFits (addr n : Nat) : Bool := decide (67108864 ≤ addr) && decide (1 ≤ n) && decide ((addr - 67108864) % 128 + n ≤ 128)

/-- The well-formed commands. -/
def Instr.wf : Instr → Bool
  | .xbarReadBurst _ _ _ beat beats _ => burstFits beat.val beats
  | .xbarWriteBurst _ _ beat data => decide (data.length % 32 = 0) && burstFits beat.val (data.length / 32)
  | .cacheRequest _ _ addr len w _ => lineFits addr.toNat (match w with | some bs => bs.length | none => len)
  | _ => true

end Sys2Proof
end

