-- ==== Sys2Proof/Safety.lean ====
section
/-! DEFINITION. What a safe run is: the commands offered are well formed and no step stops; and what every step keeps: the canonical form of
the memories, the fuses but for a rise of SVC, the fences between starts. -/

namespace Sys2Proof

/-- An outcome is a next state. -/
def isNext {σ φ ρ : Type} : Host.Outcome σ φ ρ → Bool
  | .next _ => true
  | _ => false

/-- Every command that waits is well formed. -/
def Machine.State.queueWf (s : Machine.State) : Bool := s.pending.all Instr.wf

/-- A command completes: its meaning answers a next state, of which `p` holds. -/
def Machine.completes (c : Instr) (s : Machine.State) (p : Machine.State → Prop) : Prop := ∃ t, Machine.exec c s = .next t ∧ p t

/-- A step of this state is safe: it answers a next state. -/
def Machine.State.safe (s : Machine.State) : Bool := isNext (Machine.step s)

namespace Machine

/-! ### The canonical form of the memories -/

/-- The register file, canonical: offsets rising, no entry equal to its reset value. -/
def State.regsWf (s : State) : Bool := sparseWf resetVal s.regs
/-- The SRAM, canonical: its bytes and the stored bits that differ. -/
def MemU.wf (m : MemU) : Bool := sparseWf (fun _ => (0 : Byte)) m.bytes && sparseWf (fun _ => 0) m.flips
/-- A DRAM channel, canonical: its bytes and the bursts that are not good. -/
def DdrCh.wf (d : DdrCh) : Bool := sparseWf (fun _ => (0 : Byte)) d.bytes && sparseWf (fun _ => DBurst.blank) d.bursts
/-- The register file, the SRAM, the DRAM and the boot flash are held in their canonical forms: equal contents are equal data. -/
def State.canonical (s : State) : Bool :=
  s.regsWf && s.mem.wf && s.dram.ch.all DdrCh.wf && sparseWf (fun _ => 0xFF#8) s.sys.flash

/-! ### Fuses and fences -/

/-- One-time fuses may only change so: every fuse but SVC as before, SVC no smaller (R446). -/
def Fuses.rise (a b : Fuses) : Prop := { b with svc := a.svc } = a ∧ a.svc ≤ b.svc

/-- The commands that end fences: those that bring or may bring an internal reset, the start that follows a bus hold, and the head tests of a
start, which put a microactuator back in service (R434, R460, R528). -/
def startsAnew : Instr → Bool
  | .powerOn | .brownOut | .perstNAssert _ | .resetNAssert _ | .sysResetCmd _ _ _ | .helmWatchdogExpiry _ | .busGoodRestart _ _ _
  | .registerSpaceOpen _ _ => true
  | _ => false

end Machine

end Sys2Proof
end

