-- ==== Sys2Proof/Terms.lean ====
section
/-! DEFINITION. The terms that statements share: a micro word about to run, a cache operation on one line, a started command and its end, a zone
lock held, a frame that arrives in order. -/

namespace Sys2Proof.Machine
open Reg

/-- Sequencer `a` executes its window, no injection is armed, the micro word at its PC is intact in the first copy and has the form `w`. -/
def State.atWord (s : State) (a : Nat) (w : MWord) : Bool :=
  s.seqRunning a && s.watch.armed.isNone && sparseGet 0 s.stores.errs (errKey false 0 (s.rd (SEQ_PC.PC a))) == 0 &&
  decide (decodeMicro (s.storeWord false 0 (s.rd (SEQ_PC.PC a))) = w)

/-- Initiator `w` may start a cache operation now on the one line `line`, mapped, held by way `k` and waiting for no fill. -/
def State.oneLine (s : State) (w : Initiator) (line k : Nat) : Bool :=
  s.mayWrite w && !s.on BCC_STATUS.BUSY && !s.dram.draining && s.rd BCC_MAINT_LEN.LEN == 1 &&
  decide (128 * s.rd BCC_MAINT_ADDR_LO.ADDR + 2 ^ 32 * s.rd BCC_MAINT_ADDR_HI.ADDR = dramBase + 128 * line) && s.lineMapped line &&
  !s.dram.miss.any (fun m => m.line == line && !m.bypass) && s.findWay line == some k

/-- Command `c`, with this tag and opcode, has been started, and its work goes on: it has not been stopped and the K4 runs (R332, R341). -/
def State.atWork (s : State) (tag op : Nat) (c : Cmd) : Bool :=
  decide (s.cmd? tag = some c) && c.phase == .started && c.opcode == op && !c.dropped && s.running && c.src != .destage

/-- The command with this tag has ended with status `st`. -/
def State.endedWith (s : State) (tag st : Nat) : Bool := (s.cmd? tag).any (fun d => d.phase == .ended && d.status == st)

/-- The command `c` holds the ZONE lock of zone `z`, its one zone, for the action `a` of R361 on that zone alone. -/
def State.zoneHeld (s : State) (c : Cmd) (a z : Nat) : Bool :=
  c.todoZones == [z] && c.u 28 1 % 4 == a && !bitOf (c.u 28 1) 2 && c.status == 0 && s.sch.locks.any (fun (e : LockEnt) => e.tag == c.tag && e.granted)

/-- An in-order data-class frame for this K4 arrives on UP port `p`, and no injection is armed (R409, R418). -/
def State.inOrder (s : State) (p : QPort) (h : QHdr) : Bool :=
  s.rd (QFB_PSTATUS.STATE p) == 3 && s.watch.armed.isNone && decide (h.cls.toNat < 3) && s.on QFB_ADDR.VALID &&
  h.dst.toNat == s.rd QFB_ADDR.ADDR && h.seq.toNat == sparseGet 0 s.qfb.recvSeq (h.src.toNat * 4 + h.cls.toNat)

/-- The state in which such a frame is handled: the silence timer has restarted and the next SEQ is expected (R411, R418). -/
def State.received (s : State) (p : Nat) (h : QHdr) : State :=
  (s.updQport p (fun u => { u with lastRx := s.sys.time })).updQfb
    (fun q => { q with recvSeq := sparseSet 0 q.recvSeq (h.src.toNat * 4 + h.cls.toNat) ((h.seq.toNat + 1) % 65536) })

end Sys2Proof.Machine
end

