-- ==== Sys2Proof/Certificates/Slice0/Obligations.lean ====
section
/-! DEFINITION. The statements for the provers. Each is the conjunction of its clauses; a clause about a command says that it completes, in every
state and for every operands that meet the hypotheses, and what its next state holds. -/

open Sys2Proof Sys2Proof.Machine Reg

/-- A step runs the command at the front of the queue with the queue's rest; on an empty queue it idles (idling is the model's choice, log entry 3)
(95_what_each_step_holds.md.) For every command c, every queue rest and every state whose queue is c followed by rest, a step is exec of c on
that state with the queue rest; a step of a state whose queue is empty answers the state itself. -/
def Obligations.StepRunsFrontCommand : Prop :=
  (∀ (c : Instr) (rest : List Instr) (s : State), s.pending = c :: rest → step s = exec c { s with pending := rest }) ∧
  (∀ s : State, s.pending = [] → step s = .next s)

/-- A command takes nothing from the queue and adds nothing; a step removes exactly the command it ran (the queue is the model's own)
(95_what_each_step_holds.md.) Whatever a command does, when it answers a next state the waiting commands are those that waited before; so a step
of a queue c followed by rest that answers a next state leaves the queue rest. -/
def Obligations.QueueFirstInFirstOut : Prop :=
  (∀ (c : Instr) (s t : State), exec c s = .next t → t.pending = s.pending) ∧
  (∀ (c : Instr) (rest : List Instr) (s t : State), s.pending = c :: rest → step s = .next t → t.pending = rest)

/-- The state before the first start: every register at its reset value, internal reset, no command waiting (R217, R250, R397, R411, R427, R437,
R510.) In State.reset every register reads the reset value of the table; the K4 is in internal reset with its supplies not applied, in BRING-UP;
among the values that the spec gives, the latency tolerance is 0xFFFFFFFF, HB_PERIOD, LOSS_TIME, ROUTE_QUIET and RELAY_MAX are 10, 100, 20 and
50, XFER_RETRY 3, XFER_IDLE 1, STAGE_HOLD 10, RECORD_HOLD 60 and every Quay port shows DOWN; no ring is beyond DELETED but the admin ring, which
is DISABLED; no unit is fenced, the queue is empty. -/
def Obligations.ResetState : Prop :=
  (State.reset.pending = [] ∧ State.reset.sys.inReset = true ∧ State.reset.sys.suppliesGood = false ∧ State.reset.mode = .bringUp ∧ State.reset.watch.fences = []) ∧
  (∀ a : Nat, State.reset.reg a = resetVal a) ∧
  (State.reset.rd SCH_LAT_TOL.TOL = 0xFFFFFFFF ∧ State.reset.rd QFB_TIMER_CFG.HB_PERIOD = 10 ∧ State.reset.rd QFB_TIMER_CFG.LOSS_TIME = 100 ∧ State.reset.rd QFB_TIMER_CFG.ROUTE_QUIET = 20 ∧
    State.reset.rd QFB_TIMER_CFG.RELAY_MAX = 50 ∧ State.reset.rd QFB_XFER_CFG.XFER_RETRY = 3 ∧ State.reset.rd QFB_XFER_CFG.XFER_IDLE = 1 ∧ State.reset.rd QFB_XFER_CFG.STAGE_HOLD = 10 ∧ State.reset.rd QFB_XFER_CFG.RECORD_HOLD = 60 ∧
    (∀ p : QPort, State.reset.rd (QFB_PSTATUS.STATE p) = 1) ∧ State.reset.ringState 128 = 1 ∧ ∀ r : Fin 128, State.reset.ringState r.val = 0)

/-- At reset the register file, the SRAM, the DRAM and the flash are held in canonical form (R226, R246, R509.) State.reset is canonical: its lists
of register values, memory bytes, inverted bits, bursts and flash bytes have strictly rising addresses and list nothing that an unlisted address
reads as. The form is the model's own. -/
def Obligations.CanonicalAtReset : Prop :=
  (State.reset.canonical = true)

/-- Every step keeps the canonical form of the register file, the SRAM, the DRAM and the flash (R226, R246, R509.) For every state whose register
file, SRAM, DRAM channels and boot flash are canonical (addresses strictly rising, nothing listed that an unlisted address reads as), if a step
answers a next state, that state's are canonical too: equal memories are equal data in every state that a run can reach from a canonical one. -/
def Obligations.CanonicalKeptByEveryStep : Prop :=
  (∀ s t : State, s.canonical = true → step s = .next t → t.canonical = true)

/-- No step changes a fuse but SVC, and SVC never falls (R446.) For every state, if a step answers a next state then every one-time fuse but the
counter SVC is as before, and SVC is as before or greater. -/
def Obligations.FusesOnlyRise : Prop :=
  (∀ s t : State, step s = .next t → s.sys.fuses.rise t.sys.fuses)

/-- A fenced unit stays fenced until a later start (R460, R528.) For every command but those that bring an internal reset, resume a start after a bus
hold, or run the head tests of a start, every unit that is fenced before a step that runs it is fenced after it. -/
def Obligations.FencesLastUntilAStart : Prop :=
  (∀ (c : Instr) (rest : List Instr) (s t : State) (u : FUnit), s.pending = c :: rest → startsAnew c = false → step s = .next t → s.isFenced u = true → t.isFenced u = true)

/-- Every well-formed command answers a next state in every state, and no ill-formed one does (R4, R484, 95_what_each_step_holds.md.) For every
command and every state: if the command is well formed (its crossbar burst lies in the page, its cache request in one line) exec answers a next
state, whatever the state is; if it is not, exec answers no next state. So a run of well-formed commands never stops. -/
def Obligations.EveryCommandCompletes : Prop :=
  (∀ (c : Instr) (s : State), c.wf = true → isNext (exec c s) = true) ∧
  (∀ (c : Instr) (s : State), c.wf = false → isNext (exec c s) = false) ∧
  (∀ s : State, s.queueWf = true → s.safe = true)

/-- Each of the 292 commands leaves unchanged every part of the state that its footprint does not name (R226, R485, 95_what_each_step_holds.md.) For
every command and state, when exec answers a next state, every part of State that the command's footprint (Sys2Proof/Machine/Footprint.lean, one
line for each command) does not name is the same after as before: the SRAM with every byte of it, the DRAM and its cache, the media state, and
the state of each unit. -/
def Obligations.PartsFrame : Prop :=
  (∀ (c : Instr) (s t : State) (p : Part), exec c s = .next t → p ∉ c.parts → p.same s t)

/-- Each command leaves unchanged every register outside the register arrays that its footprint names (R483, R485, 95_what_each_step_holds.md.) For
every command but the fifteen whose footprint lets any register change (the sources of a reset or start, register writes and reads with side
effects, glue-ups, a feature that writes a register, the end of an activation, the bell), and every state: when exec answers a next state, every
register that is no instance of a register array named in the command's footprint reads the same after as before. -/
def Obligations.RegistersFrame : Prop :=
  (∀ (c : Instr) (s t : State) (a : Nat), exec c s = .next t → c.anyRegister = false → (∀ k ∈ c.arrays, ¬inFam k a) → t.reg a = s.reg a)

/-- A buffer write changes the enabled bytes, each with its check bits, and no other stored bit (R230.) With the page accessible and no injection
armed, after XBAR_WRITE_BURST each enabled byte is stored at its address in the page's frame with fresh check bits, and every other cell of the
SRAM holds the same 13 bits as before; a BAR2 write within one page of the SRAM does the same with all its bytes. No read is made: nothing else
of the SRAM's state changes. -/
def Obligations.BufferWritesOnlyEnabledBytes : Prop :=
  (∀ (port : Fin 16) (page : Fin 16384) (beat : Fin 128) (data : List (Option Byte)) (s : State), data.length % 32 = 0 → burstFits beat (data.length / 32) = true → (s.pageInfo page).retired = false → s.mayAccess port page true = true → s.watch.armed = none →
    completes (.xbarWriteBurst port page beat data) s (fun t => { t.mem with bytes := s.mem.bytes, flips := s.mem.flips } = s.mem ∧ ∀ k : Nat,
      t.mem.cell k = (match (if s.frameOf page * 4096 + 32 * beat ≤ k then data.getD (k - (s.frameOf page * 4096 + 32 * beat)) none else none) with
        | some b => (b, checkBits b)
        | none => s.mem.cell k))) ∧
  (∀ (a : BitVec 32) (d : List Byte) (s : State), s.on BQ_LINK_STAT.UP = true → s.sys.regOpen = true → s.link.resetting = false → s.link.d3hot = false → s.running = true → s.watch.armed = none →
    a.toNat < dramBase → a.toNat % 4096 + d.length ≤ 4096 → (s.pageInfo (a.toNat / 4096)).retired = false → s.mayAccess 11 (a.toNat / 4096) true = true →
    completes (.bar2Access (.write a d false)) s (fun t => { t.mem with bytes := s.mem.bytes, flips := s.mem.flips } = s.mem ∧ ∀ k : Nat,
      t.mem.cell k = (match (if s.frameOf (a.toNat / 4096) * 4096 + a.toNat % 4096 ≤ k then d[k - (s.frameOf (a.toNat / 4096) * 4096 + a.toNat % 4096)]? else none) with
        | some b => (b, checkBits b)
        | none => s.mem.cell k)))

/-- Each byte is stored with five check bits, and a read decides by the syndrome and the parity (R229.) The five check bits are the sums that the
rule gives; a write stores them with the byte; a read answers for each byte what the table of the rule decides from the syndrome s and the parity
p of the 13 bits read: no error, a corrected check bit, the data bit at code position s inverted, or uncorrectable. The example of the rule: 0xB4
has the check bits 0b01001, and 0x94 with them reads as 0xB4, corrected. -/
def Obligations.ByteCheckCode : Prop :=
  (∀ d : Byte, (∀ i : Fin 4, (checkBits d).testBit i.val = ((List.range 8).filter (fun k => ([0x5B, 0x6D, 0x8E, 0xF0].getD i.val 0 : Nat).testBit k)).foldl (fun x k => x != d.getLsbD k) false) ∧
    (parityOf d.toNat 8 ^^ parityOf (checkBits d) 5) = false ∧ checkBits d < 32) ∧
  (∀ (d : Byte) (c : BitVec 5) (x : Nat), x = (checkBits d ^^^ c.toNat) % 16 →
    (eccRead d c.toNat).1 = (if (parityOf d.toNat 8 ^^ parityOf c.toNat 5) = true then (match [none, none, none, some 0, none, some 1, some 2, some 3, none, some 4, some 5, some 6, some 7].getD x none with | some k => d ^^^ BitVec.ofNat 8 (2 ^ k) | none => d) else d) ∧
    (eccRead d c.toNat).2.1 = (if (parityOf d.toNat 8 ^^ parityOf c.toNat 5) = true then (if x ≤ 12 then .corrected else .bad) else if x = 0 then .good else .bad)) ∧
  (checkBits 0xB4 = 0b01001 ∧ (eccRead 0x94 0b01001).1 = 0xB4 ∧ (eccRead 0x94 0b01001).2.1 = .corrected) ∧
  (∀ (port : Fin 16) (page : Fin 16384) (beat : Fin 128) (data : List (Option Byte)) (b : Byte) (i : Nat) (s : State), data.length % 32 = 0 → burstFits beat (data.length / 32) = true → (s.pageInfo page).retired = false → s.mayAccess port page true = true → s.watch.armed = none →
    data.getD i none = some b → completes (.xbarWriteBurst port page beat data) s (fun t => t.mem.cell (s.frameOf page * 4096 + 32 * beat + i) = (b, checkBits b))) ∧
  (∀ (port : Fin 16) (chan : Byte) (page : Fin 16384) (beat : Fin 128) (beats : Nat) (s : State), burstFits beat beats = true → (s.pageInfo page).retired = false → s.mayAccess port page false = true → s.watch.armed = none →
    completes (.xbarReadBurst port chan page beat beats []) s (fun t => ∃ ue, t.out.getLast? = some (.xbarResp ((List.range (32 * beats)).map (fun i => (eccRead (s.mem.cell (s.frameOf page * 4096 + 32 * beat + i)).1 (s.mem.cell (s.frameOf page * 4096 + 32 * beat + i)).2).1)) ue false) ∧
      ∀ i, ue.testBit i = (decide (i < 32 * beats) && (eccRead (s.mem.cell (s.frameOf page * 4096 + 32 * beat + i)).1 (s.mem.cell (s.frameOf page * 4096 + 32 * beat + i)).2).2.1 == .bad)))

/-- Outside FACTORY a mailbox write to MODE, WC or HTR is refused; reads of them and all access to the others are allowed (R119.) PA_MAILBOX_CMD of
an initiator that may write, for a present head: outside FACTORY a write to register 3, 4 or 5 (MODE, WC, HTR) sets REFUSED, leaves the port as
it was and sends no frame; a read of them, an access to any other register and any access in FACTORY leaves REFUSED as it was and puts the frame
in flight or in the port's queue of mailbox frames. (A read with BCAST is not a frame: it is refused.) -/
def Obligations.OwnedHeadRegisters : Prop :=
  (∀ (w : Initiator) (h : Head) (addr : Byte) (data : BitVec 16) (bcast : Bool) (s : State), s.mayWrite w = true → s.headPresent h = true → s.mode ≠ .factory → addr ∈ [3, 4, 5] →
    completes (.paMailboxCmd w h addr data false bcast) s (fun t => t.rd (WRP_PA_RESP.REFUSED h) = 1 ∧ t.wrp = s.wrp ∧ ∀ a b, .paFrame a b ∈ t.out → .paFrame a b ∈ s.out)) ∧
  (∀ (w : Initiator) (h : Head) (addr : Byte) (data : BitVec 16) (rd bcast : Bool) (s : State), s.mayWrite w = true → s.headPresent h = true → (rd && bcast) = false → (rd = true ∨ s.mode = .factory ∨ addr ∉ [3, 4, 5]) → s.wrp.ports.length = 4 →
    completes (.paMailboxCmd w h addr data rd bcast) s (fun t => t.rd (WRP_PA_RESP.REFUSED h) = s.rd (WRP_PA_RESP.REFUSED h) ∧
      ((t.port (h / 6)).inFlight = some { read := rd, pos := if bcast then 7 else h.val % 6, addr := addr.toNat, data := if rd then 0 else data.toNat, mailbox := some (h.val % 6) } ∨
       { read := rd, pos := if bcast then 7 else h.val % 6, addr := addr.toNat, data := if rd then 0 else data.toNat, mailbox := some (h.val % 6) } ∈ (t.port (h / 6)).mailQ)))

/-- The latency tolerance, and the power states it allows (R397.) SET LATENCY TOLERANCE sets the tolerance to its bytes 32 to 35; POWER_ON,
BROWN_OUT, the four sources of a warm start and a start after a bus hold set it to 0xFFFFFFFF. A state is allowed exactly when it is P0, or its
exit latency does not exceed the tolerance and its idle timer is not 0; the expiry of the timer of a state that is not allowed changes no target. -/
def Obligations.AllowedPowerStates : Prop :=
  (∀ (tag : BitVec 14) (c : Cmd) (s : State), s.atWork tag.toNat 0x83 c = true → c.status = 0 → c.stage = 0 → completes (.setLatencyTolerance tag) s (fun t => t.rd SCH_LAT_TOL.TOL = c.u 32 4)) ∧
  (∀ s : State, (s.sys.suppliesGood = false → completes .powerOn s (fun t => t.rd SCH_LAT_TOL.TOL = 0xFFFFFFFF)) ∧ completes .brownOut s (fun t => t.rd SCH_LAT_TOL.TOL = 0xFFFFFFFF)) ∧
  (∀ (w : Initiator) (prep : Bool) (s : State), s.sys.inReset = false → completes (.perstNAssert prep) s (fun t => t.rd SCH_LAT_TOL.TOL = 0xFFFFFFFF) ∧ completes (.resetNAssert prep) s (fun t => t.rd SCH_LAT_TOL.TOL = 0xFFFFFFFF) ∧
    (s.canReach w = true → completes (.sysResetCmd w 0x0000A5C3#32 prep) s (fun t => t.rd SCH_LAT_TOL.TOL = 0xFFFFFFFF)) ∧
    (s.on SYS_WDOG_CFG.EN = true → s.sys.wdogFrom + 25000000 * s.rd SYS_WDOG_CFG.PERIOD ≤ s.sys.time → completes (.helmWatchdogExpiry prep) s (fun t => t.rd SCH_LAT_TOL.TOL = 0xFFFFFFFF))) ∧
  (∀ (f : Bool) (r : BitVec 2) (k : BitVec 3) (s : State), s.sys.busHold = true → s.sys.inReset = false → completes (.busGoodRestart f r k) s (fun t => t.rd SCH_LAT_TOL.TOL = 0xFFFFFFFF)) ∧
  (∀ (k : Nat) (s : State), s.powerAllowed k = true ↔ (k = 0 ∨ ([0, 60, 450000, 4000000, 20000000, 22000000].getD k 0 ≤ s.rd SCH_LAT_TOL.TOL ∧ s.idleTimer k ≠ 0))) ∧
  (∀ (k : Fin 6) (s : State), s.powerAllowed k.val = false → completes (.idleTimerExpiry k) s (fun t => t.rd SCH_PWR_STAT.TARGET = s.rd SCH_PWR_STAT.TARGET ∧ t.rd SCH_PWR_STAT.STATE = s.rd SCH_PWR_STAT.STATE))

/-- Reads of SEQ_STORE_DATA: the open region always, any other word only in FACTORY (R150.) A Helm read of word j of SEQ_STORE_DATA, outside HALTED
with no write posted, outputs word j of the store word that STORE, ADDR and COPY name when it lies in the open region (micro 12,288 and up, nano
768 to 1,023) or the K4 is in FACTORY, and 0 otherwise. -/
def Obligations.TwiariStoreReads : Prop :=
  (∀ (j : Fin 4) (lag : Word) (s : State), s.mode ≠ .halted → s.postQ .helm = [] → s.sys.latches = [] →
    completes (.rcRead .helm (BitVec.ofNat 27 (SEQ_STORE_DATA j)) lag) s (fun t => t.out = s.out ++ [.regRead (BitVec.ofNat 32 (
      (if s.mode = .factory ∨ (if s.on SEQ_STORE_ADDR.STORE then 768 ≤ s.rd SEQ_STORE_ADDR.ADDR ∧ s.rd SEQ_STORE_ADDR.ADDR < 1024 else 12288 ≤ s.rd SEQ_STORE_ADDR.ADDR)
       then s.storeWord (s.on SEQ_STORE_ADDR.STORE) (s.rd SEQ_STORE_ADDR.COPY) (s.rd SEQ_STORE_ADDR.ADDR) else 0) / 2 ^ (32 * j.val)))]))

/-- POWER_ON and BROWN_OUT bring internal reset for a cold start, with every register but two arrays at its reset value (R434, R509, R510, R525.)
POWER_ON with the supplies not yet good, and BROWN_OUT in every state, answer a next state in internal reset whose start is cold: the supplies
are good after POWER_ON and not after BROWN_OUT; the fuses and the boot flash are as before, the record of the always-on domain is gone, and
every register outside the arrays WRP_n_STATUS and MOT_MA_FAULT reads its reset value. -/
def Obligations.ColdStart : Prop :=
  (∀ s : State, s.sys.suppliesGood = false → completes .powerOn s (fun t =>
    t.sys.suppliesGood = true ∧ t.sys.inReset = true ∧ t.sys.startKind = .cold ∧ t.sys.aonRec = none ∧ t.sys.fuses = s.sys.fuses ∧
    t.sys.flash = s.sys.flash ∧ ∀ a, (∀ h, a ≠ WRP_STATUS h) → a ≠ MOT_MA_FAULT → t.reg a = resetVal a)) ∧
  (∀ s : State, completes .brownOut s (fun t =>
    t.sys.suppliesGood = false ∧ t.sys.inReset = true ∧ t.sys.startKind = .cold ∧ t.sys.aonRec = none ∧ t.sys.fuses = s.sys.fuses ∧
    t.sys.flash = s.sys.flash ∧ ∀ a, (∀ h, a ≠ WRP_STATUS h) → a ≠ MOT_MA_FAULT → t.reg a = resetVal a))

/-- Power-on leads to a cold start; PERST_N, RESET_N, SYS_RESET_CMD and the watchdog to a warm one, escalated from HALTED or before ALIVE (R434.)
POWER_ON with the supplies not yet good answers a next state in internal reset for a cold start. Outside internal reset PERST_N_ASSERT (cause 1),
RESET_N_ASSERT (cause 2), SYS_RESET_CMD of 0x0000A5C3 by an initiator that reaches registers (cause 3) and HELM_WATCHDOG_EXPIRY with the watchdog
enabled and its period passed (cause 4) answer a next state in internal reset with that cause and the fuses as before; the start is warm when
ALIVE is set, the mode is not HALTED and the operand says that the preparation completed, and escalated otherwise. After PERST_N_ASSERT the ball
is held. -/
def Obligations.WarmStartSources : Prop :=
  (∀ (prep : Bool) (s : State), s.sys.inReset = false →
    completes (.perstNAssert prep) s (fun t => t.sys.inReset = true ∧ t.sys.startCause = 1 ∧ t.sys.fuses = s.sys.fuses ∧
      t.sys.startKind = (if s.on SYS_START.ALIVE && s.mode != .halted && prep then .warm else .escalated) ∧ t.link.perst = true)) ∧
  (∀ (prep : Bool) (s : State), s.sys.inReset = false →
    completes (.resetNAssert prep) s (fun t => t.sys.inReset = true ∧ t.sys.startCause = 2 ∧ t.sys.fuses = s.sys.fuses ∧
      t.sys.startKind = (if s.on SYS_START.ALIVE && s.mode != .halted && prep then .warm else .escalated))) ∧
  (∀ (w : Initiator) (prep : Bool) (s : State), s.canReach w = true → s.sys.inReset = false →
    completes (.sysResetCmd w 0x0000A5C3#32 prep) s (fun t => t.sys.inReset = true ∧ t.sys.startCause = 3 ∧ t.sys.fuses = s.sys.fuses ∧
      t.sys.startKind = (if s.on SYS_START.ALIVE && s.mode != .halted && prep then .warm else .escalated))) ∧
  (∀ s : State, s.sys.suppliesGood = false → completes .powerOn s (fun t => t.sys.startKind = .cold ∧ t.sys.inReset = true)) ∧
  (∀ (prep : Bool) (s : State), s.on SYS_WDOG_CFG.EN = true → s.sys.inReset = false →
    s.sys.wdogFrom + 25000000 * s.rd SYS_WDOG_CFG.PERIOD ≤ s.sys.time →
    completes (.helmWatchdogExpiry prep) s (fun t => t.sys.inReset = true ∧ t.sys.startCause = 4 ∧ t.sys.fuses = s.sys.fuses ∧
      t.sys.startKind = (if s.on SYS_START.ALIVE && s.mode != .halted && prep then .warm else .escalated)))

/-- The steps of a start: reset release, DRAM training, register space, the system-area read, ALIVE: where each completes and what then holds (R429,
R437, R267, R268, R446, R447, R440, R46, R207.) RESET_RELEASE in internal reset with the supplies good: with the bus hold set, internal reset is
over, the level of GPIO0 is taken and STEP is 1; without it STEP is 8. BUS_GOOD_RESTART with the bus hold set: in internal reset only the hold
ends; else STEP is 8. DDR_TRAINING_DONE without a failing channel, at STEP 8 with register space closed, in a start that is not warm and with a
present channel to train: RETRAINED is set and every present channel is trained. REGISTER_SPACE_OPEN in BRING-UP at STEP 8 with register space
closed, no bus hold and every present channel trained or fenced: register space is open, write gates are no longer held off, and in rescue the
mode is FACTORY with GPIO0 low and LOCK not blown, SERVICE otherwise. SYSTEM_AREA_READ_DONE in a running mode outside rescue, naming a present
domain that is not ready and whose actuator is not FENCED: every such domain is ready and no saved outcome table is held. ALIVE_SET by a Helm
core outside HALTED with ALIVE clear: ALIVE is set, F of the persistent record is 0 and SVC is no smaller. -/
def Obligations.StartSteps : Prop :=
  (∀ (gpio0 flashOk : Bool) (readable : BitVec 2) (cores : BitVec 3) (s : State), s.sys.inReset = true → s.sys.suppliesGood = true →
    completes (.resetRelease gpio0 flashOk readable cores) s (fun t =>
      if s.sys.busHold then t.rd SYS_START.STEP = 1 ∧ t.sys.inReset = false ∧ t.sys.gpio0Low = !gpio0 else t.rd SYS_START.STEP = 8)) ∧
  (∀ (flashOk : Bool) (readable : BitVec 2) (cores : BitVec 3) (s : State), s.sys.busHold = true →
    completes (.busGoodRestart flashOk readable cores) s (fun t =>
      if s.sys.inReset then t.sys = { s.sys with busHold := false } else t.rd SYS_START.STEP = 8)) ∧
  (∀ (blocks : List (BitVec 8)) (s : State), s.sys.inReset = false → s.rd SYS_START.STEP = 8 → s.sys.regOpen = false → s.sys.startKind ≠ .warm →
    s.dram.ch.length = 2 → (∃ c, c < 2 ∧ s.dramPresent c = true ∧ (s.ddr c).trained = false ∧ s.ddrFenced c = false) →
    completes (.ddrTrainingDone 0 blocks) s (fun t => t.rd DDR_GSTATUS.RETRAINED = 1 ∧ ∀ c, c < 2 → s.dramPresent c = true → (t.ddr c).trained = true)) ∧
  (∀ (status : List (BitVec 8)) (words : List (BitVec 24 × BitVec 24)) (s : State), s.sys.inReset = false → s.sys.regOpen = false → s.sys.busHold = false → s.mode = .bringUp → s.rd SYS_START.STEP = 8 →
    (∀ c, c < 2 → s.dramPresent c = true → (s.ddr c).trained = true ∨ s.ddrFenced c = true) →
    completes (.registerSpaceOpen status words) s (fun t => t.sys.regOpen = true ∧ t.wrp.gatesOff = false ∧
      (s.on SYS_MODE.RESCUE = true → t.mode = (if s.sys.gpio0Low && !s.sys.fuses.locked then .factory else .service)))) ∧
  (∀ (domains : BitVec 4) (bad : BitVec 8) (scan : List (Nat × List (Option (List (BitVec 8))))) (s : State), s.running = true → s.on SYS_MODE.RESCUE = false →
    (∃ d, d < 4 ∧ s.actPresent d = true ∧ domains.getLsbD d = true ∧ s.media.ready.getD d false = false ∧ s.actState d ≠ 5) →
    completes (.systemAreaReadDone domains bad scan) s (fun t =>
      (∀ d, d < 4 → s.actPresent d = true → domains.getLsbD d = true → s.actState d ≠ 5 → t.media.ready.getD d false = true) ∧ t.qfb.saved = [])) ∧
  (∀ s : State, s.mode ≠ .halted → s.on SYS_START.ALIVE = false →
    completes (.aliveSet .helm) s (fun t => t.on SYS_START.ALIVE = true ∧ t.persist.failed = 0 ∧ s.sys.fuses.svc ≤ t.sys.fuses.svc))

/-- RIDE-THROUGH: the entry, the flash write and the end in HALTED: where each completes and what then holds (R222, R433, R429, R477, R432.)
RIDE_THROUGH_ENTER in a running mode with the Anchor not acting: the mode is RIDE-THROUGH, the time of entry is kept, the flash is not yet
written and no write-back data is held. In BRING-UP with register space closed it sets the bus hold and changes nothing else.
RIDE_THROUGH_FLASH_DONE in RIDE-THROUGH before the flash is written: the flash is written and, unless FLASH_ABSENT is set, the outcome table is
saved and the persistent record holds the operating seconds. RIDE_THROUGH_END in RIDE-THROUGH with every actuator PARKED and the flash written:
the mode is HALTED, HELM_BEAT does not run and every key slot is empty. -/
def Obligations.RideThroughCommands : Prop :=
  (∀ s : State, s.running = true → s.on WCH_INST.ANCHOR = false →
    completes .rideThroughEnter s (fun t => t.mode = .rideThrough ∧ t.mot.rideStart = some s.sys.time ∧ t.mot.rideFlash = false ∧ t.sch.wb = [])) ∧
  (∀ s : State, s.mode = .bringUp → s.sys.regOpen = false → exec .rideThroughEnter s = .next { s with sys := { s.sys with busHold := true } }) ∧
  (∀ s : State, s.mode = .rideThrough → s.mot.rideFlash = false →
    completes .rideThroughFlashDone s (fun t => t.mot.rideFlash = true ∧ (s.on SYS_MODE.FLASH_ABSENT = false →
      t.qfb.saved = s.qfb.outcomes ∧ t.persist.opSeconds = s.sys.opSeconds))) ∧
  (∀ s : State, s.mode = .rideThrough → s.allParked = true → s.mot.rideFlash = true →
    completes .rideThroughEnd s (fun t => t.mode = .halted ∧ t.rd MOT_BEAT.RUNNING = 0 ∧ t.pack.keys.all (fun k => k.state == 0) = true))

/-- The Helm complex: core faults, the spare, checkpoints, the watchdog kick, operating seconds: where each completes and what then holds (R452,
R440, R456, R460.) While the Helm pair runs: HELM_CORE_FAULT on a core in service that is not the spare, with a spare in service, fences the
core, leaves no spare and sets HANDOVER; HELM_SPARE_SELFTEST that fails outside RIDE-THROUGH with a spare in service fences the spare and leaves
none; HELM_CHECKPOINT with no injection armed empties the input log, counts a checkpoint and changes nothing else. WDOG_KICK by a Helm core
outside HALTED restarts the watchdog period and changes nothing else; a host's, where the host may write, is refused (REFUSED is set) and leaves
the period. OP_SECONDS_PERSIST outside internal reset stores the operating seconds in the persistent record and leaves them. -/
def Obligations.HelmCommands : Prop :=
  (∀ (core : Fin 3) (s : State), s.helmRuns = true → s.coreOk core.val = true → core.val ≠ s.rd SYS_HELM_STAT.SPARE → s.rd SYS_HELM_STAT.SPARE ≠ 3 →
    completes (.helmCoreFault core) s (fun t => t.isFenced (.helm core) = true ∧ t.rd SYS_HELM_STAT.SPARE = 3 ∧ t.rd SYS_HELM_STAT.HANDOVER = 1)) ∧
  (∀ s : State, s.helmRuns = true → s.mode ≠ .rideThrough → s.rd SYS_HELM_STAT.SPARE ≠ 3 →
    completes (.helmSpareSelftest false) s (fun t => t.isFenced (.helm (Fin.ofNat 3 (s.rd SYS_HELM_STAT.SPARE))) = true ∧ t.rd SYS_HELM_STAT.SPARE = 3)) ∧
  (∀ s : State, s.helmRuns = true → s.watch.armed = none →
    exec .helmCheckpoint s = .next { s with sys := { s.sys with inputLog := 0, ckpts := s.sys.ckpts + 1 } }) ∧
  (∀ s : State, s.mode ≠ .halted → exec (.wdogKick .helm) s = .next { s with sys := { s.sys with wdogFrom := s.sys.time } }) ∧
  (∀ s : State, s.mayWrite .host = true → completes (.wdogKick .host) s (fun t => t.sys.wdogFrom = s.sys.wdogFrom ∧ t.rd SYS_STATUS.REFUSED = 1)) ∧
  (∀ s : State, s.sys.inReset = false → completes .opSecondsPersist s (fun t => t.persist.opSeconds = s.sys.opSeconds ∧ t.sys.opSeconds = s.sys.opSeconds))

/-- Register writes and reads, posted slow writes, the refusal log and the glue-up: where each completes and what then holds (R483, R484, R486, R492,
R495, R496, R489, R491, R306.) REGISTER_WRITE of a whole word outside HALTED by an initiator that reaches registers and has no write posted, to
the live offset of a present register of the table outside the slow domains that is no command of its own, where no check refuses it: every RW
field of the register reads as the written word has it. A host configuration write of dword 4 that enables its two low bytes, with the link up,
register space open and no function reset running: the dword's writable bits 1, 2, 6, 8 and 10 are as written. SLOW_WRITE_APPLY with a write
posted: that write has left the queue, with some number of those that follow it. A Helm RC_READ outside HALTED of a register of the table at its
live offset, with no Helm write posted: one more output, the value as the Helm pair sees it. SYS_REF_POP by an initiator that reaches registers:
one more output, SYS_REF_DATA1, the oldest entry of the refusal log is gone and no register changes. SYS_GLUE of a mask with a glued group that
is not bell-timed, by an initiator that may write and has no write posted, where the check of the state that would result refuses nothing:
GLUE_STAT shows DONE. -/
def Obligations.RegisterAccess : Prop :=
  (∀ (w : Initiator) (a : BitVec 27) (v : Word) (s : State) (d : RegDesc) (i : Nat), s.canReach w = true → s.mode ≠ .halted → a.toNat % 4 = 0 → a.toNat < 0x200000 →
    regDesc? a.toNat = some (d, i) → d.dom ≠ .slow → s.present d.kind i = true → ownRow a.toNat i = false → s.postQ w = [] →
    s.writeRefused (initCode w) a.toNat i d.fields true v = none →
    completes (.registerWrite w .bar0 a 15 false v) s (fun t => ∀ f ∈ d.fields, f.acc = .rw → getF (t.reg a.toNat) f.hi f.lo = getF v f.hi f.lo)) ∧
  (∀ (be : BitVec 4) (v : Word) (s : State), be.toNat % 4 = 3 → s.on BQ_LINK_STAT.UP = true → s.sys.regOpen = true → s.link.resetting = false →
    completes (.registerWrite .host .config 4 be false v) s (fun t => t.cfgDw 4 &&& 0x546 = v.toNat &&& 0x546)) ∧
  (∀ (w : Initiator) (s : State) (a : Nat) (v : Word) (q : List (Nat × Word)), s.postQ w = (a, v) :: q →
    completes (.slowWriteApply w) s (fun t => ∃ n, n ≤ q.length ∧ t.postQ w = q.drop n)) ∧
  (∀ (a : BitVec 27) (lag : Word) (s : State) (d : RegDesc) (i : Nat), s.mode ≠ .halted → a.toNat % 4 = 0 → a.toNat < 0x200000 →
    regDesc? a.toNat = some (d, i) → s.postQ .helm = [] →
    completes (.rcRead .helm a lag) s (fun t => t.out = s.out ++ [.regRead ((s.seenBy .helm a.toNat).liveRead a.toNat)])) ∧
  (∀ (w : Initiator) (s : State), s.canReach w = true →
    completes (.sysRefPop w) s (fun t => t.sys.refLog = s.sys.refLog.drop 1 ∧ t.out = s.out ++ [.regRead (s.view SYS_REF_DATA1)] ∧ t.regs = s.regs)) ∧
  (∀ (w : Initiator) (mask : Word) (s : State), s.mayWrite w = true → s.postQ w = [] →
    (∃ g, g < 26 ∧ g ∈ gluedGroups ∧ g ∉ bellGroups ∧ mask.toNat.testBit g = true) →
    s.glueRefused (s.glueApply (gluedGroups.filter (fun g => mask.toNat.testBit g && !bellGroups.contains g))) (gluedGroups.filter (fun g => mask.toNat.testBit g && !bellGroups.contains g)) = none →
    completes (.sysGlue w mask) s (fun t => t.rd SYS_GLUE_STAT.DONE = 1))

/-- Timers, timer captures, supply monitors and the temperature sensors: where each completes and what then holds (R502, R510, R124, R522, R524,
R262.) SYS_TMR_EXPIRY of a timer that runs and whose period has passed: its bit of SYS_TMR_STAT is set; a periodic one runs on from the time it
was due, another is stopped. TIMER_CAPTURE_EDGE on a pin of FUNC 5 whose timer has USE 2: the timer's capture register holds the microsecond
count modulo 2^32. SUPPLY_FAULT of a present rail outside internal reset: the rail's low or high bit of PAD_SUPPLY is set, the supply error that
inhibits writing stands and no present head has an open write gate. SUPPLY_FAULT_CLEAR in every state: that error and its list of rails are gone,
and nothing else changes. TEMPERATURE_CONVERSION outside internal reset: PAD_TEMP holds the temperature with VALID set, and the condition for the
doubled refresh rate stands exactly above 85 degrees (680 eighths). -/
def Obligations.TimerAndPadCommands : Prop :=
  (∀ (k : Fin 8) (t0 : Nat) (s : State), s.sys.timers.getD k.val none = some t0 → t0 + 25000 * s.rd (SYS_TMR_CFG.PERIOD k.val) ≤ s.sys.time → s.timerRuns k.val = true →
    completes (.sysTmrExpiry k) s (fun t => t.rd ⟨SYS_TMR_STAT, k.val, k.val⟩ = 1 ∧
      t.sys.timers.getD k.val none = if s.on (SYS_TMR_CFG.PERIODIC k.val) then some (t0 + 25000 * s.rd (SYS_TMR_CFG.PERIOD k.val)) else none)) ∧
  (∀ (pin : Fin 16) (s : State), s.rd (PAD_GPIO_CFG.FUNC pin.val) = 5 → s.rd (SYS_TMR_CFG.USE (s.rd (PAD_GPIO_CFG.TIMER pin.val))) = 2 →
    completes (.timerCaptureEdge pin) s (fun t => t.rd (SYS_TMR_CAP.CAP (s.rd (PAD_GPIO_CFG.TIMER pin.val))) = s.usNow % 2 ^ 32)) ∧
  (∀ (rail : Fin 15) (high : Bool) (s : State), s.sys.inReset = false → s.railPresent rail.val = true →
    completes (.supplyFault rail high) s (fun t => t.rd ⟨PAD_SUPPLY, rail.val + (if high then 16 else 0), rail.val + (if high then 16 else 0)⟩ = 1 ∧
      t.wrp.supplyErr = true ∧ ∀ h, h < 24 → s.headPresent h = true → (t.head h).gate = none)) ∧
  (∀ s : State, exec .supplyFaultClear s = .next { s with wrp := { s.wrp with supplyErr := false, supplyBad := 0 } }) ∧
  (∀ (temp : BitVec 12) (s : State), s.sys.inReset = false →
    completes (.temperatureConversion temp) s (fun t => t.rd PAD_TEMP.TEMP = temp.toNat ∧ t.rd PAD_TEMP.VALID = 1 ∧ t.sys.tempHot = decide (680 < temp.toInt)))

/-- Idleness and power states: the idle timer, the end of idleness, a state reached: where each completes and what then holds (R398, R399, R400,
R401, R402.) In a running mode: IDLE_TIMER_EXPIRY of state Pk, k from 1, with the K4 idle since a time from which the timer of Pk has passed, in
D0, Pk allowed and deeper than the target: Pk is the target and a move is under way. IDLE_END with work in hand that ends idleness and a target
other than P0: P0 is the target and a move is under way. POWER_STATE_REACHED with a move under way and heads and spindle as the target has them:
the state shown is that target and no move is under way. -/
def Obligations.PowerCommands : Prop :=
  (∀ (k : Fin 6) (t0 : Nat) (s : State), k ≠ 0 → s.idleTick.sch.idleSince = some t0 → s.running = true → s.link.d3hot = false → s.powerAllowed k.val = true →
    t0 + 25000 * s.idleTimer k.val ≤ s.sys.time → s.rd SCH_PWR_STAT.TARGET < k.val →
    completes (.idleTimerExpiry k) s (fun t => t.rd SCH_PWR_STAT.TARGET = k.val ∧ t.rd SCH_PWR_STAT.MOVING = 1)) ∧
  (∀ s : State, s.running = true → s.wakeWork = true → s.rd SCH_PWR_STAT.TARGET ≠ 0 →
    completes .idleEnd s (fun t => t.rd SCH_PWR_STAT.TARGET = 0 ∧ t.rd SCH_PWR_STAT.MOVING = 1)) ∧
  (∀ s : State, s.running = true → s.on SCH_PWR_STAT.MOVING = true → s.powerAt (s.rd SCH_PWR_STAT.TARGET) = true →
    completes .powerStateReached s (fun t => t.rd SCH_PWR_STAT.STATE = s.rd SCH_PWR_STAT.TARGET ∧ t.rd SCH_PWR_STAT.MOVING = 0))

/-- FAULT_N timer, HOLD and FORCE; the watch log: swap and pop: where each completes and what then holds (R462, R463, R464, R465, R466, R467, R482.)
FAULT_N_TIMER_EXPIRY outside BRING-UP and HALTED, WCH_FN_HOLD and WCH_FN_FORCE outside BRING-UP by an initiator that may write: the pulse timer
is stopped, HOLD or FORCE has the value written, and LEVEL is 1 (FAULT_N low) exactly when the Anchor acts or HOLD, FORCE or the pulse timer, as
they then stand, ask for it. WATCH_LOG_SWAP with an empty read bank and an item or a gap marker to read: the write bank and the marker are empty,
and the read bank holds the marker first, then the items by class from FATAL down, in arrival order within a class. WCH_WLOG_POP by the consumer,
who reaches registers, with no injection armed and no bit of the oldest word inverted: that word is gone, one more output is its upper half, and
no register changes. -/
def Obligations.FaultNAndWatchLog : Prop :=
  (∀ s : State, s.mode ≠ .bringUp → s.mode ≠ .halted →
    completes .faultNTimerExpiry s (fun t => t.rd WCH_FN_CTRL.TIMING = 0 ∧ t.rd WCH_FN_CTRL.LEVEL = b2n (s.on WCH_INST.ANCHOR || s.on WCH_FN_CTRL.HOLD || s.on WCH_FN_CTRL.FORCE))) ∧
  (∀ (w : Initiator) (v : Bool) (s : State), s.mayWrite w = true → s.mode ≠ .bringUp →
    completes (.wchFnHold w v) s (fun t => t.rd WCH_FN_CTRL.HOLD = b2n v ∧ t.rd WCH_FN_CTRL.LEVEL = b2n (s.on WCH_INST.ANCHOR || v || s.on WCH_FN_CTRL.FORCE || s.on WCH_FN_CTRL.TIMING))) ∧
  (∀ (w : Initiator) (v : Bool) (s : State), s.mayWrite w = true → s.mode ≠ .bringUp →
    completes (.wchFnForce w v) s (fun t => t.rd WCH_FN_CTRL.FORCE = b2n v ∧ t.rd WCH_FN_CTRL.LEVEL = b2n (s.on WCH_INST.ANCHOR || s.on WCH_FN_CTRL.HOLD || v || s.on WCH_FN_CTRL.TIMING))) ∧
  (∀ s : State, s.watch.rBank = [] → (s.watch.wBank ≠ [] ∨ s.watch.gap ≠ none) →
    completes .watchLogSwap s (fun t => t.watch.wBank = [] ∧ t.watch.gap = none ∧ t.watch.rPos = 0 ∧
      t.watch.rBank = s.watch.gap.toList ++ [4, 3, 2, 1, 0].flatMap (fun c => s.watch.wBank.filter (fun x => x.cls == c)))) ∧
  (∀ (w : Initiator) (x : WlogWord) (l : List WlogWord) (s : State), s.canReach w = true → s.rd WCH_CTRL.CONSUMER = (match w with | .helm => 0 | .host => 1) →
    s.watch.rBank = x :: l → s.watch.armed = none → x.flips = 0 →
    completes (.wchWlogPop w) s (fun t => t.watch.rBank = l ∧ t.out = s.out ++ [.regRead (BitVec.ofNat 32 (x.readValue / 2 ^ 32))] ∧ t.regs = s.regs))

/-- The duplicated Watch, the Anchor sequencer and the telemetry snapshot: where each completes and what then holds (R468, R469, R470, R432, R14,
R15.) With both Watch instances in service: WATCH_SELF_CHECK_FAIL fences the failing one and no longer shows it in service, makes the other
active and sets WATCH_FENCE; WATCH_DISAGREE, where its source is handled at FATAL, leaves a takeover asked for. WATCH_KAT with no injection armed
counts a known-answer test of each instance in service and changes nothing else. ANCHOR_TAKEOVER in a running mode with a takeover asked for and
no cause recorded: the source asked for is the recorded cause, the Anchor acts, write gates are held off, nothing is asked for any more and LEVEL
of FAULT_N is 1. ANCHOR_HALT with the Anchor acting outside HALTED, the steps before over (STEP 6 with the spindle at rest or 60 s in SHORT; 250
ms after the takeover for a cause in the motor drive): the mode is HALTED, STEP is 7, the host consumes the watch log and every key slot is
empty. TELEMETRY_SNAPSHOT counts the snapshot, notes its bell and changes nothing else. TELEM_SKIP adds one to the count of source 0x1FD, up to
65,535. -/
def Obligations.WatchInstances : Prop :=
  (∀ (i : Fin 2) (s : State), s.on WCH_INST.A_OK = true → s.on WCH_INST.B_OK = true →
    completes (.watchSelfCheckFail i) s (fun t => t.isFenced (.watch i) = true ∧ t.rd WCH_INST.ACTIVE = 1 - i.val ∧
      t.on WCH_INST.A_OK = (i != 0) ∧ t.on WCH_INST.B_OK = (i == 0) ∧ t.rd WCH_STATUS.WATCH_FENCE = 1)) ∧
  (∀ s : State, s.on WCH_INST.A_OK = true → s.on WCH_INST.B_OK = true → s.classOf 0x1FA 0 = 4 →
    completes .watchDisagree s (fun t => ∃ n, t.watch.anchorReq = some n ∧ n ≤ 0x1FA)) ∧
  (∀ s : State, s.watch.armed = none → exec .watchKat s = .next { s with watch := { s.watch with kats :=
    [s.watch.kats.getD 0 0 + s.rd WCH_INST.A_OK, s.watch.kats.getD 1 0 + s.rd WCH_INST.B_OK] } }) ∧
  (∀ (src : Nat) (s : State), s.watch.anchorReq = some src → src < 512 → s.on WCH_ANCHOR.VALID = false → s.running = true →
    completes .anchorTakeover s (fun t => t.on WCH_INST.ANCHOR = true ∧ t.rd WCH_ANCHOR.CAUSE = src ∧ t.wrp.gatesOff = true ∧ t.watch.anchorReq = none ∧
      t.rd WCH_FN_CTRL.LEVEL = 1)) ∧
  (∀ s : State, s.on WCH_INST.ANCHOR = true → s.mode ≠ .halted → s.anchorOver = true →
    completes .anchorHalt s (fun t => t.mode = .halted ∧ t.rd WCH_ANCHOR.STEP = 7 ∧ t.rd WCH_CTRL.CONSUMER = 1 ∧ t.pack.keys.all (fun k => k.state == 0) = true)) ∧
  (∀ s : State, exec .telemetrySnapshot s = .next { s with watch := { s.watch with telem := s.watch.telem + 1, telemBell := s.bell } }) ∧
  (∀ s : State, completes .telemSkip s (fun t => sparseGet 0 t.watch.srcCnt 0x1FD = min 65535 (sparseGet 0 s.watch.srcCnt 0x1FD + 1)))

/-- Fault injection and the logbook: where each command completes and what then holds (R471, R472, R375, R475, R477, R482, R492.) WCH_INJ_GO by an
initiator that may write: in FACTORY with MASK not 0 the site is armed with that mask and the argument registers; with MASK 0 what is armed stays
as it was and INJ_REFUSED is set. WCH_INJ_TOKEN_WRITE by an initiator that may write appends the word while fewer than 36 are held and changes
nothing else. WCH_INJ_AUTH under policy 1 in SERVICE by an initiator that may write: no token word is left; a token that verifies opens the
window until its NOT_AFTER and sets AUTH_OK, any other leaves the window and sets AUTH_FAIL. INJECTION_EXPIRY 1 s or more after arming: nothing
is armed and INJ_EXPIRED is set. INJECTION_WINDOW_EXPIRY with a window whose NOT_AFTER is not 0 and has come closes the window and changes
nothing else. LOGBOOK_PERSIST in a running mode with the media ready and not foreign, outside rescue: for each present domain that is ready,
whose actuator is not FENCED, whose write does not fail and that holds a good copy, the log of its newest good copy has the ring's records newer
than its last added. LOG_FW_GO by a Helm core outside HALTED, with a TYPE of 0x8000 or more and STEP at least 7: GO is clear, SEQ has risen by
one and the newest record has that TYPE, SOURCE, DETAIL and the SEQ before; by a host that may write it leaves the ring and sets REFUSED. -/
def Obligations.InjectionAndLogbook : Prop :=
  (∀ (w : Initiator) (site : BitVec 4) (mask : BitVec 9) (s : State), s.mayWrite w = true → s.mode = .factory → mask ≠ 0 →
    completes (.wchInjGo w site mask) s (fun t => t.watch.armed = some { site := site.toNat, mask := mask.toNat, arg := s.rd WCH_INJ_ARG_LO.ARG + 2 ^ 32 * s.rd WCH_INJ_ARG_HI.ARG, at_ := s.sys.time })) ∧
  (∀ (w : Initiator) (site : BitVec 4) (s : State), s.mayWrite w = true →
    completes (.wchInjGo w site 0) s (fun t => t.watch.armed = s.watch.armed ∧ t.rd WCH_STATUS.INJ_REFUSED = 1)) ∧
  (∀ (w : Initiator) (v : Word) (s : State), s.mayWrite w = true →
    exec (.wchInjTokenWrite w v) s = .next { s with watch := { s.watch with token := if s.watch.token.length < 36 then s.watch.token ++ [v] else s.watch.token } }) ∧
  (∀ (w : Initiator) (s : State), s.mayWrite w = true → s.sys.cfg.injectPolicy = 1 → s.mode = .service →
    completes (.wchInjAuth w) s (fun t => t.watch.token = [] ∧
      (if s.tokenOk 3 (s.watch.token.flatMap (fun v => leBytes 4 v.toNat)) then
        t.watch.window = some (fieldAt (s.watch.token.flatMap (fun v => leBytes 4 v.toNat)) 24 8) ∧ t.rd WCH_STATUS.AUTH_OK = 1
      else t.watch.window = s.watch.window ∧ t.rd WCH_STATUS.AUTH_FAIL = 1))) ∧
  (∀ (j : Inj) (s : State), s.watch.armed = some j → j.at_ + 25000000000 ≤ s.sys.time →
    completes .injectionExpiry s (fun t => t.watch.armed = none ∧ t.rd WCH_STATUS.INJ_EXPIRED = 1)) ∧
  (∀ (n : Nat) (s : State), s.watch.window = some n → n ≠ 0 → n ≤ s.sys.opSeconds →
    exec .injectionWindowExpiry s = .next { s with watch := { s.watch with window := none } }) ∧
  (∀ (fail : BitVec 4) (s : State), s.running = true → s.foreignAny = false → s.on SYS_MODE.RESCUE = false → s.on SYS_MODE.MEDIA_NOT_READY = false → s.media.areas.length = 4 →
    completes (.logbookPersist fail) s (fun t => ∀ d, d < 4 → s.actPresent d = true → s.media.ready.getD d false = true → s.rd (MOT_ASTATUS.STATE d) ≠ 5 → fail.getLsbD d = false →
      ((s.areaOf d).1.good = true ∨ (s.areaOf d).2.good = true) →
      (newestArea (t.areaOf d)).log = (newestArea (s.areaOf d)).log ++ newFor (newestArea (s.areaOf d)).log s.watch.ring)) ∧
  (∀ s : State, s.mode ≠ .halted → 0x8000 ≤ s.rd LOG_FW_TYPE.TYPE → 7 ≤ s.rd SYS_START.STEP →
    completes (.logFwGo .helm) s (fun t => t.rd LOG_FW_GO.GO = 0 ∧ t.watch.nextSeq = s.watch.nextSeq + 1 ∧
      ∃ r, t.watch.ring.getLast? = some r ∧ r.typ = s.rd LOG_FW_TYPE.TYPE ∧ r.source = s.rd LOG_FW_TYPE.SOURCE ∧ r.seq = s.watch.nextSeq ∧
        r.detail = s.rd LOG_FW_DETAIL_LO.DETAIL + 2 ^ 32 * s.rd LOG_FW_DETAIL_HI.DETAIL)) ∧
  (∀ s : State, s.mayWrite .host = true → completes (.logFwGo .host) s (fun t => t.watch.ring = s.watch.ring ∧ t.rd SYS_STATUS.REFUSED = 1))

/-- A raised source is counted and shown; a source of a read channel, an engine, a demodulator or a Lighter channel fences it (R457, R458, R459,
R460, R461, R103.) FAULT_RAISE outside internal reset. Of a listed source of a present unit whose default class is not UNIT, and none of 0x0C4 to
0x0C7, 0x141, 0x17E, 0x17F and 0x1E8: its counter rises by one, up to 65,535, its RAISED bit is set and the fenced units are as before. Of the
source of a present read channel that is not fenced (0x000 to 0x01B), of a decoder engine that is not fenced (0x040 to 0x063), of the demodulator
of a present head (0x0D0 to 0x0E7) and of a Lighter channel (0x190 to 0x1CF): that unit is fenced, and a read channel or an engine shows FENCED. -/
def Obligations.SourceRaise : Prop :=
  (∀ (src : Source) (x : RaiseArgs) (s : State), s.sys.inReset = false → (defaultClass? src.toNat).isSome = true → defaultClass? src.toNat ≠ some 2 →
    s.srcPresent src.toNat = true → src.toNat ∉ [0xC4, 0xC5, 0xC6, 0xC7, 0x141, 0x17E, 0x17F, 0x1E8] →
    completes (.faultRaise src x) s (fun t => sparseGet 0 t.watch.srcCnt src.toNat = min 65535 (sparseGet 0 s.watch.srcCnt src.toNat + 1) ∧
      t.rd ⟨WCH_RAISED (src.toNat / 32), src.toNat % 32, src.toNat % 32⟩ = 1 ∧ t.watch.fences = s.watch.fences)) ∧
  (∀ (n : Fin 28) (x : RaiseArgs) (s : State), s.sys.inReset = false → s.chanPresent n.val = true → s.isFenced (.chan n) = false → s.on (RCH_MAP.FENCED n.val) = false →
    completes (.faultRaise (BitVec.ofNat 9 n.val) x) s (fun t => t.isFenced (.chan n) = true ∧ t.on (RCH_MAP.FENCED n.val) = true)) ∧
  (∀ (e : Fin 36) (x : RaiseArgs) (s : State), s.sys.inReset = false → s.on (DEC_ESTATUS.FENCED e.val) = false →
    completes (.faultRaise (BitVec.ofNat 9 (0x40 + e.val)) x) s (fun t => t.isFenced (.engine e) = true ∧ t.on (DEC_ESTATUS.FENCED e.val) = true)) ∧
  (∀ (h : Fin 24) (x : RaiseArgs) (s : State), s.sys.inReset = false → s.headPresent h.val = true →
    completes (.faultRaise (BitVec.ofNat 9 (0xD0 + h.val)) x) s (fun t => t.isFenced (.srv h) = true)) ∧
  (∀ (n : Fin 64) (x : RaiseArgs) (s : State), s.sys.inReset = false →
    completes (.faultRaise (BitVec.ofNat 9 (0x190 + n.val)) x) s (fun t => t.isFenced (.lgt n) = true))

/-- The bell edge, wedge results and the servo states: where each completes and what then holds (R13, R14, R124, R158, R162, R163, R164, R167.)
BELL_EDGE outside internal reset counts one bell, modulo 2^48, and empties the results; while the timer free-runs the period is the nominal one
and time advances by it. COLLECT_LATE with records left in their slots sets its bit and counts source 0x093. WEDGE_RESULT of a loaded, enabled
head in LOCK that has no result in this bell, in no fence or RIDE-THROUGH: where no place taken is within SAM_TOL of the mark pattern, the head
is in MISS with SAM_MISS set and counted, MISS_RUN 1, and the last result is a missed one; where a channel reads it, the best place in the window
is within SAM_TOL and the wedge number is below W and the next, the bursts reach AMP_MIN, the skew is in its limit and the result is ready by
1,000 ns, the head stays in LOCK, MISS_RUN is 0, DIST is that distance and, with a good ID parity, RRO off and the actuator's loop not CLOSED, PE
is the position less the head's reference by R162. SERVO_LOST of a head in INHIBIT with MISS_RUN 4 or more: LOST, counted. SERVO_REACQUIRED of a
head in LOST with REACQ valid wedges: LOCK, MISS_RUN 0, INHIBIT set. WRITE_INHIBIT_CLEAR in LOCK after WRITE_RECOVER valid wedges: INHIBIT clear.
OFF_TRACK_CLEAR of a head that is off track after two wedges in a row, and SPEED_ERROR_CLEAR of a speed error after eight bells in a row: the
condition ends and no register changes. -/
def Obligations.BellAndServo : Prop :=
  (∀ (swept : Nat) (s : State), s.sys.inReset = false →
    completes (.bellEdge swept) s (fun t => t.bell = (s.bell + 1) % 2 ^ 48 ∧ t.srv.results = [] ∧
      (s.freeRuns = true → t.srv.period = nomPeriod s.sys.cfg ∧ t.sys.time = s.sys.time + nomPeriod s.sys.cfg / 1024))) ∧
  (∀ s : State, s.dec.unswept ≠ [] → completes .collectLate s (fun t => t.rd DEC_STATUS.COLLECT_LATE = 1 ∧
      sparseGet 0 t.watch.srcCnt 0x093 = min 65535 (sparseGet 0 s.watch.srcCnt 0x093 + 1))) ∧
  (∀ (h : Head) (m : WedgeMeas) (s : State), s.headLoaded h = true → s.on (SRV_CFG.EN h) = true → s.on SRV_CTRL.EN = true → s.isFenced (.srv h) = false → s.drivesOff = false →
    s.srv.results.any (fun r => r.head == h.val) = false → s.srvState h = 2 → (∀ d ∈ wedgeDist m (s.rd SRV_SAM_PAT.PATTERN), s.rd SRV_WIN_CFG.SAM_TOL < d) →
    completes (.wedgeResult h m) s (fun t => t.rd (SRV_STATUS.SAM_MISS h) = 1 ∧ t.rd (SRV_STATUS.STATE h) = 3 ∧ t.rd (SRV_STATUS.MISS_RUN h) = 1 ∧
      t.rd (SRV_CNT.MISSED h) = satU 8 (s.rd (SRV_CNT.MISSED h) + 1) ∧
      t.srv.results.getLast?.map (fun r => (r.head, r.accepted, r.valid)) = some (h.val, false, false))) ∧
  (∀ (h : Head) (m : WedgeMeas) (k : Int) (d0 : Nat) (s : State), s.headLoaded h = true → s.on (SRV_CFG.EN h) = true → s.on SRV_CTRL.EN = true → s.isFenced (.srv h) = false → s.drivesOff = false →
    s.srv.results.any (fun r => r.head == h.val) = false → s.srvState h = 2 → (s.chanOfHead h).isSome = true → (s.srvHead h).cut = false →
    bestMark (fun k => decide (-(s.rd SRV_WIN_CFG.SAM_WIN : Int) ≤ k) && decide (k ≤ s.rd SRV_WIN_CFG.SAM_WIN)) (wedgeDist m (s.rd SRV_SAM_PAT.PATTERN)) m.first none = some (k, d0) →
    d0 ≤ s.rd SRV_WIN_CFG.SAM_TOL → d0 < 32 → (wedgeFields m (k - m.first).toNat).wedge < s.sys.cfg.wedges → (wedgeFields m (k - m.first).toNat).wedge = ((s.srvHead h).wedge + 1) % s.sys.cfg.wedges →
    s.rd SRV_AMP_CFG.AMP_MIN ≤ m.burstN.natAbs + m.burstQ.natAbs → ((s.skewOf h).natAbs : Int) ≤ s.skewLimit →
    s.servoBits (-620) + s.skewOf h + s.servoBits k + s.servoBits 692 + 3750 ≤ 25000 →
    completes (.wedgeResult h m) s (fun t => t.rd (SRV_STATUS.STATE h) = 2 ∧ t.rd (SRV_STATUS.MISS_RUN h) = 0 ∧ t.rd (SRV_ID.DIST h) = d0 ∧
      (s.srv.heads.length = 24 → idParityOk (wedgeFields m (k - m.first).toNat).wedge (wedgeFields m (k - m.first).toNat).id (wedgeFields m (k - m.first).toNat).parity = true →
        s.loopState (h / 6) ≠ 1 → s.on (SRV_CFG.RRO_EN h) = false →
        t.rdS (SRV_PE.PE h) = satS 32 (4096 * nearestTrack (s.rd (SRV_CFG.PES_GAIN h)) (s.headRef h) (grayToBin (wedgeFields m (k - m.first).toNat).id) m.burstN m.burstQ +
          burstOffset (s.rd (SRV_CFG.PES_GAIN h)) (nearestTrack (s.rd (SRV_CFG.PES_GAIN h)) (s.headRef h) (grayToBin (wedgeFields m (k - m.first).toNat).id) m.burstN m.burstQ) m.burstN m.burstQ - s.headRef h)))) ∧
  (∀ (h : Head) (s : State), s.srvState h = 4 → 4 ≤ s.rd (SRV_STATUS.MISS_RUN h) →
    completes (.servoLost h) s (fun t => t.rd (SRV_STATUS.STATE h) = 5 ∧ t.rd (SRV_CNT.LOSSES h) = satU 8 (s.rd (SRV_CNT.LOSSES h) + 1))) ∧
  (∀ (h : Head) (s : State), s.srvState h = 5 → (s.srvHead h).reacq = true → s.rd SRV_LOSS_CFG.REACQ ≤ (s.srvHead h).reacqRun →
    completes (.servoReacquired h) s (fun t => t.rd (SRV_STATUS.STATE h) = 2 ∧ t.rd (SRV_STATUS.MISS_RUN h) = 0 ∧ t.rd (SRV_STATUS.INHIBIT h) = 1)) ∧
  (∀ (h : Head) (s : State), s.srvState h = 2 → (s.head h).inhServo = true → s.rd SRV_LOSS_CFG.WRITE_RECOVER ≤ (s.srvHead h).recov →
    completes (.writeInhibitClear h) s (fun t => t.rd (SRV_STATUS.INHIBIT h) = 0 ∧ (t.head h).inhServo = false)) ∧
  (∀ (h : Head) (s : State), (s.head h).offTrack = true → 2 ≤ (s.head h).offRun →
    completes (.offTrackClear h) s (fun t => (t.head h).offTrack = false ∧ (t.head h).offRun = 0 ∧ t.regs = s.regs)) ∧
  (∀ s : State, s.wrp.speedErr = true → 8 ≤ s.wrp.speedRun →
    exec .speedErrorClear s = .next { s with wrp := { s.wrp with speedErr := false, speedRun := 0 } })

/-- Micro words that move the PC: BRANCH, JUMP, CALL, RET, LOOP, JUMPV, NOP: where each completes and where the PC then stands (R140, R141, R142,
R143, R149.) For an engine in its window whose word at the PC, intact and not under injection, is the form named. BRANCH at a PC below 12,288
whose target lies in the store: the PC is PC + 1 + displacement if the condition holds, PC + 1 if not. JUMP below 12,288: its target. CALL below
12,288 to a target below 12,288 with fewer than four addresses stacked: the PC is the target, PC + 1 is pushed and SP shows the depth. RET with
an address stacked: the PC is the newest address, which is popped, and SP shows the depth. LOOP below 12,288 whose target is not below 0: LC
counts down modulo 65,536 and the PC is PC + 1 if LC is then 0, else PC less the argument. JUMPV below 12,288: the PC is bits 13 to 0 of the V
register named. NOP below 16,383: the PC is PC + 1; stores and outputs are unchanged. -/
def Obligations.SequencerFlow : Prop :=
  (∀ (a : Act) (d : Int) (c : Nat) (s : State), s.atWord a (.branch d c) = true → s.rd (SEQ_PC.PC a) < 12288 → 0 ≤ (s.rd (SEQ_PC.PC a) : Int) + 1 + d → (s.rd (SEQ_PC.PC a) : Int) + 1 + d ≤ 16383 →
    completes (.branchWord a) s (fun t => (t.rd (SEQ_PC.PC a) : Int) = (s.rd (SEQ_PC.PC a) : Int) + 1 + (if s.seqCond a c then d else 0))) ∧
  (∀ (a : Act) (n : Nat) (s : State), s.atWord a (.jump n) = true → s.rd (SEQ_PC.PC a) < 12288 → n < 16384 →
    completes (.jumpWord a) s (fun t => t.rd (SEQ_PC.PC a) = n)) ∧
  (∀ (a : Act) (n : Nat) (s : State), s.atWord a (.call n) = true → s.rd (SEQ_PC.PC a) < 12288 → n < 12288 → (s.seq a).stack.length < 4 → s.seqs.length = 4 →
    completes (.callWord a) s (fun t => t.rd (SEQ_PC.PC a) = n ∧ (t.seq a).stack = (s.seq a).stack ++ [s.rd (SEQ_PC.PC a) + 1] ∧ t.rd (SEQ_LC_SP.SP a) = (s.seq a).stack.length + 1)) ∧
  (∀ (a : Act) (k r : Nat) (s : State), s.atWord a (.ctl 1 k) = true → (s.seq a).stack.getLast? = some r → r < 16384 → (s.seq a).stack.length ≤ 4 → s.seqs.length = 4 →
    completes (.retWord a) s (fun t => t.rd (SEQ_PC.PC a) = r ∧ (t.seq a).stack = (s.seq a).stack.dropLast ∧ t.rd (SEQ_LC_SP.SP a) = (s.seq a).stack.length - 1)) ∧
  (∀ (a : Act) (k : Nat) (s : State), s.atWord a (.ctl 3 k) = true → s.rd (SEQ_PC.PC a) < 12288 → k ≤ s.rd (SEQ_PC.PC a) →
    completes (.loopWord a) s (fun t => t.rd (SEQ_LC_SP.LC a) = ((s.seq a).lc + 65535) % 65536 ∧
      t.rd (SEQ_PC.PC a) = (if ((s.seq a).lc + 65535) % 65536 = 0 then s.rd (SEQ_PC.PC a) + 1 else s.rd (SEQ_PC.PC a) - k))) ∧
  (∀ (a : Act) (k : Nat) (s : State), s.atWord a (.ctl 4 k) = true → s.rd (SEQ_PC.PC a) < 12288 →
    completes (.jumpv a) s (fun t => t.rd (SEQ_PC.PC a) = ((s.seq a).v.getD (k % 8) 0).toNat % 16384)) ∧
  (∀ (a : Act) (k : Nat) (s : State), s.atWord a (.ctl 0 k) = true → s.rd (SEQ_PC.PC a) < 16383 →
    completes (.nopWord a) s (fun t => t.rd (SEQ_PC.PC a) = s.rd (SEQ_PC.PC a) + 1 ∧ t.stores = s.stores ∧ t.out = s.out))

/-- The window of a bell: NANO words, SIGNAL, WWAIT, STOP, hook budget, SEQ_LATE, SEQ_FLUSH, SEQ_STEP: where each completes and what then holds
(R131, R133, R134, R136, R140, R142, R143, R152.) WEDGE_HANDLING under SEQ_LOCK of a present, enabled, unfenced engine not in its window, in a
running mode, sequencers powered: RUNNING is set, WAITING clear; an engine that has not started or whose last window overran has its PC at ENTRY
and SP 0. For an engine whose word at the PC is the form named, below 16,383: a NANO word whose guard fails goes on with V registers, lanes and
tentative lanes as before; one whose guard holds, whose nano word is intact and writes a V register from slot X (no compare), nothing from slot
Y, and acts on no lane, gives that register the result of slot X's function on its two sources and goes on. SIGNAL posts its code, counts it,
raises the Helm interrupt and goes on. WWAIT: WAITING is set, RUNNING clear, the PC goes on and SEQ_V shows the V registers. STOP: EN, RUNNING
and WAITING are clear. HOOK_BUDGET_EXHAUSTED in the open region with the budget used up: the PC and SP return to the caller's, HOOK_OVER is set
and HOOK_EN clear. SEQ_LATE in a window: RUNNING is clear, WAITING and LATE set, LATE counted. SEQ_FLUSH: of each engine named, SEQ_FLUSH shows
whether it is in a window; if not, its lists are empty. SEQ_STEP by an initiator that may write, in FACTORY with EN clear, on an intact JUMP
below 12,288: the PC is its target. -/
def Obligations.SequencerWindow : Prop :=
  (∀ (a : Act) (s : State), s.actPresent a = true → s.on SEQ_LOCK.LOCKED = true → s.on (SEQ_CTRL.EN a) = true → s.isFenced (.seq a) = false → s.seqRunning a = false → s.running = true → s.gated 5 = false →
    completes (.wedgeHandling a) s (fun t => t.rd (SEQ_STATUS.RUNNING a) = 1 ∧ t.rd (SEQ_STATUS.WAITING a) = 0 ∧
      (((s.seq a).started = false ∨ (s.seq a).late = true) → t.rd (SEQ_PC.PC a) = s.rd (SEQ_ENTRY.ENTRY a) ∧ t.rd (SEQ_LC_SP.SP a) = 0))) ∧
  (∀ (a : Act) (n hsel g : Nat) (s : State), s.atWord a (.nano n hsel g) = true → nanoGuard (s.seq a) g = true → sparseGet 0 s.stores.errs (errKey true 0 n) = 0 →
    s.rd (SEQ_PC.PC a) < 16383 → s.seqs.length = 4 → (s.seq a).v.length = 8 → bitsOf (s.storeWord true 0 n) 3 0 ≠ 10 → bitsOf (s.storeWord true 0 n) 7 4 < 8 →
    10 ≤ bitsOf (s.storeWord true 0 n) 55 52 → bitsOf (s.storeWord true 0 n) 100 97 = 0 →
    completes (.nanoWord a) s (fun t => t.rd (SEQ_PC.PC a) = s.rd (SEQ_PC.PC a) + 1 ∧ (t.seq a).v.getD (bitsOf (s.storeWord true 0 n) 7 4) 0 =
      BitVec.ofNat 32 (nanoAlu (s.preLen a) (s.fpreLen a) (s.gapLen a) ((s.seq a).work.getD (if hsel = 6 then (s.seq a).hp else hsel) Lane.init) (bitsOf (s.storeWord true 0 n) 3 0)
        (nanoSrc (s.seq a) ((s.seq a).work.getD (if hsel = 6 then (s.seq a).hp else hsel) Lane.init) (bitsOf (s.storeWord true 0 n) 47 16) (bitsOf (s.storeWord true 0 n) 11 8))
        (nanoSrc (s.seq a) ((s.seq a).work.getD (if hsel = 6 then (s.seq a).hp else hsel) Lane.init) (bitsOf (s.storeWord true 0 n) 47 16) (bitsOf (s.storeWord true 0 n) 15 12))).1)) ∧
  (∀ (a : Act) (n hsel g : Nat) (s : State), s.atWord a (.nano n hsel g) = true → nanoGuard (s.seq a) g = false → s.rd (SEQ_PC.PC a) < 16383 →
    completes (.nanoWord a) s (fun t => t.rd (SEQ_PC.PC a) = s.rd (SEQ_PC.PC a) + 1 ∧ (t.seq a).v = (s.seq a).v ∧ (t.seq a).lanes = (s.seq a).lanes ∧ (t.seq a).tent = (s.seq a).tent)) ∧
  (∀ (a : Act) (k : Nat) (s : State), s.atWord a (.ctl 5 k) = true → k < 256 → s.rd (SEQ_PC.PC a) < 16383 →
    completes (.signal a) s (fun t => t.rd (SEQ_SIGNAL.CODE a) = k ∧ t.rd (SEQ_SIGNAL.COUNT a) = satU 8 (s.rd (SEQ_SIGNAL.COUNT a) + 1) ∧
      t.out = s.out ++ [.helmIrq (SEQ_SIGNAL a) 0] ∧ t.rd (SEQ_PC.PC a) = s.rd (SEQ_PC.PC a) + 1)) ∧
  (∀ (a : Act) (k : Nat) (s : State), s.atWord a (.ctl 2 k) = true → s.rd (SEQ_PC.PC a) < 16383 →
    completes (.wwait a) s (fun t => t.rd (SEQ_STATUS.WAITING a) = 1 ∧ t.rd (SEQ_STATUS.RUNNING a) = 0 ∧ t.rd (SEQ_PC.PC a) = s.rd (SEQ_PC.PC a) + 1 ∧
      ∀ j, j < 8 → t.rd (SEQ_V.V a j) = ((s.seq a).v.getD j 0).toNat)) ∧
  (∀ (a : Act) (k : Nat) (s : State), s.atWord a (.ctl 6 k) = true →
    completes (.seqStop a) s (fun t => t.rd (SEQ_CTRL.EN a) = 0 ∧ t.rd (SEQ_STATUS.RUNNING a) = 0 ∧ t.rd (SEQ_STATUS.WAITING a) = 0)) ∧
  (∀ (a : Act) (ret depth : Nat) (s : State), s.seqRunning a = true → 12288 ≤ s.rd (SEQ_PC.PC a) → s.rd (SEQ_HOOK_BUDGET.BUDGET a) ≤ (s.seq a).hookUsed →
    (s.seq a).hookFrame = some (ret, depth) → ret < 16384 → depth < 8 →
    completes (.hookBudgetExhausted a) s (fun t => t.rd (SEQ_PC.PC a) = ret ∧ t.rd (SEQ_LC_SP.SP a) = depth ∧ t.rd (SEQ_STATUS.HOOK_OVER a) = 1 ∧ t.rd (SEQ_CTRL.HOOK_EN a) = 0)) ∧
  (∀ (a : Act) (s : State), s.seqRunning a = true →
    completes (.seqLate a) s (fun t => t.rd (SEQ_STATUS.RUNNING a) = 0 ∧ t.rd (SEQ_STATUS.WAITING a) = 1 ∧ t.rd (SEQ_STATUS.LATE a) = 1 ∧
      t.rd (SEQ_EVT_CNT.LATE a) = satU 8 (s.rd (SEQ_EVT_CNT.LATE a) + 1))) ∧
  (∀ (mask : BitVec 4) (s : State), completes (.seqFlush mask) s (fun t => ∀ a, a < 4 → mask.getLsbD a = true → s.actPresent a = true →
      t.rd ⟨SEQ_FLUSH, a, a⟩ = b2n (s.seqRunning a) ∧ (s.seqRunning a = false → ∀ p, p < 6 → (t.lane (a * 6 + p)).list = [] ∧ (t.lane (a * 6 + p)).incoming = []))) ∧
  (∀ (w : Initiator) (a : Act) (n : Nat) (s : State), s.mayWrite w = true → s.actPresent a = true → s.mode = .factory → s.on (SEQ_CTRL.EN a) = false → s.watch.armed = none →
    sparseGet 0 s.stores.errs (errKey false 0 (s.rd (SEQ_PC.PC a))) = 0 → decodeMicro (s.storeWord false 0 (s.rd (SEQ_PC.PC a))) = .jump n → n < 16384 → s.rd (SEQ_PC.PC a) < 12288 →
    completes (.seqStep w a) s (fun t => t.rd (SEQ_PC.PC a) = n))

/-- Gate events of a write, the write streams and rewrites: where each completes and what then holds (R36, R44, R106, R107, R109, R126, R127, R138.)
GATE_EVENT_FIRE with an event first in the head's lane. A first OPEN_WRITE of a sector that is not failed, on a head that can write, is in no
write-unsafe condition, not inhibited, enabled and WRITE_ARMED, no CTL_LATE block standing, its encoded sector held: the head's gate is open with
that token, GATE is set, and two outputs are added: the gate opens and the stream clocks out the fragment (mark, codeword bits, shifted
transitions, time and rate as the function streamOut gives them). An OPEN_WRITE on a head that can write but is in a write-unsafe condition or
inhibited: gates and outputs stay as they were. The CLOSE of the open write gate's token: no gate is open, GATE is clear and an output closes it.
STREAM_SECTOR_READY of a write sector of this head to be done, not yet encoded, with its address known, the stream enabled with fewer than three
sectors held: if data or trailer read uncorrectable or the CRC differs, CRC_ERR is set; otherwise the last sector held is data, tag, CRC and
stamp encoded, and scrambled with SCR_EN set. SECTOR_REWRITE of a sector of this head that awaits its rewrite, the actuator on its tier: its
write descriptor stands first in the head's list, the list behind it as before if it had room, and gates and streams are unchanged. -/
def Obligations.WritePathCommands : Prop :=
  (∀ (h : Head) (adc : List (Byte × Byte)) (e : GateEv) (l : List GateEv) (w : SecWork) (x : EncSec) (s : State), (s.lane h).events = e :: l → e.act = .openWrite → e.first = true → s.canWrite h = true → s.wus h = false → s.inhibited h = false →
    (s.head h).buf.find? (fun y => y.token == e.desc.token) = some x → (s.head h).mode = 2 → s.wrp.ctlBlock = false → s.on (WRP_CTRL.EN h) = true → s.sec? e.desc.token = some w → w.st ≠ .failed → s.wrp.heads.length = 24 →
    completes (.gateEventFire h adc) s (fun t => (t.head h).gate = some (e.desc.token, e.final) ∧ t.rd (WRP_STATUS.GATE h) = 1 ∧
      (t.head h).pc1 = s.rd (WRP_PRECOMP.PC1 h) ∧ (t.head h).pc2 = s.rd (WRP_PRECOMP.PC2 h) ∧ t.out = s.out ++ [.writeGate h true, t.streamOut h e x.bits])) ∧
  (∀ (h : Head) (adc : List (Byte × Byte)) (e : GateEv) (l : List GateEv) (s : State), (s.lane h).events = e :: l → e.act = .openWrite → s.canWrite h = true → (s.wus h = true ∨ s.inhibited h = true) →
    completes (.gateEventFire h adc) s (fun t => (t.head h).gate = (s.head h).gate ∧ t.out = s.out)) ∧
  (∀ (h : Head) (adc : List (Byte × Byte)) (e : GateEv) (l : List GateEv) (final : Bool) (s : State), (s.lane h).events = e :: l → e.act = .close → e.desc.write = true → (s.head h).gate = some (e.desc.token, final) →
    completes (.gateEventFire h adc) s (fun t => (t.head h).gate = none ∧ t.rd (WRP_STATUS.GATE h) = 0 ∧ .writeGate h false ∈ t.out)) ∧
  (∀ (h : Head) (tok : Word) (w : SecWork) (addr : Nat) (s : State), s.sec? tok.toNat = some w → s.secAddr tok.toNat w = some addr → w.write = true → w.head = h.val → w.encoded = false → s.on (WRP_CTRL.EN h) = true →
    (s.head h).buf.length < 3 → (w.st = .todo ∨ w.st = .listed) → s.wrp.heads.length = 24 →
    completes (.streamSectorReady h tok) s (fun t =>
      let p := s.readAny 8 0 64 addr 4096; let q := p.1.readAny 8 0 4 (s.trailerAddr addr) 16;
      if p.2.anyUe || p.2.err || q.2.anyUe || q.2.err || leValue ((q.2.data.drop 8).take 4) != sectorCrc p.2.data (leValue (q.2.data.take 8)) then t.rd (WRP_STATUS.CRC_ERR h) = 1
      else (t.head h).buf = (s.head h).buf ++ [{ token := tok.toNat, bits := (if s.on (WRP_CTRL.SCR_EN h) then channelBits else ldpcEncode) (p.2.data ++ q.2.data.take 8 ++ (q.2.data.drop 8).take 4 ++ leBytes 4 w.stamp) }])) ∧
  (∀ (h : Head) (tok : Word) (w : SecWork) (s : State), s.sec? tok.toNat = some w → w.rewrite = true → w.st = .todo → w.head = h.val →
    s.onTier (h / 6) w.zone (s.placeOf w).1 (s.placeOf w).2.1 = true → s.seqs.length = 4 → (s.seq (h / 6)).lanes.length = 6 →
    completes (.sectorRewrite h tok) s (fun t => (t.lane h).list.head?.map (fun d => (d.token, d.lba, d.write)) = some (tok.toNat, w.lba, true) ∧
      ((s.lane h).list.length < 16 → (t.lane h).list.drop 1 = (s.lane h).list) ∧ t.wrp = s.wrp))

/-- The preamplifier ports: frames, mailboxes, heaters, the fault line, confirming tests: where each completes and what then holds (R114, R115, R116,
R117, R118, R119, R120, R121, R123, R124.) PA_FRAME_END of a write frame: with nothing waiting the port rests, no output, and the frame's mailbox
shows DONE; with a STATUS read waiting first, outside HALTED and reset, that read is in flight. PA_KEEPALIVE with the port at rest and its queues
empty, outside HALTED and reset: one more output, the frame with its CRC-4 that writes 0 to register 0 of all heads; no register changes.
PA_READ_RESPONSE with good CRC to a mailbox's read: DATA holds the data and DONE is set; with bad CRC, not yet repeated, outside HALTED and
reset: the frame is sent again and no register changes. PA_MAILBOX_CMD by an initiator that may write, for a present head: with a resting port
outside HALTED and reset, unless it is a broadcast read or outside FACTORY a write to registers 3, 4 or 5, its frame is in flight, ADDR and DATA
show it and GO is clear; outside FACTORY such a write sets REFUSED and no port or head changes. HEATER_UPDATE with a resting port and no gate
open, outside HALTED and reset: HTR_WR is sent when a run begins within PREHEAT bells, HTR_RD when the run is over, the mode's value when a
change of mode made it due; no register changes. PA_FAULT_N_FALL: no write gate of the actuator is open and its heads show PA_FAULT.
PA_FAULT_N_RISE with no STATUS read waiting and every STATUS copy clear: the fault ends. HEAD_CONFIRM_TEST of a head with findings, its port
free: a head not in IDLE is sent the MODE frame for IDLE; in IDLE the first test sends two frames and keeps the findings; a second one of a
writer that again reports sets WRITER_LOST. -/
def Obligations.PreampCommands : Prop :=
  (∀ (a : Act) (f : PaFrame) (s : State), (s.port a).inFlight = some f → f.read = false → (s.port a).statusQ = [] → (s.port a).modeQ = [] → (s.port a).htrQ = [] → (s.port a).mailQ = [] →
    completes (.paFrameEnd a) s (fun t => (t.port a).inFlight = none ∧ t.out = s.out ∧ (∀ q, q < 6 → f.mailbox = some q → t.rd (WRP_PA_RESP.DONE (a * 6 + q)) = 1))) ∧
  (∀ (a : Act) (f : PaFrame) (pos : Nat) (l : List Nat) (s : State), (s.port a).inFlight = some f → f.read = false → (s.port a).statusQ = pos :: l → s.mode ≠ .halted → s.sys.inReset = false → s.actPresent a = true →
    completes (.paFrameEnd a) s (fun t => (t.port a).inFlight = some { read := true, pos := pos, addr := 1, data := 0, mailbox := none } ∧ (t.port a).statusQ = l)) ∧
  (∀ (a : Act) (s : State), s.actPresent a = true → s.mode ≠ .halted → s.sys.inReset = false → (s.port a).inFlight = none → (s.port a).statusQ = [] → (s.port a).modeQ = [] → (s.port a).htrQ = [] → (s.port a).mailQ = [] →
    completes (.paKeepalive a) s (fun t => t.out = s.out ++ [.paFrame a (16 * (7 * 2 ^ 24) + crc4 (7 * 2 ^ 24) 28 0)] ∧ t.regs = s.regs)) ∧
  (∀ (a : Act) (data : BitVec 16) (f : PaFrame) (q : Nat) (s : State), (s.port a).inFlight = some f → f.read = true → f.mailbox = some q → q < 6 →
    completes (.paReadResponse a data true) s (fun t => t.rd (WRP_PA_RESP.DATA (a * 6 + q)) = data.toNat ∧ t.rd (WRP_PA_RESP.DONE (a * 6 + q)) = 1)) ∧
  (∀ (a : Act) (data : BitVec 16) (f : PaFrame) (s : State), (s.port a).inFlight = some f → f.read = true → (s.port a).repeated = false → s.mode ≠ .halted → s.sys.inReset = false →
    completes (.paReadResponse a data false) s (fun t => (t.port a).inFlight = some f ∧ (t.port a).repeated = true ∧ t.out = s.out ++ [.paFrame a f.bits] ∧ t.regs = s.regs)) ∧
  (∀ (w : Initiator) (h : Head) (addr : Byte) (data : BitVec 16) (rd bcast : Bool) (s : State), s.mayWrite w = true → s.headPresent h = true → (rd && bcast) = false → s.sys.inReset = false → s.mode ≠ .halted →
    (rd = true ∨ s.mode = .factory ∨ addr ∉ [3, 4, 5]) → s.wrp.ports.length = 4 →
    (s.port (h / 6)).inFlight = none → (s.port (h / 6)).statusQ = [] → (s.port (h / 6)).modeQ = [] → (s.port (h / 6)).htrQ = [] → (s.port (h / 6)).mailQ = [] →
    completes (.paMailboxCmd w h addr data rd bcast) s (fun t => (t.port (h / 6)).inFlight = some { read := rd, pos := if bcast then 7 else h.val % 6, addr := addr.toNat, data := if rd then 0 else data.toNat, mailbox := some (h.val % 6) } ∧
      t.rd (WRP_PA_CMD.ADDR h) = addr.toNat ∧ t.rd (WRP_PA_CMD.DATA h) = data.toNat ∧ t.rd (WRP_PA_CMD.GO h) = 0)) ∧
  (∀ (w : Initiator) (h : Head) (addr : Byte) (data : BitVec 16) (bcast : Bool) (s : State), s.mayWrite w = true → s.headPresent h = true → s.mode ≠ .factory → addr ∈ [3, 4, 5] →
    completes (.paMailboxCmd w h addr data false bcast) s (fun t => t.rd (WRP_PA_RESP.REFUSED h) = 1 ∧ t.wrp = s.wrp)) ∧
  (∀ (h : Head) (n : Nat) (s : State), s.headPresent h = true → s.mode ≠ .halted → s.sys.inReset = false → s.wrp.ports.length = 4 → s.wrp.heads.length = 24 →
    (s.port (h / 6)).inFlight = none → (s.port (h / 6)).statusQ = [] → (s.port (h / 6)).modeQ = [] → (s.port (h / 6)).htrQ = [] → s.headGate h = false → (s.head h).run = false → s.nextWriteIn h = some n → n ≤ s.rd (WRP_HTR_CFG.PREHEAT h) →
    completes (.heaterUpdate h .preheat) s (fun t => (t.port (h / 6)).inFlight = some (paWrite (h % 6) 5 (s.rd (WRP_HTR_CFG.HTR_WR h))) ∧ (t.head h).run = true ∧ t.regs = s.regs)) ∧
  (∀ (h : Head) (s : State), s.headPresent h = true → s.mode ≠ .halted → s.sys.inReset = false → s.wrp.ports.length = 4 → s.wrp.heads.length = 24 →
    (s.port (h / 6)).inFlight = none → (s.port (h / 6)).statusQ = [] → (s.port (h / 6)).modeQ = [] → (s.port (h / 6)).htrQ = [] → s.headGate h = false → (s.head h).run = true → s.hasWrites h = false →
    completes (.heaterUpdate h .runEnd) s (fun t => (t.port (h / 6)).inFlight = some (paWrite (h % 6) 5 (s.rd (WRP_HTR_CFG.HTR_RD h))) ∧ (t.head h).run = false ∧ t.regs = s.regs)) ∧
  (∀ (h : Head) (s : State), s.headPresent h = true → s.mode ≠ .halted → s.sys.inReset = false → s.wrp.ports.length = 4 → s.wrp.heads.length = 24 →
    (s.port (h / 6)).inFlight = none → (s.port (h / 6)).statusQ = [] → (s.port (h / 6)).modeQ = [] → (s.port (h / 6)).htrQ = [] → s.headGate h = false → (s.head h).htrDue = true →
    completes (.heaterUpdate h .modeChange) s (fun t => (t.port (h / 6)).inFlight = some (paWrite (h % 6) 5 (s.heaterFor h)) ∧ (t.head h).htrDue = false ∧ t.regs = s.regs)) ∧
  (∀ (a : Act) (s : State), s.actPresent a = true → s.wrp.ports.length = 4 →
    completes (.paFaultNFall a) s (fun t => (t.port a).lineLow = true ∧ (t.port a).fault = true ∧ ∀ h, h < 24 → s.headPresent h = true → h / 6 = a.val → (t.head h).gate = none ∧ t.rd (WRP_STATUS.PA_FAULT h) = 1)) ∧
  (∀ (a : Act) (s : State), s.actPresent a = true → (s.port a).statusWaits = false → (s.port a).status.all (fun x => x % 2048 == 0) = true →
    completes (.paFaultNRise a) s (fun t => (t.port a).lineLow = false ∧ (t.port a).fault = false ∧ t.regs = s.regs)) ∧
  (∀ (h : Head) (status : BitVec 8) (s : State), s.headPresent h = true → (s.head h).tests = 0 → s.findings h ≠ 0 → s.testReady h = true → (s.head h).mode ≠ 0 → s.wrp.ports.length = 4 →
    completes (.headConfirmTest h status) s (fun t => (t.port (h / 6)).inFlight = some (paWrite (h % 6) 3 0) ∧ t.out = s.out ++ [.paFrame (Fin.ofNat 4 (h / 6)) (paWrite (h % 6) 3 0).bits])) ∧
  (∀ (h : Head) (status : BitVec 8) (s : State), s.headPresent h = true → (s.head h).tests = 0 → s.findings h ≠ 0 → s.testReady h = true → (s.head h).mode = 0 → s.wrp.heads.length = 24 →
    completes (.headConfirmTest h status) s (fun t => (t.head h).tests = 1 ∧ (t.head h).finding = s.findings h ∧ t.regs = s.regs ∧ t.out.length = s.out.length + 2)) ∧
  (∀ (h : Head) (status : BitVec 8) (s : State), s.headPresent h = true → (s.head h).tests = 1 → (s.head h).finding = 4 → (s.head h).confirms = 4 → s.testReady h = true → (s.head h).mode = 0 → (bitOf status.toNat 1 || bitOf status.toNat 2) = true →
    completes (.headConfirmTest h status) s (fun t => t.rd (WRP_STATUS.WRITER_LOST h) = 1 ∧ (t.head h).tests = 0))

/-- A read channel through one sector: commit start, search, window, end, asperities, loss of lock: where each completes and what then holds (R53,
R57, R58, R59, R60, R62, R67, R68, R72, R74, R81.) RETENTION_COMMIT_START of a working channel that acquires, holds no slot and is not selective,
retention on: a slot of the ring is taken and NEXT is the one behind it, the descriptor has the channel's sequence number and state FILLING, its
timing snapshot is that of the front end behind the samples given, and the commit runs. SYNC_SEARCH_START of an acquiring channel: it searches
the primary mark, or in a later fragment the fragment mark, or stays without one in a sector without sync. SYNC_WINDOW_END in the primary search:
with a position within SYNC_TOL the channel takes the earliest, its position and distance; else PRIMARY_MISS is set and it searches the rescue
mark if RESCUE_EN, or is without sync. SECTOR_END of the last fragment, in data or without sync: the channel is idle, SECTORS has risen and DQM
is 0 without sync, else that of the strong LLRs of the samples retained. THERMAL_ASPERITY_START: the asperities that the front end finds in the
samples set TA, are counted and stand as it leaves them; THERMAL_ASPERITY_END: so do the spans recorded (four at most) and TA_LONG. LOSS_OF_LOCK
of a sector not marked so, with 256 phase errors whose mean is above LOCK_THRESH: LOL is set, counted and marks the sector. SELECTIVE_MODE_ENTER
of a present channel with a plane fenced or FORCE_SEL: it is selective and MODE is 1. CHANNEL_LATE of a present busy channel: LATE is set and its
source counted. -/
def Obligations.ReadChannelSector : Prop :=
  (∀ (n : Chan) (adc : List (Byte × Byte)) (s : State), (s.chan n).fsm = .acquire → (s.chan n).slotIx = none → s.isShadow n = false → s.on RCH_RET_CFG.RET_EN = true → (s.chan n).selective = false → s.rd RCH_RET_CFG.DEPTH ≠ 0 →
    completes (.retentionCommitStart n adc) s (fun t => ∃ i, i < s.rd RCH_RET_CFG.DEPTH ∧ (t.chan n).slotIx = some i ∧ t.rd (RCH_RET_PTR.NEXT n) = (i + 1) % s.rd RCH_RET_CFG.DEPTH ∧
      (t.chan n).cur.seq = (s.chan n).seqNo % 2 ^ 32 ∧ (t.chan n).cur.trSnap = ((s.feed n adc).chan n).trStat ∧ (t.chan n).cur.state = 1 ∧ (t.chan n).rx.commit = true ∧ (t.chan n).fsm = .acquire)) ∧
  (∀ (n : Chan) (adc : List (Byte × Byte)) (s : State), ((s.chan n).fsm = .acquire ∨ (s.chan n).fsm = .fragAcq) →
    completes (.syncSearchStart n adc) s (fun t => (t.chan n).fsm = (if (s.chan n).fsm = .acquire then .searchP else if (s.chan n).cur.has 1 then .nosync else .searchF))) ∧
  (∀ (n : Chan) (adc : List (Byte × Byte)) (bits : BitVec 72) (rescue : BitVec 40) (s : State), (s.chan n).fsm = .searchP →
    completes (.syncWindowEnd n adc bits rescue) s (fun t => match firstWithin (s.cfgRd n (RCH_SYNC_CFG.SYNC_TOL n)) (windowDistances bits.toNat (patternOf (s.chan n).marks 0)) 16 with
      | some (p, x) => (t.chan n).fsm = .data ∧ (t.chan n).cur.syncPos = p ∧ (t.chan n).cur.primaryDist = x
      | none => t.rd (RCH_STATUS.PRIMARY_MISS n) = 1 ∧ (t.chan n).fsm = (if s.cfgRd n (RCH_SYNC_CFG.RESCUE_EN n) = 1 then .searchR else .nosync))) ∧
  (∀ (n : Chan) (adc : List (Byte × Byte)) (d : SDesc) (s : State), (s.chan n).sector = some d → ((s.chan n).fsm = .data ∨ (s.chan n).fsm = .nosync) → (s.chan n).lastFrag = true →
    completes (.sectorEnd n adc) s (fun t => (t.chan n).fsm = .idle ∧ (t.chan n).sector = none ∧ t.rd (RCH_SECT_CNT.SECTORS n) = satU 32 (s.rd (RCH_SECT_CNT.SECTORS n) + 1) ∧
      t.rd (RCH_QUAL.DQM n) = (if (s.chan n).cur.has 1 then 0 else
        dqmOf (strongBits (s.cfgRd n (RCH_DET_CFG.LLR_STRONG n)) ((s.endSamples n adc).sectorLlrs n ((s.endSamples n adc).chan n).cur ((s.endSamples n adc).chan n).rx.stage 0))))) ∧
  (∀ (n : Chan) (adc : List (Byte × Byte)) (c : ChanU) (s : State), (s.chan n).fsm ≠ .idle → (s.rxCfg n).take (adc.map (fun e => (e.1.toInt, e.2.toInt))) (s.chan n) = c → 0 < c.rx.started →
    completes (.thermalAsperityStart n adc) s (fun t => t.rd (RCH_STATUS.TA n) = 1 ∧ t.rd (RCH_EVT_CNT.TA n) = satU 8 (s.rd (RCH_EVT_CNT.TA n) + c.rx.started) ∧
      (t.chan n).taA = c.taA ∧ (t.chan n).taB = c.taB ∧ (t.chan n).cur.has 3 = c.cur.has 3)) ∧
  (∀ (n : Chan) (adc : List (Byte × Byte)) (c : ChanU) (s : State), (s.chan n).fsm ≠ .idle → (s.rxCfg n).take (adc.map (fun e => (e.1.toInt, e.2.toInt))) (s.chan n) = c →
    completes (.thermalAsperityEnd n adc) s (fun t => (t.chan n).taA = c.taA ∧ (t.chan n).taB = c.taB ∧ (t.chan n).cur.taSpans = c.cur.taSpans ∧ (t.chan n).cur.has 4 = c.cur.has 4)) ∧
  (∀ (n : Chan) (errs : List Int) (s : State), (s.chan n).fsm ≠ .idle → (s.chan n).cur.has 5 = false → errs.length = 256 →
    256 * s.cfgRd n (RCH_TR_CFG.LOCK_THRESH n) < errs.foldl (fun a e => a + e.natAbs) 0 →
    completes (.lossOfLock n errs) s (fun t => t.rd (RCH_STATUS.LOL n) = 1 ∧ (t.chan n).cur.has 5 = true ∧ t.rd (RCH_EVT_CNT.LOL n) = satU 8 (s.rd (RCH_EVT_CNT.LOL n) + 1))) ∧
  (∀ (n : Chan) (s : State), (s.on RCH_RET_STAT.PLANE_CAUSE = true ∨ s.on RCH_RET_CFG.FORCE_SEL = true) → (s.chan n).selective = false → s.chanPresent n = true → s.chans.length = 28 →
    completes (.selectiveModeEnter n) s (fun t => (t.chan n).selective = true ∧ t.rd RCH_RET_STAT.MODE = 1)) ∧
  (∀ (n : Chan) (s : State), s.chanPresent n = true → (s.chan n).fsm ≠ .idle →
    completes (.channelLate n) s (fun t => t.rd (RCH_STATUS.LATE n) = 1 ∧ sparseGet 0 t.watch.srcCnt (0x20 + n) = min 65535 (sparseGet 0 s.watch.srcCnt (0x20 + n) + 1)))

/-- Slot holds, coefficient writes and the spare channels: where each completes and what then holds (R73, R76, R77, R80, R82, R10.) SLOT_HOLD_REQUEST
of a COMPLETE slot with the SEQ named, not held, fewer than DEPTH - 1 held, and SLOT_HOLD_GRANT of the oldest waiting request on such a slot: the
slot is held (the request leaves) and no register changes. COEF_DATA_WRITE by an initiator that may write, of a word that exists, with room in
the queue: bank, word and value stand last in the queue and WORD advances with AUTO; by the host with 64 queued: no channel changes and COEF_DROP
is set. COEF_QUEUE_APPLY with the gate closed: the queue is empty and the word of the newest write holds its value in its width. Of spare
commands by an initiator that may write, for a position below 6: SPARE_SUBST of a free spare for a present head: SPARE_MAP and MAP show that it
substitutes for it, and SPARE_DONE is set (the working channel's MAP shows 7 and 0, the model's choice, log entry 143); SPARE_RELEASE of the
substituted head whose channel is not fenced: the spare is to release at the next gate open; SPARE_SHADOW of a free spare for a present head: it
shadows the position; SPARE_DETACH of a spare that shadows that position: MAP shows it idle. -/
def Obligations.ReadChannelStore : Prop :=
  (∀ (n : Chan) (slot : Fin 8) (seq : Word) (s : State), (s.slotOf n slot).seq = seq.toNat → (s.slotOf n slot).state = 2 → (s.slotOf n slot).held = false →
    ((s.chan n).slots.filter (fun x => x.held)).length + 1 < s.rd RCH_RET_CFG.DEPTH →
    completes (.slotHoldRequest n slot seq) s (fun t => (t.slotOf n slot).held = true ∧ (t.slotOf n slot).seq = seq.toNat ∧ t.regs = s.regs)) ∧
  (∀ (n : Chan) (i q : Nat) (l : List (Nat × Nat)) (s : State), (s.chan n).holdWaits = (i, q) :: l → (s.slotOf n i).seq = q → (s.slotOf n i).state = 2 → (s.slotOf n i).held = false →
    ((s.chan n).slots.filter (fun x => x.held)).length + 1 < s.rd RCH_RET_CFG.DEPTH →
    completes (.slotHoldGrant n) s (fun t => (t.slotOf n i).held = true ∧ (t.chan n).holdWaits = l ∧ t.regs = s.regs)) ∧
  (∀ (w : Initiator) (n : Chan) (v : Word) (s : State), s.mayWrite w = true → s.chanPresent n = true → (s.chan n).coefQ.length < 64 → (coefWidth (s.rd (RCH_COEF_ADDR.WORD n))).isSome = true → s.chans.length = 28 →
    completes (.coefDataWrite w n v) s (fun t => (t.chan n).coefQ = (s.chan n).coefQ ++ [(s.rd (RCH_COEF_ADDR.BANK n) * 2048 + s.rd (RCH_COEF_ADDR.WORD n), v.toNat)] ∧
      t.rd (RCH_COEF_ADDR.WORD n) = (if s.on (RCH_COEF_ADDR.AUTO n) then (s.rd (RCH_COEF_ADDR.WORD n) + 1) % 2048 else s.rd (RCH_COEF_ADDR.WORD n)))) ∧
  (∀ (n : Chan) (v : Word) (s : State), s.mayWrite .host = true → s.chanPresent n = true → 64 ≤ (s.chan n).coefQ.length →
    completes (.coefDataWrite .host n v) s (fun t => t.chans = s.chans ∧ t.rd (RCH_STATUS.COEF_DROP n) = 1)) ∧
  (∀ (n : Chan) (l : List (Nat × Nat)) (k v b : Nat) (s : State), (s.chan n).gate = false → (s.chan n).coefQ = l ++ [(k, v)] → coefWidth (k % 2048) = some b →
    completes (.coefQueueApply n) s (fun t => (t.chan n).coefQ = [] ∧ sparseGet 0 (t.chan n).coef k = v % 2 ^ b ∧ t.regs = s.regs)) ∧
  (∀ (w : Initiator) (a : Act) (pos : BitVec 3) (s : State), s.mayWrite w = true → pos.toNat < 6 → s.headPresent (a * 6 + pos.toNat) = true → s.spareFree a = true →
    completes (.spareSubst w a pos) s (fun t => t.spareSub a = some pos.toNat ∧ t.rd (RCH_MAP.POS (24 + a)) = pos.toNat ∧ t.rd (RCH_MAP.ROLE (24 + a)) = 3 ∧
      t.rd (RCH_MAP.POS (a * 6 + pos.toNat)) = 7 ∧ t.rd (RCH_MAP.ROLE (a * 6 + pos.toNat)) = 0 ∧ t.rd RCH_GSTATUS.SPARE_DONE = 1)) ∧
  (∀ (w : Initiator) (a : Act) (pos : BitVec 3) (s : State), s.mayWrite w = true → pos.toNat < 6 → s.spareSub a = some pos.toNat → s.on (RCH_MAP.FENCED (a * 6 + pos.toNat)) = false → s.chans.length = 28 →
    completes (.spareRelease w a pos) s (fun t => (t.chan (24 + a)).releasing = true ∧ t.spareSub a = some pos.toNat)) ∧
  (∀ (w : Initiator) (a : Act) (pos : BitVec 3) (s : State), s.mayWrite w = true → pos.toNat < 6 → s.headPresent (a * 6 + pos.toNat) = true → s.spareFree a = true →
    completes (.spareShadow w a pos) s (fun t => t.isShadow (24 + a) = true ∧ t.rd (RCH_MAP.POS (24 + a)) = pos.toNat ∧ t.spareSub a = none)) ∧
  (∀ (w : Initiator) (a : Act) (pos : BitVec 3) (s : State), s.mayWrite w = true → pos.toNat < 6 → s.isShadow (24 + a) = true → s.rd (RCH_MAP.POS (24 + a)) = pos.toNat →
    completes (.spareDetach w a pos) s (fun t => t.rd (RCH_MAP.POS (24 + a)) = 7 ∧ t.rd (RCH_MAP.ROLE (24 + a)) = 2 ∧ t.isShadow (24 + a) = false))

/-- The decoder pool: quick and deep engines, re-alignment trials, the trace: where each completes and what then holds (R73, R75, R84, R85, R86, R87,
R88, R89, R94, R95, R105.) QUICK_DECODE_START: if a waiting sector goes directly to re-alignment (SW0 at least SW_ALIGN, ALIGN_EN, a slot, no
trial before), it stops waiting and its buffer is free; if none does and a quick engine in service is idle with room for its records, the sector
first in the queue runs on one idle longest. QUICK_ITERATION_END of a quick decode that is not being dropped, no word of its buffer with wrong
parity: with every check satisfied and EARLY_STOP the iteration is counted, the engine is idle, and CONVERGED is counted for an outcome CONVERGED
or UNWRITTEN, else FAILED; with one unsatisfied below the limit it goes on, CUR_ITER counting. REALIGN_TRIAL_END, no drop, the syndrome weight
being that of the LLRs re-detected from the local buffer at the shift: not below SW_ALIGN with a shift left, the next shift is tried and TRIALS
counted (a first trial, whose slot holds the sector and is held, releases the hold); below it with a buffer free, the sector waits for a quick
decode with that buffer, and OK is counted. DEEP_SLOT_LOAD_END, no drop, slot matching and held: the engine decodes and the hold ends; not held
yet: nothing changes. DEEP_OUTER_ITERATION_END, no drop: with every check satisfied and EARLY_STOP the iteration and DEEP_CNT CONVERGED (outcome
CONVERGED or UNWRITTEN) or FAILED are counted; with one unsatisfied below the limit and no trial pending it goes on. DEC_TRACE_POP with a record:
that record leaves, its upper word is output, no register changes. -/
def Obligations.DecoderCommands : Prop :=
  (∀ (d : DSect) (s : State), s.dec.waiting.find? s.goesToAlign = some d →
    completes .quickDecodeStart s (fun t => t.dec.waiting = s.dec.waiting.erase d ∧ ∀ b, d.buf = some b → t.dec.bufs.getD b none = none)) ∧
  (∀ (d : DSect) (l : List DSect) (s : State), s.dec.waiting = d :: l → s.dec.waiting.find? s.goesToAlign = none →
    (∃ e, e < 32 ∧ s.engInService e = true ∧ (s.eng e).job = none ∧ (sparseGet [] s.dec.slots (28 + e)).length < 8) → s.dec.engines.length = 36 →
    completes .quickDecodeStart s (fun t => t.dec.waiting = l ∧ ∃ e, e < 32 ∧ s.engInService e = true ∧ (s.eng e).job = none ∧ (t.eng e).job = some (d, .quick) ∧ t.rd (DEC_ESTATUS.BUSY e) = 1 ∧
      ∀ k, k < 32 → s.engInService k = true → (s.eng k).job = none → (sparseGet [] s.dec.slots (28 + k)).length < 8 → (s.eng e).idleSince ≤ (s.eng k).idleSince)) ∧
  (∀ (e : Fin 32) (word : BitVec 37120) (flips : List (BitVec 18)) (d : DSect) (s : State), (s.eng e).job = some (d, .quick) → (s.eng e).dropping = false → syndromeWeight word.toNat = 0 →
    parityBroken (flips.map (fun f => f.toNat)) = false → s.on DEC_CFG.EARLY_STOP = true →
    completes (.quickIterationEnd e word flips) s (fun t => (t.eng e).job = none ∧ t.rd (DEC_ESTATUS.BUSY e) = 0 ∧ t.rd (DEC_ITER_CNT.ITERS e) = satU 32 (s.rd (DEC_ITER_CNT.ITERS e) + 1) ∧
      (if s.payloadOutcome d (payloadOf word.toNat) = 2 ∨ s.payloadOutcome d (payloadOf word.toNat) = 6 then t.rd (DEC_SECT_CNT.CONVERGED e) = satU 16 (s.rd (DEC_SECT_CNT.CONVERGED e) + 1)
       else t.rd (DEC_SECT_CNT.FAILED e) = satU 16 (s.rd (DEC_SECT_CNT.FAILED e) + 1)))) ∧
  (∀ (e : Fin 32) (word : BitVec 37120) (flips : List (BitVec 18)) (d : DSect) (s : State), (s.eng e).job = some (d, .quick) → (s.eng e).dropping = false → syndromeWeight word.toNat ≠ 0 →
    parityBroken (flips.map (fun f => f.toNat)) = false → (s.eng e).iter + 1 < (s.eng e).limit →
    completes (.quickIterationEnd e word flips) s (fun t => (t.eng e).job = some (d, .quick) ∧ (t.eng e).iter = (s.eng e).iter + 1 ∧ t.rd (DEC_ESTATUS.CUR_ITER e) = ((s.eng e).iter + 1) % 64)) ∧
  (∀ (e : Fin 4) (sw : Nat) (d : DSect) (sh : Int) (l : List Int) (s : State), (s.eng (32 + e)).job = some (d, .trial) → (s.eng (32 + e)).dropping = false → sw = syndromeWeight (hardBits (s.sectorLlrs d.chan (s.eng (32 + e)).local1.desc (s.eng (32 + e)).local1.samples d.shift)) → s.rd DEC_CFG.SW_ALIGN ≤ sw → d.shifts = sh :: l →
    completes (.realignTrialEnd e) s (fun t => (t.eng (32 + e)).job = some ({ d with shift := sh, shifts := l }, .trial) ∧ t.rd DEC_ALIGN_CNT.TRIALS = satU 16 (s.rd DEC_ALIGN_CNT.TRIALS + 1))) ∧
  (∀ (e : Fin 4) (sw i q : Nat) (d : DSect) (sh : Int) (l : List Int) (s : State), (s.eng (32 + e)).job = some (d, .trialLoad) → (s.eng (32 + e)).dropping = false → d.slot = some (i, q) → s.slotHolds d = true → s.slotHeld d = true →
    sw = syndromeWeight (hardBits ((s.loadSlot (32 + e) d).sectorLlrs d.chan ((s.loadSlot (32 + e) d).eng (32 + e)).local1.desc ((s.loadSlot (32 + e) d).eng (32 + e)).local1.samples d.shift)) → s.rd DEC_CFG.SW_ALIGN ≤ sw → d.shifts = sh :: l →
    completes (.realignTrialEnd e) s (fun t => (t.eng (32 + e)).job = some ({ d with shift := sh, shifts := l }, .trial) ∧ t.rd DEC_ALIGN_CNT.TRIALS = satU 16 (s.rd DEC_ALIGN_CNT.TRIALS + 1) ∧ (t.slotOf d.chan i).held = false)) ∧
  (∀ (e : Fin 4) (sw b : Nat) (d : DSect) (s : State), (s.eng (32 + e)).job = some (d, .trial) → (s.eng (32 + e)).dropping = false → sw = syndromeWeight (hardBits (s.sectorLlrs d.chan (s.eng (32 + e)).local1.desc (s.eng (32 + e)).local1.samples d.shift)) → sw < s.rd DEC_CFG.SW_ALIGN → s.freeBuf = some b →
    completes (.realignTrialEnd e) s (fun t => t.dec.waiting = s.dec.waiting ++ [{ d with buf := some b, fromTrial := true, sw0 := sw }] ∧ t.rd DEC_ALIGN_CNT.OK = satU 16 (s.rd DEC_ALIGN_CNT.OK + 1))) ∧
  (∀ (e : Fin 4) (i q : Nat) (d : DSect) (s : State), (s.eng (32 + e)).job = some (d, .deepLoad) → (s.eng (32 + e)).dropping = false → d.slot = some (i, q) → s.slotHolds d = true → s.slotHeld d = true →
    completes (.deepSlotLoadEnd e) s (fun t => (t.eng (32 + e)).job = some (d, .deep) ∧ (t.slotOf d.chan i).held = false)) ∧
  (∀ (e : Fin 4) (d : DSect) (s : State), (s.eng (32 + e)).job = some (d, .deepLoad) → (s.eng (32 + e)).dropping = false → s.slotHolds d = true → s.slotHeld d = false →
    exec (.deepSlotLoadEnd e) s = .next s) ∧
  (∀ (e : Fin 4) (word : BitVec 37120) (d : DSect) (s : State), (s.eng (32 + e)).job = some (d, .deep) → (s.eng (32 + e)).dropping = false → syndromeWeight word.toNat = 0 → s.on DEC_CFG.EARLY_STOP = true →
    completes (.deepOuterIterationEnd e word) s (fun t => t.rd (DEC_ITER_CNT.ITERS (32 + e)) = satU 32 (s.rd (DEC_ITER_CNT.ITERS (32 + e)) + 1) ∧
      (if s.payloadOutcome d (payloadOf word.toNat) = 2 ∨ s.payloadOutcome d (payloadOf word.toNat) = 6 then t.rd DEC_DEEP_CNT.CONVERGED = satU 16 (s.rd DEC_DEEP_CNT.CONVERGED + 1)
       else t.rd DEC_DEEP_CNT.FAILED = satU 16 (s.rd DEC_DEEP_CNT.FAILED + 1)))) ∧
  (∀ (e : Fin 4) (word : BitVec 37120) (d : DSect) (s : State), (s.eng (32 + e)).job = some (d, .deep) → (s.eng (32 + e)).dropping = false → syndromeWeight word.toNat ≠ 0 →
    (s.eng (32 + e)).iter + 1 < (s.eng (32 + e)).limit → s.dec.trialQ = [] →
    completes (.deepOuterIterationEnd e word) s (fun t => (t.eng (32 + e)).job = some (d, .deep) ∧ (t.eng (32 + e)).iter = (s.eng (32 + e)).iter + 1)) ∧
  (∀ (r : CRec) (l : List CRec) (s : State), s.dec.trace = r :: l →
    completes .decTracePop s (fun t => t.dec.trace = l ∧ t.out = s.out ++ [.regRead (BitVec.ofNat 32 (r.value / 2 ^ 96))] ∧ t.regs = s.regs))

/-- Crossbar bursts of the SRAM and its error log: where each completes and what then holds (R226, R228, R229, R230, R234, R242.) Of a burst whose
length is 1 to 16 beats inside the page. XBAR_READ_BURST without upsets, the page not retired and readable by the port, no injection armed and no
stored bit inverted: one more output, the bytes stored in the page's frame with no word uncorrectable and no error; registers and SRAM are
unchanged. XBAR_WRITE_BURST, the page not retired and writable by the port, no injection armed: one more output, no error, and each byte of the
burst holds the data given where enabled and what it held where not; the page retired or not accessible: the stored bytes are unchanged, an error
answer is among the outputs and ACCESS_ERR is set. ELOG_POP with an entry: that entry leaves, its upper word is output, no register changes. -/
def Obligations.BufferMemory : Prop :=
  (∀ (port : Fin 16) (chan : Byte) (page : Fin 16384) (beat : Fin 128) (beats : Nat) (s : State), burstFits beat beats = true → (s.pageInfo page).retired = false → s.mayAccess port page false = true → s.watch.armed = none → s.mem.flips = [] →
    completes (.xbarReadBurst port chan page beat beats []) s (fun t => t.out = s.out ++ [.xbarResp ((List.range (32 * beats)).map (fun i => sparseGet 0 s.mem.bytes (s.frameOf page * 4096 + 32 * beat + i))) 0 false] ∧
      t.regs = s.regs ∧ t.mem = s.mem)) ∧
  (∀ (port : Fin 16) (page : Fin 16384) (beat : Fin 128) (data : List (Option Byte)) (s : State), data.length % 32 = 0 → burstFits beat (data.length / 32) = true → (s.pageInfo page).retired = false → s.mayAccess port page true = true → s.watch.armed = none →
    completes (.xbarWriteBurst port page beat data) s (fun t => t.out = s.out ++ [.xbarResp [] 0 false] ∧
      (∀ i, i < data.length → sparseGet 0 t.mem.bytes (s.frameOf page * 4096 + 32 * beat + i) = (match data.getD i none with | some b => b | none => sparseGet 0 s.mem.bytes (s.frameOf page * 4096 + 32 * beat + i))))) ∧
  (∀ (port : Fin 16) (page : Fin 16384) (beat : Fin 128) (data : List (Option Byte)) (s : State), data.length % 32 = 0 → burstFits beat (data.length / 32) = true → ((s.pageInfo page).retired = true ∨ s.mayAccess port page true = false) →
    completes (.xbarWriteBurst port page beat data) s (fun t => t.mem.bytes = s.mem.bytes ∧ .xbarResp [] 0 true ∈ t.out ∧ t.rd MEM_STATUS.ACCESS_ERR = 1)) ∧
  (∀ (e : ElogEnt) (l : List ElogEnt) (s : State), s.mem.elog = e :: l →
    completes .elogPop s (fun t => t.mem.elog = l ∧ t.out = s.out ++ [.regRead (BitVec.ofNat 32 (e.value / 2 ^ 96))] ∧ t.regs = s.regs))

/-- Scrubbing, retirement, migration, page allocation and the plane fence: where each completes and what then holds (R235, R236, R237, R238, R239,
R243, R245.) SCRUB_READ without upsets, SCRUB_EN set: with a queued word that has the one inverted stored bit, the queue entry and the inversion
are gone, the word's bytes read as before and CE is counted, UE not; with no queue and no inverted bit, short of a frame's last word, in a frame
not retired, the walk goes to the next word and the bytes are unchanged. MEM_RETIRE_FRAME of a frame in service whose page is FREE and lies in
it: page and frame are retired, the page is no longer free, RETIRE_DONE is set, GO clear. MEM_RETIRE_BANK: the bank is retired or in progress, GO
clear, BANK as given. MIGRATION of the first waiting page with one free page, its frame not in a bank being retired: the two pages exchange
frames, the free page is retired with the old frame. MEM_ALLOC by an initiator that may write, of a count from 1 to 1,024, a tag without a map,
enough free pages and map blocks: the tag maps the oldest free pages, DONE is set. MEM_RELEASE of a mapped tag without pages to be retired or
listed twice: the map is gone, its pages are free again, DONE is set. PLANE_FENCE on control parity with both planes in service: the plane is
fenced and no longer shown OK, PLANE_CAUSE and PLANE_FENCE are set. -/
def Obligations.BufferUpkeep : Prop :=
  (∀ (f w i b : Nat) (q : List (Nat × Nat)) (s : State), s.on MEM_CTRL.SCRUB_EN = true → s.mem.corrQ = (f, w) :: q → i < 32 → b < 13 → s.mem.flips = [(f * 4096 + 32 * w + i, 2 ^ b)] →
    completes (.scrubRead []) s (fun t => t.mem.corrQ = q ∧ t.mem.flips = [] ∧ (∀ k, k < 32 → sparseGet 0 t.mem.bytes (f * 4096 + 32 * w + k) = sparseGet 0 s.mem.bytes (f * 4096 + 32 * w + k)) ∧
      t.rd MEM_SCRUB_CNT.CE = satU 16 (s.rd MEM_SCRUB_CNT.CE + 1) ∧ t.rd MEM_SCRUB_CNT.UE = s.rd MEM_SCRUB_CNT.UE)) ∧
  (∀ s : State, s.on MEM_CTRL.SCRUB_EN = true → s.mem.corrQ = [] → s.mem.flips = [] → s.rd MEM_SCRUB_STAT.WORD < 127 → s.mem.retFrames.contains (s.rd MEM_SCRUB_STAT.FRAME) = false →
    completes (.scrubRead []) s (fun t => t.rd MEM_SCRUB_STAT.FRAME = s.rd MEM_SCRUB_STAT.FRAME ∧ t.rd MEM_SCRUB_STAT.WORD = s.rd MEM_SCRUB_STAT.WORD + 1 ∧ t.mem.bytes = s.mem.bytes)) ∧
  (∀ (frame : Fin 16384) (p : Nat) (s : State), s.mem.retFrames.contains frame.val = false → s.pageOfFrame frame = some p → s.pageState p = 0 → s.frameOf p = frame →
    completes (.memRetireFrame frame) s (fun t => (t.pageInfo p).retired = true ∧ t.mem.retFrames.contains frame.val = true ∧ p ∉ t.mem.free ∧ t.rd MEM_STATUS.RETIRE_DONE = 1 ∧ t.rd MEM_RETIRE_CMD.GO = 0)) ∧
  (∀ (bank : Fin 32) (s : State), completes (.memRetireBank bank) s (fun t => (bitOf (t.reg MEM_BANK_RETIRED).toNat bank = true ∨ t.mem.banks.contains bank.val = true) ∧ t.rd MEM_RETIRE_CMD.GO = 0 ∧ t.rd MEM_RETIRE_CMD.BANK = bank.val)) ∧
  (∀ (p d : Nat) (q : List Nat) (s : State), s.mem.migQ = p :: q → s.mem.free = [d] → s.mem.banks.contains (s.frameOf d % 32) = false → p ≠ d →
    completes .migration s (fun t => t.frameOf p = s.frameOf d ∧ t.frameOf d = s.frameOf p ∧ (t.pageInfo d).retired = true ∧ t.mem.migQ = q ∧ t.mem.free = [] ∧ t.mem.retFrames.contains (s.frameOf p) = true)) ∧
  (∀ (w : Initiator) (tag : BitVec 14) (count : BitVec 11) (s : State), s.mayWrite w = true → count ≠ 0 → count.toNat ≤ 1024 → s.pageMap? tag.toNat = none → count.toNat ≤ s.mem.free.length → (count.toNat + 29) / 30 ≤ (s.freeBlocks ((count.toNat + 29) / 30)).length →
    completes (.memAlloc w tag count) s (fun t => t.rd MEM_PAGE_RESP.DONE = 1 ∧ t.rd MEM_PAGE_RESP.REFUSED = 0 ∧ t.mem.free = s.mem.free.drop count.toNat ∧
      (t.pageMap? tag.toNat).map (fun m => m.ents.map (fun e => e.page)) = some (s.mem.free.take count.toNat))) ∧
  (∀ (tag : BitVec 14) (m : PageMap) (s : State), s.pageMap? tag.toNat = some m → (∀ e ∈ m.ents, (s.pageInfo e.page).rp = false) → (m.ents.map (fun e => e.page)).Nodup →
    completes (.memRelease tag) s (fun t => t.pageMap? tag.toNat = none ∧ t.mem.free = s.mem.free ++ m.ents.map (fun e => e.page) ∧ t.rd MEM_PAGE_RESP.DONE = 1)) ∧
  (∀ (p : Fin 2) (s : State), s.isFenced (.plane 0) = false → s.isFenced (.plane 1) = false →
    completes (.planeFence p true) s (fun t => t.isFenced (.plane p) = true ∧ t.rd (if p = 0 then MEM_PLANE_STAT.P0_OK else MEM_PLANE_STAT.P1_OK) = 0 ∧ t.rd RCH_RET_STAT.PLANE_CAUSE = 1 ∧ t.rd MEM_STATUS.PLANE_FENCE = 1))

/-- The loop computation of a bell, late bells, settling, loading and trim saturation: where each completes and what then holds (R14, R15, R175,
R176, R177, R183.) LOOP_COMPUTATION of a bell not yet computed, with EN set, outside reset and RIDE-THROUGH, control powered: the bell counts as
computed and write gates are no longer blocked. CTL_LATE: the bell is given up, write gates are blocked, LATE is set and counted. TRIM_AUTO_CLOSE
of an OPEN trim loop with AUTO_CLOSE, its head loaded and settled since the profile's end, microactuator sound, both sets VALID: the loop is
CLOSED and the seek inhibition over. SEEK_TIMEOUT with SETTLED clear more than SETTLE_MAX bells after the profile's end: SEEK_TIMEOUT is set; the
first time the profile is BUSY again, the second time a reload is asked for and a LOADED actuator retracts. LOAD_FAIL after LOAD_LOCK bells of
loading with no head in LOCK: LOAD_FAIL is set and a LOADED actuator retracts. TRIM_SAT_SET after 16 bells near the stroke with no such
inhibition: the head is inhibited, TRIM_SAT and INHIBIT are set. TRIM_SAT_CLEAR after 16 bells free of it: the inhibition is over, TRIM_SAT
clear, and INHIBIT shows whether an oscillation still inhibits the head. -/
def Obligations.ControlBell : Prop :=
  (∀ (x : LaneInputs) (s : State), s.on CTL_CTRL.EN = true → s.sys.inReset = false → s.drivesOff = false → s.gated 5 = false → s.ctl.lastBell < s.bell →
    completes (.loopComputation x) s (fun t => t.ctl.lastBell = s.bell ∧ t.wrp.ctlBlock = false)) ∧
  (∀ s : State, completes .ctlLate s (fun t => t.ctl.lastBell = s.bell ∧ t.wrp.ctlBlock = true ∧ t.rd CTL_GSTATUS.LATE = 1 ∧ t.rd CTL_LANE_CNT.LATE = satU 8 (s.rd CTL_LANE_CNT.LATE + 1))) ∧
  (∀ (h : Head) (s : State), s.headLoaded h = true → s.on (CTL_CFG.AUTO_CLOSE (4 + h)) = true → s.loopState (4 + h) = 0 → (s.act (h / 6)).sinceEnd.isSome = true →
    s.rd CTL_SETTLE_CFG.SETTLE_N ≤ (s.loop (4 + h)).settleRun → bitOf (s.rd MOT_MA_FAULT.MASK) h = false → s.setsOk (4 + h) = true →
    completes (.trimAutoClose h) s (fun t => t.loopState (4 + h) = 1 ∧ (t.head h).inhSeek = false)) ∧
  (∀ (a : Act) (b : Nat) (s : State), (s.act a).sinceEnd = some b → s.rd CTL_SETTLE_CFG.SETTLE_MAX < b → s.on (CTL_STATUS.SETTLED a) = false → s.mot.reload.length = 4 →
    completes (.seekTimeout a) s (fun t => t.rd (CTL_STATUS.SEEK_TIMEOUT a) = 1 ∧ ((s.act a).timeouts = 0 → (t.act a).timeouts = 1 ∧ t.rd (PROF_STAT.BUSY a) = 1) ∧
      ((s.act a).timeouts ≠ 0 → t.mot.reload.getD a false = true ∧ (s.rd (MOT_ASTATUS.STATE a) = 3 → t.rd (MOT_ASTATUS.STATE a) = 4)))) ∧
  (∀ (a : Act) (b : Nat) (s : State), (s.act a).loadBells = some b → s.rd CTL_HO_CFG.LOAD_LOCK ≤ b → (s.headsOf a).any (fun h => s.srvState h == 2) = false →
    completes (.loadFail a) s (fun t => t.rd (CTL_STATUS.LOAD_FAIL a) = 1 ∧ (s.rd (MOT_ASTATUS.STATE a) = 3 → t.rd (MOT_ASTATUS.STATE a) = 4))) ∧
  (∀ (h : Head) (s : State), 16 ≤ (s.loop (4 + h)).satRun → (s.head h).inhSat = false → s.wrp.heads.length = 24 →
    completes (.trimSatSet h) s (fun t => (t.head h).inhSat = true ∧ t.rd (CTL_STATUS.TRIM_SAT (4 + h)) = 1 ∧ t.rd (CTL_STATUS.INHIBIT (4 + h)) = 1 ∧ t.inhibited h = true)) ∧
  (∀ (h : Head) (s : State), 16 ≤ (s.loop (4 + h)).freeRun → (s.head h).inhSat = true →
    completes (.trimSatClear h) s (fun t => (t.head h).inhSat = false ∧ t.rd (CTL_STATUS.TRIM_SAT (4 + h)) = 0 ∧ t.rd (CTL_STATUS.INHIBIT (4 + h)) = b2n (s.head h).oscTrip))

/-- Oscillation stages and the loop commands: where each completes and what then holds (R181, R182, R187, R191.) Of a present loop. OSC_STAGE_1 at
stage 0 with the count at OSC_BELLS: stage 1, OSC1 and INHIBIT set, no write gate open in the loop's scope. OSC_STAGE_2 at stage 1 with twice
that: stage 2, OSC2 set, ACTIVE_SET, live and holding copy, is SAFE_SET. OSC_STAGE_3 at stage 2 with three times that, the loop CLOSED or in
HOLD: stage 3, OSC3 set, the loop TRIPPED. OSC_COUNT_RESET after OSC_BELLS quiet bells with a count: the count is 0, the stage 0 unless it was 3,
and INHIBIT of a coarse or the spindle loop clear. By an initiator that may write: CTL_CLOSE of an OPEN loop with both sets VALID, a head in LOCK
(coarse), a sound microactuator and no seek running (trim): CLOSED; with a set not VALID: still OPEN, REFUSED set. CTL_OPEN of a CLOSED or HOLD
loop (coarse: in FACTORY or with no head loaded): OPEN, and a coarse or the spindle output is 0. CTL_RESET_OSC of a TRIPPED loop: OPEN, its stage
flags, energy and count 0. -/
def Obligations.OscillationAndLoops : Prop :=
  (∀ (n : LoopN) (s : State), s.loopPresent n = true → (s.loop n).stage = 0 → s.rd (CTL_OSC_CFG.OSC_BELLS n) ≤ (s.loop n).count → s.ctl.loops.length = 29 →
    completes (.oscStage1 n) s (fun t => (t.loop n).stage = 1 ∧ t.rd (CTL_STATUS.OSC1 n) = 1 ∧ t.rd (CTL_STATUS.INHIBIT n) = 1 ∧ ∀ h ∈ s.oscScope n, (t.head h).gate = none)) ∧
  (∀ (n : LoopN) (s : State), s.loopPresent n = true → (s.loop n).stage = 1 → 2 * s.rd (CTL_OSC_CFG.OSC_BELLS n) ≤ (s.loop n).count →
    completes (.oscStage2 n) s (fun t => (t.loop n).stage = 2 ∧ t.rd (CTL_STATUS.OSC2 n) = 1 ∧ t.rd (CTL_CFG.ACTIVE_SET n) = s.rd (CTL_CFG.SAFE_SET n) ∧
      t.rd (CTL_CFG.ACTIVE_SET n).hold = s.rd (CTL_CFG.SAFE_SET n))) ∧
  (∀ (n : LoopN) (s : State), s.loopPresent n = true → (s.loop n).stage = 2 → 3 * s.rd (CTL_OSC_CFG.OSC_BELLS n) ≤ (s.loop n).count → (s.loopState n = 1 ∨ s.loopState n = 2) →
    completes (.oscStage3 n) s (fun t => (t.loop n).stage = 3 ∧ t.rd (CTL_STATUS.OSC3 n) = 1 ∧ t.loopState n = 3)) ∧
  (∀ (n : LoopN) (s : State), s.loopPresent n = true → s.rd (CTL_OSC_CFG.OSC_BELLS n) ≤ (s.loop n).quiet → 0 < (s.loop n).count →
    completes (.oscCountReset n) s (fun t => (t.loop n).count = 0 ∧ (t.loop n).stage = (if (s.loop n).stage = 3 then 3 else 0) ∧ (n.val < 4 ∨ n.val = 28 → t.rd (CTL_STATUS.INHIBIT n) = 0))) ∧
  (∀ (w : Initiator) (n : LoopN) (s : State), s.mayWrite w = true → s.loopPresent n = true → s.loopState n = 0 → s.setsOk n = true → s.trimSeeks n = false → (n.val < 4 → (s.headsOf n).any (fun h => s.srvState h == 2) = true) →
    (4 ≤ n.val → n.val < 28 → bitOf (s.rd MOT_MA_FAULT.MASK) (n - 4) = false) →
    completes (.ctlClose w n) s (fun t => t.loopState n = 1)) ∧
  (∀ (w : Initiator) (n : LoopN) (s : State), s.mayWrite w = true → s.loopPresent n = true → s.loopState n = 0 → s.setsOk n = false →
    completes (.ctlClose w n) s (fun t => t.loopState n = 0 ∧ t.rd (CTL_STATUS.REFUSED n) = 1)) ∧
  (∀ (w : Initiator) (n : LoopN) (s : State), s.mayWrite w = true → s.loopPresent n = true → (s.loopState n = 1 ∨ s.loopState n = 2) → (n.val < 4 → s.mode = .factory ∨ (s.headsOf n).any s.headLoaded = false) →
    completes (.ctlOpen w n) s (fun t => t.loopState n = 0 ∧ (n.val < 4 ∨ n.val = 28 → t.rd (CTL_OUT.OUT n) = 0))) ∧
  (∀ (w : Initiator) (n : LoopN) (s : State), s.mayWrite w = true → s.loopPresent n = true → s.loopState n = 3 → s.ctl.loops.length = 29 →
    completes (.ctlResetOsc w n) s (fun t => t.loopState n = 0 ∧ t.rd (CTL_STATUS.OSC1 n) = 0 ∧ t.rd (CTL_STATUS.OSC2 n) = 0 ∧ t.rd (CTL_STATUS.OSC3 n) = 0 ∧ t.rd (CTL_ENERGY.E n) = 0 ∧
      (t.loop n).count = 0 ∧ (t.loop n).stage = 0))

/-- Coefficient commits and profile commands: where each completes and what then holds (R180, R181, R185, R186, R10.) By an initiator that may write.
CTL_COEF_COMMIT of an existing word other than VALID of a present OPEN or TRIPPED loop: both lanes' copies hold VALUE with the shift written, and
WORD advances with AUTO (95 to 0); of a loop CLOSED or in HOLD: the engine's state is unchanged and COEF_REFUSED is set. PROF_GO of a present
generator that is not BUSY: BUSY is set, REFUSED clear, and a profile to the target is planned (4,096 to a track; for the spindle in 2^-16 of
nominal speed); of a BUSY one: REFUSED is set and the engine's state unchanged. PROF_STOP of a profile in hand: one at rest ends where it stands;
one in motion, where the limits allow a rest, runs on to the nearest rest of those in whole bells (the model's choice, log entry 155); where they
give none, it starts from where it is with an open course (log entry 25). -/
def Obligations.CoefficientsAndProfiles : Prop :=
  (∀ (w : Initiator) (v : Word) (s : State), s.mayWrite w = true → s.loopPresent (s.rd CTL_COEF_ADDR.LOOP) = true → (s.loopState (s.rd CTL_COEF_ADDR.LOOP) = 0 ∨ s.loopState (s.rd CTL_COEF_ADDR.LOOP) = 3) →
    coefExists (s.rd CTL_COEF_ADDR.LOOP) (s.rd CTL_COEF_ADDR.SET) (s.rd CTL_COEF_ADDR.WORD) = true → s.rd CTL_COEF_ADDR.WORD ≠ 95 →
    completes (.ctlCoefCommit w v) s (fun t => t.ctl.coef.length = s.ctl.coef.length ∧
      (∀ m ∈ t.ctl.coef, sparseGet 0 m (coefKey (s.rd CTL_COEF_ADDR.LOOP) (s.rd CTL_COEF_ADDR.SET) (s.rd CTL_COEF_ADDR.WORD)) = s.rd CTL_COEF_LO.VALUE + 2 ^ 32 * (v.toNat % 32)) ∧
      t.rd CTL_COEF_ADDR.WORD = (if s.on CTL_COEF_ADDR.AUTO then (if s.rd CTL_COEF_ADDR.WORD < 95 then s.rd CTL_COEF_ADDR.WORD + 1 else 0) else s.rd CTL_COEF_ADDR.WORD))) ∧
  (∀ (w : Initiator) (v : Word) (s : State), s.mayWrite w = true → s.loopPresent (s.rd CTL_COEF_ADDR.LOOP) = true → (s.loopState (s.rd CTL_COEF_ADDR.LOOP) = 1 ∨ s.loopState (s.rd CTL_COEF_ADDR.LOOP) = 2) →
    completes (.ctlCoefCommit w v) s (fun t => t.ctl = s.ctl ∧ t.rd CTL_GSTATUS.COEF_REFUSED = 1)) ∧
  (∀ (w : Initiator) (g : Fin 5) (s : State), s.mayWrite w = true → s.profPresent g = true → s.on (PROF_STAT.BUSY g) = false → s.ctl.profs.length = 5 →
    completes (.profGo w g) s (fun t => t.rd (PROF_STAT.BUSY g) = 1 ∧ t.rd (PROF_STAT.REFUSED g) = 0 ∧ (t.ctl.profs.getD g none).map (fun p => p.dest) =
      some (if g.val < 4 then 4096 * (s.rd (PROF_TARGET.TARGET g) : Int) else ((s.rd (PROF_TARGET.TARGET 4) % 16384 * 65536 / s.sys.cfg.rpm : Nat) : Int)))) ∧
  (∀ (w : Initiator) (g : Fin 5) (s : State), s.mayWrite w = true → s.profPresent g = true → s.on (PROF_STAT.BUSY g) = true →
    completes (.profGo w g) s (fun t => t.rd (PROF_STAT.REFUSED g) = 1 ∧ t.ctl = s.ctl)) ∧
  (∀ (w : Initiator) (g : Fin 5) (p : Profile) (x : Int) (s : State), s.mayWrite w = true → s.ctl.profs.getD g none = some p → p.fine (p.t - 1) = (x, 0, 0) →
    completes (.profStop w g) s (fun t => (t.ctl.profs.getD g none).map (fun q => (q.start, q.dest, q.t)) = some (x / 65536, x / 65536, 1))) ∧
  (∀ (w : Initiator) (g : Fin 5) (p : Profile) (x v a : Int) (l : Nat × Nat) (r : StopRun) (s : State), s.mayWrite w = true → s.ctl.profs.getD g none = some p → p.fine (p.t - 1) = (x, v, a) → (v ≠ 0 ∨ a ≠ 0) →
    s.profLimits g = some l → nearestRest (stopRuns x v a l.1 l.2) = some r →
    completes (.profStop w g) s (fun t => t.ctl.profs.getD g none = some { p with start := x / 65536, dest := r.rest / 65536, run := some r, loose := false, t := 1 })) ∧
  (∀ (w : Initiator) (g : Fin 5) (p : Profile) (x v a : Int) (s : State), s.mayWrite w = true → s.ctl.profs.getD g none = some p → p.fine (p.t - 1) = (x, v, a) → (v ≠ 0 ∨ a ≠ 0) →
    (s.profLimits g).bind (fun l => nearestRest (stopRuns x v a l.1 l.2)) = none →
    completes (.profStop w g) s (fun t => (t.ctl.profs.getD g none).map (fun q => (q.start, q.run, q.loose)) = some (x / 65536, none, true)))

/-- The spindle states from START to rest, and its wiring faults: where each completes and what then holds (R207, R208, R209, R210, R211, R213,
R221.) SP_START without Anchor, RIDE-THROUGH or HALTED, loop 28 not TRIPPED (log entry 137): from OFF, or FAULT with no phase fault shown, to
SENSE; in SHORT or STOPPING START_PENDING is set; start failures and phase swaps count from 0. SP_STOP from SENSE, ALIGN, RAMP, CATCH or a
running state: START_PENDING is clear, a running spindle with a chopper goes to STOPPING, any other to SHORT, braking waits unless every actuator
is parked or fenced. SENSE_DONE in SENSE: at rest to ALIGN with RPM 0; forward to CATCH from CATCH_MIN on, below it to SHORT with START_PENDING,
RPM and FORWARD shown; reverse to SHORT with START_PENDING and REVERSE_SEEN. SPINDLE_REST in SHORT with nothing to wait for: RPM 0, START_PENDING
clear, to ALIGN if it was set, else OFF. ALIGN_DONE: ALIGN to RAMP. RAMP_END in RAMP: locked to RUN_OBS by the observer, FORWARD; locked in
reverse the first time to SHORT with PHASE_SWAP reversed, PHASE_SWAPPED and START_PENDING, again to FAULT; without lock START_FAIL, counted, to
SHORT, the third to FAULT. CATCH_ATTEMPT_END in CATCH after fewer than three attempts: the attempt is counted; locked to RUN_OBS with that speed,
the third failure to SHORT with CATCH_FAIL. PHASE_OPEN in ALIGN, RAMP, STOPPING or a running state, and PHASE_SHORT always: FAULT and its bit. -/
def Obligations.SpindleDrive : Prop :=
  (∀ s : State, s.on WCH_INST.ANCHOR = false → s.mode ≠ .rideThrough → s.mode ≠ .halted → s.loopState 28 ≠ 3 →
    (s.spState = 0 ∨ s.spState = 2 ∨ s.spState = 8 ∨ (s.spState = 9 ∧ s.on MOT_STATUS.PHASE_OPEN = false ∧ s.on MOT_STATUS.PHASE_SHORT = false)) →
    completes .spStart s (fun t => (s.spState = 0 ∨ s.spState = 9 → t.spState = 1) ∧ (s.spState = 2 ∨ s.spState = 8 → t.spState = s.spState ∧ t.rd MOT_SP_STAT.START_PENDING = 1) ∧ t.mot.startFails = 0 ∧ t.mot.swaps = 0)) ∧
  (∀ s : State, 1 ≤ s.spState → s.spState ≤ 7 → s.spState ≠ 2 →
    completes .spStop s (fun t => t.rd MOT_SP_STAT.START_PENDING = 0 ∧ t.spState = (if 6 ≤ s.spState ∧ s.mot.chopOff = false then 8 else 2) ∧ t.mot.brakeWait = !s.allParked)) ∧
  (∀ s : State, s.spState = 1 → completes (.senseDone .rest) s (fun t => t.spState = 3 ∧ t.rd MOT_SPEED.RPM = 0)) ∧
  (∀ (v : Nat) (s : State), s.spState = 1 → completes (.senseDone (.forward v)) s (fun t => t.rd MOT_SPEED.RPM = v % 65536 ∧ t.rd MOT_SP_STAT.FORWARD = 1 ∧
      (s.rd MOT_SP_CFG.CATCH_MIN * s.sys.cfg.rpm ≤ 100 * v → t.spState = 5 ∧ t.rd MOT_SP_STAT.ATTEMPTS = 0) ∧
      (100 * v < s.rd MOT_SP_CFG.CATCH_MIN * s.sys.cfg.rpm → t.spState = 2 ∧ t.rd MOT_SP_STAT.START_PENDING = 1))) ∧
  (∀ (v : Nat) (s : State), s.spState = 1 → completes (.senseDone (.reverse v)) s (fun t => t.rd MOT_SPEED.RPM = v % 65536 ∧ t.rd MOT_SPEED.REVERSE = 1 ∧ t.spState = 2 ∧
      t.rd MOT_STATUS.REVERSE_SEEN = 1 ∧ t.rd MOT_SP_STAT.START_PENDING = 1)) ∧
  (∀ s : State, s.spState = 2 → s.mot.brakeWait = false →
    completes .spindleRest s (fun t => t.rd MOT_SPEED.RPM = 0 ∧ t.rd MOT_SP_STAT.START_PENDING = 0 ∧ t.spState = (if s.on MOT_SP_STAT.START_PENDING then 3 else 0))) ∧
  (∀ s : State, s.spState = 3 → completes .alignDone s (fun t => t.spState = 4)) ∧
  (∀ s : State, s.spState = 4 → completes (.rampEnd .locked) s (fun t => t.spState = 6 ∧ t.rd MOT_SP_STAT.SOURCE = 2 ∧ t.rd MOT_SP_STAT.FORWARD = 1)) ∧
  (∀ s : State, s.spState = 4 → completes (.rampEnd .lockedReverse) s (fun t => (1 ≤ s.mot.swaps → t.spState = 9) ∧
      (s.mot.swaps = 0 → t.spState = 2 ∧ t.rd MOT_SP_CFG.PHASE_SWAP = 1 - s.rd MOT_SP_CFG.PHASE_SWAP ∧ t.rd MOT_STATUS.PHASE_SWAPPED = 1 ∧ t.rd MOT_SP_STAT.START_PENDING = 1))) ∧
  (∀ s : State, s.spState = 4 → completes (.rampEnd .noLock) s (fun t => t.mot.startFails = s.mot.startFails + 1 ∧ t.rd MOT_STATUS.START_FAIL = 1 ∧ t.spState = (if 2 ≤ s.mot.startFails then 9 else 2))) ∧
  (∀ (locked : Bool) (rpm : BitVec 16) (s : State), s.spState = 5 → s.rd MOT_SP_STAT.ATTEMPTS < 3 →
    completes (.catchAttemptEnd locked rpm) s (fun t => t.rd MOT_SP_STAT.ATTEMPTS = s.rd MOT_SP_STAT.ATTEMPTS + 1 ∧ t.rd MOT_CNT.CATCHES = satU 8 (s.rd MOT_CNT.CATCHES + 1) ∧
      (locked = true → t.spState = 6 ∧ t.rd MOT_SPEED.RPM = rpm.toNat) ∧ (locked = false → s.rd MOT_SP_STAT.ATTEMPTS = 2 → t.spState = 2 ∧ t.rd MOT_STATUS.CATCH_FAIL = 1))) ∧
  (∀ s : State, (s.spState = 3 ∨ s.spState = 4 ∨ s.spRunning = true ∨ s.spState = 8) → completes .phaseOpen s (fun t => t.spState = 9 ∧ t.rd MOT_STATUS.PHASE_OPEN = 1)) ∧
  (∀ s : State, completes .phaseShort s (fun t => t.spState = 9 ∧ t.rd MOT_STATUS.PHASE_SHORT = 1))

/-- PWM updates, the power-stage link, the converter and their faults: where each completes and what then holds (R14, R197, R198, R199, R200, R205,
R214, R219, R220, R221.) MOTOR_PWM_UPDATE outside reset, BRING-UP and HALTED: the last output is the new drive of the gates, after a half update
the last observed speed is this one, a running spindle shows the measured speed, and with every gate off spindle, VCMs and chopper are off.
PWM_LATE: the motor state is unchanged, the drive as before is output again, PWM_LATE set. ENC_OFS_LEARNED in RUN_OBS after 256 bells without an
offset: learning ends; with a spread below 1/64 turn the mean is the offset and the encoder takes over, else neither. OBS_DRIFT in RUN_ENC after
64 bells: OBS_DRIFT is set, the fallback barred. MICROACTUATOR_FRAME outside reset and HALTED: the 24 values are kept and output by lane under
the frame count, which rises. DAC_LATE: its bit. RETURN_WORD that starts with 0x5A and has its CRC: kept, no bad word in a row, and a phase flag
leads to FAULT with PHASE_SHORT; any other: counted, the words kept as before, the second in a row sets LINK_ERR. MA_FAULT of a sound head after
four frames: MASK, MA_FAULT, microactuator fenced. MOTOR_ADC_CONVERSION with power, for the input that is next: its code, age 0, and bus voltage
or VCM current as R199 gives them. BUS_TRIP: all gates off, BUS_TRIP set, HELM_BEAT stopped with cause 2. PWM_GEN_SELF_CHECK_FAIL with both
generators in service: that one is fenced and the other drives; of the last one: all gates off, HELM_BEAT stopped. PWM_GEN_DISAGREE with both in
service, not just reloaded: both reload. -/
def Obligations.MotorUpdates : Prop :=
  (∀ (half : Bool) (o : ObsMeas) (s : State), s.sys.inReset = false → s.mode ≠ .bringUp → s.mode ≠ .halted →
    completes (.motorPwmUpdate half o) s (fun t => t.out.getLast? = some (.pwm t.mot.drive) ∧ (half = true → t.mot.lastRpm = o.rpm) ∧ (s.spRunning = true → t.rd MOT_SPEED.RPM = s.measuredRpm o % 65536) ∧
      (s.mot.allOff = true → t.mot.drive.sp = .off ∧ t.mot.drive.chop = false ∧ ∀ a, a < 4 → t.mot.drive.vcm.getD a none = none))) ∧
  (∀ s : State, completes .pwmLate s (fun t => t.mot = s.mot ∧ t.rd MOT_STATUS.PWM_LATE = 1 ∧ .pwm s.mot.drive ∈ t.out)) ∧
  (∀ s : State, s.spState = 6 → 256 ≤ s.mot.learn → s.on MOT_ENC_OFS.VALID = false →
    completes .encOfsLearned s (fun t => t.mot.learn = 0 ∧ (s.mot.learnHi - s.mot.learnLo < 1024 → t.rd MOT_ENC_OFS.OFS = toBits 16 (s.mot.learnBase + s.mot.learnSum / 256) ∧ t.rd MOT_ENC_OFS.VALID = 1 ∧ t.spState = 7) ∧
      (1024 ≤ s.mot.learnHi - s.mot.learnLo → t.rd MOT_ENC_OFS.VALID = 0 ∧ t.spState = 6))) ∧
  (∀ s : State, s.spState = 7 → 64 ≤ s.mot.drift → completes .obsDrift s (fun t => t.rd MOT_STATUS.OBS_DRIFT = 1 ∧ t.mot.obsOk = false ∧ t.mot.agree = 0 ∧ t.spState = 7)) ∧
  (∀ s : State, s.sys.inReset = false → s.mode ≠ .halted →
    completes .microactuatorFrame s (fun t => t.mot.maSent = (List.range 24).map s.maValue ∧ t.mot.frameNo = (s.mot.frameNo + 1) % 64 ∧
      t.out = s.out ++ [.maFrame ([0, 1, 2, 3].map (fun a => if s.actPresent a then some (maLane a s.mot.frameNo ((List.range 24).map s.maValue)) else none))])) ∧
  (∀ s : State, completes .dacLate s (fun t => t.mot = s.mot ∧ t.rd MOT_STATUS.DAC_LATE = 1)) ∧
  (∀ (v : BitVec 112) (s : State), bitsOf v.toNat 111 104 = 0x5A → crc8 v.toNat 104 0xFF = v.toNat % 256 →
    completes (.returnWord v) s (fun t => t.mot.badWords = 0 ∧ (∀ k : Fin 4, t.rd (MOT_RET_WORD.WORD k) = v.toNat / 2 ^ (32 * k.val) % 2 ^ 32) ∧
      (bitsOf v.toNat 49 44 ≠ 0 → t.spState = 9 ∧ t.rd MOT_STATUS.PHASE_SHORT = 1))) ∧
  (∀ (v : BitVec 112) (s : State), (bitsOf v.toNat 111 104 ≠ 0x5A ∨ crc8 v.toNat 104 0xFF ≠ v.toNat % 256) →
    completes (.returnWord v) s (fun t => t.mot.badWords = s.mot.badWords + 1 ∧ t.rd MOT_CNT.RETURN_FAILS = satU 8 (s.rd MOT_CNT.RETURN_FAILS + 1) ∧
      (s.mot.badWords = 1 → t.rd MOT_STATUS.LINK_ERR = 1) ∧ ∀ k : Fin 4, t.rd (MOT_RET_WORD.WORD k) = s.rd (MOT_RET_WORD.WORD k))) ∧
  (∀ (h : Head) (s : State), s.headPresent h = true → bitOf (s.rd MOT_MA_FAULT.MASK) h = false → (4 ≤ s.mot.ocRun.getD h 0 ∨ 4 ≤ s.mot.openRun.getD h 0) →
    completes (.maFault h) s (fun t => bitOf (t.rd MOT_MA_FAULT.MASK) h = true ∧ t.rd MOT_STATUS.MA_FAULT = 1 ∧ t.isFenced (.microact h) = true)) ∧
  (∀ (sample : Bool) (code : BitVec 12) (k : Nat) (s : State), s.gated 5 = false → (s.adcNext sample).2 = k → k < 16 →
    completes (.motorAdcConversion sample code) s (fun t => t.rd (MOT_ADC.CODE k) = code.toNat ∧ t.rd (MOT_ADC.AGE k) = 0 ∧ (k = 7 → t.rd MOT_BUS.MV = (adcValue 7 code.toNat).toNat) ∧
      (8 ≤ k → k < 12 → t.rdS (MOT_MEAS.CURRENT (k - 8)) = adcValue k code.toNat))) ∧
  (∀ s : State, completes .busTrip s (fun t => t.mot.allOff = true ∧ t.rd MOT_STATUS.BUS_TRIP = 1 ∧ t.rd MOT_BEAT.RUNNING = 0 ∧ t.rd MOT_BEAT.CAUSE = 2)) ∧
  (∀ (g : Fin 2) (s : State), s.genFenced g = false → s.genFenced (1 - g.val) = false →
    completes (.pwmGenSelfCheckFail g) s (fun t => t.genFenced g = true ∧ t.isFenced (.pwmGen g) = true ∧ t.rd MOT_PWM_STAT.ACTIVE_B = 1 - g.val ∧ (s.rd MOT_PWM_STAT.ACTIVE_B = g → t.rd MOT_PWM_STAT.SWITCHED = 1))) ∧
  (∀ (g : Fin 2) (s : State), s.genFenced g = false → s.genFenced (1 - g.val) = true →
    completes (.pwmGenSelfCheckFail g) s (fun t => t.mot.allOff = true ∧ t.rd MOT_BEAT.RUNNING = 0 ∧ t.genFenced g = false)) ∧
  (∀ s : State, s.genFenced 0 = false → s.genFenced 1 = false → s.mot.reloaded = false →
    exec .pwmGenDisagree s = .next { s with mot := { s.mot with reloaded := true } })

/-- Loading, retracting and testing an actuator: where each completes and what then holds (R211, R216, R217, R218, R175.) MOT_LOAD by an initiator
that may write, of a PARKED present actuator: LOADING with the spindle running within 0.5 % of its target and POL_OK, else still PARKED.
MOT_RETRACT of a present actuator neither PARKED nor FENCED: RETRACTING. MOT_TEST by an initiator that may write, of a PARKED present one:
TESTING. VCM_TEST_END in TESTING, no repeat awaited: with half the test current reached, no overcurrent and the voltage that the current calls
for, and a back-EMF within TEST_V, it is PARKED with POL_OK; with a greater one, polarity not swapped before, it is TESTING, INV is reversed
live, POL_SWAP set and a repeat awaited; without the current, with overcurrent or without the voltage it is FENCED with TEST_FAIL.
VCM_TEST_REPEAT: the awaited repeat begins. LOAD_OFF_RAMP in LOADING with RAMP_TRAVEL passed: LOADED, its heads to count from the next bell.
LOAD_TRAVEL_TIMEOUT in LOADING with four times that passed, and RETRACT_TIMEOUT in RETRACTING: RETRACTING with RET_TIMEOUT, HELM_BEAT stopped
with cause 3. ACTUATOR_PARKED in RETRACTING: PARKED, and braking no longer waits once every other one is PARKED or FENCED; with a reload asked
for, the speed right and POL_OK: LOADING, and the request is gone. -/
def Obligations.Actuators : Prop :=
  (∀ (w : Initiator) (a : Act) (s : State), s.mayWrite w = true → s.actPresent a = true → s.actState a = 0 → s.loadSpeedOk = true → s.on (MOT_ASTATUS.POL_OK a) = true →
    completes (.motLoad w a) s (fun t => t.actState a = 2)) ∧
  (∀ (w : Initiator) (a : Act) (s : State), s.mayWrite w = true → s.actPresent a = true → s.actState a = 0 → (s.loadSpeedOk = false ∨ s.on (MOT_ASTATUS.POL_OK a) = false) →
    completes (.motLoad w a) s (fun t => t.actState a = 0)) ∧
  (∀ (a : Act) (s : State), s.actPresent a = true → s.actState a ≠ 0 → s.actState a ≠ 5 → completes (.motRetract a) s (fun t => t.actState a = 4)) ∧
  (∀ (w : Initiator) (a : Act) (s : State), s.mayWrite w = true → s.actPresent a = true → s.actState a = 0 → completes (.motTest w a) s (fun t => t.actState a = 1)) ∧
  (∀ (a : Act) (s : State), s.actState a = 1 → s.mot.waiting.getD a false = false → s.rd (MOT_VCM_TEST.TEST_I a) ≤ 2 * (s.rdS (MOT_MEAS.CURRENT a)).natAbs → s.mot.testOc.getD a false = false →
    s.rd (MOT_VCM_TEST.TEST_I a) * s.rd (MOT_VCM_CFG.VCM_RES a) ≤ 1000 * (adcValue (12 + a) (s.rd (MOT_ADC.CODE (12 + a)))).natAbs → (s.rdS (MOT_MEAS.EMF a)).natAbs ≤ s.rd (MOT_VCM_TEST.TEST_V a) →
    completes (.vcmTestEnd a) s (fun t => t.actState a = 0 ∧ t.rd (MOT_ASTATUS.POL_OK a) = 1)) ∧
  (∀ (a : Act) (s : State), s.actState a = 1 → s.mot.waiting.getD a false = false → s.rd (MOT_VCM_TEST.TEST_I a) ≤ 2 * (s.rdS (MOT_MEAS.CURRENT a)).natAbs → s.mot.testOc.getD a false = false →
    s.rd (MOT_VCM_TEST.TEST_I a) * s.rd (MOT_VCM_CFG.VCM_RES a) ≤ 1000 * (adcValue (12 + a) (s.rd (MOT_ADC.CODE (12 + a)))).natAbs → s.rd (MOT_VCM_TEST.TEST_V a) < (s.rdS (MOT_MEAS.EMF a)).natAbs → s.mot.swapped.getD a false = false → s.mot.waiting.length = 4 →
    completes (.vcmTestEnd a) s (fun t => t.actState a = 1 ∧ t.rd (MOT_VCM_CFG.INV a) = 1 - s.rd (MOT_VCM_CFG.INV a) ∧ t.rd (MOT_ASTATUS.POL_SWAP a) = 1 ∧
      t.mot.waiting.getD a false = true)) ∧
  (∀ (a : Act) (s : State), s.actState a = 1 → s.mot.waiting.getD a false = false →
    (2 * (s.rdS (MOT_MEAS.CURRENT a)).natAbs < s.rd (MOT_VCM_TEST.TEST_I a) ∨ s.mot.testOc.getD a false = true ∨ 1000 * (adcValue (12 + a) (s.rd (MOT_ADC.CODE (12 + a)))).natAbs < s.rd (MOT_VCM_TEST.TEST_I a) * s.rd (MOT_VCM_CFG.VCM_RES a)) →
    completes (.vcmTestEnd a) s (fun t => t.actState a = 5 ∧ t.rd (MOT_ASTATUS.TEST_FAIL a) = 1 ∧ t.isFenced (.vcm a) = true)) ∧
  (∀ (a : Act) (s : State), s.actState a = 1 → s.mot.waiting.getD a false = true → completes (.vcmTestRepeat a) s (fun t => t.mot.waiting.getD a false = false ∧ t.actState a = 1)) ∧
  (∀ (a : Act) (s : State), s.actState a = 2 → 1000000 * (s.rd (MOT_VCM_MOVE.RAMP_TRAVEL a) : Int) ≤ s.mot.travel.getD a 0 → s.ctl.acts.length = 4 →
    completes (.loadOffRamp a) s (fun t => t.actState a = 3 ∧ (t.act a).loadPend = true ∧ (t.act a).loadBells = some 0)) ∧
  (∀ (a : Act) (s : State), s.actState a = 2 → 4000000 * (s.rd (MOT_VCM_MOVE.RAMP_TRAVEL a) : Int) ≤ s.mot.travel.getD a 0 →
    completes (.loadTravelTimeout a) s (fun t => t.actState a = 4 ∧ t.rd (MOT_ASTATUS.RET_TIMEOUT a) = 1 ∧ t.rd MOT_BEAT.RUNNING = 0 ∧ t.rd MOT_BEAT.CAUSE = 3)) ∧
  (∀ (a : Act) (s : State), s.actState a = 4 → completes (.retractTimeout a) s (fun t => t.actState a = 4 ∧ t.rd (MOT_ASTATUS.RET_TIMEOUT a) = 1 ∧ t.rd MOT_BEAT.RUNNING = 0 ∧ t.rd MOT_BEAT.CAUSE = 3)) ∧
  (∀ (a : Act) (s : State), s.actState a = 4 → s.mot.reload.getD a false = false →
    completes (.actuatorParked a) s (fun t => t.actState a = 0 ∧ ((∀ b ∈ s.allActs, b = a.val ∨ s.actState b = 0 ∨ s.actState b = 5) → t.mot.brakeWait = false))) ∧
  (∀ (a : Act) (s : State), s.actState a = 4 → s.mot.reload.getD a false = true → s.loadSpeedOk = true → s.on (MOT_ASTATUS.POL_OK a) = true →
    completes (.actuatorParked a) s (fun t => t.actState a = 2 ∧ t.mot.reload.getD a false = false))

/-- Cache requests, fills, write-backs and the drain: where each completes and what then holds (R246, R250, R251, R252, R253, R254, R258.)
CACHE_REQUEST inside one line, nothing answered out of turn: a read of an unmapped line sets ACCESS_ERR and its error answer (all ones) is the
last output. Of a mapped line with the cache in service, no request or write waiting and no injection armed: a read that hits, no stored bit
inverted, is counted, marks an unlocked way referenced and is answered with the way's bytes and poison; a write that hits is counted, leaves the
way DIRTY with the bytes given and is answered; a read that misses, no miss or victim outstanding, no drain, an empty way in the set, is counted,
takes a miss register with its place and length, and waits its turn. CACHE_FILL_RETURN of the oldest complete miss that is no bypass, no
maintenance or drain: its register is free, its way valid, with the line's tag and lock, DIRTY if a write was merged. VICTIM_WRITEBACK_DONE at
the last copy of a whole line, no maintenance or drain: the write is gone, its victim entry free, the channel holds its bytes. CACHE_WAIT_RESUME
of the one waiting request when it can be served: it is served and no longer waits. CACHE_DRAIN_DONE of a drain with nothing outstanding and no
way held: the drain is over, DRAINED set, LOCKED 0. -/
def Obligations.CacheRequests : Prop :=
  (∀ (port : Fin 16) (chan : Byte) (addr : BitVec 36) (len : Nat) (stream : Bool) (s : State), dramBase ≤ addr.toNat → 0 < len → (addr.toNat - dramBase) % 128 + len ≤ 128 →
    s.lineMapped ((addr.toNat - dramBase) / 128) = false → s.dram.order = [] →
    completes (.cacheRequest port chan addr len none stream) s (fun t => t.rd MEM_STATUS.ACCESS_ERR = 1 ∧ t.out.getLast? = some (.cacheResp port (List.replicate len 0xFF) [] true))) ∧
  (∀ (port : Fin 16) (chan : Byte) (addr : BitVec 36) (len k : Nat) (stream : Bool) (s : State), dramBase ≤ addr.toNat → 0 < len → (addr.toNat - dramBase) % 128 + len ≤ 128 →
    s.lineMapped ((addr.toNat - dramBase) / 128) = true → s.dram.order = [] → s.dram.waitQ = [] → s.dram.writes = [] → s.on BCC_CTRL.EN = true → s.watch.armed = none → s.mem.flips = [] →
    s.findWay ((addr.toNat - dramBase) / 128) = some k → (s.wayData k).2 = (false, false) →
    completes (.cacheRequest port chan addr len none stream) s (fun t => t.rd BCC_HIT_CNT.CNT = satU 32 (s.rd BCC_HIT_CNT.CNT + 1) ∧ (t.way k).ref = ((s.way k).ref || !(s.way k).lock) ∧
      t.out = s.out ++ [.cacheResp port (lineResp (s.wayData k).1 (s.way k).poison ((addr.toNat - dramBase) % 128) len).data (lineResp (s.wayData k).1 (s.way k).poison ((addr.toNat - dramBase) % 128) len).ue false])) ∧
  (∀ (port : Fin 16) (chan : Byte) (addr : BitVec 36) (len k : Nat) (bs : List (Option Byte)) (stream : Bool) (s : State), dramBase ≤ addr.toNat → bs ≠ [] → (addr.toNat - dramBase) % 128 + bs.length ≤ 128 →
    s.lineMapped ((addr.toNat - dramBase) / 128) = true → s.dram.order = [] → s.dram.waitQ = [] → s.dram.writes = [] → s.on BCC_CTRL.EN = true → s.watch.armed = none →
    s.findWay ((addr.toNat - dramBase) / 128) = some k →
    completes (.cacheRequest port chan addr len (some bs) stream) s (fun t => t.rd BCC_HIT_CNT.CNT = satU 32 (s.rd BCC_HIT_CNT.CNT + 1) ∧ (t.way k).dirty = true ∧
      t.out = s.out ++ [.cacheResp port [] [] false] ∧ ∀ i < bs.length, ∀ b, bs.getD i none = some b → t.mem.cell (s.wayCell k + (addr.toNat - dramBase) % 128 + i) = (b, checkBits b))) ∧
  (∀ (port : Fin 16) (chan : Byte) (addr : BitVec 36) (len : Nat) (stream : Bool) (s : State), dramBase ≤ addr.toNat → 0 < len → (addr.toNat - dramBase) % 128 + len ≤ 128 →
    s.lineMapped ((addr.toNat - dramBase) / 128) = true → s.dram.waitQ = [] → s.dram.writes = [] → s.on BCC_CTRL.EN = true → s.dram.draining = false → s.watch.armed = none →
    s.findWay ((addr.toNat - dramBase) / 128) = none → s.dram.miss = [] → s.dram.victims = [] →
    (∃ k ∈ s.setWays ((addr.toNat - dramBase) / 128), (s.way k).valid = false ∧ (s.way k).lock = false ∧ (s.way k).reserved = false) →
    completes (.cacheRequest port chan addr len none stream) s (fun t => t.rd BCC_MISS_CNT.CNT = satU 32 (s.rd BCC_MISS_CNT.CNT + 1) ∧
      t.dram.miss.map (fun m => (m.line, m.reqs.map (fun q => (q.id, q.port, q.ofs, q.len)), m.bypass)) =
        [((addr.toNat - dramBase) / 128, [(s.dram.nextId, port.val, (addr.toNat - dramBase) % 128, len)], false)] ∧
      t.dram.order = s.dram.order ++ [{ id := s.dram.nextId, port := port.val, ans := none }])) ∧
  (∀ (m : CMiss) (s : State), s.dram.miss.find? (fun m => m.half0.isSome && m.half1.isSome) = some m → m.bypass = false → s.dram.maint = none → s.dram.draining = false →
    completes .cacheFillReturn s (fun t => m ∉ t.dram.miss ∧ (t.way m.way).valid = true ∧ (t.way m.way).reserved = false ∧ (t.way m.way).lock = m.lock ∧ (t.way m.way).tag = m.line / s.cacheSets ∧
      (t.way m.way).dirty = m.reqs.any (fun q => q.write.isSome))) ∧
  (∀ (c : Fin 2) (i ofs : Nat) (w : DWrite) (bs : List Byte) (s : State), s.dram.writes.findIdx? (fun w => w.pend.any (fun q => q.1 == c.val) && w.isVictim) = some i → s.dram.writes[i]? = some w →
    w.pend = [(c.val, ofs)] → w.data = bs.map some → bs.length = 128 → s.dram.draining = false → s.dram.maint = none → s.dram.ch.length = 2 →
    completes (.victimWritebackDone c) s (fun t => t.dram.writes = s.dram.writes.eraseIdx i ∧ t.dram.victims.length = s.dram.victims.length - (if s.dram.victims.any (fun v => w.why == .victim v.line) then 1 else 0) ∧
      (t.ddr c).read ofs 128 = bs)) ∧
  (∀ (q : CReq) (u s : State), s.dram.waitQ = [q] → s.serve q = (u, .taken) → completes .cacheWaitResume s (fun t => t.dram.waitQ = [] ∧ t = { u with dram := { u.dram with waitQ := [] } })) ∧
  (∀ s : State, s.dram.draining = true → s.dram.miss = [] → s.dram.writes = [] → s.dram.ways = [] →
    completes .cacheDrainDone s (fun t => t.dram.draining = false ∧ t.rd BCC_STATUS.DRAINED = 1 ∧ t.rd BCC_OCC.LOCKED = 0))

/-- The cache maintenance operations on one line, and over all: where each completes and what then holds (R256, R257, R270.) By an initiator that may
write, no operation or drain in progress, on one mapped line that a way holds and no miss is outstanding for. CLEAN of a dirty line: valid,
clean, WRITTEN 1. INVALIDATE: the way holds no line, its lock is kept, DIRTY_LOST and LOCKED_HIT show what it was, DONE, not BUSY. CLEAN_INV: the
same with WRITTEN for what was dirty. LOCK_FILL and ZERO with no write-back of the line outstanding: LOCK_FILL leaves it valid, locked if it was
or fewer than LOCK_MAX ways of the set were, else unlocked with LOCK_SKIP 1 (log entry 134); ZERO leaves it valid, dirty, without poison, 128
zero bytes; both DONE, not BUSY; with one outstanding ZERO stays BUSY and waits with the line. UNLOCK: unlocked, still valid, its reference bit
clear if it was locked, DONE. OP shows the operation for CLEAN, INVALIDATE, CLEAN_INV and LOCK_FILL. LOCK_FILL and ZERO over all lines: REFUSED
is set and cache and DRAM are unchanged. INVALIDATE over all with no miss outstanding: every way that is not reserved holds no line, DONE, not
BUSY. -/
def Obligations.CacheMaintenance : Prop :=
  (∀ (w : Initiator) (line k : Nat) (s : State), s.oneLine w line k = true → (s.way k).dirty = true →
    completes (.bccClean w false) s (fun t => (t.way k).valid = true ∧ (t.way k).dirty = false ∧ t.rd BCC_MAINT_RESP2.WRITTEN = 1 ∧ t.rd BCC_MAINT_CMD.OP = 0)) ∧
  (∀ (w : Initiator) (line k : Nat) (s : State), s.oneLine w line k = true →
    completes (.bccInvalidate w false) s (fun t => (t.way k).valid = false ∧ (t.way k).lock = (s.way k).lock ∧ t.rd BCC_MAINT_RESP.DIRTY_LOST = b2n (s.way k).dirty ∧
      t.rd BCC_MAINT_RESP.LOCKED_HIT = b2n (s.way k).lock ∧ t.rd BCC_STATUS.BUSY = 0 ∧ t.rd BCC_STATUS.DONE = 1 ∧ t.rd BCC_MAINT_CMD.OP = 1)) ∧
  (∀ (w : Initiator) (line k : Nat) (s : State), s.oneLine w line k = true →
    completes (.bccCleanInv w false) s (fun t => (t.way k).valid = false ∧ (t.way k).lock = (s.way k).lock ∧ t.rd BCC_MAINT_RESP2.WRITTEN = b2n (s.way k).dirty ∧
      t.rd BCC_MAINT_RESP.LOCKED_HIT = b2n (s.way k).lock ∧ t.rd BCC_MAINT_CMD.OP = 2)) ∧
  (∀ (w : Initiator) (line k : Nat) (s : State), s.oneLine w line k = true → s.dram.victims.any (fun v => v.line == line) = false →
    completes (.bccLockFill w false) s (fun t => (t.way k).valid = true ∧ t.rd BCC_STATUS.BUSY = 0 ∧ t.rd BCC_STATUS.DONE = 1 ∧ t.rd BCC_MAINT_CMD.OP = 3 ∧
      (if (s.way k).lock = true ∨ (s.lockedWays line).length < s.rd BCC_CTRL.LOCK_MAX then (t.way k).lock = true ∧ t.rd BCC_MAINT_RESP2.LOCK_SKIP = 0
       else (t.way k).lock = false ∧ t.rd BCC_MAINT_RESP2.LOCK_SKIP = 1))) ∧
  (∀ (w : Initiator) (line k : Nat) (s : State), s.oneLine w line k = true →
    completes (.bccUnlock w false) s (fun t => (t.way k).lock = false ∧ (t.way k).valid = true ∧ ((s.way k).lock = true → (t.way k).ref = false) ∧ t.rd BCC_STATUS.BUSY = 0 ∧ t.rd BCC_STATUS.DONE = 1)) ∧
  (∀ (w : Initiator) (line k : Nat) (s : State), s.oneLine w line k = true → s.dram.victims.any (fun v => v.line == line) = false →
    completes (.bccZero w false) s (fun t => (t.way k).dirty = true ∧ (t.way k).valid = true ∧ (t.way k).poison = (false, false) ∧
      (t.mem.readCells (s.wayCell k) 128).1 = List.replicate 128 0 ∧ t.rd BCC_STATUS.BUSY = 0 ∧ t.rd BCC_STATUS.DONE = 1)) ∧
  (∀ (w : Initiator) (line k : Nat) (s : State), s.oneLine w line k = true → s.dram.victims.any (fun v => v.line == line) = true →
    completes (.bccZero w false) s (fun t => t.rd BCC_STATUS.BUSY = 1 ∧ t.dram.maint.map (fun m => (m.op, m.deferred)) = some (5, [line]) ∧ t.way k = s.way k)) ∧
  (∀ (w : Initiator) (s : State), s.mayWrite w = true →
    completes (.bccLockFill w true) s (fun t => t.rd BCC_STATUS.REFUSED = 1 ∧ t.dram = s.dram) ∧ completes (.bccZero w true) s (fun t => t.rd BCC_STATUS.REFUSED = 1 ∧ t.dram = s.dram)) ∧
  (∀ (w : Initiator) (s : State), s.mayWrite w = true → s.on BCC_STATUS.BUSY = false → s.dram.draining = false → s.dram.miss = [] →
    completes (.bccInvalidate w true) s (fun t => (∀ e ∈ s.dram.ways, (s.way e.1).reserved = false → (t.way e.1).valid = false) ∧ t.rd BCC_STATUS.BUSY = 0 ∧ t.rd BCC_STATUS.DONE = 1))

/-- The DRAM channels: reads, writes, CRC alerts, refresh, patrol and fencing: where each completes and what then holds (R246, R262, R263, R264,
R265, R266, R269.) DDR_READ_COMPLETE of a channel's oldest read, no upset and no injection armed: a good burst leaves the queue and the miss that
waits for it has the 64 bytes, good; an uncorrectable one on the line's only copy leaves it too, sets UE, counts it, and the miss has the half as
uncorrectable. DDR_WRITE_COMPLETE at the last copy of a whole line that is no victim, no drain: the write is gone and the channel holds its
bytes. DDR_WRITE_CRC_ALERT: WCRC is set; a write tried fewer than three times has one more try, else the channel is fenced. DDR_REFRESH of a
trained channel in service, not in self-refresh: one more refresh is output and no register changes. PATROL_READ with PATROL_HOURS not 0, of a
present trained channel in service: the patrol moves to the next burst, at the end to the first with the device counts cleared. DDR_FENCE_CMD:
each present channel of the mask shows FENCED, and is fenced if it was not. -/
def Obligations.DramChannels : Prop :=
  (∀ (c : Fin 2) (r : DRead) (rest : List DRead) (s : State), popFirst (fun r => r.ch == c.val) s.dram.reads = some (r, rest) → s.watch.armed = none →
    burstResult ((s.ddr c).burst r.ofs) (s.markOf c (s.rankOf r.ofs)) = 0 →
    completes (.ddrReadComplete c []) s (fun t => t.dram.reads = rest ∧
      ∀ m ∈ t.dram.miss, m.line = r.line → m.bypass = r.bypass → (if r.half = 0 then m.half0 else m.half1) = some ((s.ddr c).read r.ofs 64, 0))) ∧
  (∀ (c : Fin 2) (r : DRead) (rest : List DRead) (s : State), popFirst (fun r => r.ch == c.val) s.dram.reads = some (r, rest) → s.watch.armed = none →
    burstResult ((s.ddr c).burst r.ofs) (s.markOf c (s.rankOf r.ofs)) = 1 → s.linePlace r.line = [(c.val, r.ofs - 64 * r.half)] →
    completes (.ddrReadComplete c []) s (fun t => t.rd (DDR_STATUS.UE c) = 1 ∧ t.rd (DDR_ERR_CNT.UE c) = satU 16 (s.rd (DDR_ERR_CNT.UE c) + 1) ∧ t.dram.reads = rest ∧
      ∀ m ∈ t.dram.miss, m.line = r.line → m.bypass = r.bypass → (if r.half = 0 then m.half0 else m.half1) = some ((s.ddr c).read r.ofs 64, 1))) ∧
  (∀ (c : Fin 2) (i ofs : Nat) (w : DWrite) (bs : List Byte) (s : State), s.dram.writes.findIdx? (fun w => w.pend.any (fun q => q.1 == c.val) && (!w.isVictim || decide (2 ≤ w.pend.length))) = some i → s.dram.writes[i]? = some w →
    w.pend = [(c.val, ofs)] → w.data = bs.map some → bs.length = 128 → s.dram.draining = false → s.dram.ch.length = 2 →
    completes (.ddrWriteComplete c) s (fun t => t.dram.writes = s.dram.writes.eraseIdx i ∧ (t.ddr c).read ofs 128 = bs)) ∧
  (∀ (c : Fin 2) (i : Nat) (w : DWrite) (s : State), s.dram.writes.findIdx? (fun w => w.pend.any (fun q => q.1 == c.val)) = some i → s.dram.writes[i]? = some w →
    completes (.ddrWriteCrcAlert c) s (fun t => t.rd (DDR_STATUS.WCRC c) = 1 ∧ (w.tries < 3 → t.dram.writes[i]? = some { w with tries := w.tries + 1 }) ∧ (3 ≤ w.tries → t.rd (DDR_STATUS.FENCED c) = 1))) ∧
  (∀ (c : Fin 2) (s : State), (s.ddr c).trained = true → s.ddrFenced c = false → s.on (DDR_STATUS.SELF_REFRESH c) = false →
    completes (.ddrRefresh c) s (fun t => t.out = s.out ++ [.ddrRefresh c] ∧ t.regs = s.regs)) ∧
  (∀ (c : Fin 2) (l : List (Nat × Nat)) (s : State), s.rd DDR_PATROL_CFG.PATROL_HOURS ≠ 0 → s.dramPresent c = true → s.ddrFenced c = false → (s.ddr c).trained = true →
    completes (.patrolRead c l) s (fun t => (t.ddr c).patrol = (if s.dramCap ≤ 64 * (s.ddr c).patrol + 64 then 0 else (s.ddr c).patrol + 1) ∧ (s.dramCap ≤ 64 * (s.ddr c).patrol + 64 → (t.ddr c).devCnt = []))) ∧
  (∀ (mask : BitVec 2) (s : State), completes (.ddrFenceCmd mask) s (fun t => ∀ c : Fin 2, bitOf mask.toNat c = true → s.dramPresent c = true → t.rd (DDR_STATUS.FENCED c) = 1 ∧ (s.ddrFenced c = false → t.isFenced (.dram c) = true)))

/-- Lighter records: arming, stopping, bursts, responses, flush reads and completion timeouts: where each completes and what then holds (R272, R273,
R275, R277, R278, R279, R280, R281, R308.) LGT_ARM by an initiator that may write, ARM clear, the channel not fenced: with EN set, 64 channels,
no record, FAR_KIND not 2 and a shadow that does not fail its checks, the shadow is the channel's record, ARM 0, BUSY 1, COUNT the shadow's; with
a record active, or EN clear, the Lighter is unchanged and ARM is 1; with ARM already set SH_REFUSED is set and the Lighter unchanged. LGT_STOP
with no active record: STOPPED 1, ARM 0, the records as they were; with one record, not BAD, bursts outstanding: it is marked stopped, ARM 0,
BUSY 1. LGT_BURST_ISSUE, no active record of kind 2, no injection armed, when the pick falls on a channel: LINES shows the lines, the channel is
the one served last, its record has one more burst, from what was issued, of the record's burst length. LGT_BURST_RESPONSE that its data reached
the buffer, for the one, unanswered, sound burst of a read from the host not wholly issued: the burst is gone, WROTE is its end, the byte count
grows by its length mod 1024; a failed answer of a write to the host with no command or transfer and ARM clear ends the record: BAD, CAUSE 3,
END_OFFSET the burst's place, BUSY 0. LGT_FLUSH_READ_DONE of such a read, wholly issued and answered: the record ends, DONE with END_OFFSET its
COUNT when good, BAD, CAUSE 6 and END_OFFSET 0 when not. HOST_COMPLETION_TIMEOUT of that flush read, timeouts enabled: the record ends the second
way and the timeout is reported to the host. -/
def Obligations.LighterRecords : Prop :=
  (∀ (w : Initiator) (n : Lgt) (s : State), s.mayWrite w = true → s.on (LGT_S_ATTR.ARM n) = false → s.isFenced (.lgt n) = false → s.on (LGT_CTRL.EN n) = true → s.lgt.chans.length = 64 →
    (s.lgtCh n).recs = [] → s.rd (LGT_S_ATTR.FAR_KIND n) ≠ 2 → s.promoteFails n (s.shadowRec n) = false →
    completes (.lgtArm w n) s (fun t => (t.lgtCh n).recs = [s.shadowRec n] ∧ t.rd (LGT_S_ATTR.ARM n) = 0 ∧ t.rd (LGT_CTRL.BUSY n) = 1 ∧ t.rd (LGT_A_COUNT.COUNT n) = s.rd (LGT_S_COUNT.COUNT n))) ∧
  (∀ (w : Initiator) (n : Lgt) (s : State), s.mayWrite w = true → s.on (LGT_S_ATTR.ARM n) = false → s.isFenced (.lgt n) = false → ((s.activeRec n).isSome = true ∨ s.on (LGT_CTRL.EN n) = false) →
    completes (.lgtArm w n) s (fun t => t.lgt = s.lgt ∧ t.rd (LGT_S_ATTR.ARM n) = 1)) ∧
  (∀ (w : Initiator) (n : Lgt) (s : State), s.mayWrite w = true → s.on (LGT_S_ATTR.ARM n) = true → completes (.lgtArm w n) s (fun t => t.lgt = s.lgt ∧ t.rd (LGT_STATUS.SH_REFUSED n) = 1)) ∧
  (∀ (n : Lgt) (s : State), s.activeRec n = none → completes (.lgtStop n) s (fun t => t.rd (LGT_STATUS.STOPPED n) = 1 ∧ t.rd (LGT_S_ATTR.ARM n) = 0 ∧ (t.lgtCh n).recs = (s.lgtCh n).recs)) ∧
  (∀ (n : Lgt) (r : LRec) (s : State), (s.lgtCh n).recs = [r] → r.bad = none → r.bursts ≠ [] →
    completes (.lgtStop n) s (fun t => (t.lgtCh n).recs = [{ r with stopped := true }] ∧ t.rd (LGT_S_ATTR.ARM n) = 0 ∧ t.rd (LGT_CTRL.BUSY n) = 1)) ∧
  (∀ (lines : BitVec 16) (n : Nat) (aged : Bool) (r : LRec) (s : State), (∀ m ∈ List.range 64, (s.activeRec m).all (fun q => q.kind != 2) = true) → s.lgtPick lines.toNat = some (n, aged) → s.activeRec n = some r →
    s.watch.armed = none → completes (.lgtBurstIssue lines) s (fun t => t.rd LGT_PREQ.LINES = lines.toNat ∧ t.lgt.prev = some n ∧
      (t.activeRec n).map (fun q => (q.issued, q.bursts.map (fun b => (b.ofs, b.len)))) = some (r.issued + s.burstLen r, r.bursts.map (fun b => (b.ofs, b.len)) ++ [(r.issued, s.burstLen r)]))) ∧
  (∀ (n : Lgt) (r : LRec) (b : LBurst) (s : State), (s.lgtCh n).recs = [r] → r.kind = 0 → r.dir = 0 → r.bad = none → r.stopped = false → r.issued ≠ r.count → r.bursts = [b] → b.answered = false → b.fail = 0 →
    completes (.lgtBurstResponse n 0 .buffer) s (fun t => (t.lgtCh n).recs = [{ r with bursts := [], wrote := b.ofs + b.len }] ∧ t.lgt.bytes = (s.lgt.bytes + b.len) % 1024)) ∧
  (∀ (n : Lgt) (r : LRec) (b : LBurst) (s : State), (s.lgtCh n).recs = [r] → r.kind = 0 → r.dir = 1 → r.bad = none → r.bursts = [b] → b.answered = false → r.cmd = none → r.xfer = none → s.on (LGT_S_ATTR.ARM n) = false →
    completes (.lgtBurstResponse n 0 .failed) s (fun t => (t.lgtCh n).recs = [] ∧ t.rd (LGT_STATUS.BAD n) = 1 ∧ t.rd (LGT_STATUS.CAUSE n) = 3 ∧ t.rd (LGT_STATUS.END_OFFSET n) = b.ofs % 2 ^ 24 ∧ t.rd (LGT_CTRL.BUSY n) = 0)) ∧
  (∀ (n : Lgt) (r : LRec) (ok : Bool) (s : State), (s.lgtCh n).recs = [r] → r.kind = 0 → r.dir = 0 → r.bad = none → r.stopped = false → r.issued = r.count → r.bursts = [] → r.flush = true → r.flushed = false → r.cmd = none → r.xfer = none →
    s.on (LGT_S_ATTR.ARM n) = false →
    completes (.lgtFlushReadDone n ok) s (fun t => (t.lgtCh n).recs = [] ∧ (ok = true → t.rd (LGT_STATUS.DONE n) = 1 ∧ t.rd (LGT_STATUS.END_OFFSET n) = r.count % 2 ^ 24) ∧
      (ok = false → t.rd (LGT_STATUS.BAD n) = 1 ∧ t.rd (LGT_STATUS.CAUSE n) = 6 ∧ t.rd (LGT_STATUS.END_OFFSET n) = 0))) ∧
  (∀ (n : Lgt) (r : LRec) (s : State), s.ctoDisabled = false → (s.lgtCh n).recs = [r] → r.kind = 0 → r.dir = 0 → r.bad = none → r.stopped = false → r.issued = r.count → r.bursts = [] → r.flush = true → r.flushed = false → r.cmd = none → r.xfer = none →
    s.on (LGT_S_ATTR.ARM n) = false →
    completes (.hostCompletionTimeout n none) s (fun t => (t.lgtCh n).recs = [] ∧ .aerTimeout ∈ t.out ∧ t.rd (LGT_STATUS.BAD n) = 1 ∧ t.rd (LGT_STATUS.CAUSE n) = 6 ∧ t.rd (LGT_STATUS.END_OFFSET n) = 0))

/-- Pack jobs, keys and results: where each completes and what then holds (R286, R287, R290, R292, R294, R297, R300, R302, R303.) PCK_JOB_GO by an
initiator that may write: GO reads 0; with room in the queue and OP not 3 the descriptor's job is in it by priority; with the queue of 64 full
Pack is unchanged and QUEUE_FULL is set; OP 3 leaves Pack unchanged. PACK_JOB_START in a running chip with the engine powered, instance 0 in
service and idle: the head of the queue is its job, out of the queue, BUSY 1. PACK_ENCODER_RESUME of a stalled job keeps job, code and drop, and
STALL shows whether a PACK job stalls again. PACK_INPUT_RESUME of a job not stalled takes the VALID input pages. PACK_JOB_END of a firmware job
dropped or refused: its instance is free, one result more with its token, code (11 when dropped) and OUT_LEN 0, RES_READY 1, BUSY 0; of a CHECK
job with all its input, no uncorrectable word, no injection armed: one result more with the code, OUT_LEN and error position of unpacking the
bytes read. PCK_KEY_DATA_WRITE with fewer than 16 words held adds the word, nothing else. PCK_KEY_LOAD by one that may write: 16 words with
unequal halves into an EMPTY slot load it, KEY_DONE; other than 16 words, or a slot not EMPTY: KEY_REFUSED, the slots as they were; both empty
the key words. PCK_KEY_ERASE: an EMPTY slot stays so, KEY_DONE; a loaded one is being erased; the key words are empty. KEY_ZEROIZE of such a slot
that no job has bound: EMPTY, KEY_DONE. PCK_RES_POP: the top word of the result in view is read out, the oldest result is gone. -/
def Obligations.PackJobs : Prop :=
  (∀ (w : Initiator) (d : Nat) (s : State), s.mayWrite w = true → d = (List.range 8).foldl (fun a i => a + 2 ^ (32 * i) * s.rd (PCK_JOB.DESC i)) 0 →
    completes (.pckJobGo w) s (fun t => t.rd PCK_JOB_GO.GO = 0 ∧ (bitsOf d 1 0 ≠ 3 → s.pack.queue.length < 64 → t.pack.queue = insertJob (PJob.ofDesc d true) s.pack.queue) ∧
      (bitsOf d 1 0 ≠ 3 → 64 ≤ s.pack.queue.length → t.pack = s.pack ∧ t.rd PCK_STATUS.QUEUE_FULL = 1) ∧ (bitsOf d 1 0 = 3 → t.pack = s.pack))) ∧
  (∀ (stall : Bool) (j : PJob) (q : List PJob) (s : State), s.running = true → s.gated 1 = false → s.packInService 0 = true → s.prun 0 = none → s.pack.runs.length = 2 → s.pack.queue = j :: q →
    completes (.packJobStart stall) s (fun t => t.pack.queue = q ∧ (t.prun 0).map (fun r => r.job) = some j ∧ t.rd (PCK_ISTATUS.BUSY 0) = 1)) ∧
  (∀ (p : Fin 2) (stall : Bool) (r : PRun) (s : State), s.prun p = some r → s.on (PCK_ISTATUS.STALL p) = true →
    completes (.packEncoderResume p stall) s (fun t => (t.prun p).map (fun x => (x.job, x.code, x.drop)) = some (r.job, r.code, r.drop) ∧ t.rd (PCK_ISTATUS.STALL p) = b2n (stall && r.job.op == 0 && r.code.isNone))) ∧
  (∀ (p : Fin 2) (stall : Bool) (r : PRun) (s : State), s.prun p = some r → s.on (PCK_ISTATUS.STALL p) = false →
    completes (.packInputResume p stall) s (fun t => (t.prun p).map (fun x => (x.job, x.taken)) = some (r.job, s.takePages r.job r.job.inPages r.taken))) ∧
  (∀ (p : Fin 2) (r : PRun) (s : State), s.prun p = some r → r.job.fw = true → (r.drop = true ∨ r.code.isSome = true) →
    completes (.packJobEnd p) s (fun t => t.prun p = none ∧ t.pack.results = s.pack.results ++ [{ token := r.job.token, code := if r.drop then 11 else r.code.getD 0, inst := p, restarted := r.job.restarted, outLen := 0, errPos := 0, granules := 0 }] ∧
      t.rd PCK_STATUS.RES_READY = 1 ∧ t.rd (PCK_ISTATUS.BUSY p) = 0)) ∧
  (∀ (p : Fin 2) (r : PRun) (s : State), s.prun p = some r → r.job.fw = true → r.drop = false → r.code = none → s.on (PCK_ISTATUS.STALL p) = false → r.job.inPages ≤ r.taken → r.job.op = 2 →
    (s.readMap p r.job.inTag (r.job.inPages + 1) r.job.inOfs r.job.inLen).1.watch.armed = none →
    (s.readMap p r.job.inTag (r.job.inPages + 1) r.job.inOfs r.job.inLen).2.2 = false →
    completes (.packJobEnd p) s (fun t => t.prun p = none ∧ t.pack.results.map (fun x => (x.token, x.code, x.outLen, x.errPos)) = s.pack.results.map (fun x => (x.token, x.code, x.outLen, x.errPos)) ++
      [(r.job.token, (unpackData r.job r.key 0 (s.readMap p r.job.inTag (r.job.inPages + 1) r.job.inOfs r.job.inLen).2.1).code, (unpackData r.job r.key 0 (s.readMap p r.job.inTag (r.job.inPages + 1) r.job.inOfs r.job.inLen).2.1).outLen,
        (unpackData r.job r.key 0 (s.readMap p r.job.inTag (r.job.inPages + 1) r.job.inOfs r.job.inLen).2.1).errPos)])) ∧
  (∀ (v : Word) (s : State), s.pack.keyData.length < 16 → exec (.pckKeyDataWrite v) s = .next { s with pack := { s.pack with keyData := s.pack.keyData ++ [v] } }) ∧
  (∀ (w : Initiator) (slot : Fin 64) (s : State), s.mayWrite w = true → s.pack.keys.length = 64 → s.pack.keyData.length = 16 → (s.keySlot slot).state = 0 →
    (s.pack.keyData.flatMap (fun v => leBytes 4 v.toNat)).take 32 ≠ (s.pack.keyData.flatMap (fun v => leBytes 4 v.toNat)).drop 32 →
    completes (.pckKeyLoad w slot) s (fun t => t.keySlot slot = { state := 1, key := s.pack.keyData.flatMap (fun v => leBytes 4 v.toNat) } ∧ t.pack.keyData = [] ∧ t.rd PCK_STATUS.KEY_DONE = 1)) ∧
  (∀ (w : Initiator) (slot : Fin 64) (s : State), s.mayWrite w = true → (s.pack.keyData.length ≠ 16 ∨ (s.keySlot slot).state ≠ 0) →
    completes (.pckKeyLoad w slot) s (fun t => t.pack.keys = s.pack.keys ∧ t.pack.keyData = [] ∧ t.rd PCK_STATUS.KEY_REFUSED = 1)) ∧
  (∀ (slot : Fin 64) (s : State), (s.keySlot slot).state ≤ 1 → completes (.pckKeyErase slot) s (fun t => t.pack.keyData = [] ∧ ((s.keySlot slot).state = 1 → (t.keySlot slot).state = 2) ∧
      ((s.keySlot slot).state = 0 → (t.keySlot slot).state = 0 ∧ t.rd PCK_STATUS.KEY_DONE = 1))) ∧
  (∀ (slot : Fin 64) (s : State), (s.keySlot slot).state = 2 → s.keyBound slot = false → completes (.keyZeroize slot) s (fun t => t.keySlot slot = KeySlot.empty ∧ t.rd PCK_STATUS.KEY_DONE = 1)) ∧
  (∀ s : State, completes .pckResPop s (fun t => t.out = s.out ++ [.regRead (BitVec.ofNat 32 (s.packResView / 2 ^ 96))] ∧ t.pack.results = s.pack.results.drop 1))

/-- The PCI Express endpoint: training, BAR2, D-states, lanes, function resets and DOE: where each completes and what then holds (R309, R310, R312,
R314, R317, R318, R319, R320, R321.) PERST_N_DEASSERT clears perst, nothing else. LINK_UP out of reset with PERST_N high, the link down, no lane
failed, a legal width: UP, WIDTH and REVERSED as given, SPEED the lower of the offered and MAX_GEN; with the register space closed a retry status
is output. BAR2_ACCESS with the link up, register space open, not resetting, not D3hot, running: a read without error answers the bytes at the
mapped address, port 11; a write stores them, a poisoned one sets POISON_RX, reports it and changes nothing else. D3HOT_ENTRY with the host up,
running, not waiting already: the drain begins, fetching stops, PMCSR shows 3. D0_ENTRY in or on the way to D3hot: both end, fetching is stopped
only by an activation, PMCSR shows 0. LANE_FAILED with DEGRADE_EN, the link up, the lane judged failed (equalisation, or errors at
LANE_ERR_LIMIT) and a width left: FAILED has the lane, WIDTH and REVERSED are that width's, UP, DEGRADED, RECOVERIES one more. FLR with the link
up, register space open, running, no activation: resetting, FLR shown, RESETS one more, configuration space at reset values, ADMIN_EN 0.
FLR_COMPLETE while resetting, no activation: not resetting, none owed, a ready status is the last output; where an activation had put the reset
off, configuration space is at its reset values. HOT_RESET and LINK_DOWN with the link up: the event shown, UP and WIDTH 0, RESETS one more.
DOE_REQUEST with the link up, register space open, not resetting, not HALTED: of at most 1,024 DW it is output to the Helm as bytes, a longer one
only sets DOE_ERR. -/
def Obligations.EndpointEvents : Prop :=
  (∀ s : State, exec .perstNDeassert s = .next { s with link := { s.link with perst := false } }) ∧
  (∀ (speed : Fin 4) (width : BitVec 5) (reversed : Bool) (s : State), s.link.perst = false → s.sys.inReset = false → s.on BQ_LINK_STAT.UP = false → s.rd BQ_LINK_STAT.FAILED = 0 → linkWidths.contains width.toNat = true →
    completes (.linkUp speed width reversed) s (fun t => t.rd BQ_LINK_STAT.UP = 1 ∧ t.rd BQ_LINK_STAT.WIDTH = width.toNat ∧ t.rd BQ_LINK_STAT.REVERSED = b2n reversed ∧
      t.rd BQ_LINK_STAT.SPEED = min speed.val (s.rd BQ_LINK_CFG.MAX_GEN) + 1 ∧ (s.sys.regOpen = false → t.out = s.out ++ [.retryStatus true]))) ∧
  (∀ (a : BitVec 32) (n : Nat) (s : State), s.on BQ_LINK_STAT.UP = true → s.sys.regOpen = true → s.link.resetting = false → s.link.d3hot = false → s.running = true → (s.readAny 11 0 80 (s.bar2Addr a.toNat) n).2.err = false → (s.readAny 11 0 80 (s.bar2Addr a.toNat) n).2.anyUe = false →
    exec (.bar2Access (.read a n)) s = .next ((s.readAny 11 0 80 (s.bar2Addr a.toNat) n).1.emit (.bar2 0 (s.readAny 11 0 80 (s.bar2Addr a.toNat) n).2.data))) ∧
  (∀ (a : BitVec 32) (d : List Byte) (s : State), s.on BQ_LINK_STAT.UP = true → s.sys.regOpen = true → s.link.resetting = false → s.link.d3hot = false → s.running = true →
    exec (.bar2Access (.write a d false)) s = .next (s.writeAny 11 80 (s.bar2Addr a.toNat) d).1 ∧ exec (.bar2Access (.write a d true)) s = .next ((s.wr BQ_LINK_EVT.POISON_RX 1).emit .aerPoison)) ∧
  (∀ s : State, s.hostUp = true → s.running = true → s.link.d3wait = false → completes .d3hotEntry s (fun t => t.link.d3wait = true ∧ t.bq.stopped = true ∧ t.cfgDw 0x044 % 4 = 3)) ∧
  (∀ s : State, (s.link.d3hot = true ∨ s.link.d3wait = true) → completes .d0Entry s (fun t => t.link.d3hot = false ∧ t.link.d3wait = false ∧ t.bq.stopped = s.sch.activate.isSome ∧ t.cfgDw 0x044 % 4 = 0)) ∧
  (∀ (lane : Fin 16) (errs : Option Nat) (speed : Fin 4) (w : Nat) (r : Bool) (s : State), s.on BQ_LINK_CFG.DEGRADE_EN = true → s.laneJudged errs = true → s.on BQ_LINK_STAT.UP = true → widthOf (s.rd BQ_LINK_STAT.FAILED ||| 2 ^ lane.val) (s.rd BQ_LINK_STAT.WIDTH) = some (w, r) →
    completes (.laneFailed lane errs speed) s (fun t => t.rd BQ_LINK_STAT.FAILED = s.rd BQ_LINK_STAT.FAILED ||| 2 ^ lane.val ∧ t.rd BQ_LINK_STAT.WIDTH = w ∧ t.rd BQ_LINK_STAT.REVERSED = b2n r ∧ t.rd BQ_LINK_STAT.UP = 1 ∧
      t.rd BQ_LINK_EVT.DEGRADED = 1 ∧ t.rd BQ_LINK_CNT.RECOVERIES = satU 16 (s.rd BQ_LINK_CNT.RECOVERIES + 1))) ∧
  (∀ s : State, s.on BQ_LINK_STAT.UP = true → s.sys.regOpen = true → s.running = true → s.sch.activate = none →
    completes .flr s (fun t => t.link.resetting = true ∧ t.rd BQ_LINK_EVT.FLR = 1 ∧ t.rd BQ_LINK_CNT.RESETS = satU 8 (s.rd BQ_LINK_CNT.RESETS + 1) ∧ t.link.cfgSpace = [] ∧ t.rd BQ_CTRL.ADMIN_EN = 0)) ∧
  (∀ s : State, s.link.resetting = true → s.sch.activate = none → completes .flrComplete s (fun t => t.link.resetting = false ∧ t.link.owed = false ∧ (s.link.owed = true → t.link.cfgSpace = []) ∧ t.out.getLast? = some (.retryStatus false))) ∧
  (∀ s : State, s.on BQ_LINK_STAT.UP = true → completes .hotReset s (fun t => t.rd BQ_LINK_EVT.HOT_RESET = 1 ∧ t.rd BQ_LINK_STAT.UP = 0 ∧ t.rd BQ_LINK_STAT.WIDTH = 0 ∧ t.rd BQ_LINK_CNT.RESETS = satU 8 (s.rd BQ_LINK_CNT.RESETS + 1)) ∧
    completes .linkDown s (fun t => t.rd BQ_LINK_EVT.LINK_DOWN = 1 ∧ t.rd BQ_LINK_STAT.UP = 0 ∧ t.rd BQ_LINK_STAT.WIDTH = 0 ∧ t.rd BQ_LINK_CNT.RESETS = satU 8 (s.rd BQ_LINK_CNT.RESETS + 1))) ∧
  (∀ (d : List Word) (s : State), s.on BQ_LINK_STAT.UP = true → s.sys.regOpen = true → s.link.resetting = false → s.mode ≠ .halted →
    completes (.doeRequest d) s (fun t => (d.length ≤ 1024 → t.out = s.out ++ [.helmMessage (d.flatMap (fun w => leBytes 4 w.toNat))]) ∧ (1024 < d.length → t.out = s.out ∧ t.rd BQ_LINK_EVT.DOE_ERR = 1)))

/-- Doorbells, entry fetches and the entries they bring: where each completes and what then holds (R328, R330, R331, R340, R346, R385.) BQ_DOORBELL
by an initiator that may write: with a value not refused TAIL is the value and nothing is output; with a refused one TAIL is as it was,
DB_REFUSED is set and the refused count is one more. ENTRY_FETCH with fetching not stopped, the host up, bus mastering on, the chip running, no
completed entry waiting to be passed: of the ring and quota that the rule picks, with n the least of 16, the quota, the unfetched entries, the
window's room, the tags left and the run up to the end of the ring or a mark, n not 0: a read of n entries from FETCH is outstanding, FETCH is n
further, the fetch count grows by n. ENTRY_FETCH_COMPLETE of the ring's oldest read, of one entry, a tag free, no abort mark on it: with 64 bytes
the read is gone and one command more has that tag, the ring and index as its source, the bytes as its entry, fetched, status 0; with an entry
that could not be read the command has ended with FETCH_FAILED (0x13), FETCH_ERR is set and counted. -/
def Obligations.RingDoorbellsAndFetching : Prop :=
  (∀ (w : Initiator) (r : Ring) (v : BitVec 16) (s : State), s.mayWrite w = true → s.doorbellRefused r v.toNat = none → completes (.bqDoorbell w r v) s (fun t => t.ringTail r = v.toNat ∧ t.out = s.out)) ∧
  (∀ (w : Initiator) (r : Ring) (v : BitVec 16) (s : State), s.mayWrite w = true → (s.doorbellRefused r v.toNat).isSome = true →
    completes (.bqDoorbell w r v) s (fun t => t.ringTail r = s.ringTail r ∧ t.rd (BQ_STATE.DB_REFUSED r) = 1 ∧ t.rd BQ_DB_CNT.REFUSED = satU 16 (s.rd BQ_DB_CNT.REFUSED + 1))) ∧
  (∀ (r quota n : Nat) (u s : State), s.bq.stopped = false → s.hostUp = true → s.busMaster = true → s.running = true → (∀ k ∈ List.range 129, (s.ring k).done = []) → s.pickRing = some (u, r, quota) →
    n = min (min (min 16 quota) (min (s.unfetched r) (s.windowRoom r))) (min (s.tagsLeft r) (u.runLen r (s.ringFetch r) 16)) → n ≠ 0 →
    completes .entryFetch s (fun t => t.bq.reads = s.bq.reads ++ [{ ring := r, first := s.ringFetch r, count := n }] ∧ t.ringFetch r = (s.ringFetch r + n) % s.ringN r ∧
      t.rd BQ_FETCH_CNT.CNT = satU 32 (s.rd BQ_FETCH_CNT.CNT + n))) ∧
  (∀ (r : Ring) (f : FetchRd) (rest : List FetchRd) (tag : Nat) (e : List Byte) (s : State), popFirst (fun f => f.ring == r.val) s.bq.reads = some (f, rest) → f.count = 1 → s.freeTag r = some tag → e.length = 64 →
    s.bq.marks.contains (r.val, f.first % s.ringN r) = false →
    completes (.entryFetchComplete r [some e]) s (fun t => t.bq.reads = rest ∧ t.cmds.dropLast = s.cmds ∧
      t.cmds.getLast?.map (fun c => (c.tag, c.src, c.entry, c.phase, c.status)) = some (tag, .ring r (f.first % s.ringN r), e, .fetched, 0))) ∧
  (∀ (r : Ring) (f : FetchRd) (rest : List FetchRd) (tag : Nat) (s : State), popFirst (fun f => f.ring == r.val) s.bq.reads = some (f, rest) → f.count = 1 → s.freeTag r = some tag → s.bq.marks.contains (r.val, f.first % s.ringN r) = false →
    completes (.entryFetchComplete r [none]) s (fun t => t.bq.reads = rest ∧ t.cmds.getLast?.map (fun c => (c.tag, c.src, c.phase, c.status)) = some (tag, .ring r (f.first % s.ringN r), .ended, 0x13) ∧
      t.rd (BQ_STATE.FETCH_ERR r) = 1 ∧ t.rd BQ_DB_CNT.FETCH_ERR = satU 16 (s.rd BQ_DB_CNT.FETCH_ERR + 1)))

/-- A command's start, its grants, its completion and its publication: where each completes and what then holds (R324, R332, R333, R334, R347, R349,
R353, R386, R388, R390.) COMMAND_START of a fetched entry that need not wait, not in RESCUE: a legal opcode without page list that is an admin
command, FLUSH or ABORT starts at stage 0, its status kept; a legal opcode with status 0 whose check fails ends with the check's status.
LOCK_GRANT, when the first waiting command whose lock requests do not conflict is a ZONE MANAGEMENT of one zone that need not wait and passes its
check: it starts, has that zone to do, and every lock entry of it is granted. PAGE_ALLOC_GRANT, when the first command waiting for pages that can
be had is a READ that need not wait, is not blocked by a lock, can be allocated and passes its check: it starts with one sector for each of its
count. COMMAND_COMPLETE of an ended ring command whose work has stopped, host up, running: its tag is free; with status 0, its entry at HEAD of
the ENABLED ring and none completed before, HEAD is one further. PUBLICATION_WRITE of a ring that exists with one due, none in this bell, host
up, running: none is due, this bell is noted, its number and the count are one more. COAL_EXPIRY of a held message whose COAL bells have passed:
not held, sent in this bell. -/
def Obligations.CommandStartAndCompletion : Prop :=
  (∀ (tag : BitVec 14) (c : Cmd) (s : State), s.cmd? tag.toNat = some c → c.phase = .fetched → s.mustWait c = false → s.on SYS_MODE.RESCUE = false → c.hasList = false → opcodeOk c.opcode c.onAdmin = true → (0x80 ≤ c.opcode ∨ c.opcode = 0x08 ∨ c.opcode = 0x0B) →
    completes (.commandStart tag none) s (fun t => (t.cmd? tag.toNat).map (fun d => (d.phase, d.stage, d.status)) = some (.started, 0, c.status))) ∧
  (∀ (tag : BitVec 14) (c : Cmd) (st lba : Nat) (l : Option (List (BitVec 64))) (s : State), s.cmd? tag.toNat = some c → c.phase = .fetched → s.mustWait c = false → s.on SYS_MODE.RESCUE = false → opcodeOk c.opcode c.onAdmin = true → c.status = 0 → s.cmdCheck c = some (st, lba) →
    completes (.commandStart tag l) s (fun t => t.endedWith tag.toNat st = true)) ∧
  (∀ (c : Cmd) (s : State), s.firstWaiting (fun c => c.stage != 1 && !(s.lockReqs c).any (s.lockBlocked c.tag c.order)) = some c → s.cmd? c.tag = some c → s.mustWait c = false → c.opcode = 0x06 → bitOf (c.u 28 1) 2 = false → s.cmdCheck c = none →
    completes .lockGrant s (fun t => (t.cmd? c.tag).map (fun d => (d.phase, d.stage, d.todoZones)) = some (.started, 0, [lbaZone s.sys.cfg c.slba]) ∧
      ∀ e ∈ t.sch.locks, e.tag = c.tag → e.granted = true)) ∧
  (∀ (c : Cmd) (s : State), s.firstWaiting (fun c => c.stage == 1 && !s.pagesBlocked c) = some c → s.cmd? c.tag = some c → s.mustWait c = false → c.opcode = 0x01 → (s.lockReqs c).any (s.lockBlocked c.tag c.order) = false → (s.allocFor c c.cnt 0).isSome = true → s.cmdCheck c = none →
    completes .pageAllocGrant s (fun t => (t.cmd? c.tag).map (fun d => (d.phase, d.stage, d.secs.length)) = some (.started, 0, c.cnt))) ∧
  (∀ (tag : BitVec 14) (c : Cmd) (r : Ring) (i : Nat) (s : State), s.cmd? tag.toNat = some c → c.phase = .ended → c.src = .ring r i → s.workStopped c = true → s.running = true → s.hostUp = true → s.bq.rings.length = 129 →
    completes (.commandComplete tag) s (fun t => t.cmd? tag.toNat = none ∧ (c.status = 0 → s.ringState r = 2 → s.ringHead r = i → (s.ring r).done = [] → t.ringHead r = (i + 1) % s.ringN r))) ∧
  (∀ (r : Ring) (s : State), (s.ring r).pubDue = true → (s.ring r).pubBell ≠ some s.bell → s.hostUp = true → s.running = true → s.ringState r ≠ 0 →
    completes (.publicationWrite r) s (fun t => (t.ring r).pubDue = false ∧ (t.ring r).pubBell = some s.bell ∧ (t.ring r).pubSeq = ((s.ring r).pubSeq + 1) % 2 ^ 32 ∧ t.rd BQ_PUB_CNT.CNT = satU 32 (s.rd BQ_PUB_CNT.CNT + 1))) ∧
  (∀ (r : Ring) (b : Nat) (s : State), (s.ring r).held = true → (s.ring r).msgBell = some b → b + s.rd (BQ_CFG.COAL r) ≤ s.bell → completes (.coalExpiry r) s (fun t => (t.ring r).held = false ∧ (t.ring r).msgBell = some s.bell))

/-- Freezing, disabling and enabling a ring, and quiescing the queues: where each completes and what then holds (R314, R325, R335, R336, R337, R338,
R344.) FREEZE_SETTLED of a ring in FREEZING with HEAD at FREEZE_AT, no command in hand, no publication due: FROZEN, FROZE set. DISABLE_SETTLED of
a ring that has settled its disable: DISABLED, no completed entries, no FETCH kept to. ADMIN_RING_ENABLE by an initiator that may write, the
admin ring DISABLED: with a depth in range it is ENABLED, ADMIN_EN 1, FETCH at HEAD; with one out of range it stays DISABLED and the queue block
is unchanged. ADMIN_RING_DISABLE of the ENABLED admin ring: DISABLING, ADMIN_EN 0. QUIESCE_DONE for an activation that has stopped fetching, all
drained but its own command, QUIESCED not shown yet, no Pack job of a command queued: QUIESCED in both registers, the activation waits from now
on; with no activation, a D3hot entry waiting, all drained and no dirty write-back data: D3hot is entered. -/
def Obligations.RingStates : Prop :=
  (∀ (r : Ring) (s : State), s.ringState r = 4 → s.ringHead r = s.rd (BQ_STATE.FREEZE_AT r) → s.ringCmds r = [] → (s.ring r).pubDue = false → completes (.freezeSettled r) s (fun t => t.ringState r = 5 ∧ t.rd (BQ_STATE.FROZE r) = 1)) ∧
  (∀ (r : Ring) (s : State), s.disableDone r = true → completes (.disableSettled r) s (fun t => t.ringState r = 1 ∧ (t.ring r).done = [] ∧ (t.ring r).keepTo = none)) ∧
  (∀ (w : Initiator) (s : State), s.mayWrite w = true → s.ringState 128 = 1 → s.adminDepthOk = true → completes (.adminRingEnable w) s (fun t => t.ringState 128 = 2 ∧ t.rd BQ_CTRL.ADMIN_EN = 1 ∧ t.ringFetch 128 = s.ringHead 128)) ∧
  (∀ (w : Initiator) (s : State), s.mayWrite w = true → s.ringState 128 = 1 → s.adminDepthOk = false → completes (.adminRingEnable w) s (fun t => t.ringState 128 = 1 ∧ t.bq = s.bq)) ∧
  (∀ s : State, s.ringState 128 = 2 → completes .adminRingDisable s (fun t => t.ringState 128 = 3 ∧ t.rd BQ_CTRL.ADMIN_EN = 0)) ∧
  (∀ (tag slot t0 : Nat) (s : State), s.sch.activate = some (tag, slot, t0) → s.bq.stopped = true → s.drained (some tag) = true → s.on BQ_STATUS.QUIESCED = false → (s.pack.queue.filter (fun j => !j.fw)) = [] →
    completes .quiesceDone s (fun t => t.rd BQ_STATUS.QUIESCED = 1 ∧ t.rd SYS_MODE.QUIESCED = 1 ∧ t.sch.activate = some (tag, slot, s.sys.time))) ∧
  (∀ s : State, s.sch.activate = none → s.link.d3wait = true → s.drained none = true → s.wbDirty = false → completes .quiesceDone s (fun t => t.link.d3hot = true ∧ t.link.d3wait = false))

/-- READ, VERIFY, WRITE, ZONE APPEND, PACKED APPEND, PARCEL READ, PEER COPY and FLUSH: where each completes and what then holds (R355, R357, R358,
R359, R360, R363, R364, R365, R366, R368.) Each of a started command of its opcode, not dropped, the chip running, no destage record. READ past
its media work with all records ended: ended with SUCCESS, or with the status of the BAD record. VERIFY with status 0, every sector ended, none
lost, its count reached: SUCCESS. WRITE with status 0: its sectors ended and no append of it still placed, SUCCESS; from a ring with its records
ended, the status of a BAD one, or, none BAD and write-back off, its sectors are planned (stage 2). ZONE APPEND with status 0: the same, its end
when MEDIA_WP has passed its placement. PACKED APPEND with Pack in service and a place in its queue, its input in: its PACK job is queued by
class, stage 1; at stage 2 with its sectors ended, MEDIA_WP past it and status 0: SUCCESS. PARCEL READ with its sectors ended: at stage 2, Pack
in service and a place in its queue, its UNPACK or CHECK job is queued, stage 3; at stage 3 with the job's result, status 0, the result an error
or the command a check: ended with the status of that code. PEER COPY with status 0 and its media work ended: at stage 2, none of it still
placed, SUCCESS; a pull that writes, its data in, plans its sectors (stage 2). FLUSH with status 0, no write-back data, no command that writes:
SUCCESS. -/
def Obligations.ReadAndWriteCommands : Prop :=
  (∀ (tag : BitVec 14) (c : Cmd) (s : State), s.atWork tag.toNat 0x01 c = true → c.stage ≠ 0 → c.mediaDone = true → c.recsDone = true → (c.badCause = 0 → c.status = 0) →
    completes (.readCmd tag) s (fun t => t.endedWith tag.toNat (if c.badCause = 0 then 0 else recStatus c.badCause) = true)) ∧
  (∀ (tag : BitVec 14) (c : Cmd) (s : State), s.atWork tag.toNat 0x09 c = true → c.mediaDone = true → c.status = 0 → c.secs.any (fun w => w.st == .lost) = false → c.cnt ≤ c.count + c.secs.length →
    completes (.verify tag) s (fun t => t.endedWith tag.toNat 0 = true)) ∧
  (∀ (tag : BitVec 14) (c : Cmd) (s : State), s.atWork tag.toNat 0x02 c = true → c.status = 0 → (c.stage = 2 → c.mediaDone = true → s.placedFor c.tag = false → completes (.writeCmd tag) s (fun t => t.endedWith tag.toNat 0 = true)) ∧
    (c.stage ≠ 2 → c.ring?.isSome = true → c.recsDone = true → c.badCause ≠ 0 → completes (.writeCmd tag) s (fun t => t.endedWith tag.toNat (recStatus c.badCause) = true)) ∧
    (c.stage ≠ 2 → c.ring?.isSome = true → c.recsDone = true → c.badCause = 0 → s.sch.wbOn = false → completes (.writeCmd tag) s (fun t => (t.cmd? tag.toNat).map (fun d => (d.phase, d.stage)) = some (.started, 2)))) ∧
  (∀ (tag : BitVec 14) (c : Cmd) (s : State), s.atWork tag.toNat 0x03 c = true → c.status = 0 → (c.stage = 2 → c.mediaDone = true → s.placedFor c.tag = false → completes (.zoneAppend tag) s (fun t => t.endedWith tag.toNat 0 = true)) ∧
    (c.stage ≠ 2 → c.ring?.isSome = true → c.recsDone = true → c.badCause = 0 → s.sch.wbOn = false → completes (.zoneAppend tag) s (fun t => (t.cmd? tag.toNat).map (fun d => (d.phase, d.stage)) = some (.started, 2)))) ∧
  (∀ (tag : BitVec 14) (c : Cmd) (s : State), s.atWork tag.toNat 0x04 c = true → s.packNone = false → c.stage = 0 → c.badCause = 0 → c.recsDone = true → s.pack.queue.length < 64 →
    completes (.packedAppend tag) s (fun t => t.pack.queue = insertJob (c.packJob 0 (s.rd PCK_CFG.LEVEL) (c.u 28 1 != 0xFF) (if c.u 28 1 != 0xFF then c.u 28 1 else 0) c.cnt) s.pack.queue ∧ (t.cmd? tag.toNat).map (fun d => d.stage) = some 1)) ∧
  (∀ (tag : BitVec 14) (c : Cmd) (s : State), s.atWork tag.toNat 0x04 c = true → c.stage = 2 → c.mediaDone = true → s.placedFor c.tag = false → c.status = 0 → completes (.packedAppend tag) s (fun t => t.endedWith tag.toNat 0 = true)) ∧
  (∀ (tag : BitVec 14) (c : Cmd) (s : State), s.atWork tag.toNat 0x05 c = true → c.mediaDone = true → c.stage = 2 → s.packNone = false → s.pack.queue.length < 64 →
    completes (.parcelRead tag) s (fun t => t.pack.queue = insertJob (c.packJob (if bitOf (c.u 34 1) 0 then 2 else 1) 0 false 0 (256 * c.u 32 2)) s.pack.queue ∧ (t.cmd? tag.toNat).map (fun d => d.stage) = some 3)) ∧
  (∀ (tag : BitVec 14) (c : Cmd) (p : PRes) (s : State), s.atWork tag.toNat 0x05 c = true → c.mediaDone = true → c.stage = 3 → c.pack = some p → c.status = 0 → (p.code ≠ 0 ∨ bitOf (c.u 34 1) 0 = true) →
    completes (.parcelRead tag) s (fun t => t.endedWith tag.toNat (packStatus p.code) = true)) ∧
  (∀ (tag : BitVec 14) (c : Cmd) (s : State), s.atWork tag.toNat 0x0A c = true → c.mediaDone = true → c.status = 0 → (c.stage = 2 → s.placedFor c.tag = false → completes (.peerCopy tag) s (fun t => t.endedWith tag.toNat 0 = true)) ∧
    (c.stage = 1 → c.u 30 1 % 8 = 1 → completes (.peerCopy tag) s (fun t => (t.cmd? tag.toNat).map (fun d => (d.phase, d.stage)) = some (.started, 2)))) ∧
  (∀ (tag : BitVec 14) (c : Cmd) (s : State), s.atWork tag.toNat 0x08 c = true → c.status = 0 → s.sch.wb = [] → s.cmds.all (fun d => !writeOpcode d.opcode) = true → completes (.flushCmd tag) s (fun t => t.endedWith tag.toNat 0 = true))

/-- ZONE OPEN, CLOSE, FINISH, RESET and REPORT, and ABORT: where each completes and what then holds (R28, R29, R31, R340, R341, R357, R361, R362.)
Each of a started command of its opcode, not dropped, the chip running; a zone action has one zone, its lock granted, status 0. OPEN of an
IMPLICITLY OPEN zone, an EMPTY one with the open and active limits not reached, or a CLOSED one with the open limit not reached: EXPLICITLY OPEN,
WP as it was. CLOSE of an open zone: EMPTY with WP 0, else CLOSED. FINISH of an EMPTY, open or CLOSED zone: FULL, both pointers at its capacity,
and the sectors written until then noted (those behind read as unwritten). RESET of such a zone with a generation below 65,535: EMPTY, both
pointers 0, the generation one more. All end SUCCESS. ZONE REPORT without page list, status 0: SUCCESS, the descriptor count the lesser of its
count and the matching zones. ABORT with status 0: of no ring, or its own entry, INVALID_TARGET; of an entry of an ENABLED ring between HEAD and
TAIL that is not done, whose command, not itself and no append already writing, is fetched or waiting: SUCCESS, and that command has ended
ABORTED. -/
def Obligations.ZoneCommandsAndAbort : Prop :=
  (∀ (tag : BitVec 14) (c : Cmd) (z : Nat) (s : State), s.atWork tag.toNat 0x06 c = true → s.zoneHeld c 0 z = true →
    ((s.zone z).state = .implicitOpen ∨ ((s.zone z).state = .empty ∧ (s.openZones (zoneDomain s.sys.cfg z)).length < s.sys.cfg.openLimit ∧ (s.activeZones (zoneDomain s.sys.cfg z)).length < s.sys.cfg.activeLimit) ∨
     ((s.zone z).state = .closed ∧ (s.openZones (zoneDomain s.sys.cfg z)).length < s.sys.cfg.openLimit)) →
    completes (.zoneOpen tag) s (fun t => (t.zone z).state = .explicitOpen ∧ (t.zone z).wp = (s.zone z).wp ∧ t.endedWith tag.toNat 0 = true)) ∧
  (∀ (tag : BitVec 14) (c : Cmd) (z : Nat) (s : State), s.atWork tag.toNat 0x06 c = true → s.zoneHeld c 1 z = true → ((s.zone z).state = .implicitOpen ∨ (s.zone z).state = .explicitOpen) →
    completes (.zoneClose tag) s (fun t => (t.zone z).state = (if (s.zone z).wp = 0 then .empty else .closed) ∧ t.endedWith tag.toNat 0 = true)) ∧
  (∀ (tag : BitVec 14) (c : Cmd) (z : Nat) (s : State), s.atWork tag.toNat 0x06 c = true → s.zoneHeld c 2 z = true → ((s.zone z).state = .empty ∨ (s.zone z).state = .implicitOpen ∨ (s.zone z).state = .explicitOpen ∨ (s.zone z).state = .closed) →
    completes (.zoneFinish tag) s (fun t => (t.zone z).state = .full ∧ (t.zone z).wp = 16 * (s.zone z).capacity ∧ (t.zone z).mediaWp = 16 * (s.zone z).capacity ∧ (t.zone z).finished = some ((s.zone z).mediaWp / 16) ∧ t.endedWith tag.toNat 0 = true)) ∧
  (∀ (tag : BitVec 14) (c : Cmd) (z : Nat) (s : State), s.atWork tag.toNat 0x06 c = true → s.zoneHeld c 3 z = true → ((s.zone z).state = .empty ∨ (s.zone z).state = .implicitOpen ∨ (s.zone z).state = .explicitOpen ∨ (s.zone z).state = .closed) →
    (s.zone z).gen < 65535 → completes (.zoneReset tag) s (fun t => (t.zone z).state = .empty ∧ (t.zone z).wp = 0 ∧ (t.zone z).mediaWp = 0 ∧ (t.zone z).gen = (s.zone z).gen + 1 ∧ t.endedWith tag.toNat 0 = true)) ∧
  (∀ (tag : BitVec 14) (c : Cmd) (s : State), s.atWork tag.toNat 0x07 c = true → c.hasList = false → c.status = 0 → completes (.zoneReport tag) s (fun t => t.endedWith tag.toNat 0 = true ∧
      (t.cmd? tag.toNat).map (fun d => d.changed) = some (min c.cnt (((List.range s.zoneCount).filter (fun z => decide (lbaZone s.sys.cfg c.slba ≤ z))).filter (fun z => c.u 28 1 == 0xFF || (s.zone z).state.code == c.u 28 1)).length))) ∧
  (∀ (tag : BitVec 14) (c : Cmd) (s : State), s.atWork tag.toNat 0x0B c = true → c.status = 0 → (128 < c.u 28 1 ∨ c.src = .ring (c.u 28 1) (c.u 30 2)) → completes (.abortCmd tag) s (fun t => t.endedWith tag.toNat 0x04 = true)) ∧
  (∀ (tag : BitVec 14) (c d : Cmd) (s : State), s.atWork tag.toNat 0x0B c = true → c.status = 0 → c.u 28 1 ≤ 128 → s.ringState (c.u 28 1) = 2 → c.u 30 2 < s.ringN (c.u 28 1) → c.src ≠ .ring (c.u 28 1) (c.u 30 2) →
    ringDist (s.ringN (c.u 28 1)) (s.ringHead (c.u 28 1)) (c.u 30 2) < ringDist (s.ringN (c.u 28 1)) (s.ringHead (c.u 28 1)) (s.ringTail (c.u 28 1)) → s.isDone (c.u 28 1) (c.u 30 2) = false →
    s.cmds.find? (fun d => d.src == .ring (c.u 28 1) (c.u 30 2)) = some d → s.appendRuns d = false → (d.phase = .fetched ∨ d.phase = .waiting) → d.tag ≠ c.tag →
    completes (.abortCmd tag) s (fun t => t.endedWith tag.toNat 0 = true ∧ t.endedWith d.tag 0x02 = true))

/-- IDENTIFY, features, latency tolerance, time, logs, tokens and FABRIC STATUS: where each completes and what then holds (R371, R372, R373, R375,
R376, R378, R379, R478.) Each of a started admin command of its opcode with status 0, not dropped, the chip running, without page list where data
moves. IDENTIFY: SUCCESS for CNS 0 and 1, else INVALID_FIELD. GET FEATURE of a feature with a value: SUCCESS, the value its specific field. SET
FEATURE: of the idle timers with a value below 2^60, the timers hold it, SUCCESS; of write-back caching on: where it is allowed, on, SUCCESS,
else the scheduler unchanged and NOT_ALLOWED. SET LATENCY TOLERANCE, the power state still allowed under it: TOL holds it, ALLOWED shows the
deepest allowed state, SUCCESS. SET TIME: the calendar is the value with the time of the command, SUCCESS. GET LOG of a page that exists, offset
and length multiples of 4, at most 1 MiB: SUCCESS. LOGBOOK CLEAR with 144 bytes of token: one that passes the checks, SUCCESS and an empty
ride-through area; else AUTH_FAILED (0x60), the area as it was. ADOPT MEDIA on foreign media: a token that passes, SUCCESS, no domain foreign,
FOREIGN 0; else AUTH_FAILED, the media unchanged. FABRIC STATUS: SUCCESS. -/
def Obligations.IdentifyFeaturesAndLogs : Prop :=
  (∀ (tag : BitVec 14) (c : Cmd) (s : State), s.atWork tag.toNat 0x80 c = true → c.hasList = false → c.status = 0 → completes (.identify tag) s (fun t => t.endedWith tag.toNat (if c.u 28 1 ≤ 1 then 0 else 0x11) = true)) ∧
  (∀ (tag : BitVec 14) (c : Cmd) (v : Nat) (s : State), s.atWork tag.toNat 0x81 c = true → c.status = 0 → s.feature (c.u 28 1) = some v → completes (.getFeature tag) s (fun t => t.endedWith tag.toNat 0 = true ∧ (t.cmd? tag.toNat).map (fun d => d.spec) = some v)) ∧
  (∀ (tag : BitVec 14) (c : Cmd) (s : State), s.atWork tag.toNat 0x82 c = true → c.status = 0 → c.u 28 1 = 3 → c.u 32 8 < 2 ^ 60 → completes (.setFeature tag) s (fun t => t.endedWith tag.toNat 0 = true ∧ t.idleTimers = c.u 32 8)) ∧
  (∀ (tag : BitVec 14) (c : Cmd) (s : State), s.atWork tag.toNat 0x82 c = true → c.status = 0 → c.u 28 1 = 1 → c.u 32 8 = 1 → completes (.setFeature tag) s (fun t => (s.wbAllowed = true → t.sch.wbOn = true ∧ t.endedWith tag.toNat 0 = true) ∧
      (s.wbAllowed = false → t.sch = s.sch ∧ t.endedWith tag.toNat 0x16 = true))) ∧
  (∀ (tag : BitVec 14) (c : Cmd) (s : State), s.atWork tag.toNat 0x83 c = true → c.status = 0 → c.stage = 0 → ((s.wr SCH_LAT_TOL.TOL (c.u 32 4)).powerAllowed (s.rd SCH_PWR_STAT.TARGET)) = true →
    completes (.setLatencyTolerance tag) s (fun t => t.rd SCH_LAT_TOL.TOL = c.u 32 4 ∧ t.rd SCH_PWR_STAT.ALLOWED = t.deepestAllowed ∧ t.endedWith tag.toNat 0 = true)) ∧
  (∀ (tag : BitVec 14) (c : Cmd) (s : State), s.atWork tag.toNat 0x8F c = true → c.status = 0 → completes (.setTime tag) s (fun t => t.sys.calendar = some (c.u 32 8, s.sys.time) ∧ t.endedWith tag.toNat 0 = true)) ∧
  (∀ (tag : BitVec 14) (c : Cmd) (s : State), s.atWork tag.toNat 0x89 c = true → c.status = 0 → c.hasList = false → (s.logPage (c.u 28 1) (c.u 29 1)).isSome = true → c.u 32 4 % 4 = 0 → c.cnt % 4 = 0 → c.cnt ≤ 1048576 →
    completes (.getLog tag) s (fun t => t.endedWith tag.toNat 0 = true)) ∧
  (∀ (tag : BitVec 14) (c : Cmd) (b : List Byte) (s : State), s.atWork tag.toNat 0x8A c = true → c.status = 0 → c.hasList = false → b.length = 144 →
    completes (.logbookClear tag (some b)) s (fun t => (s.tokenOk 1 b = true → t.endedWith tag.toNat 0 = true ∧ t.watch.rideArea = []) ∧ (s.tokenOk 1 b = false → t.endedWith tag.toNat 0x60 = true ∧ t.watch.rideArea = s.watch.rideArea))) ∧
  (∀ (tag : BitVec 14) (c : Cmd) (b : List Byte) (s : State), s.atWork tag.toNat 0x90 c = true → c.status = 0 → c.hasList = false → b.length = 144 → s.foreignAny = true →
    completes (.adoptMedia tag (some b)) s (fun t => (s.tokenOk 2 b = true → t.endedWith tag.toNat 0 = true ∧ t.foreignAny = false ∧ t.rd SYS_MODE.FOREIGN = 0) ∧ (s.tokenOk 2 b = false → t.endedWith tag.toNat 0x60 = true ∧ t.media = s.media))) ∧
  (∀ (tag : BitVec 14) (c : Cmd) (s : State), s.atWork tag.toNat 0x91 c = true → c.status = 0 → c.hasList = false → completes (.fabricStatus tag) s (fun t => t.endedWith tag.toNat 0 = true))

/-- Ring, firmware and key commands: where each completes and what then holds (R325, R337, R338, R344, R370, R374, R377, R454.) Each of a started
admin command of its opcode with status 0, not dropped, the chip running, naming a ring below 128. RING CREATE with a depth not 0, both addresses
multiples of 64, a weight where the class needs one, of a DELETED ring: DISABLED, its depth and addresses as given, HEAD 0, SUCCESS. DELETE of a
DISABLED ring: DELETED, address 0, SUCCESS; of another: as it was, BAD_RING_STATE (0x06). ENABLE of a DISABLED one: ENABLED, FETCH at HEAD,
SUCCESS; of another: as it was, BAD_RING_STATE. DISABLE of an ENABLED or FROZEN one, at its start: DISABLING. RESTART of a FROZEN one: ENABLED,
FREEZE_AT 0, FETCH at HEAD, SUCCESS. FIRMWARE DOWNLOAD without page list, of whole 4 KiB within the slot, the flash present, the data in: the
inactive slot is marked, SUCCESS. FIRMWARE ACTIVATE at next start: the slot is the next, SUCCESS. ACTIVATION_DONE of a quiesced activation: none
runs, fetching goes on, QUIESCED 0 in both registers. KEY LOAD without page list or wrapping, of 64 bytes with unequal halves into an EMPTY slot
below 64, wrapping not required: the slot is loaded with them, SUCCESS. KEY ERASE of an EMPTY slot: SUCCESS, Pack unchanged; of a loaded one: it
is being erased and the command goes on. -/
def Obligations.RingAndFirmwareCommands : Prop :=
  (∀ (tag : BitVec 14) (c : Cmd) (s : State), s.atWork tag.toNat 0x84 c = true → c.status = 0 → c.u 28 1 < 128 → c.u 32 2 ≠ 0 → c.u 36 8 % 64 = 0 → c.u 44 8 % 64 = 0 → (c.u 29 1 % 4 = 0 ∨ c.u 30 1 ≠ 0) → s.ringState (c.u 28 1) = 0 →
    completes (.ringCreate tag) s (fun t => t.ringState (c.u 28 1) = 1 ∧ t.ringN (c.u 28 1) = c.u 32 2 + 1 ∧ t.ringBase (c.u 28 1) = c.u 36 8 ∧ t.ringRes (c.u 28 1) = c.u 44 8 ∧ t.ringHead (c.u 28 1) = 0 ∧ t.endedWith tag.toNat 0 = true)) ∧
  (∀ (tag : BitVec 14) (c : Cmd) (s : State), s.atWork tag.toNat 0x85 c = true → c.status = 0 → c.u 28 1 < 128 → completes (.ringDelete tag) s (fun t => (s.ringState (c.u 28 1) = 1 → t.ringState (c.u 28 1) = 0 ∧ t.ringBase (c.u 28 1) = 0 ∧ t.endedWith tag.toNat 0 = true) ∧
      (s.ringState (c.u 28 1) ≠ 1 → t.ringState (c.u 28 1) = s.ringState (c.u 28 1) ∧ t.endedWith tag.toNat 0x06 = true))) ∧
  (∀ (tag : BitVec 14) (c : Cmd) (s : State), s.atWork tag.toNat 0x86 c = true → c.status = 0 → c.u 28 1 < 128 → completes (.ringEnable tag) s (fun t => (s.ringState (c.u 28 1) = 1 → t.ringState (c.u 28 1) = 2 ∧ t.ringFetch (c.u 28 1) = s.ringHead (c.u 28 1) ∧ t.endedWith tag.toNat 0 = true) ∧
      (s.ringState (c.u 28 1) ≠ 1 → t.ringState (c.u 28 1) = s.ringState (c.u 28 1) ∧ t.endedWith tag.toNat 0x06 = true))) ∧
  (∀ (tag : BitVec 14) (c : Cmd) (s : State), s.atWork tag.toNat 0x87 c = true → c.status = 0 → c.stage = 0 → c.u 28 1 < 128 → (s.ringState (c.u 28 1) = 2 ∨ s.ringState (c.u 28 1) = 5) → completes (.ringDisable tag) s (fun t => t.ringState (c.u 28 1) = 3)) ∧
  (∀ (tag : BitVec 14) (c : Cmd) (s : State), s.atWork tag.toNat 0x88 c = true → c.status = 0 → c.u 28 1 < 128 → s.ringState (c.u 28 1) = 5 → completes (.ringRestart tag) s (fun t => t.ringState (c.u 28 1) = 2 ∧ t.rd (BQ_STATE.FREEZE_AT (c.u 28 1)) = 0 ∧
      t.ringFetch (c.u 28 1) = t.ringHead (c.u 28 1) ∧ t.endedWith tag.toNat 0 = true)) ∧
  (∀ (tag : BitVec 14) (c : Cmd) (b : List Byte) (s : State), s.atWork tag.toNat 0x8B c = true → c.status = 0 → c.hasList = false → bitOf (c.u 28 1) 0 = false → c.u 32 4 % 4096 = 0 → c.cnt % 4096 = 0 → c.cnt ≠ 0 → c.u 32 4 + c.cnt ≤ slotSize → s.on SYS_MODE.FLASH_ABSENT = false → b.length = c.cnt → s.persist.slotState.length = 2 →
    completes (.firmwareDownload tag (some b)) s (fun t => t.persist.slotState.getD s.inactiveSlot 0 = 3 ∧ t.endedWith tag.toNat 0 = true)) ∧
  (∀ (tag : BitVec 14) (c : Cmd) (s : State), s.atWork tag.toNat 0x8C c = true → c.status = 0 → c.stage = 0 → bitOf (c.u 28 1) 7 = true → completes (.firmwareActivate tag) s (fun t => t.persist.nextSlot = c.u 28 1 % 2 ∧ t.endedWith tag.toNat 0 = true)) ∧
  (∀ (tag slot tq : Nat) (s : State), s.sch.activate = some (tag, slot, tq) → s.on BQ_STATUS.QUIESCED = true → completes .activationDone s (fun t => t.sch.activate = none ∧ t.bq.stopped = false ∧ t.rd BQ_STATUS.QUIESCED = 0 ∧ t.rd SYS_MODE.QUIESCED = 0 ∧ t.sys.activating = none)) ∧
  (∀ (tag : BitVec 14) (c : Cmd) (b : List Byte) (s : State), s.atWork tag.toNat 0x8D c = true → c.status = 0 → c.hasList = false → c.u 28 1 < 64 → bitOf (c.u 29 1) 0 = false → b.length = 64 → b.take 32 ≠ b.drop 32 → (s.keySlot (c.u 28 1)).state = 0 → s.sys.wrapRequired = false → s.pack.keys.length = 64 →
    completes (.keyLoad tag (some b)) s (fun t => t.keySlot (c.u 28 1) = { state := 1, key := b } ∧ t.endedWith tag.toNat 0 = true)) ∧
  (∀ (tag : BitVec 14) (c : Cmd) (s : State), s.atWork tag.toNat 0x8E c = true → c.status = 0 → c.u 28 1 < 64 → completes (.keyErase tag) s (fun t => ((s.keySlot (c.u 28 1)).state = 0 → t.endedWith tag.toNat 0 = true ∧ t.pack = s.pack) ∧
      ((s.keySlot (c.u 28 1)).state = 1 → (t.keySlot (c.u 28 1)).state = 2 ∧ t.cmds = s.cmds)))

/-- Installing a tier map entry, dispatch steps and urgent pre-emption: where each completes and what then holds (R10, R23, R26, R391, R394, R395,
R401, R402.) TIER_MAP_INSTALL by the Helm, which may write, of the 64 bytes that the address registers name, read without error, with a good CRC
and passing the tier checks: DONE 1, REFUSED 0; the zone's entry in use is that entry where OFFSET and TRIM_CENTRE may change or the zone had
none, else that entry with the two fields of the one it replaces (log entry 148). By the host, which may write: the media is unchanged.
DISPATCH_STEP of a present domain whose sequencer is not fenced, the chip running in P0 and not moving, at least 4 bells after the last: this
bell is noted as its step and no urgency is left. URGENT_PREEMPT of a present domain, running, with an URGENT candidate, that serves work, none
of it URGENT: it is urgent, PREEMPT is set and the pre-emption count is one more. -/
def Obligations.TierMapAndDispatch : Prop :=
  (∀ (r : State × BufResp) (s : State), s.mayWrite .helm = true → r = s.readAny 15 0 2 (64 * s.rd SCH_TIER_ADDR_LO.ADDR + 2 ^ 32 * s.rd SCH_TIER_ADDR_HI.ADDR) 64 → r.2.err = false → r.2.anyUe = false → tierCrcOk r.2.data = true → r.1.tierCheck (parseTier r.2.data) = none →
    completes (.tierMapInstall .helm) s (fun t => t.rd SCH_TIER_RESP.DONE = 1 ∧ t.rd SCH_TIER_RESP.REFUSED = 0 ∧ (r.1.offsetsFree (parseTier r.2.data).zone = true → (t.zone (parseTier r.2.data).zone).entry = some (parseTier r.2.data)) ∧
      (r.1.offsetsFree (parseTier r.2.data).zone = false → (t.zone (parseTier r.2.data).zone).entry = (r.1.zone (parseTier r.2.data).zone).entry.map (fun o => { parseTier r.2.data with offset := o.offset, trimCentre := o.trimCentre })))) ∧
  (∀ s : State, s.mayWrite .host = true → completes (.tierMapInstall .host) s (fun t => t.media = s.media)) ∧
  (∀ (a : Act) (s : State), s.actPresent a = true → s.running = true → s.rd SCH_PWR_STAT.STATE = 0 → s.on SCH_PWR_STAT.MOVING = false → s.isFenced (.seq a) = false → s.sch.doms.length = 4 → (s.sch.doms.getD a DomU.init).stepBell + 4 ≤ s.bell →
    completes (.dispatchStep a) s (fun t => (t.sch.doms.getD a DomU.init).stepBell = s.bell ∧ (t.sch.doms.getD a DomU.init).urgent = false)) ∧
  (∀ (a : Act) (s : State), s.actPresent a = true → s.running = true → (s.cands a).any (fun c => c.cls == 0) = true → (s.inHand a ++ (s.seekFor a).toList) ≠ [] → (s.inHand a ++ (s.seekFor a).toList).any (fun k => k == 0) = false → s.sch.doms.length = 4 →
    completes (.urgentPreempt a) s (fun t => (t.sch.doms.getD a DomU.init).urgent = true ∧ t.rd SCH_STATUS.PREEMPT = 1 ∧ t.rd SCH_PREEMPT_CNT.PREEMPT = satU 16 (s.rd SCH_PREEMPT_CNT.PREEMPT + 1)))

/-- Quay ports, control frames, the link-state database and addresses: where each completes and what then holds (R404, R405, R409, R410, R411, R412,
R413, R414, R417.) PORT_TRAINING_START of a usable DOWN port: TRAINING, the rest of the Quay unchanged. PORT_UP of a usable training port at
MIN_WIDTH or wider: UP, width, lane map, neighbour address and serial as given. TRAIN_FAIL: TRAIN_FAIL set, DOWN, or FENCED at the third within 1
s of one that was UP. LINK_LOST of an UP port: disabled or silent for LOSS_TIME, DOWN, LINK_LOST set; else nothing changes. QFB_RETRAIN by one
that may write: training, LINK_LOST set. On an UP port, no injection armed, good frames: HELLO of the known serial keeps it UP with the address
given, of another one takes it to training; HEARTBEAT restarts the silence timer, one with a bad header is counted and does not; a newer or new
LSA (1,024 held at most) of another origin is counted; a stale one changes no LSA, a newer one with the same content replaces it and keeps the
routes; CREDIT adds the freed slots when nothing waits; MGMT is output to the Helm. HELLO_SEND on a training or UP port and HEARTBEAT_SEND when
due send one frame and note the time. LSA_ORIGINATE when due, running: the own LSA has the next number. LSA_EXPIRE removes foreign LSAs of 1 s
and more. ADDRESS_ASSIGN without address, running, not in RESCUE, 10 ms after the database changed: the address kept, if no other has it, else
the lowest free is shown, VALID and ASSIGNED. CREDIT_SEND on an UP port with 8 freed slots, or the first 1 us ago: up to 255 of each class are
returned in one frame. RELAY_TIMEOUT removes the relayed frames that waited RELAY_MAX. -/
def Obligations.QuayPortsAndRoutes : Prop :=
  (∀ (p : QPort) (s : State), s.portUsable p = true → s.rd (QFB_PSTATUS.STATE p) = 1 → completes (.portTrainingStart p) s (fun t => t.rd (QFB_PSTATUS.STATE p) = 2 ∧ t.qfb = s.qfb)) ∧
  (∀ (p : QPort) (width : Fin 3) (lm : BitVec 16) (fix : Bool) (h : QHello) (c0 c1 c2 : BitVec 8) (s : State), s.portUsable p = true → s.rd (QFB_PSTATUS.STATE p) = 2 → s.rd (QFB_PCTRL.MIN_WIDTH p) ≤ width.val →
    completes (.portUp p width lm fix h c0 c1 c2) s (fun t => t.rd (QFB_PSTATUS.STATE p) = 3 ∧ t.rd (QFB_PSTATUS.WIDTH p) = 2 ^ width.val ∧ t.rd (QFB_PSTATUS.LANE_MAP p) = lm.toNat ∧ t.rd (QFB_PEER.ADDR p) = h.addr.toNat ∧
      t.rd (QFB_PEER.VALID p) = b2n h.valid ∧ t.rd (QFB_PEER_SN_LO.SN p) = h.serial.toNat % 2 ^ 32 ∧ t.rd (QFB_PEER_SN_HI.SN p) = h.serial.toNat / 2 ^ 32)) ∧
  (∀ (p : QPort) (s : State), s.rd (QFB_PSTATUS.STATE p) = 2 → completes (.trainFail p) s (fun t => t.on (QFB_PSTATUS.TRAIN_FAIL p) = true ∧
    t.rd (QFB_PSTATUS.STATE p) = if (s.qport p).everUp && decide (2 ≤ ((s.qport p).fails.filter (fun x => decide (s.sys.time < x + unitsPerSecond))).length) then 4 else 1)) ∧
  (∀ (p : QPort) (s : State), s.rd (QFB_PSTATUS.STATE p) = 3 → completes (.linkLost p) s (fun t =>
    ((s.on (QFB_PCTRL.EN p) = false ∨ s.on QFB_CFG.EN = false ∨ (s.qport p).lastRx + s.rd QFB_TIMER_CFG.LOSS_TIME * 25000 ≤ s.sys.time) → t.rd (QFB_PSTATUS.STATE p) = 1 ∧ t.on (QFB_PSTATUS.LINK_LOST p) = true ∧
      t.rd (QFB_PEER.VALID p) = 0 ∧ t.rd (QFB_PSTATUS.WIDTH p) = 0) ∧
    ((s.on (QFB_PCTRL.EN p) = true ∧ s.on QFB_CFG.EN = true ∧ s.sys.time < (s.qport p).lastRx + s.rd QFB_TIMER_CFG.LOSS_TIME * 25000) → t = s))) ∧
  (∀ (w : Initiator) (p : QPort) (s : State), s.mayWrite w = true → s.portPresent p = true → s.rd (QFB_PSTATUS.STATE p) = 3 →
    completes (.qfbRetrain w p) s (fun t => t.rd (QFB_PSTATUS.STATE p) = 2 ∧ t.on (QFB_PSTATUS.LINK_LOST p) = true ∧ t.rd (QFB_PEER.VALID p) = 0)) ∧
  (∀ (p : QPort) (h : QHello) (sn dg : Nat) (s : State), s.rd (QFB_PSTATUS.STATE p) = 3 → s.watch.armed.isNone = true → (s.qport p).nbr = some (sn, dg) → completes (.hello p .good h) s (fun t =>
    (sn = h.serial.toNat → t.rd (QFB_PSTATUS.STATE p) = 3 ∧ t.rd (QFB_PEER.ADDR p) = h.addr.toNat ∧ t.rd (QFB_PEER.VALID p) = b2n h.valid) ∧
    (sn ≠ h.serial.toNat → t.rd (QFB_PSTATUS.STATE p) = 2 ∧ t.on (QFB_PSTATUS.LINK_LOST p) = true))) ∧
  (∀ (p : QPort) (s : State), s.rd (QFB_PSTATUS.STATE p) = 3 → s.watch.armed.isNone = true → s.qfb.ports.length = 4 →
    completes (.heartbeat p .good) s (fun t => (t.qport p).lastRx = s.sys.time ∧ t.regs = s.regs) ∧
    completes (.heartbeat p .badHeader) s (fun t => (t.qport p).lastRx = (s.qport p).lastRx ∧ t.on (QFB_PSTATUS.CRC_ERR p) = true ∧ t.rd (QFB_PCNT.DISCARDED p) = satU 16 (s.rd (QFB_PCNT.DISCARDED p) + 1))) ∧
  (∀ (p : QPort) (l : QLsa) (s : State), s.rd (QFB_PSTATUS.STATE p) = 3 → s.watch.armed.isNone = true → l.origin.toNat ≠ s.serial →
    (match s.lsaOf l.origin.toNat with | some o => stampNewer l.seq.toNat o.seq | none => decide (s.qfb.lsas.length < 1024)) = true →
    completes (.lsa p .good l) s (fun t => t.rd QFB_CNT.LSAS = satU 16 (s.rd QFB_CNT.LSAS + 1))) ∧
  (∀ (p : QPort) (l : QLsa) (o x : Lsa) (s : State), s.rd (QFB_PSTATUS.STATE p) = 3 → s.watch.armed.isNone = true → l.origin.toNat ≠ s.serial → s.lsaOf l.origin.toNat = some o →
    x = { origin := l.origin.toNat, addr := l.addr.toNat, assigned := l.assigned, valid := l.valid, seq := l.seq.toNat, nbrs := [l.n0.toNat, l.n1.toNat, l.n2.toNat, l.n3.toNat], time := s.sys.time } →
    completes (.lsa p .good l) s (fun t => (stampNewer l.seq.toNat o.seq = false → t.qfb.lsas = s.qfb.lsas ∧ t.regs = s.regs) ∧
      (stampNewer l.seq.toNat o.seq = true → o.same x = true → s.on QFB_ADDR.ASSIGNED = true → t.qfb.lsas = s.qfb.lsas.filter (fun m => m.origin != l.origin.toNat) ++ [x] ∧ t.qfb.routes = s.qfb.routes))) ∧
  (∀ (p : QPort) (f0 f1 f2 : BitVec 8) (s : State), s.rd (QFB_PSTATUS.STATE p) = 3 → s.watch.armed.isNone = true → s.qfb.ports.length = 4 → (s.qport p).sendQ = [] →
    completes (.credit p .good f0 f1 f2) s (fun t => (t.qport p).credits = [(s.qport p).credits.getD 0 0 + f0.toNat, (s.qport p).credits.getD 1 0 + f1.toNat, (s.qport p).credits.getD 2 0 + f2.toNat] ∧ t.regs = s.regs)) ∧
  (∀ (p : QPort) (d : List Byte) (s : State), s.rd (QFB_PSTATUS.STATE p) = 3 → s.watch.armed.isNone = true → completes (.mgmt p .good d) s (fun t => t.out = s.out ++ [.helmMessage d] ∧ t.regs = s.regs)) ∧
  (∀ (p : QPort) (s : State), s.qfb.ports.length = 4 → (s.rd (QFB_PSTATUS.STATE p) = 3 ∨ s.rd (QFB_PSTATUS.STATE p) = 2 → completes (.helloSend p) s (fun t => (t.qport p).lastTx = s.sys.time ∧ t.regs = s.regs ∧ t.out.length = s.out.length + 1)) ∧
    (s.rd (QFB_PSTATUS.STATE p) = 3 → (s.qport p).lastTx + s.rd QFB_TIMER_CFG.HB_PERIOD * 25000 ≤ s.sys.time → completes (.heartbeatSend p) s (fun t => (t.qport p).lastTx = s.sys.time ∧ t.regs = s.regs ∧ t.out.length = s.out.length + 1))) ∧
  (∀ s : State, s.running = true → s.qfb.lsaTime + 2500000000 ≤ s.sys.time → completes .lsaOriginate s (fun t => t.qfb.lsaSeq = (s.qfb.lsaSeq + 1) % 2 ^ 32 ∧ t.qfb.lsaTime = s.sys.time ∧ (t.lsaOf s.serial).map (fun l => l.seq) = some ((s.qfb.lsaSeq + 1) % 2 ^ 32))) ∧
  (∀ s : State, completes .lsaExpire s (fun t => t.qfb.lsas = s.qfb.lsas.filter (fun l => l.origin == s.serial || decide (s.sys.time < l.time + unitsPerSecond)))) ∧
  (∀ (a : Nat) (s : State), s.on QFB_ADDR.VALID = false → s.running = true → s.on SYS_MODE.RESCUE = false → s.qfb.dbTime + 25000000 ≤ s.sys.time → a ≤ 1022 →
    (s.persist.quayAddr = some a ∧ (s.qfb.lsas.filter (fun l => l.valid && l.origin != s.serial)).any (fun l => l.addr == a) = false) ∨ (s.persist.quayAddr = none ∧ s.qfb.lsas.all (fun l => l.valid || l.origin == s.serial) = true ∧
      a = lowestFree ((s.qfb.lsas.filter (fun l => l.valid && l.origin != s.serial)).map (fun l => l.addr)) 1024 0) →
    completes .addressAssign s (fun t => t.rd QFB_ADDR.ADDR = a ∧ t.on QFB_ADDR.VALID = true ∧ t.on QFB_ADDR.ASSIGNED = true)) ∧
  (∀ (p : QPort) (s : State), s.rd (QFB_PSTATUS.STATE p) = 3 → s.qfb.ports.length = 4 → (s.qport p).freed.any (fun n => n != 0) = true → (8 ≤ (s.qport p).freed.sum ∨ (s.qport p).freedAt + usUnits ≤ s.sys.time) →
    completes (.creditSend p) s (fun t => (t.qport p).freed = (s.qport p).freed.map (fun n => n - min n 255) ∧ t.regs = s.regs ∧ t.out.length = s.out.length + 1)) ∧
  (∀ (p : QPort) (s : State), completes (.relayTimeout p) s (fun t => (t.qport p).sendQ = (s.qport p).sendQ.filter (fun e => !(e.relayed && decide (e.since + s.rd QFB_TIMER_CFG.RELAY_MAX * 25000 ≤ s.sys.time)))))

/-- Quay data frames, transfers, windows, media requests and their timers: where each completes and what then holds (R409, R414, R418, R420, R421,
R422, R423, R424, R425, R426.) Of an in-order frame for this address on an UP port, no injection armed. One for another address with a route over
a port that is not UP: queued there with TTL less 1. DATA at its offset: added to the running transfer it belongs to, outbound or an uncommitted
media write. COMMIT of a media write with all bytes, right CRC and length: committed; of a window write into an allowed window, no stored bit
inverted: one outcome more, status 0, the transfer gone. RESULT of a push that is neither abandoned nor waiting: 0 ends the command SUCCESS with
its LBA, NO_XFER ends it PEER_UNREACHABLE, both close the transfer; RETRY with a status makes it wait. DONE removes the outcome it names; DONE
and CANCEL a read. READ_REQ of an allowed window and MEDIA_REQ that may be made, with a tag free, open an inbound transfer; the second is one
fetched command more of its class. COMMIT_REPEAT notes the time of each write in doubt with a route after 1 ms. RETRY_RESEND of one waiting 100
us: within 20 ms a pull runs again under a new XFER_ID, later a push ends PEER_REFUSED (0x51). TRANSFER_RESTART of a quiet pull after
ROUTE_QUIET: with a route it runs under a new XFER_ID, counted and shown, else it ends PEER_UNREACHABLE. OUTCOME_DROP removes outcomes held
RECORD_HOLD. STAGING_DISCARD removes open transfers without a route or idle for STAGE_HOLD, uncommitted media reads apart; XFER_IDLE_ABANDON
those with data idle for XFER_IDLE. -/
def Obligations.QuayTransfers : Prop :=
  (∀ (p : QPort) (h : QHdr) (d : List Byte) (r : Route) (s : State), s.rd (QFB_PSTATUS.STATE p) = 3 → s.watch.armed.isNone = true → h.cls.toNat < 3 → s.on QFB_ADDR.VALID = true → h.dst.toNat ≠ s.rd QFB_ADDR.ADDR → h.ttl.toNat ≠ 0 →
    s.route? h.dst.toNat = some r → r.port < 4 → s.qfb.ports.length = 4 → s.rd (QFB_PSTATUS.STATE r.port) ≠ 3 →
    completes (.dataFrame p .good h d) s (fun t => (t.qport r.port).sendQ = (s.qport r.port).sendQ ++ [{ frame := { typ := 1, cls := h.cls.toNat, ttl := h.ttl.toNat - 1, dst := h.dst.toNat, src := h.src.toNat, seq := h.seq.toNat, xid := h.xid.toNat, ofs := h.ofs.toNat, payload := d }, relayed := true, inPort := p.val, since := s.sys.time }] ∧ t.mem = s.mem)) ∧
  (∀ (p : QPort) (h : QHdr) (d : List Byte) (x : XOut) (s : State), s.inOrder p h = true → s.xoutOf h = some x → (match x.work with | .lgtRead _ => true | .pull _ => true | _ => false) = true → x.phase = .running → h.ofs.toNat = x.data.length →
    completes (.dataFrame p .good h d) s (fun t => (t.xoutOf h).map (fun y => y.data) = some (x.data ++ d))) ∧
  (∀ (p : QPort) (h : QHdr) (d : List Byte) (op l n a : Nat) (x : XIn) (s : State), s.inOrder p h = true → s.xoutOf h = none → s.xin? h = some x → x.ask = .media op l n a → op ≠ 0 → x.committed = false → h.ofs.toNat = x.data.length →
    completes (.dataFrame p .good h d) s (fun t => (t.xin? h).map (fun y => y.data) = some (x.data ++ d))) ∧
  (∀ (p : QPort) (h : QHdr) (total crc : BitVec 32) (base : BitVec 36) (op l n a : Nat) (x : XIn) (s : State), s.inOrder p h = true → s.xoutOf h = none → s.qfb.outcomes.any (fun o => o.src == h.src.toNat && o.xid == h.xid.toNat) = false →
    s.xin? h = some x → x.ask = .media op l n a → op ≠ 0 → x.committed = false → x.data.length = total.toNat → crc32c x.data = crc → total.toNat = 4096 * n →
    completes (.commitFrame p .good h total crc base) s (fun t => (t.xin? h).map (fun y => y.committed) = some true)) ∧
  (∀ (p : QPort) (h : QHdr) (total crc : BitVec 32) (base : BitVec 36) (w g : Nat) (m : PageMap) (x : XIn) (s : State), s.inOrder p h = true → s.xoutOf h = none → s.qfb.outcomes.any (fun o => o.src == h.src.toNat && o.xid == h.xid.toNat) = false →
    s.xin? h = some x → x.ask = .window → s.mem.flips = [] → x.tag = some g → x.data.length = total.toNat → crc32c x.data = crc → s.windowFor true base.toNat total.toNat = some w → s.allowed x.src = true → s.pageMap? g = some m →
    ((base.toNat - 4096 * s.rd (QFB_WIN_BASE.BASE w)) % 4096 + total.toNat + 4095) / 4096 ≤ m.ents.length →
    completes (.commitFrame p .good h total crc base) s (fun t => t.qfb.outcomes.map (fun o => (o.xid, o.src, o.status)) = s.qfb.outcomes.map (fun o => (o.xid, o.src, o.status)) ++ [(h.xid.toNat, h.src.toNat, 0)] ∧ (t.xin? h).isNone = true)) ∧
  (∀ (p : QPort) (h : QHdr) (lba : BitVec 40) (tag : Nat) (c : Cmd) (x : XOut) (s : State), s.inOrder p h = true → s.xoutOf h = some x → x.work = .push tag → x.phase ≠ .quiet → x.phase ≠ .retryWait → s.cmd? tag = some c → c.status = 0 →
    completes (.resultFrame p .good h 0 false false lba) s (fun t => t.endedWith tag 0 = true ∧ (t.cmd? tag).bind (fun d => d.first) = some lba.toNat ∧ (t.xoutOf h).isNone = true) ∧
    completes (.resultFrame p .good h 0 false true lba) s (fun t => t.endedWith tag 0x50 = true ∧ (t.xoutOf h).isNone = true) ∧
    completes (.resultFrame p .good h 0x16 true false lba) s (fun t => (t.xoutOf h).map (fun y => (y.phase, y.refused)) = some (.retryWait, 0x16) ∧ t.cmds = s.cmds)) ∧
  (∀ (p : QPort) (h : QHdr) (s : State), s.inOrder p h = true → s.xin? h = none → completes (.doneFrame p .good h) s (fun t => t.qfb.outcomes = s.qfb.outcomes.filter (fun o => !(o.src == h.src.toNat && o.xid == h.xid.toNat)))) ∧
  (∀ (p : QPort) (h : QHdr) (a n : Nat) (x : XIn) (s : State), s.inOrder p h = true → s.xin? h = some x → x.ask = .read a n → completes (.doneFrame p .good h) s (fun t => (t.xin? h).isNone = true) ∧
    completes (.cancelFrame p .good h) s (fun t => (t.xin? h).isNone = true)) ∧
  (∀ (p : QPort) (h : QHdr) (a : BitVec 36) (len : BitVec 32) (w : Nat) (s : State), s.inOrder p h = true → s.windowFor false a.toNat len.toNat = some w → s.allowed h.src.toNat = true → 0 < len.toNat → len.toNat ≤ 16777215 → s.xin? h = none → s.qfb.ins.length < 128 →
    ((s.received p h).readMap 14 (s.rd (QFB_WIN_CFG.TAG w)) (len.toNat / 4096 + 2) (a.toNat - 4096 * s.rd (QFB_WIN_BASE.BASE w)) len.toNat).2.2 = false →
    completes (.readReq p .good h a len) s (fun t => (t.xin? h).map (fun y => (y.ask, y.cls, y.committed)) = some (.read a.toNat len.toNat, h.cls.toNat, true))) ∧
  (∀ (p : QPort) (h : QHdr) (op : BitVec 8) (rl : BitVec 2) (n : BitVec 16) (lba : BitVec 40) (g : Nat) (s : State), s.inOrder p h = true → op.toNat < 3 → s.xin? h = none → s.qfb.outcomes.any (fun o => o.src == h.src.toNat && o.xid == h.xid.toNat) = false →
    s.allowed h.src.toNat = true → s.on SYS_MODE.RESCUE = false → s.qfb.outcomes.length < 256 → s.qfb.ins.length < 128 → s.sch.activate = none → s.ownTag = some g →
    completes (.mediaReq p .good h op rl n lba) s (fun t => t.cmds.length = s.cmds.length + 1 ∧ (t.cmd? g).map (fun c => (c.src, c.cls, c.phase)) = some (.peer h.src.toNat h.xid.toNat, h.cls.toNat + 1, .fetched) ∧ (t.xin? h).isSome = true)) ∧
  (∀ s : State, (s.qfb.outs.map (fun x => x.xid)).Nodup → completes .commitRepeat s (fun t => t.qfb.outs = s.qfb.outs.map (fun x =>
    if x.phase == .inDoubt && (s.route? x.dst).isSome && decide (x.last + 25000000 ≤ s.sys.time) && (match x.work with | .push _ => true | .lgtWrite _ => true | _ => false) then { x with last := s.sys.time } else x))) ∧
  (∀ (tag : Nat) (c : Cmd) (x : XOut) (r0 : Nat) (s : State), s.qfb.outs = [x] → x.phase = .retryWait → x.retryFrom = some r0 → x.last + 2500000 ≤ s.sys.time →
    (s.sys.time < r0 + 500000000 → x.work = .pull tag → completes .retryResend s (fun t => t.qfb.outs.map (fun y => (y.xid, y.phase, y.data)) = [(s.qfb.nextXid, .running, [])] ∧ t.qfb.nextXid = (s.qfb.nextXid + 1) % 2 ^ 32)) ∧
    (r0 + 500000000 ≤ s.sys.time → x.work = .push tag → s.cmd? tag = some c → c.status = 0 → completes .retryResend s (fun t => t.qfb.outs = [] ∧ t.endedWith tag 0x51 = true))) ∧
  (∀ (tag : Nat) (c : Cmd) (x : XOut) (s : State), s.qfb.outs = [x] → x.phase = .quiet → x.work = .pull tag → x.last + s.rd QFB_TIMER_CFG.ROUTE_QUIET * 25000 ≤ s.sys.time →
    ((s.route? x.dst).isSome = true → completes .transferRestart s (fun t => t.qfb.outs.map (fun y => (y.xid, y.phase, y.data)) = [(s.qfb.nextXid, .running, [])] ∧ t.on QFB_STATUS.XFER_RESTART = true ∧ t.rd QFB_CNT.RESTARTS = satU 16 (s.rd QFB_CNT.RESTARTS + 1))) ∧
    ((s.route? x.dst).isSome = false → s.cmd? tag = some c → c.status = 0 → completes .transferRestart s (fun t => t.qfb.outs = [] ∧ t.endedWith tag 0x50 = true))) ∧
  (∀ s : State, completes .outcomeDrop s (fun t => t.qfb.outcomes = s.qfb.outcomes.filter (fun o => match o.since with | some u => decide (s.sys.time < u + s.rd QFB_XFER_CFG.RECORD_HOLD * unitsPerSecond) | none => true))) ∧
  (∀ s : State, completes .stagingDiscard s (fun t => t.qfb.ins = s.qfb.ins.filter (fun y => !(s.qfb.ins.filter (fun x => x.isOpen && ((s.route? x.src).isNone || decide (x.last + s.rd QFB_XFER_CFG.STAGE_HOLD * 25000000 ≤ s.sys.time)) &&
    (match x.ask with | .media op _ _ _ => op != 0 || x.committed | _ => true))).any (fun x => y.src == x.src && y.xid == x.xid)))) ∧
  (∀ s : State, completes .xferIdleAbandon s (fun t => t.qfb.ins = s.qfb.ins.filter (fun y => !(s.qfb.ins.filter (fun x => x.isOpen && decide (0 < x.data.length) && decide (x.last + s.rd QFB_XFER_CFG.XFER_IDLE * 25000000 ≤ s.sys.time))).any (fun x => y.src == x.src && y.xid == x.xid))))
end

