-- ==== Sys2Proof/Laws/Code.lean ====
section
/-! SUPPORT. The code of a sector (R83, R84): the syndrome weight never exceeds the 4,224 checks. -/

set_option Elab.async false
namespace Sys2Proof.Machine

/-- No more ones than bits. -/
theorem onesOf_le (x n : Nat) : onesOf x n ≤ n := by
  induction n with
  | zero => simp [onesOf]
  | succ n ih => simp only [onesOf, b2n]; split <;> omega

/-- A sum of counts over `n` bits. -/
theorem foldl_onesOf_le (l : List Nat) (a n : Nat) : (l.map (fun v => onesOf v n)).foldl (· + ·) a ≤ a + n * l.length := by
  induction l generalizing a with
  | nil => simp
  | cons v l ih =>
    have h := ih (a + onesOf v n)
    have := onesOf_le v n
    simp only [List.map_cons, List.foldl_cons, List.length_cons, Nat.mul_add]
    omega

/-- The syndrome weight is at most 4,224 (R84). -/
theorem syndromeWeight_le (word : Nat) : syndromeWeight word ≤ 4224 := by
  have h := foldl_onesOf_le (syndromeRows word) 0 128
  have hl : (syndromeRows word).length ≤ 33 := by
    simp only [syndromeRows, List.length_map, List.length_zip, List.length_range]
    omega
  have : 128 * (syndromeRows word).length ≤ 128 * 33 := Nat.mul_le_mul_left _ hl
  simp only [syndromeWeight]
  omega

end Sys2Proof.Machine
end

