-- ==== Sys2Proof/Laws/State.lean ====
section
/-! SUPPORT. Field laws of the state updates: what each named update leaves and what it writes, one lemma per field. -/

set_option Elab.async false

namespace Sys2Proof.Machine

/-! ### `State.setReg` -/

@[simp] theorem State.setReg_regs (s : State) (a : Nat) (w : Word) : (s.setReg a w).regs = sparseSet (resetVal a) s.regs a w := rfl
@[simp] theorem State.setReg_bell (s : State) (a : Nat) (w : Word) : (s.setReg a w).bell = s.bell := rfl
@[simp] theorem State.setReg_sys (s : State) (a : Nat) (w : Word) : (s.setReg a w).sys = s.sys := rfl
@[simp] theorem State.setReg_watch (s : State) (a : Nat) (w : Word) : (s.setReg a w).watch = s.watch := rfl
@[simp] theorem State.setReg_mem (s : State) (a : Nat) (w : Word) : (s.setReg a w).mem = s.mem := rfl
@[simp] theorem State.setReg_dram (s : State) (a : Nat) (w : Word) : (s.setReg a w).dram = s.dram := rfl
@[simp] theorem State.setReg_media (s : State) (a : Nat) (w : Word) : (s.setReg a w).media = s.media := rfl
@[simp] theorem State.setReg_chans (s : State) (a : Nat) (w : Word) : (s.setReg a w).chans = s.chans := rfl
@[simp] theorem State.setReg_dec (s : State) (a : Nat) (w : Word) : (s.setReg a w).dec = s.dec := rfl
@[simp] theorem State.setReg_wrp (s : State) (a : Nat) (w : Word) : (s.setReg a w).wrp = s.wrp := rfl
@[simp] theorem State.setReg_srv (s : State) (a : Nat) (w : Word) : (s.setReg a w).srv = s.srv := rfl
@[simp] theorem State.setReg_ctl (s : State) (a : Nat) (w : Word) : (s.setReg a w).ctl = s.ctl := rfl
@[simp] theorem State.setReg_mot (s : State) (a : Nat) (w : Word) : (s.setReg a w).mot = s.mot := rfl
@[simp] theorem State.setReg_seqs (s : State) (a : Nat) (w : Word) : (s.setReg a w).seqs = s.seqs := rfl
@[simp] theorem State.setReg_stores (s : State) (a : Nat) (w : Word) : (s.setReg a w).stores = s.stores := rfl
@[simp] theorem State.setReg_lgt (s : State) (a : Nat) (w : Word) : (s.setReg a w).lgt = s.lgt := rfl
@[simp] theorem State.setReg_pack (s : State) (a : Nat) (w : Word) : (s.setReg a w).pack = s.pack := rfl
@[simp] theorem State.setReg_link (s : State) (a : Nat) (w : Word) : (s.setReg a w).link = s.link := rfl
@[simp] theorem State.setReg_bq (s : State) (a : Nat) (w : Word) : (s.setReg a w).bq = s.bq := rfl
@[simp] theorem State.setReg_cmds (s : State) (a : Nat) (w : Word) : (s.setReg a w).cmds = s.cmds := rfl
@[simp] theorem State.setReg_sch (s : State) (a : Nat) (w : Word) : (s.setReg a w).sch = s.sch := rfl
@[simp] theorem State.setReg_qfb (s : State) (a : Nat) (w : Word) : (s.setReg a w).qfb = s.qfb := rfl
@[simp] theorem State.setReg_out (s : State) (a : Nat) (w : Word) : (s.setReg a w).out = s.out := rfl
@[simp] theorem State.setReg_freeCtr (s : State) (a : Nat) (w : Word) : (s.setReg a w).freeCtr = s.freeCtr := rfl
@[simp] theorem State.setReg_pending (s : State) (a : Nat) (w : Word) : (s.setReg a w).pending = s.pending := rfl

/-! ### `State.wr` -/

@[simp] theorem State.wr_bell (s : State) (f : Fld) (x : Nat) : (s.wr f x).bell = s.bell := rfl
@[simp] theorem State.wr_sys (s : State) (f : Fld) (x : Nat) : (s.wr f x).sys = s.sys := rfl
@[simp] theorem State.wr_watch (s : State) (f : Fld) (x : Nat) : (s.wr f x).watch = s.watch := rfl
@[simp] theorem State.wr_mem (s : State) (f : Fld) (x : Nat) : (s.wr f x).mem = s.mem := rfl
@[simp] theorem State.wr_dram (s : State) (f : Fld) (x : Nat) : (s.wr f x).dram = s.dram := rfl
@[simp] theorem State.wr_media (s : State) (f : Fld) (x : Nat) : (s.wr f x).media = s.media := rfl
@[simp] theorem State.wr_chans (s : State) (f : Fld) (x : Nat) : (s.wr f x).chans = s.chans := rfl
@[simp] theorem State.wr_dec (s : State) (f : Fld) (x : Nat) : (s.wr f x).dec = s.dec := rfl
@[simp] theorem State.wr_wrp (s : State) (f : Fld) (x : Nat) : (s.wr f x).wrp = s.wrp := rfl
@[simp] theorem State.wr_srv (s : State) (f : Fld) (x : Nat) : (s.wr f x).srv = s.srv := rfl
@[simp] theorem State.wr_ctl (s : State) (f : Fld) (x : Nat) : (s.wr f x).ctl = s.ctl := rfl
@[simp] theorem State.wr_mot (s : State) (f : Fld) (x : Nat) : (s.wr f x).mot = s.mot := rfl
@[simp] theorem State.wr_seqs (s : State) (f : Fld) (x : Nat) : (s.wr f x).seqs = s.seqs := rfl
@[simp] theorem State.wr_stores (s : State) (f : Fld) (x : Nat) : (s.wr f x).stores = s.stores := rfl
@[simp] theorem State.wr_lgt (s : State) (f : Fld) (x : Nat) : (s.wr f x).lgt = s.lgt := rfl
@[simp] theorem State.wr_pack (s : State) (f : Fld) (x : Nat) : (s.wr f x).pack = s.pack := rfl
@[simp] theorem State.wr_link (s : State) (f : Fld) (x : Nat) : (s.wr f x).link = s.link := rfl
@[simp] theorem State.wr_bq (s : State) (f : Fld) (x : Nat) : (s.wr f x).bq = s.bq := rfl
@[simp] theorem State.wr_cmds (s : State) (f : Fld) (x : Nat) : (s.wr f x).cmds = s.cmds := rfl
@[simp] theorem State.wr_sch (s : State) (f : Fld) (x : Nat) : (s.wr f x).sch = s.sch := rfl
@[simp] theorem State.wr_qfb (s : State) (f : Fld) (x : Nat) : (s.wr f x).qfb = s.qfb := rfl
@[simp] theorem State.wr_out (s : State) (f : Fld) (x : Nat) : (s.wr f x).out = s.out := rfl
@[simp] theorem State.wr_freeCtr (s : State) (f : Fld) (x : Nat) : (s.wr f x).freeCtr = s.freeCtr := rfl
@[simp] theorem State.wr_pending (s : State) (f : Fld) (x : Nat) : (s.wr f x).pending = s.pending := rfl

/-! ### `State.setB` -/

@[simp] theorem State.setB_bell (s : State) (f : Fld) : (s.setB f).bell = s.bell := rfl
@[simp] theorem State.setB_sys (s : State) (f : Fld) : (s.setB f).sys = s.sys := rfl
@[simp] theorem State.setB_watch (s : State) (f : Fld) : (s.setB f).watch = s.watch := rfl
@[simp] theorem State.setB_mem (s : State) (f : Fld) : (s.setB f).mem = s.mem := rfl
@[simp] theorem State.setB_dram (s : State) (f : Fld) : (s.setB f).dram = s.dram := rfl
@[simp] theorem State.setB_media (s : State) (f : Fld) : (s.setB f).media = s.media := rfl
@[simp] theorem State.setB_chans (s : State) (f : Fld) : (s.setB f).chans = s.chans := rfl
@[simp] theorem State.setB_dec (s : State) (f : Fld) : (s.setB f).dec = s.dec := rfl
@[simp] theorem State.setB_wrp (s : State) (f : Fld) : (s.setB f).wrp = s.wrp := rfl
@[simp] theorem State.setB_srv (s : State) (f : Fld) : (s.setB f).srv = s.srv := rfl
@[simp] theorem State.setB_ctl (s : State) (f : Fld) : (s.setB f).ctl = s.ctl := rfl
@[simp] theorem State.setB_mot (s : State) (f : Fld) : (s.setB f).mot = s.mot := rfl
@[simp] theorem State.setB_seqs (s : State) (f : Fld) : (s.setB f).seqs = s.seqs := rfl
@[simp] theorem State.setB_stores (s : State) (f : Fld) : (s.setB f).stores = s.stores := rfl
@[simp] theorem State.setB_lgt (s : State) (f : Fld) : (s.setB f).lgt = s.lgt := rfl
@[simp] theorem State.setB_pack (s : State) (f : Fld) : (s.setB f).pack = s.pack := rfl
@[simp] theorem State.setB_link (s : State) (f : Fld) : (s.setB f).link = s.link := rfl
@[simp] theorem State.setB_bq (s : State) (f : Fld) : (s.setB f).bq = s.bq := rfl
@[simp] theorem State.setB_cmds (s : State) (f : Fld) : (s.setB f).cmds = s.cmds := rfl
@[simp] theorem State.setB_sch (s : State) (f : Fld) : (s.setB f).sch = s.sch := rfl
@[simp] theorem State.setB_qfb (s : State) (f : Fld) : (s.setB f).qfb = s.qfb := rfl
@[simp] theorem State.setB_out (s : State) (f : Fld) : (s.setB f).out = s.out := rfl
@[simp] theorem State.setB_freeCtr (s : State) (f : Fld) : (s.setB f).freeCtr = s.freeCtr := rfl
@[simp] theorem State.setB_pending (s : State) (f : Fld) : (s.setB f).pending = s.pending := rfl

/-! ### `State.clr` -/

@[simp] theorem State.clr_bell (s : State) (f : Fld) : (s.clr f).bell = s.bell := rfl
@[simp] theorem State.clr_sys (s : State) (f : Fld) : (s.clr f).sys = s.sys := rfl
@[simp] theorem State.clr_watch (s : State) (f : Fld) : (s.clr f).watch = s.watch := rfl
@[simp] theorem State.clr_mem (s : State) (f : Fld) : (s.clr f).mem = s.mem := rfl
@[simp] theorem State.clr_dram (s : State) (f : Fld) : (s.clr f).dram = s.dram := rfl
@[simp] theorem State.clr_media (s : State) (f : Fld) : (s.clr f).media = s.media := rfl
@[simp] theorem State.clr_chans (s : State) (f : Fld) : (s.clr f).chans = s.chans := rfl
@[simp] theorem State.clr_dec (s : State) (f : Fld) : (s.clr f).dec = s.dec := rfl
@[simp] theorem State.clr_wrp (s : State) (f : Fld) : (s.clr f).wrp = s.wrp := rfl
@[simp] theorem State.clr_srv (s : State) (f : Fld) : (s.clr f).srv = s.srv := rfl
@[simp] theorem State.clr_ctl (s : State) (f : Fld) : (s.clr f).ctl = s.ctl := rfl
@[simp] theorem State.clr_mot (s : State) (f : Fld) : (s.clr f).mot = s.mot := rfl
@[simp] theorem State.clr_seqs (s : State) (f : Fld) : (s.clr f).seqs = s.seqs := rfl
@[simp] theorem State.clr_stores (s : State) (f : Fld) : (s.clr f).stores = s.stores := rfl
@[simp] theorem State.clr_lgt (s : State) (f : Fld) : (s.clr f).lgt = s.lgt := rfl
@[simp] theorem State.clr_pack (s : State) (f : Fld) : (s.clr f).pack = s.pack := rfl
@[simp] theorem State.clr_link (s : State) (f : Fld) : (s.clr f).link = s.link := rfl
@[simp] theorem State.clr_bq (s : State) (f : Fld) : (s.clr f).bq = s.bq := rfl
@[simp] theorem State.clr_cmds (s : State) (f : Fld) : (s.clr f).cmds = s.cmds := rfl
@[simp] theorem State.clr_sch (s : State) (f : Fld) : (s.clr f).sch = s.sch := rfl
@[simp] theorem State.clr_qfb (s : State) (f : Fld) : (s.clr f).qfb = s.qfb := rfl
@[simp] theorem State.clr_out (s : State) (f : Fld) : (s.clr f).out = s.out := rfl
@[simp] theorem State.clr_freeCtr (s : State) (f : Fld) : (s.clr f).freeCtr = s.freeCtr := rfl
@[simp] theorem State.clr_pending (s : State) (f : Fld) : (s.clr f).pending = s.pending := rfl

/-! ### `State.inc` -/

@[simp] theorem State.inc_bell (s : State) (f : Fld) : (s.inc f).bell = s.bell := rfl
@[simp] theorem State.inc_sys (s : State) (f : Fld) : (s.inc f).sys = s.sys := rfl
@[simp] theorem State.inc_watch (s : State) (f : Fld) : (s.inc f).watch = s.watch := rfl
@[simp] theorem State.inc_mem (s : State) (f : Fld) : (s.inc f).mem = s.mem := rfl
@[simp] theorem State.inc_dram (s : State) (f : Fld) : (s.inc f).dram = s.dram := rfl
@[simp] theorem State.inc_media (s : State) (f : Fld) : (s.inc f).media = s.media := rfl
@[simp] theorem State.inc_chans (s : State) (f : Fld) : (s.inc f).chans = s.chans := rfl
@[simp] theorem State.inc_dec (s : State) (f : Fld) : (s.inc f).dec = s.dec := rfl
@[simp] theorem State.inc_wrp (s : State) (f : Fld) : (s.inc f).wrp = s.wrp := rfl
@[simp] theorem State.inc_srv (s : State) (f : Fld) : (s.inc f).srv = s.srv := rfl
@[simp] theorem State.inc_ctl (s : State) (f : Fld) : (s.inc f).ctl = s.ctl := rfl
@[simp] theorem State.inc_mot (s : State) (f : Fld) : (s.inc f).mot = s.mot := rfl
@[simp] theorem State.inc_seqs (s : State) (f : Fld) : (s.inc f).seqs = s.seqs := rfl
@[simp] theorem State.inc_stores (s : State) (f : Fld) : (s.inc f).stores = s.stores := rfl
@[simp] theorem State.inc_lgt (s : State) (f : Fld) : (s.inc f).lgt = s.lgt := rfl
@[simp] theorem State.inc_pack (s : State) (f : Fld) : (s.inc f).pack = s.pack := rfl
@[simp] theorem State.inc_link (s : State) (f : Fld) : (s.inc f).link = s.link := rfl
@[simp] theorem State.inc_bq (s : State) (f : Fld) : (s.inc f).bq = s.bq := rfl
@[simp] theorem State.inc_cmds (s : State) (f : Fld) : (s.inc f).cmds = s.cmds := rfl
@[simp] theorem State.inc_sch (s : State) (f : Fld) : (s.inc f).sch = s.sch := rfl
@[simp] theorem State.inc_qfb (s : State) (f : Fld) : (s.inc f).qfb = s.qfb := rfl
@[simp] theorem State.inc_out (s : State) (f : Fld) : (s.inc f).out = s.out := rfl
@[simp] theorem State.inc_freeCtr (s : State) (f : Fld) : (s.inc f).freeCtr = s.freeCtr := rfl
@[simp] theorem State.inc_pending (s : State) (f : Fld) : (s.inc f).pending = s.pending := rfl

/-! ### `State.addC` -/

@[simp] theorem State.addC_bell (s : State) (f : Fld) (n : Nat) : (s.addC f n).bell = s.bell := rfl
@[simp] theorem State.addC_sys (s : State) (f : Fld) (n : Nat) : (s.addC f n).sys = s.sys := rfl
@[simp] theorem State.addC_watch (s : State) (f : Fld) (n : Nat) : (s.addC f n).watch = s.watch := rfl
@[simp] theorem State.addC_mem (s : State) (f : Fld) (n : Nat) : (s.addC f n).mem = s.mem := rfl
@[simp] theorem State.addC_dram (s : State) (f : Fld) (n : Nat) : (s.addC f n).dram = s.dram := rfl
@[simp] theorem State.addC_media (s : State) (f : Fld) (n : Nat) : (s.addC f n).media = s.media := rfl
@[simp] theorem State.addC_chans (s : State) (f : Fld) (n : Nat) : (s.addC f n).chans = s.chans := rfl
@[simp] theorem State.addC_dec (s : State) (f : Fld) (n : Nat) : (s.addC f n).dec = s.dec := rfl
@[simp] theorem State.addC_wrp (s : State) (f : Fld) (n : Nat) : (s.addC f n).wrp = s.wrp := rfl
@[simp] theorem State.addC_srv (s : State) (f : Fld) (n : Nat) : (s.addC f n).srv = s.srv := rfl
@[simp] theorem State.addC_ctl (s : State) (f : Fld) (n : Nat) : (s.addC f n).ctl = s.ctl := rfl
@[simp] theorem State.addC_mot (s : State) (f : Fld) (n : Nat) : (s.addC f n).mot = s.mot := rfl
@[simp] theorem State.addC_seqs (s : State) (f : Fld) (n : Nat) : (s.addC f n).seqs = s.seqs := rfl
@[simp] theorem State.addC_stores (s : State) (f : Fld) (n : Nat) : (s.addC f n).stores = s.stores := rfl
@[simp] theorem State.addC_lgt (s : State) (f : Fld) (n : Nat) : (s.addC f n).lgt = s.lgt := rfl
@[simp] theorem State.addC_pack (s : State) (f : Fld) (n : Nat) : (s.addC f n).pack = s.pack := rfl
@[simp] theorem State.addC_link (s : State) (f : Fld) (n : Nat) : (s.addC f n).link = s.link := rfl
@[simp] theorem State.addC_bq (s : State) (f : Fld) (n : Nat) : (s.addC f n).bq = s.bq := rfl
@[simp] theorem State.addC_cmds (s : State) (f : Fld) (n : Nat) : (s.addC f n).cmds = s.cmds := rfl
@[simp] theorem State.addC_sch (s : State) (f : Fld) (n : Nat) : (s.addC f n).sch = s.sch := rfl
@[simp] theorem State.addC_qfb (s : State) (f : Fld) (n : Nat) : (s.addC f n).qfb = s.qfb := rfl
@[simp] theorem State.addC_out (s : State) (f : Fld) (n : Nat) : (s.addC f n).out = s.out := rfl
@[simp] theorem State.addC_freeCtr (s : State) (f : Fld) (n : Nat) : (s.addC f n).freeCtr = s.freeCtr := rfl
@[simp] theorem State.addC_pending (s : State) (f : Fld) (n : Nat) : (s.addC f n).pending = s.pending := rfl

/-! ### `State.maxF` -/

@[simp] theorem State.maxF_bell (s : State) (f : Fld) (x : Nat) : (s.maxF f x).bell = s.bell := rfl
@[simp] theorem State.maxF_sys (s : State) (f : Fld) (x : Nat) : (s.maxF f x).sys = s.sys := rfl
@[simp] theorem State.maxF_watch (s : State) (f : Fld) (x : Nat) : (s.maxF f x).watch = s.watch := rfl
@[simp] theorem State.maxF_mem (s : State) (f : Fld) (x : Nat) : (s.maxF f x).mem = s.mem := rfl
@[simp] theorem State.maxF_dram (s : State) (f : Fld) (x : Nat) : (s.maxF f x).dram = s.dram := rfl
@[simp] theorem State.maxF_media (s : State) (f : Fld) (x : Nat) : (s.maxF f x).media = s.media := rfl
@[simp] theorem State.maxF_chans (s : State) (f : Fld) (x : Nat) : (s.maxF f x).chans = s.chans := rfl
@[simp] theorem State.maxF_dec (s : State) (f : Fld) (x : Nat) : (s.maxF f x).dec = s.dec := rfl
@[simp] theorem State.maxF_wrp (s : State) (f : Fld) (x : Nat) : (s.maxF f x).wrp = s.wrp := rfl
@[simp] theorem State.maxF_srv (s : State) (f : Fld) (x : Nat) : (s.maxF f x).srv = s.srv := rfl
@[simp] theorem State.maxF_ctl (s : State) (f : Fld) (x : Nat) : (s.maxF f x).ctl = s.ctl := rfl
@[simp] theorem State.maxF_mot (s : State) (f : Fld) (x : Nat) : (s.maxF f x).mot = s.mot := rfl
@[simp] theorem State.maxF_seqs (s : State) (f : Fld) (x : Nat) : (s.maxF f x).seqs = s.seqs := rfl
@[simp] theorem State.maxF_stores (s : State) (f : Fld) (x : Nat) : (s.maxF f x).stores = s.stores := rfl
@[simp] theorem State.maxF_lgt (s : State) (f : Fld) (x : Nat) : (s.maxF f x).lgt = s.lgt := rfl
@[simp] theorem State.maxF_pack (s : State) (f : Fld) (x : Nat) : (s.maxF f x).pack = s.pack := rfl
@[simp] theorem State.maxF_link (s : State) (f : Fld) (x : Nat) : (s.maxF f x).link = s.link := rfl
@[simp] theorem State.maxF_bq (s : State) (f : Fld) (x : Nat) : (s.maxF f x).bq = s.bq := rfl
@[simp] theorem State.maxF_cmds (s : State) (f : Fld) (x : Nat) : (s.maxF f x).cmds = s.cmds := rfl
@[simp] theorem State.maxF_sch (s : State) (f : Fld) (x : Nat) : (s.maxF f x).sch = s.sch := rfl
@[simp] theorem State.maxF_qfb (s : State) (f : Fld) (x : Nat) : (s.maxF f x).qfb = s.qfb := rfl
@[simp] theorem State.maxF_out (s : State) (f : Fld) (x : Nat) : (s.maxF f x).out = s.out := rfl
@[simp] theorem State.maxF_freeCtr (s : State) (f : Fld) (x : Nat) : (s.maxF f x).freeCtr = s.freeCtr := rfl
@[simp] theorem State.maxF_pending (s : State) (f : Fld) (x : Nat) : (s.maxF f x).pending = s.pending := rfl

/-! ### `State.wrS` -/

@[simp] theorem State.wrS_bell (s : State) (f : Fld) (z : Int) : (s.wrS f z).bell = s.bell := rfl
@[simp] theorem State.wrS_sys (s : State) (f : Fld) (z : Int) : (s.wrS f z).sys = s.sys := rfl
@[simp] theorem State.wrS_watch (s : State) (f : Fld) (z : Int) : (s.wrS f z).watch = s.watch := rfl
@[simp] theorem State.wrS_mem (s : State) (f : Fld) (z : Int) : (s.wrS f z).mem = s.mem := rfl
@[simp] theorem State.wrS_dram (s : State) (f : Fld) (z : Int) : (s.wrS f z).dram = s.dram := rfl
@[simp] theorem State.wrS_media (s : State) (f : Fld) (z : Int) : (s.wrS f z).media = s.media := rfl
@[simp] theorem State.wrS_chans (s : State) (f : Fld) (z : Int) : (s.wrS f z).chans = s.chans := rfl
@[simp] theorem State.wrS_dec (s : State) (f : Fld) (z : Int) : (s.wrS f z).dec = s.dec := rfl
@[simp] theorem State.wrS_wrp (s : State) (f : Fld) (z : Int) : (s.wrS f z).wrp = s.wrp := rfl
@[simp] theorem State.wrS_srv (s : State) (f : Fld) (z : Int) : (s.wrS f z).srv = s.srv := rfl
@[simp] theorem State.wrS_ctl (s : State) (f : Fld) (z : Int) : (s.wrS f z).ctl = s.ctl := rfl
@[simp] theorem State.wrS_mot (s : State) (f : Fld) (z : Int) : (s.wrS f z).mot = s.mot := rfl
@[simp] theorem State.wrS_seqs (s : State) (f : Fld) (z : Int) : (s.wrS f z).seqs = s.seqs := rfl
@[simp] theorem State.wrS_stores (s : State) (f : Fld) (z : Int) : (s.wrS f z).stores = s.stores := rfl
@[simp] theorem State.wrS_lgt (s : State) (f : Fld) (z : Int) : (s.wrS f z).lgt = s.lgt := rfl
@[simp] theorem State.wrS_pack (s : State) (f : Fld) (z : Int) : (s.wrS f z).pack = s.pack := rfl
@[simp] theorem State.wrS_link (s : State) (f : Fld) (z : Int) : (s.wrS f z).link = s.link := rfl
@[simp] theorem State.wrS_bq (s : State) (f : Fld) (z : Int) : (s.wrS f z).bq = s.bq := rfl
@[simp] theorem State.wrS_cmds (s : State) (f : Fld) (z : Int) : (s.wrS f z).cmds = s.cmds := rfl
@[simp] theorem State.wrS_sch (s : State) (f : Fld) (z : Int) : (s.wrS f z).sch = s.sch := rfl
@[simp] theorem State.wrS_qfb (s : State) (f : Fld) (z : Int) : (s.wrS f z).qfb = s.qfb := rfl
@[simp] theorem State.wrS_out (s : State) (f : Fld) (z : Int) : (s.wrS f z).out = s.out := rfl
@[simp] theorem State.wrS_freeCtr (s : State) (f : Fld) (z : Int) : (s.wrS f z).freeCtr = s.freeCtr := rfl
@[simp] theorem State.wrS_pending (s : State) (f : Fld) (z : Int) : (s.wrS f z).pending = s.pending := rfl

/-! ### `State.emit` -/

@[simp] theorem State.emit_regs (s : State) (e : OutEvent) : (s.emit e).regs = s.regs := rfl
@[simp] theorem State.emit_bell (s : State) (e : OutEvent) : (s.emit e).bell = s.bell := rfl
@[simp] theorem State.emit_sys (s : State) (e : OutEvent) : (s.emit e).sys = s.sys := rfl
@[simp] theorem State.emit_watch (s : State) (e : OutEvent) : (s.emit e).watch = s.watch := rfl
@[simp] theorem State.emit_mem (s : State) (e : OutEvent) : (s.emit e).mem = s.mem := rfl
@[simp] theorem State.emit_dram (s : State) (e : OutEvent) : (s.emit e).dram = s.dram := rfl
@[simp] theorem State.emit_media (s : State) (e : OutEvent) : (s.emit e).media = s.media := rfl
@[simp] theorem State.emit_chans (s : State) (e : OutEvent) : (s.emit e).chans = s.chans := rfl
@[simp] theorem State.emit_dec (s : State) (e : OutEvent) : (s.emit e).dec = s.dec := rfl
@[simp] theorem State.emit_wrp (s : State) (e : OutEvent) : (s.emit e).wrp = s.wrp := rfl
@[simp] theorem State.emit_srv (s : State) (e : OutEvent) : (s.emit e).srv = s.srv := rfl
@[simp] theorem State.emit_ctl (s : State) (e : OutEvent) : (s.emit e).ctl = s.ctl := rfl
@[simp] theorem State.emit_mot (s : State) (e : OutEvent) : (s.emit e).mot = s.mot := rfl
@[simp] theorem State.emit_seqs (s : State) (e : OutEvent) : (s.emit e).seqs = s.seqs := rfl
@[simp] theorem State.emit_stores (s : State) (e : OutEvent) : (s.emit e).stores = s.stores := rfl
@[simp] theorem State.emit_lgt (s : State) (e : OutEvent) : (s.emit e).lgt = s.lgt := rfl
@[simp] theorem State.emit_pack (s : State) (e : OutEvent) : (s.emit e).pack = s.pack := rfl
@[simp] theorem State.emit_link (s : State) (e : OutEvent) : (s.emit e).link = s.link := rfl
@[simp] theorem State.emit_bq (s : State) (e : OutEvent) : (s.emit e).bq = s.bq := rfl
@[simp] theorem State.emit_cmds (s : State) (e : OutEvent) : (s.emit e).cmds = s.cmds := rfl
@[simp] theorem State.emit_sch (s : State) (e : OutEvent) : (s.emit e).sch = s.sch := rfl
@[simp] theorem State.emit_qfb (s : State) (e : OutEvent) : (s.emit e).qfb = s.qfb := rfl
@[simp] theorem State.emit_out (s : State) (e : OutEvent) : (s.emit e).out = s.out ++ [e] := rfl
@[simp] theorem State.emit_freeCtr (s : State) (e : OutEvent) : (s.emit e).freeCtr = s.freeCtr := rfl
@[simp] theorem State.emit_pending (s : State) (e : OutEvent) : (s.emit e).pending = s.pending := rfl

/-! ### `State.freeNext` -/

@[simp] theorem State.freeNext_regs (s : State) : (s.freeNext).regs = s.regs := rfl
@[simp] theorem State.freeNext_bell (s : State) : (s.freeNext).bell = s.bell := rfl
@[simp] theorem State.freeNext_sys (s : State) : (s.freeNext).sys = s.sys := rfl
@[simp] theorem State.freeNext_watch (s : State) : (s.freeNext).watch = s.watch := rfl
@[simp] theorem State.freeNext_mem (s : State) : (s.freeNext).mem = s.mem := rfl
@[simp] theorem State.freeNext_dram (s : State) : (s.freeNext).dram = s.dram := rfl
@[simp] theorem State.freeNext_media (s : State) : (s.freeNext).media = s.media := rfl
@[simp] theorem State.freeNext_chans (s : State) : (s.freeNext).chans = s.chans := rfl
@[simp] theorem State.freeNext_dec (s : State) : (s.freeNext).dec = s.dec := rfl
@[simp] theorem State.freeNext_wrp (s : State) : (s.freeNext).wrp = s.wrp := rfl
@[simp] theorem State.freeNext_srv (s : State) : (s.freeNext).srv = s.srv := rfl
@[simp] theorem State.freeNext_ctl (s : State) : (s.freeNext).ctl = s.ctl := rfl
@[simp] theorem State.freeNext_mot (s : State) : (s.freeNext).mot = s.mot := rfl
@[simp] theorem State.freeNext_seqs (s : State) : (s.freeNext).seqs = s.seqs := rfl
@[simp] theorem State.freeNext_stores (s : State) : (s.freeNext).stores = s.stores := rfl
@[simp] theorem State.freeNext_lgt (s : State) : (s.freeNext).lgt = s.lgt := rfl
@[simp] theorem State.freeNext_pack (s : State) : (s.freeNext).pack = s.pack := rfl
@[simp] theorem State.freeNext_link (s : State) : (s.freeNext).link = s.link := rfl
@[simp] theorem State.freeNext_bq (s : State) : (s.freeNext).bq = s.bq := rfl
@[simp] theorem State.freeNext_cmds (s : State) : (s.freeNext).cmds = s.cmds := rfl
@[simp] theorem State.freeNext_sch (s : State) : (s.freeNext).sch = s.sch := rfl
@[simp] theorem State.freeNext_qfb (s : State) : (s.freeNext).qfb = s.qfb := rfl
@[simp] theorem State.freeNext_out (s : State) : (s.freeNext).out = s.out := rfl
@[simp] theorem State.freeNext_freeCtr (s : State) : (s.freeNext).freeCtr = s.freeCtr + 1 := rfl
@[simp] theorem State.freeNext_pending (s : State) : (s.freeNext).pending = s.pending := rfl

/-! ### `State.updSys` -/

@[simp] theorem State.updSys_regs (s : State) (f : SysU → SysU) : (s.updSys f).regs = s.regs := rfl
@[simp] theorem State.updSys_bell (s : State) (f : SysU → SysU) : (s.updSys f).bell = s.bell := rfl
@[simp] theorem State.updSys_sys (s : State) (f : SysU → SysU) : (s.updSys f).sys = f s.sys := rfl
@[simp] theorem State.updSys_watch (s : State) (f : SysU → SysU) : (s.updSys f).watch = s.watch := rfl
@[simp] theorem State.updSys_mem (s : State) (f : SysU → SysU) : (s.updSys f).mem = s.mem := rfl
@[simp] theorem State.updSys_dram (s : State) (f : SysU → SysU) : (s.updSys f).dram = s.dram := rfl
@[simp] theorem State.updSys_media (s : State) (f : SysU → SysU) : (s.updSys f).media = s.media := rfl
@[simp] theorem State.updSys_chans (s : State) (f : SysU → SysU) : (s.updSys f).chans = s.chans := rfl
@[simp] theorem State.updSys_dec (s : State) (f : SysU → SysU) : (s.updSys f).dec = s.dec := rfl
@[simp] theorem State.updSys_wrp (s : State) (f : SysU → SysU) : (s.updSys f).wrp = s.wrp := rfl
@[simp] theorem State.updSys_srv (s : State) (f : SysU → SysU) : (s.updSys f).srv = s.srv := rfl
@[simp] theorem State.updSys_ctl (s : State) (f : SysU → SysU) : (s.updSys f).ctl = s.ctl := rfl
@[simp] theorem State.updSys_mot (s : State) (f : SysU → SysU) : (s.updSys f).mot = s.mot := rfl
@[simp] theorem State.updSys_seqs (s : State) (f : SysU → SysU) : (s.updSys f).seqs = s.seqs := rfl
@[simp] theorem State.updSys_stores (s : State) (f : SysU → SysU) : (s.updSys f).stores = s.stores := rfl
@[simp] theorem State.updSys_lgt (s : State) (f : SysU → SysU) : (s.updSys f).lgt = s.lgt := rfl
@[simp] theorem State.updSys_pack (s : State) (f : SysU → SysU) : (s.updSys f).pack = s.pack := rfl
@[simp] theorem State.updSys_link (s : State) (f : SysU → SysU) : (s.updSys f).link = s.link := rfl
@[simp] theorem State.updSys_bq (s : State) (f : SysU → SysU) : (s.updSys f).bq = s.bq := rfl
@[simp] theorem State.updSys_cmds (s : State) (f : SysU → SysU) : (s.updSys f).cmds = s.cmds := rfl
@[simp] theorem State.updSys_sch (s : State) (f : SysU → SysU) : (s.updSys f).sch = s.sch := rfl
@[simp] theorem State.updSys_qfb (s : State) (f : SysU → SysU) : (s.updSys f).qfb = s.qfb := rfl
@[simp] theorem State.updSys_out (s : State) (f : SysU → SysU) : (s.updSys f).out = s.out := rfl
@[simp] theorem State.updSys_freeCtr (s : State) (f : SysU → SysU) : (s.updSys f).freeCtr = s.freeCtr := rfl
@[simp] theorem State.updSys_pending (s : State) (f : SysU → SysU) : (s.updSys f).pending = s.pending := rfl

/-! ### `State.updWatch` -/

@[simp] theorem State.updWatch_regs (s : State) (f : WatchU → WatchU) : (s.updWatch f).regs = s.regs := rfl
@[simp] theorem State.updWatch_bell (s : State) (f : WatchU → WatchU) : (s.updWatch f).bell = s.bell := rfl
@[simp] theorem State.updWatch_sys (s : State) (f : WatchU → WatchU) : (s.updWatch f).sys = s.sys := rfl
@[simp] theorem State.updWatch_watch (s : State) (f : WatchU → WatchU) : (s.updWatch f).watch = f s.watch := rfl
@[simp] theorem State.updWatch_mem (s : State) (f : WatchU → WatchU) : (s.updWatch f).mem = s.mem := rfl
@[simp] theorem State.updWatch_dram (s : State) (f : WatchU → WatchU) : (s.updWatch f).dram = s.dram := rfl
@[simp] theorem State.updWatch_media (s : State) (f : WatchU → WatchU) : (s.updWatch f).media = s.media := rfl
@[simp] theorem State.updWatch_chans (s : State) (f : WatchU → WatchU) : (s.updWatch f).chans = s.chans := rfl
@[simp] theorem State.updWatch_dec (s : State) (f : WatchU → WatchU) : (s.updWatch f).dec = s.dec := rfl
@[simp] theorem State.updWatch_wrp (s : State) (f : WatchU → WatchU) : (s.updWatch f).wrp = s.wrp := rfl
@[simp] theorem State.updWatch_srv (s : State) (f : WatchU → WatchU) : (s.updWatch f).srv = s.srv := rfl
@[simp] theorem State.updWatch_ctl (s : State) (f : WatchU → WatchU) : (s.updWatch f).ctl = s.ctl := rfl
@[simp] theorem State.updWatch_mot (s : State) (f : WatchU → WatchU) : (s.updWatch f).mot = s.mot := rfl
@[simp] theorem State.updWatch_seqs (s : State) (f : WatchU → WatchU) : (s.updWatch f).seqs = s.seqs := rfl
@[simp] theorem State.updWatch_stores (s : State) (f : WatchU → WatchU) : (s.updWatch f).stores = s.stores := rfl
@[simp] theorem State.updWatch_lgt (s : State) (f : WatchU → WatchU) : (s.updWatch f).lgt = s.lgt := rfl
@[simp] theorem State.updWatch_pack (s : State) (f : WatchU → WatchU) : (s.updWatch f).pack = s.pack := rfl
@[simp] theorem State.updWatch_link (s : State) (f : WatchU → WatchU) : (s.updWatch f).link = s.link := rfl
@[simp] theorem State.updWatch_bq (s : State) (f : WatchU → WatchU) : (s.updWatch f).bq = s.bq := rfl
@[simp] theorem State.updWatch_cmds (s : State) (f : WatchU → WatchU) : (s.updWatch f).cmds = s.cmds := rfl
@[simp] theorem State.updWatch_sch (s : State) (f : WatchU → WatchU) : (s.updWatch f).sch = s.sch := rfl
@[simp] theorem State.updWatch_qfb (s : State) (f : WatchU → WatchU) : (s.updWatch f).qfb = s.qfb := rfl
@[simp] theorem State.updWatch_out (s : State) (f : WatchU → WatchU) : (s.updWatch f).out = s.out := rfl
@[simp] theorem State.updWatch_freeCtr (s : State) (f : WatchU → WatchU) : (s.updWatch f).freeCtr = s.freeCtr := rfl
@[simp] theorem State.updWatch_pending (s : State) (f : WatchU → WatchU) : (s.updWatch f).pending = s.pending := rfl

/-! ### `State.updMedia` -/

@[simp] theorem State.updMedia_regs (s : State) (f : MediaU → MediaU) : (s.updMedia f).regs = s.regs := rfl
@[simp] theorem State.updMedia_bell (s : State) (f : MediaU → MediaU) : (s.updMedia f).bell = s.bell := rfl
@[simp] theorem State.updMedia_sys (s : State) (f : MediaU → MediaU) : (s.updMedia f).sys = s.sys := rfl
@[simp] theorem State.updMedia_watch (s : State) (f : MediaU → MediaU) : (s.updMedia f).watch = s.watch := rfl
@[simp] theorem State.updMedia_mem (s : State) (f : MediaU → MediaU) : (s.updMedia f).mem = s.mem := rfl
@[simp] theorem State.updMedia_dram (s : State) (f : MediaU → MediaU) : (s.updMedia f).dram = s.dram := rfl
@[simp] theorem State.updMedia_media (s : State) (f : MediaU → MediaU) : (s.updMedia f).media = f s.media := rfl
@[simp] theorem State.updMedia_chans (s : State) (f : MediaU → MediaU) : (s.updMedia f).chans = s.chans := rfl
@[simp] theorem State.updMedia_dec (s : State) (f : MediaU → MediaU) : (s.updMedia f).dec = s.dec := rfl
@[simp] theorem State.updMedia_wrp (s : State) (f : MediaU → MediaU) : (s.updMedia f).wrp = s.wrp := rfl
@[simp] theorem State.updMedia_srv (s : State) (f : MediaU → MediaU) : (s.updMedia f).srv = s.srv := rfl
@[simp] theorem State.updMedia_ctl (s : State) (f : MediaU → MediaU) : (s.updMedia f).ctl = s.ctl := rfl
@[simp] theorem State.updMedia_mot (s : State) (f : MediaU → MediaU) : (s.updMedia f).mot = s.mot := rfl
@[simp] theorem State.updMedia_seqs (s : State) (f : MediaU → MediaU) : (s.updMedia f).seqs = s.seqs := rfl
@[simp] theorem State.updMedia_stores (s : State) (f : MediaU → MediaU) : (s.updMedia f).stores = s.stores := rfl
@[simp] theorem State.updMedia_lgt (s : State) (f : MediaU → MediaU) : (s.updMedia f).lgt = s.lgt := rfl
@[simp] theorem State.updMedia_pack (s : State) (f : MediaU → MediaU) : (s.updMedia f).pack = s.pack := rfl
@[simp] theorem State.updMedia_link (s : State) (f : MediaU → MediaU) : (s.updMedia f).link = s.link := rfl
@[simp] theorem State.updMedia_bq (s : State) (f : MediaU → MediaU) : (s.updMedia f).bq = s.bq := rfl
@[simp] theorem State.updMedia_cmds (s : State) (f : MediaU → MediaU) : (s.updMedia f).cmds = s.cmds := rfl
@[simp] theorem State.updMedia_sch (s : State) (f : MediaU → MediaU) : (s.updMedia f).sch = s.sch := rfl
@[simp] theorem State.updMedia_qfb (s : State) (f : MediaU → MediaU) : (s.updMedia f).qfb = s.qfb := rfl
@[simp] theorem State.updMedia_out (s : State) (f : MediaU → MediaU) : (s.updMedia f).out = s.out := rfl
@[simp] theorem State.updMedia_freeCtr (s : State) (f : MediaU → MediaU) : (s.updMedia f).freeCtr = s.freeCtr := rfl
@[simp] theorem State.updMedia_pending (s : State) (f : MediaU → MediaU) : (s.updMedia f).pending = s.pending := rfl

/-! ### `State.updDec` -/

@[simp] theorem State.updDec_regs (s : State) (f : DecU → DecU) : (s.updDec f).regs = s.regs := rfl
@[simp] theorem State.updDec_bell (s : State) (f : DecU → DecU) : (s.updDec f).bell = s.bell := rfl
@[simp] theorem State.updDec_sys (s : State) (f : DecU → DecU) : (s.updDec f).sys = s.sys := rfl
@[simp] theorem State.updDec_watch (s : State) (f : DecU → DecU) : (s.updDec f).watch = s.watch := rfl
@[simp] theorem State.updDec_mem (s : State) (f : DecU → DecU) : (s.updDec f).mem = s.mem := rfl
@[simp] theorem State.updDec_dram (s : State) (f : DecU → DecU) : (s.updDec f).dram = s.dram := rfl
@[simp] theorem State.updDec_media (s : State) (f : DecU → DecU) : (s.updDec f).media = s.media := rfl
@[simp] theorem State.updDec_chans (s : State) (f : DecU → DecU) : (s.updDec f).chans = s.chans := rfl
@[simp] theorem State.updDec_dec (s : State) (f : DecU → DecU) : (s.updDec f).dec = f s.dec := rfl
@[simp] theorem State.updDec_wrp (s : State) (f : DecU → DecU) : (s.updDec f).wrp = s.wrp := rfl
@[simp] theorem State.updDec_srv (s : State) (f : DecU → DecU) : (s.updDec f).srv = s.srv := rfl
@[simp] theorem State.updDec_ctl (s : State) (f : DecU → DecU) : (s.updDec f).ctl = s.ctl := rfl
@[simp] theorem State.updDec_mot (s : State) (f : DecU → DecU) : (s.updDec f).mot = s.mot := rfl
@[simp] theorem State.updDec_seqs (s : State) (f : DecU → DecU) : (s.updDec f).seqs = s.seqs := rfl
@[simp] theorem State.updDec_stores (s : State) (f : DecU → DecU) : (s.updDec f).stores = s.stores := rfl
@[simp] theorem State.updDec_lgt (s : State) (f : DecU → DecU) : (s.updDec f).lgt = s.lgt := rfl
@[simp] theorem State.updDec_pack (s : State) (f : DecU → DecU) : (s.updDec f).pack = s.pack := rfl
@[simp] theorem State.updDec_link (s : State) (f : DecU → DecU) : (s.updDec f).link = s.link := rfl
@[simp] theorem State.updDec_bq (s : State) (f : DecU → DecU) : (s.updDec f).bq = s.bq := rfl
@[simp] theorem State.updDec_cmds (s : State) (f : DecU → DecU) : (s.updDec f).cmds = s.cmds := rfl
@[simp] theorem State.updDec_sch (s : State) (f : DecU → DecU) : (s.updDec f).sch = s.sch := rfl
@[simp] theorem State.updDec_qfb (s : State) (f : DecU → DecU) : (s.updDec f).qfb = s.qfb := rfl
@[simp] theorem State.updDec_out (s : State) (f : DecU → DecU) : (s.updDec f).out = s.out := rfl
@[simp] theorem State.updDec_freeCtr (s : State) (f : DecU → DecU) : (s.updDec f).freeCtr = s.freeCtr := rfl
@[simp] theorem State.updDec_pending (s : State) (f : DecU → DecU) : (s.updDec f).pending = s.pending := rfl

/-! ### `State.updWrp` -/

@[simp] theorem State.updWrp_regs (s : State) (f : WrpU → WrpU) : (s.updWrp f).regs = s.regs := rfl
@[simp] theorem State.updWrp_bell (s : State) (f : WrpU → WrpU) : (s.updWrp f).bell = s.bell := rfl
@[simp] theorem State.updWrp_sys (s : State) (f : WrpU → WrpU) : (s.updWrp f).sys = s.sys := rfl
@[simp] theorem State.updWrp_watch (s : State) (f : WrpU → WrpU) : (s.updWrp f).watch = s.watch := rfl
@[simp] theorem State.updWrp_mem (s : State) (f : WrpU → WrpU) : (s.updWrp f).mem = s.mem := rfl
@[simp] theorem State.updWrp_dram (s : State) (f : WrpU → WrpU) : (s.updWrp f).dram = s.dram := rfl
@[simp] theorem State.updWrp_media (s : State) (f : WrpU → WrpU) : (s.updWrp f).media = s.media := rfl
@[simp] theorem State.updWrp_chans (s : State) (f : WrpU → WrpU) : (s.updWrp f).chans = s.chans := rfl
@[simp] theorem State.updWrp_dec (s : State) (f : WrpU → WrpU) : (s.updWrp f).dec = s.dec := rfl
@[simp] theorem State.updWrp_wrp (s : State) (f : WrpU → WrpU) : (s.updWrp f).wrp = f s.wrp := rfl
@[simp] theorem State.updWrp_srv (s : State) (f : WrpU → WrpU) : (s.updWrp f).srv = s.srv := rfl
@[simp] theorem State.updWrp_ctl (s : State) (f : WrpU → WrpU) : (s.updWrp f).ctl = s.ctl := rfl
@[simp] theorem State.updWrp_mot (s : State) (f : WrpU → WrpU) : (s.updWrp f).mot = s.mot := rfl
@[simp] theorem State.updWrp_seqs (s : State) (f : WrpU → WrpU) : (s.updWrp f).seqs = s.seqs := rfl
@[simp] theorem State.updWrp_stores (s : State) (f : WrpU → WrpU) : (s.updWrp f).stores = s.stores := rfl
@[simp] theorem State.updWrp_lgt (s : State) (f : WrpU → WrpU) : (s.updWrp f).lgt = s.lgt := rfl
@[simp] theorem State.updWrp_pack (s : State) (f : WrpU → WrpU) : (s.updWrp f).pack = s.pack := rfl
@[simp] theorem State.updWrp_link (s : State) (f : WrpU → WrpU) : (s.updWrp f).link = s.link := rfl
@[simp] theorem State.updWrp_bq (s : State) (f : WrpU → WrpU) : (s.updWrp f).bq = s.bq := rfl
@[simp] theorem State.updWrp_cmds (s : State) (f : WrpU → WrpU) : (s.updWrp f).cmds = s.cmds := rfl
@[simp] theorem State.updWrp_sch (s : State) (f : WrpU → WrpU) : (s.updWrp f).sch = s.sch := rfl
@[simp] theorem State.updWrp_qfb (s : State) (f : WrpU → WrpU) : (s.updWrp f).qfb = s.qfb := rfl
@[simp] theorem State.updWrp_out (s : State) (f : WrpU → WrpU) : (s.updWrp f).out = s.out := rfl
@[simp] theorem State.updWrp_freeCtr (s : State) (f : WrpU → WrpU) : (s.updWrp f).freeCtr = s.freeCtr := rfl
@[simp] theorem State.updWrp_pending (s : State) (f : WrpU → WrpU) : (s.updWrp f).pending = s.pending := rfl

/-! ### `State.updMot` -/

@[simp] theorem State.updMot_regs (s : State) (f : MotU → MotU) : (s.updMot f).regs = s.regs := rfl
@[simp] theorem State.updMot_bell (s : State) (f : MotU → MotU) : (s.updMot f).bell = s.bell := rfl
@[simp] theorem State.updMot_sys (s : State) (f : MotU → MotU) : (s.updMot f).sys = s.sys := rfl
@[simp] theorem State.updMot_watch (s : State) (f : MotU → MotU) : (s.updMot f).watch = s.watch := rfl
@[simp] theorem State.updMot_mem (s : State) (f : MotU → MotU) : (s.updMot f).mem = s.mem := rfl
@[simp] theorem State.updMot_dram (s : State) (f : MotU → MotU) : (s.updMot f).dram = s.dram := rfl
@[simp] theorem State.updMot_media (s : State) (f : MotU → MotU) : (s.updMot f).media = s.media := rfl
@[simp] theorem State.updMot_chans (s : State) (f : MotU → MotU) : (s.updMot f).chans = s.chans := rfl
@[simp] theorem State.updMot_dec (s : State) (f : MotU → MotU) : (s.updMot f).dec = s.dec := rfl
@[simp] theorem State.updMot_wrp (s : State) (f : MotU → MotU) : (s.updMot f).wrp = s.wrp := rfl
@[simp] theorem State.updMot_srv (s : State) (f : MotU → MotU) : (s.updMot f).srv = s.srv := rfl
@[simp] theorem State.updMot_ctl (s : State) (f : MotU → MotU) : (s.updMot f).ctl = s.ctl := rfl
@[simp] theorem State.updMot_mot (s : State) (f : MotU → MotU) : (s.updMot f).mot = f s.mot := rfl
@[simp] theorem State.updMot_seqs (s : State) (f : MotU → MotU) : (s.updMot f).seqs = s.seqs := rfl
@[simp] theorem State.updMot_stores (s : State) (f : MotU → MotU) : (s.updMot f).stores = s.stores := rfl
@[simp] theorem State.updMot_lgt (s : State) (f : MotU → MotU) : (s.updMot f).lgt = s.lgt := rfl
@[simp] theorem State.updMot_pack (s : State) (f : MotU → MotU) : (s.updMot f).pack = s.pack := rfl
@[simp] theorem State.updMot_link (s : State) (f : MotU → MotU) : (s.updMot f).link = s.link := rfl
@[simp] theorem State.updMot_bq (s : State) (f : MotU → MotU) : (s.updMot f).bq = s.bq := rfl
@[simp] theorem State.updMot_cmds (s : State) (f : MotU → MotU) : (s.updMot f).cmds = s.cmds := rfl
@[simp] theorem State.updMot_sch (s : State) (f : MotU → MotU) : (s.updMot f).sch = s.sch := rfl
@[simp] theorem State.updMot_qfb (s : State) (f : MotU → MotU) : (s.updMot f).qfb = s.qfb := rfl
@[simp] theorem State.updMot_out (s : State) (f : MotU → MotU) : (s.updMot f).out = s.out := rfl
@[simp] theorem State.updMot_freeCtr (s : State) (f : MotU → MotU) : (s.updMot f).freeCtr = s.freeCtr := rfl
@[simp] theorem State.updMot_pending (s : State) (f : MotU → MotU) : (s.updMot f).pending = s.pending := rfl

/-! ### `State.updLink` -/

@[simp] theorem State.updLink_regs (s : State) (f : LinkU → LinkU) : (s.updLink f).regs = s.regs := rfl
@[simp] theorem State.updLink_bell (s : State) (f : LinkU → LinkU) : (s.updLink f).bell = s.bell := rfl
@[simp] theorem State.updLink_sys (s : State) (f : LinkU → LinkU) : (s.updLink f).sys = s.sys := rfl
@[simp] theorem State.updLink_watch (s : State) (f : LinkU → LinkU) : (s.updLink f).watch = s.watch := rfl
@[simp] theorem State.updLink_mem (s : State) (f : LinkU → LinkU) : (s.updLink f).mem = s.mem := rfl
@[simp] theorem State.updLink_dram (s : State) (f : LinkU → LinkU) : (s.updLink f).dram = s.dram := rfl
@[simp] theorem State.updLink_media (s : State) (f : LinkU → LinkU) : (s.updLink f).media = s.media := rfl
@[simp] theorem State.updLink_chans (s : State) (f : LinkU → LinkU) : (s.updLink f).chans = s.chans := rfl
@[simp] theorem State.updLink_dec (s : State) (f : LinkU → LinkU) : (s.updLink f).dec = s.dec := rfl
@[simp] theorem State.updLink_wrp (s : State) (f : LinkU → LinkU) : (s.updLink f).wrp = s.wrp := rfl
@[simp] theorem State.updLink_srv (s : State) (f : LinkU → LinkU) : (s.updLink f).srv = s.srv := rfl
@[simp] theorem State.updLink_ctl (s : State) (f : LinkU → LinkU) : (s.updLink f).ctl = s.ctl := rfl
@[simp] theorem State.updLink_mot (s : State) (f : LinkU → LinkU) : (s.updLink f).mot = s.mot := rfl
@[simp] theorem State.updLink_seqs (s : State) (f : LinkU → LinkU) : (s.updLink f).seqs = s.seqs := rfl
@[simp] theorem State.updLink_stores (s : State) (f : LinkU → LinkU) : (s.updLink f).stores = s.stores := rfl
@[simp] theorem State.updLink_lgt (s : State) (f : LinkU → LinkU) : (s.updLink f).lgt = s.lgt := rfl
@[simp] theorem State.updLink_pack (s : State) (f : LinkU → LinkU) : (s.updLink f).pack = s.pack := rfl
@[simp] theorem State.updLink_link (s : State) (f : LinkU → LinkU) : (s.updLink f).link = f s.link := rfl
@[simp] theorem State.updLink_bq (s : State) (f : LinkU → LinkU) : (s.updLink f).bq = s.bq := rfl
@[simp] theorem State.updLink_cmds (s : State) (f : LinkU → LinkU) : (s.updLink f).cmds = s.cmds := rfl
@[simp] theorem State.updLink_sch (s : State) (f : LinkU → LinkU) : (s.updLink f).sch = s.sch := rfl
@[simp] theorem State.updLink_qfb (s : State) (f : LinkU → LinkU) : (s.updLink f).qfb = s.qfb := rfl
@[simp] theorem State.updLink_out (s : State) (f : LinkU → LinkU) : (s.updLink f).out = s.out := rfl
@[simp] theorem State.updLink_freeCtr (s : State) (f : LinkU → LinkU) : (s.updLink f).freeCtr = s.freeCtr := rfl
@[simp] theorem State.updLink_pending (s : State) (f : LinkU → LinkU) : (s.updLink f).pending = s.pending := rfl

/-! ### `State.updSch` -/

@[simp] theorem State.updSch_regs (s : State) (f : SchU → SchU) : (s.updSch f).regs = s.regs := rfl
@[simp] theorem State.updSch_bell (s : State) (f : SchU → SchU) : (s.updSch f).bell = s.bell := rfl
@[simp] theorem State.updSch_sys (s : State) (f : SchU → SchU) : (s.updSch f).sys = s.sys := rfl
@[simp] theorem State.updSch_watch (s : State) (f : SchU → SchU) : (s.updSch f).watch = s.watch := rfl
@[simp] theorem State.updSch_mem (s : State) (f : SchU → SchU) : (s.updSch f).mem = s.mem := rfl
@[simp] theorem State.updSch_dram (s : State) (f : SchU → SchU) : (s.updSch f).dram = s.dram := rfl
@[simp] theorem State.updSch_media (s : State) (f : SchU → SchU) : (s.updSch f).media = s.media := rfl
@[simp] theorem State.updSch_chans (s : State) (f : SchU → SchU) : (s.updSch f).chans = s.chans := rfl
@[simp] theorem State.updSch_dec (s : State) (f : SchU → SchU) : (s.updSch f).dec = s.dec := rfl
@[simp] theorem State.updSch_wrp (s : State) (f : SchU → SchU) : (s.updSch f).wrp = s.wrp := rfl
@[simp] theorem State.updSch_srv (s : State) (f : SchU → SchU) : (s.updSch f).srv = s.srv := rfl
@[simp] theorem State.updSch_ctl (s : State) (f : SchU → SchU) : (s.updSch f).ctl = s.ctl := rfl
@[simp] theorem State.updSch_mot (s : State) (f : SchU → SchU) : (s.updSch f).mot = s.mot := rfl
@[simp] theorem State.updSch_seqs (s : State) (f : SchU → SchU) : (s.updSch f).seqs = s.seqs := rfl
@[simp] theorem State.updSch_stores (s : State) (f : SchU → SchU) : (s.updSch f).stores = s.stores := rfl
@[simp] theorem State.updSch_lgt (s : State) (f : SchU → SchU) : (s.updSch f).lgt = s.lgt := rfl
@[simp] theorem State.updSch_pack (s : State) (f : SchU → SchU) : (s.updSch f).pack = s.pack := rfl
@[simp] theorem State.updSch_link (s : State) (f : SchU → SchU) : (s.updSch f).link = s.link := rfl
@[simp] theorem State.updSch_bq (s : State) (f : SchU → SchU) : (s.updSch f).bq = s.bq := rfl
@[simp] theorem State.updSch_cmds (s : State) (f : SchU → SchU) : (s.updSch f).cmds = s.cmds := rfl
@[simp] theorem State.updSch_sch (s : State) (f : SchU → SchU) : (s.updSch f).sch = f s.sch := rfl
@[simp] theorem State.updSch_qfb (s : State) (f : SchU → SchU) : (s.updSch f).qfb = s.qfb := rfl
@[simp] theorem State.updSch_out (s : State) (f : SchU → SchU) : (s.updSch f).out = s.out := rfl
@[simp] theorem State.updSch_freeCtr (s : State) (f : SchU → SchU) : (s.updSch f).freeCtr = s.freeCtr := rfl
@[simp] theorem State.updSch_pending (s : State) (f : SchU → SchU) : (s.updSch f).pending = s.pending := rfl

/-! ### `State.updMem` -/

@[simp] theorem State.updMem_regs (s : State) (f : MemU → MemU) : (s.updMem f).regs = s.regs := rfl
@[simp] theorem State.updMem_bell (s : State) (f : MemU → MemU) : (s.updMem f).bell = s.bell := rfl
@[simp] theorem State.updMem_sys (s : State) (f : MemU → MemU) : (s.updMem f).sys = s.sys := rfl
@[simp] theorem State.updMem_watch (s : State) (f : MemU → MemU) : (s.updMem f).watch = s.watch := rfl
@[simp] theorem State.updMem_mem (s : State) (f : MemU → MemU) : (s.updMem f).mem = f s.mem := rfl
@[simp] theorem State.updMem_dram (s : State) (f : MemU → MemU) : (s.updMem f).dram = s.dram := rfl
@[simp] theorem State.updMem_media (s : State) (f : MemU → MemU) : (s.updMem f).media = s.media := rfl
@[simp] theorem State.updMem_chans (s : State) (f : MemU → MemU) : (s.updMem f).chans = s.chans := rfl
@[simp] theorem State.updMem_dec (s : State) (f : MemU → MemU) : (s.updMem f).dec = s.dec := rfl
@[simp] theorem State.updMem_wrp (s : State) (f : MemU → MemU) : (s.updMem f).wrp = s.wrp := rfl
@[simp] theorem State.updMem_srv (s : State) (f : MemU → MemU) : (s.updMem f).srv = s.srv := rfl
@[simp] theorem State.updMem_ctl (s : State) (f : MemU → MemU) : (s.updMem f).ctl = s.ctl := rfl
@[simp] theorem State.updMem_mot (s : State) (f : MemU → MemU) : (s.updMem f).mot = s.mot := rfl
@[simp] theorem State.updMem_seqs (s : State) (f : MemU → MemU) : (s.updMem f).seqs = s.seqs := rfl
@[simp] theorem State.updMem_stores (s : State) (f : MemU → MemU) : (s.updMem f).stores = s.stores := rfl
@[simp] theorem State.updMem_lgt (s : State) (f : MemU → MemU) : (s.updMem f).lgt = s.lgt := rfl
@[simp] theorem State.updMem_pack (s : State) (f : MemU → MemU) : (s.updMem f).pack = s.pack := rfl
@[simp] theorem State.updMem_link (s : State) (f : MemU → MemU) : (s.updMem f).link = s.link := rfl
@[simp] theorem State.updMem_bq (s : State) (f : MemU → MemU) : (s.updMem f).bq = s.bq := rfl
@[simp] theorem State.updMem_cmds (s : State) (f : MemU → MemU) : (s.updMem f).cmds = s.cmds := rfl
@[simp] theorem State.updMem_sch (s : State) (f : MemU → MemU) : (s.updMem f).sch = s.sch := rfl
@[simp] theorem State.updMem_qfb (s : State) (f : MemU → MemU) : (s.updMem f).qfb = s.qfb := rfl
@[simp] theorem State.updMem_out (s : State) (f : MemU → MemU) : (s.updMem f).out = s.out := rfl
@[simp] theorem State.updMem_freeCtr (s : State) (f : MemU → MemU) : (s.updMem f).freeCtr = s.freeCtr := rfl
@[simp] theorem State.updMem_pending (s : State) (f : MemU → MemU) : (s.updMem f).pending = s.pending := rfl

/-! ### `State.updDram` -/

@[simp] theorem State.updDram_regs (s : State) (f : DramU → DramU) : (s.updDram f).regs = s.regs := rfl
@[simp] theorem State.updDram_bell (s : State) (f : DramU → DramU) : (s.updDram f).bell = s.bell := rfl
@[simp] theorem State.updDram_sys (s : State) (f : DramU → DramU) : (s.updDram f).sys = s.sys := rfl
@[simp] theorem State.updDram_watch (s : State) (f : DramU → DramU) : (s.updDram f).watch = s.watch := rfl
@[simp] theorem State.updDram_mem (s : State) (f : DramU → DramU) : (s.updDram f).mem = s.mem := rfl
@[simp] theorem State.updDram_dram (s : State) (f : DramU → DramU) : (s.updDram f).dram = f s.dram := rfl
@[simp] theorem State.updDram_media (s : State) (f : DramU → DramU) : (s.updDram f).media = s.media := rfl
@[simp] theorem State.updDram_chans (s : State) (f : DramU → DramU) : (s.updDram f).chans = s.chans := rfl
@[simp] theorem State.updDram_dec (s : State) (f : DramU → DramU) : (s.updDram f).dec = s.dec := rfl
@[simp] theorem State.updDram_wrp (s : State) (f : DramU → DramU) : (s.updDram f).wrp = s.wrp := rfl
@[simp] theorem State.updDram_srv (s : State) (f : DramU → DramU) : (s.updDram f).srv = s.srv := rfl
@[simp] theorem State.updDram_ctl (s : State) (f : DramU → DramU) : (s.updDram f).ctl = s.ctl := rfl
@[simp] theorem State.updDram_mot (s : State) (f : DramU → DramU) : (s.updDram f).mot = s.mot := rfl
@[simp] theorem State.updDram_seqs (s : State) (f : DramU → DramU) : (s.updDram f).seqs = s.seqs := rfl
@[simp] theorem State.updDram_stores (s : State) (f : DramU → DramU) : (s.updDram f).stores = s.stores := rfl
@[simp] theorem State.updDram_lgt (s : State) (f : DramU → DramU) : (s.updDram f).lgt = s.lgt := rfl
@[simp] theorem State.updDram_pack (s : State) (f : DramU → DramU) : (s.updDram f).pack = s.pack := rfl
@[simp] theorem State.updDram_link (s : State) (f : DramU → DramU) : (s.updDram f).link = s.link := rfl
@[simp] theorem State.updDram_bq (s : State) (f : DramU → DramU) : (s.updDram f).bq = s.bq := rfl
@[simp] theorem State.updDram_cmds (s : State) (f : DramU → DramU) : (s.updDram f).cmds = s.cmds := rfl
@[simp] theorem State.updDram_sch (s : State) (f : DramU → DramU) : (s.updDram f).sch = s.sch := rfl
@[simp] theorem State.updDram_qfb (s : State) (f : DramU → DramU) : (s.updDram f).qfb = s.qfb := rfl
@[simp] theorem State.updDram_out (s : State) (f : DramU → DramU) : (s.updDram f).out = s.out := rfl
@[simp] theorem State.updDram_freeCtr (s : State) (f : DramU → DramU) : (s.updDram f).freeCtr = s.freeCtr := rfl
@[simp] theorem State.updDram_pending (s : State) (f : DramU → DramU) : (s.updDram f).pending = s.pending := rfl

/-! ### `State.updPack` -/

@[simp] theorem State.updPack_regs (s : State) (f : PackU → PackU) : (s.updPack f).regs = s.regs := rfl
@[simp] theorem State.updPack_bell (s : State) (f : PackU → PackU) : (s.updPack f).bell = s.bell := rfl
@[simp] theorem State.updPack_sys (s : State) (f : PackU → PackU) : (s.updPack f).sys = s.sys := rfl
@[simp] theorem State.updPack_watch (s : State) (f : PackU → PackU) : (s.updPack f).watch = s.watch := rfl
@[simp] theorem State.updPack_mem (s : State) (f : PackU → PackU) : (s.updPack f).mem = s.mem := rfl
@[simp] theorem State.updPack_dram (s : State) (f : PackU → PackU) : (s.updPack f).dram = s.dram := rfl
@[simp] theorem State.updPack_media (s : State) (f : PackU → PackU) : (s.updPack f).media = s.media := rfl
@[simp] theorem State.updPack_chans (s : State) (f : PackU → PackU) : (s.updPack f).chans = s.chans := rfl
@[simp] theorem State.updPack_dec (s : State) (f : PackU → PackU) : (s.updPack f).dec = s.dec := rfl
@[simp] theorem State.updPack_wrp (s : State) (f : PackU → PackU) : (s.updPack f).wrp = s.wrp := rfl
@[simp] theorem State.updPack_srv (s : State) (f : PackU → PackU) : (s.updPack f).srv = s.srv := rfl
@[simp] theorem State.updPack_ctl (s : State) (f : PackU → PackU) : (s.updPack f).ctl = s.ctl := rfl
@[simp] theorem State.updPack_mot (s : State) (f : PackU → PackU) : (s.updPack f).mot = s.mot := rfl
@[simp] theorem State.updPack_seqs (s : State) (f : PackU → PackU) : (s.updPack f).seqs = s.seqs := rfl
@[simp] theorem State.updPack_stores (s : State) (f : PackU → PackU) : (s.updPack f).stores = s.stores := rfl
@[simp] theorem State.updPack_lgt (s : State) (f : PackU → PackU) : (s.updPack f).lgt = s.lgt := rfl
@[simp] theorem State.updPack_pack (s : State) (f : PackU → PackU) : (s.updPack f).pack = f s.pack := rfl
@[simp] theorem State.updPack_link (s : State) (f : PackU → PackU) : (s.updPack f).link = s.link := rfl
@[simp] theorem State.updPack_bq (s : State) (f : PackU → PackU) : (s.updPack f).bq = s.bq := rfl
@[simp] theorem State.updPack_cmds (s : State) (f : PackU → PackU) : (s.updPack f).cmds = s.cmds := rfl
@[simp] theorem State.updPack_sch (s : State) (f : PackU → PackU) : (s.updPack f).sch = s.sch := rfl
@[simp] theorem State.updPack_qfb (s : State) (f : PackU → PackU) : (s.updPack f).qfb = s.qfb := rfl
@[simp] theorem State.updPack_out (s : State) (f : PackU → PackU) : (s.updPack f).out = s.out := rfl
@[simp] theorem State.updPack_freeCtr (s : State) (f : PackU → PackU) : (s.updPack f).freeCtr = s.freeCtr := rfl
@[simp] theorem State.updPack_pending (s : State) (f : PackU → PackU) : (s.updPack f).pending = s.pending := rfl

/-! ### `State.updBq` -/

@[simp] theorem State.updBq_regs (s : State) (f : BqU → BqU) : (s.updBq f).regs = s.regs := rfl
@[simp] theorem State.updBq_bell (s : State) (f : BqU → BqU) : (s.updBq f).bell = s.bell := rfl
@[simp] theorem State.updBq_sys (s : State) (f : BqU → BqU) : (s.updBq f).sys = s.sys := rfl
@[simp] theorem State.updBq_watch (s : State) (f : BqU → BqU) : (s.updBq f).watch = s.watch := rfl
@[simp] theorem State.updBq_mem (s : State) (f : BqU → BqU) : (s.updBq f).mem = s.mem := rfl
@[simp] theorem State.updBq_dram (s : State) (f : BqU → BqU) : (s.updBq f).dram = s.dram := rfl
@[simp] theorem State.updBq_media (s : State) (f : BqU → BqU) : (s.updBq f).media = s.media := rfl
@[simp] theorem State.updBq_chans (s : State) (f : BqU → BqU) : (s.updBq f).chans = s.chans := rfl
@[simp] theorem State.updBq_dec (s : State) (f : BqU → BqU) : (s.updBq f).dec = s.dec := rfl
@[simp] theorem State.updBq_wrp (s : State) (f : BqU → BqU) : (s.updBq f).wrp = s.wrp := rfl
@[simp] theorem State.updBq_srv (s : State) (f : BqU → BqU) : (s.updBq f).srv = s.srv := rfl
@[simp] theorem State.updBq_ctl (s : State) (f : BqU → BqU) : (s.updBq f).ctl = s.ctl := rfl
@[simp] theorem State.updBq_mot (s : State) (f : BqU → BqU) : (s.updBq f).mot = s.mot := rfl
@[simp] theorem State.updBq_seqs (s : State) (f : BqU → BqU) : (s.updBq f).seqs = s.seqs := rfl
@[simp] theorem State.updBq_stores (s : State) (f : BqU → BqU) : (s.updBq f).stores = s.stores := rfl
@[simp] theorem State.updBq_lgt (s : State) (f : BqU → BqU) : (s.updBq f).lgt = s.lgt := rfl
@[simp] theorem State.updBq_pack (s : State) (f : BqU → BqU) : (s.updBq f).pack = s.pack := rfl
@[simp] theorem State.updBq_link (s : State) (f : BqU → BqU) : (s.updBq f).link = s.link := rfl
@[simp] theorem State.updBq_bq (s : State) (f : BqU → BqU) : (s.updBq f).bq = f s.bq := rfl
@[simp] theorem State.updBq_cmds (s : State) (f : BqU → BqU) : (s.updBq f).cmds = s.cmds := rfl
@[simp] theorem State.updBq_sch (s : State) (f : BqU → BqU) : (s.updBq f).sch = s.sch := rfl
@[simp] theorem State.updBq_qfb (s : State) (f : BqU → BqU) : (s.updBq f).qfb = s.qfb := rfl
@[simp] theorem State.updBq_out (s : State) (f : BqU → BqU) : (s.updBq f).out = s.out := rfl
@[simp] theorem State.updBq_freeCtr (s : State) (f : BqU → BqU) : (s.updBq f).freeCtr = s.freeCtr := rfl
@[simp] theorem State.updBq_pending (s : State) (f : BqU → BqU) : (s.updBq f).pending = s.pending := rfl

/-! ### `State.updLgt` -/

@[simp] theorem State.updLgt_regs (s : State) (f : LgtU → LgtU) : (s.updLgt f).regs = s.regs := rfl
@[simp] theorem State.updLgt_bell (s : State) (f : LgtU → LgtU) : (s.updLgt f).bell = s.bell := rfl
@[simp] theorem State.updLgt_sys (s : State) (f : LgtU → LgtU) : (s.updLgt f).sys = s.sys := rfl
@[simp] theorem State.updLgt_watch (s : State) (f : LgtU → LgtU) : (s.updLgt f).watch = s.watch := rfl
@[simp] theorem State.updLgt_mem (s : State) (f : LgtU → LgtU) : (s.updLgt f).mem = s.mem := rfl
@[simp] theorem State.updLgt_dram (s : State) (f : LgtU → LgtU) : (s.updLgt f).dram = s.dram := rfl
@[simp] theorem State.updLgt_media (s : State) (f : LgtU → LgtU) : (s.updLgt f).media = s.media := rfl
@[simp] theorem State.updLgt_chans (s : State) (f : LgtU → LgtU) : (s.updLgt f).chans = s.chans := rfl
@[simp] theorem State.updLgt_dec (s : State) (f : LgtU → LgtU) : (s.updLgt f).dec = s.dec := rfl
@[simp] theorem State.updLgt_wrp (s : State) (f : LgtU → LgtU) : (s.updLgt f).wrp = s.wrp := rfl
@[simp] theorem State.updLgt_srv (s : State) (f : LgtU → LgtU) : (s.updLgt f).srv = s.srv := rfl
@[simp] theorem State.updLgt_ctl (s : State) (f : LgtU → LgtU) : (s.updLgt f).ctl = s.ctl := rfl
@[simp] theorem State.updLgt_mot (s : State) (f : LgtU → LgtU) : (s.updLgt f).mot = s.mot := rfl
@[simp] theorem State.updLgt_seqs (s : State) (f : LgtU → LgtU) : (s.updLgt f).seqs = s.seqs := rfl
@[simp] theorem State.updLgt_stores (s : State) (f : LgtU → LgtU) : (s.updLgt f).stores = s.stores := rfl
@[simp] theorem State.updLgt_lgt (s : State) (f : LgtU → LgtU) : (s.updLgt f).lgt = f s.lgt := rfl
@[simp] theorem State.updLgt_pack (s : State) (f : LgtU → LgtU) : (s.updLgt f).pack = s.pack := rfl
@[simp] theorem State.updLgt_link (s : State) (f : LgtU → LgtU) : (s.updLgt f).link = s.link := rfl
@[simp] theorem State.updLgt_bq (s : State) (f : LgtU → LgtU) : (s.updLgt f).bq = s.bq := rfl
@[simp] theorem State.updLgt_cmds (s : State) (f : LgtU → LgtU) : (s.updLgt f).cmds = s.cmds := rfl
@[simp] theorem State.updLgt_sch (s : State) (f : LgtU → LgtU) : (s.updLgt f).sch = s.sch := rfl
@[simp] theorem State.updLgt_qfb (s : State) (f : LgtU → LgtU) : (s.updLgt f).qfb = s.qfb := rfl
@[simp] theorem State.updLgt_out (s : State) (f : LgtU → LgtU) : (s.updLgt f).out = s.out := rfl
@[simp] theorem State.updLgt_freeCtr (s : State) (f : LgtU → LgtU) : (s.updLgt f).freeCtr = s.freeCtr := rfl
@[simp] theorem State.updLgt_pending (s : State) (f : LgtU → LgtU) : (s.updLgt f).pending = s.pending := rfl

/-! ### `State.updQfb` -/

@[simp] theorem State.updQfb_regs (s : State) (f : QfbU → QfbU) : (s.updQfb f).regs = s.regs := rfl
@[simp] theorem State.updQfb_bell (s : State) (f : QfbU → QfbU) : (s.updQfb f).bell = s.bell := rfl
@[simp] theorem State.updQfb_sys (s : State) (f : QfbU → QfbU) : (s.updQfb f).sys = s.sys := rfl
@[simp] theorem State.updQfb_watch (s : State) (f : QfbU → QfbU) : (s.updQfb f).watch = s.watch := rfl
@[simp] theorem State.updQfb_mem (s : State) (f : QfbU → QfbU) : (s.updQfb f).mem = s.mem := rfl
@[simp] theorem State.updQfb_dram (s : State) (f : QfbU → QfbU) : (s.updQfb f).dram = s.dram := rfl
@[simp] theorem State.updQfb_media (s : State) (f : QfbU → QfbU) : (s.updQfb f).media = s.media := rfl
@[simp] theorem State.updQfb_chans (s : State) (f : QfbU → QfbU) : (s.updQfb f).chans = s.chans := rfl
@[simp] theorem State.updQfb_dec (s : State) (f : QfbU → QfbU) : (s.updQfb f).dec = s.dec := rfl
@[simp] theorem State.updQfb_wrp (s : State) (f : QfbU → QfbU) : (s.updQfb f).wrp = s.wrp := rfl
@[simp] theorem State.updQfb_srv (s : State) (f : QfbU → QfbU) : (s.updQfb f).srv = s.srv := rfl
@[simp] theorem State.updQfb_ctl (s : State) (f : QfbU → QfbU) : (s.updQfb f).ctl = s.ctl := rfl
@[simp] theorem State.updQfb_mot (s : State) (f : QfbU → QfbU) : (s.updQfb f).mot = s.mot := rfl
@[simp] theorem State.updQfb_seqs (s : State) (f : QfbU → QfbU) : (s.updQfb f).seqs = s.seqs := rfl
@[simp] theorem State.updQfb_stores (s : State) (f : QfbU → QfbU) : (s.updQfb f).stores = s.stores := rfl
@[simp] theorem State.updQfb_lgt (s : State) (f : QfbU → QfbU) : (s.updQfb f).lgt = s.lgt := rfl
@[simp] theorem State.updQfb_pack (s : State) (f : QfbU → QfbU) : (s.updQfb f).pack = s.pack := rfl
@[simp] theorem State.updQfb_link (s : State) (f : QfbU → QfbU) : (s.updQfb f).link = s.link := rfl
@[simp] theorem State.updQfb_bq (s : State) (f : QfbU → QfbU) : (s.updQfb f).bq = s.bq := rfl
@[simp] theorem State.updQfb_cmds (s : State) (f : QfbU → QfbU) : (s.updQfb f).cmds = s.cmds := rfl
@[simp] theorem State.updQfb_sch (s : State) (f : QfbU → QfbU) : (s.updQfb f).sch = s.sch := rfl
@[simp] theorem State.updQfb_qfb (s : State) (f : QfbU → QfbU) : (s.updQfb f).qfb = f s.qfb := rfl
@[simp] theorem State.updQfb_out (s : State) (f : QfbU → QfbU) : (s.updQfb f).out = s.out := rfl
@[simp] theorem State.updQfb_freeCtr (s : State) (f : QfbU → QfbU) : (s.updQfb f).freeCtr = s.freeCtr := rfl
@[simp] theorem State.updQfb_pending (s : State) (f : QfbU → QfbU) : (s.updQfb f).pending = s.pending := rfl

/-! ### `State.updChan` -/

@[simp] theorem State.updChan_regs (s : State) (n : Nat) (f : ChanU → ChanU) : (s.updChan n f).regs = s.regs := rfl
@[simp] theorem State.updChan_bell (s : State) (n : Nat) (f : ChanU → ChanU) : (s.updChan n f).bell = s.bell := rfl
@[simp] theorem State.updChan_sys (s : State) (n : Nat) (f : ChanU → ChanU) : (s.updChan n f).sys = s.sys := rfl
@[simp] theorem State.updChan_watch (s : State) (n : Nat) (f : ChanU → ChanU) : (s.updChan n f).watch = s.watch := rfl
@[simp] theorem State.updChan_mem (s : State) (n : Nat) (f : ChanU → ChanU) : (s.updChan n f).mem = s.mem := rfl
@[simp] theorem State.updChan_dram (s : State) (n : Nat) (f : ChanU → ChanU) : (s.updChan n f).dram = s.dram := rfl
@[simp] theorem State.updChan_media (s : State) (n : Nat) (f : ChanU → ChanU) : (s.updChan n f).media = s.media := rfl
@[simp] theorem State.updChan_chans (s : State) (n : Nat) (f : ChanU → ChanU) : (s.updChan n f).chans = listModify s.chans n f := rfl
@[simp] theorem State.updChan_dec (s : State) (n : Nat) (f : ChanU → ChanU) : (s.updChan n f).dec = s.dec := rfl
@[simp] theorem State.updChan_wrp (s : State) (n : Nat) (f : ChanU → ChanU) : (s.updChan n f).wrp = s.wrp := rfl
@[simp] theorem State.updChan_srv (s : State) (n : Nat) (f : ChanU → ChanU) : (s.updChan n f).srv = s.srv := rfl
@[simp] theorem State.updChan_ctl (s : State) (n : Nat) (f : ChanU → ChanU) : (s.updChan n f).ctl = s.ctl := rfl
@[simp] theorem State.updChan_mot (s : State) (n : Nat) (f : ChanU → ChanU) : (s.updChan n f).mot = s.mot := rfl
@[simp] theorem State.updChan_seqs (s : State) (n : Nat) (f : ChanU → ChanU) : (s.updChan n f).seqs = s.seqs := rfl
@[simp] theorem State.updChan_stores (s : State) (n : Nat) (f : ChanU → ChanU) : (s.updChan n f).stores = s.stores := rfl
@[simp] theorem State.updChan_lgt (s : State) (n : Nat) (f : ChanU → ChanU) : (s.updChan n f).lgt = s.lgt := rfl
@[simp] theorem State.updChan_pack (s : State) (n : Nat) (f : ChanU → ChanU) : (s.updChan n f).pack = s.pack := rfl
@[simp] theorem State.updChan_link (s : State) (n : Nat) (f : ChanU → ChanU) : (s.updChan n f).link = s.link := rfl
@[simp] theorem State.updChan_bq (s : State) (n : Nat) (f : ChanU → ChanU) : (s.updChan n f).bq = s.bq := rfl
@[simp] theorem State.updChan_cmds (s : State) (n : Nat) (f : ChanU → ChanU) : (s.updChan n f).cmds = s.cmds := rfl
@[simp] theorem State.updChan_sch (s : State) (n : Nat) (f : ChanU → ChanU) : (s.updChan n f).sch = s.sch := rfl
@[simp] theorem State.updChan_qfb (s : State) (n : Nat) (f : ChanU → ChanU) : (s.updChan n f).qfb = s.qfb := rfl
@[simp] theorem State.updChan_out (s : State) (n : Nat) (f : ChanU → ChanU) : (s.updChan n f).out = s.out := rfl
@[simp] theorem State.updChan_freeCtr (s : State) (n : Nat) (f : ChanU → ChanU) : (s.updChan n f).freeCtr = s.freeCtr := rfl
@[simp] theorem State.updChan_pending (s : State) (n : Nat) (f : ChanU → ChanU) : (s.updChan n f).pending = s.pending := rfl

/-! ### `State.updSeq` -/

@[simp] theorem State.updSeq_regs (s : State) (a : Nat) (f : SeqU → SeqU) : (s.updSeq a f).regs = s.regs := rfl
@[simp] theorem State.updSeq_bell (s : State) (a : Nat) (f : SeqU → SeqU) : (s.updSeq a f).bell = s.bell := rfl
@[simp] theorem State.updSeq_sys (s : State) (a : Nat) (f : SeqU → SeqU) : (s.updSeq a f).sys = s.sys := rfl
@[simp] theorem State.updSeq_watch (s : State) (a : Nat) (f : SeqU → SeqU) : (s.updSeq a f).watch = s.watch := rfl
@[simp] theorem State.updSeq_mem (s : State) (a : Nat) (f : SeqU → SeqU) : (s.updSeq a f).mem = s.mem := rfl
@[simp] theorem State.updSeq_dram (s : State) (a : Nat) (f : SeqU → SeqU) : (s.updSeq a f).dram = s.dram := rfl
@[simp] theorem State.updSeq_media (s : State) (a : Nat) (f : SeqU → SeqU) : (s.updSeq a f).media = s.media := rfl
@[simp] theorem State.updSeq_chans (s : State) (a : Nat) (f : SeqU → SeqU) : (s.updSeq a f).chans = s.chans := rfl
@[simp] theorem State.updSeq_dec (s : State) (a : Nat) (f : SeqU → SeqU) : (s.updSeq a f).dec = s.dec := rfl
@[simp] theorem State.updSeq_wrp (s : State) (a : Nat) (f : SeqU → SeqU) : (s.updSeq a f).wrp = s.wrp := rfl
@[simp] theorem State.updSeq_srv (s : State) (a : Nat) (f : SeqU → SeqU) : (s.updSeq a f).srv = s.srv := rfl
@[simp] theorem State.updSeq_ctl (s : State) (a : Nat) (f : SeqU → SeqU) : (s.updSeq a f).ctl = s.ctl := rfl
@[simp] theorem State.updSeq_mot (s : State) (a : Nat) (f : SeqU → SeqU) : (s.updSeq a f).mot = s.mot := rfl
@[simp] theorem State.updSeq_seqs (s : State) (a : Nat) (f : SeqU → SeqU) : (s.updSeq a f).seqs = listModify s.seqs a f := rfl
@[simp] theorem State.updSeq_stores (s : State) (a : Nat) (f : SeqU → SeqU) : (s.updSeq a f).stores = s.stores := rfl
@[simp] theorem State.updSeq_lgt (s : State) (a : Nat) (f : SeqU → SeqU) : (s.updSeq a f).lgt = s.lgt := rfl
@[simp] theorem State.updSeq_pack (s : State) (a : Nat) (f : SeqU → SeqU) : (s.updSeq a f).pack = s.pack := rfl
@[simp] theorem State.updSeq_link (s : State) (a : Nat) (f : SeqU → SeqU) : (s.updSeq a f).link = s.link := rfl
@[simp] theorem State.updSeq_bq (s : State) (a : Nat) (f : SeqU → SeqU) : (s.updSeq a f).bq = s.bq := rfl
@[simp] theorem State.updSeq_cmds (s : State) (a : Nat) (f : SeqU → SeqU) : (s.updSeq a f).cmds = s.cmds := rfl
@[simp] theorem State.updSeq_sch (s : State) (a : Nat) (f : SeqU → SeqU) : (s.updSeq a f).sch = s.sch := rfl
@[simp] theorem State.updSeq_qfb (s : State) (a : Nat) (f : SeqU → SeqU) : (s.updSeq a f).qfb = s.qfb := rfl
@[simp] theorem State.updSeq_out (s : State) (a : Nat) (f : SeqU → SeqU) : (s.updSeq a f).out = s.out := rfl
@[simp] theorem State.updSeq_freeCtr (s : State) (a : Nat) (f : SeqU → SeqU) : (s.updSeq a f).freeCtr = s.freeCtr := rfl
@[simp] theorem State.updSeq_pending (s : State) (a : Nat) (f : SeqU → SeqU) : (s.updSeq a f).pending = s.pending := rfl

/-! ### `State.updHead` -/

@[simp] theorem State.updHead_regs (s : State) (h : Nat) (f : HeadU → HeadU) : (s.updHead h f).regs = s.regs := rfl
@[simp] theorem State.updHead_bell (s : State) (h : Nat) (f : HeadU → HeadU) : (s.updHead h f).bell = s.bell := rfl
@[simp] theorem State.updHead_sys (s : State) (h : Nat) (f : HeadU → HeadU) : (s.updHead h f).sys = s.sys := rfl
@[simp] theorem State.updHead_watch (s : State) (h : Nat) (f : HeadU → HeadU) : (s.updHead h f).watch = s.watch := rfl
@[simp] theorem State.updHead_mem (s : State) (h : Nat) (f : HeadU → HeadU) : (s.updHead h f).mem = s.mem := rfl
@[simp] theorem State.updHead_dram (s : State) (h : Nat) (f : HeadU → HeadU) : (s.updHead h f).dram = s.dram := rfl
@[simp] theorem State.updHead_media (s : State) (h : Nat) (f : HeadU → HeadU) : (s.updHead h f).media = s.media := rfl
@[simp] theorem State.updHead_chans (s : State) (h : Nat) (f : HeadU → HeadU) : (s.updHead h f).chans = s.chans := rfl
@[simp] theorem State.updHead_dec (s : State) (h : Nat) (f : HeadU → HeadU) : (s.updHead h f).dec = s.dec := rfl
@[simp] theorem State.updHead_srv (s : State) (h : Nat) (f : HeadU → HeadU) : (s.updHead h f).srv = s.srv := rfl
@[simp] theorem State.updHead_ctl (s : State) (h : Nat) (f : HeadU → HeadU) : (s.updHead h f).ctl = s.ctl := rfl
@[simp] theorem State.updHead_mot (s : State) (h : Nat) (f : HeadU → HeadU) : (s.updHead h f).mot = s.mot := rfl
@[simp] theorem State.updHead_seqs (s : State) (h : Nat) (f : HeadU → HeadU) : (s.updHead h f).seqs = s.seqs := rfl
@[simp] theorem State.updHead_stores (s : State) (h : Nat) (f : HeadU → HeadU) : (s.updHead h f).stores = s.stores := rfl
@[simp] theorem State.updHead_lgt (s : State) (h : Nat) (f : HeadU → HeadU) : (s.updHead h f).lgt = s.lgt := rfl
@[simp] theorem State.updHead_pack (s : State) (h : Nat) (f : HeadU → HeadU) : (s.updHead h f).pack = s.pack := rfl
@[simp] theorem State.updHead_link (s : State) (h : Nat) (f : HeadU → HeadU) : (s.updHead h f).link = s.link := rfl
@[simp] theorem State.updHead_bq (s : State) (h : Nat) (f : HeadU → HeadU) : (s.updHead h f).bq = s.bq := rfl
@[simp] theorem State.updHead_cmds (s : State) (h : Nat) (f : HeadU → HeadU) : (s.updHead h f).cmds = s.cmds := rfl
@[simp] theorem State.updHead_sch (s : State) (h : Nat) (f : HeadU → HeadU) : (s.updHead h f).sch = s.sch := rfl
@[simp] theorem State.updHead_qfb (s : State) (h : Nat) (f : HeadU → HeadU) : (s.updHead h f).qfb = s.qfb := rfl
@[simp] theorem State.updHead_out (s : State) (h : Nat) (f : HeadU → HeadU) : (s.updHead h f).out = s.out := rfl
@[simp] theorem State.updHead_freeCtr (s : State) (h : Nat) (f : HeadU → HeadU) : (s.updHead h f).freeCtr = s.freeCtr := rfl
@[simp] theorem State.updHead_pending (s : State) (h : Nat) (f : HeadU → HeadU) : (s.updHead h f).pending = s.pending := rfl

/-! ### `State.updPort` -/

@[simp] theorem State.updPort_regs (s : State) (a : Nat) (f : PaPort → PaPort) : (s.updPort a f).regs = s.regs := rfl
@[simp] theorem State.updPort_bell (s : State) (a : Nat) (f : PaPort → PaPort) : (s.updPort a f).bell = s.bell := rfl
@[simp] theorem State.updPort_sys (s : State) (a : Nat) (f : PaPort → PaPort) : (s.updPort a f).sys = s.sys := rfl
@[simp] theorem State.updPort_watch (s : State) (a : Nat) (f : PaPort → PaPort) : (s.updPort a f).watch = s.watch := rfl
@[simp] theorem State.updPort_mem (s : State) (a : Nat) (f : PaPort → PaPort) : (s.updPort a f).mem = s.mem := rfl
@[simp] theorem State.updPort_dram (s : State) (a : Nat) (f : PaPort → PaPort) : (s.updPort a f).dram = s.dram := rfl
@[simp] theorem State.updPort_media (s : State) (a : Nat) (f : PaPort → PaPort) : (s.updPort a f).media = s.media := rfl
@[simp] theorem State.updPort_chans (s : State) (a : Nat) (f : PaPort → PaPort) : (s.updPort a f).chans = s.chans := rfl
@[simp] theorem State.updPort_dec (s : State) (a : Nat) (f : PaPort → PaPort) : (s.updPort a f).dec = s.dec := rfl
@[simp] theorem State.updPort_srv (s : State) (a : Nat) (f : PaPort → PaPort) : (s.updPort a f).srv = s.srv := rfl
@[simp] theorem State.updPort_ctl (s : State) (a : Nat) (f : PaPort → PaPort) : (s.updPort a f).ctl = s.ctl := rfl
@[simp] theorem State.updPort_mot (s : State) (a : Nat) (f : PaPort → PaPort) : (s.updPort a f).mot = s.mot := rfl
@[simp] theorem State.updPort_seqs (s : State) (a : Nat) (f : PaPort → PaPort) : (s.updPort a f).seqs = s.seqs := rfl
@[simp] theorem State.updPort_stores (s : State) (a : Nat) (f : PaPort → PaPort) : (s.updPort a f).stores = s.stores := rfl
@[simp] theorem State.updPort_lgt (s : State) (a : Nat) (f : PaPort → PaPort) : (s.updPort a f).lgt = s.lgt := rfl
@[simp] theorem State.updPort_pack (s : State) (a : Nat) (f : PaPort → PaPort) : (s.updPort a f).pack = s.pack := rfl
@[simp] theorem State.updPort_link (s : State) (a : Nat) (f : PaPort → PaPort) : (s.updPort a f).link = s.link := rfl
@[simp] theorem State.updPort_bq (s : State) (a : Nat) (f : PaPort → PaPort) : (s.updPort a f).bq = s.bq := rfl
@[simp] theorem State.updPort_cmds (s : State) (a : Nat) (f : PaPort → PaPort) : (s.updPort a f).cmds = s.cmds := rfl
@[simp] theorem State.updPort_sch (s : State) (a : Nat) (f : PaPort → PaPort) : (s.updPort a f).sch = s.sch := rfl
@[simp] theorem State.updPort_qfb (s : State) (a : Nat) (f : PaPort → PaPort) : (s.updPort a f).qfb = s.qfb := rfl
@[simp] theorem State.updPort_out (s : State) (a : Nat) (f : PaPort → PaPort) : (s.updPort a f).out = s.out := rfl
@[simp] theorem State.updPort_freeCtr (s : State) (a : Nat) (f : PaPort → PaPort) : (s.updPort a f).freeCtr = s.freeCtr := rfl
@[simp] theorem State.updPort_pending (s : State) (a : Nat) (f : PaPort → PaPort) : (s.updPort a f).pending = s.pending := rfl

/-! ### `State.updSrv` -/

@[simp] theorem State.updSrv_regs (s : State) (h : Nat) (f : SrvH → SrvH) : (s.updSrv h f).regs = s.regs := rfl
@[simp] theorem State.updSrv_bell (s : State) (h : Nat) (f : SrvH → SrvH) : (s.updSrv h f).bell = s.bell := rfl
@[simp] theorem State.updSrv_sys (s : State) (h : Nat) (f : SrvH → SrvH) : (s.updSrv h f).sys = s.sys := rfl
@[simp] theorem State.updSrv_watch (s : State) (h : Nat) (f : SrvH → SrvH) : (s.updSrv h f).watch = s.watch := rfl
@[simp] theorem State.updSrv_mem (s : State) (h : Nat) (f : SrvH → SrvH) : (s.updSrv h f).mem = s.mem := rfl
@[simp] theorem State.updSrv_dram (s : State) (h : Nat) (f : SrvH → SrvH) : (s.updSrv h f).dram = s.dram := rfl
@[simp] theorem State.updSrv_media (s : State) (h : Nat) (f : SrvH → SrvH) : (s.updSrv h f).media = s.media := rfl
@[simp] theorem State.updSrv_chans (s : State) (h : Nat) (f : SrvH → SrvH) : (s.updSrv h f).chans = s.chans := rfl
@[simp] theorem State.updSrv_dec (s : State) (h : Nat) (f : SrvH → SrvH) : (s.updSrv h f).dec = s.dec := rfl
@[simp] theorem State.updSrv_wrp (s : State) (h : Nat) (f : SrvH → SrvH) : (s.updSrv h f).wrp = s.wrp := rfl
@[simp] theorem State.updSrv_ctl (s : State) (h : Nat) (f : SrvH → SrvH) : (s.updSrv h f).ctl = s.ctl := rfl
@[simp] theorem State.updSrv_mot (s : State) (h : Nat) (f : SrvH → SrvH) : (s.updSrv h f).mot = s.mot := rfl
@[simp] theorem State.updSrv_seqs (s : State) (h : Nat) (f : SrvH → SrvH) : (s.updSrv h f).seqs = s.seqs := rfl
@[simp] theorem State.updSrv_stores (s : State) (h : Nat) (f : SrvH → SrvH) : (s.updSrv h f).stores = s.stores := rfl
@[simp] theorem State.updSrv_lgt (s : State) (h : Nat) (f : SrvH → SrvH) : (s.updSrv h f).lgt = s.lgt := rfl
@[simp] theorem State.updSrv_pack (s : State) (h : Nat) (f : SrvH → SrvH) : (s.updSrv h f).pack = s.pack := rfl
@[simp] theorem State.updSrv_link (s : State) (h : Nat) (f : SrvH → SrvH) : (s.updSrv h f).link = s.link := rfl
@[simp] theorem State.updSrv_bq (s : State) (h : Nat) (f : SrvH → SrvH) : (s.updSrv h f).bq = s.bq := rfl
@[simp] theorem State.updSrv_cmds (s : State) (h : Nat) (f : SrvH → SrvH) : (s.updSrv h f).cmds = s.cmds := rfl
@[simp] theorem State.updSrv_sch (s : State) (h : Nat) (f : SrvH → SrvH) : (s.updSrv h f).sch = s.sch := rfl
@[simp] theorem State.updSrv_qfb (s : State) (h : Nat) (f : SrvH → SrvH) : (s.updSrv h f).qfb = s.qfb := rfl
@[simp] theorem State.updSrv_out (s : State) (h : Nat) (f : SrvH → SrvH) : (s.updSrv h f).out = s.out := rfl
@[simp] theorem State.updSrv_freeCtr (s : State) (h : Nat) (f : SrvH → SrvH) : (s.updSrv h f).freeCtr = s.freeCtr := rfl
@[simp] theorem State.updSrv_pending (s : State) (h : Nat) (f : SrvH → SrvH) : (s.updSrv h f).pending = s.pending := rfl

/-! ### `State.updLoop` -/

@[simp] theorem State.updLoop_regs (s : State) (n : Nat) (f : CtlLoop → CtlLoop) : (s.updLoop n f).regs = s.regs := rfl
@[simp] theorem State.updLoop_bell (s : State) (n : Nat) (f : CtlLoop → CtlLoop) : (s.updLoop n f).bell = s.bell := rfl
@[simp] theorem State.updLoop_sys (s : State) (n : Nat) (f : CtlLoop → CtlLoop) : (s.updLoop n f).sys = s.sys := rfl
@[simp] theorem State.updLoop_watch (s : State) (n : Nat) (f : CtlLoop → CtlLoop) : (s.updLoop n f).watch = s.watch := rfl
@[simp] theorem State.updLoop_mem (s : State) (n : Nat) (f : CtlLoop → CtlLoop) : (s.updLoop n f).mem = s.mem := rfl
@[simp] theorem State.updLoop_dram (s : State) (n : Nat) (f : CtlLoop → CtlLoop) : (s.updLoop n f).dram = s.dram := rfl
@[simp] theorem State.updLoop_media (s : State) (n : Nat) (f : CtlLoop → CtlLoop) : (s.updLoop n f).media = s.media := rfl
@[simp] theorem State.updLoop_chans (s : State) (n : Nat) (f : CtlLoop → CtlLoop) : (s.updLoop n f).chans = s.chans := rfl
@[simp] theorem State.updLoop_dec (s : State) (n : Nat) (f : CtlLoop → CtlLoop) : (s.updLoop n f).dec = s.dec := rfl
@[simp] theorem State.updLoop_wrp (s : State) (n : Nat) (f : CtlLoop → CtlLoop) : (s.updLoop n f).wrp = s.wrp := rfl
@[simp] theorem State.updLoop_srv (s : State) (n : Nat) (f : CtlLoop → CtlLoop) : (s.updLoop n f).srv = s.srv := rfl
@[simp] theorem State.updLoop_mot (s : State) (n : Nat) (f : CtlLoop → CtlLoop) : (s.updLoop n f).mot = s.mot := rfl
@[simp] theorem State.updLoop_seqs (s : State) (n : Nat) (f : CtlLoop → CtlLoop) : (s.updLoop n f).seqs = s.seqs := rfl
@[simp] theorem State.updLoop_stores (s : State) (n : Nat) (f : CtlLoop → CtlLoop) : (s.updLoop n f).stores = s.stores := rfl
@[simp] theorem State.updLoop_lgt (s : State) (n : Nat) (f : CtlLoop → CtlLoop) : (s.updLoop n f).lgt = s.lgt := rfl
@[simp] theorem State.updLoop_pack (s : State) (n : Nat) (f : CtlLoop → CtlLoop) : (s.updLoop n f).pack = s.pack := rfl
@[simp] theorem State.updLoop_link (s : State) (n : Nat) (f : CtlLoop → CtlLoop) : (s.updLoop n f).link = s.link := rfl
@[simp] theorem State.updLoop_bq (s : State) (n : Nat) (f : CtlLoop → CtlLoop) : (s.updLoop n f).bq = s.bq := rfl
@[simp] theorem State.updLoop_cmds (s : State) (n : Nat) (f : CtlLoop → CtlLoop) : (s.updLoop n f).cmds = s.cmds := rfl
@[simp] theorem State.updLoop_sch (s : State) (n : Nat) (f : CtlLoop → CtlLoop) : (s.updLoop n f).sch = s.sch := rfl
@[simp] theorem State.updLoop_qfb (s : State) (n : Nat) (f : CtlLoop → CtlLoop) : (s.updLoop n f).qfb = s.qfb := rfl
@[simp] theorem State.updLoop_out (s : State) (n : Nat) (f : CtlLoop → CtlLoop) : (s.updLoop n f).out = s.out := rfl
@[simp] theorem State.updLoop_freeCtr (s : State) (n : Nat) (f : CtlLoop → CtlLoop) : (s.updLoop n f).freeCtr = s.freeCtr := rfl
@[simp] theorem State.updLoop_pending (s : State) (n : Nat) (f : CtlLoop → CtlLoop) : (s.updLoop n f).pending = s.pending := rfl

/-! ### `State.updAct` -/

@[simp] theorem State.updAct_regs (s : State) (a : Nat) (f : CtlAct → CtlAct) : (s.updAct a f).regs = s.regs := rfl
@[simp] theorem State.updAct_bell (s : State) (a : Nat) (f : CtlAct → CtlAct) : (s.updAct a f).bell = s.bell := rfl
@[simp] theorem State.updAct_sys (s : State) (a : Nat) (f : CtlAct → CtlAct) : (s.updAct a f).sys = s.sys := rfl
@[simp] theorem State.updAct_watch (s : State) (a : Nat) (f : CtlAct → CtlAct) : (s.updAct a f).watch = s.watch := rfl
@[simp] theorem State.updAct_mem (s : State) (a : Nat) (f : CtlAct → CtlAct) : (s.updAct a f).mem = s.mem := rfl
@[simp] theorem State.updAct_dram (s : State) (a : Nat) (f : CtlAct → CtlAct) : (s.updAct a f).dram = s.dram := rfl
@[simp] theorem State.updAct_media (s : State) (a : Nat) (f : CtlAct → CtlAct) : (s.updAct a f).media = s.media := rfl
@[simp] theorem State.updAct_chans (s : State) (a : Nat) (f : CtlAct → CtlAct) : (s.updAct a f).chans = s.chans := rfl
@[simp] theorem State.updAct_dec (s : State) (a : Nat) (f : CtlAct → CtlAct) : (s.updAct a f).dec = s.dec := rfl
@[simp] theorem State.updAct_wrp (s : State) (a : Nat) (f : CtlAct → CtlAct) : (s.updAct a f).wrp = s.wrp := rfl
@[simp] theorem State.updAct_srv (s : State) (a : Nat) (f : CtlAct → CtlAct) : (s.updAct a f).srv = s.srv := rfl
@[simp] theorem State.updAct_mot (s : State) (a : Nat) (f : CtlAct → CtlAct) : (s.updAct a f).mot = s.mot := rfl
@[simp] theorem State.updAct_seqs (s : State) (a : Nat) (f : CtlAct → CtlAct) : (s.updAct a f).seqs = s.seqs := rfl
@[simp] theorem State.updAct_stores (s : State) (a : Nat) (f : CtlAct → CtlAct) : (s.updAct a f).stores = s.stores := rfl
@[simp] theorem State.updAct_lgt (s : State) (a : Nat) (f : CtlAct → CtlAct) : (s.updAct a f).lgt = s.lgt := rfl
@[simp] theorem State.updAct_pack (s : State) (a : Nat) (f : CtlAct → CtlAct) : (s.updAct a f).pack = s.pack := rfl
@[simp] theorem State.updAct_link (s : State) (a : Nat) (f : CtlAct → CtlAct) : (s.updAct a f).link = s.link := rfl
@[simp] theorem State.updAct_bq (s : State) (a : Nat) (f : CtlAct → CtlAct) : (s.updAct a f).bq = s.bq := rfl
@[simp] theorem State.updAct_cmds (s : State) (a : Nat) (f : CtlAct → CtlAct) : (s.updAct a f).cmds = s.cmds := rfl
@[simp] theorem State.updAct_sch (s : State) (a : Nat) (f : CtlAct → CtlAct) : (s.updAct a f).sch = s.sch := rfl
@[simp] theorem State.updAct_qfb (s : State) (a : Nat) (f : CtlAct → CtlAct) : (s.updAct a f).qfb = s.qfb := rfl
@[simp] theorem State.updAct_out (s : State) (a : Nat) (f : CtlAct → CtlAct) : (s.updAct a f).out = s.out := rfl
@[simp] theorem State.updAct_freeCtr (s : State) (a : Nat) (f : CtlAct → CtlAct) : (s.updAct a f).freeCtr = s.freeCtr := rfl
@[simp] theorem State.updAct_pending (s : State) (a : Nat) (f : CtlAct → CtlAct) : (s.updAct a f).pending = s.pending := rfl

/-! ### `State.updCmd` -/

@[simp] theorem State.updCmd_regs (s : State) (t : Nat) (f : Cmd → Cmd) : (s.updCmd t f).regs = s.regs := rfl
@[simp] theorem State.updCmd_bell (s : State) (t : Nat) (f : Cmd → Cmd) : (s.updCmd t f).bell = s.bell := rfl
@[simp] theorem State.updCmd_sys (s : State) (t : Nat) (f : Cmd → Cmd) : (s.updCmd t f).sys = s.sys := rfl
@[simp] theorem State.updCmd_watch (s : State) (t : Nat) (f : Cmd → Cmd) : (s.updCmd t f).watch = s.watch := rfl
@[simp] theorem State.updCmd_mem (s : State) (t : Nat) (f : Cmd → Cmd) : (s.updCmd t f).mem = s.mem := rfl
@[simp] theorem State.updCmd_dram (s : State) (t : Nat) (f : Cmd → Cmd) : (s.updCmd t f).dram = s.dram := rfl
@[simp] theorem State.updCmd_media (s : State) (t : Nat) (f : Cmd → Cmd) : (s.updCmd t f).media = s.media := rfl
@[simp] theorem State.updCmd_chans (s : State) (t : Nat) (f : Cmd → Cmd) : (s.updCmd t f).chans = s.chans := rfl
@[simp] theorem State.updCmd_dec (s : State) (t : Nat) (f : Cmd → Cmd) : (s.updCmd t f).dec = s.dec := rfl
@[simp] theorem State.updCmd_wrp (s : State) (t : Nat) (f : Cmd → Cmd) : (s.updCmd t f).wrp = s.wrp := rfl
@[simp] theorem State.updCmd_srv (s : State) (t : Nat) (f : Cmd → Cmd) : (s.updCmd t f).srv = s.srv := rfl
@[simp] theorem State.updCmd_ctl (s : State) (t : Nat) (f : Cmd → Cmd) : (s.updCmd t f).ctl = s.ctl := rfl
@[simp] theorem State.updCmd_mot (s : State) (t : Nat) (f : Cmd → Cmd) : (s.updCmd t f).mot = s.mot := rfl
@[simp] theorem State.updCmd_seqs (s : State) (t : Nat) (f : Cmd → Cmd) : (s.updCmd t f).seqs = s.seqs := rfl
@[simp] theorem State.updCmd_stores (s : State) (t : Nat) (f : Cmd → Cmd) : (s.updCmd t f).stores = s.stores := rfl
@[simp] theorem State.updCmd_lgt (s : State) (t : Nat) (f : Cmd → Cmd) : (s.updCmd t f).lgt = s.lgt := rfl
@[simp] theorem State.updCmd_pack (s : State) (t : Nat) (f : Cmd → Cmd) : (s.updCmd t f).pack = s.pack := rfl
@[simp] theorem State.updCmd_link (s : State) (t : Nat) (f : Cmd → Cmd) : (s.updCmd t f).link = s.link := rfl
@[simp] theorem State.updCmd_bq (s : State) (t : Nat) (f : Cmd → Cmd) : (s.updCmd t f).bq = s.bq := rfl
@[simp] theorem State.updCmd_sch (s : State) (t : Nat) (f : Cmd → Cmd) : (s.updCmd t f).sch = s.sch := rfl
@[simp] theorem State.updCmd_qfb (s : State) (t : Nat) (f : Cmd → Cmd) : (s.updCmd t f).qfb = s.qfb := rfl
@[simp] theorem State.updCmd_out (s : State) (t : Nat) (f : Cmd → Cmd) : (s.updCmd t f).out = s.out := rfl
@[simp] theorem State.updCmd_freeCtr (s : State) (t : Nat) (f : Cmd → Cmd) : (s.updCmd t f).freeCtr = s.freeCtr := rfl
@[simp] theorem State.updCmd_pending (s : State) (t : Nat) (f : Cmd → Cmd) : (s.updCmd t f).pending = s.pending := rfl

/-! ### `State.updSec` -/

@[simp] theorem State.updSec_regs (s : State) (k : Nat) (f : SecWork → SecWork) : (s.updSec k f).regs = s.regs := rfl
@[simp] theorem State.updSec_bell (s : State) (k : Nat) (f : SecWork → SecWork) : (s.updSec k f).bell = s.bell := rfl
@[simp] theorem State.updSec_sys (s : State) (k : Nat) (f : SecWork → SecWork) : (s.updSec k f).sys = s.sys := rfl
@[simp] theorem State.updSec_watch (s : State) (k : Nat) (f : SecWork → SecWork) : (s.updSec k f).watch = s.watch := rfl
@[simp] theorem State.updSec_mem (s : State) (k : Nat) (f : SecWork → SecWork) : (s.updSec k f).mem = s.mem := rfl
@[simp] theorem State.updSec_dram (s : State) (k : Nat) (f : SecWork → SecWork) : (s.updSec k f).dram = s.dram := rfl
@[simp] theorem State.updSec_media (s : State) (k : Nat) (f : SecWork → SecWork) : (s.updSec k f).media = s.media := rfl
@[simp] theorem State.updSec_chans (s : State) (k : Nat) (f : SecWork → SecWork) : (s.updSec k f).chans = s.chans := rfl
@[simp] theorem State.updSec_dec (s : State) (k : Nat) (f : SecWork → SecWork) : (s.updSec k f).dec = s.dec := rfl
@[simp] theorem State.updSec_wrp (s : State) (k : Nat) (f : SecWork → SecWork) : (s.updSec k f).wrp = s.wrp := rfl
@[simp] theorem State.updSec_srv (s : State) (k : Nat) (f : SecWork → SecWork) : (s.updSec k f).srv = s.srv := rfl
@[simp] theorem State.updSec_ctl (s : State) (k : Nat) (f : SecWork → SecWork) : (s.updSec k f).ctl = s.ctl := rfl
@[simp] theorem State.updSec_mot (s : State) (k : Nat) (f : SecWork → SecWork) : (s.updSec k f).mot = s.mot := rfl
@[simp] theorem State.updSec_seqs (s : State) (k : Nat) (f : SecWork → SecWork) : (s.updSec k f).seqs = s.seqs := rfl
@[simp] theorem State.updSec_stores (s : State) (k : Nat) (f : SecWork → SecWork) : (s.updSec k f).stores = s.stores := rfl
@[simp] theorem State.updSec_lgt (s : State) (k : Nat) (f : SecWork → SecWork) : (s.updSec k f).lgt = s.lgt := rfl
@[simp] theorem State.updSec_pack (s : State) (k : Nat) (f : SecWork → SecWork) : (s.updSec k f).pack = s.pack := rfl
@[simp] theorem State.updSec_link (s : State) (k : Nat) (f : SecWork → SecWork) : (s.updSec k f).link = s.link := rfl
@[simp] theorem State.updSec_bq (s : State) (k : Nat) (f : SecWork → SecWork) : (s.updSec k f).bq = s.bq := rfl
@[simp] theorem State.updSec_sch (s : State) (k : Nat) (f : SecWork → SecWork) : (s.updSec k f).sch = s.sch := rfl
@[simp] theorem State.updSec_qfb (s : State) (k : Nat) (f : SecWork → SecWork) : (s.updSec k f).qfb = s.qfb := rfl
@[simp] theorem State.updSec_out (s : State) (k : Nat) (f : SecWork → SecWork) : (s.updSec k f).out = s.out := rfl
@[simp] theorem State.updSec_freeCtr (s : State) (k : Nat) (f : SecWork → SecWork) : (s.updSec k f).freeCtr = s.freeCtr := rfl
@[simp] theorem State.updSec_pending (s : State) (k : Nat) (f : SecWork → SecWork) : (s.updSec k f).pending = s.pending := rfl

/-! ### `State.updZone` -/

@[simp] theorem State.updZone_regs (s : State) (z : Nat) (f : Zone → Zone) : (s.updZone z f).regs = s.regs := by
  unfold State.updZone State.saveArea State.writeArea; dsimp only; repeat' first | rfl | split
@[simp] theorem State.updZone_bell (s : State) (z : Nat) (f : Zone → Zone) : (s.updZone z f).bell = s.bell := by
  unfold State.updZone State.saveArea State.writeArea; dsimp only; repeat' first | rfl | split
@[simp] theorem State.updZone_sys (s : State) (z : Nat) (f : Zone → Zone) : (s.updZone z f).sys = s.sys := by
  unfold State.updZone State.saveArea State.writeArea; dsimp only; repeat' first | rfl | split
@[simp] theorem State.updZone_watch (s : State) (z : Nat) (f : Zone → Zone) : (s.updZone z f).watch = s.watch := by
  unfold State.updZone State.saveArea State.writeArea; dsimp only; repeat' first | rfl | split
@[simp] theorem State.updZone_mem (s : State) (z : Nat) (f : Zone → Zone) : (s.updZone z f).mem = s.mem := by
  unfold State.updZone State.saveArea State.writeArea; dsimp only; repeat' first | rfl | split
@[simp] theorem State.updZone_dram (s : State) (z : Nat) (f : Zone → Zone) : (s.updZone z f).dram = s.dram := by
  unfold State.updZone State.saveArea State.writeArea; dsimp only; repeat' first | rfl | split
@[simp] theorem State.updZone_chans (s : State) (z : Nat) (f : Zone → Zone) : (s.updZone z f).chans = s.chans := by
  unfold State.updZone State.saveArea State.writeArea; dsimp only; repeat' first | rfl | split
@[simp] theorem State.updZone_dec (s : State) (z : Nat) (f : Zone → Zone) : (s.updZone z f).dec = s.dec := by
  unfold State.updZone State.saveArea State.writeArea; dsimp only; repeat' first | rfl | split
@[simp] theorem State.updZone_wrp (s : State) (z : Nat) (f : Zone → Zone) : (s.updZone z f).wrp = s.wrp := by
  unfold State.updZone State.saveArea State.writeArea; dsimp only; repeat' first | rfl | split
@[simp] theorem State.updZone_srv (s : State) (z : Nat) (f : Zone → Zone) : (s.updZone z f).srv = s.srv := by
  unfold State.updZone State.saveArea State.writeArea; dsimp only; repeat' first | rfl | split
@[simp] theorem State.updZone_ctl (s : State) (z : Nat) (f : Zone → Zone) : (s.updZone z f).ctl = s.ctl := by
  unfold State.updZone State.saveArea State.writeArea; dsimp only; repeat' first | rfl | split
@[simp] theorem State.updZone_mot (s : State) (z : Nat) (f : Zone → Zone) : (s.updZone z f).mot = s.mot := by
  unfold State.updZone State.saveArea State.writeArea; dsimp only; repeat' first | rfl | split
@[simp] theorem State.updZone_seqs (s : State) (z : Nat) (f : Zone → Zone) : (s.updZone z f).seqs = s.seqs := by
  unfold State.updZone State.saveArea State.writeArea; dsimp only; repeat' first | rfl | split
@[simp] theorem State.updZone_stores (s : State) (z : Nat) (f : Zone → Zone) : (s.updZone z f).stores = s.stores := by
  unfold State.updZone State.saveArea State.writeArea; dsimp only; repeat' first | rfl | split
@[simp] theorem State.updZone_lgt (s : State) (z : Nat) (f : Zone → Zone) : (s.updZone z f).lgt = s.lgt := by
  unfold State.updZone State.saveArea State.writeArea; dsimp only; repeat' first | rfl | split
@[simp] theorem State.updZone_pack (s : State) (z : Nat) (f : Zone → Zone) : (s.updZone z f).pack = s.pack := by
  unfold State.updZone State.saveArea State.writeArea; dsimp only; repeat' first | rfl | split
@[simp] theorem State.updZone_link (s : State) (z : Nat) (f : Zone → Zone) : (s.updZone z f).link = s.link := by
  unfold State.updZone State.saveArea State.writeArea; dsimp only; repeat' first | rfl | split
@[simp] theorem State.updZone_bq (s : State) (z : Nat) (f : Zone → Zone) : (s.updZone z f).bq = s.bq := by
  unfold State.updZone State.saveArea State.writeArea; dsimp only; repeat' first | rfl | split
@[simp] theorem State.updZone_cmds (s : State) (z : Nat) (f : Zone → Zone) : (s.updZone z f).cmds = s.cmds := by
  unfold State.updZone State.saveArea State.writeArea; dsimp only; repeat' first | rfl | split
@[simp] theorem State.updZone_sch (s : State) (z : Nat) (f : Zone → Zone) : (s.updZone z f).sch = s.sch := by
  unfold State.updZone State.saveArea State.writeArea; dsimp only; repeat' first | rfl | split
@[simp] theorem State.updZone_qfb (s : State) (z : Nat) (f : Zone → Zone) : (s.updZone z f).qfb = s.qfb := by
  unfold State.updZone State.saveArea State.writeArea; dsimp only; repeat' first | rfl | split
@[simp] theorem State.updZone_out (s : State) (z : Nat) (f : Zone → Zone) : (s.updZone z f).out = s.out := by
  unfold State.updZone State.saveArea State.writeArea; dsimp only; repeat' first | rfl | split
@[simp] theorem State.updZone_freeCtr (s : State) (z : Nat) (f : Zone → Zone) : (s.updZone z f).freeCtr = s.freeCtr := by
  unfold State.updZone State.saveArea State.writeArea; dsimp only; repeat' first | rfl | split
@[simp] theorem State.updZone_pending (s : State) (z : Nat) (f : Zone → Zone) : (s.updZone z f).pending = s.pending := by
  unfold State.updZone State.saveArea State.writeArea; dsimp only; repeat' first | rfl | split

/-! ### `State.updEng` -/

@[simp] theorem State.updEng_regs (s : State) (n : Nat) (f : EngU → EngU) : (s.updEng n f).regs = s.regs := rfl
@[simp] theorem State.updEng_bell (s : State) (n : Nat) (f : EngU → EngU) : (s.updEng n f).bell = s.bell := rfl
@[simp] theorem State.updEng_sys (s : State) (n : Nat) (f : EngU → EngU) : (s.updEng n f).sys = s.sys := rfl
@[simp] theorem State.updEng_watch (s : State) (n : Nat) (f : EngU → EngU) : (s.updEng n f).watch = s.watch := rfl
@[simp] theorem State.updEng_mem (s : State) (n : Nat) (f : EngU → EngU) : (s.updEng n f).mem = s.mem := rfl
@[simp] theorem State.updEng_dram (s : State) (n : Nat) (f : EngU → EngU) : (s.updEng n f).dram = s.dram := rfl
@[simp] theorem State.updEng_media (s : State) (n : Nat) (f : EngU → EngU) : (s.updEng n f).media = s.media := rfl
@[simp] theorem State.updEng_chans (s : State) (n : Nat) (f : EngU → EngU) : (s.updEng n f).chans = s.chans := rfl
@[simp] theorem State.updEng_wrp (s : State) (n : Nat) (f : EngU → EngU) : (s.updEng n f).wrp = s.wrp := rfl
@[simp] theorem State.updEng_srv (s : State) (n : Nat) (f : EngU → EngU) : (s.updEng n f).srv = s.srv := rfl
@[simp] theorem State.updEng_ctl (s : State) (n : Nat) (f : EngU → EngU) : (s.updEng n f).ctl = s.ctl := rfl
@[simp] theorem State.updEng_mot (s : State) (n : Nat) (f : EngU → EngU) : (s.updEng n f).mot = s.mot := rfl
@[simp] theorem State.updEng_seqs (s : State) (n : Nat) (f : EngU → EngU) : (s.updEng n f).seqs = s.seqs := rfl
@[simp] theorem State.updEng_stores (s : State) (n : Nat) (f : EngU → EngU) : (s.updEng n f).stores = s.stores := rfl
@[simp] theorem State.updEng_lgt (s : State) (n : Nat) (f : EngU → EngU) : (s.updEng n f).lgt = s.lgt := rfl
@[simp] theorem State.updEng_pack (s : State) (n : Nat) (f : EngU → EngU) : (s.updEng n f).pack = s.pack := rfl
@[simp] theorem State.updEng_link (s : State) (n : Nat) (f : EngU → EngU) : (s.updEng n f).link = s.link := rfl
@[simp] theorem State.updEng_bq (s : State) (n : Nat) (f : EngU → EngU) : (s.updEng n f).bq = s.bq := rfl
@[simp] theorem State.updEng_cmds (s : State) (n : Nat) (f : EngU → EngU) : (s.updEng n f).cmds = s.cmds := rfl
@[simp] theorem State.updEng_sch (s : State) (n : Nat) (f : EngU → EngU) : (s.updEng n f).sch = s.sch := rfl
@[simp] theorem State.updEng_qfb (s : State) (n : Nat) (f : EngU → EngU) : (s.updEng n f).qfb = s.qfb := rfl
@[simp] theorem State.updEng_out (s : State) (n : Nat) (f : EngU → EngU) : (s.updEng n f).out = s.out := rfl
@[simp] theorem State.updEng_freeCtr (s : State) (n : Nat) (f : EngU → EngU) : (s.updEng n f).freeCtr = s.freeCtr := rfl
@[simp] theorem State.updEng_pending (s : State) (n : Nat) (f : EngU → EngU) : (s.updEng n f).pending = s.pending := rfl

/-! ### `State.updLane` -/

@[simp] theorem State.updLane_regs (s : State) (h : Nat) (f : Lane → Lane) : (s.updLane h f).regs = s.regs := rfl
@[simp] theorem State.updLane_bell (s : State) (h : Nat) (f : Lane → Lane) : (s.updLane h f).bell = s.bell := rfl
@[simp] theorem State.updLane_sys (s : State) (h : Nat) (f : Lane → Lane) : (s.updLane h f).sys = s.sys := rfl
@[simp] theorem State.updLane_watch (s : State) (h : Nat) (f : Lane → Lane) : (s.updLane h f).watch = s.watch := rfl
@[simp] theorem State.updLane_mem (s : State) (h : Nat) (f : Lane → Lane) : (s.updLane h f).mem = s.mem := rfl
@[simp] theorem State.updLane_dram (s : State) (h : Nat) (f : Lane → Lane) : (s.updLane h f).dram = s.dram := rfl
@[simp] theorem State.updLane_media (s : State) (h : Nat) (f : Lane → Lane) : (s.updLane h f).media = s.media := rfl
@[simp] theorem State.updLane_chans (s : State) (h : Nat) (f : Lane → Lane) : (s.updLane h f).chans = s.chans := rfl
@[simp] theorem State.updLane_dec (s : State) (h : Nat) (f : Lane → Lane) : (s.updLane h f).dec = s.dec := rfl
@[simp] theorem State.updLane_wrp (s : State) (h : Nat) (f : Lane → Lane) : (s.updLane h f).wrp = s.wrp := rfl
@[simp] theorem State.updLane_srv (s : State) (h : Nat) (f : Lane → Lane) : (s.updLane h f).srv = s.srv := rfl
@[simp] theorem State.updLane_ctl (s : State) (h : Nat) (f : Lane → Lane) : (s.updLane h f).ctl = s.ctl := rfl
@[simp] theorem State.updLane_mot (s : State) (h : Nat) (f : Lane → Lane) : (s.updLane h f).mot = s.mot := rfl
@[simp] theorem State.updLane_stores (s : State) (h : Nat) (f : Lane → Lane) : (s.updLane h f).stores = s.stores := rfl
@[simp] theorem State.updLane_lgt (s : State) (h : Nat) (f : Lane → Lane) : (s.updLane h f).lgt = s.lgt := rfl
@[simp] theorem State.updLane_pack (s : State) (h : Nat) (f : Lane → Lane) : (s.updLane h f).pack = s.pack := rfl
@[simp] theorem State.updLane_link (s : State) (h : Nat) (f : Lane → Lane) : (s.updLane h f).link = s.link := rfl
@[simp] theorem State.updLane_bq (s : State) (h : Nat) (f : Lane → Lane) : (s.updLane h f).bq = s.bq := rfl
@[simp] theorem State.updLane_cmds (s : State) (h : Nat) (f : Lane → Lane) : (s.updLane h f).cmds = s.cmds := rfl
@[simp] theorem State.updLane_sch (s : State) (h : Nat) (f : Lane → Lane) : (s.updLane h f).sch = s.sch := rfl
@[simp] theorem State.updLane_qfb (s : State) (h : Nat) (f : Lane → Lane) : (s.updLane h f).qfb = s.qfb := rfl
@[simp] theorem State.updLane_out (s : State) (h : Nat) (f : Lane → Lane) : (s.updLane h f).out = s.out := rfl
@[simp] theorem State.updLane_freeCtr (s : State) (h : Nat) (f : Lane → Lane) : (s.updLane h f).freeCtr = s.freeCtr := rfl
@[simp] theorem State.updLane_pending (s : State) (h : Nat) (f : Lane → Lane) : (s.updLane h f).pending = s.pending := rfl

/-! ### `State.updRing` -/

@[simp] theorem State.updRing_regs (s : State) (r : Nat) (f : RingU → RingU) : (s.updRing r f).regs = s.regs := rfl
@[simp] theorem State.updRing_bell (s : State) (r : Nat) (f : RingU → RingU) : (s.updRing r f).bell = s.bell := rfl
@[simp] theorem State.updRing_sys (s : State) (r : Nat) (f : RingU → RingU) : (s.updRing r f).sys = s.sys := rfl
@[simp] theorem State.updRing_watch (s : State) (r : Nat) (f : RingU → RingU) : (s.updRing r f).watch = s.watch := rfl
@[simp] theorem State.updRing_mem (s : State) (r : Nat) (f : RingU → RingU) : (s.updRing r f).mem = s.mem := rfl
@[simp] theorem State.updRing_dram (s : State) (r : Nat) (f : RingU → RingU) : (s.updRing r f).dram = s.dram := rfl
@[simp] theorem State.updRing_media (s : State) (r : Nat) (f : RingU → RingU) : (s.updRing r f).media = s.media := rfl
@[simp] theorem State.updRing_chans (s : State) (r : Nat) (f : RingU → RingU) : (s.updRing r f).chans = s.chans := rfl
@[simp] theorem State.updRing_dec (s : State) (r : Nat) (f : RingU → RingU) : (s.updRing r f).dec = s.dec := rfl
@[simp] theorem State.updRing_wrp (s : State) (r : Nat) (f : RingU → RingU) : (s.updRing r f).wrp = s.wrp := rfl
@[simp] theorem State.updRing_srv (s : State) (r : Nat) (f : RingU → RingU) : (s.updRing r f).srv = s.srv := rfl
@[simp] theorem State.updRing_ctl (s : State) (r : Nat) (f : RingU → RingU) : (s.updRing r f).ctl = s.ctl := rfl
@[simp] theorem State.updRing_mot (s : State) (r : Nat) (f : RingU → RingU) : (s.updRing r f).mot = s.mot := rfl
@[simp] theorem State.updRing_seqs (s : State) (r : Nat) (f : RingU → RingU) : (s.updRing r f).seqs = s.seqs := rfl
@[simp] theorem State.updRing_stores (s : State) (r : Nat) (f : RingU → RingU) : (s.updRing r f).stores = s.stores := rfl
@[simp] theorem State.updRing_lgt (s : State) (r : Nat) (f : RingU → RingU) : (s.updRing r f).lgt = s.lgt := rfl
@[simp] theorem State.updRing_pack (s : State) (r : Nat) (f : RingU → RingU) : (s.updRing r f).pack = s.pack := rfl
@[simp] theorem State.updRing_link (s : State) (r : Nat) (f : RingU → RingU) : (s.updRing r f).link = s.link := rfl
@[simp] theorem State.updRing_cmds (s : State) (r : Nat) (f : RingU → RingU) : (s.updRing r f).cmds = s.cmds := rfl
@[simp] theorem State.updRing_sch (s : State) (r : Nat) (f : RingU → RingU) : (s.updRing r f).sch = s.sch := rfl
@[simp] theorem State.updRing_qfb (s : State) (r : Nat) (f : RingU → RingU) : (s.updRing r f).qfb = s.qfb := rfl
@[simp] theorem State.updRing_out (s : State) (r : Nat) (f : RingU → RingU) : (s.updRing r f).out = s.out := rfl
@[simp] theorem State.updRing_freeCtr (s : State) (r : Nat) (f : RingU → RingU) : (s.updRing r f).freeCtr = s.freeCtr := rfl
@[simp] theorem State.updRing_pending (s : State) (r : Nat) (f : RingU → RingU) : (s.updRing r f).pending = s.pending := rfl

end Sys2Proof.Machine
end

