-- ==== Sys2Proof/Laws/Regs.lean ====
section
/-! SUPPORT. Laws of sparse arrays, bit fields and the register file: read after write, writes elsewhere, the canonical form. -/

set_option Elab.async false

namespace Sys2Proof.Machine

/-! ### Sparse arrays -/

theorem sparseErase_key {α : Type} (m : Sparse α) (k : Nat) : ∀ e ∈ sparseErase m k, e.1 ≠ k := by
  induction m with
  | nil => intro e he; simp [sparseErase] at he
  | cons p m ih =>
    intro e he
    by_cases hp : p.1 = k
    · simp only [sparseErase, hp, if_true] at he; exact ih e he
    · simp only [sparseErase, hp, if_false, List.mem_cons] at he
      rcases he with rfl | he
      · exact hp
      · exact ih e he

theorem sparseGet_erase_self {α : Type} (d : α) (m : Sparse α) (k : Nat) : sparseGet d (sparseErase m k) k = d := by
  induction m with
  | nil => rfl
  | cons p m ih => by_cases hp : p.1 = k <;> simp [sparseErase, sparseGet, hp, ih]

theorem sparseGet_erase_ne {α : Type} (d : α) (m : Sparse α) {j k : Nat} (h : j ≠ k) :
    sparseGet d (sparseErase m k) j = sparseGet d m j := by
  induction m with
  | nil => rfl
  | cons p m ih =>
    by_cases hp : p.1 = k
    · have hj : p.1 ≠ j := fun e => h (e.symm.trans hp)
      simp only [sparseErase, hp, if_true, ih, sparseGet]
      rw [← hp, if_neg hj]
    · simp only [sparseErase, hp, if_false, sparseGet, ih]

theorem sparseGet_insert_self {α : Type} (d : α) (m : Sparse α) (k : Nat) (v : α) (h : ∀ e ∈ m, e.1 ≠ k) :
    sparseGet d (sparseInsert m k v) k = v := by
  induction m with
  | nil => simp [sparseInsert, sparseGet]
  | cons p m ih =>
    have hp : p.1 ≠ k := h p (by simp)
    by_cases hk : k < p.1
    · simp [sparseInsert, sparseGet, hk]
    · simp only [sparseInsert, hk, if_false, sparseGet, hp]
      exact ih (fun e he => h e (by simp [he]))

theorem sparseGet_insert_ne {α : Type} (d : α) (m : Sparse α) {j k : Nat} (v : α) (h : j ≠ k) :
    sparseGet d (sparseInsert m k v) j = sparseGet d m j := by
  induction m with
  | nil => simp [sparseInsert, sparseGet, Ne.symm h]
  | cons p m ih =>
    by_cases hk : k < p.1
    · simp [sparseInsert, sparseGet, hk, Ne.symm h]
    · simp only [sparseInsert, hk, if_false, sparseGet, ih]

/-- A set key reads the value set, under its own default. -/
theorem sparseGet_set_self {α : Type} [DecidableEq α] (d : α) (m : Sparse α) (k : Nat) (v : α) :
    sparseGet d (sparseSet d m k v) k = v := by
  unfold sparseSet
  split
  · rename_i h; rw [sparseGet_erase_self, h]
  · exact sparseGet_insert_self d _ k v (sparseErase_key m k)

/-- Setting a key leaves every other key, whatever their defaults. -/
theorem sparseGet_set_ne {α : Type} [DecidableEq α] (d d' : α) (m : Sparse α) {j k : Nat} (v : α) (h : j ≠ k) :
    sparseGet d (sparseSet d' m k v) j = sparseGet d m j := by
  unfold sparseSet
  split
  · exact sparseGet_erase_ne d m h
  · rw [sparseGet_insert_ne d _ v h, sparseGet_erase_ne d m h]

/-- Every key of a list lies above `b`. -/
def sparseAbove {α : Type} (b : Nat) (m : Sparse α) : Bool := m.all (fun e => decide (b < e.1))

theorem sparseRising_cons {α : Type} (p : Nat × α) (m : Sparse α) :
    sparseRising (p :: m) = true ↔ sparseAbove p.1 m = true ∧ sparseRising m = true := by
  induction m generalizing p with
  | nil => simp [sparseRising, sparseAbove]
  | cons q m ih =>
    have := ih q
    simp only [sparseRising, sparseAbove, Bool.and_eq_true, decide_eq_true_eq, List.all_cons, List.all_eq_true] at this ⊢
    constructor
    · rintro ⟨h, hr⟩
      refine ⟨⟨h, fun e he => ?_⟩, hr⟩
      exact lt_trans h ((this.mp hr).1 e he)
    · rintro ⟨⟨h, _⟩, hr⟩; exact ⟨h, hr⟩

theorem sparseErase_rising {α : Type} (m : Sparse α) (k : Nat) (h : sparseRising m = true) : sparseRising (sparseErase m k) = true := by
  induction m with
  | nil => rfl
  | cons p m ih =>
    obtain ⟨ha, hr⟩ := (sparseRising_cons p m).mp h
    by_cases hp : p.1 = k
    · simpa [sparseErase, hp] using ih hr
    · simp only [sparseErase, hp, if_false]
      refine (sparseRising_cons p _).mpr ⟨?_, ih hr⟩
      simp only [sparseAbove, List.all_eq_true, decide_eq_true_eq] at ha ⊢
      have : ∀ l : Sparse α, ∀ e ∈ sparseErase l k, e ∈ l := by
        intro l
        induction l with
        | nil => intro e he; simp [sparseErase] at he
        | cons q l ih' =>
          intro e he
          by_cases hq : q.1 = k
          · simp only [sparseErase, hq, if_true] at he; exact List.mem_cons_of_mem _ (ih' e he)
          · simp only [sparseErase, hq, if_false, List.mem_cons] at he
            rcases he with rfl | he
            · simp
            · exact List.mem_cons_of_mem _ (ih' e he)
      exact fun e he => ha e (this m e he)

theorem sparseInsert_mem {α : Type} (m : Sparse α) (k : Nat) (v : α) : ∀ e ∈ sparseInsert m k v, e = (k, v) ∨ e ∈ m := by
  induction m with
  | nil => intro e he; simpa [sparseInsert] using he
  | cons p m ih =>
    intro e he
    by_cases hk : k < p.1
    · simpa [sparseInsert, hk] using he
    · simp only [sparseInsert, hk, if_false, List.mem_cons] at he
      rcases he with rfl | he
      · simp
      · rcases ih e he with h | h
        · exact Or.inl h
        · exact Or.inr (List.mem_cons_of_mem _ h)

theorem sparseInsert_rising {α : Type} (m : Sparse α) (k : Nat) (v : α) (h : sparseRising m = true) (hk : ∀ e ∈ m, e.1 ≠ k) :
    sparseRising (sparseInsert m k v) = true := by
  induction m with
  | nil => rfl
  | cons p m ih =>
    obtain ⟨ha, hr⟩ := (sparseRising_cons p m).mp h
    by_cases hlt : k < p.1
    · simp only [sparseInsert, hlt, if_true]
      refine (sparseRising_cons _ _).mpr ⟨?_, h⟩
      simp only [sparseAbove, List.all_cons, Bool.and_eq_true, List.all_eq_true, decide_eq_true_eq] at ha ⊢
      exact ⟨hlt, fun e he => lt_trans hlt (ha e he)⟩
    · simp only [sparseInsert, hlt, if_false]
      refine (sparseRising_cons _ _).mpr ⟨?_, ih hr (fun e he => hk e (by simp [he]))⟩
      have hp : p.1 ≠ k := hk p (by simp)
      simp only [sparseAbove, List.all_eq_true, decide_eq_true_eq] at ha ⊢
      intro e he
      rcases sparseInsert_mem m k v e he with rfl | h
      · show p.1 < k; omega
      · exact ha e h

/-- Setting a key keeps the canonical form. -/
theorem sparseSet_wf {α : Type} [DecidableEq α] (d : Nat → α) (m : Sparse α) (k : Nat) (v : α) (h : sparseWf d m = true) :
    sparseWf d (sparseSet (d k) m k v) = true := by
  simp only [sparseWf, Bool.and_eq_true, List.all_eq_true, decide_eq_true_eq] at h ⊢
  obtain ⟨hr, hd⟩ := h
  have mem : ∀ e ∈ sparseErase m k, e ∈ m := by
    intro e
    induction m with
    | nil => intro he; simp [sparseErase] at he
    | cons q l ih =>
      intro he
      by_cases hq : q.1 = k
      · simp only [sparseErase, hq, if_true] at he
        exact List.mem_cons_of_mem _ (ih ((sparseRising_cons q l).mp hr).2 (fun x hx => hd x (by simp [hx])) he)
      · simp only [sparseErase, hq, if_false, List.mem_cons] at he
        rcases he with rfl | he
        · simp
        · exact List.mem_cons_of_mem _ (ih ((sparseRising_cons q l).mp hr).2 (fun x hx => hd x (by simp [hx])) he)
  unfold sparseSet
  split
  · exact ⟨sparseErase_rising m k hr, fun e he => hd e (mem e he)⟩
  · rename_i hv
    refine ⟨sparseInsert_rising _ k v (sparseErase_rising m k hr) (sparseErase_key m k), fun e he => ?_⟩
    rcases sparseInsert_mem _ k v e he with rfl | he
    · exact hv
    · exact hd e (mem e he)

/-! ### Bit fields (R7) -/

theorem setF_toNat (w : Word) (hi lo x : Nat) (hl : lo ≤ hi) (hh : hi < 32) :
    (setF w hi lo x).toNat = w.toNat % 2 ^ lo + 2 ^ lo * (x % 2 ^ (hi + 1 - lo)) + 2 ^ (hi + 1) * (w.toNat / 2 ^ (hi + 1)) := by
  unfold setF
  rw [BitVec.toNat_ofNat]
  apply Nat.mod_eq_of_lt
  have hw := w.isLt
  have h1 : w.toNat % 2 ^ lo < 2 ^ lo := Nat.mod_lt _ (by positivity)
  have h2 : x % 2 ^ (hi + 1 - lo) < 2 ^ (hi + 1 - lo) := Nat.mod_lt _ (by positivity)
  have e1 : 2 ^ lo * 2 ^ (hi + 1 - lo) = 2 ^ (hi + 1) := by rw [← pow_add]; congr 1; omega
  have e2 : 2 ^ (hi + 1) * 2 ^ (32 - (hi + 1)) = 2 ^ 32 := by rw [← pow_add]; congr 1; omega
  have h3 : w.toNat / 2 ^ (hi + 1) < 2 ^ (32 - (hi + 1)) := by
    apply Nat.div_lt_of_lt_mul; rw [e2]; exact hw
  have h4 : 2 ^ lo * (x % 2 ^ (hi + 1 - lo) + 1) ≤ 2 ^ (hi + 1) := by
    rw [← e1]; exact Nat.mul_le_mul_left _ h2
  have h5 : 2 ^ (hi + 1) * (w.toNat / 2 ^ (hi + 1) + 1) ≤ 2 ^ 32 := by
    rw [← e2]; exact Nat.mul_le_mul_left _ h3
  rw [Nat.mul_add] at h4 h5
  omega

/-- A field written reads what was written, in its width. -/
theorem getF_setF_self (w : Word) (hi lo x : Nat) (hl : lo ≤ hi) (hh : hi < 32) :
    getF (setF w hi lo x) hi lo = x % 2 ^ (hi + 1 - lo) := by
  unfold getF bitsOf
  rw [setF_toNat w hi lo x hl hh]
  have h1 : w.toNat % 2 ^ lo < 2 ^ lo := Nat.mod_lt _ (by positivity)
  have e1 : 2 ^ (hi + 1) = 2 ^ lo * 2 ^ (hi + 1 - lo) := by rw [← pow_add]; congr 1; omega
  have : w.toNat % 2 ^ lo + 2 ^ lo * (x % 2 ^ (hi + 1 - lo)) + 2 ^ (hi + 1) * (w.toNat / 2 ^ (hi + 1)) =
      w.toNat % 2 ^ lo + 2 ^ lo * (x % 2 ^ (hi + 1 - lo) + 2 ^ (hi + 1 - lo) * (w.toNat / 2 ^ (hi + 1))) := by
    rw [e1]; ring
  rw [this, Nat.add_mul_div_left _ _ (by positivity), Nat.div_eq_of_lt h1, Nat.zero_add, Nat.add_mul_mod_self_left, Nat.mod_mod]

/-- Writing a field leaves a field that lies apart from it in the same word. -/
theorem getF_setF_apart (w : Word) (hi lo x hi' lo' : Nat) (hl : lo ≤ hi) (hh : hi < 32) (h : hi < lo' ∨ hi' < lo) :
    getF (setF w hi lo x) hi' lo' = getF w hi' lo' := by
  unfold getF bitsOf
  rw [setF_toNat w hi lo x hl hh]
  have h1 : w.toNat % 2 ^ lo < 2 ^ lo := Nat.mod_lt _ (by positivity)
  have h2 : x % 2 ^ (hi + 1 - lo) < 2 ^ (hi + 1 - lo) := Nat.mod_lt _ (by positivity)
  have e1 : 2 ^ lo * 2 ^ (hi + 1 - lo) = 2 ^ (hi + 1) := by rw [← pow_add]; congr 1; omega
  rcases h with h | h
  · have hlt : w.toNat % 2 ^ lo + 2 ^ lo * (x % 2 ^ (hi + 1 - lo)) < 2 ^ (hi + 1) := by
      have h4 : 2 ^ lo * (x % 2 ^ (hi + 1 - lo) + 1) ≤ 2 ^ (hi + 1) := by
        rw [← e1]; exact Nat.mul_le_mul_left _ h2
      rw [Nat.mul_add] at h4; omega
    have e3 : 2 ^ lo' = 2 ^ (hi + 1) * 2 ^ (lo' - (hi + 1)) := by rw [← pow_add]; congr 1; omega
    rw [e3, ← Nat.div_div_eq_div_mul, Nat.add_mul_div_left _ _ (by positivity), Nat.div_eq_of_lt hlt, Nat.zero_add,
      ← Nat.div_div_eq_div_mul]
  · by_cases hb : hi' + 1 ≤ lo'
    · have : hi' + 1 - lo' = 0 := by omega
      simp [this, Nat.mod_one]
    · push Not at hb
      have key : ∀ n : Nat, n / 2 ^ lo' % 2 ^ (hi' + 1 - lo') = n % 2 ^ (hi' + 1) / 2 ^ lo' := by
        intro n
        have : 2 ^ (hi' + 1) = 2 ^ lo' * 2 ^ (hi' + 1 - lo') := by rw [← pow_add]; congr 1; omega
        rw [this, Nat.mod_mul_right_div_self]
      have e4 : 2 ^ lo = 2 ^ (hi' + 1) * 2 ^ (lo - (hi' + 1)) := by rw [← pow_add]; congr 1; omega
      rw [key, key]
      congr 1
      have e5 : 2 ^ (hi + 1) = 2 ^ (hi' + 1) * 2 ^ (hi - hi') := by rw [← pow_add]; congr 1; omega
      rw [e4, e5, Nat.mul_assoc, Nat.mul_assoc, Nat.add_assoc, ← Nat.mul_add, Nat.add_mul_mod_self_left, Nat.mod_mul_right_mod]

/-! ### The register file (R483) -/

@[simp] theorem State.reg_setReg_self (s : State) (a : Nat) (w : Word) : (s.setReg a w).reg a = w := by
  simp [State.reg, State.setReg, sparseGet_set_self]

theorem State.reg_setReg_ne (s : State) {a b : Nat} (w : Word) (h : b ≠ a) : (s.setReg a w).reg b = s.reg b := by
  simp [State.reg, State.setReg, sparseGet_set_ne _ _ _ _ h]

/-- A field that lies in a 32-bit word. -/
def Fld.ok (f : Fld) : Bool := decide (f.lo ≤ f.hi) && decide (f.hi < 32)

/-- Two fields that share no bit. -/
def Fld.apart (f g : Fld) : Bool := decide (f.addr ≠ g.addr) || decide (f.hi < g.lo) || decide (g.hi < f.lo)

/-- A field written reads what was written, in its width. -/
theorem State.rd_wr_self (s : State) (f : Fld) (x : Nat) (h : f.ok = true) : (s.wr f x).rd f = x % 2 ^ (f.hi + 1 - f.lo) := by
  simp only [Fld.ok, Bool.and_eq_true, decide_eq_true_eq] at h
  simp [State.rd, State.wr, getF_setF_self _ _ _ _ h.1 h.2]

/-- Writing a field leaves every field apart from it. -/
theorem State.rd_wr_apart (s : State) (f g : Fld) (x : Nat) (h : f.ok = true) (ha : f.apart g = true) : (s.wr f x).rd g = s.rd g := by
  simp only [Fld.ok, Bool.and_eq_true, decide_eq_true_eq] at h
  simp only [Fld.apart, Bool.or_eq_true, decide_eq_true_eq] at ha
  by_cases e : g.addr = f.addr
  · have hb : f.hi < g.lo ∨ g.hi < f.lo := by rcases ha with (ha | ha) | ha <;> first | exact absurd e.symm ha | tauto
    simp [State.rd, State.wr, e, getF_setF_apart _ _ _ _ _ _ h.1 h.2 hb]
  · simp [State.rd, State.wr, State.reg_setReg_ne _ _ e]

/-- A write of the register file leaves every other register. -/
theorem State.reg_wr_ne (s : State) (f : Fld) (x a : Nat) (h : a ≠ f.addr) : (s.wr f x).reg a = s.reg a := by
  simp [State.wr, State.reg_setReg_ne _ _ h]

/-- Every register reads the same in states with the same register file. -/
theorem State.rd_congr {s t : State} (h : s.regs = t.regs) (f : Fld) : s.rd f = t.rd f := by simp [State.rd, State.reg, h]

theorem State.setReg_wf (s : State) (a : Nat) (w : Word) (h : s.regsWf = true) : (s.setReg a w).regsWf = true :=
  sparseSet_wf resetVal s.regs a w h

theorem State.wr_wf (s : State) (f : Fld) (x : Nat) (h : s.regsWf = true) : (s.wr f x).regsWf = true := s.setReg_wf _ _ h

theorem State.reset_regsWf : State.reset.regsWf = true := by rfl

/-! ### Conditionals and loops -/

@[simp] theorem State.when_true (s : State) (f : State → State) : s.when true f = f s := rfl
@[simp] theorem State.when_false (s : State) (f : State → State) : s.when false f = s := rfl

/-- What a loop keeps, when every pass keeps it. -/
theorem State.forEach_keeps {α β : Type} (p : State → β) (s : State) (l : List α) (f : α → State → State)
    (h : ∀ x t, p (f x t) = p t) : p (s.forEach l f) = p s := by
  induction l generalizing s with
  | nil => rfl
  | cons x l ih => exact (ih (f x s)).trans (h x s)

/-- What a list of field writes keeps, when every register write keeps it. -/
theorem State.wrs_keeps {β : Type} (p : State → β) (s : State) (l : List (Fld × Nat)) (h : ∀ f x t, p (State.wr t f x) = p t) :
    p (s.wrs l) = p s := by
  induction l generalizing s with
  | nil => rfl
  | cons e l ih => exact (ih (s.wr e.1 e.2)).trans (h e.1 e.2 s)

@[simp] theorem State.wrs_nil (s : State) : s.wrs [] = s := rfl
@[simp] theorem State.wrs_cons (s : State) (f : Fld) (x : Nat) (l : List (Fld × Nat)) : s.wrs ((f, x) :: l) = (s.wr f x).wrs l := rfl

end Sys2Proof.Machine
end

