-- ==== Sys2Proof/Laws/Kept.lean ====
section
/-! SUPPORT. What the operations keep, as one relation: the parts of State that a mask leaves out, the queue, the fuses but for a rise of SVC, the
fences, and the canonical form of the memories. One lemma per operation and per meaning (files KeptOps onwards) says what it keeps. -/

set_option Elab.async false

namespace Sys2Proof.Machine
open Reg
set_option exponentiation.threshold 500
/-- A test that every instance of array `i` passes. -/
def famHas (i a : Nat) : Bool :=
  let (b, s, t) := famAt i
  decide (b ≤ a) && (if t = 0 then (if s = 0 then a == b else (a - b) % s == 0) else (a - b) % t == 0 || s % t != 0)

theorem inFam_has {i a : Nat} (h : inFam i a) : famHas i a = true := by
  obtain ⟨n, m, e⟩ := h
  unfold famHas
  generalize famAt i = f at e ⊢
  obtain ⟨b, s, t⟩ := f
  dsimp only at e ⊢
  subst e
  rw [Bool.and_eq_true]
  refine ⟨by simp; omega, ?_⟩
  have hs : b + n * s + m * t - b = n * s + m * t := by omega
  rw [hs]
  split
  · rename_i ht
    subst ht
    split
    · rename_i h0; subst h0; simp
    · simp
  · by_cases hd : s % t = 0
    · have h1 : n * s % t = 0 := by rw [Nat.mul_mod, hd]; simp
      have h2 : (n * s + m * t) % t = 0 := by rw [Nat.add_mod, h1]; simp
      simp [h2]
    · simp [hd]

/-- A mask lets no register at address `a` change. -/
def maskClear (w a : Nat) : Bool := !w.testBit 26 && (List.range 413).all (fun i => !w.testBit (32 + i) || !famHas i a) && decide (w < 2 ^ 445)

theorem maskClear_fam {w a : Nat} (h : maskClear w a = true) (i : Nat) (hi : w.testBit (32 + i) = true) : ¬inFam i a := by
  simp only [maskClear, Bool.and_eq_true, List.all_eq_true, List.mem_range, decide_eq_true_eq] at h
  intro hf
  by_cases hl : i < 413
  · have := h.1.2 i hl
    rw [hi, inFam_has hf] at this
    cases this
  · rw [Nat.testBit_lt_two_pow (lt_of_lt_of_le h.2 (Nat.pow_le_pow_right (by decide) (by omega)))] at hi
    cases hi


theorem inFam_SYS_ID : inFam 0 SYS_ID := ⟨0, 0, rfl⟩
theorem inFam_SYS_REV : inFam 1 SYS_REV := ⟨0, 0, rfl⟩
theorem inFam_SYS_GLUE : inFam 2 SYS_GLUE := ⟨0, 0, rfl⟩
theorem inFam_SYS_GLUE_HOLD : inFam 3 SYS_GLUE_HOLD := ⟨0, 0, rfl⟩
theorem inFam_SYS_GLUE_STAT : inFam 4 SYS_GLUE_STAT := ⟨0, 0, rfl⟩
theorem inFam_SYS_GLUE_PEND : inFam 5 SYS_GLUE_PEND := ⟨0, 0, rfl⟩
theorem inFam_SYS_STATUS : inFam 6 SYS_STATUS := ⟨0, 0, rfl⟩
theorem inFam_SYS_INT_EN : inFam 7 SYS_INT_EN := ⟨0, 0, rfl⟩
theorem inFam_SYS_REF_DATA0 : inFam 8 SYS_REF_DATA0 := ⟨0, 0, rfl⟩
theorem inFam_SYS_REF_DATA1 : inFam 9 SYS_REF_DATA1 := ⟨0, 0, rfl⟩
theorem inFam_SYS_REF_CNT : inFam 10 SYS_REF_CNT := ⟨0, 0, rfl⟩
theorem inFam_SYS_XING_STAT : inFam 11 SYS_XING_STAT := ⟨0, 0, rfl⟩
theorem inFam_SYS_OWN_SEL : inFam 12 SYS_OWN_SEL := ⟨0, 0, rfl⟩
theorem inFam_SYS_OWN_DATA : inFam 13 SYS_OWN_DATA := ⟨0, 0, rfl⟩
theorem inFam_SYS_TMR_CFG {k : Nat} : inFam 14 (SYS_TMR_CFG k) := ⟨k, 0, rfl⟩
theorem inFam_SYS_TMR_STAT : inFam 15 SYS_TMR_STAT := ⟨0, 0, rfl⟩
theorem inFam_SYS_TMR_CAP {k : Nat} : inFam 16 (SYS_TMR_CAP k) := ⟨k, 0, rfl⟩
theorem inFam_SYS_MODE : inFam 17 SYS_MODE := ⟨0, 0, rfl⟩
theorem inFam_SYS_START : inFam 18 SYS_START := ⟨0, 0, rfl⟩
theorem inFam_SYS_RESET_CMD : inFam 19 SYS_RESET_CMD := ⟨0, 0, rfl⟩
theorem inFam_SYS_WDOG_CFG : inFam 20 SYS_WDOG_CFG := ⟨0, 0, rfl⟩
theorem inFam_SYS_HELM_STAT : inFam 21 SYS_HELM_STAT := ⟨0, 0, rfl⟩
theorem inFam_SYS_WDOG_KICK : inFam 22 SYS_WDOG_KICK := ⟨0, 0, rfl⟩
theorem inFam_SYS_HELM_INT_EN : inFam 23 SYS_HELM_INT_EN := ⟨0, 0, rfl⟩
theorem inFam_SYS_PWR_CYCLES : inFam 24 SYS_PWR_CYCLES := ⟨0, 0, rfl⟩
theorem inFam_SYS_WARM_STARTS : inFam 25 SYS_WARM_STARTS := ⟨0, 0, rfl⟩
theorem inFam_SYS_OP_SEC_LO : inFam 26 SYS_OP_SEC_LO := ⟨0, 0, rfl⟩
theorem inFam_SYS_OP_SEC_HI : inFam 27 SYS_OP_SEC_HI := ⟨0, 0, rfl⟩
theorem inFam_SYS_HELM_CNT : inFam 28 SYS_HELM_CNT := ⟨0, 0, rfl⟩
theorem inFam_SYS_MEAS_SEL : inFam 29 SYS_MEAS_SEL := ⟨0, 0, rfl⟩
theorem inFam_SYS_MEAS_DATA : inFam 30 SYS_MEAS_DATA := ⟨0, 0, rfl⟩
theorem inFam_SYS_FUSE_STAT : inFam 31 SYS_FUSE_STAT := ⟨0, 0, rfl⟩
theorem inFam_SYS_SERIAL_LO : inFam 32 SYS_SERIAL_LO := ⟨0, 0, rfl⟩
theorem inFam_SYS_SERIAL_HI : inFam 33 SYS_SERIAL_HI := ⟨0, 0, rfl⟩
theorem inFam_BQ_BASE_LO {k : Nat} : inFam 34 (BQ_BASE_LO k) := ⟨k, 0, rfl⟩
theorem inFam_BQ_BASE_HI {k : Nat} : inFam 35 (BQ_BASE_HI k) := ⟨k, 0, rfl⟩
theorem inFam_BQ_RES_LO {k : Nat} : inFam 36 (BQ_RES_LO k) := ⟨k, 0, rfl⟩
theorem inFam_BQ_RES_HI {k : Nat} : inFam 37 (BQ_RES_HI k) := ⟨k, 0, rfl⟩
theorem inFam_BQ_CFG {k : Nat} : inFam 38 (BQ_CFG k) := ⟨k, 0, rfl⟩
theorem inFam_BQ_DOORBELL {k : Nat} : inFam 39 (BQ_DOORBELL k) := ⟨k, 0, rfl⟩
theorem inFam_BQ_STATE {k : Nat} : inFam 40 (BQ_STATE k) := ⟨k, 0, rfl⟩
theorem inFam_BQ_INDEX {k : Nat} : inFam 41 (BQ_INDEX k) := ⟨k, 0, rfl⟩
theorem inFam_BQ_CTRL : inFam 42 BQ_CTRL := ⟨0, 0, rfl⟩
theorem inFam_BQ_STATUS : inFam 43 BQ_STATUS := ⟨0, 0, rfl⟩
theorem inFam_BQ_INT_EN : inFam 44 BQ_INT_EN := ⟨0, 0, rfl⟩
theorem inFam_BQ_INFLIGHT : inFam 45 BQ_INFLIGHT := ⟨0, 0, rfl⟩
theorem inFam_BQ_ENABLED {k : Nat} : inFam 46 (BQ_ENABLED k) := ⟨k, 0, rfl⟩
theorem inFam_BQ_FROZEN {k : Nat} : inFam 47 (BQ_FROZEN k) := ⟨k, 0, rfl⟩
theorem inFam_BQ_FRZ_SEL : inFam 48 BQ_FRZ_SEL := ⟨0, 0, rfl⟩
theorem inFam_BQ_FRZ_DATA : inFam 49 BQ_FRZ_DATA := ⟨0, 0, rfl⟩
theorem inFam_BQ_FETCH_CNT : inFam 50 BQ_FETCH_CNT := ⟨0, 0, rfl⟩
theorem inFam_BQ_PUB_CNT : inFam 51 BQ_PUB_CNT := ⟨0, 0, rfl⟩
theorem inFam_BQ_DB_CNT : inFam 52 BQ_DB_CNT := ⟨0, 0, rfl⟩
theorem inFam_BQ_ABORT_CNT : inFam 53 BQ_ABORT_CNT := ⟨0, 0, rfl⟩
theorem inFam_BQ_MARKS : inFam 54 BQ_MARKS := ⟨0, 0, rfl⟩
theorem inFam_BQ_LINK_CFG : inFam 55 BQ_LINK_CFG := ⟨0, 0, rfl⟩
theorem inFam_BQ_LINK_STAT : inFam 56 BQ_LINK_STAT := ⟨0, 0, rfl⟩
theorem inFam_BQ_LINK_EVT : inFam 57 BQ_LINK_EVT := ⟨0, 0, rfl⟩
theorem inFam_BQ_LINK_CNT : inFam 58 BQ_LINK_CNT := ⟨0, 0, rfl⟩
theorem inFam_SCH_CTRL : inFam 59 SCH_CTRL := ⟨0, 0, rfl⟩
theorem inFam_SCH_ARB_CFG : inFam 60 SCH_ARB_CFG := ⟨0, 0, rfl⟩
theorem inFam_SCH_RPO_CFG : inFam 61 SCH_RPO_CFG := ⟨0, 0, rfl⟩
theorem inFam_SCH_INT_EN : inFam 62 SCH_INT_EN := ⟨0, 0, rfl⟩
theorem inFam_SCH_IDLE_LO : inFam 63 SCH_IDLE_LO := ⟨0, 0, rfl⟩
theorem inFam_SCH_IDLE_HI : inFam 64 SCH_IDLE_HI := ⟨0, 0, rfl⟩
theorem inFam_SCH_LAT_TOL : inFam 65 SCH_LAT_TOL := ⟨0, 0, rfl⟩
theorem inFam_SCH_PWR_CFG : inFam 66 SCH_PWR_CFG := ⟨0, 0, rfl⟩
theorem inFam_SCH_PWR_STAT : inFam 67 SCH_PWR_STAT := ⟨0, 0, rfl⟩
theorem inFam_SCH_STATUS : inFam 68 SCH_STATUS := ⟨0, 0, rfl⟩
theorem inFam_SCH_LOCK_USE : inFam 69 SCH_LOCK_USE := ⟨0, 0, rfl⟩
theorem inFam_SCH_PREEMPT_CNT : inFam 70 SCH_PREEMPT_CNT := ⟨0, 0, rfl⟩
theorem inFam_SCH_PWR_CNT : inFam 71 SCH_PWR_CNT := ⟨0, 0, rfl⟩
theorem inFam_SCH_TIER_ADDR_LO : inFam 72 SCH_TIER_ADDR_LO := ⟨0, 0, rfl⟩
theorem inFam_SCH_TIER_ADDR_HI : inFam 73 SCH_TIER_ADDR_HI := ⟨0, 0, rfl⟩
theorem inFam_SCH_TIER_CMD : inFam 74 SCH_TIER_CMD := ⟨0, 0, rfl⟩
theorem inFam_SCH_TIER_RESP : inFam 75 SCH_TIER_RESP := ⟨0, 0, rfl⟩
theorem inFam_SCH_TIER {k : Nat} : inFam 76 (SCH_TIER k) := ⟨k, 0, rfl⟩
theorem inFam_SCH_CAND {k : Nat} : inFam 77 (SCH_CAND k) := ⟨k, 0, rfl⟩
theorem inFam_SCH_COST {k : Nat} : inFam 78 (SCH_COST k) := ⟨k, 0, rfl⟩
theorem inFam_LGT_CTRL {k : Nat} : inFam 79 (LGT_CTRL k) := ⟨k, 0, rfl⟩
theorem inFam_LGT_STATUS {k : Nat} : inFam 80 (LGT_STATUS k) := ⟨k, 0, rfl⟩
theorem inFam_LGT_A_BUF {k : Nat} : inFam 81 (LGT_A_BUF k) := ⟨k, 0, rfl⟩
theorem inFam_LGT_A_FAR_LO {k : Nat} : inFam 82 (LGT_A_FAR_LO k) := ⟨k, 0, rfl⟩
theorem inFam_LGT_A_FAR_HI {k : Nat} : inFam 83 (LGT_A_FAR_HI k) := ⟨k, 0, rfl⟩
theorem inFam_LGT_A_COUNT {k : Nat} : inFam 84 (LGT_A_COUNT k) := ⟨k, 0, rfl⟩
theorem inFam_LGT_A_ATTR {k : Nat} : inFam 85 (LGT_A_ATTR k) := ⟨k, 0, rfl⟩
theorem inFam_LGT_S_BUF {k : Nat} : inFam 86 (LGT_S_BUF k) := ⟨k, 0, rfl⟩
theorem inFam_LGT_S_FAR_LO {k : Nat} : inFam 87 (LGT_S_FAR_LO k) := ⟨k, 0, rfl⟩
theorem inFam_LGT_S_FAR_HI {k : Nat} : inFam 88 (LGT_S_FAR_HI k) := ⟨k, 0, rfl⟩
theorem inFam_LGT_S_COUNT {k : Nat} : inFam 89 (LGT_S_COUNT k) := ⟨k, 0, rfl⟩
theorem inFam_LGT_S_ATTR {k : Nat} : inFam 90 (LGT_S_ATTR k) := ⟨k, 0, rfl⟩
theorem inFam_LGT_CFG : inFam 91 LGT_CFG := ⟨0, 0, rfl⟩
theorem inFam_LGT_PACE_OWN {k : Nat} : inFam 92 (LGT_PACE_OWN k) := ⟨k, 0, rfl⟩
theorem inFam_LGT_PEND {k : Nat} : inFam 93 (LGT_PEND k) := ⟨k, 0, rfl⟩
theorem inFam_LGT_BUSY {k : Nat} : inFam 94 (LGT_BUSY k) := ⟨k, 0, rfl⟩
theorem inFam_LGT_FENCED {k : Nat} : inFam 95 (LGT_FENCED k) := ⟨k, 0, rfl⟩
theorem inFam_LGT_PREQ : inFam 96 LGT_PREQ := ⟨0, 0, rfl⟩
theorem inFam_LGT_REC_CNT : inFam 97 LGT_REC_CNT := ⟨0, 0, rfl⟩
theorem inFam_LGT_BYTE_CNT : inFam 98 LGT_BYTE_CNT := ⟨0, 0, rfl⟩
theorem inFam_LGT_PREEMPT_CNT : inFam 99 LGT_PREEMPT_CNT := ⟨0, 0, rfl⟩
theorem inFam_LGT_GSTATUS : inFam 100 LGT_GSTATUS := ⟨0, 0, rfl⟩
theorem inFam_MEM_CTRL : inFam 101 MEM_CTRL := ⟨0, 0, rfl⟩
theorem inFam_MEM_STATUS : inFam 102 MEM_STATUS := ⟨0, 0, rfl⟩
theorem inFam_MEM_INT_EN : inFam 103 MEM_INT_EN := ⟨0, 0, rfl⟩
theorem inFam_MEM_SCRUB_CFG : inFam 104 MEM_SCRUB_CFG := ⟨0, 0, rfl⟩
theorem inFam_MEM_SCRUB_STAT : inFam 105 MEM_SCRUB_STAT := ⟨0, 0, rfl⟩
theorem inFam_MEM_CACHE_RGN : inFam 106 MEM_CACHE_RGN := ⟨0, 0, rfl⟩
theorem inFam_MEM_TABLE_RGN : inFam 107 MEM_TABLE_RGN := ⟨0, 0, rfl⟩
theorem inFam_MEM_MAP_CFG : inFam 108 MEM_MAP_CFG := ⟨0, 0, rfl⟩
theorem inFam_MEM_POOL_CFG : inFam 109 MEM_POOL_CFG := ⟨0, 0, rfl⟩
theorem inFam_MEM_CARVE_STAT : inFam 110 MEM_CARVE_STAT := ⟨0, 0, rfl⟩
theorem inFam_MEM_RETIRE_CMD : inFam 111 MEM_RETIRE_CMD := ⟨0, 0, rfl⟩
theorem inFam_MEM_RETIRE_STAT : inFam 112 MEM_RETIRE_STAT := ⟨0, 0, rfl⟩
theorem inFam_MEM_BANK_RETIRED : inFam 113 MEM_BANK_RETIRED := ⟨0, 0, rfl⟩
theorem inFam_MEM_PAGE_CMD : inFam 114 MEM_PAGE_CMD := ⟨0, 0, rfl⟩
theorem inFam_MEM_PAGE_RESP : inFam 115 MEM_PAGE_RESP := ⟨0, 0, rfl⟩
theorem inFam_MEM_PSTATE_ADDR : inFam 116 MEM_PSTATE_ADDR := ⟨0, 0, rfl⟩
theorem inFam_MEM_PSTATE_DATA : inFam 117 MEM_PSTATE_DATA := ⟨0, 0, rfl⟩
theorem inFam_MEM_ELOG_DATA {k : Nat} : inFam 118 (MEM_ELOG_DATA k) := ⟨k, 0, rfl⟩
theorem inFam_MEM_ELOG_CNT : inFam 119 MEM_ELOG_CNT := ⟨0, 0, rfl⟩
theorem inFam_MEM_ERR_CNT : inFam 120 MEM_ERR_CNT := ⟨0, 0, rfl⟩
theorem inFam_MEM_SCRUB_CNT : inFam 121 MEM_SCRUB_CNT := ⟨0, 0, rfl⟩
theorem inFam_MEM_PLANE_STAT : inFam 122 MEM_PLANE_STAT := ⟨0, 0, rfl⟩
theorem inFam_MEM_PLANE_CFG : inFam 123 MEM_PLANE_CFG := ⟨0, 0, rfl⟩
theorem inFam_MEM_FREE : inFam 124 MEM_FREE := ⟨0, 0, rfl⟩
theorem inFam_MEM_TRAIL_CFG : inFam 125 MEM_TRAIL_CFG := ⟨0, 0, rfl⟩
theorem inFam_BCC_CTRL : inFam 126 BCC_CTRL := ⟨0, 0, rfl⟩
theorem inFam_BCC_STATUS : inFam 127 BCC_STATUS := ⟨0, 0, rfl⟩
theorem inFam_BCC_MAINT_ADDR_LO : inFam 128 BCC_MAINT_ADDR_LO := ⟨0, 0, rfl⟩
theorem inFam_BCC_MAINT_ADDR_HI : inFam 129 BCC_MAINT_ADDR_HI := ⟨0, 0, rfl⟩
theorem inFam_BCC_MAINT_CMD : inFam 130 BCC_MAINT_CMD := ⟨0, 0, rfl⟩
theorem inFam_BCC_MAINT_LEN : inFam 131 BCC_MAINT_LEN := ⟨0, 0, rfl⟩
theorem inFam_BCC_MAINT_RESP : inFam 132 BCC_MAINT_RESP := ⟨0, 0, rfl⟩
theorem inFam_BCC_MAINT_RESP2 : inFam 133 BCC_MAINT_RESP2 := ⟨0, 0, rfl⟩
theorem inFam_BCC_INT_EN : inFam 134 BCC_INT_EN := ⟨0, 0, rfl⟩
theorem inFam_BCC_STREAM_MASK : inFam 135 BCC_STREAM_MASK := ⟨0, 0, rfl⟩
theorem inFam_BCC_BAR2_BASE : inFam 136 BCC_BAR2_BASE := ⟨0, 0, rfl⟩
theorem inFam_BCC_HIT_CNT : inFam 137 BCC_HIT_CNT := ⟨0, 0, rfl⟩
theorem inFam_BCC_MISS_CNT : inFam 138 BCC_MISS_CNT := ⟨0, 0, rfl⟩
theorem inFam_BCC_MERGE_CNT : inFam 139 BCC_MERGE_CNT := ⟨0, 0, rfl⟩
theorem inFam_BCC_OCC : inFam 140 BCC_OCC := ⟨0, 0, rfl⟩
theorem inFam_DDR_CFG {k : Nat} : inFam 141 (DDR_CFG k) := ⟨k, 0, rfl⟩
theorem inFam_DDR_STATUS {k : Nat} : inFam 142 (DDR_STATUS k) := ⟨k, 0, rfl⟩
theorem inFam_DDR_INT_EN {k : Nat} : inFam 143 (DDR_INT_EN k) := ⟨k, 0, rfl⟩
theorem inFam_DDR_ERR_CNT {k : Nat} : inFam 144 (DDR_ERR_CNT k) := ⟨k, 0, rfl⟩
theorem inFam_DDR_DEV_CNT_ADDR {k : Nat} : inFam 145 (DDR_DEV_CNT_ADDR k) := ⟨k, 0, rfl⟩
theorem inFam_DDR_DEV_CNT {k : Nat} : inFam 146 (DDR_DEV_CNT k) := ⟨k, 0, rfl⟩
theorem inFam_DDR_MAP_CFG : inFam 147 DDR_MAP_CFG := ⟨0, 0, rfl⟩
theorem inFam_DDR_PATROL_CFG : inFam 148 DDR_PATROL_CFG := ⟨0, 0, rfl⟩
theorem inFam_DDR_TRAIN_PTR : inFam 149 DDR_TRAIN_PTR := ⟨0, 0, rfl⟩
theorem inFam_DDR_FENCE_CMD : inFam 150 DDR_FENCE_CMD := ⟨0, 0, rfl⟩
theorem inFam_DDR_GSTATUS : inFam 151 DDR_GSTATUS := ⟨0, 0, rfl⟩
theorem inFam_PCK_CTRL {k : Nat} : inFam 152 (PCK_CTRL k) := ⟨k, 0, rfl⟩
theorem inFam_PCK_ISTATUS {k : Nat} : inFam 153 (PCK_ISTATUS k) := ⟨k, 0, rfl⟩
theorem inFam_PCK_IN_CNT {k : Nat} : inFam 154 (PCK_IN_CNT k) := ⟨k, 0, rfl⟩
theorem inFam_PCK_OUT_CNT {k : Nat} : inFam 155 (PCK_OUT_CNT k) := ⟨k, 0, rfl⟩
theorem inFam_PCK_JOB_CNT {k : Nat} : inFam 156 (PCK_JOB_CNT k) := ⟨k, 0, rfl⟩
theorem inFam_PCK_CFG : inFam 157 PCK_CFG := ⟨0, 0, rfl⟩
theorem inFam_PCK_STATUS : inFam 158 PCK_STATUS := ⟨0, 0, rfl⟩
theorem inFam_PCK_INT_EN : inFam 159 PCK_INT_EN := ⟨0, 0, rfl⟩
theorem inFam_PCK_JOB {k : Nat} : inFam 160 (PCK_JOB k) := ⟨k, 0, rfl⟩
theorem inFam_PCK_JOB_GO : inFam 161 PCK_JOB_GO := ⟨0, 0, rfl⟩
theorem inFam_PCK_QUEUE : inFam 162 PCK_QUEUE := ⟨0, 0, rfl⟩
theorem inFam_PCK_RES {k : Nat} : inFam 163 (PCK_RES k) := ⟨k, 0, rfl⟩
theorem inFam_PCK_KEY_CMD : inFam 164 PCK_KEY_CMD := ⟨0, 0, rfl⟩
theorem inFam_PCK_KEY_DATA : inFam 165 PCK_KEY_DATA := ⟨0, 0, rfl⟩
theorem inFam_PCK_KEY_STAT {k : Nat} : inFam 166 (PCK_KEY_STAT k) := ⟨k, 0, rfl⟩
theorem inFam_PCK_KEY_BUSY {k : Nat} : inFam 167 (PCK_KEY_BUSY k) := ⟨k, 0, rfl⟩
theorem inFam_PCK_ERR_CNT : inFam 168 PCK_ERR_CNT := ⟨0, 0, rfl⟩
theorem inFam_RCH_CTRL {k : Nat} : inFam 169 (RCH_CTRL k) := ⟨k, 0, rfl⟩
theorem inFam_RCH_AFE_CFG {k : Nat} : inFam 170 (RCH_AFE_CFG k) := ⟨k, 0, rfl⟩
theorem inFam_RCH_AGC_CFG {k : Nat} : inFam 171 (RCH_AGC_CFG k) := ⟨k, 0, rfl⟩
theorem inFam_RCH_BLC_CFG {k : Nat} : inFam 172 (RCH_BLC_CFG k) := ⟨k, 0, rfl⟩
theorem inFam_RCH_TA_CFG {k : Nat} : inFam 173 (RCH_TA_CFG k) := ⟨k, 0, rfl⟩
theorem inFam_RCH_TR_CFG {k : Nat} : inFam 174 (RCH_TR_CFG k) := ⟨k, 0, rfl⟩
theorem inFam_RCH_DET_CFG {k : Nat} : inFam 175 (RCH_DET_CFG k) := ⟨k, 0, rfl⟩
theorem inFam_RCH_SYNC_CFG {k : Nat} : inFam 176 (RCH_SYNC_CFG k) := ⟨k, 0, rfl⟩
theorem inFam_RCH_ADAPT_CFG {k : Nat} : inFam 177 (RCH_ADAPT_CFG k) := ⟨k, 0, rfl⟩
theorem inFam_RCH_COEF_ADDR {k : Nat} : inFam 178 (RCH_COEF_ADDR k) := ⟨k, 0, rfl⟩
theorem inFam_RCH_COEF_DATA {k : Nat} : inFam 179 (RCH_COEF_DATA k) := ⟨k, 0, rfl⟩
theorem inFam_RCH_AGC_STAT {k : Nat} : inFam 180 (RCH_AGC_STAT k) := ⟨k, 0, rfl⟩
theorem inFam_RCH_TR_STAT {k : Nat} : inFam 181 (RCH_TR_STAT k) := ⟨k, 0, rfl⟩
theorem inFam_RCH_SYNC_STAT {k : Nat} : inFam 182 (RCH_SYNC_STAT k) := ⟨k, 0, rfl⟩
theorem inFam_RCH_QUAL {k : Nat} : inFam 183 (RCH_QUAL k) := ⟨k, 0, rfl⟩
theorem inFam_RCH_HEALTH_A {k : Nat} : inFam 184 (RCH_HEALTH_A k) := ⟨k, 0, rfl⟩
theorem inFam_RCH_HEALTH_B {k : Nat} : inFam 185 (RCH_HEALTH_B k) := ⟨k, 0, rfl⟩
theorem inFam_RCH_STATUS {k : Nat} : inFam 186 (RCH_STATUS k) := ⟨k, 0, rfl⟩
theorem inFam_RCH_INT_EN {k : Nat} : inFam 187 (RCH_INT_EN k) := ⟨k, 0, rfl⟩
theorem inFam_RCH_SECT_CNT {k : Nat} : inFam 188 (RCH_SECT_CNT k) := ⟨k, 0, rfl⟩
theorem inFam_RCH_SYNC_CNT {k : Nat} : inFam 189 (RCH_SYNC_CNT k) := ⟨k, 0, rfl⟩
theorem inFam_RCH_EVT_CNT {k : Nat} : inFam 190 (RCH_EVT_CNT k) := ⟨k, 0, rfl⟩
theorem inFam_RCH_RET_PTR {k : Nat} : inFam 191 (RCH_RET_PTR k) := ⟨k, 0, rfl⟩
theorem inFam_RCH_MAP {k : Nat} : inFam 192 (RCH_MAP k) := ⟨k, 0, rfl⟩
theorem inFam_RCH_PRIMARY_LO : inFam 193 RCH_PRIMARY_LO := ⟨0, 0, rfl⟩
theorem inFam_RCH_PRIMARY_HI : inFam 194 RCH_PRIMARY_HI := ⟨0, 0, rfl⟩
theorem inFam_RCH_RESCUE_LO : inFam 195 RCH_RESCUE_LO := ⟨0, 0, rfl⟩
theorem inFam_RCH_RESCUE_HI : inFam 196 RCH_RESCUE_HI := ⟨0, 0, rfl⟩
theorem inFam_RCH_FRAG_LO : inFam 197 RCH_FRAG_LO := ⟨0, 0, rfl⟩
theorem inFam_RCH_FRAG_HI : inFam 198 RCH_FRAG_HI := ⟨0, 0, rfl⟩
theorem inFam_RCH_RET_CFG : inFam 199 RCH_RET_CFG := ⟨0, 0, rfl⟩
theorem inFam_RCH_RET_BASE : inFam 200 RCH_RET_BASE := ⟨0, 0, rfl⟩
theorem inFam_RCH_RET_STAT : inFam 201 RCH_RET_STAT := ⟨0, 0, rfl⟩
theorem inFam_RCH_SPARE_MAP : inFam 202 RCH_SPARE_MAP := ⟨0, 0, rfl⟩
theorem inFam_RCH_SPARE_CMD : inFam 203 RCH_SPARE_CMD := ⟨0, 0, rfl⟩
theorem inFam_RCH_RATE_ADDR : inFam 204 RCH_RATE_ADDR := ⟨0, 0, rfl⟩
theorem inFam_RCH_RATE_DATA : inFam 205 RCH_RATE_DATA := ⟨0, 0, rfl⟩
theorem inFam_RCH_SEL_CNT : inFam 206 RCH_SEL_CNT := ⟨0, 0, rfl⟩
theorem inFam_RCH_GSTATUS : inFam 207 RCH_GSTATUS := ⟨0, 0, rfl⟩
theorem inFam_RCH_PRESENT : inFam 208 RCH_PRESENT := ⟨0, 0, rfl⟩
theorem inFam_DEC_CTRL {k : Nat} : inFam 209 (DEC_CTRL k) := ⟨k, 0, rfl⟩
theorem inFam_DEC_ESTATUS {k : Nat} : inFam 210 (DEC_ESTATUS k) := ⟨k, 0, rfl⟩
theorem inFam_DEC_ITER_CNT {k : Nat} : inFam 211 (DEC_ITER_CNT k) := ⟨k, 0, rfl⟩
theorem inFam_DEC_SECT_CNT {k : Nat} : inFam 212 (DEC_SECT_CNT k) := ⟨k, 0, rfl⟩
theorem inFam_DEC_CFG : inFam 213 DEC_CFG := ⟨0, 0, rfl⟩
theorem inFam_DEC_RETRY_CFG : inFam 214 DEC_RETRY_CFG := ⟨0, 0, rfl⟩
theorem inFam_DEC_STATUS : inFam 215 DEC_STATUS := ⟨0, 0, rfl⟩
theorem inFam_DEC_INT_EN : inFam 216 DEC_INT_EN := ⟨0, 0, rfl⟩
theorem inFam_DEC_BUDGET_STAT : inFam 217 DEC_BUDGET_STAT := ⟨0, 0, rfl⟩
theorem inFam_DEC_DEEP_STAT : inFam 218 DEC_DEEP_STAT := ⟨0, 0, rfl⟩
theorem inFam_DEC_IN_SERVICE : inFam 219 DEC_IN_SERVICE := ⟨0, 0, rfl⟩
theorem inFam_DEC_IN_SERVICE_DEEP : inFam 220 DEC_IN_SERVICE_DEEP := ⟨0, 0, rfl⟩
theorem inFam_DEC_CONV_CNT : inFam 221 DEC_CONV_CNT := ⟨0, 0, rfl⟩
theorem inFam_DEC_ALIGN_CNT : inFam 222 DEC_ALIGN_CNT := ⟨0, 0, rfl⟩
theorem inFam_DEC_DEEP_CNT : inFam 223 DEC_DEEP_CNT := ⟨0, 0, rfl⟩
theorem inFam_DEC_REREAD_CNT : inFam 224 DEC_REREAD_CNT := ⟨0, 0, rfl⟩
theorem inFam_DEC_ERR_CNT : inFam 225 DEC_ERR_CNT := ⟨0, 0, rfl⟩
theorem inFam_DEC_TRACE_CTRL : inFam 226 DEC_TRACE_CTRL := ⟨0, 0, rfl⟩
theorem inFam_DEC_TRACE_DATA {k : Nat} : inFam 227 (DEC_TRACE_DATA k) := ⟨k, 0, rfl⟩
theorem inFam_WRP_CTRL {k : Nat} : inFam 228 (WRP_CTRL k) := ⟨k, 0, rfl⟩
theorem inFam_WRP_WC_CFG {k : Nat} : inFam 229 (WRP_WC_CFG k) := ⟨k, 0, rfl⟩
theorem inFam_WRP_HTR_CFG {k : Nat} : inFam 230 (WRP_HTR_CFG k) := ⟨k, 0, rfl⟩
theorem inFam_WRP_PRECOMP {k : Nat} : inFam 231 (WRP_PRECOMP k) := ⟨k, 0, rfl⟩
theorem inFam_WRP_STATUS {k : Nat} : inFam 232 (WRP_STATUS k) := ⟨k, 0, rfl⟩
theorem inFam_WRP_EVT_CNT {k : Nat} : inFam 233 (WRP_EVT_CNT k) := ⟨k, 0, rfl⟩
theorem inFam_WRP_PA_CMD {k : Nat} : inFam 234 (WRP_PA_CMD k) := ⟨k, 0, rfl⟩
theorem inFam_WRP_PA_RESP {k : Nat} : inFam 235 (WRP_PA_RESP k) := ⟨k, 0, rfl⟩
theorem inFam_SEQ_CTRL {k : Nat} : inFam 236 (SEQ_CTRL k) := ⟨k, 0, rfl⟩
theorem inFam_SEQ_STATUS {k : Nat} : inFam 237 (SEQ_STATUS k) := ⟨k, 0, rfl⟩
theorem inFam_SEQ_INT_EN {k : Nat} : inFam 238 (SEQ_INT_EN k) := ⟨k, 0, rfl⟩
theorem inFam_SEQ_PC {k : Nat} : inFam 239 (SEQ_PC k) := ⟨k, 0, rfl⟩
theorem inFam_SEQ_ENTRY {k : Nat} : inFam 240 (SEQ_ENTRY k) := ⟨k, 0, rfl⟩
theorem inFam_SEQ_HOOK_BUDGET {k : Nat} : inFam 241 (SEQ_HOOK_BUDGET k) := ⟨k, 0, rfl⟩
theorem inFam_SEQ_SIGNAL {k : Nat} : inFam 242 (SEQ_SIGNAL k) := ⟨k, 0, rfl⟩
theorem inFam_SEQ_WINDOW {k : Nat} : inFam 243 (SEQ_WINDOW k) := ⟨k, 0, rfl⟩
theorem inFam_SEQ_V {k l : Nat} : inFam 244 (SEQ_V k l) := ⟨k, l, rfl⟩
theorem inFam_SEQ_LC_SP {k : Nat} : inFam 245 (SEQ_LC_SP k) := ⟨k, 0, rfl⟩
theorem inFam_SEQ_EVT_CNT {k : Nat} : inFam 246 (SEQ_EVT_CNT k) := ⟨k, 0, rfl⟩
theorem inFam_SEQ_FORMAT {k : Nat} : inFam 247 (SEQ_FORMAT k) := ⟨k, 0, rfl⟩
theorem inFam_SEQ_ENDS {k : Nat} : inFam 248 (SEQ_ENDS k) := ⟨k, 0, rfl⟩
theorem inFam_SEQ_LOCK : inFam 249 SEQ_LOCK := ⟨0, 0, rfl⟩
theorem inFam_SEQ_LOAD_STAT : inFam 250 SEQ_LOAD_STAT := ⟨0, 0, rfl⟩
theorem inFam_SEQ_STORE_ADDR : inFam 251 SEQ_STORE_ADDR := ⟨0, 0, rfl⟩
theorem inFam_SEQ_STORE_DATA {k : Nat} : inFam 252 (SEQ_STORE_DATA k) := ⟨k, 0, rfl⟩
theorem inFam_SEQ_STORE_ERR : inFam 253 SEQ_STORE_ERR := ⟨0, 0, rfl⟩
theorem inFam_SEQ_PATCH_LEVEL : inFam 254 SEQ_PATCH_LEVEL := ⟨0, 0, rfl⟩
theorem inFam_SEQ_CUST_ID : inFam 255 SEQ_CUST_ID := ⟨0, 0, rfl⟩
theorem inFam_SEQ_GSTATUS : inFam 256 SEQ_GSTATUS := ⟨0, 0, rfl⟩
theorem inFam_SEQ_GINT_EN : inFam 257 SEQ_GINT_EN := ⟨0, 0, rfl⟩
theorem inFam_SEQ_FLUSH : inFam 258 SEQ_FLUSH := ⟨0, 0, rfl⟩
theorem inFam_SEQ_BASE_VER : inFam 259 SEQ_BASE_VER := ⟨0, 0, rfl⟩
theorem inFam_SEQ_HOOK_MAP : inFam 260 SEQ_HOOK_MAP := ⟨0, 0, rfl⟩
theorem inFam_SEQ_PRESENT : inFam 261 SEQ_PRESENT := ⟨0, 0, rfl⟩
theorem inFam_SRV_CFG {k : Nat} : inFam 262 (SRV_CFG k) := ⟨k, 0, rfl⟩
theorem inFam_SRV_STATUS {k : Nat} : inFam 263 (SRV_STATUS k) := ⟨k, 0, rfl⟩
theorem inFam_SRV_PE {k : Nat} : inFam 264 (SRV_PE k) := ⟨k, 0, rfl⟩
theorem inFam_SRV_ID {k : Nat} : inFam 265 (SRV_ID k) := ⟨k, 0, rfl⟩
theorem inFam_SRV_SKEW {k : Nat} : inFam 266 (SRV_SKEW k) := ⟨k, 0, rfl⟩
theorem inFam_SRV_CNT {k : Nat} : inFam 267 (SRV_CNT k) := ⟨k, 0, rfl⟩
theorem inFam_SRV_CTRL : inFam 268 SRV_CTRL := ⟨0, 0, rfl⟩
theorem inFam_SRV_SAM_PAT : inFam 269 SRV_SAM_PAT := ⟨0, 0, rfl⟩
theorem inFam_SRV_WIN_CFG : inFam 270 SRV_WIN_CFG := ⟨0, 0, rfl⟩
theorem inFam_SRV_LOSS_CFG : inFam 271 SRV_LOSS_CFG := ⟨0, 0, rfl⟩
theorem inFam_SRV_AMP_CFG : inFam 272 SRV_AMP_CFG := ⟨0, 0, rfl⟩
theorem inFam_SRV_BT_CFG : inFam 273 SRV_BT_CFG := ⟨0, 0, rfl⟩
theorem inFam_SRV_TREF : inFam 274 SRV_TREF := ⟨0, 0, rfl⟩
theorem inFam_SRV_BELL_LO : inFam 275 SRV_BELL_LO := ⟨0, 0, rfl⟩
theorem inFam_SRV_BELL_HI : inFam 276 SRV_BELL_HI := ⟨0, 0, rfl⟩
theorem inFam_SRV_PERIOD : inFam 277 SRV_PERIOD := ⟨0, 0, rfl⟩
theorem inFam_SRV_WEDGE : inFam 278 SRV_WEDGE := ⟨0, 0, rfl⟩
theorem inFam_SRV_GSTATUS : inFam 279 SRV_GSTATUS := ⟨0, 0, rfl⟩
theorem inFam_SRV_INT_EN : inFam 280 SRV_INT_EN := ⟨0, 0, rfl⟩
theorem inFam_SRV_LOADED : inFam 281 SRV_LOADED := ⟨0, 0, rfl⟩
theorem inFam_SRV_LOST : inFam 282 SRV_LOST := ⟨0, 0, rfl⟩
theorem inFam_SRV_PRESENT : inFam 283 SRV_PRESENT := ⟨0, 0, rfl⟩
theorem inFam_CTL_CFG {k : Nat} : inFam 284 (CTL_CFG k) := ⟨k, 0, rfl⟩
theorem inFam_CTL_CMD {k : Nat} : inFam 285 (CTL_CMD k) := ⟨k, 0, rfl⟩
theorem inFam_CTL_STATUS {k : Nat} : inFam 286 (CTL_STATUS k) := ⟨k, 0, rfl⟩
theorem inFam_CTL_OSC_CFG {k : Nat} : inFam 287 (CTL_OSC_CFG k) := ⟨k, 0, rfl⟩
theorem inFam_CTL_OSC_THRESH {k : Nat} : inFam 288 (CTL_OSC_THRESH k) := ⟨k, 0, rfl⟩
theorem inFam_CTL_OUT {k : Nat} : inFam 289 (CTL_OUT k) := ⟨k, 0, rfl⟩
theorem inFam_CTL_ERR {k : Nat} : inFam 290 (CTL_ERR k) := ⟨k, 0, rfl⟩
theorem inFam_CTL_ENERGY {k : Nat} : inFam 291 (CTL_ENERGY k) := ⟨k, 0, rfl⟩
theorem inFam_CTL_CENTRE {k : Nat} : inFam 292 (CTL_CENTRE k) := ⟨k, 0, rfl⟩
theorem inFam_CTL_XDISP {k : Nat} : inFam 293 (CTL_XDISP k) := ⟨k, 0, rfl⟩
theorem inFam_CTL_CNT {k : Nat} : inFam 294 (CTL_CNT k) := ⟨k, 0, rfl⟩
theorem inFam_CTL_CTRL : inFam 295 CTL_CTRL := ⟨0, 0, rfl⟩
theorem inFam_CTL_GSTATUS : inFam 296 CTL_GSTATUS := ⟨0, 0, rfl⟩
theorem inFam_CTL_INT_EN : inFam 297 CTL_INT_EN := ⟨0, 0, rfl⟩
theorem inFam_CTL_LANE_STAT : inFam 298 CTL_LANE_STAT := ⟨0, 0, rfl⟩
theorem inFam_CTL_LANE_CNT : inFam 299 CTL_LANE_CNT := ⟨0, 0, rfl⟩
theorem inFam_CTL_COEF_ADDR : inFam 300 CTL_COEF_ADDR := ⟨0, 0, rfl⟩
theorem inFam_CTL_COEF_LO : inFam 301 CTL_COEF_LO := ⟨0, 0, rfl⟩
theorem inFam_CTL_COEF_HI : inFam 302 CTL_COEF_HI := ⟨0, 0, rfl⟩
theorem inFam_CTL_SETTLE_CFG : inFam 303 CTL_SETTLE_CFG := ⟨0, 0, rfl⟩
theorem inFam_CTL_HO_CFG : inFam 304 CTL_HO_CFG := ⟨0, 0, rfl⟩
theorem inFam_CTL_SLOT_STAT : inFam 305 CTL_SLOT_STAT := ⟨0, 0, rfl⟩
theorem inFam_PROF_TARGET {k : Nat} : inFam 306 (PROF_TARGET k) := ⟨k, 0, rfl⟩
theorem inFam_PROF_CMD {k : Nat} : inFam 307 (PROF_CMD k) := ⟨k, 0, rfl⟩
theorem inFam_PROF_STAT {k : Nat} : inFam 308 (PROF_STAT k) := ⟨k, 0, rfl⟩
theorem inFam_PROF_POS {k : Nat} : inFam 309 (PROF_POS k) := ⟨k, 0, rfl⟩
theorem inFam_MOT_VCM_CFG {k : Nat} : inFam 310 (MOT_VCM_CFG k) := ⟨k, 0, rfl⟩
theorem inFam_MOT_VCM_MOVE {k : Nat} : inFam 311 (MOT_VCM_MOVE k) := ⟨k, 0, rfl⟩
theorem inFam_MOT_VCM_TEST {k : Nat} : inFam 312 (MOT_VCM_TEST k) := ⟨k, 0, rfl⟩
theorem inFam_MOT_CMD {k : Nat} : inFam 313 (MOT_CMD k) := ⟨k, 0, rfl⟩
theorem inFam_MOT_ASTATUS {k : Nat} : inFam 314 (MOT_ASTATUS k) := ⟨k, 0, rfl⟩
theorem inFam_MOT_MEAS {k : Nat} : inFam 315 (MOT_MEAS k) := ⟨k, 0, rfl⟩
theorem inFam_MOT_CTRL : inFam 316 MOT_CTRL := ⟨0, 0, rfl⟩
theorem inFam_MOT_SP_CMD : inFam 317 MOT_SP_CMD := ⟨0, 0, rfl⟩
theorem inFam_MOT_SP_STAT : inFam 318 MOT_SP_STAT := ⟨0, 0, rfl⟩
theorem inFam_MOT_SPEED : inFam 319 MOT_SPEED := ⟨0, 0, rfl⟩
theorem inFam_MOT_SP_CFG : inFam 320 MOT_SP_CFG := ⟨0, 0, rfl⟩
theorem inFam_MOT_START_CFG : inFam 321 MOT_START_CFG := ⟨0, 0, rfl⟩
theorem inFam_MOT_SENSE_CFG : inFam 322 MOT_SENSE_CFG := ⟨0, 0, rfl⟩
theorem inFam_MOT_FOC_CFG : inFam 323 MOT_FOC_CFG := ⟨0, 0, rfl⟩
theorem inFam_MOT_PWM_CFG : inFam 324 MOT_PWM_CFG := ⟨0, 0, rfl⟩
theorem inFam_MOT_BUS_CFG : inFam 325 MOT_BUS_CFG := ⟨0, 0, rfl⟩
theorem inFam_MOT_RT_CFG : inFam 326 MOT_RT_CFG := ⟨0, 0, rfl⟩
theorem inFam_MOT_ENC_OFS : inFam 327 MOT_ENC_OFS := ⟨0, 0, rfl⟩
theorem inFam_MOT_BUS : inFam 328 MOT_BUS := ⟨0, 0, rfl⟩
theorem inFam_MOT_STATUS : inFam 329 MOT_STATUS := ⟨0, 0, rfl⟩
theorem inFam_MOT_INT_EN : inFam 330 MOT_INT_EN := ⟨0, 0, rfl⟩
theorem inFam_MOT_PWM_STAT : inFam 331 MOT_PWM_STAT := ⟨0, 0, rfl⟩
theorem inFam_MOT_MA_FAULT : inFam 332 MOT_MA_FAULT := ⟨0, 0, rfl⟩
theorem inFam_MOT_RET_WORD {k : Nat} : inFam 333 (MOT_RET_WORD k) := ⟨k, 0, rfl⟩
theorem inFam_MOT_BEAT : inFam 334 MOT_BEAT := ⟨0, 0, rfl⟩
theorem inFam_MOT_CNT : inFam 335 MOT_CNT := ⟨0, 0, rfl⟩
theorem inFam_MOT_RT_STAT : inFam 336 MOT_RT_STAT := ⟨0, 0, rfl⟩
theorem inFam_MOT_AUX_CFG : inFam 337 MOT_AUX_CFG := ⟨0, 0, rfl⟩
theorem inFam_MOT_ADC {k : Nat} : inFam 338 (MOT_ADC k) := ⟨k, 0, rfl⟩
theorem inFam_QFB_PCTRL {k : Nat} : inFam 339 (QFB_PCTRL k) := ⟨k, 0, rfl⟩
theorem inFam_QFB_PSTATUS {k : Nat} : inFam 340 (QFB_PSTATUS k) := ⟨k, 0, rfl⟩
theorem inFam_QFB_CREDIT_CFG {k : Nat} : inFam 341 (QFB_CREDIT_CFG k) := ⟨k, 0, rfl⟩
theorem inFam_QFB_PEER {k : Nat} : inFam 342 (QFB_PEER k) := ⟨k, 0, rfl⟩
theorem inFam_QFB_PEER_SN_LO {k : Nat} : inFam 343 (QFB_PEER_SN_LO k) := ⟨k, 0, rfl⟩
theorem inFam_QFB_PEER_SN_HI {k : Nat} : inFam 344 (QFB_PEER_SN_HI k) := ⟨k, 0, rfl⟩
theorem inFam_QFB_PINT_EN {k : Nat} : inFam 345 (QFB_PINT_EN k) := ⟨k, 0, rfl⟩
theorem inFam_QFB_PCNT {k : Nat} : inFam 346 (QFB_PCNT k) := ⟨k, 0, rfl⟩
theorem inFam_QFB_CFG : inFam 347 QFB_CFG := ⟨0, 0, rfl⟩
theorem inFam_QFB_TIMER_CFG : inFam 348 QFB_TIMER_CFG := ⟨0, 0, rfl⟩
theorem inFam_QFB_XFER_CFG : inFam 349 QFB_XFER_CFG := ⟨0, 0, rfl⟩
theorem inFam_QFB_ARB_CFG : inFam 350 QFB_ARB_CFG := ⟨0, 0, rfl⟩
theorem inFam_QFB_ADDR : inFam 351 QFB_ADDR := ⟨0, 0, rfl⟩
theorem inFam_QFB_STATUS : inFam 352 QFB_STATUS := ⟨0, 0, rfl⟩
theorem inFam_QFB_INT_EN : inFam 353 QFB_INT_EN := ⟨0, 0, rfl⟩
theorem inFam_QFB_REACH : inFam 354 QFB_REACH := ⟨0, 0, rfl⟩
theorem inFam_QFB_ROUTE_ADDR : inFam 355 QFB_ROUTE_ADDR := ⟨0, 0, rfl⟩
theorem inFam_QFB_ROUTE_DATA : inFam 356 QFB_ROUTE_DATA := ⟨0, 0, rfl⟩
theorem inFam_QFB_XFER_STAT : inFam 357 QFB_XFER_STAT := ⟨0, 0, rfl⟩
theorem inFam_QFB_CNT : inFam 358 QFB_CNT := ⟨0, 0, rfl⟩
theorem inFam_QFB_ALLOW {k : Nat} : inFam 359 (QFB_ALLOW k) := ⟨k, 0, rfl⟩
theorem inFam_QFB_WIN_BASE {k : Nat} : inFam 360 (QFB_WIN_BASE k) := ⟨k, 0, rfl⟩
theorem inFam_QFB_WIN_CFG {k : Nat} : inFam 361 (QFB_WIN_CFG k) := ⟨k, 0, rfl⟩
theorem inFam_WCH_CTRL : inFam 362 WCH_CTRL := ⟨0, 0, rfl⟩
theorem inFam_WCH_FN_CTRL : inFam 363 WCH_FN_CTRL := ⟨0, 0, rfl⟩
theorem inFam_WCH_STATUS : inFam 364 WCH_STATUS := ⟨0, 0, rfl⟩
theorem inFam_WCH_INT_EN : inFam 365 WCH_INT_EN := ⟨0, 0, rfl⟩
theorem inFam_WCH_SRC_SEL : inFam 366 WCH_SRC_SEL := ⟨0, 0, rfl⟩
theorem inFam_WCH_SRC_CFG : inFam 367 WCH_SRC_CFG := ⟨0, 0, rfl⟩
theorem inFam_WCH_SRC_STAT : inFam 368 WCH_SRC_STAT := ⟨0, 0, rfl⟩
theorem inFam_WCH_SRC_CNT : inFam 369 WCH_SRC_CNT := ⟨0, 0, rfl⟩
theorem inFam_WCH_RAISED {k : Nat} : inFam 370 (WCH_RAISED k) := ⟨k, 0, rfl⟩
theorem inFam_WCH_CLASS_CNT {k : Nat} : inFam 371 (WCH_CLASS_CNT k) := ⟨k, 0, rfl⟩
theorem inFam_WCH_INST : inFam 372 WCH_INST := ⟨0, 0, rfl⟩
theorem inFam_WCH_ANCHOR : inFam 373 WCH_ANCHOR := ⟨0, 0, rfl⟩
theorem inFam_WCH_WLOG_LO : inFam 374 WCH_WLOG_LO := ⟨0, 0, rfl⟩
theorem inFam_WCH_WLOG_HI : inFam 375 WCH_WLOG_HI := ⟨0, 0, rfl⟩
theorem inFam_WCH_WLOG_STAT : inFam 376 WCH_WLOG_STAT := ⟨0, 0, rfl⟩
theorem inFam_WCH_WLOG_CNT : inFam 377 WCH_WLOG_CNT := ⟨0, 0, rfl⟩
theorem inFam_WCH_FEC_INFO {k : Nat} : inFam 378 (WCH_FEC_INFO k) := ⟨k, 0, rfl⟩
theorem inFam_WCH_FEC_ADDR_LO {k : Nat} : inFam 379 (WCH_FEC_ADDR_LO k) := ⟨k, 0, rfl⟩
theorem inFam_WCH_FEC_ADDR_HI {k : Nat} : inFam 380 (WCH_FEC_ADDR_HI k) := ⟨k, 0, rfl⟩
theorem inFam_WCH_FEC_BELL_LO {k : Nat} : inFam 381 (WCH_FEC_BELL_LO k) := ⟨k, 0, rfl⟩
theorem inFam_WCH_FEC_BELL_HI {k : Nat} : inFam 382 (WCH_FEC_BELL_HI k) := ⟨k, 0, rfl⟩
theorem inFam_WCH_FEC_FINE {k : Nat} : inFam 383 (WCH_FEC_FINE k) := ⟨k, 0, rfl⟩
theorem inFam_WCH_FEC_CTRL {k : Nat} : inFam 384 (WCH_FEC_CTRL k) := ⟨k, 0, rfl⟩
theorem inFam_WCH_INJ_CMD : inFam 385 WCH_INJ_CMD := ⟨0, 0, rfl⟩
theorem inFam_WCH_INJ_ARG_LO : inFam 386 WCH_INJ_ARG_LO := ⟨0, 0, rfl⟩
theorem inFam_WCH_INJ_ARG_HI : inFam 387 WCH_INJ_ARG_HI := ⟨0, 0, rfl⟩
theorem inFam_WCH_INJ_TOKEN : inFam 388 WCH_INJ_TOKEN := ⟨0, 0, rfl⟩
theorem inFam_WCH_INJ_STAT : inFam 389 WCH_INJ_STAT := ⟨0, 0, rfl⟩
theorem inFam_LOG_CTRL : inFam 390 LOG_CTRL := ⟨0, 0, rfl⟩
theorem inFam_LOG_STAT : inFam 391 LOG_STAT := ⟨0, 0, rfl⟩
theorem inFam_LOG_SEQ_LO : inFam 392 LOG_SEQ_LO := ⟨0, 0, rfl⟩
theorem inFam_LOG_SEQ_HI : inFam 393 LOG_SEQ_HI := ⟨0, 0, rfl⟩
theorem inFam_LOG_READ_IDX : inFam 394 LOG_READ_IDX := ⟨0, 0, rfl⟩
theorem inFam_LOG_READ_DATA : inFam 395 LOG_READ_DATA := ⟨0, 0, rfl⟩
theorem inFam_LOG_SNAP_SEL : inFam 396 LOG_SNAP_SEL := ⟨0, 0, rfl⟩
theorem inFam_LOG_SNAP_DATA : inFam 397 LOG_SNAP_DATA := ⟨0, 0, rfl⟩
theorem inFam_LOG_FW_TYPE : inFam 398 LOG_FW_TYPE := ⟨0, 0, rfl⟩
theorem inFam_LOG_FW_DETAIL_LO : inFam 399 LOG_FW_DETAIL_LO := ⟨0, 0, rfl⟩
theorem inFam_LOG_FW_DETAIL_HI : inFam 400 LOG_FW_DETAIL_HI := ⟨0, 0, rfl⟩
theorem inFam_LOG_FW_GO : inFam 401 LOG_FW_GO := ⟨0, 0, rfl⟩
theorem inFam_LOG_CNT : inFam 402 LOG_CNT := ⟨0, 0, rfl⟩
theorem inFam_PAD_GPIO_CFG {k : Nat} : inFam 403 (PAD_GPIO_CFG k) := ⟨k, 0, rfl⟩
theorem inFam_PAD_GPIO_IN : inFam 404 PAD_GPIO_IN := ⟨0, 0, rfl⟩
theorem inFam_PAD_GPIO_OUT : inFam 405 PAD_GPIO_OUT := ⟨0, 0, rfl⟩
theorem inFam_PAD_TEMP : inFam 406 PAD_TEMP := ⟨0, 0, rfl⟩
theorem inFam_PAD_SUPPLY : inFam 407 PAD_SUPPLY := ⟨0, 0, rfl⟩
theorem inFam_CTL_CFG_hold {k : Nat} : inFam 408 (CTL_CFG k + holdOff) := ⟨k, 0, by show CTL_CFG k + holdOff = 2949120 + k * 64 + 0 * 0; unfold CTL_CFG holdOff; omega⟩
theorem inFam_MOT_SP_CFG_hold : inFam 409 (MOT_SP_CFG + holdOff) := ⟨0, 0, by show MOT_SP_CFG + holdOff = 3076112 + 0 * 0 + 0 * 0; unfold MOT_SP_CFG holdOff; omega⟩
theorem inFam_MOT_VCM_CFG_hold {k : Nat} : inFam 410 (MOT_VCM_CFG k + holdOff) := ⟨k, 0, by show MOT_VCM_CFG k + holdOff = 3014656 + k * 64 + 0 * 0; unfold MOT_VCM_CFG holdOff; omega⟩
theorem inFam_RCH_CTRL_hold {k : Nat} : inFam 411 (RCH_CTRL k + holdOff) := ⟨k, 0, by show RCH_CTRL k + holdOff = 2621440 + k * 2048 + 0 * 0; unfold RCH_CTRL holdOff; omega⟩
theorem inFam_SEQ_CTRL_hold {k : Nat} : inFam 412 (SEQ_CTRL k + holdOff) := ⟨k, 0, by show SEQ_CTRL k + holdOff = 2818048 + k * 256 + 0 * 0; unfold SEQ_CTRL holdOff; omega⟩

theorem of_inFam_SYS_ID {a : Nat} (h : inFam 0 a) : a = SYS_ID := let ⟨_, _, e⟩ := h; e
theorem of_inFam_SYS_REV {a : Nat} (h : inFam 1 a) : a = SYS_REV := let ⟨_, _, e⟩ := h; e
theorem of_inFam_SYS_GLUE {a : Nat} (h : inFam 2 a) : a = SYS_GLUE := let ⟨_, _, e⟩ := h; e
theorem of_inFam_SYS_GLUE_HOLD {a : Nat} (h : inFam 3 a) : a = SYS_GLUE_HOLD := let ⟨_, _, e⟩ := h; e
theorem of_inFam_SYS_GLUE_STAT {a : Nat} (h : inFam 4 a) : a = SYS_GLUE_STAT := let ⟨_, _, e⟩ := h; e
theorem of_inFam_SYS_GLUE_PEND {a : Nat} (h : inFam 5 a) : a = SYS_GLUE_PEND := let ⟨_, _, e⟩ := h; e
theorem of_inFam_SYS_STATUS {a : Nat} (h : inFam 6 a) : a = SYS_STATUS := let ⟨_, _, e⟩ := h; e
theorem of_inFam_SYS_INT_EN {a : Nat} (h : inFam 7 a) : a = SYS_INT_EN := let ⟨_, _, e⟩ := h; e
theorem of_inFam_SYS_REF_DATA0 {a : Nat} (h : inFam 8 a) : a = SYS_REF_DATA0 := let ⟨_, _, e⟩ := h; e
theorem of_inFam_SYS_REF_DATA1 {a : Nat} (h : inFam 9 a) : a = SYS_REF_DATA1 := let ⟨_, _, e⟩ := h; e
theorem of_inFam_SYS_REF_CNT {a : Nat} (h : inFam 10 a) : a = SYS_REF_CNT := let ⟨_, _, e⟩ := h; e
theorem of_inFam_SYS_XING_STAT {a : Nat} (h : inFam 11 a) : a = SYS_XING_STAT := let ⟨_, _, e⟩ := h; e
theorem of_inFam_SYS_OWN_SEL {a : Nat} (h : inFam 12 a) : a = SYS_OWN_SEL := let ⟨_, _, e⟩ := h; e
theorem of_inFam_SYS_OWN_DATA {a : Nat} (h : inFam 13 a) : a = SYS_OWN_DATA := let ⟨_, _, e⟩ := h; e
theorem of_inFam_SYS_TMR_CFG {a : Nat} (h : inFam 14 a) : ∃ n, a = SYS_TMR_CFG n := let ⟨n, _, e⟩ := h; ⟨n, e⟩
theorem of_inFam_SYS_TMR_STAT {a : Nat} (h : inFam 15 a) : a = SYS_TMR_STAT := let ⟨_, _, e⟩ := h; e
theorem of_inFam_SYS_TMR_CAP {a : Nat} (h : inFam 16 a) : ∃ n, a = SYS_TMR_CAP n := let ⟨n, _, e⟩ := h; ⟨n, e⟩
theorem of_inFam_SYS_MODE {a : Nat} (h : inFam 17 a) : a = SYS_MODE := let ⟨_, _, e⟩ := h; e
theorem of_inFam_SYS_START {a : Nat} (h : inFam 18 a) : a = SYS_START := let ⟨_, _, e⟩ := h; e
theorem of_inFam_SYS_RESET_CMD {a : Nat} (h : inFam 19 a) : a = SYS_RESET_CMD := let ⟨_, _, e⟩ := h; e
theorem of_inFam_SYS_WDOG_CFG {a : Nat} (h : inFam 20 a) : a = SYS_WDOG_CFG := let ⟨_, _, e⟩ := h; e
theorem of_inFam_SYS_HELM_STAT {a : Nat} (h : inFam 21 a) : a = SYS_HELM_STAT := let ⟨_, _, e⟩ := h; e
theorem of_inFam_SYS_WDOG_KICK {a : Nat} (h : inFam 22 a) : a = SYS_WDOG_KICK := let ⟨_, _, e⟩ := h; e
theorem of_inFam_SYS_HELM_INT_EN {a : Nat} (h : inFam 23 a) : a = SYS_HELM_INT_EN := let ⟨_, _, e⟩ := h; e
theorem of_inFam_SYS_PWR_CYCLES {a : Nat} (h : inFam 24 a) : a = SYS_PWR_CYCLES := let ⟨_, _, e⟩ := h; e
theorem of_inFam_SYS_WARM_STARTS {a : Nat} (h : inFam 25 a) : a = SYS_WARM_STARTS := let ⟨_, _, e⟩ := h; e
theorem of_inFam_SYS_OP_SEC_LO {a : Nat} (h : inFam 26 a) : a = SYS_OP_SEC_LO := let ⟨_, _, e⟩ := h; e
theorem of_inFam_SYS_OP_SEC_HI {a : Nat} (h : inFam 27 a) : a = SYS_OP_SEC_HI := let ⟨_, _, e⟩ := h; e
theorem of_inFam_SYS_HELM_CNT {a : Nat} (h : inFam 28 a) : a = SYS_HELM_CNT := let ⟨_, _, e⟩ := h; e
theorem of_inFam_SYS_MEAS_SEL {a : Nat} (h : inFam 29 a) : a = SYS_MEAS_SEL := let ⟨_, _, e⟩ := h; e
theorem of_inFam_SYS_MEAS_DATA {a : Nat} (h : inFam 30 a) : a = SYS_MEAS_DATA := let ⟨_, _, e⟩ := h; e
theorem of_inFam_SYS_FUSE_STAT {a : Nat} (h : inFam 31 a) : a = SYS_FUSE_STAT := let ⟨_, _, e⟩ := h; e
theorem of_inFam_SYS_SERIAL_LO {a : Nat} (h : inFam 32 a) : a = SYS_SERIAL_LO := let ⟨_, _, e⟩ := h; e
theorem of_inFam_SYS_SERIAL_HI {a : Nat} (h : inFam 33 a) : a = SYS_SERIAL_HI := let ⟨_, _, e⟩ := h; e
theorem of_inFam_BQ_BASE_LO {a : Nat} (h : inFam 34 a) : ∃ n, a = BQ_BASE_LO n := let ⟨n, _, e⟩ := h; ⟨n, e⟩
theorem of_inFam_BQ_BASE_HI {a : Nat} (h : inFam 35 a) : ∃ n, a = BQ_BASE_HI n := let ⟨n, _, e⟩ := h; ⟨n, e⟩
theorem of_inFam_BQ_RES_LO {a : Nat} (h : inFam 36 a) : ∃ n, a = BQ_RES_LO n := let ⟨n, _, e⟩ := h; ⟨n, e⟩
theorem of_inFam_BQ_RES_HI {a : Nat} (h : inFam 37 a) : ∃ n, a = BQ_RES_HI n := let ⟨n, _, e⟩ := h; ⟨n, e⟩
theorem of_inFam_BQ_CFG {a : Nat} (h : inFam 38 a) : ∃ n, a = BQ_CFG n := let ⟨n, _, e⟩ := h; ⟨n, e⟩
theorem of_inFam_BQ_DOORBELL {a : Nat} (h : inFam 39 a) : ∃ n, a = BQ_DOORBELL n := let ⟨n, _, e⟩ := h; ⟨n, e⟩
theorem of_inFam_BQ_STATE {a : Nat} (h : inFam 40 a) : ∃ n, a = BQ_STATE n := let ⟨n, _, e⟩ := h; ⟨n, e⟩
theorem of_inFam_BQ_INDEX {a : Nat} (h : inFam 41 a) : ∃ n, a = BQ_INDEX n := let ⟨n, _, e⟩ := h; ⟨n, e⟩
theorem of_inFam_BQ_CTRL {a : Nat} (h : inFam 42 a) : a = BQ_CTRL := let ⟨_, _, e⟩ := h; e
theorem of_inFam_BQ_STATUS {a : Nat} (h : inFam 43 a) : a = BQ_STATUS := let ⟨_, _, e⟩ := h; e
theorem of_inFam_BQ_INT_EN {a : Nat} (h : inFam 44 a) : a = BQ_INT_EN := let ⟨_, _, e⟩ := h; e
theorem of_inFam_BQ_INFLIGHT {a : Nat} (h : inFam 45 a) : a = BQ_INFLIGHT := let ⟨_, _, e⟩ := h; e
theorem of_inFam_BQ_ENABLED {a : Nat} (h : inFam 46 a) : ∃ n, a = BQ_ENABLED n := let ⟨n, _, e⟩ := h; ⟨n, e⟩
theorem of_inFam_BQ_FROZEN {a : Nat} (h : inFam 47 a) : ∃ n, a = BQ_FROZEN n := let ⟨n, _, e⟩ := h; ⟨n, e⟩
theorem of_inFam_BQ_FRZ_SEL {a : Nat} (h : inFam 48 a) : a = BQ_FRZ_SEL := let ⟨_, _, e⟩ := h; e
theorem of_inFam_BQ_FRZ_DATA {a : Nat} (h : inFam 49 a) : a = BQ_FRZ_DATA := let ⟨_, _, e⟩ := h; e
theorem of_inFam_BQ_FETCH_CNT {a : Nat} (h : inFam 50 a) : a = BQ_FETCH_CNT := let ⟨_, _, e⟩ := h; e
theorem of_inFam_BQ_PUB_CNT {a : Nat} (h : inFam 51 a) : a = BQ_PUB_CNT := let ⟨_, _, e⟩ := h; e
theorem of_inFam_BQ_DB_CNT {a : Nat} (h : inFam 52 a) : a = BQ_DB_CNT := let ⟨_, _, e⟩ := h; e
theorem of_inFam_BQ_ABORT_CNT {a : Nat} (h : inFam 53 a) : a = BQ_ABORT_CNT := let ⟨_, _, e⟩ := h; e
theorem of_inFam_BQ_MARKS {a : Nat} (h : inFam 54 a) : a = BQ_MARKS := let ⟨_, _, e⟩ := h; e
theorem of_inFam_BQ_LINK_CFG {a : Nat} (h : inFam 55 a) : a = BQ_LINK_CFG := let ⟨_, _, e⟩ := h; e
theorem of_inFam_BQ_LINK_STAT {a : Nat} (h : inFam 56 a) : a = BQ_LINK_STAT := let ⟨_, _, e⟩ := h; e
theorem of_inFam_BQ_LINK_EVT {a : Nat} (h : inFam 57 a) : a = BQ_LINK_EVT := let ⟨_, _, e⟩ := h; e
theorem of_inFam_BQ_LINK_CNT {a : Nat} (h : inFam 58 a) : a = BQ_LINK_CNT := let ⟨_, _, e⟩ := h; e
theorem of_inFam_SCH_CTRL {a : Nat} (h : inFam 59 a) : a = SCH_CTRL := let ⟨_, _, e⟩ := h; e
theorem of_inFam_SCH_ARB_CFG {a : Nat} (h : inFam 60 a) : a = SCH_ARB_CFG := let ⟨_, _, e⟩ := h; e
theorem of_inFam_SCH_RPO_CFG {a : Nat} (h : inFam 61 a) : a = SCH_RPO_CFG := let ⟨_, _, e⟩ := h; e
theorem of_inFam_SCH_INT_EN {a : Nat} (h : inFam 62 a) : a = SCH_INT_EN := let ⟨_, _, e⟩ := h; e
theorem of_inFam_SCH_IDLE_LO {a : Nat} (h : inFam 63 a) : a = SCH_IDLE_LO := let ⟨_, _, e⟩ := h; e
theorem of_inFam_SCH_IDLE_HI {a : Nat} (h : inFam 64 a) : a = SCH_IDLE_HI := let ⟨_, _, e⟩ := h; e
theorem of_inFam_SCH_LAT_TOL {a : Nat} (h : inFam 65 a) : a = SCH_LAT_TOL := let ⟨_, _, e⟩ := h; e
theorem of_inFam_SCH_PWR_CFG {a : Nat} (h : inFam 66 a) : a = SCH_PWR_CFG := let ⟨_, _, e⟩ := h; e
theorem of_inFam_SCH_PWR_STAT {a : Nat} (h : inFam 67 a) : a = SCH_PWR_STAT := let ⟨_, _, e⟩ := h; e
theorem of_inFam_SCH_STATUS {a : Nat} (h : inFam 68 a) : a = SCH_STATUS := let ⟨_, _, e⟩ := h; e
theorem of_inFam_SCH_LOCK_USE {a : Nat} (h : inFam 69 a) : a = SCH_LOCK_USE := let ⟨_, _, e⟩ := h; e
theorem of_inFam_SCH_PREEMPT_CNT {a : Nat} (h : inFam 70 a) : a = SCH_PREEMPT_CNT := let ⟨_, _, e⟩ := h; e
theorem of_inFam_SCH_PWR_CNT {a : Nat} (h : inFam 71 a) : a = SCH_PWR_CNT := let ⟨_, _, e⟩ := h; e
theorem of_inFam_SCH_TIER_ADDR_LO {a : Nat} (h : inFam 72 a) : a = SCH_TIER_ADDR_LO := let ⟨_, _, e⟩ := h; e
theorem of_inFam_SCH_TIER_ADDR_HI {a : Nat} (h : inFam 73 a) : a = SCH_TIER_ADDR_HI := let ⟨_, _, e⟩ := h; e
theorem of_inFam_SCH_TIER_CMD {a : Nat} (h : inFam 74 a) : a = SCH_TIER_CMD := let ⟨_, _, e⟩ := h; e
theorem of_inFam_SCH_TIER_RESP {a : Nat} (h : inFam 75 a) : a = SCH_TIER_RESP := let ⟨_, _, e⟩ := h; e
theorem of_inFam_SCH_TIER {a : Nat} (h : inFam 76 a) : ∃ n, a = SCH_TIER n := let ⟨n, _, e⟩ := h; ⟨n, e⟩
theorem of_inFam_SCH_CAND {a : Nat} (h : inFam 77 a) : ∃ n, a = SCH_CAND n := let ⟨n, _, e⟩ := h; ⟨n, e⟩
theorem of_inFam_SCH_COST {a : Nat} (h : inFam 78 a) : ∃ n, a = SCH_COST n := let ⟨n, _, e⟩ := h; ⟨n, e⟩
theorem of_inFam_LGT_CTRL {a : Nat} (h : inFam 79 a) : ∃ n, a = LGT_CTRL n := let ⟨n, _, e⟩ := h; ⟨n, e⟩
theorem of_inFam_LGT_STATUS {a : Nat} (h : inFam 80 a) : ∃ n, a = LGT_STATUS n := let ⟨n, _, e⟩ := h; ⟨n, e⟩
theorem of_inFam_LGT_A_BUF {a : Nat} (h : inFam 81 a) : ∃ n, a = LGT_A_BUF n := let ⟨n, _, e⟩ := h; ⟨n, e⟩
theorem of_inFam_LGT_A_FAR_LO {a : Nat} (h : inFam 82 a) : ∃ n, a = LGT_A_FAR_LO n := let ⟨n, _, e⟩ := h; ⟨n, e⟩
theorem of_inFam_LGT_A_FAR_HI {a : Nat} (h : inFam 83 a) : ∃ n, a = LGT_A_FAR_HI n := let ⟨n, _, e⟩ := h; ⟨n, e⟩
theorem of_inFam_LGT_A_COUNT {a : Nat} (h : inFam 84 a) : ∃ n, a = LGT_A_COUNT n := let ⟨n, _, e⟩ := h; ⟨n, e⟩
theorem of_inFam_LGT_A_ATTR {a : Nat} (h : inFam 85 a) : ∃ n, a = LGT_A_ATTR n := let ⟨n, _, e⟩ := h; ⟨n, e⟩
theorem of_inFam_LGT_S_BUF {a : Nat} (h : inFam 86 a) : ∃ n, a = LGT_S_BUF n := let ⟨n, _, e⟩ := h; ⟨n, e⟩
theorem of_inFam_LGT_S_FAR_LO {a : Nat} (h : inFam 87 a) : ∃ n, a = LGT_S_FAR_LO n := let ⟨n, _, e⟩ := h; ⟨n, e⟩
theorem of_inFam_LGT_S_FAR_HI {a : Nat} (h : inFam 88 a) : ∃ n, a = LGT_S_FAR_HI n := let ⟨n, _, e⟩ := h; ⟨n, e⟩
theorem of_inFam_LGT_S_COUNT {a : Nat} (h : inFam 89 a) : ∃ n, a = LGT_S_COUNT n := let ⟨n, _, e⟩ := h; ⟨n, e⟩
theorem of_inFam_LGT_S_ATTR {a : Nat} (h : inFam 90 a) : ∃ n, a = LGT_S_ATTR n := let ⟨n, _, e⟩ := h; ⟨n, e⟩
theorem of_inFam_LGT_CFG {a : Nat} (h : inFam 91 a) : a = LGT_CFG := let ⟨_, _, e⟩ := h; e
theorem of_inFam_LGT_PACE_OWN {a : Nat} (h : inFam 92 a) : ∃ n, a = LGT_PACE_OWN n := let ⟨n, _, e⟩ := h; ⟨n, e⟩
theorem of_inFam_LGT_PEND {a : Nat} (h : inFam 93 a) : ∃ n, a = LGT_PEND n := let ⟨n, _, e⟩ := h; ⟨n, e⟩
theorem of_inFam_LGT_BUSY {a : Nat} (h : inFam 94 a) : ∃ n, a = LGT_BUSY n := let ⟨n, _, e⟩ := h; ⟨n, e⟩
theorem of_inFam_LGT_FENCED {a : Nat} (h : inFam 95 a) : ∃ n, a = LGT_FENCED n := let ⟨n, _, e⟩ := h; ⟨n, e⟩
theorem of_inFam_LGT_PREQ {a : Nat} (h : inFam 96 a) : a = LGT_PREQ := let ⟨_, _, e⟩ := h; e
theorem of_inFam_LGT_REC_CNT {a : Nat} (h : inFam 97 a) : a = LGT_REC_CNT := let ⟨_, _, e⟩ := h; e
theorem of_inFam_LGT_BYTE_CNT {a : Nat} (h : inFam 98 a) : a = LGT_BYTE_CNT := let ⟨_, _, e⟩ := h; e
theorem of_inFam_LGT_PREEMPT_CNT {a : Nat} (h : inFam 99 a) : a = LGT_PREEMPT_CNT := let ⟨_, _, e⟩ := h; e
theorem of_inFam_LGT_GSTATUS {a : Nat} (h : inFam 100 a) : a = LGT_GSTATUS := let ⟨_, _, e⟩ := h; e
theorem of_inFam_MEM_CTRL {a : Nat} (h : inFam 101 a) : a = MEM_CTRL := let ⟨_, _, e⟩ := h; e
theorem of_inFam_MEM_STATUS {a : Nat} (h : inFam 102 a) : a = MEM_STATUS := let ⟨_, _, e⟩ := h; e
theorem of_inFam_MEM_INT_EN {a : Nat} (h : inFam 103 a) : a = MEM_INT_EN := let ⟨_, _, e⟩ := h; e
theorem of_inFam_MEM_SCRUB_CFG {a : Nat} (h : inFam 104 a) : a = MEM_SCRUB_CFG := let ⟨_, _, e⟩ := h; e
theorem of_inFam_MEM_SCRUB_STAT {a : Nat} (h : inFam 105 a) : a = MEM_SCRUB_STAT := let ⟨_, _, e⟩ := h; e
theorem of_inFam_MEM_CACHE_RGN {a : Nat} (h : inFam 106 a) : a = MEM_CACHE_RGN := let ⟨_, _, e⟩ := h; e
theorem of_inFam_MEM_TABLE_RGN {a : Nat} (h : inFam 107 a) : a = MEM_TABLE_RGN := let ⟨_, _, e⟩ := h; e
theorem of_inFam_MEM_MAP_CFG {a : Nat} (h : inFam 108 a) : a = MEM_MAP_CFG := let ⟨_, _, e⟩ := h; e
theorem of_inFam_MEM_POOL_CFG {a : Nat} (h : inFam 109 a) : a = MEM_POOL_CFG := let ⟨_, _, e⟩ := h; e
theorem of_inFam_MEM_CARVE_STAT {a : Nat} (h : inFam 110 a) : a = MEM_CARVE_STAT := let ⟨_, _, e⟩ := h; e
theorem of_inFam_MEM_RETIRE_CMD {a : Nat} (h : inFam 111 a) : a = MEM_RETIRE_CMD := let ⟨_, _, e⟩ := h; e
theorem of_inFam_MEM_RETIRE_STAT {a : Nat} (h : inFam 112 a) : a = MEM_RETIRE_STAT := let ⟨_, _, e⟩ := h; e
theorem of_inFam_MEM_BANK_RETIRED {a : Nat} (h : inFam 113 a) : a = MEM_BANK_RETIRED := let ⟨_, _, e⟩ := h; e
theorem of_inFam_MEM_PAGE_CMD {a : Nat} (h : inFam 114 a) : a = MEM_PAGE_CMD := let ⟨_, _, e⟩ := h; e
theorem of_inFam_MEM_PAGE_RESP {a : Nat} (h : inFam 115 a) : a = MEM_PAGE_RESP := let ⟨_, _, e⟩ := h; e
theorem of_inFam_MEM_PSTATE_ADDR {a : Nat} (h : inFam 116 a) : a = MEM_PSTATE_ADDR := let ⟨_, _, e⟩ := h; e
theorem of_inFam_MEM_PSTATE_DATA {a : Nat} (h : inFam 117 a) : a = MEM_PSTATE_DATA := let ⟨_, _, e⟩ := h; e
theorem of_inFam_MEM_ELOG_DATA {a : Nat} (h : inFam 118 a) : ∃ n, a = MEM_ELOG_DATA n := let ⟨n, _, e⟩ := h; ⟨n, e⟩
theorem of_inFam_MEM_ELOG_CNT {a : Nat} (h : inFam 119 a) : a = MEM_ELOG_CNT := let ⟨_, _, e⟩ := h; e
theorem of_inFam_MEM_ERR_CNT {a : Nat} (h : inFam 120 a) : a = MEM_ERR_CNT := let ⟨_, _, e⟩ := h; e
theorem of_inFam_MEM_SCRUB_CNT {a : Nat} (h : inFam 121 a) : a = MEM_SCRUB_CNT := let ⟨_, _, e⟩ := h; e
theorem of_inFam_MEM_PLANE_STAT {a : Nat} (h : inFam 122 a) : a = MEM_PLANE_STAT := let ⟨_, _, e⟩ := h; e
theorem of_inFam_MEM_PLANE_CFG {a : Nat} (h : inFam 123 a) : a = MEM_PLANE_CFG := let ⟨_, _, e⟩ := h; e
theorem of_inFam_MEM_FREE {a : Nat} (h : inFam 124 a) : a = MEM_FREE := let ⟨_, _, e⟩ := h; e
theorem of_inFam_MEM_TRAIL_CFG {a : Nat} (h : inFam 125 a) : a = MEM_TRAIL_CFG := let ⟨_, _, e⟩ := h; e
theorem of_inFam_BCC_CTRL {a : Nat} (h : inFam 126 a) : a = BCC_CTRL := let ⟨_, _, e⟩ := h; e
theorem of_inFam_BCC_STATUS {a : Nat} (h : inFam 127 a) : a = BCC_STATUS := let ⟨_, _, e⟩ := h; e
theorem of_inFam_BCC_MAINT_ADDR_LO {a : Nat} (h : inFam 128 a) : a = BCC_MAINT_ADDR_LO := let ⟨_, _, e⟩ := h; e
theorem of_inFam_BCC_MAINT_ADDR_HI {a : Nat} (h : inFam 129 a) : a = BCC_MAINT_ADDR_HI := let ⟨_, _, e⟩ := h; e
theorem of_inFam_BCC_MAINT_CMD {a : Nat} (h : inFam 130 a) : a = BCC_MAINT_CMD := let ⟨_, _, e⟩ := h; e
theorem of_inFam_BCC_MAINT_LEN {a : Nat} (h : inFam 131 a) : a = BCC_MAINT_LEN := let ⟨_, _, e⟩ := h; e
theorem of_inFam_BCC_MAINT_RESP {a : Nat} (h : inFam 132 a) : a = BCC_MAINT_RESP := let ⟨_, _, e⟩ := h; e
theorem of_inFam_BCC_MAINT_RESP2 {a : Nat} (h : inFam 133 a) : a = BCC_MAINT_RESP2 := let ⟨_, _, e⟩ := h; e
theorem of_inFam_BCC_INT_EN {a : Nat} (h : inFam 134 a) : a = BCC_INT_EN := let ⟨_, _, e⟩ := h; e
theorem of_inFam_BCC_STREAM_MASK {a : Nat} (h : inFam 135 a) : a = BCC_STREAM_MASK := let ⟨_, _, e⟩ := h; e
theorem of_inFam_BCC_BAR2_BASE {a : Nat} (h : inFam 136 a) : a = BCC_BAR2_BASE := let ⟨_, _, e⟩ := h; e
theorem of_inFam_BCC_HIT_CNT {a : Nat} (h : inFam 137 a) : a = BCC_HIT_CNT := let ⟨_, _, e⟩ := h; e
theorem of_inFam_BCC_MISS_CNT {a : Nat} (h : inFam 138 a) : a = BCC_MISS_CNT := let ⟨_, _, e⟩ := h; e
theorem of_inFam_BCC_MERGE_CNT {a : Nat} (h : inFam 139 a) : a = BCC_MERGE_CNT := let ⟨_, _, e⟩ := h; e
theorem of_inFam_BCC_OCC {a : Nat} (h : inFam 140 a) : a = BCC_OCC := let ⟨_, _, e⟩ := h; e
theorem of_inFam_DDR_CFG {a : Nat} (h : inFam 141 a) : ∃ n, a = DDR_CFG n := let ⟨n, _, e⟩ := h; ⟨n, e⟩
theorem of_inFam_DDR_STATUS {a : Nat} (h : inFam 142 a) : ∃ n, a = DDR_STATUS n := let ⟨n, _, e⟩ := h; ⟨n, e⟩
theorem of_inFam_DDR_INT_EN {a : Nat} (h : inFam 143 a) : ∃ n, a = DDR_INT_EN n := let ⟨n, _, e⟩ := h; ⟨n, e⟩
theorem of_inFam_DDR_ERR_CNT {a : Nat} (h : inFam 144 a) : ∃ n, a = DDR_ERR_CNT n := let ⟨n, _, e⟩ := h; ⟨n, e⟩
theorem of_inFam_DDR_DEV_CNT_ADDR {a : Nat} (h : inFam 145 a) : ∃ n, a = DDR_DEV_CNT_ADDR n := let ⟨n, _, e⟩ := h; ⟨n, e⟩
theorem of_inFam_DDR_DEV_CNT {a : Nat} (h : inFam 146 a) : ∃ n, a = DDR_DEV_CNT n := let ⟨n, _, e⟩ := h; ⟨n, e⟩
theorem of_inFam_DDR_MAP_CFG {a : Nat} (h : inFam 147 a) : a = DDR_MAP_CFG := let ⟨_, _, e⟩ := h; e
theorem of_inFam_DDR_PATROL_CFG {a : Nat} (h : inFam 148 a) : a = DDR_PATROL_CFG := let ⟨_, _, e⟩ := h; e
theorem of_inFam_DDR_TRAIN_PTR {a : Nat} (h : inFam 149 a) : a = DDR_TRAIN_PTR := let ⟨_, _, e⟩ := h; e
theorem of_inFam_DDR_FENCE_CMD {a : Nat} (h : inFam 150 a) : a = DDR_FENCE_CMD := let ⟨_, _, e⟩ := h; e
theorem of_inFam_DDR_GSTATUS {a : Nat} (h : inFam 151 a) : a = DDR_GSTATUS := let ⟨_, _, e⟩ := h; e
theorem of_inFam_PCK_CTRL {a : Nat} (h : inFam 152 a) : ∃ n, a = PCK_CTRL n := let ⟨n, _, e⟩ := h; ⟨n, e⟩
theorem of_inFam_PCK_ISTATUS {a : Nat} (h : inFam 153 a) : ∃ n, a = PCK_ISTATUS n := let ⟨n, _, e⟩ := h; ⟨n, e⟩
theorem of_inFam_PCK_IN_CNT {a : Nat} (h : inFam 154 a) : ∃ n, a = PCK_IN_CNT n := let ⟨n, _, e⟩ := h; ⟨n, e⟩
theorem of_inFam_PCK_OUT_CNT {a : Nat} (h : inFam 155 a) : ∃ n, a = PCK_OUT_CNT n := let ⟨n, _, e⟩ := h; ⟨n, e⟩
theorem of_inFam_PCK_JOB_CNT {a : Nat} (h : inFam 156 a) : ∃ n, a = PCK_JOB_CNT n := let ⟨n, _, e⟩ := h; ⟨n, e⟩
theorem of_inFam_PCK_CFG {a : Nat} (h : inFam 157 a) : a = PCK_CFG := let ⟨_, _, e⟩ := h; e
theorem of_inFam_PCK_STATUS {a : Nat} (h : inFam 158 a) : a = PCK_STATUS := let ⟨_, _, e⟩ := h; e
theorem of_inFam_PCK_INT_EN {a : Nat} (h : inFam 159 a) : a = PCK_INT_EN := let ⟨_, _, e⟩ := h; e
theorem of_inFam_PCK_JOB {a : Nat} (h : inFam 160 a) : ∃ n, a = PCK_JOB n := let ⟨n, _, e⟩ := h; ⟨n, e⟩
theorem of_inFam_PCK_JOB_GO {a : Nat} (h : inFam 161 a) : a = PCK_JOB_GO := let ⟨_, _, e⟩ := h; e
theorem of_inFam_PCK_QUEUE {a : Nat} (h : inFam 162 a) : a = PCK_QUEUE := let ⟨_, _, e⟩ := h; e
theorem of_inFam_PCK_RES {a : Nat} (h : inFam 163 a) : ∃ n, a = PCK_RES n := let ⟨n, _, e⟩ := h; ⟨n, e⟩
theorem of_inFam_PCK_KEY_CMD {a : Nat} (h : inFam 164 a) : a = PCK_KEY_CMD := let ⟨_, _, e⟩ := h; e
theorem of_inFam_PCK_KEY_DATA {a : Nat} (h : inFam 165 a) : a = PCK_KEY_DATA := let ⟨_, _, e⟩ := h; e
theorem of_inFam_PCK_KEY_STAT {a : Nat} (h : inFam 166 a) : ∃ n, a = PCK_KEY_STAT n := let ⟨n, _, e⟩ := h; ⟨n, e⟩
theorem of_inFam_PCK_KEY_BUSY {a : Nat} (h : inFam 167 a) : ∃ n, a = PCK_KEY_BUSY n := let ⟨n, _, e⟩ := h; ⟨n, e⟩
theorem of_inFam_PCK_ERR_CNT {a : Nat} (h : inFam 168 a) : a = PCK_ERR_CNT := let ⟨_, _, e⟩ := h; e
theorem of_inFam_RCH_CTRL {a : Nat} (h : inFam 169 a) : ∃ n, a = RCH_CTRL n := let ⟨n, _, e⟩ := h; ⟨n, e⟩
theorem of_inFam_RCH_AFE_CFG {a : Nat} (h : inFam 170 a) : ∃ n, a = RCH_AFE_CFG n := let ⟨n, _, e⟩ := h; ⟨n, e⟩
theorem of_inFam_RCH_AGC_CFG {a : Nat} (h : inFam 171 a) : ∃ n, a = RCH_AGC_CFG n := let ⟨n, _, e⟩ := h; ⟨n, e⟩
theorem of_inFam_RCH_BLC_CFG {a : Nat} (h : inFam 172 a) : ∃ n, a = RCH_BLC_CFG n := let ⟨n, _, e⟩ := h; ⟨n, e⟩
theorem of_inFam_RCH_TA_CFG {a : Nat} (h : inFam 173 a) : ∃ n, a = RCH_TA_CFG n := let ⟨n, _, e⟩ := h; ⟨n, e⟩
theorem of_inFam_RCH_TR_CFG {a : Nat} (h : inFam 174 a) : ∃ n, a = RCH_TR_CFG n := let ⟨n, _, e⟩ := h; ⟨n, e⟩
theorem of_inFam_RCH_DET_CFG {a : Nat} (h : inFam 175 a) : ∃ n, a = RCH_DET_CFG n := let ⟨n, _, e⟩ := h; ⟨n, e⟩
theorem of_inFam_RCH_SYNC_CFG {a : Nat} (h : inFam 176 a) : ∃ n, a = RCH_SYNC_CFG n := let ⟨n, _, e⟩ := h; ⟨n, e⟩
theorem of_inFam_RCH_ADAPT_CFG {a : Nat} (h : inFam 177 a) : ∃ n, a = RCH_ADAPT_CFG n := let ⟨n, _, e⟩ := h; ⟨n, e⟩
theorem of_inFam_RCH_COEF_ADDR {a : Nat} (h : inFam 178 a) : ∃ n, a = RCH_COEF_ADDR n := let ⟨n, _, e⟩ := h; ⟨n, e⟩
theorem of_inFam_RCH_COEF_DATA {a : Nat} (h : inFam 179 a) : ∃ n, a = RCH_COEF_DATA n := let ⟨n, _, e⟩ := h; ⟨n, e⟩
theorem of_inFam_RCH_AGC_STAT {a : Nat} (h : inFam 180 a) : ∃ n, a = RCH_AGC_STAT n := let ⟨n, _, e⟩ := h; ⟨n, e⟩
theorem of_inFam_RCH_TR_STAT {a : Nat} (h : inFam 181 a) : ∃ n, a = RCH_TR_STAT n := let ⟨n, _, e⟩ := h; ⟨n, e⟩
theorem of_inFam_RCH_SYNC_STAT {a : Nat} (h : inFam 182 a) : ∃ n, a = RCH_SYNC_STAT n := let ⟨n, _, e⟩ := h; ⟨n, e⟩
theorem of_inFam_RCH_QUAL {a : Nat} (h : inFam 183 a) : ∃ n, a = RCH_QUAL n := let ⟨n, _, e⟩ := h; ⟨n, e⟩
theorem of_inFam_RCH_HEALTH_A {a : Nat} (h : inFam 184 a) : ∃ n, a = RCH_HEALTH_A n := let ⟨n, _, e⟩ := h; ⟨n, e⟩
theorem of_inFam_RCH_HEALTH_B {a : Nat} (h : inFam 185 a) : ∃ n, a = RCH_HEALTH_B n := let ⟨n, _, e⟩ := h; ⟨n, e⟩
theorem of_inFam_RCH_STATUS {a : Nat} (h : inFam 186 a) : ∃ n, a = RCH_STATUS n := let ⟨n, _, e⟩ := h; ⟨n, e⟩
theorem of_inFam_RCH_INT_EN {a : Nat} (h : inFam 187 a) : ∃ n, a = RCH_INT_EN n := let ⟨n, _, e⟩ := h; ⟨n, e⟩
theorem of_inFam_RCH_SECT_CNT {a : Nat} (h : inFam 188 a) : ∃ n, a = RCH_SECT_CNT n := let ⟨n, _, e⟩ := h; ⟨n, e⟩
theorem of_inFam_RCH_SYNC_CNT {a : Nat} (h : inFam 189 a) : ∃ n, a = RCH_SYNC_CNT n := let ⟨n, _, e⟩ := h; ⟨n, e⟩
theorem of_inFam_RCH_EVT_CNT {a : Nat} (h : inFam 190 a) : ∃ n, a = RCH_EVT_CNT n := let ⟨n, _, e⟩ := h; ⟨n, e⟩
theorem of_inFam_RCH_RET_PTR {a : Nat} (h : inFam 191 a) : ∃ n, a = RCH_RET_PTR n := let ⟨n, _, e⟩ := h; ⟨n, e⟩
theorem of_inFam_RCH_MAP {a : Nat} (h : inFam 192 a) : ∃ n, a = RCH_MAP n := let ⟨n, _, e⟩ := h; ⟨n, e⟩
theorem of_inFam_RCH_PRIMARY_LO {a : Nat} (h : inFam 193 a) : a = RCH_PRIMARY_LO := let ⟨_, _, e⟩ := h; e
theorem of_inFam_RCH_PRIMARY_HI {a : Nat} (h : inFam 194 a) : a = RCH_PRIMARY_HI := let ⟨_, _, e⟩ := h; e
theorem of_inFam_RCH_RESCUE_LO {a : Nat} (h : inFam 195 a) : a = RCH_RESCUE_LO := let ⟨_, _, e⟩ := h; e
theorem of_inFam_RCH_RESCUE_HI {a : Nat} (h : inFam 196 a) : a = RCH_RESCUE_HI := let ⟨_, _, e⟩ := h; e
theorem of_inFam_RCH_FRAG_LO {a : Nat} (h : inFam 197 a) : a = RCH_FRAG_LO := let ⟨_, _, e⟩ := h; e
theorem of_inFam_RCH_FRAG_HI {a : Nat} (h : inFam 198 a) : a = RCH_FRAG_HI := let ⟨_, _, e⟩ := h; e
theorem of_inFam_RCH_RET_CFG {a : Nat} (h : inFam 199 a) : a = RCH_RET_CFG := let ⟨_, _, e⟩ := h; e
theorem of_inFam_RCH_RET_BASE {a : Nat} (h : inFam 200 a) : a = RCH_RET_BASE := let ⟨_, _, e⟩ := h; e
theorem of_inFam_RCH_RET_STAT {a : Nat} (h : inFam 201 a) : a = RCH_RET_STAT := let ⟨_, _, e⟩ := h; e
theorem of_inFam_RCH_SPARE_MAP {a : Nat} (h : inFam 202 a) : a = RCH_SPARE_MAP := let ⟨_, _, e⟩ := h; e
theorem of_inFam_RCH_SPARE_CMD {a : Nat} (h : inFam 203 a) : a = RCH_SPARE_CMD := let ⟨_, _, e⟩ := h; e
theorem of_inFam_RCH_RATE_ADDR {a : Nat} (h : inFam 204 a) : a = RCH_RATE_ADDR := let ⟨_, _, e⟩ := h; e
theorem of_inFam_RCH_RATE_DATA {a : Nat} (h : inFam 205 a) : a = RCH_RATE_DATA := let ⟨_, _, e⟩ := h; e
theorem of_inFam_RCH_SEL_CNT {a : Nat} (h : inFam 206 a) : a = RCH_SEL_CNT := let ⟨_, _, e⟩ := h; e
theorem of_inFam_RCH_GSTATUS {a : Nat} (h : inFam 207 a) : a = RCH_GSTATUS := let ⟨_, _, e⟩ := h; e
theorem of_inFam_RCH_PRESENT {a : Nat} (h : inFam 208 a) : a = RCH_PRESENT := let ⟨_, _, e⟩ := h; e
theorem of_inFam_DEC_CTRL {a : Nat} (h : inFam 209 a) : ∃ n, a = DEC_CTRL n := let ⟨n, _, e⟩ := h; ⟨n, e⟩
theorem of_inFam_DEC_ESTATUS {a : Nat} (h : inFam 210 a) : ∃ n, a = DEC_ESTATUS n := let ⟨n, _, e⟩ := h; ⟨n, e⟩
theorem of_inFam_DEC_ITER_CNT {a : Nat} (h : inFam 211 a) : ∃ n, a = DEC_ITER_CNT n := let ⟨n, _, e⟩ := h; ⟨n, e⟩
theorem of_inFam_DEC_SECT_CNT {a : Nat} (h : inFam 212 a) : ∃ n, a = DEC_SECT_CNT n := let ⟨n, _, e⟩ := h; ⟨n, e⟩
theorem of_inFam_DEC_CFG {a : Nat} (h : inFam 213 a) : a = DEC_CFG := let ⟨_, _, e⟩ := h; e
theorem of_inFam_DEC_RETRY_CFG {a : Nat} (h : inFam 214 a) : a = DEC_RETRY_CFG := let ⟨_, _, e⟩ := h; e
theorem of_inFam_DEC_STATUS {a : Nat} (h : inFam 215 a) : a = DEC_STATUS := let ⟨_, _, e⟩ := h; e
theorem of_inFam_DEC_INT_EN {a : Nat} (h : inFam 216 a) : a = DEC_INT_EN := let ⟨_, _, e⟩ := h; e
theorem of_inFam_DEC_BUDGET_STAT {a : Nat} (h : inFam 217 a) : a = DEC_BUDGET_STAT := let ⟨_, _, e⟩ := h; e
theorem of_inFam_DEC_DEEP_STAT {a : Nat} (h : inFam 218 a) : a = DEC_DEEP_STAT := let ⟨_, _, e⟩ := h; e
theorem of_inFam_DEC_IN_SERVICE {a : Nat} (h : inFam 219 a) : a = DEC_IN_SERVICE := let ⟨_, _, e⟩ := h; e
theorem of_inFam_DEC_IN_SERVICE_DEEP {a : Nat} (h : inFam 220 a) : a = DEC_IN_SERVICE_DEEP := let ⟨_, _, e⟩ := h; e
theorem of_inFam_DEC_CONV_CNT {a : Nat} (h : inFam 221 a) : a = DEC_CONV_CNT := let ⟨_, _, e⟩ := h; e
theorem of_inFam_DEC_ALIGN_CNT {a : Nat} (h : inFam 222 a) : a = DEC_ALIGN_CNT := let ⟨_, _, e⟩ := h; e
theorem of_inFam_DEC_DEEP_CNT {a : Nat} (h : inFam 223 a) : a = DEC_DEEP_CNT := let ⟨_, _, e⟩ := h; e
theorem of_inFam_DEC_REREAD_CNT {a : Nat} (h : inFam 224 a) : a = DEC_REREAD_CNT := let ⟨_, _, e⟩ := h; e
theorem of_inFam_DEC_ERR_CNT {a : Nat} (h : inFam 225 a) : a = DEC_ERR_CNT := let ⟨_, _, e⟩ := h; e
theorem of_inFam_DEC_TRACE_CTRL {a : Nat} (h : inFam 226 a) : a = DEC_TRACE_CTRL := let ⟨_, _, e⟩ := h; e
theorem of_inFam_DEC_TRACE_DATA {a : Nat} (h : inFam 227 a) : ∃ n, a = DEC_TRACE_DATA n := let ⟨n, _, e⟩ := h; ⟨n, e⟩
theorem of_inFam_WRP_CTRL {a : Nat} (h : inFam 228 a) : ∃ n, a = WRP_CTRL n := let ⟨n, _, e⟩ := h; ⟨n, e⟩
theorem of_inFam_WRP_WC_CFG {a : Nat} (h : inFam 229 a) : ∃ n, a = WRP_WC_CFG n := let ⟨n, _, e⟩ := h; ⟨n, e⟩
theorem of_inFam_WRP_HTR_CFG {a : Nat} (h : inFam 230 a) : ∃ n, a = WRP_HTR_CFG n := let ⟨n, _, e⟩ := h; ⟨n, e⟩
theorem of_inFam_WRP_PRECOMP {a : Nat} (h : inFam 231 a) : ∃ n, a = WRP_PRECOMP n := let ⟨n, _, e⟩ := h; ⟨n, e⟩
theorem of_inFam_WRP_STATUS {a : Nat} (h : inFam 232 a) : ∃ n, a = WRP_STATUS n := let ⟨n, _, e⟩ := h; ⟨n, e⟩
theorem of_inFam_WRP_EVT_CNT {a : Nat} (h : inFam 233 a) : ∃ n, a = WRP_EVT_CNT n := let ⟨n, _, e⟩ := h; ⟨n, e⟩
theorem of_inFam_WRP_PA_CMD {a : Nat} (h : inFam 234 a) : ∃ n, a = WRP_PA_CMD n := let ⟨n, _, e⟩ := h; ⟨n, e⟩
theorem of_inFam_WRP_PA_RESP {a : Nat} (h : inFam 235 a) : ∃ n, a = WRP_PA_RESP n := let ⟨n, _, e⟩ := h; ⟨n, e⟩
theorem of_inFam_SEQ_CTRL {a : Nat} (h : inFam 236 a) : ∃ n, a = SEQ_CTRL n := let ⟨n, _, e⟩ := h; ⟨n, e⟩
theorem of_inFam_SEQ_STATUS {a : Nat} (h : inFam 237 a) : ∃ n, a = SEQ_STATUS n := let ⟨n, _, e⟩ := h; ⟨n, e⟩
theorem of_inFam_SEQ_INT_EN {a : Nat} (h : inFam 238 a) : ∃ n, a = SEQ_INT_EN n := let ⟨n, _, e⟩ := h; ⟨n, e⟩
theorem of_inFam_SEQ_PC {a : Nat} (h : inFam 239 a) : ∃ n, a = SEQ_PC n := let ⟨n, _, e⟩ := h; ⟨n, e⟩
theorem of_inFam_SEQ_ENTRY {a : Nat} (h : inFam 240 a) : ∃ n, a = SEQ_ENTRY n := let ⟨n, _, e⟩ := h; ⟨n, e⟩
theorem of_inFam_SEQ_HOOK_BUDGET {a : Nat} (h : inFam 241 a) : ∃ n, a = SEQ_HOOK_BUDGET n := let ⟨n, _, e⟩ := h; ⟨n, e⟩
theorem of_inFam_SEQ_SIGNAL {a : Nat} (h : inFam 242 a) : ∃ n, a = SEQ_SIGNAL n := let ⟨n, _, e⟩ := h; ⟨n, e⟩
theorem of_inFam_SEQ_WINDOW {a : Nat} (h : inFam 243 a) : ∃ n, a = SEQ_WINDOW n := let ⟨n, _, e⟩ := h; ⟨n, e⟩
theorem of_inFam_SEQ_V {a : Nat} (h : inFam 244 a) : ∃ n m, a = SEQ_V n m := let ⟨n, m, e⟩ := h; ⟨n, m, e⟩
theorem of_inFam_SEQ_LC_SP {a : Nat} (h : inFam 245 a) : ∃ n, a = SEQ_LC_SP n := let ⟨n, _, e⟩ := h; ⟨n, e⟩
theorem of_inFam_SEQ_EVT_CNT {a : Nat} (h : inFam 246 a) : ∃ n, a = SEQ_EVT_CNT n := let ⟨n, _, e⟩ := h; ⟨n, e⟩
theorem of_inFam_SEQ_FORMAT {a : Nat} (h : inFam 247 a) : ∃ n, a = SEQ_FORMAT n := let ⟨n, _, e⟩ := h; ⟨n, e⟩
theorem of_inFam_SEQ_ENDS {a : Nat} (h : inFam 248 a) : ∃ n, a = SEQ_ENDS n := let ⟨n, _, e⟩ := h; ⟨n, e⟩
theorem of_inFam_SEQ_LOCK {a : Nat} (h : inFam 249 a) : a = SEQ_LOCK := let ⟨_, _, e⟩ := h; e
theorem of_inFam_SEQ_LOAD_STAT {a : Nat} (h : inFam 250 a) : a = SEQ_LOAD_STAT := let ⟨_, _, e⟩ := h; e
theorem of_inFam_SEQ_STORE_ADDR {a : Nat} (h : inFam 251 a) : a = SEQ_STORE_ADDR := let ⟨_, _, e⟩ := h; e
theorem of_inFam_SEQ_STORE_DATA {a : Nat} (h : inFam 252 a) : ∃ n, a = SEQ_STORE_DATA n := let ⟨n, _, e⟩ := h; ⟨n, e⟩
theorem of_inFam_SEQ_STORE_ERR {a : Nat} (h : inFam 253 a) : a = SEQ_STORE_ERR := let ⟨_, _, e⟩ := h; e
theorem of_inFam_SEQ_PATCH_LEVEL {a : Nat} (h : inFam 254 a) : a = SEQ_PATCH_LEVEL := let ⟨_, _, e⟩ := h; e
theorem of_inFam_SEQ_CUST_ID {a : Nat} (h : inFam 255 a) : a = SEQ_CUST_ID := let ⟨_, _, e⟩ := h; e
theorem of_inFam_SEQ_GSTATUS {a : Nat} (h : inFam 256 a) : a = SEQ_GSTATUS := let ⟨_, _, e⟩ := h; e
theorem of_inFam_SEQ_GINT_EN {a : Nat} (h : inFam 257 a) : a = SEQ_GINT_EN := let ⟨_, _, e⟩ := h; e
theorem of_inFam_SEQ_FLUSH {a : Nat} (h : inFam 258 a) : a = SEQ_FLUSH := let ⟨_, _, e⟩ := h; e
theorem of_inFam_SEQ_BASE_VER {a : Nat} (h : inFam 259 a) : a = SEQ_BASE_VER := let ⟨_, _, e⟩ := h; e
theorem of_inFam_SEQ_HOOK_MAP {a : Nat} (h : inFam 260 a) : a = SEQ_HOOK_MAP := let ⟨_, _, e⟩ := h; e
theorem of_inFam_SEQ_PRESENT {a : Nat} (h : inFam 261 a) : a = SEQ_PRESENT := let ⟨_, _, e⟩ := h; e
theorem of_inFam_SRV_CFG {a : Nat} (h : inFam 262 a) : ∃ n, a = SRV_CFG n := let ⟨n, _, e⟩ := h; ⟨n, e⟩
theorem of_inFam_SRV_STATUS {a : Nat} (h : inFam 263 a) : ∃ n, a = SRV_STATUS n := let ⟨n, _, e⟩ := h; ⟨n, e⟩
theorem of_inFam_SRV_PE {a : Nat} (h : inFam 264 a) : ∃ n, a = SRV_PE n := let ⟨n, _, e⟩ := h; ⟨n, e⟩
theorem of_inFam_SRV_ID {a : Nat} (h : inFam 265 a) : ∃ n, a = SRV_ID n := let ⟨n, _, e⟩ := h; ⟨n, e⟩
theorem of_inFam_SRV_SKEW {a : Nat} (h : inFam 266 a) : ∃ n, a = SRV_SKEW n := let ⟨n, _, e⟩ := h; ⟨n, e⟩
theorem of_inFam_SRV_CNT {a : Nat} (h : inFam 267 a) : ∃ n, a = SRV_CNT n := let ⟨n, _, e⟩ := h; ⟨n, e⟩
theorem of_inFam_SRV_CTRL {a : Nat} (h : inFam 268 a) : a = SRV_CTRL := let ⟨_, _, e⟩ := h; e
theorem of_inFam_SRV_SAM_PAT {a : Nat} (h : inFam 269 a) : a = SRV_SAM_PAT := let ⟨_, _, e⟩ := h; e
theorem of_inFam_SRV_WIN_CFG {a : Nat} (h : inFam 270 a) : a = SRV_WIN_CFG := let ⟨_, _, e⟩ := h; e
theorem of_inFam_SRV_LOSS_CFG {a : Nat} (h : inFam 271 a) : a = SRV_LOSS_CFG := let ⟨_, _, e⟩ := h; e
theorem of_inFam_SRV_AMP_CFG {a : Nat} (h : inFam 272 a) : a = SRV_AMP_CFG := let ⟨_, _, e⟩ := h; e
theorem of_inFam_SRV_BT_CFG {a : Nat} (h : inFam 273 a) : a = SRV_BT_CFG := let ⟨_, _, e⟩ := h; e
theorem of_inFam_SRV_TREF {a : Nat} (h : inFam 274 a) : a = SRV_TREF := let ⟨_, _, e⟩ := h; e
theorem of_inFam_SRV_BELL_LO {a : Nat} (h : inFam 275 a) : a = SRV_BELL_LO := let ⟨_, _, e⟩ := h; e
theorem of_inFam_SRV_BELL_HI {a : Nat} (h : inFam 276 a) : a = SRV_BELL_HI := let ⟨_, _, e⟩ := h; e
theorem of_inFam_SRV_PERIOD {a : Nat} (h : inFam 277 a) : a = SRV_PERIOD := let ⟨_, _, e⟩ := h; e
theorem of_inFam_SRV_WEDGE {a : Nat} (h : inFam 278 a) : a = SRV_WEDGE := let ⟨_, _, e⟩ := h; e
theorem of_inFam_SRV_GSTATUS {a : Nat} (h : inFam 279 a) : a = SRV_GSTATUS := let ⟨_, _, e⟩ := h; e
theorem of_inFam_SRV_INT_EN {a : Nat} (h : inFam 280 a) : a = SRV_INT_EN := let ⟨_, _, e⟩ := h; e
theorem of_inFam_SRV_LOADED {a : Nat} (h : inFam 281 a) : a = SRV_LOADED := let ⟨_, _, e⟩ := h; e
theorem of_inFam_SRV_LOST {a : Nat} (h : inFam 282 a) : a = SRV_LOST := let ⟨_, _, e⟩ := h; e
theorem of_inFam_SRV_PRESENT {a : Nat} (h : inFam 283 a) : a = SRV_PRESENT := let ⟨_, _, e⟩ := h; e
theorem of_inFam_CTL_CFG {a : Nat} (h : inFam 284 a) : ∃ n, a = CTL_CFG n := let ⟨n, _, e⟩ := h; ⟨n, e⟩
theorem of_inFam_CTL_CMD {a : Nat} (h : inFam 285 a) : ∃ n, a = CTL_CMD n := let ⟨n, _, e⟩ := h; ⟨n, e⟩
theorem of_inFam_CTL_STATUS {a : Nat} (h : inFam 286 a) : ∃ n, a = CTL_STATUS n := let ⟨n, _, e⟩ := h; ⟨n, e⟩
theorem of_inFam_CTL_OSC_CFG {a : Nat} (h : inFam 287 a) : ∃ n, a = CTL_OSC_CFG n := let ⟨n, _, e⟩ := h; ⟨n, e⟩
theorem of_inFam_CTL_OSC_THRESH {a : Nat} (h : inFam 288 a) : ∃ n, a = CTL_OSC_THRESH n := let ⟨n, _, e⟩ := h; ⟨n, e⟩
theorem of_inFam_CTL_OUT {a : Nat} (h : inFam 289 a) : ∃ n, a = CTL_OUT n := let ⟨n, _, e⟩ := h; ⟨n, e⟩
theorem of_inFam_CTL_ERR {a : Nat} (h : inFam 290 a) : ∃ n, a = CTL_ERR n := let ⟨n, _, e⟩ := h; ⟨n, e⟩
theorem of_inFam_CTL_ENERGY {a : Nat} (h : inFam 291 a) : ∃ n, a = CTL_ENERGY n := let ⟨n, _, e⟩ := h; ⟨n, e⟩
theorem of_inFam_CTL_CENTRE {a : Nat} (h : inFam 292 a) : ∃ n, a = CTL_CENTRE n := let ⟨n, _, e⟩ := h; ⟨n, e⟩
theorem of_inFam_CTL_XDISP {a : Nat} (h : inFam 293 a) : ∃ n, a = CTL_XDISP n := let ⟨n, _, e⟩ := h; ⟨n, e⟩
theorem of_inFam_CTL_CNT {a : Nat} (h : inFam 294 a) : ∃ n, a = CTL_CNT n := let ⟨n, _, e⟩ := h; ⟨n, e⟩
theorem of_inFam_CTL_CTRL {a : Nat} (h : inFam 295 a) : a = CTL_CTRL := let ⟨_, _, e⟩ := h; e
theorem of_inFam_CTL_GSTATUS {a : Nat} (h : inFam 296 a) : a = CTL_GSTATUS := let ⟨_, _, e⟩ := h; e
theorem of_inFam_CTL_INT_EN {a : Nat} (h : inFam 297 a) : a = CTL_INT_EN := let ⟨_, _, e⟩ := h; e
theorem of_inFam_CTL_LANE_STAT {a : Nat} (h : inFam 298 a) : a = CTL_LANE_STAT := let ⟨_, _, e⟩ := h; e
theorem of_inFam_CTL_LANE_CNT {a : Nat} (h : inFam 299 a) : a = CTL_LANE_CNT := let ⟨_, _, e⟩ := h; e
theorem of_inFam_CTL_COEF_ADDR {a : Nat} (h : inFam 300 a) : a = CTL_COEF_ADDR := let ⟨_, _, e⟩ := h; e
theorem of_inFam_CTL_COEF_LO {a : Nat} (h : inFam 301 a) : a = CTL_COEF_LO := let ⟨_, _, e⟩ := h; e
theorem of_inFam_CTL_COEF_HI {a : Nat} (h : inFam 302 a) : a = CTL_COEF_HI := let ⟨_, _, e⟩ := h; e
theorem of_inFam_CTL_SETTLE_CFG {a : Nat} (h : inFam 303 a) : a = CTL_SETTLE_CFG := let ⟨_, _, e⟩ := h; e
theorem of_inFam_CTL_HO_CFG {a : Nat} (h : inFam 304 a) : a = CTL_HO_CFG := let ⟨_, _, e⟩ := h; e
theorem of_inFam_CTL_SLOT_STAT {a : Nat} (h : inFam 305 a) : a = CTL_SLOT_STAT := let ⟨_, _, e⟩ := h; e
theorem of_inFam_PROF_TARGET {a : Nat} (h : inFam 306 a) : ∃ n, a = PROF_TARGET n := let ⟨n, _, e⟩ := h; ⟨n, e⟩
theorem of_inFam_PROF_CMD {a : Nat} (h : inFam 307 a) : ∃ n, a = PROF_CMD n := let ⟨n, _, e⟩ := h; ⟨n, e⟩
theorem of_inFam_PROF_STAT {a : Nat} (h : inFam 308 a) : ∃ n, a = PROF_STAT n := let ⟨n, _, e⟩ := h; ⟨n, e⟩
theorem of_inFam_PROF_POS {a : Nat} (h : inFam 309 a) : ∃ n, a = PROF_POS n := let ⟨n, _, e⟩ := h; ⟨n, e⟩
theorem of_inFam_MOT_VCM_CFG {a : Nat} (h : inFam 310 a) : ∃ n, a = MOT_VCM_CFG n := let ⟨n, _, e⟩ := h; ⟨n, e⟩
theorem of_inFam_MOT_VCM_MOVE {a : Nat} (h : inFam 311 a) : ∃ n, a = MOT_VCM_MOVE n := let ⟨n, _, e⟩ := h; ⟨n, e⟩
theorem of_inFam_MOT_VCM_TEST {a : Nat} (h : inFam 312 a) : ∃ n, a = MOT_VCM_TEST n := let ⟨n, _, e⟩ := h; ⟨n, e⟩
theorem of_inFam_MOT_CMD {a : Nat} (h : inFam 313 a) : ∃ n, a = MOT_CMD n := let ⟨n, _, e⟩ := h; ⟨n, e⟩
theorem of_inFam_MOT_ASTATUS {a : Nat} (h : inFam 314 a) : ∃ n, a = MOT_ASTATUS n := let ⟨n, _, e⟩ := h; ⟨n, e⟩
theorem of_inFam_MOT_MEAS {a : Nat} (h : inFam 315 a) : ∃ n, a = MOT_MEAS n := let ⟨n, _, e⟩ := h; ⟨n, e⟩
theorem of_inFam_MOT_CTRL {a : Nat} (h : inFam 316 a) : a = MOT_CTRL := let ⟨_, _, e⟩ := h; e
theorem of_inFam_MOT_SP_CMD {a : Nat} (h : inFam 317 a) : a = MOT_SP_CMD := let ⟨_, _, e⟩ := h; e
theorem of_inFam_MOT_SP_STAT {a : Nat} (h : inFam 318 a) : a = MOT_SP_STAT := let ⟨_, _, e⟩ := h; e
theorem of_inFam_MOT_SPEED {a : Nat} (h : inFam 319 a) : a = MOT_SPEED := let ⟨_, _, e⟩ := h; e
theorem of_inFam_MOT_SP_CFG {a : Nat} (h : inFam 320 a) : a = MOT_SP_CFG := let ⟨_, _, e⟩ := h; e
theorem of_inFam_MOT_START_CFG {a : Nat} (h : inFam 321 a) : a = MOT_START_CFG := let ⟨_, _, e⟩ := h; e
theorem of_inFam_MOT_SENSE_CFG {a : Nat} (h : inFam 322 a) : a = MOT_SENSE_CFG := let ⟨_, _, e⟩ := h; e
theorem of_inFam_MOT_FOC_CFG {a : Nat} (h : inFam 323 a) : a = MOT_FOC_CFG := let ⟨_, _, e⟩ := h; e
theorem of_inFam_MOT_PWM_CFG {a : Nat} (h : inFam 324 a) : a = MOT_PWM_CFG := let ⟨_, _, e⟩ := h; e
theorem of_inFam_MOT_BUS_CFG {a : Nat} (h : inFam 325 a) : a = MOT_BUS_CFG := let ⟨_, _, e⟩ := h; e
theorem of_inFam_MOT_RT_CFG {a : Nat} (h : inFam 326 a) : a = MOT_RT_CFG := let ⟨_, _, e⟩ := h; e
theorem of_inFam_MOT_ENC_OFS {a : Nat} (h : inFam 327 a) : a = MOT_ENC_OFS := let ⟨_, _, e⟩ := h; e
theorem of_inFam_MOT_BUS {a : Nat} (h : inFam 328 a) : a = MOT_BUS := let ⟨_, _, e⟩ := h; e
theorem of_inFam_MOT_STATUS {a : Nat} (h : inFam 329 a) : a = MOT_STATUS := let ⟨_, _, e⟩ := h; e
theorem of_inFam_MOT_INT_EN {a : Nat} (h : inFam 330 a) : a = MOT_INT_EN := let ⟨_, _, e⟩ := h; e
theorem of_inFam_MOT_PWM_STAT {a : Nat} (h : inFam 331 a) : a = MOT_PWM_STAT := let ⟨_, _, e⟩ := h; e
theorem of_inFam_MOT_MA_FAULT {a : Nat} (h : inFam 332 a) : a = MOT_MA_FAULT := let ⟨_, _, e⟩ := h; e
theorem of_inFam_MOT_RET_WORD {a : Nat} (h : inFam 333 a) : ∃ n, a = MOT_RET_WORD n := let ⟨n, _, e⟩ := h; ⟨n, e⟩
theorem of_inFam_MOT_BEAT {a : Nat} (h : inFam 334 a) : a = MOT_BEAT := let ⟨_, _, e⟩ := h; e
theorem of_inFam_MOT_CNT {a : Nat} (h : inFam 335 a) : a = MOT_CNT := let ⟨_, _, e⟩ := h; e
theorem of_inFam_MOT_RT_STAT {a : Nat} (h : inFam 336 a) : a = MOT_RT_STAT := let ⟨_, _, e⟩ := h; e
theorem of_inFam_MOT_AUX_CFG {a : Nat} (h : inFam 337 a) : a = MOT_AUX_CFG := let ⟨_, _, e⟩ := h; e
theorem of_inFam_MOT_ADC {a : Nat} (h : inFam 338 a) : ∃ n, a = MOT_ADC n := let ⟨n, _, e⟩ := h; ⟨n, e⟩
theorem of_inFam_QFB_PCTRL {a : Nat} (h : inFam 339 a) : ∃ n, a = QFB_PCTRL n := let ⟨n, _, e⟩ := h; ⟨n, e⟩
theorem of_inFam_QFB_PSTATUS {a : Nat} (h : inFam 340 a) : ∃ n, a = QFB_PSTATUS n := let ⟨n, _, e⟩ := h; ⟨n, e⟩
theorem of_inFam_QFB_CREDIT_CFG {a : Nat} (h : inFam 341 a) : ∃ n, a = QFB_CREDIT_CFG n := let ⟨n, _, e⟩ := h; ⟨n, e⟩
theorem of_inFam_QFB_PEER {a : Nat} (h : inFam 342 a) : ∃ n, a = QFB_PEER n := let ⟨n, _, e⟩ := h; ⟨n, e⟩
theorem of_inFam_QFB_PEER_SN_LO {a : Nat} (h : inFam 343 a) : ∃ n, a = QFB_PEER_SN_LO n := let ⟨n, _, e⟩ := h; ⟨n, e⟩
theorem of_inFam_QFB_PEER_SN_HI {a : Nat} (h : inFam 344 a) : ∃ n, a = QFB_PEER_SN_HI n := let ⟨n, _, e⟩ := h; ⟨n, e⟩
theorem of_inFam_QFB_PINT_EN {a : Nat} (h : inFam 345 a) : ∃ n, a = QFB_PINT_EN n := let ⟨n, _, e⟩ := h; ⟨n, e⟩
theorem of_inFam_QFB_PCNT {a : Nat} (h : inFam 346 a) : ∃ n, a = QFB_PCNT n := let ⟨n, _, e⟩ := h; ⟨n, e⟩
theorem of_inFam_QFB_CFG {a : Nat} (h : inFam 347 a) : a = QFB_CFG := let ⟨_, _, e⟩ := h; e
theorem of_inFam_QFB_TIMER_CFG {a : Nat} (h : inFam 348 a) : a = QFB_TIMER_CFG := let ⟨_, _, e⟩ := h; e
theorem of_inFam_QFB_XFER_CFG {a : Nat} (h : inFam 349 a) : a = QFB_XFER_CFG := let ⟨_, _, e⟩ := h; e
theorem of_inFam_QFB_ARB_CFG {a : Nat} (h : inFam 350 a) : a = QFB_ARB_CFG := let ⟨_, _, e⟩ := h; e
theorem of_inFam_QFB_ADDR {a : Nat} (h : inFam 351 a) : a = QFB_ADDR := let ⟨_, _, e⟩ := h; e
theorem of_inFam_QFB_STATUS {a : Nat} (h : inFam 352 a) : a = QFB_STATUS := let ⟨_, _, e⟩ := h; e
theorem of_inFam_QFB_INT_EN {a : Nat} (h : inFam 353 a) : a = QFB_INT_EN := let ⟨_, _, e⟩ := h; e
theorem of_inFam_QFB_REACH {a : Nat} (h : inFam 354 a) : a = QFB_REACH := let ⟨_, _, e⟩ := h; e
theorem of_inFam_QFB_ROUTE_ADDR {a : Nat} (h : inFam 355 a) : a = QFB_ROUTE_ADDR := let ⟨_, _, e⟩ := h; e
theorem of_inFam_QFB_ROUTE_DATA {a : Nat} (h : inFam 356 a) : a = QFB_ROUTE_DATA := let ⟨_, _, e⟩ := h; e
theorem of_inFam_QFB_XFER_STAT {a : Nat} (h : inFam 357 a) : a = QFB_XFER_STAT := let ⟨_, _, e⟩ := h; e
theorem of_inFam_QFB_CNT {a : Nat} (h : inFam 358 a) : a = QFB_CNT := let ⟨_, _, e⟩ := h; e
theorem of_inFam_QFB_ALLOW {a : Nat} (h : inFam 359 a) : ∃ n, a = QFB_ALLOW n := let ⟨n, _, e⟩ := h; ⟨n, e⟩
theorem of_inFam_QFB_WIN_BASE {a : Nat} (h : inFam 360 a) : ∃ n, a = QFB_WIN_BASE n := let ⟨n, _, e⟩ := h; ⟨n, e⟩
theorem of_inFam_QFB_WIN_CFG {a : Nat} (h : inFam 361 a) : ∃ n, a = QFB_WIN_CFG n := let ⟨n, _, e⟩ := h; ⟨n, e⟩
theorem of_inFam_WCH_CTRL {a : Nat} (h : inFam 362 a) : a = WCH_CTRL := let ⟨_, _, e⟩ := h; e
theorem of_inFam_WCH_FN_CTRL {a : Nat} (h : inFam 363 a) : a = WCH_FN_CTRL := let ⟨_, _, e⟩ := h; e
theorem of_inFam_WCH_STATUS {a : Nat} (h : inFam 364 a) : a = WCH_STATUS := let ⟨_, _, e⟩ := h; e
theorem of_inFam_WCH_INT_EN {a : Nat} (h : inFam 365 a) : a = WCH_INT_EN := let ⟨_, _, e⟩ := h; e
theorem of_inFam_WCH_SRC_SEL {a : Nat} (h : inFam 366 a) : a = WCH_SRC_SEL := let ⟨_, _, e⟩ := h; e
theorem of_inFam_WCH_SRC_CFG {a : Nat} (h : inFam 367 a) : a = WCH_SRC_CFG := let ⟨_, _, e⟩ := h; e
theorem of_inFam_WCH_SRC_STAT {a : Nat} (h : inFam 368 a) : a = WCH_SRC_STAT := let ⟨_, _, e⟩ := h; e
theorem of_inFam_WCH_SRC_CNT {a : Nat} (h : inFam 369 a) : a = WCH_SRC_CNT := let ⟨_, _, e⟩ := h; e
theorem of_inFam_WCH_RAISED {a : Nat} (h : inFam 370 a) : ∃ n, a = WCH_RAISED n := let ⟨n, _, e⟩ := h; ⟨n, e⟩
theorem of_inFam_WCH_CLASS_CNT {a : Nat} (h : inFam 371 a) : ∃ n, a = WCH_CLASS_CNT n := let ⟨n, _, e⟩ := h; ⟨n, e⟩
theorem of_inFam_WCH_INST {a : Nat} (h : inFam 372 a) : a = WCH_INST := let ⟨_, _, e⟩ := h; e
theorem of_inFam_WCH_ANCHOR {a : Nat} (h : inFam 373 a) : a = WCH_ANCHOR := let ⟨_, _, e⟩ := h; e
theorem of_inFam_WCH_WLOG_LO {a : Nat} (h : inFam 374 a) : a = WCH_WLOG_LO := let ⟨_, _, e⟩ := h; e
theorem of_inFam_WCH_WLOG_HI {a : Nat} (h : inFam 375 a) : a = WCH_WLOG_HI := let ⟨_, _, e⟩ := h; e
theorem of_inFam_WCH_WLOG_STAT {a : Nat} (h : inFam 376 a) : a = WCH_WLOG_STAT := let ⟨_, _, e⟩ := h; e
theorem of_inFam_WCH_WLOG_CNT {a : Nat} (h : inFam 377 a) : a = WCH_WLOG_CNT := let ⟨_, _, e⟩ := h; e
theorem of_inFam_WCH_FEC_INFO {a : Nat} (h : inFam 378 a) : ∃ n, a = WCH_FEC_INFO n := let ⟨n, _, e⟩ := h; ⟨n, e⟩
theorem of_inFam_WCH_FEC_ADDR_LO {a : Nat} (h : inFam 379 a) : ∃ n, a = WCH_FEC_ADDR_LO n := let ⟨n, _, e⟩ := h; ⟨n, e⟩
theorem of_inFam_WCH_FEC_ADDR_HI {a : Nat} (h : inFam 380 a) : ∃ n, a = WCH_FEC_ADDR_HI n := let ⟨n, _, e⟩ := h; ⟨n, e⟩
theorem of_inFam_WCH_FEC_BELL_LO {a : Nat} (h : inFam 381 a) : ∃ n, a = WCH_FEC_BELL_LO n := let ⟨n, _, e⟩ := h; ⟨n, e⟩
theorem of_inFam_WCH_FEC_BELL_HI {a : Nat} (h : inFam 382 a) : ∃ n, a = WCH_FEC_BELL_HI n := let ⟨n, _, e⟩ := h; ⟨n, e⟩
theorem of_inFam_WCH_FEC_FINE {a : Nat} (h : inFam 383 a) : ∃ n, a = WCH_FEC_FINE n := let ⟨n, _, e⟩ := h; ⟨n, e⟩
theorem of_inFam_WCH_FEC_CTRL {a : Nat} (h : inFam 384 a) : ∃ n, a = WCH_FEC_CTRL n := let ⟨n, _, e⟩ := h; ⟨n, e⟩
theorem of_inFam_WCH_INJ_CMD {a : Nat} (h : inFam 385 a) : a = WCH_INJ_CMD := let ⟨_, _, e⟩ := h; e
theorem of_inFam_WCH_INJ_ARG_LO {a : Nat} (h : inFam 386 a) : a = WCH_INJ_ARG_LO := let ⟨_, _, e⟩ := h; e
theorem of_inFam_WCH_INJ_ARG_HI {a : Nat} (h : inFam 387 a) : a = WCH_INJ_ARG_HI := let ⟨_, _, e⟩ := h; e
theorem of_inFam_WCH_INJ_TOKEN {a : Nat} (h : inFam 388 a) : a = WCH_INJ_TOKEN := let ⟨_, _, e⟩ := h; e
theorem of_inFam_WCH_INJ_STAT {a : Nat} (h : inFam 389 a) : a = WCH_INJ_STAT := let ⟨_, _, e⟩ := h; e
theorem of_inFam_LOG_CTRL {a : Nat} (h : inFam 390 a) : a = LOG_CTRL := let ⟨_, _, e⟩ := h; e
theorem of_inFam_LOG_STAT {a : Nat} (h : inFam 391 a) : a = LOG_STAT := let ⟨_, _, e⟩ := h; e
theorem of_inFam_LOG_SEQ_LO {a : Nat} (h : inFam 392 a) : a = LOG_SEQ_LO := let ⟨_, _, e⟩ := h; e
theorem of_inFam_LOG_SEQ_HI {a : Nat} (h : inFam 393 a) : a = LOG_SEQ_HI := let ⟨_, _, e⟩ := h; e
theorem of_inFam_LOG_READ_IDX {a : Nat} (h : inFam 394 a) : a = LOG_READ_IDX := let ⟨_, _, e⟩ := h; e
theorem of_inFam_LOG_READ_DATA {a : Nat} (h : inFam 395 a) : a = LOG_READ_DATA := let ⟨_, _, e⟩ := h; e
theorem of_inFam_LOG_SNAP_SEL {a : Nat} (h : inFam 396 a) : a = LOG_SNAP_SEL := let ⟨_, _, e⟩ := h; e
theorem of_inFam_LOG_SNAP_DATA {a : Nat} (h : inFam 397 a) : a = LOG_SNAP_DATA := let ⟨_, _, e⟩ := h; e
theorem of_inFam_LOG_FW_TYPE {a : Nat} (h : inFam 398 a) : a = LOG_FW_TYPE := let ⟨_, _, e⟩ := h; e
theorem of_inFam_LOG_FW_DETAIL_LO {a : Nat} (h : inFam 399 a) : a = LOG_FW_DETAIL_LO := let ⟨_, _, e⟩ := h; e
theorem of_inFam_LOG_FW_DETAIL_HI {a : Nat} (h : inFam 400 a) : a = LOG_FW_DETAIL_HI := let ⟨_, _, e⟩ := h; e
theorem of_inFam_LOG_FW_GO {a : Nat} (h : inFam 401 a) : a = LOG_FW_GO := let ⟨_, _, e⟩ := h; e
theorem of_inFam_LOG_CNT {a : Nat} (h : inFam 402 a) : a = LOG_CNT := let ⟨_, _, e⟩ := h; e
theorem of_inFam_PAD_GPIO_CFG {a : Nat} (h : inFam 403 a) : ∃ n, a = PAD_GPIO_CFG n := let ⟨n, _, e⟩ := h; ⟨n, e⟩
theorem of_inFam_PAD_GPIO_IN {a : Nat} (h : inFam 404 a) : a = PAD_GPIO_IN := let ⟨_, _, e⟩ := h; e
theorem of_inFam_PAD_GPIO_OUT {a : Nat} (h : inFam 405 a) : a = PAD_GPIO_OUT := let ⟨_, _, e⟩ := h; e
theorem of_inFam_PAD_TEMP {a : Nat} (h : inFam 406 a) : a = PAD_TEMP := let ⟨_, _, e⟩ := h; e
theorem of_inFam_PAD_SUPPLY {a : Nat} (h : inFam 407 a) : a = PAD_SUPPLY := let ⟨_, _, e⟩ := h; e

/-- The parts that mask `a` lets change are among those of `b`. -/
def subMask (a b : Nat) : Bool := a &&& b == a

theorem subMask_bit {a b : Nat} (h : subMask a b = true) (k : Nat) (hb : b.testBit k = false) : a.testBit k = false := by
  simp only [subMask, beq_iff_eq] at h
  rw [← h, Nat.testBit_and, hb, Bool.and_false]

theorem subMask_trans {a b c : Nat} (h : subMask a b = true) (g : subMask b c = true) : subMask a c = true := by
  simp only [subMask, beq_iff_eq] at *
  rw [← h, Nat.land_assoc, g]

theorem testBit_sub {a b : Nat} (h : subMask a b = true) {k : Nat} (hk : a.testBit k = true) : b.testBit k = true := by
  by_contra e
  rw [subMask_bit h k (by simpa using e)] at hk
  cases hk

theorem subMask_refl (a : Nat) : subMask a a = true := by simp [subMask]

theorem Fuses.rise_refl (a : Fuses) : a.rise a := ⟨rfl, le_refl _⟩
theorem Fuses.rise_trans {a b c : Fuses} (h : a.rise b) (g : b.rise c) : a.rise c := by
  obtain ⟨h1, h2⟩ := h; obtain ⟨g1, g2⟩ := g
  refine ⟨?_, le_trans h2 g2⟩
  cases a; cases b; cases c; simp_all

/-- What a step from `s` to `t` keeps: every part whose bit of the mask `w` is clear, the fuses but for a rise of SVC, every fence (bit 25 lets
fences end), and the canonical form of the memories. -/
structure Kept (w : Nat) (s t : State) : Prop where
  regs_ : w.testBit 0 = false → t.regs = s.regs
  bell_ : w.testBit 1 = false → t.bell = s.bell
  sys_ : w.testBit 2 = false → t.sys = s.sys
  watch_ : w.testBit 3 = false → t.watch = s.watch
  mem_ : w.testBit 4 = false → t.mem = s.mem
  dram_ : w.testBit 5 = false → t.dram = s.dram
  media_ : w.testBit 6 = false → t.media = s.media
  chans_ : w.testBit 7 = false → t.chans = s.chans
  dec_ : w.testBit 8 = false → t.dec = s.dec
  wrp_ : w.testBit 9 = false → t.wrp = s.wrp
  srv_ : w.testBit 10 = false → t.srv = s.srv
  ctl_ : w.testBit 11 = false → t.ctl = s.ctl
  mot_ : w.testBit 12 = false → t.mot = s.mot
  seqs_ : w.testBit 13 = false → t.seqs = s.seqs
  stores_ : w.testBit 14 = false → t.stores = s.stores
  lgt_ : w.testBit 15 = false → t.lgt = s.lgt
  pack_ : w.testBit 16 = false → t.pack = s.pack
  link_ : w.testBit 17 = false → t.link = s.link
  bq_ : w.testBit 18 = false → t.bq = s.bq
  cmds_ : w.testBit 19 = false → t.cmds = s.cmds
  sch_ : w.testBit 20 = false → t.sch = s.sch
  qfb_ : w.testBit 21 = false → t.qfb = s.qfb
  out_ : w.testBit 22 = false → t.out = s.out
  freeCtr_ : w.testBit 23 = false → t.freeCtr = s.freeCtr
  pending_ : w.testBit 24 = false → t.pending = s.pending
  only_ : w.testBit 26 = false → ∀ a, (∀ i, w.testBit (32 + i) = true → ¬inFam i a) → t.reg a = s.reg a
  fuses_ : s.sys.fuses.rise t.sys.fuses
  fences_ : w.testBit 25 = false → ∀ u ∈ s.watch.fences, u ∈ t.watch.fences
  canon_ : s.canonical = true → t.canonical = true

theorem Kept.refl (w : Nat) (s : State) : Kept w s s := by
  constructor <;> first | exact Fuses.rise_refl _ | exact fun _ _ h => h | exact id | exact fun _ => rfl | exact fun _ _ _ => rfl

theorem Kept.trans {a w : Nat} {s t u : State} (g : Kept a t u) (ha : subMask a w = true) (h : Kept w s t) : Kept w s u where
  regs_ hb := (g.regs_ (subMask_bit ha _ hb)).trans (h.regs_ hb)
  bell_ hb := (g.bell_ (subMask_bit ha _ hb)).trans (h.bell_ hb)
  sys_ hb := (g.sys_ (subMask_bit ha _ hb)).trans (h.sys_ hb)
  watch_ hb := (g.watch_ (subMask_bit ha _ hb)).trans (h.watch_ hb)
  mem_ hb := (g.mem_ (subMask_bit ha _ hb)).trans (h.mem_ hb)
  dram_ hb := (g.dram_ (subMask_bit ha _ hb)).trans (h.dram_ hb)
  media_ hb := (g.media_ (subMask_bit ha _ hb)).trans (h.media_ hb)
  chans_ hb := (g.chans_ (subMask_bit ha _ hb)).trans (h.chans_ hb)
  dec_ hb := (g.dec_ (subMask_bit ha _ hb)).trans (h.dec_ hb)
  wrp_ hb := (g.wrp_ (subMask_bit ha _ hb)).trans (h.wrp_ hb)
  srv_ hb := (g.srv_ (subMask_bit ha _ hb)).trans (h.srv_ hb)
  ctl_ hb := (g.ctl_ (subMask_bit ha _ hb)).trans (h.ctl_ hb)
  mot_ hb := (g.mot_ (subMask_bit ha _ hb)).trans (h.mot_ hb)
  seqs_ hb := (g.seqs_ (subMask_bit ha _ hb)).trans (h.seqs_ hb)
  stores_ hb := (g.stores_ (subMask_bit ha _ hb)).trans (h.stores_ hb)
  lgt_ hb := (g.lgt_ (subMask_bit ha _ hb)).trans (h.lgt_ hb)
  pack_ hb := (g.pack_ (subMask_bit ha _ hb)).trans (h.pack_ hb)
  link_ hb := (g.link_ (subMask_bit ha _ hb)).trans (h.link_ hb)
  bq_ hb := (g.bq_ (subMask_bit ha _ hb)).trans (h.bq_ hb)
  cmds_ hb := (g.cmds_ (subMask_bit ha _ hb)).trans (h.cmds_ hb)
  sch_ hb := (g.sch_ (subMask_bit ha _ hb)).trans (h.sch_ hb)
  qfb_ hb := (g.qfb_ (subMask_bit ha _ hb)).trans (h.qfb_ hb)
  out_ hb := (g.out_ (subMask_bit ha _ hb)).trans (h.out_ hb)
  freeCtr_ hb := (g.freeCtr_ (subMask_bit ha _ hb)).trans (h.freeCtr_ hb)
  pending_ hb := (g.pending_ (subMask_bit ha _ hb)).trans (h.pending_ hb)
  only_ hb x hx := (g.only_ (subMask_bit ha _ hb) x (fun i hi => hx i (testBit_sub ha hi))).trans (h.only_ hb x hx)
  fuses_ := Fuses.rise_trans h.fuses_ g.fuses_
  fences_ hb u hu := g.fences_ (subMask_bit ha _ hb) u (h.fences_ hb u hu)
  canon_ hc := g.canon_ (h.canon_ hc)

theorem Kept.reg_keep {w : Nat} {s t : State} (h : Kept w s t) {a : Nat} (hc : maskClear w a = true) : t.reg a = s.reg a := by
  refine h.only_ ?_ a (maskClear_fam hc)
  simp only [maskClear, Bool.and_eq_true, Bool.not_eq_true'] at hc
  exact hc.1.1

theorem Kept.rd_keep {w : Nat} {s t : State} (h : Kept w s t) {f : Fld} (hc : maskClear w f.addr = true) : t.rd f = s.rd f := by
  unfold State.rd; rw [h.reg_keep hc]

theorem Kept.on_keep {w : Nat} {s t : State} (h : Kept w s t) {f : Fld} (hc : maskClear w f.addr = true) : t.on f = s.on f := by
  unfold State.on; rw [h.rd_keep hc]

theorem Kept.ite {w : Nat} {s a b : State} {c : Prop} [Decidable c] (ha : Kept w s a) (hb : Kept w s b) : Kept w s (if c then a else b) := by
  split <;> assumption

/-- A record update of parts that hold no memory, fuse or fence. -/
theorem Kept.lit {w : Nat} {s t : State}
    {a0 : Sparse Word} (h0 : a0 = t.regs)
    {a1 : Nat} (h1 : w.testBit 1 = true ∨ a1 = t.bell)
    {a2 : SysU} (h2 : a2 = t.sys)
    {a3 : WatchU} (h3 : a3 = t.watch)
    {a4 : MemU} (h4 : a4 = t.mem)
    {a5 : DramU} (h5 : a5 = t.dram)
    {a6 : MediaU} (h6 : w.testBit 6 = true ∨ a6 = t.media)
    {a7 : List ChanU} (h7 : w.testBit 7 = true ∨ a7 = t.chans)
    {a8 : DecU} (h8 : w.testBit 8 = true ∨ a8 = t.dec)
    {a9 : WrpU} (h9 : w.testBit 9 = true ∨ a9 = t.wrp)
    {a10 : SrvU} (h10 : w.testBit 10 = true ∨ a10 = t.srv)
    {a11 : CtlU} (h11 : w.testBit 11 = true ∨ a11 = t.ctl)
    {a12 : MotU} (h12 : w.testBit 12 = true ∨ a12 = t.mot)
    {a13 : List SeqU} (h13 : w.testBit 13 = true ∨ a13 = t.seqs)
    {a14 : StoreU} (h14 : w.testBit 14 = true ∨ a14 = t.stores)
    {a15 : LgtU} (h15 : w.testBit 15 = true ∨ a15 = t.lgt)
    {a16 : PackU} (h16 : w.testBit 16 = true ∨ a16 = t.pack)
    {a17 : LinkU} (h17 : w.testBit 17 = true ∨ a17 = t.link)
    {a18 : BqU} (h18 : w.testBit 18 = true ∨ a18 = t.bq)
    {a19 : List Cmd} (h19 : w.testBit 19 = true ∨ a19 = t.cmds)
    {a20 : SchU} (h20 : w.testBit 20 = true ∨ a20 = t.sch)
    {a21 : QfbU} (h21 : w.testBit 21 = true ∨ a21 = t.qfb)
    {a22 : List OutEvent} (h22 : w.testBit 22 = true ∨ a22 = t.out)
    {a23 : Nat} (h23 : w.testBit 23 = true ∨ a23 = t.freeCtr)
    {a24 : List Instr} (h24 : w.testBit 24 = true ∨ a24 = t.pending)
    (h : Kept w s t) : Kept w s ⟨a0, a1, a2, a3, a4, a5, a6, a7, a8, a9, a10, a11, a12, a13, a14, a15, a16, a17, a18, a19, a20, a21, a22, a23, a24⟩ := by
  subst h0; subst h2; subst h3; subst h4; subst h5
  constructor
  · exact h.regs_
  · intro hb; rcases h1 with e | e
    · rw [e] at hb; cases hb
    · exact e.trans (h.bell_ hb)
  · exact h.sys_
  · exact h.watch_
  · exact h.mem_
  · exact h.dram_
  · intro hb; rcases h6 with e | e
    · rw [e] at hb; cases hb
    · exact e.trans (h.media_ hb)
  · intro hb; rcases h7 with e | e
    · rw [e] at hb; cases hb
    · exact e.trans (h.chans_ hb)
  · intro hb; rcases h8 with e | e
    · rw [e] at hb; cases hb
    · exact e.trans (h.dec_ hb)
  · intro hb; rcases h9 with e | e
    · rw [e] at hb; cases hb
    · exact e.trans (h.wrp_ hb)
  · intro hb; rcases h10 with e | e
    · rw [e] at hb; cases hb
    · exact e.trans (h.srv_ hb)
  · intro hb; rcases h11 with e | e
    · rw [e] at hb; cases hb
    · exact e.trans (h.ctl_ hb)
  · intro hb; rcases h12 with e | e
    · rw [e] at hb; cases hb
    · exact e.trans (h.mot_ hb)
  · intro hb; rcases h13 with e | e
    · rw [e] at hb; cases hb
    · exact e.trans (h.seqs_ hb)
  · intro hb; rcases h14 with e | e
    · rw [e] at hb; cases hb
    · exact e.trans (h.stores_ hb)
  · intro hb; rcases h15 with e | e
    · rw [e] at hb; cases hb
    · exact e.trans (h.lgt_ hb)
  · intro hb; rcases h16 with e | e
    · rw [e] at hb; cases hb
    · exact e.trans (h.pack_ hb)
  · intro hb; rcases h17 with e | e
    · rw [e] at hb; cases hb
    · exact e.trans (h.link_ hb)
  · intro hb; rcases h18 with e | e
    · rw [e] at hb; cases hb
    · exact e.trans (h.bq_ hb)
  · intro hb; rcases h19 with e | e
    · rw [e] at hb; cases hb
    · exact e.trans (h.cmds_ hb)
  · intro hb; rcases h20 with e | e
    · rw [e] at hb; cases hb
    · exact e.trans (h.sch_ hb)
  · intro hb; rcases h21 with e | e
    · rw [e] at hb; cases hb
    · exact e.trans (h.qfb_ hb)
  · intro hb; rcases h22 with e | e
    · rw [e] at hb; cases hb
    · exact e.trans (h.out_ hb)
  · intro hb; rcases h23 with e | e
    · rw [e] at hb; cases hb
    · exact e.trans (h.freeCtr_ hb)
  · intro hb; rcases h24 with e | e
    · rw [e] at hb; cases hb
    · exact e.trans (h.pending_ hb)
  · exact h.only_
  · exact h.fuses_
  · exact h.fences_
  · exact h.canon_

theorem State.when_kept {w : Nat} {s t : State} {c : Bool} {f : State → State} (hf : ∀ u, Kept w u (f u)) (h : Kept w s t) : Kept w s (t.when c f) := by
  cases c
  · exact h
  · exact (hf t).trans (subMask_refl w) h

theorem State.forEach_kept {α : Type} {w : Nat} {s t : State} {l : List α} {f : α → State → State} (hf : ∀ x u, Kept w u (f x u)) (h : Kept w s t) :
    Kept w s (t.forEach l f) := by
  induction l generalizing t with
  | nil => exact h
  | cons x l ih => exact ih ((hf x t).trans (subMask_refl w) h)

theorem State.foldl_kept {α : Type} {w : Nat} {s t : State} {l : List α} {f : State → α → State} (hf : ∀ u x, Kept w u (f u x)) (h : Kept w s t) :
    Kept w s (l.foldl f t) := by
  induction l generalizing t with
  | nil => exact h
  | cons x l ih => exact ih ((hf t x).trans (subMask_refl w) h)

/-- What a meaning keeps when it answers a next state. -/
structure KeptR (w : Nat) (s : State) (r : Res) : Prop where
  keep : ∀ t, r = .next t → Kept w s t
theorem KeptR.next {w : Nat} {s t : State} (h : Kept w s t) : KeptR w s (.next t) := ⟨by intro u e; cases e; exact h⟩
theorem KeptR.fault {w : Nat} {s : State} {r : Fault} : KeptR w s (.fault r) := ⟨by intro u e; cases e⟩
theorem KeptR.refused {w : Nat} {s : State} {r : Refusal} : KeptR w s (.refused r) := ⟨by intro u e; cases e⟩
theorem KeptR.ite {w : Nat} {s : State} {a b : Res} {c : Prop} [Decidable c] (ha : KeptR w s a) (hb : KeptR w s b) : KeptR w s (if c then a else b) := by
  split <;> assumption

/-! ### Updates of the parts that hold memories, fuses and fences -/

/-- What an update of the system unit may do. -/
def SysU.holds (u v : SysU) : Prop :=
  u.fuses.rise v.fuses ∧ (sparseWf (fun _ => 0xFF#8) u.flash = true → sparseWf (fun _ => 0xFF#8) v.flash = true)
theorem SysU.holds_same {u v : SysU} (h : v.fuses = u.fuses) (g : v.flash = u.flash) : u.holds v := by
  unfold SysU.holds; rw [h, g]; exact ⟨Fuses.rise_refl _, id⟩
/-- What an update of the SRAM unit may do. -/
structure MemU.holds (m n : MemU) : Prop where
  keep : m.wf = true → n.wf = true
/-- What an update of the DRAM unit may do. -/
structure DramU.holds (m n : DramU) : Prop where
  keep : m.ch.all DdrCh.wf = true → n.ch.all DdrCh.wf = true
/-- What an update of a DRAM channel may do. -/
structure DdrCh.holds (m n : DdrCh) : Prop where
  keep : m.wf = true → n.wf = true
theorem DdrCh.holds_of {m n : DdrCh} (h : n.bytes = m.bytes) (g : n.bursts = m.bursts) : m.holds n := ⟨by unfold DdrCh.wf; rw [h, g]; exact id⟩
theorem DramU.holds_of {m n : DramU} (h : n.ch = m.ch) : m.holds n := ⟨by rw [h]; exact id⟩
theorem MemU.holds_trans {a b c : MemU} (h : a.holds b) (g : b.holds c) : a.holds c := ⟨fun k => g.keep (h.keep k)⟩
theorem MemU.holds_of {m n : MemU} (h : n.bytes = m.bytes) (g : n.flips = m.flips) : m.holds n := ⟨by unfold MemU.wf; rw [h, g]; exact id⟩
/-- What an update of the Watch may do. -/
structure WatchU.holds (m n : WatchU) : Prop where
  keep : ∀ u ∈ m.fences, u ∈ n.fences


/-- A write of a register of array `i`. -/
theorem State.setFam_kept {w₀ i : Nat} {s₀ s : State} {a : Nat} {x : Word} (hf : inFam i a) (hi : w₀.testBit (32 + i) = true)
    (hw₀ : subMask 1 w₀ = true) (h₀ : Kept w₀ s₀ s) : Kept w₀ s₀ (s.setReg a x) := by
  constructor
  · intro h; rw [testBit_sub (k := 0) hw₀ rfl] at h; cases h
  · exact h₀.bell_
  · exact h₀.sys_
  · exact h₀.watch_
  · exact h₀.mem_
  · exact h₀.dram_
  · exact h₀.media_
  · exact h₀.chans_
  · exact h₀.dec_
  · exact h₀.wrp_
  · exact h₀.srv_
  · exact h₀.ctl_
  · exact h₀.mot_
  · exact h₀.seqs_
  · exact h₀.stores_
  · exact h₀.lgt_
  · exact h₀.pack_
  · exact h₀.link_
  · exact h₀.bq_
  · exact h₀.cmds_
  · exact h₀.sch_
  · exact h₀.qfb_
  · exact h₀.out_
  · exact h₀.freeCtr_
  · exact h₀.pending_
  · intro hb b hx
    refine (State.reg_setReg_ne s x ?_).trans (h₀.only_ hb b hx)
    intro e; subst e; exact hx i hi hf
  · exact h₀.fuses_
  · exact h₀.fences_
  · intro h
    have h := h₀.canon_ h
    simp only [State.canonical, Bool.and_eq_true] at h ⊢
    exact ⟨⟨⟨State.setReg_wf s a x h.1.1.1, h.1.1.2⟩, h.1.2⟩, h.2⟩

/-- A write of any register. -/
theorem State.setReg_kept {w₀ : Nat} {s₀ s : State} {a : Nat} {x : Word} (hw₀ : subMask 67108865 w₀ = true) (h₀ : Kept w₀ s₀ s) :
    Kept w₀ s₀ (s.setReg a x) := by
  constructor
  · intro h; rw [testBit_sub (k := 0) hw₀ rfl] at h; cases h
  · exact h₀.bell_
  · exact h₀.sys_
  · exact h₀.watch_
  · exact h₀.mem_
  · exact h₀.dram_
  · exact h₀.media_
  · exact h₀.chans_
  · exact h₀.dec_
  · exact h₀.wrp_
  · exact h₀.srv_
  · exact h₀.ctl_
  · exact h₀.mot_
  · exact h₀.seqs_
  · exact h₀.stores_
  · exact h₀.lgt_
  · exact h₀.pack_
  · exact h₀.link_
  · exact h₀.bq_
  · exact h₀.cmds_
  · exact h₀.sch_
  · exact h₀.qfb_
  · exact h₀.out_
  · exact h₀.freeCtr_
  · exact h₀.pending_
  · intro h; rw [testBit_sub (k := 26) hw₀ rfl] at h; cases h
  · exact h₀.fuses_
  · exact h₀.fences_
  · intro h
    have h := h₀.canon_ h
    simp only [State.canonical, Bool.and_eq_true] at h ⊢
    exact ⟨⟨⟨State.setReg_wf s a x h.1.1.1, h.1.1.2⟩, h.1.2⟩, h.2⟩

theorem State.wrAny_kept {w₀ : Nat} {s₀ s : State} {f : Fld} {x : Nat} (hw₀ : subMask 67108865 w₀ = true) (h₀ : Kept w₀ s₀ s) :
    Kept w₀ s₀ (s.wr f x) := State.setReg_kept hw₀ h₀

/-- Every field of a list of writes lies in a register array that the mask lets change. -/
def wrsOk (w : Nat) : List (Fld × Nat) → Prop
  | [] => True
  | e :: l => (∃ i, inFam i e.1.addr ∧ w.testBit (32 + i) = true) ∧ wrsOk w l
theorem wrsOk_nil {w : Nat} : wrsOk w [] := trivial
theorem wrsOk_cons {w i : Nat} {f : Fld} {x : Nat} {l : List (Fld × Nat)} (hf : inFam i f.addr) (hi : w.testBit (32 + i) = true) (hl : wrsOk w l) :
    wrsOk w ((f, x) :: l) := ⟨⟨i, hf, hi⟩, hl⟩
theorem wrsOk_append {w : Nat} {k l : List (Fld × Nat)} (hk : wrsOk w k) (hl : wrsOk w l) : wrsOk w (k ++ l) := by
  induction k with
  | nil => exact hl
  | cons e k ih => exact ⟨hk.1, ih hk.2⟩

theorem State.wrs_kept {w₀ : Nat} {s₀ s : State} {l : List (Fld × Nat)} (hl : wrsOk w₀ l) (hw₀ : subMask 1 w₀ = true) (h₀ : Kept w₀ s₀ s) :
    Kept w₀ s₀ (s.wrs l) := by
  induction l generalizing s with
  | nil => exact h₀
  | cons e l ih => obtain ⟨⟨i, hf, hi⟩, hl⟩ := hl; exact ih hl (State.setFam_kept hf hi hw₀ h₀)

theorem State.updSys_kept {w₀ : Nat} {s₀ s : State} {f : SysU → SysU} (hf : ∀ u : SysU, u.holds (f u)) (hw₀ : subMask 4 w₀ = true) (h₀ : Kept w₀ s₀ s) :
    Kept w₀ s₀ (s.updSys f) := by
  refine Kept.trans (a := 4) (t := s) ?_ hw₀ h₀
  constructor <;> first | exact fun _ => rfl | exact fun _ _ _ => rfl | exact (hf _).1 | exact fun _ _ h => h | skip
  · intro h; cases h
  · intro h
    simp only [State.canonical, Bool.and_eq_true] at h ⊢
    exact ⟨h.1, (hf _).2 h.2⟩

theorem State.updWatch_kept {w₀ : Nat} {s₀ s : State} {f : WatchU → WatchU} (hf : ∀ u : WatchU, u.holds (f u)) (hw₀ : subMask 8 w₀ = true) (h₀ : Kept w₀ s₀ s) :
    Kept w₀ s₀ (s.updWatch f) := by
  refine Kept.trans (a := 8) (t := s) ?_ hw₀ h₀
  constructor <;> first | exact fun _ => rfl | exact fun _ _ _ => rfl | exact Fuses.rise_refl _ | exact fun _ => (hf _).keep | exact id | skip
  intro h; cases h

theorem State.updMem_kept {w₀ : Nat} {s₀ s : State} {f : MemU → MemU} (hf : ∀ u : MemU, u.holds (f u)) (hw₀ : subMask 16 w₀ = true) (h₀ : Kept w₀ s₀ s) :
    Kept w₀ s₀ (s.updMem f) := by
  refine Kept.trans (a := 16) (t := s) ?_ hw₀ h₀
  constructor <;> first | exact fun _ => rfl | exact fun _ _ _ => rfl | exact Fuses.rise_refl _ | exact fun _ _ h => h | skip
  · intro h; cases h
  · intro h
    simp only [State.canonical, Bool.and_eq_true] at h ⊢
    exact ⟨⟨⟨h.1.1.1, (hf _).keep h.1.1.2⟩, h.1.2⟩, h.2⟩

theorem State.updDram_kept {w₀ : Nat} {s₀ s : State} {f : DramU → DramU} (hf : ∀ u : DramU, u.holds (f u)) (hw₀ : subMask 32 w₀ = true) (h₀ : Kept w₀ s₀ s) :
    Kept w₀ s₀ (s.updDram f) := by
  refine Kept.trans (a := 32) (t := s) ?_ hw₀ h₀
  constructor <;> first | exact fun _ => rfl | exact fun _ _ _ => rfl | exact Fuses.rise_refl _ | exact fun _ _ h => h | skip
  · intro h; cases h
  · intro h
    simp only [State.canonical, Bool.and_eq_true] at h ⊢
    exact ⟨⟨h.1.1, (hf _).keep h.1.2⟩, h.2⟩

theorem listModify_all {α : Type} (l : List α) (n : Nat) (f : α → α) (p : α → Bool) (hf : ∀ x, p x = true → p (f x) = true)
    (h : l.all p = true) : (listModify l n f).all p = true := by
  induction l generalizing n with
  | nil => cases n <;> exact h
  | cons x l ih =>
    simp only [List.all_cons, Bool.and_eq_true] at h
    cases n with
    | zero => simp only [listModify, List.all_cons, Bool.and_eq_true]; exact ⟨hf x h.1, h.2⟩
    | succ n => simp only [listModify, List.all_cons, Bool.and_eq_true]; exact ⟨h.1, ih n h.2⟩

theorem State.updDdr_kept {w₀ : Nat} {s₀ s : State} {c : Nat} {f : DdrCh → DdrCh} (hf : ∀ u : DdrCh, u.holds (f u)) (hw₀ : subMask 32 w₀ = true)
    (h₀ : Kept w₀ s₀ s) : Kept w₀ s₀ (s.updDdr c f) :=
  State.updDram_kept (fun _ => ⟨fun h => listModify_all _ _ _ _ (fun x => (hf x).keep) h⟩) hw₀ h₀

theorem State.updPersist_kept {w₀ : Nat} {s₀ s : State} {f : PersistRec → PersistRec} (hw₀ : subMask 4 w₀ = true) (h₀ : Kept w₀ s₀ s) :
    Kept w₀ s₀ (s.updPersist f) := by
  refine State.updSys_kept (f := fun u => u.updPersist f) (fun u => ?_) hw₀ h₀
  dsimp only [SysU.updPersist]
  split
  · exact SysU.holds_same rfl rfl
  · split <;> exact SysU.holds_same rfl rfl

/-! ### Memory operations keep the canonical form -/

theorem sparseErase_wf {α : Type} [DecidableEq α] (d : Nat → α) (m : Sparse α) (k : Nat) (h : sparseWf d m = true) : sparseWf d (sparseErase m k) = true := by
  have := sparseSet_wf d m k (d k) h
  simpa [sparseSet] using this

theorem MemU.store_holds {m n : MemU} {k : Nat} {b : Byte} (h : m.holds n) : m.holds (n.store k b) := by
  constructor; intro hm
  have := h.keep hm
  simp only [MemU.wf, Bool.and_eq_true] at this ⊢
  exact ⟨sparseSet_wf _ _ _ _ this.1, sparseErase_wf _ _ _ this.2⟩

theorem MemU.flip_holds {m n : MemU} {k x : Nat} (h : m.holds n) : m.holds (n.flip k x) := by
  constructor; intro hm
  have := h.keep hm
  simp only [MemU.wf, Bool.and_eq_true] at this ⊢
  exact ⟨this.1, sparseSet_wf _ _ _ _ this.2⟩

theorem MemU.foldl_holds {α : Type} {m n : MemU} {l : List α} {f : MemU → α → MemU} (hf : ∀ u x, MemU.holds u (f u x)) (h : m.holds n) :
    m.holds (l.foldl f n) := by
  induction l generalizing n with
  | nil => exact h
  | cons x l ih => exact ih ⟨fun hm => (hf n x).keep (h.keep hm)⟩

theorem MemU.storeList_holds {m n : MemU} {k : Nat} {l : List Byte} (h : m.holds n) : m.holds (n.storeList k l) := by
  induction l generalizing n k with
  | nil => exact h
  | cons x l ih => exact ih (MemU.store_holds h)

theorem MemU.flipAll_holds {m n : MemU} {l : List (Nat × Nat)} (h : m.holds n) : m.holds (n.flipAll l) :=
  MemU.foldl_holds (fun _ _ => MemU.flip_holds ⟨id⟩) h

theorem DdrCh.upset_holds {m n : DdrCh} {o : Nat} {l : List (Nat × Nat)} (h : m.holds n) : m.holds (n.upset o l) := by
  unfold DdrCh.upset
  split
  · exact h
  · constructor; intro hm
    have := h.keep hm
    simp only [DdrCh.wf, Bool.and_eq_true] at this ⊢
    exact ⟨this.1, sparseSet_wf _ _ _ _ this.2⟩

theorem DdrCh.writeBurst_holds {m n : DdrCh} {k o : Nat} {l : List (Option Byte)} {p : Bool} (h : m.holds n) : m.holds (n.writeBurst k o l p) := by
  constructor; intro hm
  have := h.keep hm
  simp only [DdrCh.wf, Bool.and_eq_true, DdrCh.writeBurst] at this ⊢
  refine ⟨?_, sparseSet_wf _ _ _ _ this.2⟩
  have key : ∀ (q : List (Nat × Option Byte)) (c : Sparse Byte), sparseWf (fun _ => (0 : Byte)) c = true →
      sparseWf (fun _ => (0 : Byte)) (q.foldl (fun m e => match e.2 with
        | none => m
        | some b => sparseSet (0 : Byte) m (o + e.1) b) c) = true := by
    intro q
    induction q with
    | nil => intro c hc; exact hc
    | cons e q ih =>
      intro c hc
      rw [List.foldl_cons]
      apply ih
      split
      · exact hc
      · exact sparseSet_wf (fun _ => (0 : Byte)) _ _ _ hc
  exact key _ _ this.1

theorem flash_wf (bs : List Byte) (a : Nat) (m : List Host.Cell) (h : sparseWf (fun _ => 0xFF#8) m = true) :
    sparseWf (fun _ => 0xFF#8) (bs.foldl (fun (x : Nat × List Host.Cell) b => (x.1 + 1, sparseSet 0xFF#8 x.2 x.1 b)) (a, m)).2 = true := by
  induction bs generalizing a m with
  | nil => exact h
  | cons b bs ih => rw [List.foldl_cons]; exact ih _ _ (sparseSet_wf (fun _ => 0xFF#8) _ _ _ h)

end Sys2Proof.Machine
end

