-- ==== Sys2Proof/Laws/KeptOps.lean ====
section
/-! SUPPORT. What the operations and meanings of Machine/Ops.lean keep (the relation Kept). -/

set_option Elab.async false

namespace Sys2Proof.Machine
open Reg
set_option linter.unusedVariables false
set_option linter.unusedTactic false
set_option linter.unreachableTactic false
set_option maxHeartbeats 400000

variable {w₀ : Nat} {s₀ : State}

theorem State.wr_kept {s : State} {f : Fld} {x : Nat} {i_ : Nat} (hf_ : inFam i_ f.addr) (hi_ : w₀.testBit (32 + i_) = true) (hw₀ : subMask 1 w₀ = true) (h₀ : Kept w₀ s₀ s) :
    Kept w₀ s₀ (State.wr s f x) := by
  unfold State.wr; try dsimp only
  repeat' first | (with_reducible first | assumption | exact Kept.refl _ _ | refine Kept.ite ?_ ?_ | apply State.setFam_kept) | exact hi_ | exact testBit_sub hw₀ rfl | exact subMask_trans rfl hw₀ | exact hf_ _ | exact hf_ | exact wrsOk_nil | apply wrsOk_cons | (intro _; try dsimp only) | split | dsimp only

theorem State.addC_kept {s : State} {f : Fld} {n : Nat} {i_ : Nat} (hf_ : inFam i_ f.addr) (hi_ : w₀.testBit (32 + i_) = true) (hw₀ : subMask 1 w₀ = true) (h₀ : Kept w₀ s₀ s) :
    Kept w₀ s₀ (State.addC s f n) := by
  unfold State.addC; try dsimp only
  repeat' first | (with_reducible first | assumption | exact Kept.refl _ _ | refine Kept.ite ?_ ?_ | apply State.wr_kept) | exact hi_ | exact testBit_sub hw₀ rfl | exact subMask_trans rfl hw₀ | exact hf_ _ | exact hf_ | exact wrsOk_nil | apply wrsOk_cons | (intro _; try dsimp only) | split | dsimp only

theorem State.wrS_kept {s : State} {f : Fld} {z : Int} {i_ : Nat} (hf_ : inFam i_ f.addr) (hi_ : w₀.testBit (32 + i_) = true) (hw₀ : subMask 1 w₀ = true) (h₀ : Kept w₀ s₀ s) :
    Kept w₀ s₀ (State.wrS s f z) := by
  unfold State.wrS; try dsimp only
  repeat' first | (with_reducible first | assumption | exact Kept.refl _ _ | refine Kept.ite ?_ ?_ | apply State.wr_kept) | exact hi_ | exact testBit_sub hw₀ rfl | exact subMask_trans rfl hw₀ | exact hf_ _ | exact hf_ | exact wrsOk_nil | apply wrsOk_cons | (intro _; try dsimp only) | split | dsimp only

theorem State.emit_kept {s : State} {e : OutEvent} (hw₀ : subMask 4194304 w₀ = true) (h₀ : Kept w₀ s₀ s) :
    Kept w₀ s₀ (State.emit s e) := by
  refine Kept.trans (a := 4194304) (t := s) ?_ hw₀ h₀
  clear h₀ hw₀
  unfold State.emit; try dsimp only
  repeat' first | (with_reducible first | assumption | exact Kept.refl _ _ | refine Kept.ite ?_ ?_) | (show Nat.testBit _ _ = true; rfl) | (show subMask _ _ = true; rfl) | (intro _; try dsimp only) | split | dsimp only | refine Kept.lit rfl (.inr rfl) rfl rfl rfl rfl (.inr rfl) (.inr rfl) (.inr rfl) (.inr rfl) (.inr rfl) (.inr rfl) (.inr rfl) (.inr rfl) (.inr rfl) (.inr rfl) (.inr rfl) (.inr rfl) (.inr rfl) (.inr rfl) (.inr rfl) (.inr rfl) (.inl rfl) (.inr rfl) (.inr rfl) ?_

theorem State.irqIf_kept {s : State} {en : Bool} {addr bit : Nat} (hw₀ : subMask 4194304 w₀ = true) (h₀ : Kept w₀ s₀ s) :
    Kept w₀ s₀ (State.irqIf s en addr bit) := by
  refine Kept.trans (a := 4194304) (t := s) ?_ hw₀ h₀
  clear h₀ hw₀
  unfold State.irqIf; try dsimp only
  repeat' first | (with_reducible first | assumption | exact Kept.refl _ _ | refine Kept.ite ?_ ?_ | refine State.emit_kept ?_ ?_ | refine State.when_kept ?_ ?_) | (show Nat.testBit _ _ = true; rfl) | (show subMask _ _ = true; rfl) | (intro _; try dsimp only) | split | dsimp only

theorem State.setB_kept {s : State} {f : Fld} {i_ : Nat} (hf_ : inFam i_ f.addr) (hi_ : w₀.testBit (32 + i_) = true) (hw₀ : subMask 1 w₀ = true) (h₀ : Kept w₀ s₀ s) :
    Kept w₀ s₀ (State.setB s f) := by
  unfold State.setB; try dsimp only
  repeat' first | (with_reducible first | assumption | exact Kept.refl _ _ | refine Kept.ite ?_ ?_ | apply State.wr_kept) | exact hi_ | exact testBit_sub hw₀ rfl | exact subMask_trans rfl hw₀ | exact hf_ _ | exact hf_ | exact wrsOk_nil | apply wrsOk_cons | (intro _; try dsimp only) | split | dsimp only

theorem State.raiseBit_kept {s : State} {f : Fld} {enReg : Nat} {i_ : Nat} (hf_ : inFam i_ f.addr) (hi_ : w₀.testBit (32 + i_) = true) (hw₀ : subMask 4194305 w₀ = true) (h₀ : Kept w₀ s₀ s) :
    Kept w₀ s₀ (State.raiseBit s f enReg) := by
  unfold State.raiseBit; try dsimp only
  repeat' first | (with_reducible first | assumption | exact Kept.refl _ _ | refine Kept.ite ?_ ?_ | refine State.irqIf_kept ?_ ?_ | apply State.setB_kept) | exact hi_ | exact testBit_sub hw₀ rfl | exact subMask_trans rfl hw₀ | exact hf_ _ | exact hf_ | exact wrsOk_nil | apply wrsOk_cons | (intro _; try dsimp only) | split | dsimp only

theorem State.clr_kept {s : State} {f : Fld} {i_ : Nat} (hf_ : inFam i_ f.addr) (hi_ : w₀.testBit (32 + i_) = true) (hw₀ : subMask 1 w₀ = true) (h₀ : Kept w₀ s₀ s) :
    Kept w₀ s₀ (State.clr s f) := by
  unfold State.clr; try dsimp only
  repeat' first | (with_reducible first | assumption | exact Kept.refl _ _ | refine Kept.ite ?_ ?_ | apply State.wr_kept) | exact hi_ | exact testBit_sub hw₀ rfl | exact subMask_trans rfl hw₀ | exact hf_ _ | exact hf_ | exact wrsOk_nil | apply wrsOk_cons | (intro _; try dsimp only) | split | dsimp only

theorem State.inc_kept {s : State} {f : Fld} {i_ : Nat} (hf_ : inFam i_ f.addr) (hi_ : w₀.testBit (32 + i_) = true) (hw₀ : subMask 1 w₀ = true) (h₀ : Kept w₀ s₀ s) :
    Kept w₀ s₀ (State.inc s f) := by
  unfold State.inc; try dsimp only
  repeat' first | (with_reducible first | assumption | exact Kept.refl _ _ | refine Kept.ite ?_ ?_ | apply State.addC_kept) | exact hi_ | exact testBit_sub hw₀ rfl | exact subMask_trans rfl hw₀ | exact hf_ _ | exact hf_ | exact wrsOk_nil | apply wrsOk_cons | (intro _; try dsimp only) | split | dsimp only

theorem State.freeNext_kept {s : State} (hw₀ : subMask 8388608 w₀ = true) (h₀ : Kept w₀ s₀ s) :
    Kept w₀ s₀ (State.freeNext s) := by
  refine Kept.trans (a := 8388608) (t := s) ?_ hw₀ h₀
  clear h₀ hw₀
  unfold State.freeNext; try dsimp only
  repeat' first | (with_reducible first | assumption | exact Kept.refl _ _ | refine Kept.ite ?_ ?_) | (show Nat.testBit _ _ = true; rfl) | (show subMask _ _ = true; rfl) | (intro _; try dsimp only) | split | dsimp only | refine Kept.lit rfl (.inr rfl) rfl rfl rfl rfl (.inr rfl) (.inr rfl) (.inr rfl) (.inr rfl) (.inr rfl) (.inr rfl) (.inr rfl) (.inr rfl) (.inr rfl) (.inr rfl) (.inr rfl) (.inr rfl) (.inr rfl) (.inr rfl) (.inr rfl) (.inr rfl) (.inr rfl) (.inl rfl) (.inr rfl) ?_

theorem State.maxF_kept {s : State} {f : Fld} {x : Nat} {i_ : Nat} (hf_ : inFam i_ f.addr) (hi_ : w₀.testBit (32 + i_) = true) (hw₀ : subMask 1 w₀ = true) (h₀ : Kept w₀ s₀ s) :
    Kept w₀ s₀ (State.maxF s f x) := by
  unfold State.maxF; try dsimp only
  repeat' first | (with_reducible first | assumption | exact Kept.refl _ _ | refine Kept.ite ?_ ?_ | apply State.wr_kept) | exact hi_ | exact testBit_sub hw₀ rfl | exact subMask_trans rfl hw₀ | exact hf_ _ | exact hf_ | exact wrsOk_nil | apply wrsOk_cons | (intro _; try dsimp only) | split | dsimp only

end Sys2Proof.Machine
end

