-- ==== Sys2Proof/Laws/KeptUnits.lean ====
section
/-! SUPPORT. What the operations and meanings of Machine/Units.lean keep (the relation Kept). -/

set_option Elab.async false

namespace Sys2Proof.Machine
open Reg
set_option linter.unusedVariables false
set_option linter.unusedTactic false
set_option linter.unreachableTactic false
set_option maxHeartbeats 400000

variable {w₀ : Nat} {s₀ : State}

theorem State.updMedia_kept {s : State} {f : MediaU → MediaU} (hw₀ : subMask 64 w₀ = true) (h₀ : Kept w₀ s₀ s) :
    Kept w₀ s₀ (State.updMedia s f) := by
  refine Kept.trans (a := 64) (t := s) ?_ hw₀ h₀
  clear h₀ hw₀
  unfold State.updMedia; try dsimp only
  repeat' first | (with_reducible first | assumption | exact Kept.refl _ _ | refine Kept.ite ?_ ?_) | (show Nat.testBit _ _ = true; rfl) | (show subMask _ _ = true; rfl) | (intro _; try dsimp only) | split | dsimp only | refine Kept.lit rfl (.inr rfl) rfl rfl rfl rfl (.inl rfl) (.inr rfl) (.inr rfl) (.inr rfl) (.inr rfl) (.inr rfl) (.inr rfl) (.inr rfl) (.inr rfl) (.inr rfl) (.inr rfl) (.inr rfl) (.inr rfl) (.inr rfl) (.inr rfl) (.inr rfl) (.inr rfl) (.inr rfl) (.inr rfl) ?_

theorem State.writeArea_kept {s : State} {d : Nat} {f : List LogRec → List LogRec} (hw₀ : subMask 64 w₀ = true) (h₀ : Kept w₀ s₀ s) :
    Kept w₀ s₀ (State.writeArea s d f) := by
  refine Kept.trans (a := 64) (t := s) ?_ hw₀ h₀
  clear h₀ hw₀
  unfold State.writeArea; try dsimp only
  repeat' first | (with_reducible first | assumption | exact Kept.refl _ _ | refine Kept.ite ?_ ?_ | refine State.updMedia_kept ?_ ?_ | refine State.foldl_kept ?_ ?_) | (show Nat.testBit _ _ = true; rfl) | (show subMask _ _ = true; rfl) | (intro _; try dsimp only) | split | dsimp only

theorem State.saveArea_kept {s : State} {d : Nat} (hw₀ : subMask 64 w₀ = true) (h₀ : Kept w₀ s₀ s) :
    Kept w₀ s₀ (State.saveArea s d) := by
  refine Kept.trans (a := 64) (t := s) ?_ hw₀ h₀
  clear h₀ hw₀
  unfold State.saveArea; try dsimp only
  repeat' first | (with_reducible first | assumption | exact Kept.refl _ _ | refine Kept.ite ?_ ?_ | refine State.writeArea_kept ?_ ?_) | (show Nat.testBit _ _ = true; rfl) | (show subMask _ _ = true; rfl) | (intro _; try dsimp only) | split | dsimp only

theorem State.updCmd_kept {s : State} {t : Nat} {f : Cmd → Cmd} (hw₀ : subMask 524288 w₀ = true) (h₀ : Kept w₀ s₀ s) :
    Kept w₀ s₀ (State.updCmd s t f) := by
  refine Kept.trans (a := 524288) (t := s) ?_ hw₀ h₀
  clear h₀ hw₀
  unfold State.updCmd; try dsimp only
  repeat' first | (with_reducible first | assumption | exact Kept.refl _ _ | refine Kept.ite ?_ ?_) | (show Nat.testBit _ _ = true; rfl) | (show subMask _ _ = true; rfl) | (intro _; try dsimp only) | split | dsimp only | refine Kept.lit rfl (.inr rfl) rfl rfl rfl rfl (.inr rfl) (.inr rfl) (.inr rfl) (.inr rfl) (.inr rfl) (.inr rfl) (.inr rfl) (.inr rfl) (.inr rfl) (.inr rfl) (.inr rfl) (.inr rfl) (.inr rfl) (.inl rfl) (.inr rfl) (.inr rfl) (.inr rfl) (.inr rfl) (.inr rfl) ?_

theorem State.updHead_kept {s : State} {h : Nat} {f : HeadU → HeadU} (hw₀ : subMask 512 w₀ = true) (h₀ : Kept w₀ s₀ s) :
    Kept w₀ s₀ (State.updHead s h f) := by
  refine Kept.trans (a := 512) (t := s) ?_ hw₀ h₀
  clear h₀ hw₀
  unfold State.updHead; try dsimp only
  repeat' first | (with_reducible first | assumption | exact Kept.refl _ _ | refine Kept.ite ?_ ?_) | (show Nat.testBit _ _ = true; rfl) | (show subMask _ _ = true; rfl) | (intro _; try dsimp only) | split | dsimp only | refine Kept.lit rfl (.inr rfl) rfl rfl rfl rfl (.inr rfl) (.inr rfl) (.inr rfl) (.inl rfl) (.inr rfl) (.inr rfl) (.inr rfl) (.inr rfl) (.inr rfl) (.inr rfl) (.inr rfl) (.inr rfl) (.inr rfl) (.inr rfl) (.inr rfl) (.inr rfl) (.inr rfl) (.inr rfl) (.inr rfl) ?_

theorem State.updSeq_kept {s : State} {a : Nat} {f : SeqU → SeqU} (hw₀ : subMask 8192 w₀ = true) (h₀ : Kept w₀ s₀ s) :
    Kept w₀ s₀ (State.updSeq s a f) := by
  refine Kept.trans (a := 8192) (t := s) ?_ hw₀ h₀
  clear h₀ hw₀
  unfold State.updSeq; try dsimp only
  repeat' first | (with_reducible first | assumption | exact Kept.refl _ _ | refine Kept.ite ?_ ?_) | (show Nat.testBit _ _ = true; rfl) | (show subMask _ _ = true; rfl) | (intro _; try dsimp only) | split | dsimp only | refine Kept.lit rfl (.inr rfl) rfl rfl rfl rfl (.inr rfl) (.inr rfl) (.inr rfl) (.inr rfl) (.inr rfl) (.inr rfl) (.inr rfl) (.inl rfl) (.inr rfl) (.inr rfl) (.inr rfl) (.inr rfl) (.inr rfl) (.inr rfl) (.inr rfl) (.inr rfl) (.inr rfl) (.inr rfl) (.inr rfl) ?_

theorem State.updLane_kept {s : State} {h : Nat} {f : Lane → Lane} (hw₀ : subMask 8192 w₀ = true) (h₀ : Kept w₀ s₀ s) :
    Kept w₀ s₀ (State.updLane s h f) := by
  refine Kept.trans (a := 8192) (t := s) ?_ hw₀ h₀
  clear h₀ hw₀
  unfold State.updLane; try dsimp only
  repeat' first | (with_reducible first | assumption | exact Kept.refl _ _ | refine Kept.ite ?_ ?_ | refine State.updSeq_kept ?_ ?_) | (show Nat.testBit _ _ = true; rfl) | (show subMask _ _ = true; rfl) | (intro _; try dsimp only) | split | dsimp only

theorem State.updSec_kept {s : State} {tok : Nat} {f : SecWork → SecWork} (hw₀ : subMask 524288 w₀ = true) (h₀ : Kept w₀ s₀ s) :
    Kept w₀ s₀ (State.updSec s tok f) := by
  refine Kept.trans (a := 524288) (t := s) ?_ hw₀ h₀
  clear h₀ hw₀
  unfold State.updSec; try dsimp only
  repeat' first | (with_reducible first | assumption | exact Kept.refl _ _ | refine Kept.ite ?_ ?_ | refine State.updCmd_kept ?_ ?_) | (show Nat.testBit _ _ = true; rfl) | (show subMask _ _ = true; rfl) | (intro _; try dsimp only) | split | dsimp only

theorem State.updZone_kept {s : State} {z : Nat} {f : Zone → Zone} (hw₀ : subMask 64 w₀ = true) (h₀ : Kept w₀ s₀ s) :
    Kept w₀ s₀ (State.updZone s z f) := by
  refine Kept.trans (a := 64) (t := s) ?_ hw₀ h₀
  clear h₀ hw₀
  unfold State.updZone; try dsimp only
  repeat' first | (with_reducible first | assumption | exact Kept.refl _ _ | refine Kept.ite ?_ ?_ | refine State.saveArea_kept ?_ ?_ | refine State.updMedia_kept ?_ ?_) | (show Nat.testBit _ _ = true; rfl) | (show subMask _ _ = true; rfl) | (intro _; try dsimp only) | split | dsimp only

theorem State.updWrp_kept {s : State} {f : WrpU → WrpU} (hw₀ : subMask 512 w₀ = true) (h₀ : Kept w₀ s₀ s) :
    Kept w₀ s₀ (State.updWrp s f) := by
  refine Kept.trans (a := 512) (t := s) ?_ hw₀ h₀
  clear h₀ hw₀
  unfold State.updWrp; try dsimp only
  repeat' first | (with_reducible first | assumption | exact Kept.refl _ _ | refine Kept.ite ?_ ?_) | (show Nat.testBit _ _ = true; rfl) | (show subMask _ _ = true; rfl) | (intro _; try dsimp only) | split | dsimp only | refine Kept.lit rfl (.inr rfl) rfl rfl rfl rfl (.inr rfl) (.inr rfl) (.inr rfl) (.inl rfl) (.inr rfl) (.inr rfl) (.inr rfl) (.inr rfl) (.inr rfl) (.inr rfl) (.inr rfl) (.inr rfl) (.inr rfl) (.inr rfl) (.inr rfl) (.inr rfl) (.inr rfl) (.inr rfl) (.inr rfl) ?_

theorem State.updCtl_kept {s : State} {f : CtlU → CtlU} (hw₀ : subMask 2048 w₀ = true) (h₀ : Kept w₀ s₀ s) :
    Kept w₀ s₀ (State.updCtl s f) := by
  refine Kept.trans (a := 2048) (t := s) ?_ hw₀ h₀
  clear h₀ hw₀
  unfold State.updCtl; try dsimp only
  repeat' first | (with_reducible first | assumption | exact Kept.refl _ _ | refine Kept.ite ?_ ?_) | (show Nat.testBit _ _ = true; rfl) | (show subMask _ _ = true; rfl) | (intro _; try dsimp only) | split | dsimp only | refine Kept.lit rfl (.inr rfl) rfl rfl rfl rfl (.inr rfl) (.inr rfl) (.inr rfl) (.inr rfl) (.inr rfl) (.inl rfl) (.inr rfl) (.inr rfl) (.inr rfl) (.inr rfl) (.inr rfl) (.inr rfl) (.inr rfl) (.inr rfl) (.inr rfl) (.inr rfl) (.inr rfl) (.inr rfl) (.inr rfl) ?_

theorem State.updPort_kept {s : State} {a : Nat} {f : PaPort → PaPort} (hw₀ : subMask 512 w₀ = true) (h₀ : Kept w₀ s₀ s) :
    Kept w₀ s₀ (State.updPort s a f) := by
  refine Kept.trans (a := 512) (t := s) ?_ hw₀ h₀
  clear h₀ hw₀
  unfold State.updPort; try dsimp only
  repeat' first | (with_reducible first | assumption | exact Kept.refl _ _ | refine Kept.ite ?_ ?_) | (show Nat.testBit _ _ = true; rfl) | (show subMask _ _ = true; rfl) | (intro _; try dsimp only) | split | dsimp only | refine Kept.lit rfl (.inr rfl) rfl rfl rfl rfl (.inr rfl) (.inr rfl) (.inr rfl) (.inl rfl) (.inr rfl) (.inr rfl) (.inr rfl) (.inr rfl) (.inr rfl) (.inr rfl) (.inr rfl) (.inr rfl) (.inr rfl) (.inr rfl) (.inr rfl) (.inr rfl) (.inr rfl) (.inr rfl) (.inr rfl) ?_

theorem State.updChan_kept {s : State} {n : Nat} {f : ChanU → ChanU} (hw₀ : subMask 128 w₀ = true) (h₀ : Kept w₀ s₀ s) :
    Kept w₀ s₀ (State.updChan s n f) := by
  refine Kept.trans (a := 128) (t := s) ?_ hw₀ h₀
  clear h₀ hw₀
  unfold State.updChan; try dsimp only
  repeat' first | (with_reducible first | assumption | exact Kept.refl _ _ | refine Kept.ite ?_ ?_) | (show Nat.testBit _ _ = true; rfl) | (show subMask _ _ = true; rfl) | (intro _; try dsimp only) | split | dsimp only | refine Kept.lit rfl (.inr rfl) rfl rfl rfl rfl (.inr rfl) (.inl rfl) (.inr rfl) (.inr rfl) (.inr rfl) (.inr rfl) (.inr rfl) (.inr rfl) (.inr rfl) (.inr rfl) (.inr rfl) (.inr rfl) (.inr rfl) (.inr rfl) (.inr rfl) (.inr rfl) (.inr rfl) (.inr rfl) (.inr rfl) ?_

theorem State.updDec_kept {s : State} {f : DecU → DecU} (hw₀ : subMask 256 w₀ = true) (h₀ : Kept w₀ s₀ s) :
    Kept w₀ s₀ (State.updDec s f) := by
  refine Kept.trans (a := 256) (t := s) ?_ hw₀ h₀
  clear h₀ hw₀
  unfold State.updDec; try dsimp only
  repeat' first | (with_reducible first | assumption | exact Kept.refl _ _ | refine Kept.ite ?_ ?_) | (show Nat.testBit _ _ = true; rfl) | (show subMask _ _ = true; rfl) | (intro _; try dsimp only) | split | dsimp only | refine Kept.lit rfl (.inr rfl) rfl rfl rfl rfl (.inr rfl) (.inr rfl) (.inl rfl) (.inr rfl) (.inr rfl) (.inr rfl) (.inr rfl) (.inr rfl) (.inr rfl) (.inr rfl) (.inr rfl) (.inr rfl) (.inr rfl) (.inr rfl) (.inr rfl) (.inr rfl) (.inr rfl) (.inr rfl) (.inr rfl) ?_

theorem State.updEng_kept {s : State} {n : Nat} {f : EngU → EngU} (hw₀ : subMask 256 w₀ = true) (h₀ : Kept w₀ s₀ s) :
    Kept w₀ s₀ (State.updEng s n f) := by
  refine Kept.trans (a := 256) (t := s) ?_ hw₀ h₀
  clear h₀ hw₀
  unfold State.updEng; try dsimp only
  repeat' first | (with_reducible first | assumption | exact Kept.refl _ _ | refine Kept.ite ?_ ?_ | refine State.updDec_kept ?_ ?_) | (show Nat.testBit _ _ = true; rfl) | (show subMask _ _ = true; rfl) | (intro _; try dsimp only) | split | dsimp only

end Sys2Proof.Machine
end

