-- ==== Sys2Proof/Laws/KeptViews.lean ====
section
/-! SUPPORT. What the operations and meanings of Machine/Views.lean keep (the relation Kept). -/

set_option Elab.async false

namespace Sys2Proof.Machine
open Reg
set_option linter.unusedVariables false
set_option linter.unusedTactic false
set_option linter.unreachableTactic false
set_option maxHeartbeats 400000

variable {w₀ : Nat} {s₀ : State}

theorem State.seenBy_kept {s : State} {w : Initiator} {a : Nat} (hw₀ : subMask 8 w₀ = true) (h₀ : Kept w₀ s₀ s) :
    Kept w₀ s₀ (State.seenBy s w a) := by
  refine Kept.trans (a := 8) (t := s) ?_ hw₀ h₀
  clear h₀ hw₀
  unfold State.seenBy; try dsimp only
  repeat' first | (with_reducible first | assumption | exact Kept.refl _ _ | refine Kept.ite ?_ ?_ | refine State.updWatch_kept ?_ ?_ ?_) | (show Nat.testBit _ _ = true; rfl) | (show subMask _ _ = true; rfl) | exact ⟨fun _ h => h⟩ | exact ⟨fun _ h => List.mem_append_left _ h⟩ | (intro _; try dsimp only) | split | dsimp only

end Sys2Proof.Machine
end

