-- ==== Sys2Proof/Laws/KeptHostOps.lean ====
section
/-! SUPPORT. What the operations and meanings of Machine/HostOps.lean keep (the relation Kept). -/

set_option Elab.async false

namespace Sys2Proof.Machine
open Reg
set_option linter.unusedVariables false
set_option linter.unusedTactic false
set_option linter.unreachableTactic false
set_option maxHeartbeats 400000

variable {w₀ : Nat} {s₀ : State}

theorem State.updLink_kept {s : State} {f : LinkU → LinkU} (hw₀ : subMask 131072 w₀ = true) (h₀ : Kept w₀ s₀ s) :
    Kept w₀ s₀ (State.updLink s f) := by
  refine Kept.trans (a := 131072) (t := s) ?_ hw₀ h₀
  clear h₀ hw₀
  unfold State.updLink; try dsimp only
  repeat' first | (with_reducible first | assumption | exact Kept.refl _ _ | refine Kept.ite ?_ ?_) | (show Nat.testBit _ _ = true; rfl) | (show subMask _ _ = true; rfl) | (intro _; try dsimp only) | split | dsimp only | refine Kept.lit rfl (.inr rfl) rfl rfl rfl rfl (.inr rfl) (.inr rfl) (.inr rfl) (.inr rfl) (.inr rfl) (.inr rfl) (.inr rfl) (.inr rfl) (.inr rfl) (.inr rfl) (.inr rfl) (.inl rfl) (.inr rfl) (.inr rfl) (.inr rfl) (.inr rfl) (.inr rfl) (.inr rfl) (.inr rfl) ?_

theorem State.msixSend_kept {s : State} {v : Nat} (hw₀ : subMask 4325376 w₀ = true) (h₀ : Kept w₀ s₀ s) :
    Kept w₀ s₀ (State.msixSend s v) := by
  refine Kept.trans (a := 4325376) (t := s) ?_ hw₀ h₀
  clear h₀ hw₀
  unfold State.msixSend; try dsimp only
  repeat' first | (with_reducible first | assumption | exact Kept.refl _ _ | refine Kept.ite ?_ ?_ | refine State.emit_kept ?_ ?_ | refine State.updLink_kept ?_ ?_) | (show Nat.testBit _ _ = true; rfl) | (show subMask _ _ = true; rfl) | (intro _; try dsimp only) | split | dsimp only

theorem State.hostPut_kept {s : State} {ro ns : Bool} {x0_ : Nat} {x1_ : Nat} {x2_ : List Byte} (hw₀ : subMask 4194304 w₀ = true) (h₀ : Kept w₀ s₀ s) :
    Kept w₀ s₀ (State.hostPut s ro ns x0_ x1_ x2_) := by
  refine Kept.trans (a := 4194304) (t := s) ?_ hw₀ h₀
  clear h₀ hw₀
  induction x0_ generalizing s ro ns x1_ x2_ with
  | zero =>
    unfold State.hostPut; try dsimp only
    repeat' first | (with_reducible first | assumption | exact Kept.refl _ _ | refine Kept.ite ?_ ?_ | refine State.emit_kept ?_ ?_ | refine Kept.trans ih ?_ ?_) | (show Nat.testBit _ _ = true; rfl) | (show subMask _ _ = true; rfl) | (intro _; try dsimp only) | split | dsimp only
  | succ n_ ih =>
    unfold State.hostPut; try dsimp only
    repeat' first | (with_reducible first | assumption | exact Kept.refl _ _ | refine Kept.ite ?_ ?_ | refine State.emit_kept ?_ ?_ | refine Kept.trans ih ?_ ?_) | (show Nat.testBit _ _ = true; rfl) | (show subMask _ _ = true; rfl) | (intro _; try dsimp only) | split | dsimp only

theorem State.hostStore_kept {s : State} {ns : Bool} {addr : Nat} {bs : List Byte} (hw₀ : subMask 4194304 w₀ = true) (h₀ : Kept w₀ s₀ s) :
    Kept w₀ s₀ (State.hostStore s ns addr bs) := by
  refine Kept.trans (a := 4194304) (t := s) ?_ hw₀ h₀
  clear h₀ hw₀
  unfold State.hostStore; try dsimp only
  repeat' first | (with_reducible first | assumption | exact Kept.refl _ _ | refine Kept.ite ?_ ?_ | refine State.hostPut_kept ?_ ?_) | (show Nat.testBit _ _ = true; rfl) | (show subMask _ _ = true; rfl) | (intro _; try dsimp only) | split | dsimp only

theorem State.msixFlush_kept {s : State} (hw₀ : subMask 4325376 w₀ = true) (h₀ : Kept w₀ s₀ s) :
    Kept w₀ s₀ (State.msixFlush s) := by
  refine Kept.trans (a := 4325376) (t := s) ?_ hw₀ h₀
  clear h₀ hw₀
  unfold State.msixFlush; try dsimp only
  repeat' first | (with_reducible first | assumption | exact Kept.refl _ _ | refine Kept.ite ?_ ?_ | refine State.emit_kept ?_ ?_ | refine State.forEach_kept ?_ ?_ | refine State.updLink_kept ?_ ?_) | (show Nat.testBit _ _ = true; rfl) | (show subMask _ _ = true; rfl) | (intro _; try dsimp only) | split | dsimp only

end Sys2Proof.Machine
end

