-- ==== Sys2Proof/Laws/KeptFaults.lean ====
section
/-! SUPPORT. What the operations and meanings of Machine/Faults.lean keep (the relation Kept). -/

set_option Elab.async false

namespace Sys2Proof.Machine
open Reg
set_option linter.unusedVariables false
set_option linter.unusedTactic false
set_option linter.unreachableTactic false
set_option maxHeartbeats 400000

variable {w₀ : Nat} {s₀ : State}

theorem State.logRec_kept {s : State} {typ source cls detail : Nat} {injected : Bool} {suppressed : Nat} (hw₀ : subMask 44384376587918356619345083307102957096416090370664438769721192661557492653857241418819590297713921840012145244218093114668500385801 w₀ = true) (h₀ : Kept w₀ s₀ s) :
    Kept w₀ s₀ (State.logRec s typ source cls detail injected suppressed) := by
  refine Kept.trans (a := 44384376587918356619345083307102957096416090370664438769721192661557492653857241418819590297713921840012145244218093114668500385801) (t := s) ?_ hw₀ h₀
  clear h₀ hw₀
  unfold State.logRec; try dsimp only
  repeat' first | (with_reducible first | assumption | exact Kept.refl _ _ | refine Kept.ite ?_ ?_ | apply State.inc_kept | refine State.updWatch_kept ?_ ?_ ?_ | apply State.wr_kept) | (show Nat.testBit _ _ = true; rfl) | (show subMask _ _ = true; rfl) | exact inFam_LOG_CNT | exact inFam_LOG_STAT | exact wrsOk_nil | apply wrsOk_cons | exact ⟨fun _ h => h⟩ | exact ⟨fun _ h => List.mem_append_left _ h⟩ | (intro _; try dsimp only) | split | dsimp only

theorem State.logEvent_kept {s : State} {typ source detail : Nat} (hw₀ : subMask 44384376587918356619345083307102957096416090370664438769721192661557492653857241418819590297713921840012145244218093114668500385801 w₀ = true) (h₀ : Kept w₀ s₀ s) :
    Kept w₀ s₀ (State.logEvent s typ source detail) := by
  refine Kept.trans (a := 44384376587918356619345083307102957096416090370664438769721192661557492653857241418819590297713921840012145244218093114668500385801) (t := s) ?_ hw₀ h₀
  clear h₀ hw₀
  unfold State.logEvent; try dsimp only
  repeat' first | (with_reducible first | assumption | exact Kept.refl _ _ | refine Kept.ite ?_ ?_ | refine State.logRec_kept ?_ ?_) | (show Nat.testBit _ _ = true; rfl) | (show subMask _ _ = true; rfl) | (intro _; try dsimp only) | split | dsimp only

theorem State.markFenced_kept {s : State} {u : FUnit} (hw₀ : subMask 8 w₀ = true) (h₀ : Kept w₀ s₀ s) :
    Kept w₀ s₀ (State.markFenced s u) := by
  refine Kept.trans (a := 8) (t := s) ?_ hw₀ h₀
  clear h₀ hw₀
  unfold State.markFenced; try dsimp only
  repeat' first | (with_reducible first | assumption | exact Kept.refl _ _ | refine Kept.ite ?_ ?_ | refine State.updWatch_kept ?_ ?_ ?_) | (show Nat.testBit _ _ = true; rfl) | (show subMask _ _ = true; rfl) | exact ⟨fun _ h => h⟩ | exact ⟨fun _ h => List.mem_append_left _ h⟩ | (intro _; try dsimp only) | split | dsimp only

theorem State.capture_kept {s : State} {c src : Nat} {x : RaiseCtx} (hw₀ : subMask 335816432145446288267572976480647688232829578945854859396601587999398141948046163679196118903375364702576335708711866026950657 w₀ = true) (h₀ : Kept w₀ s₀ s) :
    Kept w₀ s₀ (State.capture s c src x) := by
  refine Kept.trans (a := 335816432145446288267572976480647688232829578945854859396601587999398141948046163679196118903375364702576335708711866026950657) (t := s) ?_ hw₀ h₀
  clear h₀ hw₀
  unfold State.capture; try dsimp only
  repeat' first | (with_reducible first | assumption | exact Kept.refl _ _ | refine Kept.ite ?_ ?_ | refine State.freeNext_kept ?_ ?_ | apply State.inc_kept | refine State.when_kept ?_ ?_ | refine State.wrs_kept ?_ ?_ ?_) | (show Nat.testBit _ _ = true; rfl) | (show subMask _ _ = true; rfl) | exact inFam_WCH_FEC_ADDR_HI | exact inFam_WCH_FEC_ADDR_LO | exact inFam_WCH_FEC_BELL_HI | exact inFam_WCH_FEC_BELL_LO | exact inFam_WCH_FEC_CTRL | exact inFam_WCH_FEC_FINE | exact inFam_WCH_FEC_INFO | exact wrsOk_nil | apply wrsOk_cons | (intro _; try dsimp only) | split | dsimp only

theorem State.countRaise_kept {s : State} {src cls : Nat} (hw₀ : subMask 30986998537042903075871030064036142491956469513950682153967912278487771464202094335555744239361653977230838063672969920521 w₀ = true) (h₀ : Kept w₀ s₀ s) :
    Kept w₀ s₀ (State.countRaise s src cls) := by
  refine Kept.trans (a := 30986998537042903075871030064036142491956469513950682153967912278487771464202094335555744239361653977230838063672969920521) (t := s) ?_ hw₀ h₀
  clear h₀ hw₀
  unfold State.countRaise; try dsimp only
  repeat' first | (with_reducible first | assumption | exact Kept.refl _ _ | refine Kept.ite ?_ ?_ | apply State.inc_kept | refine State.updWatch_kept ?_ ?_ ?_ | apply State.wr_kept) | (show Nat.testBit _ _ = true; rfl) | (show subMask _ _ = true; rfl) | exact inFam_WCH_CLASS_CNT | exact inFam_WCH_RAISED | exact wrsOk_nil | apply wrsOk_cons | exact ⟨fun _ h => h⟩ | exact ⟨fun _ h => List.mem_append_left _ h⟩ | (intro _; try dsimp only) | split | dsimp only

theorem State.faultNLevel_kept {s : State} (hw₀ : subMask 80695308690215893426747474125094121072803306025913234775958104891895238188026287332176417290004307232371974124148359169 w₀ = true) (h₀ : Kept w₀ s₀ s) :
    Kept w₀ s₀ (State.faultNLevel s) := by
  refine Kept.trans (a := 80695308690215893426747474125094121072803306025913234775958104891895238188026287332176417290004307232371974124148359169) (t := s) ?_ hw₀ h₀
  clear h₀ hw₀
  unfold State.faultNLevel; try dsimp only
  repeat' first | (with_reducible first | assumption | exact Kept.refl _ _ | refine Kept.ite ?_ ?_ | apply State.wr_kept) | (show Nat.testBit _ _ = true; rfl) | (show subMask _ _ = true; rfl) | exact inFam_WCH_FN_CTRL | exact wrsOk_nil | apply wrsOk_cons | (intro _; try dsimp only) | split | dsimp only

theorem State.faultNPulse_kept {s : State} (hw₀ : subMask 80695308690215893426747474125094121072803306025913234775958104891895238188026287332176417290004307232371974124148359169 w₀ = true) (h₀ : Kept w₀ s₀ s) :
    Kept w₀ s₀ (State.faultNPulse s) := by
  refine Kept.trans (a := 80695308690215893426747474125094121072803306025913234775958104891895238188026287332176417290004307232371974124148359169) (t := s) ?_ hw₀ h₀
  clear h₀ hw₀
  unfold State.faultNPulse; try dsimp only
  repeat' first | (with_reducible first | assumption | exact Kept.refl _ _ | refine Kept.ite ?_ ?_ | refine State.faultNLevel_kept ?_ ?_ | apply State.setB_kept) | (show Nat.testBit _ _ = true; rfl) | (show subMask _ _ = true; rfl) | exact inFam_WCH_FN_CTRL | exact wrsOk_nil | apply wrsOk_cons | (intro _; try dsimp only) | split | dsimp only

theorem State.injDone_kept {s : State} (hw₀ : subMask 161390617380431786853494948250188242145606612051826469551916209783790476376052574664352834580008614464743948248300912649 w₀ = true) (h₀ : Kept w₀ s₀ s) :
    Kept w₀ s₀ (State.injDone s) := by
  refine Kept.trans (a := 161390617380431786853494948250188242145606612051826469551916209783790476376052574664352834580008614464743948248300912649) (t := s) ?_ hw₀ h₀
  clear h₀ hw₀
  unfold State.injDone; try dsimp only
  repeat' first | (with_reducible first | assumption | exact Kept.refl _ _ | refine Kept.ite ?_ ?_ | apply State.raiseBit_kept | refine State.updWatch_kept ?_ ?_ ?_) | (show Nat.testBit _ _ = true; rfl) | (show subMask _ _ = true; rfl) | exact inFam_WCH_STATUS | exact wrsOk_nil | apply wrsOk_cons | exact ⟨fun _ h => h⟩ | exact ⟨fun _ h => List.mem_append_left _ h⟩ | (intro _; try dsimp only) | split | dsimp only

theorem State.logSource_kept {s : State} {src cls detail : Nat} {injected : Bool} (hw₀ : subMask 44384376587918356619345083307102957096416090370664438769721192661557492653857241418819590297713921840012145244218093114668500385801 w₀ = true) (h₀ : Kept w₀ s₀ s) :
    Kept w₀ s₀ (State.logSource s src cls detail injected) := by
  refine Kept.trans (a := 44384376587918356619345083307102957096416090370664438769721192661557492653857241418819590297713921840012145244218093114668500385801) (t := s) ?_ hw₀ h₀
  clear h₀ hw₀
  unfold State.logSource; try dsimp only
  repeat' first | (with_reducible first | assumption | exact Kept.refl _ _ | refine Kept.ite ?_ ?_ | apply State.inc_kept | refine State.logRec_kept ?_ ?_ | refine State.updWatch_kept ?_ ?_ ?_) | (show Nat.testBit _ _ = true; rfl) | (show subMask _ _ = true; rfl) | exact inFam_LOG_CNT | exact wrsOk_nil | apply wrsOk_cons | exact ⟨fun _ h => h⟩ | exact ⟨fun _ h => List.mem_append_left _ h⟩ | (intro _; try dsimp only) | split | dsimp only

theorem State.logFree_kept {s : State} {typ source : Nat} (hw₀ : subMask 44384376587918356619345083307102957096416090370664438769721192661557492653857241418819590297713921840012145244218093114668508774409 w₀ = true) (h₀ : Kept w₀ s₀ s) :
    Kept w₀ s₀ (State.logFree s typ source) := by
  refine Kept.trans (a := 44384376587918356619345083307102957096416090370664438769721192661557492653857241418819590297713921840012145244218093114668508774409) (t := s) ?_ hw₀ h₀
  clear h₀ hw₀
  unfold State.logFree; try dsimp only
  repeat' first | (with_reducible first | assumption | exact Kept.refl _ _ | refine Kept.ite ?_ ?_ | refine State.freeNext_kept ?_ ?_ | refine State.logEvent_kept ?_ ?_) | (show Nat.testBit _ _ = true; rfl) | (show subMask _ _ = true; rfl) | (intro _; try dsimp only) | split | dsimp only

theorem State.setMode_kept {s : State} {m : Mode} (hw₀ : subMask 44384376588039399582380407147243078307603731552273643728760062513721429811195084276101629728712186465947151705066651638804684734473 w₀ = true) (h₀ : Kept w₀ s₀ s) :
    Kept w₀ s₀ (State.setMode s m) := by
  refine Kept.trans (a := 44384376588039399582380407147243078307603731552273643728760062513721429811195084276101629728712186465947151705066651638804684734473) (t := s) ?_ hw₀ h₀
  clear h₀ hw₀
  unfold State.setMode; try dsimp only
  repeat' first | (with_reducible first | assumption | exact Kept.refl _ _ | refine Kept.ite ?_ ?_ | refine State.logFree_kept ?_ ?_ | apply State.setB_kept | refine State.when_kept ?_ ?_ | apply State.wr_kept) | (show Nat.testBit _ _ = true; rfl) | (show subMask _ _ = true; rfl) | exact inFam_SYS_MODE | exact inFam_WCH_CTRL | exact inFam_WCH_FN_CTRL | exact wrsOk_nil | apply wrsOk_cons | (intro _; try dsimp only) | split | dsimp only

theorem State.unitFaultMode_kept {s : State} {fences : Bool} (hw₀ : subMask 44384376588039399582380407147243078307603731552273643728760062513721429811195084276101629728712186465947151705066651638804684734473 w₀ = true) (h₀ : Kept w₀ s₀ s) :
    Kept w₀ s₀ (State.unitFaultMode s fences) := by
  refine Kept.trans (a := 44384376588039399582380407147243078307603731552273643728760062513721429811195084276101629728712186465947151705066651638804684734473) (t := s) ?_ hw₀ h₀
  clear h₀ hw₀
  unfold State.unitFaultMode; try dsimp only
  repeat' first | (with_reducible first | assumption | exact Kept.refl _ _ | refine Kept.ite ?_ ?_ | apply State.setB_kept | refine State.setMode_kept ?_ ?_) | (show Nat.testBit _ _ = true; rfl) | (show subMask _ _ = true; rfl) | exact inFam_SYS_MODE | exact wrsOk_nil | apply wrsOk_cons | (intro _; try dsimp only) | split | dsimp only

theorem State.wlogItem_kept {s : State} {src cls detail : Nat} (hw₀ : subMask 1322273328197877629690684111013792267898954972540614265038849506758595372948998744225042773714010578309647167998295017521161 w₀ = true) (h₀ : Kept w₀ s₀ s) :
    Kept w₀ s₀ (State.wlogItem s src cls detail) := by
  refine Kept.trans (a := 1322273328197877629690684111013792267898954972540614265038849506758595372948998744225042773714010578309647167998295017521161) (t := s) ?_ hw₀ h₀
  clear h₀ hw₀
  unfold State.wlogItem; try dsimp only
  repeat' first | (with_reducible first | assumption | exact Kept.refl _ _ | refine Kept.ite ?_ ?_ | apply State.inc_kept | apply State.raiseBit_kept | refine State.updWatch_kept ?_ ?_ ?_) | (show Nat.testBit _ _ = true; rfl) | (show subMask _ _ = true; rfl) | exact inFam_WCH_STATUS | exact inFam_WCH_WLOG_CNT | exact wrsOk_nil | apply wrsOk_cons | exact ⟨fun _ h => h⟩ | exact ⟨fun _ h => List.mem_append_left _ h⟩ | (intro _; try dsimp only) | split | dsimp only

theorem State.raiseSrc_kept {s : State} {src : Nat} {x : RaiseCtx} (hw₀ : subMask 44384713757731871763589207486774700033120374772764031638184406308126848246420176735466147485429607794684086568280366412638690869257 w₀ = true) (h₀ : Kept w₀ s₀ s) :
    Kept w₀ s₀ (State.raiseSrc s src x) := by
  refine Kept.trans (a := 44384713757731871763589207486774700033120374772764031638184406308126848246420176735466147485429607794684086568280366412638690869257) (t := s) ?_ hw₀ h₀
  clear h₀ hw₀
  unfold State.raiseSrc; try dsimp only
  repeat' first | (with_reducible first | assumption | exact Kept.refl _ _ | refine Kept.ite ?_ ?_ | refine State.capture_kept ?_ ?_ | refine State.countRaise_kept ?_ ?_ | refine State.emit_kept ?_ ?_ | refine State.faultNPulse_kept ?_ ?_ | refine State.injDone_kept ?_ ?_ | refine State.irqIf_kept ?_ ?_ | refine State.logSource_kept ?_ ?_ | refine State.msixSend_kept ?_ ?_ | apply State.raiseBit_kept | refine State.unitFaultMode_kept ?_ ?_ | refine State.updWatch_kept ?_ ?_ ?_ | refine State.when_kept ?_ ?_ | refine State.wlogItem_kept ?_ ?_) | (show Nat.testBit _ _ = true; rfl) | (show subMask _ _ = true; rfl) | exact inFam_WCH_STATUS | exact wrsOk_nil | apply wrsOk_cons | exact ⟨fun _ h => h⟩ | exact ⟨fun _ h => List.mem_append_left _ h⟩ | (intro _; try dsimp only) | split | dsimp only

theorem State.refuse_kept {s : State} {ofs cause group init : Nat} {holding : Bool} (hw₀ : subMask 4672928612357 w₀ = true) (h₀ : Kept w₀ s₀ s) :
    Kept w₀ s₀ (State.refuse s ofs cause group init holding) := by
  refine Kept.trans (a := 4672928612357) (t := s) ?_ hw₀ h₀
  clear h₀ hw₀
  unfold State.refuse; try dsimp only
  repeat' first | (with_reducible first | assumption | exact Kept.refl _ _ | refine Kept.ite ?_ ?_ | apply State.inc_kept | apply State.raiseBit_kept | refine State.updSys_kept ?_ ?_ ?_) | (show Nat.testBit _ _ = true; rfl) | (show subMask _ _ = true; rfl) | exact inFam_SYS_REF_CNT | exact inFam_SYS_STATUS | exact wrsOk_nil | apply wrsOk_cons | exact SysU.holds_same rfl rfl | (intro _; try dsimp only) | split | dsimp only

theorem State.refuseW_kept {s : State} {w : Initiator} {ofs cause : Nat} (hw₀ : subMask 4672928612357 w₀ = true) (h₀ : Kept w₀ s₀ s) :
    Kept w₀ s₀ (State.refuseW s w ofs cause) := by
  refine Kept.trans (a := 4672928612357) (t := s) ?_ hw₀ h₀
  clear h₀ hw₀
  unfold State.refuseW; try dsimp only
  repeat' first | (with_reducible first | assumption | exact Kept.refl _ _ | refine Kept.ite ?_ ?_ | refine State.refuse_kept ?_ ?_) | (show Nat.testBit _ _ = true; rfl) | (show subMask _ _ = true; rfl) | (intro _; try dsimp only) | split | dsimp only

theorem State.raise0_kept {s : State} {src : Nat} (hw₀ : subMask 44384713757731871763589207486774700033120374772764031638184406308126848246420176735466147485429607794684086568280366412638690869257 w₀ = true) (h₀ : Kept w₀ s₀ s) :
    Kept w₀ s₀ (State.raise0 s src) := by
  refine Kept.trans (a := 44384713757731871763589207486774700033120374772764031638184406308126848246420176735466147485429607794684086568280366412638690869257) (t := s) ?_ hw₀ h₀
  clear h₀ hw₀
  unfold State.raise0; try dsimp only
  repeat' first | (with_reducible first | assumption | exact Kept.refl _ _ | refine Kept.ite ?_ ?_ | refine State.raiseSrc_kept ?_ ?_) | (show Nat.testBit _ _ = true; rfl) | (show subMask _ _ = true; rfl) | (intro _; try dsimp only) | split | dsimp only

end Sys2Proof.Machine
end

