-- ==== Sys2Proof/Laws/KeptCommon.lean ====
section
/-! SUPPORT. What the operations and meanings of Machine/Common.lean keep (the relation Kept). -/

set_option Elab.async false

namespace Sys2Proof.Machine
open Reg
set_option linter.unusedVariables false
set_option linter.unusedTactic false
set_option linter.unreachableTactic false
set_option maxHeartbeats 400000

variable {w₀ : Nat} {s₀ : State}

theorem State.updLoop_kept {s : State} {n : Nat} {f : CtlLoop → CtlLoop} (hw₀ : subMask 2048 w₀ = true) (h₀ : Kept w₀ s₀ s) :
    Kept w₀ s₀ (State.updLoop s n f) := by
  refine Kept.trans (a := 2048) (t := s) ?_ hw₀ h₀
  clear h₀ hw₀
  unfold State.updLoop; try dsimp only
  repeat' first | (with_reducible first | assumption | exact Kept.refl _ _ | refine Kept.ite ?_ ?_) | (show Nat.testBit _ _ = true; rfl) | (show subMask _ _ = true; rfl) | (intro _; try dsimp only) | split | dsimp only | refine Kept.lit rfl (.inr rfl) rfl rfl rfl rfl (.inr rfl) (.inr rfl) (.inr rfl) (.inr rfl) (.inr rfl) (.inl rfl) (.inr rfl) (.inr rfl) (.inr rfl) (.inr rfl) (.inr rfl) (.inr rfl) (.inr rfl) (.inr rfl) (.inr rfl) (.inr rfl) (.inr rfl) (.inr rfl) (.inr rfl) ?_

theorem State.growDefect_kept {s : State} {z slot : Nat} {spare : Option Nat} (hw₀ : subMask 64 w₀ = true) (h₀ : Kept w₀ s₀ s) :
    Kept w₀ s₀ (State.growDefect s z slot spare) := by
  refine Kept.trans (a := 64) (t := s) ?_ hw₀ h₀
  clear h₀ hw₀
  unfold State.growDefect; try dsimp only
  repeat' first | (with_reducible first | assumption | exact Kept.refl _ _ | refine Kept.ite ?_ ?_ | refine State.saveArea_kept ?_ ?_ | refine State.updMedia_kept ?_ ?_) | (show Nat.testBit _ _ = true; rfl) | (show subMask _ _ = true; rfl) | (intro _; try dsimp only) | split | dsimp only

theorem State.cmdFail_kept {s : State} {tag status lba : Nat} (hw₀ : subMask 524288 w₀ = true) (h₀ : Kept w₀ s₀ s) :
    Kept w₀ s₀ (State.cmdFail s tag status lba) := by
  refine Kept.trans (a := 524288) (t := s) ?_ hw₀ h₀
  clear h₀ hw₀
  unfold State.cmdFail; try dsimp only
  repeat' first | (with_reducible first | assumption | exact Kept.refl _ _ | refine Kept.ite ?_ ?_ | refine State.updCmd_kept ?_ ?_) | (show Nat.testBit _ _ = true; rfl) | (show subMask _ _ = true; rfl) | (intro _; try dsimp only) | split | dsimp only

theorem State.closeGate_kept {s : State} {h : Nat} (hw₀ : subMask 29642774844752946028434172162224104410437116074403984394101141506025761192018433 w₀ = true) (h₀ : Kept w₀ s₀ s) :
    Kept w₀ s₀ (State.closeGate s h) := by
  refine Kept.trans (a := 29642774844752946028434172162224104410437116074403984394101141506025761192018433) (t := s) ?_ hw₀ h₀
  clear h₀ hw₀
  unfold State.closeGate; try dsimp only
  repeat' first | (with_reducible first | assumption | exact Kept.refl _ _ | refine Kept.ite ?_ ?_ | apply State.clr_kept | refine State.emit_kept ?_ ?_ | refine State.updHead_kept ?_ ?_) | (show Nat.testBit _ _ = true; rfl) | (show subMask _ _ = true; rfl) | exact inFam_WRP_STATUS | exact wrsOk_nil | apply wrsOk_cons | (intro _; try dsimp only) | split | dsimp only

theorem State.cancelToken_kept {s : State} {h tok : Nat} (hw₀ : subMask 8192 w₀ = true) (h₀ : Kept w₀ s₀ s) :
    Kept w₀ s₀ (State.cancelToken s h tok) := by
  refine Kept.trans (a := 8192) (t := s) ?_ hw₀ h₀
  clear h₀ hw₀
  unfold State.cancelToken; try dsimp only
  repeat' first | (with_reducible first | assumption | exact Kept.refl _ _ | refine Kept.ite ?_ ?_ | refine State.updSeq_kept ?_ ?_) | (show Nat.testBit _ _ = true; rfl) | (show subMask _ _ = true; rfl) | (intro _; try dsimp only) | split | dsimp only

theorem State.unlist_kept {s : State} {h tok : Nat} (hw₀ : subMask 8704 w₀ = true) (h₀ : Kept w₀ s₀ s) :
    Kept w₀ s₀ (State.unlist s h tok) := by
  refine Kept.trans (a := 8704) (t := s) ?_ hw₀ h₀
  clear h₀ hw₀
  unfold State.unlist; try dsimp only
  repeat' first | (with_reducible first | assumption | exact Kept.refl _ _ | refine Kept.ite ?_ ?_ | refine State.cancelToken_kept ?_ ?_ | refine State.updHead_kept ?_ ?_ | refine State.updLane_kept ?_ ?_) | (show Nat.testBit _ _ = true; rfl) | (show subMask _ _ = true; rfl) | (intro _; try dsimp only) | split | dsimp only

theorem State.unplace_kept {s : State} {z : Nat} {cut : Placed → Bool} (hw₀ : subMask 29642774844752946028434172162224104410437116074403984394101141506025761192550977 w₀ = true) (h₀ : Kept w₀ s₀ s) :
    Kept w₀ s₀ (State.unplace s z cut) := by
  refine Kept.trans (a := 29642774844752946028434172162224104410437116074403984394101141506025761192550977) (t := s) ?_ hw₀ h₀
  clear h₀ hw₀
  unfold State.unplace; try dsimp only
  repeat' first | (with_reducible first | assumption | exact Kept.refl _ _ | refine Kept.ite ?_ ?_ | refine State.closeGate_kept ?_ ?_ | refine State.cmdFail_kept ?_ ?_ | refine State.forEach_kept ?_ ?_ | refine State.unlist_kept ?_ ?_ | refine State.updSec_kept ?_ ?_ | refine State.updZone_kept ?_ ?_) | (show Nat.testBit _ _ = true; rfl) | (show subMask _ _ = true; rfl) | (intro _; try dsimp only) | split | dsimp only

theorem State.zoneReadOnly_kept {s : State} {z h : Nat} (hw₀ : subMask 44384376587918356619345083307102957096416090370664438769721192661557492653857241418819590297713921840012145244218093114668500385865 w₀ = true) (h₀ : Kept w₀ s₀ s) :
    Kept w₀ s₀ (State.zoneReadOnly s z h) := by
  refine Kept.trans (a := 44384376587918356619345083307102957096416090370664438769721192661557492653857241418819590297713921840012145244218093114668500385865) (t := s) ?_ hw₀ h₀
  clear h₀ hw₀
  unfold State.zoneReadOnly; try dsimp only
  repeat' first | (with_reducible first | assumption | exact Kept.refl _ _ | refine Kept.ite ?_ ?_ | refine State.logEvent_kept ?_ ?_ | refine State.updZone_kept ?_ ?_) | (show Nat.testBit _ _ = true; rfl) | (show subMask _ _ = true; rfl) | (intro _; try dsimp only) | split | dsimp only

theorem State.slotNoRoom_kept {s : State} {tok : Nat} {w : SecWork} {k : Nat} (hw₀ : subMask 44384376587918356619345083307102957096416090370664468412496037414503521088029403642924000734829996243996539345359599140429692936777 w₀ = true) (h₀ : Kept w₀ s₀ s) :
    Kept w₀ s₀ (State.slotNoRoom s tok w k) := by
  refine Kept.trans (a := 44384376587918356619345083307102957096416090370664468412496037414503521088029403642924000734829996243996539345359599140429692936777) (t := s) ?_ hw₀ h₀
  clear h₀ hw₀
  unfold State.slotNoRoom; try dsimp only
  repeat' first | (with_reducible first | assumption | exact Kept.refl _ _ | refine Kept.ite ?_ ?_ | refine State.cmdFail_kept ?_ ?_ | refine State.growDefect_kept ?_ ?_ | refine State.logEvent_kept ?_ ?_ | refine State.unplace_kept ?_ ?_ | refine State.updSec_kept ?_ ?_ | refine State.zoneReadOnly_kept ?_ ?_) | (show Nat.testBit _ _ = true; rfl) | (show subMask _ _ = true; rfl) | (intro _; try dsimp only) | split | dsimp only

theorem State.takeStamp_kept {s : State} (hw₀ : subMask 64 w₀ = true) (h₀ : Kept w₀ s₀ s) :
    Kept w₀ s₀ (State.takeStamp s).1 := by
  refine Kept.trans (a := 64) (t := s) ?_ hw₀ h₀
  clear h₀ hw₀
  unfold State.takeStamp; try dsimp only
  repeat' first | (with_reducible first | assumption | exact Kept.refl _ _ | refine Kept.ite ?_ ?_ | refine State.forEach_kept ?_ ?_ | refine State.saveArea_kept ?_ ?_ | refine State.updMedia_kept ?_ ?_) | (show Nat.testBit _ _ = true; rfl) | (show subMask _ _ = true; rfl) | (intro _; try dsimp only) | split | dsimp only
theorem State.takeStamp_keptp {s : State} {a₀ : State} {b₀ : Nat} (e₀ : State.takeStamp s = (a₀, b₀)) (hw₀ : subMask 64 w₀ = true) (h₀ : Kept w₀ s₀ s) : Kept w₀ s₀ a₀ := by
  have g : Kept w₀ s₀ (State.takeStamp s).1 := State.takeStamp_kept hw₀ h₀; rw [e₀] at g; exact g

theorem State.reallocSlot_kept {s : State} {tok : Nat} {w : SecWork} (hw₀ : subMask 44384376587918356619345083307102957096416090370664468412496037414503521088029403642924000734829996243996539345359599140429692936777 w₀ = true) (h₀ : Kept w₀ s₀ s) :
    Kept w₀ s₀ (State.reallocSlot s tok w) := by
  refine Kept.trans (a := 44384376587918356619345083307102957096416090370664468412496037414503521088029403642924000734829996243996539345359599140429692936777) (t := s) ?_ hw₀ h₀
  clear h₀ hw₀
  unfold State.reallocSlot; try dsimp only
  repeat' first | (with_reducible first | assumption | exact Kept.refl _ _ | refine Kept.ite ?_ ?_ | refine State.growDefect_kept ?_ ?_ | refine State.slotNoRoom_kept ?_ ?_ | refine State.takeStamp_kept ?_ ?_ | refine State.updSec_kept ?_ ?_ | refine State.takeStamp_keptp (by assumption) ?_ ?_) | (show Nat.testBit _ _ = true; rfl) | (show subMask _ _ = true; rfl) | (intro _; try dsimp only) | split | dsimp only

theorem State.replace_kept {s : State} {z lba : Nat} (hw₀ : subMask 533056 w₀ = true) (h₀ : Kept w₀ s₀ s) :
    Kept w₀ s₀ (State.replace s z lba) := by
  refine Kept.trans (a := 533056) (t := s) ?_ hw₀ h₀
  clear h₀ hw₀
  unfold State.replace; try dsimp only
  repeat' first | (with_reducible first | assumption | exact Kept.refl _ _ | refine Kept.ite ?_ ?_ | refine State.forEach_kept ?_ ?_ | refine State.unlist_kept ?_ ?_ | refine State.updZone_kept ?_ ?_) | (show Nat.testBit _ _ = true; rfl) | (show subMask _ _ = true; rfl) | (intro _; try dsimp only) | split | dsimp only | refine Kept.lit rfl (.inr rfl) rfl rfl rfl rfl (.inl rfl) (.inr rfl) (.inr rfl) (.inl rfl) (.inr rfl) (.inr rfl) (.inr rfl) (.inl rfl) (.inr rfl) (.inr rfl) (.inr rfl) (.inr rfl) (.inr rfl) (.inl rfl) (.inr rfl) (.inr rfl) (.inr rfl) (.inr rfl) (.inr rfl) ?_

theorem State.slipSlot_kept {s : State} {tok : Nat} {w : SecWork} (hw₀ : subMask 44384376587918356619345083307102957096416090370664468412496037414503521088029403642924000734829996243996539345359599140429692936777 w₀ = true) (h₀ : Kept w₀ s₀ s) :
    Kept w₀ s₀ (State.slipSlot s tok w) := by
  refine Kept.trans (a := 44384376587918356619345083307102957096416090370664468412496037414503521088029403642924000734829996243996539345359599140429692936777) (t := s) ?_ hw₀ h₀
  clear h₀ hw₀
  unfold State.slipSlot; try dsimp only
  repeat' first | (with_reducible first | assumption | exact Kept.refl _ _ | refine Kept.ite ?_ ?_ | refine State.forEach_kept ?_ ?_ | refine State.growDefect_kept ?_ ?_ | refine State.replace_kept ?_ ?_ | refine State.slotNoRoom_kept ?_ ?_ | refine State.unplace_kept ?_ ?_ | refine State.updZone_kept ?_ ?_ | refine State.when_kept ?_ ?_ | refine State.zoneReadOnly_kept ?_ ?_) | (show Nat.testBit _ _ = true; rfl) | (show subMask _ _ = true; rfl) | (intro _; try dsimp only) | split | dsimp only

theorem State.slotFailed_kept {s : State} {tok : Nat} (hw₀ : subMask 44384376587918356619345083307102957096416090370664468412496037414503521088029403642924000734829996243996539345359599140429692936777 w₀ = true) (h₀ : Kept w₀ s₀ s) :
    Kept w₀ s₀ (State.slotFailed s tok) := by
  refine Kept.trans (a := 44384376587918356619345083307102957096416090370664468412496037414503521088029403642924000734829996243996539345359599140429692936777) (t := s) ?_ hw₀ h₀
  clear h₀ hw₀
  unfold State.slotFailed; try dsimp only
  repeat' first | (with_reducible first | assumption | exact Kept.refl _ _ | refine Kept.ite ?_ ?_ | refine State.reallocSlot_kept ?_ ?_ | refine State.slipSlot_kept ?_ ?_ | refine State.unlist_kept ?_ ?_ | refine State.updSec_kept ?_ ?_) | (show Nat.testBit _ _ = true; rfl) | (show subMask _ _ = true; rfl) | (intro _; try dsimp only) | split | dsimp only

theorem State.countDrop_kept {s : State} {tok : Nat} (hw₀ : subMask 44384376587918356619345083307102957096416090370664468412496037414503521088029403642924000734829996243996539345359599140429692936777 w₀ = true) (h₀ : Kept w₀ s₀ s) :
    Kept w₀ s₀ (State.countDrop s tok) := by
  refine Kept.trans (a := 44384376587918356619345083307102957096416090370664468412496037414503521088029403642924000734829996243996539345359599140429692936777) (t := s) ?_ hw₀ h₀
  clear h₀ hw₀
  unfold State.countDrop; try dsimp only
  repeat' first | (with_reducible first | assumption | exact Kept.refl _ _ | refine Kept.ite ?_ ?_ | refine State.slotFailed_kept ?_ ?_ | refine State.updSec_kept ?_ ?_) | (show Nat.testBit _ _ = true; rfl) | (show subMask _ _ = true; rfl) | (intro _; try dsimp only) | split | dsimp only

theorem State.returnSector_kept {s : State} {h : Nat} {d : SDesc} {abandoned : Bool} (hw₀ : subMask 485667223056432267729865476705879726660601709763034880312953102434726071301302657025 w₀ = true) (h₀ : Kept w₀ s₀ s) :
    Kept w₀ s₀ (State.returnSector s h d abandoned) := by
  refine Kept.trans (a := 485667223056432267729865476705879726660601709763034880312953102434726071301302657025) (t := s) ?_ hw₀ h₀
  clear h₀ hw₀
  unfold State.returnSector; try dsimp only
  repeat' first | (with_reducible first | assumption | exact Kept.refl _ _ | refine Kept.ite ?_ ?_ | refine State.cancelToken_kept ?_ ?_ | apply State.inc_kept | refine State.updSec_kept ?_ ?_ | refine State.when_kept ?_ ?_) | (show Nat.testBit _ _ = true; rfl) | (show subMask _ _ = true; rfl) | exact inFam_SEQ_EVT_CNT | exact wrsOk_nil | apply wrsOk_cons | (intro _; try dsimp only) | split | dsimp only

theorem State.wrpBit_kept {s : State} {h : Nat} {f : Nat → Fld} {i_ : Nat} (hf_ : inFam i_ (f h).addr) (hi_ : w₀.testBit (32 + i_) = true) (hw₀ : subMask 4194305 w₀ = true) (h₀ : Kept w₀ s₀ s) :
    Kept w₀ s₀ (State.wrpBit s h f) := by
  unfold State.wrpBit; try dsimp only
  repeat' first | (with_reducible first | assumption | exact Kept.refl _ _ | refine Kept.ite ?_ ?_ | refine State.irqIf_kept ?_ ?_ | apply State.setB_kept) | exact hi_ | exact testBit_sub hw₀ rfl | exact subMask_trans rfl hw₀ | exact hf_ _ | exact hf_ | exact wrsOk_nil | apply wrsOk_cons | (intro _; try dsimp only) | split | dsimp only

theorem State.dropGate_kept {s : State} {headScoped : Bool} {h : Nat} (hw₀ : subMask 44384376587918356619345083307102957096416090371150194921102159188125443433079607817793423318825179932278280650077337263253370708553 w₀ = true) (h₀ : Kept w₀ s₀ s) :
    Kept w₀ s₀ (State.dropGate s headScoped h) := by
  refine Kept.trans (a := 44384376587918356619345083307102957096416090371150194921102159188125443433079607817793423318825179932278280650077337263253370708553) (t := s) ?_ hw₀ h₀
  clear h₀ hw₀
  unfold State.dropGate; try dsimp only
  repeat' first | (with_reducible first | assumption | exact Kept.refl _ _ | refine Kept.ite ?_ ?_ | apply State.clr_kept | refine State.countDrop_kept ?_ ?_ | refine State.emit_kept ?_ ?_ | apply State.inc_kept | refine State.returnSector_kept ?_ ?_ | refine State.updHead_kept ?_ ?_ | refine State.updSec_kept ?_ ?_ | refine State.updSeq_kept ?_ ?_ | apply State.wrpBit_kept) | (show Nat.testBit _ _ = true; rfl) | (show subMask _ _ = true; rfl) | exact inFam_WRP_EVT_CNT | exact inFam_WRP_STATUS | exact wrsOk_nil | apply wrsOk_cons | (intro _; try dsimp only) | split | dsimp only

theorem State.dropGates_kept {s : State} {headScoped : Bool} {hs : List Nat} (hw₀ : subMask 44384376587918356619345083307102957096416090371150194921102159188125443433079607817793423318825179932278280650077337263253370708553 w₀ = true) (h₀ : Kept w₀ s₀ s) :
    Kept w₀ s₀ (State.dropGates s headScoped hs) := by
  refine Kept.trans (a := 44384376587918356619345083307102957096416090371150194921102159188125443433079607817793423318825179932278280650077337263253370708553) (t := s) ?_ hw₀ h₀
  clear h₀ hw₀
  unfold State.dropGates; try dsimp only
  repeat' first | (with_reducible first | assumption | exact Kept.refl _ _ | refine Kept.ite ?_ ?_ | refine State.dropGate_kept ?_ ?_ | refine State.forEach_kept ?_ ?_) | (show Nat.testBit _ _ = true; rfl) | (show subMask _ _ = true; rfl) | (intro _; try dsimp only) | split | dsimp only

theorem State.wrpBits_kept {s : State} {hs : List Nat} {f : Nat → Fld} {i_ : Nat} (hf_ : ∀ n, inFam i_ (f n).addr) (hi_ : w₀.testBit (32 + i_) = true) (hw₀ : subMask 4194305 w₀ = true) (h₀ : Kept w₀ s₀ s) :
    Kept w₀ s₀ (State.wrpBits s hs f) := by
  unfold State.wrpBits; try dsimp only
  repeat' first | (with_reducible first | assumption | exact Kept.refl _ _ | refine Kept.ite ?_ ?_ | refine State.forEach_kept ?_ ?_ | apply State.wrpBit_kept) | exact hi_ | exact testBit_sub hw₀ rfl | exact subMask_trans rfl hw₀ | exact hf_ _ | exact hf_ | exact wrsOk_nil | apply wrsOk_cons | (intro _; try dsimp only) | split | dsimp only

theorem State.updAct_kept {s : State} {a : Nat} {f : CtlAct → CtlAct} (hw₀ : subMask 2048 w₀ = true) (h₀ : Kept w₀ s₀ s) :
    Kept w₀ s₀ (State.updAct s a f) := by
  refine Kept.trans (a := 2048) (t := s) ?_ hw₀ h₀
  clear h₀ hw₀
  unfold State.updAct; try dsimp only
  repeat' first | (with_reducible first | assumption | exact Kept.refl _ _ | refine Kept.ite ?_ ?_) | (show Nat.testBit _ _ = true; rfl) | (show subMask _ _ = true; rfl) | (intro _; try dsimp only) | split | dsimp only | refine Kept.lit rfl (.inr rfl) rfl rfl rfl rfl (.inr rfl) (.inr rfl) (.inr rfl) (.inr rfl) (.inr rfl) (.inl rfl) (.inr rfl) (.inr rfl) (.inr rfl) (.inr rfl) (.inr rfl) (.inr rfl) (.inr rfl) (.inr rfl) (.inr rfl) (.inr rfl) (.inr rfl) (.inr rfl) (.inr rfl) ?_

theorem State.openLoop_kept {s : State} {n : Nat} (hw₀ : subMask 4805970830822047685388798838881492257856085175302468732380843617599994383006441237551664695607297 w₀ = true) (h₀ : Kept w₀ s₀ s) :
    Kept w₀ s₀ (State.openLoop s n) := by
  refine Kept.trans (a := 4805970830822047685388798838881492257856085175302468732380843617599994383006441237551664695607297) (t := s) ?_ hw₀ h₀
  clear h₀ hw₀
  unfold State.openLoop; try dsimp only
  repeat' first | (with_reducible first | assumption | exact Kept.refl _ _ | refine Kept.ite ?_ ?_ | refine State.wrs_kept ?_ ?_ ?_) | (show Nat.testBit _ _ = true; rfl) | (show subMask _ _ = true; rfl) | exact inFam_CTL_OUT | exact inFam_CTL_STATUS | exact wrsOk_nil | apply wrsOk_cons | (intro _; try dsimp only) | split | dsimp only

theorem State.showLoaded_kept {s : State} (hw₀ : subMask 50062196154396330056133321238348877686000887242734049295633787683333274822983762891163173912577 w₀ = true) (h₀ : Kept w₀ s₀ s) :
    Kept w₀ s₀ (State.showLoaded s) := by
  refine Kept.trans (a := 50062196154396330056133321238348877686000887242734049295633787683333274822983762891163173912577) (t := s) ?_ hw₀ h₀
  clear h₀ hw₀
  unfold State.showLoaded; try dsimp only
  repeat' first | (with_reducible first | assumption | exact Kept.refl _ _ | refine Kept.ite ?_ ?_ | refine State.wrs_kept ?_ ?_ ?_ | refine State.foldl_kept ?_ ?_) | (show Nat.testBit _ _ = true; rfl) | (show subMask _ _ = true; rfl) | exact inFam_SRV_LOADED | exact inFam_SRV_LOST | exact wrsOk_nil | apply wrsOk_cons | (intro _; try dsimp only) | split | dsimp only

theorem State.showInhibit_kept {s : State} {h : Nat} (hw₀ : subMask 29642774844752946028434172162224104410437116074403984394101141506025761187823617 w₀ = true) (h₀ : Kept w₀ s₀ s) :
    Kept w₀ s₀ (State.showInhibit s h) := by
  refine Kept.trans (a := 29642774844752946028434172162224104410437116074403984394101141506025761187823617) (t := s) ?_ hw₀ h₀
  clear h₀ hw₀
  unfold State.showInhibit; try dsimp only
  repeat' first | (with_reducible first | assumption | exact Kept.refl _ _ | refine Kept.ite ?_ ?_ | apply State.wr_kept) | (show Nat.testBit _ _ = true; rfl) | (show subMask _ _ = true; rfl) | exact inFam_WRP_STATUS | exact wrsOk_nil | apply wrsOk_cons | (intro _; try dsimp only) | split | dsimp only

theorem State.setInh_kept {s : State} {h : Nat} {f : HeadU → HeadU} (hw₀ : subMask 29642774844752946028434172162224104410437116074403984394101141506025761187824129 w₀ = true) (h₀ : Kept w₀ s₀ s) :
    Kept w₀ s₀ (State.setInh s h f) := by
  refine Kept.trans (a := 29642774844752946028434172162224104410437116074403984394101141506025761187824129) (t := s) ?_ hw₀ h₀
  clear h₀ hw₀
  unfold State.setInh; try dsimp only
  repeat' first | (with_reducible first | assumption | exact Kept.refl _ _ | refine Kept.ite ?_ ?_ | refine State.showInhibit_kept ?_ ?_ | refine State.updHead_kept ?_ ?_) | (show Nat.testBit _ _ = true; rfl) | (show subMask _ _ = true; rfl) | (intro _; try dsimp only) | split | dsimp only

theorem State.updSrv_kept {s : State} {h : Nat} {f : SrvH → SrvH} (hw₀ : subMask 1024 w₀ = true) (h₀ : Kept w₀ s₀ s) :
    Kept w₀ s₀ (State.updSrv s h f) := by
  refine Kept.trans (a := 1024) (t := s) ?_ hw₀ h₀
  clear h₀ hw₀
  unfold State.updSrv; try dsimp only
  repeat' first | (with_reducible first | assumption | exact Kept.refl _ _ | refine Kept.ite ?_ ?_) | (show Nat.testBit _ _ = true; rfl) | (show subMask _ _ = true; rfl) | (intro _; try dsimp only) | split | dsimp only | refine Kept.lit rfl (.inr rfl) rfl rfl rfl rfl (.inr rfl) (.inr rfl) (.inr rfl) (.inr rfl) (.inl rfl) (.inr rfl) (.inr rfl) (.inr rfl) (.inr rfl) (.inr rfl) (.inr rfl) (.inr rfl) (.inr rfl) (.inr rfl) (.inr rfl) (.inr rfl) (.inr rfl) (.inr rfl) (.inr rfl) ?_

theorem State.unloadHead_kept {s : State} {h : Nat} (hw₀ : subMask 63657374290095465040641873791227239695082491712497623906783373436425557123630033256056321 w₀ = true) (h₀ : Kept w₀ s₀ s) :
    Kept w₀ s₀ (State.unloadHead s h) := by
  refine Kept.trans (a := 63657374290095465040641873791227239695082491712497623906783373436425557123630033256056321) (t := s) ?_ hw₀ h₀
  clear h₀ hw₀
  unfold State.unloadHead; try dsimp only
  repeat' first | (with_reducible first | assumption | exact Kept.refl _ _ | refine Kept.ite ?_ ?_ | refine State.setInh_kept ?_ ?_ | refine State.updSrv_kept ?_ ?_ | refine State.wrs_kept ?_ ?_ ?_) | (show Nat.testBit _ _ = true; rfl) | (show subMask _ _ = true; rfl) | exact inFam_SRV_STATUS | exact wrsOk_nil | apply wrsOk_cons | (intro _; try dsimp only) | split | dsimp only

theorem State.retract_kept {s : State} {a : Nat} (hw₀ : subMask 44384376587918356619345083452686370194006454691202219055673393274801299088485422989882798618456889221705442253674992373007770988105 w₀ = true) (h₀ : Kept w₀ s₀ s) :
    Kept w₀ s₀ (State.retract s a) := by
  refine Kept.trans (a := 44384376587918356619345083452686370194006454691202219055673393274801299088485422989882798618456889221705442253674992373007770988105) (t := s) ?_ hw₀ h₀
  clear h₀ hw₀
  unfold State.retract; try dsimp only
  repeat' first | (with_reducible first | assumption | exact Kept.refl _ _ | refine Kept.ite ?_ ?_ | refine State.dropGates_kept ?_ ?_ | refine State.forEach_kept ?_ ?_ | refine State.openLoop_kept ?_ ?_ | refine State.showLoaded_kept ?_ ?_ | refine State.unloadHead_kept ?_ ?_ | refine State.updAct_kept ?_ ?_ | apply State.wr_kept | refine State.wrs_kept ?_ ?_ ?_) | (show Nat.testBit _ _ = true; rfl) | (show subMask _ _ = true; rfl) | exact inFam_CTL_STATUS | exact inFam_MOT_ASTATUS | exact inFam_PROF_STAT | exact wrsOk_nil | apply wrsOk_cons | (intro _; try dsimp only) | split | dsimp only | refine Kept.lit rfl (.inr rfl) rfl rfl rfl rfl (.inl rfl) (.inr rfl) (.inr rfl) (.inl rfl) (.inl rfl) (.inl rfl) (.inr rfl) (.inl rfl) (.inr rfl) (.inr rfl) (.inr rfl) (.inr rfl) (.inr rfl) (.inl rfl) (.inr rfl) (.inr rfl) (.inl rfl) (.inr rfl) (.inr rfl) ?_

theorem State.retractAll_kept {s : State} (hw₀ : subMask 44384376587918356619345083452686370194006454691202219055673393274801299088485422989882798618456889221705442253674992373007770988105 w₀ = true) (h₀ : Kept w₀ s₀ s) :
    Kept w₀ s₀ (State.retractAll s) := by
  refine Kept.trans (a := 44384376587918356619345083452686370194006454691202219055673393274801299088485422989882798618456889221705442253674992373007770988105) (t := s) ?_ hw₀ h₀
  clear h₀ hw₀
  unfold State.retractAll; try dsimp only
  repeat' first | (with_reducible first | assumption | exact Kept.refl _ _ | refine Kept.ite ?_ ?_ | refine State.forEach_kept ?_ ?_ | refine State.retract_kept ?_ ?_) | (show Nat.testBit _ _ = true; rfl) | (show subMask _ _ = true; rfl) | (intro _; try dsimp only) | split | dsimp only

theorem State.domainZones_kept {s : State} {d h : Nat} {f : ZState → ZState} {st : ZState} (hw₀ : subMask 44384376587918356619345083307102957096416090370664438769721192661557492653857241418819590297713921840012145244218093114668500385865 w₀ = true) (h₀ : Kept w₀ s₀ s) :
    Kept w₀ s₀ (State.domainZones s d h f st) := by
  refine Kept.trans (a := 44384376587918356619345083307102957096416090370664438769721192661557492653857241418819590297713921840012145244218093114668500385865) (t := s) ?_ hw₀ h₀
  clear h₀ hw₀
  unfold State.domainZones; try dsimp only
  repeat' first | (with_reducible first | assumption | exact Kept.refl _ _ | refine Kept.ite ?_ ?_ | refine State.forEach_kept ?_ ?_ | refine State.logEvent_kept ?_ ?_ | refine State.updZone_kept ?_ ?_) | (show Nat.testBit _ _ = true; rfl) | (show subMask _ _ = true; rfl) | (intro _; try dsimp only) | split | dsimp only

theorem State.offlineZones_kept {s : State} {h : Nat} (hw₀ : subMask 44384376587918356619345083307102957096416090370664438769721192661557492653857241418819590297713921840012145244218093114668500385865 w₀ = true) (h₀ : Kept w₀ s₀ s) :
    Kept w₀ s₀ (State.offlineZones s h) := by
  refine Kept.trans (a := 44384376587918356619345083307102957096416090370664438769721192661557492653857241418819590297713921840012145244218093114668500385865) (t := s) ?_ hw₀ h₀
  clear h₀ hw₀
  unfold State.offlineZones; try dsimp only
  repeat' first | (with_reducible first | assumption | exact Kept.refl _ _ | refine Kept.ite ?_ ?_ | refine State.domainZones_kept ?_ ?_) | (show Nat.testBit _ _ = true; rfl) | (show subMask _ _ = true; rfl) | (intro _; try dsimp only) | split | dsimp only

theorem State.writerLostZones_kept {s : State} {h : Nat} (hw₀ : subMask 44384376587918356619345083307102957096416090370664438769721192661557492653857241418819590297713921840012145244218093114668500385865 w₀ = true) (h₀ : Kept w₀ s₀ s) :
    Kept w₀ s₀ (State.writerLostZones s h) := by
  refine Kept.trans (a := 44384376587918356619345083307102957096416090370664438769721192661557492653857241418819590297713921840012145244218093114668500385865) (t := s) ?_ hw₀ h₀
  clear h₀ hw₀
  unfold State.writerLostZones; try dsimp only
  repeat' first | (with_reducible first | assumption | exact Kept.refl _ _ | refine Kept.ite ?_ ?_ | refine State.domainZones_kept ?_ ?_ | refine State.forEach_kept ?_ ?_ | refine State.updZone_kept ?_ ?_) | (show Nat.testBit _ _ = true; rfl) | (show subMask _ _ = true; rfl) | (intro _; try dsimp only) | split | dsimp only

theorem State.domainDead_kept {s : State} {a : Nat} (hw₀ : subMask 44384376587918356619345083307102957096416090370664438769721192661557492653857241418819590297713921840012145244218093114668500918857 w₀ = true) (h₀ : Kept w₀ s₀ s) :
    Kept w₀ s₀ (State.domainDead s a) := by
  refine Kept.trans (a := 44384376587918356619345083307102957096416090370664438769721192661557492653857241418819590297713921840012145244218093114668500918857) (t := s) ?_ hw₀ h₀
  clear h₀ hw₀
  unfold State.domainDead; try dsimp only
  repeat' first | (with_reducible first | assumption | exact Kept.refl _ _ | refine Kept.ite ?_ ?_ | refine State.cmdFail_kept ?_ ?_ | refine State.domainZones_kept ?_ ?_ | refine State.forEach_kept ?_ ?_ | refine State.unlist_kept ?_ ?_ | refine State.updSec_kept ?_ ?_) | (show Nat.testBit _ _ = true; rfl) | (show subMask _ _ = true; rfl) | (intro _; try dsimp only) | split | dsimp only

theorem State.showEnds_kept {s : State} {a : Nat} {k : Int} (hw₀ : subMask 1942668892225729070919461906823518906642406839052139521251812409738904285205208498177 w₀ = true) (h₀ : Kept w₀ s₀ s) :
    Kept w₀ s₀ (State.showEnds s a k) := by
  refine Kept.trans (a := 1942668892225729070919461906823518906642406839052139521251812409738904285205208498177) (t := s) ?_ hw₀ h₀
  clear h₀ hw₀
  unfold State.showEnds; try dsimp only
  repeat' first | (with_reducible first | assumption | exact Kept.refl _ _ | refine Kept.ite ?_ ?_ | apply State.wr_kept) | (show Nat.testBit _ _ = true; rfl) | (show subMask _ _ = true; rfl) | exact inFam_SEQ_ENDS | exact wrsOk_nil | apply wrsOk_cons | (intro _; try dsimp only) | split | dsimp only

theorem State.sectorWritten_kept {s : State} {tok : Nat} (hw₀ : subMask 524356 w₀ = true) (h₀ : Kept w₀ s₀ s) :
    Kept w₀ s₀ (State.sectorWritten s tok) := by
  refine Kept.trans (a := 524356) (t := s) ?_ hw₀ h₀
  clear h₀ hw₀
  unfold State.sectorWritten; try dsimp only
  repeat' first | (with_reducible first | assumption | exact Kept.refl _ _ | refine Kept.ite ?_ ?_ | refine State.advance_kept ?_ ?_ | refine State.updSec_kept ?_ ?_ | refine State.updZone_kept ?_ ?_) | (show Nat.testBit _ _ = true; rfl) | (show subMask _ _ = true; rfl) | (intro _; try dsimp only) | split | dsimp only

end Sys2Proof.Machine
end

