-- ==== Sys2Proof/Laws/KeptSram.lean ====
section
/-! SUPPORT. What the operations and meanings of Machine/Sram.lean keep (the relation Kept). -/

set_option Elab.async false

namespace Sys2Proof.Machine
open Reg
set_option linter.unusedVariables false
set_option linter.unusedTactic false
set_option linter.unreachableTactic false
set_option maxHeartbeats 400000

variable {w₀ : Nat} {s₀ : State}

theorem State.elogAdd_kept {s : State} {e : ElogEnt} (hw₀ : subMask 2854517163483402702178233594873865905935220753 w₀ = true) (h₀ : Kept w₀ s₀ s) :
    Kept w₀ s₀ (State.elogAdd s e) := by
  refine Kept.trans (a := 2854517163483402702178233594873865905935220753) (t := s) ?_ hw₀ h₀
  clear h₀ hw₀
  unfold State.elogAdd; try dsimp only
  repeat' first | (with_reducible first | assumption | exact Kept.refl _ _ | refine Kept.ite ?_ ?_ | apply State.inc_kept | apply State.raiseBit_kept | refine State.updMem_kept ?_ ?_ ?_) | (show Nat.testBit _ _ = true; rfl) | (show subMask _ _ = true; rfl) | exact inFam_MEM_ELOG_CNT | exact inFam_MEM_STATUS | exact wrsOk_nil | apply wrsOk_cons | refine MemU.store_holds ?_ | refine MemU.flip_holds ?_ | refine MemU.storeList_holds ?_ | refine MemU.flipAll_holds ?_ | refine MemU.foldl_holds ?_ ?_ | exact MemU.holds_of rfl rfl | (intro _; try dsimp only) | split | dsimp only

theorem State.planeCount_kept {s : State} {frame : Nat} {is : List Nat} (hw₀ : subMask 22835963083295358096932575511191922182123946001 w₀ = true) (h₀ : Kept w₀ s₀ s) :
    Kept w₀ s₀ (State.planeCount s frame is) := by
  refine Kept.trans (a := 22835963083295358096932575511191922182123946001) (t := s) ?_ hw₀ h₀
  clear h₀ hw₀
  unfold State.planeCount; try dsimp only
  repeat' first | (with_reducible first | assumption | exact Kept.refl _ _ | refine Kept.ite ?_ ?_ | apply State.inc_kept | refine State.updMem_kept ?_ ?_ ?_) | (show Nat.testBit _ _ = true; rfl) | (show subMask _ _ = true; rfl) | exact inFam_MEM_PLANE_STAT | exact wrsOk_nil | apply wrsOk_cons | refine MemU.store_holds ?_ | refine MemU.flip_holds ?_ | refine MemU.storeList_holds ?_ | refine MemU.flipAll_holds ?_ | refine MemU.foldl_holds ?_ ?_ | exact MemU.holds_of rfl rfl | (intro _; try dsimp only) | split | dsimp only

theorem State.putTable_kept {s : State} {page ofs : Nat} {bs : List Byte} (hw₀ : subMask 16 w₀ = true) (h₀ : Kept w₀ s₀ s) :
    Kept w₀ s₀ (State.putTable s page ofs bs) := by
  refine Kept.trans (a := 16) (t := s) ?_ hw₀ h₀
  clear h₀ hw₀
  unfold State.putTable; try dsimp only
  repeat' first | (with_reducible first | assumption | exact Kept.refl _ _ | refine Kept.ite ?_ ?_ | refine State.updMem_kept ?_ ?_ ?_) | (show Nat.testBit _ _ = true; rfl) | (show subMask _ _ = true; rfl) | refine MemU.store_holds ?_ | refine MemU.flip_holds ?_ | refine MemU.storeList_holds ?_ | refine MemU.flipAll_holds ?_ | refine MemU.foldl_holds ?_ ?_ | exact MemU.holds_of rfl rfl | (intro _; try dsimp only) | split | dsimp only

theorem State.putMap_kept {s : State} {tag : Nat} (hw₀ : subMask 16 w₀ = true) (h₀ : Kept w₀ s₀ s) :
    Kept w₀ s₀ (State.putMap s tag) := by
  refine Kept.trans (a := 16) (t := s) ?_ hw₀ h₀
  clear h₀ hw₀
  unfold State.putMap; try dsimp only
  repeat' first | (with_reducible first | assumption | exact Kept.refl _ _ | refine Kept.ite ?_ ?_ | refine State.forEach_kept ?_ ?_ | refine State.putTable_kept ?_ ?_) | (show Nat.testBit _ _ = true; rfl) | (show subMask _ _ = true; rfl) | (intro _; try dsimp only) | split | dsimp only

theorem State.updPage_kept {s : State} {p : Nat} {f : PageInfo → PageInfo} (hw₀ : subMask 16 w₀ = true) (h₀ : Kept w₀ s₀ s) :
    Kept w₀ s₀ (State.updPage s p f) := by
  refine Kept.trans (a := 16) (t := s) ?_ hw₀ h₀
  clear h₀ hw₀
  unfold State.updPage; try dsimp only
  repeat' first | (with_reducible first | assumption | exact Kept.refl _ _ | refine Kept.ite ?_ ?_ | refine State.updMem_kept ?_ ?_ ?_) | (show Nat.testBit _ _ = true; rfl) | (show subMask _ _ = true; rfl) | refine MemU.store_holds ?_ | refine MemU.flip_holds ?_ | refine MemU.storeList_holds ?_ | refine MemU.flipAll_holds ?_ | refine MemU.foldl_holds ?_ ?_ | exact MemU.holds_of rfl rfl | (intro _; try dsimp only) | split | dsimp only

theorem State.reportWord_kept {s : State} {port chan page frame w : Nat} {injected : Bool} (hw₀ : subMask 44384713757731871763589207486774700033120374772764031638184406308126848246420176735497546956447210395007430521264230181272276828185 w₀ = true) (h₀ : Kept w₀ s₀ s) :
    Kept w₀ s₀ (State.reportWord s port chan page frame w injected) := by
  refine Kept.trans (a := 44384713757731871763589207486774700033120374772764031638184406308126848246420176735497546956447210395007430521264230181272276828185) (t := s) ?_ hw₀ h₀
  clear h₀ hw₀
  unfold State.reportWord; try dsimp only
  repeat' first | (with_reducible first | assumption | exact Kept.refl _ _ | refine Kept.ite ?_ ?_ | refine State.elogAdd_kept ?_ ?_ | apply State.inc_kept | refine State.planeCount_kept ?_ ?_ | refine State.putMap_kept ?_ ?_ | apply State.raiseBit_kept | refine State.raiseSrc_kept ?_ ?_ | refine State.updMem_kept ?_ ?_ ?_ | refine State.updPage_kept ?_ ?_ | refine State.when_kept ?_ ?_) | (show Nat.testBit _ _ = true; rfl) | (show subMask _ _ = true; rfl) | exact inFam_MEM_ERR_CNT | exact inFam_MEM_STATUS | exact wrsOk_nil | apply wrsOk_cons | refine MemU.store_holds ?_ | refine MemU.flip_holds ?_ | refine MemU.storeList_holds ?_ | refine MemU.flipAll_holds ?_ | refine MemU.foldl_holds ?_ ?_ | exact MemU.holds_of rfl rfl | (intro _; try dsimp only) | split | dsimp only

theorem State.accessError_kept {s : State} {port page w : Nat} (hw₀ : subMask 2854517163483402702178233594873865905935220753 w₀ = true) (h₀ : Kept w₀ s₀ s) :
    Kept w₀ s₀ (State.accessError s port page w) := by
  refine Kept.trans (a := 2854517163483402702178233594873865905935220753) (t := s) ?_ hw₀ h₀
  clear h₀ hw₀
  unfold State.accessError; try dsimp only
  repeat' first | (with_reducible first | assumption | exact Kept.refl _ _ | refine Kept.ite ?_ ?_ | refine State.elogAdd_kept ?_ ?_ | apply State.raiseBit_kept) | (show Nat.testBit _ _ = true; rfl) | (show subMask _ _ = true; rfl) | exact inFam_MEM_STATUS | exact wrsOk_nil | apply wrsOk_cons | (intro _; try dsimp only) | split | dsimp only

theorem State.sramInject_kept {s : State} {page ofs n : Nat} (hw₀ : subMask 161390617380431786853494948250188242145606612051826469551916209783790476376052596442424317520070276120718823881466445849 w₀ = true) (h₀ : Kept w₀ s₀ s) :
    Kept w₀ s₀ (State.sramInject s page ofs n).1 := by
  refine Kept.trans (a := 161390617380431786853494948250188242145606612051826469551916209783790476376052596442424317520070276120718823881466445849) (t := s) ?_ hw₀ h₀
  clear h₀ hw₀
  unfold State.sramInject; try dsimp only
  repeat' first | (with_reducible first | assumption | exact Kept.refl _ _ | refine Kept.ite ?_ ?_ | refine State.injDone_kept ?_ ?_ | apply State.raiseBit_kept | refine State.updMem_kept ?_ ?_ ?_) | (show Nat.testBit _ _ = true; rfl) | (show subMask _ _ = true; rfl) | exact inFam_MEM_STATUS | exact wrsOk_nil | apply wrsOk_cons | refine MemU.store_holds ?_ | refine MemU.flip_holds ?_ | refine MemU.storeList_holds ?_ | refine MemU.flipAll_holds ?_ | refine MemU.foldl_holds ?_ ?_ | exact MemU.holds_of rfl rfl | (intro _; try dsimp only) | split | dsimp only
theorem State.sramInject_keptp {s : State} {page ofs n : Nat} {a₀ : State} {b₀ : Bool} (e₀ : State.sramInject s page ofs n = (a₀, b₀)) (hw₀ : subMask 161390617380431786853494948250188242145606612051826469551916209783790476376052596442424317520070276120718823881466445849 w₀ = true) (h₀ : Kept w₀ s₀ s) : Kept w₀ s₀ a₀ := by
  have g : Kept w₀ s₀ (State.sramInject s page ofs n).1 := State.sramInject_kept hw₀ h₀; rw [e₀] at g; exact g

theorem State.readPage_kept {s : State} {port chan page ofs n : Nat} (hw₀ : subMask 44384713757731871763589207486774700033120374772764031638184406308126848246420176735497546956447210395007430521264230181272276828185 w₀ = true) (h₀ : Kept w₀ s₀ s) :
    Kept w₀ s₀ (State.readPage s port chan page ofs n).1 := by
  refine Kept.trans (a := 44384713757731871763589207486774700033120374772764031638184406308126848246420176735497546956447210395007430521264230181272276828185) (t := s) ?_ hw₀ h₀
  clear h₀ hw₀
  unfold State.readPage; try dsimp only
  repeat' first | (with_reducible first | assumption | exact Kept.refl _ _ | refine Kept.ite ?_ ?_ | refine State.accessError_kept ?_ ?_ | refine State.forEach_kept ?_ ?_ | refine State.reportWord_kept ?_ ?_ | refine State.sramInject_kept ?_ ?_ | refine State.sramInject_keptp (by assumption) ?_ ?_) | (show Nat.testBit _ _ = true; rfl) | (show subMask _ _ = true; rfl) | (intro _; try dsimp only) | split | dsimp only
theorem State.readPage_keptp {s : State} {port chan page ofs n : Nat} {a₀ : State} {b₀ : BufResp} (e₀ : State.readPage s port chan page ofs n = (a₀, b₀)) (hw₀ : subMask 44384713757731871763589207486774700033120374772764031638184406308126848246420176735497546956447210395007430521264230181272276828185 w₀ = true) (h₀ : Kept w₀ s₀ s) : Kept w₀ s₀ a₀ := by
  have g : Kept w₀ s₀ (State.readPage s port chan page ofs n).1 := State.readPage_kept hw₀ h₀; rw [e₀] at g; exact g

theorem State.writePage_kept {s : State} {port page ofs : Nat} {bs : List Byte} (hw₀ : subMask 161390617380431786853494948250188242145606612051826469551916209783790476378907091827836237282186848059617814154231939097 w₀ = true) (h₀ : Kept w₀ s₀ s) :
    Kept w₀ s₀ (State.writePage s port page ofs bs).1 := by
  refine Kept.trans (a := 161390617380431786853494948250188242145606612051826469551916209783790476378907091827836237282186848059617814154231939097) (t := s) ?_ hw₀ h₀
  clear h₀ hw₀
  unfold State.writePage; try dsimp only
  repeat' first | (with_reducible first | assumption | exact Kept.refl _ _ | refine Kept.ite ?_ ?_ | refine State.accessError_kept ?_ ?_ | refine State.sramInject_kept ?_ ?_ | refine State.updMem_kept ?_ ?_ ?_ | refine State.sramInject_keptp (by assumption) ?_ ?_) | (show Nat.testBit _ _ = true; rfl) | (show subMask _ _ = true; rfl) | refine MemU.store_holds ?_ | refine MemU.flip_holds ?_ | refine MemU.storeList_holds ?_ | refine MemU.flipAll_holds ?_ | refine MemU.foldl_holds ?_ ?_ | exact MemU.holds_of rfl rfl | (intro _; try dsimp only) | split | dsimp only
theorem State.writePage_keptp {s : State} {port page ofs : Nat} {bs : List Byte} {a₀ : State} {b₀ : Bool} (e₀ : State.writePage s port page ofs bs = (a₀, b₀)) (hw₀ : subMask 161390617380431786853494948250188242145606612051826469551916209783790476378907091827836237282186848059617814154231939097 w₀ = true) (h₀ : Kept w₀ s₀ s) : Kept w₀ s₀ a₀ := by
  have g : Kept w₀ s₀ (State.writePage s port page ofs bs).1 := State.writePage_kept hw₀ h₀; rw [e₀] at g; exact g

theorem State.showPool_kept {s : State} (hw₀ : subMask 91349427519481065043515685974335850818872279041 w₀ = true) (h₀ : Kept w₀ s₀ s) :
    Kept w₀ s₀ (State.showPool s) := by
  refine Kept.trans (a := 91349427519481065043515685974335850818872279041) (t := s) ?_ hw₀ h₀
  clear h₀ hw₀
  unfold State.showPool; try dsimp only
  repeat' first | (with_reducible first | assumption | exact Kept.refl _ _ | refine Kept.ite ?_ ?_ | refine State.wrs_kept ?_ ?_ ?_) | (show Nat.testBit _ _ = true; rfl) | (show subMask _ _ = true; rfl) | exact inFam_MEM_CARVE_STAT | exact inFam_MEM_FREE | exact wrsOk_nil | apply wrsOk_cons | (intro _; try dsimp only) | split | dsimp only

theorem State.frameRetired_kept {s : State} {frame : Nat} (hw₀ : subMask 44384713757731871763589207486774700033120374772764031638184406308126848246420176735557541536217557403913946987347222435813740642333 w₀ = true) (h₀ : Kept w₀ s₀ s) :
    Kept w₀ s₀ (State.frameRetired s frame) := by
  refine Kept.trans (a := 44384713757731871763589207486774700033120374772764031638184406308126848246420176735557541536217557403913946987347222435813740642333) (t := s) ?_ hw₀ h₀
  clear h₀ hw₀
  unfold State.frameRetired; try dsimp only
  repeat' first | (with_reducible first | assumption | exact Kept.refl _ _ | refine Kept.ite ?_ ?_ | refine State.raise0_kept ?_ ?_ | apply State.raiseBit_kept | refine State.showPool_kept ?_ ?_ | refine State.updMem_kept ?_ ?_ ?_ | refine State.updPersist_kept ?_ ?_ | refine State.when_kept ?_ ?_ | apply State.wr_kept) | (show Nat.testBit _ _ = true; rfl) | (show subMask _ _ = true; rfl) | exact inFam_MEM_BANK_RETIRED | exact inFam_MEM_STATUS | exact wrsOk_nil | apply wrsOk_cons | refine MemU.store_holds ?_ | refine MemU.flip_holds ?_ | refine MemU.storeList_holds ?_ | refine MemU.flipAll_holds ?_ | refine MemU.foldl_holds ?_ ?_ | exact MemU.holds_of rfl rfl | (intro _; try dsimp only) | split | dsimp only

theorem State.retirePage_kept {s : State} {page : Nat} (hw₀ : subMask 44384713757731871763589207486774700033120374772764031638184406308126848246420176735557541536217557403913946987347222435813740642333 w₀ = true) (h₀ : Kept w₀ s₀ s) :
    Kept w₀ s₀ (State.retirePage s page) := by
  refine Kept.trans (a := 44384713757731871763589207486774700033120374772764031638184406308126848246420176735557541536217557403913946987347222435813740642333) (t := s) ?_ hw₀ h₀
  clear h₀ hw₀
  unfold State.retirePage; try dsimp only
  repeat' first | (with_reducible first | assumption | exact Kept.refl _ _ | refine Kept.ite ?_ ?_ | refine State.frameRetired_kept ?_ ?_ | refine State.updMem_kept ?_ ?_ ?_ | refine State.updPage_kept ?_ ?_) | (show Nat.testBit _ _ = true; rfl) | (show subMask _ _ = true; rfl) | refine MemU.store_holds ?_ | refine MemU.flip_holds ?_ | refine MemU.storeList_holds ?_ | refine MemU.flipAll_holds ?_ | refine MemU.foldl_holds ?_ ?_ | exact MemU.holds_of rfl rfl | (intro _; try dsimp only) | split | dsimp only

theorem State.showRetire_kept {s : State} (hw₀ : subMask 22322523270013563203197374247523994671513601 w₀ = true) (h₀ : Kept w₀ s₀ s) :
    Kept w₀ s₀ (State.showRetire s) := by
  refine Kept.trans (a := 22322523270013563203197374247523994671513601) (t := s) ?_ hw₀ h₀
  clear h₀ hw₀
  unfold State.showRetire; try dsimp only
  repeat' first | (with_reducible first | assumption | exact Kept.refl _ _ | refine Kept.ite ?_ ?_ | refine State.wrs_kept ?_ ?_ ?_) | (show Nat.testBit _ _ = true; rfl) | (show subMask _ _ = true; rfl) | exact inFam_MEM_RETIRE_STAT | exact inFam_MEM_STATUS | exact wrsOk_nil | apply wrsOk_cons | (intro _; try dsimp only) | split | dsimp only

theorem State.releasePages_kept {s : State} {tag : Nat} (hw₀ : subMask 44384713757731871763589207486774700033120374772764031638184406308126848246420176735557563836962755934537088523065495084175246622749 w₀ = true) (h₀ : Kept w₀ s₀ s) :
    Kept w₀ s₀ (State.releasePages s tag) := by
  refine Kept.trans (a := 44384713757731871763589207486774700033120374772764031638184406308126848246420176735557563836962755934537088523065495084175246622749) (t := s) ?_ hw₀ h₀
  clear h₀ hw₀
  unfold State.releasePages; try dsimp only
  repeat' first | (with_reducible first | assumption | exact Kept.refl _ _ | refine Kept.ite ?_ ?_ | refine State.forEach_kept ?_ ?_ | refine State.retirePage_kept ?_ ?_ | refine State.showPool_kept ?_ ?_ | refine State.showRetire_kept ?_ ?_ | refine State.updMem_kept ?_ ?_ ?_ | refine State.updPage_kept ?_ ?_) | (show Nat.testBit _ _ = true; rfl) | (show subMask _ _ = true; rfl) | refine MemU.store_holds ?_ | refine MemU.flip_holds ?_ | refine MemU.storeList_holds ?_ | refine MemU.flipAll_holds ?_ | refine MemU.foldl_holds ?_ ?_ | exact MemU.holds_of rfl rfl | (intro _; try dsimp only) | split | dsimp only

theorem State.allocPages_kept {s : State} {tag n : Nat} (hw₀ : subMask 91349427519481065043515685974335850818872279057 w₀ = true) (h₀ : Kept w₀ s₀ s) :
    ∀ p, State.allocPages s tag n = some p → Kept w₀ s₀ p := by
  intro p hp; refine Kept.trans (a := 91349427519481065043515685974335850818872279057) (t := s) ?_ hw₀ h₀
  clear h₀ hw₀
  unfold State.allocPages at hp; try dsimp only at hp
  repeat' first | (cases hp; done) | split at hp
  all_goals (cases hp)
  all_goals (repeat' first | (with_reducible first | assumption | exact Kept.refl _ _ | refine Kept.ite ?_ ?_ | refine State.forEach_kept ?_ ?_ | refine State.putMap_kept ?_ ?_ | refine State.showPool_kept ?_ ?_ | refine State.updMem_kept ?_ ?_ ?_ | refine State.updPage_kept ?_ ?_) | (show Nat.testBit _ _ = true; rfl) | (show subMask _ _ = true; rfl) | refine MemU.store_holds ?_ | refine MemU.flip_holds ?_ | refine MemU.storeList_holds ?_ | refine MemU.flipAll_holds ?_ | refine MemU.foldl_holds ?_ ?_ | exact MemU.holds_of rfl rfl | (intro _; try dsimp only) | split | dsimp only)

theorem State.updMapEnt_kept {s : State} {tag i : Nat} {f : MapEnt → MapEnt} (hw₀ : subMask 16 w₀ = true) (h₀ : Kept w₀ s₀ s) :
    Kept w₀ s₀ (State.updMapEnt s tag i f) := by
  refine Kept.trans (a := 16) (t := s) ?_ hw₀ h₀
  clear h₀ hw₀
  unfold State.updMapEnt; try dsimp only
  repeat' first | (with_reducible first | assumption | exact Kept.refl _ _ | refine Kept.ite ?_ ?_ | refine State.putMap_kept ?_ ?_ | refine State.updMem_kept ?_ ?_ ?_) | (show Nat.testBit _ _ = true; rfl) | (show subMask _ _ = true; rfl) | refine MemU.store_holds ?_ | refine MemU.flip_holds ?_ | refine MemU.storeList_holds ?_ | refine MemU.flipAll_holds ?_ | refine MemU.foldl_holds ?_ ?_ | exact MemU.holds_of rfl rfl | (intro _; try dsimp only) | split | dsimp only

theorem State.markValid_kept {s : State} {tag i : Nat} (hw₀ : subMask 16 w₀ = true) (h₀ : Kept w₀ s₀ s) :
    Kept w₀ s₀ (State.markValid s tag i) := by
  refine Kept.trans (a := 16) (t := s) ?_ hw₀ h₀
  clear h₀ hw₀
  unfold State.markValid; try dsimp only
  repeat' first | (with_reducible first | assumption | exact Kept.refl _ _ | refine Kept.ite ?_ ?_ | refine State.updMapEnt_kept ?_ ?_) | (show Nat.testBit _ _ = true; rfl) | (show subMask _ _ = true; rfl) | (intro _; try dsimp only) | split | dsimp only

theorem State.putSlot_kept {s : State} {n i : Nat} (hw₀ : subMask 16 w₀ = true) (h₀ : Kept w₀ s₀ s) :
    Kept w₀ s₀ (State.putSlot s n i) := by
  refine Kept.trans (a := 16) (t := s) ?_ hw₀ h₀
  clear h₀ hw₀
  unfold State.putSlot; try dsimp only
  repeat' first | (with_reducible first | assumption | exact Kept.refl _ _ | refine Kept.ite ?_ ?_ | refine State.putTable_kept ?_ ?_) | (show Nat.testBit _ _ = true; rfl) | (show subMask _ _ = true; rfl) | (intro _; try dsimp only) | split | dsimp only

theorem State.writeBuf_kept {s : State} {port : Nat} {x0_ : Nat} {x1_ : Nat} {x2_ : List Byte} (hw₀ : subMask 161390617380431786853494948250188242145606612051826469551916209783790476378907091827836237282186848059617814154231939097 w₀ = true) (h₀ : Kept w₀ s₀ s) :
    Kept w₀ s₀ (State.writeBuf s port x0_ x1_ x2_).1 := by
  refine Kept.trans (a := 161390617380431786853494948250188242145606612051826469551916209783790476378907091827836237282186848059617814154231939097) (t := s) ?_ hw₀ h₀
  clear h₀ hw₀
  induction x0_ generalizing s port x1_ x2_ with
  | zero =>
    unfold State.writeBuf; try dsimp only
    repeat' first | (with_reducible first | assumption | exact Kept.refl _ _ | refine Kept.ite ?_ ?_ | refine State.writePage_kept ?_ ?_ | refine State.writePage_keptp (by assumption) ?_ ?_ | refine Kept.trans ih ?_ ?_) | (show Nat.testBit _ _ = true; rfl) | (show subMask _ _ = true; rfl) | (intro _; try dsimp only) | split | dsimp only
  | succ n_ ih =>
    unfold State.writeBuf; try dsimp only
    repeat' first | (with_reducible first | assumption | exact Kept.refl _ _ | refine Kept.ite ?_ ?_ | refine State.writePage_kept ?_ ?_ | refine State.writePage_keptp (by assumption) ?_ ?_ | refine Kept.trans ih ?_ ?_) | (show Nat.testBit _ _ = true; rfl) | (show subMask _ _ = true; rfl) | (intro _; try dsimp only) | split | dsimp only
theorem State.writeBuf_keptp {s : State} {port : Nat} {x0_ : Nat} {x1_ : Nat} {x2_ : List Byte} {a₀ : State} {b₀ : Bool} (e₀ : State.writeBuf s port x0_ x1_ x2_ = (a₀, b₀)) (hw₀ : subMask 161390617380431786853494948250188242145606612051826469551916209783790476378907091827836237282186848059617814154231939097 w₀ = true) (h₀ : Kept w₀ s₀ s) : Kept w₀ s₀ a₀ := by
  have g : Kept w₀ s₀ (State.writeBuf s port x0_ x1_ x2_).1 := State.writeBuf_kept hw₀ h₀; rw [e₀] at g; exact g

theorem State.readBuf_kept {s : State} {port chan : Nat} {x0_ : Nat} {x1_ : Nat} {x2_ : Nat} (hw₀ : subMask 44384713757731871763589207486774700033120374772764031638184406308126848246420176735497546956447210395007430521264230181272276828185 w₀ = true) (h₀ : Kept w₀ s₀ s) :
    Kept w₀ s₀ (State.readBuf s port chan x0_ x1_ x2_).1 := by
  refine Kept.trans (a := 44384713757731871763589207486774700033120374772764031638184406308126848246420176735497546956447210395007430521264230181272276828185) (t := s) ?_ hw₀ h₀
  clear h₀ hw₀
  induction x0_ generalizing s port chan x1_ x2_ with
  | zero =>
    unfold State.readBuf; try dsimp only
    repeat' first | (with_reducible first | assumption | exact Kept.refl _ _ | refine Kept.ite ?_ ?_ | refine State.readPage_kept ?_ ?_ | refine State.readPage_keptp (by assumption) ?_ ?_ | refine Kept.trans ih ?_ ?_) | (show Nat.testBit _ _ = true; rfl) | (show subMask _ _ = true; rfl) | (intro _; try dsimp only) | split | dsimp only
  | succ n_ ih =>
    unfold State.readBuf; try dsimp only
    repeat' first | (with_reducible first | assumption | exact Kept.refl _ _ | refine Kept.ite ?_ ?_ | refine State.readPage_kept ?_ ?_ | refine State.readPage_keptp (by assumption) ?_ ?_ | refine Kept.trans ih ?_ ?_) | (show Nat.testBit _ _ = true; rfl) | (show subMask _ _ = true; rfl) | (intro _; try dsimp only) | split | dsimp only
theorem State.readBuf_keptp {s : State} {port chan : Nat} {x0_ : Nat} {x1_ : Nat} {x2_ : Nat} {a₀ : State} {b₀ : BufResp} (e₀ : State.readBuf s port chan x0_ x1_ x2_ = (a₀, b₀)) (hw₀ : subMask 44384713757731871763589207486774700033120374772764031638184406308126848246420176735497546956447210395007430521264230181272276828185 w₀ = true) (h₀ : Kept w₀ s₀ s) : Kept w₀ s₀ a₀ := by
  have g : Kept w₀ s₀ (State.readBuf s port chan x0_ x1_ x2_).1 := State.readBuf_kept hw₀ h₀; rw [e₀] at g; exact g

theorem State.writeTrailer_kept {s : State} {page tag crc : Nat} (hw₀ : subMask 16 w₀ = true) (h₀ : Kept w₀ s₀ s) :
    Kept w₀ s₀ (State.writeTrailer s page tag crc) := by
  refine Kept.trans (a := 16) (t := s) ?_ hw₀ h₀
  clear h₀ hw₀
  unfold State.writeTrailer; try dsimp only
  repeat' first | (with_reducible first | assumption | exact Kept.refl _ _ | refine Kept.ite ?_ ?_ | refine State.putTable_kept ?_ ?_) | (show Nat.testBit _ _ = true; rfl) | (show subMask _ _ = true; rfl) | (intro _; try dsimp only) | split | dsimp only

theorem State.retireFrame_kept {s : State} {frame : Nat} (hw₀ : subMask 44384713757731871763589207486774700033120374772764031638184406308126848246420176735557541536217557403913946987347222435813740642333 w₀ = true) (h₀ : Kept w₀ s₀ s) :
    Kept w₀ s₀ (State.retireFrame s frame) := by
  refine Kept.trans (a := 44384713757731871763589207486774700033120374772764031638184406308126848246420176735557541536217557403913946987347222435813740642333) (t := s) ?_ hw₀ h₀
  clear h₀ hw₀
  unfold State.retireFrame; try dsimp only
  repeat' first | (with_reducible first | assumption | exact Kept.refl _ _ | refine Kept.ite ?_ ?_ | refine State.putMap_kept ?_ ?_ | refine State.retirePage_kept ?_ ?_ | refine State.updMem_kept ?_ ?_ ?_ | refine State.updPage_kept ?_ ?_) | (show Nat.testBit _ _ = true; rfl) | (show subMask _ _ = true; rfl) | refine MemU.store_holds ?_ | refine MemU.flip_holds ?_ | refine MemU.storeList_holds ?_ | refine MemU.flipAll_holds ?_ | refine MemU.foldl_holds ?_ ?_ | exact MemU.holds_of rfl rfl | (intro _; try dsimp only) | split | dsimp only

end Sys2Proof.Machine
end

