-- ==== Sys2Proof/Laws/KeptPreamp.lean ====
section
/-! SUPPORT. What the operations and meanings of Machine/Preamp.lean keep (the relation Kept). -/

set_option Elab.async false

namespace Sys2Proof.Machine
open Reg
set_option linter.unusedVariables false
set_option linter.unusedTactic false
set_option linter.unreachableTactic false
set_option maxHeartbeats 400000

variable {w₀ : Nat} {s₀ : State}

theorem State.paSend_kept {s : State} {a : Nat} {f : PaFrame} (hw₀ : subMask 4194816 w₀ = true) (h₀ : Kept w₀ s₀ s) :
    Kept w₀ s₀ (State.paSend s a f) := by
  refine Kept.trans (a := 4194816) (t := s) ?_ hw₀ h₀
  clear h₀ hw₀
  unfold State.paSend; try dsimp only
  repeat' first | (with_reducible first | assumption | exact Kept.refl _ _ | refine Kept.ite ?_ ?_ | refine State.emit_kept ?_ ?_ | refine State.updPort_kept ?_ ?_) | (show Nat.testBit _ _ = true; rfl) | (show subMask _ _ = true; rfl) | (intro _; try dsimp only) | split | dsimp only

theorem State.paKick_kept {s : State} {a : Nat} (hw₀ : subMask 118571099379011784113736688648896417641748464297615937576404566024103044755489281 w₀ = true) (h₀ : Kept w₀ s₀ s) :
    Kept w₀ s₀ (State.paKick s a) := by
  refine Kept.trans (a := 118571099379011784113736688648896417641748464297615937576404566024103044755489281) (t := s) ?_ hw₀ h₀
  clear h₀ hw₀
  unfold State.paKick; try dsimp only
  repeat' first | (with_reducible first | assumption | exact Kept.refl _ _ | refine Kept.ite ?_ ?_ | apply State.clr_kept | refine State.paSend_kept ?_ ?_ | refine State.updHead_kept ?_ ?_ | refine State.updPort_kept ?_ ?_) | (show Nat.testBit _ _ = true; rfl) | (show subMask _ _ = true; rfl) | exact inFam_WRP_PA_CMD | exact wrsOk_nil | apply wrsOk_cons | (intro _; try dsimp only) | split | dsimp only

theorem State.arm_kept {s : State} {h mode : Nat} (hw₀ : subMask 118571099379011784113736688648896417641748464297615937576404566024103044755489281 w₀ = true) (h₀ : Kept w₀ s₀ s) :
    Kept w₀ s₀ (State.arm s h mode) := by
  refine Kept.trans (a := 118571099379011784113736688648896417641748464297615937576404566024103044755489281) (t := s) ?_ hw₀ h₀
  clear h₀ hw₀
  unfold State.arm; try dsimp only
  repeat' first | (with_reducible first | assumption | exact Kept.refl _ _ | refine Kept.ite ?_ ?_ | refine State.paKick_kept ?_ ?_ | refine State.updPort_kept ?_ ?_) | (show Nat.testBit _ _ = true; rfl) | (show subMask _ _ = true; rfl) | (intro _; try dsimp only) | split | dsimp only

theorem State.heaterFrame_kept {s : State} {h v : Nat} (hw₀ : subMask 118571099379011784113736688648896417641748464297615937576404566024103044755489281 w₀ = true) (h₀ : Kept w₀ s₀ s) :
    Kept w₀ s₀ (State.heaterFrame s h v) := by
  refine Kept.trans (a := 118571099379011784113736688648896417641748464297615937576404566024103044755489281) (t := s) ?_ hw₀ h₀
  clear h₀ hw₀
  unfold State.heaterFrame; try dsimp only
  repeat' first | (with_reducible first | assumption | exact Kept.refl _ _ | refine Kept.ite ?_ ?_ | refine State.paKick_kept ?_ ?_ | refine State.updPort_kept ?_ ?_) | (show Nat.testBit _ _ = true; rfl) | (show subMask _ _ = true; rfl) | (intro _; try dsimp only) | split | dsimp only

theorem State.statusClr_kept {s : State} {h mask : Nat} (hw₀ : subMask 118571099379011784113736688648896417641748464297615937576404566024103044755489281 w₀ = true) (h₀ : Kept w₀ s₀ s) :
    Kept w₀ s₀ (State.statusClr s h mask) := by
  refine Kept.trans (a := 118571099379011784113736688648896417641748464297615937576404566024103044755489281) (t := s) ?_ hw₀ h₀
  clear h₀ hw₀
  unfold State.statusClr; try dsimp only
  repeat' first | (with_reducible first | assumption | exact Kept.refl _ _ | refine Kept.ite ?_ ?_ | refine State.paKick_kept ?_ ?_ | refine State.updPort_kept ?_ ?_) | (show Nat.testBit _ _ = true; rfl) | (show subMask _ _ = true; rfl) | (intro _; try dsimp only) | split | dsimp only

theorem State.paCheck_kept {s : State} {a : Nat} (hw₀ : subMask 512 w₀ = true) (h₀ : Kept w₀ s₀ s) :
    Kept w₀ s₀ (State.paCheck s a) := by
  refine Kept.trans (a := 512) (t := s) ?_ hw₀ h₀
  clear h₀ hw₀
  unfold State.paCheck; try dsimp only
  repeat' first | (with_reducible first | assumption | exact Kept.refl _ _ | refine Kept.ite ?_ ?_ | refine State.updPort_kept ?_ ?_) | (show Nat.testBit _ _ = true; rfl) | (show subMask _ _ = true; rfl) | (intro _; try dsimp only) | split | dsimp only

theorem State.runOnReader_kept {s : State} {h mode : Nat} (hw₀ : subMask 22713710134237715329666368996500141698551292521478689383796568724394977756757561192461450885889035608456154005240224047988541971496961 w₀ = true) (h₀ : Kept w₀ s₀ s) :
    Kept w₀ s₀ (State.runOnReader s h mode) := by
  refine Kept.trans (a := 22713710134237715329666368996500141698551292521478689383796568724394977756757561192461450885889035608456154005240224047988541971496961) (t := s) ?_ hw₀ h₀
  clear h₀ hw₀
  unfold State.runOnReader; try dsimp only
  repeat' first | (with_reducible first | assumption | exact Kept.refl _ _ | refine Kept.ite ?_ ?_ | refine State.wrs_kept ?_ ?_ ?_) | (show Nat.testBit _ _ = true; rfl) | (show subMask _ _ = true; rfl) | exact inFam_RCH_CTRL | exact inFam_RCH_CTRL_hold | exact wrsOk_nil | apply wrsOk_cons | (intro _; try dsimp only) | split | dsimp only

theorem State.loseReader_kept {s : State} {h : Nat} {b : Bool} (hw₀ : subMask 22758094510825633686285714079807244655647708611849353852209064761809481277845590596104374886623865604700150544585583647128971672289353 w₀ = true) (h₀ : Kept w₀ s₀ s) :
    Kept w₀ s₀ (State.loseReader s h b) := by
  refine Kept.trans (a := 22758094510825633686285714079807244655647708611849353852209064761809481277845590596104374886623865604700150544585583647128971672289353) (t := s) ?_ hw₀ h₀
  clear h₀ hw₀
  unfold State.loseReader; try dsimp only
  repeat' first | (with_reducible first | assumption | exact Kept.refl _ _ | refine Kept.ite ?_ ?_ | refine State.logFree_kept ?_ ?_ | refine State.offlineZones_kept ?_ ?_ | refine State.runOnReader_kept ?_ ?_ | apply State.wrpBit_kept) | (show Nat.testBit _ _ = true; rfl) | (show subMask _ _ = true; rfl) | exact inFam_WRP_STATUS | exact wrsOk_nil | apply wrsOk_cons | (intro _; try dsimp only) | split | dsimp only

theorem State.loseWriter_kept {s : State} {h : Nat} (hw₀ : subMask 44384376587918356619345083307102957096416090370664468412496037414503521088029403642924000734829996243996539345359599140429700792393 w₀ = true) (h₀ : Kept w₀ s₀ s) :
    Kept w₀ s₀ (State.loseWriter s h) := by
  refine Kept.trans (a := 44384376587918356619345083307102957096416090370664468412496037414503521088029403642924000734829996243996539345359599140429700792393) (t := s) ?_ hw₀ h₀
  clear h₀ hw₀
  unfold State.loseWriter; try dsimp only
  repeat' first | (with_reducible first | assumption | exact Kept.refl _ _ | refine Kept.ite ?_ ?_ | refine State.logFree_kept ?_ ?_ | refine State.showInhibit_kept ?_ ?_ | refine State.writerLostZones_kept ?_ ?_ | apply State.wrpBit_kept) | (show Nat.testBit _ _ = true; rfl) | (show subMask _ _ = true; rfl) | exact inFam_WRP_STATUS | exact wrsOk_nil | apply wrsOk_cons | (intro _; try dsimp only) | split | dsimp only

theorem State.judgeReaders_kept {s : State} {h : Nat} (hw₀ : subMask 22758094510825633686285714079807244655647708611849353852209064761809481277845590596104374886623865604700150544585583647128971672289353 w₀ = true) (h₀ : Kept w₀ s₀ s) :
    Kept w₀ s₀ (State.judgeReaders s h) := by
  refine Kept.trans (a := 22758094510825633686285714079807244655647708611849353852209064761809481277845590596104374886623865604700150544585583647128971672289353) (t := s) ?_ hw₀ h₀
  clear h₀ hw₀
  unfold State.judgeReaders; try dsimp only
  repeat' first | (with_reducible first | assumption | exact Kept.refl _ _ | refine Kept.ite ?_ ?_ | refine State.loseReader_kept ?_ ?_) | (show Nat.testBit _ _ = true; rfl) | (show subMask _ _ = true; rfl) | (intro _; try dsimp only) | split | dsimp only

theorem State.clearSuspects_kept {s : State} {h : Nat} {b : Bool} (hw₀ : subMask 315936875005671560093754083051011296956685286201647333762932932737 w₀ = true) (h₀ : Kept w₀ s₀ s) :
    Kept w₀ s₀ (State.clearSuspects s h b) := by
  refine Kept.trans (a := 315936875005671560093754083051011296956685286201647333762932932737) (t := s) ?_ hw₀ h₀
  clear h₀ hw₀
  unfold State.clearSuspects; try dsimp only
  repeat' first | (with_reducible first | assumption | exact Kept.refl _ _ | refine Kept.ite ?_ ?_ | refine State.updChan_kept ?_ ?_ | refine State.wrs_kept ?_ ?_ ?_) | (show Nat.testBit _ _ = true; rfl) | (show subMask _ _ = true; rfl) | exact inFam_RCH_HEALTH_A | exact inFam_RCH_HEALTH_B | exact wrsOk_nil | apply wrsOk_cons | (intro _; try dsimp only) | split | dsimp only

end Sys2Proof.Machine
end

