-- ==== Sys2Proof/Laws/KeptDecodeOps.lean ====
section
/-! SUPPORT. What the operations and meanings of Machine/DecodeOps.lean keep (the relation Kept). -/

set_option Elab.async false

namespace Sys2Proof.Machine
open Reg
set_option linter.unusedVariables false
set_option linter.unusedTactic false
set_option linter.unreachableTactic false
set_option maxHeartbeats 400000

variable {w₀ : Nat} {s₀ : State}

theorem State.releaseBuf_kept {s : State} {b : Option Nat} (hw₀ : subMask 256 w₀ = true) (h₀ : Kept w₀ s₀ s) :
    Kept w₀ s₀ (State.releaseBuf s b) := by
  refine Kept.trans (a := 256) (t := s) ?_ hw₀ h₀
  clear h₀ hw₀
  unfold State.releaseBuf; try dsimp only
  repeat' first | (with_reducible first | assumption | exact Kept.refl _ _ | refine Kept.ite ?_ ?_ | refine State.updDec_kept ?_ ?_) | (show Nat.testBit _ _ = true; rfl) | (show subMask _ _ = true; rfl) | (intro _; try dsimp only) | split | dsimp only

theorem State.showDeep_kept {s : State} (hw₀ : subMask 1809251394333065553493296640760748560207343510400633813116524750123642650625 w₀ = true) (h₀ : Kept w₀ s₀ s) :
    Kept w₀ s₀ (State.showDeep s) := by
  refine Kept.trans (a := 1809251394333065553493296640760748560207343510400633813116524750123642650625) (t := s) ?_ hw₀ h₀
  clear h₀ hw₀
  unfold State.showDeep; try dsimp only
  repeat' first | (with_reducible first | assumption | exact Kept.refl _ _ | refine Kept.ite ?_ ?_ | refine State.wrs_kept ?_ ?_ ?_ | refine State.foldl_kept ?_ ?_) | (show Nat.testBit _ _ = true; rfl) | (show subMask _ _ = true; rfl) | exact inFam_DEC_DEEP_STAT | exact wrsOk_nil | apply wrsOk_cons | (intro _; try dsimp only) | split | dsimp only

theorem State.decBit_kept {s : State} {f : Fld} {i_ : Nat} (hf_ : inFam i_ f.addr) (hi_ : w₀.testBit (32 + i_) = true) (hw₀ : subMask 4194305 w₀ = true) (h₀ : Kept w₀ s₀ s) :
    Kept w₀ s₀ (State.decBit s f) := by
  unfold State.decBit; try dsimp only
  repeat' first | (with_reducible first | assumption | exact Kept.refl _ _ | refine Kept.ite ?_ ?_ | apply State.raiseBit_kept) | exact hi_ | exact testBit_sub hw₀ rfl | exact subMask_trans rfl hw₀ | exact hf_ _ | exact hf_ | exact wrsOk_nil | apply wrsOk_cons | (intro _; try dsimp only) | split | dsimp only

theorem State.toReread_kept {s : State} {d : DSect} {charged : Bool} (hw₀ : subMask 256 w₀ = true) (h₀ : Kept w₀ s₀ s) :
    Kept w₀ s₀ (State.toReread s d charged) := by
  refine Kept.trans (a := 256) (t := s) ?_ hw₀ h₀
  clear h₀ hw₀
  unfold State.toReread; try dsimp only
  repeat' first | (with_reducible first | assumption | exact Kept.refl _ _ | refine Kept.ite ?_ ?_ | refine State.updDec_kept ?_ ?_) | (show Nat.testBit _ _ = true; rfl) | (show subMask _ _ = true; rfl) | (intro _; try dsimp only) | split | dsimp only

theorem State.backlogReread_kept {s : State} {d : DSect} (hw₀ : subMask 116018245661607828617757647088783001423295902604440643266097149601678589165825 w₀ = true) (h₀ : Kept w₀ s₀ s) :
    Kept w₀ s₀ (State.backlogReread s d) := by
  refine Kept.trans (a := 116018245661607828617757647088783001423295902604440643266097149601678589165825) (t := s) ?_ hw₀ h₀
  clear h₀ hw₀
  unfold State.backlogReread; try dsimp only
  repeat' first | (with_reducible first | assumption | exact Kept.refl _ _ | refine Kept.ite ?_ ?_ | apply State.decBit_kept | apply State.inc_kept | refine State.toReread_kept ?_ ?_) | (show Nat.testBit _ _ = true; rfl) | (show subMask _ _ = true; rfl) | exact inFam_DEC_REREAD_CNT | exact inFam_DEC_STATUS | exact wrsOk_nil | apply wrsOk_cons | (intro _; try dsimp only) | split | dsimp only

theorem State.holdSlot_kept {s : State} {n i q : Nat} (hw₀ : subMask 128 w₀ = true) (h₀ : Kept w₀ s₀ s) :
    Kept w₀ s₀ (State.holdSlot s n i q) := by
  refine Kept.trans (a := 128) (t := s) ?_ hw₀ h₀
  clear h₀ hw₀
  unfold State.holdSlot; try dsimp only
  repeat' first | (with_reducible first | assumption | exact Kept.refl _ _ | refine Kept.ite ?_ ?_ | refine State.updChan_kept ?_ ?_) | (show Nat.testBit _ _ = true; rfl) | (show subMask _ _ = true; rfl) | (intro _; try dsimp only) | split | dsimp only

theorem State.limitStop_kept {s : State} {d : DSect} (hw₀ : subMask 524544 w₀ = true) (h₀ : Kept w₀ s₀ s) :
    Kept w₀ s₀ (State.limitStop s d) := by
  refine Kept.trans (a := 524544) (t := s) ?_ hw₀ h₀
  clear h₀ hw₀
  unfold State.limitStop; try dsimp only
  repeat' first | (with_reducible first | assumption | exact Kept.refl _ _ | refine Kept.ite ?_ ?_ | refine State.toReread_kept ?_ ?_ | refine State.updCmd_kept ?_ ?_) | (show Nat.testBit _ _ = true; rfl) | (show subMask _ _ = true; rfl) | (intro _; try dsimp only) | split | dsimp only

theorem State.rung3_kept {s : State} {d : DSect} (hw₀ : subMask 524544 w₀ = true) (h₀ : Kept w₀ s₀ s) :
    Kept w₀ s₀ (State.rung3 s d) := by
  refine Kept.trans (a := 524544) (t := s) ?_ hw₀ h₀
  clear h₀ hw₀
  unfold State.rung3; try dsimp only
  repeat' first | (with_reducible first | assumption | exact Kept.refl _ _ | refine Kept.ite ?_ ?_ | refine State.limitStop_kept ?_ ?_ | refine State.toReread_kept ?_ ?_) | (show Nat.testBit _ _ = true; rfl) | (show subMask _ _ = true; rfl) | (intro _; try dsimp only) | split | dsimp only

theorem State.startJob_kept {s : State} {e : Nat} {d : DSect} {ph : EPhase} {limit : Nat} (hw₀ : subMask 7067388259113537318333190002971674063309935587502475832486424805170479361 w₀ = true) (h₀ : Kept w₀ s₀ s) :
    Kept w₀ s₀ (State.startJob s e d ph limit) := by
  refine Kept.trans (a := 7067388259113537318333190002971674063309935587502475832486424805170479361) (t := s) ?_ hw₀ h₀
  clear h₀ hw₀
  unfold State.startJob; try dsimp only
  repeat' first | (with_reducible first | assumption | exact Kept.refl _ _ | refine Kept.ite ?_ ?_ | refine State.updEng_kept ?_ ?_ | refine State.wrs_kept ?_ ?_ ?_) | (show Nat.testBit _ _ = true; rfl) | (show subMask _ _ = true; rfl) | exact inFam_DEC_ESTATUS | exact wrsOk_nil | apply wrsOk_cons | (intro _; try dsimp only) | split | dsimp only

theorem State.startDeep_kept {s : State} {e : Nat} {d : DSect} (hw₀ : subMask 116025313049866942155075980278785973097359212540028145741929636026483760169345 w₀ = true) (h₀ : Kept w₀ s₀ s) :
    Kept w₀ s₀ (State.startDeep s e d) := by
  refine Kept.trans (a := 116025313049866942155075980278785973097359212540028145741929636026483760169345) (t := s) ?_ hw₀ h₀
  clear h₀ hw₀
  unfold State.startDeep; try dsimp only
  repeat' first | (with_reducible first | assumption | exact Kept.refl _ _ | refine Kept.ite ?_ ?_ | refine State.backlogReread_kept ?_ ?_ | refine State.holdSlot_kept ?_ ?_ | refine State.rung3_kept ?_ ?_ | refine State.startJob_kept ?_ ?_) | (show Nat.testBit _ _ = true; rfl) | (show subMask _ _ = true; rfl) | (intro _; try dsimp only) | split | dsimp only

theorem State.startTrial_kept {s : State} {e : Nat} {d : DSect} (hw₀ : subMask 7067388259113537318333190002971674063309935587502475832486424805171003777 w₀ = true) (h₀ : Kept w₀ s₀ s) :
    Kept w₀ s₀ (State.startTrial s e d) := by
  refine Kept.trans (a := 7067388259113537318333190002971674063309935587502475832486424805171003777) (t := s) ?_ hw₀ h₀
  clear h₀ hw₀
  unfold State.startTrial; try dsimp only
  repeat' first | (with_reducible first | assumption | exact Kept.refl _ _ | refine Kept.ite ?_ ?_ | refine State.holdSlot_kept ?_ ?_ | refine State.rung3_kept ?_ ?_ | refine State.startJob_kept ?_ ?_) | (show Nat.testBit _ _ = true; rfl) | (show subMask _ _ = true; rfl) | (intro _; try dsimp only) | split | dsimp only

theorem State.feedDeep_kept {s : State} {e : Nat} {x0_ : Nat} (hw₀ : subMask 116025313049866942155075980278785973097359212540028145741929636026483760169345 w₀ = true) (h₀ : Kept w₀ s₀ s) :
    Kept w₀ s₀ (State.feedDeep s e x0_) := by
  refine Kept.trans (a := 116025313049866942155075980278785973097359212540028145741929636026483760169345) (t := s) ?_ hw₀ h₀
  clear h₀ hw₀
  induction x0_ generalizing s e with
  | zero =>
    unfold State.feedDeep; try dsimp only
    repeat' first | (with_reducible first | assumption | exact Kept.refl _ _ | refine Kept.ite ?_ ?_ | refine State.startDeep_kept ?_ ?_ | refine State.startTrial_kept ?_ ?_ | refine State.updDec_kept ?_ ?_ | refine Kept.trans ih ?_ ?_) | (show Nat.testBit _ _ = true; rfl) | (show subMask _ _ = true; rfl) | (intro _; try dsimp only) | split | dsimp only
  | succ n_ ih =>
    unfold State.feedDeep; try dsimp only
    repeat' first | (with_reducible first | assumption | exact Kept.refl _ _ | refine Kept.ite ?_ ?_ | refine State.startDeep_kept ?_ ?_ | refine State.startTrial_kept ?_ ?_ | refine State.updDec_kept ?_ ?_ | refine Kept.trans ih ?_ ?_) | (show Nat.testBit _ _ = true; rfl) | (show subMask _ _ = true; rfl) | (intro _; try dsimp only) | split | dsimp only

theorem State.dispatchDeep_kept {s : State} (hw₀ : subMask 117834564444200007708569276919546721657566556050428779555046160776607402819969 w₀ = true) (h₀ : Kept w₀ s₀ s) :
    Kept w₀ s₀ (State.dispatchDeep s) := by
  refine Kept.trans (a := 117834564444200007708569276919546721657566556050428779555046160776607402819969) (t := s) ?_ hw₀ h₀
  clear h₀ hw₀
  unfold State.dispatchDeep; try dsimp only
  repeat' first | (with_reducible first | assumption | exact Kept.refl _ _ | refine Kept.ite ?_ ?_ | refine State.feedDeep_kept ?_ ?_ | refine State.forEach_kept ?_ ?_ | refine State.showDeep_kept ?_ ?_) | (show Nat.testBit _ _ = true; rfl) | (show subMask _ _ = true; rfl) | (intro _; try dsimp only) | split | dsimp only

theorem State.rung2_kept {s : State} {d : DSect} {shift : Int} (hw₀ : subMask 117834564444200007708569276919546721657566556050428779555046160776607402819969 w₀ = true) (h₀ : Kept w₀ s₀ s) :
    Kept w₀ s₀ (State.rung2 s d shift) := by
  refine Kept.trans (a := 117834564444200007708569276919546721657566556050428779555046160776607402819969) (t := s) ?_ hw₀ h₀
  clear h₀ hw₀
  unfold State.rung2; try dsimp only
  repeat' first | (with_reducible first | assumption | exact Kept.refl _ _ | refine Kept.ite ?_ ?_ | refine State.dispatchDeep_kept ?_ ?_ | refine State.limitStop_kept ?_ ?_ | refine State.releaseBuf_kept ?_ ?_ | refine State.rung3_kept ?_ ?_ | refine State.updDec_kept ?_ ?_) | (show Nat.testBit _ _ = true; rfl) | (show subMask _ _ = true; rfl) | (intro _; try dsimp only) | split | dsimp only

theorem State.postRec_kept {s : State} {r : CRec} (hw₀ : subMask 256 w₀ = true) (h₀ : Kept w₀ s₀ s) :
    Kept w₀ s₀ (State.postRec s r) := by
  refine Kept.trans (a := 256) (t := s) ?_ hw₀ h₀
  clear h₀ hw₀
  unfold State.postRec; try dsimp only
  repeat' first | (with_reducible first | assumption | exact Kept.refl _ _ | refine Kept.ite ?_ ?_ | refine State.updDec_kept ?_ ?_) | (show Nat.testBit _ _ = true; rfl) | (show subMask _ _ = true; rfl) | (intro _; try dsimp only) | split | dsimp only

theorem State.showService_kept {s : State} (hw₀ : subMask 44384713757731871763589207486774700033120374772764031649266071098416874761566618660125732416699586795887968673619080507146002104329 w₀ = true) (h₀ : Kept w₀ s₀ s) :
    Kept w₀ s₀ (State.showService s) := by
  refine Kept.trans (a := 44384713757731871763589207486774700033120374772764031649266071098416874761566618660125732416699586795887968673619080507146002104329) (t := s) ?_ hw₀ h₀
  clear h₀ hw₀
  unfold State.showService; try dsimp only
  repeat' first | (with_reducible first | assumption | exact Kept.refl _ _ | refine Kept.ite ?_ ?_ | apply State.decBit_kept | refine State.raise0_kept ?_ ?_ | refine State.wrs_kept ?_ ?_ ?_ | refine State.foldl_kept ?_ ?_) | (show Nat.testBit _ _ = true; rfl) | (show subMask _ _ = true; rfl) | exact inFam_DEC_IN_SERVICE | exact inFam_DEC_IN_SERVICE_DEEP | exact inFam_DEC_STATUS | exact wrsOk_nil | apply wrsOk_cons | (intro _; try dsimp only) | split | dsimp only

theorem State.releaseHold_kept {s : State} {n i : Nat} (hw₀ : subMask 128 w₀ = true) (h₀ : Kept w₀ s₀ s) :
    Kept w₀ s₀ (State.releaseHold s n i) := by
  refine Kept.trans (a := 128) (t := s) ?_ hw₀ h₀
  clear h₀ hw₀
  unfold State.releaseHold; try dsimp only
  repeat' first | (with_reducible first | assumption | exact Kept.refl _ _ | refine Kept.ite ?_ ?_ | refine State.updChan_kept ?_ ?_) | (show Nat.testBit _ _ = true; rfl) | (show subMask _ _ = true; rfl) | (intro _; try dsimp only) | split | dsimp only

theorem State.unhold_kept {s : State} {d : DSect} (hw₀ : subMask 128 w₀ = true) (h₀ : Kept w₀ s₀ s) :
    Kept w₀ s₀ (State.unhold s d) := by
  refine Kept.trans (a := 128) (t := s) ?_ hw₀ h₀
  clear h₀ hw₀
  unfold State.unhold; try dsimp only
  repeat' first | (with_reducible first | assumption | exact Kept.refl _ _ | refine Kept.ite ?_ ?_ | refine State.releaseHold_kept ?_ ?_) | (show Nat.testBit _ _ = true; rfl) | (show subMask _ _ = true; rfl) | (intro _; try dsimp only) | split | dsimp only

theorem State.rung1_kept {s : State} {d : DSect} (hw₀ : subMask 117834564444200007708569276919546721657566556050428779555046160776607402819969 w₀ = true) (h₀ : Kept w₀ s₀ s) :
    Kept w₀ s₀ (State.rung1 s d) := by
  refine Kept.trans (a := 117834564444200007708569276919546721657566556050428779555046160776607402819969) (t := s) ?_ hw₀ h₀
  clear h₀ hw₀
  unfold State.rung1; try dsimp only
  repeat' first | (with_reducible first | assumption | exact Kept.refl _ _ | refine Kept.ite ?_ ?_ | refine State.dispatchDeep_kept ?_ ?_ | refine State.limitStop_kept ?_ ?_ | refine State.releaseBuf_kept ?_ ?_ | refine State.rung3_kept ?_ ?_ | refine State.updDec_kept ?_ ?_) | (show Nat.testBit _ _ = true; rfl) | (show subMask _ _ = true; rfl) | (intro _; try dsimp only) | split | dsimp only

end Sys2Proof.Machine
end

