-- ==== Sys2Proof/Laws/KeptSequencer.lean ====
section
/-! SUPPORT. What the operations and meanings of Machine/Sequencer.lean keep (the relation Kept). -/

set_option Elab.async false

namespace Sys2Proof.Machine
open Reg
set_option linter.unusedVariables false
set_option linter.unusedTactic false
set_option linter.unreachableTactic false
set_option maxHeartbeats 400000

variable {w₀ : Nat} {s₀ : State}

theorem State.stopChannel_kept {s : State} {n h : Nat} {keep : Bool} (hw₀ : subMask 400 w₀ = true) (h₀ : Kept w₀ s₀ s) :
    Kept w₀ s₀ (State.stopChannel s n h keep) := by
  refine Kept.trans (a := 400) (t := s) ?_ hw₀ h₀
  clear h₀ hw₀
  unfold State.stopChannel; try dsimp only
  repeat' first | (with_reducible first | assumption | exact Kept.refl _ _ | refine Kept.ite ?_ ?_ | refine State.postRec_kept ?_ ?_ | refine State.putSlot_kept ?_ ?_ | refine State.releaseBuf_kept ?_ ?_ | refine State.updChan_kept ?_ ?_) | (show Nat.testBit _ _ = true; rfl) | (show subMask _ _ = true; rfl) | (intro _; try dsimp only) | split | dsimp only

theorem State.abandonChannel_kept {s : State} {h : Nat} (hw₀ : subMask 400 w₀ = true) (h₀ : Kept w₀ s₀ s) :
    Kept w₀ s₀ (State.abandonChannel s h) := by
  refine Kept.trans (a := 400) (t := s) ?_ hw₀ h₀
  clear h₀ hw₀
  unfold State.abandonChannel; try dsimp only
  repeat' first | (with_reducible first | assumption | exact Kept.refl _ _ | refine Kept.ite ?_ ?_ | refine State.stopChannel_kept ?_ ?_ | refine State.updChan_kept ?_ ?_) | (show Nat.testBit _ _ = true; rfl) | (show subMask _ _ = true; rfl) | (intro _; try dsimp only) | split | dsimp only

theorem State.rereadAbandoned_kept {s : State} {h : Nat} {d : SDesc} (hw₀ : subMask 485667223056432267729865476705879726660601709763034880312953102434726071301302657281 w₀ = true) (h₀ : Kept w₀ s₀ s) :
    Kept w₀ s₀ (State.rereadAbandoned s h d) := by
  refine Kept.trans (a := 485667223056432267729865476705879726660601709763034880312953102434726071301302657281) (t := s) ?_ hw₀ h₀
  clear h₀ hw₀
  unfold State.rereadAbandoned; try dsimp only
  repeat' first | (with_reducible first | assumption | exact Kept.refl _ _ | refine Kept.ite ?_ ?_ | refine State.cancelToken_kept ?_ ?_ | apply State.inc_kept | refine State.rung3_kept ?_ ?_ | refine State.updSec_kept ?_ ?_) | (show Nat.testBit _ _ = true; rfl) | (show subMask _ _ = true; rfl) | exact inFam_SEQ_EVT_CNT | exact wrsOk_nil | apply wrsOk_cons | (intro _; try dsimp only) | split | dsimp only

theorem State.fenceSeq_kept {s : State} {a : Nat} (hw₀ : subMask 44384376587918356619345083452686370194006454691202693340070909321937754035240018575553365612314079685455747871939088785186776165961 w₀ = true) (h₀ : Kept w₀ s₀ s) :
    Kept w₀ s₀ (State.fenceSeq s a) := by
  refine Kept.trans (a := 44384376587918356619345083452686370194006454691202693340070909321937754035240018575553365612314079685455747871939088785186776165961) (t := s) ?_ hw₀ h₀
  clear h₀ hw₀
  unfold State.fenceSeq; try dsimp only
  repeat' first | (with_reducible first | assumption | exact Kept.refl _ _ | refine Kept.ite ?_ ?_ | apply State.clr_kept | refine State.domainDead_kept ?_ ?_ | refine State.markFenced_kept ?_ ?_ | refine State.retract_kept ?_ ?_) | (show Nat.testBit _ _ = true; rfl) | (show subMask _ _ = true; rfl) | exact inFam_SEQ_CTRL | exact wrsOk_nil | apply wrsOk_cons | (intro _; try dsimp only) | split | dsimp only

theorem State.flushLane_kept {s : State} {h : Nat} (hw₀ : subMask 485667223056432267729865476705879726660601709763034880312953102434726071301302657025 w₀ = true) (h₀ : Kept w₀ s₀ s) :
    Kept w₀ s₀ (State.flushLane s h) := by
  refine Kept.trans (a := 485667223056432267729865476705879726660601709763034880312953102434726071301302657025) (t := s) ?_ hw₀ h₀
  clear h₀ hw₀
  unfold State.flushLane; try dsimp only
  repeat' first | (with_reducible first | assumption | exact Kept.refl _ _ | refine Kept.ite ?_ ?_ | refine State.forEach_kept ?_ ?_ | refine State.returnSector_kept ?_ ?_ | refine State.updLane_kept ?_ ?_) | (show Nat.testBit _ _ = true; rfl) | (show subMask _ _ = true; rfl) | (intro _; try dsimp only) | split | dsimp only

theorem State.flushAct_kept {s : State} {a : Nat} (hw₀ : subMask 1989778612862203000889258858063989240128485204899153904642168860675072714121434804789249 w₀ = true) (h₀ : Kept w₀ s₀ s) :
    Kept w₀ s₀ (State.flushAct s a) := by
  refine Kept.trans (a := 1989778612862203000889258858063989240128485204899153904642168860675072714121434804789249) (t := s) ?_ hw₀ h₀
  clear h₀ hw₀
  unfold State.flushAct; try dsimp only
  repeat' first | (with_reducible first | assumption | exact Kept.refl _ _ | refine Kept.ite ?_ ?_ | refine State.flushLane_kept ?_ ?_ | refine State.forEach_kept ?_ ?_ | refine State.updSeq_kept ?_ ?_ | apply State.wr_kept) | (show Nat.testBit _ _ = true; rfl) | (show subMask _ _ = true; rfl) | exact inFam_SEQ_FLUSH | exact wrsOk_nil | apply wrsOk_cons | (intro _; try dsimp only) | split | dsimp only

theorem State.leaveSector_kept {s : State} {h : Nat} {d : SDesc} {shut : Bool} (hw₀ : subMask 485696865831277020675893910878041950765012146879109284297347203576232097062494675857 w₀ = true) (h₀ : Kept w₀ s₀ s) :
    Kept w₀ s₀ (State.leaveSector s h d shut) := by
  refine Kept.trans (a := 485696865831277020675893910878041950765012146879109284297347203576232097062494675857) (t := s) ?_ hw₀ h₀
  clear h₀ hw₀
  unfold State.leaveSector; try dsimp only
  repeat' first | (with_reducible first | assumption | exact Kept.refl _ _ | refine Kept.ite ?_ ?_ | refine State.abandonChannel_kept ?_ ?_ | refine State.closeGate_kept ?_ ?_ | refine State.rereadAbandoned_kept ?_ ?_ | refine State.returnSector_kept ?_ ?_) | (show Nat.testBit _ _ = true; rfl) | (show subMask _ _ = true; rfl) | (intro _; try dsimp only) | split | dsimp only

theorem State.stepDry_kept {s : State} {a : Nat} (hw₀ : subMask 485696865831277020675893910878041950765012146879109284297347203576232097062494675857 w₀ = true) (h₀ : Kept w₀ s₀ s) :
    Kept w₀ s₀ (State.stepDry s a) := by
  refine Kept.trans (a := 485696865831277020675893910878041950765012146879109284297347203576232097062494675857) (t := s) ?_ hw₀ h₀
  clear h₀ hw₀
  unfold State.stepDry; try dsimp only
  repeat' first | (with_reducible first | assumption | exact Kept.refl _ _ | refine Kept.ite ?_ ?_ | refine State.forEach_kept ?_ ?_ | refine State.leaveSector_kept ?_ ?_ | refine State.updSeq_kept ?_ ?_) | (show Nat.testBit _ _ = true; rfl) | (show subMask _ _ = true; rfl) | (intro _; try dsimp only) | split | dsimp only

theorem State.restart_kept {s : State} {a : Nat} (hw₀ : subMask 44384713757731871763589207632358113130710741084785477195409797266185046327808728920702903621926197000894941912236581575936375926745 w₀ = true) (h₀ : Kept w₀ s₀ s) :
    Kept w₀ s₀ (State.restart s a) := by
  refine Kept.trans (a := 44384713757731871763589207632358113130710741084785477195409797266185046327808728920702903621926197000894941912236581575936375926745) (t := s) ?_ hw₀ h₀
  clear h₀ hw₀
  unfold State.restart; try dsimp only
  repeat' first | (with_reducible first | assumption | exact Kept.refl _ _ | refine Kept.ite ?_ ?_ | refine State.closeGate_kept ?_ ?_ | refine State.fenceSeq_kept ?_ ?_ | refine State.flushAct_kept ?_ ?_ | refine State.forEach_kept ?_ ?_ | apply State.inc_kept | refine State.leaveSector_kept ?_ ?_ | apply State.raiseBit_kept | refine State.raiseSrc_kept ?_ ?_ | refine State.showEnds_kept ?_ ?_ | refine State.stepDry_kept ?_ ?_ | refine State.updSeq_kept ?_ ?_ | refine State.when_kept ?_ ?_ | refine State.wrs_kept ?_ ?_ ?_) | (show Nat.testBit _ _ = true; rfl) | (show subMask _ _ = true; rfl) | exact inFam_SEQ_EVT_CNT | exact inFam_SEQ_LC_SP | exact inFam_SEQ_PC | exact inFam_SEQ_STATUS | exact wrsOk_nil | apply wrsOk_cons | (intro _; try dsimp only) | split | dsimp only

theorem State.fetchStore_kept {s : State} {a : Nat} {nano : Bool} {addr : Nat} (hw₀ : subMask 44384713757731871763589207486774700033120375332253621167989410827204787305102813019820451120160170842706671809612993376096748716041 w₀ = true) (h₀ : Kept w₀ s₀ s) :
    Kept w₀ s₀ (State.fetchStore s a nano addr).1 := by
  refine Kept.trans (a := 44384713757731871763589207486774700033120375332253621167989410827204787305102813019820451120160170842706671809612993376096748716041) (t := s) ?_ hw₀ h₀
  clear h₀ hw₀
  unfold State.fetchStore; try dsimp only
  repeat' first | (with_reducible first | assumption | exact Kept.refl _ _ | refine Kept.ite ?_ ?_ | apply State.inc_kept | refine State.injDone_kept ?_ ?_ | apply State.raiseBit_kept | refine State.raiseSrc_kept ?_ ?_ | refine State.when_kept ?_ ?_) | (show Nat.testBit _ _ = true; rfl) | (show subMask _ _ = true; rfl) | exact inFam_SEQ_GSTATUS | exact inFam_SEQ_STATUS | exact inFam_SEQ_STORE_ERR | exact wrsOk_nil | apply wrsOk_cons | (intro _; try dsimp only) | split | dsimp only | refine Kept.lit rfl (.inr rfl) rfl rfl rfl rfl (.inr rfl) (.inr rfl) (.inr rfl) (.inr rfl) (.inr rfl) (.inr rfl) (.inr rfl) (.inr rfl) (.inl rfl) (.inr rfl) (.inr rfl) (.inl rfl) (.inr rfl) (.inr rfl) (.inr rfl) (.inr rfl) (.inl rfl) (.inl rfl) (.inr rfl) ?_
theorem State.fetchStore_keptp {s : State} {a : Nat} {nano : Bool} {addr : Nat} {a₀ : State} {b₀ : Nat} (e₀ : State.fetchStore s a nano addr = (a₀, b₀)) (hw₀ : subMask 44384713757731871763589207486774700033120375332253621167989410827204787305102813019820451120160170842706671809612993376096748716041 w₀ = true) (h₀ : Kept w₀ s₀ s) : Kept w₀ s₀ a₀ := by
  have g : Kept w₀ s₀ (State.fetchStore s a nano addr).1 := State.fetchStore_kept hw₀ h₀; rw [e₀] at g; exact g

theorem State.place_kept {s : State} {a p c : Nat} (hw₀ : subMask 486615791851464362002775370215070898001735697477415807813564338962918895659317207441 w₀ = true) (h₀ : Kept w₀ s₀ s) :
    Kept w₀ s₀ (State.place s a p c) := by
  refine Kept.trans (a := 486615791851464362002775370215070898001735697477415807813564338962918895659317207441) (t := s) ?_ hw₀ h₀
  clear h₀ hw₀
  unfold State.place; try dsimp only
  repeat' first | (with_reducible first | assumption | exact Kept.refl _ _ | refine Kept.ite ?_ ?_ | refine State.abandonChannel_kept ?_ ?_ | apply State.raiseBit_kept | refine State.rereadAbandoned_kept ?_ ?_ | refine State.returnSector_kept ?_ ?_ | refine State.updSeq_kept ?_ ?_) | (show Nat.testBit _ _ = true; rfl) | (show subMask _ _ = true; rfl) | exact inFam_SEQ_STATUS | exact wrsOk_nil | apply wrsOk_cons | (intro _; try dsimp only) | split | dsimp only

theorem State.cycles_kept {s : State} {a n : Nat} (hw₀ : subMask 8192 w₀ = true) (h₀ : Kept w₀ s₀ s) :
    Kept w₀ s₀ (State.cycles s a n) := by
  refine Kept.trans (a := 8192) (t := s) ?_ hw₀ h₀
  clear h₀ hw₀
  unfold State.cycles; try dsimp only
  repeat' first | (with_reducible first | assumption | exact Kept.refl _ _ | refine Kept.ite ?_ ?_ | refine State.updSeq_kept ?_ ?_) | (show Nat.testBit _ _ = true; rfl) | (show subMask _ _ = true; rfl) | (intro _; try dsimp only) | split | dsimp only

theorem State.hooksOff_kept {s : State} {a : Nat} (hw₀ : subMask 45427420268475430659332737993000283397102585042957379241877534964837091962034124803472611236604080038011407906009900217258091606966273 w₀ = true) (h₀ : Kept w₀ s₀ s) :
    Kept w₀ s₀ (State.hooksOff s a) := by
  refine Kept.trans (a := 45427420268475430659332737993000283397102585042957379241877534964837091962034124803472611236604080038011407906009900217258091606966273) (t := s) ?_ hw₀ h₀
  clear h₀ hw₀
  unfold State.hooksOff; try dsimp only
  repeat' first | (with_reducible first | assumption | exact Kept.refl _ _ | refine Kept.ite ?_ ?_ | apply State.clr_kept) | (show Nat.testBit _ _ = true; rfl) | (show subMask _ _ = true; rfl) | exact inFam_SEQ_CTRL | exact inFam_SEQ_CTRL_hold | exact wrsOk_nil | apply wrsOk_cons | (intro _; try dsimp only) | split | dsimp only

theorem State.hookBack_kept {s : State} {a : Nat} {bit : Fld} {i_ : Nat} (hf_ : inFam i_ bit.addr) (hi_ : w₀.testBit (32 + i_) = true) (hw₀ : subMask 45471804982233162531096327200632641510233295784042164244788547246056140553415178936807643573232149044548552542303872702421848977715161 w₀ = true) (h₀ : Kept w₀ s₀ s) :
    Kept w₀ s₀ (State.hookBack s a bit) := by
  unfold State.hookBack; try dsimp only
  repeat' first | (with_reducible first | assumption | exact Kept.refl _ _ | refine Kept.ite ?_ ?_ | refine State.hooksOff_kept ?_ ?_ | apply State.raiseBit_kept | refine State.restart_kept ?_ ?_ | refine State.updSeq_kept ?_ ?_ | apply State.wr_kept) | exact hi_ | exact testBit_sub hw₀ rfl | exact subMask_trans rfl hw₀ | exact hf_ _ | exact hf_ | exact inFam_SEQ_LC_SP | exact inFam_SEQ_PC | exact inFam_SEQ_STATUS | exact wrsOk_nil | apply wrsOk_cons | (intro _; try dsimp only) | split | dsimp only

theorem State.stackFault_kept {s : State} {a : Nat} (hw₀ : subMask 45471804982233162531096327200632641510233295784042164244788547246056140553415178936807643573232149044548552542303872702421848977715161 w₀ = true) (h₀ : Kept w₀ s₀ s) :
    Kept w₀ s₀ (State.stackFault s a) := by
  refine Kept.trans (a := 45471804982233162531096327200632641510233295784042164244788547246056140553415178936807643573232149044548552542303872702421848977715161) (t := s) ?_ hw₀ h₀
  clear h₀ hw₀
  unfold State.stackFault; try dsimp only
  repeat' first | (with_reducible first | assumption | exact Kept.refl _ _ | refine Kept.ite ?_ ?_ | apply State.hookBack_kept | apply State.raiseBit_kept | refine State.restart_kept ?_ ?_) | (show Nat.testBit _ _ = true; rfl) | (show subMask _ _ = true; rfl) | exact inFam_SEQ_STATUS | exact wrsOk_nil | apply wrsOk_cons | (intro _; try dsimp only) | split | dsimp only

theorem State.seqNext_kept {s : State} {a n : Nat} (hw₀ : subMask 45471804982233162531096327200632641510233295784042164244788547246056140553415178936807643573232149044548552542303872702421848977715161 w₀ = true) (h₀ : Kept w₀ s₀ s) :
    Kept w₀ s₀ (State.seqNext s a n) := by
  refine Kept.trans (a := 45471804982233162531096327200632641510233295784042164244788547246056140553415178936807643573232149044548552542303872702421848977715161) (t := s) ?_ hw₀ h₀
  clear h₀ hw₀
  unfold State.seqNext; try dsimp only
  repeat' first | (with_reducible first | assumption | exact Kept.refl _ _ | refine Kept.ite ?_ ?_ | refine State.cycles_kept ?_ ?_ | refine State.stackFault_kept ?_ ?_ | apply State.wr_kept) | (show Nat.testBit _ _ = true; rfl) | (show subMask _ _ = true; rfl) | exact inFam_SEQ_PC | exact wrsOk_nil | apply wrsOk_cons | (intro _; try dsimp only) | split | dsimp only

theorem State.seqGoto_kept {s : State} {a n : Nat} {target : Int} (hw₀ : subMask 45471804982233162531096327200632641510233295784042164244788547246056140553415178936807643573232149044548552542303872702421848977715161 w₀ = true) (h₀ : Kept w₀ s₀ s) :
    Kept w₀ s₀ (State.seqGoto s a n target) := by
  refine Kept.trans (a := 45471804982233162531096327200632641510233295784042164244788547246056140553415178936807643573232149044548552542303872702421848977715161) (t := s) ?_ hw₀ h₀
  clear h₀ hw₀
  unfold State.seqGoto; try dsimp only
  repeat' first | (with_reducible first | assumption | exact Kept.refl _ _ | refine Kept.ite ?_ ?_ | refine State.cycles_kept ?_ ?_ | apply State.hookBack_kept | refine State.stackFault_kept ?_ ?_ | apply State.wr_kept) | (show Nat.testBit _ _ = true; rfl) | (show subMask _ _ = true; rfl) | exact inFam_SEQ_PC | exact inFam_SEQ_STATUS | exact wrsOk_nil | apply wrsOk_cons | (intro _; try dsimp only) | split | dsimp only

theorem State.runNano_kept {s : State} {a naddr hsel : Nat} (hw₀ : subMask 45471804982233162531096327200632641510233295784601653004320656597492729696317041030817074384627629524285012092713243160663993776500697 w₀ = true) (h₀ : Kept w₀ s₀ s) :
    Kept w₀ s₀ (State.runNano s a naddr hsel) := by
  refine Kept.trans (a := 45471804982233162531096327200632641510233295784601653004320656597492729696317041030817074384627629524285012092713243160663993776500697) (t := s) ?_ hw₀ h₀
  clear h₀ hw₀
  unfold State.runNano; try dsimp only
  repeat' first | (with_reducible first | assumption | exact Kept.refl _ _ | refine Kept.ite ?_ ?_ | refine State.arm_kept ?_ ?_ | refine State.fetchStore_kept ?_ ?_ | refine State.place_kept ?_ ?_ | refine State.seqNext_kept ?_ ?_ | refine State.stackFault_kept ?_ ?_ | refine State.updSeq_kept ?_ ?_ | apply State.wr_kept | refine State.fetchStore_keptp (by assumption) ?_ ?_) | (show Nat.testBit _ _ = true; rfl) | (show subMask _ _ = true; rfl) | exact inFam_SEQ_LC_SP | exact wrsOk_nil | apply wrsOk_cons | (intro _; try dsimp only) | split | dsimp only

theorem State.wNano_kept {s : State} {a naddr hsel g : Nat} (hw₀ : subMask 45471804982233162531096327200632641510233295784601653004320656597492729696317041030817074384627629524285012092713243160663993776500697 w₀ = true) (h₀ : Kept w₀ s₀ s) :
    Kept w₀ s₀ (State.wNano s a naddr hsel g) := by
  refine Kept.trans (a := 45471804982233162531096327200632641510233295784601653004320656597492729696317041030817074384627629524285012092713243160663993776500697) (t := s) ?_ hw₀ h₀
  clear h₀ hw₀
  unfold State.wNano; try dsimp only
  repeat' first | (with_reducible first | assumption | exact Kept.refl _ _ | refine Kept.ite ?_ ?_ | refine State.runNano_kept ?_ ?_ | refine State.seqNext_kept ?_ ?_) | (show Nat.testBit _ _ = true; rfl) | (show subMask _ _ = true; rfl) | (intro _; try dsimp only) | split | dsimp only

theorem State.wBranch_kept {s : State} {a : Nat} {disp : Int} {cond : Nat} (hw₀ : subMask 45471804982233162531096327200632641510233295784042164244788547246056140553415178936807643573232149044548552542303872702421848977715161 w₀ = true) (h₀ : Kept w₀ s₀ s) :
    Kept w₀ s₀ (State.wBranch s a disp cond) := by
  refine Kept.trans (a := 45471804982233162531096327200632641510233295784042164244788547246056140553415178936807643573232149044548552542303872702421848977715161) (t := s) ?_ hw₀ h₀
  clear h₀ hw₀
  unfold State.wBranch; try dsimp only
  repeat' first | (with_reducible first | assumption | exact Kept.refl _ _ | refine Kept.ite ?_ ?_ | refine State.seqGoto_kept ?_ ?_ | refine State.seqNext_kept ?_ ?_) | (show Nat.testBit _ _ = true; rfl) | (show subMask _ _ = true; rfl) | (intro _; try dsimp only) | split | dsimp only

theorem State.wCall_kept {s : State} {a target : Nat} (hw₀ : subMask 45471804982233162531096327200632641510233295784042164244788547246056140553415178936807643573232149044548552542303872702421848977715161 w₀ = true) (h₀ : Kept w₀ s₀ s) :
    Kept w₀ s₀ (State.wCall s a target) := by
  refine Kept.trans (a := 45471804982233162531096327200632641510233295784042164244788547246056140553415178936807643573232149044548552542303872702421848977715161) (t := s) ?_ hw₀ h₀
  clear h₀ hw₀
  unfold State.wCall; try dsimp only
  repeat' first | (with_reducible first | assumption | exact Kept.refl _ _ | refine Kept.ite ?_ ?_ | refine State.cycles_kept ?_ ?_ | apply State.hookBack_kept | refine State.seqNext_kept ?_ ?_ | refine State.stackFault_kept ?_ ?_ | refine State.updSeq_kept ?_ ?_ | apply State.wr_kept) | (show Nat.testBit _ _ = true; rfl) | (show subMask _ _ = true; rfl) | exact inFam_SEQ_LC_SP | exact inFam_SEQ_PC | exact inFam_SEQ_STATUS | exact wrsOk_nil | apply wrsOk_cons | (intro _; try dsimp only) | split | dsimp only

theorem State.wRet_kept {s : State} {a : Nat} (hw₀ : subMask 45471804982233162531096327200632641510233295784042164244788547246056140553415178936807643573232149044548552542303872702421848977715161 w₀ = true) (h₀ : Kept w₀ s₀ s) :
    Kept w₀ s₀ (State.wRet s a) := by
  refine Kept.trans (a := 45471804982233162531096327200632641510233295784042164244788547246056140553415178936807643573232149044548552542303872702421848977715161) (t := s) ?_ hw₀ h₀
  clear h₀ hw₀
  unfold State.wRet; try dsimp only
  repeat' first | (with_reducible first | assumption | exact Kept.refl _ _ | refine Kept.ite ?_ ?_ | refine State.cycles_kept ?_ ?_ | refine State.stackFault_kept ?_ ?_ | refine State.updSeq_kept ?_ ?_ | apply State.wr_kept) | (show Nat.testBit _ _ = true; rfl) | (show subMask _ _ = true; rfl) | exact inFam_SEQ_LC_SP | exact inFam_SEQ_PC | exact wrsOk_nil | apply wrsOk_cons | (intro _; try dsimp only) | split | dsimp only

theorem State.wLoop_kept {s : State} {a arg : Nat} (hw₀ : subMask 45471804982233162531096327200632641510233295784042164244788547246056140553415178936807643573232149044548552542303872702421848977715161 w₀ = true) (h₀ : Kept w₀ s₀ s) :
    Kept w₀ s₀ (State.wLoop s a arg) := by
  refine Kept.trans (a := 45471804982233162531096327200632641510233295784042164244788547246056140553415178936807643573232149044548552542303872702421848977715161) (t := s) ?_ hw₀ h₀
  clear h₀ hw₀
  unfold State.wLoop; try dsimp only
  repeat' first | (with_reducible first | assumption | exact Kept.refl _ _ | refine Kept.ite ?_ ?_ | refine State.seqGoto_kept ?_ ?_ | refine State.seqNext_kept ?_ ?_ | refine State.updSeq_kept ?_ ?_ | apply State.wr_kept) | (show Nat.testBit _ _ = true; rfl) | (show subMask _ _ = true; rfl) | exact inFam_SEQ_LC_SP | exact wrsOk_nil | apply wrsOk_cons | (intro _; try dsimp only) | split | dsimp only

theorem State.wJumpv_kept {s : State} {a arg : Nat} (hw₀ : subMask 45471804982233162531096327200632641510233295784042164244788547246056140553415178936807643573232149044548552542303872702421848977715161 w₀ = true) (h₀ : Kept w₀ s₀ s) :
    Kept w₀ s₀ (State.wJumpv s a arg) := by
  refine Kept.trans (a := 45471804982233162531096327200632641510233295784042164244788547246056140553415178936807643573232149044548552542303872702421848977715161) (t := s) ?_ hw₀ h₀
  clear h₀ hw₀
  unfold State.wJumpv; try dsimp only
  repeat' first | (with_reducible first | assumption | exact Kept.refl _ _ | refine Kept.ite ?_ ?_ | refine State.seqGoto_kept ?_ ?_) | (show Nat.testBit _ _ = true; rfl) | (show subMask _ _ = true; rfl) | (intro _; try dsimp only) | split | dsimp only

theorem State.wSignal_kept {s : State} {a arg : Nat} (hw₀ : subMask 45471804982233162531096327200632641510233295784042194598989988273072873670007473054290559860839009234228572101872774872801305309097945 w₀ = true) (h₀ : Kept w₀ s₀ s) :
    Kept w₀ s₀ (State.wSignal s a arg) := by
  refine Kept.trans (a := 45471804982233162531096327200632641510233295784042194598989988273072873670007473054290559860839009234228572101872774872801305309097945) (t := s) ?_ hw₀ h₀
  clear h₀ hw₀
  unfold State.wSignal; try dsimp only
  repeat' first | (with_reducible first | assumption | exact Kept.refl _ _ | refine Kept.ite ?_ ?_ | refine State.emit_kept ?_ ?_ | apply State.inc_kept | refine State.seqNext_kept ?_ ?_ | apply State.wr_kept) | (show Nat.testBit _ _ = true; rfl) | (show subMask _ _ = true; rfl) | exact inFam_SEQ_SIGNAL | exact wrsOk_nil | apply wrsOk_cons | (intro _; try dsimp only) | split | dsimp only

theorem State.wWait_kept {s : State} {a : Nat} (hw₀ : subMask 45471804982233162531096327200632641510233295784042346369997193408156539252968943641705141298873310182628669899717285724698586966011865 w₀ = true) (h₀ : Kept w₀ s₀ s) :
    Kept w₀ s₀ (State.wWait s a) := by
  refine Kept.trans (a := 45471804982233162531096327200632641510233295784042346369997193408156539252968943641705141298873310182628669899717285724698586966011865) (t := s) ?_ hw₀ h₀
  clear h₀ hw₀
  unfold State.wWait; try dsimp only
  repeat' first | (with_reducible first | assumption | exact Kept.refl _ _ | refine Kept.ite ?_ ?_ | refine State.cycles_kept ?_ ?_ | refine State.flushAct_kept ?_ ?_ | refine State.forEach_kept ?_ ?_ | apply State.maxF_kept | refine State.showEnds_kept ?_ ?_ | refine State.stackFault_kept ?_ ?_ | refine State.updSeq_kept ?_ ?_ | refine State.when_kept ?_ ?_ | apply State.wr_kept | refine State.wrs_kept ?_ ?_ ?_) | (show Nat.testBit _ _ = true; rfl) | (show subMask _ _ = true; rfl) | exact inFam_SEQ_PC | exact inFam_SEQ_STATUS | exact inFam_SEQ_V | exact inFam_SEQ_WINDOW | exact wrsOk_nil | apply wrsOk_cons | (intro _; try dsimp only) | split | dsimp only

theorem State.wStop_kept {s : State} {a : Nat} (hw₀ : subMask 1989780035715395549030668222904253026885496905880725476033419777529865003357971820322817 w₀ = true) (h₀ : Kept w₀ s₀ s) :
    Kept w₀ s₀ (State.wStop s a) := by
  refine Kept.trans (a := 1989780035715395549030668222904253026885496905880725476033419777529865003357971820322817) (t := s) ?_ hw₀ h₀
  clear h₀ hw₀
  unfold State.wStop; try dsimp only
  repeat' first | (with_reducible first | assumption | exact Kept.refl _ _ | refine Kept.ite ?_ ?_ | refine State.flushAct_kept ?_ ?_ | refine State.updSeq_kept ?_ ?_ | refine State.when_kept ?_ ?_ | refine State.wrs_kept ?_ ?_ ?_) | (show Nat.testBit _ _ = true; rfl) | (show subMask _ _ = true; rfl) | exact inFam_SEQ_CTRL | exact inFam_SEQ_STATUS | exact wrsOk_nil | apply wrsOk_cons | (intro _; try dsimp only) | split | dsimp only

theorem State.runWord_kept {s : State} {a : Nat} {x0_ : MWord} (hw₀ : subMask 45471804982233162531096327200632641510233295784601865483730743786609861512463099853197488397875650852045149009695558353320188096180185 w₀ = true) (h₀ : Kept w₀ s₀ s) :
    Kept w₀ s₀ (State.runWord s a x0_) := by
  refine Kept.trans (a := 45471804982233162531096327200632641510233295784601865483730743786609861512463099853197488397875650852045149009695558353320188096180185) (t := s) ?_ hw₀ h₀
  clear h₀ hw₀
  unfold State.runWord; try dsimp only
  repeat' first | (with_reducible first | assumption | exact Kept.refl _ _ | refine Kept.ite ?_ ?_ | refine State.seqGoto_kept ?_ ?_ | refine State.seqNext_kept ?_ ?_ | refine State.wBranch_kept ?_ ?_ | refine State.wCall_kept ?_ ?_ | refine State.wJumpv_kept ?_ ?_ | refine State.wLoop_kept ?_ ?_ | refine State.wNano_kept ?_ ?_ | refine State.wRet_kept ?_ ?_ | refine State.wSignal_kept ?_ ?_ | refine State.wStop_kept ?_ ?_ | refine State.wWait_kept ?_ ?_) | (show Nat.testBit _ _ = true; rfl) | (show subMask _ _ = true; rfl) | (intro _; try dsimp only) | split | dsimp only

theorem State.seqWord_kept {s : State} {a : Nat} {p : MWord → Bool} (hw₀ : subMask 45471804982233162531096327200632641510233295784601865483730743786609861512463099853197488397875650852045149009695558353320188096180185 w₀ = true) (h₀ : Kept w₀ s₀ s) :
    Kept w₀ s₀ (State.seqWord s a p) := by
  refine Kept.trans (a := 45471804982233162531096327200632641510233295784601865483730743786609861512463099853197488397875650852045149009695558353320188096180185) (t := s) ?_ hw₀ h₀
  clear h₀ hw₀
  unfold State.seqWord; try dsimp only
  repeat' first | (with_reducible first | assumption | exact Kept.refl _ _ | refine Kept.ite ?_ ?_ | refine State.fetchStore_kept ?_ ?_ | refine State.runWord_kept ?_ ?_ | refine State.fetchStore_keptp (by assumption) ?_ ?_) | (show Nat.testBit _ _ = true; rfl) | (show subMask _ _ = true; rfl) | (intro _; try dsimp only) | split | dsimp only

theorem execNanoWord_kept {a : Act} {s : State} (hw₀ : subMask 45471804982233162531096327200632641510233295784601865483730743786609861512463099853197488397875650852045149009695558353320188096180185 w₀ = true) (h₀ : Kept w₀ s₀ s) :
    KeptR w₀ s₀ (execNanoWord a s) := by
  refine ⟨fun t₁ e₁ => Kept.trans (a := 45471804982233162531096327200632641510233295784601865483730743786609861512463099853197488397875650852045149009695558353320188096180185) (t := s) ?_ hw₀ h₀⟩; refine KeptR.keep (?_ : KeptR 45471804982233162531096327200632641510233295784601865483730743786609861512463099853197488397875650852045149009695558353320188096180185 s (execNanoWord a s)) t₁ e₁; clear e₁ t₁
  clear h₀ hw₀
  unfold execNanoWord; try dsimp only
  repeat' first | (with_reducible first | assumption | exact Kept.refl _ _ | refine KeptR.next ?_ | exact KeptR.fault | exact KeptR.refused | refine KeptR.ite ?_ ?_ | refine Kept.ite ?_ ?_ | refine State.seqWord_kept ?_ ?_) | (show Nat.testBit _ _ = true; rfl) | (show subMask _ _ = true; rfl) | (intro _; try dsimp only) | split | dsimp only

theorem execBranchWord_kept {a : Act} {s : State} (hw₀ : subMask 45471804982233162531096327200632641510233295784601865483730743786609861512463099853197488397875650852045149009695558353320188096180185 w₀ = true) (h₀ : Kept w₀ s₀ s) :
    KeptR w₀ s₀ (execBranchWord a s) := by
  refine ⟨fun t₁ e₁ => Kept.trans (a := 45471804982233162531096327200632641510233295784601865483730743786609861512463099853197488397875650852045149009695558353320188096180185) (t := s) ?_ hw₀ h₀⟩; refine KeptR.keep (?_ : KeptR 45471804982233162531096327200632641510233295784601865483730743786609861512463099853197488397875650852045149009695558353320188096180185 s (execBranchWord a s)) t₁ e₁; clear e₁ t₁
  clear h₀ hw₀
  unfold execBranchWord; try dsimp only
  repeat' first | (with_reducible first | assumption | exact Kept.refl _ _ | refine KeptR.next ?_ | exact KeptR.fault | exact KeptR.refused | refine KeptR.ite ?_ ?_ | refine Kept.ite ?_ ?_ | refine State.seqWord_kept ?_ ?_) | (show Nat.testBit _ _ = true; rfl) | (show subMask _ _ = true; rfl) | (intro _; try dsimp only) | split | dsimp only

theorem execJumpWord_kept {a : Act} {s : State} (hw₀ : subMask 45471804982233162531096327200632641510233295784601865483730743786609861512463099853197488397875650852045149009695558353320188096180185 w₀ = true) (h₀ : Kept w₀ s₀ s) :
    KeptR w₀ s₀ (execJumpWord a s) := by
  refine ⟨fun t₁ e₁ => Kept.trans (a := 45471804982233162531096327200632641510233295784601865483730743786609861512463099853197488397875650852045149009695558353320188096180185) (t := s) ?_ hw₀ h₀⟩; refine KeptR.keep (?_ : KeptR 45471804982233162531096327200632641510233295784601865483730743786609861512463099853197488397875650852045149009695558353320188096180185 s (execJumpWord a s)) t₁ e₁; clear e₁ t₁
  clear h₀ hw₀
  unfold execJumpWord; try dsimp only
  repeat' first | (with_reducible first | assumption | exact Kept.refl _ _ | refine KeptR.next ?_ | exact KeptR.fault | exact KeptR.refused | refine KeptR.ite ?_ ?_ | refine Kept.ite ?_ ?_ | refine State.seqWord_kept ?_ ?_) | (show Nat.testBit _ _ = true; rfl) | (show subMask _ _ = true; rfl) | (intro _; try dsimp only) | split | dsimp only

theorem execCallWord_kept {a : Act} {s : State} (hw₀ : subMask 45471804982233162531096327200632641510233295784601865483730743786609861512463099853197488397875650852045149009695558353320188096180185 w₀ = true) (h₀ : Kept w₀ s₀ s) :
    KeptR w₀ s₀ (execCallWord a s) := by
  refine ⟨fun t₁ e₁ => Kept.trans (a := 45471804982233162531096327200632641510233295784601865483730743786609861512463099853197488397875650852045149009695558353320188096180185) (t := s) ?_ hw₀ h₀⟩; refine KeptR.keep (?_ : KeptR 45471804982233162531096327200632641510233295784601865483730743786609861512463099853197488397875650852045149009695558353320188096180185 s (execCallWord a s)) t₁ e₁; clear e₁ t₁
  clear h₀ hw₀
  unfold execCallWord; try dsimp only
  repeat' first | (with_reducible first | assumption | exact Kept.refl _ _ | refine KeptR.next ?_ | exact KeptR.fault | exact KeptR.refused | refine KeptR.ite ?_ ?_ | refine Kept.ite ?_ ?_ | refine State.seqWord_kept ?_ ?_) | (show Nat.testBit _ _ = true; rfl) | (show subMask _ _ = true; rfl) | (intro _; try dsimp only) | split | dsimp only

theorem execNopWord_kept {a : Act} {s : State} (hw₀ : subMask 45471804982233162531096327200632641510233295784601865483730743786609861512463099853197488397875650852045149009695558353320188096180185 w₀ = true) (h₀ : Kept w₀ s₀ s) :
    KeptR w₀ s₀ (execNopWord a s) := by
  refine ⟨fun t₁ e₁ => Kept.trans (a := 45471804982233162531096327200632641510233295784601865483730743786609861512463099853197488397875650852045149009695558353320188096180185) (t := s) ?_ hw₀ h₀⟩; refine KeptR.keep (?_ : KeptR 45471804982233162531096327200632641510233295784601865483730743786609861512463099853197488397875650852045149009695558353320188096180185 s (execNopWord a s)) t₁ e₁; clear e₁ t₁
  clear h₀ hw₀
  unfold execNopWord; try dsimp only
  repeat' first | (with_reducible first | assumption | exact Kept.refl _ _ | refine KeptR.next ?_ | exact KeptR.fault | exact KeptR.refused | refine KeptR.ite ?_ ?_ | refine Kept.ite ?_ ?_ | refine State.seqWord_kept ?_ ?_) | (show Nat.testBit _ _ = true; rfl) | (show subMask _ _ = true; rfl) | (intro _; try dsimp only) | split | dsimp only

theorem execRetWord_kept {a : Act} {s : State} (hw₀ : subMask 45471804982233162531096327200632641510233295784601865483730743786609861512463099853197488397875650852045149009695558353320188096180185 w₀ = true) (h₀ : Kept w₀ s₀ s) :
    KeptR w₀ s₀ (execRetWord a s) := by
  refine ⟨fun t₁ e₁ => Kept.trans (a := 45471804982233162531096327200632641510233295784601865483730743786609861512463099853197488397875650852045149009695558353320188096180185) (t := s) ?_ hw₀ h₀⟩; refine KeptR.keep (?_ : KeptR 45471804982233162531096327200632641510233295784601865483730743786609861512463099853197488397875650852045149009695558353320188096180185 s (execRetWord a s)) t₁ e₁; clear e₁ t₁
  clear h₀ hw₀
  unfold execRetWord; try dsimp only
  repeat' first | (with_reducible first | assumption | exact Kept.refl _ _ | refine KeptR.next ?_ | exact KeptR.fault | exact KeptR.refused | refine KeptR.ite ?_ ?_ | refine Kept.ite ?_ ?_ | refine State.seqWord_kept ?_ ?_) | (show Nat.testBit _ _ = true; rfl) | (show subMask _ _ = true; rfl) | (intro _; try dsimp only) | split | dsimp only

theorem execWwait_kept {a : Act} {s : State} (hw₀ : subMask 45471804982233162531096327200632641510233295784601865483730743786609861512463099853197488397875650852045149009695558353320188096180185 w₀ = true) (h₀ : Kept w₀ s₀ s) :
    KeptR w₀ s₀ (execWwait a s) := by
  refine ⟨fun t₁ e₁ => Kept.trans (a := 45471804982233162531096327200632641510233295784601865483730743786609861512463099853197488397875650852045149009695558353320188096180185) (t := s) ?_ hw₀ h₀⟩; refine KeptR.keep (?_ : KeptR 45471804982233162531096327200632641510233295784601865483730743786609861512463099853197488397875650852045149009695558353320188096180185 s (execWwait a s)) t₁ e₁; clear e₁ t₁
  clear h₀ hw₀
  unfold execWwait; try dsimp only
  repeat' first | (with_reducible first | assumption | exact Kept.refl _ _ | refine KeptR.next ?_ | exact KeptR.fault | exact KeptR.refused | refine KeptR.ite ?_ ?_ | refine Kept.ite ?_ ?_ | refine State.seqWord_kept ?_ ?_) | (show Nat.testBit _ _ = true; rfl) | (show subMask _ _ = true; rfl) | (intro _; try dsimp only) | split | dsimp only

theorem execLoopWord_kept {a : Act} {s : State} (hw₀ : subMask 45471804982233162531096327200632641510233295784601865483730743786609861512463099853197488397875650852045149009695558353320188096180185 w₀ = true) (h₀ : Kept w₀ s₀ s) :
    KeptR w₀ s₀ (execLoopWord a s) := by
  refine ⟨fun t₁ e₁ => Kept.trans (a := 45471804982233162531096327200632641510233295784601865483730743786609861512463099853197488397875650852045149009695558353320188096180185) (t := s) ?_ hw₀ h₀⟩; refine KeptR.keep (?_ : KeptR 45471804982233162531096327200632641510233295784601865483730743786609861512463099853197488397875650852045149009695558353320188096180185 s (execLoopWord a s)) t₁ e₁; clear e₁ t₁
  clear h₀ hw₀
  unfold execLoopWord; try dsimp only
  repeat' first | (with_reducible first | assumption | exact Kept.refl _ _ | refine KeptR.next ?_ | exact KeptR.fault | exact KeptR.refused | refine KeptR.ite ?_ ?_ | refine Kept.ite ?_ ?_ | refine State.seqWord_kept ?_ ?_) | (show Nat.testBit _ _ = true; rfl) | (show subMask _ _ = true; rfl) | (intro _; try dsimp only) | split | dsimp only

theorem execJumpv_kept {a : Act} {s : State} (hw₀ : subMask 45471804982233162531096327200632641510233295784601865483730743786609861512463099853197488397875650852045149009695558353320188096180185 w₀ = true) (h₀ : Kept w₀ s₀ s) :
    KeptR w₀ s₀ (execJumpv a s) := by
  refine ⟨fun t₁ e₁ => Kept.trans (a := 45471804982233162531096327200632641510233295784601865483730743786609861512463099853197488397875650852045149009695558353320188096180185) (t := s) ?_ hw₀ h₀⟩; refine KeptR.keep (?_ : KeptR 45471804982233162531096327200632641510233295784601865483730743786609861512463099853197488397875650852045149009695558353320188096180185 s (execJumpv a s)) t₁ e₁; clear e₁ t₁
  clear h₀ hw₀
  unfold execJumpv; try dsimp only
  repeat' first | (with_reducible first | assumption | exact Kept.refl _ _ | refine KeptR.next ?_ | exact KeptR.fault | exact KeptR.refused | refine KeptR.ite ?_ ?_ | refine Kept.ite ?_ ?_ | refine State.seqWord_kept ?_ ?_) | (show Nat.testBit _ _ = true; rfl) | (show subMask _ _ = true; rfl) | (intro _; try dsimp only) | split | dsimp only

theorem execSignal_kept {a : Act} {s : State} (hw₀ : subMask 45471804982233162531096327200632641510233295784601865483730743786609861512463099853197488397875650852045149009695558353320188096180185 w₀ = true) (h₀ : Kept w₀ s₀ s) :
    KeptR w₀ s₀ (execSignal a s) := by
  refine ⟨fun t₁ e₁ => Kept.trans (a := 45471804982233162531096327200632641510233295784601865483730743786609861512463099853197488397875650852045149009695558353320188096180185) (t := s) ?_ hw₀ h₀⟩; refine KeptR.keep (?_ : KeptR 45471804982233162531096327200632641510233295784601865483730743786609861512463099853197488397875650852045149009695558353320188096180185 s (execSignal a s)) t₁ e₁; clear e₁ t₁
  clear h₀ hw₀
  unfold execSignal; try dsimp only
  repeat' first | (with_reducible first | assumption | exact Kept.refl _ _ | refine KeptR.next ?_ | exact KeptR.fault | exact KeptR.refused | refine KeptR.ite ?_ ?_ | refine Kept.ite ?_ ?_ | refine State.seqWord_kept ?_ ?_) | (show Nat.testBit _ _ = true; rfl) | (show subMask _ _ = true; rfl) | (intro _; try dsimp only) | split | dsimp only

theorem execSeqStop_kept {a : Act} {s : State} (hw₀ : subMask 45471804982233162531096327200632641510233295784601865483730743786609861512463099853197488397875650852045149009695558353320188096180185 w₀ = true) (h₀ : Kept w₀ s₀ s) :
    KeptR w₀ s₀ (execSeqStop a s) := by
  refine ⟨fun t₁ e₁ => Kept.trans (a := 45471804982233162531096327200632641510233295784601865483730743786609861512463099853197488397875650852045149009695558353320188096180185) (t := s) ?_ hw₀ h₀⟩; refine KeptR.keep (?_ : KeptR 45471804982233162531096327200632641510233295784601865483730743786609861512463099853197488397875650852045149009695558353320188096180185 s (execSeqStop a s)) t₁ e₁; clear e₁ t₁
  clear h₀ hw₀
  unfold execSeqStop; try dsimp only
  repeat' first | (with_reducible first | assumption | exact Kept.refl _ _ | refine KeptR.next ?_ | exact KeptR.fault | exact KeptR.refused | refine KeptR.ite ?_ ?_ | refine Kept.ite ?_ ?_ | refine State.seqWord_kept ?_ ?_) | (show Nat.testBit _ _ = true; rfl) | (show subMask _ _ = true; rfl) | (intro _; try dsimp only) | split | dsimp only

theorem execHookBudgetExhausted_kept {a : Act} {s : State} (hw₀ : subMask 45471804982233162531096327200632641510233295784042164244788547246056140553415178936807643573232149044548552542303872702421848977715161 w₀ = true) (h₀ : Kept w₀ s₀ s) :
    KeptR w₀ s₀ (execHookBudgetExhausted a s) := by
  refine ⟨fun t₁ e₁ => Kept.trans (a := 45471804982233162531096327200632641510233295784042164244788547246056140553415178936807643573232149044548552542303872702421848977715161) (t := s) ?_ hw₀ h₀⟩; refine KeptR.keep (?_ : KeptR 45471804982233162531096327200632641510233295784042164244788547246056140553415178936807643573232149044548552542303872702421848977715161 s (execHookBudgetExhausted a s)) t₁ e₁; clear e₁ t₁
  clear h₀ hw₀
  unfold execHookBudgetExhausted; try dsimp only
  repeat' first | (with_reducible first | assumption | exact Kept.refl _ _ | refine KeptR.next ?_ | exact KeptR.fault | exact KeptR.refused | refine KeptR.ite ?_ ?_ | refine Kept.ite ?_ ?_ | apply State.hookBack_kept) | (show Nat.testBit _ _ = true; rfl) | (show subMask _ _ = true; rfl) | exact inFam_SEQ_STATUS | exact wrsOk_nil | apply wrsOk_cons | (intro _; try dsimp only) | split | dsimp only

theorem execWedgeHandling_kept {a : Act} {s : State} (hw₀ : subMask 247576455503376605229482205898895720035970793453422077659532733858327157440702849025 w₀ = true) (h₀ : Kept w₀ s₀ s) :
    KeptR w₀ s₀ (execWedgeHandling a s) := by
  refine ⟨fun t₁ e₁ => Kept.trans (a := 247576455503376605229482205898895720035970793453422077659532733858327157440702849025) (t := s) ?_ hw₀ h₀⟩; refine KeptR.keep (?_ : KeptR 247576455503376605229482205898895720035970793453422077659532733858327157440702849025 s (execWedgeHandling a s)) t₁ e₁; clear e₁ t₁
  clear h₀ hw₀
  unfold execWedgeHandling; try dsimp only
  repeat' first | (with_reducible first | assumption | exact Kept.refl _ _ | refine KeptR.next ?_ | exact KeptR.fault | exact KeptR.refused | refine KeptR.ite ?_ ?_ | refine Kept.ite ?_ ?_ | apply State.clr_kept | apply State.setB_kept | refine State.updSeq_kept ?_ ?_ | refine State.when_kept ?_ ?_ | apply State.wr_kept) | (show Nat.testBit _ _ = true; rfl) | (show subMask _ _ = true; rfl) | exact inFam_SEQ_LC_SP | exact inFam_SEQ_PC | exact inFam_SEQ_STATUS | exact wrsOk_nil | apply wrsOk_cons | (intro _; try dsimp only) | split | dsimp only

theorem execSeqLate_kept {a : Act} {s : State} (hw₀ : subMask 44384713757731871763589207486774700033120376764732919490891357626480678857303993714734140454205148439748686488091818002480594822041 w₀ = true) (h₀ : Kept w₀ s₀ s) :
    KeptR w₀ s₀ (execSeqLate a s) := by
  refine ⟨fun t₁ e₁ => Kept.trans (a := 44384713757731871763589207486774700033120376764732919490891357626480678857303993714734140454205148439748686488091818002480594822041) (t := s) ?_ hw₀ h₀⟩; refine KeptR.keep (?_ : KeptR 44384713757731871763589207486774700033120376764732919490891357626480678857303993714734140454205148439748686488091818002480594822041 s (execSeqLate a s)) t₁ e₁; clear e₁ t₁
  clear h₀ hw₀
  unfold execSeqLate; try dsimp only
  repeat' first | (with_reducible first | assumption | exact Kept.refl _ _ | refine KeptR.next ?_ | exact KeptR.fault | exact KeptR.refused | refine KeptR.ite ?_ ?_ | refine Kept.ite ?_ ?_ | refine State.flushAct_kept ?_ ?_ | apply State.inc_kept | apply State.raiseBit_kept | refine State.raiseSrc_kept ?_ ?_ | refine State.showEnds_kept ?_ ?_ | refine State.stepDry_kept ?_ ?_ | refine State.updSeq_kept ?_ ?_ | refine State.when_kept ?_ ?_ | refine State.wrs_kept ?_ ?_ ?_) | (show Nat.testBit _ _ = true; rfl) | (show subMask _ _ = true; rfl) | exact inFam_SEQ_EVT_CNT | exact inFam_SEQ_LC_SP | exact inFam_SEQ_PC | exact inFam_SEQ_STATUS | exact wrsOk_nil | apply wrsOk_cons | (intro _; try dsimp only) | split | dsimp only

theorem execSeqFlush_kept {mask : BitVec 4} {s : State} (hw₀ : subMask 1989778612862203000889258858063989240128485204899153904642168860675072714121434804789249 w₀ = true) (h₀ : Kept w₀ s₀ s) :
    KeptR w₀ s₀ (execSeqFlush mask s) := by
  refine ⟨fun t₁ e₁ => Kept.trans (a := 1989778612862203000889258858063989240128485204899153904642168860675072714121434804789249) (t := s) ?_ hw₀ h₀⟩; refine KeptR.keep (?_ : KeptR 1989778612862203000889258858063989240128485204899153904642168860675072714121434804789249 s (execSeqFlush mask s)) t₁ e₁; clear e₁ t₁
  clear h₀ hw₀
  unfold execSeqFlush; try dsimp only
  repeat' first | (with_reducible first | assumption | exact Kept.refl _ _ | refine KeptR.next ?_ | exact KeptR.fault | exact KeptR.refused | refine KeptR.ite ?_ ?_ | refine Kept.ite ?_ ?_ | refine State.flushAct_kept ?_ ?_ | refine State.forEach_kept ?_ ?_ | refine State.updSeq_kept ?_ ?_ | apply State.wr_kept) | (show Nat.testBit _ _ = true; rfl) | (show subMask _ _ = true; rfl) | exact inFam_SEQ_FLUSH | exact wrsOk_nil | apply wrsOk_cons | (intro _; try dsimp only) | split | dsimp only

theorem execSeqStep_kept {w : Initiator} {a : Act} {s : State} (hw₀ : subMask 45471804982233162531096327200632641510233295784601865483730743786609861512463099853197488397875650852045149009695558353324861020598237 w₀ = true) (h₀ : Kept w₀ s₀ s) :
    KeptR w₀ s₀ (execSeqStep w a s) := by
  refine ⟨fun t₁ e₁ => Kept.trans (a := 45471804982233162531096327200632641510233295784601865483730743786609861512463099853197488397875650852045149009695558353324861020598237) (t := s) ?_ hw₀ h₀⟩; refine KeptR.keep (?_ : KeptR 45471804982233162531096327200632641510233295784601865483730743786609861512463099853197488397875650852045149009695558353324861020598237 s (execSeqStep w a s)) t₁ e₁; clear e₁ t₁
  clear h₀ hw₀
  unfold execSeqStep; try dsimp only
  repeat' first | (with_reducible first | assumption | exact Kept.refl _ _ | refine KeptR.next ?_ | exact KeptR.fault | exact KeptR.refused | refine KeptR.ite ?_ ?_ | refine Kept.ite ?_ ?_ | refine State.fetchStore_kept ?_ ?_ | refine State.refuseW_kept ?_ ?_ | refine State.runWord_kept ?_ ?_ | refine State.fetchStore_keptp (by assumption) ?_ ?_) | (show Nat.testBit _ _ = true; rfl) | (show subMask _ _ = true; rfl) | (intro _; try dsimp only) | split | dsimp only

end Sys2Proof.Machine
end

