-- ==== Sys2Proof/Laws/KeptControlOps.lean ====
section
/-! SUPPORT. What the operations and meanings of Machine/ControlOps.lean keep (the relation Kept). -/

set_option Elab.async false

namespace Sys2Proof.Machine
open Reg
set_option linter.unusedVariables false
set_option linter.unusedTactic false
set_option linter.unreachableTactic false
set_option maxHeartbeats 400000

variable {w₀ : Nat} {s₀ : State}

theorem State.setOut_kept {s : State} {n : Nat} {u : Int} (hw₀ : subMask 4271974071841820164790043412339104229205409044713305539894083215644439451561281100045924173873153 w₀ = true) (h₀ : Kept w₀ s₀ s) :
    Kept w₀ s₀ (State.setOut s n u) := by
  refine Kept.trans (a := 4271974071841820164790043412339104229205409044713305539894083215644439451561281100045924173873153) (t := s) ?_ hw₀ h₀
  clear h₀ hw₀
  unfold State.setOut; try dsimp only
  repeat' first | (with_reducible first | assumption | exact Kept.refl _ _ | refine Kept.ite ?_ ?_ | apply State.wrS_kept) | (show Nat.testBit _ _ = true; rfl) | (show subMask _ _ = true; rfl) | exact inFam_CTL_OUT | exact wrsOk_nil | apply wrsOk_cons | (intro _; try dsimp only) | split | dsimp only

theorem State.setProf_kept {s : State} {g : Nat} {p : Option Profile} (hw₀ : subMask 2048 w₀ = true) (h₀ : Kept w₀ s₀ s) :
    Kept w₀ s₀ (State.setProf s g p) := by
  refine Kept.trans (a := 2048) (t := s) ?_ hw₀ h₀
  clear h₀ hw₀
  unfold State.setProf; try dsimp only
  repeat' first | (with_reducible first | assumption | exact Kept.refl _ _ | refine Kept.ite ?_ ?_) | (show Nat.testBit _ _ = true; rfl) | (show subMask _ _ = true; rfl) | (intro _; try dsimp only) | split | dsimp only | refine Kept.lit rfl (.inr rfl) rfl rfl rfl rfl (.inr rfl) (.inr rfl) (.inr rfl) (.inr rfl) (.inr rfl) (.inl rfl) (.inr rfl) (.inr rfl) (.inr rfl) (.inr rfl) (.inr rfl) (.inr rfl) (.inr rfl) (.inr rfl) (.inr rfl) (.inr rfl) (.inr rfl) (.inr rfl) (.inr rfl) ?_

theorem State.closeLoop_kept {s : State} {n : Nat} (hw₀ : subMask 533996758980227520598755426542388028650676130589163192486760401955554931445160137505740521736193 w₀ = true) (h₀ : Kept w₀ s₀ s) :
    Kept w₀ s₀ (State.closeLoop s n) := by
  refine Kept.trans (a := 533996758980227520598755426542388028650676130589163192486760401955554931445160137505740521736193) (t := s) ?_ hw₀ h₀
  clear h₀ hw₀
  unfold State.closeLoop; try dsimp only
  repeat' first | (with_reducible first | assumption | exact Kept.refl _ _ | refine Kept.ite ?_ ?_ | refine State.updLoop_kept ?_ ?_ | apply State.wr_kept) | (show Nat.testBit _ _ = true; rfl) | (show subMask _ _ = true; rfl) | exact inFam_CTL_STATUS | exact wrsOk_nil | apply wrsOk_cons | (intro _; try dsimp only) | split | dsimp only

theorem State.plan_kept {s : State} {g : Nat} {start dest : Int} (hw₀ : subMask 2239744742177804210557442280568444278121645497234649534899989100963791871180160945380877493271615506433 w₀ = true) (h₀ : Kept w₀ s₀ s) :
    Kept w₀ s₀ (State.plan s g start dest) := by
  refine Kept.trans (a := 2239744742177804210557442280568444278121645497234649534899989100963791871180160945380877493271615506433) (t := s) ?_ hw₀ h₀
  clear h₀ hw₀
  unfold State.plan; try dsimp only
  repeat' first | (with_reducible first | assumption | exact Kept.refl _ _ | refine Kept.ite ?_ ?_ | refine State.freeNext_kept ?_ ?_ | refine State.setProf_kept ?_ ?_ | refine State.wrs_kept ?_ ?_ ?_) | (show Nat.testBit _ _ = true; rfl) | (show subMask _ _ = true; rfl) | exact inFam_PROF_STAT | exact wrsOk_nil | apply wrsOk_cons | (intro _; try dsimp only) | split | dsimp only

theorem State.seekStart_kept {s : State} {a : Nat} {dest : Int} {timeouts : Nat} (hw₀ : subMask 2239783723941209767166475632489426625393765430764344767917451071589209030674550543212421438090889923073 w₀ = true) (h₀ : Kept w₀ s₀ s) :
    Kept w₀ s₀ (State.seekStart s a dest timeouts) := by
  refine Kept.trans (a := 2239783723941209767166475632489426625393765430764344767917451071589209030674550543212421438090889923073) (t := s) ?_ hw₀ h₀
  clear h₀ hw₀
  unfold State.seekStart; try dsimp only
  repeat' first | (with_reducible first | assumption | exact Kept.refl _ _ | refine Kept.ite ?_ ?_ | refine State.forEach_kept ?_ ?_ | refine State.plan_kept ?_ ?_ | refine State.setInh_kept ?_ ?_ | refine State.setOut_kept ?_ ?_ | refine State.updAct_kept ?_ ?_ | refine State.updLoop_kept ?_ ?_ | refine State.when_kept ?_ ?_ | apply State.wr_kept | apply State.wrS_kept | refine State.wrs_kept ?_ ?_ ?_) | (show Nat.testBit _ _ = true; rfl) | (show subMask _ _ = true; rfl) | exact inFam_CTL_CENTRE | exact inFam_CTL_STATUS | exact wrsOk_nil | apply wrsOk_cons | (intro _; try dsimp only) | split | dsimp only

end Sys2Proof.Machine
end

