-- ==== Sys2Proof/Laws/KeptServo.lean ====
section
/-! SUPPORT. What the operations and meanings of Machine/Servo.lean keep (the relation Kept). -/

set_option Elab.async false

namespace Sys2Proof.Machine
open Reg
set_option linter.unusedVariables false
set_option linter.unusedTactic false
set_option linter.unreachableTactic false
set_option maxHeartbeats 400000

variable {w₀ : Nat} {s₀ : State}

theorem State.showSkew_kept {s : State} {h : Nat} (hw₀ : subMask 509258994083621521567111422102344540262867098416484062659035112338595324940834176545849345 w₀ = true) (h₀ : Kept w₀ s₀ s) :
    Kept w₀ s₀ (State.showSkew s h) := by
  refine Kept.trans (a := 509258994083621521567111422102344540262867098416484062659035112338595324940834176545849345) (t := s) ?_ hw₀ h₀
  clear h₀ hw₀
  unfold State.showSkew; try dsimp only
  repeat' first | (with_reducible first | assumption | exact Kept.refl _ _ | refine Kept.ite ?_ ?_ | apply State.wrS_kept) | (show Nat.testBit _ _ = true; rfl) | (show subMask _ _ = true; rfl) | exact inFam_SRV_SKEW | exact wrsOk_nil | apply wrsOk_cons | (intro _; try dsimp only) | split | dsimp only

theorem State.takeTref_kept {s : State} {r : Nat} (hw₀ : subMask 2216804401246004483381636020411505783764260479406955124754779844009905449467451170504082195457 w₀ = true) (h₀ : Kept w₀ s₀ s) :
    Kept w₀ s₀ (State.takeTref s r) := by
  refine Kept.trans (a := 2216804401246004483381636020411505783764260479406955124754779844009905449467451170504082195457) (t := s) ?_ hw₀ h₀
  clear h₀ hw₀
  unfold State.takeTref; try dsimp only
  repeat' first | (with_reducible first | assumption | exact Kept.refl _ _ | refine Kept.ite ?_ ?_ | refine State.forEach_kept ?_ ?_ | refine State.showSkew_kept ?_ ?_ | refine State.updSrv_kept ?_ ?_ | refine State.wrs_kept ?_ ?_ ?_) | (show Nat.testBit _ _ = true; rfl) | (show subMask _ _ = true; rfl) | exact inFam_SRV_TREF | exact inFam_SRV_WEDGE | exact wrsOk_nil | apply wrsOk_cons | (intro _; try dsimp only) | split | dsimp only

theorem State.trefHandover_kept {s : State} (hw₀ : subMask 6388654080779031988059412790273912257597667749634792566057595484287678351382764744767684215809 w₀ = true) (h₀ : Kept w₀ s₀ s) :
    Kept w₀ s₀ (State.trefHandover s) := by
  refine Kept.trans (a := 6388654080779031988059412790273912257597667749634792566057595484287678351382764744767684215809) (t := s) ?_ hw₀ h₀
  clear h₀ hw₀
  unfold State.trefHandover; try dsimp only
  repeat' first | (with_reducible first | assumption | exact Kept.refl _ _ | refine Kept.ite ?_ ?_ | apply State.raiseBit_kept | refine State.takeTref_kept ?_ ?_ | refine State.wrs_kept ?_ ?_ ?_) | (show Nat.testBit _ _ = true; rfl) | (show subMask _ _ = true; rfl) | exact inFam_SRV_GSTATUS | exact inFam_SRV_TREF | exact inFam_SRV_WEDGE | exact wrsOk_nil | apply wrsOk_cons | (intro _; try dsimp only) | split | dsimp only

theorem State.findTref_kept {s : State} (hw₀ : subMask 2216804401246004483381636020411505783764260479406955124754779844009905449467451170504082195457 w₀ = true) (h₀ : Kept w₀ s₀ s) :
    Kept w₀ s₀ (State.findTref s) := by
  refine Kept.trans (a := 2216804401246004483381636020411505783764260479406955124754779844009905449467451170504082195457) (t := s) ?_ hw₀ h₀
  clear h₀ hw₀
  unfold State.findTref; try dsimp only
  repeat' first | (with_reducible first | assumption | exact Kept.refl _ _ | refine Kept.ite ?_ ?_ | refine State.takeTref_kept ?_ ?_) | (show Nat.testBit _ _ = true; rfl) | (show subMask _ _ = true; rfl) | (intro _; try dsimp only) | split | dsimp only

theorem State.skewUpdate_kept {s : State} {h : Nat} {sam refSam : Int} (hw₀ : subMask 572916368344074211763000349865137607795725485718544570491414501380919740558438448614081537 w₀ = true) (h₀ : Kept w₀ s₀ s) :
    Kept w₀ s₀ (State.skewUpdate s h sam refSam) := by
  refine Kept.trans (a := 572916368344074211763000349865137607795725485718544570491414501380919740558438448614081537) (t := s) ?_ hw₀ h₀
  clear h₀ hw₀
  unfold State.skewUpdate; try dsimp only
  repeat' first | (with_reducible first | assumption | exact Kept.refl _ _ | refine Kept.ite ?_ ?_ | apply State.setB_kept | refine State.showSkew_kept ?_ ?_ | refine State.updSrv_kept ?_ ?_ | refine State.when_kept ?_ ?_) | (show Nat.testBit _ _ = true; rfl) | (show subMask _ _ = true; rfl) | exact inFam_SRV_STATUS | exact wrsOk_nil | apply wrsOk_cons | (intro _; try dsimp only) | split | dsimp only

theorem State.skewUpdates_kept {s : State} {h : Nat} (hw₀ : subMask 572916368344074211763000349865137607795725485718544570491414501380919740558438448614081537 w₀ = true) (h₀ : Kept w₀ s₀ s) :
    Kept w₀ s₀ (State.skewUpdates s h) := by
  refine Kept.trans (a := 572916368344074211763000349865137607795725485718544570491414501380919740558438448614081537) (t := s) ?_ hw₀ h₀
  clear h₀ hw₀
  unfold State.skewUpdates; try dsimp only
  repeat' first | (with_reducible first | assumption | exact Kept.refl _ _ | refine Kept.ite ?_ ?_ | refine State.forEach_kept ?_ ?_ | refine State.skewUpdate_kept ?_ ?_) | (show Nat.testBit _ _ = true; rfl) | (show subMask _ _ = true; rfl) | (intro _; try dsimp only) | split | dsimp only

theorem State.offTrackStart_kept {s : State} {h : Nat} (hw₀ : subMask 44384376587918356619345083307102957096416090371150194921102159188125443433079607817793423318825179932278280650077337263253370708553 w₀ = true) (h₀ : Kept w₀ s₀ s) :
    Kept w₀ s₀ (State.offTrackStart s h) := by
  refine Kept.trans (a := 44384376587918356619345083307102957096416090371150194921102159188125443433079607817793423318825179932278280650077337263253370708553) (t := s) ?_ hw₀ h₀
  clear h₀ hw₀
  unfold State.offTrackStart; try dsimp only
  repeat' first | (with_reducible first | assumption | exact Kept.refl _ _ | refine Kept.ite ?_ ?_ | refine State.dropGate_kept ?_ ?_ | refine State.updHead_kept ?_ ?_ | apply State.wrpBits_kept) | (show Nat.testBit _ _ = true; rfl) | (show subMask _ _ = true; rfl) | exact inFam_WRP_STATUS | exact wrsOk_nil | apply wrsOk_cons | (intro _; try dsimp only) | split | dsimp only

theorem State.samMissStart_kept {s : State} {h : Nat} (hw₀ : subMask 44384376587918356619345083307102957096416090371150194921102159188125443433079607817793423318825179932278280650077337263253370708553 w₀ = true) (h₀ : Kept w₀ s₀ s) :
    Kept w₀ s₀ (State.samMissStart s h) := by
  refine Kept.trans (a := 44384376587918356619345083307102957096416090371150194921102159188125443433079607817793423318825179932278280650077337263253370708553) (t := s) ?_ hw₀ h₀
  clear h₀ hw₀
  unfold State.samMissStart; try dsimp only
  repeat' first | (with_reducible first | assumption | exact Kept.refl _ _ | refine Kept.ite ?_ ?_ | refine State.dropGate_kept ?_ ?_ | refine State.updHead_kept ?_ ?_ | apply State.wrpBits_kept) | (show Nat.testBit _ _ = true; rfl) | (show subMask _ _ = true; rfl) | exact inFam_WRP_STATUS | exact wrsOk_nil | apply wrsOk_cons | (intro _; try dsimp only) | split | dsimp only

theorem State.servoInhibit_kept {s : State} {h : Nat} {on : Bool} (hw₀ : subMask 63657374290095465040641873791227239695082491712497623906783373436425557123630033256055297 w₀ = true) (h₀ : Kept w₀ s₀ s) :
    Kept w₀ s₀ (State.servoInhibit s h on) := by
  refine Kept.trans (a := 63657374290095465040641873791227239695082491712497623906783373436425557123630033256055297) (t := s) ?_ hw₀ h₀
  clear h₀ hw₀
  unfold State.servoInhibit; try dsimp only
  repeat' first | (with_reducible first | assumption | exact Kept.refl _ _ | refine Kept.ite ?_ ?_ | refine State.setInh_kept ?_ ?_ | apply State.wr_kept) | (show Nat.testBit _ _ = true; rfl) | (show subMask _ _ = true; rfl) | exact inFam_SRV_STATUS | exact wrsOk_nil | apply wrsOk_cons | (intro _; try dsimp only) | split | dsimp only

theorem State.lockHead_kept {s : State} {h : Nat} (hw₀ : subMask 52279064213016594992205153147688146262832680580528306480896399906732222596866831665939324347393 w₀ = true) (h₀ : Kept w₀ s₀ s) :
    Kept w₀ s₀ (State.lockHead s h) := by
  refine Kept.trans (a := 52279064213016594992205153147688146262832680580528306480896399906732222596866831665939324347393) (t := s) ?_ hw₀ h₀
  clear h₀ hw₀
  unfold State.lockHead; try dsimp only
  repeat' first | (with_reducible first | assumption | exact Kept.refl _ _ | refine Kept.ite ?_ ?_ | refine State.findTref_kept ?_ ?_ | refine State.showLoaded_kept ?_ ?_ | refine State.updLane_kept ?_ ?_ | refine State.wrs_kept ?_ ?_ ?_) | (show Nat.testBit _ _ = true; rfl) | (show subMask _ _ = true; rfl) | exact inFam_SRV_STATUS | exact wrsOk_nil | apply wrsOk_cons | (intro _; try dsimp only) | split | dsimp only

theorem State.missedWedge_kept {s : State} {h : Nat} (hw₀ : subMask 44384376587918356619345083307102957096417172546512622616835489299897410915227666410377558347458330381892000165142836535878530639433 w₀ = true) (h₀ : Kept w₀ s₀ s) :
    Kept w₀ s₀ (State.missedWedge s h) := by
  refine Kept.trans (a := 44384376587918356619345083307102957096417172546512622616835489299897410915227666410377558347458330381892000165142836535878530639433) (t := s) ?_ hw₀ h₀
  clear h₀ hw₀
  unfold State.missedWedge; try dsimp only
  repeat' first | (with_reducible first | assumption | exact Kept.refl _ _ | refine Kept.ite ?_ ?_ | apply State.inc_kept | refine State.samMissStart_kept ?_ ?_ | refine State.servoInhibit_kept ?_ ?_ | refine State.updHead_kept ?_ ?_ | refine State.updSrv_kept ?_ ?_ | apply State.wr_kept | refine State.wrs_kept ?_ ?_ ?_) | (show Nat.testBit _ _ = true; rfl) | (show subMask _ _ = true; rfl) | exact inFam_SRV_CNT | exact inFam_SRV_STATUS | exact wrsOk_nil | apply wrsOk_cons | (intro _; try dsimp only) | split | dsimp only

theorem State.validWedge_kept {s : State} {h : Nat} {pe : Int} (hw₀ : subMask 44384376587918356619345083307102957148695154584166789913307312335813589695912288398321729799721579839010503246944168929192695047753 w₀ = true) (h₀ : Kept w₀ s₀ s) :
    Kept w₀ s₀ (State.validWedge s h pe) := by
  refine Kept.trans (a := 44384376587918356619345083307102957148695154584166789913307312335813589695912288398321729799721579839010503246944168929192695047753) (t := s) ?_ hw₀ h₀
  clear h₀ hw₀
  unfold State.validWedge; try dsimp only
  repeat' first | (with_reducible first | assumption | exact Kept.refl _ _ | refine Kept.ite ?_ ?_ | refine State.lockHead_kept ?_ ?_ | refine State.offTrackStart_kept ?_ ?_ | refine State.updHead_kept ?_ ?_ | refine State.updSrv_kept ?_ ?_ | apply State.wr_kept) | (show Nat.testBit _ _ = true; rfl) | (show subMask _ _ = true; rfl) | exact inFam_SRV_STATUS | exact wrsOk_nil | apply wrsOk_cons | (intro _; try dsimp only) | split | dsimp only

theorem State.candidate_kept {s : State} {h : Nat} {sam : Int} {wedge : Nat} (hw₀ : subMask 52279064213016624634979997900634174697004842804632716918012474310716616698008337691700512171521 w₀ = true) (h₀ : Kept w₀ s₀ s) :
    Kept w₀ s₀ (State.candidate s h sam wedge) := by
  refine Kept.trans (a := 52279064213016624634979997900634174697004842804632716918012474310716616698008337691700512171521) (t := s) ?_ hw₀ h₀
  clear h₀ hw₀
  unfold State.candidate; try dsimp only
  repeat' first | (with_reducible first | assumption | exact Kept.refl _ _ | refine Kept.ite ?_ ?_ | refine State.lockHead_kept ?_ ?_ | refine State.servoInhibit_kept ?_ ?_ | refine State.updSrv_kept ?_ ?_) | (show Nat.testBit _ _ = true; rfl) | (show subMask _ _ = true; rfl) | (intro _; try dsimp only) | split | dsimp only

theorem State.servoReader_kept {s : State} {h : Nat} (hw₀ : subMask 63657374260452690195888927762793067532858387302060507832379389042324415617604272068232193 w₀ = true) (h₀ : Kept w₀ s₀ s) :
    Kept w₀ s₀ (State.servoReader s h) := by
  refine Kept.trans (a := 63657374260452690195888927762793067532858387302060507832379389042324415617604272068232193) (t := s) ?_ hw₀ h₀
  clear h₀ hw₀
  unfold State.servoReader; try dsimp only
  repeat' first | (with_reducible first | assumption | exact Kept.refl _ _ | refine Kept.ite ?_ ?_ | apply State.setB_kept | refine State.updSrv_kept ?_ ?_) | (show Nat.testBit _ _ = true; rfl) | (show subMask _ _ = true; rfl) | exact inFam_SRV_STATUS | exact wrsOk_nil | apply wrsOk_cons | (intro _; try dsimp only) | split | dsimp only

theorem State.demodulate_kept {s : State} {h : Nat} {m : WedgeMeas} (hw₀ : subMask 44384376587918356619345083307102957148696555046400519872491621892224371143398011282842375130893892185569434384087756223178196133449 w₀ = true) (h₀ : Kept w₀ s₀ s) : Kept w₀ s₀ (State.demodulate s h m) := by
  refine Kept.trans (a := 44384376587918356619345083307102957148696555046400519872491621892224371143398011282842375130893892185569434384087756223178196133449) (t := s) ?_ hw₀ h₀
  unfold State.demodulate
  extract_lets u0 st u hasCh win tracking locked inWin best acc place f pred sam w predW following wedgeBad pt dec far idBad d burstLow skewRange late
    missed gain t0 rroBad rro pe deliver a1 a2 a3 a4 a5 a6 a7 a8 v r su a9 a10 a11 a12 a13
  have k0 : Kept 44384376587918356619345083307102957148696555046400519872491621892224371143398011282842375130893892185569434384087756223178196133449 s u0 := State.servoReader_kept rfl (Kept.refl _ _)
  have b1 : ∀ (q : State) (c : Bool) (f : Fld), inFam 263 f.addr → Kept 44384376587918356619345083307102957148696555046400519872491621892224371143398011282842375130893892185569434384087756223178196133449 s q → Kept 44384376587918356619345083307102957148696555046400519872491621892224371143398011282842375130893892185569434384087756223178196133449 s (q.when c (fun t => t.setB f)) :=
    fun q c f hf k => State.when_kept (fun _ => State.setB_kept hf rfl rfl (Kept.refl _ _)) k
  have b2 : ∀ (q : State) (c : Bool) (f g : Fld), inFam 263 f.addr → inFam 267 g.addr → Kept 44384376587918356619345083307102957148696555046400519872491621892224371143398011282842375130893892185569434384087756223178196133449 s q → Kept 44384376587918356619345083307102957148696555046400519872491621892224371143398011282842375130893892185569434384087756223178196133449 s (q.when c (fun t => (t.setB f).inc g)) :=
    fun q c f g hf hg k => State.when_kept (fun _ => State.inc_kept hg rfl rfl (State.setB_kept hf rfl rfl (Kept.refl _ _))) k
  have k7 : Kept 44384376587918356619345083307102957148696555046400519872491621892224371143398011282842375130893892185569434384087756223178196133449 s a7 := b1 _ _ _ inFam_SRV_STATUS (b1 _ _ _ inFam_SRV_STATUS (b2 _ _ _ _ inFam_SRV_STATUS inFam_SRV_CNT (b1 _ _ _ inFam_SRV_STATUS (b2 _ _ _ _ inFam_SRV_STATUS inFam_SRV_CNT (b1 _ _ _ inFam_SRV_STATUS (b1 _ _ _ inFam_SRV_STATUS k0))))))
  have k8 : Kept 44384376587918356619345083307102957148696555046400519872491621892224371143398011282842375130893892185569434384087756223178196133449 s a8 := State.updSrv_kept rfl k7
  have k9 : Kept 44384376587918356619345083307102957148696555046400519872491621892224371143398011282842375130893892185569434384087756223178196133449 s a9 := by
    refine Kept.lit rfl (.inr rfl) rfl rfl rfl rfl (.inr rfl) (.inr rfl) (.inr rfl) (.inr rfl) (.inl rfl) (.inr rfl) (.inr rfl) (.inr rfl) (.inr rfl)
      (.inr rfl) (.inr rfl) (.inr rfl) (.inr rfl) (.inr rfl) (.inr rfl) (.inr rfl) (.inr rfl) (.inr rfl) (.inr rfl) k8
  have k11 : Kept 44384376587918356619345083307102957148696555046400519872491621892224371143398011282842375130893892185569434384087756223178196133449 s a11 := State.wrS_kept inFam_SRV_PE rfl rfl (State.wrs_kept (by repeat' first | exact wrsOk_nil | apply wrsOk_cons | exact inFam_SRV_ID | rfl) rfl k9)
  have k12 : Kept 44384376587918356619345083307102957148696555046400519872491621892224371143398011282842375130893892185569434384087756223178196133449 s a12 := Kept.ite (State.wr_kept inFam_SRV_WEDGE rfl rfl k11) k11
  have kr : ∀ q : State, Kept 44384376587918356619345083307102957148696555046400519872491621892224371143398011282842375130893892185569434384087756223178196133449 s q → Kept 44384376587918356619345083307102957148696555046400519872491621892224371143398011282842375130893892185569434384087756223178196133449 s (q.wr (SRV_STATUS.MISS_RUN h) 0) := fun q k => State.wr_kept inFam_SRV_STATUS rfl rfl k
  refine State.skewUpdates_kept rfl ?_
  exact Kept.ite (State.missedWedge_kept rfl k12) (Kept.ite (State.validWedge_kept rfl k12) (Kept.ite (kr _ k12) (State.candidate_kept rfl (kr _ k12))))

theorem execWedgeResult_kept {h : Head} {m : WedgeMeas} {s : State} (hw₀ : subMask 44384376587918356619345083307102957148696555046400519872491621892224371143398011282842375130893892185569434384087756223178196133449 w₀ = true) (h₀ : Kept w₀ s₀ s) :
    KeptR w₀ s₀ (execWedgeResult h m s) := by
  refine ⟨fun t₁ e₁ => Kept.trans (a := 44384376587918356619345083307102957148696555046400519872491621892224371143398011282842375130893892185569434384087756223178196133449) (t := s) ?_ hw₀ h₀⟩; refine KeptR.keep (?_ : KeptR 44384376587918356619345083307102957148696555046400519872491621892224371143398011282842375130893892185569434384087756223178196133449 s (execWedgeResult h m s)) t₁ e₁; clear e₁ t₁
  clear h₀ hw₀
  unfold execWedgeResult; try dsimp only
  repeat' first | (with_reducible first | assumption | exact Kept.refl _ _ | refine KeptR.next ?_ | exact KeptR.fault | exact KeptR.refused | refine KeptR.ite ?_ ?_ | refine Kept.ite ?_ ?_ | refine State.demodulate_kept ?_ ?_) | (show Nat.testBit _ _ = true; rfl) | (show subMask _ _ = true; rfl) | (intro _; try dsimp only) | split | dsimp only

theorem execServoLost_kept {h : Head} {s : State} (hw₀ : subMask 590448691390765310338681490682782786076422744174116169377084935572789604134592164414296539792385 w₀ = true) (h₀ : Kept w₀ s₀ s) :
    KeptR w₀ s₀ (execServoLost h s) := by
  refine ⟨fun t₁ e₁ => Kept.trans (a := 590448691390765310338681490682782786076422744174116169377084935572789604134592164414296539792385) (t := s) ?_ hw₀ h₀⟩; refine KeptR.keep (?_ : KeptR 590448691390765310338681490682782786076422744174116169377084935572789604134592164414296539792385 s (execServoLost h s)) t₁ e₁; clear e₁ t₁
  clear h₀ hw₀
  unfold execServoLost; try dsimp only
  repeat' first | (with_reducible first | assumption | exact Kept.refl _ _ | refine KeptR.next ?_ | exact KeptR.fault | exact KeptR.refused | refine KeptR.ite ?_ ?_ | refine Kept.ite ?_ ?_ | apply State.inc_kept | refine State.showLoaded_kept ?_ ?_ | refine State.trefHandover_kept ?_ ?_ | refine State.updSrv_kept ?_ ?_ | refine State.when_kept ?_ ?_ | apply State.wr_kept) | (show Nat.testBit _ _ = true; rfl) | (show subMask _ _ = true; rfl) | exact inFam_CTL_STATUS | exact inFam_SRV_CNT | exact inFam_SRV_STATUS | exact wrsOk_nil | apply wrsOk_cons | (intro _; try dsimp only) | split | dsimp only

theorem execServoReacquired_kept {h : Head} {s : State} (hw₀ : subMask 586275823193244145233735424443022203347680973393795909404772876266271548143168475197441033905665 w₀ = true) (h₀ : Kept w₀ s₀ s) :
    KeptR w₀ s₀ (execServoReacquired h s) := by
  refine ⟨fun t₁ e₁ => Kept.trans (a := 586275823193244145233735424443022203347680973393795909404772876266271548143168475197441033905665) (t := s) ?_ hw₀ h₀⟩; refine KeptR.keep (?_ : KeptR 586275823193244145233735424443022203347680973393795909404772876266271548143168475197441033905665 s (execServoReacquired h s)) t₁ e₁; clear e₁ t₁
  clear h₀ hw₀
  unfold execServoReacquired; try dsimp only
  repeat' first | (with_reducible first | assumption | exact Kept.refl _ _ | refine KeptR.next ?_ | exact KeptR.fault | exact KeptR.refused | refine KeptR.ite ?_ ?_ | refine Kept.ite ?_ ?_ | refine State.lockHead_kept ?_ ?_ | refine State.servoInhibit_kept ?_ ?_ | refine State.updSrv_kept ?_ ?_ | refine State.when_kept ?_ ?_ | apply State.wr_kept) | (show Nat.testBit _ _ = true; rfl) | (show subMask _ _ = true; rfl) | exact inFam_CTL_STATUS | exact wrsOk_nil | apply wrsOk_cons | (intro _; try dsimp only) | split | dsimp only

theorem execWriteInhibitClear_kept {h : Head} {s : State} (hw₀ : subMask 63657374290095465040641873791227239695082491712497623906783373436425557123630033256055297 w₀ = true) (h₀ : Kept w₀ s₀ s) :
    KeptR w₀ s₀ (execWriteInhibitClear h s) := by
  refine ⟨fun t₁ e₁ => Kept.trans (a := 63657374290095465040641873791227239695082491712497623906783373436425557123630033256055297) (t := s) ?_ hw₀ h₀⟩; refine KeptR.keep (?_ : KeptR 63657374290095465040641873791227239695082491712497623906783373436425557123630033256055297 s (execWriteInhibitClear h s)) t₁ e₁; clear e₁ t₁
  clear h₀ hw₀
  unfold execWriteInhibitClear; try dsimp only
  repeat' first | (with_reducible first | assumption | exact Kept.refl _ _ | refine KeptR.next ?_ | exact KeptR.fault | exact KeptR.refused | refine KeptR.ite ?_ ?_ | refine Kept.ite ?_ ?_ | refine State.servoInhibit_kept ?_ ?_) | (show Nat.testBit _ _ = true; rfl) | (show subMask _ _ = true; rfl) | (intro _; try dsimp only) | split | dsimp only

theorem execOffTrackClear_kept {h : Head} {s : State} (hw₀ : subMask 512 w₀ = true) (h₀ : Kept w₀ s₀ s) :
    KeptR w₀ s₀ (execOffTrackClear h s) := by
  refine ⟨fun t₁ e₁ => Kept.trans (a := 512) (t := s) ?_ hw₀ h₀⟩; refine KeptR.keep (?_ : KeptR 512 s (execOffTrackClear h s)) t₁ e₁; clear e₁ t₁
  clear h₀ hw₀
  unfold execOffTrackClear; try dsimp only
  repeat' first | (with_reducible first | assumption | exact Kept.refl _ _ | refine KeptR.next ?_ | exact KeptR.fault | exact KeptR.refused | refine KeptR.ite ?_ ?_ | refine Kept.ite ?_ ?_ | refine State.updHead_kept ?_ ?_) | (show Nat.testBit _ _ = true; rfl) | (show subMask _ _ = true; rfl) | (intro _; try dsimp only) | split | dsimp only

theorem execSpeedErrorClear_kept {s : State} (hw₀ : subMask 512 w₀ = true) (h₀ : Kept w₀ s₀ s) :
    KeptR w₀ s₀ (execSpeedErrorClear s) := by
  refine ⟨fun t₁ e₁ => Kept.trans (a := 512) (t := s) ?_ hw₀ h₀⟩; refine KeptR.keep (?_ : KeptR 512 s (execSpeedErrorClear s)) t₁ e₁; clear e₁ t₁
  clear h₀ hw₀
  unfold execSpeedErrorClear; try dsimp only
  repeat' first | (with_reducible first | assumption | exact Kept.refl _ _ | refine KeptR.next ?_ | exact KeptR.fault | exact KeptR.refused | refine KeptR.ite ?_ ?_ | refine Kept.ite ?_ ?_ | refine State.updWrp_kept ?_ ?_) | (show Nat.testBit _ _ = true; rfl) | (show subMask _ _ = true; rfl) | (intro _; try dsimp only) | split | dsimp only

end Sys2Proof.Machine
end

