-- ==== Sys2Proof/Laws/KeptDram.lean ====
section
/-! SUPPORT. What the operations and meanings of Machine/Dram.lean keep (the relation Kept). -/

set_option Elab.async false

namespace Sys2Proof.Machine
open Reg
set_option linter.unusedVariables false
set_option linter.unusedTactic false
set_option linter.unreachableTactic false
set_option maxHeartbeats 400000

variable {w₀ : Nat} {s₀ : State}

theorem State.chargeDev_kept {s : State} {c ofs : Nat} (hw₀ : subMask 32 w₀ = true) (h₀ : Kept w₀ s₀ s) :
    Kept w₀ s₀ (State.chargeDev s c ofs) := by
  refine Kept.trans (a := 32) (t := s) ?_ hw₀ h₀
  clear h₀ hw₀
  unfold State.chargeDev; try dsimp only
  repeat' first | (with_reducible first | assumption | exact Kept.refl _ _ | refine Kept.ite ?_ ?_ | refine State.updDdr_kept ?_ ?_ ?_) | (show Nat.testBit _ _ = true; rfl) | (show subMask _ _ = true; rfl) | refine DdrCh.upset_holds ?_ | refine DdrCh.writeBurst_holds ?_ | exact DdrCh.holds_of rfl rfl | exact DramU.holds_of rfl | (intro _; try dsimp only) | split | dsimp only

theorem State.ddrBit_kept {s : State} {c : Nat} {f : Nat → Fld} {i_ : Nat} (hf_ : inFam i_ (f c).addr) (hi_ : w₀.testBit (32 + i_) = true) (hw₀ : subMask 4194305 w₀ = true) (h₀ : Kept w₀ s₀ s) :
    Kept w₀ s₀ (State.ddrBit s c f) := by
  unfold State.ddrBit; try dsimp only
  repeat' first | (with_reducible first | assumption | exact Kept.refl _ _ | refine Kept.ite ?_ ?_ | apply State.raiseBit_kept) | exact hi_ | exact testBit_sub hw₀ rfl | exact subMask_trans rfl hw₀ | exact hf_ _ | exact hf_ | exact wrsOk_nil | apply wrsOk_cons | (intro _; try dsimp only) | split | dsimp only

theorem State.ddrCorrected_kept {s : State} {c ofs : Nat} {injected : Bool} (hw₀ : subMask 44384713757731871763589207486774700033120374772764031638184406308126848246420296461680277632996667040545582686185336626632611463209 w₀ = true) (h₀ : Kept w₀ s₀ s) :
    Kept w₀ s₀ (State.ddrCorrected s c ofs injected) := by
  refine Kept.trans (a := 44384713757731871763589207486774700033120374772764031638184406308126848246420296461680277632996667040545582686185336626632611463209) (t := s) ?_ hw₀ h₀
  clear h₀ hw₀
  unfold State.ddrCorrected; try dsimp only
  repeat' first | (with_reducible first | assumption | exact Kept.refl _ _ | refine Kept.ite ?_ ?_ | refine State.chargeDev_kept ?_ ?_ | apply State.ddrBit_kept | apply State.inc_kept | refine State.raiseSrc_kept ?_ ?_) | (show Nat.testBit _ _ = true; rfl) | (show subMask _ _ = true; rfl) | exact inFam_DDR_ERR_CNT | exact inFam_DDR_STATUS | exact wrsOk_nil | apply wrsOk_cons | (intro _; try dsimp only) | split | dsimp only

theorem State.markDdrFence_kept {s : State} {c : Nat} (hw₀ : subMask 44384713757731871763589207486774700033120374772764031638184406308126848246420200680708973514943019643856385791861360455437476036617 w₀ = true) (h₀ : Kept w₀ s₀ s) :
    Kept w₀ s₀ (State.markDdrFence s c) := by
  refine Kept.trans (a := 44384713757731871763589207486774700033120374772764031638184406308126848246420200680708973514943019643856385791861360455437476036617) (t := s) ?_ hw₀ h₀
  clear h₀ hw₀
  unfold State.markDdrFence; try dsimp only
  repeat' first | (with_reducible first | assumption | exact Kept.refl _ _ | refine Kept.ite ?_ ?_ | refine State.markFenced_kept ?_ ?_ | refine State.raiseSrc_kept ?_ ?_ | apply State.setB_kept) | (show Nat.testBit _ _ = true; rfl) | (show subMask _ _ = true; rfl) | exact inFam_DDR_STATUS | exact wrsOk_nil | apply wrsOk_cons | (intro _; try dsimp only) | split | dsimp only | refine Kept.lit rfl (.inr rfl) rfl rfl rfl rfl (.inr rfl) (.inr rfl) (.inr rfl) (.inr rfl) (.inr rfl) (.inr rfl) (.inr rfl) (.inr rfl) (.inr rfl) (.inr rfl) (.inr rfl) (.inl rfl) (.inr rfl) (.inr rfl) (.inl rfl) (.inr rfl) (.inl rfl) (.inl rfl) (.inr rfl) ?_

theorem State.updWay_kept {s : State} {k : Nat} {f : CWay → CWay} (hw₀ : subMask 32 w₀ = true) (h₀ : Kept w₀ s₀ s) :
    Kept w₀ s₀ (State.updWay s k f) := by
  refine Kept.trans (a := 32) (t := s) ?_ hw₀ h₀
  clear h₀ hw₀
  unfold State.updWay; try dsimp only
  repeat' first | (with_reducible first | assumption | exact Kept.refl _ _ | refine Kept.ite ?_ ?_ | refine State.updDram_kept ?_ ?_ ?_) | exact DramU.holds_of rfl | (show Nat.testBit _ _ = true; rfl) | (show subMask _ _ = true; rfl) | exact DramU.holds_of rfl | (intro _; try dsimp only) | split | dsimp only

theorem State.wayReport_kept {s : State} {k : Nat} (hw₀ : subMask 44384713757731871763589207486774700033120374772764031638184406308126848246420176735497546956447210395007430521264230181272276828185 w₀ = true) (h₀ : Kept w₀ s₀ s) :
    Kept w₀ s₀ (State.wayReport s k) := by
  refine Kept.trans (a := 44384713757731871763589207486774700033120374772764031638184406308126848246420176735497546956447210395007430521264230181272276828185) (t := s) ?_ hw₀ h₀
  clear h₀ hw₀
  unfold State.wayReport; try dsimp only
  repeat' first | (with_reducible first | assumption | exact Kept.refl _ _ | refine Kept.ite ?_ ?_ | refine State.forEach_kept ?_ ?_ | refine State.reportWord_kept ?_ ?_) | (show Nat.testBit _ _ = true; rfl) | (show subMask _ _ = true; rfl) | (intro _; try dsimp only) | split | dsimp only

theorem State.lineStore_kept {s : State} {line ofs : Nat} {bs : List (Option Byte)} (hw₀ : subMask 48 w₀ = true) (h₀ : Kept w₀ s₀ s) :
    Kept w₀ s₀ (State.lineStore s line ofs bs) := by
  refine Kept.trans (a := 48) (t := s) ?_ hw₀ h₀
  clear h₀ hw₀
  unfold State.lineStore; try dsimp only
  repeat' first | (with_reducible first | assumption | exact Kept.refl _ _ | refine Kept.ite ?_ ?_ | refine State.forEach_kept ?_ ?_ | refine State.updDdr_kept ?_ ?_ ?_ | refine State.updDram_kept ?_ ?_ ?_ | refine State.updMem_kept ?_ ?_ ?_ | refine State.updWay_kept ?_ ?_ | refine State.foldl_kept ?_ ?_) | exact DramU.holds_of rfl | (show Nat.testBit _ _ = true; rfl) | (show subMask _ _ = true; rfl) | refine DdrCh.upset_holds ?_ | refine DdrCh.writeBurst_holds ?_ | exact DdrCh.holds_of rfl rfl | exact DramU.holds_of rfl | refine MemU.store_holds ?_ | refine MemU.flip_holds ?_ | refine MemU.storeList_holds ?_ | refine MemU.flipAll_holds ?_ | refine MemU.foldl_holds ?_ ?_ | exact MemU.holds_of rfl rfl | (intro _; try dsimp only) | split | dsimp only

theorem State.readPiece_kept {s : State} {port chan addr c : Nat} (hw₀ : subMask 44384713757731871763589207486774700033120374772764031638184406308126848246420176735497546956447210395007430521264230181272276828185 w₀ = true) (h₀ : Kept w₀ s₀ s) :
    Kept w₀ s₀ (State.readPiece s port chan addr c).1 := by
  refine Kept.trans (a := 44384713757731871763589207486774700033120374772764031638184406308126848246420176735497546956447210395007430521264230181272276828185) (t := s) ?_ hw₀ h₀
  clear h₀ hw₀
  unfold State.readPiece; try dsimp only
  repeat' first | (with_reducible first | assumption | exact Kept.refl _ _ | refine Kept.ite ?_ ?_ | refine State.accessError_kept ?_ ?_ | refine State.readPage_kept ?_ ?_ | refine State.wayReport_kept ?_ ?_ | refine State.when_kept ?_ ?_ | refine State.readPage_keptp (by assumption) ?_ ?_) | (show Nat.testBit _ _ = true; rfl) | (show subMask _ _ = true; rfl) | (intro _; try dsimp only) | split | dsimp only
theorem State.readPiece_keptp {s : State} {port chan addr c : Nat} {a₀ : State} {b₀ : BufResp} (e₀ : State.readPiece s port chan addr c = (a₀, b₀)) (hw₀ : subMask 44384713757731871763589207486774700033120374772764031638184406308126848246420176735497546956447210395007430521264230181272276828185 w₀ = true) (h₀ : Kept w₀ s₀ s) : Kept w₀ s₀ a₀ := by
  have g : Kept w₀ s₀ (State.readPiece s port chan addr c).1 := State.readPiece_kept hw₀ h₀; rw [e₀] at g; exact g

theorem State.readAny_kept {s : State} {port chan : Nat} {x0_ : Nat} {x1_ : Nat} {x2_ : Nat} (hw₀ : subMask 44384713757731871763589207486774700033120374772764031638184406308126848246420176735497546956447210395007430521264230181272276828185 w₀ = true) (h₀ : Kept w₀ s₀ s) :
    Kept w₀ s₀ (State.readAny s port chan x0_ x1_ x2_).1 := by
  refine Kept.trans (a := 44384713757731871763589207486774700033120374772764031638184406308126848246420176735497546956447210395007430521264230181272276828185) (t := s) ?_ hw₀ h₀
  clear h₀ hw₀
  induction x0_ generalizing s port chan x1_ x2_ with
  | zero =>
    unfold State.readAny; try dsimp only
    repeat' first | (with_reducible first | assumption | exact Kept.refl _ _ | refine Kept.ite ?_ ?_ | refine State.readPiece_kept ?_ ?_ | refine State.readPiece_keptp (by assumption) ?_ ?_ | refine Kept.trans ih ?_ ?_) | (show Nat.testBit _ _ = true; rfl) | (show subMask _ _ = true; rfl) | (intro _; try dsimp only) | split | dsimp only
  | succ n_ ih =>
    unfold State.readAny; try dsimp only
    repeat' first | (with_reducible first | assumption | exact Kept.refl _ _ | refine Kept.ite ?_ ?_ | refine State.readPiece_kept ?_ ?_ | refine State.readPiece_keptp (by assumption) ?_ ?_ | refine Kept.trans ih ?_ ?_) | (show Nat.testBit _ _ = true; rfl) | (show subMask _ _ = true; rfl) | (intro _; try dsimp only) | split | dsimp only
theorem State.readAny_keptp {s : State} {port chan : Nat} {x0_ : Nat} {x1_ : Nat} {x2_ : Nat} {a₀ : State} {b₀ : BufResp} (e₀ : State.readAny s port chan x0_ x1_ x2_ = (a₀, b₀)) (hw₀ : subMask 44384713757731871763589207486774700033120374772764031638184406308126848246420176735497546956447210395007430521264230181272276828185 w₀ = true) (h₀ : Kept w₀ s₀ s) : Kept w₀ s₀ a₀ := by
  have g : Kept w₀ s₀ (State.readAny s port chan x0_ x1_ x2_).1 := State.readAny_kept hw₀ h₀; rw [e₀] at g; exact g

theorem State.writePiece_kept {s : State} {port addr : Nat} {bs : List Byte} (hw₀ : subMask 161390617380431786853494948250188242145606612051826469551916209783790476378907091827836237282186848059617814154231939129 w₀ = true) (h₀ : Kept w₀ s₀ s) :
    Kept w₀ s₀ (State.writePiece s port addr bs).1 := by
  refine Kept.trans (a := 161390617380431786853494948250188242145606612051826469551916209783790476378907091827836237282186848059617814154231939129) (t := s) ?_ hw₀ h₀
  clear h₀ hw₀
  unfold State.writePiece; try dsimp only
  repeat' first | (with_reducible first | assumption | exact Kept.refl _ _ | refine Kept.ite ?_ ?_ | refine State.accessError_kept ?_ ?_ | refine State.lineStore_kept ?_ ?_ | refine State.writePage_kept ?_ ?_ | refine State.writePage_keptp (by assumption) ?_ ?_) | (show Nat.testBit _ _ = true; rfl) | (show subMask _ _ = true; rfl) | (intro _; try dsimp only) | split | dsimp only
theorem State.writePiece_keptp {s : State} {port addr : Nat} {bs : List Byte} {a₀ : State} {b₀ : Bool} (e₀ : State.writePiece s port addr bs = (a₀, b₀)) (hw₀ : subMask 161390617380431786853494948250188242145606612051826469551916209783790476378907091827836237282186848059617814154231939129 w₀ = true) (h₀ : Kept w₀ s₀ s) : Kept w₀ s₀ a₀ := by
  have g : Kept w₀ s₀ (State.writePiece s port addr bs).1 := State.writePiece_kept hw₀ h₀; rw [e₀] at g; exact g

theorem State.writeAny_kept {s : State} {port : Nat} {x0_ : Nat} {x1_ : Nat} {x2_ : List Byte} (hw₀ : subMask 161390617380431786853494948250188242145606612051826469551916209783790476378907091827836237282186848059617814154231939129 w₀ = true) (h₀ : Kept w₀ s₀ s) :
    Kept w₀ s₀ (State.writeAny s port x0_ x1_ x2_).1 := by
  refine Kept.trans (a := 161390617380431786853494948250188242145606612051826469551916209783790476378907091827836237282186848059617814154231939129) (t := s) ?_ hw₀ h₀
  clear h₀ hw₀
  induction x0_ generalizing s port x1_ x2_ with
  | zero =>
    unfold State.writeAny; try dsimp only
    repeat' first | (with_reducible first | assumption | exact Kept.refl _ _ | refine Kept.ite ?_ ?_ | refine State.writePiece_kept ?_ ?_ | refine State.writePiece_keptp (by assumption) ?_ ?_ | refine Kept.trans ih ?_ ?_) | (show Nat.testBit _ _ = true; rfl) | (show subMask _ _ = true; rfl) | (intro _; try dsimp only) | split | dsimp only
  | succ n_ ih =>
    unfold State.writeAny; try dsimp only
    repeat' first | (with_reducible first | assumption | exact Kept.refl _ _ | refine Kept.ite ?_ ?_ | refine State.writePiece_kept ?_ ?_ | refine State.writePiece_keptp (by assumption) ?_ ?_ | refine Kept.trans ih ?_ ?_) | (show Nat.testBit _ _ = true; rfl) | (show subMask _ _ = true; rfl) | (intro _; try dsimp only) | split | dsimp only
theorem State.writeAny_keptp {s : State} {port : Nat} {x0_ : Nat} {x1_ : Nat} {x2_ : List Byte} {a₀ : State} {b₀ : Bool} (e₀ : State.writeAny s port x0_ x1_ x2_ = (a₀, b₀)) (hw₀ : subMask 161390617380431786853494948250188242145606612051826469551916209783790476378907091827836237282186848059617814154231939129 w₀ = true) (h₀ : Kept w₀ s₀ s) : Kept w₀ s₀ a₀ := by
  have g : Kept w₀ s₀ (State.writeAny s port x0_ x1_ x2_).1 := State.writeAny_kept hw₀ h₀; rw [e₀] at g; exact g

theorem State.putTrailer_kept {s : State} {port addr tag crc : Nat} (hw₀ : subMask 161390617380431786853494948250188242145606612051826469551916209783790476378907091827836237282186848059617814154231939129 w₀ = true) (h₀ : Kept w₀ s₀ s) :
    Kept w₀ s₀ (State.putTrailer s port addr tag crc) := by
  refine Kept.trans (a := 161390617380431786853494948250188242145606612051826469551916209783790476378907091827836237282186848059617814154231939129) (t := s) ?_ hw₀ h₀
  clear h₀ hw₀
  unfold State.putTrailer; try dsimp only
  repeat' first | (with_reducible first | assumption | exact Kept.refl _ _ | refine Kept.ite ?_ ?_ | refine State.writeAny_kept ?_ ?_ | refine State.writeAny_keptp (by assumption) ?_ ?_) | (show Nat.testBit _ _ = true; rfl) | (show subMask _ _ = true; rfl) | (intro _; try dsimp only) | split | dsimp only

end Sys2Proof.Machine
end

