-- ==== Sys2Proof/Laws/KeptPack.lean ====
section
/-! SUPPORT. What the operations and meanings of Machine/Pack.lean keep (the relation Kept). -/

set_option Elab.async false

namespace Sys2Proof.Machine
open Reg
set_option linter.unusedVariables false
set_option linter.unusedTactic false
set_option linter.unreachableTactic false
set_option maxHeartbeats 400000

variable {w₀ : Nat} {s₀ : State}

theorem State.showPack_kept {s : State} (hw₀ : subMask 1231881215569636099902773674304504534160087255976066773155841 w₀ = true) (h₀ : Kept w₀ s₀ s) :
    Kept w₀ s₀ (State.showPack s) := by
  refine Kept.trans (a := 1231881215569636099902773674304504534160087255976066773155841) (t := s) ?_ hw₀ h₀
  clear h₀ hw₀
  unfold State.showPack; try dsimp only
  repeat' first | (with_reducible first | assumption | exact Kept.refl _ _ | refine Kept.ite ?_ ?_ | refine State.wrs_kept ?_ ?_ ?_ | refine State.foldl_kept ?_ ?_) | (show Nat.testBit _ _ = true; rfl) | (show subMask _ _ = true; rfl) | exact inFam_PCK_KEY_BUSY | exact inFam_PCK_KEY_STAT | exact inFam_PCK_QUEUE | exact inFam_PCK_STATUS | exact wrsOk_nil | apply wrsOk_cons | (intro _; try dsimp only) | split | dsimp only

theorem State.updPack_kept {s : State} {f : PackU → PackU} (hw₀ : subMask 65536 w₀ = true) (h₀ : Kept w₀ s₀ s) :
    Kept w₀ s₀ (State.updPack s f) := by
  refine Kept.trans (a := 65536) (t := s) ?_ hw₀ h₀
  clear h₀ hw₀
  unfold State.updPack; try dsimp only
  repeat' first | (with_reducible first | assumption | exact Kept.refl _ _ | refine Kept.ite ?_ ?_) | (show Nat.testBit _ _ = true; rfl) | (show subMask _ _ = true; rfl) | (intro _; try dsimp only) | split | dsimp only | refine Kept.lit rfl (.inr rfl) rfl rfl rfl rfl (.inr rfl) (.inr rfl) (.inr rfl) (.inr rfl) (.inr rfl) (.inr rfl) (.inr rfl) (.inr rfl) (.inr rfl) (.inr rfl) (.inl rfl) (.inr rfl) (.inr rfl) (.inr rfl) (.inr rfl) (.inr rfl) (.inr rfl) (.inr rfl) (.inr rfl) ?_

theorem State.zeroKeys_kept {s : State} (hw₀ : subMask 1231881215569636099902773674304504534160087255976066773221377 w₀ = true) (h₀ : Kept w₀ s₀ s) :
    Kept w₀ s₀ (State.zeroKeys s) := by
  refine Kept.trans (a := 1231881215569636099902773674304504534160087255976066773221377) (t := s) ?_ hw₀ h₀
  clear h₀ hw₀
  unfold State.zeroKeys; try dsimp only
  repeat' first | (with_reducible first | assumption | exact Kept.refl _ _ | refine Kept.ite ?_ ?_ | refine State.showPack_kept ?_ ?_ | refine State.updPack_kept ?_ ?_) | (show Nat.testBit _ _ = true; rfl) | (show subMask _ _ = true; rfl) | (intro _; try dsimp only) | split | dsimp only

theorem State.deliverJob_kept {s : State} {p : Nat} {j : PJob} {e : JobEnd} (hw₀ : subMask 2839211578687088042992475503484617615833296646974138615398401 w₀ = true) (h₀ : Kept w₀ s₀ s) :
    Kept w₀ s₀ (State.deliverJob s p j e) := by
  refine Kept.trans (a := 2839211578687088042992475503484617615833296646974138615398401) (t := s) ?_ hw₀ h₀
  clear h₀ hw₀
  unfold State.deliverJob; try dsimp only
  repeat' first | (with_reducible first | assumption | exact Kept.refl _ _ | refine Kept.ite ?_ ?_ | apply State.inc_kept | refine State.irqIf_kept ?_ ?_ | refine State.showPack_kept ?_ ?_ | refine State.updCmd_kept ?_ ?_ | refine State.updPack_kept ?_ ?_ | refine State.when_kept ?_ ?_) | (show Nat.testBit _ _ = true; rfl) | (show subMask _ _ = true; rfl) | exact inFam_PCK_ERR_CNT | exact inFam_PCK_JOB_CNT | exact wrsOk_nil | apply wrsOk_cons | (intro _; try dsimp only) | split | dsimp only | refine Kept.lit rfl (.inr rfl) rfl rfl rfl rfl (.inr rfl) (.inr rfl) (.inr rfl) (.inr rfl) (.inr rfl) (.inr rfl) (.inr rfl) (.inr rfl) (.inr rfl) (.inr rfl) (.inl rfl) (.inr rfl) (.inr rfl) (.inl rfl) (.inr rfl) (.inr rfl) (.inl rfl) (.inr rfl) (.inr rfl) ?_

theorem State.dropJobs_kept {s : State} {hit : PJob → Bool} (hw₀ : subMask 2839211578687088042992475503484617615833296646974138615398401 w₀ = true) (h₀ : Kept w₀ s₀ s) :
    Kept w₀ s₀ (State.dropJobs s hit) := by
  refine Kept.trans (a := 2839211578687088042992475503484617615833296646974138615398401) (t := s) ?_ hw₀ h₀
  clear h₀ hw₀
  unfold State.dropJobs; try dsimp only
  repeat' first | (with_reducible first | assumption | exact Kept.refl _ _ | refine Kept.ite ?_ ?_ | refine State.deliverJob_kept ?_ ?_ | refine State.forEach_kept ?_ ?_ | refine State.showPack_kept ?_ ?_ | refine State.updPack_kept ?_ ?_) | (show Nat.testBit _ _ = true; rfl) | (show subMask _ _ = true; rfl) | (intro _; try dsimp only) | split | dsimp only

theorem State.readMap_kept {s : State} {p tag : Nat} {x0_ : Nat} {x1_ : Nat} {x2_ : Nat} (hw₀ : subMask 44384713757731871763589207486774700033120374772764031638184406308126848246420176735497546956447210395007430521264230181272276828185 w₀ = true) (h₀ : Kept w₀ s₀ s) :
    Kept w₀ s₀ (State.readMap s p tag x0_ x1_ x2_).1 := by
  refine Kept.trans (a := 44384713757731871763589207486774700033120374772764031638184406308126848246420176735497546956447210395007430521264230181272276828185) (t := s) ?_ hw₀ h₀
  clear h₀ hw₀
  induction x0_ generalizing s p tag x1_ x2_ with
  | zero =>
    unfold State.readMap; try dsimp only
    repeat' first | (with_reducible first | assumption | exact Kept.refl _ _ | refine Kept.ite ?_ ?_ | refine State.readPage_kept ?_ ?_ | refine State.readPage_keptp (by assumption) ?_ ?_ | refine Kept.trans ih ?_ ?_) | (show Nat.testBit _ _ = true; rfl) | (show subMask _ _ = true; rfl) | (intro _; try dsimp only) | split | dsimp only
  | succ n_ ih =>
    unfold State.readMap; try dsimp only
    repeat' first | (with_reducible first | assumption | exact Kept.refl _ _ | refine Kept.ite ?_ ?_ | refine State.readPage_kept ?_ ?_ | refine State.readPage_keptp (by assumption) ?_ ?_ | refine Kept.trans ih ?_ ?_) | (show Nat.testBit _ _ = true; rfl) | (show subMask _ _ = true; rfl) | (intro _; try dsimp only) | split | dsimp only
theorem State.readMap_keptp {s : State} {p tag : Nat} {x0_ : Nat} {x1_ : Nat} {x2_ : Nat} {a₀ : State} {b₀ : List Byte × Bool} (e₀ : State.readMap s p tag x0_ x1_ x2_ = (a₀, b₀)) (hw₀ : subMask 44384713757731871763589207486774700033120374772764031638184406308126848246420176735497546956447210395007430521264230181272276828185 w₀ = true) (h₀ : Kept w₀ s₀ s) : Kept w₀ s₀ a₀ := by
  have g : Kept w₀ s₀ (State.readMap s p tag x0_ x1_ x2_).1 := State.readMap_kept hw₀ h₀; rw [e₀] at g; exact g

theorem State.setPrun_kept {s : State} {p : Nat} {r : Option PRun} (hw₀ : subMask 49039857307708443467467104868809893875799651909875335169 w₀ = true) (h₀ : Kept w₀ s₀ s) :
    Kept w₀ s₀ (State.setPrun s p r) := by
  refine Kept.trans (a := 49039857307708443467467104868809893875799651909875335169) (t := s) ?_ hw₀ h₀
  clear h₀ hw₀
  unfold State.setPrun; try dsimp only
  repeat' first | (with_reducible first | assumption | exact Kept.refl _ _ | refine Kept.ite ?_ ?_ | refine State.updPack_kept ?_ ?_ | apply State.wr_kept) | (show Nat.testBit _ _ = true; rfl) | (show subMask _ _ = true; rfl) | exact inFam_PCK_ISTATUS | exact wrsOk_nil | apply wrsOk_cons | (intro _; try dsimp only) | split | dsimp only

theorem State.setKey_kept {s : State} {i : Nat} {k : KeySlot} (hw₀ : subMask 1231881215569636099902773674304504534160087255976066773221377 w₀ = true) (h₀ : Kept w₀ s₀ s) :
    Kept w₀ s₀ (State.setKey s i k) := by
  refine Kept.trans (a := 1231881215569636099902773674304504534160087255976066773221377) (t := s) ?_ hw₀ h₀
  clear h₀ hw₀
  unfold State.setKey; try dsimp only
  repeat' first | (with_reducible first | assumption | exact Kept.refl _ _ | refine Kept.ite ?_ ?_ | refine State.showPack_kept ?_ ?_ | refine State.updPack_kept ?_ ?_) | (show Nat.testBit _ _ = true; rfl) | (show subMask _ _ = true; rfl) | (intro _; try dsimp only) | split | dsimp only

theorem State.queueJob_kept {s : State} {j : PJob} (hw₀ : subMask 1231881215569636099902773674304504534160087255976066773221377 w₀ = true) (h₀ : Kept w₀ s₀ s) :
    ∀ p, State.queueJob s j = some p → Kept w₀ s₀ p := by
  intro p hp; refine Kept.trans (a := 1231881215569636099902773674304504534160087255976066773221377) (t := s) ?_ hw₀ h₀
  clear h₀ hw₀
  unfold State.queueJob at hp; try dsimp only at hp
  repeat' first | (cases hp; done) | split at hp
  all_goals (cases hp)
  all_goals (repeat' first | (with_reducible first | assumption | exact Kept.refl _ _ | refine Kept.ite ?_ ?_ | refine State.showPack_kept ?_ ?_ | refine State.updPack_kept ?_ ?_) | (show Nat.testBit _ _ = true; rfl) | (show subMask _ _ = true; rfl) | (intro _; try dsimp only) | split | dsimp only)

theorem execPckJobGo_kept {w : Initiator} {s : State} (hw₀ : subMask 1244435419040409461430445253150919866992291966869667770859525 w₀ = true) (h₀ : Kept w₀ s₀ s) :
    KeptR w₀ s₀ (execPckJobGo w s) := by
  refine ⟨fun t₁ e₁ => Kept.trans (a := 1244435419040409461430445253150919866992291966869667770859525) (t := s) ?_ hw₀ h₀⟩; refine KeptR.keep (?_ : KeptR 1244435419040409461430445253150919866992291966869667770859525 s (execPckJobGo w s)) t₁ e₁; clear e₁ t₁
  clear h₀ hw₀
  unfold execPckJobGo; try dsimp only
  repeat' first | (with_reducible first | assumption | exact Kept.refl _ _ | refine KeptR.next ?_ | exact KeptR.fault | exact KeptR.refused | refine KeptR.ite ?_ ?_ | refine Kept.ite ?_ ?_ | apply State.clr_kept | apply State.raiseBit_kept | refine State.refuseW_kept ?_ ?_ | refine State.foldl_kept ?_ ?_ | refine State.queueJob_kept ?_ ?_ _ (by assumption)) | (show Nat.testBit _ _ = true; rfl) | (show subMask _ _ = true; rfl) | exact inFam_PCK_JOB_GO | exact inFam_PCK_STATUS | exact wrsOk_nil | apply wrsOk_cons | (intro _; try dsimp only) | split | dsimp only

theorem State.writeMap_kept {s : State} {tag : Nat} {x0_ : Nat} {x1_ : Nat} {x2_ : List Byte} (hw₀ : subMask 161390617380431786853494948250188242145606612051826469551916209783790476378907091827836237282186848059617814154231939097 w₀ = true) (h₀ : Kept w₀ s₀ s) :
    Kept w₀ s₀ (State.writeMap s tag x0_ x1_ x2_) := by
  refine Kept.trans (a := 161390617380431786853494948250188242145606612051826469551916209783790476378907091827836237282186848059617814154231939097) (t := s) ?_ hw₀ h₀
  clear h₀ hw₀
  induction x0_ generalizing s tag x1_ x2_ with
  | zero =>
    unfold State.writeMap; try dsimp only
    repeat' first | (with_reducible first | assumption | exact Kept.refl _ _ | refine Kept.ite ?_ ?_ | refine State.writePage_kept ?_ ?_ | refine State.writePage_keptp (by assumption) ?_ ?_ | refine Kept.trans ih ?_ ?_) | (show Nat.testBit _ _ = true; rfl) | (show subMask _ _ = true; rfl) | (intro _; try dsimp only) | split | dsimp only
  | succ n_ ih =>
    unfold State.writeMap; try dsimp only
    repeat' first | (with_reducible first | assumption | exact Kept.refl _ _ | refine Kept.ite ?_ ?_ | refine State.writePage_kept ?_ ?_ | refine State.writePage_keptp (by assumption) ?_ ?_ | refine Kept.trans ih ?_ ?_) | (show Nat.testBit _ _ = true; rfl) | (show subMask _ _ = true; rfl) | (intro _; try dsimp only) | split | dsimp only

theorem State.validSpan_kept {s : State} {tag ofs n : Nat} (hw₀ : subMask 16 w₀ = true) (h₀ : Kept w₀ s₀ s) :
    Kept w₀ s₀ (State.validSpan s tag ofs n) := by
  refine Kept.trans (a := 16) (t := s) ?_ hw₀ h₀
  clear h₀ hw₀
  unfold State.validSpan; try dsimp only
  repeat' first | (with_reducible first | assumption | exact Kept.refl _ _ | refine Kept.ite ?_ ?_ | refine State.forEach_kept ?_ ?_ | refine State.markValid_kept ?_ ?_) | (show Nat.testBit _ _ = true; rfl) | (show subMask _ _ = true; rfl) | (intro _; try dsimp only) | split | dsimp only

theorem State.bindKey_kept {s : State} {p : Nat} {r : PRun} (hw₀ : subMask 44384713757731871763589207486774700033120374772764031638184406308126848246420176735497546956447210395007430521264230181272276828185 w₀ = true) (h₀ : Kept w₀ s₀ s) :
    Kept w₀ s₀ (State.bindKey s p r).1 := by
  refine Kept.trans (a := 44384713757731871763589207486774700033120374772764031638184406308126848246420176735497546956447210395007430521264230181272276828185) (t := s) ?_ hw₀ h₀
  clear h₀ hw₀
  unfold State.bindKey; try dsimp only
  repeat' first | (with_reducible first | assumption | exact Kept.refl _ _ | refine Kept.ite ?_ ?_ | refine State.readMap_kept ?_ ?_ | refine State.readMap_keptp (by assumption) ?_ ?_) | (show Nat.testBit _ _ = true; rfl) | (show subMask _ _ = true; rfl) | (intro _; try dsimp only) | split | dsimp only
theorem State.bindKey_keptp {s : State} {p : Nat} {r : PRun} {a₀ : State} {b₀ : PRun} (e₀ : State.bindKey s p r = (a₀, b₀)) (hw₀ : subMask 44384713757731871763589207486774700033120374772764031638184406308126848246420176735497546956447210395007430521264230181272276828185 w₀ = true) (h₀ : Kept w₀ s₀ s) : Kept w₀ s₀ a₀ := by
  have g : Kept w₀ s₀ (State.bindKey s p r).1 := State.bindKey_kept hw₀ h₀; rw [e₀] at g; exact g

theorem State.advanceJob_kept {s : State} {p : Nat} {r : PRun} {stall : Bool} (hw₀ : subMask 44384713757731871763589207486774700033120374772764031638184406308126848246469216592805255399914677499876240415140029833182152163353 w₀ = true) (h₀ : Kept w₀ s₀ s) :
    Kept w₀ s₀ (State.advanceJob s p r stall) := by
  refine Kept.trans (a := 44384713757731871763589207486774700033120374772764031638184406308126848246469216592805255399914677499876240415140029833182152163353) (t := s) ?_ hw₀ h₀
  clear h₀ hw₀
  unfold State.advanceJob; try dsimp only
  repeat' first | (with_reducible first | assumption | exact Kept.refl _ _ | refine Kept.ite ?_ ?_ | refine State.bindKey_kept ?_ ?_ | refine State.setPrun_kept ?_ ?_ | apply State.wr_kept | refine State.bindKey_keptp (by assumption) ?_ ?_) | (show Nat.testBit _ _ = true; rfl) | (show subMask _ _ = true; rfl) | exact inFam_PCK_ISTATUS | exact wrsOk_nil | apply wrsOk_cons | (intro _; try dsimp only) | split | dsimp only

theorem execPackJobStart_kept {stall : Bool} {s : State} (hw₀ : subMask 44384713757731871763589207486774700033120374772764031638184406308126849478350432162441355302688351804380774575227285809248925319193 w₀ = true) (h₀ : Kept w₀ s₀ s) :
    KeptR w₀ s₀ (execPackJobStart stall s) := by
  refine ⟨fun t₁ e₁ => Kept.trans (a := 44384713757731871763589207486774700033120374772764031638184406308126849478350432162441355302688351804380774575227285809248925319193) (t := s) ?_ hw₀ h₀⟩; refine KeptR.keep (?_ : KeptR 44384713757731871763589207486774700033120374772764031638184406308126849478350432162441355302688351804380774575227285809248925319193 s (execPackJobStart stall s)) t₁ e₁; clear e₁ t₁
  clear h₀ hw₀
  unfold execPackJobStart; try dsimp only
  repeat' first | (with_reducible first | assumption | exact Kept.refl _ _ | refine KeptR.next ?_ | exact KeptR.fault | exact KeptR.refused | refine KeptR.ite ?_ ?_ | refine Kept.ite ?_ ?_ | refine State.advanceJob_kept ?_ ?_ | refine State.showPack_kept ?_ ?_ | refine State.updPack_kept ?_ ?_) | (show Nat.testBit _ _ = true; rfl) | (show subMask _ _ = true; rfl) | (intro _; try dsimp only) | split | dsimp only

theorem execPackEncoderResume_kept {p : Fin 2} {stall : Bool} {s : State} (hw₀ : subMask 44384713757731871763589207486774700033120374772764031638184406308126848246469216592805255399914677499876240415140029833182152163353 w₀ = true) (h₀ : Kept w₀ s₀ s) :
    KeptR w₀ s₀ (execPackEncoderResume p stall s) := by
  refine ⟨fun t₁ e₁ => Kept.trans (a := 44384713757731871763589207486774700033120374772764031638184406308126848246469216592805255399914677499876240415140029833182152163353) (t := s) ?_ hw₀ h₀⟩; refine KeptR.keep (?_ : KeptR 44384713757731871763589207486774700033120374772764031638184406308126848246469216592805255399914677499876240415140029833182152163353 s (execPackEncoderResume p stall s)) t₁ e₁; clear e₁ t₁
  clear h₀ hw₀
  unfold execPackEncoderResume; try dsimp only
  repeat' first | (with_reducible first | assumption | exact Kept.refl _ _ | refine KeptR.next ?_ | exact KeptR.fault | exact KeptR.refused | refine KeptR.ite ?_ ?_ | refine Kept.ite ?_ ?_ | refine State.advanceJob_kept ?_ ?_) | (show Nat.testBit _ _ = true; rfl) | (show subMask _ _ = true; rfl) | (intro _; try dsimp only) | split | dsimp only

theorem execPackInputResume_kept {p : Fin 2} {stall : Bool} {s : State} (hw₀ : subMask 44384713757731871763589207486774700033120374772764031638184406308126848246469216592805255399914677499876240415140029833182152163353 w₀ = true) (h₀ : Kept w₀ s₀ s) :
    KeptR w₀ s₀ (execPackInputResume p stall s) := by
  refine ⟨fun t₁ e₁ => Kept.trans (a := 44384713757731871763589207486774700033120374772764031638184406308126848246469216592805255399914677499876240415140029833182152163353) (t := s) ?_ hw₀ h₀⟩; refine KeptR.keep (?_ : KeptR 44384713757731871763589207486774700033120374772764031638184406308126848246469216592805255399914677499876240415140029833182152163353 s (execPackInputResume p stall s)) t₁ e₁; clear e₁ t₁
  clear h₀ hw₀
  unfold execPackInputResume; try dsimp only
  repeat' first | (with_reducible first | assumption | exact Kept.refl _ _ | refine KeptR.next ?_ | exact KeptR.fault | exact KeptR.refused | refine KeptR.ite ?_ ?_ | refine Kept.ite ?_ ?_ | refine State.advanceJob_kept ?_ ?_) | (show Nat.testBit _ _ = true; rfl) | (show subMask _ _ = true; rfl) | (intro _; try dsimp only) | split | dsimp only

theorem State.countKib_kept {s : State} {f : Fld} {i n : Nat} {i_ : Nat} (hf_ : inFam i_ f.addr) (hi_ : w₀.testBit (32 + i_) = true) (hw₀ : subMask 65537 w₀ = true) (h₀ : Kept w₀ s₀ s) :
    Kept w₀ s₀ (State.countKib s f i n) := by
  unfold State.countKib; try dsimp only
  repeat' first | (with_reducible first | assumption | exact Kept.refl _ _ | refine Kept.ite ?_ ?_ | apply State.addC_kept | refine State.updPack_kept ?_ ?_) | exact hi_ | exact testBit_sub hw₀ rfl | exact subMask_trans rfl hw₀ | exact hf_ _ | exact hf_ | exact wrsOk_nil | apply wrsOk_cons | (intro _; try dsimp only) | split | dsimp only

theorem State.fencePack_kept {s : State} {p : Fin 2} (hw₀ : subMask 44384713757731871763589207486774700033120374772764031638184406308126851085680795279861898921372578384170512295452813038687177342985 w₀ = true) (h₀ : Kept w₀ s₀ s) :
    Kept w₀ s₀ (State.fencePack s p) := by
  refine Kept.trans (a := 44384713757731871763589207486774700033120374772764031638184406308126851085680795279861898921372578384170512295452813038687177342985) (t := s) ?_ hw₀ h₀
  clear h₀ hw₀
  unfold State.fencePack; try dsimp only
  repeat' first | (with_reducible first | assumption | exact Kept.refl _ _ | refine Kept.ite ?_ ?_ | refine State.deliverJob_kept ?_ ?_ | apply State.inc_kept | refine State.markFenced_kept ?_ ?_ | refine State.raise0_kept ?_ ?_ | apply State.raiseBit_kept | refine State.setPrun_kept ?_ ?_ | refine State.showPack_kept ?_ ?_ | refine State.updPack_kept ?_ ?_ | refine State.when_kept ?_ ?_ | refine State.wrs_kept ?_ ?_ ?_) | (show Nat.testBit _ _ = true; rfl) | (show subMask _ _ = true; rfl) | exact inFam_PCK_ERR_CNT | exact inFam_PCK_ISTATUS | exact inFam_PCK_STATUS | exact wrsOk_nil | apply wrsOk_cons | (intro _; try dsimp only) | split | dsimp only

theorem State.selfCheckFail_kept {s : State} {p : Fin 2} (hw₀ : subMask 44384713757731871763589207486774700033120374772764031638184406308126851085680795279861898921372578384170512295452813038687177342985 w₀ = true) (h₀ : Kept w₀ s₀ s) :
    Kept w₀ s₀ (State.selfCheckFail s p) := by
  refine Kept.trans (a := 44384713757731871763589207486774700033120374772764031638184406308126851085680795279861898921372578384170512295452813038687177342985) (t := s) ?_ hw₀ h₀
  clear h₀ hw₀
  unfold State.selfCheckFail; try dsimp only
  repeat' first | (with_reducible first | assumption | exact Kept.refl _ _ | refine Kept.ite ?_ ?_ | refine State.fencePack_kept ?_ ?_ | refine State.raiseSrc_kept ?_ ?_ | apply State.setB_kept) | (show Nat.testBit _ _ = true; rfl) | (show subMask _ _ = true; rfl) | exact inFam_PCK_ISTATUS | exact wrsOk_nil | apply wrsOk_cons | (intro _; try dsimp only) | split | dsimp only

theorem State.packParityFail_kept {s : State} {p : Fin 2} (hw₀ : subMask 44384713757731871763589207486774700033120374772764031638184406308126851085680795279861898921372578384170512295452813038687177342985 w₀ = true) (h₀ : Kept w₀ s₀ s) :
    Kept w₀ s₀ (State.packParityFail s p) := by
  refine Kept.trans (a := 44384713757731871763589207486774700033120374772764031638184406308126851085680795279861898921372578384170512295452813038687177342985) (t := s) ?_ hw₀ h₀
  clear h₀ hw₀
  unfold State.packParityFail; try dsimp only
  repeat' first | (with_reducible first | assumption | exact Kept.refl _ _ | refine Kept.ite ?_ ?_ | refine State.fencePack_kept ?_ ?_ | refine State.injDone_kept ?_ ?_ | refine State.raiseSrc_kept ?_ ?_ | apply State.setB_kept) | (show Nat.testBit _ _ = true; rfl) | (show subMask _ _ = true; rfl) | exact inFam_PCK_ISTATUS | exact wrsOk_nil | apply wrsOk_cons | (intro _; try dsimp only) | split | dsimp only

theorem State.endJob_kept {s : State} {p : Nat} {r : PRun} {e : JobEnd} (hw₀ : subMask 2839260618544395751435942970589486425727172446626048490668033 w₀ = true) (h₀ : Kept w₀ s₀ s) :
    Kept w₀ s₀ (State.endJob s p r e) := by
  refine Kept.trans (a := 2839260618544395751435942970589486425727172446626048490668033) (t := s) ?_ hw₀ h₀
  clear h₀ hw₀
  unfold State.endJob; try dsimp only
  repeat' first | (with_reducible first | assumption | exact Kept.refl _ _ | refine Kept.ite ?_ ?_ | refine State.deliverJob_kept ?_ ?_ | refine State.setPrun_kept ?_ ?_ | refine State.showPack_kept ?_ ?_ | apply State.wr_kept) | (show Nat.testBit _ _ = true; rfl) | (show subMask _ _ = true; rfl) | exact inFam_PCK_ISTATUS | exact wrsOk_nil | apply wrsOk_cons | (intro _; try dsimp only) | split | dsimp only

theorem execPackJobEnd_kept {p : Fin 2} {s : State} (hw₀ : subMask 44384713757731871763589207486774700033120374772764031638184406308126851085975034423739549053194983613706715611691474718780014919705 w₀ = true) (h₀ : Kept w₀ s₀ s) :
    KeptR w₀ s₀ (execPackJobEnd p s) := by
  refine ⟨fun t₁ e₁ => Kept.trans (a := 44384713757731871763589207486774700033120374772764031638184406308126851085975034423739549053194983613706715611691474718780014919705) (t := s) ?_ hw₀ h₀⟩; refine KeptR.keep (?_ : KeptR 44384713757731871763589207486774700033120374772764031638184406308126851085975034423739549053194983613706715611691474718780014919705 s (execPackJobEnd p s)) t₁ e₁; clear e₁ t₁
  clear h₀ hw₀
  unfold execPackJobEnd; try dsimp only
  repeat' first | (with_reducible first | assumption | exact Kept.refl _ _ | refine KeptR.next ?_ | exact KeptR.fault | exact KeptR.refused | refine KeptR.ite ?_ ?_ | refine Kept.ite ?_ ?_ | apply State.countKib_kept | refine State.endJob_kept ?_ ?_ | refine State.packParityFail_kept ?_ ?_ | refine State.readMap_kept ?_ ?_ | refine State.selfCheckFail_kept ?_ ?_ | refine State.validSpan_kept ?_ ?_ | refine State.writeMap_kept ?_ ?_ | refine State.readMap_keptp (by assumption) ?_ ?_) | (show Nat.testBit _ _ = true; rfl) | (show subMask _ _ = true; rfl) | exact inFam_PCK_IN_CNT | exact inFam_PCK_OUT_CNT | exact wrsOk_nil | apply wrsOk_cons | (intro _; try dsimp only) | split | dsimp only

theorem execPckKeyDataWrite_kept {v : Word} {s : State} (hw₀ : subMask 65536 w₀ = true) (h₀ : Kept w₀ s₀ s) :
    KeptR w₀ s₀ (execPckKeyDataWrite v s) := by
  refine ⟨fun t₁ e₁ => Kept.trans (a := 65536) (t := s) ?_ hw₀ h₀⟩; refine KeptR.keep (?_ : KeptR 65536 s (execPckKeyDataWrite v s)) t₁ e₁; clear e₁ t₁
  clear h₀ hw₀
  unfold execPckKeyDataWrite; try dsimp only
  repeat' first | (with_reducible first | assumption | exact Kept.refl _ _ | refine KeptR.next ?_ | exact KeptR.fault | exact KeptR.refused | refine KeptR.ite ?_ ?_ | refine Kept.ite ?_ ?_ | refine State.updPack_kept ?_ ?_) | (show Nat.testBit _ _ = true; rfl) | (show subMask _ _ = true; rfl) | (intro _; try dsimp only) | split | dsimp only

theorem State.loadKey_kept {s : State} {slot : Nat} {key : List Byte} (hw₀ : subMask 44384376587918356619345083307102957096416090370664438769721192661557493885738456988455690200487596144516679404305349090735273607177 w₀ = true) (h₀ : Kept w₀ s₀ s) :
    ∀ p, State.loadKey s slot key = some p → Kept w₀ s₀ p := by
  intro p hp; refine Kept.trans (a := 44384376587918356619345083307102957096416090370664438769721192661557493885738456988455690200487596144516679404305349090735273607177) (t := s) ?_ hw₀ h₀
  clear h₀ hw₀
  unfold State.loadKey at hp; try dsimp only at hp
  repeat' first | (cases hp; done) | split at hp
  all_goals (cases hp)
  all_goals (repeat' first | (with_reducible first | assumption | exact Kept.refl _ _ | refine Kept.ite ?_ ?_ | refine State.logEvent_kept ?_ ?_ | refine State.setKey_kept ?_ ?_) | (show Nat.testBit _ _ = true; rfl) | (show subMask _ _ = true; rfl) | (intro _; try dsimp only) | split | dsimp only)

theorem execPckKeyLoad_kept {w : Initiator} {slot : Fin 64} {s : State} (hw₀ : subMask 44384376587918356619345083307102957096416090370664438769721192661557493986172084754642582421860226915839342061943036206832754425869 w₀ = true) (h₀ : Kept w₀ s₀ s) :
    KeptR w₀ s₀ (execPckKeyLoad w slot s) := by
  refine ⟨fun t₁ e₁ => Kept.trans (a := 44384376587918356619345083307102957096416090370664438769721192661557493986172084754642582421860226915839342061943036206832754425869) (t := s) ?_ hw₀ h₀⟩; refine KeptR.keep (?_ : KeptR 44384376587918356619345083307102957096416090370664438769721192661557493986172084754642582421860226915839342061943036206832754425869 s (execPckKeyLoad w slot s)) t₁ e₁; clear e₁ t₁
  clear h₀ hw₀
  unfold execPckKeyLoad; try dsimp only
  repeat' first | (with_reducible first | assumption | exact Kept.refl _ _ | refine KeptR.next ?_ | exact KeptR.fault | exact KeptR.refused | refine KeptR.ite ?_ ?_ | refine Kept.ite ?_ ?_ | apply State.raiseBit_kept | refine State.refuseW_kept ?_ ?_ | refine State.updPack_kept ?_ ?_ | refine State.wrs_kept ?_ ?_ ?_ | refine State.loadKey_kept ?_ ?_ _ (by assumption)) | (show Nat.testBit _ _ = true; rfl) | (show subMask _ _ = true; rfl) | exact inFam_PCK_KEY_CMD | exact inFam_PCK_STATUS | exact wrsOk_nil | apply wrsOk_cons | (intro _; try dsimp only) | split | dsimp only

theorem State.eraseKey_kept {s : State} {i : Nat} (hw₀ : subMask 1231881215569636099902773674304504534160087255976066773221377 w₀ = true) (h₀ : Kept w₀ s₀ s) :
    Kept w₀ s₀ (State.eraseKey s i) := by
  refine Kept.trans (a := 1231881215569636099902773674304504534160087255976066773221377) (t := s) ?_ hw₀ h₀
  clear h₀ hw₀
  unfold State.eraseKey; try dsimp only
  repeat' first | (with_reducible first | assumption | exact Kept.refl _ _ | refine Kept.ite ?_ ?_ | refine State.setKey_kept ?_ ?_) | (show Nat.testBit _ _ = true; rfl) | (show subMask _ _ = true; rfl) | (intro _; try dsimp only) | split | dsimp only

theorem execPckKeyErase_kept {slot : Fin 64} {s : State} (hw₀ : subMask 1332314843335822992124146305075827196817724943087491329622017 w₀ = true) (h₀ : Kept w₀ s₀ s) :
    KeptR w₀ s₀ (execPckKeyErase slot s) := by
  refine ⟨fun t₁ e₁ => Kept.trans (a := 1332314843335822992124146305075827196817724943087491329622017) (t := s) ?_ hw₀ h₀⟩; refine KeptR.keep (?_ : KeptR 1332314843335822992124146305075827196817724943087491329622017 s (execPckKeyErase slot s)) t₁ e₁; clear e₁ t₁
  clear h₀ hw₀
  unfold execPckKeyErase; try dsimp only
  repeat' first | (with_reducible first | assumption | exact Kept.refl _ _ | refine KeptR.next ?_ | exact KeptR.fault | exact KeptR.refused | refine KeptR.ite ?_ ?_ | refine Kept.ite ?_ ?_ | refine State.eraseKey_kept ?_ ?_ | apply State.raiseBit_kept | refine State.updPack_kept ?_ ?_ | refine State.wrs_kept ?_ ?_ ?_) | (show Nat.testBit _ _ = true; rfl) | (show subMask _ _ = true; rfl) | exact inFam_PCK_KEY_CMD | exact inFam_PCK_STATUS | exact wrsOk_nil | apply wrsOk_cons | (intro _; try dsimp only) | split | dsimp only

theorem execKeyZeroize_kept {slot : Fin 64} {s : State} (hw₀ : subMask 44384376587918356619345083307102957096416090370664438769721192661557493885738456988455690200487596144516679404305349090735277801481 w₀ = true) (h₀ : Kept w₀ s₀ s) :
    KeptR w₀ s₀ (execKeyZeroize slot s) := by
  refine ⟨fun t₁ e₁ => Kept.trans (a := 44384376587918356619345083307102957096416090370664438769721192661557493885738456988455690200487596144516679404305349090735277801481) (t := s) ?_ hw₀ h₀⟩; refine KeptR.keep (?_ : KeptR 44384376587918356619345083307102957096416090370664438769721192661557493885738456988455690200487596144516679404305349090735277801481 s (execKeyZeroize slot s)) t₁ e₁; clear e₁ t₁
  clear h₀ hw₀
  unfold execKeyZeroize; try dsimp only
  repeat' first | (with_reducible first | assumption | exact Kept.refl _ _ | refine KeptR.next ?_ | exact KeptR.fault | exact KeptR.refused | refine KeptR.ite ?_ ?_ | refine Kept.ite ?_ ?_ | refine State.logEvent_kept ?_ ?_ | apply State.raiseBit_kept | refine State.setKey_kept ?_ ?_) | (show Nat.testBit _ _ = true; rfl) | (show subMask _ _ = true; rfl) | exact inFam_PCK_STATUS | exact wrsOk_nil | apply wrsOk_cons | (intro _; try dsimp only) | split | dsimp only

theorem execPckResPop_kept {s : State} (hw₀ : subMask 1231881215569636099902773674304504534160087255976066777415681 w₀ = true) (h₀ : Kept w₀ s₀ s) :
    KeptR w₀ s₀ (execPckResPop s) := by
  refine ⟨fun t₁ e₁ => Kept.trans (a := 1231881215569636099902773674304504534160087255976066777415681) (t := s) ?_ hw₀ h₀⟩; refine KeptR.keep (?_ : KeptR 1231881215569636099902773674304504534160087255976066777415681 s (execPckResPop s)) t₁ e₁; clear e₁ t₁
  clear h₀ hw₀
  unfold execPckResPop; try dsimp only
  repeat' first | (with_reducible first | assumption | exact Kept.refl _ _ | refine KeptR.next ?_ | exact KeptR.fault | exact KeptR.refused | refine KeptR.ite ?_ ?_ | refine Kept.ite ?_ ?_ | refine State.emit_kept ?_ ?_ | refine State.showPack_kept ?_ ?_ | refine State.updPack_kept ?_ ?_) | (show Nat.testBit _ _ = true; rfl) | (show subMask _ _ = true; rfl) | (intro _; try dsimp only) | split | dsimp only

end Sys2Proof.Machine
end

