-- ==== Sys2Proof/Laws/KeptQuayBase.lean ====
section
/-! SUPPORT. What the operations and meanings of Machine/QuayBase.lean keep (the relation Kept). -/

set_option Elab.async false

namespace Sys2Proof.Machine
open Reg
set_option linter.unusedVariables false
set_option linter.unusedTactic false
set_option linter.unreachableTactic false
set_option maxHeartbeats 400000

variable {w₀ : Nat} {s₀ : State}

theorem State.qportBit_kept {s : State} {p : Nat} {f : Nat → Fld} {i_ : Nat} (hf_ : inFam i_ (f p).addr) (hi_ : w₀.testBit (32 + i_) = true) (hw₀ : subMask 4194305 w₀ = true) (h₀ : Kept w₀ s₀ s) :
    Kept w₀ s₀ (State.qportBit s p f) := by
  unfold State.qportBit; try dsimp only
  repeat' first | (with_reducible first | assumption | exact Kept.refl _ _ | refine Kept.ite ?_ ?_ | apply State.raiseBit_kept) | exact hi_ | exact testBit_sub hw₀ rfl | exact subMask_trans rfl hw₀ | exact hf_ _ | exact hf_ | exact wrsOk_nil | apply wrsOk_cons | (intro _; try dsimp only) | split | dsimp only

theorem State.updQfb_kept {s : State} {f : QfbU → QfbU} (hw₀ : subMask 2097152 w₀ = true) (h₀ : Kept w₀ s₀ s) :
    Kept w₀ s₀ (State.updQfb s f) := by
  refine Kept.trans (a := 2097152) (t := s) ?_ hw₀ h₀
  clear h₀ hw₀
  unfold State.updQfb; try dsimp only
  repeat' first | (with_reducible first | assumption | exact Kept.refl _ _ | refine Kept.ite ?_ ?_) | (show Nat.testBit _ _ = true; rfl) | (show subMask _ _ = true; rfl) | (intro _; try dsimp only) | split | dsimp only | refine Kept.lit rfl (.inr rfl) rfl rfl rfl rfl (.inr rfl) (.inr rfl) (.inr rfl) (.inr rfl) (.inr rfl) (.inr rfl) (.inr rfl) (.inr rfl) (.inr rfl) (.inr rfl) (.inr rfl) (.inr rfl) (.inr rfl) (.inr rfl) (.inr rfl) (.inl rfl) (.inr rfl) (.inr rfl) (.inr rfl) ?_

theorem State.updQport_kept {s : State} {p : Nat} {f : QPortU → QPortU} (hw₀ : subMask 2097152 w₀ = true) (h₀ : Kept w₀ s₀ s) :
    Kept w₀ s₀ (State.updQport s p f) := by
  refine Kept.trans (a := 2097152) (t := s) ?_ hw₀ h₀
  clear h₀ hw₀
  unfold State.updQport; try dsimp only
  repeat' first | (with_reducible first | assumption | exact Kept.refl _ _ | refine Kept.ite ?_ ?_ | refine State.updQfb_kept ?_ ?_) | (show Nat.testBit _ _ = true; rfl) | (show subMask _ _ = true; rfl) | (intro _; try dsimp only) | split | dsimp only

theorem State.qEmit_kept {s : State} {p : Nat} {f : QFrame} (hw₀ : subMask 6291456 w₀ = true) (h₀ : Kept w₀ s₀ s) :
    Kept w₀ s₀ (State.qEmit s p f) := by
  refine Kept.trans (a := 6291456) (t := s) ?_ hw₀ h₀
  clear h₀ hw₀
  unfold State.qEmit; try dsimp only
  repeat' first | (with_reducible first | assumption | exact Kept.refl _ _ | refine Kept.ite ?_ ?_ | refine State.emit_kept ?_ ?_ | refine State.updQport_kept ?_ ?_) | (show Nat.testBit _ _ = true; rfl) | (show subMask _ _ = true; rfl) | (intro _; try dsimp only) | split | dsimp only

theorem State.qCtl_kept {s : State} {p typ : Nat} {payload : List Byte} (hw₀ : subMask 6291456 w₀ = true) (h₀ : Kept w₀ s₀ s) :
    Kept w₀ s₀ (State.qCtl s p typ payload) := by
  refine Kept.trans (a := 6291456) (t := s) ?_ hw₀ h₀
  clear h₀ hw₀
  unfold State.qCtl; try dsimp only
  repeat' first | (with_reducible first | assumption | exact Kept.refl _ _ | refine Kept.ite ?_ ?_ | refine State.qEmit_kept ?_ ?_) | (show Nat.testBit _ _ = true; rfl) | (show subMask _ _ = true; rfl) | (intro _; try dsimp only) | split | dsimp only

theorem State.showXfer_kept {s : State} (hw₀ : subMask 1260864198284623334792929283204595641762551656654894293374345388935863096687910739565256520156317300505812095689818113 w₀ = true) (h₀ : Kept w₀ s₀ s) :
    Kept w₀ s₀ (State.showXfer s) := by
  refine Kept.trans (a := 1260864198284623334792929283204595641762551656654894293374345388935863096687910739565256520156317300505812095689818113) (t := s) ?_ hw₀ h₀
  clear h₀ hw₀
  unfold State.showXfer; try dsimp only
  repeat' first | (with_reducible first | assumption | exact Kept.refl _ _ | refine Kept.ite ?_ ?_ | refine State.wrs_kept ?_ ?_ ?_) | (show Nat.testBit _ _ = true; rfl) | (show subMask _ _ = true; rfl) | exact inFam_QFB_XFER_STAT | exact wrsOk_nil | apply wrsOk_cons | (intro _; try dsimp only) | split | dsimp only

theorem State.dropXout_kept {s : State} {xid : Nat} (hw₀ : subMask 1260864198284623334792929283204595641762551656654894293374345388935863096687910739565256520156317300505812095691915265 w₀ = true) (h₀ : Kept w₀ s₀ s) :
    Kept w₀ s₀ (State.dropXout s xid) := by
  refine Kept.trans (a := 1260864198284623334792929283204595641762551656654894293374345388935863096687910739565256520156317300505812095691915265) (t := s) ?_ hw₀ h₀
  clear h₀ hw₀
  unfold State.dropXout; try dsimp only
  repeat' first | (with_reducible first | assumption | exact Kept.refl _ _ | refine Kept.ite ?_ ?_ | refine State.showXfer_kept ?_ ?_ | refine State.updQfb_kept ?_ ?_) | (show Nat.testBit _ _ = true; rfl) | (show subMask _ _ = true; rfl) | (intro _; try dsimp only) | split | dsimp only

theorem State.freeSlot_kept {s : State} {p cls : Nat} (hw₀ : subMask 2097152 w₀ = true) (h₀ : Kept w₀ s₀ s) :
    Kept w₀ s₀ (State.freeSlot s p cls) := by
  refine Kept.trans (a := 2097152) (t := s) ?_ hw₀ h₀
  clear h₀ hw₀
  unfold State.freeSlot; try dsimp only
  repeat' first | (with_reducible first | assumption | exact Kept.refl _ _ | refine Kept.ite ?_ ?_ | refine State.updQport_kept ?_ ?_) | (show Nat.testBit _ _ = true; rfl) | (show subMask _ _ = true; rfl) | (intro _; try dsimp only) | split | dsimp only

theorem State.qPump_kept {s : State} {p : Nat} {x0_ : Nat} (hw₀ : subMask 6291456 w₀ = true) (h₀ : Kept w₀ s₀ s) :
    Kept w₀ s₀ (State.qPump s p x0_) := by
  refine Kept.trans (a := 6291456) (t := s) ?_ hw₀ h₀
  clear h₀ hw₀
  induction x0_ generalizing s p with
  | zero =>
    unfold State.qPump; try dsimp only
    repeat' first | (with_reducible first | assumption | exact Kept.refl _ _ | refine Kept.ite ?_ ?_ | refine State.freeSlot_kept ?_ ?_ | refine State.qEmit_kept ?_ ?_ | refine State.updQport_kept ?_ ?_ | refine Kept.trans ih ?_ ?_) | (show Nat.testBit _ _ = true; rfl) | (show subMask _ _ = true; rfl) | (intro _; try dsimp only) | split | dsimp only
  | succ n_ ih =>
    unfold State.qPump; try dsimp only
    repeat' first | (with_reducible first | assumption | exact Kept.refl _ _ | refine Kept.ite ?_ ?_ | refine State.freeSlot_kept ?_ ?_ | refine State.qEmit_kept ?_ ?_ | refine State.updQport_kept ?_ ?_ | refine Kept.trans ih ?_ ?_) | (show Nat.testBit _ _ = true; rfl) | (show subMask _ _ = true; rfl) | (intro _; try dsimp only) | split | dsimp only

theorem State.qQueue_kept {s : State} {f : QFrame} {inp : Option Nat} (hw₀ : subMask 6291456 w₀ = true) (h₀ : Kept w₀ s₀ s) :
    Kept w₀ s₀ (State.qQueue s f inp) := by
  refine Kept.trans (a := 6291456) (t := s) ?_ hw₀ h₀
  clear h₀ hw₀
  unfold State.qQueue; try dsimp only
  repeat' first | (with_reducible first | assumption | exact Kept.refl _ _ | refine Kept.ite ?_ ?_ | refine State.qPump_kept ?_ ?_ | refine State.updQport_kept ?_ ?_) | (show Nat.testBit _ _ = true; rfl) | (show subMask _ _ = true; rfl) | (intro _; try dsimp only) | split | dsimp only

theorem State.qSend_kept {s : State} {dst cls typ xid ofs : Nat} {payload : List Byte} (hw₀ : subMask 6291456 w₀ = true) (h₀ : Kept w₀ s₀ s) :
    Kept w₀ s₀ (State.qSend s dst cls typ xid ofs payload) := by
  refine Kept.trans (a := 6291456) (t := s) ?_ hw₀ h₀
  clear h₀ hw₀
  unfold State.qSend; try dsimp only
  repeat' first | (with_reducible first | assumption | exact Kept.refl _ _ | refine Kept.ite ?_ ?_ | refine State.qQueue_kept ?_ ?_ | refine State.updQfb_kept ?_ ?_) | (show Nat.testBit _ _ = true; rfl) | (show subMask _ _ = true; rfl) | (intro _; try dsimp only) | split | dsimp only

theorem State.qCommit_kept {s : State} {dst cls xid : Nat} {data : List Byte} (hw₀ : subMask 6291456 w₀ = true) (h₀ : Kept w₀ s₀ s) :
    Kept w₀ s₀ (State.qCommit s dst cls xid data) := by
  refine Kept.trans (a := 6291456) (t := s) ?_ hw₀ h₀
  clear h₀ hw₀
  unfold State.qCommit; try dsimp only
  repeat' first | (with_reducible first | assumption | exact Kept.refl _ _ | refine Kept.ite ?_ ?_ | refine State.qSend_kept ?_ ?_) | (show Nat.testBit _ _ = true; rfl) | (show subMask _ _ = true; rfl) | (intro _; try dsimp only) | split | dsimp only

theorem State.updXout_kept {s : State} {xid : Nat} {f : XOut → XOut} (hw₀ : subMask 2097152 w₀ = true) (h₀ : Kept w₀ s₀ s) :
    Kept w₀ s₀ (State.updXout s xid f) := by
  refine Kept.trans (a := 2097152) (t := s) ?_ hw₀ h₀
  clear h₀ hw₀
  unfold State.updXout; try dsimp only
  repeat' first | (with_reducible first | assumption | exact Kept.refl _ _ | refine Kept.ite ?_ ?_ | refine State.updQfb_kept ?_ ?_) | (show Nat.testBit _ _ = true; rfl) | (show subMask _ _ = true; rfl) | (intro _; try dsimp only) | split | dsimp only

theorem State.openXfer_kept {s : State} {work : XWork} {dst cls : Nat} {typ : Nat} {payload : List Byte} (hw₀ : subMask 1260864198284623334792929283204595641762551656654894293374345388935863096687910739565256520156317300505812095696109569 w₀ = true) (h₀ : Kept w₀ s₀ s) :
    ∀ p, State.openXfer s work dst cls typ payload = some p → Kept w₀ s₀ p.1 := by
  intro p hp; refine Kept.trans (a := 1260864198284623334792929283204595641762551656654894293374345388935863096687910739565256520156317300505812095696109569) (t := s) ?_ hw₀ h₀
  clear h₀ hw₀
  unfold State.openXfer at hp; try dsimp only at hp
  repeat' first | (cases hp; done) | split at hp
  all_goals (cases hp)
  all_goals (repeat' first | (with_reducible first | assumption | exact Kept.refl _ _ | refine Kept.ite ?_ ?_ | refine State.qSend_kept ?_ ?_ | refine State.showXfer_kept ?_ ?_ | refine State.updQfb_kept ?_ ?_) | (show Nat.testBit _ _ = true; rfl) | (show subMask _ _ = true; rfl) | (intro _; try dsimp only) | split | dsimp only)

theorem State.qPumpAll_kept {s : State} (hw₀ : subMask 6291456 w₀ = true) (h₀ : Kept w₀ s₀ s) :
    Kept w₀ s₀ (State.qPumpAll s) := by
  refine Kept.trans (a := 6291456) (t := s) ?_ hw₀ h₀
  clear h₀ hw₀
  unfold State.qPumpAll; try dsimp only
  repeat' first | (with_reducible first | assumption | exact Kept.refl _ _ | refine Kept.ite ?_ ?_ | refine State.forEach_kept ?_ ?_ | refine State.qPump_kept ?_ ?_) | (show Nat.testBit _ _ = true; rfl) | (show subMask _ _ = true; rfl) | (intro _; try dsimp only) | split | dsimp only

theorem State.qfbBit_kept {s : State} {f : Fld} {i_ : Nat} (hf_ : inFam i_ f.addr) (hi_ : w₀.testBit (32 + i_) = true) (hw₀ : subMask 4194305 w₀ = true) (h₀ : Kept w₀ s₀ s) :
    Kept w₀ s₀ (State.qfbBit s f) := by
  unfold State.qfbBit; try dsimp only
  repeat' first | (with_reducible first | assumption | exact Kept.refl _ _ | refine Kept.ite ?_ ?_ | apply State.raiseBit_kept) | exact hi_ | exact testBit_sub hw₀ rfl | exact subMask_trans rfl hw₀ | exact hf_ _ | exact hf_ | exact wrsOk_nil | apply wrsOk_cons | (intro _; try dsimp only) | split | dsimp only

theorem State.qResult_kept {s : State} {dst cls xid status : Nat} {retry noXfer : Bool} {lba : Nat} (hw₀ : subMask 6291456 w₀ = true) (h₀ : Kept w₀ s₀ s) :
    Kept w₀ s₀ (State.qResult s dst cls xid status retry noXfer lba) := by
  refine Kept.trans (a := 6291456) (t := s) ?_ hw₀ h₀
  clear h₀ hw₀
  unfold State.qResult; try dsimp only
  repeat' first | (with_reducible first | assumption | exact Kept.refl _ _ | refine Kept.ite ?_ ?_ | refine State.qSend_kept ?_ ?_) | (show Nat.testBit _ _ = true; rfl) | (show subMask _ _ = true; rfl) | (intro _; try dsimp only) | split | dsimp only

theorem State.qSendData_kept {s : State} {dst cls xid : Nat} {x0_ : Nat} {x1_ : Nat} {x2_ : List Byte} (hw₀ : subMask 6291456 w₀ = true) (h₀ : Kept w₀ s₀ s) :
    Kept w₀ s₀ (State.qSendData s dst cls xid x0_ x1_ x2_) := by
  refine Kept.trans (a := 6291456) (t := s) ?_ hw₀ h₀
  clear h₀ hw₀
  induction x0_ generalizing s dst cls xid x1_ x2_ with
  | zero =>
    unfold State.qSendData; try dsimp only
    repeat' first | (with_reducible first | assumption | exact Kept.refl _ _ | refine Kept.ite ?_ ?_ | refine State.qSend_kept ?_ ?_ | refine Kept.trans ih ?_ ?_) | (show Nat.testBit _ _ = true; rfl) | (show subMask _ _ = true; rfl) | (intro _; try dsimp only) | split | dsimp only
  | succ n_ ih =>
    unfold State.qSendData; try dsimp only
    repeat' first | (with_reducible first | assumption | exact Kept.refl _ _ | refine Kept.ite ?_ ?_ | refine State.qSend_kept ?_ ?_ | refine Kept.trans ih ?_ ?_) | (show Nat.testBit _ _ = true; rfl) | (show subMask _ _ = true; rfl) | (intro _; try dsimp only) | split | dsimp only

end Sys2Proof.Machine
end

