-- ==== Sys2Proof/Laws/KeptLighter.lean ====
section
/-! SUPPORT. What the operations and meanings of Machine/Lighter.lean keep (the relation Kept). -/

set_option Elab.async false

namespace Sys2Proof.Machine
open Reg
set_option linter.unusedVariables false
set_option linter.unusedTactic false
set_option linter.unreachableTactic false
set_option maxHeartbeats 400000

variable {w₀ : Nat} {s₀ : State}

theorem State.commitPeer_kept {s : State} {n : Nat} (hw₀ : subMask 6291456 w₀ = true) (h₀ : Kept w₀ s₀ s) :
    Kept w₀ s₀ (State.commitPeer s n) := by
  refine Kept.trans (a := 6291456) (t := s) ?_ hw₀ h₀
  clear h₀ hw₀
  unfold State.commitPeer; try dsimp only
  repeat' first | (with_reducible first | assumption | exact Kept.refl _ _ | refine Kept.ite ?_ ?_ | refine State.qCommit_kept ?_ ?_ | refine State.updXout_kept ?_ ?_) | (show Nat.testBit _ _ = true; rfl) | (show subMask _ _ = true; rfl) | (intro _; try dsimp only) | split | dsimp only

theorem State.updLgt_kept {s : State} {f : LgtU → LgtU} (hw₀ : subMask 32768 w₀ = true) (h₀ : Kept w₀ s₀ s) :
    Kept w₀ s₀ (State.updLgt s f) := by
  refine Kept.trans (a := 32768) (t := s) ?_ hw₀ h₀
  clear h₀ hw₀
  unfold State.updLgt; try dsimp only
  repeat' first | (with_reducible first | assumption | exact Kept.refl _ _ | refine Kept.ite ?_ ?_) | (show Nat.testBit _ _ = true; rfl) | (show subMask _ _ = true; rfl) | (intro _; try dsimp only) | split | dsimp only | refine Kept.lit rfl (.inr rfl) rfl rfl rfl rfl (.inr rfl) (.inr rfl) (.inr rfl) (.inr rfl) (.inr rfl) (.inr rfl) (.inr rfl) (.inr rfl) (.inr rfl) (.inl rfl) (.inr rfl) (.inr rfl) (.inr rfl) (.inr rfl) (.inr rfl) (.inr rfl) (.inr rfl) (.inr rfl) (.inr rfl) ?_

theorem State.updCh_kept {s : State} {n : Nat} {f : LgtCh → LgtCh} (hw₀ : subMask 32896 w₀ = true) (h₀ : Kept w₀ s₀ s) :
    Kept w₀ s₀ (State.updCh s n f) := by
  refine Kept.trans (a := 32896) (t := s) ?_ hw₀ h₀
  clear h₀ hw₀
  unfold State.updCh; try dsimp only
  repeat' first | (with_reducible first | assumption | exact Kept.refl _ _ | refine Kept.ite ?_ ?_ | refine State.updLgt_kept ?_ ?_) | (show Nat.testBit _ _ = true; rfl) | (show subMask _ _ = true; rfl) | (intro _; try dsimp only) | split | dsimp only | refine Kept.lit rfl (.inr rfl) rfl rfl rfl rfl (.inr rfl) (.inl rfl) (.inr rfl) (.inr rfl) (.inr rfl) (.inr rfl) (.inr rfl) (.inr rfl) (.inr rfl) (.inl rfl) (.inr rfl) (.inr rfl) (.inr rfl) (.inr rfl) (.inr rfl) (.inr rfl) (.inr rfl) (.inr rfl) (.inr rfl) ?_

theorem State.updRecs_kept {s : State} {n : Nat} {f : List LRec → List LRec} (hw₀ : subMask 32896 w₀ = true) (h₀ : Kept w₀ s₀ s) :
    Kept w₀ s₀ (State.updRecs s n f) := by
  refine Kept.trans (a := 32896) (t := s) ?_ hw₀ h₀
  clear h₀ hw₀
  unfold State.updRecs; try dsimp only
  repeat' first | (with_reducible first | assumption | exact Kept.refl _ _ | refine Kept.ite ?_ ?_ | refine State.updCh_kept ?_ ?_) | (show Nat.testBit _ _ = true; rfl) | (show subMask _ _ = true; rfl) | (intro _; try dsimp only) | split | dsimp only

theorem State.issueFlushes_kept {s : State} {n : Nat} (hw₀ : subMask 4227200 w₀ = true) (h₀ : Kept w₀ s₀ s) :
    Kept w₀ s₀ (State.issueFlushes s n) := by
  refine Kept.trans (a := 4227200) (t := s) ?_ hw₀ h₀
  clear h₀ hw₀
  unfold State.issueFlushes; try dsimp only
  repeat' first | (with_reducible first | assumption | exact Kept.refl _ _ | refine Kept.ite ?_ ?_ | refine State.emit_kept ?_ ?_ | refine State.forEach_kept ?_ ?_ | refine State.updRecs_kept ?_ ?_) | (show Nat.testBit _ _ = true; rfl) | (show subMask _ _ = true; rfl) | (intro _; try dsimp only) | split | dsimp only

theorem State.openPeer_kept {s : State} {n : Nat} (hw₀ : subMask 1260864198284623334792929283204595641762551656654894293374345388935863096687910739565256520156317300505812095696142465 w₀ = true) (h₀ : Kept w₀ s₀ s) : Kept w₀ s₀ (State.openPeer s n) := by
  refine Kept.trans (a := 1260864198284623334792929283204595641762551656654894293374345388935863096687910739565256520156317300505812095696142465) (t := s) ?_ hw₀ h₀
  unfold State.openPeer
  split
  · exact Kept.refl _ _
  · split
    · exact Kept.refl _ _
    · split
      · exact State.updRecs_kept rfl (Kept.refl _ _)
      · dsimp only
        split
        · exact Kept.refl _ _
        · rename_i e
          split at e
          · exact State.updRecs_kept rfl (State.updXout_kept rfl (State.openXfer_kept rfl (Kept.refl _ _) _ e))
          · exact State.updRecs_kept rfl (State.updXout_kept rfl (State.openXfer_kept rfl (Kept.refl _ _) _ e))

theorem State.showLgt_kept {s : State} {n : Nat} (hw₀ : subMask 85395110283893042592626807878518308865 w₀ = true) (h₀ : Kept w₀ s₀ s) :
    Kept w₀ s₀ (State.showLgt s n) := by
  refine Kept.trans (a := 85395110283893042592626807878518308865) (t := s) ?_ hw₀ h₀
  clear h₀ hw₀
  unfold State.showLgt; try dsimp only
  repeat' first | (with_reducible first | assumption | exact Kept.refl _ _ | refine Kept.ite ?_ ?_ | apply State.wr_kept | refine State.wrs_kept ?_ ?_ ?_) | (show Nat.testBit _ _ = true; rfl) | (show subMask _ _ = true; rfl) | exact inFam_LGT_A_ATTR | exact inFam_LGT_A_BUF | exact inFam_LGT_A_COUNT | exact inFam_LGT_A_FAR_HI | exact inFam_LGT_A_FAR_LO | exact inFam_LGT_BUSY | exact inFam_LGT_CTRL | exact wrsOk_nil | apply wrsOk_cons | (intro _; try dsimp only) | split | dsimp only

theorem State.promote_kept {s : State} {n : Nat} (hw₀ : subMask 90712022267032706084242036119639720065 w₀ = true) (h₀ : Kept w₀ s₀ s) :
    Kept w₀ s₀ (State.promote s n) := by
  refine Kept.trans (a := 90712022267032706084242036119639720065) (t := s) ?_ hw₀ h₀
  clear h₀ hw₀
  unfold State.promote; try dsimp only
  repeat' first | (with_reducible first | assumption | exact Kept.refl _ _ | refine Kept.ite ?_ ?_ | apply State.clr_kept | refine State.showLgt_kept ?_ ?_ | refine State.updCh_kept ?_ ?_) | (show Nat.testBit _ _ = true; rfl) | (show subMask _ _ = true; rfl) | exact inFam_LGT_S_ATTR | exact wrsOk_nil | apply wrsOk_cons | (intro _; try dsimp only) | split | dsimp only

theorem State.reportRec_kept {s : State} {n : Nat} {r : LRec} (hw₀ : subMask 1260864198284623334792929283204595641762551656654894293374345388935863096687911420135182658891779054883557455562276865 w₀ = true) (h₀ : Kept w₀ s₀ s) :
    Kept w₀ s₀ (State.reportRec s n r) := by
  refine Kept.trans (a := 1260864198284623334792929283204595641762551656654894293374345388935863096687911420135182658891779054883557455562276865) (t := s) ?_ hw₀ h₀
  clear h₀ hw₀
  unfold State.reportRec; try dsimp only
  repeat' first | (with_reducible first | assumption | exact Kept.refl _ _ | refine Kept.ite ?_ ?_ | refine State.dropXout_kept ?_ ?_ | apply State.inc_kept | refine State.irqIf_kept ?_ ?_ | refine State.qSend_kept ?_ ?_ | apply State.setB_kept | refine State.updCmd_kept ?_ ?_ | refine State.when_kept ?_ ?_ | refine State.wrs_kept ?_ ?_ ?_) | (show Nat.testBit _ _ = true; rfl) | (show subMask _ _ = true; rfl) | exact inFam_LGT_REC_CNT | exact inFam_LGT_STATUS | exact wrsOk_nil | apply wrsOk_cons | (intro _; try dsimp only) | split | dsimp only

theorem State.settleLgt_kept {s : State} {n : Nat} {x0_ : Nat} (hw₀ : subMask 1260864198284623334792929283204595641762551656654894293374345388935863096687911510847204925924485139125593575201996929 w₀ = true) (h₀ : Kept w₀ s₀ s) :
    Kept w₀ s₀ (State.settleLgt s n x0_) := by
  refine Kept.trans (a := 1260864198284623334792929283204595641762551656654894293374345388935863096687911510847204925924485139125593575201996929) (t := s) ?_ hw₀ h₀
  clear h₀ hw₀
  induction x0_ generalizing s n with
  | zero =>
    unfold State.settleLgt; try dsimp only
    repeat' first | (with_reducible first | assumption | exact Kept.refl _ _ | refine Kept.ite ?_ ?_ | refine State.commitPeer_kept ?_ ?_ | refine State.issueFlushes_kept ?_ ?_ | refine State.openPeer_kept ?_ ?_ | refine State.promote_kept ?_ ?_ | refine State.reportRec_kept ?_ ?_ | refine State.showLgt_kept ?_ ?_ | refine State.updRecs_kept ?_ ?_ | refine Kept.trans ih ?_ ?_) | (show Nat.testBit _ _ = true; rfl) | (show subMask _ _ = true; rfl) | (intro _; try dsimp only) | split | dsimp only
  | succ n_ ih =>
    unfold State.settleLgt; try dsimp only
    repeat' first | (with_reducible first | assumption | exact Kept.refl _ _ | refine Kept.ite ?_ ?_ | refine State.commitPeer_kept ?_ ?_ | refine State.issueFlushes_kept ?_ ?_ | refine State.openPeer_kept ?_ ?_ | refine State.promote_kept ?_ ?_ | refine State.reportRec_kept ?_ ?_ | refine State.showLgt_kept ?_ ?_ | refine State.updRecs_kept ?_ ?_ | refine Kept.trans ih ?_ ?_) | (show Nat.testBit _ _ = true; rfl) | (show subMask _ _ = true; rfl) | (intro _; try dsimp only) | split | dsimp only

theorem State.stopRecs_kept {s : State} {tag : Nat} (hw₀ : subMask 1260864198284623334792929283204595641762551656654894293374345388935863096687911510847204925924485139125593575201996929 w₀ = true) (h₀ : Kept w₀ s₀ s) :
    Kept w₀ s₀ (State.stopRecs s tag) := by
  refine Kept.trans (a := 1260864198284623334792929283204595641762551656654894293374345388935863096687911510847204925924485139125593575201996929) (t := s) ?_ hw₀ h₀
  clear h₀ hw₀
  unfold State.stopRecs; try dsimp only
  repeat' first | (with_reducible first | assumption | exact Kept.refl _ _ | refine Kept.ite ?_ ?_ | refine State.forEach_kept ?_ ?_ | refine State.settleLgt_kept ?_ ?_ | refine State.updCmd_kept ?_ ?_ | refine State.updRecs_kept ?_ ?_ | refine State.when_kept ?_ ?_) | (show Nat.testBit _ _ = true; rfl) | (show subMask _ _ = true; rfl) | (intro _; try dsimp only) | split | dsimp only

theorem State.fenceLgt_kept {s : State} {n : Lgt} (hw₀ : subMask 1260864198284623334792929283204595641762551656654894293374345388935863096687917125506259121409132284806616199377485961 w₀ = true) (h₀ : Kept w₀ s₀ s) :
    Kept w₀ s₀ (State.fenceLgt s n) := by
  refine Kept.trans (a := 1260864198284623334792929283204595641762551656654894293374345388935863096687917125506259121409132284806616199377485961) (t := s) ?_ hw₀ h₀
  clear h₀ hw₀
  unfold State.fenceLgt; try dsimp only
  repeat' first | (with_reducible first | assumption | exact Kept.refl _ _ | refine Kept.ite ?_ ?_ | refine State.markFenced_kept ?_ ?_ | refine State.settleLgt_kept ?_ ?_ | refine State.updCh_kept ?_ ?_ | refine State.updRecs_kept ?_ ?_ | apply State.wr_kept | refine State.wrs_kept ?_ ?_ ?_) | (show Nat.testBit _ _ = true; rfl) | (show subMask _ _ = true; rfl) | exact inFam_LGT_CTRL | exact inFam_LGT_FENCED | exact inFam_LGT_GSTATUS | exact inFam_LGT_STATUS | exact inFam_LGT_S_ATTR | exact wrsOk_nil | apply wrsOk_cons | (intro _; try dsimp only) | split | dsimp only

theorem State.programRec_kept {s : State} {n tag prio : Nat} {ns stream : Bool} {l : LSpec} (hw₀ : subMask 1260864198284623334792929283204595641762551656654894293374345388935863096687911515831809910117919662514870051253289089 w₀ = true) (h₀ : Kept w₀ s₀ s) :
    Kept w₀ s₀ (State.programRec s n tag prio ns stream l) := by
  refine Kept.trans (a := 1260864198284623334792929283204595641762551656654894293374345388935863096687911515831809910117919662514870051253289089) (t := s) ?_ hw₀ h₀
  clear h₀ hw₀
  unfold State.programRec; try dsimp only
  repeat' first | (with_reducible first | assumption | exact Kept.refl _ _ | refine Kept.ite ?_ ?_ | refine State.promote_kept ?_ ?_ | refine State.settleLgt_kept ?_ ?_ | refine State.updCh_kept ?_ ?_ | refine State.wrs_kept ?_ ?_ ?_) | (show Nat.testBit _ _ = true; rfl) | (show subMask _ _ = true; rfl) | exact inFam_LGT_S_ATTR | exact inFam_LGT_S_BUF | exact inFam_LGT_S_COUNT | exact inFam_LGT_S_FAR_HI | exact inFam_LGT_S_FAR_LO | exact wrsOk_nil | apply wrsOk_cons | (intro _; try dsimp only) | split | dsimp only

theorem State.programRecs_kept {s : State} {tag : Nat} {ns stream : Bool} {x0_ : Nat} (hw₀ : subMask 1260864198284623334792929283204595641762551656654894293374345388935863096687911515831809910117919662514870051253289089 w₀ = true) (h₀ : Kept w₀ s₀ s) :
    Kept w₀ s₀ (State.programRecs s tag ns stream x0_) := by
  refine Kept.trans (a := 1260864198284623334792929283204595641762551656654894293374345388935863096687911515831809910117919662514870051253289089) (t := s) ?_ hw₀ h₀
  clear h₀ hw₀
  induction x0_ generalizing s tag ns stream with
  | zero =>
    unfold State.programRecs; try dsimp only
    repeat' first | (with_reducible first | assumption | exact Kept.refl _ _ | refine Kept.ite ?_ ?_ | refine State.programRec_kept ?_ ?_ | refine State.updCmd_kept ?_ ?_ | refine Kept.trans ih ?_ ?_) | (show Nat.testBit _ _ = true; rfl) | (show subMask _ _ = true; rfl) | (intro _; try dsimp only) | split | dsimp only
  | succ n_ ih =>
    unfold State.programRecs; try dsimp only
    repeat' first | (with_reducible first | assumption | exact Kept.refl _ _ | refine Kept.ite ?_ ?_ | refine State.programRec_kept ?_ ?_ | refine State.updCmd_kept ?_ ?_ | refine Kept.trans ih ?_ ?_) | (show Nat.testBit _ _ = true; rfl) | (show subMask _ _ = true; rfl) | (intro _; try dsimp only) | split | dsimp only

theorem execLgtArm_kept {w : Initiator} {n : Lgt} {s : State} (hw₀ : subMask 1260864198284623334792929283204595641762551656654894293374345388935863096687911510847204925924485139125598248126414981 w₀ = true) (h₀ : Kept w₀ s₀ s) :
    KeptR w₀ s₀ (execLgtArm w n s) := by
  refine ⟨fun t₁ e₁ => Kept.trans (a := 1260864198284623334792929283204595641762551656654894293374345388935863096687911510847204925924485139125598248126414981) (t := s) ?_ hw₀ h₀⟩; refine KeptR.keep (?_ : KeptR 1260864198284623334792929283204595641762551656654894293374345388935863096687911510847204925924485139125598248126414981 s (execLgtArm w n s)) t₁ e₁; clear e₁ t₁
  clear h₀ hw₀
  unfold execLgtArm; try dsimp only
  repeat' first | (with_reducible first | assumption | exact Kept.refl _ _ | refine KeptR.next ?_ | exact KeptR.fault | exact KeptR.refused | refine KeptR.ite ?_ ?_ | refine Kept.ite ?_ ?_ | refine State.openPeer_kept ?_ ?_ | refine State.promote_kept ?_ ?_ | refine State.refuseW_kept ?_ ?_ | apply State.setB_kept | refine State.settleLgt_kept ?_ ?_) | (show Nat.testBit _ _ = true; rfl) | (show subMask _ _ = true; rfl) | exact inFam_LGT_STATUS | exact inFam_LGT_S_ATTR | exact wrsOk_nil | apply wrsOk_cons | (intro _; try dsimp only) | split | dsimp only

theorem execLgtStop_kept {n : Lgt} {s : State} (hw₀ : subMask 1260864198284623334792929283204595641762551656654894293374345388935863096687911510847204925924485139125593575201996929 w₀ = true) (h₀ : Kept w₀ s₀ s) :
    KeptR w₀ s₀ (execLgtStop n s) := by
  refine ⟨fun t₁ e₁ => Kept.trans (a := 1260864198284623334792929283204595641762551656654894293374345388935863096687911510847204925924485139125593575201996929) (t := s) ?_ hw₀ h₀⟩; refine KeptR.keep (?_ : KeptR 1260864198284623334792929283204595641762551656654894293374345388935863096687911510847204925924485139125593575201996929 s (execLgtStop n s)) t₁ e₁; clear e₁ t₁
  clear h₀ hw₀
  unfold execLgtStop; try dsimp only
  repeat' first | (with_reducible first | assumption | exact Kept.refl _ _ | refine KeptR.next ?_ | exact KeptR.fault | exact KeptR.refused | refine KeptR.ite ?_ ?_ | refine Kept.ite ?_ ?_ | apply State.clr_kept | apply State.setB_kept | refine State.settleLgt_kept ?_ ?_ | refine State.updCh_kept ?_ ?_ | refine State.updRecs_kept ?_ ?_) | (show Nat.testBit _ _ = true; rfl) | (show subMask _ _ = true; rfl) | exact inFam_LGT_CTRL | exact inFam_LGT_STATUS | exact inFam_LGT_S_ATTR | exact wrsOk_nil | apply wrsOk_cons | (intro _; try dsimp only) | split | dsimp only

theorem State.issueBurst_kept {s : State} {n : Nat} {r : LRec} (hw₀ : subMask 44384713757731871763589207486774700033120374772764031638184406308126848246420176735497546956447210395007430521264230181272276861081 w₀ = true) (h₀ : Kept w₀ s₀ s) :
    Kept w₀ s₀ (State.issueBurst s n r) := by
  refine Kept.trans (a := 44384713757731871763589207486774700033120374772764031638184406308126848246420176735497546956447210395007430521264230181272276861081) (t := s) ?_ hw₀ h₀
  clear h₀ hw₀
  unfold State.issueBurst; try dsimp only
  repeat' first | (with_reducible first | assumption | exact Kept.refl _ _ | refine Kept.ite ?_ ?_ | refine State.emit_kept ?_ ?_ | refine State.readAny_kept ?_ ?_ | refine State.updRecs_kept ?_ ?_ | refine State.readAny_keptp (by assumption) ?_ ?_) | (show Nat.testBit _ _ = true; rfl) | (show subMask _ _ = true; rfl) | (intro _; try dsimp only) | split | dsimp only

theorem execLgtBurstIssue_kept {lines : BitVec 16} {s : State} (hw₀ : subMask 44384713757733132627787492110109492962403579368405794189841061202420222591809112598594234876635257956417285824719408264357564022937 w₀ = true) (h₀ : Kept w₀ s₀ s) :
    KeptR w₀ s₀ (execLgtBurstIssue lines s) := by
  refine ⟨fun t₁ e₁ => Kept.trans (a := 44384713757733132627787492110109492962403579368405794189841061202420222591809112598594234876635257956417285824719408264357564022937) (t := s) ?_ hw₀ h₀⟩; refine KeptR.keep (?_ : KeptR 44384713757733132627787492110109492962403579368405794189841061202420222591809112598594234876635257956417285824719408264357564022937 s (execLgtBurstIssue lines s)) t₁ e₁; clear e₁ t₁
  clear h₀ hw₀
  unfold execLgtBurstIssue; try dsimp only
  repeat' first | (with_reducible first | assumption | exact Kept.refl _ _ | refine KeptR.next ?_ | exact KeptR.fault | exact KeptR.refused | refine KeptR.ite ?_ ?_ | refine Kept.ite ?_ ?_ | refine State.fenceLgt_kept ?_ ?_ | refine State.forEach_kept ?_ ?_ | apply State.inc_kept | refine State.issueBurst_kept ?_ ?_ | refine State.openPeer_kept ?_ ?_ | refine State.raiseSrc_kept ?_ ?_ | refine State.settleLgt_kept ?_ ?_ | refine State.showLgt_kept ?_ ?_ | refine State.updCh_kept ?_ ?_ | refine State.updLgt_kept ?_ ?_ | refine State.when_kept ?_ ?_ | apply State.wr_kept | refine State.wrs_kept ?_ ?_ ?_) | (show Nat.testBit _ _ = true; rfl) | (show subMask _ _ = true; rfl) | exact inFam_LGT_CTRL | exact inFam_LGT_PREEMPT_CNT | exact inFam_LGT_PREQ | exact wrsOk_nil | apply wrsOk_cons | (intro _; try dsimp only) | split | dsimp only

theorem State.validPages_kept {s : State} {r : LRec} {b : LBurst} (hw₀ : subMask 16 w₀ = true) (h₀ : Kept w₀ s₀ s) :
    Kept w₀ s₀ (State.validPages s r b) := by
  refine Kept.trans (a := 16) (t := s) ?_ hw₀ h₀
  clear h₀ hw₀
  unfold State.validPages; try dsimp only
  repeat' first | (with_reducible first | assumption | exact Kept.refl _ _ | refine Kept.ite ?_ ?_ | refine State.markValid_kept ?_ ?_ | refine State.when_kept ?_ ?_) | (show Nat.testBit _ _ = true; rfl) | (show subMask _ _ = true; rfl) | (intro _; try dsimp only) | split | dsimp only

theorem State.countMoved_kept {s : State} {n : Nat} (hw₀ : subMask 1361129467683753853853498429727072878593 w₀ = true) (h₀ : Kept w₀ s₀ s) :
    Kept w₀ s₀ (State.countMoved s n) := by
  refine Kept.trans (a := 1361129467683753853853498429727072878593) (t := s) ?_ hw₀ h₀
  clear h₀ hw₀
  unfold State.countMoved; try dsimp only
  repeat' first | (with_reducible first | assumption | exact Kept.refl _ _ | refine Kept.ite ?_ ?_ | apply State.addC_kept | refine State.updLgt_kept ?_ ?_) | (show Nat.testBit _ _ = true; rfl) | (show subMask _ _ = true; rfl) | exact inFam_LGT_BYTE_CNT | exact wrsOk_nil | apply wrsOk_cons | (intro _; try dsimp only) | split | dsimp only

theorem State.takeBurst_kept {s : State} {n i : Nat} {r : LRec} {b : LBurst} (hw₀ : subMask 161390617380431786853494948250188242145606612051826469551916209783790476378907093188965704965940701913116243881306915001 w₀ = true) (h₀ : Kept w₀ s₀ s) :
    Kept w₀ s₀ (State.takeBurst s n i r b) := by
  refine Kept.trans (a := 161390617380431786853494948250188242145606612051826469551916209783790476378907093188965704965940701913116243881306915001) (t := s) ?_ hw₀ h₀
  clear h₀ hw₀
  unfold State.takeBurst; try dsimp only
  repeat' first | (with_reducible first | assumption | exact Kept.refl _ _ | refine Kept.ite ?_ ?_ | refine State.countMoved_kept ?_ ?_ | refine State.hostPut_kept ?_ ?_ | refine State.qSendData_kept ?_ ?_ | refine State.updRecs_kept ?_ ?_ | refine State.updXout_kept ?_ ?_ | refine State.validPages_kept ?_ ?_ | refine State.writeAny_kept ?_ ?_ | refine State.writeAny_keptp (by assumption) ?_ ?_) | (show Nat.testBit _ _ = true; rfl) | (show subMask _ _ = true; rfl) | (intro _; try dsimp only) | split | dsimp only

theorem State.takeBursts_kept {s : State} {n i : Nat} {x0_ : Nat} (hw₀ : subMask 161390617380431786853494948250188242145606612051826469551916209783790476378907093188965704965940701913116243881306915001 w₀ = true) (h₀ : Kept w₀ s₀ s) :
    Kept w₀ s₀ (State.takeBursts s n i x0_) := by
  refine Kept.trans (a := 161390617380431786853494948250188242145606612051826469551916209783790476378907093188965704965940701913116243881306915001) (t := s) ?_ hw₀ h₀
  clear h₀ hw₀
  induction x0_ generalizing s n i with
  | zero =>
    unfold State.takeBursts; try dsimp only
    repeat' first | (with_reducible first | assumption | exact Kept.refl _ _ | refine Kept.ite ?_ ?_ | refine State.takeBurst_kept ?_ ?_ | refine Kept.trans ih ?_ ?_) | (show Nat.testBit _ _ = true; rfl) | (show subMask _ _ = true; rfl) | (intro _; try dsimp only) | split | dsimp only
  | succ n_ ih =>
    unfold State.takeBursts; try dsimp only
    repeat' first | (with_reducible first | assumption | exact Kept.refl _ _ | refine Kept.ite ?_ ?_ | refine State.takeBurst_kept ?_ ?_ | refine Kept.trans ih ?_ ?_) | (show Nat.testBit _ _ = true; rfl) | (show subMask _ _ = true; rfl) | (intro _; try dsimp only) | split | dsimp only

theorem State.answerBurst_kept {s : State} {n k : Nat} {ans : FarAns} (hw₀ : subMask 162651481578716410188287877533392837787369163708481363845290555172726339475595004699812909891865187052241837456502587577 w₀ = true) (h₀ : Kept w₀ s₀ s) :
    Kept w₀ s₀ (State.answerBurst s n k ans) := by
  refine Kept.trans (a := 162651481578716410188287877533392837787369163708481363845290555172726339475595004699812909891865187052241837456502587577) (t := s) ?_ hw₀ h₀
  clear h₀ hw₀
  unfold State.answerBurst; try dsimp only
  repeat' first | (with_reducible first | assumption | exact Kept.refl _ _ | refine Kept.ite ?_ ?_ | refine State.settleLgt_kept ?_ ?_ | refine State.takeBursts_kept ?_ ?_ | refine State.updRecs_kept ?_ ?_) | (show Nat.testBit _ _ = true; rfl) | (show subMask _ _ = true; rfl) | (intro _; try dsimp only) | split | dsimp only

theorem execLgtBurstResponse_kept {n : Lgt} {k : Fin 16} {ans : FarAns} {s : State} (hw₀ : subMask 162651481578716410188287877533392837787369163708481363845290555172726339475595004699812909891865187052241837456502587577 w₀ = true) (h₀ : Kept w₀ s₀ s) :
    KeptR w₀ s₀ (execLgtBurstResponse n k ans s) := by
  refine ⟨fun t₁ e₁ => Kept.trans (a := 162651481578716410188287877533392837787369163708481363845290555172726339475595004699812909891865187052241837456502587577) (t := s) ?_ hw₀ h₀⟩; refine KeptR.keep (?_ : KeptR 162651481578716410188287877533392837787369163708481363845290555172726339475595004699812909891865187052241837456502587577 s (execLgtBurstResponse n k ans s)) t₁ e₁; clear e₁ t₁
  clear h₀ hw₀
  unfold execLgtBurstResponse; try dsimp only
  repeat' first | (with_reducible first | assumption | exact Kept.refl _ _ | refine KeptR.next ?_ | exact KeptR.fault | exact KeptR.refused | refine KeptR.ite ?_ ?_ | refine Kept.ite ?_ ?_ | refine State.answerBurst_kept ?_ ?_) | (show Nat.testBit _ _ = true; rfl) | (show subMask _ _ = true; rfl) | (intro _; try dsimp only) | split | dsimp only

theorem State.flushDone_kept {s : State} {n : Nat} {ok : Bool} (hw₀ : subMask 1260864198284623334792929283204595641762551656654894293374345388935863096687911510847204925924485139125593575201996929 w₀ = true) (h₀ : Kept w₀ s₀ s) :
    Kept w₀ s₀ (State.flushDone s n ok) := by
  refine Kept.trans (a := 1260864198284623334792929283204595641762551656654894293374345388935863096687911510847204925924485139125593575201996929) (t := s) ?_ hw₀ h₀
  clear h₀ hw₀
  unfold State.flushDone; try dsimp only
  repeat' first | (with_reducible first | assumption | exact Kept.refl _ _ | refine Kept.ite ?_ ?_ | refine State.settleLgt_kept ?_ ?_ | refine State.updRecs_kept ?_ ?_) | (show Nat.testBit _ _ = true; rfl) | (show subMask _ _ = true; rfl) | (intro _; try dsimp only) | split | dsimp only

theorem execLgtFlushReadDone_kept {n : Lgt} {ok : Bool} {s : State} (hw₀ : subMask 1260864198284623334792929283204595641762551656654894293374345388935863096687911510847204925924485139125593575201996929 w₀ = true) (h₀ : Kept w₀ s₀ s) :
    KeptR w₀ s₀ (execLgtFlushReadDone n ok s) := by
  refine ⟨fun t₁ e₁ => Kept.trans (a := 1260864198284623334792929283204595641762551656654894293374345388935863096687911510847204925924485139125593575201996929) (t := s) ?_ hw₀ h₀⟩; refine KeptR.keep (?_ : KeptR 1260864198284623334792929283204595641762551656654894293374345388935863096687911510847204925924485139125593575201996929 s (execLgtFlushReadDone n ok s)) t₁ e₁; clear e₁ t₁
  clear h₀ hw₀
  unfold execLgtFlushReadDone; try dsimp only
  repeat' first | (with_reducible first | assumption | exact Kept.refl _ _ | refine KeptR.next ?_ | exact KeptR.fault | exact KeptR.refused | refine KeptR.ite ?_ ?_ | refine Kept.ite ?_ ?_ | refine State.flushDone_kept ?_ ?_) | (show Nat.testBit _ _ = true; rfl) | (show subMask _ _ = true; rfl) | (intro _; try dsimp only) | split | dsimp only

theorem execHostCompletionTimeout_kept {n : Lgt} {k : Option (Fin 16)} {s : State} (hw₀ : subMask 162651481578716410188287877533392837787369163708481363845290555172726339475595004699812909891865187052241837456502587577 w₀ = true) (h₀ : Kept w₀ s₀ s) :
    KeptR w₀ s₀ (execHostCompletionTimeout n k s) := by
  refine ⟨fun t₁ e₁ => Kept.trans (a := 162651481578716410188287877533392837787369163708481363845290555172726339475595004699812909891865187052241837456502587577) (t := s) ?_ hw₀ h₀⟩; refine KeptR.keep (?_ : KeptR 162651481578716410188287877533392837787369163708481363845290555172726339475595004699812909891865187052241837456502587577 s (execHostCompletionTimeout n k s)) t₁ e₁; clear e₁ t₁
  clear h₀ hw₀
  unfold execHostCompletionTimeout; try dsimp only
  repeat' first | (with_reducible first | assumption | exact Kept.refl _ _ | refine KeptR.next ?_ | exact KeptR.fault | exact KeptR.refused | refine KeptR.ite ?_ ?_ | refine Kept.ite ?_ ?_ | refine State.answerBurst_kept ?_ ?_ | refine State.emit_kept ?_ ?_ | refine State.flushDone_kept ?_ ?_) | (show Nat.testBit _ _ = true; rfl) | (show subMask _ _ = true; rfl) | (intro _; try dsimp only) | split | dsimp only

theorem State.lgtHostLost_kept {s : State} (hw₀ : subMask 1260864198284623334792929283204595641762551656654894293374345388935863096687911510847204925924485139125593575201996929 w₀ = true) (h₀ : Kept w₀ s₀ s) :
    Kept w₀ s₀ (State.lgtHostLost s) := by
  refine Kept.trans (a := 1260864198284623334792929283204595641762551656654894293374345388935863096687911510847204925924485139125593575201996929) (t := s) ?_ hw₀ h₀
  clear h₀ hw₀
  unfold State.lgtHostLost; try dsimp only
  repeat' first | (with_reducible first | assumption | exact Kept.refl _ _ | refine Kept.ite ?_ ?_ | refine State.forEach_kept ?_ ?_ | refine State.settleLgt_kept ?_ ?_ | refine State.updRecs_kept ?_ ?_ | refine State.when_kept ?_ ?_) | (show Nat.testBit _ _ = true; rfl) | (show subMask _ _ = true; rfl) | (intro _; try dsimp only) | split | dsimp only

theorem State.lgtReset_kept {s : State} (hw₀ : subMask 32896 w₀ = true) (h₀ : Kept w₀ s₀ s) :
    Kept w₀ s₀ (State.lgtReset s) := by
  refine Kept.trans (a := 32896) (t := s) ?_ hw₀ h₀
  clear h₀ hw₀
  unfold State.lgtReset; try dsimp only
  repeat' first | (with_reducible first | assumption | exact Kept.refl _ _ | refine Kept.ite ?_ ?_ | refine State.updLgt_kept ?_ ?_) | (show Nat.testBit _ _ = true; rfl) | (show subMask _ _ = true; rfl) | (intro _; try dsimp only) | split | dsimp only | refine Kept.lit rfl (.inr rfl) rfl rfl rfl rfl (.inr rfl) (.inl rfl) (.inr rfl) (.inr rfl) (.inr rfl) (.inr rfl) (.inr rfl) (.inr rfl) (.inr rfl) (.inl rfl) (.inr rfl) (.inr rfl) (.inr rfl) (.inr rfl) (.inr rfl) (.inr rfl) (.inr rfl) (.inr rfl) (.inr rfl) ?_

end Sys2Proof.Machine
end

