-- ==== Sys2Proof/Laws/KeptCmdOps.lean ====
section
/-! SUPPORT. What the operations and meanings of Machine/CmdOps.lean keep (the relation Kept). -/

set_option Elab.async false

namespace Sys2Proof.Machine
open Reg
set_option linter.unusedVariables false
set_option linter.unusedTactic false
set_option linter.unreachableTactic false
set_option maxHeartbeats 400000

variable {w₀ : Nat} {s₀ : State}

theorem State.cmdEnd_kept {s : State} {tag st : Nat} (hw₀ : subMask 524288 w₀ = true) (h₀ : Kept w₀ s₀ s) :
    Kept w₀ s₀ (State.cmdEnd s tag st) := by
  refine Kept.trans (a := 524288) (t := s) ?_ hw₀ h₀
  clear h₀ hw₀
  unfold State.cmdEnd; try dsimp only
  repeat' first | (with_reducible first | assumption | exact Kept.refl _ _ | refine Kept.ite ?_ ?_ | refine State.updCmd_kept ?_ ?_) | (show Nat.testBit _ _ = true; rfl) | (show subMask _ _ = true; rfl) | (intro _; try dsimp only) | split | dsimp only

theorem State.dropDecodes_kept {s : State} {tag : Nat} (hw₀ : subMask 1809251394333065553493296640760748560207343510400633813116524750123643175169 w₀ = true) (h₀ : Kept w₀ s₀ s) :
    Kept w₀ s₀ (State.dropDecodes s tag) := by
  refine Kept.trans (a := 1809251394333065553493296640760748560207343510400633813116524750123643175169) (t := s) ?_ hw₀ h₀
  clear h₀ hw₀
  unfold State.dropDecodes; try dsimp only
  repeat' first | (with_reducible first | assumption | exact Kept.refl _ _ | refine Kept.ite ?_ ?_ | refine State.forEach_kept ?_ ?_ | refine State.releaseBuf_kept ?_ ?_ | refine State.showDeep_kept ?_ ?_ | refine State.updDec_kept ?_ ?_ | refine State.updSec_kept ?_ ?_) | (show Nat.testBit _ _ = true; rfl) | (show subMask _ _ = true; rfl) | (intro _; try dsimp only) | split | dsimp only

theorem State.dropWork_kept {s : State} {tag : Nat} (hw₀ : subMask 1260864198284623334792929283204595641762553465906288626442738093811190945479464193694199944174131552297317837455336321 w₀ = true) (h₀ : Kept w₀ s₀ s) :
    Kept w₀ s₀ (State.dropWork s tag) := by
  refine Kept.trans (a := 1260864198284623334792929283204595641762553465906288626442738093811190945479464193694199944174131552297317837455336321) (t := s) ?_ hw₀ h₀
  clear h₀ hw₀
  unfold State.dropWork; try dsimp only
  repeat' first | (with_reducible first | assumption | exact Kept.refl _ _ | refine Kept.ite ?_ ?_ | refine State.dropDecodes_kept ?_ ?_ | refine State.dropJobs_kept ?_ ?_ | refine State.dropXout_kept ?_ ?_ | refine State.forEach_kept ?_ ?_ | refine State.qSend_kept ?_ ?_ | refine State.stopRecs_kept ?_ ?_ | refine State.unlist_kept ?_ ?_ | refine State.updCmd_kept ?_ ?_ | refine State.updSec_kept ?_ ?_) | (show Nat.testBit _ _ = true; rfl) | (show subMask _ _ = true; rfl) | (intro _; try dsimp only) | split | dsimp only

theorem State.showLocks_kept {s : State} (hw₀ : subMask 2535301200456458802993406410753 w₀ = true) (h₀ : Kept w₀ s₀ s) :
    Kept w₀ s₀ (State.showLocks s) := by
  refine Kept.trans (a := 2535301200456458802993406410753) (t := s) ?_ hw₀ h₀
  clear h₀ hw₀
  unfold State.showLocks; try dsimp only
  repeat' first | (with_reducible first | assumption | exact Kept.refl _ _ | refine Kept.ite ?_ ?_ | refine State.wrs_kept ?_ ?_ ?_) | (show Nat.testBit _ _ = true; rfl) | (show subMask _ _ = true; rfl) | exact inFam_SCH_LOCK_USE | exact wrsOk_nil | apply wrsOk_cons | (intro _; try dsimp only) | split | dsimp only

theorem State.updSch_kept {s : State} {f : SchU → SchU} (hw₀ : subMask 1048576 w₀ = true) (h₀ : Kept w₀ s₀ s) :
    Kept w₀ s₀ (State.updSch s f) := by
  refine Kept.trans (a := 1048576) (t := s) ?_ hw₀ h₀
  clear h₀ hw₀
  unfold State.updSch; try dsimp only
  repeat' first | (with_reducible first | assumption | exact Kept.refl _ _ | refine Kept.ite ?_ ?_) | (show Nat.testBit _ _ = true; rfl) | (show subMask _ _ = true; rfl) | (intro _; try dsimp only) | split | dsimp only | refine Kept.lit rfl (.inr rfl) rfl rfl rfl rfl (.inr rfl) (.inr rfl) (.inr rfl) (.inr rfl) (.inr rfl) (.inr rfl) (.inr rfl) (.inr rfl) (.inr rfl) (.inr rfl) (.inr rfl) (.inr rfl) (.inr rfl) (.inr rfl) (.inl rfl) (.inr rfl) (.inr rfl) (.inr rfl) (.inr rfl) ?_

theorem State.dropLocks_kept {s : State} {tag : Nat} (hw₀ : subMask 2535301200456458802993407459329 w₀ = true) (h₀ : Kept w₀ s₀ s) :
    Kept w₀ s₀ (State.dropLocks s tag) := by
  refine Kept.trans (a := 2535301200456458802993407459329) (t := s) ?_ hw₀ h₀
  clear h₀ hw₀
  unfold State.dropLocks; try dsimp only
  repeat' first | (with_reducible first | assumption | exact Kept.refl _ _ | refine Kept.ite ?_ ?_ | refine State.showLocks_kept ?_ ?_ | refine State.updSch_kept ?_ ?_) | (show Nat.testBit _ _ = true; rfl) | (show subMask _ _ = true; rfl) | (intro _; try dsimp only) | split | dsimp only

theorem State.dropPages_kept {s : State} {tag : Nat} (hw₀ : subMask 44384713757731871763589207486774700033120374772764031638184406308126848246420176735557563836962755934537088523065495084175247147037 w₀ = true) (h₀ : Kept w₀ s₀ s) :
    Kept w₀ s₀ (State.dropPages s tag) := by
  refine Kept.trans (a := 44384713757731871763589207486774700033120374772764031638184406308126848246420176735557563836962755934537088523065495084175247147037) (t := s) ?_ hw₀ h₀
  clear h₀ hw₀
  unfold State.dropPages; try dsimp only
  repeat' first | (with_reducible first | assumption | exact Kept.refl _ _ | refine Kept.ite ?_ ?_ | refine State.releasePages_kept ?_ ?_ | refine State.updCmd_kept ?_ ?_) | (show Nat.testBit _ _ = true; rfl) | (show subMask _ _ = true; rfl) | (intro _; try dsimp only) | split | dsimp only

theorem State.portPage_kept {s : State} {port p n : Nat} (hw₀ : subMask 44384713757731871763589207486774700033120374772764031638184406308126848246420176735497546956447210395007430521264230181272276828185 w₀ = true) (h₀ : Kept w₀ s₀ s) :
    Kept w₀ s₀ (State.portPage s port p n).1 := by
  refine Kept.trans (a := 44384713757731871763589207486774700033120374772764031638184406308126848246420176735497546956447210395007430521264230181272276828185) (t := s) ?_ hw₀ h₀
  clear h₀ hw₀
  unfold State.portPage; try dsimp only
  repeat' first | (with_reducible first | assumption | exact Kept.refl _ _ | refine Kept.ite ?_ ?_ | refine State.readAny_kept ?_ ?_ | refine State.readAny_keptp (by assumption) ?_ ?_) | (show Nat.testBit _ _ = true; rfl) | (show subMask _ _ = true; rfl) | (intro _; try dsimp only) | split | dsimp only
theorem State.portPage_keptp {s : State} {port p n : Nat} {a₀ : State} {b₀ : List Byte × Bool} (e₀ : State.portPage s port p n = (a₀, b₀)) (hw₀ : subMask 44384713757731871763589207486774700033120374772764031638184406308126848246420176735497546956447210395007430521264230181272276828185 w₀ = true) (h₀ : Kept w₀ s₀ s) : Kept w₀ s₀ a₀ := by
  have g : Kept w₀ s₀ (State.portPage s port p n).1 := State.portPage_kept hw₀ h₀; rw [e₀] at g; exact g

theorem State.fillPage_kept {s : State} {port tag i : Nat} {bs : List Byte} (hw₀ : subMask 161390617380431786853494948250188242145606612051826469551916209783790476378907091827836237282186848059617814154231939097 w₀ = true) (h₀ : Kept w₀ s₀ s) :
    Kept w₀ s₀ (State.fillPage s port tag i bs) := by
  refine Kept.trans (a := 161390617380431786853494948250188242145606612051826469551916209783790476378907091827836237282186848059617814154231939097) (t := s) ?_ hw₀ h₀
  clear h₀ hw₀
  unfold State.fillPage; try dsimp only
  repeat' first | (with_reducible first | assumption | exact Kept.refl _ _ | refine Kept.ite ?_ ?_ | refine State.markValid_kept ?_ ?_ | refine State.writePage_kept ?_ ?_ | refine State.writePage_keptp (by assumption) ?_ ?_) | (show Nat.testBit _ _ = true; rfl) | (show subMask _ _ = true; rfl) | (intro _; try dsimp only) | split | dsimp only

theorem State.settleWb_kept {s : State} (hw₀ : subMask 44384713757731871763589207486774700033120374772764031638184406308126848246420176735557563836962755937072389723521953887168654606365 w₀ = true) (h₀ : Kept w₀ s₀ s) :
    Kept w₀ s₀ (State.settleWb s) := by
  refine Kept.trans (a := 44384713757731871763589207486774700033120374772764031638184406308126848246420176735557563836962755937072389723521953887168654606365) (t := s) ?_ hw₀ h₀
  clear h₀ hw₀
  unfold State.settleWb; try dsimp only
  repeat' first | (with_reducible first | assumption | exact Kept.refl _ _ | refine Kept.ite ?_ ?_ | refine State.dropLocks_kept ?_ ?_ | refine State.dropPages_kept ?_ ?_ | refine State.forEach_kept ?_ ?_ | refine State.updSch_kept ?_ ?_) | (show Nat.testBit _ _ = true; rfl) | (show subMask _ _ = true; rfl) | (intro _; try dsimp only) | split | dsimp only | refine Kept.lit rfl (.inr rfl) rfl rfl rfl rfl (.inr rfl) (.inr rfl) (.inr rfl) (.inr rfl) (.inr rfl) (.inr rfl) (.inr rfl) (.inr rfl) (.inr rfl) (.inr rfl) (.inr rfl) (.inl rfl) (.inr rfl) (.inl rfl) (.inl rfl) (.inr rfl) (.inl rfl) (.inl rfl) (.inr rfl) ?_

theorem State.cmdEndAt_kept {s : State} {tag st lba : Nat} (hw₀ : subMask 524288 w₀ = true) (h₀ : Kept w₀ s₀ s) :
    Kept w₀ s₀ (State.cmdEndAt s tag st lba) := by
  refine Kept.trans (a := 524288) (t := s) ?_ hw₀ h₀
  clear h₀ hw₀
  unfold State.cmdEndAt; try dsimp only
  repeat' first | (with_reducible first | assumption | exact Kept.refl _ _ | refine Kept.ite ?_ ?_ | refine State.updCmd_kept ?_ ?_) | (show Nat.testBit _ _ = true; rfl) | (show subMask _ _ = true; rfl) | (intro _; try dsimp only) | split | dsimp only

theorem State.setZState_kept {s : State} {z : Nat} {st : ZState} (hw₀ : subMask 64 w₀ = true) (h₀ : Kept w₀ s₀ s) :
    Kept w₀ s₀ (State.setZState s z st) := by
  refine Kept.trans (a := 64) (t := s) ?_ hw₀ h₀
  clear h₀ hw₀
  unfold State.setZState; try dsimp only
  repeat' first | (with_reducible first | assumption | exact Kept.refl _ _ | refine Kept.ite ?_ ?_ | refine State.updZone_kept ?_ ?_) | (show Nat.testBit _ _ = true; rfl) | (show subMask _ _ = true; rfl) | (intro _; try dsimp only) | split | dsimp only

theorem State.roomToOpen_kept {s : State} {z : Nat} (hw₀ : subMask 64 w₀ = true) (h₀ : Kept w₀ s₀ s) :
    ∀ p, State.roomToOpen s z = some p → Kept w₀ s₀ p := by
  intro p hp; refine Kept.trans (a := 64) (t := s) ?_ hw₀ h₀
  clear h₀ hw₀
  unfold State.roomToOpen at hp; try dsimp only at hp
  repeat' first | (cases hp; done) | split at hp
  all_goals (cases hp)
  all_goals (repeat' first | (with_reducible first | assumption | exact Kept.refl _ _ | refine Kept.ite ?_ ?_ | refine State.setZState_kept ?_ ?_ | refine State.foldl_kept ?_ ?_) | (show Nat.testBit _ _ = true; rfl) | (show subMask _ _ = true; rfl) | (intro _; try dsimp only) | split | dsimp only)

theorem State.placeAppend_kept {s : State} {z n tag : Nat} (hw₀ : subMask 64 w₀ = true) (h₀ : Kept w₀ s₀ s) : ∀ p, State.placeAppend s z n tag = .ok p → Kept w₀ s₀ p := by
  intro p hp
  refine Kept.trans (a := 64) (t := s) ?_ hw₀ h₀
  unfold State.placeAppend at hp; dsimp only at hp
  split at hp
  · cases hp
  · split at hp
    · cases hp
    · split at hp
      · cases hp
      · rename_i e
        cases hp
        refine State.updMedia_kept rfl (State.updZone_kept rfl ?_)
        split at e
        · split at e
          · cases e
          · exact State.roomToOpen_kept rfl (Kept.refl _ _) _ e
        · exact State.roomToOpen_kept rfl (Kept.refl _ _) _ e
        · cases e; exact Kept.refl _ _

theorem State.planReads_kept {s : State} {tag lba n : Nat} (hw₀ : subMask 44384713757731871763589207486774700033120374772764031638184406308126848246420176735497546956447210395007430521264230181272277352473 w₀ = true) (h₀ : Kept w₀ s₀ s) :
    Kept w₀ s₀ (State.planReads s tag lba n) := by
  refine Kept.trans (a := 44384713757731871763589207486774700033120374772764031638184406308126848246420176735497546956447210395007430521264230181272277352473) (t := s) ?_ hw₀ h₀
  clear h₀ hw₀
  unfold State.planReads; try dsimp only
  repeat' first | (with_reducible first | assumption | exact Kept.refl _ _ | refine Kept.ite ?_ ?_ | refine State.fillPage_kept ?_ ?_ | refine State.forEach_kept ?_ ?_ | refine State.readAny_kept ?_ ?_ | refine State.updCmd_kept ?_ ?_ | refine State.readAny_keptp (by assumption) ?_ ?_) | (show Nat.testBit _ _ = true; rfl) | (show subMask _ _ = true; rfl) | (intro _; try dsimp only) | split | dsimp only

theorem State.allocFor_kept {s : State} {c : Cmd} {n m : Nat} (hw₀ : subMask 91349427519481065043515685974335850818872803345 w₀ = true) (h₀ : Kept w₀ s₀ s) : ∀ p, State.allocFor s c n m = some p → Kept w₀ s₀ p := by
  intro p hp
  refine Kept.trans (a := 91349427519481065043515685974335850818872803345) (t := s) ?_ hw₀ h₀
  unfold State.allocFor at hp
  extract_lets rsv at hp
  split at hp
  · injection hp with e; exact e ▸ Kept.refl _ _
  · split at hp
    · cases hp
    · split at hp
      · cases hp
      · rename_i t e
        have ht : Kept 91349427519481065043515685974335850818872803345 s t := by
          split at e
          · injection e with e; exact e ▸ Kept.refl _ _
          · exact State.allocPages_kept rfl (Kept.refl _ _) _ e
        split at hp
        · injection hp with e; exact e ▸ ht
        · split at hp
          · cases hp
          · obtain ⟨u, hu, rfl⟩ := Option.map_eq_some_iff.mp hp
            exact State.updCmd_kept rfl (State.allocPages_kept rfl ht _ hu)

theorem State.grantLocks_kept {s : State} {tag : Nat} (hw₀ : subMask 2535301200456458802993407459329 w₀ = true) (h₀ : Kept w₀ s₀ s) :
    Kept w₀ s₀ (State.grantLocks s tag) := by
  refine Kept.trans (a := 2535301200456458802993407459329) (t := s) ?_ hw₀ h₀
  clear h₀ hw₀
  unfold State.grantLocks; try dsimp only
  repeat' first | (with_reducible first | assumption | exact Kept.refl _ _ | refine Kept.ite ?_ ?_ | refine State.showLocks_kept ?_ ?_ | refine State.updSch_kept ?_ ?_) | (show Nat.testBit _ _ = true; rfl) | (show subMask _ _ = true; rfl) | (intro _; try dsimp only) | split | dsimp only

theorem State.hostGet_kept {s : State} {ns : Bool} {x0_ : Nat} {x1_ : Nat} {x2_ : Nat} (hw₀ : subMask 4194304 w₀ = true) (h₀ : Kept w₀ s₀ s) :
    Kept w₀ s₀ (State.hostGet s ns x0_ x1_ x2_) := by
  refine Kept.trans (a := 4194304) (t := s) ?_ hw₀ h₀
  clear h₀ hw₀
  induction x0_ generalizing s ns x1_ x2_ with
  | zero =>
    unfold State.hostGet; try dsimp only
    repeat' first | (with_reducible first | assumption | exact Kept.refl _ _ | refine Kept.ite ?_ ?_ | refine State.emit_kept ?_ ?_ | refine Kept.trans ih ?_ ?_) | (show Nat.testBit _ _ = true; rfl) | (show subMask _ _ = true; rfl) | (intro _; try dsimp only) | split | dsimp only
  | succ n_ ih =>
    unfold State.hostGet; try dsimp only
    repeat' first | (with_reducible first | assumption | exact Kept.refl _ _ | refine Kept.ite ?_ ?_ | refine State.emit_kept ?_ ?_ | refine Kept.trans ih ?_ ?_) | (show Nat.testBit _ _ = true; rfl) | (show subMask _ _ = true; rfl) | (intro _; try dsimp only) | split | dsimp only

theorem State.layLocks_kept {s : State} {c : Cmd} (hw₀ : subMask 2535301200456458802993407459329 w₀ = true) (h₀ : Kept w₀ s₀ s) :
    ∀ p, State.layLocks s c = some p → Kept w₀ s₀ p := by
  intro p hp; refine Kept.trans (a := 2535301200456458802993407459329) (t := s) ?_ hw₀ h₀
  clear h₀ hw₀
  unfold State.layLocks at hp; try dsimp only at hp
  repeat' first | (cases hp; done) | split at hp
  all_goals (cases hp)
  all_goals (repeat' first | (with_reducible first | assumption | exact Kept.refl _ _ | refine Kept.ite ?_ ?_ | refine State.showLocks_kept ?_ ?_ | refine State.updSch_kept ?_ ?_) | (show Nat.testBit _ _ = true; rfl) | (show subMask _ _ = true; rfl) | (intro _; try dsimp only) | split | dsimp only)

theorem State.sectorTrailer_kept {s : State} {port addr lba kind i n : Nat} {data : List Byte} (hw₀ : subMask 161390617380431786853494948250188242145606612051826469551916209783790476378907091827836237282186848059617814154231939129 w₀ = true) (h₀ : Kept w₀ s₀ s) :
    Kept w₀ s₀ (State.sectorTrailer s port addr lba kind i n data) := by
  refine Kept.trans (a := 161390617380431786853494948250188242145606612051826469551916209783790476378907091827836237282186848059617814154231939129) (t := s) ?_ hw₀ h₀
  clear h₀ hw₀
  unfold State.sectorTrailer; try dsimp only
  repeat' first | (with_reducible first | assumption | exact Kept.refl _ _ | refine Kept.ite ?_ ?_ | refine State.putTrailer_kept ?_ ?_) | (show Nat.testBit _ _ = true; rfl) | (show subMask _ _ = true; rfl) | (intro _; try dsimp only) | split | dsimp only

theorem State.planWrites_kept {s : State} {port tag map lba n kind stamp : Nat} (hw₀ : subMask 161390617380431786853494948250188242145606612051826469551916209783790476378907091827836237282186848059617814154232463417 w₀ = true) (h₀ : Kept w₀ s₀ s) :
    Kept w₀ s₀ (State.planWrites s port tag map lba n kind stamp) := by
  refine Kept.trans (a := 161390617380431786853494948250188242145606612051826469551916209783790476378907091827836237282186848059617814154232463417) (t := s) ?_ hw₀ h₀
  clear h₀ hw₀
  unfold State.planWrites; try dsimp only
  repeat' first | (with_reducible first | assumption | exact Kept.refl _ _ | refine Kept.ite ?_ ?_ | refine State.forEach_kept ?_ ?_ | refine State.sectorTrailer_kept ?_ ?_ | refine State.updCmd_kept ?_ ?_) | (show Nat.testBit _ _ = true; rfl) | (show subMask _ _ = true; rfl) | (intro _; try dsimp only) | split | dsimp only

theorem State.foldlOpt_kept {α : Type} {w : Nat} {s : State} {l : List α} {f : Option State → α → Option State} {o : Option State}
    (hf : ∀ o x t, (∀ u, o = some u → Kept w s u) → f o x = some t → Kept w s t) (ho : ∀ u, o = some u → Kept w s u) :
    ∀ u, l.foldl f o = some u → Kept w s u := by
  induction l generalizing o with
  | nil => exact ho
  | cons x l ih => rw [List.foldl_cons]; exact ih (fun t ht => hf o x t ho ht)

theorem State.toWriteBack_kept {s : State} {c : Cmd} {lba n kind : Nat} (hw₀ : subMask 44384713757731871763589207486774700033120374772764031638184406308126848246420176735497546956447210395007430521264230181272278401145 w₀ = true) (h₀ : Kept w₀ s₀ s) : ∀ p, State.toWriteBack s c lba n kind = some p → Kept w₀ s₀ p := by
  intro p hp
  refine Kept.trans (a := 44384713757731871763589207486774700033120374772764031638184406308126848246420176735497546956447210395007430521264230181272278401145) (t := s) ?_ hw₀ h₀
  unfold State.toWriteBack at hp
  split at hp
  · cases hp
  · extract_lets d t put at hp
    obtain ⟨u, hu, rfl⟩ := Option.map_eq_some_iff.mp hp
    refine State.updZone_kept rfl (State.updSch_kept rfl ?_)
    refine State.foldlOpt_kept ?_ ?_ u hu
    · intro o i t ho ht
      obtain ⟨t0, h0, h1⟩ := Option.bind_eq_some_iff.mp ht
      split at h1
      · extract_lets r t1 t2 t3 at h1
        injection h1 with h1
        rw [← h1]
        have k1 : Kept 44384713757731871763589207486774700033120374772764031638184406308126848246420176735497546956447210395007430521264230181272278401145 s t1 := State.writeAny_kept rfl (State.portPage_kept rfl (ho t0 h0))
        have k2 : Kept 44384713757731871763589207486774700033120374772764031638184406308126848246420176735497546956447210395007430521264230181272278401145 s t2 := State.sectorTrailer_kept rfl k1
        have k3 : Kept 44384713757731871763589207486774700033120374772764031638184406308126848246420176735497546956447210395007430521264230181272278401145 s t3 := State.updSch_kept rfl k2
        exact State.updCmd_kept rfl k3
      · cases h1
    · intro t ht
      injection ht with ht
      rw [← ht]
      exact Kept.lit rfl (.inr rfl) rfl rfl rfl rfl (.inr rfl) (.inr rfl) (.inr rfl) (.inr rfl) (.inr rfl) (.inr rfl) (.inr rfl) (.inr rfl) (.inr rfl)
        (.inr rfl) (.inr rfl) (.inr rfl) (.inr rfl) (.inl rfl) (.inr rfl) (.inr rfl) (.inr rfl) (.inr rfl) (.inr rfl) (Kept.refl _ _)

theorem State.unplaceFrom_kept {s : State} {z tag : Nat} (hw₀ : subMask 29642774844752946028434172162224104410437116074403984394101141506025761192550977 w₀ = true) (h₀ : Kept w₀ s₀ s) :
    Kept w₀ s₀ (State.unplaceFrom s z tag) := by
  refine Kept.trans (a := 29642774844752946028434172162224104410437116074403984394101141506025761192550977) (t := s) ?_ hw₀ h₀
  clear h₀ hw₀
  unfold State.unplaceFrom; try dsimp only
  repeat' first | (with_reducible first | assumption | exact Kept.refl _ _ | refine Kept.ite ?_ ?_ | refine State.unplace_kept ?_ ?_) | (show Nat.testBit _ _ = true; rfl) | (show subMask _ _ = true; rfl) | (intro _; try dsimp only) | split | dsimp only

theorem State.hostDataOut_kept {s : State} {c : Cmd} {ns : Bool} {x0_ : Nat} {x1_ : Nat} {x2_ : List Byte} (hw₀ : subMask 4194304 w₀ = true) (h₀ : Kept w₀ s₀ s) :
    Kept w₀ s₀ (State.hostDataOut s c ns x0_ x1_ x2_) := by
  refine Kept.trans (a := 4194304) (t := s) ?_ hw₀ h₀
  clear h₀ hw₀
  induction x0_ generalizing s c ns x1_ x2_ with
  | zero =>
    unfold State.hostDataOut; try dsimp only
    repeat' first | (with_reducible first | assumption | exact Kept.refl _ _ | refine Kept.ite ?_ ?_ | refine State.hostStore_kept ?_ ?_ | refine Kept.trans ih ?_ ?_) | (show Nat.testBit _ _ = true; rfl) | (show subMask _ _ = true; rfl) | (intro _; try dsimp only) | split | dsimp only
  | succ n_ ih =>
    unfold State.hostDataOut; try dsimp only
    repeat' first | (with_reducible first | assumption | exact Kept.refl _ _ | refine Kept.ite ?_ ?_ | refine State.hostStore_kept ?_ ?_ | refine Kept.trans ih ?_ ?_) | (show Nat.testBit _ _ = true; rfl) | (show subMask _ _ = true; rfl) | (intro _; try dsimp only) | split | dsimp only

theorem State.portPages_kept {s : State} {port tag : Nat} {x0_ : Nat} {x1_ : Nat} (hw₀ : subMask 44384713757731871763589207486774700033120374772764031638184406308126848246420176735497546956447210395007430521264230181272276828185 w₀ = true) (h₀ : Kept w₀ s₀ s) :
    Kept w₀ s₀ (State.portPages s port tag x0_ x1_).1 := by
  refine Kept.trans (a := 44384713757731871763589207486774700033120374772764031638184406308126848246420176735497546956447210395007430521264230181272276828185) (t := s) ?_ hw₀ h₀
  clear h₀ hw₀
  induction x0_ generalizing s port tag x1_ with
  | zero =>
    unfold State.portPages; try dsimp only
    repeat' first | (with_reducible first | assumption | exact Kept.refl _ _ | refine Kept.ite ?_ ?_ | refine State.portPage_kept ?_ ?_ | refine State.portPage_keptp (by assumption) ?_ ?_ | refine Kept.trans ih ?_ ?_) | (show Nat.testBit _ _ = true; rfl) | (show subMask _ _ = true; rfl) | (intro _; try dsimp only) | split | dsimp only
  | succ n_ ih =>
    unfold State.portPages; try dsimp only
    repeat' first | (with_reducible first | assumption | exact Kept.refl _ _ | refine Kept.ite ?_ ?_ | refine State.portPage_kept ?_ ?_ | refine State.portPage_keptp (by assumption) ?_ ?_ | refine Kept.trans ih ?_ ?_) | (show Nat.testBit _ _ = true; rfl) | (show subMask _ _ = true; rfl) | (intro _; try dsimp only) | split | dsimp only
theorem State.portPages_keptp {s : State} {port tag : Nat} {x0_ : Nat} {x1_ : Nat} {a₀ : State} {b₀ : List Byte × Bool} (e₀ : State.portPages s port tag x0_ x1_ = (a₀, b₀)) (hw₀ : subMask 44384713757731871763589207486774700033120374772764031638184406308126848246420176735497546956447210395007430521264230181272276828185 w₀ = true) (h₀ : Kept w₀ s₀ s) : Kept w₀ s₀ a₀ := by
  have g : Kept w₀ s₀ (State.portPages s port tag x0_ x1_).1 := State.portPages_kept hw₀ h₀; rw [e₀] at g; exact g

end Sys2Proof.Machine
end

