-- ==== Sys2Proof/Laws/KeptBerth.lean ====
section
/-! SUPPORT. What the operations and meanings of Machine/Berth.lean keep (the relation Kept). -/

set_option Elab.async false

namespace Sys2Proof.Machine
open Reg
set_option linter.unusedVariables false
set_option linter.unusedTactic false
set_option linter.unreachableTactic false
set_option maxHeartbeats 400000

variable {w₀ : Nat} {s₀ : State}

theorem State.forget_kept {s : State} {tag : Nat} (hw₀ : subMask 44384713757731871763589207486774700033120374772764031638184406308126848246420176735557563836962755937072389723521953887168654606365 w₀ = true) (h₀ : Kept w₀ s₀ s) :
    Kept w₀ s₀ (State.forget s tag) := by
  refine Kept.trans (a := 44384713757731871763589207486774700033120374772764031638184406308126848246420176735557563836962755937072389723521953887168654606365) (t := s) ?_ hw₀ h₀
  clear h₀ hw₀
  unfold State.forget; try dsimp only
  repeat' first | (with_reducible first | assumption | exact Kept.refl _ _ | refine Kept.ite ?_ ?_ | refine State.dropLocks_kept ?_ ?_ | refine State.dropPages_kept ?_ ?_) | (show Nat.testBit _ _ = true; rfl) | (show subMask _ _ = true; rfl) | (intro _; try dsimp only) | split | dsimp only | refine Kept.lit rfl (.inr rfl) rfl rfl rfl rfl (.inr rfl) (.inr rfl) (.inr rfl) (.inr rfl) (.inr rfl) (.inr rfl) (.inr rfl) (.inr rfl) (.inr rfl) (.inr rfl) (.inr rfl) (.inl rfl) (.inr rfl) (.inl rfl) (.inl rfl) (.inr rfl) (.inl rfl) (.inl rfl) (.inr rfl) ?_

theorem State.updBq_kept {s : State} {f : BqU → BqU} (hw₀ : subMask 262144 w₀ = true) (h₀ : Kept w₀ s₀ s) :
    Kept w₀ s₀ (State.updBq s f) := by
  refine Kept.trans (a := 262144) (t := s) ?_ hw₀ h₀
  clear h₀ hw₀
  unfold State.updBq; try dsimp only
  repeat' first | (with_reducible first | assumption | exact Kept.refl _ _ | refine Kept.ite ?_ ?_) | (show Nat.testBit _ _ = true; rfl) | (show subMask _ _ = true; rfl) | (intro _; try dsimp only) | split | dsimp only | refine Kept.lit rfl (.inr rfl) rfl rfl rfl rfl (.inr rfl) (.inr rfl) (.inr rfl) (.inr rfl) (.inr rfl) (.inr rfl) (.inr rfl) (.inr rfl) (.inr rfl) (.inr rfl) (.inr rfl) (.inr rfl) (.inl rfl) (.inr rfl) (.inr rfl) (.inr rfl) (.inr rfl) (.inr rfl) (.inr rfl) ?_

theorem State.updRing_kept {s : State} {r : Nat} {f : RingU → RingU} (hw₀ : subMask 262144 w₀ = true) (h₀ : Kept w₀ s₀ s) :
    Kept w₀ s₀ (State.updRing s r f) := by
  refine Kept.trans (a := 262144) (t := s) ?_ hw₀ h₀
  clear h₀ hw₀
  unfold State.updRing; try dsimp only
  repeat' first | (with_reducible first | assumption | exact Kept.refl _ _ | refine Kept.ite ?_ ?_ | refine State.updBq_kept ?_ ?_) | (show Nat.testBit _ _ = true; rfl) | (show subMask _ _ = true; rfl) | (intro _; try dsimp only) | split | dsimp only

theorem State.setRing_kept {s : State} {r st : Nat} (hw₀ : subMask 930306197125320107360257 w₀ = true) (h₀ : Kept w₀ s₀ s) :
    Kept w₀ s₀ (State.setRing s r st) := by
  refine Kept.trans (a := 930306197125320107360257) (t := s) ?_ hw₀ h₀
  clear h₀ hw₀
  unfold State.setRing; try dsimp only
  repeat' first | (with_reducible first | assumption | exact Kept.refl _ _ | refine Kept.ite ?_ ?_ | refine State.updRing_kept ?_ ?_ | apply State.wr_kept | refine State.wrs_kept ?_ ?_ ?_) | (show Nat.testBit _ _ = true; rfl) | (show subMask _ _ = true; rfl) | exact inFam_BQ_CTRL | exact inFam_BQ_ENABLED | exact inFam_BQ_FROZEN | exact inFam_BQ_STATE | exact wrsOk_nil | apply wrsOk_cons | (intro _; try dsimp only) | split | dsimp only

theorem State.clearMarks_kept {s : State} {r : Nat} (hw₀ : subMask 77371252455336267181457409 w₀ = true) (h₀ : Kept w₀ s₀ s) :
    Kept w₀ s₀ (State.clearMarks s r) := by
  refine Kept.trans (a := 77371252455336267181457409) (t := s) ?_ hw₀ h₀
  clear h₀ hw₀
  unfold State.clearMarks; try dsimp only
  repeat' first | (with_reducible first | assumption | exact Kept.refl _ _ | refine Kept.ite ?_ ?_ | refine State.updBq_kept ?_ ?_ | apply State.wr_kept) | (show Nat.testBit _ _ = true; rfl) | (show subMask _ _ = true; rfl) | exact inFam_BQ_MARKS | exact wrsOk_nil | apply wrsOk_cons | (intro _; try dsimp only) | split | dsimp only

theorem State.deleteRing_kept {s : State} {r : Nat} (hw₀ : subMask 78315651964933901386121217 w₀ = true) (h₀ : Kept w₀ s₀ s) : Kept w₀ s₀ (State.deleteRing s r) := by
  refine Kept.trans (a := 78315651964933901386121217) (t := s) ?_ hw₀ h₀
  unfold State.deleteRing; dsimp only
  refine State.updRing_kept rfl (State.updLink_kept rfl ?_)
  simp only [List.foldl_cons, List.foldl_nil]
  exact (State.setFam_kept inFam_BQ_INDEX rfl rfl (State.setFam_kept inFam_BQ_STATE rfl rfl (State.setFam_kept inFam_BQ_DOORBELL rfl rfl (State.setFam_kept inFam_BQ_CFG rfl rfl (State.setFam_kept inFam_BQ_RES_HI rfl rfl (State.setFam_kept inFam_BQ_RES_LO rfl rfl (State.setFam_kept inFam_BQ_BASE_HI rfl rfl (State.setFam_kept inFam_BQ_BASE_LO rfl rfl (State.clearMarks_kept rfl (State.setRing_kept rfl (Kept.refl _ _)))))))))))

theorem State.bqBit_kept {s : State} {f : Fld} {v : Bool} {i_ : Nat} (hf_ : inFam i_ f.addr) (hi_ : w₀.testBit (32 + i_) = true) (hw₀ : subMask 4325377 w₀ = true) (h₀ : Kept w₀ s₀ s) :
    Kept w₀ s₀ (State.bqBit s f v) := by
  unfold State.bqBit; try dsimp only
  repeat' first | (with_reducible first | assumption | exact Kept.refl _ _ | refine Kept.ite ?_ ?_ | refine State.msixSend_kept ?_ ?_ | apply State.setB_kept | refine State.when_kept ?_ ?_ | apply State.wr_kept) | exact hi_ | exact testBit_sub hw₀ rfl | exact subMask_trans rfl hw₀ | exact hf_ _ | exact hf_ | exact wrsOk_nil | apply wrsOk_cons | (intro _; try dsimp only) | split | dsimp only

theorem State.showTags_kept {s : State} (hw₀ : subMask 188894659314785812873217 w₀ = true) (h₀ : Kept w₀ s₀ s) :
    Kept w₀ s₀ (State.showTags s) := by
  refine Kept.trans (a := 188894659314785812873217) (t := s) ?_ hw₀ h₀
  clear h₀ hw₀
  unfold State.showTags; try dsimp only
  repeat' first | (with_reducible first | assumption | exact Kept.refl _ _ | refine Kept.ite ?_ ?_ | apply State.bqBit_kept | refine State.wrs_kept ?_ ?_ ?_) | (show Nat.testBit _ _ = true; rfl) | (show subMask _ _ = true; rfl) | exact inFam_BQ_INFLIGHT | exact inFam_BQ_STATUS | exact wrsOk_nil | apply wrsOk_cons | (intro _; try dsimp only) | split | dsimp only

theorem State.createRing_kept {s : State} {r cls weight flags depth base res : Nat} (hw₀ : subMask 944399509597634204794881 w₀ = true) (h₀ : Kept w₀ s₀ s) :
    Kept w₀ s₀ (State.createRing s r cls weight flags depth base res) := by
  refine Kept.trans (a := 944399509597634204794881) (t := s) ?_ hw₀ h₀
  clear h₀ hw₀
  unfold State.createRing; try dsimp only
  repeat' first | (with_reducible first | assumption | exact Kept.refl _ _ | refine Kept.ite ?_ ?_ | refine State.setRing_kept ?_ ?_ | refine State.updRing_kept ?_ ?_ | refine State.wrs_kept ?_ ?_ ?_) | (show Nat.testBit _ _ = true; rfl) | (show subMask _ _ = true; rfl) | exact inFam_BQ_BASE_HI | exact inFam_BQ_BASE_LO | exact inFam_BQ_CFG | exact inFam_BQ_DOORBELL | exact inFam_BQ_INDEX | exact inFam_BQ_RES_HI | exact inFam_BQ_RES_LO | exact wrsOk_nil | apply wrsOk_cons | (intro _; try dsimp only) | split | dsimp only

theorem State.showWindow_kept {s : State} {r : Nat} (hw₀ : subMask 4722366482869645213697 w₀ = true) (h₀ : Kept w₀ s₀ s) :
    Kept w₀ s₀ (State.showWindow s r) := by
  refine Kept.trans (a := 4722366482869645213697) (t := s) ?_ hw₀ h₀
  clear h₀ hw₀
  unfold State.showWindow; try dsimp only
  repeat' first | (with_reducible first | assumption | exact Kept.refl _ _ | refine Kept.ite ?_ ?_ | apply State.wr_kept) | (show Nat.testBit _ _ = true; rfl) | (show subMask _ _ = true; rfl) | exact inFam_BQ_STATE | exact wrsOk_nil | apply wrsOk_cons | (intro _; try dsimp only) | split | dsimp only

theorem State.enableRing_kept {s : State} {r : Nat} (hw₀ : subMask 78311003385427326578982913 w₀ = true) (h₀ : Kept w₀ s₀ s) :
    Kept w₀ s₀ (State.enableRing s r) := by
  refine Kept.trans (a := 78311003385427326578982913) (t := s) ?_ hw₀ h₀
  clear h₀ hw₀
  unfold State.enableRing; try dsimp only
  repeat' first | (with_reducible first | assumption | exact Kept.refl _ _ | refine Kept.ite ?_ ?_ | refine State.clearMarks_kept ?_ ?_ | refine State.setRing_kept ?_ ?_ | refine State.showWindow_kept ?_ ?_ | apply State.wr_kept) | (show Nat.testBit _ _ = true; rfl) | (show subMask _ _ = true; rfl) | exact inFam_BQ_INDEX | exact wrsOk_nil | apply wrsOk_cons | (intro _; try dsimp only) | split | dsimp only

theorem State.advanceHead_kept {s : State} {r : Nat} {x0_ : Nat} (hw₀ : subMask 9444732965739290689537 w₀ = true) (h₀ : Kept w₀ s₀ s) :
    Kept w₀ s₀ (State.advanceHead s r x0_) := by
  refine Kept.trans (a := 9444732965739290689537) (t := s) ?_ hw₀ h₀
  clear h₀ hw₀
  induction x0_ generalizing s r with
  | zero =>
    unfold State.advanceHead; try dsimp only
    repeat' first | (with_reducible first | assumption | exact Kept.refl _ _ | refine Kept.ite ?_ ?_ | refine State.updRing_kept ?_ ?_ | refine State.when_kept ?_ ?_ | apply State.wr_kept | refine Kept.trans ih ?_ ?_) | (show Nat.testBit _ _ = true; rfl) | (show subMask _ _ = true; rfl) | exact inFam_BQ_INDEX | exact wrsOk_nil | apply wrsOk_cons | (intro _; try dsimp only) | split | dsimp only
  | succ n_ ih =>
    unfold State.advanceHead; try dsimp only
    repeat' first | (with_reducible first | assumption | exact Kept.refl _ _ | refine Kept.ite ?_ ?_ | refine State.updRing_kept ?_ ?_ | refine State.when_kept ?_ ?_ | apply State.wr_kept | refine Kept.trans ih ?_ ?_) | (show Nat.testBit _ _ = true; rfl) | (show subMask _ _ = true; rfl) | exact inFam_BQ_INDEX | exact wrsOk_nil | apply wrsOk_cons | (intro _; try dsimp only) | split | dsimp only

theorem State.discardAfter_kept {s : State} {r d : Nat} (hw₀ : subMask 44384713757731871763589207486774700033120374772764031638184406308126848246420176735557563836962755937072389912416613201954463416349 w₀ = true) (h₀ : Kept w₀ s₀ s) :
    Kept w₀ s₀ (State.discardAfter s r d) := by
  refine Kept.trans (a := 44384713757731871763589207486774700033120374772764031638184406308126848246420176735557563836962755937072389912416613201954463416349) (t := s) ?_ hw₀ h₀
  clear h₀ hw₀
  unfold State.discardAfter; try dsimp only
  repeat' first | (with_reducible first | assumption | exact Kept.refl _ _ | refine Kept.ite ?_ ?_ | refine State.forEach_kept ?_ ?_ | refine State.forget_kept ?_ ?_ | refine State.showTags_kept ?_ ?_ | refine State.updBq_kept ?_ ?_) | (show Nat.testBit _ _ = true; rfl) | (show subMask _ _ = true; rfl) | (intro _; try dsimp only) | split | dsimp only

theorem State.disableRing_kept {s : State} {r : Nat} (hw₀ : subMask 44384713757731871763589207486774700033120374772764031638184406308126848246420176735557563836962755937072390852167543293013860941853 w₀ = true) (h₀ : Kept w₀ s₀ s) :
    Kept w₀ s₀ (State.disableRing s r) := by
  refine Kept.trans (a := 44384713757731871763589207486774700033120374772764031638184406308126848246420176735557563836962755937072390852167543293013860941853) (t := s) ?_ hw₀ h₀
  clear h₀ hw₀
  unfold State.disableRing; try dsimp only
  repeat' first | (with_reducible first | assumption | exact Kept.refl _ _ | refine Kept.ite ?_ ?_ | refine State.advanceHead_kept ?_ ?_ | refine State.discardAfter_kept ?_ ?_ | refine State.forEach_kept ?_ ?_ | refine State.forget_kept ?_ ?_ | refine State.setRing_kept ?_ ?_ | refine State.showTags_kept ?_ ?_ | refine State.showWindow_kept ?_ ?_ | refine State.updBq_kept ?_ ?_ | refine State.updRing_kept ?_ ?_ | apply State.wr_kept | refine State.foldl_kept ?_ ?_) | (show Nat.testBit _ _ = true; rfl) | (show subMask _ _ = true; rfl) | exact inFam_BQ_INDEX | exact inFam_BQ_STATE | exact wrsOk_nil | apply wrsOk_cons | (intro _; try dsimp only) | split | dsimp only

theorem State.restartRing_kept {s : State} {r : Nat} (hw₀ : subMask 939750930091059397787649 w₀ = true) (h₀ : Kept w₀ s₀ s) :
    Kept w₀ s₀ (State.restartRing s r) := by
  refine Kept.trans (a := 939750930091059397787649) (t := s) ?_ hw₀ h₀
  clear h₀ hw₀
  unfold State.restartRing; try dsimp only
  repeat' first | (with_reducible first | assumption | exact Kept.refl _ _ | refine Kept.ite ?_ ?_ | refine State.advanceHead_kept ?_ ?_ | refine State.setRing_kept ?_ ?_ | refine State.showWindow_kept ?_ ?_ | refine State.updRing_kept ?_ ?_ | apply State.wr_kept) | (show Nat.testBit _ _ = true; rfl) | (show subMask _ _ = true; rfl) | exact inFam_BQ_INDEX | exact inFam_BQ_STATE | exact wrsOk_nil | apply wrsOk_cons | (intro _; try dsimp only) | split | dsimp only

theorem execBqDoorbell_kept {w : Initiator} {r : Ring} {v : BitVec 16} {s : State} (hw₀ : subMask 44384376587918356619345083307102957096416090370664438769721192661557492653857241418819590297713921840012164594114756677712692117517 w₀ = true) (h₀ : Kept w₀ s₀ s) :
    KeptR w₀ s₀ (execBqDoorbell w r v s) := by
  refine ⟨fun t₁ e₁ => Kept.trans (a := 44384376587918356619345083307102957096416090370664438769721192661557492653857241418819590297713921840012164594114756677712692117517) (t := s) ?_ hw₀ h₀⟩; refine KeptR.keep (?_ : KeptR 44384376587918356619345083307102957096416090370664438769721192661557492653857241418819590297713921840012164594114756677712692117517 s (execBqDoorbell w r v s)) t₁ e₁; clear e₁ t₁
  clear h₀ hw₀
  unfold execBqDoorbell; try dsimp only
  repeat' first | (with_reducible first | assumption | exact Kept.refl _ _ | refine KeptR.next ?_ | exact KeptR.fault | exact KeptR.refused | refine KeptR.ite ?_ ?_ | refine Kept.ite ?_ ?_ | apply State.inc_kept | refine State.logEvent_kept ?_ ?_ | refine State.refuseW_kept ?_ ?_ | apply State.setB_kept | apply State.wr_kept) | (show Nat.testBit _ _ = true; rfl) | (show subMask _ _ = true; rfl) | exact inFam_BQ_DB_CNT | exact inFam_BQ_DOORBELL | exact inFam_BQ_STATE | exact wrsOk_nil | apply wrsOk_cons | (intro _; try dsimp only) | split | dsimp only

theorem State.skipMarked_kept {s : State} {r : Nat} {x0_ : Nat} (hw₀ : subMask 9444732965739290427393 w₀ = true) (h₀ : Kept w₀ s₀ s) :
    Kept w₀ s₀ (State.skipMarked s r x0_) := by
  refine Kept.trans (a := 9444732965739290427393) (t := s) ?_ hw₀ h₀
  clear h₀ hw₀
  induction x0_ generalizing s r with
  | zero =>
    unfold State.skipMarked; try dsimp only
    repeat' first | (with_reducible first | assumption | exact Kept.refl _ _ | refine Kept.ite ?_ ?_ | apply State.wr_kept | refine Kept.trans ih ?_ ?_) | (show Nat.testBit _ _ = true; rfl) | (show subMask _ _ = true; rfl) | exact inFam_BQ_INDEX | exact wrsOk_nil | apply wrsOk_cons | (intro _; try dsimp only) | split | dsimp only
  | succ n_ ih =>
    unfold State.skipMarked; try dsimp only
    repeat' first | (with_reducible first | assumption | exact Kept.refl _ _ | refine Kept.ite ?_ ?_ | apply State.wr_kept | refine Kept.trans ih ?_ ?_) | (show Nat.testBit _ _ = true; rfl) | (show subMask _ _ = true; rfl) | exact inFam_BQ_INDEX | exact wrsOk_nil | apply wrsOk_cons | (intro _; try dsimp only) | split | dsimp only

theorem State.pickRing_kept {s : State} (hw₀ : subMask 262144 w₀ = true) (h₀ : Kept w₀ s₀ s) : ∀ p, State.pickRing s = some p → Kept w₀ s₀ p.1 := by
  intro p hp
  refine Kept.trans (a := 262144) (t := s) ?_ hw₀ h₀
  unfold State.pickRing at hp; dsimp only at hp
  split at hp
  · cases hp; exact Kept.refl _ _
  · split at hp
    · cases hp; dsimp only; exact State.updBq_kept rfl (Kept.refl _ _)
    · split at hp
      · cases hp; dsimp only; exact State.updBq_kept rfl (Kept.refl _ _)
      · obtain ⟨r, _, rfl⟩ := Option.map_eq_some_iff.mp hp
        dsimp only
        exact State.updBq_kept rfl (State.forEach_kept (fun _ _ => State.updRing_kept rfl (Kept.refl _ _)) (Kept.refl _ _))

theorem execEntryFetch_kept {s : State} (hw₀ : subMask 4849870377907125638922241 w₀ = true) (h₀ : Kept w₀ s₀ s) :
    KeptR w₀ s₀ (execEntryFetch s) := by
  refine ⟨fun t₁ e₁ => Kept.trans (a := 4849870377907125638922241) (t := s) ?_ hw₀ h₀⟩; refine KeptR.keep (?_ : KeptR 4849870377907125638922241 s (execEntryFetch s)) t₁ e₁; clear e₁ t₁
  clear h₀ hw₀
  unfold execEntryFetch; try dsimp only
  repeat' first | (with_reducible first | assumption | exact Kept.refl _ _ | refine KeptR.next ?_ | exact KeptR.fault | exact KeptR.refused | refine KeptR.ite ?_ ?_ | refine Kept.ite ?_ ?_ | apply State.addC_kept | refine State.forEach_kept ?_ ?_ | refine State.hostGet_kept ?_ ?_ | refine State.showWindow_kept ?_ ?_ | refine State.skipMarked_kept ?_ ?_ | refine State.updBq_kept ?_ ?_ | refine State.updRing_kept ?_ ?_ | refine State.when_kept ?_ ?_ | apply State.wr_kept | refine State.pickRing_kept ?_ ?_ _ (by assumption)) | (show Nat.testBit _ _ = true; rfl) | (show subMask _ _ = true; rfl) | exact inFam_BQ_FETCH_CNT | exact inFam_BQ_INDEX | exact wrsOk_nil | apply wrsOk_cons | (intro _; try dsimp only) | split | dsimp only

theorem State.takeEntry_kept {s : State} {r i : Nat} {e : Option (List Byte)} (hw₀ : subMask 96718787935653203623542785 w₀ = true) (h₀ : Kept w₀ s₀ s) :
    Kept w₀ s₀ (State.takeEntry s r i e) := by
  refine Kept.trans (a := 96718787935653203623542785) (t := s) ?_ hw₀ h₀
  clear h₀ hw₀
  unfold State.takeEntry; try dsimp only
  repeat' first | (with_reducible first | assumption | exact Kept.refl _ _ | refine Kept.ite ?_ ?_ | apply State.inc_kept | apply State.setB_kept | refine State.updBq_kept ?_ ?_ | refine State.updSch_kept ?_ ?_ | refine State.when_kept ?_ ?_ | apply State.wr_kept) | (show Nat.testBit _ _ = true; rfl) | (show subMask _ _ = true; rfl) | exact inFam_BQ_DB_CNT | exact inFam_BQ_MARKS | exact inFam_BQ_STATE | exact wrsOk_nil | apply wrsOk_cons | (intro _; try dsimp only) | split | dsimp only | refine Kept.lit rfl (.inr rfl) rfl rfl rfl rfl (.inr rfl) (.inr rfl) (.inr rfl) (.inr rfl) (.inr rfl) (.inr rfl) (.inr rfl) (.inr rfl) (.inr rfl) (.inr rfl) (.inr rfl) (.inr rfl) (.inl rfl) (.inl rfl) (.inl rfl) (.inr rfl) (.inr rfl) (.inr rfl) (.inr rfl) ?_

theorem execEntryFetchComplete_kept {r : Ring} {entries : List (Option (List Byte))} {s : State} (hw₀ : subMask 96907682594967989436416001 w₀ = true) (h₀ : Kept w₀ s₀ s) :
    KeptR w₀ s₀ (execEntryFetchComplete r entries s) := by
  refine ⟨fun t₁ e₁ => Kept.trans (a := 96907682594967989436416001) (t := s) ?_ hw₀ h₀⟩; refine KeptR.keep (?_ : KeptR 96907682594967989436416001 s (execEntryFetchComplete r entries s)) t₁ e₁; clear e₁ t₁
  clear h₀ hw₀
  unfold execEntryFetchComplete; try dsimp only
  repeat' first | (with_reducible first | assumption | exact Kept.refl _ _ | refine KeptR.next ?_ | exact KeptR.fault | exact KeptR.refused | refine KeptR.ite ?_ ?_ | refine Kept.ite ?_ ?_ | refine State.forEach_kept ?_ ?_ | refine State.showTags_kept ?_ ?_ | refine State.takeEntry_kept ?_ ?_ | refine State.updBq_kept ?_ ?_) | (show Nat.testBit _ _ = true; rfl) | (show subMask _ _ = true; rfl) | (intro _; try dsimp only) | split | dsimp only

theorem State.freezeRing_kept {s : State} {r i : Nat} (hw₀ : subMask 44384713757731871763589207486774700033120374772764031638184406308126848246420176735557563836962755937072390842722810327274570514461 w₀ = true) (h₀ : Kept w₀ s₀ s) :
    Kept w₀ s₀ (State.freezeRing s r i) := by
  refine Kept.trans (a := 44384713757731871763589207486774700033120374772764031638184406308126848246420176735557563836962755937072390842722810327274570514461) (t := s) ?_ hw₀ h₀
  clear h₀ hw₀
  unfold State.freezeRing; try dsimp only
  repeat' first | (with_reducible first | assumption | exact Kept.refl _ _ | refine Kept.ite ?_ ?_ | refine State.discardAfter_kept ?_ ?_ | refine State.setRing_kept ?_ ?_ | refine State.updRing_kept ?_ ?_ | apply State.wr_kept) | (show Nat.testBit _ _ = true; rfl) | (show subMask _ _ = true; rfl) | exact inFam_BQ_STATE | exact wrsOk_nil | apply wrsOk_cons | (intro _; try dsimp only) | split | dsimp only

theorem State.endAborts_kept {s : State} {tags : List Nat} (hw₀ : subMask 524288 w₀ = true) (h₀ : Kept w₀ s₀ s) :
    Kept w₀ s₀ (State.endAborts s tags) := by
  refine Kept.trans (a := 524288) (t := s) ?_ hw₀ h₀
  clear h₀ hw₀
  unfold State.endAborts; try dsimp only
  repeat' first | (with_reducible first | assumption | exact Kept.refl _ _ | refine Kept.ite ?_ ?_ | refine State.forEach_kept ?_ ?_ | refine State.updCmd_kept ?_ ?_) | (show Nat.testBit _ _ = true; rfl) | (show subMask _ _ = true; rfl) | (intro _; try dsimp only) | split | dsimp only

theorem State.flushTold_kept {s : State} {c : Cmd} (hw₀ : subMask 524288 w₀ = true) (h₀ : Kept w₀ s₀ s) :
    Kept w₀ s₀ (State.flushTold s c) := by
  refine Kept.trans (a := 524288) (t := s) ?_ hw₀ h₀
  clear h₀ hw₀
  unfold State.flushTold; try dsimp only
  repeat' first | (with_reducible first | assumption | exact Kept.refl _ _ | refine Kept.ite ?_ ?_ | refine State.cmdFail_kept ?_ ?_ | refine State.forEach_kept ?_ ?_) | (show Nat.testBit _ _ = true; rfl) | (show subMask _ _ = true; rfl) | (intro _; try dsimp only) | split | dsimp only

theorem State.completeRing_kept {s : State} {c : Cmd} {r i : Nat} (hw₀ : subMask 44384713757731871763589207486774700033120374772764031638184406308126848246420176735557563836962755937072429537793770961147451539485 w₀ = true) (h₀ : Kept w₀ s₀ s) :
    Kept w₀ s₀ (State.completeRing s c r i) := by
  refine Kept.trans (a := 44384713757731871763589207486774700033120374772764031638184406308126848246420176735557563836962755937072429537793770961147451539485) (t := s) ?_ hw₀ h₀
  clear h₀ hw₀
  unfold State.completeRing; try dsimp only
  repeat' first | (with_reducible first | assumption | exact Kept.refl _ _ | refine Kept.ite ?_ ?_ | refine State.advanceHead_kept ?_ ?_ | apply State.bqBit_kept | refine State.endAborts_kept ?_ ?_ | refine State.flushTold_kept ?_ ?_ | refine State.forget_kept ?_ ?_ | refine State.freezeRing_kept ?_ ?_ | refine State.hostStore_kept ?_ ?_ | apply State.inc_kept | refine State.showTags_kept ?_ ?_ | refine State.showWindow_kept ?_ ?_ | refine State.updRing_kept ?_ ?_ | refine State.when_kept ?_ ?_) | (show Nat.testBit _ _ = true; rfl) | (show subMask _ _ = true; rfl) | exact inFam_BQ_ABORT_CNT | exact inFam_BQ_STATUS | exact wrsOk_nil | apply wrsOk_cons | (intro _; try dsimp only) | split | dsimp only

theorem State.completePeer_kept {s : State} {c : Cmd} {src xid : Nat} (hw₀ : subMask 44384713757733132627787492110109492962403579368405794189841061202420222591809112598685651196941852310975828332150348592264766947357 w₀ = true) (h₀ : Kept w₀ s₀ s) :
    Kept w₀ s₀ (State.completePeer s c src xid) := by
  refine Kept.trans (a := 44384713757733132627787492110109492962403579368405794189841061202420222591809112598685651196941852310975828332150348592264766947357) (t := s) ?_ hw₀ h₀
  clear h₀ hw₀
  unfold State.completePeer; try dsimp only
  repeat' first | (with_reducible first | assumption | exact Kept.refl _ _ | refine Kept.ite ?_ ?_ | refine State.forget_kept ?_ ?_ | refine State.portPages_kept ?_ ?_ | refine State.qCommit_kept ?_ ?_ | refine State.qResult_kept ?_ ?_ | refine State.qSendData_kept ?_ ?_ | refine State.showXfer_kept ?_ ?_ | refine State.updQfb_kept ?_ ?_ | refine State.portPages_keptp (by assumption) ?_ ?_) | (show Nat.testBit _ _ = true; rfl) | (show subMask _ _ = true; rfl) | (intro _; try dsimp only) | split | dsimp only

theorem execCommandComplete_kept {tag : BitVec 14} {s : State} (hw₀ : subMask 44384713757733132627787492110109492962403579368405794191650312596753290984513987926534442750395981254399885960673957171985322582941 w₀ = true) (h₀ : Kept w₀ s₀ s) :
    KeptR w₀ s₀ (execCommandComplete tag s) := by
  refine ⟨fun t₁ e₁ => Kept.trans (a := 44384713757733132627787492110109492962403579368405794191650312596753290984513987926534442750395981254399885960673957171985322582941) (t := s) ?_ hw₀ h₀⟩; refine KeptR.keep (?_ : KeptR 44384713757733132627787492110109492962403579368405794191650312596753290984513987926534442750395981254399885960673957171985322582941 s (execCommandComplete tag s)) t₁ e₁; clear e₁ t₁
  clear h₀ hw₀
  unfold execCommandComplete; try dsimp only
  repeat' first | (with_reducible first | assumption | exact Kept.refl _ _ | refine KeptR.next ?_ | exact KeptR.fault | exact KeptR.refused | refine KeptR.ite ?_ ?_ | refine Kept.ite ?_ ?_ | refine State.completePeer_kept ?_ ?_ | refine State.completeRing_kept ?_ ?_ | refine State.dropWork_kept ?_ ?_ | refine State.updCmd_kept ?_ ?_) | (show Nat.testBit _ _ = true; rfl) | (show subMask _ _ = true; rfl) | (intro _; try dsimp only) | split | dsimp only

theorem State.ringMessage_kept {s : State} {r : Nat} (hw₀ : subMask 4587520 w₀ = true) (h₀ : Kept w₀ s₀ s) :
    Kept w₀ s₀ (State.ringMessage s r) := by
  refine Kept.trans (a := 4587520) (t := s) ?_ hw₀ h₀
  clear h₀ hw₀
  unfold State.ringMessage; try dsimp only
  repeat' first | (with_reducible first | assumption | exact Kept.refl _ _ | refine Kept.ite ?_ ?_ | refine State.msixSend_kept ?_ ?_ | refine State.updRing_kept ?_ ?_) | (show Nat.testBit _ _ = true; rfl) | (show subMask _ _ = true; rfl) | (intro _; try dsimp only) | split | dsimp only

theorem execPublicationWrite_kept {r : Ring} {s : State} (hw₀ : subMask 9671406556917033402236929 w₀ = true) (h₀ : Kept w₀ s₀ s) :
    KeptR w₀ s₀ (execPublicationWrite r s) := by
  refine ⟨fun t₁ e₁ => Kept.trans (a := 9671406556917033402236929) (t := s) ?_ hw₀ h₀⟩; refine KeptR.keep (?_ : KeptR 9671406556917033402236929 s (execPublicationWrite r s)) t₁ e₁; clear e₁ t₁
  clear h₀ hw₀
  unfold execPublicationWrite; try dsimp only
  repeat' first | (with_reducible first | assumption | exact Kept.refl _ _ | refine KeptR.next ?_ | exact KeptR.fault | exact KeptR.refused | refine KeptR.ite ?_ ?_ | refine Kept.ite ?_ ?_ | refine State.hostStore_kept ?_ ?_ | apply State.inc_kept | refine State.ringMessage_kept ?_ ?_ | refine State.updRing_kept ?_ ?_) | (show Nat.testBit _ _ = true; rfl) | (show subMask _ _ = true; rfl) | exact inFam_BQ_PUB_CNT | exact wrsOk_nil | apply wrsOk_cons | (intro _; try dsimp only) | split | dsimp only

theorem execCoalExpiry_kept {r : Ring} {s : State} (hw₀ : subMask 4587520 w₀ = true) (h₀ : Kept w₀ s₀ s) :
    KeptR w₀ s₀ (execCoalExpiry r s) := by
  refine ⟨fun t₁ e₁ => Kept.trans (a := 4587520) (t := s) ?_ hw₀ h₀⟩; refine KeptR.keep (?_ : KeptR 4587520 s (execCoalExpiry r s)) t₁ e₁; clear e₁ t₁
  clear h₀ hw₀
  unfold execCoalExpiry; try dsimp only
  repeat' first | (with_reducible first | assumption | exact Kept.refl _ _ | refine KeptR.next ?_ | exact KeptR.fault | exact KeptR.refused | refine KeptR.ite ?_ ?_ | refine Kept.ite ?_ ?_ | refine State.msixSend_kept ?_ ?_ | refine State.updRing_kept ?_ ?_) | (show Nat.testBit _ _ = true; rfl) | (show subMask _ _ = true; rfl) | (intro _; try dsimp only) | split | dsimp only

theorem execFreezeSettled_kept {r : Ring} {s : State} (hw₀ : subMask 930306197125320107360257 w₀ = true) (h₀ : Kept w₀ s₀ s) :
    KeptR w₀ s₀ (execFreezeSettled r s) := by
  refine ⟨fun t₁ e₁ => Kept.trans (a := 930306197125320107360257) (t := s) ?_ hw₀ h₀⟩; refine KeptR.keep (?_ : KeptR 930306197125320107360257 s (execFreezeSettled r s)) t₁ e₁; clear e₁ t₁
  clear h₀ hw₀
  unfold execFreezeSettled; try dsimp only
  repeat' first | (with_reducible first | assumption | exact Kept.refl _ _ | refine KeptR.next ?_ | exact KeptR.fault | exact KeptR.refused | refine KeptR.ite ?_ ?_ | refine Kept.ite ?_ ?_ | apply State.setB_kept | refine State.setRing_kept ?_ ?_ | refine State.updRing_kept ?_ ?_) | (show Nat.testBit _ _ = true; rfl) | (show subMask _ _ = true; rfl) | exact inFam_BQ_STATE | exact wrsOk_nil | apply wrsOk_cons | (intro _; try dsimp only) | split | dsimp only

theorem execDisableSettled_kept {r : Ring} {s : State} (hw₀ : subMask 78301558652461587289079809 w₀ = true) (h₀ : Kept w₀ s₀ s) :
    KeptR w₀ s₀ (execDisableSettled r s) := by
  refine ⟨fun t₁ e₁ => Kept.trans (a := 78301558652461587289079809) (t := s) ?_ hw₀ h₀⟩; refine KeptR.keep (?_ : KeptR 78301558652461587289079809 s (execDisableSettled r s)) t₁ e₁; clear e₁ t₁
  clear h₀ hw₀
  unfold execDisableSettled; try dsimp only
  repeat' first | (with_reducible first | assumption | exact Kept.refl _ _ | refine KeptR.next ?_ | exact KeptR.fault | exact KeptR.refused | refine KeptR.ite ?_ ?_ | refine Kept.ite ?_ ?_ | refine State.clearMarks_kept ?_ ?_ | refine State.cmdEnd_kept ?_ ?_ | refine State.forEach_kept ?_ ?_ | refine State.setRing_kept ?_ ?_ | refine State.updRing_kept ?_ ?_) | (show Nat.testBit _ _ = true; rfl) | (show subMask _ _ = true; rfl) | (intro _; try dsimp only) | split | dsimp only

theorem execAdminRingEnable_kept {w : Initiator} {s : State} (hw₀ : subMask 78311003385431999507595269 w₀ = true) (h₀ : Kept w₀ s₀ s) :
    KeptR w₀ s₀ (execAdminRingEnable w s) := by
  refine ⟨fun t₁ e₁ => Kept.trans (a := 78311003385431999507595269) (t := s) ?_ hw₀ h₀⟩; refine KeptR.keep (?_ : KeptR 78311003385431999507595269 s (execAdminRingEnable w s)) t₁ e₁; clear e₁ t₁
  clear h₀ hw₀
  unfold execAdminRingEnable; try dsimp only
  repeat' first | (with_reducible first | assumption | exact Kept.refl _ _ | refine KeptR.next ?_ | exact KeptR.fault | exact KeptR.refused | refine KeptR.ite ?_ ?_ | refine Kept.ite ?_ ?_ | refine State.enableRing_kept ?_ ?_ | refine State.refuseW_kept ?_ ?_) | (show Nat.testBit _ _ = true; rfl) | (show subMask _ _ = true; rfl) | (intro _; try dsimp only) | split | dsimp only

theorem execAdminRingDisable_kept {s : State} (hw₀ : subMask 44384713757731871763589207486774700033120374772764031638184406308126848246420176735557563836962755937072390852167543293013860941853 w₀ = true) (h₀ : Kept w₀ s₀ s) :
    KeptR w₀ s₀ (execAdminRingDisable s) := by
  refine ⟨fun t₁ e₁ => Kept.trans (a := 44384713757731871763589207486774700033120374772764031638184406308126848246420176735557563836962755937072390852167543293013860941853) (t := s) ?_ hw₀ h₀⟩; refine KeptR.keep (?_ : KeptR 44384713757731871763589207486774700033120374772764031638184406308126848246420176735557563836962755937072390852167543293013860941853 s (execAdminRingDisable s)) t₁ e₁; clear e₁ t₁
  clear h₀ hw₀
  unfold execAdminRingDisable; try dsimp only
  repeat' first | (with_reducible first | assumption | exact Kept.refl _ _ | refine KeptR.next ?_ | exact KeptR.fault | exact KeptR.refused | refine KeptR.ite ?_ ?_ | refine Kept.ite ?_ ?_ | refine State.disableRing_kept ?_ ?_) | (show Nat.testBit _ _ = true; rfl) | (show subMask _ _ = true; rfl) | (intro _; try dsimp only) | split | dsimp only

end Sys2Proof.Machine
end

