-- ==== Sys2Proof/Laws/KeptControl.lean ====
section
/-! SUPPORT. What the operations and meanings of Machine/Control.lean keep (the relation Kept). -/

set_option Elab.async false

namespace Sys2Proof.Machine
open Reg
set_option linter.unusedVariables false
set_option linter.unusedTactic false
set_option linter.unreachableTactic false
set_option maxHeartbeats 400000

variable {w₀ : Nat} {s₀ : State}

theorem State.detect_kept {s : State} {n : Nat} {e0 : Int} (hw₀ : subMask 136703170298938245273281389194851335334573089430825777276610662900622062449960995201469573563942913 w₀ = true) (h₀ : Kept w₀ s₀ s) :
    Kept w₀ s₀ (State.detect s n e0) := by
  refine Kept.trans (a := 136703170298938245273281389194851335334573089430825777276610662900622062449960995201469573563942913) (t := s) ?_ hw₀ h₀
  clear h₀ hw₀
  unfold State.detect; try dsimp only
  repeat' first | (with_reducible first | assumption | exact Kept.refl _ _ | refine Kept.ite ?_ ?_ | apply State.addC_kept | refine State.updLoop_kept ?_ ?_) | (show Nat.testBit _ _ = true; rfl) | (show subMask _ _ = true; rfl) | exact inFam_CTL_CNT | exact wrsOk_nil | apply wrsOk_cons | (intro _; try dsimp only) | split | dsimp only

theorem State.slotError_kept {s : State} {n : Nat} {e : Option Int} (hw₀ : subMask 145247118442621885602861476019529543792983907520252388356398829331910941353083557401561421911689217 w₀ = true) (h₀ : Kept w₀ s₀ s) :
    Kept w₀ s₀ (State.slotError s n e).1 := by
  refine Kept.trans (a := 145247118442621885602861476019529543792983907520252388356398829331910941353083557401561421911689217) (t := s) ?_ hw₀ h₀
  clear h₀ hw₀
  unfold State.slotError; try dsimp only
  repeat' first | (with_reducible first | assumption | exact Kept.refl _ _ | refine Kept.ite ?_ ?_ | apply State.addC_kept | refine State.detect_kept ?_ ?_ | apply State.wrS_kept) | (show Nat.testBit _ _ = true; rfl) | (show subMask _ _ = true; rfl) | exact inFam_CTL_CNT | exact inFam_CTL_ERR | exact wrsOk_nil | apply wrsOk_cons | (intro _; try dsimp only) | split | dsimp only
theorem State.slotError_keptp {s : State} {n : Nat} {e : Option Int} {a₀ : State} {b₀ : Int} (e₀ : State.slotError s n e = (a₀, b₀)) (hw₀ : subMask 145247118442621885602861476019529543792983907520252388356398829331910941353083557401561421911689217 w₀ = true) (h₀ : Kept w₀ s₀ s) : Kept w₀ s₀ a₀ := by
  have g : Kept w₀ s₀ (State.slotError s n e).1 := State.slotError_kept hw₀ h₀; rw [e₀] at g; exact g

theorem State.ctlBit_kept {s : State} {f : Fld} {i_ : Nat} (hf_ : inFam i_ f.addr) (hi_ : w₀.testBit (32 + i_) = true) (hw₀ : subMask 4194305 w₀ = true) (h₀ : Kept w₀ s₀ s) :
    Kept w₀ s₀ (State.ctlBit s f) := by
  unfold State.ctlBit; try dsimp only
  repeat' first | (with_reducible first | assumption | exact Kept.refl _ _ | refine Kept.ite ?_ ?_ | apply State.raiseBit_kept) | exact hi_ | exact testBit_sub hw₀ rfl | exact subMask_trans rfl hw₀ | exact hf_ _ | exact hf_ | exact wrsOk_nil | apply wrsOk_cons | (intro _; try dsimp only) | split | dsimp only

theorem State.laneSwitchStart_kept {s : State} (hw₀ : subMask 44384376587918356619345083307105144347140873383074567423329276809490796602510501030229849089431589885277480026000560776430393762377 w₀ = true) (h₀ : Kept w₀ s₀ s) :
    Kept w₀ s₀ (State.laneSwitchStart s) := by
  refine Kept.trans (a := 44384376587918356619345083307105144347140873383074567423329276809490796602510501030229849089431589885277480026000560776430393762377) (t := s) ?_ hw₀ h₀
  clear h₀ hw₀
  unfold State.laneSwitchStart; try dsimp only
  repeat' first | (with_reducible first | assumption | exact Kept.refl _ _ | refine Kept.ite ?_ ?_ | refine State.dropGates_kept ?_ ?_ | apply State.setB_kept | refine State.updWrp_kept ?_ ?_ | apply State.wrpBits_kept) | (show Nat.testBit _ _ = true; rfl) | (show subMask _ _ = true; rfl) | exact inFam_CTL_LANE_STAT | exact inFam_WRP_STATUS | exact wrsOk_nil | apply wrsOk_cons | (intro _; try dsimp only) | split | dsimp only

theorem State.laneSwitchEnd_kept {s : State} (hw₀ : subMask 2187250724783011924372502227117621365353169430893212436425770606409952999199375923223513177023054337 w₀ = true) (h₀ : Kept w₀ s₀ s) :
    Kept w₀ s₀ (State.laneSwitchEnd s) := by
  refine Kept.trans (a := 2187250724783011924372502227117621365353169430893212436425770606409952999199375923223513177023054337) (t := s) ?_ hw₀ h₀
  clear h₀ hw₀
  unfold State.laneSwitchEnd; try dsimp only
  repeat' first | (with_reducible first | assumption | exact Kept.refl _ _ | refine Kept.ite ?_ ?_ | apply State.clr_kept | refine State.updWrp_kept ?_ ?_) | (show Nat.testBit _ _ = true; rfl) | (show subMask _ _ = true; rfl) | exact inFam_CTL_LANE_STAT | exact wrsOk_nil | apply wrsOk_cons | (intro _; try dsimp only) | split | dsimp only

theorem State.fenceLane_kept {s : State} {l : Nat} (hw₀ : subMask 44384713757731871763589207486777434096526353538155253417349269861401490487431159649985512719798878328199221194043639952694835817033 w₀ = true) (h₀ : Kept w₀ s₀ s) :
    Kept w₀ s₀ (State.fenceLane s l) := by
  refine Kept.trans (a := 44384713757731871763589207486777434096526353538155253417349269861401490487431159649985512719798878328199221194043639952694835817033) (t := s) ?_ hw₀ h₀
  clear h₀ hw₀
  unfold State.fenceLane; try dsimp only
  repeat' first | (with_reducible first | assumption | exact Kept.refl _ _ | refine Kept.ite ?_ ?_ | apply State.clr_kept | apply State.ctlBit_kept | refine State.laneSwitchStart_kept ?_ ?_ | refine State.markFenced_kept ?_ ?_ | refine State.raiseSrc_kept ?_ ?_ | apply State.setB_kept) | (show Nat.testBit _ _ = true; rfl) | (show subMask _ _ = true; rfl) | exact inFam_CTL_GSTATUS | exact inFam_CTL_LANE_STAT | exact wrsOk_nil | apply wrsOk_cons | (intro _; try dsimp only) | split | dsimp only | refine Kept.lit rfl (.inr rfl) rfl rfl rfl rfl (.inl rfl) (.inr rfl) (.inr rfl) (.inl rfl) (.inr rfl) (.inl rfl) (.inr rfl) (.inl rfl) (.inr rfl) (.inr rfl) (.inr rfl) (.inl rfl) (.inr rfl) (.inl rfl) (.inr rfl) (.inr rfl) (.inl rfl) (.inl rfl) (.inr rfl) ?_

theorem State.resAlarm_kept {s : State} {l : Nat} (hw₀ : subMask 44384713757731871763589207486781808597975919562003998421803505104132196826292946074858364261011698234197619945890086979048881924681 w₀ = true) (h₀ : Kept w₀ s₀ s) :
    Kept w₀ s₀ (State.resAlarm s l) := by
  refine Kept.trans (a := 44384713757731871763589207486781808597975919562003998421803505104132196826292946074858364261011698234197619945890086979048881924681) (t := s) ?_ hw₀ h₀
  clear h₀ hw₀
  unfold State.resAlarm; try dsimp only
  repeat' first | (with_reducible first | assumption | exact Kept.refl _ _ | refine Kept.ite ?_ ?_ | apply State.ctlBit_kept | refine State.fenceLane_kept ?_ ?_ | apply State.inc_kept | refine State.raiseSrc_kept ?_ ?_ | refine State.when_kept ?_ ?_) | (show Nat.testBit _ _ = true; rfl) | (show subMask _ _ = true; rfl) | exact inFam_CTL_GSTATUS | exact inFam_CTL_LANE_CNT | exact wrsOk_nil | apply wrsOk_cons | (intro _; try dsimp only) | split | dsimp only | refine Kept.lit rfl (.inr rfl) rfl rfl rfl rfl (.inl rfl) (.inr rfl) (.inr rfl) (.inl rfl) (.inr rfl) (.inl rfl) (.inr rfl) (.inl rfl) (.inr rfl) (.inr rfl) (.inr rfl) (.inl rfl) (.inr rfl) (.inl rfl) (.inr rfl) (.inr rfl) (.inl rfl) (.inl rfl) (.inr rfl) ?_

theorem State.commitLoop_kept {s : State} {n : Nat} {r : LoopOut} (hw₀ : subMask 140975144370780065438071432607190439563778498475539082816504746116266501901522276301515497737816065 w₀ = true) (h₀ : Kept w₀ s₀ s) :
    Kept w₀ s₀ (State.commitLoop s n r) := by
  refine Kept.trans (a := 140975144370780065438071432607190439563778498475539082816504746116266501901522276301515497737816065) (t := s) ?_ hw₀ h₀
  clear h₀ hw₀
  unfold State.commitLoop; try dsimp only
  repeat' first | (with_reducible first | assumption | exact Kept.refl _ _ | refine Kept.ite ?_ ?_ | apply State.addC_kept | refine State.setOut_kept ?_ ?_ | refine State.updLoop_kept ?_ ?_) | (show Nat.testBit _ _ = true; rfl) | (show subMask _ _ = true; rfl) | exact inFam_CTL_CNT | exact wrsOk_nil | apply wrsOk_cons | (intro _; try dsimp only) | split | dsimp only

theorem State.holdLoop_kept {s : State} {n : Nat} (hw₀ : subMask 137237167057918472793880144621393723363223765561414940469097423302577617381406155338975314085675009 w₀ = true) (h₀ : Kept w₀ s₀ s) :
    Kept w₀ s₀ (State.holdLoop s n) := by
  refine Kept.trans (a := 137237167057918472793880144621393723363223765561414940469097423302577617381406155338975314085675009) (t := s) ?_ hw₀ h₀
  clear h₀ hw₀
  unfold State.holdLoop; try dsimp only
  repeat' first | (with_reducible first | assumption | exact Kept.refl _ _ | refine Kept.ite ?_ ?_ | apply State.inc_kept | apply State.setB_kept) | (show Nat.testBit _ _ = true; rfl) | (show subMask _ _ = true; rfl) | exact inFam_CTL_CNT | exact inFam_CTL_STATUS | exact wrsOk_nil | apply wrsOk_cons | (intro _; try dsimp only) | split | dsimp only

theorem State.slotEnd_kept {s : State} {x : LaneInputs} {n : Nat} {r : LoopOut} {saved : Option (Nat × LoopOut)} (hw₀ : subMask 44384713757731871763589207486781950107117049322296957091991538836959789255467552203104373252518216456254452913326526000287141472841 w₀ = true) (h₀ : Kept w₀ s₀ s) :
    Kept w₀ s₀ (State.slotEnd s x n r saved).1 := by
  refine Kept.trans (a := 44384713757731871763589207486781950107117049322296957091991538836959789255467552203104373252518216456254452913326526000287141472841) (t := s) ?_ hw₀ h₀
  clear h₀ hw₀
  unfold State.slotEnd; try dsimp only
  repeat' first | (with_reducible first | assumption | exact Kept.refl _ _ | refine Kept.ite ?_ ?_ | refine State.commitLoop_kept ?_ ?_ | refine State.fenceLane_kept ?_ ?_ | refine State.holdLoop_kept ?_ ?_ | refine State.laneSwitchStart_kept ?_ ?_ | refine State.resAlarm_kept ?_ ?_ | refine State.when_kept ?_ ?_) | (show Nat.testBit _ _ = true; rfl) | (show subMask _ _ = true; rfl) | (intro _; try dsimp only) | split | dsimp only | refine Kept.lit rfl (.inr rfl) rfl rfl rfl rfl (.inl rfl) (.inr rfl) (.inr rfl) (.inl rfl) (.inr rfl) (.inl rfl) (.inr rfl) (.inl rfl) (.inr rfl) (.inr rfl) (.inr rfl) (.inl rfl) (.inr rfl) (.inl rfl) (.inr rfl) (.inr rfl) (.inl rfl) (.inl rfl) (.inr rfl) ?_
theorem State.slotEnd_keptp {s : State} {x : LaneInputs} {n : Nat} {r : LoopOut} {saved : Option (Nat × LoopOut)} {a₀ : State} {b₀ : Option (Nat × LoopOut)} (e₀ : State.slotEnd s x n r saved = (a₀, b₀)) (hw₀ : subMask 44384713757731871763589207486781950107117049322296957091991538836959789255467552203104373252518216456254452913326526000287141472841 w₀ = true) (h₀ : Kept w₀ s₀ s) : Kept w₀ s₀ a₀ := by
  have g : Kept w₀ s₀ (State.slotEnd s x n r saved).1 := State.slotEnd_kept hw₀ h₀; rw [e₀] at g; exact g

theorem State.lanesFatal_kept {s : State} (hw₀ : subMask 44384713757731871763589207486774700033120374772764031638184406308126848246420176735466147485429607794684086568280366412638690869257 w₀ = true) (h₀ : Kept w₀ s₀ s) :
    Kept w₀ s₀ (State.lanesFatal s) := by
  refine Kept.trans (a := 44384713757731871763589207486774700033120374772764031638184406308126848246420176735466147485429607794684086568280366412638690869257) (t := s) ?_ hw₀ h₀
  clear h₀ hw₀
  unfold State.lanesFatal; try dsimp only
  repeat' first | (with_reducible first | assumption | exact Kept.refl _ _ | refine Kept.ite ?_ ?_ | refine State.raiseSrc_kept ?_ ?_) | (show Nat.testBit _ _ = true; rfl) | (show subMask _ _ = true; rfl) | (intro _; try dsimp only) | split | dsimp only

theorem State.knownAnswer_kept {s : State} {x : LaneInputs} {decisive : Bool} (hw₀ : subMask 44384713757731871763589207486781808597975919562003998421803505104132196826292946074858364261011698234197619945890086979048881924681 w₀ = true) (h₀ : Kept w₀ s₀ s) :
    Kept w₀ s₀ (State.knownAnswer s x decisive) := by
  refine Kept.trans (a := 44384713757731871763589207486781808597975919562003998421803505104132196826292946074858364261011698234197619945890086979048881924681) (t := s) ?_ hw₀ h₀
  clear h₀ hw₀
  unfold State.knownAnswer; try dsimp only
  repeat' first | (with_reducible first | assumption | exact Kept.refl _ _ | refine Kept.ite ?_ ?_ | apply State.ctlBit_kept | refine State.fenceLane_kept ?_ ?_ | apply State.inc_kept | refine State.lanesFatal_kept ?_ ?_ | refine State.when_kept ?_ ?_) | (show Nat.testBit _ _ = true; rfl) | (show subMask _ _ = true; rfl) | exact inFam_CTL_GSTATUS | exact inFam_CTL_LANE_CNT | exact wrsOk_nil | apply wrsOk_cons | (intro _; try dsimp only) | split | dsimp only

theorem State.slot31_kept {s : State} {x : LaneInputs} {saved : Option (Nat × LoopOut)} {soleFromStart : Bool} (hw₀ : subMask 44384713757731871763589207486781949573120290342069436493236112294571760604791421613941180765757814500699521468166388494546619738697 w₀ = true) (h₀ : Kept w₀ s₀ s) :
    Kept w₀ s₀ (State.slot31 s x saved soleFromStart) := by
  refine Kept.trans (a := 44384713757731871763589207486781949573120290342069436493236112294571760604791421613941180765757814500699521468166388494546619738697) (t := s) ?_ hw₀ h₀
  clear h₀ hw₀
  unfold State.slot31; try dsimp only
  repeat' first | (with_reducible first | assumption | exact Kept.refl _ _ | refine Kept.ite ?_ ?_ | refine State.commitLoop_kept ?_ ?_ | apply State.ctlBit_kept | refine State.fenceLane_kept ?_ ?_ | apply State.inc_kept | refine State.knownAnswer_kept ?_ ?_ | refine State.laneSwitchEnd_kept ?_ ?_ | refine State.lanesFatal_kept ?_ ?_ | refine State.raiseSrc_kept ?_ ?_ | refine State.updCtl_kept ?_ ?_) | (show Nat.testBit _ _ = true; rfl) | (show subMask _ _ = true; rfl) | exact inFam_CTL_GSTATUS | exact inFam_CTL_LANE_CNT | exact wrsOk_nil | apply wrsOk_cons | (intro _; try dsimp only) | split | dsimp only | refine Kept.lit rfl (.inr rfl) rfl rfl rfl rfl (.inl rfl) (.inr rfl) (.inr rfl) (.inl rfl) (.inr rfl) (.inl rfl) (.inr rfl) (.inl rfl) (.inr rfl) (.inr rfl) (.inr rfl) (.inl rfl) (.inr rfl) (.inl rfl) (.inr rfl) (.inr rfl) (.inl rfl) (.inl rfl) (.inr rfl) ?_

theorem State.profSlot_kept {s : State} {g : Nat} (hw₀ : subMask 6719234226533412631672326841705332834364936491703948604699967302891375613540482836142632479814829737985 w₀ = true) (h₀ : Kept w₀ s₀ s) :
    Kept w₀ s₀ (State.profSlot s g) := by
  refine Kept.trans (a := 6719234226533412631672326841705332834364936491703948604699967302891375613540482836142632479814829737985) (t := s) ?_ hw₀ h₀
  clear h₀ hw₀
  unfold State.profSlot; try dsimp only
  repeat' first | (with_reducible first | assumption | exact Kept.refl _ _ | refine Kept.ite ?_ ?_ | refine State.freeNext_kept ?_ ?_ | refine State.setProf_kept ?_ ?_ | refine State.updAct_kept ?_ ?_ | refine State.updCtl_kept ?_ ?_ | apply State.wrS_kept | refine State.wrs_kept ?_ ?_ ?_) | (show Nat.testBit _ _ = true; rfl) | (show subMask _ _ = true; rfl) | exact inFam_PROF_POS | exact inFam_PROF_STAT | exact wrsOk_nil | apply wrsOk_cons | (intro _; try dsimp only) | split | dsimp only

theorem State.spindleSlot_kept {s : State} {x : LaneInputs} {sv : Option (Nat × LoopOut)} (hw₀ : subMask 44384713757731871763589207486782027002650342475059923312772960940835914952830357042604091346016098056164581016386326826922271189577 w₀ = true) (h₀ : Kept w₀ s₀ s) :
    Kept w₀ s₀ (State.spindleSlot s x sv).1 := by
  refine Kept.trans (a := 44384713757731871763589207486782027002650342475059923312772960940835914952830357042604091346016098056164581016386326826922271189577) (t := s) ?_ hw₀ h₀
  clear h₀ hw₀
  unfold State.spindleSlot; try dsimp only
  repeat' first | (with_reducible first | assumption | exact Kept.refl _ _ | refine Kept.ite ?_ ?_ | refine State.slotEnd_kept ?_ ?_ | refine State.slotError_kept ?_ ?_ | refine State.wrs_kept ?_ ?_ ?_ | refine State.slotEnd_keptp (by assumption) ?_ ?_ | refine State.slotError_keptp (by assumption) ?_ ?_) | (show Nat.testBit _ _ = true; rfl) | (show subMask _ _ = true; rfl) | exact inFam_CTL_XDISP | exact wrsOk_nil | apply wrsOk_cons | (intro _; try dsimp only) | split | dsimp only
theorem State.spindleSlot_keptp {s : State} {x : LaneInputs} {sv : Option (Nat × LoopOut)} {a₀ : State} {b₀ : Option (Nat × LoopOut)} (e₀ : State.spindleSlot s x sv = (a₀, b₀)) (hw₀ : subMask 44384713757731871763589207486782027002650342475059923312772960940835914952830357042604091346016098056164581016386326826922271189577 w₀ = true) (h₀ : Kept w₀ s₀ s) : Kept w₀ s₀ a₀ := by
  have g : Kept w₀ s₀ (State.spindleSlot s x sv).1 := State.spindleSlot_kept hw₀ h₀; rw [e₀] at g; exact g

theorem State.coarseHandover_kept {s : State} {a : Nat} (hw₀ : subMask 137237167057918472793880144621393723363223765561414940469097423302577617381406155338975314085677057 w₀ = true) (h₀ : Kept w₀ s₀ s) :
    Kept w₀ s₀ (State.coarseHandover s a) := by
  refine Kept.trans (a := 137237167057918472793880144621393723363223765561414940469097423302577617381406155338975314085677057) (t := s) ?_ hw₀ h₀
  clear h₀ hw₀
  unfold State.coarseHandover; try dsimp only
  repeat' first | (with_reducible first | assumption | exact Kept.refl _ _ | refine Kept.ite ?_ ?_ | apply State.inc_kept | apply State.setB_kept | refine State.updAct_kept ?_ ?_ | apply State.wr_kept) | (show Nat.testBit _ _ = true; rfl) | (show subMask _ _ = true; rfl) | exact inFam_CTL_CNT | exact inFam_CTL_STATUS | exact wrsOk_nil | apply wrsOk_cons | (intro _; try dsimp only) | split | dsimp only

theorem State.coarseAutoClose_kept {s : State} {a : Nat} (hw₀ : subMask 533996758980227520598755426542388028650676130589163192486760401955554931445160137505740521736193 w₀ = true) (h₀ : Kept w₀ s₀ s) :
    Kept w₀ s₀ (State.coarseAutoClose s a) := by
  refine Kept.trans (a := 533996758980227520598755426542388028650676130589163192486760401955554931445160137505740521736193) (t := s) ?_ hw₀ h₀
  clear h₀ hw₀
  unfold State.coarseAutoClose; try dsimp only
  repeat' first | (with_reducible first | assumption | exact Kept.refl _ _ | refine Kept.ite ?_ ?_ | refine State.closeLoop_kept ?_ ?_ | apply State.setB_kept | refine State.updAct_kept ?_ ?_ | apply State.wr_kept) | (show Nat.testBit _ _ = true; rfl) | (show subMask _ _ = true; rfl) | exact inFam_CTL_STATUS | exact wrsOk_nil | apply wrsOk_cons | (intro _; try dsimp only) | split | dsimp only

theorem State.decayHo_kept {s : State} {a : Nat} (hw₀ : subMask 2048 w₀ = true) (h₀ : Kept w₀ s₀ s) :
    Kept w₀ s₀ (State.decayHo s a) := by
  refine Kept.trans (a := 2048) (t := s) ?_ hw₀ h₀
  clear h₀ hw₀
  unfold State.decayHo; try dsimp only
  repeat' first | (with_reducible first | assumption | exact Kept.refl _ _ | refine Kept.ite ?_ ?_ | refine State.updAct_kept ?_ ?_) | (show Nat.testBit _ _ = true; rfl) | (show subMask _ _ = true; rfl) | (intro _; try dsimp only) | split | dsimp only

theorem State.coarseError_kept {s : State} {a : Nat} (hw₀ : subMask 0 w₀ = true) (h₀ : Kept w₀ s₀ s) :
    Kept w₀ s₀ (State.coarseError s a).1 := by
  refine Kept.trans (a := 0) (t := s) ?_ hw₀ h₀
  clear h₀ hw₀
  unfold State.coarseError; try dsimp only
  repeat' first | (with_reducible first | assumption | exact Kept.refl _ _ | refine Kept.ite ?_ ?_) | (show Nat.testBit _ _ = true; rfl) | (show subMask _ _ = true; rfl) | (intro _; try dsimp only) | split | dsimp only
theorem State.coarseError_keptp {s : State} {a : Nat} {a₀ : State} {b₀ : Option Int × Bool} (e₀ : State.coarseError s a = (a₀, b₀)) (hw₀ : subMask 0 w₀ = true) (h₀ : Kept w₀ s₀ s) : Kept w₀ s₀ a₀ := by
  have g : Kept w₀ s₀ (State.coarseError s a).1 := State.coarseError_kept hw₀ h₀; rw [e₀] at g; exact g

theorem State.coarseSlot_kept {s : State} {x : LaneInputs} {a : Nat} {sv : Option (Nat × LoopOut)} (hw₀ : subMask 44384713757731871763589207632365435294269875973064262058545356146019512752150996912224734264804189745597359613542744385011975859785 w₀ = true) (h₀ : Kept w₀ s₀ s) :
    Kept w₀ s₀ (State.coarseSlot s x a sv).1 := by
  refine Kept.trans (a := 44384713757731871763589207632365435294269875973064262058545356146019512752150996912224734264804189745597359613542744385011975859785) (t := s) ?_ hw₀ h₀
  clear h₀ hw₀
  unfold State.coarseSlot; try dsimp only
  repeat' first | (with_reducible first | assumption | exact Kept.refl _ _ | refine Kept.ite ?_ ?_ | refine State.coarseAutoClose_kept ?_ ?_ | refine State.coarseError_kept ?_ ?_ | refine State.coarseHandover_kept ?_ ?_ | refine State.decayHo_kept ?_ ?_ | refine State.forEach_kept ?_ ?_ | refine State.holdLoop_kept ?_ ?_ | refine State.openLoop_kept ?_ ?_ | refine State.retract_kept ?_ ?_ | refine State.setOut_kept ?_ ?_ | refine State.slotEnd_kept ?_ ?_ | refine State.slotError_kept ?_ ?_ | apply State.wrS_kept | refine State.coarseError_keptp (by assumption) ?_ ?_ | refine State.slotEnd_keptp (by assumption) ?_ ?_ | refine State.slotError_keptp (by assumption) ?_ ?_) | (show Nat.testBit _ _ = true; rfl) | (show subMask _ _ = true; rfl) | exact inFam_CTL_XDISP | exact wrsOk_nil | apply wrsOk_cons | (intro _; try dsimp only) | split | dsimp only
theorem State.coarseSlot_keptp {s : State} {x : LaneInputs} {a : Nat} {sv : Option (Nat × LoopOut)} {a₀ : State} {b₀ : Option (Nat × LoopOut)} (e₀ : State.coarseSlot s x a sv = (a₀, b₀)) (hw₀ : subMask 44384713757731871763589207632365435294269875973064262058545356146019512752150996912224734264804189745597359613542744385011975859785 w₀ = true) (h₀ : Kept w₀ s₀ s) : Kept w₀ s₀ a₀ := by
  have g : Kept w₀ s₀ (State.coarseSlot s x a sv).1 := State.coarseSlot_kept hw₀ h₀; rw [e₀] at g; exact g

theorem State.trimSlot_kept {s : State} {x : LaneInputs} {h : Nat} {sv : Option (Nat × LoopOut)} (hw₀ : subMask 44384713757731871763589207486782027002650342475059923312772960940835914952830357042604091346016098056164581016386326826922271189577 w₀ = true) (h₀ : Kept w₀ s₀ s) :
    Kept w₀ s₀ (State.trimSlot s x h sv).1 := by
  refine Kept.trans (a := 44384713757731871763589207486782027002650342475059923312772960940835914952830357042604091346016098056164581016386326826922271189577) (t := s) ?_ hw₀ h₀
  clear h₀ hw₀
  unfold State.trimSlot; try dsimp only
  repeat' first | (with_reducible first | assumption | exact Kept.refl _ _ | refine Kept.ite ?_ ?_ | apply State.addC_kept | refine State.holdLoop_kept ?_ ?_ | refine State.setOut_kept ?_ ?_ | refine State.slotEnd_kept ?_ ?_ | refine State.slotError_kept ?_ ?_ | refine State.updLoop_kept ?_ ?_ | apply State.wrS_kept | refine State.slotEnd_keptp (by assumption) ?_ ?_ | refine State.slotError_keptp (by assumption) ?_ ?_) | (show Nat.testBit _ _ = true; rfl) | (show subMask _ _ = true; rfl) | exact inFam_CTL_CNT | exact inFam_CTL_XDISP | exact wrsOk_nil | apply wrsOk_cons | (intro _; try dsimp only) | split | dsimp only
theorem State.trimSlot_keptp {s : State} {x : LaneInputs} {h : Nat} {sv : Option (Nat × LoopOut)} {a₀ : State} {b₀ : Option (Nat × LoopOut)} (e₀ : State.trimSlot s x h sv = (a₀, b₀)) (hw₀ : subMask 44384713757731871763589207486782027002650342475059923312772960940835914952830357042604091346016098056164581016386326826922271189577 w₀ = true) (h₀ : Kept w₀ s₀ s) : Kept w₀ s₀ a₀ := by
  have g : Kept w₀ s₀ (State.trimSlot s x h sv).1 := State.trimSlot_kept hw₀ h₀; rw [e₀] at g; exact g

theorem State.oscSlot_kept {s : State} {n : Nat} (hw₀ : subMask 17087896287367280659160173649356416916821636178853222159576332862577757806245124400183696695494657 w₀ = true) (h₀ : Kept w₀ s₀ s) :
    Kept w₀ s₀ (State.oscSlot s n) := by
  refine Kept.trans (a := 17087896287367280659160173649356416916821636178853222159576332862577757806245124400183696695494657) (t := s) ?_ hw₀ h₀
  clear h₀ hw₀
  unfold State.oscSlot; try dsimp only
  repeat' first | (with_reducible first | assumption | exact Kept.refl _ _ | refine Kept.ite ?_ ?_ | refine State.updLoop_kept ?_ ?_ | apply State.wr_kept) | (show Nat.testBit _ _ = true; rfl) | (show subMask _ _ = true; rfl) | exact inFam_CTL_ENERGY | exact wrsOk_nil | apply wrsOk_cons | (intro _; try dsimp only) | split | dsimp only

theorem State.decideHead_kept {s : State} {h : Nat} (hw₀ : subMask 2048 w₀ = true) (h₀ : Kept w₀ s₀ s) :
    Kept w₀ s₀ (State.decideHead s h) := by
  refine Kept.trans (a := 2048) (t := s) ?_ hw₀ h₀
  clear h₀ hw₀
  unfold State.decideHead; try dsimp only
  repeat' first | (with_reducible first | assumption | exact Kept.refl _ _ | refine Kept.ite ?_ ?_ | refine State.updLoop_kept ?_ ?_) | (show Nat.testBit _ _ = true; rfl) | (show subMask _ _ = true; rfl) | (intro _; try dsimp only) | split | dsimp only

theorem State.decideAct_kept {s : State} {a : Nat} (hw₀ : subMask 533996758980227520598755426542388028650676130589163192486760401955554931445160137505740521736193 w₀ = true) (h₀ : Kept w₀ s₀ s) :
    Kept w₀ s₀ (State.decideAct s a) := by
  refine Kept.trans (a := 533996758980227520598755426542388028650676130589163192486760401955554931445160137505740521736193) (t := s) ?_ hw₀ h₀
  clear h₀ hw₀
  unfold State.decideAct; try dsimp only
  repeat' first | (with_reducible first | assumption | exact Kept.refl _ _ | refine Kept.ite ?_ ?_ | apply State.setB_kept | refine State.updAct_kept ?_ ?_ | refine State.foldl_kept ?_ ?_) | (show Nat.testBit _ _ = true; rfl) | (show subMask _ _ = true; rfl) | exact inFam_CTL_STATUS | exact wrsOk_nil | apply wrsOk_cons | (intro _; try dsimp only) | split | dsimp only

theorem State.upsetCoef_kept {s : State} {u : CoefUpset} (hw₀ : subMask 2048 w₀ = true) (h₀ : Kept w₀ s₀ s) :
    Kept w₀ s₀ (State.upsetCoef s u) := by
  refine Kept.trans (a := 2048) (t := s) ?_ hw₀ h₀
  clear h₀ hw₀
  unfold State.upsetCoef; try dsimp only
  repeat' first | (with_reducible first | assumption | exact Kept.refl _ _ | refine Kept.ite ?_ ?_ | refine State.updCtl_kept ?_ ?_) | (show Nat.testBit _ _ = true; rfl) | (show subMask _ _ = true; rfl) | (intro _; try dsimp only) | split | dsimp only

theorem Kept.foldl_pair {α β : Type} {w : Nat} {s : State} {l : List α} {f : State × β → α → State × β} {p : State × β}
    (hf : ∀ q x, Kept w q.1 (f q x).1) (h : Kept w s p.1) : Kept w s (l.foldl f p).1 := by
  induction l generalizing p with
  | nil => exact h
  | cons x l ih => exact ih ((hf p x).trans (subMask_refl w) h)

theorem State.coefChecks_kept {s : State} {x : LaneInputs} (hw₀ : subMask 44384713757731871763589207486775246845801570525745124763741185713468186538777900038575253928081210282933886412261172290932946634761 w₀ = true) (h₀ : Kept w₀ s₀ s) :
    Kept w₀ s₀ (State.coefChecks s x).1 := by
  refine Kept.trans (a := 44384713757731871763589207486775246845801570525745124763741185713468186538777900038575253928081210282933886412261172290932946634761) (t := s) ?_ hw₀ h₀
  unfold State.coefChecks
  extract_lets one hits inj t1 t2
  refine Kept.foldl_pair (fun q e => State.freeNext_kept rfl (Kept.refl _ _)) ?_
  refine State.forEach_kept (fun _ _ => State.raiseSrc_kept rfl (State.ctlBit_kept inFam_CTL_GSTATUS rfl rfl (Kept.refl _ _))) ?_
  exact State.updCtl_kept rfl (Kept.refl _ _)
theorem State.coefChecks_keptp {s : State} {x : LaneInputs} {a₀ : State} {b₀ : LaneInputs} (e₀ : State.coefChecks s x = (a₀, b₀)) (hw₀ : subMask 44384713757731871763589207486775246845801570525745124763741185713468186538777900038575253928081210282933886412261172290932946634761 w₀ = true) (h₀ : Kept w₀ s₀ s) : Kept w₀ s₀ a₀ := by
  have g : Kept w₀ s₀ (State.coefChecks s x).1 := State.coefChecks_kept hw₀ h₀; rw [e₀] at g; exact g

theorem execLoopComputation_kept {x : LaneInputs} {s : State} (hw₀ : subMask 44384713757731871763589207637124909959293997287779486064926949593444926255410806027109370680685110049613007867601509241910836473417 w₀ = true) (h₀ : Kept w₀ s₀ s) :
    KeptR w₀ s₀ (execLoopComputation x s) := by
  refine KeptR.next (Kept.trans (a := 44384713757731871763589207637124909959293997287779486064926949593444926255410806027109370680685110049613007867601509241910836473417) (t := s) ?_ hw₀ h₀)
  refine Kept.ite (Kept.refl _ _) ?_
  extract_lets sole x1 s1 cu t1 t2
  have k1 : Kept 44384713757731871763589207637124909959293997287779486064926949593444926255410806027109370680685110049613007867601509241910836473417 s s1 := State.when_kept (fun _ => State.injDone_kept rfl (Kept.refl _ _)) (Kept.refl _ _)
  have k2 : Kept 44384713757731871763589207637124909959293997287779486064926949593444926255410806027109370680685110049613007867601509241910836473417 s t1 := Kept.lit rfl (.inr rfl) rfl rfl rfl rfl (.inr rfl) (.inr rfl) (.inr rfl) (.inr rfl) (.inr rfl) (.inl rfl) (.inr rfl)
    (.inr rfl) (.inr rfl) (.inr rfl) (.inr rfl) (.inr rfl) (.inr rfl) (.inr rfl) (.inr rfl) (.inr rfl) (.inr rfl) (.inr rfl) (.inr rfl) k1
  have k3 : Kept 44384713757731871763589207637124909959293997287779486064926949593444926255410806027109370680685110049613007867601509241910836473417 s (State.coefChecks (t2.forEach x1.upsets (fun u t => t.upsetCoef u)) x1).1 :=
    State.coefChecks_kept rfl (State.forEach_kept (fun _ _ => State.upsetCoef_kept rfl (Kept.refl _ _)) (State.updWrp_kept rfl k2))
  revert k3
  generalize State.coefChecks (t2.forEach x1.upsets (fun u t => t.upsetCoef u)) x1 = q
  intro k3
  obtain ⟨t, x2⟩ := q
  refine State.maxF_kept inFam_CTL_SLOT_STAT rfl rfl (State.wr_kept inFam_CTL_SLOT_STAT rfl rfl (State.slot31_kept rfl ?_))
  refine State.forEach_kept (fun _ _ => State.decideAct_kept rfl (Kept.refl _ _)) ?_
  refine State.forEach_kept (fun _ _ => State.decideHead_kept rfl (Kept.refl _ _)) ?_
  refine State.forEach_kept (fun _ _ => State.oscSlot_kept rfl (Kept.refl _ _)) ?_
  refine Kept.foldl_pair (fun _ _ => State.trimSlot_kept rfl (Kept.refl _ _)) ?_
  refine Kept.foldl_pair (fun _ _ => State.coarseSlot_kept rfl (Kept.refl _ _)) ?_
  refine State.spindleSlot_kept rfl ?_
  exact State.forEach_kept (fun _ _ => State.profSlot_kept rfl (Kept.refl _ _)) k3

theorem execCtlLate_kept {s : State} (hw₀ : subMask 44384713757731871763589207486779758584418194468066663648340042349922256101405247878388574566717332766549666570262958292601078417929 w₀ = true) (h₀ : Kept w₀ s₀ s) :
    KeptR w₀ s₀ (execCtlLate s) := by
  refine ⟨fun t₁ e₁ => Kept.trans (a := 44384713757731871763589207486779758584418194468066663648340042349922256101405247878388574566717332766549666570262958292601078417929) (t := s) ?_ hw₀ h₀⟩; refine KeptR.keep (?_ : KeptR 44384713757731871763589207486779758584418194468066663648340042349922256101405247878388574566717332766549666570262958292601078417929 s (execCtlLate s)) t₁ e₁; clear e₁ t₁
  clear h₀ hw₀
  unfold execCtlLate; try dsimp only
  repeat' first | (with_reducible first | assumption | exact Kept.refl _ _ | refine KeptR.next ?_ | exact KeptR.fault | exact KeptR.refused | refine KeptR.ite ?_ ?_ | refine Kept.ite ?_ ?_ | apply State.ctlBit_kept | refine State.forEach_kept ?_ ?_ | refine State.holdLoop_kept ?_ ?_ | apply State.inc_kept | refine State.raiseSrc_kept ?_ ?_ | refine State.updWrp_kept ?_ ?_) | (show Nat.testBit _ _ = true; rfl) | (show subMask _ _ = true; rfl) | exact inFam_CTL_GSTATUS | exact inFam_CTL_LANE_CNT | exact wrsOk_nil | apply wrsOk_cons | (intro _; try dsimp only) | split | dsimp only | refine Kept.lit rfl (.inr rfl) rfl rfl rfl rfl (.inr rfl) (.inr rfl) (.inr rfl) (.inl rfl) (.inr rfl) (.inl rfl) (.inr rfl) (.inr rfl) (.inr rfl) (.inr rfl) (.inr rfl) (.inl rfl) (.inr rfl) (.inr rfl) (.inr rfl) (.inr rfl) (.inl rfl) (.inl rfl) (.inr rfl) ?_

theorem State.loadStep_kept {s : State} (hw₀ : subMask 1125899906842625 w₀ = true) (h₀ : Kept w₀ s₀ s) :
    Kept w₀ s₀ (State.loadStep s) := by
  refine Kept.trans (a := 1125899906842625) (t := s) ?_ hw₀ h₀
  clear h₀ hw₀
  unfold State.loadStep; try dsimp only
  repeat' first | (with_reducible first | assumption | exact Kept.refl _ _ | refine Kept.ite ?_ ?_ | refine State.when_kept ?_ ?_ | apply State.wr_kept) | (show Nat.testBit _ _ = true; rfl) | (show subMask _ _ = true; rfl) | exact inFam_SYS_START | exact wrsOk_nil | apply wrsOk_cons | (intro _; try dsimp only) | split | dsimp only

theorem execTrimAutoClose_kept {h : Head} {s : State} (hw₀ : subMask 533996758980227550241530271295334057084848292813267602923876476359539325546301644657401616402945 w₀ = true) (h₀ : Kept w₀ s₀ s) :
    KeptR w₀ s₀ (execTrimAutoClose h s) := by
  refine ⟨fun t₁ e₁ => Kept.trans (a := 533996758980227550241530271295334057084848292813267602923876476359539325546301644657401616402945) (t := s) ?_ hw₀ h₀⟩; refine KeptR.keep (?_ : KeptR 533996758980227550241530271295334057084848292813267602923876476359539325546301644657401616402945 s (execTrimAutoClose h s)) t₁ e₁; clear e₁ t₁
  clear h₀ hw₀
  unfold execTrimAutoClose; try dsimp only
  repeat' first | (with_reducible first | assumption | exact Kept.refl _ _ | refine KeptR.next ?_ | exact KeptR.fault | exact KeptR.refused | refine KeptR.ite ?_ ?_ | refine Kept.ite ?_ ?_ | refine State.closeLoop_kept ?_ ?_ | refine State.loadStep_kept ?_ ?_ | apply State.setB_kept | refine State.setInh_kept ?_ ?_) | (show Nat.testBit _ _ = true; rfl) | (show subMask _ _ = true; rfl) | exact inFam_CTL_STATUS | exact wrsOk_nil | apply wrsOk_cons | (intro _; try dsimp only) | split | dsimp only

theorem execSeekTimeout_kept {a : Act} {s : State} (hw₀ : subMask 44384376587918356619345083452686404369799029425763537376020691987635132731757780696327117771122614377221054743923792740401170366025 w₀ = true) (h₀ : Kept w₀ s₀ s) :
    KeptR w₀ s₀ (execSeekTimeout a s) := by
  refine ⟨fun t₁ e₁ => Kept.trans (a := 44384376587918356619345083452686404369799029425763537376020691987635132731757780696327117771122614377221054743923792740401170366025) (t := s) ?_ hw₀ h₀⟩; refine KeptR.keep (?_ : KeptR 44384376587918356619345083452686404369799029425763537376020691987635132731757780696327117771122614377221054743923792740401170366025 s (execSeekTimeout a s)) t₁ e₁; clear e₁ t₁
  clear h₀ hw₀
  unfold execSeekTimeout; try dsimp only
  repeat' first | (with_reducible first | assumption | exact Kept.refl _ _ | refine KeptR.next ?_ | exact KeptR.fault | exact KeptR.refused | refine KeptR.ite ?_ ?_ | refine Kept.ite ?_ ?_ | refine State.retract_kept ?_ ?_ | refine State.seekStart_kept ?_ ?_ | apply State.setB_kept | refine State.updAct_kept ?_ ?_) | (show Nat.testBit _ _ = true; rfl) | (show subMask _ _ = true; rfl) | exact inFam_CTL_STATUS | exact wrsOk_nil | apply wrsOk_cons | (intro _; try dsimp only) | split | dsimp only | refine Kept.lit rfl (.inr rfl) rfl rfl rfl rfl (.inl rfl) (.inr rfl) (.inr rfl) (.inl rfl) (.inl rfl) (.inl rfl) (.inl rfl) (.inl rfl) (.inr rfl) (.inr rfl) (.inr rfl) (.inr rfl) (.inr rfl) (.inl rfl) (.inr rfl) (.inr rfl) (.inl rfl) (.inl rfl) (.inr rfl) ?_

theorem execLoadFail_kept {a : Act} {s : State} (hw₀ : subMask 44384376587918356619345083452686370194006454691202219055673393274801299088485422989882798618456889221705442253674992373007770988105 w₀ = true) (h₀ : Kept w₀ s₀ s) :
    KeptR w₀ s₀ (execLoadFail a s) := by
  refine ⟨fun t₁ e₁ => Kept.trans (a := 44384376587918356619345083452686370194006454691202219055673393274801299088485422989882798618456889221705442253674992373007770988105) (t := s) ?_ hw₀ h₀⟩; refine KeptR.keep (?_ : KeptR 44384376587918356619345083452686370194006454691202219055673393274801299088485422989882798618456889221705442253674992373007770988105 s (execLoadFail a s)) t₁ e₁; clear e₁ t₁
  clear h₀ hw₀
  unfold execLoadFail; try dsimp only
  repeat' first | (with_reducible first | assumption | exact Kept.refl _ _ | refine KeptR.next ?_ | exact KeptR.fault | exact KeptR.refused | refine KeptR.ite ?_ ?_ | refine Kept.ite ?_ ?_ | refine State.retract_kept ?_ ?_ | apply State.setB_kept) | (show Nat.testBit _ _ = true; rfl) | (show subMask _ _ = true; rfl) | exact inFam_CTL_STATUS | exact wrsOk_nil | apply wrsOk_cons | (intro _; try dsimp only) | split | dsimp only

theorem execTrimSatSet_kept {h : Head} {s : State} (hw₀ : subMask 44384713757731871763589207486774700567117133752991581879714677603460905331268469548733750409306084154223412114582009944140400427529 w₀ = true) (h₀ : Kept w₀ s₀ s) :
    KeptR w₀ s₀ (execTrimSatSet h s) := by
  refine ⟨fun t₁ e₁ => Kept.trans (a := 44384713757731871763589207486774700567117133752991581879714677603460905331268469548733750409306084154223412114582009944140400427529) (t := s) ?_ hw₀ h₀⟩; refine KeptR.keep (?_ : KeptR 44384713757731871763589207486774700567117133752991581879714677603460905331268469548733750409306084154223412114582009944140400427529 s (execTrimSatSet h s)) t₁ e₁; clear e₁ t₁
  clear h₀ hw₀
  unfold execTrimSatSet; try dsimp only
  repeat' first | (with_reducible first | assumption | exact Kept.refl _ _ | refine KeptR.next ?_ | exact KeptR.fault | exact KeptR.refused | refine KeptR.ite ?_ ?_ | refine Kept.ite ?_ ?_ | refine State.raiseSrc_kept ?_ ?_ | apply State.setB_kept | refine State.setInh_kept ?_ ?_) | (show Nat.testBit _ _ = true; rfl) | (show subMask _ _ = true; rfl) | exact inFam_CTL_STATUS | exact wrsOk_nil | apply wrsOk_cons | (intro _; try dsimp only) | split | dsimp only

theorem execTrimSatClear_kept {h : Head} {s : State} (hw₀ : subMask 533996758980227550241530271295334057084848292813267602923876476359539325546301643531501709558273 w₀ = true) (h₀ : Kept w₀ s₀ s) :
    KeptR w₀ s₀ (execTrimSatClear h s) := by
  refine ⟨fun t₁ e₁ => Kept.trans (a := 533996758980227550241530271295334057084848292813267602923876476359539325546301643531501709558273) (t := s) ?_ hw₀ h₀⟩; refine KeptR.keep (?_ : KeptR 533996758980227550241530271295334057084848292813267602923876476359539325546301643531501709558273 s (execTrimSatClear h s)) t₁ e₁; clear e₁ t₁
  clear h₀ hw₀
  unfold execTrimSatClear; try dsimp only
  repeat' first | (with_reducible first | assumption | exact Kept.refl _ _ | refine KeptR.next ?_ | exact KeptR.fault | exact KeptR.refused | refine KeptR.ite ?_ ?_ | refine Kept.ite ?_ ?_ | apply State.clr_kept | refine State.setInh_kept ?_ ?_ | apply State.wr_kept) | (show Nat.testBit _ _ = true; rfl) | (show subMask _ _ = true; rfl) | exact inFam_CTL_STATUS | exact wrsOk_nil | apply wrsOk_cons | (intro _; try dsimp only) | split | dsimp only

theorem State.oscCondition_kept {s : State} {n : Nat} {on : Bool} (hw₀ : subMask 512 w₀ = true) (h₀ : Kept w₀ s₀ s) :
    Kept w₀ s₀ (State.oscCondition s n on) := by
  refine Kept.trans (a := 512) (t := s) ?_ hw₀ h₀
  clear h₀ hw₀
  unfold State.oscCondition; try dsimp only
  repeat' first | (with_reducible first | assumption | exact Kept.refl _ _ | refine Kept.ite ?_ ?_ | refine State.updHead_kept ?_ ?_ | refine State.updPort_kept ?_ ?_ | refine State.updWrp_kept ?_ ?_) | (show Nat.testBit _ _ = true; rfl) | (show subMask _ _ = true; rfl) | (intro _; try dsimp only) | split | dsimp only

theorem execOscStage1_kept {n : LoopN} {s : State} (hw₀ : subMask 44384713757731871763589207486774837270287432691722581669709994228418162249408104549380449603964168464567603380294949536537642674761 w₀ = true) (h₀ : Kept w₀ s₀ s) :
    KeptR w₀ s₀ (execOscStage1 n s) := by
  refine ⟨fun t₁ e₁ => Kept.trans (a := 44384713757731871763589207486774837270287432691722581669709994228418162249408104549380449603964168464567603380294949536537642674761) (t := s) ?_ hw₀ h₀⟩; refine KeptR.keep (?_ : KeptR 44384713757731871763589207486774837270287432691722581669709994228418162249408104549380449603964168464567603380294949536537642674761 s (execOscStage1 n s)) t₁ e₁; clear e₁ t₁
  clear h₀ hw₀
  unfold execOscStage1; try dsimp only
  repeat' first | (with_reducible first | assumption | exact Kept.refl _ _ | refine KeptR.next ?_ | exact KeptR.fault | exact KeptR.refused | refine KeptR.ite ?_ ?_ | refine Kept.ite ?_ ?_ | refine State.dropGates_kept ?_ ?_ | apply State.inc_kept | refine State.oscCondition_kept ?_ ?_ | refine State.raiseSrc_kept ?_ ?_ | refine State.updLoop_kept ?_ ?_ | apply State.wrpBits_kept | refine State.wrs_kept ?_ ?_ ?_) | (show Nat.testBit _ _ = true; rfl) | (show subMask _ _ = true; rfl) | exact inFam_CTL_CNT | exact inFam_CTL_STATUS | exact inFam_WRP_STATUS | exact wrsOk_nil | apply wrsOk_cons | (intro _; try dsimp only) | split | dsimp only

theorem execOscStage2_kept {n : LoopN} {s : State} (hw₀ : subMask 2883598480537446287971885332049292413019527888682884605361199780035484103252725977964853929944519038210856350899207795847683880650761 w₀ = true) (h₀ : Kept w₀ s₀ s) :
    KeptR w₀ s₀ (execOscStage2 n s) := by
  refine ⟨fun t₁ e₁ => Kept.trans (a := 2883598480537446287971885332049292413019527888682884605361199780035484103252725977964853929944519038210856350899207795847683880650761) (t := s) ?_ hw₀ h₀⟩; refine KeptR.keep (?_ : KeptR 2883598480537446287971885332049292413019527888682884605361199780035484103252725977964853929944519038210856350899207795847683880650761 s (execOscStage2 n s)) t₁ e₁; clear e₁ t₁
  clear h₀ hw₀
  unfold execOscStage2; try dsimp only
  repeat' first | (with_reducible first | assumption | exact Kept.refl _ _ | refine KeptR.next ?_ | exact KeptR.fault | exact KeptR.refused | refine KeptR.ite ?_ ?_ | refine Kept.ite ?_ ?_ | refine State.raiseSrc_kept ?_ ?_ | refine State.updLoop_kept ?_ ?_ | refine State.wrs_kept ?_ ?_ ?_) | (show Nat.testBit _ _ = true; rfl) | (show subMask _ _ = true; rfl) | exact inFam_CTL_CFG | exact inFam_CTL_STATUS | exact inFam_CTL_CFG_hold | exact wrsOk_nil | apply wrsOk_cons | (intro _; try dsimp only) | split | dsimp only

theorem execOscStage3_kept {n : LoopN} {s : State} (hw₀ : subMask 44384713757731871763593907011022276787238029665316285900278299083033460489070896626061259611145680481749119045752588318509707705929 w₀ = true) (h₀ : Kept w₀ s₀ s) :
    KeptR w₀ s₀ (execOscStage3 n s) := by
  refine ⟨fun t₁ e₁ => Kept.trans (a := 44384713757731871763593907011022276787238029665316285900278299083033460489070896626061259611145680481749119045752588318509707705929) (t := s) ?_ hw₀ h₀⟩; refine KeptR.keep (?_ : KeptR 44384713757731871763593907011022276787238029665316285900278299083033460489070896626061259611145680481749119045752588318509707705929 s (execOscStage3 n s)) t₁ e₁; clear e₁ t₁
  clear h₀ hw₀
  unfold execOscStage3; try dsimp only
  repeat' first | (with_reducible first | assumption | exact Kept.refl _ _ | refine KeptR.next ?_ | exact KeptR.fault | exact KeptR.refused | refine KeptR.ite ?_ ?_ | refine Kept.ite ?_ ?_ | apply State.raiseBit_kept | refine State.raiseSrc_kept ?_ ?_ | refine State.retract_kept ?_ ?_ | refine State.retractAll_kept ?_ ?_ | apply State.setB_kept | refine State.setOut_kept ?_ ?_ | refine State.setProf_kept ?_ ?_ | refine State.updLoop_kept ?_ ?_ | refine State.when_kept ?_ ?_ | apply State.wr_kept | refine State.wrs_kept ?_ ?_ ?_) | (show Nat.testBit _ _ = true; rfl) | (show subMask _ _ = true; rfl) | exact inFam_CTL_STATUS | exact inFam_MOT_SP_STAT | exact inFam_MOT_STATUS | exact inFam_PROF_STAT | exact wrsOk_nil | apply wrsOk_cons | (intro _; try dsimp only) | split | dsimp only | refine Kept.lit rfl (.inr rfl) rfl rfl rfl rfl (.inl rfl) (.inr rfl) (.inr rfl) (.inl rfl) (.inl rfl) (.inl rfl) (.inl rfl) (.inl rfl) (.inr rfl) (.inr rfl) (.inr rfl) (.inl rfl) (.inr rfl) (.inl rfl) (.inr rfl) (.inr rfl) (.inl rfl) (.inl rfl) (.inr rfl) ?_

theorem execOscCountReset_kept {n : LoopN} {s : State} (hw₀ : subMask 533996758980227520598755426542388028650676130589163192486760401955554931445160137505740521736705 w₀ = true) (h₀ : Kept w₀ s₀ s) :
    KeptR w₀ s₀ (execOscCountReset n s) := by
  refine ⟨fun t₁ e₁ => Kept.trans (a := 533996758980227520598755426542388028650676130589163192486760401955554931445160137505740521736705) (t := s) ?_ hw₀ h₀⟩; refine KeptR.keep (?_ : KeptR 533996758980227520598755426542388028650676130589163192486760401955554931445160137505740521736705 s (execOscCountReset n s)) t₁ e₁; clear e₁ t₁
  clear h₀ hw₀
  unfold execOscCountReset; try dsimp only
  repeat' first | (with_reducible first | assumption | exact Kept.refl _ _ | refine KeptR.next ?_ | exact KeptR.fault | exact KeptR.refused | refine KeptR.ite ?_ ?_ | refine Kept.ite ?_ ?_ | refine State.oscCondition_kept ?_ ?_ | refine State.updLoop_kept ?_ ?_ | apply State.wr_kept) | (show Nat.testBit _ _ = true; rfl) | (show subMask _ _ = true; rfl) | exact inFam_CTL_STATUS | exact wrsOk_nil | apply wrsOk_cons | (intro _; try dsimp only) | split | dsimp only

theorem State.ctlRefuse_kept {s : State} {w : Initiator} {n : Nat} (hw₀ : subMask 533996758980227520598755426542388028650676130589163192486760401955554931445160137510413450346501 w₀ = true) (h₀ : Kept w₀ s₀ s) :
    Kept w₀ s₀ (State.ctlRefuse s w n) := by
  refine Kept.trans (a := 533996758980227520598755426542388028650676130589163192486760401955554931445160137510413450346501) (t := s) ?_ hw₀ h₀
  clear h₀ hw₀
  unfold State.ctlRefuse; try dsimp only
  repeat' first | (with_reducible first | assumption | exact Kept.refl _ _ | refine Kept.ite ?_ ?_ | refine State.refuseW_kept ?_ ?_ | apply State.setB_kept) | (show Nat.testBit _ _ = true; rfl) | (show subMask _ _ = true; rfl) | exact inFam_CTL_STATUS | exact wrsOk_nil | apply wrsOk_cons | (intro _; try dsimp only) | split | dsimp only

theorem execCtlClose_kept {w : Initiator} {n : LoopN} {s : State} (hw₀ : subMask 533996758980227550241530271295334057084848292813267602923876476359539325546301643536174638172677 w₀ = true) (h₀ : Kept w₀ s₀ s) :
    KeptR w₀ s₀ (execCtlClose w n s) := by
  refine ⟨fun t₁ e₁ => Kept.trans (a := 533996758980227550241530271295334057084848292813267602923876476359539325546301643536174638172677) (t := s) ?_ hw₀ h₀⟩; refine KeptR.keep (?_ : KeptR 533996758980227550241530271295334057084848292813267602923876476359539325546301643536174638172677 s (execCtlClose w n s)) t₁ e₁; clear e₁ t₁
  clear h₀ hw₀
  unfold execCtlClose; try dsimp only
  repeat' first | (with_reducible first | assumption | exact Kept.refl _ _ | refine KeptR.next ?_ | exact KeptR.fault | exact KeptR.refused | refine KeptR.ite ?_ ?_ | refine Kept.ite ?_ ?_ | refine State.closeLoop_kept ?_ ?_ | refine State.coarseAutoClose_kept ?_ ?_ | refine State.ctlRefuse_kept ?_ ?_ | refine State.setInh_kept ?_ ?_) | (show Nat.testBit _ _ = true; rfl) | (show subMask _ _ = true; rfl) | (intro _; try dsimp only) | split | dsimp only

theorem execCtlOpen_kept {w : Initiator} {n : LoopN} {s : State} (hw₀ : subMask 4805970830822047685388798838881492257856085175302468732380843617599994383006441237556337624219653 w₀ = true) (h₀ : Kept w₀ s₀ s) :
    KeptR w₀ s₀ (execCtlOpen w n s) := by
  refine ⟨fun t₁ e₁ => Kept.trans (a := 4805970830822047685388798838881492257856085175302468732380843617599994383006441237556337624219653) (t := s) ?_ hw₀ h₀⟩; refine KeptR.keep (?_ : KeptR 4805970830822047685388798838881492257856085175302468732380843617599994383006441237556337624219653 s (execCtlOpen w n s)) t₁ e₁; clear e₁ t₁
  clear h₀ hw₀
  unfold execCtlOpen; try dsimp only
  repeat' first | (with_reducible first | assumption | exact Kept.refl _ _ | refine KeptR.next ?_ | exact KeptR.fault | exact KeptR.refused | refine KeptR.ite ?_ ?_ | refine Kept.ite ?_ ?_ | refine State.ctlRefuse_kept ?_ ?_ | refine State.openLoop_kept ?_ ?_ | refine State.setOut_kept ?_ ?_) | (show Nat.testBit _ _ = true; rfl) | (show subMask _ _ = true; rfl) | (intro _; try dsimp only) | split | dsimp only

theorem execCtlResetOsc_kept {w : Initiator} {n : LoopN} {s : State} (hw₀ : subMask 17621893046347508179758929075898804945472312309442385352063093264533312737690284537689437217229313 w₀ = true) (h₀ : Kept w₀ s₀ s) :
    KeptR w₀ s₀ (execCtlResetOsc w n s) := by
  refine ⟨fun t₁ e₁ => Kept.trans (a := 17621893046347508179758929075898804945472312309442385352063093264533312737690284537689437217229313) (t := s) ?_ hw₀ h₀⟩; refine KeptR.keep (?_ : KeptR 17621893046347508179758929075898804945472312309442385352063093264533312737690284537689437217229313 s (execCtlResetOsc w n s)) t₁ e₁; clear e₁ t₁
  clear h₀ hw₀
  unfold execCtlResetOsc; try dsimp only
  repeat' first | (with_reducible first | assumption | exact Kept.refl _ _ | refine KeptR.next ?_ | exact KeptR.fault | exact KeptR.refused | refine KeptR.ite ?_ ?_ | refine Kept.ite ?_ ?_ | refine State.oscCondition_kept ?_ ?_ | refine State.updLoop_kept ?_ ?_ | apply State.wr_kept | refine State.wrs_kept ?_ ?_ ?_) | (show Nat.testBit _ _ = true; rfl) | (show subMask _ _ = true; rfl) | exact inFam_CTL_ENERGY | exact inFam_CTL_STATUS | exact wrsOk_nil | apply wrsOk_cons | (intro _; try dsimp only) | split | dsimp only

theorem execCtlCoefCommit_kept {w : Initiator} {v : Word} {s : State} (hw₀ : subMask 44291827176855991468543170099131832648401680975587551837621854779801548233787362445276146507645454341 w₀ = true) (h₀ : Kept w₀ s₀ s) :
    KeptR w₀ s₀ (execCtlCoefCommit w v s) := by
  refine ⟨fun t₁ e₁ => Kept.trans (a := 44291827176855991468543170099131832648401680975587551837621854779801548233787362445276146507645454341) (t := s) ?_ hw₀ h₀⟩; refine KeptR.keep (?_ : KeptR 44291827176855991468543170099131832648401680975587551837621854779801548233787362445276146507645454341 s (execCtlCoefCommit w v s)) t₁ e₁; clear e₁ t₁
  clear h₀ hw₀
  unfold execCtlCoefCommit; try dsimp only
  repeat' first | (with_reducible first | assumption | exact Kept.refl _ _ | refine KeptR.next ?_ | exact KeptR.fault | exact KeptR.refused | refine KeptR.ite ?_ ?_ | refine Kept.ite ?_ ?_ | apply State.ctlBit_kept | refine State.refuseW_kept ?_ ?_ | refine State.updCtl_kept ?_ ?_ | apply State.wr_kept) | (show Nat.testBit _ _ = true; rfl) | (show subMask _ _ = true; rfl) | exact inFam_CTL_COEF_ADDR | exact inFam_CTL_COEF_HI | exact inFam_CTL_GSTATUS | exact wrsOk_nil | apply wrsOk_cons | (intro _; try dsimp only) | split | dsimp only

theorem execProfGo_kept {w : Initiator} {g : Fin 5} {s : State} (hw₀ : subMask 2239783723941209767166475632489426625393765430764344767917451071589209030674550543212421442763818535429 w₀ = true) (h₀ : Kept w₀ s₀ s) :
    KeptR w₀ s₀ (execProfGo w g s) := by
  refine ⟨fun t₁ e₁ => Kept.trans (a := 2239783723941209767166475632489426625393765430764344767917451071589209030674550543212421442763818535429) (t := s) ?_ hw₀ h₀⟩; refine KeptR.keep (?_ : KeptR 2239783723941209767166475632489426625393765430764344767917451071589209030674550543212421442763818535429 s (execProfGo w g s)) t₁ e₁; clear e₁ t₁
  clear h₀ hw₀
  unfold execProfGo; try dsimp only
  repeat' first | (with_reducible first | assumption | exact Kept.refl _ _ | refine KeptR.next ?_ | exact KeptR.fault | exact KeptR.refused | refine KeptR.ite ?_ ?_ | refine Kept.ite ?_ ?_ | refine State.plan_kept ?_ ?_ | refine State.refuseW_kept ?_ ?_ | refine State.seekStart_kept ?_ ?_ | apply State.setB_kept | refine State.updAct_kept ?_ ?_) | (show Nat.testBit _ _ = true; rfl) | (show subMask _ _ = true; rfl) | exact inFam_PROF_STAT | exact wrsOk_nil | apply wrsOk_cons | (intro _; try dsimp only) | split | dsimp only

theorem State.profStop_kept {s : State} {g : Nat} (hw₀ : subMask 2239744742177804210557442280568444278121645497234649534899989100963791871180160945380877493271615506433 w₀ = true) (h₀ : Kept w₀ s₀ s) :
    Kept w₀ s₀ (State.profStop s g) := by
  refine Kept.trans (a := 2239744742177804210557442280568444278121645497234649534899989100963791871180160945380877493271615506433) (t := s) ?_ hw₀ h₀
  clear h₀ hw₀
  unfold State.profStop; try dsimp only
  repeat' first | (with_reducible first | assumption | exact Kept.refl _ _ | refine Kept.ite ?_ ?_ | refine State.freeNext_kept ?_ ?_ | refine State.setProf_kept ?_ ?_ | apply State.wr_kept) | (show Nat.testBit _ _ = true; rfl) | (show subMask _ _ = true; rfl) | exact inFam_PROF_STAT | exact wrsOk_nil | apply wrsOk_cons | (intro _; try dsimp only) | split | dsimp only

theorem execProfStop_kept {w : Initiator} {g : Fin 5} {s : State} (hw₀ : subMask 2239744742177804210557442280568444278121645497234649534899989100963791871180160945380877493271615506433 w₀ = true) (h₀ : Kept w₀ s₀ s) :
    KeptR w₀ s₀ (execProfStop w g s) := by
  refine ⟨fun t₁ e₁ => Kept.trans (a := 2239744742177804210557442280568444278121645497234649534899989100963791871180160945380877493271615506433) (t := s) ?_ hw₀ h₀⟩; refine KeptR.keep (?_ : KeptR 2239744742177804210557442280568444278121645497234649534899989100963791871180160945380877493271615506433 s (execProfStop w g s)) t₁ e₁; clear e₁ t₁
  clear h₀ hw₀
  unfold execProfStop; try dsimp only
  repeat' first | (with_reducible first | assumption | exact Kept.refl _ _ | refine KeptR.next ?_ | exact KeptR.fault | exact KeptR.refused | refine KeptR.ite ?_ ?_ | refine Kept.ite ?_ ?_ | refine State.profStop_kept ?_ ?_) | (show Nat.testBit _ _ = true; rfl) | (show subMask _ _ = true; rfl) | (intro _; try dsimp only) | split | dsimp only

end Sys2Proof.Machine
end

