-- ==== Sys2Proof/Laws/KeptReadChannel.lean ====
section
/-! SUPPORT. What the operations and meanings of Machine/ReadChannel.lean keep (the relation Kept). -/

set_option Elab.async false

namespace Sys2Proof.Machine
open Reg
set_option linter.unusedVariables false
set_option linter.unusedTactic false
set_option linter.unreachableTactic false
set_option maxHeartbeats 400000

variable {w₀ : Nat} {s₀ : State}

theorem State.updCur_kept {s : State} {n : Nat} {f : RSlot → RSlot} (hw₀ : subMask 128 w₀ = true) (h₀ : Kept w₀ s₀ s) :
    Kept w₀ s₀ (State.updCur s n f) := by
  refine Kept.trans (a := 128) (t := s) ?_ hw₀ h₀
  clear h₀ hw₀
  unfold State.updCur; try dsimp only
  repeat' first | (with_reducible first | assumption | exact Kept.refl _ _ | refine Kept.ite ?_ ?_ | refine State.updChan_kept ?_ ?_) | (show Nat.testBit _ _ = true; rfl) | (show subMask _ _ = true; rfl) | (intro _; try dsimp only) | split | dsimp only

theorem State.rchBit_kept {s : State} {n : Nat} {f : Nat → Fld} {i_ : Nat} (hf_ : inFam i_ (f n).addr) (hi_ : w₀.testBit (32 + i_) = true) (hw₀ : subMask 4194305 w₀ = true) (h₀ : Kept w₀ s₀ s) :
    Kept w₀ s₀ (State.rchBit s n f) := by
  unfold State.rchBit; try dsimp only
  repeat' first | (with_reducible first | assumption | exact Kept.refl _ _ | refine Kept.ite ?_ ?_ | apply State.raiseBit_kept) | exact hi_ | exact testBit_sub hw₀ rfl | exact subMask_trans rfl hw₀ | exact hf_ _ | exact hf_ | exact wrsOk_nil | apply wrsOk_cons | (intro _; try dsimp only) | split | dsimp only

theorem State.setSpareMap_kept {s : State} {a pos : Nat} {sub : Bool} (hw₀ : subMask 27606985387162255149739023449108101809804435888681546220650096895197185 w₀ = true) (h₀ : Kept w₀ s₀ s) :
    Kept w₀ s₀ (State.setSpareMap s a pos sub) := by
  refine Kept.trans (a := 27606985387162255149739023449108101809804435888681546220650096895197185) (t := s) ?_ hw₀ h₀
  clear h₀ hw₀
  unfold State.setSpareMap; try dsimp only
  repeat' first | (with_reducible first | assumption | exact Kept.refl _ _ | refine Kept.ite ?_ ?_ | apply State.wr_kept) | (show Nat.testBit _ _ = true; rfl) | (show subMask _ _ = true; rfl) | exact inFam_RCH_SPARE_MAP | exact wrsOk_nil | apply wrsOk_cons | (intro _; try dsimp only) | split | dsimp only

theorem State.setRole_kept {s : State} {n pos role : Nat} (hw₀ : subMask 26959946667150639794667015087019630673637144422540572481103610249217 w₀ = true) (h₀ : Kept w₀ s₀ s) :
    Kept w₀ s₀ (State.setRole s n pos role) := by
  refine Kept.trans (a := 26959946667150639794667015087019630673637144422540572481103610249217) (t := s) ?_ hw₀ h₀
  clear h₀ hw₀
  unfold State.setRole; try dsimp only
  repeat' first | (with_reducible first | assumption | exact Kept.refl _ _ | refine Kept.ite ?_ ?_ | refine State.wrs_kept ?_ ?_ ?_) | (show Nat.testBit _ _ = true; rfl) | (show subMask _ _ = true; rfl) | exact inFam_RCH_MAP | exact wrsOk_nil | apply wrsOk_cons | (intro _; try dsimp only) | split | dsimp only

theorem State.spareIdle_kept {s : State} {a : Nat} (hw₀ : subMask 27633945333829405789533690464195121440478073033104086793131200505446401 w₀ = true) (h₀ : Kept w₀ s₀ s) :
    Kept w₀ s₀ (State.spareIdle s a) := by
  refine Kept.trans (a := 27633945333829405789533690464195121440478073033104086793131200505446401) (t := s) ?_ hw₀ h₀
  clear h₀ hw₀
  unfold State.spareIdle; try dsimp only
  repeat' first | (with_reducible first | assumption | exact Kept.refl _ _ | refine Kept.ite ?_ ?_ | refine State.setRole_kept ?_ ?_ | refine State.setSpareMap_kept ?_ ?_) | (show Nat.testBit _ _ = true; rfl) | (show subMask _ _ = true; rfl) | (intro _; try dsimp only) | split | dsimp only

theorem State.finishRelease_kept {s : State} {h : Nat} (hw₀ : subMask 27633945333829405789533690464195121440478073033104086793131200505446529 w₀ = true) (h₀ : Kept w₀ s₀ s) :
    Kept w₀ s₀ (State.finishRelease s h) := by
  refine Kept.trans (a := 27633945333829405789533690464195121440478073033104086793131200505446529) (t := s) ?_ hw₀ h₀
  clear h₀ hw₀
  unfold State.finishRelease; try dsimp only
  repeat' first | (with_reducible first | assumption | exact Kept.refl _ _ | refine Kept.ite ?_ ?_ | refine State.setRole_kept ?_ ?_ | refine State.spareIdle_kept ?_ ?_ | refine State.updChan_kept ?_ ?_) | (show Nat.testBit _ _ = true; rfl) | (show subMask _ _ = true; rfl) | (intro _; try dsimp only) | split | dsimp only

theorem State.channelOpen_kept {s : State} {n h : Nat} {d : SDesc} {frags : Nat} {first final : Bool} {rc cw : Nat} (hw₀ : subMask 130 w₀ = true) (h₀ : Kept w₀ s₀ s) :
    Kept w₀ s₀ (State.channelOpen s n h d frags first final rc cw) := by
  refine Kept.trans (a := 130) (t := s) ?_ hw₀ h₀
  clear h₀ hw₀
  unfold State.channelOpen; try dsimp only
  repeat' first | (with_reducible first | assumption | exact Kept.refl _ _ | refine Kept.ite ?_ ?_ | refine State.updChan_kept ?_ ?_) | (show Nat.testBit _ _ = true; rfl) | (show subMask _ _ = true; rfl) | (intro _; try dsimp only) | split | dsimp only | refine Kept.lit rfl (.inl rfl) rfl rfl rfl rfl (.inr rfl) (.inl rfl) (.inr rfl) (.inr rfl) (.inr rfl) (.inr rfl) (.inr rfl) (.inr rfl) (.inr rfl) (.inr rfl) (.inr rfl) (.inr rfl) (.inr rfl) (.inr rfl) (.inr rfl) (.inr rfl) (.inr rfl) (.inr rfl) (.inr rfl) ?_

theorem State.channelClose_kept {s : State} {n : Nat} {final : Bool} {cw : Nat} (hw₀ : subMask 128 w₀ = true) (h₀ : Kept w₀ s₀ s) :
    Kept w₀ s₀ (State.channelClose s n final cw) := by
  refine Kept.trans (a := 128) (t := s) ?_ hw₀ h₀
  clear h₀ hw₀
  unfold State.channelClose; try dsimp only
  repeat' first | (with_reducible first | assumption | exact Kept.refl _ _ | refine Kept.ite ?_ ?_ | refine State.updChan_kept ?_ ?_) | (show Nat.testBit _ _ = true; rfl) | (show subMask _ _ = true; rfl) | (intro _; try dsimp only) | split | dsimp only

theorem State.takeSlot_kept {s : State} {n : Nat} (hw₀ : subMask 13479973333575319897333507543509815336818572211270286240551805124753 w₀ = true) (h₀ : Kept w₀ s₀ s) :
    Kept w₀ s₀ (State.takeSlot s n) := by
  refine Kept.trans (a := 13479973333575319897333507543509815336818572211270286240551805124753) (t := s) ?_ hw₀ h₀
  clear h₀ hw₀
  unfold State.takeSlot; try dsimp only
  repeat' first | (with_reducible first | assumption | exact Kept.refl _ _ | refine Kept.ite ?_ ?_ | refine State.putSlot_kept ?_ ?_ | refine State.updChan_kept ?_ ?_ | refine State.wrs_kept ?_ ?_ ?_) | (show Nat.testBit _ _ = true; rfl) | (show subMask _ _ = true; rfl) | exact inFam_RCH_RET_PTR | exact wrsOk_nil | apply wrsOk_cons | (intro _; try dsimp only) | split | dsimp only

theorem State.storeStaged_kept {s : State} {n from_ : Nat} (hw₀ : subMask 161390617380431786853494948250188242145606612051826469551916209783790476378907091827836237282186848059617814154231939097 w₀ = true) (h₀ : Kept w₀ s₀ s) :
    Kept w₀ s₀ (State.storeStaged s n from_) := by
  refine Kept.trans (a := 161390617380431786853494948250188242145606612051826469551916209783790476378907091827836237282186848059617814154231939097) (t := s) ?_ hw₀ h₀
  clear h₀ hw₀
  unfold State.storeStaged; try dsimp only
  repeat' first | (with_reducible first | assumption | exact Kept.refl _ _ | refine Kept.ite ?_ ?_ | refine State.writeBuf_kept ?_ ?_ | refine State.writeBuf_keptp (by assumption) ?_ ?_) | (show Nat.testBit _ _ = true; rfl) | (show subMask _ _ = true; rfl) | (intro _; try dsimp only) | split | dsimp only

theorem State.settleSlot_kept {s : State} {n st : Nat} (hw₀ : subMask 144 w₀ = true) (h₀ : Kept w₀ s₀ s) :
    Kept w₀ s₀ (State.settleSlot s n st) := by
  refine Kept.trans (a := 144) (t := s) ?_ hw₀ h₀
  clear h₀ hw₀
  unfold State.settleSlot; try dsimp only
  repeat' first | (with_reducible first | assumption | exact Kept.refl _ _ | refine Kept.ite ?_ ?_ | refine State.putSlot_kept ?_ ?_ | refine State.updChan_kept ?_ ?_ | refine State.updCur_kept ?_ ?_) | (show Nat.testBit _ _ = true; rfl) | (show subMask _ _ = true; rfl) | (intro _; try dsimp only) | split | dsimp only

theorem State.notRetained_kept {s : State} {n : Nat} (hw₀ : subMask 441718927430429544284519833611612118546268659085391976869966843473821825 w₀ = true) (h₀ : Kept w₀ s₀ s) :
    Kept w₀ s₀ (State.notRetained s n) := by
  refine Kept.trans (a := 441718927430429544284519833611612118546268659085391976869966843473821825) (t := s) ?_ hw₀ h₀
  clear h₀ hw₀
  unfold State.notRetained; try dsimp only
  repeat' first | (with_reducible first | assumption | exact Kept.refl _ _ | refine Kept.ite ?_ ?_ | apply State.inc_kept | apply State.rchBit_kept | refine State.updCur_kept ?_ ?_) | (show Nat.testBit _ _ = true; rfl) | (show subMask _ _ = true; rfl) | exact inFam_RCH_EVT_CNT | exact inFam_RCH_SEL_CNT | exact inFam_RCH_STATUS | exact wrsOk_nil | apply wrsOk_cons | (intro _; try dsimp only) | split | dsimp only

theorem State.askCommit_kept {s : State} {n : Nat} (hw₀ : subMask 161390617380431786853494948250188242145606612052268201959319972903394893546026247456197842759844451306774021549506691225 w₀ = true) (h₀ : Kept w₀ s₀ s) :
    Kept w₀ s₀ (State.askCommit s n) := by
  refine Kept.trans (a := 161390617380431786853494948250188242145606612052268201959319972903394893546026247456197842759844451306774021549506691225) (t := s) ?_ hw₀ h₀
  clear h₀ hw₀
  unfold State.askCommit; try dsimp only
  repeat' first | (with_reducible first | assumption | exact Kept.refl _ _ | refine Kept.ite ?_ ?_ | refine State.notRetained_kept ?_ ?_ | refine State.storeStaged_kept ?_ ?_ | refine State.takeSlot_kept ?_ ?_ | refine State.updChan_kept ?_ ?_ | refine State.foldl_kept ?_ ?_) | (show Nat.testBit _ _ = true; rfl) | (show subMask _ _ = true; rfl) | (intro _; try dsimp only) | split | dsimp only

theorem State.flagAsk_kept {s : State} {n : Nat} (hw₀ : subMask 161390617380431786853494948250188242145606612052268201959319972903394893546026247456197842759844451306774021549506691225 w₀ = true) (h₀ : Kept w₀ s₀ s) :
    Kept w₀ s₀ (State.flagAsk s n) := by
  refine Kept.trans (a := 161390617380431786853494948250188242145606612052268201959319972903394893546026247456197842759844451306774021549506691225) (t := s) ?_ hw₀ h₀
  clear h₀ hw₀
  unfold State.flagAsk; try dsimp only
  repeat' first | (with_reducible first | assumption | exact Kept.refl _ _ | refine Kept.ite ?_ ?_ | refine State.askCommit_kept ?_ ?_) | (show Nat.testBit _ _ = true; rfl) | (show subMask _ _ = true; rfl) | (intro _; try dsimp only) | split | dsimp only

theorem State.feed_kept {s : State} {n : Nat} {adc : List (Byte × Byte)} (hw₀ : subMask 161390617380431786853494948250188242145606612052268201959319972903394893546026247456197842759844451306774021549506691225 w₀ = true) (h₀ : Kept w₀ s₀ s) :
    Kept w₀ s₀ (State.feed s n adc) := by
  refine Kept.trans (a := 161390617380431786853494948250188242145606612052268201959319972903394893546026247456197842759844451306774021549506691225) (t := s) ?_ hw₀ h₀
  clear h₀ hw₀
  unfold State.feed; try dsimp only
  repeat' first | (with_reducible first | assumption | exact Kept.refl _ _ | refine Kept.ite ?_ ?_ | refine State.flagAsk_kept ?_ ?_ | refine State.forEach_kept ?_ ?_ | apply State.inc_kept | apply State.rchBit_kept | refine State.storeStaged_kept ?_ ?_ | refine State.updChan_kept ?_ ?_) | (show Nat.testBit _ _ = true; rfl) | (show subMask _ _ = true; rfl) | exact inFam_RCH_EVT_CNT | exact inFam_RCH_STATUS | exact wrsOk_nil | apply wrsOk_cons | (intro _; try dsimp only) | split | dsimp only

theorem execRetentionCommitStart_kept {n : Chan} {adc : List (Byte × Byte)} {s : State} (hw₀ : subMask 161390617380431786853494948250188242145606612052268201959319972903394893546026247456197842759844451306774021549506691225 w₀ = true) (h₀ : Kept w₀ s₀ s) :
    KeptR w₀ s₀ (execRetentionCommitStart n adc s) := by
  refine ⟨fun t₁ e₁ => Kept.trans (a := 161390617380431786853494948250188242145606612052268201959319972903394893546026247456197842759844451306774021549506691225) (t := s) ?_ hw₀ h₀⟩; refine KeptR.keep (?_ : KeptR 161390617380431786853494948250188242145606612052268201959319972903394893546026247456197842759844451306774021549506691225 s (execRetentionCommitStart n adc s)) t₁ e₁; clear e₁ t₁
  clear h₀ hw₀
  unfold execRetentionCommitStart; try dsimp only
  repeat' first | (with_reducible first | assumption | exact Kept.refl _ _ | refine KeptR.next ?_ | exact KeptR.fault | exact KeptR.refused | refine KeptR.ite ?_ ?_ | refine Kept.ite ?_ ?_ | refine State.feed_kept ?_ ?_ | refine State.takeSlot_kept ?_ ?_ | refine State.updChan_kept ?_ ?_) | (show Nat.testBit _ _ = true; rfl) | (show subMask _ _ = true; rfl) | (intro _; try dsimp only) | split | dsimp only

theorem execSyncSearchStart_kept {n : Chan} {adc : List (Byte × Byte)} {s : State} (hw₀ : subMask 161390617380431786853494948250188242145606612052268201959319972903394893546026247456197842759844451306774021549506691225 w₀ = true) (h₀ : Kept w₀ s₀ s) :
    KeptR w₀ s₀ (execSyncSearchStart n adc s) := by
  refine ⟨fun t₁ e₁ => Kept.trans (a := 161390617380431786853494948250188242145606612052268201959319972903394893546026247456197842759844451306774021549506691225) (t := s) ?_ hw₀ h₀⟩; refine KeptR.keep (?_ : KeptR 161390617380431786853494948250188242145606612052268201959319972903394893546026247456197842759844451306774021549506691225 s (execSyncSearchStart n adc s)) t₁ e₁; clear e₁ t₁
  clear h₀ hw₀
  unfold execSyncSearchStart; try dsimp only
  repeat' first | (with_reducible first | assumption | exact Kept.refl _ _ | refine KeptR.next ?_ | exact KeptR.fault | exact KeptR.refused | refine KeptR.ite ?_ ?_ | refine Kept.ite ?_ ?_ | refine State.feed_kept ?_ ?_ | refine State.updChan_kept ?_ ?_) | (show Nat.testBit _ _ = true; rfl) | (show subMask _ _ = true; rfl) | (intro _; try dsimp only) | split | dsimp only

theorem State.takeBuf_kept {s : State} {n : Nat} (hw₀ : subMask 226156424291633194186662080095093570025917938800079226639565593765459526017 w₀ = true) (h₀ : Kept w₀ s₀ s) :
    Kept w₀ s₀ (State.takeBuf s n) := by
  refine Kept.trans (a := 226156424291633194186662080095093570025917938800079226639565593765459526017) (t := s) ?_ hw₀ h₀
  clear h₀ hw₀
  unfold State.takeBuf; try dsimp only
  repeat' first | (with_reducible first | assumption | exact Kept.refl _ _ | refine Kept.ite ?_ ?_ | apply State.decBit_kept | refine State.updChan_kept ?_ ?_ | refine State.updDec_kept ?_ ?_) | (show Nat.testBit _ _ = true; rfl) | (show subMask _ _ = true; rfl) | exact inFam_DEC_STATUS | exact wrsOk_nil | apply wrsOk_cons | (intro _; try dsimp only) | split | dsimp only

theorem State.toNosync_kept {s : State} {n : Nat} (hw₀ : subMask 161390617380431786853494948250188242145606612052268205329313306297224867879403133333651676964487504124345581687457972377 w₀ = true) (h₀ : Kept w₀ s₀ s) :
    Kept w₀ s₀ (State.toNosync s n) := by
  refine Kept.trans (a := 161390617380431786853494948250188242145606612052268205329313306297224867879403133333651676964487504124345581687457972377) (t := s) ?_ hw₀ h₀
  clear h₀ hw₀
  unfold State.toNosync; try dsimp only
  repeat' first | (with_reducible first | assumption | exact Kept.refl _ _ | refine Kept.ite ?_ ?_ | refine State.flagAsk_kept ?_ ?_ | apply State.inc_kept | apply State.rchBit_kept | refine State.updChan_kept ?_ ?_) | (show Nat.testBit _ _ = true; rfl) | (show subMask _ _ = true; rfl) | exact inFam_RCH_STATUS | exact inFam_RCH_SYNC_CNT | exact wrsOk_nil | apply wrsOk_cons | (intro _; try dsimp only) | split | dsimp only

theorem execSyncWindowEnd_kept {n : Chan} {adc : List (Byte × Byte)} {bits : BitVec 72} {rescue : BitVec 40} {s : State} (hw₀ : subMask 161390617380431786853494948250188242145606612278424629620946500483886947974496703359569615764566730763911175452913303961 w₀ = true) (h₀ : Kept w₀ s₀ s) :
    KeptR w₀ s₀ (execSyncWindowEnd n adc bits rescue s) := by
  refine ⟨fun t₁ e₁ => Kept.trans (a := 161390617380431786853494948250188242145606612278424629620946500483886947974496703359569615764566730763911175452913303961) (t := s) ?_ hw₀ h₀⟩; refine KeptR.keep (?_ : KeptR 161390617380431786853494948250188242145606612278424629620946500483886947974496703359569615764566730763911175452913303961 s (execSyncWindowEnd n adc bits rescue s)) t₁ e₁; clear e₁ t₁
  clear h₀ hw₀
  unfold execSyncWindowEnd; try dsimp only
  repeat' first | (with_reducible first | assumption | exact Kept.refl _ _ | refine KeptR.next ?_ | exact KeptR.fault | exact KeptR.refused | refine KeptR.ite ?_ ?_ | refine Kept.ite ?_ ?_ | refine State.feed_kept ?_ ?_ | refine State.flagAsk_kept ?_ ?_ | apply State.inc_kept | apply State.rchBit_kept | refine State.takeBuf_kept ?_ ?_ | refine State.toNosync_kept ?_ ?_ | refine State.updChan_kept ?_ ?_ | refine State.updCur_kept ?_ ?_) | (show Nat.testBit _ _ = true; rfl) | (show subMask _ _ = true; rfl) | exact inFam_RCH_EVT_CNT | exact inFam_RCH_STATUS | exact inFam_RCH_SYNC_CNT | exact wrsOk_nil | apply wrsOk_cons | (intro _; try dsimp only) | split | dsimp only

theorem State.health_kept {s : State} {n : Nat} {b : Bool} {gain amp noise : Nat} (hw₀ : subMask 737186041679900306885426193785693026232265667803843778780181037185 w₀ = true) (h₀ : Kept w₀ s₀ s) :
    Kept w₀ s₀ (State.health s n b gain amp noise) := by
  refine Kept.trans (a := 737186041679900306885426193785693026232265667803843778780181037185) (t := s) ?_ hw₀ h₀
  clear h₀ hw₀
  unfold State.health; try dsimp only
  repeat' first | (with_reducible first | assumption | exact Kept.refl _ _ | refine Kept.ite ?_ ?_ | apply State.rchBit_kept | refine State.updChan_kept ?_ ?_ | refine State.when_kept ?_ ?_ | refine State.wrs_kept ?_ ?_ ?_) | (show Nat.testBit _ _ = true; rfl) | (show subMask _ _ = true; rfl) | exact inFam_RCH_HEALTH_A | exact inFam_RCH_HEALTH_B | exact inFam_RCH_STATUS | exact wrsOk_nil | apply wrsOk_cons | (intro _; try dsimp only) | split | dsimp only

theorem State.coefStore_kept {s : State} {n key v : Nat} (hw₀ : subMask 128 w₀ = true) (h₀ : Kept w₀ s₀ s) :
    Kept w₀ s₀ (State.coefStore s n key v) := by
  refine Kept.trans (a := 128) (t := s) ?_ hw₀ h₀
  clear h₀ hw₀
  unfold State.coefStore; try dsimp only
  repeat' first | (with_reducible first | assumption | exact Kept.refl _ _ | refine Kept.ite ?_ ?_ | refine State.updChan_kept ?_ ?_) | (show Nat.testBit _ _ = true; rfl) | (show subMask _ _ = true; rfl) | (intro _; try dsimp only) | split | dsimp only

theorem State.adaptBack_kept {s : State} {n dqm : Nat} {llrs : List Int} (hw₀ : subMask 128 w₀ = true) (h₀ : Kept w₀ s₀ s) :
    Kept w₀ s₀ (State.adaptBack s n dqm llrs) := by
  refine Kept.trans (a := 128) (t := s) ?_ hw₀ h₀
  clear h₀ hw₀
  unfold State.adaptBack; try dsimp only
  repeat' first | (with_reducible first | assumption | exact Kept.refl _ _ | refine Kept.ite ?_ ?_ | refine State.coefStore_kept ?_ ?_ | refine State.forEach_kept ?_ ?_) | (show Nat.testBit _ _ = true; rfl) | (show subMask _ _ = true; rfl) | (intro _; try dsimp only) | split | dsimp only

theorem State.fillBuf_kept {s : State} {b : Option Nat} {tok : Nat} {llrs : List Int} (hw₀ : subMask 256 w₀ = true) (h₀ : Kept w₀ s₀ s) :
    Kept w₀ s₀ (State.fillBuf s b tok llrs) := by
  refine Kept.trans (a := 256) (t := s) ?_ hw₀ h₀
  clear h₀ hw₀
  unfold State.fillBuf; try dsimp only
  repeat' first | (with_reducible first | assumption | exact Kept.refl _ _ | refine Kept.ite ?_ ?_ | refine State.updDec_kept ?_ ?_) | (show Nat.testBit _ _ = true; rfl) | (show subMask _ _ = true; rfl) | (intro _; try dsimp only) | split | dsimp only

theorem State.enterLadder_kept {s : State} {n : Nat} {d : SDesc} {h sw0 : Nat} {slot : Option (Nat × Nat)} (hw₀ : subMask 117834564444200007708569276919546721657566556050428779555046160776607402819969 w₀ = true) (h₀ : Kept w₀ s₀ s) :
    Kept w₀ s₀ (State.enterLadder s n d h sw0 slot) := by
  refine Kept.trans (a := 117834564444200007708569276919546721657566556050428779555046160776607402819969) (t := s) ?_ hw₀ h₀
  clear h₀ hw₀
  unfold State.enterLadder; try dsimp only
  repeat' first | (with_reducible first | assumption | exact Kept.refl _ _ | refine Kept.ite ?_ ?_ | refine State.releaseBuf_kept ?_ ?_ | refine State.rung2_kept ?_ ?_ | refine State.rung3_kept ?_ ?_ | refine State.updDec_kept ?_ ?_ | refine State.updSec_kept ?_ ?_) | (show Nat.testBit _ _ = true; rfl) | (show subMask _ _ = true; rfl) | (intro _; try dsimp only) | split | dsimp only

theorem State.endSamples_kept {s : State} {n : Nat} {adc : List (Byte × Byte)} (hw₀ : subMask 161390617380431786853494948250188242145606612052268201959319972903394893546026247456197842759844451306774021549506691225 w₀ = true) (h₀ : Kept w₀ s₀ s) :
    Kept w₀ s₀ (State.endSamples s n adc) := by
  refine Kept.trans (a := 161390617380431786853494948250188242145606612052268201959319972903394893546026247456197842759844451306774021549506691225) (t := s) ?_ hw₀ h₀
  clear h₀ hw₀
  unfold State.endSamples; try dsimp only
  repeat' first | (with_reducible first | assumption | exact Kept.refl _ _ | refine Kept.ite ?_ ?_ | refine State.feed_kept ?_ ?_ | refine State.updChan_kept ?_ ?_) | (show Nat.testBit _ _ = true; rfl) | (show subMask _ _ = true; rfl) | (intro _; try dsimp only) | split | dsimp only

theorem execSectorEnd_kept {n : Chan} {adc : List (Byte × Byte)} {s : State} (hw₀ : subMask 22758094510825795076903094511594098150595958800091499458938951594457740269342205126827257375205831537837697139556485029832761398526425 w₀ = true) (h₀ : Kept w₀ s₀ s) :
    KeptR w₀ s₀ (execSectorEnd n adc s) := by
  refine ⟨fun t₁ e₁ => Kept.trans (a := 22758094510825795076903094511594098150595958800091499458938951594457740269342205126827257375205831537837697139556485029832761398526425) (t := s) ?_ hw₀ h₀⟩; refine KeptR.keep (?_ : KeptR 22758094510825795076903094511594098150595958800091499458938951594457740269342205126827257375205831537837697139556485029832761398526425 s (execSectorEnd n adc s)) t₁ e₁; clear e₁ t₁
  clear h₀ hw₀
  unfold execSectorEnd; try dsimp only
  repeat' first | (with_reducible first | assumption | exact Kept.refl _ _ | refine KeptR.next ?_ | exact KeptR.fault | exact KeptR.refused | refine KeptR.ite ?_ ?_ | refine Kept.ite ?_ ?_ | refine State.adaptBack_kept ?_ ?_ | refine State.askCommit_kept ?_ ?_ | refine State.endSamples_kept ?_ ?_ | refine State.enterLadder_kept ?_ ?_ | refine State.fillBuf_kept ?_ ?_ | refine State.health_kept ?_ ?_ | apply State.inc_kept | refine State.judgeReaders_kept ?_ ?_ | refine State.postRec_kept ?_ ?_ | refine State.settleSlot_kept ?_ ?_ | refine State.updChan_kept ?_ ?_ | refine State.updCur_kept ?_ ?_ | refine State.when_kept ?_ ?_ | refine State.wrs_kept ?_ ?_ ?_) | (show Nat.testBit _ _ = true; rfl) | (show subMask _ _ = true; rfl) | exact inFam_RCH_AGC_STAT | exact inFam_RCH_QUAL | exact inFam_RCH_SECT_CNT | exact inFam_RCH_SEL_CNT | exact inFam_RCH_SYNC_STAT | exact inFam_RCH_TR_STAT | exact wrsOk_nil | apply wrsOk_cons | (intro _; try dsimp only) | split | dsimp only

theorem execThermalAsperityStart_kept {n : Chan} {adc : List (Byte × Byte)} {s : State} (hw₀ : subMask 161390617380431786853494948250188242145606612052268201959319972903394893546026247456197842759844451306774021549506691225 w₀ = true) (h₀ : Kept w₀ s₀ s) :
    KeptR w₀ s₀ (execThermalAsperityStart n adc s) := by
  refine ⟨fun t₁ e₁ => Kept.trans (a := 161390617380431786853494948250188242145606612052268201959319972903394893546026247456197842759844451306774021549506691225) (t := s) ?_ hw₀ h₀⟩; refine KeptR.keep (?_ : KeptR 161390617380431786853494948250188242145606612052268201959319972903394893546026247456197842759844451306774021549506691225 s (execThermalAsperityStart n adc s)) t₁ e₁; clear e₁ t₁
  clear h₀ hw₀
  unfold execThermalAsperityStart; try dsimp only
  repeat' first | (with_reducible first | assumption | exact Kept.refl _ _ | refine KeptR.next ?_ | exact KeptR.fault | exact KeptR.refused | refine KeptR.ite ?_ ?_ | refine Kept.ite ?_ ?_ | refine State.feed_kept ?_ ?_) | (show Nat.testBit _ _ = true; rfl) | (show subMask _ _ = true; rfl) | (intro _; try dsimp only) | split | dsimp only

theorem execThermalAsperityEnd_kept {n : Chan} {adc : List (Byte × Byte)} {s : State} (hw₀ : subMask 161390617380431786853494948250188242145606612052268201959319972903394893546026247456197842759844451306774021549506691225 w₀ = true) (h₀ : Kept w₀ s₀ s) :
    KeptR w₀ s₀ (execThermalAsperityEnd n adc s) := by
  refine ⟨fun t₁ e₁ => Kept.trans (a := 161390617380431786853494948250188242145606612052268201959319972903394893546026247456197842759844451306774021549506691225) (t := s) ?_ hw₀ h₀⟩; refine KeptR.keep (?_ : KeptR 161390617380431786853494948250188242145606612052268201959319972903394893546026247456197842759844451306774021549506691225 s (execThermalAsperityEnd n adc s)) t₁ e₁; clear e₁ t₁
  clear h₀ hw₀
  unfold execThermalAsperityEnd; try dsimp only
  repeat' first | (with_reducible first | assumption | exact Kept.refl _ _ | refine KeptR.next ?_ | exact KeptR.fault | exact KeptR.refused | refine KeptR.ite ?_ ?_ | refine Kept.ite ?_ ?_ | refine State.feed_kept ?_ ?_) | (show Nat.testBit _ _ = true; rfl) | (show subMask _ _ = true; rfl) | (intro _; try dsimp only) | split | dsimp only

theorem execLossOfLock_kept {n : Chan} {errs : List Int} {s : State} (hw₀ : subMask 161390617380431786853494948250188242145606612052268201959319972903394893546026247456197842759844451306774021549506691225 w₀ = true) (h₀ : Kept w₀ s₀ s) :
    KeptR w₀ s₀ (execLossOfLock n errs s) := by
  refine ⟨fun t₁ e₁ => Kept.trans (a := 161390617380431786853494948250188242145606612052268201959319972903394893546026247456197842759844451306774021549506691225) (t := s) ?_ hw₀ h₀⟩; refine KeptR.keep (?_ : KeptR 161390617380431786853494948250188242145606612052268201959319972903394893546026247456197842759844451306774021549506691225 s (execLossOfLock n errs s)) t₁ e₁; clear e₁ t₁
  clear h₀ hw₀
  unfold execLossOfLock; try dsimp only
  repeat' first | (with_reducible first | assumption | exact Kept.refl _ _ | refine KeptR.next ?_ | exact KeptR.fault | exact KeptR.refused | refine KeptR.ite ?_ ?_ | refine Kept.ite ?_ ?_ | refine State.flagAsk_kept ?_ ?_ | apply State.inc_kept | apply State.rchBit_kept | refine State.updCur_kept ?_ ?_ | refine State.foldl_kept ?_ ?_) | (show Nat.testBit _ _ = true; rfl) | (show subMask _ _ = true; rfl) | exact inFam_RCH_EVT_CNT | exact inFam_RCH_STATUS | exact wrsOk_nil | apply wrsOk_cons | (intro _; try dsimp only) | split | dsimp only

theorem execSelectiveModeEnter_kept {n : Chan} {s : State} (hw₀ : subMask 897227025082773292366518262096013308818644166382150252171128149093908609 w₀ = true) (h₀ : Kept w₀ s₀ s) :
    KeptR w₀ s₀ (execSelectiveModeEnter n s) := by
  refine ⟨fun t₁ e₁ => Kept.trans (a := 897227025082773292366518262096013308818644166382150252171128149093908609) (t := s) ?_ hw₀ h₀⟩; refine KeptR.keep (?_ : KeptR 897227025082773292366518262096013308818644166382150252171128149093908609 s (execSelectiveModeEnter n s)) t₁ e₁; clear e₁ t₁
  clear h₀ hw₀
  unfold execSelectiveModeEnter; try dsimp only
  repeat' first | (with_reducible first | assumption | exact Kept.refl _ _ | refine KeptR.next ?_ | exact KeptR.fault | exact KeptR.refused | refine KeptR.ite ?_ ?_ | refine Kept.ite ?_ ?_ | apply State.setB_kept | refine State.updChan_kept ?_ ?_ | refine State.when_kept ?_ ?_) | (show Nat.testBit _ _ = true; rfl) | (show subMask _ _ = true; rfl) | exact inFam_RCH_GSTATUS | exact inFam_RCH_RET_STAT | exact wrsOk_nil | apply wrsOk_cons | (intro _; try dsimp only) | split | dsimp only

theorem State.abandonReturn_kept {s : State} {n h : Nat} (hw₀ : subMask 485667223056432267729865476705879726660601709763034880312953102434726071301302657425 w₀ = true) (h₀ : Kept w₀ s₀ s) :
    Kept w₀ s₀ (State.abandonReturn s n h) := by
  refine Kept.trans (a := 485667223056432267729865476705879726660601709763034880312953102434726071301302657425) (t := s) ?_ hw₀ h₀
  clear h₀ hw₀
  unfold State.abandonReturn; try dsimp only
  repeat' first | (with_reducible first | assumption | exact Kept.refl _ _ | refine Kept.ite ?_ ?_ | refine State.abandonChannel_kept ?_ ?_ | refine State.returnSector_kept ?_ ?_) | (show Nat.testBit _ _ = true; rfl) | (show subMask _ _ = true; rfl) | (intro _; try dsimp only) | split | dsimp only

theorem State.abandonToLadder_kept {s : State} {n h : Nat} (hw₀ : subMask 485667223056432267729865476705879726660601709763034880312953102434726071301302657425 w₀ = true) (h₀ : Kept w₀ s₀ s) :
    Kept w₀ s₀ (State.abandonToLadder s n h) := by
  refine Kept.trans (a := 485667223056432267729865476705879726660601709763034880312953102434726071301302657425) (t := s) ?_ hw₀ h₀
  clear h₀ hw₀
  unfold State.abandonToLadder; try dsimp only
  repeat' first | (with_reducible first | assumption | exact Kept.refl _ _ | refine Kept.ite ?_ ?_ | refine State.abandonChannel_kept ?_ ?_ | refine State.rereadAbandoned_kept ?_ ?_) | (show Nat.testBit _ _ = true; rfl) | (show subMask _ _ = true; rfl) | (intro _; try dsimp only) | split | dsimp only

theorem execChannelLate_kept {n : Chan} {s : State} (hw₀ : subMask 44384713757731871763589207486774700033120374773249698861240838576277962889800285208918421305927324404272620052317288928957237436825 w₀ = true) (h₀ : Kept w₀ s₀ s) :
    KeptR w₀ s₀ (execChannelLate n s) := by
  refine ⟨fun t₁ e₁ => Kept.trans (a := 44384713757731871763589207486774700033120374773249698861240838576277962889800285208918421305927324404272620052317288928957237436825) (t := s) ?_ hw₀ h₀⟩; refine KeptR.keep (?_ : KeptR 44384713757731871763589207486774700033120374773249698861240838576277962889800285208918421305927324404272620052317288928957237436825 s (execChannelLate n s)) t₁ e₁; clear e₁ t₁
  clear h₀ hw₀
  unfold execChannelLate; try dsimp only
  repeat' first | (with_reducible first | assumption | exact Kept.refl _ _ | refine KeptR.next ?_ | exact KeptR.fault | exact KeptR.refused | refine KeptR.ite ?_ ?_ | refine Kept.ite ?_ ?_ | refine State.abandonToLadder_kept ?_ ?_ | refine State.raise0_kept ?_ ?_ | apply State.rchBit_kept | refine State.updChan_kept ?_ ?_) | (show Nat.testBit _ _ = true; rfl) | (show subMask _ _ = true; rfl) | exact inFam_RCH_STATUS | exact wrsOk_nil | apply wrsOk_cons | (intro _; try dsimp only) | split | dsimp only

theorem execSlotHoldRequest_kept {n : Chan} {slot : Fin 8} {seq : Word} {s : State} (hw₀ : subMask 128 w₀ = true) (h₀ : Kept w₀ s₀ s) :
    KeptR w₀ s₀ (execSlotHoldRequest n slot seq s) := by
  refine ⟨fun t₁ e₁ => Kept.trans (a := 128) (t := s) ?_ hw₀ h₀⟩; refine KeptR.keep (?_ : KeptR 128 s (execSlotHoldRequest n slot seq s)) t₁ e₁; clear e₁ t₁
  clear h₀ hw₀
  unfold execSlotHoldRequest; try dsimp only
  repeat' first | (with_reducible first | assumption | exact Kept.refl _ _ | refine KeptR.next ?_ | exact KeptR.fault | exact KeptR.refused | refine KeptR.ite ?_ ?_ | refine Kept.ite ?_ ?_ | refine State.holdSlot_kept ?_ ?_) | (show Nat.testBit _ _ = true; rfl) | (show subMask _ _ = true; rfl) | (intro _; try dsimp only) | split | dsimp only

theorem execSlotHoldGrant_kept {n : Chan} {s : State} (hw₀ : subMask 128 w₀ = true) (h₀ : Kept w₀ s₀ s) :
    KeptR w₀ s₀ (execSlotHoldGrant n s) := by
  refine ⟨fun t₁ e₁ => Kept.trans (a := 128) (t := s) ?_ hw₀ h₀⟩; refine KeptR.keep (?_ : KeptR 128 s (execSlotHoldGrant n s)) t₁ e₁; clear e₁ t₁
  clear h₀ hw₀
  unfold execSlotHoldGrant; try dsimp only
  repeat' first | (with_reducible first | assumption | exact Kept.refl _ _ | refine KeptR.next ?_ | exact KeptR.fault | exact KeptR.refused | refine KeptR.ite ?_ ?_ | refine Kept.ite ?_ ?_ | refine State.holdSlot_kept ?_ ?_ | refine State.updChan_kept ?_ ?_) | (show Nat.testBit _ _ = true; rfl) | (show subMask _ _ = true; rfl) | (intro _; try dsimp only) | split | dsimp only

theorem execCoefDataWrite_kept {w : Initiator} {n : Chan} {v : Word} {s : State} (hw₀ : subMask 422894671231549952833827079917239079780563117467830024880596713601 w₀ = true) (h₀ : Kept w₀ s₀ s) :
    KeptR w₀ s₀ (execCoefDataWrite w n v s) := by
  refine ⟨fun t₁ e₁ => Kept.trans (a := 422894671231549952833827079917239079780563117467830024880596713601) (t := s) ?_ hw₀ h₀⟩; refine KeptR.keep (?_ : KeptR 422894671231549952833827079917239079780563117467830024880596713601 s (execCoefDataWrite w n v s)) t₁ e₁; clear e₁ t₁
  clear h₀ hw₀
  unfold execCoefDataWrite; try dsimp only
  repeat' first | (with_reducible first | assumption | exact Kept.refl _ _ | refine KeptR.next ?_ | exact KeptR.fault | exact KeptR.refused | refine KeptR.ite ?_ ?_ | refine Kept.ite ?_ ?_ | apply State.rchBit_kept | refine State.updChan_kept ?_ ?_ | refine State.when_kept ?_ ?_ | apply State.wr_kept) | (show Nat.testBit _ _ = true; rfl) | (show subMask _ _ = true; rfl) | exact inFam_RCH_COEF_ADDR | exact inFam_RCH_STATUS | exact wrsOk_nil | apply wrsOk_cons | (intro _; try dsimp only) | split | dsimp only

theorem execCoefQueueApply_kept {n : Chan} {s : State} (hw₀ : subMask 128 w₀ = true) (h₀ : Kept w₀ s₀ s) :
    KeptR w₀ s₀ (execCoefQueueApply n s) := by
  refine ⟨fun t₁ e₁ => Kept.trans (a := 128) (t := s) ?_ hw₀ h₀⟩; refine KeptR.keep (?_ : KeptR 128 s (execCoefQueueApply n s)) t₁ e₁; clear e₁ t₁
  clear h₀ hw₀
  unfold execCoefQueueApply; try dsimp only
  repeat' first | (with_reducible first | assumption | exact Kept.refl _ _ | refine KeptR.next ?_ | exact KeptR.fault | exact KeptR.refused | refine KeptR.ite ?_ ?_ | refine Kept.ite ?_ ?_ | refine State.coefStore_kept ?_ ?_ | refine State.forEach_kept ?_ ?_ | refine State.updChan_kept ?_ ?_) | (show Nat.testBit _ _ = true; rfl) | (show subMask _ _ = true; rfl) | (intro _; try dsimp only) | split | dsimp only

theorem State.dropInFlight_kept {s : State} {n h : Nat} (hw₀ : subMask 485667223056432267729865476705879726660601709763034880312953102434726071301302657425 w₀ = true) (h₀ : Kept w₀ s₀ s) :
    Kept w₀ s₀ (State.dropInFlight s n h) := by
  refine Kept.trans (a := 485667223056432267729865476705879726660601709763034880312953102434726071301302657425) (t := s) ?_ hw₀ h₀
  clear h₀ hw₀
  unfold State.dropInFlight; try dsimp only
  repeat' first | (with_reducible first | assumption | exact Kept.refl _ _ | refine Kept.ite ?_ ?_ | refine State.returnSector_kept ?_ ?_ | refine State.stopChannel_kept ?_ ?_) | (show Nat.testBit _ _ = true; rfl) | (show subMask _ _ = true; rfl) | (intro _; try dsimp only) | split | dsimp only

theorem State.substitute_kept {s : State} {h : Nat} (hw₀ : subMask 485667223057343325209230788957693597163041249400761768514201707460226019880132419985 w₀ = true) (h₀ : Kept w₀ s₀ s) : Kept w₀ s₀ (State.substitute s h) := by
  refine Kept.trans (a := 485667223057343325209230788957693597163041249400761768514201707460226019880132419985) (t := s) ?_ hw₀ h₀
  unfold State.substitute; dsimp only
  refine State.setB_kept inFam_RCH_GSTATUS rfl rfl (State.setSpareMap_kept rfl (State.setRole_kept rfl (State.setRole_kept rfl (State.updChan_kept rfl ?_))))
  simp only [State.forEach, chanCfgOffsets, List.foldl_cons, List.foldl_nil]
  refine State.setFam_kept (i := 177) ⟨24 + h / 6, 0, by show RCH_CTRL (24 + h / 6) + 32 = 524320 + (24 + h / 6) * 2048 + 0 * 0; unfold RCH_CTRL; omega⟩ rfl rfl ?_
  refine State.setFam_kept (i := 176) ⟨24 + h / 6, 0, by show RCH_CTRL (24 + h / 6) + 28 = 524316 + (24 + h / 6) * 2048 + 0 * 0; unfold RCH_CTRL; omega⟩ rfl rfl ?_
  refine State.setFam_kept (i := 175) ⟨24 + h / 6, 0, by show RCH_CTRL (24 + h / 6) + 24 = 524312 + (24 + h / 6) * 2048 + 0 * 0; unfold RCH_CTRL; omega⟩ rfl rfl ?_
  refine State.setFam_kept (i := 174) ⟨24 + h / 6, 0, by show RCH_CTRL (24 + h / 6) + 20 = 524308 + (24 + h / 6) * 2048 + 0 * 0; unfold RCH_CTRL; omega⟩ rfl rfl ?_
  refine State.setFam_kept (i := 173) ⟨24 + h / 6, 0, by show RCH_CTRL (24 + h / 6) + 16 = 524304 + (24 + h / 6) * 2048 + 0 * 0; unfold RCH_CTRL; omega⟩ rfl rfl ?_
  refine State.setFam_kept (i := 172) ⟨24 + h / 6, 0, by show RCH_CTRL (24 + h / 6) + 12 = 524300 + (24 + h / 6) * 2048 + 0 * 0; unfold RCH_CTRL; omega⟩ rfl rfl ?_
  refine State.setFam_kept (i := 171) ⟨24 + h / 6, 0, by show RCH_CTRL (24 + h / 6) + 8 = 524296 + (24 + h / 6) * 2048 + 0 * 0; unfold RCH_CTRL; omega⟩ rfl rfl ?_
  refine State.setFam_kept (i := 170) ⟨24 + h / 6, 0, by show RCH_CTRL (24 + h / 6) + 4 = 524292 + (24 + h / 6) * 2048 + 0 * 0; unfold RCH_CTRL; omega⟩ rfl rfl ?_
  refine State.setFam_kept (i := 169) ⟨24 + h / 6, 0, by show RCH_CTRL (24 + h / 6) + 0 = 524288 + (24 + h / 6) * 2048 + 0 * 0; unfold RCH_CTRL; omega⟩ rfl rfl ?_
  exact State.dropInFlight_kept rfl (Kept.refl _ _)

theorem State.spareCmd_kept {s : State} {a pos op : Nat} (hw₀ : subMask 55213970774324510299478046898216203619608871777363092441300193790394369 w₀ = true) (h₀ : Kept w₀ s₀ s) :
    Kept w₀ s₀ (State.spareCmd s a pos op) := by
  refine Kept.trans (a := 55213970774324510299478046898216203619608871777363092441300193790394369) (t := s) ?_ hw₀ h₀
  clear h₀ hw₀
  unfold State.spareCmd; try dsimp only
  repeat' first | (with_reducible first | assumption | exact Kept.refl _ _ | refine Kept.ite ?_ ?_ | refine State.wrs_kept ?_ ?_ ?_) | (show Nat.testBit _ _ = true; rfl) | (show subMask _ _ = true; rfl) | exact inFam_RCH_SPARE_CMD | exact wrsOk_nil | apply wrsOk_cons | (intro _; try dsimp only) | split | dsimp only

theorem State.spareRefuse_kept {s : State} {w : Initiator} {pos : Nat} (hw₀ : subMask 883423532389192164791648750371459257913741948437809479060807773574922245 w₀ = true) (h₀ : Kept w₀ s₀ s) :
    Kept w₀ s₀ (State.spareRefuse s w pos) := by
  refine Kept.trans (a := 883423532389192164791648750371459257913741948437809479060807773574922245) (t := s) ?_ hw₀ h₀
  clear h₀ hw₀
  unfold State.spareRefuse; try dsimp only
  repeat' first | (with_reducible first | assumption | exact Kept.refl _ _ | refine Kept.ite ?_ ?_ | refine State.refuseW_kept ?_ ?_ | apply State.setB_kept) | (show Nat.testBit _ _ = true; rfl) | (show subMask _ _ = true; rfl) | exact inFam_RCH_GSTATUS | exact wrsOk_nil | apply wrsOk_cons | (intro _; try dsimp only) | split | dsimp only

theorem execSpareSubst_kept {w : Initiator} {a : Act} {pos : BitVec 3} {s : State} (hw₀ : subMask 485667223057398539180005113467993075209939465604381377385979070552667324746851426709 w₀ = true) (h₀ : Kept w₀ s₀ s) :
    KeptR w₀ s₀ (execSpareSubst w a pos s) := by
  refine ⟨fun t₁ e₁ => Kept.trans (a := 485667223057398539180005113467993075209939465604381377385979070552667324746851426709) (t := s) ?_ hw₀ h₀⟩; refine KeptR.keep (?_ : KeptR 485667223057398539180005113467993075209939465604381377385979070552667324746851426709 s (execSpareSubst w a pos s)) t₁ e₁; clear e₁ t₁
  clear h₀ hw₀
  unfold execSpareSubst; try dsimp only
  repeat' first | (with_reducible first | assumption | exact Kept.refl _ _ | refine KeptR.next ?_ | exact KeptR.fault | exact KeptR.refused | refine KeptR.ite ?_ ?_ | refine Kept.ite ?_ ?_ | refine State.spareCmd_kept ?_ ?_ | refine State.spareRefuse_kept ?_ ?_ | refine State.substitute_kept ?_ ?_) | (show Nat.testBit _ _ = true; rfl) | (show subMask _ _ = true; rfl) | (intro _; try dsimp only) | split | dsimp only

theorem execSpareRelease_kept {w : Initiator} {a : Act} {pos : BitVec 3} {s : State} (hw₀ : subMask 938637503163516675091126797269675461533350820215172571502107967365316741 w₀ = true) (h₀ : Kept w₀ s₀ s) :
    KeptR w₀ s₀ (execSpareRelease w a pos s) := by
  refine ⟨fun t₁ e₁ => Kept.trans (a := 938637503163516675091126797269675461533350820215172571502107967365316741) (t := s) ?_ hw₀ h₀⟩; refine KeptR.keep (?_ : KeptR 938637503163516675091126797269675461533350820215172571502107967365316741 s (execSpareRelease w a pos s)) t₁ e₁; clear e₁ t₁
  clear h₀ hw₀
  unfold execSpareRelease; try dsimp only
  repeat' first | (with_reducible first | assumption | exact Kept.refl _ _ | refine KeptR.next ?_ | exact KeptR.fault | exact KeptR.refused | refine KeptR.ite ?_ ?_ | refine Kept.ite ?_ ?_ | refine State.spareCmd_kept ?_ ?_ | refine State.spareRefuse_kept ?_ ?_ | refine State.updChan_kept ?_ ?_) | (show Nat.testBit _ _ = true; rfl) | (show subMask _ _ = true; rfl) | (intro _; try dsimp only) | split | dsimp only

theorem execSpareShadow_kept {w : Initiator} {a : Act} {pos : BitVec 3} {s : State} (hw₀ : subMask 966271448497346080880660487733870582973828893248276658295239167870763141 w₀ = true) (h₀ : Kept w₀ s₀ s) :
    KeptR w₀ s₀ (execSpareShadow w a pos s) := by
  refine ⟨fun t₁ e₁ => Kept.trans (a := 966271448497346080880660487733870582973828893248276658295239167870763141) (t := s) ?_ hw₀ h₀⟩; refine KeptR.keep (?_ : KeptR 966271448497346080880660487733870582973828893248276658295239167870763141 s (execSpareShadow w a pos s)) t₁ e₁; clear e₁ t₁
  clear h₀ hw₀
  unfold execSpareShadow; try dsimp only
  repeat' first | (with_reducible first | assumption | exact Kept.refl _ _ | refine KeptR.next ?_ | exact KeptR.fault | exact KeptR.refused | refine KeptR.ite ?_ ?_ | refine Kept.ite ?_ ?_ | refine State.setRole_kept ?_ ?_ | refine State.setSpareMap_kept ?_ ?_ | refine State.spareCmd_kept ?_ ?_ | refine State.spareRefuse_kept ?_ ?_ | refine State.updChan_kept ?_ ?_) | (show Nat.testBit _ _ = true; rfl) | (show subMask _ _ = true; rfl) | (intro _; try dsimp only) | split | dsimp only

theorem execSpareDetach_kept {w : Initiator} {a : Act} {pos : BitVec 3} {s : State} (hw₀ : subMask 966271448497346080880660487733870582973828893248276658295239167870763141 w₀ = true) (h₀ : Kept w₀ s₀ s) :
    KeptR w₀ s₀ (execSpareDetach w a pos s) := by
  refine ⟨fun t₁ e₁ => Kept.trans (a := 966271448497346080880660487733870582973828893248276658295239167870763141) (t := s) ?_ hw₀ h₀⟩; refine KeptR.keep (?_ : KeptR 966271448497346080880660487733870582973828893248276658295239167870763141 s (execSpareDetach w a pos s)) t₁ e₁; clear e₁ t₁
  clear h₀ hw₀
  unfold execSpareDetach; try dsimp only
  repeat' first | (with_reducible first | assumption | exact Kept.refl _ _ | refine KeptR.next ?_ | exact KeptR.fault | exact KeptR.refused | refine KeptR.ite ?_ ?_ | refine Kept.ite ?_ ?_ | refine State.spareCmd_kept ?_ ?_ | refine State.spareIdle_kept ?_ ?_ | refine State.spareRefuse_kept ?_ ?_ | refine State.updChan_kept ?_ ?_) | (show Nat.testBit _ _ = true; rfl) | (show subMask _ _ = true; rfl) | (intro _; try dsimp only) | split | dsimp only

end Sys2Proof.Machine
end

