-- ==== Sys2Proof/Laws/KeptMotor.lean ====
section
/-! SUPPORT. What the operations and meanings of Machine/Motor.lean keep (the relation Kept). -/

set_option Elab.async false

namespace Sys2Proof.Machine
open Reg
set_option linter.unusedVariables false
set_option linter.unusedTactic false
set_option linter.unreachableTactic false
set_option maxHeartbeats 400000

variable {w₀ : Nat} {s₀ : State}

theorem State.updMot_kept {s : State} {f : MotU → MotU} (hw₀ : subMask 4096 w₀ = true) (h₀ : Kept w₀ s₀ s) :
    Kept w₀ s₀ (State.updMot s f) := by
  refine Kept.trans (a := 4096) (t := s) ?_ hw₀ h₀
  clear h₀ hw₀
  unfold State.updMot; try dsimp only
  repeat' first | (with_reducible first | assumption | exact Kept.refl _ _ | refine Kept.ite ?_ ?_) | (show Nat.testBit _ _ = true; rfl) | (show subMask _ _ = true; rfl) | (intro _; try dsimp only) | split | dsimp only | refine Kept.lit rfl (.inr rfl) rfl rfl rfl rfl (.inr rfl) (.inr rfl) (.inr rfl) (.inr rfl) (.inr rfl) (.inr rfl) (.inl rfl) (.inr rfl) (.inr rfl) (.inr rfl) (.inr rfl) (.inr rfl) (.inr rfl) (.inr rfl) (.inr rfl) (.inr rfl) (.inr rfl) (.inr rfl) (.inr rfl) ?_

theorem State.spGo_kept {s : State} {st src : Nat} (hw₀ : subMask 2295738365538220146643426022971454223956178892521600948574957560868730285559659352021840668155061989283841 w₀ = true) (h₀ : Kept w₀ s₀ s) :
    Kept w₀ s₀ (State.spGo s st src) := by
  refine Kept.trans (a := 2295738365538220146643426022971454223956178892521600948574957560868730285559659352021840668155061989283841) (t := s) ?_ hw₀ h₀
  clear h₀ hw₀
  unfold State.spGo; try dsimp only
  repeat' first | (with_reducible first | assumption | exact Kept.refl _ _ | refine Kept.ite ?_ ?_ | refine State.openLoop_kept ?_ ?_ | refine State.setOut_kept ?_ ?_ | refine State.setProf_kept ?_ ?_ | refine State.updMot_kept ?_ ?_ | refine State.wrs_kept ?_ ?_ ?_) | (show Nat.testBit _ _ = true; rfl) | (show subMask _ _ = true; rfl) | exact inFam_MOT_SP_STAT | exact inFam_PROF_STAT | exact wrsOk_nil | apply wrsOk_cons | (intro _; try dsimp only) | split | dsimp only

theorem State.unloadFirst_kept {s : State} (hw₀ : subMask 44384376587918356619345083452686370194006454691202219055673393274801299088485422989882798618456889221705442253674992373007770992201 w₀ = true) (h₀ : Kept w₀ s₀ s) :
    Kept w₀ s₀ (State.unloadFirst s) := by
  refine Kept.trans (a := 44384376587918356619345083452686370194006454691202219055673393274801299088485422989882798618456889221705442253674992373007770992201) (t := s) ?_ hw₀ h₀
  clear h₀ hw₀
  unfold State.unloadFirst; try dsimp only
  repeat' first | (with_reducible first | assumption | exact Kept.refl _ _ | refine Kept.ite ?_ ?_ | refine State.retractAll_kept ?_ ?_ | refine State.updMot_kept ?_ ?_) | (show Nat.testBit _ _ = true; rfl) | (show subMask _ _ = true; rfl) | (intro _; try dsimp only) | split | dsimp only

theorem State.enterShort_kept {s : State} (hw₀ : subMask 44384376587918356619345085746184986184077966302023114357760334071366288256766546727471638005379765310190250323693545483133457546825 w₀ = true) (h₀ : Kept w₀ s₀ s) :
    Kept w₀ s₀ (State.enterShort s) := by
  refine Kept.trans (a := 44384376587918356619345085746184986184077966302023114357760334071366288256766546727471638005379765310190250323693545483133457546825) (t := s) ?_ hw₀ h₀
  clear h₀ hw₀
  unfold State.enterShort; try dsimp only
  repeat' first | (with_reducible first | assumption | exact Kept.refl _ _ | refine Kept.ite ?_ ?_ | refine State.spGo_kept ?_ ?_ | refine State.unloadFirst_kept ?_ ?_) | (show Nat.testBit _ _ = true; rfl) | (show subMask _ _ = true; rfl) | (intro _; try dsimp only) | split | dsimp only

theorem State.stopBeat_kept {s : State} {cause : Nat} (hw₀ : subMask 150306725297525326584926758194517569752043683130132471725266622178061377607334940381676735896625196994043838465 w₀ = true) (h₀ : Kept w₀ s₀ s) :
    Kept w₀ s₀ (State.stopBeat s cause) := by
  refine Kept.trans (a := 150306725297525326584926758194517569752043683130132471725266622178061377607334940381676735896625196994043838465) (t := s) ?_ hw₀ h₀
  clear h₀ hw₀
  unfold State.stopBeat; try dsimp only
  repeat' first | (with_reducible first | assumption | exact Kept.refl _ _ | refine Kept.ite ?_ ?_ | refine State.wrs_kept ?_ ?_ ?_) | (show Nat.testBit _ _ = true; rfl) | (show subMask _ _ = true; rfl) | exact inFam_MOT_BEAT | exact wrsOk_nil | apply wrsOk_cons | (intro _; try dsimp only) | split | dsimp only

theorem State.motBit_kept {s : State} {f : Fld} {i_ : Nat} (hf_ : inFam i_ f.addr) (hi_ : w₀.testBit (32 + i_) = true) (hw₀ : subMask 4194305 w₀ = true) (h₀ : Kept w₀ s₀ s) :
    Kept w₀ s₀ (State.motBit s f) := by
  unfold State.motBit; try dsimp only
  repeat' first | (with_reducible first | assumption | exact Kept.refl _ _ | refine Kept.ite ?_ ?_ | apply State.raiseBit_kept) | exact hi_ | exact testBit_sub hw₀ rfl | exact subMask_trans rfl hw₀ | exact hf_ _ | exact hf_ | exact wrsOk_nil | apply wrsOk_cons | (intro _; try dsimp only) | split | dsimp only

theorem State.chopFault_kept {s : State} (hw₀ : subMask 44384713757731871763593907011022276787238029665316285900278299083033460489070896626061259611145680481749119045752588318509707705929 w₀ = true) (h₀ : Kept w₀ s₀ s) :
    Kept w₀ s₀ (State.chopFault s) := by
  refine Kept.trans (a := 44384713757731871763593907011022276787238029665316285900278299083033460489070896626061259611145680481749119045752588318509707705929) (t := s) ?_ hw₀ h₀
  clear h₀ hw₀
  unfold State.chopFault; try dsimp only
  repeat' first | (with_reducible first | assumption | exact Kept.refl _ _ | refine Kept.ite ?_ ?_ | refine State.enterShort_kept ?_ ?_ | refine State.markFenced_kept ?_ ?_ | apply State.motBit_kept | refine State.raiseSrc_kept ?_ ?_ | refine State.updMot_kept ?_ ?_) | (show Nat.testBit _ _ = true; rfl) | (show subMask _ _ = true; rfl) | exact inFam_MOT_STATUS | exact wrsOk_nil | apply wrsOk_cons | (intro _; try dsimp only) | split | dsimp only

theorem State.fenceMa_kept {s : State} {h : Nat} (hw₀ : subMask 44384376587918356619387357073592890900488931843940088376393760355498051046837514357749735462120860484255010238489500651572641145417 w₀ = true) (h₀ : Kept w₀ s₀ s) :
    Kept w₀ s₀ (State.fenceMa s h) := by
  refine Kept.trans (a := 44384376587918356619387357073592890900488931843940088376393760355498051046837514357749735462120860484255010238489500651572641145417) (t := s) ?_ hw₀ h₀
  clear h₀ hw₀
  unfold State.fenceMa; try dsimp only
  repeat' first | (with_reducible first | assumption | exact Kept.refl _ _ | refine Kept.ite ?_ ?_ | refine State.dropGates_kept ?_ ?_ | refine State.markFenced_kept ?_ ?_ | apply State.motBit_kept | refine State.openLoop_kept ?_ ?_ | refine State.setInh_kept ?_ ?_ | apply State.wr_kept | refine State.writerLostZones_kept ?_ ?_) | (show Nat.testBit _ _ = true; rfl) | (show subMask _ _ = true; rfl) | exact inFam_MOT_MA_FAULT | exact inFam_MOT_STATUS | exact wrsOk_nil | apply wrsOk_cons | (intro _; try dsimp only) | split | dsimp only

theorem State.fenceVcm_kept {s : State} {a : Nat} (hw₀ : subMask 44384376587918356619345083452686370194006454691202219055673393274801299088485422989882798618456889221705442253674992373007770988105 w₀ = true) (h₀ : Kept w₀ s₀ s) :
    Kept w₀ s₀ (State.fenceVcm s a) := by
  refine Kept.trans (a := 44384376587918356619345083452686370194006454691202219055673393274801299088485422989882798618456889221705442253674992373007770988105) (t := s) ?_ hw₀ h₀
  clear h₀ hw₀
  unfold State.fenceVcm; try dsimp only
  repeat' first | (with_reducible first | assumption | exact Kept.refl _ _ | refine Kept.ite ?_ ?_ | refine State.domainDead_kept ?_ ?_ | refine State.markFenced_kept ?_ ?_ | refine State.retract_kept ?_ ?_ | refine State.when_kept ?_ ?_ | apply State.wr_kept) | (show Nat.testBit _ _ = true; rfl) | (show subMask _ _ = true; rfl) | exact inFam_MOT_ASTATUS | exact wrsOk_nil | apply wrsOk_cons | (intro _; try dsimp only) | split | dsimp only

theorem State.fenceGen_kept {s : State} {g : Nat} (hw₀ : subMask 319401791257241318992969361163349835723092826651531502416191572128380427415586748311063063780328543612343160841 w₀ = true) (h₀ : Kept w₀ s₀ s) :
    Kept w₀ s₀ (State.fenceGen s g) := by
  refine Kept.trans (a := 319401791257241318992969361163349835723092826651531502416191572128380427415586748311063063780328543612343160841) (t := s) ?_ hw₀ h₀
  clear h₀ hw₀
  unfold State.fenceGen; try dsimp only
  repeat' first | (with_reducible first | assumption | exact Kept.refl _ _ | refine Kept.ite ?_ ?_ | apply State.inc_kept | refine State.markFenced_kept ?_ ?_ | apply State.setB_kept | refine State.updMot_kept ?_ ?_ | refine State.wrs_kept ?_ ?_ ?_) | (show Nat.testBit _ _ = true; rfl) | (show subMask _ _ = true; rfl) | exact inFam_MOT_CNT | exact inFam_MOT_PWM_STAT | exact wrsOk_nil | apply wrsOk_cons | (intro _; try dsimp only) | split | dsimp only

theorem State.gatesAllOff_kept {s : State} (hw₀ : subMask 150306725297525326584926758194517569752043683130132471725266622178061377607334940381676735896625196994043842561 w₀ = true) (h₀ : Kept w₀ s₀ s) :
    Kept w₀ s₀ (State.gatesAllOff s) := by
  refine Kept.trans (a := 150306725297525326584926758194517569752043683130132471725266622178061377607334940381676735896625196994043842561) (t := s) ?_ hw₀ h₀
  clear h₀ hw₀
  unfold State.gatesAllOff; try dsimp only
  repeat' first | (with_reducible first | assumption | exact Kept.refl _ _ | refine Kept.ite ?_ ?_ | refine State.stopBeat_kept ?_ ?_ | refine State.updMot_kept ?_ ?_) | (show Nat.testBit _ _ = true; rfl) | (show subMask _ _ = true; rfl) | (intro _; try dsimp only) | split | dsimp only

theorem State.pwmFatal_kept {s : State} (hw₀ : subMask 44384713757731871763739514212072225359705301530958549207936449991256980718145443357644208863036942735065763304176991609632734711817 w₀ = true) (h₀ : Kept w₀ s₀ s) :
    Kept w₀ s₀ (State.pwmFatal s) := by
  refine Kept.trans (a := 44384713757731871763739514212072225359705301530958549207936449991256980718145443357644208863036942735065763304176991609632734711817) (t := s) ?_ hw₀ h₀
  clear h₀ hw₀
  unfold State.pwmFatal; try dsimp only
  repeat' first | (with_reducible first | assumption | exact Kept.refl _ _ | refine Kept.ite ?_ ?_ | refine State.gatesAllOff_kept ?_ ?_ | refine State.raiseSrc_kept ?_ ?_) | (show Nat.testBit _ _ = true; rfl) | (show subMask _ _ = true; rfl) | (intro _; try dsimp only) | split | dsimp only

theorem State.genSelfCheck_kept {s : State} {g : Fin 2} (hw₀ : subMask 44384713757731871764058916003329466678698270892121899043659542817908512220561634929772589290452529483376826367957320153245077868553 w₀ = true) (h₀ : Kept w₀ s₀ s) :
    Kept w₀ s₀ (State.genSelfCheck s g) := by
  refine Kept.trans (a := 44384713757731871764058916003329466678698270892121899043659542817908512220561634929772589290452529483376826367957320153245077868553) (t := s) ?_ hw₀ h₀
  clear h₀ hw₀
  unfold State.genSelfCheck; try dsimp only
  repeat' first | (with_reducible first | assumption | exact Kept.refl _ _ | refine Kept.ite ?_ ?_ | refine State.fenceGen_kept ?_ ?_ | refine State.pwmFatal_kept ?_ ?_ | refine State.raiseSrc_kept ?_ ?_) | (show Nat.testBit _ _ = true; rfl) | (show subMask _ _ = true; rfl) | (intro _; try dsimp only) | split | dsimp only

theorem State.startPending_kept {s : State} (hw₀ : subMask 2293498615990071511610820895302086940796564989168281123737588839386922876088484808070018553110125686554625 w₀ = true) (h₀ : Kept w₀ s₀ s) :
    Kept w₀ s₀ (State.startPending s) := by
  refine Kept.trans (a := 2293498615990071511610820895302086940796564989168281123737588839386922876088484808070018553110125686554625) (t := s) ?_ hw₀ h₀
  clear h₀ hw₀
  unfold State.startPending; try dsimp only
  repeat' first | (with_reducible first | assumption | exact Kept.refl _ _ | refine Kept.ite ?_ ?_ | apply State.setB_kept) | (show Nat.testBit _ _ = true; rfl) | (show subMask _ _ = true; rfl) | exact inFam_MOT_SP_STAT | exact wrsOk_nil | apply wrsOk_cons | (intro _; try dsimp only) | split | dsimp only

theorem State.startSpindle_kept {s : State} (hw₀ : subMask 2295738365538220146643426022971454223956178892521600948574957560868730285559659352021840668155061989283841 w₀ = true) (h₀ : Kept w₀ s₀ s) :
    Kept w₀ s₀ (State.startSpindle s) := by
  refine Kept.trans (a := 2295738365538220146643426022971454223956178892521600948574957560868730285559659352021840668155061989283841) (t := s) ?_ hw₀ h₀
  clear h₀ hw₀
  unfold State.startSpindle; try dsimp only
  repeat' first | (with_reducible first | assumption | exact Kept.refl _ _ | refine Kept.ite ?_ ?_ | refine State.spGo_kept ?_ ?_ | refine State.startPending_kept ?_ ?_ | refine State.updMot_kept ?_ ?_) | (show Nat.testBit _ _ = true; rfl) | (show subMask _ _ = true; rfl) | (intro _; try dsimp only) | split | dsimp only

theorem State.stopSpindle_kept {s : State} (hw₀ : subMask 44384376587918356619345085746184986184077966302023114357760334071366288256766546727471638005379765310190250323693545483133457546825 w₀ = true) (h₀ : Kept w₀ s₀ s) :
    Kept w₀ s₀ (State.stopSpindle s) := by
  refine Kept.trans (a := 44384376587918356619345085746184986184077966302023114357760334071366288256766546727471638005379765310190250323693545483133457546825) (t := s) ?_ hw₀ h₀
  clear h₀ hw₀
  unfold State.stopSpindle; try dsimp only
  repeat' first | (with_reducible first | assumption | exact Kept.refl _ _ | refine Kept.ite ?_ ?_ | apply State.clr_kept | refine State.enterShort_kept ?_ ?_ | refine State.spGo_kept ?_ ?_ | refine State.unloadFirst_kept ?_ ?_) | (show Nat.testBit _ _ = true; rfl) | (show subMask _ _ = true; rfl) | exact inFam_MOT_SP_STAT | exact wrsOk_nil | apply wrsOk_cons | (intro _; try dsimp only) | split | dsimp only

theorem State.startLoad_kept {s : State} {a : Nat} (hw₀ : subMask 143343663499379469475676305956380433799785311823017570233599302461682679755530300504376159569382855413761 w₀ = true) (h₀ : Kept w₀ s₀ s) :
    Kept w₀ s₀ (State.startLoad s a) := by
  refine Kept.trans (a := 143343663499379469475676305956380433799785311823017570233599302461682679755530300504376159569382855413761) (t := s) ?_ hw₀ h₀
  clear h₀ hw₀
  unfold State.startLoad; try dsimp only
  repeat' first | (with_reducible first | assumption | exact Kept.refl _ _ | refine Kept.ite ?_ ?_ | refine State.updMot_kept ?_ ?_ | apply State.wr_kept) | (show Nat.testBit _ _ = true; rfl) | (show subMask _ _ = true; rfl) | exact inFam_MOT_ASTATUS | exact wrsOk_nil | apply wrsOk_cons | (intro _; try dsimp only) | split | dsimp only

theorem State.motLog_kept {s : State} (hw₀ : subMask 44384376587918356619345083307102957096416090370664438769721192661557492653857241418819590297713921840012145244218093114668508774409 w₀ = true) (h₀ : Kept w₀ s₀ s) :
    Kept w₀ s₀ (State.motLog s) := by
  refine Kept.trans (a := 44384376587918356619345083307102957096416090370664438769721192661557492653857241418819590297713921840012145244218093114668508774409) (t := s) ?_ hw₀ h₀
  clear h₀ hw₀
  unfold State.motLog; try dsimp only
  repeat' first | (with_reducible first | assumption | exact Kept.refl _ _ | refine Kept.ite ?_ ?_ | refine State.logFree_kept ?_ ?_) | (show Nat.testBit _ _ = true; rfl) | (show subMask _ _ = true; rfl) | (intro _; try dsimp only) | split | dsimp only

theorem State.enterCatch_kept {s : State} (hw₀ : subMask 44384376587918356619345085746184986184077966302023114357760334071366288256766546727471638005379765310190250323693545483133457546825 w₀ = true) (h₀ : Kept w₀ s₀ s) :
    Kept w₀ s₀ (State.enterCatch s) := by
  refine Kept.trans (a := 44384376587918356619345085746184986184077966302023114357760334071366288256766546727471638005379765310190250323693545483133457546825) (t := s) ?_ hw₀ h₀
  clear h₀ hw₀
  unfold State.enterCatch; try dsimp only
  repeat' first | (with_reducible first | assumption | exact Kept.refl _ _ | refine Kept.ite ?_ ?_ | refine State.spGo_kept ?_ ?_ | refine State.unloadFirst_kept ?_ ?_ | apply State.wr_kept) | (show Nat.testBit _ _ = true; rfl) | (show subMask _ _ = true; rfl) | exact inFam_MOT_SP_STAT | exact wrsOk_nil | apply wrsOk_cons | (intro _; try dsimp only) | split | dsimp only

theorem State.enterFault_kept {s : State} (hw₀ : subMask 44384376587918356619345085746184986184077966302023114357760334071366288256766546727471638005379765310190250323693545483133457546825 w₀ = true) (h₀ : Kept w₀ s₀ s) :
    Kept w₀ s₀ (State.enterFault s) := by
  refine Kept.trans (a := 44384376587918356619345085746184986184077966302023114357760334071366288256766546727471638005379765310190250323693545483133457546825) (t := s) ?_ hw₀ h₀
  clear h₀ hw₀
  unfold State.enterFault; try dsimp only
  repeat' first | (with_reducible first | assumption | exact Kept.refl _ _ | refine Kept.ite ?_ ?_ | refine State.spGo_kept ?_ ?_ | refine State.unloadFirst_kept ?_ ?_) | (show Nat.testBit _ _ = true; rfl) | (show subMask _ _ = true; rfl) | (intro _; try dsimp only) | split | dsimp only

theorem execSpStart_kept {s : State} (hw₀ : subMask 2295738365538220146643426022971454223956178892521600948574957560868730285559659352021840668155061989283841 w₀ = true) (h₀ : Kept w₀ s₀ s) :
    KeptR w₀ s₀ (execSpStart s) := by
  refine ⟨fun t₁ e₁ => Kept.trans (a := 2295738365538220146643426022971454223956178892521600948574957560868730285559659352021840668155061989283841) (t := s) ?_ hw₀ h₀⟩; refine KeptR.keep (?_ : KeptR 2295738365538220146643426022971454223956178892521600948574957560868730285559659352021840668155061989283841 s (execSpStart s)) t₁ e₁; clear e₁ t₁
  clear h₀ hw₀
  unfold execSpStart; try dsimp only
  repeat' first | (with_reducible first | assumption | exact Kept.refl _ _ | refine KeptR.next ?_ | exact KeptR.fault | exact KeptR.refused | refine KeptR.ite ?_ ?_ | refine Kept.ite ?_ ?_ | refine State.startSpindle_kept ?_ ?_) | (show Nat.testBit _ _ = true; rfl) | (show subMask _ _ = true; rfl) | (intro _; try dsimp only) | split | dsimp only

theorem execSpStop_kept {s : State} (hw₀ : subMask 44384376587918356619345085746184986184077966302023114357760334071366288256766546727471638005379765310190250323693545483133457546825 w₀ = true) (h₀ : Kept w₀ s₀ s) :
    KeptR w₀ s₀ (execSpStop s) := by
  refine ⟨fun t₁ e₁ => Kept.trans (a := 44384376587918356619345085746184986184077966302023114357760334071366288256766546727471638005379765310190250323693545483133457546825) (t := s) ?_ hw₀ h₀⟩; refine KeptR.keep (?_ : KeptR 44384376587918356619345085746184986184077966302023114357760334071366288256766546727471638005379765310190250323693545483133457546825 s (execSpStop s)) t₁ e₁; clear e₁ t₁
  clear h₀ hw₀
  unfold execSpStop; try dsimp only
  repeat' first | (with_reducible first | assumption | exact Kept.refl _ _ | refine KeptR.next ?_ | exact KeptR.fault | exact KeptR.refused | refine KeptR.ite ?_ ?_ | refine Kept.ite ?_ ?_ | refine State.stopSpindle_kept ?_ ?_) | (show Nat.testBit _ _ = true; rfl) | (show subMask _ _ = true; rfl) | (intro _; try dsimp only) | split | dsimp only

theorem execSenseDone_kept {r : SenseRes} {s : State} (hw₀ : subMask 44384376587918356619349787418347765830676768484858483635988967029594083233070208784592381197275746704046793861727422366690801368649 w₀ = true) (h₀ : Kept w₀ s₀ s) :
    KeptR w₀ s₀ (execSenseDone r s) := by
  refine ⟨fun t₁ e₁ => Kept.trans (a := 44384376587918356619349787418347765830676768484858483635988967029594083233070208784592381197275746704046793861727422366690801368649) (t := s) ?_ hw₀ h₀⟩; refine KeptR.keep (?_ : KeptR 44384376587918356619349787418347765830676768484858483635988967029594083233070208784592381197275746704046793861727422366690801368649 s (execSenseDone r s)) t₁ e₁; clear e₁ t₁
  clear h₀ hw₀
  unfold execSenseDone; try dsimp only
  repeat' first | (with_reducible first | assumption | exact Kept.refl _ _ | refine KeptR.next ?_ | exact KeptR.fault | exact KeptR.refused | refine KeptR.ite ?_ ?_ | refine Kept.ite ?_ ?_ | refine State.enterCatch_kept ?_ ?_ | refine State.enterShort_kept ?_ ?_ | apply State.motBit_kept | refine State.spGo_kept ?_ ?_ | refine State.startPending_kept ?_ ?_ | refine State.when_kept ?_ ?_ | apply State.wr_kept | refine State.wrs_kept ?_ ?_ ?_) | (show Nat.testBit _ _ = true; rfl) | (show subMask _ _ = true; rfl) | exact inFam_MOT_SPEED | exact inFam_MOT_SP_STAT | exact inFam_MOT_STATUS | exact inFam_SYS_START | exact wrsOk_nil | apply wrsOk_cons | (intro _; try dsimp only) | split | dsimp only

theorem execSpindleRest_kept {s : State} (hw₀ : subMask 6882735597518363169865067813575628105549308870858163196050135239642576037736628968161877774375313362393089 w₀ = true) (h₀ : Kept w₀ s₀ s) :
    KeptR w₀ s₀ (execSpindleRest s) := by
  refine ⟨fun t₁ e₁ => Kept.trans (a := 6882735597518363169865067813575628105549308870858163196050135239642576037736628968161877774375313362393089) (t := s) ?_ hw₀ h₀⟩; refine KeptR.keep (?_ : KeptR 6882735597518363169865067813575628105549308870858163196050135239642576037736628968161877774375313362393089 s (execSpindleRest s)) t₁ e₁; clear e₁ t₁
  clear h₀ hw₀
  unfold execSpindleRest; try dsimp only
  repeat' first | (with_reducible first | assumption | exact Kept.refl _ _ | refine KeptR.next ?_ | exact KeptR.fault | exact KeptR.refused | refine KeptR.ite ?_ ?_ | refine Kept.ite ?_ ?_ | apply State.clr_kept | refine State.spGo_kept ?_ ?_ | apply State.wr_kept) | (show Nat.testBit _ _ = true; rfl) | (show subMask _ _ = true; rfl) | exact inFam_MOT_SPEED | exact inFam_MOT_SP_STAT | exact wrsOk_nil | apply wrsOk_cons | (intro _; try dsimp only) | split | dsimp only

theorem execAlignDone_kept {s : State} (hw₀ : subMask 2295738365538220146643426022971454223956178892521600948574957560868730285559659352021840668155061989283841 w₀ = true) (h₀ : Kept w₀ s₀ s) :
    KeptR w₀ s₀ (execAlignDone s) := by
  refine ⟨fun t₁ e₁ => Kept.trans (a := 2295738365538220146643426022971454223956178892521600948574957560868730285559659352021840668155061989283841) (t := s) ?_ hw₀ h₀⟩; refine KeptR.keep (?_ : KeptR 2295738365538220146643426022971454223956178892521600948574957560868730285559659352021840668155061989283841 s (execAlignDone s)) t₁ e₁; clear e₁ t₁
  clear h₀ hw₀
  unfold execAlignDone; try dsimp only
  repeat' first | (with_reducible first | assumption | exact Kept.refl _ _ | refine KeptR.next ?_ | exact KeptR.fault | exact KeptR.refused | refine KeptR.ite ?_ ?_ | refine Kept.ite ?_ ?_ | refine State.spGo_kept ?_ ?_) | (show Nat.testBit _ _ = true; rfl) | (show subMask _ _ = true; rfl) | (intro _; try dsimp only) | split | dsimp only

theorem execRampEnd_kept {r : RampRes} {s : State} (hw₀ : subMask 5722811910147347189035942041130380422448642922076172620189305029721468499955553732245637643672399354824473610050719042566781351247433 w₀ = true) (h₀ : Kept w₀ s₀ s) :
    KeptR w₀ s₀ (execRampEnd r s) := by
  refine ⟨fun t₁ e₁ => Kept.trans (a := 5722811910147347189035942041130380422448642922076172620189305029721468499955553732245637643672399354824473610050719042566781351247433) (t := s) ?_ hw₀ h₀⟩; refine KeptR.keep (?_ : KeptR 5722811910147347189035942041130380422448642922076172620189305029721468499955553732245637643672399354824473610050719042566781351247433 s (execRampEnd r s)) t₁ e₁; clear e₁ t₁
  clear h₀ hw₀
  unfold execRampEnd; try dsimp only
  repeat' first | (with_reducible first | assumption | exact Kept.refl _ _ | refine KeptR.next ?_ | exact KeptR.fault | exact KeptR.refused | refine KeptR.ite ?_ ?_ | refine Kept.ite ?_ ?_ | refine State.enterFault_kept ?_ ?_ | refine State.enterShort_kept ?_ ?_ | apply State.motBit_kept | refine State.motLog_kept ?_ ?_ | apply State.setB_kept | refine State.spGo_kept ?_ ?_ | refine State.startPending_kept ?_ ?_ | refine State.updMot_kept ?_ ?_ | refine State.wrs_kept ?_ ?_ ?_) | (show Nat.testBit _ _ = true; rfl) | (show subMask _ _ = true; rfl) | exact inFam_MOT_SP_CFG | exact inFam_MOT_SP_STAT | exact inFam_MOT_STATUS | exact inFam_MOT_SP_CFG_hold | exact wrsOk_nil | apply wrsOk_cons | (intro _; try dsimp only) | split | dsimp only

theorem execCatchAttemptEnd_kept {locked : Bool} {rpm : BitVec 16} {s : State} (hw₀ : subMask 44384376587918356619650400868942816483846622001247518775493054395854348176520742028948503952490416584810147333520671634778982202953 w₀ = true) (h₀ : Kept w₀ s₀ s) :
    KeptR w₀ s₀ (execCatchAttemptEnd locked rpm s) := by
  refine ⟨fun t₁ e₁ => Kept.trans (a := 44384376587918356619650400868942816483846622001247518775493054395854348176520742028948503952490416584810147333520671634778982202953) (t := s) ?_ hw₀ h₀⟩; refine KeptR.keep (?_ : KeptR 44384376587918356619650400868942816483846622001247518775493054395854348176520742028948503952490416584810147333520671634778982202953 s (execCatchAttemptEnd locked rpm s)) t₁ e₁; clear e₁ t₁
  clear h₀ hw₀
  unfold execCatchAttemptEnd; try dsimp only
  repeat' first | (with_reducible first | assumption | exact Kept.refl _ _ | refine KeptR.next ?_ | exact KeptR.fault | exact KeptR.refused | refine KeptR.ite ?_ ?_ | refine Kept.ite ?_ ?_ | refine State.enterShort_kept ?_ ?_ | apply State.inc_kept | apply State.motBit_kept | refine State.spGo_kept ?_ ?_ | refine State.updMot_kept ?_ ?_ | apply State.wr_kept | refine State.wrs_kept ?_ ?_ ?_) | (show Nat.testBit _ _ = true; rfl) | (show subMask _ _ = true; rfl) | exact inFam_MOT_CNT | exact inFam_MOT_SPEED | exact inFam_MOT_SP_STAT | exact inFam_MOT_STATUS | exact wrsOk_nil | apply wrsOk_cons | (intro _; try dsimp only) | split | dsimp only

theorem State.phaseFault_kept {s : State} {f : Fld} {i_ : Nat} (hf_ : inFam i_ f.addr) (hi_ : w₀.testBit (32 + i_) = true) (hw₀ : subMask 44384713757731871763589209925856729120782250704122707226223547717935643849329482044118195193095451264862191647755818781103643835977 w₀ = true) (h₀ : Kept w₀ s₀ s) :
    Kept w₀ s₀ (State.phaseFault s f) := by
  unfold State.phaseFault; try dsimp only
  repeat' first | (with_reducible first | assumption | exact Kept.refl _ _ | refine Kept.ite ?_ ?_ | refine State.enterFault_kept ?_ ?_ | apply State.motBit_kept | refine State.raiseSrc_kept ?_ ?_) | exact hi_ | exact testBit_sub hw₀ rfl | exact subMask_trans rfl hw₀ | exact hf_ _ | exact hf_ | exact wrsOk_nil | apply wrsOk_cons | (intro _; try dsimp only) | split | dsimp only

theorem execPhaseOpen_kept {s : State} (hw₀ : subMask 44384713757731871763593907011022276787238029665316285900278299083033460489070896626061259611145680481749119045752588318509707705929 w₀ = true) (h₀ : Kept w₀ s₀ s) :
    KeptR w₀ s₀ (execPhaseOpen s) := by
  refine ⟨fun t₁ e₁ => Kept.trans (a := 44384713757731871763593907011022276787238029665316285900278299083033460489070896626061259611145680481749119045752588318509707705929) (t := s) ?_ hw₀ h₀⟩; refine KeptR.keep (?_ : KeptR 44384713757731871763593907011022276787238029665316285900278299083033460489070896626061259611145680481749119045752588318509707705929 s (execPhaseOpen s)) t₁ e₁; clear e₁ t₁
  clear h₀ hw₀
  unfold execPhaseOpen; try dsimp only
  repeat' first | (with_reducible first | assumption | exact Kept.refl _ _ | refine KeptR.next ?_ | exact KeptR.fault | exact KeptR.refused | refine KeptR.ite ?_ ?_ | refine Kept.ite ?_ ?_ | apply State.phaseFault_kept) | (show Nat.testBit _ _ = true; rfl) | (show subMask _ _ = true; rfl) | exact inFam_MOT_STATUS | exact wrsOk_nil | apply wrsOk_cons | (intro _; try dsimp only) | split | dsimp only

theorem execPhaseShort_kept {s : State} (hw₀ : subMask 44384713757731871763593907011022276787238029665316285900278299083033460489070896626061259611145680481749119045752588318509707705929 w₀ = true) (h₀ : Kept w₀ s₀ s) :
    KeptR w₀ s₀ (execPhaseShort s) := by
  refine ⟨fun t₁ e₁ => Kept.trans (a := 44384713757731871763593907011022276787238029665316285900278299083033460489070896626061259611145680481749119045752588318509707705929) (t := s) ?_ hw₀ h₀⟩; refine KeptR.keep (?_ : KeptR 44384713757731871763593907011022276787238029665316285900278299083033460489070896626061259611145680481749119045752588318509707705929 s (execPhaseShort s)) t₁ e₁; clear e₁ t₁
  clear h₀ hw₀
  unfold execPhaseShort; try dsimp only
  repeat' first | (with_reducible first | assumption | exact Kept.refl _ _ | refine KeptR.next ?_ | exact KeptR.fault | exact KeptR.refused | refine KeptR.ite ?_ ?_ | refine Kept.ite ?_ ?_ | apply State.phaseFault_kept) | (show Nat.testBit _ _ = true; rfl) | (show subMask _ _ = true; rfl) | exact inFam_MOT_STATUS | exact wrsOk_nil | apply wrsOk_cons | (intro _; try dsimp only) | split | dsimp only

theorem State.angleSource_kept {s : State} {o : ObsMeas} (hw₀ : subMask 44384376587918356619345085746184986184077966302023114357760334071366288256766546727471638005379765310190250323693545483133457546825 w₀ = true) (h₀ : Kept w₀ s₀ s) :
    Kept w₀ s₀ (State.angleSource s o) := by
  refine Kept.trans (a := 44384376587918356619345085746184986184077966302023114357760334071366288256766546727471638005379765310190250323693545483133457546825) (t := s) ?_ hw₀ h₀
  clear h₀ hw₀
  unfold State.angleSource; try dsimp only
  repeat' first | (with_reducible first | assumption | exact Kept.refl _ _ | refine Kept.ite ?_ ?_ | refine State.enterCatch_kept ?_ ?_ | refine State.enterShort_kept ?_ ?_ | refine State.spGo_kept ?_ ?_ | refine State.updMot_kept ?_ ?_) | (show Nat.testBit _ _ = true; rfl) | (show subMask _ _ = true; rfl) | (intro _; try dsimp only) | split | dsimp only

theorem State.spindleLoop_kept {s : State} {rpm : Nat} (hw₀ : subMask 2239749548148635032605127669367283159613903353319824837368721481807409471174543951822115044936311113729 w₀ = true) (h₀ : Kept w₀ s₀ s) :
    Kept w₀ s₀ (State.spindleLoop s rpm) := by
  refine Kept.trans (a := 2239749548148635032605127669367283159613903353319824837368721481807409471174543951822115044936311113729) (t := s) ?_ hw₀ h₀
  clear h₀ hw₀
  unfold State.spindleLoop; try dsimp only
  repeat' first | (with_reducible first | assumption | exact Kept.refl _ _ | refine Kept.ite ?_ ?_ | refine State.closeLoop_kept ?_ ?_ | refine State.openLoop_kept ?_ ?_ | refine State.plan_kept ?_ ?_ | apply State.setB_kept | refine State.setOut_kept ?_ ?_) | (show Nat.testBit _ _ = true; rfl) | (show subMask _ _ = true; rfl) | exact inFam_CTL_STATUS | exact wrsOk_nil | apply wrsOk_cons | (intro _; try dsimp only) | split | dsimp only

theorem execPwmGenSelfCheckFail_kept {g : Fin 2} {s : State} (hw₀ : subMask 44384713757731871764058916003329466678698270892121899043659542817908512220561634929772589290452529483376826367957320153245077868553 w₀ = true) (h₀ : Kept w₀ s₀ s) :
    KeptR w₀ s₀ (execPwmGenSelfCheckFail g s) := by
  refine ⟨fun t₁ e₁ => Kept.trans (a := 44384713757731871764058916003329466678698270892121899043659542817908512220561634929772589290452529483376826367957320153245077868553) (t := s) ?_ hw₀ h₀⟩; refine KeptR.keep (?_ : KeptR 44384713757731871764058916003329466678698270892121899043659542817908512220561634929772589290452529483376826367957320153245077868553 s (execPwmGenSelfCheckFail g s)) t₁ e₁; clear e₁ t₁
  clear h₀ hw₀
  unfold execPwmGenSelfCheckFail; try dsimp only
  repeat' first | (with_reducible first | assumption | exact Kept.refl _ _ | refine KeptR.next ?_ | exact KeptR.fault | exact KeptR.refused | refine KeptR.ite ?_ ?_ | refine Kept.ite ?_ ?_ | refine State.genSelfCheck_kept ?_ ?_) | (show Nat.testBit _ _ = true; rfl) | (show subMask _ _ = true; rfl) | (intro _; try dsimp only) | split | dsimp only

theorem State.focDuties_kept {s : State} {o : ObsMeas} (hw₀ : subMask 4096 w₀ = true) (h₀ : Kept w₀ s₀ s) :
    Kept w₀ s₀ (State.focDuties s o) := by
  refine Kept.trans (a := 4096) (t := s) ?_ hw₀ h₀
  clear h₀ hw₀
  unfold State.focDuties; try dsimp only
  repeat' first | (with_reducible first | assumption | exact Kept.refl _ _ | refine Kept.ite ?_ ?_ | refine State.updMot_kept ?_ ?_) | (show Nat.testBit _ _ = true; rfl) | (show subMask _ _ = true; rfl) | (intro _; try dsimp only) | split | dsimp only

theorem State.alignDuties_kept {s : State} (hw₀ : subMask 4096 w₀ = true) (h₀ : Kept w₀ s₀ s) :
    Kept w₀ s₀ (State.alignDuties s) := by
  refine Kept.trans (a := 4096) (t := s) ?_ hw₀ h₀
  clear h₀ hw₀
  unfold State.alignDuties; try dsimp only
  repeat' first | (with_reducible first | assumption | exact Kept.refl _ _ | refine Kept.ite ?_ ?_ | refine State.updMot_kept ?_ ?_) | (show Nat.testBit _ _ = true; rfl) | (show subMask _ _ = true; rfl) | (intro _; try dsimp only) | split | dsimp only

theorem State.rampDuties_kept {s : State} (hw₀ : subMask 4096 w₀ = true) (h₀ : Kept w₀ s₀ s) :
    Kept w₀ s₀ (State.rampDuties s) := by
  refine Kept.trans (a := 4096) (t := s) ?_ hw₀ h₀
  clear h₀ hw₀
  unfold State.rampDuties; try dsimp only
  repeat' first | (with_reducible first | assumption | exact Kept.refl _ _ | refine Kept.ite ?_ ?_ | refine State.updMot_kept ?_ ?_) | (show Nat.testBit _ _ = true; rfl) | (show subMask _ _ = true; rfl) | (intro _; try dsimp only) | split | dsimp only

theorem State.idleDuties_kept {s : State} {d : SpDrive} (hw₀ : subMask 4096 w₀ = true) (h₀ : Kept w₀ s₀ s) :
    Kept w₀ s₀ (State.idleDuties s d) := by
  refine Kept.trans (a := 4096) (t := s) ?_ hw₀ h₀
  clear h₀ hw₀
  unfold State.idleDuties; try dsimp only
  repeat' first | (with_reducible first | assumption | exact Kept.refl _ _ | refine Kept.ite ?_ ?_ | refine State.updMot_kept ?_ ?_) | (show Nat.testBit _ _ = true; rfl) | (show subMask _ _ = true; rfl) | (intro _; try dsimp only) | split | dsimp only

theorem State.spindleDuties_kept {s : State} {o : ObsMeas} (hw₀ : subMask 4096 w₀ = true) (h₀ : Kept w₀ s₀ s) :
    Kept w₀ s₀ (State.spindleDuties s o) := by
  refine Kept.trans (a := 4096) (t := s) ?_ hw₀ h₀
  clear h₀ hw₀
  unfold State.spindleDuties; try dsimp only
  repeat' first | (with_reducible first | assumption | exact Kept.refl _ _ | refine Kept.ite ?_ ?_ | refine State.alignDuties_kept ?_ ?_ | refine State.focDuties_kept ?_ ?_ | refine State.idleDuties_kept ?_ ?_ | refine State.rampDuties_kept ?_ ?_) | (show Nat.testBit _ _ = true; rfl) | (show subMask _ _ = true; rfl) | (intro _; try dsimp only) | split | dsimp only

theorem State.vcmDuty_kept {s : State} {a : Nat} (hw₀ : subMask 4096 w₀ = true) (h₀ : Kept w₀ s₀ s) :
    Kept w₀ s₀ (State.vcmDuty s a) := by
  refine Kept.trans (a := 4096) (t := s) ?_ hw₀ h₀
  clear h₀ hw₀
  unfold State.vcmDuty; try dsimp only
  repeat' first | (with_reducible first | assumption | exact Kept.refl _ _ | refine Kept.ite ?_ ?_ | refine State.updMot_kept ?_ ?_) | (show Nat.testBit _ _ = true; rfl) | (show subMask _ _ = true; rfl) | (intro _; try dsimp only) | split | dsimp only

theorem State.newDuties_kept {s : State} {o : ObsMeas} (hw₀ : subMask 4198400 w₀ = true) (h₀ : Kept w₀ s₀ s) :
    Kept w₀ s₀ (State.newDuties s o) := by
  refine Kept.trans (a := 4198400) (t := s) ?_ hw₀ h₀
  clear h₀ hw₀
  unfold State.newDuties; try dsimp only
  repeat' first | (with_reducible first | assumption | exact Kept.refl _ _ | refine Kept.ite ?_ ?_ | refine State.emit_kept ?_ ?_ | refine State.forEach_kept ?_ ?_ | refine State.spindleDuties_kept ?_ ?_ | refine State.updMot_kept ?_ ?_ | refine State.vcmDuty_kept ?_ ?_) | (show Nat.testBit _ _ = true; rfl) | (show subMask _ _ = true; rfl) | (intro _; try dsimp only) | split | dsimp only

theorem execMotorPwmUpdate_kept {half : Bool} {o : ObsMeas} {s : State} (hw₀ : subMask 44384713757731871764063620114574275412958949006315943909927317185945102799774602295545380190014354347411474985466648279367467810377 w₀ = true) (h₀ : Kept w₀ s₀ s) :
    KeptR w₀ s₀ (execMotorPwmUpdate half o s) := by
  refine ⟨fun t₁ e₁ => Kept.trans (a := 44384713757731871764063620114574275412958949006315943909927317185945102799774602295545380190014354347411474985466648279367467810377) (t := s) ?_ hw₀ h₀⟩; refine KeptR.keep (?_ : KeptR 44384713757731871764063620114574275412958949006315943909927317185945102799774602295545380190014354347411474985466648279367467810377 s (execMotorPwmUpdate half o s)) t₁ e₁; clear e₁ t₁
  clear h₀ hw₀
  unfold execMotorPwmUpdate; try dsimp only
  repeat' first | (with_reducible first | assumption | exact Kept.refl _ _ | refine KeptR.next ?_ | exact KeptR.fault | exact KeptR.refused | refine KeptR.ite ?_ ?_ | refine Kept.ite ?_ ?_ | refine State.angleSource_kept ?_ ?_ | refine State.enterCatch_kept ?_ ?_ | refine State.enterShort_kept ?_ ?_ | refine State.genSelfCheck_kept ?_ ?_ | apply State.inc_kept | apply State.motBit_kept | refine State.newDuties_kept ?_ ?_ | refine State.spindleLoop_kept ?_ ?_ | refine State.unloadFirst_kept ?_ ?_ | refine State.updMot_kept ?_ ?_ | refine State.when_kept ?_ ?_ | refine State.wrs_kept ?_ ?_ ?_) | (show Nat.testBit _ _ = true; rfl) | (show subMask _ _ = true; rfl) | exact inFam_MOT_CNT | exact inFam_MOT_SPEED | exact inFam_MOT_SP_STAT | exact inFam_MOT_STATUS | exact wrsOk_nil | apply wrsOk_cons | (intro _; try dsimp only) | split | dsimp only

theorem execPwmLate_kept {s : State} (hw₀ : subMask 44384713757731871763593904571940247699576153733957610312239157673224664886161591317409211903479837011571013966277135950044754739209 w₀ = true) (h₀ : Kept w₀ s₀ s) :
    KeptR w₀ s₀ (execPwmLate s) := by
  refine ⟨fun t₁ e₁ => Kept.trans (a := 44384713757731871763593904571940247699576153733957610312239157673224664886161591317409211903479837011571013966277135950044754739209) (t := s) ?_ hw₀ h₀⟩; refine KeptR.keep (?_ : KeptR 44384713757731871763593904571940247699576153733957610312239157673224664886161591317409211903479837011571013966277135950044754739209 s (execPwmLate s)) t₁ e₁; clear e₁ t₁
  clear h₀ hw₀
  unfold execPwmLate; try dsimp only
  repeat' first | (with_reducible first | assumption | exact Kept.refl _ _ | refine KeptR.next ?_ | exact KeptR.fault | exact KeptR.refused | refine KeptR.ite ?_ ?_ | refine Kept.ite ?_ ?_ | refine State.emit_kept ?_ ?_ | apply State.motBit_kept | refine State.raiseSrc_kept ?_ ?_) | (show Nat.testBit _ _ = true; rfl) | (show subMask _ _ = true; rfl) | exact inFam_MOT_STATUS | exact wrsOk_nil | apply wrsOk_cons | (intro _; try dsimp only) | split | dsimp only

theorem execEncOfsLearned_kept {s : State} (hw₀ : subMask 1176567029752454834091383724417639967911797453346681536302220443326973242842863881083871339860539413505251329 w₀ = true) (h₀ : Kept w₀ s₀ s) :
    KeptR w₀ s₀ (execEncOfsLearned s) := by
  refine ⟨fun t₁ e₁ => Kept.trans (a := 1176567029752454834091383724417639967911797453346681536302220443326973242842863881083871339860539413505251329) (t := s) ?_ hw₀ h₀⟩; refine KeptR.keep (?_ : KeptR 1176567029752454834091383724417639967911797453346681536302220443326973242842863881083871339860539413505251329 s (execEncOfsLearned s)) t₁ e₁; clear e₁ t₁
  clear h₀ hw₀
  unfold execEncOfsLearned; try dsimp only
  repeat' first | (with_reducible first | assumption | exact Kept.refl _ _ | refine KeptR.next ?_ | exact KeptR.fault | exact KeptR.refused | refine KeptR.ite ?_ ?_ | refine Kept.ite ?_ ?_ | refine State.spGo_kept ?_ ?_ | refine State.updMot_kept ?_ ?_ | refine State.wrs_kept ?_ ?_ ?_) | (show Nat.testBit _ _ = true; rfl) | (show subMask _ _ = true; rfl) | exact inFam_MOT_ENC_OFS | exact wrsOk_nil | apply wrsOk_cons | (intro _; try dsimp only) | split | dsimp only

theorem execObsDrift_kept {s : State} (hw₀ : subMask 44384376587918356619349780392268504762871869331858017443775944026655309293598656000762654715764151056899072642214862652074576842761 w₀ = true) (h₀ : Kept w₀ s₀ s) :
    KeptR w₀ s₀ (execObsDrift s) := by
  refine ⟨fun t₁ e₁ => Kept.trans (a := 44384376587918356619349780392268504762871869331858017443775944026655309293598656000762654715764151056899072642214862652074576842761) (t := s) ?_ hw₀ h₀⟩; refine KeptR.keep (?_ : KeptR 44384376587918356619349780392268504762871869331858017443775944026655309293598656000762654715764151056899072642214862652074576842761 s (execObsDrift s)) t₁ e₁; clear e₁ t₁
  clear h₀ hw₀
  unfold execObsDrift; try dsimp only
  repeat' first | (with_reducible first | assumption | exact Kept.refl _ _ | refine KeptR.next ?_ | exact KeptR.fault | exact KeptR.refused | refine KeptR.ite ?_ ?_ | refine Kept.ite ?_ ?_ | apply State.motBit_kept | refine State.motLog_kept ?_ ?_ | refine State.updMot_kept ?_ ?_) | (show Nat.testBit _ _ = true; rfl) | (show subMask _ _ = true; rfl) | exact inFam_MOT_STATUS | exact wrsOk_nil | apply wrsOk_cons | (intro _; try dsimp only) | split | dsimp only

theorem State.chopSample_kept {s : State} {mv ticks : Nat} (hw₀ : subMask 44384713757731871763593907011022276787238029665316285900278299083033460489070896626061259611145680481749119045752588318509707705929 w₀ = true) (h₀ : Kept w₀ s₀ s) :
    Kept w₀ s₀ (State.chopSample s mv ticks) := by
  refine Kept.trans (a := 44384713757731871763593907011022276787238029665316285900278299083033460489070896626061259611145680481749119045752588318509707705929) (t := s) ?_ hw₀ h₀
  clear h₀ hw₀
  unfold State.chopSample; try dsimp only
  repeat' first | (with_reducible first | assumption | exact Kept.refl _ _ | refine Kept.ite ?_ ?_ | refine State.chopFault_kept ?_ ?_ | refine State.updMot_kept ?_ ?_) | (show Nat.testBit _ _ = true; rfl) | (show subMask _ _ = true; rfl) | (intro _; try dsimp only) | split | dsimp only

theorem State.adcNext_kept {s : State} {sample : Bool} (hw₀ : subMask 4096 w₀ = true) (h₀ : Kept w₀ s₀ s) :
    Kept w₀ s₀ (State.adcNext s sample).1 := by
  refine Kept.trans (a := 4096) (t := s) ?_ hw₀ h₀
  clear h₀ hw₀
  unfold State.adcNext; try dsimp only
  repeat' first | (with_reducible first | assumption | exact Kept.refl _ _ | refine Kept.ite ?_ ?_ | refine State.updMot_kept ?_ ?_) | (show Nat.testBit _ _ = true; rfl) | (show subMask _ _ = true; rfl) | (intro _; try dsimp only) | split | dsimp only
theorem State.adcNext_keptp {s : State} {sample : Bool} {a₀ : State} {b₀ : Nat} (e₀ : State.adcNext s sample = (a₀, b₀)) (hw₀ : subMask 4096 w₀ = true) (h₀ : Kept w₀ s₀ s) : Kept w₀ s₀ a₀ := by
  have g : Kept w₀ s₀ (State.adcNext s sample).1 := State.adcNext_kept hw₀ h₀; rw [e₀] at g; exact g

theorem State.pairSample_kept {s : State} {k : Nat} {ma : Int} (hw₀ : subMask 4096 w₀ = true) (h₀ : Kept w₀ s₀ s) :
    Kept w₀ s₀ (State.pairSample s k ma) := by
  refine Kept.trans (a := 4096) (t := s) ?_ hw₀ h₀
  clear h₀ hw₀
  unfold State.pairSample; try dsimp only
  repeat' first | (with_reducible first | assumption | exact Kept.refl _ _ | refine Kept.ite ?_ ?_ | refine State.updMot_kept ?_ ?_) | (show Nat.testBit _ _ = true; rfl) | (show subMask _ _ = true; rfl) | (intro _; try dsimp only) | split | dsimp only

theorem execMotorAdcConversion_kept {sample : Bool} {code : BitVec 12} {s : State} (hw₀ : subMask 44384713757731871766001163445052782844583686228377968266099241295235112002581010339080378785253513647360011527849295377883151875657 w₀ = true) (h₀ : Kept w₀ s₀ s) :
    KeptR w₀ s₀ (execMotorAdcConversion sample code s) := by
  refine ⟨fun t₁ e₁ => Kept.trans (a := 44384713757731871766001163445052782844583686228377968266099241295235112002581010339080378785253513647360011527849295377883151875657) (t := s) ?_ hw₀ h₀⟩; refine KeptR.keep (?_ : KeptR 44384713757731871766001163445052782844583686228377968266099241295235112002581010339080378785253513647360011527849295377883151875657 s (execMotorAdcConversion sample code s)) t₁ e₁; clear e₁ t₁
  clear h₀ hw₀
  unfold execMotorAdcConversion; try dsimp only
  repeat' first | (with_reducible first | assumption | exact Kept.refl _ _ | refine KeptR.next ?_ | exact KeptR.fault | exact KeptR.refused | refine KeptR.ite ?_ ?_ | refine Kept.ite ?_ ?_ | refine State.adcNext_kept ?_ ?_ | apply State.addC_kept | refine State.chopSample_kept ?_ ?_ | refine State.forEach_kept ?_ ?_ | refine State.pairSample_kept ?_ ?_ | refine State.updMot_kept ?_ ?_ | refine State.when_kept ?_ ?_ | apply State.wr_kept | apply State.wrS_kept | refine State.wrs_kept ?_ ?_ ?_ | refine State.adcNext_keptp (by assumption) ?_ ?_) | (show Nat.testBit _ _ = true; rfl) | (show subMask _ _ = true; rfl) | exact inFam_MOT_ADC | exact inFam_MOT_BUS | exact inFam_MOT_MEAS | exact wrsOk_nil | apply wrsOk_cons | (intro _; try dsimp only) | split | dsimp only

theorem execBusTrip_kept {s : State} (hw₀ : subMask 44384713757731871763744211297237773026161080492152127881991201356354797357886857939587273281087171951952690702173761147038798581769 w₀ = true) (h₀ : Kept w₀ s₀ s) :
    KeptR w₀ s₀ (execBusTrip s) := by
  refine ⟨fun t₁ e₁ => Kept.trans (a := 44384713757731871763744211297237773026161080492152127881991201356354797357886857939587273281087171951952690702173761147038798581769) (t := s) ?_ hw₀ h₀⟩; refine KeptR.keep (?_ : KeptR 44384713757731871763744211297237773026161080492152127881991201356354797357886857939587273281087171951952690702173761147038798581769 s (execBusTrip s)) t₁ e₁; clear e₁ t₁
  clear h₀ hw₀
  unfold execBusTrip; try dsimp only
  repeat' first | (with_reducible first | assumption | exact Kept.refl _ _ | refine KeptR.next ?_ | exact KeptR.fault | exact KeptR.refused | refine KeptR.ite ?_ ?_ | refine Kept.ite ?_ ?_ | refine State.gatesAllOff_kept ?_ ?_ | apply State.motBit_kept | refine State.raiseSrc_kept ?_ ?_) | (show Nat.testBit _ _ = true; rfl) | (show subMask _ _ = true; rfl) | exact inFam_MOT_STATUS | exact wrsOk_nil | apply wrsOk_cons | (intro _; try dsimp only) | split | dsimp only

theorem State.sendMa_kept {s : State} {vs : List Int} (hw₀ : subMask 4198400 w₀ = true) (h₀ : Kept w₀ s₀ s) :
    Kept w₀ s₀ (State.sendMa s vs) := by
  refine Kept.trans (a := 4198400) (t := s) ?_ hw₀ h₀
  clear h₀ hw₀
  unfold State.sendMa; try dsimp only
  repeat' first | (with_reducible first | assumption | exact Kept.refl _ _ | refine Kept.ite ?_ ?_ | refine State.emit_kept ?_ ?_ | refine State.updMot_kept ?_ ?_) | (show Nat.testBit _ _ = true; rfl) | (show subMask _ _ = true; rfl) | (intro _; try dsimp only) | split | dsimp only

theorem execMicroactuatorFrame_kept {s : State} (hw₀ : subMask 4198400 w₀ = true) (h₀ : Kept w₀ s₀ s) :
    KeptR w₀ s₀ (execMicroactuatorFrame s) := by
  refine ⟨fun t₁ e₁ => Kept.trans (a := 4198400) (t := s) ?_ hw₀ h₀⟩; refine KeptR.keep (?_ : KeptR 4198400 s (execMicroactuatorFrame s)) t₁ e₁; clear e₁ t₁
  clear h₀ hw₀
  unfold execMicroactuatorFrame; try dsimp only
  repeat' first | (with_reducible first | assumption | exact Kept.refl _ _ | refine KeptR.next ?_ | exact KeptR.fault | exact KeptR.refused | refine KeptR.ite ?_ ?_ | refine Kept.ite ?_ ?_ | refine State.sendMa_kept ?_ ?_) | (show Nat.testBit _ _ = true; rfl) | (show subMask _ _ = true; rfl) | (intro _; try dsimp only) | split | dsimp only

theorem execDacLate_kept {s : State} (hw₀ : subMask 44384713757731871763593904571940247699576153733957610312239157673224664886161591317409211903479837011571013966277135950044754739209 w₀ = true) (h₀ : Kept w₀ s₀ s) :
    KeptR w₀ s₀ (execDacLate s) := by
  refine ⟨fun t₁ e₁ => Kept.trans (a := 44384713757731871763593904571940247699576153733957610312239157673224664886161591317409211903479837011571013966277135950044754739209) (t := s) ?_ hw₀ h₀⟩; refine KeptR.keep (?_ : KeptR 44384713757731871763593904571940247699576153733957610312239157673224664886161591317409211903479837011571013966277135950044754739209 s (execDacLate s)) t₁ e₁; clear e₁ t₁
  clear h₀ hw₀
  unfold execDacLate; try dsimp only
  repeat' first | (with_reducible first | assumption | exact Kept.refl _ _ | refine KeptR.next ?_ | exact KeptR.fault | exact KeptR.refused | refine KeptR.ite ?_ ?_ | refine Kept.ite ?_ ?_ | apply State.motBit_kept | refine State.raiseSrc_kept ?_ ?_) | (show Nat.testBit _ _ = true; rfl) | (show subMask _ _ = true; rfl) | exact inFam_MOT_STATUS | exact wrsOk_nil | apply wrsOk_cons | (intro _; try dsimp only) | split | dsimp only

theorem State.maRuns_kept {s : State} {v : Nat} (hw₀ : subMask 4096 w₀ = true) (h₀ : Kept w₀ s₀ s) :
    Kept w₀ s₀ (State.maRuns s v) := by
  refine Kept.trans (a := 4096) (t := s) ?_ hw₀ h₀
  clear h₀ hw₀
  unfold State.maRuns; try dsimp only
  repeat' first | (with_reducible first | assumption | exact Kept.refl _ _ | refine Kept.ite ?_ ?_ | refine State.updMot_kept ?_ ?_) | (show Nat.testBit _ _ = true; rfl) | (show subMask _ _ = true; rfl) | (intro _; try dsimp only) | split | dsimp only

theorem execReturnWord_kept {v : BitVec 112} {s : State} (hw₀ : subMask 44384713757731871763969673824266090103700346560802579824658408290858791668384063181506413055164017832703310885494151310994817302089 w₀ = true) (h₀ : Kept w₀ s₀ s) :
    KeptR w₀ s₀ (execReturnWord v s) := by
  refine ⟨fun t₁ e₁ => Kept.trans (a := 44384713757731871763969673824266090103700346560802579824658408290858791668384063181506413055164017832703310885494151310994817302089) (t := s) ?_ hw₀ h₀⟩; refine KeptR.keep (?_ : KeptR 44384713757731871763969673824266090103700346560802579824658408290858791668384063181506413055164017832703310885494151310994817302089 s (execReturnWord v s)) t₁ e₁; clear e₁ t₁
  clear h₀ hw₀
  unfold execReturnWord; try dsimp only
  repeat' first | (with_reducible first | assumption | exact Kept.refl _ _ | refine KeptR.next ?_ | exact KeptR.fault | exact KeptR.refused | refine KeptR.ite ?_ ?_ | refine Kept.ite ?_ ?_ | refine State.chopFault_kept ?_ ?_ | refine State.forEach_kept ?_ ?_ | apply State.inc_kept | refine State.maRuns_kept ?_ ?_ | apply State.motBit_kept | apply State.phaseFault_kept | refine State.raiseSrc_kept ?_ ?_ | apply State.setB_kept | refine State.updMot_kept ?_ ?_ | apply State.wr_kept) | (show Nat.testBit _ _ = true; rfl) | (show subMask _ _ = true; rfl) | exact inFam_MOT_ASTATUS | exact inFam_MOT_CNT | exact inFam_MOT_RET_WORD | exact inFam_MOT_STATUS | exact wrsOk_nil | apply wrsOk_cons | (intro _; try dsimp only) | split | dsimp only

theorem execMaFault_kept {h : Head} {s : State} (hw₀ : subMask 44384713757731871763631481253264633837193216246039681244856974002067406639400449674396292649836546438926951562551773949542827434569 w₀ = true) (h₀ : Kept w₀ s₀ s) :
    KeptR w₀ s₀ (execMaFault h s) := by
  refine ⟨fun t₁ e₁ => Kept.trans (a := 44384713757731871763631481253264633837193216246039681244856974002067406639400449674396292649836546438926951562551773949542827434569) (t := s) ?_ hw₀ h₀⟩; refine KeptR.keep (?_ : KeptR 44384713757731871763631481253264633837193216246039681244856974002067406639400449674396292649836546438926951562551773949542827434569 s (execMaFault h s)) t₁ e₁; clear e₁ t₁
  clear h₀ hw₀
  unfold execMaFault; try dsimp only
  repeat' first | (with_reducible first | assumption | exact Kept.refl _ _ | refine KeptR.next ?_ | exact KeptR.fault | exact KeptR.refused | refine KeptR.ite ?_ ?_ | refine Kept.ite ?_ ?_ | refine State.fenceMa_kept ?_ ?_ | refine State.raiseSrc_kept ?_ ?_) | (show Nat.testBit _ _ = true; rfl) | (show subMask _ _ = true; rfl) | (intro _; try dsimp only) | split | dsimp only

theorem execMotLoad_kept {w : Initiator} {a : Act} {s : State} (hw₀ : subMask 143343663499379469475676305956380433799785311823017570233599302461682679755530300504376159574055784026117 w₀ = true) (h₀ : Kept w₀ s₀ s) :
    KeptR w₀ s₀ (execMotLoad w a s) := by
  refine ⟨fun t₁ e₁ => Kept.trans (a := 143343663499379469475676305956380433799785311823017570233599302461682679755530300504376159574055784026117) (t := s) ?_ hw₀ h₀⟩; refine KeptR.keep (?_ : KeptR 143343663499379469475676305956380433799785311823017570233599302461682679755530300504376159574055784026117 s (execMotLoad w a s)) t₁ e₁; clear e₁ t₁
  clear h₀ hw₀
  unfold execMotLoad; try dsimp only
  repeat' first | (with_reducible first | assumption | exact Kept.refl _ _ | refine KeptR.next ?_ | exact KeptR.fault | exact KeptR.refused | refine KeptR.ite ?_ ?_ | refine Kept.ite ?_ ?_ | refine State.refuseW_kept ?_ ?_ | refine State.startLoad_kept ?_ ?_) | (show Nat.testBit _ _ = true; rfl) | (show subMask _ _ = true; rfl) | (intro _; try dsimp only) | split | dsimp only

theorem execMotRetract_kept {a : Act} {s : State} (hw₀ : subMask 44384376587918356619345083452686370194006454691202219055673393274801299088485422989882798618456889221705442253674992373007770988105 w₀ = true) (h₀ : Kept w₀ s₀ s) :
    KeptR w₀ s₀ (execMotRetract a s) := by
  refine ⟨fun t₁ e₁ => Kept.trans (a := 44384376587918356619345083452686370194006454691202219055673393274801299088485422989882798618456889221705442253674992373007770988105) (t := s) ?_ hw₀ h₀⟩; refine KeptR.keep (?_ : KeptR 44384376587918356619345083452686370194006454691202219055673393274801299088485422989882798618456889221705442253674992373007770988105 s (execMotRetract a s)) t₁ e₁; clear e₁ t₁
  clear h₀ hw₀
  unfold execMotRetract; try dsimp only
  repeat' first | (with_reducible first | assumption | exact Kept.refl _ _ | refine KeptR.next ?_ | exact KeptR.fault | exact KeptR.refused | refine KeptR.ite ?_ ?_ | refine Kept.ite ?_ ?_ | refine State.retract_kept ?_ ?_) | (show Nat.testBit _ _ = true; rfl) | (show subMask _ _ = true; rfl) | (intro _; try dsimp only) | split | dsimp only

theorem execMotTest_kept {w : Initiator} {a : Act} {s : State} (hw₀ : subMask 143343663499379469475676305956380433799785311823017570233599302461682679755530300504376159574055784026117 w₀ = true) (h₀ : Kept w₀ s₀ s) :
    KeptR w₀ s₀ (execMotTest w a s) := by
  refine ⟨fun t₁ e₁ => Kept.trans (a := 143343663499379469475676305956380433799785311823017570233599302461682679755530300504376159574055784026117) (t := s) ?_ hw₀ h₀⟩; refine KeptR.keep (?_ : KeptR 143343663499379469475676305956380433799785311823017570233599302461682679755530300504376159574055784026117 s (execMotTest w a s)) t₁ e₁; clear e₁ t₁
  clear h₀ hw₀
  unfold execMotTest; try dsimp only
  repeat' first | (with_reducible first | assumption | exact Kept.refl _ _ | refine KeptR.next ?_ | exact KeptR.fault | exact KeptR.refused | refine KeptR.ite ?_ ?_ | refine Kept.ite ?_ ?_ | refine State.refuseW_kept ?_ ?_ | refine State.updMot_kept ?_ ?_ | apply State.wr_kept) | (show Nat.testBit _ _ = true; rfl) | (show subMask _ _ = true; rfl) | exact inFam_MOT_ASTATUS | exact wrsOk_nil | apply wrsOk_cons | (intro _; try dsimp only) | split | dsimp only

theorem execVcmTestEnd_kept {a : Act} {s : State} (hw₀ : subMask 11401239780876589536596773705891387941375068216674876272944694746231346113441829508417864479612583454548012427457169805855542536191561 w₀ = true) (h₀ : Kept w₀ s₀ s) :
    KeptR w₀ s₀ (execVcmTestEnd a s) := by
  refine ⟨fun t₁ e₁ => Kept.trans (a := 11401239780876589536596773705891387941375068216674876272944694746231346113441829508417864479612583454548012427457169805855542536191561) (t := s) ?_ hw₀ h₀⟩; refine KeptR.keep (?_ : KeptR 11401239780876589536596773705891387941375068216674876272944694746231346113441829508417864479612583454548012427457169805855542536191561 s (execVcmTestEnd a s)) t₁ e₁; clear e₁ t₁
  clear h₀ hw₀
  unfold execVcmTestEnd; try dsimp only
  repeat' first | (with_reducible first | assumption | exact Kept.refl _ _ | refine KeptR.next ?_ | exact KeptR.fault | exact KeptR.refused | refine KeptR.ite ?_ ?_ | refine Kept.ite ?_ ?_ | refine State.fenceVcm_kept ?_ ?_ | refine State.motLog_kept ?_ ?_ | refine State.raiseSrc_kept ?_ ?_ | apply State.setB_kept | refine State.updMot_kept ?_ ?_ | refine State.wrs_kept ?_ ?_ ?_) | (show Nat.testBit _ _ = true; rfl) | (show subMask _ _ = true; rfl) | exact inFam_MOT_ASTATUS | exact inFam_MOT_VCM_CFG | exact inFam_MOT_VCM_CFG_hold | exact wrsOk_nil | apply wrsOk_cons | (intro _; try dsimp only) | split | dsimp only

theorem execVcmTestRepeat_kept {a : Act} {s : State} (hw₀ : subMask 4096 w₀ = true) (h₀ : Kept w₀ s₀ s) :
    KeptR w₀ s₀ (execVcmTestRepeat a s) := by
  refine ⟨fun t₁ e₁ => Kept.trans (a := 4096) (t := s) ?_ hw₀ h₀⟩; refine KeptR.keep (?_ : KeptR 4096 s (execVcmTestRepeat a s)) t₁ e₁; clear e₁ t₁
  clear h₀ hw₀
  unfold execVcmTestRepeat; try dsimp only
  repeat' first | (with_reducible first | assumption | exact Kept.refl _ _ | refine KeptR.next ?_ | exact KeptR.fault | exact KeptR.refused | refine KeptR.ite ?_ ?_ | refine Kept.ite ?_ ?_ | refine State.updMot_kept ?_ ?_) | (show Nat.testBit _ _ = true; rfl) | (show subMask _ _ = true; rfl) | (intro _; try dsimp only) | split | dsimp only

theorem execLoadOffRamp_kept {a : Act} {s : State} (hw₀ : subMask 143343663499379469475676305956380433799785311823017570233599302461682679755530300504376159569382855411713 w₀ = true) (h₀ : Kept w₀ s₀ s) :
    KeptR w₀ s₀ (execLoadOffRamp a s) := by
  refine ⟨fun t₁ e₁ => Kept.trans (a := 143343663499379469475676305956380433799785311823017570233599302461682679755530300504376159569382855411713) (t := s) ?_ hw₀ h₀⟩; refine KeptR.keep (?_ : KeptR 143343663499379469475676305956380433799785311823017570233599302461682679755530300504376159569382855411713 s (execLoadOffRamp a s)) t₁ e₁; clear e₁ t₁
  clear h₀ hw₀
  unfold execLoadOffRamp; try dsimp only
  repeat' first | (with_reducible first | assumption | exact Kept.refl _ _ | refine KeptR.next ?_ | exact KeptR.fault | exact KeptR.refused | refine KeptR.ite ?_ ?_ | refine Kept.ite ?_ ?_ | refine State.updAct_kept ?_ ?_ | apply State.wr_kept) | (show Nat.testBit _ _ = true; rfl) | (show subMask _ _ = true; rfl) | exact inFam_MOT_ASTATUS | exact wrsOk_nil | apply wrsOk_cons | (intro _; try dsimp only) | split | dsimp only

theorem State.retTimeout_kept {s : State} {a : Nat} (hw₀ : subMask 44384713757731871763739514355415888859084771006634855164316883791042292541163013591243511324719622490596063808553151179015590117385 w₀ = true) (h₀ : Kept w₀ s₀ s) :
    Kept w₀ s₀ (State.retTimeout s a) := by
  refine Kept.trans (a := 44384713757731871763739514355415888859084771006634855164316883791042292541163013591243511324719622490596063808553151179015590117385) (t := s) ?_ hw₀ h₀
  clear h₀ hw₀
  unfold State.retTimeout; try dsimp only
  repeat' first | (with_reducible first | assumption | exact Kept.refl _ _ | refine Kept.ite ?_ ?_ | refine State.raiseSrc_kept ?_ ?_ | apply State.setB_kept | refine State.stopBeat_kept ?_ ?_) | (show Nat.testBit _ _ = true; rfl) | (show subMask _ _ = true; rfl) | exact inFam_MOT_ASTATUS | exact wrsOk_nil | apply wrsOk_cons | (intro _; try dsimp only) | split | dsimp only

theorem execLoadTravelTimeout_kept {a : Act} {s : State} (hw₀ : subMask 44384713757731871763739514355415888859084771006634855164316883791042292541163013591243511324719622490596063808553151179015590117385 w₀ = true) (h₀ : Kept w₀ s₀ s) :
    KeptR w₀ s₀ (execLoadTravelTimeout a s) := by
  refine ⟨fun t₁ e₁ => Kept.trans (a := 44384713757731871763739514355415888859084771006634855164316883791042292541163013591243511324719622490596063808553151179015590117385) (t := s) ?_ hw₀ h₀⟩; refine KeptR.keep (?_ : KeptR 44384713757731871763739514355415888859084771006634855164316883791042292541163013591243511324719622490596063808553151179015590117385 s (execLoadTravelTimeout a s)) t₁ e₁; clear e₁ t₁
  clear h₀ hw₀
  unfold execLoadTravelTimeout; try dsimp only
  repeat' first | (with_reducible first | assumption | exact Kept.refl _ _ | refine KeptR.next ?_ | exact KeptR.fault | exact KeptR.refused | refine KeptR.ite ?_ ?_ | refine Kept.ite ?_ ?_ | refine State.retTimeout_kept ?_ ?_ | apply State.wr_kept) | (show Nat.testBit _ _ = true; rfl) | (show subMask _ _ = true; rfl) | exact inFam_MOT_ASTATUS | exact wrsOk_nil | apply wrsOk_cons | (intro _; try dsimp only) | split | dsimp only

theorem execActuatorParked_kept {a : Act} {s : State} (hw₀ : subMask 143343663499379469475676305956380433799785311823017570233599302461682679755530300504376159569382855413761 w₀ = true) (h₀ : Kept w₀ s₀ s) :
    KeptR w₀ s₀ (execActuatorParked a s) := by
  refine ⟨fun t₁ e₁ => Kept.trans (a := 143343663499379469475676305956380433799785311823017570233599302461682679755530300504376159569382855413761) (t := s) ?_ hw₀ h₀⟩; refine KeptR.keep (?_ : KeptR 143343663499379469475676305956380433799785311823017570233599302461682679755530300504376159569382855413761 s (execActuatorParked a s)) t₁ e₁; clear e₁ t₁
  clear h₀ hw₀
  unfold execActuatorParked; try dsimp only
  repeat' first | (with_reducible first | assumption | exact Kept.refl _ _ | refine KeptR.next ?_ | exact KeptR.fault | exact KeptR.refused | refine KeptR.ite ?_ ?_ | refine Kept.ite ?_ ?_ | refine State.startLoad_kept ?_ ?_ | refine State.updMot_kept ?_ ?_ | refine State.when_kept ?_ ?_ | apply State.wr_kept) | (show Nat.testBit _ _ = true; rfl) | (show subMask _ _ = true; rfl) | exact inFam_MOT_ASTATUS | exact wrsOk_nil | apply wrsOk_cons | (intro _; try dsimp only) | split | dsimp only

theorem execRetractTimeout_kept {a : Act} {s : State} (hw₀ : subMask 44384713757731871763739514355415888859084771006634855164316883791042292541163013591243511324719622490596063808553151179015590117385 w₀ = true) (h₀ : Kept w₀ s₀ s) :
    KeptR w₀ s₀ (execRetractTimeout a s) := by
  refine ⟨fun t₁ e₁ => Kept.trans (a := 44384713757731871763739514355415888859084771006634855164316883791042292541163013591243511324719622490596063808553151179015590117385) (t := s) ?_ hw₀ h₀⟩; refine KeptR.keep (?_ : KeptR 44384713757731871763739514355415888859084771006634855164316883791042292541163013591243511324719622490596063808553151179015590117385 s (execRetractTimeout a s)) t₁ e₁; clear e₁ t₁
  clear h₀ hw₀
  unfold execRetractTimeout; try dsimp only
  repeat' first | (with_reducible first | assumption | exact Kept.refl _ _ | refine KeptR.next ?_ | exact KeptR.fault | exact KeptR.refused | refine KeptR.ite ?_ ?_ | refine Kept.ite ?_ ?_ | refine State.retTimeout_kept ?_ ?_) | (show Nat.testBit _ _ = true; rfl) | (show subMask _ _ = true; rfl) | (intro _; try dsimp only) | split | dsimp only

theorem execPwmGenDisagree_kept {s : State} (hw₀ : subMask 44384713757731871763739514212072225359705301530958549207936449991256980718145443357644208863036942735065763304176991609632734711817 w₀ = true) (h₀ : Kept w₀ s₀ s) :
    KeptR w₀ s₀ (execPwmGenDisagree s) := by
  refine ⟨fun t₁ e₁ => Kept.trans (a := 44384713757731871763739514212072225359705301530958549207936449991256980718145443357644208863036942735065763304176991609632734711817) (t := s) ?_ hw₀ h₀⟩; refine KeptR.keep (?_ : KeptR 44384713757731871763739514212072225359705301530958549207936449991256980718145443357644208863036942735065763304176991609632734711817 s (execPwmGenDisagree s)) t₁ e₁; clear e₁ t₁
  clear h₀ hw₀
  unfold execPwmGenDisagree; try dsimp only
  repeat' first | (with_reducible first | assumption | exact Kept.refl _ _ | refine KeptR.next ?_ | exact KeptR.fault | exact KeptR.refused | refine KeptR.ite ?_ ?_ | refine Kept.ite ?_ ?_ | refine State.pwmFatal_kept ?_ ?_ | refine State.updMot_kept ?_ ?_) | (show Nat.testBit _ _ = true; rfl) | (show subMask _ _ = true; rfl) | (intro _; try dsimp only) | split | dsimp only

end Sys2Proof.Machine
end

