-- ==== Sys2Proof/Laws/KeptCache.lean ====
section
/-! SUPPORT. What the operations and meanings of Machine/Cache.lean keep (the relation Kept). -/

set_option Elab.async false

namespace Sys2Proof.Machine
open Reg
set_option linter.unusedVariables false
set_option linter.unusedTactic false
set_option linter.unreachableTactic false
set_option maxHeartbeats 400000

variable {w₀ : Nat} {s₀ : State}

theorem State.applyWrite_kept {s : State} {w : DWrite} {c ofs : Nat} (hw₀ : subMask 32 w₀ = true) (h₀ : Kept w₀ s₀ s) :
    Kept w₀ s₀ (State.applyWrite s w c ofs) := by
  refine Kept.trans (a := 32) (t := s) ?_ hw₀ h₀
  clear h₀ hw₀
  unfold State.applyWrite; try dsimp only
  repeat' first | (with_reducible first | assumption | exact Kept.refl _ _ | refine Kept.ite ?_ ?_ | refine State.updDdr_kept ?_ ?_ ?_) | (show Nat.testBit _ _ = true; rfl) | (show subMask _ _ = true; rfl) | refine DdrCh.upset_holds ?_ | refine DdrCh.writeBurst_holds ?_ | exact DdrCh.holds_of rfl rfl | exact DramU.holds_of rfl | (intro _; try dsimp only) | split | dsimp only

theorem State.issueRead_kept {s : State} {line half : Nat} {bypass : Bool} (hw₀ : subMask 44384713757731871763589207486774700033120374772764031638184406308126848246432436699793074596296474570901289041749316325616159686697 w₀ = true) (h₀ : Kept w₀ s₀ s) :
    Kept w₀ s₀ (State.issueRead s line half bypass) := by
  refine Kept.trans (a := 44384713757731871763589207486774700033120374772764031638184406308126848246432436699793074596296474570901289041749316325616159686697) (t := s) ?_ hw₀ h₀
  clear h₀ hw₀
  unfold State.issueRead; try dsimp only
  repeat' first | (with_reducible first | assumption | exact Kept.refl _ _ | refine Kept.ite ?_ ?_ | refine State.raiseSrc_kept ?_ ?_ | apply State.setB_kept | refine State.updDram_kept ?_ ?_ ?_) | exact DramU.holds_of rfl | (show Nat.testBit _ _ = true; rfl) | (show subMask _ _ = true; rfl) | exact inFam_DDR_GSTATUS | exact wrsOk_nil | apply wrsOk_cons | exact DramU.holds_of rfl | (intro _; try dsimp only) | split | dsimp only

theorem State.sendAnswers_kept {s : State} (hw₀ : subMask 4194336 w₀ = true) (h₀ : Kept w₀ s₀ s) :
    Kept w₀ s₀ (State.sendAnswers s) := by
  refine Kept.trans (a := 4194336) (t := s) ?_ hw₀ h₀
  clear h₀ hw₀
  unfold State.sendAnswers; try dsimp only
  repeat' first | (with_reducible first | assumption | exact Kept.refl _ _ | refine Kept.ite ?_ ?_ | refine State.emit_kept ?_ ?_ | refine State.forEach_kept ?_ ?_ | refine State.updDram_kept ?_ ?_ ?_) | exact DramU.holds_of rfl | (show Nat.testBit _ _ = true; rfl) | (show subMask _ _ = true; rfl) | exact DramU.holds_of rfl | (intro _; try dsimp only) | split | dsimp only

theorem State.answer_kept {s : State} {id : Nat} {r : BufResp} (hw₀ : subMask 4194336 w₀ = true) (h₀ : Kept w₀ s₀ s) : Kept w₀ s₀ (State.answer s id r) := by
  exact Kept.trans (a := 4194336) (t := s) (State.sendAnswers_kept rfl (State.updDram_kept (fun _ => ⟨fun h => h⟩) rfl (Kept.refl _ _))) hw₀ h₀

theorem State.maintDone_kept {s : State} (hw₀ : subMask 730750818665451459101842416358141509827970465825 w₀ = true) (h₀ : Kept w₀ s₀ s) :
    Kept w₀ s₀ (State.maintDone s) := by
  refine Kept.trans (a := 730750818665451459101842416358141509827970465825) (t := s) ?_ hw₀ h₀
  clear h₀ hw₀
  unfold State.maintDone; try dsimp only
  repeat' first | (with_reducible first | assumption | exact Kept.refl _ _ | refine Kept.ite ?_ ?_ | apply State.clr_kept | apply State.raiseBit_kept | refine State.updDram_kept ?_ ?_ ?_) | exact DramU.holds_of rfl | (show Nat.testBit _ _ = true; rfl) | (show subMask _ _ = true; rfl) | exact inFam_BCC_STATUS | exact wrsOk_nil | apply wrsOk_cons | exact DramU.holds_of rfl | (intro _; try dsimp only) | split | dsimp only

theorem State.updMaint_kept {s : State} {f : CMaint → CMaint} (hw₀ : subMask 32 w₀ = true) (h₀ : Kept w₀ s₀ s) :
    Kept w₀ s₀ (State.updMaint s f) := by
  refine Kept.trans (a := 32) (t := s) ?_ hw₀ h₀
  clear h₀ hw₀
  unfold State.updMaint; try dsimp only
  repeat' first | (with_reducible first | assumption | exact Kept.refl _ _ | refine Kept.ite ?_ ?_ | refine State.updDram_kept ?_ ?_ ?_) | exact DramU.holds_of rfl | (show Nat.testBit _ _ = true; rfl) | (show subMask _ _ = true; rfl) | exact DramU.holds_of rfl | (intro _; try dsimp only) | split | dsimp only

theorem State.maintDefer_kept {s : State} {line : Nat} (hw₀ : subMask 32 w₀ = true) (h₀ : Kept w₀ s₀ s) :
    Kept w₀ s₀ (State.maintDefer s line) := by
  refine Kept.trans (a := 32) (t := s) ?_ hw₀ h₀
  clear h₀ hw₀
  unfold State.maintDefer; try dsimp only
  repeat' first | (with_reducible first | assumption | exact Kept.refl _ _ | refine Kept.ite ?_ ?_ | refine State.updMaint_kept ?_ ?_) | (show Nat.testBit _ _ = true; rfl) | (show subMask _ _ = true; rfl) | (intro _; try dsimp only) | split | dsimp only

theorem State.issueWrite_kept {s : State} {line : Nat} {data : List (Option Byte)} {poison : Bool × Bool} {why : DWhy} (hw₀ : subMask 12259964326927110866866776217202473468949912977468817441 w₀ = true) (h₀ : Kept w₀ s₀ s) :
    Kept w₀ s₀ (State.issueWrite s line data poison why).1 := by
  refine Kept.trans (a := 12259964326927110866866776217202473468949912977468817441) (t := s) ?_ hw₀ h₀
  clear h₀ hw₀
  unfold State.issueWrite; try dsimp only
  repeat' first | (with_reducible first | assumption | exact Kept.refl _ _ | refine Kept.ite ?_ ?_ | apply State.setB_kept | refine State.updDram_kept ?_ ?_ ?_) | exact DramU.holds_of rfl | (show Nat.testBit _ _ = true; rfl) | (show subMask _ _ = true; rfl) | exact inFam_DDR_GSTATUS | exact wrsOk_nil | apply wrsOk_cons | exact DramU.holds_of rfl | (intro _; try dsimp only) | split | dsimp only
theorem State.issueWrite_keptp {s : State} {line : Nat} {data : List (Option Byte)} {poison : Bool × Bool} {why : DWhy} {a₀ : State} {b₀ : Bool} (e₀ : State.issueWrite s line data poison why = (a₀, b₀)) (hw₀ : subMask 12259964326927110866866776217202473468949912977468817441 w₀ = true) (h₀ : Kept w₀ s₀ s) : Kept w₀ s₀ a₀ := by
  have g : Kept w₀ s₀ (State.issueWrite s line data poison why).1 := State.issueWrite_kept hw₀ h₀; rw [e₀] at g; exact g

theorem State.evictWay_kept {s : State} {k : Nat} (hw₀ : subMask 44384713757731871763589207486774700033120374772764031638184406308126848246432436699824474067314077171224632994733180094249745645625 w₀ = true) (h₀ : Kept w₀ s₀ s) :
    Kept w₀ s₀ (State.evictWay s k) := by
  refine Kept.trans (a := 44384713757731871763589207486774700033120374772764031638184406308126848246432436699824474067314077171224632994733180094249745645625) (t := s) ?_ hw₀ h₀
  clear h₀ hw₀
  unfold State.evictWay; try dsimp only
  repeat' first | (with_reducible first | assumption | exact Kept.refl _ _ | refine Kept.ite ?_ ?_ | refine State.issueWrite_kept ?_ ?_ | refine State.updDram_kept ?_ ?_ ?_ | refine State.updWay_kept ?_ ?_ | refine State.wayReport_kept ?_ ?_ | refine State.issueWrite_keptp (by assumption) ?_ ?_) | exact DramU.holds_of rfl | (show Nat.testBit _ _ = true; rfl) | (show subMask _ _ = true; rfl) | exact DramU.holds_of rfl | (intro _; try dsimp only) | split | dsimp only

theorem State.pickVictim_kept {s : State} {line : Nat} (hw₀ : subMask 32 w₀ = true) (h₀ : Kept w₀ s₀ s) :
    ∀ p, State.pickVictim s line = some p → Kept w₀ s₀ p.1 := by
  intro p hp; refine Kept.trans (a := 32) (t := s) ?_ hw₀ h₀
  clear h₀ hw₀
  unfold State.pickVictim at hp; try dsimp only at hp
  repeat' first | (cases hp; done) | split at hp
  all_goals (cases hp)
  all_goals (repeat' first | (with_reducible first | assumption | exact Kept.refl _ _ | refine Kept.ite ?_ ?_ | refine State.forEach_kept ?_ ?_ | refine State.updWay_kept ?_ ?_) | (show Nat.testBit _ _ = true; rfl) | (show subMask _ _ = true; rfl) | (intro _; try dsimp only) | split | dsimp only)

theorem State.maintVictim_kept {s : State} {line : Nat} (hw₀ : subMask 44384713757731871763589207486774700033120374772764031638184406308126848246432436699824474067314077171224632994733180094249745645625 w₀ = true) (h₀ : Kept w₀ s₀ s) :
    ∀ p, State.maintVictim s line = some p → Kept w₀ s₀ p.1 := by
  intro p hp; refine Kept.trans (a := 44384713757731871763589207486774700033120374772764031638184406308126848246432436699824474067314077171224632994733180094249745645625) (t := s) ?_ hw₀ h₀
  clear h₀ hw₀
  unfold State.maintVictim at hp; try dsimp only at hp
  repeat' first | (cases hp; done) | split at hp
  all_goals (cases hp)
  all_goals (repeat' first | (with_reducible first | assumption | exact Kept.refl _ _ | refine Kept.ite ?_ ?_ | refine State.evictWay_kept ?_ ?_ | refine State.pickVictim_kept ?_ ?_ _ (by assumption)) | (show Nat.testBit _ _ = true; rfl) | (show subMask _ _ = true; rfl) | (intro _; try dsimp only) | split | dsimp only)

theorem State.showOcc_kept {s : State} (hw₀ : subMask 5986310706507378352962293074805895248510699696029697 w₀ = true) (h₀ : Kept w₀ s₀ s) :
    Kept w₀ s₀ (State.showOcc s) := by
  refine Kept.trans (a := 5986310706507378352962293074805895248510699696029697) (t := s) ?_ hw₀ h₀
  clear h₀ hw₀
  unfold State.showOcc; try dsimp only
  repeat' first | (with_reducible first | assumption | exact Kept.refl _ _ | refine Kept.ite ?_ ?_ | refine State.wrs_kept ?_ ?_ ?_) | (show Nat.testBit _ _ = true; rfl) | (show subMask _ _ = true; rfl) | exact inFam_BCC_OCC | exact wrsOk_nil | apply wrsOk_cons | (intro _; try dsimp only) | split | dsimp only

theorem State.startMiss_kept {s : State} {k line : Nat} {reqs : List CReq} {stream lock : Bool} (hw₀ : subMask 44384713757731871763589207486774700033120374772764031638184406308126848246432442686103781103674827533194363847644564836315855716393 w₀ = true) (h₀ : Kept w₀ s₀ s) :
    Kept w₀ s₀ (State.startMiss s k line reqs stream lock) := by
  refine Kept.trans (a := 44384713757731871763589207486774700033120374772764031638184406308126848246432442686103781103674827533194363847644564836315855716393) (t := s) ?_ hw₀ h₀
  clear h₀ hw₀
  unfold State.startMiss; try dsimp only
  repeat' first | (with_reducible first | assumption | exact Kept.refl _ _ | refine Kept.ite ?_ ?_ | refine State.issueRead_kept ?_ ?_ | refine State.showOcc_kept ?_ ?_ | refine State.updDram_kept ?_ ?_ ?_ | refine State.updWay_kept ?_ ?_) | exact DramU.holds_of rfl | (show Nat.testBit _ _ = true; rfl) | (show subMask _ _ = true; rfl) | exact DramU.holds_of rfl | (intro _; try dsimp only) | split | dsimp only

theorem State.lockFill_kept {s : State} {line : Nat} (hw₀ : subMask 44384713757731871763589207486774700033120374772764031638184406308126848246432442732903232969281323516035622447549485233939283050553 w₀ = true) (h₀ : Kept w₀ s₀ s) :
    Kept w₀ s₀ (State.lockFill s line) := by
  refine Kept.trans (a := 44384713757731871763589207486774700033120374772764031638184406308126848246432442732903232969281323516035622447549485233939283050553) (t := s) ?_ hw₀ h₀
  clear h₀ hw₀
  unfold State.lockFill; try dsimp only
  repeat' first | (with_reducible first | assumption | exact Kept.refl _ _ | refine Kept.ite ?_ ?_ | apply State.inc_kept | refine State.maintDefer_kept ?_ ?_ | refine State.startMiss_kept ?_ ?_ | refine State.updMaint_kept ?_ ?_ | refine State.maintVictim_kept ?_ ?_ _ (by assumption)) | (show Nat.testBit _ _ = true; rfl) | (show subMask _ _ = true; rfl) | exact inFam_BCC_MAINT_RESP2 | exact wrsOk_nil | apply wrsOk_cons | (intro _; try dsimp only) | split | dsimp only

theorem State.poisonWay_kept {s : State} {k : Nat} {p : Bool × Bool} (hw₀ : subMask 730750818665451459101842416358141509827970465825 w₀ = true) (h₀ : Kept w₀ s₀ s) :
    Kept w₀ s₀ (State.poisonWay s k p) := by
  refine Kept.trans (a := 730750818665451459101842416358141509827970465825) (t := s) ?_ hw₀ h₀
  clear h₀ hw₀
  unfold State.poisonWay; try dsimp only
  repeat' first | (with_reducible first | assumption | exact Kept.refl _ _ | refine Kept.ite ?_ ?_ | apply State.raiseBit_kept | refine State.updWay_kept ?_ ?_) | (show Nat.testBit _ _ = true; rfl) | (show subMask _ _ = true; rfl) | exact inFam_BCC_STATUS | exact wrsOk_nil | apply wrsOk_cons | (intro _; try dsimp only) | split | dsimp only

theorem State.cleanWay_kept {s : State} {k : Nat} (hw₀ : subMask 44384713757731871763589207486774700033120374772764031638184406308126848246432436747323277280568422012844390058012378233067553292345 w₀ = true) (h₀ : Kept w₀ s₀ s) :
    Kept w₀ s₀ (State.cleanWay s k) := by
  refine Kept.trans (a := 44384713757731871763589207486774700033120374772764031638184406308126848246432436747323277280568422012844390058012378233067553292345) (t := s) ?_ hw₀ h₀
  clear h₀ hw₀
  unfold State.cleanWay; try dsimp only
  repeat' first | (with_reducible first | assumption | exact Kept.refl _ _ | refine Kept.ite ?_ ?_ | apply State.inc_kept | refine State.issueWrite_kept ?_ ?_ | refine State.poisonWay_kept ?_ ?_ | refine State.updMaint_kept ?_ ?_ | refine State.updWay_kept ?_ ?_ | refine State.wayReport_kept ?_ ?_ | refine State.issueWrite_keptp (by assumption) ?_ ?_) | (show Nat.testBit _ _ = true; rfl) | (show subMask _ _ = true; rfl) | exact inFam_BCC_MAINT_RESP2 | exact wrsOk_nil | apply wrsOk_cons | (intro _; try dsimp only) | split | dsimp only

theorem State.fillWay_kept {s : State} {k : Nat} {bs : List Byte} (hw₀ : subMask 16 w₀ = true) (h₀ : Kept w₀ s₀ s) :
    Kept w₀ s₀ (State.fillWay s k bs) := by
  refine Kept.trans (a := 16) (t := s) ?_ hw₀ h₀
  clear h₀ hw₀
  unfold State.fillWay; try dsimp only
  repeat' first | (with_reducible first | assumption | exact Kept.refl _ _ | refine Kept.ite ?_ ?_ | refine State.updMem_kept ?_ ?_ ?_) | (show Nat.testBit _ _ = true; rfl) | (show subMask _ _ = true; rfl) | refine MemU.store_holds ?_ | refine MemU.flip_holds ?_ | refine MemU.storeList_holds ?_ | refine MemU.flipAll_holds ?_ | refine MemU.foldl_holds ?_ ?_ | exact MemU.holds_of rfl rfl | (intro _; try dsimp only) | split | dsimp only

theorem State.invalWay_kept {s : State} {k : Nat} (hw₀ : subMask 32 w₀ = true) (h₀ : Kept w₀ s₀ s) :
    Kept w₀ s₀ (State.invalWay s k) := by
  refine Kept.trans (a := 32) (t := s) ?_ hw₀ h₀
  clear h₀ hw₀
  unfold State.invalWay; try dsimp only
  repeat' first | (with_reducible first | assumption | exact Kept.refl _ _ | refine Kept.ite ?_ ?_ | refine State.updWay_kept ?_ ?_) | (show Nat.testBit _ _ = true; rfl) | (show subMask _ _ = true; rfl) | (intro _; try dsimp only) | split | dsimp only

theorem State.maintWay_kept {s : State} {op k : Nat} (hw₀ : subMask 44384713757731871763589207486774700033120374772764031638184406308126848246432436770707303477862868704103347381472906547562473979961 w₀ = true) (h₀ : Kept w₀ s₀ s) :
    Kept w₀ s₀ (State.maintWay s op k) := by
  refine Kept.trans (a := 44384713757731871763589207486774700033120374772764031638184406308126848246432436770707303477862868704103347381472906547562473979961) (t := s) ?_ hw₀ h₀
  clear h₀ hw₀
  unfold State.maintWay; try dsimp only
  repeat' first | (with_reducible first | assumption | exact Kept.refl _ _ | refine Kept.ite ?_ ?_ | refine State.cleanWay_kept ?_ ?_ | refine State.fillWay_kept ?_ ?_ | apply State.inc_kept | refine State.invalWay_kept ?_ ?_ | refine State.updWay_kept ?_ ?_ | refine State.when_kept ?_ ?_) | (show Nat.testBit _ _ = true; rfl) | (show subMask _ _ = true; rfl) | exact inFam_BCC_MAINT_RESP | exact inFam_BCC_MAINT_RESP2 | exact wrsOk_nil | apply wrsOk_cons | (intro _; try dsimp only) | split | dsimp only

theorem State.zeroLine_kept {s : State} {line : Nat} (hw₀ : subMask 44384713757731871763589207486774700033120374772764031638184406308126848246432436699824474067314077171224632994733180094249745645625 w₀ = true) (h₀ : Kept w₀ s₀ s) :
    Kept w₀ s₀ (State.zeroLine s line) := by
  refine Kept.trans (a := 44384713757731871763589207486774700033120374772764031638184406308126848246432436699824474067314077171224632994733180094249745645625) (t := s) ?_ hw₀ h₀
  clear h₀ hw₀
  unfold State.zeroLine; try dsimp only
  repeat' first | (with_reducible first | assumption | exact Kept.refl _ _ | refine Kept.ite ?_ ?_ | refine State.fillWay_kept ?_ ?_ | refine State.lineStore_kept ?_ ?_ | refine State.maintDefer_kept ?_ ?_ | refine State.updWay_kept ?_ ?_ | refine State.maintVictim_kept ?_ ?_ _ (by assumption)) | (show Nat.testBit _ _ = true; rfl) | (show subMask _ _ = true; rfl) | (intro _; try dsimp only) | split | dsimp only

theorem State.maintLine_kept {s : State} {op line : Nat} (hw₀ : subMask 44384713757731871763589207486774700033120374772764031638184406308126848246432442757018009985241221666396422187368155058262170009657 w₀ = true) (h₀ : Kept w₀ s₀ s) :
    Kept w₀ s₀ (State.maintLine s op line) := by
  refine Kept.trans (a := 44384713757731871763589207486774700033120374772764031638184406308126848246432442757018009985241221666396422187368155058262170009657) (t := s) ?_ hw₀ h₀
  clear h₀ hw₀
  unfold State.maintLine; try dsimp only
  repeat' first | (with_reducible first | assumption | exact Kept.refl _ _ | refine Kept.ite ?_ ?_ | apply State.inc_kept | refine State.lockFill_kept ?_ ?_ | refine State.maintDefer_kept ?_ ?_ | refine State.maintWay_kept ?_ ?_ | refine State.updWay_kept ?_ ?_ | refine State.zeroLine_kept ?_ ?_) | (show Nat.testBit _ _ = true; rfl) | (show subMask _ _ = true; rfl) | exact inFam_BCC_MAINT_RESP2 | exact wrsOk_nil | apply wrsOk_cons | (intro _; try dsimp only) | split | dsimp only

theorem State.maintRetry_kept {s : State} (hw₀ : subMask 44384713757731871763589207486774700033120374772764031638184406308126848246432442757018009985241221666396422187368155058262170009657 w₀ = true) (h₀ : Kept w₀ s₀ s) :
    Kept w₀ s₀ (State.maintRetry s) := by
  refine Kept.trans (a := 44384713757731871763589207486774700033120374772764031638184406308126848246432442757018009985241221666396422187368155058262170009657) (t := s) ?_ hw₀ h₀
  clear h₀ hw₀
  unfold State.maintRetry; try dsimp only
  repeat' first | (with_reducible first | assumption | exact Kept.refl _ _ | refine Kept.ite ?_ ?_ | refine State.forEach_kept ?_ ?_ | refine State.maintDone_kept ?_ ?_ | refine State.maintLine_kept ?_ ?_ | refine State.updMaint_kept ?_ ?_) | (show Nat.testBit _ _ = true; rfl) | (show subMask _ _ = true; rfl) | (intro _; try dsimp only) | split | dsimp only

theorem State.writeAnswered_kept {s : State} {w : DWrite} (hw₀ : subMask 44384713757731871763589207486774700033120374772764031638184406308126848246432442757018009985241221666396422187368155058262170009657 w₀ = true) (h₀ : Kept w₀ s₀ s) :
    Kept w₀ s₀ (State.writeAnswered s w) := by
  refine Kept.trans (a := 44384713757731871763589207486774700033120374772764031638184406308126848246432442757018009985241221666396422187368155058262170009657) (t := s) ?_ hw₀ h₀
  clear h₀ hw₀
  unfold State.writeAnswered; try dsimp only
  repeat' first | (with_reducible first | assumption | exact Kept.refl _ _ | refine Kept.ite ?_ ?_ | refine State.answer_kept ?_ ?_ | refine State.maintDone_kept ?_ ?_ | refine State.maintRetry_kept ?_ ?_ | refine State.showOcc_kept ?_ ?_ | refine State.updDram_kept ?_ ?_ ?_ | refine State.updMaint_kept ?_ ?_) | exact DramU.holds_of rfl | (show Nat.testBit _ _ = true; rfl) | (show subMask _ _ = true; rfl) | exact DramU.holds_of rfl | (intro _; try dsimp only) | split | dsimp only

theorem State.fenceDdr_kept {s : State} {c : Nat} (hw₀ : subMask 44384713757731871763589207486774700033120374772764031638184406308126848246432466702260836014754633515568721410949149101060955177017 w₀ = true) (h₀ : Kept w₀ s₀ s) :
    Kept w₀ s₀ (State.fenceDdr s c) := by
  refine Kept.trans (a := 44384713757731871763589207486774700033120374772764031638184406308126848246432466702260836014754633515568721410949149101060955177017) (t := s) ?_ hw₀ h₀
  clear h₀ hw₀
  unfold State.fenceDdr; try dsimp only
  repeat' first | (with_reducible first | assumption | exact Kept.refl _ _ | refine Kept.ite ?_ ?_ | refine State.forEach_kept ?_ ?_ | refine State.issueRead_kept ?_ ?_ | refine State.markDdrFence_kept ?_ ?_ | apply State.setB_kept | refine State.updDram_kept ?_ ?_ ?_ | refine State.when_kept ?_ ?_ | refine State.writeAnswered_kept ?_ ?_) | exact DramU.holds_of rfl | (show Nat.testBit _ _ = true; rfl) | (show subMask _ _ = true; rfl) | exact inFam_DDR_GSTATUS | exact wrsOk_nil | apply wrsOk_cons | exact DramU.holds_of rfl | (intro _; try dsimp only) | split | dsimp only

theorem State.tagCheck_kept {s : State} {line : Nat} (hw₀ : subMask 44384713757731871763589207486774700033120374772764031638184406308126848246420176736196898304095059253785928984638507922466657140745 w₀ = true) (h₀ : Kept w₀ s₀ s) :
    Kept w₀ s₀ (State.tagCheck s line) := by
  refine Kept.trans (a := 44384713757731871763589207486774700033120374772764031638184406308126848246420176736196898304095059253785928984638507922466657140745) (t := s) ?_ hw₀ h₀
  clear h₀ hw₀
  unfold State.tagCheck; try dsimp only
  repeat' first | (with_reducible first | assumption | exact Kept.refl _ _ | refine Kept.ite ?_ ?_ | refine State.injDone_kept ?_ ?_ | apply State.raiseBit_kept | refine State.raiseSrc_kept ?_ ?_) | (show Nat.testBit _ _ = true; rfl) | (show subMask _ _ = true; rfl) | exact inFam_BCC_STATUS | exact wrsOk_nil | apply wrsOk_cons | (intro _; try dsimp only) | split | dsimp only

theorem State.serve_kept {s : State} {q : CReq} (hw₀ : subMask 44384713757731871763589207486774700033120374772764031638184406308126848246432447924887799587313940434625990672144912561639641972793 w₀ = true) (h₀ : Kept w₀ s₀ s) :
    Kept w₀ s₀ (State.serve s q).1 := by
  refine Kept.trans (a := 44384713757731871763589207486774700033120374772764031638184406308126848246432447924887799587313940434625990672144912561639641972793) (t := s) ?_ hw₀ h₀
  clear h₀ hw₀
  unfold State.serve; try dsimp only
  repeat' first | (with_reducible first | assumption | exact Kept.refl _ _ | refine Kept.ite ?_ ?_ | refine State.answer_kept ?_ ?_ | refine State.evictWay_kept ?_ ?_ | refine State.fillWay_kept ?_ ?_ | apply State.inc_kept | refine State.issueRead_kept ?_ ?_ | refine State.issueWrite_kept ?_ ?_ | refine State.lineStore_kept ?_ ?_ | refine State.poisonWay_kept ?_ ?_ | refine State.showOcc_kept ?_ ?_ | refine State.startMiss_kept ?_ ?_ | refine State.tagCheck_kept ?_ ?_ | refine State.updDram_kept ?_ ?_ ?_ | refine State.updWay_kept ?_ ?_ | refine State.wayReport_kept ?_ ?_ | refine State.issueWrite_keptp (by assumption) ?_ ?_ | refine State.pickVictim_kept ?_ ?_ _ (by assumption)) | exact DramU.holds_of rfl | (show Nat.testBit _ _ = true; rfl) | (show subMask _ _ = true; rfl) | exact inFam_BCC_HIT_CNT | exact inFam_BCC_MERGE_CNT | exact inFam_BCC_MISS_CNT | exact wrsOk_nil | apply wrsOk_cons | exact DramU.holds_of rfl | (intro _; try dsimp only) | split | dsimp only
theorem State.serve_keptp {s : State} {q : CReq} {a₀ : State} {b₀ : CServe} (e₀ : State.serve s q = (a₀, b₀)) (hw₀ : subMask 44384713757731871763589207486774700033120374772764031638184406308126848246432447924887799587313940434625990672144912561639641972793 w₀ = true) (h₀ : Kept w₀ s₀ s) : Kept w₀ s₀ a₀ := by
  have g : Kept w₀ s₀ (State.serve s q).1 := State.serve_kept hw₀ h₀; rw [e₀] at g; exact g

theorem execCacheRequest_kept {port : Fin 16} {chan : Byte} {addr : BitVec 36} {len : Nat} {write : Option (List (Option Byte))} {stream : Bool} {s : State} (hw₀ : subMask 44384713757731871763589207486774700033120374772764031638184406308126848246432447924887799587313940434625990672144912561639641972793 w₀ = true) (h₀ : Kept w₀ s₀ s) :
    KeptR w₀ s₀ (execCacheRequest port chan addr len write stream s) := by
  refine ⟨fun t₁ e₁ => Kept.trans (a := 44384713757731871763589207486774700033120374772764031638184406308126848246432447924887799587313940434625990672144912561639641972793) (t := s) ?_ hw₀ h₀⟩; refine KeptR.keep (?_ : KeptR 44384713757731871763589207486774700033120374772764031638184406308126848246432447924887799587313940434625990672144912561639641972793 s (execCacheRequest port chan addr len write stream s)) t₁ e₁; clear e₁ t₁
  clear h₀ hw₀
  unfold execCacheRequest; try dsimp only
  repeat' first | (with_reducible first | assumption | exact Kept.refl _ _ | refine KeptR.next ?_ | exact KeptR.fault | exact KeptR.refused | refine KeptR.ite ?_ ?_ | refine Kept.ite ?_ ?_ | refine State.answer_kept ?_ ?_ | refine State.elogAdd_kept ?_ ?_ | apply State.raiseBit_kept | refine State.serve_kept ?_ ?_ | refine State.updDram_kept ?_ ?_ ?_ | refine State.serve_keptp (by assumption) ?_ ?_) | exact DramU.holds_of rfl | (show Nat.testBit _ _ = true; rfl) | (show subMask _ _ = true; rfl) | exact inFam_MEM_STATUS | exact wrsOk_nil | apply wrsOk_cons | exact DramU.holds_of rfl | (intro _; try dsimp only) | split | dsimp only

theorem State.resumeOne_kept {s : State} {x0_ : List Nat} {x1_ x2_ : List CReq} (hw₀ : subMask 44384713757731871763589207486774700033120374772764031638184406308126848246432447924887799587313940434625990672144912561639641972793 w₀ = true) (h₀ : Kept w₀ s₀ s) : ∀ p, State.resumeOne s x0_ x1_ x2_ = some p → Kept w₀ s₀ p := by
  induction x2_ generalizing x0_ x1_ with
  | nil => intro p hp; simp [State.resumeOne] at hp
  | cons q rest ih =>
    intro p hp
    unfold State.resumeOne at hp
    split at hp
    · exact ih p hp
    · split at hp
      · rename_i e
        cases hp
        refine Kept.trans (a := 44384713757731871763589207486774700033120374772764031638184406308126848246432447924887799587313940434625990672144912561639641972793) (t := s) ?_ hw₀ h₀
        exact State.updDram_kept (fun _ => ⟨fun h => h⟩) rfl (State.serve_keptp e rfl (Kept.refl 44384713757731871763589207486774700033120374772764031638184406308126848246432447924887799587313940434625990672144912561639641972793 _))
      · exact ih p hp

theorem execCacheWaitResume_kept {s : State} (hw₀ : subMask 44384713757731871763589207486774700033120374772764031638184406308126848246432447924887799587313940434625990672144912561639641972793 w₀ = true) (h₀ : Kept w₀ s₀ s) : KeptR w₀ s₀ (execCacheWaitResume s) := by
  refine KeptR.next ?_
  cases e : s.resumeOne [] [] s.dram.waitQ with
  | none => exact h₀
  | some t => exact State.resumeOne_kept hw₀ h₀ _ e

theorem State.maintGo_kept {s : State} {w : Initiator} {op : Nat} {all : Bool} (hw₀ : subMask 44384713757731871763589207486774700033120374772764031638184406308126848246432442762864016534564833339211161518233287141558824599613 w₀ = true) (h₀ : Kept w₀ s₀ s) :
    Kept w₀ s₀ (State.maintGo s w op all) := by
  refine Kept.trans (a := 44384713757731871763589207486774700033120374772764031638184406308126848246432442762864016534564833339211161518233287141558824599613) (t := s) ?_ hw₀ h₀
  clear h₀ hw₀
  unfold State.maintGo; try dsimp only
  repeat' first | (with_reducible first | assumption | exact Kept.refl _ _ | refine Kept.ite ?_ ?_ | refine State.forEach_kept ?_ ?_ | refine State.maintDone_kept ?_ ?_ | refine State.maintLine_kept ?_ ?_ | refine State.maintWay_kept ?_ ?_ | apply State.raiseBit_kept | refine State.refuseW_kept ?_ ?_ | refine State.showOcc_kept ?_ ?_ | refine State.updDram_kept ?_ ?_ ?_ | refine State.updMaint_kept ?_ ?_ | refine State.updWay_kept ?_ ?_ | refine State.wrs_kept ?_ ?_ ?_) | exact DramU.holds_of rfl | (show Nat.testBit _ _ = true; rfl) | (show subMask _ _ = true; rfl) | exact inFam_BCC_MAINT_CMD | exact inFam_BCC_MAINT_RESP | exact inFam_BCC_MAINT_RESP2 | exact inFam_BCC_STATUS | exact wrsOk_nil | apply wrsOk_cons | exact DramU.holds_of rfl | (intro _; try dsimp only) | split | dsimp only

theorem execBccClean_kept {w : Initiator} {all : Bool} {s : State} (hw₀ : subMask 44384713757731871763589207486774700033120374772764031638184406308126848246432442762864016534564833339211161518233287141558824599613 w₀ = true) (h₀ : Kept w₀ s₀ s) :
    KeptR w₀ s₀ (execBccClean w all s) := by
  refine ⟨fun t₁ e₁ => Kept.trans (a := 44384713757731871763589207486774700033120374772764031638184406308126848246432442762864016534564833339211161518233287141558824599613) (t := s) ?_ hw₀ h₀⟩; refine KeptR.keep (?_ : KeptR 44384713757731871763589207486774700033120374772764031638184406308126848246432442762864016534564833339211161518233287141558824599613 s (execBccClean w all s)) t₁ e₁; clear e₁ t₁
  clear h₀ hw₀
  unfold execBccClean; try dsimp only
  repeat' first | (with_reducible first | assumption | exact Kept.refl _ _ | refine KeptR.next ?_ | exact KeptR.fault | exact KeptR.refused | refine KeptR.ite ?_ ?_ | refine Kept.ite ?_ ?_ | refine State.maintGo_kept ?_ ?_) | (show Nat.testBit _ _ = true; rfl) | (show subMask _ _ = true; rfl) | (intro _; try dsimp only) | split | dsimp only

theorem execBccInvalidate_kept {w : Initiator} {all : Bool} {s : State} (hw₀ : subMask 44384713757731871763589207486774700033120374772764031638184406308126848246432442762864016534564833339211161518233287141558824599613 w₀ = true) (h₀ : Kept w₀ s₀ s) :
    KeptR w₀ s₀ (execBccInvalidate w all s) := by
  refine ⟨fun t₁ e₁ => Kept.trans (a := 44384713757731871763589207486774700033120374772764031638184406308126848246432442762864016534564833339211161518233287141558824599613) (t := s) ?_ hw₀ h₀⟩; refine KeptR.keep (?_ : KeptR 44384713757731871763589207486774700033120374772764031638184406308126848246432442762864016534564833339211161518233287141558824599613 s (execBccInvalidate w all s)) t₁ e₁; clear e₁ t₁
  clear h₀ hw₀
  unfold execBccInvalidate; try dsimp only
  repeat' first | (with_reducible first | assumption | exact Kept.refl _ _ | refine KeptR.next ?_ | exact KeptR.fault | exact KeptR.refused | refine KeptR.ite ?_ ?_ | refine Kept.ite ?_ ?_ | refine State.maintGo_kept ?_ ?_) | (show Nat.testBit _ _ = true; rfl) | (show subMask _ _ = true; rfl) | (intro _; try dsimp only) | split | dsimp only

theorem execBccCleanInv_kept {w : Initiator} {all : Bool} {s : State} (hw₀ : subMask 44384713757731871763589207486774700033120374772764031638184406308126848246432442762864016534564833339211161518233287141558824599613 w₀ = true) (h₀ : Kept w₀ s₀ s) :
    KeptR w₀ s₀ (execBccCleanInv w all s) := by
  refine ⟨fun t₁ e₁ => Kept.trans (a := 44384713757731871763589207486774700033120374772764031638184406308126848246432442762864016534564833339211161518233287141558824599613) (t := s) ?_ hw₀ h₀⟩; refine KeptR.keep (?_ : KeptR 44384713757731871763589207486774700033120374772764031638184406308126848246432442762864016534564833339211161518233287141558824599613 s (execBccCleanInv w all s)) t₁ e₁; clear e₁ t₁
  clear h₀ hw₀
  unfold execBccCleanInv; try dsimp only
  repeat' first | (with_reducible first | assumption | exact Kept.refl _ _ | refine KeptR.next ?_ | exact KeptR.fault | exact KeptR.refused | refine KeptR.ite ?_ ?_ | refine Kept.ite ?_ ?_ | refine State.maintGo_kept ?_ ?_) | (show Nat.testBit _ _ = true; rfl) | (show subMask _ _ = true; rfl) | (intro _; try dsimp only) | split | dsimp only

theorem execBccLockFill_kept {w : Initiator} {all : Bool} {s : State} (hw₀ : subMask 44384713757731871763589207486774700033120374772764031638184406308126848246432442762864016534564833339211161518233287141558824599613 w₀ = true) (h₀ : Kept w₀ s₀ s) :
    KeptR w₀ s₀ (execBccLockFill w all s) := by
  refine ⟨fun t₁ e₁ => Kept.trans (a := 44384713757731871763589207486774700033120374772764031638184406308126848246432442762864016534564833339211161518233287141558824599613) (t := s) ?_ hw₀ h₀⟩; refine KeptR.keep (?_ : KeptR 44384713757731871763589207486774700033120374772764031638184406308126848246432442762864016534564833339211161518233287141558824599613 s (execBccLockFill w all s)) t₁ e₁; clear e₁ t₁
  clear h₀ hw₀
  unfold execBccLockFill; try dsimp only
  repeat' first | (with_reducible first | assumption | exact Kept.refl _ _ | refine KeptR.next ?_ | exact KeptR.fault | exact KeptR.refused | refine KeptR.ite ?_ ?_ | refine Kept.ite ?_ ?_ | refine State.maintGo_kept ?_ ?_) | (show Nat.testBit _ _ = true; rfl) | (show subMask _ _ = true; rfl) | (intro _; try dsimp only) | split | dsimp only

theorem execBccUnlock_kept {w : Initiator} {all : Bool} {s : State} (hw₀ : subMask 44384713757731871763589207486774700033120374772764031638184406308126848246432442762864016534564833339211161518233287141558824599613 w₀ = true) (h₀ : Kept w₀ s₀ s) :
    KeptR w₀ s₀ (execBccUnlock w all s) := by
  refine ⟨fun t₁ e₁ => Kept.trans (a := 44384713757731871763589207486774700033120374772764031638184406308126848246432442762864016534564833339211161518233287141558824599613) (t := s) ?_ hw₀ h₀⟩; refine KeptR.keep (?_ : KeptR 44384713757731871763589207486774700033120374772764031638184406308126848246432442762864016534564833339211161518233287141558824599613 s (execBccUnlock w all s)) t₁ e₁; clear e₁ t₁
  clear h₀ hw₀
  unfold execBccUnlock; try dsimp only
  repeat' first | (with_reducible first | assumption | exact Kept.refl _ _ | refine KeptR.next ?_ | exact KeptR.fault | exact KeptR.refused | refine KeptR.ite ?_ ?_ | refine Kept.ite ?_ ?_ | refine State.maintGo_kept ?_ ?_) | (show Nat.testBit _ _ = true; rfl) | (show subMask _ _ = true; rfl) | (intro _; try dsimp only) | split | dsimp only

theorem execBccZero_kept {w : Initiator} {all : Bool} {s : State} (hw₀ : subMask 44384713757731871763589207486774700033120374772764031638184406308126848246432442762864016534564833339211161518233287141558824599613 w₀ = true) (h₀ : Kept w₀ s₀ s) :
    KeptR w₀ s₀ (execBccZero w all s) := by
  refine ⟨fun t₁ e₁ => Kept.trans (a := 44384713757731871763589207486774700033120374772764031638184406308126848246432442762864016534564833339211161518233287141558824599613) (t := s) ?_ hw₀ h₀⟩; refine KeptR.keep (?_ : KeptR 44384713757731871763589207486774700033120374772764031638184406308126848246432442762864016534564833339211161518233287141558824599613 s (execBccZero w all s)) t₁ e₁; clear e₁ t₁
  clear h₀ hw₀
  unfold execBccZero; try dsimp only
  repeat' first | (with_reducible first | assumption | exact Kept.refl _ _ | refine KeptR.next ?_ | exact KeptR.fault | exact KeptR.refused | refine KeptR.ite ?_ ?_ | refine Kept.ite ?_ ?_ | refine State.maintGo_kept ?_ ?_) | (show Nat.testBit _ _ = true; rfl) | (show subMask _ _ = true; rfl) | (intro _; try dsimp only) | split | dsimp only

theorem State.drainStep_kept {s : State} (hw₀ : subMask 44384713757731871763589207486774700033120374772764031638184406308126848246432442686135180574692430133517707800628428604949441675321 w₀ = true) (h₀ : Kept w₀ s₀ s) :
    Kept w₀ s₀ (State.drainStep s) := by
  refine Kept.trans (a := 44384713757731871763589207486774700033120374772764031638184406308126848246432442686135180574692430133517707800628428604949441675321) (t := s) ?_ hw₀ h₀
  clear h₀ hw₀
  unfold State.drainStep; try dsimp only
  repeat' first | (with_reducible first | assumption | exact Kept.refl _ _ | refine Kept.ite ?_ ?_ | refine State.forEach_kept ?_ ?_ | refine State.issueWrite_kept ?_ ?_ | refine State.showOcc_kept ?_ ?_ | refine State.updDram_kept ?_ ?_ ?_ | refine State.wayReport_kept ?_ ?_ | refine State.issueWrite_keptp (by assumption) ?_ ?_) | exact DramU.holds_of rfl | (show Nat.testBit _ _ = true; rfl) | (show subMask _ _ = true; rfl) | exact DramU.holds_of rfl | (intro _; try dsimp only) | split | dsimp only

theorem State.startDrain_kept {s : State} (hw₀ : subMask 44384713757731871763589207486774700033120374772764031638184406308126848246432442686865931393357881592619550216986570114777407946809 w₀ = true) (h₀ : Kept w₀ s₀ s) :
    Kept w₀ s₀ (State.startDrain s) := by
  refine Kept.trans (a := 44384713757731871763589207486774700033120374772764031638184406308126848246432442686865931393357881592619550216986570114777407946809) (t := s) ?_ hw₀ h₀
  clear h₀ hw₀
  unfold State.startDrain; try dsimp only
  repeat' first | (with_reducible first | assumption | exact Kept.refl _ _ | refine Kept.ite ?_ ?_ | apply State.clr_kept | refine State.drainStep_kept ?_ ?_ | refine State.updDram_kept ?_ ?_ ?_) | exact DramU.holds_of rfl | (show Nat.testBit _ _ = true; rfl) | (show subMask _ _ = true; rfl) | exact inFam_BCC_STATUS | exact wrsOk_nil | apply wrsOk_cons | exact DramU.holds_of rfl | (intro _; try dsimp only) | split | dsimp only

theorem execCacheDrainDone_kept {s : State} (hw₀ : subMask 44384713757731871763589207486774700033120374772764031638184406308126848246432442686865931393357881592619550216986570114777407946809 w₀ = true) (h₀ : Kept w₀ s₀ s) :
    KeptR w₀ s₀ (execCacheDrainDone s) := by
  refine ⟨fun t₁ e₁ => Kept.trans (a := 44384713757731871763589207486774700033120374772764031638184406308126848246432442686865931393357881592619550216986570114777407946809) (t := s) ?_ hw₀ h₀⟩; refine KeptR.keep (?_ : KeptR 44384713757731871763589207486774700033120374772764031638184406308126848246432442686865931393357881592619550216986570114777407946809 s (execCacheDrainDone s)) t₁ e₁; clear e₁ t₁
  clear h₀ hw₀
  unfold execCacheDrainDone; try dsimp only
  repeat' first | (with_reducible first | assumption | exact Kept.refl _ _ | refine KeptR.next ?_ | exact KeptR.fault | exact KeptR.refused | refine KeptR.ite ?_ ?_ | refine Kept.ite ?_ ?_ | refine State.drainStep_kept ?_ ?_ | apply State.setB_kept | refine State.updDram_kept ?_ ?_ ?_) | exact DramU.holds_of rfl | (show Nat.testBit _ _ = true; rfl) | (show subMask _ _ = true; rfl) | exact inFam_BCC_STATUS | exact wrsOk_nil | apply wrsOk_cons | exact DramU.holds_of rfl | (intro _; try dsimp only) | split | dsimp only

theorem execCacheFillReturn_kept {s : State} (hw₀ : subMask 44384713757731871763589207486774700033120374772764031638184406308126848246432442757018009985241221666396422187368155058262170009657 w₀ = true) (h₀ : Kept w₀ s₀ s) :
    KeptR w₀ s₀ (execCacheFillReturn s) := by
  refine ⟨fun t₁ e₁ => Kept.trans (a := 44384713757731871763589207486774700033120374772764031638184406308126848246432442757018009985241221666396422187368155058262170009657) (t := s) ?_ hw₀ h₀⟩; refine KeptR.keep (?_ : KeptR 44384713757731871763589207486774700033120374772764031638184406308126848246432442757018009985241221666396422187368155058262170009657 s (execCacheFillReturn s)) t₁ e₁; clear e₁ t₁
  clear h₀ hw₀
  unfold execCacheFillReturn; try dsimp only
  repeat' first | (with_reducible first | assumption | exact Kept.refl _ _ | refine KeptR.next ?_ | exact KeptR.fault | exact KeptR.refused | refine KeptR.ite ?_ ?_ | refine Kept.ite ?_ ?_ | refine State.answer_kept ?_ ?_ | refine State.drainStep_kept ?_ ?_ | refine State.fillWay_kept ?_ ?_ | refine State.forEach_kept ?_ ?_ | refine State.maintRetry_kept ?_ ?_ | refine State.poisonWay_kept ?_ ?_ | refine State.showOcc_kept ?_ ?_ | refine State.updDram_kept ?_ ?_ ?_ | refine State.updMaint_kept ?_ ?_ | refine State.updWay_kept ?_ ?_) | exact DramU.holds_of rfl | (show Nat.testBit _ _ = true; rfl) | (show subMask _ _ = true; rfl) | exact DramU.holds_of rfl | (intro _; try dsimp only) | split | dsimp only

theorem State.giveHalf_kept {s : State} {r : DRead} {res : HalfRes} (hw₀ : subMask 32 w₀ = true) (h₀ : Kept w₀ s₀ s) :
    Kept w₀ s₀ (State.giveHalf s r res) := by
  refine Kept.trans (a := 32) (t := s) ?_ hw₀ h₀
  clear h₀ hw₀
  unfold State.giveHalf; try dsimp only
  repeat' first | (with_reducible first | assumption | exact Kept.refl _ _ | refine Kept.ite ?_ ?_ | refine State.updDram_kept ?_ ?_ ?_) | exact DramU.holds_of rfl | (show Nat.testBit _ _ = true; rfl) | (show subMask _ _ = true; rfl) | exact DramU.holds_of rfl | (intro _; try dsimp only) | split | dsimp only

theorem State.markDevice_kept {s : State} {c rank : Nat} (hw₀ : subMask 44384713757731871763589207486774700033120374772764031638184406308126848246432466702260836014754633515568721410949149101060955177017 w₀ = true) (h₀ : Kept w₀ s₀ s) :
    Kept w₀ s₀ (State.markDevice s c rank) := by
  refine Kept.trans (a := 44384713757731871763589207486774700033120374772764031638184406308126848246432466702260836014754633515568721410949149101060955177017) (t := s) ?_ hw₀ h₀
  clear h₀ hw₀
  unfold State.markDevice; try dsimp only
  repeat' first | (with_reducible first | assumption | exact Kept.refl _ _ | refine Kept.ite ?_ ?_ | apply State.ddrBit_kept | refine State.fenceDdr_kept ?_ ?_ | refine State.logFree_kept ?_ ?_ | refine State.raiseSrc_kept ?_ ?_ | apply State.wr_kept) | (show Nat.testBit _ _ = true; rfl) | (show subMask _ _ = true; rfl) | exact inFam_DDR_STATUS | exact wrsOk_nil | apply wrsOk_cons | (intro _; try dsimp only) | split | dsimp only

theorem execDdrReadComplete_kept {c : Fin 2} {upsets : List (Nat × Nat)} {s : State} (hw₀ : subMask 44384713757731871763589207486774700033120374772764031638184406308126848246432562483232140132808280912257918305273125272256091652153 w₀ = true) (h₀ : Kept w₀ s₀ s) :
    KeptR w₀ s₀ (execDdrReadComplete c upsets s) := by
  refine ⟨fun t₁ e₁ => Kept.trans (a := 44384713757731871763589207486774700033120374772764031638184406308126848246432562483232140132808280912257918305273125272256091652153) (t := s) ?_ hw₀ h₀⟩; refine KeptR.keep (?_ : KeptR 44384713757731871763589207486774700033120374772764031638184406308126848246432562483232140132808280912257918305273125272256091652153 s (execDdrReadComplete c upsets s)) t₁ e₁; clear e₁ t₁
  clear h₀ hw₀
  unfold execDdrReadComplete; try dsimp only
  repeat' first | (with_reducible first | assumption | exact Kept.refl _ _ | refine KeptR.next ?_ | exact KeptR.fault | exact KeptR.refused | refine KeptR.ite ?_ ?_ | refine Kept.ite ?_ ?_ | apply State.ddrBit_kept | refine State.ddrCorrected_kept ?_ ?_ | refine State.forEach_kept ?_ ?_ | refine State.giveHalf_kept ?_ ?_ | apply State.inc_kept | refine State.injDone_kept ?_ ?_ | refine State.markDevice_kept ?_ ?_ | refine State.raiseSrc_kept ?_ ?_ | refine State.updDdr_kept ?_ ?_ ?_ | refine State.updDram_kept ?_ ?_ ?_) | exact DramU.holds_of rfl | (show Nat.testBit _ _ = true; rfl) | (show subMask _ _ = true; rfl) | exact inFam_DDR_ERR_CNT | exact inFam_DDR_STATUS | exact wrsOk_nil | apply wrsOk_cons | refine DdrCh.upset_holds ?_ | refine DdrCh.writeBurst_holds ?_ | exact DdrCh.holds_of rfl rfl | exact DramU.holds_of rfl | (intro _; try dsimp only) | split | dsimp only

theorem State.rmwReport_kept {s : State} {w : DWrite} {c ofs : Nat} (hw₀ : subMask 44384713757731871763589207486774700033120374772764031638184406308126848246432562483232140132808280912257918305273125272256091652153 w₀ = true) (h₀ : Kept w₀ s₀ s) :
    Kept w₀ s₀ (State.rmwReport s w c ofs) := by
  refine Kept.trans (a := 44384713757731871763589207486774700033120374772764031638184406308126848246432562483232140132808280912257918305273125272256091652153) (t := s) ?_ hw₀ h₀
  clear h₀ hw₀
  unfold State.rmwReport; try dsimp only
  repeat' first | (with_reducible first | assumption | exact Kept.refl _ _ | refine Kept.ite ?_ ?_ | apply State.ddrBit_kept | refine State.ddrCorrected_kept ?_ ?_ | refine State.forEach_kept ?_ ?_ | apply State.inc_kept | refine State.markDevice_kept ?_ ?_ | refine State.raiseSrc_kept ?_ ?_) | (show Nat.testBit _ _ = true; rfl) | (show subMask _ _ = true; rfl) | exact inFam_DDR_ERR_CNT | exact inFam_DDR_STATUS | exact wrsOk_nil | apply wrsOk_cons | (intro _; try dsimp only) | split | dsimp only

theorem State.writeBack_kept {s : State} {c : Nat} {p : DWrite → Bool} (hw₀ : subMask 44384713757731871763589207486774700033120374772764031638184406308126848246432562483232140132808280912257918305273125272256091652153 w₀ = true) (h₀ : Kept w₀ s₀ s) :
    Kept w₀ s₀ (State.writeBack s c p) := by
  refine Kept.trans (a := 44384713757731871763589207486774700033120374772764031638184406308126848246432562483232140132808280912257918305273125272256091652153) (t := s) ?_ hw₀ h₀
  clear h₀ hw₀
  unfold State.writeBack; try dsimp only
  repeat' first | (with_reducible first | assumption | exact Kept.refl _ _ | refine Kept.ite ?_ ?_ | refine State.applyWrite_kept ?_ ?_ | refine State.rmwReport_kept ?_ ?_ | refine State.updDram_kept ?_ ?_ ?_ | refine State.writeAnswered_kept ?_ ?_) | exact DramU.holds_of rfl | (show Nat.testBit _ _ = true; rfl) | (show subMask _ _ = true; rfl) | exact DramU.holds_of rfl | (intro _; try dsimp only) | split | dsimp only

theorem execVictimWritebackDone_kept {c : Fin 2} {s : State} (hw₀ : subMask 44384713757731871763589207486774700033120374772764031638184406308126848246432562483232140132808280912257918305273125272256091652153 w₀ = true) (h₀ : Kept w₀ s₀ s) :
    KeptR w₀ s₀ (execVictimWritebackDone c s) := by
  refine ⟨fun t₁ e₁ => Kept.trans (a := 44384713757731871763589207486774700033120374772764031638184406308126848246432562483232140132808280912257918305273125272256091652153) (t := s) ?_ hw₀ h₀⟩; refine KeptR.keep (?_ : KeptR 44384713757731871763589207486774700033120374772764031638184406308126848246432562483232140132808280912257918305273125272256091652153 s (execVictimWritebackDone c s)) t₁ e₁; clear e₁ t₁
  clear h₀ hw₀
  unfold execVictimWritebackDone; try dsimp only
  repeat' first | (with_reducible first | assumption | exact Kept.refl _ _ | refine KeptR.next ?_ | exact KeptR.fault | exact KeptR.refused | refine KeptR.ite ?_ ?_ | refine Kept.ite ?_ ?_ | refine State.drainStep_kept ?_ ?_ | refine State.writeBack_kept ?_ ?_) | (show Nat.testBit _ _ = true; rfl) | (show subMask _ _ = true; rfl) | (intro _; try dsimp only) | split | dsimp only

theorem execDdrWriteComplete_kept {c : Fin 2} {s : State} (hw₀ : subMask 44384713757731871763589207486774700033120374772764031638184406308126848246432562483232140132808280912257918305273125272256091652153 w₀ = true) (h₀ : Kept w₀ s₀ s) :
    KeptR w₀ s₀ (execDdrWriteComplete c s) := by
  refine ⟨fun t₁ e₁ => Kept.trans (a := 44384713757731871763589207486774700033120374772764031638184406308126848246432562483232140132808280912257918305273125272256091652153) (t := s) ?_ hw₀ h₀⟩; refine KeptR.keep (?_ : KeptR 44384713757731871763589207486774700033120374772764031638184406308126848246432562483232140132808280912257918305273125272256091652153 s (execDdrWriteComplete c s)) t₁ e₁; clear e₁ t₁
  clear h₀ hw₀
  unfold execDdrWriteComplete; try dsimp only
  repeat' first | (with_reducible first | assumption | exact Kept.refl _ _ | refine KeptR.next ?_ | exact KeptR.fault | exact KeptR.refused | refine KeptR.ite ?_ ?_ | refine Kept.ite ?_ ?_ | refine State.drainStep_kept ?_ ?_ | refine State.writeBack_kept ?_ ?_) | (show Nat.testBit _ _ = true; rfl) | (show subMask _ _ = true; rfl) | (intro _; try dsimp only) | split | dsimp only

theorem execDdrWriteCrcAlert_kept {c : Fin 2} {s : State} (hw₀ : subMask 44384713757731871763589207486774700033120374772764031638184406308126848246432466702260836014754633515568721410949149101060955177017 w₀ = true) (h₀ : Kept w₀ s₀ s) :
    KeptR w₀ s₀ (execDdrWriteCrcAlert c s) := by
  refine ⟨fun t₁ e₁ => Kept.trans (a := 44384713757731871763589207486774700033120374772764031638184406308126848246432466702260836014754633515568721410949149101060955177017) (t := s) ?_ hw₀ h₀⟩; refine KeptR.keep (?_ : KeptR 44384713757731871763589207486774700033120374772764031638184406308126848246432466702260836014754633515568721410949149101060955177017 s (execDdrWriteCrcAlert c s)) t₁ e₁; clear e₁ t₁
  clear h₀ hw₀
  unfold execDdrWriteCrcAlert; try dsimp only
  repeat' first | (with_reducible first | assumption | exact Kept.refl _ _ | refine KeptR.next ?_ | exact KeptR.fault | exact KeptR.refused | refine KeptR.ite ?_ ?_ | refine Kept.ite ?_ ?_ | apply State.ddrBit_kept | refine State.fenceDdr_kept ?_ ?_ | refine State.updDram_kept ?_ ?_ ?_) | exact DramU.holds_of rfl | (show Nat.testBit _ _ = true; rfl) | (show subMask _ _ = true; rfl) | exact inFam_DDR_STATUS | exact wrsOk_nil | apply wrsOk_cons | exact DramU.holds_of rfl | (intro _; try dsimp only) | split | dsimp only

theorem execDdrRefresh_kept {c : Fin 2} {s : State} (hw₀ : subMask 4194336 w₀ = true) (h₀ : Kept w₀ s₀ s) :
    KeptR w₀ s₀ (execDdrRefresh c s) := by
  refine ⟨fun t₁ e₁ => Kept.trans (a := 4194336) (t := s) ?_ hw₀ h₀⟩; refine KeptR.keep (?_ : KeptR 4194336 s (execDdrRefresh c s)) t₁ e₁; clear e₁ t₁
  clear h₀ hw₀
  unfold execDdrRefresh; try dsimp only
  repeat' first | (with_reducible first | assumption | exact Kept.refl _ _ | refine KeptR.next ?_ | exact KeptR.fault | exact KeptR.refused | refine KeptR.ite ?_ ?_ | refine Kept.ite ?_ ?_ | refine State.emit_kept ?_ ?_ | refine State.updDram_kept ?_ ?_ ?_) | exact DramU.holds_of rfl | (show Nat.testBit _ _ = true; rfl) | (show subMask _ _ = true; rfl) | exact DramU.holds_of rfl | (intro _; try dsimp only) | split | dsimp only

theorem execPatrolRead_kept {c : Fin 2} {upsets : List (Nat × Nat)} {s : State} (hw₀ : subMask 44384713757731871763589207486774700033120374772764031638184406308126848246432562483232140132808280912257918305273125272256091652153 w₀ = true) (h₀ : Kept w₀ s₀ s) :
    KeptR w₀ s₀ (execPatrolRead c upsets s) := by
  have good : ∀ o, ∀ d : DdrCh, d.holds { d with bursts := sparseSet DBurst.blank d.bursts o DBurst.blank } := by
    intro o d; constructor; intro h
    simp only [DdrCh.wf, Bool.and_eq_true] at h ⊢
    exact ⟨h.1, sparseSet_wf (fun _ => DBurst.blank) _ _ _ h.2⟩
  have hu : Kept 44384713757731871763589207486774700033120374772764031638184406308126848246432562483232140132808280912257918305273125272256091652153 s (s.updDdr c.val (fun d => d.upset (64 * (s.ddr c.val).patrol) upsets)) :=
    State.updDdr_kept (fun _ => DdrCh.upset_holds ⟨id⟩) rfl (Kept.refl _ _)
  unfold execPatrolRead; dsimp only
  refine KeptR.ite (KeptR.next h₀) (KeptR.next ?_)
  refine Kept.trans (a := 44384713757731871763589207486774700033120374772764031638184406308126848246432562483232140132808280912257918305273125272256091652153) (t := s) ?_ hw₀ h₀
  refine State.updDdr_kept (fun _ => DdrCh.holds_of rfl rfl) rfl ?_
  split
  · exact State.markDevice_kept rfl (State.updDdr_kept (good _) rfl (State.raiseSrc_kept rfl (State.chargeDev_kept rfl (State.inc_kept inFam_DDR_ERR_CNT rfl rfl (State.ddrBit_kept inFam_DDR_STATUS rfl rfl hu)))))
  · exact State.raiseSrc_kept rfl (State.inc_kept inFam_DDR_ERR_CNT rfl rfl (State.ddrBit_kept inFam_DDR_STATUS rfl rfl hu))
  · exact hu

theorem execDdrFenceCmd_kept {mask : BitVec 2} {s : State} (hw₀ : subMask 44384713757731871763589207486774700033120374772764031638184406308126848246432466702260836014754633515568721410949149101060955177017 w₀ = true) (h₀ : Kept w₀ s₀ s) :
    KeptR w₀ s₀ (execDdrFenceCmd mask s) := by
  refine ⟨fun t₁ e₁ => Kept.trans (a := 44384713757731871763589207486774700033120374772764031638184406308126848246432466702260836014754633515568721410949149101060955177017) (t := s) ?_ hw₀ h₀⟩; refine KeptR.keep (?_ : KeptR 44384713757731871763589207486774700033120374772764031638184406308126848246432466702260836014754633515568721410949149101060955177017 s (execDdrFenceCmd mask s)) t₁ e₁; clear e₁ t₁
  clear h₀ hw₀
  unfold execDdrFenceCmd; try dsimp only
  repeat' first | (with_reducible first | assumption | exact Kept.refl _ _ | refine KeptR.next ?_ | exact KeptR.fault | exact KeptR.refused | refine KeptR.ite ?_ ?_ | refine Kept.ite ?_ ?_ | refine State.fenceDdr_kept ?_ ?_ | refine State.forEach_kept ?_ ?_) | (show Nat.testBit _ _ = true; rfl) | (show subMask _ _ = true; rfl) | (intro _; try dsimp only) | split | dsimp only

end Sys2Proof.Machine
end

