-- ==== Sys2Proof/Laws/KeptAccess.lean ====
section
/-! SUPPORT. What the operations and meanings of Machine/Access.lean keep (the relation Kept). -/

set_option Elab.async false

namespace Sys2Proof.Machine
open Reg
set_option linter.unusedVariables false
set_option linter.unusedTactic false
set_option linter.unreachableTactic false
set_option maxHeartbeats 400000

variable {w₀ : Nat} {s₀ : State}

theorem State.clearedBits_kept {s : State} {a i : Nat} {v : Word} (hw₀ : subMask 67108865 w₀ = true) (h₀ : Kept w₀ s₀ s) :
    Kept w₀ s₀ (State.clearedBits s a i v) := by
  refine Kept.trans (a := 67108865) (t := s) ?_ hw₀ h₀
  clear h₀ hw₀
  unfold State.clearedBits; try dsimp only
  repeat' first | (with_reducible first | assumption | exact Kept.refl _ _ | refine Kept.ite ?_ ?_ | refine State.setReg_kept ?_ ?_ | refine State.foldl_kept ?_ ?_) | (show Nat.testBit _ _ = true; rfl) | (show subMask _ _ = true; rfl) | (intro _; try dsimp only) | split | dsimp only

theorem State.markPending_kept {s : State} {g : Nat} (hw₀ : subMask 137438953473 w₀ = true) (h₀ : Kept w₀ s₀ s) :
    Kept w₀ s₀ (State.markPending s g) := by
  refine Kept.trans (a := 137438953473) (t := s) ?_ hw₀ h₀
  clear h₀ hw₀
  unfold State.markPending; try dsimp only
  repeat' first | (with_reducible first | assumption | exact Kept.refl _ _ | refine Kept.ite ?_ ?_ | apply State.wr_kept) | (show Nat.testBit _ _ = true; rfl) | (show subMask _ _ = true; rfl) | exact inFam_SYS_GLUE_PEND | exact wrsOk_nil | apply wrsOk_cons | (intro _; try dsimp only) | split | dsimp only

theorem State.writeHold_kept {s : State} {a : Nat} {d : RegDesc} {fs : List FieldDesc} {v : Word} (hw₀ : subMask 137506064385 w₀ = true) (h₀ : Kept w₀ s₀ s) :
    Kept w₀ s₀ (State.writeHold s a d fs v) := by
  refine Kept.trans (a := 137506064385) (t := s) ?_ hw₀ h₀
  clear h₀ hw₀
  unfold State.writeHold; try dsimp only
  repeat' first | (with_reducible first | assumption | exact Kept.refl _ _ | refine Kept.ite ?_ ?_ | refine State.markPending_kept ?_ ?_ | refine State.setReg_kept ?_ ?_ | refine State.updCtl_kept ?_ ?_) | (show Nat.testBit _ _ = true; rfl) | (show subMask _ _ = true; rfl) | (intro _; try dsimp only) | split | dsimp only

theorem State.wroteLive_kept {s : State} {a i : Nat} (hw₀ : subMask 1028 w₀ = true) (h₀ : Kept w₀ s₀ s) :
    Kept w₀ s₀ (State.wroteLive s a i) := by
  refine Kept.trans (a := 1028) (t := s) ?_ hw₀ h₀
  clear h₀ hw₀
  unfold State.wroteLive; try dsimp only
  repeat' first | (with_reducible first | assumption | exact Kept.refl _ _ | refine Kept.ite ?_ ?_ | refine State.updSrv_kept ?_ ?_ | refine State.updSys_kept ?_ ?_ ?_) | (show Nat.testBit _ _ = true; rfl) | (show subMask _ _ = true; rfl) | exact SysU.holds_same rfl rfl | (intro _; try dsimp only) | split | dsimp only

theorem State.applyWrite'_kept {s : State} {a i : Nat} {d : RegDesc} {fs : List FieldDesc} {live : Bool} {v : Word} (hw₀ : subMask 137506065925 w₀ = true) (h₀ : Kept w₀ s₀ s) :
    Kept w₀ s₀ (State.applyWrite' s a i d fs live v) := by
  refine Kept.trans (a := 137506065925) (t := s) ?_ hw₀ h₀
  clear h₀ hw₀
  unfold State.applyWrite'; try dsimp only
  repeat' first | (with_reducible first | assumption | exact Kept.refl _ _ | refine Kept.ite ?_ ?_ | refine State.clearedBits_kept ?_ ?_ | refine State.setReg_kept ?_ ?_ | refine State.updHead_kept ?_ ?_ | refine State.writeHold_kept ?_ ?_ | refine State.wroteLive_kept ?_ ?_) | (show Nat.testBit _ _ = true; rfl) | (show subMask _ _ = true; rfl) | (intro _; try dsimp only) | split | dsimp only

theorem State.noteRefused_kept {s : State} {who a i cause group : Nat} {holding : Bool} (hw₀ : subMask 5192296858534827628535169257832453 w₀ = true) (h₀ : Kept w₀ s₀ s) :
    Kept w₀ s₀ (State.noteRefused s who a i cause group holding) := by
  refine Kept.trans (a := 5192296858534827628535169257832453) (t := s) ?_ hw₀ h₀
  clear h₀ hw₀
  unfold State.noteRefused; try dsimp only
  repeat' first | (with_reducible first | assumption | exact Kept.refl _ _ | refine Kept.ite ?_ ?_ | refine State.refuse_kept ?_ ?_ | apply State.setB_kept) | (show Nat.testBit _ _ = true; rfl) | (show subMask _ _ = true; rfl) | exact inFam_LGT_STATUS | exact wrsOk_nil | apply wrsOk_cons | (intro _; try dsimp only) | split | dsimp only

theorem State.writeReg_kept {s : State} {who a : Nat} {only : FieldDesc → Bool} {live : Bool} {v : Word} (hw₀ : subMask 5192296858534827628535306763898373 w₀ = true) (h₀ : Kept w₀ s₀ s) :
    Kept w₀ s₀ (State.writeReg s who a only live v) := by
  refine Kept.trans (a := 5192296858534827628535306763898373) (t := s) ?_ hw₀ h₀
  clear h₀ hw₀
  unfold State.writeReg; try dsimp only
  repeat' first | (with_reducible first | assumption | exact Kept.refl _ _ | refine Kept.ite ?_ ?_ | refine State.applyWrite'_kept ?_ ?_ | refine State.noteRefused_kept ?_ ?_) | (show Nat.testBit _ _ = true; rfl) | (show subMask _ _ = true; rfl) | (intro _; try dsimp only) | split | dsimp only

theorem State.writeAlias_kept {s : State} {who a b : Nat} {v : Word} (hw₀ : subMask 5192296858534827628535306763898373 w₀ = true) (h₀ : Kept w₀ s₀ s) :
    Kept w₀ s₀ (State.writeAlias s who a b v) := by
  refine Kept.trans (a := 5192296858534827628535306763898373) (t := s) ?_ hw₀ h₀
  clear h₀ hw₀
  unfold State.writeAlias; try dsimp only
  repeat' first | (with_reducible first | assumption | exact Kept.refl _ _ | refine Kept.ite ?_ ?_ | refine State.writeReg_kept ?_ ?_) | (show Nat.testBit _ _ = true; rfl) | (show subMask _ _ = true; rfl) | (intro _; try dsimp only) | split | dsimp only

theorem State.barWrite_kept {s : State} {who a : Nat} {v : Word} (hw₀ : subMask 5192296858534827628535306763898373 w₀ = true) (h₀ : Kept w₀ s₀ s) :
    Kept w₀ s₀ (State.barWrite s who a v) := by
  refine Kept.trans (a := 5192296858534827628535306763898373) (t := s) ?_ hw₀ h₀
  clear h₀ hw₀
  unfold State.barWrite; try dsimp only
  repeat' first | (with_reducible first | assumption | exact Kept.refl _ _ | refine Kept.ite ?_ ?_ | refine State.writeAlias_kept ?_ ?_ | refine State.writeReg_kept ?_ ?_) | (show Nat.testBit _ _ = true; rfl) | (show subMask _ _ = true; rfl) | (intro _; try dsimp only) | split | dsimp only

theorem State.glueApply_kept {s : State} {gs : List Nat} (hw₀ : subMask 67110913 w₀ = true) (h₀ : Kept w₀ s₀ s) :
    Kept w₀ s₀ (State.glueApply s gs) := by
  refine Kept.trans (a := 67110913) (t := s) ?_ hw₀ h₀
  clear h₀ hw₀
  unfold State.glueApply; try dsimp only
  repeat' first | (with_reducible first | assumption | exact Kept.refl _ _ | refine Kept.ite ?_ ?_ | refine State.forEach_kept ?_ ?_ | refine State.setReg_kept ?_ ?_ | refine State.updCtl_kept ?_ ?_ | refine State.when_kept ?_ ?_) | (show Nat.testBit _ _ = true; rfl) | (show subMask _ _ = true; rfl) | (intro _; try dsimp only) | split | dsimp only

theorem State.glueBack_kept {s : State} {gs : List Nat} (hw₀ : subMask 67110913 w₀ = true) (h₀ : Kept w₀ s₀ s) :
    Kept w₀ s₀ (State.glueBack s gs) := by
  refine Kept.trans (a := 67110913) (t := s) ?_ hw₀ h₀
  clear h₀ hw₀
  unfold State.glueBack; try dsimp only
  repeat' first | (with_reducible first | assumption | exact Kept.refl _ _ | refine Kept.ite ?_ ?_ | refine State.forEach_kept ?_ ?_ | refine State.setReg_kept ?_ ?_ | refine State.updCtl_kept ?_ ?_ | refine State.when_kept ?_ ?_) | (show Nat.testBit _ _ = true; rfl) | (show subMask _ _ = true; rfl) | (intro _; try dsimp only) | split | dsimp only

theorem State.gluedCache_kept {s t : State} (hw₀ : subMask 44384713757731871763589207486774700033120374772764031638184406308126848246432442686865931393357881592619550216986570114777407946809 w₀ = true) (h₀ : Kept w₀ s₀ t) :
    Kept w₀ s₀ (State.gluedCache s t) := by
  refine Kept.trans (a := 44384713757731871763589207486774700033120374772764031638184406308126848246432442686865931393357881592619550216986570114777407946809) (t := t) ?_ hw₀ h₀
  clear h₀ hw₀
  unfold State.gluedCache; try dsimp only
  repeat' first | (with_reducible first | assumption | exact Kept.refl _ _ | refine Kept.ite ?_ ?_ | apply State.clr_kept | refine State.showOcc_kept ?_ ?_ | refine State.startDrain_kept ?_ ?_ | refine State.updDram_kept ?_ ?_ ?_) | exact DramU.holds_of rfl | (show Nat.testBit _ _ = true; rfl) | (show subMask _ _ = true; rfl) | exact inFam_BCC_STATUS | exact wrsOk_nil | apply wrsOk_cons | exact DramU.holds_of rfl | (intro _; try dsimp only) | split | dsimp only

theorem State.gluedRetention_kept {s t : State} (hw₀ : subMask 897227025082773292366518262096013308818644166382150252171128149093908609 w₀ = true) (h₀ : Kept w₀ s₀ t) :
    Kept w₀ s₀ (State.gluedRetention s t) := by
  refine Kept.trans (a := 897227025082773292366518262096013308818644166382150252171128149093908609) (t := t) ?_ hw₀ h₀
  clear h₀ hw₀
  unfold State.gluedRetention; try dsimp only
  repeat' first | (with_reducible first | assumption | exact Kept.refl _ _ | refine Kept.ite ?_ ?_ | apply State.clr_kept | apply State.setB_kept) | (show Nat.testBit _ _ = true; rfl) | (show subMask _ _ = true; rfl) | exact inFam_RCH_GSTATUS | exact inFam_RCH_RET_STAT | exact wrsOk_nil | apply wrsOk_cons | (intro _; try dsimp only) | split | dsimp only | refine Kept.lit rfl (.inr rfl) rfl rfl rfl rfl (.inr rfl) (.inl rfl) (.inr rfl) (.inr rfl) (.inr rfl) (.inr rfl) (.inr rfl) (.inr rfl) (.inr rfl) (.inr rfl) (.inr rfl) (.inr rfl) (.inr rfl) (.inr rfl) (.inr rfl) (.inr rfl) (.inr rfl) (.inr rfl) (.inr rfl) ?_

theorem State.gluedTimers_kept {s t : State} (hw₀ : subMask 4 w₀ = true) (h₀ : Kept w₀ s₀ t) :
    Kept w₀ s₀ (State.gluedTimers s t) := by
  refine Kept.trans (a := 4) (t := t) ?_ hw₀ h₀
  clear h₀ hw₀
  unfold State.gluedTimers; try dsimp only
  repeat' first | (with_reducible first | assumption | exact Kept.refl _ _ | refine Kept.ite ?_ ?_ | refine State.updSys_kept ?_ ?_ ?_) | (show Nat.testBit _ _ = true; rfl) | (show subMask _ _ = true; rfl) | exact SysU.holds_same rfl rfl | (intro _; try dsimp only) | split | dsimp only

theorem State.gluedWrite_kept {s t : State} (hw₀ : subMask 29642774844752946028434172162224104410437116074403984394101141506025761187824129 w₀ = true) (h₀ : Kept w₀ s₀ t) :
    Kept w₀ s₀ (State.gluedWrite s t) := by
  refine Kept.trans (a := 29642774844752946028434172162224104410437116074403984394101141506025761187824129) (t := t) ?_ hw₀ h₀
  clear h₀ hw₀
  unfold State.gluedWrite; try dsimp only
  repeat' first | (with_reducible first | assumption | exact Kept.refl _ _ | refine Kept.ite ?_ ?_ | refine State.forEach_kept ?_ ?_ | refine State.setInh_kept ?_ ?_ | refine State.updHead_kept ?_ ?_) | (show Nat.testBit _ _ = true; rfl) | (show subMask _ _ = true; rfl) | (intro _; try dsimp only) | split | dsimp only

theorem State.recarve_kept {s t : State} (hw₀ : subMask 91349427519481065043515685974335850818872279057 w₀ = true) (h₀ : Kept w₀ s₀ t) :
    Kept w₀ s₀ (State.recarve s t) := by
  refine Kept.trans (a := 91349427519481065043515685974335850818872279057) (t := t) ?_ hw₀ h₀
  clear h₀ hw₀
  unfold State.recarve; try dsimp only
  repeat' first | (with_reducible first | assumption | exact Kept.refl _ _ | refine Kept.ite ?_ ?_ | refine State.showPool_kept ?_ ?_ | refine State.updMem_kept ?_ ?_ ?_) | (show Nat.testBit _ _ = true; rfl) | (show subMask _ _ = true; rfl) | refine MemU.store_holds ?_ | refine MemU.flip_holds ?_ | refine MemU.storeList_holds ?_ | refine MemU.flipAll_holds ?_ | refine MemU.foldl_holds ?_ ?_ | exact MemU.holds_of rfl rfl | (intro _; try dsimp only) | split | dsimp only

theorem State.gluedGroup_kept {s t : State} {g : Nat} (hw₀ : subMask 44384713757731871763589207486774700033120374772764061292041813078387985969043413353983372202572234707017724259693297214013873193661 w₀ = true) (h₀ : Kept w₀ s₀ t) :
    Kept w₀ s₀ (State.gluedGroup s t g) := by
  refine Kept.trans (a := 44384713757731871763589207486774700033120374772764061292041813078387985969043413353983372202572234707017724259693297214013873193661) (t := t) ?_ hw₀ h₀
  clear h₀ hw₀
  unfold State.gluedGroup; try dsimp only
  repeat' first | (with_reducible first | assumption | exact Kept.refl _ _ | refine Kept.ite ?_ ?_ | refine State.gluedCache_kept ?_ ?_ | refine State.gluedRetention_kept ?_ ?_ | refine State.gluedTimers_kept ?_ ?_ | refine State.gluedWrite_kept ?_ ?_ | refine State.recarve_kept ?_ ?_ | refine State.showService_kept ?_ ?_) | (show Nat.testBit _ _ = true; rfl) | (show subMask _ _ = true; rfl) | (intro _; try dsimp only) | split | dsimp only

theorem State.unpend_kept {s : State} {gs : List Nat} (hw₀ : subMask 137438953473 w₀ = true) (h₀ : Kept w₀ s₀ s) :
    Kept w₀ s₀ (State.unpend s gs) := by
  refine Kept.trans (a := 137438953473) (t := s) ?_ hw₀ h₀
  clear h₀ hw₀
  unfold State.unpend; try dsimp only
  repeat' first | (with_reducible first | assumption | exact Kept.refl _ _ | refine Kept.ite ?_ ?_ | refine State.forEach_kept ?_ ?_ | apply State.wr_kept) | (show Nat.testBit _ _ = true; rfl) | (show subMask _ _ = true; rfl) | exact inFam_SYS_GLUE_PEND | exact wrsOk_nil | apply wrsOk_cons | (intro _; try dsimp only) | split | dsimp only

theorem State.glue_kept {s : State} {gs : List Nat} {who : Nat} {bell : Bool} (hw₀ : subMask 44384713757731871763589207486774700033120374772764061292041813078387985969043413353983372208016752577752739675107290937801314536125 w₀ = true) (h₀ : Kept w₀ s₀ s) :
    Kept w₀ s₀ (State.glue s gs who bell) := by
  refine Kept.trans (a := 44384713757731871763589207486774700033120374772764061292041813078387985969043413353983372208016752577752739675107290937801314536125) (t := s) ?_ hw₀ h₀
  clear h₀ hw₀
  unfold State.glue; try dsimp only
  repeat' first | (with_reducible first | assumption | exact Kept.refl _ _ | refine Kept.ite ?_ ?_ | refine State.glueApply_kept ?_ ?_ | refine State.glueBack_kept ?_ ?_ | refine State.gluedGroup_kept ?_ ?_ | refine State.irqIf_kept ?_ ?_ | refine State.refuse_kept ?_ ?_ | apply State.setB_kept | refine State.unpend_kept ?_ ?_ | refine State.when_kept ?_ ?_ | refine State.wrs_kept ?_ ?_ ?_ | refine State.foldl_kept ?_ ?_) | (show Nat.testBit _ _ = true; rfl) | (show subMask _ _ = true; rfl) | exact inFam_LGT_GSTATUS | exact inFam_SYS_GLUE_STAT | exact wrsOk_nil | apply wrsOk_cons | (intro _; try dsimp only) | split | dsimp only

theorem State.bellGlue_kept {s : State} (hw₀ : subMask 44384713757731871763589207486774700033120374772764061292041813078387985969043413353983372208016752577752739675107290937801314536125 w₀ = true) (h₀ : Kept w₀ s₀ s) :
    Kept w₀ s₀ (State.bellGlue s) := by
  refine Kept.trans (a := 44384713757731871763589207486774700033120374772764061292041813078387985969043413353983372208016752577752739675107290937801314536125) (t := s) ?_ hw₀ h₀
  clear h₀ hw₀
  unfold State.bellGlue; try dsimp only
  repeat' first | (with_reducible first | assumption | exact Kept.refl _ _ | refine Kept.ite ?_ ?_ | refine State.glue_kept ?_ ?_) | (show Nat.testBit _ _ = true; rfl) | (show subMask _ _ = true; rfl) | (intro _; try dsimp only) | split | dsimp only

end Sys2Proof.Machine
end

