-- ==== Sys2Proof/Laws/KeptCommands.lean ====
section
/-! SUPPORT. What the operations and meanings of Machine/Commands.lean keep (the relation Kept). -/

set_option Elab.async false

namespace Sys2Proof.Machine
open Reg
set_option linter.unusedVariables false
set_option linter.unusedTactic false
set_option linter.unreachableTactic false
set_option maxHeartbeats 400000

variable {w₀ : Nat} {s₀ : State}

theorem State.fillPages_kept {s : State} {port tag n : Nat} {data : List Byte} (hw₀ : subMask 161390617380431786853494948250188242145606612051826469551916209783790476378907091827836237282186848059617814154231939097 w₀ = true) (h₀ : Kept w₀ s₀ s) :
    Kept w₀ s₀ (State.fillPages s port tag n data) := by
  refine Kept.trans (a := 161390617380431786853494948250188242145606612051826469551916209783790476378907091827836237282186848059617814154231939097) (t := s) ?_ hw₀ h₀
  clear h₀ hw₀
  unfold State.fillPages; try dsimp only
  repeat' first | (with_reducible first | assumption | exact Kept.refl _ _ | refine Kept.ite ?_ ?_ | refine State.fillPage_kept ?_ ?_ | refine State.forEach_kept ?_ ?_) | (show Nat.testBit _ _ = true; rfl) | (show subMask _ _ = true; rfl) | (intro _; try dsimp only) | split | dsimp only

theorem State.beginRecs_kept {s : State} {c : Cmd} {l : Option (List LSpec)} (hw₀ : subMask 1260864198284623334792929283204595641762551656654894293374345388935863096687911515831809910117919662514870051253289089 w₀ = true) (h₀ : Kept w₀ s₀ s) :
    Kept w₀ s₀ (State.beginRecs s c l) := by
  refine Kept.trans (a := 1260864198284623334792929283204595641762551656654894293374345388935863096687911515831809910117919662514870051253289089) (t := s) ?_ hw₀ h₀
  clear h₀ hw₀
  unfold State.beginRecs; try dsimp only
  repeat' first | (with_reducible first | assumption | exact Kept.refl _ _ | refine Kept.ite ?_ ?_ | refine State.cmdEnd_kept ?_ ?_ | refine State.programRecs_kept ?_ ?_ | refine State.updCmd_kept ?_ ?_) | (show Nat.testBit _ _ = true; rfl) | (show subMask _ _ = true; rfl) | (intro _; try dsimp only) | split | dsimp only

theorem State.stampCmd_kept {s : State} {tag : Nat} (hw₀ : subMask 524352 w₀ = true) (h₀ : Kept w₀ s₀ s) :
    Kept w₀ s₀ (State.stampCmd s tag) := by
  refine Kept.trans (a := 524352) (t := s) ?_ hw₀ h₀
  clear h₀ hw₀
  unfold State.stampCmd; try dsimp only
  repeat' first | (with_reducible first | assumption | exact Kept.refl _ _ | refine Kept.ite ?_ ?_ | refine State.takeStamp_kept ?_ ?_ | refine State.updCmd_kept ?_ ?_ | refine State.takeStamp_keptp (by assumption) ?_ ?_) | (show Nat.testBit _ _ = true; rfl) | (show subMask _ _ = true; rfl) | (intro _; try dsimp only) | split | dsimp only

theorem State.openPull_kept {s : State} {c : Cmd} (hw₀ : subMask 1260864198284623334792929283204595641762551656654894293374345388935863096687910739565256520156317300505812095696633857 w₀ = true) (h₀ : Kept w₀ s₀ s) :
    Kept w₀ s₀ (State.openPull s c) := by
  refine Kept.trans (a := 1260864198284623334792929283204595641762551656654894293374345388935863096687910739565256520156317300505812095696633857) (t := s) ?_ hw₀ h₀
  clear h₀ hw₀
  unfold State.openPull; try dsimp only
  repeat' first | (with_reducible first | assumption | exact Kept.refl _ _ | refine Kept.ite ?_ ?_ | refine State.cmdEnd_kept ?_ ?_ | refine State.updCmd_kept ?_ ?_ | refine State.updXout_kept ?_ ?_ | refine State.openXfer_kept ?_ ?_ _ (by assumption)) | (show Nat.testBit _ _ = true; rfl) | (show subMask _ _ = true; rfl) | (intro _; try dsimp only) | split | dsimp only

theorem State.beginAppend_kept {s : State} {c : Cmd} {z : Nat} (hw₀ : subMask 1260864198284623334792929283204595641762551656654894293374345388935863096687911515831812445419120118973673044660748481 w₀ = true) (h₀ : Kept w₀ s₀ s) :
    Kept w₀ s₀ (State.beginAppend s c z) := by
  refine Kept.trans (a := 1260864198284623334792929283204595641762551656654894293374345388935863096687911515831812445419120118973673044660748481) (t := s) ?_ hw₀ h₀
  clear h₀ hw₀
  unfold State.beginAppend; try dsimp only
  repeat' first | (with_reducible first | assumption | exact Kept.refl _ _ | refine Kept.ite ?_ ?_ | refine State.beginRecs_kept ?_ ?_ | refine State.cmdEnd_kept ?_ ?_ | refine State.cmdEndAt_kept ?_ ?_ | refine State.dropLocks_kept ?_ ?_ | refine State.updCmd_kept ?_ ?_ | refine State.placeAppend_kept ?_ ?_ _ (by assumption)) | (show Nat.testBit _ _ = true; rfl) | (show subMask _ _ = true; rfl) | (intro _; try dsimp only) | split | dsimp only

theorem State.beginCmd_kept {s : State} {c : Cmd} (hw₀ : subMask 44384713757733132627787492110109492962403579368405794189841061202420222591809112598594234867963042207452849641383203854316933382361 w₀ = true) (h₀ : Kept w₀ s₀ s) :
    Kept w₀ s₀ (State.beginCmd s c) := by
  refine Kept.trans (a := 44384713757733132627787492110109492962403579368405794189841061202420222591809112598594234867963042207452849641383203854316933382361) (t := s) ?_ hw₀ h₀
  clear h₀ hw₀
  unfold State.beginCmd; try dsimp only
  repeat' first | (with_reducible first | assumption | exact Kept.refl _ _ | refine Kept.ite ?_ ?_ | refine State.beginAppend_kept ?_ ?_ | refine State.beginRecs_kept ?_ ?_ | refine State.openPull_kept ?_ ?_ | refine State.planReads_kept ?_ ?_ | refine State.stampCmd_kept ?_ ?_ | refine State.updCmd_kept ?_ ?_) | (show Nat.testBit _ _ = true; rfl) | (show subMask _ _ = true; rfl) | (intro _; try dsimp only) | split | dsimp only

theorem State.peerBusy_kept {s : State} {c : Cmd} {src xid : Nat} (hw₀ : subMask 44384713757733132627787492110109492962403579368405794189841061202420222591809112598654251747702321193592546040822459699264346521629 w₀ = true) (h₀ : Kept w₀ s₀ s) :
    Kept w₀ s₀ (State.peerBusy s c src xid) := by
  refine Kept.trans (a := 44384713757733132627787492110109492962403579368405794189841061202420222591809112598654251747702321193592546040822459699264346521629) (t := s) ?_ hw₀ h₀
  clear h₀ hw₀
  unfold State.peerBusy; try dsimp only
  repeat' first | (with_reducible first | assumption | exact Kept.refl _ _ | refine Kept.ite ?_ ?_ | refine State.forget_kept ?_ ?_ | refine State.qResult_kept ?_ ?_ | refine State.showXfer_kept ?_ ?_ | refine State.updQfb_kept ?_ ?_) | (show Nat.testBit _ _ = true; rfl) | (show subMask _ _ = true; rfl) | (intro _; try dsimp only) | split | dsimp only

theorem State.tryStart_kept {s : State} {tag : Nat} (hw₀ : subMask 44384713757733132627787492110109492962403579368405794189841061202420222591809112598685651197718118865633440534740587051717026808029 w₀ = true) (h₀ : Kept w₀ s₀ s) :
    Kept w₀ s₀ (State.tryStart s tag) := by
  refine Kept.trans (a := 44384713757733132627787492110109492962403579368405794189841061202420222591809112598685651197718118865633440534740587051717026808029) (t := s) ?_ hw₀ h₀
  clear h₀ hw₀
  unfold State.tryStart; try dsimp only
  repeat' first | (with_reducible first | assumption | exact Kept.refl _ _ | refine Kept.ite ?_ ?_ | refine State.beginCmd_kept ?_ ?_ | refine State.cmdEndAt_kept ?_ ?_ | refine State.grantLocks_kept ?_ ?_ | refine State.peerBusy_kept ?_ ?_ | apply State.raiseBit_kept | refine State.updCmd_kept ?_ ?_ | refine State.allocFor_kept ?_ ?_ _ (by assumption)) | (show Nat.testBit _ _ = true; rfl) | (show subMask _ _ = true; rfl) | exact inFam_SCH_STATUS | exact wrsOk_nil | apply wrsOk_cons | (intro _; try dsimp only) | split | dsimp only

theorem execCommandStart_kept {tag : BitVec 14} {list : Option (List (BitVec 64))} {s : State} (hw₀ : subMask 44384713757733132627787492110109492962403579368405794189841061202420222591809112598685651197718118865633440534740587051717026808029 w₀ = true) (h₀ : Kept w₀ s₀ s) :
    KeptR w₀ s₀ (execCommandStart tag list s) := by
  refine ⟨fun t₁ e₁ => Kept.trans (a := 44384713757733132627787492110109492962403579368405794189841061202420222591809112598685651197718118865633440534740587051717026808029) (t := s) ?_ hw₀ h₀⟩; refine KeptR.keep (?_ : KeptR 44384713757733132627787492110109492962403579368405794189841061202420222591809112598685651197718118865633440534740587051717026808029 s (execCommandStart tag list s)) t₁ e₁; clear e₁ t₁
  clear h₀ hw₀
  unfold execCommandStart; try dsimp only
  repeat' first | (with_reducible first | assumption | exact Kept.refl _ _ | refine KeptR.next ?_ | exact KeptR.fault | exact KeptR.refused | refine KeptR.ite ?_ ?_ | refine Kept.ite ?_ ?_ | refine State.cmdEnd_kept ?_ ?_ | refine State.cmdEndAt_kept ?_ ?_ | refine State.hostGet_kept ?_ ?_ | apply State.raiseBit_kept | refine State.tryStart_kept ?_ ?_ | refine State.updCmd_kept ?_ ?_ | refine State.layLocks_kept ?_ ?_ _ (by assumption)) | (show Nat.testBit _ _ = true; rfl) | (show subMask _ _ = true; rfl) | exact inFam_SCH_STATUS | exact wrsOk_nil | apply wrsOk_cons | (intro _; try dsimp only) | split | dsimp only

theorem execLockGrant_kept {s : State} (hw₀ : subMask 44384713757733132627787492110109492962403579368405794189841061202420222591809112598685651197718118865633440534740587051717026808029 w₀ = true) (h₀ : Kept w₀ s₀ s) :
    KeptR w₀ s₀ (execLockGrant s) := by
  refine ⟨fun t₁ e₁ => Kept.trans (a := 44384713757733132627787492110109492962403579368405794189841061202420222591809112598685651197718118865633440534740587051717026808029) (t := s) ?_ hw₀ h₀⟩; refine KeptR.keep (?_ : KeptR 44384713757733132627787492110109492962403579368405794189841061202420222591809112598685651197718118865633440534740587051717026808029 s (execLockGrant s)) t₁ e₁; clear e₁ t₁
  clear h₀ hw₀
  unfold execLockGrant; try dsimp only
  repeat' first | (with_reducible first | assumption | exact Kept.refl _ _ | refine KeptR.next ?_ | exact KeptR.fault | exact KeptR.refused | refine KeptR.ite ?_ ?_ | refine Kept.ite ?_ ?_ | refine State.tryStart_kept ?_ ?_) | (show Nat.testBit _ _ = true; rfl) | (show subMask _ _ = true; rfl) | (intro _; try dsimp only) | split | dsimp only

theorem execPageAllocGrant_kept {s : State} (hw₀ : subMask 44384713757733132627787492110109492962403579368405794189841061202420222591809112598685651197718118865633440534740587051717026808029 w₀ = true) (h₀ : Kept w₀ s₀ s) :
    KeptR w₀ s₀ (execPageAllocGrant s) := by
  refine ⟨fun t₁ e₁ => Kept.trans (a := 44384713757733132627787492110109492962403579368405794189841061202420222591809112598685651197718118865633440534740587051717026808029) (t := s) ?_ hw₀ h₀⟩; refine KeptR.keep (?_ : KeptR 44384713757733132627787492110109492962403579368405794189841061202420222591809112598685651197718118865633440534740587051717026808029 s (execPageAllocGrant s)) t₁ e₁; clear e₁ t₁
  clear h₀ hw₀
  unfold execPageAllocGrant; try dsimp only
  repeat' first | (with_reducible first | assumption | exact Kept.refl _ _ | refine KeptR.next ?_ | exact KeptR.fault | exact KeptR.refused | refine KeptR.ite ?_ ?_ | refine Kept.ite ?_ ?_ | refine State.tryStart_kept ?_ ?_) | (show Nat.testBit _ _ = true; rfl) | (show subMask _ _ = true; rfl) | (intro _; try dsimp only) | split | dsimp only

theorem State.onStarted_kept {s : State} {tag op : Nat} {f : Cmd → State} (hf : ∀ c, Kept w₀ s₀ (f c)) (hw₀ : subMask 0 w₀ = true) (h₀ : Kept w₀ s₀ s) : Kept w₀ s₀ (State.onStarted s tag op f) := by
  unfold State.onStarted
  split
  · exact h₀
  · split
    · exact hf _
    · exact h₀

theorem State.moreRecs_kept {s : State} {c : Cmd} (hw₀ : subMask 1260864198284623334792929283204595641762551656654894293374345388935863096687911515831809910117919662514870051253289089 w₀ = true) (h₀ : Kept w₀ s₀ s) :
    Kept w₀ s₀ (State.moreRecs s c) := by
  refine Kept.trans (a := 1260864198284623334792929283204595641762551656654894293374345388935863096687911515831809910117919662514870051253289089) (t := s) ?_ hw₀ h₀
  clear h₀ hw₀
  unfold State.moreRecs; try dsimp only
  repeat' first | (with_reducible first | assumption | exact Kept.refl _ _ | refine Kept.ite ?_ ?_ | refine State.programRecs_kept ?_ ?_ | refine State.updCmd_kept ?_ ?_) | (show Nat.testBit _ _ = true; rfl) | (show subMask _ _ = true; rfl) | (intro _; try dsimp only) | split | dsimp only

theorem State.failLost_kept {s : State} {c : Cmd} (hw₀ : subMask 524288 w₀ = true) (h₀ : Kept w₀ s₀ s) :
    Kept w₀ s₀ (State.failLost s c) := by
  refine Kept.trans (a := 524288) (t := s) ?_ hw₀ h₀
  clear h₀ hw₀
  unfold State.failLost; try dsimp only
  repeat' first | (with_reducible first | assumption | exact Kept.refl _ _ | refine Kept.ite ?_ ?_ | refine State.cmdFail_kept ?_ ?_ | refine State.forEach_kept ?_ ?_) | (show Nat.testBit _ _ = true; rfl) | (show subMask _ _ = true; rfl) | (intro _; try dsimp only) | split | dsimp only

theorem State.readOffline_kept {s : State} {c : Cmd} (hw₀ : subMask 532992 w₀ = true) (h₀ : Kept w₀ s₀ s) :
    Kept w₀ s₀ (State.readOffline s c) := by
  refine Kept.trans (a := 532992) (t := s) ?_ hw₀ h₀
  clear h₀ hw₀
  unfold State.readOffline; try dsimp only
  repeat' first | (with_reducible first | assumption | exact Kept.refl _ _ | refine Kept.ite ?_ ?_ | refine State.cmdFail_kept ?_ ?_ | refine State.forEach_kept ?_ ?_ | refine State.unlist_kept ?_ ?_ | refine State.updSec_kept ?_ ?_) | (show Nat.testBit _ _ = true; rfl) | (show subMask _ _ = true; rfl) | (intro _; try dsimp only) | split | dsimp only

theorem execReadCmd_kept {tag : BitVec 14} {s : State} (hw₀ : subMask 1260864198284623334792929283204595641762551656654894293374345388935863096687911515831809910117919662514870051253297793 w₀ = true) (h₀ : Kept w₀ s₀ s) :
    KeptR w₀ s₀ (execReadCmd tag s) := by
  refine ⟨fun t₁ e₁ => Kept.trans (a := 1260864198284623334792929283204595641762551656654894293374345388935863096687911515831809910117919662514870051253297793) (t := s) ?_ hw₀ h₀⟩; refine KeptR.keep (?_ : KeptR 1260864198284623334792929283204595641762551656654894293374345388935863096687911515831809910117919662514870051253297793 s (execReadCmd tag s)) t₁ e₁; clear e₁ t₁
  clear h₀ hw₀
  unfold execReadCmd; try dsimp only
  repeat' first | (with_reducible first | assumption | exact Kept.refl _ _ | refine KeptR.next ?_ | exact KeptR.fault | exact KeptR.refused | refine KeptR.ite ?_ ?_ | refine Kept.ite ?_ ?_ | refine State.beginRecs_kept ?_ ?_ | refine State.cmdEnd_kept ?_ ?_ | refine State.failLost_kept ?_ ?_ | refine State.moreRecs_kept ?_ ?_ | refine State.onStarted_kept ?_ ?_ ?_ | refine State.readOffline_kept ?_ ?_ | refine State.updCmd_kept ?_ ?_ | refine State.foldl_kept ?_ ?_) | (show Nat.testBit _ _ = true; rfl) | (show subMask _ _ = true; rfl) | (intro _; try dsimp only) | split | dsimp only

theorem execVerify_kept {tag : BitVec 14} {s : State} (hw₀ : subMask 44384713757731871763589207486774700033120374772764031638184406308126848246420176735497546956447210395007430521264230181272277361177 w₀ = true) (h₀ : Kept w₀ s₀ s) :
    KeptR w₀ s₀ (execVerify tag s) := by
  refine ⟨fun t₁ e₁ => Kept.trans (a := 44384713757731871763589207486774700033120374772764031638184406308126848246420176735497546956447210395007430521264230181272277361177) (t := s) ?_ hw₀ h₀⟩; refine KeptR.keep (?_ : KeptR 44384713757731871763589207486774700033120374772764031638184406308126848246420176735497546956447210395007430521264230181272277361177 s (execVerify tag s)) t₁ e₁; clear e₁ t₁
  clear h₀ hw₀
  unfold execVerify; try dsimp only
  repeat' first | (with_reducible first | assumption | exact Kept.refl _ _ | refine KeptR.next ?_ | exact KeptR.fault | exact KeptR.refused | refine KeptR.ite ?_ ?_ | refine Kept.ite ?_ ?_ | refine State.cmdEnd_kept ?_ ?_ | refine State.failLost_kept ?_ ?_ | refine State.onStarted_kept ?_ ?_ ?_ | refine State.planReads_kept ?_ ?_ | refine State.readOffline_kept ?_ ?_ | refine State.updCmd_kept ?_ ?_) | (show Nat.testBit _ _ = true; rfl) | (show subMask _ _ = true; rfl) | (intro _; try dsimp only) | split | dsimp only

theorem State.writeEnd_kept {s : State} {c : Cmd} (hw₀ : subMask 524288 w₀ = true) (h₀ : Kept w₀ s₀ s) :
    Kept w₀ s₀ (State.writeEnd s c) := by
  refine Kept.trans (a := 524288) (t := s) ?_ hw₀ h₀
  clear h₀ hw₀
  unfold State.writeEnd; try dsimp only
  repeat' first | (with_reducible first | assumption | exact Kept.refl _ _ | refine Kept.ite ?_ ?_ | refine State.cmdEnd_kept ?_ ?_) | (show Nat.testBit _ _ = true; rfl) | (show subMask _ _ = true; rfl) | (intro _; try dsimp only) | split | dsimp only

theorem State.writeOut_kept {s : State} {c : Cmd} {lba : Nat} (hw₀ : subMask 44384713757731871763589207486774700033120374772764031638184406308126848246420176735497546956447210395007430521264230181272278401145 w₀ = true) (h₀ : Kept w₀ s₀ s) : Kept w₀ s₀ (State.writeOut s c lba) := by
  refine Kept.trans (a := 44384713757731871763589207486774700033120374772764031638184406308126848246420176735497546956447210395007430521264230181272278401145) (t := s) ?_ hw₀ h₀
  unfold State.writeOut; dsimp only
  split
  · rename_i t e
    split at e
    · exact State.updCmd_kept rfl (State.toWriteBack_kept rfl (Kept.refl _ _) _ e)
    · cases e
  · exact State.updCmd_kept rfl (State.planWrites_kept rfl (Kept.refl _ _))

theorem execWriteCmd_kept {tag : BitVec 14} {s : State} (hw₀ : subMask 44384713757733132627787492110109492962403579368405794189841061202420222591809112598594234867963042204917548440926745051323526971641 w₀ = true) (h₀ : Kept w₀ s₀ s) :
    KeptR w₀ s₀ (execWriteCmd tag s) := by
  refine ⟨fun t₁ e₁ => Kept.trans (a := 44384713757733132627787492110109492962403579368405794189841061202420222591809112598594234867963042204917548440926745051323526971641) (t := s) ?_ hw₀ h₀⟩; refine KeptR.keep (?_ : KeptR 44384713757733132627787492110109492962403579368405794189841061202420222591809112598594234867963042204917548440926745051323526971641 s (execWriteCmd tag s)) t₁ e₁; clear e₁ t₁
  clear h₀ hw₀
  unfold execWriteCmd; try dsimp only
  repeat' first | (with_reducible first | assumption | exact Kept.refl _ _ | refine KeptR.next ?_ | exact KeptR.fault | exact KeptR.refused | refine KeptR.ite ?_ ?_ | refine Kept.ite ?_ ?_ | refine State.cmdEnd_kept ?_ ?_ | refine State.fillPages_kept ?_ ?_ | refine State.moreRecs_kept ?_ ?_ | refine State.onStarted_kept ?_ ?_ ?_ | refine State.writeEnd_kept ?_ ?_ | refine State.writeOut_kept ?_ ?_) | (show Nat.testBit _ _ = true; rfl) | (show subMask _ _ = true; rfl) | (intro _; try dsimp only) | split | dsimp only

theorem State.placeNow_kept {s : State} {c : Cmd} (hw₀ : subMask 161390617380431786853494948250188242145606612051826469551916209783790476378907091827836239817488048516076617147639922809 w₀ = true) (h₀ : Kept w₀ s₀ s) :
    Kept w₀ s₀ (State.placeNow s c) := by
  refine Kept.trans (a := 161390617380431786853494948250188242145606612051826469551916209783790476378907091827836239817488048516076617147639922809) (t := s) ?_ hw₀ h₀
  clear h₀ hw₀
  unfold State.placeNow; try dsimp only
  repeat' first | (with_reducible first | assumption | exact Kept.refl _ _ | refine Kept.ite ?_ ?_ | refine State.cmdEndAt_kept ?_ ?_ | refine State.dropLocks_kept ?_ ?_ | refine State.planWrites_kept ?_ ?_ | refine State.updCmd_kept ?_ ?_ | refine State.placeAppend_kept ?_ ?_ _ (by assumption)) | (show Nat.testBit _ _ = true; rfl) | (show subMask _ _ = true; rfl) | (intro _; try dsimp only) | split | dsimp only

theorem execZoneAppend_kept {tag : BitVec 14} {s : State} (hw₀ : subMask 44384713757733132627787492110109492962403579368405823832615905955366251025981274822698645305079116611437243742524709880078121214713 w₀ = true) (h₀ : Kept w₀ s₀ s) :
    KeptR w₀ s₀ (execZoneAppend tag s) := by
  refine ⟨fun t₁ e₁ => Kept.trans (a := 44384713757733132627787492110109492962403579368405823832615905955366251025981274822698645305079116611437243742524709880078121214713) (t := s) ?_ hw₀ h₀⟩; refine KeptR.keep (?_ : KeptR 44384713757733132627787492110109492962403579368405823832615905955366251025981274822698645305079116611437243742524709880078121214713 s (execZoneAppend tag s)) t₁ e₁; clear e₁ t₁
  clear h₀ hw₀
  unfold execZoneAppend; try dsimp only
  repeat' first | (with_reducible first | assumption | exact Kept.refl _ _ | refine KeptR.next ?_ | exact KeptR.fault | exact KeptR.refused | refine KeptR.ite ?_ ?_ | refine Kept.ite ?_ ?_ | refine State.cmdEnd_kept ?_ ?_ | refine State.fillPages_kept ?_ ?_ | refine State.moreRecs_kept ?_ ?_ | refine State.onStarted_kept ?_ ?_ ?_ | refine State.placeNow_kept ?_ ?_ | refine State.stopRecs_kept ?_ ?_ | refine State.unplaceFrom_kept ?_ ?_ | refine State.writeEnd_kept ?_ ?_ | refine State.writeOut_kept ?_ ?_) | (show Nat.testBit _ _ = true; rfl) | (show subMask _ _ = true; rfl) | (intro _; try dsimp only) | split | dsimp only

theorem State.packGone_kept {s : State} {c : Cmd} (hw₀ : subMask 1260864198284623334792929283204595641762551656654894293377184600514550184730903986350689543540318435772567713812676737 w₀ = true) (h₀ : Kept w₀ s₀ s) :
    Kept w₀ s₀ (State.packGone s c) := by
  refine Kept.trans (a := 1260864198284623334792929283204595641762551656654894293377184600514550184730903986350689543540318435772567713812676737) (t := s) ?_ hw₀ h₀
  clear h₀ hw₀
  unfold State.packGone; try dsimp only
  repeat' first | (with_reducible first | assumption | exact Kept.refl _ _ | refine Kept.ite ?_ ?_ | refine State.cmdEnd_kept ?_ ?_ | refine State.dropJobs_kept ?_ ?_ | refine State.stopRecs_kept ?_ ?_) | (show Nat.testBit _ _ = true; rfl) | (show subMask _ _ = true; rfl) | (intro _; try dsimp only) | split | dsimp only

theorem State.placeParcel_kept {s : State} {c : Cmd} {p : PRes} (hw₀ : subMask 161390617380431786853494948250188242145606612051826469551916209783790476378907091827836237282186848059617814154232463481 w₀ = true) (h₀ : Kept w₀ s₀ s) :
    Kept w₀ s₀ (State.placeParcel s c p) := by
  refine Kept.trans (a := 161390617380431786853494948250188242145606612051826469551916209783790476378907091827836237282186848059617814154232463481) (t := s) ?_ hw₀ h₀
  clear h₀ hw₀
  unfold State.placeParcel; try dsimp only
  repeat' first | (with_reducible first | assumption | exact Kept.refl _ _ | refine Kept.ite ?_ ?_ | refine State.cmdEndAt_kept ?_ ?_ | refine State.planWrites_kept ?_ ?_ | refine State.updCmd_kept ?_ ?_ | refine State.writeMap_kept ?_ ?_ | refine State.placeAppend_kept ?_ ?_ _ (by assumption)) | (show Nat.testBit _ _ = true; rfl) | (show subMask _ _ = true; rfl) | (intro _; try dsimp only) | split | dsimp only

theorem execPackedAppend_kept {tag : BitVec 14} {s : State} (hw₀ : subMask 162651481578716410188287877533392837787369163708481363845293394384305026563637995819171531809920601018779658344091713785 w₀ = true) (h₀ : Kept w₀ s₀ s) :
    KeptR w₀ s₀ (execPackedAppend tag s) := by
  refine ⟨fun t₁ e₁ => Kept.trans (a := 162651481578716410188287877533392837787369163708481363845293394384305026563637995819171531809920601018779658344091713785) (t := s) ?_ hw₀ h₀⟩; refine KeptR.keep (?_ : KeptR 162651481578716410188287877533392837787369163708481363845293394384305026563637995819171531809920601018779658344091713785 s (execPackedAppend tag s)) t₁ e₁; clear e₁ t₁
  clear h₀ hw₀
  unfold execPackedAppend; try dsimp only
  repeat' first | (with_reducible first | assumption | exact Kept.refl _ _ | refine KeptR.next ?_ | exact KeptR.fault | exact KeptR.refused | refine KeptR.ite ?_ ?_ | refine Kept.ite ?_ ?_ | refine State.cmdEnd_kept ?_ ?_ | refine State.dropJobs_kept ?_ ?_ | refine State.moreRecs_kept ?_ ?_ | refine State.onStarted_kept ?_ ?_ ?_ | refine State.packGone_kept ?_ ?_ | refine State.placeParcel_kept ?_ ?_ | refine State.stopRecs_kept ?_ ?_ | refine State.updCmd_kept ?_ ?_ | refine State.writeEnd_kept ?_ ?_ | refine State.queueJob_kept ?_ ?_ _ (by assumption)) | (show Nat.testBit _ _ = true; rfl) | (show subMask _ _ = true; rfl) | (intro _; try dsimp only) | split | dsimp only

theorem execParcelRead_kept {tag : BitVec 14} {s : State} (hw₀ : subMask 44384713757733132627787492110109492962403579368405794189841061202420225431020691285773627287958026755846330560425957277777712095897 w₀ = true) (h₀ : Kept w₀ s₀ s) :
    KeptR w₀ s₀ (execParcelRead tag s) := by
  refine ⟨fun t₁ e₁ => Kept.trans (a := 44384713757733132627787492110109492962403579368405794189841061202420225431020691285773627287958026755846330560425957277777712095897) (t := s) ?_ hw₀ h₀⟩; refine KeptR.keep (?_ : KeptR 44384713757733132627787492110109492962403579368405794189841061202420225431020691285773627287958026755846330560425957277777712095897 s (execParcelRead tag s)) t₁ e₁; clear e₁ t₁
  clear h₀ hw₀
  unfold execParcelRead; try dsimp only
  repeat' first | (with_reducible first | assumption | exact Kept.refl _ _ | refine KeptR.next ?_ | exact KeptR.fault | exact KeptR.refused | refine KeptR.ite ?_ ?_ | refine Kept.ite ?_ ?_ | refine State.beginRecs_kept ?_ ?_ | refine State.cmdEnd_kept ?_ ?_ | refine State.failLost_kept ?_ ?_ | refine State.moreRecs_kept ?_ ?_ | refine State.onStarted_kept ?_ ?_ ?_ | refine State.packGone_kept ?_ ?_ | refine State.portPage_kept ?_ ?_ | apply State.raiseBit_kept | refine State.readOffline_kept ?_ ?_ | refine State.updCmd_kept ?_ ?_ | refine State.allocFor_kept ?_ ?_ _ (by assumption) | refine State.portPage_keptp (by assumption) ?_ ?_ | refine State.queueJob_kept ?_ ?_ _ (by assumption)) | (show Nat.testBit _ _ = true; rfl) | (show subMask _ _ = true; rfl) | exact inFam_SCH_STATUS | exact wrsOk_nil | apply wrsOk_cons | (intro _; try dsimp only) | split | dsimp only

theorem State.openZone_kept {s : State} {z : Nat} (hw₀ : subMask 64 w₀ = true) (h₀ : Kept w₀ s₀ s) :
    ∀ p, State.openZone s z = .ok p → Kept w₀ s₀ p := by
  intro p hp; refine Kept.trans (a := 64) (t := s) ?_ hw₀ h₀
  clear h₀ hw₀
  unfold State.openZone at hp; try dsimp only at hp
  repeat' first | (cases hp; done) | split at hp
  all_goals (cases hp)
  all_goals (repeat' first | (with_reducible first | assumption | exact Kept.refl _ _ | refine Kept.ite ?_ ?_ | refine State.setZState_kept ?_ ?_) | (show Nat.testBit _ _ = true; rfl) | (show subMask _ _ = true; rfl) | (intro _; try dsimp only) | split | dsimp only)

theorem State.closeZone_kept {s : State} {z : Nat} (hw₀ : subMask 64 w₀ = true) (h₀ : Kept w₀ s₀ s) :
    ∀ p, State.closeZone s z = .ok p → Kept w₀ s₀ p := by
  intro p hp; refine Kept.trans (a := 64) (t := s) ?_ hw₀ h₀
  clear h₀ hw₀
  unfold State.closeZone at hp; try dsimp only at hp
  repeat' first | (cases hp; done) | split at hp
  all_goals (cases hp)
  all_goals (repeat' first | (with_reducible first | assumption | exact Kept.refl _ _ | refine Kept.ite ?_ ?_ | refine State.setZState_kept ?_ ?_) | (show Nat.testBit _ _ = true; rfl) | (show subMask _ _ = true; rfl) | (intro _; try dsimp only) | split | dsimp only)

theorem State.finishZone_kept {s : State} {z : Nat} (hw₀ : subMask 64 w₀ = true) (h₀ : Kept w₀ s₀ s) :
    ∀ p, State.finishZone s z = .ok p → Kept w₀ s₀ p := by
  intro p hp; refine Kept.trans (a := 64) (t := s) ?_ hw₀ h₀
  clear h₀ hw₀
  unfold State.finishZone at hp; try dsimp only at hp
  repeat' first | (cases hp; done) | split at hp
  all_goals (cases hp)
  all_goals (repeat' first | (with_reducible first | assumption | exact Kept.refl _ _ | refine Kept.ite ?_ ?_ | refine State.updZone_kept ?_ ?_) | (show Nat.testBit _ _ = true; rfl) | (show subMask _ _ = true; rfl) | (intro _; try dsimp only) | split | dsimp only)

theorem State.resetZone_kept {s : State} {z : Nat} (hw₀ : subMask 64 w₀ = true) (h₀ : Kept w₀ s₀ s) :
    Kept w₀ s₀ (State.resetZone s z) := by
  refine Kept.trans (a := 64) (t := s) ?_ hw₀ h₀
  clear h₀ hw₀
  unfold State.resetZone; try dsimp only
  repeat' first | (with_reducible first | assumption | exact Kept.refl _ _ | refine Kept.ite ?_ ?_ | refine State.updZone_kept ?_ ?_) | (show Nat.testBit _ _ = true; rfl) | (show subMask _ _ = true; rfl) | (intro _; try dsimp only) | split | dsimp only

theorem State.fillerRun_kept {s : State} {c : Cmd} {z : Nat} (hw₀ : subMask 161390617380431786853494948250188242145606612051826469551916209783790476470256519347317302325702534033953664973104742521 w₀ = true) (h₀ : Kept w₀ s₀ s) : Kept w₀ s₀ (State.fillerRun s c z) := by
  refine Kept.trans (a := 161390617380431786853494948250188242145606612051826469551916209783790476470256519347317302325702534033953664973104742521) (t := s) ?_ hw₀ h₀
  unfold State.fillerRun
  have ha : ∀ (d : Cmd) (n m : Nat), Kept 161390617380431786853494948250188242145606612051826469551916209783790476470256519347317302325702534033953664973104742521 s ((s.allocFor d n m).getD s) := by
    intro d n m
    cases e : s.allocFor d n m with
    | none => exact Kept.refl _ _
    | some t => exact State.allocFor_kept rfl (Kept.refl _ _) _ e
  have hb : ∀ (q : Prop) [Decidable q] (d : Cmd) (n m : Nat), Kept 161390617380431786853494948250188242145606612051826469551916209783790476470256519347317302325702534033953664973104742521 s (if q then (s.allocFor d n m).getD s else s) := by
    intro q _ d n m; split
    · exact ha _ _ _
    · exact Kept.refl _ _
  dsimp only
  split
  · exact State.updCmd_kept rfl (Kept.refl _ _)
  · split
    · exact hb _ _ _ _
    · split
      · exact hb _ _ _ _
      · exact State.updCmd_kept rfl (State.takeStamp_kept rfl (State.sectorTrailer_kept rfl (State.writePage_kept rfl (hb _ _ _ _))))

theorem State.zoneLock_kept {s : State} {c : Cmd} (hw₀ : subMask 3802951800684688204490114859009 w₀ = true) (h₀ : Kept w₀ s₀ s) :
    Kept w₀ s₀ (State.zoneLock s c).1 := by
  refine Kept.trans (a := 3802951800684688204490114859009) (t := s) ?_ hw₀ h₀
  clear h₀ hw₀
  unfold State.zoneLock; try dsimp only
  repeat' first | (with_reducible first | assumption | exact Kept.refl _ _ | refine Kept.ite ?_ ?_ | refine State.grantLocks_kept ?_ ?_ | apply State.raiseBit_kept | refine State.layLocks_kept ?_ ?_ _ (by assumption)) | (show Nat.testBit _ _ = true; rfl) | (show subMask _ _ = true; rfl) | exact inFam_SCH_STATUS | exact wrsOk_nil | apply wrsOk_cons | (intro _; try dsimp only) | split | dsimp only
theorem State.zoneLock_keptp {s : State} {c : Cmd} {a₀ : State} {b₀ : Bool} (e₀ : State.zoneLock s c = (a₀, b₀)) (hw₀ : subMask 3802951800684688204490114859009 w₀ = true) (h₀ : Kept w₀ s₀ s) : Kept w₀ s₀ a₀ := by
  have g : Kept w₀ s₀ (State.zoneLock s c).1 := State.zoneLock_kept hw₀ h₀; rw [e₀] at g; exact g

theorem State.zoneNext_kept {s : State} {c : Cmd} {changed : Bool} (hw₀ : subMask 2535301200456458802993407983617 w₀ = true) (h₀ : Kept w₀ s₀ s) :
    Kept w₀ s₀ (State.zoneNext s c changed) := by
  refine Kept.trans (a := 2535301200456458802993407983617) (t := s) ?_ hw₀ h₀
  clear h₀ hw₀
  unfold State.zoneNext; try dsimp only
  repeat' first | (with_reducible first | assumption | exact Kept.refl _ _ | refine Kept.ite ?_ ?_ | refine State.cmdEnd_kept ?_ ?_ | refine State.dropLocks_kept ?_ ?_ | refine State.updCmd_kept ?_ ?_) | (show Nat.testBit _ _ = true; rfl) | (show subMask _ _ = true; rfl) | (intro _; try dsimp only) | split | dsimp only

theorem State.zoneAction_kept {s : State} {tag action : Nat} {act : State → Nat → Except Nat State} (hf : ∀ u z t, act u z = .ok t → Kept w₀ u t) (hw₀ : subMask 3802951800684688204490115383297 w₀ = true) (h₀ : Kept w₀ s₀ s) : Kept w₀ s₀ (State.zoneAction s tag action act) := by
  unfold State.zoneAction
  refine State.onStarted_kept (fun c => ?_) (subMask_trans rfl hw₀) h₀
  have hm : ∀ {a b : State}, Kept 3802951800684688204490115383297 a b → Kept w₀ s₀ a → Kept w₀ s₀ b := fun g k => g.trans hw₀ k
  split
  · exact h₀
  · split
    · exact hm (State.cmdEnd_kept rfl (Kept.refl _ _)) h₀
    · split
      rename_i t held e
      have kt : Kept w₀ s₀ t := hm (State.zoneLock_keptp e rfl (Kept.refl _ _)) h₀
      split
      · exact kt
      · split
        · rename_i u hu
          exact hm (State.zoneNext_kept rfl (Kept.refl _ _)) ((hf _ _ _ hu).trans (subMask_refl _) kt)
        · split
          · exact hm (State.zoneNext_kept rfl (Kept.refl _ _)) kt
          · exact hm (State.cmdEndAt_kept rfl (Kept.refl _ _)) kt

theorem execZoneOpen_kept {tag : BitVec 14} {s : State} (hw₀ : subMask 3802951800684688204490115383361 w₀ = true) (h₀ : Kept w₀ s₀ s) : KeptR w₀ s₀ (execZoneOpen tag s) :=
  KeptR.next (State.zoneAction_kept (fun _ _ _ e => State.openZone_kept (subMask_trans rfl hw₀) (Kept.refl _ _) _ e) (subMask_trans rfl hw₀) h₀)

theorem execZoneClose_kept {tag : BitVec 14} {s : State} (hw₀ : subMask 3802951800684688204490115383361 w₀ = true) (h₀ : Kept w₀ s₀ s) : KeptR w₀ s₀ (execZoneClose tag s) :=
  KeptR.next (State.zoneAction_kept (fun _ _ _ e => State.closeZone_kept (subMask_trans rfl hw₀) (Kept.refl _ _) _ e) (subMask_trans rfl hw₀) h₀)

theorem execZoneFinish_kept {tag : BitVec 14} {s : State} (hw₀ : subMask 3802951800684688204490115383361 w₀ = true) (h₀ : Kept w₀ s₀ s) : KeptR w₀ s₀ (execZoneFinish tag s) :=
  KeptR.next (State.zoneAction_kept (fun _ _ _ e => State.finishZone_kept (subMask_trans rfl hw₀) (Kept.refl _ _) _ e) (subMask_trans rfl hw₀) h₀)

theorem execZoneReset_kept {tag : BitVec 14} {s : State} (hw₀ : subMask 161390617380431786853494948250188242145606612051826469551916209783790476470256519347317306128654334718641869463215407225 w₀ = true) (h₀ : Kept w₀ s₀ s) :
    KeptR w₀ s₀ (execZoneReset tag s) := by
  refine ⟨fun t₁ e₁ => Kept.trans (a := 161390617380431786853494948250188242145606612051826469551916209783790476470256519347317306128654334718641869463215407225) (t := s) ?_ hw₀ h₀⟩; refine KeptR.keep (?_ : KeptR 161390617380431786853494948250188242145606612051826469551916209783790476470256519347317306128654334718641869463215407225 s (execZoneReset tag s)) t₁ e₁; clear e₁ t₁
  clear h₀ hw₀
  unfold execZoneReset; try dsimp only
  repeat' first | (with_reducible first | assumption | exact Kept.refl _ _ | refine KeptR.next ?_ | exact KeptR.fault | exact KeptR.refused | refine KeptR.ite ?_ ?_ | refine Kept.ite ?_ ?_ | refine State.cmdEnd_kept ?_ ?_ | refine State.cmdEndAt_kept ?_ ?_ | refine State.fillerRun_kept ?_ ?_ | refine State.onStarted_kept ?_ ?_ ?_ | refine State.resetZone_kept ?_ ?_ | refine State.zoneLock_kept ?_ ?_ | refine State.zoneNext_kept ?_ ?_ | refine State.zoneLock_keptp (by assumption) ?_ ?_) | (show Nat.testBit _ _ = true; rfl) | (show subMask _ _ = true; rfl) | (intro _; try dsimp only) | split | dsimp only

theorem execZoneReport_kept {tag : BitVec 14} {s : State} (hw₀ : subMask 4718592 w₀ = true) (h₀ : Kept w₀ s₀ s) :
    KeptR w₀ s₀ (execZoneReport tag s) := by
  refine ⟨fun t₁ e₁ => Kept.trans (a := 4718592) (t := s) ?_ hw₀ h₀⟩; refine KeptR.keep (?_ : KeptR 4718592 s (execZoneReport tag s)) t₁ e₁; clear e₁ t₁
  clear h₀ hw₀
  unfold execZoneReport; try dsimp only
  repeat' first | (with_reducible first | assumption | exact Kept.refl _ _ | refine KeptR.next ?_ | exact KeptR.fault | exact KeptR.refused | refine KeptR.ite ?_ ?_ | refine Kept.ite ?_ ?_ | refine State.cmdEnd_kept ?_ ?_ | refine State.hostDataOut_kept ?_ ?_ | refine State.onStarted_kept ?_ ?_ ?_ | refine State.updCmd_kept ?_ ?_) | (show Nat.testBit _ _ = true; rfl) | (show subMask _ _ = true; rfl) | (intro _; try dsimp only) | split | dsimp only

theorem execFlushCmd_kept {tag : BitVec 14} {s : State} (hw₀ : subMask 524288 w₀ = true) (h₀ : Kept w₀ s₀ s) :
    KeptR w₀ s₀ (execFlushCmd tag s) := by
  refine ⟨fun t₁ e₁ => Kept.trans (a := 524288) (t := s) ?_ hw₀ h₀⟩; refine KeptR.keep (?_ : KeptR 524288 s (execFlushCmd tag s)) t₁ e₁; clear e₁ t₁
  clear h₀ hw₀
  unfold execFlushCmd; try dsimp only
  repeat' first | (with_reducible first | assumption | exact Kept.refl _ _ | refine KeptR.next ?_ | exact KeptR.fault | exact KeptR.refused | refine KeptR.ite ?_ ?_ | refine Kept.ite ?_ ?_ | refine State.cmdEnd_kept ?_ ?_ | refine State.cmdFail_kept ?_ ?_ | refine State.forEach_kept ?_ ?_ | refine State.onStarted_kept ?_ ?_ ?_) | (show Nat.testBit _ _ = true; rfl) | (show subMask _ _ = true; rfl) | (intro _; try dsimp only) | split | dsimp only

theorem execAbortCmd_kept {tag : BitVec 14} {s : State} (hw₀ : subMask 1260864198284623334792929283204595641792196240751041572471172265973415049889901309768603928645603946258679865824617409 w₀ = true) (h₀ : Kept w₀ s₀ s) :
    KeptR w₀ s₀ (execAbortCmd tag s) := by
  refine ⟨fun t₁ e₁ => Kept.trans (a := 1260864198284623334792929283204595641792196240751041572471172265973415049889901309768603928645603946258679865824617409) (t := s) ?_ hw₀ h₀⟩; refine KeptR.keep (?_ : KeptR 1260864198284623334792929283204595641792196240751041572471172265973415049889901309768603928645603946258679865824617409 s (execAbortCmd tag s)) t₁ e₁; clear e₁ t₁
  clear h₀ hw₀
  unfold execAbortCmd; try dsimp only
  repeat' first | (with_reducible first | assumption | exact Kept.refl _ _ | refine KeptR.next ?_ | exact KeptR.fault | exact KeptR.refused | refine KeptR.ite ?_ ?_ | refine Kept.ite ?_ ?_ | refine State.cmdEnd_kept ?_ ?_ | refine State.dropWork_kept ?_ ?_ | refine State.onStarted_kept ?_ ?_ ?_ | refine State.unplaceFrom_kept ?_ ?_ | refine State.updBq_kept ?_ ?_ | refine State.updCmd_kept ?_ ?_ | apply State.wr_kept) | (show Nat.testBit _ _ = true; rfl) | (show subMask _ _ = true; rfl) | exact inFam_BQ_MARKS | exact wrsOk_nil | apply wrsOk_cons | (intro _; try dsimp only) | split | dsimp only

theorem State.pullWrite_kept {s : State} {c : Cmd} (hw₀ : subMask 161390617380431786853494948250188242145606612051826469551916209783790476378907091827836239817488048516076617147639922809 w₀ = true) (h₀ : Kept w₀ s₀ s) :
    Kept w₀ s₀ (State.pullWrite s c) := by
  refine Kept.trans (a := 161390617380431786853494948250188242145606612051826469551916209783790476378907091827836239817488048516076617147639922809) (t := s) ?_ hw₀ h₀
  clear h₀ hw₀
  unfold State.pullWrite; try dsimp only
  repeat' first | (with_reducible first | assumption | exact Kept.refl _ _ | refine Kept.ite ?_ ?_ | refine State.placeNow_kept ?_ ?_ | refine State.planWrites_kept ?_ ?_ | refine State.updCmd_kept ?_ ?_) | (show Nat.testBit _ _ = true; rfl) | (show subMask _ _ = true; rfl) | (intro _; try dsimp only) | split | dsimp only

theorem execPeerCopy_kept {tag : BitVec 14} {s : State} (hw₀ : subMask 44384713757733132627787492110109492962403579368405794189841061202420222591809112598594234867186775654062888039021194796361376735865 w₀ = true) (h₀ : Kept w₀ s₀ s) :
    KeptR w₀ s₀ (execPeerCopy tag s) := by
  refine ⟨fun t₁ e₁ => Kept.trans (a := 44384713757733132627787492110109492962403579368405794189841061202420222591809112598594234867186775654062888039021194796361376735865) (t := s) ?_ hw₀ h₀⟩; refine KeptR.keep (?_ : KeptR 44384713757733132627787492110109492962403579368405794189841061202420222591809112598594234867186775654062888039021194796361376735865 s (execPeerCopy tag s)) t₁ e₁; clear e₁ t₁
  clear h₀ hw₀
  unfold execPeerCopy; try dsimp only
  repeat' first | (with_reducible first | assumption | exact Kept.refl _ _ | refine KeptR.next ?_ | exact KeptR.fault | exact KeptR.refused | refine KeptR.ite ?_ ?_ | refine Kept.ite ?_ ?_ | refine State.cmdEnd_kept ?_ ?_ | refine State.dropXout_kept ?_ ?_ | refine State.failLost_kept ?_ ?_ | refine State.onStarted_kept ?_ ?_ ?_ | refine State.openPull_kept ?_ ?_ | refine State.portPages_kept ?_ ?_ | refine State.pullWrite_kept ?_ ?_ | refine State.qCommit_kept ?_ ?_ | refine State.qSendData_kept ?_ ?_ | refine State.readOffline_kept ?_ ?_ | refine State.updCmd_kept ?_ ?_ | refine State.updXout_kept ?_ ?_ | refine State.writeEnd_kept ?_ ?_ | refine State.openXfer_kept ?_ ?_ _ (by assumption) | refine State.portPages_keptp (by assumption) ?_ ?_) | (show Nat.testBit _ _ = true; rfl) | (show subMask _ _ = true; rfl) | (intro _; try dsimp only) | split | dsimp only

end Sys2Proof.Machine
end

