-- ==== Sys2Proof/Laws/KeptRegisters.lean ====
section
/-! SUPPORT. What the operations and meanings of Machine/Registers.lean keep (the relation Kept). -/

set_option Elab.async false

namespace Sys2Proof.Machine
open Reg
set_option linter.unusedVariables false
set_option linter.unusedTactic false
set_option linter.unreachableTactic false
set_option maxHeartbeats 400000

variable {w₀ : Nat} {s₀ : State}

theorem State.setPostQ_kept {s : State} {w : Initiator} {q : List (Nat × Word)} (hw₀ : subMask 4 w₀ = true) (h₀ : Kept w₀ s₀ s) :
    Kept w₀ s₀ (State.setPostQ s w q) := by
  refine Kept.trans (a := 4) (t := s) ?_ hw₀ h₀
  clear h₀ hw₀
  unfold State.setPostQ; try dsimp only
  repeat' first | (with_reducible first | assumption | exact Kept.refl _ _ | refine Kept.ite ?_ ?_ | refine State.updSys_kept ?_ ?_ ?_) | (show Nat.testBit _ _ = true; rfl) | (show subMask _ _ = true; rfl) | exact SysU.holds_same rfl rfl | (intro _; try dsimp only) | split | dsimp only

theorem State.drainFast_kept {s : State} {w : Initiator} {x0_ : Nat} (hw₀ : subMask 5192296858534827628535306763898373 w₀ = true) (h₀ : Kept w₀ s₀ s) :
    Kept w₀ s₀ (State.drainFast s w x0_) := by
  refine Kept.trans (a := 5192296858534827628535306763898373) (t := s) ?_ hw₀ h₀
  clear h₀ hw₀
  induction x0_ generalizing s w with
  | zero =>
    unfold State.drainFast; try dsimp only
    repeat' first | (with_reducible first | assumption | exact Kept.refl _ _ | refine Kept.ite ?_ ?_ | refine State.barWrite_kept ?_ ?_ | refine State.setPostQ_kept ?_ ?_ | refine Kept.trans ih ?_ ?_) | (show Nat.testBit _ _ = true; rfl) | (show subMask _ _ = true; rfl) | (intro _; try dsimp only) | split | dsimp only
  | succ n_ ih =>
    unfold State.drainFast; try dsimp only
    repeat' first | (with_reducible first | assumption | exact Kept.refl _ _ | refine Kept.ite ?_ ?_ | refine State.barWrite_kept ?_ ?_ | refine State.setPostQ_kept ?_ ?_ | refine Kept.trans ih ?_ ?_) | (show Nat.testBit _ _ = true; rfl) | (show subMask _ _ = true; rfl) | (intro _; try dsimp only) | split | dsimp only

theorem State.cfgWrite_kept {s : State} {ofs be : Nat} {v : Word} (hw₀ : subMask 4325376 w₀ = true) (h₀ : Kept w₀ s₀ s) :
    Kept w₀ s₀ (State.cfgWrite s ofs be v) := by
  refine Kept.trans (a := 4325376) (t := s) ?_ hw₀ h₀
  clear h₀ hw₀
  unfold State.cfgWrite; try dsimp only
  repeat' first | (with_reducible first | assumption | exact Kept.refl _ _ | refine Kept.ite ?_ ?_ | refine State.msixFlush_kept ?_ ?_ | refine State.updLink_kept ?_ ?_) | (show Nat.testBit _ _ = true; rfl) | (show subMask _ _ = true; rfl) | (intro _; try dsimp only) | split | dsimp only

theorem State.msixWrite_kept {s : State} {a be : Nat} {v : Word} (hw₀ : subMask 4325376 w₀ = true) (h₀ : Kept w₀ s₀ s) :
    Kept w₀ s₀ (State.msixWrite s a be v) := by
  refine Kept.trans (a := 4325376) (t := s) ?_ hw₀ h₀
  clear h₀ hw₀
  unfold State.msixWrite; try dsimp only
  repeat' first | (with_reducible first | assumption | exact Kept.refl _ _ | refine Kept.ite ?_ ?_ | refine State.msixFlush_kept ?_ ?_ | refine State.updLink_kept ?_ ?_) | (show Nat.testBit _ _ = true; rfl) | (show subMask _ _ = true; rfl) | (intro _; try dsimp only) | split | dsimp only

theorem State.postWrite_kept {s : State} {w : Initiator} {a : Nat} {v : Word} (hw₀ : subMask 5192296858534827628535306763898373 w₀ = true) (h₀ : Kept w₀ s₀ s) :
    Kept w₀ s₀ (State.postWrite s w a v) := by
  refine Kept.trans (a := 5192296858534827628535306763898373) (t := s) ?_ hw₀ h₀
  clear h₀ hw₀
  unfold State.postWrite; try dsimp only
  repeat' first | (with_reducible first | assumption | exact Kept.refl _ _ | refine Kept.ite ?_ ?_ | refine State.barWrite_kept ?_ ?_ | refine State.setPostQ_kept ?_ ?_) | (show Nat.testBit _ _ = true; rfl) | (show subMask _ _ = true; rfl) | (intro _; try dsimp only) | split | dsimp only

theorem execRegisterWrite_kept {w : Initiator} {sp : RegSpace} {a : BitVec 27} {be : BitVec 4} {poison : Bool} {v : Word} {s : State} (hw₀ : subMask 5192298715444886556605719112715781 w₀ = true) (h₀ : Kept w₀ s₀ s) :
    KeptR w₀ s₀ (execRegisterWrite w sp a be poison v s) := by
  refine ⟨fun t₁ e₁ => Kept.trans (a := 5192298715444886556605719112715781) (t := s) ?_ hw₀ h₀⟩; refine KeptR.keep (?_ : KeptR 5192298715444886556605719112715781 s (execRegisterWrite w sp a be poison v s)) t₁ e₁; clear e₁ t₁
  clear h₀ hw₀
  unfold execRegisterWrite; try dsimp only
  repeat' first | (with_reducible first | assumption | exact Kept.refl _ _ | refine KeptR.next ?_ | exact KeptR.fault | exact KeptR.refused | refine KeptR.ite ?_ ?_ | refine Kept.ite ?_ ?_ | refine State.cfgWrite_kept ?_ ?_ | refine State.emit_kept ?_ ?_ | apply State.inc_kept | refine State.msixWrite_kept ?_ ?_ | refine State.postWrite_kept ?_ ?_ | apply State.raiseBit_kept | refine State.refuseW_kept ?_ ?_ | apply State.setB_kept) | (show Nat.testBit _ _ = true; rfl) | (show subMask _ _ = true; rfl) | exact inFam_BQ_LINK_CNT | exact inFam_BQ_LINK_EVT | exact inFam_SYS_STATUS | exact wrsOk_nil | apply wrsOk_cons | (intro _; try dsimp only) | split | dsimp only

theorem execSlowWriteApply_kept {w : Initiator} {s : State} (hw₀ : subMask 5192296858534827628535306763898373 w₀ = true) (h₀ : Kept w₀ s₀ s) :
    KeptR w₀ s₀ (execSlowWriteApply w s) := by
  refine ⟨fun t₁ e₁ => Kept.trans (a := 5192296858534827628535306763898373) (t := s) ?_ hw₀ h₀⟩; refine KeptR.keep (?_ : KeptR 5192296858534827628535306763898373 s (execSlowWriteApply w s)) t₁ e₁; clear e₁ t₁
  clear h₀ hw₀
  unfold execSlowWriteApply; try dsimp only
  repeat' first | (with_reducible first | assumption | exact Kept.refl _ _ | refine KeptR.next ?_ | exact KeptR.fault | exact KeptR.refused | refine KeptR.ite ?_ ?_ | refine Kept.ite ?_ ?_ | refine State.barWrite_kept ?_ ?_ | refine State.drainFast_kept ?_ ?_ | refine State.setPostQ_kept ?_ ?_) | (show Nat.testBit _ _ = true; rfl) | (show subMask _ _ = true; rfl) | (intro _; try dsimp only) | split | dsimp only

theorem execSysGlue_kept {w : Initiator} {mask : Word} {s : State} (hw₀ : subMask 44384713757731871763589207486774700033120374772764061292041813078387985969043413353983372208016752577752739675107290937801314536125 w₀ = true) (h₀ : Kept w₀ s₀ s) :
    KeptR w₀ s₀ (execSysGlue w mask s) := by
  refine ⟨fun t₁ e₁ => Kept.trans (a := 44384713757731871763589207486774700033120374772764061292041813078387985969043413353983372208016752577752739675107290937801314536125) (t := s) ?_ hw₀ h₀⟩; refine KeptR.keep (?_ : KeptR 44384713757731871763589207486774700033120374772764061292041813078387985969043413353983372208016752577752739675107290937801314536125 s (execSysGlue w mask s)) t₁ e₁; clear e₁ t₁
  clear h₀ hw₀
  unfold execSysGlue; try dsimp only
  repeat' first | (with_reducible first | assumption | exact Kept.refl _ _ | refine KeptR.next ?_ | exact KeptR.fault | exact KeptR.refused | refine KeptR.ite ?_ ?_ | refine Kept.ite ?_ ?_ | refine State.glue_kept ?_ ?_) | (show Nat.testBit _ _ = true; rfl) | (show subMask _ _ = true; rfl) | (intro _; try dsimp only) | split | dsimp only

theorem State.rcClear_kept {s : State} {a i : Nat} {fs : List FieldDesc} {read : Word} (hw₀ : subMask 67108905 w₀ = true) (h₀ : Kept w₀ s₀ s) :
    Kept w₀ s₀ (State.rcClear s a i fs read) := by
  refine Kept.trans (a := 67108905) (t := s) ?_ hw₀ h₀
  clear h₀ hw₀
  unfold State.rcClear; try dsimp only
  repeat' first | (with_reducible first | assumption | exact Kept.refl _ _ | refine Kept.ite ?_ ?_ | refine State.setReg_kept ?_ ?_ | refine State.updDdr_kept ?_ ?_ ?_ | refine State.updWatch_kept ?_ ?_ ?_ | refine State.foldl_kept ?_ ?_) | (show Nat.testBit _ _ = true; rfl) | (show subMask _ _ = true; rfl) | refine DdrCh.upset_holds ?_ | refine DdrCh.writeBurst_holds ?_ | exact DdrCh.holds_of rfl rfl | exact DramU.holds_of rfl | exact ⟨fun _ h => h⟩ | exact ⟨fun _ h => List.mem_append_left _ h⟩ | (intro _; try dsimp only) | split | dsimp only

theorem execRcRead_kept {w : Initiator} {a : BitVec 27} {lag : Word} {s : State} (hw₀ : subMask 1645504557321206042154969182557350504982735865633579863419912237 w₀ = true) (h₀ : Kept w₀ s₀ s) :
    KeptR w₀ s₀ (execRcRead w a lag s) := by
  refine ⟨fun t₁ e₁ => Kept.trans (a := 1645504557321206042154969182557350504982735865633579863419912237) (t := s) ?_ hw₀ h₀⟩; refine KeptR.keep (?_ : KeptR 1645504557321206042154969182557350504982735865633579863419912237 s (execRcRead w a lag s)) t₁ e₁; clear e₁ t₁
  clear h₀ hw₀
  unfold execRcRead; try dsimp only
  repeat' first | (with_reducible first | assumption | exact Kept.refl _ _ | refine KeptR.next ?_ | exact KeptR.fault | exact KeptR.refused | refine KeptR.ite ?_ ?_ | refine Kept.ite ?_ ?_ | refine State.emit_kept ?_ ?_ | refine State.rcClear_kept ?_ ?_ | refine State.seenBy_kept ?_ ?_ | refine State.updSys_kept ?_ ?_ ?_ | refine State.when_kept ?_ ?_ | apply State.wr_kept) | (show Nat.testBit _ _ = true; rfl) | (show subMask _ _ = true; rfl) | exact inFam_RCH_COEF_ADDR | exact wrsOk_nil | apply wrsOk_cons | exact SysU.holds_same rfl rfl | (intro _; try dsimp only) | split | dsimp only

theorem execSysRefPop_kept {w : Initiator} {s : State} (hw₀ : subMask 4194308 w₀ = true) (h₀ : Kept w₀ s₀ s) :
    KeptR w₀ s₀ (execSysRefPop w s) := by
  refine ⟨fun t₁ e₁ => Kept.trans (a := 4194308) (t := s) ?_ hw₀ h₀⟩; refine KeptR.keep (?_ : KeptR 4194308 s (execSysRefPop w s)) t₁ e₁; clear e₁ t₁
  clear h₀ hw₀
  unfold execSysRefPop; try dsimp only
  repeat' first | (with_reducible first | assumption | exact Kept.refl _ _ | refine KeptR.next ?_ | exact KeptR.fault | exact KeptR.refused | refine KeptR.ite ?_ ?_ | refine Kept.ite ?_ ?_ | refine State.emit_kept ?_ ?_ | refine State.updSys_kept ?_ ?_ ?_) | (show Nat.testBit _ _ = true; rfl) | (show subMask _ _ = true; rfl) | exact SysU.holds_same rfl rfl | (intro _; try dsimp only) | split | dsimp only

theorem execSysTmrExpiry_kept {k : Fin 8} {s : State} (hw₀ : subMask 140737492549637 w₀ = true) (h₀ : Kept w₀ s₀ s) :
    KeptR w₀ s₀ (execSysTmrExpiry k s) := by
  refine ⟨fun t₁ e₁ => Kept.trans (a := 140737492549637) (t := s) ?_ hw₀ h₀⟩; refine KeptR.keep (?_ : KeptR 140737492549637 s (execSysTmrExpiry k s)) t₁ e₁; clear e₁ t₁
  clear h₀ hw₀
  unfold execSysTmrExpiry; try dsimp only
  repeat' first | (with_reducible first | assumption | exact Kept.refl _ _ | refine KeptR.next ?_ | exact KeptR.fault | exact KeptR.refused | refine KeptR.ite ?_ ?_ | refine Kept.ite ?_ ?_ | refine State.forEach_kept ?_ ?_ | refine State.irqIf_kept ?_ ?_ | refine State.updSys_kept ?_ ?_ ?_ | apply State.wr_kept) | (show Nat.testBit _ _ = true; rfl) | (show subMask _ _ = true; rfl) | exact inFam_SYS_TMR_STAT | exact wrsOk_nil | apply wrsOk_cons | exact SysU.holds_same rfl rfl | (intro _; try dsimp only) | split | dsimp only

theorem execTimerCaptureEdge_kept {pin : Fin 16} {s : State} (hw₀ : subMask 281474976710657 w₀ = true) (h₀ : Kept w₀ s₀ s) :
    KeptR w₀ s₀ (execTimerCaptureEdge pin s) := by
  refine ⟨fun t₁ e₁ => Kept.trans (a := 281474976710657) (t := s) ?_ hw₀ h₀⟩; refine KeptR.keep (?_ : KeptR 281474976710657 s (execTimerCaptureEdge pin s)) t₁ e₁; clear e₁ t₁
  clear h₀ hw₀
  unfold execTimerCaptureEdge; try dsimp only
  repeat' first | (with_reducible first | assumption | exact Kept.refl _ _ | refine KeptR.next ?_ | exact KeptR.fault | exact KeptR.refused | refine KeptR.ite ?_ ?_ | refine Kept.ite ?_ ?_ | apply State.wr_kept) | (show Nat.testBit _ _ = true; rfl) | (show subMask _ _ = true; rfl) | exact inFam_SYS_TMR_CAP | exact wrsOk_nil | apply wrsOk_cons | (intro _; try dsimp only) | split | dsimp only

end Sys2Proof.Machine
end

