-- ==== Sys2Proof/Laws/KeptPower.lean ====
section
/-! SUPPORT. What the operations and meanings of Machine/Power.lean keep (the relation Kept). -/

set_option Elab.async false

namespace Sys2Proof.Machine
open Reg
set_option linter.unusedVariables false
set_option linter.unusedTactic false
set_option linter.unreachableTactic false
set_option maxHeartbeats 400000

variable {w₀ : Nat} {s₀ : State}

theorem State.showAllowed_kept {s : State} (hw₀ : subMask 633825300114114700748351602689 w₀ = true) (h₀ : Kept w₀ s₀ s) :
    Kept w₀ s₀ (State.showAllowed s) := by
  refine Kept.trans (a := 633825300114114700748351602689) (t := s) ?_ hw₀ h₀
  clear h₀ hw₀
  unfold State.showAllowed; try dsimp only
  repeat' first | (with_reducible first | assumption | exact Kept.refl _ _ | refine Kept.ite ?_ ?_ | apply State.wr_kept) | (show Nat.testBit _ _ = true; rfl) | (show subMask _ _ = true; rfl) | exact inFam_SCH_PWR_STAT | exact wrsOk_nil | apply wrsOk_cons | (intro _; try dsimp only) | split | dsimp only

theorem State.idleTick_kept {s : State} (hw₀ : subMask 633825300114114700748352651265 w₀ = true) (h₀ : Kept w₀ s₀ s) :
    Kept w₀ s₀ (State.idleTick s) := by
  refine Kept.trans (a := 633825300114114700748352651265) (t := s) ?_ hw₀ h₀
  clear h₀ hw₀
  unfold State.idleTick; try dsimp only
  repeat' first | (with_reducible first | assumption | exact Kept.refl _ _ | refine Kept.ite ?_ ?_ | refine State.updSch_kept ?_ ?_ | apply State.wr_kept) | (show Nat.testBit _ _ = true; rfl) | (show subMask _ _ = true; rfl) | exact inFam_SCH_PWR_STAT | exact wrsOk_nil | apply wrsOk_cons | (intro _; try dsimp only) | split | dsimp only

theorem State.spinFor_kept {s : State} {k : Nat} (hw₀ : subMask 2239744742177804210557442280568444278121645497234649534899989100963791871180160945380877493271615506433 w₀ = true) (h₀ : Kept w₀ s₀ s) :
    Kept w₀ s₀ (State.spinFor s k) := by
  refine Kept.trans (a := 2239744742177804210557442280568444278121645497234649534899989100963791871180160945380877493271615506433) (t := s) ?_ hw₀ h₀
  clear h₀ hw₀
  unfold State.spinFor; try dsimp only
  repeat' first | (with_reducible first | assumption | exact Kept.refl _ _ | refine Kept.ite ?_ ?_ | refine State.plan_kept ?_ ?_) | (show Nat.testBit _ _ = true; rfl) | (show subMask _ _ = true; rfl) | (intro _; try dsimp only) | split | dsimp only

theorem State.selfRefresh_kept {s : State} {on : Bool} (hw₀ : subMask 23945242826029513411849172299223580994042798784118785 w₀ = true) (h₀ : Kept w₀ s₀ s) :
    Kept w₀ s₀ (State.selfRefresh s on) := by
  refine Kept.trans (a := 23945242826029513411849172299223580994042798784118785) (t := s) ?_ hw₀ h₀
  clear h₀ hw₀
  unfold State.selfRefresh; try dsimp only
  repeat' first | (with_reducible first | assumption | exact Kept.refl _ _ | refine Kept.ite ?_ ?_ | refine State.forEach_kept ?_ ?_ | apply State.wr_kept) | (show Nat.testBit _ _ = true; rfl) | (show subMask _ _ = true; rfl) | exact inFam_DDR_STATUS | exact wrsOk_nil | apply wrsOk_cons | (intro _; try dsimp only) | split | dsimp only

theorem State.powerMove_kept {s : State} {k : Nat} (hw₀ : subMask 44384376587918356619345085746184986184077966302023114357760334071366288256766570672714464034893177159996374847388654226680601656905 w₀ = true) (h₀ : Kept w₀ s₀ s) :
    Kept w₀ s₀ (State.powerMove s k) := by
  refine Kept.trans (a := 44384376587918356619345085746184986184077966302023114357760334071366288256766570672714464034893177159996374847388654226680601656905) (t := s) ?_ hw₀ h₀
  clear h₀ hw₀
  unfold State.powerMove; try dsimp only
  repeat' first | (with_reducible first | assumption | exact Kept.refl _ _ | refine Kept.ite ?_ ?_ | refine State.retractAll_kept ?_ ?_ | refine State.selfRefresh_kept ?_ ?_ | refine State.spinFor_kept ?_ ?_ | refine State.startSpindle_kept ?_ ?_ | refine State.stopSpindle_kept ?_ ?_ | refine State.when_kept ?_ ?_ | refine State.wrs_kept ?_ ?_ ?_) | (show Nat.testBit _ _ = true; rfl) | (show subMask _ _ = true; rfl) | exact inFam_SCH_PWR_STAT | exact wrsOk_nil | apply wrsOk_cons | (intro _; try dsimp only) | split | dsimp only

theorem State.powerOn_kept {s : State} {k : Nat} (hw₀ : subMask 145583408241557273686233748236948878077906957320252219768499291562646471626710461449757037062654470920193 w₀ = true) (h₀ : Kept w₀ s₀ s) :
    Kept w₀ s₀ (State.powerOn s k) := by
  refine Kept.trans (a := 145583408241557273686233748236948878077906957320252219768499291562646471626710461449757037062654470920193) (t := s) ?_ hw₀ h₀
  clear h₀ hw₀
  unfold State.powerOn; try dsimp only
  repeat' first | (with_reducible first | assumption | exact Kept.refl _ _ | refine Kept.ite ?_ ?_ | refine State.forEach_kept ?_ ?_ | refine State.spinFor_kept ?_ ?_ | refine State.startLoad_kept ?_ ?_) | (show Nat.testBit _ _ = true; rfl) | (show subMask _ _ = true; rfl) | (intro _; try dsimp only) | split | dsimp only

theorem State.powerReached_kept {s : State} {k : Nat} (hw₀ : subMask 23945242826029513411861214979925749173357017470337025 w₀ = true) (h₀ : Kept w₀ s₀ s) :
    Kept w₀ s₀ (State.powerReached s k) := by
  refine Kept.trans (a := 23945242826029513411861214979925749173357017470337025) (t := s) ?_ hw₀ h₀
  clear h₀ hw₀
  unfold State.powerReached; try dsimp only
  repeat' first | (with_reducible first | assumption | exact Kept.refl _ _ | refine Kept.ite ?_ ?_ | refine State.cmdEnd_kept ?_ ?_ | refine State.emit_kept ?_ ?_ | refine State.forEach_kept ?_ ?_ | apply State.inc_kept | apply State.raiseBit_kept | refine State.selfRefresh_kept ?_ ?_ | refine State.updSch_kept ?_ ?_ | refine State.when_kept ?_ ?_ | refine State.wrs_kept ?_ ?_ ?_) | (show Nat.testBit _ _ = true; rfl) | (show subMask _ _ = true; rfl) | exact inFam_SCH_PWR_CNT | exact inFam_SCH_PWR_STAT | exact inFam_SCH_STATUS | exact wrsOk_nil | apply wrsOk_cons | (intro _; try dsimp only) | split | dsimp only

theorem execPowerStateReached_kept {s : State} (hw₀ : subMask 145583408241557273686233748236948878077906957320252243713742117592159883487925441375506210419671941257217 w₀ = true) (h₀ : Kept w₀ s₀ s) :
    KeptR w₀ s₀ (execPowerStateReached s) := by
  refine ⟨fun t₁ e₁ => Kept.trans (a := 145583408241557273686233748236948878077906957320252243713742117592159883487925441375506210419671941257217) (t := s) ?_ hw₀ h₀⟩; refine KeptR.keep (?_ : KeptR 145583408241557273686233748236948878077906957320252243713742117592159883487925441375506210419671941257217 s (execPowerStateReached s)) t₁ e₁; clear e₁ t₁
  clear h₀ hw₀
  unfold execPowerStateReached; try dsimp only
  repeat' first | (with_reducible first | assumption | exact Kept.refl _ _ | refine KeptR.next ?_ | exact KeptR.fault | exact KeptR.refused | refine KeptR.ite ?_ ?_ | refine Kept.ite ?_ ?_ | refine State.powerOn_kept ?_ ?_ | refine State.powerReached_kept ?_ ?_) | (show Nat.testBit _ _ = true; rfl) | (show subMask _ _ = true; rfl) | (intro _; try dsimp only) | split | dsimp only

theorem execIdleTimerExpiry_kept {k : Fin 6} {s : State} (hw₀ : subMask 44384376587918356619345085746184986184077966302023114357760334071366288256766570672714464034893177159996374847388654226680602705481 w₀ = true) (h₀ : Kept w₀ s₀ s) :
    KeptR w₀ s₀ (execIdleTimerExpiry k s) := by
  refine ⟨fun t₁ e₁ => Kept.trans (a := 44384376587918356619345085746184986184077966302023114357760334071366288256766570672714464034893177159996374847388654226680602705481) (t := s) ?_ hw₀ h₀⟩; refine KeptR.keep (?_ : KeptR 44384376587918356619345085746184986184077966302023114357760334071366288256766570672714464034893177159996374847388654226680602705481 s (execIdleTimerExpiry k s)) t₁ e₁; clear e₁ t₁
  clear h₀ hw₀
  unfold execIdleTimerExpiry; try dsimp only
  repeat' first | (with_reducible first | assumption | exact Kept.refl _ _ | refine KeptR.next ?_ | exact KeptR.fault | exact KeptR.refused | refine KeptR.ite ?_ ?_ | refine Kept.ite ?_ ?_ | refine State.idleTick_kept ?_ ?_ | refine State.powerMove_kept ?_ ?_) | (show Nat.testBit _ _ = true; rfl) | (show subMask _ _ = true; rfl) | (intro _; try dsimp only) | split | dsimp only

theorem execIdleEnd_kept {s : State} (hw₀ : subMask 44384376587918356619345085746184986184077966302023114357760334071366288256766570672714464034893177171405230249442718840150931553865 w₀ = true) (h₀ : Kept w₀ s₀ s) :
    KeptR w₀ s₀ (execIdleEnd s) := by
  refine ⟨fun t₁ e₁ => Kept.trans (a := 44384376587918356619345085746184986184077966302023114357760334071366288256766570672714464034893177171405230249442718840150931553865) (t := s) ?_ hw₀ h₀⟩; refine KeptR.keep (?_ : KeptR 44384376587918356619345085746184986184077966302023114357760334071366288256766570672714464034893177171405230249442718840150931553865 s (execIdleEnd s)) t₁ e₁; clear e₁ t₁
  clear h₀ hw₀
  unfold execIdleEnd; try dsimp only
  repeat' first | (with_reducible first | assumption | exact Kept.refl _ _ | refine KeptR.next ?_ | exact KeptR.fault | exact KeptR.refused | refine KeptR.ite ?_ ?_ | refine Kept.ite ?_ ?_ | refine State.idleTick_kept ?_ ?_ | apply State.inc_kept | refine State.powerMove_kept ?_ ?_ | apply State.raiseBit_kept | refine State.when_kept ?_ ?_) | (show Nat.testBit _ _ = true; rfl) | (show subMask _ _ = true; rfl) | exact inFam_SCH_PWR_CNT | exact inFam_SCH_STATUS | exact wrsOk_nil | apply wrsOk_cons | (intro _; try dsimp only) | split | dsimp only

end Sys2Proof.Machine
end

