-- ==== Sys2Proof/Laws/KeptImage.lean ====
section
/-! SUPPORT. What the operations and meanings of Machine/Image.lean keep (the relation Kept). -/

set_option Elab.async false

namespace Sys2Proof.Machine
open Reg
set_option linter.unusedVariables false
set_option linter.unusedTactic false
set_option linter.unreachableTactic false
set_option maxHeartbeats 400000

variable {w₀ : Nat} {s₀ : State}

theorem State.flashPut_kept {s : State} {a : Nat} {bs : List Byte} (hw₀ : subMask 4 w₀ = true) (h₀ : Kept w₀ s₀ s) : Kept w₀ s₀ (State.flashPut s a bs) := by
  exact Kept.trans (a := 4) (t := s) (State.updSys_kept (fun _ => ⟨Fuses.rise_refl _, flash_wf bs a _⟩) rfl (Kept.refl _ _)) hw₀ h₀

theorem State.initWrite_kept {s : State} {a : Nat} {v : Word} (hw₀ : subMask 44291827176855991468543170099131832650047185532908757879776823962364091035628633138538257004829347461 w₀ = true) (h₀ : Kept w₀ s₀ s) : Kept w₀ s₀ (State.initWrite s a v).1 := by
  refine Kept.trans (a := 44291827176855991468543170099131832650047185532908757879776823962364091035628633138538257004829347461) (t := s) ?_ hw₀ h₀
  unfold State.initWrite
  split
  · exact Kept.refl _ _
  · split
    · dsimp only
      refine State.when_kept (fun u => State.wr_kept inFam_RCH_COEF_ADDR rfl rfl (Kept.refl _ _)) ?_
      split
      · exact State.coefStore_kept rfl (Kept.refl _ _)
      · exact Kept.refl _ _
    · split
      · split
        · rename_i e
          exact (execCtlCoefCommit_kept (w₀ := 44291827176855991468543170099131832650047185532908757879776823962364091035628633138538257004829347461) rfl (State.clr_kept inFam_CTL_GSTATUS rfl rfl (Kept.refl _ _))).keep _ e
        · exact Kept.refl _ _
      · split
        · exact Kept.refl _ _
        · split
          · show Kept _ _ (State.noteRefused _ _ _ _ _ _ _)
            exact State.noteRefused_kept rfl (Kept.refl _ _)
          · dsimp only
            exact State.applyWrite'_kept rfl (Kept.refl _ _)

theorem State.initWrites_kept {s : State} {x0_ : List (Nat × Word)} (hw₀ : subMask 44291827176855991468543170099131832650047185532908757879776823962364091035628633138538257004829347461 w₀ = true) (h₀ : Kept w₀ s₀ s) :
    Kept w₀ s₀ (State.initWrites s x0_).1 := by
  refine Kept.trans (a := 44291827176855991468543170099131832650047185532908757879776823962364091035628633138538257004829347461) (t := s) ?_ hw₀ h₀
  clear h₀ hw₀
  induction x0_ generalizing s with
  | nil =>
    unfold State.initWrites; try dsimp only
    repeat' first | (with_reducible first | assumption | exact Kept.refl _ _ | refine Kept.ite ?_ ?_ | refine State.initWrite_kept ?_ ?_ | refine State.initWrite_keptp (by assumption) ?_ ?_ | refine Kept.trans ih ?_ ?_) | (show Nat.testBit _ _ = true; rfl) | (show subMask _ _ = true; rfl) | (intro _; try dsimp only) | split | dsimp only
  | cons e_ l_ ih =>
    unfold State.initWrites; try dsimp only
    repeat' first | (with_reducible first | assumption | exact Kept.refl _ _ | refine Kept.ite ?_ ?_ | refine State.initWrite_kept ?_ ?_ | refine State.initWrite_keptp (by assumption) ?_ ?_ | refine Kept.trans ih ?_ ?_) | (show Nat.testBit _ _ = true; rfl) | (show subMask _ _ = true; rfl) | (intro _; try dsimp only) | split | dsimp only
theorem State.initWrites_keptp {s : State} {x0_ : List (Nat × Word)} {a₀ : State} {b₀ : Bool} (e₀ : State.initWrites s x0_ = (a₀, b₀)) (hw₀ : subMask 44291827176855991468543170099131832650047185532908757879776823962364091035628633138538257004829347461 w₀ = true) (h₀ : Kept w₀ s₀ s) : Kept w₀ s₀ a₀ := by
  have g : Kept w₀ s₀ (State.initWrites s x0_).1 := State.initWrites_kept hw₀ h₀; rw [e₀] at g; exact g

theorem State.cfgField_kept {s : State} {f : Fld} {v : Nat} (hw₀ : subMask 67108865 w₀ = true) (h₀ : Kept w₀ s₀ s) :
    Kept w₀ s₀ (State.cfgField s f v) := by
  refine Kept.trans (a := 67108865) (t := s) ?_ hw₀ h₀
  clear h₀ hw₀
  unfold State.cfgField; try dsimp only
  repeat' first | (with_reducible first | assumption | exact Kept.refl _ _ | refine Kept.ite ?_ ?_ | refine State.wrAny_kept ?_ ?_) | (show Nat.testBit _ _ = true; rfl) | (show subMask _ _ = true; rfl) | (intro _; try dsimp only) | split | dsimp only

theorem State.cfgWrites_kept {s : State} {c : DriveCfg} (hw₀ : subMask 67108865 w₀ = true) (h₀ : Kept w₀ s₀ s) :
    Kept w₀ s₀ (State.cfgWrites s c) := by
  refine Kept.trans (a := 67108865) (t := s) ?_ hw₀ h₀
  clear h₀ hw₀
  unfold State.cfgWrites; try dsimp only
  repeat' first | (with_reducible first | assumption | exact Kept.refl _ _ | refine Kept.ite ?_ ?_ | refine State.cfgField_kept ?_ ?_ | refine State.forEach_kept ?_ ?_) | (show Nat.testBit _ _ = true; rfl) | (show subMask _ _ = true; rfl) | (intro _; try dsimp only) | split | dsimp only

theorem State.putWords_kept {s : State} {nano : Bool} {start : Nat} {ws : List Nat} (hw₀ : subMask 16384 w₀ = true) (h₀ : Kept w₀ s₀ s) :
    Kept w₀ s₀ (State.putWords s nano start ws) := by
  refine Kept.trans (a := 16384) (t := s) ?_ hw₀ h₀
  clear h₀ hw₀
  unfold State.putWords; try dsimp only
  repeat' first | (with_reducible first | assumption | exact Kept.refl _ _ | refine Kept.ite ?_ ?_ | refine State.foldl_kept ?_ ?_) | (show Nat.testBit _ _ = true; rfl) | (show subMask _ _ = true; rfl) | (intro _; try dsimp only) | split | dsimp only | refine Kept.lit rfl (.inr rfl) rfl rfl rfl rfl (.inr rfl) (.inr rfl) (.inr rfl) (.inr rfl) (.inr rfl) (.inr rfl) (.inr rfl) (.inr rfl) (.inl rfl) (.inr rfl) (.inr rfl) (.inr rfl) (.inr rfl) (.inr rfl) (.inr rfl) (.inr rfl) (.inr rfl) (.inr rfl) (.inr rfl) ?_

theorem State.applyPatches_kept {s : State} {l : List Patch} (hw₀ : subMask 16384 w₀ = true) (h₀ : Kept w₀ s₀ s) :
    Kept w₀ s₀ (State.applyPatches s l) := by
  refine Kept.trans (a := 16384) (t := s) ?_ hw₀ h₀
  clear h₀ hw₀
  unfold State.applyPatches; try dsimp only
  repeat' first | (with_reducible first | assumption | exact Kept.refl _ _ | refine Kept.ite ?_ ?_ | refine State.forEach_kept ?_ ?_ | refine State.putWords_kept ?_ ?_) | (show Nat.testBit _ _ = true; rfl) | (show subMask _ _ = true; rfl) | (intro _; try dsimp only) | split | dsimp only

theorem State.openRegion_kept {s : State} (hw₀ : subMask 16384 w₀ = true) (h₀ : Kept w₀ s₀ s) :
    Kept w₀ s₀ (State.openRegion s) := by
  refine Kept.trans (a := 16384) (t := s) ?_ hw₀ h₀
  clear h₀ hw₀
  unfold State.openRegion; try dsimp only
  repeat' first | (with_reducible first | assumption | exact Kept.refl _ _ | refine Kept.ite ?_ ?_ | refine State.putWords_kept ?_ ?_) | (show Nat.testBit _ _ = true; rfl) | (show subMask _ _ = true; rfl) | (intro _; try dsimp only) | split | dsimp only

theorem State.fillStores_kept {s : State} {img : Image} {custKey : Option Nat} (hw₀ : subMask 45471804645063349015952083076307386354199001146145773031552616567425259115909559790918031150967810521070878330711408784156725790916617 w₀ = true) (h₀ : Kept w₀ s₀ s) :
    Kept w₀ s₀ (State.fillStores s img custKey) := by
  refine Kept.trans (a := 45471804645063349015952083076307386354199001146145773031552616567425259115909559790918031150967810521070878330711408784156725790916617) (t := s) ?_ hw₀ h₀
  clear h₀ hw₀
  unfold State.fillStores; try dsimp only
  repeat' first | (with_reducible first | assumption | exact Kept.refl _ _ | refine Kept.ite ?_ ?_ | refine State.applyPatches_kept ?_ ?_ | refine State.forEach_kept ?_ ?_ | refine State.hooksOff_kept ?_ ?_ | refine State.logFree_kept ?_ ?_ | refine State.openRegion_kept ?_ ?_ | refine State.putWords_kept ?_ ?_ | apply State.raiseBit_kept | apply State.setB_kept | apply State.wr_kept | refine State.wrs_kept ?_ ?_ ?_ | refine State.foldl_kept ?_ ?_) | (show Nat.testBit _ _ = true; rfl) | (show subMask _ _ = true; rfl) | exact inFam_SEQ_BASE_VER | exact inFam_SEQ_CUST_ID | exact inFam_SEQ_GSTATUS | exact inFam_SEQ_HOOK_MAP | exact inFam_SEQ_LOAD_STAT | exact inFam_SEQ_LOCK | exact inFam_SEQ_PATCH_LEVEL | exact wrsOk_nil | apply wrsOk_cons | (intro _; try dsimp only) | split | dsimp only | refine Kept.lit rfl (.inr rfl) rfl rfl rfl rfl (.inr rfl) (.inr rfl) (.inr rfl) (.inr rfl) (.inr rfl) (.inr rfl) (.inr rfl) (.inr rfl) (.inl rfl) (.inr rfl) (.inr rfl) (.inr rfl) (.inr rfl) (.inr rfl) (.inr rfl) (.inr rfl) (.inl rfl) (.inl rfl) (.inr rfl) ?_

theorem State.hooksKeptOff_kept {s : State} (hw₀ : subMask 45427420268475430659332737993000283397102585042957379241877534964837091962034124803472611236604080038011407906009900217258091606966273 w₀ = true) (h₀ : Kept w₀ s₀ s) :
    Kept w₀ s₀ (State.hooksKeptOff s) := by
  refine Kept.trans (a := 45427420268475430659332737993000283397102585042957379241877534964837091962034124803472611236604080038011407906009900217258091606966273) (t := s) ?_ hw₀ h₀
  clear h₀ hw₀
  unfold State.hooksKeptOff; try dsimp only
  repeat' first | (with_reducible first | assumption | exact Kept.refl _ _ | refine Kept.ite ?_ ?_ | refine State.forEach_kept ?_ ?_ | refine State.hooksOff_kept ?_ ?_ | refine State.when_kept ?_ ?_) | (show Nat.testBit _ _ = true; rfl) | (show subMask _ _ = true; rfl) | (intro _; try dsimp only) | split | dsimp only

theorem State.measure_kept {s : State} {img : Option Image} {kind mode : Nat} (hw₀ : subMask 4 w₀ = true) (h₀ : Kept w₀ s₀ s) :
    Kept w₀ s₀ (State.measure s img kind mode) := by
  refine Kept.trans (a := 4) (t := s) ?_ hw₀ h₀
  clear h₀ hw₀
  unfold State.measure; try dsimp only
  repeat' first | (with_reducible first | assumption | exact Kept.refl _ _ | refine Kept.ite ?_ ?_ | refine State.updSys_kept ?_ ?_ ?_ | refine State.foldl_kept ?_ ?_) | (show Nat.testBit _ _ = true; rfl) | (show subMask _ _ = true; rfl) | exact SysU.holds_same rfl rfl | (intro _; try dsimp only) | split | dsimp only

end Sys2Proof.Machine
end

