-- ==== Sys2Proof/Laws/KeptAdmin.lean ====
section
/-! SUPPORT. What the operations and meanings of Machine/Admin.lean keep (the relation Kept). -/

set_option Elab.async false

namespace Sys2Proof.Machine
open Reg
set_option linter.unusedVariables false
set_option linter.unusedTactic false
set_option linter.unreachableTactic false
set_option maxHeartbeats 400000

variable {w₀ : Nat} {s₀ : State}

theorem State.tokenRefused_kept {s : State} {b : List Byte} (hw₀ : subMask 44384376587918356619345083307102957096416090370664438769721192661557492653857241418819590297713921840012145244218093114668500385801 w₀ = true) (h₀ : Kept w₀ s₀ s) :
    Kept w₀ s₀ (State.tokenRefused s b) := by
  refine Kept.trans (a := 44384376587918356619345083307102957096416090370664438769721192661557492653857241418819590297713921840012145244218093114668500385801) (t := s) ?_ hw₀ h₀
  clear h₀ hw₀
  unfold State.tokenRefused; try dsimp only
  repeat' first | (with_reducible first | assumption | exact Kept.refl _ _ | refine Kept.ite ?_ ?_ | refine State.logEvent_kept ?_ ?_) | (show Nat.testBit _ _ = true; rfl) | (show subMask _ _ = true; rfl) | (intro _; try dsimp only) | split | dsimp only

theorem State.tokenTaken_kept {s : State} {purpose : Nat} {b : List Byte} (hw₀ : subMask 44384376587918356619345083307102957096416090370664438769721192661557492653857241418819590297713921840012145244218093114668500385805 w₀ = true) (h₀ : Kept w₀ s₀ s) :
    Kept w₀ s₀ (State.tokenTaken s purpose b) := by
  refine Kept.trans (a := 44384376587918356619345083307102957096416090370664438769721192661557492653857241418819590297713921840012145244218093114668500385805) (t := s) ?_ hw₀ h₀
  clear h₀ hw₀
  unfold State.tokenTaken; try dsimp only
  repeat' first | (with_reducible first | assumption | exact Kept.refl _ _ | refine Kept.ite ?_ ?_ | refine State.logEvent_kept ?_ ?_ | refine State.updPersist_kept ?_ ?_) | (show Nat.testBit _ _ = true; rfl) | (show subMask _ _ = true; rfl) | (intro _; try dsimp only) | split | dsimp only

theorem State.takeImage_kept {s : State} {img : Image} (hw₀ : subMask 4 w₀ = true) (h₀ : Kept w₀ s₀ s) :
    Kept w₀ s₀ (State.takeImage s img) := by
  refine Kept.trans (a := 4) (t := s) ?_ hw₀ h₀
  clear h₀ hw₀
  unfold State.takeImage; try dsimp only
  repeat' first | (with_reducible first | assumption | exact Kept.refl _ _ | refine Kept.ite ?_ ?_ | refine State.updSys_kept ?_ ?_ ?_) | (show Nat.testBit _ _ = true; rfl) | (show subMask _ _ = true; rfl) | exact SysU.holds_same rfl rfl | (intro _; try dsimp only) | split | dsimp only

theorem State.raiseSvc_kept {s : State} (hw₀ : subMask 4 w₀ = true) (h₀ : Kept w₀ s₀ s) : Kept w₀ s₀ (State.raiseSvc s) := by
  exact Kept.trans (a := 4) (t := s) (State.when_kept (fun _ => State.updSys_kept (fun _ => ⟨⟨rfl, le_max_left _ _⟩, id⟩) rfl (Kept.refl _ _)) (Kept.refl _ _)) hw₀ h₀

theorem State.hostDataGet_kept {s : State} {c : Cmd} {x0_ : Nat} {x1_ : Nat} {x2_ : Nat} (hw₀ : subMask 4194304 w₀ = true) (h₀ : Kept w₀ s₀ s) :
    Kept w₀ s₀ (State.hostDataGet s c x0_ x1_ x2_) := by
  refine Kept.trans (a := 4194304) (t := s) ?_ hw₀ h₀
  clear h₀ hw₀
  induction x0_ generalizing s c x1_ x2_ with
  | zero =>
    unfold State.hostDataGet; try dsimp only
    repeat' first | (with_reducible first | assumption | exact Kept.refl _ _ | refine Kept.ite ?_ ?_ | refine State.hostGet_kept ?_ ?_ | refine Kept.trans ih ?_ ?_) | (show Nat.testBit _ _ = true; rfl) | (show subMask _ _ = true; rfl) | (intro _; try dsimp only) | split | dsimp only
  | succ n_ ih =>
    unfold State.hostDataGet; try dsimp only
    repeat' first | (with_reducible first | assumption | exact Kept.refl _ _ | refine Kept.ite ?_ ?_ | refine State.hostGet_kept ?_ ?_ | refine Kept.trans ih ?_ ?_) | (show Nat.testBit _ _ = true; rfl) | (show subMask _ _ = true; rfl) | (intro _; try dsimp only) | split | dsimp only

theorem State.withHostData_kept {s : State} {c : Cmd} {n : Nat} {data : Option (List Byte)} {f : State → List Byte → State} (hf : ∀ u b, Kept w₀ u (f u b)) (hw₀ : subMask 4718592 w₀ = true) (h₀ : Kept w₀ s₀ s) : Kept w₀ s₀ (State.withHostData s c n data f) := by
  have hm : ∀ {a b : State}, Kept 4718592 a b → Kept w₀ s₀ a → Kept w₀ s₀ b := fun g k => g.trans hw₀ k
  unfold State.withHostData; dsimp only
  have hg : Kept w₀ s₀ (s.hostDataGet c (n / 4096 + 2) 0 n) := hm (State.hostDataGet_kept rfl (Kept.refl _ _)) h₀
  split
  · exact hm (State.cmdEnd_kept rfl (Kept.refl _ _)) h₀
  · split
    · exact hm (State.cmdEnd_kept rfl (Kept.refl _ _)) hg
    · split
      · exact (hf _ _).trans (subMask_refl _) hg
      · exact hm (State.cmdEnd_kept rfl (Kept.refl _ _)) hg

theorem State.replyPage_kept {s : State} {c : Cmd} {bs : List Byte} (hw₀ : subMask 4718592 w₀ = true) (h₀ : Kept w₀ s₀ s) :
    Kept w₀ s₀ (State.replyPage s c bs) := by
  refine Kept.trans (a := 4718592) (t := s) ?_ hw₀ h₀
  clear h₀ hw₀
  unfold State.replyPage; try dsimp only
  repeat' first | (with_reducible first | assumption | exact Kept.refl _ _ | refine Kept.ite ?_ ?_ | refine State.cmdEnd_kept ?_ ?_ | refine State.hostDataOut_kept ?_ ?_) | (show Nat.testBit _ _ = true; rfl) | (show subMask _ _ = true; rfl) | (intro _; try dsimp only) | split | dsimp only

theorem execIdentify_kept {tag : BitVec 14} {s : State} (hw₀ : subMask 4718592 w₀ = true) (h₀ : Kept w₀ s₀ s) :
    KeptR w₀ s₀ (execIdentify tag s) := by
  refine ⟨fun t₁ e₁ => Kept.trans (a := 4718592) (t := s) ?_ hw₀ h₀⟩; refine KeptR.keep (?_ : KeptR 4718592 s (execIdentify tag s)) t₁ e₁; clear e₁ t₁
  clear h₀ hw₀
  unfold execIdentify; try dsimp only
  repeat' first | (with_reducible first | assumption | exact Kept.refl _ _ | refine KeptR.next ?_ | exact KeptR.fault | exact KeptR.refused | refine KeptR.ite ?_ ?_ | refine Kept.ite ?_ ?_ | refine State.cmdEnd_kept ?_ ?_ | refine State.onStarted_kept ?_ ?_ ?_ | refine State.replyPage_kept ?_ ?_) | (show Nat.testBit _ _ = true; rfl) | (show subMask _ _ = true; rfl) | (intro _; try dsimp only) | split | dsimp only

theorem execGetFeature_kept {tag : BitVec 14} {s : State} (hw₀ : subMask 524288 w₀ = true) (h₀ : Kept w₀ s₀ s) :
    KeptR w₀ s₀ (execGetFeature tag s) := by
  refine ⟨fun t₁ e₁ => Kept.trans (a := 524288) (t := s) ?_ hw₀ h₀⟩; refine KeptR.keep (?_ : KeptR 524288 s (execGetFeature tag s)) t₁ e₁; clear e₁ t₁
  clear h₀ hw₀
  unfold execGetFeature; try dsimp only
  repeat' first | (with_reducible first | assumption | exact Kept.refl _ _ | refine KeptR.next ?_ | exact KeptR.fault | exact KeptR.refused | refine KeptR.ite ?_ ?_ | refine Kept.ite ?_ ?_ | refine State.cmdEnd_kept ?_ ?_ | refine State.onStarted_kept ?_ ?_ ?_ | refine State.updCmd_kept ?_ ?_) | (show Nat.testBit _ _ = true; rfl) | (show subMask _ _ = true; rfl) | (intro _; try dsimp only) | split | dsimp only

theorem execSetFeature_kept {tag : BitVec 14} {s : State} (hw₀ : subMask 44384713757731871763589207486774700033120374772764061292041813078387985969043413353983372208016757770802265753820430675436312858301 w₀ = true) (h₀ : Kept w₀ s₀ s) :
    KeptR w₀ s₀ (execSetFeature tag s) := by
  refine ⟨fun t₁ e₁ => Kept.trans (a := 44384713757731871763589207486774700033120374772764061292041813078387985969043413353983372208016757770802265753820430675436312858301) (t := s) ?_ hw₀ h₀⟩; refine KeptR.keep (?_ : KeptR 44384713757731871763589207486774700033120374772764061292041813078387985969043413353983372208016757770802265753820430675436312858301 s (execSetFeature tag s)) t₁ e₁; clear e₁ t₁
  clear h₀ hw₀
  unfold execSetFeature; try dsimp only
  repeat' first | (with_reducible first | assumption | exact Kept.refl _ _ | refine KeptR.next ?_ | exact KeptR.fault | exact KeptR.refused | refine KeptR.ite ?_ ?_ | refine Kept.ite ?_ ?_ | refine State.barWrite_kept ?_ ?_ | refine State.cmdEnd_kept ?_ ?_ | refine State.glue_kept ?_ ?_ | refine State.onStarted_kept ?_ ?_ ?_ | refine State.showAllowed_kept ?_ ?_ | refine State.updSch_kept ?_ ?_ | refine State.wrs_kept ?_ ?_ ?_) | (show Nat.testBit _ _ = true; rfl) | (show subMask _ _ = true; rfl) | exact inFam_SCH_IDLE_HI | exact inFam_SCH_IDLE_LO | exact wrsOk_nil | apply wrsOk_cons | (intro _; try dsimp only) | split | dsimp only

theorem execSetLatencyTolerance_kept {tag : BitVec 14} {s : State} (hw₀ : subMask 44384376587918356619345085746184986184077966302023114357760334071366288256766570672714464034893177160154831172417182901867690606153 w₀ = true) (h₀ : Kept w₀ s₀ s) :
    KeptR w₀ s₀ (execSetLatencyTolerance tag s) := by
  refine ⟨fun t₁ e₁ => Kept.trans (a := 44384376587918356619345085746184986184077966302023114357760334071366288256766570672714464034893177160154831172417182901867690606153) (t := s) ?_ hw₀ h₀⟩; refine KeptR.keep (?_ : KeptR 44384376587918356619345085746184986184077966302023114357760334071366288256766570672714464034893177160154831172417182901867690606153 s (execSetLatencyTolerance tag s)) t₁ e₁; clear e₁ t₁
  clear h₀ hw₀
  unfold execSetLatencyTolerance; try dsimp only
  repeat' first | (with_reducible first | assumption | exact Kept.refl _ _ | refine KeptR.next ?_ | exact KeptR.fault | exact KeptR.refused | refine KeptR.ite ?_ ?_ | refine Kept.ite ?_ ?_ | refine State.cmdEnd_kept ?_ ?_ | refine State.onStarted_kept ?_ ?_ ?_ | refine State.powerMove_kept ?_ ?_ | refine State.showAllowed_kept ?_ ?_ | refine State.updCmd_kept ?_ ?_ | refine State.updSch_kept ?_ ?_ | apply State.wr_kept) | (show Nat.testBit _ _ = true; rfl) | (show subMask _ _ = true; rfl) | exact inFam_SCH_LAT_TOL | exact wrsOk_nil | apply wrsOk_cons | (intro _; try dsimp only) | split | dsimp only

theorem execSetTime_kept {tag : BitVec 14} {s : State} (hw₀ : subMask 524292 w₀ = true) (h₀ : Kept w₀ s₀ s) :
    KeptR w₀ s₀ (execSetTime tag s) := by
  refine ⟨fun t₁ e₁ => Kept.trans (a := 524292) (t := s) ?_ hw₀ h₀⟩; refine KeptR.keep (?_ : KeptR 524292 s (execSetTime tag s)) t₁ e₁; clear e₁ t₁
  clear h₀ hw₀
  unfold execSetTime; try dsimp only
  repeat' first | (with_reducible first | assumption | exact Kept.refl _ _ | refine KeptR.next ?_ | exact KeptR.fault | exact KeptR.refused | refine KeptR.ite ?_ ?_ | refine Kept.ite ?_ ?_ | refine State.cmdEnd_kept ?_ ?_ | refine State.onStarted_kept ?_ ?_ ?_ | refine State.updSys_kept ?_ ?_ ?_) | (show Nat.testBit _ _ = true; rfl) | (show subMask _ _ = true; rfl) | exact SysU.holds_same rfl rfl | (intro _; try dsimp only) | split | dsimp only

theorem execRingCreate_kept {tag : BitVec 14} {s : State} (hw₀ : subMask 944399509597634205319169 w₀ = true) (h₀ : Kept w₀ s₀ s) :
    KeptR w₀ s₀ (execRingCreate tag s) := by
  refine ⟨fun t₁ e₁ => Kept.trans (a := 944399509597634205319169) (t := s) ?_ hw₀ h₀⟩; refine KeptR.keep (?_ : KeptR 944399509597634205319169 s (execRingCreate tag s)) t₁ e₁; clear e₁ t₁
  clear h₀ hw₀
  unfold execRingCreate; try dsimp only
  repeat' first | (with_reducible first | assumption | exact Kept.refl _ _ | refine KeptR.next ?_ | exact KeptR.fault | exact KeptR.refused | refine KeptR.ite ?_ ?_ | refine Kept.ite ?_ ?_ | refine State.cmdEnd_kept ?_ ?_ | refine State.createRing_kept ?_ ?_ | refine State.onStarted_kept ?_ ?_ ?_) | (show Nat.testBit _ _ = true; rfl) | (show subMask _ _ = true; rfl) | (intro _; try dsimp only) | split | dsimp only

theorem State.onRing_kept {s : State} {tag op : Nat} {states : List Nat} {f : Cmd → Nat → State} (hf : ∀ c r, Kept w₀ s₀ (f c r)) (hw₀ : subMask 524288 w₀ = true) (h₀ : Kept w₀ s₀ s) : Kept w₀ s₀ (State.onRing s tag op states f) := by
  have hm : ∀ {a b : State}, Kept 524288 a b → Kept w₀ s₀ a → Kept w₀ s₀ b := fun g k => g.trans hw₀ k
  unfold State.onRing
  refine State.onStarted_kept (fun c => ?_) (subMask_trans rfl hw₀) h₀
  dsimp only
  split
  · exact hm (State.cmdEnd_kept rfl (Kept.refl _ _)) h₀
  · split
    · exact hf _ _
    · exact hm (State.cmdEnd_kept rfl (Kept.refl _ _)) h₀

theorem execRingDelete_kept {tag : BitVec 14} {s : State} (hw₀ : subMask 78315651964933901386645505 w₀ = true) (h₀ : Kept w₀ s₀ s) :
    KeptR w₀ s₀ (execRingDelete tag s) := by
  refine ⟨fun t₁ e₁ => Kept.trans (a := 78315651964933901386645505) (t := s) ?_ hw₀ h₀⟩; refine KeptR.keep (?_ : KeptR 78315651964933901386645505 s (execRingDelete tag s)) t₁ e₁; clear e₁ t₁
  clear h₀ hw₀
  unfold execRingDelete; try dsimp only
  repeat' first | (with_reducible first | assumption | exact Kept.refl _ _ | refine KeptR.next ?_ | exact KeptR.fault | exact KeptR.refused | refine KeptR.ite ?_ ?_ | refine Kept.ite ?_ ?_ | refine State.cmdEnd_kept ?_ ?_ | refine State.deleteRing_kept ?_ ?_ | refine State.onRing_kept ?_ ?_ ?_) | (show Nat.testBit _ _ = true; rfl) | (show subMask _ _ = true; rfl) | (intro _; try dsimp only) | split | dsimp only

theorem execRingEnable_kept {tag : BitVec 14} {s : State} (hw₀ : subMask 78311003385427326579507201 w₀ = true) (h₀ : Kept w₀ s₀ s) :
    KeptR w₀ s₀ (execRingEnable tag s) := by
  refine ⟨fun t₁ e₁ => Kept.trans (a := 78311003385427326579507201) (t := s) ?_ hw₀ h₀⟩; refine KeptR.keep (?_ : KeptR 78311003385427326579507201 s (execRingEnable tag s)) t₁ e₁; clear e₁ t₁
  clear h₀ hw₀
  unfold execRingEnable; try dsimp only
  repeat' first | (with_reducible first | assumption | exact Kept.refl _ _ | refine KeptR.next ?_ | exact KeptR.fault | exact KeptR.refused | refine KeptR.ite ?_ ?_ | refine Kept.ite ?_ ?_ | refine State.cmdEnd_kept ?_ ?_ | refine State.enableRing_kept ?_ ?_ | refine State.onRing_kept ?_ ?_ ?_) | (show Nat.testBit _ _ = true; rfl) | (show subMask _ _ = true; rfl) | (intro _; try dsimp only) | split | dsimp only

theorem execRingDisable_kept {tag : BitVec 14} {s : State} (hw₀ : subMask 44384713757731871763589207486774700033120374772764031638184406308126848246420176735557563836962755937072390852167543293013860941853 w₀ = true) (h₀ : Kept w₀ s₀ s) :
    KeptR w₀ s₀ (execRingDisable tag s) := by
  refine ⟨fun t₁ e₁ => Kept.trans (a := 44384713757731871763589207486774700033120374772764031638184406308126848246420176735557563836962755937072390852167543293013860941853) (t := s) ?_ hw₀ h₀⟩; refine KeptR.keep (?_ : KeptR 44384713757731871763589207486774700033120374772764031638184406308126848246420176735557563836962755937072390852167543293013860941853 s (execRingDisable tag s)) t₁ e₁; clear e₁ t₁
  clear h₀ hw₀
  unfold execRingDisable; try dsimp only
  repeat' first | (with_reducible first | assumption | exact Kept.refl _ _ | refine KeptR.next ?_ | exact KeptR.fault | exact KeptR.refused | refine KeptR.ite ?_ ?_ | refine Kept.ite ?_ ?_ | refine State.disableRing_kept ?_ ?_ | refine State.onRing_kept ?_ ?_ ?_ | refine State.updCmd_kept ?_ ?_) | (show Nat.testBit _ _ = true; rfl) | (show subMask _ _ = true; rfl) | (intro _; try dsimp only) | split | dsimp only

theorem execRingRestart_kept {tag : BitVec 14} {s : State} (hw₀ : subMask 939750930091059398311937 w₀ = true) (h₀ : Kept w₀ s₀ s) :
    KeptR w₀ s₀ (execRingRestart tag s) := by
  refine ⟨fun t₁ e₁ => Kept.trans (a := 939750930091059398311937) (t := s) ?_ hw₀ h₀⟩; refine KeptR.keep (?_ : KeptR 939750930091059398311937 s (execRingRestart tag s)) t₁ e₁; clear e₁ t₁
  clear h₀ hw₀
  unfold execRingRestart; try dsimp only
  repeat' first | (with_reducible first | assumption | exact Kept.refl _ _ | refine KeptR.next ?_ | exact KeptR.fault | exact KeptR.refused | refine KeptR.ite ?_ ?_ | refine Kept.ite ?_ ?_ | refine State.cmdEnd_kept ?_ ?_ | refine State.onRing_kept ?_ ?_ ?_ | refine State.restartRing_kept ?_ ?_) | (show Nat.testBit _ _ = true; rfl) | (show subMask _ _ = true; rfl) | (intro _; try dsimp only) | split | dsimp only

theorem execGetLog_kept {tag : BitVec 14} {s : State} (hw₀ : subMask 4718592 w₀ = true) (h₀ : Kept w₀ s₀ s) :
    KeptR w₀ s₀ (execGetLog tag s) := by
  refine ⟨fun t₁ e₁ => Kept.trans (a := 4718592) (t := s) ?_ hw₀ h₀⟩; refine KeptR.keep (?_ : KeptR 4718592 s (execGetLog tag s)) t₁ e₁; clear e₁ t₁
  clear h₀ hw₀
  unfold execGetLog; try dsimp only
  repeat' first | (with_reducible first | assumption | exact Kept.refl _ _ | refine KeptR.next ?_ | exact KeptR.fault | exact KeptR.refused | refine KeptR.ite ?_ ?_ | refine Kept.ite ?_ ?_ | refine State.cmdEnd_kept ?_ ?_ | refine State.onStarted_kept ?_ ?_ ?_ | refine State.replyPage_kept ?_ ?_) | (show Nat.testBit _ _ = true; rfl) | (show subMask _ _ = true; rfl) | (intro _; try dsimp only) | split | dsimp only

theorem State.clearLogbook_kept {s : State} {tokId : Nat} (hw₀ : subMask 44384376587918356619345083307102957096416090370664438769721192661557492653857241418819590297713921840012145244218093114668500385865 w₀ = true) (h₀ : Kept w₀ s₀ s) :
    Kept w₀ s₀ (State.clearLogbook s tokId) := by
  refine Kept.trans (a := 44384376587918356619345083307102957096416090370664438769721192661557492653857241418819590297713921840012145244218093114668500385865) (t := s) ?_ hw₀ h₀
  clear h₀ hw₀
  unfold State.clearLogbook; try dsimp only
  repeat' first | (with_reducible first | assumption | exact Kept.refl _ _ | refine Kept.ite ?_ ?_ | refine State.forEach_kept ?_ ?_ | refine State.logEvent_kept ?_ ?_ | refine State.updWatch_kept ?_ ?_ ?_ | refine State.writeArea_kept ?_ ?_) | (show Nat.testBit _ _ = true; rfl) | (show subMask _ _ = true; rfl) | exact ⟨fun _ h => h⟩ | exact ⟨fun _ h => List.mem_append_left _ h⟩ | (intro _; try dsimp only) | split | dsimp only

theorem execLogbookClear_kept {tag : BitVec 14} {data : Option (List Byte)} {s : State} (hw₀ : subMask 44384376587918356619345083307102957096416090370664438769721192661557492653857241418819590297713921840012145244218093114668505104461 w₀ = true) (h₀ : Kept w₀ s₀ s) :
    KeptR w₀ s₀ (execLogbookClear tag data s) := by
  refine ⟨fun t₁ e₁ => Kept.trans (a := 44384376587918356619345083307102957096416090370664438769721192661557492653857241418819590297713921840012145244218093114668505104461) (t := s) ?_ hw₀ h₀⟩; refine KeptR.keep (?_ : KeptR 44384376587918356619345083307102957096416090370664438769721192661557492653857241418819590297713921840012145244218093114668505104461 s (execLogbookClear tag data s)) t₁ e₁; clear e₁ t₁
  clear h₀ hw₀
  unfold execLogbookClear; try dsimp only
  repeat' first | (with_reducible first | assumption | exact Kept.refl _ _ | refine KeptR.next ?_ | exact KeptR.fault | exact KeptR.refused | refine KeptR.ite ?_ ?_ | refine Kept.ite ?_ ?_ | refine State.clearLogbook_kept ?_ ?_ | refine State.cmdEnd_kept ?_ ?_ | refine State.onStarted_kept ?_ ?_ ?_ | refine State.tokenRefused_kept ?_ ?_ | refine State.tokenTaken_kept ?_ ?_ | refine State.withHostData_kept ?_ ?_ ?_) | (show Nat.testBit _ _ = true; rfl) | (show subMask _ _ = true; rfl) | (intro _; try dsimp only) | split | dsimp only

theorem State.bindMedia_kept {s : State} {tokId : Nat} (hw₀ : subMask 562949953421377 w₀ = true) (h₀ : Kept w₀ s₀ s) :
    Kept w₀ s₀ (State.bindMedia s tokId) := by
  refine Kept.trans (a := 562949953421377) (t := s) ?_ hw₀ h₀
  clear h₀ hw₀
  unfold State.bindMedia; try dsimp only
  repeat' first | (with_reducible first | assumption | exact Kept.refl _ _ | refine Kept.ite ?_ ?_ | apply State.clr_kept | refine State.forEach_kept ?_ ?_ | refine State.saveArea_kept ?_ ?_ | refine State.updMedia_kept ?_ ?_ | refine State.foldl_kept ?_ ?_) | (show Nat.testBit _ _ = true; rfl) | (show subMask _ _ = true; rfl) | exact inFam_SYS_MODE | exact wrsOk_nil | apply wrsOk_cons | (intro _; try dsimp only) | split | dsimp only

theorem execAdoptMedia_kept {tag : BitVec 14} {data : Option (List Byte)} {s : State} (hw₀ : subMask 44384376587918356619345083307102957096416090370664438769721192661557492653857241418819590297713921840012145244218093677618458525773 w₀ = true) (h₀ : Kept w₀ s₀ s) :
    KeptR w₀ s₀ (execAdoptMedia tag data s) := by
  refine ⟨fun t₁ e₁ => Kept.trans (a := 44384376587918356619345083307102957096416090370664438769721192661557492653857241418819590297713921840012145244218093677618458525773) (t := s) ?_ hw₀ h₀⟩; refine KeptR.keep (?_ : KeptR 44384376587918356619345083307102957096416090370664438769721192661557492653857241418819590297713921840012145244218093677618458525773 s (execAdoptMedia tag data s)) t₁ e₁; clear e₁ t₁
  clear h₀ hw₀
  unfold execAdoptMedia; try dsimp only
  repeat' first | (with_reducible first | assumption | exact Kept.refl _ _ | refine KeptR.next ?_ | exact KeptR.fault | exact KeptR.refused | refine KeptR.ite ?_ ?_ | refine Kept.ite ?_ ?_ | refine State.bindMedia_kept ?_ ?_ | refine State.cmdEnd_kept ?_ ?_ | refine State.onStarted_kept ?_ ?_ ?_ | refine State.tokenRefused_kept ?_ ?_ | refine State.tokenTaken_kept ?_ ?_ | refine State.withHostData_kept ?_ ?_ ?_) | (show Nat.testBit _ _ = true; rfl) | (show subMask _ _ = true; rfl) | (intro _; try dsimp only) | split | dsimp only

theorem State.logFirmware_kept {s : State} (hw₀ : subMask 44384376587918356619345083307102957096416090370664438769721192661557492653857241418819590297713921840012145244218093114668508774409 w₀ = true) (h₀ : Kept w₀ s₀ s) :
    Kept w₀ s₀ (State.logFirmware s) := by
  refine Kept.trans (a := 44384376587918356619345083307102957096416090370664438769721192661557492653857241418819590297713921840012145244218093114668508774409) (t := s) ?_ hw₀ h₀
  clear h₀ hw₀
  unfold State.logFirmware; try dsimp only
  repeat' first | (with_reducible first | assumption | exact Kept.refl _ _ | refine Kept.ite ?_ ?_ | refine State.logFree_kept ?_ ?_) | (show Nat.testBit _ _ = true; rfl) | (show subMask _ _ = true; rfl) | (intro _; try dsimp only) | split | dsimp only

theorem State.commitSlot_kept {s : State} {c : Cmd} {slot : Nat} (hw₀ : subMask 44384376587918356619345083307102957096416090370664438769721192661557492653857241418819590297713921840012145244218093114668509298701 w₀ = true) (h₀ : Kept w₀ s₀ s) :
    Kept w₀ s₀ (State.commitSlot s c slot) := by
  refine Kept.trans (a := 44384376587918356619345083307102957096416090370664438769721192661557492653857241418819590297713921840012145244218093114668509298701) (t := s) ?_ hw₀ h₀
  clear h₀ hw₀
  unfold State.commitSlot; try dsimp only
  repeat' first | (with_reducible first | assumption | exact Kept.refl _ _ | refine Kept.ite ?_ ?_ | refine State.cmdEnd_kept ?_ ?_ | refine State.logFirmware_kept ?_ ?_ | refine State.updPersist_kept ?_ ?_ | refine State.when_kept ?_ ?_) | (show Nat.testBit _ _ = true; rfl) | (show subMask _ _ = true; rfl) | (intro _; try dsimp only) | split | dsimp only

theorem execFirmwareDownload_kept {tag : BitVec 14} {data : Option (List Byte)} {s : State} (hw₀ : subMask 44384376587918356619345083307102957096416090370664438769721192661557492653857241418819590297713921840012145244218093114668513493005 w₀ = true) (h₀ : Kept w₀ s₀ s) :
    KeptR w₀ s₀ (execFirmwareDownload tag data s) := by
  refine ⟨fun t₁ e₁ => Kept.trans (a := 44384376587918356619345083307102957096416090370664438769721192661557492653857241418819590297713921840012145244218093114668513493005) (t := s) ?_ hw₀ h₀⟩; refine KeptR.keep (?_ : KeptR 44384376587918356619345083307102957096416090370664438769721192661557492653857241418819590297713921840012145244218093114668513493005 s (execFirmwareDownload tag data s)) t₁ e₁; clear e₁ t₁
  clear h₀ hw₀
  unfold execFirmwareDownload; try dsimp only
  repeat' first | (with_reducible first | assumption | exact Kept.refl _ _ | refine KeptR.next ?_ | exact KeptR.fault | exact KeptR.refused | refine KeptR.ite ?_ ?_ | refine Kept.ite ?_ ?_ | refine State.cmdEnd_kept ?_ ?_ | refine State.commitSlot_kept ?_ ?_ | refine State.flashPut_kept ?_ ?_ | refine State.onStarted_kept ?_ ?_ ?_ | refine State.updPersist_kept ?_ ?_ | refine State.withHostData_kept ?_ ?_ ?_) | (show Nat.testBit _ _ = true; rfl) | (show subMask _ _ = true; rfl) | (intro _; try dsimp only) | split | dsimp only

theorem execFirmwareActivate_kept {tag : BitVec 14} {s : State} (hw₀ : subMask 44384713757731871763589207486774700033120374772764031638184406308126848246420176735557563836962755937072389926583712650563399057437 w₀ = true) (h₀ : Kept w₀ s₀ s) :
    KeptR w₀ s₀ (execFirmwareActivate tag s) := by
  refine ⟨fun t₁ e₁ => Kept.trans (a := 44384713757731871763589207486774700033120374772764031638184406308126848246420176735557563836962755937072389926583712650563399057437) (t := s) ?_ hw₀ h₀⟩; refine KeptR.keep (?_ : KeptR 44384713757731871763589207486774700033120374772764031638184406308126848246420176735557563836962755937072389926583712650563399057437 s (execFirmwareActivate tag s)) t₁ e₁; clear e₁ t₁
  clear h₀ hw₀
  unfold execFirmwareActivate; try dsimp only
  repeat' first | (with_reducible first | assumption | exact Kept.refl _ _ | refine KeptR.next ?_ | exact KeptR.fault | exact KeptR.refused | refine KeptR.ite ?_ ?_ | refine Kept.ite ?_ ?_ | refine State.cmdEnd_kept ?_ ?_ | refine State.discardAfter_kept ?_ ?_ | refine State.onStarted_kept ?_ ?_ ?_ | refine State.showWindow_kept ?_ ?_ | refine State.updBq_kept ?_ ?_ | refine State.updCmd_kept ?_ ?_ | refine State.updPersist_kept ?_ ?_ | refine State.updSch_kept ?_ ?_ | refine State.updSys_kept ?_ ?_ ?_ | apply State.wr_kept) | (show Nat.testBit _ _ = true; rfl) | (show subMask _ _ = true; rfl) | exact inFam_BQ_INDEX | exact wrsOk_nil | apply wrsOk_cons | exact SysU.holds_same rfl rfl | (intro _; try dsimp only) | split | dsimp only

theorem execQuiesceDone_kept {s : State} (hw₀ : subMask 44384376587918356619345085746184986184077966302023114357760334071366288256766570672714464034893177159996374885167586652587717967433 w₀ = true) (h₀ : Kept w₀ s₀ s) :
    KeptR w₀ s₀ (execQuiesceDone s) := by
  refine ⟨fun t₁ e₁ => Kept.trans (a := 44384376587918356619345085746184986184077966302023114357760334071366288256766570672714464034893177159996374885167586652587717967433) (t := s) ?_ hw₀ h₀⟩; refine KeptR.keep (?_ : KeptR 44384376587918356619345085746184986184077966302023114357760334071366288256766570672714464034893177159996374885167586652587717967433 s (execQuiesceDone s)) t₁ e₁; clear e₁ t₁
  clear h₀ hw₀
  unfold execQuiesceDone; try dsimp only
  repeat' first | (with_reducible first | assumption | exact Kept.refl _ _ | refine KeptR.next ?_ | exact KeptR.fault | exact KeptR.refused | refine KeptR.ite ?_ ?_ | refine Kept.ite ?_ ?_ | apply State.bqBit_kept | refine State.powerMove_kept ?_ ?_ | apply State.setB_kept | refine State.updCmd_kept ?_ ?_ | refine State.updLink_kept ?_ ?_ | refine State.updSch_kept ?_ ?_) | (show Nat.testBit _ _ = true; rfl) | (show subMask _ _ = true; rfl) | exact inFam_BQ_STATUS | exact inFam_SYS_MODE | exact wrsOk_nil | apply wrsOk_cons | (intro _; try dsimp only) | split | dsimp only

theorem sparseFilter_wf {α : Type} [DecidableEq α] (d : Nat → α) (m : Sparse α) (p : Nat × α → Bool) (h : sparseWf d m = true) : sparseWf d (m.filter p) = true := by
  simp only [sparseWf, Bool.and_eq_true, List.all_eq_true, decide_eq_true_eq] at h ⊢
  refine ⟨?_, fun e he => h.2 e (List.mem_filter.mp he).1⟩
  obtain ⟨hr, -⟩ := h
  induction m with
  | nil => exact hr
  | cons q l ih =>
    obtain ⟨ha, hr⟩ := (sparseRising_cons q l).mp hr
    rw [List.filter_cons]
    split
    · refine (sparseRising_cons _ _).mpr ⟨?_, ih hr⟩
      simp only [sparseAbove, List.all_eq_true, decide_eq_true_eq] at ha ⊢
      exact fun e he => ha e (List.mem_filter.mp he).1
    · exact ih hr

theorem State.resetSeqBlock_kept {s : State} (hw₀ : subMask 67133441 w₀ = true) (h₀ : Kept w₀ s₀ s) : Kept w₀ s₀ (State.resetSeqBlock s) := by
  refine Kept.trans (a := 67133441) (t := s) ?_ hw₀ h₀
  constructor <;> first | exact fun _ => rfl | exact fun _ _ _ => rfl | exact Fuses.rise_refl _ | exact fun _ _ h => h | (intro h; cases h; done) | skip
  intro h
  simp only [State.canonical, Bool.and_eq_true] at h ⊢
  exact ⟨⟨⟨sparseFilter_wf resetVal _ _ h.1.1.1, h.1.1.2⟩, h.1.2⟩, h.2⟩

theorem State.installImage_kept {s : State} {img : Image} (hw₀ : subMask 45471804982233162531096327200487102388962882286539341197245036319674739656410278871611074709702075715899654553775436520232052987154109 w₀ = true) (h₀ : Kept w₀ s₀ s) :
    Kept w₀ s₀ (State.installImage s img) := by
  refine Kept.trans (a := 45471804982233162531096327200487102388962882286539341197245036319674739656410278871611074709702075715899654553775436520232052987154109) (t := s) ?_ hw₀ h₀
  clear h₀ hw₀
  unfold State.installImage; try dsimp only
  repeat' first | (with_reducible first | assumption | exact Kept.refl _ _ | refine Kept.ite ?_ ?_ | refine State.cfgField_kept ?_ ?_ | refine State.fillStores_kept ?_ ?_ | refine State.forEach_kept ?_ ?_ | refine State.glue_kept ?_ ?_ | refine State.hooksKeptOff_kept ?_ ?_ | refine State.initWrites_kept ?_ ?_ | refine State.takeImage_kept ?_ ?_ | refine State.initWrites_keptp (by assumption) ?_ ?_) | (show Nat.testBit _ _ = true; rfl) | (show subMask _ _ = true; rfl) | (intro _; try dsimp only) | split | dsimp only

theorem execActivationDone_kept {s : State} (hw₀ : subMask 45471804982233162531096327200487102388962882286539341197245036319674739656410278871611074709702075715899654553813215452095010150706877 w₀ = true) (h₀ : Kept w₀ s₀ s) :
    KeptR w₀ s₀ (execActivationDone s) := by
  refine ⟨fun t₁ e₁ => Kept.trans (a := 45471804982233162531096327200487102388962882286539341197245036319674739656410278871611074709702075715899654553813215452095010150706877) (t := s) ?_ hw₀ h₀⟩; refine KeptR.keep (?_ : KeptR 45471804982233162531096327200487102388962882286539341197245036319674739656410278871611074709702075715899654553813215452095010150706877 s (execActivationDone s)) t₁ e₁; clear e₁ t₁
  clear h₀ hw₀
  unfold execActivationDone; try dsimp only
  repeat' first | (with_reducible first | assumption | exact Kept.refl _ _ | refine KeptR.next ?_ | exact KeptR.fault | exact KeptR.refused | refine KeptR.ite ?_ ?_ | refine Kept.ite ?_ ?_ | apply State.bqBit_kept | apply State.clr_kept | refine State.cmdEnd_kept ?_ ?_ | refine State.installImage_kept ?_ ?_ | refine State.logFirmware_kept ?_ ?_ | refine State.measure_kept ?_ ?_ | refine State.raiseSvc_kept ?_ ?_ | refine State.resetSeqBlock_kept ?_ ?_ | refine State.updBq_kept ?_ ?_ | refine State.updCmd_kept ?_ ?_ | refine State.updPersist_kept ?_ ?_ | refine State.updSch_kept ?_ ?_ | refine State.updSys_kept ?_ ?_ ?_) | (show Nat.testBit _ _ = true; rfl) | (show subMask _ _ = true; rfl) | exact inFam_BQ_STATUS | exact inFam_SYS_MODE | exact wrsOk_nil | apply wrsOk_cons | exact SysU.holds_same rfl rfl | (intro _; try dsimp only) | split | dsimp only

theorem execKeyLoad_kept {tag : BitVec 14} {data : Option (List Byte)} {s : State} (hw₀ : subMask 44384376587918356619345083307102957096416090370664438769721192661557493885738456988455690200487596144516679404305349090735278325769 w₀ = true) (h₀ : Kept w₀ s₀ s) :
    KeptR w₀ s₀ (execKeyLoad tag data s) := by
  refine ⟨fun t₁ e₁ => Kept.trans (a := 44384376587918356619345083307102957096416090370664438769721192661557493885738456988455690200487596144516679404305349090735278325769) (t := s) ?_ hw₀ h₀⟩; refine KeptR.keep (?_ : KeptR 44384376587918356619345083307102957096416090370664438769721192661557493885738456988455690200487596144516679404305349090735278325769 s (execKeyLoad tag data s)) t₁ e₁; clear e₁ t₁
  clear h₀ hw₀
  unfold execKeyLoad; try dsimp only
  repeat' first | (with_reducible first | assumption | exact Kept.refl _ _ | refine KeptR.next ?_ | exact KeptR.fault | exact KeptR.refused | refine KeptR.ite ?_ ?_ | refine Kept.ite ?_ ?_ | refine State.cmdEnd_kept ?_ ?_ | refine State.onStarted_kept ?_ ?_ ?_ | refine State.withHostData_kept ?_ ?_ ?_ | refine State.loadKey_kept ?_ ?_ _ (by assumption)) | (show Nat.testBit _ _ = true; rfl) | (show subMask _ _ = true; rfl) | (intro _; try dsimp only) | split | dsimp only

theorem execKeyErase_kept {tag : BitVec 14} {s : State} (hw₀ : subMask 1231881215569636099902773674304504534160087255976066773745665 w₀ = true) (h₀ : Kept w₀ s₀ s) :
    KeptR w₀ s₀ (execKeyErase tag s) := by
  refine ⟨fun t₁ e₁ => Kept.trans (a := 1231881215569636099902773674304504534160087255976066773745665) (t := s) ?_ hw₀ h₀⟩; refine KeptR.keep (?_ : KeptR 1231881215569636099902773674304504534160087255976066773745665 s (execKeyErase tag s)) t₁ e₁; clear e₁ t₁
  clear h₀ hw₀
  unfold execKeyErase; try dsimp only
  repeat' first | (with_reducible first | assumption | exact Kept.refl _ _ | refine KeptR.next ?_ | exact KeptR.fault | exact KeptR.refused | refine KeptR.ite ?_ ?_ | refine Kept.ite ?_ ?_ | refine State.cmdEnd_kept ?_ ?_ | refine State.eraseKey_kept ?_ ?_ | refine State.onStarted_kept ?_ ?_ ?_) | (show Nat.testBit _ _ = true; rfl) | (show subMask _ _ = true; rfl) | (intro _; try dsimp only) | split | dsimp only

theorem execFabricStatus_kept {tag : BitVec 14} {s : State} (hw₀ : subMask 4718592 w₀ = true) (h₀ : Kept w₀ s₀ s) :
    KeptR w₀ s₀ (execFabricStatus tag s) := by
  refine ⟨fun t₁ e₁ => Kept.trans (a := 4718592) (t := s) ?_ hw₀ h₀⟩; refine KeptR.keep (?_ : KeptR 4718592 s (execFabricStatus tag s)) t₁ e₁; clear e₁ t₁
  clear h₀ hw₀
  unfold execFabricStatus; try dsimp only
  repeat' first | (with_reducible first | assumption | exact Kept.refl _ _ | refine KeptR.next ?_ | exact KeptR.fault | exact KeptR.refused | refine KeptR.ite ?_ ?_ | refine Kept.ite ?_ ?_ | refine State.onStarted_kept ?_ ?_ ?_ | refine State.replyPage_kept ?_ ?_) | (show Nat.testBit _ _ = true; rfl) | (show subMask _ _ = true; rfl) | (intro _; try dsimp only) | split | dsimp only

end Sys2Proof.Machine
end

