-- ==== Sys2Proof/Laws/KeptLink.lean ====
section
/-! SUPPORT. What the operations and meanings of Machine/Link.lean keep (the relation Kept). -/

set_option Elab.async false

namespace Sys2Proof.Machine
open Reg
set_option linter.unusedVariables false
set_option linter.unusedTactic false
set_option linter.unreachableTactic false
set_option maxHeartbeats 400000

variable {w₀ : Nat} {s₀ : State}

theorem execPerstNDeassert_kept {s : State} (hw₀ : subMask 131072 w₀ = true) (h₀ : Kept w₀ s₀ s) :
    KeptR w₀ s₀ (execPerstNDeassert s) := by
  refine ⟨fun t₁ e₁ => Kept.trans (a := 131072) (t := s) ?_ hw₀ h₀⟩; refine KeptR.keep (?_ : KeptR 131072 s (execPerstNDeassert s)) t₁ e₁; clear e₁ t₁
  clear h₀ hw₀
  unfold execPerstNDeassert; try dsimp only
  repeat' first | (with_reducible first | assumption | exact Kept.refl _ _ | refine KeptR.next ?_ | exact KeptR.fault | exact KeptR.refused | refine KeptR.ite ?_ ?_ | refine Kept.ite ?_ ?_ | refine State.updLink_kept ?_ ?_) | (show Nat.testBit _ _ = true; rfl) | (show subMask _ _ = true; rfl) | (intro _; try dsimp only) | split | dsimp only

theorem execLinkUp_kept {speed : Fin 4} {width : BitVec 5} {reversed : Bool} {s : State} (hw₀ : subMask 309485009821345068728975361 w₀ = true) (h₀ : Kept w₀ s₀ s) :
    KeptR w₀ s₀ (execLinkUp speed width reversed s) := by
  refine ⟨fun t₁ e₁ => Kept.trans (a := 309485009821345068728975361) (t := s) ?_ hw₀ h₀⟩; refine KeptR.keep (?_ : KeptR 309485009821345068728975361 s (execLinkUp speed width reversed s)) t₁ e₁; clear e₁ t₁
  clear h₀ hw₀
  unfold execLinkUp; try dsimp only
  repeat' first | (with_reducible first | assumption | exact Kept.refl _ _ | refine KeptR.next ?_ | exact KeptR.fault | exact KeptR.refused | refine KeptR.ite ?_ ?_ | refine Kept.ite ?_ ?_ | refine State.emit_kept ?_ ?_ | refine State.when_kept ?_ ?_ | refine State.wrs_kept ?_ ?_ ?_) | (show Nat.testBit _ _ = true; rfl) | (show subMask _ _ = true; rfl) | exact inFam_BQ_LINK_STAT | exact wrsOk_nil | apply wrsOk_cons | (intro _; try dsimp only) | split | dsimp only

theorem execBar2Access_kept {op : Bar2Op} {s : State} (hw₀ : subMask 44384713757731871763589207486774700033120374772764031638184406308126848246420176735497546956447210395008049491283872871409726390329 w₀ = true) (h₀ : Kept w₀ s₀ s) :
    KeptR w₀ s₀ (execBar2Access op s) := by
  refine ⟨fun t₁ e₁ => Kept.trans (a := 44384713757731871763589207486774700033120374772764031638184406308126848246420176735497546956447210395008049491283872871409726390329) (t := s) ?_ hw₀ h₀⟩; refine KeptR.keep (?_ : KeptR 44384713757731871763589207486774700033120374772764031638184406308126848246420176735497546956447210395008049491283872871409726390329 s (execBar2Access op s)) t₁ e₁; clear e₁ t₁
  clear h₀ hw₀
  unfold execBar2Access; try dsimp only
  repeat' first | (with_reducible first | assumption | exact Kept.refl _ _ | refine KeptR.next ?_ | exact KeptR.fault | exact KeptR.refused | refine KeptR.ite ?_ ?_ | refine Kept.ite ?_ ?_ | refine State.emit_kept ?_ ?_ | refine State.readAny_kept ?_ ?_ | apply State.setB_kept | refine State.writeAny_kept ?_ ?_ | refine State.readAny_keptp (by assumption) ?_ ?_ | refine State.writeAny_keptp (by assumption) ?_ ?_) | (show Nat.testBit _ _ = true; rfl) | (show subMask _ _ = true; rfl) | exact inFam_BQ_LINK_EVT | exact wrsOk_nil | apply wrsOk_cons | (intro _; try dsimp only) | split | dsimp only

theorem State.setDState_kept {s : State} {d : Nat} (hw₀ : subMask 131072 w₀ = true) (h₀ : Kept w₀ s₀ s) :
    Kept w₀ s₀ (State.setDState s d) := by
  refine Kept.trans (a := 131072) (t := s) ?_ hw₀ h₀
  clear h₀ hw₀
  unfold State.setDState; try dsimp only
  repeat' first | (with_reducible first | assumption | exact Kept.refl _ _ | refine Kept.ite ?_ ?_ | refine State.updLink_kept ?_ ?_) | (show Nat.testBit _ _ = true; rfl) | (show subMask _ _ = true; rfl) | (intro _; try dsimp only) | split | dsimp only

theorem execD3hotEntry_kept {s : State} (hw₀ : subMask 393216 w₀ = true) (h₀ : Kept w₀ s₀ s) :
    KeptR w₀ s₀ (execD3hotEntry s) := by
  refine ⟨fun t₁ e₁ => Kept.trans (a := 393216) (t := s) ?_ hw₀ h₀⟩; refine KeptR.keep (?_ : KeptR 393216 s (execD3hotEntry s)) t₁ e₁; clear e₁ t₁
  clear h₀ hw₀
  unfold execD3hotEntry; try dsimp only
  repeat' first | (with_reducible first | assumption | exact Kept.refl _ _ | refine KeptR.next ?_ | exact KeptR.fault | exact KeptR.refused | refine KeptR.ite ?_ ?_ | refine Kept.ite ?_ ?_ | refine State.setDState_kept ?_ ?_ | refine State.updBq_kept ?_ ?_ | refine State.updLink_kept ?_ ?_) | (show Nat.testBit _ _ = true; rfl) | (show subMask _ _ = true; rfl) | (intro _; try dsimp only) | split | dsimp only

theorem execD0Entry_kept {s : State} (hw₀ : subMask 1441792 w₀ = true) (h₀ : Kept w₀ s₀ s) :
    KeptR w₀ s₀ (execD0Entry s) := by
  refine ⟨fun t₁ e₁ => Kept.trans (a := 1441792) (t := s) ?_ hw₀ h₀⟩; refine KeptR.keep (?_ : KeptR 1441792 s (execD0Entry s)) t₁ e₁; clear e₁ t₁
  clear h₀ hw₀
  unfold execD0Entry; try dsimp only
  repeat' first | (with_reducible first | assumption | exact Kept.refl _ _ | refine KeptR.next ?_ | exact KeptR.fault | exact KeptR.refused | refine KeptR.ite ?_ ?_ | refine Kept.ite ?_ ?_ | refine State.setDState_kept ?_ ?_ | refine State.updBq_kept ?_ ?_ | refine State.updLink_kept ?_ ?_ | refine State.updSch_kept ?_ ?_) | (show Nat.testBit _ _ = true; rfl) | (show subMask _ _ = true; rfl) | (intro _; try dsimp only) | split | dsimp only

theorem State.discardUnopened_kept {s : State} {z : Nat} (hw₀ : subMask 29642774844752946028434172162224104410437116074403984394101141506025761192550977 w₀ = true) (h₀ : Kept w₀ s₀ s) :
    Kept w₀ s₀ (State.discardUnopened s z) := by
  refine Kept.trans (a := 29642774844752946028434172162224104410437116074403984394101141506025761192550977) (t := s) ?_ hw₀ h₀
  clear h₀ hw₀
  unfold State.discardUnopened; try dsimp only
  repeat' first | (with_reducible first | assumption | exact Kept.refl _ _ | refine Kept.ite ?_ ?_ | refine State.setZState_kept ?_ ?_ | refine State.unplace_kept ?_ ?_) | (show Nat.testBit _ _ = true; rfl) | (show subMask _ _ = true; rfl) | (intro _; try dsimp only) | split | dsimp only

theorem State.loseCommand_kept {s : State} {c : Cmd} (hw₀ : subMask 44384713757733132627787492110109492962403579368405794191650312596753290984513987926503043301156450137016563855074251205006105224093 w₀ = true) (h₀ : Kept w₀ s₀ s) :
    Kept w₀ s₀ (State.loseCommand s c) := by
  refine Kept.trans (a := 44384713757733132627787492110109492962403579368405794191650312596753290984513987926503043301156450137016563855074251205006105224093) (t := s) ?_ hw₀ h₀
  clear h₀ hw₀
  unfold State.loseCommand; try dsimp only
  repeat' first | (with_reducible first | assumption | exact Kept.refl _ _ | refine Kept.ite ?_ ?_ | refine State.dropWork_kept ?_ ?_ | refine State.forget_kept ?_ ?_ | refine State.updCmd_kept ?_ ?_) | (show Nat.testBit _ _ = true; rfl) | (show subMask _ _ = true; rfl) | (intro _; try dsimp only) | split | dsimp only

theorem State.resetAdminRing_kept {s : State} (hw₀ : subMask 944399509597634204794881 w₀ = true) (h₀ : Kept w₀ s₀ s) : Kept w₀ s₀ (State.resetAdminRing s) := by
  refine Kept.trans (a := 944399509597634204794881) (t := s) ?_ hw₀ h₀
  unfold State.resetAdminRing; dsimp only
  refine State.wr_kept inFam_BQ_CTRL rfl rfl (State.updRing_kept rfl (State.setRing_kept rfl ?_))
  simp only [List.foldl_cons, List.foldl_nil]
  exact (State.setFam_kept inFam_BQ_INDEX rfl rfl (State.setFam_kept inFam_BQ_STATE rfl rfl (State.setFam_kept inFam_BQ_DOORBELL rfl rfl (State.setFam_kept inFam_BQ_CFG rfl rfl (State.setFam_kept inFam_BQ_RES_HI rfl rfl (State.setFam_kept inFam_BQ_RES_LO rfl rfl (State.setFam_kept inFam_BQ_BASE_HI rfl rfl (State.setFam_kept inFam_BQ_BASE_LO rfl rfl (Kept.refl _ _)))))))))

theorem State.resetFunction_kept {s : State} (hw₀ : subMask 44384713757733132627787492110109492962403579368405823834425157349699319418686150150607453738272524541001036460762381479454487585757 w₀ = true) (h₀ : Kept w₀ s₀ s) :
    Kept w₀ s₀ (State.resetFunction s) := by
  refine Kept.trans (a := 44384713757733132627787492110109492962403579368405823834425157349699319418686150150607453738272524541001036460762381479454487585757) (t := s) ?_ hw₀ h₀
  clear h₀ hw₀
  unfold State.resetFunction; try dsimp only
  repeat' first | (with_reducible first | assumption | exact Kept.refl _ _ | refine Kept.ite ?_ ?_ | refine State.clearMarks_kept ?_ ?_ | apply State.clr_kept | refine State.deleteRing_kept ?_ ?_ | refine State.discardUnopened_kept ?_ ?_ | refine State.forEach_kept ?_ ?_ | refine State.lgtHostLost_kept ?_ ?_ | refine State.loseCommand_kept ?_ ?_ | refine State.resetAdminRing_kept ?_ ?_ | refine State.settleWb_kept ?_ ?_ | refine State.showTags_kept ?_ ?_ | refine State.updBq_kept ?_ ?_ | refine State.updLink_kept ?_ ?_ | refine State.updSch_kept ?_ ?_ | refine State.updSys_kept ?_ ?_ ?_ | apply State.wr_kept) | (show Nat.testBit _ _ = true; rfl) | (show subMask _ _ = true; rfl) | exact inFam_BQ_STATUS | exact inFam_SYS_MODE | exact wrsOk_nil | apply wrsOk_cons | exact SysU.holds_same rfl rfl | (intro _; try dsimp only) | split | dsimp only

theorem State.resetConfig_kept {s : State} (hw₀ : subMask 131072 w₀ = true) (h₀ : Kept w₀ s₀ s) :
    Kept w₀ s₀ (State.resetConfig s) := by
  refine Kept.trans (a := 131072) (t := s) ?_ hw₀ h₀
  clear h₀ hw₀
  unfold State.resetConfig; try dsimp only
  repeat' first | (with_reducible first | assumption | exact Kept.refl _ _ | refine Kept.ite ?_ ?_ | refine State.updLink_kept ?_ ?_) | (show Nat.testBit _ _ = true; rfl) | (show subMask _ _ = true; rfl) | (intro _; try dsimp only) | split | dsimp only

theorem execFlr_kept {s : State} (hw₀ : subMask 44384713757733132627787492110109492962403579368405823834425157349699319418686150150607453738272524541002893370821309549866836272093 w₀ = true) (h₀ : Kept w₀ s₀ s) :
    KeptR w₀ s₀ (execFlr s) := by
  refine ⟨fun t₁ e₁ => Kept.trans (a := 44384713757733132627787492110109492962403579368405823834425157349699319418686150150607453738272524541002893370821309549866836272093) (t := s) ?_ hw₀ h₀⟩; refine KeptR.keep (?_ : KeptR 44384713757733132627787492110109492962403579368405823834425157349699319418686150150607453738272524541002893370821309549866836272093 s (execFlr s)) t₁ e₁; clear e₁ t₁
  clear h₀ hw₀
  unfold execFlr; try dsimp only
  repeat' first | (with_reducible first | assumption | exact Kept.refl _ _ | refine KeptR.next ?_ | exact KeptR.fault | exact KeptR.refused | refine KeptR.ite ?_ ?_ | refine Kept.ite ?_ ?_ | refine State.emit_kept ?_ ?_ | apply State.inc_kept | refine State.resetConfig_kept ?_ ?_ | refine State.resetFunction_kept ?_ ?_ | apply State.setB_kept | refine State.updLink_kept ?_ ?_) | (show Nat.testBit _ _ = true; rfl) | (show subMask _ _ = true; rfl) | exact inFam_BQ_LINK_CNT | exact inFam_BQ_LINK_EVT | exact wrsOk_nil | apply wrsOk_cons | (intro _; try dsimp only) | split | dsimp only

theorem execFlrComplete_kept {s : State} (hw₀ : subMask 44384713757733132627787492110109492962403579368405823834425157349699319418686150150607453738272524541001036460762381479454487585757 w₀ = true) (h₀ : Kept w₀ s₀ s) :
    KeptR w₀ s₀ (execFlrComplete s) := by
  refine ⟨fun t₁ e₁ => Kept.trans (a := 44384713757733132627787492110109492962403579368405823834425157349699319418686150150607453738272524541001036460762381479454487585757) (t := s) ?_ hw₀ h₀⟩; refine KeptR.keep (?_ : KeptR 44384713757733132627787492110109492962403579368405823834425157349699319418686150150607453738272524541001036460762381479454487585757 s (execFlrComplete s)) t₁ e₁; clear e₁ t₁
  clear h₀ hw₀
  unfold execFlrComplete; try dsimp only
  repeat' first | (with_reducible first | assumption | exact Kept.refl _ _ | refine KeptR.next ?_ | exact KeptR.fault | exact KeptR.refused | refine KeptR.ite ?_ ?_ | refine Kept.ite ?_ ?_ | refine State.emit_kept ?_ ?_ | refine State.resetFunction_kept ?_ ?_ | refine State.updLink_kept ?_ ?_) | (show Nat.testBit _ _ = true; rfl) | (show subMask _ _ = true; rfl) | (intro _; try dsimp only) | split | dsimp only

theorem State.dropLink_kept {s : State} (hw₀ : subMask 309485009821345068724781057 w₀ = true) (h₀ : Kept w₀ s₀ s) :
    Kept w₀ s₀ (State.dropLink s) := by
  refine Kept.trans (a := 309485009821345068724781057) (t := s) ?_ hw₀ h₀
  clear h₀ hw₀
  unfold State.dropLink; try dsimp only
  repeat' first | (with_reducible first | assumption | exact Kept.refl _ _ | refine Kept.ite ?_ ?_ | refine State.wrs_kept ?_ ?_ ?_) | (show Nat.testBit _ _ = true; rfl) | (show subMask _ _ = true; rfl) | exact inFam_BQ_LINK_STAT | exact wrsOk_nil | apply wrsOk_cons | (intro _; try dsimp only) | split | dsimp only

theorem State.linkReset_kept {s : State} {evt : Fld} {i_ : Nat} (hf_ : inFam i_ evt.addr) (hi_ : w₀.testBit (32 + i_) = true) (hw₀ : subMask 44384713757733132627787492110109492962403579368405823834425157349699319418686150150607453738272524541002583885811488204798111491037 w₀ = true) (h₀ : Kept w₀ s₀ s) :
    Kept w₀ s₀ (State.linkReset s evt) := by
  unfold State.linkReset; try dsimp only
  repeat' first | (with_reducible first | assumption | exact Kept.refl _ _ | refine Kept.ite ?_ ?_ | refine State.dropLink_kept ?_ ?_ | apply State.inc_kept | refine State.resetConfig_kept ?_ ?_ | refine State.resetFunction_kept ?_ ?_ | apply State.setB_kept | refine State.updLink_kept ?_ ?_) | exact hi_ | exact testBit_sub hw₀ rfl | exact subMask_trans rfl hw₀ | exact hf_ _ | exact hf_ | exact inFam_BQ_LINK_CNT | exact wrsOk_nil | apply wrsOk_cons | (intro _; try dsimp only) | split | dsimp only

theorem execHotReset_kept {s : State} (hw₀ : subMask 44384713757733132627787492110109492962403579368405823834425157349699319418686150150607453738272524541003202855831130894935561053149 w₀ = true) (h₀ : Kept w₀ s₀ s) :
    KeptR w₀ s₀ (execHotReset s) := by
  refine ⟨fun t₁ e₁ => Kept.trans (a := 44384713757733132627787492110109492962403579368405823834425157349699319418686150150607453738272524541003202855831130894935561053149) (t := s) ?_ hw₀ h₀⟩; refine KeptR.keep (?_ : KeptR 44384713757733132627787492110109492962403579368405823834425157349699319418686150150607453738272524541003202855831130894935561053149 s (execHotReset s)) t₁ e₁; clear e₁ t₁
  clear h₀ hw₀
  unfold execHotReset; try dsimp only
  repeat' first | (with_reducible first | assumption | exact Kept.refl _ _ | refine KeptR.next ?_ | exact KeptR.fault | exact KeptR.refused | refine KeptR.ite ?_ ?_ | refine Kept.ite ?_ ?_ | apply State.linkReset_kept) | (show Nat.testBit _ _ = true; rfl) | (show subMask _ _ = true; rfl) | exact inFam_BQ_LINK_EVT | exact wrsOk_nil | apply wrsOk_cons | (intro _; try dsimp only) | split | dsimp only

theorem execLinkDown_kept {s : State} (hw₀ : subMask 44384713757733132627787492110109492962403579368405823834425157349699319418686150150607453738272524541003202855831130894935561053149 w₀ = true) (h₀ : Kept w₀ s₀ s) :
    KeptR w₀ s₀ (execLinkDown s) := by
  refine ⟨fun t₁ e₁ => Kept.trans (a := 44384713757733132627787492110109492962403579368405823834425157349699319418686150150607453738272524541003202855831130894935561053149) (t := s) ?_ hw₀ h₀⟩; refine KeptR.keep (?_ : KeptR 44384713757733132627787492110109492962403579368405823834425157349699319418686150150607453738272524541003202855831130894935561053149 s (execLinkDown s)) t₁ e₁; clear e₁ t₁
  clear h₀ hw₀
  unfold execLinkDown; try dsimp only
  repeat' first | (with_reducible first | assumption | exact Kept.refl _ _ | refine KeptR.next ?_ | exact KeptR.fault | exact KeptR.refused | refine KeptR.ite ?_ ?_ | refine Kept.ite ?_ ?_ | apply State.linkReset_kept) | (show Nat.testBit _ _ = true; rfl) | (show subMask _ _ = true; rfl) | exact inFam_BQ_LINK_EVT | exact wrsOk_nil | apply wrsOk_cons | (intro _; try dsimp only) | split | dsimp only

theorem execLaneFailed_kept {lane : Fin 16} {errs : Option Nat} {speed : Fin 4} {s : State} (hw₀ : subMask 44384713757733132627787492110109492962403579368405823834425157349699319418686150150607453738272524541003202855831130894935561053149 w₀ = true) (h₀ : Kept w₀ s₀ s) :
    KeptR w₀ s₀ (execLaneFailed lane errs speed s) := by
  refine ⟨fun t₁ e₁ => Kept.trans (a := 44384713757733132627787492110109492962403579368405823834425157349699319418686150150607453738272524541003202855831130894935561053149) (t := s) ?_ hw₀ h₀⟩; refine KeptR.keep (?_ : KeptR 44384713757733132627787492110109492962403579368405823834425157349699319418686150150607453738272524541003202855831130894935561053149 s (execLaneFailed lane errs speed s)) t₁ e₁; clear e₁ t₁
  clear h₀ hw₀
  unfold execLaneFailed; try dsimp only
  repeat' first | (with_reducible first | assumption | exact Kept.refl _ _ | refine KeptR.next ?_ | exact KeptR.fault | exact KeptR.refused | refine KeptR.ite ?_ ?_ | refine Kept.ite ?_ ?_ | apply State.inc_kept | apply State.linkReset_kept | refine State.markFenced_kept ?_ ?_ | refine State.raiseSrc_kept ?_ ?_ | apply State.setB_kept | apply State.wr_kept | refine State.wrs_kept ?_ ?_ ?_) | (show Nat.testBit _ _ = true; rfl) | (show subMask _ _ = true; rfl) | exact inFam_BQ_LINK_CNT | exact inFam_BQ_LINK_EVT | exact inFam_BQ_LINK_STAT | exact wrsOk_nil | apply wrsOk_cons | (intro _; try dsimp only) | split | dsimp only

theorem execDoeRequest_kept {data : List (BitVec 32)} {s : State} (hw₀ : subMask 618970019642690137453756417 w₀ = true) (h₀ : Kept w₀ s₀ s) :
    KeptR w₀ s₀ (execDoeRequest data s) := by
  refine ⟨fun t₁ e₁ => Kept.trans (a := 618970019642690137453756417) (t := s) ?_ hw₀ h₀⟩; refine KeptR.keep (?_ : KeptR 618970019642690137453756417 s (execDoeRequest data s)) t₁ e₁; clear e₁ t₁
  clear h₀ hw₀
  unfold execDoeRequest; try dsimp only
  repeat' first | (with_reducible first | assumption | exact Kept.refl _ _ | refine KeptR.next ?_ | exact KeptR.fault | exact KeptR.refused | refine KeptR.ite ?_ ?_ | refine Kept.ite ?_ ?_ | refine State.emit_kept ?_ ?_ | apply State.setB_kept) | (show Nat.testBit _ _ = true; rfl) | (show subMask _ _ = true; rfl) | exact inFam_BQ_LINK_EVT | exact wrsOk_nil | apply wrsOk_cons | (intro _; try dsimp only) | split | dsimp only

end Sys2Proof.Machine
end

