-- ==== Sys2Proof/Laws/KeptQuayRoute.lean ====
section
/-! SUPPORT. What the operations and meanings of Machine/QuayRoute.lean keep (the relation Kept). -/

set_option Elab.async false

namespace Sys2Proof.Machine
open Reg
set_option linter.unusedVariables false
set_option linter.unusedTactic false
set_option linter.unreachableTactic false
set_option maxHeartbeats 400000

variable {w₀ : Nat} {s₀ : State}

theorem State.stopQuay_kept {s : State} (hw₀ : subMask 4194304 w₀ = true) (h₀ : Kept w₀ s₀ s) :
    Kept w₀ s₀ (State.stopQuay s) := by
  refine Kept.trans (a := 4194304) (t := s) ?_ hw₀ h₀
  clear h₀ hw₀
  unfold State.stopQuay; try dsimp only
  repeat' first | (with_reducible first | assumption | exact Kept.refl _ _ | refine Kept.ite ?_ ?_ | refine State.emit_kept ?_ ?_ | refine State.forEach_kept ?_ ?_) | (show Nat.testBit _ _ = true; rfl) | (show subMask _ _ = true; rfl) | (intro _; try dsimp only) | split | dsimp only

theorem State.startTraining_kept {s : State} {p : Nat} (hw₀ : subMask 625275977237705358593295314089193090168501721821351082377109148260735330846513351987775221329960819495222372204545 w₀ = true) (h₀ : Kept w₀ s₀ s) :
    Kept w₀ s₀ (State.startTraining s p) := by
  refine Kept.trans (a := 625275977237705358593295314089193090168501721821351082377109148260735330846513351987775221329960819495222372204545) (t := s) ?_ hw₀ h₀
  clear h₀ hw₀
  unfold State.startTraining; try dsimp only
  repeat' first | (with_reducible first | assumption | exact Kept.refl _ _ | refine Kept.ite ?_ ?_ | refine State.emit_kept ?_ ?_ | apply State.inc_kept | apply State.wr_kept) | (show Nat.testBit _ _ = true; rfl) | (show subMask _ _ = true; rfl) | exact inFam_QFB_PCNT | exact inFam_QFB_PSTATUS | exact wrsOk_nil | apply wrsOk_cons | (intro _; try dsimp only) | split | dsimp only

theorem State.floodLsa_kept {s : State} {l : Lsa} {but : Option Nat} (hw₀ : subMask 6291456 w₀ = true) (h₀ : Kept w₀ s₀ s) :
    Kept w₀ s₀ (State.floodLsa s l but) := by
  refine Kept.trans (a := 6291456) (t := s) ?_ hw₀ h₀
  clear h₀ hw₀
  unfold State.floodLsa; try dsimp only
  repeat' first | (with_reducible first | assumption | exact Kept.refl _ _ | refine Kept.ite ?_ ?_ | refine State.forEach_kept ?_ ?_ | refine State.qCtl_kept ?_ ?_) | (show Nat.testBit _ _ = true; rfl) | (show subMask _ _ = true; rfl) | (intro _; try dsimp only) | split | dsimp only

theorem State.failXout_kept {s : State} {x : XOut} {refused : Option Nat} (hw₀ : subMask 1260864198284623334792929283204595641762551656654894293374345388935863096687911510847204925924485139125593575201996929 w₀ = true) (h₀ : Kept w₀ s₀ s) :
    Kept w₀ s₀ (State.failXout s x refused) := by
  refine Kept.trans (a := 1260864198284623334792929283204595641762551656654894293374345388935863096687911510847204925924485139125593575201996929) (t := s) ?_ hw₀ h₀
  clear h₀ hw₀
  unfold State.failXout; try dsimp only
  repeat' first | (with_reducible first | assumption | exact Kept.refl _ _ | refine Kept.ite ?_ ?_ | refine State.cmdEnd_kept ?_ ?_ | refine State.dropXout_kept ?_ ?_ | refine State.settleLgt_kept ?_ ?_ | refine State.updCmd_kept ?_ ?_ | refine State.updRecs_kept ?_ ?_) | (show Nat.testBit _ _ = true; rfl) | (show subMask _ _ = true; rfl) | (intro _; try dsimp only) | split | dsimp only

theorem State.abandonXout_kept {s : State} {x : XOut} (hw₀ : subMask 1260864198284623334792929283204595641762551656654894293374345388935863096687911510847204925924485139125593575201996929 w₀ = true) (h₀ : Kept w₀ s₀ s) :
    Kept w₀ s₀ (State.abandonXout s x) := by
  refine Kept.trans (a := 1260864198284623334792929283204595641762551656654894293374345388935863096687911510847204925924485139125593575201996929) (t := s) ?_ hw₀ h₀
  clear h₀ hw₀
  unfold State.abandonXout; try dsimp only
  repeat' first | (with_reducible first | assumption | exact Kept.refl _ _ | refine Kept.ite ?_ ?_ | refine State.failXout_kept ?_ ?_ | refine State.updXout_kept ?_ ?_) | (show Nat.testBit _ _ = true; rfl) | (show subMask _ _ = true; rfl) | (intro _; try dsimp only) | split | dsimp only

theorem State.dropXin_kept {s : State} {x : XIn} (hw₀ : subMask 44384713757733132627787492110109492962403579368405794191650312596753290984513987926503043301156450137016563855074251205006105224093 w₀ = true) (h₀ : Kept w₀ s₀ s) :
    Kept w₀ s₀ (State.dropXin s x) := by
  refine Kept.trans (a := 44384713757733132627787492110109492962403579368405794191650312596753290984513987926503043301156450137016563855074251205006105224093) (t := s) ?_ hw₀ h₀
  clear h₀ hw₀
  unfold State.dropXin; try dsimp only
  repeat' first | (with_reducible first | assumption | exact Kept.refl _ _ | refine Kept.ite ?_ ?_ | refine State.dropWork_kept ?_ ?_ | refine State.forget_kept ?_ ?_ | refine State.releasePages_kept ?_ ?_ | refine State.showXfer_kept ?_ ?_ | refine State.updCmd_kept ?_ ?_ | refine State.updQfb_kept ?_ ?_) | (show Nat.testBit _ _ = true; rfl) | (show subMask _ _ = true; rfl) | (intro _; try dsimp only) | split | dsimp only

theorem State.discardEnt_kept {s : State} {p : Nat} {e : QEnt} (hw₀ : subMask 615656346818663737691860001564743965704370926101022604186692084441339402679643915803347910232576806887603564445697 w₀ = true) (h₀ : Kept w₀ s₀ s) :
    Kept w₀ s₀ (State.discardEnt s p e) := by
  refine Kept.trans (a := 615656346818663737691860001564743965704370926101022604186692084441339402679643915803347910232576806887603564445697) (t := s) ?_ hw₀ h₀
  clear h₀ hw₀
  unfold State.discardEnt; try dsimp only
  repeat' first | (with_reducible first | assumption | exact Kept.refl _ _ | refine Kept.ite ?_ ?_ | refine State.freeSlot_kept ?_ ?_ | apply State.inc_kept) | (show Nat.testBit _ _ = true; rfl) | (show subMask _ _ = true; rfl) | exact inFam_QFB_PCNT | exact wrsOk_nil | apply wrsOk_cons | (intro _; try dsimp only) | split | dsimp only

theorem State.requeue_kept {s : State} (hw₀ : subMask 615656346818663737691860001564743965704370926101022604186692084441339402679643915803347910232576806887603564445697 w₀ = true) (h₀ : Kept w₀ s₀ s) :
    Kept w₀ s₀ (State.requeue s) := by
  refine Kept.trans (a := 615656346818663737691860001564743965704370926101022604186692084441339402679643915803347910232576806887603564445697) (t := s) ?_ hw₀ h₀
  clear h₀ hw₀
  unfold State.requeue; try dsimp only
  repeat' first | (with_reducible first | assumption | exact Kept.refl _ _ | refine Kept.ite ?_ ?_ | refine State.discardEnt_kept ?_ ?_ | refine State.forEach_kept ?_ ?_ | refine State.updQport_kept ?_ ?_) | (show Nat.testBit _ _ = true; rfl) | (show subMask _ _ = true; rfl) | (intro _; try dsimp only) | split | dsimp only

theorem State.rebuildRoutes_kept {s : State} (hw₀ : subMask 44384713757733330253474820901169292049464081651218785294717591025009234912673093596451303466853423011695748512229262125749619106717 w₀ = true) (h₀ : Kept w₀ s₀ s) :
    Kept w₀ s₀ (State.rebuildRoutes s) := by
  refine Kept.trans (a := 44384713757733330253474820901169292049464081651218785294717591025009234912673093596451303466853423011695748512229262125749619106717) (t := s) ?_ hw₀ h₀
  clear h₀ hw₀
  unfold State.rebuildRoutes; try dsimp only
  repeat' first | (with_reducible first | assumption | exact Kept.refl _ _ | refine Kept.ite ?_ ?_ | refine State.abandonXout_kept ?_ ?_ | refine State.dropXin_kept ?_ ?_ | refine State.failXout_kept ?_ ?_ | refine State.forEach_kept ?_ ?_ | refine State.logFree_kept ?_ ?_ | refine State.qPumpAll_kept ?_ ?_ | apply State.qfbBit_kept | refine State.requeue_kept ?_ ?_ | refine State.updQfb_kept ?_ ?_ | refine State.when_kept ?_ ?_ | apply State.wr_kept) | (show Nat.testBit _ _ = true; rfl) | (show subMask _ _ = true; rfl) | exact inFam_QFB_REACH | exact inFam_QFB_STATUS | exact wrsOk_nil | apply wrsOk_cons | (intro _; try dsimp only) | split | dsimp only

theorem State.storeLsa_kept {s : State} {l : Lsa} (hw₀ : subMask 44384713757733330253474820901169292049464081651218785294717591025009234912673093596451303466853423011695748512229262125749619106717 w₀ = true) (h₀ : Kept w₀ s₀ s) :
    Kept w₀ s₀ (State.storeLsa s l) := by
  refine Kept.trans (a := 44384713757733330253474820901169292049464081651218785294717591025009234912673093596451303466853423011695748512229262125749619106717) (t := s) ?_ hw₀ h₀
  clear h₀ hw₀
  unfold State.storeLsa; try dsimp only
  repeat' first | (with_reducible first | assumption | exact Kept.refl _ _ | refine Kept.ite ?_ ?_ | refine State.rebuildRoutes_kept ?_ ?_ | refine State.updQfb_kept ?_ ?_) | (show Nat.testBit _ _ = true; rfl) | (show subMask _ _ = true; rfl) | (intro _; try dsimp only) | split | dsimp only

theorem State.originateLsa_kept {s : State} (hw₀ : subMask 44384713757733330253474820901169292049464081651218785294717591025009234912673093596451303466853423011695748512229262125749619106717 w₀ = true) (h₀ : Kept w₀ s₀ s) :
    Kept w₀ s₀ (State.originateLsa s) := by
  refine Kept.trans (a := 44384713757733330253474820901169292049464081651218785294717591025009234912673093596451303466853423011695748512229262125749619106717) (t := s) ?_ hw₀ h₀
  clear h₀ hw₀
  unfold State.originateLsa; try dsimp only
  repeat' first | (with_reducible first | assumption | exact Kept.refl _ _ | refine Kept.ite ?_ ?_ | refine State.floodLsa_kept ?_ ?_ | refine State.storeLsa_kept ?_ ?_ | refine State.updQfb_kept ?_ ?_) | (show Nat.testBit _ _ = true; rfl) | (show subMask _ _ = true; rfl) | (intro _; try dsimp only) | split | dsimp only

theorem State.leaveUp_kept {s : State} {p st : Nat} (hw₀ : subMask 44384713757733330532444103053376298191088144860243394754510666914535102434767944358933220306067072360087770336365627746694983295901 w₀ = true) (h₀ : Kept w₀ s₀ s) :
    Kept w₀ s₀ (State.leaveUp s p st) := by
  refine Kept.trans (a := 44384713757733330532444103053376298191088144860243394754510666914535102434767944358933220306067072360087770336365627746694983295901) (t := s) ?_ hw₀ h₀
  clear h₀ hw₀
  unfold State.leaveUp; try dsimp only
  repeat' first | (with_reducible first | assumption | exact Kept.refl _ _ | refine Kept.ite ?_ ?_ | refine State.originateLsa_kept ?_ ?_ | refine State.updQport_kept ?_ ?_ | refine State.wrs_kept ?_ ?_ ?_) | (show Nat.testBit _ _ = true; rfl) | (show subMask _ _ = true; rfl) | exact inFam_QFB_PEER | exact inFam_QFB_PEER_SN_HI | exact inFam_QFB_PEER_SN_LO | exact inFam_QFB_PSTATUS | exact wrsOk_nil | apply wrsOk_cons | (intro _; try dsimp only) | split | dsimp only

theorem State.fenceQuay_kept {s : State} {p : QPort} (hw₀ : subMask 44384713757733330532444103053376298191088144860243394754510666914535102434767944358933220306067072360087770336365627746694983295901 w₀ = true) (h₀ : Kept w₀ s₀ s) :
    Kept w₀ s₀ (State.fenceQuay s p) := by
  refine Kept.trans (a := 44384713757733330532444103053376298191088144860243394754510666914535102434767944358933220306067072360087770336365627746694983295901) (t := s) ?_ hw₀ h₀
  clear h₀ hw₀
  unfold State.fenceQuay; try dsimp only
  repeat' first | (with_reducible first | assumption | exact Kept.refl _ _ | refine Kept.ite ?_ ?_ | refine State.emit_kept ?_ ?_ | refine State.leaveUp_kept ?_ ?_ | refine State.markFenced_kept ?_ ?_ | apply State.wr_kept) | (show Nat.testBit _ _ = true; rfl) | (show subMask _ _ = true; rfl) | exact inFam_QFB_PSTATUS | exact wrsOk_nil | apply wrsOk_cons | (intro _; try dsimp only) | split | dsimp only

theorem State.loseLink_kept {s : State} {p st : Nat} (hw₀ : subMask 44384713757733330532444103053376298191088144860243394754510666914535102434767944358933220306067072360087770336365627746694983295901 w₀ = true) (h₀ : Kept w₀ s₀ s) :
    Kept w₀ s₀ (State.loseLink s p st) := by
  refine Kept.trans (a := 44384713757733330532444103053376298191088144860243394754510666914535102434767944358933220306067072360087770336365627746694983295901) (t := s) ?_ hw₀ h₀
  clear h₀ hw₀
  unfold State.loseLink; try dsimp only
  repeat' first | (with_reducible first | assumption | exact Kept.refl _ _ | refine Kept.ite ?_ ?_ | apply State.inc_kept | refine State.leaveUp_kept ?_ ?_ | apply State.qportBit_kept) | (show Nat.testBit _ _ = true; rfl) | (show subMask _ _ = true; rfl) | exact inFam_QFB_PCNT | exact inFam_QFB_PSTATUS | exact wrsOk_nil | apply wrsOk_cons | (intro _; try dsimp only) | split | dsimp only

theorem State.checkStatic_kept {s : State} (hw₀ : subMask 44384713757733349954477919098408898188984131723025687834587226257732568886819795719312189215458728718828875954687082529063614260125 w₀ = true) (h₀ : Kept w₀ s₀ s) :
    Kept w₀ s₀ (State.checkStatic s) := by
  refine Kept.trans (a := 44384713757733349954477919098408898188984131723025687834587226257732568886819795719312189215458728718828875954687082529063614260125) (t := s) ?_ hw₀ h₀
  clear h₀ hw₀
  unfold State.checkStatic; try dsimp only
  repeat' first | (with_reducible first | assumption | exact Kept.refl _ _ | refine Kept.ite ?_ ?_ | refine State.originateLsa_kept ?_ ?_ | apply State.qfbBit_kept | refine State.wrs_kept ?_ ?_ ?_) | (show Nat.testBit _ _ = true; rfl) | (show subMask _ _ = true; rfl) | exact inFam_QFB_ADDR | exact inFam_QFB_STATUS | exact wrsOk_nil | apply wrsOk_cons | (intro _; try dsimp only) | split | dsimp only

theorem State.renameXfer_kept {s : State} {w : XWork} {old : Nat} {new : Option Nat} (hw₀ : subMask 557184 w₀ = true) (h₀ : Kept w₀ s₀ s) :
    Kept w₀ s₀ (State.renameXfer s w old new) := by
  refine Kept.trans (a := 557184) (t := s) ?_ hw₀ h₀
  clear h₀ hw₀
  unfold State.renameXfer; try dsimp only
  repeat' first | (with_reducible first | assumption | exact Kept.refl _ _ | refine Kept.ite ?_ ?_ | refine State.updCmd_kept ?_ ?_ | refine State.updRecs_kept ?_ ?_) | (show Nat.testBit _ _ = true; rfl) | (show subMask _ _ = true; rfl) | (intro _; try dsimp only) | split | dsimp only

theorem State.resendXout_kept {s : State} {x : XOut} (hw₀ : subMask 1260864198284623334792929283204595641762551656654894293374345388935863096687911510847204925924485139125593575201996929 w₀ = true) (h₀ : Kept w₀ s₀ s) :
    Kept w₀ s₀ (State.resendXout s x) := by
  refine Kept.trans (a := 1260864198284623334792929283204595641762551656654894293374345388935863096687911510847204925924485139125593575201996929) (t := s) ?_ hw₀ h₀
  clear h₀ hw₀
  unfold State.resendXout; try dsimp only
  repeat' first | (with_reducible first | assumption | exact Kept.refl _ _ | refine Kept.ite ?_ ?_ | refine State.qCommit_kept ?_ ?_ | refine State.qSend_kept ?_ ?_ | refine State.qSendData_kept ?_ ?_ | refine State.renameXfer_kept ?_ ?_ | refine State.settleLgt_kept ?_ ?_ | refine State.updQfb_kept ?_ ?_ | refine State.updXout_kept ?_ ?_) | (show Nat.testBit _ _ = true; rfl) | (show subMask _ _ = true; rfl) | (intro _; try dsimp only) | split | dsimp only

theorem State.quayEngineFault_kept {s : State} (hw₀ : subMask 44384713757733172029793688504588705241443679512019599271389583062199958932807392172224814798367061551282818739989892011634095530909 w₀ = true) (h₀ : Kept w₀ s₀ s) :
    Kept w₀ s₀ (State.quayEngineFault s) := by
  refine Kept.trans (a := 44384713757733172029793688504588705241443679512019599271389583062199958932807392172224814798367061551282818739989892011634095530909) (t := s) ?_ hw₀ h₀
  clear h₀ hw₀
  unfold State.quayEngineFault; try dsimp only
  repeat' first | (with_reducible first | assumption | exact Kept.refl _ _ | refine Kept.ite ?_ ?_ | refine State.abandonXout_kept ?_ ?_ | refine State.dropXin_kept ?_ ?_ | refine State.forEach_kept ?_ ?_ | apply State.qfbBit_kept) | (show Nat.testBit _ _ = true; rfl) | (show subMask _ _ = true; rfl) | exact inFam_QFB_STATUS | exact wrsOk_nil | apply wrsOk_cons | (intro _; try dsimp only) | split | dsimp only

end Sys2Proof.Machine
end

