-- ==== Sys2Proof/Laws/KeptWatch.lean ====
section
/-! SUPPORT. What the operations and meanings of Machine/Watch.lean keep (the relation Kept). -/

set_option Elab.async false

namespace Sys2Proof.Machine
open Reg
set_option linter.unusedVariables false
set_option linter.unusedTactic false
set_option linter.unreachableTactic false
set_option maxHeartbeats 400000

variable {w₀ : Nat} {s₀ : State}

theorem execFaultNTimerExpiry_kept {s : State} (hw₀ : subMask 80695308690215893426747474125094121072803306025913234775958104891895238188026287332176417290004307232371974124148359169 w₀ = true) (h₀ : Kept w₀ s₀ s) :
    KeptR w₀ s₀ (execFaultNTimerExpiry s) := by
  refine ⟨fun t₁ e₁ => Kept.trans (a := 80695308690215893426747474125094121072803306025913234775958104891895238188026287332176417290004307232371974124148359169) (t := s) ?_ hw₀ h₀⟩; refine KeptR.keep (?_ : KeptR 80695308690215893426747474125094121072803306025913234775958104891895238188026287332176417290004307232371974124148359169 s (execFaultNTimerExpiry s)) t₁ e₁; clear e₁ t₁
  clear h₀ hw₀
  unfold execFaultNTimerExpiry; try dsimp only
  repeat' first | (with_reducible first | assumption | exact Kept.refl _ _ | refine KeptR.next ?_ | exact KeptR.fault | exact KeptR.refused | refine KeptR.ite ?_ ?_ | refine Kept.ite ?_ ?_ | apply State.clr_kept | refine State.faultNLevel_kept ?_ ?_) | (show Nat.testBit _ _ = true; rfl) | (show subMask _ _ = true; rfl) | exact inFam_WCH_FN_CTRL | exact wrsOk_nil | apply wrsOk_cons | (intro _; try dsimp only) | split | dsimp only

theorem execWchFnHold_kept {w : Initiator} {v : Bool} {s : State} (hw₀ : subMask 80695308690215893426747474125094121072803306025913234775958104891895238188026287332176417290004307232371974124148359169 w₀ = true) (h₀ : Kept w₀ s₀ s) :
    KeptR w₀ s₀ (execWchFnHold w v s) := by
  refine ⟨fun t₁ e₁ => Kept.trans (a := 80695308690215893426747474125094121072803306025913234775958104891895238188026287332176417290004307232371974124148359169) (t := s) ?_ hw₀ h₀⟩; refine KeptR.keep (?_ : KeptR 80695308690215893426747474125094121072803306025913234775958104891895238188026287332176417290004307232371974124148359169 s (execWchFnHold w v s)) t₁ e₁; clear e₁ t₁
  clear h₀ hw₀
  unfold execWchFnHold; try dsimp only
  repeat' first | (with_reducible first | assumption | exact Kept.refl _ _ | refine KeptR.next ?_ | exact KeptR.fault | exact KeptR.refused | refine KeptR.ite ?_ ?_ | refine Kept.ite ?_ ?_ | refine State.faultNLevel_kept ?_ ?_ | apply State.wr_kept) | (show Nat.testBit _ _ = true; rfl) | (show subMask _ _ = true; rfl) | exact inFam_WCH_FN_CTRL | exact wrsOk_nil | apply wrsOk_cons | (intro _; try dsimp only) | split | dsimp only

theorem execWchFnForce_kept {w : Initiator} {v : Bool} {s : State} (hw₀ : subMask 80695308690215893426747474125094121072803306025913234775958104891895238188026287332176417290004307232371974124148359169 w₀ = true) (h₀ : Kept w₀ s₀ s) :
    KeptR w₀ s₀ (execWchFnForce w v s) := by
  refine ⟨fun t₁ e₁ => Kept.trans (a := 80695308690215893426747474125094121072803306025913234775958104891895238188026287332176417290004307232371974124148359169) (t := s) ?_ hw₀ h₀⟩; refine KeptR.keep (?_ : KeptR 80695308690215893426747474125094121072803306025913234775958104891895238188026287332176417290004307232371974124148359169 s (execWchFnForce w v s)) t₁ e₁; clear e₁ t₁
  clear h₀ hw₀
  unfold execWchFnForce; try dsimp only
  repeat' first | (with_reducible first | assumption | exact Kept.refl _ _ | refine KeptR.next ?_ | exact KeptR.fault | exact KeptR.refused | refine KeptR.ite ?_ ?_ | refine Kept.ite ?_ ?_ | refine State.faultNLevel_kept ?_ ?_ | apply State.wr_kept) | (show Nat.testBit _ _ = true; rfl) | (show subMask _ _ = true; rfl) | exact inFam_WCH_FN_CTRL | exact wrsOk_nil | apply wrsOk_cons | (intro _; try dsimp only) | split | dsimp only

theorem execWatchLogSwap_kept {s : State} (hw₀ : subMask 8 w₀ = true) (h₀ : Kept w₀ s₀ s) :
    KeptR w₀ s₀ (execWatchLogSwap s) := by
  refine ⟨fun t₁ e₁ => Kept.trans (a := 8) (t := s) ?_ hw₀ h₀⟩; refine KeptR.keep (?_ : KeptR 8 s (execWatchLogSwap s)) t₁ e₁; clear e₁ t₁
  clear h₀ hw₀
  unfold execWatchLogSwap; try dsimp only
  repeat' first | (with_reducible first | assumption | exact Kept.refl _ _ | refine KeptR.next ?_ | exact KeptR.fault | exact KeptR.refused | refine KeptR.ite ?_ ?_ | refine Kept.ite ?_ ?_ | refine State.updWatch_kept ?_ ?_ ?_) | (show Nat.testBit _ _ = true; rfl) | (show subMask _ _ = true; rfl) | exact ⟨fun _ h => h⟩ | exact ⟨fun _ h => List.mem_append_left _ h⟩ | (intro _; try dsimp only) | split | dsimp only

theorem execWchWlogPop_kept {w : Initiator} {s : State} (hw₀ : subMask 44384713757731871763589207486774700033120374772764031638184406308126848246420176735466147485429607794684086568280366412638690869257 w₀ = true) (h₀ : Kept w₀ s₀ s) :
    KeptR w₀ s₀ (execWchWlogPop w s) := by
  refine ⟨fun t₁ e₁ => Kept.trans (a := 44384713757731871763589207486774700033120374772764031638184406308126848246420176735466147485429607794684086568280366412638690869257) (t := s) ?_ hw₀ h₀⟩; refine KeptR.keep (?_ : KeptR 44384713757731871763589207486774700033120374772764031638184406308126848246420176735466147485429607794684086568280366412638690869257 s (execWchWlogPop w s)) t₁ e₁; clear e₁ t₁
  clear h₀ hw₀
  unfold execWchWlogPop; try dsimp only
  repeat' first | (with_reducible first | assumption | exact Kept.refl _ _ | refine KeptR.next ?_ | exact KeptR.fault | exact KeptR.refused | refine KeptR.ite ?_ ?_ | refine Kept.ite ?_ ?_ | refine State.emit_kept ?_ ?_ | apply State.inc_kept | refine State.injDone_kept ?_ ?_ | apply State.raiseBit_kept | refine State.raiseSrc_kept ?_ ?_ | refine State.updWatch_kept ?_ ?_ ?_ | refine State.when_kept ?_ ?_) | (show Nat.testBit _ _ = true; rfl) | (show subMask _ _ = true; rfl) | exact inFam_WCH_STATUS | exact inFam_WCH_WLOG_CNT | exact wrsOk_nil | apply wrsOk_cons | exact ⟨fun _ h => h⟩ | exact ⟨fun _ h => List.mem_append_left _ h⟩ | (intro _; try dsimp only) | split | dsimp only

theorem State.writeSummary_kept {s : State} (hw₀ : subMask 8 w₀ = true) (h₀ : Kept w₀ s₀ s) :
    Kept w₀ s₀ (State.writeSummary s) := by
  refine Kept.trans (a := 8) (t := s) ?_ hw₀ h₀
  clear h₀ hw₀
  unfold State.writeSummary; try dsimp only
  repeat' first | (with_reducible first | assumption | exact Kept.refl _ _ | refine Kept.ite ?_ ?_ | refine State.updWatch_kept ?_ ?_ ?_) | (show Nat.testBit _ _ = true; rfl) | (show subMask _ _ = true; rfl) | exact ⟨fun _ h => h⟩ | exact ⟨fun _ h => List.mem_append_left _ h⟩ | (intro _; try dsimp only) | split | dsimp only

theorem State.anchorAsk_kept {s : State} {src : Nat} (hw₀ : subMask 8 w₀ = true) (h₀ : Kept w₀ s₀ s) :
    Kept w₀ s₀ (State.anchorAsk s src) := by
  refine Kept.trans (a := 8) (t := s) ?_ hw₀ h₀
  clear h₀ hw₀
  unfold State.anchorAsk; try dsimp only
  repeat' first | (with_reducible first | assumption | exact Kept.refl _ _ | refine Kept.ite ?_ ?_ | refine State.updWatch_kept ?_ ?_ ?_) | (show Nat.testBit _ _ = true; rfl) | (show subMask _ _ = true; rfl) | exact ⟨fun _ h => h⟩ | exact ⟨fun _ h => List.mem_append_left _ h⟩ | (intro _; try dsimp only) | split | dsimp only

theorem State.watchFail_kept {s : State} {i : Fin 2} (hw₀ : subMask 44384713799047869812979744921269406785168564762039324323451982513417397951070538687735606599503933447166291871254817164202650763273 w₀ = true) (h₀ : Kept w₀ s₀ s) :
    Kept w₀ s₀ (State.watchFail s i) := by
  refine Kept.trans (a := 44384713799047869812979744921269406785168564762039324323451982513417397951070538687735606599503933447166291871254817164202650763273) (t := s) ?_ hw₀ h₀
  clear h₀ hw₀
  unfold State.watchFail; try dsimp only
  repeat' first | (with_reducible first | assumption | exact Kept.refl _ _ | refine Kept.ite ?_ ?_ | refine State.anchorAsk_kept ?_ ?_ | apply State.clr_kept | refine State.markFenced_kept ?_ ?_ | apply State.raiseBit_kept | refine State.raiseSrc_kept ?_ ?_ | apply State.wr_kept) | (show Nat.testBit _ _ = true; rfl) | (show subMask _ _ = true; rfl) | exact inFam_WCH_INST | exact inFam_WCH_STATUS | exact wrsOk_nil | apply wrsOk_cons | (intro _; try dsimp only) | split | dsimp only

theorem execWatchSelfCheckFail_kept {i : Fin 2} {s : State} (hw₀ : subMask 44384713799047869812979744921269406785168564762039324323451982513417397951070538687735606599503933447166291871254817164202650763273 w₀ = true) (h₀ : Kept w₀ s₀ s) :
    KeptR w₀ s₀ (execWatchSelfCheckFail i s) := by
  refine ⟨fun t₁ e₁ => Kept.trans (a := 44384713799047869812979744921269406785168564762039324323451982513417397951070538687735606599503933447166291871254817164202650763273) (t := s) ?_ hw₀ h₀⟩; refine KeptR.keep (?_ : KeptR 44384713799047869812979744921269406785168564762039324323451982513417397951070538687735606599503933447166291871254817164202650763273 s (execWatchSelfCheckFail i s)) t₁ e₁; clear e₁ t₁
  clear h₀ hw₀
  unfold execWatchSelfCheckFail; try dsimp only
  repeat' first | (with_reducible first | assumption | exact Kept.refl _ _ | refine KeptR.next ?_ | exact KeptR.fault | exact KeptR.refused | refine KeptR.ite ?_ ?_ | refine Kept.ite ?_ ?_ | refine State.watchFail_kept ?_ ?_) | (show Nat.testBit _ _ = true; rfl) | (show subMask _ _ = true; rfl) | (intro _; try dsimp only) | split | dsimp only

theorem execWatchDisagree_kept {s : State} (hw₀ : subMask 44384713757731871763589207486774700033120374772764031638184406308126848246420176735466147485429607794684086568280366412638690869257 w₀ = true) (h₀ : Kept w₀ s₀ s) :
    KeptR w₀ s₀ (execWatchDisagree s) := by
  refine ⟨fun t₁ e₁ => Kept.trans (a := 44384713757731871763589207486774700033120374772764031638184406308126848246420176735466147485429607794684086568280366412638690869257) (t := s) ?_ hw₀ h₀⟩; refine KeptR.keep (?_ : KeptR 44384713757731871763589207486774700033120374772764031638184406308126848246420176735466147485429607794684086568280366412638690869257 s (execWatchDisagree s)) t₁ e₁; clear e₁ t₁
  clear h₀ hw₀
  unfold execWatchDisagree; try dsimp only
  repeat' first | (with_reducible first | assumption | exact Kept.refl _ _ | refine KeptR.next ?_ | exact KeptR.fault | exact KeptR.refused | refine KeptR.ite ?_ ?_ | refine Kept.ite ?_ ?_ | refine State.raise0_kept ?_ ?_) | (show Nat.testBit _ _ = true; rfl) | (show subMask _ _ = true; rfl) | (intro _; try dsimp only) | split | dsimp only

theorem execWatchKat_kept {s : State} (hw₀ : subMask 44384713799047869812979744921269406785168564762039324323451982513417397951070538687735606599503933447166291871254817164202650763273 w₀ = true) (h₀ : Kept w₀ s₀ s) :
    KeptR w₀ s₀ (execWatchKat s) := by
  refine ⟨fun t₁ e₁ => Kept.trans (a := 44384713799047869812979744921269406785168564762039324323451982513417397951070538687735606599503933447166291871254817164202650763273) (t := s) ?_ hw₀ h₀⟩; refine KeptR.keep (?_ : KeptR 44384713799047869812979744921269406785168564762039324323451982513417397951070538687735606599503933447166291871254817164202650763273 s (execWatchKat s)) t₁ e₁; clear e₁ t₁
  clear h₀ hw₀
  unfold execWatchKat; try dsimp only
  repeat' first | (with_reducible first | assumption | exact Kept.refl _ _ | refine KeptR.next ?_ | exact KeptR.fault | exact KeptR.refused | refine KeptR.ite ?_ ?_ | refine Kept.ite ?_ ?_ | refine State.updWatch_kept ?_ ?_ ?_ | refine State.watchFail_kept ?_ ?_) | (show Nat.testBit _ _ = true; rfl) | (show subMask _ _ = true; rfl) | exact ⟨fun _ h => h⟩ | exact ⟨fun _ h => List.mem_append_left _ h⟩ | (intro _; try dsimp only) | split | dsimp only

theorem State.anchorShort_kept {s : State} (hw₀ : subMask 44384376670550352718126160615174399688174346280573699728295486481947387666067270632010556233528416615154660929642446986261377334857 w₀ = true) (h₀ : Kept w₀ s₀ s) :
    Kept w₀ s₀ (State.anchorShort s) := by
  refine Kept.trans (a := 44384376670550352718126160615174399688174346280573699728295486481947387666067270632010556233528416615154660929642446986261377334857) (t := s) ?_ hw₀ h₀
  clear h₀ hw₀
  unfold State.anchorShort; try dsimp only
  repeat' first | (with_reducible first | assumption | exact Kept.refl _ _ | refine Kept.ite ?_ ?_ | refine State.enterShort_kept ?_ ?_ | refine State.updWatch_kept ?_ ?_ ?_ | apply State.wr_kept) | (show Nat.testBit _ _ = true; rfl) | (show subMask _ _ = true; rfl) | exact inFam_WCH_ANCHOR | exact wrsOk_nil | apply wrsOk_cons | exact ⟨fun _ h => h⟩ | exact ⟨fun _ h => List.mem_append_left _ h⟩ | (intro _; try dsimp only) | split | dsimp only

theorem execAnchorTakeover_kept {s : State} (hw₀ : subMask 44384376711947046076206913943095853914347630390921795719588975922013895475609527822468041634934918684926870539849269711949485588041 w₀ = true) (h₀ : Kept w₀ s₀ s) :
    KeptR w₀ s₀ (execAnchorTakeover s) := by
  refine ⟨fun t₁ e₁ => Kept.trans (a := 44384376711947046076206913943095853914347630390921795719588975922013895475609527822468041634934918684926870539849269711949485588041) (t := s) ?_ hw₀ h₀⟩; refine KeptR.keep (?_ : KeptR 44384376711947046076206913943095853914347630390921795719588975922013895475609527822468041634934918684926870539849269711949485588041 s (execAnchorTakeover s)) t₁ e₁; clear e₁ t₁
  clear h₀ hw₀
  unfold execAnchorTakeover; try dsimp only
  repeat' first | (with_reducible first | assumption | exact Kept.refl _ _ | refine KeptR.next ?_ | exact KeptR.fault | exact KeptR.refused | refine KeptR.ite ?_ ?_ | refine Kept.ite ?_ ?_ | refine State.anchorShort_kept ?_ ?_ | refine State.dropGates_kept ?_ ?_ | refine State.emit_kept ?_ ?_ | refine State.faultNLevel_kept ?_ ?_ | refine State.logEvent_kept ?_ ?_ | refine State.retractAll_kept ?_ ?_ | apply State.setB_kept | refine State.spGo_kept ?_ ?_ | refine State.stopQuay_kept ?_ ?_ | refine State.updWatch_kept ?_ ?_ ?_ | refine State.updWrp_kept ?_ ?_ | refine State.when_kept ?_ ?_ | apply State.wr_kept | refine State.writeSummary_kept ?_ ?_ | refine State.wrs_kept ?_ ?_ ?_) | (show Nat.testBit _ _ = true; rfl) | (show subMask _ _ = true; rfl) | exact inFam_WCH_ANCHOR | exact inFam_WCH_INST | exact wrsOk_nil | apply wrsOk_cons | exact ⟨fun _ h => h⟩ | exact ⟨fun _ h => List.mem_append_left _ h⟩ | (intro _; try dsimp only) | split | dsimp only

theorem State.halt_kept {s : State} (hw₀ : subMask 44384376588039399582530716168278969172408804953894184269966330153030456036402515042873351877823481270492714622891200966927491078665 w₀ = true) (h₀ : Kept w₀ s₀ s) :
    Kept w₀ s₀ (State.halt s) := by
  refine Kept.trans (a := 44384376588039399582530716168278969172408804953894184269966330153030456036402515042873351877823481270492714622891200966927491078665) (t := s) ?_ hw₀ h₀
  clear h₀ hw₀
  unfold State.halt; try dsimp only
  repeat' first | (with_reducible first | assumption | exact Kept.refl _ _ | refine Kept.ite ?_ ?_ | refine State.setMode_kept ?_ ?_ | refine State.spGo_kept ?_ ?_ | refine State.stopBeat_kept ?_ ?_ | refine State.updWrp_kept ?_ ?_ | refine State.zeroKeys_kept ?_ ?_) | (show Nat.testBit _ _ = true; rfl) | (show subMask _ _ = true; rfl) | (intro _; try dsimp only) | split | dsimp only

theorem execAnchorHalt_kept {s : State} (hw₀ : subMask 44384376670671395681311791037268382676505184932444769640501482563611555445703238947412270105972132575457125228840102470055410866697 w₀ = true) (h₀ : Kept w₀ s₀ s) :
    KeptR w₀ s₀ (execAnchorHalt s) := by
  refine ⟨fun t₁ e₁ => Kept.trans (a := 44384376670671395681311791037268382676505184932444769640501482563611555445703238947412270105972132575457125228840102470055410866697) (t := s) ?_ hw₀ h₀⟩; refine KeptR.keep (?_ : KeptR 44384376670671395681311791037268382676505184932444769640501482563611555445703238947412270105972132575457125228840102470055410866697 s (execAnchorHalt s)) t₁ e₁; clear e₁ t₁
  clear h₀ hw₀
  unfold execAnchorHalt; try dsimp only
  repeat' first | (with_reducible first | assumption | exact Kept.refl _ _ | refine KeptR.next ?_ | exact KeptR.fault | exact KeptR.refused | refine KeptR.ite ?_ ?_ | refine Kept.ite ?_ ?_ | refine State.halt_kept ?_ ?_ | apply State.wr_kept) | (show Nat.testBit _ _ = true; rfl) | (show subMask _ _ = true; rfl) | exact inFam_WCH_ANCHOR | exact wrsOk_nil | apply wrsOk_cons | (intro _; try dsimp only) | split | dsimp only

theorem State.injRefuse_kept {s : State} {w : Initiator} {cause : Nat} (hw₀ : subMask 161390617380431786853494948250188242145606612051826469551916209783790476376052574664352834580008614464743952921225330693 w₀ = true) (h₀ : Kept w₀ s₀ s) :
    Kept w₀ s₀ (State.injRefuse s w cause) := by
  refine Kept.trans (a := 161390617380431786853494948250188242145606612051826469551916209783790476376052574664352834580008614464743952921225330693) (t := s) ?_ hw₀ h₀
  clear h₀ hw₀
  unfold State.injRefuse; try dsimp only
  repeat' first | (with_reducible first | assumption | exact Kept.refl _ _ | refine Kept.ite ?_ ?_ | apply State.raiseBit_kept | refine State.refuseW_kept ?_ ?_) | (show Nat.testBit _ _ = true; rfl) | (show subMask _ _ = true; rfl) | exact inFam_WCH_STATUS | exact wrsOk_nil | apply wrsOk_cons | (intro _; try dsimp only) | split | dsimp only

theorem execWchInjGo_kept {w : Initiator} {site : BitVec 4} {mask : BitVec 9} {s : State} (hw₀ : subMask 44384715048735767844008178474594164823438670756007723093757292871292589359406144886604705369254019808817995825383393879549185884173 w₀ = true) (h₀ : Kept w₀ s₀ s) :
    KeptR w₀ s₀ (execWchInjGo w site mask s) := by
  refine ⟨fun t₁ e₁ => Kept.trans (a := 44384715048735767844008178474594164823438670756007723093757292871292589359406144886604705369254019808817995825383393879549185884173) (t := s) ?_ hw₀ h₀⟩; refine KeptR.keep (?_ : KeptR 44384715048735767844008178474594164823438670756007723093757292871292589359406144886604705369254019808817995825383393879549185884173 s (execWchInjGo w site mask s)) t₁ e₁; clear e₁ t₁
  clear h₀ hw₀
  unfold execWchInjGo; try dsimp only
  repeat' first | (with_reducible first | assumption | exact Kept.refl _ _ | refine KeptR.next ?_ | exact KeptR.fault | exact KeptR.refused | refine KeptR.ite ?_ ?_ | refine Kept.ite ?_ ?_ | refine State.injRefuse_kept ?_ ?_ | refine State.logFree_kept ?_ ?_ | refine State.updWatch_kept ?_ ?_ ?_ | refine State.wrs_kept ?_ ?_ ?_) | (show Nat.testBit _ _ = true; rfl) | (show subMask _ _ = true; rfl) | exact inFam_WCH_INJ_CMD | exact wrsOk_nil | apply wrsOk_cons | exact ⟨fun _ h => h⟩ | exact ⟨fun _ h => List.mem_append_left _ h⟩ | (intro _; try dsimp only) | split | dsimp only

theorem execWchInjTokenWrite_kept {w : Initiator} {v : Word} {s : State} (hw₀ : subMask 8 w₀ = true) (h₀ : Kept w₀ s₀ s) :
    KeptR w₀ s₀ (execWchInjTokenWrite w v s) := by
  refine ⟨fun t₁ e₁ => Kept.trans (a := 8) (t := s) ?_ hw₀ h₀⟩; refine KeptR.keep (?_ : KeptR 8 s (execWchInjTokenWrite w v s)) t₁ e₁; clear e₁ t₁
  clear h₀ hw₀
  unfold execWchInjTokenWrite; try dsimp only
  repeat' first | (with_reducible first | assumption | exact Kept.refl _ _ | refine KeptR.next ?_ | exact KeptR.fault | exact KeptR.refused | refine KeptR.ite ?_ ?_ | refine Kept.ite ?_ ?_ | refine State.updWatch_kept ?_ ?_ ?_) | (show Nat.testBit _ _ = true; rfl) | (show subMask _ _ = true; rfl) | exact ⟨fun _ h => h⟩ | exact ⟨fun _ h => List.mem_append_left _ h⟩ | (intro _; try dsimp only) | split | dsimp only

theorem execWchInjAuth_kept {w : Initiator} {s : State} (hw₀ : subMask 44384715048735767844008178474594164823438670756007723093757292871292589359406144886604705369254019808817995825383393879549177495565 w₀ = true) (h₀ : Kept w₀ s₀ s) :
    KeptR w₀ s₀ (execWchInjAuth w s) := by
  refine ⟨fun t₁ e₁ => Kept.trans (a := 44384715048735767844008178474594164823438670756007723093757292871292589359406144886604705369254019808817995825383393879549177495565) (t := s) ?_ hw₀ h₀⟩; refine KeptR.keep (?_ : KeptR 44384715048735767844008178474594164823438670756007723093757292871292589359406144886604705369254019808817995825383393879549177495565 s (execWchInjAuth w s)) t₁ e₁; clear e₁ t₁
  clear h₀ hw₀
  unfold execWchInjAuth; try dsimp only
  repeat' first | (with_reducible first | assumption | exact Kept.refl _ _ | refine KeptR.next ?_ | exact KeptR.fault | exact KeptR.refused | refine KeptR.ite ?_ ?_ | refine Kept.ite ?_ ?_ | apply State.clr_kept | refine State.injRefuse_kept ?_ ?_ | refine State.logEvent_kept ?_ ?_ | apply State.raiseBit_kept | refine State.tokenRefused_kept ?_ ?_ | refine State.tokenTaken_kept ?_ ?_ | refine State.updWatch_kept ?_ ?_ ?_) | (show Nat.testBit _ _ = true; rfl) | (show subMask _ _ = true; rfl) | exact inFam_WCH_INJ_CMD | exact inFam_WCH_STATUS | exact wrsOk_nil | apply wrsOk_cons | exact ⟨fun _ h => h⟩ | exact ⟨fun _ h => List.mem_append_left _ h⟩ | (intro _; try dsimp only) | split | dsimp only

theorem execInjectionExpiry_kept {s : State} (hw₀ : subMask 161390617380431786853494948250188242145606612051826469551916209783790476376052574664352834580008614464743948248300912649 w₀ = true) (h₀ : Kept w₀ s₀ s) :
    KeptR w₀ s₀ (execInjectionExpiry s) := by
  refine ⟨fun t₁ e₁ => Kept.trans (a := 161390617380431786853494948250188242145606612051826469551916209783790476376052574664352834580008614464743948248300912649) (t := s) ?_ hw₀ h₀⟩; refine KeptR.keep (?_ : KeptR 161390617380431786853494948250188242145606612051826469551916209783790476376052574664352834580008614464743948248300912649 s (execInjectionExpiry s)) t₁ e₁; clear e₁ t₁
  clear h₀ hw₀
  unfold execInjectionExpiry; try dsimp only
  repeat' first | (with_reducible first | assumption | exact Kept.refl _ _ | refine KeptR.next ?_ | exact KeptR.fault | exact KeptR.refused | refine KeptR.ite ?_ ?_ | refine Kept.ite ?_ ?_ | apply State.raiseBit_kept | refine State.updWatch_kept ?_ ?_ ?_) | (show Nat.testBit _ _ = true; rfl) | (show subMask _ _ = true; rfl) | exact inFam_WCH_STATUS | exact wrsOk_nil | apply wrsOk_cons | exact ⟨fun _ h => h⟩ | exact ⟨fun _ h => List.mem_append_left _ h⟩ | (intro _; try dsimp only) | split | dsimp only

theorem execInjectionWindowExpiry_kept {s : State} (hw₀ : subMask 8 w₀ = true) (h₀ : Kept w₀ s₀ s) :
    KeptR w₀ s₀ (execInjectionWindowExpiry s) := by
  refine ⟨fun t₁ e₁ => Kept.trans (a := 8) (t := s) ?_ hw₀ h₀⟩; refine KeptR.keep (?_ : KeptR 8 s (execInjectionWindowExpiry s)) t₁ e₁; clear e₁ t₁
  clear h₀ hw₀
  unfold execInjectionWindowExpiry; try dsimp only
  repeat' first | (with_reducible first | assumption | exact Kept.refl _ _ | refine KeptR.next ?_ | exact KeptR.fault | exact KeptR.refused | refine KeptR.ite ?_ ?_ | refine Kept.ite ?_ ?_ | refine State.updWatch_kept ?_ ?_ ?_) | (show Nat.testBit _ _ = true; rfl) | (show subMask _ _ = true; rfl) | exact ⟨fun _ h => h⟩ | exact ⟨fun _ h => List.mem_append_left _ h⟩ | (intro _; try dsimp only) | split | dsimp only

theorem execLogbookPersist_kept {fail : BitVec 4} {s : State} (hw₀ : subMask 21661481985318866090456360813617841433097164651373566993519371723551728967231450179999800047688590453885868835635965404913860681 w₀ = true) (h₀ : Kept w₀ s₀ s) :
    KeptR w₀ s₀ (execLogbookPersist fail s) := by
  refine ⟨fun t₁ e₁ => Kept.trans (a := 21661481985318866090456360813617841433097164651373566993519371723551728967231450179999800047688590453885868835635965404913860681) (t := s) ?_ hw₀ h₀⟩; refine KeptR.keep (?_ : KeptR 21661481985318866090456360813617841433097164651373566993519371723551728967231450179999800047688590453885868835635965404913860681 s (execLogbookPersist fail s)) t₁ e₁; clear e₁ t₁
  clear h₀ hw₀
  unfold execLogbookPersist; try dsimp only
  repeat' first | (with_reducible first | assumption | exact Kept.refl _ _ | refine KeptR.next ?_ | exact KeptR.fault | exact KeptR.refused | refine KeptR.ite ?_ ?_ | refine Kept.ite ?_ ?_ | apply State.addC_kept | refine State.forEach_kept ?_ ?_ | refine State.updWatch_kept ?_ ?_ ?_ | refine State.writeArea_kept ?_ ?_ | refine State.writeSummary_kept ?_ ?_) | (show Nat.testBit _ _ = true; rfl) | (show subMask _ _ = true; rfl) | exact inFam_LOG_STAT | exact wrsOk_nil | apply wrsOk_cons | exact ⟨fun _ h => h⟩ | exact ⟨fun _ h => List.mem_append_left _ h⟩ | (intro _; try dsimp only) | split | dsimp only

theorem execLogFwGo_kept {w : Initiator} {s : State} (hw₀ : subMask 66565734140884875495972396780247626723907586973670971371085029306474463116302246403139385546547038464791274931909321693973222260749 w₀ = true) (h₀ : Kept w₀ s₀ s) :
    KeptR w₀ s₀ (execLogFwGo w s) := by
  refine ⟨fun t₁ e₁ => Kept.trans (a := 66565734140884875495972396780247626723907586973670971371085029306474463116302246403139385546547038464791274931909321693973222260749) (t := s) ?_ hw₀ h₀⟩; refine KeptR.keep (?_ : KeptR 66565734140884875495972396780247626723907586973670971371085029306474463116302246403139385546547038464791274931909321693973222260749 s (execLogFwGo w s)) t₁ e₁; clear e₁ t₁
  clear h₀ hw₀
  unfold execLogFwGo; try dsimp only
  repeat' first | (with_reducible first | assumption | exact Kept.refl _ _ | refine KeptR.next ?_ | exact KeptR.fault | exact KeptR.refused | refine KeptR.ite ?_ ?_ | refine Kept.ite ?_ ?_ | apply State.clr_kept | refine State.logEvent_kept ?_ ?_ | refine State.refuseW_kept ?_ ?_) | (show Nat.testBit _ _ = true; rfl) | (show subMask _ _ = true; rfl) | exact inFam_LOG_FW_GO | exact wrsOk_nil | apply wrsOk_cons | (intro _; try dsimp only) | split | dsimp only

theorem execTelemetrySnapshot_kept {s : State} (hw₀ : subMask 8 w₀ = true) (h₀ : Kept w₀ s₀ s) :
    KeptR w₀ s₀ (execTelemetrySnapshot s) := by
  refine ⟨fun t₁ e₁ => Kept.trans (a := 8) (t := s) ?_ hw₀ h₀⟩; refine KeptR.keep (?_ : KeptR 8 s (execTelemetrySnapshot s)) t₁ e₁; clear e₁ t₁
  clear h₀ hw₀
  unfold execTelemetrySnapshot; try dsimp only
  repeat' first | (with_reducible first | assumption | exact Kept.refl _ _ | refine KeptR.next ?_ | exact KeptR.fault | exact KeptR.refused | refine KeptR.ite ?_ ?_ | refine Kept.ite ?_ ?_ | refine State.updWatch_kept ?_ ?_ ?_) | (show Nat.testBit _ _ = true; rfl) | (show subMask _ _ = true; rfl) | exact ⟨fun _ h => h⟩ | exact ⟨fun _ h => List.mem_append_left _ h⟩ | (intro _; try dsimp only) | split | dsimp only

theorem execTelemSkip_kept {s : State} (hw₀ : subMask 44384713757731871763589207486774700033120374772764031638184406308126848246420176735466147485429607794684086568280366412638690869257 w₀ = true) (h₀ : Kept w₀ s₀ s) :
    KeptR w₀ s₀ (execTelemSkip s) := by
  refine ⟨fun t₁ e₁ => Kept.trans (a := 44384713757731871763589207486774700033120374772764031638184406308126848246420176735466147485429607794684086568280366412638690869257) (t := s) ?_ hw₀ h₀⟩; refine KeptR.keep (?_ : KeptR 44384713757731871763589207486774700033120374772764031638184406308126848246420176735466147485429607794684086568280366412638690869257 s (execTelemSkip s)) t₁ e₁; clear e₁ t₁
  clear h₀ hw₀
  unfold execTelemSkip; try dsimp only
  repeat' first | (with_reducible first | assumption | exact Kept.refl _ _ | refine KeptR.next ?_ | exact KeptR.fault | exact KeptR.refused | refine KeptR.ite ?_ ?_ | refine Kept.ite ?_ ?_ | refine State.raise0_kept ?_ ?_) | (show Nat.testBit _ _ = true; rfl) | (show subMask _ _ = true; rfl) | (intro _; try dsimp only) | split | dsimp only

end Sys2Proof.Machine
end

