-- ==== Sys2Proof/Laws/KeptReset.lean ====
section
/-! SUPPORT. What the operations and meanings of Machine/Reset.lean keep (the relation Kept). -/

set_option Elab.async false

namespace Sys2Proof.Machine
open Reg
set_option linter.unusedVariables false
set_option linter.unusedTactic false
set_option linter.unreachableTactic false
set_option maxHeartbeats 400000

variable {w₀ : Nat} {s₀ : State}

theorem State.copyFlds_kept {s t : State} {l : List Fld} (hw₀ : subMask 67108865 w₀ = true) (h₀ : Kept w₀ s₀ t) :
    Kept w₀ s₀ (State.copyFlds s t l) := by
  refine Kept.trans (a := 67108865) (t := t) ?_ hw₀ h₀
  clear h₀ hw₀
  unfold State.copyFlds; try dsimp only
  repeat' first | (with_reducible first | assumption | exact Kept.refl _ _ | refine Kept.ite ?_ ?_ | refine State.forEach_kept ?_ ?_ | refine State.wrAny_kept ?_ ?_) | (show Nat.testBit _ _ = true; rfl) | (show subMask _ _ = true; rfl) | (intro _; try dsimp only) | split | dsimp only

theorem State.settleForReset_kept {s : State} (hw₀ : subMask 44384713757731871763589207486774700033120374772764031638184406308126848246420176735557541536217557403913946987347222435813740642365 w₀ = true) (h₀ : Kept w₀ s₀ s) :
    Kept w₀ s₀ (State.settleForReset s) := by
  refine Kept.trans (a := 44384713757731871763589207486774700033120374772764031638184406308126848246420176735557541536217557403913946987347222435813740642365) (t := s) ?_ hw₀ h₀
  clear h₀ hw₀
  unfold State.settleForReset; try dsimp only
  repeat' first | (with_reducible first | assumption | exact Kept.refl _ _ | refine Kept.ite ?_ ?_ | refine State.applyWrite_kept ?_ ?_ | refine State.forEach_kept ?_ ?_ | refine State.retirePage_kept ?_ ?_) | (show Nat.testBit _ _ = true; rfl) | (show subMask _ _ = true; rfl) | (intro _; try dsimp only) | split | dsimp only

theorem MemU.atReset_holds {m n : MemU} (h : m.holds n) : m.holds n.atReset := ⟨fun hm => h.keep hm⟩

theorem State.internalReset_kept {s : State} {kind : StartKind} {cause : Nat} {prepFailed : Bool} (hw₀ : subMask 44384713757731871763589207486774700033120374773249787789565372834694799025642567079774200586842227345352381616787460627197495083007 w₀ = true) (h₀ : Kept w₀ s₀ s) :
    Kept w₀ s₀ (State.internalReset s kind cause prepFailed) := by
  refine Kept.trans (a := 44384713757731871763589207486774700033120374773249787789565372834694799025642567079774200586842227345352381616787460627197495083007) (t := s) ?_ hw₀ h₀
  unfold State.internalReset
  extract_lets warm s0 s1 r wb destage maLost y1 y2 y3 y4 y5 y6 t t1 t2 t3 t4
  have k0 : Kept 44384713757731871763589207486774700033120374773249787789565372834694799025642567079774200586842227345352381616787460627197495083007 s s1 := State.when_kept (fun _ => State.settleForReset_kept rfl (Kept.refl _ _))
    (State.when_kept (fun _ => State.stopQuay_kept rfl (Kept.refl _ _)) (State.dropGates_kept rfl (Kept.refl _ _)))
  have k1 : Kept 44384713757731871763589207486774700033120374773249787789565372834694799025642567079774200586842227345352381616787460627197495083007 s1 t := by
    constructor <;> first | exact fun _ => rfl | exact fun _ _ _ => rfl | exact Fuses.rise_refl _ | (intro h; cases h; done) | skip
    intro h
    simp only [State.canonical, Bool.and_eq_true] at h ⊢
    refine ⟨⟨⟨State.reset_regsWf, ?_⟩, ?_⟩, h.2⟩
    · show MemU.wf (if warm then s1.mem.atReset else r.mem) = true
      split
      · exact h.1.1.2
      · rfl
    · show List.all (if warm then s1.dram.ch.map DdrCh.atReset else r.dram.ch) DdrCh.wf = true
      split
      · rw [List.all_map]; exact h.1.2
      · rfl
  have k2 : Kept 44384713757731871763589207486774700033120374773249787789565372834694799025642567079774200586842227345352381616787460627197495083007 s t := k1.trans rfl k0
  have k3 : Kept 44384713757731871763589207486774700033120374773249787789565372834694799025642567079774200586842227345352381616787460627197495083007 s t1 := State.copyFlds_kept rfl k2
  have k4 : Kept 44384713757731871763589207486774700033120374773249787789565372834694799025642567079774200586842227345352381616787460627197495083007 s t2 := State.forEach_kept (fun _ _ => State.updHead_kept rfl (Kept.refl _ _)) k3
  have k5 : Kept 44384713757731871763589207486774700033120374773249787789565372834694799025642567079774200586842227345352381616787460627197495083007 s t3 := Kept.ite k4 (State.copyFlds_kept rfl k4)
  have k6 : Kept 44384713757731871763589207486774700033120374773249787789565372834694799025642567079774200586842227345352381616787460627197495083007 s t4 := State.when_kept (fun _ => State.forEach_kept (fun _ _ => State.setB_kept inFam_DDR_STATUS rfl rfl (Kept.refl _ _)) (Kept.refl _ _)) k5
  exact Kept.ite k6 (State.logFree_kept rfl k6)

theorem State.warmReset_kept {s : State} {cause : Nat} {prepOk : Bool} (hw₀ : subMask 44384713757731871763589207486774700033120374773249787789565372834694799025642567079774200586842227345352381616787460627197495083007 w₀ = true) (h₀ : Kept w₀ s₀ s) :
    Kept w₀ s₀ (State.warmReset s cause prepOk) := by
  refine Kept.trans (a := 44384713757731871763589207486774700033120374773249787789565372834694799025642567079774200586842227345352381616787460627197495083007) (t := s) ?_ hw₀ h₀
  clear h₀ hw₀
  unfold State.warmReset; try dsimp only
  repeat' first | (with_reducible first | assumption | exact Kept.refl _ _ | refine Kept.ite ?_ ?_ | refine State.internalReset_kept ?_ ?_) | (show Nat.testBit _ _ = true; rfl) | (show subMask _ _ = true; rfl) | (intro _; try dsimp only) | split | dsimp only

theorem execPowerOn_kept {s : State} (hw₀ : subMask 44384713757731871763589207486774700033120374773249787789565372834694799025642567079774200586842227345352381616787460627197495083007 w₀ = true) (h₀ : Kept w₀ s₀ s) :
    KeptR w₀ s₀ (execPowerOn s) := by
  refine ⟨fun t₁ e₁ => Kept.trans (a := 44384713757731871763589207486774700033120374773249787789565372834694799025642567079774200586842227345352381616787460627197495083007) (t := s) ?_ hw₀ h₀⟩; refine KeptR.keep (?_ : KeptR 44384713757731871763589207486774700033120374773249787789565372834694799025642567079774200586842227345352381616787460627197495083007 s (execPowerOn s)) t₁ e₁; clear e₁ t₁
  clear h₀ hw₀
  unfold execPowerOn; try dsimp only
  repeat' first | (with_reducible first | assumption | exact Kept.refl _ _ | refine KeptR.next ?_ | exact KeptR.fault | exact KeptR.refused | refine KeptR.ite ?_ ?_ | refine Kept.ite ?_ ?_ | refine State.internalReset_kept ?_ ?_) | (show Nat.testBit _ _ = true; rfl) | (show subMask _ _ = true; rfl) | (intro _; try dsimp only) | split | dsimp only

theorem execBrownOut_kept {s : State} (hw₀ : subMask 44384713757731871763589207486774700033120374773249787789565372834694799025642567079774200586842227345352381616787460627197495083007 w₀ = true) (h₀ : Kept w₀ s₀ s) :
    KeptR w₀ s₀ (execBrownOut s) := by
  refine ⟨fun t₁ e₁ => Kept.trans (a := 44384713757731871763589207486774700033120374773249787789565372834694799025642567079774200586842227345352381616787460627197495083007) (t := s) ?_ hw₀ h₀⟩; refine KeptR.keep (?_ : KeptR 44384713757731871763589207486774700033120374773249787789565372834694799025642567079774200586842227345352381616787460627197495083007 s (execBrownOut s)) t₁ e₁; clear e₁ t₁
  clear h₀ hw₀
  unfold execBrownOut; try dsimp only
  repeat' first | (with_reducible first | assumption | exact Kept.refl _ _ | refine KeptR.next ?_ | exact KeptR.fault | exact KeptR.refused | refine KeptR.ite ?_ ?_ | refine Kept.ite ?_ ?_ | refine State.internalReset_kept ?_ ?_ | refine State.updSys_kept ?_ ?_ ?_) | (show Nat.testBit _ _ = true; rfl) | (show subMask _ _ = true; rfl) | exact SysU.holds_same rfl rfl | (intro _; try dsimp only) | split | dsimp only

theorem execPerstNAssert_kept {prepOk : Bool} {s : State} (hw₀ : subMask 44384713757731871763589207486774700033120374773249787789565372834694799025642567079774200586842227345352381616787460627197495083007 w₀ = true) (h₀ : Kept w₀ s₀ s) :
    KeptR w₀ s₀ (execPerstNAssert prepOk s) := by
  refine ⟨fun t₁ e₁ => Kept.trans (a := 44384713757731871763589207486774700033120374773249787789565372834694799025642567079774200586842227345352381616787460627197495083007) (t := s) ?_ hw₀ h₀⟩; refine KeptR.keep (?_ : KeptR 44384713757731871763589207486774700033120374773249787789565372834694799025642567079774200586842227345352381616787460627197495083007 s (execPerstNAssert prepOk s)) t₁ e₁; clear e₁ t₁
  clear h₀ hw₀
  unfold execPerstNAssert; try dsimp only
  repeat' first | (with_reducible first | assumption | exact Kept.refl _ _ | refine KeptR.next ?_ | exact KeptR.fault | exact KeptR.refused | refine KeptR.ite ?_ ?_ | refine Kept.ite ?_ ?_ | refine State.updLink_kept ?_ ?_ | refine State.warmReset_kept ?_ ?_) | (show Nat.testBit _ _ = true; rfl) | (show subMask _ _ = true; rfl) | (intro _; try dsimp only) | split | dsimp only

theorem execResetNAssert_kept {prepOk : Bool} {s : State} (hw₀ : subMask 44384713757731871763589207486774700033120374773249787789565372834694799025642567079774200586842227345352381616787460627197495083007 w₀ = true) (h₀ : Kept w₀ s₀ s) :
    KeptR w₀ s₀ (execResetNAssert prepOk s) := by
  refine ⟨fun t₁ e₁ => Kept.trans (a := 44384713757731871763589207486774700033120374773249787789565372834694799025642567079774200586842227345352381616787460627197495083007) (t := s) ?_ hw₀ h₀⟩; refine KeptR.keep (?_ : KeptR 44384713757731871763589207486774700033120374773249787789565372834694799025642567079774200586842227345352381616787460627197495083007 s (execResetNAssert prepOk s)) t₁ e₁; clear e₁ t₁
  clear h₀ hw₀
  unfold execResetNAssert; try dsimp only
  repeat' first | (with_reducible first | assumption | exact Kept.refl _ _ | refine KeptR.next ?_ | exact KeptR.fault | exact KeptR.refused | refine KeptR.ite ?_ ?_ | refine Kept.ite ?_ ?_ | refine State.warmReset_kept ?_ ?_) | (show Nat.testBit _ _ = true; rfl) | (show subMask _ _ = true; rfl) | (intro _; try dsimp only) | split | dsimp only

theorem execSysResetCmd_kept {w : Initiator} {v : Word} {prepOk : Bool} {s : State} (hw₀ : subMask 44384713757731871763589207486774700033120374773249787789565372834694799025642567079774200586842227345352381616787460627197495083007 w₀ = true) (h₀ : Kept w₀ s₀ s) :
    KeptR w₀ s₀ (execSysResetCmd w v prepOk s) := by
  refine ⟨fun t₁ e₁ => Kept.trans (a := 44384713757731871763589207486774700033120374773249787789565372834694799025642567079774200586842227345352381616787460627197495083007) (t := s) ?_ hw₀ h₀⟩; refine KeptR.keep (?_ : KeptR 44384713757731871763589207486774700033120374773249787789565372834694799025642567079774200586842227345352381616787460627197495083007 s (execSysResetCmd w v prepOk s)) t₁ e₁; clear e₁ t₁
  clear h₀ hw₀
  unfold execSysResetCmd; try dsimp only
  repeat' first | (with_reducible first | assumption | exact Kept.refl _ _ | refine KeptR.next ?_ | exact KeptR.fault | exact KeptR.refused | refine KeptR.ite ?_ ?_ | refine Kept.ite ?_ ?_ | refine State.warmReset_kept ?_ ?_) | (show Nat.testBit _ _ = true; rfl) | (show subMask _ _ = true; rfl) | (intro _; try dsimp only) | split | dsimp only

theorem execHelmWatchdogExpiry_kept {prepOk : Bool} {s : State} (hw₀ : subMask 44384713757731871763589207486774700033120374773249787789565372834694799025642567079774200586842227345352381616787460627197495083007 w₀ = true) (h₀ : Kept w₀ s₀ s) :
    KeptR w₀ s₀ (execHelmWatchdogExpiry prepOk s) := by
  refine ⟨fun t₁ e₁ => Kept.trans (a := 44384713757731871763589207486774700033120374773249787789565372834694799025642567079774200586842227345352381616787460627197495083007) (t := s) ?_ hw₀ h₀⟩; refine KeptR.keep (?_ : KeptR 44384713757731871763589207486774700033120374773249787789565372834694799025642567079774200586842227345352381616787460627197495083007 s (execHelmWatchdogExpiry prepOk s)) t₁ e₁; clear e₁ t₁
  clear h₀ hw₀
  unfold execHelmWatchdogExpiry; try dsimp only
  repeat' first | (with_reducible first | assumption | exact Kept.refl _ _ | refine KeptR.next ?_ | exact KeptR.fault | exact KeptR.refused | refine KeptR.ite ?_ ?_ | refine Kept.ite ?_ ?_ | refine State.raise0_kept ?_ ?_ | refine State.warmReset_kept ?_ ?_) | (show Nat.testBit _ _ = true; rfl) | (show subMask _ _ = true; rfl) | (intro _; try dsimp only) | split | dsimp only

theorem execWdogKick_kept {w : Initiator} {s : State} (hw₀ : subMask 4672928612357 w₀ = true) (h₀ : Kept w₀ s₀ s) :
    KeptR w₀ s₀ (execWdogKick w s) := by
  refine ⟨fun t₁ e₁ => Kept.trans (a := 4672928612357) (t := s) ?_ hw₀ h₀⟩; refine KeptR.keep (?_ : KeptR 4672928612357 s (execWdogKick w s)) t₁ e₁; clear e₁ t₁
  clear h₀ hw₀
  unfold execWdogKick; try dsimp only
  repeat' first | (with_reducible first | assumption | exact Kept.refl _ _ | refine KeptR.next ?_ | exact KeptR.fault | exact KeptR.refused | refine KeptR.ite ?_ ?_ | refine Kept.ite ?_ ?_ | refine State.refuseW_kept ?_ ?_ | refine State.updSys_kept ?_ ?_ ?_) | (show Nat.testBit _ _ = true; rfl) | (show subMask _ _ = true; rfl) | exact SysU.holds_same rfl rfl | (intro _; try dsimp only) | split | dsimp only

end Sys2Proof.Machine
end

