-- ==== Sys2Proof/Laws/KeptStarts.lean ====
section
/-! SUPPORT. What the operations and meanings of Machine/Starts.lean keep (the relation Kept). -/

set_option Elab.async false

namespace Sys2Proof.Machine
open Reg
set_option linter.unusedVariables false
set_option linter.unusedTactic false
set_option linter.unreachableTactic false
set_option maxHeartbeats 400000

variable {w₀ : Nat} {s₀ : State}

theorem State.coreTest_kept {s : State} {failing : BitVec 3} (hw₀ : subMask 44384713757731871763589207486774700033120374772764031638184406308126848246420176735466147485429607794684086568280375419837945610249 w₀ = true) (h₀ : Kept w₀ s₀ s) :
    Kept w₀ s₀ (State.coreTest s failing) := by
  refine Kept.trans (a := 44384713757731871763589207486774700033120374772764031638184406308126848246420176735466147485429607794684086568280375419837945610249) (t := s) ?_ hw₀ h₀
  clear h₀ hw₀
  unfold State.coreTest; try dsimp only
  repeat' first | (with_reducible first | assumption | exact Kept.refl _ _ | refine Kept.ite ?_ ?_ | refine State.forEach_kept ?_ ?_ | refine State.markFenced_kept ?_ ?_ | refine State.raise0_kept ?_ ?_ | refine State.raiseSrc_kept ?_ ?_ | refine State.wrs_kept ?_ ?_ ?_) | (show Nat.testBit _ _ = true; rfl) | (show subMask _ _ = true; rfl) | exact inFam_SYS_HELM_STAT | exact wrsOk_nil | apply wrsOk_cons | (intro _; try dsimp only) | split | dsimp only

theorem State.reapplyFrame_kept {s : State} {f : Nat} (hw₀ : subMask 16 w₀ = true) (h₀ : Kept w₀ s₀ s) :
    Kept w₀ s₀ (State.reapplyFrame s f) := by
  refine Kept.trans (a := 16) (t := s) ?_ hw₀ h₀
  clear h₀ hw₀
  unfold State.reapplyFrame; try dsimp only
  repeat' first | (with_reducible first | assumption | exact Kept.refl _ _ | refine Kept.ite ?_ ?_ | refine State.updMem_kept ?_ ?_ ?_ | refine State.updPage_kept ?_ ?_) | (show Nat.testBit _ _ = true; rfl) | (show subMask _ _ = true; rfl) | refine MemU.store_holds ?_ | refine MemU.flip_holds ?_ | refine MemU.storeList_holds ?_ | refine MemU.flipAll_holds ?_ | refine MemU.foldl_holds ?_ ?_ | exact MemU.holds_of rfl rfl | (intro _; try dsimp only) | split | dsimp only

theorem State.initSram_kept {s : State} (hw₀ : subMask 44601490397061246283071436545296723011960849 w₀ = true) (h₀ : Kept w₀ s₀ s) : Kept w₀ s₀ (State.initSram s) := by
  refine Kept.trans (a := 44601490397061246283071436545296723011960849) (t := s) ?_ hw₀ h₀
  unfold State.initSram; dsimp only
  refine State.setFam_kept inFam_MEM_BANK_RETIRED rfl rfl ?_
  split
  · exact Kept.refl _ _
  · exact State.forEach_kept (fun _ _ => State.reapplyFrame_kept rfl (Kept.refl _ _)) (State.updMem_kept (fun _ => ⟨fun _ => rfl⟩) rfl (Kept.refl _ _))

theorem State.fillFree_kept {s : State} (hw₀ : subMask 91371750042751078606718883348583374813543792657 w₀ = true) (h₀ : Kept w₀ s₀ s) : Kept w₀ s₀ (State.fillFree s) := by
  refine Kept.trans (a := 91371750042751078606718883348583374813543792657) (t := s) ?_ hw₀ h₀
  have k : ∀ l : List Nat, Kept 91371750042751078606718883348583374813543792657 s (((s.updMem (fun m => { m with free := l })).showPool).showRetire) := fun l =>
    State.showRetire_kept rfl (State.showPool_kept rfl (State.updMem_kept (fun _ => ⟨fun h => h⟩) rfl (Kept.refl _ _)))
  unfold State.fillFree
  exact k _

theorem State.numberHeld_kept {s : State} (hw₀ : subMask 44384376587918356619345083307102957096416090370664438769721192661557492653857241418819590297713921840012145244218093114668500385801 w₀ = true) (h₀ : Kept w₀ s₀ s) :
    Kept w₀ s₀ (State.numberHeld s) := by
  refine Kept.trans (a := 44384376587918356619345083307102957096416090370664438769721192661557492653857241418819590297713921840012145244218093114668500385801) (t := s) ?_ hw₀ h₀
  clear h₀ hw₀
  unfold State.numberHeld; try dsimp only
  repeat' first | (with_reducible first | assumption | exact Kept.refl _ _ | refine Kept.ite ?_ ?_ | refine State.forEach_kept ?_ ?_ | apply State.inc_kept | refine State.updWatch_kept ?_ ?_ ?_ | apply State.wr_kept) | (show Nat.testBit _ _ = true; rfl) | (show subMask _ _ = true; rfl) | exact inFam_LOG_CNT | exact inFam_LOG_STAT | exact wrsOk_nil | apply wrsOk_cons | exact ⟨fun _ h => h⟩ | exact ⟨fun _ h => List.mem_append_left _ h⟩ | (intro _; try dsimp only) | split | dsimp only

theorem State.showConfig_kept {s : State} (hw₀ : subMask 66749610786872005188018771771040556493336772369433431689609276301261535734858399930945363771393 w₀ = true) (h₀ : Kept w₀ s₀ s) :
    Kept w₀ s₀ (State.showConfig s) := by
  refine Kept.trans (a := 66749610786872005188018771771040556493336772369433431689609276301261535734858399930945363771393) (t := s) ?_ hw₀ h₀
  clear h₀ hw₀
  unfold State.showConfig; try dsimp only
  repeat' first | (with_reducible first | assumption | exact Kept.refl _ _ | refine Kept.ite ?_ ?_ | refine State.forEach_kept ?_ ?_ | refine State.setRole_kept ?_ ?_ | refine State.spareIdle_kept ?_ ?_ | refine State.wrs_kept ?_ ?_ ?_) | (show Nat.testBit _ _ = true; rfl) | (show subMask _ _ = true; rfl) | exact inFam_RCH_PRESENT | exact inFam_SEQ_PRESENT | exact inFam_SRV_PRESENT | exact inFam_SYS_FUSE_STAT | exact inFam_SYS_SERIAL_HI | exact inFam_SYS_SERIAL_LO | exact wrsOk_nil | apply wrsOk_cons | (intro _; try dsimp only) | split | dsimp only

theorem State.runStart_kept {s : State} {flashOk : Bool} {readable : BitVec 2} {cores : BitVec 3} (hw₀ : subMask 45471804982233162531096327209661096852989917943769496783641402854632040169576740138930863565841612092147358571697638291555215243103933 w₀ = true) (h₀ : Kept w₀ s₀ s) :
    Kept w₀ s₀ (State.runStart s flashOk readable cores) := by
  refine Kept.trans (a := 45471804982233162531096327209661096852989917943769496783641402854632040169576740138930863565841612092147358571697638291555215243103933) (t := s) ?_ hw₀ h₀
  clear h₀ hw₀
  unfold State.runStart; try dsimp only
  repeat' first | (with_reducible first | assumption | exact Kept.refl _ _ | refine Kept.ite ?_ ?_ | refine State.cfgWrites_kept ?_ ?_ | refine State.copyFlds_kept ?_ ?_ | refine State.coreTest_kept ?_ ?_ | refine State.fillFree_kept ?_ ?_ | refine State.fillStores_kept ?_ ?_ | refine State.glue_kept ?_ ?_ | refine State.hooksKeptOff_kept ?_ ?_ | refine State.initSram_kept ?_ ?_ | refine State.initWrites_kept ?_ ?_ | refine State.logEvent_kept ?_ ?_ | refine State.measure_kept ?_ ?_ | refine State.numberHeld_kept ?_ ?_ | refine State.showAllowed_kept ?_ ?_ | refine State.showConfig_kept ?_ ?_ | refine State.takeImage_kept ?_ ?_ | refine State.updPersist_kept ?_ ?_ | refine State.updSch_kept ?_ ?_ | refine State.updSys_kept ?_ ?_ ?_ | apply State.wr_kept | refine State.wrs_kept ?_ ?_ ?_ | refine State.initWrites_keptp (by assumption) ?_ ?_) | (show Nat.testBit _ _ = true; rfl) | (show subMask _ _ = true; rfl) | exact inFam_MOT_SP_CFG | exact inFam_SYS_MODE | exact inFam_SYS_PWR_CYCLES | exact inFam_SYS_START | exact inFam_SYS_WARM_STARTS | exact wrsOk_nil | apply wrsOk_cons | exact SysU.holds_same rfl rfl | (intro _; try dsimp only) | split | dsimp only

theorem execResetRelease_kept {gpio0 flashOk : Bool} {readable : BitVec 2} {cores : BitVec 3} {s : State} (hw₀ : subMask 45471804982233162531096327209661096852989917943769496783641402854632040169576740138930863565841612092147358571697638291555215243103933 w₀ = true) (h₀ : Kept w₀ s₀ s) :
    KeptR w₀ s₀ (execResetRelease gpio0 flashOk readable cores s) := by
  refine ⟨fun t₁ e₁ => Kept.trans (a := 45471804982233162531096327209661096852989917943769496783641402854632040169576740138930863565841612092147358571697638291555215243103933) (t := s) ?_ hw₀ h₀⟩; refine KeptR.keep (?_ : KeptR 45471804982233162531096327209661096852989917943769496783641402854632040169576740138930863565841612092147358571697638291555215243103933 s (execResetRelease gpio0 flashOk readable cores s)) t₁ e₁; clear e₁ t₁
  clear h₀ hw₀
  unfold execResetRelease; try dsimp only
  repeat' first | (with_reducible first | assumption | exact Kept.refl _ _ | refine KeptR.next ?_ | exact KeptR.fault | exact KeptR.refused | refine KeptR.ite ?_ ?_ | refine Kept.ite ?_ ?_ | refine State.runStart_kept ?_ ?_ | refine State.updSys_kept ?_ ?_ ?_ | apply State.wr_kept) | (show Nat.testBit _ _ = true; rfl) | (show subMask _ _ = true; rfl) | exact inFam_SYS_START | exact wrsOk_nil | apply wrsOk_cons | exact SysU.holds_same rfl rfl | (intro _; try dsimp only) | split | dsimp only

theorem execBusGoodRestart_kept {flashOk : Bool} {readable : BitVec 2} {cores : BitVec 3} {s : State} (hw₀ : subMask 45471804982233162531096327209661096852989917943769982510150008976405662091921790367050975814455120687684812612225937023720837741543423 w₀ = true) (h₀ : Kept w₀ s₀ s) :
    KeptR w₀ s₀ (execBusGoodRestart flashOk readable cores s) := by
  refine ⟨fun t₁ e₁ => Kept.trans (a := 45471804982233162531096327209661096852989917943769982510150008976405662091921790367050975814455120687684812612225937023720837741543423) (t := s) ?_ hw₀ h₀⟩; refine KeptR.keep (?_ : KeptR 45471804982233162531096327209661096852989917943769982510150008976405662091921790367050975814455120687684812612225937023720837741543423 s (execBusGoodRestart flashOk readable cores s)) t₁ e₁; clear e₁ t₁
  clear h₀ hw₀
  unfold execBusGoodRestart; try dsimp only
  repeat' first | (with_reducible first | assumption | exact Kept.refl _ _ | refine KeptR.next ?_ | exact KeptR.fault | exact KeptR.refused | refine KeptR.ite ?_ ?_ | refine Kept.ite ?_ ?_ | refine State.internalReset_kept ?_ ?_ | refine State.runStart_kept ?_ ?_ | refine State.updSys_kept ?_ ?_ ?_ | apply State.wr_kept) | (show Nat.testBit _ _ = true; rfl) | (show subMask _ _ = true; rfl) | exact inFam_SYS_START | exact wrsOk_nil | apply wrsOk_cons | exact SysU.holds_same rfl rfl | (intro _; try dsimp only) | split | dsimp only

theorem State.putPages_kept {s : State} {page : Nat} {x0_ : Nat} {x1_ : List Byte} (hw₀ : subMask 16 w₀ = true) (h₀ : Kept w₀ s₀ s) :
    Kept w₀ s₀ (State.putPages s page x0_ x1_) := by
  refine Kept.trans (a := 16) (t := s) ?_ hw₀ h₀
  clear h₀ hw₀
  induction x0_ generalizing s page x1_ with
  | zero =>
    unfold State.putPages; try dsimp only
    repeat' first | (with_reducible first | assumption | exact Kept.refl _ _ | refine Kept.ite ?_ ?_ | refine State.putTable_kept ?_ ?_ | refine Kept.trans ih ?_ ?_) | (show Nat.testBit _ _ = true; rfl) | (show subMask _ _ = true; rfl) | (intro _; try dsimp only) | split | dsimp only
  | succ n_ ih =>
    unfold State.putPages; try dsimp only
    repeat' first | (with_reducible first | assumption | exact Kept.refl _ _ | refine Kept.ite ?_ ?_ | refine State.putTable_kept ?_ ?_ | refine Kept.trans ih ?_ ?_) | (show Nat.testBit _ _ = true; rfl) | (show subMask _ _ = true; rfl) | (intro _; try dsimp only) | split | dsimp only

theorem execDdrTrainingDone_kept {fail : BitVec 2} {blocks : List (BitVec 8)} {s : State} (hw₀ : subMask 44384713757731871763589207486774700033120374772764031638184406308126848246432466702260836014754633515568721410949149101060955177017 w₀ = true) (h₀ : Kept w₀ s₀ s) :
    KeptR w₀ s₀ (execDdrTrainingDone fail blocks s) := by
  refine ⟨fun t₁ e₁ => Kept.trans (a := 44384713757731871763589207486774700033120374772764031638184406308126848246432466702260836014754633515568721410949149101060955177017) (t := s) ?_ hw₀ h₀⟩; refine KeptR.keep (?_ : KeptR 44384713757731871763589207486774700033120374772764031638184406308126848246432466702260836014754633515568721410949149101060955177017 s (execDdrTrainingDone fail blocks s)) t₁ e₁; clear e₁ t₁
  clear h₀ hw₀
  unfold execDdrTrainingDone; try dsimp only
  repeat' first | (with_reducible first | assumption | exact Kept.refl _ _ | refine KeptR.next ?_ | exact KeptR.fault | exact KeptR.refused | refine KeptR.ite ?_ ?_ | refine Kept.ite ?_ ?_ | apply State.clr_kept | apply State.ddrBit_kept | refine State.fenceDdr_kept ?_ ?_ | refine State.forEach_kept ?_ ?_ | refine State.putPages_kept ?_ ?_ | apply State.setB_kept | refine State.updDdr_kept ?_ ?_ ?_) | (show Nat.testBit _ _ = true; rfl) | (show subMask _ _ = true; rfl) | exact inFam_DDR_GSTATUS | exact inFam_DDR_STATUS | exact wrsOk_nil | apply wrsOk_cons | refine DdrCh.upset_holds ?_ | refine DdrCh.writeBurst_holds ?_ | exact DdrCh.holds_of rfl rfl | exact DramU.holds_of rfl | (intro _; try dsimp only) | split | dsimp only

theorem State.headPartTest_kept {s : State} {h : Nat} {v : BitVec 8} (hw₀ : subMask 22713710134237715329666368996500141698551292521478689413439343569147923785191733354685555296326151682860138399341365554014303163514881 w₀ = true) (h₀ : Kept w₀ s₀ s) : Kept w₀ s₀ (State.headPartTest s h v) := by
  refine Kept.trans (a := 22713710134237715329666368996500141698551292521478689413439343569147923785191733354685555296326151682860138399341365554014303163514881) (t := s) ?_ hw₀ h₀
  have cl : ∀ (u t : State) (b : Bool) (f : Fld), inFam 232 f.addr → Kept 22713710134237715329666368996500141698551292521478689413439343569147923785191733354685555296326151682860138399341365554014303163514881 u t → Kept 22713710134237715329666368996500141698551292521478689413439343569147923785191733354685555296326151682860138399341365554014303163514881 u (if b || !t.on f then t else t.clr f) := by
    intro u t b f hf k; split
    · exact k
    · exact State.clr_kept hf rfl rfl k
  unfold State.headPartTest
  extract_lets a rdF t0 clrIf t1 t2 t3
  have k0 : Kept 22713710134237715329666368996500141698551292521478689413439343569147923785191733354685555296326151682860138399341365554014303163514881 s t0 := State.emit_kept rfl (State.emit_kept rfl (Kept.refl _ _))
  have k3 : Kept 22713710134237715329666368996500141698551292521478689413439343569147923785191733354685555296326151682860138399341365554014303163514881 s t3 := cl _ _ _ _ inFam_WRP_STATUS (cl _ _ _ _ inFam_WRP_STATUS (cl _ _ _ _ inFam_WRP_STATUS k0))
  exact Kept.ite k3 (Kept.ite (State.runOnReader_kept rfl k3) (Kept.ite (State.runOnReader_kept rfl k3) k3))

theorem State.headTest_kept {s : State} {status : List (BitVec 8)} {words : List (BitVec 24 × BitVec 24)} (hw₀ : subMask 22713710134237715329666406573181466079882938753168238042831781580068706318309664671341099811670553516595233818525339710313551708033609 w₀ = true) (h₀ : Kept w₀ s₀ s) : Kept w₀ s₀ (State.headTest s status words) := by
  refine Kept.trans (a := 22713710134237715329666406573181466079882938753168238042831781580068706318309664671341099811670553516595233818525339710313551708033609) (t := s) ?_ hw₀ h₀
  have clean : ∀ (u : State) (h : Nat), Kept 22713710134237715329666406573181466079882938753168238042831781580068706318309664671341099811670553516595233818525339710313551708033609 u (u.updWatch (fun x => { x with fences := x.fences.filter (fun y => y ≠ FUnit.microact (Fin.ofNat 24 h)) })) := by
    intro u h
    constructor <;> first | exact fun _ => rfl | exact fun _ _ _ => rfl | exact Fuses.rise_refl _ | exact id | (intro h; cases h)
  unfold State.headTest
  extract_lets hs t1 t2 t3
  have k1 : Kept 22713710134237715329666406573181466079882938753168238042831781580068706318309664671341099811670553516595233818525339710313551708033609 s t1 := State.forEach_kept (fun _ _ => State.headPartTest_kept rfl (Kept.refl _ _)) (Kept.refl _ _)
  have k2 : Kept 22713710134237715329666406573181466079882938753168238042831781580068706318309664671341099811670553516595233818525339710313551708033609 s t2 := State.forEach_kept (fun _ _ => State.sendMa_kept rfl (Kept.refl _ _)) k1
  have k3 : Kept 22713710134237715329666406573181466079882938753168238042831781580068706318309664671341099811670553516595233818525339710313551708033609 s t3 := by
    refine State.forEach_kept (fun h u => ?_) k2
    extract_lets u1
    refine State.showInhibit_kept rfl (Kept.ite (Kept.refl _ _) ?_)
    exact (clean _ _).trans (subMask_refl _) (State.updHead_kept rfl (State.wr_kept inFam_MOT_MA_FAULT rfl rfl (Kept.refl _ _)))
  exact State.forEach_kept (fun _ _ => Kept.ite (Kept.refl _ _) (State.forEach_kept (fun _ _ => State.updZone_kept rfl (Kept.refl _ _)) (Kept.refl _ _))) k3

theorem execRegisterSpaceOpen_kept {status : List (BitVec 8)} {words : List (BitVec 24 × BitVec 24)} {s : State} (hw₀ : subMask 22758094510825754748949790080821687129868282681435744612071865501771329974616607406315019888016601294327973449732483782373689539041869 w₀ = true) (h₀ : Kept w₀ s₀ s) :
    KeptR w₀ s₀ (execRegisterSpaceOpen status words s) := by
  refine ⟨fun t₁ e₁ => Kept.trans (a := 22758094510825754748949790080821687129868282681435744612071865501771329974616607406315019888016601294327973449732483782373689539041869) (t := s) ?_ hw₀ h₀⟩; refine KeptR.keep (?_ : KeptR 22758094510825754748949790080821687129868282681435744612071865501771329974616607406315019888016601294327973449732483782373689539041869 s (execRegisterSpaceOpen status words s)) t₁ e₁; clear e₁ t₁
  clear h₀ hw₀
  unfold execRegisterSpaceOpen; try dsimp only
  repeat' first | (with_reducible first | assumption | exact Kept.refl _ _ | refine KeptR.next ?_ | exact KeptR.fault | exact KeptR.refused | refine KeptR.ite ?_ ?_ | refine Kept.ite ?_ ?_ | apply State.bqBit_kept | apply State.clr_kept | refine State.emit_kept ?_ ?_ | refine State.headTest_kept ?_ ?_ | refine State.setMode_kept ?_ ?_ | refine State.startSpindle_kept ?_ ?_ | refine State.updSys_kept ?_ ?_ ?_ | refine State.updWrp_kept ?_ ?_ | refine State.when_kept ?_ ?_ | refine State.wrs_kept ?_ ?_ ?_) | (show Nat.testBit _ _ = true; rfl) | (show subMask _ _ = true; rfl) | exact inFam_BQ_STATUS | exact inFam_QFB_ADDR | exact inFam_SYS_MODE | exact wrsOk_nil | apply wrsOk_cons | exact SysU.holds_same rfl rfl | (intro _; try dsimp only) | split | dsimp only

theorem State.loadZone_kept {s : State} {z : Nat} {x : Zone} (hw₀ : subMask 4672928612421 w₀ = true) (h₀ : Kept w₀ s₀ s) :
    Kept w₀ s₀ (State.loadZone s z x) := by
  refine Kept.trans (a := 4672928612421) (t := s) ?_ hw₀ h₀
  clear h₀ hw₀
  unfold State.loadZone; try dsimp only
  repeat' first | (with_reducible first | assumption | exact Kept.refl _ _ | refine Kept.ite ?_ ?_ | refine State.refuse_kept ?_ ?_ | refine State.updZone_kept ?_ ?_ | refine State.when_kept ?_ ?_) | (show Nat.testBit _ _ = true; rfl) | (show subMask _ _ = true; rfl) | (intro _; try dsimp only) | split | dsimp only

theorem State.readArea_kept {s : State} {d : Nat} {bad : BitVec 8} {scan : List (Nat × List (Option (List Byte)))} (hw₀ : subMask 4672928612421 w₀ = true) (h₀ : Kept w₀ s₀ s) :
    Kept w₀ s₀ (State.readArea s d bad scan) := by
  refine Kept.trans (a := 4672928612421) (t := s) ?_ hw₀ h₀
  clear h₀ hw₀
  unfold State.readArea; try dsimp only
  repeat' first | (with_reducible first | assumption | exact Kept.refl _ _ | refine Kept.ite ?_ ?_ | refine State.forEach_kept ?_ ?_ | refine State.loadZone_kept ?_ ?_ | refine State.updMedia_kept ?_ ?_ | refine State.updZone_kept ?_ ?_) | (show Nat.testBit _ _ = true; rfl) | (show subMask _ _ = true; rfl) | (intro _; try dsimp only) | split | dsimp only

theorem State.repairCopies_kept {s : State} {d : Nat} {bad : BitVec 8} (hw₀ : subMask 64 w₀ = true) (h₀ : Kept w₀ s₀ s) :
    Kept w₀ s₀ (State.repairCopies s d bad) := by
  refine Kept.trans (a := 64) (t := s) ?_ hw₀ h₀
  clear h₀ hw₀
  unfold State.repairCopies; try dsimp only
  repeat' first | (with_reducible first | assumption | exact Kept.refl _ _ | refine Kept.ite ?_ ?_ | refine State.saveArea_kept ?_ ?_ | refine State.updMedia_kept ?_ ?_) | (show Nat.testBit _ _ = true; rfl) | (show subMask _ _ = true; rfl) | (intro _; try dsimp only) | split | dsimp only

theorem execSystemAreaReadDone_kept {domains : BitVec 4} {bad : BitVec 8} {scan : List (Nat × List (Option (List (BitVec 8))))} {s : State} (hw₀ : subMask 21661481985318866090456360813617841433097164651373566993519371723551728967231450179999800047688590453885906614569521884866674765 w₀ = true) (h₀ : Kept w₀ s₀ s) :
    KeptR w₀ s₀ (execSystemAreaReadDone domains bad scan s) := by
  refine ⟨fun t₁ e₁ => Kept.trans (a := 21661481985318866090456360813617841433097164651373566993519371723551728967231450179999800047688590453885906614569521884866674765) (t := s) ?_ hw₀ h₀⟩; refine KeptR.keep (?_ : KeptR 21661481985318866090456360813617841433097164651373566993519371723551728967231450179999800047688590453885906614569521884866674765 s (execSystemAreaReadDone domains bad scan s)) t₁ e₁; clear e₁ t₁
  clear h₀ hw₀
  unfold execSystemAreaReadDone; try dsimp only
  repeat' first | (with_reducible first | assumption | exact Kept.refl _ _ | refine KeptR.next ?_ | exact KeptR.fault | exact KeptR.refused | refine KeptR.ite ?_ ?_ | refine Kept.ite ?_ ?_ | apply State.bqBit_kept | apply State.clr_kept | refine State.forEach_kept ?_ ?_ | refine State.readArea_kept ?_ ?_ | refine State.repairCopies_kept ?_ ?_ | refine State.updMedia_kept ?_ ?_ | refine State.updWatch_kept ?_ ?_ ?_ | apply State.wr_kept | refine State.foldl_kept ?_ ?_) | (show Nat.testBit _ _ = true; rfl) | (show subMask _ _ = true; rfl) | exact inFam_BQ_STATUS | exact inFam_LOG_STAT | exact inFam_SYS_MODE | exact inFam_SYS_START | exact wrsOk_nil | apply wrsOk_cons | exact ⟨fun _ h => h⟩ | exact ⟨fun _ h => List.mem_append_left _ h⟩ | (intro _; try dsimp only) | split | dsimp only | refine Kept.lit rfl (.inr rfl) rfl rfl rfl rfl (.inl rfl) (.inr rfl) (.inr rfl) (.inr rfl) (.inr rfl) (.inr rfl) (.inr rfl) (.inr rfl) (.inr rfl) (.inr rfl) (.inr rfl) (.inl rfl) (.inr rfl) (.inr rfl) (.inr rfl) (.inl rfl) (.inl rfl) (.inr rfl) (.inr rfl) ?_

theorem execAliveSet_kept {w : Initiator} {s : State} (hw₀ : subMask 9224502609690230789 w₀ = true) (h₀ : Kept w₀ s₀ s) :
    KeptR w₀ s₀ (execAliveSet w s) := by
  refine ⟨fun t₁ e₁ => Kept.trans (a := 9224502609690230789) (t := s) ?_ hw₀ h₀⟩; refine KeptR.keep (?_ : KeptR 9224502609690230789 s (execAliveSet w s)) t₁ e₁; clear e₁ t₁
  clear h₀ hw₀
  unfold execAliveSet; try dsimp only
  repeat' first | (with_reducible first | assumption | exact Kept.refl _ _ | refine KeptR.next ?_ | exact KeptR.fault | exact KeptR.refused | refine KeptR.ite ?_ ?_ | refine Kept.ite ?_ ?_ | refine State.raiseSvc_kept ?_ ?_ | refine State.refuseW_kept ?_ ?_ | apply State.setB_kept | refine State.updPersist_kept ?_ ?_ | apply State.wr_kept) | (show Nat.testBit _ _ = true; rfl) | (show subMask _ _ = true; rfl) | exact inFam_SYS_FUSE_STAT | exact inFam_SYS_START | exact wrsOk_nil | apply wrsOk_cons | (intro _; try dsimp only) | split | dsimp only

end Sys2Proof.Machine
end

