-- ==== Sys2Proof/Laws/KeptRideThrough.lean ====
section
/-! SUPPORT. What the operations and meanings of Machine/RideThrough.lean keep (the relation Kept). -/

set_option Elab.async false

namespace Sys2Proof.Machine
open Reg
set_option linter.unusedVariables false
set_option linter.unusedTactic false
set_option linter.unreachableTactic false
set_option maxHeartbeats 400000

variable {w₀ : Nat} {s₀ : State}

theorem State.helmFault_kept {s : State} {c : Nat} (hw₀ : subMask 44384713757731871763589207486774700033120374772764031638184406308126848246420176735466147485429607794684086568281528341342552457225 w₀ = true) (h₀ : Kept w₀ s₀ s) :
    Kept w₀ s₀ (State.helmFault s c) := by
  refine Kept.trans (a := 44384713757731871763589207486774700033120374772764031638184406308126848246420176735466147485429607794684086568281528341342552457225) (t := s) ?_ hw₀ h₀
  clear h₀ hw₀
  unfold State.helmFault; try dsimp only
  repeat' first | (with_reducible first | assumption | exact Kept.refl _ _ | refine Kept.ite ?_ ?_ | apply State.inc_kept | refine State.markFenced_kept ?_ ?_ | refine State.raise0_kept ?_ ?_ | apply State.raiseBit_kept | refine State.raiseSrc_kept ?_ ?_ | refine State.wrs_kept ?_ ?_ ?_) | (show Nat.testBit _ _ = true; rfl) | (show subMask _ _ = true; rfl) | exact inFam_SYS_HELM_CNT | exact inFam_SYS_HELM_STAT | exact wrsOk_nil | apply wrsOk_cons | (intro _; try dsimp only) | split | dsimp only

theorem State.spareFault_kept {s : State} (hw₀ : subMask 44384713757731871763589207486774700033120374772764031638184406308126848246420176735466147485429607794684086568280375419837945610249 w₀ = true) (h₀ : Kept w₀ s₀ s) :
    Kept w₀ s₀ (State.spareFault s) := by
  refine Kept.trans (a := 44384713757731871763589207486774700033120374772764031638184406308126848246420176735466147485429607794684086568280375419837945610249) (t := s) ?_ hw₀ h₀
  clear h₀ hw₀
  unfold State.spareFault; try dsimp only
  repeat' first | (with_reducible first | assumption | exact Kept.refl _ _ | refine Kept.ite ?_ ?_ | refine State.markFenced_kept ?_ ?_ | apply State.raiseBit_kept | refine State.raiseSrc_kept ?_ ?_ | refine State.wrs_kept ?_ ?_ ?_) | (show Nat.testBit _ _ = true; rfl) | (show subMask _ _ = true; rfl) | exact inFam_SYS_HELM_STAT | exact wrsOk_nil | apply wrsOk_cons | (intro _; try dsimp only) | split | dsimp only

theorem State.rideUnitsOff_kept {s : State} (hw₀ : subMask 5242928 w₀ = true) (h₀ : Kept w₀ s₀ s) : Kept w₀ s₀ (State.rideUnitsOff s) := by
  refine Kept.trans (a := 5242928) (t := s) ?_ hw₀ h₀
  refine State.stopQuay_kept rfl (State.updSch_kept rfl (State.updDram_kept (fun d => ⟨fun _ => ?_⟩) rfl (State.updMem_kept (fun _ => ⟨fun _ => rfl⟩) rfl (Kept.refl _ _))))
  simp only [List.all_map, List.all_eq_true]
  intro x _; rfl

theorem State.rideSpindle_kept {s : State} (hw₀ : subMask 2295738365538220146643426022971454223956178892521600948574957560868730285559659352021840668155061989283841 w₀ = true) (h₀ : Kept w₀ s₀ s) :
    Kept w₀ s₀ (State.rideSpindle s) := by
  refine Kept.trans (a := 2295738365538220146643426022971454223956178892521600948574957560868730285559659352021840668155061989283841) (t := s) ?_ hw₀ h₀
  clear h₀ hw₀
  unfold State.rideSpindle; try dsimp only
  repeat' first | (with_reducible first | assumption | exact Kept.refl _ _ | refine Kept.ite ?_ ?_ | refine State.spGo_kept ?_ ?_) | (show Nat.testBit _ _ = true; rfl) | (show subMask _ _ = true; rfl) | (intro _; try dsimp only) | split | dsimp only

theorem execRideThroughEnter_kept {s : State} (hw₀ : subMask 44384376588039399582385106671490655061721386444825897990853955288628042053845804166696741854428259153012184182538873544675706814077 w₀ = true) (h₀ : Kept w₀ s₀ s) :
    KeptR w₀ s₀ (execRideThroughEnter s) := by
  refine ⟨fun t₁ e₁ => Kept.trans (a := 44384376588039399582385106671490655061721386444825897990853955288628042053845804166696741854428259153012184182538873544675706814077) (t := s) ?_ hw₀ h₀⟩; refine KeptR.keep (?_ : KeptR 44384376588039399582385106671490655061721386444825897990853955288628042053845804166696741854428259153012184182538873544675706814077 s (execRideThroughEnter s)) t₁ e₁; clear e₁ t₁
  clear h₀ hw₀
  unfold execRideThroughEnter; try dsimp only
  repeat' first | (with_reducible first | assumption | exact Kept.refl _ _ | refine KeptR.next ?_ | exact KeptR.fault | exact KeptR.refused | refine KeptR.ite ?_ ?_ | refine Kept.ite ?_ ?_ | refine State.dropGates_kept ?_ ?_ | refine State.logFree_kept ?_ ?_ | apply State.motBit_kept | refine State.retractAll_kept ?_ ?_ | refine State.rideSpindle_kept ?_ ?_ | refine State.rideUnitsOff_kept ?_ ?_ | refine State.setMode_kept ?_ ?_ | refine State.updMot_kept ?_ ?_ | refine State.updSys_kept ?_ ?_ ?_ | refine State.updWrp_kept ?_ ?_) | (show Nat.testBit _ _ = true; rfl) | (show subMask _ _ = true; rfl) | exact inFam_MOT_STATUS | exact wrsOk_nil | apply wrsOk_cons | exact SysU.holds_same rfl rfl | (intro _; try dsimp only) | split | dsimp only

theorem execRideThroughFlashDone_kept {s : State} (hw₀ : subMask 2101260 w₀ = true) (h₀ : Kept w₀ s₀ s) :
    KeptR w₀ s₀ (execRideThroughFlashDone s) := by
  refine ⟨fun t₁ e₁ => Kept.trans (a := 2101260) (t := s) ?_ hw₀ h₀⟩; refine KeptR.keep (?_ : KeptR 2101260 s (execRideThroughFlashDone s)) t₁ e₁; clear e₁ t₁
  clear h₀ hw₀
  unfold execRideThroughFlashDone; try dsimp only
  repeat' first | (with_reducible first | assumption | exact Kept.refl _ _ | refine KeptR.next ?_ | exact KeptR.fault | exact KeptR.refused | refine KeptR.ite ?_ ?_ | refine Kept.ite ?_ ?_ | refine State.updMot_kept ?_ ?_ | refine State.updPersist_kept ?_ ?_ | refine State.updWatch_kept ?_ ?_ ?_ | refine State.writeSummary_kept ?_ ?_) | (show Nat.testBit _ _ = true; rfl) | (show subMask _ _ = true; rfl) | exact ⟨fun _ h => h⟩ | exact ⟨fun _ h => List.mem_append_left _ h⟩ | (intro _; try dsimp only) | split | dsimp only | refine Kept.lit rfl (.inr rfl) rfl rfl rfl rfl (.inr rfl) (.inr rfl) (.inr rfl) (.inr rfl) (.inr rfl) (.inr rfl) (.inl rfl) (.inr rfl) (.inr rfl) (.inr rfl) (.inr rfl) (.inr rfl) (.inr rfl) (.inr rfl) (.inr rfl) (.inl rfl) (.inr rfl) (.inr rfl) (.inr rfl) ?_

theorem execRideThroughEnd_kept {s : State} (hw₀ : subMask 44384376588039399583131943069469070478748511986672254548974504885550985923303581531585597388252821032019421566477701754903666432009 w₀ = true) (h₀ : Kept w₀ s₀ s) :
    KeptR w₀ s₀ (execRideThroughEnd s) := by
  refine ⟨fun t₁ e₁ => Kept.trans (a := 44384376588039399583131943069469070478748511986672254548974504885550985923303581531585597388252821032019421566477701754903666432009) (t := s) ?_ hw₀ h₀⟩; refine KeptR.keep (?_ : KeptR 44384376588039399583131943069469070478748511986672254548974504885550985923303581531585597388252821032019421566477701754903666432009 s (execRideThroughEnd s)) t₁ e₁; clear e₁ t₁
  clear h₀ hw₀
  unfold execRideThroughEnd; try dsimp only
  repeat' first | (with_reducible first | assumption | exact Kept.refl _ _ | refine KeptR.next ?_ | exact KeptR.fault | exact KeptR.refused | refine KeptR.ite ?_ ?_ | refine Kept.ite ?_ ?_ | refine State.freeNext_kept ?_ ?_ | refine State.setMode_kept ?_ ?_ | refine State.spGo_kept ?_ ?_ | refine State.stopBeat_kept ?_ ?_ | refine State.updMot_kept ?_ ?_ | apply State.wr_kept | refine State.zeroKeys_kept ?_ ?_) | (show Nat.testBit _ _ = true; rfl) | (show subMask _ _ = true; rfl) | exact inFam_MOT_RT_STAT | exact wrsOk_nil | apply wrsOk_cons | (intro _; try dsimp only) | split | dsimp only

theorem execHelmCoreFault_kept {core : Fin 3} {s : State} (hw₀ : subMask 44384713757731871763589207486774700033120374772764031638184406308126848246420176735466147485429607794684086568281528341342552457225 w₀ = true) (h₀ : Kept w₀ s₀ s) :
    KeptR w₀ s₀ (execHelmCoreFault core s) := by
  refine ⟨fun t₁ e₁ => Kept.trans (a := 44384713757731871763589207486774700033120374772764031638184406308126848246420176735466147485429607794684086568281528341342552457225) (t := s) ?_ hw₀ h₀⟩; refine KeptR.keep (?_ : KeptR 44384713757731871763589207486774700033120374772764031638184406308126848246420176735466147485429607794684086568281528341342552457225 s (execHelmCoreFault core s)) t₁ e₁; clear e₁ t₁
  clear h₀ hw₀
  unfold execHelmCoreFault; try dsimp only
  repeat' first | (with_reducible first | assumption | exact Kept.refl _ _ | refine KeptR.next ?_ | exact KeptR.fault | exact KeptR.refused | refine KeptR.ite ?_ ?_ | refine Kept.ite ?_ ?_ | refine State.helmFault_kept ?_ ?_) | (show Nat.testBit _ _ = true; rfl) | (show subMask _ _ = true; rfl) | (intro _; try dsimp only) | split | dsimp only

theorem execHelmSpareSelftest_kept {pass : Bool} {s : State} (hw₀ : subMask 44384713757731871763589207486774700033120374772764031638184406308126848246420176735466147485429607794684086568280375419837945610249 w₀ = true) (h₀ : Kept w₀ s₀ s) :
    KeptR w₀ s₀ (execHelmSpareSelftest pass s) := by
  refine ⟨fun t₁ e₁ => Kept.trans (a := 44384713757731871763589207486774700033120374772764031638184406308126848246420176735466147485429607794684086568280375419837945610249) (t := s) ?_ hw₀ h₀⟩; refine KeptR.keep (?_ : KeptR 44384713757731871763589207486774700033120374772764031638184406308126848246420176735466147485429607794684086568280375419837945610249 s (execHelmSpareSelftest pass s)) t₁ e₁; clear e₁ t₁
  clear h₀ hw₀
  unfold execHelmSpareSelftest; try dsimp only
  repeat' first | (with_reducible first | assumption | exact Kept.refl _ _ | refine KeptR.next ?_ | exact KeptR.fault | exact KeptR.refused | refine KeptR.ite ?_ ?_ | refine Kept.ite ?_ ?_ | refine State.spareFault_kept ?_ ?_) | (show Nat.testBit _ _ = true; rfl) | (show subMask _ _ = true; rfl) | (intro _; try dsimp only) | split | dsimp only

theorem execHelmCheckpoint_kept {s : State} (hw₀ : subMask 44384713757731871763589207486774700033120374772764031638184406308126848246420176735466147485429607794684086568281528341342552457229 w₀ = true) (h₀ : Kept w₀ s₀ s) :
    KeptR w₀ s₀ (execHelmCheckpoint s) := by
  refine ⟨fun t₁ e₁ => Kept.trans (a := 44384713757731871763589207486774700033120374772764031638184406308126848246420176735466147485429607794684086568281528341342552457229) (t := s) ?_ hw₀ h₀⟩; refine KeptR.keep (?_ : KeptR 44384713757731871763589207486774700033120374772764031638184406308126848246420176735466147485429607794684086568281528341342552457229 s (execHelmCheckpoint s)) t₁ e₁; clear e₁ t₁
  clear h₀ hw₀
  unfold execHelmCheckpoint; try dsimp only
  repeat' first | (with_reducible first | assumption | exact Kept.refl _ _ | refine KeptR.next ?_ | exact KeptR.fault | exact KeptR.refused | refine KeptR.ite ?_ ?_ | refine Kept.ite ?_ ?_ | refine State.helmFault_kept ?_ ?_ | refine State.updSys_kept ?_ ?_ ?_) | (show Nat.testBit _ _ = true; rfl) | (show subMask _ _ = true; rfl) | exact SysU.holds_same rfl rfl | (intro _; try dsimp only) | split | dsimp only

theorem execOpSecondsPersist_kept {s : State} (hw₀ : subMask 4 w₀ = true) (h₀ : Kept w₀ s₀ s) :
    KeptR w₀ s₀ (execOpSecondsPersist s) := by
  refine ⟨fun t₁ e₁ => Kept.trans (a := 4) (t := s) ?_ hw₀ h₀⟩; refine KeptR.keep (?_ : KeptR 4 s (execOpSecondsPersist s)) t₁ e₁; clear e₁ t₁
  clear h₀ hw₀
  unfold execOpSecondsPersist; try dsimp only
  repeat' first | (with_reducible first | assumption | exact Kept.refl _ _ | refine KeptR.next ?_ | exact KeptR.fault | exact KeptR.refused | refine KeptR.ite ?_ ?_ | refine Kept.ite ?_ ?_ | refine State.updPersist_kept ?_ ?_) | (show Nat.testBit _ _ = true; rfl) | (show subMask _ _ = true; rfl) | (intro _; try dsimp only) | split | dsimp only

end Sys2Proof.Machine
end

