-- ==== Sys2Proof/Laws/KeptBell.lean ====
section
/-! SUPPORT. What the operations and meanings of Machine/Bell.lean keep (the relation Kept). -/

set_option Elab.async false

namespace Sys2Proof.Machine
open Reg
set_option linter.unusedVariables false
set_option linter.unusedTactic false
set_option linter.unreachableTactic false
set_option maxHeartbeats 400000

variable {w₀ : Nat} {s₀ : State}

theorem State.advance_kept {s : State} {d : Nat} (hw₀ : subMask 4 w₀ = true) (h₀ : Kept w₀ s₀ s) :
    Kept w₀ s₀ (State.advance s d) := by
  refine Kept.trans (a := 4) (t := s) ?_ hw₀ h₀
  clear h₀ hw₀
  unfold State.advance; try dsimp only
  repeat' first | (with_reducible first | assumption | exact Kept.refl _ _ | refine Kept.ite ?_ ?_ | refine State.updSys_kept ?_ ?_ ?_) | (show Nat.testBit _ _ = true; rfl) | (show subMask _ _ = true; rfl) | exact SysU.holds_same rfl rfl | (intro _; try dsimp only) | split | dsimp only

theorem State.timerEdge_kept {s : State} (hw₀ : subMask 5214812099416284380847220962328008092291759087784796801628519550347216127394141967829501477893 w₀ = true) (h₀ : Kept w₀ s₀ s) :
    Kept w₀ s₀ (State.timerEdge s) := by
  refine Kept.trans (a := 5214812099416284380847220962328008092291759087784796801628519550347216127394141967829501477893) (t := s) ?_ hw₀ h₀
  clear h₀ hw₀
  unfold State.timerEdge; try dsimp only
  repeat' first | (with_reducible first | assumption | exact Kept.refl _ _ | refine Kept.ite ?_ ?_ | refine State.advance_kept ?_ ?_ | apply State.raiseBit_kept | refine State.when_kept ?_ ?_ | apply State.wr_kept) | (show Nat.testBit _ _ = true; rfl) | (show subMask _ _ = true; rfl) | exact inFam_SRV_GSTATUS | exact inFam_SRV_PERIOD | exact wrsOk_nil | apply wrsOk_cons | (intro _; try dsimp only) | split | dsimp only | refine Kept.lit rfl (.inr rfl) rfl rfl rfl rfl (.inr rfl) (.inr rfl) (.inr rfl) (.inr rfl) (.inl rfl) (.inr rfl) (.inr rfl) (.inr rfl) (.inr rfl) (.inr rfl) (.inr rfl) (.inr rfl) (.inr rfl) (.inr rfl) (.inr rfl) (.inr rfl) (.inl rfl) (.inr rfl) (.inr rfl) ?_

theorem State.trefEdge_kept {s : State} (hw₀ : subMask 6388654080779031988059412790273912257597667749634792566057595484287678351382764744767684215809 w₀ = true) (h₀ : Kept w₀ s₀ s) :
    Kept w₀ s₀ (State.trefEdge s) := by
  refine Kept.trans (a := 6388654080779031988059412790273912257597667749634792566057595484287678351382764744767684215809) (t := s) ?_ hw₀ h₀
  clear h₀ hw₀
  unfold State.trefEdge; try dsimp only
  repeat' first | (with_reducible first | assumption | exact Kept.refl _ _ | refine Kept.ite ?_ ?_ | refine State.findTref_kept ?_ ?_ | refine State.trefHandover_kept ?_ ?_ | refine State.when_kept ?_ ?_) | (show Nat.testBit _ _ = true; rfl) | (show subMask _ _ = true; rfl) | (intro _; try dsimp only) | split | dsimp only

theorem State.speedEdge_kept {s : State} (hw₀ : subMask 44384376587918356619345083307102957096416090371150194921102159188125443433079607817793423318825179932278280650077337263253370708553 w₀ = true) (h₀ : Kept w₀ s₀ s) :
    Kept w₀ s₀ (State.speedEdge s) := by
  refine Kept.trans (a := 44384376587918356619345083307102957096416090371150194921102159188125443433079607817793423318825179932278280650077337263253370708553) (t := s) ?_ hw₀ h₀
  clear h₀ hw₀
  unfold State.speedEdge; try dsimp only
  repeat' first | (with_reducible first | assumption | exact Kept.refl _ _ | refine Kept.ite ?_ ?_ | refine State.dropGates_kept ?_ ?_ | refine State.updWrp_kept ?_ ?_ | apply State.wrpBits_kept) | (show Nat.testBit _ _ = true; rfl) | (show subMask _ _ = true; rfl) | exact inFam_WRP_STATUS | exact wrsOk_nil | apply wrsOk_cons | (intro _; try dsimp only) | split | dsimp only

theorem State.beatEdge_kept {s : State} (hw₀ : subMask 150306725297525326584926758194517569752043683130132471725266622178061377607334940381676735896625196994048036865 w₀ = true) (h₀ : Kept w₀ s₀ s) :
    Kept w₀ s₀ (State.beatEdge s) := by
  refine Kept.trans (a := 150306725297525326584926758194517569752043683130132471725266622178061377607334940381676735896625196994048036865) (t := s) ?_ hw₀ h₀
  clear h₀ hw₀
  unfold State.beatEdge; try dsimp only
  repeat' first | (with_reducible first | assumption | exact Kept.refl _ _ | refine Kept.ite ?_ ?_ | refine State.emit_kept ?_ ?_ | apply State.setB_kept | refine State.updMot_kept ?_ ?_ | refine State.when_kept ?_ ?_) | (show Nat.testBit _ _ = true; rfl) | (show subMask _ _ = true; rfl) | exact inFam_MOT_BEAT | exact wrsOk_nil | apply wrsOk_cons | (intro _; try dsimp only) | split | dsimp only

theorem State.bellPins_kept {s : State} (hw₀ : subMask 4 w₀ = true) (h₀ : Kept w₀ s₀ s) :
    Kept w₀ s₀ (State.bellPins s) := by
  refine Kept.trans (a := 4) (t := s) ?_ hw₀ h₀
  clear h₀ hw₀
  unfold State.bellPins; try dsimp only
  repeat' first | (with_reducible first | assumption | exact Kept.refl _ _ | refine Kept.ite ?_ ?_ | refine State.forEach_kept ?_ ?_ | refine State.updSys_kept ?_ ?_ ?_) | (show Nat.testBit _ _ = true; rfl) | (show subMask _ _ = true; rfl) | exact SysU.holds_same rfl rfl | (intro _; try dsimp only) | split | dsimp only

theorem State.loadEdge_kept {s : State} (hw₀ : subMask 50062259811770590508823517127276640479068420101121351356141620062722317147399380495435242145793 w₀ = true) (h₀ : Kept w₀ s₀ s) :
    Kept w₀ s₀ (State.loadEdge s) := by
  refine Kept.trans (a := 50062259811770590508823517127276640479068420101121351356141620062722317147399380495435242145793) (t := s) ?_ hw₀ h₀
  clear h₀ hw₀
  unfold State.loadEdge; try dsimp only
  repeat' first | (with_reducible first | assumption | exact Kept.refl _ _ | refine Kept.ite ?_ ?_ | refine State.forEach_kept ?_ ?_ | refine State.showLoaded_kept ?_ ?_ | refine State.updAct_kept ?_ ?_ | apply State.wr_kept) | (show Nat.testBit _ _ = true; rfl) | (show subMask _ _ = true; rfl) | exact inFam_SRV_STATUS | exact wrsOk_nil | apply wrsOk_cons | (intro _; try dsimp only) | split | dsimp only

theorem State.unitEdges_kept {s : State} (hw₀ : subMask 22835963083295358096932575511191922182123958929 w₀ = true) (h₀ : Kept w₀ s₀ s) : Kept w₀ s₀ (State.unitEdges s) := by
  refine Kept.trans (a := 22835963083295358096932575511191922182123958929) (t := s) ?_ hw₀ h₀
  have clean : ∀ u : State, Kept 22835963083295358096932575511191922182123958929 u ({ u with mem := { u.mem with planeErr := [] } } : State) := by
    intro u
    exact State.updMem_kept (s := u) (f := fun m => { m with planeErr := [] }) (fun _ => ⟨id⟩) rfl (Kept.refl _ _)
  unfold State.unitEdges; dsimp only
  refine Kept.lit rfl (.inr rfl) rfl rfl rfl rfl (.inr rfl) (.inl rfl) (.inr rfl) (.inr rfl) (.inr rfl) (.inr rfl) (.inr rfl) (.inl rfl) (.inr rfl)
        (.inr rfl) (.inr rfl) (.inr rfl) (.inr rfl) (.inr rfl) (.inr rfl) (.inr rfl) (.inr rfl) (.inr rfl) (.inr rfl) ?_
  refine State.when_kept (fun u => State.wrs_kept (wrsOk_cons inFam_MEM_PLANE_STAT rfl (wrsOk_cons inFam_MEM_PLANE_STAT rfl wrsOk_nil)) rfl (clean u)) (State.updWrp_kept rfl (State.updMot_kept rfl (Kept.refl _ _)))

theorem State.grantBudget_kept {s : State} (hw₀ : subMask 232714960596090556818075280417851283556669559025281524212112995984653540131073 w₀ = true) (h₀ : Kept w₀ s₀ s) :
    Kept w₀ s₀ (State.grantBudget s) := by
  refine Kept.trans (a := 232714960596090556818075280417851283556669559025281524212112995984653540131073) (t := s) ?_ hw₀ h₀
  clear h₀ hw₀
  unfold State.grantBudget; try dsimp only
  repeat' first | (with_reducible first | assumption | exact Kept.refl _ _ | refine Kept.ite ?_ ?_ | apply State.decBit_kept | apply State.inc_kept | refine State.updDec_kept ?_ ?_ | refine State.when_kept ?_ ?_ | refine State.wrs_kept ?_ ?_ ?_) | (show Nat.testBit _ _ = true; rfl) | (show subMask _ _ = true; rfl) | exact inFam_DEC_BUDGET_STAT | exact inFam_DEC_ERR_CNT | exact inFam_DEC_STATUS | exact wrsOk_nil | apply wrsOk_cons | (intro _; try dsimp only) | split | dsimp only

theorem State.traceRec_kept {s : State} {r : CRec} (hw₀ : subMask 256 w₀ = true) (h₀ : Kept w₀ s₀ s) :
    Kept w₀ s₀ (State.traceRec s r) := by
  refine Kept.trans (a := 256) (t := s) ?_ hw₀ h₀
  clear h₀ hw₀
  unfold State.traceRec; try dsimp only
  repeat' first | (with_reducible first | assumption | exact Kept.refl _ _ | refine Kept.ite ?_ ?_ | refine State.updDec_kept ?_ ?_) | (show Nat.testBit _ _ = true; rfl) | (show subMask _ _ = true; rfl) | (intro _; try dsimp only) | split | dsimp only

theorem State.recovered_kept {s : State} {r : CRec} (hw₀ : subMask 1573136 w₀ = true) (h₀ : Kept w₀ s₀ s) :
    Kept w₀ s₀ (State.recovered s r) := by
  refine Kept.trans (a := 1573136) (t := s) ?_ hw₀ h₀
  clear h₀ hw₀
  unfold State.recovered; try dsimp only
  repeat' first | (with_reducible first | assumption | exact Kept.refl _ _ | refine Kept.ite ?_ ?_ | refine State.markValid_kept ?_ ?_ | refine State.updCmd_kept ?_ ?_ | refine State.updDec_kept ?_ ?_ | refine State.updSec_kept ?_ ?_) | (show Nat.testBit _ _ = true; rfl) | (show subMask _ _ = true; rfl) | (intro _; try dsimp only) | split | dsimp only | refine Kept.lit rfl (.inr rfl) rfl rfl rfl rfl (.inr rfl) (.inr rfl) (.inl rfl) (.inr rfl) (.inr rfl) (.inr rfl) (.inr rfl) (.inr rfl) (.inr rfl) (.inr rfl) (.inr rfl) (.inr rfl) (.inr rfl) (.inl rfl) (.inl rfl) (.inr rfl) (.inr rfl) (.inr rfl) (.inr rfl) ?_

theorem State.sweepRec_kept {s : State} {r : CRec} (hw₀ : subMask 1573136 w₀ = true) (h₀ : Kept w₀ s₀ s) :
    Kept w₀ s₀ (State.sweepRec s r) := by
  refine Kept.trans (a := 1573136) (t := s) ?_ hw₀ h₀
  clear h₀ hw₀
  unfold State.sweepRec; try dsimp only
  repeat' first | (with_reducible first | assumption | exact Kept.refl _ _ | refine Kept.ite ?_ ?_ | refine State.recovered_kept ?_ ?_ | refine State.traceRec_kept ?_ ?_ | refine State.updSec_kept ?_ ?_) | (show Nat.testBit _ _ = true; rfl) | (show subMask _ _ = true; rfl) | (intro _; try dsimp only) | split | dsimp only

theorem State.sweep_kept {s : State} {n : Nat} (hw₀ : subMask 1573136 w₀ = true) (h₀ : Kept w₀ s₀ s) :
    Kept w₀ s₀ (State.sweep s n) := by
  refine Kept.trans (a := 1573136) (t := s) ?_ hw₀ h₀
  clear h₀ hw₀
  unfold State.sweep; try dsimp only
  repeat' first | (with_reducible first | assumption | exact Kept.refl _ _ | refine Kept.ite ?_ ?_ | refine State.forEach_kept ?_ ?_ | refine State.postRec_kept ?_ ?_ | refine State.sweepRec_kept ?_ ?_ | refine State.updDec_kept ?_ ?_) | (show Nat.testBit _ _ = true; rfl) | (show subMask _ _ = true; rfl) | (intro _; try dsimp only) | split | dsimp only

theorem State.deepAdmission_kept {s : State} (hw₀ : subMask 116018245661607828617757647088783001423295902604440643266097149601678589690113 w₀ = true) (h₀ : Kept w₀ s₀ s) :
    Kept w₀ s₀ (State.deepAdmission s) := by
  refine Kept.trans (a := 116018245661607828617757647088783001423295902604440643266097149601678589690113) (t := s) ?_ hw₀ h₀
  clear h₀ hw₀
  unfold State.deepAdmission; try dsimp only
  repeat' first | (with_reducible first | assumption | exact Kept.refl _ _ | refine Kept.ite ?_ ?_ | refine State.backlogReread_kept ?_ ?_ | refine State.forEach_kept ?_ ?_ | refine State.rung3_kept ?_ ?_ | refine State.updDec_kept ?_ ?_ | refine State.foldl_kept ?_ ?_) | (show Nat.testBit _ _ = true; rfl) | (show subMask _ _ = true; rfl) | (intro _; try dsimp only) | split | dsimp only

theorem State.unrecovered_kept {s : State} {d : DSect} (hw₀ : subMask 44384713757731871763589207486774700033120374772764031869994741207050872287748808832937056761995495064765293873835100022230406529289 w₀ = true) (h₀ : Kept w₀ s₀ s) :
    Kept w₀ s₀ (State.unrecovered s d) := by
  refine Kept.trans (a := 44384713757731871763589207486774700033120374772764031869994741207050872287748808832937056761995495064765293873835100022230406529289) (t := s) ?_ hw₀ h₀
  clear h₀ hw₀
  unfold State.unrecovered; try dsimp only
  repeat' first | (with_reducible first | assumption | exact Kept.refl _ _ | refine Kept.ite ?_ ?_ | apply State.decBit_kept | apply State.inc_kept | refine State.logFree_kept ?_ ?_ | refine State.postRec_kept ?_ ?_ | refine State.raiseSrc_kept ?_ ?_) | (show Nat.testBit _ _ = true; rfl) | (show subMask _ _ = true; rfl) | exact inFam_DEC_ERR_CNT | exact inFam_DEC_STATUS | exact wrsOk_nil | apply wrsOk_cons | (intro _; try dsimp only) | split | dsimp only | refine Kept.lit rfl (.inr rfl) rfl rfl rfl rfl (.inr rfl) (.inr rfl) (.inl rfl) (.inr rfl) (.inr rfl) (.inr rfl) (.inr rfl) (.inr rfl) (.inr rfl) (.inr rfl) (.inr rfl) (.inl rfl) (.inr rfl) (.inr rfl) (.inl rfl) (.inr rfl) (.inl rfl) (.inl rfl) (.inr rfl) ?_

theorem State.scheduleReread_kept {s : State} {d : DSect} {charged : Bool} (hw₀ : subMask 44384713757731871763589207486774700033120374772764031985786830444367067711319793841624964615265479730405857913292684030143536693513 w₀ = true) (h₀ : Kept w₀ s₀ s) :
    Kept w₀ s₀ (State.scheduleReread s d charged) := by
  refine Kept.trans (a := 44384713757731871763589207486774700033120374772764031985786830444367067711319793841624964615265479730405857913292684030143536693513) (t := s) ?_ hw₀ h₀
  clear h₀ hw₀
  unfold State.scheduleReread; try dsimp only
  repeat' first | (with_reducible first | assumption | exact Kept.refl _ _ | refine Kept.ite ?_ ?_ | apply State.inc_kept | refine State.unrecovered_kept ?_ ?_ | refine State.updSec_kept ?_ ?_) | (show Nat.testBit _ _ = true; rfl) | (show subMask _ _ = true; rfl) | exact inFam_DEC_REREAD_CNT | exact wrsOk_nil | apply wrsOk_cons | (intro _; try dsimp only) | split | dsimp only

theorem State.scheduleRereads_kept {s : State} (hw₀ : subMask 44384713757731871763589207486774700033120374772764031985786830444367067711319793841624964615265479730405857913292684030143536693513 w₀ = true) (h₀ : Kept w₀ s₀ s) :
    Kept w₀ s₀ (State.scheduleRereads s) := by
  refine Kept.trans (a := 44384713757731871763589207486774700033120374772764031985786830444367067711319793841624964615265479730405857913292684030143536693513) (t := s) ?_ hw₀ h₀
  clear h₀ hw₀
  unfold State.scheduleRereads; try dsimp only
  repeat' first | (with_reducible first | assumption | exact Kept.refl _ _ | refine Kept.ite ?_ ?_ | refine State.forEach_kept ?_ ?_ | refine State.scheduleReread_kept ?_ ?_ | refine State.updDec_kept ?_ ?_) | (show Nat.testBit _ _ = true; rfl) | (show subMask _ _ = true; rfl) | (intro _; try dsimp only) | split | dsimp only

theorem State.engineStops_kept {s : State} (hw₀ : subMask 948568795032094272909893509191171341133987714380927500611236528192824358010363905 w₀ = true) (h₀ : Kept w₀ s₀ s) :
    Kept w₀ s₀ (State.engineStops s) := by
  refine Kept.trans (a := 948568795032094272909893509191171341133987714380927500611236528192824358010363905) (t := s) ?_ hw₀ h₀
  clear h₀ hw₀
  unfold State.engineStops; try dsimp only
  repeat' first | (with_reducible first | assumption | exact Kept.refl _ _ | refine Kept.ite ?_ ?_ | refine State.forEach_kept ?_ ?_ | refine State.updSeq_kept ?_ ?_ | refine State.wrs_kept ?_ ?_ ?_) | (show Nat.testBit _ _ = true; rfl) | (show subMask _ _ = true; rfl) | exact inFam_SEQ_STATUS | exact wrsOk_nil | apply wrsOk_cons | (intro _; try dsimp only) | split | dsimp only

theorem State.nextEnds_kept {s : State} (hw₀ : subMask 1942668892225729070919461906823518906642406839052139521251812409738904285205208498177 w₀ = true) (h₀ : Kept w₀ s₀ s) :
    Kept w₀ s₀ (State.nextEnds s) := by
  refine Kept.trans (a := 1942668892225729070919461906823518906642406839052139521251812409738904285205208498177) (t := s) ?_ hw₀ h₀
  clear h₀ hw₀
  unfold State.nextEnds; try dsimp only
  repeat' first | (with_reducible first | assumption | exact Kept.refl _ _ | refine Kept.ite ?_ ?_ | refine State.forEach_kept ?_ ?_ | refine State.showEnds_kept ?_ ?_) | (show Nat.testBit _ _ = true; rfl) | (show subMask _ _ = true; rfl) | (intro _; try dsimp only) | split | dsimp only

theorem State.edge_kept {s : State} (hw₀ : subMask 44384713840363867862520591520143667958895173941531047610617194905974408788371757703780874998420188211784096108790664644066985787135 w₀ = true) (h₀ : Kept w₀ s₀ s) :
    Kept w₀ s₀ (State.edge s) := by
  refine Kept.trans (a := 44384713840363867862520591520143667958895173941531047610617194905974408788371757703780874998420188211784096108790664644066985787135) (t := s) ?_ hw₀ h₀
  clear h₀ hw₀
  unfold State.edge; try dsimp only
  repeat' first | (with_reducible first | assumption | exact Kept.refl _ _ | refine Kept.ite ?_ ?_ | refine State.anchorShort_kept ?_ ?_ | refine State.beatEdge_kept ?_ ?_ | refine State.bellGlue_kept ?_ ?_ | refine State.bellPins_kept ?_ ?_ | refine State.engineStops_kept ?_ ?_ | refine State.idleTick_kept ?_ ?_ | refine State.loadEdge_kept ?_ ?_ | refine State.speedEdge_kept ?_ ?_ | refine State.timerEdge_kept ?_ ?_ | refine State.trefEdge_kept ?_ ?_ | refine State.unitEdges_kept ?_ ?_) | (show Nat.testBit _ _ = true; rfl) | (show subMask _ _ = true; rfl) | (intro _; try dsimp only) | split | dsimp only | refine Kept.lit rfl (.inl rfl) rfl rfl rfl rfl (.inl rfl) (.inl rfl) (.inr rfl) (.inl rfl) (.inl rfl) (.inl rfl) (.inl rfl) (.inl rfl) (.inr rfl) (.inr rfl) (.inr rfl) (.inl rfl) (.inr rfl) (.inl rfl) (.inl rfl) (.inr rfl) (.inl rfl) (.inl rfl) (.inr rfl) ?_

theorem execBellEdge_kept {swept : Nat} {s : State} (hw₀ : subMask 44384713840363867862520591520143667958895173943473716852940136168601168833466509787631099911656606931146053832409594503002217660415 w₀ = true) (h₀ : Kept w₀ s₀ s) :
    KeptR w₀ s₀ (execBellEdge swept s) := by
  refine ⟨fun t₁ e₁ => Kept.trans (a := 44384713840363867862520591520143667958895173943473716852940136168601168833466509787631099911656606931146053832409594503002217660415) (t := s) ?_ hw₀ h₀⟩; refine KeptR.keep (?_ : KeptR 44384713840363867862520591520143667958895173943473716852940136168601168833466509787631099911656606931146053832409594503002217660415 s (execBellEdge swept s)) t₁ e₁; clear e₁ t₁
  clear h₀ hw₀
  unfold execBellEdge; try dsimp only
  repeat' first | (with_reducible first | assumption | exact Kept.refl _ _ | refine KeptR.next ?_ | exact KeptR.fault | exact KeptR.refused | refine KeptR.ite ?_ ?_ | refine Kept.ite ?_ ?_ | refine State.deepAdmission_kept ?_ ?_ | refine State.dispatchDeep_kept ?_ ?_ | refine State.edge_kept ?_ ?_ | refine State.grantBudget_kept ?_ ?_ | refine State.nextEnds_kept ?_ ?_ | refine State.scheduleRereads_kept ?_ ?_ | refine State.sweep_kept ?_ ?_) | (show Nat.testBit _ _ = true; rfl) | (show subMask _ _ = true; rfl) | (intro _; try dsimp only) | split | dsimp only

theorem execCollectLate_kept {s : State} (hw₀ : subMask 44384713757731871763589207486774700033120374772764031638410562732418481440606838815561241055455525733484165794919932006404146200585 w₀ = true) (h₀ : Kept w₀ s₀ s) :
    KeptR w₀ s₀ (execCollectLate s) := by
  refine ⟨fun t₁ e₁ => Kept.trans (a := 44384713757731871763589207486774700033120374772764031638410562732418481440606838815561241055455525733484165794919932006404146200585) (t := s) ?_ hw₀ h₀⟩; refine KeptR.keep (?_ : KeptR 44384713757731871763589207486774700033120374772764031638410562732418481440606838815561241055455525733484165794919932006404146200585 s (execCollectLate s)) t₁ e₁; clear e₁ t₁
  clear h₀ hw₀
  unfold execCollectLate; try dsimp only
  repeat' first | (with_reducible first | assumption | exact Kept.refl _ _ | refine KeptR.next ?_ | exact KeptR.fault | exact KeptR.refused | refine KeptR.ite ?_ ?_ | refine Kept.ite ?_ ?_ | apply State.decBit_kept | refine State.raise0_kept ?_ ?_) | (show Nat.testBit _ _ = true; rfl) | (show subMask _ _ = true; rfl) | exact inFam_DEC_STATUS | exact wrsOk_nil | apply wrsOk_cons | (intro _; try dsimp only) | split | dsimp only

end Sys2Proof.Machine
end

