-- ==== Sys2Proof/Laws/KeptBuffer.lean ====
section
/-! SUPPORT. What the operations and meanings of Machine/Buffer.lean keep (the relation Kept). -/

set_option Elab.async false

namespace Sys2Proof.Machine
open Reg
set_option linter.unusedVariables false
set_option linter.unusedTactic false
set_option linter.unreachableTactic false
set_option maxHeartbeats 400000

variable {w₀ : Nat} {s₀ : State}

theorem State.fencePlane_kept {s : State} {p : Fin 2} {injected : Bool} (hw₀ : subMask 44384713757731871763589207486774700033120374772764031638184420111619541827547751605000708024341879537939025146220643535502427947017 w₀ = true) (h₀ : Kept w₀ s₀ s) :
    Kept w₀ s₀ (State.fencePlane s p injected) := by
  refine Kept.trans (a := 44384713757731871763589207486774700033120374772764031638184420111619541827547751605000708024341879537939025146220643535502427947017) (t := s) ?_ hw₀ h₀
  clear h₀ hw₀
  unfold State.fencePlane; try dsimp only
  repeat' first | (with_reducible first | assumption | exact Kept.refl _ _ | refine Kept.ite ?_ ?_ | apply State.clr_kept | refine State.markFenced_kept ?_ ?_ | apply State.raiseBit_kept | refine State.raiseSrc_kept ?_ ?_ | apply State.setB_kept) | (show Nat.testBit _ _ = true; rfl) | (show subMask _ _ = true; rfl) | exact inFam_MEM_PLANE_STAT | exact inFam_MEM_STATUS | exact inFam_RCH_RET_STAT | exact wrsOk_nil | apply wrsOk_cons | (intro _; try dsimp only) | split | dsimp only

theorem execXbarReadBurst_kept {port : Fin 16} {chan : Byte} {page : Fin 16384} {beat : Fin 128} {beats : Nat} {upsets : List (Nat × Nat)} {s : State} (hw₀ : subMask 44384713757731871763589207486774700033120374772764031638184406308126848246420176735497546956447210395007430521264230181272276828185 w₀ = true) (h₀ : Kept w₀ s₀ s) :
    KeptR w₀ s₀ (execXbarReadBurst port chan page beat beats upsets s) := by
  refine ⟨fun t₁ e₁ => Kept.trans (a := 44384713757731871763589207486774700033120374772764031638184406308126848246420176735497546956447210395007430521264230181272276828185) (t := s) ?_ hw₀ h₀⟩; refine KeptR.keep (?_ : KeptR 44384713757731871763589207486774700033120374772764031638184406308126848246420176735497546956447210395007430521264230181272276828185 s (execXbarReadBurst port chan page beat beats upsets s)) t₁ e₁; clear e₁ t₁
  clear h₀ hw₀
  unfold execXbarReadBurst; try dsimp only
  repeat' first | (with_reducible first | assumption | exact Kept.refl _ _ | refine KeptR.next ?_ | exact KeptR.fault | exact KeptR.refused | refine KeptR.ite ?_ ?_ | refine Kept.ite ?_ ?_ | refine State.emit_kept ?_ ?_ | refine State.readPage_kept ?_ ?_ | refine State.updMem_kept ?_ ?_ ?_ | refine State.readPage_keptp (by assumption) ?_ ?_) | (show Nat.testBit _ _ = true; rfl) | (show subMask _ _ = true; rfl) | refine MemU.store_holds ?_ | refine MemU.flip_holds ?_ | refine MemU.storeList_holds ?_ | refine MemU.flipAll_holds ?_ | refine MemU.foldl_holds ?_ ?_ | exact MemU.holds_of rfl rfl | (intro _; try dsimp only) | split | dsimp only

theorem execXbarWriteBurst_kept {port : Fin 16} {page : Fin 16384} {beat : Fin 128} {data : List (Option Byte)} {s : State} (hw₀ : subMask 161390617380431786853494948250188242145606612051826469551916209783790476378907091827836237282186848059617814154231939097 w₀ = true) (h₀ : Kept w₀ s₀ s) :
    KeptR w₀ s₀ (execXbarWriteBurst port page beat data s) := by
  refine ⟨fun t₁ e₁ => Kept.trans (a := 161390617380431786853494948250188242145606612051826469551916209783790476378907091827836237282186848059617814154231939097) (t := s) ?_ hw₀ h₀⟩; refine KeptR.keep (?_ : KeptR 161390617380431786853494948250188242145606612051826469551916209783790476378907091827836237282186848059617814154231939097 s (execXbarWriteBurst port page beat data s)) t₁ e₁; clear e₁ t₁
  clear h₀ hw₀
  unfold execXbarWriteBurst; try dsimp only
  repeat' first | (with_reducible first | assumption | exact Kept.refl _ _ | refine KeptR.next ?_ | exact KeptR.fault | exact KeptR.refused | refine KeptR.ite ?_ ?_ | refine Kept.ite ?_ ?_ | refine State.accessError_kept ?_ ?_ | refine State.emit_kept ?_ ?_ | refine State.sramInject_kept ?_ ?_ | refine State.updMem_kept ?_ ?_ ?_ | refine State.foldl_kept ?_ ?_ | refine State.sramInject_keptp (by assumption) ?_ ?_) | (show Nat.testBit _ _ = true; rfl) | (show subMask _ _ = true; rfl) | refine MemU.store_holds ?_ | refine MemU.flip_holds ?_ | refine MemU.storeList_holds ?_ | refine MemU.flipAll_holds ?_ | refine MemU.foldl_holds ?_ ?_ | exact MemU.holds_of rfl rfl | (intro _; try dsimp only) | split | dsimp only

theorem State.scrubWord_kept {s : State} {frame w : Nat} (hw₀ : subMask 14272498705131081750644521350469826996997193745 w₀ = true) (h₀ : Kept w₀ s₀ s) :
    Kept w₀ s₀ (State.scrubWord s frame w) := by
  refine Kept.trans (a := 14272498705131081750644521350469826996997193745) (t := s) ?_ hw₀ h₀
  clear h₀ hw₀
  unfold State.scrubWord; try dsimp only
  repeat' first | (with_reducible first | assumption | exact Kept.refl _ _ | refine Kept.ite ?_ ?_ | refine State.elogAdd_kept ?_ ?_ | apply State.inc_kept | apply State.raiseBit_kept | refine State.updMem_kept ?_ ?_ ?_ | refine State.foldl_kept ?_ ?_) | (show Nat.testBit _ _ = true; rfl) | (show subMask _ _ = true; rfl) | exact inFam_MEM_SCRUB_CNT | exact inFam_MEM_STATUS | exact wrsOk_nil | apply wrsOk_cons | refine MemU.store_holds ?_ | refine MemU.flip_holds ?_ | refine MemU.storeList_holds ?_ | refine MemU.flipAll_holds ?_ | refine MemU.foldl_holds ?_ ?_ | exact MemU.holds_of rfl rfl | (intro _; try dsimp only) | split | dsimp only

theorem execScrubRead_kept {upsets : List (Nat × Nat)} {s : State} (hw₀ : subMask 14272672929702945271137814598268832062321459217 w₀ = true) (h₀ : Kept w₀ s₀ s) :
    KeptR w₀ s₀ (execScrubRead upsets s) := by
  refine ⟨fun t₁ e₁ => Kept.trans (a := 14272672929702945271137814598268832062321459217) (t := s) ?_ hw₀ h₀⟩; refine KeptR.keep (?_ : KeptR 14272672929702945271137814598268832062321459217 s (execScrubRead upsets s)) t₁ e₁; clear e₁ t₁
  clear h₀ hw₀
  unfold execScrubRead; try dsimp only
  repeat' first | (with_reducible first | assumption | exact Kept.refl _ _ | refine KeptR.next ?_ | exact KeptR.fault | exact KeptR.refused | refine KeptR.ite ?_ ?_ | refine Kept.ite ?_ ?_ | apply State.inc_kept | refine State.scrubWord_kept ?_ ?_ | refine State.updMem_kept ?_ ?_ ?_ | refine State.when_kept ?_ ?_ | refine State.wrs_kept ?_ ?_ ?_) | (show Nat.testBit _ _ = true; rfl) | (show subMask _ _ = true; rfl) | exact inFam_MEM_SCRUB_STAT | exact wrsOk_nil | apply wrsOk_cons | refine MemU.store_holds ?_ | refine MemU.flip_holds ?_ | refine MemU.storeList_holds ?_ | refine MemU.flipAll_holds ?_ | refine MemU.foldl_holds ?_ ?_ | exact MemU.holds_of rfl rfl | (intro _; try dsimp only) | split | dsimp only

theorem execMemRetireFrame_kept {frame : Fin 16384} {s : State} (hw₀ : subMask 44384713757731871763589207486774700033120374772764031638184406308126848246420176735557574987335355199848659290924631408355999612957 w₀ = true) (h₀ : Kept w₀ s₀ s) :
    KeptR w₀ s₀ (execMemRetireFrame frame s) := by
  refine ⟨fun t₁ e₁ => Kept.trans (a := 44384713757731871763589207486774700033120374772764031638184406308126848246420176735557574987335355199848659290924631408355999612957) (t := s) ?_ hw₀ h₀⟩; refine KeptR.keep (?_ : KeptR 44384713757731871763589207486774700033120374772764031638184406308126848246420176735557574987335355199848659290924631408355999612957 s (execMemRetireFrame frame s)) t₁ e₁; clear e₁ t₁
  clear h₀ hw₀
  unfold execMemRetireFrame; try dsimp only
  repeat' first | (with_reducible first | assumption | exact Kept.refl _ _ | refine KeptR.next ?_ | exact KeptR.fault | exact KeptR.refused | refine KeptR.ite ?_ ?_ | refine Kept.ite ?_ ?_ | refine State.retireFrame_kept ?_ ?_ | refine State.showRetire_kept ?_ ?_ | refine State.wrs_kept ?_ ?_ ?_) | (show Nat.testBit _ _ = true; rfl) | (show subMask _ _ = true; rfl) | exact inFam_MEM_RETIRE_CMD | exact wrsOk_nil | apply wrsOk_cons | (intro _; try dsimp only) | split | dsimp only

theorem execMemRetireBank_kept {bank : Fin 32} {s : State} (hw₀ : subMask 44384713757731871763589207486774700033120374772764031638184406308126848246420176735557574987335355199848659290924631408355999612957 w₀ = true) (h₀ : Kept w₀ s₀ s) :
    KeptR w₀ s₀ (execMemRetireBank bank s) := by
  refine ⟨fun t₁ e₁ => Kept.trans (a := 44384713757731871763589207486774700033120374772764031638184406308126848246420176735557574987335355199848659290924631408355999612957) (t := s) ?_ hw₀ h₀⟩; refine KeptR.keep (?_ : KeptR 44384713757731871763589207486774700033120374772764031638184406308126848246420176735557574987335355199848659290924631408355999612957 s (execMemRetireBank bank s)) t₁ e₁; clear e₁ t₁
  clear h₀ hw₀
  unfold execMemRetireBank; try dsimp only
  repeat' first | (with_reducible first | assumption | exact Kept.refl _ _ | refine KeptR.next ?_ | exact KeptR.fault | exact KeptR.refused | refine KeptR.ite ?_ ?_ | refine Kept.ite ?_ ?_ | refine State.forEach_kept ?_ ?_ | refine State.retireFrame_kept ?_ ?_ | refine State.showRetire_kept ?_ ?_ | refine State.updMem_kept ?_ ?_ ?_ | refine State.wrs_kept ?_ ?_ ?_) | (show Nat.testBit _ _ = true; rfl) | (show subMask _ _ = true; rfl) | exact inFam_MEM_RETIRE_CMD | exact wrsOk_nil | apply wrsOk_cons | refine MemU.store_holds ?_ | refine MemU.flip_holds ?_ | refine MemU.storeList_holds ?_ | refine MemU.flipAll_holds ?_ | refine MemU.foldl_holds ?_ ?_ | exact MemU.holds_of rfl rfl | (intro _; try dsimp only) | split | dsimp only

theorem MemU.copyFrame_holds {m n : MemU} {a b : Nat} (h : m.holds n) : m.holds (n.copyFrame a b) := by
  unfold MemU.copyFrame
  generalize List.range 4096 = l
  refine MemU.foldl_holds (fun u x => ?_) h
  dsimp only
  split
  · exact MemU.flip_holds (MemU.store_holds ⟨id⟩)
  · exact MemU.store_holds ⟨id⟩

theorem MemU.moved_holds {m n : MemU} {f : Sparse Nat} {q g : List Nat} (h : m.holds n) : m.holds { n with frameOf := f, migQ := q, free := g } :=
  MemU.holds_trans h (MemU.holds_of rfl rfl)

theorem MemU.copyFrame_same (a b : Nat) (m : MemU) : m.holds (m.copyFrame a b) := MemU.copyFrame_holds (n := m) ⟨id⟩

theorem execMigration_kept {s : State} (hw₀ : subMask 44384713757731871763589207486774700033120374772764031638184406308126848246420176735560418332348167854299205095004394074448012115997 w₀ = true) (h₀ : Kept w₀ s₀ s) : KeptR w₀ s₀ (execMigration s) := by
  unfold execMigration
  split
  · exact KeptR.next h₀
  · split
    · exact KeptR.next (State.showRetire_kept (subMask_trans rfl hw₀) h₀)
    · extract_lets old new bad t t1 t2 t3
      refine KeptR.next (Kept.trans (a := 44384713757731871763589207486774700033120374772764031638184406308126848246420176735560418332348167854299205095004394074448012115997) (t := s) ?_ hw₀ h₀)
      refine State.showRetire_kept rfl (State.frameRetired_kept rfl (State.updPage_kept rfl (State.updPage_kept rfl ?_)))
      refine State.updMem_kept (fun m => MemU.moved_holds (MemU.copyFrame_same _ _ _)) rfl ?_
      exact State.forEach_kept (fun _ _ => State.elogAdd_kept rfl (Kept.refl _ _)) (Kept.refl _ _)

theorem execMemAlloc_kept {w : Initiator} {tag : BitVec 14} {count : BitVec 11} {s : State} (hw₀ : subMask 91617036461863432521214114593607635829872656405 w₀ = true) (h₀ : Kept w₀ s₀ s) :
    KeptR w₀ s₀ (execMemAlloc w tag count s) := by
  refine ⟨fun t₁ e₁ => Kept.trans (a := 91617036461863432521214114593607635829872656405) (t := s) ?_ hw₀ h₀⟩; refine KeptR.keep (?_ : KeptR 91617036461863432521214114593607635829872656405 s (execMemAlloc w tag count s)) t₁ e₁; clear e₁ t₁
  clear h₀ hw₀
  unfold execMemAlloc; try dsimp only
  repeat' first | (with_reducible first | assumption | exact Kept.refl _ _ | refine KeptR.next ?_ | exact KeptR.fault | exact KeptR.refused | refine KeptR.ite ?_ ?_ | refine Kept.ite ?_ ?_ | refine State.refuseW_kept ?_ ?_ | refine State.wrs_kept ?_ ?_ ?_ | refine State.allocPages_kept ?_ ?_ _ (by assumption)) | (show Nat.testBit _ _ = true; rfl) | (show subMask _ _ = true; rfl) | exact inFam_MEM_PAGE_CMD | exact inFam_MEM_PAGE_RESP | exact wrsOk_nil | apply wrsOk_cons | (intro _; try dsimp only) | split | dsimp only

theorem execMemRelease_kept {tag : BitVec 14} {s : State} (hw₀ : subMask 44384713757731871763589207486774700033120374772764031638184406308126848246420176735557831445905138302014786951684766864513318387741 w₀ = true) (h₀ : Kept w₀ s₀ s) :
    KeptR w₀ s₀ (execMemRelease tag s) := by
  refine ⟨fun t₁ e₁ => Kept.trans (a := 44384713757731871763589207486774700033120374772764031638184406308126848246420176735557831445905138302014786951684766864513318387741) (t := s) ?_ hw₀ h₀⟩; refine KeptR.keep (?_ : KeptR 44384713757731871763589207486774700033120374772764031638184406308126848246420176735557831445905138302014786951684766864513318387741 s (execMemRelease tag s)) t₁ e₁; clear e₁ t₁
  clear h₀ hw₀
  unfold execMemRelease; try dsimp only
  repeat' first | (with_reducible first | assumption | exact Kept.refl _ _ | refine KeptR.next ?_ | exact KeptR.fault | exact KeptR.refused | refine KeptR.ite ?_ ?_ | refine Kept.ite ?_ ?_ | refine State.releasePages_kept ?_ ?_ | refine State.wrs_kept ?_ ?_ ?_) | (show Nat.testBit _ _ = true; rfl) | (show subMask _ _ = true; rfl) | exact inFam_MEM_PAGE_CMD | exact inFam_MEM_PAGE_RESP | exact wrsOk_nil | apply wrsOk_cons | (intro _; try dsimp only) | split | dsimp only

theorem execPlaneFence_kept {p : Fin 2} {parity : Bool} {s : State} (hw₀ : subMask 44384713757731871763589207486774700033120374772764031638184420111619541827547751605003562519727291457701141718159542525775193440281 w₀ = true) (h₀ : Kept w₀ s₀ s) :
    KeptR w₀ s₀ (execPlaneFence p parity s) := by
  refine ⟨fun t₁ e₁ => Kept.trans (a := 44384713757731871763589207486774700033120374772764031638184420111619541827547751605003562519727291457701141718159542525775193440281) (t := s) ?_ hw₀ h₀⟩; refine KeptR.keep (?_ : KeptR 44384713757731871763589207486774700033120374772764031638184420111619541827547751605003562519727291457701141718159542525775193440281 s (execPlaneFence p parity s)) t₁ e₁; clear e₁ t₁
  clear h₀ hw₀
  unfold execPlaneFence; try dsimp only
  repeat' first | (with_reducible first | assumption | exact Kept.refl _ _ | refine KeptR.next ?_ | exact KeptR.fault | exact KeptR.refused | refine KeptR.ite ?_ ?_ | refine Kept.ite ?_ ?_ | refine State.elogAdd_kept ?_ ?_ | refine State.fencePlane_kept ?_ ?_ | refine State.injDone_kept ?_ ?_ | refine State.when_kept ?_ ?_) | (show Nat.testBit _ _ = true; rfl) | (show subMask _ _ = true; rfl) | (intro _; try dsimp only) | split | dsimp only

theorem execElogPop_kept {s : State} (hw₀ : subMask 4194320 w₀ = true) (h₀ : Kept w₀ s₀ s) :
    KeptR w₀ s₀ (execElogPop s) := by
  refine ⟨fun t₁ e₁ => Kept.trans (a := 4194320) (t := s) ?_ hw₀ h₀⟩; refine KeptR.keep (?_ : KeptR 4194320 s (execElogPop s)) t₁ e₁; clear e₁ t₁
  clear h₀ hw₀
  unfold execElogPop; try dsimp only
  repeat' first | (with_reducible first | assumption | exact Kept.refl _ _ | refine KeptR.next ?_ | exact KeptR.fault | exact KeptR.refused | refine KeptR.ite ?_ ?_ | refine Kept.ite ?_ ?_ | refine State.emit_kept ?_ ?_ | refine State.updMem_kept ?_ ?_ ?_) | (show Nat.testBit _ _ = true; rfl) | (show subMask _ _ = true; rfl) | refine MemU.store_holds ?_ | refine MemU.flip_holds ?_ | refine MemU.storeList_holds ?_ | refine MemU.flipAll_holds ?_ | refine MemU.foldl_holds ?_ ?_ | exact MemU.holds_of rfl rfl | (intro _; try dsimp only) | split | dsimp only

end Sys2Proof.Machine
end

