-- ==== Sys2Proof/Laws/KeptDecoder.lean ====
section
/-! SUPPORT. What the operations and meanings of Machine/Decoder.lean keep (the relation Kept). -/

set_option Elab.async false

namespace Sys2Proof.Machine
open Reg
set_option linter.unusedVariables false
set_option linter.unusedTactic false
set_option linter.unreachableTactic false
set_option maxHeartbeats 400000

variable {w₀ : Nat} {s₀ : State}

theorem State.engIdle_kept {s : State} {e : Nat} (hw₀ : subMask 7067388259113537318333190002971674063309935587502475832486424805170479361 w₀ = true) (h₀ : Kept w₀ s₀ s) :
    Kept w₀ s₀ (State.engIdle s e) := by
  refine Kept.trans (a := 7067388259113537318333190002971674063309935587502475832486424805170479361) (t := s) ?_ hw₀ h₀
  clear h₀ hw₀
  unfold State.engIdle; try dsimp only
  repeat' first | (with_reducible first | assumption | exact Kept.refl _ _ | refine Kept.ite ?_ ?_ | refine State.updDec_kept ?_ ?_ | refine State.updEng_kept ?_ ?_ | refine State.wrs_kept ?_ ?_ ?_) | (show Nat.testBit _ _ = true; rfl) | (show subMask _ _ = true; rfl) | exact inFam_DEC_ESTATUS | exact wrsOk_nil | apply wrsOk_cons | (intro _; try dsimp only) | split | dsimp only

theorem State.deepFree_kept {s : State} {e : Nat} (hw₀ : subMask 117834564444200007708569276919546721657566556050428779555046160776607402819969 w₀ = true) (h₀ : Kept w₀ s₀ s) :
    Kept w₀ s₀ (State.deepFree s e) := by
  refine Kept.trans (a := 117834564444200007708569276919546721657566556050428779555046160776607402819969) (t := s) ?_ hw₀ h₀
  clear h₀ hw₀
  unfold State.deepFree; try dsimp only
  repeat' first | (with_reducible first | assumption | exact Kept.refl _ _ | refine Kept.ite ?_ ?_ | refine State.dispatchDeep_kept ?_ ?_ | refine State.engIdle_kept ?_ ?_ | refine State.showDeep_kept ?_ ?_ | refine State.updEng_kept ?_ ?_ | apply State.wr_kept) | (show Nat.testBit _ _ = true; rfl) | (show subMask _ _ = true; rfl) | exact inFam_DEC_ESTATUS | exact wrsOk_nil | apply wrsOk_cons | (intro _; try dsimp only) | split | dsimp only

theorem State.deliver_kept {s : State} {e : Nat} {d : DSect} {outcome : Nat} {payload : List Byte} (hw₀ : subMask 161390617380431786853494948250188242145606612051826469551916209783790476378907091827836237282186848059617814154231939097 w₀ = true) (h₀ : Kept w₀ s₀ s) :
    Kept w₀ s₀ (State.deliver s e d outcome payload) := by
  refine Kept.trans (a := 161390617380431786853494948250188242145606612051826469551916209783790476378907091827836237282186848059617814154231939097) (t := s) ?_ hw₀ h₀
  clear h₀ hw₀
  unfold State.deliver; try dsimp only
  repeat' first | (with_reducible first | assumption | exact Kept.refl _ _ | refine Kept.ite ?_ ?_ | refine State.writePage_kept ?_ ?_ | refine State.writePage_keptp (by assumption) ?_ ?_) | (show Nat.testBit _ _ = true; rfl) | (show subMask _ _ = true; rfl) | (intro _; try dsimp only) | split | dsimp only

theorem State.afterQuick_kept {s : State} {d : DSect} (hw₀ : subMask 117834564444200007708569276919546721657566556050428779555046160776607402819969 w₀ = true) (h₀ : Kept w₀ s₀ s) :
    Kept w₀ s₀ (State.afterQuick s d) := by
  refine Kept.trans (a := 117834564444200007708569276919546721657566556050428779555046160776607402819969) (t := s) ?_ hw₀ h₀
  clear h₀ hw₀
  unfold State.afterQuick; try dsimp only
  repeat' first | (with_reducible first | assumption | exact Kept.refl _ _ | refine Kept.ite ?_ ?_ | refine State.releaseBuf_kept ?_ ?_ | refine State.rung2_kept ?_ ?_ | refine State.rung3_kept ?_ ?_) | (show Nat.testBit _ _ = true; rfl) | (show subMask _ _ = true; rfl) | (intro _; try dsimp only) | split | dsimp only

theorem execQuickDecodeStart_kept {s : State} (hw₀ : subMask 117834564444200007708569276919546721657566556050428779555046160776607402819969 w₀ = true) (h₀ : Kept w₀ s₀ s) :
    KeptR w₀ s₀ (execQuickDecodeStart s) := by
  refine ⟨fun t₁ e₁ => Kept.trans (a := 117834564444200007708569276919546721657566556050428779555046160776607402819969) (t := s) ?_ hw₀ h₀⟩; refine KeptR.keep (?_ : KeptR 117834564444200007708569276919546721657566556050428779555046160776607402819969 s (execQuickDecodeStart s)) t₁ e₁; clear e₁ t₁
  clear h₀ hw₀
  unfold execQuickDecodeStart; try dsimp only
  repeat' first | (with_reducible first | assumption | exact Kept.refl _ _ | refine KeptR.next ?_ | exact KeptR.fault | exact KeptR.refused | refine KeptR.ite ?_ ?_ | refine Kept.ite ?_ ?_ | refine State.rung1_kept ?_ ?_ | refine State.startJob_kept ?_ ?_ | refine State.updDec_kept ?_ ?_ | refine State.foldl_kept ?_ ?_) | (show Nat.testBit _ _ = true; rfl) | (show subMask _ _ = true; rfl) | (intro _; try dsimp only) | split | dsimp only

theorem State.checkFail_kept {s : State} {outcome : Nat} (hw₀ : subMask 231810334898924024041328632097470909276565887270081207305554733609591718805505 w₀ = true) (h₀ : Kept w₀ s₀ s) :
    Kept w₀ s₀ (State.checkFail s outcome) := by
  refine Kept.trans (a := 231810334898924024041328632097470909276565887270081207305554733609591718805505) (t := s) ?_ hw₀ h₀
  clear h₀ hw₀
  unfold State.checkFail; try dsimp only
  repeat' first | (with_reducible first | assumption | exact Kept.refl _ _ | refine Kept.ite ?_ ?_ | apply State.decBit_kept | apply State.inc_kept) | (show Nat.testBit _ _ = true; rfl) | (show subMask _ _ = true; rfl) | exact inFam_DEC_ERR_CNT | exact inFam_DEC_STATUS | exact wrsOk_nil | apply wrsOk_cons | (intro _; try dsimp only) | split | dsimp only

theorem execQuickIterationEnd_kept {e : Fin 32} {word : BitVec 37120} {flips : List (BitVec 18)} {s : State} (hw₀ : subMask 44384713757731871763589207486774700033120374772764032002119564711178452453987795938495357892738224275826257795763685620798443880857 w₀ = true) (h₀ : Kept w₀ s₀ s) :
    KeptR w₀ s₀ (execQuickIterationEnd e word flips s) := by
  refine ⟨fun t₁ e₁ => Kept.trans (a := 44384713757731871763589207486774700033120374772764032002119564711178452453987795938495357892738224275826257795763685620798443880857) (t := s) ?_ hw₀ h₀⟩; refine KeptR.keep (?_ : KeptR 44384713757731871763589207486774700033120374772764032002119564711178452453987795938495357892738224275826257795763685620798443880857 s (execQuickIterationEnd e word flips s)) t₁ e₁; clear e₁ t₁
  clear h₀ hw₀
  unfold execQuickIterationEnd; try dsimp only
  repeat' first | (with_reducible first | assumption | exact Kept.refl _ _ | refine KeptR.next ?_ | exact KeptR.fault | exact KeptR.refused | refine KeptR.ite ?_ ?_ | refine Kept.ite ?_ ?_ | refine State.afterQuick_kept ?_ ?_ | refine State.checkFail_kept ?_ ?_ | apply State.decBit_kept | refine State.deliver_kept ?_ ?_ | refine State.engIdle_kept ?_ ?_ | apply State.inc_kept | refine State.injDone_kept ?_ ?_ | refine State.postRec_kept ?_ ?_ | refine State.raiseSrc_kept ?_ ?_ | refine State.releaseBuf_kept ?_ ?_ | refine State.rung2_kept ?_ ?_ | refine State.rung3_kept ?_ ?_ | refine State.updEng_kept ?_ ?_ | refine State.when_kept ?_ ?_ | apply State.wr_kept) | (show Nat.testBit _ _ = true; rfl) | (show subMask _ _ = true; rfl) | exact inFam_DEC_CONV_CNT | exact inFam_DEC_ESTATUS | exact inFam_DEC_ITER_CNT | exact inFam_DEC_SECT_CNT | exact inFam_DEC_STATUS | exact wrsOk_nil | apply wrsOk_cons | (intro _; try dsimp only) | split | dsimp only

theorem State.loadSlot_kept {s : State} {e : Nat} {d : DSect} (hw₀ : subMask 44384713757731871763589207486774700033120374772764031638184406308126848246420176735497546956447210395007430521264230181272276828569 w₀ = true) (h₀ : Kept w₀ s₀ s) :
    Kept w₀ s₀ (State.loadSlot s e d) := by
  refine Kept.trans (a := 44384713757731871763589207486774700033120374772764031638184406308126848246420176735497546956447210395007430521264230181272276828569) (t := s) ?_ hw₀ h₀
  clear h₀ hw₀
  unfold State.loadSlot; try dsimp only
  repeat' first | (with_reducible first | assumption | exact Kept.refl _ _ | refine Kept.ite ?_ ?_ | refine State.readBuf_kept ?_ ?_ | refine State.unhold_kept ?_ ?_ | refine State.updEng_kept ?_ ?_ | refine State.readBuf_keptp (by assumption) ?_ ?_) | (show Nat.testBit _ _ = true; rfl) | (show subMask _ _ = true; rfl) | (intro _; try dsimp only) | split | dsimp only

theorem State.replay_kept {s : State} {e : Nat} {d : DSect} (hw₀ : subMask 256 w₀ = true) (h₀ : Kept w₀ s₀ s) :
    Kept w₀ s₀ (State.replay s e d) := by
  refine Kept.trans (a := 256) (t := s) ?_ hw₀ h₀
  clear h₀ hw₀
  unfold State.replay; try dsimp only
  repeat' first | (with_reducible first | assumption | exact Kept.refl _ _ | refine Kept.ite ?_ ?_ | refine State.updEng_kept ?_ ?_) | (show Nat.testBit _ _ = true; rfl) | (show subMask _ _ = true; rfl) | (intro _; try dsimp only) | split | dsimp only

theorem State.trialEnd_kept {s : State} {n : Nat} {d : DSect} (hw₀ : subMask 146782586753529056564462023171718698620884052216838920564910556778585685229953 w₀ = true) (h₀ : Kept w₀ s₀ s) :
    Kept w₀ s₀ (State.trialEnd s n d) := by
  refine Kept.trans (a := 146782586753529056564462023171718698620884052216838920564910556778585685229953) (t := s) ?_ hw₀ h₀
  clear h₀ hw₀
  unfold State.trialEnd; try dsimp only
  repeat' first | (with_reducible first | assumption | exact Kept.refl _ _ | refine Kept.ite ?_ ?_ | apply State.decBit_kept | refine State.deepFree_kept ?_ ?_ | refine State.fillBuf_kept ?_ ?_ | apply State.inc_kept | refine State.postRec_kept ?_ ?_ | refine State.replay_kept ?_ ?_ | refine State.rung2_kept ?_ ?_ | refine State.updDec_kept ?_ ?_ | refine State.updEng_kept ?_ ?_) | (show Nat.testBit _ _ = true; rfl) | (show subMask _ _ = true; rfl) | exact inFam_DEC_ALIGN_CNT | exact inFam_DEC_STATUS | exact wrsOk_nil | apply wrsOk_cons | (intro _; try dsimp only) | split | dsimp only

theorem execRealignTrialEnd_kept {e : Fin 4} {s : State} (hw₀ : subMask 44384713757731871763589207486774700033120374772764031784966993061655904810882199907216245577331262611846351086174786959857957863833 w₀ = true) (h₀ : Kept w₀ s₀ s) :
    KeptR w₀ s₀ (execRealignTrialEnd e s) := by
  refine ⟨fun t₁ e₁ => Kept.trans (a := 44384713757731871763589207486774700033120374772764031784966993061655904810882199907216245577331262611846351086174786959857957863833) (t := s) ?_ hw₀ h₀⟩; refine KeptR.keep (?_ : KeptR 44384713757731871763589207486774700033120374772764031784966993061655904810882199907216245577331262611846351086174786959857957863833 s (execRealignTrialEnd e s)) t₁ e₁; clear e₁ t₁
  clear h₀ hw₀
  unfold execRealignTrialEnd; try dsimp only
  repeat' first | (with_reducible first | assumption | exact Kept.refl _ _ | refine KeptR.next ?_ | exact KeptR.fault | exact KeptR.refused | refine KeptR.ite ?_ ?_ | refine Kept.ite ?_ ?_ | refine State.deepFree_kept ?_ ?_ | refine State.loadSlot_kept ?_ ?_ | refine State.postRec_kept ?_ ?_ | refine State.rung3_kept ?_ ?_ | refine State.trialEnd_kept ?_ ?_ | refine State.unhold_kept ?_ ?_) | (show Nat.testBit _ _ = true; rfl) | (show subMask _ _ = true; rfl) | (intro _; try dsimp only) | split | dsimp only

theorem execDeepSlotLoadEnd_kept {e : Fin 4} {s : State} (hw₀ : subMask 44384713757731871763589207486774700033120374772764031756018970752326855954989453655044268614013766445436210076310390957879675453849 w₀ = true) (h₀ : Kept w₀ s₀ s) :
    KeptR w₀ s₀ (execDeepSlotLoadEnd e s) := by
  refine ⟨fun t₁ e₁ => Kept.trans (a := 44384713757731871763589207486774700033120374772764031756018970752326855954989453655044268614013766445436210076310390957879675453849) (t := s) ?_ hw₀ h₀⟩; refine KeptR.keep (?_ : KeptR 44384713757731871763589207486774700033120374772764031756018970752326855954989453655044268614013766445436210076310390957879675453849 s (execDeepSlotLoadEnd e s)) t₁ e₁; clear e₁ t₁
  clear h₀ hw₀
  unfold execDeepSlotLoadEnd; try dsimp only
  repeat' first | (with_reducible first | assumption | exact Kept.refl _ _ | refine KeptR.next ?_ | exact KeptR.fault | exact KeptR.refused | refine KeptR.ite ?_ ?_ | refine Kept.ite ?_ ?_ | refine State.backlogReread_kept ?_ ?_ | refine State.deepFree_kept ?_ ?_ | refine State.loadSlot_kept ?_ ?_ | refine State.postRec_kept ?_ ?_ | refine State.replay_kept ?_ ?_ | refine State.unhold_kept ?_ ?_ | refine State.updEng_kept ?_ ?_) | (show Nat.testBit _ _ = true; rfl) | (show subMask _ _ = true; rfl) | (intro _; try dsimp only) | split | dsimp only

theorem State.interleave_kept {s : State} {n : Nat} (hw₀ : subMask 1816318782592179090811629830763720234270653445988136288949011174928813654401 w₀ = true) (h₀ : Kept w₀ s₀ s) :
    Kept w₀ s₀ (State.interleave s n) := by
  refine Kept.trans (a := 1816318782592179090811629830763720234270653445988136288949011174928813654401) (t := s) ?_ hw₀ h₀
  clear h₀ hw₀
  unfold State.interleave; try dsimp only
  repeat' first | (with_reducible first | assumption | exact Kept.refl _ _ | refine Kept.ite ?_ ?_ | refine State.showDeep_kept ?_ ?_ | refine State.startTrial_kept ?_ ?_ | refine State.updDec_kept ?_ ?_ | refine State.updEng_kept ?_ ?_) | (show Nat.testBit _ _ = true; rfl) | (show subMask _ _ = true; rfl) | (intro _; try dsimp only) | split | dsimp only

theorem execDeepOuterIterationEnd_kept {e : Fin 4} {word : BitVec 37120} {s : State} (hw₀ : subMask 161390617380431786853494948250188242145607019409018336597093701190529057663228426949213565337391356744657159375477539225 w₀ = true) (h₀ : Kept w₀ s₀ s) :
    KeptR w₀ s₀ (execDeepOuterIterationEnd e word s) := by
  refine ⟨fun t₁ e₁ => Kept.trans (a := 161390617380431786853494948250188242145607019409018336597093701190529057663228426949213565337391356744657159375477539225) (t := s) ?_ hw₀ h₀⟩; refine KeptR.keep (?_ : KeptR 161390617380431786853494948250188242145607019409018336597093701190529057663228426949213565337391356744657159375477539225 s (execDeepOuterIterationEnd e word s)) t₁ e₁; clear e₁ t₁
  clear h₀ hw₀
  unfold execDeepOuterIterationEnd; try dsimp only
  repeat' first | (with_reducible first | assumption | exact Kept.refl _ _ | refine KeptR.next ?_ | exact KeptR.fault | exact KeptR.refused | refine KeptR.ite ?_ ?_ | refine Kept.ite ?_ ?_ | refine State.checkFail_kept ?_ ?_ | refine State.deepFree_kept ?_ ?_ | refine State.deliver_kept ?_ ?_ | apply State.inc_kept | refine State.interleave_kept ?_ ?_ | refine State.postRec_kept ?_ ?_ | refine State.rung3_kept ?_ ?_ | refine State.updEng_kept ?_ ?_ | apply State.wr_kept) | (show Nat.testBit _ _ = true; rfl) | (show subMask _ _ = true; rfl) | exact inFam_DEC_DEEP_CNT | exact inFam_DEC_ESTATUS | exact inFam_DEC_ITER_CNT | exact inFam_DEC_SECT_CNT | exact wrsOk_nil | apply wrsOk_cons | (intro _; try dsimp only) | split | dsimp only

theorem execDecTracePop_kept {s : State} (hw₀ : subMask 4194560 w₀ = true) (h₀ : Kept w₀ s₀ s) :
    KeptR w₀ s₀ (execDecTracePop s) := by
  refine ⟨fun t₁ e₁ => Kept.trans (a := 4194560) (t := s) ?_ hw₀ h₀⟩; refine KeptR.keep (?_ : KeptR 4194560 s (execDecTracePop s)) t₁ e₁; clear e₁ t₁
  clear h₀ hw₀
  unfold execDecTracePop; try dsimp only
  repeat' first | (with_reducible first | assumption | exact Kept.refl _ _ | refine KeptR.next ?_ | exact KeptR.fault | exact KeptR.refused | refine KeptR.ite ?_ ?_ | refine Kept.ite ?_ ?_ | refine State.emit_kept ?_ ?_ | refine State.updDec_kept ?_ ?_) | (show Nat.testBit _ _ = true; rfl) | (show subMask _ _ = true; rfl) | (intro _; try dsimp only) | split | dsimp only

end Sys2Proof.Machine
end

