-- ==== Sys2Proof/Laws/KeptQuay.lean ====
section
/-! SUPPORT. What the operations and meanings of Machine/Quay.lean keep (the relation Kept). -/

set_option Elab.async false

namespace Sys2Proof.Machine
open Reg
set_option linter.unusedVariables false
set_option linter.unusedTactic false
set_option linter.unreachableTactic false
set_option maxHeartbeats 400000

variable {w₀ : Nat} {s₀ : State}

theorem execPortTrainingStart_kept {p : QPort} {s : State} (hw₀ : subMask 625275977237705358593295314089193090168501721821351082377109148260735330846513351987775221329960819495222372204545 w₀ = true) (h₀ : Kept w₀ s₀ s) :
    KeptR w₀ s₀ (execPortTrainingStart p s) := by
  refine ⟨fun t₁ e₁ => Kept.trans (a := 625275977237705358593295314089193090168501721821351082377109148260735330846513351987775221329960819495222372204545) (t := s) ?_ hw₀ h₀⟩; refine KeptR.keep (?_ : KeptR 625275977237705358593295314089193090168501721821351082377109148260735330846513351987775221329960819495222372204545 s (execPortTrainingStart p s)) t₁ e₁; clear e₁ t₁
  clear h₀ hw₀
  unfold execPortTrainingStart; try dsimp only
  repeat' first | (with_reducible first | assumption | exact Kept.refl _ _ | refine KeptR.next ?_ | exact KeptR.fault | exact KeptR.refused | refine KeptR.ite ?_ ?_ | refine Kept.ite ?_ ?_ | refine State.startTraining_kept ?_ ?_) | (show Nat.testBit _ _ = true; rfl) | (show subMask _ _ = true; rfl) | (intro _; try dsimp only) | split | dsimp only

theorem State.noteHello_kept {s : State} {p : Nat} {h : QHello} (hw₀ : subMask 44384376587918356898314365459309963238040153579689048229514268551083360175952092181301507136927571188404167068354458735613879255049 w₀ = true) (h₀ : Kept w₀ s₀ s) :
    Kept w₀ s₀ (State.noteHello s p h) := by
  refine Kept.trans (a := 44384376587918356898314365459309963238040153579689048229514268551083360175952092181301507136927571188404167068354458735613879255049) (t := s) ?_ hw₀ h₀
  clear h₀ hw₀
  unfold State.noteHello; try dsimp only
  repeat' first | (with_reducible first | assumption | exact Kept.refl _ _ | refine Kept.ite ?_ ?_ | refine State.logFree_kept ?_ ?_ | apply State.qportBit_kept | refine State.updQfb_kept ?_ ?_ | refine State.updQport_kept ?_ ?_ | refine State.when_kept ?_ ?_ | refine State.wrs_kept ?_ ?_ ?_) | (show Nat.testBit _ _ = true; rfl) | (show subMask _ _ = true; rfl) | exact inFam_QFB_PEER | exact inFam_QFB_PEER_SN_HI | exact inFam_QFB_PEER_SN_LO | exact inFam_QFB_PSTATUS | exact wrsOk_nil | apply wrsOk_cons | (intro _; try dsimp only) | split | dsimp only

theorem execPortUp_kept {p : QPort} {width : Fin 3} {laneMap : BitVec 16} {fix : Bool} {hello : QHello} {c0 c1 c2 : BitVec 8} {s : State} (hw₀ : subMask 44384713757733330532444103053376298191088144860243394754510666914535102434767944358933220306067072360087770336365627746694983295901 w₀ = true) (h₀ : Kept w₀ s₀ s) :
    KeptR w₀ s₀ (execPortUp p width laneMap fix hello c0 c1 c2 s) := by
  refine ⟨fun t₁ e₁ => Kept.trans (a := 44384713757733330532444103053376298191088144860243394754510666914535102434767944358933220306067072360087770336365627746694983295901) (t := s) ?_ hw₀ h₀⟩; refine KeptR.keep (?_ : KeptR 44384713757733330532444103053376298191088144860243394754510666914535102434767944358933220306067072360087770336365627746694983295901 s (execPortUp p width laneMap fix hello c0 c1 c2 s)) t₁ e₁; clear e₁ t₁
  clear h₀ hw₀
  unfold execPortUp; try dsimp only
  repeat' first | (with_reducible first | assumption | exact Kept.refl _ _ | refine KeptR.next ?_ | exact KeptR.fault | exact KeptR.refused | refine KeptR.ite ?_ ?_ | refine Kept.ite ?_ ?_ | refine State.noteHello_kept ?_ ?_ | refine State.originateLsa_kept ?_ ?_ | refine State.qCtl_kept ?_ ?_ | refine State.qPumpAll_kept ?_ ?_ | apply State.qportBit_kept | refine State.raiseSrc_kept ?_ ?_ | refine State.updQport_kept ?_ ?_ | refine State.when_kept ?_ ?_ | apply State.wr_kept | refine State.wrs_kept ?_ ?_ ?_) | (show Nat.testBit _ _ = true; rfl) | (show subMask _ _ = true; rfl) | exact inFam_QFB_PSTATUS | exact wrsOk_nil | apply wrsOk_cons | (intro _; try dsimp only) | split | dsimp only

theorem execTrainFail_kept {p : QPort} {s : State} (hw₀ : subMask 44384713757733330532444103053376298191088144860243394754510666914535102434767944358933220306067072360087770336365627746694983295901 w₀ = true) (h₀ : Kept w₀ s₀ s) :
    KeptR w₀ s₀ (execTrainFail p s) := by
  refine ⟨fun t₁ e₁ => Kept.trans (a := 44384713757733330532444103053376298191088144860243394754510666914535102434767944358933220306067072360087770336365627746694983295901) (t := s) ?_ hw₀ h₀⟩; refine KeptR.keep (?_ : KeptR 44384713757733330532444103053376298191088144860243394754510666914535102434767944358933220306067072360087770336365627746694983295901 s (execTrainFail p s)) t₁ e₁; clear e₁ t₁
  clear h₀ hw₀
  unfold execTrainFail; try dsimp only
  repeat' first | (with_reducible first | assumption | exact Kept.refl _ _ | refine KeptR.next ?_ | exact KeptR.fault | exact KeptR.refused | refine KeptR.ite ?_ ?_ | refine Kept.ite ?_ ?_ | refine State.fenceQuay_kept ?_ ?_ | apply State.qportBit_kept | refine State.raiseSrc_kept ?_ ?_ | refine State.updQport_kept ?_ ?_ | apply State.wr_kept) | (show Nat.testBit _ _ = true; rfl) | (show subMask _ _ = true; rfl) | exact inFam_QFB_PSTATUS | exact wrsOk_nil | apply wrsOk_cons | (intro _; try dsimp only) | split | dsimp only

theorem execLinkLost_kept {p : QPort} {s : State} (hw₀ : subMask 44384713757733330532444103053376298191088144860243394754510666914535102434767944358933220306067072360087770336365627746694983295901 w₀ = true) (h₀ : Kept w₀ s₀ s) :
    KeptR w₀ s₀ (execLinkLost p s) := by
  refine ⟨fun t₁ e₁ => Kept.trans (a := 44384713757733330532444103053376298191088144860243394754510666914535102434767944358933220306067072360087770336365627746694983295901) (t := s) ?_ hw₀ h₀⟩; refine KeptR.keep (?_ : KeptR 44384713757733330532444103053376298191088144860243394754510666914535102434767944358933220306067072360087770336365627746694983295901 s (execLinkLost p s)) t₁ e₁; clear e₁ t₁
  clear h₀ hw₀
  unfold execLinkLost; try dsimp only
  repeat' first | (with_reducible first | assumption | exact Kept.refl _ _ | refine KeptR.next ?_ | exact KeptR.fault | exact KeptR.refused | refine KeptR.ite ?_ ?_ | refine Kept.ite ?_ ?_ | refine State.loseLink_kept ?_ ?_ | apply State.wr_kept) | (show Nat.testBit _ _ = true; rfl) | (show subMask _ _ = true; rfl) | exact inFam_QFB_PSTATUS | exact wrsOk_nil | apply wrsOk_cons | (intro _; try dsimp only) | split | dsimp only

theorem execQfbRetrain_kept {w : Initiator} {p : QPort} {s : State} (hw₀ : subMask 44384713757733330532444103053376298191088144860243394754510666914535102434767944358933220306067072360087770336365627746694983295901 w₀ = true) (h₀ : Kept w₀ s₀ s) :
    KeptR w₀ s₀ (execQfbRetrain w p s) := by
  refine ⟨fun t₁ e₁ => Kept.trans (a := 44384713757733330532444103053376298191088144860243394754510666914535102434767944358933220306067072360087770336365627746694983295901) (t := s) ?_ hw₀ h₀⟩; refine KeptR.keep (?_ : KeptR 44384713757733330532444103053376298191088144860243394754510666914535102434767944358933220306067072360087770336365627746694983295901 s (execQfbRetrain w p s)) t₁ e₁; clear e₁ t₁
  clear h₀ hw₀
  unfold execQfbRetrain; try dsimp only
  repeat' first | (with_reducible first | assumption | exact Kept.refl _ _ | refine KeptR.next ?_ | exact KeptR.fault | exact KeptR.refused | refine KeptR.ite ?_ ?_ | refine Kept.ite ?_ ?_ | refine State.loseLink_kept ?_ ?_ | refine State.startTraining_kept ?_ ?_) | (show Nat.testBit _ _ = true; rfl) | (show subMask _ _ = true; rfl) | (intro _; try dsimp only) | split | dsimp only

theorem State.recv_kept {s : State} {p : QPort} {chk : FrameCheck} {f : State → State} (hf : ∀ u, Kept w₀ u (f u)) (hw₀ : subMask 161391242656409024558853541545502331338696780553548290902998586892938737111383421177704822355229944425563443470671020041 w₀ = true) (h₀ : Kept w₀ s₀ s) : Kept w₀ s₀ (State.recv s p chk f) := by
  have hm : ∀ {a b c : State}, Kept 161391242656409024558853541545502331338696780553548290902998586892938737111383421177704822355229944425563443470671020041 b c → Kept w₀ a b → Kept w₀ a c := fun g k => g.trans hw₀ k
  unfold State.recv; dsimp only
  split
  · exact h₀
  · have hi : Kept w₀ s₀ (s.when (s.armedAt 12 (fun a => a == p.val)).isSome State.injDone) :=
      hm (State.when_kept (fun u => State.injDone_kept rfl (Kept.refl _ _)) (Kept.refl _ _)) h₀
    have ht : ∀ c : FrameCheck, Kept w₀ s₀ (if c = .badHeader then s.when (s.armedAt 12 (fun a => a == p.val)).isSome State.injDone
        else (s.when (s.armedAt 12 (fun a => a == p.val)).isSome State.injDone).updQport p (fun u => { u with lastRx := (s.when (s.armedAt 12 (fun a => a == p.val)).isSome State.injDone).sys.time })) := by
      intro c; split
      · exact hi
      · exact hm (State.updQport_kept rfl (Kept.refl _ _)) hi
    refine Kept.ite ((hf _).trans (subMask_refl _) (ht _)) ?_
    exact hm (State.updQport_kept rfl (State.inc_kept inFam_QFB_PCNT rfl rfl (State.qportBit_kept inFam_QFB_PSTATUS rfl rfl (Kept.refl _ _)))) (ht _)

theorem State.discardFrame_kept {s : State} {p cls : Nat} (hw₀ : subMask 615656346818663737691860001564743965704370926101022604186692084441339402679643915803347910232576806887603564445697 w₀ = true) (h₀ : Kept w₀ s₀ s) :
    Kept w₀ s₀ (State.discardFrame s p cls) := by
  refine Kept.trans (a := 615656346818663737691860001564743965704370926101022604186692084441339402679643915803347910232576806887603564445697) (t := s) ?_ hw₀ h₀
  clear h₀ hw₀
  unfold State.discardFrame; try dsimp only
  repeat' first | (with_reducible first | assumption | exact Kept.refl _ _ | refine Kept.ite ?_ ?_ | refine State.freeSlot_kept ?_ ?_ | apply State.inc_kept) | (show Nat.testBit _ _ = true; rfl) | (show subMask _ _ = true; rfl) | exact inFam_QFB_PCNT | exact wrsOk_nil | apply wrsOk_cons | (intro _; try dsimp only) | split | dsimp only

theorem State.gapIn_kept {s : State} {h : QHdr} (hw₀ : subMask 44384713757733132627787492110109492962403579368405794191650312596753290984513987926503043301156450137016563855074251205006105224093 w₀ = true) (h₀ : Kept w₀ s₀ s) :
    Kept w₀ s₀ (State.gapIn s h) := by
  refine Kept.trans (a := 44384713757733132627787492110109492962403579368405794191650312596753290984513987926503043301156450137016563855074251205006105224093) (t := s) ?_ hw₀ h₀
  clear h₀ hw₀
  unfold State.gapIn; try dsimp only
  repeat' first | (with_reducible first | assumption | exact Kept.refl _ _ | refine Kept.ite ?_ ?_ | refine State.dropXin_kept ?_ ?_ | refine State.qResult_kept ?_ ?_) | (show Nat.testBit _ _ = true; rfl) | (show subMask _ _ = true; rfl) | (intro _; try dsimp only) | split | dsimp only

theorem State.recvData_kept {s : State} {p : QPort} {chk : FrameCheck} {h : QHdr} {typ : Nat} {payload : List Byte} {f : State → State} (hf : ∀ u, Kept w₀ u (f u)) (hw₀ : subMask 44384713757733133253063469347814851555698893457598884360152034418104373361623136187238374147669802124791785185035070700228473234333 w₀ = true) (h₀ : Kept w₀ s₀ s) : Kept w₀ s₀ (State.recvData s p chk h typ payload f) := by
  unfold State.recvData
  refine State.recv_kept (fun u => ?_) (subMask_trans rfl hw₀) h₀
  dsimp only
  have hm : ∀ {a b : State}, Kept 44384713757733133253063469347814851555698893457598884360152034418104373361623136187238374147669802124791785185035070700228473234333 a b → Kept w₀ u a → Kept w₀ u b := fun g k => g.trans hw₀ k
  split
  · exact hm (State.discardFrame_kept rfl (Kept.refl _ _)) (Kept.refl _ _)
  · split
    · split
      · exact hm (State.discardFrame_kept rfl (Kept.refl _ _)) (Kept.refl _ _)
      · exact hm (State.qQueue_kept rfl (Kept.refl _ _)) (Kept.refl _ _)
    · split
      · exact hm (State.freeSlot_kept rfl (Kept.refl _ _)) ((hf _).trans (subMask_refl _) (hm (State.updQfb_kept rfl (Kept.refl _ _)) (Kept.refl _ _)))
      · exact hm (State.discardFrame_kept rfl (State.gapIn_kept rfl (State.updQfb_kept rfl (Kept.refl _ _)))) (Kept.refl _ _)

theorem State.updXin_kept {s : State} {src xid : Nat} {f : XIn → XIn} (hw₀ : subMask 2097152 w₀ = true) (h₀ : Kept w₀ s₀ s) :
    Kept w₀ s₀ (State.updXin s src xid f) := by
  refine Kept.trans (a := 2097152) (t := s) ?_ hw₀ h₀
  clear h₀ hw₀
  unfold State.updXin; try dsimp only
  repeat' first | (with_reducible first | assumption | exact Kept.refl _ _ | refine Kept.ite ?_ ?_ | refine State.updQfb_kept ?_ ?_) | (show Nat.testBit _ _ = true; rfl) | (show subMask _ _ = true; rfl) | (intro _; try dsimp only) | split | dsimp only

theorem State.qAnswer_kept {s : State} {h : QHdr} {status : Nat} {retry noXfer : Bool} {lba : Nat} (hw₀ : subMask 6291456 w₀ = true) (h₀ : Kept w₀ s₀ s) :
    Kept w₀ s₀ (State.qAnswer s h status retry noXfer lba) := by
  refine Kept.trans (a := 6291456) (t := s) ?_ hw₀ h₀
  clear h₀ hw₀
  unfold State.qAnswer; try dsimp only
  repeat' first | (with_reducible first | assumption | exact Kept.refl _ _ | refine Kept.ite ?_ ?_ | refine State.qResult_kept ?_ ?_) | (show Nat.testBit _ _ = true; rfl) | (show subMask _ _ = true; rfl) | (intro _; try dsimp only) | split | dsimp only

theorem State.qDone_kept {s : State} {dst cls xid : Nat} (hw₀ : subMask 6291456 w₀ = true) (h₀ : Kept w₀ s₀ s) :
    Kept w₀ s₀ (State.qDone s dst cls xid) := by
  refine Kept.trans (a := 6291456) (t := s) ?_ hw₀ h₀
  clear h₀ hw₀
  unfold State.qDone; try dsimp only
  repeat' first | (with_reducible first | assumption | exact Kept.refl _ _ | refine Kept.ite ?_ ?_ | refine State.qSend_kept ?_ ?_) | (show Nat.testBit _ _ = true; rfl) | (show subMask _ _ = true; rfl) | (intro _; try dsimp only) | split | dsimp only

theorem State.roomIn_kept {s : State} {write : Bool} (hw₀ : subMask 39402006196394479212279040100143613805079739270465446667948293404245721771497210611414266254884915640806627994501121 w₀ = true) (h₀ : Kept w₀ s₀ s) :
    Kept w₀ s₀ (State.roomIn s write).1 := by
  refine Kept.trans (a := 39402006196394479212279040100143613805079739270465446667948293404245721771497210611414266254884915640806627994501121) (t := s) ?_ hw₀ h₀
  clear h₀ hw₀
  unfold State.roomIn; try dsimp only
  repeat' first | (with_reducible first | assumption | exact Kept.refl _ _ | refine Kept.ite ?_ ?_ | apply State.qfbBit_kept) | (show Nat.testBit _ _ = true; rfl) | (show subMask _ _ = true; rfl) | exact inFam_QFB_STATUS | exact wrsOk_nil | apply wrsOk_cons | (intro _; try dsimp only) | split | dsimp only
theorem State.roomIn_keptp {s : State} {write : Bool} {a₀ : State} {b₀ : Bool} (e₀ : State.roomIn s write = (a₀, b₀)) (hw₀ : subMask 39402006196394479212279040100143613805079739270465446667948293404245721771497210611414266254884915640806627994501121 w₀ = true) (h₀ : Kept w₀ s₀ s) : Kept w₀ s₀ a₀ := by
  have g : Kept w₀ s₀ (State.roomIn s write).1 := State.roomIn_kept hw₀ h₀; rw [e₀] at g; exact g

theorem State.stagePages_kept {s : State} {x : XIn} {n : Nat} (hw₀ : subMask 91349427519481065043515685974335850818872279057 w₀ = true) (h₀ : Kept w₀ s₀ s) : ∀ p, State.stagePages s x n = some p → Kept w₀ s₀ p := by
  intro p hp
  unfold State.stagePages at hp
  split at hp
  · cases hp
  · dsimp only at hp
    split at hp
    · injection hp with e; exact e ▸ h₀
    · exact State.allocPages_kept hw₀ h₀ _ hp

theorem State.openWindow_kept {s : State} {h : QHdr} (hw₀ : subMask 1300266204481017814005208323304739255567631395925359740042293682340108818459407950176670786411202216146618723686416385 w₀ = true) (h₀ : Kept w₀ s₀ s) :
    Kept w₀ s₀ (State.openWindow s h).1 := by
  refine Kept.trans (a := 1300266204481017814005208323304739255567631395925359740042293682340108818459407950176670786411202216146618723686416385) (t := s) ?_ hw₀ h₀
  clear h₀ hw₀
  unfold State.openWindow; try dsimp only
  repeat' first | (with_reducible first | assumption | exact Kept.refl _ _ | refine Kept.ite ?_ ?_ | refine State.roomIn_kept ?_ ?_ | refine State.showXfer_kept ?_ ?_ | refine State.updQfb_kept ?_ ?_ | refine State.roomIn_keptp (by assumption) ?_ ?_) | (show Nat.testBit _ _ = true; rfl) | (show subMask _ _ = true; rfl) | (intro _; try dsimp only) | split | dsimp only
theorem State.openWindow_keptp {s : State} {h : QHdr} {a₀ : State} {b₀ : Bool} (e₀ : State.openWindow s h = (a₀, b₀)) (hw₀ : subMask 1300266204481017814005208323304739255567631395925359740042293682340108818459407950176670786411202216146618723686416385 w₀ = true) (h₀ : Kept w₀ s₀ s) : Kept w₀ s₀ a₀ := by
  have g : Kept w₀ s₀ (State.openWindow s h).1 := State.openWindow_kept hw₀ h₀; rw [e₀] at g; exact g

theorem State.dataIn_kept {s : State} {h : QHdr} {payload : List Byte} (hw₀ : subMask 44384713757733172029793688504588705241443679512019599271389583062199958932807392172224814798367061551282818739989892011634095530909 w₀ = true) (h₀ : Kept w₀ s₀ s) :
    Kept w₀ s₀ (State.dataIn s h payload) := by
  refine Kept.trans (a := 44384713757733172029793688504588705241443679512019599271389583062199958932807392172224814798367061551282818739989892011634095530909) (t := s) ?_ hw₀ h₀
  clear h₀ hw₀
  unfold State.dataIn; try dsimp only
  repeat' first | (with_reducible first | assumption | exact Kept.refl _ _ | refine Kept.ite ?_ ?_ | refine State.dropXin_kept ?_ ?_ | refine State.openWindow_kept ?_ ?_ | refine State.qAnswer_kept ?_ ?_ | refine State.updXin_kept ?_ ?_ | refine State.openWindow_keptp (by assumption) ?_ ?_ | refine State.stagePages_kept ?_ ?_ _ (by assumption)) | (show Nat.testBit _ _ = true; rfl) | (show subMask _ _ = true; rfl) | (intro _; try dsimp only) | split | dsimp only

theorem execDataFrame_kept {p : QPort} {chk : FrameCheck} {h : QHdr} {payload : List (BitVec 8)} {s : State} (hw₀ : subMask 44384713757733172655069665742294063834738993601212689439891304883551041309916540432960145644880413539058040069950711506856463541149 w₀ = true) (h₀ : Kept w₀ s₀ s) :
    KeptR w₀ s₀ (execDataFrame p chk h payload s) := by
  refine ⟨fun t₁ e₁ => Kept.trans (a := 44384713757733172655069665742294063834738993601212689439891304883551041309916540432960145644880413539058040069950711506856463541149) (t := s) ?_ hw₀ h₀⟩; refine KeptR.keep (?_ : KeptR 44384713757733172655069665742294063834738993601212689439891304883551041309916540432960145644880413539058040069950711506856463541149 s (execDataFrame p chk h payload s)) t₁ e₁; clear e₁ t₁
  clear h₀ hw₀
  unfold execDataFrame; try dsimp only
  repeat' first | (with_reducible first | assumption | exact Kept.refl _ _ | refine KeptR.next ?_ | exact KeptR.fault | exact KeptR.refused | refine KeptR.ite ?_ ?_ | refine Kept.ite ?_ ?_ | refine State.dataIn_kept ?_ ?_ | refine State.recvData_kept ?_ ?_ ?_ | refine State.updXout_kept ?_ ?_) | (show Nat.testBit _ _ = true; rfl) | (show subMask _ _ = true; rfl) | (intro _; try dsimp only) | split | dsimp only

theorem State.swapEnts_kept {s : State} {a i b j : Nat} (hw₀ : subMask 16 w₀ = true) (h₀ : Kept w₀ s₀ s) :
    Kept w₀ s₀ (State.swapEnts s a i b j) := by
  refine Kept.trans (a := 16) (t := s) ?_ hw₀ h₀
  clear h₀ hw₀
  unfold State.swapEnts; try dsimp only
  repeat' first | (with_reducible first | assumption | exact Kept.refl _ _ | refine Kept.ite ?_ ?_ | refine State.updMapEnt_kept ?_ ?_ | refine State.updPage_kept ?_ ?_) | (show Nat.testBit _ _ = true; rfl) | (show subMask _ _ = true; rfl) | (intro _; try dsimp only) | split | dsimp only

theorem State.applyWindow_kept {s : State} {x : XIn} {w base : Nat} (hw₀ : subMask 44384713757731871763589207486774700033120374772764031638184406308126848246420176735588963286202287051920370814393383977175667048477 w₀ = true) (h₀ : Kept w₀ s₀ s) :
    ∀ p, State.applyWindow s x w base = some p → Kept w₀ s₀ p := by
  intro p hp; refine Kept.trans (a := 44384713757731871763589207486774700033120374772764031638184406308126848246420176735588963286202287051920370814393383977175667048477) (t := s) ?_ hw₀ h₀
  clear h₀ hw₀
  unfold State.applyWindow at hp; try dsimp only at hp
  repeat' first | (cases hp; done) | split at hp
  all_goals (cases hp)
  all_goals (repeat' first | (with_reducible first | assumption | exact Kept.refl _ _ | refine Kept.ite ?_ ?_ | refine State.forEach_kept ?_ ?_ | refine State.portPage_kept ?_ ?_ | refine State.releasePages_kept ?_ ?_ | refine State.swapEnts_kept ?_ ?_ | refine State.writePage_kept ?_ ?_ | refine State.portPage_keptp (by assumption) ?_ ?_ | refine State.stagePages_kept ?_ ?_ _ (by assumption) | refine State.writePage_keptp (by assumption) ?_ ?_) | (show Nat.testBit _ _ = true; rfl) | (show subMask _ _ = true; rfl) | (intro _; try dsimp only) | split | dsimp only)

theorem State.recordOutcome_kept {s : State} {x : XIn} {status lba : Nat} (hw₀ : subMask 1260864198284623334792929283204595641762551656654894293374345388935863096687910739565256520156317300505812095696109569 w₀ = true) (h₀ : Kept w₀ s₀ s) :
    Kept w₀ s₀ (State.recordOutcome s x status lba) := by
  refine Kept.trans (a := 1260864198284623334792929283204595641762551656654894293374345388935863096687910739565256520156317300505812095696109569) (t := s) ?_ hw₀ h₀
  clear h₀ hw₀
  unfold State.recordOutcome; try dsimp only
  repeat' first | (with_reducible first | assumption | exact Kept.refl _ _ | refine Kept.ite ?_ ?_ | refine State.qResult_kept ?_ ?_ | refine State.showXfer_kept ?_ ?_ | refine State.updQfb_kept ?_ ?_) | (show Nat.testBit _ _ = true; rfl) | (show subMask _ _ = true; rfl) | (intro _; try dsimp only) | split | dsimp only

theorem State.commitIn_kept {s : State} {h : QHdr} {total crc base : Nat} (hw₀ : subMask 44384713757733132627787492110109492962403579368405794191650312596753290984513987926534442750395981254399846146402140098006525649821 w₀ = true) (h₀ : Kept w₀ s₀ s) :
    Kept w₀ s₀ (State.commitIn s h total crc base) := by
  refine Kept.trans (a := 44384713757733132627787492110109492962403579368405794191650312596753290984513987926534442750395981254399846146402140098006525649821) (t := s) ?_ hw₀ h₀
  clear h₀ hw₀
  unfold State.commitIn; try dsimp only
  repeat' first | (with_reducible first | assumption | exact Kept.refl _ _ | refine Kept.ite ?_ ?_ | refine State.dropXin_kept ?_ ?_ | refine State.qAnswer_kept ?_ ?_ | refine State.recordOutcome_kept ?_ ?_ | refine State.updXin_kept ?_ ?_ | refine State.applyWindow_kept ?_ ?_ _ (by assumption)) | (show Nat.testBit _ _ = true; rfl) | (show subMask _ _ = true; rfl) | (intro _; try dsimp only) | split | dsimp only

theorem State.commitOut_kept {s : State} {x : XOut} {total crc : Nat} (hw₀ : subMask 162651481578716410188287877533392837787369163708481363845290555172726339475595003338683442208111333198743407729429741721 w₀ = true) (h₀ : Kept w₀ s₀ s) :
    Kept w₀ s₀ (State.commitOut s x total crc) := by
  refine Kept.trans (a := 162651481578716410188287877533392837787369163708481363845290555172726339475595003338683442208111333198743407729429741721) (t := s) ?_ hw₀ h₀
  clear h₀ hw₀
  unfold State.commitOut; try dsimp only
  repeat' first | (with_reducible first | assumption | exact Kept.refl _ _ | refine Kept.ite ?_ ?_ | refine State.abandonXout_kept ?_ ?_ | refine State.dropXout_kept ?_ ?_ | refine State.fillPages_kept ?_ ?_ | refine State.qDone_kept ?_ ?_ | refine State.qSend_kept ?_ ?_ | refine State.updCmd_kept ?_ ?_ | refine State.updRecs_kept ?_ ?_ | refine State.updXout_kept ?_ ?_) | (show Nat.testBit _ _ = true; rfl) | (show subMask _ _ = true; rfl) | (intro _; try dsimp only) | split | dsimp only

theorem execCommitFrame_kept {p : QPort} {chk : FrameCheck} {h : QHdr} {total crc : BitVec 32} {base : BitVec 36} {s : State} (hw₀ : subMask 44384713757733133253063469347814851555698893457598884360152034418104373361623136187269773596909333242175067476362959593228893660061 w₀ = true) (h₀ : Kept w₀ s₀ s) :
    KeptR w₀ s₀ (execCommitFrame p chk h total crc base s) := by
  refine ⟨fun t₁ e₁ => Kept.trans (a := 44384713757733133253063469347814851555698893457598884360152034418104373361623136187269773596909333242175067476362959593228893660061) (t := s) ?_ hw₀ h₀⟩; refine KeptR.keep (?_ : KeptR 44384713757733133253063469347814851555698893457598884360152034418104373361623136187269773596909333242175067476362959593228893660061 s (execCommitFrame p chk h total crc base s)) t₁ e₁; clear e₁ t₁
  clear h₀ hw₀
  unfold execCommitFrame; try dsimp only
  repeat' first | (with_reducible first | assumption | exact Kept.refl _ _ | refine KeptR.next ?_ | exact KeptR.fault | exact KeptR.refused | refine KeptR.ite ?_ ?_ | refine Kept.ite ?_ ?_ | refine State.commitIn_kept ?_ ?_ | refine State.commitOut_kept ?_ ?_ | refine State.recvData_kept ?_ ?_ ?_) | (show Nat.testBit _ _ = true; rfl) | (show subMask _ _ = true; rfl) | (intro _; try dsimp only) | split | dsimp only

theorem State.resultOut_kept {s : State} {x : XOut} {status : Nat} {retry noXfer : Bool} {lba : Nat} (hw₀ : subMask 1260864198284623334792929283204595641762551656654894293374345388935863096687911510847204925924485139125593575201996929 w₀ = true) (h₀ : Kept w₀ s₀ s) :
    Kept w₀ s₀ (State.resultOut s x status retry noXfer lba) := by
  refine Kept.trans (a := 1260864198284623334792929283204595641762551656654894293374345388935863096687911510847204925924485139125593575201996929) (t := s) ?_ hw₀ h₀
  clear h₀ hw₀
  unfold State.resultOut; try dsimp only
  repeat' first | (with_reducible first | assumption | exact Kept.refl _ _ | refine Kept.ite ?_ ?_ | refine State.abandonXout_kept ?_ ?_ | refine State.cmdEnd_kept ?_ ?_ | refine State.dropXout_kept ?_ ?_ | refine State.failXout_kept ?_ ?_ | refine State.qDone_kept ?_ ?_ | refine State.settleLgt_kept ?_ ?_ | refine State.updCmd_kept ?_ ?_ | refine State.updRecs_kept ?_ ?_ | refine State.updXout_kept ?_ ?_) | (show Nat.testBit _ _ = true; rfl) | (show subMask _ _ = true; rfl) | (intro _; try dsimp only) | split | dsimp only

theorem execResultFrame_kept {p : QPort} {chk : FrameCheck} {h : QHdr} {status : BitVec 8} {retry noXfer : Bool} {lba : BitVec 40} {s : State} (hw₀ : subMask 44384713757733133253063469347814851555698893457598884360152034418104373361623136187238374147669802124791785185035070700228473234333 w₀ = true) (h₀ : Kept w₀ s₀ s) :
    KeptR w₀ s₀ (execResultFrame p chk h status retry noXfer lba s) := by
  refine ⟨fun t₁ e₁ => Kept.trans (a := 44384713757733133253063469347814851555698893457598884360152034418104373361623136187238374147669802124791785185035070700228473234333) (t := s) ?_ hw₀ h₀⟩; refine KeptR.keep (?_ : KeptR 44384713757733133253063469347814851555698893457598884360152034418104373361623136187238374147669802124791785185035070700228473234333 s (execResultFrame p chk h status retry noXfer lba s)) t₁ e₁; clear e₁ t₁
  clear h₀ hw₀
  unfold execResultFrame; try dsimp only
  repeat' first | (with_reducible first | assumption | exact Kept.refl _ _ | refine KeptR.next ?_ | exact KeptR.fault | exact KeptR.refused | refine KeptR.ite ?_ ?_ | refine Kept.ite ?_ ?_ | refine State.recvData_kept ?_ ?_ ?_ | refine State.resultOut_kept ?_ ?_) | (show Nat.testBit _ _ = true; rfl) | (show subMask _ _ = true; rfl) | (intro _; try dsimp only) | split | dsimp only

theorem execDoneFrame_kept {p : QPort} {chk : FrameCheck} {h : QHdr} {s : State} (hw₀ : subMask 44384713757733133253063469347814851555698893457598884360152034418104373361623136187238374147669802124791785185035070700228473234333 w₀ = true) (h₀ : Kept w₀ s₀ s) :
    KeptR w₀ s₀ (execDoneFrame p chk h s) := by
  refine ⟨fun t₁ e₁ => Kept.trans (a := 44384713757733133253063469347814851555698893457598884360152034418104373361623136187238374147669802124791785185035070700228473234333) (t := s) ?_ hw₀ h₀⟩; refine KeptR.keep (?_ : KeptR 44384713757733133253063469347814851555698893457598884360152034418104373361623136187238374147669802124791785185035070700228473234333 s (execDoneFrame p chk h s)) t₁ e₁; clear e₁ t₁
  clear h₀ hw₀
  unfold execDoneFrame; try dsimp only
  repeat' first | (with_reducible first | assumption | exact Kept.refl _ _ | refine KeptR.next ?_ | exact KeptR.fault | exact KeptR.refused | refine KeptR.ite ?_ ?_ | refine Kept.ite ?_ ?_ | refine State.dropXin_kept ?_ ?_ | refine State.recvData_kept ?_ ?_ ?_ | refine State.showXfer_kept ?_ ?_ | refine State.updQfb_kept ?_ ?_) | (show Nat.testBit _ _ = true; rfl) | (show subMask _ _ = true; rfl) | (intro _; try dsimp only) | split | dsimp only

theorem execCancelFrame_kept {p : QPort} {chk : FrameCheck} {h : QHdr} {s : State} (hw₀ : subMask 44384713757733133253063469347814851555698893457598884360152034418104373361623136187238374147669802124791785185035070700228473234333 w₀ = true) (h₀ : Kept w₀ s₀ s) :
    KeptR w₀ s₀ (execCancelFrame p chk h s) := by
  refine ⟨fun t₁ e₁ => Kept.trans (a := 44384713757733133253063469347814851555698893457598884360152034418104373361623136187238374147669802124791785185035070700228473234333) (t := s) ?_ hw₀ h₀⟩; refine KeptR.keep (?_ : KeptR 44384713757733133253063469347814851555698893457598884360152034418104373361623136187238374147669802124791785185035070700228473234333 s (execCancelFrame p chk h s)) t₁ e₁; clear e₁ t₁
  clear h₀ hw₀
  unfold execCancelFrame; try dsimp only
  repeat' first | (with_reducible first | assumption | exact Kept.refl _ _ | refine KeptR.next ?_ | exact KeptR.fault | exact KeptR.refused | refine KeptR.ite ?_ ?_ | refine Kept.ite ?_ ?_ | refine State.dropXin_kept ?_ ?_ | refine State.recvData_kept ?_ ?_ ?_) | (show Nat.testBit _ _ = true; rfl) | (show subMask _ _ = true; rfl) | (intro _; try dsimp only) | split | dsimp only

theorem execReadReq_kept {p : QPort} {chk : FrameCheck} {h : QHdr} {a : BitVec 36} {len : BitVec 32} {s : State} (hw₀ : subMask 44384713757733172655069665742294063834738993601212689439891304883551041309916540432991545094119944656441322361278600399856883966877 w₀ = true) (h₀ : Kept w₀ s₀ s) :
    KeptR w₀ s₀ (execReadReq p chk h a len s) := by
  refine ⟨fun t₁ e₁ => Kept.trans (a := 44384713757733172655069665742294063834738993601212689439891304883551041309916540432991545094119944656441322361278600399856883966877) (t := s) ?_ hw₀ h₀⟩; refine KeptR.keep (?_ : KeptR 44384713757733172655069665742294063834738993601212689439891304883551041309916540432991545094119944656441322361278600399856883966877 s (execReadReq p chk h a len s)) t₁ e₁; clear e₁ t₁
  clear h₀ hw₀
  unfold execReadReq; try dsimp only
  repeat' first | (with_reducible first | assumption | exact Kept.refl _ _ | refine KeptR.next ?_ | exact KeptR.fault | exact KeptR.refused | refine KeptR.ite ?_ ?_ | refine Kept.ite ?_ ?_ | refine State.qAnswer_kept ?_ ?_ | refine State.qCommit_kept ?_ ?_ | refine State.qSendData_kept ?_ ?_ | refine State.readMap_kept ?_ ?_ | refine State.recvData_kept ?_ ?_ ?_ | refine State.roomIn_kept ?_ ?_ | refine State.showXfer_kept ?_ ?_ | refine State.updQfb_kept ?_ ?_ | refine State.readMap_keptp (by assumption) ?_ ?_ | refine State.roomIn_keptp (by assumption) ?_ ?_) | (show Nat.testBit _ _ = true; rfl) | (show subMask _ _ = true; rfl) | (intro _; try dsimp only) | split | dsimp only

theorem execMediaReq_kept {p : QPort} {chk : FrameCheck} {h : QHdr} {op : BitVec 8} {rlimit : BitVec 2} {sectors : BitVec 16} {lba : BitVec 40} {s : State} (hw₀ : subMask 44384713757733172655069665742294063834738993601212689439891304883551041309916540432960145644880413539058040069950711506856463541149 w₀ = true) (h₀ : Kept w₀ s₀ s) :
    KeptR w₀ s₀ (execMediaReq p chk h op rlimit sectors lba s) := by
  refine ⟨fun t₁ e₁ => Kept.trans (a := 44384713757733172655069665742294063834738993601212689439891304883551041309916540432960145644880413539058040069950711506856463541149) (t := s) ?_ hw₀ h₀⟩; refine KeptR.keep (?_ : KeptR 44384713757733172655069665742294063834738993601212689439891304883551041309916540432960145644880413539058040069950711506856463541149 s (execMediaReq p chk h op rlimit sectors lba s)) t₁ e₁; clear e₁ t₁
  clear h₀ hw₀
  unfold execMediaReq; try dsimp only
  repeat' first | (with_reducible first | assumption | exact Kept.refl _ _ | refine KeptR.next ?_ | exact KeptR.fault | exact KeptR.refused | refine KeptR.ite ?_ ?_ | refine Kept.ite ?_ ?_ | refine State.qAnswer_kept ?_ ?_ | refine State.recvData_kept ?_ ?_ ?_ | refine State.roomIn_kept ?_ ?_ | refine State.showXfer_kept ?_ ?_ | refine State.updQfb_kept ?_ ?_ | refine State.updSch_kept ?_ ?_ | refine State.roomIn_keptp (by assumption) ?_ ?_) | (show Nat.testBit _ _ = true; rfl) | (show subMask _ _ = true; rfl) | (intro _; try dsimp only) | split | dsimp only | refine Kept.lit rfl (.inr rfl) rfl rfl rfl rfl (.inr rfl) (.inl rfl) (.inl rfl) (.inl rfl) (.inr rfl) (.inr rfl) (.inr rfl) (.inl rfl) (.inr rfl) (.inl rfl) (.inl rfl) (.inl rfl) (.inr rfl) (.inl rfl) (.inl rfl) (.inl rfl) (.inl rfl) (.inl rfl) (.inr rfl) ?_

theorem execHello_kept {p : QPort} {chk : FrameCheck} {hello : QHello} {s : State} (hw₀ : subMask 44384713757733330532444103053376298191088144860243394754510666914535102434767944358933220306067072360087770336365627746694983295901 w₀ = true) (h₀ : Kept w₀ s₀ s) :
    KeptR w₀ s₀ (execHello p chk hello s) := by
  refine ⟨fun t₁ e₁ => Kept.trans (a := 44384713757733330532444103053376298191088144860243394754510666914535102434767944358933220306067072360087770336365627746694983295901) (t := s) ?_ hw₀ h₀⟩; refine KeptR.keep (?_ : KeptR 44384713757733330532444103053376298191088144860243394754510666914535102434767944358933220306067072360087770336365627746694983295901 s (execHello p chk hello s)) t₁ e₁; clear e₁ t₁
  clear h₀ hw₀
  unfold execHello; try dsimp only
  repeat' first | (with_reducible first | assumption | exact Kept.refl _ _ | refine KeptR.next ?_ | exact KeptR.fault | exact KeptR.refused | refine KeptR.ite ?_ ?_ | refine Kept.ite ?_ ?_ | refine State.loseLink_kept ?_ ?_ | refine State.noteHello_kept ?_ ?_ | refine State.recv_kept ?_ ?_ ?_ | refine State.startTraining_kept ?_ ?_) | (show Nat.testBit _ _ = true; rfl) | (show subMask _ _ = true; rfl) | (intro _; try dsimp only) | split | dsimp only

theorem execHeartbeat_kept {p : QPort} {chk : FrameCheck} {s : State} (hw₀ : subMask 161391242656409024558853541545502331338696780553548290902998586892938737111383421177704822355229944425563443470671020041 w₀ = true) (h₀ : Kept w₀ s₀ s) :
    KeptR w₀ s₀ (execHeartbeat p chk s) :=
  KeptR.next (State.recv_kept (fun _ => Kept.refl _ _) (subMask_trans rfl hw₀) h₀)

theorem execLsa_kept {p : QPort} {chk : FrameCheck} {l : QLsa} {s : State} (hw₀ : subMask 44384713757735871692494118764120104948985853438758337402031331766647795768014731264901493203807295416296499686672106760873799558045 w₀ = true) (h₀ : Kept w₀ s₀ s) :
    KeptR w₀ s₀ (execLsa p chk l s) := by
  refine ⟨fun t₁ e₁ => Kept.trans (a := 44384713757735871692494118764120104948985853438758337402031331766647795768014731264901493203807295416296499686672106760873799558045) (t := s) ?_ hw₀ h₀⟩; refine KeptR.keep (?_ : KeptR 44384713757735871692494118764120104948985853438758337402031331766647795768014731264901493203807295416296499686672106760873799558045 s (execLsa p chk l s)) t₁ e₁; clear e₁ t₁
  clear h₀ hw₀
  unfold execLsa; try dsimp only
  repeat' first | (with_reducible first | assumption | exact Kept.refl _ _ | refine KeptR.next ?_ | exact KeptR.fault | exact KeptR.refused | refine KeptR.ite ?_ ?_ | refine Kept.ite ?_ ?_ | refine State.checkStatic_kept ?_ ?_ | refine State.floodLsa_kept ?_ ?_ | apply State.inc_kept | refine State.recv_kept ?_ ?_ ?_ | refine State.storeLsa_kept ?_ ?_) | (show Nat.testBit _ _ = true; rfl) | (show subMask _ _ = true; rfl) | exact inFam_QFB_CNT | exact wrsOk_nil | apply wrsOk_cons | (intro _; try dsimp only) | split | dsimp only

theorem execCredit_kept {p : QPort} {chk : FrameCheck} {f0 f1 f2 : BitVec 8} {s : State} (hw₀ : subMask 161391242656409024558853541545502331338696780553548290902998586892938737111383421177704822355229944425563443470671020041 w₀ = true) (h₀ : Kept w₀ s₀ s) :
    KeptR w₀ s₀ (execCredit p chk f0 f1 f2 s) := by
  refine ⟨fun t₁ e₁ => Kept.trans (a := 161391242656409024558853541545502331338696780553548290902998586892938737111383421177704822355229944425563443470671020041) (t := s) ?_ hw₀ h₀⟩; refine KeptR.keep (?_ : KeptR 161391242656409024558853541545502331338696780553548290902998586892938737111383421177704822355229944425563443470671020041 s (execCredit p chk f0 f1 f2 s)) t₁ e₁; clear e₁ t₁
  clear h₀ hw₀
  unfold execCredit; try dsimp only
  repeat' first | (with_reducible first | assumption | exact Kept.refl _ _ | refine KeptR.next ?_ | exact KeptR.fault | exact KeptR.refused | refine KeptR.ite ?_ ?_ | refine Kept.ite ?_ ?_ | refine State.qPump_kept ?_ ?_ | refine State.recv_kept ?_ ?_ ?_ | refine State.updQport_kept ?_ ?_) | (show Nat.testBit _ _ = true; rfl) | (show subMask _ _ = true; rfl) | (intro _; try dsimp only) | split | dsimp only

theorem execMgmt_kept {p : QPort} {chk : FrameCheck} {data : List (BitVec 8)} {s : State} (hw₀ : subMask 161391242656409024558853541545502331338696780553548290902998586892938737111383421177704822355229944425563443470671020041 w₀ = true) (h₀ : Kept w₀ s₀ s) :
    KeptR w₀ s₀ (execMgmt p chk data s) := by
  refine ⟨fun t₁ e₁ => Kept.trans (a := 161391242656409024558853541545502331338696780553548290902998586892938737111383421177704822355229944425563443470671020041) (t := s) ?_ hw₀ h₀⟩; refine KeptR.keep (?_ : KeptR 161391242656409024558853541545502331338696780553548290902998586892938737111383421177704822355229944425563443470671020041 s (execMgmt p chk data s)) t₁ e₁; clear e₁ t₁
  clear h₀ hw₀
  unfold execMgmt; try dsimp only
  repeat' first | (with_reducible first | assumption | exact Kept.refl _ _ | refine KeptR.next ?_ | exact KeptR.fault | exact KeptR.refused | refine KeptR.ite ?_ ?_ | refine Kept.ite ?_ ?_ | refine State.emit_kept ?_ ?_ | refine State.recv_kept ?_ ?_ ?_) | (show Nat.testBit _ _ = true; rfl) | (show subMask _ _ = true; rfl) | (intro _; try dsimp only) | split | dsimp only

theorem execHelloSend_kept {p : QPort} {s : State} (hw₀ : subMask 6291456 w₀ = true) (h₀ : Kept w₀ s₀ s) :
    KeptR w₀ s₀ (execHelloSend p s) := by
  refine ⟨fun t₁ e₁ => Kept.trans (a := 6291456) (t := s) ?_ hw₀ h₀⟩; refine KeptR.keep (?_ : KeptR 6291456 s (execHelloSend p s)) t₁ e₁; clear e₁ t₁
  clear h₀ hw₀
  unfold execHelloSend; try dsimp only
  repeat' first | (with_reducible first | assumption | exact Kept.refl _ _ | refine KeptR.next ?_ | exact KeptR.fault | exact KeptR.refused | refine KeptR.ite ?_ ?_ | refine Kept.ite ?_ ?_ | refine State.qCtl_kept ?_ ?_) | (show Nat.testBit _ _ = true; rfl) | (show subMask _ _ = true; rfl) | (intro _; try dsimp only) | split | dsimp only

theorem execHeartbeatSend_kept {p : QPort} {s : State} (hw₀ : subMask 6291456 w₀ = true) (h₀ : Kept w₀ s₀ s) :
    KeptR w₀ s₀ (execHeartbeatSend p s) := by
  refine ⟨fun t₁ e₁ => Kept.trans (a := 6291456) (t := s) ?_ hw₀ h₀⟩; refine KeptR.keep (?_ : KeptR 6291456 s (execHeartbeatSend p s)) t₁ e₁; clear e₁ t₁
  clear h₀ hw₀
  unfold execHeartbeatSend; try dsimp only
  repeat' first | (with_reducible first | assumption | exact Kept.refl _ _ | refine KeptR.next ?_ | exact KeptR.fault | exact KeptR.refused | refine KeptR.ite ?_ ?_ | refine Kept.ite ?_ ?_ | refine State.qCtl_kept ?_ ?_) | (show Nat.testBit _ _ = true; rfl) | (show subMask _ _ = true; rfl) | (intro _; try dsimp only) | split | dsimp only

theorem execLsaOriginate_kept {s : State} (hw₀ : subMask 44384713757733330253474820901169292049464081651218785294717591025009234912673093596451303466853423011695748512229262125749619106717 w₀ = true) (h₀ : Kept w₀ s₀ s) :
    KeptR w₀ s₀ (execLsaOriginate s) := by
  refine ⟨fun t₁ e₁ => Kept.trans (a := 44384713757733330253474820901169292049464081651218785294717591025009234912673093596451303466853423011695748512229262125749619106717) (t := s) ?_ hw₀ h₀⟩; refine KeptR.keep (?_ : KeptR 44384713757733330253474820901169292049464081651218785294717591025009234912673093596451303466853423011695748512229262125749619106717 s (execLsaOriginate s)) t₁ e₁; clear e₁ t₁
  clear h₀ hw₀
  unfold execLsaOriginate; try dsimp only
  repeat' first | (with_reducible first | assumption | exact Kept.refl _ _ | refine KeptR.next ?_ | exact KeptR.fault | exact KeptR.refused | refine KeptR.ite ?_ ?_ | refine Kept.ite ?_ ?_ | refine State.originateLsa_kept ?_ ?_) | (show Nat.testBit _ _ = true; rfl) | (show subMask _ _ = true; rfl) | (intro _; try dsimp only) | split | dsimp only

theorem execLsaExpire_kept {s : State} (hw₀ : subMask 44384713757733330253474820901169292049464081651218785294717591025009234912673093596451303466853423011695748512229262125749619106717 w₀ = true) (h₀ : Kept w₀ s₀ s) :
    KeptR w₀ s₀ (execLsaExpire s) := by
  refine ⟨fun t₁ e₁ => Kept.trans (a := 44384713757733330253474820901169292049464081651218785294717591025009234912673093596451303466853423011695748512229262125749619106717) (t := s) ?_ hw₀ h₀⟩; refine KeptR.keep (?_ : KeptR 44384713757733330253474820901169292049464081651218785294717591025009234912673093596451303466853423011695748512229262125749619106717 s (execLsaExpire s)) t₁ e₁; clear e₁ t₁
  clear h₀ hw₀
  unfold execLsaExpire; try dsimp only
  repeat' first | (with_reducible first | assumption | exact Kept.refl _ _ | refine KeptR.next ?_ | exact KeptR.fault | exact KeptR.refused | refine KeptR.ite ?_ ?_ | refine Kept.ite ?_ ?_ | refine State.rebuildRoutes_kept ?_ ?_ | refine State.updQfb_kept ?_ ?_) | (show Nat.testBit _ _ = true; rfl) | (show subMask _ _ = true; rfl) | (intro _; try dsimp only) | split | dsimp only

theorem execAddressAssign_kept {s : State} (hw₀ : subMask 44384713757733349954477919098408898188984131723025687834587226257732568886819795719312189215458728718828875954687082529063614260125 w₀ = true) (h₀ : Kept w₀ s₀ s) :
    KeptR w₀ s₀ (execAddressAssign s) := by
  refine ⟨fun t₁ e₁ => Kept.trans (a := 44384713757733349954477919098408898188984131723025687834587226257732568886819795719312189215458728718828875954687082529063614260125) (t := s) ?_ hw₀ h₀⟩; refine KeptR.keep (?_ : KeptR 44384713757733349954477919098408898188984131723025687834587226257732568886819795719312189215458728718828875954687082529063614260125 s (execAddressAssign s)) t₁ e₁; clear e₁ t₁
  clear h₀ hw₀
  unfold execAddressAssign; try dsimp only
  repeat' first | (with_reducible first | assumption | exact Kept.refl _ _ | refine KeptR.next ?_ | exact KeptR.fault | exact KeptR.refused | refine KeptR.ite ?_ ?_ | refine Kept.ite ?_ ?_ | refine State.originateLsa_kept ?_ ?_ | refine State.updPersist_kept ?_ ?_ | refine State.wrs_kept ?_ ?_ ?_) | (show Nat.testBit _ _ = true; rfl) | (show subMask _ _ = true; rfl) | exact inFam_QFB_ADDR | exact wrsOk_nil | apply wrsOk_cons | (intro _; try dsimp only) | split | dsimp only

theorem execCreditSend_kept {p : QPort} {s : State} (hw₀ : subMask 6291456 w₀ = true) (h₀ : Kept w₀ s₀ s) :
    KeptR w₀ s₀ (execCreditSend p s) := by
  refine ⟨fun t₁ e₁ => Kept.trans (a := 6291456) (t := s) ?_ hw₀ h₀⟩; refine KeptR.keep (?_ : KeptR 6291456 s (execCreditSend p s)) t₁ e₁; clear e₁ t₁
  clear h₀ hw₀
  unfold execCreditSend; try dsimp only
  repeat' first | (with_reducible first | assumption | exact Kept.refl _ _ | refine KeptR.next ?_ | exact KeptR.fault | exact KeptR.refused | refine KeptR.ite ?_ ?_ | refine Kept.ite ?_ ?_ | refine State.qCtl_kept ?_ ?_ | refine State.updQport_kept ?_ ?_) | (show Nat.testBit _ _ = true; rfl) | (show subMask _ _ = true; rfl) | (intro _; try dsimp only) | split | dsimp only

theorem execRelayTimeout_kept {p : QPort} {s : State} (hw₀ : subMask 615656346818663737691860001564743965704370926101022604186692084441339402679643915803347910232576806887603564445697 w₀ = true) (h₀ : Kept w₀ s₀ s) :
    KeptR w₀ s₀ (execRelayTimeout p s) := by
  refine ⟨fun t₁ e₁ => Kept.trans (a := 615656346818663737691860001564743965704370926101022604186692084441339402679643915803347910232576806887603564445697) (t := s) ?_ hw₀ h₀⟩; refine KeptR.keep (?_ : KeptR 615656346818663737691860001564743965704370926101022604186692084441339402679643915803347910232576806887603564445697 s (execRelayTimeout p s)) t₁ e₁; clear e₁ t₁
  clear h₀ hw₀
  unfold execRelayTimeout; try dsimp only
  repeat' first | (with_reducible first | assumption | exact Kept.refl _ _ | refine KeptR.next ?_ | exact KeptR.fault | exact KeptR.refused | refine KeptR.ite ?_ ?_ | refine Kept.ite ?_ ?_ | refine State.discardEnt_kept ?_ ?_ | refine State.forEach_kept ?_ ?_ | refine State.updQport_kept ?_ ?_) | (show Nat.testBit _ _ = true; rfl) | (show subMask _ _ = true; rfl) | (intro _; try dsimp only) | split | dsimp only

theorem execCommitRepeat_kept {s : State} (hw₀ : subMask 6291456 w₀ = true) (h₀ : Kept w₀ s₀ s) :
    KeptR w₀ s₀ (execCommitRepeat s) := by
  refine ⟨fun t₁ e₁ => Kept.trans (a := 6291456) (t := s) ?_ hw₀ h₀⟩; refine KeptR.keep (?_ : KeptR 6291456 s (execCommitRepeat s)) t₁ e₁; clear e₁ t₁
  clear h₀ hw₀
  unfold execCommitRepeat; try dsimp only
  repeat' first | (with_reducible first | assumption | exact Kept.refl _ _ | refine KeptR.next ?_ | exact KeptR.fault | exact KeptR.refused | refine KeptR.ite ?_ ?_ | refine Kept.ite ?_ ?_ | refine State.forEach_kept ?_ ?_ | refine State.qCommit_kept ?_ ?_ | refine State.updXout_kept ?_ ?_) | (show Nat.testBit _ _ = true; rfl) | (show subMask _ _ = true; rfl) | (intro _; try dsimp only) | split | dsimp only

theorem execRetryResend_kept {s : State} (hw₀ : subMask 1260864198284623334792929283204595641762551656654894293374345388935863096687911510847204925924485139125593575201996929 w₀ = true) (h₀ : Kept w₀ s₀ s) :
    KeptR w₀ s₀ (execRetryResend s) := by
  refine ⟨fun t₁ e₁ => Kept.trans (a := 1260864198284623334792929283204595641762551656654894293374345388935863096687911510847204925924485139125593575201996929) (t := s) ?_ hw₀ h₀⟩; refine KeptR.keep (?_ : KeptR 1260864198284623334792929283204595641762551656654894293374345388935863096687911510847204925924485139125593575201996929 s (execRetryResend s)) t₁ e₁; clear e₁ t₁
  clear h₀ hw₀
  unfold execRetryResend; try dsimp only
  repeat' first | (with_reducible first | assumption | exact Kept.refl _ _ | refine KeptR.next ?_ | exact KeptR.fault | exact KeptR.refused | refine KeptR.ite ?_ ?_ | refine Kept.ite ?_ ?_ | refine State.failXout_kept ?_ ?_ | refine State.forEach_kept ?_ ?_ | refine State.resendXout_kept ?_ ?_) | (show Nat.testBit _ _ = true; rfl) | (show subMask _ _ = true; rfl) | (intro _; try dsimp only) | split | dsimp only

theorem execOutcomeDrop_kept {s : State} (hw₀ : subMask 1260864198284623334792929283204595641762551656654894293374345388935863096687910739565256520156317300505812095691915265 w₀ = true) (h₀ : Kept w₀ s₀ s) :
    KeptR w₀ s₀ (execOutcomeDrop s) := by
  refine ⟨fun t₁ e₁ => Kept.trans (a := 1260864198284623334792929283204595641762551656654894293374345388935863096687910739565256520156317300505812095691915265) (t := s) ?_ hw₀ h₀⟩; refine KeptR.keep (?_ : KeptR 1260864198284623334792929283204595641762551656654894293374345388935863096687910739565256520156317300505812095691915265 s (execOutcomeDrop s)) t₁ e₁; clear e₁ t₁
  clear h₀ hw₀
  unfold execOutcomeDrop; try dsimp only
  repeat' first | (with_reducible first | assumption | exact Kept.refl _ _ | refine KeptR.next ?_ | exact KeptR.fault | exact KeptR.refused | refine KeptR.ite ?_ ?_ | refine Kept.ite ?_ ?_ | refine State.showXfer_kept ?_ ?_ | refine State.updQfb_kept ?_ ?_) | (show Nat.testBit _ _ = true; rfl) | (show subMask _ _ = true; rfl) | (intro _; try dsimp only) | split | dsimp only

theorem execStagingDiscard_kept {s : State} (hw₀ : subMask 44384713757733132627787492110109492962403579368405794191650312596753290984513987926503043301156450137016563855074251205006105224093 w₀ = true) (h₀ : Kept w₀ s₀ s) :
    KeptR w₀ s₀ (execStagingDiscard s) := by
  refine ⟨fun t₁ e₁ => Kept.trans (a := 44384713757733132627787492110109492962403579368405794191650312596753290984513987926503043301156450137016563855074251205006105224093) (t := s) ?_ hw₀ h₀⟩; refine KeptR.keep (?_ : KeptR 44384713757733132627787492110109492962403579368405794191650312596753290984513987926503043301156450137016563855074251205006105224093 s (execStagingDiscard s)) t₁ e₁; clear e₁ t₁
  clear h₀ hw₀
  unfold execStagingDiscard; try dsimp only
  repeat' first | (with_reducible first | assumption | exact Kept.refl _ _ | refine KeptR.next ?_ | exact KeptR.fault | exact KeptR.refused | refine KeptR.ite ?_ ?_ | refine Kept.ite ?_ ?_ | refine State.dropXin_kept ?_ ?_ | refine State.forEach_kept ?_ ?_) | (show Nat.testBit _ _ = true; rfl) | (show subMask _ _ = true; rfl) | (intro _; try dsimp only) | split | dsimp only

theorem execXferIdleAbandon_kept {s : State} (hw₀ : subMask 44384713757733132627787492110109492962403579368405794191650312596753290984513987926503043301156450137016563855074251205006105224093 w₀ = true) (h₀ : Kept w₀ s₀ s) :
    KeptR w₀ s₀ (execXferIdleAbandon s) := by
  refine ⟨fun t₁ e₁ => Kept.trans (a := 44384713757733132627787492110109492962403579368405794191650312596753290984513987926503043301156450137016563855074251205006105224093) (t := s) ?_ hw₀ h₀⟩; refine KeptR.keep (?_ : KeptR 44384713757733132627787492110109492962403579368405794191650312596753290984513987926503043301156450137016563855074251205006105224093 s (execXferIdleAbandon s)) t₁ e₁; clear e₁ t₁
  clear h₀ hw₀
  unfold execXferIdleAbandon; try dsimp only
  repeat' first | (with_reducible first | assumption | exact Kept.refl _ _ | refine KeptR.next ?_ | exact KeptR.fault | exact KeptR.refused | refine KeptR.ite ?_ ?_ | refine Kept.ite ?_ ?_ | refine State.abandonXout_kept ?_ ?_ | refine State.dropXin_kept ?_ ?_ | refine State.forEach_kept ?_ ?_) | (show Nat.testBit _ _ = true; rfl) | (show subMask _ _ = true; rfl) | (intro _; try dsimp only) | split | dsimp only

theorem execTransferRestart_kept {s : State} (hw₀ : subMask 3821994601050264483591066889713930539092734709235148326790984460211835011835230200589132232492004655778024394571939969 w₀ = true) (h₀ : Kept w₀ s₀ s) :
    KeptR w₀ s₀ (execTransferRestart s) := by
  refine ⟨fun t₁ e₁ => Kept.trans (a := 3821994601050264483591066889713930539092734709235148326790984460211835011835230200589132232492004655778024394571939969) (t := s) ?_ hw₀ h₀⟩; refine KeptR.keep (?_ : KeptR 3821994601050264483591066889713930539092734709235148326790984460211835011835230200589132232492004655778024394571939969 s (execTransferRestart s)) t₁ e₁; clear e₁ t₁
  clear h₀ hw₀
  unfold execTransferRestart; try dsimp only
  repeat' first | (with_reducible first | assumption | exact Kept.refl _ _ | refine KeptR.next ?_ | exact KeptR.fault | exact KeptR.refused | refine KeptR.ite ?_ ?_ | refine Kept.ite ?_ ?_ | refine State.failXout_kept ?_ ?_ | refine State.forEach_kept ?_ ?_ | apply State.inc_kept | apply State.qfbBit_kept | refine State.resendXout_kept ?_ ?_) | (show Nat.testBit _ _ = true; rfl) | (show subMask _ _ = true; rfl) | exact inFam_QFB_CNT | exact inFam_QFB_STATUS | exact wrsOk_nil | apply wrsOk_cons | (intro _; try dsimp only) | split | dsimp only

end Sys2Proof.Machine
end

