-- ==== Sys2Proof/Laws/KeptWritePath.lean ====
section
/-! SUPPORT. What the operations and meanings of Machine/WritePath.lean keep (the relation Kept). -/

set_option Elab.async false

namespace Sys2Proof.Machine
open Reg
set_option linter.unusedVariables false
set_option linter.unusedTactic false
set_option linter.unreachableTactic false
set_option maxHeartbeats 400000

variable {w₀ : Nat} {s₀ : State}

theorem State.fencePa_kept {s : State} {a : Nat} (hw₀ : subMask 44384376587918356619345083307102957096416090371150194921102159188125443433079607817793423318825179932278280650077337263253370708553 w₀ = true) (h₀ : Kept w₀ s₀ s) :
    Kept w₀ s₀ (State.fencePa s a) := by
  refine Kept.trans (a := 44384376587918356619345083307102957096416090371150194921102159188125443433079607817793423318825179932278280650077337263253370708553) (t := s) ?_ hw₀ h₀
  clear h₀ hw₀
  unfold State.fencePa; try dsimp only
  repeat' first | (with_reducible first | assumption | exact Kept.refl _ _ | refine Kept.ite ?_ ?_ | refine State.dropGates_kept ?_ ?_ | refine State.markFenced_kept ?_ ?_) | (show Nat.testBit _ _ = true; rfl) | (show subMask _ _ = true; rfl) | (intro _; try dsimp only) | split | dsimp only

theorem State.popEvent_kept {s : State} {h : Nat} (hw₀ : subMask 8192 w₀ = true) (h₀ : Kept w₀ s₀ s) :
    Kept w₀ s₀ (State.popEvent s h) := by
  refine Kept.trans (a := 8192) (t := s) ?_ hw₀ h₀
  clear h₀ hw₀
  unfold State.popEvent; try dsimp only
  repeat' first | (with_reducible first | assumption | exact Kept.refl _ _ | refine Kept.ite ?_ ?_ | refine State.updLane_kept ?_ ?_) | (show Nat.testBit _ _ = true; rfl) | (show subMask _ _ = true; rfl) | (intro _; try dsimp only) | split | dsimp only

theorem State.gateClosed_kept {s : State} {h : Nat} {e : GateEv} (hw₀ : subMask 485667223056432267729865476705879726660601709763034880312953102434726071301302657025 w₀ = true) (h₀ : Kept w₀ s₀ s) :
    Kept w₀ s₀ (State.gateClosed s h e) := by
  refine Kept.trans (a := 485667223056432267729865476705879726660601709763034880312953102434726071301302657025) (t := s) ?_ hw₀ h₀
  clear h₀ hw₀
  unfold State.gateClosed; try dsimp only
  repeat' first | (with_reducible first | assumption | exact Kept.refl _ _ | refine Kept.ite ?_ ?_ | apply State.inc_kept | refine State.returnSector_kept ?_ ?_) | (show Nat.testBit _ _ = true; rfl) | (show subMask _ _ = true; rfl) | exact inFam_SEQ_EVT_CNT | exact wrsOk_nil | apply wrsOk_cons | (intro _; try dsimp only) | split | dsimp only

theorem State.appendStarted_kept {s : State} {w : SecWork} (hw₀ : subMask 64 w₀ = true) (h₀ : Kept w₀ s₀ s) :
    Kept w₀ s₀ (State.appendStarted s w) := by
  refine Kept.trans (a := 64) (t := s) ?_ hw₀ h₀
  clear h₀ hw₀
  unfold State.appendStarted; try dsimp only
  repeat' first | (with_reducible first | assumption | exact Kept.refl _ _ | refine Kept.ite ?_ ?_ | refine State.updZone_kept ?_ ?_) | (show Nat.testBit _ _ = true; rfl) | (show subMask _ _ = true; rfl) | (intro _; try dsimp only) | split | dsimp only

theorem State.fireOpenWrite_kept {s : State} {h : Nat} {e : GateEv} (hw₀ : subMask 44384376587918356619345083307102957096416090371150194921102159188125443433079607817793423318825179932278280650077337263253370708553 w₀ = true) (h₀ : Kept w₀ s₀ s) :
    Kept w₀ s₀ (State.fireOpenWrite s h e) := by
  refine Kept.trans (a := 44384376587918356619345083307102957096416090371150194921102159188125443433079607817793423318825179932278280650077337263253370708553) (t := s) ?_ hw₀ h₀
  clear h₀ hw₀
  unfold State.fireOpenWrite; try dsimp only
  repeat' first | (with_reducible first | assumption | exact Kept.refl _ _ | refine Kept.ite ?_ ?_ | refine State.appendStarted_kept ?_ ?_ | refine State.cancelToken_kept ?_ ?_ | refine State.emit_kept ?_ ?_ | refine State.gateClosed_kept ?_ ?_ | apply State.inc_kept | apply State.setB_kept | refine State.slotFailed_kept ?_ ?_ | refine State.updHead_kept ?_ ?_ | refine State.updSec_kept ?_ ?_ | refine State.when_kept ?_ ?_) | (show Nat.testBit _ _ = true; rfl) | (show subMask _ _ = true; rfl) | exact inFam_WRP_EVT_CNT | exact inFam_WRP_STATUS | exact wrsOk_nil | apply wrsOk_cons | (intro _; try dsimp only) | split | dsimp only

theorem State.fireOpenRead_kept {s : State} {h : Nat} {e : GateEv} (hw₀ : subMask 485667223056459901675199306111669260351065904884475358385986206521519202501808104339 w₀ = true) (h₀ : Kept w₀ s₀ s) :
    Kept w₀ s₀ (State.fireOpenRead s h e) := by
  refine Kept.trans (a := 485667223056459901675199306111669260351065904884475358385986206521519202501808104339) (t := s) ?_ hw₀ h₀
  clear h₀ hw₀
  unfold State.fireOpenRead; try dsimp only
  repeat' first | (with_reducible first | assumption | exact Kept.refl _ _ | refine Kept.ite ?_ ?_ | refine State.abandonChannel_kept ?_ ?_ | refine State.channelOpen_kept ?_ ?_ | refine State.finishRelease_kept ?_ ?_ | refine State.gateClosed_kept ?_ ?_ | apply State.inc_kept | refine State.rereadAbandoned_kept ?_ ?_ | refine State.updHead_kept ?_ ?_ | refine State.updSec_kept ?_ ?_ | refine State.when_kept ?_ ?_) | (show Nat.testBit _ _ = true; rfl) | (show subMask _ _ = true; rfl) | exact inFam_SEQ_EVT_CNT | exact wrsOk_nil | apply wrsOk_cons | (intro _; try dsimp only) | split | dsimp only

theorem State.fireCloseWrite_kept {s : State} {h : Nat} {e : GateEv} (hw₀ : subMask 29642774844752946028434172162224104410437116074403984394101141506025761192542789 w₀ = true) (h₀ : Kept w₀ s₀ s) :
    Kept w₀ s₀ (State.fireCloseWrite s h e) := by
  refine Kept.trans (a := 29642774844752946028434172162224104410437116074403984394101141506025761192542789) (t := s) ?_ hw₀ h₀
  clear h₀ hw₀
  unfold State.fireCloseWrite; try dsimp only
  repeat' first | (with_reducible first | assumption | exact Kept.refl _ _ | refine Kept.ite ?_ ?_ | apply State.clr_kept | refine State.emit_kept ?_ ?_ | refine State.sectorWritten_kept ?_ ?_ | refine State.updHead_kept ?_ ?_) | (show Nat.testBit _ _ = true; rfl) | (show subMask _ _ = true; rfl) | exact inFam_WRP_STATUS | exact wrsOk_nil | apply wrsOk_cons | (intro _; try dsimp only) | split | dsimp only

theorem State.fireCloseRead_kept {s : State} {h : Nat} {adc : List (Byte × Byte)} {e : GateEv} (hw₀ : subMask 161390617380431786853494948250188242145606612052268201959319972903394893546026247456197842759844451306774021549506691737 w₀ = true) (h₀ : Kept w₀ s₀ s) :
    Kept w₀ s₀ (State.fireCloseRead s h adc e) := by
  refine Kept.trans (a := 161390617380431786853494948250188242145606612052268201959319972903394893546026247456197842759844451306774021549506691737) (t := s) ?_ hw₀ h₀
  clear h₀ hw₀
  unfold State.fireCloseRead; try dsimp only
  repeat' first | (with_reducible first | assumption | exact Kept.refl _ _ | refine Kept.ite ?_ ?_ | refine State.channelClose_kept ?_ ?_ | refine State.feed_kept ?_ ?_ | refine State.updHead_kept ?_ ?_ | refine State.when_kept ?_ ?_) | (show Nat.testBit _ _ = true; rfl) | (show subMask _ _ = true; rfl) | (intro _; try dsimp only) | split | dsimp only

theorem execGateEventFire_kept {h : Head} {adc : List (Byte × Byte)} {s : State} (hw₀ : subMask 44384376588079747236725515093956452044666278613295920104253834035814210972077441141447555509867115869048734610036928519048129946591 w₀ = true) (h₀ : Kept w₀ s₀ s) :
    KeptR w₀ s₀ (execGateEventFire h adc s) := by
  refine ⟨fun t₁ e₁ => Kept.trans (a := 44384376588079747236725515093956452044666278613295920104253834035814210972077441141447555509867115869048734610036928519048129946591) (t := s) ?_ hw₀ h₀⟩; refine KeptR.keep (?_ : KeptR 44384376588079747236725515093956452044666278613295920104253834035814210972077441141447555509867115869048734610036928519048129946591 s (execGateEventFire h adc s)) t₁ e₁; clear e₁ t₁
  clear h₀ hw₀
  unfold execGateEventFire; try dsimp only
  repeat' first | (with_reducible first | assumption | exact Kept.refl _ _ | refine KeptR.next ?_ | exact KeptR.fault | exact KeptR.refused | refine KeptR.ite ?_ ?_ | refine Kept.ite ?_ ?_ | refine State.fireCloseRead_kept ?_ ?_ | refine State.fireCloseWrite_kept ?_ ?_ | refine State.fireOpenRead_kept ?_ ?_ | refine State.fireOpenWrite_kept ?_ ?_ | refine State.paKick_kept ?_ ?_ | refine State.popEvent_kept ?_ ?_) | (show Nat.testBit _ _ = true; rfl) | (show subMask _ _ = true; rfl) | (intro _; try dsimp only) | split | dsimp only

theorem State.streamCrcFail_kept {s : State} {h tok : Nat} {w : SecWork} (hw₀ : subMask 44384713757731871763589207486774700033120374772764061280959251061072876680592338959570557922545682198668480669421872438399879225865 w₀ = true) (h₀ : Kept w₀ s₀ s) :
    Kept w₀ s₀ (State.streamCrcFail s h tok w) := by
  refine Kept.trans (a := 44384713757731871763589207486774700033120374772764061280959251061072876680592338959570557922545682198668480669421872438399879225865) (t := s) ?_ hw₀ h₀
  clear h₀ hw₀
  unfold State.streamCrcFail; try dsimp only
  repeat' first | (with_reducible first | assumption | exact Kept.refl _ _ | refine Kept.ite ?_ ?_ | refine State.closeGate_kept ?_ ?_ | refine State.cmdFail_kept ?_ ?_ | refine State.forEach_kept ?_ ?_ | refine State.raiseSrc_kept ?_ ?_ | refine State.unlist_kept ?_ ?_ | refine State.updSec_kept ?_ ?_ | apply State.wrpBit_kept) | (show Nat.testBit _ _ = true; rfl) | (show subMask _ _ = true; rfl) | exact inFam_WRP_STATUS | exact wrsOk_nil | apply wrsOk_cons | (intro _; try dsimp only) | split | dsimp only

theorem execStreamSectorReady_kept {h : Head} {tok : Word} {s : State} (hw₀ : subMask 44384713757731871763589207486774700033120374772764061280959251061072876680592338959601957393563284798991824622405736207033465184793 w₀ = true) (h₀ : Kept w₀ s₀ s) :
    KeptR w₀ s₀ (execStreamSectorReady h tok s) := by
  refine KeptR.next (Kept.trans (a := 44384713757731871763589207486774700033120374772764061280959251061072876680592338959601957393563284798991824622405736207033465184793) (t := s) ?_ hw₀ h₀)
  split
  · exact Kept.refl _ _
  · split
    · exact Kept.refl _ _
    · refine Kept.ite (Kept.refl _ _) ?_
      extract_lets p q t d r tag crc bits t2
      have k1 : Kept 44384713757731871763589207486774700033120374772764061280959251061072876680592338959601957393563284798991824622405736207033465184793 s t := State.readAny_kept rfl (State.readAny_kept rfl (Kept.refl _ _))
      exact Kept.ite (State.streamCrcFail_kept rfl k1) (State.updSec_kept rfl (State.updHead_kept rfl k1))

theorem State.roomInFront_kept {s : State} {h : Nat} (hw₀ : subMask 485667223056432267729865476705879726660601709763034880312953102434726071301302657025 w₀ = true) (h₀ : Kept w₀ s₀ s) :
    Kept w₀ s₀ (State.roomInFront s h) := by
  refine Kept.trans (a := 485667223056432267729865476705879726660601709763034880312953102434726071301302657025) (t := s) ?_ hw₀ h₀
  clear h₀ hw₀
  unfold State.roomInFront; try dsimp only
  repeat' first | (with_reducible first | assumption | exact Kept.refl _ _ | refine Kept.ite ?_ ?_ | refine State.returnSector_kept ?_ ?_ | refine State.updLane_kept ?_ ?_) | (show Nat.testBit _ _ = true; rfl) | (show subMask _ _ = true; rfl) | (intro _; try dsimp only) | split | dsimp only

theorem execSectorRewrite_kept {h : Head} {tok : Word} {s : State} (hw₀ : subMask 485667223056432267729865476705879726660601709763034880312953102434726071301302657025 w₀ = true) (h₀ : Kept w₀ s₀ s) :
    KeptR w₀ s₀ (execSectorRewrite h tok s) := by
  refine ⟨fun t₁ e₁ => Kept.trans (a := 485667223056432267729865476705879726660601709763034880312953102434726071301302657025) (t := s) ?_ hw₀ h₀⟩; refine KeptR.keep (?_ : KeptR 485667223056432267729865476705879726660601709763034880312953102434726071301302657025 s (execSectorRewrite h tok s)) t₁ e₁; clear e₁ t₁
  clear h₀ hw₀
  unfold execSectorRewrite; try dsimp only
  repeat' first | (with_reducible first | assumption | exact Kept.refl _ _ | refine KeptR.next ?_ | exact KeptR.fault | exact KeptR.refused | refine KeptR.ite ?_ ?_ | refine Kept.ite ?_ ?_ | refine State.roomInFront_kept ?_ ?_ | refine State.updLane_kept ?_ ?_ | refine State.updSec_kept ?_ ?_) | (show Nat.testBit _ _ = true; rfl) | (show subMask _ _ = true; rfl) | (intro _; try dsimp only) | split | dsimp only

theorem State.frameTaken_kept {s : State} {a : Nat} {f : PaFrame} (hw₀ : subMask 237142198758023568227473377297792835283496928595231875152809132048206089502589441 w₀ = true) (h₀ : Kept w₀ s₀ s) :
    Kept w₀ s₀ (State.frameTaken s a f) := by
  refine Kept.trans (a := 237142198758023568227473377297792835283496928595231875152809132048206089502589441) (t := s) ?_ hw₀ h₀
  clear h₀ hw₀
  unfold State.frameTaken; try dsimp only
  repeat' first | (with_reducible first | assumption | exact Kept.refl _ _ | refine Kept.ite ?_ ?_ | refine State.forEach_kept ?_ ?_ | refine State.paCheck_kept ?_ ?_ | apply State.setB_kept | refine State.updHead_kept ?_ ?_ | refine State.updPort_kept ?_ ?_ | refine State.when_kept ?_ ?_) | (show Nat.testBit _ _ = true; rfl) | (show subMask _ _ = true; rfl) | exact inFam_WRP_PA_RESP | exact wrsOk_nil | apply wrsOk_cons | (intro _; try dsimp only) | split | dsimp only

theorem execPaFrameEnd_kept {a : Act} {s : State} (hw₀ : subMask 355713298137035352341210065946689252925245392892847812729213698072309134258078209 w₀ = true) (h₀ : Kept w₀ s₀ s) :
    KeptR w₀ s₀ (execPaFrameEnd a s) := by
  refine ⟨fun t₁ e₁ => Kept.trans (a := 355713298137035352341210065946689252925245392892847812729213698072309134258078209) (t := s) ?_ hw₀ h₀⟩; refine KeptR.keep (?_ : KeptR 355713298137035352341210065946689252925245392892847812729213698072309134258078209 s (execPaFrameEnd a s)) t₁ e₁; clear e₁ t₁
  clear h₀ hw₀
  unfold execPaFrameEnd; try dsimp only
  repeat' first | (with_reducible first | assumption | exact Kept.refl _ _ | refine KeptR.next ?_ | exact KeptR.fault | exact KeptR.refused | refine KeptR.ite ?_ ?_ | refine Kept.ite ?_ ?_ | refine State.frameTaken_kept ?_ ?_ | refine State.paKick_kept ?_ ?_ | refine State.updPort_kept ?_ ?_) | (show Nat.testBit _ _ = true; rfl) | (show subMask _ _ = true; rfl) | (intro _; try dsimp only) | split | dsimp only

theorem execPaKeepalive_kept {a : Act} {s : State} (hw₀ : subMask 118571099379011784113736688648896417641748464297615937576404566024103044755489281 w₀ = true) (h₀ : Kept w₀ s₀ s) :
    KeptR w₀ s₀ (execPaKeepalive a s) := by
  refine ⟨fun t₁ e₁ => Kept.trans (a := 118571099379011784113736688648896417641748464297615937576404566024103044755489281) (t := s) ?_ hw₀ h₀⟩; refine KeptR.keep (?_ : KeptR 118571099379011784113736688648896417641748464297615937576404566024103044755489281 s (execPaKeepalive a s)) t₁ e₁; clear e₁ t₁
  clear h₀ hw₀
  unfold execPaKeepalive; try dsimp only
  repeat' first | (with_reducible first | assumption | exact Kept.refl _ _ | refine KeptR.next ?_ | exact KeptR.fault | exact KeptR.refused | refine KeptR.ite ?_ ?_ | refine Kept.ite ?_ ?_ | refine State.paKick_kept ?_ ?_ | refine State.paSend_kept ?_ ?_) | (show Nat.testBit _ _ = true; rfl) | (show subMask _ _ = true; rfl) | (intro _; try dsimp only) | split | dsimp only

theorem State.paReadFail_kept {s : State} {a : Nat} {f : PaFrame} (hw₀ : subMask 44384713757731871763589207486774700033120374773250024931764130858263026499019840927275264003469461118825374783271658767313059586633 w₀ = true) (h₀ : Kept w₀ s₀ s) :
    Kept w₀ s₀ (State.paReadFail s a f) := by
  refine Kept.trans (a := 44384713757731871763589207486774700033120374773250024931764130858263026499019840927275264003469461118825374783271658767313059586633) (t := s) ?_ hw₀ h₀
  clear h₀ hw₀
  unfold State.paReadFail; try dsimp only
  repeat' first | (with_reducible first | assumption | exact Kept.refl _ _ | refine Kept.ite ?_ ?_ | refine State.fencePa_kept ?_ ?_ | apply State.inc_kept | refine State.raiseSrc_kept ?_ ?_ | apply State.setB_kept | refine State.updPort_kept ?_ ?_ | apply State.wrpBit_kept) | (show Nat.testBit _ _ = true; rfl) | (show subMask _ _ = true; rfl) | exact inFam_WRP_EVT_CNT | exact inFam_WRP_PA_RESP | exact inFam_WRP_STATUS | exact wrsOk_nil | apply wrsOk_cons | (intro _; try dsimp only) | split | dsimp only

theorem State.contact_kept {s : State} {h : Nat} (hw₀ : subMask 44384376587918356619345083307102957096416090371150320902895249388146064278311297270237167676568496149211955579928737872738427347529 w₀ = true) (h₀ : Kept w₀ s₀ s) :
    Kept w₀ s₀ (State.contact s h) := by
  refine Kept.trans (a := 44384376587918356619345083307102957096416090371150320902895249388146064278311297270237167676568496149211955579928737872738427347529) (t := s) ?_ hw₀ h₀
  clear h₀ hw₀
  unfold State.contact; try dsimp only
  repeat' first | (with_reducible first | assumption | exact Kept.refl _ _ | refine Kept.ite ?_ ?_ | refine State.dropGates_kept ?_ ?_ | refine State.heaterFrame_kept ?_ ?_ | apply State.inc_kept | refine State.logFree_kept ?_ ?_ | refine State.setInh_kept ?_ ?_ | refine State.statusClr_kept ?_ ?_ | refine State.updHead_kept ?_ ?_ | refine State.updPort_kept ?_ ?_ | refine State.when_kept ?_ ?_ | apply State.wrpBit_kept | apply State.wrpBits_kept | refine State.wrs_kept ?_ ?_ ?_) | (show Nat.testBit _ _ = true; rfl) | (show subMask _ _ = true; rfl) | exact inFam_WRP_EVT_CNT | exact inFam_WRP_HTR_CFG | exact inFam_WRP_STATUS | exact wrsOk_nil | apply wrsOk_cons | (intro _; try dsimp only) | split | dsimp only

theorem State.statusRead_kept {s : State} {a pos v : Nat} (hw₀ : subMask 22758094510825633686285714079807244655647708611849839704699463973783123821035872489731688053565604104605365960820152785861280398844489 w₀ = true) (h₀ : Kept w₀ s₀ s) :
    Kept w₀ s₀ (State.statusRead s a pos v) := by
  refine Kept.trans (a := 22758094510825633686285714079807244655647708611849839704699463973783123821035872489731688053565604104605365960820152785861280398844489) (t := s) ?_ hw₀ h₀
  clear h₀ hw₀
  unfold State.statusRead; try dsimp only
  repeat' first | (with_reducible first | assumption | exact Kept.refl _ _ | refine Kept.ite ?_ ?_ | refine State.contact_kept ?_ ?_ | refine State.countDrop_kept ?_ ?_ | refine State.judgeReaders_kept ?_ ?_ | refine State.paCheck_kept ?_ ?_ | refine State.statusClr_kept ?_ ?_ | refine State.updHead_kept ?_ ?_ | refine State.updPort_kept ?_ ?_) | (show Nat.testBit _ _ = true; rfl) | (show subMask _ _ = true; rfl) | (intro _; try dsimp only) | split | dsimp only

theorem execPaReadResponse_kept {a : Act} {data : BitVec 16} {crcOk : Bool} {s : State} (hw₀ : subMask 22758094847995447201429958203986916398584412896251939534710125945453261404101812722841169894250248385791913054953347107365340079333961 w₀ = true) (h₀ : Kept w₀ s₀ s) :
    KeptR w₀ s₀ (execPaReadResponse a data crcOk s) := by
  refine ⟨fun t₁ e₁ => Kept.trans (a := 22758094847995447201429958203986916398584412896251939534710125945453261404101812722841169894250248385791913054953347107365340079333961) (t := s) ?_ hw₀ h₀⟩; refine KeptR.keep (?_ : KeptR 22758094847995447201429958203986916398584412896251939534710125945453261404101812722841169894250248385791913054953347107365340079333961 s (execPaReadResponse a data crcOk s)) t₁ e₁; clear e₁ t₁
  clear h₀ hw₀
  unfold execPaReadResponse; try dsimp only
  repeat' first | (with_reducible first | assumption | exact Kept.refl _ _ | refine KeptR.next ?_ | exact KeptR.fault | exact KeptR.refused | refine KeptR.ite ?_ ?_ | refine Kept.ite ?_ ?_ | refine State.emit_kept ?_ ?_ | refine State.paKick_kept ?_ ?_ | refine State.paReadFail_kept ?_ ?_ | refine State.statusRead_kept ?_ ?_ | refine State.updPort_kept ?_ ?_ | refine State.wrs_kept ?_ ?_ ?_) | (show Nat.testBit _ _ = true; rfl) | (show subMask _ _ = true; rfl) | exact inFam_WRP_PA_RESP | exact wrsOk_nil | apply wrsOk_cons | (intro _; try dsimp only) | split | dsimp only

theorem execPaMailboxCmd_kept {w : Initiator} {h : Head} {addr : Byte} {data : BitVec 16} {rd bcast : Bool} {s : State} (hw₀ : subMask 355713298137035352341210065946689252925245392892847812729213698072313807182496261 w₀ = true) (h₀ : Kept w₀ s₀ s) :
    KeptR w₀ s₀ (execPaMailboxCmd w h addr data rd bcast s) := by
  refine ⟨fun t₁ e₁ => Kept.trans (a := 355713298137035352341210065946689252925245392892847812729213698072313807182496261) (t := s) ?_ hw₀ h₀⟩; refine KeptR.keep (?_ : KeptR 355713298137035352341210065946689252925245392892847812729213698072313807182496261 s (execPaMailboxCmd w h addr data rd bcast s)) t₁ e₁; clear e₁ t₁
  clear h₀ hw₀
  unfold execPaMailboxCmd; try dsimp only
  repeat' first | (with_reducible first | assumption | exact Kept.refl _ _ | refine KeptR.next ?_ | exact KeptR.fault | exact KeptR.refused | refine KeptR.ite ?_ ?_ | refine Kept.ite ?_ ?_ | refine State.paKick_kept ?_ ?_ | refine State.refuseW_kept ?_ ?_ | apply State.setB_kept | refine State.updPort_kept ?_ ?_ | refine State.wrs_kept ?_ ?_ ?_) | (show Nat.testBit _ _ = true; rfl) | (show subMask _ _ = true; rfl) | exact inFam_WRP_PA_CMD | exact inFam_WRP_PA_RESP | exact wrsOk_nil | apply wrsOk_cons | (intro _; try dsimp only) | split | dsimp only

theorem execHeaterUpdate_kept {h : Head} {why : HeaterWhy} {s : State} (hw₀ : subMask 118571099379011784113736688648896417641748464297615937576404566024103044755489281 w₀ = true) (h₀ : Kept w₀ s₀ s) :
    KeptR w₀ s₀ (execHeaterUpdate h why s) := by
  refine ⟨fun t₁ e₁ => Kept.trans (a := 118571099379011784113736688648896417641748464297615937576404566024103044755489281) (t := s) ?_ hw₀ h₀⟩; refine KeptR.keep (?_ : KeptR 118571099379011784113736688648896417641748464297615937576404566024103044755489281 s (execHeaterUpdate h why s)) t₁ e₁; clear e₁ t₁
  clear h₀ hw₀
  unfold execHeaterUpdate; try dsimp only
  repeat' first | (with_reducible first | assumption | exact Kept.refl _ _ | refine KeptR.next ?_ | exact KeptR.fault | exact KeptR.refused | refine KeptR.ite ?_ ?_ | refine Kept.ite ?_ ?_ | refine State.heaterFrame_kept ?_ ?_ | refine State.updHead_kept ?_ ?_) | (show Nat.testBit _ _ = true; rfl) | (show subMask _ _ = true; rfl) | (intro _; try dsimp only) | split | dsimp only

theorem execPaFaultNFall_kept {a : Act} {s : State} (hw₀ : subMask 44384376587918356619345083307102957096416090371150313492201538199909557169768256714211065067289477548215857054643361366298122003017 w₀ = true) (h₀ : Kept w₀ s₀ s) :
    KeptR w₀ s₀ (execPaFaultNFall a s) := by
  refine ⟨fun t₁ e₁ => Kept.trans (a := 44384376587918356619345083307102957096416090371150313492201538199909557169768256714211065067289477548215857054643361366298122003017) (t := s) ?_ hw₀ h₀⟩; refine KeptR.keep (?_ : KeptR 44384376587918356619345083307102957096416090371150313492201538199909557169768256714211065067289477548215857054643361366298122003017 s (execPaFaultNFall a s)) t₁ e₁; clear e₁ t₁
  clear h₀ hw₀
  unfold execPaFaultNFall; try dsimp only
  repeat' first | (with_reducible first | assumption | exact Kept.refl _ _ | refine KeptR.next ?_ | exact KeptR.fault | exact KeptR.refused | refine KeptR.ite ?_ ?_ | refine Kept.ite ?_ ?_ | refine State.dropGates_kept ?_ ?_ | refine State.forEach_kept ?_ ?_ | refine State.paKick_kept ?_ ?_ | refine State.updHead_kept ?_ ?_ | refine State.updPort_kept ?_ ?_ | apply State.wrpBits_kept) | (show Nat.testBit _ _ = true; rfl) | (show subMask _ _ = true; rfl) | exact inFam_WRP_STATUS | exact wrsOk_nil | apply wrsOk_cons | (intro _; try dsimp only) | split | dsimp only

theorem execPaFaultNRise_kept {a : Act} {s : State} (hw₀ : subMask 512 w₀ = true) (h₀ : Kept w₀ s₀ s) :
    KeptR w₀ s₀ (execPaFaultNRise a s) := by
  refine ⟨fun t₁ e₁ => Kept.trans (a := 512) (t := s) ?_ hw₀ h₀⟩; refine KeptR.keep (?_ : KeptR 512 s (execPaFaultNRise a s)) t₁ e₁; clear e₁ t₁
  clear h₀ hw₀
  unfold execPaFaultNRise; try dsimp only
  repeat' first | (with_reducible first | assumption | exact Kept.refl _ _ | refine KeptR.next ?_ | exact KeptR.fault | exact KeptR.refused | refine KeptR.ite ?_ ?_ | refine Kept.ite ?_ ?_ | refine State.paCheck_kept ?_ ?_ | refine State.updPort_kept ?_ ?_) | (show Nat.testBit _ _ = true; rfl) | (show subMask _ _ = true; rfl) | (intro _; try dsimp only) | split | dsimp only

theorem State.readerVerdict_kept {s : State} {h : Nat} {b both any chanOnly : Bool} (hw₀ : subMask 22758094510825633686285714079807244655647708611849353970780164140821581328457284916560886282455380913613044806276351318565779356517065 w₀ = true) (h₀ : Kept w₀ s₀ s) :
    Kept w₀ s₀ (State.readerVerdict s h b both any chanOnly) := by
  refine Kept.trans (a := 22758094510825633686285714079807244655647708611849353970780164140821581328457284916560886282455380913613044806276351318565779356517065) (t := s) ?_ hw₀ h₀
  clear h₀ hw₀
  unfold State.readerVerdict; try dsimp only
  repeat' first | (with_reducible first | assumption | exact Kept.refl _ _ | refine Kept.ite ?_ ?_ | refine State.clearSuspects_kept ?_ ?_ | refine State.logFree_kept ?_ ?_ | refine State.loseReader_kept ?_ ?_ | refine State.statusClr_kept ?_ ?_) | (show Nat.testBit _ _ = true; rfl) | (show subMask _ _ = true; rfl) | (intro _; try dsimp only) | split | dsimp only

theorem execHeadConfirmTest_kept {h : Head} {status : BitVec 8} {s : State} (hw₀ : subMask 22758094510825633686285714079807244655647708611849353970780164140821581328457284916560886282455380913613044806276351318565779356517065 w₀ = true) (h₀ : Kept w₀ s₀ s) :
    KeptR w₀ s₀ (execHeadConfirmTest h status s) := by
  refine ⟨fun t₁ e₁ => Kept.trans (a := 22758094510825633686285714079807244655647708611849353970780164140821581328457284916560886282455380913613044806276351318565779356517065) (t := s) ?_ hw₀ h₀⟩; refine KeptR.keep (?_ : KeptR 22758094510825633686285714079807244655647708611849353970780164140821581328457284916560886282455380913613044806276351318565779356517065 s (execHeadConfirmTest h status s)) t₁ e₁; clear e₁ t₁
  clear h₀ hw₀
  unfold execHeadConfirmTest; try dsimp only
  repeat' first | (with_reducible first | assumption | exact Kept.refl _ _ | refine KeptR.next ?_ | exact KeptR.fault | exact KeptR.refused | refine KeptR.ite ?_ ?_ | refine Kept.ite ?_ ?_ | refine State.arm_kept ?_ ?_ | refine State.emit_kept ?_ ?_ | refine State.loseWriter_kept ?_ ?_ | refine State.readerVerdict_kept ?_ ?_ | refine State.statusClr_kept ?_ ?_ | refine State.updHead_kept ?_ ?_) | (show Nat.testBit _ _ = true; rfl) | (show subMask _ _ = true; rfl) | (intro _; try dsimp only) | split | dsimp only

end Sys2Proof.Machine
end

