-- ==== Sys2Proof/Laws/KeptFaultRaise.lean ====
section
/-! SUPPORT. What the operations and meanings of Machine/FaultRaise.lean keep (the relation Kept). -/

set_option Elab.async false

namespace Sys2Proof.Machine
open Reg
set_option linter.unusedVariables false
set_option linter.unusedTactic false
set_option linter.unreachableTactic false
set_option maxHeartbeats 400000

variable {w₀ : Nat} {s₀ : State}

theorem State.dropChannelDecodes_kept {s : State} {n : Nat} (hw₀ : subMask 117834564444200007708569276919546721657566556050428779555046160776607402819969 w₀ = true) (h₀ : Kept w₀ s₀ s) :
    Kept w₀ s₀ (State.dropChannelDecodes s n) := by
  refine Kept.trans (a := 117834564444200007708569276919546721657566556050428779555046160776607402819969) (t := s) ?_ hw₀ h₀
  clear h₀ hw₀
  unfold State.dropChannelDecodes; try dsimp only
  repeat' first | (with_reducible first | assumption | exact Kept.refl _ _ | refine Kept.ite ?_ ?_ | refine State.deepFree_kept ?_ ?_ | refine State.engIdle_kept ?_ ?_ | refine State.forEach_kept ?_ ?_ | refine State.releaseBuf_kept ?_ ?_ | refine State.showDeep_kept ?_ ?_ | refine State.toReread_kept ?_ ?_ | refine State.unhold_kept ?_ ?_ | refine State.updDec_kept ?_ ?_) | (show Nat.testBit _ _ = true; rfl) | (show subMask _ _ = true; rfl) | (intro _; try dsimp only) | split | dsimp only

theorem State.cutWedge_kept {s : State} {h : Nat} (hw₀ : subMask 1024 w₀ = true) (h₀ : Kept w₀ s₀ s) :
    Kept w₀ s₀ (State.cutWedge s h) := by
  refine Kept.trans (a := 1024) (t := s) ?_ hw₀ h₀
  clear h₀ hw₀
  unfold State.cutWedge; try dsimp only
  repeat' first | (with_reducible first | assumption | exact Kept.refl _ _ | refine Kept.ite ?_ ?_ | refine State.updSrv_kept ?_ ?_) | (show Nat.testBit _ _ = true; rfl) | (show subMask _ _ = true; rfl) | (intro _; try dsimp only) | split | dsimp only

theorem State.fenceChan_kept {s : State} {n : Chan} (hw₀ : subMask 44384376587918356619345083307102957096416090371150106110613100431387980318058440682321025315415921388230706888326676356173279012313 w₀ = true) (h₀ : Kept w₀ s₀ s) :
    Kept w₀ s₀ (State.fenceChan s n) := by
  refine Kept.trans (a := 44384376587918356619345083307102957096416090371150106110613100431387980318058440682321025315415921388230706888326676356173279012313) (t := s) ?_ hw₀ h₀
  clear h₀ hw₀
  unfold State.fenceChan; try dsimp only
  repeat' first | (with_reducible first | assumption | exact Kept.refl _ _ | refine Kept.ite ?_ ?_ | refine State.cutWedge_kept ?_ ?_ | refine State.dropChannelDecodes_kept ?_ ?_ | refine State.dropInFlight_kept ?_ ?_ | refine State.markFenced_kept ?_ ?_ | refine State.offlineZones_kept ?_ ?_ | apply State.rchBit_kept | apply State.setB_kept | refine State.spareIdle_kept ?_ ?_ | refine State.substitute_kept ?_ ?_) | (show Nat.testBit _ _ = true; rfl) | (show subMask _ _ = true; rfl) | exact inFam_RCH_MAP | exact inFam_RCH_STATUS | exact wrsOk_nil | apply wrsOk_cons | (intro _; try dsimp only) | split | dsimp only

theorem State.fenceEngine_kept {s : State} {e : Engine} {status : Nat → Fld} (hf_ : ∀ n, inFam 210 (status n).addr) (hw₀ : subMask 44384713757731871763589207486774700033120374772764031766874479118325249275949233499577360504240224907516669002025675689987945398665 w₀ = true) (h₀ : Kept w₀ s₀ s) :
    Kept w₀ s₀ (State.fenceEngine s e status) := by
  refine Kept.trans (a := 44384713757731871763589207486774700033120374772764031766874479118325249275949233499577360504240224907516669002025675689987945398665) (t := s) ?_ hw₀ h₀
  clear h₀ hw₀
  unfold State.fenceEngine
  refine Kept.ite (Kept.refl _ _) ?_
  extract_lets g t1 t2 front drop t3 t4
  have k1 : Kept 44384713757731871763589207486774700033120374772764031766874479118325249275949233499577360504240224907516669002025675689987945398665 s t1 := State.markFenced_kept rfl (State.setB_kept inFam_DEC_ESTATUS rfl rfl (State.setB_kept (hf_ _) rfl rfl (Kept.refl _ _)))
  have k2 : Kept 44384713757731871763589207486774700033120374772764031766874479118325249275949233499577360504240224907516669002025675689987945398665 s t2 := State.wrs_kept (wrsOk_cons inFam_DEC_ESTATUS rfl (wrsOk_cons inFam_DEC_ESTATUS rfl wrsOk_nil)) rfl (State.updEng_kept rfl k1)
  have kf : ∀ d b (u : State), Kept 44384713757731871763589207486774700033120374772764031766874479118325249275949233499577360504240224907516669002025675689987945398665 s u → Kept 44384713757731871763589207486774700033120374772764031766874479118325249275949233499577360504240224907516669002025675689987945398665 s (front d b u) := fun d b u k =>
    Kept.ite (State.backlogReread_kept rfl k) (Kept.ite (State.updDec_kept rfl k) (State.updDec_kept rfl k))
  have ku : ∀ d (u : State), Kept 44384713757731871763589207486774700033120374772764031766874479118325249275949233499577360504240224907516669002025675689987945398665 s u → Kept 44384713757731871763589207486774700033120374772764031766874479118325249275949233499577360504240224907516669002025675689987945398665 s (u.unhold d) := fun d u k => State.unhold_kept rfl k
  have k3 : Kept 44384713757731871763589207486774700033120374772764031766874479118325249275949233499577360504240224907516669002025675689987945398665 s t3 := by
    show Kept 44384713757731871763589207486774700033120374772764031766874479118325249275949233499577360504240224907516669002025675689987945398665 s (match g.suspended with | some (d, _) => front d false t2 | none => t2)
    split
    · exact kf _ _ _ k2
    · exact k2
  refine State.dispatchDeep_kept rfl (State.showService_kept rfl ?_)
  clear_value t3 front g
  show Kept 44384713757731871763589207486774700033120374772764031766874479118325249275949233499577360504240224907516669002025675689987945398665 s (match g.job with
      | none => t3
      | some (d, ph) =>
        let t := if ph = EPhase.trialLoad ∨ ph = EPhase.deepLoad then t3.unhold d else t3
        if g.dropping then (drop d t).releaseBuf d.buf
        else match ph with
          | .quick => t.updDec (fun x => { x with waiting := d :: x.waiting })
          | .trialLoad | .trial => front d true t
          | .deepLoad | .deep => front d false t)
  split
  · exact k3
  · rename_i d ph _
    have k5 : Kept 44384713757731871763589207486774700033120374772764031766874479118325249275949233499577360504240224907516669002025675689987945398665 s (if ph = EPhase.trialLoad ∨ ph = EPhase.deepLoad then t3.unhold d else t3) := Kept.ite (ku _ _ k3) k3
    dsimp only
    refine Kept.ite (State.releaseBuf_kept rfl (State.updSec_kept rfl k5)) ?_
    split
    · exact State.updDec_kept rfl k5
    · exact kf _ _ _ k5
    · exact kf _ _ _ k5
    · exact kf _ _ _ k5
    · exact kf _ _ _ k5

theorem State.fenceSrv_kept {s : State} {h : Head} (hw₀ : subMask 44384376587918356619345083307102957686863763243927338016740515648064024820421826257712759727784797434843207594019620009196814608345 w₀ = true) (h₀ : Kept w₀ s₀ s) :
    Kept w₀ s₀ (State.fenceSrv s h) := by
  refine Kept.trans (a := 44384376587918356619345083307102957686863763243927338016740515648064024820421826257712759727784797434843207594019620009196814608345) (t := s) ?_ hw₀ h₀
  clear h₀ hw₀
  unfold State.fenceSrv; try dsimp only
  repeat' first | (with_reducible first | assumption | exact Kept.refl _ _ | refine Kept.ite ?_ ?_ | refine State.abandonReturn_kept ?_ ?_ | refine State.dropGate_kept ?_ ?_ | refine State.markFenced_kept ?_ ?_ | refine State.offlineZones_kept ?_ ?_ | apply State.setB_kept | refine State.showLoaded_kept ?_ ?_ | refine State.trefHandover_kept ?_ ?_ | refine State.updSrv_kept ?_ ?_ | refine State.when_kept ?_ ?_ | apply State.wr_kept) | (show Nat.testBit _ _ = true; rfl) | (show subMask _ _ = true; rfl) | exact inFam_CTL_STATUS | exact inFam_SRV_STATUS | exact wrsOk_nil | apply wrsOk_cons | (intro _; try dsimp only) | split | dsimp only

theorem State.raiseFence_kept {s : State} {n : Nat} {x : RaiseCtx} (hw₀ : subMask 44384713799049328582346625210000463744272752388145601513783529764350100376439163365261318910007123392612992676314562147079377633277 w₀ = true) (h₀ : Kept w₀ s₀ s) :
    Kept w₀ s₀ (State.raiseFence s n x) := by
  refine Kept.trans (a := 44384713799049328582346625210000463744272752388145601513783529764350100376439163365261318910007123392612992676314562147079377633277) (t := s) ?_ hw₀ h₀
  clear h₀ hw₀
  unfold State.raiseFence; try dsimp only
  repeat' first | (with_reducible first | assumption | exact Kept.refl _ _ | refine Kept.ite ?_ ?_ | refine State.chopFault_kept ?_ ?_ | refine State.fenceChan_kept ?_ ?_ | refine State.fenceDdr_kept ?_ ?_ | refine State.fenceEngine_kept ?_ ?_ ?_ | refine State.fenceLane_kept ?_ ?_ | refine State.fenceLgt_kept ?_ ?_ | refine State.fenceMa_kept ?_ ?_ | refine State.fencePa_kept ?_ ?_ | refine State.fencePack_kept ?_ ?_ | refine State.fencePlane_kept ?_ ?_ | refine State.fenceQuay_kept ?_ ?_ | refine State.fenceSeq_kept ?_ ?_ | refine State.fenceSrv_kept ?_ ?_ | refine State.fenceVcm_kept ?_ ?_ | refine State.genSelfCheck_kept ?_ ?_ | refine State.helmFault_kept ?_ ?_ | refine State.markFenced_kept ?_ ?_ | apply State.qportBit_kept | refine State.quayEngineFault_kept ?_ ?_ | apply State.raiseBit_kept | refine State.raiseSrc_kept ?_ ?_ | refine State.restart_kept ?_ ?_ | apply State.setB_kept | refine State.spareFault_kept ?_ ?_ | refine State.watchFail_kept ?_ ?_) | (show Nat.testBit _ _ = true; rfl) | (show subMask _ _ = true; rfl) | exact fun _ => inFam_DEC_ESTATUS | (dsimp only [PCK_ISTATUS.DATAPATH_ERR, QFB_PSTATUS.DATAPATH_ERR, SEQ_STATUS.DATAPATH_ERR]; with_reducible first | exact inFam_PCK_ISTATUS | exact inFam_QFB_PSTATUS | exact inFam_SEQ_STATUS) | exact wrsOk_nil | (intro _; try dsimp only) | split | dsimp only

theorem execFaultRaise_kept {src : Source} {x : RaiseArgs} {s : State} (hw₀ : subMask 44384713799049328582346625210000463744272752388145601513783529764350100376439163365261318910007123392612992676314562147079377633277 w₀ = true) (h₀ : Kept w₀ s₀ s) :
    KeptR w₀ s₀ (execFaultRaise src x s) := by
  refine ⟨fun t₁ e₁ => Kept.trans (a := 44384713799049328582346625210000463744272752388145601513783529764350100376439163365261318910007123392612992676314562147079377633277) (t := s) ?_ hw₀ h₀⟩; refine KeptR.keep (?_ : KeptR 44384713799049328582346625210000463744272752388145601513783529764350100376439163365261318910007123392612992676314562147079377633277 s (execFaultRaise src x s)) t₁ e₁; clear e₁ t₁
  clear h₀ hw₀
  unfold execFaultRaise; try dsimp only
  repeat' first | (with_reducible first | assumption | exact Kept.refl _ _ | refine KeptR.next ?_ | exact KeptR.fault | exact KeptR.refused | refine KeptR.ite ?_ ?_ | refine Kept.ite ?_ ?_ | refine State.raiseFence_kept ?_ ?_) | (show Nat.testBit _ _ = true; rfl) | (show subMask _ _ = true; rfl) | (intro _; try dsimp only) | split | dsimp only

end Sys2Proof.Machine
end

