-- ==== Sys2Proof/Laws/KeptPads.lean ====
section
/-! SUPPORT. What the operations and meanings of Machine/Pads.lean keep (the relation Kept). -/

set_option Elab.async false

namespace Sys2Proof.Machine
open Reg
set_option linter.unusedVariables false
set_option linter.unusedTactic false
set_option linter.unreachableTactic false
set_option maxHeartbeats 400000

variable {w₀ : Nat} {s₀ : State}

theorem execSupplyFault_kept {rail : Fin 15} {high : Bool} {s : State} (hw₀ : subMask 1463991597147589079867737269768033556192576157365667874276850918109380908622122862130906876431860329872814521986378239337658325803593 w₀ = true) (h₀ : Kept w₀ s₀ s) :
    KeptR w₀ s₀ (execSupplyFault rail high s) := by
  refine ⟨fun t₁ e₁ => Kept.trans (a := 1463991597147589079867737269768033556192576157365667874276850918109380908622122862130906876431860329872814521986378239337658325803593) (t := s) ?_ hw₀ h₀⟩; refine KeptR.keep (?_ : KeptR 1463991597147589079867737269768033556192576157365667874276850918109380908622122862130906876431860329872814521986378239337658325803593 s (execSupplyFault rail high s)) t₁ e₁; clear e₁ t₁
  clear h₀ hw₀
  unfold execSupplyFault; try dsimp only
  repeat' first | (with_reducible first | assumption | exact Kept.refl _ _ | refine KeptR.next ?_ | exact KeptR.fault | exact KeptR.refused | refine KeptR.ite ?_ ?_ | refine Kept.ite ?_ ?_ | refine State.dropGates_kept ?_ ?_ | refine State.raiseSrc_kept ?_ ?_ | apply State.setB_kept | refine State.updWrp_kept ?_ ?_ | apply State.wrpBits_kept) | (show Nat.testBit _ _ = true; rfl) | (show subMask _ _ = true; rfl) | exact inFam_PAD_SUPPLY | exact inFam_WRP_STATUS | exact wrsOk_nil | apply wrsOk_cons | (intro _; try dsimp only) | split | dsimp only

theorem execSupplyFaultClear_kept {s : State} (hw₀ : subMask 512 w₀ = true) (h₀ : Kept w₀ s₀ s) :
    KeptR w₀ s₀ (execSupplyFaultClear s) := by
  refine ⟨fun t₁ e₁ => Kept.trans (a := 512) (t := s) ?_ hw₀ h₀⟩; refine KeptR.keep (?_ : KeptR 512 s (execSupplyFaultClear s)) t₁ e₁; clear e₁ t₁
  clear h₀ hw₀
  unfold execSupplyFaultClear; try dsimp only
  repeat' first | (with_reducible first | assumption | exact Kept.refl _ _ | refine KeptR.next ?_ | exact KeptR.fault | exact KeptR.refused | refine KeptR.ite ?_ ?_ | refine Kept.ite ?_ ?_ | refine State.updWrp_kept ?_ ?_) | (show Nat.testBit _ _ = true; rfl) | (show subMask _ _ = true; rfl) | (intro _; try dsimp only) | split | dsimp only

theorem execTemperatureConversion_kept {temp : BitVec 12} {s : State} (hw₀ : subMask 709803441694928604052074031140629428079727891296209043243642772637343054798240159498233447962659731992932150006119314388217384402949 w₀ = true) (h₀ : Kept w₀ s₀ s) :
    KeptR w₀ s₀ (execTemperatureConversion temp s) := by
  refine ⟨fun t₁ e₁ => Kept.trans (a := 709803441694928604052074031140629428079727891296209043243642772637343054798240159498233447962659731992932150006119314388217384402949) (t := s) ?_ hw₀ h₀⟩; refine KeptR.keep (?_ : KeptR 709803441694928604052074031140629428079727891296209043243642772637343054798240159498233447962659731992932150006119314388217384402949 s (execTemperatureConversion temp s)) t₁ e₁; clear e₁ t₁
  clear h₀ hw₀
  unfold execTemperatureConversion; try dsimp only
  repeat' first | (with_reducible first | assumption | exact Kept.refl _ _ | refine KeptR.next ?_ | exact KeptR.fault | exact KeptR.refused | refine KeptR.ite ?_ ?_ | refine Kept.ite ?_ ?_ | apply State.setB_kept | refine State.updSys_kept ?_ ?_ ?_ | apply State.wr_kept | apply State.wrS_kept) | (show Nat.testBit _ _ = true; rfl) | (show subMask _ _ = true; rfl) | exact inFam_PAD_TEMP | exact wrsOk_nil | apply wrsOk_cons | exact SysU.holds_same rfl rfl | (intro _; try dsimp only) | split | dsimp only

end Sys2Proof.Machine
end

