-- ==== Sys2Proof/Laws/KeptScheduler.lean ====
section
/-! SUPPORT. What the operations and meanings of Machine/Scheduler.lean keep (the relation Kept). -/

set_option Elab.async false

namespace Sys2Proof.Machine
open Reg
set_option linter.unusedVariables false
set_option linter.unusedTactic false
set_option linter.unreachableTactic false
set_option maxHeartbeats 400000

variable {w₀ : Nat} {s₀ : State}

theorem State.useTier_kept {s : State} {e : TierEntry} (hw₀ : subMask 64 w₀ = true) (h₀ : Kept w₀ s₀ s) :
    Kept w₀ s₀ (State.useTier s e) := by
  refine Kept.trans (a := 64) (t := s) ?_ hw₀ h₀
  clear h₀ hw₀
  unfold State.useTier; try dsimp only
  repeat' first | (with_reducible first | assumption | exact Kept.refl _ _ | refine Kept.ite ?_ ?_ | refine State.updZone_kept ?_ ?_) | (show Nat.testBit _ _ = true; rfl) | (show subMask _ _ = true; rfl) | (intro _; try dsimp only) | split | dsimp only

theorem execTierMapInstall_kept {w : Initiator} {s : State} (hw₀ : subMask 44384713757731871763589207486774700033120374772764031638184406308126848246420176735497546956447210638396345765084275273312216678493 w₀ = true) (h₀ : Kept w₀ s₀ s) :
    KeptR w₀ s₀ (execTierMapInstall w s) := by
  refine ⟨fun t₁ e₁ => Kept.trans (a := 44384713757731871763589207486774700033120374772764031638184406308126848246420176735497546956447210638396345765084275273312216678493) (t := s) ?_ hw₀ h₀⟩; refine KeptR.keep (?_ : KeptR 44384713757731871763589207486774700033120374772764031638184406308126848246420176735497546956447210638396345765084275273312216678493 s (execTierMapInstall w s)) t₁ e₁; clear e₁ t₁
  clear h₀ hw₀
  unfold execTierMapInstall; try dsimp only
  repeat' first | (with_reducible first | assumption | exact Kept.refl _ _ | refine KeptR.next ?_ | exact KeptR.fault | exact KeptR.refused | refine KeptR.ite ?_ ?_ | refine Kept.ite ?_ ?_ | refine State.readAny_kept ?_ ?_ | refine State.refuseW_kept ?_ ?_ | refine State.useTier_kept ?_ ?_ | refine State.wrs_kept ?_ ?_ ?_ | refine State.readAny_keptp (by assumption) ?_ ?_) | (show Nat.testBit _ _ = true; rfl) | (show subMask _ _ = true; rfl) | exact inFam_SCH_TIER_CMD | exact inFam_SCH_TIER_RESP | exact wrsOk_nil | apply wrsOk_cons | (intro _; try dsimp only) | split | dsimp only

theorem State.updDom_kept {s : State} {a : Nat} {f : DomU → DomU} (hw₀ : subMask 1048576 w₀ = true) (h₀ : Kept w₀ s₀ s) :
    Kept w₀ s₀ (State.updDom s a f) := by
  refine Kept.trans (a := 1048576) (t := s) ?_ hw₀ h₀
  clear h₀ hw₀
  unfold State.updDom; try dsimp only
  repeat' first | (with_reducible first | assumption | exact Kept.refl _ _ | refine Kept.ite ?_ ?_ | refine State.updSch_kept ?_ ?_) | (show Nat.testBit _ _ = true; rfl) | (show subMask _ _ = true; rfl) | (intro _; try dsimp only) | split | dsimp only

theorem State.postHead_kept {s : State} {h : Nat} {ws : List (Cmd × SecWork)} (hw₀ : subMask 532480 w₀ = true) (h₀ : Kept w₀ s₀ s) :
    Kept w₀ s₀ (State.postHead s h ws) := by
  refine Kept.trans (a := 532480) (t := s) ?_ hw₀ h₀
  clear h₀ hw₀
  unfold State.postHead; try dsimp only
  repeat' first | (with_reducible first | assumption | exact Kept.refl _ _ | refine Kept.ite ?_ ?_ | refine State.forEach_kept ?_ ?_ | refine State.updLane_kept ?_ ?_ | refine State.updSec_kept ?_ ?_ | refine State.foldl_kept ?_ ?_) | (show Nat.testBit _ _ = true; rfl) | (show subMask _ _ = true; rfl) | (intro _; try dsimp only) | split | dsimp only

theorem State.postTier_kept {s : State} {a chosen : Nat} {only : Bool} (hw₀ : subMask 44384376587918356619345083307102957096416090370664468412496037414503521088029403642924000734829996243996539345359599140429692936777 w₀ = true) (h₀ : Kept w₀ s₀ s) :
    Kept w₀ s₀ (State.postTier s a chosen only) := by
  refine Kept.trans (a := 44384376587918356619345083307102957096416090370664468412496037414503521088029403642924000734829996243996539345359599140429692936777) (t := s) ?_ hw₀ h₀
  clear h₀ hw₀
  unfold State.postTier; try dsimp only
  repeat' first | (with_reducible first | assumption | exact Kept.refl _ _ | refine Kept.ite ?_ ?_ | refine State.forEach_kept ?_ ?_ | refine State.postHead_kept ?_ ?_ | refine State.slotFailed_kept ?_ ?_) | (show Nat.testBit _ _ = true; rfl) | (show subMask _ _ = true; rfl) | (intro _; try dsimp only) | split | dsimp only

theorem State.showDom_kept {s : State} {a : Nat} (hw₀ : subMask 973555660975280180349468061728769 w₀ = true) (h₀ : Kept w₀ s₀ s) :
    Kept w₀ s₀ (State.showDom s a) := by
  refine Kept.trans (a := 973555660975280180349468061728769) (t := s) ?_ hw₀ h₀
  clear h₀ hw₀
  unfold State.showDom; try dsimp only
  repeat' first | (with_reducible first | assumption | exact Kept.refl _ _ | refine Kept.ite ?_ ?_ | refine State.wrs_kept ?_ ?_ ?_ | refine State.foldl_kept ?_ ?_) | (show Nat.testBit _ _ = true; rfl) | (show subMask _ _ = true; rfl) | exact inFam_SCH_CAND | exact inFam_SCH_TIER | exact wrsOk_nil | apply wrsOk_cons | (intro _; try dsimp only) | split | dsimp only

theorem State.goTier_kept {s : State} {a : Nat} {c : Cand} (hw₀ : subMask 2239783723941209767166475632489426625393765430764344767917451071589209030674550543212421438090890979841 w₀ = true) (h₀ : Kept w₀ s₀ s) :
    Kept w₀ s₀ (State.goTier s a c) := by
  refine Kept.trans (a := 2239783723941209767166475632489426625393765430764344767917451071589209030674550543212421438090890979841) (t := s) ?_ hw₀ h₀
  clear h₀ hw₀
  unfold State.goTier; try dsimp only
  repeat' first | (with_reducible first | assumption | exact Kept.refl _ _ | refine Kept.ite ?_ ?_ | refine State.forEach_kept ?_ ?_ | refine State.seekStart_kept ?_ ?_ | refine State.updAct_kept ?_ ?_ | refine State.updDom_kept ?_ ?_ | refine State.updLane_kept ?_ ?_) | (show Nat.testBit _ _ = true; rfl) | (show subMask _ _ = true; rfl) | (intro _; try dsimp only) | split | dsimp only

theorem State.noteChoice_kept {s : State} {a : Nat} {c : Cand} {aged : Bool} (hw₀ : subMask 1304412467634848054140107603574785 w₀ = true) (h₀ : Kept w₀ s₀ s) :
    Kept w₀ s₀ (State.noteChoice s a c aged) := by
  refine Kept.trans (a := 1304412467634848054140107603574785) (t := s) ?_ hw₀ h₀
  clear h₀ hw₀
  unfold State.noteChoice; try dsimp only
  repeat' first | (with_reducible first | assumption | exact Kept.refl _ _ | refine Kept.ite ?_ ?_ | apply State.inc_kept | apply State.raiseBit_kept | refine State.updDom_kept ?_ ?_ | refine State.when_kept ?_ ?_ | refine State.wrs_kept ?_ ?_ ?_) | (show Nat.testBit _ _ = true; rfl) | (show subMask _ _ = true; rfl) | exact inFam_SCH_COST | exact inFam_SCH_PREEMPT_CNT | exact inFam_SCH_STATUS | exact wrsOk_nil | apply wrsOk_cons | (intro _; try dsimp only) | split | dsimp only

theorem execDispatchStep_kept {a : Act} {s : State} (hw₀ : subMask 44384713757731871763589207489014483757061584539930507270673832933520613677184521503475014908551967245715068876862609814835196209757 w₀ = true) (h₀ : Kept w₀ s₀ s) :
    KeptR w₀ s₀ (execDispatchStep a s) := by
  refine ⟨fun t₁ e₁ => Kept.trans (a := 44384713757731871763589207489014483757061584539930507270673832933520613677184521503475014908551967245715068876862609814835196209757) (t := s) ?_ hw₀ h₀⟩; refine KeptR.keep (?_ : KeptR 44384713757731871763589207489014483757061584539930507270673832933520613677184521503475014908551967245715068876862609814835196209757 s (execDispatchStep a s)) t₁ e₁; clear e₁ t₁
  clear h₀ hw₀
  unfold execDispatchStep; try dsimp only
  repeat' first | (with_reducible first | assumption | exact Kept.refl _ _ | refine KeptR.next ?_ | exact KeptR.fault | exact KeptR.refused | refine KeptR.ite ?_ ?_ | refine Kept.ite ?_ ?_ | refine State.freeNext_kept ?_ ?_ | refine State.goTier_kept ?_ ?_ | refine State.noteChoice_kept ?_ ?_ | refine State.postTier_kept ?_ ?_ | refine State.settleWb_kept ?_ ?_ | refine State.showDom_kept ?_ ?_ | refine State.updDom_kept ?_ ?_) | (show Nat.testBit _ _ = true; rfl) | (show subMask _ _ = true; rfl) | (intro _; try dsimp only) | split | dsimp only

theorem execUrgentPreempt_kept {a : Act} {s : State} (hw₀ : subMask 2239744742177806200336055142771445167380503561223889663385194000117696519687274621594738622189941565441 w₀ = true) (h₀ : Kept w₀ s₀ s) :
    KeptR w₀ s₀ (execUrgentPreempt a s) := by
  refine ⟨fun t₁ e₁ => Kept.trans (a := 2239744742177806200336055142771445167380503561223889663385194000117696519687274621594738622189941565441) (t := s) ?_ hw₀ h₀⟩; refine KeptR.keep (?_ : KeptR 2239744742177806200336055142771445167380503561223889663385194000117696519687274621594738622189941565441 s (execUrgentPreempt a s)) t₁ e₁; clear e₁ t₁
  clear h₀ hw₀
  unfold execUrgentPreempt; try dsimp only
  repeat' first | (with_reducible first | assumption | exact Kept.refl _ _ | refine KeptR.next ?_ | exact KeptR.fault | exact KeptR.refused | refine KeptR.ite ?_ ?_ | refine Kept.ite ?_ ?_ | refine State.flushAct_kept ?_ ?_ | apply State.inc_kept | refine State.profStop_kept ?_ ?_ | apply State.raiseBit_kept | refine State.updDom_kept ?_ ?_ | refine State.updSeq_kept ?_ ?_ | refine State.when_kept ?_ ?_ | apply State.wr_kept) | (show Nat.testBit _ _ = true; rfl) | (show subMask _ _ = true; rfl) | exact inFam_SCH_PREEMPT_CNT | exact inFam_SCH_STATUS | exact inFam_SEQ_FLUSH | exact wrsOk_nil | apply wrsOk_cons | (intro _; try dsimp only) | split | dsimp only

end Sys2Proof.Machine
end

