-- ==== Sys2Proof/Laws/KeptExec.lean ====
section
/-! SUPPORT. What every command keeps, as one lemma over exec, and what a step keeps. -/

set_option Elab.async false

namespace Sys2Proof.Machine
open Reg
set_option maxRecDepth 4000

/-- The mask of a command: the parts and register arrays that its meaning may touch. -/
def keptMask : Instr → Nat
  | .powerOn => 44384713757731871763589207486774700033120374773249787789565372834694799025642567079774200586842227345352381616787460627197495083007
  | .brownOut => 44384713757731871763589207486774700033120374773249787789565372834694799025642567079774200586842227345352381616787460627197495083007
  | .supplyFault .. => 1463991597147589079867737269768033556192576157365667874276850918109380908622122862130906876431860329872814521986378239337658325803593
  | .supplyFaultClear => 512
  | .perstNAssert .. => 44384713757731871763589207486774700033120374773249787789565372834694799025642567079774200586842227345352381616787460627197495083007
  | .resetNAssert .. => 44384713757731871763589207486774700033120374773249787789565372834694799025642567079774200586842227345352381616787460627197495083007
  | .sysResetCmd .. => 44384713757731871763589207486774700033120374773249787789565372834694799025642567079774200586842227345352381616787460627197495083007
  | .helmWatchdogExpiry .. => 44384713757731871763589207486774700033120374773249787789565372834694799025642567079774200586842227345352381616787460627197495083007
  | .wdogKick .. => 4672928612357
  | .resetRelease .. => 45471804982233162531096327209661096852989917943769496783641402854632040169576740138930863565841612092147358571697638291555215243103933
  | .ddrTrainingDone .. => 44384713757731871763589207486774700033120374772764031638184406308126848246432466702260836014754633515568721410949149101060955177017
  | .registerSpaceOpen .. => 22758094510825754748949790080821687129868282681435744612071865501771329974616607406315019888016601294327973449732483782373689539041869
  | .systemAreaReadDone .. => 21661481985318866090456360813617841433097164651373566993519371723551728967231450179999800047688590453885906614569521884866674765
  | .aliveSet .. => 9224502609690230789
  | .busGoodRestart .. => 45471804982233162531096327209661096852989917943769982510150008976405662091921790367050975814455120687684812612225937023720837741543423
  | .bellEdge .. => 44384713840363867862520591520143667958895173943473716852940136168601168833466509787631099911656606931146053832409594503002217660415
  | .speedErrorClear => 512
  | .collectLate => 44384713757731871763589207486774700033120374772764031638410562732418481440606838815561241055455525733484165794919932006404146200585
  | .telemetrySnapshot => 8
  | .telemSkip => 44384713757731871763589207486774700033120374772764031638184406308126848246420176735466147485429607794684086568280366412638690869257
  | .wedgeResult .. => 44384376587918356619345083307102957148696555046400519872491621892224371143398011282842375130893892185569434384087756223178196133449
  | .servoLost .. => 590448691390765310338681490682782786076422744174116169377084935572789604134592164414296539792385
  | .servoReacquired .. => 586275823193244145233735424443022203347680973393795909404772876266271548143168475197441033905665
  | .writeInhibitClear .. => 63657374290095465040641873791227239695082491712497623906783373436425557123630033256055297
  | .offTrackClear .. => 512
  | .wedgeHandling .. => 247576455503376605229482205898895720035970793453422077659532733858327157440702849025
  | .seqLate .. => 44384713757731871763589207486774700033120376764732919490891357626480678857303993714734140454205148439748686488091818002480594822041
  | .nanoWord .. => 45471804982233162531096327200632641510233295784601865483730743786609861512463099853197488397875650852045149009695558353320188096180185
  | .branchWord .. => 45471804982233162531096327200632641510233295784601865483730743786609861512463099853197488397875650852045149009695558353320188096180185
  | .jumpWord .. => 45471804982233162531096327200632641510233295784601865483730743786609861512463099853197488397875650852045149009695558353320188096180185
  | .callWord .. => 45471804982233162531096327200632641510233295784601865483730743786609861512463099853197488397875650852045149009695558353320188096180185
  | .nopWord .. => 45471804982233162531096327200632641510233295784601865483730743786609861512463099853197488397875650852045149009695558353320188096180185
  | .retWord .. => 45471804982233162531096327200632641510233295784601865483730743786609861512463099853197488397875650852045149009695558353320188096180185
  | .wwait .. => 45471804982233162531096327200632641510233295784601865483730743786609861512463099853197488397875650852045149009695558353320188096180185
  | .loopWord .. => 45471804982233162531096327200632641510233295784601865483730743786609861512463099853197488397875650852045149009695558353320188096180185
  | .jumpv .. => 45471804982233162531096327200632641510233295784601865483730743786609861512463099853197488397875650852045149009695558353320188096180185
  | .signal .. => 45471804982233162531096327200632641510233295784601865483730743786609861512463099853197488397875650852045149009695558353320188096180185
  | .seqStop .. => 45471804982233162531096327200632641510233295784601865483730743786609861512463099853197488397875650852045149009695558353320188096180185
  | .hookBudgetExhausted .. => 45471804982233162531096327200632641510233295784042164244788547246056140553415178936807643573232149044548552542303872702421848977715161
  | .seqFlush .. => 1989778612862203000889258858063989240128485204899153904642168860675072714121434804789249
  | .seqStep .. => 45471804982233162531096327200632641510233295784601865483730743786609861512463099853197488397875650852045149009695558353324861020598237
  | .gateEventFire .. => 44384376588079747236725515093956452044666278613295920104253834035814210972077441141447555509867115869048734610036928519048129946591
  | .retentionCommitStart .. => 161390617380431786853494948250188242145606612052268201959319972903394893546026247456197842759844451306774021549506691225
  | .syncSearchStart .. => 161390617380431786853494948250188242145606612052268201959319972903394893546026247456197842759844451306774021549506691225
  | .syncWindowEnd .. => 161390617380431786853494948250188242145606612278424629620946500483886947974496703359569615764566730763911175452913303961
  | .sectorEnd .. => 22758094510825795076903094511594098150595958800091499458938951594457740269342205126827257375205831537837697139556485029832761398526425
  | .thermalAsperityStart .. => 161390617380431786853494948250188242145606612052268201959319972903394893546026247456197842759844451306774021549506691225
  | .thermalAsperityEnd .. => 161390617380431786853494948250188242145606612052268201959319972903394893546026247456197842759844451306774021549506691225
  | .lossOfLock .. => 161390617380431786853494948250188242145606612052268201959319972903394893546026247456197842759844451306774021549506691225
  | .selectiveModeEnter .. => 897227025082773292366518262096013308818644166382150252171128149093908609
  | .channelLate .. => 44384713757731871763589207486774700033120374773249698861240838576277962889800285208918421305927324404272620052317288928957237436825
  | .slotHoldRequest .. => 128
  | .slotHoldGrant .. => 128
  | .coefDataWrite .. => 422894671231549952833827079917239079780563117467830024880596713601
  | .coefQueueApply .. => 128
  | .spareSubst .. => 485667223057398539180005113467993075209939465604381377385979070552667324746851426709
  | .spareRelease .. => 938637503163516675091126797269675461533350820215172571502107967365316741
  | .spareShadow .. => 966271448497346080880660487733870582973828893248276658295239167870763141
  | .spareDetach .. => 966271448497346080880660487733870582973828893248276658295239167870763141
  | .quickDecodeStart => 117834564444200007708569276919546721657566556050428779555046160776607402819969
  | .quickIterationEnd .. => 44384713757731871763589207486774700033120374772764032002119564711178452453987795938495357892738224275826257795763685620798443880857
  | .realignTrialEnd .. => 44384713757731871763589207486774700033120374772764031784966993061655904810882199907216245577331262611846351086174786959857957863833
  | .deepSlotLoadEnd .. => 44384713757731871763589207486774700033120374772764031756018970752326855954989453655044268614013766445436210076310390957879675453849
  | .deepOuterIterationEnd .. => 161390617380431786853494948250188242145607019409018336597093701190529057663228426949213565337391356744657159375477539225
  | .decTracePop => 4194560
  | .streamSectorReady .. => 44384713757731871763589207486774700033120374772764061280959251061072876680592338959601957393563284798991824622405736207033465184793
  | .sectorRewrite .. => 485667223056432267729865476705879726660601709763034880312953102434726071301302657025
  | .paFrameEnd .. => 355713298137035352341210065946689252925245392892847812729213698072309134258078209
  | .paKeepalive .. => 118571099379011784113736688648896417641748464297615937576404566024103044755489281
  | .paReadResponse .. => 22758094847995447201429958203986916398584412896251939534710125945453261404101812722841169894250248385791913054953347107365340079333961
  | .paMailboxCmd .. => 355713298137035352341210065946689252925245392892847812729213698072313807182496261
  | .heaterUpdate .. => 118571099379011784113736688648896417641748464297615937576404566024103044755489281
  | .paFaultNFall .. => 44384376587918356619345083307102957096416090371150313492201538199909557169768256714211065067289477548215857054643361366298122003017
  | .paFaultNRise .. => 512
  | .headConfirmTest .. => 22758094510825633686285714079807244655647708611849353970780164140821581328457284916560886282455380913613044806276351318565779356517065
  | .loopComputation .. => 44384713757731871763589207637124909959293997287779486064926949593444926255410806027109370680685110049613007867601509241910836473417
  | .ctlLate => 44384713757731871763589207486779758584418194468066663648340042349922256101405247878388574566717332766549666570262958292601078417929
  | .trimAutoClose .. => 533996758980227550241530271295334057084848292813267602923876476359539325546301644657401616402945
  | .seekTimeout .. => 44384376587918356619345083452686404369799029425763537376020691987635132731757780696327117771122614377221054743923792740401170366025
  | .loadFail .. => 44384376587918356619345083452686370194006454691202219055673393274801299088485422989882798618456889221705442253674992373007770988105
  | .trimSatSet .. => 44384713757731871763589207486774700567117133752991581879714677603460905331268469548733750409306084154223412114582009944140400427529
  | .trimSatClear .. => 533996758980227550241530271295334057084848292813267602923876476359539325546301643531501709558273
  | .oscStage1 .. => 44384713757731871763589207486774837270287432691722581669709994228418162249408104549380449603964168464567603380294949536537642674761
  | .oscStage2 .. => 2883598480537446287971885332049292413019527888682884605361199780035484103252725977964853929944519038210856350899207795847683880650761
  | .oscStage3 .. => 44384713757731871763593907011022276787238029665316285900278299083033460489070896626061259611145680481749119045752588318509707705929
  | .oscCountReset .. => 533996758980227520598755426542388028650676130589163192486760401955554931445160137505740521736705
  | .ctlClose .. => 533996758980227550241530271295334057084848292813267602923876476359539325546301643536174638172677
  | .ctlOpen .. => 4805970830822047685388798838881492257856085175302468732380843617599994383006441237556337624219653
  | .ctlResetOsc .. => 17621893046347508179758929075898804945472312309442385352063093264533312737690284537689437217229313
  | .ctlCoefCommit .. => 44291827176855991468543170099131832648401680975587551837621854779801548233787362445276146507645454341
  | .profGo .. => 2239783723941209767166475632489426625393765430764344767917451071589209030674550543212421442763818535429
  | .profStop .. => 2239744742177804210557442280568444278121645497234649534899989100963791871180160945380877493271615506433
  | .motorPwmUpdate .. => 44384713757731871764063620114574275412958949006315943909927317185945102799774602295545380190014354347411474985466648279367467810377
  | .pwmLate => 44384713757731871763593904571940247699576153733957610312239157673224664886161591317409211903479837011571013966277135950044754739209
  | .encOfsLearned => 1176567029752454834091383724417639967911797453346681536302220443326973242842863881083871339860539413505251329
  | .obsDrift => 44384376587918356619349780392268504762871869331858017443775944026655309293598656000762654715764151056899072642214862652074576842761
  | .microactuatorFrame => 4198400
  | .dacLate => 44384713757731871763593904571940247699576153733957610312239157673224664886161591317409211903479837011571013966277135950044754739209
  | .returnWord .. => 44384713757731871763969673824266090103700346560802579824658408290858791668384063181506413055164017832703310885494151310994817302089
  | .maFault .. => 44384713757731871763631481253264633837193216246039681244856974002067406639400449674396292649836546438926951562551773949542827434569
  | .motorAdcConversion .. => 44384713757731871766001163445052782844583686228377968266099241295235112002581010339080378785253513647360011527849295377883151875657
  | .busTrip => 44384713757731871763744211297237773026161080492152127881991201356354797357886857939587273281087171951952690702173761147038798581769
  | .spStart => 2295738365538220146643426022971454223956178892521600948574957560868730285559659352021840668155061989283841
  | .spStop => 44384376587918356619345085746184986184077966302023114357760334071366288256766546727471638005379765310190250323693545483133457546825
  | .senseDone .. => 44384376587918356619349787418347765830676768484858483635988967029594083233070208784592381197275746704046793861727422366690801368649
  | .spindleRest => 6882735597518363169865067813575628105549308870858163196050135239642576037736628968161877774375313362393089
  | .alignDone => 2295738365538220146643426022971454223956178892521600948574957560868730285559659352021840668155061989283841
  | .rampEnd .. => 5722811910147347189035942041130380422448642922076172620189305029721468499955553732245637643672399354824473610050719042566781351247433
  | .catchAttemptEnd .. => 44384376587918356619650400868942816483846622001247518775493054395854348176520742028948503952490416584810147333520671634778982202953
  | .phaseOpen => 44384713757731871763593907011022276787238029665316285900278299083033460489070896626061259611145680481749119045752588318509707705929
  | .phaseShort => 44384713757731871763593907011022276787238029665316285900278299083033460489070896626061259611145680481749119045752588318509707705929
  | .motLoad .. => 143343663499379469475676305956380433799785311823017570233599302461682679755530300504376159574055784026117
  | .motRetract .. => 44384376587918356619345083452686370194006454691202219055673393274801299088485422989882798618456889221705442253674992373007770988105
  | .motTest .. => 143343663499379469475676305956380433799785311823017570233599302461682679755530300504376159574055784026117
  | .vcmTestEnd .. => 11401239780876589536596773705891387941375068216674876272944694746231346113441829508417864479612583454548012427457169805855542536191561
  | .vcmTestRepeat .. => 4096
  | .loadOffRamp .. => 143343663499379469475676305956380433799785311823017570233599302461682679755530300504376159569382855411713
  | .loadTravelTimeout .. => 44384713757731871763739514355415888859084771006634855164316883791042292541163013591243511324719622490596063808553151179015590117385
  | .actuatorParked .. => 143343663499379469475676305956380433799785311823017570233599302461682679755530300504376159569382855413761
  | .retractTimeout .. => 44384713757731871763739514355415888859084771006634855164316883791042292541163013591243511324719622490596063808553151179015590117385
  | .pwmGenSelfCheckFail .. => 44384713757731871764058916003329466678698270892121899043659542817908512220561634929772589290452529483376826367957320153245077868553
  | .pwmGenDisagree => 44384713757731871763739514212072225359705301530958549207936449991256980718145443357644208863036942735065763304176991609632734711817
  | .rideThroughEnter => 44384376588039399582385106671490655061721386444825897990853955288628042053845804166696741854428259153012184182538873544675706814077
  | .rideThroughFlashDone => 2101260
  | .rideThroughEnd => 44384376588039399583131943069469070478748511986672254548974504885550985923303581531585597388252821032019421566477701754903666432009
  | .xbarReadBurst .. => 44384713757731871763589207486774700033120374772764031638184406308126848246420176735497546956447210395007430521264230181272276828185
  | .xbarWriteBurst .. => 161390617380431786853494948250188242145606612051826469551916209783790476378907091827836237282186848059617814154231939097
  | .scrubRead .. => 14272672929702945271137814598268832062321459217
  | .memRetireFrame .. => 44384713757731871763589207486774700033120374772764031638184406308126848246420176735557574987335355199848659290924631408355999612957
  | .memRetireBank .. => 44384713757731871763589207486774700033120374772764031638184406308126848246420176735557574987335355199848659290924631408355999612957
  | .migration => 44384713757731871763589207486774700033120374772764031638184406308126848246420176735560418332348167854299205095004394074448012115997
  | .memAlloc .. => 91617036461863432521214114593607635829872656405
  | .memRelease .. => 44384713757731871763589207486774700033120374772764031638184406308126848246420176735557831445905138302014786951684766864513318387741
  | .planeFence .. => 44384713757731871763589207486774700033120374772764031638184420111619541827547751605003562519727291457701141718159542525775193440281
  | .elogPop => 4194320
  | .cacheRequest .. => 44384713757731871763589207486774700033120374772764031638184406308126848246432447924887799587313940434625990672144912561639641972793
  | .cacheFillReturn => 44384713757731871763589207486774700033120374772764031638184406308126848246432442757018009985241221666396422187368155058262170009657
  | .victimWritebackDone .. => 44384713757731871763589207486774700033120374772764031638184406308126848246432562483232140132808280912257918305273125272256091652153
  | .cacheWaitResume => 44384713757731871763589207486774700033120374772764031638184406308126848246432447924887799587313940434625990672144912561639641972793
  | .bccClean .. => 44384713757731871763589207486774700033120374772764031638184406308126848246432442762864016534564833339211161518233287141558824599613
  | .bccInvalidate .. => 44384713757731871763589207486774700033120374772764031638184406308126848246432442762864016534564833339211161518233287141558824599613
  | .bccCleanInv .. => 44384713757731871763589207486774700033120374772764031638184406308126848246432442762864016534564833339211161518233287141558824599613
  | .bccLockFill .. => 44384713757731871763589207486774700033120374772764031638184406308126848246432442762864016534564833339211161518233287141558824599613
  | .bccUnlock .. => 44384713757731871763589207486774700033120374772764031638184406308126848246432442762864016534564833339211161518233287141558824599613
  | .bccZero .. => 44384713757731871763589207486774700033120374772764031638184406308126848246432442762864016534564833339211161518233287141558824599613
  | .cacheDrainDone => 44384713757731871763589207486774700033120374772764031638184406308126848246432442686865931393357881592619550216986570114777407946809
  | .ddrReadComplete .. => 44384713757731871763589207486774700033120374772764031638184406308126848246432562483232140132808280912257918305273125272256091652153
  | .ddrWriteCrcAlert .. => 44384713757731871763589207486774700033120374772764031638184406308126848246432466702260836014754633515568721410949149101060955177017
  | .ddrRefresh .. => 4194336
  | .patrolRead .. => 44384713757731871763589207486774700033120374772764031638184406308126848246432562483232140132808280912257918305273125272256091652153
  | .ddrFenceCmd .. => 44384713757731871763589207486774700033120374772764031638184406308126848246432466702260836014754633515568721410949149101060955177017
  | .lgtArm .. => 1260864198284623334792929283204595641762551656654894293374345388935863096687911510847204925924485139125598248126414981
  | .lgtStop .. => 1260864198284623334792929283204595641762551656654894293374345388935863096687911510847204925924485139125593575201996929
  | .lgtBurstIssue .. => 44384713757733132627787492110109492962403579368405794189841061202420222591809112598594234876635257956417285824719408264357564022937
  | .lgtBurstResponse .. => 162651481578716410188287877533392837787369163708481363845290555172726339475595004699812909891865187052241837456502587577
  | .lgtFlushReadDone .. => 1260864198284623334792929283204595641762551656654894293374345388935863096687911510847204925924485139125593575201996929
  | .hostCompletionTimeout .. => 162651481578716410188287877533392837787369163708481363845290555172726339475595004699812909891865187052241837456502587577
  | .pckJobGo .. => 1244435419040409461430445253150919866992291966869667770859525
  | .packJobStart .. => 44384713757731871763589207486774700033120374772764031638184406308126849478350432162441355302688351804380774575227285809248925319193
  | .packEncoderResume .. => 44384713757731871763589207486774700033120374772764031638184406308126848246469216592805255399914677499876240415140029833182152163353
  | .packInputResume .. => 44384713757731871763589207486774700033120374772764031638184406308126848246469216592805255399914677499876240415140029833182152163353
  | .packJobEnd .. => 44384713757731871763589207486774700033120374772764031638184406308126851085975034423739549053194983613706715611691474718780014919705
  | .pckKeyDataWrite .. => 65536
  | .pckKeyLoad .. => 44384376587918356619345083307102957096416090370664438769721192661557493986172084754642582421860226915839342061943036206832754425869
  | .pckKeyErase .. => 1332314843335822992124146305075827196817724943087491329622017
  | .keyZeroize .. => 44384376587918356619345083307102957096416090370664438769721192661557493885738456988455690200487596144516679404305349090735277801481
  | .pckResPop => 1231881215569636099902773674304504534160087255976066777415681
  | .perstNDeassert => 131072
  | .bar2Access .. => 44384713757731871763589207486774700033120374772764031638184406308126848246420176735497546956447210395008049491283872871409726390329
  | .d3hotEntry => 393216
  | .d0Entry => 1441792
  | .laneFailed .. => 44384713757733132627787492110109492962403579368405823834425157349699319418686150150607453738272524541003202855831130894935561053149
  | .flr => 44384713757733132627787492110109492962403579368405823834425157349699319418686150150607453738272524541002893370821309549866836272093
  | .hotReset => 44384713757733132627787492110109492962403579368405823834425157349699319418686150150607453738272524541003202855831130894935561053149
  | .linkDown => 44384713757733132627787492110109492962403579368405823834425157349699319418686150150607453738272524541003202855831130894935561053149
  | .flrComplete => 44384713757733132627787492110109492962403579368405823834425157349699319418686150150607453738272524541001036460762381479454487585757
  | .doeRequest .. => 618970019642690137453756417
  | .bqDoorbell .. => 44384376587918356619345083307102957096416090370664438769721192661557492653857241418819590297713921840012164594114756677712692117517
  | .entryFetch => 4849870377907125638922241
  | .entryFetchComplete .. => 96907682594967989436416001
  | .commandStart .. => 44384713757733132627787492110109492962403579368405794189841061202420222591809112598685651197718118865633440534740587051717026808029
  | .commandComplete .. => 44384713757733132627787492110109492962403579368405794191650312596753290984513987926534442750395981254399885960673957171985322582941
  | .publicationWrite .. => 9671406556917033402236929
  | .coalExpiry .. => 4587520
  | .freezeSettled .. => 930306197125320107360257
  | .disableSettled .. => 78301558652461587289079809
  | .adminRingEnable .. => 78311003385431999507595269
  | .adminRingDisable => 44384713757731871763589207486774700033120374772764031638184406308126848246420176735557563836962755937072390852167543293013860941853
  | .quiesceDone => 44384376587918356619345085746184986184077966302023114357760334071366288256766570672714464034893177159996374885167586652587717967433
  | .readCmd .. => 1260864198284623334792929283204595641762551656654894293374345388935863096687911515831809910117919662514870051253297793
  | .writeCmd .. => 44384713757733132627787492110109492962403579368405794189841061202420222591809112598594234867963042204917548440926745051323526971641
  | .zoneAppend .. => 44384713757733132627787492110109492962403579368405823832615905955366251025981274822698645305079116611437243742524709880078121214713
  | .packedAppend .. => 162651481578716410188287877533392837787369163708481363845293394384305026563637995819171531809920601018779658344091713785
  | .parcelRead .. => 44384713757733132627787492110109492962403579368405794189841061202420225431020691285773627287958026755846330560425957277777712095897
  | .zoneOpen .. => 3802951800684688204490115383361
  | .zoneClose .. => 3802951800684688204490115383361
  | .zoneFinish .. => 3802951800684688204490115383361
  | .zoneReset .. => 161390617380431786853494948250188242145606612051826469551916209783790476470256519347317306128654334718641869463215407225
  | .zoneReport .. => 4718592
  | .flushCmd .. => 524288
  | .verify .. => 44384713757731871763589207486774700033120374772764031638184406308126848246420176735497546956447210395007430521264230181272277361177
  | .peerCopy .. => 44384713757733132627787492110109492962403579368405794189841061202420222591809112598594234867186775654062888039021194796361376735865
  | .abortCmd .. => 1260864198284623334792929283204595641792196240751041572471172265973415049889901309768603928645603946258679865824617409
  | .identify .. => 4718592
  | .getFeature .. => 524288
  | .setFeature .. => 44384713757731871763589207486774700033120374772764061292041813078387985969043413353983372208016757770802265753820430675436312858301
  | .setLatencyTolerance .. => 44384376587918356619345085746184986184077966302023114357760334071366288256766570672714464034893177160154831172417182901867690606153
  | .ringCreate .. => 944399509597634205319169
  | .ringDelete .. => 78315651964933901386645505
  | .ringEnable .. => 78311003385427326579507201
  | .ringDisable .. => 44384713757731871763589207486774700033120374772764031638184406308126848246420176735557563836962755937072390852167543293013860941853
  | .ringRestart .. => 939750930091059398311937
  | .getLog .. => 4718592
  | .logbookClear .. => 44384376587918356619345083307102957096416090370664438769721192661557492653857241418819590297713921840012145244218093114668505104461
  | .firmwareDownload .. => 44384376587918356619345083307102957096416090370664438769721192661557492653857241418819590297713921840012145244218093114668513493005
  | .firmwareActivate .. => 44384713757731871763589207486774700033120374772764031638184406308126848246420176735557563836962755937072389926583712650563399057437
  | .activationDone => 45471804982233162531096327200487102388962882286539341197245036319674739656410278871611074709702075715899654553813215452095010150706877
  | .keyLoad .. => 44384376587918356619345083307102957096416090370664438769721192661557493885738456988455690200487596144516679404305349090735278325769
  | .keyErase .. => 1231881215569636099902773674304504534160087255976066773745665
  | .setTime .. => 524292
  | .adoptMedia .. => 44384376587918356619345083307102957096416090370664438769721192661557492653857241418819590297713921840012145244218093677618458525773
  | .fabricStatus .. => 4718592
  | .tierMapInstall .. => 44384713757731871763589207486774700033120374772764031638184406308126848246420176735497546956447210638396345765084275273312216678493
  | .dispatchStep .. => 44384713757731871763589207489014483757061584539930507270673832933520613677184521503475014908551967245715068876862609814835196209757
  | .urgentPreempt .. => 2239744742177806200336055142771445167380503561223889663385194000117696519687274621594738622189941565441
  | .lockGrant => 44384713757733132627787492110109492962403579368405794189841061202420222591809112598685651197718118865633440534740587051717026808029
  | .pageAllocGrant => 44384713757733132627787492110109492962403579368405794189841061202420222591809112598685651197718118865633440534740587051717026808029
  | .idleTimerExpiry .. => 44384376587918356619345085746184986184077966302023114357760334071366288256766570672714464034893177159996374847388654226680602705481
  | .idleEnd => 44384376587918356619345085746184986184077966302023114357760334071366288256766570672714464034893177171405230249442718840150931553865
  | .powerStateReached => 145583408241557273686233748236948878077906957320252243713742117592159883487925441375506210419671941257217
  | .portTrainingStart .. => 625275977237705358593295314089193090168501721821351082377109148260735330846513351987775221329960819495222372204545
  | .portUp .. => 44384713757733330532444103053376298191088144860243394754510666914535102434767944358933220306067072360087770336365627746694983295901
  | .trainFail .. => 44384713757733330532444103053376298191088144860243394754510666914535102434767944358933220306067072360087770336365627746694983295901
  | .linkLost .. => 44384713757733330532444103053376298191088144860243394754510666914535102434767944358933220306067072360087770336365627746694983295901
  | .qfbRetrain .. => 44384713757733330532444103053376298191088144860243394754510666914535102434767944358933220306067072360087770336365627746694983295901
  | .dataFrame .. => 44384713757733172655069665742294063834738993601212689439891304883551041309916540432960145644880413539058040069950711506856463541149
  | .commitFrame .. => 44384713757733133253063469347814851555698893457598884360152034418104373361623136187269773596909333242175067476362959593228893660061
  | .resultFrame .. => 44384713757733133253063469347814851555698893457598884360152034418104373361623136187238374147669802124791785185035070700228473234333
  | .doneFrame .. => 44384713757733133253063469347814851555698893457598884360152034418104373361623136187238374147669802124791785185035070700228473234333
  | .cancelFrame .. => 44384713757733133253063469347814851555698893457598884360152034418104373361623136187238374147669802124791785185035070700228473234333
  | .readReq .. => 44384713757733172655069665742294063834738993601212689439891304883551041309916540432991545094119944656441322361278600399856883966877
  | .mediaReq .. => 44384713757733172655069665742294063834738993601212689439891304883551041309916540432960145644880413539058040069950711506856463541149
  | .hello .. => 44384713757733330532444103053376298191088144860243394754510666914535102434767944358933220306067072360087770336365627746694983295901
  | .heartbeat .. => 161391242656409024558853541545502331338696780553548290902998586892938737111383421177704822355229944425563443470671020041
  | .lsa .. => 44384713757735871692494118764120104948985853438758337402031331766647795768014731264901493203807295416296499686672106760873799558045
  | .credit .. => 161391242656409024558853541545502331338696780553548290902998586892938737111383421177704822355229944425563443470671020041
  | .mgmt .. => 161391242656409024558853541545502331338696780553548290902998586892938737111383421177704822355229944425563443470671020041
  | .helloSend .. => 6291456
  | .heartbeatSend .. => 6291456
  | .lsaOriginate => 44384713757733330253474820901169292049464081651218785294717591025009234912673093596451303466853423011695748512229262125749619106717
  | .lsaExpire => 44384713757733330253474820901169292049464081651218785294717591025009234912673093596451303466853423011695748512229262125749619106717
  | .addressAssign => 44384713757733349954477919098408898188984131723025687834587226257732568886819795719312189215458728718828875954687082529063614260125
  | .creditSend .. => 6291456
  | .relayTimeout .. => 615656346818663737691860001564743965704370926101022604186692084441339402679643915803347910232576806887603564445697
  | .commitRepeat => 6291456
  | .retryResend => 1260864198284623334792929283204595641762551656654894293374345388935863096687911510847204925924485139125593575201996929
  | .outcomeDrop => 1260864198284623334792929283204595641762551656654894293374345388935863096687910739565256520156317300505812095691915265
  | .stagingDiscard => 44384713757733132627787492110109492962403579368405794191650312596753290984513987926503043301156450137016563855074251205006105224093
  | .xferIdleAbandon => 44384713757733132627787492110109492962403579368405794191650312596753290984513987926503043301156450137016563855074251205006105224093
  | .transferRestart => 3821994601050264483591066889713930539092734709235148326790984460211835011835230200589132232492004655778024394571939969
  | .helmCoreFault .. => 44384713757731871763589207486774700033120374772764031638184406308126848246420176735466147485429607794684086568281528341342552457225
  | .helmSpareSelftest .. => 44384713757731871763589207486774700033120374772764031638184406308126848246420176735466147485429607794684086568280375419837945610249
  | .helmCheckpoint => 44384713757731871763589207486774700033120374772764031638184406308126848246420176735466147485429607794684086568281528341342552457229
  | .opSecondsPersist => 4
  | .faultRaise .. => 44384713799049328582346625210000463744272752388145601513783529764350100376439163365261318910007123392612992676314562147079377633277
  | .faultNTimerExpiry => 80695308690215893426747474125094121072803306025913234775958104891895238188026287332176417290004307232371974124148359169
  | .wchFnHold .. => 80695308690215893426747474125094121072803306025913234775958104891895238188026287332176417290004307232371974124148359169
  | .wchFnForce .. => 80695308690215893426747474125094121072803306025913234775958104891895238188026287332176417290004307232371974124148359169
  | .watchLogSwap => 8
  | .wchWlogPop .. => 44384713757731871763589207486774700033120374772764031638184406308126848246420176735466147485429607794684086568280366412638690869257
  | .watchSelfCheckFail .. => 44384713799047869812979744921269406785168564762039324323451982513417397951070538687735606599503933447166291871254817164202650763273
  | .watchDisagree => 44384713757731871763589207486774700033120374772764031638184406308126848246420176735466147485429607794684086568280366412638690869257
  | .watchKat => 44384713799047869812979744921269406785168564762039324323451982513417397951070538687735606599503933447166291871254817164202650763273
  | .anchorTakeover => 44384376711947046076206913943095853914347630390921795719588975922013895475609527822468041634934918684926870539849269711949485588041
  | .anchorHalt => 44384376670671395681311791037268382676505184932444769640501482563611555445703238947412270105972132575457125228840102470055410866697
  | .wchInjGo .. => 44384715048735767844008178474594164823438670756007723093757292871292589359406144886604705369254019808817995825383393879549185884173
  | .wchInjAuth .. => 44384715048735767844008178474594164823438670756007723093757292871292589359406144886604705369254019808817995825383393879549177495565
  | .wchInjTokenWrite .. => 8
  | .injectionExpiry => 161390617380431786853494948250188242145606612051826469551916209783790476376052574664352834580008614464743948248300912649
  | .logbookPersist .. => 21661481985318866090456360813617841433097164651373566993519371723551728967231450179999800047688590453885868835635965404913860681
  | .logFwGo .. => 66565734140884875495972396780247626723907586973670971371085029306474463116302246403139385546547038464791274931909321693973222260749
  | .sysGlue .. => 44384713757731871763589207486774700033120374772764061292041813078387985969043413353983372208016752577752739675107290937801314536125
  | .registerWrite .. => 5192298715444886556605719112715781
  | .slowWriteApply .. => 5192296858534827628535306763898373
  | .rcRead .. => 1645504557321206042154969182557350504982735865633579863419912237
  | .sysRefPop .. => 4194308
  | .sysTmrExpiry .. => 140737492549637
  | .timerCaptureEdge .. => 281474976710657
  | .ddrWriteComplete .. => 44384713757731871763589207486774700033120374772764031638184406308126848246432562483232140132808280912257918305273125272256091652153
  | .linkUp .. => 309485009821345068728975361
  | .injectionWindowExpiry => 8
  | .temperatureConversion .. => 709803441694928604052074031140629428079727891296209043243642772637343054798240159498233447962659731992932150006119314388217384402949

/-- Every command keeps what its mask leaves out. -/
theorem exec_kept (c : Instr) (s : State) : KeptR (keptMask c) s (exec c s) := by
  cases c with
  | powerOn => exact (show KeptR 44384713757731871763589207486774700033120374773249787789565372834694799025642567079774200586842227345352381616787460627197495083007 s (execPowerOn s) from execPowerOn_kept (subMask_refl _) (Kept.refl _ _))
  | brownOut => exact (show KeptR 44384713757731871763589207486774700033120374773249787789565372834694799025642567079774200586842227345352381616787460627197495083007 s (execBrownOut s) from execBrownOut_kept (subMask_refl _) (Kept.refl _ _))
  | supplyFault rail high => exact (show KeptR 1463991597147589079867737269768033556192576157365667874276850918109380908622122862130906876431860329872814521986378239337658325803593 s (execSupplyFault rail high s) from execSupplyFault_kept (subMask_refl _) (Kept.refl _ _))
  | supplyFaultClear => exact (show KeptR 512 s (execSupplyFaultClear s) from execSupplyFaultClear_kept (subMask_refl _) (Kept.refl _ _))
  | perstNAssert prepOk => exact (show KeptR 44384713757731871763589207486774700033120374773249787789565372834694799025642567079774200586842227345352381616787460627197495083007 s (execPerstNAssert prepOk s) from execPerstNAssert_kept (subMask_refl _) (Kept.refl _ _))
  | resetNAssert prepOk => exact (show KeptR 44384713757731871763589207486774700033120374773249787789565372834694799025642567079774200586842227345352381616787460627197495083007 s (execResetNAssert prepOk s) from execResetNAssert_kept (subMask_refl _) (Kept.refl _ _))
  | sysResetCmd w v prepOk => exact (show KeptR 44384713757731871763589207486774700033120374773249787789565372834694799025642567079774200586842227345352381616787460627197495083007 s (execSysResetCmd w v prepOk s) from execSysResetCmd_kept (subMask_refl _) (Kept.refl _ _))
  | helmWatchdogExpiry prepOk => exact (show KeptR 44384713757731871763589207486774700033120374773249787789565372834694799025642567079774200586842227345352381616787460627197495083007 s (execHelmWatchdogExpiry prepOk s) from execHelmWatchdogExpiry_kept (subMask_refl _) (Kept.refl _ _))
  | wdogKick w => exact (show KeptR 4672928612357 s (execWdogKick w s) from execWdogKick_kept (subMask_refl _) (Kept.refl _ _))
  | resetRelease gpio0 flashOk readable cores => exact (show KeptR 45471804982233162531096327209661096852989917943769496783641402854632040169576740138930863565841612092147358571697638291555215243103933 s (execResetRelease gpio0 flashOk readable cores s) from execResetRelease_kept (subMask_refl _) (Kept.refl _ _))
  | ddrTrainingDone fail blocks => exact (show KeptR 44384713757731871763589207486774700033120374772764031638184406308126848246432466702260836014754633515568721410949149101060955177017 s (execDdrTrainingDone fail blocks s) from execDdrTrainingDone_kept (subMask_refl _) (Kept.refl _ _))
  | registerSpaceOpen status words => exact (show KeptR 22758094510825754748949790080821687129868282681435744612071865501771329974616607406315019888016601294327973449732483782373689539041869 s (execRegisterSpaceOpen status words s) from execRegisterSpaceOpen_kept (subMask_refl _) (Kept.refl _ _))
  | systemAreaReadDone domains bad scan => exact (show KeptR 21661481985318866090456360813617841433097164651373566993519371723551728967231450179999800047688590453885906614569521884866674765 s (execSystemAreaReadDone domains bad scan s) from execSystemAreaReadDone_kept (subMask_refl _) (Kept.refl _ _))
  | aliveSet w => exact (show KeptR 9224502609690230789 s (execAliveSet w s) from execAliveSet_kept (subMask_refl _) (Kept.refl _ _))
  | busGoodRestart flashOk readable cores => exact (show KeptR 45471804982233162531096327209661096852989917943769982510150008976405662091921790367050975814455120687684812612225937023720837741543423 s (execBusGoodRestart flashOk readable cores s) from execBusGoodRestart_kept (subMask_refl _) (Kept.refl _ _))
  | bellEdge swept => exact (show KeptR 44384713840363867862520591520143667958895173943473716852940136168601168833466509787631099911656606931146053832409594503002217660415 s (execBellEdge swept s) from execBellEdge_kept (subMask_refl _) (Kept.refl _ _))
  | speedErrorClear => exact (show KeptR 512 s (execSpeedErrorClear s) from execSpeedErrorClear_kept (subMask_refl _) (Kept.refl _ _))
  | collectLate => exact (show KeptR 44384713757731871763589207486774700033120374772764031638410562732418481440606838815561241055455525733484165794919932006404146200585 s (execCollectLate s) from execCollectLate_kept (subMask_refl _) (Kept.refl _ _))
  | telemetrySnapshot => exact (show KeptR 8 s (execTelemetrySnapshot s) from execTelemetrySnapshot_kept (subMask_refl _) (Kept.refl _ _))
  | telemSkip => exact (show KeptR 44384713757731871763589207486774700033120374772764031638184406308126848246420176735466147485429607794684086568280366412638690869257 s (execTelemSkip s) from execTelemSkip_kept (subMask_refl _) (Kept.refl _ _))
  | wedgeResult h m => exact (show KeptR 44384376587918356619345083307102957148696555046400519872491621892224371143398011282842375130893892185569434384087756223178196133449 s (execWedgeResult h m s) from execWedgeResult_kept (subMask_refl _) (Kept.refl _ _))
  | servoLost h => exact (show KeptR 590448691390765310338681490682782786076422744174116169377084935572789604134592164414296539792385 s (execServoLost h s) from execServoLost_kept (subMask_refl _) (Kept.refl _ _))
  | servoReacquired h => exact (show KeptR 586275823193244145233735424443022203347680973393795909404772876266271548143168475197441033905665 s (execServoReacquired h s) from execServoReacquired_kept (subMask_refl _) (Kept.refl _ _))
  | writeInhibitClear h => exact (show KeptR 63657374290095465040641873791227239695082491712497623906783373436425557123630033256055297 s (execWriteInhibitClear h s) from execWriteInhibitClear_kept (subMask_refl _) (Kept.refl _ _))
  | offTrackClear h => exact (show KeptR 512 s (execOffTrackClear h s) from execOffTrackClear_kept (subMask_refl _) (Kept.refl _ _))
  | wedgeHandling a => exact (show KeptR 247576455503376605229482205898895720035970793453422077659532733858327157440702849025 s (execWedgeHandling a s) from execWedgeHandling_kept (subMask_refl _) (Kept.refl _ _))
  | seqLate a => exact (show KeptR 44384713757731871763589207486774700033120376764732919490891357626480678857303993714734140454205148439748686488091818002480594822041 s (execSeqLate a s) from execSeqLate_kept (subMask_refl _) (Kept.refl _ _))
  | nanoWord a => exact (show KeptR 45471804982233162531096327200632641510233295784601865483730743786609861512463099853197488397875650852045149009695558353320188096180185 s (execNanoWord a s) from execNanoWord_kept (subMask_refl _) (Kept.refl _ _))
  | branchWord a => exact (show KeptR 45471804982233162531096327200632641510233295784601865483730743786609861512463099853197488397875650852045149009695558353320188096180185 s (execBranchWord a s) from execBranchWord_kept (subMask_refl _) (Kept.refl _ _))
  | jumpWord a => exact (show KeptR 45471804982233162531096327200632641510233295784601865483730743786609861512463099853197488397875650852045149009695558353320188096180185 s (execJumpWord a s) from execJumpWord_kept (subMask_refl _) (Kept.refl _ _))
  | callWord a => exact (show KeptR 45471804982233162531096327200632641510233295784601865483730743786609861512463099853197488397875650852045149009695558353320188096180185 s (execCallWord a s) from execCallWord_kept (subMask_refl _) (Kept.refl _ _))
  | nopWord a => exact (show KeptR 45471804982233162531096327200632641510233295784601865483730743786609861512463099853197488397875650852045149009695558353320188096180185 s (execNopWord a s) from execNopWord_kept (subMask_refl _) (Kept.refl _ _))
  | retWord a => exact (show KeptR 45471804982233162531096327200632641510233295784601865483730743786609861512463099853197488397875650852045149009695558353320188096180185 s (execRetWord a s) from execRetWord_kept (subMask_refl _) (Kept.refl _ _))
  | wwait a => exact (show KeptR 45471804982233162531096327200632641510233295784601865483730743786609861512463099853197488397875650852045149009695558353320188096180185 s (execWwait a s) from execWwait_kept (subMask_refl _) (Kept.refl _ _))
  | loopWord a => exact (show KeptR 45471804982233162531096327200632641510233295784601865483730743786609861512463099853197488397875650852045149009695558353320188096180185 s (execLoopWord a s) from execLoopWord_kept (subMask_refl _) (Kept.refl _ _))
  | jumpv a => exact (show KeptR 45471804982233162531096327200632641510233295784601865483730743786609861512463099853197488397875650852045149009695558353320188096180185 s (execJumpv a s) from execJumpv_kept (subMask_refl _) (Kept.refl _ _))
  | signal a => exact (show KeptR 45471804982233162531096327200632641510233295784601865483730743786609861512463099853197488397875650852045149009695558353320188096180185 s (execSignal a s) from execSignal_kept (subMask_refl _) (Kept.refl _ _))
  | seqStop a => exact (show KeptR 45471804982233162531096327200632641510233295784601865483730743786609861512463099853197488397875650852045149009695558353320188096180185 s (execSeqStop a s) from execSeqStop_kept (subMask_refl _) (Kept.refl _ _))
  | hookBudgetExhausted a => exact (show KeptR 45471804982233162531096327200632641510233295784042164244788547246056140553415178936807643573232149044548552542303872702421848977715161 s (execHookBudgetExhausted a s) from execHookBudgetExhausted_kept (subMask_refl _) (Kept.refl _ _))
  | seqFlush mask => exact (show KeptR 1989778612862203000889258858063989240128485204899153904642168860675072714121434804789249 s (execSeqFlush mask s) from execSeqFlush_kept (subMask_refl _) (Kept.refl _ _))
  | seqStep w a => exact (show KeptR 45471804982233162531096327200632641510233295784601865483730743786609861512463099853197488397875650852045149009695558353324861020598237 s (execSeqStep w a s) from execSeqStep_kept (subMask_refl _) (Kept.refl _ _))
  | gateEventFire h adc => exact (show KeptR 44384376588079747236725515093956452044666278613295920104253834035814210972077441141447555509867115869048734610036928519048129946591 s (execGateEventFire h adc s) from execGateEventFire_kept (subMask_refl _) (Kept.refl _ _))
  | retentionCommitStart n adc => exact (show KeptR 161390617380431786853494948250188242145606612052268201959319972903394893546026247456197842759844451306774021549506691225 s (execRetentionCommitStart n adc s) from execRetentionCommitStart_kept (subMask_refl _) (Kept.refl _ _))
  | syncSearchStart n adc => exact (show KeptR 161390617380431786853494948250188242145606612052268201959319972903394893546026247456197842759844451306774021549506691225 s (execSyncSearchStart n adc s) from execSyncSearchStart_kept (subMask_refl _) (Kept.refl _ _))
  | syncWindowEnd n adc bits rescue => exact (show KeptR 161390617380431786853494948250188242145606612278424629620946500483886947974496703359569615764566730763911175452913303961 s (execSyncWindowEnd n adc bits rescue s) from execSyncWindowEnd_kept (subMask_refl _) (Kept.refl _ _))
  | sectorEnd n adc => exact (show KeptR 22758094510825795076903094511594098150595958800091499458938951594457740269342205126827257375205831537837697139556485029832761398526425 s (execSectorEnd n adc s) from execSectorEnd_kept (subMask_refl _) (Kept.refl _ _))
  | thermalAsperityStart n adc => exact (show KeptR 161390617380431786853494948250188242145606612052268201959319972903394893546026247456197842759844451306774021549506691225 s (execThermalAsperityStart n adc s) from execThermalAsperityStart_kept (subMask_refl _) (Kept.refl _ _))
  | thermalAsperityEnd n adc => exact (show KeptR 161390617380431786853494948250188242145606612052268201959319972903394893546026247456197842759844451306774021549506691225 s (execThermalAsperityEnd n adc s) from execThermalAsperityEnd_kept (subMask_refl _) (Kept.refl _ _))
  | lossOfLock n meanErr => exact (show KeptR 161390617380431786853494948250188242145606612052268201959319972903394893546026247456197842759844451306774021549506691225 s (execLossOfLock n meanErr s) from execLossOfLock_kept (subMask_refl _) (Kept.refl _ _))
  | selectiveModeEnter n => exact (show KeptR 897227025082773292366518262096013308818644166382150252171128149093908609 s (execSelectiveModeEnter n s) from execSelectiveModeEnter_kept (subMask_refl _) (Kept.refl _ _))
  | channelLate n => exact (show KeptR 44384713757731871763589207486774700033120374773249698861240838576277962889800285208918421305927324404272620052317288928957237436825 s (execChannelLate n s) from execChannelLate_kept (subMask_refl _) (Kept.refl _ _))
  | slotHoldRequest n slot seq => exact (show KeptR 128 s (execSlotHoldRequest n slot seq s) from execSlotHoldRequest_kept (subMask_refl _) (Kept.refl _ _))
  | slotHoldGrant n => exact (show KeptR 128 s (execSlotHoldGrant n s) from execSlotHoldGrant_kept (subMask_refl _) (Kept.refl _ _))
  | coefDataWrite w n v => exact (show KeptR 422894671231549952833827079917239079780563117467830024880596713601 s (execCoefDataWrite w n v s) from execCoefDataWrite_kept (subMask_refl _) (Kept.refl _ _))
  | coefQueueApply n => exact (show KeptR 128 s (execCoefQueueApply n s) from execCoefQueueApply_kept (subMask_refl _) (Kept.refl _ _))
  | spareSubst w a pos => exact (show KeptR 485667223057398539180005113467993075209939465604381377385979070552667324746851426709 s (execSpareSubst w a pos s) from execSpareSubst_kept (subMask_refl _) (Kept.refl _ _))
  | spareRelease w a pos => exact (show KeptR 938637503163516675091126797269675461533350820215172571502107967365316741 s (execSpareRelease w a pos s) from execSpareRelease_kept (subMask_refl _) (Kept.refl _ _))
  | spareShadow w a pos => exact (show KeptR 966271448497346080880660487733870582973828893248276658295239167870763141 s (execSpareShadow w a pos s) from execSpareShadow_kept (subMask_refl _) (Kept.refl _ _))
  | spareDetach w a pos => exact (show KeptR 966271448497346080880660487733870582973828893248276658295239167870763141 s (execSpareDetach w a pos s) from execSpareDetach_kept (subMask_refl _) (Kept.refl _ _))
  | quickDecodeStart => exact (show KeptR 117834564444200007708569276919546721657566556050428779555046160776607402819969 s (execQuickDecodeStart s) from execQuickDecodeStart_kept (subMask_refl _) (Kept.refl _ _))
  | quickIterationEnd e word flips => exact (show KeptR 44384713757731871763589207486774700033120374772764032002119564711178452453987795938495357892738224275826257795763685620798443880857 s (execQuickIterationEnd e word flips s) from execQuickIterationEnd_kept (subMask_refl _) (Kept.refl _ _))
  | realignTrialEnd e => exact (show KeptR 44384713757731871763589207486774700033120374772764031784966993061655904810882199907216245577331262611846351086174786959857957863833 s (execRealignTrialEnd e s) from execRealignTrialEnd_kept (subMask_refl _) (Kept.refl _ _))
  | deepSlotLoadEnd e => exact (show KeptR 44384713757731871763589207486774700033120374772764031756018970752326855954989453655044268614013766445436210076310390957879675453849 s (execDeepSlotLoadEnd e s) from execDeepSlotLoadEnd_kept (subMask_refl _) (Kept.refl _ _))
  | deepOuterIterationEnd e word => exact (show KeptR 161390617380431786853494948250188242145607019409018336597093701190529057663228426949213565337391356744657159375477539225 s (execDeepOuterIterationEnd e word s) from execDeepOuterIterationEnd_kept (subMask_refl _) (Kept.refl _ _))
  | decTracePop => exact (show KeptR 4194560 s (execDecTracePop s) from execDecTracePop_kept (subMask_refl _) (Kept.refl _ _))
  | streamSectorReady h tok => exact (show KeptR 44384713757731871763589207486774700033120374772764061280959251061072876680592338959601957393563284798991824622405736207033465184793 s (execStreamSectorReady h tok s) from execStreamSectorReady_kept (subMask_refl _) (Kept.refl _ _))
  | sectorRewrite h tok => exact (show KeptR 485667223056432267729865476705879726660601709763034880312953102434726071301302657025 s (execSectorRewrite h tok s) from execSectorRewrite_kept (subMask_refl _) (Kept.refl _ _))
  | paFrameEnd a => exact (show KeptR 355713298137035352341210065946689252925245392892847812729213698072309134258078209 s (execPaFrameEnd a s) from execPaFrameEnd_kept (subMask_refl _) (Kept.refl _ _))
  | paKeepalive a => exact (show KeptR 118571099379011784113736688648896417641748464297615937576404566024103044755489281 s (execPaKeepalive a s) from execPaKeepalive_kept (subMask_refl _) (Kept.refl _ _))
  | paReadResponse a data crcOk => exact (show KeptR 22758094847995447201429958203986916398584412896251939534710125945453261404101812722841169894250248385791913054953347107365340079333961 s (execPaReadResponse a data crcOk s) from execPaReadResponse_kept (subMask_refl _) (Kept.refl _ _))
  | paMailboxCmd w h addr data rd bcast => exact (show KeptR 355713298137035352341210065946689252925245392892847812729213698072313807182496261 s (execPaMailboxCmd w h addr data rd bcast s) from execPaMailboxCmd_kept (subMask_refl _) (Kept.refl _ _))
  | heaterUpdate h why => exact (show KeptR 118571099379011784113736688648896417641748464297615937576404566024103044755489281 s (execHeaterUpdate h why s) from execHeaterUpdate_kept (subMask_refl _) (Kept.refl _ _))
  | paFaultNFall a => exact (show KeptR 44384376587918356619345083307102957096416090371150313492201538199909557169768256714211065067289477548215857054643361366298122003017 s (execPaFaultNFall a s) from execPaFaultNFall_kept (subMask_refl _) (Kept.refl _ _))
  | paFaultNRise a => exact (show KeptR 512 s (execPaFaultNRise a s) from execPaFaultNRise_kept (subMask_refl _) (Kept.refl _ _))
  | headConfirmTest h status => exact (show KeptR 22758094510825633686285714079807244655647708611849353970780164140821581328457284916560886282455380913613044806276351318565779356517065 s (execHeadConfirmTest h status s) from execHeadConfirmTest_kept (subMask_refl _) (Kept.refl _ _))
  | loopComputation x => exact (show KeptR 44384713757731871763589207637124909959293997287779486064926949593444926255410806027109370680685110049613007867601509241910836473417 s (execLoopComputation x s) from execLoopComputation_kept (subMask_refl _) (Kept.refl _ _))
  | ctlLate => exact (show KeptR 44384713757731871763589207486779758584418194468066663648340042349922256101405247878388574566717332766549666570262958292601078417929 s (execCtlLate s) from execCtlLate_kept (subMask_refl _) (Kept.refl _ _))
  | trimAutoClose h => exact (show KeptR 533996758980227550241530271295334057084848292813267602923876476359539325546301644657401616402945 s (execTrimAutoClose h s) from execTrimAutoClose_kept (subMask_refl _) (Kept.refl _ _))
  | seekTimeout a => exact (show KeptR 44384376587918356619345083452686404369799029425763537376020691987635132731757780696327117771122614377221054743923792740401170366025 s (execSeekTimeout a s) from execSeekTimeout_kept (subMask_refl _) (Kept.refl _ _))
  | loadFail a => exact (show KeptR 44384376587918356619345083452686370194006454691202219055673393274801299088485422989882798618456889221705442253674992373007770988105 s (execLoadFail a s) from execLoadFail_kept (subMask_refl _) (Kept.refl _ _))
  | trimSatSet h => exact (show KeptR 44384713757731871763589207486774700567117133752991581879714677603460905331268469548733750409306084154223412114582009944140400427529 s (execTrimSatSet h s) from execTrimSatSet_kept (subMask_refl _) (Kept.refl _ _))
  | trimSatClear h => exact (show KeptR 533996758980227550241530271295334057084848292813267602923876476359539325546301643531501709558273 s (execTrimSatClear h s) from execTrimSatClear_kept (subMask_refl _) (Kept.refl _ _))
  | oscStage1 n => exact (show KeptR 44384713757731871763589207486774837270287432691722581669709994228418162249408104549380449603964168464567603380294949536537642674761 s (execOscStage1 n s) from execOscStage1_kept (subMask_refl _) (Kept.refl _ _))
  | oscStage2 n => exact (show KeptR 2883598480537446287971885332049292413019527888682884605361199780035484103252725977964853929944519038210856350899207795847683880650761 s (execOscStage2 n s) from execOscStage2_kept (subMask_refl _) (Kept.refl _ _))
  | oscStage3 n => exact (show KeptR 44384713757731871763593907011022276787238029665316285900278299083033460489070896626061259611145680481749119045752588318509707705929 s (execOscStage3 n s) from execOscStage3_kept (subMask_refl _) (Kept.refl _ _))
  | oscCountReset n => exact (show KeptR 533996758980227520598755426542388028650676130589163192486760401955554931445160137505740521736705 s (execOscCountReset n s) from execOscCountReset_kept (subMask_refl _) (Kept.refl _ _))
  | ctlClose w n => exact (show KeptR 533996758980227550241530271295334057084848292813267602923876476359539325546301643536174638172677 s (execCtlClose w n s) from execCtlClose_kept (subMask_refl _) (Kept.refl _ _))
  | ctlOpen w n => exact (show KeptR 4805970830822047685388798838881492257856085175302468732380843617599994383006441237556337624219653 s (execCtlOpen w n s) from execCtlOpen_kept (subMask_refl _) (Kept.refl _ _))
  | ctlResetOsc w n => exact (show KeptR 17621893046347508179758929075898804945472312309442385352063093264533312737690284537689437217229313 s (execCtlResetOsc w n s) from execCtlResetOsc_kept (subMask_refl _) (Kept.refl _ _))
  | ctlCoefCommit w v => exact (show KeptR 44291827176855991468543170099131832648401680975587551837621854779801548233787362445276146507645454341 s (execCtlCoefCommit w v s) from execCtlCoefCommit_kept (subMask_refl _) (Kept.refl _ _))
  | profGo w g => exact (show KeptR 2239783723941209767166475632489426625393765430764344767917451071589209030674550543212421442763818535429 s (execProfGo w g s) from execProfGo_kept (subMask_refl _) (Kept.refl _ _))
  | profStop w g => exact (show KeptR 2239744742177804210557442280568444278121645497234649534899989100963791871180160945380877493271615506433 s (execProfStop w g s) from execProfStop_kept (subMask_refl _) (Kept.refl _ _))
  | motorPwmUpdate half o => exact (show KeptR 44384713757731871764063620114574275412958949006315943909927317185945102799774602295545380190014354347411474985466648279367467810377 s (execMotorPwmUpdate half o s) from execMotorPwmUpdate_kept (subMask_refl _) (Kept.refl _ _))
  | pwmLate => exact (show KeptR 44384713757731871763593904571940247699576153733957610312239157673224664886161591317409211903479837011571013966277135950044754739209 s (execPwmLate s) from execPwmLate_kept (subMask_refl _) (Kept.refl _ _))
  | encOfsLearned => exact (show KeptR 1176567029752454834091383724417639967911797453346681536302220443326973242842863881083871339860539413505251329 s (execEncOfsLearned s) from execEncOfsLearned_kept (subMask_refl _) (Kept.refl _ _))
  | obsDrift => exact (show KeptR 44384376587918356619349780392268504762871869331858017443775944026655309293598656000762654715764151056899072642214862652074576842761 s (execObsDrift s) from execObsDrift_kept (subMask_refl _) (Kept.refl _ _))
  | microactuatorFrame => exact (show KeptR 4198400 s (execMicroactuatorFrame s) from execMicroactuatorFrame_kept (subMask_refl _) (Kept.refl _ _))
  | dacLate => exact (show KeptR 44384713757731871763593904571940247699576153733957610312239157673224664886161591317409211903479837011571013966277135950044754739209 s (execDacLate s) from execDacLate_kept (subMask_refl _) (Kept.refl _ _))
  | returnWord v => exact (show KeptR 44384713757731871763969673824266090103700346560802579824658408290858791668384063181506413055164017832703310885494151310994817302089 s (execReturnWord v s) from execReturnWord_kept (subMask_refl _) (Kept.refl _ _))
  | maFault h => exact (show KeptR 44384713757731871763631481253264633837193216246039681244856974002067406639400449674396292649836546438926951562551773949542827434569 s (execMaFault h s) from execMaFault_kept (subMask_refl _) (Kept.refl _ _))
  | motorAdcConversion sample code => exact (show KeptR 44384713757731871766001163445052782844583686228377968266099241295235112002581010339080378785253513647360011527849295377883151875657 s (execMotorAdcConversion sample code s) from execMotorAdcConversion_kept (subMask_refl _) (Kept.refl _ _))
  | busTrip => exact (show KeptR 44384713757731871763744211297237773026161080492152127881991201356354797357886857939587273281087171951952690702173761147038798581769 s (execBusTrip s) from execBusTrip_kept (subMask_refl _) (Kept.refl _ _))
  | spStart => exact (show KeptR 2295738365538220146643426022971454223956178892521600948574957560868730285559659352021840668155061989283841 s (execSpStart s) from execSpStart_kept (subMask_refl _) (Kept.refl _ _))
  | spStop => exact (show KeptR 44384376587918356619345085746184986184077966302023114357760334071366288256766546727471638005379765310190250323693545483133457546825 s (execSpStop s) from execSpStop_kept (subMask_refl _) (Kept.refl _ _))
  | senseDone r => exact (show KeptR 44384376587918356619349787418347765830676768484858483635988967029594083233070208784592381197275746704046793861727422366690801368649 s (execSenseDone r s) from execSenseDone_kept (subMask_refl _) (Kept.refl _ _))
  | spindleRest => exact (show KeptR 6882735597518363169865067813575628105549308870858163196050135239642576037736628968161877774375313362393089 s (execSpindleRest s) from execSpindleRest_kept (subMask_refl _) (Kept.refl _ _))
  | alignDone => exact (show KeptR 2295738365538220146643426022971454223956178892521600948574957560868730285559659352021840668155061989283841 s (execAlignDone s) from execAlignDone_kept (subMask_refl _) (Kept.refl _ _))
  | rampEnd r => exact (show KeptR 5722811910147347189035942041130380422448642922076172620189305029721468499955553732245637643672399354824473610050719042566781351247433 s (execRampEnd r s) from execRampEnd_kept (subMask_refl _) (Kept.refl _ _))
  | catchAttemptEnd locked rpm => exact (show KeptR 44384376587918356619650400868942816483846622001247518775493054395854348176520742028948503952490416584810147333520671634778982202953 s (execCatchAttemptEnd locked rpm s) from execCatchAttemptEnd_kept (subMask_refl _) (Kept.refl _ _))
  | phaseOpen => exact (show KeptR 44384713757731871763593907011022276787238029665316285900278299083033460489070896626061259611145680481749119045752588318509707705929 s (execPhaseOpen s) from execPhaseOpen_kept (subMask_refl _) (Kept.refl _ _))
  | phaseShort => exact (show KeptR 44384713757731871763593907011022276787238029665316285900278299083033460489070896626061259611145680481749119045752588318509707705929 s (execPhaseShort s) from execPhaseShort_kept (subMask_refl _) (Kept.refl _ _))
  | motLoad w a => exact (show KeptR 143343663499379469475676305956380433799785311823017570233599302461682679755530300504376159574055784026117 s (execMotLoad w a s) from execMotLoad_kept (subMask_refl _) (Kept.refl _ _))
  | motRetract a => exact (show KeptR 44384376587918356619345083452686370194006454691202219055673393274801299088485422989882798618456889221705442253674992373007770988105 s (execMotRetract a s) from execMotRetract_kept (subMask_refl _) (Kept.refl _ _))
  | motTest w a => exact (show KeptR 143343663499379469475676305956380433799785311823017570233599302461682679755530300504376159574055784026117 s (execMotTest w a s) from execMotTest_kept (subMask_refl _) (Kept.refl _ _))
  | vcmTestEnd a => exact (show KeptR 11401239780876589536596773705891387941375068216674876272944694746231346113441829508417864479612583454548012427457169805855542536191561 s (execVcmTestEnd a s) from execVcmTestEnd_kept (subMask_refl _) (Kept.refl _ _))
  | vcmTestRepeat a => exact (show KeptR 4096 s (execVcmTestRepeat a s) from execVcmTestRepeat_kept (subMask_refl _) (Kept.refl _ _))
  | loadOffRamp a => exact (show KeptR 143343663499379469475676305956380433799785311823017570233599302461682679755530300504376159569382855411713 s (execLoadOffRamp a s) from execLoadOffRamp_kept (subMask_refl _) (Kept.refl _ _))
  | loadTravelTimeout a => exact (show KeptR 44384713757731871763739514355415888859084771006634855164316883791042292541163013591243511324719622490596063808553151179015590117385 s (execLoadTravelTimeout a s) from execLoadTravelTimeout_kept (subMask_refl _) (Kept.refl _ _))
  | actuatorParked a => exact (show KeptR 143343663499379469475676305956380433799785311823017570233599302461682679755530300504376159569382855413761 s (execActuatorParked a s) from execActuatorParked_kept (subMask_refl _) (Kept.refl _ _))
  | retractTimeout a => exact (show KeptR 44384713757731871763739514355415888859084771006634855164316883791042292541163013591243511324719622490596063808553151179015590117385 s (execRetractTimeout a s) from execRetractTimeout_kept (subMask_refl _) (Kept.refl _ _))
  | pwmGenSelfCheckFail g => exact (show KeptR 44384713757731871764058916003329466678698270892121899043659542817908512220561634929772589290452529483376826367957320153245077868553 s (execPwmGenSelfCheckFail g s) from execPwmGenSelfCheckFail_kept (subMask_refl _) (Kept.refl _ _))
  | pwmGenDisagree => exact (show KeptR 44384713757731871763739514212072225359705301530958549207936449991256980718145443357644208863036942735065763304176991609632734711817 s (execPwmGenDisagree s) from execPwmGenDisagree_kept (subMask_refl _) (Kept.refl _ _))
  | rideThroughEnter => exact (show KeptR 44384376588039399582385106671490655061721386444825897990853955288628042053845804166696741854428259153012184182538873544675706814077 s (execRideThroughEnter s) from execRideThroughEnter_kept (subMask_refl _) (Kept.refl _ _))
  | rideThroughFlashDone => exact (show KeptR 2101260 s (execRideThroughFlashDone s) from execRideThroughFlashDone_kept (subMask_refl _) (Kept.refl _ _))
  | rideThroughEnd => exact (show KeptR 44384376588039399583131943069469070478748511986672254548974504885550985923303581531585597388252821032019421566477701754903666432009 s (execRideThroughEnd s) from execRideThroughEnd_kept (subMask_refl _) (Kept.refl _ _))
  | xbarReadBurst port chan page beat beats upsets => exact (show KeptR 44384713757731871763589207486774700033120374772764031638184406308126848246420176735497546956447210395007430521264230181272276828185 s (execXbarReadBurst port chan page beat beats upsets s) from execXbarReadBurst_kept (subMask_refl _) (Kept.refl _ _))
  | xbarWriteBurst port page beat data => exact (show KeptR 161390617380431786853494948250188242145606612051826469551916209783790476378907091827836237282186848059617814154231939097 s (execXbarWriteBurst port page beat data s) from execXbarWriteBurst_kept (subMask_refl _) (Kept.refl _ _))
  | scrubRead upsets => exact (show KeptR 14272672929702945271137814598268832062321459217 s (execScrubRead upsets s) from execScrubRead_kept (subMask_refl _) (Kept.refl _ _))
  | memRetireFrame frame => exact (show KeptR 44384713757731871763589207486774700033120374772764031638184406308126848246420176735557574987335355199848659290924631408355999612957 s (execMemRetireFrame frame s) from execMemRetireFrame_kept (subMask_refl _) (Kept.refl _ _))
  | memRetireBank bank => exact (show KeptR 44384713757731871763589207486774700033120374772764031638184406308126848246420176735557574987335355199848659290924631408355999612957 s (execMemRetireBank bank s) from execMemRetireBank_kept (subMask_refl _) (Kept.refl _ _))
  | migration => exact (show KeptR 44384713757731871763589207486774700033120374772764031638184406308126848246420176735560418332348167854299205095004394074448012115997 s (execMigration s) from execMigration_kept (subMask_refl _) (Kept.refl _ _))
  | memAlloc w tag count => exact (show KeptR 91617036461863432521214114593607635829872656405 s (execMemAlloc w tag count s) from execMemAlloc_kept (subMask_refl _) (Kept.refl _ _))
  | memRelease tag => exact (show KeptR 44384713757731871763589207486774700033120374772764031638184406308126848246420176735557831445905138302014786951684766864513318387741 s (execMemRelease tag s) from execMemRelease_kept (subMask_refl _) (Kept.refl _ _))
  | planeFence p parity => exact (show KeptR 44384713757731871763589207486774700033120374772764031638184420111619541827547751605003562519727291457701141718159542525775193440281 s (execPlaneFence p parity s) from execPlaneFence_kept (subMask_refl _) (Kept.refl _ _))
  | elogPop => exact (show KeptR 4194320 s (execElogPop s) from execElogPop_kept (subMask_refl _) (Kept.refl _ _))
  | cacheRequest port chan addr len write stream => exact (show KeptR 44384713757731871763589207486774700033120374772764031638184406308126848246432447924887799587313940434625990672144912561639641972793 s (execCacheRequest port chan addr len write stream s) from execCacheRequest_kept (subMask_refl _) (Kept.refl _ _))
  | cacheFillReturn => exact (show KeptR 44384713757731871763589207486774700033120374772764031638184406308126848246432442757018009985241221666396422187368155058262170009657 s (execCacheFillReturn s) from execCacheFillReturn_kept (subMask_refl _) (Kept.refl _ _))
  | victimWritebackDone c => exact (show KeptR 44384713757731871763589207486774700033120374772764031638184406308126848246432562483232140132808280912257918305273125272256091652153 s (execVictimWritebackDone c s) from execVictimWritebackDone_kept (subMask_refl _) (Kept.refl _ _))
  | cacheWaitResume => exact (show KeptR 44384713757731871763589207486774700033120374772764031638184406308126848246432447924887799587313940434625990672144912561639641972793 s (execCacheWaitResume s) from execCacheWaitResume_kept (subMask_refl _) (Kept.refl _ _))
  | bccClean w all => exact (show KeptR 44384713757731871763589207486774700033120374772764031638184406308126848246432442762864016534564833339211161518233287141558824599613 s (execBccClean w all s) from execBccClean_kept (subMask_refl _) (Kept.refl _ _))
  | bccInvalidate w all => exact (show KeptR 44384713757731871763589207486774700033120374772764031638184406308126848246432442762864016534564833339211161518233287141558824599613 s (execBccInvalidate w all s) from execBccInvalidate_kept (subMask_refl _) (Kept.refl _ _))
  | bccCleanInv w all => exact (show KeptR 44384713757731871763589207486774700033120374772764031638184406308126848246432442762864016534564833339211161518233287141558824599613 s (execBccCleanInv w all s) from execBccCleanInv_kept (subMask_refl _) (Kept.refl _ _))
  | bccLockFill w all => exact (show KeptR 44384713757731871763589207486774700033120374772764031638184406308126848246432442762864016534564833339211161518233287141558824599613 s (execBccLockFill w all s) from execBccLockFill_kept (subMask_refl _) (Kept.refl _ _))
  | bccUnlock w all => exact (show KeptR 44384713757731871763589207486774700033120374772764031638184406308126848246432442762864016534564833339211161518233287141558824599613 s (execBccUnlock w all s) from execBccUnlock_kept (subMask_refl _) (Kept.refl _ _))
  | bccZero w all => exact (show KeptR 44384713757731871763589207486774700033120374772764031638184406308126848246432442762864016534564833339211161518233287141558824599613 s (execBccZero w all s) from execBccZero_kept (subMask_refl _) (Kept.refl _ _))
  | cacheDrainDone => exact (show KeptR 44384713757731871763589207486774700033120374772764031638184406308126848246432442686865931393357881592619550216986570114777407946809 s (execCacheDrainDone s) from execCacheDrainDone_kept (subMask_refl _) (Kept.refl _ _))
  | ddrReadComplete c upsets => exact (show KeptR 44384713757731871763589207486774700033120374772764031638184406308126848246432562483232140132808280912257918305273125272256091652153 s (execDdrReadComplete c upsets s) from execDdrReadComplete_kept (subMask_refl _) (Kept.refl _ _))
  | ddrWriteCrcAlert c => exact (show KeptR 44384713757731871763589207486774700033120374772764031638184406308126848246432466702260836014754633515568721410949149101060955177017 s (execDdrWriteCrcAlert c s) from execDdrWriteCrcAlert_kept (subMask_refl _) (Kept.refl _ _))
  | ddrRefresh c => exact (show KeptR 4194336 s (execDdrRefresh c s) from execDdrRefresh_kept (subMask_refl _) (Kept.refl _ _))
  | patrolRead c upsets => exact (show KeptR 44384713757731871763589207486774700033120374772764031638184406308126848246432562483232140132808280912257918305273125272256091652153 s (execPatrolRead c upsets s) from execPatrolRead_kept (subMask_refl _) (Kept.refl _ _))
  | ddrFenceCmd mask => exact (show KeptR 44384713757731871763589207486774700033120374772764031638184406308126848246432466702260836014754633515568721410949149101060955177017 s (execDdrFenceCmd mask s) from execDdrFenceCmd_kept (subMask_refl _) (Kept.refl _ _))
  | lgtArm w n => exact (show KeptR 1260864198284623334792929283204595641762551656654894293374345388935863096687911510847204925924485139125598248126414981 s (execLgtArm w n s) from execLgtArm_kept (subMask_refl _) (Kept.refl _ _))
  | lgtStop n => exact (show KeptR 1260864198284623334792929283204595641762551656654894293374345388935863096687911510847204925924485139125593575201996929 s (execLgtStop n s) from execLgtStop_kept (subMask_refl _) (Kept.refl _ _))
  | lgtBurstIssue lines => exact (show KeptR 44384713757733132627787492110109492962403579368405794189841061202420222591809112598594234876635257956417285824719408264357564022937 s (execLgtBurstIssue lines s) from execLgtBurstIssue_kept (subMask_refl _) (Kept.refl _ _))
  | lgtBurstResponse n k ans => exact (show KeptR 162651481578716410188287877533392837787369163708481363845290555172726339475595004699812909891865187052241837456502587577 s (execLgtBurstResponse n k ans s) from execLgtBurstResponse_kept (subMask_refl _) (Kept.refl _ _))
  | lgtFlushReadDone n ok => exact (show KeptR 1260864198284623334792929283204595641762551656654894293374345388935863096687911510847204925924485139125593575201996929 s (execLgtFlushReadDone n ok s) from execLgtFlushReadDone_kept (subMask_refl _) (Kept.refl _ _))
  | hostCompletionTimeout n k => exact (show KeptR 162651481578716410188287877533392837787369163708481363845290555172726339475595004699812909891865187052241837456502587577 s (execHostCompletionTimeout n k s) from execHostCompletionTimeout_kept (subMask_refl _) (Kept.refl _ _))
  | pckJobGo w => exact (show KeptR 1244435419040409461430445253150919866992291966869667770859525 s (execPckJobGo w s) from execPckJobGo_kept (subMask_refl _) (Kept.refl _ _))
  | packJobStart stall => exact (show KeptR 44384713757731871763589207486774700033120374772764031638184406308126849478350432162441355302688351804380774575227285809248925319193 s (execPackJobStart stall s) from execPackJobStart_kept (subMask_refl _) (Kept.refl _ _))
  | packEncoderResume p stall => exact (show KeptR 44384713757731871763589207486774700033120374772764031638184406308126848246469216592805255399914677499876240415140029833182152163353 s (execPackEncoderResume p stall s) from execPackEncoderResume_kept (subMask_refl _) (Kept.refl _ _))
  | packInputResume p stall => exact (show KeptR 44384713757731871763589207486774700033120374772764031638184406308126848246469216592805255399914677499876240415140029833182152163353 s (execPackInputResume p stall s) from execPackInputResume_kept (subMask_refl _) (Kept.refl _ _))
  | packJobEnd p => exact (show KeptR 44384713757731871763589207486774700033120374772764031638184406308126851085975034423739549053194983613706715611691474718780014919705 s (execPackJobEnd p s) from execPackJobEnd_kept (subMask_refl _) (Kept.refl _ _))
  | pckKeyDataWrite v => exact (show KeptR 65536 s (execPckKeyDataWrite v s) from execPckKeyDataWrite_kept (subMask_refl _) (Kept.refl _ _))
  | pckKeyLoad w slot => exact (show KeptR 44384376587918356619345083307102957096416090370664438769721192661557493986172084754642582421860226915839342061943036206832754425869 s (execPckKeyLoad w slot s) from execPckKeyLoad_kept (subMask_refl _) (Kept.refl _ _))
  | pckKeyErase slot => exact (show KeptR 1332314843335822992124146305075827196817724943087491329622017 s (execPckKeyErase slot s) from execPckKeyErase_kept (subMask_refl _) (Kept.refl _ _))
  | keyZeroize slot => exact (show KeptR 44384376587918356619345083307102957096416090370664438769721192661557493885738456988455690200487596144516679404305349090735277801481 s (execKeyZeroize slot s) from execKeyZeroize_kept (subMask_refl _) (Kept.refl _ _))
  | pckResPop => exact (show KeptR 1231881215569636099902773674304504534160087255976066777415681 s (execPckResPop s) from execPckResPop_kept (subMask_refl _) (Kept.refl _ _))
  | perstNDeassert => exact (show KeptR 131072 s (execPerstNDeassert s) from execPerstNDeassert_kept (subMask_refl _) (Kept.refl _ _))
  | bar2Access op => exact (show KeptR 44384713757731871763589207486774700033120374772764031638184406308126848246420176735497546956447210395008049491283872871409726390329 s (execBar2Access op s) from execBar2Access_kept (subMask_refl _) (Kept.refl _ _))
  | d3hotEntry => exact (show KeptR 393216 s (execD3hotEntry s) from execD3hotEntry_kept (subMask_refl _) (Kept.refl _ _))
  | d0Entry => exact (show KeptR 1441792 s (execD0Entry s) from execD0Entry_kept (subMask_refl _) (Kept.refl _ _))
  | laneFailed lane errs speed => exact (show KeptR 44384713757733132627787492110109492962403579368405823834425157349699319418686150150607453738272524541003202855831130894935561053149 s (execLaneFailed lane errs speed s) from execLaneFailed_kept (subMask_refl _) (Kept.refl _ _))
  | flr => exact (show KeptR 44384713757733132627787492110109492962403579368405823834425157349699319418686150150607453738272524541002893370821309549866836272093 s (execFlr s) from execFlr_kept (subMask_refl _) (Kept.refl _ _))
  | hotReset => exact (show KeptR 44384713757733132627787492110109492962403579368405823834425157349699319418686150150607453738272524541003202855831130894935561053149 s (execHotReset s) from execHotReset_kept (subMask_refl _) (Kept.refl _ _))
  | linkDown => exact (show KeptR 44384713757733132627787492110109492962403579368405823834425157349699319418686150150607453738272524541003202855831130894935561053149 s (execLinkDown s) from execLinkDown_kept (subMask_refl _) (Kept.refl _ _))
  | flrComplete => exact (show KeptR 44384713757733132627787492110109492962403579368405823834425157349699319418686150150607453738272524541001036460762381479454487585757 s (execFlrComplete s) from execFlrComplete_kept (subMask_refl _) (Kept.refl _ _))
  | doeRequest data => exact (show KeptR 618970019642690137453756417 s (execDoeRequest data s) from execDoeRequest_kept (subMask_refl _) (Kept.refl _ _))
  | bqDoorbell w r v => exact (show KeptR 44384376587918356619345083307102957096416090370664438769721192661557492653857241418819590297713921840012164594114756677712692117517 s (execBqDoorbell w r v s) from execBqDoorbell_kept (subMask_refl _) (Kept.refl _ _))
  | entryFetch => exact (show KeptR 4849870377907125638922241 s (execEntryFetch s) from execEntryFetch_kept (subMask_refl _) (Kept.refl _ _))
  | entryFetchComplete r entries => exact (show KeptR 96907682594967989436416001 s (execEntryFetchComplete r entries s) from execEntryFetchComplete_kept (subMask_refl _) (Kept.refl _ _))
  | commandStart tag list => exact (show KeptR 44384713757733132627787492110109492962403579368405794189841061202420222591809112598685651197718118865633440534740587051717026808029 s (execCommandStart tag list s) from execCommandStart_kept (subMask_refl _) (Kept.refl _ _))
  | commandComplete tag => exact (show KeptR 44384713757733132627787492110109492962403579368405794191650312596753290984513987926534442750395981254399885960673957171985322582941 s (execCommandComplete tag s) from execCommandComplete_kept (subMask_refl _) (Kept.refl _ _))
  | publicationWrite r => exact (show KeptR 9671406556917033402236929 s (execPublicationWrite r s) from execPublicationWrite_kept (subMask_refl _) (Kept.refl _ _))
  | coalExpiry r => exact (show KeptR 4587520 s (execCoalExpiry r s) from execCoalExpiry_kept (subMask_refl _) (Kept.refl _ _))
  | freezeSettled r => exact (show KeptR 930306197125320107360257 s (execFreezeSettled r s) from execFreezeSettled_kept (subMask_refl _) (Kept.refl _ _))
  | disableSettled r => exact (show KeptR 78301558652461587289079809 s (execDisableSettled r s) from execDisableSettled_kept (subMask_refl _) (Kept.refl _ _))
  | adminRingEnable w => exact (show KeptR 78311003385431999507595269 s (execAdminRingEnable w s) from execAdminRingEnable_kept (subMask_refl _) (Kept.refl _ _))
  | adminRingDisable => exact (show KeptR 44384713757731871763589207486774700033120374772764031638184406308126848246420176735557563836962755937072390852167543293013860941853 s (execAdminRingDisable s) from execAdminRingDisable_kept (subMask_refl _) (Kept.refl _ _))
  | quiesceDone => exact (show KeptR 44384376587918356619345085746184986184077966302023114357760334071366288256766570672714464034893177159996374885167586652587717967433 s (execQuiesceDone s) from execQuiesceDone_kept (subMask_refl _) (Kept.refl _ _))
  | readCmd tag => exact (show KeptR 1260864198284623334792929283204595641762551656654894293374345388935863096687911515831809910117919662514870051253297793 s (execReadCmd tag s) from execReadCmd_kept (subMask_refl _) (Kept.refl _ _))
  | writeCmd tag => exact (show KeptR 44384713757733132627787492110109492962403579368405794189841061202420222591809112598594234867963042204917548440926745051323526971641 s (execWriteCmd tag s) from execWriteCmd_kept (subMask_refl _) (Kept.refl _ _))
  | zoneAppend tag => exact (show KeptR 44384713757733132627787492110109492962403579368405823832615905955366251025981274822698645305079116611437243742524709880078121214713 s (execZoneAppend tag s) from execZoneAppend_kept (subMask_refl _) (Kept.refl _ _))
  | packedAppend tag => exact (show KeptR 162651481578716410188287877533392837787369163708481363845293394384305026563637995819171531809920601018779658344091713785 s (execPackedAppend tag s) from execPackedAppend_kept (subMask_refl _) (Kept.refl _ _))
  | parcelRead tag => exact (show KeptR 44384713757733132627787492110109492962403579368405794189841061202420225431020691285773627287958026755846330560425957277777712095897 s (execParcelRead tag s) from execParcelRead_kept (subMask_refl _) (Kept.refl _ _))
  | zoneOpen tag => exact (show KeptR 3802951800684688204490115383361 s (execZoneOpen tag s) from execZoneOpen_kept (subMask_refl _) (Kept.refl _ _))
  | zoneClose tag => exact (show KeptR 3802951800684688204490115383361 s (execZoneClose tag s) from execZoneClose_kept (subMask_refl _) (Kept.refl _ _))
  | zoneFinish tag => exact (show KeptR 3802951800684688204490115383361 s (execZoneFinish tag s) from execZoneFinish_kept (subMask_refl _) (Kept.refl _ _))
  | zoneReset tag => exact (show KeptR 161390617380431786853494948250188242145606612051826469551916209783790476470256519347317306128654334718641869463215407225 s (execZoneReset tag s) from execZoneReset_kept (subMask_refl _) (Kept.refl _ _))
  | zoneReport tag => exact (show KeptR 4718592 s (execZoneReport tag s) from execZoneReport_kept (subMask_refl _) (Kept.refl _ _))
  | flushCmd tag => exact (show KeptR 524288 s (execFlushCmd tag s) from execFlushCmd_kept (subMask_refl _) (Kept.refl _ _))
  | verify tag => exact (show KeptR 44384713757731871763589207486774700033120374772764031638184406308126848246420176735497546956447210395007430521264230181272277361177 s (execVerify tag s) from execVerify_kept (subMask_refl _) (Kept.refl _ _))
  | peerCopy tag => exact (show KeptR 44384713757733132627787492110109492962403579368405794189841061202420222591809112598594234867186775654062888039021194796361376735865 s (execPeerCopy tag s) from execPeerCopy_kept (subMask_refl _) (Kept.refl _ _))
  | abortCmd tag => exact (show KeptR 1260864198284623334792929283204595641792196240751041572471172265973415049889901309768603928645603946258679865824617409 s (execAbortCmd tag s) from execAbortCmd_kept (subMask_refl _) (Kept.refl _ _))
  | identify tag => exact (show KeptR 4718592 s (execIdentify tag s) from execIdentify_kept (subMask_refl _) (Kept.refl _ _))
  | getFeature tag => exact (show KeptR 524288 s (execGetFeature tag s) from execGetFeature_kept (subMask_refl _) (Kept.refl _ _))
  | setFeature tag => exact (show KeptR 44384713757731871763589207486774700033120374772764061292041813078387985969043413353983372208016757770802265753820430675436312858301 s (execSetFeature tag s) from execSetFeature_kept (subMask_refl _) (Kept.refl _ _))
  | setLatencyTolerance tag => exact (show KeptR 44384376587918356619345085746184986184077966302023114357760334071366288256766570672714464034893177160154831172417182901867690606153 s (execSetLatencyTolerance tag s) from execSetLatencyTolerance_kept (subMask_refl _) (Kept.refl _ _))
  | ringCreate tag => exact (show KeptR 944399509597634205319169 s (execRingCreate tag s) from execRingCreate_kept (subMask_refl _) (Kept.refl _ _))
  | ringDelete tag => exact (show KeptR 78315651964933901386645505 s (execRingDelete tag s) from execRingDelete_kept (subMask_refl _) (Kept.refl _ _))
  | ringEnable tag => exact (show KeptR 78311003385427326579507201 s (execRingEnable tag s) from execRingEnable_kept (subMask_refl _) (Kept.refl _ _))
  | ringDisable tag => exact (show KeptR 44384713757731871763589207486774700033120374772764031638184406308126848246420176735557563836962755937072390852167543293013860941853 s (execRingDisable tag s) from execRingDisable_kept (subMask_refl _) (Kept.refl _ _))
  | ringRestart tag => exact (show KeptR 939750930091059398311937 s (execRingRestart tag s) from execRingRestart_kept (subMask_refl _) (Kept.refl _ _))
  | getLog tag => exact (show KeptR 4718592 s (execGetLog tag s) from execGetLog_kept (subMask_refl _) (Kept.refl _ _))
  | logbookClear tag data => exact (show KeptR 44384376587918356619345083307102957096416090370664438769721192661557492653857241418819590297713921840012145244218093114668505104461 s (execLogbookClear tag data s) from execLogbookClear_kept (subMask_refl _) (Kept.refl _ _))
  | firmwareDownload tag data => exact (show KeptR 44384376587918356619345083307102957096416090370664438769721192661557492653857241418819590297713921840012145244218093114668513493005 s (execFirmwareDownload tag data s) from execFirmwareDownload_kept (subMask_refl _) (Kept.refl _ _))
  | firmwareActivate tag => exact (show KeptR 44384713757731871763589207486774700033120374772764031638184406308126848246420176735557563836962755937072389926583712650563399057437 s (execFirmwareActivate tag s) from execFirmwareActivate_kept (subMask_refl _) (Kept.refl _ _))
  | activationDone => exact (show KeptR 45471804982233162531096327200487102388962882286539341197245036319674739656410278871611074709702075715899654553813215452095010150706877 s (execActivationDone s) from execActivationDone_kept (subMask_refl _) (Kept.refl _ _))
  | keyLoad tag data => exact (show KeptR 44384376587918356619345083307102957096416090370664438769721192661557493885738456988455690200487596144516679404305349090735278325769 s (execKeyLoad tag data s) from execKeyLoad_kept (subMask_refl _) (Kept.refl _ _))
  | keyErase tag => exact (show KeptR 1231881215569636099902773674304504534160087255976066773745665 s (execKeyErase tag s) from execKeyErase_kept (subMask_refl _) (Kept.refl _ _))
  | setTime tag => exact (show KeptR 524292 s (execSetTime tag s) from execSetTime_kept (subMask_refl _) (Kept.refl _ _))
  | adoptMedia tag data => exact (show KeptR 44384376587918356619345083307102957096416090370664438769721192661557492653857241418819590297713921840012145244218093677618458525773 s (execAdoptMedia tag data s) from execAdoptMedia_kept (subMask_refl _) (Kept.refl _ _))
  | fabricStatus tag => exact (show KeptR 4718592 s (execFabricStatus tag s) from execFabricStatus_kept (subMask_refl _) (Kept.refl _ _))
  | tierMapInstall w => exact (show KeptR 44384713757731871763589207486774700033120374772764031638184406308126848246420176735497546956447210638396345765084275273312216678493 s (execTierMapInstall w s) from execTierMapInstall_kept (subMask_refl _) (Kept.refl _ _))
  | dispatchStep a => exact (show KeptR 44384713757731871763589207489014483757061584539930507270673832933520613677184521503475014908551967245715068876862609814835196209757 s (execDispatchStep a s) from execDispatchStep_kept (subMask_refl _) (Kept.refl _ _))
  | urgentPreempt a => exact (show KeptR 2239744742177806200336055142771445167380503561223889663385194000117696519687274621594738622189941565441 s (execUrgentPreempt a s) from execUrgentPreempt_kept (subMask_refl _) (Kept.refl _ _))
  | lockGrant => exact (show KeptR 44384713757733132627787492110109492962403579368405794189841061202420222591809112598685651197718118865633440534740587051717026808029 s (execLockGrant s) from execLockGrant_kept (subMask_refl _) (Kept.refl _ _))
  | pageAllocGrant => exact (show KeptR 44384713757733132627787492110109492962403579368405794189841061202420222591809112598685651197718118865633440534740587051717026808029 s (execPageAllocGrant s) from execPageAllocGrant_kept (subMask_refl _) (Kept.refl _ _))
  | idleTimerExpiry k => exact (show KeptR 44384376587918356619345085746184986184077966302023114357760334071366288256766570672714464034893177159996374847388654226680602705481 s (execIdleTimerExpiry k s) from execIdleTimerExpiry_kept (subMask_refl _) (Kept.refl _ _))
  | idleEnd => exact (show KeptR 44384376587918356619345085746184986184077966302023114357760334071366288256766570672714464034893177171405230249442718840150931553865 s (execIdleEnd s) from execIdleEnd_kept (subMask_refl _) (Kept.refl _ _))
  | powerStateReached => exact (show KeptR 145583408241557273686233748236948878077906957320252243713742117592159883487925441375506210419671941257217 s (execPowerStateReached s) from execPowerStateReached_kept (subMask_refl _) (Kept.refl _ _))
  | portTrainingStart p => exact (show KeptR 625275977237705358593295314089193090168501721821351082377109148260735330846513351987775221329960819495222372204545 s (execPortTrainingStart p s) from execPortTrainingStart_kept (subMask_refl _) (Kept.refl _ _))
  | portUp p width laneMap fix hello c0 c1 c2 => exact (show KeptR 44384713757733330532444103053376298191088144860243394754510666914535102434767944358933220306067072360087770336365627746694983295901 s (execPortUp p width laneMap fix hello c0 c1 c2 s) from execPortUp_kept (subMask_refl _) (Kept.refl _ _))
  | trainFail p => exact (show KeptR 44384713757733330532444103053376298191088144860243394754510666914535102434767944358933220306067072360087770336365627746694983295901 s (execTrainFail p s) from execTrainFail_kept (subMask_refl _) (Kept.refl _ _))
  | linkLost p => exact (show KeptR 44384713757733330532444103053376298191088144860243394754510666914535102434767944358933220306067072360087770336365627746694983295901 s (execLinkLost p s) from execLinkLost_kept (subMask_refl _) (Kept.refl _ _))
  | qfbRetrain w p => exact (show KeptR 44384713757733330532444103053376298191088144860243394754510666914535102434767944358933220306067072360087770336365627746694983295901 s (execQfbRetrain w p s) from execQfbRetrain_kept (subMask_refl _) (Kept.refl _ _))
  | dataFrame p chk h payload => exact (show KeptR 44384713757733172655069665742294063834738993601212689439891304883551041309916540432960145644880413539058040069950711506856463541149 s (execDataFrame p chk h payload s) from execDataFrame_kept (subMask_refl _) (Kept.refl _ _))
  | commitFrame p chk h total crc base => exact (show KeptR 44384713757733133253063469347814851555698893457598884360152034418104373361623136187269773596909333242175067476362959593228893660061 s (execCommitFrame p chk h total crc base s) from execCommitFrame_kept (subMask_refl _) (Kept.refl _ _))
  | resultFrame p chk h status retry noXfer lba => exact (show KeptR 44384713757733133253063469347814851555698893457598884360152034418104373361623136187238374147669802124791785185035070700228473234333 s (execResultFrame p chk h status retry noXfer lba s) from execResultFrame_kept (subMask_refl _) (Kept.refl _ _))
  | doneFrame p chk h => exact (show KeptR 44384713757733133253063469347814851555698893457598884360152034418104373361623136187238374147669802124791785185035070700228473234333 s (execDoneFrame p chk h s) from execDoneFrame_kept (subMask_refl _) (Kept.refl _ _))
  | cancelFrame p chk h => exact (show KeptR 44384713757733133253063469347814851555698893457598884360152034418104373361623136187238374147669802124791785185035070700228473234333 s (execCancelFrame p chk h s) from execCancelFrame_kept (subMask_refl _) (Kept.refl _ _))
  | readReq p chk h a len => exact (show KeptR 44384713757733172655069665742294063834738993601212689439891304883551041309916540432991545094119944656441322361278600399856883966877 s (execReadReq p chk h a len s) from execReadReq_kept (subMask_refl _) (Kept.refl _ _))
  | mediaReq p chk h op rlimit sectors lba => exact (show KeptR 44384713757733172655069665742294063834738993601212689439891304883551041309916540432960145644880413539058040069950711506856463541149 s (execMediaReq p chk h op rlimit sectors lba s) from execMediaReq_kept (subMask_refl _) (Kept.refl _ _))
  | hello p chk hello => exact (show KeptR 44384713757733330532444103053376298191088144860243394754510666914535102434767944358933220306067072360087770336365627746694983295901 s (execHello p chk hello s) from execHello_kept (subMask_refl _) (Kept.refl _ _))
  | heartbeat p chk => exact (show KeptR 161391242656409024558853541545502331338696780553548290902998586892938737111383421177704822355229944425563443470671020041 s (execHeartbeat p chk s) from execHeartbeat_kept (subMask_refl _) (Kept.refl _ _))
  | lsa p chk l => exact (show KeptR 44384713757735871692494118764120104948985853438758337402031331766647795768014731264901493203807295416296499686672106760873799558045 s (execLsa p chk l s) from execLsa_kept (subMask_refl _) (Kept.refl _ _))
  | credit p chk f0 f1 f2 => exact (show KeptR 161391242656409024558853541545502331338696780553548290902998586892938737111383421177704822355229944425563443470671020041 s (execCredit p chk f0 f1 f2 s) from execCredit_kept (subMask_refl _) (Kept.refl _ _))
  | mgmt p chk data => exact (show KeptR 161391242656409024558853541545502331338696780553548290902998586892938737111383421177704822355229944425563443470671020041 s (execMgmt p chk data s) from execMgmt_kept (subMask_refl _) (Kept.refl _ _))
  | helloSend p => exact (show KeptR 6291456 s (execHelloSend p s) from execHelloSend_kept (subMask_refl _) (Kept.refl _ _))
  | heartbeatSend p => exact (show KeptR 6291456 s (execHeartbeatSend p s) from execHeartbeatSend_kept (subMask_refl _) (Kept.refl _ _))
  | lsaOriginate => exact (show KeptR 44384713757733330253474820901169292049464081651218785294717591025009234912673093596451303466853423011695748512229262125749619106717 s (execLsaOriginate s) from execLsaOriginate_kept (subMask_refl _) (Kept.refl _ _))
  | lsaExpire => exact (show KeptR 44384713757733330253474820901169292049464081651218785294717591025009234912673093596451303466853423011695748512229262125749619106717 s (execLsaExpire s) from execLsaExpire_kept (subMask_refl _) (Kept.refl _ _))
  | addressAssign => exact (show KeptR 44384713757733349954477919098408898188984131723025687834587226257732568886819795719312189215458728718828875954687082529063614260125 s (execAddressAssign s) from execAddressAssign_kept (subMask_refl _) (Kept.refl _ _))
  | creditSend p => exact (show KeptR 6291456 s (execCreditSend p s) from execCreditSend_kept (subMask_refl _) (Kept.refl _ _))
  | relayTimeout p => exact (show KeptR 615656346818663737691860001564743965704370926101022604186692084441339402679643915803347910232576806887603564445697 s (execRelayTimeout p s) from execRelayTimeout_kept (subMask_refl _) (Kept.refl _ _))
  | commitRepeat => exact (show KeptR 6291456 s (execCommitRepeat s) from execCommitRepeat_kept (subMask_refl _) (Kept.refl _ _))
  | retryResend => exact (show KeptR 1260864198284623334792929283204595641762551656654894293374345388935863096687911510847204925924485139125593575201996929 s (execRetryResend s) from execRetryResend_kept (subMask_refl _) (Kept.refl _ _))
  | outcomeDrop => exact (show KeptR 1260864198284623334792929283204595641762551656654894293374345388935863096687910739565256520156317300505812095691915265 s (execOutcomeDrop s) from execOutcomeDrop_kept (subMask_refl _) (Kept.refl _ _))
  | stagingDiscard => exact (show KeptR 44384713757733132627787492110109492962403579368405794191650312596753290984513987926503043301156450137016563855074251205006105224093 s (execStagingDiscard s) from execStagingDiscard_kept (subMask_refl _) (Kept.refl _ _))
  | xferIdleAbandon => exact (show KeptR 44384713757733132627787492110109492962403579368405794191650312596753290984513987926503043301156450137016563855074251205006105224093 s (execXferIdleAbandon s) from execXferIdleAbandon_kept (subMask_refl _) (Kept.refl _ _))
  | transferRestart => exact (show KeptR 3821994601050264483591066889713930539092734709235148326790984460211835011835230200589132232492004655778024394571939969 s (execTransferRestart s) from execTransferRestart_kept (subMask_refl _) (Kept.refl _ _))
  | helmCoreFault core => exact (show KeptR 44384713757731871763589207486774700033120374772764031638184406308126848246420176735466147485429607794684086568281528341342552457225 s (execHelmCoreFault core s) from execHelmCoreFault_kept (subMask_refl _) (Kept.refl _ _))
  | helmSpareSelftest pass => exact (show KeptR 44384713757731871763589207486774700033120374772764031638184406308126848246420176735466147485429607794684086568280375419837945610249 s (execHelmSpareSelftest pass s) from execHelmSpareSelftest_kept (subMask_refl _) (Kept.refl _ _))
  | helmCheckpoint => exact (show KeptR 44384713757731871763589207486774700033120374772764031638184406308126848246420176735466147485429607794684086568281528341342552457229 s (execHelmCheckpoint s) from execHelmCheckpoint_kept (subMask_refl _) (Kept.refl _ _))
  | opSecondsPersist => exact (show KeptR 4 s (execOpSecondsPersist s) from execOpSecondsPersist_kept (subMask_refl _) (Kept.refl _ _))
  | faultRaise src x => exact (show KeptR 44384713799049328582346625210000463744272752388145601513783529764350100376439163365261318910007123392612992676314562147079377633277 s (execFaultRaise src x s) from execFaultRaise_kept (subMask_refl _) (Kept.refl _ _))
  | faultNTimerExpiry => exact (show KeptR 80695308690215893426747474125094121072803306025913234775958104891895238188026287332176417290004307232371974124148359169 s (execFaultNTimerExpiry s) from execFaultNTimerExpiry_kept (subMask_refl _) (Kept.refl _ _))
  | wchFnHold w v => exact (show KeptR 80695308690215893426747474125094121072803306025913234775958104891895238188026287332176417290004307232371974124148359169 s (execWchFnHold w v s) from execWchFnHold_kept (subMask_refl _) (Kept.refl _ _))
  | wchFnForce w v => exact (show KeptR 80695308690215893426747474125094121072803306025913234775958104891895238188026287332176417290004307232371974124148359169 s (execWchFnForce w v s) from execWchFnForce_kept (subMask_refl _) (Kept.refl _ _))
  | watchLogSwap => exact (show KeptR 8 s (execWatchLogSwap s) from execWatchLogSwap_kept (subMask_refl _) (Kept.refl _ _))
  | wchWlogPop w => exact (show KeptR 44384713757731871763589207486774700033120374772764031638184406308126848246420176735466147485429607794684086568280366412638690869257 s (execWchWlogPop w s) from execWchWlogPop_kept (subMask_refl _) (Kept.refl _ _))
  | watchSelfCheckFail k => exact (show KeptR 44384713799047869812979744921269406785168564762039324323451982513417397951070538687735606599503933447166291871254817164202650763273 s (execWatchSelfCheckFail k s) from execWatchSelfCheckFail_kept (subMask_refl _) (Kept.refl _ _))
  | watchDisagree => exact (show KeptR 44384713757731871763589207486774700033120374772764031638184406308126848246420176735466147485429607794684086568280366412638690869257 s (execWatchDisagree s) from execWatchDisagree_kept (subMask_refl _) (Kept.refl _ _))
  | watchKat => exact (show KeptR 44384713799047869812979744921269406785168564762039324323451982513417397951070538687735606599503933447166291871254817164202650763273 s (execWatchKat s) from execWatchKat_kept (subMask_refl _) (Kept.refl _ _))
  | anchorTakeover => exact (show KeptR 44384376711947046076206913943095853914347630390921795719588975922013895475609527822468041634934918684926870539849269711949485588041 s (execAnchorTakeover s) from execAnchorTakeover_kept (subMask_refl _) (Kept.refl _ _))
  | anchorHalt => exact (show KeptR 44384376670671395681311791037268382676505184932444769640501482563611555445703238947412270105972132575457125228840102470055410866697 s (execAnchorHalt s) from execAnchorHalt_kept (subMask_refl _) (Kept.refl _ _))
  | wchInjGo w site mask => exact (show KeptR 44384715048735767844008178474594164823438670756007723093757292871292589359406144886604705369254019808817995825383393879549185884173 s (execWchInjGo w site mask s) from execWchInjGo_kept (subMask_refl _) (Kept.refl _ _))
  | wchInjAuth w => exact (show KeptR 44384715048735767844008178474594164823438670756007723093757292871292589359406144886604705369254019808817995825383393879549177495565 s (execWchInjAuth w s) from execWchInjAuth_kept (subMask_refl _) (Kept.refl _ _))
  | wchInjTokenWrite w v => exact (show KeptR 8 s (execWchInjTokenWrite w v s) from execWchInjTokenWrite_kept (subMask_refl _) (Kept.refl _ _))
  | injectionExpiry => exact (show KeptR 161390617380431786853494948250188242145606612051826469551916209783790476376052574664352834580008614464743948248300912649 s (execInjectionExpiry s) from execInjectionExpiry_kept (subMask_refl _) (Kept.refl _ _))
  | logbookPersist fail => exact (show KeptR 21661481985318866090456360813617841433097164651373566993519371723551728967231450179999800047688590453885868835635965404913860681 s (execLogbookPersist fail s) from execLogbookPersist_kept (subMask_refl _) (Kept.refl _ _))
  | logFwGo w => exact (show KeptR 66565734140884875495972396780247626723907586973670971371085029306474463116302246403139385546547038464791274931909321693973222260749 s (execLogFwGo w s) from execLogFwGo_kept (subMask_refl _) (Kept.refl _ _))
  | sysGlue w mask => exact (show KeptR 44384713757731871763589207486774700033120374772764061292041813078387985969043413353983372208016752577752739675107290937801314536125 s (execSysGlue w mask s) from execSysGlue_kept (subMask_refl _) (Kept.refl _ _))
  | registerWrite w sp a be poison v => exact (show KeptR 5192298715444886556605719112715781 s (execRegisterWrite w sp a be poison v s) from execRegisterWrite_kept (subMask_refl _) (Kept.refl _ _))
  | slowWriteApply w => exact (show KeptR 5192296858534827628535306763898373 s (execSlowWriteApply w s) from execSlowWriteApply_kept (subMask_refl _) (Kept.refl _ _))
  | rcRead w a lag => exact (show KeptR 1645504557321206042154969182557350504982735865633579863419912237 s (execRcRead w a lag s) from execRcRead_kept (subMask_refl _) (Kept.refl _ _))
  | sysRefPop w => exact (show KeptR 4194308 s (execSysRefPop w s) from execSysRefPop_kept (subMask_refl _) (Kept.refl _ _))
  | sysTmrExpiry k => exact (show KeptR 140737492549637 s (execSysTmrExpiry k s) from execSysTmrExpiry_kept (subMask_refl _) (Kept.refl _ _))
  | timerCaptureEdge pin => exact (show KeptR 281474976710657 s (execTimerCaptureEdge pin s) from execTimerCaptureEdge_kept (subMask_refl _) (Kept.refl _ _))
  | ddrWriteComplete c => exact (show KeptR 44384713757731871763589207486774700033120374772764031638184406308126848246432562483232140132808280912257918305273125272256091652153 s (execDdrWriteComplete c s) from execDdrWriteComplete_kept (subMask_refl _) (Kept.refl _ _))
  | linkUp speed width reversed => exact (show KeptR 309485009821345068728975361 s (execLinkUp speed width reversed s) from execLinkUp_kept (subMask_refl _) (Kept.refl _ _))
  | injectionWindowExpiry => exact (show KeptR 8 s (execInjectionWindowExpiry s) from execInjectionWindowExpiry_kept (subMask_refl _) (Kept.refl _ _))
  | temperatureConversion temp => exact (show KeptR 709803441694928604052074031140629428079727891296209043243642772637343054798240159498233447962659731992932150006119314388217384402949 s (execTemperatureConversion temp s) from execTemperatureConversion_kept (subMask_refl _) (Kept.refl _ _))

/-- What a command that completes keeps. -/
theorem exec_next_kept {c : Instr} {s t : State} (h : exec c s = .next t) : Kept (keptMask c) s t := (exec_kept c s).keep t h

end Sys2Proof.Machine
end

