-- ==== Sys2Proof/Laws/PerInstr.lean ====
section
/-! SUPPORT. The family Wf: a command that is not well formed is one of the three whose operands carry a length, one lemma for each constructor. -/

set_option Elab.async false

namespace Sys2Proof.Laws.Wf

/-- The commands whose operands carry a length or a place that an interface bounds (R228, R250). -/
def carriesLength : Instr → Bool
  | .xbarReadBurst .. | .xbarWriteBurst .. | .cacheRequest .. => true
  | _ => false

/-- A command that is not well formed carries a length. -/
def Statement (i : Instr) : Prop := i.wf = false → carriesLength i = true

theorem powerOn : Statement (.powerOn) := nofun
theorem brownOut : Statement (.brownOut) := nofun
theorem supplyFault (rail : Fin 15) (high : Bool) : Statement (.supplyFault rail high) := nofun
theorem supplyFaultClear : Statement (.supplyFaultClear) := nofun
theorem perstNAssert (prepOk : Bool) : Statement (.perstNAssert prepOk) := nofun
theorem resetNAssert (prepOk : Bool) : Statement (.resetNAssert prepOk) := nofun
theorem sysResetCmd (w : Initiator) (v : Word) (prepOk : Bool) : Statement (.sysResetCmd w v prepOk) := nofun
theorem helmWatchdogExpiry (prepOk : Bool) : Statement (.helmWatchdogExpiry prepOk) := nofun
theorem wdogKick (w : Initiator) : Statement (.wdogKick w) := nofun
theorem resetRelease (gpio0 : Bool) (flashOk : Bool) (readable : BitVec 2) (cores : BitVec 3) : Statement (.resetRelease gpio0 flashOk readable cores) := nofun
theorem ddrTrainingDone (fail : BitVec 2) (blocks : List (BitVec 8)) : Statement (.ddrTrainingDone fail blocks) := nofun
theorem registerSpaceOpen (status : List (BitVec 8)) (words : List (BitVec 24 × BitVec 24)) : Statement (.registerSpaceOpen status words) := nofun
theorem systemAreaReadDone (domains : BitVec 4) (bad : BitVec 8) (scan : List (Nat × List (Option (List (BitVec 8))))) : Statement (.systemAreaReadDone domains bad scan) := nofun
theorem aliveSet (w : Initiator) : Statement (.aliveSet w) := nofun
theorem busGoodRestart (flashOk : Bool) (readable : BitVec 2) (cores : BitVec 3) : Statement (.busGoodRestart flashOk readable cores) := nofun
theorem bellEdge (swept : Nat) : Statement (.bellEdge swept) := nofun
theorem speedErrorClear : Statement (.speedErrorClear) := nofun
theorem collectLate : Statement (.collectLate) := nofun
theorem telemetrySnapshot : Statement (.telemetrySnapshot) := nofun
theorem telemSkip : Statement (.telemSkip) := nofun
theorem wedgeResult (h : Head) (m : WedgeMeas) : Statement (.wedgeResult h m) := nofun
theorem servoLost (h : Head) : Statement (.servoLost h) := nofun
theorem servoReacquired (h : Head) : Statement (.servoReacquired h) := nofun
theorem writeInhibitClear (h : Head) : Statement (.writeInhibitClear h) := nofun
theorem offTrackClear (h : Head) : Statement (.offTrackClear h) := nofun
theorem wedgeHandling (a : Act) : Statement (.wedgeHandling a) := nofun
theorem seqLate (a : Act) : Statement (.seqLate a) := nofun
theorem nanoWord (a : Act) : Statement (.nanoWord a) := nofun
theorem branchWord (a : Act) : Statement (.branchWord a) := nofun
theorem jumpWord (a : Act) : Statement (.jumpWord a) := nofun
theorem callWord (a : Act) : Statement (.callWord a) := nofun
theorem nopWord (a : Act) : Statement (.nopWord a) := nofun
theorem retWord (a : Act) : Statement (.retWord a) := nofun
theorem wwait (a : Act) : Statement (.wwait a) := nofun
theorem loopWord (a : Act) : Statement (.loopWord a) := nofun
theorem jumpv (a : Act) : Statement (.jumpv a) := nofun
theorem signal (a : Act) : Statement (.signal a) := nofun
theorem seqStop (a : Act) : Statement (.seqStop a) := nofun
theorem hookBudgetExhausted (a : Act) : Statement (.hookBudgetExhausted a) := nofun
theorem seqFlush (mask : BitVec 4) : Statement (.seqFlush mask) := nofun
theorem seqStep (w : Initiator) (a : Act) : Statement (.seqStep w a) := nofun
theorem gateEventFire (h : Head) (adc : List (BitVec 8 × BitVec 8)) : Statement (.gateEventFire h adc) := nofun
theorem retentionCommitStart (n : Chan) (adc : List (BitVec 8 × BitVec 8)) : Statement (.retentionCommitStart n adc) := nofun
theorem syncSearchStart (n : Chan) (adc : List (BitVec 8 × BitVec 8)) : Statement (.syncSearchStart n adc) := nofun
theorem syncWindowEnd (n : Chan) (adc : List (BitVec 8 × BitVec 8)) (bits : BitVec 72) (rescue : BitVec 40) : Statement (.syncWindowEnd n adc bits rescue) := nofun
theorem sectorEnd (n : Chan) (adc : List (BitVec 8 × BitVec 8)) : Statement (.sectorEnd n adc) := nofun
theorem thermalAsperityStart (n : Chan) (adc : List (BitVec 8 × BitVec 8)) : Statement (.thermalAsperityStart n adc) := nofun
theorem thermalAsperityEnd (n : Chan) (adc : List (BitVec 8 × BitVec 8)) : Statement (.thermalAsperityEnd n adc) := nofun
theorem lossOfLock (n : Chan) (errs : List Int) : Statement (.lossOfLock n errs) := nofun
theorem selectiveModeEnter (n : Chan) : Statement (.selectiveModeEnter n) := nofun
theorem channelLate (n : Chan) : Statement (.channelLate n) := nofun
theorem slotHoldRequest (n : Chan) (slot : Fin 8) (seq : Word) : Statement (.slotHoldRequest n slot seq) := nofun
theorem slotHoldGrant (n : Chan) : Statement (.slotHoldGrant n) := nofun
theorem coefDataWrite (w : Initiator) (n : Chan) (v : Word) : Statement (.coefDataWrite w n v) := nofun
theorem coefQueueApply (n : Chan) : Statement (.coefQueueApply n) := nofun
theorem spareSubst (w : Initiator) (a : Act) (pos : BitVec 3) : Statement (.spareSubst w a pos) := nofun
theorem spareRelease (w : Initiator) (a : Act) (pos : BitVec 3) : Statement (.spareRelease w a pos) := nofun
theorem spareShadow (w : Initiator) (a : Act) (pos : BitVec 3) : Statement (.spareShadow w a pos) := nofun
theorem spareDetach (w : Initiator) (a : Act) (pos : BitVec 3) : Statement (.spareDetach w a pos) := nofun
theorem quickDecodeStart : Statement (.quickDecodeStart) := nofun
theorem quickIterationEnd (e : Fin 32) (word : BitVec 37120) (flips : List (BitVec 18)) : Statement (.quickIterationEnd e word flips) := nofun
theorem realignTrialEnd (e : Fin 4) : Statement (.realignTrialEnd e) := nofun
theorem deepSlotLoadEnd (e : Fin 4) : Statement (.deepSlotLoadEnd e) := nofun
theorem deepOuterIterationEnd (e : Fin 4) (word : BitVec 37120) : Statement (.deepOuterIterationEnd e word) := nofun
theorem decTracePop : Statement (.decTracePop) := nofun
theorem streamSectorReady (h : Head) (tok : Word) : Statement (.streamSectorReady h tok) := nofun
theorem sectorRewrite (h : Head) (tok : Word) : Statement (.sectorRewrite h tok) := nofun
theorem paFrameEnd (a : Act) : Statement (.paFrameEnd a) := nofun
theorem paKeepalive (a : Act) : Statement (.paKeepalive a) := nofun
theorem paReadResponse (a : Act) (data : BitVec 16) (crcOk : Bool) : Statement (.paReadResponse a data crcOk) := nofun
theorem paMailboxCmd (w : Initiator) (h : Head) (addr : Byte) (data : BitVec 16) (rd : Bool) (bcast : Bool) : Statement (.paMailboxCmd w h addr data rd bcast) := nofun
theorem heaterUpdate (h : Head) (why : HeaterWhy) : Statement (.heaterUpdate h why) := nofun
theorem paFaultNFall (a : Act) : Statement (.paFaultNFall a) := nofun
theorem paFaultNRise (a : Act) : Statement (.paFaultNRise a) := nofun
theorem headConfirmTest (h : Head) (status : BitVec 8) : Statement (.headConfirmTest h status) := nofun
theorem loopComputation (x : LaneInputs) : Statement (.loopComputation x) := nofun
theorem ctlLate : Statement (.ctlLate) := nofun
theorem trimAutoClose (h : Head) : Statement (.trimAutoClose h) := nofun
theorem seekTimeout (a : Act) : Statement (.seekTimeout a) := nofun
theorem loadFail (a : Act) : Statement (.loadFail a) := nofun
theorem trimSatSet (h : Head) : Statement (.trimSatSet h) := nofun
theorem trimSatClear (h : Head) : Statement (.trimSatClear h) := nofun
theorem oscStage1 (n : LoopN) : Statement (.oscStage1 n) := nofun
theorem oscStage2 (n : LoopN) : Statement (.oscStage2 n) := nofun
theorem oscStage3 (n : LoopN) : Statement (.oscStage3 n) := nofun
theorem oscCountReset (n : LoopN) : Statement (.oscCountReset n) := nofun
theorem ctlClose (w : Initiator) (n : LoopN) : Statement (.ctlClose w n) := nofun
theorem ctlOpen (w : Initiator) (n : LoopN) : Statement (.ctlOpen w n) := nofun
theorem ctlResetOsc (w : Initiator) (n : LoopN) : Statement (.ctlResetOsc w n) := nofun
theorem ctlCoefCommit (w : Initiator) (v : Word) : Statement (.ctlCoefCommit w v) := nofun
theorem profGo (w : Initiator) (g : Fin 5) : Statement (.profGo w g) := nofun
theorem profStop (w : Initiator) (g : Fin 5) : Statement (.profStop w g) := nofun
theorem motorPwmUpdate (half : Bool) (o : ObsMeas) : Statement (.motorPwmUpdate half o) := nofun
theorem pwmLate : Statement (.pwmLate) := nofun
theorem encOfsLearned : Statement (.encOfsLearned) := nofun
theorem obsDrift : Statement (.obsDrift) := nofun
theorem microactuatorFrame : Statement (.microactuatorFrame) := nofun
theorem dacLate : Statement (.dacLate) := nofun
theorem returnWord (v : BitVec 112) : Statement (.returnWord v) := nofun
theorem maFault (h : Head) : Statement (.maFault h) := nofun
theorem motorAdcConversion (sample : Bool) (code : BitVec 12) : Statement (.motorAdcConversion sample code) := nofun
theorem busTrip : Statement (.busTrip) := nofun
theorem spStart : Statement (.spStart) := nofun
theorem spStop : Statement (.spStop) := nofun
theorem senseDone (r : SenseRes) : Statement (.senseDone r) := nofun
theorem spindleRest : Statement (.spindleRest) := nofun
theorem alignDone : Statement (.alignDone) := nofun
theorem rampEnd (r : RampRes) : Statement (.rampEnd r) := nofun
theorem catchAttemptEnd (locked : Bool) (rpm : BitVec 16) : Statement (.catchAttemptEnd locked rpm) := nofun
theorem phaseOpen : Statement (.phaseOpen) := nofun
theorem phaseShort : Statement (.phaseShort) := nofun
theorem motLoad (w : Initiator) (a : Act) : Statement (.motLoad w a) := nofun
theorem motRetract (a : Act) : Statement (.motRetract a) := nofun
theorem motTest (w : Initiator) (a : Act) : Statement (.motTest w a) := nofun
theorem vcmTestEnd (a : Act) : Statement (.vcmTestEnd a) := nofun
theorem vcmTestRepeat (a : Act) : Statement (.vcmTestRepeat a) := nofun
theorem loadOffRamp (a : Act) : Statement (.loadOffRamp a) := nofun
theorem loadTravelTimeout (a : Act) : Statement (.loadTravelTimeout a) := nofun
theorem actuatorParked (a : Act) : Statement (.actuatorParked a) := nofun
theorem retractTimeout (a : Act) : Statement (.retractTimeout a) := nofun
theorem pwmGenSelfCheckFail (g : Fin 2) : Statement (.pwmGenSelfCheckFail g) := nofun
theorem pwmGenDisagree : Statement (.pwmGenDisagree) := nofun
theorem rideThroughEnter : Statement (.rideThroughEnter) := nofun
theorem rideThroughFlashDone : Statement (.rideThroughFlashDone) := nofun
theorem rideThroughEnd : Statement (.rideThroughEnd) := nofun
theorem xbarReadBurst (port : Fin 16) (chan : Byte) (page : Fin 16384) (beat : Fin 128) (beats : Nat) (upsets : List (Nat × Nat)) : Statement (.xbarReadBurst port chan page beat beats upsets) := fun _ => rfl
theorem xbarWriteBurst (port : Fin 16) (page : Fin 16384) (beat : Fin 128) (data : List (Option Byte)) : Statement (.xbarWriteBurst port page beat data) := fun _ => rfl
theorem scrubRead (upsets : List (Nat × Nat)) : Statement (.scrubRead upsets) := nofun
theorem memRetireFrame (frame : Fin 16384) : Statement (.memRetireFrame frame) := nofun
theorem memRetireBank (bank : Fin 32) : Statement (.memRetireBank bank) := nofun
theorem migration : Statement (.migration) := nofun
theorem memAlloc (w : Initiator) (tag : BitVec 14) (count : BitVec 11) : Statement (.memAlloc w tag count) := nofun
theorem memRelease (tag : BitVec 14) : Statement (.memRelease tag) := nofun
theorem planeFence (p : Fin 2) (parity : Bool) : Statement (.planeFence p parity) := nofun
theorem elogPop : Statement (.elogPop) := nofun
theorem cacheRequest (port : Fin 16) (chan : Byte) (addr : BitVec 36) (len : Nat) (write : Option (List (Option Byte))) (stream : Bool) : Statement (.cacheRequest port chan addr len write stream) := fun _ => rfl
theorem cacheFillReturn : Statement (.cacheFillReturn) := nofun
theorem victimWritebackDone (c : Fin 2) : Statement (.victimWritebackDone c) := nofun
theorem cacheWaitResume : Statement (.cacheWaitResume) := nofun
theorem bccClean (w : Initiator) (all : Bool) : Statement (.bccClean w all) := nofun
theorem bccInvalidate (w : Initiator) (all : Bool) : Statement (.bccInvalidate w all) := nofun
theorem bccCleanInv (w : Initiator) (all : Bool) : Statement (.bccCleanInv w all) := nofun
theorem bccLockFill (w : Initiator) (all : Bool) : Statement (.bccLockFill w all) := nofun
theorem bccUnlock (w : Initiator) (all : Bool) : Statement (.bccUnlock w all) := nofun
theorem bccZero (w : Initiator) (all : Bool) : Statement (.bccZero w all) := nofun
theorem cacheDrainDone : Statement (.cacheDrainDone) := nofun
theorem ddrReadComplete (c : Fin 2) (upsets : List (Nat × Nat)) : Statement (.ddrReadComplete c upsets) := nofun
theorem ddrWriteCrcAlert (c : Fin 2) : Statement (.ddrWriteCrcAlert c) := nofun
theorem ddrRefresh (c : Fin 2) : Statement (.ddrRefresh c) := nofun
theorem patrolRead (c : Fin 2) (upsets : List (Nat × Nat)) : Statement (.patrolRead c upsets) := nofun
theorem ddrFenceCmd (mask : BitVec 2) : Statement (.ddrFenceCmd mask) := nofun
theorem lgtArm (w : Initiator) (n : Lgt) : Statement (.lgtArm w n) := nofun
theorem lgtStop (n : Lgt) : Statement (.lgtStop n) := nofun
theorem lgtBurstIssue (lines : BitVec 16) : Statement (.lgtBurstIssue lines) := nofun
theorem lgtBurstResponse (n : Lgt) (k : Fin 16) (ans : FarAns) : Statement (.lgtBurstResponse n k ans) := nofun
theorem lgtFlushReadDone (n : Lgt) (ok : Bool) : Statement (.lgtFlushReadDone n ok) := nofun
theorem hostCompletionTimeout (n : Lgt) (k : Option (Fin 16)) : Statement (.hostCompletionTimeout n k) := nofun
theorem pckJobGo (w : Initiator) : Statement (.pckJobGo w) := nofun
theorem packJobStart (stall : Bool) : Statement (.packJobStart stall) := nofun
theorem packEncoderResume (p : Fin 2) (stall : Bool) : Statement (.packEncoderResume p stall) := nofun
theorem packInputResume (p : Fin 2) (stall : Bool) : Statement (.packInputResume p stall) := nofun
theorem packJobEnd (p : Fin 2) : Statement (.packJobEnd p) := nofun
theorem pckKeyDataWrite (v : Word) : Statement (.pckKeyDataWrite v) := nofun
theorem pckKeyLoad (w : Initiator) (slot : Fin 64) : Statement (.pckKeyLoad w slot) := nofun
theorem pckKeyErase (slot : Fin 64) : Statement (.pckKeyErase slot) := nofun
theorem keyZeroize (slot : Fin 64) : Statement (.keyZeroize slot) := nofun
theorem pckResPop : Statement (.pckResPop) := nofun
theorem perstNDeassert : Statement (.perstNDeassert) := nofun
theorem bar2Access (op : Bar2Op) : Statement (.bar2Access op) := nofun
theorem d3hotEntry : Statement (.d3hotEntry) := nofun
theorem d0Entry : Statement (.d0Entry) := nofun
theorem laneFailed (lane : Fin 16) (errs : Option Nat) (speed : Fin 4) : Statement (.laneFailed lane errs speed) := nofun
theorem flr : Statement (.flr) := nofun
theorem hotReset : Statement (.hotReset) := nofun
theorem linkDown : Statement (.linkDown) := nofun
theorem flrComplete : Statement (.flrComplete) := nofun
theorem doeRequest (data : List (BitVec 32)) : Statement (.doeRequest data) := nofun
theorem bqDoorbell (w : Initiator) (r : Ring) (v : BitVec 16) : Statement (.bqDoorbell w r v) := nofun
theorem entryFetch : Statement (.entryFetch) := nofun
theorem entryFetchComplete (r : Ring) (entries : List (Option (List Byte))) : Statement (.entryFetchComplete r entries) := nofun
theorem commandStart (tag : BitVec 14) (list : Option (List (BitVec 64))) : Statement (.commandStart tag list) := nofun
theorem commandComplete (tag : BitVec 14) : Statement (.commandComplete tag) := nofun
theorem publicationWrite (r : Ring) : Statement (.publicationWrite r) := nofun
theorem coalExpiry (r : Ring) : Statement (.coalExpiry r) := nofun
theorem freezeSettled (r : Ring) : Statement (.freezeSettled r) := nofun
theorem disableSettled (r : Ring) : Statement (.disableSettled r) := nofun
theorem adminRingEnable (w : Initiator) : Statement (.adminRingEnable w) := nofun
theorem adminRingDisable : Statement (.adminRingDisable) := nofun
theorem quiesceDone : Statement (.quiesceDone) := nofun
theorem readCmd (tag : BitVec 14) : Statement (.readCmd tag) := nofun
theorem writeCmd (tag : BitVec 14) : Statement (.writeCmd tag) := nofun
theorem zoneAppend (tag : BitVec 14) : Statement (.zoneAppend tag) := nofun
theorem packedAppend (tag : BitVec 14) : Statement (.packedAppend tag) := nofun
theorem parcelRead (tag : BitVec 14) : Statement (.parcelRead tag) := nofun
theorem zoneOpen (tag : BitVec 14) : Statement (.zoneOpen tag) := nofun
theorem zoneClose (tag : BitVec 14) : Statement (.zoneClose tag) := nofun
theorem zoneFinish (tag : BitVec 14) : Statement (.zoneFinish tag) := nofun
theorem zoneReset (tag : BitVec 14) : Statement (.zoneReset tag) := nofun
theorem zoneReport (tag : BitVec 14) : Statement (.zoneReport tag) := nofun
theorem flushCmd (tag : BitVec 14) : Statement (.flushCmd tag) := nofun
theorem verify (tag : BitVec 14) : Statement (.verify tag) := nofun
theorem peerCopy (tag : BitVec 14) : Statement (.peerCopy tag) := nofun
theorem abortCmd (tag : BitVec 14) : Statement (.abortCmd tag) := nofun
theorem identify (tag : BitVec 14) : Statement (.identify tag) := nofun
theorem getFeature (tag : BitVec 14) : Statement (.getFeature tag) := nofun
theorem setFeature (tag : BitVec 14) : Statement (.setFeature tag) := nofun
theorem setLatencyTolerance (tag : BitVec 14) : Statement (.setLatencyTolerance tag) := nofun
theorem ringCreate (tag : BitVec 14) : Statement (.ringCreate tag) := nofun
theorem ringDelete (tag : BitVec 14) : Statement (.ringDelete tag) := nofun
theorem ringEnable (tag : BitVec 14) : Statement (.ringEnable tag) := nofun
theorem ringDisable (tag : BitVec 14) : Statement (.ringDisable tag) := nofun
theorem ringRestart (tag : BitVec 14) : Statement (.ringRestart tag) := nofun
theorem getLog (tag : BitVec 14) : Statement (.getLog tag) := nofun
theorem logbookClear (tag : BitVec 14) (data : Option (List (BitVec 8))) : Statement (.logbookClear tag data) := nofun
theorem firmwareDownload (tag : BitVec 14) (data : Option (List (BitVec 8))) : Statement (.firmwareDownload tag data) := nofun
theorem firmwareActivate (tag : BitVec 14) : Statement (.firmwareActivate tag) := nofun
theorem activationDone : Statement (.activationDone) := nofun
theorem keyLoad (tag : BitVec 14) (data : Option (List (BitVec 8))) : Statement (.keyLoad tag data) := nofun
theorem keyErase (tag : BitVec 14) : Statement (.keyErase tag) := nofun
theorem setTime (tag : BitVec 14) : Statement (.setTime tag) := nofun
theorem adoptMedia (tag : BitVec 14) (data : Option (List (BitVec 8))) : Statement (.adoptMedia tag data) := nofun
theorem fabricStatus (tag : BitVec 14) : Statement (.fabricStatus tag) := nofun
theorem tierMapInstall (w : Initiator) : Statement (.tierMapInstall w) := nofun
theorem dispatchStep (a : Act) : Statement (.dispatchStep a) := nofun
theorem urgentPreempt (a : Act) : Statement (.urgentPreempt a) := nofun
theorem lockGrant : Statement (.lockGrant) := nofun
theorem pageAllocGrant : Statement (.pageAllocGrant) := nofun
theorem idleTimerExpiry (k : Fin 6) : Statement (.idleTimerExpiry k) := nofun
theorem idleEnd : Statement (.idleEnd) := nofun
theorem powerStateReached : Statement (.powerStateReached) := nofun
theorem portTrainingStart (p : QPort) : Statement (.portTrainingStart p) := nofun
theorem portUp (p : QPort) (width : Fin 3) (laneMap : BitVec 16) (fix : Bool) (hello : QHello) (c0 : BitVec 8) (c1 : BitVec 8) (c2 : BitVec 8) : Statement (.portUp p width laneMap fix hello c0 c1 c2) := nofun
theorem trainFail (p : QPort) : Statement (.trainFail p) := nofun
theorem linkLost (p : QPort) : Statement (.linkLost p) := nofun
theorem qfbRetrain (w : Initiator) (p : QPort) : Statement (.qfbRetrain w p) := nofun
theorem dataFrame (p : QPort) (chk : FrameCheck) (h : QHdr) (payload : List (BitVec 8)) : Statement (.dataFrame p chk h payload) := nofun
theorem commitFrame (p : QPort) (chk : FrameCheck) (h : QHdr) (total : BitVec 32) (crc : BitVec 32) (base : BitVec 36) : Statement (.commitFrame p chk h total crc base) := nofun
theorem resultFrame (p : QPort) (chk : FrameCheck) (h : QHdr) (status : BitVec 8) (retry : Bool) (noXfer : Bool) (lba : BitVec 40) : Statement (.resultFrame p chk h status retry noXfer lba) := nofun
theorem doneFrame (p : QPort) (chk : FrameCheck) (h : QHdr) : Statement (.doneFrame p chk h) := nofun
theorem cancelFrame (p : QPort) (chk : FrameCheck) (h : QHdr) : Statement (.cancelFrame p chk h) := nofun
theorem readReq (p : QPort) (chk : FrameCheck) (h : QHdr) (a : BitVec 36) (len : BitVec 32) : Statement (.readReq p chk h a len) := nofun
theorem mediaReq (p : QPort) (chk : FrameCheck) (h : QHdr) (op : BitVec 8) (rlimit : BitVec 2) (sectors : BitVec 16) (lba : BitVec 40) : Statement (.mediaReq p chk h op rlimit sectors lba) := nofun
theorem hello (p : QPort) (chk : FrameCheck) (hello : QHello) : Statement (.hello p chk hello) := nofun
theorem heartbeat (p : QPort) (chk : FrameCheck) : Statement (.heartbeat p chk) := nofun
theorem lsa (p : QPort) (chk : FrameCheck) (l : QLsa) : Statement (.lsa p chk l) := nofun
theorem credit (p : QPort) (chk : FrameCheck) (f0 : BitVec 8) (f1 : BitVec 8) (f2 : BitVec 8) : Statement (.credit p chk f0 f1 f2) := nofun
theorem mgmt (p : QPort) (chk : FrameCheck) (data : List (BitVec 8)) : Statement (.mgmt p chk data) := nofun
theorem helloSend (p : QPort) : Statement (.helloSend p) := nofun
theorem heartbeatSend (p : QPort) : Statement (.heartbeatSend p) := nofun
theorem lsaOriginate : Statement (.lsaOriginate) := nofun
theorem lsaExpire : Statement (.lsaExpire) := nofun
theorem addressAssign : Statement (.addressAssign) := nofun
theorem creditSend (p : QPort) : Statement (.creditSend p) := nofun
theorem relayTimeout (p : QPort) : Statement (.relayTimeout p) := nofun
theorem commitRepeat : Statement (.commitRepeat) := nofun
theorem retryResend : Statement (.retryResend) := nofun
theorem outcomeDrop : Statement (.outcomeDrop) := nofun
theorem stagingDiscard : Statement (.stagingDiscard) := nofun
theorem xferIdleAbandon : Statement (.xferIdleAbandon) := nofun
theorem transferRestart : Statement (.transferRestart) := nofun
theorem helmCoreFault (core : Fin 3) : Statement (.helmCoreFault core) := nofun
theorem helmSpareSelftest (pass : Bool) : Statement (.helmSpareSelftest pass) := nofun
theorem helmCheckpoint : Statement (.helmCheckpoint) := nofun
theorem opSecondsPersist : Statement (.opSecondsPersist) := nofun
theorem faultRaise (src : Source) (x : RaiseArgs) : Statement (.faultRaise src x) := nofun
theorem faultNTimerExpiry : Statement (.faultNTimerExpiry) := nofun
theorem wchFnHold (w : Initiator) (v : Bool) : Statement (.wchFnHold w v) := nofun
theorem wchFnForce (w : Initiator) (v : Bool) : Statement (.wchFnForce w v) := nofun
theorem watchLogSwap : Statement (.watchLogSwap) := nofun
theorem wchWlogPop (w : Initiator) : Statement (.wchWlogPop w) := nofun
theorem watchSelfCheckFail (i : Fin 2) : Statement (.watchSelfCheckFail i) := nofun
theorem watchDisagree : Statement (.watchDisagree) := nofun
theorem watchKat : Statement (.watchKat) := nofun
theorem anchorTakeover : Statement (.anchorTakeover) := nofun
theorem anchorHalt : Statement (.anchorHalt) := nofun
theorem wchInjGo (w : Initiator) (site : BitVec 4) (mask : BitVec 9) : Statement (.wchInjGo w site mask) := nofun
theorem wchInjAuth (w : Initiator) : Statement (.wchInjAuth w) := nofun
theorem wchInjTokenWrite (w : Initiator) (v : Word) : Statement (.wchInjTokenWrite w v) := nofun
theorem injectionExpiry : Statement (.injectionExpiry) := nofun
theorem logbookPersist (fail : BitVec 4) : Statement (.logbookPersist fail) := nofun
theorem logFwGo (w : Initiator) : Statement (.logFwGo w) := nofun
theorem sysGlue (w : Initiator) (mask : Word) : Statement (.sysGlue w mask) := nofun
theorem registerWrite (w : Initiator) (sp : RegSpace) (a : BitVec 27) (be : BitVec 4) (poison : Bool) (v : Word) : Statement (.registerWrite w sp a be poison v) := nofun
theorem slowWriteApply (w : Initiator) : Statement (.slowWriteApply w) := nofun
theorem rcRead (w : Initiator) (a : BitVec 27) (lag : Word) : Statement (.rcRead w a lag) := nofun
theorem sysRefPop (w : Initiator) : Statement (.sysRefPop w) := nofun
theorem sysTmrExpiry (k : Fin 8) : Statement (.sysTmrExpiry k) := nofun
theorem timerCaptureEdge (pin : Fin 16) : Statement (.timerCaptureEdge pin) := nofun
theorem ddrWriteComplete (c : Fin 2) : Statement (.ddrWriteComplete c) := nofun
theorem linkUp (speed : Fin 4) (width : BitVec 5) (reversed : Bool) : Statement (.linkUp speed width reversed) := nofun
theorem injectionWindowExpiry : Statement (.injectionWindowExpiry) := nofun
theorem temperatureConversion (temp : BitVec 12) : Statement (.temperatureConversion temp) := nofun

/-- Every command meets the statement. -/
theorem all (i : Instr) : Statement i := by
  cases i <;> first | exact fun _ => rfl | exact nofun

end Sys2Proof.Laws.Wf
end

