-- ==== Sys2Proof/Tests/Slice0.lean ====
section
/-! SUPPORT. Tests: the well-formedness smoke tests, the worked examples of the spec, and for each obligation with hypotheses a state and
operands that meet them. Expected values are the spec's own figures (the chapter is named at each test) or its rules worked by hand. -/

set_option Elab.async false

namespace Sys2Proof.Machine

open Reg

/-! ### Well-formedness: one ill-formed term for each check, which the check refuses -/

theorem test_wf_read_burst : (Instr.xbarReadBurst 0 0 0 127 2 []).wf = false ∧ (Instr.xbarReadBurst 0 0 0 112 16 []).wf = true := by decide +kernel
theorem test_wf_write_burst : (Instr.xbarWriteBurst 0 0 0 (List.replicate 33 (some 1))).wf = false ∧ (Instr.xbarWriteBurst 0 0 127 (List.replicate 32 (some 1))).wf = true := by decide +kernel
theorem test_wf_cache_request : (Instr.cacheRequest 0 0 67108864 129 none false).wf = false ∧ (Instr.cacheRequest 0 0 67108863 1 none false).wf = false := by decide +kernel
/-- An ill-formed command stops, by name. -/
theorem test_ill_formed_stops : (match exec (.xbarReadBurst 0 0 0 127 2 []) State.reset with | .fault .impossibleBurst => true | _ => false) = true := by decide +kernel

/-! ### States that the tests and witnesses share -/

/-- A machine that runs: register space open, SERVICE, in the last step of a start. -/
def wOpen : State :=
  ({ State.reset with sys := { State.reset.sys with suppliesGood := true, inReset := false, regOpen := true } } : State).wrs
    [(SYS_MODE.MODE, 1), (SYS_START.STEP, 12), (SYS_START.ALIVE, 1), (BQ_LINK_STAT.UP, 1)]
/-- A machine whose supplies are good, still in internal reset. -/
def wStart : State := { State.reset with sys := { State.reset.sys with suppliesGood := true } }
/-- A start at step 8. -/
def wTrain : State := ({ State.reset with sys := { State.reset.sys with suppliesGood := true, inReset := false } } : State).wr SYS_START.STEP 8
/-- A start at step 8 with DRAM trained. -/
def wTrainDone : State := (wTrain.updDdr 0 (fun d => { d with trained := true })).updDdr 1 (fun d => { d with trained := true })
/-- A machine that runs with three Helm cores. -/
def wHelm : State := wOpen.wrs [(SYS_HELM_STAT.CORE_OK, 7), (SYS_HELM_STAT.SPARE, 2)]
/-- Sequencer 1 in a window at PC 100, with the micro word `w` there and the nano word `n` at 5. -/
def wSeq (w n : Nat) : State :=
  ({ wOpen with stores := { wOpen.stores with micro := [[(100, w)], [(100, w)]], nano := [[(5, n)], [(5, n)]] },
                seqs := wOpen.seqs.map (fun e => { e with tent := some e.lanes, started := true, lc := 3, v := [1, 2, 3, 4, 5, 6, 7, 300], stack := [40, 41] }) } : State).wrs
    [(SEQ_PC.PC 1, 100), (SEQ_STATUS.RUNNING 1, 1), (SEQ_CTRL.EN 1, 1)]
/-- The sector, the zone entry and the event of the write-path witnesses. -/
def wSec : SecWork :=
  { idx := 0, lba := 7, zone := 0, slot := 2, head := 3, st := .todo, write := true, rereads := 0, again := false, drops := 0, step := 0, encoded := false, stamp := 9,
    addr := some 8192, rewrite := true }
def wEnt : TierEntry :=
  { zone := 0, domain := 0, headMask := 8, spt := 100, baseTrack := 100, tierCount := 10, skew := 0, refPos := 3, rateClass := 0, offset := [0, 0, 0, 0, 0, 0],
    trimCentre := [0, 0, 0, 0, 0, 0], gen := 1, spareSlots := 2, capacity := 65536, formatTemp := 300 }
def wEvO : GateEv := { act := .openWrite, desc := { token := 5, lba := 7, sector := 0, write := true, trimK := 0 }, first := true, final := true, time := 100, region := 0, cw := 0 }
/-- A machine with a write in hand on head 3: its command has tag 5 and its encoded bits wait. -/
def wWr (ev : List GateEv) : State :=
  ({ wOpen with
      cmds := [{ Cmd.init 5 (.ring 1 0) [] with secs := [wSec] }],
      media := { wOpen.media with zones := [(0, { Zone.blank with entry := some wEnt, state := .implicitOpen, capacity := 65536 })] },
      wrp := { wOpen.wrp with gatesOff := false, ctlBlock := false, heads := wOpen.wrp.heads.map (fun u => { u with mode := 2, buf := [⟨5, 77⟩] }) },
      seqs := wOpen.seqs.map (fun e => { e with lanes := e.lanes.map (fun l => { l with events := ev }) }) } : State).wrs
    [(WRP_CTRL.EN 3, 1)]
/-- A machine that runs, its preamplifier ports all in the state `p`. -/
def wPa (p : PaPort) : State := { wOpen with wrp := { wOpen.wrp with ports := wOpen.wrp.ports.map (fun _ => p) } }
/-- A read sector in hand on every channel, in the state `f` of R62. -/
def wRd (f : ChFsm) : State :=
  { wOpen with
    cmds := [{ Cmd.init 5 (.ring 1 0) [] with secs := [{ wSec with write := false, st := .underway, addr := none }] }],
    chans := wOpen.chans.map (fun c => { c with fsm := f, sector := some ⟨5, 7, 0, false, 0⟩, lastFrag := true, gate := true, cur := { RSlot.empty with head := 3, state := 1 } }) }
/-- A channel in data whose loops stand at 5 Gbit/s, an asperity one sample away, and one whose reader A is in an asperity since bit 5. -/
def wTa : State :=
  ({ wRd .data with chans := (wRd .data).chans.map (fun c => { c with rate0 := 2 ^ 31 }) } : State).wrs
    [(RCH_TA_CFG.TA_EN 3, 1), (RCH_TA_CFG.TA_QUAL 3, 1), (RCH_TA_CFG.TA_THRESH 3, 50), (RCH_BLC_CFG.BLC_EN 3, 0), (RCH_CTRL.READERS 3, 3)]
def wTaA : State := { wTa with chans := wTa.chans.map (fun c => { c with taA := some 5 }) }
/-- Retention slots of every channel: the first complete with SEQ 9. -/
def wSlots : State :=
  ({ wOpen with chans := wOpen.chans.map (fun c => { c with slots := [{ RSlot.empty with seq := 9, state := 2, lba := 7, head := 3 }, RSlot.empty, RSlot.empty, RSlot.empty] }) } : State).wr RCH_RET_CFG.DEPTH 4
/-- A sector on its way through the ladder, and a machine whose engine 3 and deep engines run it. -/
def wDS : DSect :=
  { token := 5, lba := 7, head := 3, chan := 3, slot := some (0, 9), dqm := 100, sw0 := 50, syncPos := 20, bestPos := 21, rereads := 0, cls := 1, age := 4, buf := some 0,
    shifts := [], shift := 0, fromTrial := false }
def wDec (p : EPhase) (d : DSect) : State :=
  ({ wSlots with
      dec := { wSlots.dec with engines := (List.range 36).map (fun k => { (wSlots.dec.engines.getD k (wSlots.eng 0)) with job := if k = 3 ∨ k = 32 then some (d, p) else none, iter := 2, limit := 8 }),
                               bufs := some { token := 5, llrs := [], parity := [] } :: wSlots.dec.bufs.drop 1, quickMax := 9 },
      cmds := [{ Cmd.init 5 (.ring 1 0) [] with secs := [{ wSec with write := false, st := .decoding, addr := none }] }] } : State).wrs
    [(DEC_CFG.EARLY_STOP, 1), (DEC_CFG.SW_ALIGN, 500), (DEC_CFG.DEEP_MAX, 8), (DEC_CTRL.EN 3, 1), (DEC_CTRL.EN 32, 1), (DEC_CTRL.EN 4, 1)]
/-- The decoder's state `wDec`, its channel-3 slot and deep engine 0's copy of it erased from end to end, the slot held. -/
def wErased : RSlot := { RSlot.empty with seq := 9, state := 2, lba := 7, head := 3, held := true, note := { RxNote.empty with spans := [(0, 37119, 0)] } }
def wTrial (p : EPhase) (d : DSect) : State :=
  { wDec p d with
    chans := (wDec p d).chans.map (fun c => { c with slots := [wErased, RSlot.empty, RSlot.empty, RSlot.empty] }),
    dec := { (wDec p d).dec with engines := (wDec p d).dec.engines.map (fun g => { g with local1 := { desc := wErased, samples := [] } }) } }
/-- Loops whose two sets are valid, with `f` applied to every loop, and actuator 1 loaded with head 7 in LOCK. -/
def wCtl (f : CtlLoop → CtlLoop) : State :=
  ({ wOpen with ctl := { wOpen.ctl with
      loops := wOpen.ctl.loops.map f,
      coef := List.replicate 2 [(coefKey 1 0 95, 1), (coefKey 11 0 95, 1), (coefKey 28 0 95, 1)] } } : State).wrs
    [(SRV_STATUS.STATE 7, 2), (MOT_ASTATUS.STATE 1, 3), (CTL_CTRL.EN, 1), (CTL_CFG.SAFE_SET 1, 0), (CTL_CFG.SAFE_SET 11, 0), (CTL_CFG.SAFE_SET 28, 0)]
/-- A machine whose generator 1 is at bell 4 of a profile, its loop's limits 1,000 and 400. -/
def wStop : State :=
  { wCtl id with ctl := { (wCtl id).ctl with
      profs := List.replicate 5 (some ⟨0, 4096, 3, 2, 1, 4, none, false⟩),
      coef := List.replicate 2 [(coefKey 1 0 80, 900), (coefKey 1 0 81, 1000), (coefKey 1 0 82, 400), (coefKey 1 0 95, 1)] } }
/-- A cache with line 7 in way 112 (set 7, way 0), in the form `f`, and one channel of DRAM trained. -/
def wCache (f : CWay → CWay) : State :=
  ({ wOpen with dram := { wOpen.dram with ways := [(112, f { CWay.blank with tag := 0, valid := true })], ch := [{ DdrCh.init with trained := true }, { DdrCh.init with trained := true }] } } : State).wrs
    [(BCC_CTRL.EN, 1), (BCC_CTRL.LOCK_MAX, 8), (BCC_MAINT_LEN.LEN, 1), (BCC_MAINT_ADDR_LO.ADDR, (dramBase + 128 * 7) / 128), (BCC_STATUS.BUSY, 0)]
/-- A Lighter record of 100 bytes on a host address, of direction `d` and kind `k`, with 64 bytes issued and the bursts `b`. -/
def wRec (d k : Nat) (b : List LBurst) : LRec :=
  { buf := 4096 * 12000, far := 0x10000, qaddr := 0, qcls := 0, count := 100, dir := d, kind := k, mapped := false, tag := 0, paced := false, line := 0, prio := 2, ns := false,
    stream := false, cmd := none, issued := 64, bursts := b, done := [], wrote := 0, flush := false, flushed := false, bad := none, stopped := false, xfer := none, applied := false, reissue := false }
/-- A machine whose Lighter channel 3 has the records `rs`, with the host enabled for the bus. -/
def wLgt (rs : List LRec) : State :=
  ({ wOpen with lgt := { wOpen.lgt with chans := (List.range 64).map (fun n => if n = 3 then { LgtCh.init with recs := rs } else LgtCh.init) } } : State).wrs
    [(LGT_CTRL.EN 3, 1), (LGT_CFG.BURST, 8), (LGT_CFG.OUTSTANDING, 3), (LGT_CFG.AGE_LIMIT, 100), (LGT_S_COUNT.COUNT 3, 100), (LGT_S_BUF.BUF 3, 4096 * 12000), (LGT_S_FAR_LO.FAR 3, 0x10000)]
/-- A job of form `op`, firmware's, with the page maps of tags 1 and 2. -/
def wJob (op : Nat) : PJob :=
  { op := op, level := 0, enc := false, slot := 0, prio := 1, fw := true, inTag := 1, inOfs := 0, inLen := 256, outTag := 2, outOfs := 0, token := 77, restarted := false }
/-- A machine whose Pack instances are in service, the queue `q` and the job `r` on PK0. -/
def wPack (q : List PJob) (r : Option PRun) : State :=
  ({ wOpen with pack := { wOpen.pack with queue := q, runs := [r, none] },
                mem := { wOpen.mem with maps := [⟨1, [0], [⟨12000, true, false, false⟩]⟩, ⟨2, [1], [⟨12001, true, false, false⟩]⟩] } } : State).wrs
    [(PCK_CTRL.EN 0, 1), (PCK_CTRL.EN 1, 1)]
/-- An entry with opcode `op` and the given bytes, zero elsewhere. -/
def wEntry (op : Nat) (l : List (Nat × Nat)) : List Byte := (List.range 64).map (fun i => BitVec.ofNat 8 (if i = 0 then op else sparseGet 0 l i))
/-- A machine with ring 3 ENABLED with 16 entries, three of them submitted, HEAD and FETCH at 2, the host's bus master on. -/
def wRing : State :=
  ({ wOpen with link := { wOpen.link with cfgSpace := [(4, 4)] } } : State).wrs
    [(BQ_STATE.STATE 3, 2), (BQ_CFG.DEPTH_M1 3, 15), (BQ_DOORBELL.TAIL 3, 5), (BQ_INDEX.HEAD 3, 2), (BQ_INDEX.FETCH 3, 2), (BQ_CFG.DEPTH_M1 128, 15), (BQ_STATE.STATE 128, 1)]
/-- That machine with one command in hand: tag 5, entry 2 of ring 3, changed by `f`. -/
def wCmd (op : Nat) (l : List (Nat × Nat)) (f : Cmd → Cmd) : State :=
  { wRing with cmds := [f { Cmd.init 5 (.ring 3 2) (wEntry op l) with phase := .started }],
               media := { wRing.media with zones := [(0, { Zone.blank with entry := some wEnt, state := .implicitOpen, capacity := 65536, wp := 32 })], ready := [true, true, true, true] } }
/-- The same with an admin command: tag 16320, entry 0 of the admin ring. -/
def wAdm (op : Nat) (l : List (Nat × Nat)) (f : Cmd → Cmd) : State :=
  { wRing with cmds := [f { Cmd.init 16320 (.ring 128 0) (wEntry op l) with phase := .started }] }
/-- The one command of a witness. -/
def State.c0 (s : State) : Cmd := s.cmds.headD (Cmd.init 0 .destage [])
/-- A witness whose ZONE MANAGEMENT command holds the lock of zone 16, the zone in the state `st`. -/
def wZone (a : Nat) (st : ZState) : State :=
  { (wCmd 6 [(18, 16), (28, a)] (fun c => { c with todoZones := [16] })) with
    sch := { wRing.sch with locks := [⟨16, 0, 65536, .zone, 5, 0, true⟩] },
    media := { wRing.media with zones := [(16, { Zone.blank with entry := some wEnt, state := st, capacity := 65536, wp := 32, mediaWp := 32, gen := 7 })] } }
/-- A tier map entry of zone 0: domain 0, head 0, 16 sectors a track, its check computed. -/
def wTierBytes : List Byte :=
  let b : List Byte := leBytes 4 0 ++ leBytes 1 0 ++ leBytes 1 1 ++ leBytes 2 16 ++ leBytes 4 100 ++ leBytes 4 10 ++ leBytes 2 0 ++ leBytes 1 0 ++ leBytes 1 0 ++
    List.replicate 24 0 ++ leBytes 2 3 ++ leBytes 2 2 ++ leBytes 4 100 ++ leBytes 2 300 ++ List.replicate 6 0
  b ++ leBytes 4 (crc32c b).toNat
/-- A machine whose page 12000 holds that entry, with the tier registers pointing at it and rate class 0 valid. -/
def wTier : State :=
  ((({ wOpen with mem := wOpen.mem.storeList (12000 * 4096) wTierBytes } : State).wrs [(SCH_TIER_ADDR_LO.ADDR, 12000 * 64)]).setReg (rateAt 0) 0x20000000).setReg (rateAt 1) 0x80000000
/-- The `n` bits of a number, most significant bit first, and the servo bits that spell them (R154). -/
def wBits (n x : Nat) : List Bool := (List.range n).map (fun i => x.testBit (n - 1 - i))
def wCode (n x : Nat) : List Bool := ((wBits n x).map (fun b => [b, !b])).flatten
/-- The servo bits of a wedge: the mark `p` at place `k`, wedge number, track ID and parity, and the bursts N and Q. -/
def wMark (k : Int) (p w id par : Nat) (n q : Int) : WedgeMeas := ⟨k, wBits 16 p ++ wCode 10 w ++ wCode 24 id ++ wCode 4 par, n, q⟩
/-- An outbound transfer 9 of class 1 to address 6, in the phase `ph`, for the work `w`. -/
def wXout (w : XWork) (ph : XPhase) : XOut :=
  { xid := 9, work := w, dst := 6, cls := 1, phase := ph, data := [1, 2], total := 0, last := 0, retryFrom := some 0, retries := 0, refused := 0x16, req := none }
/-- An inbound transfer 9 of class 1 from address 6, asking `a`. -/
def wXin (a : XAsk) : XIn := { xid := 9, src := 6, cls := 1, ask := a, data := [1, 2], base := none, tag := none, last := 0, committed := false }
/-- The header of a frame from 6 to 5 of class 1. -/
def wHdr : QHdr := { cls := 1, ttl := 16, dst := 5, src := 6, seq := 0, xid := 9, ofs := 2 }
/-- A machine whose four Quay ports are in STATE `st`, at address 5, with a route to 6 on port 1, changed by `f`. -/
def wQuay (st : Nat) (f : QfbU → QfbU) : State :=
  ({ wCmd 1 [] id with
      qfb := f { wOpen.qfb with
        ports := (List.range 4).map (fun i => { QPortU.init with nbr := some (100 + i, 7), credits := [8, 8, 8], freed := [1, 0, 300], everUp := true, fails := [0, 0] }),
        routes := [(6, ⟨1, 2, 1⟩)] },
      sys := { wOpen.sys with time := 10 ^ 13 } } : State).wrs
    [(QFB_PSTATUS.STATE 0, st), (QFB_PSTATUS.STATE 1, st), (QFB_PSTATUS.STATE 2, 1), (QFB_PSTATUS.STATE 3, st), (QFB_ADDR.ADDR, 5), (QFB_ADDR.VALID, 1), (QFB_ADDR.ASSIGNED, 1),
     (QFB_ALLOW.MASK 0, 64)]

/-! ### Worked examples of the spec -/

/-- Chapter 02: a sector that starts 21,681 bits before the end of its data region has a first fragment of 21,376 bits, the rest the next. -/
theorem test_first_fragment : firstFragment 200 24 21681 = 21376 := by decide +kernel
/-- Chapter 02 (R526): with ACT0, ACT2 and ACT3 present, zone 1 lies in ACT2 and zone 2 in ACT3. -/
theorem test_zone_domain : let c := { launchCfg with actuators := 0b1101 }; (zoneDomain c 1, zoneDomain c 2, zoneDomain c 3) = (2, 3, 0) := by decide +kernel
/-- Chapter 16: zone 70 of the launch profile lies in domain 2 as local zone 17, is sequential and starts at LBA 4,587,520. -/
theorem test_zone_seventy : zoneDomain launchCfg 70 = 2 ∧ zoneLocal launchCfg 70 = 17 ∧ zoneConv launchCfg 70 = false ∧ 70 * zoneSectors launchCfg = 4587520 := by decide +kernel
/-- Chapter 03 (R70): with 28 channels in two-reader mode the retention store is 2,356 pages at DEPTH 4 and 4,711 at DEPTH 8. -/
theorem test_retention_store : State.reset.retSize 4 = 2356 ∧ State.reset.retSize 8 = 4711 := by decide +kernel
/-- Chapter 08 (R178): mac(KP, 552) with KP = 26,414,049 at shift 31 is 7. -/
theorem test_mac : mac (26414049, 31) 552 = 7 := by decide +kernel
/-- Chapter 08 (R185): 60,000 tracks under 120, 2 and 0.25 tracks per bell^k: tj 8, ta 52, tv 432. -/
theorem test_profile_plan : planProfile 245760000 (some 491520) 8192 1024 = (8, 52, 432) := by decide +kernel
/-- Chapter 08: after 68 bells that profile has covered 4,080 tracks, and its acceleration is back at zero. -/
theorem test_profile_cruise : ({ tj := 8, ta := 52, tv := 432, start := 0, dest := 245760000, t := 0, run := none, loose := false } : Profile).eval 68 = (4080 * 4096, 0) := by decide +kernel
/-- Chapter 10 (R229): the byte 0xB4 has the check bits 0b01001; read as 0x94 it comes back corrected, with syndrome 10 and parity 1. -/
theorem test_check_code : checkBits 0xB4 = 0b01001 ∧ eccRead 0x94 0b01001 = (0xB4, .corrected, 26) := by decide +kernel
/-- Chapter 14 (R317): a ×16 link that loses lane 5 comes back at ×8 reversed. -/
theorem test_link_width : widthOf (2 ^ 5) 16 = some (8, true) ∧ widthForward (2 ^ 5) 8 = false := by decide +kernel
/-- Chapter 17 (R397): timers of 10 ms, 2 s, 60 s, 600 s and none, with a tolerance of 5,000,000 µs: P3 is the deepest state allowed. -/
theorem test_deepest_power_state :
    (let s := wOpen.wrs [(SCH_IDLE_LO.IDLE, 10 + 20 * 2 ^ 12 + 60 * 2 ^ 24), (SCH_IDLE_HI.IDLE, 600 * 2 ^ 4), (SCH_LAT_TOL.TOL, 5000000)]; s.deepestAllowed = 3) := by decide +kernel
/-- Chapter 21 (R494): a write of 1 to 0x0505_0884 clears NO_SYNC of RCH_5_STATUS and leaves PRIMARY_MISS. -/
theorem test_bit_alias :
    (let s := wOpen.wrs [(RCH_STATUS.NO_SYNC 5, 1), (RCH_STATUS.PRIMARY_MISS 5, 1)]
     let t := s.barWrite 0 0x5050884 1
     t.on (RCH_STATUS.NO_SYNC 5) = false ∧ t.on (RCH_STATUS.PRIMARY_MISS 5) = true ∧ s.on (RCH_STATUS.NO_SYNC 5) = true) := by decide +kernel
/-- Chapter 20 (R466): after 63 items, 8 CORRECTED and 2 DEFERRED ones are dropped: the marker has SOURCE 10, CLASS 0, KIND 2, DETAIL 3. -/
theorem test_gap_marker :
    (let s := (List.range 73).foldl (fun t n => t.wlogItem 5 (if (60 ≤ n ∧ n < 63) ∨ 71 ≤ n then 1 else 0) n) wOpen
     s.watch.wBank.length = 63 ∧ s.watch.gap.map (fun g => (g.source, g.cls, g.kind, g.detail)) = some (10, 0, 2, 3) ∧
     (sortBank s.watch.wBank).map (fun g => g.cls) = List.replicate 3 1 ++ List.replicate 60 0) := by decide +kernel
/-- Chapter 07 (R157): with SKEW 212 ns, a mark at −1,030 ns and the reference's at −1,236 ns the skew becomes 211.91 ns, read as 331 ticks. -/
theorem test_skew_update :
    (let s := (wOpen.updSrv 14 (fun u => { u with skew := 5300 * 1024 })).wr SRV_BT_CFG.SKEW_SHIFT 6
     let t := s.skewUpdate 14 (-25750) (-30900)
     t.skewOf 14 = 5297 ∧ t.rdS (SRV_SKEW.SKEW 14) = 331) := by decide +kernel
/-- The check value of CRC-32C over the nine ASCII digits, a published property of the polynomial and seed that R31 names. -/
theorem test_crc32c : crc32c [0x31, 0x32, 0x33, 0x34, 0x35, 0x36, 0x37, 0x38, 0x39] = 0xE3069283#32 := by decide +kernel

/-! ### One step -/

/-- An empty queue idles. -/
theorem test_idle : step State.reset = .next State.reset := rfl
/-- The front command runs and leaves the queue. -/
theorem test_front : (match step { State.reset with pending := [.opSecondsPersist, .brownOut] } with | .next t => t.pending | _ => []) = [.brownOut] := by decide +kernel


/-! ### States that meet the hypotheses of the obligations -/

/-- StepRunsFrontCommand: a state and operands that meet the hypotheses of each clause. -/
theorem test_witness_step_runs_front_command :
    (({ State.reset with pending := [.powerOn, .brownOut] } : State).pending = [.powerOn, .brownOut]) ∧
    (State.reset.pending = []) := by
  refine ⟨?_, ?_⟩ <;> decide +kernel

/-- QueueFirstInFirstOut: a state and operands that meet the hypotheses. -/
theorem test_witness_queue_first_in_first_out :
    (({ State.reset with pending := [.powerOn, .brownOut] } : State).pending = [.powerOn, .brownOut] ∧ isNext (step { State.reset with pending := [.powerOn, .brownOut] }) = true) := by decide +kernel

/-- ResetState: a state and operands that meet the hypotheses of each clause. -/
theorem test_witness_reset_state :
    (State.reset.pending = [] ∧ State.reset.sys.inReset = true ∧ State.reset.sys.suppliesGood = false ∧ State.reset.mode = .bringUp ∧ State.reset.watch.fences = []) ∧
    (State.reset.rd SCH_LAT_TOL.TOL = 0xFFFFFFFF ∧ State.reset.rd QFB_TIMER_CFG.HB_PERIOD = 10 ∧ State.reset.rd QFB_TIMER_CFG.LOSS_TIME = 100 ∧ State.reset.rd QFB_TIMER_CFG.ROUTE_QUIET = 20 ∧ State.reset.rd QFB_TIMER_CFG.RELAY_MAX = 50 ∧ State.reset.rd QFB_XFER_CFG.XFER_RETRY = 3 ∧ State.reset.rd QFB_XFER_CFG.XFER_IDLE = 1 ∧ State.reset.rd QFB_XFER_CFG.STAGE_HOLD = 10 ∧ State.reset.rd QFB_XFER_CFG.RECORD_HOLD = 60 ∧ (∀ p : QPort, State.reset.rd (QFB_PSTATUS.STATE p) = 1) ∧ State.reset.ringState 128 = 1 ∧ State.reset.ringState 5 = 0) := by
  refine ⟨?_, ?_⟩ <;> decide +kernel

/-- CanonicalAtReset: a state and operands that meet the hypotheses. -/
theorem test_witness_canonical_at_reset :
    (State.reset.canonical = true) := by decide +kernel

/-- CanonicalKeptByEveryStep: a state and operands that meet the hypotheses. -/
theorem test_witness_canonical_kept_by_every_step :
    (({ State.reset with pending := [.powerOn] } : State).canonical = true ∧ isNext (step { State.reset with pending := [.powerOn] }) = true) := by decide +kernel

/-- FusesOnlyRise: a state and operands that meet the hypotheses. -/
theorem test_witness_fuses_only_rise :
    (isNext (step { State.reset with pending := [.powerOn] }) = true) := by decide +kernel

/-- FencesLastUntilAStart: a state and operands that meet the hypotheses. -/
theorem test_witness_fences_last_until_a_start :
    ((let s := { wOpen with pending := [.opSecondsPersist], watch := { wOpen.watch with fences := [.quay 1] } }; s.pending = [.opSecondsPersist] ∧ startsAnew .opSecondsPersist = false ∧ isNext (step s) = true ∧ s.isFenced (.quay 1) = true)) := by decide +kernel

/-- EveryCommandCompletes: a state and operands that meet the hypotheses of each clause. -/
theorem test_witness_every_command_completes :
    (Instr.wf .powerOn = true) ∧
    (Instr.wf (.xbarReadBurst 0 0 0 127 2 []) = false) ∧
    (State.reset.queueWf = true) := by
  refine ⟨?_, ?_, ?_⟩ <;> decide +kernel

/-- PartsFrame: a state and operands that meet the hypotheses. -/
theorem test_witness_parts_frame :
    (isNext (exec .powerOn State.reset) = true ∧ Part.mem ∉ Instr.parts (.heartbeat 0 .good)) := by decide +kernel

/-- RegistersFrame: a state and operands that meet the hypotheses. -/
theorem test_witness_registers_frame :
    (Instr.anyRegister (.heartbeat 0 .good) = false ∧ isNext (exec .brownOut State.reset) = true ∧ (Instr.arrays .supplyFaultClear) = []) := by decide +kernel

/-- BufferWritesOnlyEnabledBytes: a state and operands that meet the hypotheses of each clause. -/
theorem test_witness_buffer_writes_only_enabled_bytes :
    ((let s := { wOpen with mem := { wOpen.mem with bytes := [(49152127, 7), (49152100, 9)] } }; (List.replicate 64 (some (3 : Byte))).length % 32 = 0 ∧ burstFits 2 2 = true ∧ (s.pageInfo 12000).retired = false ∧ s.mayAccess 11 12000 true = true ∧ s.watch.armed = none)) ∧
    ((let s := wOpen; s.on BQ_LINK_STAT.UP = true ∧ s.sys.regOpen = true ∧ s.link.resetting = false ∧ s.link.d3hot = false ∧ s.running = true ∧ s.watch.armed = none ∧ (4096 * 12000 + 4090 : Nat) < dramBase ∧ (s.pageInfo 12000).retired = false ∧ s.mayAccess 11 12000 true = true)) := by
  refine ⟨?_, ?_⟩ <;> decide +kernel

/-- ByteCheckCode: a state and operands that meet the hypotheses of each clause. -/
theorem test_witness_byte_check_code :
    (∀ d : Byte, (∀ i : Fin 4, (checkBits d).testBit i.val = ((List.range 8).filter (fun k => ([0x5B, 0x6D, 0x8E, 0xF0].getD i.val 0 : Nat).testBit k)).foldl (fun x k => x != d.getLsbD k) false) ∧ (parityOf d.toNat 8 ^^ parityOf (checkBits d) 5) = false ∧ checkBits d < 32) ∧
    ((fun (d : Byte) (c : BitVec 5) (x : Nat) => ((x = (checkBits d ^^^ c.toNat) % 16))) 0x94 9 10) ∧
    ((fun (d : Byte) (c : BitVec 5) (x : Nat) => ((x = (checkBits d ^^^ c.toNat) % 16))) 0x94 0 ((checkBits 0x94 ^^^ 0) % 16)) ∧
    ((fun (port : Fin 16) (page : Fin 16384) (beat : Fin 128) (data : List (Option Byte)) (b : Byte) (i : Nat) (s : State) => ((data.length % 32 = 0) ∧ (burstFits beat (data.length / 32) = true) ∧ ((s.pageInfo page).retired = false) ∧ (s.mayAccess port page true = true) ∧ (s.watch.armed = none) ∧ (data.getD i none = some b))) 11 12000 2 (List.replicate 31 none ++ [some 5]) 5 31 { wOpen with mem := { wOpen.mem with bytes := [(49152127, 7), (49152100, 9)], flips := [(49152095, 3)] } }) ∧
    ((let s := wOpen; burstFits 2 2 = true ∧ (s.pageInfo 12000).retired = false ∧ s.mayAccess 11 12000 false = true ∧ s.watch.armed = none)) := by
  refine ⟨?_, ?_, ?_, ?_, ?_⟩ <;> decide +kernel

/-- OwnedHeadRegisters: a state and operands that meet the hypotheses of each clause. -/
theorem test_witness_owned_head_registers :
    ((let s := wPa PaPort.init; s.mayWrite .host = true ∧ s.headPresent 7 = true ∧ s.mode ≠ .factory ∧ (3 : Byte) ∈ [(3 : Byte), 4, 5])) ∧
    ((fun (w : Initiator) (h : Head) (addr : Byte) (data : BitVec 16) (rd bcast : Bool) (s : State) => ((s.mayWrite w = true) ∧ (s.headPresent h = true) ∧ ((rd && bcast) = false) ∧ ((rd = true ∨ s.mode = .factory ∨ addr ∉ [3, 4, 5])) ∧ (s.wrp.ports.length = 4))) .host 7 8 0x55 false true (wPa PaPort.init)) ∧
    ((fun (w : Initiator) (h : Head) (addr : Byte) (data : BitVec 16) (rd bcast : Bool) (s : State) => ((s.mayWrite w = true) ∧ (s.headPresent h = true) ∧ ((rd && bcast) = false) ∧ ((rd = true ∨ s.mode = .factory ∨ addr ∉ [3, 4, 5])) ∧ (s.wrp.ports.length = 4))) .host 7 3 0x55 true false (wPa { PaPort.init with inFlight := some (paWrite 3 3 2) })) ∧
    ((fun (w : Initiator) (h : Head) (addr : Byte) (data : BitVec 16) (rd bcast : Bool) (s : State) => ((s.mayWrite w = true) ∧ (s.headPresent h = true) ∧ ((rd && bcast) = false) ∧ ((rd = true ∨ s.mode = .factory ∨ addr ∉ [3, 4, 5])) ∧ (s.wrp.ports.length = 4))) .helm 7 3 2 false false ((wPa { PaPort.init with modeQ := [(2, 1)] }).wr SYS_MODE.MODE 4)) := by
  refine ⟨?_, ?_, ?_, ?_⟩ <;> decide +kernel

/-- AllowedPowerStates: a state and operands that meet the hypotheses of each clause. -/
theorem test_witness_allowed_power_states :
    ((fun (tag : BitVec 14) (c : Cmd) (s : State) => ((s.atWork tag.toNat 0x83 c = true) ∧ (c.status = 0) ∧ (c.stage = 0))) 16320 (wAdm 0x83 [(33, 9)] id).c0 (wAdm 0x83 [(33, 9)] id)) ∧
    ((fun (w : Initiator) (prep : Bool) (s : State) => ((s.sys.inReset = false))) .helm true ((({ wOpen with sys := { wOpen.sys with time := 10 ^ 12 } } : State).wr SYS_WDOG_CFG.EN 1).wr SCH_LAT_TOL.TOL 9)) ∧
    ((fun (w : Initiator) (prep : Bool) (s : State) => ((s.sys.inReset = false))) .host false ((({ wOpen with sys := { wOpen.sys with time := 10 ^ 12 } } : State).wr SYS_WDOG_CFG.EN 1).wr SCH_LAT_TOL.TOL 9)) ∧
    ((fun (f : Bool) (r : BitVec 2) (k : BitVec 3) (s : State) => ((s.sys.busHold = true) ∧ (s.sys.inReset = false))) true 3 7 (({ wOpen with sys := { wOpen.sys with busHold := true } } : State).wr SCH_LAT_TOL.TOL 9)) ∧
    ((fun (k : Fin 6) (s : State) => ((s.powerAllowed k.val = false))) 3 (wOpen.wr SCH_LAT_TOL.TOL 7)) := by
  refine ⟨?_, ?_, ?_, ?_, ?_⟩ <;> decide +kernel

/-- TwiariStoreReads: a state and operands that meet the hypotheses of each clause. -/
theorem test_witness_twiari_store_reads :
    ((fun (j : Fin 4) (lag : Word) (s : State) => ((s.mode ≠ .halted) ∧ (s.postQ .helm = []) ∧ (s.sys.latches = []))) 1 0 ((wSeq 0x123456789ABCDEF 3).wrs [(SEQ_STORE_ADDR.ADDR, 100)])) ∧
    ((fun (j : Fin 4) (lag : Word) (s : State) => ((s.mode ≠ .halted) ∧ (s.postQ .helm = []) ∧ (s.sys.latches = []))) 1 0 ((wSeq 0x123456789ABCDEF 3).wrs [(SEQ_STORE_ADDR.ADDR, 100), (SYS_MODE.MODE, 4)])) ∧
    ((fun (j : Fin 4) (lag : Word) (s : State) => ((s.mode ≠ .halted) ∧ (s.postQ .helm = []) ∧ (s.sys.latches = []))) 0 0 (({ wOpen with stores := { wOpen.stores with nano := [[(800, 5)], [(800, 6)]] } } : State).wrs [(SEQ_STORE_ADDR.ADDR, 800), (SEQ_STORE_ADDR.STORE, 1), (SEQ_STORE_ADDR.COPY, 1)])) := by
  refine ⟨?_, ?_, ?_⟩ <;> decide +kernel

/-- ColdStart: a state and operands that meet the hypotheses. -/
theorem test_witness_cold_start :
    (State.reset.sys.suppliesGood = false) := by decide +kernel

/-- WarmStartSources: a state and operands that meet the hypotheses of each clause. -/
theorem test_witness_warm_start_sources :
    (({ State.reset with sys := { State.reset.sys with inReset := false } } : State).sys.inReset = false) ∧
    ((wOpen.canReach .helm = true ∧ wOpen.sys.inReset = false)) ∧
    ((fun (s : State) => ((s.sys.suppliesGood = false))) State.reset) ∧
    ((fun (prep : Bool) (s : State) => ((s.on SYS_WDOG_CFG.EN = true) ∧ (s.sys.inReset = false) ∧ (s.sys.wdogFrom + 25000000 * s.rd SYS_WDOG_CFG.PERIOD ≤ s.sys.time))) true ((({ wOpen with sys := { wOpen.sys with time := 10 ^ 12 } } : State).wr SYS_WDOG_CFG.EN 1).wr SYS_MODE.MODE 5)) ∧
    ((fun (prep : Bool) (s : State) => ((s.on SYS_WDOG_CFG.EN = true) ∧ (s.sys.inReset = false) ∧ (s.sys.wdogFrom + 25000000 * s.rd SYS_WDOG_CFG.PERIOD ≤ s.sys.time))) true (({ wOpen with sys := { wOpen.sys with time := 10 ^ 12 } } : State).wr SYS_WDOG_CFG.EN 1)) ∧
    (((wOpen.wr SYS_WDOG_CFG.EN 1).on SYS_WDOG_CFG.EN = true ∧ wOpen.sys.inReset = false ∧ wOpen.sys.wdogFrom + 25000000 * (wOpen.wr SYS_WDOG_CFG.EN 1).rd SYS_WDOG_CFG.PERIOD ≤ ({ wOpen with sys := { wOpen.sys with time := 10 ^ 12 } } : State).sys.time)) := by
  refine ⟨?_, ?_, ?_, ?_, ?_, ?_⟩ <;> decide +kernel

/-- StartSteps: a state and operands that meet the hypotheses of each clause. -/
theorem test_witness_start_steps :
    ((fun (gpio0 flashOk : Bool) (readable : BitVec 2) (cores : BitVec 3) (s : State) => ((s.sys.inReset = true) ∧ (s.sys.suppliesGood = true))) true true 0 0 wStart) ∧
    ((fun (gpio0 flashOk : Bool) (readable : BitVec 2) (cores : BitVec 3) (s : State) => ((s.sys.inReset = true) ∧ (s.sys.suppliesGood = true))) false false 0 0 { wStart with sys := { wStart.sys with busHold := true } }) ∧
    ((fun (flashOk : Bool) (readable : BitVec 2) (cores : BitVec 3) (s : State) => ((s.sys.busHold = true))) true 0 0 { wOpen with sys := { wOpen.sys with busHold := true } }) ∧
    ((fun (flashOk : Bool) (readable : BitVec 2) (cores : BitVec 3) (s : State) => ((s.sys.busHold = true))) true 0 0 { wStart with sys := { wStart.sys with busHold := true } }) ∧
    ((fun (blocks : List (BitVec 8)) (s : State) => ((s.sys.inReset = false) ∧ (s.rd SYS_START.STEP = 8) ∧ (s.sys.regOpen = false) ∧ (s.sys.startKind ≠ .warm) ∧ (s.dram.ch.length = 2) ∧ ((∃ c, c < 2 ∧ s.dramPresent c = true ∧ (s.ddr c).trained = false ∧ s.ddrFenced c = false)))) [] wTrain) ∧
    ((fun (status : List (BitVec 8)) (words : List (BitVec 24 × BitVec 24)) (s : State) => ((s.sys.inReset = false) ∧ (s.sys.regOpen = false) ∧ (s.sys.busHold = false) ∧ (s.mode = .bringUp) ∧ (s.rd SYS_START.STEP = 8) ∧ ((∀ c, c < 2 → s.dramPresent c = true → (s.ddr c).trained = true ∨ s.ddrFenced c = true)))) [] [] wTrainDone) ∧
    ((fun (status : List (BitVec 8)) (words : List (BitVec 24 × BitVec 24)) (s : State) => ((s.sys.inReset = false) ∧ (s.sys.regOpen = false) ∧ (s.sys.busHold = false) ∧ (s.mode = .bringUp) ∧ (s.rd SYS_START.STEP = 8) ∧ ((∀ c, c < 2 → s.dramPresent c = true → (s.ddr c).trained = true ∨ s.ddrFenced c = true)))) [2] [] (wTrainDone.wr SYS_MODE.RESCUE 1)) ∧
    ((fun (domains : BitVec 4) (bad : BitVec 8) (scan : List (Nat × List (Option (List (BitVec 8))))) (s : State) => ((s.running = true) ∧ (s.on SYS_MODE.RESCUE = false) ∧ ((∃ d, d < 4 ∧ s.actPresent d = true ∧ domains.getLsbD d = true ∧ s.media.ready.getD d false = false ∧ s.actState d ≠ 5)))) 1 0 [] wOpen) ∧
    ((fun (s : State) => ((s.mode ≠ .halted) ∧ (s.on SYS_START.ALIVE = false))) (wOpen.clr SYS_START.ALIVE)) := by
  refine ⟨?_, ?_, ?_, ?_, ?_, ?_, ?_, ?_, ?_⟩ <;> decide +kernel

/-- RideThroughCommands: a state and operands that meet the hypotheses of each clause. -/
theorem test_witness_ride_through_commands :
    ((fun (s : State) => ((s.running = true) ∧ (s.on WCH_INST.ANCHOR = false))) wOpen) ∧
    ((fun (s : State) => ((s.mode = .bringUp) ∧ (s.sys.regOpen = false))) wStart) ∧
    ((fun (s : State) => ((s.mode = .rideThrough) ∧ (s.mot.rideFlash = false))) (wOpen.wr SYS_MODE.MODE 3)) ∧
    ((fun (s : State) => ((s.mode = .rideThrough) ∧ (s.allParked = true) ∧ (s.mot.rideFlash = true))) (({ wOpen with mot := { wOpen.mot with rideFlash := true } } : State).wr SYS_MODE.MODE 3)) := by
  refine ⟨?_, ?_, ?_, ?_⟩ <;> decide +kernel

/-- HelmCommands: a state and operands that meet the hypotheses of each clause. -/
theorem test_witness_helm_commands :
    ((fun (core : Fin 3) (s : State) => ((s.helmRuns = true) ∧ (s.coreOk core.val = true) ∧ (core.val ≠ s.rd SYS_HELM_STAT.SPARE) ∧ (s.rd SYS_HELM_STAT.SPARE ≠ 3))) 0 wHelm) ∧
    ((fun (s : State) => ((s.helmRuns = true) ∧ (s.mode ≠ .rideThrough) ∧ (s.rd SYS_HELM_STAT.SPARE ≠ 3))) wHelm) ∧
    ((fun (s : State) => ((s.helmRuns = true) ∧ (s.watch.armed = none))) wHelm) ∧
    ((fun (s : State) => ((s.mode ≠ .halted))) wOpen) ∧
    ((fun (s : State) => ((s.mayWrite .host = true))) wOpen) ∧
    ((fun (s : State) => ((s.sys.inReset = false))) wOpen) := by
  refine ⟨?_, ?_, ?_, ?_, ?_, ?_⟩ <;> decide +kernel

/-- RegisterAccess: a state and operands that meet the hypotheses of each clause. -/
theorem test_witness_register_access :
    ((fun (w : Initiator) (a : BitVec 27) (v : Word) (s : State) (d : RegDesc) (i : Nat) => ((s.canReach w = true) ∧ (s.mode ≠ .halted) ∧ (a.toNat % 4 = 0) ∧ (a.toNat < 0x200000) ∧ (regDesc? a.toNat = some (d, i)) ∧ (d.dom ≠ .slow) ∧ (s.present d.kind i = true) ∧ (ownRow a.toNat i = false) ∧ (s.postQ w = []) ∧ (s.writeRefused (initCode w) a.toNat i d.fields true v = none))) .helm (BitVec.ofNat 27 SYS_INT_EN) 0x15 wOpen ((regDesc? SYS_INT_EN).get rfl).1 0) ∧
    ((fun (w : Initiator) (a : BitVec 27) (v : Word) (s : State) (d : RegDesc) (i : Nat) => ((s.canReach w = true) ∧ (s.mode ≠ .halted) ∧ (a.toNat % 4 = 0) ∧ (a.toNat < 0x200000) ∧ (regDesc? a.toNat = some (d, i)) ∧ (d.dom ≠ .slow) ∧ (s.present d.kind i = true) ∧ (ownRow a.toNat i = false) ∧ (s.postQ w = []) ∧ (s.writeRefused (initCode w) a.toNat i d.fields true v = none))) .host (BitVec.ofNat 27 BCC_MAINT_ADDR_LO) 0x12345678 wOpen ((regDesc? BCC_MAINT_ADDR_LO).get rfl).1 0) ∧
    ((fun (w : Initiator) (a : BitVec 27) (v : Word) (s : State) (d : RegDesc) (i : Nat) => ((s.canReach w = true) ∧ (s.mode ≠ .halted) ∧ (a.toNat % 4 = 0) ∧ (a.toNat < 0x200000) ∧ (regDesc? a.toNat = some (d, i)) ∧ (d.dom ≠ .slow) ∧ (s.present d.kind i = true) ∧ (ownRow a.toNat i = false) ∧ (s.postQ w = []) ∧ (s.writeRefused (initCode w) a.toNat i d.fields true v = none))) .helm (BitVec.ofNat 27 (SYS_TMR_CFG 3)) 0x0 wOpen ((regDesc? (SYS_TMR_CFG 3)).get rfl).1 3) ∧
    ((fun (be : BitVec 4) (v : Word) (s : State) => ((be.toNat % 4 = 3) ∧ (s.on BQ_LINK_STAT.UP = true) ∧ (s.sys.regOpen = true) ∧ (s.link.resetting = false))) 15 0xFFFFFFFF wOpen) ∧
    ((fun (be : BitVec 4) (v : Word) (s : State) => ((be.toNat % 4 = 3) ∧ (s.on BQ_LINK_STAT.UP = true) ∧ (s.sys.regOpen = true) ∧ (s.link.resetting = false))) 3 0x146 { wOpen with link := { wOpen.link with cfgSpace := [(4, 0x400)] } }) ∧
    ((fun (w : Initiator) (s : State) (a : Nat) (v : Word) (q : List (Nat × Word)) => ((s.postQ w = (a, v) :: q))) .helm { wOpen with sys := { wOpen.sys with helmQ := [(SRV_CFG 0, 2), (SYS_INT_EN, 3), (SRV_CFG 1, 2)] } } (SRV_CFG 0) 2 [(SYS_INT_EN, 3), (SRV_CFG 1, 2)]) ∧
    ((fun (a : BitVec 27) (lag : Word) (s : State) (d : RegDesc) (i : Nat) => ((s.mode ≠ .halted) ∧ (a.toNat % 4 = 0) ∧ (a.toNat < 0x200000) ∧ (regDesc? a.toNat = some (d, i)) ∧ (s.postQ .helm = []))) (BitVec.ofNat 27 SYS_START) 0 wOpen ((regDesc? SYS_START).get rfl).1 0) ∧
    ((fun (w : Initiator) (s : State) => ((s.canReach w = true))) .host wOpen) ∧
    ((fun (w : Initiator) (mask : Word) (s : State) => ((s.mayWrite w = true) ∧ (s.postQ w = []) ∧ ((∃ g, g < 26 ∧ g ∈ gluedGroups ∧ g ∉ bellGroups ∧ mask.toNat.testBit g = true)) ∧ (s.glueRefused (s.glueApply (gluedGroups.filter (fun g => mask.toNat.testBit g && !bellGroups.contains g))) (gluedGroups.filter (fun g => mask.toNat.testBit g && !bellGroups.contains g)) = none))) .helm 0x3 wOpen) := by
  refine ⟨?_, ?_, ?_, ?_, ?_, ?_, ?_, ?_, ?_⟩ <;> decide +kernel

/-- TimerAndPadCommands: a state and operands that meet the hypotheses of each clause. -/
theorem test_witness_timer_and_pad_commands :
    ((fun (k : Fin 8) (t0 : Nat) (s : State) => ((s.sys.timers.getD k.val none = some t0) ∧ (t0 + 25000 * s.rd (SYS_TMR_CFG.PERIOD k.val) ≤ s.sys.time) ∧ (s.timerRuns k.val = true))) 3 0 { wOpen with sys := { wOpen.sys with timers := [none, none, none, some 0, none, none, none, none] } }) ∧
    ((fun (pin : Fin 16) (s : State) => ((s.rd (PAD_GPIO_CFG.FUNC pin.val) = 5) ∧ (s.rd (SYS_TMR_CFG.USE (s.rd (PAD_GPIO_CFG.TIMER pin.val))) = 2))) 2 (wOpen.wrs [(PAD_GPIO_CFG.FUNC 2, 5), (PAD_GPIO_CFG.TIMER 2, 1), (SYS_TMR_CFG.USE 1, 2)])) ∧
    ((fun (rail : Fin 15) (high : Bool) (s : State) => ((s.sys.inReset = false) ∧ (s.railPresent rail.val = true))) 1 true wOpen) ∧
    ((fun (rail : Fin 15) (high : Bool) (s : State) => ((s.sys.inReset = false) ∧ (s.railPresent rail.val = true))) 12 false wOpen) ∧
    ((fun (temp : BitVec 12) (s : State) => ((s.sys.inReset = false))) 0x300 wOpen) := by
  refine ⟨?_, ?_, ?_, ?_, ?_⟩ <;> decide +kernel

/-- PowerCommands: a state and operands that meet the hypotheses of each clause. -/
theorem test_witness_power_commands :
    ((fun (k : Fin 6) (t0 : Nat) (s : State) => ((k ≠ 0) ∧ (s.idleTick.sch.idleSince = some t0) ∧ (s.running = true) ∧ (s.link.d3hot = false) ∧ (s.powerAllowed k.val = true) ∧ (t0 + 25000 * s.idleTimer k.val ≤ s.sys.time) ∧ (s.rd SCH_PWR_STAT.TARGET < k.val))) 1 0 (({ wOpen with sys := { wOpen.sys with time := 10 ^ 12 }, sch := { wOpen.sch with idleSince := some 0 } } : State).wrs [(SCH_LAT_TOL.TOL, 1000), (SCH_IDLE_LO.IDLE, 1)])) ∧
    ((fun (k : Fin 6) (t0 : Nat) (s : State) => ((k ≠ 0) ∧ (s.idleTick.sch.idleSince = some t0) ∧ (s.running = true) ∧ (s.link.d3hot = false) ∧ (s.powerAllowed k.val = true) ∧ (t0 + 25000 * s.idleTimer k.val ≤ s.sys.time) ∧ (s.rd SCH_PWR_STAT.TARGET < k.val))) 4 0 (({ wOpen with sys := { wOpen.sys with time := 10 ^ 14 }, sch := { wOpen.sch with idleSince := some 0 } } : State).wrs [(SCH_LAT_TOL.TOL, 30000000), (SCH_IDLE_LO.IDLE, 1), (SCH_IDLE_HI.IDLE, 16)])) ∧
    ((fun (s : State) => ((s.running = true) ∧ (s.wakeWork = true) ∧ (s.rd SCH_PWR_STAT.TARGET ≠ 0))) (({ wOpen with cmds := [Cmd.init 5 .destage []] } : State).wr SCH_PWR_STAT.TARGET 2)) ∧
    ((fun (s : State) => ((s.running = true) ∧ (s.on SCH_PWR_STAT.MOVING = true) ∧ (s.powerAt (s.rd SCH_PWR_STAT.TARGET) = true))) (wOpen.wrs [(SCH_PWR_STAT.MOVING, 1), (SCH_PWR_STAT.TARGET, 5)])) := by
  refine ⟨?_, ?_, ?_, ?_⟩ <;> decide +kernel

/-- FaultNAndWatchLog: a state and operands that meet the hypotheses of each clause. -/
theorem test_witness_fault_n_and_watch_log :
    ((fun (s : State) => ((s.mode ≠ .bringUp) ∧ (s.mode ≠ .halted))) (wOpen.wrs [(WCH_FN_CTRL.TIMING, 1), (WCH_FN_CTRL.LEVEL, 1)])) ∧
    ((fun (s : State) => ((s.mode ≠ .bringUp) ∧ (s.mode ≠ .halted))) (wOpen.wrs [(WCH_FN_CTRL.TIMING, 1), (WCH_FN_CTRL.FORCE, 1)])) ∧
    ((fun (w : Initiator) (v : Bool) (s : State) => ((s.mayWrite w = true) ∧ (s.mode ≠ .bringUp))) .host true wOpen) ∧
    ((fun (w : Initiator) (v : Bool) (s : State) => ((s.mayWrite w = true) ∧ (s.mode ≠ .bringUp))) .helm false (wOpen.wr WCH_FN_CTRL.HOLD 1)) ∧
    ((fun (w : Initiator) (v : Bool) (s : State) => ((s.mayWrite w = true) ∧ (s.mode ≠ .bringUp))) .helm true wOpen) ∧
    ((fun (w : Initiator) (v : Bool) (s : State) => ((s.mayWrite w = true) ∧ (s.mode ≠ .bringUp))) .host false (wOpen.wr WCH_FN_CTRL.HOLD 1)) ∧
    ((fun (s : State) => ((s.watch.rBank = []) ∧ ((s.watch.wBank ≠ [] ∨ s.watch.gap ≠ none)))) { wOpen with watch := { wOpen.watch with wBank := [⟨1, 0, 1, 0, 5, 0⟩, ⟨2, 3, 1, 0, 6, 0⟩], gap := some ⟨1, 0, 2, 1, 7, 0⟩ } }) ∧
    ((fun (w : Initiator) (x : WlogWord) (l : List WlogWord) (s : State) => ((s.canReach w = true) ∧ (s.rd WCH_CTRL.CONSUMER = (match w with | .helm => 0 | .host => 1)) ∧ (s.watch.rBank = x :: l) ∧ (s.watch.armed = none) ∧ (x.flips = 0))) .helm ⟨1, 0, 1, 0, 5, 0⟩ [] { wOpen with watch := { wOpen.watch with rBank := [⟨1, 0, 1, 0, 5, 0⟩] } }) ∧
    ((fun (w : Initiator) (x : WlogWord) (l : List WlogWord) (s : State) => ((s.canReach w = true) ∧ (s.rd WCH_CTRL.CONSUMER = (match w with | .helm => 0 | .host => 1)) ∧ (s.watch.rBank = x :: l) ∧ (s.watch.armed = none) ∧ (x.flips = 0))) .host ⟨0x170, 1, 1, 3, 5, 0⟩ [⟨1, 0, 1, 0, 5, 0⟩] (({ wOpen with watch := { wOpen.watch with rBank := [⟨0x170, 1, 1, 3, 5, 0⟩, ⟨1, 0, 1, 0, 5, 0⟩] } } : State).wr WCH_CTRL.CONSUMER 1)) := by
  refine ⟨?_, ?_, ?_, ?_, ?_, ?_, ?_, ?_, ?_⟩ <;> decide +kernel

/-- WatchInstances: a state and operands that meet the hypotheses of each clause. -/
theorem test_witness_watch_instances :
    ((fun (i : Fin 2) (s : State) => ((s.on WCH_INST.A_OK = true) ∧ (s.on WCH_INST.B_OK = true))) 0 wOpen) ∧
    ((fun (i : Fin 2) (s : State) => ((s.on WCH_INST.A_OK = true) ∧ (s.on WCH_INST.B_OK = true))) 1 wOpen) ∧
    (wOpen.on WCH_INST.A_OK = true ∧ wOpen.on WCH_INST.B_OK = true ∧ wOpen.classOf 0x1FA 0 = 4) ∧
    ((fun (s : State) => ((s.watch.armed = none))) wOpen) ∧
    ((fun (s : State) => ((s.watch.armed = none))) (wOpen.wr WCH_INST.B_OK 0)) ∧
    ((fun (src : Nat) (s : State) => ((s.watch.anchorReq = some src) ∧ (src < 512) ∧ (s.on WCH_ANCHOR.VALID = false) ∧ (s.running = true))) 0x1FA { wOpen with watch := { wOpen.watch with anchorReq := some 0x1FA } }) ∧
    ((fun (src : Nat) (s : State) => ((s.watch.anchorReq = some src) ∧ (src < 512) ∧ (s.on WCH_ANCHOR.VALID = false) ∧ (s.running = true))) 0x142 { wOpen with watch := { wOpen.watch with anchorReq := some 0x142 } }) ∧
    ((fun (s : State) => ((s.on WCH_INST.ANCHOR = true) ∧ (s.mode ≠ .halted) ∧ (s.anchorOver = true))) (wOpen.wrs [(WCH_INST.ANCHOR, 1), (WCH_ANCHOR.STEP, 6)])) ∧
    ((fun (s : State) => ((s.on WCH_INST.ANCHOR = true) ∧ (s.mode ≠ .halted) ∧ (s.anchorOver = true))) (({ wOpen with sys := { wOpen.sys with time := 10 ^ 12 } } : State).wrs [(WCH_INST.ANCHOR, 1), (WCH_ANCHOR.STEP, 3), (WCH_ANCHOR.CAUSE, 0x146)])) := by
  refine ⟨?_, ?_, ?_, ?_, ?_, ?_, ?_, ?_, ?_⟩ <;> decide +kernel

/-- InjectionAndLogbook: a state and operands that meet the hypotheses of each clause. -/
theorem test_witness_injection_and_logbook :
    ((fun (w : Initiator) (site : BitVec 4) (mask : BitVec 9) (s : State) => ((s.mayWrite w = true) ∧ (s.mode = .factory) ∧ (mask ≠ 0))) .helm 3 1 (wOpen.wr SYS_MODE.MODE 4)) ∧
    ((fun (w : Initiator) (site : BitVec 4) (s : State) => ((s.mayWrite w = true))) .host 3 wOpen) ∧
    ((fun (w : Initiator) (v : Word) (s : State) => ((s.mayWrite w = true))) .host 0x4E4B4F54 wOpen) ∧
    ((fun (w : Initiator) (s : State) => ((s.mayWrite w = true) ∧ (s.sys.cfg.injectPolicy = 1) ∧ (s.mode = .service))) .host { wOpen with sys := { wOpen.sys with cfg := { wOpen.sys.cfg with injectPolicy := 1 } } }) ∧
    ((fun (j : Inj) (s : State) => ((s.watch.armed = some j) ∧ (j.at_ + 25000000000 ≤ s.sys.time))) ⟨3, 1, 0, 5⟩ { wOpen with watch := { wOpen.watch with armed := some ⟨3, 1, 0, 5⟩ }, sys := { wOpen.sys with time := 25000000005 } }) ∧
    ((fun (n : Nat) (s : State) => ((s.watch.window = some n) ∧ (n ≠ 0) ∧ (n ≤ s.sys.opSeconds))) 7 { wOpen with watch := { wOpen.watch with window := some 7 }, sys := { wOpen.sys with opSeconds := 7 } }) ∧
    ((fun (fail : BitVec 4) (s : State) => ((s.running = true) ∧ (s.foreignAny = false) ∧ (s.on SYS_MODE.RESCUE = false) ∧ (s.on SYS_MODE.MEDIA_NOT_READY = false) ∧ (s.media.areas.length = 4))) 2 (({ wOpen with media := { wOpen.media with ready := [true, true, false, false], areas := List.replicate 4 (SysArea.blank, { SysArea.blank with good := true }) }, watch := { wOpen.watch with ring := [⟨3, 1, 2, 0, false, false, 1, 1, 1, 5, 0, 7, 0, 0, []⟩] } } : State).wr SYS_MODE.MEDIA_NOT_READY 0)) ∧
    ((fun s : State => s.mode ≠ .halted ∧ 0x8000 ≤ s.rd LOG_FW_TYPE.TYPE ∧ 7 ≤ s.rd SYS_START.STEP) (wOpen.wr LOG_FW_TYPE.TYPE 0x8001)) ∧
    ((fun (s : State) => ((s.mayWrite .host = true))) wOpen) := by
  refine ⟨?_, ?_, ?_, ?_, ?_, ?_, ?_, ?_, ?_⟩ <;> decide +kernel

/-- SourceRaise: a state and operands that meet the hypotheses of each clause. -/
theorem test_witness_source_raise :
    ((fun (src : Source) (x : RaiseArgs) (s : State) => ((s.sys.inReset = false) ∧ ((defaultClass? src.toNat).isSome = true) ∧ (defaultClass? src.toNat ≠ some 2) ∧ (s.srcPresent src.toNat = true) ∧ (src.toNat ∉ [0xC4, 0xC5, 0xC6, 0xC7, 0x141, 0x17E, 0x17F, 0x1E8]))) 0x1FD ⟨none, 0, 0, 0, 0, 0, 0⟩ wOpen) ∧
    ((fun (src : Source) (x : RaiseArgs) (s : State) => ((s.sys.inReset = false) ∧ ((defaultClass? src.toNat).isSome = true) ∧ (defaultClass? src.toNat ≠ some 2) ∧ (s.srcPresent src.toNat = true) ∧ (src.toNat ∉ [0xC4, 0xC5, 0xC6, 0xC7, 0x141, 0x17E, 0x17F, 0x1E8]))) 0x170 ⟨some 0x1000, 3, 2, 1, 5, 0, 77⟩ wOpen) ∧
    ((fun (n : Fin 28) (x : RaiseArgs) (s : State) => ((s.sys.inReset = false) ∧ (s.chanPresent n.val = true) ∧ (s.isFenced (.chan n) = false) ∧ (s.on (RCH_MAP.FENCED n.val) = false))) 3 ⟨none, 0, 0, 0, 0, 0, 0⟩ wOpen) ∧
    ((fun (n : Fin 28) (x : RaiseArgs) (s : State) => ((s.sys.inReset = false) ∧ (s.chanPresent n.val = true) ∧ (s.isFenced (.chan n) = false) ∧ (s.on (RCH_MAP.FENCED n.val) = false))) 25 ⟨none, 0, 0, 0, 0, 0, 0⟩ wOpen) ∧
    ((fun (e : Fin 36) (x : RaiseArgs) (s : State) => ((s.sys.inReset = false) ∧ (s.on (DEC_ESTATUS.FENCED e.val) = false))) 0 ⟨none, 0, 0, 0, 0, 0, 0⟩ wOpen) ∧
    ((fun (e : Fin 36) (x : RaiseArgs) (s : State) => ((s.sys.inReset = false) ∧ (s.on (DEC_ESTATUS.FENCED e.val) = false))) 35 ⟨none, 0, 0, 0, 0, 0, 0⟩ wOpen) ∧
    ((fun (h : Fin 24) (x : RaiseArgs) (s : State) => ((s.sys.inReset = false) ∧ (s.headPresent h.val = true))) 7 ⟨none, 0, 0, 0, 0, 0, 0⟩ wOpen) ∧
    ((fun (n : Fin 64) (x : RaiseArgs) (s : State) => ((s.sys.inReset = false))) 63 ⟨none, 0, 0, 0, 0, 0, 0⟩ wOpen) := by
  refine ⟨?_, ?_, ?_, ?_, ?_, ?_, ?_, ?_⟩ <;> decide +kernel

/-- BellAndServo: a state and operands that meet the hypotheses of each clause. -/
theorem test_witness_bell_and_servo :
    ((fun (swept : Nat) (s : State) => ((s.sys.inReset = false))) 0 wOpen) ∧
    ((fun (swept : Nat) (s : State) => ((s.sys.inReset = false))) 4 { wOpen with bell := 2 ^ 48 - 1 }) ∧
    ((fun (s : State) => ((s.dec.unswept ≠ []))) { wOpen with dec := { wOpen.dec with unswept := [⟨1, 2, 0, 2, 0, 0, 0, 0, 0, 0, false⟩] } }) ∧
    ((fun (h : Head) (m : WedgeMeas) (s : State) => ((s.headLoaded h = true) ∧ (s.on (SRV_CFG.EN h) = true) ∧ (s.on SRV_CTRL.EN = true) ∧ (s.isFenced (.srv h) = false) ∧ (s.drivesOff = false) ∧ (s.srv.results.any (fun r => r.head == h.val) = false) ∧ (s.srvState h = 2) ∧ ((∀ d ∈ wedgeDist m (s.rd SRV_SAM_PAT.PATTERN), s.rd SRV_WIN_CFG.SAM_TOL < d)))) 3 ⟨0, [], 0, 0⟩ (wOpen.wrs [(SRV_STATUS.STATE 3, 2), (MOT_ASTATUS.STATE 0, 2), (SRV_CFG.EN 3, 1), (SRV_CTRL.EN, 1)])) ∧
    ((fun (h : Head) (m : WedgeMeas) (s : State) => ((s.headLoaded h = true) ∧ (s.on (SRV_CFG.EN h) = true) ∧ (s.on SRV_CTRL.EN = true) ∧ (s.isFenced (.srv h) = false) ∧ (s.drivesOff = false) ∧ (s.srv.results.any (fun r => r.head == h.val) = false) ∧ (s.srvState h = 2) ∧ ((∀ d ∈ wedgeDist m (s.rd SRV_SAM_PAT.PATTERN), s.rd SRV_WIN_CFG.SAM_TOL < d)))) 3 (wMark 0 0 1 0 0 500 300) (wOpen.wrs [(SRV_STATUS.STATE 3, 2), (MOT_ASTATUS.STATE 0, 2), (SRV_CFG.EN 3, 1), (SRV_CTRL.EN, 1)])) ∧
    ((fun (h : Head) (m : WedgeMeas) (k : Int) (d0 : Nat) (s : State) => ((s.headLoaded h = true) ∧ (s.on (SRV_CFG.EN h) = true) ∧ (s.on SRV_CTRL.EN = true) ∧ (s.isFenced (.srv h) = false) ∧ (s.drivesOff = false) ∧ (s.srv.results.any (fun r => r.head == h.val) = false) ∧ (s.srvState h = 2) ∧ ((s.chanOfHead h).isSome = true) ∧ ((s.srvHead h).cut = false) ∧ (bestMark (fun k => decide (-(s.rd SRV_WIN_CFG.SAM_WIN : Int) ≤ k) && decide (k ≤ s.rd SRV_WIN_CFG.SAM_WIN)) (wedgeDist m (s.rd SRV_SAM_PAT.PATTERN)) m.first none = some (k, d0)) ∧ (d0 ≤ s.rd SRV_WIN_CFG.SAM_TOL) ∧ (d0 < 32) ∧ ((wedgeFields m (k - m.first).toNat).wedge < s.sys.cfg.wedges) ∧ ((wedgeFields m (k - m.first).toNat).wedge = ((s.srvHead h).wedge + 1) % s.sys.cfg.wedges) ∧ (s.rd SRV_AMP_CFG.AMP_MIN ≤ m.burstN.natAbs + m.burstQ.natAbs) ∧ (((s.skewOf h).natAbs : Int) ≤ s.skewLimit) ∧ (s.servoBits (-620) + s.skewOf h + s.servoBits k + s.servoBits 692 + 3750 ≤ 25000))) 3 (wMark 0 0x0E9B 1 0 8 500 300) 0 0 (wOpen.wrs [(SRV_STATUS.STATE 3, 2), (MOT_ASTATUS.STATE 0, 2), (SRV_CFG.EN 3, 1), (SRV_CTRL.EN, 1)])) ∧
    ((fun (h : Head) (m : WedgeMeas) (k : Int) (d0 : Nat) (s : State) => ((s.headLoaded h = true) ∧ (s.on (SRV_CFG.EN h) = true) ∧ (s.on SRV_CTRL.EN = true) ∧ (s.isFenced (.srv h) = false) ∧ (s.drivesOff = false) ∧ (s.srv.results.any (fun r => r.head == h.val) = false) ∧ (s.srvState h = 2) ∧ ((s.chanOfHead h).isSome = true) ∧ ((s.srvHead h).cut = false) ∧ (bestMark (fun k => decide (-(s.rd SRV_WIN_CFG.SAM_WIN : Int) ≤ k) && decide (k ≤ s.rd SRV_WIN_CFG.SAM_WIN)) (wedgeDist m (s.rd SRV_SAM_PAT.PATTERN)) m.first none = some (k, d0)) ∧ (d0 ≤ s.rd SRV_WIN_CFG.SAM_TOL) ∧ (d0 < 32) ∧ ((wedgeFields m (k - m.first).toNat).wedge < s.sys.cfg.wedges) ∧ ((wedgeFields m (k - m.first).toNat).wedge = ((s.srvHead h).wedge + 1) % s.sys.cfg.wedges) ∧ (s.rd SRV_AMP_CFG.AMP_MIN ≤ m.burstN.natAbs + m.burstQ.natAbs) ∧ (((s.skewOf h).natAbs : Int) ≤ s.skewLimit) ∧ (s.servoBits (-620) + s.skewOf h + s.servoBits k + s.servoBits 692 + 3750 ≤ 25000))) 3 (wMark (-2) 0x0E9A 1 0 1 500 300) (-2) 1 (wOpen.wrs [(CTL_STATUS.STATE 0, 2), (SRV_CFG.RRO_EN 3, 0), (SRV_STATUS.STATE 3, 2), (MOT_ASTATUS.STATE 0, 2), (SRV_CFG.EN 3, 1), (SRV_CTRL.EN, 1)])) ∧
    ((fun (h : Head) (s : State) => ((s.srvState h = 4) ∧ (4 ≤ s.rd (SRV_STATUS.MISS_RUN h)))) 3 (wOpen.wrs [(SRV_STATUS.STATE 3, 4), (SRV_STATUS.MISS_RUN 3, 4)])) ∧
    ((fun (h : Head) (s : State) => ((s.srvState h = 5) ∧ ((s.srvHead h).reacq = true) ∧ (s.rd SRV_LOSS_CFG.REACQ ≤ (s.srvHead h).reacqRun))) 3 (({ wOpen with srv := { wOpen.srv with heads := wOpen.srv.heads.map (fun u => { u with reacq := true, reacqRun := 64 }) } } : State).wrs [(SRV_STATUS.STATE 3, 5)])) ∧
    ((fun (h : Head) (s : State) => ((s.srvState h = 2) ∧ ((s.head h).inhServo = true) ∧ (s.rd SRV_LOSS_CFG.WRITE_RECOVER ≤ (s.srvHead h).recov))) 3 (({ wOpen with srv := { wOpen.srv with heads := wOpen.srv.heads.map (fun u => { u with recov := 64 }) }, wrp := { wOpen.wrp with heads := wOpen.wrp.heads.map (fun u => { u with inhServo := true }) } } : State).wrs [(SRV_STATUS.STATE 3, 2)])) ∧
    ((fun (h : Head) (s : State) => (((s.head h).offTrack = true) ∧ (2 ≤ (s.head h).offRun))) 3 { wOpen with wrp := { wOpen.wrp with heads := wOpen.wrp.heads.map (fun u => { u with offTrack := true, offRun := 2 }) } }) ∧
    ((fun (s : State) => ((s.wrp.speedErr = true) ∧ (8 ≤ s.wrp.speedRun))) { wOpen with wrp := { wOpen.wrp with speedErr := true, speedRun := 8 } }) := by
  refine ⟨?_, ?_, ?_, ?_, ?_, ?_, ?_, ?_, ?_, ?_, ?_, ?_⟩ <;> decide +kernel

/-- SequencerFlow: a state and operands that meet the hypotheses of each clause. -/
theorem test_witness_sequencer_flow :
    ((fun (a : Act) (d : Int) (c : Nat) (s : State) => ((s.atWord a (.branch d c) = true) ∧ (s.rd (SEQ_PC.PC a) < 12288) ∧ (0 ≤ (s.rd (SEQ_PC.PC a) : Int) + 1 + d) ∧ ((s.rd (SEQ_PC.PC a) : Int) + 1 + d ≤ 16383))) 1 (-5) 0 (wSeq (0x8000 + 0x3FB) 0)) ∧
    ((fun (a : Act) (d : Int) (c : Nat) (s : State) => ((s.atWord a (.branch d c) = true) ∧ (s.rd (SEQ_PC.PC a) < 12288) ∧ (0 ≤ (s.rd (SEQ_PC.PC a) : Int) + 1 + d) ∧ ((s.rd (SEQ_PC.PC a) : Int) + 1 + d ≤ 16383))) 1 9 1 (wSeq (0x8000 + 1024 + 9) 0)) ∧
    ((fun (a : Act) (n : Nat) (s : State) => ((s.atWord a (.jump n) = true) ∧ (s.rd (SEQ_PC.PC a) < 12288) ∧ (n < 16384))) 1 600 (wSeq (0xC000 + 300) 0)) ∧
    ((fun (a : Act) (n : Nat) (s : State) => ((s.atWord a (.call n) = true) ∧ (s.rd (SEQ_PC.PC a) < 12288) ∧ (n < 12288) ∧ ((s.seq a).stack.length < 4) ∧ (s.seqs.length = 4))) 1 800 (wSeq (0xE000 + 100) 0)) ∧
    ((fun (a : Act) (k r : Nat) (s : State) => ((s.atWord a (.ctl 1 k) = true) ∧ ((s.seq a).stack.getLast? = some r) ∧ (r < 16384) ∧ ((s.seq a).stack.length ≤ 4) ∧ (s.seqs.length = 4))) 1 0 41 (wSeq 0xE900 0)) ∧
    ((fun (a : Act) (k : Nat) (s : State) => ((s.atWord a (.ctl 3 k) = true) ∧ (s.rd (SEQ_PC.PC a) < 12288) ∧ (k ≤ s.rd (SEQ_PC.PC a)))) 1 7 (wSeq 0xEB07 0)) ∧
    ((fun (a : Act) (k : Nat) (s : State) => ((s.atWord a (.ctl 4 k) = true) ∧ (s.rd (SEQ_PC.PC a) < 12288))) 1 7 (wSeq 0xEC07 0)) ∧
    ((fun (a : Act) (k : Nat) (s : State) => ((s.atWord a (.ctl 0 k) = true) ∧ (s.rd (SEQ_PC.PC a) < 16383))) 1 0 (wSeq 0xE800 0)) := by
  refine ⟨?_, ?_, ?_, ?_, ?_, ?_, ?_, ?_⟩ <;> decide +kernel

/-- SequencerWindow: a state and operands that meet the hypotheses of each clause. -/
theorem test_witness_sequencer_window :
    ((fun (a : Act) (s : State) => ((s.actPresent a = true) ∧ (s.on SEQ_LOCK.LOCKED = true) ∧ (s.on (SEQ_CTRL.EN a) = true) ∧ (s.isFenced (.seq a) = false) ∧ (s.seqRunning a = false) ∧ (s.running = true) ∧ (s.gated 5 = false))) 2 (wOpen.wrs [(SEQ_LOCK.LOCKED, 1), (SEQ_CTRL.EN 2, 1), (SEQ_ENTRY.ENTRY 2, 77)])) ∧
    ((fun (a : Act) (n hsel g : Nat) (s : State) => ((s.atWord a (.nano n hsel g) = true) ∧ (nanoGuard (s.seq a) g = true) ∧ (sparseGet 0 s.stores.errs (errKey true 0 n) = 0) ∧ (s.rd (SEQ_PC.PC a) < 16383) ∧ (s.seqs.length = 4) ∧ ((s.seq a).v.length = 8) ∧ (bitsOf (s.storeWord true 0 n) 3 0 ≠ 10) ∧ (bitsOf (s.storeWord true 0 n) 7 4 < 8) ∧ (10 ≤ bitsOf (s.storeWord true 0 n) 55 52) ∧ (bitsOf (s.storeWord true 0 n) 100 97 = 0))) 1 5 0 0 (wSeq 5 (0x1 + 0x30 + 0x400 + 0x6000 + 10 * 2 ^ 52))) ∧
    ((fun (a : Act) (n hsel g : Nat) (s : State) => ((s.atWord a (.nano n hsel g) = true) ∧ (nanoGuard (s.seq a) g = false) ∧ (s.rd (SEQ_PC.PC a) < 16383))) 1 5 0 1 (wSeq (0x2005) 0)) ∧
    ((fun (a : Act) (k : Nat) (s : State) => ((s.atWord a (.ctl 5 k) = true) ∧ (k < 256) ∧ (s.rd (SEQ_PC.PC a) < 16383))) 1 0x42 (wSeq 0xED42 0)) ∧
    ((fun (a : Act) (k : Nat) (s : State) => ((s.atWord a (.ctl 2 k) = true) ∧ (s.rd (SEQ_PC.PC a) < 16383))) 1 0 (wSeq 0xEA00 0)) ∧
    ((fun (a : Act) (k : Nat) (s : State) => ((s.atWord a (.ctl 6 k) = true))) 1 0 (wSeq 0xEE00 0)) ∧
    ((fun (a : Act) (ret depth : Nat) (s : State) => ((s.seqRunning a = true) ∧ (12288 ≤ s.rd (SEQ_PC.PC a)) ∧ (s.rd (SEQ_HOOK_BUDGET.BUDGET a) ≤ (s.seq a).hookUsed) ∧ ((s.seq a).hookFrame = some (ret, depth)) ∧ (ret < 16384) ∧ (depth < 8))) 1 55 1 (({ wSeq 0 0 with seqs := (wSeq 0 0).seqs.map (fun e => { e with hookFrame := some (55, 1), hookUsed := 100000 }) } : State).wrs [(SEQ_PC.PC 1, 12300), (SEQ_CTRL.HOOK_EN 1, 1)])) ∧
    ((fun (a : Act) (s : State) => ((s.seqRunning a = true))) 1 (wSeq 0 0)) ∧
    ((fun (w : Initiator) (a : Act) (n : Nat) (s : State) => ((s.mayWrite w = true) ∧ (s.actPresent a = true) ∧ (s.mode = .factory) ∧ (s.on (SEQ_CTRL.EN a) = false) ∧ (s.watch.armed = none) ∧ (sparseGet 0 s.stores.errs (errKey false 0 (s.rd (SEQ_PC.PC a))) = 0) ∧ (decodeMicro (s.storeWord false 0 (s.rd (SEQ_PC.PC a))) = .jump n) ∧ (n < 16384) ∧ (s.rd (SEQ_PC.PC a) < 12288))) .helm 1 600 ((wSeq (0xC000 + 300) 0).wrs [(SEQ_CTRL.EN 1, 0), (SYS_MODE.MODE, 4)])) := by
  refine ⟨?_, ?_, ?_, ?_, ?_, ?_, ?_, ?_, ?_⟩ <;> decide +kernel

/-- WritePathCommands: a state and operands that meet the hypotheses of each clause. -/
theorem test_witness_write_path_commands :
    ((fun (h : Head) (adc : List (Byte × Byte)) (e : GateEv) (l : List GateEv) (w : SecWork) (x : EncSec) (s : State) => (((s.lane h).events = e :: l) ∧ (e.act = .openWrite) ∧ (e.first = true) ∧ (s.canWrite h = true) ∧ (s.wus h = false) ∧ (s.inhibited h = false) ∧ ((s.head h).buf.find? (fun y => y.token == e.desc.token) = some x) ∧ ((s.head h).mode = 2) ∧ (s.wrp.ctlBlock = false) ∧ (s.on (WRP_CTRL.EN h) = true) ∧ (s.sec? e.desc.token = some w) ∧ (w.st ≠ .failed) ∧ (s.wrp.heads.length = 24))) 3 [] wEvO [] wSec ⟨5, 77⟩ (wWr [wEvO])) ∧
    ((fun (h : Head) (adc : List (Byte × Byte)) (e : GateEv) (l : List GateEv) (s : State) => (((s.lane h).events = e :: l) ∧ (e.act = .openWrite) ∧ (s.canWrite h = true) ∧ ((s.wus h = true ∨ s.inhibited h = true)))) 3 [] wEvO [] { wWr [wEvO] with wrp := { (wWr [wEvO]).wrp with supplyErr := true } }) ∧
    ((fun (h : Head) (adc : List (Byte × Byte)) (e : GateEv) (l : List GateEv) (final : Bool) (s : State) => (((s.lane h).events = e :: l) ∧ (e.act = .close) ∧ (e.desc.write = true) ∧ ((s.head h).gate = some (e.desc.token, final)))) 3 [] { wEvO with act := .close } [] true { wWr [{ wEvO with act := .close }] with wrp := { (wWr []).wrp with heads := (wWr []).wrp.heads.map (fun u => { u with gate := some (5, true) }) } }) ∧
    ((fun (h : Head) (tok : Word) (w : SecWork) (addr : Nat) (s : State) => ((s.sec? tok.toNat = some w) ∧ (s.secAddr tok.toNat w = some addr) ∧ (w.write = true) ∧ (w.head = h.val) ∧ (w.encoded = false) ∧ (s.on (WRP_CTRL.EN h) = true) ∧ ((s.head h).buf.length < 3) ∧ ((w.st = .todo ∨ w.st = .listed)) ∧ (s.wrp.heads.length = 24))) 3 5 wSec 8192 (wWr [])) ∧
    ((fun (h : Head) (tok : Word) (w : SecWork) (s : State) => ((s.sec? tok.toNat = some w) ∧ (w.rewrite = true) ∧ (w.st = .todo) ∧ (w.head = h.val) ∧ (s.onTier (h / 6) w.zone (s.placeOf w).1 (s.placeOf w).2.1 = true) ∧ (s.seqs.length = 4) ∧ ((s.seq (h / 6)).lanes.length = 6))) 3 5 wSec { ((wWr []).wr (SCH_TIER.TRACK 0) 100) with ctl := { (wWr []).ctl with acts := (wWr []).ctl.acts.map (fun a => { a with zone := some 0, tier := 0 }) } }) := by
  refine ⟨?_, ?_, ?_, ?_, ?_⟩ <;> decide +kernel

/-- PreampCommands: a state and operands that meet the hypotheses of each clause. -/
theorem test_witness_preamp_commands :
    (((wPa { PaPort.init with inFlight := some (paWrite 3 3 2) }).port 1).inFlight = some (paWrite 3 3 2)) ∧
    ((fun (a : Act) (f : PaFrame) (pos : Nat) (l : List Nat) (s : State) => (((s.port a).inFlight = some f) ∧ (f.read = false) ∧ ((s.port a).statusQ = pos :: l) ∧ (s.mode ≠ .halted) ∧ (s.sys.inReset = false) ∧ (s.actPresent a = true))) 1 (paWrite 3 3 2) 4 [5] (wPa { PaPort.init with inFlight := some (paWrite 3 3 2), statusQ := [4, 5], modeQ := [(2, 1)] })) ∧
    ((fun (a : Act) (s : State) => ((s.actPresent a = true) ∧ (s.mode ≠ .halted) ∧ (s.sys.inReset = false) ∧ ((s.port a).inFlight = none) ∧ ((s.port a).statusQ = []) ∧ ((s.port a).modeQ = []) ∧ ((s.port a).htrQ = []) ∧ ((s.port a).mailQ = []))) 1 (wPa PaPort.init)) ∧
    ((fun (a : Act) (data : BitVec 16) (f : PaFrame) (q : Nat) (s : State) => (((s.port a).inFlight = some f) ∧ (f.read = true) ∧ (f.mailbox = some q) ∧ (q < 6))) 1 0x1234 ⟨true, 3, 8, 0, some 3⟩ 3 (wPa { PaPort.init with inFlight := some ⟨true, 3, 8, 0, some 3⟩ })) ∧
    ((fun (a : Act) (data : BitVec 16) (f : PaFrame) (s : State) => (((s.port a).inFlight = some f) ∧ (f.read = true) ∧ ((s.port a).repeated = false) ∧ (s.mode ≠ .halted) ∧ (s.sys.inReset = false))) 1 0x1234 ⟨true, 3, 8, 0, some 3⟩ (wPa { PaPort.init with inFlight := some ⟨true, 3, 8, 0, some 3⟩ })) ∧
    ((fun (w : Initiator) (h : Head) (addr : Byte) (data : BitVec 16) (rd bcast : Bool) (s : State) => ((s.mayWrite w = true) ∧ (s.headPresent h = true) ∧ ((rd && bcast) = false) ∧ (s.sys.inReset = false) ∧ (s.mode ≠ .halted) ∧ ((rd = true ∨ s.mode = .factory ∨ addr ∉ [3, 4, 5])) ∧ (s.wrp.ports.length = 4) ∧ ((s.port (h / 6)).inFlight = none) ∧ ((s.port (h / 6)).statusQ = []) ∧ ((s.port (h / 6)).modeQ = []) ∧ ((s.port (h / 6)).htrQ = []) ∧ ((s.port (h / 6)).mailQ = []))) .host 7 8 0x55 false true (wPa PaPort.init)) ∧
    ((fun (w : Initiator) (h : Head) (addr : Byte) (data : BitVec 16) (rd bcast : Bool) (s : State) => ((s.mayWrite w = true) ∧ (s.headPresent h = true) ∧ ((rd && bcast) = false) ∧ (s.sys.inReset = false) ∧ (s.mode ≠ .halted) ∧ ((rd = true ∨ s.mode = .factory ∨ addr ∉ [3, 4, 5])) ∧ (s.wrp.ports.length = 4) ∧ ((s.port (h / 6)).inFlight = none) ∧ ((s.port (h / 6)).statusQ = []) ∧ ((s.port (h / 6)).modeQ = []) ∧ ((s.port (h / 6)).htrQ = []) ∧ ((s.port (h / 6)).mailQ = []))) .helm 7 3 2 false false ((wPa PaPort.init).wr SYS_MODE.MODE 4)) ∧
    ((fun (w : Initiator) (h : Head) (addr : Byte) (data : BitVec 16) (bcast : Bool) (s : State) => ((s.mayWrite w = true) ∧ (s.headPresent h = true) ∧ (s.mode ≠ .factory) ∧ (addr ∈ [3, 4, 5]))) .host 7 3 2 false (wPa PaPort.init)) ∧
    ((fun (h : Head) (n : Nat) (s : State) => ((s.headPresent h = true) ∧ (s.mode ≠ .halted) ∧ (s.sys.inReset = false) ∧ (s.wrp.ports.length = 4) ∧ (s.wrp.heads.length = 24) ∧ ((s.port (h / 6)).inFlight = none) ∧ ((s.port (h / 6)).statusQ = []) ∧ ((s.port (h / 6)).modeQ = []) ∧ ((s.port (h / 6)).htrQ = []) ∧ (s.headGate h = false) ∧ ((s.head h).run = false) ∧ (s.nextWriteIn h = some n) ∧ (n ≤ s.rd (WRP_HTR_CFG.PREHEAT h)))) 3 0 { wWr [wEvO] with srv := { (wWr []).srv with heads := (wWr []).srv.heads.map (fun u => { u with wedge := 0 }) } }) ∧
    ((fun (h : Head) (s : State) => ((s.headPresent h = true) ∧ (s.mode ≠ .halted) ∧ (s.sys.inReset = false) ∧ (s.wrp.ports.length = 4) ∧ (s.wrp.heads.length = 24) ∧ ((s.port (h / 6)).inFlight = none) ∧ ((s.port (h / 6)).statusQ = []) ∧ ((s.port (h / 6)).modeQ = []) ∧ ((s.port (h / 6)).htrQ = []) ∧ (s.headGate h = false) ∧ ((s.head h).run = true) ∧ (s.hasWrites h = false))) 7 { (wPa PaPort.init) with wrp := { (wPa PaPort.init).wrp with heads := wOpen.wrp.heads.map (fun u => { u with run := true }) } }) ∧
    ((fun (h : Head) (s : State) => ((s.headPresent h = true) ∧ (s.mode ≠ .halted) ∧ (s.sys.inReset = false) ∧ (s.wrp.ports.length = 4) ∧ (s.wrp.heads.length = 24) ∧ ((s.port (h / 6)).inFlight = none) ∧ ((s.port (h / 6)).statusQ = []) ∧ ((s.port (h / 6)).modeQ = []) ∧ ((s.port (h / 6)).htrQ = []) ∧ (s.headGate h = false) ∧ ((s.head h).htrDue = true))) 8 { (wPa PaPort.init) with wrp := { (wPa PaPort.init).wrp with heads := wOpen.wrp.heads.map (fun u => { u with htrDue := true, mode := 2 }) } }) ∧
    ((fun (a : Act) (s : State) => ((s.actPresent a = true) ∧ (s.wrp.ports.length = 4))) 1 (wPa PaPort.init)) ∧
    ((fun (a : Act) (s : State) => ((s.actPresent a = true) ∧ ((s.port a).statusWaits = false) ∧ ((s.port a).status.all (fun x => x % 2048 == 0) = true))) 1 (wPa { PaPort.init with fault := true, lineLow := true })) ∧
    ((fun (h : Head) (status : BitVec 8) (s : State) => ((s.headPresent h = true) ∧ ((s.head h).tests = 0) ∧ (s.findings h ≠ 0) ∧ (s.testReady h = true) ∧ ((s.head h).mode ≠ 0) ∧ (s.wrp.ports.length = 4))) 7 2 { (wPa { PaPort.init with status := [0, 2, 0, 0, 0, 0] }) with wrp := { (wPa { PaPort.init with status := [0, 2, 0, 0, 0, 0] }).wrp with heads := wOpen.wrp.heads.map (fun u => { u with mode := 1 }) } }) ∧
    ((fun (h : Head) (status : BitVec 8) (s : State) => ((s.headPresent h = true) ∧ ((s.head h).tests = 0) ∧ (s.findings h ≠ 0) ∧ (s.testReady h = true) ∧ ((s.head h).mode = 0) ∧ (s.wrp.heads.length = 24))) 7 2 (wPa { PaPort.init with status := [0, 2, 0, 0, 0, 0] })) ∧
    ((fun (h : Head) (status : BitVec 8) (s : State) => ((s.headPresent h = true) ∧ ((s.head h).tests = 1) ∧ ((s.head h).finding = 4) ∧ ((s.head h).confirms = 4) ∧ (s.testReady h = true) ∧ ((s.head h).mode = 0) ∧ ((bitOf status.toNat 1 || bitOf status.toNat 2) = true))) 7 2 { (wPa { PaPort.init with status := [0, 2, 0, 0, 0, 0] }) with wrp := { (wPa { PaPort.init with status := [0, 2, 0, 0, 0, 0] }).wrp with heads := wOpen.wrp.heads.map (fun u => { u with tests := 1, finding := 4, confirms := 4 }) } }) := by
  refine ⟨?_, ?_, ?_, ?_, ?_, ?_, ?_, ?_, ?_, ?_, ?_, ?_, ?_, ?_, ?_, ?_⟩ <;> decide +kernel

/-- ReadChannelSector: a state and operands that meet the hypotheses of each clause. -/
theorem test_witness_read_channel_sector :
    ((fun (n : Chan) (adc : List (Byte × Byte)) (s : State) => (((s.chan n).fsm = .acquire) ∧ ((s.chan n).slotIx = none) ∧ (s.isShadow n = false) ∧ (s.on RCH_RET_CFG.RET_EN = true) ∧ ((s.chan n).selective = false) ∧ (s.rd RCH_RET_CFG.DEPTH ≠ 0))) 3 [] (wRd .acquire)) ∧
    ((fun (n : Chan) (adc : List (Byte × Byte)) (s : State) => ((((s.chan n).fsm = .acquire ∨ (s.chan n).fsm = .fragAcq)))) 3 [] (wRd .acquire)) ∧
    ((fun (n : Chan) (adc : List (Byte × Byte)) (s : State) => ((((s.chan n).fsm = .acquire ∨ (s.chan n).fsm = .fragAcq)))) 27 [] (wRd .fragAcq)) ∧
    ((fun (n : Chan) (s : State) => (s.chan n).fsm = .searchP) 3 (wRd .searchP)) ∧
    ((fun (n : Chan) (d : SDesc) (s : State) => (s.chan n).sector = some d ∧ (s.chan n).fsm = .data ∧ (s.chan n).lastFrag = true) 3 ⟨5, 7, 0, false, 0⟩ (wRd .data)) ∧
    ((fun (n : Chan) (d : SDesc) (s : State) => (s.chan n).sector = some d ∧ (s.chan n).fsm = .nosync ∧ (s.chan n).lastFrag = true) 24 ⟨5, 7, 0, false, 0⟩ (wRd .nosync)) ∧
    ((fun (n : Chan) (adc : List (Byte × Byte)) (c : ChanU) (s : State) => (((s.chan n).fsm ≠ .idle) ∧ ((s.rxCfg n).take (adc.map (fun e => (e.1.toInt, e.2.toInt))) (s.chan n) = c) ∧ (0 < c.rx.started))) 3 [(127, 0)] ((wTa.rxCfg 3).take [(127, 0)] (wTa.chan 3)) wTa) ∧
    ((fun (n : Chan) (adc : List (Byte × Byte)) (c : ChanU) (s : State) => (((s.chan n).fsm ≠ .idle) ∧ ((s.rxCfg n).take (adc.map (fun e => (e.1.toInt, e.2.toInt))) (s.chan n) = c))) 3 (List.replicate 32 (0, 0)) ((wTaA.rxCfg 3).take (List.replicate 32 (0, 0)) (wTaA.chan 3)) wTaA) ∧
    ((fun (n : Chan) (errs : List Int) (s : State) => (((s.chan n).fsm ≠ .idle) ∧ ((s.chan n).cur.has 5 = false) ∧ (errs.length = 256) ∧ (256 * s.cfgRd n (RCH_TR_CFG.LOCK_THRESH n) < errs.foldl (fun a e => a + e.natAbs) 0))) 3 (List.replicate 256 (-60)) (wRd .data)) ∧
    ((fun (n : Chan) (s : State) => (((s.on RCH_RET_STAT.PLANE_CAUSE = true ∨ s.on RCH_RET_CFG.FORCE_SEL = true)) ∧ ((s.chan n).selective = false) ∧ (s.chanPresent n = true) ∧ (s.chans.length = 28))) 3 (wOpen.wr RCH_RET_CFG.FORCE_SEL 1)) ∧
    ((fun (n : Chan) (s : State) => ((s.chanPresent n = true) ∧ ((s.chan n).fsm ≠ .idle))) 3 (wRd .data)) := by
  refine ⟨?_, ?_, ?_, ?_, ?_, ?_, ?_, ?_, ?_, ?_, ?_⟩ <;> decide +kernel

/-- ReadChannelStore: a state and operands that meet the hypotheses of each clause. -/
theorem test_witness_read_channel_store :
    ((fun (n : Chan) (slot : Fin 8) (seq : Word) (s : State) => (((s.slotOf n slot).seq = seq.toNat) ∧ ((s.slotOf n slot).state = 2) ∧ ((s.slotOf n slot).held = false) ∧ (((s.chan n).slots.filter (fun x => x.held)).length + 1 < s.rd RCH_RET_CFG.DEPTH))) 3 0 9 wSlots) ∧
    ((fun (n : Chan) (i q : Nat) (l : List (Nat × Nat)) (s : State) => (((s.chan n).holdWaits = (i, q) :: l) ∧ ((s.slotOf n i).seq = q) ∧ ((s.slotOf n i).state = 2) ∧ ((s.slotOf n i).held = false) ∧ (((s.chan n).slots.filter (fun x => x.held)).length + 1 < s.rd RCH_RET_CFG.DEPTH))) 3 0 9 [] { wSlots with chans := wSlots.chans.map (fun c => { c with holdWaits := [(0, 9)] }) }) ∧
    ((fun (w : Initiator) (n : Chan) (v : Word) (s : State) => ((s.mayWrite w = true) ∧ (s.chanPresent n = true) ∧ ((s.chan n).coefQ.length < 64) ∧ ((coefWidth (s.rd (RCH_COEF_ADDR.WORD n))).isSome = true) ∧ (s.chans.length = 28))) .host 3 77 (wOpen.wrs [(RCH_COEF_ADDR.WORD 3, 65), (RCH_COEF_ADDR.AUTO 3, 1)])) ∧
    ((fun (n : Chan) (v : Word) (s : State) => ((s.mayWrite .host = true) ∧ (s.chanPresent n = true) ∧ (64 ≤ (s.chan n).coefQ.length))) 3 77 { wOpen with chans := wOpen.chans.map (fun c => { c with coefQ := List.replicate 64 (1, 2) }) }) ∧
    ((fun (n : Chan) (l : List (Nat × Nat)) (k v b : Nat) (s : State) => (((s.chan n).gate = false) ∧ ((s.chan n).coefQ = l ++ [(k, v)]) ∧ (coefWidth (k % 2048) = some b))) 3 [(1, 5), (65, 9)] 65 1025 10 { wOpen with chans := wOpen.chans.map (fun c => { c with coefQ := [(1, 5), (65, 9), (65, 1025)] }) }) ∧
    ((fun (w : Initiator) (a : Act) (pos : BitVec 3) (s : State) => ((s.mayWrite w = true) ∧ (pos.toNat < 6) ∧ (s.headPresent (a * 6 + pos.toNat) = true) ∧ (s.spareFree a = true))) .host 2 5 wOpen) ∧
    ((fun (w : Initiator) (a : Act) (pos : BitVec 3) (s : State) => ((s.mayWrite w = true) ∧ (pos.toNat < 6) ∧ (s.spareSub a = some pos.toNat) ∧ (s.on (RCH_MAP.FENCED (a * 6 + pos.toNat)) = false) ∧ (s.chans.length = 28))) .helm 2 5 (wOpen.setSpareMap 2 5 true)) ∧
    ((fun (w : Initiator) (a : Act) (pos : BitVec 3) (s : State) => ((s.mayWrite w = true) ∧ (pos.toNat < 6) ∧ (s.headPresent (a * 6 + pos.toNat) = true) ∧ (s.spareFree a = true))) .host 0 4 wOpen) ∧
    ((fun (w : Initiator) (a : Act) (pos : BitVec 3) (s : State) => ((s.mayWrite w = true) ∧ (pos.toNat < 6) ∧ (s.isShadow (24 + a) = true) ∧ (s.rd (RCH_MAP.POS (24 + a)) = pos.toNat))) .host 0 4 (wOpen.wrs [(RCH_MAP.POS 24, 4), (RCH_MAP.ROLE 24, 2)])) := by
  refine ⟨?_, ?_, ?_, ?_, ?_, ?_, ?_, ?_, ?_⟩ <;> decide +kernel

/-- DecoderCommands: a state and operands that meet the hypotheses of each clause. -/
theorem test_witness_decoder_commands :
    ((fun (d : DSect) (s : State) => ((s.dec.waiting.find? s.goesToAlign = some d))) { wDS with sw0 := 700 } (({ (wDec .quick wDS) with dec := { (wDec .quick wDS).dec with waiting := [wDS, { wDS with sw0 := 700 }] } } : State).wr DEC_CFG.ALIGN_EN 1)) ∧
    ((fun (d : DSect) (l : List DSect) (s : State) => ((s.dec.waiting = d :: l) ∧ (s.dec.waiting.find? s.goesToAlign = none) ∧ ((∃ e, e < 32 ∧ s.engInService e = true ∧ (s.eng e).job = none ∧ (sparseGet [] s.dec.slots (28 + e)).length < 8)) ∧ (s.dec.engines.length = 36))) wDS [] { (wDec .quick wDS) with dec := { (wDec .quick wDS).dec with waiting := [wDS] } }) ∧
    ((fun (e : Fin 32) (word : BitVec 37120) (flips : List (BitVec 18)) (d : DSect) (s : State) => (((s.eng e).job = some (d, .quick)) ∧ ((s.eng e).dropping = false) ∧ (syndromeWeight word.toNat = 0) ∧ (parityBroken (flips.map (fun f => f.toNat)) = false) ∧ (s.on DEC_CFG.EARLY_STOP = true))) 3 0 [] wDS (wDec .quick wDS)) ∧
    ((fun (e : Fin 32) (word : BitVec 37120) (flips : List (BitVec 18)) (d : DSect) (s : State) => (((s.eng e).job = some (d, .quick)) ∧ ((s.eng e).dropping = false) ∧ (syndromeWeight word.toNat ≠ 0) ∧ (parityBroken (flips.map (fun f => f.toNat)) = false) ∧ ((s.eng e).iter + 1 < (s.eng e).limit))) 3 1 [5, 6] wDS (wDec .quick wDS)) ∧
    ((fun (e : Fin 4) (sw : Nat) (d : DSect) (sh : Int) (l : List Int) (s : State) => (((s.eng (32 + e)).job = some (d, .trial)) ∧ ((s.eng (32 + e)).dropping = false) ∧ (sw = syndromeWeight (hardBits (s.sectorLlrs d.chan (s.eng (32 + e)).local1.desc (s.eng (32 + e)).local1.samples d.shift))) ∧ (s.rd DEC_CFG.SW_ALIGN ≤ sw) ∧ (d.shifts = sh :: l))) 0 (syndromeWeight (hardBits (((wTrial .trial { wDS with shifts := [1, -1] }).wr DEC_CFG.SW_ALIGN 0).sectorLlrs 3 (((wTrial .trial { wDS with shifts := [1, -1] }).wr DEC_CFG.SW_ALIGN 0).eng 32).local1.desc (((wTrial .trial { wDS with shifts := [1, -1] }).wr DEC_CFG.SW_ALIGN 0).eng 32).local1.samples { wDS with shifts := [1, -1] }.shift))) { wDS with shifts := [1, -1] } 1 [-1] ((wTrial .trial { wDS with shifts := [1, -1] }).wr DEC_CFG.SW_ALIGN 0)) ∧
    ((fun (e : Fin 4) (sw i q : Nat) (d : DSect) (sh : Int) (l : List Int) (s : State) => (((s.eng (32 + e)).job = some (d, .trialLoad)) ∧ ((s.eng (32 + e)).dropping = false) ∧ (d.slot = some (i, q)) ∧ (s.slotHolds d = true) ∧ (s.slotHeld d = true) ∧ (sw = syndromeWeight (hardBits ((s.loadSlot (32 + e) d).sectorLlrs d.chan ((s.loadSlot (32 + e) d).eng (32 + e)).local1.desc ((s.loadSlot (32 + e) d).eng (32 + e)).local1.samples d.shift))) ∧ (s.rd DEC_CFG.SW_ALIGN ≤ sw) ∧ (d.shifts = sh :: l))) 0 (syndromeWeight (hardBits ((((wTrial .trialLoad { wDS with shifts := [1, -1] }).wr DEC_CFG.SW_ALIGN 0).loadSlot 32 { wDS with shifts := [1, -1] }).sectorLlrs 3 ((((wTrial .trialLoad { wDS with shifts := [1, -1] }).wr DEC_CFG.SW_ALIGN 0).loadSlot 32 { wDS with shifts := [1, -1] }).eng 32).local1.desc ((((wTrial .trialLoad { wDS with shifts := [1, -1] }).wr DEC_CFG.SW_ALIGN 0).loadSlot 32 { wDS with shifts := [1, -1] }).eng 32).local1.samples { wDS with shifts := [1, -1] }.shift))) 0 9 { wDS with shifts := [1, -1] } 1 [-1] ((wTrial .trialLoad { wDS with shifts := [1, -1] }).wr DEC_CFG.SW_ALIGN 0)) ∧
    ((fun (e : Fin 4) (sw b : Nat) (d : DSect) (s : State) => (((s.eng (32 + e)).job = some (d, .trial)) ∧ ((s.eng (32 + e)).dropping = false) ∧ (sw = syndromeWeight (hardBits (s.sectorLlrs d.chan (s.eng (32 + e)).local1.desc (s.eng (32 + e)).local1.samples d.shift))) ∧ (sw < s.rd DEC_CFG.SW_ALIGN) ∧ (s.freeBuf = some b))) 0 (syndromeWeight (hardBits (((wTrial .trial { wDS with shifts := [1, -1] }).wr DEC_CFG.SW_ALIGN 5000).sectorLlrs 3 (((wTrial .trial { wDS with shifts := [1, -1] }).wr DEC_CFG.SW_ALIGN 5000).eng 32).local1.desc (((wTrial .trial { wDS with shifts := [1, -1] }).wr DEC_CFG.SW_ALIGN 5000).eng 32).local1.samples { wDS with shifts := [1, -1] }.shift))) 1 { wDS with shifts := [1, -1] } ((wTrial .trial { wDS with shifts := [1, -1] }).wr DEC_CFG.SW_ALIGN 5000)) ∧
    ((fun (e : Fin 4) (i q : Nat) (d : DSect) (s : State) => (((s.eng (32 + e)).job = some (d, .deepLoad)) ∧ ((s.eng (32 + e)).dropping = false) ∧ (d.slot = some (i, q)) ∧ (s.slotHolds d = true) ∧ (s.slotHeld d = true))) 0 0 9 wDS (wTrial .deepLoad wDS)) ∧
    ((fun (e : Fin 4) (d : DSect) (s : State) => (((s.eng (32 + e)).job = some (d, .deepLoad)) ∧ ((s.eng (32 + e)).dropping = false) ∧ (s.slotHolds d = true) ∧ (s.slotHeld d = false))) 0 wDS (wDec .deepLoad wDS)) ∧
    ((fun (e : Fin 4) (word : BitVec 37120) (d : DSect) (s : State) => (((s.eng (32 + e)).job = some (d, .deep)) ∧ ((s.eng (32 + e)).dropping = false) ∧ (syndromeWeight word.toNat = 0) ∧ (s.on DEC_CFG.EARLY_STOP = true))) 0 0 wDS (wDec .deep wDS)) ∧
    ((fun (e : Fin 4) (word : BitVec 37120) (d : DSect) (s : State) => (((s.eng (32 + e)).job = some (d, .deep)) ∧ ((s.eng (32 + e)).dropping = false) ∧ (syndromeWeight word.toNat ≠ 0) ∧ ((s.eng (32 + e)).iter + 1 < (s.eng (32 + e)).limit) ∧ (s.dec.trialQ = []))) 0 9 wDS (wDec .deep wDS)) ∧
    ((fun (r : CRec) (l : List CRec) (s : State) => ((s.dec.trace = r :: l))) ⟨1, 2, 0, 2, 0, 0, 0, 0, 0, 0, false⟩ [] { wOpen with dec := { wOpen.dec with trace := [⟨1, 2, 0, 2, 0, 0, 0, 0, 0, 0, false⟩] } }) := by
  refine ⟨?_, ?_, ?_, ?_, by exact ⟨by decide +kernel, by decide +kernel, rfl, le_of_eq_of_le (b := 0) (by decide +kernel) (Nat.zero_le _), rfl⟩, by exact ⟨by decide +kernel, by decide +kernel, by decide +kernel, by decide +kernel, by decide +kernel, rfl, le_of_eq_of_le (b := 0) (by decide +kernel) (Nat.zero_le _), rfl⟩, by exact ⟨by decide +kernel, by decide +kernel, rfl, Nat.lt_of_le_of_lt (syndromeWeight_le _) (by decide +kernel), by decide +kernel⟩, ?_, ?_, ?_, ?_, ?_⟩ <;> decide +kernel

/-- BufferMemory: a state and operands that meet the hypotheses of each clause. -/
theorem test_witness_buffer_memory :
    ((fun (port : Fin 16) (chan : Byte) (page : Fin 16384) (beat : Fin 128) (beats : Nat) (s : State) => ((burstFits beat beats = true) ∧ ((s.pageInfo page).retired = false) ∧ (s.mayAccess port page false = true) ∧ (s.watch.armed = none) ∧ (s.mem.flips = []))) 11 3 12000 2 2 { wOpen with mem := { wOpen.mem with bytes := [(49152064, 7), (49152100, 9)] } }) ∧
    ((fun (port : Fin 16) (page : Fin 16384) (beat : Fin 128) (data : List (Option Byte)) (s : State) => ((data.length % 32 = 0) ∧ (burstFits beat (data.length / 32) = true) ∧ ((s.pageInfo page).retired = false) ∧ (s.mayAccess port page true = true) ∧ (s.watch.armed = none))) 11 12000 2 (List.replicate 31 none ++ [some 5] ++ List.replicate 30 (some 3) ++ [none, some 0]) { wOpen with mem := { wOpen.mem with bytes := [(49152127, 7), (49152100, 9)] } }) ∧
    ((fun (port : Fin 16) (page : Fin 16384) (beat : Fin 128) (data : List (Option Byte)) (s : State) => ((data.length % 32 = 0) ∧ (burstFits beat (data.length / 32) = true) ∧ (((s.pageInfo page).retired = true ∨ s.mayAccess port page true = false)))) 3 12000 2 (List.replicate 32 (some 1)) { wOpen with mem := { wOpen.mem with pages := [(12000, { PageInfo.blank with retired := true })] } }) ∧
    ((fun (e : ElogEnt) (l : List ElogEnt) (s : State) => ((s.mem.elog = e :: l))) ⟨1, 2, 3, 0, 1, 4, 5, false, 77⟩ [] { wOpen with mem := { wOpen.mem with elog := [⟨1, 2, 3, 0, 1, 4, 5, false, 77⟩] } }) := by
  refine ⟨?_, ?_, ?_, ?_⟩ <;> decide +kernel

/-- BufferUpkeep: a state and operands that meet the hypotheses of each clause. -/
theorem test_witness_buffer_upkeep :
    ((fun (f w i b : Nat) (q : List (Nat × Nat)) (s : State) => ((s.on MEM_CTRL.SCRUB_EN = true) ∧ (s.mem.corrQ = (f, w) :: q) ∧ (i < 32) ∧ (b < 13) ∧ (s.mem.flips = [(f * 4096 + 32 * w + i, 2 ^ b)]))) 5 6 7 3 [] (({ wOpen with mem := { wOpen.mem with corrQ := [(5, 6)], flips := [(5 * 4096 + 32 * 6 + 7, 8)], bytes := [(5 * 4096 + 32 * 6 + 7, 0x5A)] } } : State).wr MEM_CTRL.SCRUB_EN 1)) ∧
    ((fun (f w i b : Nat) (q : List (Nat × Nat)) (s : State) => ((s.on MEM_CTRL.SCRUB_EN = true) ∧ (s.mem.corrQ = (f, w) :: q) ∧ (i < 32) ∧ (b < 13) ∧ (s.mem.flips = [(f * 4096 + 32 * w + i, 2 ^ b)]))) 5 6 7 12 [(1, 1)] (({ wOpen with mem := { wOpen.mem with corrQ := [(5, 6), (1, 1)], flips := [(5 * 4096 + 32 * 6 + 7, 4096)], bytes := [(5 * 4096 + 32 * 6 + 7, 0x5A)] } } : State).wr MEM_CTRL.SCRUB_EN 1)) ∧
    ((fun (s : State) => ((s.on MEM_CTRL.SCRUB_EN = true) ∧ (s.mem.corrQ = []) ∧ (s.mem.flips = []) ∧ (s.rd MEM_SCRUB_STAT.WORD < 127) ∧ (s.mem.retFrames.contains (s.rd MEM_SCRUB_STAT.FRAME) = false))) (wOpen.wr MEM_CTRL.SCRUB_EN 1)) ∧
    ((fun (frame : Fin 16384) (p : Nat) (s : State) => ((s.mem.retFrames.contains frame.val = false) ∧ (s.pageOfFrame frame = some p) ∧ (s.pageState p = 0) ∧ (s.frameOf p = frame))) 12000 12000 { wOpen with mem := { wOpen.mem with free := [8000, 12000] } }) ∧
    ((fun (p d : Nat) (q : List Nat) (s : State) => ((s.mem.migQ = p :: q) ∧ (s.mem.free = [d]) ∧ (s.mem.banks.contains (s.frameOf d % 32) = false) ∧ (p ≠ d))) 100 12000 [] { wOpen with mem := { wOpen.mem with migQ := [100], free := [12000] } }) ∧
    ((fun (w : Initiator) (tag : BitVec 14) (count : BitVec 11) (s : State) => ((s.mayWrite w = true) ∧ (count ≠ 0) ∧ (count.toNat ≤ 1024) ∧ (s.pageMap? tag.toNat = none) ∧ (count.toNat ≤ s.mem.free.length) ∧ ((count.toNat + 29) / 30 ≤ (s.freeBlocks ((count.toNat + 29) / 30)).length))) .helm 0x2005 2 (({ wOpen with mem := { wOpen.mem with free := [8000, 12000, 9001] } } : State).wr MEM_MAP_CFG.MAP_BLOCKS 64)) ∧
    ((fun (tag : BitVec 14) (m : PageMap) (s : State) => ((s.pageMap? tag.toNat = some m) ∧ ((∀ e ∈ m.ents, (s.pageInfo e.page).rp = false)) ∧ ((m.ents.map (fun e => e.page)).Nodup))) 0x2005 ⟨0x2005, [0], [⟨8000, false, false, false⟩]⟩ { wOpen with mem := { wOpen.mem with maps := [⟨0x2005, [0], [⟨8000, false, false, false⟩]⟩] } }) ∧
    ((fun (p : Fin 2) (s : State) => ((s.isFenced (.plane 0) = false) ∧ (s.isFenced (.plane 1) = false))) 1 wOpen) := by
  refine ⟨?_, ?_, ?_, ?_, ?_, ?_, ?_, ?_⟩ <;> decide +kernel

/-- ControlBell: a state and operands that meet the hypotheses of each clause. -/
theorem test_witness_control_bell :
    ((fun (x : LaneInputs) (s : State) => ((s.on CTL_CTRL.EN = true) ∧ (s.sys.inReset = false) ∧ (s.drivesOff = false) ∧ (s.gated 5 = false) ∧ (s.ctl.lastBell < s.bell))) ⟨[], ⟨0, none, none, false, false⟩, true, true, []⟩ { (wCtl id) with bell := 5 }) ∧
    ((fun (x : LaneInputs) (s : State) => ((s.on CTL_CTRL.EN = true) ∧ (s.sys.inReset = false) ∧ (s.drivesOff = false) ∧ (s.gated 5 = false) ∧ (s.ctl.lastBell < s.bell))) ⟨[⟨28, some 5, none, true, false⟩], ⟨0, none, none, false, false⟩, true, true, [⟨1, 1, 0, 95, 3⟩]⟩ (({ (wCtl id) with bell := 5 } : State).wrs [(CTL_STATUS.STATE 28, 1), (CTL_STATUS.STATE 11, 1), (CTL_STATUS.STATE 1, 1)])) ∧
    ((fun (h : Head) (s : State) => ((s.headLoaded h = true) ∧ (s.on (CTL_CFG.AUTO_CLOSE (4 + h)) = true) ∧ (s.loopState (4 + h) = 0) ∧ ((s.act (h / 6)).sinceEnd.isSome = true) ∧ (s.rd CTL_SETTLE_CFG.SETTLE_N ≤ (s.loop (4 + h)).settleRun) ∧ (bitOf (s.rd MOT_MA_FAULT.MASK) h = false) ∧ (s.setsOk (4 + h) = true))) 7 (({ (wCtl (fun l => { l with settleRun := 100 })) with ctl := { (wCtl (fun l => { l with settleRun := 100 })).ctl with acts := wOpen.ctl.acts.map (fun c => { c with sinceEnd := some 3 }) } } : State).wr (CTL_CFG.AUTO_CLOSE 11) 1)) ∧
    ((fun (a : Act) (b : Nat) (s : State) => (((s.act a).sinceEnd = some b) ∧ (s.rd CTL_SETTLE_CFG.SETTLE_MAX < b) ∧ (s.on (CTL_STATUS.SETTLED a) = false) ∧ (s.mot.reload.length = 4))) 1 100000 { (wCtl id) with ctl := { (wCtl id).ctl with acts := wOpen.ctl.acts.map (fun c => { c with sinceEnd := some 100000 }) } }) ∧
    ((fun (a : Act) (b : Nat) (s : State) => (((s.act a).sinceEnd = some b) ∧ (s.rd CTL_SETTLE_CFG.SETTLE_MAX < b) ∧ (s.on (CTL_STATUS.SETTLED a) = false) ∧ (s.mot.reload.length = 4))) 1 100000 { (wCtl id) with ctl := { (wCtl id).ctl with acts := wOpen.ctl.acts.map (fun c => { c with sinceEnd := some 100000, timeouts := 1 }) } }) ∧
    ((fun (a : Act) (b : Nat) (s : State) => (((s.act a).loadBells = some b) ∧ (s.rd CTL_HO_CFG.LOAD_LOCK ≤ b) ∧ ((s.headsOf a).any (fun h => s.srvState h == 2) = false))) 1 100000 (({ (wCtl id) with ctl := { (wCtl id).ctl with acts := wOpen.ctl.acts.map (fun c => { c with loadBells := some 100000 }) } } : State).wr (SRV_STATUS.STATE 7) 1)) ∧
    ((fun (h : Head) (s : State) => ((16 ≤ (s.loop (4 + h)).satRun) ∧ ((s.head h).inhSat = false) ∧ (s.wrp.heads.length = 24))) 7 (wCtl (fun l => { l with satRun := 16 }))) ∧
    ((fun (h : Head) (s : State) => ((16 ≤ (s.loop (4 + h)).freeRun) ∧ ((s.head h).inhSat = true))) 7 { (wCtl (fun l => { l with freeRun := 16 })) with wrp := { wOpen.wrp with heads := wOpen.wrp.heads.map (fun u => { u with inhSat := true }) } }) := by
  refine ⟨?_, ?_, ?_, ?_, ?_, ?_, ?_, ?_⟩ <;> decide +kernel

/-- OscillationAndLoops: a state and operands that meet the hypotheses of each clause. -/
theorem test_witness_oscillation_and_loops :
    ((fun (n : LoopN) (s : State) => ((s.loopPresent n = true) ∧ ((s.loop n).stage = 0) ∧ (s.rd (CTL_OSC_CFG.OSC_BELLS n) ≤ (s.loop n).count) ∧ (s.ctl.loops.length = 29))) 11 (wCtl (fun l => { l with count := 5000000 }))) ∧
    ((fun (n : LoopN) (s : State) => ((s.loopPresent n = true) ∧ ((s.loop n).stage = 0) ∧ (s.rd (CTL_OSC_CFG.OSC_BELLS n) ≤ (s.loop n).count) ∧ (s.ctl.loops.length = 29))) 28 { (wWr []) with ctl := (wCtl (fun l => { l with count := 5000000 })).ctl, wrp := { (wWr []).wrp with heads := (wWr []).wrp.heads.map (fun u => { u with gate := some (5, true) }) } }) ∧
    ((fun (n : LoopN) (s : State) => ((s.loopPresent n = true) ∧ ((s.loop n).stage = 1) ∧ (2 * s.rd (CTL_OSC_CFG.OSC_BELLS n) ≤ (s.loop n).count))) 11 ((wCtl (fun l => { l with count := 5000000, stage := 1 })).wr (CTL_CFG.SAFE_SET 11) 3)) ∧
    ((fun (n : LoopN) (s : State) => ((s.loopPresent n = true) ∧ ((s.loop n).stage = 2) ∧ (3 * s.rd (CTL_OSC_CFG.OSC_BELLS n) ≤ (s.loop n).count) ∧ ((s.loopState n = 1 ∨ s.loopState n = 2)))) 1 ((wCtl (fun l => { l with count := 5000000, stage := 2 })).wr (CTL_STATUS.STATE 1) 1)) ∧
    ((fun (n : LoopN) (s : State) => ((s.loopPresent n = true) ∧ ((s.loop n).stage = 2) ∧ (3 * s.rd (CTL_OSC_CFG.OSC_BELLS n) ≤ (s.loop n).count) ∧ ((s.loopState n = 1 ∨ s.loopState n = 2)))) 28 ((wCtl (fun l => { l with count := 5000000, stage := 2 })).wr (CTL_STATUS.STATE 28) 2)) ∧
    ((fun (n : LoopN) (s : State) => ((s.loopPresent n = true) ∧ (s.rd (CTL_OSC_CFG.OSC_BELLS n) ≤ (s.loop n).quiet) ∧ (0 < (s.loop n).count))) 11 (wCtl (fun l => { l with count := 7, quiet := 5000000 }))) ∧
    ((fun (n : LoopN) (s : State) => ((s.loopPresent n = true) ∧ (s.rd (CTL_OSC_CFG.OSC_BELLS n) ≤ (s.loop n).quiet) ∧ (0 < (s.loop n).count))) 2 (wCtl (fun l => { l with count := 7, quiet := 5000000 }))) ∧
    ((fun (w : Initiator) (n : LoopN) (s : State) => ((s.mayWrite w = true) ∧ (s.loopPresent n = true) ∧ (s.loopState n = 0) ∧ (s.setsOk n = true) ∧ (s.trimSeeks n = false) ∧ ((n.val < 4 → (s.headsOf n).any (fun h => s.srvState h == 2) = true)) ∧ ((4 ≤ n.val → n.val < 28 → bitOf (s.rd MOT_MA_FAULT.MASK) (n - 4) = false)))) .host 11 (wCtl id)) ∧
    ((fun (w : Initiator) (n : LoopN) (s : State) => ((s.mayWrite w = true) ∧ (s.loopPresent n = true) ∧ (s.loopState n = 0) ∧ (s.setsOk n = true) ∧ (s.trimSeeks n = false) ∧ ((n.val < 4 → (s.headsOf n).any (fun h => s.srvState h == 2) = true)) ∧ ((4 ≤ n.val → n.val < 28 → bitOf (s.rd MOT_MA_FAULT.MASK) (n - 4) = false)))) .helm 1 (wCtl id)) ∧
    ((fun (w : Initiator) (n : LoopN) (s : State) => ((s.mayWrite w = true) ∧ (s.loopPresent n = true) ∧ (s.loopState n = 0) ∧ (s.setsOk n = true) ∧ (s.trimSeeks n = false) ∧ ((n.val < 4 → (s.headsOf n).any (fun h => s.srvState h == 2) = true)) ∧ ((4 ≤ n.val → n.val < 28 → bitOf (s.rd MOT_MA_FAULT.MASK) (n - 4) = false)))) .helm 28 (wCtl id)) ∧
    ((fun (w : Initiator) (n : LoopN) (s : State) => ((s.mayWrite w = true) ∧ (s.loopPresent n = true) ∧ (s.loopState n = 0) ∧ (s.setsOk n = false))) .host 12 (wCtl id)) ∧
    ((fun (w : Initiator) (n : LoopN) (s : State) => ((s.mayWrite w = true) ∧ (s.loopPresent n = true) ∧ ((s.loopState n = 1 ∨ s.loopState n = 2)) ∧ ((n.val < 4 → s.mode = .factory ∨ (s.headsOf n).any s.headLoaded = false)))) .host 11 ((wCtl id).wr (CTL_STATUS.STATE 11) 2)) ∧
    ((fun (w : Initiator) (n : LoopN) (s : State) => ((s.mayWrite w = true) ∧ (s.loopPresent n = true) ∧ ((s.loopState n = 1 ∨ s.loopState n = 2)) ∧ ((n.val < 4 → s.mode = .factory ∨ (s.headsOf n).any s.headLoaded = false)))) .helm 1 ((wCtl id).wrs [(CTL_STATUS.STATE 1, 1), (SYS_MODE.MODE, 4), (CTL_OUT.OUT 1, 5)])) ∧
    ((fun (w : Initiator) (n : LoopN) (s : State) => ((s.mayWrite w = true) ∧ (s.loopPresent n = true) ∧ (s.loopState n = 3) ∧ (s.ctl.loops.length = 29))) .host 11 ((wCtl (fun l => { l with count := 7, stage := 3 })).wrs [(CTL_STATUS.STATE 11, 3), (CTL_STATUS.OSC3 11, 1)])) := by
  refine ⟨?_, ?_, ?_, ?_, ?_, ?_, ?_, ?_, ?_, ?_, ?_, ?_, ?_, ?_⟩ <;> decide +kernel

/-- CoefficientsAndProfiles: a state and operands that meet the hypotheses of each clause. -/
theorem test_witness_coefficients_and_profiles :
    ((fun (w : Initiator) (v : Word) (s : State) => ((s.mayWrite w = true) ∧ (s.loopPresent (s.rd CTL_COEF_ADDR.LOOP) = true) ∧ ((s.loopState (s.rd CTL_COEF_ADDR.LOOP) = 0 ∨ s.loopState (s.rd CTL_COEF_ADDR.LOOP) = 3)) ∧ (coefExists (s.rd CTL_COEF_ADDR.LOOP) (s.rd CTL_COEF_ADDR.SET) (s.rd CTL_COEF_ADDR.WORD) = true) ∧ (s.rd CTL_COEF_ADDR.WORD ≠ 95))) .host 0x25 ((wCtl id).wrs [(CTL_COEF_ADDR.LOOP, 11), (CTL_COEF_ADDR.SET, 2), (CTL_COEF_ADDR.WORD, 41), (CTL_COEF_ADDR.AUTO, 1), (CTL_COEF_LO.VALUE, 0xFFFFFFFE)])) ∧
    ((fun (w : Initiator) (v : Word) (s : State) => ((s.mayWrite w = true) ∧ (s.loopPresent (s.rd CTL_COEF_ADDR.LOOP) = true) ∧ ((s.loopState (s.rd CTL_COEF_ADDR.LOOP) = 1 ∨ s.loopState (s.rd CTL_COEF_ADDR.LOOP) = 2)))) .host 0x25 ((wCtl id).wrs [(CTL_COEF_ADDR.LOOP, 11), (CTL_STATUS.STATE 11, 1)])) ∧
    ((fun (w : Initiator) (g : Fin 5) (s : State) => ((s.mayWrite w = true) ∧ (s.profPresent g = true) ∧ (s.on (PROF_STAT.BUSY g) = false) ∧ (s.ctl.profs.length = 5))) .host 1 ((wCtl id).wr (PROF_TARGET.TARGET 1) 777)) ∧
    ((fun (w : Initiator) (g : Fin 5) (s : State) => ((s.mayWrite w = true) ∧ (s.profPresent g = true) ∧ (s.on (PROF_STAT.BUSY g) = false) ∧ (s.ctl.profs.length = 5))) .helm 4 ((wCtl id).wr (PROF_TARGET.TARGET 4) 7200)) ∧
    ((fun (w : Initiator) (g : Fin 5) (s : State) => ((s.mayWrite w = true) ∧ (s.profPresent g = true) ∧ (s.on (PROF_STAT.BUSY g) = true))) .host 1 ((wCtl id).wr (PROF_STAT.BUSY 1) 1)) ∧
    ((fun (w : Initiator) (g : Fin 5) (p : Profile) (x : Int) (s : State) => ((s.mayWrite w = true) ∧ (s.ctl.profs.getD g none = some p) ∧ (p.fine (p.t - 1) = (x, 0, 0)))) .host 1 ⟨0, 4096, 3, 2, 1, 1, none, false⟩ 0 { (wCtl id) with ctl := { (wCtl id).ctl with profs := List.replicate 5 (some ⟨0, 4096, 3, 2, 1, 1, none, false⟩) } }) ∧
    ((fun (w : Initiator) (g : Fin 5) (p : Profile) (x v a : Int) (l : Nat × Nat) (r : StopRun) (s : State) => ((s.mayWrite w = true) ∧ (s.ctl.profs.getD g none = some p) ∧ (p.fine (p.t - 1) = (x, v, a)) ∧ ((v ≠ 0 ∨ a ≠ 0)) ∧ (s.profLimits g = some l) ∧ (nearestRest (stopRuns x v a l.1 l.2) = some r))) .host 1 ⟨0, 4096, 3, 2, 1, 4, none, false⟩ ((wStop.ctl.profs.getD 1 none).map (fun p => (p.fine 3).1) |>.getD 0) ((wStop.ctl.profs.getD 1 none).map (fun p => (p.fine 3).2.1) |>.getD 0) ((wStop.ctl.profs.getD 1 none).map (fun p => (p.fine 3).2.2) |>.getD 0) (1000, 400) ((nearestRest (stopRuns ((wStop.ctl.profs.getD 1 none).map (fun p => (p.fine 3).1) |>.getD 0) ((wStop.ctl.profs.getD 1 none).map (fun p => (p.fine 3).2.1) |>.getD 0) ((wStop.ctl.profs.getD 1 none).map (fun p => (p.fine 3).2.2) |>.getD 0) 1000 400)).getD ⟨0, 0, 0, 0, 0, 0, 0⟩) wStop) ∧
    ((fun (w : Initiator) (g : Fin 5) (p : Profile) (x v a : Int) (s : State) => ((s.mayWrite w = true) ∧ (s.ctl.profs.getD g none = some p) ∧ (p.fine (p.t - 1) = (x, v, a)) ∧ ((v ≠ 0 ∨ a ≠ 0)) ∧ ((s.profLimits g).bind (fun l => nearestRest (stopRuns x v a l.1 l.2)) = none))) .host 1 ⟨0, 4096, 3, 2, 1, 4, none, false⟩ ((wStop.ctl.profs.getD 1 none).map (fun p => (p.fine 3).1) |>.getD 0) ((wStop.ctl.profs.getD 1 none).map (fun p => (p.fine 3).2.1) |>.getD 0) ((wStop.ctl.profs.getD 1 none).map (fun p => (p.fine 3).2.2) |>.getD 0) { wStop with ctl := { wStop.ctl with coef := [[], []] } }) := by
  refine ⟨?_, ?_, ?_, ?_, ?_, ?_, ?_, ?_⟩ <;> decide +kernel

/-- SpindleDrive: a state and operands that meet the hypotheses of each clause. -/
theorem test_witness_spindle_drive :
    ((fun (s : State) => ((s.on WCH_INST.ANCHOR = false) ∧ (s.mode ≠ .rideThrough) ∧ (s.mode ≠ .halted) ∧ (s.loopState 28 ≠ 3) ∧ ((s.spState = 0 ∨ s.spState = 2 ∨ s.spState = 8 ∨ (s.spState = 9 ∧ s.on MOT_STATUS.PHASE_OPEN = false ∧ s.on MOT_STATUS.PHASE_SHORT = false))))) wOpen) ∧
    ((fun (s : State) => ((s.on WCH_INST.ANCHOR = false) ∧ (s.mode ≠ .rideThrough) ∧ (s.mode ≠ .halted) ∧ (s.loopState 28 ≠ 3) ∧ ((s.spState = 0 ∨ s.spState = 2 ∨ s.spState = 8 ∨ (s.spState = 9 ∧ s.on MOT_STATUS.PHASE_OPEN = false ∧ s.on MOT_STATUS.PHASE_SHORT = false))))) (wOpen.wr MOT_SP_STAT.STATE 8)) ∧
    ((fun (s : State) => ((s.on WCH_INST.ANCHOR = false) ∧ (s.mode ≠ .rideThrough) ∧ (s.mode ≠ .halted) ∧ (s.loopState 28 ≠ 3) ∧ ((s.spState = 0 ∨ s.spState = 2 ∨ s.spState = 8 ∨ (s.spState = 9 ∧ s.on MOT_STATUS.PHASE_OPEN = false ∧ s.on MOT_STATUS.PHASE_SHORT = false))))) (wOpen.wr MOT_SP_STAT.STATE 9)) ∧
    ((fun (s : State) => ((1 ≤ s.spState) ∧ (s.spState ≤ 7) ∧ (s.spState ≠ 2))) (wOpen.wrs [(MOT_SP_STAT.STATE, 7), (MOT_ASTATUS.STATE 1, 3)])) ∧
    ((fun (s : State) => ((1 ≤ s.spState) ∧ (s.spState ≤ 7) ∧ (s.spState ≠ 2))) (wOpen.wrs [(MOT_SP_STAT.STATE, 4), (MOT_SP_STAT.START_PENDING, 1)])) ∧
    ((fun (s : State) => ((s.spState = 1))) (wOpen.wr MOT_SP_STAT.STATE 1)) ∧
    ((fun (v : Nat) (s : State) => ((s.spState = 1))) 3000 (wOpen.wrs [(MOT_SP_STAT.STATE, 1), (MOT_SP_CFG.CATCH_MIN, 10)])) ∧
    ((fun (v : Nat) (s : State) => ((s.spState = 1))) 100 (wOpen.wrs [(MOT_SP_STAT.STATE, 1), (MOT_SP_CFG.CATCH_MIN, 10)])) ∧
    ((fun (v : Nat) (s : State) => ((s.spState = 1))) 300 (wOpen.wr MOT_SP_STAT.STATE 1)) ∧
    ((fun (s : State) => ((s.spState = 2) ∧ (s.mot.brakeWait = false))) (wOpen.wrs [(MOT_SP_STAT.STATE, 2), (MOT_SP_STAT.START_PENDING, 1)])) ∧
    ((fun (s : State) => ((s.spState = 2) ∧ (s.mot.brakeWait = false))) (wOpen.wrs [(MOT_SP_STAT.STATE, 2)])) ∧
    ((fun (s : State) => ((s.spState = 3))) (wOpen.wrs [(MOT_SP_STAT.STATE, 3)])) ∧
    ((fun (s : State) => ((s.spState = 4))) (wOpen.wrs [(MOT_SP_STAT.STATE, 4)])) ∧
    ((fun (s : State) => ((s.spState = 4))) (wOpen.wrs [(MOT_SP_STAT.STATE, 4)])) ∧
    ((fun (s : State) => ((s.spState = 4))) ({ wOpen with mot := { wOpen.mot with swaps := 1 } } |>.wrs [(MOT_SP_STAT.STATE, 4)])) ∧
    ((fun (s : State) => ((s.spState = 4))) (wOpen.wrs [(MOT_SP_STAT.STATE, 4)])) ∧
    ((fun (s : State) => ((s.spState = 4))) ({ wOpen with mot := { wOpen.mot with startFails := 2 } } |>.wrs [(MOT_SP_STAT.STATE, 4)])) ∧
    ((fun (locked : Bool) (rpm : BitVec 16) (s : State) => ((s.spState = 5) ∧ (s.rd MOT_SP_STAT.ATTEMPTS < 3))) true 3000 (wOpen.wrs [(MOT_SP_STAT.STATE, 5)])) ∧
    ((fun (locked : Bool) (rpm : BitVec 16) (s : State) => ((s.spState = 5) ∧ (s.rd MOT_SP_STAT.ATTEMPTS < 3))) false 3000 (wOpen.wrs [(MOT_SP_STAT.STATE, 5), (MOT_SP_STAT.ATTEMPTS, 2)])) ∧
    ((fun (s : State) => (((s.spState = 3 ∨ s.spState = 4 ∨ s.spRunning = true ∨ s.spState = 8)))) (wOpen.wrs [(MOT_SP_STAT.STATE, 7)])) := by
  refine ⟨?_, ?_, ?_, ?_, ?_, ?_, ?_, ?_, ?_, ?_, ?_, ?_, ?_, ?_, ?_, ?_, ?_, ?_, ?_, ?_⟩ <;> decide +kernel

/-- MotorUpdates: a state and operands that meet the hypotheses of each clause. -/
theorem test_witness_motor_updates :
    ((fun (half : Bool) (o : ObsMeas) (s : State) => ((s.sys.inReset = false) ∧ (s.mode ≠ .bringUp) ∧ (s.mode ≠ .halted))) false ⟨true, 7200, false, 0, 100, 5⟩ { (wOpen.wrs [(MOT_SP_STAT.STATE, 6)]) with mot := { wOpen.mot with allOff := true } }) ∧
    ((fun (half : Bool) (o : ObsMeas) (s : State) => ((s.sys.inReset = false) ∧ (s.mode ≠ .bringUp) ∧ (s.mode ≠ .halted))) true ⟨true, 7200, false, 0, 100, 5⟩ { (wOpen.wrs [(MOT_SP_STAT.STATE, 8)]) with mot := { wOpen.mot with allOff := true } }) ∧
    ((fun (s : State) => ((s.spState = 6) ∧ (256 ≤ s.mot.learn) ∧ (s.on MOT_ENC_OFS.VALID = false))) { (wOpen.wrs [(MOT_SP_STAT.STATE, 6)]) with mot := { wOpen.mot with learn := 256, learnBase := -5, learnSum := 700, learnLo := -3, learnHi := 1020 } }) ∧
    ((fun (s : State) => ((s.spState = 6) ∧ (256 ≤ s.mot.learn) ∧ (s.on MOT_ENC_OFS.VALID = false))) { (wOpen.wrs [(MOT_SP_STAT.STATE, 6)]) with mot := { wOpen.mot with learn := 256, learnLo := -3, learnHi := 1021 } }) ∧
    ((fun (s : State) => ((s.spState = 7) ∧ (64 ≤ s.mot.drift))) { (wOpen.wrs [(MOT_SP_STAT.STATE, 7)]) with mot := { wOpen.mot with drift := 64, obsOk := true } }) ∧
    ((fun (s : State) => ((s.sys.inReset = false) ∧ (s.mode ≠ .halted))) (wOpen.wr (CTL_OUT.OUT 7) 500)) ∧
    ((fun (v : BitVec 112) (s : State) => ((bitsOf v.toNat 111 104 = 0x5A) ∧ (crc8 v.toNat 104 0xFF = v.toNat % 256))) (0x5A00000000000000000000001200 + (BitVec.ofNat 112 (crc8 0x5A00000000000000000000001200 104 0xFF))) { wOpen with mot := { wOpen.mot with badWords := 1 } }) ∧
    ((fun (v : BitVec 112) (s : State) => ((bitsOf v.toNat 111 104 = 0x5A) ∧ (crc8 v.toNat 104 0xFF = v.toNat % 256))) (0x5A00000000000000200000001200 + (BitVec.ofNat 112 (crc8 0x5A00000000000000200000001200 104 0xFF))) { wOpen with mot := { wOpen.mot with badWords := 1 } }) ∧
    ((fun (v : BitVec 112) (s : State) => (((bitsOf v.toNat 111 104 ≠ 0x5A ∨ crc8 v.toNat 104 0xFF ≠ v.toNat % 256)))) 0x5B00000000000000000000001200 { wOpen with mot := { wOpen.mot with badWords := 1 } }) ∧
    ((fun (h : Head) (s : State) => ((s.headPresent h = true) ∧ (bitOf (s.rd MOT_MA_FAULT.MASK) h = false) ∧ ((4 ≤ s.mot.ocRun.getD h 0 ∨ 4 ≤ s.mot.openRun.getD h 0)))) 7 { wOpen with mot := { wOpen.mot with ocRun := List.replicate 24 4 } }) ∧
    ((fun (sample : Bool) (code : BitVec 12) (k : Nat) (s : State) => ((s.gated 5 = false) ∧ ((s.adcNext sample).2 = k) ∧ (k < 16))) false 100 7 { wOpen with mot := { wOpen.mot with adcCyc := 4, pairLeft := 0 } }) ∧
    ((fun (sample : Bool) (code : BitVec 12) (k : Nat) (s : State) => ((s.gated 5 = false) ∧ ((s.adcNext sample).2 = k) ∧ (k < 16))) false 100 9 { wOpen with mot := { wOpen.mot with adcCyc := 1, pairLeft := 0 } }) ∧
    ((fun (sample : Bool) (code : BitVec 12) (k : Nat) (s : State) => ((s.gated 5 = false) ∧ ((s.adcNext sample).2 = k) ∧ (k < 16))) true 4095 2 { wOpen with mot := { wOpen.mot with drive := { wOpen.mot.drive with pair := (2, 0) } } }) ∧
    ((fun (g : Fin 2) (s : State) => ((s.genFenced g = false) ∧ (s.genFenced (1 - g.val) = false))) 0 wOpen) ∧
    ((fun (g : Fin 2) (s : State) => ((s.genFenced g = false) ∧ (s.genFenced (1 - g.val) = false))) 1 wOpen) ∧
    ((fun (g : Fin 2) (s : State) => ((s.genFenced g = false) ∧ (s.genFenced (1 - g.val) = true))) 0 (wOpen.wr MOT_PWM_STAT.B_FENCED 1)) ∧
    ((fun (s : State) => ((s.genFenced 0 = false) ∧ (s.genFenced 1 = false) ∧ (s.mot.reloaded = false))) wOpen) := by
  refine ⟨?_, ?_, ?_, ?_, ?_, ?_, ?_, ?_, ?_, ?_, ?_, ?_, ?_, ?_, ?_, ?_, ?_⟩ <;> decide +kernel

/-- Actuators: a state and operands that meet the hypotheses of each clause. -/
theorem test_witness_actuators :
    ((fun (w : Initiator) (a : Act) (s : State) => ((s.mayWrite w = true) ∧ (s.actPresent a = true) ∧ (s.actState a = 0) ∧ (s.loadSpeedOk = true) ∧ (s.on (MOT_ASTATUS.POL_OK a) = true))) .helm 1 (wOpen.wrs [(MOT_SP_STAT.STATE, 7), (MOT_SPEED.RPM, 7200), (PROF_TARGET.TARGET 4, 7200), (MOT_ASTATUS.POL_OK 1, 1)])) ∧
    ((fun (w : Initiator) (a : Act) (s : State) => ((s.mayWrite w = true) ∧ (s.actPresent a = true) ∧ (s.actState a = 0) ∧ ((s.loadSpeedOk = false ∨ s.on (MOT_ASTATUS.POL_OK a) = false)))) .helm 1 wOpen) ∧
    ((fun (a : Act) (s : State) => ((s.actPresent a = true) ∧ (s.actState a ≠ 0) ∧ (s.actState a ≠ 5))) 1 (wOpen.wr (MOT_ASTATUS.STATE 1) 3)) ∧
    ((fun (w : Initiator) (a : Act) (s : State) => ((s.mayWrite w = true) ∧ (s.actPresent a = true) ∧ (s.actState a = 0))) .host 1 wOpen) ∧
    ((fun (a : Act) (s : State) => ((s.actState a = 1) ∧ (s.mot.waiting.getD a false = false) ∧ (s.rd (MOT_VCM_TEST.TEST_I a) ≤ 2 * (s.rdS (MOT_MEAS.CURRENT a)).natAbs) ∧ (s.mot.testOc.getD a false = false) ∧ (s.rd (MOT_VCM_TEST.TEST_I a) * s.rd (MOT_VCM_CFG.VCM_RES a) ≤ 1000 * (adcValue (12 + a) (s.rd (MOT_ADC.CODE (12 + a)))).natAbs) ∧ ((s.rdS (MOT_MEAS.EMF a)).natAbs ≤ s.rd (MOT_VCM_TEST.TEST_V a)))) 1 (wOpen.wrs [(MOT_ASTATUS.STATE 1, 1), (MOT_MEAS.CURRENT 1, 200), (MOT_ADC.CODE 13, 2200), (MOT_MEAS.EMF 1, 3)])) ∧
    ((fun (a : Act) (s : State) => ((s.actState a = 1) ∧ (s.mot.waiting.getD a false = false) ∧ (s.rd (MOT_VCM_TEST.TEST_I a) ≤ 2 * (s.rdS (MOT_MEAS.CURRENT a)).natAbs) ∧ (s.mot.testOc.getD a false = false) ∧ (s.rd (MOT_VCM_TEST.TEST_I a) * s.rd (MOT_VCM_CFG.VCM_RES a) ≤ 1000 * (adcValue (12 + a) (s.rd (MOT_ADC.CODE (12 + a)))).natAbs) ∧ (s.rd (MOT_VCM_TEST.TEST_V a) < (s.rdS (MOT_MEAS.EMF a)).natAbs) ∧ (s.mot.swapped.getD a false = false) ∧ (s.mot.waiting.length = 4))) 1 (wOpen.wrs [(MOT_ASTATUS.STATE 1, 1), (MOT_MEAS.CURRENT 1, 200), (MOT_ADC.CODE 13, 2200), (MOT_MEAS.EMF 1, 65000)])) ∧
    ((fun (a : Act) (s : State) => ((s.actState a = 1) ∧ (s.mot.waiting.getD a false = false) ∧ ((2 * (s.rdS (MOT_MEAS.CURRENT a)).natAbs < s.rd (MOT_VCM_TEST.TEST_I a) ∨ s.mot.testOc.getD a false = true ∨ 1000 * (adcValue (12 + a) (s.rd (MOT_ADC.CODE (12 + a)))).natAbs < s.rd (MOT_VCM_TEST.TEST_I a) * s.rd (MOT_VCM_CFG.VCM_RES a))))) 1 { (wOpen.wrs [(MOT_ASTATUS.STATE 1, 1), (MOT_MEAS.CURRENT 1, 200), (MOT_ADC.CODE 13, 2200), (MOT_MEAS.EMF 1, 3)]) with mot := { wOpen.mot with testOc := [true, true, true, true] } }) ∧
    ((fun (a : Act) (s : State) => ((s.actState a = 1) ∧ (s.mot.waiting.getD a false = false) ∧ ((2 * (s.rdS (MOT_MEAS.CURRENT a)).natAbs < s.rd (MOT_VCM_TEST.TEST_I a) ∨ s.mot.testOc.getD a false = true ∨ 1000 * (adcValue (12 + a) (s.rd (MOT_ADC.CODE (12 + a)))).natAbs < s.rd (MOT_VCM_TEST.TEST_I a) * s.rd (MOT_VCM_CFG.VCM_RES a))))) 1 (wOpen.wr (MOT_ASTATUS.STATE 1) 1)) ∧
    ((fun (a : Act) (s : State) => ((s.actState a = 1) ∧ (s.mot.waiting.getD a false = true))) 1 { (wOpen.wr (MOT_ASTATUS.STATE 1) 1) with mot := { wOpen.mot with waiting := [true, true, true, true] } }) ∧
    ((fun (a : Act) (s : State) => ((s.actState a = 2) ∧ (1000000 * (s.rd (MOT_VCM_MOVE.RAMP_TRAVEL a) : Int) ≤ s.mot.travel.getD a 0) ∧ (s.ctl.acts.length = 4))) 1 { (wOpen.wr (MOT_ASTATUS.STATE 1) 2) with mot := { wOpen.mot with travel := List.replicate 4 (10 ^ 20) } }) ∧
    ((fun (a : Act) (s : State) => ((s.actState a = 2) ∧ (4000000 * (s.rd (MOT_VCM_MOVE.RAMP_TRAVEL a) : Int) ≤ s.mot.travel.getD a 0))) 1 { (wOpen.wrs [(MOT_ASTATUS.STATE 1, 2), (MOT_BEAT.RUNNING, 1)]) with mot := { wOpen.mot with travel := List.replicate 4 (10 ^ 20) } }) ∧
    ((fun (a : Act) (s : State) => ((s.actState a = 4))) 1 (wOpen.wrs [(MOT_ASTATUS.STATE 1, 4), (MOT_BEAT.RUNNING, 1)])) ∧
    ((fun (a : Act) (s : State) => ((s.actState a = 4) ∧ (s.mot.reload.getD a false = false))) 1 { (wOpen.wr (MOT_ASTATUS.STATE 1) 4) with mot := { wOpen.mot with brakeWait := true } }) ∧
    ((fun (a : Act) (s : State) => ((s.actState a = 4) ∧ (s.mot.reload.getD a false = true) ∧ (s.loadSpeedOk = true) ∧ (s.on (MOT_ASTATUS.POL_OK a) = true))) 1 { (wOpen.wrs [(MOT_ASTATUS.STATE 1, 4), (MOT_SP_STAT.STATE, 7), (MOT_SPEED.RPM, 7200), (PROF_TARGET.TARGET 4, 7200), (MOT_ASTATUS.POL_OK 1, 1)]) with mot := { wOpen.mot with reload := [true, true, true, true] } }) := by
  refine ⟨?_, ?_, ?_, ?_, ?_, ?_, ?_, ?_, ?_, ?_, ?_, ?_, ?_, ?_⟩ <;> decide +kernel

/-- CacheRequests: a state and operands that meet the hypotheses of each clause. -/
theorem test_witness_cache_requests :
    ((fun (port : Fin 16) (chan : Byte) (addr : BitVec 36) (len : Nat) (stream : Bool) (s : State) => ((dramBase ≤ addr.toNat) ∧ (0 < len) ∧ ((addr.toNat - dramBase) % 128 + len ≤ 128) ∧ (s.lineMapped ((addr.toNat - dramBase) / 128) = false) ∧ (s.dram.order = []))) 3 0 0xFFFFFFF80 16 false (wCache id)) ∧
    ((fun (port : Fin 16) (chan : Byte) (addr : BitVec 36) (len k : Nat) (stream : Bool) (s : State) => ((dramBase ≤ addr.toNat) ∧ (0 < len) ∧ ((addr.toNat - dramBase) % 128 + len ≤ 128) ∧ (s.lineMapped ((addr.toNat - dramBase) / 128) = true) ∧ (s.dram.order = []) ∧ (s.dram.waitQ = []) ∧ (s.dram.writes = []) ∧ (s.on BCC_CTRL.EN = true) ∧ (s.watch.armed = none) ∧ (s.mem.flips = []) ∧ (s.findWay ((addr.toNat - dramBase) / 128) = some k) ∧ ((s.wayData k).2 = (false, false)))) 3 0 (0x04000000 + 128 * 7 + 8) 16 112 false (({ (wCache id) with mem := (wCache id).mem.storeList ((wCache id).wayCell 112) [1, 2, 3, 4, 5, 6, 7, 8, 9] }))) ∧
    ((fun (port : Fin 16) (chan : Byte) (addr : BitVec 36) (len k : Nat) (bs : List (Option Byte)) (stream : Bool) (s : State) => ((dramBase ≤ addr.toNat) ∧ (bs ≠ []) ∧ ((addr.toNat - dramBase) % 128 + bs.length ≤ 128) ∧ (s.lineMapped ((addr.toNat - dramBase) / 128) = true) ∧ (s.dram.order = []) ∧ (s.dram.waitQ = []) ∧ (s.dram.writes = []) ∧ (s.on BCC_CTRL.EN = true) ∧ (s.watch.armed = none) ∧ (s.findWay ((addr.toNat - dramBase) / 128) = some k))) 3 0 (0x04000000 + 128 * 7 + 8) 16 112 [some 5, none, some 7] false (wCache id)) ∧
    ((fun (port : Fin 16) (chan : Byte) (addr : BitVec 36) (len : Nat) (stream : Bool) (s : State) => ((dramBase ≤ addr.toNat) ∧ (0 < len) ∧ ((addr.toNat - dramBase) % 128 + len ≤ 128) ∧ (s.lineMapped ((addr.toNat - dramBase) / 128) = true) ∧ (s.dram.waitQ = []) ∧ (s.dram.writes = []) ∧ (s.on BCC_CTRL.EN = true) ∧ (s.dram.draining = false) ∧ (s.watch.armed = none) ∧ (s.findWay ((addr.toNat - dramBase) / 128) = none) ∧ (s.dram.miss = []) ∧ (s.dram.victims = []) ∧ ((∃ k ∈ s.setWays ((addr.toNat - dramBase) / 128), (s.way k).valid = false ∧ (s.way k).lock = false ∧ (s.way k).reserved = false)))) 3 0 (0x04000000 + 128 * 9 + 8) 16 false (wCache id)) ∧
    ((fun (m : CMiss) (s : State) => ((s.dram.miss.find? (fun m => m.half0.isSome && m.half1.isSome) = some m) ∧ (m.bypass = false) ∧ (s.dram.maint = none) ∧ (s.dram.draining = false))) ⟨9, 144, [⟨4, 3, 0, 9, 8, 16, none, false⟩], some (List.replicate 64 5, 0), some (List.replicate 64 6, 0), false, false, false⟩ ({ (wCache id) with dram := { (wCache id).dram with miss := [⟨9, 144, [⟨4, 3, 0, 9, 8, 16, none, false⟩], some (List.replicate 64 5, 0), some (List.replicate 64 6, 0), false, false, false⟩], order := [⟨4, 3, none⟩] } })) ∧
    ((fun (c : Fin 2) (i ofs : Nat) (w : DWrite) (bs : List Byte) (s : State) => ((s.dram.writes.findIdx? (fun w => w.pend.any (fun q => q.1 == c.val) && w.isVictim) = some i) ∧ (s.dram.writes[i]? = some w) ∧ (w.pend = [(c.val, ofs)]) ∧ (w.data = bs.map some) ∧ (bs.length = 128) ∧ (s.dram.draining = false) ∧ (s.dram.maint = none) ∧ (s.dram.ch.length = 2))) 1 0 1152 ⟨9, [(1, 1152)], (List.replicate 128 7).map some, (false, false), 0, .victim 9⟩ (List.replicate 128 7) ({ (wCache id) with dram := { (wCache id).dram with writes := [⟨9, [(1, 1152)], (List.replicate 128 7).map some, (false, false), 0, .victim 9⟩], victims := [⟨9, List.replicate 128 7, (false, false)⟩] } })) ∧
    ((fun (q : CReq) (u s : State) => ((s.dram.waitQ = [q]) ∧ (s.serve q = (u, .taken)))) ⟨4, 3, 0, 7, 8, 16, none, false⟩ (({ (wCache id) with dram := { (wCache id).dram with waitQ := [⟨4, 3, 0, 7, 8, 16, none, false⟩], order := [⟨4, 3, none⟩] } } : State).serve ⟨4, 3, 0, 7, 8, 16, none, false⟩).1 ({ (wCache id) with dram := { (wCache id).dram with waitQ := [⟨4, 3, 0, 7, 8, 16, none, false⟩], order := [⟨4, 3, none⟩] } })) ∧
    ((fun (s : State) => ((s.dram.draining = true) ∧ (s.dram.miss = []) ∧ (s.dram.writes = []) ∧ (s.dram.ways = []))) ({ wOpen with dram := { wOpen.dram with draining := true } })) := by
  refine ⟨?_, ?_, ?_, ?_, ?_, ?_, ?_, ?_⟩ <;> decide +kernel

/-- CacheMaintenance: a state and operands that meet the hypotheses of each clause. -/
theorem test_witness_cache_maintenance :
    ((fun (w : Initiator) (line k : Nat) (s : State) => ((s.oneLine w line k = true) ∧ ((s.way k).dirty = true))) .helm 7 112 (wCache (fun c => { c with dirty := true }))) ∧
    ((fun (w : Initiator) (line k : Nat) (s : State) => ((s.oneLine w line k = true))) .helm 7 112 (wCache (fun c => { c with dirty := true, lock := true }))) ∧
    ((fun (w : Initiator) (line k : Nat) (s : State) => ((s.oneLine w line k = true))) .host 7 112 (wCache id)) ∧
    ((fun (w : Initiator) (line k : Nat) (s : State) => ((s.oneLine w line k = true))) .helm 7 112 (wCache (fun c => { c with dirty := true }))) ∧
    ((fun (w : Initiator) (line k : Nat) (s : State) => ((s.oneLine w line k = true) ∧ (s.dram.victims.any (fun v => v.line == line) = false))) .helm 7 112 (wCache id)) ∧
    ((fun (w : Initiator) (line k : Nat) (s : State) => ((s.oneLine w line k = true) ∧ (s.dram.victims.any (fun v => v.line == line) = false))) .helm 7 112 ((wCache id).wr BCC_CTRL.LOCK_MAX 0)) ∧
    ((fun (w : Initiator) (line k : Nat) (s : State) => ((s.oneLine w line k = true))) .helm 7 112 (wCache (fun c => { c with lock := true, ref := true }))) ∧
    ((fun (w : Initiator) (line k : Nat) (s : State) => ((s.oneLine w line k = true) ∧ (s.dram.victims.any (fun v => v.line == line) = false))) .helm 7 112 ({ (wCache id) with mem := (wCache id).mem.storeList ((wCache id).wayCell 112) [1, 2, 3] })) ∧
    ((fun (w : Initiator) (line k : Nat) (s : State) => ((s.oneLine w line k = true) ∧ (s.dram.victims.any (fun v => v.line == line) = true))) .helm 7 112 ({ (wCache id) with dram := { (wCache id).dram with victims := [⟨7, List.replicate 128 7, (false, false)⟩] } })) ∧
    ((fun (w : Initiator) (s : State) => ((s.mayWrite w = true))) .host (wCache id)) ∧
    ((fun (w : Initiator) (s : State) => ((s.mayWrite w = true) ∧ (s.on BCC_STATUS.BUSY = false) ∧ (s.dram.draining = false) ∧ (s.dram.miss = []))) .host (wCache (fun c => { c with dirty := true }))) := by
  refine ⟨?_, ?_, ?_, ?_, ?_, ?_, ?_, ?_, ?_, ?_, ?_⟩ <;> decide +kernel

/-- DramChannels: a state and operands that meet the hypotheses of each clause. -/
theorem test_witness_dram_channels :
    ((fun (c : Fin 2) (r : DRead) (rest : List DRead) (s : State) => ((popFirst (fun r => r.ch == c.val) s.dram.reads = some (r, rest)) ∧ (s.watch.armed = none) ∧ (burstResult ((s.ddr c).burst r.ofs) (s.markOf c (s.rankOf r.ofs)) = 0))) 1 ⟨1, 1152, 9, 1, false, false⟩ [] ({ (wCache id) with dram := { (wCache id).dram with reads := [⟨1, 1152, 9, 1, false, false⟩], miss := [⟨9, 144, [], none, none, false, false, false⟩] } })) ∧
    ((fun (c : Fin 2) (r : DRead) (rest : List DRead) (s : State) => ((popFirst (fun r => r.ch == c.val) s.dram.reads = some (r, rest)) ∧ (s.watch.armed = none) ∧ (burstResult ((s.ddr c).burst r.ofs) (s.markOf c (s.rankOf r.ofs)) = 1) ∧ (s.linePlace r.line = [(c.val, r.ofs - 64 * r.half)]))) 0 ⟨0, 1152, 9, 0, false, false⟩ [] ({ (wCache id) with dram := { (wCache id).dram with reads := [⟨0, 1152, 9, 0, false, false⟩], miss := [⟨9, 144, [], none, none, false, false, false⟩], ch := [{ DdrCh.init with bursts := [(18, ⟨true, [(1, 5)]⟩)] }, DdrCh.init] } } |>.wr DDR_MAP_CFG.CHANNELS 1)) ∧
    ((fun (c : Fin 2) (i ofs : Nat) (w : DWrite) (bs : List Byte) (s : State) => ((s.dram.writes.findIdx? (fun w => w.pend.any (fun q => q.1 == c.val) && (!w.isVictim || decide (2 ≤ w.pend.length))) = some i) ∧ (s.dram.writes[i]? = some w) ∧ (w.pend = [(c.val, ofs)]) ∧ (w.data = bs.map some) ∧ (bs.length = 128) ∧ (s.dram.draining = false) ∧ (s.dram.ch.length = 2))) 1 0 1152 ⟨9, [(1, 1152)], (List.replicate 128 7).map some, (false, false), 0, .maint⟩ (List.replicate 128 7) ({ (wCache id) with dram := { (wCache id).dram with writes := [⟨9, [(1, 1152)], (List.replicate 128 7).map some, (false, false), 0, .maint⟩] } })) ∧
    ((fun (c : Fin 2) (i : Nat) (w : DWrite) (s : State) => ((s.dram.writes.findIdx? (fun w => w.pend.any (fun q => q.1 == c.val)) = some i) ∧ (s.dram.writes[i]? = some w))) 1 0 ⟨9, [(1, 1152)], (List.replicate 128 7).map some, (false, false), 0, .maint⟩ ({ (wCache id) with dram := { (wCache id).dram with writes := [⟨9, [(1, 1152)], (List.replicate 128 7).map some, (false, false), 0, .maint⟩] } })) ∧
    ((fun (c : Fin 2) (i : Nat) (w : DWrite) (s : State) => ((s.dram.writes.findIdx? (fun w => w.pend.any (fun q => q.1 == c.val)) = some i) ∧ (s.dram.writes[i]? = some w))) 1 0 ⟨9, [(1, 1152)], (List.replicate 128 7).map some, (false, false), 3, .drain⟩ ({ (wCache id) with dram := { (wCache id).dram with writes := [⟨9, [(1, 1152)], (List.replicate 128 7).map some, (false, false), 3, .drain⟩] } })) ∧
    ((fun (c : Fin 2) (s : State) => (((s.ddr c).trained = true) ∧ (s.ddrFenced c = false) ∧ (s.on (DDR_STATUS.SELF_REFRESH c) = false))) 1 (wCache id)) ∧
    ((fun (c : Fin 2) (l : List (Nat × Nat)) (s : State) => ((s.rd DDR_PATROL_CFG.PATROL_HOURS ≠ 0) ∧ (s.dramPresent c = true) ∧ (s.ddrFenced c = false) ∧ ((s.ddr c).trained = true))) 1 [(3, 5)] ((wCache id).wrs [(DDR_PATROL_CFG.PATROL_HOURS, 24), (DDR_PATROL_CFG.MARK_THRESH, 1)])) ∧
    ((fun (c : Fin 2) (l : List (Nat × Nat)) (s : State) => ((s.rd DDR_PATROL_CFG.PATROL_HOURS ≠ 0) ∧ (s.dramPresent c = true) ∧ (s.ddrFenced c = false) ∧ ((s.ddr c).trained = true))) 1 [(3, 5)] (((wCache id).wrs [(DDR_PATROL_CFG.PATROL_HOURS, 24), (DDR_PATROL_CFG.MARK_THRESH, 1)]).updDdr 1 (fun d => { d with patrol := 2 ^ 40 }))) := by
  refine ⟨?_, ?_, ?_, ?_, ?_, ?_, ?_, ?_⟩ <;> decide +kernel

/-- LighterRecords: a state and operands that meet the hypotheses of each clause. -/
theorem test_witness_lighter_records :
    ((fun (w : Initiator) (n : Lgt) (s : State) => ((s.mayWrite w = true) ∧ (s.on (LGT_S_ATTR.ARM n) = false) ∧ (s.isFenced (.lgt n) = false) ∧ (s.on (LGT_CTRL.EN n) = true) ∧ (s.lgt.chans.length = 64) ∧ ((s.lgtCh n).recs = []) ∧ (s.rd (LGT_S_ATTR.FAR_KIND n) ≠ 2) ∧ (s.promoteFails n (s.shadowRec n) = false))) .helm 3 (wLgt [])) ∧
    ((fun (w : Initiator) (n : Lgt) (s : State) => ((s.mayWrite w = true) ∧ (s.on (LGT_S_ATTR.ARM n) = false) ∧ (s.isFenced (.lgt n) = false) ∧ (((s.activeRec n).isSome = true ∨ s.on (LGT_CTRL.EN n) = false)))) .helm 3 (wLgt [wRec 0 0 []])) ∧
    ((fun (w : Initiator) (n : Lgt) (s : State) => ((s.mayWrite w = true) ∧ (s.on (LGT_S_ATTR.ARM n) = true))) .host 3 ((wLgt []).wr (LGT_S_ATTR.ARM 3) 1)) ∧
    ((fun (n : Lgt) (s : State) => ((s.activeRec n = none))) 3 ((wLgt []).wr (LGT_S_ATTR.ARM 3) 1)) ∧
    ((fun (n : Lgt) (r : LRec) (s : State) => (((s.lgtCh n).recs = [r]) ∧ (r.bad = none) ∧ (r.bursts ≠ []))) 3 (wRec 0 0 [⟨0, 64, [], 0, false⟩]) (wLgt [wRec 0 0 [⟨0, 64, [], 0, false⟩]])) ∧
    ((fun (lines : BitVec 16) (n : Nat) (aged : Bool) (r : LRec) (s : State) => (((∀ m ∈ List.range 64, (s.activeRec m).all (fun q => q.kind != 2) = true)) ∧ (s.lgtPick lines.toNat = some (n, aged)) ∧ (s.activeRec n = some r) ∧ (s.watch.armed = none))) 5 3 false (wRec 0 0 []) (wLgt [wRec 0 0 []])) ∧
    ((fun (lines : BitVec 16) (n : Nat) (aged : Bool) (r : LRec) (s : State) => (((∀ m ∈ List.range 64, (s.activeRec m).all (fun q => q.kind != 2) = true)) ∧ (s.lgtPick lines.toNat = some (n, aged)) ∧ (s.activeRec n = some r) ∧ (s.watch.armed = none))) 5 3 false (wRec 1 0 [⟨0, 64, [], 0, false⟩]) (wLgt [wRec 1 0 [⟨0, 64, [], 0, false⟩]])) ∧
    ((fun (n : Lgt) (r : LRec) (b : LBurst) (s : State) => (((s.lgtCh n).recs = [r]) ∧ (r.kind = 0) ∧ (r.dir = 0) ∧ (r.bad = none) ∧ (r.stopped = false) ∧ (r.issued ≠ r.count) ∧ (r.bursts = [b]) ∧ (b.answered = false) ∧ (b.fail = 0))) 3 (wRec 0 0 [⟨0, 64, List.replicate 64 7, 0, false⟩]) ⟨0, 64, List.replicate 64 7, 0, false⟩ (wLgt [wRec 0 0 [⟨0, 64, List.replicate 64 7, 0, false⟩]])) ∧
    ((fun (n : Lgt) (r : LRec) (b : LBurst) (s : State) => (((s.lgtCh n).recs = [r]) ∧ (r.kind = 0) ∧ (r.dir = 1) ∧ (r.bad = none) ∧ (r.bursts = [b]) ∧ (b.answered = false) ∧ (r.cmd = none) ∧ (r.xfer = none) ∧ (s.on (LGT_S_ATTR.ARM n) = false))) 3 (wRec 1 0 [⟨0, 64, [], 0, false⟩]) ⟨0, 64, [], 0, false⟩ (wLgt [wRec 1 0 [⟨0, 64, [], 0, false⟩]])) ∧
    ((fun (n : Lgt) (r : LRec) (ok : Bool) (s : State) => (((s.lgtCh n).recs = [r]) ∧ (r.kind = 0) ∧ (r.dir = 0) ∧ (r.bad = none) ∧ (r.stopped = false) ∧ (r.issued = r.count) ∧ (r.bursts = []) ∧ (r.flush = true) ∧ (r.flushed = false) ∧ (r.cmd = none) ∧ (r.xfer = none) ∧ (s.on (LGT_S_ATTR.ARM n) = false))) 3 { (wRec 0 0 []) with issued := 100, flush := true, wrote := 100 } true (wLgt [{ (wRec 0 0 []) with issued := 100, flush := true, wrote := 100 }])) ∧
    ((fun (n : Lgt) (r : LRec) (ok : Bool) (s : State) => (((s.lgtCh n).recs = [r]) ∧ (r.kind = 0) ∧ (r.dir = 0) ∧ (r.bad = none) ∧ (r.stopped = false) ∧ (r.issued = r.count) ∧ (r.bursts = []) ∧ (r.flush = true) ∧ (r.flushed = false) ∧ (r.cmd = none) ∧ (r.xfer = none) ∧ (s.on (LGT_S_ATTR.ARM n) = false))) 3 { (wRec 0 0 []) with issued := 100, flush := true, wrote := 100 } false (wLgt [{ (wRec 0 0 []) with issued := 100, flush := true, wrote := 100 }])) ∧
    ((fun (n : Lgt) (r : LRec) (s : State) => ((s.ctoDisabled = false) ∧ ((s.lgtCh n).recs = [r]) ∧ (r.kind = 0) ∧ (r.dir = 0) ∧ (r.bad = none) ∧ (r.stopped = false) ∧ (r.issued = r.count) ∧ (r.bursts = []) ∧ (r.flush = true) ∧ (r.flushed = false) ∧ (r.cmd = none) ∧ (r.xfer = none) ∧ (s.on (LGT_S_ATTR.ARM n) = false))) 3 { (wRec 0 0 []) with issued := 100, flush := true, wrote := 100 } (wLgt [{ (wRec 0 0 []) with issued := 100, flush := true, wrote := 100 }])) := by
  refine ⟨?_, ?_, ?_, ?_, ?_, ?_, ?_, ?_, ?_, ?_, ?_, ?_⟩ <;> decide +kernel

/-- PackJobs: a state and operands that meet the hypotheses of each clause. -/
theorem test_witness_pack_jobs :
    ((fun (w : Initiator) (d : Nat) (s : State) => ((s.mayWrite w = true) ∧ (d = (List.range 8).foldl (fun a i => a + 2 ^ (32 * i) * s.rd (PCK_JOB.DESC i)) 0))) .helm 2 ((wPack [] none).wr (PCK_JOB.DESC 0) 2)) ∧
    ((fun (w : Initiator) (d : Nat) (s : State) => ((s.mayWrite w = true) ∧ (d = (List.range 8).foldl (fun a i => a + 2 ^ (32 * i) * s.rd (PCK_JOB.DESC i)) 0))) .helm 3 ((wPack [] none).wr (PCK_JOB.DESC 0) 3)) ∧
    ((fun (w : Initiator) (d : Nat) (s : State) => ((s.mayWrite w = true) ∧ (d = (List.range 8).foldl (fun a i => a + 2 ^ (32 * i) * s.rd (PCK_JOB.DESC i)) 0))) .helm 2 ((wPack (List.replicate 64 (wJob 1)) none).wr (PCK_JOB.DESC 0) 2)) ∧
    ((fun (stall : Bool) (j : PJob) (q : List PJob) (s : State) => ((s.running = true) ∧ (s.gated 1 = false) ∧ (s.packInService 0 = true) ∧ (s.prun 0 = none) ∧ (s.pack.runs.length = 2) ∧ (s.pack.queue = j :: q))) true (wJob 2) [wJob 0] (wPack [wJob 2, wJob 0] none)) ∧
    ((fun (p : Fin 2) (stall : Bool) (r : PRun) (s : State) => ((s.prun p = some r) ∧ (s.on (PCK_ISTATUS.STALL p) = true))) 0 false ⟨wJob 0, none, none, 0, false⟩ ((wPack [] (some ⟨wJob 0, none, none, 0, false⟩)).wr (PCK_ISTATUS.STALL 0) 1)) ∧
    ((fun (p : Fin 2) (stall : Bool) (r : PRun) (s : State) => ((s.prun p = some r) ∧ (s.on (PCK_ISTATUS.STALL p) = false))) 0 false ⟨wJob 2, none, none, 0, false⟩ (wPack [] (some ⟨wJob 2, none, none, 0, false⟩))) ∧
    ((fun (p : Fin 2) (r : PRun) (s : State) => ((s.prun p = some r) ∧ (r.job.fw = true) ∧ ((r.drop = true ∨ r.code.isSome = true)))) 0 ⟨wJob 2, none, some 12, 0, false⟩ (wPack [] (some ⟨wJob 2, none, some 12, 0, false⟩))) ∧
    ((fun (p : Fin 2) (r : PRun) (s : State) => ((s.prun p = some r) ∧ (r.job.fw = true) ∧ ((r.drop = true ∨ r.code.isSome = true)))) 0 ⟨wJob 2, none, some 12, 0, true⟩ (wPack [] (some ⟨wJob 2, none, some 12, 0, true⟩))) ∧
    ((fun (p : Fin 2) (r : PRun) (s : State) => ((s.prun p = some r) ∧ (r.job.fw = true) ∧ (r.drop = false) ∧ (r.code = none) ∧ (s.on (PCK_ISTATUS.STALL p) = false) ∧ (r.job.inPages ≤ r.taken) ∧ (r.job.op = 2) ∧ ((s.readMap p r.job.inTag (r.job.inPages + 1) r.job.inOfs r.job.inLen).1.watch.armed = none) ∧ ((s.readMap p r.job.inTag (r.job.inPages + 1) r.job.inOfs r.job.inLen).2.2 = false))) 0 ⟨wJob 2, none, none, 1, false⟩ (wPack [] (some ⟨wJob 2, none, none, 1, false⟩))) ∧
    ((fun (v : Word) (s : State) => ((s.pack.keyData.length < 16))) 7 wOpen) ∧
    ((fun (w : Initiator) (slot : Fin 64) (s : State) => ((s.mayWrite w = true) ∧ (s.pack.keys.length = 64) ∧ (s.pack.keyData.length = 16) ∧ ((s.keySlot slot).state = 0) ∧ ((s.pack.keyData.flatMap (fun v => leBytes 4 v.toNat)).take 32 ≠ (s.pack.keyData.flatMap (fun v => leBytes 4 v.toNat)).drop 32))) .helm 5 { wOpen with pack := { wOpen.pack with keyData := (List.range 16).map (fun i => BitVec.ofNat 32 (i + 1)) } }) ∧
    ((fun (w : Initiator) (slot : Fin 64) (s : State) => ((s.mayWrite w = true) ∧ ((s.pack.keyData.length ≠ 16 ∨ (s.keySlot slot).state ≠ 0)))) .helm 5 { wOpen with pack := { wOpen.pack with keyData := [1] } }) ∧
    ((fun (slot : Fin 64) (s : State) => (((s.keySlot slot).state ≤ 1))) 5 wOpen) ∧
    ((fun (slot : Fin 64) (s : State) => (((s.keySlot slot).state ≤ 1))) 5 { wOpen with pack := { wOpen.pack with keys := List.replicate 64 ⟨1, [3]⟩ } }) ∧
    ((fun (slot : Fin 64) (s : State) => (((s.keySlot slot).state = 2) ∧ (s.keyBound slot = false))) 5 { wOpen with pack := { wOpen.pack with keys := List.replicate 64 ⟨2, [3]⟩ } }) := by
  refine ⟨?_, ?_, ?_, ?_, ?_, ?_, ?_, ?_, ?_, ?_, ?_, ?_, ?_, ?_, ?_⟩ <;> decide +kernel

/-- EndpointEvents: a state and operands that meet the hypotheses of each clause. -/
theorem test_witness_endpoint_events :
    ((fun (speed : Fin 4) (width : BitVec 5) (reversed : Bool) (s : State) => ((s.link.perst = false) ∧ (s.sys.inReset = false) ∧ (s.on BQ_LINK_STAT.UP = false) ∧ (s.rd BQ_LINK_STAT.FAILED = 0) ∧ (linkWidths.contains width.toNat = true))) 3 16 true ({ wOpen with link := { wOpen.link with perst := false } } |>.wrs [(BQ_LINK_STAT.UP, 0), (BQ_LINK_CFG.MAX_GEN, 2)])) ∧
    ((fun (speed : Fin 4) (width : BitVec 5) (reversed : Bool) (s : State) => ((s.link.perst = false) ∧ (s.sys.inReset = false) ∧ (s.on BQ_LINK_STAT.UP = false) ∧ (s.rd BQ_LINK_STAT.FAILED = 0) ∧ (linkWidths.contains width.toNat = true))) 3 16 true ({ State.reset with sys := { State.reset.sys with inReset := false }, link := { wOpen.link with perst := false } } |>.wrs [(BQ_LINK_STAT.UP, 0), (BQ_LINK_CFG.MAX_GEN, 2)])) ∧
    ((fun (a : BitVec 32) (n : Nat) (s : State) => ((s.on BQ_LINK_STAT.UP = true) ∧ (s.sys.regOpen = true) ∧ (s.link.resetting = false) ∧ (s.link.d3hot = false) ∧ (s.running = true) ∧ ((s.readAny 11 0 80 (s.bar2Addr a.toNat) n).2.err = false) ∧ ((s.readAny 11 0 80 (s.bar2Addr a.toNat) n).2.anyUe = false))) (4096 * 12000) 16 wOpen) ∧
    ((fun (a : BitVec 32) (d : List Byte) (s : State) => ((s.on BQ_LINK_STAT.UP = true) ∧ (s.sys.regOpen = true) ∧ (s.link.resetting = false) ∧ (s.link.d3hot = false) ∧ (s.running = true))) (4096 * 12000) [1, 2, 3] wOpen) ∧
    ((fun (s : State) => ((s.hostUp = true) ∧ (s.running = true) ∧ (s.link.d3wait = false))) wOpen) ∧
    ((fun (s : State) => (((s.link.d3hot = true ∨ s.link.d3wait = true)))) { wOpen with link := { wOpen.link with d3hot := true }, bq := { wOpen.bq with stopped := true } }) ∧
    ((fun (lane : Fin 16) (errs : Option Nat) (speed : Fin 4) (w : Nat) (r : Bool) (s : State) => ((s.on BQ_LINK_CFG.DEGRADE_EN = true) ∧ (s.laneJudged errs = true) ∧ (s.on BQ_LINK_STAT.UP = true) ∧ (widthOf (s.rd BQ_LINK_STAT.FAILED ||| 2 ^ lane.val) (s.rd BQ_LINK_STAT.WIDTH) = some (w, r)))) 3 none 2 8 true (wOpen.wrs [(BQ_LINK_CFG.DEGRADE_EN, 1), (BQ_LINK_STAT.WIDTH, 16)])) ∧
    ((fun (lane : Fin 16) (errs : Option Nat) (speed : Fin 4) (w : Nat) (r : Bool) (s : State) => ((s.on BQ_LINK_CFG.DEGRADE_EN = true) ∧ (s.laneJudged errs = true) ∧ (s.on BQ_LINK_STAT.UP = true) ∧ (widthOf (s.rd BQ_LINK_STAT.FAILED ||| 2 ^ lane.val) (s.rd BQ_LINK_STAT.WIDTH) = some (w, r)))) 3 (some 5000) 2 8 true (wOpen.wrs [(BQ_LINK_CFG.DEGRADE_EN, 1), (BQ_LINK_STAT.WIDTH, 16), (BQ_LINK_CFG.LANE_ERR_LIMIT, 200)])) ∧
    ((fun (s : State) => ((s.on BQ_LINK_STAT.UP = true) ∧ (s.sys.regOpen = true) ∧ (s.running = true) ∧ (s.sch.activate = none))) wOpen) ∧
    ((fun (s : State) => ((s.link.resetting = true) ∧ (s.sch.activate = none))) { wOpen with link := { wOpen.link with resetting := true } }) ∧
    ((fun (s : State) => ((s.link.resetting = true) ∧ (s.sch.activate = none))) { wOpen with link := { wOpen.link with resetting := true, owed := true } }) ∧
    ((fun (s : State) => ((s.on BQ_LINK_STAT.UP = true))) wOpen) ∧
    ((fun (d : List Word) (s : State) => ((s.on BQ_LINK_STAT.UP = true) ∧ (s.sys.regOpen = true) ∧ (s.link.resetting = false) ∧ (s.mode ≠ .halted))) [1, 2] wOpen) ∧
    ((fun (d : List Word) (s : State) => ((s.on BQ_LINK_STAT.UP = true) ∧ (s.sys.regOpen = true) ∧ (s.link.resetting = false) ∧ (s.mode ≠ .halted))) (List.replicate 1025 3) wOpen) := by
  refine ⟨?_, ?_, ?_, ?_, ?_, ?_, ?_, ?_, ?_, ?_, ?_, ?_, ?_, ?_⟩ <;> decide +kernel

/-- RingDoorbellsAndFetching: a state and operands that meet the hypotheses of each clause. -/
theorem test_witness_ring_doorbells_and_fetching :
    ((fun (w : Initiator) (r : Ring) (v : BitVec 16) (s : State) => ((s.mayWrite w = true) ∧ (s.doorbellRefused r v.toNat = none))) .host 3 7 wRing) ∧
    ((fun (w : Initiator) (r : Ring) (v : BitVec 16) (s : State) => ((s.mayWrite w = true) ∧ ((s.doorbellRefused r v.toNat).isSome = true))) .host 3 16 wRing) ∧
    ((fun (w : Initiator) (r : Ring) (v : BitVec 16) (s : State) => ((s.mayWrite w = true) ∧ ((s.doorbellRefused r v.toNat).isSome = true))) .helm 4 0 wRing) ∧
    ((fun (r quota n : Nat) (u s : State) => ((s.bq.stopped = false) ∧ (s.hostUp = true) ∧ (s.busMaster = true) ∧ (s.running = true) ∧ ((∀ k ∈ List.range 129, (s.ring k).done = [])) ∧ (s.pickRing = some (u, r, quota)) ∧ (n = min (min (min 16 quota) (min (s.unfetched r) (s.windowRoom r))) (min (s.tagsLeft r) (u.runLen r (s.ringFetch r) 16))) ∧ (n ≠ 0))) 3 16 3 (wRing.updBq (fun b => { b with rrUrgent := 3 })) wRing) ∧
    ((fun (r : Ring) (f : FetchRd) (rest : List FetchRd) (tag : Nat) (e : List Byte) (s : State) => ((popFirst (fun f => f.ring == r.val) s.bq.reads = some (f, rest)) ∧ (f.count = 1) ∧ (s.freeTag r = some tag) ∧ (e.length = 64) ∧ (s.bq.marks.contains (r.val, f.first % s.ringN r) = false))) 3 ⟨3, 2, 1⟩ [] 0 (wEntry 1 []) { wRing with bq := { wRing.bq with reads := [⟨3, 2, 1⟩] } }) ∧
    ((fun (r : Ring) (f : FetchRd) (rest : List FetchRd) (tag : Nat) (s : State) => ((popFirst (fun f => f.ring == r.val) s.bq.reads = some (f, rest)) ∧ (f.count = 1) ∧ (s.freeTag r = some tag) ∧ (s.bq.marks.contains (r.val, f.first % s.ringN r) = false))) 3 ⟨3, 2, 1⟩ [] 0 { wRing with bq := { wRing.bq with reads := [⟨3, 2, 1⟩] } }) := by
  refine ⟨?_, ?_, ?_, ?_, ?_, ?_⟩ <;> decide +kernel

/-- CommandStartAndCompletion: a state and operands that meet the hypotheses of each clause. -/
theorem test_witness_command_start_and_completion :
    ((fun (tag : BitVec 14) (c : Cmd) (s : State) => ((s.cmd? tag.toNat = some c) ∧ (c.phase = .fetched) ∧ (s.mustWait c = false) ∧ (s.on SYS_MODE.RESCUE = false) ∧ (c.hasList = false) ∧ (opcodeOk c.opcode c.onAdmin = true) ∧ ((0x80 ≤ c.opcode ∨ c.opcode = 0x08 ∨ c.opcode = 0x0B)))) 5 (wCmd 8 [] (fun c => { c with phase := .fetched })).c0 (((wCmd 8 [] (fun c => { c with phase := .fetched })).wrs [(SCH_CTRL.EN, 1), (SYS_MODE.MEDIA_NOT_READY, 0)]))) ∧
    ((fun (tag : BitVec 14) (c : Cmd) (s : State) => ((s.cmd? tag.toNat = some c) ∧ (c.phase = .fetched) ∧ (s.mustWait c = false) ∧ (s.on SYS_MODE.RESCUE = false) ∧ (c.hasList = false) ∧ (opcodeOk c.opcode c.onAdmin = true) ∧ ((0x80 ≤ c.opcode ∨ c.opcode = 0x08 ∨ c.opcode = 0x0B)))) 16320 (wAdm 0x81 [(28, 1)] (fun c => { c with phase := .fetched })).c0 ((wAdm 0x81 [(28, 1)] (fun c => { c with phase := .fetched })).wrs [(SCH_CTRL.EN, 1)])) ∧
    ((fun (tag : BitVec 14) (c : Cmd) (st lba : Nat) (l : Option (List (BitVec 64))) (s : State) => ((s.cmd? tag.toNat = some c) ∧ (c.phase = .fetched) ∧ (s.mustWait c = false) ∧ (s.on SYS_MODE.RESCUE = false) ∧ (opcodeOk c.opcode c.onAdmin = true) ∧ (c.status = 0) ∧ (s.cmdCheck c = some (st, lba)))) 5 (wCmd 7 [(16, 1)] (fun c => { c with phase := .fetched })).c0 0x11 0 none ((wCmd 7 [(16, 1)] (fun c => { c with phase := .fetched })).wrs [(SCH_CTRL.EN, 1), (SYS_MODE.MEDIA_NOT_READY, 0)])) ∧
    ((fun (c : Cmd) (s : State) => ((s.firstWaiting (fun c => c.stage != 1 && !(s.lockReqs c).any (s.lockBlocked c.tag c.order)) = some c) ∧ (s.cmd? c.tag = some c) ∧ (s.mustWait c = false) ∧ (c.opcode = 0x06) ∧ (bitOf (c.u 28 1) 2 = false) ∧ (s.cmdCheck c = none))) (wCmd 6 [(18, 16)] (fun c => { c with phase := .waiting })).c0 ({ (wCmd 6 [(18, 16)] (fun c => { c with phase := .waiting })) with sys := { wOpen.sys with cfg := { wOpen.sys.cfg with convZones := 1 } }, sch := { wOpen.sch with locks := [⟨16, 0, 65536, .zone, 5, 0, false⟩] }, media := { wOpen.media with zones := [(16, { Zone.blank with entry := some wEnt, state := .implicitOpen, capacity := 65536 }), (90, Zone.blank)] } } |>.wrs [(SCH_CTRL.EN, 1), (SYS_MODE.MEDIA_NOT_READY, 0)])) ∧
    ((fun (c : Cmd) (s : State) => ((s.firstWaiting (fun c => c.stage == 1 && !s.pagesBlocked c) = some c) ∧ (s.cmd? c.tag = some c) ∧ (s.mustWait c = false) ∧ (c.opcode = 0x01) ∧ ((s.lockReqs c).any (s.lockBlocked c.tag c.order) = false) ∧ ((s.allocFor c c.cnt 0).isSome = true) ∧ (s.cmdCheck c = none))) (wCmd 1 [(24, 2)] (fun c => { c with phase := .waiting, stage := 1 })).c0 ({ (wCmd 1 [(24, 2)] (fun c => { c with phase := .waiting, stage := 1 })) with mem := { wOpen.mem with free := [12000, 12001, 12002] } } |>.wrs [(SCH_CTRL.EN, 1), (SYS_MODE.MEDIA_NOT_READY, 0), (SCH_PWR_CFG.PAGE_RSV, 0)])) ∧
    ((fun (tag : BitVec 14) (c : Cmd) (r : Ring) (i : Nat) (s : State) => ((s.cmd? tag.toNat = some c) ∧ (c.phase = .ended) ∧ (c.src = .ring r i) ∧ (s.workStopped c = true) ∧ (s.running = true) ∧ (s.hostUp = true) ∧ (s.bq.rings.length = 129))) 5 (wCmd 8 [] (fun c => { c with phase := .ended })).c0 3 2 (wCmd 8 [] (fun c => { c with phase := .ended }))) ∧
    ((fun (r : Ring) (s : State) => (((s.ring r).pubDue = true) ∧ ((s.ring r).pubBell ≠ some s.bell) ∧ (s.hostUp = true) ∧ (s.running = true) ∧ (s.ringState r ≠ 0))) 3 { wRing with bq := { wRing.bq with rings := wRing.bq.rings.map (fun u => { u with pubDue := true }) } }) ∧
    ((fun (r : Ring) (b : Nat) (s : State) => (((s.ring r).held = true) ∧ ((s.ring r).msgBell = some b) ∧ (b + s.rd (BQ_CFG.COAL r) ≤ s.bell))) 3 0 { wRing with bq := { wRing.bq with rings := wRing.bq.rings.map (fun u => { u with held := true, msgBell := some 0 }) } }) := by
  refine ⟨?_, ?_, ?_, ?_, ?_, ?_, ?_, ?_⟩ <;> decide +kernel

/-- RingStates: a state and operands that meet the hypotheses of each clause. -/
theorem test_witness_ring_states :
    ((fun (r : Ring) (s : State) => ((s.ringState r = 4) ∧ (s.ringHead r = s.rd (BQ_STATE.FREEZE_AT r)) ∧ (s.ringCmds r = []) ∧ ((s.ring r).pubDue = false))) 3 (wRing.wrs [(BQ_STATE.STATE 3, 4), (BQ_STATE.FREEZE_AT 3, 2)])) ∧
    ((fun (r : Ring) (s : State) => ((s.disableDone r = true))) 3 (({ wRing with bq := { wRing.bq with rings := wRing.bq.rings.map (fun u => { u with keepTo := some 2, done := [(4, [])] }) } } : State).wr (BQ_STATE.STATE 3) 3)) ∧
    ((fun (w : Initiator) (s : State) => ((s.mayWrite w = true) ∧ (s.ringState 128 = 1) ∧ (s.adminDepthOk = true))) .host wRing) ∧
    ((fun (w : Initiator) (s : State) => ((s.mayWrite w = true) ∧ (s.ringState 128 = 1) ∧ (s.adminDepthOk = false))) .host (wRing.wr (BQ_CFG.DEPTH_M1 128) 0)) ∧
    ((fun (s : State) => ((s.ringState 128 = 2))) (wRing.wr (BQ_STATE.STATE 128) 2)) ∧
    ((fun (tag slot t0 : Nat) (s : State) => ((s.sch.activate = some (tag, slot, t0)) ∧ (s.bq.stopped = true) ∧ (s.drained (some tag) = true) ∧ (s.on BQ_STATUS.QUIESCED = false) ∧ ((s.pack.queue.filter (fun j => !j.fw)) = []))) 5 0 7 { wRing with sch := { wRing.sch with activate := some (5, 0, 7) }, bq := { wRing.bq with stopped := true } }) ∧
    ((fun (s : State) => ((s.sch.activate = none) ∧ (s.link.d3wait = true) ∧ (s.drained none = true) ∧ (s.wbDirty = false))) { wRing with link := { wRing.link with d3wait := true } }) := by
  refine ⟨?_, ?_, ?_, ?_, ?_, ?_, ?_⟩ <;> decide +kernel

/-- ReadAndWriteCommands: a state and operands that meet the hypotheses of each clause. -/
theorem test_witness_read_and_write_commands :
    ((fun (tag : BitVec 14) (c : Cmd) (s : State) => ((s.atWork tag.toNat 0x01 c = true) ∧ (c.stage ≠ 0) ∧ (c.mediaDone = true) ∧ (c.recsDone = true) ∧ ((c.badCause = 0 → c.status = 0)))) 5 (wCmd 1 [] (fun c => { c with stage := 1 })).c0 (wCmd 1 [] (fun c => { c with stage := 1 }))) ∧
    ((fun (tag : BitVec 14) (c : Cmd) (s : State) => ((s.atWork tag.toNat 0x01 c = true) ∧ (c.stage ≠ 0) ∧ (c.mediaDone = true) ∧ (c.recsDone = true) ∧ ((c.badCause = 0 → c.status = 0)))) 5 (wCmd 1 [] (fun c => { c with stage := 1, badCause := 3 })).c0 (wCmd 1 [] (fun c => { c with stage := 1, badCause := 3 }))) ∧
    ((fun (tag : BitVec 14) (c : Cmd) (s : State) => ((s.atWork tag.toNat 0x09 c = true) ∧ (c.mediaDone = true) ∧ (c.status = 0) ∧ (c.secs.any (fun w => w.st == .lost) = false) ∧ (c.cnt ≤ c.count + c.secs.length))) 5 (wCmd 9 [(24, 1)] (fun c => { c with secs := [{ wSec with st := .good }] })).c0 (wCmd 9 [(24, 1)] (fun c => { c with secs := [{ wSec with st := .good }] }))) ∧
    ((wCmd 2 [] (fun c => { c with stage := 2 })).atWork 5 2 (wCmd 2 [] (fun c => { c with stage := 2 })).c0 = true ∧ (wCmd 2 [] (fun c => { c with stage := 2 })).c0.mediaDone = true ∧ (wCmd 2 [] (fun c => { c with stage := 2 })).placedFor 5 = false) ∧
    ((wCmd 2 [(24, 1)] (fun c => { c with badCause := 3 })).atWork 5 2 (wCmd 2 [(24, 1)] (fun c => { c with badCause := 3 })).c0 = true ∧ (wCmd 2 [(24, 1)] (fun c => { c with badCause := 3 })).c0.recsDone = true) ∧
    ((wCmd 2 [(24, 1)] id).atWork 5 2 (wCmd 2 [(24, 1)] id).c0 = true ∧ (wCmd 2 [(24, 1)] id).c0.recsDone = true ∧ (wCmd 2 [(24, 1)] id).sch.wbOn = false) ∧
    ((wCmd 3 [] (fun c => { c with stage := 2 })).atWork 5 3 (wCmd 3 [] (fun c => { c with stage := 2 })).c0 = true ∧ (wCmd 3 [] (fun c => { c with stage := 2 })).c0.mediaDone = true ∧ (wCmd 3 [] (fun c => { c with stage := 2 })).placedFor 5 = false) ∧
    ((wCmd 3 [(24, 1)] id).atWork 5 3 (wCmd 3 [(24, 1)] id).c0 = true ∧ (wCmd 3 [(24, 1)] id).c0.recsDone = true ∧ (wCmd 3 [(24, 1)] id).sch.wbOn = false) ∧
    ((fun (tag : BitVec 14) (c : Cmd) (s : State) => ((s.atWork tag.toNat 0x04 c = true) ∧ (s.packNone = false) ∧ (c.stage = 0) ∧ (c.badCause = 0) ∧ (c.recsDone = true) ∧ (s.pack.queue.length < 64))) 5 (wCmd 4 [(24, 100), (28, 0xFF)] id).c0 (wCmd 4 [(24, 100), (28, 0xFF)] id)) ∧
    ((fun (tag : BitVec 14) (c : Cmd) (s : State) => ((s.atWork tag.toNat 0x04 c = true) ∧ (c.stage = 2) ∧ (c.mediaDone = true) ∧ (s.placedFor c.tag = false) ∧ (c.status = 0))) 5 (wCmd 4 [] (fun c => { c with stage := 2 })).c0 (wCmd 4 [] (fun c => { c with stage := 2 }))) ∧
    ((fun (tag : BitVec 14) (c : Cmd) (s : State) => ((s.atWork tag.toNat 0x05 c = true) ∧ (c.mediaDone = true) ∧ (c.stage = 2) ∧ (s.packNone = false) ∧ (s.pack.queue.length < 64))) 5 (wCmd 5 [(32, 1)] (fun c => { c with stage := 2 })).c0 (wCmd 5 [(32, 1)] (fun c => { c with stage := 2 }))) ∧
    ((fun (tag : BitVec 14) (c : Cmd) (p : PRes) (s : State) => ((s.atWork tag.toNat 0x05 c = true) ∧ (c.mediaDone = true) ∧ (c.stage = 3) ∧ (c.pack = some p) ∧ (c.status = 0) ∧ ((p.code ≠ 0 ∨ bitOf (c.u 34 1) 0 = true)))) 5 (wCmd 5 [(32, 1)] (fun c => { c with stage := 3, pack := some ⟨5, 7, 0, false, 0, 0, 0⟩ })).c0 ⟨5, 7, 0, false, 0, 0, 0⟩ (wCmd 5 [(32, 1)] (fun c => { c with stage := 3, pack := some ⟨5, 7, 0, false, 0, 0, 0⟩ }))) ∧
    ((wCmd 10 [(30, 1)] (fun c => { c with stage := 2 })).atWork 5 10 (wCmd 10 [(30, 1)] (fun c => { c with stage := 2 })).c0 = true ∧ (wCmd 10 [(30, 1)] (fun c => { c with stage := 2 })).c0.mediaDone = true ∧ (wCmd 10 [(30, 1)] (fun c => { c with stage := 2 })).placedFor 5 = false) ∧
    ((wCmd 10 [(24, 1), (30, 1)] (fun c => { c with stage := 1 })).atWork 5 10 (wCmd 10 [(24, 1), (30, 1)] (fun c => { c with stage := 1 })).c0 = true ∧ (wCmd 10 [(24, 1), (30, 1)] (fun c => { c with stage := 1 })).c0.u 30 1 % 8 = 1) ∧
    ((fun (tag : BitVec 14) (c : Cmd) (s : State) => ((s.atWork tag.toNat 0x08 c = true) ∧ (c.status = 0) ∧ (s.sch.wb = []) ∧ (s.cmds.all (fun d => !writeOpcode d.opcode) = true))) 5 (wCmd 8 [] id).c0 (wCmd 8 [] id)) := by
  refine ⟨?_, ?_, ?_, ?_, ?_, ?_, ?_, ?_, ?_, ?_, ?_, ?_, ?_, ?_, ?_⟩ <;> decide +kernel

/-- ZoneCommandsAndAbort: a state and operands that meet the hypotheses of each clause. -/
theorem test_witness_zone_commands_and_abort :
    ((fun (tag : BitVec 14) (c : Cmd) (z : Nat) (s : State) => ((s.atWork tag.toNat 0x06 c = true) ∧ (s.zoneHeld c 0 z = true) ∧ (((s.zone z).state = .implicitOpen ∨ ((s.zone z).state = .empty ∧ (s.openZones (zoneDomain s.sys.cfg z)).length < s.sys.cfg.openLimit ∧ (s.activeZones (zoneDomain s.sys.cfg z)).length < s.sys.cfg.activeLimit) ∨ ((s.zone z).state = .closed ∧ (s.openZones (zoneDomain s.sys.cfg z)).length < s.sys.cfg.openLimit))))) 5 (wZone 0 .implicitOpen).c0 16 (wZone 0 .implicitOpen)) ∧
    ((fun (tag : BitVec 14) (c : Cmd) (z : Nat) (s : State) => ((s.atWork tag.toNat 0x06 c = true) ∧ (s.zoneHeld c 0 z = true) ∧ (((s.zone z).state = .implicitOpen ∨ ((s.zone z).state = .empty ∧ (s.openZones (zoneDomain s.sys.cfg z)).length < s.sys.cfg.openLimit ∧ (s.activeZones (zoneDomain s.sys.cfg z)).length < s.sys.cfg.activeLimit) ∨ ((s.zone z).state = .closed ∧ (s.openZones (zoneDomain s.sys.cfg z)).length < s.sys.cfg.openLimit))))) 5 (wZone 0 .closed).c0 16 (wZone 0 .closed)) ∧
    ((fun (tag : BitVec 14) (c : Cmd) (z : Nat) (s : State) => ((s.atWork tag.toNat 0x06 c = true) ∧ (s.zoneHeld c 1 z = true) ∧ (((s.zone z).state = .implicitOpen ∨ (s.zone z).state = .explicitOpen)))) 5 (wZone 1 .implicitOpen).c0 16 (wZone 1 .implicitOpen)) ∧
    ((fun (tag : BitVec 14) (c : Cmd) (z : Nat) (s : State) => ((s.atWork tag.toNat 0x06 c = true) ∧ (s.zoneHeld c 2 z = true) ∧ (((s.zone z).state = .empty ∨ (s.zone z).state = .implicitOpen ∨ (s.zone z).state = .explicitOpen ∨ (s.zone z).state = .closed)))) 5 (wZone 2 .closed).c0 16 (wZone 2 .closed)) ∧
    ((fun (tag : BitVec 14) (c : Cmd) (z : Nat) (s : State) => ((s.atWork tag.toNat 0x06 c = true) ∧ (s.zoneHeld c 3 z = true) ∧ (((s.zone z).state = .empty ∨ (s.zone z).state = .implicitOpen ∨ (s.zone z).state = .explicitOpen ∨ (s.zone z).state = .closed)) ∧ ((s.zone z).gen < 65535))) 5 (wZone 3 .closed).c0 16 (wZone 3 .closed)) ∧
    ((fun (tag : BitVec 14) (c : Cmd) (s : State) => ((s.atWork tag.toNat 0x07 c = true) ∧ (c.hasList = false) ∧ (c.status = 0))) 5 (wCmd 7 [(24, 3), (28, 0xFF)] id).c0 (wCmd 7 [(24, 3), (28, 0xFF)] id)) ∧
    ((fun (tag : BitVec 14) (c : Cmd) (s : State) => ((s.atWork tag.toNat 0x0B c = true) ∧ (c.status = 0) ∧ ((128 < c.u 28 1 ∨ c.src = .ring (c.u 28 1) (c.u 30 2))))) 5 (wCmd 11 [(28, 3), (30, 2)] id).c0 (wCmd 11 [(28, 3), (30, 2)] id)) ∧
    ((fun (tag : BitVec 14) (c d : Cmd) (s : State) => ((s.atWork tag.toNat 0x0B c = true) ∧ (c.status = 0) ∧ (c.u 28 1 ≤ 128) ∧ (s.ringState (c.u 28 1) = 2) ∧ (c.u 30 2 < s.ringN (c.u 28 1)) ∧ (c.src ≠ .ring (c.u 28 1) (c.u 30 2)) ∧ (ringDist (s.ringN (c.u 28 1)) (s.ringHead (c.u 28 1)) (c.u 30 2) < ringDist (s.ringN (c.u 28 1)) (s.ringHead (c.u 28 1)) (s.ringTail (c.u 28 1))) ∧ (s.isDone (c.u 28 1) (c.u 30 2) = false) ∧ (s.cmds.find? (fun d => d.src == .ring (c.u 28 1) (c.u 30 2)) = some d) ∧ (s.appendRuns d = false) ∧ ((d.phase = .fetched ∨ d.phase = .waiting)) ∧ (d.tag ≠ c.tag))) 5 (wCmd 11 [(28, 3), (30, 3)] id).c0 (Cmd.init 6 (.ring 3 3) (wEntry 2 [])) { (wCmd 11 [(28, 3), (30, 3)] id) with cmds := (wCmd 11 [(28, 3), (30, 3)] id).cmds ++ [Cmd.init 6 (.ring 3 3) (wEntry 2 [])] }) := by
  refine ⟨?_, ?_, ?_, ?_, ?_, ?_, ?_, ?_⟩ <;> decide +kernel

/-- IdentifyFeaturesAndLogs: a state and operands that meet the hypotheses of each clause. -/
theorem test_witness_identify_features_and_logs :
    ((fun (tag : BitVec 14) (c : Cmd) (s : State) => ((s.atWork tag.toNat 0x80 c = true) ∧ (c.hasList = false) ∧ (c.status = 0))) 16320 (wAdm 0x80 [(28, 1)] id).c0 (wAdm 0x80 [(28, 1)] id)) ∧
    ((fun (tag : BitVec 14) (c : Cmd) (s : State) => ((s.atWork tag.toNat 0x80 c = true) ∧ (c.hasList = false) ∧ (c.status = 0))) 16320 (wAdm 0x80 [] id).c0 (wAdm 0x80 [] id)) ∧
    ((fun (tag : BitVec 14) (c : Cmd) (v : Nat) (s : State) => ((s.atWork tag.toNat 0x81 c = true) ∧ (c.status = 0) ∧ (s.feature (c.u 28 1) = some v))) 16320 (wAdm 0x81 [(28, 2)] id).c0 1 ((wAdm 0x81 [(28, 2)] id).wr PCK_CFG.LEVEL 1)) ∧
    ((fun (tag : BitVec 14) (c : Cmd) (s : State) => ((s.atWork tag.toNat 0x82 c = true) ∧ (c.status = 0) ∧ (c.u 28 1 = 3) ∧ (c.u 32 8 < 2 ^ 60))) 16320 (wAdm 0x82 [(28, 3), (33, 9), (38, 2)] id).c0 (wAdm 0x82 [(28, 3), (33, 9), (38, 2)] id)) ∧
    ((fun (tag : BitVec 14) (c : Cmd) (s : State) => ((s.atWork tag.toNat 0x82 c = true) ∧ (c.status = 0) ∧ (c.u 28 1 = 1) ∧ (c.u 32 8 = 1))) 16320 (wAdm 0x82 [(28, 1), (32, 1)] id).c0 (wAdm 0x82 [(28, 1), (32, 1)] id)) ∧
    ((fun (tag : BitVec 14) (c : Cmd) (s : State) => ((s.atWork tag.toNat 0x82 c = true) ∧ (c.status = 0) ∧ (c.u 28 1 = 1) ∧ (c.u 32 8 = 1))) 16320 (wAdm 0x82 [(28, 1), (32, 1)] id).c0 ((wAdm 0x82 [(28, 1), (32, 1)] id).wr (DDR_STATUS.FENCED 0) 1)) ∧
    ((fun (tag : BitVec 14) (c : Cmd) (s : State) => ((s.atWork tag.toNat 0x83 c = true) ∧ (c.status = 0) ∧ (c.stage = 0) ∧ (((s.wr SCH_LAT_TOL.TOL (c.u 32 4)).powerAllowed (s.rd SCH_PWR_STAT.TARGET)) = true))) 16320 (wAdm 0x83 [(33, 9)] id).c0 (wAdm 0x83 [(33, 9)] id)) ∧
    ((fun (tag : BitVec 14) (c : Cmd) (s : State) => ((s.atWork tag.toNat 0x8F c = true) ∧ (c.status = 0))) 16320 (wAdm 0x8F [(33, 9)] id).c0 ((wAdm 0x8F [(33, 9)] id).updSys (fun u => { u with time := 77 }))) ∧
    ((fun (tag : BitVec 14) (c : Cmd) (s : State) => ((s.atWork tag.toNat 0x89 c = true) ∧ (c.status = 0) ∧ (c.hasList = false) ∧ ((s.logPage (c.u 28 1) (c.u 29 1)).isSome = true) ∧ (c.u 32 4 % 4 = 0) ∧ (c.cnt % 4 = 0) ∧ (c.cnt ≤ 1048576))) 16320 (wAdm 0x89 [(28, 3), (24, 64)] id).c0 (wAdm 0x89 [(28, 3), (24, 64)] id)) ∧
    ((fun (tag : BitVec 14) (c : Cmd) (b : List Byte) (s : State) => ((s.atWork tag.toNat 0x8A c = true) ∧ (c.status = 0) ∧ (c.hasList = false) ∧ (b.length = 144))) 16320 (wAdm 0x8A [] id).c0 (List.replicate 144 0) (wAdm 0x8A [] id)) ∧
    ((fun (tag : BitVec 14) (c : Cmd) (b : List Byte) (s : State) => ((s.atWork tag.toNat 0x90 c = true) ∧ (c.status = 0) ∧ (c.hasList = false) ∧ (b.length = 144) ∧ (s.foreignAny = true))) 16320 (wAdm 0x90 [] id).c0 (List.replicate 144 0) { (wAdm 0x90 [] id) with media := { wOpen.media with foreign := [true, false, false, false] } }) ∧
    ((fun (tag : BitVec 14) (c : Cmd) (s : State) => ((s.atWork tag.toNat 0x91 c = true) ∧ (c.status = 0) ∧ (c.hasList = false))) 16320 (wAdm 0x91 [] id).c0 (wAdm 0x91 [] id)) := by
  refine ⟨?_, ?_, ?_, ?_, ?_, ?_, ?_, ?_, ?_, ?_, ?_, ?_⟩ <;> decide +kernel

/-- RingAndFirmwareCommands: a state and operands that meet the hypotheses of each clause. -/
theorem test_witness_ring_and_firmware_commands :
    ((fun (tag : BitVec 14) (c : Cmd) (s : State) => ((s.atWork tag.toNat 0x84 c = true) ∧ (c.status = 0) ∧ (c.u 28 1 < 128) ∧ (c.u 32 2 ≠ 0) ∧ (c.u 36 8 % 64 = 0) ∧ (c.u 44 8 % 64 = 0) ∧ ((c.u 29 1 % 4 = 0 ∨ c.u 30 1 ≠ 0)) ∧ (s.ringState (c.u 28 1) = 0))) 16320 (wAdm 0x84 [(28, 7), (32, 15), (37, 16), (45, 32)] id).c0 (wAdm 0x84 [(28, 7), (32, 15), (37, 16), (45, 32)] id)) ∧
    ((fun (tag : BitVec 14) (c : Cmd) (s : State) => ((s.atWork tag.toNat 0x85 c = true) ∧ (c.status = 0) ∧ (c.u 28 1 < 128))) 16320 (wAdm 0x85 [(28, 3)] id).c0 ((wAdm 0x85 [(28, 3)] id).wr (BQ_STATE.STATE 3) 1)) ∧
    ((fun (tag : BitVec 14) (c : Cmd) (s : State) => ((s.atWork tag.toNat 0x85 c = true) ∧ (c.status = 0) ∧ (c.u 28 1 < 128))) 16320 (wAdm 0x85 [(28, 3)] id).c0 (wAdm 0x85 [(28, 3)] id)) ∧
    ((fun (tag : BitVec 14) (c : Cmd) (s : State) => ((s.atWork tag.toNat 0x86 c = true) ∧ (c.status = 0) ∧ (c.u 28 1 < 128))) 16320 (wAdm 0x86 [(28, 3)] id).c0 ((wAdm 0x86 [(28, 3)] id).wr (BQ_STATE.STATE 3) 1)) ∧
    ((fun (tag : BitVec 14) (c : Cmd) (s : State) => ((s.atWork tag.toNat 0x86 c = true) ∧ (c.status = 0) ∧ (c.u 28 1 < 128))) 16320 (wAdm 0x86 [(28, 3)] id).c0 (wAdm 0x86 [(28, 3)] id)) ∧
    ((fun (tag : BitVec 14) (c : Cmd) (s : State) => ((s.atWork tag.toNat 0x87 c = true) ∧ (c.status = 0) ∧ (c.stage = 0) ∧ (c.u 28 1 < 128) ∧ ((s.ringState (c.u 28 1) = 2 ∨ s.ringState (c.u 28 1) = 5)))) 16320 (wAdm 0x87 [(28, 3)] id).c0 (wAdm 0x87 [(28, 3)] id)) ∧
    ((fun (tag : BitVec 14) (c : Cmd) (s : State) => ((s.atWork tag.toNat 0x88 c = true) ∧ (c.status = 0) ∧ (c.u 28 1 < 128) ∧ (s.ringState (c.u 28 1) = 5))) 16320 (wAdm 0x88 [(28, 3)] id).c0 ((wAdm 0x88 [(28, 3)] id).wr (BQ_STATE.STATE 3) 5)) ∧
    ((fun (tag : BitVec 14) (c : Cmd) (b : List Byte) (s : State) => ((s.atWork tag.toNat 0x8B c = true) ∧ (c.status = 0) ∧ (c.hasList = false) ∧ (bitOf (c.u 28 1) 0 = false) ∧ (c.u 32 4 % 4096 = 0) ∧ (c.cnt % 4096 = 0) ∧ (c.cnt ≠ 0) ∧ (c.u 32 4 + c.cnt ≤ slotSize) ∧ (s.on SYS_MODE.FLASH_ABSENT = false) ∧ (b.length = c.cnt) ∧ (s.persist.slotState.length = 2))) 16320 (wAdm 0x8B [(25, 16)] id).c0 (List.replicate 4096 7) (wAdm 0x8B [(25, 16)] id)) ∧
    ((fun (tag : BitVec 14) (c : Cmd) (s : State) => ((s.atWork tag.toNat 0x8C c = true) ∧ (c.status = 0) ∧ (c.stage = 0) ∧ (bitOf (c.u 28 1) 7 = true))) 16320 (wAdm 0x8C [(28, 129)] id).c0 (wAdm 0x8C [(28, 129)] id)) ∧
    ((fun (tag slot tq : Nat) (s : State) => ((s.sch.activate = some (tag, slot, tq)) ∧ (s.on BQ_STATUS.QUIESCED = true))) 5 0 7 ({ wRing with sch := { wRing.sch with activate := some (5, 0, 7) }, bq := { wRing.bq with stopped := true } } |>.wr BQ_STATUS.QUIESCED 1)) ∧
    ((fun (tag : BitVec 14) (c : Cmd) (b : List Byte) (s : State) => ((s.atWork tag.toNat 0x8D c = true) ∧ (c.status = 0) ∧ (c.hasList = false) ∧ (c.u 28 1 < 64) ∧ (bitOf (c.u 29 1) 0 = false) ∧ (b.length = 64) ∧ (b.take 32 ≠ b.drop 32) ∧ ((s.keySlot (c.u 28 1)).state = 0) ∧ (s.sys.wrapRequired = false) ∧ (s.pack.keys.length = 64))) 16320 (wAdm 0x8D [(28, 3)] id).c0 ((List.range 64).map (fun i => BitVec.ofNat 8 i)) (wAdm 0x8D [(28, 3)] id)) ∧
    ((fun (tag : BitVec 14) (c : Cmd) (s : State) => ((s.atWork tag.toNat 0x8E c = true) ∧ (c.status = 0) ∧ (c.u 28 1 < 64))) 16320 (wAdm 0x8E [(28, 3)] id).c0 (wAdm 0x8E [(28, 3)] id)) ∧
    ((fun (tag : BitVec 14) (c : Cmd) (s : State) => ((s.atWork tag.toNat 0x8E c = true) ∧ (c.status = 0) ∧ (c.u 28 1 < 64))) 16320 (wAdm 0x8E [(28, 3)] id).c0 { (wAdm 0x8E [(28, 3)] id) with pack := { wOpen.pack with keys := List.replicate 64 ⟨1, [3]⟩ } }) := by
  refine ⟨?_, ?_, ?_, ?_, ?_, ?_, ?_, ?_, ?_, ?_, ?_, ?_, ?_⟩ <;> decide +kernel

/-- TierMapAndDispatch: a state and operands that meet the hypotheses of each clause. -/
theorem test_witness_tier_map_and_dispatch :
    ((fun (r : State × BufResp) (s : State) => ((s.mayWrite .helm = true) ∧ (r = s.readAny 15 0 2 (64 * s.rd SCH_TIER_ADDR_LO.ADDR + 2 ^ 32 * s.rd SCH_TIER_ADDR_HI.ADDR) 64) ∧ (r.2.err = false) ∧ (r.2.anyUe = false) ∧ (tierCrcOk r.2.data = true) ∧ (r.1.tierCheck (parseTier r.2.data) = none))) (wTier.readAny 15 0 2 (64 * wTier.rd SCH_TIER_ADDR_LO.ADDR + 2 ^ 32 * wTier.rd SCH_TIER_ADDR_HI.ADDR) 64) wTier) ∧
    ((fun (r : State × BufResp) (s : State) => ((s.mayWrite .helm = true) ∧ (r = s.readAny 15 0 2 (64 * s.rd SCH_TIER_ADDR_LO.ADDR + 2 ^ 32 * s.rd SCH_TIER_ADDR_HI.ADDR) 64) ∧ (r.2.err = false) ∧ (r.2.anyUe = false) ∧ (tierCrcOk r.2.data = true) ∧ (r.1.tierCheck (parseTier r.2.data) = none))) (({ wTier with media := { wTier.media with zones := [((parseTier wTierBytes).zone, { Zone.blank with entry := some { parseTier wTierBytes with trimCentre := [5] }, state := .closed })] } } : State).readAny 15 0 2 (64 * 12000 * 64) 64) ({ wTier with media := { wTier.media with zones := [((parseTier wTierBytes).zone, { Zone.blank with entry := some { parseTier wTierBytes with trimCentre := [5] }, state := .closed })] } } : State)) ∧
    ((fun (s : State) => ((s.mayWrite .host = true))) wTier) ∧
    ((fun (a : Act) (s : State) => ((s.actPresent a = true) ∧ (s.running = true) ∧ (s.rd SCH_PWR_STAT.STATE = 0) ∧ (s.on SCH_PWR_STAT.MOVING = false) ∧ (s.isFenced (.seq a) = false) ∧ (s.sch.doms.length = 4) ∧ ((s.sch.doms.getD a DomU.init).stepBell + 4 ≤ s.bell))) 0 { (wCmd 1 [] (fun c => { c with secs := [{ wSec with write := false }] })) with bell := 9 }) ∧
    ((fun (a : Act) (s : State) => ((s.actPresent a = true) ∧ (s.running = true) ∧ ((s.cands a).any (fun c => c.cls == 0) = true) ∧ ((s.inHand a ++ (s.seekFor a).toList) ≠ []) ∧ ((s.inHand a ++ (s.seekFor a).toList).any (fun k => k == 0) = false) ∧ (s.sch.doms.length = 4))) 0 { (wCmd 1 [] (fun c => { c with cls := 0, secs := [{ wSec with write := false }] })) with cmds := (wCmd 1 [] (fun c => { c with cls := 0, secs := [{ wSec with write := false }] })).cmds ++ [{ Cmd.init 6 (.ring 3 3) (wEntry 1 []) with phase := .started, cls := 2, secs := [{ wSec with write := false, st := .listed }] }] }) := by
  refine ⟨?_, ?_, ?_, ?_, ?_⟩ <;> decide +kernel

/-- QuayPortsAndRoutes: a state and operands that meet the hypotheses of each clause. -/
theorem test_witness_quay_ports_and_routes :
    ((fun (p : QPort) (s : State) => ((s.portUsable p = true) ∧ (s.rd (QFB_PSTATUS.STATE p) = 1))) 1 (wQuay 1 id)) ∧
    ((fun (p : QPort) (width : Fin 3) (lm : BitVec 16) (fix : Bool) (h : QHello) (c0 c1 c2 : BitVec 8) (s : State) => ((s.portUsable p = true) ∧ (s.rd (QFB_PSTATUS.STATE p) = 2) ∧ (s.rd (QFB_PCTRL.MIN_WIDTH p) ≤ width.val))) 1 2 0x3210 true ⟨0x500000007, 6, true, 9⟩ 48 48 48 (wQuay 2 id)) ∧
    ((fun (p : QPort) (width : Fin 3) (lm : BitVec 16) (fix : Bool) (h : QHello) (c0 c1 c2 : BitVec 8) (s : State) => ((s.portUsable p = true) ∧ (s.rd (QFB_PSTATUS.STATE p) = 2) ∧ (s.rd (QFB_PCTRL.MIN_WIDTH p) ≤ width.val))) 0 1 0x3210 false ⟨0x500000007, 6, false, 9⟩ 48 48 48 (wQuay 2 id)) ∧
    ((fun (p : QPort) (s : State) => ((s.rd (QFB_PSTATUS.STATE p) = 2))) 1 (wQuay 2 id)) ∧
    ((fun (p : QPort) (s : State) => ((s.rd (QFB_PSTATUS.STATE p) = 2))) 1 { (wQuay 2 id) with sys := wOpen.sys }) ∧
    ((fun (p : QPort) (s : State) => ((s.rd (QFB_PSTATUS.STATE p) = 3))) 1 (wQuay 3 id)) ∧
    ((fun (p : QPort) (s : State) => ((s.rd (QFB_PSTATUS.STATE p) = 3))) 1 { (wQuay 3 id) with sys := wOpen.sys }) ∧
    ((fun (p : QPort) (s : State) => ((s.rd (QFB_PSTATUS.STATE p) = 3))) 1 ((wQuay 3 id).wr QFB_CFG.EN 0)) ∧
    ((fun (w : Initiator) (p : QPort) (s : State) => ((s.mayWrite w = true) ∧ (s.portPresent p = true) ∧ (s.rd (QFB_PSTATUS.STATE p) = 3))) .host 1 (wQuay 3 id)) ∧
    ((fun (p : QPort) (h : QHello) (sn dg : Nat) (s : State) => ((s.rd (QFB_PSTATUS.STATE p) = 3) ∧ (s.watch.armed.isNone = true) ∧ ((s.qport p).nbr = some (sn, dg)))) 1 ⟨101, 6, true, 8⟩ 101 7 (wQuay 3 id)) ∧
    ((fun (p : QPort) (h : QHello) (sn dg : Nat) (s : State) => ((s.rd (QFB_PSTATUS.STATE p) = 3) ∧ (s.watch.armed.isNone = true) ∧ ((s.qport p).nbr = some (sn, dg)))) 1 ⟨102, 6, true, 8⟩ 101 7 (wQuay 3 id)) ∧
    ((fun (p : QPort) (s : State) => ((s.rd (QFB_PSTATUS.STATE p) = 3) ∧ (s.watch.armed.isNone = true) ∧ (s.qfb.ports.length = 4))) 1 (wQuay 3 id)) ∧
    ((fun (p : QPort) (l : QLsa) (s : State) => ((s.rd (QFB_PSTATUS.STATE p) = 3) ∧ (s.watch.armed.isNone = true) ∧ (l.origin.toNat ≠ s.serial) ∧ ((match s.lsaOf l.origin.toNat with | some o => stampNewer l.seq.toNat o.seq | none => decide (s.qfb.lsas.length < 1024)) = true))) 1 ⟨101, 6, false, true, 5, 0, 0, 0, 0⟩ (wQuay 3 id)) ∧
    ((fun (p : QPort) (l : QLsa) (o x : Lsa) (s : State) => ((s.rd (QFB_PSTATUS.STATE p) = 3) ∧ (s.watch.armed.isNone = true) ∧ (l.origin.toNat ≠ s.serial) ∧ (s.lsaOf l.origin.toNat = some o) ∧ (x = { origin := l.origin.toNat, addr := l.addr.toNat, assigned := l.assigned, valid := l.valid, seq := l.seq.toNat, nbrs := [l.n0.toNat, l.n1.toNat, l.n2.toNat, l.n3.toNat], time := s.sys.time }))) 1 ⟨101, 6, false, true, 5, 0, 0, 0, 0⟩ ⟨101, 6, false, true, 4, [0, 0, 0, 0], 3⟩ ⟨101, 6, false, true, 5, [0, 0, 0, 0], 10 ^ 13⟩ (wQuay 3 (fun q => { q with lsas := [⟨101, 6, false, true, 4, [0, 0, 0, 0], 3⟩] }))) ∧
    ((fun (p : QPort) (l : QLsa) (o x : Lsa) (s : State) => ((s.rd (QFB_PSTATUS.STATE p) = 3) ∧ (s.watch.armed.isNone = true) ∧ (l.origin.toNat ≠ s.serial) ∧ (s.lsaOf l.origin.toNat = some o) ∧ (x = { origin := l.origin.toNat, addr := l.addr.toNat, assigned := l.assigned, valid := l.valid, seq := l.seq.toNat, nbrs := [l.n0.toNat, l.n1.toNat, l.n2.toNat, l.n3.toNat], time := s.sys.time }))) 1 ⟨101, 6, false, true, 5, 0, 0, 0, 0⟩ ⟨101, 6, false, true, 5, [0, 0, 0, 0], 3⟩ ⟨101, 6, false, true, 5, [0, 0, 0, 0], 10 ^ 13⟩ (wQuay 3 (fun q => { q with lsas := [⟨101, 6, false, true, 5, [0, 0, 0, 0], 3⟩] }))) ∧
    ((fun (p : QPort) (f0 f1 f2 : BitVec 8) (s : State) => ((s.rd (QFB_PSTATUS.STATE p) = 3) ∧ (s.watch.armed.isNone = true) ∧ (s.qfb.ports.length = 4) ∧ ((s.qport p).sendQ = []))) 1 8 9 10 (wQuay 3 id)) ∧
    ((fun (p : QPort) (d : List Byte) (s : State) => ((s.rd (QFB_PSTATUS.STATE p) = 3) ∧ (s.watch.armed.isNone = true))) 1 [1, 2] (wQuay 3 id)) ∧
    ((wQuay 3 id).qfb.ports.length = 4 ∧ (wQuay 3 id).rd (QFB_PSTATUS.STATE 1) = 3 ∧ ((wQuay 3 id).qport 1).lastTx + (wQuay 3 id).rd QFB_TIMER_CFG.HB_PERIOD * 25000 ≤ (wQuay 3 id).sys.time) ∧
    ((fun (s : State) => ((s.running = true) ∧ (s.qfb.lsaTime + 2500000000 ≤ s.sys.time))) (wQuay 3 id)) ∧
    ((fun (a : Nat) (s : State) => ((s.on QFB_ADDR.VALID = false) ∧ (s.running = true) ∧ (s.on SYS_MODE.RESCUE = false) ∧ (s.qfb.dbTime + 25000000 ≤ s.sys.time) ∧ (a ≤ 1022) ∧ ((s.persist.quayAddr = some a ∧ (s.qfb.lsas.filter (fun l => l.valid && l.origin != s.serial)).any (fun l => l.addr == a) = false) ∨ (s.persist.quayAddr = none ∧ s.qfb.lsas.all (fun l => l.valid || l.origin == s.serial) = true ∧ a = lowestFree ((s.qfb.lsas.filter (fun l => l.valid && l.origin != s.serial)).map (fun l => l.addr)) 1024 0)))) 1 (((wQuay 3 (fun q => { q with lsas := [⟨101, 0, false, true, 4, [0, 0, 0, 0], 3⟩] })).wr QFB_ADDR.VALID 0).updPersist (fun p => { p with quayAddr := none }))) ∧
    ((fun (a : Nat) (s : State) => ((s.on QFB_ADDR.VALID = false) ∧ (s.running = true) ∧ (s.on SYS_MODE.RESCUE = false) ∧ (s.qfb.dbTime + 25000000 ≤ s.sys.time) ∧ (a ≤ 1022) ∧ ((s.persist.quayAddr = some a ∧ (s.qfb.lsas.filter (fun l => l.valid && l.origin != s.serial)).any (fun l => l.addr == a) = false) ∨ (s.persist.quayAddr = none ∧ s.qfb.lsas.all (fun l => l.valid || l.origin == s.serial) = true ∧ a = lowestFree ((s.qfb.lsas.filter (fun l => l.valid && l.origin != s.serial)).map (fun l => l.addr)) 1024 0)))) 9 (((wQuay 3 (fun q => { q with lsas := [⟨101, 0, false, true, 4, [0, 0, 0, 0], 3⟩] })).wr QFB_ADDR.VALID 0).updPersist (fun p => { p with quayAddr := some 9 }))) ∧
    ((fun (p : QPort) (s : State) => ((s.rd (QFB_PSTATUS.STATE p) = 3) ∧ (s.qfb.ports.length = 4) ∧ ((s.qport p).freed.any (fun n => n != 0) = true) ∧ ((8 ≤ (s.qport p).freed.sum ∨ (s.qport p).freedAt + usUnits ≤ s.sys.time)))) 1 (wQuay 3 id)) := by
  refine ⟨?_, ?_, ?_, ?_, ?_, ?_, ?_, ?_, ?_, ?_, ?_, ?_, ?_, ?_, ?_, ?_, ?_, ?_, ?_, ?_, ?_, ?_⟩ <;> decide +kernel

/-- QuayTransfers: a state and operands that meet the hypotheses of each clause. -/
theorem test_witness_quay_transfers :
    ((fun (p : QPort) (h : QHdr) (d : List Byte) (r : Route) (s : State) => ((s.rd (QFB_PSTATUS.STATE p) = 3) ∧ (s.watch.armed.isNone = true) ∧ (h.cls.toNat < 3) ∧ (s.on QFB_ADDR.VALID = true) ∧ (h.dst.toNat ≠ s.rd QFB_ADDR.ADDR) ∧ (h.ttl.toNat ≠ 0) ∧ (s.route? h.dst.toNat = some r) ∧ (r.port < 4) ∧ (s.qfb.ports.length = 4) ∧ (s.rd (QFB_PSTATUS.STATE r.port) ≠ 3))) 1 { wHdr with dst := 77 } [1, 2, 3] ⟨1, 4, 2⟩ (wQuay 3 (fun q => { q with routes := [(77, ⟨1, 4, 2⟩)] }))) ∧
    ((fun (p : QPort) (h : QHdr) (d : List Byte) (x : XOut) (s : State) => ((s.inOrder p h = true) ∧ (s.xoutOf h = some x) ∧ ((match x.work with | .lgtRead _ => true | .pull _ => true | _ => false) = true) ∧ (x.phase = .running) ∧ (h.ofs.toNat = x.data.length))) 1 wHdr [3, 4] (wXout (.pull 5) .running) (wQuay 3 (fun q => { q with outs := [wXout (.pull 5) .running] }))) ∧
    ((fun (p : QPort) (h : QHdr) (d : List Byte) (op l n a : Nat) (x : XIn) (s : State) => ((s.inOrder p h = true) ∧ (s.xoutOf h = none) ∧ (s.xin? h = some x) ∧ (x.ask = .media op l n a) ∧ (op ≠ 0) ∧ (x.committed = false) ∧ (h.ofs.toNat = x.data.length))) 1 wHdr [3, 4] 1 0 1 0 (wXin (.media 1 0 1 0)) (wQuay 3 (fun q => { q with ins := [wXin (.media 1 0 1 0)] }))) ∧
    ((fun (p : QPort) (h : QHdr) (total crc : BitVec 32) (base : BitVec 36) (op l n a : Nat) (x : XIn) (s : State) => ((s.inOrder p h = true) ∧ (s.xoutOf h = none) ∧ (s.qfb.outcomes.any (fun o => o.src == h.src.toNat && o.xid == h.xid.toNat) = false) ∧ (s.xin? h = some x) ∧ (x.ask = .media op l n a) ∧ (op ≠ 0) ∧ (x.committed = false) ∧ (x.data.length = total.toNat) ∧ (crc32c x.data = crc) ∧ (total.toNat = 4096 * n))) 1 wHdr 0 0 0 1 0 0 0 { (wXin (.media 1 0 0 0)) with data := [] } (wQuay 3 (fun q => { q with ins := [{ (wXin (.media 1 0 0 0)) with data := [] }] }))) ∧
    ((fun (p : QPort) (h : QHdr) (total crc : BitVec 32) (base : BitVec 36) (w g : Nat) (m : PageMap) (x : XIn) (s : State) => ((s.inOrder p h = true) ∧ (s.xoutOf h = none) ∧ (s.qfb.outcomes.any (fun o => o.src == h.src.toNat && o.xid == h.xid.toNat) = false) ∧ (s.xin? h = some x) ∧ (x.ask = .window) ∧ (s.mem.flips = []) ∧ (x.tag = some g) ∧ (x.data.length = total.toNat) ∧ (crc32c x.data = crc) ∧ (s.windowFor true base.toNat total.toNat = some w) ∧ (s.allowed x.src = true) ∧ (s.pageMap? g = some m) ∧ (((base.toNat - 4096 * s.rd (QFB_WIN_BASE.BASE w)) % 4096 + total.toNat + 4095) / 4096 ≤ m.ents.length))) 1 wHdr 2 (crc32c [1, 2]) 8195 0 60 ⟨60, [1], [⟨12001, true, false, false⟩]⟩ { (wXin .window) with tag := some 60 } ({ (wQuay 3 (fun q => { q with ins := [{ (wXin .window) with tag := some 60 }] })) with mem := { wOpen.mem with maps := [⟨61, [0], [⟨12000, true, false, false⟩]⟩, ⟨60, [1], [⟨12001, true, false, false⟩]⟩] } } |>.wrs [(QFB_WIN_BASE.BASE 0, 2), (QFB_WIN_CFG.TAG 0, 61), (QFB_WIN_CFG.PAGES 0, 1), (QFB_WIN_CFG.WRITE 0, 1)])) ∧
    ((fun (p : QPort) (h : QHdr) (lba : BitVec 40) (tag : Nat) (c : Cmd) (x : XOut) (s : State) => ((s.inOrder p h = true) ∧ (s.xoutOf h = some x) ∧ (x.work = .push tag) ∧ (x.phase ≠ .quiet) ∧ (x.phase ≠ .retryWait) ∧ (s.cmd? tag = some c) ∧ (c.status = 0))) 1 wHdr 7 5 (wCmd 1 [] id).c0 (wXout (.push 5) .inDoubt) (wQuay 3 (fun q => { q with outs := [wXout (.push 5) .inDoubt] }))) ∧
    ((fun (p : QPort) (h : QHdr) (s : State) => ((s.inOrder p h = true) ∧ (s.xin? h = none))) 1 wHdr (wQuay 3 (fun q => { q with outcomes := [⟨9, 6, 1, 0, 0, none⟩, ⟨10, 6, 1, 0, 0, none⟩] }))) ∧
    ((fun (p : QPort) (h : QHdr) (a n : Nat) (x : XIn) (s : State) => ((s.inOrder p h = true) ∧ (s.xin? h = some x) ∧ (x.ask = .read a n))) 1 wHdr 0 9 (wXin (.read 0 9)) (wQuay 3 (fun q => { q with ins := [wXin (.read 0 9)] }))) ∧
    ((fun (p : QPort) (h : QHdr) (a : BitVec 36) (len : BitVec 32) (w : Nat) (s : State) => ((s.inOrder p h = true) ∧ (s.windowFor false a.toNat len.toNat = some w) ∧ (s.allowed h.src.toNat = true) ∧ (0 < len.toNat) ∧ (len.toNat ≤ 16777215) ∧ (s.xin? h = none) ∧ (s.qfb.ins.length < 128) ∧ (((s.received p h).readMap 14 (s.rd (QFB_WIN_CFG.TAG w)) (len.toNat / 4096 + 2) (a.toNat - 4096 * s.rd (QFB_WIN_BASE.BASE w)) len.toNat).2.2 = false))) 1 wHdr 8195 20 0 ({ (wQuay 3 id) with mem := { wOpen.mem with maps := [⟨61, [0], [⟨12000, true, false, false⟩]⟩] } } |>.wrs [(QFB_WIN_BASE.BASE 0, 2), (QFB_WIN_CFG.TAG 0, 61), (QFB_WIN_CFG.PAGES 0, 1), (QFB_WIN_CFG.READ 0, 1)])) ∧
    ((fun (p : QPort) (h : QHdr) (op : BitVec 8) (rl : BitVec 2) (n : BitVec 16) (lba : BitVec 40) (g : Nat) (s : State) => ((s.inOrder p h = true) ∧ (op.toNat < 3) ∧ (s.xin? h = none) ∧ (s.qfb.outcomes.any (fun o => o.src == h.src.toNat && o.xid == h.xid.toNat) = false) ∧ (s.allowed h.src.toNat = true) ∧ (s.on SYS_MODE.RESCUE = false) ∧ (s.qfb.outcomes.length < 256) ∧ (s.qfb.ins.length < 128) ∧ (s.sch.activate = none) ∧ (s.ownTag = some g))) 1 wHdr 0 1 8 4096 16319 (wQuay 3 id)) ∧
    ((fun (s : State) => (((s.qfb.outs.map (fun x => x.xid)).Nodup))) (wQuay 3 (fun q => { q with outs := [wXout (.push 5) .inDoubt, { (wXout (.lgtRead 3) .inDoubt) with xid := 12 }, { (wXout (.push 5) .running) with xid := 13 }] }))) ∧
    ((fun (tag : Nat) (c : Cmd) (x : XOut) (r0 : Nat) (s : State) => ((s.qfb.outs = [x]) ∧ (x.phase = .retryWait) ∧ (x.retryFrom = some r0) ∧ (x.last + 2500000 ≤ s.sys.time))) 5 (wCmd 1 [] id).c0 { (wXout (.pull 5) .retryWait) with retryFrom := some (10 ^ 13 - 9) } (10 ^ 13 - 9) (wQuay 3 (fun q => { q with outs := [{ (wXout (.pull 5) .retryWait) with retryFrom := some (10 ^ 13 - 9) }] }))) ∧
    ((fun (tag : Nat) (c : Cmd) (x : XOut) (r0 : Nat) (s : State) => ((s.qfb.outs = [x]) ∧ (x.phase = .retryWait) ∧ (x.retryFrom = some r0) ∧ (x.last + 2500000 ≤ s.sys.time))) 5 (wCmd 1 [] id).c0 (wXout (.push 5) .retryWait) 0 (wQuay 3 (fun q => { q with outs := [wXout (.push 5) .retryWait] }))) ∧
    ((fun (tag : Nat) (c : Cmd) (x : XOut) (s : State) => ((s.qfb.outs = [x]) ∧ (x.phase = .quiet) ∧ (x.work = .pull tag) ∧ (x.last + s.rd QFB_TIMER_CFG.ROUTE_QUIET * 25000 ≤ s.sys.time))) 5 (wCmd 1 [] id).c0 (wXout (.pull 5) .quiet) (wQuay 3 (fun q => { q with outs := [wXout (.pull 5) .quiet] }))) ∧
    ((fun (tag : Nat) (c : Cmd) (x : XOut) (s : State) => ((s.qfb.outs = [x]) ∧ (x.phase = .quiet) ∧ (x.work = .pull tag) ∧ (x.last + s.rd QFB_TIMER_CFG.ROUTE_QUIET * 25000 ≤ s.sys.time))) 5 (wCmd 1 [] id).c0 (wXout (.pull 5) .quiet) (wQuay 3 (fun q => { q with outs := [wXout (.pull 5) .quiet], routes := [] }))) := by
  refine ⟨?_, ?_, ?_, ?_, ?_, ?_, ?_, ?_, ?_, ?_, ?_, ?_, ?_, ?_, ?_⟩ <;> decide +kernel


end Sys2Proof.Machine
end

