-- ==== Sys2Proof/Proofs/Completes.lean ====
section
/-! Which commands answer a next state (O8): all that are well formed, in every state. -/

namespace Sys2Proof.Machine

/-- A choice between two meanings that complete completes. -/
theorem isNext_ite {c : Prop} [Decidable c] {a b : Res} (ha : isNext a = true) (hb : isNext b = true) :
    isNext (if c then a else b) = true := by
  split <;> assumption

/-- A meaning that stops under a condition and else completes: it completes where the condition fails. -/
theorem isNext_ite_stop {c : Prop} [Decidable c] {a b : Res} (ha : isNext a = false) (hb : isNext b = true) :
    isNext (if c then a else b) = decide ¬c := by
  split
  · next h => simp [ha, h]
  · next h => simp [hb, h]

/-! ### The three commands whose operands carry a length (R228, R250) -/

theorem execXbarReadBurst_isNext (port : Fin 16) (chan : Byte) (page : Fin 16384) (beat : Fin 128) (beats : Nat)
    (upsets : List (Nat × Nat)) (s : State) :
    isNext (execXbarReadBurst port chan page beat beats upsets s) = burstFits beat.val beats := by
  refine (isNext_ite_stop rfl rfl).trans ?_
  simp only [burstFits, ← Bool.decide_and, decide_eq_decide]
  omega

theorem execXbarWriteBurst_isNext (port : Fin 16) (page : Fin 16384) (beat : Fin 128) (data : List (Option Byte)) (s : State) :
    isNext (execXbarWriteBurst port page beat data s) =
      (decide (data.length % 32 = 0) && burstFits beat.val (data.length / 32)) := by
  refine (isNext_ite_stop rfl (isNext_ite rfl rfl)).trans ?_
  simp only [burstFits, ← Bool.decide_and, decide_eq_decide]
  omega

theorem execCacheRequest_isNext (port : Fin 16) (chan : Byte) (addr : BitVec 36) (len : Nat)
    (write : Option (List (Option Byte))) (stream : Bool) (s : State) :
    isNext (execCacheRequest port chan addr len write stream s) = lineFits addr.toNat (write.elim len List.length) := by
  have fits (n : Nat) :
      (decide ¬(addr.toNat < dramBase ∨ n = 0 ∨ 128 < (addr.toNat - dramBase) % 128 + n)) = lineFits addr.toNat n := by
    simp only [lineFits, ← Bool.decide_and, decide_eq_decide]
    unfold dramBase
    omega
  cases write with
  | none =>
    refine (isNext_ite_stop rfl (isNext_ite rfl (isNext_ite rfl ?_))).trans (fits len)
    split <;> rfl
  | some bs =>
    refine (isNext_ite_stop rfl (isNext_ite rfl (isNext_ite rfl ?_))).trans (fits bs.length)
    split <;> rfl

/-! ### The commands that look something up in the state first: they complete whatever they find -/

theorem execSlotHoldGrant_isNext (n : Chan) (s : State) : isNext (execSlotHoldGrant n s) = true := by
  unfold execSlotHoldGrant
  split
  · rfl
  · exact isNext_ite rfl rfl

theorem execCoefDataWrite_isNext (w : Initiator) (n : Chan) (v : Word) (s : State) : isNext (execCoefDataWrite w n v s) = true := by
  refine isNext_ite rfl (isNext_ite rfl (isNext_ite ?_ (isNext_ite rfl rfl)))
  cases w <;> rfl

theorem execScrubRead_isNext (upsets : List (Nat × Nat)) (s : State) : isNext (execScrubRead upsets s) = true := by
  refine isNext_ite rfl ?_
  split <;> rfl

theorem execMigration_isNext (s : State) : isNext (execMigration s) = true := by
  unfold execMigration
  split
  · rfl
  · split <;> rfl

theorem execMemAlloc_isNext (w : Initiator) (tag : BitVec 14) (count : BitVec 11) (s : State) : isNext (execMemAlloc w tag count s) = true := by
  refine isNext_ite rfl (isNext_ite rfl ?_)
  split <;> rfl

theorem execCacheFillReturn_isNext (s : State) : isNext (execCacheFillReturn s) = true := by
  unfold execCacheFillReturn
  split
  · rfl
  · exact isNext_ite rfl rfl

theorem execDdrReadComplete_isNext (c : Fin 2) (upsets : List (Nat × Nat)) (s : State) : isNext (execDdrReadComplete c upsets s) = true := by
  unfold execDdrReadComplete
  split
  · rfl
  · dsimp only
    split
    · rfl
    · rfl
    · exact isNext_ite rfl rfl

theorem execDdrWriteCrcAlert_isNext (c : Fin 2) (s : State) : isNext (execDdrWriteCrcAlert c s) = true := by
  unfold execDdrWriteCrcAlert
  split
  · rfl
  · exact isNext_ite rfl rfl

theorem execLgtStop_isNext (n : Lgt) (s : State) : isNext (execLgtStop n s) = true := by
  unfold execLgtStop
  dsimp only
  split <;> rfl

theorem execLgtBurstIssue_isNext (lines : BitVec 16) (s : State) : isNext (execLgtBurstIssue lines s) = true := by
  unfold execLgtBurstIssue
  extract_lets
  split
  · rfl
  · split
    · rfl
    · exact isNext_ite rfl rfl

theorem execHostCompletionTimeout_isNext (n : Lgt) (k : Option (Fin 16)) (s : State) : isNext (execHostCompletionTimeout n k s) = true := by
  refine isNext_ite rfl ?_
  cases k <;> exact isNext_ite rfl rfl

theorem execPckJobGo_isNext (w : Initiator) (s : State) : isNext (execPckJobGo w s) = true := by
  refine isNext_ite rfl (isNext_ite rfl ?_)
  split <;> rfl

theorem execPackJobStart_isNext (stall : Bool) (s : State) : isNext (execPackJobStart stall s) = true := by
  refine isNext_ite rfl ?_
  split <;> rfl

theorem execPackEncoderResume_isNext (p : Fin 2) (stall : Bool) (s : State) : isNext (execPackEncoderResume p stall s) = true := by
  unfold execPackEncoderResume
  split
  · rfl
  · exact isNext_ite rfl rfl

theorem execPackInputResume_isNext (p : Fin 2) (stall : Bool) (s : State) : isNext (execPackInputResume p stall s) = true := by
  unfold execPackInputResume
  split
  · rfl
  · exact isNext_ite rfl rfl

theorem execPackJobEnd_isNext (p : Fin 2) (s : State) : isNext (execPackJobEnd p s) = true := by
  unfold execPackJobEnd
  split
  · rfl
  · refine isNext_ite rfl ?_
    split
    · rfl
    · refine isNext_ite rfl ?_
      generalize s.readMap _ _ _ _ _ = read
      refine isNext_ite rfl ?_
      extract_lets e
      clear_value e
      cases e with
      | none => rfl
      | some e => exact isNext_ite rfl rfl

theorem execPckKeyLoad_isNext (w : Initiator) (slot : Fin 64) (s : State) : isNext (execPckKeyLoad w slot s) = true := by
  refine isNext_ite rfl ?_
  extract_lets
  split <;> rfl

/-! ### All commands -/

/-- A command answers a next state in every state where it is well formed, and only there: the three commands that carry a length stop where it
does not fit; of the others a choice between meanings has a next state in each branch, and the rest are next states outright. -/
theorem exec_isNext (c : Instr) (s : State) : isNext (exec c s) = c.wf := by
  cases c with
  | xbarReadBurst port chan page beat beats upsets => exact execXbarReadBurst_isNext port chan page beat beats upsets s
  | xbarWriteBurst port page beat data => exact execXbarWriteBurst_isNext port page beat data s
  | cacheRequest port chan addr len write stream =>
    refine (execCacheRequest_isNext port chan addr len write stream s).trans ?_
    cases write <;> rfl
  | slotHoldGrant n => exact execSlotHoldGrant_isNext n s
  | coefDataWrite w n v => exact execCoefDataWrite_isNext w n v s
  | scrubRead upsets => exact execScrubRead_isNext upsets s
  | migration => exact execMigration_isNext s
  | memAlloc w tag count => exact execMemAlloc_isNext w tag count s
  | cacheFillReturn => exact execCacheFillReturn_isNext s
  | ddrReadComplete c upsets => exact execDdrReadComplete_isNext c upsets s
  | ddrWriteCrcAlert c => exact execDdrWriteCrcAlert_isNext c s
  | lgtStop n => exact execLgtStop_isNext n s
  | lgtBurstIssue lines => exact execLgtBurstIssue_isNext lines s
  | hostCompletionTimeout n k => exact execHostCompletionTimeout_isNext n k s
  | pckJobGo w => exact execPckJobGo_isNext w s
  | packJobStart stall => exact execPackJobStart_isNext stall s
  | packEncoderResume p stall => exact execPackEncoderResume_isNext p stall s
  | packInputResume p stall => exact execPackInputResume_isNext p stall s
  | packJobEnd p => exact execPackJobEnd_isNext p s
  | pckKeyLoad w slot => exact execPckKeyLoad_isNext w slot s
  | wdogKick | aliveSet | seqStep | lossOfLock | selectiveModeEnter | channelLate | coefQueueApply | paMailboxCmd | ctlClose | ctlOpen
  | ctlResetOsc | ctlCoefCommit | profGo | profStop | motLoad | motTest | memRetireBank | planeFence | cacheDrainDone | ddrRefresh
  | patrolRead | lgtBurstResponse | pckKeyDataWrite | pckKeyErase | keyZeroize | bqDoorbell | adminRingEnable | tierMapInstall | qfbRetrain
  | wchFnHold | wchFnForce | wchInjGo | wchInjAuth | wchInjTokenWrite | logFwGo =>
    exact isNext_ite rfl rfl
  | spareSubst | spareRelease | spareShadow | spareDetach => exact isNext_ite rfl (isNext_ite rfl (isNext_ite rfl rfl))
  | lgtArm => exact isNext_ite rfl (isNext_ite rfl (isNext_ite rfl (isNext_ite rfl rfl)))
  | _ => rfl

/-- A step of a queue of well-formed commands answers a next state. -/
theorem step_isNext {s : State} (h : s.queueWf = true) : isNext (step s) = true := by
  unfold step
  split
  · rfl
  · next c rest hp =>
    simp only [State.queueWf, hp, List.all_cons, Bool.and_eq_true] at h
    exact (exec_isNext c _).trans h.1

/-- Settles O8: whether a command completes is its form alone (`exec_isNext`), so a queue of well-formed commands never stops. -/
theorem everyCommandCompletes : Obligations.EveryCommandCompletes :=
  ⟨fun c s h => (exec_isNext c s).trans h, fun c s h => (exec_isNext c s).trans h, fun _ h => step_isNext h⟩

end Sys2Proof.Machine
end

