-- ==== Sys2Proof/Proofs/Scheduling.lean ====
section
/-! Installing tier map entries, dispatch steps and URGENT pre-emption (O57). -/

namespace Sys2Proof.Machine
open Reg

/-! ### Lists changed at one index -/

/-- Changing one element in the list changes just what is read there. -/
theorem listModify_getD_self {α : Type} (l : List α) (n : Nat) (f : α → α) (d : α) (h : n < l.length) :
    (listModify l n f).getD n d = f (l.getD n d) := by
  induction l generalizing n with
  | nil => cases h
  | cons x l ih =>
    cases n with
    | zero => rfl
    | succ n => simpa [listModify] using ih n (Nat.lt_of_succ_lt_succ h)

/-- What a change of one element keeps of every element, it keeps of the one read. -/
theorem listModify_getD_keeps {α β : Type} (p : α → β) (l : List α) (n m : Nat) (f : α → α) (d : α) (h : ∀ x, p (f x) = p x) :
    p ((listModify l n f).getD m d) = p (l.getD m d) := by
  induction l generalizing n m with
  | nil => cases n <;> rfl
  | cons x l ih =>
    cases n <;> cases m
    · exact h x
    · rfl
    · rfl
    · simpa [listModify] using ih _ _

/-! ### State laws -/

@[simp] theorem State.raiseBit_sch (s : State) (f : Fld) (en : Nat) : (s.raiseBit f en).sch = s.sch := by
  unfold State.raiseBit State.irqIf State.when
  split <;> rfl

@[simp] theorem State.raiseBit_reg (s : State) (f : Fld) (en a : Nat) : (s.raiseBit f en).reg a = (s.setB f).reg a := by
  unfold State.raiseBit State.irqIf State.when
  split <;> rfl

@[simp] theorem State.wrs_sch (s : State) (l : List (Fld × Nat)) : (s.wrs l).sch = s.sch :=
  State.wrs_keeps State.sch s l (fun f x t => State.wr_sch t f x)

@[simp] theorem State.wrs_media (s : State) (l : List (Fld × Nat)) : (s.wrs l).media = s.media :=
  State.wrs_keeps State.media s l (fun f x t => State.wr_media t f x)

/-- Field writes leave every zone. -/
@[simp] theorem State.wrs_zone (s : State) (l : List (Fld × Nat)) (z : Nat) : (s.wrs l).zone z = s.zone z := by
  simp only [State.zone, State.wrs_media]

/-- Writing the system area leaves the zones in use. -/
@[simp] theorem State.saveArea_zone (s : State) (d z : Nat) : (s.saveArea d).zone z = s.zone z := by
  unfold State.saveArea State.writeArea
  extract_lets
  split
  · rfl
  · split <;> rfl

/-- A zone updated is what the update makes of it, whether its checkpoint is written or not. -/
@[simp] theorem State.updZone_zone_self (s : State) (z : Nat) (f : Zone → Zone) : (s.updZone z f).zone z = f (s.zone z) := by
  have set : (s.updMedia (fun m => { m with zones := sparseSet Zone.blank m.zones z (f (s.zone z)) })).zone z = f (s.zone z) :=
    sparseGet_set_self _ _ _ _
  unfold State.updZone
  extract_lets
  split
  · exact set
  · rw [State.saveArea_zone]; exact set

/-! ### Tier map entries (R25, R26) -/

/-- Where OFFSET and TRIM_CENTRE may change, the entry installed is the entry in use. -/
theorem State.useTier_entry_free {s : State} {e : TierEntry} (h : s.offsetsFree e.zone = true) :
    ((s.useTier e).zone e.zone).entry = some e := by
  unfold State.useTier
  extract_lets conv slipped capacity e' saved kept
  have he : e' = e := by
    simp only [e', h, if_true]
    split <;> rfl
  rw [State.updZone_zone_self, he]
  split
  · rfl
  · split <;> rfl

/-- Where they may not, the entry in use takes them from the one it replaces (log entry 148). -/
theorem State.useTier_entry_bound {s : State} {e : TierEntry} (h : s.offsetsFree e.zone = false) :
    ((s.useTier e).zone e.zone).entry =
      (s.zone e.zone).entry.map (fun o => { e with offset := o.offset, trimCentre := o.trimCentre }) := by
  obtain ⟨o, ho⟩ : ∃ o, (s.zone e.zone).entry = some o := by
    rw [← Option.isSome_iff_exists, ← Option.not_isNone]
    simp only [State.offsetsFree, Bool.or_eq_false_iff] at h
    simp [h.1]
  unfold State.useTier
  extract_lets conv slipped capacity e' saved kept
  have he : e' = { e with offset := o.offset, trimCentre := o.trimCentre } := by
    simp only [e', ho, h, Bool.false_eq_true, if_false]
  rw [State.updZone_zone_self, he, ho]
  rfl

/-- TIER_MAP_INSTALL by the Helm of an entry that is read without error and passes its checks: the entry is put to use and the response says
DONE. -/
theorem execTierMapInstall_helm {s : State} {r : State × BufResp} {e : TierEntry} (hw : s.mayWrite .helm = true)
    (hr : r = s.readAny 15 0 2 (64 * s.rd SCH_TIER_ADDR_LO.ADDR + 2 ^ 32 * s.rd SCH_TIER_ADDR_HI.ADDR) 64) (he : e = parseTier r.2.data)
    (herr : r.2.err = false) (hue : r.2.anyUe = false) (hcrc : tierCrcOk r.2.data = true) (hcheck : r.1.tierCheck e = none) :
    execTierMapInstall .helm s = .next ((r.1.useTier e).wrs
      [(SCH_TIER_RESP.DONE, 1), (SCH_TIER_RESP.REFUSED, 0), (SCH_TIER_RESP.CHECK, 0), (SCH_TIER_RESP.ZONE, e.zone), (SCH_TIER_CMD.GO, 0)]) := by
  have hue : r.2.ue.any id = false := hue
  subst he
  simp only [execTierMapInstall, hw, Bool.not_true, Bool.false_eq_true, if_false, ← hr, herr, hue, hcrc, hcheck, or_self]

/-- The response of an installation shows DONE, not REFUSED. -/
theorem State.wrs_tierResp (t : State) (z : Nat) :
    let u := t.wrs [(SCH_TIER_RESP.DONE, 1), (SCH_TIER_RESP.REFUSED, 0), (SCH_TIER_RESP.CHECK, 0), (SCH_TIER_RESP.ZONE, z), (SCH_TIER_CMD.GO, 0)]
    u.rd SCH_TIER_RESP.DONE = 1 ∧ u.rd SCH_TIER_RESP.REFUSED = 0 := by
  constructor
  · simp only [State.wrs_cons, State.wrs_nil]
    rw [State.rd_wr_apart _ _ _ _ rfl rfl, State.rd_wr_apart _ _ _ _ rfl rfl, State.rd_wr_apart _ _ _ _ rfl rfl,
      State.rd_wr_apart _ _ _ _ rfl rfl, State.rd_wr_self _ _ _ rfl]
    rfl
  · simp only [State.wrs_cons, State.wrs_nil]
    rw [State.rd_wr_apart _ _ _ _ rfl rfl, State.rd_wr_apart _ _ _ _ rfl rfl, State.rd_wr_apart _ _ _ _ rfl rfl,
      State.rd_wr_self _ _ _ rfl]
    rfl

/-- What then holds: the response, and the entry in use with OFFSET and TRIM_CENTRE as R25 lets them change. -/
theorem tierMapInstall_helm_completes {s : State} {r : State × BufResp} {e : TierEntry} (hw : s.mayWrite .helm = true)
    (hr : r = s.readAny 15 0 2 (64 * s.rd SCH_TIER_ADDR_LO.ADDR + 2 ^ 32 * s.rd SCH_TIER_ADDR_HI.ADDR) 64) (he : e = parseTier r.2.data)
    (herr : r.2.err = false) (hue : r.2.anyUe = false) (hcrc : tierCrcOk r.2.data = true) (hcheck : r.1.tierCheck e = none) :
    completes (.tierMapInstall .helm) s (fun t => t.rd SCH_TIER_RESP.DONE = 1 ∧ t.rd SCH_TIER_RESP.REFUSED = 0 ∧
      (r.1.offsetsFree e.zone = true → (t.zone e.zone).entry = some e) ∧
      (r.1.offsetsFree e.zone = false →
        (t.zone e.zone).entry = (r.1.zone e.zone).entry.map (fun o => { e with offset := o.offset, trimCentre := o.trimCentre }))) := by
  obtain ⟨hdone, hrefused⟩ := State.wrs_tierResp (r.1.useTier e) e.zone
  refine ⟨_, execTierMapInstall_helm hw hr he herr hue hcrc hcheck, hdone, hrefused, fun h => ?_, fun h => ?_⟩
  · rw [State.wrs_zone, State.useTier_entry_free h]
  · rw [State.wrs_zone, State.useTier_entry_bound h]

/-- A write by the host is refused and leaves the media. -/
theorem tierMapInstall_host_completes {s : State} (hw : s.mayWrite .host = true) :
    completes (.tierMapInstall .host) s (fun t => t.media = s.media) := by
  refine ⟨s.refuseW .host SCH_TIER_CMD 2, ?_, (State.refuseW_kept (subMask_refl _) (Kept.refl _ _)).media_ rfl⟩
  show execTierMapInstall .host s = _
  simp only [execTierMapInstall, hw, Bool.not_true, Bool.false_eq_true, if_false]

/-! ### Dispatch steps (R391 to R394) -/

/-- What a domain's dispatcher holds of its last step: its bell, and whether an URGENT candidate has arrived since. -/
def State.stepNote (s : State) (a : Nat) : Nat × Bool :=
  ((s.sch.doms.getD a DomU.init).stepBell, (s.sch.doms.getD a DomU.init).urgent)

/-- Every step note is the same in states with the same scheduler. -/
theorem State.stepNote_congr {s t : State} (h : t.sch = s.sch) (a : Nat) : t.stepNote a = s.stepNote a := by
  simp only [State.stepNote, h]

/-- The dispatcher of a domain that there is becomes what the update makes of it. -/
theorem State.updDom_getD_self {s : State} {a : Nat} (f : DomU → DomU) (h : a < s.sch.doms.length) :
    (s.updDom a f).sch.doms.getD a DomU.init = f (s.sch.doms.getD a DomU.init) :=
  listModify_getD_self _ _ _ _ h

/-- An update that leaves bell and urgency leaves every step note. -/
theorem State.updDom_stepNote (s : State) (b : Nat) {f : DomU → DomU} (a : Nat)
    (h : ∀ d : DomU, ((f d).stepBell, (f d).urgent) = (d.stepBell, d.urgent)) : (s.updDom b f).stepNote a = s.stepNote a :=
  listModify_getD_keeps (fun d : DomU => (d.stepBell, d.urgent)) _ _ _ _ _ h

/-- Giving up locks leaves the dispatchers. -/
theorem State.dropLocks_doms (s : State) (tag : Nat) : (s.dropLocks tag).sch.doms = s.sch.doms := by
  unfold State.dropLocks
  rw [(State.showLocks_kept (subMask_refl _) (Kept.refl _ _)).sch_ rfl]
  rfl

/-- Settling the destage records leaves the dispatchers. -/
theorem State.settleWb_doms (s : State) : s.settleWb.sch.doms = s.sch.doms := by
  refine State.forEach_keeps (fun t => t.sch.doms) s _ _ (fun c t => ?_)
  extract_lets done bad u v
  have hv : v.sch = (u.dropLocks c.tag).sch := (State.dropPages_kept (subMask_refl _) (Kept.refl _ _)).sch_ rfl
  split
  · exact (congrArg SchU.doms hv).trans (State.dropLocks_doms u c.tag)
  · rfl

theorem State.settleWb_bell (s : State) : s.settleWb.bell = s.bell :=
  (State.settleWb_kept (subMask_refl _) (Kept.refl _ _)).bell_ rfl

theorem State.noteChoice_stepNote (s : State) (b : Nat) (c : Cand) (aged : Bool) (a : Nat) :
    (s.noteChoice b c aged).stepNote a = s.stepNote a := by
  unfold State.noteChoice
  extract_lets t₁ t₂
  have h₂ : t₂.sch = t₁.sch := State.wrs_sch _ _
  have h₃ : (t₂.when aged (fun t => (t.raiseBit SCH_STATUS.AGE_FORCED SCH_INT_EN).inc SCH_PREEMPT_CNT.AGED)).sch = t₂.sch := by
    cases aged
    · rw [State.when_false]
    · rw [State.when_true, State.inc_sch, State.raiseBit_sch]
  exact (State.stepNote_congr (h₃.trans h₂) a).trans (State.updDom_stepNote _ _ _ (fun _ => rfl))

theorem State.postTier_sch (s : State) (a chosen : Nat) (only : Bool) : (s.postTier a chosen only).sch = s.sch :=
  (State.postTier_kept (subMask_refl _) (Kept.refl _ _)).sch_ rfl

theorem State.showDom_sch (s : State) (a : Nat) : (s.showDom a).sch = s.sch :=
  (State.showDom_kept (subMask_refl _) (Kept.refl _ _)).sch_ rfl

theorem State.goTier_stepNote (s : State) (b : Nat) (c : Cand) (a : Nat) : (s.goTier b c).stepNote a = s.stepNote a := by
  unfold State.goTier
  split
  · rfl
  · extract_lets t₁ t₂ t₃
    have h₂ : t₂.sch = s.sch := State.forEach_keeps State.sch t₁ _ _ (fun _ _ => rfl)
    rw [State.stepNote_congr ((State.seekStart_kept (subMask_refl _) (Kept.refl _ _)).sch_ rfl), ← State.stepNote_congr h₂]
    exact State.updDom_stepNote _ _ _ (fun _ => rfl)

/-- DISPATCH_STEP of a domain that is served, at least 4 bells after its last step, notes this bell and leaves no urgency. -/
theorem dispatchStep_completes {a : Act} {s : State} (hact : s.actPresent a = true) (hrun : s.running = true)
    (hstate : s.rd SCH_PWR_STAT.STATE = 0) (hmoving : s.on SCH_PWR_STAT.MOVING = false) (hfence : s.isFenced (.seq a) = false)
    (hdoms : s.sch.doms.length = 4) (hbell : (s.sch.doms.getD a DomU.init).stepBell + 4 ≤ s.bell) :
    completes (.dispatchStep a) s (fun t => t.stepNote a = (s.bell, false)) := by
  refine ⟨_, rfl, ?_⟩
  extract_lets d u cs urg due t t'
  have hdue : due = true := by
    simp only [due, d, u, State.settleWb_bell, hbell, decide_true, Bool.true_or]
  have ht : t.stepNote a = (s.bell, false) := by
    have hlen : a.val < u.sch.doms.length := by rw [State.settleWb_doms, hdoms]; exact a.isLt
    simp only [State.stepNote, t, State.freeNext_sch, State.updDom_getD_self _ hlen, u, State.settleWb_bell]
  have ht' : t'.stepNote a = t.stepNote a := by
    simp only [t']
    split
    · rfl
    · split
      · rfl
      · next c aged _ =>
        split
        · rw [State.stepNote_congr (State.postTier_sch _ _ _ _), State.noteChoice_stepNote]
        · split
          · rw [State.goTier_stepNote, State.noteChoice_stepNote]
          · split
            · rfl
            · rw [State.stepNote_congr (State.postTier_sch _ _ _ _)]
  rw [if_neg (by simp only [hact, hrun, hstate, hmoving, hfence]; decide), if_neg (by simp only [hdue]; decide)]
  exact (State.stepNote_congr (State.showDom_sch _ _) _).trans (ht'.trans ht)

/-! ### URGENT pre-emption (R395, R401) -/

/-- What a pre-emption needs of the flush and the stop before it: dispatchers and pre-emption count are left. -/
def State.samePreempt (s t : State) : Prop := t.sch = s.sch ∧ t.reg SCH_PREEMPT_CNT = s.reg SCH_PREEMPT_CNT

theorem Kept.samePreempt {w : Nat} {s t : State} (h : Kept w s t) (hs : w.testBit 20 = false) (hc : maskClear w SCH_PREEMPT_CNT = true) :
    s.samePreempt t := ⟨h.sch_ hs, h.reg_keep hc⟩

theorem State.flushAct_samePreempt (s : State) (a : Nat) : s.samePreempt (s.flushAct a) :=
  (State.flushAct_kept (subMask_refl _) (Kept.refl _ _)).samePreempt rfl (by decide +kernel)

theorem State.profStop_samePreempt (s : State) (g : Nat) : s.samePreempt (s.profStop g) :=
  (State.profStop_kept (subMask_refl _) (Kept.refl _ _)).samePreempt rfl (by decide +kernel)

theorem State.flushPend_samePreempt (s : State) (a : Nat) :
    s.samePreempt ((s.updSeq a (fun e => { e with flushPend := true })).wr ⟨SEQ_FLUSH, a, a⟩ 1) :=
  ⟨rfl, State.reg_wr_ne _ _ _ _ (show SCH_PREEMPT_CNT ≠ SEQ_FLUSH by decide)⟩

/-- The pre-emption shown: PREEMPT is set and its count is one more, up to 65,535. -/
theorem State.preempt_shown (t : State) :
    let u := (t.raiseBit SCH_STATUS.PREEMPT SCH_INT_EN).inc SCH_PREEMPT_CNT.PREEMPT
    u.rd SCH_STATUS.PREEMPT = 1 ∧ u.rd SCH_PREEMPT_CNT.PREEMPT = satU 16 (t.rd SCH_PREEMPT_CNT.PREEMPT + 1) := by
  have hset : (t.raiseBit SCH_STATUS.PREEMPT SCH_INT_EN).rd SCH_STATUS.PREEMPT = 1 :=
    (congrArg (fun r => getF r _ _) (State.raiseBit_reg t _ _ _)).trans (State.rd_wr_self t _ _ rfl)
  have hcnt : (t.raiseBit SCH_STATUS.PREEMPT SCH_INT_EN).rd SCH_PREEMPT_CNT.PREEMPT = t.rd SCH_PREEMPT_CNT.PREEMPT :=
    (congrArg (fun r => getF r _ _) (State.raiseBit_reg t _ _ _)).trans (State.rd_wr_apart t _ _ _ rfl rfl)
  refine ⟨(State.rd_wr_apart _ _ _ _ rfl rfl).trans hset, (State.rd_wr_self _ _ _ rfl).trans ?_⟩
  rw [hcnt]
  exact Nat.mod_eq_of_lt (Nat.lt_of_le_of_lt (Nat.min_le_right _ _) (by decide))

/-- URGENT_PREEMPT of a domain that serves work, none of it URGENT, where an URGENT candidate waits: it is urgent, and the pre-emption is shown
and counted. -/
theorem urgentPreempt_completes {a : Act} {s : State} (hact : s.actPresent a = true) (hrun : s.running = true)
    (hcand : (s.cands a).any (fun c => c.cls == 0) = true) (hserves : (s.inHand a ++ (s.seekFor a).toList) ≠ [])
    (hcls : (s.inHand a ++ (s.seekFor a).toList).any (fun k => k == 0) = false) (hdoms : s.sch.doms.length = 4) :
    completes (.urgentPreempt a) s (fun t => (t.sch.doms.getD a DomU.init).urgent = true ∧ t.rd SCH_STATUS.PREEMPT = 1 ∧
      t.rd SCH_PREEMPT_CNT.PREEMPT = satU 16 (s.rd SCH_PREEMPT_CNT.PREEMPT + 1)) := by
  refine ⟨_, rfl, ?_⟩
  extract_lets serving t t' u
  obtain ⟨hsch, hcnt⟩ : s.samePreempt t := by
    simp only [t]
    split
    · exact State.flushPend_samePreempt s a
    · exact State.flushAct_samePreempt s a
  obtain ⟨hsch', hcnt'⟩ : t.samePreempt t' := by
    simp only [t']
    cases (s.seekFor a).isSome
    · exact ⟨rfl, rfl⟩
    · exact State.profStop_samePreempt t a
  have hu : u.sch = s.sch := by
    simp only [u, State.inc_sch, State.raiseBit_sch, hsch', hsch]
  have hrd : t'.rd SCH_PREEMPT_CNT.PREEMPT = s.rd SCH_PREEMPT_CNT.PREEMPT :=
    congrArg (fun r => getF r _ _) (hcnt'.trans hcnt)
  obtain ⟨hset, hcount⟩ := State.preempt_shown t'
  rw [if_neg (by simp [serving, hact, hrun, hcand, hserves, hcls])]
  refine ⟨?_, hset, hcount.trans (by rw [hrd])⟩
  rw [State.updDom_getD_self _ (by rw [hu, hdoms]; exact a.isLt)]

/-- Settles O57, clause by clause: the Helm's installation, the host's, a dispatch step, and a pre-emption. -/
theorem tierMapAndDispatch : Obligations.TierMapAndDispatch := by
  refine ⟨fun r s hw hr herr hue hcrc hcheck => tierMapInstall_helm_completes hw hr rfl herr hue hcrc hcheck,
    fun s hw => tierMapInstall_host_completes hw, fun a s hact hrun hstate hmoving hfence hdoms hbell => ?_,
    fun a s hact hrun hcand hserves hcls hdoms => urgentPreempt_completes hact hrun hcand hserves hcls hdoms⟩
  obtain ⟨t, ht, hnote⟩ := dispatchStep_completes hact hrun hstate hmoving hfence hdoms hbell
  exact ⟨t, ht, Prod.mk.inj hnote⟩

end Sys2Proof.Machine
end

