-- ==== Sys2Proof/Proofs/ZoneCommands.lean ====
section
/-! Zone actions, ZONE REPORT and ABORT (O54). -/

namespace Sys2Proof.Machine
open Reg

/-! ### Commands in hand (R331) -/

/-- A command found by a tag has that tag. -/
theorem State.tag_of_cmd? {s : State} {tag : Nat} {c : Cmd} (h : s.cmd? tag = some c) : c.tag = tag := by
  simpa using List.find?_some h

/-- An update that leaves tags alone changes the commands with its tag and no others. -/
theorem State.cmd?_updCmd (s : State) (tag k : Nat) {f : Cmd → Cmd} (hf : ∀ c, (f c).tag = c.tag) :
    (s.updCmd tag f).cmd? k = (s.cmd? k).map (fun c => if c.tag = tag then f c else c) := by
  have hg (c : Cmd) : (if c.tag = tag then f c else c).tag = c.tag := by
    split
    · exact hf c
    · rfl
  simp only [State.cmd?, State.updCmd, List.find?_map, Function.comp_def, hg]

theorem State.cmd?_updCmd_self {s : State} {tag : Nat} {c : Cmd} {f : Cmd → Cmd} (hf : ∀ c, (f c).tag = c.tag) (h : s.cmd? tag = some c) :
    (s.updCmd tag f).cmd? tag = some (f c) := by
  rw [State.cmd?_updCmd s tag tag hf, h, Option.map_some, if_pos (State.tag_of_cmd? h)]

theorem State.cmd?_updCmd_ne {s : State} {tag k : Nat} {c : Cmd} {f : Cmd → Cmd} (hf : ∀ c, (f c).tag = c.tag) (h : s.cmd? k = some c)
    (hk : k ≠ tag) : (s.updCmd tag f).cmd? k = some c := by
  rw [State.cmd?_updCmd s tag k hf, h, Option.map_some, if_neg (by rw [State.tag_of_cmd? h]; exact hk)]

/-- Commands are found alike in states that hold the same. -/
theorem State.cmd?_congr {s t : State} (h : t.cmds = s.cmds) (tag : Nat) : t.cmd? tag = s.cmd? tag := by
  simp only [State.cmd?, h]

theorem State.endedWith_iff (s : State) (tag st : Nat) :
    s.endedWith tag st = true ↔ ∃ c, s.cmd? tag = some c ∧ c.phase = .ended ∧ c.status = st := by
  simp [State.endedWith, Option.any_eq_true]

/-- Ending a command with a status, where no earlier one stands. -/
theorem State.cmd?_cmdEnd {s : State} {tag st : Nat} {c : Cmd} (h : s.cmd? tag = some c) (hst : c.status = 0) :
    (s.cmdEnd tag st).cmd? tag = some { c with status := st, phase := .ended } := by
  unfold State.cmdEnd
  rw [State.cmd?_updCmd_self (fun _ => by rfl) h, if_pos hst]

theorem State.cmdEnd_endedWith {s : State} {tag st : Nat} {c : Cmd} (h : s.cmd? tag = some c) (hst : c.status = 0) :
    (s.cmdEnd tag st).endedWith tag st = true :=
  (State.endedWith_iff _ _ _).2 ⟨_, State.cmd?_cmdEnd h hst, rfl, rfl⟩

/-- A started command that goes on is found by its tag. -/
theorem State.cmd?_of_atWork {s : State} {tag op : Nat} {c : Cmd} (h : s.atWork tag op c = true) : s.cmd? tag = some c := by
  simp only [State.atWork, Bool.and_eq_true, decide_eq_true_eq] at h
  exact h.1.1.1.1.1

/-- What is to be done on it is done. -/
theorem State.onStarted_of_atWork {s : State} {tag op : Nat} {c : Cmd} (h : s.atWork tag op c = true) (f : Cmd → State) :
    s.onStarted tag op f = f c := by
  have hc := State.cmd?_of_atWork h
  simp only [State.atWork, hc, decide_true, Bool.true_and] at h
  simp only [State.onStarted, hc, h, if_true]

/-! ### One zone in hand (R361) -/

/-- A command that holds the lock of the zone in hand goes on with it as it stands. -/
theorem State.zoneLock_of_granted {s : State} {c : Cmd} (h : s.sch.locks.any (fun (e : LockEnt) => e.tag == c.tag && e.granted) = true) :
    s.zoneLock c = (s, true) := by
  simp only [State.zoneLock, h, if_true]

/-- The command's one zone is in hand for the action, its lock granted and nothing failed. -/
theorem State.zoneHeld_elim {s : State} {c : Cmd} {a z : Nat} (h : s.zoneHeld c a z = true) :
    c.todoZones = [z] ∧ c.u 28 1 % 4 = a ∧ bitOf (c.u 28 1) 2 = false ∧ c.status = 0 ∧ s.zoneLock c = (s, true) := by
  simp only [State.zoneHeld, Bool.and_eq_true, beq_iff_eq, Bool.not_eq_true'] at h
  obtain ⟨⟨⟨⟨hz, ha⟩, hall⟩, hst⟩, hlock⟩ := h
  exact ⟨hz, ha, hall, hst, State.zoneLock_of_granted hlock⟩

/-- Dealing with a zone leaves the media. -/
theorem State.zoneNext_zone (s : State) (c : Cmd) (changed : Bool) (z : Nat) : (s.zoneNext c changed).zone z = s.zone z := by
  simp only [State.zone, (State.zoneNext_kept (changed := changed) (subMask_refl _) (Kept.refl _ s)).media_ rfl]

/-- The only zone dealt with, the command ends. -/
theorem State.zoneNext_endedWith {s : State} {c : Cmd} {tag : Nat} (changed : Bool) (hall : bitOf (c.u 28 1) 2 = false)
    (hc : s.cmd? tag = some c) (hst : c.status = 0) : (s.zoneNext c changed).endedWith tag 0 = true := by
  obtain rfl := State.tag_of_cmd? hc
  simp only [State.zoneNext, hall, Bool.not_false, Bool.true_or, if_true]
  exact State.cmdEnd_endedWith (State.cmd?_updCmd_self (fun _ => by rfl) hc) hst

/-- A zone in hand that has been dealt with: the command ends SUCCESS and the zone is what the action made of it. -/
theorem State.zoneNext_of_held {s t : State} {c : Cmd} {tag op a z : Nat} (hw : s.atWork tag op c = true) (hz : s.zoneHeld c a z = true)
    (ht : t.cmds = s.cmds) : (t.zoneNext c true).zone z = t.zone z ∧ (t.zoneNext c true).endedWith tag 0 = true := by
  obtain ⟨_, _, hall, hst, _⟩ := State.zoneHeld_elim hz
  exact ⟨State.zoneNext_zone _ _ _ _,
    State.zoneNext_endedWith true hall ((State.cmd?_congr ht tag).trans (State.cmd?_of_atWork hw)) hst⟩

/-- An action that the zone's state allows is made and the command goes on behind it. -/
theorem State.zoneAction_of_ok {s t : State} {c : Cmd} {tag a z : Nat} {act : State → Nat → Except Nat State}
    (hw : s.atWork tag 0x06 c = true) (hz : s.zoneHeld c a z = true) (hact : act s z = .ok t) :
    s.zoneAction tag a act = t.zoneNext c true := by
  obtain ⟨htodo, ha, _, _, hlock⟩ := State.zoneHeld_elim hz
  rw [State.zoneAction, State.onStarted_of_atWork hw, if_neg (not_not_intro ha), htodo]
  simp only [hlock, hact, Bool.not_true, Bool.false_eq_true, if_false]

/-! ### OPEN, CLOSE, FINISH, RESET (R29, R31) -/

/-- A new state leaves the rest of a zone and every command. -/
theorem State.setZState_zone (s : State) (z : Nat) (st : ZState) : (s.setZState z st).zone z = { s.zone z with state := st } :=
  State.updZone_zone_self _ _ _

theorem State.setZState_cmds (s : State) (z : Nat) (st : ZState) : (s.setZState z st).cmds = s.cmds := State.updZone_cmds _ _ _

/-- The zone may be opened explicitly: an open one always, another within the limits of its domain (R29). -/
def State.mayOpen (s : State) (z : Nat) : Prop :=
  (s.zone z).state = .implicitOpen ∨
  ((s.zone z).state = .empty ∧ (s.openZones (zoneDomain s.sys.cfg z)).length < s.sys.cfg.openLimit ∧
    (s.activeZones (zoneDomain s.sys.cfg z)).length < s.sys.cfg.activeLimit) ∨
  ((s.zone z).state = .closed ∧ (s.openZones (zoneDomain s.sys.cfg z)).length < s.sys.cfg.openLimit)

theorem State.openZone_ok {s : State} {z : Nat} (h : s.mayOpen z) :
    s.openZone z = .ok (s.setZState z .explicitOpen) := by
  rcases h with h | ⟨h, hopen, hactive⟩ | ⟨h, hopen⟩
  · simp only [State.openZone, h]
  · simp only [State.openZone, h, Nat.not_le.2 hopen, Nat.not_le.2 hactive, decide_false, Bool.or_self, Bool.false_eq_true, if_false]
  · simp only [State.openZone, h, Nat.not_le.2 hopen, decide_false, Bool.false_eq_true, if_false]

theorem State.closeZone_ok {s : State} {z : Nat} (h : (s.zone z).state = .implicitOpen ∨ (s.zone z).state = .explicitOpen) :
    s.closeZone z = .ok (s.setZState z (if (s.zone z).wp = 0 then .empty else .closed)) := by
  rcases h with h | h <;> simp only [State.closeZone, h]

/-- The states of a zone that may be finished, and reset without a look at its writer: EMPTY, open or CLOSED. -/
def ZState.unfilled (st : ZState) : Prop := st = .empty ∨ st = .implicitOpen ∨ st = .explicitOpen ∨ st = .closed

/-- FINISH: both pointers at the capacity, the sectors written until then noted. -/
def Zone.finish (x : Zone) : Zone :=
  { x with state := .full, wp := 16 * x.capacity, mediaWp := 16 * x.capacity, finished := some (x.mediaWp / 16) }

theorem State.finishZone_ok {s : State} {z : Nat} (h : (s.zone z).state.unfilled) : s.finishZone z = .ok (s.updZone z Zone.finish) := by
  rcases h with h | h | h | h <;> simp only [State.finishZone, h] <;> rfl

theorem State.resetRefused_none {s : State} {z : Nat} (h : (s.zone z).state.unfilled) : s.resetRefused z = none := by
  rcases h with h | h | h | h <;> simp only [State.resetRefused, h]

/-- OPEN of the one zone in hand (R29). -/
theorem zoneOpen_completes {tag : BitVec 14} {c : Cmd} {z : Nat} {s : State} (hw : s.atWork tag.toNat 0x06 c = true)
    (hz : s.zoneHeld c 0 z = true) (h : s.mayOpen z) :
    completes (.zoneOpen tag) s (fun t => (t.zone z).state = .explicitOpen ∧ (t.zone z).wp = (s.zone z).wp ∧
      t.endedWith tag.toNat 0 = true) := by
  obtain ⟨hzone, hend⟩ := State.zoneNext_of_held hw hz (s.setZState_cmds z .explicitOpen)
  refine ⟨_, congrArg Host.Outcome.next (State.zoneAction_of_ok hw hz (State.openZone_ok h)), ?_, ?_, hend⟩ <;> rw [hzone, State.setZState_zone]

/-- CLOSE of the one zone in hand (R29). -/
theorem zoneClose_completes {tag : BitVec 14} {c : Cmd} {z : Nat} {s : State} (hw : s.atWork tag.toNat 0x06 c = true)
    (hz : s.zoneHeld c 1 z = true) (h : (s.zone z).state = .implicitOpen ∨ (s.zone z).state = .explicitOpen) :
    completes (.zoneClose tag) s (fun t => (t.zone z).state = (if (s.zone z).wp = 0 then .empty else .closed) ∧
      t.endedWith tag.toNat 0 = true) := by
  obtain ⟨hzone, hend⟩ := State.zoneNext_of_held hw hz (s.setZState_cmds z (if (s.zone z).wp = 0 then .empty else .closed))
  exact ⟨_, congrArg Host.Outcome.next (State.zoneAction_of_ok hw hz (State.closeZone_ok h)), by rw [hzone, State.setZState_zone], hend⟩

/-- FINISH of the one zone in hand (R29). -/
theorem zoneFinish_completes {tag : BitVec 14} {c : Cmd} {z : Nat} {s : State} (hw : s.atWork tag.toNat 0x06 c = true)
    (hz : s.zoneHeld c 2 z = true) (h : (s.zone z).state.unfilled) :
    completes (.zoneFinish tag) s (fun t => t.zone z = (s.zone z).finish ∧ t.endedWith tag.toNat 0 = true) := by
  obtain ⟨hzone, hend⟩ := State.zoneNext_of_held hw hz (s.updZone_cmds z Zone.finish)
  exact ⟨_, congrArg Host.Outcome.next (State.zoneAction_of_ok hw hz (State.finishZone_ok h)), by rw [hzone, State.updZone_zone_self], hend⟩

/-- RESET of a zone whose generation does not wrap takes effect at once. -/
theorem execZoneReset_of_held {tag : BitVec 14} {c : Cmd} {z : Nat} {s : State} (hw : s.atWork tag.toNat 0x06 c = true)
    (hz : s.zoneHeld c 3 z = true) (h : (s.zone z).state.unfilled) (hgen : (s.zone z).gen < 65535) :
    execZoneReset tag s = .next ((s.resetZone z).zoneNext c true) := by
  obtain ⟨htodo, ha, _, _, hlock⟩ := State.zoneHeld_elim hz
  rw [execZoneReset, State.onStarted_of_atWork hw, if_neg (not_not_intro ha), htodo]
  simp only [hlock, State.resetRefused_none h, Nat.ne_of_lt hgen, ne_eq, not_false_eq_true, true_or, if_true, Bool.not_true,
    Bool.false_eq_true, if_false]

/-- RESET of the one zone in hand (R29, R31). -/
theorem zoneReset_completes {tag : BitVec 14} {c : Cmd} {z : Nat} {s : State} (hw : s.atWork tag.toNat 0x06 c = true)
    (hz : s.zoneHeld c 3 z = true) (h : (s.zone z).state.unfilled) (hgen : (s.zone z).gen < 65535) :
    completes (.zoneReset tag) s (fun t => (t.zone z).state = .empty ∧ (t.zone z).wp = 0 ∧ (t.zone z).mediaWp = 0 ∧
      (t.zone z).gen = (s.zone z).gen + 1 ∧ t.endedWith tag.toNat 0 = true) := by
  have hcmds : (s.resetZone z).cmds = s.cmds := State.updZone_cmds _ _ _
  obtain ⟨hzone, hend⟩ := State.zoneNext_of_held hw hz hcmds
  have hwrap : ((s.zone z).gen + 1) % 65536 = (s.zone z).gen + 1 := Nat.mod_eq_of_lt (by omega)
  refine ⟨_, execZoneReset_of_held hw hz h hgen, ?_, ?_, ?_, ?_, hend⟩ <;> rw [hzone, State.resetZone, State.updZone_zone_self]
  exact hwrap

/-! ### ZONE REPORT (R362) -/

/-- The zones that a ZONE REPORT lists: those from its SLBA on that match its FILTER. -/
def State.reported (s : State) (c : Cmd) : List Nat :=
  ((List.range s.zoneCount).filter (fun z => decide (lbaZone s.sys.cfg c.slba ≤ z))).filter
    (fun z => c.u 28 1 == 0xFF || (s.zone z).state.code == c.u 28 1)

theorem State.hostDataOut_cmds (s : State) (c : Cmd) (ns : Bool) (fuel ofs : Nat) (bs : List Byte) :
    (s.hostDataOut c ns fuel ofs bs).cmds = s.cmds :=
  (State.hostDataOut_kept (subMask_refl _) (Kept.refl _ _)).cmds_ rfl

/-- A ZONE REPORT without page list writes host data, notes how many descriptors it wrote, and ends. -/
theorem execZoneReport_of_atWork {tag : BitVec 14} {c : Cmd} {s : State} (hw : s.atWork tag.toNat 0x07 c = true) (hlist : c.hasList = false) :
    ∃ u : State, u.cmds = s.cmds ∧ execZoneReport tag s =
      .next ((u.updCmd c.tag (fun d => { d with changed := ((s.reported c).take c.cnt).length })).cmdEnd c.tag 0) := by
  simp only [execZoneReport, State.onStarted_of_atWork hw, Cmd.hostAt, hlist, Bool.not_false, if_true]
  exact ⟨_, State.hostDataOut_cmds _ _ _ _ _ _, rfl⟩

/-- ZONE REPORT without page list (R362). -/
theorem zoneReport_completes {tag : BitVec 14} {c : Cmd} {s : State} (hw : s.atWork tag.toNat 0x07 c = true) (hlist : c.hasList = false)
    (hst : c.status = 0) :
    completes (.zoneReport tag) s (fun t => t.endedWith tag.toNat 0 = true ∧
      (t.cmd? tag.toNat).map (fun d => d.changed) = some (min c.cnt (s.reported c).length)) := by
  obtain ⟨u, hu, heq⟩ := execZoneReport_of_atWork hw hlist
  have hc := (State.cmd?_congr hu _).trans (State.cmd?_of_atWork hw)
  rw [State.tag_of_cmd? hc] at heq
  have hset := State.cmd?_updCmd_self (f := fun d => { d with changed := ((s.reported c).take c.cnt).length }) (fun _ => by rfl) hc
  refine ⟨_, heq, State.cmdEnd_endedWith hset hst, ?_⟩
  rw [State.cmd?_cmdEnd hset hst, Option.map_some, List.length_take]

/-! ### ABORT (R340) -/

/-- ABORT of no ring, or of its own entry. -/
theorem abortCmd_invalid_completes {tag : BitVec 14} {c : Cmd} {s : State} (hw : s.atWork tag.toNat 0x0B c = true) (hst : c.status = 0)
    (h : 128 < c.u 28 1 ∨ c.src = .ring (c.u 28 1) (c.u 30 2)) :
    completes (.abortCmd tag) s (fun t => t.endedWith tag.toNat stInvalidTarget = true) := by
  have hc := State.cmd?_of_atWork hw
  refine ⟨s.cmdEnd c.tag stInvalidTarget, ?_, ?_⟩
  · show execAbortCmd tag s = _
    rw [execAbortCmd, State.onStarted_of_atWork hw, if_pos (by tauto)]
  · rw [State.tag_of_cmd? hc]; exact State.cmdEnd_endedWith hc hst

/-- ABORT of an entry between HEAD and TAIL of an ENABLED ring whose command has not started: that command ends ABORTED, then the ABORT SUCCESS. -/
theorem execAbortCmd_of_unstarted {tag : BitVec 14} {c d : Cmd} {s : State} (hw : s.atWork tag.toNat 0x0B c = true)
    (hring : c.u 28 1 ≤ 128) (hstate : s.ringState (c.u 28 1) = 2) (hidx : c.u 30 2 < s.ringN (c.u 28 1))
    (hown : c.src ≠ .ring (c.u 28 1) (c.u 30 2))
    (hfetched : ringDist (s.ringN (c.u 28 1)) (s.ringHead (c.u 28 1)) (c.u 30 2) <
      ringDist (s.ringN (c.u 28 1)) (s.ringHead (c.u 28 1)) (s.ringTail (c.u 28 1)))
    (hdone : s.isDone (c.u 28 1) (c.u 30 2) = false)
    (hfind : s.cmds.find? (fun d => d.src == .ring (c.u 28 1) (c.u 30 2)) = some d) (hruns : s.appendRuns d = false)
    (hphase : d.phase = .fetched ∨ d.phase = .waiting) :
    execAbortCmd tag s = .next ((s.updCmd d.tag (fun d => { d with status := stAborted, phase := .ended })).cmdEnd c.tag 0) := by
  have hvalid : ¬(128 < c.u 28 1 ∨ s.ringState (c.u 28 1) = 0 ∨ s.ringState (c.u 28 1) = 1 ∨ s.ringN (c.u 28 1) ≤ c.u 30 2 ∨
      c.src = .ring (c.u 28 1) (c.u 30 2)) := by
    rw [hstate]; push Not; exact ⟨hring, by decide, by decide, hidx, hown⟩
  have hopen : ¬(ringDist (s.ringN (c.u 28 1)) (s.ringHead (c.u 28 1)) (s.ringTail (c.u 28 1)) ≤
      ringDist (s.ringN (c.u 28 1)) (s.ringHead (c.u 28 1)) (c.u 30 2) ∨ s.isDone (c.u 28 1) (c.u 30 2) = true) := by
    simp [hdone, hfetched]
  rw [execAbortCmd, State.onStarted_of_atWork hw, if_neg hvalid, if_neg hopen, hfind]
  simp only [hruns, hphase, Bool.false_eq_true, if_false, if_true]

/-- A command ended ABORTED stays so when another one ends. -/
theorem State.abortPair_endedWith {s : State} {c d : Cmd} {tag : Nat} (hc : s.cmd? tag = some c) (hst : c.status = 0) (hd : d ∈ s.cmds)
    (hne : d.tag ≠ tag) :
    let t := (s.updCmd d.tag (fun d => { d with status := stAborted, phase := .ended })).cmdEnd tag 0
    t.endedWith tag 0 = true ∧ t.endedWith d.tag stAborted = true := by
  obtain ⟨d', hd'⟩ : ∃ d', s.cmd? d.tag = some d' :=
    Option.isSome_iff_exists.1 (List.find?_isSome.2 ⟨d, hd, beq_self_eq_true _⟩)
  have hc' := State.cmd?_updCmd_ne (f := fun d => { d with status := stAborted, phase := .ended }) (fun _ => by rfl) hc hne.symm
  have hd'' := State.cmd?_updCmd_self (f := fun d => { d with status := stAborted, phase := .ended }) (fun _ => by rfl) hd'
  exact ⟨State.cmdEnd_endedWith hc' hst,
    (State.endedWith_iff _ _ _).2 ⟨_, State.cmd?_updCmd_ne (fun _ => by rfl) hd'' hne, rfl, rfl⟩⟩

/-- Settles O54, clause by clause: the zone actions on the one zone in hand, the report, and the two outcomes of ABORT. -/
theorem zoneCommandsAndAbort : Obligations.ZoneCommandsAndAbort := by
  refine ⟨fun tag c z s hw hz h => zoneOpen_completes hw hz h, fun tag c z s hw hz h => zoneClose_completes hw hz h,
    fun tag c z s hw hz h => ?_, fun tag c z s hw hz h hgen => zoneReset_completes hw hz h hgen,
    fun tag c s hw hlist hst => zoneReport_completes hw hlist hst, fun tag c s hw hst h => abortCmd_invalid_completes hw hst h,
    fun tag c d s hw hst hring hstate hidx hown hfetched hdone hfind hruns hphase hne => ?_⟩
  · obtain ⟨t, ht, hzone, hend⟩ := zoneFinish_completes hw hz h
    refine ⟨t, ht, ?_, ?_, ?_, ?_, hend⟩ <;> rw [hzone] <;> rfl
  · have hc := State.cmd?_of_atWork hw
    have heq := execAbortCmd_of_unstarted hw hring hstate hidx hown hfetched hdone hfind hruns hphase
    rw [State.tag_of_cmd? hc] at heq hne
    exact ⟨_, heq, State.abortPair_endedWith hc hst (List.mem_of_find?_eq_some hfind) hne⟩

end Sys2Proof.Machine
end

