-- ==== Sys2Proof/Proofs/WritePath.lean ====
section
/-! Gate events of a write, the write streams and rewrites (O31). -/

namespace Sys2Proof.Machine
open Reg

/-! ### Heads and lanes -/

theorem listModify_length {α : Type} (l : List α) (n : Nat) (f : α → α) : (listModify l n f).length = l.length := by
  induction l generalizing n with
  | nil => cases n <;> rfl
  | cons x l ih =>
    cases n with
    | zero => rfl
    | succ n => exact congrArg (· + 1) (ih n)

theorem State.updHead_head_self {s : State} {h : Nat} (f : HeadU → HeadU) (hh : h < s.wrp.heads.length) :
    (s.updHead h f).head h = f (s.head h) := listModify_getD_self _ _ _ _ hh

/-- What an update of a head keeps of every head, it keeps of each. -/
theorem State.updHead_head_keeps {β : Type} (p : HeadU → β) (s : State) (k h : Nat) {f : HeadU → HeadU} (hf : ∀ u, p (f u) = p u) :
    p ((s.updHead k f).head h) = p (s.head h) := listModify_getD_keeps p _ _ _ _ _ hf

theorem State.head_congr {s t : State} (hwrp : t.wrp = s.wrp) (h : Nat) : t.head h = s.head h := by
  simp only [State.head, hwrp]

/-- A head whose gate is open is one there is. -/
theorem State.lt_of_gate {s : State} {h : Nat} {g : Nat × Bool} (hg : (s.head h).gate = some g) : h < s.wrp.heads.length := by
  by_contra hlen
  rw [State.head, List.getD_eq_default _ _ (Nat.not_lt.1 hlen)] at hg
  cases hg

/-- The lane of a head that there is becomes what the update makes of it. -/
theorem State.updLane_lane_self {s : State} {h : Nat} (f : Lane → Lane) (hseq : h / 6 < s.seqs.length)
    (hlane : h % 6 < (s.seq (h / 6)).lanes.length) : (s.updLane h f).lane h = f (s.lane h) := by
  have hseq' : (s.updLane h f).seq (h / 6) = _ := listModify_getD_self s.seqs (h / 6) _ SeqU.init hseq
  rw [State.lane, hseq']
  exact listModify_getD_self _ _ _ _ hlane

/-! ### A write gate opens (R138, R36, R107) -/

/-- The gate of head `h` opens for a sector's first fragment and takes PRECOMP (R128). -/
def State.openGate (s : State) (h : Nat) (e : GateEv) : State :=
  ((s.updHead h (fun u => { u with gate := some (e.desc.token, e.final), pc1 := s.rd (WRP_PRECOMP.PC1 h), pc2 := s.rd (WRP_PRECOMP.PC2 h) })).setB
    (WRP_STATUS.GATE h)).emit (.writeGate h true)

/-- The stream clocks out the fragment of `e`. -/
def State.streamOpen (s : State) (h : Nat) (e : GateEv) (bits : Nat) : State :=
  let t := s.openGate h e
  t.emit (t.streamOut h e bits)

/-- Sector `tok` is under way: a rewrite counts, and its append has started. -/
def State.writeBegun (s : State) (h tok : Nat) (w : SecWork) : State :=
  ((s.when w.rewrite (fun t => t.inc (WRP_EVT_CNT.REWRITES h))).updSec tok
    (fun w => { w with st := .underway, rewrite := false })).appendStarted w

/-- Where nothing forbids it, a sector's first OPEN_WRITE opens the gate, the stream clocks out and the sector is under way. -/
theorem State.fireOpenWrite_of_armed {s : State} {h : Nat} {e : GateEv} {w : SecWork} {x : EncSec} (hfirst : e.first = true)
    (hcan : s.canWrite h = true) (hwus : s.wus h = false) (hinh : s.inhibited h = false)
    (henc : (s.head h).buf.find? (fun y => y.token == e.desc.token) = some x) (hmode : (s.head h).mode = 2)
    (hctl : s.wrp.ctlBlock = false) (hen : s.on (WRP_CTRL.EN h) = true) (hsec : s.sec? e.desc.token = some w) (hst : w.st ≠ .failed) :
    s.fireOpenWrite h e = (s.streamOpen h e x.bits).writeBegun h e.desc.token w := by
  have hbad : (s.wus h || s.inhibited h || s.wrp.ctlBlock ||
      (e.first && ((some x).isNone || (s.head h).mode != 2 || !s.on (WRP_CTRL.EN h)))) = false := by
    simp [hwus, hinh, hctl, hfirst, hmode, hen]
  simp only [State.fireOpenWrite, henc, hbad, hcan, hsec, hst, Bool.not_true, Bool.and_false, Bool.false_eq_true, if_false]
  simp only [hfirst, if_true]
  rfl

/-- On a head that can write but has a write-unsafe condition or is inhibited, the gate stays closed. -/
theorem State.fireOpenWrite_of_unsafe {s : State} {h : Nat} {e : GateEv} (hcan : s.canWrite h = true)
    (hbad : s.wus h = true ∨ s.inhibited h = true) : s.fireOpenWrite h e = s.gateClosed h e := by
  have hbad : (s.wus h || s.inhibited h) = true := by simpa using hbad
  simp only [State.fireOpenWrite, hcan, hbad, Bool.not_true, Bool.and_false, Bool.false_eq_true, if_false, Bool.true_or, if_true]

/-- A sector begun leaves the heads, the lanes, the outputs and every register but the event counters of its head. -/
theorem State.writeBegun_frame (s : State) (h tok : Nat) (w : SecWork) :
    (s.writeBegun h tok w).wrp = s.wrp ∧ (s.writeBegun h tok w).seqs = s.seqs ∧ (s.writeBegun h tok w).srv = s.srv ∧
    (s.writeBegun h tok w).sys = s.sys ∧ (s.writeBegun h tok w).out = s.out ∧
    ∀ a, a ≠ WRP_EVT_CNT h → (s.writeBegun h tok w).reg a = s.reg a := by
  unfold State.writeBegun State.appendStarted
  cases w.rewrite with
  | false => exact ⟨by simp, by simp, by simp, by simp, by simp, fun a _ => by simp [State.reg]⟩
  | true =>
    refine ⟨by simp, by simp, by simp, by simp, by simp, fun a ha => ?_⟩
    exact (by simp [State.reg] : _ = (s.inc (WRP_EVT_CNT.REWRITES h)).reg a).trans (State.reg_wr_ne _ _ _ _ ha)

/-- The stream of a head is made from its lane, its write stream, the servo results and registers outside the write path's block. -/
theorem State.streamOut_congr {s t : State} {h : Nat} (e : GateEv) (bits : Nat) (hwrp : t.wrp = s.wrp) (hseqs : t.seqs = s.seqs)
    (hsrv : t.srv = s.srv) (hsys : t.sys = s.sys) (hreg : ∀ a, (a < 0xA0000 ∨ 0xB0000 ≤ a) → t.reg a = s.reg a) :
    t.streamOut h e bits = s.streamOut h e bits := by
  have hmarks : t.markWords = s.markWords := by
    simp only [State.markWords, hreg _ (.inl (by decide : RCH_PRIMARY_LO < 0xA0000)), hreg _ (.inl (by decide : RCH_PRIMARY_HI < 0xA0000)),
      hreg _ (.inl (by decide : RCH_RESCUE_LO < 0xA0000)), hreg _ (.inl (by decide : RCH_RESCUE_HI < 0xA0000)),
      hreg _ (.inl (by decide : RCH_FRAG_LO < 0xA0000)), hreg _ (.inl (by decide : RCH_FRAG_HI < 0xA0000))]
  have hformat : t.reg (SEQ_FORMAT (h / 6)) = s.reg (SEQ_FORMAT (h / 6)) := hreg _ (.inr (by unfold SEQ_FORMAT; omega))
  have hpre : t.preLen (h / 6) = s.preLen (h / 6) := congrArg (fun r => 8 * getF r _ _) hformat
  have hfpre : t.fpreLen (h / 6) = s.fpreLen (h / 6) := congrArg (fun r => 8 * getF r _ _) hformat
  have hlane : t.lane h = s.lane h := by simp only [State.lane, State.seq, hseqs]
  have hrate : t.writeRate h = s.writeRate h := by
    have hclass : t.reg (rateAt (2 * (s.lane h).rateClass)) = s.reg (rateAt (2 * (s.lane h).rateClass)) :=
      hreg _ (.inr (by unfold rateAt; omega))
    simp only [State.writeRate, State.wedgePeriod, hlane, hsys, hsrv, hclass]
  simp only [State.streamOut, State.fragmentStop, hmarks, hpre, hfpre, hlane, hrate, hsrv, State.head_congr hwrp]

/-- What then holds: the gate is open under PRECOMP, and the gate and the stream are the outputs. -/
theorem State.writeBegun_streamOpen {s : State} {h : Nat} {e : GateEv} (bits tok : Nat) (w : SecWork) (hh : h < 24)
    (hlen : h < s.wrp.heads.length) :
    let t := (s.streamOpen h e bits).writeBegun h tok w
    (t.head h).gate = some (e.desc.token, e.final) ∧ t.rd (WRP_STATUS.GATE h) = 1 ∧ (t.head h).pc1 = s.rd (WRP_PRECOMP.PC1 h) ∧
      (t.head h).pc2 = s.rd (WRP_PRECOMP.PC2 h) ∧ t.out = s.out ++ [.writeGate h true, t.streamOut h e bits] := by
  intro t
  obtain ⟨hwrp, hseqs, hsrv, hsys, hout, hreg⟩ := State.writeBegun_frame (s.streamOpen h e bits) h tok w
  have hhead : t.head h = _ := (State.head_congr hwrp h).trans (State.updHead_head_self _ hlen)
  have hgate : (s.openGate h e).rd (WRP_STATUS.GATE h) = 1 := State.rd_wr_self _ _ _ rfl
  have hstream : t.streamOut h e bits = (s.openGate h e).streamOut h e bits :=
    State.streamOut_congr e bits hwrp hseqs hsrv hsys (fun a ha => hreg a (by unfold WRP_EVT_CNT; omega))
  refine ⟨by rw [hhead], ?_, by rw [hhead], by rw [hhead], ?_⟩
  · refine Eq.trans (congrArg (fun r => getF r _ _) (hreg (WRP_STATUS h) ?_)) hgate
    unfold WRP_STATUS WRP_EVT_CNT
    omega
  · rw [hstream]
    exact hout.trans (by simp [State.streamOpen, State.openGate])

/-- A gate that stays closed leaves the heads. -/
@[simp] theorem State.gateClosed_wrp (s : State) (h : Nat) (e : GateEv) : (s.gateClosed h e).wrp = s.wrp :=
  (State.gateClosed_kept (subMask_refl _) (Kept.refl _ s)).wrp_ rfl

/-- It adds no output. -/
@[simp] theorem State.gateClosed_out (s : State) (h : Nat) (e : GateEv) : (s.gateClosed h e).out = s.out :=
  (State.gateClosed_kept (subMask_refl _) (Kept.refl _ s)).out_ rfl

/-- GATE_EVENT_FIRE takes the lane's first event; an OPEN_WRITE falls due on the state without it. -/
theorem execGateEventFire_openWrite {h : Head} {e : GateEv} {l : List GateEv} {s : State} (adc : List (Byte × Byte))
    (hev : (s.lane h).events = e :: l) (hact : e.act = .openWrite) :
    execGateEventFire h adc s = .next ((s.popEvent h).fireOpenWrite h e) := by
  simp only [execGateEventFire, hev, hact]

/-- A CLOSE of a write gate falls due so too; behind it the preamplifier port takes its next frame. -/
theorem execGateEventFire_closeWrite {h : Head} {e : GateEv} {l : List GateEv} {s : State} (adc : List (Byte × Byte))
    (hev : (s.lane h).events = e :: l) (hact : e.act = .close) (hwrite : e.desc.write = true) :
    execGateEventFire h adc s = .next (((s.popEvent h).fireCloseWrite h e).paKick (h.val / 6)) := by
  simp only [execGateEventFire, hev, hact, hwrite, if_true]

/-- OPEN_WRITE where nothing forbids it (R36, R107, R138). -/
theorem gateEventFire_open_completes {h : Head} {e : GateEv} {l : List GateEv} {w : SecWork} {x : EncSec} {s : State}
    (adc : List (Byte × Byte)) (hev : (s.lane h).events = e :: l) (hact : e.act = .openWrite) (hfirst : e.first = true)
    (hcan : s.canWrite h = true) (hwus : s.wus h = false) (hinh : s.inhibited h = false)
    (henc : (s.head h).buf.find? (fun y => y.token == e.desc.token) = some x) (hmode : (s.head h).mode = 2)
    (hctl : s.wrp.ctlBlock = false) (hen : s.on (WRP_CTRL.EN h) = true) (hsec : s.sec? e.desc.token = some w) (hst : w.st ≠ .failed)
    (hheads : s.wrp.heads.length = 24) :
    completes (.gateEventFire h adc) s (fun t => (t.head h).gate = some (e.desc.token, e.final) ∧ t.rd (WRP_STATUS.GATE h) = 1 ∧
      (t.head h).pc1 = s.rd (WRP_PRECOMP.PC1 h) ∧ (t.head h).pc2 = s.rd (WRP_PRECOMP.PC2 h) ∧
      t.out = s.out ++ [.writeGate h true, t.streamOut h e x.bits]) := by
  have hfire := State.fireOpenWrite_of_armed (s := s.popEvent h) hfirst hcan hwus hinh henc hmode hctl hen hsec hst
  exact ⟨_, (execGateEventFire_openWrite adc hev hact).trans (congrArg _ hfire),
    State.writeBegun_streamOpen (s := s.popEvent h) x.bits e.desc.token w h.isLt (Nat.lt_of_lt_of_eq h.isLt hheads.symm)⟩

/-- OPEN_WRITE under a write-unsafe condition or an inhibition (R124, R138). -/
theorem gateEventFire_unsafe_completes {h : Head} {e : GateEv} {l : List GateEv} {s : State} (adc : List (Byte × Byte))
    (hev : (s.lane h).events = e :: l) (hact : e.act = .openWrite) (hcan : s.canWrite h = true)
    (hbad : s.wus h = true ∨ s.inhibited h = true) :
    completes (.gateEventFire h adc) s (fun t => (t.head h).gate = (s.head h).gate ∧ t.out = s.out) := by
  have hfire := State.fireOpenWrite_of_unsafe (s := s.popEvent h) (e := e) hcan hbad
  have hwrp := (s.popEvent h).gateClosed_wrp h e
  exact ⟨_, (execGateEventFire_openWrite adc hev hact).trans (congrArg _ hfire), congrArg HeadU.gate (State.head_congr hwrp h),
    (s.popEvent h).gateClosed_out h e⟩

/-! ### A write gate closes (R138, R18) -/

/-- The write gate of head `h` has been closed: none is open, GATE shows none, and an output closed it. -/
def State.gateShut (s : State) (h : Nat) : Prop :=
  (s.head h).gate = none ∧ s.rd (WRP_STATUS.GATE h) = 0 ∧ .writeGate h false ∈ s.out

theorem State.gateShut_congr {s t : State} {h : Nat} (hs : s.gateShut h) (hwrp : t.wrp = s.wrp) (hregs : t.regs = s.regs)
    (hout : t.out = s.out) : t.gateShut h := by
  obtain ⟨hgate, hrd, hmem⟩ := hs
  exact ⟨(congrArg HeadU.gate (State.head_congr hwrp h)).trans hgate, (State.rd_congr hregs _).trans hrd, hout ▸ hmem⟩

/-- An update of a head that leaves its gate opens none. -/
theorem State.gateShut_updHead {s : State} {h : Nat} (k : Nat) {f : HeadU → HeadU} (hf : ∀ u, (f u).gate = u.gate) (hs : s.gateShut h) :
    (s.updHead k f).gateShut h := by
  obtain ⟨hgate, hrd, hmem⟩ := hs
  exact ⟨(State.updHead_head_keeps HeadU.gate s k h hf).trans hgate, hrd, hmem⟩

theorem State.gateShut_updPort {s : State} {h : Nat} (a : Nat) (f : PaPort → PaPort) (hs : s.gateShut h) : (s.updPort a f).gateShut h := hs

theorem State.gateShut_paSend {s : State} {h : Nat} (a : Nat) (f : PaFrame) (hs : s.gateShut h) : (s.paSend a f).gateShut h := by
  obtain ⟨hgate, hrd, hmem⟩ := hs
  exact ⟨hgate, hrd, List.mem_append_left _ hmem⟩

theorem State.gateShut_clrGo {s : State} {h : Nat} (k : Nat) (hs : s.gateShut h) : (s.clr (WRP_PA_CMD.GO k)).gateShut h := by
  obtain ⟨hgate, hrd, hmem⟩ := hs
  have hne : WRP_STATUS h ≠ (WRP_PA_CMD.GO k).addr := by
    show 0xA0010 + h * 0x200 ≠ 0xA0018 + k * 0x200
    omega
  exact ⟨hgate, (congrArg (fun r => getF r _ _) (State.reg_wr_ne s _ 0 _ hne)).trans hrd, hmem⟩

/-- The next frame of a port opens no gate. -/
theorem State.gateShut_paKick {s : State} {h : Nat} (a : Nat) (hs : s.gateShut h) : (s.paKick a).gateShut h := by
  unfold State.paKick
  dsimp only
  split
  · exact hs
  split
  · exact State.gateShut_paSend _ _ hs
  split
  · split
    · exact State.gateShut_paSend _ _ (State.gateShut_updHead _ (fun _ => rfl) hs)
    · exact State.gateShut_paSend _ _ (State.gateShut_updHead _ (fun _ => rfl) hs)
  split
  · exact State.gateShut_paSend _ _ (State.gateShut_updHead _ (fun _ => rfl) hs)
  split
  · split
    · exact State.gateShut_clrGo _ (State.gateShut_paSend _ _ hs)
    · exact State.gateShut_paSend _ _ hs
  · exact hs

theorem State.gateShut_sectorWritten {s : State} {h : Nat} (tok : Nat) (hs : s.gateShut h) : (s.sectorWritten tok).gateShut h :=
  have kept := State.sectorWritten_kept (tok := tok) (subMask_refl _) (Kept.refl _ s)
  State.gateShut_congr hs (kept.wrp_ rfl) (kept.regs_ rfl) (kept.out_ rfl)

/-- The CLOSE of the open gate's token shuts the gate, before the sector counts as written as behind it. -/
theorem State.gateShut_fireCloseWrite {s : State} {h : Nat} {e : GateEv} {final : Bool} (hgate : (s.head h).gate = some (e.desc.token, final)) :
    (s.fireCloseWrite h e).gateShut h := by
  have hshut : (((s.updHead h (fun u => { u with gate := none })).clr (WRP_STATUS.GATE h)).emit (.writeGate h false)).gateShut h :=
    ⟨congrArg HeadU.gate (State.updHead_head_self _ (State.lt_of_gate hgate)), State.rd_wr_self _ _ _ rfl,
      List.mem_append_right _ (List.mem_singleton_self _)⟩
  simp only [State.fireCloseWrite, hgate, ne_eq, not_true_eq_false, if_false]
  cases final with
  | false => exact hshut
  | true => exact State.gateShut_sectorWritten _ (State.gateShut_updHead _ (fun _ => rfl) hshut)

/-- CLOSE of the open write gate (R138). -/
theorem gateEventFire_close_completes {h : Head} {e : GateEv} {l : List GateEv} {final : Bool} {s : State} (adc : List (Byte × Byte))
    (hev : (s.lane h).events = e :: l) (hact : e.act = .close) (hwrite : e.desc.write = true)
    (hgate : (s.head h).gate = some (e.desc.token, final)) :
    completes (.gateEventFire h adc) s (fun t => t.gateShut h) :=
  ⟨_, execGateEventFire_closeWrite adc hev hact hwrite,
    State.gateShut_paKick _ (State.gateShut_fireCloseWrite (s := s.popEvent h) (e := e) (final := final) hgate)⟩

/-! ### The streams (R106 to R109) -/

/-- A buffer read leaves the write path. -/
theorem State.readAny_wrp (s : State) (port chan fuel addr n : Nat) : (s.readAny port chan fuel addr n).1.wrp = s.wrp :=
  (State.readAny_kept (subMask_refl _) (Kept.refl _ _)).wrp_ rfl

/-- A buffer read leaves the control register of every stream. -/
theorem State.readAny_ctrl (s : State) (port chan fuel addr n : Nat) (h : Head) :
    (s.readAny port chan fuel addr n).1.reg (WRP_CTRL h) = s.reg (WRP_CTRL h) :=
  (State.readAny_kept (subMask_refl _) (Kept.refl _ _)).reg_keep (by revert h; decide +kernel)

/-- A raise leaves the status of every head. -/
theorem State.raiseSrc_status (s : State) (src : Nat) (x : RaiseCtx) (h : Head) :
    (s.raiseSrc src x).reg (WRP_STATUS h) = s.reg (WRP_STATUS h) :=
  (State.raiseSrc_kept (subMask_refl _) (Kept.refl _ _)).reg_keep (by revert h; decide +kernel)

theorem State.irqIf_regs (s : State) (en : Bool) (addr bit : Nat) : (s.irqIf en addr bit).regs = s.regs := by
  cases en <;> rfl

/-- A failed check of R106 shows in CRC_ERR. -/
theorem State.streamCrcFail_crcErr (s : State) (h : Head) (tok : Nat) (w : SecWork) :
    (s.streamCrcFail h tok w).rd (WRP_STATUS.CRC_ERR h) = 1 := by
  unfold State.streamCrcFail
  extract_lets gone t₁ t₂ t₃
  have hset : t₂.rd (WRP_STATUS.CRC_ERR h) = 1 := (State.rd_congr (State.irqIf_regs _ _ _ _) _).trans (State.rd_wr_self _ _ _ rfl)
  exact (congrArg (fun r => getF r _ _) (State.raiseSrc_status t₂ _ _ h)).trans hset

/-- The stream of head `h` is to take this sector (R106): a write of the head to be done, not yet encoded, the stream enabled with room. -/
def State.streamDue (s : State) (h : Head) (w : SecWork) : Prop :=
  w.write = true ∧ w.head = h.val ∧ w.encoded = false ∧ s.on (WRP_CTRL.EN h) = true ∧ (s.head h).buf.length < 3 ∧ (w.st = .todo ∨ w.st = .listed)

/-- What the stream holds of a sector with this data and trailer: data, tag, CRC and stamp encoded, and scrambled with SCR_EN set (R108, R109,
log entry 136). -/
def State.encSector (s : State) (h tok : Nat) (w : SecWork) (data trailer : List Byte) : EncSec :=
  { token := tok,
    bits := (if s.on (WRP_CTRL.SCR_EN h) then channelBits else ldpcEncode)
      (data ++ trailer.take 8 ++ (trailer.drop 8).take 4 ++ leBytes 4 w.stamp) }

theorem State.encSector_congr {s t : State} {h : Nat} (hctrl : t.reg (WRP_CTRL h) = s.reg (WRP_CTRL h)) (tok : Nat) (w : SecWork)
    (data trailer : List Byte) : t.encSector h tok w data trailer = s.encSector h tok w data trailer := by
  have hscr : t.on (WRP_CTRL.SCR_EN h) = s.on (WRP_CTRL.SCR_EN h) := congrArg (fun r => getF r _ _ != 0) hctrl
  simp only [State.encSector, hscr]

/-- The check of R106 on what the reads of data and trailer return: uncorrectable or refused, or a CRC that differs. -/
def streamCheckFails (d r : BufResp) : Bool :=
  d.anyUe || d.err || r.anyUe || r.err || leValue ((r.data.drop 8).take 4) != sectorCrc d.data (leValue (r.data.take 8))

section
variable {h : Head} {tok : Word} {w : SecWork} {addr : Nat} {s : State} {p q : State × BufResp}

/-- The stream reads data `p` and trailer `q`; it fails the check, or holds the sector encoded. -/
theorem execStreamSectorReady_of_due (hsec : s.sec? tok.toNat = some w) (haddr : s.secAddr tok.toNat w = some addr) (hdue : s.streamDue h w)
    (hp : p = s.readAny 8 0 64 addr 4096) (hq : q = p.1.readAny 8 0 4 (s.trailerAddr addr) 16) :
    execStreamSectorReady h tok s = .next (
      if streamCheckFails p.2 q.2 then q.1.streamCrcFail h tok.toNat w
      else (q.1.updHead h (fun u => { u with buf := u.buf ++ [q.1.encSector h tok.toNat w p.2.data q.2.data] })).updSec tok.toNat
        (fun w => { w with encoded := true })) := by
  obtain ⟨hwrite, hhead, henc, hen, hroom, hst⟩ := hdue
  subst hp hq
  have hst' : (w.st == .todo || w.st == .listed) = true := by simpa using hst
  simp only [execStreamSectorReady, hsec, haddr, hwrite, hhead, henc, hen, hst', Nat.not_le.2 hroom, Bool.not_true, ne_eq,
    not_true_eq_false, decide_false, Bool.or_self, Bool.false_eq_true, if_false]
  rfl

/-- STREAM_SECTOR_READY of a sector that is due (R106 to R109). -/
theorem streamSectorReady_completes (hsec : s.sec? tok.toNat = some w) (haddr : s.secAddr tok.toNat w = some addr) (hdue : s.streamDue h w)
    (hheads : s.wrp.heads.length = 24) (hp : p = s.readAny 8 0 64 addr 4096) (hq : q = p.1.readAny 8 0 4 (s.trailerAddr addr) 16) :
    completes (.streamSectorReady h tok) s (fun t =>
      if streamCheckFails p.2 q.2 then t.rd (WRP_STATUS.CRC_ERR h) = 1
      else (t.head h).buf = (s.head h).buf ++ [s.encSector h tok.toNat w p.2.data q.2.data]) := by
  refine ⟨_, execStreamSectorReady_of_due hsec haddr hdue hp hq, ?_⟩
  have hwrp : q.1.wrp = s.wrp := by rw [hq, State.readAny_wrp, hp, State.readAny_wrp]
  have hctrl : q.1.reg (WRP_CTRL h) = s.reg (WRP_CTRL h) := by rw [hq, State.readAny_ctrl, hp, State.readAny_ctrl]
  cases streamCheckFails p.2 q.2 with
  | true => exact State.streamCrcFail_crcErr _ _ _ _
  | false =>
    have hlen : h.val < q.1.wrp.heads.length := by rw [hwrp, hheads]; exact h.isLt
    show _ = (s.head h).buf ++ _
    rw [← State.head_congr hwrp h, ← State.encSector_congr hctrl]
    exact congrArg HeadU.buf (State.updHead_head_self _ hlen)

end

/-! ### Rewrites (R126, R127) -/

/-- What it takes for the lane of head `h` to be there. -/
def State.hasLane (s : State) (h : Nat) : Prop := h / 6 < s.seqs.length ∧ h % 6 < (s.seq (h / 6)).lanes.length

/-- The write descriptor of a sector that is rewritten: its present place, ahead of what the list holds. -/
def State.rewriteDesc (s : State) (tok : Nat) (w : SecWork) : SDesc :=
  { token := tok, lba := w.lba, sector := (s.placeOf w).2.2, write := true, trimK := 0 }

/-- A sector that awaits its rewrite, its actuator on the tier, goes in front of the head's list. -/
theorem execSectorRewrite_of_due {h : Head} {tok : Word} {w : SecWork} {s : State} (hsec : s.sec? tok.toNat = some w)
    (hrewrite : w.rewrite = true) (hst : w.st = .todo) (hhead : w.head = h.val)
    (htier : s.onTier (h.val / 6) w.zone (s.placeOf w).1 (s.placeOf w).2.1 = true) :
    execSectorRewrite h tok s = .next (((s.roomInFront h).updLane h (fun l => { l with list := s.rewriteDesc tok.toNat w :: l.list })).updSec
      tok.toNat (fun w => { w with st := .listed })) := by
  simp only [execSectorRewrite, hsec, hrewrite, hst, hhead, htier, beq_self_eq_true, Bool.and_self, if_true]
  rfl

theorem State.hasLane_updSeq {s : State} {h : Nat} (a : Nat) {f : SeqU → SeqU} (hf : ∀ e, (f e).lanes.length = e.lanes.length)
    (hl : s.hasLane h) : (s.updSeq a f).hasLane h := by
  obtain ⟨hseq, hlane⟩ := hl
  exact ⟨hseq.trans_eq (listModify_length _ _ _).symm,
    hlane.trans_eq (listModify_getD_keeps (fun e : SeqU => e.lanes.length) _ _ _ _ _ hf).symm⟩

/-- Making room in front keeps the lanes there are. -/
theorem State.hasLane_roomInFront {s : State} {h : Nat} (hl : s.hasLane h) : (s.roomInFront h).hasLane h := by
  unfold State.roomInFront
  dsimp only
  split
  · exact hl
  split
  · exact hl
  · -- The descriptor leaves the list, then its events are cancelled: two updates of lanes.
    exact State.hasLane_updSeq _ (fun _ => listModify_length _ _ _) (State.hasLane_updSeq _ (fun _ => listModify_length _ _ _) hl)

theorem State.roomInFront_wrp (s : State) (h : Nat) : (s.roomInFront h).wrp = s.wrp :=
  (State.roomInFront_kept (subMask_refl _) (Kept.refl _ s)).wrp_ rfl

theorem State.roomInFront_of_room {s : State} {h : Nat} (hroom : (s.lane h).list.length < 16) : s.roomInFront h = s := if_pos hroom

/-- SECTOR_REWRITE of a sector that is due (R126, R127). -/
theorem sectorRewrite_completes {h : Head} {tok : Word} {w : SecWork} {s : State} (hsec : s.sec? tok.toNat = some w)
    (hrewrite : w.rewrite = true) (hst : w.st = .todo) (hhead : w.head = h.val)
    (htier : s.onTier (h.val / 6) w.zone (s.placeOf w).1 (s.placeOf w).2.1 = true) (hl : s.hasLane h) :
    completes (.sectorRewrite h tok) s (fun t => (t.lane h).list.head?.map (fun d => (d.token, d.lba, d.write)) = some (tok.toNat, w.lba, true) ∧
      ((s.lane h).list.length < 16 → (t.lane h).list.drop 1 = (s.lane h).list) ∧ t.wrp = s.wrp) := by
  obtain ⟨hseq, hlane⟩ := State.hasLane_roomInFront hl
  have hlist := congrArg Lane.list
    (State.updLane_lane_self (fun l => { l with list := s.rewriteDesc tok.toNat w :: l.list }) hseq hlane)
  refine ⟨_, execSectorRewrite_of_due hsec hrewrite hst hhead htier, ?_, fun hroom => ?_, State.roomInFront_wrp s h⟩
  · exact congrArg (fun l => l.head?.map (fun d : SDesc => (d.token, d.lba, d.write))) hlist
  · exact (congrArg (List.drop 1) hlist).trans (congrArg (fun t => (t.lane h).list) (State.roomInFront_of_room hroom))

/-- Settles O31, clause by clause: a gate opens, stays closed and closes; a sector enters the stream; a sector is put in front for its rewrite. -/
theorem writePathCommands : Obligations.WritePathCommands := by
  refine ⟨fun h adc e l w x s hev hact hfirst hcan hwus hinh henc hmode hctl hen hsec hst hheads =>
      gateEventFire_open_completes adc hev hact hfirst hcan hwus hinh henc hmode hctl hen hsec hst hheads,
    fun h adc e l s hev hact hcan hbad => gateEventFire_unsafe_completes adc hev hact hcan hbad,
    fun h adc e l final s hev hact hwrite hgate => gateEventFire_close_completes adc hev hact hwrite hgate,
    fun h tok w addr s hsec haddr hwrite hhead henc hen hroom hst hheads =>
      streamSectorReady_completes hsec haddr ⟨hwrite, hhead, henc, hen, hroom, hst⟩ hheads rfl rfl,
    fun h tok w s hsec hrewrite hst hhead htier hseqs hlanes => ?_⟩
  exact sectorRewrite_completes hsec hrewrite hst hhead htier ⟨by omega, by omega⟩

end Sys2Proof.Machine
end

