-- ==== Sys2Proof/Proofs/ReadChannelStore.lean ====
section
/-! Slot holds, coefficient writes and the spare channels (O34). -/

namespace Sys2Proof.Machine
open Reg

/-! ### Register fields -/

/-- Writing a field leaves the other bits of its register. -/
theorem State.rd_wr_bits (s : State) (f g : Fld) (x : Nat) (hok : f.ok = true) (h : f.hi < g.lo ∨ g.hi < f.lo) :
    (s.wr f x).rd g = s.rd g :=
  State.rd_wr_apart s f g x hok (by simpa [Fld.apart, or_assoc] using Or.inr h)

/-- Writing a field leaves every field of another register. -/
theorem State.rd_wr_addr (s : State) (f g : Fld) (x : Nat) (h : g.addr ≠ f.addr) : (s.wr f x).rd g = s.rd g :=
  congrArg (fun r => getF r _ _) (State.reg_wr_ne s f x _ h)

/-- A list of writes leaves every register that it does not name. -/
theorem State.reg_wrs_ne (s : State) (l : List (Fld × Nat)) (a : Nat) (h : ∀ e ∈ l, a ≠ e.1.addr) : (s.wrs l).reg a = s.reg a := by
  induction l generalizing s with
  | nil => rfl
  | cons e l ih =>
    exact (ih (s.wr e.1 e.2) fun x hx => h x (List.mem_cons_of_mem _ hx)).trans (State.reg_wr_ne _ _ _ _ (h e List.mem_cons_self))

@[simp] theorem State.wrs_chans (s : State) (l : List (Fld × Nat)) : (s.wrs l).chans = s.chans :=
  State.wrs_keeps State.chans s l (fun f x t => State.wr_chans t f x)

@[simp] theorem State.wrs_sys (s : State) (l : List (Fld × Nat)) : (s.wrs l).sys = s.sys :=
  State.wrs_keeps State.sys s l (fun f x t => State.wr_sys t f x)

@[simp] theorem State.raiseBit_chans (s : State) (f : Fld) (en : Nat) : (s.raiseBit f en).chans = s.chans := by
  unfold State.raiseBit State.irqIf State.when
  split <;> rfl

/-- A status bit raised reads 1. -/
theorem State.rd_raiseBit_self (s : State) (f : Fld) (en : Nat) (h : f.ok = true) : (s.raiseBit f en).rd f = 1 % 2 ^ (f.hi + 1 - f.lo) :=
  (congrArg (fun r => getF r _ _) (State.raiseBit_reg s f en _)).trans (State.rd_wr_self s f 1 h)

/-! ### Channels and slots -/

/-- Changing one element leaves every other. -/
theorem listModify_getD_ne {α : Type} (l : List α) {n m : Nat} (f : α → α) (d : α) (h : n ≠ m) : (listModify l n f).getD m d = l.getD m d := by
  induction l generalizing n m with
  | nil => cases n <;> rfl
  | cons x l ih =>
    cases n <;> cases m
    · exact absurd rfl h
    · rfl
    · rfl
    · simpa [listModify] using ih (fun e => h (congrArg (· + 1) e))

theorem State.updChan_chan_self {s : State} {n : Nat} (f : ChanU → ChanU) (h : n < s.chans.length) : (s.updChan n f).chan n = f (s.chan n) :=
  listModify_getD_self _ _ _ _ h

theorem State.updChan_chan_ne (s : State) {k n : Nat} (f : ChanU → ChanU) (h : k ≠ n) : (s.updChan k f).chan n = s.chan n :=
  listModify_getD_ne _ _ _ h

/-- What an update of a channel keeps of every channel, it keeps of each. -/
theorem State.updChan_chan_keeps {β : Type} (p : ChanU → β) (s : State) (k n : Nat) {f : ChanU → ChanU} (hf : ∀ c, p (f c) = p c) :
    p ((s.updChan k f).chan n) = p (s.chan n) := listModify_getD_keeps p _ _ _ _ _ hf

theorem State.chan_congr {s t : State} (h : t.chans = s.chans) (n : Nat) : t.chan n = s.chan n := by
  simp only [State.chan, h]

@[simp] theorem State.updChan_length (s : State) (n : Nat) (f : ChanU → ChanU) : (s.updChan n f).chans.length = s.chans.length :=
  listModify_length _ _ _

/-- A channel that is not as at reset is one there is. -/
theorem State.lt_of_chan_ne {s : State} {n : Nat} (h : s.chan n ≠ ChanU.init) : n < s.chans.length := by
  by_contra hn
  exact h (List.getD_eq_default _ _ (Nat.not_lt.1 hn))

/-- A slot that is not EMPTY is one of a channel that there is. -/
theorem State.lt_of_slot_state {s : State} {n i : Nat} (h : (s.slotOf n i).state ≠ 0) :
    n < s.chans.length ∧ i < (s.chan n).slots.length := by
  have hi : i < (s.chan n).slots.length := by
    by_contra hi
    exact h (congrArg RSlot.state (List.getD_eq_default _ _ (Nat.not_lt.1 hi)))
  refine ⟨State.lt_of_chan_ne fun hc => ?_, hi⟩
  rw [hc] at hi
  cases hi

/-! ### Holds (R73) -/

/-- Slot `i` of channel `n` is held. -/
def State.markHeld (s : State) (n i : Nat) : State :=
  s.updChan n (fun c => { c with slots := listModify c.slots i (fun x => { x with held := true }) })

/-- The slot holds the sequence number, is COMPLETE and free, and the channel may hold one more (R73). -/
def State.mayHold (s : State) (n i q : Nat) : Prop :=
  (s.slotOf n i).seq = q ∧ (s.slotOf n i).state = 2 ∧ (s.slotOf n i).held = false ∧
  ((s.chan n).slots.filter (fun x => x.held)).length + 1 < s.rd RCH_RET_CFG.DEPTH

theorem State.holdSlot_of_mayHold {s : State} {n i q : Nat} (h : s.mayHold n i q) : s.holdSlot n i q = s.markHeld n i := by
  obtain ⟨hseq, hstate, hheld, hroom⟩ := h
  simp only [State.holdSlot, hseq, hstate, hheld, hroom, ne_eq, not_true_eq_false, Bool.false_eq_true, or_self, if_false, if_true]
  rfl

theorem State.markHeld_slotOf {s : State} {n i : Nat} (h : (s.slotOf n i).state ≠ 0) :
    (s.markHeld n i).slotOf n i = { s.slotOf n i with held := true } := by
  obtain ⟨hn, hi⟩ := State.lt_of_slot_state h
  rw [State.slotOf, State.markHeld, State.updChan_chan_self _ hn]
  exact listModify_getD_self _ _ _ _ hi

/-- SLOT_HOLD_REQUEST of a slot that may be held. -/
theorem slotHoldRequest_completes {n : Chan} {slot : Fin 8} {seq : Word} {s : State} (h : s.mayHold n slot seq.toNat) :
    completes (.slotHoldRequest n slot seq) s
      (fun t => (t.slotOf n slot).held = true ∧ (t.slotOf n slot).seq = seq.toNat ∧ t.regs = s.regs) := by
  obtain ⟨hseq, hstate, -, -⟩ := id h
  have hslot := State.markHeld_slotOf (s := s) (n := n) (i := slot) (by rw [hstate]; decide)
  have hexec : execSlotHoldRequest n slot seq s = .next (s.markHeld n slot) := congrArg Host.Outcome.next (State.holdSlot_of_mayHold h)
  exact ⟨_, hexec, congrArg RSlot.held hslot, (congrArg RSlot.seq hslot).trans hseq, rfl⟩

/-- SLOT_HOLD_GRANT of the oldest request, on a slot that may be held. -/
theorem slotHoldGrant_completes {n : Chan} {i q : Nat} {l : List (Nat × Nat)} {s : State} (hwaits : (s.chan n).holdWaits = (i, q) :: l)
    (h : s.mayHold n i q) :
    completes (.slotHoldGrant n) s (fun t => (t.slotOf n i).held = true ∧ (t.chan n).holdWaits = l ∧ t.regs = s.regs) := by
  obtain ⟨hseq, hstate, hheld, hroom⟩ := h
  obtain ⟨hn, -⟩ := State.lt_of_slot_state (s := s) (n := n) (i := i) (by rw [hstate]; decide)
  let t := s.updChan n (fun c => { c with holdWaits := l })
  have hchan : t.chan n = { s.chan n with holdWaits := l } := State.updChan_chan_self _ hn
  have hslot : t.slotOf n i = s.slotOf n i := by simp only [State.slotOf, hchan]
  have ht : t.mayHold n i q := by
    refine ⟨by rw [hslot, hseq], by rw [hslot, hstate], by rw [hslot, hheld], ?_⟩
    rw [hchan]
    exact hroom
  have hexec : execSlotHoldGrant n s = .next (t.markHeld n i) := by
    simp only [execSlotHoldGrant, hwaits]
    rw [if_neg (Nat.not_le.2 hroom)]
    exact congrArg _ (State.holdSlot_of_mayHold ht)
  refine ⟨_, hexec, congrArg RSlot.held (State.markHeld_slotOf (by rw [hslot, hstate]; decide)), ?_, rfl⟩
  have hwaits' : ((t.markHeld n i).chan n).holdWaits = (t.chan n).holdWaits :=
    State.updChan_chan_keeps ChanU.holdWaits t n n (fun _ => rfl)
  exact hwaits'.trans (congrArg ChanU.holdWaits hchan)

/-! ### Coefficient memory (R76, R80, R82) -/

/-- WORD after a write of COEF_DATA: it advances with AUTO set (R82). -/
def State.coefAdvance (s : State) (n : Nat) : State :=
  s.when (s.on (RCH_COEF_ADDR.AUTO n)) (fun t => t.wr (RCH_COEF_ADDR.WORD n) (s.rd (RCH_COEF_ADDR.WORD n) + 1))

theorem State.coefAdvance_word (s : State) (n : Nat) : (s.coefAdvance n).rd (RCH_COEF_ADDR.WORD n) =
    if s.on (RCH_COEF_ADDR.AUTO n) then (s.rd (RCH_COEF_ADDR.WORD n) + 1) % 2048 else s.rd (RCH_COEF_ADDR.WORD n) := by
  unfold State.coefAdvance
  cases s.on (RCH_COEF_ADDR.AUTO n)
  · rfl
  · exact State.rd_wr_self _ _ _ rfl

@[simp] theorem State.coefAdvance_chans (s : State) (n : Nat) : (s.coefAdvance n).chans = s.chans := by
  unfold State.coefAdvance State.when
  split <;> rfl

theorem State.coefAdvance_rd (s : State) (n : Nat) {f : Fld} (h : f.addr ≠ RCH_COEF_ADDR n) : (s.coefAdvance n).rd f = s.rd f := by
  unfold State.coefAdvance State.when
  split
  · exact State.rd_wr_addr _ _ _ _ h
  · rfl

/-- COEF_DATA_WRITE of a word that exists, with room in the queue. -/
theorem coefDataWrite_completes {w : Initiator} {n : Chan} (v : Word) {s : State} (hw : s.mayWrite w = true) (hn : s.chanPresent n = true)
    (hroom : (s.chan n).coefQ.length < 64) (hword : (coefWidth (s.rd (RCH_COEF_ADDR.WORD n))).isSome = true) (hlen : n < s.chans.length) :
    completes (.coefDataWrite w n v) s (fun t =>
      (t.chan n).coefQ = (s.chan n).coefQ ++ [(s.rd (RCH_COEF_ADDR.BANK n) * 2048 + s.rd (RCH_COEF_ADDR.WORD n), v.toNat)] ∧
      t.rd (RCH_COEF_ADDR.WORD n) =
        (if s.on (RCH_COEF_ADDR.AUTO n) then (s.rd (RCH_COEF_ADDR.WORD n) + 1) % 2048 else s.rd (RCH_COEF_ADDR.WORD n))) := by
  let queued := s.updChan n (fun c =>
    { c with coefQ := c.coefQ ++ [(s.rd (RCH_COEF_ADDR.BANK n) * 2048 + s.rd (RCH_COEF_ADDR.WORD n), v.toNat)] })
  have hexec : execCoefDataWrite w n v s = .next (queued.coefAdvance n) := by
    simp only [execCoefDataWrite, hw, hn, Nat.not_le.2 hroom, Option.isNone_eq_false_iff.2 hword, Bool.not_true, Bool.false_eq_true, if_false]
    rfl
  refine ⟨_, hexec, ?_, State.coefAdvance_word queued n⟩
  rw [State.chan_congr (State.coefAdvance_chans queued n), State.updChan_chan_self _ hlen]

/-- COEF_DATA_WRITE by the host with the queue full. -/
theorem coefDataWrite_full_completes {n : Chan} (v : Word) {s : State} (hw : s.mayWrite .host = true) (hn : s.chanPresent n = true)
    (hfull : 64 ≤ (s.chan n).coefQ.length) :
    completes (.coefDataWrite .host n v) s (fun t => t.chans = s.chans ∧ t.rd (RCH_STATUS.COEF_DROP n) = 1) := by
  let dropped := s.rchBit n RCH_STATUS.COEF_DROP
  have hword : dropped.rd (RCH_COEF_ADDR.WORD n) = s.rd (RCH_COEF_ADDR.WORD n) :=
    (congrArg (fun r => getF r _ _) (State.raiseBit_reg _ _ _ _)).trans
      (State.rd_wr_addr _ _ _ _ (by show RCH_COEF_ADDR n ≠ RCH_STATUS n; unfold RCH_COEF_ADDR RCH_STATUS; omega))
  have hexec : execCoefDataWrite .host n v s = .next (dropped.coefAdvance n) := by
    simp only [execCoefDataWrite, hw, hn, hfull, Bool.not_true, Bool.false_eq_true, if_false, if_true]
    rw [State.coefAdvance, hword]
  refine ⟨_, hexec, by rw [State.coefAdvance_chans]; exact State.raiseBit_chans _ _ _, ?_⟩
  rw [State.coefAdvance_rd _ _ (by show RCH_STATUS n ≠ RCH_COEF_ADDR n; unfold RCH_COEF_ADDR RCH_STATUS; omega)]
  exact State.rd_raiseBit_self _ _ _ rfl

theorem State.coefStore_length (s : State) (n k v : Nat) : (s.coefStore n k v).chans.length = s.chans.length := by
  unfold State.coefStore
  split
  · rfl
  · dsimp only
    split
    · rw [State.updChan_length, State.updChan_length]
    · rw [State.updChan_length]

/-- A coefficient word stored holds its value in its width; the mirror of R76 is in another channel's memory. -/
theorem State.coefStore_coef {s : State} {n k v b : Nat} (hn : n < s.chans.length) (hb : coefWidth (k % 2048) = some b) :
    sparseGet 0 ((s.coefStore n k v).chan n).coef k = v % 2 ^ b := by
  let t := s.updChan n (fun c => { c with coef := sparseSet 0 c.coef k (v % 2 ^ b) })
  have ht : sparseGet 0 (t.chan n).coef k = v % 2 ^ b := by
    rw [State.updChan_chan_self _ hn]
    exact sparseGet_set_self _ _ _ _
  simp only [State.coefStore, hb]
  split
  · rw [State.updChan_chan_ne _ _ (by omega)]
    exact ht
  · exact ht

/-- COEF_QUEUE_APPLY with the gate closed. -/
theorem coefQueueApply_completes {n : Chan} {l : List (Nat × Nat)} {k v b : Nat} {s : State} (hgate : (s.chan n).gate = false)
    (hq : (s.chan n).coefQ = l ++ [(k, v)]) (hb : coefWidth (k % 2048) = some b) :
    completes (.coefQueueApply n) s
      (fun t => (t.chan n).coefQ = [] ∧ sparseGet 0 (t.chan n).coef k = v % 2 ^ b ∧ t.regs = s.regs) := by
  let before := s.forEach l (fun e t => t.coefStore n e.1 e.2)
  have hlen : before.chans.length = s.chans.length :=
    State.forEach_keeps (fun t => t.chans.length) s l _ (fun e t => State.coefStore_length t n e.1 e.2)
  have hn : n.val < before.chans.length := hlen ▸ State.lt_of_chan_ne (fun hc => by rw [hc] at hq; simp [ChanU.init] at hq)
  have hexec : execCoefQueueApply n s = .next ((before.coefStore n k v).updChan n (fun c => { c with coefQ := [] })) := by
    simp only [execCoefQueueApply, hgate, hq, State.forEach, List.foldl_append, Bool.false_eq_true, if_false]
    rfl
  have hchan := State.updChan_chan_self (fun c => { c with coefQ := [] }) (hn.trans_eq (State.coefStore_length before n k v).symm)
  refine ⟨_, hexec, congrArg ChanU.coefQ hchan, ?_, ?_⟩
  · rw [hchan]
    exact State.coefStore_coef hn hb
  · exact ((execCoefQueueApply_kept (subMask_refl _) (Kept.refl _ s)).keep _ hexec).regs_ rfl

/-! ### Spares (R77) -/

theorem State.setRole_reg_ne (s : State) {n a : Nat} (pos role : Nat) (h : a ≠ RCH_MAP n) : (s.setRole n pos role).reg a = s.reg a :=
  State.reg_wrs_ne _ _ _ (by simpa using ⟨h, h⟩)

theorem State.setRole_map (s : State) (n pos role : Nat) :
    (s.setRole n pos role).rd (RCH_MAP.POS n) = pos % 8 ∧ (s.setRole n pos role).rd (RCH_MAP.ROLE n) = role % 4 :=
  ⟨(State.rd_wr_bits _ _ _ _ rfl (.inr (Nat.lt_succ_self 2))).trans (State.rd_wr_self _ _ _ rfl), State.rd_wr_self _ _ _ rfl⟩

theorem State.setSpareMap_reg_ne (s : State) (a pos : Nat) (sub : Bool) {b : Nat} (h : b ≠ RCH_SPARE_MAP) :
    (s.setSpareMap a pos sub).reg b = s.reg b :=
  State.reg_wr_ne _ _ _ _ h

theorem RCH_MAP_ne_SPARE_MAP (n : Nat) : RCH_MAP n ≠ RCH_SPARE_MAP := by
  unfold RCH_MAP RCH_SPARE_MAP
  omega

theorem State.spareSub_congr {s t : State} (h : t.reg RCH_SPARE_MAP = s.reg RCH_SPARE_MAP) (a : Nat) : t.spareSub a = s.spareSub a := by
  simp only [State.spareSub, h]

/-- The group of an actuator in SPARE_MAP shows the position and whether it is substituted. -/
theorem State.spareSub_setSpareMap (s : State) {a pos : Nat} (sub : Bool) (ha : a < 4) (hpos : pos < 8) :
    (s.setSpareMap a pos sub).spareSub a = if sub then some pos else none := by
  have hgroup := State.rd_wr_self s ⟨RCH_SPARE_MAP, 4 * a + 3, 4 * a⟩ (pos + 8 * b2n sub)
    (by simp only [Fld.ok, Bool.and_eq_true, decide_eq_true_eq]; omega)
  simp only [State.rd, getF, bitsOf, show 4 * a + 3 + 1 - 4 * a = 4 by omega] at hgroup
  simp only [State.spareSub, State.setSpareMap, bitOf, bitsOf, pow_add, ← Nat.div_div_eq_div_mul, show 4 * a + 2 + 1 - 4 * a = 3 by omega]
  generalize ((s.wr _ _).reg RCH_SPARE_MAP).toNat / 2 ^ (4 * a) = group at hgroup ⊢
  cases sub with
  | false =>
    replace hgroup : group % 2 ^ 4 = (pos + 8 * 0) % 2 ^ 4 := hgroup
    rw [if_neg (by rw [beq_iff_eq]; omega), if_neg (by decide)]
  | true =>
    replace hgroup : group % 2 ^ 4 = (pos + 8 * 1) % 2 ^ 4 := hgroup
    rw [if_pos (by rw [beq_iff_eq]; omega), if_pos rfl, show group % 2 ^ 3 = pos by omega]

/-- Channel `n` is a shadow when its role is 2 and its position a head's. -/
theorem State.isShadow_of_map {s : State} {n pos role : Nat} (hn : 24 ≤ n) (hpos : s.rd (RCH_MAP.POS n) = pos) (hrole : s.rd (RCH_MAP.ROLE n) = role) :
    s.isShadow n = (role == 2 && pos != 7) := by
  simp [State.isShadow, hn, hpos, hrole]

theorem State.headPresent_congr {s t : State} (h : t.sys = s.sys) (n : Nat) : t.headPresent n = s.headPresent n := by
  simp only [State.headPresent, State.actPresent, h]

theorem State.chanPresent_congr {s t : State} (h : t.sys = s.sys) (n : Nat) : t.chanPresent n = s.chanPresent n := by
  simp only [State.chanPresent, State.headPresent_congr h, State.actPresent, h]

/-- A spare command shows its operands in SPARE_CMD, and no other register changes. -/
theorem State.spareCmd_reg_ne (s : State) (a pos op : Nat) {b : Nat} (h : b ≠ RCH_SPARE_CMD) : (s.spareCmd a pos op).reg b = s.reg b :=
  State.reg_wrs_ne _ _ _ (by simpa using ⟨h, h, h, h⟩)

theorem RCH_MAP_ne_SPARE_CMD (n : Nat) : RCH_MAP n ≠ RCH_SPARE_CMD := by
  unfold RCH_MAP RCH_SPARE_CMD
  omega

theorem State.spareCmd_map (s : State) (a pos op n : Nat) : (s.spareCmd a pos op).reg (RCH_MAP n) = s.reg (RCH_MAP n) :=
  State.spareCmd_reg_ne s a pos op (RCH_MAP_ne_SPARE_CMD n)

theorem State.spareCmd_spareSub (s : State) (a pos op n : Nat) : (s.spareCmd a pos op).spareSub n = s.spareSub n :=
  State.spareSub_congr (State.spareCmd_reg_ne s a pos op (by decide)) n

theorem State.spareCmd_isShadow (s : State) (a pos op n : Nat) : (s.spareCmd a pos op).isShadow n = s.isShadow n := by
  simp only [State.isShadow, State.rd, show (RCH_MAP.ROLE n).addr = RCH_MAP n from rfl, show (RCH_MAP.POS n).addr = RCH_MAP n from rfl,
    State.spareCmd_map]

/-- Whether the spare may take a head does not hang on the command. -/
theorem State.spareCmd_free (s : State) (a pos op h n : Nat) :
    (!(s.spareCmd a pos op).headPresent h || !(s.spareCmd a pos op).spareFree n) = (!s.headPresent h || !s.spareFree n) := by
  have hsys : (s.spareCmd a pos op).sys = s.sys := State.wrs_sys _ _
  simp only [State.spareFree, State.headPresent_congr hsys, State.chanPresent_congr hsys, State.spareCmd_spareSub, State.on, State.rd,
    show (RCH_MAP.FENCED (24 + n)).addr = RCH_MAP (24 + n) from rfl, State.spareCmd_map]

/-- What the registers show of the substitution of head `h` (log entry 143). -/
theorem State.substitute_shown (s : State) {h : Nat} (hh : h < 24) :
    (s.substitute h).spareSub (h / 6) = some (h % 6) ∧
    ((s.substitute h).rd (RCH_MAP.POS (24 + h / 6)) = h % 6 ∧ (s.substitute h).rd (RCH_MAP.ROLE (24 + h / 6)) = 3) ∧
    ((s.substitute h).rd (RCH_MAP.POS h) = 7 ∧ (s.substitute h).rd (RCH_MAP.ROLE h) = 0) ∧
    (s.substitute h).rd RCH_GSTATUS.SPARE_DONE = 1 := by
  obtain ⟨t, ht⟩ : ∃ t : State, s.substitute h = (((t.setRole h 7 0).setRole (24 + h / 6) (h % 6) 3).setSpareMap (h / 6) (h % 6) true).setB
    RCH_GSTATUS.SPARE_DONE := ⟨_, rfl⟩
  have hsp : RCH_MAP h ≠ RCH_MAP (24 + h / 6) := by unfold RCH_MAP; omega
  have hmap (n : Nat) : (s.substitute h).reg (RCH_MAP n) = ((t.setRole h 7 0).setRole (24 + h / 6) (h % 6) 3).reg (RCH_MAP n) := by
    rw [ht]
    exact (State.reg_wr_ne _ _ _ _ (by unfold RCH_MAP; show _ ≠ 0x8F038; omega)).trans
      (State.setSpareMap_reg_ne _ _ _ _ (RCH_MAP_ne_SPARE_MAP n))
  obtain ⟨hpos, hrole⟩ := State.setRole_map (t.setRole h 7 0) (24 + h / 6) (h % 6) 3
  obtain ⟨hpos', hrole'⟩ := State.setRole_map t h 7 0
  have hreg : (s.substitute h).reg (RCH_MAP h) = (t.setRole h 7 0).reg (RCH_MAP h) :=
    (hmap h).trans (State.setRole_reg_ne _ _ _ hsp)
  refine ⟨?_, ⟨?_, ?_⟩, ⟨?_, ?_⟩, ?_⟩
  · rw [ht]
    exact (State.spareSub_congr (State.reg_wr_ne _ RCH_GSTATUS.SPARE_DONE 1 _ (by decide)) _).trans
      (State.spareSub_setSpareMap _ true (by omega) (by omega))
  · exact ((congrArg (fun r => getF r _ _) (hmap _)).trans hpos).trans (by omega)
  · exact (congrArg (fun r => getF r _ _) (hmap _)).trans hrole
  · exact (congrArg (fun r => getF r _ _) hreg).trans hpos'
  · exact (congrArg (fun r => getF r _ _) hreg).trans hrole'
  · rw [ht]
    exact State.rd_wr_self _ _ _ rfl

section
variable {w : Initiator} {a : Act} {pos : BitVec 3} {s : State}

/-- SPARE_SUBST of a free spare for a present head. -/
theorem spareSubst_completes (hw : s.mayWrite w = true) (hpos : pos.toNat < 6) (hhead : s.headPresent (a * 6 + pos.toNat) = true)
    (hfree : s.spareFree a = true) :
    completes (.spareSubst w a pos) s (fun t => t.spareSub a = some pos.toNat ∧ t.rd (RCH_MAP.POS (24 + a)) = pos.toNat ∧
      t.rd (RCH_MAP.ROLE (24 + a)) = 3 ∧ t.rd (RCH_MAP.POS (a * 6 + pos.toNat)) = 7 ∧ t.rd (RCH_MAP.ROLE (a * 6 + pos.toNat)) = 0 ∧
      t.rd RCH_GSTATUS.SPARE_DONE = 1) := by
  have ha := a.isLt
  have hexec : execSpareSubst w a pos s = .next ((s.spareCmd a pos.toNat 0).substitute (a * 6 + pos.toNat)) := by
    simp only [execSpareSubst, hw, Nat.not_le.2 hpos, State.spareCmd_free, hhead, hfree, Bool.not_true, Bool.or_self, Bool.false_eq_true,
      if_false]
  obtain ⟨hsub, ⟨hmap, hrole⟩, ⟨hmap', hrole'⟩, hdone⟩ :=
    State.substitute_shown (s.spareCmd a pos.toNat 0) (h := a * 6 + pos.toNat) (by omega)
  rw [show (a * 6 + pos.toNat) / 6 = a by omega, show (a * 6 + pos.toNat) % 6 = pos.toNat by omega] at hsub hmap
  rw [show (a * 6 + pos.toNat) / 6 = a by omega] at hrole
  exact ⟨_, hexec, hsub, hmap, hrole, hmap', hrole', hdone⟩

/-- SPARE_RELEASE of the substituted head, whose channel is not fenced. -/
theorem spareRelease_completes (hw : s.mayWrite w = true) (hpos : pos.toNat < 6) (hsub : s.spareSub a = some pos.toNat)
    (hfenced : s.on (RCH_MAP.FENCED (a * 6 + pos.toNat)) = false) (hlen : s.chans.length = 28) :
    completes (.spareRelease w a pos) s (fun t => (t.chan (24 + a)).releasing = true ∧ t.spareSub a = some pos.toNat) := by
  have hfenced' : (s.spareCmd a pos.toNat 1).on (RCH_MAP.FENCED (a * 6 + pos.toNat)) = false :=
    (congrArg (fun r => getF r _ _ != 0) (State.spareCmd_map s _ _ _ _)).trans hfenced
  have hexec : execSpareRelease w a pos s =
      .next ((s.spareCmd a pos.toNat 1).updChan (24 + a) (fun c => { c with releasing := true })) := by
    simp only [execSpareRelease, hw, Nat.not_le.2 hpos, State.spareCmd_spareSub, hsub, hfenced', Bool.not_true, Bool.false_eq_true, ne_eq,
      not_true_eq_false, or_self, if_false]
  have hn : 24 + a.val < (s.spareCmd a pos.toNat 1).chans.length := by
    rw [State.spareCmd, State.wrs_chans, hlen]
    omega
  exact ⟨_, hexec, congrArg ChanU.releasing (State.updChan_chan_self _ hn), (State.spareCmd_spareSub s _ _ _ _).trans hsub⟩

/-- SPARE_SHADOW of a free spare for a present head. -/
theorem spareShadow_completes (hw : s.mayWrite w = true) (hpos : pos.toNat < 6) (hhead : s.headPresent (a * 6 + pos.toNat) = true)
    (hfree : s.spareFree a = true) :
    completes (.spareShadow w a pos) s
      (fun t => t.isShadow (24 + a) = true ∧ t.rd (RCH_MAP.POS (24 + a)) = pos.toNat ∧ t.spareSub a = none) := by
  let t := (s.spareCmd a pos.toNat 2).updChan (24 + a) (fun c => { c with fsm := .idle, gate := false, sector := none })
  have hexec : execSpareShadow w a pos s = .next ((t.setRole (24 + a) pos.toNat 2).setSpareMap a pos.toNat false) := by
    simp only [execSpareShadow, hw, Nat.not_le.2 hpos, State.spareCmd_free, hhead, hfree, Bool.not_true, Bool.or_self, Bool.false_eq_true,
      if_false]
    rfl
  obtain ⟨hmap, hrole⟩ := State.setRole_map t (24 + a) pos.toNat 2
  have hreg := State.setSpareMap_reg_ne (t.setRole (24 + a) pos.toNat 2) a pos.toNat false (RCH_MAP_ne_SPARE_MAP (24 + a))
  have hmap' := ((congrArg (fun r => getF r _ _) hreg).trans hmap).trans (Nat.mod_eq_of_lt (by omega))
  refine ⟨_, hexec, ?_, hmap', State.spareSub_setSpareMap _ false a.isLt (by omega)⟩
  rw [State.isShadow_of_map (by omega) hmap' ((congrArg (fun r => getF r _ _) hreg).trans hrole)]
  simp only [beq_self_eq_true, Bool.true_and, bne_iff_ne]
  omega

/-- SPARE_DETACH of a spare that shadows that position. -/
theorem spareDetach_completes (hw : s.mayWrite w = true) (hpos : pos.toNat < 6) (hshadow : s.isShadow (24 + a) = true)
    (hmap : s.rd (RCH_MAP.POS (24 + a)) = pos.toNat) :
    completes (.spareDetach w a pos) s
      (fun t => t.rd (RCH_MAP.POS (24 + a)) = 7 ∧ t.rd (RCH_MAP.ROLE (24 + a)) = 2 ∧ t.isShadow (24 + a) = false) := by
  let t := (s.spareCmd a pos.toNat 3).updChan (24 + a) (fun c => { c with fsm := .idle, gate := false, sector := none })
  have hmap' : (s.spareCmd a pos.toNat 3).rd (RCH_MAP.POS (24 + a)) = pos.toNat :=
    (congrArg (fun r => getF r _ _) (State.spareCmd_map s _ _ _ _)).trans hmap
  have hexec : execSpareDetach w a pos s = .next (t.spareIdle a) := by
    simp only [execSpareDetach, hw, Nat.not_le.2 hpos, State.spareCmd_isShadow, hshadow, hmap', Bool.not_true, beq_self_eq_true, Bool.and_self,
      Bool.false_eq_true, if_false, if_true]
    rfl
  obtain ⟨hpos7, hrole2⟩ := State.setRole_map (t.setSpareMap a 7 false) (24 + a) 7 2
  exact ⟨_, hexec, hpos7, hrole2, State.isShadow_of_map (by omega) hpos7 hrole2⟩

end

/-- Settles O34, clause by clause: the two holds, the coefficient queue, and the four spare commands. -/
theorem readChannelStore : Obligations.ReadChannelStore := by
  refine ⟨fun n slot seq s hseq hstate hheld hroom => slotHoldRequest_completes ⟨hseq, hstate, hheld, hroom⟩,
    fun n i q l s hwaits hseq hstate hheld hroom => slotHoldGrant_completes hwaits ⟨hseq, hstate, hheld, hroom⟩,
    fun w n v s hw hn hroom hword hlen => coefDataWrite_completes v hw hn hroom hword (by omega),
    fun n v s hw hn hfull => coefDataWrite_full_completes v hw hn hfull,
    fun n l k v b s hgate hq hb => coefQueueApply_completes hgate hq hb,
    fun w a pos s hw hpos hhead hfree => spareSubst_completes hw hpos hhead hfree,
    fun w a pos s hw hpos hsub hfenced hlen => spareRelease_completes hw hpos hsub hfenced hlen,
    fun w a pos s hw hpos hhead hfree => spareShadow_completes hw hpos hhead hfree,
    fun w a pos s hw hpos hshadow hmap => spareDetach_completes hw hpos hshadow hmap⟩

end Sys2Proof.Machine
end

