-- ==== Sys2Proof/Proofs/DecoderCommands.lean ====
section
/-! Quick and deep decodes, re-alignment trials and the trace (O35). -/

namespace Sys2Proof.Machine
open Reg

/-! ### Lists and fields -/

/-- What holds of the default and of every value that a change can give holds of the element changed, be it in the list or not. -/
theorem listModify_getD_of {α : Type} {P : α → Prop} {f : α → α} {d : α} (hd : P d) (hf : ∀ x, P (f x)) (l : List α) (n : Nat) :
    P ((listModify l n f).getD n d) := by
  induction l generalizing n with
  | nil => exact hd
  | cons x l ih =>
    cases n with
    | zero => exact hf x
    | succ n => simpa [listModify] using ih n

theorem listSet_getD_default {α : Type} (l : List α) (n : Nat) (d : α) : (listSet l n d).getD n d = d := by
  induction l generalizing n with
  | nil => rfl
  | cons x l ih =>
    cases n with
    | zero => rfl
    | succ n => simpa [listSet] using ih n

/-- A choice that moves on only to what has a lesser key has the least key of all. -/
theorem foldl_least (key : Nat → Nat) (es : List Nat) (e : Nat) :
    es.foldl (fun a x => if key x < key a then x else a) e ∈ e :: es ∧
    ∀ k ∈ e :: es, key (es.foldl (fun a x => if key x < key a then x else a) e) ≤ key k := by
  induction es generalizing e with
  | nil => simp
  | cons x es ih =>
    obtain ⟨hmem, hle⟩ := ih (if key x < key e then x else e)
    simp only [List.foldl_cons]
    refine ⟨?_, ?_⟩
    · rcases List.mem_cons.1 hmem with heq | hmem
      · rw [heq]
        split <;> simp
      · exact List.mem_cons_of_mem _ (List.mem_cons_of_mem _ hmem)
    · intro k hk
      have hnext := hle _ List.mem_cons_self
      rcases List.mem_cons.1 hk with rfl | hk
      · exact hnext.trans (by split <;> omega)
      · rcases List.mem_cons.1 hk with rfl | hk
        · exact hnext.trans (by split <;> omega)
        · exact hle k (List.mem_cons_of_mem _ hk)

@[simp] theorem State.wrs_dec (s : State) (l : List (Fld × Nat)) : (s.wrs l).dec = s.dec :=
  State.wrs_keeps State.dec s l (fun f x t => State.wr_dec t f x)

@[simp] theorem State.raiseBit_dec (s : State) (f : Fld) (en : Nat) : (s.raiseBit f en).dec = s.dec := by
  unfold State.raiseBit State.irqIf State.when
  split <;> rfl

/-- A counter incremented is one more, up to its greatest value. -/
theorem State.rd_inc_self (s : State) (f : Fld) (h : f.ok = true) : (s.inc f).rd f = satU (f.hi + 1 - f.lo) (s.rd f + 1) :=
  (State.rd_wr_self s f _ h).trans (Nat.mod_eq_of_lt (lt_of_le_of_lt (min_le_right _ _) (Nat.sub_one_lt (Nat.two_pow_pos _).ne')))

/-! ### Engines -/

theorem State.updEng_eng_self {s : State} {n : Nat} (f : EngU → EngU) (h : n < s.dec.engines.length) : (s.updEng n f).eng n = f (s.eng n) :=
  listModify_getD_self _ _ _ _ h

theorem State.updEng_eng_ne (s : State) {k n : Nat} (f : EngU → EngU) (h : k ≠ n) : (s.updEng k f).eng n = s.eng n :=
  listModify_getD_ne _ _ _ h

theorem State.updEng_eng_keeps {β : Type} (p : EngU → β) (s : State) (k n : Nat) {f : EngU → EngU} (hf : ∀ g, p (f g) = p g) :
    p ((s.updEng k f).eng n) = p (s.eng n) := listModify_getD_keeps p _ _ _ _ _ hf

theorem State.eng_congr {s t : State} (h : t.dec = s.dec) (n : Nat) : t.eng n = s.eng n := by
  simp only [State.eng, h]

/-- An engine that has a job is one there is. -/
theorem State.lt_of_job {s : State} {n : Nat} {j : DSect × EPhase} (h : (s.eng n).job = some j) : n < s.dec.engines.length := by
  by_contra hn
  rw [State.eng, List.getD_eq_default _ _ (Nat.not_lt.1 hn)] at h
  cases h

theorem DEC_ESTATUS_inj {e k : Nat} (h : DEC_ESTATUS e = DEC_ESTATUS k) : e = k := by
  unfold DEC_ESTATUS at h
  omega

/-! ### What work of the deep engines leaves of the quick ones -/

/-- The queue of sectors that wait, the LLR buffers, and each quick engine with its status. -/
def State.quickView (s : State) : List DSect × List (Option LlrBuf) × (Fin 32 → EngU) × (Fin 32 → Word) :=
  (s.dec.waiting, s.dec.bufs, fun e => s.eng e, fun e => s.reg (DEC_ESTATUS e))

theorem State.waiting_of_quickView {s t : State} (h : t.quickView = s.quickView) : t.dec.waiting = s.dec.waiting := congrArg Prod.fst h

theorem State.bufs_of_quickView {s t : State} (h : t.quickView = s.quickView) : t.dec.bufs = s.dec.bufs := congrArg (fun v => v.2.1) h

theorem State.eng_of_quickView {s t : State} (h : t.quickView = s.quickView) (e : Fin 32) : t.eng e = s.eng e :=
  congrFun (congrArg (fun v => v.2.2.1) h) e

theorem State.estatus_of_quickView {s t : State} (h : t.quickView = s.quickView) (e : Fin 32) : t.reg (DEC_ESTATUS e) = s.reg (DEC_ESTATUS e) :=
  congrFun (congrArg (fun v => v.2.2.2) h) e

/-- The view hangs on the decoder pool's queue, buffers and quick engines, and on their status registers. -/
theorem State.quickView_congr {s t : State} (hwaiting : t.dec.waiting = s.dec.waiting) (hbufs : t.dec.bufs = s.dec.bufs)
    (heng : ∀ e, e < 32 → t.eng e = s.eng e) (hreg : ∀ e, e < 32 → t.reg (DEC_ESTATUS e) = s.reg (DEC_ESTATUS e)) : t.quickView = s.quickView := by
  simp only [State.quickView, hwaiting, hbufs, heng _ (Fin.isLt _), hreg _ (Fin.isLt _)]

theorem State.updEng_quickView (s : State) {n : Nat} (f : EngU → EngU) (h : 32 ≤ n) : (s.updEng n f).quickView = s.quickView :=
  State.quickView_congr rfl rfl (fun _ he => State.updEng_eng_ne s f (by omega)) (fun _ _ => rfl)

theorem State.wrs_quickView (s : State) (l : List (Fld × Nat)) (h : ∀ x ∈ l, ∀ e, e < 32 → DEC_ESTATUS e ≠ x.1.addr) :
    (s.wrs l).quickView = s.quickView :=
  State.quickView_congr (congrArg DecU.waiting (State.wrs_dec s l)) (congrArg DecU.bufs (State.wrs_dec s l))
    (fun e _ => State.eng_congr (State.wrs_dec s l) e) (fun e he => State.reg_wrs_ne s l _ (fun x hx => h x hx e he))

theorem DEC_ESTATUS_lt {e : Nat} (he : e < 32) : DEC_ESTATUS e < 0x9F000 := by
  unfold DEC_ESTATUS
  omega

/-- A write of a register of the whole pool leaves the quick engines. -/
theorem State.wr_quickView (s : State) (f : Fld) (x : Nat) (h : 0x9F000 ≤ f.addr) : (s.wr f x).quickView = s.quickView :=
  State.quickView_congr rfl rfl (fun _ _ => rfl) (fun _ he => State.reg_wr_ne s f x _ ((DEC_ESTATUS_lt he).trans_le h).ne)

theorem State.decBit_quickView (s : State) (f : Fld) (h : 0x9F000 ≤ f.addr) : (s.decBit f).quickView = s.quickView := by
  have hraise : (s.decBit f).quickView = (s.wr f 1).quickView := by
    have hdec := State.raiseBit_dec s f DEC_INT_EN
    exact State.quickView_congr (congrArg DecU.waiting hdec) (congrArg DecU.bufs hdec) (fun e _ => State.eng_congr hdec e)
      (fun e _ => State.raiseBit_reg s f _ _)
  exact hraise.trans (State.wr_quickView s f 1 h)

theorem State.showDeep_quickView (s : State) : s.showDeep.quickView = s.quickView := by
  refine State.wrs_quickView s _ fun x hx e he => ?_
  have hx : x.1.addr = 0x9F014 := by
    simp only [List.mem_cons, List.not_mem_nil, or_false] at hx
    rcases hx with rfl | rfl | rfl <;> rfl
  rw [hx]
  exact ((DEC_ESTATUS_lt he).trans_le (by decide)).ne

theorem State.startJob_quickView (s : State) {e : Nat} (d : DSect) (ph : EPhase) (limit : Nat) (h : 32 ≤ e) :
    (s.startJob e d ph limit).quickView = s.quickView := by
  refine (State.wrs_quickView _ _ fun x hx k hk hadr => ?_).trans (State.updEng_quickView s _ h)
  have hx : x.1.addr = DEC_ESTATUS e := by
    simp only [List.mem_cons, List.not_mem_nil, or_false] at hx
    rcases hx with rfl | rfl <;> rfl
  have := DEC_ESTATUS_inj (hadr.trans hx)
  omega

theorem State.rung3_quickView (s : State) (d : DSect) : (s.rung3 d).quickView = s.quickView := by
  unfold State.rung3
  split <;> rfl

theorem State.limitStop_quickView (s : State) (d : DSect) : (s.limitStop d).quickView = s.quickView := rfl

theorem State.holdSlot_quickView (s : State) (n i q : Nat) : (s.holdSlot n i q).quickView = s.quickView := by
  unfold State.holdSlot
  dsimp only
  split
  · rfl
  · split <;> rfl

theorem State.backlogReread_quickView (s : State) (d : DSect) : (s.backlogReread d).quickView = s.quickView :=
  (State.wr_quickView _ _ _ (by decide)).trans (State.decBit_quickView (s.toReread d false) _ (by decide))

theorem State.startTrial_quickView (s : State) {e : Nat} (d : DSect) (h : 32 ≤ e) : (s.startTrial e d).quickView = s.quickView := by
  unfold State.startTrial
  split
  · split
    · rw [State.startJob_quickView _ _ _ _ h, State.holdSlot_quickView]
    · exact State.rung3_quickView s d
  · exact State.rung3_quickView s d

theorem State.startDeep_quickView (s : State) {e : Nat} (d : DSect) (h : 32 ≤ e) : (s.startDeep e d).quickView = s.quickView := by
  unfold State.startDeep
  split
  · split
    · rw [State.startJob_quickView _ _ _ _ h, State.holdSlot_quickView]
    · exact State.backlogReread_quickView s d
  · exact State.rung3_quickView s d

theorem State.feedDeep_quickView (s : State) {e : Nat} (h : 32 ≤ e) (fuel : Nat) : (s.feedDeep e fuel).quickView = s.quickView := by
  induction fuel generalizing s with
  | zero => rfl
  | succ fuel ih =>
    unfold State.feedDeep
    split
    · rfl
    · split
      · exact (ih _).trans (State.startTrial_quickView _ _ h)
      · exact (ih _).trans (State.startDeep_quickView _ _ h)
      · rfl

theorem State.dispatchDeep_quickView (s : State) : s.dispatchDeep.quickView = s.quickView := by
  simp only [State.dispatchDeep, State.forEach, List.foldl_cons, List.foldl_nil]
  rw [State.showDeep_quickView, State.feedDeep_quickView _ (by decide), State.feedDeep_quickView _ (by decide),
    State.feedDeep_quickView _ (by decide), State.feedDeep_quickView _ (by decide)]

/-- Rung 1 frees the sector's buffer and otherwise leaves the quick engines' side. -/
theorem State.rung1_quickView (s : State) (d : DSect) : (s.rung1 d).quickView = (s.releaseBuf d.buf).quickView := by
  unfold State.rung1
  dsimp only
  split
  · exact State.limitStop_quickView _ _
  split
  · exact State.rung3_quickView _ _
  split
  · exact State.rung3_quickView _ _
  · exact State.dispatchDeep_quickView _

theorem State.rung2_quickView (s : State) (d : DSect) (shift : Int) : (s.rung2 d shift).quickView = (s.releaseBuf d.buf).quickView := by
  unfold State.rung2
  dsimp only
  split
  · exact State.limitStop_quickView _ _
  split
  · exact State.rung3_quickView _ _
  split
  · exact State.rung3_quickView _ _
  split
  · exact State.rung3_quickView _ _
  · exact State.dispatchDeep_quickView _

theorem State.afterQuick_quickView (s : State) (d : DSect) : (s.afterQuick d).quickView = (s.releaseBuf d.buf).quickView := by
  unfold State.afterQuick
  split
  · exact State.rung3_quickView _ _
  · exact State.rung2_quickView _ _ _

/-! A buffer freed leaves the queue, the registers and the engines. -/

theorem State.releaseBuf_waiting (s : State) (b : Option Nat) : (s.releaseBuf b).dec.waiting = s.dec.waiting := by
  cases b <;> rfl

theorem State.releaseBuf_regs (s : State) (b : Option Nat) : (s.releaseBuf b).regs = s.regs := by
  cases b <;> rfl

theorem State.releaseBuf_eng (s : State) (b : Option Nat) (e : Nat) : (s.releaseBuf b).eng e = s.eng e := by
  cases b <;> rfl

theorem State.releaseBuf_free {s : State} {b : Option Nat} {i : Nat} (h : b = some i) : (s.releaseBuf b).dec.bufs.getD i none = none := by
  subst h
  exact listSet_getD_default _ _ _

/-! ### Idle engines (R87) -/

theorem State.engIdle_job (s : State) (e : Nat) : ((s.engIdle e).eng e).job = none := by
  refine (congrArg EngU.job (State.eng_congr (State.wrs_dec _ _) e)).trans ?_
  exact listModify_getD_of (P := fun g : EngU => g.job = none) rfl (fun _ => rfl) s.dec.engines e

theorem State.engIdle_busy (s : State) (e : Nat) : (s.engIdle e).rd (DEC_ESTATUS.BUSY e) = 0 :=
  (State.rd_wr_bits _ _ _ _ rfl (.inr (by show 0 < 8; decide))).trans (State.rd_wr_self _ _ _ rfl)

theorem State.engIdle_quickView (s : State) {e : Nat} (h : 32 ≤ e) : (s.engIdle e).quickView = s.quickView := by
  refine (State.wrs_quickView _ _ fun x hx k hk hadr => ?_).trans (State.updEng_quickView s _ h)
  have hx : x.1.addr = DEC_ESTATUS e := by
    simp only [List.mem_cons, List.not_mem_nil, or_false] at hx
    rcases hx with rfl | rfl <;> rfl
  have := DEC_ESTATUS_inj (hadr.trans hx)
  omega

theorem State.wrCurIter_quickView (s : State) {e : Nat} (x : Nat) (h : 32 ≤ e) : (s.wr (DEC_ESTATUS.CUR_ITER e) x).quickView = s.quickView :=
  State.quickView_congr rfl rfl (fun _ _ => rfl) fun k hk => State.reg_wr_ne _ _ _ _ fun hadr => by
    have := DEC_ESTATUS_inj hadr
    omega

/-- A deep engine that ends its job leaves the quick engines. -/
theorem State.deepFree_quickView (s : State) {e : Nat} (h : 32 ≤ e) : (s.deepFree e).quickView = s.quickView := by
  unfold State.deepFree
  split
  · exact (State.showDeep_quickView _).trans ((State.wrCurIter_quickView _ _ h).trans (State.updEng_quickView s _ h))
  · exact (State.dispatchDeep_quickView _).trans (State.engIdle_quickView s h)

/-! ### Counters and settings that transfers and dispatch leave -/

/-- The counters of the engines and of the ladder, and DEC_CFG. -/
def decCounters : List Nat :=
  (List.range 36).map DEC_ITER_CNT ++ (List.range 36).map DEC_SECT_CNT ++ [DEC_ALIGN_CNT, DEC_DEEP_CNT, DEC_CFG]

theorem mem_decCounters_iters {e : Nat} (h : e < 36) : DEC_ITER_CNT e ∈ decCounters := by
  simp only [decCounters, List.mem_append, List.mem_map, List.mem_range]
  exact .inl (.inl ⟨e, h, rfl⟩)

theorem mem_decCounters_sectors {e : Nat} (h : e < 36) : DEC_SECT_CNT e ∈ decCounters := by
  simp only [decCounters, List.mem_append, List.mem_map, List.mem_range]
  exact .inl (.inr ⟨e, h, rfl⟩)

/-- What changes none of them leaves each of their fields. -/
theorem Kept.counter {w : Nat} {s t : State} (h : Kept w s t) (hw : decCounters.all (maskClear w) = true) {f : Fld} (hf : f.addr ∈ decCounters) :
    t.rd f = s.rd f :=
  h.rd_keep (List.all_eq_true.1 hw _ hf)

section
variable {f : Fld}

theorem State.deliver_counter (s : State) (e : Nat) (d : DSect) (o : Nat) (p : List Byte) (h : f.addr ∈ decCounters) :
    (s.deliver e d o p).rd f = s.rd f :=
  (State.deliver_kept (subMask_refl _) (Kept.refl _ s)).counter (by decide +kernel) h

theorem State.deepFree_counter (s : State) (e : Nat) (h : f.addr ∈ decCounters) : (s.deepFree e).rd f = s.rd f :=
  (State.deepFree_kept (subMask_refl _) (Kept.refl _ s)).counter (by decide +kernel) h

theorem State.engIdle_counter (s : State) (e : Nat) (h : f.addr ∈ decCounters) : (s.engIdle e).rd f = s.rd f :=
  (State.engIdle_kept (subMask_refl _) (Kept.refl _ s)).counter (by decide +kernel) h

theorem State.afterQuick_counter (s : State) (d : DSect) (h : f.addr ∈ decCounters) : (s.afterQuick d).rd f = s.rd f :=
  (State.afterQuick_kept (subMask_refl _) (Kept.refl _ s)).counter (by decide +kernel) h

theorem State.checkFail_counter (s : State) (o : Nat) (h : f.addr ∈ decCounters) : (s.checkFail o).rd f = s.rd f :=
  (State.checkFail_kept (subMask_refl _) (Kept.refl _ s)).counter (by decide +kernel) h

theorem State.loadSlot_counter (s : State) (e : Nat) (d : DSect) (h : f.addr ∈ decCounters) : (s.loadSlot e d).rd f = s.rd f :=
  (State.loadSlot_kept (subMask_refl _) (Kept.refl _ s)).counter (by decide +kernel) h

theorem State.postRec_rd (s : State) (r : CRec) : (s.postRec r).rd f = s.rd f :=
  State.rd_congr ((State.postRec_kept (subMask_refl _) (Kept.refl _ s)).regs_ rfl) f

theorem State.rung3_rd (s : State) (d : DSect) : (s.rung3 d).rd f = s.rd f :=
  State.rd_congr ((State.rung3_kept (subMask_refl _) (Kept.refl _ s)).regs_ rfl) f

theorem State.releaseBuf_rd (s : State) (b : Option Nat) : (s.releaseBuf b).rd f = s.rd f :=
  State.rd_congr (s.releaseBuf_regs b) f

end

/-! ### QUICK_DECODE_START (R87) -/

theorem State.startJob_eng_self {s : State} {e : Nat} (d : DSect) (ph : EPhase) (limit : Nat) (h : e < s.dec.engines.length) :
    ((s.startJob e d ph limit).eng e).job = some (d, ph) :=
  congrArg EngU.job ((State.eng_congr (State.wrs_dec _ _) e).trans (State.updEng_eng_self _ h))

theorem State.startJob_busy (s : State) (e : Nat) (d : DSect) (ph : EPhase) (limit : Nat) : (s.startJob e d ph limit).rd (DEC_ESTATUS.BUSY e) = 1 :=
  (State.rd_wr_bits _ _ _ _ rfl (.inr (by show 0 < 8; decide))).trans (State.rd_wr_self _ _ _ rfl)

/-- A waiting sector that goes directly to re-alignment leaves the queue and its buffer. -/
theorem quickDecodeStart_align_completes {d : DSect} {s : State} (h : s.dec.waiting.find? s.goesToAlign = some d) :
    completes .quickDecodeStart s
      (fun t => t.dec.waiting = s.dec.waiting.erase d ∧ ∀ b, d.buf = some b → t.dec.bufs.getD b none = none) := by
  let left := s.updDec (fun x => { x with waiting := x.waiting.erase d })
  have hexec : execQuickDecodeStart s = .next (left.rung1 d) := by
    simp only [execQuickDecodeStart, h]
    rfl
  have hview := State.rung1_quickView left d
  refine ⟨_, hexec, (State.waiting_of_quickView hview).trans (left.releaseBuf_waiting d.buf), fun b hb => ?_⟩
  rw [State.bufs_of_quickView hview]
  exact State.releaseBuf_free hb

/-- A quick engine that may take a sector: in service, idle, with room for its records (R87, R100). -/
def State.quickFree (s : State) (e : Nat) : Prop :=
  e < 32 ∧ s.engInService e = true ∧ (s.eng e).job = none ∧ (sparseGet [] s.dec.slots (28 + e)).length < 8

/-- With none to re-align, the sector first in the queue starts on the engine idle longest. -/
theorem quickDecodeStart_completes {d : DSect} {l : List DSect} {s : State} (hwaiting : s.dec.waiting = d :: l)
    (halign : s.dec.waiting.find? s.goesToAlign = none) (hfree : ∃ e, s.quickFree e) (hlen : s.dec.engines.length = 36) :
    completes .quickDecodeStart s (fun t => t.dec.waiting = l ∧ ∃ e, s.quickFree e ∧ (t.eng e).job = some (d, .quick) ∧
      t.rd (DEC_ESTATUS.BUSY e) = 1 ∧ ∀ k, s.quickFree k → (s.eng e).idleSince ≤ (s.eng k).idleSince) := by
  let free := s.quickInService.filter (fun e => (s.eng e).job.isNone && decide ((sparseGet [] s.dec.slots (28 + e)).length < 8))
  have hmem (e : Nat) : e ∈ free ↔ s.quickFree e := by
    simp only [free, State.quickInService, State.quickFree, List.mem_filter, List.mem_range, Bool.and_eq_true, Option.isNone_iff_eq_none,
      decide_eq_true_eq]
    tauto
  obtain ⟨e0, es, hes⟩ : ∃ e0 es, free = e0 :: es := by
    obtain ⟨e, he⟩ := hfree
    exact List.exists_cons_of_ne_nil (List.ne_nil_of_mem ((hmem e).2 he))
  obtain ⟨he, hleast⟩ := foldl_least (fun e => (s.eng e).idleSince) es e0
  generalize hchosen : es.foldl (fun a x => if (s.eng x).idleSince < (s.eng a).idleSince then x else a) e0 = e at he hleast
  rw [← hes, hmem] at he
  let left := s.updDec (fun x => { x with waiting := l })
  have hexec : execQuickDecodeStart s = .next (left.startJob e d .quick s.dec.quickMax) := by
    simp only [execQuickDecodeStart, halign]
    simp only [hwaiting, show s.quickInService.filter _ = e0 :: es from hes, hchosen]
    rfl
  have hlt : e < left.dec.engines.length := by
    show e < s.dec.engines.length
    have := he.1
    omega
  refine ⟨_, hexec, congrArg DecU.waiting (State.wrs_dec _ _), e, he, State.startJob_eng_self d _ _ hlt, State.startJob_busy _ _ _ _ _,
    fun k hk => hleast k ?_⟩
  rw [← hes, hmem]
  exact hk

/-! ### Iterations (R84, R88) -/

/-- The state after engine `e` has counted an iteration. -/
def State.iterated (s : State) (e : Nat) : State :=
  ((s.updEng e (fun g => { g with iter := (s.eng e).iter + 1 })).inc (DEC_ITER_CNT.ITERS e)).wr (DEC_ESTATUS.CUR_ITER e) ((s.eng e).iter + 1)

theorem State.iterated_eng {s : State} {e : Nat} (h : e < s.dec.engines.length) :
    (s.iterated e).eng e = { s.eng e with iter := (s.eng e).iter + 1 } := State.updEng_eng_self _ h

theorem State.iterated_iters (s : State) (e : Nat) : (s.iterated e).rd (DEC_ITER_CNT.ITERS e) = satU 32 (s.rd (DEC_ITER_CNT.ITERS e) + 1) :=
  (State.rd_wr_addr _ _ _ _ (by show DEC_ITER_CNT e ≠ DEC_ESTATUS e; unfold DEC_ITER_CNT DEC_ESTATUS; omega)).trans
    (State.rd_inc_self _ _ rfl)

theorem State.iterated_curIter (s : State) (e : Nat) : (s.iterated e).rd (DEC_ESTATUS.CUR_ITER e) = ((s.eng e).iter + 1) % 64 :=
  State.rd_wr_self _ _ _ rfl

/-- Counting an iteration leaves every register but those of its engine. -/
theorem State.iterated_rd (s : State) (e : Nat) {f : Fld} (hiter : f.addr ≠ DEC_ITER_CNT e) (hstatus : f.addr ≠ DEC_ESTATUS e) :
    (s.iterated e).rd f = s.rd f :=
  (State.rd_wr_addr _ _ _ _ hstatus).trans (State.rd_wr_addr _ _ _ _ hiter)

theorem State.iterated_sectors (s : State) {e : Nat} {f : Fld} (h : f.addr = DEC_SECT_CNT e) : (s.iterated e).rd f = s.rd f :=
  State.iterated_rd s e (by rw [h]; unfold DEC_SECT_CNT DEC_ITER_CNT; omega) (by rw [h]; unfold DEC_SECT_CNT DEC_ESTATUS; omega)

/-- It leaves what belongs to the whole pool. -/
theorem State.iterated_pool (s : State) {e : Nat} (he : e < 36) {f : Fld} (h : 0x9F000 ≤ f.addr) : (s.iterated e).rd f = s.rd f :=
  State.iterated_rd s e (by unfold DEC_ITER_CNT; omega) (by unfold DEC_ESTATUS; omega)

/-- The outcome of a payload hangs on the media and on the configuration alone. -/
theorem State.payloadOutcome_congr {s t : State} (hmedia : t.media = s.media) (hsys : t.sys = s.sys) (d : DSect) (p : List Byte) :
    t.payloadOutcome d p = s.payloadOutcome d p := by
  simp only [State.payloadOutcome, State.zone, hmedia, hsys]
  rfl

/-- What a quick engine does with a sector whose checks are all satisfied: converged or unwritten, it is done; else the ladder goes on (R88). -/
def State.quickOutcome (t : State) (e : Nat) (d : DSect) (o : Nat) : State :=
  if o = 2 ∨ o = 6 then
    (((t.inc (DEC_SECT_CNT.CONVERGED e)).when (!d.fromTrial) (fun t => t.inc DEC_CONV_CNT.CNT)).releaseBuf d.buf).engIdle e
  else (((t.inc (DEC_SECT_CNT.FAILED e)).checkFail o).engIdle e).afterQuick d

theorem State.quickOutcome_idle (t : State) (e : Fin 32) (d : DSect) (o : Nat) :
    ((t.quickOutcome e d o).eng e).job = none ∧ (t.quickOutcome e d o).rd (DEC_ESTATUS.BUSY e) = 0 := by
  unfold State.quickOutcome
  split
  · exact ⟨State.engIdle_job _ _, State.engIdle_busy _ _⟩
  · generalize (t.inc _).checkFail o = u
    have hview := State.afterQuick_quickView (u.engIdle e) d
    refine ⟨?_, ?_⟩
    · rw [State.eng_of_quickView hview e, State.releaseBuf_eng]
      exact State.engIdle_job _ _
    · refine ((congrArg (fun r => getF r _ _) (State.estatus_of_quickView hview e)).trans ?_).trans (State.engIdle_busy u e)
      exact State.rd_congr ((u.engIdle e).releaseBuf_regs d.buf) (DEC_ESTATUS.BUSY e)

theorem State.when_inc_rd (s : State) (b : Bool) {f g : Fld} (h : g.addr ≠ f.addr) : (s.when b (fun t => t.inc f)).rd g = s.rd g := by
  cases b
  · rfl
  · exact State.rd_wr_addr _ _ _ _ h

theorem State.quickOutcome_iters (t : State) {e : Nat} (he : e < 32) (d : DSect) (o : Nat) :
    (t.quickOutcome e d o).rd (DEC_ITER_CNT.ITERS e) = t.rd (DEC_ITER_CNT.ITERS e) := by
  have hmem : (DEC_ITER_CNT.ITERS e).addr ∈ decCounters := mem_decCounters_iters (by omega)
  have hsect : DEC_ITER_CNT e ≠ DEC_SECT_CNT e := by unfold DEC_ITER_CNT DEC_SECT_CNT; omega
  have hconv : DEC_ITER_CNT e ≠ DEC_CONV_CNT := by unfold DEC_ITER_CNT DEC_CONV_CNT; omega
  unfold State.quickOutcome
  split
  · rw [State.engIdle_counter _ _ hmem, State.releaseBuf_rd, State.when_inc_rd _ _ hconv]
    exact State.rd_wr_addr _ _ _ _ hsect
  · rw [State.afterQuick_counter _ _ hmem, State.engIdle_counter _ _ hmem, State.checkFail_counter _ _ hmem]
    exact State.rd_wr_addr _ _ _ _ hsect

theorem State.quickOutcome_count (t : State) {e : Nat} (he : e < 32) (d : DSect) (o : Nat) :
    if o = 2 ∨ o = 6 then (t.quickOutcome e d o).rd (DEC_SECT_CNT.CONVERGED e) = satU 16 (t.rd (DEC_SECT_CNT.CONVERGED e) + 1)
    else (t.quickOutcome e d o).rd (DEC_SECT_CNT.FAILED e) = satU 16 (t.rd (DEC_SECT_CNT.FAILED e) + 1) := by
  have hmem : DEC_SECT_CNT e ∈ decCounters := mem_decCounters_sectors (by omega)
  have hconv : DEC_SECT_CNT e ≠ DEC_CONV_CNT := by unfold DEC_SECT_CNT DEC_CONV_CNT; omega
  unfold State.quickOutcome
  split
  · rw [State.engIdle_counter _ _ hmem, State.releaseBuf_rd, State.when_inc_rd _ _ hconv]
    exact State.rd_inc_self _ _ rfl
  · rw [State.afterQuick_counter _ _ hmem, State.engIdle_counter _ _ hmem, State.checkFail_counter _ _ hmem]
    exact State.rd_inc_self _ _ rfl

section
variable {e : Fin 32} {word : BitVec 37120} {flips : List (BitVec 18)} {d : DSect} {s : State}

/-- Every check satisfied with EARLY_STOP: the payload is judged, delivered and recorded. -/
theorem execQuickIterationEnd_satisfied (hjob : (s.eng e).job = some (d, .quick)) (hdrop : (s.eng e).dropping = false)
    (hsw : syndromeWeight word.toNat = 0) (hparity : parityBroken (flips.map (fun f => f.toNat)) = false) (hearly : s.on DEC_CFG.EARLY_STOP = true) :
    execQuickIterationEnd e word flips s =
      .next ((((s.iterated e).deliver e d (s.payloadOutcome d (payloadOf word.toNat)) (payloadOf word.toNat)).postRec
        (engRec e d (s.payloadOutcome d (payloadOf word.toNat)) ((s.eng e).iter + 1) (if d.fromTrial then 1 else 0) 0)).quickOutcome e d
        (s.payloadOutcome d (payloadOf word.toNat))) := by
  have hearly' : (s.iterated e).on DEC_CFG.EARLY_STOP = true :=
    (congrArg (· != 0) (State.iterated_pool s (e := e) (by omega) (f := DEC_CFG.EARLY_STOP) (by decide))).trans hearly
  have hout : (s.iterated e).payloadOutcome d (payloadOf word.toNat) = s.payloadOutcome d (payloadOf word.toNat) :=
    State.payloadOutcome_congr rfl rfl d _
  unfold State.iterated at hearly' hout
  simp only [execQuickIterationEnd, hjob, hdrop, hsw, hparity, hearly', hout, true_and, true_or, Bool.false_eq_true, if_false, if_true]
  rfl

/-- QUICK_ITERATION_END with every check satisfied and EARLY_STOP. -/
theorem quickIterationEnd_satisfied_completes (hjob : (s.eng e).job = some (d, .quick)) (hdrop : (s.eng e).dropping = false)
    (hsw : syndromeWeight word.toNat = 0) (hparity : parityBroken (flips.map (fun f => f.toNat)) = false) (hearly : s.on DEC_CFG.EARLY_STOP = true) :
    completes (.quickIterationEnd e word flips) s (fun t => (t.eng e).job = none ∧ t.rd (DEC_ESTATUS.BUSY e) = 0 ∧
      t.rd (DEC_ITER_CNT.ITERS e) = satU 32 (s.rd (DEC_ITER_CNT.ITERS e) + 1) ∧
      (if s.payloadOutcome d (payloadOf word.toNat) = 2 ∨ s.payloadOutcome d (payloadOf word.toNat) = 6 then
        t.rd (DEC_SECT_CNT.CONVERGED e) = satU 16 (s.rd (DEC_SECT_CNT.CONVERGED e) + 1)
       else t.rd (DEC_SECT_CNT.FAILED e) = satU 16 (s.rd (DEC_SECT_CNT.FAILED e) + 1))) := by
  have he : e.val < 36 := by omega
  have hexec := execQuickIterationEnd_satisfied hjob hdrop hsw hparity hearly
  generalize s.payloadOutcome d (payloadOf word.toNat) = o at hexec ⊢
  generalize hu : ((s.iterated e).deliver e d o (payloadOf word.toNat)).postRec _ = u at hexec
  have hkept {f : Fld} (hf : f.addr ∈ decCounters) : u.rd f = (s.iterated e).rd f := by
    rw [← hu, State.postRec_rd, State.deliver_counter _ _ _ _ _ hf]
  have hcount {f : Fld} (hf : f.addr = DEC_SECT_CNT e) : u.rd f = s.rd f :=
    (hkept (hf ▸ mem_decCounters_sectors he)).trans (State.iterated_sectors s hf)
  obtain ⟨hidle, hbusy⟩ := u.quickOutcome_idle e d o
  refine ⟨_, hexec, hidle, hbusy, ?_, ?_⟩
  · rw [State.quickOutcome_iters u e.isLt, hkept (mem_decCounters_iters he), State.iterated_iters]
  · have h := u.quickOutcome_count e.isLt d o
    rwa [hcount (f := DEC_SECT_CNT.CONVERGED e) rfl, hcount (f := DEC_SECT_CNT.FAILED e) rfl] at h

/-- QUICK_ITERATION_END with a check unsatisfied, below the limit. -/
theorem quickIterationEnd_continues_completes (hjob : (s.eng e).job = some (d, .quick)) (hdrop : (s.eng e).dropping = false)
    (hsw : syndromeWeight word.toNat ≠ 0) (hparity : parityBroken (flips.map (fun f => f.toNat)) = false)
    (hlimit : (s.eng e).iter + 1 < (s.eng e).limit) :
    completes (.quickIterationEnd e word flips) s (fun t => (t.eng e).job = some (d, .quick) ∧ (t.eng e).iter = (s.eng e).iter + 1 ∧
      t.rd (DEC_ESTATUS.CUR_ITER e) = ((s.eng e).iter + 1) % 64) := by
  have hexec : execQuickIterationEnd e word flips s = .next (s.iterated e) := by
    simp only [execQuickIterationEnd, hjob, hdrop, hsw, hparity, Nat.not_le.2 hlimit, false_and, Bool.false_eq_true, if_false]
    rfl
  have heng := State.iterated_eng (State.lt_of_job hjob)
  exact ⟨_, hexec, (congrArg EngU.job heng).trans hjob, congrArg EngU.iter heng, State.iterated_curIter s e⟩

end

/-! ### Re-alignment trials (R75, R94) -/

/-- The LLRs that a trial of sector `d` finds in the local buffer of engine `n` at the shift in hand, as its syndrome weight (R75). -/
def State.trialSw (s : State) (n : Nat) (d : DSect) : Nat :=
  syndromeWeight (hardBits (s.sectorLlrs d.chan (s.eng n).local1.desc (s.eng n).local1.samples d.shift))

/-- The state after engine `n` has run and counted a trial. -/
def State.trialRun (s : State) (n : Nat) (d : DSect) : State := (s.replay n d).inc DEC_ALIGN_CNT.TRIALS

theorem State.trialRun_eng {s : State} {n : Nat} (d : DSect) (h : n < s.dec.engines.length) : (s.trialRun n d).eng n =
    { s.eng n with llrs := s.sectorLlrs d.chan (s.eng n).local1.desc (s.eng n).local1.samples d.shift } :=
  State.updEng_eng_self _ h

theorem State.trialRun_swAlign (s : State) (n : Nat) (d : DSect) : (s.trialRun n d).rd DEC_CFG.SW_ALIGN = s.rd DEC_CFG.SW_ALIGN :=
  State.rd_wr_addr _ _ _ _ (by decide)

theorem State.trialRun_trials (s : State) (n : Nat) (d : DSect) :
    (s.trialRun n d).rd DEC_ALIGN_CNT.TRIALS = satU 16 (s.rd DEC_ALIGN_CNT.TRIALS + 1) := State.rd_inc_self _ _ rfl

section
variable {s : State} {n : Nat} {d : DSect}

/-- A trial that does not qualify tries the next shift. -/
theorem State.trialEnd_of_shift {sh : Int} {l : List Int} (hn : n < s.dec.engines.length) (hdrop : (s.eng n).dropping = false)
    (hsw : s.rd DEC_CFG.SW_ALIGN ≤ s.trialSw n d) (hshifts : d.shifts = sh :: l) :
    s.trialEnd n d = (s.trialRun n d).updEng n (fun g => { g with job := some ({ d with shift := sh, shifts := l }, .trial) }) := by
  have heng := State.trialRun_eng d hn
  have halign := State.trialRun_swAlign s n d
  unfold State.trialRun at heng halign
  unfold State.trialSw at hsw
  simp only [State.trialEnd, heng, halign, hdrop, Nat.not_lt.2 hsw, hshifts, Bool.false_eq_true, if_false]
  rfl

/-- What such a trial leaves: the engine tries the next shift, and the trial is counted. -/
theorem State.trialEnd_next {sh : Int} {l : List Int} (hn : n < s.dec.engines.length) (hdrop : (s.eng n).dropping = false)
    (hsw : s.rd DEC_CFG.SW_ALIGN ≤ s.trialSw n d) (hshifts : d.shifts = sh :: l) :
    ((s.trialEnd n d).eng n).job = some ({ d with shift := sh, shifts := l }, .trial) ∧
    (s.trialEnd n d).rd DEC_ALIGN_CNT.TRIALS = satU 16 (s.rd DEC_ALIGN_CNT.TRIALS + 1) ∧ (s.trialEnd n d).chans = s.chans := by
  rw [State.trialEnd_of_shift hn hdrop hsw hshifts]
  have hlen : n < (s.trialRun n d).dec.engines.length := hn.trans_eq (listModify_length _ _ _).symm
  exact ⟨congrArg EngU.job (State.updEng_eng_self _ hlen), State.trialRun_trials s n d, rfl⟩

/-- A trial that qualifies gives its LLRs the free buffer, and the sector waits with it. -/
theorem State.trialEnd_of_qualifies {b : Nat} (hn : n < s.dec.engines.length) (hdrop : (s.eng n).dropping = false)
    (hsw : s.trialSw n d < s.rd DEC_CFG.SW_ALIGN) (hfree : s.freeBuf = some b) :
    s.trialEnd n d = (((((s.trialRun n d).inc DEC_ALIGN_CNT.OK).fillBuf (some b) d.token
      (s.sectorLlrs d.chan (s.eng n).local1.desc (s.eng n).local1.samples d.shift)).updDec (fun x =>
      { x with waiting := x.waiting ++ [{ d with buf := some b, fromTrial := true, sw0 := s.trialSw n d }] })).deepFree n) := by
  have heng := State.trialRun_eng d hn
  have halign := State.trialRun_swAlign s n d
  have hfree' : ((s.trialRun n d).inc DEC_ALIGN_CNT.OK).freeBuf = some b := hfree
  unfold State.trialRun at heng halign hfree'
  unfold State.trialSw at hsw
  simp only [State.trialEnd, heng, halign, hdrop, hsw, hfree', Bool.false_eq_true, if_false, if_true]
  rfl

end

/-- A hold that ends leaves its slot free. -/
theorem State.releaseHold_held (s : State) (n i : Nat) : ((s.releaseHold n i).slotOf n i).held = false :=
  listModify_getD_of (P := fun c : ChanU => (c.slots.getD i RSlot.empty).held = false) rfl
    (fun c => listModify_getD_of (P := fun x : RSlot => x.held = false) rfl (fun _ => rfl) c.slots i) s.chans n

theorem State.slotOf_congr {s t : State} (h : t.chans = s.chans) (n i : Nat) : t.slotOf n i = s.slotOf n i := by
  simp only [State.slotOf, State.chan_congr h]

/-- A slot loaded is no longer held. -/
theorem State.loadSlot_held (s : State) (e : Nat) {d : DSect} {i q : Nat} (h : d.slot = some (i, q)) :
    ((s.loadSlot e d).slotOf d.chan i).held = false := by
  simp only [State.loadSlot, State.unhold, h]
  exact State.releaseHold_held _ _ _

/-- The load changes only the local buffer of the engine. -/
theorem State.loadSlot_eng (s : State) (e : Nat) (d : DSect) :
    ((s.loadSlot e d).eng e).job = (s.eng e).job ∧ ((s.loadSlot e d).eng e).dropping = (s.eng e).dropping := by
  unfold State.loadSlot
  split
  · exact ⟨rfl, rfl⟩
  next i q hslot =>
    dsimp only
    simp only [State.unhold, hslot]
    generalize hread : s.readBuf _ _ _ _ _ = r
    have hdec : r.1.dec = s.dec := hread ▸ (State.readBuf_kept (subMask_refl _) (Kept.refl _ s)).dec_ rfl
    have hkeeps := State.updEng_eng_keeps (fun g : EngU => (g.job, g.dropping)) r.1 e e
      (f := fun g => { g with local1 := { desc := s.slotOf d.chan i, samples := r.2.data } }) (fun _ => rfl)
    rw [State.eng_congr hdec] at hkeeps
    exact ⟨congrArg Prod.fst hkeeps, congrArg Prod.snd hkeeps⟩

section
variable {e : Fin 4} {d : DSect} {s : State}

/-- REALIGN_TRIAL_END of a trial that does not qualify, with a shift left. -/
theorem realignTrialEnd_next_completes {sh : Int} {l : List Int} (hjob : (s.eng (32 + e)).job = some (d, .trial))
    (hdrop : (s.eng (32 + e)).dropping = false) (hsw : s.rd DEC_CFG.SW_ALIGN ≤ s.trialSw (32 + e) d) (hshifts : d.shifts = sh :: l) :
    completes (.realignTrialEnd e) s (fun t => (t.eng (32 + e)).job = some ({ d with shift := sh, shifts := l }, .trial) ∧
      t.rd DEC_ALIGN_CNT.TRIALS = satU 16 (s.rd DEC_ALIGN_CNT.TRIALS + 1)) := by
  have hexec : execRealignTrialEnd e s = .next (s.trialEnd (32 + e) d) := by simp only [execRealignTrialEnd, hjob]
  obtain ⟨hnext, htrials, -⟩ := State.trialEnd_next (State.lt_of_job hjob) hdrop hsw hshifts
  exact ⟨_, hexec, hnext, htrials⟩

/-- REALIGN_TRIAL_END of a first trial, which has loaded the slot. -/
theorem realignTrialEnd_first_completes {i q : Nat} {sh : Int} {l : List Int} (hjob : (s.eng (32 + e)).job = some (d, .trialLoad))
    (hdrop : (s.eng (32 + e)).dropping = false) (hslot : d.slot = some (i, q)) (hholds : s.slotHolds d = true) (hheld : s.slotHeld d = true)
    (hsw : s.rd DEC_CFG.SW_ALIGN ≤ (s.loadSlot (32 + e) d).trialSw (32 + e) d) (hshifts : d.shifts = sh :: l) :
    completes (.realignTrialEnd e) s (fun t => (t.eng (32 + e)).job = some ({ d with shift := sh, shifts := l }, .trial) ∧
      t.rd DEC_ALIGN_CNT.TRIALS = satU 16 (s.rd DEC_ALIGN_CNT.TRIALS + 1) ∧ (t.slotOf d.chan i).held = false) := by
  have hexec : execRealignTrialEnd e s = .next ((s.loadSlot (32 + e) d).trialEnd (32 + e) d) := by
    simp only [execRealignTrialEnd, hjob, hdrop, hholds, hheld, Bool.not_true, Bool.false_eq_true, if_false, if_true]
  obtain ⟨hjob', hdrop'⟩ := s.loadSlot_eng (32 + e) d
  have halign : (s.loadSlot (32 + e) d).rd DEC_CFG.SW_ALIGN = s.rd DEC_CFG.SW_ALIGN := State.loadSlot_counter _ _ _ (by decide)
  obtain ⟨hnext, htrials, hchans⟩ :=
    State.trialEnd_next (State.lt_of_job (hjob'.trans hjob)) (hdrop'.trans hdrop) (halign ▸ hsw) hshifts
  rw [State.loadSlot_counter _ _ _ (f := DEC_ALIGN_CNT.TRIALS) (by decide)] at htrials
  exact ⟨_, hexec, hnext, htrials, (congrArg RSlot.held (State.slotOf_congr hchans _ _)).trans (State.loadSlot_held s _ hslot)⟩

/-- REALIGN_TRIAL_END of a trial that qualifies, with a buffer free. -/
theorem realignTrialEnd_qualifies_completes {b sw : Nat} (hsw : s.trialSw (32 + e) d = sw) (hjob : (s.eng (32 + e)).job = some (d, .trial))
    (hdrop : (s.eng (32 + e)).dropping = false) (halign : sw < s.rd DEC_CFG.SW_ALIGN) (hfree : s.freeBuf = some b) :
    completes (.realignTrialEnd e) s (fun t =>
      t.dec.waiting = s.dec.waiting ++ [{ d with buf := some b, fromTrial := true, sw0 := sw }] ∧
      t.rd DEC_ALIGN_CNT.OK = satU 16 (s.rd DEC_ALIGN_CNT.OK + 1)) := by
  have hexec : execRealignTrialEnd e s = .next (s.trialEnd (32 + e) d) := by simp only [execRealignTrialEnd, hjob]
  have hend := State.trialEnd_of_qualifies (State.lt_of_job hjob) hdrop (hsw.trans_lt halign) hfree
  rw [hsw] at hend
  have hok : (s.trialRun (32 + e) d).rd DEC_ALIGN_CNT.OK = s.rd DEC_ALIGN_CNT.OK := State.rd_wr_bits _ _ _ _ rfl (.inr (by decide))
  refine ⟨_, hexec, ?_, ?_⟩
  · rw [hend, State.waiting_of_quickView (State.deepFree_quickView _ (by omega))]
    rfl
  · rw [hend, State.deepFree_counter _ _ (by decide), ← hok]
    exact State.rd_inc_self _ _ rfl

/-! ### Deep decodes (R84, R95) -/

/-- DEEP_SLOT_LOAD_END of a slot that holds the sector and is held. -/
theorem deepSlotLoadEnd_completes {i q : Nat} (hjob : (s.eng (32 + e)).job = some (d, .deepLoad)) (hdrop : (s.eng (32 + e)).dropping = false)
    (hslot : d.slot = some (i, q)) (hholds : s.slotHolds d = true) (hheld : s.slotHeld d = true) :
    completes (.deepSlotLoadEnd e) s (fun t => (t.eng (32 + e)).job = some (d, .deep) ∧ (t.slotOf d.chan i).held = false) := by
  let replayed := (s.loadSlot (32 + e) d).replay (32 + e) d
  have hexec : execDeepSlotLoadEnd e s = .next (replayed.updEng (32 + e) (fun g => { g with job := some (d, .deep) })) := by
    simp only [execDeepSlotLoadEnd, hjob, hdrop, hholds, hheld, Bool.not_true, Bool.false_eq_true, if_false, if_true]
    rfl
  have hlen : 32 + e.val < replayed.dec.engines.length :=
    (State.lt_of_job ((s.loadSlot_eng (32 + e) d).1.trans hjob)).trans_eq (listModify_length _ _ _).symm
  exact ⟨_, hexec, congrArg EngU.job (State.updEng_eng_self _ hlen), State.loadSlot_held s _ hslot⟩

/-- DEEP_SLOT_LOAD_END of a slot that is not held yet (log entry 1). -/
theorem execDeepSlotLoadEnd_of_waiting (hjob : (s.eng (32 + e)).job = some (d, .deepLoad)) (hdrop : (s.eng (32 + e)).dropping = false)
    (hholds : s.slotHolds d = true) (hheld : s.slotHeld d = false) : execDeepSlotLoadEnd e s = .next s := by
  simp only [execDeepSlotLoadEnd, hjob, hdrop, hholds, hheld, Bool.not_true, Bool.false_eq_true, if_false]

/-- What a deep engine does with a sector whose checks are all satisfied (R88). -/
def State.deepOutcome (t : State) (n : Nat) (d : DSect) (o : Nat) : State :=
  if o = 2 ∨ o = 6 then ((t.inc (DEC_SECT_CNT.CONVERGED n)).inc DEC_DEEP_CNT.CONVERGED).deepFree n
  else ((((t.inc (DEC_SECT_CNT.FAILED n)).inc DEC_DEEP_CNT.FAILED).checkFail o).rung3 d).deepFree n

/-- Two counters incremented leave the other registers. -/
theorem State.rd_inc_inc_ne (t : State) (f g : Fld) {k : Fld} (hf : k.addr ≠ f.addr) (hg : k.addr ≠ g.addr) :
    ((t.inc f).inc g).rd k = t.rd k := (State.rd_wr_addr _ _ _ _ hg).trans (State.rd_wr_addr _ _ _ _ hf)

theorem State.deepOutcome_iters (t : State) {n : Nat} (hn : n < 36) (d : DSect) (o : Nat) :
    (t.deepOutcome n d o).rd (DEC_ITER_CNT.ITERS n) = t.rd (DEC_ITER_CNT.ITERS n) := by
  have hmem : (DEC_ITER_CNT.ITERS n).addr ∈ decCounters := mem_decCounters_iters hn
  have hsect : DEC_ITER_CNT n ≠ DEC_SECT_CNT n := by unfold DEC_ITER_CNT DEC_SECT_CNT; omega
  have hdeep : DEC_ITER_CNT n ≠ DEC_DEEP_CNT := by unfold DEC_ITER_CNT DEC_DEEP_CNT; omega
  unfold State.deepOutcome
  split
  · rw [State.deepFree_counter _ _ hmem]
    exact State.rd_inc_inc_ne _ _ _ hsect hdeep
  · rw [State.deepFree_counter _ _ hmem, State.rung3_rd, State.checkFail_counter _ _ hmem]
    exact State.rd_inc_inc_ne _ _ _ hsect hdeep

theorem State.deepOutcome_count (t : State) {n : Nat} (hn : n < 36) (d : DSect) (o : Nat) :
    if o = 2 ∨ o = 6 then (t.deepOutcome n d o).rd DEC_DEEP_CNT.CONVERGED = satU 16 (t.rd DEC_DEEP_CNT.CONVERGED + 1)
    else (t.deepOutcome n d o).rd DEC_DEEP_CNT.FAILED = satU 16 (t.rd DEC_DEEP_CNT.FAILED + 1) := by
  have hmem : DEC_DEEP_CNT ∈ decCounters := by decide
  have hsect : DEC_DEEP_CNT ≠ DEC_SECT_CNT n := by unfold DEC_DEEP_CNT DEC_SECT_CNT; omega
  have hcount (f : Fld) (hok : f.ok = true) (haddr : f.addr = DEC_DEEP_CNT) (g : Fld) (hg : g.addr = DEC_SECT_CNT n) :
      ((t.inc g).inc f).rd f = satU (f.hi + 1 - f.lo) (t.rd f + 1) := by
    rw [State.rd_inc_self _ _ hok]
    exact congrArg (fun x => satU _ (x + 1)) (State.rd_wr_addr _ _ _ _ (by rw [haddr, hg]; exact hsect))
  unfold State.deepOutcome
  split
  · rw [State.deepFree_counter _ _ hmem]
    exact hcount DEC_DEEP_CNT.CONVERGED rfl rfl _ rfl
  · rw [State.deepFree_counter _ _ hmem, State.rung3_rd, State.checkFail_counter _ _ hmem]
    exact hcount DEC_DEEP_CNT.FAILED rfl rfl _ rfl

variable {word : BitVec 37120}

/-- Every check satisfied with EARLY_STOP: the payload is judged, delivered and recorded. -/
theorem execDeepOuterIterationEnd_satisfied (hjob : (s.eng (32 + e)).job = some (d, .deep)) (hdrop : (s.eng (32 + e)).dropping = false)
    (hsw : syndromeWeight word.toNat = 0) (hearly : s.on DEC_CFG.EARLY_STOP = true) :
    execDeepOuterIterationEnd e word s =
      .next ((((s.iterated (32 + e)).deliver (32 + e) d (s.payloadOutcome d (payloadOf word.toNat)) (payloadOf word.toNat)).postRec
        (engRec (32 + e) d (s.payloadOutcome d (payloadOf word.toNat)) ((s.eng (32 + e)).iter + 1) 2 0)).deepOutcome
        (32 + e) d (s.payloadOutcome d (payloadOf word.toNat))) := by
  have hearly' : (s.iterated (32 + e)).on DEC_CFG.EARLY_STOP = true :=
    (congrArg (· != 0) (State.iterated_pool s (e := 32 + e) (by omega) (f := DEC_CFG.EARLY_STOP) (by decide))).trans hearly
  have hout : (s.iterated (32 + e)).payloadOutcome d (payloadOf word.toNat) = s.payloadOutcome d (payloadOf word.toNat) :=
    State.payloadOutcome_congr rfl rfl d _
  unfold State.iterated at hearly' hout
  simp only [execDeepOuterIterationEnd, hjob, hdrop, hsw, hearly', hout, true_and, true_or, Bool.false_eq_true, if_false, if_true]
  rfl

/-- DEEP_OUTER_ITERATION_END with every check satisfied and EARLY_STOP. -/
theorem deepOuterIterationEnd_satisfied_completes (hjob : (s.eng (32 + e)).job = some (d, .deep)) (hdrop : (s.eng (32 + e)).dropping = false)
    (hsw : syndromeWeight word.toNat = 0) (hearly : s.on DEC_CFG.EARLY_STOP = true) :
    completes (.deepOuterIterationEnd e word) s (fun t =>
      t.rd (DEC_ITER_CNT.ITERS (32 + e)) = satU 32 (s.rd (DEC_ITER_CNT.ITERS (32 + e)) + 1) ∧
      (if s.payloadOutcome d (payloadOf word.toNat) = 2 ∨ s.payloadOutcome d (payloadOf word.toNat) = 6 then
        t.rd DEC_DEEP_CNT.CONVERGED = satU 16 (s.rd DEC_DEEP_CNT.CONVERGED + 1)
       else t.rd DEC_DEEP_CNT.FAILED = satU 16 (s.rd DEC_DEEP_CNT.FAILED + 1))) := by
  have hn : 32 + e.val < 36 := by omega
  have hexec := execDeepOuterIterationEnd_satisfied hjob hdrop hsw hearly
  generalize s.payloadOutcome d (payloadOf word.toNat) = o at hexec ⊢
  generalize hu : ((s.iterated (32 + e)).deliver (32 + e) d o (payloadOf word.toNat)).postRec _ = u at hexec
  have hkept {f : Fld} (hf : f.addr ∈ decCounters) : u.rd f = (s.iterated (32 + e)).rd f := by
    rw [← hu, State.postRec_rd, State.deliver_counter _ _ _ _ _ hf]
  have hcount {f : Fld} (hf : f.addr = DEC_DEEP_CNT) : u.rd f = s.rd f :=
    (hkept (hf ▸ (by decide : DEC_DEEP_CNT ∈ decCounters))).trans (State.iterated_pool s hn (hf ▸ (by decide : 0x9F000 ≤ DEC_DEEP_CNT)))
  refine ⟨_, hexec, ?_, ?_⟩
  · rw [State.deepOutcome_iters u hn, hkept (mem_decCounters_iters hn), State.iterated_iters]
  · have h := u.deepOutcome_count hn d o
    rwa [hcount (f := DEC_DEEP_CNT.CONVERGED) rfl, hcount (f := DEC_DEEP_CNT.FAILED) rfl] at h

/-- With no trial pending none interleaves. -/
theorem State.interleave_of_none {t : State} (n : Nat) (h : t.dec.trialQ = []) : t.interleave n = t := by
  unfold State.interleave
  split
  next htrials _ => cases h.symm.trans htrials
  · rfl

/-- DEEP_OUTER_ITERATION_END with a check unsatisfied, below the limit, no trial pending. -/
theorem deepOuterIterationEnd_continues_completes (hjob : (s.eng (32 + e)).job = some (d, .deep)) (hdrop : (s.eng (32 + e)).dropping = false)
    (hsw : syndromeWeight word.toNat ≠ 0) (hlimit : (s.eng (32 + e)).iter + 1 < (s.eng (32 + e)).limit) (htrials : s.dec.trialQ = []) :
    completes (.deepOuterIterationEnd e word) s
      (fun t => (t.eng (32 + e)).job = some (d, .deep) ∧ (t.eng (32 + e)).iter = (s.eng (32 + e)).iter + 1) := by
  have hexec : execDeepOuterIterationEnd e word s = .next (s.iterated (32 + e)) := by
    simp only [execDeepOuterIterationEnd, hjob, hdrop, hsw, Nat.not_le.2 hlimit, false_and, Bool.false_eq_true, if_false]
    exact congrArg _ (State.interleave_of_none (t := s.iterated (32 + e)) (32 + e) htrials)
  have heng := State.iterated_eng (State.lt_of_job hjob)
  exact ⟨_, hexec, (congrArg EngU.job heng).trans hjob, congrArg EngU.iter heng⟩

end

/-- DEC_TRACE_POP with a record (R105). -/
theorem decTracePop_completes {r : CRec} {l : List CRec} {s : State} (h : s.dec.trace = r :: l) :
    completes .decTracePop s (fun t => t.dec.trace = l ∧ t.out = s.out ++ [.regRead (BitVec.ofNat 32 (r.value / 2 ^ 96))] ∧ t.regs = s.regs) := by
  have hexec : execDecTracePop s = .next ((s.emit (.regRead (BitVec.ofNat 32 (r.value / 2 ^ 96)))).updDec
      (fun x => { x with trace := x.trace.drop 1 })) := by
    simp only [execDecTracePop, h]
  exact ⟨_, hexec, congrArg (List.drop 1) h, rfl, rfl⟩

/-- Settles O35, clause by clause: quick decodes, trials, deep decodes, and the trace. -/
theorem decoderCommands : Obligations.DecoderCommands := by
  refine ⟨fun d s h => quickDecodeStart_align_completes h, fun d l s hwaiting halign hfree hlen => ?_,
    fun e word flips d s hjob hdrop hsw hparity hearly => quickIterationEnd_satisfied_completes hjob hdrop hsw hparity hearly,
    fun e word flips d s hjob hdrop hsw hparity hlimit => quickIterationEnd_continues_completes hjob hdrop hsw hparity hlimit,
    fun e sw d sh l s hjob hdrop hsw halign hshifts => realignTrialEnd_next_completes hjob hdrop (halign.trans_eq hsw) hshifts,
    fun e sw i q d sh l s hjob hdrop hslot hholds hheld hsw halign hshifts =>
      realignTrialEnd_first_completes hjob hdrop hslot hholds hheld (halign.trans_eq hsw) hshifts,
    fun e sw b d s hjob hdrop hsw halign hfree => realignTrialEnd_qualifies_completes hsw.symm hjob hdrop halign hfree,
    fun e i q d s hjob hdrop hslot hholds hheld => deepSlotLoadEnd_completes hjob hdrop hslot hholds hheld,
    fun e d s hjob hdrop hholds hheld => execDeepSlotLoadEnd_of_waiting hjob hdrop hholds hheld,
    fun e word d s hjob hdrop hsw hearly => deepOuterIterationEnd_satisfied_completes hjob hdrop hsw hearly,
    fun e word d s hjob hdrop hsw hlimit htrials => deepOuterIterationEnd_continues_completes hjob hdrop hsw hlimit htrials,
    fun r l s h => decTracePop_completes h⟩
  obtain ⟨t, ht, hwaiting', e, ⟨he, hin, hjob, -⟩, hjob', hbusy, hleast⟩ := quickDecodeStart_completes hwaiting halign hfree hlen
  exact ⟨t, ht, hwaiting', e, he, hin, hjob, hjob', hbusy, fun k hk hin hjob hroom => hleast k ⟨hk, hin, hjob, hroom⟩⟩

end Sys2Proof.Machine
end

