-- ==== Sys2Proof/Proofs/ReadChannelSamples.lean ====
section
/-! A read channel through one sector (O33). -/

namespace Sys2Proof.Machine
open Reg

/-! ### Flags of a sector -/

theorem bitOf_eq_testBit (x b : Nat) : bitOf x b = x.testBit b := by
  rw [bitOf, Nat.testBit_eq_decide_div_mod_eq]
  rfl

theorem RSlot.has_of_flags {d e : RSlot} {x k : Nat} (h : e.flags = d.flags ||| x) (hx : x.testBit k = false) : e.has k = d.has k := by
  simp only [RSlot.has, h, bitOf_eq_testBit, Nat.testBit_or, hx, Bool.or_false]

theorem RSlot.flag_has_self (d : RSlot) (b : Nat) : (d.flag b).has b = true := by
  simp [RSlot.has, RSlot.flag, bitOf_eq_testBit, Nat.testBit_or, Nat.testBit_two_pow_self]

/-! ### What the front end leaves (R53 to R58, R68) -/

/-- A channel without what its front end runs on: the loops, the staged samples and the asperities. -/
def ChanU.course (c : ChanU) : ChanU :=
  { c with rx := Rx.init, gainA := 0, gainB := 0, freq := 0, taA := none, taB := none,
           cur := { c.cur with flags := c.cur.flags ||| 24, taSpans := [], note := RxNote.empty } }

theorem ChanU.course_has (c : ChanU) {k : Nat} (h : Nat.testBit 24 k = false) : c.course.cur.has k = c.cur.has k := RSlot.has_of_flags rfl h

/-- A flag of an asperity is none that `course` keeps. -/
theorem or_asperity_flags (x : Nat) : (x ||| 2 ^ 3) ||| 24 = x ||| 24 ∧ (x ||| 2 ^ 4) ||| 24 = x ||| 24 := by
  constructor <;> rw [Nat.or_assoc] <;> rfl

theorem RxCfg.endSpan_course (k : RxCfg) (readerB : Bool) (start bit : Nat) (c : ChanU) : (k.endSpan readerB start bit c).course = c.course := by
  obtain ⟨-, hflags⟩ := or_asperity_flags c.cur.flags
  unfold RxCfg.endSpan ChanU.course
  by_cases hlen : c.cur.taSpans.length < 4 <;> by_cases hlong : 64 * k.taMax < bit - start <;> cases readerB <;>
    simp only [hlen, hlong, hflags, if_true, if_false, Bool.false_eq_true]

theorem RxCfg.asperity_course (k : RxCfg) (readerB : Bool) (x : Int) (c : ChanU) : (k.asperity readerB x c).course = c.course := by
  obtain ⟨hflags, -⟩ := or_asperity_flags c.cur.flags
  unfold RxCfg.asperity
  split
  · rfl
  extract_lets est far run within old r c' bit other
  have hc : c'.course = c.course := rfl
  have hflagged : ({ c with cur := c.cur.flag 3 } : ChanU).course = c.course :=
    congrArg (fun x => { c.course with cur := { c.course.cur with flags := x } }) hflags
  split
  · split
    · cases readerB <;> exact hflagged
    · exact hc
  · split
    · exact (k.endSpan_course readerB _ bit c').trans hc
    · exact hc

theorem RxCfg.step_course (k : RxCfg) (x : Int × Int) (c : ChanU) : (k.step x c).course = c.course := by
  unfold RxCfg.step
  extract_lets useA useB b ph frozen gA gB z add first pre old
  split
  extract_lets r c1 c2
  have hc1 : c1.course = c.course := rfl
  have hc2 : c2.course = c.course := by
    unfold c2
    split
    · exact (k.asperity_course false x.1 c1).trans hc1
    · exact hc1
  split
  · exact (k.asperity_course true x.2 c2).trans hc2
  · exact hc2

theorem RxCfg.take_course (k : RxCfg) (adc : List (Int × Int)) (c : ChanU) : (k.take adc c).course = c.course := by
  unfold RxCfg.take
  extract_lets as bs
  have hstart : ({ c with rx := { c.rx with started := 0 } } : ChanU).course = c.course := rfl
  rw [← hstart]
  generalize ({ c with rx := { c.rx with started := 0 } } : ChanU) = c0
  induction as.zip bs generalizing c0 with
  | nil => rfl
  | cons x xs ih => exact (ih _).trans (k.step_course x c0)

/-! ### What a request to commit leaves (R72, R74) -/

/-- A channel without its slots, its request and its reservation. -/
def ChanU.unasked (c : ChanU) : ChanU :=
  { c with asked := false, reserve := none, slotIx := none, slots := [], seqNo := 0, rx := { c.rx with admitAt := 0 },
           cur := { c.cur with seq := 0, state := 0, flags := c.cur.flags ||| 64 } }

theorem ChanU.unasked_has (c : ChanU) {k : Nat} (h : Nat.testBit 64 k = false) : c.unasked.cur.has k = c.cur.has k := RSlot.has_of_flags rfl h

/-- What an update keeps of the channel as it is, it keeps of each. -/
theorem State.updChan_chan_keeps_of {β : Type} (p : ChanU → β) {s : State} {k : Nat} (m : Nat) {f : ChanU → ChanU}
    (hf : p (f (s.chan k)) = p (s.chan k)) : p ((s.updChan k f).chan m) = p (s.chan m) := by
  by_cases hk : k = m
  · subst hk
    by_cases hlt : k < s.chans.length
    · rw [State.updChan_chan_self f hlt, hf]
    · have hout (t : State) (h : t.chans.length = s.chans.length) : t.chan k = ChanU.init :=
        List.getD_eq_default _ _ (by rw [h]; exact Nat.not_lt.1 hlt)
      rw [hout s rfl, hout _ (State.updChan_length s k f)]
  · rw [State.updChan_chan_ne s f hk]

theorem State.rchBit_chans (s : State) (n : Nat) (f : Nat → Fld) : (s.rchBit n f).chans = s.chans := State.raiseBit_chans _ _ _

theorem State.putSlot_chans (s : State) (n i : Nat) : (s.putSlot n i).chans = s.chans :=
  (State.putSlot_kept (subMask_refl _) (Kept.refl _ s)).chans_ rfl

theorem State.storeStaged_chans (s : State) (n i : Nat) : (s.storeStaged n i).chans = s.chans :=
  (State.storeStaged_kept (subMask_refl _) (Kept.refl _ s)).chans_ rfl

theorem State.takeSlot_unasked (s : State) (n m : Nat) : ((s.takeSlot n).chan m).unasked = (s.chan m).unasked := by
  unfold State.takeSlot
  extract_lets depth c slots i old cur t0 t
  split
  · rfl
  · have ht : (t.putSlot n i).chans = t0.chans := (State.putSlot_chans _ _ _).trans (State.wrs_chans _ _)
    rw [State.chan_congr ht]
    exact State.updChan_chan_keeps_of ChanU.unasked m rfl

theorem State.notRetained_unasked (s : State) (n m : Nat) : ((s.notRetained n).chan m).unasked = (s.chan m).unasked := by
  have hchans : (s.notRetained n).chans = (s.updCur n (fun d => { d with state := 3 })).chans := State.rchBit_chans _ _ _
  rw [State.chan_congr hchans]
  exact State.updChan_chan_keeps ChanU.unasked _ _ _ fun _ => rfl

theorem State.askCommit_unasked (s : State) (n m : Nat) : ((s.askCommit n).chan m).unasked = (s.chan m).unasked := by
  unfold State.askCommit
  extract_lets c s1 own others t
  have hs1 : (s1.chan m).unasked = (s.chan m).unasked := State.updChan_chan_keeps ChanU.unasked _ _ _ fun _ => rfl
  have ht : (t.chan m).unasked = (s1.chan m).unasked := by
    refine State.updChan_chan_keeps ChanU.unasked _ _ _ fun c => ?_
    simp only [ChanU.unasked, RSlot.flag, Nat.or_assoc]
    rfl
  split
  · rfl
  split
  · exact (State.notRetained_unasked _ _ _).trans hs1
  split
  · exact ht.trans hs1
  · rw [State.chan_congr (State.storeStaged_chans _ _ _), State.takeSlot_unasked, ht, hs1]

theorem State.flagAsk_unasked (s : State) (n m : Nat) : ((s.flagAsk n).chan m).unasked = (s.chan m).unasked := by
  unfold State.flagAsk
  split
  · rfl
  · exact State.askCommit_unasked s n m

/-- What does not hang on slots and requests is as before a flag's request. -/
theorem State.flagAsk_keeps {β : Type} (p : ChanU → β) (hask : ∀ c, p c.unasked = p c) (s : State) (n m : Nat) :
    p ((s.flagAsk n).chan m) = p (s.chan m) := by
  rw [← hask, State.flagAsk_unasked, hask]

/-- Out of selective mode no flag asks (R74). -/
theorem State.flagAsk_of_retaining {s : State} {n : Nat} (h : (s.chan n).selective = false) : s.flagAsk n = s := by
  simp only [State.flagAsk, State.askCommit, h, Bool.not_false, Bool.true_or, if_true, ite_self]

/-! ### The samples taken (R53, R68) -/

/-- The channel after its front end has taken the ADC codes of a stretch. -/
def State.sampled (s : State) (n : Nat) (adc : List (Byte × Byte)) : ChanU :=
  (s.rxCfg n).take (adc.map (fun e => (e.1.toInt, e.2.toInt))) (s.chan n)

/-- The state with the samples taken and the retained ones stored. -/
def State.stored (s : State) (n : Nat) (adc : List (Byte × Byte)) : State :=
  (s.updChan n ((s.rxCfg n).take (adc.map (fun e => (e.1.toInt, e.2.toInt))))).storeStaged n (s.chan n).rx.stage.length

/-- Asperities that start set TA and count (R68). -/
def State.countAsperities (s : State) (n k : Nat) : State :=
  s.forEach (List.range k) (fun _ t => (t.rchBit n RCH_STATUS.TA).inc (RCH_EVT_CNT.TA n))

theorem State.lt_of_course {s : State} {n : Nat} (h : (s.chan n).fsm ≠ .idle) : n < s.chans.length :=
  State.lt_of_chan_ne fun hinit => h (congrArg ChanU.fsm hinit)

theorem State.stored_chan {s : State} {n : Nat} (adc : List (Byte × Byte)) (h : n < s.chans.length) : (s.stored n adc).chan n = s.sampled n adc :=
  (State.chan_congr (State.storeStaged_chans _ _ _) n).trans (State.updChan_chan_self _ h)

theorem State.countAsperities_chans (s : State) (n k : Nat) : (s.countAsperities n k).chans = s.chans :=
  State.forEach_keeps State.chans s _ _ fun _ _ => State.rchBit_chans _ _ _

theorem State.feed_of_course {s : State} {n : Nat} (adc : List (Byte × Byte)) (h : (s.chan n).fsm ≠ .idle) :
    s.feed n adc = if (s.sampled n adc).rx.started = 0 then (s.stored n adc).countAsperities n (s.sampled n adc).rx.started
      else ((s.stored n adc).countAsperities n (s.sampled n adc).rx.started).flagAsk n := by
  have hstored := State.stored_chan adc (State.lt_of_course h)
  unfold State.stored at hstored
  simp only [State.feed, h, if_false, hstored]
  rfl

/-- What hangs on no slot and no request is the front end's. -/
theorem State.feed_chan {β : Type} (p : ChanU → β) (hask : ∀ c, p c.unasked = p c) {s : State} {n : Nat} (adc : List (Byte × Byte))
    (h : (s.chan n).fsm ≠ .idle) : p ((s.feed n adc).chan n) = p (s.sampled n adc) := by
  have hcount := (State.chan_congr (State.countAsperities_chans (s.stored n adc) n (s.sampled n adc).rx.started) n).trans
    (State.stored_chan adc (State.lt_of_course h))
  rw [State.feed_of_course adc h]
  split
  · rw [hcount]
  · rw [State.flagAsk_keeps p hask, hcount]

/-- What hangs neither on the front end nor on a request is as before the samples. -/
theorem State.feed_keeps {β : Type} (p : ChanU → β) (hcourse : ∀ c, p c.course = p c) (hask : ∀ c, p c.unasked = p c) (s : State) (n : Nat)
    (adc : List (Byte × Byte)) : p ((s.feed n adc).chan n) = p (s.chan n) := by
  by_cases h : (s.chan n).fsm = .idle
  · simp only [State.feed, h, if_true]
  · rw [State.feed_chan p hask adc h, ← hcourse, State.sampled, RxCfg.take_course, hcourse]

/-- Out of selective mode this holds of slots and requests too. -/
theorem State.feed_keeps_of_retaining {β : Type} (p : ChanU → β) (hcourse : ∀ c, p c.course = p c) {s : State} {n : Nat} (adc : List (Byte × Byte))
    (hsel : (s.chan n).selective = false) : p ((s.feed n adc).chan n) = p (s.chan n) := by
  by_cases h : (s.chan n).fsm = .idle
  · simp only [State.feed, h, if_true]
  have htake (q : ChanU → Bool) (hq : ∀ c, q c.course = q c) : q (s.sampled n adc) = q (s.chan n) := by
    rw [← hq, State.sampled, RxCfg.take_course, hq]
  have hcount := (State.chan_congr (State.countAsperities_chans (s.stored n adc) n (s.sampled n adc).rx.started) n).trans
    (State.stored_chan adc (State.lt_of_course h))
  have hask : ((s.stored n adc).countAsperities n (s.sampled n adc).rx.started).flagAsk n =
      (s.stored n adc).countAsperities n (s.sampled n adc).rx.started :=
    State.flagAsk_of_retaining (by rw [hcount, htake ChanU.selective fun _ => rfl, hsel])
  rw [State.feed_of_course adc h, hask, ite_self, hcount, ← hcourse, State.sampled, RxCfg.take_course, hcourse]

end Sys2Proof.Machine
end

