-- ==== Sys2Proof/Proofs/RaiseCounts.lean ====
section
/-! What a raise counts (R457). -/

namespace Sys2Proof.Machine
open Reg

/-! ### A raise counts at its source (R457) -/

/-- The counters of the sources. -/
def State.srcCnt (s : State) : Sparse Nat := s.watch.srcCnt

theorem State.when_keeps {β : Type} (p : State → β) (s : State) (b : Bool) {f : State → State} (h : ∀ t, p (f t) = p t) : p (s.when b f) = p s := by
  cases b
  · rfl
  · exact h s

theorem State.srcCnt_congr {s t : State} (h : t.watch = s.watch) : t.srcCnt = s.srcCnt := congrArg WatchU.srcCnt h

theorem State.raiseBit_srcCnt (s : State) (f : Fld) (en : Nat) : (s.raiseBit f en).srcCnt = s.srcCnt :=
  State.when_keeps State.srcCnt (s.setB f) _ fun _ => rfl

theorem State.injDone_srcCnt (s : State) : s.injDone.srcCnt = s.srcCnt := State.raiseBit_srcCnt _ _ _

theorem State.capture_srcCnt (s : State) (c src : Nat) (x : RaiseCtx) : (s.capture c src x).srcCnt = s.srcCnt :=
  State.srcCnt_congr ((State.capture_kept (subMask_refl _) (Kept.refl _ s)).watch_ rfl)

theorem State.wlogItem_srcCnt (s : State) (src cls detail : Nat) : (s.wlogItem src cls detail).srcCnt = s.srcCnt := by
  unfold State.wlogItem
  split
  · rfl
  split
  · rfl
  split
  · exact State.raiseBit_srcCnt (s.updWatch _) _ _
  · rfl

theorem State.updWatch_wr_inc_srcCnt (s : State) {f : WatchU → WatchU} (g : Fld) (x : Nat) (h : Fld) (hf : ∀ w, (f w).srcCnt = w.srcCnt) :
    (((s.updWatch f).wr g x).inc h).srcCnt = s.srcCnt := hf s.watch

theorem State.logRec_srcCnt (s : State) (typ source cls detail : Nat) (injected : Bool) (suppressed : Nat) :
    (s.logRec typ source cls detail injected suppressed).srcCnt = s.srcCnt := by
  unfold State.logRec
  extract_lets snap numbered r snapNext ring
  split
  · exact State.updWatch_wr_inc_srcCnt s _ _ _ fun _ => rfl
  · rfl

theorem State.logSource_srcCnt (s : State) (src cls detail : Nat) (injected : Bool) : (s.logSource src cls detail injected).srcCnt = s.srcCnt := by
  unfold State.logSource
  split
  extract_lets fresh
  split
  · exact State.logRec_srcCnt _ _ _ _ _ _ _
  split
  · exact State.logRec_srcCnt _ _ _ _ _ _ _
  · rfl

theorem State.faultNPulse_srcCnt (s : State) : s.faultNPulse.srcCnt = s.srcCnt :=
  State.srcCnt_congr ((State.faultNPulse_kept (subMask_refl _) (Kept.refl _ s)).watch_ rfl)

theorem State.msixSend_srcCnt (s : State) (v : Nat) : (s.msixSend v).srcCnt = s.srcCnt :=
  State.srcCnt_congr ((State.msixSend_kept (subMask_refl _) (Kept.refl _ s)).watch_ rfl)

theorem State.setMode_srcCnt (s : State) (m : Mode) : (s.setMode m).srcCnt = s.srcCnt := by
  unfold State.setMode
  extract_lets t0 t
  split
  · rfl
  · have ht : t.srcCnt = s.srcCnt := State.when_keeps State.srcCnt t0 _ fun _ => rfl
    exact (State.logRec_srcCnt _ _ _ _ _ _ _).trans ht

theorem State.unitFaultMode_srcCnt (s : State) (fences : Bool) : (s.unitFaultMode fences).srcCnt = s.srcCnt := by
  unfold State.unitFaultMode
  split
  · rfl
  split
  · exact State.setMode_srcCnt _ _
  split <;> rfl

theorem State.countRaise_srcCnt (s : State) (src cls : Nat) :
    sparseGet 0 (s.countRaise src cls).srcCnt src = min 65535 (sparseGet 0 s.srcCnt src + 1) :=
  (sparseGet_set_self 0 s.srcCnt src _).trans (min_comm _ _)

/-- A raise of a source that there is counts it, whatever else the Watch does about it. -/
theorem State.raiseSrc_srcCnt {s : State} {src : Nat} (x : RaiseCtx) (hclass : (defaultClass? src).isNone = false)
    (hpresent : s.srcPresent src = true) : sparseGet 0 (s.raiseSrc src x).srcCnt src = min 65535 (sparseGet 0 s.srcCnt src + 1) := by
  unfold State.raiseSrc
  extract_lets inj s1 x1 cfg cls t t1 t2 t3 t4 t5 t6 t7 t8 t9
  have hs1 : s1.srcCnt = s.srcCnt := by
    unfold s1
    split
    · exact State.injDone_srcCnt s
    · rfl
  have ht : sparseGet 0 t.srcCnt src = min 65535 (sparseGet 0 s.srcCnt src + 1) := hs1 ▸ State.countRaise_srcCnt s1 src cls
  simp only [hclass, hpresent, Bool.not_true, Bool.or_self, Bool.false_eq_true, if_false]
  split
  · exact ht
  have hlogged : t4.srcCnt = t.srcCnt := calc
    t4.srcCnt = t3.srcCnt := State.when_keeps State.srcCnt t3 _ fun u => State.logSource_srcCnt u _ _ _ _
    _ = t2.srcCnt := State.wlogItem_srcCnt t2 _ _ _
    _ = t1.srcCnt := State.raiseBit_srcCnt t1 _ _
    _ = t.srcCnt := State.capture_srcCnt t _ _ _
  have htold : t9.srcCnt = t4.srcCnt := calc
    t9.srcCnt = t8.srcCnt := State.when_keeps State.srcCnt t8 _ fun u => State.unitFaultMode_srcCnt u _
    _ = t7.srcCnt := State.when_keeps State.srcCnt t7 _ fun u => State.msixSend_srcCnt u _
    _ = t6.srcCnt := State.when_keeps State.srcCnt t6 _ fun _ => rfl
    _ = t5.srcCnt := State.when_keeps State.srcCnt t5 _ State.faultNPulse_srcCnt
    _ = t4.srcCnt := State.when_keeps State.srcCnt t4 _ fun _ => rfl
  refine (congrArg (fun l => sparseGet 0 l src) (State.when_keeps State.srcCnt t9 (cls == 4) fun _ => ?_)).trans ?_
  · rfl
  · exact (congrArg (fun l => sparseGet 0 l src) (htold.trans hlogged)).trans ht

end Sys2Proof.Machine
end

