-- ==== Sys2Proof/Proofs/ReadChannelSector.lean ====
section
/-! A read channel through one sector, command by command (O33). -/

namespace Sys2Proof.Machine
open Reg

/-! ### Registers that samples and flags leave -/

/-- What changes none of a list of registers of each channel leaves their fields. -/
theorem Kept.rd_listed {w : Nat} {s t : State} (h : Kept w s t) {l : Chan → List Nat} (hl : ∀ k, (l k).all (maskClear w) = true) (n : Chan) {f : Fld}
    (hf : f.addr ∈ l n) : t.rd f = s.rd f := h.rd_keep (List.all_eq_true.1 (hl n) _ hf)

/-- Settings of a channel, with its count of sectors and the setting of the ring. -/
def sectorSettings (n : Chan) : List Nat := [RCH_SYNC_CFG n, RCH_DET_CFG n, RCH_SECT_CNT n, RCH_RET_CFG]

theorem State.feed_rd (s : State) (n : Chan) (adc : List (Byte × Byte)) {f : Fld} (h : f.addr ∈ sectorSettings n) : (s.feed n adc).rd f = s.rd f :=
  (State.feed_kept (subMask_refl _) (Kept.refl _ s)).rd_listed (l := sectorSettings) (by decide +kernel) n h

/-- A setting taken is the same while the channel keeps what it took and the register stands. -/
theorem State.cfgRd_congr {s t : State} {n : Nat} {f : Fld} (htaken : (t.chan n).cfgIn = (s.chan n).cfgIn) (hrd : t.rd f = s.rd f) :
    t.cfgRd n f = s.cfgRd n f := by
  simp only [State.cfgRd, htaken, hrd]

theorem State.feed_cfgRd (s : State) (n : Chan) (adc : List (Byte × Byte)) {f : Fld} (h : f.addr ∈ sectorSettings n) :
    (s.feed n adc).cfgRd n f = s.cfgRd n f :=
  State.cfgRd_congr (State.feed_keeps ChanU.cfgIn (fun _ => rfl) (fun _ => rfl) s n adc) (State.feed_rd s n adc h)

/-- The flags and counters of a channel that a request to commit leaves: all but NOT_RETAINED. -/
def chanFlags (n : Nat) : List Fld := [RCH_STATUS.PRIMARY_MISS n, RCH_STATUS.TA n, RCH_STATUS.LOL n, RCH_EVT_CNT.TA n, RCH_EVT_CNT.LOL n]

theorem chanFlags_addr {n : Nat} {f : Fld} (h : f ∈ chanFlags n) : f.addr ∈ [RCH_STATUS n, RCH_EVT_CNT n] := by
  simp only [chanFlags, List.mem_cons, List.not_mem_nil, or_false] at h
  rcases h with rfl | rfl | rfl | rfl | rfl <;> simp [RCH_STATUS.PRIMARY_MISS, RCH_STATUS.TA, RCH_STATUS.LOL, RCH_EVT_CNT.TA, RCH_EVT_CNT.LOL]

/-- NOT_RETAINED and its counters lie apart from them. -/
theorem chanFlags_apart {n : Nat} {f : Fld} (hn : n < 28) (h : f ∈ chanFlags n) : (RCH_STATUS.NOT_RETAINED n).apart f = true ∧
    (RCH_EVT_CNT.NOT_RETAINED n).apart f = true ∧ RCH_SEL_CNT.NOT_RETAINED.apart f = true := by
  have hall : ∀ k : Chan, ∀ g ∈ chanFlags k, (RCH_STATUS.NOT_RETAINED k).apart g = true ∧ (RCH_EVT_CNT.NOT_RETAINED k).apart g = true ∧
      RCH_SEL_CNT.NOT_RETAINED.apart g = true := by decide
  exact hall ⟨n, hn⟩ f h

theorem State.rchBit_rd (s : State) (n : Nat) (f : Nat → Fld) (g : Fld) : (s.rchBit n f).rd g = (s.wr (f n) 1).rd g :=
  congrArg (fun r => getF r _ _) (State.raiseBit_reg s (f n) _ _)

theorem State.rchBit_rd_apart (s : State) (n : Nat) (f : Nat → Fld) (g : Fld) (hok : (f n).ok = true) (h : (f n).apart g = true) :
    (s.rchBit n f).rd g = s.rd g := (State.rchBit_rd s n f g).trans (State.rd_wr_apart s _ g 1 hok h)

section
variable {f : Fld} (s : State) (n : Chan)

theorem State.notRetained_chanFlag (hf : f ∈ chanFlags n) : (s.notRetained n).rd f = s.rd f := by
  obtain ⟨hbit, hevt, hsel⟩ := chanFlags_apart n.isLt hf
  exact (State.rd_wr_apart _ _ f _ rfl hsel).trans ((State.rd_wr_apart _ _ f _ rfl hevt).trans (State.rchBit_rd_apart _ n _ f rfl hbit))

theorem State.takeSlot_chanFlag (hf : f ∈ chanFlags n) : (s.takeSlot n).rd f = s.rd f :=
  (State.takeSlot_kept (subMask_refl _) (Kept.refl _ s)).rd_listed (l := fun k => [RCH_STATUS k, RCH_EVT_CNT k]) (by decide +kernel) n
    (chanFlags_addr hf)

theorem State.storeStaged_chanFlag (i : Nat) (hf : f ∈ chanFlags n) : (s.storeStaged n i).rd f = s.rd f :=
  (State.storeStaged_kept (subMask_refl _) (Kept.refl _ s)).rd_listed (l := fun k => [RCH_STATUS k, RCH_EVT_CNT k]) (by decide +kernel) n
    (chanFlags_addr hf)

theorem State.askCommit_chanFlag (hf : f ∈ chanFlags n) : (s.askCommit n).rd f = s.rd f := by
  unfold State.askCommit
  extract_lets c s1 own others t
  split
  · rfl
  split
  · exact State.notRetained_chanFlag s1 n hf
  split
  · rfl
  · rw [State.storeStaged_chanFlag _ _ _ hf, State.takeSlot_chanFlag _ _ hf]
    rfl

theorem State.flagAsk_chanFlag (hf : f ∈ chanFlags n) : (s.flagAsk n).rd f = s.rd f := by
  unfold State.flagAsk
  split
  · rfl
  · exact State.askCommit_chanFlag s n hf

end

/-! ### RETENTION_COMMIT_START (R72, R73) -/

theorem ringPick_lt (held : Nat → Bool) {depth : Nat} (h : 0 < depth) (fuel i : Nat) : ringPick held depth fuel i < depth := by
  induction fuel generalizing i with
  | zero => exact Nat.mod_lt _ h
  | succ fuel ih =>
    unfold ringPick
    split
    · exact ih _
    · exact Nat.mod_lt _ h

theorem State.rd_lt (s : State) (f : Fld) : s.rd f < 2 ^ (f.hi + 1 - f.lo) := Nat.mod_lt _ (Nat.two_pow_pos _)

/-- A slot taken: one of the ring, with the sector's sequence number, FILLING, and NEXT is behind it. -/
theorem State.takeSlot_shown {s : State} {n : Nat} (hn : n < s.chans.length) (hdepth : s.rd RCH_RET_CFG.DEPTH ≠ 0) :
    ∃ i slots, i < s.rd RCH_RET_CFG.DEPTH ∧ (s.takeSlot n).rd (RCH_RET_PTR.NEXT n) = (i + 1) % s.rd RCH_RET_CFG.DEPTH ∧
      (s.takeSlot n).chan n = { s.chan n with
        slots := slots, slotIx := some i, seqNo := ((s.chan n).seqNo + 1) % 2 ^ 32,
        cur := { (s.chan n).cur with seq := (s.chan n).seqNo % 2 ^ 32, state := 1 } } := by
  have hpos := Nat.pos_of_ne_zero hdepth
  have hwidth : s.rd RCH_RET_CFG.DEPTH < 16 := State.rd_lt s _
  unfold State.takeSlot
  extract_lets depth c slots i old cur t0 t
  rw [if_neg hdepth]
  have hnext : t.rd (RCH_RET_PTR.NEXT n) = (i + 1) % depth :=
    (State.rd_wr_bits _ _ _ _ rfl (.inr (by show 3 < 4; decide))).trans ((State.rd_wr_self _ _ _ rfl).trans
      (Nat.mod_eq_of_lt ((Nat.mod_lt _ hpos).trans hwidth)))
  have hregs : (t.putSlot n i).regs = t.regs := (State.putSlot_kept (subMask_refl _) (Kept.refl _ t)).regs_ rfl |>.trans rfl
  refine ⟨i, listSet slots i cur, ringPick_lt _ hpos _ _, (State.rd_congr hregs _).trans hnext, ?_⟩
  rw [State.chan_congr ((State.putSlot_chans _ _ _).trans (State.wrs_chans _ _))]
  exact State.updChan_chan_self _ hn

/-- RETENTION_COMMIT_START of a working channel that acquires, out of selective mode. -/
theorem retentionCommitStart_completes {n : Chan} {adc : List (Byte × Byte)} {s : State} (hfsm : (s.chan n).fsm = .acquire)
    (hshadow : s.isShadow n = false) (hret : s.on RCH_RET_CFG.RET_EN = true) (hsel : (s.chan n).selective = false)
    (hdepth : s.rd RCH_RET_CFG.DEPTH ≠ 0) :
    completes (.retentionCommitStart n adc) s (fun t => ∃ i, i < s.rd RCH_RET_CFG.DEPTH ∧ (t.chan n).slotIx = some i ∧
      t.rd (RCH_RET_PTR.NEXT n) = (i + 1) % s.rd RCH_RET_CFG.DEPTH ∧ (t.chan n).cur.seq = (s.chan n).seqNo % 2 ^ 32 ∧
      (t.chan n).cur.trSnap = ((s.feed n adc).chan n).trStat ∧ (t.chan n).cur.state = 1 ∧ (t.chan n).rx.commit = true ∧
      (t.chan n).fsm = .acquire) := by
  have hfsm' : ((s.feed n adc).chan n).fsm = .acquire := (State.feed_keeps ChanU.fsm (fun _ => rfl) (fun _ => rfl) s n adc).trans hfsm
  have hseq := State.feed_keeps_of_retaining ChanU.seqNo (fun _ => rfl) adc hsel
  have hn : n < (s.feed n adc).chans.length := State.lt_of_course (by rw [hfsm']; decide)
  let committing := (s.feed n adc).updChan n (fun c => { c with
    cur := { c.cur with trSnap := c.trStat, fragOff := [0], note := { c.cur.note with baseA := c.rx.baseA, baseB := c.rx.baseB } },
    rx := { c.rx with commit := true, stage := [], fragAt := 0 } })
  have hexec : execRetentionCommitStart n adc s = .next (committing.takeSlot n) := by
    simp only [execRetentionCommitStart, hfsm, hshadow, hret, hsel, Bool.not_true, Bool.or_self, Bool.false_eq_true, if_false]
    rfl
  have hdepth' : committing.rd RCH_RET_CFG.DEPTH = s.rd RCH_RET_CFG.DEPTH := State.feed_rd s n adc (by simp [sectorSettings, RCH_RET_CFG.DEPTH])
  obtain ⟨i, slots, hi, hnext, hchan⟩ :=
    State.takeSlot_shown (s := committing) (n := n) (hn.trans_eq (State.updChan_length _ _ _).symm) (hdepth' ▸ hdepth)
  rw [hdepth'] at hi hnext
  rw [State.updChan_chan_self _ hn] at hchan
  refine ⟨_, hexec, i, hi, ?_⟩
  rw [hchan]
  exact ⟨rfl, hnext, congrArg (· % 2 ^ 32) hseq, rfl, rfl, rfl, hfsm'⟩

/-! ### SYNC_SEARCH_START and SYNC_WINDOW_END (R59, R60, R62) -/

theorem syncSearchStart_completes {n : Chan} {adc : List (Byte × Byte)} {s : State} (h : (s.chan n).fsm = .acquire ∨ (s.chan n).fsm = .fragAcq) :
    completes (.syncSearchStart n adc) s (fun t =>
      (t.chan n).fsm = (if (s.chan n).fsm = .acquire then .searchP else if (s.chan n).cur.has 1 then .nosync else .searchF)) := by
  have hfsm := State.feed_keeps ChanU.fsm (fun _ => rfl) (fun _ => rfl) s n adc
  have hnosync := State.feed_keeps (fun c => c.cur.has 1) (fun c => c.course_has rfl) (fun c => c.unasked_has rfl) s n adc
  have hn : n < (s.feed n adc).chans.length := State.lt_of_course (by rw [hfsm]; rcases h with h | h <;> rw [h] <;> decide)
  refine ⟨_, rfl, ?_⟩
  show (State.chan (State.updChan _ _ _) n).fsm = _
  rw [State.updChan_chan_self _ hn]
  rcases h with h | h <;> simp only [hfsm, hnosync, h, if_true, if_false, reduceCtorEq]

/-- A buffer taken changes only which buffer the channel has. -/
theorem State.takeBuf_keeps {β : Type} (p : ChanU → β) (hbuf : ∀ c b, p { c with buf := b } = p c) (s : State) (n m : Nat) :
    p ((s.takeBuf n).chan m) = p (s.chan m) := by
  unfold State.takeBuf
  split
  · rfl
  split
  · rfl
  split
  · exact congrArg p (State.chan_congr (State.raiseBit_chans _ _ _) m)
  · exact State.updChan_chan_keeps p _ _ _ fun c => hbuf c _

theorem State.flagAsk_fsm (s : State) (n m : Nat) : ((s.flagAsk n).chan m).fsm = (s.chan m).fsm := State.flagAsk_keeps ChanU.fsm (fun _ => rfl) s n m

/-- A search that ends without a mark leaves the channel without sync; PRIMARY_MISS stands. -/
theorem State.toNosync_shown {s : State} {n : Chan} (hn : n < s.chans.length) :
    ((s.toNosync n).chan n).fsm = .nosync ∧ (s.toNosync n).rd (RCH_STATUS.PRIMARY_MISS n) = s.rd (RCH_STATUS.PRIMARY_MISS n) := by
  have hsync : RCH_STATUS n ≠ RCH_SYNC_CNT n := by unfold RCH_STATUS RCH_SYNC_CNT; omega
  unfold State.toNosync
  extract_lets t
  refine ⟨?_, ?_⟩
  · rw [State.flagAsk_fsm]
    exact (congrArg ChanU.fsm (State.chan_congr (State.rchBit_chans t n _) n)).trans (congrArg ChanU.fsm (State.updChan_chan_self _ hn))
  · rw [State.flagAsk_chanFlag _ _ (by simp [chanFlags])]
    exact (State.rd_wr_addr _ _ _ _ hsync).trans
      (State.rchBit_rd_apart t n RCH_STATUS.NO_SYNC _ rfl (by simp [Fld.apart, RCH_STATUS.NO_SYNC, RCH_STATUS.PRIMARY_MISS]))

section
variable {n : Chan} {adc : List (Byte × Byte)} {s : State}

/-- The state after the primary search's samples, with its earliest best position noted (R59). -/
def State.bestNoted (s : State) (n : Nat) (adc : List (Byte × Byte)) (bits : BitVec 72) : State :=
  let best := bestOf (windowDistances bits.toNat (patternOf (s.chan n).marks 0)) 16 (16, 256)
  (s.feed n adc).updCur n (fun d => { d with bestPos := best.1, bestDist := best.2 })

theorem State.bestNoted_keeps {β : Type} (p : ChanU → β) (hcourse : ∀ c, p c.course = p c) (hask : ∀ c, p c.unasked = p c)
    (hbest : ∀ c x y, p { c with cur := { c.cur with bestPos := x, bestDist := y } } = p c) (s : State) (n : Nat) (adc : List (Byte × Byte))
    (bits : BitVec 72) : p ((s.bestNoted n adc bits).chan n) = p (s.chan n) :=
  (State.updChan_chan_keeps p _ _ _ fun c => hbest c _ _).trans (State.feed_keeps p hcourse hask s n adc)

theorem State.lt_of_bestNoted (bits : BitVec 72) (h : (s.chan n).fsm ≠ .idle) : n < (s.bestNoted n adc bits).chans.length :=
  State.lt_of_course (by rwa [State.bestNoted_keeps ChanU.fsm (fun _ => rfl) (fun _ => rfl) (fun _ _ _ => rfl)])

/-- The channel that has found its primary mark at position `p`, at distance `x` (R59, R60). -/
def ChanU.found (c : ChanU) (rescue : BitVec 40) (p x : Nat) : ChanU :=
  { c with fsm := .data, cur := { c.cur with
      syncPos := p, primaryDist := x, rescueDist := markDistance rescue.toNat (patternOf c.marks 1),
      note := { c.cur.note with fragPos := listSet c.cur.note.fragPos 0 p } } }

/-- The state that has missed the primary mark (R60). -/
def State.missed (t : State) (n : Nat) : State := ((t.updCur n (fun d => d.flag 0)).rchBit n RCH_STATUS.PRIMARY_MISS).flagAsk n

theorem State.missed_keeps {β : Type} (p : ChanU → β) (hflag : ∀ c, p { c with cur := c.cur.flag 0 } = p c) (hask : ∀ c, p c.unasked = p c)
    (t : State) (n m : Nat) : p ((t.missed n).chan m) = p (t.chan m) := by
  rw [State.missed, State.flagAsk_keeps p hask, State.chan_congr (State.rchBit_chans _ _ _)]
  exact State.updChan_chan_keeps p _ _ _ hflag

theorem State.missed_primaryMiss (t : State) (n : Chan) : (t.missed n).rd (RCH_STATUS.PRIMARY_MISS n) = 1 := by
  rw [State.missed, State.flagAsk_chanFlag _ _ (by simp [chanFlags]), State.rchBit_rd]
  exact State.rd_wr_self _ _ _ rfl

/-- The primary search of a channel after its samples. -/
theorem execSyncWindowEnd_of_searchP (bits : BitVec 72) (rescue : BitVec 40) (h : (s.chan n).fsm = .searchP) :
    execSyncWindowEnd n adc bits rescue s = .next (
      match firstWithin (s.cfgRd n (RCH_SYNC_CFG.SYNC_TOL n)) (windowDistances bits.toNat (patternOf (s.chan n).marks 0)) 16 with
      | some (p, x) => ((s.bestNoted n adc bits).updChan n (fun c => c.found rescue p x)).takeBuf n
      | none =>
        if s.cfgRd n (RCH_SYNC_CFG.RESCUE_EN n) = 1 then ((s.bestNoted n adc bits).missed n).updChan n (fun c => { c with fsm := .searchR })
        else ((s.bestNoted n adc bits).missed n).toNosync n) := by
  have hfsm : ((s.feed n adc).chan n).fsm = .searchP := (State.feed_keeps ChanU.fsm (fun _ => rfl) (fun _ => rfl) s n adc).trans h
  have hmarks := State.feed_keeps ChanU.marks (fun _ => rfl) (fun _ => rfl) s n adc
  have htol := State.feed_cfgRd s n adc (f := RCH_SYNC_CFG.SYNC_TOL n) (by simp [sectorSettings, RCH_SYNC_CFG.SYNC_TOL])
  have hrescue : (s.bestNoted n adc bits).cfgRd n (RCH_SYNC_CFG.RESCUE_EN n) = s.cfgRd n (RCH_SYNC_CFG.RESCUE_EN n) :=
    State.cfgRd_congr (State.bestNoted_keeps ChanU.cfgIn (fun _ => rfl) (fun _ => rfl) (fun _ _ _ => rfl) s n adc bits)
      (State.feed_rd s n adc (by simp [sectorSettings, RCH_SYNC_CFG.RESCUE_EN]))
  simp only [State.bestNoted] at hrescue
  simp only [execSyncWindowEnd, hfsm, hmarks, htol, hrescue]
  rfl

/-- SYNC_WINDOW_END in the primary search. -/
theorem syncWindowEnd_completes (bits : BitVec 72) (rescue : BitVec 40) (h : (s.chan n).fsm = .searchP) :
    completes (.syncWindowEnd n adc bits rescue) s (fun t =>
      match firstWithin (s.cfgRd n (RCH_SYNC_CFG.SYNC_TOL n)) (windowDistances bits.toNat (patternOf (s.chan n).marks 0)) 16 with
      | some (p, x) => (t.chan n).fsm = .data ∧ (t.chan n).cur.syncPos = p ∧ (t.chan n).cur.primaryDist = x
      | none => t.rd (RCH_STATUS.PRIMARY_MISS n) = 1 ∧
        (t.chan n).fsm = (if s.cfgRd n (RCH_SYNC_CFG.RESCUE_EN n) = 1 then .searchR else .nosync)) := by
  refine ⟨_, execSyncWindowEnd_of_searchP bits rescue h, ?_⟩
  have hnoted : n < (s.bestNoted n adc bits).chans.length := State.lt_of_bestNoted bits (by rw [h]; decide)
  have hmiss := (s.bestNoted n adc bits).missed_primaryMiss n
  have hn : n < ((s.bestNoted n adc bits).missed n).chans.length := State.lt_of_course (by
    rw [State.missed_keeps ChanU.fsm (fun _ => rfl) (fun _ => rfl),
      State.bestNoted_keeps ChanU.fsm (fun _ => rfl) (fun _ => rfl) (fun _ _ _ => rfl), h]
    decide)
  generalize firstWithin _ _ _ = first
  cases first with
  | some found =>
    obtain ⟨p, x⟩ := found
    have hkept := State.takeBuf_keeps (fun c => (c.fsm, c.cur.syncPos, c.cur.primaryDist)) (fun _ _ => rfl)
      ((s.bestNoted n adc bits).updChan n (fun c => c.found rescue p x)) n n
    rw [State.updChan_chan_self _ hnoted] at hkept
    simp only [Prod.mk.injEq] at hkept
    exact hkept
  | none =>
    dsimp only
    split
    · exact ⟨hmiss, congrArg ChanU.fsm (State.updChan_chan_self _ hn)⟩
    · obtain ⟨hfsm, hkept⟩ := State.toNosync_shown hn
      exact ⟨hkept.trans hmiss, hfsm⟩

end

/-! ### Thermal asperities (R68) -/

theorem State.countAsperity_count (s : State) (n : Nat) :
    ((s.rchBit n RCH_STATUS.TA).inc (RCH_EVT_CNT.TA n)).rd (RCH_EVT_CNT.TA n) = satU 8 (s.rd (RCH_EVT_CNT.TA n) + 1) := by
  have haddr : RCH_EVT_CNT n ≠ RCH_STATUS n := by unfold RCH_STATUS RCH_EVT_CNT; omega
  have hbit : (s.rchBit n RCH_STATUS.TA).rd (RCH_EVT_CNT.TA n) = s.rd (RCH_EVT_CNT.TA n) :=
    (State.rchBit_rd _ _ _ _).trans (State.rd_wr_addr _ _ _ _ haddr)
  rw [State.rd_inc_self _ _ rfl, hbit]
  rfl

theorem State.countAsperities_succ (s : State) (n k : Nat) :
    s.countAsperities n (k + 1) = ((s.countAsperities n k).rchBit n RCH_STATUS.TA).inc (RCH_EVT_CNT.TA n) := by
  simp only [State.countAsperities, State.forEach, List.range_succ, List.foldl_append, List.foldl_cons, List.foldl_nil]

theorem State.countAsperities_bit (s : State) (n k : Nat) : (s.countAsperities n (k + 1)).rd (RCH_STATUS.TA n) = 1 := by
  have haddr : RCH_STATUS n ≠ RCH_EVT_CNT n := by unfold RCH_STATUS RCH_EVT_CNT; omega
  rw [State.countAsperities_succ]
  exact (State.rd_wr_addr _ _ _ _ haddr).trans (State.rd_raiseBit_self _ _ _ rfl)

theorem State.countAsperities_count (s : State) (n k : Nat) :
    (s.countAsperities n (k + 1)).rd (RCH_EVT_CNT.TA n) = satU 8 (s.rd (RCH_EVT_CNT.TA n) + (k + 1)) := by
  rw [State.countAsperities_succ, State.countAsperity_count]
  induction k with
  | zero => rfl
  | succ k ih =>
    rw [State.countAsperities_succ, State.countAsperity_count, ih]
    unfold satU
    omega

/-- The asperities that the front end finds set TA and are counted. -/
theorem State.feed_asperities {s : State} {n : Chan} {adc : List (Byte × Byte)} (h : (s.chan n).fsm ≠ .idle) {k : Nat}
    (hk : (s.sampled n adc).rx.started = k + 1) :
    (s.feed n adc).rd (RCH_STATUS.TA n) = 1 ∧ (s.feed n adc).rd (RCH_EVT_CNT.TA n) = satU 8 (s.rd (RCH_EVT_CNT.TA n) + (k + 1)) := by
  have hstored : (s.stored n adc).rd (RCH_EVT_CNT.TA n) = s.rd (RCH_EVT_CNT.TA n) := State.storeStaged_chanFlag _ _ _ (by simp [chanFlags])
  rw [State.feed_of_course adc h, hk, if_neg k.succ_ne_zero]
  refine ⟨?_, ?_⟩
  · rw [State.flagAsk_chanFlag _ _ (by simp [chanFlags]), State.countAsperities_bit]
  · rw [State.flagAsk_chanFlag _ _ (by simp [chanFlags]), State.countAsperities_count, hstored]

/-- What the front end leaves of an asperity is what the channel then has: the spans under way and recorded, and the flags. -/
def ChanU.asperities (c : ChanU) : Option Nat × Option Nat × List (Nat × Nat) × Bool × Bool :=
  (c.taA, c.taB, c.cur.taSpans, c.cur.has 3, c.cur.has 4)

theorem ChanU.unasked_asperities (c : ChanU) : c.unasked.asperities = c.asperities := by
  simp only [ChanU.asperities, c.unasked_has (k := 3) rfl, c.unasked_has (k := 4) rfl]
  rfl

theorem thermalAsperityStart_completes {n : Chan} {adc : List (Byte × Byte)} {c : ChanU} {s : State} (h : (s.chan n).fsm ≠ .idle)
    (hc : s.sampled n adc = c) (hstarted : 0 < c.rx.started) :
    completes (.thermalAsperityStart n adc) s (fun t => t.rd (RCH_STATUS.TA n) = 1 ∧
      t.rd (RCH_EVT_CNT.TA n) = satU 8 (s.rd (RCH_EVT_CNT.TA n) + c.rx.started) ∧
      (t.chan n).taA = c.taA ∧ (t.chan n).taB = c.taB ∧ (t.chan n).cur.has 3 = c.cur.has 3) := by
  have hshown := State.feed_chan ChanU.asperities ChanU.unasked_asperities adc h
  rw [hc] at hshown
  simp only [ChanU.asperities, Prod.mk.injEq] at hshown
  obtain ⟨hA, hB, -, hflag, -⟩ := hshown
  obtain ⟨k, hk⟩ : ∃ k, c.rx.started = k + 1 := ⟨c.rx.started - 1, by omega⟩
  obtain ⟨hbit, hcount⟩ := State.feed_asperities h ((congrArg (fun u => u.rx.started) hc).trans hk)
  exact ⟨_, rfl, hbit, by rw [hk]; exact hcount, hA, hB, hflag⟩

theorem thermalAsperityEnd_completes {n : Chan} {adc : List (Byte × Byte)} {c : ChanU} {s : State} (h : (s.chan n).fsm ≠ .idle)
    (hc : s.sampled n adc = c) :
    completes (.thermalAsperityEnd n adc) s (fun t =>
      (t.chan n).taA = c.taA ∧ (t.chan n).taB = c.taB ∧ (t.chan n).cur.taSpans = c.cur.taSpans ∧ (t.chan n).cur.has 4 = c.cur.has 4) := by
  have hshown := State.feed_chan ChanU.asperities ChanU.unasked_asperities adc h
  rw [hc] at hshown
  simp only [ChanU.asperities, Prod.mk.injEq] at hshown
  obtain ⟨hA, hB, hspans, -, hlong⟩ := hshown
  exact ⟨_, rfl, hA, hB, hspans, hlong⟩

/-! ### LOSS_OF_LOCK (R57) -/

theorem lossOfLock_completes {n : Chan} {errs : List Int} {s : State} (hfsm : (s.chan n).fsm ≠ .idle) (hflag : (s.chan n).cur.has 5 = false)
    (hlen : errs.length = 256) (hsum : 256 * s.cfgRd n (RCH_TR_CFG.LOCK_THRESH n) < errs.foldl (fun a e => a + e.natAbs) 0) :
    completes (.lossOfLock n errs) s (fun t => t.rd (RCH_STATUS.LOL n) = 1 ∧ (t.chan n).cur.has 5 = true ∧
      t.rd (RCH_EVT_CNT.LOL n) = satU 8 (s.rd (RCH_EVT_CNT.LOL n) + 1)) := by
  let flagged := s.updCur n (fun d => d.flag 5)
  let counted := (flagged.rchBit n RCH_STATUS.LOL).inc (RCH_EVT_CNT.LOL n)
  have hexec : execLossOfLock n errs s = .next (counted.flagAsk n) := by
    simp only [execLossOfLock, hfsm, hflag, hlen, Nat.not_le.2 hsum, ne_eq, not_true_eq_false, Bool.false_eq_true, or_self, if_false]
    rfl
  have haddr : RCH_STATUS n ≠ RCH_EVT_CNT n := by unfold RCH_STATUS RCH_EVT_CNT; omega
  have hcount : (flagged.rchBit n RCH_STATUS.LOL).rd (RCH_EVT_CNT.LOL n) = s.rd (RCH_EVT_CNT.LOL n) :=
    (State.rchBit_rd _ _ _ _).trans (State.rd_wr_addr _ _ _ _ haddr.symm)
  have hchan : counted.chan n = { s.chan n with cur := (s.chan n).cur.flag 5 } :=
    (State.chan_congr (State.rchBit_chans flagged n _) n).trans (State.updChan_chan_self _ (State.lt_of_course hfsm))
  refine ⟨_, hexec, ?_, ?_, ?_⟩
  · rw [State.flagAsk_chanFlag _ _ (by simp [chanFlags])]
    exact (State.rd_wr_addr _ _ _ _ haddr).trans (State.rd_raiseBit_self _ _ _ rfl)
  · rw [State.flagAsk_keeps (fun c => c.cur.has 5) (fun c => c.unasked_has rfl), hchan]
    exact RSlot.flag_has_self _ _
  · rw [State.flagAsk_chanFlag _ _ (by simp [chanFlags]), ← hcount]
    exact State.rd_inc_self _ _ rfl

/-! ### SELECTIVE_MODE_ENTER (R74) -/

theorem selectiveModeEnter_completes {n : Chan} {s : State} (hcause : s.on RCH_RET_STAT.PLANE_CAUSE = true ∨ s.on RCH_RET_CFG.FORCE_SEL = true)
    (hsel : (s.chan n).selective = false) (hpresent : s.chanPresent n = true) (hlen : s.chans.length = 28) :
    completes (.selectiveModeEnter n) s (fun t => (t.chan n).selective = true ∧ t.rd RCH_RET_STAT.MODE = 1) := by
  let entered := s.updChan n (fun c => { c with selective := true })
  let noted := entered.when (!entered.on RCH_RET_STAT.MODE) (fun t => t.setB RCH_GSTATUS.MODE_CHANGE)
  have hcause' : (s.on RCH_RET_STAT.PLANE_CAUSE || s.on RCH_RET_CFG.FORCE_SEL) = true := (Bool.or_eq_true _ _).mpr hcause
  have hexec : execSelectiveModeEnter n s = .next (noted.setB RCH_RET_STAT.MODE) := by
    simp only [execSelectiveModeEnter, hcause', hsel, hpresent, Bool.not_true, Bool.or_self, Bool.false_eq_true, if_false]
    rfl
  have hchan : entered.chan n = { s.chan n with selective := true } := State.updChan_chan_self _ (by rw [hlen]; exact n.isLt)
  have hnoted : noted.chans = entered.chans := by
    unfold noted State.when
    split <;> rfl
  exact ⟨_, hexec, congrArg ChanU.selective ((State.chan_congr hnoted n).trans hchan), State.rd_wr_self _ _ _ rfl⟩

end Sys2Proof.Machine
end

