-- ==== Sys2Proof/Proofs/SectorEnd.lean ====
section
/-! CHANNEL_LATE and SECTOR_END, and the obligation (O33). -/

namespace Sys2Proof.Machine
open Reg

/-! ### CHANNEL_LATE (R81) -/

theorem State.srcPresent_channel (s : State) (n : Chan) : s.srcPresent (0x20 + n) = s.chanPresent n := by
  have hworking : ¬0x20 + n.val ≤ 0x1B := by omega
  have hlate : 0x20 + n.val ≤ 0x3B := by omega
  simp only [State.srcPresent, hworking, hlate, if_true, if_false, Nat.add_sub_cancel_left]

theorem defaultClass_channel (n : Chan) : (defaultClass? (0x20 + n)).isNone = false := by
  revert n
  decide

theorem State.rchBit_sys (s : State) (n : Nat) (f : Nat → Fld) : (s.rchBit n f).sys = s.sys :=
  State.when_keeps State.sys (s.setB (f n)) _ fun _ => rfl

/-- CHANNEL_LATE of a present busy channel. -/
theorem channelLate_completes {n : Chan} {s : State} (hpresent : s.chanPresent n = true) (hfsm : (s.chan n).fsm ≠ .idle) :
    completes (.channelLate n) s (fun t => t.rd (RCH_STATUS.LATE n) = 1 ∧
      sparseGet 0 t.watch.srcCnt (0x20 + n) = min 65535 (sparseGet 0 s.watch.srcCnt (0x20 + n) + 1)) := by
  let raised := (s.rchBit n RCH_STATUS.LATE).raise0 (0x20 + n)
  have hexec : execChannelLate n s = .next (
      if raised.isShadow n then raised.updChan n (fun c => { c with fsm := .idle, gate := false, sector := none })
      else raised.abandonToLadder n (s.chan n).cur.head) := by
    have hbusy : ((s.chan n).fsm == .idle) = false := by simpa using hfsm
    simp only [execChannelLate, hpresent, hbusy, Bool.not_true, Bool.or_self, Bool.false_eq_true, if_false]
    rfl
  have hlate : raised.rd (RCH_STATUS.LATE n) = 1 :=
    ((State.raise0_kept (subMask_refl _) (Kept.refl _ _)).rd_listed (l := fun k => [RCH_STATUS k]) (by decide +kernel) n List.mem_cons_self).trans
      (State.rd_raiseBit_self _ _ _ rfl)
  have hpresent' : (s.rchBit n RCH_STATUS.LATE).srcPresent (0x20 + n) = true := by
    rw [State.srcPresent_channel, ← hpresent]
    exact State.chanPresent_congr (State.rchBit_sys s n _) _
  have hcount : sparseGet 0 raised.srcCnt (0x20 + n) = min 65535 (sparseGet 0 s.srcCnt (0x20 + n) + 1) :=
    (State.raiseSrc_srcCnt ctx0 (defaultClass_channel n) hpresent').trans
      (congrArg (fun l => min 65535 (sparseGet 0 l (0x20 + n.val) + 1)) (State.raiseBit_srcCnt s _ _))
  refine ⟨_, hexec, ?_⟩
  split
  · exact ⟨hlate, hcount⟩
  · have hkept := State.abandonToLadder_kept (n := n) (h := (s.chan n).cur.head) (subMask_refl _) (Kept.refl _ raised)
    refine ⟨(hkept.rd_listed (l := fun k => [RCH_STATUS k]) (by decide +kernel) n List.mem_cons_self).trans hlate, ?_⟩
    rw [hkept.watch_ rfl]
    exact hcount

/-! ### SECTOR_END (R62, R67) -/

/-- What hangs neither on the front end nor on a request is as before the sector's last samples. -/
theorem State.endSamples_keeps {β : Type} (p : ChanU → β) (hcourse : ∀ c, p c.course = p c) (hask : ∀ c, p c.unasked = p c) (s : State) (n : Nat)
    (adc : List (Byte × Byte)) : p ((s.endSamples n adc).chan n) = p (s.chan n) := by
  refine (State.updChan_chan_keeps p _ n n fun c => ?_).trans (State.feed_keeps p hcourse hask s n adc)
  rw [← hcourse, ← hcourse c]
  refine congrArg p ?_
  extract_lets c1 c2
  have h1 : c1.course = c.course := by
    unfold c1
    split
    · exact RxCfg.endSpan_course _ _ _ _ _
    · rfl
  have h2 : c2.course = c1.course := by
    unfold c2
    split
    · exact RxCfg.endSpan_course _ _ _ _ _
    · rfl
  exact h2.trans h1

/-- DQM and the count of sectors that channel `n` shows. -/
def State.endCounts (s : State) (n : Nat) : Nat × Nat := (s.rd (RCH_QUAL.DQM n), s.rd (RCH_SECT_CNT.SECTORS n))

theorem Kept.endCounts {w : Nat} {s t : State} (h : Kept w s t) (hl : ∀ k : Chan, [RCH_QUAL k, RCH_SECT_CNT k].all (maskClear w) = true) (n : Chan) :
    t.endCounts n = s.endCounts n := by
  have hqual := h.rd_listed (l := fun k => [RCH_QUAL k, RCH_SECT_CNT k]) hl n (f := RCH_QUAL.DQM n) List.mem_cons_self
  have hsect := h.rd_listed (l := fun k => [RCH_QUAL k, RCH_SECT_CNT k]) hl n (f := RCH_SECT_CNT.SECTORS n)
    (List.mem_cons_of_mem _ List.mem_cons_self)
  rw [State.endCounts, hqual, hsect]
  rfl

theorem State.endCounts_congr {s t : State} (h : t.regs = s.regs) (n : Nat) : t.endCounts n = s.endCounts n := by
  simp only [State.endCounts, State.rd_congr h]

theorem State.endSamples_rd (s : State) (n : Chan) (adc : List (Byte × Byte)) {f : Fld} (h : f.addr ∈ sectorSettings n) :
    (s.endSamples n adc).rd f = s.rd f := State.feed_rd s n adc h

/-- The channel as SECTOR_END leaves it. -/
def ChanU.ended (c : ChanU) : ChanU :=
  { c.freeReserve with fsm := .idle, sector := none, slotIx := none, buf := none, asked := false, taA := none, taB := none }

/-- What then holds: the channel is idle, and shows its count of sectors and DQM. -/
def State.sectorEnded (t : State) (n sectors dqm : Nat) : Prop :=
  (t.chan n).fsm = .idle ∧ (t.chan n).sector = none ∧ t.rd (RCH_SECT_CNT.SECTORS n) = sectors ∧ t.rd (RCH_QUAL.DQM n) = dqm

theorem State.sectorEnded_of_endCounts {u : State} {n sectors dqm : Nat} (h : u.endCounts n = (dqm, sectors)) :
    (u.updChan n ChanU.ended).sectorEnded n sectors dqm := by
  obtain ⟨hfsm, hsector⟩ : ((u.updChan n ChanU.ended).chan n).fsm = .idle ∧ ((u.updChan n ChanU.ended).chan n).sector = none :=
    listModify_getD_of (P := fun c : ChanU => c.fsm = .idle ∧ c.sector = none) ⟨rfl, rfl⟩ (fun _ => ⟨rfl, rfl⟩) u.chans n
  exact ⟨hfsm, hsector, congrArg Prod.snd h, congrArg Prod.fst h⟩

/-- DQM written first among the channel's status, and the sector counted. -/
theorem State.wrs_inc_endCounts (s : State) (n : Nat) {dqm : Nat} (hdqm : dqm ≤ 65535) (l : List (Fld × Nat))
    (hqual : ∀ e ∈ l, RCH_QUAL n ≠ e.1.addr) (hsect : ∀ e ∈ l, RCH_SECT_CNT n ≠ e.1.addr) :
    ((s.wrs ((RCH_QUAL.DQM n, dqm) :: l)).inc (RCH_SECT_CNT.SECTORS n)).endCounts n = (dqm, satU 32 (s.rd (RCH_SECT_CNT.SECTORS n) + 1)) := by
  have haddr : RCH_QUAL n ≠ RCH_SECT_CNT n := by unfold RCH_QUAL RCH_SECT_CNT; omega
  let written := (s.wr (RCH_QUAL.DQM n) dqm).wrs l
  have hshown : written.rd (RCH_QUAL.DQM n) = dqm :=
    (congrArg (fun r => getF r _ _) (State.reg_wrs_ne (s.wr (RCH_QUAL.DQM n) dqm) l _ hqual)).trans
      ((State.rd_wr_self s _ _ rfl).trans (Nat.mod_eq_of_lt (by show dqm < 65536; omega)))
  have hcount : written.rd (RCH_SECT_CNT.SECTORS n) = s.rd (RCH_SECT_CNT.SECTORS n) :=
    (congrArg (fun r => getF r _ _) (State.reg_wrs_ne (s.wr (RCH_QUAL.DQM n) dqm) l _ hsect)).trans
      (State.rd_wr_addr s (RCH_QUAL.DQM n) (RCH_SECT_CNT.SECTORS n) dqm haddr.symm)
  refine Prod.ext ((State.rd_wr_addr written _ _ _ haddr).trans hshown) ((State.rd_inc_self written _ rfl).trans ?_)
  rw [hcount]
  rfl

theorem dqmOf_le (strong : Nat) : dqmOf strong ≤ 65535 := min_le_left _ _

/-- DQM of a sector: 0 without sync, else that of the strong LLRs of the samples retained (R67). -/
def State.sectorDqm (s : State) (n : Nat) (adc : List (Byte × Byte)) : Nat :=
  if (s.chan n).cur.has 1 then 0 else
    dqmOf (strongBits (s.cfgRd n (RCH_DET_CFG.LLR_STRONG n))
      ((s.endSamples n adc).sectorLlrs n ((s.endSamples n adc).chan n).cur ((s.endSamples n adc).chan n).rx.stage 0))

/-! Health, adapted coefficients, requests, the slot and the ladder leave both counts. -/

theorem State.health_endCounts (s : State) (n : Chan) (b : Bool) (gain amp noise : Nat) :
    (s.health n b gain amp noise).endCounts n = s.endCounts n :=
  (State.health_kept (subMask_refl _) (Kept.refl _ s)).endCounts (by decide +kernel) n

theorem State.adaptBack_endCounts (s : State) (n dqm k : Nat) (llrs : List Int) : (s.adaptBack n dqm llrs).endCounts k = s.endCounts k :=
  State.endCounts_congr ((State.adaptBack_kept (subMask_refl _) (Kept.refl _ s)).regs_ rfl) k

theorem State.askCommit_endCounts (s : State) (m : Nat) (n : Chan) : (s.askCommit m).endCounts n = s.endCounts n :=
  (State.askCommit_kept (subMask_refl _) (Kept.refl _ s)).endCounts (by decide +kernel) n

theorem State.settleSlot_endCounts (s : State) (n st k : Nat) : (s.settleSlot n st).endCounts k = s.endCounts k :=
  State.endCounts_congr ((State.settleSlot_kept (subMask_refl _) (Kept.refl _ s)).regs_ rfl) k

theorem State.incCommitted_endCounts (s : State) (n : Chan) : (s.inc RCH_SEL_CNT.COMMITTED).endCounts n = s.endCounts n := by
  have hqual : RCH_QUAL n ≠ RCH_SEL_CNT := by unfold RCH_QUAL RCH_SEL_CNT; omega
  have hsect : RCH_SECT_CNT n ≠ RCH_SEL_CNT := by unfold RCH_SECT_CNT RCH_SEL_CNT; omega
  exact Prod.ext (State.rd_wr_addr _ _ _ _ hqual) (State.rd_wr_addr _ _ _ _ hsect)

theorem State.enterLadder_endCounts (s : State) (m : Nat) (d : SDesc) (h sw0 : Nat) (slot : Option (Nat × Nat)) (n : Chan) :
    (s.enterLadder m d h sw0 slot).endCounts n = s.endCounts n :=
  (State.enterLadder_kept (subMask_refl _) (Kept.refl _ s)).endCounts (by decide +kernel) n

theorem State.judgeReaders_endCounts (s : State) (h : Nat) (n : Chan) : (s.judgeReaders h).endCounts n = s.endCounts n :=
  (State.judgeReaders_kept (subMask_refl _) (Kept.refl _ s)).endCounts (by decide +kernel) n

/-- SECTOR_END of the last fragment, in data or without sync. -/
theorem sectorEnd_completes {n : Chan} {adc : List (Byte × Byte)} {d : SDesc} {s : State} (hsector : (s.chan n).sector = some d)
    (hfsm : (s.chan n).fsm = .data ∨ (s.chan n).fsm = .nosync) (hlast : (s.chan n).lastFrag = true) :
    completes (.sectorEnd n adc) s (fun t => t.sectorEnded n (satU 32 (s.rd (RCH_SECT_CNT.SECTORS n) + 1)) (s.sectorDqm n adc)) := by
  have hopen : (!((s.chan n).fsm == .data || (s.chan n).fsm == .nosync) || !(s.chan n).lastFrag) = false := by
    rcases hfsm with h | h <;> rw [h, hlast] <;> rfl
  refine ⟨_, rfl, ?_⟩
  show State.sectorEnded (match (s.chan n).sector with | none => _ | some d => _) _ _ _
  simp -zeta only [hsector, hopen, Bool.false_eq_true, if_false]
  extract_lets shadow s1 c h llrs dqm sw0 rd s2 s3 s4 smp amp s5 s6 s7 idle s8 mark s9 keep s10 s11 slot rec0
  have hdqm : dqm = s.sectorDqm n adc := by
    have hnosync : c.cur.has 1 = (s.chan n).cur.has 1 :=
      State.endSamples_keeps (fun c => c.cur.has 1) (fun c => c.course_has rfl) (fun c => c.unasked_has rfl) s n adc
    have hstrong : s1.cfgRd n (RCH_DET_CFG.LLR_STRONG n) = s.cfgRd n (RCH_DET_CFG.LLR_STRONG n) :=
      State.cfgRd_congr (State.endSamples_keeps ChanU.cfgIn (fun _ => rfl) (fun _ => rfl) s n adc)
        (State.endSamples_rd s n adc (by simp [sectorSettings, RCH_DET_CFG.LLR_STRONG]))
    unfold dqm llrs State.sectorDqm
    rw [hnosync, hstrong]
    split <;> rfl
  have hle : dqm ≤ 65535 := by
    unfold dqm
    split
    · exact Nat.zero_le _
    · exact dqmOf_le _
  have hcounted : s4.endCounts n = (dqm, satU 32 (s.rd (RCH_SECT_CNT.SECTORS n) + 1)) := by
    have hsect : s2.rd (RCH_SECT_CNT.SECTORS n) = s.rd (RCH_SECT_CNT.SECTORS n) :=
      State.endSamples_rd s n adc (by simp [sectorSettings, RCH_SECT_CNT.SECTORS])
    rw [← hsect]
    refine State.wrs_inc_endCounts s2 n hle _ ?_ ?_
    · simp [RCH_AGC_STAT.GAIN_A, RCH_AGC_STAT.GAIN_B, RCH_TR_STAT.FREQ, RCH_TR_STAT.PHASE, RCH_TR_STAT.LOCK, RCH_SYNC_STAT.SYNC_POS,
        RCH_SYNC_STAT.PRIMARY_DIST, RCH_SYNC_STAT.RESCUE_DIST, RCH_QUAL, RCH_AGC_STAT, RCH_TR_STAT, RCH_SYNC_STAT]
    · simp [RCH_AGC_STAT.GAIN_A, RCH_AGC_STAT.GAIN_B, RCH_TR_STAT.FREQ, RCH_TR_STAT.PHASE, RCH_TR_STAT.LOCK, RCH_SYNC_STAT.SYNC_POS,
        RCH_SYNC_STAT.PRIMARY_DIST, RCH_SYNC_STAT.RESCUE_DIST, RCH_SECT_CNT, RCH_AGC_STAT, RCH_TR_STAT, RCH_SYNC_STAT]
  have hread : s7.endCounts n = s4.endCounts n := calc
    s7.endCounts n = s6.endCounts n := State.adaptBack_endCounts s6 _ _ _ _
    _ = s5.endCounts n := State.when_keeps (fun t => t.endCounts n) s5 _ fun t => State.health_endCounts t n _ _ _ _
    _ = s4.endCounts n := State.when_keeps (fun t => t.endCounts n) s4 _ fun t => State.health_endCounts t n _ _ _ _
  rw [← hdqm]
  split
  · exact State.sectorEnded_of_endCounts (hread.trans hcounted)
  have hsettled : s11.endCounts n = s7.endCounts n := calc
    s11.endCounts n = s10.endCounts n := State.when_keeps (fun t => t.endCounts n) s10 _ fun t => State.incCommitted_endCounts t n
    _ = s9.endCounts n := State.settleSlot_endCounts s9 _ _ _
    _ = s8.endCounts n := State.when_keeps (fun t => t.endCounts n) s8 _ fun t => State.askCommit_endCounts t _ n
    _ = s7.endCounts n := State.endCounts_congr ((State.fillBuf_kept (subMask_refl _) (Kept.refl _ s7)).regs_ rfl) n
  refine State.sectorEnded_of_endCounts ?_
  rw [State.judgeReaders_endCounts, State.enterLadder_endCounts, ← hcounted, ← hread, ← hsettled]
  exact State.endCounts_congr ((State.postRec_kept (subMask_refl _) (Kept.refl _ s11)).regs_ rfl) n

/-- Settles O33, clause by clause, in the order of a sector. -/
theorem readChannelSector : Obligations.ReadChannelSector := by
  refine ⟨fun n adc s hfsm _ hshadow hret hsel hdepth => retentionCommitStart_completes hfsm hshadow hret hsel hdepth,
    fun n adc s h => syncSearchStart_completes h,
    fun n adc bits rescue s h => syncWindowEnd_completes bits rescue h,
    fun n adc d s hsector hfsm hlast => sectorEnd_completes hsector hfsm hlast,
    fun n adc c s h hc hstarted => thermalAsperityStart_completes h hc hstarted,
    fun n adc c s h hc => thermalAsperityEnd_completes h hc,
    fun n errs s hfsm hflag hlen hsum => lossOfLock_completes hfsm hflag hlen hsum,
    fun n s hcause hsel hpresent hlen => selectiveModeEnter_completes hcause hsel hpresent hlen,
    fun n s hpresent hfsm => channelLate_completes hpresent hfsm⟩

end Sys2Proof.Machine
end

