-- ==== Sys2Proof/Proofs/PreampPorts.lean ====
section
/-! The preamplifier ports: their updates, and the frame that a port takes next (R116, R118). -/

namespace Sys2Proof.Machine
open Reg

/-! ### Ports -/

theorem State.updPort_port_self {s : State} {a : Nat} (f : PaPort → PaPort) (ha : a < s.wrp.ports.length) :
    (s.updPort a f).port a = f (s.port a) := listModify_getD_self _ _ _ _ ha

/-- What an update of a port keeps of every port, it keeps of each. -/
theorem State.updPort_port_keeps {β : Type} (p : PaPort → β) (s : State) (k a : Nat) {f : PaPort → PaPort} (hf : ∀ x, p (f x) = p x) :
    p ((s.updPort k f).port a) = p (s.port a) := listModify_getD_keeps p _ _ _ _ _ hf

@[simp] theorem State.updPort_length (s : State) (a : Nat) (f : PaPort → PaPort) :
    (s.updPort a f).wrp.ports.length = s.wrp.ports.length := listModify_length _ _ _

theorem State.port_congr {s t : State} (hports : t.wrp.ports = s.wrp.ports) (a : Nat) : t.port a = s.port a := by
  simp only [State.port, hports]

/-- A port with a frame in flight is one there is. -/
theorem State.lt_of_inFlight {s : State} {a : Nat} {f : PaFrame} (hf : (s.port a).inFlight = some f) : a < s.wrp.ports.length := by
  by_contra hlen
  rw [State.port, List.getD_eq_default _ _ (Nat.not_lt.1 hlen)] at hf
  cases hf

theorem State.reg_congr {s t : State} (h : t.regs = s.regs) (b : Nat) : t.reg b = s.reg b := by
  simp only [State.reg, h]

theorem State.mode_congr {s t : State} (h : t.reg SYS_MODE = s.reg SYS_MODE) : t.mode = s.mode :=
  congrArg (fun r => Mode.ofCode (getF r _ _)) h

theorem State.actPresent_congr {s t : State} (h : t.sys = s.sys) (a : Nat) : t.actPresent a = s.actPresent a := by
  simp only [State.actPresent, h]

theorem State.actPresent_of_headPresent {s : State} {h : Nat} (hp : s.headPresent h = true) : s.actPresent (h / 6) = true := by
  simp only [State.headPresent, Bool.and_eq_true] at hp
  exact hp.1.2

/-- An update that leaves a head's write gate leaves whether a gate is open on any head. -/
theorem State.headGate_updHead (s : State) (k h : Nat) {f : HeadU → HeadU} (hf : ∀ u, (f u).gate = u.gate) :
    (s.updHead k f).headGate h = s.headGate h :=
  congrArg (fun g : Option (Nat × Bool) => g.isSome || (match s.chanOfHead h with | some n => (s.chan n).gate | none => false))
    (State.updHead_head_keeps HeadU.gate s k h hf)

/-! ### A frame is sent (R114) -/

theorem State.paSend_inFlight {s : State} {a : Nat} (f : PaFrame) (ha : a < s.wrp.ports.length) :
    ((s.paSend a f).port a).inFlight = some f := congrArg PaPort.inFlight (State.updPort_port_self _ ha)

/-- Sending changes nothing of a port but the frame in flight and its timing. -/
theorem State.paSend_port_keeps {β : Type} (p : PaPort → β) (s : State) (k a : Nat) (f : PaFrame)
    (hp : ∀ x, p { x with inFlight := some f, repeated := false, silentUs := 0 } = p x) : p ((s.paSend k f).port a) = p (s.port a) :=
  State.updPort_port_keeps p s k a hp

/-! ### A port takes its next frame (R116, R118) -/

/-- Port `a` can send: no frame is in flight, and the K4 is neither in HALTED nor in reset (R116). -/
structure State.PortFree (s : State) (a : Nat) : Prop where
  inFlight : (s.port a).inFlight = none
  mode : s.mode ≠ .halted
  inReset : s.sys.inReset = false
  present : s.actPresent a = true

theorem State.PortFree.updPort {s : State} {a : Nat} (hfree : s.PortFree a) {f : PaPort → PaPort} (hf : ∀ x, (f x).inFlight = x.inFlight) :
    (s.updPort a f).PortFree a :=
  ⟨(State.updPort_port_keeps PaPort.inFlight s a a hf).trans hfree.inFlight, hfree.mode, hfree.inReset, hfree.present⟩

theorem State.PortFree.updHead {s : State} {a : Nat} (hfree : s.PortFree a) (h : Nat) (f : HeadU → HeadU) : (s.updHead h f).PortFree a :=
  ⟨hfree.inFlight, hfree.mode, hfree.inReset, hfree.present⟩

/-- The test that `paKick` begins with. -/
theorem State.PortFree.guard {s : State} {a : Nat} (hfree : s.PortFree a) :
    ((s.port a).inFlight.isSome || s.mode == .halted || s.sys.inReset || !s.actPresent a) = false := by
  obtain ⟨hflight, hmode, hreset, hpresent⟩ := hfree
  simp [hflight, hmode, hreset, hpresent]

/-- A frame taken from a mailbox clears its GO (R118). -/
def State.clrGo (s : State) (a : Nat) (f : PaFrame) : State :=
  match f.mailbox with
  | some pos => s.clr (WRP_PA_CMD.GO (a * 6 + pos))
  | none => s

@[simp] theorem State.clrGo_wrp (s : State) (a : Nat) (f : PaFrame) : (s.clrGo a f).wrp = s.wrp := by
  unfold State.clrGo
  split <;> rfl

theorem State.clrGo_reg (s : State) (a : Nat) (f : PaFrame) {b : Nat} (hb : ∀ k, b ≠ WRP_PA_CMD k) : (s.clrGo a f).reg b = s.reg b := by
  unfold State.clrGo
  split
  · exact State.reg_wr_ne _ _ _ _ (hb _)
  · rfl

/-- What a port can do when it takes its next frame: nothing, or send one, by the order of R118. -/
inductive State.Kicked (s : State) (a : Nat) : State → Prop
  | rest : Kicked s a s
  | status (pos : Nat) (l : List Nat) (hq : (s.port a).statusQ = pos :: l) :
    Kicked s a ((s.updPort a (fun p => { p with statusQ := l })).paSend a { read := true, pos := pos, addr := 1, data := 0, mailbox := none })
  | wc (pos : Nat) :
    Kicked s a ((s.updHead (a * 6 + pos) (fun u => { u with wcDue := false })).paSend a (paWrite pos 4 (s.wcWord (a * 6 + pos))))
  | mode (pos m : Nat) (l : List (Nat × Nat)) :
    Kicked s a (((s.updPort a (fun p => { p with modeQ := l })).updHead (a * 6 + pos) (fun u => { u with wcDue := true })).paSend a
      (paWrite pos 3 m))
  | heater (pos v : Nat) (l : List (Nat × Nat)) :
    Kicked s a (((s.updPort a (fun p => { p with htrQ := l })).updHead (a * 6 + pos) (fun u => { u with htr := v })).paSend a (paWrite pos 5 v))
  | mail (f : PaFrame) (l : List PaFrame) (hq : (s.port a).mailQ = f :: l) :
    Kicked s a (((s.updPort a (fun p => { p with mailQ := l })).paSend a f).clrGo a f)

theorem State.paKick_kicked (s : State) (a : Nat) : s.Kicked a (s.paKick a) := by
  unfold State.paKick
  dsimp only
  split
  · exact .rest
  split
  · next pos l hq => exact .status pos l hq
  split
  · next pos m l _ =>
    split
    · exact .wc pos
    · exact .mode pos m l
  split
  · next pos v l _ => exact .heater pos v l
  split
  · next f l hq => exact .mail f l hq
  · exact .rest

section
variable {s t : State} {a : Nat}

/-- A kick changes no register but those of the mailboxes' commands. -/
theorem State.Kicked.reg (hkick : s.Kicked a t) {b : Nat} (hb : ∀ k, b ≠ WRP_PA_CMD k) : t.reg b = s.reg b := by
  cases hkick with
  | mail f l _ => exact State.clrGo_reg _ a f hb
  | _ => rfl

/-- What an update of the port's queues and a frame sent keep of a port, a kick keeps. -/
theorem State.Kicked.port_keeps {β : Type} {p : PaPort → β}
    (hqueue : ∀ x sq mq hq lq, p { x with statusQ := sq, modeQ := mq, htrQ := hq, mailQ := lq } = p x)
    (hsend : ∀ x f, p { x with inFlight := some f, repeated := false, silentUs := 0 } = p x) (hkick : s.Kicked a t) :
    p (t.port a) = p (s.port a) := by
  have sent (u : State) (f : PaFrame) : p ((u.paSend a f).port a) = p (u.port a) := State.paSend_port_keeps p u a a f fun x => hsend x f
  have queued {f : PaPort → PaPort} (hf : ∀ x, p (f x) = p x) : p ((s.updPort a f).port a) = p (s.port a) :=
    State.updPort_port_keeps p s a a hf
  cases hkick with
  | rest => rfl
  | status pos l _ => exact (sent _ _).trans (queued fun x => hqueue x l x.modeQ x.htrQ x.mailQ)
  | wc pos => exact sent _ _
  | mode pos m l => exact (sent _ _).trans (queued fun x => hqueue x x.statusQ l x.htrQ x.mailQ)
  | heater pos v l => exact (sent _ _).trans (queued fun x => hqueue x x.statusQ x.modeQ l x.mailQ)
  | mail f l _ =>
    rw [State.port_congr (congrArg WrpU.ports (State.clrGo_wrp _ a f))]
    exact (sent _ _).trans (queued fun x => hqueue x x.statusQ x.modeQ x.htrQ l)

/-- A kick opens and closes no gate. -/
theorem State.Kicked.gate (hkick : s.Kicked a t) (h : Nat) : (t.head h).gate = (s.head h).gate := by
  cases hkick with
  | rest | status => rfl
  | wc | mode | heater => exact State.updHead_head_keeps HeadU.gate s _ h fun _ => rfl
  | mail f l _ => exact congrArg HeadU.gate (State.head_congr (State.clrGo_wrp _ a f) h)

/-- A mailbox frame that waits is sent by a kick, or waits on. -/
theorem State.Kicked.mail_sent_or_waits (hkick : s.Kicked a t) {f : PaFrame} (ha : a < s.wrp.ports.length) (hf : f ∈ (s.port a).mailQ) :
    (t.port a).inFlight = some f ∨ f ∈ (t.port a).mailQ := by
  have sent (u : State) (g : PaFrame) (hu : f ∈ (u.port a).mailQ) : f ∈ ((u.paSend a g).port a).mailQ :=
    (congrArg (f ∈ ·) (State.paSend_port_keeps PaPort.mailQ u a a g fun _ => rfl)).mpr hu
  have queued {g : PaPort → PaPort} (hg : ∀ x, (g x).mailQ = x.mailQ) : f ∈ ((s.updPort a g).port a).mailQ :=
    (congrArg (f ∈ ·) (State.updPort_port_keeps PaPort.mailQ s a a hg)).mpr hf
  cases hkick with
  | rest => exact .inr hf
  | status | mode | heater => exact .inr (sent _ _ (queued fun _ => rfl))
  | wc => exact .inr (sent _ _ hf)
  | mail g l hq =>
    rw [State.port_congr (congrArg WrpU.ports (State.clrGo_wrp _ a g))]
    rw [hq, List.mem_cons] at hf
    rcases hf with rfl | hl
    · exact .inl (State.paSend_inFlight f (ha.trans_eq (State.updPort_length _ _ _).symm))
    · exact .inr (sent _ _ ((congrArg (f ∈ PaPort.mailQ ·) (State.updPort_port_self _ ha)).mpr hl))

end

/-! What a free port sends, by what waits. -/

section
variable {s : State} {a : Nat}

theorem State.paKick_of_status (hfree : s.PortFree a) {pos : Nat} {l : List Nat} (hstatusQ : (s.port a).statusQ = pos :: l) :
    s.paKick a =
      (s.updPort a (fun p => { p with statusQ := l })).paSend a { read := true, pos := pos, addr := 1, data := 0, mailbox := none } := by
  simp only [State.paKick, hfree.guard, hstatusQ, Bool.false_eq_true, if_false]

/-- A change to another mode than WRITE_ARMED needs no WC value first (R121). -/
theorem State.paKick_of_mode (hfree : s.PortFree a) {pos m : Nat} (hstatusQ : (s.port a).statusQ = []) (hmodeQ : (s.port a).modeQ = [(pos, m)])
    (hgate : s.headGate (a * 6 + pos) = false) (hm : m ≠ 2) :
    s.paKick a = ((s.updPort a (fun p => { p with modeQ := [] })).updHead (a * 6 + pos) (fun u => { u with wcDue := true })).paSend a
      (paWrite pos 3 m) := by
  simp only [State.paKick, hfree.guard, hstatusQ, hmodeQ, popFirst, State.modeHeld, hgate, hm, Bool.false_and, Bool.not_false, Bool.false_eq_true,
    false_and, if_true, if_false]

theorem State.paKick_of_heater (hfree : s.PortFree a) {pos v : Nat} (hstatusQ : (s.port a).statusQ = []) (hmodeQ : (s.port a).modeQ = [])
    (hhtrQ : (s.port a).htrQ = [(pos, v)]) (hgate : s.headGate (a * 6 + pos) = false) :
    s.paKick a = ((s.updPort a (fun p => { p with htrQ := [] })).updHead (a * 6 + pos) (fun u => { u with htr := v })).paSend a
      (paWrite pos 5 v) := by
  simp only [State.paKick, hfree.guard, hstatusQ, hmodeQ, hhtrQ, popFirst, hgate, Bool.not_false, Bool.false_eq_true, if_true, if_false]

theorem State.paKick_of_mail (hfree : s.PortFree a) {f : PaFrame} {l : List PaFrame} (hstatusQ : (s.port a).statusQ = [])
    (hmodeQ : (s.port a).modeQ = []) (hhtrQ : (s.port a).htrQ = []) (hmailQ : (s.port a).mailQ = f :: l) :
    s.paKick a = ((s.updPort a (fun p => { p with mailQ := l })).paSend a f).clrGo a f := by
  simp only [State.paKick, hfree.guard, hstatusQ, hmodeQ, hhtrQ, hmailQ, popFirst, Bool.false_eq_true, if_false]
  rfl

/-- With nothing waiting a port rests. -/
theorem State.paKick_of_empty (hstatusQ : (s.port a).statusQ = []) (hmodeQ : (s.port a).modeQ = []) (hhtrQ : (s.port a).htrQ = [])
    (hmailQ : (s.port a).mailQ = []) : s.paKick a = s := by
  simp only [State.paKick, hstatusQ, hmodeQ, hhtrQ, hmailQ, popFirst, ite_self]

end

end Sys2Proof.Machine
end

