-- ==== Sys2Proof/Proofs/PreampMailboxes.lean ====
section
/-! The mailboxes of the preamplifier ports (R118, R119; O13). -/

namespace Sys2Proof.Machine
open Reg

/-! ### A refusal sends no frame (R492) -/

theorem State.paFrame_mem_raiseBit (s : State) (f : Fld) (en : Nat) (a : Act) (b : Nat) :
    .paFrame a b ∈ (s.raiseBit f en).out ↔ .paFrame a b ∈ s.out := by
  unfold State.raiseBit State.irqIf State.when
  split
  · simp
  · rfl

theorem State.paFrame_mem_refuseW (s : State) (w : Initiator) (ofs cause : Nat) (a : Act) (b : Nat) :
    .paFrame a b ∈ (s.refuseW w ofs cause).out ↔ .paFrame a b ∈ s.out := by
  unfold State.refuseW State.refuse
  extract_lets g t
  have ht : .paFrame a b ∈ t.out ↔ .paFrame a b ∈ s.out := State.paFrame_mem_raiseBit (s.inc SYS_REF_CNT.REFUSALS) _ _ a b
  split
  · exact ht
  · exact (State.paFrame_mem_raiseBit (t.inc SYS_REF_CNT.NOT_LOGGED) _ _ a b).trans ht

@[simp] theorem State.refuseW_wrp (s : State) (w : Initiator) (ofs cause : Nat) : (s.refuseW w ofs cause).wrp = s.wrp :=
  (State.refuseW_kept (subMask_refl _) (Kept.refl _ s)).wrp_ rfl

/-- A refusal leaves the response of every mailbox. -/
theorem State.refuseW_resp (s : State) (w : Initiator) (ofs cause : Nat) (h : Head) :
    (s.refuseW w ofs cause).reg (WRP_PA_RESP h) = s.reg (WRP_PA_RESP h) :=
  (State.refuseW_kept (subMask_refl _) (Kept.refl _ s)).reg_keep (by revert h; decide +kernel)

theorem resp_ne_cmd (h k : Nat) : WRP_PA_RESP h ≠ WRP_PA_CMD k := by
  unfold WRP_PA_RESP WRP_PA_CMD
  omega

/-! ### A request in a mailbox (R118, R119) -/

section
variable (h : Head) (addr : Byte) (data : BitVec 16) (rd bcast : Bool) (s : State)

/-- The frame that a mailbox asks for. -/
def mailFrame : PaFrame :=
  { read := rd, pos := if bcast then 7 else h.val % 6, addr := addr.toNat, data := if rd then 0 else data.toNat, mailbox := some (h.val % 6) }

/-- The request as WRP_n_PA_CMD shows it. -/
def State.mailShown : State :=
  s.wrs [(WRP_PA_CMD.ADDR h, addr.toNat), (WRP_PA_CMD.DATA h, data.toNat), (WRP_PA_CMD.RD h, b2n rd), (WRP_PA_CMD.BCAST h, b2n bcast)]

/-- The request taken: GO is set, and its frame waits behind the other mailbox frames of the port. -/
def State.mailQueued : State :=
  ((s.mailShown h addr data rd bcast).setB (WRP_PA_CMD.GO h)).updPort (h / 6)
    (fun p => { p with mailQ := p.mailQ ++ [mailFrame h addr data rd bcast] })

theorem State.mailShown_reg {b : Nat} (hb : b ≠ WRP_PA_CMD h) : (s.mailShown h addr data rd bcast).reg b = s.reg b :=
  State.reg_wrs_ne _ _ _ (by simpa [WRP_PA_CMD.ADDR, WRP_PA_CMD.DATA, WRP_PA_CMD.RD, WRP_PA_CMD.BCAST] using hb)

@[simp] theorem State.mailShown_wrp : (s.mailShown h addr data rd bcast).wrp = s.wrp :=
  State.wrs_keeps State.wrp s _ fun f x t => State.wr_wrp t f x

theorem State.mailShown_out : (s.mailShown h addr data rd bcast).out = s.out :=
  State.wrs_keeps State.out s _ fun f x t => State.wr_out t f x

theorem State.mailQueued_regs : (s.mailQueued h addr data rd bcast).regs = ((s.mailShown h addr data rd bcast).setB (WRP_PA_CMD.GO h)).regs :=
  State.updPort_regs _ _ _

theorem State.mailQueued_reg {b : Nat} (hb : b ≠ WRP_PA_CMD h) : (s.mailQueued h addr data rd bcast).reg b = s.reg b :=
  (State.reg_congr (State.mailQueued_regs h addr data rd bcast s) b).trans
    ((State.reg_wr_ne _ (WRP_PA_CMD.GO h) 1 b hb).trans (State.mailShown_reg h addr data rd bcast s hb))

theorem State.mailQueued_sys : (s.mailQueued h addr data rd bcast).sys = s.sys :=
  (State.updPort_sys _ _ _).trans ((State.setB_sys _ _).trans (State.wrs_sys _ _))

theorem State.mailQueued_length : (s.mailQueued h addr data rd bcast).wrp.ports.length = s.wrp.ports.length :=
  (State.updPort_length _ _ _).trans (congrArg (fun u : WrpU => u.ports.length) ((State.setB_wrp _ _).trans (State.mailShown_wrp h addr data rd bcast s)))

theorem State.mailQueued_port (ha : h / 6 < s.wrp.ports.length) :
    (s.mailQueued h addr data rd bcast).port (h / 6) =
      { s.port (h / 6) with mailQ := (s.port (h / 6)).mailQ ++ [mailFrame h addr data rd bcast] } := by
  have hwrp : ((s.mailShown h addr data rd bcast).setB (WRP_PA_CMD.GO h)).wrp = s.wrp :=
    (State.setB_wrp _ _).trans (State.mailShown_wrp h addr data rd bcast s)
  rw [State.mailQueued, State.updPort_port_self _ (by rwa [hwrp]), State.port_congr (congrArg WrpU.ports hwrp)]

variable {h addr data rd bcast s} {w : Initiator}

/-- The test for MODE, WC and HTR. -/
theorem ownedTest_eq (addr : Byte) : (addr == 3 || addr == 4 || addr == 5) = decide (addr ∈ ([3, 4, 5] : List Byte)) := by
  rw [Bool.eq_iff_iff]
  simp [or_assoc]

/-- Outside FACTORY a write to MODE, WC or HTR is refused (R119). -/
theorem execPaMailboxCmd_of_owned (hw : s.mayWrite w = true) (hpresent : s.headPresent h = true) (hmode : s.mode ≠ .factory)
    (howned : addr ∈ ([3, 4, 5] : List Byte)) :
    execPaMailboxCmd w h addr data false bcast s =
      .next (((s.mailShown h addr data false bcast).setB (WRP_PA_RESP.REFUSED h)).refuseW w (WRP_PA_CMD h) 2) := by
  have hrefused : (!false && !s.inFactory && (addr == 3 || addr == 4 || addr == 5)) = true := by
    rw [ownedTest_eq, decide_eq_true howned, State.inFactory, beq_false_of_ne hmode]
    rfl
  simp only [execPaMailboxCmd, hw, hpresent, hrefused, Bool.not_true, Bool.false_and, Bool.false_eq_true, if_true, if_false]
  rfl

/-- Any other access is taken, and the port kicked. -/
theorem execPaMailboxCmd_of_allowed (hw : s.mayWrite w = true) (hpresent : s.headPresent h = true) (hread : (rd && bcast) = false)
    (hallowed : rd = true ∨ s.mode = .factory ∨ addr ∉ ([3, 4, 5] : List Byte)) :
    execPaMailboxCmd w h addr data rd bcast s = .next ((s.mailQueued h addr data rd bcast).paKick (h / 6)) := by
  have htaken : (!rd && !s.inFactory && (addr == 3 || addr == 4 || addr == 5)) = false := by
    rcases hallowed with hrd | hfactory | hfree
    · rw [hrd]
      rfl
    · simp [State.inFactory, hfactory]
    · rw [ownedTest_eq, decide_eq_false hfree, Bool.and_false]
  simp only [execPaMailboxCmd, hw, hpresent, hread, htaken, Bool.not_true, Bool.false_eq_true, if_false]
  rfl

/-- A mailbox write to MODE, WC or HTR outside FACTORY (R119). -/
theorem paMailboxCmd_owned_completes (hw : s.mayWrite w = true) (hpresent : s.headPresent h = true) (hmode : s.mode ≠ .factory)
    (howned : addr ∈ ([3, 4, 5] : List Byte)) :
    completes (.paMailboxCmd w h addr data false bcast) s (fun t => t.rd (WRP_PA_RESP.REFUSED h) = 1 ∧ t.wrp = s.wrp ∧
      ∀ a b, .paFrame a b ∈ t.out → .paFrame a b ∈ s.out) := by
  let asked := (s.mailShown h addr data false bcast).setB (WRP_PA_RESP.REFUSED h)
  have hwrp : asked.wrp = s.wrp := (State.setB_wrp _ _).trans (State.mailShown_wrp h addr data false bcast s)
  have hout : asked.out = s.out := (State.setB_out _ _).trans (State.mailShown_out h addr data false bcast s)
  refine ⟨_, execPaMailboxCmd_of_owned hw hpresent hmode howned, ?_, (State.refuseW_wrp asked w _ _).trans hwrp, fun a b hsent => ?_⟩
  · exact (congrArg (fun r => getF r _ _) (State.refuseW_resp asked w _ _ h)).trans (State.rd_wr_self _ _ _ rfl)
  · rw [← hout]
    exact (State.paFrame_mem_refuseW asked w _ _ a b).1 hsent

/-- A mailbox access that is allowed (R119). -/
theorem paMailboxCmd_allowed_completes (hw : s.mayWrite w = true) (hpresent : s.headPresent h = true) (hread : (rd && bcast) = false)
    (hallowed : rd = true ∨ s.mode = .factory ∨ addr ∉ ([3, 4, 5] : List Byte)) (hports : s.wrp.ports.length = 4) :
    completes (.paMailboxCmd w h addr data rd bcast) s (fun t => t.rd (WRP_PA_RESP.REFUSED h) = s.rd (WRP_PA_RESP.REFUSED h) ∧
      ((t.port (h / 6)).inFlight = some (mailFrame h addr data rd bcast) ∨ mailFrame h addr data rd bcast ∈ (t.port (h / 6)).mailQ)) := by
  have ha : h / 6 < s.wrp.ports.length := by omega
  have hwaits : mailFrame h addr data rd bcast ∈ ((s.mailQueued h addr data rd bcast).port (h / 6)).mailQ :=
    (congrArg (_ ∈ PaPort.mailQ ·) (State.mailQueued_port h addr data rd bcast s ha)).mpr (List.mem_append_right _ (List.mem_singleton_self _))
  have hkick := (s.mailQueued h addr data rd bcast).paKick_kicked (h / 6)
  refine ⟨_, execPaMailboxCmd_of_allowed hw hpresent hread hallowed, ?_,
    hkick.mail_sent_or_waits (ha.trans_eq (State.mailQueued_length h addr data rd bcast s).symm) hwaits⟩
  exact congrArg (fun r => getF r _ _) ((hkick.reg (resp_ne_cmd h)).trans (State.mailQueued_reg h addr data rd bcast s (resp_ne_cmd h h)))

end

/-- Settles O13: a mailbox write to a register that the hardware owns is refused outside FACTORY; every other access is queued and sent in turn. -/
theorem ownedHeadRegisters : Obligations.OwnedHeadRegisters :=
  ⟨fun _ _ _ _ _ _ hw hpresent hmode howned => paMailboxCmd_owned_completes hw hpresent hmode howned,
    fun _ _ _ _ _ _ _ hw hpresent hread hallowed hports => paMailboxCmd_allowed_completes hw hpresent hread hallowed hports⟩

end Sys2Proof.Machine
end

