-- ==== Sys2Proof/Proofs/PreampFrames.lean ====
section
/-! Frames of the preamplifier ports: how they end, are answered, and are asked for by mailboxes and heaters (R115 to R120; O32). -/

namespace Sys2Proof.Machine
open Reg

/-- Port `a` is free, and neither a STATUS read nor a MODE change nor a heater value waits. -/
structure State.PortRests (s : State) (a : Nat) : Prop extends State.PortFree s a where
  statusQ : (s.port a).statusQ = []
  modeQ : (s.port a).modeQ = []
  htrQ : (s.port a).htrQ = []

/-- So the port of a present head rests, outside HALTED and reset. -/
theorem State.portRests_of_head {s : State} {h : Nat} (hpresent : s.headPresent h = true) (hmode : s.mode ≠ .halted)
    (hreset : s.sys.inReset = false) (hflight : (s.port (h / 6)).inFlight = none) (hstatusQ : (s.port (h / 6)).statusQ = [])
    (hmodeQ : (s.port (h / 6)).modeQ = []) (hhtrQ : (s.port (h / 6)).htrQ = []) : s.PortRests (h / 6) :=
  ⟨⟨hflight, hmode, hreset, State.actPresent_of_headPresent hpresent⟩, hstatusQ, hmodeQ, hhtrQ⟩

/-! ### A write frame ends (R118) -/

/-- A port but for what it keeps of STATUS. -/
def PaPort.unread (p : PaPort) : PaPort := { p with status := [], fault := false }

/-- Port `a`, but for STATUS, and how many ports there are. -/
def State.portView (s : State) (a : Nat) : PaPort × Nat := ((s.port a).unread, s.wrp.ports.length)

theorem State.updPort_portView (s : State) (k a : Nat) {f : PaPort → PaPort} (hf : ∀ x, (f x).unread = x.unread) :
    (s.updPort k f).portView a = s.portView a :=
  Prod.ext (State.updPort_port_keeps PaPort.unread s k a hf) (State.updPort_length _ _ _)

theorem State.paCheck_portView (s : State) (k a : Nat) : (s.paCheck k).portView a = s.portView a := by
  unfold State.paCheck
  dsimp only
  split
  · exact State.updPort_portView s k a fun _ => rfl
  · rfl

theorem State.paCheck_regs (s : State) (a : Nat) : (s.paCheck a).regs = s.regs :=
  (State.paCheck_kept (subMask_refl _) (Kept.refl _ s)).regs_ rfl

/-- A write frame that has reached the preamplifier changes of a port only what it keeps of STATUS. -/
theorem State.frameTaken_portView (s : State) (k a : Nat) (f : PaFrame) : (s.frameTaken k f).portView a = s.portView a := by
  unfold State.frameTaken
  extract_lets drop heads done
  have hheads : heads.portView a = s.portView a := State.forEach_keeps (fun t => t.portView a) s _ _ fun h t => by
    split
    · rfl
    split
    · exact State.updPort_portView t k a fun _ => rfl
    · rfl
  have hdone : done.portView a = heads.portView a := by
    unfold done
    split <;> rfl
  exact (State.when_keeps (fun t => t.portView a) done _ fun t => State.paCheck_portView t k a).trans (hdone.trans hheads)

/-- The frame of a mailbox shows DONE (R119). -/
theorem State.frameTaken_done (s : State) (a : Nat) {f : PaFrame} {q : Nat} (hq : f.mailbox = some q) :
    (s.frameTaken a f).rd (WRP_PA_RESP.DONE (a * 6 + q)) = 1 := by
  unfold State.frameTaken
  extract_lets drop heads done
  have hdone : done.rd (WRP_PA_RESP.DONE (a * 6 + q)) = 1 := by
    simp only [done, hq]
    exact State.rd_wr_self _ _ _ rfl
  exact (State.rd_congr (State.when_keeps State.regs done _ fun t => State.paCheck_regs t a) _).trans hdone

/-- The port of a frame that ended, before it takes the next. -/
def State.frameEnded (s : State) (a : Act) (f : PaFrame) : State := (s.updPort a (fun p => { p with inFlight := none })).frameTaken a f

theorem execPaFrameEnd_of_write {a : Act} {f : PaFrame} {s : State} (hf : (s.port a).inFlight = some f) (hwrite : f.read = false) :
    execPaFrameEnd a s = .next ((s.frameEnded a f).paKick a) := by
  simp only [execPaFrameEnd, hf, hwrite, Bool.false_eq_true, if_false]
  rfl

/-- The port then has no frame in flight; the rest of it is as before but for STATUS. -/
theorem State.frameEnded_portView {s : State} {a : Act} {f : PaFrame} (hf : (s.port a).inFlight = some f) :
    (s.frameEnded a f).portView a = ({ (s.port a).unread with inFlight := none }, s.wrp.ports.length) := by
  rw [State.frameEnded, State.frameTaken_portView, State.portView, State.updPort_port_self _ (State.lt_of_inFlight hf), State.updPort_length]
  rfl

/-- PA_FRAME_END of a write frame with nothing waiting. -/
theorem paFrameEnd_idle_completes {a : Act} {f : PaFrame} {s : State} (hf : (s.port a).inFlight = some f) (hwrite : f.read = false)
    (hstatusQ : (s.port a).statusQ = []) (hmodeQ : (s.port a).modeQ = []) (hhtrQ : (s.port a).htrQ = []) (hmailQ : (s.port a).mailQ = []) :
    completes (.paFrameEnd a) s (fun t => (t.port a).inFlight = none ∧ t.out = s.out ∧
      ∀ q, q < 6 → f.mailbox = some q → t.rd (WRP_PA_RESP.DONE (a * 6 + q)) = 1) := by
  have hview := congrArg Prod.fst (State.frameEnded_portView hf)
  have hrest : (s.frameEnded a f).paKick a = s.frameEnded a f :=
    State.paKick_of_empty ((congrArg PaPort.statusQ hview).trans hstatusQ) ((congrArg PaPort.modeQ hview).trans hmodeQ)
      ((congrArg PaPort.htrQ hview).trans hhtrQ) ((congrArg PaPort.mailQ hview).trans hmailQ)
  have hout : (s.frameEnded a f).out = s.out := (State.frameTaken_kept (subMask_refl _) (Kept.refl _ _)).out_ rfl
  exact ⟨_, (execPaFrameEnd_of_write hf hwrite).trans (congrArg _ hrest), congrArg PaPort.inFlight hview, hout,
    fun q _ hq => State.frameTaken_done _ a hq⟩

/-- PA_FRAME_END of a write frame with a STATUS read waiting first. -/
theorem paFrameEnd_status_completes {a : Act} {f : PaFrame} {pos : Nat} {l : List Nat} {s : State} (hf : (s.port a).inFlight = some f)
    (hwrite : f.read = false) (hstatus : (s.port a).statusQ = pos :: l) (hmode : s.mode ≠ .halted) (hreset : s.sys.inReset = false)
    (hpresent : s.actPresent a = true) :
    completes (.paFrameEnd a) s (fun t =>
      (t.port a).inFlight = some { read := true, pos := pos, addr := 1, data := 0, mailbox := none } ∧ (t.port a).statusQ = l) := by
  have hview := congrArg Prod.fst (State.frameEnded_portView hf)
  have hlen : a < (s.frameEnded a f).wrp.ports.length :=
    (State.lt_of_inFlight hf).trans_eq (congrArg Prod.snd (State.frameEnded_portView hf)).symm
  have hkept := State.frameTaken_kept (a := a) (f := f) (subMask_refl _) (Kept.refl _ (s.updPort a (fun p => { p with inFlight := none })))
  have hsys : (s.frameEnded a f).sys = s.sys := hkept.sys_ rfl
  have hfree : (s.frameEnded a f).PortFree a :=
    ⟨congrArg PaPort.inFlight hview, (State.mode_congr (hkept.reg_keep (by decide +kernel))).trans_ne hmode, hsys ▸ hreset,
      (State.actPresent_congr hsys a).trans hpresent⟩
  refine ⟨_, (execPaFrameEnd_of_write hf hwrite).trans (congrArg _ (State.paKick_of_status hfree ((congrArg PaPort.statusQ hview).trans hstatus))),
    State.paSend_inFlight _ (hlen.trans_eq (State.updPort_length _ _ _).symm), ?_⟩
  rw [State.paSend_port_keeps PaPort.statusQ _ _ _ _ fun _ => rfl, State.updPort_port_self _ hlen]

/-! ### The keep-alive frame (R116) -/

/-- PA_KEEPALIVE of a resting port. -/
theorem paKeepalive_completes {a : Act} {s : State} (hrest : s.PortRests a) (hmailQ : (s.port a).mailQ = []) :
    completes (.paKeepalive a) s (fun t => t.out = s.out ++ [.paFrame a (16 * (7 * 2 ^ 24) + crc4 (7 * 2 ^ 24) 28 0)] ∧ t.regs = s.regs) := by
  have hexec : execPaKeepalive a s = .next (s.paSend a (paWrite 7 0 0)) := by
    simp [execPaKeepalive, hrest.inFlight, hrest.mode, hrest.inReset, hrest.present, hrest.statusQ, hrest.modeQ, hrest.htrQ, hmailQ]
  have hport : Fin.ofNat 4 a.val = a := Fin.ofNat_val_eq_self a
  refine ⟨_, hexec, ?_, rfl⟩
  show s.out ++ [.paFrame (Fin.ofNat 4 a.val) (paWrite 7 0 0).bits] = _
  rw [hport]
  rfl

/-! ### The answer to a read (R115) -/

/-- STATUS read leaves the response of every mailbox. -/
theorem State.statusRead_resp (s : State) (a pos v : Nat) (h : Head) : (s.statusRead a pos v).reg (WRP_PA_RESP h) = s.reg (WRP_PA_RESP h) :=
  (State.statusRead_kept (subMask_refl _) (Kept.refl _ s)).reg_keep (by revert h; decide +kernel)

/-- A read of position `pos`'s mailbox is answered: DATA and DONE. -/
def State.mailAnswered (s : State) (h : Nat) (data : BitVec 16) : State :=
  s.wrs [(WRP_PA_RESP.DATA h, data.toNat), (WRP_PA_RESP.DONE h, 1)]

theorem State.mailAnswered_shown (s : State) (h : Nat) (data : BitVec 16) :
    (s.mailAnswered h data).rd (WRP_PA_RESP.DATA h) = data.toNat ∧ (s.mailAnswered h data).rd (WRP_PA_RESP.DONE h) = 1 := by
  refine ⟨?_, State.rd_wr_self _ _ _ rfl⟩
  refine (State.rd_wr_bits _ _ _ _ rfl (.inr (by show 15 < 16; decide))).trans ((State.rd_wr_self _ _ _ rfl).trans ?_)
  exact Nat.mod_eq_of_lt data.isLt

/-- PA_READ_RESPONSE with good CRC to a mailbox's read. -/
theorem paReadResponse_good_completes {a : Act} {data : BitVec 16} {f : PaFrame} {q : Nat} {s : State} (hf : (s.port a).inFlight = some f)
    (hread : f.read = true) (hmail : f.mailbox = some q) (hq : q < 6) :
    completes (.paReadResponse a data true) s (fun t =>
      t.rd (WRP_PA_RESP.DATA (a * 6 + q)) = data.toNat ∧ t.rd (WRP_PA_RESP.DONE (a * 6 + q)) = 1) := by
  let h : Head := ⟨a * 6 + q, by omega⟩
  let answered := (s.updPort a (fun p => { p with inFlight := none, repeated := false })).mailAnswered h data
  let read := if f.addr = 1 then answered.statusRead a f.pos data.toNat else answered
  have hexec : execPaReadResponse a data true s = .next (read.paKick a) := by
    simp only [execPaReadResponse, hf, hread, hmail, Bool.not_true, Bool.false_eq_true, if_false]
    rfl
  have hresp : (read.paKick a).reg (WRP_PA_RESP h) = answered.reg (WRP_PA_RESP h) := by
    refine ((read.paKick_kicked a).reg (resp_ne_cmd h)).trans ?_
    unfold read
    split
    · exact State.statusRead_resp _ _ _ _ h
    · rfl
  obtain ⟨hdata, hdone⟩ := State.mailAnswered_shown (s.updPort a (fun p => { p with inFlight := none, repeated := false })) h data
  exact ⟨_, hexec, (congrArg (fun r => getF r _ _) hresp).trans hdata, (congrArg (fun r => getF r _ _) hresp).trans hdone⟩

/-- PA_READ_RESPONSE with bad CRC to a read not yet repeated. -/
theorem paReadResponse_bad_completes {a : Act} {data : BitVec 16} {f : PaFrame} {s : State} (hf : (s.port a).inFlight = some f)
    (hread : f.read = true) (hrepeated : (s.port a).repeated = false) (hmode : s.mode ≠ .halted) (hreset : s.sys.inReset = false) :
    completes (.paReadResponse a data false) s (fun t => (t.port a).inFlight = some f ∧ (t.port a).repeated = true ∧
      t.out = s.out ++ [.paFrame a f.bits] ∧ t.regs = s.regs) := by
  let again := (s.updPort a (fun p => { p with repeated := true, silentUs := 0 })).emit (.paFrame a f.bits)
  have hexec : execPaReadResponse a data false s = .next again := by
    simp [execPaReadResponse, hf, hread, hrepeated, hmode, hreset, again]
  have hport : again.port a = { s.port a with repeated := true, silentUs := 0 } := State.updPort_port_self _ (State.lt_of_inFlight hf)
  exact ⟨_, hexec, (congrArg PaPort.inFlight hport).trans hf, congrArg PaPort.repeated hport, rfl, rfl⟩

/-! ### A mailbox of a resting port (R118) -/

/-- A list of writes leaves every field apart from those that it names. -/
theorem State.rd_wrs_apart (s : State) (l : List (Fld × Nat)) (g : Fld) (h : ∀ e ∈ l, e.1.ok = true ∧ e.1.apart g = true) :
    (s.wrs l).rd g = s.rd g := by
  induction l generalizing s with
  | nil => rfl
  | cons e l ih =>
    obtain ⟨hok, hapart⟩ := h e List.mem_cons_self
    exact (ih (s.wr e.1 e.2) fun x hx => h x (List.mem_cons_of_mem _ hx)).trans (State.rd_wr_apart s e.1 g e.2 hok hapart)

/-- The request as it stands in WRP_n_PA_CMD. -/
theorem State.mailShown_shown (s : State) (h : Head) (addr : Byte) (data : BitVec 16) (rd bcast : Bool) :
    (s.mailShown h addr data rd bcast).rd (WRP_PA_CMD.ADDR h) = addr.toNat ∧
      (s.mailShown h addr data rd bcast).rd (WRP_PA_CMD.DATA h) = data.toNat := by
  constructor
  · rw [State.mailShown, State.wrs_cons, State.rd_wrs_apart _ _ _
      (by simp [Fld.ok, Fld.apart, WRP_PA_CMD.ADDR, WRP_PA_CMD.DATA, WRP_PA_CMD.RD, WRP_PA_CMD.BCAST]),
      State.rd_wr_self _ _ _ rfl]
    exact Nat.mod_eq_of_lt addr.isLt
  · rw [State.mailShown, State.wrs_cons, State.wrs_cons, State.rd_wrs_apart _ _ _
      (by simp [Fld.ok, Fld.apart, WRP_PA_CMD.DATA, WRP_PA_CMD.RD, WRP_PA_CMD.BCAST]),
      State.rd_wr_self _ _ _ rfl]
    exact Nat.mod_eq_of_lt data.isLt

/-- The frame of head `h`'s mailbox clears GO of that mailbox. -/
theorem State.clrGo_mailFrame (s : State) (h : Head) (addr : Byte) (data : BitVec 16) (rd bcast : Bool) :
    s.clrGo (h / 6) (mailFrame h addr data rd bcast) = s.clr (WRP_PA_CMD.GO h) := by
  show s.clr (WRP_PA_CMD.GO (h / 6 * 6 + h % 6)) = _
  rw [Nat.div_add_mod']

/-- A free port where one mailbox frame waits, and nothing else, sends it and clears GO (R118). -/
theorem State.paKick_mailFrame {s : State} {h : Head} {addr : Byte} {data : BitVec 16} {rd bcast : Bool} (hrest : s.PortRests (h / 6))
    (hlen : h / 6 < s.wrp.ports.length) (hmailQ : (s.port (h / 6)).mailQ = [mailFrame h addr data rd bcast]) :
    ∃ t : State, s.paKick (h / 6) = t.clr (WRP_PA_CMD.GO h) ∧ (t.port (h / 6)).inFlight = some (mailFrame h addr data rd bcast) ∧ t.regs = s.regs :=
  ⟨_, (State.paKick_of_mail hrest.toPortFree hrest.statusQ hrest.modeQ hrest.htrQ hmailQ).trans (State.clrGo_mailFrame _ h addr data rd bcast),
    State.paSend_inFlight _ (hlen.trans_eq (State.updPort_length _ _ _).symm), rfl⟩

/-- The request taken leaves the port free, with its frame behind those that wait. -/
theorem State.PortRests.mailQueued {s : State} {h : Head} (hrest : s.PortRests (h / 6)) (ha : h / 6 < s.wrp.ports.length) (addr : Byte)
    (data : BitVec 16) (rd bcast : Bool) : (s.mailQueued h addr data rd bcast).PortRests (h / 6) := by
  have hport := State.mailQueued_port h addr data rd bcast s ha
  have hsys := State.mailQueued_sys h addr data rd bcast s
  have hmode := State.mode_congr (State.mailQueued_reg h addr data rd bcast s (b := SYS_MODE) (by unfold SYS_MODE WRP_PA_CMD; omega))
  exact ⟨⟨(congrArg PaPort.inFlight hport).trans hrest.inFlight, hmode.trans_ne hrest.mode, (congrArg SysU.inReset hsys).trans hrest.inReset,
    (State.actPresent_congr hsys _).trans hrest.present⟩, (congrArg PaPort.statusQ hport).trans hrest.statusQ,
    (congrArg PaPort.modeQ hport).trans hrest.modeQ, (congrArg PaPort.htrQ hport).trans hrest.htrQ⟩

/-- GO cleared, the request stands as it was shown. -/
theorem State.mailQueued_shown {s t : State} {h : Head} {addr : Byte} {data : BitVec 16} {rd bcast : Bool}
    (hregs : t.regs = (s.mailQueued h addr data rd bcast).regs) {g : Fld} (hgo : (WRP_PA_CMD.GO h).apart g = true) :
    (t.clr (WRP_PA_CMD.GO h)).rd g = (s.mailShown h addr data rd bcast).rd g :=
  (State.rd_wr_apart t _ g 0 rfl hgo).trans ((State.rd_congr (hregs.trans (State.mailQueued_regs h addr data rd bcast s)) g).trans
    (State.rd_wr_apart _ _ g 1 rfl hgo))

/-- PA_MAILBOX_CMD on a resting port, of an access that is allowed. -/
theorem paMailboxCmd_rest_completes {w : Initiator} {h : Head} {addr : Byte} {data : BitVec 16} {rd bcast : Bool} {s : State}
    (hw : s.mayWrite w = true) (hpresent : s.headPresent h = true) (hread : (rd && bcast) = false)
    (hallowed : rd = true ∨ s.mode = .factory ∨ addr ∉ ([3, 4, 5] : List Byte)) (hports : s.wrp.ports.length = 4)
    (hrest : s.PortRests (h / 6)) (hmailQ : (s.port (h / 6)).mailQ = []) :
    completes (.paMailboxCmd w h addr data rd bcast) s (fun t => (t.port (h / 6)).inFlight = some (mailFrame h addr data rd bcast) ∧
      t.rd (WRP_PA_CMD.ADDR h) = addr.toNat ∧ t.rd (WRP_PA_CMD.DATA h) = data.toNat ∧ t.rd (WRP_PA_CMD.GO h) = 0) := by
  have ha : h / 6 < s.wrp.ports.length := by omega
  have hwaits : ((s.mailQueued h addr data rd bcast).port (h / 6)).mailQ = [mailFrame h addr data rd bcast] := by
    rw [State.mailQueued_port h addr data rd bcast s ha, hmailQ]
    rfl
  obtain ⟨t, hkick, hflight, hregs⟩ := State.paKick_mailFrame (hrest.mailQueued ha addr data rd bcast)
    (ha.trans_eq (State.mailQueued_length h addr data rd bcast s).symm) hwaits
  obtain ⟨haddr, hdata⟩ := State.mailShown_shown s h addr data rd bcast
  refine ⟨_, (execPaMailboxCmd_of_allowed hw hpresent hread hallowed).trans (congrArg _ hkick), hflight,
    (State.mailQueued_shown hregs ?_).trans haddr, (State.mailQueued_shown hregs ?_).trans hdata, State.rd_wr_self _ _ _ rfl⟩
  · simp [Fld.apart, WRP_PA_CMD.GO, WRP_PA_CMD.ADDR]
  · simp [Fld.apart, WRP_PA_CMD.GO, WRP_PA_CMD.DATA]

/-! ### Heater values (R120) -/

/-- A heater value of a head on a resting port is sent at once, no gate being open on the head (R121). -/
theorem State.heaterFrame_of_rests {s : State} {h v : Nat} (hrest : s.PortRests (h / 6)) (hgate : s.headGate h = false)
    (hlen : h / 6 < s.wrp.ports.length) :
    ∃ t : State, s.heaterFrame h v = t.paSend (h / 6) (paWrite (h % 6) 5 v) ∧ h / 6 < t.wrp.ports.length ∧ t.regs = s.regs ∧
      t.head h = (s.updHead h (fun u => { u with htr := v })).head h := by
  let queued := s.updPort (h / 6) (fun p => { p with htrQ := p.htrQ ++ [(h % 6, v)] })
  have hport : queued.port (h / 6) = { s.port (h / 6) with htrQ := [(h % 6, v)] } :=
    (State.updPort_port_self _ hlen).trans (by rw [hrest.htrQ]; rfl)
  have hhead : h / 6 * 6 + h % 6 = h := Nat.div_add_mod' h 6
  have hkick := State.paKick_of_heater (s := queued) (hrest.toPortFree.updPort fun _ => rfl)
    ((congrArg PaPort.statusQ hport).trans hrest.statusQ) ((congrArg PaPort.modeQ hport).trans hrest.modeQ) (congrArg PaPort.htrQ hport)
    (hhead.symm ▸ hgate)
  rw [hhead] at hkick
  exact ⟨_, hkick, hlen.trans_eq ((State.updPort_length _ _ _).trans (State.updPort_length _ _ _)).symm, rfl, rfl⟩

/-- A heater change that falls due on a resting port: its frame is in flight, and of the head only what made it due changes, with its value. -/
theorem heaterUpdate_completes {h : Head} {why : HeaterWhy} {s : State} {f : HeadU → HeadU} {v : Nat}
    (hexec : execHeaterUpdate h why s = .next ((s.updHead h f).heaterFrame h v)) (hf : ∀ u, (f u).gate = u.gate)
    (hports : s.wrp.ports.length = 4) (hheads : s.wrp.heads.length = 24) (hrest : s.PortRests (h / 6)) (hgate : s.headGate h = false) :
    completes (.heaterUpdate h why) s (fun t => (t.port (h / 6)).inFlight = some (paWrite (h % 6) 5 v) ∧
      t.head h = { f (s.head h) with htr := v } ∧ t.regs = s.regs) := by
  have hrest' : (s.updHead h f).PortRests (h / 6) := ⟨hrest.toPortFree.updHead h f, hrest.statusQ, hrest.modeQ, hrest.htrQ⟩
  obtain ⟨t, hsend, hlen, hregs, hhtr⟩ := State.heaterFrame_of_rests (v := v) hrest' ((State.headGate_updHead s h h hf).trans hgate)
    (show h / 6 < s.wrp.ports.length by omega)
  have hh : h < s.wrp.heads.length := h.isLt.trans_eq hheads.symm
  have hhead : t.head h = { f (s.head h) with htr := v } :=
    hhtr.trans ((State.updHead_head_self _ (hh.trans_eq (listModify_length _ _ _).symm)).trans
      (congrArg (fun u : HeadU => { u with htr := v }) (State.updHead_head_self f hh)))
  exact ⟨_, hexec.trans (congrArg _ hsend), State.paSend_inFlight _ hlen, hhead, hregs⟩

section
variable {h : Head} {s : State} (hpresent : s.headPresent h = true)
include hpresent

theorem execHeaterUpdate_of_preheat {n : Nat} (hrun : (s.head h).run = false) (hnext : s.nextWriteIn h = some n)
    (hn : n ≤ s.rd (WRP_HTR_CFG.PREHEAT h)) :
    execHeaterUpdate h .preheat s = .next ((s.updHead h (fun u => { u with run := true })).heaterFrame h (s.rd (WRP_HTR_CFG.HTR_WR h))) := by
  simp [execHeaterUpdate, hpresent, hrun, hnext, hn]

theorem execHeaterUpdate_of_runEnd (hrun : (s.head h).run = true) (hwrites : s.hasWrites h = false) :
    execHeaterUpdate h .runEnd s = .next ((s.updHead h (fun u => { u with run := false })).heaterFrame h (s.rd (WRP_HTR_CFG.HTR_RD h))) := by
  simp [execHeaterUpdate, hpresent, hrun, hwrites]

theorem execHeaterUpdate_of_modeChange (hdue : (s.head h).htrDue = true) :
    execHeaterUpdate h .modeChange s = .next ((s.updHead h (fun u => { u with htrDue := false })).heaterFrame h (s.heaterFor h)) := by
  simp [execHeaterUpdate, hpresent, hdue]

variable (hports : s.wrp.ports.length = 4) (hheads : s.wrp.heads.length = 24) (hrest : s.PortRests (h / 6)) (hgate : s.headGate h = false)
include hports hheads hrest hgate

/-- HEATER_UPDATE ahead of a run of writes. -/
theorem heaterUpdate_preheat_completes {n : Nat} (hrun : (s.head h).run = false) (hnext : s.nextWriteIn h = some n)
    (hn : n ≤ s.rd (WRP_HTR_CFG.PREHEAT h)) :
    completes (.heaterUpdate h .preheat) s (fun t => (t.port (h / 6)).inFlight = some (paWrite (h % 6) 5 (s.rd (WRP_HTR_CFG.HTR_WR h))) ∧
      (t.head h).run = true ∧ t.regs = s.regs) := by
  obtain ⟨t, hexec, hsent, hhead, hregs⟩ :=
    heaterUpdate_completes (execHeaterUpdate_of_preheat hpresent hrun hnext hn) (fun _ => rfl) hports hheads hrest hgate
  exact ⟨t, hexec, hsent, congrArg HeadU.run hhead, hregs⟩

/-- HEATER_UPDATE when the run is over. -/
theorem heaterUpdate_runEnd_completes (hrun : (s.head h).run = true) (hwrites : s.hasWrites h = false) :
    completes (.heaterUpdate h .runEnd) s (fun t => (t.port (h / 6)).inFlight = some (paWrite (h % 6) 5 (s.rd (WRP_HTR_CFG.HTR_RD h))) ∧
      (t.head h).run = false ∧ t.regs = s.regs) := by
  obtain ⟨t, hexec, hsent, hhead, hregs⟩ :=
    heaterUpdate_completes (execHeaterUpdate_of_runEnd hpresent hrun hwrites) (fun _ => rfl) hports hheads hrest hgate
  exact ⟨t, hexec, hsent, congrArg HeadU.run hhead, hregs⟩

/-- HEATER_UPDATE behind a change of MODE. -/
theorem heaterUpdate_modeChange_completes (hdue : (s.head h).htrDue = true) :
    completes (.heaterUpdate h .modeChange) s (fun t => (t.port (h / 6)).inFlight = some (paWrite (h % 6) 5 (s.heaterFor h)) ∧
      (t.head h).htrDue = false ∧ t.regs = s.regs) := by
  obtain ⟨t, hexec, hsent, hhead, hregs⟩ :=
    heaterUpdate_completes (execHeaterUpdate_of_modeChange hpresent hdue) (fun _ => rfl) hports hheads hrest hgate
  exact ⟨t, hexec, hsent, congrArg HeadU.htrDue hhead, hregs⟩

end

end Sys2Proof.Machine
end

