-- ==== Sys2Proof/Proofs/PreampFaults.lean ====
section
/-! The fault line of the preamplifiers and the confirming tests of heads (R123, R124; O32). -/

namespace Sys2Proof.Machine
open Reg

/-! ### Loops over heads -/

/-- What each pass of a loop brings about for its element, and no pass undoes, holds for all of them. -/
theorem State.forEach_all {α : Type} {Q : α → State → Prop} {f : α → State → State} (hself : ∀ x t, Q x (f x t))
    (hkeep : ∀ x y t, Q y t → Q y (f x t)) (l : List α) (s : State) : ∀ x ∈ l, Q x (s.forEach l f) := by
  have stays (l : List α) (s : State) (x : α) (hx : Q x s) : Q x (s.forEach l f) := by
    induction l generalizing s with
    | nil => exact hx
    | cons y l ih => exact ih _ (hkeep y x s hx)
  induction l generalizing s with
  | nil => exact fun x hx => absurd hx List.not_mem_nil
  | cons y l ih =>
    intro x hx
    rcases List.mem_cons.1 hx with rfl | hx
    · exact stays l _ x (hself x s)
    · exact ih _ x hx

theorem State.mem_headsOf {s : State} {a h : Nat} (hpresent : s.headPresent h = true) (ha : h / 6 = a) : h ∈ s.headsOf a := by
  refine List.mem_filter.2 ⟨List.mem_map.2 ⟨h % 6, List.mem_range.2 (Nat.mod_lt h (by decide)), ?_⟩, hpresent⟩
  rw [← ha]
  exact Nat.div_add_mod' h 6

/-! ### Gates drop, and status bits show it (R124, R126) -/

/-- A status bit of a head leaves the write path. -/
@[simp] theorem State.wrpBit_wrp (s : State) (h : Nat) (f : Nat → Fld) : (s.wrpBit h f).wrp = s.wrp :=
  State.when_keeps State.wrp (s.setB (f h)) _ fun _ => rfl

theorem State.wrpBit_rd (s : State) (h : Nat) (f : Nat → Fld) (g : Fld) : (s.wrpBit h f).rd g = (s.setB (f h)).rd g :=
  State.rd_congr (State.irqIf_regs _ _ _ _) g

@[simp] theorem State.wrpBits_wrp (s : State) (hs : List Nat) (f : Nat → Fld) : (s.wrpBits hs f).wrp = s.wrp :=
  State.forEach_keeps State.wrp s hs _ fun h t => State.wrpBit_wrp t h f

theorem State.wrpBits_paFault (s : State) (hs : List Nat) : ∀ h ∈ hs, (s.wrpBits hs WRP_STATUS.PA_FAULT).rd (WRP_STATUS.PA_FAULT h) = 1 := by
  have hset (h : Nat) (t : State) : (t.wrpBit h WRP_STATUS.PA_FAULT).rd (WRP_STATUS.PA_FAULT h) = 1 :=
    (State.wrpBit_rd t h _ _).trans (State.rd_wr_self _ _ _ rfl)
  refine State.forEach_all (Q := fun h t => t.rd (WRP_STATUS.PA_FAULT h) = 1) hset (fun k h t ht => ?_) hs s
  by_cases hk : h = k
  · exact hk ▸ hset h t
  · have haddr : WRP_STATUS h ≠ WRP_STATUS k := by unfold WRP_STATUS; omega
    exact (State.wrpBit_rd t k _ _).trans ((State.rd_wr_addr t (WRP_STATUS.PA_FAULT k) _ 1 haddr).trans ht)

/-- A drop that the head itself did not cause: it closes the head's gate if one is open, and changes nothing else of the write path. -/
theorem State.dropGate_wrp (s : State) (h : Nat) : ((s.head h).gate = none ∧ s.dropGate false h = s) ∨
    (s.dropGate false h).wrp = (s.updHead h (fun u => { u with gate := none })).wrp := by
  cases hgate : (s.head h).gate with
  | none => exact .inl ⟨rfl, by simp only [State.dropGate, hgate]⟩
  | some g =>
    refine .inr ?_
    simp only [State.dropGate, hgate, Bool.false_eq_true, if_false]
    exact ((State.returnSector_kept (subMask_refl _) (Kept.refl _ _)).wrp_ rfl).trans (State.wrpBit_wrp _ _ _)

theorem State.dropGates_ports (s : State) (hs : List Nat) : (s.dropGates false hs).wrp.ports = s.wrp.ports := by
  refine State.forEach_keeps (fun t => t.wrp.ports) s hs _ fun h t => ?_
  rcases t.dropGate_wrp h with ⟨_, hsame⟩ | hdrop
  · exact congrArg (fun u : State => u.wrp.ports) hsame
  · exact (congrArg WrpU.ports hdrop).trans rfl

theorem State.dropGates_gate (s : State) (hs : List Nat) : ∀ h ∈ hs, ((s.dropGates false hs).head h).gate = none := by
  have hshut (h : Nat) (t : State) : ((t.dropGate false h).head h).gate = none := by
    rcases t.dropGate_wrp h with ⟨hnone, hsame⟩ | hdrop
    · rwa [hsame]
    · rw [State.head_congr hdrop]
      exact listModify_getD_of (P := fun u : HeadU => u.gate = none) rfl (fun _ => rfl) t.wrp.heads h
  refine State.forEach_all (Q := fun h t => (t.head h).gate = none) hshut (fun k h t ht => ?_) hs s
  by_cases hk : k = h
  · exact hk ▸ hshut k t
  · rcases t.dropGate_wrp k with ⟨_, hsame⟩ | hdrop
    · rwa [hsame]
    · rw [State.head_congr hdrop]
      exact (congrArg HeadU.gate (listModify_getD_ne t.wrp.heads _ _ hk)).trans ht

/-! ### The fault line (R124) -/

/-- A head keeps which sector it was writing (R126). -/
def HeadU.keepDrop (u : HeadU) : HeadU := { u with paDrop := u.gate.map (fun g => g.1) }

/-- The line of port `a` has gone low: the condition stands, a STATUS read of each head waits, and what each head was writing is kept (R126). -/
def State.lineFell (s : State) (a : Act) : State :=
  (s.updPort a (fun p => { p with lineLow := true, fault := true, statusQ := (s.headsOf a).map (fun h => h % 6) })).forEach (s.headsOf a)
    (fun h t => t.updHead h HeadU.keepDrop)

theorem State.lineFell_port {s : State} {a : Act} (ha : a < s.wrp.ports.length) :
    ((s.lineFell a).port a).lineLow = true ∧ ((s.lineFell a).port a).fault = true := by
  let fell := s.updPort a (fun p => { p with lineLow := true, fault := true, statusQ := (s.headsOf a).map (fun h => h % 6) })
  have hport : (s.lineFell a).port a = fell.port a :=
    State.port_congr (State.forEach_keeps (fun t => t.wrp.ports) fell (s.headsOf a)
      (fun h t => t.updHead h HeadU.keepDrop) fun _ _ => rfl) a
  have hfell : fell.port a = _ := State.updPort_port_self _ ha
  rw [hport, hfell]
  exact ⟨rfl, rfl⟩

theorem execPaFaultNFall_of_present {a : Act} {s : State} (hpresent : s.actPresent a = true) :
    execPaFaultNFall a s =
      .next ((((s.lineFell a).dropGates false (s.headsOf a)).wrpBits (s.headsOf a) WRP_STATUS.PA_FAULT).paKick a) := by
  simp only [execPaFaultNFall, hpresent, Bool.not_true, Bool.false_eq_true, if_false]
  rfl

theorem status_ne_cmd (h k : Nat) : WRP_STATUS h ≠ WRP_PA_CMD k := by
  unfold WRP_STATUS WRP_PA_CMD
  omega

/-- PA_FAULT_N_FALL of a present actuator. -/
theorem paFaultNFall_completes {a : Act} {s : State} (hpresent : s.actPresent a = true) (hports : s.wrp.ports.length = 4) :
    completes (.paFaultNFall a) s (fun t => (t.port a).lineLow = true ∧ (t.port a).fault = true ∧
      ∀ h, h < 24 → s.headPresent h = true → h / 6 = a.val → (t.head h).gate = none ∧ t.rd (WRP_STATUS.PA_FAULT h) = 1) := by
  let dropped := (s.lineFell a).dropGates false (s.headsOf a)
  let shown := dropped.wrpBits (s.headsOf a) WRP_STATUS.PA_FAULT
  have hwrp : shown.wrp = dropped.wrp := State.wrpBits_wrp _ _ _
  have hkick := shown.paKick_kicked a
  have hport : shown.port a = (s.lineFell a).port a :=
    State.port_congr ((congrArg WrpU.ports hwrp).trans (State.dropGates_ports _ _)) a
  obtain ⟨hline, hfault⟩ := State.lineFell_port (s := s) (a := a) (by omega)
  refine ⟨_, execPaFaultNFall_of_present hpresent, ?_, ?_, fun h _ hhead ha => ⟨?_, ?_⟩⟩
  · exact (hkick.port_keeps (p := PaPort.lineLow) (fun _ _ _ _ _ => rfl) fun _ _ => rfl).trans ((congrArg PaPort.lineLow hport).trans hline)
  · exact (hkick.port_keeps (p := PaPort.fault) (fun _ _ _ _ _ => rfl) fun _ _ => rfl).trans ((congrArg PaPort.fault hport).trans hfault)
  · exact (hkick.gate h).trans ((congrArg HeadU.gate (State.head_congr hwrp h)).trans
      (State.dropGates_gate _ _ h (State.mem_headsOf hhead ha)))
  · exact (congrArg (fun r => getF r _ _) (hkick.reg (status_ne_cmd h))).trans (State.wrpBits_paFault _ _ h (State.mem_headsOf hhead ha))

/-- PA_FAULT_N_RISE with every cause gone. -/
theorem paFaultNRise_completes {a : Act} {s : State} (hpresent : s.actPresent a = true) (hwaits : (s.port a).statusWaits = false)
    (hclear : (s.port a).status.all (fun x => x % 2048 == 0) = true) :
    completes (.paFaultNRise a) s (fun t => (t.port a).lineLow = false ∧ (t.port a).fault = false ∧ t.regs = s.regs) := by
  let rose := s.updPort a (fun p => { p with lineLow := false })
  have hexec : execPaFaultNRise a s = .next (rose.paCheck a) := by simp only [execPaFaultNRise, hpresent, if_true, rose]
  have hline : (rose.port a).lineLow = false :=
    listModify_getD_of (P := fun p : PaPort => p.lineLow = false) rfl (fun _ => rfl) s.wrp.ports a
  have hwaits' : (rose.port a).statusWaits = (s.port a).statusWaits := State.updPort_port_keeps PaPort.statusWaits s a a fun _ => rfl
  have hstatus : (rose.port a).status = (s.port a).status := State.updPort_port_keeps PaPort.status s a a fun _ => rfl
  refine ⟨_, hexec, ?_, ?_, State.paCheck_regs rose a⟩
  · exact (congrArg (fun v : PaPort × Nat => v.1.lineLow) (State.paCheck_portView rose a a)).trans hline
  · unfold State.paCheck
    simp only [hline, hwaits', hwaits, hstatus, hclear, Bool.not_false, Bool.and_true]
    split
    · exact listModify_getD_of (P := fun p : PaPort => p.fault = false) rfl (fun _ => rfl) rose.wrp.ports a
    · next hfault => exact Bool.eq_false_of_not_eq_true hfault

/-! ### Confirming tests (R123) -/

/-- A test can run on a present head: its port is free with neither STATUS reads nor MODE changes waiting, and no gate is open on the head. -/
theorem State.portFree_of_testReady {s : State} {h : Nat} (hpresent : s.headPresent h = true) (hready : s.testReady h = true) :
    s.PortFree (h / 6) ∧ (s.port (h / 6)).statusQ = [] ∧ (s.port (h / 6)).modeQ = [] ∧ s.headGate h = false := by
  simp only [State.testReady, Bool.and_eq_true, Option.isNone_iff_eq_none, List.isEmpty_iff, Bool.not_eq_true', bne_iff_ne] at hready
  obtain ⟨⟨⟨⟨⟨hflight, hstatus⟩, hmode⟩, hgate⟩, hhalted⟩, hreset⟩ := hready
  exact ⟨⟨hflight, hhalted, hreset, State.actPresent_of_headPresent hpresent⟩, hstatus, hmode, hgate⟩

/-- A head on a free port is sent to IDLE at once. -/
theorem State.arm_idle_of_free {s : State} {h : Nat} (hfree : s.PortFree (h / 6)) (hstatus : (s.port (h / 6)).statusQ = [])
    (hmode : (s.port (h / 6)).modeQ = []) (hgate : s.headGate h = false) (hlen : h / 6 < s.wrp.ports.length) :
    ∃ t : State, s.arm h 0 = t.paSend (h / 6) (paWrite (h % 6) 3 0) ∧ h / 6 < t.wrp.ports.length ∧ t.out = s.out := by
  let queued := s.updPort (h / 6) (fun p => { p with modeQ := p.modeQ ++ [(h % 6, 0)] })
  have hport : queued.port (h / 6) = { s.port (h / 6) with modeQ := [(h % 6, 0)] } :=
    (State.updPort_port_self _ hlen).trans (by rw [hmode]; rfl)
  have hhead : h / 6 * 6 + h % 6 = h := Nat.div_add_mod' h 6
  have hkick := State.paKick_of_mode (s := queued) (hfree.updPort fun _ => rfl) ((congrArg PaPort.statusQ hport).trans hstatus)
    (congrArg PaPort.modeQ hport) (hhead.symm ▸ hgate) (by decide)
  exact ⟨_, hkick, hlen.trans_eq ((State.updPort_length _ _ _).trans (State.updPort_length _ _ _)).symm, rfl⟩

/-- The two frames of a test: MEASURE, and the read of STATUS (log entry 58). -/
def State.testSent (s : State) (h : Nat) : State :=
  (s.emit (.paFrame (Fin.ofNat 4 (h / 6)) (paWrite (h % 6) 7 1).bits)).emit
    (.paFrame (Fin.ofNat 4 (h / 6)) ({ read := true, pos := h % 6, addr := 1, data := 0, mailbox := none } : PaFrame).bits)

section
variable {h : Head} {status : BitVec 8} {s : State} (hpresent : s.headPresent h = true) (hready : s.testReady h = true)
include hpresent hready

/-- HEAD_CONFIRM_TEST of a head that is not in IDLE. -/
theorem headConfirmTest_toIdle_completes (htests : (s.head h).tests = 0) (hfind : s.findings h ≠ 0) (hmode : (s.head h).mode ≠ 0)
    (hports : s.wrp.ports.length = 4) :
    completes (.headConfirmTest h status) s (fun t => (t.port (h / 6)).inFlight = some (paWrite (h % 6) 3 0) ∧
      t.out = s.out ++ [.paFrame (Fin.ofNat 4 (h / 6)) (paWrite (h % 6) 3 0).bits]) := by
  have hexec : execHeadConfirmTest h status s = .next (s.arm h 0) := by
    simp [execHeadConfirmTest, hpresent, hready, htests, hfind, hmode]
  obtain ⟨hfree, hstatus, hmodeQ, hgate⟩ := State.portFree_of_testReady hpresent hready
  obtain ⟨t, harm, hlen, hout⟩ := State.arm_idle_of_free hfree hstatus hmodeQ hgate (by omega)
  exact ⟨_, hexec.trans (congrArg _ harm), State.paSend_inFlight _ hlen, congrArg (· ++ _) hout⟩

/-- The first test of a head in IDLE. -/
theorem headConfirmTest_first_completes (htests : (s.head h).tests = 0) (hfind : s.findings h ≠ 0) (hmode : (s.head h).mode = 0)
    (hheads : s.wrp.heads.length = 24) :
    completes (.headConfirmTest h status) s (fun t => (t.head h).tests = 1 ∧ (t.head h).finding = s.findings h ∧ t.regs = s.regs ∧
      t.out.length = s.out.length + 2) := by
  let tested := (s.testSent h).updHead h (fun u => { u with
    tests := 1, finding := s.findings h, confirms := s.findings h &&& confirmMask status.toNat })
  have hexec : execHeadConfirmTest h status s = .next tested := by
    simp [execHeadConfirmTest, hpresent, hready, htests, hfind, hmode, tested, State.testSent]
  have hhead : tested.head h = _ := State.updHead_head_self _ (h.isLt.trans_eq hheads.symm)
  refine ⟨_, hexec, by rw [hhead], by rw [hhead], rfl, ?_⟩
  show ((s.out ++ [_]) ++ [_]).length = _
  simp

end

/-- A STATUS word with WRITER_OPEN or WRITER_SHORT confirms the finding of the writer. -/
theorem confirmMask_writer {v : Nat} (hv : (bitOf v 1 || bitOf v 2) = true) : bitOf (4 &&& confirmMask v) 2 = true := by
  unfold confirmMask
  dsimp only
  rw [hv]
  generalize (bitOf v 3 || bitOf v 4) = ra
  generalize (bitOf v 5 || bitOf v 6) = rb
  revert ra rb
  decide

/-- A bit that is on reads 1. -/
theorem State.rd_of_on {s : State} {f : Fld} (hon : s.on f = true) (hbit : f.hi = f.lo) : s.rd f = 1 := by
  have hlt := State.rd_lt s f
  rw [hbit, Nat.add_sub_cancel_left] at hlt
  have hne : s.rd f ≠ 0 := by simpa [State.on] using hon
  omega

theorem State.logFree_status (s : State) (typ source : Nat) (h : Head) : (s.logFree typ source).reg (WRP_STATUS h) = s.reg (WRP_STATUS h) :=
  (State.logFree_kept (subMask_refl _) (Kept.refl _ _)).reg_keep (by revert h; decide +kernel)

theorem State.writerLostZones_status (s : State) (h : Head) : (s.writerLostZones h).reg (WRP_STATUS h) = s.reg (WRP_STATUS h) :=
  (State.writerLostZones_kept (subMask_refl _) (Kept.refl _ _)).reg_keep (by revert h; decide +kernel)

/-- Losing the writer shows WRITER_LOST, whether it was lost before or is now. -/
theorem State.loseWriter_lost (s : State) (h : Head) : (s.loseWriter h).rd (WRP_STATUS.WRITER_LOST h) = 1 := by
  unfold State.loseWriter
  split
  · next hon => exact State.rd_of_on hon rfl
  · let shown := s.wrpBit h WRP_STATUS.WRITER_LOST
    let logged := shown.logFree 0x000C 0x1FF
    have hshown : shown.rd (WRP_STATUS.WRITER_LOST h) = 1 := (State.wrpBit_rd s h _ _).trans (State.rd_wr_self _ _ _ rfl)
    have hkept : (logged.writerLostZones h).reg (WRP_STATUS h) = shown.reg (WRP_STATUS h) :=
      (State.writerLostZones_status logged h).trans (State.logFree_status shown _ _ h)
    exact (State.rd_wr_bits _ _ _ _ rfl (.inr (by show 11 < 14; decide))).trans ((congrArg (fun r => getF r _ _) hkept).trans hshown)

/-- The second test of a writer that again reports: the finding is decided (R123). -/
theorem headConfirmTest_writer_completes {h : Head} {status : BitVec 8} {s : State} (hpresent : s.headPresent h = true)
    (hready : s.testReady h = true) (htests : (s.head h).tests = 1) (hfind : (s.head h).finding = 4) (hconfirms : (s.head h).confirms = 4)
    (hmode : (s.head h).mode = 0) (hagain : (bitOf status.toNat 1 || bitOf status.toNat 2) = true) :
    completes (.headConfirmTest h status) s (fun t => t.rd (WRP_STATUS.WRITER_LOST h) = 1 ∧ (t.head h).tests = 0) := by
  let decided := (s.testSent h).updHead h (fun u => { u with tests := 0, finding := 0, confirms := 0 })
  have hexec : execHeadConfirmTest h status s = .next (decided.loseWriter h) := by
    have hreader : (bitOf 4 0 || bitOf 4 3) = false ∧ (bitOf 4 1 || bitOf 4 4) = false ∧ bitOf 4 2 = true := by decide
    simp [execHeadConfirmTest, hpresent, hready, htests, hfind, hconfirms, hmode, hreader, confirmMask_writer hagain, decided, State.testSent]
  have hwrp : (decided.loseWriter h).wrp = decided.wrp := (State.loseWriter_kept (subMask_refl _) (Kept.refl _ _)).wrp_ rfl
  refine ⟨_, hexec, State.loseWriter_lost decided h, ?_⟩
  rw [State.head_congr hwrp]
  exact listModify_getD_of (P := fun u : HeadU => u.tests = 0) rfl (fun _ => rfl) s.wrp.heads h

/-- Settles O32, clause by clause: frames end, are kept alive and are answered; mailboxes; heaters; the fault line; confirming tests. -/
theorem preampCommands : Obligations.PreampCommands := by
  refine ⟨fun a f s hf hwrite hstatusQ hmodeQ hhtrQ hmailQ => paFrameEnd_idle_completes hf hwrite hstatusQ hmodeQ hhtrQ hmailQ,
    fun a f pos l s hf hwrite hstatusQ hmode hreset hpresent => paFrameEnd_status_completes hf hwrite hstatusQ hmode hreset hpresent,
    fun a s hpresent hmode hreset hflight hstatusQ hmodeQ hhtrQ hmailQ =>
      paKeepalive_completes ⟨⟨hflight, hmode, hreset, hpresent⟩, hstatusQ, hmodeQ, hhtrQ⟩ hmailQ,
    fun a data f q s hf hread hmail hq => paReadResponse_good_completes hf hread hmail hq,
    fun a data f s hf hread hrepeated hmode hreset => paReadResponse_bad_completes hf hread hrepeated hmode hreset,
    fun w h addr data rd bcast s hw hpresent hread hreset hmode hallowed hports hflight hstatusQ hmodeQ hhtrQ hmailQ => ?_,
    fun w h addr data bcast s hw hpresent hmode howned => ?_,
    fun h n s hpresent hmode hreset hports hheads hflight hstatusQ hmodeQ hhtrQ hgate hrun hnext hn => ?_,
    fun h s hpresent hmode hreset hports hheads hflight hstatusQ hmodeQ hhtrQ hgate hrun hwrites => ?_,
    fun h s hpresent hmode hreset hports hheads hflight hstatusQ hmodeQ hhtrQ hgate hdue => ?_,
    fun a s hpresent hports => paFaultNFall_completes hpresent hports,
    fun a s hpresent hwaits hclear => paFaultNRise_completes hpresent hwaits hclear,
    fun h status s hpresent htests hfind hready hmode hports => headConfirmTest_toIdle_completes hpresent hready htests hfind hmode hports,
    fun h status s hpresent htests hfind hready hmode hheads => headConfirmTest_first_completes hpresent hready htests hfind hmode hheads,
    fun h status s hpresent htests hfind hconfirms hready hmode hagain =>
      headConfirmTest_writer_completes hpresent hready htests hfind hconfirms hmode hagain⟩
  · have hrest := State.portRests_of_head hpresent hmode hreset hflight hstatusQ hmodeQ hhtrQ
    exact paMailboxCmd_rest_completes hw hpresent hread hallowed hports hrest hmailQ
  · obtain ⟨t, hexec, hrefused, hwrp, _⟩ := paMailboxCmd_owned_completes (data := data) (bcast := bcast) hw hpresent hmode howned
    exact ⟨t, hexec, hrefused, hwrp⟩
  · have hrest := State.portRests_of_head hpresent hmode hreset hflight hstatusQ hmodeQ hhtrQ
    exact heaterUpdate_preheat_completes hpresent hports hheads hrest hgate hrun hnext hn
  · have hrest := State.portRests_of_head hpresent hmode hreset hflight hstatusQ hmodeQ hhtrQ
    exact heaterUpdate_runEnd_completes hpresent hports hheads hrest hgate hrun hwrites
  · have hrest := State.portRests_of_head hpresent hmode hreset hflight hstatusQ hmodeQ hhtrQ
    exact heaterUpdate_modeChange_completes hpresent hports hheads hrest hgate hdue

end Sys2Proof.Machine
end

