-- ==== Sys2Proof/Proofs/SequencerStore.lean ====
section
/-! Reads of the Twiari stores through SEQ_STORE_DATA (O15). -/

namespace Sys2Proof.Machine
open Reg

/-! ### A Helm read of a register (R483, R484) -/

/-- Clearing what a read took outputs nothing. -/
theorem State.rcClear_out (s : State) (a i : Nat) (fs : List FieldDesc) (read : Word) : (s.rcClear a i fs read).out = s.out := by
  unfold State.rcClear
  split
  · rfl
  split
  · rfl
  split <;> rfl

/-- What a read shows depends on its reader for the watch log alone (R467). -/
theorem State.seenBy_of_ne {s : State} {w : Initiator} {a : Nat} (hlo : a ≠ WCH_WLOG_LO) (hhi : a ≠ WCH_WLOG_HI) : s.seenBy w a = s := by
  simp [State.seenBy, hlo, hhi]

/-- A Helm read of a register that the map lists, outside HALTED with no write posted, adds one output: what the register reads. -/
theorem rcRead_helm_completes {a : BitVec 27} {o i : Nat} {d : RegDesc} {s : State} (lag : Word) (ho : a.toNat / 4 * 4 = o) (hlive : o < 0x200000)
    (hreg : regDesc? o = some (d, i)) (hmode : s.mode ≠ .halted) (hposted : s.postQ .helm = []) :
    completes (.rcRead .helm a lag) s (fun t => t.out = s.out ++ [.regRead ((s.seenBy .helm o).liveRead o)]) := by
  subst ho
  have hslow : (slowAt (a.toNat / 4 * 4) && Initiator.helm == .host) = false := Bool.and_false _
  have hread : s.haltReadable (a.toNat / 4 * 4) = true := by simp [State.haltReadable, hmode]
  refine ⟨_, rfl, ?_⟩
  simp only [hslow, hread, hposted, hreg, State.canReach, List.isEmpty_nil, Bool.not_true, Bool.not_false, Bool.true_and, Bool.or_self,
    Bool.false_eq_true, if_false, if_neg (Nat.not_le.2 hlive)]
  generalize (s.seenBy .helm (a.toNat / 4 * 4)).liveRead (a.toNat / 4 * 4) = v
  have hlog (t : State) (c : Bool) : (t.when c (fun t => t.updSys (fun u => { u with inputLog := min 256 (u.inputLog + 1) }))).out = t.out :=
    State.when_keeps State.out t c fun _ => rfl
  have hclear (t : State) (c : Bool) (fs : List FieldDesc) (b : Nat) : (if c then t.rcClear b i fs v else t).out = t.out := by
    split
    · exact State.rcClear_out _ _ _ _ _
    · rfl
  have hword (t : State) (c : Bool) (x : Nat) : (t.when c (fun t => t.wr (RCH_COEF_ADDR.WORD i) x)).out = t.out :=
    State.when_keeps State.out t c fun _ => rfl
  split <;> simp only [State.updSys_out, hword, hclear, hlog] <;> rfl

/-! ### SEQ_STORE_DATA (R150) -/

/-- The store word shows in FACTORY or in the open region, and 0 elsewhere. -/
theorem State.storeView_eq (s : State) : s.storeView =
    if s.mode = .factory ∨ (if s.on SEQ_STORE_ADDR.STORE then 768 ≤ s.rd SEQ_STORE_ADDR.ADDR ∧ s.rd SEQ_STORE_ADDR.ADDR < 1024
      else 12288 ≤ s.rd SEQ_STORE_ADDR.ADDR)
    then s.storeWord (s.on SEQ_STORE_ADDR.STORE) (s.rd SEQ_STORE_ADDR.COPY) (s.rd SEQ_STORE_ADDR.ADDR) else 0 := by
  unfold State.storeView State.inFactory
  dsimp only
  cases s.on SEQ_STORE_ADDR.STORE <;> simp [or_comm]

/-- The register map lists every word of SEQ_STORE_DATA, always present. -/
theorem regDesc_storeData (j : Fin 4) : ∃ d i, regDesc? (SEQ_STORE_DATA j) = some (d, i) ∧ d.kind = .always := by
  match j with
  | 0 | 1 | 2 | 3 => exact ⟨_, _, rfl, rfl⟩

/-- The view of word `j` is that word of the store view. -/
theorem State.view_storeData (s : State) (j : Fin 4) : s.view (SEQ_STORE_DATA j) = BitVec.ofNat 32 (s.storeView / 2 ^ (32 * j.val)) := by
  match j with
  | 0 | 1 | 2 | 3 => rfl

theorem State.liveRead_storeData {s : State} (j : Fin 4) (hlatch : s.sys.latches = []) :
    s.liveRead (SEQ_STORE_DATA j) = BitVec.ofNat 32 (s.storeView / 2 ^ (32 * j.val)) := by
  have hfind : s.sys.latches.find? (fun e => e.1 == SEQ_STORE_DATA j) = none := by simp [hlatch]
  obtain ⟨d, i, hreg, hkind⟩ := regDesc_storeData j
  rw [← s.view_storeData]
  unfold State.liveRead
  simp only [hreg, hkind, State.present, hfind, Bool.not_true, Bool.false_eq_true, if_false]
  match j with
  | 0 | 1 | 2 | 3 => rfl

/-- Settles O15: SEQ_STORE_DATA reads its word of the store view, which is the word addressed in FACTORY or in the open region and 0 elsewhere. -/
theorem twiariStoreReads : Obligations.TwiariStoreReads := by
  intro j lag s hmode hposted hlatch
  obtain ⟨d, i, hreg, _⟩ := regDesc_storeData j
  have haddr : ∀ k : Fin 4, (BitVec.ofNat 27 (SEQ_STORE_DATA k)).toNat / 4 * 4 = SEQ_STORE_DATA k := by decide
  have hlive : SEQ_STORE_DATA j < 0x200000 := by unfold SEQ_STORE_DATA; omega
  have hseen : s.seenBy .helm (SEQ_STORE_DATA j) = s :=
    State.seenBy_of_ne (by unfold SEQ_STORE_DATA WCH_WLOG_LO; omega) (by unfold SEQ_STORE_DATA WCH_WLOG_HI; omega)
  have hread := rcRead_helm_completes lag (haddr j) hlive hreg hmode hposted
  rw [hseen, State.liveRead_storeData j hlatch, State.storeView_eq] at hread
  exact hread

end Sys2Proof.Machine
end

