-- ==== Sys2Proof/Proofs/SequencerWords.lean ====
section
/-! The Twiari engines: their updates, the fetch of an intact word, and the words that move the PC (O29). -/

namespace Sys2Proof.Machine
open Reg

/-! ### Engines -/

theorem State.updSeq_seq_self {s : State} {a : Nat} (f : SeqU → SeqU) (ha : a < s.seqs.length) : (s.updSeq a f).seq a = f (s.seq a) :=
  listModify_getD_self _ _ _ _ ha

/-- What an update of an engine keeps of every engine, it keeps of each. -/
theorem State.updSeq_seq_keeps {β : Type} (p : SeqU → β) (s : State) (k a : Nat) {f : SeqU → SeqU} (hf : ∀ e, p (f e) = p e) :
    p ((s.updSeq k f).seq a) = p (s.seq a) := listModify_getD_keeps p _ _ _ _ _ hf

@[simp] theorem State.updSeq_rd (s : State) (a : Nat) (f : SeqU → SeqU) (g : Fld) : (s.updSeq a f).rd g = s.rd g := rfl

theorem State.seq_congr {s t : State} (h : t.seqs = s.seqs) (a : Nat) : t.seq a = s.seq a := by
  simp only [State.seq, h]

/-- An engine that executes a window is one there is. -/
theorem State.lt_of_seqRunning {s : State} {a : Nat} (h : s.seqRunning a = true) : a < s.seqs.length := by
  by_contra hlen
  have hinit : s.seq a = SeqU.init := List.getD_eq_default _ _ (Nat.not_lt.1 hlen)
  simp [State.seqRunning, hinit, SeqU.init] at h

/-! ### The cycles that a word takes (R142) -/

/-- Counting cycles keeps of the engines what does not count them. -/
theorem State.cycles_seq_keeps {β : Type} (p : SeqU → β) (s : State) (k a n : Nat) (hp : ∀ e c u, p { e with cycles := c, hookUsed := u } = p e) :
    p ((s.cycles k n).seq a) = p (s.seq a) := State.updSeq_seq_keeps p s k a fun _ => hp _ _ _

/-! ### Where the PC goes (R141) -/

/-- The PC written reads the address written. -/
theorem State.rd_pc_wr (s : State) (a : Nat) {x : Nat} (hx : x < 16384) : (s.wr (SEQ_PC.PC a) x).rd (SEQ_PC.PC a) = x :=
  (State.rd_wr_self s _ _ rfl).trans (Nat.mod_eq_of_lt hx)

theorem State.inHook_of_base {s : State} {a : Nat} (h : s.rd (SEQ_PC.PC a) < 12288) : s.inHook a = false := by
  simpa [State.inHook] using h

/-- Below the end of the store the next word in sequence is the one behind. -/
theorem State.seqNext_of_lt {s : State} {a : Nat} (n : Nat) (h : s.rd (SEQ_PC.PC a) < 16383) :
    s.seqNext a n = (s.cycles a n).wr (SEQ_PC.PC a) (s.rd (SEQ_PC.PC a) + 1) :=
  if_neg (by omega)

theorem State.seqNext_pc {s : State} {a : Nat} (n : Nat) (h : s.rd (SEQ_PC.PC a) < 16383) :
    (s.seqNext a n).rd (SEQ_PC.PC a) = s.rd (SEQ_PC.PC a) + 1 := by
  rw [State.seqNext_of_lt n h]
  exact State.rd_pc_wr _ _ (by omega)

/-- Below the open region a target in the store is where the PC goes. -/
theorem State.seqGoto_of_base {s : State} {a : Nat} (n : Nat) {target : Nat} (h : s.rd (SEQ_PC.PC a) < 12288) (htarget : target < 16384) :
    s.seqGoto a n target = (s.cycles a n).wr (SEQ_PC.PC a) target := by
  have hin : ¬((target : Int) < 0 ∨ 16383 < (target : Int)) := by omega
  simp only [State.seqGoto, State.inHook_of_base h, Bool.false_and, Bool.false_eq_true, if_false, if_neg hin, Int.toNat_natCast]

theorem State.seqGoto_pc {s : State} {a : Nat} (n : Nat) {target : Nat} (h : s.rd (SEQ_PC.PC a) < 12288) (htarget : target < 16384) :
    (s.seqGoto a n target).rd (SEQ_PC.PC a) = target := by
  rw [State.seqGoto_of_base n h htarget]
  exact State.rd_pc_wr _ _ htarget

/-- A move with a change of the stack: the PC and SP show it, and the engine is what the change makes of it. -/
theorem State.stackMove_shown {s : State} {a : Nat} (f : SeqU → SeqU) (ha : a < s.seqs.length) {x n : Nat} (hx : x < 16384) (hn : n < 8) :
    let t := ((s.updSeq a f).wr (SEQ_PC.PC a) x).wr (SEQ_LC_SP.SP a) n
    t.rd (SEQ_PC.PC a) = x ∧ t.seq a = f (s.seq a) ∧ t.rd (SEQ_LC_SP.SP a) = n := by
  have haddr : SEQ_PC a ≠ SEQ_LC_SP a := by unfold SEQ_PC SEQ_LC_SP; omega
  refine ⟨?_, State.updSeq_seq_self f ha, (State.rd_wr_self _ _ _ rfl).trans (Nat.mod_eq_of_lt hn)⟩
  exact (State.rd_wr_addr _ (SEQ_LC_SP.SP a) (SEQ_PC.PC a) _ haddr).trans (State.rd_pc_wr _ _ hx)

/-! ### The word at the PC (R131) -/

/-- An intact word with no injection armed is fetched from the first copy, and nothing changes. -/
theorem State.fetchStore_of_intact {s : State} {nano : Bool} {addr : Nat} (a : Nat) (harmed : s.watch.armed = none)
    (hintact : sparseGet 0 s.stores.errs (errKey nano 0 addr) = 0) : s.fetchStore a nano addr = (s, s.storeWord nano 0 addr) := by
  have hhit : s.armedAt 4 (fun k => k == errKey nano 0 addr) = none := by simp [State.armedAt, harmed]
  simp only [State.fetchStore, hhit, hintact, if_true]

/-- What `atWord` says: the window runs, and the fetch gives the word and changes nothing. -/
theorem State.atWord_elim {s : State} {a : Nat} {w : MWord} (h : s.atWord a w = true) :
    s.seqRunning a = true ∧ s.watch.armed = none ∧
      s.fetchStore a false (s.rd (SEQ_PC.PC a)) = (s, s.storeWord false 0 (s.rd (SEQ_PC.PC a))) ∧
      decodeMicro (s.storeWord false 0 (s.rd (SEQ_PC.PC a))) = w := by
  simp only [State.atWord, Bool.and_eq_true, Option.isNone_iff_eq_none, beq_iff_eq, decide_eq_true_eq] at h
  obtain ⟨⟨⟨hrun, harmed⟩, hintact⟩, hword⟩ := h
  exact ⟨hrun, harmed, State.fetchStore_of_intact a harmed hintact, hword⟩

/-- A command whose form the word at the PC has executes that word. -/
theorem completes_of_atWord {i : Instr} {s : State} {a : Nat} {w : MWord} {form : MWord → Bool} {p : State → Prop}
    (hexec : exec i s = .next (s.seqWord a form)) (hw : s.atWord a w = true) (hform : form w = true) (hp : p (s.runWord a w)) :
    completes i s p := by
  obtain ⟨hrun, _, hfetch, hword⟩ := State.atWord_elim hw
  refine ⟨_, hexec.trans (congrArg _ ?_), hp⟩
  simp only [State.seqWord, hrun, hfetch, hword, hform, if_true]

/-! ### The words that move the PC (R140, R141, R149) -/

section
variable {a : Act} {s : State}

/-- BRANCH below the open region, to a target in the store. -/
theorem branchWord_completes {d : Int} {c : Nat} (hw : s.atWord a (.branch d c) = true) (hbase : s.rd (SEQ_PC.PC a) < 12288)
    (hlow : 0 ≤ (s.rd (SEQ_PC.PC a) : Int) + 1 + d) (hhigh : (s.rd (SEQ_PC.PC a) : Int) + 1 + d ≤ 16383) :
    completes (.branchWord a) s (fun t =>
      (t.rd (SEQ_PC.PC a) : Int) = (s.rd (SEQ_PC.PC a) : Int) + 1 + (if s.seqCond a c then d else 0)) := by
  refine completes_of_atWord rfl hw rfl ?_
  show ((s.wBranch a d c).rd (SEQ_PC.PC a) : Int) = _
  unfold State.wBranch
  split
  · obtain ⟨n, hn⟩ := Int.eq_ofNat_of_zero_le hlow
    rw [hn, State.seqGoto_pc 2 hbase (by omega)]
  · rw [State.seqNext_pc 1 (by omega)]
    omega

/-- JUMP below the open region. -/
theorem jumpWord_completes {n : Nat} (hw : s.atWord a (.jump n) = true) (hbase : s.rd (SEQ_PC.PC a) < 12288) (hn : n < 16384) :
    completes (.jumpWord a) s (fun t => t.rd (SEQ_PC.PC a) = n) :=
  completes_of_atWord rfl hw rfl (State.seqGoto_pc 2 hbase hn)

/-- CALL between words below the open region, with room on the stack. -/
theorem callWord_completes {n : Nat} (hw : s.atWord a (.call n) = true) (hbase : s.rd (SEQ_PC.PC a) < 12288) (hn : n < 12288)
    (hroom : (s.seq a).stack.length < 4) :
    completes (.callWord a) s (fun t => t.rd (SEQ_PC.PC a) = n ∧ (t.seq a).stack = (s.seq a).stack ++ [s.rd (SEQ_PC.PC a) + 1] ∧
      t.rd (SEQ_LC_SP.SP a) = (s.seq a).stack.length + 1) := by
  refine completes_of_atWord rfl hw rfl ?_
  have ha : a.val < (s.cycles a 2).seqs.length := (State.lt_of_seqRunning (State.atWord_elim hw).1).trans_eq (listModify_length _ _ _).symm
  have hstack : ((s.cycles a 2).seq a).stack = (s.seq a).stack := State.cycles_seq_keeps SeqU.stack s a a 2 fun _ _ _ => rfl
  have hfits : ¬(4 ≤ (s.seq a).stack.length ∨ 16383 < s.rd (SEQ_PC.PC a) + 1) := by omega
  show (s.wCall a n).rd _ = _ ∧ ((s.wCall a n).seq a).stack = _ ∧ (s.wCall a n).rd _ = _
  simp only [State.wCall, State.inHook_of_base hbase, Nat.not_le.2 hn, decide_false, Bool.false_and, Bool.and_false, Bool.false_eq_true, if_false, if_neg hfits]
  obtain ⟨hpc, hseq, hsp⟩ := State.stackMove_shown _ ha (x := n) (n := (s.seq a).stack.length + 1) (by omega) (by omega)
  exact ⟨hpc, (congrArg SeqU.stack hseq).trans (congrArg (· ++ [s.rd (SEQ_PC.PC a) + 1]) hstack), hsp⟩

/-- RET with an address stacked. -/
theorem retWord_completes {k r : Nat} (hw : s.atWord a (.ctl 1 k) = true) (htop : (s.seq a).stack.getLast? = some r) (hr : r < 16384)
    (hdepth : (s.seq a).stack.length ≤ 4) :
    completes (.retWord a) s (fun t => t.rd (SEQ_PC.PC a) = r ∧ (t.seq a).stack = (s.seq a).stack.dropLast ∧
      t.rd (SEQ_LC_SP.SP a) = (s.seq a).stack.length - 1) := by
  refine completes_of_atWord rfl hw rfl ?_
  have ha : a.val < (s.cycles a 2).seqs.length := (State.lt_of_seqRunning (State.atWord_elim hw).1).trans_eq (listModify_length _ _ _).symm
  have hstack : ((s.cycles a 2).seq a).stack = (s.seq a).stack := State.cycles_seq_keeps SeqU.stack s a a 2 fun _ _ _ => rfl
  show (s.wRet a).rd _ = _ ∧ ((s.wRet a).seq a).stack = _ ∧ (s.wRet a).rd _ = _
  simp only [State.wRet, htop]
  obtain ⟨hpc, hseq, hsp⟩ := State.stackMove_shown _ ha hr (n := (s.seq a).stack.length - 1) (by omega)
  exact ⟨hpc, (congrArg SeqU.stack hseq).trans (congrArg List.dropLast hstack), hsp⟩

/-- LOOP below the open region, back to no further than word 0. -/
theorem loopWord_completes {k : Nat} (hw : s.atWord a (.ctl 3 k) = true) (hbase : s.rd (SEQ_PC.PC a) < 12288) (hk : k ≤ s.rd (SEQ_PC.PC a)) :
    completes (.loopWord a) s (fun t => t.rd (SEQ_LC_SP.LC a) = ((s.seq a).lc + 65535) % 65536 ∧
      t.rd (SEQ_PC.PC a) = (if ((s.seq a).lc + 65535) % 65536 = 0 then s.rd (SEQ_PC.PC a) + 1 else s.rd (SEQ_PC.PC a) - k)) := by
  refine completes_of_atWord rfl hw rfl ?_
  show (s.wLoop a k).rd _ = _ ∧ (s.wLoop a k).rd _ = _
  unfold State.wLoop
  extract_lets lc t
  show _ = lc ∧ _ = if lc = 0 then s.rd (SEQ_PC.PC a) + 1 else s.rd (SEQ_PC.PC a) - k
  have hlt : lc < 65536 := Nat.mod_lt _ (by decide)
  have haddr : SEQ_PC a ≠ SEQ_LC_SP a := by unfold SEQ_PC SEQ_LC_SP; omega
  have hpc : t.rd (SEQ_PC.PC a) = s.rd (SEQ_PC.PC a) := State.rd_wr_addr _ (SEQ_LC_SP.LC a) (SEQ_PC.PC a) _ haddr
  have hcount : t.rd (SEQ_LC_SP.LC a) = lc := (State.rd_wr_self _ _ _ rfl).trans (Nat.mod_eq_of_lt hlt)
  clear_value t lc
  rw [← hpc] at hbase hk ⊢
  split
  · have hend : t.rd (SEQ_PC.PC a) < 16383 := by omega
    refine ⟨?_, State.seqNext_pc 1 hend⟩
    rw [State.seqNext_of_lt 1 hend]
    exact (State.rd_wr_addr _ (SEQ_PC.PC a) (SEQ_LC_SP.LC a) _ haddr.symm).trans hcount
  · rw [← Int.natCast_sub hk]
    have hback : t.rd (SEQ_PC.PC a) - k < 16384 := by omega
    refine ⟨?_, State.seqGoto_pc 2 hbase hback⟩
    rw [State.seqGoto_of_base 2 hbase hback]
    exact (State.rd_wr_addr _ (SEQ_PC.PC a) (SEQ_LC_SP.LC a) _ haddr.symm).trans hcount

/-- JUMPV below the open region: to the low 14 bits of the register. -/
theorem jumpv_completes {k : Nat} (hw : s.atWord a (.ctl 4 k) = true) (hbase : s.rd (SEQ_PC.PC a) < 12288) :
    completes (.jumpv a) s (fun t => t.rd (SEQ_PC.PC a) = ((s.seq a).v.getD (k % 8) 0).toNat % 16384) := by
  refine completes_of_atWord rfl hw rfl ?_
  have hbits (x : Nat) : bitsOf x 13 0 = x % 16384 := by simp [bitsOf]
  refine (State.seqGoto_pc 2 hbase ?_).trans (hbits _)
  rw [hbits]
  exact Nat.mod_lt _ (by decide)

/-- NOP below the last word of the store. -/
theorem nopWord_completes {k : Nat} (hw : s.atWord a (.ctl 0 k) = true) (hend : s.rd (SEQ_PC.PC a) < 16383) :
    completes (.nopWord a) s (fun t => t.rd (SEQ_PC.PC a) = s.rd (SEQ_PC.PC a) + 1 ∧ t.stores = s.stores ∧ t.out = s.out) := by
  refine completes_of_atWord rfl hw rfl ⟨State.seqNext_pc 1 hend, ?_⟩
  show (s.seqNext a 1).stores = _ ∧ (s.seqNext a 1).out = _
  rw [State.seqNext_of_lt 1 hend]
  exact ⟨rfl, rfl⟩

end

/-- Settles O29, clause by clause: BRANCH, JUMP, CALL, RET, LOOP, JUMPV and NOP. -/
theorem sequencerFlow : Obligations.SequencerFlow :=
  ⟨fun _ _ _ _ hw hbase hlow hhigh => branchWord_completes hw hbase hlow hhigh,
    fun _ _ _ hw hbase hn => jumpWord_completes hw hbase hn,
    fun _ _ _ hw hbase hn hroom _ => callWord_completes hw hbase hn hroom,
    fun _ _ _ _ hw htop hr hdepth _ => retWord_completes hw htop hr hdepth,
    fun _ _ _ hw hbase hk => loopWord_completes hw hbase hk,
    fun _ _ _ hw hbase => jumpv_completes hw hbase,
    fun _ _ _ hw hend => nopWord_completes hw hend⟩

end Sys2Proof.Machine
end

