-- ==== Sys2Proof/Proofs/SequencerFlush.lean ====
section
/-! A FLUSH of an actuator's lanes: what it empties and what it leaves, and SEQ_FLUSH (R136; O30). -/

namespace Sys2Proof.Machine
open Reg

/-! ### Lists changed at one index -/

/-- What a change keeps of every element holds of each read after it, as before. -/
theorem listModify_getD_stays {α : Type} {P : α → Prop} {f : α → α} (hf : ∀ x, P x → P (f x)) (l : List α) (n m : Nat) (d : α)
    (h : P (l.getD m d)) : P ((listModify l n f).getD m d) := by
  induction l generalizing n m with
  | nil => cases n <;> exact h
  | cons x l ih =>
    cases n <;> cases m
    · exact hf x h
    · exact h
    · exact h
    · simpa [listModify] using ih _ _ (by simpa using h)

/-! ### The descriptors that wait on a lane -/

/-- No descriptor waits on the lane. -/
def Lane.NoneWaits (l : Lane) : Prop := l.list = [] ∧ l.incoming = []

/-- No descriptor waits on lane `i` of the engine. -/
def SeqU.NoneWaits (e : SeqU) (i : Nat) : Prop := (e.lanes.getD i Lane.init).NoneWaits

/-- Neither the list nor the queue of arrivals of the lane. -/
def Lane.emptied (l : Lane) : Lane := { l with list := [], incoming := [] }

theorem SeqU.noneWaits_init (i : Nat) : SeqU.init.NoneWaits i := by
  have hlane : SeqU.init.lanes.getD i Lane.init = Lane.init := by
    simp only [SeqU.init, List.getD_eq_getElem?_getD, List.getElem?_replicate]
    split <;> rfl
  unfold SeqU.NoneWaits
  rw [hlane]
  exact ⟨rfl, rfl⟩

/-- A change of one lane that adds no descriptor leaves a lane with nothing waiting so. -/
theorem SeqU.noneWaits_of_lanes {e g : SeqU} {f : Lane → Lane} {k i : Nat} (hg : g.lanes = listModify e.lanes k f)
    (hf : ∀ l, l.NoneWaits → (f l).NoneWaits) (he : e.NoneWaits i) : g.NoneWaits i := by
  unfold SeqU.NoneWaits
  rw [hg]
  exact listModify_getD_stays hf e.lanes k i Lane.init he

@[simp] theorem State.wr_lane (s : State) (f : Fld) (x h : Nat) : (s.wr f x).lane h = s.lane h := rfl

/-- An update of engines that keeps lanes with nothing waiting so leaves a lane with nothing waiting. -/
theorem State.noneWaits_updSeq {s : State} {h : Nat} (k : Nat) {f : SeqU → SeqU} (hf : ∀ e, e.NoneWaits (h % 6) → (f e).NoneWaits (h % 6))
    (hs : (s.lane h).NoneWaits) : ((s.updSeq k f).lane h).NoneWaits :=
  listModify_getD_stays (P := fun e : SeqU => e.NoneWaits (h % 6)) hf s.seqs k (h / 6) SeqU.init hs

/-- Emptying a lane leaves nothing waiting on it. -/
theorem State.noneWaits_updLane_self (s : State) (h : Nat) : ((s.updLane h Lane.emptied).lane h).NoneWaits := by
  have hlane (l : List Lane) : ((listModify l (h % 6) Lane.emptied).getD (h % 6) Lane.init).NoneWaits :=
    listModify_getD_of (P := Lane.NoneWaits) ⟨rfl, rfl⟩ (fun _ => ⟨rfl, rfl⟩) l (h % 6)
  refine listModify_getD_of (P := fun e : SeqU => e.NoneWaits (h % 6)) (SeqU.noneWaits_init _) (fun e => ?_) s.seqs (h / 6)
  exact hlane e.lanes

theorem State.noneWaits_updLane {s : State} {h : Nat} (k : Nat) (hs : (s.lane h).NoneWaits) : ((s.updLane k Lane.emptied).lane h).NoneWaits :=
  State.noneWaits_updSeq _ (fun _ => SeqU.noneWaits_of_lanes rfl fun _ _ => ⟨rfl, rfl⟩) hs

/-- Cancelling events adds no descriptor. -/
theorem State.noneWaits_cancelToken {s : State} {h : Nat} (k tok : Nat) (hs : (s.lane h).NoneWaits) :
    ((s.cancelToken k tok).lane h).NoneWaits :=
  State.noneWaits_updSeq _ (fun _ => SeqU.noneWaits_of_lanes rfl fun _ hl => hl) hs

/-! ### What an engine's window hangs on -/

/-- Whether an engine executes a window hangs on which are present, on RUNNING and on its tentative lanes. -/
theorem State.seqRunning_congr {s t : State} {a : Nat} (hsys : t.sys = s.sys) (hrunning : t.rd (SEQ_STATUS.RUNNING a) = s.rd (SEQ_STATUS.RUNNING a))
    (htent : (t.seq a).tent.isSome = (s.seq a).tent.isSome) : t.seqRunning a = s.seqRunning a := by
  simp only [State.seqRunning, State.actPresent_congr hsys, State.on, hrunning, htent]

theorem State.wr_seqRunning (s : State) (f : Fld) (x a : Nat) (hf : SEQ_STATUS a ≠ f.addr) : (s.wr f x).seqRunning a = s.seqRunning a :=
  State.seqRunning_congr rfl (State.rd_wr_addr s f (SEQ_STATUS.RUNNING a) x hf) rfl

/-- An update of engines that leaves them in or out of their windows leaves which execute one. -/
theorem State.updSeq_seqRunning (s : State) (k a : Nat) {f : SeqU → SeqU} (hf : ∀ e, (f e).tent.isSome = e.tent.isSome) :
    (s.updSeq k f).seqRunning a = s.seqRunning a :=
  State.seqRunning_congr rfl rfl (State.updSeq_seq_keeps (fun e => e.tent.isSome) s k a hf)

/-! ### A FLUSH of one lane, and of an actuator (R136) -/

/-- A sector returned before its start leaves the registers. -/
theorem State.returnSector_regs (s : State) (h : Nat) (d : SDesc) : (s.returnSector h d false).regs = s.regs := rfl

theorem State.returnSector_seqRunning (s : State) (h : Nat) (d : SDesc) (a : Nat) : (s.returnSector h d false).seqRunning a = s.seqRunning a :=
  State.updSeq_seqRunning s (h / 6) a fun _ => Option.isSome_map

theorem State.noneWaits_returnSector {s : State} {h : Nat} (k : Nat) (d : SDesc) (hs : (s.lane h).NoneWaits) :
    ((s.returnSector k d false).lane h).NoneWaits := State.noneWaits_cancelToken k d.token hs

/-- A FLUSH of a lane returns sectors that have not started and empties the lane. -/
theorem State.flushLane_eq (s : State) (h : Nat) :
    ∃ ds : List SDesc, s.flushLane h = (s.forEach ds (fun d t => t.returnSector h d false)).updLane h Lane.emptied := ⟨_, rfl⟩

theorem State.flushLane_regs (s : State) (h : Nat) : (s.flushLane h).regs = s.regs := by
  obtain ⟨ds, heq⟩ := s.flushLane_eq h
  rw [heq]
  exact State.forEach_keeps State.regs s ds _ fun d t => t.returnSector_regs h d

theorem State.flushLane_seqRunning (s : State) (h a : Nat) : (s.flushLane h).seqRunning a = s.seqRunning a := by
  obtain ⟨ds, heq⟩ := s.flushLane_eq h
  rw [heq]
  exact (State.updSeq_seqRunning _ (h / 6) a fun _ => Option.isSome_map).trans
    (State.forEach_keeps (fun t => t.seqRunning a) s ds _ fun d t => t.returnSector_seqRunning h d a)

theorem State.noneWaits_flushLane_self (s : State) (h : Nat) : ((s.flushLane h).lane h).NoneWaits := State.noneWaits_updLane_self _ h

/-- What every pass of a loop keeps, the loop keeps. -/
theorem State.forEach_stays {α : Type} {P : State → Prop} {f : α → State → State} (hf : ∀ x t, P t → P (f x t)) (l : List α) {s : State}
    (hs : P s) : P (s.forEach l f) := by
  induction l generalizing s with
  | nil => exact hs
  | cons x l ih => exact ih (hf x s hs)

theorem State.noneWaits_flushLane {s : State} {h : Nat} (k : Nat) (hs : (s.lane h).NoneWaits) : ((s.flushLane k).lane h).NoneWaits := by
  obtain ⟨ds, heq⟩ := s.flushLane_eq k
  rw [heq]
  exact State.noneWaits_updLane k
    (State.forEach_stays (P := fun t => (t.lane h).NoneWaits) (fun d _ ht => State.noneWaits_returnSector k d ht) ds hs)

/-- The bit of actuator `a` in SEQ_FLUSH. -/
def flushBit (a : Nat) : Fld := ⟨SEQ_FLUSH, a, a⟩

theorem flushBit_ok {a : Nat} (ha : a < 4) : (flushBit a).ok = true := by
  have hlt : a < 32 := by omega
  exact Bool.and_eq_true_iff.2 ⟨decide_eq_true (le_refl a), decide_eq_true hlt⟩

/-- A FLUSH waits for the end of the engine's window, or does no longer. -/
def SeqU.setFlush (p : Bool) (e : SeqU) : SeqU := { e with flushPend := p }

theorem State.setFlush_seqRunning (s : State) (a b : Nat) (p : Bool) : (s.updSeq a (SeqU.setFlush p)).seqRunning b = s.seqRunning b :=
  State.updSeq_seqRunning s a b (f := SeqU.setFlush p) fun _ => rfl

theorem State.noneWaits_setFlush {s : State} {h : Nat} (a : Nat) (p : Bool) (hs : (s.lane h).NoneWaits) :
    ((s.updSeq a (SeqU.setFlush p)).lane h).NoneWaits := State.noneWaits_updSeq (f := SeqU.setFlush p) a (fun _ he => he) hs

/-- The lanes of an actuator flushed. -/
def State.flushLanes (s : State) (a : Nat) : State := s.forEach (List.range 6) (fun p t => t.flushLane (a * 6 + p))

theorem State.flushAct_eq (s : State) (a : Nat) :
    s.flushAct a = ((s.flushLanes a).updSeq a (SeqU.setFlush false)).wr (flushBit a) 0 := rfl

theorem State.flushLanes_regs (s : State) (a : Nat) : (s.flushLanes a).regs = s.regs :=
  State.forEach_keeps State.regs s (List.range 6) _ fun p t => t.flushLane_regs (a * 6 + p)

theorem State.flushLanes_seqRunning (s : State) (a b : Nat) : (s.flushLanes a).seqRunning b = s.seqRunning b :=
  State.forEach_keeps (fun t => t.seqRunning b) s (List.range 6) _ fun p t => t.flushLane_seqRunning (a * 6 + p) b

theorem State.noneWaits_flushLanes_self (s : State) (a : Nat) {p : Nat} (hp : p < 6) : ((s.flushLanes a).lane (a * 6 + p)).NoneWaits :=
  State.forEach_all (Q := fun p t => (t.lane (a * 6 + p)).NoneWaits) (fun p t => t.noneWaits_flushLane_self (a * 6 + p))
    (fun q _ _ ht => State.noneWaits_flushLane (a * 6 + q) ht) (List.range 6) s p (List.mem_range.2 hp)

theorem State.noneWaits_flushLanes {s : State} {h : Nat} (a : Nat) (hs : (s.lane h).NoneWaits) : ((s.flushLanes a).lane h).NoneWaits :=
  State.forEach_stays (P := fun t => (t.lane h).NoneWaits) (fun p _ ht => State.noneWaits_flushLane (a * 6 + p) ht) (List.range 6) hs

/-- Of the registers a FLUSH changes its bit of SEQ_FLUSH alone, which it clears. -/
theorem State.flushAct_rd (s : State) (a : Nat) (f : Fld) : (s.flushAct a).rd f = (s.wr (flushBit a) 0).rd f := by
  have hregs : ((s.flushLanes a).updSeq a (SeqU.setFlush false)).regs = s.regs :=
    (State.updSeq_regs _ _ _).trans (s.flushLanes_regs a)
  have hwr {t : State} (ht : t.regs = s.regs) : (t.wr (flushBit a) 0).regs = (s.wr (flushBit a) 0).regs := by
    simp only [State.wr, State.setReg_regs, State.reg, ht]
  rw [State.flushAct_eq]
  exact State.rd_congr (hwr hregs) f

theorem State.flushAct_rd_ne (s : State) (a : Nat) {f : Fld} (hf : f.addr ≠ SEQ_FLUSH) : (s.flushAct a).rd f = s.rd f :=
  (s.flushAct_rd a f).trans (State.rd_wr_addr s (flushBit a) f 0 hf)

theorem SEQ_STATUS_ne_FLUSH (a : Nat) : SEQ_STATUS a ≠ SEQ_FLUSH := by
  unfold SEQ_STATUS SEQ_FLUSH
  omega

theorem State.flushAct_seqRunning (s : State) (a b : Nat) : (s.flushAct a).seqRunning b = s.seqRunning b := by
  rw [State.flushAct_eq, State.wr_seqRunning _ (flushBit a) _ _ (SEQ_STATUS_ne_FLUSH b), State.setFlush_seqRunning]
  exact s.flushLanes_seqRunning a b

/-- A FLUSH leaves nothing waiting on the lanes of the actuator. -/
theorem State.noneWaits_flushAct_self (s : State) (a : Nat) {p : Nat} (hp : p < 6) : ((s.flushAct a).lane (a * 6 + p)).NoneWaits := by
  rw [State.flushAct_eq, State.wr_lane]
  exact State.noneWaits_setFlush a false (s.noneWaits_flushLanes_self a hp)

theorem State.noneWaits_flushAct {s : State} {h : Nat} (a : Nat) (hs : (s.lane h).NoneWaits) : ((s.flushAct a).lane h).NoneWaits := by
  rw [State.flushAct_eq, State.wr_lane]
  exact State.noneWaits_setFlush a false (State.noneWaits_flushLanes a hs)

/-! ### SEQ_FLUSH (R136) -/

/-- A FLUSH of actuator `a`: it waits for the end of a window in hand, and else takes effect at once. -/
def State.flushOne (a : Nat) (s : State) : State :=
  if s.seqRunning a then (s.updSeq a (SeqU.setFlush true)).wr (flushBit a) 1 else s.flushAct a

theorem State.flushOne_seqRunning (s : State) (a b : Nat) : (s.flushOne a).seqRunning b = s.seqRunning b := by
  unfold State.flushOne
  split
  · rw [State.wr_seqRunning _ (flushBit a) _ _ (SEQ_STATUS_ne_FLUSH b), State.setFlush_seqRunning]
  · exact s.flushAct_seqRunning a b

/-- Its bit then shows whether it waits. -/
theorem State.flushOne_bit (s : State) {a : Nat} (ha : a < 4) : (s.flushOne a).rd (flushBit a) = b2n (s.seqRunning a) := by
  have hone (x : Nat) (hx : x < 2) (t : State) : (t.wr (flushBit a) x).rd (flushBit a) = x := by
    refine (State.rd_wr_self t _ x (flushBit_ok ha)).trans (Nat.mod_eq_of_lt ?_)
    show x < 2 ^ (a + 1 - a)
    rwa [Nat.add_sub_cancel_left]
  unfold State.flushOne
  split
  · next hrun => rw [hone 1 (by decide), hrun]; rfl
  · next hrun => rw [s.flushAct_rd, hone 0 (by decide), Bool.eq_false_iff.2 hrun]; rfl

theorem State.flushOne_bit_ne (s : State) {a b : Nat} (ha : a < 4) (hab : a ≠ b) : (s.flushOne a).rd (flushBit b) = s.rd (flushBit b) := by
  have hbits (x : Nat) (t : State) : (t.wr (flushBit a) x).rd (flushBit b) = t.rd (flushBit b) :=
    State.rd_wr_bits t _ _ x (flushBit_ok ha) (Nat.lt_or_gt_of_ne hab)
  unfold State.flushOne
  split
  · exact hbits 1 _
  · exact (s.flushAct_rd a _).trans (hbits 0 s)

theorem State.noneWaits_flushOne {s : State} {h : Nat} (a : Nat) (hs : (s.lane h).NoneWaits) : ((s.flushOne a).lane h).NoneWaits := by
  unfold State.flushOne
  split
  · exact State.noneWaits_setFlush a true hs
  · exact State.noneWaits_flushAct a hs

/-- What each pass of a loop over elements with a property brings about for its element, and no pass undoes, holds for all of them. -/
theorem State.forEach_all_of {α : Type} {R : α → Prop} {Q : α → State → Prop} {f : α → State → State} (hself : ∀ x t, R x → Q x (f x t))
    (hkeep : ∀ x y t, R x → Q y t → Q y (f x t)) {l : List α} (hl : ∀ x ∈ l, R x) (s : State) : ∀ x ∈ l, Q x (s.forEach l f) := by
  have hattach (t : State) : t.forEach l f = t.forEach l.attach (fun x => f x.1) := by
    simp only [State.forEach, List.foldl_subtype, List.unattach_attach]
  intro x hx
  rw [hattach]
  exact State.forEach_all (Q := fun (y : { y // y ∈ l }) t => Q y.1 t) (fun y t => hself y.1 t (hl _ y.2))
    (fun y z t => hkeep y.1 z.1 t (hl _ y.2)) l.attach s ⟨x, hx⟩ (List.mem_attach _ _)

/-- The FLUSH of actuator `a` stands: its bit shows whether it waits, and nothing waits on its lanes unless it does. -/
def State.flushStands (s : State) (a : Nat) : Prop :=
  s.rd (flushBit a) = b2n (s.seqRunning a) ∧ (s.seqRunning a = false → ∀ p, p < 6 → (s.lane (a * 6 + p)).NoneWaits)

theorem State.flushStands_self (s : State) {a : Nat} (ha : a < 4) : (s.flushOne a).flushStands a := by
  refine ⟨by rw [s.flushOne_bit ha, s.flushOne_seqRunning], fun hrun p hp => ?_⟩
  rw [s.flushOne_seqRunning] at hrun
  rw [State.flushOne, hrun]
  exact s.noneWaits_flushAct_self a hp

/-- A FLUSH of another actuator leaves it standing. -/
theorem State.flushStands_flushOne {s : State} {a b : Nat} (ha : a < 4) (hs : s.flushStands b) : (s.flushOne a).flushStands b := by
  by_cases hab : a = b
  · exact hab ▸ s.flushStands_self ha
  · obtain ⟨hbit, hnone⟩ := hs
    refine ⟨by rw [s.flushOne_bit_ne ha hab, s.flushOne_seqRunning, hbit], fun hrun p hp => ?_⟩
    rw [s.flushOne_seqRunning] at hrun
    exact State.noneWaits_flushOne a (hnone hrun p hp)

/-- SEQ_FLUSH (R136). -/
theorem seqFlush_completes (mask : BitVec 4) (s : State) : completes (.seqFlush mask) s (fun t => ∀ a, a < 4 → mask.getLsbD a = true →
    s.actPresent a = true → t.rd (flushBit a) = b2n (s.seqRunning a) ∧ (s.seqRunning a = false → ∀ p, p < 6 → (t.lane (a * 6 + p)).NoneWaits)) := by
  let acts := (List.range 4).filter (fun a => mask.getLsbD a && s.actPresent a)
  refine ⟨s.forEach acts State.flushOne, rfl, fun a ha hmask hpresent => ?_⟩
  have hrun : (s.forEach acts State.flushOne).seqRunning a = s.seqRunning a :=
    State.forEach_keeps (fun t => t.seqRunning a) s acts _ fun b t => t.flushOne_seqRunning b a
  have hmem : a ∈ acts := List.mem_filter.2 ⟨List.mem_range.2 ha, by rw [hmask, hpresent]; rfl⟩
  have hacts : ∀ b ∈ acts, b < 4 := fun b hb => List.mem_range.1 (List.mem_filter.1 hb).1
  have hstands : (s.forEach acts State.flushOne).flushStands a :=
    State.forEach_all_of (Q := fun b t => t.flushStands b) (fun b t hb => t.flushStands_self hb)
      (fun b c t hb ht => State.flushStands_flushOne hb ht) hacts s a hmem
  rwa [State.flushStands, hrun] at hstands

end Sys2Proof.Machine
end

