-- ==== Sys2Proof/Proofs/SequencerWindow.lean ====
section
/-! The window of a bell: NANO words, SIGNAL, WWAIT, STOP, the hook budget, SEQ_LATE and SEQ_STEP (O30). -/

namespace Sys2Proof.Machine
open Reg

/-! ### Register rules -/

/-- A status bit raised is written, for every register read after it. -/
theorem State.raiseBit_rd (s : State) (f : Fld) (en : Nat) (g : Fld) : (s.raiseBit f en).rd g = (s.wr f 1).rd g :=
  congrArg (fun r => getF r _ _) (State.raiseBit_reg s f en _)

/-- A FLUSH that came in the window, or none, leaves every register but SEQ_FLUSH. -/
theorem State.whenFlush_rd (s : State) (c : Bool) (a : Nat) {f : Fld} (hf : f.addr ≠ SEQ_FLUSH) : (s.when c (fun t => t.flushAct a)).rd f = s.rd f := by
  cases c
  · rfl
  · exact s.flushAct_rd_ne a hf

/-- What changes none of a list of registers of each engine leaves their fields. -/
theorem Kept.rd_engine {w : Nat} {s t : State} (h : Kept w s t) {l : Act → List Nat} (hl : ∀ k, (l k).all (maskClear w) = true) (a : Act) {f : Fld}
    (hf : f.addr ∈ l a) : t.rd f = s.rd f := h.rd_keep (List.all_eq_true.1 (hl a) _ hf)

/-- The status and the counters of an engine. -/
def engineStatus (a : Act) : List Nat := [SEQ_STATUS a, SEQ_EVT_CNT a]

theorem State.raiseSrc_engineStatus (s : State) (src : Nat) (x : RaiseCtx) (a : Act) {f : Fld} (hf : f.addr ∈ engineStatus a) :
    (s.raiseSrc src x).rd f = s.rd f :=
  (State.raiseSrc_kept (subMask_refl _) (Kept.refl _ s)).rd_engine (l := engineStatus) (by decide +kernel) a hf

/-! ### Registers written in order -/

/-- Fields that lie in words, each apart from those before it. -/
def fieldsApart (l : List Fld) : Bool := l.all Fld.ok && decide (l.Pairwise fun f g => g.apart f = true)

/-- Of a list of writes to fields apart, each reads what was written to it. -/
theorem State.rd_wrs_of_mem {l : List (Fld × Nat)} (hl : fieldsApart (l.map Prod.fst) = true) (s : State) {f : Fld} {x : Nat}
    (h : (f, x) ∈ l) (hx : x < 2 ^ (f.hi + 1 - f.lo)) : (s.wrs l).rd f = x := by
  simp only [fieldsApart, Bool.and_eq_true, decide_eq_true_eq, List.all_eq_true] at hl
  obtain ⟨hok, hapart⟩ := hl
  induction l generalizing s with
  | nil => cases h
  | cons e l ih =>
    simp only [List.map_cons, List.pairwise_cons, List.forall_mem_cons, List.forall_mem_map] at hok hapart
    rcases List.mem_cons.1 h with rfl | h
    · refine (State.rd_wrs_apart _ l f fun g hg => ⟨hok.2 g hg, hapart.1 g hg⟩).trans ?_
      exact (State.rd_wr_self s f x hok.1).trans (Nat.mod_eq_of_lt hx)
    · exact ih (s.wr e.1 e.2) h (List.forall_mem_map.2 hok.2) hapart.2

/-- Writes in a loop are a list of writes. -/
theorem State.forEach_wr {α : Type} (s : State) (l : List α) (f : α → Fld) (x : α → Nat) :
    s.forEach l (fun i t => t.wr (f i) (x i)) = s.wrs (l.map fun i => (f i, x i)) := by
  induction l generalizing s with
  | nil => rfl
  | cons i l ih => exact ih _

theorem State.wr_updSeq (s : State) (a : Nat) (g : SeqU → SeqU) (f : Fld) (x : Nat) : (s.updSeq a g).wr f x = (s.wr f x).updSeq a g := rfl

theorem State.wrs_append (s : State) (l m : List (Fld × Nat)) : s.wrs (l ++ m) = (s.wrs l).wrs m := by
  induction l generalizing s with
  | nil => rfl
  | cons e l ih => exact ih _

section
variable {a : Act} {s : State}

/-! ### WEDGE_HANDLING (R133) -/

/-- WEDGE_HANDLING of an engine that is to run. -/
theorem wedgeHandling_completes (hpresent : s.actPresent a = true) (hlocked : s.on SEQ_LOCK.LOCKED = true) (hen : s.on (SEQ_CTRL.EN a) = true)
    (hfence : s.isFenced (.seq a) = false) (hidle : s.seqRunning a = false) (hrun : s.running = true) (hgated : s.gated 5 = false) :
    completes (.wedgeHandling a) s (fun t => t.rd (SEQ_STATUS.RUNNING a) = 1 ∧ t.rd (SEQ_STATUS.WAITING a) = 0 ∧
      (((s.seq a).started = false ∨ (s.seq a).late = true) → t.rd (SEQ_PC.PC a) = s.rd (SEQ_ENTRY.ENTRY a) ∧ t.rd (SEQ_LC_SP.SP a) = 0)) := by
  have hcond : (s.actPresent a && s.on SEQ_LOCK.LOCKED && s.on (SEQ_CTRL.EN a) && !s.isFenced (.seq a) && !s.seqRunning a && s.running &&
      !s.gated 5) = true := by
    simp [hpresent, hlocked, hen, hfence, hidle, hrun, hgated]
  refine ⟨_, congrArg Host.Outcome.next (if_pos hcond), ?_⟩
  extract_lets e fresh t₁ t₂
  have hapart : ∀ b : Act, fieldsApart [SEQ_PC.PC b, SEQ_LC_SP.SP b, SEQ_STATUS.RUNNING b, SEQ_STATUS.WAITING b] = true ∧
    fieldsApart [SEQ_STATUS.RUNNING b, SEQ_STATUS.WAITING b] = true := by decide
  obtain ⟨hall, hstatus⟩ := hapart a
  refine ⟨?_, ?_, fun hfresh => ?_⟩
  · exact State.rd_wrs_of_mem (l := [(SEQ_STATUS.RUNNING a, 1), (SEQ_STATUS.WAITING a, 0)]) hstatus t₂ (by simp) (by decide : 1 < 2)
  · exact State.rd_wrs_of_mem (l := [(SEQ_STATUS.RUNNING a, 1), (SEQ_STATUS.WAITING a, 0)]) hstatus t₂ (by simp) (by decide : 0 < 2)
  · have hentry : t₁.rd (SEQ_ENTRY.ENTRY a) = s.rd (SEQ_ENTRY.ENTRY a) := rfl
    have hf : fresh = true := by
      rcases hfresh with h | h <;> simp [fresh, e, h]
    have ht₂ : t₂ = t₁.wrs [(SEQ_PC.PC a, s.rd (SEQ_ENTRY.ENTRY a)), (SEQ_LC_SP.SP a, 0)] := by
      simp only [t₂, hf, State.when_true, hentry]
      rfl
    rw [ht₂]
    let l : List (Fld × Nat) :=
      [(SEQ_PC.PC a, s.rd (SEQ_ENTRY.ENTRY a)), (SEQ_LC_SP.SP a, 0), (SEQ_STATUS.RUNNING a, 1), (SEQ_STATUS.WAITING a, 0)]
    exact ⟨State.rd_wrs_of_mem (l := l) hall t₁ (by simp [l]) (s.rd_lt (SEQ_ENTRY.ENTRY a)),
      State.rd_wrs_of_mem (l := l) hall t₁ (by simp [l]) (by decide : 0 < 8)⟩

/-! ### SIGNAL, WWAIT, STOP (R133, R140) -/

/-- SIGNAL. -/
theorem signal_completes {k : Nat} (hw : s.atWord a (.ctl 5 k) = true) (hk : k < 256) (hend : s.rd (SEQ_PC.PC a) < 16383) :
    completes (.signal a) s (fun t => t.rd (SEQ_SIGNAL.CODE a) = k ∧ t.rd (SEQ_SIGNAL.COUNT a) = satU 8 (s.rd (SEQ_SIGNAL.COUNT a) + 1) ∧
      t.out = s.out ++ [.helmIrq (SEQ_SIGNAL a) 0] ∧ t.rd (SEQ_PC.PC a) = s.rd (SEQ_PC.PC a) + 1) := by
  refine completes_of_atWord rfl hw rfl ?_
  have haddr : SEQ_PC a ≠ SEQ_SIGNAL a := by unfold SEQ_PC SEQ_SIGNAL; omega
  have hcount : (s.wr (SEQ_SIGNAL.CODE a) k).rd (SEQ_SIGNAL.COUNT a) = s.rd (SEQ_SIGNAL.COUNT a) :=
    State.rd_wr_bits s (SEQ_SIGNAL.CODE a) (SEQ_SIGNAL.COUNT a) k rfl (.inl (by decide : 7 < 8))
  let n := satU 8 (s.rd (SEQ_SIGNAL.COUNT a) + 1)
  let sent := (s.wrs [(SEQ_SIGNAL.CODE a, k), (SEQ_SIGNAL.COUNT a, n)]).emit (.helmIrq (SEQ_SIGNAL a) 0)
  have hsent : s.wSignal a k = sent.seqNext a 1 := by
    rw [State.wSignal, State.inc, State.addC, hcount]
    rfl
  have hpc : sent.rd (SEQ_PC.PC a) = s.rd (SEQ_PC.PC a) :=
    (State.rd_wr_addr _ (SEQ_SIGNAL.COUNT a) (SEQ_PC.PC a) _ haddr).trans (State.rd_wr_addr s (SEQ_SIGNAL.CODE a) (SEQ_PC.PC a) _ haddr)
  show (s.wSignal a k).rd _ = _ ∧ (s.wSignal a k).rd _ = _ ∧ (s.wSignal a k).out = _ ∧ (s.wSignal a k).rd _ = _
  rw [hsent, State.seqNext_of_lt 1 (hpc.trans_lt hend), hpc]
  let l : List (Fld × Nat) := [(SEQ_SIGNAL.CODE a, k), (SEQ_SIGNAL.COUNT a, n), (SEQ_PC.PC a, s.rd (SEQ_PC.PC a) + 1)]
  have hapart : ∀ b : Act, fieldsApart [SEQ_SIGNAL.CODE b, SEQ_SIGNAL.COUNT b, SEQ_PC.PC b] = true := by decide
  have hn : n < 2 ^ 8 := lt_of_le_of_lt (min_le_right _ _) (by decide)
  exact ⟨State.rd_wrs_of_mem (l := l) (hapart a) s (by simp [l]) hk, State.rd_wrs_of_mem (l := l) (hapart a) s (by simp [l, n]) hn, rfl,
    State.rd_pc_wr _ _ (by omega)⟩

/-- What WWAIT writes to the registers: the ends published, the cycles counted, WAITING, the V registers and the PC. -/
def waitWrites (a ends cyc most pc : Nat) (v : Nat → Nat) : List (Fld × Nat) :=
  [(SEQ_ENDS.ENDS a, ends), (SEQ_WINDOW.LAST a, cyc), (SEQ_STATUS.WAITING a, 1), (SEQ_STATUS.RUNNING a, 0), (SEQ_WINDOW.MAX a, most)] ++
    (List.range 8).map (fun j => (SEQ_V.V a j, v j)) ++ [(SEQ_PC.PC a, pc)]

theorem waitWrites_apart (a : Act) (ends cyc most pc : Nat) (v : Nat → Nat) :
    fieldsApart ((waitWrites a ends cyc most pc v).map Prod.fst) = true := by
  have hapart : ∀ b : Act, fieldsApart ([SEQ_ENDS.ENDS b, SEQ_WINDOW.LAST b, SEQ_STATUS.WAITING b, SEQ_STATUS.RUNNING b, SEQ_WINDOW.MAX b] ++
    (List.range 8).map (SEQ_V.V b) ++ [SEQ_PC.PC b]) = true := by decide
  exact hapart a

/-- WWAIT below the last word of the store commits the engine and writes those registers; a FLUSH that came in the window then takes effect. -/
theorem State.wWait_eq (hend : s.rd (SEQ_PC.PC a) < 16383) : ∃ (f : SeqU → SeqU) (ends cyc most : Nat) (c : Bool), s.wWait a =
    ((s.updSeq a f).wrs (waitWrites a ends cyc most (s.rd (SEQ_PC.PC a) + 1) (fun j => ((s.seq a).v.getD j 0).toNat))).when c
      (fun t => t.flushAct a) := by
  unfold State.wWait
  extract_lets e pc ls cyc t₁ t₂ t₃ t₄ t₅
  have hpc : t₅ = t₄.wr (SEQ_PC.PC a) (pc + 1) := if_neg (by omega)
  have ht₄ : t₄ = t₃.wrs ((List.range 8).map fun j => (SEQ_V.V a j, (e.v.getD j 0).toNat)) := State.forEach_wr t₃ (List.range 8) (SEQ_V.V a) _
  obtain ⟨ends, hends⟩ : ∃ n, t₁.showEnds a 0 = t₁.wr (SEQ_ENDS.ENDS a) n := ⟨_, rfl⟩
  have ht₂ : t₂ = (t₁.wr (SEQ_ENDS.ENDS a) ends).wrs [(SEQ_WINDOW.LAST a, satU 9 cyc), (SEQ_STATUS.WAITING a, 1), (SEQ_STATUS.RUNNING a, 0)] :=
    congrArg (fun t => State.wrs t _) hends
  have ht₃ : t₃ = t₂.wr (SEQ_WINDOW.MAX a) (max (t₂.rd (SEQ_WINDOW.MAX a)) (satU 9 cyc)) := rfl
  generalize max (t₂.rd (SEQ_WINDOW.MAX a)) (satU 9 cyc) = most at ht₃
  have hwrites : t₅ = t₁.wrs (waitWrites a ends (satU 9 cyc) most (pc + 1) fun j => (e.v.getD j 0).toNat) := by
    rw [hpc, ht₄, ht₃, ht₂, waitWrites, State.wrs_append, State.wrs_append]
    rfl
  exact ⟨_, _, _, _, _, congrArg (fun t => State.when t (t₅.seq a).flushPend (fun t => t.flushAct a)) hwrites⟩

/-- WWAIT. -/
theorem wwait_completes {k : Nat} (hw : s.atWord a (.ctl 2 k) = true) (hend : s.rd (SEQ_PC.PC a) < 16383) :
    completes (.wwait a) s (fun t => t.rd (SEQ_STATUS.WAITING a) = 1 ∧ t.rd (SEQ_STATUS.RUNNING a) = 0 ∧
      t.rd (SEQ_PC.PC a) = s.rd (SEQ_PC.PC a) + 1 ∧ ∀ j, j < 8 → t.rd (SEQ_V.V a j) = ((s.seq a).v.getD j 0).toNat) := by
  refine completes_of_atWord rfl hw rfl ?_
  obtain ⟨f, ends, cyc, most, c, heq⟩ := State.wWait_eq (a := a) hend
  have hmem : ∀ {g : Fld} {x : Nat}, (g, x) ∈ waitWrites a ends cyc most (s.rd (SEQ_PC.PC a) + 1) (fun j => ((s.seq a).v.getD j 0).toNat) →
      x < 2 ^ (g.hi + 1 - g.lo) → g.addr ≠ SEQ_FLUSH → (s.wWait a).rd g = x := fun h hx hg => by
    rw [heq, State.whenFlush_rd _ _ _ hg]
    exact State.rd_wrs_of_mem (waitWrites_apart a _ _ _ _ _) _ h hx
  have hflush : ∀ b : Act, SEQ_STATUS b ≠ SEQ_FLUSH ∧ SEQ_PC b ≠ SEQ_FLUSH ∧ ∀ j, j < 8 → SEQ_V b j ≠ SEQ_FLUSH := by decide
  obtain ⟨hstatus, hpc, hv⟩ := hflush a
  refine ⟨hmem (by simp [waitWrites]) (by decide : 1 < 2) hstatus, hmem (by simp [waitWrites]) (by decide : 0 < 2) hstatus,
    hmem (by simp [waitWrites]) (show _ < 16384 by omega) hpc, fun j hj => hmem ?_ (BitVec.isLt _) (hv j hj)⟩
  exact List.mem_append_left _ (List.mem_append_right _ (List.mem_map_of_mem (List.mem_range.2 hj)))

/-- STOP. -/
theorem seqStop_completes {k : Nat} (hw : s.atWord a (.ctl 6 k) = true) :
    completes (.seqStop a) s (fun t => t.rd (SEQ_CTRL.EN a) = 0 ∧ t.rd (SEQ_STATUS.RUNNING a) = 0 ∧ t.rd (SEQ_STATUS.WAITING a) = 0) := by
  refine completes_of_atWord rfl hw rfl ?_
  show (s.wStop a).rd _ = _ ∧ (s.wStop a).rd _ = _ ∧ (s.wStop a).rd _ = _
  unfold State.wStop
  extract_lets t₁ t₂
  have hapart : ∀ b : Act, fieldsApart [SEQ_CTRL.EN b, SEQ_STATUS.RUNNING b, SEQ_STATUS.WAITING b] = true ∧
    SEQ_CTRL b ≠ SEQ_FLUSH ∧ SEQ_STATUS b ≠ SEQ_FLUSH := by decide
  obtain ⟨hl, hctrl, hstatus⟩ := hapart a
  let l : List (Fld × Nat) := [(SEQ_CTRL.EN a, 0), (SEQ_STATUS.RUNNING a, 0), (SEQ_STATUS.WAITING a, 0)]
  have hmem : ∀ {g : Fld}, (g, 0) ∈ l → g.addr ≠ SEQ_FLUSH → (t₂.when (t₂.seq a).flushPend fun t => t.flushAct a).rd g = 0 := fun h hg =>
    (State.whenFlush_rd t₂ _ _ hg).trans (State.rd_wrs_of_mem (l := l) hl t₁ h (Nat.two_pow_pos _))
  exact ⟨hmem (by simp [l]) hctrl, hmem (by simp [l]) hstatus, hmem (by simp [l]) hstatus⟩

/-! ### The hook budget (R142) -/

/-- A violation in the open region with a caller to return to. -/
theorem State.hookBack_shown {ret depth : Nat} {bit : Fld} (hframe : (s.seq a).hookFrame = some (ret, depth)) (hret : ret < 16384) (hdepth : depth < 8)
    (hbit : bit.ok = true) (hstatus : bit.addr = SEQ_STATUS a) :
    let t := s.hookBack a bit
    t.rd (SEQ_PC.PC a) = ret ∧ t.rd (SEQ_LC_SP.SP a) = depth ∧ t.rd bit = 1 % 2 ^ (bit.hi + 1 - bit.lo) ∧ t.rd (SEQ_CTRL.HOOK_EN a) = 0 := by
  let l : List (Fld × Nat) := [(SEQ_CTRL.HOOK_EN a, 0), ((SEQ_CTRL.HOOK_EN a).hold, 0), (SEQ_PC.PC a, ret), (SEQ_LC_SP.SP a, depth)]
  have hrd (g : Fld) : (s.hookBack a bit).rd g = ((s.raiseBit bit (SEQ_INT_EN a)).wrs l).rd g := by
    rw [State.hookBack, hframe]
    dsimp only
    rw [State.wr_updSeq, State.wr_updSeq, State.updSeq_rd, State.hooksOff, State.clr, State.clr, State.wrs_cons, State.wrs_cons, State.wrs_cons,
      State.wrs_cons, State.wrs_nil]
  have hapart : ∀ b : Act, fieldsApart [SEQ_CTRL.HOOK_EN b, (SEQ_CTRL.HOOK_EN b).hold, SEQ_PC.PC b, SEQ_LC_SP.SP b] = true ∧
    ∀ x ∈ [SEQ_CTRL b, SEQ_CTRL b + holdOff, SEQ_PC b, SEQ_LC_SP b], SEQ_STATUS b ≠ x := by decide
  obtain ⟨hl, hne⟩ := hapart a
  refine ⟨?_, ?_, ?_, ?_⟩ <;> rw [hrd]
  · exact State.rd_wrs_of_mem (l := l) hl _ (by simp [l]) hret
  · exact State.rd_wrs_of_mem (l := l) hl _ (by simp [l]) hdepth
  · have hkeep : ((s.raiseBit bit (SEQ_INT_EN a)).wrs l).rd bit = (s.raiseBit bit (SEQ_INT_EN a)).rd bit :=
      congrArg (fun r => getF r _ _) (State.reg_wrs_ne _ l _ fun e he => hstatus ▸ hne _ (List.mem_map_of_mem (f := fun e => e.1.addr) he))
    rw [hkeep, State.raiseBit_rd, State.rd_wr_self _ _ _ hbit]
  · exact State.rd_wrs_of_mem (l := l) hl _ (by simp [l]) (by decide : 0 < 2)

/-- HOOK_BUDGET_EXHAUSTED with the budget used up. -/
theorem hookBudgetExhausted_completes {ret depth : Nat} (hrun : s.seqRunning a = true) (hopen : 12288 ≤ s.rd (SEQ_PC.PC a))
    (hused : s.rd (SEQ_HOOK_BUDGET.BUDGET a) ≤ (s.seq a).hookUsed) (hframe : (s.seq a).hookFrame = some (ret, depth)) (hret : ret < 16384)
    (hdepth : depth < 8) :
    completes (.hookBudgetExhausted a) s (fun t => t.rd (SEQ_PC.PC a) = ret ∧ t.rd (SEQ_LC_SP.SP a) = depth ∧
      t.rd (SEQ_STATUS.HOOK_OVER a) = 1 ∧ t.rd (SEQ_CTRL.HOOK_EN a) = 0) := by
  have hcond : (s.seqRunning a && s.inHook a && decide (s.rd (SEQ_HOOK_BUDGET.BUDGET a) ≤ (s.seq a).hookUsed)) = true := by
    simp [hrun, hused, State.inHook, hopen]
  exact ⟨_, congrArg Host.Outcome.next (if_pos hcond), State.hookBack_shown (bit := SEQ_STATUS.HOOK_OVER a) hframe hret hdepth rfl rfl⟩

/-! ### SEQ_STEP (R152) -/

/-- SEQ_STEP of an intact JUMP below the open region. -/
theorem seqStep_completes {w : Initiator} {n : Nat} (hmay : s.mayWrite w = true) (hpresent : s.actPresent a = true) (hmode : s.mode = .factory)
    (hen : s.on (SEQ_CTRL.EN a) = false) (harmed : s.watch.armed = none)
    (hintact : sparseGet 0 s.stores.errs (errKey false 0 (s.rd (SEQ_PC.PC a))) = 0)
    (hword : decodeMicro (s.storeWord false 0 (s.rd (SEQ_PC.PC a))) = .jump n) (hn : n < 16384) (hbase : s.rd (SEQ_PC.PC a) < 12288) :
    completes (.seqStep w a) s (fun t => t.rd (SEQ_PC.PC a) = n) := by
  have hexec : exec (.seqStep w a) s = .next (s.seqGoto a 2 n) := by
    show execSeqStep w a s = _
    simp only [execSeqStep, hmay, hpresent, State.inFactory, hmode, hen, State.fetchStore_of_intact a harmed hintact, hword, State.runWord]
    rfl
  exact ⟨_, hexec, State.seqGoto_pc 2 hbase hn⟩

/-! ### NANO words (R140, R143) -/

/-- A NANO word whose guard fails. -/
theorem nanoWord_completes_of_failed {n hsel g : Nat} (hw : s.atWord a (.nano n hsel g) = true) (hguard : nanoGuard (s.seq a) g = false)
    (hend : s.rd (SEQ_PC.PC a) < 16383) :
    completes (.nanoWord a) s (fun t => t.rd (SEQ_PC.PC a) = s.rd (SEQ_PC.PC a) + 1 ∧ (t.seq a).v = (s.seq a).v ∧
      (t.seq a).lanes = (s.seq a).lanes ∧ (t.seq a).tent = (s.seq a).tent) := by
  refine completes_of_atWord rfl hw rfl ?_
  have hskip : s.runWord a (.nano n hsel g) = s.seqNext a 1 := if_neg (by simp [hguard])
  rw [hskip]
  refine ⟨State.seqNext_pc 1 hend, ?_⟩
  rw [State.seqNext_of_lt 1 hend]
  exact ⟨State.cycles_seq_keeps SeqU.v s a a 1 fun _ _ _ => rfl, State.cycles_seq_keeps SeqU.lanes s a a 1 fun _ _ _ => rfl,
    State.cycles_seq_keeps SeqU.tent s a a 1 fun _ _ _ => rfl⟩

end

/-- An element set reads back. -/
theorem listSet_getD_self {α : Type} {l : List α} {i : Nat} (x d : α) (hi : i < l.length) : (listSet l i x).getD i d = x := by
  induction l generalizing i with
  | nil => cases hi
  | cons b l ih =>
    cases i with
    | zero => rfl
    | succ i => exact ih (Nat.lt_of_succ_lt_succ hi)

/-- The result of slot X of nano word `w` on the lane that HSEL names. -/
def State.nanoSlotX (s : State) (a hsel : Nat) (w : Nat) : Nat :=
  let e := s.seq a
  let l := e.work.getD (if hsel = 6 then e.hp else hsel) Lane.init
  (nanoAlu (s.preLen a) (s.fpreLen a) (s.gapLen a) l (bitsOf w 3 0) (nanoSrc e l (bitsOf w 47 16) (bitsOf w 11 8))
    (nanoSrc e l (bitsOf w 47 16) (bitsOf w 15 12))).1

theorem nanoDst_v {dst : Nat} (e : SeqU) (r : Nat) (h : dst < 8) : nanoDst e dst r = some { e with v := listSet e.v dst (BitVec.ofNat 32 r) } :=
  if_pos h

theorem nanoDst_none {dst : Nat} (e : SeqU) (r : Nat) (h : 10 ≤ dst) : nanoDst e dst r = some e := by
  simp only [nanoDst, if_neg (show ¬dst < 8 by omega), if_neg (show dst ≠ 8 by omega), if_neg (show dst ≠ 9 by omega)]

/-- A nano word that writes a V register from slot X, nothing from slot Y, and acts on no lane. -/
theorem State.runNano_v {s : State} {a n hsel w : Nat} (hfetch : s.fetchStore a true n = (s, w)) (hop : bitsOf w 3 0 ≠ 10) (hx : bitsOf w 7 4 < 8)
    (hy : 10 ≤ bitsOf w 55 52) (hlane : bitsOf w 100 97 = 0) :
    ∃ e : SeqU, e.v = listSet (s.seq a).v (bitsOf w 7 4) (BitVec.ofNat 32 (s.nanoSlotX a hsel w)) ∧
      s.runNano a n hsel = ((s.updSeq a (fun _ => e)).wr (SEQ_LC_SP.LC a) e.lc).seqNext a 1 := by
  simp only [State.runNano, hfetch, if_neg hop, nanoDst_v _ _ hx, Option.bind_some, nanoDst_none _ _ hy, hlane]
  refine ⟨_, ?_, rfl⟩
  split <;> rfl

/-- A NANO word whose guard holds, whose intact nano word only writes a V register. -/
theorem nanoWord_completes_of_passed {a : Act} {n hsel g : Nat} {s : State} (hw : s.atWord a (.nano n hsel g) = true)
    (hguard : nanoGuard (s.seq a) g = true) (hintact : sparseGet 0 s.stores.errs (errKey true 0 n) = 0) (hend : s.rd (SEQ_PC.PC a) < 16383)
    (hlen : (s.seq a).v.length = 8) (hop : bitsOf (s.storeWord true 0 n) 3 0 ≠ 10) (hx : bitsOf (s.storeWord true 0 n) 7 4 < 8)
    (hy : 10 ≤ bitsOf (s.storeWord true 0 n) 55 52) (hlane : bitsOf (s.storeWord true 0 n) 100 97 = 0) :
    completes (.nanoWord a) s (fun t => t.rd (SEQ_PC.PC a) = s.rd (SEQ_PC.PC a) + 1 ∧
      (t.seq a).v.getD (bitsOf (s.storeWord true 0 n) 7 4) 0 = BitVec.ofNat 32 (s.nanoSlotX a hsel (s.storeWord true 0 n))) := by
  refine completes_of_atWord rfl hw rfl ?_
  obtain ⟨hrun, harmed, _, _⟩ := State.atWord_elim hw
  obtain ⟨e, hv, hnano⟩ := State.runNano_v (hsel := hsel) (State.fetchStore_of_intact a harmed hintact) hop hx hy hlane
  let t := (s.updSeq a (fun _ => e)).wr (SEQ_LC_SP.LC a) e.lc
  have hrunWord : s.runWord a (.nano n hsel g) = t.seqNext a 1 := by
    show s.wNano a n hsel g = _
    rw [State.wNano, if_pos hguard, hnano]
  have haddr : SEQ_PC a ≠ SEQ_LC_SP a := by unfold SEQ_PC SEQ_LC_SP; omega
  have hpc : t.rd (SEQ_PC.PC a) = s.rd (SEQ_PC.PC a) := State.rd_wr_addr _ (SEQ_LC_SP.LC a) (SEQ_PC.PC a) _ haddr
  have hengine : t.seq a = e := State.updSeq_seq_self (fun _ => e) (State.lt_of_seqRunning hrun)
  have hkeep : ((t.seqNext a 1).seq a).v = (t.seq a).v := by
    rw [State.seqNext_of_lt 1 (hpc.trans_lt hend)]
    exact (congrArg SeqU.v (State.seq_congr (State.wr_seqs _ _ _) a)).trans (State.cycles_seq_keeps SeqU.v t a a 1 fun _ _ _ => rfl)
  rw [hrunWord, hkeep, hengine, hv]
  exact ⟨(State.seqNext_pc 1 (hpc.trans_lt hend)).trans (congrArg (· + 1) hpc), listSet_getD_self _ _ (hx.trans_eq hlen.symm)⟩

/-! ### SEQ_LATE (R134) -/

/-- What abandons, returns or cancels a sector leaves the count of late windows: of SEQ_n_EVT_CNT it changes ABANDONED alone. -/
theorem State.inc_abandoned_late (s : State) (k a : Nat) : (s.inc (SEQ_EVT_CNT.ABANDONED k)).rd (SEQ_EVT_CNT.LATE a) = s.rd (SEQ_EVT_CNT.LATE a) :=
  State.rd_wr_bits s _ _ _ rfl (.inl (by decide : 15 < 16))

theorem State.returnSector_late (s : State) (h : Nat) (d : SDesc) (abandoned : Bool) (a : Nat) :
    (s.returnSector h d abandoned).rd (SEQ_EVT_CNT.LATE a) = s.rd (SEQ_EVT_CNT.LATE a) := by
  cases abandoned
  · rfl
  · exact State.inc_abandoned_late _ _ _

theorem State.rereadAbandoned_late (s : State) (h : Nat) (d : SDesc) (a : Nat) :
    (s.rereadAbandoned h d).rd (SEQ_EVT_CNT.LATE a) = s.rd (SEQ_EVT_CNT.LATE a) := by
  unfold State.rereadAbandoned
  extract_lets n x t
  exact (State.rung3_rd _ x).trans (State.inc_abandoned_late (s.cancelToken h d.token) _ _)

theorem State.abandonChannel_rd (s : State) (h : Nat) (f : Fld) : (s.abandonChannel h).rd f = s.rd f :=
  State.rd_congr ((State.abandonChannel_kept (subMask_refl _) (Kept.refl _ s)).regs_ rfl) f

theorem State.leaveSector_late (s : State) (h : Nat) (d : SDesc) (a : Nat) :
    (s.leaveSector h d false).rd (SEQ_EVT_CNT.LATE a) = s.rd (SEQ_EVT_CNT.LATE a) := by
  unfold State.leaveSector
  split
  · split
    · exact State.returnSector_late s h d true a
    · exact (State.rereadAbandoned_late _ h d a).trans (State.abandonChannel_rd s h _)
  · exact State.returnSector_late s h d false a

/-- The sectors under way leave the lanes of engine `a`. -/
def State.leaveLanes (s : State) (a : Nat) : State :=
  s.forEach (List.range 6) (fun p t =>
    match (t.lane (a * 6 + p)).cur with
    | none => t
    | some d => t.leaveSector (a * 6 + p) d false)

theorem State.leaveLanes_late (s : State) (a b : Nat) : (s.leaveLanes a).rd (SEQ_EVT_CNT.LATE b) = s.rd (SEQ_EVT_CNT.LATE b) := by
  refine State.forEach_keeps (fun t => t.rd (SEQ_EVT_CNT.LATE b)) s (List.range 6) _ fun p t => ?_
  split
  · rfl
  · exact State.leaveSector_late t _ _ b

/-- Stepping dry changes the engine, lets the sectors under way leave, and changes the engine again. -/
theorem State.stepDry_eq (s : State) (a : Nat) : ∃ f g : SeqU → SeqU, s.stepDry a = ((s.updSeq a f).leaveLanes a).updSeq a g := ⟨_, _, rfl⟩

/-- Stepping dry leaves the count of late windows. -/
theorem State.stepDry_late (s : State) (a b : Nat) : (s.stepDry a).rd (SEQ_EVT_CNT.LATE b) = s.rd (SEQ_EVT_CNT.LATE b) := by
  obtain ⟨f, g, heq⟩ := s.stepDry_eq a
  rw [heq, State.updSeq_rd, State.leaveLanes_late, State.updSeq_rd]

/-- What a late window shows: the engine waits, LATE is set and counted. -/
theorem State.late_shown (s : State) (a : Act) (pc en : Nat) :
    let t := (((s.wrs [(SEQ_STATUS.RUNNING a, 0), (SEQ_STATUS.WAITING a, 1), (SEQ_PC.PC a, pc), (SEQ_LC_SP.SP a, 0)]).showEnds a 0).raiseBit
      (SEQ_STATUS.LATE a) en).inc (SEQ_EVT_CNT.LATE a)
    t.rd (SEQ_STATUS.RUNNING a) = 0 ∧ t.rd (SEQ_STATUS.WAITING a) = 1 ∧ t.rd (SEQ_STATUS.LATE a) = 1 ∧
      t.rd (SEQ_EVT_CNT.LATE a) = satU 8 (s.rd (SEQ_EVT_CNT.LATE a) + 1) := by
  have hends (u : State) : ∃ n, u.showEnds a 0 = u.wr (SEQ_ENDS.ENDS a) n := ⟨_, rfl⟩
  obtain ⟨ends, hends⟩ := hends (s.wrs [(SEQ_STATUS.RUNNING a, 0), (SEQ_STATUS.WAITING a, 1), (SEQ_PC.PC a, pc), (SEQ_LC_SP.SP a, 0)])
  rw [hends]
  let l : List (Fld × Nat) := [(SEQ_STATUS.RUNNING a, 0), (SEQ_STATUS.WAITING a, 1), (SEQ_PC.PC a, pc), (SEQ_LC_SP.SP a, 0), (SEQ_ENDS.ENDS a, ends),
    (SEQ_STATUS.LATE a, 1)]
  have hapart : ∀ b : Act, fieldsApart [SEQ_STATUS.RUNNING b, SEQ_STATUS.WAITING b, SEQ_PC.PC b, SEQ_LC_SP.SP b, SEQ_ENDS.ENDS b, SEQ_STATUS.LATE b] = true ∧
    SEQ_STATUS b ≠ SEQ_EVT_CNT b ∧ ∀ x ∈ [SEQ_STATUS b, SEQ_STATUS b, SEQ_PC b, SEQ_LC_SP b, SEQ_ENDS b, SEQ_STATUS b], SEQ_EVT_CNT b ≠ x := by decide
  obtain ⟨hl, hstatus, hcount⟩ := hapart a
  generalize hu : ((s.wrs _).wr (SEQ_ENDS.ENDS a) ends).raiseBit (SEQ_STATUS.LATE a) en = u
  have hraised (g : Fld) : u.rd g = (s.wrs l).rd g := by
    rw [← hu, State.raiseBit_rd]
    rfl
  have hmem : ∀ {g : Fld} {x : Nat}, (g, x) ∈ l → x < 2 ^ (g.hi + 1 - g.lo) → g.addr = SEQ_STATUS a → (u.inc (SEQ_EVT_CNT.LATE a)).rd g = x :=
    fun {g} {x} h hx hg => by
      have hother : (u.inc (SEQ_EVT_CNT.LATE a)).rd g = u.rd g := State.rd_wr_addr u (SEQ_EVT_CNT.LATE a) g _ (hg ▸ hstatus)
      rw [hother, hraised]
      exact State.rd_wrs_of_mem (l := l) hl s h hx
  refine ⟨hmem (by simp [l]) (by decide : 0 < 2) rfl, hmem (by simp [l]) (by decide : 1 < 2) rfl, hmem (by simp [l]) (by decide : 1 < 2) rfl, ?_⟩
  have hkeep : (s.wrs l).rd (SEQ_EVT_CNT.LATE a) = s.rd (SEQ_EVT_CNT.LATE a) :=
    congrArg (fun r => getF r _ _) (State.reg_wrs_ne s l _ fun e he => hcount _ (List.mem_map_of_mem (f := fun e => e.1.addr) he))
  rw [← hkeep, ← hraised]
  exact State.rd_inc_self u (SEQ_EVT_CNT.LATE a) rfl

/-- SEQ_LATE in a window. -/
theorem seqLate_completes {a : Act} {s : State} (hrun : s.seqRunning a = true) :
    completes (.seqLate a) s (fun t => t.rd (SEQ_STATUS.RUNNING a) = 0 ∧ t.rd (SEQ_STATUS.WAITING a) = 1 ∧ t.rd (SEQ_STATUS.LATE a) = 1 ∧
      t.rd (SEQ_EVT_CNT.LATE a) = satU 8 (s.rd (SEQ_EVT_CNT.LATE a) + 1)) := by
  refine ⟨_, congrArg Host.Outcome.next (if_pos hrun), ?_⟩
  extract_lets t₁ t₂ t₃ t₄ x t₅
  have hflush : ∀ b : Act, ∀ x ∈ engineStatus b, x ≠ SEQ_FLUSH := by decide
  have hrd (g : Fld) (hg : g.addr ∈ engineStatus a) : (t₅.when (t₅.seq a).flushPend fun t => t.flushAct a).rd g = t₄.rd g :=
    (State.whenFlush_rd t₅ _ _ (hflush a _ hg)).trans (State.raiseSrc_engineStatus t₄ _ _ a hg)
  have hdry : t₂.rd (SEQ_EVT_CNT.LATE a) = s.rd (SEQ_EVT_CNT.LATE a) := (State.updSeq_rd t₁ a _ _).trans (State.stepDry_late s a a)
  have hstatus : SEQ_STATUS a ∈ engineStatus a := List.mem_cons_self
  have hcount : SEQ_EVT_CNT a ∈ engineStatus a := List.mem_cons_of_mem _ List.mem_cons_self
  obtain ⟨hrunning, hwaiting, hlate, hcounted⟩ := State.late_shown t₂ a (t₂.rd (SEQ_ENTRY.ENTRY a)) (SEQ_INT_EN a)
  rw [hdry] at hcounted
  exact ⟨(hrd (SEQ_STATUS.RUNNING a) hstatus).trans hrunning, (hrd (SEQ_STATUS.WAITING a) hstatus).trans hwaiting,
    (hrd (SEQ_STATUS.LATE a) hstatus).trans hlate, (hrd (SEQ_EVT_CNT.LATE a) hcount).trans hcounted⟩

/-- Settles O30, clause by clause: WEDGE_HANDLING, NANO words, SIGNAL, WWAIT, STOP, the hook budget, SEQ_LATE, SEQ_FLUSH and SEQ_STEP. -/
theorem sequencerWindow : Obligations.SequencerWindow :=
  ⟨fun _ _ hpresent hlocked hen hfence hidle hrun hgated => wedgeHandling_completes hpresent hlocked hen hfence hidle hrun hgated,
    fun _ _ _ _ _ hw hguard hintact hend _ hlen hop hx hy hlane => nanoWord_completes_of_passed hw hguard hintact hend hlen hop hx hy hlane,
    fun _ _ _ _ _ hw hguard hend => nanoWord_completes_of_failed hw hguard hend,
    fun _ _ _ hw hk hend => signal_completes hw hk hend,
    fun _ _ _ hw hend => wwait_completes hw hend,
    fun _ _ _ hw => seqStop_completes hw,
    fun _ _ _ _ hrun hopen hused hframe hret hdepth => hookBudgetExhausted_completes hrun hopen hused hframe hret hdepth,
    fun _ _ hrun => seqLate_completes hrun,
    fun mask s => seqFlush_completes mask s,
    fun _ _ _ _ hmay hpresent hmode hen harmed hintact hword hn hbase => seqStep_completes hmay hpresent hmode hen harmed hintact hword hn hbase⟩

end Sys2Proof.Machine
end

