-- ==== Sys2Proof/Proofs/ControlRules.lean ====
section
/-! The loops of the control engine: their updates, their registers, and what the operations of other units leave of them (O39, O40). -/

namespace Sys2Proof.Machine
open Reg

/-! ### Loops -/

theorem State.updLoop_loop_self {s : State} {n : Nat} (f : CtlLoop → CtlLoop) (hn : n < s.ctl.loops.length) :
    (s.updLoop n f).loop n = f (s.loop n) := listModify_getD_self _ _ _ _ hn

theorem State.loop_congr {s t : State} (h : t.ctl = s.ctl) (n : Nat) : t.loop n = s.loop n := by
  simp only [State.loop, h]

/-- A loop that does not read as one at reset is one there is. -/
theorem State.lt_of_loop_ne {s : State} {n : Nat} (h : s.loop n ≠ CtlLoop.init) : n < s.ctl.loops.length := by
  by_contra hlen
  exact h (List.getD_eq_default _ _ (Nat.not_lt.1 hlen))

theorem State.lt_of_stage_pos {s : State} {n : Nat} (h : 0 < (s.loop n).stage) : n < s.ctl.loops.length :=
  State.lt_of_loop_ne fun e => absurd h (by rw [e]; decide)

theorem State.lt_of_count_pos {s : State} {n : Nat} (h : 0 < (s.loop n).count) : n < s.ctl.loops.length :=
  State.lt_of_loop_ne fun e => absurd h (by rw [e]; decide)

/-! ### What leaves the control engine -/

@[simp] theorem State.wrs_ctl (s : State) (l : List (Fld × Nat)) : (s.wrs l).ctl = s.ctl :=
  State.wrs_keeps State.ctl s l fun f x t => State.wr_ctl t f x

@[simp] theorem State.raiseBit_ctl (s : State) (f : Fld) (en : Nat) : (s.raiseBit f en).ctl = s.ctl :=
  State.when_keeps State.ctl (s.setB f) _ fun _ => rfl

@[simp] theorem State.wrpBits_ctl (s : State) (hs : List Nat) (f : Nat → Fld) : (s.wrpBits hs f).ctl = s.ctl :=
  State.forEach_keeps State.ctl s hs _ fun h t => State.when_keeps State.ctl (t.setB (f h)) _ fun _ => rfl

@[simp] theorem State.raiseSrc_ctl (s : State) (src : Nat) (x : RaiseCtx) : (s.raiseSrc src x).ctl = s.ctl :=
  (State.raiseSrc_kept (subMask_refl _) (Kept.refl _ s)).ctl_ rfl

@[simp] theorem State.dropGates_ctl (s : State) (b : Bool) (hs : List Nat) : (s.dropGates b hs).ctl = s.ctl :=
  (State.dropGates_kept (subMask_refl _) (Kept.refl _ s)).ctl_ rfl

@[simp] theorem State.refuseW_ctl (s : State) (w : Initiator) (ofs cause : Nat) : (s.refuseW w ofs cause).ctl = s.ctl :=
  (State.refuseW_kept (subMask_refl _) (Kept.refl _ s)).ctl_ rfl

/-- The condition of R124 lies in the write path. -/
@[simp] theorem State.oscCondition_ctl (s : State) (n : Nat) (on : Bool) : (s.oscCondition n on).ctl = s.ctl :=
  (State.oscCondition_kept (subMask_refl _) (Kept.refl _ s)).ctl_ rfl

theorem State.oscCondition_sys (s : State) (n : Nat) (on : Bool) : (s.oscCondition n on).sys = s.sys :=
  (State.oscCondition_kept (subMask_refl _) (Kept.refl _ s)).sys_ rfl

/-- The scope of a loop is that of the heads that are present. -/
theorem State.oscScope_congr {s t : State} (h : t.sys = s.sys) (n : Nat) : t.oscScope n = s.oscScope n := by
  have hpresent : t.headPresent = s.headPresent := funext (State.headPresent_congr h)
  simp only [State.oscScope, State.headsOf, State.allHeads, hpresent]

/-! ### The registers of a loop -/

/-- The registers of a loop that its commands and stages show. -/
def loopRegs (n : LoopN) : List Nat := [CTL_CFG n, CTL_STATUS n]

/-- What changes none of these registers leaves their fields. -/
theorem Kept.rd_loop {w : Nat} {s t : State} (h : Kept w s t) (hl : ∀ k : LoopN, (loopRegs k).all (maskClear w) = true) (n : LoopN) {f : Fld}
    (hf : f.addr ∈ loopRegs n) : t.rd f = s.rd f := h.rd_keep (List.all_eq_true.1 (hl n) _ hf)

theorem State.raiseSrc_loopReg (s : State) (src : Nat) (x : RaiseCtx) (n : LoopN) {f : Fld} (hf : f.addr ∈ loopRegs n) :
    (s.raiseSrc src x).rd f = s.rd f := (State.raiseSrc_kept (subMask_refl _) (Kept.refl _ s)).rd_loop (by decide +kernel) n hf

theorem State.refuseW_loopReg (s : State) (w : Initiator) (ofs cause : Nat) (n : LoopN) {f : Fld} (hf : f.addr ∈ loopRegs n) :
    (s.refuseW w ofs cause).rd f = s.rd f := (State.refuseW_kept (subMask_refl _) (Kept.refl _ s)).rd_loop (by decide +kernel) n hf

theorem status_mem_loopRegs (n : LoopN) : CTL_STATUS n ∈ loopRegs n := List.mem_cons_of_mem _ List.mem_cons_self

theorem cfg_mem_loopRegs (n : LoopN) : CTL_CFG n ∈ loopRegs n := List.mem_cons_self

theorem CTL_STATUS_inj {n m : Nat} (h : CTL_STATUS n = CTL_STATUS m) : n = m := by
  unfold CTL_STATUS at h
  omega

theorem CTL_STATUS_ne_OUT (n m : Nat) : CTL_STATUS n ≠ CTL_OUT m := by
  unfold CTL_STATUS CTL_OUT
  omega

end Sys2Proof.Machine
end

