-- ==== Sys2Proof/Proofs/RaiseHolding.lean ====
section
/-! A raise of an oscillation source leaves the holding copies of the loops' configuration (R187, R457, R486; O39). -/

namespace Sys2Proof.Machine
open Reg

/-- The holding copy of a loop's configuration (R486). -/
def State.heldCfg (s : State) (n : LoopN) : Word := s.reg (CTL_CFG n + holdOff)

/-- What changes no holding copy of the loops' configuration leaves them. -/
theorem Kept.heldCfg {w : Nat} {s t : State} (h : Kept w s t) (hl : ∀ k : LoopN, maskClear w (CTL_CFG k + holdOff) = true) (n : LoopN) :
    t.heldCfg n = s.heldCfg n := h.reg_keep (hl n)

theorem State.heldCfg_wr_low (s : State) (n : LoopN) {f : Fld} (x : Nat) (hf : f.addr < holdOff) : (s.wr f x).heldCfg n = s.heldCfg n :=
  State.reg_wr_ne s f x _ (ne_of_gt (lt_of_lt_of_le hf (Nat.le_add_left _ _)))

/-- An oscillation source has the class of its stage, or a higher one that WCH_SRC_CFG gives (R458, R459). -/
theorem State.classOf_osc_lt (s : State) (n : LoopN) {stage : Nat} (h : stage < 8) : s.classOf (0x100 + n) stage < 8 := by
  have hbase : s.baseClass (0x100 + n) stage = stage := by
    unfold State.baseClass
    rw [if_neg (by omega), if_pos (by omega)]
  unfold State.classOf
  rw [hbase]
  exact max_lt h (Nat.mod_lt _ (by decide))

theorem State.countRaise_heldCfg (s : State) {src cls : Nat} (n : LoopN) (hsrc : src < 512) (hcls : cls < 8) :
    (s.countRaise src cls).heldCfg n = s.heldCfg n := by
  have hcount : WCH_CLASS_CNT cls < holdOff := by
    unfold WCH_CLASS_CNT holdOff
    omega
  have hraised : WCH_RAISED (src / 32) < holdOff := by
    unfold WCH_RAISED holdOff
    omega
  exact (State.heldCfg_wr_low _ n 1 hraised).trans (State.heldCfg_wr_low _ n _ hcount)

theorem State.capture_heldCfg (s : State) {c : Nat} (src : Nat) (x : RaiseCtx) (n : LoopN) (hc : c < 8) :
    (s.capture c src x).heldCfg n = s.heldCfg n := by
  have hlow : ∀ k : Fin 8, ∀ a ∈ [WCH_FEC_INFO k, WCH_FEC_INFO k, WCH_FEC_INFO k, WCH_FEC_INFO k, WCH_FEC_INFO k, WCH_FEC_ADDR_LO k,
    WCH_FEC_ADDR_HI k, WCH_FEC_BELL_LO k, WCH_FEC_BELL_HI k, WCH_FEC_FINE k, WCH_FEC_CTRL k], a < holdOff := by decide
  unfold State.capture
  split
  · exact State.heldCfg_wr_low s n _ (hlow ⟨c, hc⟩ (WCH_FEC_CTRL c) (by simp))
  · refine (State.reg_wrs_ne _ _ _ fun e he => ?_).trans (State.when_keeps (fun t => t.heldCfg n) s _ fun _ => rfl)
    exact ne_of_gt (lt_of_lt_of_le (hlow ⟨c, hc⟩ _ (List.mem_map_of_mem (f := fun e => e.1.addr) he)) (Nat.le_add_left _ _))

/-- A raise of a loop's oscillation source leaves the holding copy of the loop's configuration. -/
theorem State.raiseSrc_heldCfg (s : State) (n : LoopN) {x : RaiseCtx} (hstage : x.stage < 8) :
    (s.raiseSrc (0x100 + n) x).heldCfg n = s.heldCfg n := by
  unfold State.raiseSrc
  extract_lets inj s1 x1 cfg cls t t1 t2 t3 t4 t5 t6 t7 t8 t9
  split
  · rfl
  have hstage1 : x1.stage < 8 := by
    unfold x1
    split <;> exact hstage
  have hcls : cls < 8 := s1.classOf_osc_lt n hstage1
  have ht : t.heldCfg n = s.heldCfg n := by
    refine (s1.countRaise_heldCfg n (by omega) hcls).trans ?_
    unfold s1
    split
    · exact (State.injDone_kept (subMask_refl _) (Kept.refl _ s)).heldCfg (by decide +kernel) n
    · rfl
  split
  · exact ht
  have hlogged : t4.heldCfg n = t.heldCfg n := calc
    t4.heldCfg n = t3.heldCfg n := State.when_keeps (fun u => u.heldCfg n) t3 _ fun u =>
      (State.logSource_kept (subMask_refl _) (Kept.refl _ u)).heldCfg (by decide +kernel) n
    _ = t2.heldCfg n := (State.wlogItem_kept (subMask_refl _) (Kept.refl _ t2)).heldCfg (by decide +kernel) n
    _ = t1.heldCfg n := (t1.raiseBit_reg _ _ _).trans (t1.heldCfg_wr_low n 1 (by decide : WCH_STATUS < holdOff))
    _ = t.heldCfg n := t.capture_heldCfg _ x1 n hcls
  have htold : t9.heldCfg n = t4.heldCfg n := calc
    t9.heldCfg n = t8.heldCfg n := State.when_keeps (fun u => u.heldCfg n) t8 _ fun u =>
      (State.unitFaultMode_kept (subMask_refl _) (Kept.refl _ u)).heldCfg (by decide +kernel) n
    _ = t7.heldCfg n := State.when_keeps (fun u => u.heldCfg n) t7 _ fun u =>
      (State.msixSend_kept (subMask_refl _) (Kept.refl _ u)).heldCfg (by decide +kernel) n
    _ = t6.heldCfg n := State.when_keeps (fun u => u.heldCfg n) t6 _ fun _ => rfl
    _ = t5.heldCfg n := State.when_keeps (fun u => u.heldCfg n) t5 _ fun u =>
      (State.faultNPulse_kept (subMask_refl _) (Kept.refl _ u)).heldCfg (by decide +kernel) n
    _ = t4.heldCfg n := State.when_keeps (fun u => u.heldCfg n) t4 _ fun _ => rfl
  refine Eq.trans (State.when_keeps (fun u => u.heldCfg n) t9 (cls == 4) fun _ => ?_) (htold.trans (hlogged.trans ht))
  rfl

/-- So the set that the holding copy names stands. -/
theorem State.raiseSrc_heldSet (s : State) (n : LoopN) {x : RaiseCtx} (hstage : x.stage < 8) :
    (s.raiseSrc (0x100 + n) x).rd (CTL_CFG.ACTIVE_SET n).hold = s.rd (CTL_CFG.ACTIVE_SET n).hold :=
  congrArg (fun r => getF r 3 0) (s.raiseSrc_heldCfg n hstage)

end Sys2Proof.Machine
end

