-- ==== Sys2Proof/Proofs/GateDrops.lean ====
section
/-! A drop of the open write gates of a list of heads, by a head's own condition or another's, leaves none of them open (R44, R124, R126). -/

namespace Sys2Proof.Machine
open Reg

/-! ### What opens no gate -/

/-- No write gate is open on head `h`. -/
def State.gateIdle (s : State) (h : Nat) : Prop := (s.head h).gate = none

theorem State.gateIdle_congr {s t : State} {h : Nat} (hs : s.gateIdle h) (hwrp : t.wrp = s.wrp) : t.gateIdle h :=
  (congrArg HeadU.gate (State.head_congr hwrp h)).trans hs

/-- An update of a head that opens no gate. -/
theorem State.gateIdle_updHead {s : State} {h : Nat} (k : Nat) {f : HeadU → HeadU} (hf : ∀ u, u.gate = none → (f u).gate = none)
    (hs : s.gateIdle h) : (s.updHead k f).gateIdle h := listModify_getD_stays (P := fun u : HeadU => u.gate = none) hf s.wrp.heads k h _ hs

theorem State.gateIdle_unlist {s : State} {h : Nat} (k tok : Nat) (hs : s.gateIdle h) : (s.unlist k tok).gateIdle h :=
  State.gateIdle_updHead k (fun _ hu => hu) hs

theorem State.gateIdle_closeGate {s : State} {h : Nat} (k : Nat) (hs : s.gateIdle h) : (s.closeGate k).gateIdle h := by
  unfold State.closeGate
  split
  · exact hs
  · exact State.gateIdle_updHead k (fun _ _ => rfl) hs

theorem State.gateIdle_zoneReadOnly {s : State} {h : Nat} (z k : Nat) (hs : s.gateIdle h) : (s.zoneReadOnly z k).gateIdle h :=
  State.gateIdle_congr hs ((State.zoneReadOnly_kept (subMask_refl _) (Kept.refl _ s)).wrp_ rfl)

theorem State.cmdFail_wrp (s : State) (tag status lba : Nat) : (s.cmdFail tag status lba).wrp = s.wrp := rfl

theorem State.growDefect_wrp (s : State) (z slot : Nat) (spare : Option Nat) : (s.growDefect z slot spare).wrp = s.wrp :=
  (State.growDefect_kept (subMask_refl _) (Kept.refl _ s)).wrp_ rfl

/-- Appends taken back close gates and open none (R44, R527). -/
theorem State.gateIdle_unplace {s : State} {h : Nat} (z : Nat) (cut : Placed → Bool) (hs : s.gateIdle h) : (s.unplace z cut).gateIdle h := by
  unfold State.unplace
  extract_lets x gone t
  split
  · exact hs
  · have ht : t.gateIdle h := State.gateIdle_congr hs (State.updZone_wrp s z _)
    refine State.forEach_stays (P := fun u => u.gateIdle h) (fun g u hu => ?_) gone ht
    refine State.forEach_stays (P := fun u => u.gateIdle h) (fun w u hu => ?_) _ (State.gateIdle_congr hu (u.cmdFail_wrp _ _ _))
    refine State.gateIdle_unlist w.head _ ?_
    split
    · split
      · exact State.gateIdle_closeGate w.head hu
      · exact hu
    · exact hu

theorem State.gateIdle_replace {s : State} {h : Nat} (z lba : Nat) (hs : s.gateIdle h) : (s.replace z lba).gateIdle h := by
  unfold State.replace
  extract_lets zs moved toks t again t1
  have ht : t.gateIdle h := State.forEach_stays (P := fun u => u.gateIdle h) (fun e u hu => State.gateIdle_unlist e.2 e.1 hu) toks hs
  exact State.gateIdle_congr ht (State.updZone_wrp t1 z _)

theorem State.gateIdle_slotNoRoom {s : State} {h : Nat} (tok : Nat) (w : SecWork) (k : Nat) (hs : s.gateIdle h) :
    (s.slotNoRoom tok w k).gateIdle h := by
  unfold State.slotNoRoom
  extract_lets t t1 rel
  have ht : t.gateIdle h := by
    unfold t
    split
    · exact State.gateIdle_congr hs ((State.logEvent_kept (subMask_refl _) (Kept.refl _ s)).wrp_ rfl)
    · exact State.gateIdle_congr hs (s.growDefect_wrp _ _ _)
  have ht1 : t1.gateIdle h := State.gateIdle_zoneReadOnly w.zone w.head ht
  split
  · exact State.gateIdle_congr ht1 ((State.cmdFail_wrp _ _ _ _).trans (State.updSec_wrp t1 tok _))
  · exact State.gateIdle_unplace w.zone _ ht1

/-- A slip opens no gate (R44). -/
theorem State.gateIdle_slipSlot {s : State} {h : Nat} (tok : Nat) (w : SecWork) (hs : s.gateIdle h) : (s.slipSlot tok w).gateIdle h := by
  unfold State.slipSlot
  extract_lets total
  split
  extract_lets taken t t1 t2 cap t3 t4
  have ht : t.gateIdle h := State.forEach_stays (P := fun u => u.gateIdle h)
    (fun b u hu => State.gateIdle_congr hu (u.growDefect_wrp _ _ _)) taken hs
  have ht1 : t1.gateIdle h := State.gateIdle_congr ht (State.updZone_wrp t _ _)
  have ht2 : t2.gateIdle h := State.gateIdle_replace _ _ ht1
  have ht3 : t3.gateIdle h := by
    unfold t3 State.when
    split
    · exact State.gateIdle_zoneReadOnly _ _ ht2
    · exact ht2
  have ht4 : t4.gateIdle h := State.gateIdle_unplace _ _ ht3
  split
  · exact State.gateIdle_slotNoRoom _ _ _ ht4
  split
  · exact ht4
  · exact State.gateIdle_unplace w.zone _ (State.gateIdle_zoneReadOnly w.zone w.head ht4)

/-- A reallocation opens no gate (R45). -/
theorem State.gateIdle_reallocSlot {s : State} {h : Nat} (tok : Nat) (w : SecWork) (hs : s.gateIdle h) : (s.reallocSlot tok w).gateIdle h := by
  unfold State.reallocSlot
  split
  · exact hs
  extract_lets used spares
  split
  · exact State.gateIdle_slotNoRoom _ _ _ hs
  split
  · exact State.gateIdle_slotNoRoom _ _ _ hs
  · have hstamp : s.takeStamp.1.gateIdle h := State.gateIdle_congr hs ((State.takeStamp_kept (subMask_refl _) (Kept.refl _ s)).wrp_ rfl)
    exact State.gateIdle_congr hstamp ((State.updSec_wrp _ _ _).trans (State.growDefect_wrp _ _ _ _))

theorem State.gateIdle_slotFailed {s : State} {h : Nat} (tok : Nat) (hs : s.gateIdle h) : (s.slotFailed tok).gateIdle h := by
  unfold State.slotFailed
  split
  · exact hs
  extract_lets t
  have ht : t.gateIdle h := State.gateIdle_unlist _ tok hs
  split
  · exact State.gateIdle_reallocSlot tok _ ht
  · exact State.gateIdle_slipSlot tok _ ht

theorem State.gateIdle_countDrop {s : State} {h : Nat} (tok : Nat) (hs : s.gateIdle h) : (s.countDrop tok).gateIdle h := by
  unfold State.countDrop
  extract_lets t
  split
  · exact hs
  split
  · exact State.gateIdle_slotFailed tok hs
  · exact hs

/-! ### Drops -/

/-- A drop by a condition of the head itself is a drop, and counts at the sector's slot (R126). -/
theorem State.dropGate_own (s : State) (k : Nat) :
    (s.gateIdle k ∧ s.dropGate true k = s) ∨ ∃ tok, s.dropGate true k = (s.dropGate false k).countDrop tok := by
  cases hgate : (s.head k).gate with
  | none => exact .inl ⟨hgate, by simp only [State.dropGate, hgate]⟩
  | some g => exact .inr ⟨g.1, by simp only [State.dropGate, hgate, if_true, Bool.false_eq_true, if_false]⟩

/-- A drop by another's condition opens no gate. -/
theorem State.gateIdle_dropGate_other {s : State} {h : Nat} (k : Nat) (hs : s.gateIdle h) : (s.dropGate false k).gateIdle h := by
  rcases s.dropGate_wrp k with ⟨_, hsame⟩ | hdrop
  · exact hsame.symm ▸ hs
  · exact State.gateIdle_congr (State.gateIdle_updHead (f := fun u => { u with gate := none }) k (fun _ _ => rfl) hs) hdrop

/-- A drop on one head opens no gate of any. -/
theorem State.gateIdle_dropGate {s : State} {h : Nat} (b : Bool) (k : Nat) (hs : s.gateIdle h) : (s.dropGate b k).gateIdle h := by
  cases b with
  | false => exact State.gateIdle_dropGate_other k hs
  | true =>
    rcases s.dropGate_own k with ⟨_, hsame⟩ | ⟨tok, hdrop⟩
    · exact hsame.symm ▸ hs
    · exact hdrop.symm ▸ State.gateIdle_countDrop tok (State.gateIdle_dropGate_other k hs)

/-- A drop leaves no gate of its head open. -/
theorem State.gateIdle_dropGate_self (s : State) (b : Bool) (h : Nat) : (s.dropGate b h).gateIdle h := by
  have hother : (s.dropGate false h).gateIdle h := State.dropGates_gate s [h] h List.mem_cons_self
  cases b with
  | false => exact hother
  | true =>
    rcases s.dropGate_own h with ⟨hidle, hsame⟩ | ⟨tok, hdrop⟩
    · exact hsame.symm ▸ hidle
    · exact hdrop.symm ▸ State.gateIdle_countDrop tok hother

theorem State.gateIdle_dropGates (s : State) (b : Bool) (hs : List Nat) : ∀ h ∈ hs, (s.dropGates b hs).gateIdle h :=
  State.forEach_all (Q := fun h t => t.gateIdle h) (fun h t => t.gateIdle_dropGate_self b h) (fun k _ _ ht => State.gateIdle_dropGate b k ht) hs s

end Sys2Proof.Machine
end

