-- ==== Sys2Proof/Proofs/OscillationStages.lean ====
section
/-! The stages of an oscillation and its end (R181, R187; O39). -/

namespace Sys2Proof.Machine
open Reg

/-! ### The first stage: writes stop in the scope -/

/-- OSC_STAGE_1. -/
theorem oscStage1_completes {n : LoopN} {s : State} (hpresent : s.loopPresent n = true) (hstage : (s.loop n).stage = 0)
    (hcount : s.rd (CTL_OSC_CFG.OSC_BELLS n) ≤ (s.loop n).count) (hloops : s.ctl.loops.length = 29) :
    completes (.oscStage1 n) s (fun t => (t.loop n).stage = 1 ∧ t.rd (CTL_STATUS.OSC1 n) = 1 ∧ t.rd (CTL_STATUS.INHIBIT n) = 1 ∧
      ∀ h ∈ s.oscScope n, (t.head h).gate = none) := by
  refine ⟨_, congrArg Host.Outcome.next (if_pos (by simp [hpresent, hstage, hcount])), ?_⟩
  extract_lets t0 hs t1 t2
  have hapart : ∀ k : LoopN, fieldsApart [CTL_STATUS.OSC1 k, CTL_STATUS.INHIBIT k] = true ∧ CTL_STATUS k ≠ CTL_CNT k := by decide
  obtain ⟨hl, hcnt⟩ := hapart n
  have hshown {f : Fld} {x : RaiseCtx} (hf : (f, 1) ∈ [(CTL_STATUS.OSC1 n, 1), (CTL_STATUS.INHIBIT n, 1)]) (hw : f.addr = CTL_STATUS n)
      (hbit : f.hi = f.lo) : (t2.raiseSrc (0x100 + n) x).rd f = 1 := calc
    _ = t2.rd f := t2.raiseSrc_loopReg _ _ n (hw ▸ status_mem_loopRegs n)
    _ = (t1.wrs [(CTL_STATUS.OSC1 n, 1), (CTL_STATUS.INHIBIT n, 1)]).rd f := State.rd_wr_addr _ _ f _ (hw ▸ hcnt)
    _ = 1 := State.rd_wrs_of_mem (l := [(CTL_STATUS.OSC1 n, 1), (CTL_STATUS.INHIBIT n, 1)]) hl t1 hf (by rw [hbit]; simp)
  have hctl (x : RaiseCtx) : (t2.raiseSrc (0x100 + n) x).ctl = (s.updLoop n (fun l => { l with stage := 1 })).ctl :=
    (t2.raiseSrc_ctl _ _).trans ((State.inc_ctl _ _).trans ((t1.wrs_ctl _).trans ((State.wrpBits_ctl _ _ _).trans
      ((t0.dropGates_ctl _ _).trans (State.oscCondition_ctl _ _ _)))))
  have hscope : hs = s.oscScope n := State.oscScope_congr (State.oscCondition_sys _ _ _) n
  have hwrp (x : RaiseCtx) : (t2.raiseSrc (0x100 + n) x).wrp = (t0.dropGates (decide (4 ≤ n.val) && decide (n.val < 28)) hs).wrp :=
    ((State.raiseSrc_kept (subMask_refl _) (Kept.refl _ t2)).wrp_ rfl).trans (State.wrpBits_wrp _ _ _)
  refine ⟨?_, hshown (.head _) rfl rfl, hshown (.tail _ (.head _)) rfl rfl, fun h hh => ?_⟩
  · rw [State.loop_congr (hctl _), State.updLoop_loop_self _ (by omega)]
  · exact State.gateIdle_congr (t0.gateIdle_dropGates _ hs h (hscope ▸ hh)) (hwrp _)

/-! ### The second stage: the safe set -/

/-- OSC_STAGE_2. -/
theorem oscStage2_completes {n : LoopN} {s : State} (hpresent : s.loopPresent n = true) (hstage : (s.loop n).stage = 1)
    (hcount : 2 * s.rd (CTL_OSC_CFG.OSC_BELLS n) ≤ (s.loop n).count) :
    completes (.oscStage2 n) s (fun t => (t.loop n).stage = 2 ∧ t.rd (CTL_STATUS.OSC2 n) = 1 ∧
      t.rd (CTL_CFG.ACTIVE_SET n) = s.rd (CTL_CFG.SAFE_SET n) ∧ t.rd (CTL_CFG.ACTIVE_SET n).hold = s.rd (CTL_CFG.SAFE_SET n)) := by
  refine ⟨_, congrArg Host.Outcome.next (if_pos (by simp [hpresent, hstage, hcount])), ?_⟩
  extract_lets k t0 t1
  have hapart : ∀ m : LoopN, fieldsApart [CTL_CFG.ACTIVE_SET m, (CTL_CFG.ACTIVE_SET m).hold, CTL_STATUS.OSC2 m] = true := by decide
  have hk : k < 2 ^ 4 := State.rd_lt s (CTL_CFG.SAFE_SET n)
  have hwritten {f : Fld} {x : Nat} (hf : (f, x) ∈ [(CTL_CFG.ACTIVE_SET n, k), ((CTL_CFG.ACTIVE_SET n).hold, k), (CTL_STATUS.OSC2 n, 1)])
      (hx : x < 2 ^ (f.hi + 1 - f.lo)) : t1.rd f = x :=
    State.rd_wrs_of_mem (l := [(CTL_CFG.ACTIVE_SET n, k), ((CTL_CFG.ACTIVE_SET n).hold, k), (CTL_STATUS.OSC2 n, 1)]) (hapart n) t0 hf hx
  have hctl (x : RaiseCtx) : (t1.raiseSrc (0x100 + n) x).ctl = t0.ctl := (t1.raiseSrc_ctl _ _).trans (t0.wrs_ctl _)
  refine ⟨?_, ?_, ?_, ?_⟩
  · rw [State.loop_congr (hctl _), State.updLoop_loop_self _ (State.lt_of_stage_pos (by omega))]
  · exact (t1.raiseSrc_loopReg _ _ n (status_mem_loopRegs n)).trans (hwritten (.tail _ (.tail _ (.head _))) (by decide : 1 < 2))
  · exact (t1.raiseSrc_loopReg _ _ n (cfg_mem_loopRegs n)).trans (hwritten (.head _) hk)
  · exact (t1.raiseSrc_heldSet n (by decide : 0 < 8)).trans (hwritten (.tail _ (.head _)) hk)

/-! ### The third stage: the loop is TRIPPED -/

/-- The loop is TRIPPED in stage 3. -/
def State.isTripped (s : State) (n : LoopN) : Prop := (s.loop n).stage = 3 ∧ s.rd (CTL_STATUS.OSC3 n) = 1 ∧ s.loopState n = 3

theorem State.isTripped_congr {s t : State} {n : LoopN} (hs : s.isTripped n) (hloops : t.ctl.loops = s.ctl.loops)
    (hrd : ∀ f : Fld, f.addr = CTL_STATUS n → t.rd f = s.rd f) : t.isTripped n := by
  obtain ⟨hstage, hbit, hcode⟩ := hs
  have hloop : t.loop n = s.loop n := by rw [State.loop, State.loop, hloops]
  exact ⟨(congrArg CtlLoop.stage hloop).trans hstage, (hrd (CTL_STATUS.OSC3 n) rfl).trans hbit, (hrd (CTL_STATUS.STATE n) rfl).trans hcode⟩

theorem Kept.isTripped {w : Nat} {s t : State} {n : LoopN} (h : Kept w s t) (hctl : w.testBit 11 = false)
    (hl : ∀ k : LoopN, maskClear w (CTL_STATUS k) = true) (hs : s.isTripped n) : t.isTripped n :=
  State.isTripped_congr hs (congrArg CtlU.loops (h.ctl_ hctl)) fun _ hf => h.rd_keep (hf ▸ hl n)

/-- A write of the bits above STATE, of this loop or another, leaves a loop TRIPPED. -/
theorem State.isTripped_wr_above {s : State} {n : LoopN} {f : Fld} (x : Nat) (hok : f.ok = true) (hlo : 10 < f.lo) (hs : s.isTripped n) :
    (s.wr f x).isTripped n := by
  obtain ⟨hstage, hbit, hcode⟩ := hs
  exact ⟨hstage, (State.rd_wr_bits s f (CTL_STATUS.OSC3 n) x hok (.inr (by show 3 < f.lo; omega))).trans hbit,
    (State.rd_wr_bits s f (CTL_STATUS.STATE n) x hok (.inr hlo)).trans hcode⟩

theorem State.isTripped_wr_addr {s : State} {n : LoopN} {f : Fld} (x : Nat) (haddr : CTL_STATUS n ≠ f.addr) (hs : s.isTripped n) :
    (s.wr f x).isTripped n := State.isTripped_congr hs rfl fun g hg => State.rd_wr_addr s f g x (hg ▸ haddr)

/-- A TRIPPED loop does not open, and no other loop's opening changes it (R191). -/
theorem State.isTripped_openLoop {s : State} {n : LoopN} (m : Nat) (hs : s.isTripped n) : (s.openLoop m).isTripped n := by
  by_cases hm : m = n
  · obtain ⟨_, _, hcode⟩ := id hs
    have hclosed : ¬(s.rd (CTL_STATUS.STATE m) = 1 ∨ s.rd (CTL_STATUS.STATE m) = 2) := by
      rw [hm, show s.rd (CTL_STATUS.STATE n) = 3 from hcode]
      decide
    rwa [State.openLoop, if_neg hclosed]
  · unfold State.openLoop
    extract_lets st
    split
    · exact State.isTripped_wr_addr 0 (CTL_STATUS_ne_OUT n m) (State.isTripped_wr_addr 0 (fun e => hm (CTL_STATUS_inj e).symm) hs)
    · exact hs

theorem CTL_STATUS_lt_PROF (n : LoopN) : CTL_STATUS n < 0xDF048 := by
  unfold CTL_STATUS
  omega

/-- A retract leaves a TRIPPED loop so (R191, R218). -/
theorem State.isTripped_retract {s : State} {n : LoopN} (a : Nat) (hs : s.isTripped n) : (s.retract a).isTripped n := by
  have hlow := CTL_STATUS_lt_PROF n
  unfold State.retract
  extract_lets st hs0 t0 t1 t2 t3 t4 c t5
  split
  · exact hs
  have ht0 : t0.isTripped n := State.isTripped_wr_addr 4 (by show CTL_STATUS n ≠ MOT_ASTATUS a; unfold MOT_ASTATUS; omega) hs
  have ht1 : t1.isTripped n := (State.dropGates_kept (subMask_refl _) (Kept.refl _ t0)).isTripped rfl (by decide +kernel) ht0
  have ht2 : t2.isTripped n := State.isTripped_openLoop a ht1
  have ht3 : t3.isTripped n := State.forEach_stays (P := fun u => u.isTripped n) (fun h u hu =>
    (State.unloadHead_kept (subMask_refl _) (Kept.refl _ _)).isTripped rfl (by decide +kernel) (State.isTripped_openLoop (4 + h) hu)) hs0 ht2
  have ht5 : t5.isTripped n := State.isTripped_congr ht3 rfl fun _ _ => rfl
  have hprof : CTL_STATUS n ≠ PROF_STAT a := by unfold PROF_STAT; omega
  have hwritten : (t5.wrs [(PROF_STAT.BUSY a, 0), (PROF_STAT.REMAINING a, 0), (CTL_STATUS.REF a, 7), (CTL_STATUS.SETTLED a, 0)]).isTripped n :=
    State.isTripped_wr_above (f := CTL_STATUS.SETTLED a) 0 rfl (by decide : 10 < 14) (State.isTripped_wr_above (f := CTL_STATUS.REF a) 7 rfl
      (by decide : 10 < 11) (State.isTripped_wr_addr (f := PROF_STAT.REMAINING a) 0 hprof
        (State.isTripped_wr_addr (f := PROF_STAT.BUSY a) 0 hprof ht5)))
  exact (State.showLoaded_kept (subMask_refl _) (Kept.refl _ _)).isTripped rfl (by decide +kernel) hwritten

/-- What tripping does to the drive: a coarse actuator retracts, a trim loop outputs its centre, and the spindle's trip retracts every actuator and
stops the spindle (R187, R224). -/
def State.tripDrive (t : State) (n : LoopN) : State :=
  if n.val < 4 then (t.setOut n 0).retract n
  else if n.val < 28 then t.setOut n (t.trimCentreOut (n.val - 4))
  else
    let t := t.setOut n 0
    let wait := t.allActs.any (fun a => t.rd (MOT_ASTATUS.STATE a) != 0 && t.rd (MOT_ASTATUS.STATE a) != 5)
    let t := t.retractAll
    let t : State := { t with mot := { t.mot with brakeWait := wait } }
    let t := (t.setProf 4 none).wrs [(PROF_STAT.BUSY 4, 0), (PROF_STAT.REMAINING 4, 0)]
    (t.raiseBit MOT_STATUS.SP_TRIP MOT_INT_EN).wrs [(MOT_SP_STAT.STATE, 2), (MOT_SP_STAT.SOURCE, 0)]

theorem State.isTripped_setOut {s : State} {n : LoopN} (m : Nat) (u : Int) (hs : s.isTripped n) : (s.setOut m u).isTripped n :=
  State.isTripped_wr_addr _ (CTL_STATUS_ne_OUT n m) hs

theorem State.isTripped_tripDrive {s : State} {n : LoopN} (hs : s.isTripped n) : (s.tripDrive n).isTripped n := by
  have hlow := CTL_STATUS_lt_PROF n
  unfold State.tripDrive
  split
  · exact State.isTripped_retract n (State.isTripped_setOut n 0 hs)
  split
  · exact State.isTripped_setOut n _ hs
  extract_lets t0 wait t1 m t2 t3
  have ht1 : t1.isTripped n := State.forEach_stays (P := fun u => u.isTripped n) (fun a u hu => State.isTripped_retract a hu) _
    (State.isTripped_setOut n 0 hs)
  have hprof : CTL_STATUS n ≠ PROF_STAT 4 := by unfold PROF_STAT; omega
  have ht3 : t3.isTripped n :=
    State.isTripped_wr_addr 0 hprof (State.isTripped_wr_addr 0 hprof (State.isTripped_congr (t := t2.setProf 4 none) ht1 rfl fun _ _ => rfl))
  have hspindle : CTL_STATUS n ≠ MOT_SP_STAT := by unfold MOT_SP_STAT; omega
  have hstatus : CTL_STATUS n ≠ MOT_STATUS := by unfold MOT_STATUS; omega
  have hraised : (t3.raiseBit MOT_STATUS.SP_TRIP MOT_INT_EN).isTripped n :=
    State.isTripped_congr ht3 (congrArg CtlU.loops (t3.raiseBit_ctl _ _)) fun f hf =>
      (t3.raiseBit_rd _ _ f).trans (State.rd_wr_addr t3 MOT_STATUS.SP_TRIP f 1 (hf ▸ hstatus))
  exact State.isTripped_wr_addr 0 hspindle (State.isTripped_wr_addr 2 hspindle hraised)

/-- OSC_STAGE_3 of a loop that is CLOSED or in HOLD sets OSC3, trips the loop, and raises its source (R187). -/
theorem execOscStage3_of_trips {n : LoopN} {s : State} (hpresent : s.loopPresent n = true) (hstage : (s.loop n).stage = 2)
    (hcount : 3 * s.rd (CTL_OSC_CFG.OSC_BELLS n) ≤ (s.loop n).count) (hstate : s.loopState n = 1 ∨ s.loopState n = 2) :
    execOscStage3 n s = .next (((((s.updLoop n (fun l => { l with stage := 3 })).setB (CTL_STATUS.OSC3 n)).wr (CTL_STATUS.STATE n) 3).tripDrive n).raiseSrc
      (0x100 + n) { ctx0 with detail := 3, stage := if n.val = 28 then 3 else 2 }) := by
  have htrips : (s.loopState n == 1 || s.loopState n == 2) = true := by simpa using hstate
  refine congrArg Host.Outcome.next ((if_pos (by simp [hpresent, hstage, hcount])).trans ?_)
  simp only [htrips, State.when_true, Bool.not_true, Bool.false_eq_true, if_false]
  rfl

/-- OSC_STAGE_3. -/
theorem oscStage3_completes {n : LoopN} {s : State} (hpresent : s.loopPresent n = true) (hstage : (s.loop n).stage = 2)
    (hcount : 3 * s.rd (CTL_OSC_CFG.OSC_BELLS n) ≤ (s.loop n).count) (hstate : s.loopState n = 1 ∨ s.loopState n = 2) :
    completes (.oscStage3 n) s (fun t => (t.loop n).stage = 3 ∧ t.rd (CTL_STATUS.OSC3 n) = 1 ∧ t.loopState n = 3) := by
  refine ⟨_, execOscStage3_of_trips hpresent hstage hcount hstate, ?_⟩
  let t := s.updLoop n (fun l => { l with stage := 3 })
  have hloop : t.loop n = _ := State.updLoop_loop_self _ (State.lt_of_stage_pos (by omega))
  have htripped : ((t.setB (CTL_STATUS.OSC3 n)).wr (CTL_STATUS.STATE n) 3).isTripped n :=
    ⟨congrArg CtlLoop.stage hloop,
      (State.rd_wr_bits _ (CTL_STATUS.STATE n) (CTL_STATUS.OSC3 n) 3 rfl (by decide : 10 < 3 ∨ 3 < 9)).trans (State.rd_wr_self t _ 1 rfl),
      State.rd_wr_self _ (CTL_STATUS.STATE n) 3 rfl⟩
  exact State.isTripped_congr (State.isTripped_tripDrive htripped) (congrArg CtlU.loops (State.raiseSrc_ctl _ _ _)) fun _ hf =>
    State.raiseSrc_loopReg _ _ _ n (hf ▸ status_mem_loopRegs n)

/-! ### The end of an oscillation -/

/-- OSC_COUNT_RESET. -/
theorem oscCountReset_completes {n : LoopN} {s : State} (hpresent : s.loopPresent n = true)
    (hquiet : s.rd (CTL_OSC_CFG.OSC_BELLS n) ≤ (s.loop n).quiet) (hcount : 0 < (s.loop n).count) :
    completes (.oscCountReset n) s (fun t => (t.loop n).count = 0 ∧ (t.loop n).stage = (if (s.loop n).stage = 3 then 3 else 0) ∧
      (n.val < 4 ∨ n.val = 28 → t.rd (CTL_STATUS.INHIBIT n) = 0)) := by
  refine ⟨_, congrArg Host.Outcome.next (if_pos (by simp [hpresent, hquiet, hcount])), ?_⟩
  extract_lets t0 t1
  have hctl : (t1.wr (CTL_STATUS.INHIBIT n) (b2n (decide (4 ≤ n.val) && decide (n.val < 28) && (t1.head (n.val - 4)).inhSat))).ctl = t0.ctl :=
    State.oscCondition_ctl _ _ _
  have hloop : t0.loop n = _ := State.updLoop_loop_self _ (State.lt_of_count_pos hcount)
  refine ⟨?_, ?_, fun hn => ?_⟩
  · rw [State.loop_congr hctl, hloop]
  · rw [State.loop_congr hctl, hloop]
  · have htrim : (decide (4 ≤ n.val) && decide (n.val < 28)) = false := by
      rw [← Bool.decide_and, decide_eq_false_iff_not]
      omega
    rw [htrim]
    exact State.rd_wr_self t1 (CTL_STATUS.INHIBIT n) 0 rfl

end Sys2Proof.Machine
end

