-- ==== Sys2Proof/Proofs/LoopCommands.lean ====
section
/-! CLOSE, OPEN and RESET_OSC of a loop (R182, R191; O39). -/

namespace Sys2Proof.Machine
open Reg

/-! ### CLOSE -/

theorem nearestPos_isSome {r p : Nat} {l : List Nat} : (nearestPos r (p :: l)).isSome = true := by
  unfold nearestPos
  split
  · rfl
  · split <;> rfl

/-- With a head in LOCK the handover rule finds one (R173). -/
theorem State.handoverPos_isSome {s : State} {a : Nat} (hlock : (s.headsOf a).any (fun h => s.srvState h == 2) = true) :
    (s.handoverPos a).isSome = true := by
  obtain ⟨h, hh, hst⟩ := List.any_eq_true.1 hlock
  have hmem : h ∈ (s.headsOf a).filter (fun k => s.srvState k == 2) := List.mem_filter.2 ⟨hh, hst⟩
  obtain ⟨p, l, hl⟩ := List.exists_cons_of_ne_nil (List.ne_nil_of_mem (List.mem_map_of_mem (f := fun k => k % 6) hmem))
  unfold State.handoverPos
  extract_lets r ps
  have hps : (nearestPos r (ps fun x => x == 2)).isSome = true := by
    rw [show ps (fun x => x == 2) = p :: l from hl]
    exact nearestPos_isSome
  obtain ⟨q, hq⟩ := Option.isSome_iff_exists.1 hps
  rw [hq]
  rfl

theorem State.closeLoop_loopState (s : State) (n : Nat) : (s.closeLoop n).loopState n = 1 := State.rd_wr_self _ (CTL_STATUS.STATE n) 1 rfl

/-- A coarse loop closes with a head in LOCK and both sets VALID (R175, R182). -/
theorem State.coarseAutoClose_loopState {s : State} {a : Nat} (hlock : (s.headsOf a).any (fun h => s.srvState h == 2) = true)
    (hsets : s.setsOk a = true) : (s.coarseAutoClose a).loopState a = 1 := by
  obtain ⟨p, hp⟩ := Option.isSome_iff_exists.1 (State.handoverPos_isSome hlock)
  simp only [State.coarseAutoClose, hlock, hp, hsets, Bool.not_true, Bool.false_eq_true, if_false]
  exact (State.rd_wr_bits _ (CTL_STATUS.REF a) (CTL_STATUS.STATE a) _ rfl (by decide : 13 < 9 ∨ 10 < 11)).trans (State.closeLoop_loopState _ a)

theorem State.setInh_loopState (s : State) (h : Nat) (f : HeadU → HeadU) (n : Nat) : (s.setInh h f).loopState n = s.loopState n :=
  State.rd_wr_addr (s.updHead h f) (WRP_STATUS.INHIBIT h) (CTL_STATUS.STATE n) _ (by
    show CTL_STATUS n ≠ WRP_STATUS h
    unfold CTL_STATUS WRP_STATUS
    omega)

/-- CTL_CLOSE of an OPEN loop that may close. -/
theorem ctlClose_completes {w : Initiator} {n : LoopN} {s : State} (hw : s.mayWrite w = true) (hpresent : s.loopPresent n = true)
    (hopen : s.loopState n = 0) (hsets : s.setsOk n = true) (hseek : s.trimSeeks n = false)
    (hlock : n.val < 4 → (s.headsOf n).any (fun h => s.srvState h == 2) = true)
    (hsound : 4 ≤ n.val → n.val < 28 → bitOf (s.rd MOT_MA_FAULT.MASK) (n - 4) = false) :
    completes (.ctlClose w n) s (fun t => t.loopState n = 1) := by
  have hlock' : (decide (n.val < 4) && !(s.headsOf n).any (fun h => s.srvState h == 2)) = false := by
    by_cases hn : n.val < 4
    · rw [hlock hn, Bool.not_true, Bool.and_false]
    · rw [decide_eq_false hn, Bool.false_and]
  have hexec : execCtlClose w n s = .next (
      if n.val < 4 then s.coarseAutoClose n
      else if n.val < 28 && bitOf (s.rd MOT_MA_FAULT.MASK) (n.val - 4) then s.ctlRefuse w n
      else
        let t := s.closeLoop n
        if n.val < 28 then t.setInh (n.val - 4) (fun u => { u with inhSeek := false }) else t) := by
    simp only [execCtlClose, hw, hpresent, hopen, hsets, hseek, hlock', Bool.not_true, Bool.false_eq_true, if_false, Bool.or_self, bne_self_eq_false]
  refine ⟨_, hexec, ?_⟩
  by_cases hcoarse : n.val < 4
  · rw [if_pos hcoarse]
    exact State.coarseAutoClose_loopState (hlock hcoarse) hsets
  by_cases htrim : n.val < 28
  · rw [if_neg hcoarse, hsound (by omega) htrim, Bool.and_false, if_neg Bool.false_ne_true, if_pos htrim]
    exact (State.setInh_loopState _ _ _ n).trans (s.closeLoop_loopState n)
  · rw [if_neg hcoarse, decide_eq_false htrim, Bool.false_and, if_neg Bool.false_ne_true, if_neg htrim]
    exact s.closeLoop_loopState n

/-- A refused loop command sets REFUSED and leaves the state of the loop (R492). -/
theorem State.ctlRefuse_shown (s : State) (w : Initiator) (n : LoopN) :
    (s.ctlRefuse w n).loopState n = s.loopState n ∧ (s.ctlRefuse w n).rd (CTL_STATUS.REFUSED n) = 1 :=
  ⟨(State.refuseW_loopReg _ _ _ _ n (status_mem_loopRegs n)).trans (State.rd_wr_bits s (CTL_STATUS.REFUSED n) _ 1 rfl (.inl (by decide : 0 < 9))),
    (State.refuseW_loopReg _ _ _ _ n (status_mem_loopRegs n)).trans (State.rd_wr_self s (CTL_STATUS.REFUSED n) 1 rfl)⟩

/-- CTL_CLOSE with a set that is not VALID (R182). -/
theorem ctlClose_refused_completes {w : Initiator} {n : LoopN} {s : State} (hw : s.mayWrite w = true) (hpresent : s.loopPresent n = true)
    (hopen : s.loopState n = 0) (hsets : s.setsOk n = false) :
    completes (.ctlClose w n) s (fun t => t.loopState n = 0 ∧ t.rd (CTL_STATUS.REFUSED n) = 1) := by
  have hexec : execCtlClose w n s = .next (s.ctlRefuse w n) := by
    simp only [execCtlClose, hw, hpresent, hopen, hsets, Bool.not_true, Bool.not_false, Bool.true_or, Bool.false_eq_true, if_false, if_true,
      Bool.or_self, bne_self_eq_false]
  obtain ⟨hstate, hrefused⟩ := s.ctlRefuse_shown w n
  exact ⟨_, hexec, hstate.trans hopen, hrefused⟩

/-! ### OPEN -/

/-- A CLOSED or HOLD loop opens with output 0 (R191). -/
theorem State.openLoop_shown {s : State} {n : Nat} (hstate : s.loopState n = 1 ∨ s.loopState n = 2) :
    (s.openLoop n).loopState n = 0 ∧ (s.openLoop n).rd (CTL_OUT.OUT n) = 0 := by
  have heq : s.openLoop n = (s.wr (CTL_STATUS.STATE n) 0).wr (CTL_OUT.OUT n) 0 := if_pos hstate
  rw [heq]
  exact ⟨(State.rd_wr_addr _ (CTL_OUT.OUT n) (CTL_STATUS.STATE n) 0 (CTL_STATUS_ne_OUT n n)).trans (State.rd_wr_self s (CTL_STATUS.STATE n) 0 rfl),
    State.rd_wr_self _ (CTL_OUT.OUT n) 0 rfl⟩

/-- CTL_OPEN of a CLOSED or HOLD loop. -/
theorem ctlOpen_completes {w : Initiator} {n : LoopN} {s : State} (hw : s.mayWrite w = true) (hpresent : s.loopPresent n = true)
    (hstate : s.loopState n = 1 ∨ s.loopState n = 2) (hfree : n.val < 4 → s.mode = .factory ∨ (s.headsOf n).any s.headLoaded = false) :
    completes (.ctlOpen w n) s (fun t => t.loopState n = 0 ∧ (n.val < 4 ∨ n.val = 28 → t.rd (CTL_OUT.OUT n) = 0)) := by
  have hclosed : (s.loopState n == 1 || s.loopState n == 2) = true := by simpa using hstate
  have hfree' : (decide (n.val < 4) && !s.inFactory && (s.headsOf n).any s.headLoaded) = false := by
    by_cases hn : n.val < 4
    · rcases hfree hn with hmode | hnone
      · simp [State.inFactory, hmode]
      · rw [hnone, Bool.and_false]
    · rw [decide_eq_false hn, Bool.false_and, Bool.false_and]
  have hexec : execCtlOpen w n s = .next (
      if 4 ≤ n.val ∧ n.val < 28 then (s.openLoop n).setOut n ((s.openLoop n).trimCentreOut (n.val - 4)) else s.openLoop n) := by
    simp only [execCtlOpen, hw, hpresent, hclosed, hfree', Bool.not_true, Bool.false_eq_true, if_false, Bool.or_self]
  obtain ⟨hopened, hout⟩ := State.openLoop_shown hstate
  refine ⟨_, hexec, ?_⟩
  split
  · next htrim => exact ⟨(State.rd_wr_addr _ _ _ _ (CTL_STATUS_ne_OUT n n)).trans hopened, fun hn => by omega⟩
  · exact ⟨hopened, fun _ => hout⟩

/-! ### RESET_OSC -/

/-- CTL_RESET_OSC of a TRIPPED loop. -/
theorem ctlResetOsc_completes {w : Initiator} {n : LoopN} {s : State} (hw : s.mayWrite w = true) (hpresent : s.loopPresent n = true)
    (htripped : s.loopState n = 3) (hloops : s.ctl.loops.length = 29) :
    completes (.ctlResetOsc w n) s (fun t => t.loopState n = 0 ∧ t.rd (CTL_STATUS.OSC1 n) = 0 ∧ t.rd (CTL_STATUS.OSC2 n) = 0 ∧
      t.rd (CTL_STATUS.OSC3 n) = 0 ∧ t.rd (CTL_ENERGY.E n) = 0 ∧ (t.loop n).count = 0 ∧ (t.loop n).stage = 0) := by
  let l : List (Fld × Nat) := [(CTL_STATUS.STATE n, 0), (CTL_STATUS.OSC1 n, 0), (CTL_STATUS.OSC2 n, 0), (CTL_STATUS.OSC3 n, 0), (CTL_ENERGY.E n, 0)]
  let reset := s.updLoop n (fun l => { l with count := 0, quiet := 0, energy := 0, stage := 0, det := [0, 0, 0, 0] })
  let shown := (reset.oscCondition n false).wrs l
  let x := b2n (decide (4 ≤ n.val) && decide (n.val < 28) && (shown.head (n.val - 4)).inhSat)
  let after := (reset.oscCondition n false).wrs (l ++ [(CTL_STATUS.INHIBIT n, x)])
  have hexec : execCtlResetOsc w n s = .next after := by
    have happend : after = shown.wrs [(CTL_STATUS.INHIBIT n, x)] := State.wrs_append _ l _
    rw [happend]
    simp only [execCtlResetOsc, hw, hpresent, htripped, Bool.not_true, Bool.false_eq_true, if_false, Bool.or_self, bne_self_eq_false]
    rfl
  have hapart : ∀ k : LoopN, fieldsApart [CTL_STATUS.STATE k, CTL_STATUS.OSC1 k, CTL_STATUS.OSC2 k, CTL_STATUS.OSC3 k, CTL_ENERGY.E k,
    CTL_STATUS.INHIBIT k] = true := by decide
  have hwritten (f : Fld) (hf : (f, 0) ∈ l) : after.rd f = 0 :=
    State.rd_wrs_of_mem (l := l ++ [(CTL_STATUS.INHIBIT n, x)]) (hapart n) _ (List.mem_append_left _ hf) (Nat.two_pow_pos _)
  have hloop : after.loop n = reset.loop n := State.loop_congr ((State.wrs_ctl _ _).trans (State.oscCondition_ctl _ _ _)) n
  have hreset : reset.loop n = { s.loop n with count := 0, quiet := 0, energy := 0, stage := 0, det := [0, 0, 0, 0] } :=
    State.updLoop_loop_self _ (by omega)
  refine ⟨after, hexec, hwritten (CTL_STATUS.STATE n) (.head _), hwritten (CTL_STATUS.OSC1 n) (.tail _ (.head _)),
    hwritten (CTL_STATUS.OSC2 n) (.tail _ (.tail _ (.head _))), hwritten (CTL_STATUS.OSC3 n) (.tail _ (.tail _ (.tail _ (.head _)))),
    hwritten (CTL_ENERGY.E n) (.tail _ (.tail _ (.tail _ (.tail _ (.head _))))), ?_, ?_⟩
  · rw [hloop, hreset]
  · rw [hloop, hreset]

/-! ### The obligation -/

/-- Settles O39, clause by clause: the three stages and the end of an oscillation, then CLOSE, OPEN and RESET_OSC. -/
theorem oscillationAndLoops : Obligations.OscillationAndLoops :=
  ⟨fun _ _ hpresent hstage hcount hloops => oscStage1_completes hpresent hstage hcount hloops,
    fun _ _ hpresent hstage hcount => oscStage2_completes hpresent hstage hcount,
    fun _ _ hpresent hstage hcount hstate => oscStage3_completes hpresent hstage hcount hstate,
    fun _ _ hpresent hquiet hcount => oscCountReset_completes hpresent hquiet hcount,
    fun _ _ _ hw hpresent hopen hsets hseek hlock hsound => ctlClose_completes hw hpresent hopen hsets hseek hlock hsound,
    fun _ _ _ hw hpresent hopen hsets => ctlClose_refused_completes hw hpresent hopen hsets,
    fun _ _ _ hw hpresent hstate hfree => ctlOpen_completes hw hpresent hstate hfree,
    fun _ _ _ hw hpresent htripped hloops => ctlResetOsc_completes hw hpresent htripped hloops⟩

end Sys2Proof.Machine
end

