-- ==== Sys2Proof/Proofs/CoefficientCommits.lean ====
section
/-! Commits of coefficient words (R180, R181; O40). -/

namespace Sys2Proof.Machine
open Reg

/-! ### WORD advances -/

/-- WORD as it advances with AUTO (R180). -/
def nextWord (word : Nat) : Nat := if word < 95 then word + 1 else 0

/-- What a commit leaves of WORD: with AUTO it advances. -/
def State.advanceWord (t : State) (auto : Bool) (word : Nat) : State := if auto then t.wr CTL_COEF_ADDR.WORD (nextWord word) else t

theorem State.advanceWord_ctl (t : State) (auto : Bool) (word : Nat) : (t.advanceWord auto word).ctl = t.ctl := by
  cases auto <;> rfl

theorem State.advanceWord_rd (t : State) (auto : Bool) (word : Nat) {f : Fld} (hf : f.addr ≠ CTL_COEF_ADDR) : (t.advanceWord auto word).rd f = t.rd f := by
  cases auto
  · rfl
  · exact State.rd_wr_addr t CTL_COEF_ADDR.WORD f _ hf

theorem State.advanceWord_word {t : State} {word : Nat} (auto : Bool) (hword : t.rd CTL_COEF_ADDR.WORD = word) :
    (t.advanceWord auto word).rd CTL_COEF_ADDR.WORD = if auto then nextWord word else word := by
  cases auto
  · exact hword
  · refine (State.rd_wr_self t CTL_COEF_ADDR.WORD _ rfl).trans (Nat.mod_eq_of_lt (?_ : nextWord word < 128))
    unfold nextWord
    split <;> omega

/-! ### The commit -/

/-- A write of the shift leaves every other register. -/
theorem State.rd_wr_shift (s : State) (x : Nat) {f : Fld} (hf : f.addr ≠ CTL_COEF_HI) : (s.wr CTL_COEF_HI.SHIFT x).rd f = s.rd f :=
  State.rd_wr_addr s CTL_COEF_HI.SHIFT f x hf

theorem State.wr_shift_loopState (s : State) (x n : Nat) : (s.wr CTL_COEF_HI.SHIFT x).loopState n = s.loopState n :=
  s.rd_wr_shift x (by
    show CTL_STATUS n ≠ CTL_COEF_HI
    unfold CTL_STATUS CTL_COEF_HI
    omega)

/-- Both lanes' copies take word `x` at key `k`, and its bits are no longer flipped (R188). -/
def CtlU.store (c : CtlU) (k x : Nat) : CtlU :=
  { c with coef := c.coef.map (fun m => sparseSet 0 m k x), flips := sparseSet 0 (sparseSet 0 c.flips k 0) (131072 + k) 0 }

theorem CtlU.store_coef (c : CtlU) (k x : Nat) : ∀ m ∈ (c.store k x).coef, sparseGet 0 m k = x := by
  intro m hm
  obtain ⟨m', _, rfl⟩ := List.mem_map.1 hm
  exact sparseGet_set_self 0 m' k x

/-- CTL_COEF_COMMIT of an existing word other than VALID, of an OPEN or TRIPPED loop. -/
theorem ctlCoefCommit_completes {w : Initiator} {v : Word} {s : State} (hw : s.mayWrite w = true)
    (hpresent : s.loopPresent (s.rd CTL_COEF_ADDR.LOOP) = true)
    (hstate : s.loopState (s.rd CTL_COEF_ADDR.LOOP) = 0 ∨ s.loopState (s.rd CTL_COEF_ADDR.LOOP) = 3)
    (hexists : coefExists (s.rd CTL_COEF_ADDR.LOOP) (s.rd CTL_COEF_ADDR.SET) (s.rd CTL_COEF_ADDR.WORD) = true)
    (hword : s.rd CTL_COEF_ADDR.WORD ≠ 95) :
    completes (.ctlCoefCommit w v) s (fun t => t.ctl.coef.length = s.ctl.coef.length ∧
      (∀ m ∈ t.ctl.coef, sparseGet 0 m (coefKey (s.rd CTL_COEF_ADDR.LOOP) (s.rd CTL_COEF_ADDR.SET) (s.rd CTL_COEF_ADDR.WORD)) =
        s.rd CTL_COEF_LO.VALUE + 2 ^ 32 * (v.toNat % 32)) ∧
      t.rd CTL_COEF_ADDR.WORD = (if s.on CTL_COEF_ADDR.AUTO then (if s.rd CTL_COEF_ADDR.WORD < 95 then s.rd CTL_COEF_ADDR.WORD + 1 else 0)
        else s.rd CTL_COEF_ADDR.WORD)) := by
  let k := coefKey (s.rd CTL_COEF_ADDR.LOOP) (s.rd CTL_COEF_ADDR.SET) (s.rd CTL_COEF_ADDR.WORD)
  let shown := s.wr CTL_COEF_HI.SHIFT v.toNat
  let stored := shown.updCtl (fun c => c.store k (s.rd CTL_COEF_LO.VALUE + 2 ^ 32 * (v.toNat % 32)))
  have haddr : shown.reg CTL_COEF_ADDR = s.reg CTL_COEF_ADDR := State.reg_wr_ne s _ _ _ (by decide)
  have hvalue : shown.rd CTL_COEF_LO.VALUE = s.rd CTL_COEF_LO.VALUE := s.rd_wr_shift _ (by decide)
  have hauto : shown.on CTL_COEF_ADDR.AUTO = s.on CTL_COEF_ADDR.AUTO := congrArg (fun r => getF r 17 17 != 0) haddr
  have hpresent' : shown.loopPresent (s.rd CTL_COEF_ADDR.LOOP) = true := hpresent
  have hexec : execCtlCoefCommit w v s = .next (stored.advanceWord (s.on CTL_COEF_ADDR.AUTO) (s.rd CTL_COEF_ADDR.WORD)) := by
    simp only [execCtlCoefCommit, hw, hpresent', State.wr_shift_loopState, hstate, hexists, hword, hvalue, hauto, shown, Bool.not_true,
      Bool.false_eq_true, if_false, if_true]
    rfl
  have hctl := stored.advanceWord_ctl (s.on CTL_COEF_ADDR.AUTO) (s.rd CTL_COEF_ADDR.WORD)
  refine ⟨_, hexec, ?_, ?_, ?_⟩
  · rw [hctl]
    exact List.length_map _
  · rw [hctl]
    exact CtlU.store_coef s.ctl k _
  · exact State.advanceWord_word _ (congrArg (fun r => getF r 6 0) haddr)

/-- CTL_COEF_COMMIT of a loop that is CLOSED or in HOLD is refused. -/
theorem ctlCoefCommit_refused_completes {w : Initiator} {v : Word} {s : State} (hw : s.mayWrite w = true)
    (hpresent : s.loopPresent (s.rd CTL_COEF_ADDR.LOOP) = true)
    (hstate : s.loopState (s.rd CTL_COEF_ADDR.LOOP) = 1 ∨ s.loopState (s.rd CTL_COEF_ADDR.LOOP) = 2) :
    completes (.ctlCoefCommit w v) s (fun t => t.ctl = s.ctl ∧ t.rd CTL_GSTATUS.COEF_REFUSED = 1) := by
  let shown := s.wr CTL_COEF_HI.SHIFT v.toNat
  let raised := shown.ctlBit CTL_GSTATUS.COEF_REFUSED
  let refused := raised.refuseW w CTL_COEF_HI 3
  have hpresent' : shown.loopPresent (s.rd CTL_COEF_ADDR.LOOP) = true := hpresent
  have hclosed : ¬(s.loopState (s.rd CTL_COEF_ADDR.LOOP) = 0 ∨ s.loopState (s.rd CTL_COEF_ADDR.LOOP) = 3) := by omega
  have hexec : execCtlCoefCommit w v s = .next (refused.advanceWord (shown.on CTL_COEF_ADDR.AUTO) (s.rd CTL_COEF_ADDR.WORD)) := by
    simp only [execCtlCoefCommit, hw, hpresent', State.wr_shift_loopState, hclosed, shown, Bool.not_true, Bool.false_eq_true, if_false]
    rfl
  refine ⟨_, hexec, ?_, ?_⟩
  · exact (State.advanceWord_ctl _ _ _).trans ((State.refuseW_ctl _ _ _ _).trans (State.raiseBit_ctl _ _ _))
  · refine (State.advanceWord_rd _ _ _ (by decide)).trans ?_
    exact ((State.refuseW_kept (subMask_refl _) (Kept.refl _ raised)).rd_keep (by decide +kernel)).trans (State.rd_raiseBit_self shown _ _ rfl)

end Sys2Proof.Machine
end

