-- ==== Sys2Proof/Proofs/ProfileCommands.lean ====
section
/-! GO and STOP of the profile generators (R185, R186; O40). -/

namespace Sys2Proof.Machine
open Reg

/-! ### A profile is planned -/

theorem State.setProf_getD {s : State} {g : Nat} (p : Option Profile) (hg : g < s.ctl.profs.length) :
    (s.setProf g p).ctl.profs.getD g none = p := listSet_getD_self p none hg

/-- A plan is a profile to the destination, shown BUSY (R185). -/
theorem State.plan_eq (s : State) (g : Nat) (start dest : Int) : ∃ (u : State) (p : Profile), u.ctl = s.ctl ∧ p.dest = dest ∧
    s.plan g start dest = (u.setProf g (some p)).wrs [(PROF_STAT.BUSY g, 1), (PROF_STAT.REFUSED g, 0), (PROF_STAT.REMAINING g, satU 16 p.total)] := by
  unfold State.plan
  extract_lets n set lim d ok
  cases ok with
  | true => exact ⟨s, _, rfl, rfl, rfl⟩
  | false => exact ⟨s.freeNext, _, rfl, rfl, rfl⟩

/-- A generator to which a destination has been given. -/
def State.planned (t : State) (g : Fin 5) (dest : Int) : Prop :=
  t.rd (PROF_STAT.BUSY g) = 1 ∧ t.rd (PROF_STAT.REFUSED g) = 0 ∧ (t.ctl.profs.getD g none).map (fun p => p.dest) = some dest

theorem State.plan_planned {s : State} (g : Fin 5) (start dest : Int) (hprofs : s.ctl.profs.length = 5) : (s.plan g start dest).planned g dest := by
  obtain ⟨u, p, hctl, hdest, heq⟩ := s.plan_eq g start dest
  have hapart : ∀ k : Fin 5, fieldsApart [PROF_STAT.BUSY k, PROF_STAT.REFUSED k, PROF_STAT.REMAINING k] = true := by decide
  let l : List (Fld × Nat) := [(PROF_STAT.BUSY g, 1), (PROF_STAT.REFUSED g, 0), (PROF_STAT.REMAINING g, satU 16 p.total)]
  have hwritten (f : Fld) (x : Nat) (hf : (f, x) ∈ l) (hx : x < 2 ^ (f.hi + 1 - f.lo)) : ((u.setProf g (some p)).wrs l).rd f = x :=
    State.rd_wrs_of_mem (l := l) (hapart g) _ hf hx
  rw [heq]
  refine ⟨hwritten (PROF_STAT.BUSY g) 1 (.head _) (by decide : 1 < 2), hwritten (PROF_STAT.REFUSED g) 0 (.tail _ (.head _)) (by decide : 0 < 2), ?_⟩
  rw [State.wrs_ctl, State.setProf_getD _ (by rw [hctl]; omega), Option.map_some, hdest]

/-- A seek plans a profile of its actuator (R176). -/
theorem State.seekStart_eq (s : State) (a : Nat) (dest : Int) (timeouts : Nat) :
    ∃ (u : State) (start : Int), u.ctl.profs = s.ctl.profs ∧ s.seekStart a dest timeouts = u.plan a start dest := by
  unfold State.seekStart
  extract_lets e t t1 t2
  refine ⟨_, _, ?_, rfl⟩
  rw [State.wrs_ctl]
  refine State.forEach_keeps (fun u => u.ctl.profs) s (s.headsOf a) _ fun h u => ?_
  extract_lets u1 st u2 u3 u4
  have hu2 : u2.ctl = u.ctl := State.when_keeps State.ctl u1 _ fun v => State.wr_ctl v _ _
  have hu3 : u3.ctl = u.ctl := (State.when_keeps State.ctl u2 _ fun v => State.wrS_ctl v _ _).trans hu2
  have hu4 : u4.ctl.profs = u3.ctl.profs := rfl
  exact (congrArg CtlU.profs ((State.setInh_kept (subMask_refl _) (Kept.refl _ u4)).ctl_ rfl)).trans (hu4.trans (congrArg CtlU.profs hu3))

/-! ### GO -/

/-- The actuator is in the zone in whose tier track `k` lies (R171). -/
def State.inZoneOf (s : State) (a k : Nat) : State :=
  let z := s.zoneOfTrack a k
  s.updAct a (fun c => { c with zone := z.map (fun e => e.1), tier := (z.map (fun e => e.2)).getD 0 })

/-- Where a profile of the spindle starts: the present reference, with its loop open the measured speed (R186, R206). -/
def State.spindleStart (s : State) : Int := if s.loopState 28 = 1 then s.ctl.spRef else (s.speedSig : Int)

/-- PROF_GO of a generator that is not BUSY. -/
theorem profGo_completes {w : Initiator} {g : Fin 5} {s : State} (hw : s.mayWrite w = true) (hpresent : s.profPresent g = true)
    (hidle : s.on (PROF_STAT.BUSY g) = false) (hprofs : s.ctl.profs.length = 5) :
    completes (.profGo w g) s (fun t => t.planned g
      (if g.val < 4 then 4096 * (s.rd (PROF_TARGET.TARGET g) : Int) else ((s.rd (PROF_TARGET.TARGET 4) % 16384 * 65536 / s.sys.cfg.rpm : Nat) : Int))) := by
  by_cases hcoarse : g.val < 4
  · let k := s.rd (PROF_TARGET.TARGET g)
    have hexec : execProfGo w g s = .next ((s.inZoneOf g k).seekStart g (4096 * (k : Int)) 0) := by
      simp only [execProfGo, hw, hpresent, hidle, hcoarse, Bool.not_true, Bool.false_eq_true, if_false, if_true]
      rfl
    obtain ⟨u, start, hu, heq⟩ := (s.inZoneOf g k).seekStart_eq g (4096 * (k : Int)) 0
    rw [if_pos hcoarse]
    exact ⟨_, hexec, heq ▸ State.plan_planned g start _ (hu ▸ hprofs)⟩
  · have hg : g = 4 := by omega
    subst hg
    have hexec : execProfGo w 4 s = .next (s.plan 4 s.spindleStart ((s.rd (PROF_TARGET.TARGET 4) % 16384 * 65536 / s.sys.cfg.rpm : Nat) : Int)) := by
      simp only [execProfGo, hw, hpresent, hidle, hcoarse, Bool.not_true, Bool.false_eq_true, if_false]
      rfl
    rw [if_neg hcoarse]
    exact ⟨_, hexec, State.plan_planned 4 s.spindleStart _ hprofs⟩

/-- What changes no status of the generators leaves it. -/
theorem Kept.reg_profStat {w : Nat} {s t : State} (h : Kept w s t) (hl : ∀ k : Fin 5, maskClear w (PROF_STAT k) = true) (g : Fin 5) :
    t.reg (PROF_STAT g) = s.reg (PROF_STAT g) := h.reg_keep (hl g)

/-- PROF_GO of a BUSY generator is refused. -/
theorem profGo_busy_completes {w : Initiator} {g : Fin 5} {s : State} (hw : s.mayWrite w = true) (hpresent : s.profPresent g = true)
    (hbusy : s.on (PROF_STAT.BUSY g) = true) : completes (.profGo w g) s (fun t => t.rd (PROF_STAT.REFUSED g) = 1 ∧ t.ctl = s.ctl) := by
  let refused := s.setB (PROF_STAT.REFUSED g)
  have hexec : execProfGo w g s = .next (refused.refuseW w (PROF_CMD g) 3) := by
    simp only [execProfGo, hw, hpresent, hbusy, Bool.not_true, Bool.false_eq_true, if_false, if_true]
    rfl
  have hkept := (State.refuseW_kept (w := w) (ofs := PROF_CMD g) (cause := 3) (subMask_refl _) (Kept.refl _ refused)).reg_profStat (by decide +kernel) g
  exact ⟨_, hexec, (congrArg (fun r => getF r 1 1) hkept).trans (State.rd_wr_self s (PROF_STAT.REFUSED g) 1 rfl), State.refuseW_ctl _ _ _ _⟩

/-! ### STOP -/

theorem State.lt_of_prof {s : State} {g : Nat} {p : Profile} (hp : s.ctl.profs.getD g none = some p) : g < s.ctl.profs.length := by
  by_contra hlen
  rw [List.getD_eq_default _ _ (Nat.not_lt.1 hlen)] at hp
  cases hp

/-- A rest where the generator stands. -/
def StopRun.here (x : Int) : StopRun := { x := x, v := 0, a := 0, a1 := 0, t1 := 0, t2 := 0, t3 := 0 }

theorem StopRun.here_rest (x : Int) : (StopRun.here x).rest = x := by
  simp [StopRun.rest, StopRun.here, StopRun.at_]

/-- The rest that a STOP takes: where the generator stands, or the nearest that the limits allow (R186). -/
def State.stopRun (s : State) (g : Nat) (x v a : Int) : Option StopRun :=
  if v = 0 ∧ a = 0 then some (StopRun.here x) else (s.profLimits g).bind (fun l => nearestRest (stopRuns x v a l.1 l.2))

/-- The profile that runs on to a rest. -/
def Profile.toRest (p : Profile) (x : Int) (r : StopRun) : Profile :=
  { p with start := x / 65536, dest := r.rest / 65536, run := some r, loose := false, t := 1 }

/-- A profile from where the generator stands, with an open destination and length (log entry 25). -/
def State.openCourse (s : State) (x : Int) : Profile :=
  { start := x / 65536, dest := sext 48 s.freeNow, tj := 0, ta := 0, tv := s.freeNext.freeNow, t := 0, run := none, loose := true }

/-- PROF_STOP of a profile that a rest is given for. -/
theorem profStop_completes_of_rest {w : Initiator} {g : Fin 5} {p : Profile} {x v a : Int} {r : StopRun} {s : State} (hw : s.mayWrite w = true)
    (hp : s.ctl.profs.getD g none = some p) (hfine : p.fine (p.t - 1) = (x, v, a)) (hrun : s.stopRun g x v a = some r) :
    completes (.profStop w g) s (fun t => t.ctl.profs.getD g none = some (p.toRest x r)) := by
  have hstop : s.profStop g = (s.setProf g (some (p.toRest x r))).wr (PROF_STAT.REMAINING g) (satU 16 (p.toRest x r).total) := by
    unfold State.stopRun StopRun.here at hrun
    simp only [State.profStop, hp, hfine, hrun]
    rfl
  have hexec : execProfStop w g s = .next (s.profStop g) := by
    simp only [execProfStop, hw, Bool.not_true, Bool.false_eq_true, if_false]
  exact ⟨_, hexec.trans (congrArg _ hstop), State.setProf_getD _ (State.lt_of_prof hp)⟩

/-- PROF_STOP of a profile that no rest is given for: its course is open (log entry 25). -/
theorem profStop_completes_of_open {w : Initiator} {g : Fin 5} {p : Profile} {x v a : Int} {s : State} (hw : s.mayWrite w = true)
    (hp : s.ctl.profs.getD g none = some p) (hfine : p.fine (p.t - 1) = (x, v, a)) (hrun : s.stopRun g x v a = none) :
    completes (.profStop w g) s (fun t => (t.ctl.profs.getD g none).map (fun q => (q.start, q.run, q.loose)) = some (x / 65536, none, true)) := by
  have hstop : s.profStop g = (s.freeNext.freeNext.setProf g (some (s.openCourse x))).wr (PROF_STAT.REMAINING g) (satU 16 s.freeNext.freeNow) := by
    unfold State.stopRun StopRun.here at hrun
    simp only [State.profStop, hp, hfine, hrun]
    rfl
  have hexec : execProfStop w g s = .next (s.profStop g) := by
    simp only [execProfStop, hw, Bool.not_true, Bool.false_eq_true, if_false]
  have hset : (s.freeNext.freeNext.setProf g (some (s.openCourse x))).ctl.profs.getD g none = some (s.openCourse x) :=
    State.setProf_getD _ (State.lt_of_prof hp)
  exact ⟨_, hexec.trans (congrArg _ hstop), congrArg (Option.map fun q => (q.start, q.run, q.loose)) hset⟩

/-- PROF_STOP of a profile at rest. -/
theorem profStop_still_completes {w : Initiator} {g : Fin 5} {p : Profile} {x : Int} {s : State} (hw : s.mayWrite w = true)
    (hp : s.ctl.profs.getD g none = some p) (hfine : p.fine (p.t - 1) = (x, 0, 0)) :
    completes (.profStop w g) s (fun t => (t.ctl.profs.getD g none).map (fun q => (q.start, q.dest, q.t)) = some (x / 65536, x / 65536, 1)) := by
  obtain ⟨t, hexec, ht⟩ := profStop_completes_of_rest hw hp hfine (if_pos ⟨rfl, rfl⟩)
  refine ⟨t, hexec, (congrArg (Option.map fun q => (q.start, q.dest, q.t)) ht).trans ?_⟩
  rw [Option.map_some, Profile.toRest, StopRun.here_rest]

/-- Of a profile in motion the limits give the rest. -/
theorem State.stopRun_of_motion (s : State) (g : Nat) {x v a : Int} (h : v ≠ 0 ∨ a ≠ 0) :
    s.stopRun g x v a = (s.profLimits g).bind (fun l => nearestRest (stopRuns x v a l.1 l.2)) := if_neg (by tauto)

/-! ### The obligation -/

/-- Settles O40, clause by clause: the commit and its refusal, GO and its refusal, STOP at rest, in motion to a rest, and with an open course. -/
theorem coefficientsAndProfiles : Obligations.CoefficientsAndProfiles :=
  ⟨fun _ _ _ hw hpresent hstate hexists hword => ctlCoefCommit_completes hw hpresent hstate hexists hword,
    fun _ _ _ hw hpresent hstate => ctlCoefCommit_refused_completes hw hpresent hstate,
    fun _ _ _ hw hpresent hidle hprofs => profGo_completes hw hpresent hidle hprofs,
    fun _ _ _ hw hpresent hbusy => profGo_busy_completes hw hpresent hbusy,
    fun _ _ _ _ _ hw hp hfine => profStop_still_completes hw hp hfine,
    fun _ g _ _ _ _ _ _ s hw hp hfine hmotion hlimits hrest => profStop_completes_of_rest hw hp hfine
      ((s.stopRun_of_motion g hmotion).trans (by rw [hlimits]; exact hrest)),
    fun _ g _ _ _ _ s hw hp hfine hmotion hnone => profStop_completes_of_open hw hp hfine ((s.stopRun_of_motion g hmotion).trans hnone)⟩

end Sys2Proof.Machine
end

