-- ==== Sys2Proof/Proofs/DriveRules.lean ====
section
/-! The registers of the motor drive, from 0xE0000 on (R225): what opening the loops, retracting an actuator and changing the spindle state write
there, and what leaves them (O19, O41, O43). -/

-- The kernel's checks of the masks wait for every theorem before them: run them in turn, not each on a thread of its own.
set_option Elab.async false

namespace Sys2Proof.Machine
open Reg

/-! ### Present actuators and heads -/

theorem State.lt_of_actPresent {s : State} {a : Nat} (h : s.actPresent a = true) : a < 4 := by
  simp only [State.actPresent, Bool.and_eq_true, decide_eq_true_eq] at h
  exact h.1

theorem State.lt_of_mem_allActs {s : State} {a : Nat} (h : a ∈ s.allActs) : a < 4 := State.lt_of_actPresent (List.mem_filter.1 h).2

theorem State.lt_of_mem_headsOf {s : State} {a h : Nat} (hm : h ∈ s.headsOf a) : h < 24 := by
  have hpresent := (List.mem_filter.1 hm).2
  simp only [State.headPresent, Bool.and_eq_true, decide_eq_true_eq] at hpresent
  exact hpresent.1.1

theorem State.allActs_congr {s t : State} (h : t.sys = s.sys) : t.allActs = s.allActs :=
  congrArg (fun p => (List.range 4).filter p) (funext (State.actPresent_congr h))

/-- What a loop keeps, when the pass of each of its elements keeps it. -/
theorem State.forEach_keeps_of_mem {α β : Type} (p : State → β) {l : List α} {f : α → State → State} (h : ∀ x ∈ l, ∀ t, p (f x t) = p t)
    (s : State) : p (s.forEach l f) = p s := by
  induction l generalizing s with
  | nil => rfl
  | cons x l ih => exact (ih (fun y hy => h y (.tail _ hy)) (f x s)).trans (h x (.head _) s)

/-! ### Loops, gates and heads lie below the motor drive -/

section
variable {b : Nat} (hb : 0xE0000 ≤ b)
include hb

theorem State.openLoop_motorReg (s : State) {n : Nat} (hn : n < 29) : (s.openLoop n).reg b = s.reg b := by
  unfold State.openLoop
  extract_lets st
  split
  · have hstatus : b ≠ CTL_STATUS n := by unfold CTL_STATUS; omega
    have hout : b ≠ CTL_OUT n := by unfold CTL_OUT; omega
    exact (State.reg_wr_ne _ (CTL_OUT.OUT n) 0 b hout).trans (State.reg_wr_ne s (CTL_STATUS.STATE n) 0 b hstatus)
  · rfl

theorem State.wr_status_motorReg (s : State) {h : Nat} (hh : h < 24) {f : Fld} (x : Nat) (hf : f.addr = WRP_STATUS h) : (s.wr f x).reg b = s.reg b :=
  State.reg_wr_ne s f x b (by rw [hf]; unfold WRP_STATUS; omega)

theorem State.returnSector_motorReg (s : State) {h : Nat} (hh : h < 24) (d : SDesc) (abandoned : Bool) :
    (s.returnSector h d abandoned).reg b = s.reg b := by
  have haddr : b ≠ SEQ_EVT_CNT (h / 6) := by unfold SEQ_EVT_CNT; omega
  unfold State.returnSector
  extract_lets t0 t1
  have ht1 : t1.regs = s.regs := State.updSec_regs t0 _ _
  exact (State.when_keeps (fun t => t.reg b) t1 abandoned fun t => State.reg_wr_ne t (SEQ_EVT_CNT.ABANDONED (h / 6)) _ b haddr).trans
    (State.reg_congr ht1 b)

theorem State.dropGate_motorReg (s : State) {h : Nat} (hh : h < 24) : (s.dropGate false h).reg b = s.reg b := by
  unfold State.dropGate
  split
  · rfl
  · extract_lets t0 t1 t2 t3 t4 t5
    have hdrops : b ≠ WRP_EVT_CNT h := by unfold WRP_EVT_CNT; omega
    have hgate : (t0.clr (WRP_STATUS.GATE h)).reg b = s.reg b := t0.wr_status_motorReg hb hh (f := WRP_STATUS.GATE h) 0 rfl
    have ht1 : t1.reg b = (t0.clr (WRP_STATUS.GATE h)).reg b :=
      (State.reg_congr (State.irqIf_regs _ _ _ _) b).trans (State.wr_status_motorReg hb _ hh (f := WRP_STATUS.WUS h) 1 rfl)
    have ht2 : t2.reg b = t1.reg b := State.reg_wr_ne t1 (WRP_EVT_CNT.DROPS h) _ b hdrops
    have ht4 : t4.regs = t2.regs := rfl
    rw [if_neg Bool.false_ne_true]
    exact (t4.returnSector_motorReg hb hh _ true).trans ((State.reg_congr ht4 b).trans (ht2.trans (ht1.trans hgate)))

theorem State.unloadHead_motorReg (s : State) {h : Nat} (hh : h < 24) : (s.unloadHead h).reg b = s.reg b := by
  have hstatus : b ≠ SRV_STATUS h := by unfold SRV_STATUS; omega
  exact (State.wr_status_motorReg hb _ hh (f := WRP_STATUS.INHIBIT h) _ rfl).trans
    ((State.reg_wr_ne _ (SRV_STATUS.MISS_RUN h) 0 b hstatus).trans (State.reg_wr_ne _ (SRV_STATUS.STATE h) 0 b hstatus))

theorem State.showLoaded_motorReg (s : State) : s.showLoaded.reg b = s.reg b := by
  have hlost : b ≠ SRV_LOST := by unfold SRV_LOST; omega
  have hloaded : b ≠ SRV_LOADED := by unfold SRV_LOADED; omega
  exact (State.reg_wr_ne _ SRV_LOST.MASK _ b hlost).trans (State.reg_wr_ne s SRV_LOADED.MASK _ b hloaded)

/-! ### Retracting (R218) -/

/-- Of the motor drive a retract writes the state of its actuator only. -/
theorem State.retract_motorReg (s : State) {a : Nat} (ha : a < 4) (hstate : s.actState a ≠ 0 ∧ s.actState a ≠ 5 ∧ s.actState a ≠ 4) :
    (s.retract a).reg b = (s.wr (MOT_ASTATUS.STATE a) 4).reg b := by
  obtain ⟨hparked, hfenced, hretracting⟩ := hstate
  have hgo : ¬(s.rd (MOT_ASTATUS.STATE a) = 0 ∨ s.rd (MOT_ASTATUS.STATE a) = 5 ∨ s.rd (MOT_ASTATUS.STATE a) = 4) := by
    rintro (h | h | h)
    exacts [hparked h, hfenced h, hretracting h]
  unfold State.retract
  rw [if_neg hgo]
  extract_lets hs t0 t1 t2 t3 t4 c t5
  have ht1 : t1.reg b = t0.reg b :=
    State.forEach_keeps_of_mem (fun u => u.reg b) (fun h hm u => u.dropGate_motorReg hb (State.lt_of_mem_headsOf hm)) t0
  have ht2 : t2.reg b = t1.reg b := t1.openLoop_motorReg hb (by omega)
  have ht3 : t3.reg b = t2.reg b := State.forEach_keeps_of_mem (fun u => u.reg b) (fun h hm u =>
    have hh : h < 24 := State.lt_of_mem_headsOf hm
    ((u.openLoop (4 + h)).unloadHead_motorReg hb hh).trans (u.openLoop_motorReg hb (by omega))) t2
  have hprof : b ≠ PROF_STAT a := by unfold PROF_STAT; omega
  have hstatus : b ≠ CTL_STATUS a := by unfold CTL_STATUS; omega
  have ht5 : (t5.wrs [(PROF_STAT.BUSY a, 0), (PROF_STAT.REMAINING a, 0), (CTL_STATUS.REF a, 7), (CTL_STATUS.SETTLED a, 0)]).reg b = t5.reg b := by
    refine State.reg_wrs_ne _ _ _ ?_
    simp only [List.forall_mem_cons, List.not_mem_nil, false_imp_iff]
    exact ⟨hprof, hprof, hstatus, hstatus, fun _ => trivial⟩
  exact (State.showLoaded_motorReg hb _).trans (ht5.trans (ht3.trans (ht2.trans ht1)))

end

theorem State.retract_of_state {s : State} {a : Nat} (h : s.actState a = 0 ∨ s.actState a = 5 ∨ s.actState a = 4) : s.retract a = s := if_pos h

/-- A retract brings an actuator to RETRACTING from any state but PARKED and FENCED (R218). -/
theorem State.retract_actState {s : State} {a : Nat} (ha : a < 4) (hparked : s.actState a ≠ 0) (hfenced : s.actState a ≠ 5) :
    (s.retract a).actState a = 4 := by
  by_cases hretracting : s.actState a = 4
  · rw [State.retract_of_state (.inr (.inr hretracting))]
    exact hretracting
  · have hreg := s.retract_motorReg (b := MOT_ASTATUS a) (by unfold MOT_ASTATUS; omega) ha ⟨hparked, hfenced, hretracting⟩
    exact (congrArg (fun r => getF r 2 0) hreg).trans (s.rd_wr_self (MOT_ASTATUS.STATE a) 4 rfl)

/-- Above the block of the actuators a retract of all writes nothing of the motor drive. -/
theorem State.retractAll_spindleReg (s : State) {b : Nat} (hb : 0xE1000 ≤ b) : s.retractAll.reg b = s.reg b := by
  refine State.forEach_keeps_of_mem (fun u => u.reg b) (fun a hm u => ?_) s
  have ha : a < 4 := State.lt_of_mem_allActs hm
  by_cases h : u.actState a = 0 ∨ u.actState a = 5 ∨ u.actState a = 4
  · rw [State.retract_of_state h]
  · push Not at h
    refine (u.retract_motorReg (by omega) ha h).trans (State.reg_wr_ne u (MOT_ASTATUS.STATE a) 4 b ?_)
    show b ≠ MOT_ASTATUS a
    unfold MOT_ASTATUS
    omega

@[simp] theorem State.retractAll_mot (s : State) : s.retractAll.mot = s.mot := (State.retractAll_kept (subMask_refl _) (Kept.refl _ s)).mot_ rfl

theorem State.unloadFirst_rd (s : State) {f : Fld} (hf : 0xE1000 ≤ f.addr) : s.unloadFirst.rd f = s.rd f :=
  congrArg (fun r => getF r f.hi f.lo) (s.retractAll_spindleReg hf)

/-- Braking waits unless every actuator is parked or fenced (R211). -/
theorem State.unloadFirst_brakeWait (s : State) : s.unloadFirst.mot.brakeWait = !s.allParked := rfl

theorem State.allParked_congr {s t : State} (hsys : t.sys = s.sys) (hstate : ∀ a < 4, t.actState a = s.actState a) : t.allParked = s.allParked := by
  unfold State.allParked
  rw [State.allActs_congr hsys, Bool.eq_iff_iff, List.all_eq_true, List.all_eq_true]
  exact forall₂_congr fun a ha => by rw [hstate a (State.lt_of_mem_allActs ha)]

/-! ### The spindle state changes (R207, R225) -/

/-- The writes of a change of the spindle state among the registers of the motor drive. -/
def spWrites (st src : Nat) : List (Fld × Nat) := [(MOT_SP_STAT.STATE, st), (MOT_SP_STAT.SOURCE, src)]

theorem State.spGo_motorReg (s : State) (st src : Nat) {b : Nat} (hb : 0xE0000 ≤ b) : (s.spGo st src).reg b = (s.wrs (spWrites st src)).reg b := by
  unfold State.spGo
  extract_lets t0 t1 t2
  split
  · rfl
  · have hout : b ≠ CTL_OUT 28 := by unfold CTL_OUT; omega
    have hprof : b ≠ PROF_STAT 4 := by unfold PROF_STAT; omega
    refine (State.reg_wr_ne _ (PROF_STAT.REMAINING 4) 0 b hprof).trans ((State.reg_wr_ne _ (PROF_STAT.BUSY 4) 0 b hprof).trans ?_)
    exact (State.reg_wr_ne _ (CTL_OUT.OUT 28) _ b hout).trans (t1.openLoop_motorReg hb (by decide))

theorem State.spGo_rd (s : State) (st src : Nat) {f : Fld} (hf : 0xE0000 ≤ f.addr) : (s.spGo st src).rd f = (s.wrs (spWrites st src)).rd f :=
  congrArg (fun r => getF r f.hi f.lo) (s.spGo_motorReg st src hf)

theorem State.spGo_sys (s : State) (st src : Nat) : (s.spGo st src).sys = s.sys := (State.spGo_kept (subMask_refl _) (Kept.refl _ s)).sys_ rfl

theorem State.spGo_actState (s : State) (st src : Nat) {a : Nat} (ha : a < 4) : (s.spGo st src).actState a = s.actState a := by
  have haddr : MOT_ASTATUS a ≠ MOT_SP_STAT := by unfold MOT_ASTATUS MOT_SP_STAT; omega
  refine (s.spGo_rd st src (f := MOT_ASTATUS.STATE a) (by show _ ≤ MOT_ASTATUS a; unfold MOT_ASTATUS; omega)).trans ?_
  exact (State.rd_wr_addr _ MOT_SP_STAT.SOURCE _ src haddr).trans (State.rd_wr_addr s MOT_SP_STAT.STATE _ st haddr)

theorem State.spGo_allParked (s : State) (st src : Nat) : (s.spGo st src).allParked = s.allParked :=
  State.allParked_congr (s.spGo_sys st src) fun _ ha => s.spGo_actState st src ha

/-- Of the motor unit a change of the spindle state notes when it came, no more. -/
theorem State.spGo_mot (s : State) (st src : Nat) : ∃ k, (s.spGo st src).mot = { s.mot with spFrom := k } := by
  have hmot : (s.wrs (spWrites st src)).mot = s.mot := rfl
  unfold State.spGo
  extract_lets t0 t1 t2
  have ht1 : t1.mot = { s.mot with spFrom := if s.spState = st then s.mot.spFrom else s.sys.time } := rfl
  have ht2 : t2.mot = t1.mot := (State.openLoop_kept (subMask_refl _) (Kept.refl _ t1)).mot_ rfl
  split
  · exact ⟨_, ht1⟩
  · exact ⟨_, ht2.trans ht1⟩

theorem State.spGo_spState (s : State) {st : Nat} (src : Nat) (hst : st < 16) : (s.spGo st src).spState = st := by
  have hapart : fieldsApart [MOT_SP_STAT.STATE, MOT_SP_STAT.SOURCE] = true := by decide
  exact (s.spGo_rd st src (f := MOT_SP_STAT.STATE) (by decide)).trans
    (State.rd_wrs_of_mem (l := spWrites st src) hapart s (f := MOT_SP_STAT.STATE) (.head _) hst)

theorem State.spGo_source (s : State) (st : Nat) {src : Nat} (hsrc : src < 4) : (s.spGo st src).rd MOT_SP_STAT.SOURCE = src := by
  have hapart : fieldsApart [MOT_SP_STAT.STATE, MOT_SP_STAT.SOURCE] = true := by decide
  exact (s.spGo_rd st src (f := MOT_SP_STAT.SOURCE) (by decide)).trans
    (State.rd_wrs_of_mem (l := spWrites st src) hapart s (f := MOT_SP_STAT.SOURCE) (.tail _ (.head _)) hsrc)

/-- A field of the spindle's registers that is neither the state nor the angle source. -/
def spLeft (f : Fld) : Bool := decide (0xE1000 ≤ f.addr) && MOT_SP_STAT.STATE.apart f && MOT_SP_STAT.SOURCE.apart f

theorem State.spGo_rd_left (s : State) (st src : Nat) {f : Fld} (hf : spLeft f = true) : (s.spGo st src).rd f = s.rd f := by
  simp only [spLeft, Bool.and_eq_true, decide_eq_true_eq] at hf
  obtain ⟨⟨hlow, hstate⟩, hsource⟩ := hf
  exact (s.spGo_rd st src (by omega)).trans
    ((State.rd_wr_apart _ MOT_SP_STAT.SOURCE f src rfl hsource).trans (s.rd_wr_apart MOT_SP_STAT.STATE f st rfl hstate))

/-! ### The states that retract every actuator first: SHORT, FAULT, STOPPING (R211) -/

theorem State.spGo_unloadFirst_spState (s : State) {st : Nat} (src : Nat) (hst : st < 16) : ((s.spGo st src).unloadFirst).spState = st :=
  (State.unloadFirst_rd _ (f := MOT_SP_STAT.STATE) (by decide)).trans (s.spGo_spState src hst)

theorem State.spGo_unloadFirst_rd_left (s : State) (st src : Nat) {f : Fld} (hf : spLeft f = true) : ((s.spGo st src).unloadFirst).rd f = s.rd f := by
  have hlow : 0xE1000 ≤ f.addr := by
    simp only [spLeft, Bool.and_eq_true, decide_eq_true_eq] at hf
    exact hf.1.1
  exact (State.unloadFirst_rd _ hlow).trans (s.spGo_rd_left st src hf)

theorem State.spGo_unloadFirst_brakeWait (s : State) (st src : Nat) : ((s.spGo st src).unloadFirst).mot.brakeWait = !s.allParked := by
  rw [State.unloadFirst_brakeWait, State.spGo_allParked]

theorem State.spGo_unloadFirst_startFails (s : State) (st src : Nat) : ((s.spGo st src).unloadFirst).mot.startFails = s.mot.startFails := by
  obtain ⟨k, hk⟩ := s.spGo_mot st src
  exact (congrArg (fun m => m.startFails) (s.spGo st src).retractAll_mot).trans (congrArg (fun m => m.startFails) hk)

theorem State.enterShort_spState (s : State) : s.enterShort.spState = 2 := s.spGo_unloadFirst_spState 0 (by decide)

theorem State.enterShort_rd_left (s : State) {f : Fld} (hf : spLeft f = true) : s.enterShort.rd f = s.rd f := s.spGo_unloadFirst_rd_left 2 0 hf

theorem State.enterFault_spState (s : State) : s.enterFault.spState = 9 := s.spGo_unloadFirst_spState 0 (by decide)

theorem State.enterFault_rd_left (s : State) {f : Fld} (hf : spLeft f = true) : s.enterFault.rd f = s.rd f := s.spGo_unloadFirst_rd_left 9 0 hf

/-! ### What leaves registers of the motor drive -/

theorem State.motLog_rd (s : State) {f : Fld} (hf : f.addr ∈ [MOT_SP_STAT, MOT_STATUS, MOT_SP_CFG]) : s.motLog.rd f = s.rd f :=
  (State.motLog_kept (subMask_refl _) (Kept.refl _ s)).rd_keep
    (List.all_eq_true.1 (by decide +kernel : [MOT_SP_STAT, MOT_STATUS, MOT_SP_CFG].all (maskClear _) = true) _ hf)

theorem State.raiseSrc_spindleRd (s : State) (src : Nat) (x : RaiseCtx) {f : Fld} (hf : f.addr ∈ [MOT_SP_STAT, MOT_STATUS, MOT_BEAT]) :
    (s.raiseSrc src x).rd f = s.rd f :=
  (State.raiseSrc_kept (subMask_refl _) (Kept.refl _ s)).rd_keep
    (List.all_eq_true.1 (by decide +kernel : [MOT_SP_STAT, MOT_STATUS, MOT_BEAT].all (maskClear _) = true) _ hf)

end Sys2Proof.Machine
end

