-- ==== Sys2Proof/Proofs/SpindleDrive.lean ====
section
/-! The spindle from START to rest, and its wiring faults (R207 to R213, R221; O41). -/

namespace Sys2Proof.Machine
open Reg

/-! ### START and STOP -/

/-- Start failures and phase swaps count from 0 (R207, R209). -/
def State.countsAnew (s : State) : State := s.updMot (fun m => { m with startFails := 0, swaps := 0 })

/-- Nothing forbids a START: no Anchor, no RIDE-THROUGH, no HALTED, loop 28 not TRIPPED (R222, R224, R432, R470). -/
def State.mayStart (s : State) : Prop :=
  s.on WCH_INST.ANCHOR = false ∧ s.mode ≠ .rideThrough ∧ s.mode ≠ .halted ∧ s.loopState 28 ≠ 3

theorem State.mayStart_guard {s : State} (h : s.mayStart) :
    ¬(s.on WCH_INST.ANCHOR || s.mode == .rideThrough || s.mode == .halted || s.loopState 28 == 3) = true := by
  obtain ⟨hanchor, hride, hhalted, htrip⟩ := h
  simp [hanchor, hride, hhalted, htrip]

theorem State.startSpindle_of_rest {s : State} (h : s.mayStart)
    (hstate : s.spState = 0 ∨ (s.spState = 9 ∧ s.on MOT_STATUS.PHASE_OPEN = false ∧ s.on MOT_STATUS.PHASE_SHORT = false)) :
    s.startSpindle = (s.spGo 1 0).countsAnew := by
  refine (if_neg (State.mayStart_guard h)).trans ?_
  rcases hstate with hoff | ⟨hfault, hopen, hshort⟩
  · simp only [hoff, State.countsAnew]
  · simp only [hfault, hopen, hshort, State.countsAnew, Bool.or_self, Bool.false_eq_true, if_false]

theorem State.startSpindle_of_slowing {s : State} (h : s.mayStart) (hstate : s.spState = 2 ∨ s.spState = 8) :
    s.startSpindle = s.startPending.countsAnew := by
  refine (if_neg (State.mayStart_guard h)).trans ?_
  rcases hstate with hshort | hstopping
  · simp only [hshort, State.countsAnew]
  · simp only [hstopping, State.countsAnew]

theorem State.startPending_set (s : State) : s.startPending.rd MOT_SP_STAT.START_PENDING = 1 := s.rd_wr_self MOT_SP_STAT.START_PENDING 1 rfl

theorem State.startPending_rd_apart (s : State) {f : Fld} (hf : MOT_SP_STAT.START_PENDING.apart f = true) : s.startPending.rd f = s.rd f :=
  s.rd_wr_apart MOT_SP_STAT.START_PENDING f 1 rfl hf

/-- SP_START where nothing forbids it. -/
theorem spStart_completes {s : State} (h : s.mayStart)
    (hstate : s.spState = 0 ∨ s.spState = 2 ∨ s.spState = 8 ∨
      (s.spState = 9 ∧ s.on MOT_STATUS.PHASE_OPEN = false ∧ s.on MOT_STATUS.PHASE_SHORT = false)) :
    completes .spStart s (fun t => (s.spState = 0 ∨ s.spState = 9 → t.spState = 1) ∧
      (s.spState = 2 ∨ s.spState = 8 → t.spState = s.spState ∧ t.rd MOT_SP_STAT.START_PENDING = 1) ∧ t.mot.startFails = 0 ∧ t.mot.swaps = 0) := by
  by_cases hslowing : s.spState = 2 ∨ s.spState = 8
  · refine ⟨_, congrArg Host.Outcome.next (State.startSpindle_of_slowing h hslowing), fun hrest => by omega, fun _ => ⟨?_, s.startPending_set⟩, rfl, rfl⟩
    exact s.startPending_rd_apart (f := MOT_SP_STAT.STATE) (by decide)
  · have hrest : s.spState = 0 ∨ (s.spState = 9 ∧ s.on MOT_STATUS.PHASE_OPEN = false ∧ s.on MOT_STATUS.PHASE_SHORT = false) := by tauto
    exact ⟨_, congrArg Host.Outcome.next (State.startSpindle_of_rest h hrest), fun _ => s.spGo_spState 0 (by decide), fun hslow => absurd hslow hslowing,
      rfl, rfl⟩

/-- What STOP does of a spindle under way: a running one with a chopper goes to STOPPING, any other to SHORT (R207, R213). -/
theorem State.stopSpindle_of_underway {s : State} (hlow : 1 ≤ s.spState) (hhigh : s.spState ≤ 7) (hshort : s.spState ≠ 2) :
    s.stopSpindle = if 6 ≤ s.spState ∧ s.mot.chopOff = false then ((s.clr MOT_SP_STAT.START_PENDING).spGo 8 2).unloadFirst
      else (s.clr MOT_SP_STAT.START_PENDING).enterShort := by
  have hcases : s.spState = 1 ∨ s.spState = 3 ∨ s.spState = 4 ∨ s.spState = 5 ∨ s.spState = 6 ∨ s.spState = 7 := by omega
  unfold State.stopSpindle
  rcases hcases with h | h | h | h | h | h
  iterate 4 simp [h]
  iterate 2 cases hchop : s.mot.chopOff <;> simp [h]

theorem State.clr_startPending_allParked (s : State) : (s.clr MOT_SP_STAT.START_PENDING).allParked = s.allParked :=
  State.allParked_congr rfl fun a ha =>
    State.rd_wr_addr s MOT_SP_STAT.START_PENDING (MOT_ASTATUS.STATE a) 0 (by show MOT_ASTATUS a ≠ MOT_SP_STAT; unfold MOT_ASTATUS MOT_SP_STAT; omega)

/-- SP_STOP of a spindle under way. -/
theorem spStop_completes {s : State} (hlow : 1 ≤ s.spState) (hhigh : s.spState ≤ 7) (hshort : s.spState ≠ 2) :
    completes .spStop s (fun t => t.rd MOT_SP_STAT.START_PENDING = 0 ∧ t.spState = (if 6 ≤ s.spState ∧ s.mot.chopOff = false then 8 else 2) ∧
      t.mot.brakeWait = !s.allParked) := by
  let cleared := s.clr MOT_SP_STAT.START_PENDING
  have hpending : cleared.rd MOT_SP_STAT.START_PENDING = 0 := s.rd_wr_self MOT_SP_STAT.START_PENDING 0 rfl
  have hentered (st src : Nat) (hst : st < 16) : ((cleared.spGo st src).unloadFirst).rd MOT_SP_STAT.START_PENDING = 0 ∧
      ((cleared.spGo st src).unloadFirst).spState = st ∧ ((cleared.spGo st src).unloadFirst).mot.brakeWait = !s.allParked :=
    ⟨(cleared.spGo_unloadFirst_rd_left st src (by decide)).trans hpending, cleared.spGo_unloadFirst_spState src hst,
      (cleared.spGo_unloadFirst_brakeWait st src).trans (congrArg (!·) s.clr_startPending_allParked)⟩
  refine ⟨_, congrArg Host.Outcome.next (State.stopSpindle_of_underway hlow hhigh hshort), ?_⟩
  split
  · exact hentered 8 2 (by decide)
  · exact hentered 2 0 (by decide)

/-! ### SENSE (R208) -/

/-- The state in which SENSE_DONE finds its result: with the first one after a start step 9 is complete (R437). -/
def State.senseEnds (s : State) : State := s.when (s.rd SYS_START.STEP == 8) (fun t => t.wr SYS_START.STEP 9)

theorem State.senseEnds_catchMin (s : State) : s.senseEnds.rd MOT_SP_CFG.CATCH_MIN = s.rd MOT_SP_CFG.CATCH_MIN :=
  State.when_keeps (fun t => t.rd MOT_SP_CFG.CATCH_MIN) s _ fun t => State.rd_wr_addr t SYS_START.STEP MOT_SP_CFG.CATCH_MIN 9 (by decide)

theorem State.senseEnds_sys (s : State) : s.senseEnds.sys = s.sys := State.when_keeps State.sys s _ fun _ => rfl

/-- The writes that show a speed and its direction. -/
def speedWrites (v reverse forward : Nat) : List (Fld × Nat) := [(MOT_SPEED.RPM, v), (MOT_SPEED.REVERSE, reverse), (MOT_SP_STAT.FORWARD, forward)]

theorem State.wrs_speed_rpm (s : State) (v reverse forward : Nat) : (s.wrs (speedWrites v reverse forward)).rd MOT_SPEED.RPM = v % 65536 :=
  (State.rd_wr_addr _ MOT_SP_STAT.FORWARD MOT_SPEED.RPM forward (by decide)).trans
    ((State.rd_wr_bits _ MOT_SPEED.REVERSE MOT_SPEED.RPM reverse rfl (by decide)).trans (s.rd_wr_self MOT_SPEED.RPM v rfl))

theorem State.wrs_speed_direction (s : State) (v : Nat) {reverse forward : Nat} (hr : reverse < 2) (hf : forward < 2) :
    (s.wrs (speedWrites v reverse forward)).rd MOT_SPEED.REVERSE = reverse ∧ (s.wrs (speedWrites v reverse forward)).rd MOT_SP_STAT.FORWARD = forward :=
  have hapart : fieldsApart [MOT_SPEED.RPM, MOT_SPEED.REVERSE, MOT_SP_STAT.FORWARD] = true := by decide
  ⟨State.rd_wrs_of_mem (l := speedWrites v reverse forward) hapart s (f := MOT_SPEED.REVERSE) (.tail _ (.head _)) hr,
    State.rd_wrs_of_mem (l := speedWrites v reverse forward) hapart s (f := MOT_SP_STAT.FORWARD) (.tail _ (.tail _ (.head _))) hf⟩

/-- SENSE_DONE of a spindle at rest. -/
theorem senseDone_rest_completes {s : State} (hstate : s.spState = 1) :
    completes (.senseDone .rest) s (fun t => t.spState = 3 ∧ t.rd MOT_SPEED.RPM = 0) := by
  let still := s.senseEnds.wr MOT_SPEED.RPM 0
  have hexec : execSenseDone .rest s = .next (still.spGo 3 1) := congrArg Host.Outcome.next (if_neg (not_not_intro hstate))
  exact ⟨_, hexec, still.spGo_spState 1 (by decide), (still.spGo_rd_left 3 1 (by decide)).trans (s.senseEnds.rd_wr_self MOT_SPEED.RPM 0 rfl)⟩

theorem State.enterCatch_rd_left (s : State) {f : Fld} (hf : spLeft f = true) (hattempts : MOT_SP_STAT.ATTEMPTS.apart f = true) :
    s.enterCatch.rd f = s.rd f := by
  have hlow : 0xE1000 ≤ f.addr := by
    simp only [spLeft, Bool.and_eq_true, decide_eq_true_eq] at hf
    exact hf.1.1
  exact (State.unloadFirst_rd _ hlow).trans ((State.rd_wr_apart _ MOT_SP_STAT.ATTEMPTS f 0 rfl hattempts).trans (s.spGo_rd_left 5 0 hf))

theorem State.enterCatch_shown (s : State) : s.enterCatch.spState = 5 ∧ s.enterCatch.rd MOT_SP_STAT.ATTEMPTS = 0 :=
  ⟨(State.unloadFirst_rd _ (f := MOT_SP_STAT.STATE) (by decide)).trans
      ((State.rd_wr_bits _ MOT_SP_STAT.ATTEMPTS MOT_SP_STAT.STATE 0 rfl (by decide)).trans (s.spGo_spState 0 (by decide))),
    (State.unloadFirst_rd _ (by decide)).trans (State.rd_wr_self _ MOT_SP_STAT.ATTEMPTS 0 rfl)⟩

/-- SHORT is entered with START_PENDING set. -/
theorem State.pendingShort_shown (s : State) : s.startPending.enterShort.spState = 2 ∧ s.startPending.enterShort.rd MOT_SP_STAT.START_PENDING = 1 :=
  ⟨State.enterShort_spState _, (State.enterShort_rd_left _ (by decide)).trans s.startPending_set⟩

theorem State.pendingShort_rd_left (s : State) {f : Fld} (hf : spLeft f = true) (hpending : MOT_SP_STAT.START_PENDING.apart f = true) :
    s.startPending.enterShort.rd f = s.rd f := (State.enterShort_rd_left _ hf).trans (s.startPending_rd_apart hpending)

/-- SENSE_DONE of a spindle that turns forward. -/
theorem senseDone_forward_completes {v : Nat} {s : State} (hstate : s.spState = 1) :
    completes (.senseDone (.forward v)) s (fun t => t.rd MOT_SPEED.RPM = v % 65536 ∧ t.rd MOT_SP_STAT.FORWARD = 1 ∧
      (s.rd MOT_SP_CFG.CATCH_MIN * s.sys.cfg.rpm ≤ 100 * v → t.spState = 5 ∧ t.rd MOT_SP_STAT.ATTEMPTS = 0) ∧
      (100 * v < s.rd MOT_SP_CFG.CATCH_MIN * s.sys.cfg.rpm → t.spState = 2 ∧ t.rd MOT_SP_STAT.START_PENDING = 1)) := by
  let shown := s.senseEnds.wrs (speedWrites v 0 1)
  have hexec : execSenseDone (.forward v) s = .next (
      if s.senseEnds.rd MOT_SP_CFG.CATCH_MIN * s.senseEnds.sys.cfg.rpm ≤ 100 * v then shown.enterCatch else shown.startPending.enterShort) :=
    congrArg Host.Outcome.next (if_neg (not_not_intro hstate))
  have hrpm : shown.rd MOT_SPEED.RPM = v % 65536 := s.senseEnds.wrs_speed_rpm v 0 1
  have hforward : shown.rd MOT_SP_STAT.FORWARD = 1 := (s.senseEnds.wrs_speed_direction v (by decide) (by decide)).2
  rw [s.senseEnds_catchMin, s.senseEnds_sys] at hexec
  refine ⟨_, hexec, ?_⟩
  split
  · next hfast => exact ⟨(shown.enterCatch_rd_left (by decide) (by decide)).trans hrpm, (shown.enterCatch_rd_left (by decide) (by decide)).trans hforward,
      fun _ => shown.enterCatch_shown, fun hslow => absurd hslow (by omega)⟩
  · next hslow => exact ⟨(shown.pendingShort_rd_left (by decide) (by decide)).trans hrpm,
      (shown.pendingShort_rd_left (by decide) (by decide)).trans hforward, fun hfast => absurd hfast hslow, fun _ => shown.pendingShort_shown⟩

theorem State.motBit_set (s : State) (f : Fld) (h : f.ok = true) : (s.motBit f).rd f = 1 % 2 ^ (f.hi + 1 - f.lo) := s.rd_raiseBit_self f MOT_INT_EN h

theorem State.motBit_rd_apart (s : State) {f g : Fld} (hok : f.ok = true) (h : f.apart g = true) : (s.motBit f).rd g = s.rd g :=
  (s.raiseBit_rd f MOT_INT_EN g).trans (s.rd_wr_apart f g 1 hok h)

theorem State.motBit_mot (s : State) (f : Fld) : (s.motBit f).mot = s.mot := State.when_keeps State.mot (s.setB f) _ fun _ => rfl

/-- SENSE_DONE of a spindle that turns in reverse. -/
theorem senseDone_reverse_completes {v : Nat} {s : State} (hstate : s.spState = 1) :
    completes (.senseDone (.reverse v)) s (fun t => t.rd MOT_SPEED.RPM = v % 65536 ∧ t.rd MOT_SPEED.REVERSE = 1 ∧ t.spState = 2 ∧
      t.rd MOT_STATUS.REVERSE_SEEN = 1 ∧ t.rd MOT_SP_STAT.START_PENDING = 1) := by
  let shown := s.senseEnds.wrs (speedWrites v 1 0)
  let seen := shown.motBit MOT_STATUS.REVERSE_SEEN
  have hexec : execSenseDone (.reverse v) s = .next seen.startPending.enterShort := congrArg Host.Outcome.next (if_neg (not_not_intro hstate))
  have hrpm : seen.rd MOT_SPEED.RPM = v % 65536 := (shown.motBit_rd_apart rfl (by decide)).trans (s.senseEnds.wrs_speed_rpm v 1 0)
  have hreverse : seen.rd MOT_SPEED.REVERSE = 1 :=
    (shown.motBit_rd_apart rfl (by decide)).trans (s.senseEnds.wrs_speed_direction v (by decide) (by decide)).1
  obtain ⟨hshort, hpending⟩ := seen.pendingShort_shown
  exact ⟨_, hexec, (seen.pendingShort_rd_left (by decide) (by decide)).trans hrpm, (seen.pendingShort_rd_left (by decide) (by decide)).trans hreverse,
    hshort, (seen.pendingShort_rd_left (by decide) (by decide)).trans (shown.motBit_set MOT_STATUS.REVERSE_SEEN rfl), hpending⟩

/-! ### Rest, ALIGN and RAMP (R207, R209) -/

/-- SPINDLE_REST in SHORT with nothing to wait for. -/
theorem spindleRest_completes {s : State} (hstate : s.spState = 2) (hwait : s.mot.brakeWait = false) :
    completes .spindleRest s (fun t => t.rd MOT_SPEED.RPM = 0 ∧ t.rd MOT_SP_STAT.START_PENDING = 0 ∧
      t.spState = (if s.on MOT_SP_STAT.START_PENDING then 3 else 0)) := by
  let still := s.wr MOT_SPEED.RPM 0
  have hgo : ¬(s.spState ≠ 2 ∨ s.mot.brakeWait = true) := by simp [hstate, hwait]
  have hexec : execSpindleRest s = .next (
      if s.on MOT_SP_STAT.START_PENDING then (still.clr MOT_SP_STAT.START_PENDING).spGo 3 1 else still.spGo 0 0) :=
    congrArg Host.Outcome.next (if_neg hgo)
  have hrpm : still.rd MOT_SPEED.RPM = 0 := s.rd_wr_self MOT_SPEED.RPM 0 rfl
  refine ⟨_, hexec, ?_⟩
  split
  · exact ⟨(State.spGo_rd_left _ 3 1 (by decide)).trans ((State.rd_wr_addr still MOT_SP_STAT.START_PENDING MOT_SPEED.RPM 0 (by decide)).trans hrpm),
      (State.spGo_rd_left _ 3 1 (by decide)).trans (still.rd_wr_self MOT_SP_STAT.START_PENDING 0 rfl), State.spGo_spState _ 1 (by decide)⟩
  · next hnone =>
    have hpending : s.rd MOT_SP_STAT.START_PENDING = 0 := by simpa [State.on] using hnone
    exact ⟨(still.spGo_rd_left 0 0 (by decide)).trans hrpm, (still.spGo_rd_left 0 0 (by decide)).trans
      ((s.rd_wr_addr MOT_SPEED.RPM MOT_SP_STAT.START_PENDING 0 (by decide)).trans hpending), still.spGo_spState 0 (by decide)⟩

theorem alignDone_completes {s : State} (hstate : s.spState = 3) : completes .alignDone s (fun t => t.spState = 4) :=
  ⟨_, congrArg Host.Outcome.next (if_pos hstate), s.spGo_spState 1 (by decide)⟩

/-- RAMP_END with the observer locked. -/
theorem rampEnd_locked_completes {s : State} (hstate : s.spState = 4) :
    completes (.rampEnd .locked) s (fun t => t.spState = 6 ∧ t.rd MOT_SP_STAT.SOURCE = 2 ∧ t.rd MOT_SP_STAT.FORWARD = 1) :=
  ⟨_, congrArg Host.Outcome.next (if_neg (not_not_intro hstate)), State.spGo_spState _ 2 (by decide), State.spGo_source _ 6 (by decide),
    (State.spGo_rd_left _ 6 2 (by decide)).trans (State.rd_wr_self _ MOT_SP_STAT.FORWARD 1 rfl)⟩

/-- The phase order exchanged, live, held and as shown (R209, R486). -/
def State.phasesSwapped (s : State) : State :=
  let p := 1 - s.rd MOT_SP_CFG.PHASE_SWAP
  s.wrs [(MOT_SP_CFG.PHASE_SWAP, p), (MOT_SP_CFG.PHASE_SWAP.hold, p), (MOT_SP_STAT.PHASE_SWAP, p)]

theorem State.phasesSwapped_live (s : State) : s.phasesSwapped.rd MOT_SP_CFG.PHASE_SWAP = 1 - s.rd MOT_SP_CFG.PHASE_SWAP := by
  have hapart : fieldsApart [MOT_SP_CFG.PHASE_SWAP, MOT_SP_CFG.PHASE_SWAP.hold, MOT_SP_STAT.PHASE_SWAP] = true := by decide
  have hbit : 1 - s.rd MOT_SP_CFG.PHASE_SWAP < 2 := by omega
  let p := 1 - s.rd MOT_SP_CFG.PHASE_SWAP
  exact State.rd_wrs_of_mem (l := [(MOT_SP_CFG.PHASE_SWAP, p), (MOT_SP_CFG.PHASE_SWAP.hold, p), (MOT_SP_STAT.PHASE_SWAP, p)]) hapart s
    (f := MOT_SP_CFG.PHASE_SWAP) (.head _) hbit

/-- RAMP_END with a lock in reverse: the first time the phase order is learned, again it is a fault. -/
theorem rampEnd_lockedReverse_completes {s : State} (hstate : s.spState = 4) :
    completes (.rampEnd .lockedReverse) s (fun t => (1 ≤ s.mot.swaps → t.spState = 9) ∧
      (s.mot.swaps = 0 → t.spState = 2 ∧ t.rd MOT_SP_CFG.PHASE_SWAP = 1 - s.rd MOT_SP_CFG.PHASE_SWAP ∧ t.rd MOT_STATUS.PHASE_SWAPPED = 1 ∧
        t.rd MOT_SP_STAT.START_PENDING = 1)) := by
  let swapped := s.phasesSwapped.updMot (fun m => { m with swaps := m.swaps + 1 })
  let shown := swapped.motBit MOT_STATUS.PHASE_SWAPPED
  have hexec : execRampEnd .lockedReverse s = .next (if 1 ≤ s.mot.swaps then s.enterFault else shown.motLog.startPending.enterShort) :=
    congrArg Host.Outcome.next (if_neg (not_not_intro hstate))
  refine ⟨_, hexec, ?_⟩
  split
  · next hagain => exact ⟨fun _ => s.enterFault_spState, fun hfirst => by omega⟩
  · next hfirst =>
    obtain ⟨hshort, hpending⟩ := shown.motLog.pendingShort_shown
    refine ⟨fun hagain => absurd hagain hfirst, fun _ => ⟨hshort, ?_, ?_, hpending⟩⟩
    · exact (shown.motLog.pendingShort_rd_left (by decide) (by decide)).trans ((shown.motLog_rd (by decide)).trans
        ((swapped.motBit_rd_apart rfl (by decide)).trans s.phasesSwapped_live))
    · exact (shown.motLog.pendingShort_rd_left (by decide) (by decide)).trans ((shown.motLog_rd (by decide)).trans
        (swapped.motBit_set MOT_STATUS.PHASE_SWAPPED rfl))

/-- RAMP_END without lock: a start failure, the third a fault. -/
theorem rampEnd_noLock_completes {s : State} (hstate : s.spState = 4) :
    completes (.rampEnd .noLock) s (fun t => t.mot.startFails = s.mot.startFails + 1 ∧ t.rd MOT_STATUS.START_FAIL = 1 ∧
      t.spState = (if 2 ≤ s.mot.startFails then 9 else 2)) := by
  let failed := s.updMot (fun m => { m with startFails := m.startFails + 1 })
  let shown := failed.motBit MOT_STATUS.START_FAIL
  have hexec : execRampEnd .noLock s = .next (if 3 ≤ s.mot.startFails + 1 then shown.enterFault else shown.startPending.enterShort) :=
    congrArg Host.Outcome.next (if_neg (not_not_intro hstate))
  have hbit : shown.rd MOT_STATUS.START_FAIL = 1 := failed.motBit_set MOT_STATUS.START_FAIL rfl
  have hcount : shown.mot.startFails = s.mot.startFails + 1 := congrArg (fun m => m.startFails) (failed.motBit_mot MOT_STATUS.START_FAIL)
  refine ⟨_, hexec, ?_⟩
  split
  · next hthird => exact ⟨(shown.spGo_unloadFirst_startFails 9 0).trans hcount, (shown.enterFault_rd_left (by decide)).trans hbit,
      shown.enterFault_spState.trans (if_pos (by omega)).symm⟩
  · next hearly => exact ⟨(shown.startPending.spGo_unloadFirst_startFails 2 0).trans hcount,
      (shown.pendingShort_rd_left (by decide) (by decide)).trans hbit, shown.pendingShort_shown.1.trans (if_neg (by omega)).symm⟩

/-! ### CATCH (R210) -/

/-- An attempt counted: its number, and the catches. -/
def State.catchCounted (s : State) : State :=
  s.wrs [(MOT_SP_STAT.ATTEMPTS, s.rd MOT_SP_STAT.ATTEMPTS + 1), (MOT_CNT.CATCHES, satU 8 (s.rd MOT_CNT.CATCHES + 1))]

theorem State.catchCounted_eq (s : State) : (s.wr MOT_SP_STAT.ATTEMPTS (s.rd MOT_SP_STAT.ATTEMPTS + 1)).inc MOT_CNT.CATCHES = s.catchCounted := by
  have hcount := s.rd_wr_addr MOT_SP_STAT.ATTEMPTS MOT_CNT.CATCHES (s.rd MOT_SP_STAT.ATTEMPTS + 1) (by decide)
  rw [State.inc, State.addC, hcount]
  rfl

theorem State.catchCounted_shown {s : State} (hattempts : s.rd MOT_SP_STAT.ATTEMPTS < 3) :
    s.catchCounted.rd MOT_SP_STAT.ATTEMPTS = s.rd MOT_SP_STAT.ATTEMPTS + 1 ∧
      s.catchCounted.rd MOT_CNT.CATCHES = satU 8 (s.rd MOT_CNT.CATCHES + 1) := by
  have hapart : fieldsApart [MOT_SP_STAT.ATTEMPTS, MOT_CNT.CATCHES] = true := by decide
  have hn : s.rd MOT_SP_STAT.ATTEMPTS + 1 < 4 := by omega
  have hsat : satU 8 (s.rd MOT_CNT.CATCHES + 1) < 2 ^ 8 := lt_of_le_of_lt (min_le_right _ _) (by decide)
  let l : List (Fld × Nat) := [(MOT_SP_STAT.ATTEMPTS, s.rd MOT_SP_STAT.ATTEMPTS + 1), (MOT_CNT.CATCHES, satU 8 (s.rd MOT_CNT.CATCHES + 1))]
  exact ⟨State.rd_wrs_of_mem (l := l) hapart s (f := MOT_SP_STAT.ATTEMPTS) (.head _) hn,
    State.rd_wrs_of_mem (l := l) hapart s (f := MOT_CNT.CATCHES) (.tail _ (.head _)) hsat⟩

/-- CATCH_ATTEMPT_END after fewer than three attempts. -/
theorem catchAttemptEnd_completes {locked : Bool} {rpm : BitVec 16} {s : State} (hstate : s.spState = 5) (hattempts : s.rd MOT_SP_STAT.ATTEMPTS < 3) :
    completes (.catchAttemptEnd locked rpm) s (fun t => t.rd MOT_SP_STAT.ATTEMPTS = s.rd MOT_SP_STAT.ATTEMPTS + 1 ∧
      t.rd MOT_CNT.CATCHES = satU 8 (s.rd MOT_CNT.CATCHES + 1) ∧ (locked = true → t.spState = 6 ∧ t.rd MOT_SPEED.RPM = rpm.toNat) ∧
      (locked = false → s.rd MOT_SP_STAT.ATTEMPTS = 2 → t.spState = 2 ∧ t.rd MOT_STATUS.CATCH_FAIL = 1)) := by
  obtain ⟨hnumber, hcatches⟩ := State.catchCounted_shown hattempts
  cases locked with
  | true =>
    let anew := s.catchCounted.updMot (fun m => { m with lastRpm := rpm.toNat, emfRun := 0, agree := 0, learn := 0, rampIn := some 0 })
    let shown := anew.wrs (speedWrites rpm.toNat 0 1)
    have hexec : execCatchAttemptEnd true rpm s = .next (shown.spGo 6 2) := by
      simp only [execCatchAttemptEnd, hstate, State.catchCounted_eq, ne_eq, not_true_eq_false, if_false, if_true]
      rfl
    have hleft (f : Fld) (hf : spLeft f = true) (hapart : ∀ e ∈ speedWrites 0 0 1, e.1.ok = true ∧ e.1.apart f = true) :
        (shown.spGo 6 2).rd f = s.catchCounted.rd f :=
      (shown.spGo_rd_left 6 2 hf).trans (State.rd_wrs_apart anew _ f (by simpa [speedWrites] using hapart))
    refine ⟨_, hexec, (hleft _ (by decide) (by decide)).trans hnumber, (hleft _ (by decide) (by decide)).trans hcatches, fun _ => ⟨?_, ?_⟩, nofun⟩
    · exact shown.spGo_spState 2 (by decide)
    · exact (shown.spGo_rd_left 6 2 (by decide)).trans ((anew.wrs_speed_rpm _ 0 1).trans (Nat.mod_eq_of_lt rpm.isLt))
  | false =>
    let failed := s.catchCounted.motBit MOT_STATUS.CATCH_FAIL
    have hexec : execCatchAttemptEnd false rpm s = .next (if 3 ≤ s.rd MOT_SP_STAT.ATTEMPTS + 1 then failed.enterShort else s.catchCounted) := by
      simp only [execCatchAttemptEnd, hstate, State.catchCounted_eq, ne_eq, not_true_eq_false, Bool.false_eq_true, if_false]
      rfl
    have hleft (f : Fld) (hf : spLeft f = true) (hapart : MOT_STATUS.CATCH_FAIL.apart f = true) : failed.enterShort.rd f = s.catchCounted.rd f :=
      (failed.enterShort_rd_left hf).trans (s.catchCounted.motBit_rd_apart rfl hapart)
    refine ⟨_, hexec, ?_⟩
    split
    · exact ⟨(hleft _ (by decide) (by decide)).trans hnumber, (hleft _ (by decide) (by decide)).trans hcatches, nofun, fun _ _ => ⟨failed.enterShort_spState,
        (failed.enterShort_rd_left (by decide)).trans (s.catchCounted.motBit_set MOT_STATUS.CATCH_FAIL rfl)⟩⟩
    · next hmore => exact ⟨hnumber, hcatches, nofun, fun _ hlast => absurd hlast (by omega)⟩

/-! ### Wiring faults (R221) -/

/-- A phase fault brings the spindle to FAULT and shows its bit. -/
theorem State.phaseFault_shown (s : State) {f : Fld} (hok : f.ok = true) (hbit : f.hi = f.lo) (hf : spLeft f = true) (haddr : f.addr = MOT_STATUS) :
    (s.phaseFault f).spState = 9 ∧ (s.phaseFault f).rd f = 1 := by
  let shown := s.motBit f
  refine ⟨(State.raiseSrc_spindleRd _ _ _ (f := MOT_SP_STAT.STATE) (by decide)).trans shown.enterFault_spState, ?_⟩
  refine (State.raiseSrc_spindleRd _ _ _ (by rw [haddr]; decide)).trans ((shown.enterFault_rd_left hf).trans ((s.motBit_set f hok).trans ?_))
  rw [hbit, Nat.add_sub_cancel_left]
  rfl

theorem phaseOpen_completes {s : State} (hstate : s.spState = 3 ∨ s.spState = 4 ∨ s.spRunning = true ∨ s.spState = 8) :
    completes .phaseOpen s (fun t => t.spState = 9 ∧ t.rd MOT_STATUS.PHASE_OPEN = 1) :=
  ⟨_, congrArg Host.Outcome.next (if_pos hstate), s.phaseFault_shown rfl rfl (by decide) rfl⟩

theorem phaseShort_completes (s : State) : completes .phaseShort s (fun t => t.spState = 9 ∧ t.rd MOT_STATUS.PHASE_SHORT = 1) :=
  ⟨_, rfl, s.phaseFault_shown rfl rfl (by decide) rfl⟩

/-! ### The obligation -/

/-- Settles O41, clause by clause: START and STOP, the results of SENSE, rest, ALIGN, the ends of RAMP, of a catch attempt, and the wiring faults. -/
theorem spindleDrive : Obligations.SpindleDrive :=
  ⟨fun _ hanchor hride hhalted htrip hstate => spStart_completes ⟨hanchor, hride, hhalted, htrip⟩ hstate,
    fun _ hlow hhigh hshort => spStop_completes hlow hhigh hshort,
    fun _ hstate => senseDone_rest_completes hstate,
    fun _ _ hstate => senseDone_forward_completes hstate,
    fun _ _ hstate => senseDone_reverse_completes hstate,
    fun _ hstate hwait => spindleRest_completes hstate hwait,
    fun _ hstate => alignDone_completes hstate,
    fun _ hstate => rampEnd_locked_completes hstate,
    fun _ hstate => rampEnd_lockedReverse_completes hstate,
    fun _ hstate => rampEnd_noLock_completes hstate,
    fun _ _ _ hstate hattempts => catchAttemptEnd_completes hstate hattempts,
    fun _ hstate => phaseOpen_completes hstate,
    fun s => phaseShort_completes s⟩

end Sys2Proof.Machine
end

