-- ==== Sys2Proof/Proofs/Actuators.lean ====
section
/-! Loading, retracting, testing and parking an actuator (R211, R215 to R218; O43). -/

-- The kernel's checks of the masks wait for every theorem before them: run them in turn, not each on a thread of its own.
set_option Elab.async false

namespace Sys2Proof.Machine
open Reg

/-! ### The status of an actuator -/

/-- What changes no status of the actuators leaves their fields. -/
theorem Kept.rd_astatus {w : Nat} {s t : State} (h : Kept w s t) (hl : ∀ k : Act, maskClear w (MOT_ASTATUS k) = true) (a : Act) {f : Fld}
    (hf : f.addr = MOT_ASTATUS a) : t.rd f = s.rd f := h.rd_keep (hf ▸ hl a)

theorem State.refuseW_astatus (s : State) (w : Initiator) (ofs cause : Nat) (a : Act) {f : Fld} (hf : f.addr = MOT_ASTATUS a) :
    (s.refuseW w ofs cause).rd f = s.rd f := (State.refuseW_kept (subMask_refl _) (Kept.refl _ s)).rd_astatus (by decide +kernel) a hf

theorem State.raiseSrc_astatus (s : State) (src : Nat) (x : RaiseCtx) (a : Act) {f : Fld} (hf : f.addr = MOT_ASTATUS a) :
    (s.raiseSrc src x).rd f = s.rd f := (State.raiseSrc_kept (subMask_refl _) (Kept.refl _ s)).rd_astatus (by decide +kernel) a hf

theorem State.motLog_astatus (s : State) (a : Act) {f : Fld} (hf : f.addr = MOT_ASTATUS a) : s.motLog.rd f = s.rd f :=
  (State.motLog_kept (subMask_refl _) (Kept.refl _ s)).rd_astatus (by decide +kernel) a hf

theorem State.motLog_vcmCfg (s : State) (a : Act) {f : Fld} (hf : f.addr = MOT_VCM_CFG a) : s.motLog.rd f = s.rd f :=
  (State.motLog_kept (subMask_refl _) (Kept.refl _ s)).rd_keep (hf ▸ (by decide +kernel : ∀ k : Act, maskClear _ (MOT_VCM_CFG k) = true) a)

theorem State.domainDead_astatus (s : State) (d : Nat) (a : Act) {f : Fld} (hf : f.addr = MOT_ASTATUS a) : (s.domainDead d).rd f = s.rd f :=
  (State.domainDead_kept (subMask_refl _) (Kept.refl _ s)).rd_astatus (by decide +kernel) a hf

theorem State.markFenced_rd (s : State) (u : FUnit) (f : Fld) : (s.markFenced u).rd f = s.rd f :=
  State.rd_congr ((State.markFenced_kept (subMask_refl _) (Kept.refl _ s)).regs_ rfl) f

@[simp] theorem State.wrs_mot (s : State) (l : List (Fld × Nat)) : (s.wrs l).mot = s.mot := State.wrs_keeps State.mot s l fun _ _ _ => rfl

theorem State.updMot_rd (s : State) (g : MotU → MotU) (f : Fld) : (s.updMot g).rd f = s.rd f := rfl

theorem MOT_ASTATUS_inj {a b : Nat} (h : MOT_ASTATUS a = MOT_ASTATUS b) : a = b := by
  unfold MOT_ASTATUS at h
  omega

/-! ### LOAD, RETRACT and TEST (R216 to R218) -/

theorem State.startLoad_actState (s : State) (a : Nat) : (s.startLoad a).actState a = 2 := State.rd_wr_self _ (MOT_ASTATUS.STATE a) 2 rfl

/-- MOT_LOAD of a PARKED actuator is a load or a refusal. -/
theorem execMotLoad_of_parked {w : Initiator} {a : Act} {s : State} (hw : s.mayWrite w = true) (hpresent : s.actPresent a = true)
    (hstate : s.actState a = 0) : execMotLoad w a s =
      .next (if s.loadSpeedOk && s.on (MOT_ASTATUS.POL_OK a) then s.startLoad a else s.refuseW w (MOT_CMD a) 3) := by
  simp only [execMotLoad, hw, hpresent, hstate, Bool.not_true, Bool.false_eq_true, if_false, bne_self_eq_false, Bool.or_self]

theorem motLoad_completes {w : Initiator} {a : Act} {s : State} (hw : s.mayWrite w = true) (hpresent : s.actPresent a = true)
    (hstate : s.actState a = 0) (hspeed : s.loadSpeedOk = true) (hpol : s.on (MOT_ASTATUS.POL_OK a) = true) :
    completes (.motLoad w a) s (fun t => t.actState a = 2) := by
  have hallowed : (s.loadSpeedOk && s.on (MOT_ASTATUS.POL_OK a)) = true := by rw [hspeed, hpol, Bool.and_self]
  exact ⟨_, (execMotLoad_of_parked hw hpresent hstate).trans (congrArg Host.Outcome.next (if_pos hallowed)), s.startLoad_actState a⟩

/-- A LOAD refused leaves the actuator PARKED. -/
theorem motLoad_refused_completes {w : Initiator} {a : Act} {s : State} (hw : s.mayWrite w = true) (hpresent : s.actPresent a = true)
    (hstate : s.actState a = 0) (hnot : s.loadSpeedOk = false ∨ s.on (MOT_ASTATUS.POL_OK a) = false) :
    completes (.motLoad w a) s (fun t => t.actState a = 0) := by
  have hrefused : ¬(s.loadSpeedOk && s.on (MOT_ASTATUS.POL_OK a)) = true := by rcases hnot with h | h <;> simp [h]
  exact ⟨_, (execMotLoad_of_parked hw hpresent hstate).trans (congrArg Host.Outcome.next (if_neg hrefused)),
    (s.refuseW_astatus w _ 3 a (f := MOT_ASTATUS.STATE a) rfl).trans hstate⟩

theorem motRetract_completes {a : Act} {s : State} (hpresent : s.actPresent a = true) (hparked : s.actState a ≠ 0) (hfenced : s.actState a ≠ 5) :
    completes (.motRetract a) s (fun t => t.actState a = 4) :=
  ⟨_, congrArg Host.Outcome.next (if_pos hpresent), State.retract_actState a.isLt hparked hfenced⟩

theorem motTest_completes {w : Initiator} {a : Act} {s : State} (hw : s.mayWrite w = true) (hpresent : s.actPresent a = true)
    (hstate : s.actState a = 0) : completes (.motTest w a) s (fun t => t.actState a = 1) := by
  let fresh := s.updMot (fun m =>
    { m with swapped := listSet m.swapped a false, testOc := listSet m.testOc a false, waiting := listSet m.waiting a false })
  have hexec : execMotTest w a s = .next (fresh.wr (MOT_ASTATUS.STATE a) 1) := by
    simp only [execMotTest, hw, hpresent, hstate, Bool.not_true, Bool.false_eq_true, if_false, if_true]
    rfl
  exact ⟨_, hexec, fresh.rd_wr_self (MOT_ASTATUS.STATE a) 1 rfl⟩

/-! ### A fence (R216, R460) -/

theorem State.markFenced_isFenced (s : State) (u : FUnit) : (s.markFenced u).isFenced u = true := by
  unfold State.markFenced
  split
  · assumption
  · exact decide_eq_true (List.mem_append_right _ (List.mem_singleton.2 rfl))

theorem State.isFenced_domainDead {s : State} {u : FUnit} (a : Nat) (h : s.isFenced u = true) : (s.domainDead a).isFenced u = true :=
  decide_eq_true ((State.domainDead_kept (subMask_refl _) (Kept.refl _ s)).fences_ rfl u (of_decide_eq_true h))

/-- An actuator in TESTING needs no retract before it is FENCED. -/
theorem State.fenceVcm_of_testing {s : State} {a : Act} (h : s.actState a = 1) :
    s.fenceVcm a = ((s.wr (MOT_ASTATUS.STATE a) 5).markFenced (.vcm a)).domainDead a := by
  have hunit : Fin.ofNat 4 a.val = a := Fin.ext (Nat.mod_eq_of_lt a.isLt)
  simp only [State.fenceVcm, h, hunit]
  rfl

theorem State.fenceVcm_rd {s : State} {a : Act} (h : s.actState a = 1) {f : Fld} (hf : f.addr = MOT_ASTATUS a) :
    (s.fenceVcm a).rd f = (s.wr (MOT_ASTATUS.STATE a) 5).rd f := by
  rw [State.fenceVcm_of_testing h]
  exact (State.domainDead_astatus _ a a hf).trans (State.markFenced_rd _ _ f)

theorem State.fenceVcm_isFenced {s : State} {a : Act} (h : s.actState a = 1) : (s.fenceVcm a).isFenced (.vcm a) = true := by
  rw [State.fenceVcm_of_testing h]
  exact State.isFenced_domainDead a (State.markFenced_isFenced _ _)

/-! ### The end of a test (R216) -/

/-- The test shows a fault of the VCM: too little current, an overcurrent, or too little voltage for the current. -/
def State.testFaulty (s : State) (a : Act) : Prop :=
  2 * (s.rdS (MOT_MEAS.CURRENT a)).natAbs < s.rd (MOT_VCM_TEST.TEST_I a) ∨ s.mot.testOc.getD a false = true ∨
    1000 * (adcValue (12 + a) (s.rd (MOT_ADC.CODE (12 + a)))).natAbs < s.rd (MOT_VCM_TEST.TEST_I a) * s.rd (MOT_VCM_CFG.VCM_RES a)

theorem State.testSound {s : State} {a : Act} (hcurrent : s.rd (MOT_VCM_TEST.TEST_I a) ≤ 2 * (s.rdS (MOT_MEAS.CURRENT a)).natAbs)
    (hoc : s.mot.testOc.getD a false = false)
    (hvolts : s.rd (MOT_VCM_TEST.TEST_I a) * s.rd (MOT_VCM_CFG.VCM_RES a) ≤ 1000 * (adcValue (12 + a) (s.rd (MOT_ADC.CODE (12 + a)))).natAbs) :
    ¬s.testFaulty a := by
  rintro (h | h | h)
  · exact absurd h (Nat.not_lt.2 hcurrent)
  · rw [hoc] at h
    cases h
  · exact absurd h (Nat.not_lt.2 hvolts)

theorem State.testRuns_guard {s : State} {a : Act} (hstate : s.actState a = 1) (hwait : s.mot.waiting.getD a false = false) :
    ¬(s.actState a ≠ 1 ∨ s.mot.waiting.getD a false = true) := by
  rw [hstate, hwait]
  decide

/-- VCM_TEST_END of a sound VCM whose polarity is right. -/
theorem vcmTestEnd_pass_completes {a : Act} {s : State} (hstate : s.actState a = 1) (hwait : s.mot.waiting.getD a false = false)
    (hsound : ¬s.testFaulty a) (hemf : (s.rdS (MOT_MEAS.EMF a)).natAbs ≤ s.rd (MOT_VCM_TEST.TEST_V a)) :
    completes (.vcmTestEnd a) s (fun t => t.actState a = 0 ∧ t.rd (MOT_ASTATUS.POL_OK a) = 1) := by
  let l : List (Fld × Nat) := [(MOT_ASTATUS.POL_OK a, 1), (MOT_ASTATUS.STATE a, 0)]
  have hexec : execVcmTestEnd a s = .next (s.wrs l) :=
    congrArg Host.Outcome.next ((if_neg (State.testRuns_guard hstate hwait)).trans ((if_neg hsound).trans (if_pos hemf)))
  have hapart : ∀ k : Act, fieldsApart [MOT_ASTATUS.POL_OK k, MOT_ASTATUS.STATE k] = true := by decide
  exact ⟨_, hexec, State.rd_wrs_of_mem (l := l) (hapart a) s (f := MOT_ASTATUS.STATE a) (.tail _ (.head _)) (by decide : 0 < 8),
    State.rd_wrs_of_mem (l := l) (hapart a) s (f := MOT_ASTATUS.POL_OK a) (.head _) (by decide : 1 < 2)⟩

/-- VCM_TEST_END of a sound VCM that moves the wrong way: its polarity is exchanged, and a repeat awaited. -/
theorem vcmTestEnd_swap_completes {a : Act} {s : State} (hstate : s.actState a = 1) (hwait : s.mot.waiting.getD a false = false)
    (hsound : ¬s.testFaulty a) (hemf : s.rd (MOT_VCM_TEST.TEST_V a) < (s.rdS (MOT_MEAS.EMF a)).natAbs)
    (hfirst : s.mot.swapped.getD a false = false) (hwaits : s.mot.waiting.length = 4) :
    completes (.vcmTestEnd a) s (fun t => t.actState a = 1 ∧ t.rd (MOT_VCM_CFG.INV a) = 1 - s.rd (MOT_VCM_CFG.INV a) ∧
      t.rd (MOT_ASTATUS.POL_SWAP a) = 1 ∧ t.mot.waiting.getD a false = true) := by
  let p := 1 - s.rd (MOT_VCM_CFG.INV a)
  let l : List (Fld × Nat) := [(MOT_VCM_CFG.INV a, p), ((MOT_VCM_CFG.INV a).hold, p), (MOT_ASTATUS.POL_SWAP a, 1)]
  let logged := (s.wrs l).motLog
  have hmot : logged.mot = s.mot := ((State.motLog_kept (subMask_refl _) (Kept.refl _ (s.wrs l))).mot_ rfl).trans (s.wrs_mot l)
  have hexec : execVcmTestEnd a s = .next (logged.updMot (fun m =>
      { m with swapped := listSet m.swapped a true, waiting := listSet m.waiting a true })) :=
    congrArg Host.Outcome.next ((if_neg (State.testRuns_guard hstate hwait)).trans ((if_neg hsound).trans
      ((if_neg (Nat.not_le.2 hemf)).trans (if_neg (by rw [hfirst]; decide)))))
  have hp : p < 2 := by omega
  have hapart : ∀ k : Act, fieldsApart [MOT_VCM_CFG.INV k, (MOT_VCM_CFG.INV k).hold, MOT_ASTATUS.POL_SWAP k] = true ∧
    (∀ f ∈ [MOT_VCM_CFG.INV k, (MOT_VCM_CFG.INV k).hold, MOT_ASTATUS.POL_SWAP k], f.ok = true ∧ f.apart (MOT_ASTATUS.STATE k) = true) := by decide +kernel
  obtain ⟨hlist, hleft⟩ := hapart a
  refine ⟨_, hexec, ?_, ?_, ?_, ?_⟩
  · exact ((logged.updMot_rd _ (MOT_ASTATUS.STATE a)).trans ((s.wrs l).motLog_astatus a rfl)).trans
      ((State.rd_wrs_apart s l (MOT_ASTATUS.STATE a) (by simpa [l] using hleft)).trans hstate)
  · exact ((logged.updMot_rd _ (MOT_VCM_CFG.INV a)).trans ((s.wrs l).motLog_vcmCfg a rfl)).trans
      (State.rd_wrs_of_mem (l := l) hlist s (f := MOT_VCM_CFG.INV a) (.head _) hp)
  · exact ((logged.updMot_rd _ (MOT_ASTATUS.POL_SWAP a)).trans ((s.wrs l).motLog_astatus a rfl)).trans
      (State.rd_wrs_of_mem (l := l) hlist s (f := MOT_ASTATUS.POL_SWAP a) (.tail _ (.tail _ (.head _))) (by decide : 1 < 2))
  · show (listSet logged.mot.waiting a true).getD a false = true
    rw [hmot]
    exact listSet_getD_self true false (hwaits.symm ▸ a.isLt)

/-- VCM_TEST_END of a faulty VCM fences it. -/
theorem vcmTestEnd_fail_completes {a : Act} {s : State} (hstate : s.actState a = 1) (hwait : s.mot.waiting.getD a false = false)
    (hfaulty : s.testFaulty a) :
    completes (.vcmTestEnd a) s (fun t => t.actState a = 5 ∧ t.rd (MOT_ASTATUS.TEST_FAIL a) = 1 ∧ t.isFenced (.vcm a) = true) := by
  let failed := s.setB (MOT_ASTATUS.TEST_FAIL a)
  let raised := failed.raiseSrc (0x14C + a.val) { ctx0 with detail := a.val }
  have hexec : execVcmTestEnd a s = .next (raised.fenceVcm a) :=
    congrArg Host.Outcome.next ((if_neg (State.testRuns_guard hstate hwait)).trans (if_pos hfaulty))
  have htesting : raised.actState a = 1 := (failed.raiseSrc_astatus _ _ a (f := MOT_ASTATUS.STATE a) rfl).trans
    ((s.rd_wr_bits (MOT_ASTATUS.TEST_FAIL a) (MOT_ASTATUS.STATE a) 1 rfl (.inr (by decide : 2 < 5))).trans hstate)
  have hbit : raised.rd (MOT_ASTATUS.TEST_FAIL a) = 1 := (failed.raiseSrc_astatus _ _ a (f := MOT_ASTATUS.TEST_FAIL a) rfl).trans
    (s.rd_wr_self (MOT_ASTATUS.TEST_FAIL a) 1 rfl)
  refine ⟨_, hexec, ?_, ?_, State.fenceVcm_isFenced htesting⟩
  · exact (State.fenceVcm_rd htesting (f := MOT_ASTATUS.STATE a) rfl).trans (raised.rd_wr_self (MOT_ASTATUS.STATE a) 5 rfl)
  · exact (State.fenceVcm_rd htesting (f := MOT_ASTATUS.TEST_FAIL a) rfl).trans
      ((raised.rd_wr_bits (MOT_ASTATUS.STATE a) (MOT_ASTATUS.TEST_FAIL a) 5 rfl (.inl (by decide : 2 < 5))).trans hbit)

/-- VCM_TEST_REPEAT of an awaited repeat. -/
theorem vcmTestRepeat_completes {a : Act} {s : State} (hstate : s.actState a = 1) (hwait : s.mot.waiting.getD a false = true) :
    completes (.vcmTestRepeat a) s (fun t => t.mot.waiting.getD a false = false ∧ t.actState a = 1) :=
  ⟨_, congrArg Host.Outcome.next (if_pos ⟨hstate, hwait⟩), listSet_getD_default s.mot.waiting a false, hstate⟩

/-! ### The course of a load (R217) -/

theorem State.updAct_act_self {s : State} {a : Nat} (f : CtlAct → CtlAct) (ha : a < s.ctl.acts.length) : (s.updAct a f).act a = f (s.act a) :=
  listModify_getD_self _ _ _ _ ha

/-- LOAD_OFF_RAMP of an actuator whose travel has reached RAMP_TRAVEL. -/
theorem loadOffRamp_completes {a : Act} {s : State} (hstate : s.actState a = 2)
    (htravel : 1000000 * (s.rd (MOT_VCM_MOVE.RAMP_TRAVEL a) : Int) ≤ s.mot.travel.getD a 0) (hacts : s.ctl.acts.length = 4) :
    completes (.loadOffRamp a) s (fun t => t.actState a = 3 ∧ (t.act a).loadPend = true ∧ (t.act a).loadBells = some 0) := by
  have hact := State.updAct_act_self (s := s.wr (MOT_ASTATUS.STATE a) 3) (fun c => { c with loadPend := true, loadBells := some 0 })
    (hacts.symm ▸ a.isLt : a.val < s.ctl.acts.length)
  exact ⟨_, congrArg Host.Outcome.next (if_pos ⟨hstate, htravel⟩), s.rd_wr_self (MOT_ASTATUS.STATE a) 3 rfl, congrArg CtlAct.loadPend hact,
    congrArg CtlAct.loadBells hact⟩

/-- RET_TIMEOUT stops HELM_BEAT with cause 3 and leaves the actuator's state (R218). -/
theorem State.retTimeout_shown (s : State) (a : Act) : (s.retTimeout a).actState a = s.actState a ∧
    (s.retTimeout a).rd (MOT_ASTATUS.RET_TIMEOUT a) = 1 ∧ (s.retTimeout a).rd MOT_BEAT.RUNNING = 0 ∧ (s.retTimeout a).rd MOT_BEAT.CAUSE = 3 := by
  let l : List (Fld × Nat) := [(MOT_ASTATUS.RET_TIMEOUT a, 1), (MOT_BEAT.RUNNING, 0), (MOT_BEAT.CAUSE, 3)]
  have hapart : ∀ k : Act, fieldsApart [MOT_ASTATUS.RET_TIMEOUT k, MOT_BEAT.RUNNING, MOT_BEAT.CAUSE] = true ∧
    (∀ f ∈ [MOT_ASTATUS.RET_TIMEOUT k, MOT_BEAT.RUNNING, MOT_BEAT.CAUSE], f.ok = true ∧ f.apart (MOT_ASTATUS.STATE k) = true) := by decide +kernel
  obtain ⟨hlist, hleft⟩ := hapart a
  refine ⟨?_, ?_, ?_, ?_⟩
  · exact ((s.wrs l).raiseSrc_astatus _ _ a (f := MOT_ASTATUS.STATE a) rfl).trans
      (State.rd_wrs_apart s l (MOT_ASTATUS.STATE a) (by simpa [l] using hleft))
  · exact ((s.wrs l).raiseSrc_astatus _ _ a (f := MOT_ASTATUS.RET_TIMEOUT a) rfl).trans
      (State.rd_wrs_of_mem (l := l) hlist s (f := MOT_ASTATUS.RET_TIMEOUT a) (.head _) (by decide : 1 < 2))
  · exact ((s.wrs l).raiseSrc_spindleRd _ _ (f := MOT_BEAT.RUNNING) (by decide)).trans
      (State.rd_wrs_of_mem (l := l) hlist s (f := MOT_BEAT.RUNNING) (.tail _ (.head _)) (by decide : 0 < 2))
  · exact ((s.wrs l).raiseSrc_spindleRd _ _ (f := MOT_BEAT.CAUSE) (by decide)).trans
      (State.rd_wrs_of_mem (l := l) hlist s (f := MOT_BEAT.CAUSE) (.tail _ (.tail _ (.head _))) (by decide : 3 < 4))

/-- LOAD_TRAVEL_TIMEOUT: four times RAMP_TRAVEL without the report. -/
theorem loadTravelTimeout_completes {a : Act} {s : State} (hstate : s.actState a = 2)
    (htravel : 4000000 * (s.rd (MOT_VCM_MOVE.RAMP_TRAVEL a) : Int) ≤ s.mot.travel.getD a 0) :
    completes (.loadTravelTimeout a) s (fun t => t.actState a = 4 ∧ t.rd (MOT_ASTATUS.RET_TIMEOUT a) = 1 ∧ t.rd MOT_BEAT.RUNNING = 0 ∧
      t.rd MOT_BEAT.CAUSE = 3) := by
  obtain ⟨hkept, hrest⟩ := (s.wr (MOT_ASTATUS.STATE a) 4).retTimeout_shown a
  exact ⟨_, congrArg Host.Outcome.next (if_pos ⟨hstate, htravel⟩), hkept.trans (s.rd_wr_self (MOT_ASTATUS.STATE a) 4 rfl), hrest⟩

theorem retractTimeout_completes {a : Act} {s : State} (hstate : s.actState a = 4) :
    completes (.retractTimeout a) s (fun t => t.actState a = 4 ∧ t.rd (MOT_ASTATUS.RET_TIMEOUT a) = 1 ∧ t.rd MOT_BEAT.RUNNING = 0 ∧
      t.rd MOT_BEAT.CAUSE = 3) := by
  obtain ⟨hkept, hrest⟩ := s.retTimeout_shown a
  exact ⟨_, congrArg Host.Outcome.next (if_pos hstate), hkept.trans hstate, hrest⟩

/-! ### PARKED (R211, R218) -/

/-- The actuator is PARKED, and braking waits no longer once every one is PARKED or FENCED. -/
def State.park (s : State) (a : Nat) : State :=
  let t := s.wr (MOT_ASTATUS.STATE a) 0
  t.when t.allParked (fun t => t.updMot (fun m => { m with brakeWait := false }))

theorem State.park_regs (s : State) (a : Nat) : (s.park a).regs = (s.wr (MOT_ASTATUS.STATE a) 0).regs :=
  State.when_keeps State.regs (s.wr (MOT_ASTATUS.STATE a) 0) _ fun _ => rfl

theorem State.park_actState (s : State) (a : Nat) : (s.park a).actState a = 0 :=
  (State.rd_congr (s.park_regs a) _).trans (s.rd_wr_self (MOT_ASTATUS.STATE a) 0 rfl)

theorem State.park_rd_left (s : State) (a : Nat) {f : Fld} (hf : (MOT_ASTATUS.STATE a).apart f = true) : (s.park a).rd f = s.rd f :=
  (State.rd_congr (s.park_regs a) f).trans (s.rd_wr_apart (MOT_ASTATUS.STATE a) f 0 rfl hf)

theorem State.allParked_of_others {s : State} {a : Nat} (h : ∀ b ∈ s.allActs, b = a ∨ s.actState b = 0 ∨ s.actState b = 5) :
    (s.wr (MOT_ASTATUS.STATE a) 0).allParked = true := by
  refine List.all_eq_true.2 fun b hb => ?_
  by_cases hab : b = a
  · have hparked : (s.wr (MOT_ASTATUS.STATE a) 0).actState b = 0 := hab ▸ s.rd_wr_self (MOT_ASTATUS.STATE a) 0 rfl
    simp [hparked]
  · have hother : (s.wr (MOT_ASTATUS.STATE a) 0).actState b = s.actState b :=
      s.rd_wr_addr (MOT_ASTATUS.STATE a) (MOT_ASTATUS.STATE b) 0 fun e => hab (MOT_ASTATUS_inj e)
    simpa [hother] using (h b hb).resolve_left hab

theorem State.park_brakeWait {s : State} {a : Nat} (h : ∀ b ∈ s.allActs, b = a ∨ s.actState b = 0 ∨ s.actState b = 5) :
    (s.park a).mot.brakeWait = false := by
  unfold State.park
  extract_lets t
  have hall : t.allParked = true := State.allParked_of_others h
  rw [hall]
  rfl

theorem State.loadSpeedOk_congr {s t : State} (h : ∀ f ∈ [PROF_TARGET.TARGET 4, MOT_SPEED.RPM, MOT_SP_STAT.STATE], t.rd f = s.rd f) :
    t.loadSpeedOk = s.loadSpeedOk := by
  simp only [List.forall_mem_cons] at h
  obtain ⟨htarget, hrpm, hstate, -⟩ := h
  simp only [State.loadSpeedOk, State.spRunning, State.spState, htarget, hrpm, hstate]

theorem State.park_loadSpeedOk (s : State) (a : Act) : (s.park a).loadSpeedOk = s.loadSpeedOk := by
  have hapart : ∀ k : Act, ∀ f ∈ [PROF_TARGET.TARGET 4, MOT_SPEED.RPM, MOT_SP_STAT.STATE], (MOT_ASTATUS.STATE k).apart f = true := by decide
  exact State.loadSpeedOk_congr fun f hf => s.park_rd_left a (hapart a f hf)

theorem State.park_polOk (s : State) (a : Nat) : (s.park a).on (MOT_ASTATUS.POL_OK a) = s.on (MOT_ASTATUS.POL_OK a) :=
  congrArg (· != 0) ((State.rd_congr (s.park_regs a) _).trans
    (s.rd_wr_bits (MOT_ASTATUS.STATE a) (MOT_ASTATUS.POL_OK a) 0 rfl (.inl (by decide : 2 < 3))))

/-- ACTUATOR_PARKED with no reload asked for. -/
theorem actuatorParked_completes {a : Act} {s : State} (hstate : s.actState a = 4) (hreload : s.mot.reload.getD a false = false) :
    completes (.actuatorParked a) s (fun t => t.actState a = 0 ∧
      ((∀ b ∈ s.allActs, b = a.val ∨ s.actState b = 0 ∨ s.actState b = 5) → t.mot.brakeWait = false)) := by
  have hexec : execActuatorParked a s = .next (s.park a) :=
    congrArg Host.Outcome.next ((if_neg (not_not_intro hstate)).trans (if_neg (by rw [hreload]; decide)))
  exact ⟨_, hexec, s.park_actState a, fun h => State.park_brakeWait h⟩

/-- ACTUATOR_PARKED with a reload asked for that may begin (R176). -/
theorem actuatorParked_reload_completes {a : Act} {s : State} (hstate : s.actState a = 4) (hreload : s.mot.reload.getD a false = true)
    (hspeed : s.loadSpeedOk = true) (hpol : s.on (MOT_ASTATUS.POL_OK a) = true) :
    completes (.actuatorParked a) s (fun t => t.actState a = 2 ∧ t.mot.reload.getD a false = false) := by
  let asked := (s.park a).updMot (fun m => { m with reload := listSet m.reload a false })
  have hmay : (asked.loadSpeedOk && asked.on (MOT_ASTATUS.POL_OK a)) = true := by
    have hspeed' : asked.loadSpeedOk = true := (s.park_loadSpeedOk a).trans hspeed
    have hpol' : asked.on (MOT_ASTATUS.POL_OK a) = true := (s.park_polOk a).trans hpol
    rw [hspeed', hpol', Bool.and_self]
  have hexec : execActuatorParked a s = .next (asked.startLoad a) :=
    congrArg Host.Outcome.next ((if_neg (not_not_intro hstate)).trans ((if_pos hreload).trans (if_pos hmay)))
  exact ⟨_, hexec, asked.startLoad_actState a, listSet_getD_default (s.park a).mot.reload a false⟩

/-! ### The obligation -/

/-- Settles O43, clause by clause: LOAD and its refusal, RETRACT, TEST, the three ends of a test and its repeat, the course of a load and its
time-outs, and PARKED without and with a reload. -/
theorem actuators : Obligations.Actuators :=
  ⟨fun _ _ _ hw hpresent hstate hspeed hpol => motLoad_completes hw hpresent hstate hspeed hpol,
    fun _ _ _ hw hpresent hstate hnot => motLoad_refused_completes hw hpresent hstate hnot,
    fun _ _ hpresent hparked hfenced => motRetract_completes hpresent hparked hfenced,
    fun _ _ _ hw hpresent hstate => motTest_completes hw hpresent hstate,
    fun _ _ hstate hwait hcurrent hoc hvolts hemf => vcmTestEnd_pass_completes hstate hwait (State.testSound hcurrent hoc hvolts) hemf,
    fun _ _ hstate hwait hcurrent hoc hvolts hemf hfirst hwaits =>
      vcmTestEnd_swap_completes hstate hwait (State.testSound hcurrent hoc hvolts) hemf hfirst hwaits,
    fun _ _ hstate hwait hfaulty => vcmTestEnd_fail_completes hstate hwait hfaulty,
    fun _ _ hstate hwait => vcmTestRepeat_completes hstate hwait,
    fun _ _ hstate htravel hacts => loadOffRamp_completes hstate htravel hacts,
    fun _ _ hstate htravel => loadTravelTimeout_completes hstate htravel,
    fun _ _ hstate => retractTimeout_completes hstate,
    fun _ _ hstate hreload => actuatorParked_completes hstate hreload,
    fun _ _ hstate hreload hspeed hpol => actuatorParked_reload_completes hstate hreload hspeed hpol⟩

end Sys2Proof.Machine
end

