-- ==== Sys2Proof/Proofs/RideThrough.lean ====
section
/-! Entry into RIDE-THROUGH, its flash write and its end in HALTED (R222, R429, R432, R433, R440; O19). -/

-- The kernel's checks of the masks wait for every theorem before them: run them in turn, not each on a thread of its own.
set_option Elab.async false

namespace Sys2Proof.Machine
open Reg

/-! ### The mode in force (R429) -/

theorem Mode.ofCode_code (m : Mode) : Mode.ofCode m.code = m := by
  cases m <;> rfl

theorem Mode.code_lt (m : Mode) : m.code < 8 := by
  cases m <;> decide

/-- What changes no SYS_MODE leaves the mode. -/
theorem Kept.mode_keep {w : Nat} {s t : State} (h : Kept w s t) (hc : maskClear w SYS_MODE = true) : t.mode = s.mode :=
  State.mode_congr (h.reg_keep hc)

theorem State.logFree_mode (s : State) (typ source : Nat) : (s.logFree typ source).mode = s.mode :=
  (State.logFree_kept (subMask_refl _) (Kept.refl _ s)).mode_keep (by decide +kernel)

theorem State.wr_mode_code (s : State) (m : Mode) : (s.wr SYS_MODE.MODE m.code).mode = m := by
  have hcode : (s.wr SYS_MODE.MODE m.code).rd SYS_MODE.MODE = m.code :=
    (s.rd_wr_self SYS_MODE.MODE m.code rfl).trans (Nat.mod_eq_of_lt m.code_lt)
  exact (congrArg Mode.ofCode hcode).trans m.ofCode_code

/-- The mode entered is in force. -/
theorem State.setMode_mode (s : State) (m : Mode) : (s.setMode m).mode = m := by
  unfold State.setMode
  extract_lets entered shown
  split
  · assumption
  · have hshown : shown.mode = entered.mode := State.when_keeps State.mode entered _ fun u =>
      State.mode_congr ((State.reg_wr_ne _ _ _ _ (by decide)).trans (State.reg_wr_ne u _ _ _ (by decide)))
    exact (shown.logFree_mode _ _).trans (hshown.trans (s.wr_mode_code m))

/-! ### The persistent record (R440) -/

/-- An updated persistent record is the one in force: its sequence number is above that of the copy it leaves. -/
theorem SysU.updPersist_persist (u : SysU) (f : PersistRec → PersistRec) :
    (u.updPersist f).persist = { f u.persist with seq := u.persist.seq + 1, good := true } := by
  unfold SysU.updPersist
  cases haon : u.aonRec with
  | some r => rfl
  | none =>
    by_cases hfirst : (u.rec0.good && (!u.rec1.good || decide (u.rec1.seq ≤ u.rec0.seq))) = true
    · simp [SysU.persist, haon, hfirst]
    · simp [SysU.persist, haon, hfirst]

/-! ### The entry (R222, R433) -/

theorem State.dropGates_sys (s : State) (headScoped : Bool) (hs : List Nat) : (s.dropGates headScoped hs).sys = s.sys :=
  (State.dropGates_kept (subMask_refl _) (Kept.refl _ s)).sys_ rfl

theorem State.motBit_sys (s : State) (f : Fld) : (s.motBit f).sys = s.sys := State.when_keeps State.sys (s.setB f) _ fun _ => rfl

theorem State.setMode_sys (s : State) (m : Mode) : (s.setMode m).sys = s.sys := (State.setMode_kept (subMask_refl _) (Kept.refl _ s)).sys_ rfl

theorem State.logFree_sys (s : State) (typ source : Nat) : (s.logFree typ source).sys = s.sys :=
  (State.logFree_kept (subMask_refl _) (Kept.refl _ s)).sys_ rfl

theorem State.rideUnitsOff_wb (s : State) : s.rideUnitsOff.sch.wb = [] :=
  congrArg SchU.wb ((State.stopQuay_kept (subMask_refl _) (Kept.refl _ _)).sch_ rfl)

/-- The write protection and the mode at entry: the gates drop, RIDE_THROUGH shows. -/
def State.rideMode (s : State) : State :=
  let gatesOff := (s.updWrp (fun w => { w with supplyErr := true, gatesOff := true })).dropGates false s.allHeads
  ((gatesOff.motBit MOT_STATUS.RIDE_THROUGH).setMode .rideThrough).logFree 0x0011 0x1FF

theorem State.rideMode_mode (s : State) : s.rideMode.mode = .rideThrough := (State.logFree_mode _ _ _).trans (State.setMode_mode _ _)

theorem State.rideMode_sys (s : State) : s.rideMode.sys = s.sys := by
  unfold State.rideMode
  rw [State.logFree_sys, State.setMode_sys, State.motBit_sys, State.dropGates_sys, State.updWrp_sys]

/-- The state at entry before the actuators retract: the spindle in its mode and the units off that R433 does not keep. -/
def State.rideOff (s : State) : State := s.rideMode.rideSpindle.rideUnitsOff

theorem State.rideOff_mode (s : State) : s.rideOff.mode = .rideThrough := by
  have hspindle := (State.rideSpindle_kept (subMask_refl _) (Kept.refl _ s.rideMode)).mode_keep (by decide +kernel)
  have hunits := (State.rideUnitsOff_kept (subMask_refl _) (Kept.refl _ s.rideMode.rideSpindle)).mode_keep (by decide +kernel)
  exact hunits.trans (hspindle.trans s.rideMode_mode)

theorem State.rideOff_sys (s : State) : s.rideOff.sys = s.sys := by
  have hspindle := (State.rideSpindle_kept (subMask_refl _) (Kept.refl _ s.rideMode)).sys_ rfl
  have hunits := (State.rideUnitsOff_kept (subMask_refl _) (Kept.refl _ s.rideMode.rideSpindle)).sys_ rfl
  exact hunits.trans (hspindle.trans s.rideMode_sys)

theorem State.mode_ne_bringUp_of_running {s : State} (h : s.running = true) : ¬(s.mode == .bringUp) = true := by
  intro hmode
  rw [State.running, eq_of_beq hmode] at h
  exact absurd h (by decide)

/-- RIDE_THROUGH_ENTER in a running mode takes the entry. -/
theorem execRideThroughEnter_of_running {s : State} (hrun : s.running = true) (hanchor : s.on WCH_INST.ANCHOR = false) :
    execRideThroughEnter s = .next (s.rideOff.retractAll.updMot (fun m => { m with rideStart := some s.rideOff.sys.time, rideFlash := false })) := by
  have hguard : ¬(!s.running || s.on WCH_INST.ANCHOR) = true := by simp [hrun, hanchor]
  exact congrArg Host.Outcome.next ((if_neg (State.mode_ne_bringUp_of_running hrun)).trans (if_neg hguard))

theorem State.retractAll_mode (s : State) : s.retractAll.mode = s.mode :=
  (State.retractAll_kept (subMask_refl _) (Kept.refl _ s)).mode_keep (by decide +kernel)

theorem State.retractAll_sch (s : State) : s.retractAll.sch = s.sch :=
  (State.retractAll_kept (subMask_refl _) (Kept.refl _ s)).sch_ rfl

theorem State.updMot_mode (s : State) (g : MotU → MotU) : (s.updMot g).mode = s.mode := rfl

theorem rideThroughEnter_completes {s : State} (hrun : s.running = true) (hanchor : s.on WCH_INST.ANCHOR = false) :
    completes .rideThroughEnter s (fun t => t.mode = .rideThrough ∧ t.mot.rideStart = some s.sys.time ∧ t.mot.rideFlash = false ∧ t.sch.wb = []) := by
  refine ⟨_, execRideThroughEnter_of_running hrun hanchor, ?_, ?_, rfl, ?_⟩
  · exact (State.updMot_mode _ _).trans (s.rideOff.retractAll_mode.trans s.rideOff_mode)
  · exact congrArg (fun u : SysU => some u.time) s.rideOff_sys
  · exact (congrArg SchU.wb s.rideOff.retractAll_sch).trans s.rideMode.rideSpindle.rideUnitsOff_wb

/-- RIDE_THROUGH_ENTER in BRING-UP with register space closed only holds the bus. -/
theorem exec_rideThroughEnter_of_bringUp {s : State} (hmode : s.mode = .bringUp) (hclosed : s.sys.regOpen = false) :
    exec .rideThroughEnter s = .next { s with sys := { s.sys with busHold := true } } := by
  have hbring : (s.mode == .bringUp) = true := by rw [hmode]; rfl
  exact congrArg Host.Outcome.next ((if_pos hbring).trans (if_neg (by rw [hclosed]; decide)))

/-! ### The flash write (R222, R477, R440) -/

/-- The record list closed: the flash area holds the newest 1,024 records not yet persisted. -/
def State.rideListed (s : State) : State :=
  (s.updMot (fun m => { m with rideFlash := true })).updWatch (fun w =>
    let l := w.ring.filter (fun r => decide (w.persisted ≤ r.seq))
    { w with rideArea := l.drop (l.length - 1024) })

/-- The records, the summary and the outcome table in the flash. -/
def State.rideSaved (s : State) : State :=
  { s.rideListed.writeSummary with qfb := { s.rideListed.qfb with saved := s.rideListed.qfb.outcomes } }

theorem State.writeSummary_sys (s : State) : s.writeSummary.sys = s.sys := (State.writeSummary_kept (subMask_refl _) (Kept.refl _ s)).sys_ rfl

theorem State.writeSummary_mot (s : State) : s.writeSummary.mot = s.mot := (State.writeSummary_kept (subMask_refl _) (Kept.refl _ s)).mot_ rfl

theorem State.rideSaved_flash (s : State) : s.rideSaved.mot.rideFlash = true := congrArg MotU.rideFlash s.rideListed.writeSummary_mot

theorem State.rideSaved_outcomes (s : State) : s.rideSaved.qfb.saved = s.qfb.outcomes := rfl

theorem State.rideSaved_sys (s : State) : s.rideSaved.sys = s.sys :=
  s.rideListed.writeSummary_sys.trans (by rw [State.rideListed, State.updWatch_sys, State.updMot_sys])

theorem rideThroughFlashDone_completes {s : State} (hmode : s.mode = .rideThrough) (hflash : s.mot.rideFlash = false) :
    completes .rideThroughFlashDone s (fun t => t.mot.rideFlash = true ∧ (s.on SYS_MODE.FLASH_ABSENT = false →
      t.qfb.saved = s.qfb.outcomes ∧ t.persist.opSeconds = s.sys.opSeconds)) := by
  have hguard : ¬(s.mode != .rideThrough || s.mot.rideFlash) = true := by rw [hmode, hflash]; decide
  by_cases habsent : s.on SYS_MODE.FLASH_ABSENT = true
  · refine ⟨_, congrArg Host.Outcome.next ((if_neg hguard).trans (if_pos habsent)), rfl, fun hpresent => ?_⟩
    exact absurd (habsent.symm.trans hpresent) (by decide)
  · have hexec : execRideThroughFlashDone s =
        .next (s.rideSaved.updPersist (fun p => { p with opSeconds := s.rideSaved.sys.opSeconds })) :=
      congrArg Host.Outcome.next ((if_neg hguard).trans (if_neg habsent))
    refine ⟨_, hexec, s.rideSaved_flash, fun _ => ⟨s.rideSaved_outcomes, ?_⟩⟩
    exact (congrArg PersistRec.opSeconds (s.rideSaved.sys.updPersist_persist _)).trans (congrArg SysU.opSeconds s.rideSaved_sys)

/-! ### The end in HALTED (R222, R432) -/

theorem State.stopBeat_running (s : State) (cause : Nat) : (s.stopBeat cause).rd MOT_BEAT.RUNNING = 0 :=
  State.rd_wrs_of_mem (l := [(MOT_BEAT.RUNNING, 0), (MOT_BEAT.CAUSE, cause)]) rfl s (.head _) (by decide)

/-- Zeroing the key slots shows only in the registers of the pack unit. -/
theorem State.zeroKeys_beat (s : State) : s.zeroKeys.reg MOT_BEAT = s.reg MOT_BEAT := by
  unfold State.zeroKeys State.showPack
  refine (State.reg_wrs_ne _ _ MOT_BEAT ?_).trans rfl
  simp only [List.forall_mem_cons]
  exact ⟨by decide, by decide, by decide, by decide, by decide, by decide, fun _ h => absurd h List.not_mem_nil⟩

theorem State.showPack_pack (s : State) : s.showPack.pack = s.pack := State.wrs_keeps State.pack s _ fun _ _ _ => rfl

theorem State.zeroKeys_empty (s : State) : s.zeroKeys.pack.keys.all (fun k => k.state == 0) = true := by
  have hkeys : s.zeroKeys.pack.keys = List.replicate 64 KeySlot.empty := congrArg PackU.keys (State.showPack_pack _)
  rw [hkeys]
  rfl

/-- HALTED with HELM_BEAT stopped and the keys zeroed: what the end of RIDE-THROUGH leaves. -/
theorem State.haltedState_holds (s : State) (hbeat : s.rd MOT_BEAT.RUNNING = 0) :
    (s.zeroKeys.setMode .halted).mode = .halted ∧ (s.zeroKeys.setMode .halted).rd MOT_BEAT.RUNNING = 0 ∧
      (s.zeroKeys.setMode .halted).pack.keys.all (fun k => k.state == 0) = true := by
  have kept := State.setMode_kept (m := .halted) (subMask_refl _) (Kept.refl _ s.zeroKeys)
  refine ⟨State.setMode_mode _ _, ?_, ?_⟩
  · have hleft : (s.zeroKeys.setMode .halted).rd MOT_BEAT.RUNNING = s.zeroKeys.rd MOT_BEAT.RUNNING := kept.rd_keep (by decide +kernel)
    exact hleft.trans ((congrArg (fun r => getF r 0 0) s.zeroKeys_beat).trans hbeat)
  · rw [kept.pack_ rfl]
    exact s.zeroKeys_empty

theorem rideThroughEnd_completes {s : State} (hmode : s.mode = .rideThrough) (hparked : s.allParked = true) (hflash : s.mot.rideFlash = true) :
    completes .rideThroughEnd s (fun t => t.mode = .halted ∧ t.rd MOT_BEAT.RUNNING = 0 ∧ t.pack.keys.all (fun k => k.state == 0) = true) := by
  have hguard : ¬(s.mode != .rideThrough || !s.allParked || !s.mot.rideFlash) = true := by rw [hmode, hparked, hflash]; decide
  refine ⟨_, congrArg Host.Outcome.next (if_neg hguard), State.haltedState_holds _ ?_⟩
  exact (State.rd_wr_addr _ _ MOT_BEAT.RUNNING _ (by decide)).trans (State.stopBeat_running _ _)

/-- Settles O19: the mode by `State.setMode_mode`, the persistent record by `SysU.updPersist_persist`, the rest by what each operation keeps. -/
theorem rideThroughCommands : Obligations.RideThroughCommands := by
  unfold Obligations.RideThroughCommands
  exact ⟨fun _ hrun hanchor => rideThroughEnter_completes hrun hanchor,
    fun _ hmode hclosed => exec_rideThroughEnter_of_bringUp hmode hclosed,
    fun _ hmode hflash => rideThroughFlashDone_completes hmode hflash,
    fun _ hmode hparked hflash => rideThroughEnd_completes hmode hparked hflash⟩

end Sys2Proof.Machine
end

