-- ==== Sys2Proof/Proofs/ResetState.lean ====
section
/-! The state before the first start (R325, R510, R525; O3). -/

-- The kernel's checks of the masks wait for every theorem before them: run them in turn, not each on a thread of its own.
set_option Elab.async false

namespace Sys2Proof.Machine
open Reg

/-- The register file of the reset state lists nothing: each register reads the table's reset value (R525). -/
@[simp] theorem State.reg_reset (a : Nat) : State.reset.reg a = resetVal a := rfl

/-- Every Quay port shows DOWN before the first start. -/
theorem State.reset_portState (p : QPort) : State.reset.rd (QFB_PSTATUS.STATE p) = 1 := by
  revert p
  decide +kernel

/-- No I/O ring is beyond DELETED before the first start (R325). -/
theorem State.reset_ringState (r : Fin 128) : State.reset.ringState r.val = 0 := by
  revert r
  decide +kernel

/-- Settles O3: the registers by the empty register file, the values of the fields by reading the table's reset values. -/
theorem resetState : Obligations.ResetState := by
  unfold Obligations.ResetState
  refine ⟨⟨rfl, rfl, rfl, ?_, rfl⟩, State.reg_reset, ?_, ?_, ?_, ?_, ?_, ?_, ?_, ?_, ?_, State.reset_portState, ?_, State.reset_ringState⟩
  all_goals decide +kernel

end Sys2Proof.Machine
end
